-- ==== Sys2Proof/Word.lean ====
section
/-!
DEFINITION. The word and byte types and the sparse table type. A sparse table lists (key, value) pairs in one canonical
form: keys strictly rising, no value equal to what an unlisted key reads as. Its operations stand in Machine/Tab.lean.
-/
namespace Sys2Proof

/-- A register word: all registers are 32 bits wide (R9). -/
abbrev Word := BitVec 32
/-- A byte of memory. -/
abbrev Byte := BitVec 8
/-- A sparse table by natural-number key. -/
abbrev Tab (α : Type) := List (Nat × α)

/-- A digital ball and the clock since which it has stood at its level (R70). -/
structure PinLevel where
  level : Bool
  since : Nat
  deriving DecidableEq, Repr
/-- What channel A or B of an STO group reads back at its ball, and the clock since which it does (R313). -/
structure StoReadback where
  chB : Bool
  level : Bool
  since : Nat
  deriving DecidableEq, Repr
/-- What the island's clock monitor finds: how far the timing clock and the island oscillator lie from nominal, in ppm (R310). -/
structure ClockDev where
  timing : Int
  island : Int
  deriving DecidableEq, Repr
/-- A supply rail in the order of R378 (VDDIO, VDDA, VDD1, VDD2H, VCORE, VDDQ) that has stood at or below a voltage in mV for a number of ticks (R379). -/
structure RailLow where
  rail : Fin 6
  mv : Nat
  ticks : Nat
  deriving DecidableEq, Repr
/-- A packet that arrives at a link port, byte by byte with its CRC (R401). -/
structure RxPacket where
  port : Fin 3
  bytes : List Nat
  deriving DecidableEq, Repr
/-- An assertion at trip input `input` of `axis`, 0 OC or 1 DS: active from clock `from_` up to before clock `to_` (R70). -/
structure TripPulse where
  axis : Fin 48
  input : Fin 2
  from_ : Nat
  to_ : Nat
  deriving DecidableEq, Repr
/-- An analog ball in µV and the clock since which a comparator sees it there (R91). -/
structure BallLevel where
  uv : Nat
  since : Nat
  deriving DecidableEq, Repr
/-- The reference buffers of a calibration and the independent bandgap that checks them, in µV on one scale (R103). -/
structure RefCheck where
  buffers : List Nat
  bandgap : Nat
  deriving DecidableEq, Repr
/-- The stamps of a lock-step frame on the LEAD: its trigger, and the post of its input descriptor (R269, R272). -/
structure LeadPost where
  trig : Nat
  post : Nat
  deriving DecidableEq, Repr
/-- What a SAFETY packet of the partner carries beside speeds: the groups whose STO it requests and, in a window exchange, its safe-input and group
states (R333). -/
structure PeerStates where
  request : Fin 65536
  window : Option (Fin 65536 × Fin 65536)
  deriving DecidableEq, Repr
/-- A defect that the BIST finds where a row, column or multiply-accumulate unit of R335 may stand in: the kind of spare (0 shared SRAM row, 1 its column,
2 engine scratch row, 3 its column, 4 axis-fabric row, 5 its column, 6 MAC lane, 7 MAC of an observer or Pewter lane, 8 row of a cache array), the instance
and the address to replace. -/
structure BistDefect where
  kind : Fin 9
  inst : Nat
  addr : Nat
  deriving DecidableEq, Repr
/-- What the BIST finds in a block of R339: its duration in µs, the defects that a spare may repair, and how many no spare repairs. -/
structure BistBlock where
  time : Nat := 0
  defects : List BistDefect := []
  other : Nat := 0
  deriving DecidableEq, Repr
/-- What step 1 of a start finds: the LPDDR5X channels that fail training, the units that fail the test after their fence was cleared (by PFENCE bit, axis
channels from 24 on; R354), and, of the device on xSPI port 1, the mirror records with a bad CRC and whether the ageing history's check fails, as
a new, erased or replaced device's does (R364, R437). -/
structure StartFindings where
  channels : Fin 65536 := 0
  units : List (Fin 74) := []
  records : List (Fin 16384) := []
  history : Bool := false
  deriving DecidableEq, Repr
/-- The three phase-voltage balls of an axis in µV (R86). -/
structure PhaseLevels where
  a : Int
  b : Int
  c : Int
  deriving DecidableEq, Repr

/-- A lane of `n` that completes a job, and the outputs it gives if a defect makes them other than the network's (R183, R185). -/
structure LaneEnd (n : Nat) where
  lane : Fin n
  defect : Option (List Int)
  deriving DecidableEq, Repr

/-- What the partner of a pair tells of its context of the same number at a lock-step ARM: its program's DIGEST and its S_in (R270). -/
structure PartnerCtx where
  digest : List Nat
  sIn : List Nat
  deriving DecidableEq, Repr

end Sys2Proof
end

