-- ==== Sys2Proof/Syntax.lean ====
section
/-!
DEFINITION. The commands the block takes, as data: one constructor per row of spec/opcode_table.json.
Operands: `m` is the master of a bus access (R18); unit indices are Fin of the unit's range (R17); `v` is the word written;
raw samples, levels and stamps are what the pins or converters deliver with the event.
-/
namespace Sys2Proof

/-- The commands of the block: one constructor per row of spec/opcode_table.json, in the table's order. -/
inductive Instr where
  /-- REGISTER_WRITE (R12): A write to a register that has no row of its own updates its fields by their access types, with the alignment, lock and reserved-encoding checks. -/
  | registerWrite (m : Fin 64) (a : Nat) (v : Word)
  /-- READ_LO_LATCH (R15): A read of a _LO register latches the matching _HI for the reading master. -/
  | readLoLatch (m : Fin 64) (a : Nat)
  /-- READ_HI (R15): A read of a _HI register returns and consumes the master's latch, or returns the live value when no latch is held. -/
  | readHi (m : Fin 64) (a : Nat)
  /-- WRITE_HI (R15): A write of a _HI register makes the held low word and the high word take effect together in one clock. -/
  | writeHi (m : Fin 64) (a : Nat) (v : Word)
  /-- TB_ANGLE_LO_READ (R52): A read of TB.ANGLE_LO latches the angle, speed and stamp of one timebase update for the reading master. -/
  | tbAngleLoRead (m : Fin 64) (t : Fin 64)
  /-- PWM_ACT_PERIOD_READ (R78): A read of AX.PWM_ACT_PERIOD latches the applied widths and carries of one boundary for the reading master. -/
  | pwmActPeriodRead (m : Fin 64) (n : Fin 48)
  /-- OBS_EST_THETA_READ (R193): A read of AX.OBS_EST_THETA latches all delivered estimates of one loop step for the reading master. -/
  | obsEstThetaRead (m : Fin 64) (n : Fin 48)
  /-- DT_STEP (R31): A write of DT.STEP_HI adds the signed step to DEVICE TIME, or refuses it while an axis, frame or slot depends on continuity. -/
  | dtStep (m : Fin 64) (v : Word)
  /-- DT_RATE_WRITE (R30): A write of DT.RATE trims the timing clock, holding a value beyond ±100 ppm at the limit with RATE_CLAMP. -/
  | dtRateWrite (m : Fin 64) (v : Word)
  /-- TIME (R405): A TIME packet exchange with the neighbour yields a new offset to the master, shown in DT.OFFSET and used to trim the rate. -/
  | time (p : Fin 3) (t1 t2 t3 t4 : Nat) (serdes : Nat) (nb : Int) (peer : Bool)
  /-- ALIGN_TIMEOUT (R32): When no offset measurement has arrived for 1 ms, ALIGNED clears. -/
  | alignTimeout
  /-- TB_SOFTWARE_UPDATE (R40): A write of TB.ANGLE_HI on a software-sourced timebase updates it with the current SPEED, stamped with that clock. -/
  | tbSoftwareUpdate (m : Fin 64) (t : Fin 64) (v : Word)
  /-- TACH_PULSE (R414): A qualified tachometer edge is stamped, judged against the previous interval, and corrects its source-3 timebases. -/
  | tachPulse (k : Fin 8) (level : PinLevel)
  /-- SSI_FRAME (R415): An SSI frame starts at its period, latches the position at the first falling clock edge and updates the timebase or is discarded. -/
  | ssiFrame (k : Fin 8) (start : Nat) (stamp : Nat) (raw : Nat) (parity : Bool) (idle : Bool)
  /-- LSYNC_EDGE (R416): A filtered rising line-sync edge is judged against the reference edge and period and, when qualified, updates the mains timebase. -/
  | lsyncEdge (level : PinLevel)
  /-- TB_SOURCE_SILENT (R42): When a source has delivered no update for 4 expected intervals, the timebase switches to its fallback or to HOLD. -/
  | tbSourceSilent (t : Fin 64)
  /-- TB_HOLD_EXPIRY (R42): After HOLD × 4 ms in HOLD the timebase freezes its angle and enters LOST. -/
  | tbHoldExpiry (t : Fin 64)
  /-- TB_RESTART (R439): A write that changes a timebase's source configuration or ratio puts it in OFF and checks the configuration again. -/
  | tbRestart (m : Fin 64) (t : Fin 64) (ratio : Bool) (v : Word)
  /-- SCH_CFG_WRITE (R45): A write of SCH.CFG enables, disables or freshly arms a schedule slot after checking its configuration. -/
  | schCfgWrite (m : Fin 64) (k : Fin 256) (v : Word)
  /-- SCH_TARGET_WRITE (R49): A write of SCH.TARGET_HI replaces the slot's target, at once for a TIME slot and at the next prediction for an ANGLE slot. -/
  | schTargetWrite (m : Fin 64) (k : Fin 256) (v : Word)
  /-- SLOT_FIRE (R48): A slot fires when DEVICE TIME reaches its prediction or target, performs its action, stamps it and advances or disables itself. -/
  | slotFire (k : Fin 256)
  /-- AXIS_ENABLE (R57): A write of AX.PWM_CTRL.EN = 1 starts the axis with its first boundary 4 clocks later or at AX.PWM_START, or is refused. -/
  | axisEnable (m : Fin 64) (n : Fin 48) (v : Word)
  /-- AXIS_DISABLE (R75): A write of EN = 0 puts all six outputs at their inactive level in the next clock and abandons the loop step. -/
  | axisDisable (m : Fin 64) (n : Fin 48) (v : Word)
  /-- PWM_DUTY_WRITE (R64): A write of a duty register is tagged with its capture interval, or refused with SH_REFUSED while the current loop owns the duties. -/
  | pwmDutyWrite (m : Fin 64) (n : Fin 48) (j : Fin 3) (v : Word)
  /-- PWM_COMMIT (R61): A write of AX.PWM_COMMIT.COMMIT = 1 requests a commit that waits for the next capture clock. -/
  | pwmCommit (m : Fin 64) (n : Fin 48)
  /-- PWM_CAPTURE (R62): At the capture clock 4 clocks before a boundary a pending commit copies and checks the shadow pair, or is refused. -/
  | pwmCapture (n : Fin 48)
  /-- PWM_PERIOD_BOUNDARY (R66): At each period boundary the captured pair becomes active and each phase's width and volt-second carry are computed. -/
  | pwmPeriodBoundary (n : Fin 48)
  /-- DL_CAL_MEASURE (R58): Every 50 µs the replica delay line is measured and a new tap table is prepared, or DL_CAL_ERR is set. -/
  | dlCalMeasure (ch : Fin 50) (elems : Fin 128)
  /-- TRIP_QUALIFIED (R71): A trip input active for FILT + 1 clocks outside blanking is latched, stamped and acted on by its ACTION. -/
  | tripQualified (n : Fin 48) (oc ds : PinLevel)
  /-- PXB_MAP_WRITE (R76): A write of PXB.S0_MAP or S1_MAP starts a spare switch, or is refused with PXB.STATUS.ERR. -/
  | pxbMapWrite (m : Fin 64) (sp : Fin 2) (v : Word)
  /-- PXB_SWITCH_COMPLETE (R77): At most 2 µs after the map write the switch completes, the carry is zeroed and a recorder event names axis and spare. -/
  | pxbSwitchComplete (sp : Fin 2)
  /-- LOOP_STEP (R107): At the sampling instant the axis samples its currents, evaluates observers, runs the current and speed loops and latches a commit. -/
  | loopStep (n : Fin 48) (ra rb rk : Int)
  /-- PV_COMPARATOR_CHANGE (R87): A synchronised phase-voltage comparator change reaches the commutation logic with its stamp. -/
  | pvComparatorChange (n : Fin 48) (j : Fin 3) (v : PhaseLevels)
  /-- PV_DAC_WRITE (R88): A write of a phase-voltage DAC holds the comparator output while the DAC settles, or is refused while the commutation logic owns it. -/
  | pvDacWrite (m : Fin 64) (n : Fin 48) (j : Fin 3) (v : Word)
  /-- PV_DAC_SETTLED (R88): 64 ticks after a DAC write the held output is released, a changed level being passed on with SETTLE. -/
  | pvDacSettled (n : Fin 48) (j : Fin 3) (v : PhaseLevels)
  /-- DCB_SAMPLE_DELIVERED (R149): A delivered DC-bus sample drives the chopper, hold controller, threshold 2, undervoltage, bus limits and energy account. -/
  | dcbSampleDelivered (b : Fin 8) (stamp : Nat) (raw : Fin 65536)
  /-- OV_COMPARATOR (R90): An overvoltage comparator output change reaches the bus logic and, when active, reaches threshold 2. -/
  | ovComparator (b : Fin 8) (uv : Nat)
  /-- CHFB_CHANGE (R91): The filtered chopper current-present signal changes at the bus logic. -/
  | chfbChange (b : Fin 8) (v : BallLevel)
  /-- CHOP_NO_CURRENT (R152): With the gate high and no current for 20 µs, the chopper is declared faulty and the gate driven low. -/
  | chopNoCurrent (b : Fin 8)
  /-- CHOP_OVERLOAD (R152): With the gate high for MAX_ON ms, the chopper is declared faulty with CAUSE OVERLOAD. -/
  | chopOverload (b : Fin 8)
  /-- CHOP_STUCK (R152): With the gate low and current present for 20 µs, the chopper is declared stuck on and reported. -/
  | chopStuck (b : Fin 8)
  /-- CHOP_FAULT_CLEAR (R153): Clearing BUS.STATUS.CHOP_FAULT takes effect only when the last sample is at or below TH1_OFF. -/
  | chopFaultClear (m : Fin 64) (b : Fin 8)
  /-- T2_CLEAR (R160): Clearing BUS.STATUS.T2 takes effect only below TH1_OFF with the overvoltage comparator inactive. -/
  | t2Clear (m : Fin 64) (b : Fin 8)
  /-- BUS_TH_WRITE (R148): A write to BUS.TH1, TH2 or UV that breaks the threshold order is refused with CFG_REFUSED. -/
  | busThWrite (m : Fin 64) (b : Fin 8) (which : Fin 3) (v : Word)
  /-- ACC_CLEAR (R166): A write of BUS.ACC_CTRL.CLEAR zeroes the energy accounts at the next delivered sample. -/
  | accClear (m : Fin 64) (b : Fin 8) (v : Word)
  /-- ACC_SNAP (R166): A write of BUS.ACC_CTRL.SNAP copies the six energy quantities into the registers in one clock. -/
  | accSnap (m : Fin 64) (b : Fin 8) (v : Word)
  /-- ACC_AUTO_SNAP (R166): Every AUTO ms the energy accounts are snapshotted. -/
  | accAutoSnap (b : Fin 8)
  /-- VIB_SAMPLE (R92): A vibration channel delivers a stamped sample to Babbitt and its monitor set. -/
  | vibSample (c : Fin 32) (stamp : Nat) (raw : Int)
  /-- VIB_RESTART (R95): A configuration change, power-up, calibration or time step restarts a vibration channel and its Babbitt rings. -/
  | vibRestart (m : Fin 64) (c : Fin 32) (notch : Bool) (v : Word)
  /-- VIB_SETTLED (R95): When the settling time has passed the channel clears SETTLING and delivers samples again. -/
  | vibSettled (c : Fin 32)
  /-- INTLV_LOCK (R97): The paired channels' offset, gain and skew estimates converge and INTLV_LOCK sets. -/
  | intlvLock (c : Fin 32)
  /-- HK_START (R100): A write of HK.CTRL.START starts a sequencer pass, or sets START_OVR while it runs. -/
  | hkStart (m : Fin 64) (k : Fin 4) (v : Word)
  /-- HK_STOP (R100): A write of HK.CTRL.STOP idles the sequencer after the current entry. -/
  | hkStop (m : Fin 64) (k : Fin 4) (v : Word)
  /-- HK_CONVERSION_DONE (R99): A housekeeping conversion completes and the sequencer records the result or moves to the next conversion or entry. -/
  | hkConversionDone (k : Fin 4) (raw : Int)
  /-- HK_DELAY_EXPIRY (R99): An entry's DELAY ends and the sequencer starts the next entry or wraps. -/
  | hkDelayExpiry (k : Fin 4)
  /-- HK_URGENT (R101): An urgent request converts one channel ahead of the sequence, aborting a conversion in progress, or is refused with URG_OVF. -/
  | hkUrgent (m : Fin 64) (k : Fin 4) (safety : Bool) (v : Word)
  /-- CONVERTER_WAKE_DONE (R102): 2 µs after its wake event a converter leaves power-down and serves held work. -/
  | converterWakeDone (cur : Bool) (n : Fin 48)
  /-- CAL_CMD_START (R103): A write of MF.CAL_CMD.START begins self-calibration of the selected classes, or is refused while busy. -/
  | calCmdStart (m : Fin 64) (v : Word)
  /-- CAL_COMPLETE (R103): Calibration ends, checks the factors against their limits, stores them and sets DONE. -/
  | calComplete (ref : RefCheck) (factors : List (Nat × Int × Int))
  /-- MON_SNAP (R106): A write of MON.CTRL.SNAP copies the monitor set into its registers and restarts it. -/
  | monSnap (m : Fin 64) (k : Fin 424) (v : Word)
  /-- MON_AUTO_SNAP (R106): Every AUTO ms the monitor set is snapshotted. -/
  | monAutoSnap (k : Fin 424)
  /-- CMP_APPLY (R114): A write of CMP_CFG.APPLY makes the shadow coefficients take effect together at the next step. -/
  | cmpApply (m : Fin 64) (n : Fin 48) (which : Fin 3) (v : Word)
  /-- SPD_PRESET (R128): A write of SPD_CTRL.PRESET sets REF to the measured speed at the next speed-loop step. -/
  | spdPreset (m : Fin 64) (n : Fin 48) (v : Word)
  /-- SPD_DERATE_WRITE (R329): A write of AX.SPD_DERATE sets the torque and acceleration factors, capped by a safety DERATE reaction. -/
  | spdDerateWrite (m : Fin 64) (n : Fin 48) (v : Word)
  /-- LW_OPEN (R133): At t_open a planned window forces the listening phase's outputs inactive and writes its DAC. -/
  | lwOpen (n : Fin 48)
  /-- CROSSING_QUALIFIED (R135): QUAL + 1 valid clocks at the new level qualify a crossing, which the correction stage accepts or rejects. -/
  | crossingQualified (n : Fin 48) (phase : Fin 3) (rising : Bool) (tx : Nat)
  /-- LW_CLOSE (R136): At t_close the window ends with its outcome and the phase resumes switching. -/
  | lwClose (n : Fin 48) (at_ : Nat)
  /-- START_GO (R140): A write of AX.CMT_START.GO enters LISTEN, or is refused with GO_REFUSED. -/
  | startGo (m : Fin 64) (n : Fin 48)
  /-- START_ABORT (R145): A write of AX.CMT_START.ABORT ends the start in the next clock and clears EN. -/
  | startAbort (m : Fin 64) (n : Fin 48)
  /-- LISTEN_END (R142): After four consistent crossings or LISTEN_T ms, LISTEN ends and the start is decided. -/
  | listenEnd (n : Fin 48)
  /-- WAIT_TIMEOUT (R142): After WAIT_MAX × 100 ms of waiting the start ends with WAIT_TIMEOUT. -/
  | waitTimeout (n : Fin 48)
  /-- BRAKE_END (R142): After BRAKE_T ms of braking the start listens again or ends with BRAKE_EXHAUSTED. -/
  | brakeEnd (n : Fin 48)
  /-- ALIGN_END (R144): After ALIGN_T ms of alignment the start enters OPEN. -/
  | alignEnd (n : Fin 48)
  /-- HANDOVER_FAIL (R144): OPEN_T × 10 ms after OPEN began without handover the start ends with HANDOVER_FAIL. -/
  | handoverFail (n : Fin 48)
  /-- OBS_LOAD_GO (R172): A write of OBS.LOAD_CMD.GO makes the loader check the image for admission. -/
  | obsLoadGo (m : Fin 64) (v : Word)
  /-- OBS_LOAD_DONE (R172): The loader completes with DONE or REFUSED and its code, and admits the network. -/
  | obsLoadDone
  /-- LOAD_CMD_REMOVE (R175): A write of OBS.LOAD_CMD.REMOVE starts removal of the named network. -/
  | loadCmdRemove (m : Fin 64) (v : Word)
  /-- OBS_REMOVE_DONE (R175): At most 20 µs after the write the network is removed at an evaluation boundary. -/
  | obsRemoveDone
  /-- OBS_JOB_COMPLETE (R178): An observer lane completes a job and frees itself for the next waiting job. -/
  | obsJobComplete (i : LaneEnd 12)
  /-- PEWTER_CHECK_COMPLETE (R183): A Pewter lane completes a check of a job's network. -/
  | pewterCheckComplete (i : LaneEnd 4)
  /-- OBS_LATE (R182): A FOREGROUND job not complete at t_s + 488 ticks makes the evaluation late. -/
  | obsLate (n : Fin 48)
  /-- OBS_LANE_FENCE (R182): A write of OBS.LANE_FENCE fences lanes and recomputes the plan within 20 µs. -/
  | obsLaneFence (m : Fin 64) (v : Word)
  /-- FORCE_CLS (R188): A write of AX.OBS_CFG.FORCE_CLS = 1 puts the axis in CLASSICAL mode. -/
  | forceCls (m : Fin 64) (n : Fin 48) (v : Word)
  /-- RESUME (R188): A write of AX.OBS_CFG.RESUME leaves CLASSICAL mode and recomputes the plan. -/
  | resume (m : Fin 64) (n : Fin 48) (v : Word)
  /-- INF_ENG_FENCE (R195): A write of INF.ENG_FENCE fences physical engines, moves their logical engines and recomputes the plan. -/
  | infEngFence (m : Fin 64) (v : Word)
  /-- ENG_CTRL_RESET (R202): A write of ENG.CTRL.RESET resets a physical engine, withholding its frames and losing declared state. -/
  | engCtrlReset (m : Fin 64) (p : Fin 8) (v : Word)
  /-- TILE_ASSIGN (R441): A tile takes a free thread slot and starts staging its operands. -/
  | tileAssign (p : Fin 8)
  /-- TILE_ISSUE (R212): When the issue slot is free the engine gives it to the ready tile that dispatch selects. -/
  | tileIssue (p : Fin 8)
  /-- TILE_RETIRE (R200): A tile retires, releases its thread slot and marks its outputs ready in the scoreboard. -/
  | tileRetire (p : Fin 8)
  /-- CTX_LOAD (R204): Command LOAD checks the program image and makes the context LOADED with its initial declared state. -/
  | ctxLoad (m c : Fin 64)
  /-- CTX_ARM (R210): Command ARM checks partition, storage and outputs and admits the context under the plan. -/
  | ctxArm (m c : Fin 64) (fresh : Bool)
  /-- CTX_DISARM (R201): Command DISARM makes the context LOADED once its frames have ended. -/
  | ctxDisarm (m c : Fin 64)
  /-- CTX_ABORT (R201): Command ABORT ends the frame in progress with ABORTED and discards a latched trigger. -/
  | ctxAbort (m c : Fin 64)
  /-- CTX_UNLOAD (R201): Command UNLOAD frees the context and discards its declared state. -/
  | ctxUnload (m c : Fin 64)
  /-- CTX_SNAP (R444): Command SNAP copies the committed declared state and program digest to CTX.SNAP. -/
  | ctxSnap (m c : Fin 64)
  /-- CTX_RESTORE (R201): Command RESTORE loads declared state from a snapshot for the same program. -/
  | ctxRestore (m c : Fin 64)
  /-- CTX_START (R201): Command START triggers a frame of the ARMED context. -/
  | ctxStart (m c : Fin 64)
  /-- CTX_CMD_COMPLETE (R201): A context command finishes, sets DONE or REFUSED with RCODE and writes a recorder event. -/
  | ctxCmdComplete (c : Fin 64) (partner : Option PartnerCtx)
  /-- Q_POST (R206): A software POST on Q.OP posts N descriptors if credits allow. -/
  | qPost (m : Fin 64) (q : Fin 1024) (n : Fin 8192)
  /-- Q_TAKE (R206): A software TAKE on Q.OP takes N posted descriptors, or sets UNDERFLOW. -/
  | qTake (m : Fin 64) (q : Fin 1024) (n : Fin 8192)
  /-- Q_RETIRE (R206): A software RETIRE on Q.OP retires N taken descriptors and returns their credits, or sets UNDERFLOW. -/
  | qRetire (m : Fin 64) (q : Fin 1024) (n : Fin 8192)
  /-- Q_CFG_WRITE (R205): A write of Q.CFG reconfigures an empty queue and resets its indices and credits, or sets CFG_ERR. -/
  | qCfgWrite (m : Fin 64) (q : Fin 1024) (v : Word)
  /-- Q_BASE_WRITE (R205): A write of Q.BASE_HI moves an empty queue's ring, or leaves it unchanged with CFG_ERR. -/
  | qBaseWrite (m : Fin 64) (q : Fin 1024) (v : Word)
  /-- FRAME_END (R215): When the last thread retires the frame drains its queues, commits state, writes its status record and posts its RESULT descriptor. -/
  | frameEnd (c : Fin 64)
  /-- FRAME_TIMEOUT (R217): A frame not ended WDOG ms after its trigger ends with TIMEOUT and its threads are discarded. -/
  | frameTimeout (c : Fin 64)
  /-- UTIL_SNAP (R219): A write of INF.UTIL_CTRL.SNAP copies every engine's utilisation counters and restarts them. -/
  | utilSnap (m : Fin 64) (v : Word)
  /-- UTIL_AUTO_SNAP (R219): Every AUTO ms the utilisation counters are snapshotted. -/
  | utilAutoSnap
  /-- MATMUL (R213): Instruction MATMUL computes a matrix product in fixed accumulation order. -/
  | matmul (c : Fin 64) (i : Fin 65536)
  /-- MATMUL_BIAS (R227): Instruction MATMUL_BIAS computes a matrix product and adds the bias after the last product. -/
  | matmulBias (c : Fin 64) (i : Fin 65536)
  /-- CONV1D (R213): Instruction CONV1D computes a strided, dilated one-dimensional convolution. -/
  | conv1d (c : Fin 64) (i : Fin 65536) (stride dil pad : Nat)
  /-- CONV2D (R213): Instruction CONV2D computes a two-dimensional convolution. -/
  | conv2d (c : Fin 64) (i : Fin 65536) (stride dil pad : Nat)
  /-- DWCONV (R213): Instruction DWCONV computes a depthwise convolution. -/
  | dwconv (c : Fin 64) (i : Fin 65536) (stride dil pad : Nat)
  /-- OUTLIER_MM (R238): Instruction OUTLIER_MM adds the product of the outlier side tensor and wide weight rows to a MATMUL result. -/
  | outlierMm (c : Fin 64) (i : Fin 65536)
  /-- HADAMARD (R237): Instruction HADAMARD rotates blocks of 2^K elements by butterfly stages. -/
  | hadamard (c : Fin 64) (i : Fin 65536)
  /-- ADD (R226): Instruction ADD adds elementwise with one rounding. -/
  | add (c : Fin 64) (i : Fin 65536)
  /-- SUB (R226): Instruction SUB subtracts elementwise with one rounding. -/
  | sub (c : Fin 64) (i : Fin 65536)
  /-- MUL (R226): Instruction MUL multiplies elementwise with one rounding. -/
  | mul (c : Fin 64) (i : Fin 65536)
  /-- MAX (R223): Instruction MAX takes the elementwise maximum. -/
  | max (c : Fin 64) (i : Fin 65536)
  /-- MIN (R223): Instruction MIN takes the elementwise minimum. -/
  | min (c : Fin 64) (i : Fin 65536)
  /-- ABS (R226): Instruction ABS takes the elementwise magnitude. -/
  | abs (c : Fin 64) (i : Fin 65536)
  /-- SCALE (R226): Instruction SCALE computes a × s + o per channel with one rounding. -/
  | scale (c : Fin 64) (i : Fin 65536) (axis : Fin 4)
  /-- CLAMP (R226): Instruction CLAMP limits elements to per-channel bounds. -/
  | clamp (c : Fin 64) (i : Fin 65536) (axis : Fin 4)
  /-- CMP (R225): Instruction CMP compares elements into a mask. -/
  | cmp (c : Fin 64) (i : Fin 65536) (rel : Fin 6)
  /-- SELECT (R226): Instruction SELECT chooses elements by mask. -/
  | select (c : Fin 64) (i : Fin 65536)
  /-- RELU (R226): Instruction RELU applies the RELU activation by its fixed procedure. -/
  | relu (c : Fin 64) (i : Fin 65536)
  /-- LEAKY (R226): Instruction LEAKY applies the leaky activation by its fixed procedure. -/
  | leaky (c : Fin 64) (i : Fin 65536)
  /-- TANH (R226): Instruction TANH applies tanh by its fixed procedure. -/
  | tanh (c : Fin 64) (i : Fin 65536)
  /-- SIGMOID (R226): Instruction SIGMOID applies the sigmoid by its fixed procedure. -/
  | sigmoid (c : Fin 64) (i : Fin 65536)
  /-- GELU (R226): Instruction GELU applies GELU by its fixed procedure. -/
  | gelu (c : Fin 64) (i : Fin 65536)
  /-- EXP (R226): Instruction EXP computes the exponential by its fixed procedure. -/
  | exp (c : Fin 64) (i : Fin 65536)
  /-- LOG (R226): Instruction LOG computes the logarithm by its fixed procedure. -/
  | log (c : Fin 64) (i : Fin 65536)
  /-- RSQRT (R226): Instruction RSQRT computes the reciprocal square root by its fixed procedure. -/
  | rsqrt (c : Fin 64) (i : Fin 65536)
  /-- RECIP (R226): Instruction RECIP computes the reciprocal by its fixed procedure. -/
  | recip (c : Fin 64) (i : Fin 65536)
  /-- SOFTMAX (R213): Instruction SOFTMAX takes the maximum and then an ordered sum. -/
  | softmax (c : Fin 64) (i : Fin 65536) (axis : Fin 4)
  /-- LAYERNORM (R213): Instruction LAYERNORM normalises by ordered mean and variance. -/
  | layernorm (c : Fin 64) (i : Fin 65536) (axis : Fin 4)
  /-- RMSNORM (R213): Instruction RMSNORM normalises by the ordered mean of squares. -/
  | rmsnorm (c : Fin 64) (i : Fin 65536) (axis : Fin 4)
  /-- REDUCE_SUM (R213): Instruction REDUCE_SUM sums in ascending index. -/
  | reduceSum (c : Fin 64) (i : Fin 65536) (mask : Fin 16)
  /-- REDUCE_SUM_U (R264): Instruction REDUCE_SUM_U sums in arrival order of tiles, outside the determinism contract. -/
  | reduceSumU (c : Fin 64) (i : Fin 65536) (mask : Fin 16) (order : List Nat)
  /-- REDUCE_MAX (R225): Instruction REDUCE_MAX takes the extremum, NaN counting as largest. -/
  | reduceMax (c : Fin 64) (i : Fin 65536) (mask : Fin 16)
  /-- REDUCE_MIN (R225): Instruction REDUCE_MIN takes the minimum, NaN counting as largest. -/
  | reduceMin (c : Fin 64) (i : Fin 65536) (mask : Fin 16)
  /-- ARGMAX (R213): Instruction ARGMAX returns the lowest index of the maximum. -/
  | argmax (c : Fin 64) (i : Fin 65536) (mask : Fin 16)
  /-- ARGMIN (R213): Instruction ARGMIN returns the lowest index of the minimum. -/
  | argmin (c : Fin 64) (i : Fin 65536) (mask : Fin 16)
  /-- CAST (R224): Instruction CAST converts formats by rounding and saturation. -/
  | cast (c : Fin 64) (i : Fin 65536)
  /-- QUANT (R235): Instruction QUANT converts wide values to narrow codes with the quantiser's committed scale. -/
  | quant (c : Fin 64) (i : Fin 65536)
  /-- DEQUANT (R235): Instruction DEQUANT converts codes back with the committed scale and offset. -/
  | dequant (c : Fin 64) (i : Fin 65536)
  /-- QSTAT (R231): Instruction QSTAT writes the channel extremes into the working history slot. -/
  | qstat (c : Fin 64) (i : Fin 65536)
  /-- COPY (R226): Instruction COPY copies a tensor. -/
  | copy (c : Fin 64) (i : Fin 65536)
  /-- TRANSPOSE (R226): Instruction TRANSPOSE changes layout. -/
  | transpose (c : Fin 64) (i : Fin 65536) (perm : List Nat)
  /-- SLICE (R226): Instruction SLICE extracts part of a tensor. -/
  | slice (c : Fin 64) (i : Fin 65536) (starts steps : List Nat)
  /-- CONCAT (R226): Instruction CONCAT joins tensors. -/
  | concat (c : Fin 64) (i : Fin 65536) (axis : Fin 4)
  /-- PAD (R226): Instruction PAD pads a tensor. -/
  | pad (c : Fin 64) (i : Fin 65536) (before : List Nat) (value : Nat)
  /-- GATHER (R213): Instruction GATHER gathers by index. -/
  | gather (c : Fin 64) (i : Fin 65536) (axis : Fin 4)
  /-- SCATTER (R213): Instruction SCATTER scatters by index, the highest source index winning. -/
  | scatter (c : Fin 64) (i : Fin 65536) (axis : Fin 4)
  /-- SCATTER_ADD (R213): Instruction SCATTER_ADD adds at duplicate indices in ascending source index. -/
  | scatterAdd (c : Fin 64) (i : Fin 65536) (axis : Fin 4)
  /-- SCATTER_ADD_U (R264): Instruction SCATTER_ADD_U adds at duplicate indices in arrival order. -/
  | scatterAddU (c : Fin 64) (i : Fin 65536) (axis : Fin 4) (order : List Nat)
  /-- DMA (R208): Instruction DMA posts a DMA descriptor and waits for its completion. -/
  | dma (c : Fin 64) (i : Fin 65536) (q done : Fin 1024) (src dst len : Nat)
  /-- STATE_LOAD (R202): Instruction STATE_LOAD reads the committed copy of declared state. -/
  | stateLoad (c : Fin 64) (i : Fin 65536)
  /-- STATE_STORE (R202): Instruction STATE_STORE writes the working copy of declared state. -/
  | stateStore (c : Fin 64) (i : Fin 65536)
  /-- WAIT (R445): Instruction WAIT takes one descriptor from its queue, waiting until one is posted. -/
  | wait (c : Fin 64) (i : Fin 65536)
  /-- POST (R445): Instruction POST posts a DATA or TOKEN descriptor, waiting for a credit. -/
  | post (c : Fin 64) (i : Fin 65536)
  /-- RETIRE (R445): Instruction RETIRE retires COUNT taken descriptors. -/
  | retire (c : Fin 64) (i : Fin 65536)
  /-- BARRIER (R213): Instruction BARRIER waits until every named logical engine reaches it. -/
  | barrier (c : Fin 64) (i : Fin 65536) (mask : Fin 256)
  /-- RESULT (R443): Instruction RESULT forms the result block and writes it into the output record for CODE OK. -/
  | result (c : Fin 64) (i : Fin 65536)
  /-- NOP (R213): Instruction NOP does nothing. -/
  | nop (c : Fin 64) (i : Fin 65536)
  /-- BAB_IN_CFG_WRITE (R244): A write to an input's BAB.IN_CFG, IN_BAND or IN_RING restarts its ring. -/
  | babInCfgWrite (m : Fin 64) (v : Fin 32) (k : Fin 3) (w : Word)
  /-- BAB_CTX_ENABLE (R259): A write of BAB.CTX_CFG.EN = 1 checks the configuration, copies the defect table and enables frames, or sets CFG_ERR. -/
  | babCtxEnable (m c : Fin 64) (w : Word)
  /-- BAB_CLOSE_POSTED (R252): Babbitt finishes a close, writes the frame and posts its DATA descriptor to the context's input queue. -/
  | babClosePosted
  /-- BAB_RESULT_APPLY (R256): After a frame ends the result path writes deratings, raises alarms or counts a miss. -/
  | babResultApply (c : Fin 64)
  /-- BAB_STALE (R257): STALE ms without an applied result is treated as a miss with STALE set. -/
  | babStale (c : Fin 64)
  /-- LINK_COPY (R269): A COPY packet delivers a lock-step frame buffer to the FOLLOW, which starts the frame and posts its descriptor. -/
  | linkCopy (c : Fin 64) (frame stamp : Nat) (type_ : Fin 256) (param : Nat) (user data : List Nat)
  /-- COMPARE (R271): A comparison packet is matched with the local digest, committing the frame or starting a re-run. -/
  | compare (c : Fin 64) (kind : Fin 2) (code : Fin 256) (frame : Nat) (digest : List Nat)
  /-- TWIN_PARTNER_TIMEOUT (R272): No partner packet TMO µs after the local digest withholds the frame and reports the pair lost. -/
  | twinPartnerTimeout (c : Fin 64)
  /-- TWIN_COPY_TIMEOUT (R272): No copy at the FOLLOW within TMO µs of the LEAD's post ends the frame with NO_INPUT. -/
  | twinCopyTimeout (c : Fin 64) (frame : Nat) (stamp : LeadPost)
  /-- TWIN_ARM_TIMEOUT (R270): ARM with TWIN = 1 is refused with SNAPSHOT when the partner does not match within TMO µs. -/
  | twinArmTimeout (c : Fin 64)
  /-- TRACE_ARM (R274): A write of CTX.TRACE_CTRL.ARM traces the next frame with a digest per operation. -/
  | traceArm (m c : Fin 64) (v : Word)
  /-- MEMORY_ACCESS (R288): A master's memory or register access is checked against its access table and served with ECC correction or an error response. -/
  | memoryAccess (m : Fin 64) (a n : Nat) (write : Bool) (data : List Nat) (errs : List (Nat × Nat))
  /-- PATROL_SCRUB (R283): The patrol scrubber reads the next block and corrects or logs its errors. -/
  | patrolScrub (a : Nat) (errs : List (Nat × Nat))
  /-- AT_WINDOW_WRITE (R289): A write of an access-table window takes effect before its response, or is refused when the target is locked. -/
  | atWindowWrite (m : Fin 64) (t : Fin 10) (k : Fin 1024) (w : Fin 3) (v : Word)
  /-- AT_CTRL_LOCK (R289): A write of AT.CTRL.LOCK freezes a target's windows until system reset. -/
  | atCtrlLock (m : Fin 64) (t : Fin 10) (v : Word)
  /-- CH_RETIRE_WRITE (R286): A write of MEM.CH_RETIRE sets retirement bits that apply from the next start. -/
  | chRetireWrite (m : Fin 64) (v : Word)
  /-- FW_LOAD (R294): A write of SUP.FW_CMD.LOAD starts the download and verification of a firmware image, or is refused. -/
  | fwLoad (m : Fin 64) (v : Word)
  /-- FW_READY (R294): The firmware completes its self-check, READY sets and STATE becomes RUNNING. -/
  | fwReady (ok : Bool)
  /-- FW_TIMEOUT (R295): READY not set 150 ms after LOAD fails the download with TIMEOUT. -/
  | fwTimeout
  /-- SUP_RESET (R297): A write of SUP.CTRL.SUP_RESET resets the supervisor, clearing the firmware and every axis's EN. -/
  | supReset (m : Fin 64) (v : Word)
  /-- SUP_WATCHDOG (R297): A supervisor watchdog not serviced for 10 ms causes a supervisor reset. -/
  | supWatchdog
  /-- SUP_LOCKSTEP (R297): A lock-step mismatch of the supervisor cores causes a supervisor reset and the safety reaction. -/
  | supLockstep
  /-- MB_REQUEST_WRITE (R298): A write to a request buffer stores the word, or is refused with WR_REFUSED while pending or busy. -/
  | mbRequestWrite (m : Fin 64) (b : Fin 16) (k : Fin 64) (v : Word)
  /-- MB_DOORBELL (R298): A write of MB.DOORBELL stamps and submits the request, or is refused. -/
  | mbDoorbell (m : Fin 64) (b : Fin 16) (v : Word)
  /-- MB_TAKE (R299): The supervisor takes a pending request in doorbell order and begins its command. -/
  | mbTake
  /-- MB_REPLY (R298): The supervisor writes the reply, sets REPLY and raises the mailbox interrupt. -/
  | mbReply (b : Fin 16)
  /-- MB_COMMAND_TIMEOUT (R300): A command not complete within its bound is replied with STATUS TIMEOUT. -/
  | mbCommandTimeout (b : Fin 16)
  /-- MB_ACK (R298): A write of MB.ACK clears REPLY and makes the mailbox idle. -/
  | mbAck (m : Fin 64) (b : Fin 16) (v : Word)
  /-- HELLO (R306): Command HELLO opens a session at a negotiated version. -/
  | hello (b : Fin 16)
  /-- PING (R304): Command PING returns its payload. -/
  | ping (b : Fin 16)
  /-- AXIS_RELEASE (R331): Command AXIS_RELEASE asks the safety manager to release an axis, or returns its refusal code. -/
  | axisRelease (b : Fin 16)
  /-- AXIS_WITHHOLD (R304): Command AXIS_WITHHOLD withdraws an axis's release. -/
  | axisWithhold (b : Fin 16)
  /-- PXB_MAP (R304): Command PXB_MAP writes a spare map and replies when the switch completes. -/
  | pxbMap (b : Fin 16)
  /-- CAL_START (R304): Command CAL_START runs self-calibration and replies after DONE. -/
  | calStart (b : Fin 16)
  /-- OBS_LOAD (R304): Command OBS_LOAD admits an observer network image. -/
  | obsLoad (b : Fin 16)
  /-- OBS_REMOVE (R304): Command OBS_REMOVE removes an observer network. -/
  | obsRemove (b : Fin 16)
  /-- LANE_FENCE (R304): Command LANE_FENCE fences observer and Pewter lanes. -/
  | laneFence (b : Fin 16)
  /-- CTX_CMD (R304): Command CTX_CMD issues a context command and replies at DONE or REFUSED. -/
  | ctxCmd (b : Fin 16)
  /-- ENG_FENCE (R304): Command ENG_FENCE fences physical engines. -/
  | engFence (b : Fin 16)
  /-- ENG_RESET (R304): Command ENG_RESET resets a physical engine. -/
  | engReset (b : Fin 16)
  /-- MEM_RETIRE (R304): Command MEM_RETIRE sets channel retirement bits. -/
  | memRetire (b : Fin 16)
  /-- AT_WRITE (R304): Command AT_WRITE writes an access-table window. -/
  | atWrite (b : Fin 16)
  /-- AT_LOCK (R304): Command AT_LOCK locks the access tables of the named targets. -/
  | atLock (b : Fin 16)
  /-- SW_WRITE (R304): Command SW_WRITE writes one supervisor-only register and reads it back. -/
  | swWrite (b : Fin 16)
  /-- POWER_STATE (R395): Command POWER_STATE replies and starts an allowed power-state transition. -/
  | powerState (b : Fin 16)
  /-- POWER_TRANSITION_DONE (R395): A power-state transition completes and PWR.STATE shows the new state. -/
  | powerTransitionDone (dl ref : List Int) (ack : Bool) (blocks : List BistBlock) (units : List (Fin 74))
  /-- SAFE_INPUT_CHANGE (R314): A filtered safe-input channel changes, activating or ending its STO, SS1 or SLS function. -/
  | safeInputChange (k : Fin 16) (chB : Bool) (level : PinLevel)
  /-- SI_DISC (R314): Two safe-input channels differing for DISC ms raise SI_DISC. -/
  | siDisc (k : Fin 16)
  /-- STO_REQ_WRITE (R311): A write of SAF.STO_REQ requests or withdraws STO of groups. -/
  | stoReqWrite (m : Fin 64) (v : Word)
  /-- SAF_ACK_GROUPS (R315): A write of SAF.ACK groups acknowledges latched groups whose causes have ended. -/
  | safAckGroups (m : Fin 64) (v : Word)
  /-- SAF_ACK_FAULTS (R329): A write of SAF.ACK.FAULTS lowers axis reactions whose causes have ended. -/
  | safAckFaults (m : Fin 64) (v : Word)
  /-- STO_TEST_PULSE (R313): Every PER ms a released group's STO outputs pulse low and are read back. -/
  | stoTestPulse (g : Fin 16) (chB start : Bool)
  /-- HEARTBEAT_LOSS (R310): The watchdog island drives every channel B low when the safety manager's heartbeat is absent for 100 µs. -/
  | heartbeatLoss
  /-- CLOCK (R310): The island's clock monitor finds a clock outside ±2 % and drives every channel B low. -/
  | clock (dev : ClockDev)
  /-- SAFETY_WINDOW (R320): Every safety cycle a 40 µs window evaluates safe speeds, SLS, SS1, rotating tests and twin exchanges. -/
  | safetyWindow (bad : List (Fin 116))
  /-- SS1_TIMEOUT (R318): SS1_T ms after an SS1 request STO is requested. -/
  | ss1Timeout (n : Fin 48)
  /-- TEST_SLICE_START (R324): The safety manager starts a test slice on the eligible unit whose last test is oldest. -/
  | testSliceStart
  /-- TEST_SLICE_COMPLETE (R328): A slice completes and its signature is checked, a failure declaring the unit failed. -/
  | testSliceComplete (u : Fin 24) (pass : Bool)
  /-- TEST_RESTORE_DONE (R325): An aborted unit's restore completes and it returns to service. -/
  | testRestoreDone (u : Fin 24)
  /-- TEST_DEADLINE (R326): A unit whose test deadline passes without a completed test is treated as failed. -/
  | testDeadline (u : Fin 24)
  /-- SAF_CFG_WRITE (R321): A write of SAF.CFG that breaks the FTTI or CYCLE rules is refused with CFG_REFUSED. -/
  | safCfgWrite (m : Fin 64) (v : Word)
  /-- SAF_LOCK (R332): A write of SAF.CTRL.LOCK locks the safety configuration and checks its CRC. -/
  | safLock (m : Fin 64) (v : Word)
  /-- SAF_ENTER_RUN (R332): With CRC_OK and every unit tested once, the safety manager enters RUN. -/
  | safEnterRun
  /-- SHADOW (R333): A SHADOW packet feeds the FOLLOW's classical observer for the paired axis. -/
  | shadow (n : Fin 48) (ts : Nat) (ia ib ua ub : Int) (bus : Fin 65536)
  /-- SAFETY (R333): A SAFETY packet carries the partner's window exchange or STO request, driving the local channel low within 20 µs. -/
  | safety (speeds : List (Fin 48 × Word)) (sto : PeerStates)
  /-- DELAY_MONITOR_MEASURE (R346): Every 100 ms each delay monitor measures its slack. -/
  | delayMonitorMeasure (slack : List Int)
  /-- REPLAN (R349): Each whole operating hour a margin re-plan adjusts V_req, delay-line corrections and reference trims. -/
  | replan (dl ref : List Int) (ack : Bool)
  /-- AGE_REPLAN (R349): A write of AGE.CTRL.REPLAN re-plans margins now. -/
  | ageReplan (m : Fin 64) (v : Word) (dl ref : List Int) (ack : Bool)
  /-- SVC_CMD (R354): A write of AGE.SVC_CMD clears retirements and persistent fences, or is refused. -/
  | svcCmd (m : Fin 64) (v : Word)
  /-- RECORDER_TAKE (R359): The recorder takes an event from its queue and opens a record or merges it as a repeat. -/
  | recorderTake
  /-- MIRROR_WRITE (R363): New records and changed repeats are written to the nonvolatile mirror within their time limits. -/
  | mirrorWrite (ok : Bool)
  /-- REC_FLUSH (R363): A write of REC.CTRL.FLUSH writes every pending change to the mirror. -/
  | recFlush (m : Fin 64) (v : Word) (ok : Bool)
  /-- NV_IDX_WRITE (R365): A write of REC.NV_IDX starts a read of a mirror record. -/
  | nvIdxWrite (m : Fin 64) (v : Word)
  /-- NV_READ_DONE (R365): The mirror record is loaded into NV_DATA and NV_VALID sets. -/
  | nvReadDone (ok : Bool)
  /-- HOURS_UPDATE (R364): Every 0.1 h the operating hours are written to the ageing history. -/
  | hoursUpdate
  /-- BOOT_ROM (R371): After the self-check the boot ROM verifies loader slot A then B and releases core 0, or stops. -/
  | bootRom (errA errB : Bool)
  /-- KEY_PROG (R368): A write of SEC.KEY_PROG.GO fuses an owner key slot. -/
  | keyProg (m : Fin 64) (v : Word)
  /-- REVOKE (R368): A write of SEC.REVOKE revokes key slots, or is refused. -/
  | revoke (m : Fin 64) (v : Word)
  /-- LC_CMD (R370): A write of SEC.LC_CMD advances the lifecycle, or is refused. -/
  | lcCmd (m : Fin 64) (v : Word)
  /-- FUSE_DONE (R368): A fuse command completes and FUSE_STATUS.DONE sets. -/
  | fuseDone
  /-- DBG_CHALLENGE (R374): A write of SEC.DBG_CMD.CHAL creates a new debug challenge. -/
  | dbgChallenge (m : Fin 64) (v : Word)
  /-- DBG_VERIFY (R374): A write of SEC.DBG_CMD.GO verifies the response block and unlocks debug, or sets FAIL. -/
  | dbgVerify (m : Fin 64) (v : Word)
  /-- ATT_GO (R376): A write of SEC.ATT_CMD.GO latches nonce and address and starts an attestation report, or is refused. -/
  | attGo (m : Fin 64) (v : Word)
  /-- ATT_DONE (R376): The signed report is written and ATT_STATUS.DONE sets. -/
  | attDone
  /-- POR_ASSERT (R379): PORn low or a rail below its trip level puts the module in POR. -/
  | porAssert (rail : Option RailLow)
  /-- POR_END (R380): POR ends, the straps are sampled and the power-on self-check runs. -/
  | porEnd (safeH safeL pos0 : Bool) (found : StartFindings)
  /-- SYSTEM_RESET (R391): SYSRSTn, PWR.RST_CMD.SYS or a wake performs a system reset followed by the self-check. -/
  | systemReset (pin : Option Nat) (m : Fin 64) (v : Word) (found : StartFindings)
  /-- DEBUG_RESET (R391): The JTAG reset instruction or PWR.RST_CMD.DBG by master 0x3F resets the debug logic and ends the override. -/
  | debugReset (jtag : Bool) (m : Fin 64) (v : Word)
  /-- AXIS_RESET (R391): A bit of PWR.AXIS_RST resets one axis for 64 ticks. -/
  | axisReset (m : Fin 64) (hi : Bool) (v : Word)
  /-- RING_GO (R384): A write of PWR.RING_CTRL.GO starts Brass training. -/
  | ringGo (m : Fin 64) (v : Word)
  /-- TWN_CFG_ENABLE (R402): Setting TWN.CFG.EN starts Twin link training. -/
  | twnCfgEnable (m : Fin 64) (v : Word)
  /-- LINK_TRAINED (R402): A hop completes training and version exchange and its link comes up, or sets VER_ERR. -/
  | linkTrained (p : Fin 3) (lanes : Fin 3) (major minor : Fin 256) (peer : Fin 256)
  /-- TRAINING_RETRY (R402): Every 100 ms a hop refused for its version retries training. -/
  | trainingRetry (p : Fin 3)
  /-- ENUMERATION (R386): With every hop trained the position-0 module walks the ring and assigns ring IDs, roles and gaps. -/
  | enumeration (down up : Nat) (second : Bool)
  /-- ENUM_TIMEOUT (R386): 2 s after its GO the position-0 module starts enumeration on an unclosed ring. -/
  | enumTimeout (down up : Nat) (second : Bool)
  /-- ENUM_WAIT_EXPIRY (R387): A module not enumerated within 3 s of its GO stays unenumerated. -/
  | enumWaitExpiry
  /-- ENUM (R386): An ENUM packet carries an enumeration walk and its assigned ring ID. -/
  | enum (p : Fin 2) (id : Option (Fin 8)) (present gap : Fin 256)
  /-- RING_JOIN (R388): A module that trains into a gap is given the gap's ID, steps to the master's time and becomes present. -/
  | ringJoin (self : Bool) (id : Fin 8) (step : Int) (present gap : Fin 256) (master : Fin 8)
  /-- LINK_LOST (R404): A port without link for 1 ms sets LOST, discards its replay buffer and wraps the ring around the lost module. -/
  | linkLost (p : Fin 3) (gone : Option (Fin 8))
  /-- WRITE (R407): A WRITE packet from a partner is performed under the link's master ID and completed. -/
  | write (p : Fin 3) (a : Nat) (data : List Nat)
  /-- READ (R407): A READ packet from a partner is performed under the link's master ID and answered by a COMPLETION. -/
  | read (p : Fin 3) (a n : Nat) (errs : List (Nat × Nat))
  /-- COMPLETION (R407): A COMPLETION packet completes a remote access to its local master. -/
  | completion (p : Fin 3) (status : Fin 3) (data : List Nat)
  /-- LINK_POST (R407): A POST packet from a partner posts a descriptor to a local queue. -/
  | linkPost (p : Fin 3) (q : Fin 1024) (data : List Nat)
  /-- LINK_NAK (R403): A negative acknowledgement resends the class's unacknowledged packets. -/
  | linkNak (p : Fin 3) (cls : Fin 4)
  /-- LINK_ACK_TIMEOUT (R403): No acknowledgement 1 µs after sending resends the class's packets, retraining after eight resends. -/
  | linkAckTimeout (p : Fin 3) (cls : Fin 4)
  /-- RETRAIN (R403): A write of LNK.CTRL.RETRAIN retrains the port keeping its replay contents. -/
  | retrain (m : Fin 64) (p : Fin 3) (v : Word)
  /-- ETH_TRANSMIT (R409): A port takes a DATA descriptor from its transmit queue and sends the frame. -/
  | ethTransmit (p : Fin 4) (c : Fin 8)
  /-- ETH_TX_DONE (R409): When the last symbol has left, a TOKEN is posted to the completion queue. -/
  | ethTxDone (p : Fin 4)
  /-- ETH_RECEIVE (R409): A received frame is stored in a free buffer and posted as a DATA descriptor, or dropped. -/
  | ethReceive (p : Fin 4) (c : Fin 8) (stamp : Nat) (data : List Nat)
  /-- ETH_GATE_SWITCH (R408): At a gate-control-list instant the port switches its transmission gates. -/
  | ethGateSwitch (p : Fin 4) (k : Fin 256)
  /-- PCIE_INBOUND (R410): An inbound PCIe request at BAR0 is translated and performed under master 0x28. -/
  | pcieInbound (x n : Nat) (write : Bool) (data : List Nat) (poisoned : Bool) (errs : List (Nat × Nat))
  /-- PCIE_COMPLETION_TIMEOUT (R411): A completion not received within 50 ms gives its local master an error response. -/
  | pcieCompletionTimeout
  /-- PMBUS_POLL (R417): Every 1 ms the module polls the regulator's readings. -/
  | pmbusPoll (vout iout : Fin 65536)
  /-- PMBUS_ALERT (R417): An assertion of PMB_ALERTn reads STATUS_WORD and records it. -/
  | pmbusAlert (word : Fin 65536)
  /-- SERVICE_TRANSFER (R418): The service port performs an I²C or SPI transfer from its FIFO. -/
  | serviceTransfer (out inp : List Nat)
  /-- WAKE (R396): A rising edge on WAKE ends STANDBY with a system reset that keeps the firmware. -/
  | wake (found : StartFindings)
  /-- WAKE_TIMER (R396): DEVICE TIME reaching PWR.WAKE_TIME ends STANDBY. -/
  | wakeTimer (found : StartFindings)
  /-- THERMAL_SAMPLE (R434): Every 10 µs the junction sensors are read and acted on for shutdown, critical and throttle levels. -/
  | thermalSample (tj : Int) (sensor : Fin 16)
  /-- THROTTLE_STEP (R434): Each ms the throttle level rises or falls by one as the junction temperature requires. -/
  | throttleStep
  /-- GPTP_OFS_UPDATE (R34): A gPTP synchronisation received on the gPTP port updates DT.GPTP_OFS, and with GPTP_FOLLOW on the ring master trims DT.RATE to hold it constant. -/
  | gptpOfsUpdate (ofs : Int)
  /-- INTLV_LOCK_LOSS (R97): A paired vibration channel loses interleave lock, INTLV_LOCK clears and its samples carry UNCAL again. -/
  | intlvLockLoss (c : Fin 32)
  /-- DMA_TRANSFER_DONE (R208): The DMA master finishes a transfer, or ends it at an uncorrectable error, and posts its completion TOKEN with the bytes moved. -/
  | dmaTransferDone (q : Fin 1024)
  /-- FW_VERIFY_DONE (R294): The security block finishes reading, hashing and verifying the firmware image and either releases both cores in STARTING or fails the download with its code. -/
  | fwVerifyDone
  /-- DBG_VERIFY_DONE (R374): The debug response verification ends within 2 ms, setting DBG_UNLOCKED or FAIL. -/
  | dbgVerifyDone
  /-- LANE_LOCK_LOSS (R404): A port loses lane lock and is without link from that clock. -/
  | laneLockLoss (p : Fin 3)
  /-- PACKET_DISCARDED (R403): A packet that arrives with a bad CRC, out of sequence, or with a type or value not allowed on its port is negatively acknowledged, discarded and counted in CRC_CNT. -/
  | packetDiscarded (p : RxPacket)
  /-- LINK_ACK (R403): An acknowledgement from the receiver releases the acknowledged packets from the sender's replay buffer of its class. -/
  | linkAck (p : Fin 3) (cls : Fin 4) (seq : Nat)
  /-- PCIE_COMPLETION (R411): A completion for an outbound PCIe request arrives and completes the local master's access, a poisoned one giving an error response. -/
  | pcieCompletion (poisoned : Bool) (data : List Nat)
  /-- STO_READBACK_MISMATCH (R313): An STO output read back at the ball differs from its commanded level for more than 10 µs and raises STO_FB. -/
  | stoReadbackMismatch (g : Fin 16) (at_ : StoReadback)
  /-- TRIP_ASSERTION_BLANKED (R70): A trip input assertion that ends inside a blanking window is never qualified and increments MASK_CNT. -/
  | tripAssertionBlanked (p : TripPulse)
  /-- TILE_STAGED (R441): A thread finishes staging its tile's operands, and the tile becomes ready and may take a free issue slot. -/
  | tileStaged (p : Fin 8) (k : Fin 256)
  deriving DecidableEq, Repr

end Sys2Proof
end

