-- ==== Sys2Proof/Config.lean ====
section
/-!
DEFINITION. What the spec leaves to an implementation or leaves open, as uninterpreted constants: nothing can be proved of a
value of one of these, so a claim holds whatever they are. Each is named in the assumption log.
-/
namespace Sys2Proof

/-- Free values that need no operand: the n-th draw. -/
opaque Config.freeNat : Nat → Nat

/-- Babbitt's fixed half-band stages and interpolation (R242), whose taps are not given: the value of a point in FP32 bits, from the samples
that the stages and the kernel reach (stamp less that of the family's sample at or before the point, code), the family and the phase. -/
opaque Config.babValue : List (Int × Int) → Nat → Nat → Nat
/-- The same stages and kernel over the squared band-pass stream (R243): samples as FP32 codes, family, phase. -/
opaque Config.babEnvelope : List (Int × Nat) → Nat → Nat → Nat
/-- Babbitt's fixed band-pass (R243), whose coefficients are not given: its next state and its output in FP32 bits, from the edges in 100 Hz,
the sample period, the state and the code. -/
opaque Config.bandState : Nat → Nat → Nat → List Nat → Int → List Nat
opaque Config.bandOut : Nat → Nat → Nat → List Nat → Int → Nat
/-- The angle-domain half-band stages of the envelope (R243): a point at ENV_PPR in FP32 bits from the points at PPR that k stages reach
(place less its own, FP32 code) and k. -/
opaque Config.envPoint : List (Int × Nat) → Nat → Nat
/-- The die temperature in 1/16 °C that the fused trim of housekeeping converter and channel makes of a corrected value (R98). -/
opaque Config.dieTemp : Nat → Nat → Int → Int
/-- The odd stream of an interleaved pair, by channel, stamp and corrected value, after the offset, gain and fractional-delay correction (R97). -/
opaque Config.pairCorr : Nat → Nat → Int → Int
/-- Whether the scaling of an angle or speed by NUM / DEN rounds up (R40 does not state the rounding). -/
opaque Config.ratioUp : Int → Nat → Bool
/-- The SRC byte of a descriptor that a schedule slot posts (R208 asks for the poster's master ID, and R18 gives slots none). -/
opaque Config.slotSrc : Nat
/-- The speed of an SSI source from two angles and the ticks between them (R40 does not state it). -/
opaque Config.ssiSpeed : Int → Int → Nat → Int
/-- Sine and cosine of a 24-bit angle in Q1.31: R112's fixed procedure, whose table is not given; the machine holds them within R112's error. -/
opaque Config.sin : Nat → Int
opaque Config.cos : Nat → Int
/-- Which of the angles within R167's error the fixed procedure atan2 gives. -/
opaque Config.atan2 : Int → Int → Nat
/-- Whether SIGMOID is σ(2z), as its formula in R171 reads, or σ(z), as its Lipschitz constant there does. -/
opaque Config.sigmoidDouble : Bool
/-- The Δ of the classical model observer at a step that has no previous step (R190 does not state it). -/
opaque Config.firstDelta : Nat

/-- Quotients by a DC-bus code or a voltage base of 0, which R118 and R190 do not state. -/
opaque Config.divByZero : Int → Int
/-- The Δt of the ramp at a speed-loop step that has no previous one since EN was set (R127 does not state it). -/
opaque Config.firstRamp : Nat

/-- The hash that spreads 256-byte blocks over the usable channels (R281), from the set of channels and the block. -/
opaque Config.chanHash : Nat → Nat → Nat
/-- Bytes of declared state that an engine reset lost (R202), by draw and place. -/
opaque Config.lostState : Nat → Nat → Nat
/-- The codes of a CMP mask, true and false, by format, and whether SELECT takes a code as true (R213 gives no code). -/
opaque Config.maskCode : Bool → Nat → Nat
opaque Config.maskTrue : Nat → Nat → Bool
/-- The fixed procedures of opcodes 0x21 to 0x32 (R226 does not give them): the output code, and the clips and NaNs of the conversions
inside, from the opcode, the input and output formats, the operand codes and the element's place among them. -/
opaque Config.procCode : Nat → Nat → Nat → List Nat → Nat → Nat
opaque Config.procClips : Nat → Nat → Nat → List Nat → Nat → Nat
/-- Multiply-accumulates that HADAMARD counts in MAC_EQ (R219), by elements and K. -/
opaque Config.hadMacs : Nat → Nat → Nat
/-- Codes of an output whose shape, index or operand the spec does not fit: a function of the program and the inputs alone, as R260 asks, by program
DIGEST, operation, the codes of its operands, output and element. -/
opaque Config.openCode : List Nat → Nat → List (List Nat) → Nat → Nat → Nat
/-- The element that an index outside its axis names, if any (R213 does not state it). -/
opaque Config.badIndex : Int → Nat → Option Nat
/-- The tiles of a tensor that a thread reads or writes (R200): the toolchain's split, which a program image does not hold; by program
DIGEST, operation, tile of the operation and tensor. -/
opaque Config.tileOf : List Nat → Nat → Nat → Nat → List Nat

/-- The fixed tables of Babbitt's FFTs (R247), which are not given: twiddle factor j of n (real and imaginary part) and Hann coefficient i of n in FP32
bits; and what bin 0 of a spectrum reads, whose scale is not given, from the window, N and the unscaled magnitude. -/
opaque Config.twiddle : Nat → Nat → Nat × Nat
opaque Config.hann : Nat → Nat → Nat
opaque Config.binZero : Bool → Nat → Nat → Nat

/-- Where between the two middle values the median of an even number of measurements lies (R346 does not state it). -/
opaque Config.medianPick : List Int → Nat
/-- ML-DSA-44 as the security block computes it (FIPS 204): whether a signature verifies (key, message, signature); the public key of a
seed; the signature of a message under a seed, none where signing passes 64 rejection rounds (R376, R377). -/
opaque Config.mldsaVerify : List Nat → List Nat → List Nat → Bool
opaque Config.mldsaPub : List Nat → List Nat
opaque Config.mldsaSign : List Nat → List Nat → Option (List Nat)
/-- The vendor slots' public keys in boot ROM (R367) and the fused identity secret (R375). -/
opaque Config.vendorKey : Nat → List Nat
opaque Config.secret : List Nat
/-- Codes of the recorder events that R402, R404 and R417 ask for and the code table of R366 does not list: 0 version, 1 loss, 2 alert; their
payload, by event and what it tells of, and whether they merge. -/
opaque Config.eventCode : Nat → Nat
opaque Config.eventData : Nat → Nat → List Nat
opaque Config.eventMerge : Nat → Bool
/-- Payload bytes of packets whose layout the spec does not give (TIME, SAFETY, SHADOW, COPY), by type and contents. -/
opaque Config.linkBytes : Nat → List Nat → List Nat
/-- Fields of a TOKEN descriptor that R208 leaves open: 0 CTX, 1 FRAME, 2 ADDR, 3 PARAM, by the descriptor it answers; and its USER bytes. -/
opaque Config.tokenField : Nat → List Nat → Nat
opaque Config.tokenUser : List Nat → List Nat

end Sys2Proof
end

