-- ==== Sys2Proof/Machine/Tab.lean ====
section
/-!
DEFINITION. Sparse tables in canonical form (memory, the register file, per-unit state): reading a key, writing a key and the
canonical form itself; and the integer arithmetic every chapter of spec/ uses: two's complement at a width, saturation,
rounding to nearest with ties to even, and little-endian byte strings (R6, R9).
-/
namespace Sys2Proof.Machine

/-- What key `k` holds; `d` is what an unlisted key reads as. -/
def Tab.get {α : Type} (d : α) : Tab α → Nat → α
  | [], _ => d
  | (k', v) :: t, k => if k = k' then v else Tab.get d t k

/-- An entry in its place among rising keys. -/
def Tab.ins {α : Type} (k : Nat) (v : α) : Tab α → Tab α
  | [] => [(k, v)]
  | (k', v') :: t => if k < k' then (k, v) :: (k', v') :: t else (k', v') :: Tab.ins k v t

/-- Key `k` takes value `v`; the value `d` of an unlisted key removes the entry, so that equal tables are equal data. -/
def Tab.put {α : Type} [DecidableEq α] (d : α) (t : Tab α) (k : Nat) (v : α) : Tab α :=
  if v = d then t.filter (fun e => e.1 ≠ k) else Tab.ins k v (t.filter fun e => e.1 ≠ k)

/-- All keys of the table are at least `lo`, strictly rising, and no entry holds its key's unlisted value. -/
def Tab.wfFrom {α : Type} [DecidableEq α] (d : Nat → α) : Nat → Tab α → Bool
  | _, [] => true
  | lo, (k, v) :: t => decide (lo ≤ k) && decide (v ≠ d k) && Tab.wfFrom d (k + 1) t

/-- The canonical form. -/
def Tab.wf {α : Type} [DecidableEq α] (d : Nat → α) (t : Tab α) : Bool := Tab.wfFrom d 0 t

/-- Two's complement value of the low `w` bits. -/
def toS (w n : Nat) : Int :=
  let m := n % 2 ^ w
  if m < 2 ^ (w - 1) then (m : Int) else (m : Int) - (2 ^ w : Nat)
/-- The `w`-bit two's complement code of an integer, wrapping. -/
def ofS (w : Nat) (i : Int) : Nat := (i % ((2 ^ w : Nat) : Int)).toNat
/-- Saturation to signed `w` bits. -/
def satS (w : Nat) (i : Int) : Int :=
  let m : Int := ((2 ^ (w - 1) : Nat) : Int)
  if i < -m then -m else if m ≤ i then m - 1 else i
/-- Clamp of an integer to a closed interval. -/
def clampI (lo hi i : Int) : Int := if i < lo then lo else if hi < i then hi else i
/-- Saturation of a natural number to `w` bits. -/
def satU (w n : Nat) : Nat := if n < 2 ^ w then n else 2 ^ w - 1
/-- Rounding a quotient to nearest with ties to even; a zero divisor gives 0. -/
def rne (a : Int) (b : Int) : Int :=
  if b = 0 then 0 else
  let a' := if b < 0 then -a else a
  let b' := if b < 0 then -b else b
  let q := a' / b'
  let r := a' - q * b'
  if 2 * r < b' then q else if b' < 2 * r then q + 1 else if q % 2 = 0 then q else q + 1
/-- Rounding a quotient to nearest with ties upward (toward plus infinity). -/
def rnu (a : Int) (b : Int) : Int :=
  if b = 0 then 0 else
  let a' := if b < 0 then -a else a
  let b' := if b < 0 then -b else b
  (2 * a' + b') / (2 * b')
/-- Arithmetic shift right by `k` with rounding to nearest, ties to even. -/
def rneShr (a : Int) (k : Nat) : Int := rne a ((2 ^ k : Nat) : Int)
/-- The nearer of an integer's absolute value, as a natural number. -/
def absI (a : Int) : Int := if a < 0 then -a else a
/-- Sign of an integer, −1, 0 or 1. -/
def sgnI (a : Int) : Int := if a < 0 then -1 else if a = 0 then 0 else 1

/-- Bits hi to lo of a natural number. -/
def bits (n hi lo : Nat) : Nat := n / 2 ^ lo % 2 ^ (hi + 1 - lo)
/-- A number with bits hi to lo replaced by the low bits of `v`. -/
def setBits (n hi lo v : Nat) : Nat :=
  n - bits n hi lo * 2 ^ lo + (v % 2 ^ (hi + 1 - lo)) * 2 ^ lo
/-- Bit `i` of a number. -/
def bit (n i : Nat) : Bool := n / 2 ^ i % 2 == 1
/-- A number with bit `i` set to `b`. -/
def setBit (n i : Nat) (b : Bool) : Nat := setBits n i i (if b then 1 else 0)
/-- The number of set bits among the low `w`. -/
def popCount : Nat → Nat → Nat
  | 0, _ => 0
  | w + 1, n => n % 2 + popCount w (n / 2)
/-- 1 for true, 0 for false. -/
def b2n (b : Bool) : Nat := if b then 1 else 0

/-- `n` little-endian bytes of a number (R9). -/
def le : Nat → Nat → List Nat
  | 0, _ => []
  | n + 1, v => v % 256 :: le n (v / 256)
/-- The number a little-endian byte string spells. -/
def ofLE : List Nat → Nat
  | [] => 0
  | b :: t => b % 256 + 256 * ofLE t
/-- `n` bytes of a list from offset `o`, zero past its end. -/
def slice (l : List Nat) (o n : Nat) : List Nat :=
  let t := (l.drop o).take n
  t ++ List.replicate (n - t.length) 0
/-- Little-endian field of `n` bytes at offset `o`. -/
def fieldLE (l : List Nat) (o n : Nat) : Nat := ofLE (slice l o n)
/-- Big-endian value of a byte string. -/
def ofBE (l : List Nat) : Nat := l.foldl (fun a b => a * 256 + b % 256) 0

/-- Least of two and greatest of two integers by comparison. -/
def minI (a b : Int) : Int := if a ≤ b then a else b
def maxI (a b : Int) : Int := if a ≤ b then b else a

/-- Ceiling of a quotient of natural numbers; 0 for a zero divisor. -/
def ceilDiv (a b : Nat) : Nat := if b = 0 then 0 else (a + b - 1) / b

/-- The nearest integer square root, floor, by bisection on `fuel` bits. -/
def isqrtAux : Nat → Nat → Nat → Nat
  | 0, _, r => r
  | f + 1, n, r =>
    let r' := r + 2 ^ f
    isqrtAux f n (if r' * r' ≤ n then r' else r)
/-- Floor of the square root of a number below 2^128. -/
def isqrt (n : Nat) : Nat := isqrtAux 64 n 0

/-- Ticks of DEVICE TIME in 1 µs and 1 ms (R4: a tick is 3.125 ns). -/
def usTicks : Nat := 320
def msTicks : Nat := 320000
/-- DEVICE TIME is a 64-bit count. -/
def timeMod : Nat := 2 ^ 64

end Sys2Proof.Machine
end

