-- ==== Sys2Proof/Machine/NumFmt.lean ====
section
/-!
DEFINITION. The eight number formats: exact values, conversion, accumulation and comparison (R204, R221 to R227).
-/
namespace Sys2Proof.Machine

/-- An exact value: a NaN, an infinity, or a signed rational; a zero keeps its sign (R223). -/
inductive FV where
  | nan
  | inf (neg : Bool)
  | fin (neg : Bool) (num den : Nat)
  deriving DecidableEq, Repr

/-- FMT codes (R204). -/
def fS4 : Nat := 0
def fS8 : Nat := 1
def fS16 : Nat := 2
def fS32 : Nat := 3
def fE4M3 : Nat := 4
def fE5M2 : Nat := 5
def fBF16 : Nat := 6
def fFP32 : Nat := 7
/-- Bits of an element. -/
def fmtBits (f : Nat) : Nat := [4, 8, 16, 32, 8, 8, 16, 32].getD f 8
/-- A format of integers. -/
def fmtInt (f : Nat) : Bool := decide (f ≤ 3)
/-- Fraction bits and bias of a floating format. -/
def fmtMan (f : Nat) : Nat := if f = 4 then 3 else if f = 5 then 2 else if f = 6 then 7 else 23
def fmtBias (f : Nat) : Nat := if f = 4 then 7 else if f = 5 then 15 else 127
/-- The largest finite code of a floating format, and its canonical NaN (R221, R222). -/
def fmtMaxCode (f : Nat) : Nat := if f = 4 then 0x7E else if f = 5 then 0x7B else if f = 6 then 0x7F7F else 0x7F7FFFFF
def fmtNan (f : Nat) : Nat := if f = 4 ∨ f = 5 then 0x7F else if f = 6 then 0x7FC0 else 0x7FC00000

/-- An integer as an exact value. -/
def FV.ofInt (i : Int) : FV := .fin (decide (i < 0)) i.natAbs 1
/-- m × 2^e. -/
def FV.scaled (neg : Bool) (m : Nat) (e : Int) : FV := if 0 ≤ e then .fin neg (m * 2 ^ e.toNat) 1 else .fin neg m (2 ^ (-e).toNat)
/-- +0. -/
def FV.zero : FV := .fin false 0 1

/-- The value of a floating code (R221, R222). -/
def floatValue (f code : Nat) : FV :=
  let w := fmtBits f
  let mb := fmtMan f
  let neg := bit code (w - 1)
  let c := code % 2 ^ (w - 1)
  let ex := c / 2 ^ mb
  let fr := c % 2 ^ mb
  let top := 2 ^ (w - 1 - mb) - 1
  if f = 4 ∧ c = 0x7F then .nan
  else if f ≠ 4 ∧ ex = top then (if fr = 0 then .inf neg else .nan)
  else if ex = 0 then .scaled neg fr (1 - (fmtBias f : Int) - mb)
  else .scaled neg (fr + 2 ^ mb) ((ex : Int) - fmtBias f - mb)
/-- The value of a code. -/
def valueOf (f code : Nat) : FV := if fmtInt f then .ofInt (toS (fmtBits f) code) else floatValue f code

/-- What a conversion gives: the code, a clip, a NaN turned into an S code or kept (R224, R225). -/
structure Conv where
  code : Nat
  clip : Bool := false
  nan : Bool := false
  deriving DecidableEq, Repr

/-- The largest integer e with 2^e ≤ num / den, for num > 0. -/
def log2Floor (num den : Nat) : Int :=
  let e : Int := (Nat.log2 num : Int) - Nat.log2 den
  if 0 ≤ e then (if den * 2 ^ e.toNat ≤ num then e else e - 1) else (if den ≤ num * 2 ^ (-e).toNat then e else e - 1)
/-- The magnitude bits of num / den rounded to nearest in a floating format, ties to an even last bit; the value is at most the largest finite. -/
def floatMag (f num den : Nat) : Nat :=
  if num = 0 then 0 else
  let mb : Int := fmtMan f
  let emin : Int := 1 - (fmtBias f : Int)
  let e := let x := log2Floor num den; if x < emin then emin else x
  let sh := e - mb
  let q := if 0 ≤ sh then rne (num : Int) ((den * 2 ^ sh.toNat : Nat) : Int) else rne ((num * 2 ^ (-sh).toNat : Nat) : Int) den
  ((e - emin) * 2 ^ fmtMan f + q).toNat
/-- Conversion into a floating format (R224, R225). -/
def toFloat (f : Nat) (v : FV) : Conv :=
  let sign (neg : Bool) (m : Nat) : Nat := m + if neg then 2 ^ (fmtBits f - 1) else 0
  match v with
  | .nan => { code := fmtNan f, nan := true }
  | .inf neg => { code := sign neg (fmtMaxCode f), clip := true }
  | .fin neg num den =>
    match floatValue f (fmtMaxCode f) with
    | .fin _ mn md => if mn * den < num * md then { code := sign neg (fmtMaxCode f), clip := true } else { code := sign neg (floatMag f num den) }
    | _ => { code := sign neg (floatMag f num den) }
/-- Conversion into an integer format with bounds `lo` and `hi` (R224, R225). -/
def toInt (f : Nat) (lo hi : Int) (v : FV) : Conv :=
  match v with
  | .nan => { code := 0, nan := true }
  | .inf neg => { code := ofS (fmtBits f) (if neg then lo else hi), clip := true }
  | .fin neg num den =>
    let x : Int := if neg then -num else num
    if hi * den < x then { code := ofS (fmtBits f) hi, clip := true }
    else if x < lo * den then { code := ofS (fmtBits f) lo, clip := true }
    else { code := ofS (fmtBits f) (rne x den) }
/-- Conversion into any format (R224, R225). -/
def convert (f : Nat) (v : FV) : Conv :=
  if fmtInt f then toInt f (-(2 ^ (fmtBits f - 1) : Nat)) ((2 ^ (fmtBits f - 1) : Nat) - 1) v else toFloat f v
/-- A code that an unstated procedure gives, brought to what R222, R224 and R225 allow: the canonical NaN, never an infinity. -/
def openConv (f code : Nat) : Conv :=
  let c := code % 2 ^ fmtBits f
  match valueOf f c with
  | .nan => convert f .nan
  | .inf n => convert f (.inf n)
  | _ => { code := c }
/-- The value rounded once to FP32, with whether the rounding clipped or met a NaN (R224, R225). -/
structure F32 where
  v : FV := .zero
  clip : Bool := false
  nan : Bool := false
  deriving DecidableEq, Repr
def FV.r32 (v : FV) : F32 := let c := toFloat 7 v; { v := floatValue 7 c.code, clip := c.clip, nan := c.nan }
/-- The clips of a list of roundings. -/
def clipsOf (l : List F32) : Nat := (l.filter (·.clip)).length

/-! ### Exact arithmetic -/

/-- Negation, magnitude. -/
def FV.neg : FV → FV
  | .nan => .nan
  | .inf n => .inf (!n)
  | .fin n a d => .fin (!n) a d
def FV.abs : FV → FV
  | .nan => .nan
  | .inf _ => .inf false
  | .fin _ a d => .fin false a d
/-- The exact sum; opposite infinities have none (NaN), and an exact zero sum of operands of opposite sign is +0 (R223). -/
def FV.add : FV → FV → FV
  | .nan, _ => .nan
  | _, .nan => .nan
  | .inf a, .inf b => if a = b then .inf a else .nan
  | .inf a, _ => .inf a
  | _, .inf b => .inf b
  | .fin sa na da, .fin sb nb db =>
    let x : Int := (if sa then -1 else 1) * ((na * db : Nat) : Int) + (if sb then -1 else 1) * ((nb * da : Nat) : Int)
    if x = 0 then .fin (sa && sb) 0 1 else .fin (decide (x < 0)) x.natAbs (da * db)
def FV.sub (a b : FV) : FV := a.add b.neg
/-- The exact product; infinity times zero has none (NaN). -/
def FV.mul : FV → FV → FV
  | .nan, _ => .nan
  | _, .nan => .nan
  | .inf a, .inf b => .inf (a != b)
  | .inf a, .fin b n _ => if n = 0 then .nan else .inf (a != b)
  | .fin a n _, .inf b => if n = 0 then .nan else .inf (a != b)
  | .fin sa na da, .fin sb nb db => .fin (sa != sb) (na * nb) (da * db)
/-- The exact quotient of finite values; a zero divisor gives NaN. -/
def FV.div : FV → FV → FV
  | .fin sa na da, .fin sb nb db => if nb = 0 then .nan else .fin (sa != sb) (na * db) (da * nb)
  | _, _ => .nan
/-- a < b for numbers; −0 and +0 are equal; a NaN compares false (R223, R225). -/
def FV.lt : FV → FV → Bool
  | .nan, _ => false
  | _, .nan => false
  | .inf a, .inf b => a && !b
  | .inf a, .fin _ _ _ => a
  | .fin _ _ _, .inf b => !b
  | .fin sa na da, .fin sb nb db =>
    decide ((if sa then -1 else 1) * ((na * db : Nat) : Int) < (if sb then -1 else 1) * ((nb * da : Nat) : Int))
/-- Equal numbers. -/
def FV.eqv (a b : FV) : Bool := a != .nan && b != .nan && !(a.lt b) && !(b.lt a)
def FV.isNan : FV → Bool
  | .nan => true
  | _ => false
def FV.isNeg : FV → Bool
  | .fin n _ _ => n
  | .inf n => n
  | .nan => false
/-- A zero of either sign. -/
def FV.isZero : FV → Bool
  | .fin _ n _ => n == 0
  | _ => false
/-- MAX and MIN of numbers: MAX(−0, +0) is +0 and MIN(−0, +0) is −0; a NaN operand gives NaN (R223, R225). -/
def FV.max (a b : FV) : FV :=
  if a.isNan || b.isNan then .nan else if a.lt b then b else if b.lt a then a else if a.isNeg then b else a
def FV.min (a b : FV) : FV :=
  if a.isNan || b.isNan then .nan else if a.lt b then a else if b.lt a then b else if a.isNeg then a else b
/-- Extrema of a reduction: a NaN is larger than every number (R225). -/
def FV.maxN (a b : FV) : FV := if a.isNan || b.isNan then .nan else a.max b
def FV.minN (a b : FV) : FV := if a.isNan then b else if b.isNan then a else a.min b
/-- a is before b when a NaN is larger than every number. -/
def FV.ltN (a b : FV) : Bool := if a.isNan then false else if b.isNan then true else a.lt b

/-! ### Accumulation (R227) -/

/-- An accumulator: an S32 number or an FP32 value, with the clips and NaNs of its steps counted. -/
structure Accu where
  v : FV := .zero
  clips : Nat := 0
  nans : Nat := 0
  deriving DecidableEq, Repr
/-- Whether inputs of a format accumulate in S32. -/
def accInt (f : Nat) : Bool := fmtInt f
/-- One further term enters the accumulator: saturated in S32, rounded in FP32. -/
def Accu.step (int : Bool) (a : Accu) (x : FV) : Accu :=
  let s := a.v.add x
  let c := if int then toInt 3 (-(2 ^ 31)) (2 ^ 31 - 1) s else toFloat 7 s
  { v := if int then .ofInt (toS 32 c.code) else floatValue 7 c.code, clips := a.clips + b2n c.clip, nans := a.nans + b2n c.nan }
/-- The terms of a list in its order. -/
def accumulate (int : Bool) (a : Accu) (l : List FV) : Accu := l.foldl (Accu.step int) a

/-! ### Packing of tensors (R222) -/

/-- Bytes of `n` elements. -/
def fmtBytes (f n : Nat) : Nat := ceilDiv (n * fmtBits f) 8
/-- Code of element `i` in a tensor's bytes. -/
def elemAt (f : Nat) (l : List Nat) (i : Nat) : Nat :=
  if f = 0 then l.getD (i / 2) 0 / 16 ^ (i % 2) % 16
  else let b := fmtBits f / 8; ofLE ((l.drop (i * b)).take b)
/-- The codes of `n` elements. -/
def unpackN (f n : Nat) (l : List Nat) : List Nat := (List.range n).map fun i => elemAt f l i
/-- The bytes of codes; a padding nibble is 0. -/
def packCodes (f : Nat) : List Nat → List Nat
  | [] => []
  | [a] => if f = 0 then [a % 16] else le (fmtBits f / 8) a
  | a :: b :: t => if f = 0 then (a % 16 + 16 * (b % 16)) :: packCodes f t else le (fmtBits f / 8) a ++ packCodes f (b :: t)

end Sys2Proof.Machine
end

