-- ==== Sys2Proof/Machine/BabProduct.lean ====
section
/-!
DEFINITION. Babbitt's products over a window of points: the synchronous average, its spectrum, the order and envelope spectra, and the scalars (R247).
What is one formula is formed exactly and rounded once to FP32; an FFT rounds every product and sum (DESIGN CHOICE, assumption log 55).
-/
namespace Sys2Proof.Machine

/-- A finite FP32 code: what a fixed procedure over finite numbers gives (R224). -/
def f32Fin (c : Nat) : Nat := let c := c % 2 ^ 32; if bits c 30 23 = 255 then c - 2 ^ 23 else c
/-- A finite FP32 code as a whole number of 2^−149. -/
def f32Units (c : Nat) : Int :=
  match floatValue 7 c with
  | .fin n num den => (if n then -1 else 1) * ((num * 2 ^ 149 / den : Nat) : Int)
  | _ => 0
/-- A quotient rounded once to FP32 (R224), as a code. -/
def f32Quot (num : Int) (den : Nat) : Nat := (toFloat 7 (.fin (decide (num < 0)) num.natAbs den)).code
/-- The square root of a rational number to more than FP32's bits: twice its floor at 2^−200, with the lowest bit telling that something follows. -/
def rootOf (num den : Nat) : FV :=
  let x := num * 2 ^ 400 / den
  let y := isqrtAux 400 x 0
  .fin false (2 * y + b2n (y * y * den != num * 2 ^ 400)) (2 ^ 201)
/-- The square root rounded once to FP32 (R224). -/
def FV.root32 : FV → FV
  | .fin _ n d => (rootOf n d).r32.v
  | v => v

/-- SA (R247): the mean of the points with each fraction m / PPR, over a window of whole revolutions whose first point is number `m0`. -/
def babSa (xs : List Nat) (m0 : Int) (ppr : Nat) : List Nat :=
  let a := (xs.map f32Units).toArray
  let revs := xs.length / ppr
  (List.range ppr).map fun (j : Nat) =>
    let i0 := (((j : Int) - m0) % (ppr : Int)).toNat
    f32Quot ((List.range revs).foldl (fun n k => n + a.getD (i0 + k * ppr) 0) 0) (revs * 2 ^ 149)
/-- RMS of a window (R247). -/
def babRms (xs : List Nat) : Nat :=
  (toFloat 7 (rootOf (xs.foldl (fun n c => n + (f32Units c).natAbs ^ 2) 0) (xs.length * 2 ^ 298))).code
/-- PEAK of a window: its largest magnitude (R247). -/
def babPeak (xs : List Nat) : Nat := f32Quot ((xs.foldl (fun n c => max n (f32Units c).natAbs) 0 : Nat) : Int) (2 ^ 149)
/-- KURT of a window: N × Σr⁴ / (Σr²)² with r_n = x_n − SA[n mod PPR], and 0 when Σr² = 0 (R247). -/
def babKurt (xs : List Nat) (m0 : Int) (ppr : Nat) : Nat :=
  let sa := ((babSa xs m0 ppr).map f32Units).toArray
  let rs := (xs.zip (List.range xs.length)).map fun (x : Nat × Nat) => f32Units x.1 - sa.getD ((m0 + x.2) % (ppr : Int)).toNat 0
  let s2 := rs.foldl (fun n r => n + r.natAbs ^ 2) 0
  let s4 := rs.foldl (fun n r => n + r.natAbs ^ 4) 0
  if s2 = 0 then 0 else f32Quot ((xs.length * s4 : Nat) : Int) (s2 ^ 2)
/-- The mean speed over a window in rev/s (R247): the turn from its first to its last point over the time between them, in 1/256 tick. -/
def babMeanSpeed (t0 t1 n ppr : Nat) : Nat := f32Quot (((n - 1) * (256 * 1000 * msTicks) : Nat) : Int) (ppr * max (t1 - t0) 1)

/-! ### Spectra -/

/-- A complex number in FP32. -/
abbrev Cx := FV × FV
def Cx.add (a b : Cx) : Cx := ((a.1.add b.1).r32.v, (a.2.add b.2).r32.v)
def Cx.sub (a b : Cx) : Cx := ((a.1.sub b.1).r32.v, (a.2.sub b.2).r32.v)
def Cx.mul (a b : Cx) : Cx :=
  (((a.1.mul b.1).r32.v.sub (a.2.mul b.2).r32.v).r32.v, ((a.1.mul b.2).r32.v.add (a.2.mul b.1).r32.v).r32.v)
/-- The magnitude of a complex number. -/
def Cx.mag (a : Cx) : FV := ((a.1.mul a.1).r32.v.add (a.2.mul a.2).r32.v).r32.v.root32
/-- Twiddle factor `j` of `n` from the fixed table, which is not given. -/
def twiddle (j n : Nat) : Cx := let w := Config.twiddle j n; (floatValue 7 (f32Fin w.1), floatValue 7 (f32Fin w.2))
/-- The members of a list at even places, and at odd places. -/
def evens {α : Type} : List α → List α
  | [] => []
  | [a] => [a]
  | a :: _ :: t => a :: evens t
/-- The radix-2 FFT, decimation in time, of 2^k points (R247). -/
def fft : Nat → List Cx → List Cx
  | 0, l => l
  | k + 1, l =>
    let e := fft k (evens l)
    let o := (fft k (evens (l.drop 1))).zip (List.range (2 ^ k)) |>.map fun x => (twiddle x.2 (2 ^ (k + 1))).mul x.1
    (e.zip o).map (fun x => x.1.add x.2) ++ (e.zip o).map fun x => x.1.sub x.2
/-- The magnitude spectrum of 2^k points, without window or with a Hann window from the fixed table (R247): a sinusoid of amplitude a centred on bin
> 0 reads a, so the scale is 2 / N, doubled under the window, whose mean is one half, and halved at the last bin, where both halves of the spectrum
meet. The scale of bin 0 is not given. -/
def spectrum (hann : Bool) (k : Nat) (xs : List Nat) : List Nat :=
  let n := 2 ^ k
  let win := (xs.zip (List.range n)).map fun x =>
    if hann then (floatValue 7 x.1).mul (floatValue 7 (f32Fin (Config.hann x.2 n))) |>.r32.v else floatValue 7 x.1
  let l := fft k (win.map fun v => (v, FV.zero))
  ((l.take (n / 2 + 1)).zip (List.range (n / 2 + 1))).map fun x =>
    let m := x.1.mag
    if x.2 = 0 then f32Fin (Config.binZero hann n (toFloat 7 m).code)
    else (toFloat 7 (m.mul (.fin false ((if hann then 2 else 1) * (if x.2 = n / 2 then 1 else 2)) n))).code

end Sys2Proof.Machine
end

