-- ==== Sys2Proof/Machine/RegMap.lean ====
section
/-!
DEFINITION. Named register fields: for every field of the register tables of spec/ (R16) its home: the address of
the register of instance (0, 0), the address strides of the instance and of the array index, and the bit range.
A 64-bit pair _LO/_HI (R15) is one 64-bit field here, bits 63:0, in two consecutive registers.
Arrays of like registers (phases A, B, C; AX.TRIP_CFG_OC and _DS; S0_MAP and S1_MAP; engines, windows ...) are one name with
an array index. MON.* and CMP_* fields take the address of their set or compensator block as the instance.
-/
namespace Sys2Proof.Machine

/-- A register field: address = base + i × s1 + j × s2, bits hi down to lo (hi = 63: a _LO/_HI pair, R15). -/
structure RF where
  base : Nat
  s1 : Nat
  s2 : Nat
  hi : Nat
  lo : Nat
  deriving DecidableEq, Repr

/-- The register address of instance `i`, array index `j`. -/
def RF.addr (f : RF) (i : Nat := 0) (j : Nat := 0) : Nat := f.base + i * f.s1 + j * f.s2
/-- The number of bits of the field. -/
def RF.width (f : RF) : Nat := f.hi + 1 - f.lo

def DT.TIME : RF := ⟨0x2000040000, 0, 0, 63, 0⟩
def DT.CTRL.LOCK : RF := ⟨0x2000040008, 0, 0, 0, 0⟩
def DT.CTRL.ROLE : RF := ⟨0x2000040008, 0, 0, 2, 1⟩
def DT.CTRL.GPTP_FOLLOW : RF := ⟨0x2000040008, 0, 0, 3, 3⟩
def DT.RATE.RATE : RF := ⟨0x200004000C, 0, 0, 31, 0⟩
def DT.STEP : RF := ⟨0x2000040010, 0, 0, 63, 0⟩
def DT.STATUS.ALIGNED : RF := ⟨0x2000040018, 0, 0, 0, 0⟩
def DT.STATUS.STEP_REFUSED : RF := ⟨0x2000040018, 0, 0, 1, 1⟩
def DT.STATUS.RATE_CLAMP : RF := ⟨0x2000040018, 0, 0, 2, 2⟩
def DT.OFFSET.OFFSET : RF := ⟨0x200004001C, 0, 0, 31, 0⟩
def DT.GPTP_OFS : RF := ⟨0x2000040020, 0, 0, 63, 0⟩
def TB.CFG.EN : RF := ⟨0x2000050000, 0x100, 0, 0, 0⟩
def TB.CFG.KIND : RF := ⟨0x2000050000, 0x100, 0, 2, 1⟩
def TB.CFG.SRC : RF := ⟨0x2000050000, 0x100, 0, 6, 3⟩
def TB.CFG.FALLBACK : RF := ⟨0x2000050000, 0x100, 0, 10, 7⟩
def TB.CFG.REF : RF := ⟨0x2000050000, 0x100, 0, 16, 11⟩
def TB.CFG.TIN : RF := ⟨0x2000050000, 0x100, 0, 19, 17⟩
def TB.CFG.HOLD : RF := ⟨0x2000050000, 0x100, 0, 23, 20⟩
def TB.RATIO.NUM : RF := ⟨0x2000050004, 0x100, 0, 15, 0⟩
def TB.RATIO.DEN : RF := ⟨0x2000050004, 0x100, 0, 31, 16⟩
def TB.TACH.TACH_OFFSET : RF := ⟨0x2000050008, 0x100, 0, 23, 0⟩
def TB.TACH.TOL : RF := ⟨0x2000050008, 0x100, 0, 31, 24⟩
def TB.SPEED.SPEED : RF := ⟨0x200005000C, 0x100, 0, 31, 0⟩
def TB.ANGLE : RF := ⟨0x2000050010, 0x100, 0, 63, 0⟩
def TB.STAMP : RF := ⟨0x2000050018, 0x100, 0, 63, 0⟩
def TB.STATUS.STATE : RF := ⟨0x2000050020, 0x100, 0, 2, 0⟩
def TB.STATUS.CFG_ERR : RF := ⟨0x2000050020, 0x100, 0, 3, 3⟩
def TB.STATUS.CORR_BIG : RF := ⟨0x2000050020, 0x100, 0, 4, 4⟩
def TB.STATUS.CORR_CNT : RF := ⟨0x2000050020, 0x100, 0, 31, 16⟩
def SCH.CFG.EN : RF := ⟨0x2000060000, 0x40, 0, 0, 0⟩
def SCH.CFG.TYPE : RF := ⟨0x2000060000, 0x40, 0, 1, 1⟩
def SCH.CFG.DIR : RF := ⟨0x2000060000, 0x40, 0, 3, 2⟩
def SCH.CFG.TB : RF := ⟨0x2000060000, 0x40, 0, 9, 4⟩
def SCH.CFG.ACTION : RF := ⟨0x2000060000, 0x40, 0, 13, 10⟩
def SCH.CFG.PARAM : RF := ⟨0x2000060000, 0x40, 0, 25, 16⟩
def SCH.TARGET : RF := ⟨0x2000060008, 0x40, 0, 63, 0⟩
def SCH.STEP : RF := ⟨0x2000060010, 0x40, 0, 63, 0⟩
def SCH.PRED : RF := ⟨0x2000060018, 0x40, 0, 63, 0⟩
def SCH.RESID.RESID : RF := ⟨0x2000060020, 0x40, 0, 31, 0⟩
def SCH.RESID_LIM.LIM : RF := ⟨0x2000060024, 0x40, 0, 30, 0⟩
def SCH.STATUS.STATE : RF := ⟨0x2000060028, 0x40, 0, 2, 0⟩
def SCH.STATUS.LATE : RF := ⟨0x2000060028, 0x40, 0, 3, 3⟩
def SCH.STATUS.CFG_ERR : RF := ⟨0x2000060028, 0x40, 0, 4, 4⟩
def SCH.STATUS.RESID_OVER : RF := ⟨0x2000060028, 0x40, 0, 5, 5⟩
def SCH.STATUS.MISS_CNT : RF := ⟨0x2000060028, 0x40, 0, 15, 8⟩
def SCH.STATUS.FIRE_CNT : RF := ⟨0x2000060028, 0x40, 0, 31, 16⟩
def SCH.LAST_FIRE : RF := ⟨0x200006002C, 0x40, 0, 63, 0⟩
def PXB.MAP.AXIS : RF := ⟨0x2010300000, 0, 4, 5, 0⟩
def PXB.MAP.VALID : RF := ⟨0x2010300000, 0, 4, 8, 8⟩
def PXB.STATUS.BUSY : RF := ⟨0x2010300008, 0, 0, 0, 0⟩
def PXB.STATUS.ERR : RF := ⟨0x2010300008, 0, 0, 1, 1⟩
def AX.PWM_CTRL.EN : RF := ⟨0x2010000000, 0x10000, 0, 0, 0⟩
def AX.PWM_CTRL.SRC : RF := ⟨0x2010000000, 0x10000, 0, 1, 1⟩
def AX.PWM_CTRL.START_ARM : RF := ⟨0x2010000000, 0x10000, 0, 2, 2⟩
def AX.PWM_CTRL.LOCK : RF := ⟨0x2010000000, 0x10000, 0, 3, 3⟩
def AX.PWM_PERIOD.TOP : RF := ⟨0x2010000004, 0x10000, 0, 16, 0⟩
def AX.PWM_DUTY.D : RF := ⟨0x2010000008, 0x10000, 4, 23, 0⟩
def AX.PWM_COMMIT.COMMIT : RF := ⟨0x2010000014, 0x10000, 0, 0, 0⟩
def AX.PWM_DT.DT_HS : RF := ⟨0x2010000018, 0x10000, 0, 14, 0⟩
def AX.PWM_DT.DT_LS : RF := ⟨0x2010000018, 0x10000, 0, 30, 16⟩
def AX.PWM_MINP.MINP : RF := ⟨0x201000001C, 0x10000, 0, 14, 0⟩
def AX.PWM_STATUS.COMMIT_PEND : RF := ⟨0x2010000020, 0x10000, 0, 0, 0⟩
def AX.PWM_STATUS.PAIR_AGE : RF := ⟨0x2010000020, 0x10000, 0, 1, 1⟩
def AX.PWM_STATUS.COMMIT_REFUSED : RF := ⟨0x2010000020, 0x10000, 0, 2, 2⟩
def AX.PWM_STATUS.SH_REFUSED : RF := ⟨0x2010000020, 0x10000, 0, 3, 3⟩
def AX.PWM_STATUS.CFG_REFUSED : RF := ⟨0x2010000020, 0x10000, 0, 4, 4⟩
def AX.PWM_STATUS.START_LATE : RF := ⟨0x2010000020, 0x10000, 0, 5, 5⟩
def AX.PWM_STATUS.EN_REFUSED : RF := ⟨0x2010000020, 0x10000, 0, 6, 6⟩
def AX.PWM_STATUS.DL_CAL_ERR : RF := ⟨0x2010000020, 0x10000, 0, 7, 7⟩
def AX.PWM_STATUS.TRIPPED : RF := ⟨0x2010000020, 0x10000, 0, 8, 8⟩
def AX.PWM_STATUS.SKIP : RF := ⟨0x2010000020, 0x10000, 0, 11, 9⟩
def AX.PWM_STATUS.COMMIT_CNT : RF := ⟨0x2010000020, 0x10000, 0, 31, 16⟩
def AX.PWM_ACT_PERIOD.TOP : RF := ⟨0x2010000024, 0x10000, 0, 16, 0⟩
def AX.PWM_ACT_W.W : RF := ⟨0x2010000028, 0x10000, 4, 22, 0⟩
def AX.PWM_CARRY.CARRY : RF := ⟨0x2010000034, 0x10000, 4, 31, 0⟩
def AX.PWM_START : RF := ⟨0x2010000040, 0x10000, 0, 63, 0⟩
def AX.PWM_LAST_COMMIT : RF := ⟨0x2010000048, 0x10000, 0, 63, 0⟩
def AX.PWM_DLCAL.N : RF := ⟨0x2010000050, 0x10000, 0, 6, 0⟩
def AX.PWM_DLCAL.VALID : RF := ⟨0x2010000050, 0x10000, 0, 7, 7⟩
def AX.PWM_DLCAL.CAL_CNT : RF := ⟨0x2010000050, 0x10000, 0, 31, 16⟩
def AX.TRIP_CFG.EN : RF := ⟨0x2010000060, 0x10000, 4, 0, 0⟩
def AX.TRIP_CFG.POL : RF := ⟨0x2010000060, 0x10000, 4, 1, 1⟩
def AX.TRIP_CFG.ACTION : RF := ⟨0x2010000060, 0x10000, 4, 3, 2⟩
def AX.TRIP_CFG.BLANK : RF := ⟨0x2010000060, 0x10000, 4, 13, 4⟩
def AX.TRIP_CFG.FILT : RF := ⟨0x2010000060, 0x10000, 4, 23, 16⟩
def AX.TRIP_STATUS.LATCH : RF := ⟨0x2010000068, 0x10000, 0, 1, 0⟩
def AX.TRIP_STATUS.LIVE : RF := ⟨0x2010000068, 0x10000, 0, 3, 2⟩
def AX.TRIP_STATUS.FIRST : RF := ⟨0x2010000068, 0x10000, 0, 4, 4⟩
def AX.TRIP_STATUS.MASK_CNT : RF := ⟨0x2010000068, 0x10000, 0, 31, 16⟩
def AX.TRIP_TIME : RF := ⟨0x2010000070, 0x10000, 0, 63, 0⟩
def AX.ADC_CTRL.PD_AUTO : RF := ⟨0x2010000080, 0x10000, 0, 0, 0⟩
def AX.ADC_CHK.TOL_ABS : RF := ⟨0x2010000084, 0x10000, 0, 11, 0⟩
def AX.ADC_CHK.TOL_REL : RF := ⟨0x2010000084, 0x10000, 0, 23, 16⟩
def AX.ADC_CHK.LIM : RF := ⟨0x2010000084, 0x10000, 0, 27, 24⟩
def AX.ADC_STATUS.CHK_MISM : RF := ⟨0x2010000088, 0x10000, 0, 1, 0⟩
def AX.ADC_STATUS.OVR : RF := ⟨0x2010000088, 0x10000, 0, 2, 2⟩
def AX.ADC_STATUS.WAKE_DROP : RF := ⟨0x2010000088, 0x10000, 0, 3, 3⟩
def AX.ADC_STATUS.CAL_SKIP : RF := ⟨0x2010000088, 0x10000, 0, 4, 4⟩
def AX.ADC_STATUS.MISM_CNT_A : RF := ⟨0x2010000088, 0x10000, 0, 11, 8⟩
def AX.ADC_STATUS.MISM_CNT_B : RF := ⟨0x2010000088, 0x10000, 0, 15, 12⟩
def AX.ADC_STATUS.TRIG_DROP : RF := ⟨0x2010000088, 0x10000, 0, 31, 16⟩
def AX.ADC_HEALTH.FAIL : RF := ⟨0x201000008C, 0x10000, 0, 2, 0⟩
def AX.ADC_HEALTH.ROLE_K : RF := ⟨0x201000008C, 0x10000, 0, 4, 3⟩
def AX.ADC_HEALTH.CAL_ERR : RF := ⟨0x201000008C, 0x10000, 0, 7, 5⟩
def AX.CAL_OFS.OFS : RF := ⟨0x2010000090, 0x10000, 8, 31, 0⟩
def AX.CAL_GAIN.GAIN : RF := ⟨0x2010000094, 0x10000, 8, 31, 0⟩
def AX.PV_CFG.EN : RF := ⟨0x20100000B0, 0x10000, 0, 0, 0⟩
def AX.PV_CFG.OWNER : RF := ⟨0x20100000B0, 0x10000, 0, 1, 1⟩
def AX.PV_CFG.HYS : RF := ⟨0x20100000B0, 0x10000, 0, 3, 2⟩
def AX.PV_DAC.TH : RF := ⟨0x20100000B4, 0x10000, 4, 9, 0⟩
def AX.PV_STATUS.LEVEL : RF := ⟨0x20100000C0, 0x10000, 0, 2, 0⟩
def AX.PV_STATUS.WR_REFUSED : RF := ⟨0x20100000C0, 0x10000, 0, 3, 3⟩
def AX.FOC_CTRL.RUN : RF := ⟨0x2010000200, 0x10000, 0, 0, 0⟩
def AX.FOC_CTRL.CUR_MAN : RF := ⟨0x2010000200, 0x10000, 0, 1, 1⟩
def AX.FOC_CTRL.SPD_EN : RF := ⟨0x2010000200, 0x10000, 0, 2, 2⟩
def AX.FOC_CTRL.TRACK : RF := ⟨0x2010000200, 0x10000, 0, 3, 3⟩
def AX.FOC_CTRL.OVM : RF := ⟨0x2010000200, 0x10000, 0, 4, 4⟩
def AX.FOC_CTRL.PRIO : RF := ⟨0x2010000200, 0x10000, 0, 5, 5⟩
def AX.FOC_CTRL.DTC_EN : RF := ⟨0x2010000200, 0x10000, 0, 6, 6⟩
def AX.FOC_CTRL.FF_EN : RF := ⟨0x2010000200, 0x10000, 0, 7, 7⟩
def AX.FOC_CTRL.ADV_MODE : RF := ⟨0x2010000200, 0x10000, 0, 9, 8⟩
def AX.FOC_CTRL.LOCK : RF := ⟨0x2010000200, 0x10000, 0, 10, 10⟩
def AX.FOC_SAMP.POS : RF := ⟨0x2010000204, 0x10000, 0, 17, 0⟩
def AX.FOC_ADV.ADV : RF := ⟨0x2010000208, 0x10000, 0, 17, 0⟩
def AX.FOC_VBASE.VBASE : RF := ⟨0x201000020C, 0x10000, 0, 15, 0⟩
def AX.FOC_VBASE.VMIN : RF := ⟨0x201000020C, 0x10000, 0, 31, 16⟩
def AX.FOC_MOD.MOD_MAX : RF := ⟨0x2010000210, 0x10000, 0, 23, 0⟩
def AX.FOC_ID_REF.VALUE : RF := ⟨0x2010000214, 0x10000, 0, 31, 0⟩
def AX.FOC_IQ_REF.VALUE : RF := ⟨0x2010000218, 0x10000, 0, 31, 0⟩
def AX.FOC_IQ_LIM_MOT.LIM : RF := ⟨0x201000021C, 0x10000, 0, 30, 0⟩
def AX.FOC_IQ_LIM_REG.LIM : RF := ⟨0x2010000220, 0x10000, 0, 30, 0⟩
def AX.FOC_VD_MAN.VALUE : RF := ⟨0x2010000224, 0x10000, 0, 31, 0⟩
def AX.FOC_VQ_MAN.VALUE : RF := ⟨0x2010000228, 0x10000, 0, 31, 0⟩
def AX.FOC_DTC.IBAND : RF := ⟨0x20100002C0, 0x10000, 0, 14, 0⟩
def AX.FOC_FF_CFG.WSHIFT : RF := ⟨0x20100002C4, 0x10000, 0, 4, 0⟩
def AX.FOC_KLD.K : RF := ⟨0x20100002C8, 0x10000, 0, 31, 0⟩
def AX.FOC_KLQ.K : RF := ⟨0x20100002CC, 0x10000, 0, 31, 0⟩
def AX.FOC_KPSI.K : RF := ⟨0x20100002D0, 0x10000, 0, 31, 0⟩
def AX.FOC_STATUS.SECTOR : RF := ⟨0x20100002E0, 0x10000, 0, 2, 0⟩
def AX.FOC_STATUS.VLIM : RF := ⟨0x20100002E0, 0x10000, 0, 3, 3⟩
def AX.FOC_STATUS.SAMP_CLAMP : RF := ⟨0x20100002E0, 0x10000, 0, 4, 4⟩
def AX.FOC_STATUS.BUS_LOW : RF := ⟨0x20100002E0, 0x10000, 0, 5, 5⟩
def AX.FOC_STATUS.PRESET_INEXACT : RF := ⟨0x20100002E0, 0x10000, 0, 6, 6⟩
def AX.FOC_STATUS.MAN_REFUSED : RF := ⟨0x20100002E0, 0x10000, 0, 7, 7⟩
def AX.FOC_STATUS.SKIP_CNT : RF := ⟨0x20100002E0, 0x10000, 0, 15, 8⟩
def AX.FOC_STATUS.VLIM_CNT : RF := ⟨0x20100002E0, 0x10000, 0, 31, 16⟩
def AX.FOC_VBUS.VBUS : RF := ⟨0x20100002E4, 0x10000, 0, 15, 0⟩
def AX.SPD_CTRL.DIV : RF := ⟨0x2010000300, 0x10000, 0, 7, 0⟩
def AX.SPD_CTRL.ESHIFT : RF := ⟨0x2010000300, 0x10000, 0, 11, 8⟩
def AX.SPD_CTRL.HOLD : RF := ⟨0x2010000300, 0x10000, 0, 12, 12⟩
def AX.SPD_CTRL.PRESET : RF := ⟨0x2010000300, 0x10000, 0, 13, 13⟩
def AX.SPD_CTRL.LOAD_FF : RF := ⟨0x2010000300, 0x10000, 0, 14, 14⟩
def AX.SPD_TARGET.VALUE : RF := ⟨0x2010000304, 0x10000, 0, 31, 0⟩
def AX.SPD_ACC.VALUE : RF := ⟨0x2010000308, 0x10000, 0, 31, 0⟩
def AX.SPD_DEC.VALUE : RF := ⟨0x201000030C, 0x10000, 0, 31, 0⟩
def AX.SPD_LAG.VALUE : RF := ⟨0x2010000310, 0x10000, 0, 30, 0⟩
def AX.SPD_REF.REF : RF := ⟨0x2010000314, 0x10000, 0, 31, 0⟩
def AX.SPD_STATUS.AT_TARGET : RF := ⟨0x2010000318, 0x10000, 0, 0, 0⟩
def AX.SPD_STATUS.LAG_HOLD : RF := ⟨0x2010000318, 0x10000, 0, 1, 1⟩
def AX.SPD_STATUS.TQ_LIM : RF := ⟨0x2010000318, 0x10000, 0, 2, 2⟩
def AX.SPD_STATUS.BUS_LIMITED : RF := ⟨0x2010000318, 0x10000, 0, 3, 3⟩
def AX.SPD_STATUS.HELD : RF := ⟨0x2010000318, 0x10000, 0, 4, 4⟩
def AX.SPD_DERATE.TQ : RF := ⟨0x201000031C, 0x10000, 0, 15, 0⟩
def AX.SPD_DERATE.ACC : RF := ⟨0x201000031C, 0x10000, 0, 31, 16⟩
def AX.SPD_KLOAD.KLOAD : RF := ⟨0x2010000344, 0x10000, 0, 31, 0⟩
def AX.SPD_BUS_LIM.LIM : RF := ⟨0x2010000348, 0x10000, 0, 30, 0⟩
def AX.CMT_CTRL.LW_EN : RF := ⟨0x2010000600, 0x10000, 0, 0, 0⟩
def AX.CMT_CTRL.GATE : RF := ⟨0x2010000600, 0x10000, 0, 1, 1⟩
def AX.CMT_CTRL.START_MODE : RF := ⟨0x2010000600, 0x10000, 0, 3, 2⟩
def AX.CMT_CTRL.REV_MODE : RF := ⟨0x2010000600, 0x10000, 0, 5, 4⟩
def AX.CMT_CTRL.LOCK : RF := ⟨0x2010000600, 0x10000, 0, 6, 6⟩
def AX.CMT_CTRL.TH : RF := ⟨0x2010000600, 0x10000, 0, 17, 8⟩
def AX.CMT_LW.LEN : RF := ⟨0x2010000604, 0x10000, 0, 10, 0⟩
def AX.CMT_LW.DECAY : RF := ⟨0x2010000604, 0x10000, 0, 21, 12⟩
def AX.CMT_LW.QUAL : RF := ⟨0x2010000604, 0x10000, 0, 31, 24⟩
def AX.CMT_OFS.OFS : RF := ⟨0x2010000608, 0x10000, 0, 23, 0⟩
def AX.CMT_OFS.REJ_LIM : RF := ⟨0x2010000608, 0x10000, 0, 31, 24⟩
def AX.CMT_SPD_MIN.VALUE : RF := ⟨0x201000060C, 0x10000, 0, 30, 0⟩
def AX.CMT_SPD_MAX.VALUE : RF := ⟨0x2010000610, 0x10000, 0, 30, 0⟩
def AX.CMT_IMAX.VALUE : RF := ⟨0x2010000614, 0x10000, 0, 30, 0⟩
def AX.CMT_GAIN.KP : RF := ⟨0x2010000618, 0x10000, 0, 15, 0⟩
def AX.CMT_GAIN.KI : RF := ⟨0x2010000618, 0x10000, 0, 31, 16⟩
def AX.CMT_EPS_LIM.VALUE : RF := ⟨0x2010000620, 0x10000, 0, 30, 0⟩
def AX.CMT_C_LIM.VALUE : RF := ⟨0x2010000624, 0x10000, 0, 30, 0⟩
def AX.CMT_CATCH_MAX.VALUE : RF := ⟨0x2010000628, 0x10000, 0, 30, 0⟩
def AX.CMT_SPD_HAND.VALUE : RF := ⟨0x201000062C, 0x10000, 0, 30, 0⟩
def AX.CMT_I_ALIGN.VALUE : RF := ⟨0x2010000630, 0x10000, 0, 30, 0⟩
def AX.CMT_I_OPEN.VALUE : RF := ⟨0x2010000634, 0x10000, 0, 30, 0⟩
def AX.CMT_START.GO : RF := ⟨0x2010000638, 0x10000, 0, 0, 0⟩
def AX.CMT_START.ABORT : RF := ⟨0x2010000638, 0x10000, 0, 1, 1⟩
def AX.CMT_TIMES.LISTEN_T : RF := ⟨0x201000063C, 0x10000, 0, 7, 0⟩
def AX.CMT_TIMES.ALIGN_T : RF := ⟨0x201000063C, 0x10000, 0, 15, 8⟩
def AX.CMT_TIMES.OPEN_T : RF := ⟨0x201000063C, 0x10000, 0, 23, 16⟩
def AX.CMT_TIMES.BRAKE_T : RF := ⟨0x201000063C, 0x10000, 0, 31, 24⟩
def AX.CMT_LIMITS.HAND_N : RF := ⟨0x2010000640, 0x10000, 0, 3, 0⟩
def AX.CMT_LIMITS.BRAKE_N : RF := ⟨0x2010000640, 0x10000, 0, 7, 4⟩
def AX.CMT_LIMITS.WAIT_MAX : RF := ⟨0x2010000640, 0x10000, 0, 15, 8⟩
def AX.CMT_STATUS.STATE : RF := ⟨0x2010000650, 0x10000, 0, 2, 0⟩
def AX.CMT_STATUS.DIR : RF := ⟨0x2010000650, 0x10000, 0, 3, 3⟩
def AX.CMT_STATUS.RESULT : RF := ⟨0x2010000650, 0x10000, 0, 7, 4⟩
def AX.CMT_STATUS.GO_REFUSED : RF := ⟨0x2010000650, 0x10000, 0, 8, 8⟩
def AX.CMT_STATUS.CFG_REFUSED : RF := ⟨0x2010000650, 0x10000, 0, 9, 9⟩
def AX.CMT_STATUS.SHIFT : RF := ⟨0x2010000650, 0x10000, 0, 10, 10⟩
def AX.CMT_STATUS.LW_SHORT : RF := ⟨0x2010000650, 0x10000, 0, 11, 11⟩
def AX.CMT_STATUS.CORR_BIG : RF := ⟨0x2010000650, 0x10000, 0, 12, 12⟩
def AX.CMT_STATUS.SYNC_LOST : RF := ⟨0x2010000650, 0x10000, 0, 13, 13⟩
def AX.CMT_STATUS.WINDOW : RF := ⟨0x2010000650, 0x10000, 0, 14, 14⟩
def AX.CMT_CNT.QUALIFIED : RF := ⟨0x2010000654, 0x10000, 0, 15, 0⟩
def AX.CMT_CNT.WRONG_DIR : RF := ⟨0x2010000654, 0x10000, 0, 23, 16⟩
def AX.CMT_CNT.BOUNCE : RF := ⟨0x2010000654, 0x10000, 0, 27, 24⟩
def AX.CMT_CNT.SHIFT_CNT : RF := ⟨0x2010000654, 0x10000, 0, 31, 28⟩
def AX.CMT_FAIL_CNT.NONE : RF := ⟨0x2010000658, 0x10000, 0, 7, 0⟩
def AX.CMT_FAIL_CNT.EARLY : RF := ⟨0x2010000658, 0x10000, 0, 15, 8⟩
def AX.CMT_FAIL_CNT.REJECT : RF := ⟨0x2010000658, 0x10000, 0, 23, 16⟩
def AX.CMT_FAIL_CNT.SKIP : RF := ⟨0x2010000658, 0x10000, 0, 31, 24⟩
def AX.CMT_LAST : RF := ⟨0x2010000660, 0x10000, 0, 63, 0⟩
def AX.CMT_LAST_ERR.VALUE : RF := ⟨0x2010000668, 0x10000, 0, 31, 0⟩
def AX.CMT_CORR.VALUE : RF := ⟨0x201000066C, 0x10000, 0, 31, 0⟩
def AX.CMT_SCORR.VALUE : RF := ⟨0x2010000670, 0x10000, 0, 31, 0⟩
def AX.CMT_MEAS_SPD.VALUE : RF := ⟨0x2010000674, 0x10000, 0, 31, 0⟩
def AX.CMT_MEAS_ANGLE.VALUE : RF := ⟨0x2010000678, 0x10000, 0, 31, 0⟩
def AX.BUS_CFG.SEG : RF := ⟨0x2010000680, 0x10000, 0, 3, 0⟩
def AX.BUS_CFG.PM : RF := ⟨0x2010000680, 0x10000, 0, 4, 4⟩
def AX.BUS_CFG.ABSORB : RF := ⟨0x2010000680, 0x10000, 0, 5, 5⟩
def AX.BUS_CFG.LOCK : RF := ⟨0x2010000680, 0x10000, 0, 6, 6⟩
def AX.BUS_CFG.WEIGHT : RF := ⟨0x2010000680, 0x10000, 0, 15, 8⟩
def AX.BUS_ASC_SPD.VALUE : RF := ⟨0x2010000684, 0x10000, 0, 30, 0⟩
def AX.BUS_ABS_LIM.VALUE : RF := ⟨0x2010000688, 0x10000, 0, 30, 0⟩
def AX.BUS_ISCALE.VALUE : RF := ⟨0x201000068C, 0x10000, 0, 30, 0⟩
def AX.BUS_ABS.DIQ : RF := ⟨0x2010000690, 0x10000, 0, 31, 0⟩
def AX.BUS_STATUS.CFG_REFUSED : RF := ⟨0x2010000694, 0x10000, 0, 0, 0⟩
def AX.BUS_STATUS.ABSORBING : RF := ⟨0x2010000694, 0x10000, 0, 1, 1⟩
def AX.BUS_STATUS.T2_ACT : RF := ⟨0x2010000694, 0x10000, 0, 3, 2⟩
def AX.OBS_CFG.PRIO_T : RF := ⟨0x2010000700, 0x10000, 0, 1, 0⟩
def AX.OBS_CFG.PRIO_L : RF := ⟨0x2010000700, 0x10000, 0, 3, 2⟩
def AX.OBS_CFG.ESC_ACT : RF := ⟨0x2010000700, 0x10000, 0, 4, 4⟩
def AX.OBS_CFG.RESUME : RF := ⟨0x2010000700, 0x10000, 0, 5, 5⟩
def AX.OBS_CFG.FORCE_CLS : RF := ⟨0x2010000700, 0x10000, 0, 6, 6⟩
def AX.OBS_CFG.LOCK : RF := ⟨0x2010000700, 0x10000, 0, 7, 7⟩
def AX.OBS_CFG.ESC_WIN : RF := ⟨0x2010000700, 0x10000, 0, 15, 8⟩
def AX.OBS_CFG.ESC_N : RF := ⟨0x2010000700, 0x10000, 0, 19, 16⟩
def AX.OBS_PCFG.WSHIFT : RF := ⟨0x2010000704, 0x10000, 0, 4, 0⟩
def AX.OBS_PCFG.MAG_MIN : RF := ⟨0x2010000704, 0x10000, 0, 31, 16⟩
def AX.OBS_TOL.TOL_P : RF := ⟨0x2010000708, 0x10000, 0, 7, 0⟩
def AX.OBS_TOL.TOL_T : RF := ⟨0x2010000708, 0x10000, 0, 15, 8⟩
def AX.OBS_TOL.TOL_L : RF := ⟨0x2010000708, 0x10000, 0, 23, 16⟩
def AX.OBS_W_MAX.VALUE : RF := ⟨0x201000070C, 0x10000, 0, 30, 0⟩
def AX.OBS_ANG_MAX.VALUE : RF := ⟨0x2010000710, 0x10000, 0, 23, 0⟩
def AX.OBS_T_RANGE.LOW : RF := ⟨0x2010000714, 0x10000, 0, 15, 0⟩
def AX.OBS_T_RANGE.HIGH : RF := ⟨0x2010000714, 0x10000, 0, 31, 16⟩
def AX.OBS_L_RANGE.LOW : RF := ⟨0x2010000718, 0x10000, 0, 15, 0⟩
def AX.OBS_L_RANGE.HIGH : RF := ⟨0x2010000718, 0x10000, 0, 31, 16⟩
def AX.OBS_RATE.LOW : RF := ⟨0x201000071C, 0x10000, 0, 15, 0⟩
def AX.OBS_RATE.HIGH : RF := ⟨0x201000071C, 0x10000, 0, 31, 16⟩
def AX.OBS_STATUS.MODE : RF := ⟨0x2010000720, 0x10000, 0, 0, 0⟩
def AX.OBS_STATUS.PRESENT : RF := ⟨0x2010000720, 0x10000, 0, 3, 1⟩
def AX.OBS_STATUS.BG : RF := ⟨0x2010000720, 0x10000, 0, 6, 4⟩
def AX.OBS_STATUS.UNCHECKED : RF := ⟨0x2010000720, 0x10000, 0, 9, 7⟩
def AX.OBS_STATUS.MISM : RF := ⟨0x2010000720, 0x10000, 0, 10, 10⟩
def AX.OBS_STATUS.INVALID : RF := ⟨0x2010000720, 0x10000, 0, 11, 11⟩
def AX.OBS_STATUS.CLAMP : RF := ⟨0x2010000720, 0x10000, 0, 12, 12⟩
def AX.OBS_STATUS.LATE : RF := ⟨0x2010000720, 0x10000, 0, 13, 13⟩
def AX.OBS_STATUS.ESC : RF := ⟨0x2010000720, 0x10000, 0, 14, 14⟩
def AX.OBS_STATUS.WIN_CNT : RF := ⟨0x2010000720, 0x10000, 0, 23, 16⟩
def AX.OBS_STATUS.CLAMP_CNT : RF := ⟨0x2010000720, 0x10000, 0, 31, 24⟩
def AX.OBS_CNT.EVAL_CNT : RF := ⟨0x2010000724, 0x10000, 0, 15, 0⟩
def AX.OBS_CNT.MISM_CNT : RF := ⟨0x2010000724, 0x10000, 0, 31, 16⟩
def AX.OBS_LAST_MISM : RF := ⟨0x2010000728, 0x10000, 0, 63, 0⟩
def AX.OBS_EST_THETA.THETA : RF := ⟨0x2010000730, 0x10000, 0, 23, 0⟩
def AX.OBS_EST_OMEGA.OMEGA : RF := ⟨0x2010000734, 0x10000, 0, 31, 0⟩
def AX.OBS_EST_T.T_W : RF := ⟨0x2010000738, 0x10000, 0, 15, 0⟩
def AX.OBS_EST_T.T_B : RF := ⟨0x2010000738, 0x10000, 0, 31, 16⟩
def AX.OBS_EST_LOAD.LOAD : RF := ⟨0x201000073C, 0x10000, 0, 15, 0⟩
def AX.OBS_EST_STAMP : RF := ⟨0x2010000740, 0x10000, 0, 63, 0⟩
def AX.OBS_EST_SRC.SRC : RF := ⟨0x2010000748, 0x10000, 0, 5, 0⟩
def AX.OBS_CLS_KJ.KJ : RF := ⟨0x2010000750, 0x10000, 0, 31, 0⟩
def AX.OBS_CLS_RS.RS : RF := ⟨0x2010000760, 0x10000, 0, 31, 0⟩
def AX.OBS_CLS_LD.LD : RF := ⟨0x2010000764, 0x10000, 0, 31, 0⟩
def AX.OBS_CLS_LQ.LQ : RF := ⟨0x2010000768, 0x10000, 0, 31, 0⟩
def AX.OBS_CLS_KP.KP_C : RF := ⟨0x201000076C, 0x10000, 0, 31, 0⟩
def AX.OBS_CLS_KI.KI_C : RF := ⟨0x2010000770, 0x10000, 0, 31, 0⟩
def AX.OBS_CLS_TH.KH : RF := ⟨0x2010000774, 0x10000, 0, 15, 0⟩
def AX.OBS_CLS_TH.KC : RF := ⟨0x2010000774, 0x10000, 0, 31, 16⟩
def AX.OBS_CLS_TAMB.T_AMB : RF := ⟨0x2010000778, 0x10000, 0, 15, 0⟩
def AX.OBS_CLS_TAMB.BOFS : RF := ⟨0x2010000778, 0x10000, 0, 31, 16⟩
def AX.OBS_CLS_LOAD.KL : RF := ⟨0x201000077C, 0x10000, 0, 15, 0⟩
def AX.SAF_CFG.GROUP : RF := ⟨0x2010000780, 0x10000, 0, 4, 0⟩
def AX.SAF_CFG.SLS_EN : RF := ⟨0x2010000780, 0x10000, 0, 5, 5⟩
def AX.SAF_CFG.PAIR : RF := ⟨0x2010000780, 0x10000, 0, 6, 6⟩
def AX.SAF_CFG.SS1_MODE : RF := ⟨0x2010000780, 0x10000, 0, 7, 7⟩
def AX.SAF_CFG.SPD_TOL : RF := ⟨0x2010000780, 0x10000, 0, 23, 8⟩
def AX.SAF_CFG.SPD_N : RF := ⟨0x2010000780, 0x10000, 0, 27, 24⟩
def AX.SAF_SLS.SLS_LIM : RF := ⟨0x2010000784, 0x10000, 0, 30, 0⟩
def AX.SAF_SLS.ACT : RF := ⟨0x2010000784, 0x10000, 0, 31, 31⟩
def AX.SAF_SS1_DEC.VALUE : RF := ⟨0x2010000788, 0x10000, 0, 30, 0⟩
def AX.SAF_SS1_T.MS : RF := ⟨0x201000078C, 0x10000, 0, 15, 0⟩
def AX.SAF_SS_LIM.VALUE : RF := ⟨0x2010000790, 0x10000, 0, 30, 0⟩
def AX.SAF_STATUS.STATE : RF := ⟨0x2010000794, 0x10000, 0, 1, 0⟩
def AX.SAF_STATUS.SLS_ACT : RF := ⟨0x2010000794, 0x10000, 0, 2, 2⟩
def AX.SAF_STATUS.SINGLE : RF := ⟨0x2010000794, 0x10000, 0, 3, 3⟩
def AX.SAF_STATUS.REACT : RF := ⟨0x2010000794, 0x10000, 0, 4, 4⟩
def AX.SAF_STATUS.CODE : RF := ⟨0x2010000794, 0x10000, 0, 10, 5⟩
def AX.SAF_SPEED.SPEED : RF := ⟨0x2010000798, 0x10000, 0, 31, 0⟩
def CMP.CFG.ORDER : RF := ⟨0, 1, 0, 0, 0⟩
def CMP.CFG.AW : RF := ⟨0, 1, 0, 2, 1⟩
def CMP.CFG.APPLY : RF := ⟨0, 1, 0, 3, 3⟩
def CMP.B.B : RF := ⟨4, 1, 4, 31, 0⟩
def CMP.A.A : RF := ⟨0x14, 1, 4, 31, 0⟩
def CMP.LIM.LIM : RF := ⟨0x20, 1, 0, 30, 0⟩
def MON.CTRL.SNAP : RF := ⟨0, 1, 0, 0, 0⟩
def MON.CTRL.AUTO : RF := ⟨0, 1, 0, 31, 16⟩
def MON.CNT.CNT : RF := ⟨4, 1, 0, 31, 0⟩
def MON.ACC : RF := ⟨8, 1, 0, 63, 0⟩
def MON.MIN.MIN : RF := ⟨0x10, 1, 0, 31, 0⟩
def MON.MAX.MAX : RF := ⟨0x14, 1, 0, 31, 0⟩
def MON.MIN_TIME : RF := ⟨0x18, 1, 0, 63, 0⟩
def MON.MAX_TIME : RF := ⟨0x20, 1, 0, 63, 0⟩
def MON.SNAP_TIME : RF := ⟨0x28, 1, 0, 63, 0⟩
def MON.STATUS.CNT_SAT : RF := ⟨0x30, 1, 0, 0, 0⟩
def MON.STATUS.OVR_CNT : RF := ⟨0x30, 1, 0, 31, 16⟩
def MF.CAL_CMD.START : RF := ⟨0x2000080000, 0, 0, 0, 0⟩
def MF.CAL_CMD.CUR : RF := ⟨0x2000080000, 0, 0, 1, 1⟩
def MF.CAL_CMD.DCB : RF := ⟨0x2000080000, 0, 0, 2, 2⟩
def MF.CAL_CMD.VIB : RF := ⟨0x2000080000, 0, 0, 3, 3⟩
def MF.CAL_CMD.HK : RF := ⟨0x2000080000, 0, 0, 4, 4⟩
def MF.CAL_STATUS.BUSY : RF := ⟨0x2000080004, 0, 0, 0, 0⟩
def MF.CAL_STATUS.DONE : RF := ⟨0x2000080004, 0, 0, 1, 1⟩
def MF.CAL_STATUS.CAL_REFUSED : RF := ⟨0x2000080004, 0, 0, 2, 2⟩
def MF.CAL_STATUS.REF_ERR : RF := ⟨0x2000080004, 0, 0, 3, 3⟩
def MF.CAL_STATUS.DCB_SKIP : RF := ⟨0x2000080004, 0, 0, 15, 8⟩
def MF.CAL_TIME : RF := ⟨0x2000080008, 0, 0, 63, 0⟩
def MF.CAL_OFS.OFS : RF := ⟨0x2000080800, 0, 8, 31, 0⟩
def MF.CAL_GAIN.GAIN : RF := ⟨0x2000080804, 0, 8, 31, 0⟩
def MF.DCB_CFG.OV_TH : RF := ⟨0x2000080100, 0x10, 0, 9, 0⟩
def MF.DCB_CFG.CHFB_TH : RF := ⟨0x2000080100, 0x10, 0, 25, 16⟩
def MF.DCB_STATUS.OV : RF := ⟨0x2000080104, 0x10, 0, 0, 0⟩
def MF.DCB_STATUS.CHFB : RF := ⟨0x2000080104, 0x10, 0, 1, 1⟩
def MF.DCB_STATUS.OVR : RF := ⟨0x2000080104, 0x10, 0, 2, 2⟩
def MF.DCB_STATUS.CAL_ERR : RF := ⟨0x2000080104, 0x10, 0, 3, 3⟩
def MF.VIB_CFG.PD : RF := ⟨0x2000080200, 0x10, 0, 0, 0⟩
def MF.VIB_CFG.ORDER : RF := ⟨0x2000080200, 0x10, 0, 2, 1⟩
def MF.VIB_CFG.PAIR : RF := ⟨0x2000080200, 0x10, 0, 3, 3⟩
def MF.VIB_NOTCH.F : RF := ⟨0x2000080204, 0x10, 0, 14, 0⟩
def MF.VIB_NOTCH.BW : RF := ⟨0x2000080204, 0x10, 0, 18, 16⟩
def MF.VIB_STATUS.SETTLING : RF := ⟨0x2000080208, 0x10, 0, 0, 0⟩
def MF.VIB_STATUS.INTLV_LOCK : RF := ⟨0x2000080208, 0x10, 0, 1, 1⟩
def MF.VIB_STATUS.CFG_ERR : RF := ⟨0x2000080208, 0x10, 0, 2, 2⟩
def MF.VIB_STATUS.OVR : RF := ⟨0x2000080208, 0x10, 0, 3, 3⟩
def MF.VIB_STATUS.CAL_ERR : RF := ⟨0x2000080208, 0x10, 0, 4, 4⟩
def MF.VIB_STATUS.RESTART_CNT : RF := ⟨0x2000080208, 0x10, 0, 31, 16⟩
def HK.CTRL.START : RF := ⟨0x2000082000, 0x800, 0, 0, 0⟩
def HK.CTRL.MODE : RF := ⟨0x2000082000, 0x800, 0, 1, 1⟩
def HK.CTRL.PD_AUTO : RF := ⟨0x2000082000, 0x800, 0, 2, 2⟩
def HK.CTRL.STOP : RF := ⟨0x2000082000, 0x800, 0, 3, 3⟩
def HK.STATUS.RUN : RF := ⟨0x2000082004, 0x800, 0, 0, 0⟩
def HK.STATUS.DONE : RF := ⟨0x2000082004, 0x800, 0, 1, 1⟩
def HK.STATUS.EMPTY : RF := ⟨0x2000082004, 0x800, 0, 2, 2⟩
def HK.STATUS.START_OVR : RF := ⟨0x2000082004, 0x800, 0, 3, 3⟩
def HK.STATUS.URG_DONE : RF := ⟨0x2000082004, 0x800, 0, 4, 4⟩
def HK.STATUS.URG_OVF : RF := ⟨0x2000082004, 0x800, 0, 5, 5⟩
def HK.STATUS.ENTRY : RF := ⟨0x2000082004, 0x800, 0, 13, 8⟩
def HK.STATUS.URG_ABORT_CNT : RF := ⟨0x2000082004, 0x800, 0, 31, 16⟩
def HK.URGENT.REQ : RF := ⟨0x2000082008, 0x800, 0, 0, 0⟩
def HK.URGENT.CH : RF := ⟨0x2000082008, 0x800, 0, 7, 2⟩
def HK.URGENT.EXC : RF := ⟨0x2000082008, 0x800, 0, 9, 8⟩
def HK.URGENT.ACQ : RF := ⟨0x2000082008, 0x800, 0, 13, 10⟩
def HK.URG_RESULT.VALUE : RF := ⟨0x200008200C, 0x800, 0, 31, 0⟩
def HK.URG_STAMP : RF := ⟨0x2000082010, 0x800, 0, 63, 0⟩
def HK.TABLE.CH : RF := ⟨0x2000082100, 0x800, 4, 5, 0⟩
def HK.TABLE.EXC : RF := ⟨0x2000082100, 0x800, 4, 7, 6⟩
def HK.TABLE.ACQ : RF := ⟨0x2000082100, 0x800, 4, 11, 8⟩
def HK.TABLE.REPEAT : RF := ⟨0x2000082100, 0x800, 4, 19, 12⟩
def HK.TABLE.DELAY : RF := ⟨0x2000082100, 0x800, 4, 27, 20⟩
def HK.TABLE.AVG : RF := ⟨0x2000082100, 0x800, 4, 28, 28⟩
def HK.TABLE.END : RF := ⟨0x2000082100, 0x800, 4, 29, 29⟩
def HK.RESULT.VALUE : RF := ⟨0x2000082200, 0x800, 4, 15, 0⟩
def HK.RESULT.VALID : RF := ⟨0x2000082200, 0x800, 4, 16, 16⟩
def HK.RESULT.OVR : RF := ⟨0x2000082200, 0x800, 4, 17, 17⟩
def HK.RESULT.PASS : RF := ⟨0x2000082200, 0x800, 4, 31, 24⟩
def HK.STAMP : RF := ⟨0x2000082300, 0x800, 8, 63, 0⟩
def BUS.CTRL.CHOP_PRESENT : RF := ⟨0x2000090000, 0x100, 0, 0, 0⟩
def BUS.CTRL.HOLD_MODE : RF := ⟨0x2000090000, 0x100, 0, 1, 1⟩
def BUS.CTRL.LOCK : RF := ⟨0x2000090000, 0x100, 0, 2, 2⟩
def BUS.TH1.TH1_ON : RF := ⟨0x2000090004, 0x100, 0, 15, 0⟩
def BUS.TH1.TH1_OFF : RF := ⟨0x2000090004, 0x100, 0, 31, 16⟩
def BUS.TH2.TH2 : RF := ⟨0x2000090008, 0x100, 0, 15, 0⟩
def BUS.TH2.V_HOLD : RF := ⟨0x2000090008, 0x100, 0, 31, 16⟩
def BUS.UV.UV : RF := ⟨0x200009000C, 0x100, 0, 15, 0⟩
def BUS.CHOP_CFG.MIN_ON : RF := ⟨0x2000090010, 0x100, 0, 7, 0⟩
def BUS.CHOP_CFG.MAX_ON : RF := ⟨0x2000090010, 0x100, 0, 23, 8⟩
def BUS.HOLD_GAIN.KP_H : RF := ⟨0x2000090014, 0x100, 0, 15, 0⟩
def BUS.HOLD_GAIN.KI_H : RF := ⟨0x2000090014, 0x100, 0, 31, 16⟩
def BUS.ABS_GAIN.KA : RF := ⟨0x2000090018, 0x100, 0, 15, 0⟩
def BUS.VSCALE.VSCALE : RF := ⟨0x200009001C, 0x100, 0, 31, 0⟩
def BUS.CAP.CAP : RF := ⟨0x2000090020, 0x100, 0, 31, 0⟩
def BUS.RCHOP.RCHOP : RF := ⟨0x2000090024, 0x100, 0, 31, 0⟩
def BUS.STATUS.CHOP_ON : RF := ⟨0x2000090030, 0x100, 0, 0, 0⟩
def BUS.STATUS.CHOP_FAULT : RF := ⟨0x2000090030, 0x100, 0, 1, 1⟩
def BUS.STATUS.CAUSE : RF := ⟨0x2000090030, 0x100, 0, 3, 2⟩
def BUS.STATUS.CHOP_STUCK : RF := ⟨0x2000090030, 0x100, 0, 4, 4⟩
def BUS.STATUS.HOLD : RF := ⟨0x2000090030, 0x100, 0, 5, 5⟩
def BUS.STATUS.T2 : RF := ⟨0x2000090030, 0x100, 0, 6, 6⟩
def BUS.STATUS.UV : RF := ⟨0x2000090030, 0x100, 0, 7, 7⟩
def BUS.STATUS.NO_SAMPLE : RF := ⟨0x2000090030, 0x100, 0, 8, 8⟩
def BUS.STATUS.CFG_REFUSED : RF := ⟨0x2000090030, 0x100, 0, 9, 9⟩
def BUS.HOLD_LIM.L_BUS : RF := ⟨0x2000090034, 0x100, 0, 30, 0⟩
def BUS.VNOW.V : RF := ⟨0x2000090038, 0x100, 0, 15, 0⟩
def BUS.ACC_CTRL.CLEAR : RF := ⟨0x200009003C, 0x100, 0, 0, 0⟩
def BUS.ACC_CTRL.SNAP : RF := ⟨0x200009003C, 0x100, 0, 1, 1⟩
def BUS.ACC_CTRL.AUTO : RF := ⟨0x200009003C, 0x100, 0, 31, 16⟩
def BUS.E : RF := ⟨0x2000090040, 0x100, 8, 63, 0⟩
def BUS.ACC_SNAP_TIME : RF := ⟨0x2000090070, 0x100, 0, 63, 0⟩
def BUS.T2_TIME : RF := ⟨0x2000090078, 0x100, 0, 63, 0⟩
def BUS.CHOP_FAULT_TIME : RF := ⟨0x2000090080, 0x100, 0, 63, 0⟩
def OBS.LOAD_CMD.GO : RF := ⟨0x20000A0000, 0, 0, 0, 0⟩
def OBS.LOAD_CMD.REMOVE : RF := ⟨0x20000A0000, 0, 0, 1, 1⟩
def OBS.LOAD_CMD.KIND : RF := ⟨0x20000A0000, 0, 0, 3, 2⟩
def OBS.LOAD_CMD.AXIS : RF := ⟨0x20000A0000, 0, 0, 9, 4⟩
def OBS.LOAD_ADDR.ADDR : RF := ⟨0x20000A0004, 0, 0, 22, 0⟩
def OBS.LOAD_STATUS.BUSY : RF := ⟨0x20000A0008, 0, 0, 0, 0⟩
def OBS.LOAD_STATUS.DONE : RF := ⟨0x20000A0008, 0, 0, 1, 1⟩
def OBS.LOAD_STATUS.REFUSED : RF := ⟨0x20000A0008, 0, 0, 2, 2⟩
def OBS.LOAD_STATUS.CODE : RF := ⟨0x20000A0008, 0, 0, 6, 3⟩
def OBS.ADM_LIP.VALUE : RF := ⟨0x20000A000C, 0, 0, 31, 0⟩
def OBS.ADM_ERRB.VALUE : RF := ⟨0x20000A0010, 0, 0, 31, 0⟩
def OBS.LIP_LIM.LIM : RF := ⟨0x20000A0014, 0, 4, 31, 0⟩
def OBS.CTRL.LOCK : RF := ⟨0x20000A0020, 0, 0, 0, 0⟩
def OBS.LANES.USABLE : RF := ⟨0x20000A0024, 0, 0, 11, 0⟩
def OBS.LANES.P_USABLE : RF := ⟨0x20000A0024, 0, 0, 15, 12⟩
def OBS.LANES.TEST : RF := ⟨0x20000A0024, 0, 0, 27, 16⟩
def OBS.LANES.P_TEST : RF := ⟨0x20000A0024, 0, 0, 31, 28⟩
def OBS.LANE_FENCE.FENCE : RF := ⟨0x20000A0028, 0, 0, 11, 0⟩
def OBS.LANE_FENCE.P_FENCE : RF := ⟨0x20000A0028, 0, 0, 15, 12⟩
def OBS.PLAN.SUM : RF := ⟨0x20000A002C, 0, 0, 15, 0⟩
def OBS.PLAN.CMAX : RF := ⟨0x20000A002C, 0, 0, 23, 16⟩
def OBS.PLAN.COUNT : RF := ⟨0x20000A002C, 0, 0, 31, 24⟩
def OBS.PPLAN.SUM : RF := ⟨0x20000A0030, 0, 0, 15, 0⟩
def OBS.PPLAN.CMAX : RF := ⟨0x20000A0030, 0, 0, 23, 16⟩
def OBS.PPLAN.COUNT : RF := ⟨0x20000A0030, 0, 0, 31, 24⟩
def OBS.STATUS.DEMOTE : RF := ⟨0x20000A0034, 0, 0, 0, 0⟩
def OBS.STATUS.CLS_FORCED : RF := ⟨0x20000A0034, 0, 0, 1, 1⟩
def OBS.STATUS.UNCHECKED : RF := ⟨0x20000A0034, 0, 0, 2, 2⟩
def OBS.STATUS.LATE : RF := ⟨0x20000A0034, 0, 0, 3, 3⟩
def INF.ENG_MAP.MAP : RF := ⟨0x2020100000, 0, 0, 31, 0⟩
def INF.ENG_FENCE.FENCE : RF := ⟨0x2020100004, 0, 0, 7, 0⟩
def INF.ENG_STATUS.USABLE : RF := ⟨0x2020100008, 0, 0, 7, 0⟩
def INF.ENG_STATUS.TEST : RF := ⟨0x2020100008, 0, 0, 15, 8⟩
def INF.ENG_STATUS.HOST2 : RF := ⟨0x2020100008, 0, 0, 23, 16⟩
def INF.STATUS.UNAVAIL : RF := ⟨0x202010000C, 0, 0, 0, 0⟩
def INF.STATUS.DEMOTE : RF := ⟨0x202010000C, 0, 0, 1, 1⟩
def INF.STATUS.UNPROT : RF := ⟨0x202010000C, 0, 0, 23, 16⟩
def INF.UTIL_CTRL.SNAP : RF := ⟨0x2020100010, 0, 0, 0, 0⟩
def INF.UTIL_CTRL.AUTO : RF := ⟨0x2020100010, 0, 0, 31, 16⟩
def INF.UTIL_SNAP_TIME : RF := ⟨0x2020100018, 0, 0, 63, 0⟩
def ENG.CTRL.RESET : RF := ⟨0x2020000000, 0x10000, 0, 0, 0⟩
def ENG.STATUS.HOSTS : RF := ⟨0x2020000004, 0x10000, 0, 7, 0⟩
def ENG.STATUS.THREADS : RF := ⟨0x2020000004, 0x10000, 0, 16, 8⟩
def ENG.STATUS.FENCED : RF := ⟨0x2020000004, 0x10000, 0, 17, 17⟩
def ENG.STATUS.TEST : RF := ⟨0x2020000004, 0x10000, 0, 18, 18⟩
def ENG.UTIL : RF := ⟨0x2020000010, 0x10000, 8, 63, 0⟩
def CTX.CMD.OP : RF := ⟨0x2020200000, 0x100, 0, 3, 0⟩
def CTX.CMD.FRESH : RF := ⟨0x2020200000, 0x100, 0, 4, 4⟩
def CTX.CFG.BASE : RF := ⟨0x2020200004, 0x100, 0, 2, 0⟩
def CTX.CFG.SIZE : RF := ⟨0x2020200004, 0x100, 0, 4, 3⟩
def CTX.CFG.CLASS : RF := ⟨0x2020200004, 0x100, 0, 5, 5⟩
def CTX.CFG.PRIO : RF := ⟨0x2020200004, 0x100, 0, 7, 6⟩
def CTX.CFG.WDOG : RF := ⟨0x2020200004, 0x100, 0, 15, 8⟩
def CTX.QUEUES.IN_Q : RF := ⟨0x2020200008, 0x100, 0, 9, 0⟩
def CTX.QUEUES.IN_NONE : RF := ⟨0x2020200008, 0x100, 0, 10, 10⟩
def CTX.QUEUES.RES_Q : RF := ⟨0x2020200008, 0x100, 0, 25, 16⟩
def CTX.PROG : RF := ⟨0x2020200010, 0x100, 0, 63, 0⟩
def CTX.SNAP : RF := ⟨0x2020200018, 0x100, 0, 63, 0⟩
def CTX.TRIG_MIN.TICKS : RF := ⟨0x2020200020, 0x100, 0, 31, 0⟩
def CTX.STATUS.STATE : RF := ⟨0x2020200024, 0x100, 0, 1, 0⟩
def CTX.STATUS.BUSY : RF := ⟨0x2020200024, 0x100, 0, 2, 2⟩
def CTX.STATUS.DONE : RF := ⟨0x2020200024, 0x100, 0, 3, 3⟩
def CTX.STATUS.REFUSED : RF := ⟨0x2020200024, 0x100, 0, 4, 4⟩
def CTX.STATUS.RCODE : RF := ⟨0x2020200024, 0x100, 0, 8, 5⟩
def CTX.STATUS.STATE_LOST : RF := ⟨0x2020200024, 0x100, 0, 9, 9⟩
def CTX.STATUS.UNPROTECTED : RF := ⟨0x2020200024, 0x100, 0, 10, 10⟩
def CTX.STATUS.FRAME_ACTIVE : RF := ⟨0x2020200024, 0x100, 0, 11, 11⟩
def CTX.STATUS.LATCHED : RF := ⟨0x2020200024, 0x100, 0, 12, 12⟩
def CTX.STATUS.TRIG_IGN : RF := ⟨0x2020200024, 0x100, 0, 31, 16⟩
def CTX.FRAME.FRAME : RF := ⟨0x2020200028, 0x100, 0, 31, 0⟩
def CTX.LAST_CODE.CODE : RF := ⟨0x202020002C, 0x100, 0, 7, 0⟩
def CTX.LAST_CODE.FLAGS : RF := ⟨0x202020002C, 0x100, 0, 23, 8⟩
def CTX.LAST_TRIG : RF := ⟨0x2020200030, 0x100, 0, 63, 0⟩
def CTX.LAST_DONE : RF := ⟨0x2020200038, 0x100, 0, 63, 0⟩
def CTX.CLK_LAST.CLK : RF := ⟨0x2020200040, 0x100, 0, 31, 0⟩
def CTX.CLK_MAX.CLK : RF := ⟨0x2020200044, 0x100, 0, 31, 0⟩
def CTX.OVR_CNT.CNT : RF := ⟨0x2020200048, 0x100, 0, 31, 0⟩
def CTX.OUT_BASE : RF := ⟨0x2020200050, 0x100, 0, 63, 0⟩
def CTX.OUT_CFG.N : RF := ⟨0x2020200058, 0x100, 0, 7, 0⟩
def CTX.OUT_STRIDE.STRIDE : RF := ⟨0x202020005C, 0x100, 0, 31, 0⟩
def CTX.Q_CFG.CLIP_ALARM : RF := ⟨0x2020200080, 0x100, 0, 15, 0⟩
def CTX.Q_STATUS.CLIP_ALARM : RF := ⟨0x2020200084, 0x100, 0, 0, 0⟩
def CTX.Q_STATUS.NAN : RF := ⟨0x2020200084, 0x100, 0, 1, 1⟩
def CTX.Q_STATUS.DEVIATE : RF := ⟨0x2020200084, 0x100, 0, 2, 2⟩
def CTX.Q_STATUS.CONST : RF := ⟨0x2020200084, 0x100, 0, 3, 3⟩
def CTX.Q_STATUS.CONST_CH : RF := ⟨0x2020200084, 0x100, 0, 31, 16⟩
def CTX.Q_CLIP.CNT : RF := ⟨0x2020200088, 0x100, 0, 31, 0⟩
def CTX.Q_ELEM.CNT : RF := ⟨0x202020008C, 0x100, 0, 31, 0⟩
def CTX.Q_NAN.CNT : RF := ⟨0x2020200090, 0x100, 0, 31, 0⟩
def CTX.Q_DEV.CNT : RF := ⟨0x2020200094, 0x100, 0, 31, 0⟩
def CTX.Q_WORST.SHARE : RF := ⟨0x2020200098, 0x100, 0, 15, 0⟩
def CTX.Q_WORST.Q_ID : RF := ⟨0x2020200098, 0x100, 0, 25, 16⟩
def CTX.Q_HIST.FILL_MIN : RF := ⟨0x202020009C, 0x100, 0, 3, 0⟩
def CTX.Q_HIST.FILL_MAX : RF := ⟨0x202020009C, 0x100, 0, 7, 4⟩
def CTX.Q_HIST.N_Q : RF := ⟨0x202020009C, 0x100, 0, 18, 8⟩
def CTX.Q_CLIP_TOT : RF := ⟨0x20202000A0, 0x100, 0, 63, 0⟩
def CTX.Q_ELEM_TOT : RF := ⟨0x20202000A8, 0x100, 0, 63, 0⟩
def CTX.Q_NAN_TOT : RF := ⟨0x20202000B0, 0x100, 0, 63, 0⟩
def CTX.DIG_CFG.EN : RF := ⟨0x20202000C0, 0x100, 0, 0, 0⟩
def CTX.DIG_CFG.TWIN : RF := ⟨0x20202000C0, 0x100, 0, 1, 1⟩
def CTX.DIG_CFG.TRACE_ON_MISM : RF := ⟨0x20202000C0, 0x100, 0, 2, 2⟩
def CTX.DIG_STATUS.HAS_U : RF := ⟨0x20202000C4, 0x100, 0, 0, 0⟩
def CTX.DIG_STATUS.WDIG_VALID : RF := ⟨0x20202000C4, 0x100, 0, 1, 1⟩
def CTX.DIG_STATUS.TWIN_FENCED : RF := ⟨0x20202000C4, 0x100, 0, 2, 2⟩
def CTX.DIG_STATUS.TWIN_LOST : RF := ⟨0x20202000C4, 0x100, 0, 3, 3⟩
def CTX.DIG_STATUS.TRANSIENT : RF := ⟨0x20202000C4, 0x100, 0, 4, 4⟩
def CTX.DIG_STATUS.MISM_CNT : RF := ⟨0x20202000C4, 0x100, 0, 15, 8⟩
def CTX.DIG_STATUS.RERUN_OK_CNT : RF := ⟨0x20202000C4, 0x100, 0, 31, 16⟩
def CTX.TRACE_CTRL.ARM : RF := ⟨0x20202000C8, 0x100, 0, 0, 0⟩
def CTX.TRACE_CTRL.BUSY : RF := ⟨0x20202000C8, 0x100, 0, 1, 1⟩
def CTX.TRACE_CTRL.DONE : RF := ⟨0x20202000C8, 0x100, 0, 2, 2⟩
def CTX.TRACE_CTRL.ERR : RF := ⟨0x20202000C8, 0x100, 0, 3, 3⟩
def CTX.TRACE_BASE : RF := ⟨0x20202000D0, 0x100, 0, 63, 0⟩
def CTX.TWIN_MISM_TIME : RF := ⟨0x20202000D8, 0x100, 0, 63, 0⟩
def CTX.WDIGEST.W : RF := ⟨0x20202000E0, 0x100, 4, 31, 0⟩
def Q.CFG.EN : RF := ⟨0x2030000000, 0x40, 0, 0, 0⟩
def Q.CFG.DEPTH : RF := ⟨0x2030000000, 0x40, 0, 13, 1⟩
def Q.CFG.KIND : RF := ⟨0x2030000000, 0x40, 0, 15, 14⟩
def Q.CFG.FRAME_BOUND : RF := ⟨0x2030000000, 0x40, 0, 16, 16⟩
def Q.CFG.CTX : RF := ⟨0x2030000000, 0x40, 0, 22, 17⟩
def Q.BASE : RF := ⟨0x2030000004, 0x40, 0, 63, 0⟩
def Q.PROD.PROD : RF := ⟨0x203000000C, 0x40, 0, 15, 0⟩
def Q.TAKE.TAKE : RF := ⟨0x2030000010, 0x40, 0, 15, 0⟩
def Q.RET.RET : RF := ⟨0x2030000014, 0x40, 0, 15, 0⟩
def Q.CREDITS.CREDITS : RF := ⟨0x2030000018, 0x40, 0, 12, 0⟩
def Q.OP.N : RF := ⟨0x203000001C, 0x40, 0, 12, 0⟩
def Q.OP.CMD : RF := ⟨0x203000001C, 0x40, 0, 14, 13⟩
def Q.STATUS.NO_CREDIT : RF := ⟨0x2030000020, 0x40, 0, 0, 0⟩
def Q.STATUS.UNDERFLOW : RF := ⟨0x2030000020, 0x40, 0, 1, 1⟩
def Q.STATUS.CFG_ERR : RF := ⟨0x2030000020, 0x40, 0, 2, 2⟩
def Q.STATUS.UNDRAINED : RF := ⟨0x2030000020, 0x40, 0, 3, 3⟩
def Q.STATUS.DISABLED : RF := ⟨0x2030000020, 0x40, 0, 4, 4⟩
def Q.STATUS.DROP_CNT : RF := ⟨0x2030000020, 0x40, 0, 31, 16⟩
def Q.LAST_POST : RF := ⟨0x2030000024, 0x40, 0, 63, 0⟩
def Q.POSTS.SEQ : RF := ⟨0x203000002C, 0x40, 0, 31, 0⟩
def Q.SLOTS.POST_SLOT : RF := ⟨0x2030000030, 0x40, 0, 11, 0⟩
def Q.SLOTS.TAKE_SLOT : RF := ⟨0x2030000030, 0x40, 0, 27, 16⟩
def BAB.CTRL.LOCK : RF := ⟨0x20000B0000, 0, 0, 0, 0⟩
def BAB.STATUS.OVERLOAD : RF := ⟨0x20000B0004, 0, 0, 0, 0⟩
def BAB.STATUS.CLOSE_CNT : RF := ⟨0x20000B0004, 0, 0, 31, 16⟩
def BAB.RING_BASE : RF := ⟨0x20000B0008, 0, 0, 63, 0⟩
def BAB.DEF_BASE : RF := ⟨0x20000B0010, 0, 0, 63, 0⟩
def BAB.IN_CFG.EN : RF := ⟨0x20000B1000, 0x40, 0, 0, 0⟩
def BAB.IN_CFG.TB : RF := ⟨0x20000B1000, 0x40, 0, 6, 1⟩
def BAB.IN_CFG.PPR_L : RF := ⟨0x20000B1000, 0x40, 0, 10, 7⟩
def BAB.IN_CFG.MAXJ : RF := ⟨0x20000B1000, 0x40, 0, 13, 11⟩
def BAB.IN_CFG.RL : RF := ⟨0x20000B1000, 0x40, 0, 18, 14⟩
def BAB.IN_CFG.ENV : RF := ⟨0x20000B1000, 0x40, 0, 19, 19⟩
def BAB.IN_CFG.ENV_PPR_L : RF := ⟨0x20000B1000, 0x40, 0, 23, 20⟩
def BAB.IN_CFG.AXIS : RF := ⟨0x20000B1000, 0x40, 0, 29, 24⟩
def BAB.IN_BAND.LO : RF := ⟨0x20000B1004, 0x40, 0, 15, 0⟩
def BAB.IN_BAND.HI : RF := ⟨0x20000B1004, 0x40, 0, 31, 16⟩
def BAB.IN_RING.OFS : RF := ⟨0x20000B1008, 0x40, 0, 31, 0⟩
def BAB.IN_STATUS.STATE : RF := ⟨0x20000B100C, 0x40, 0, 1, 0⟩
def BAB.IN_STATUS.ALIAS : RF := ⟨0x20000B100C, 0x40, 0, 2, 2⟩
def BAB.IN_STATUS.RESTART_CNT : RF := ⟨0x20000B100C, 0x40, 0, 31, 16⟩
def BAB.IN_POS : RF := ⟨0x20000B1010, 0x40, 0, 63, 0⟩
def BAB.CTX_CFG.EN : RF := ⟨0x20000B2000, 0x40, 0, 0, 0⟩
def BAB.CTX_CFG.REVS_L : RF := ⟨0x20000B2000, 0x40, 0, 3, 1⟩
def BAB.CTX_CFG.PROD : RF := ⟨0x20000B2000, 0x40, 0, 7, 4⟩
def BAB.CTX_CFG.LATE_USE : RF := ⟨0x20000B2000, 0x40, 0, 8, 8⟩
def BAB.CTX_CFG.MISS_ACT : RF := ⟨0x20000B2000, 0x40, 0, 9, 9⟩
def BAB.CTX_CFG.IRQ : RF := ⟨0x20000B2000, 0x40, 0, 14, 10⟩
def BAB.CTX_CFG.DEF_FIRST : RF := ⟨0x20000B2000, 0x40, 0, 23, 16⟩
def BAB.CTX_CFG.DEF_N : RF := ⟨0x20000B2000, 0x40, 0, 31, 24⟩
def BAB.CTX_IN.VALUE : RF := ⟨0x20000B2004, 0x40, 0, 31, 0⟩
def BAB.CTX_BUF : RF := ⟨0x20000B2008, 0x40, 0, 63, 0⟩
def BAB.CTX_LAYOUT.VALUE : RF := ⟨0x20000B2010, 0x40, 0, 31, 0⟩
def BAB.CTX_AXES : RF := ⟨0x20000B2014, 0x40, 0, 63, 0⟩
def BAB.CTX_FLOOR.LOW : RF := ⟨0x20000B201C, 0x40, 0, 15, 0⟩
def BAB.CTX_FLOOR.HIGH : RF := ⟨0x20000B201C, 0x40, 0, 31, 16⟩
def BAB.CTX_FB.LOW : RF := ⟨0x20000B2020, 0x40, 0, 15, 0⟩
def BAB.CTX_FB.HIGH : RF := ⟨0x20000B2020, 0x40, 0, 31, 16⟩
def BAB.CTX_STALE.LOW : RF := ⟨0x20000B2024, 0x40, 0, 15, 0⟩
def BAB.CTX_ALARM.ALARM : RF := ⟨0x20000B2028, 0x40, 0, 31, 0⟩
def BAB.CTX_STATUS.CFG_ERR : RF := ⟨0x20000B202C, 0x40, 0, 0, 0⟩
def BAB.CTX_STATUS.MISS : RF := ⟨0x20000B202C, 0x40, 0, 1, 1⟩
def BAB.CTX_STATUS.STALE : RF := ⟨0x20000B202C, 0x40, 0, 2, 2⟩
def BAB.CTX_STATUS.REJ_ACT : RF := ⟨0x20000B202C, 0x40, 0, 3, 3⟩
def BAB.CTX_STATUS.LATE_IN : RF := ⟨0x20000B202C, 0x40, 0, 4, 4⟩
def BAB.CTX_STATUS.MISS_CNT : RF := ⟨0x20000B202C, 0x40, 0, 15, 8⟩
def BAB.CTX_STATUS.APPLY_CNT : RF := ⟨0x20000B202C, 0x40, 0, 31, 16⟩
def BAB.CTX_LAST_APPLY : RF := ⟨0x20000B2030, 0x40, 0, 63, 0⟩
def TWN.CFG.EN : RF := ⟨0x20000C0000, 0, 0, 0, 0⟩
def TWN.CFG.ROLE : RF := ⟨0x20000C0000, 0, 0, 1, 1⟩
def TWN.CFG.LOCK : RF := ⟨0x20000C0000, 0, 0, 2, 2⟩
def TWN.CFG.TMO : RF := ⟨0x20000C0000, 0, 0, 15, 8⟩
def TWN.STATUS.PAIRED : RF := ⟨0x20000C0004, 0, 0, 0, 0⟩
def TWN.STATUS.LINK_UP : RF := ⟨0x20000C0004, 0, 0, 1, 1⟩
def TWN.STATUS.LOST : RF := ⟨0x20000C0004, 0, 0, 2, 2⟩
def TWN.STATUS.COPY_CNT : RF := ⟨0x20000C0004, 0, 0, 31, 16⟩
def MEM.STATUS.USABLE : RF := ⟨0x20000D0000, 0, 0, 15, 0⟩
def MEM.STATUS.UNAVAIL : RF := ⟨0x20000D0000, 0, 0, 16, 16⟩
def MEM.CH_RETIRE.RETIRE : RF := ⟨0x20000D0004, 0, 0, 15, 0⟩
def MEM.TOP : RF := ⟨0x20000D0008, 0, 0, 63, 0⟩
def MEM.ECC_CTRL.SCRUB_EN : RF := ⟨0x20000D0010, 0, 0, 0, 0⟩
def MEM.ECC_CTRL.SCRUB_H : RF := ⟨0x20000D0010, 0, 0, 15, 8⟩
def MEM.ECC_CTRL.IRQ : RF := ⟨0x20000D0010, 0, 0, 20, 16⟩
def MEM.ECC_STATUS.CE : RF := ⟨0x20000D0014, 0, 0, 0, 0⟩
def MEM.ECC_STATUS.UE : RF := ⟨0x20000D0014, 0, 0, 1, 1⟩
def MEM.ECC_STATUS.SRAM_CE : RF := ⟨0x20000D0014, 0, 0, 2, 2⟩
def MEM.ECC_STATUS.SRAM_UE : RF := ⟨0x20000D0014, 0, 0, 3, 3⟩
def MEM.ECC_STATUS.FIRST_VALID : RF := ⟨0x20000D0014, 0, 0, 4, 4⟩
def MEM.UE_FIRST_ADDR : RF := ⟨0x20000D0020, 0, 0, 63, 0⟩
def MEM.UE_FIRST_INFO.MASTER : RF := ⟨0x20000D0028, 0, 0, 5, 0⟩
def MEM.UE_FIRST_INFO.TARGET : RF := ⟨0x20000D0028, 0, 0, 9, 6⟩
def MEM.UE_FIRST_INFO.SRC : RF := ⟨0x20000D0028, 0, 0, 11, 10⟩
def MEM.UE_FIRST_INFO.CH : RF := ⟨0x20000D0028, 0, 0, 15, 12⟩
def MEM.UE_FIRST_TIME : RF := ⟨0x20000D002C, 0, 0, 63, 0⟩
def MEM.UE_LATEST_ADDR : RF := ⟨0x20000D0034, 0, 0, 63, 0⟩
def MEM.UE_LATEST_INFO.INFO : RF := ⟨0x20000D003C, 0, 0, 31, 0⟩
def MEM.UE_LATEST_TIME : RF := ⟨0x20000D0040, 0, 0, 63, 0⟩
def MEM.CH_CNT.CE : RF := ⟨0x20000D0100, 0, 4, 15, 0⟩
def MEM.CH_CNT.UE : RF := ⟨0x20000D0100, 0, 4, 31, 16⟩
def MEM.SRAM_CNT.CE : RF := ⟨0x20000D0140, 0, 4, 15, 0⟩
def MEM.SRAM_CNT.UE : RF := ⟨0x20000D0140, 0, 4, 31, 16⟩
def AT.CTRL.LOCK : RF := ⟨0x2000100000, 0x10000, 0, 0, 0⟩
def AT.VIO_STATUS.FIRST_VALID : RF := ⟨0x2000100004, 0x10000, 0, 0, 0⟩
def AT.VIO_STATUS.VIO_CNT : RF := ⟨0x2000100004, 0x10000, 0, 31, 16⟩
def AT.VIO_FIRST_ADDR : RF := ⟨0x2000100010, 0x10000, 0, 63, 0⟩
def AT.VIO_FIRST_INFO.MASTER : RF := ⟨0x2000100018, 0x10000, 0, 5, 0⟩
def AT.VIO_FIRST_INFO.TYPE : RF := ⟨0x2000100018, 0x10000, 0, 9, 6⟩
def AT.VIO_FIRST_INFO.SIZE : RF := ⟨0x2000100018, 0x10000, 0, 12, 10⟩
def AT.VIO_FIRST_TIME : RF := ⟨0x200010001C, 0x10000, 0, 63, 0⟩
def AT.VIO_LATEST_ADDR : RF := ⟨0x2000100024, 0x10000, 0, 63, 0⟩
def AT.VIO_LATEST_INFO.INFO : RF := ⟨0x200010002C, 0x10000, 0, 31, 0⟩
def AT.VIO_LATEST_TIME : RF := ⟨0x2000100030, 0x10000, 0, 63, 0⟩
def AT.WIN_BASE.BASE : RF := ⟨0x2000101000, 0x10000, 0x10, 31, 0⟩
def AT.WIN_LIMIT.LIMIT : RF := ⟨0x2000101004, 0x10000, 0x10, 31, 0⟩
def AT.WIN_ATTR.EN : RF := ⟨0x2000101008, 0x10000, 0x10, 0, 0⟩
def AT.WIN_ATTR.R : RF := ⟨0x2000101008, 0x10000, 0x10, 1, 1⟩
def AT.WIN_ATTR.W : RF := ⟨0x2000101008, 0x10000, 0x10, 2, 2⟩
def AT.WIN_ATTR.SW : RF := ⟨0x2000101008, 0x10000, 0x10, 3, 3⟩
def SUP.CTRL.SUP_RESET : RF := ⟨0x20000F0000, 0, 0, 0, 0⟩
def SUP.FW_ADDR : RF := ⟨0x20000F0008, 0, 0, 63, 0⟩
def SUP.FW_CMD.LOAD : RF := ⟨0x20000F0010, 0, 0, 0, 0⟩
def SUP.FW_STATUS.STATE : RF := ⟨0x20000F0014, 0, 0, 2, 0⟩
def SUP.FW_STATUS.CODE : RF := ⟨0x20000F0014, 0, 0, 7, 4⟩
def SUP.FW_VER.VALUE : RF := ⟨0x20000F0018, 0, 0, 31, 0⟩
def SUP.FW_BUILD.VALUE : RF := ⟨0x20000F001C, 0, 0, 31, 0⟩
def SUP.BOOT_CNT.CNT : RF := ⟨0x20000F0020, 0, 0, 31, 0⟩
def SUP.LAST_RESET.CAUSE : RF := ⟨0x20000F0024, 0, 0, 2, 0⟩
def SUP.LAST_RESET.CNT : RF := ⟨0x20000F0024, 0, 0, 31, 16⟩
def SUP.FW_TIME : RF := ⟨0x20000F0028, 0, 0, 63, 0⟩
def MB.GLOBAL.READY : RF := ⟨0x20000E0000, 0, 0, 0, 0⟩
def MB.GLOBAL.POLICY : RF := ⟨0x20000E0000, 0, 0, 1, 1⟩
def MB.GLOBAL.REPLY_PEND : RF := ⟨0x20000E0000, 0, 0, 31, 16⟩
def MB.REQ.DATA : RF := ⟨0x20000E1000, 0x400, 4, 31, 0⟩
def MB.REP.DATA : RF := ⟨0x20000E1100, 0x400, 4, 31, 0⟩
def MB.DOORBELL.RING : RF := ⟨0x20000E1200, 0x400, 0, 0, 0⟩
def MB.ACK.ACK : RF := ⟨0x20000E1204, 0x400, 0, 0, 0⟩
def MB.CFG.IRQ : RF := ⟨0x20000E1208, 0x400, 0, 4, 0⟩
def MB.CFG.IRQ_EN : RF := ⟨0x20000E1208, 0x400, 0, 8, 8⟩
def MB.STATUS.PENDING : RF := ⟨0x20000E120C, 0x400, 0, 0, 0⟩
def MB.STATUS.BUSY : RF := ⟨0x20000E120C, 0x400, 0, 1, 1⟩
def MB.STATUS.REPLY : RF := ⟨0x20000E120C, 0x400, 0, 2, 2⟩
def MB.STATUS.DB_REFUSED : RF := ⟨0x20000E120C, 0x400, 0, 3, 3⟩
def MB.STATUS.WR_REFUSED : RF := ⟨0x20000E120C, 0x400, 0, 4, 4⟩
def MB.STATUS.SESSION : RF := ⟨0x20000E120C, 0x400, 0, 5, 5⟩
def MB.STATUS.MAJOR : RF := ⟨0x20000E120C, 0x400, 0, 23, 16⟩
def MB.STATUS.MINOR : RF := ⟨0x20000E120C, 0x400, 0, 31, 24⟩
def MB.DB_TIME : RF := ⟨0x20000E1210, 0x400, 0, 63, 0⟩
def SAF.CTRL.LOCK : RF := ⟨0x20001A0000, 0, 0, 0, 0⟩
def SAF.STATUS.STATE : RF := ⟨0x20001A0004, 0, 0, 0, 0⟩
def SAF.STATUS.CRC_OK : RF := ⟨0x20001A0004, 0, 0, 1, 1⟩
def SAF.STATUS.CFG_REFUSED : RF := ⟨0x20001A0004, 0, 0, 2, 2⟩
def SAF.STATUS.FAULT : RF := ⟨0x20001A0004, 0, 0, 3, 3⟩
def SAF.STATUS.DEADLINE : RF := ⟨0x20001A0004, 0, 0, 4, 4⟩
def SAF.ACK.GROUPS : RF := ⟨0x20001A0008, 0, 0, 15, 0⟩
def SAF.ACK.FAULTS : RF := ⟨0x20001A0008, 0, 0, 16, 16⟩
def SAF.STO_REQ.GROUPS : RF := ⟨0x20001A000C, 0, 0, 15, 0⟩
def SAF.CFG.FTTI : RF := ⟨0x20001A0010, 0, 0, 3, 0⟩
def SAF.CFG.CYCLE : RF := ⟨0x20001A0010, 0, 0, 11, 4⟩
def SAF.STO_TEST.PER : RF := ⟨0x20001A0014, 0, 0, 7, 0⟩
def SAF.STO_TEST.PULSE : RF := ⟨0x20001A0014, 0, 0, 15, 8⟩
def SAF.FAULT_CFG.MEAS_DEG : RF := ⟨0x20001A0018, 0, 0, 1, 0⟩
def SAF.FAULT_CFG.SPEED_DISC : RF := ⟨0x20001A0018, 0, 0, 2, 2⟩
def SAF.FAULT_CFG.SINGLE : RF := ⟨0x20001A0018, 0, 0, 4, 3⟩
def SAF.FAULT_CFG.POS_LOST : RF := ⟨0x20001A0018, 0, 0, 5, 5⟩
def SAF.FAULT_CFG.CHOP_STUCK : RF := ⟨0x20001A0018, 0, 0, 6, 6⟩
def SAF.FAULT_CFG.BUS_UV : RF := ⟨0x20001A0018, 0, 0, 7, 7⟩
def SAF.FAULT_CFG.TWIN_LOST : RF := ⟨0x20001A0018, 0, 0, 8, 8⟩
def SAF.FAULT_CFG.TWIN_FENCE : RF := ⟨0x20001A0018, 0, 0, 9, 9⟩
def SAF.DERATE.TQ : RF := ⟨0x20001A001C, 0, 0, 15, 0⟩
def SAF.CFG_CRC.VALUE : RF := ⟨0x20001A0020, 0, 0, 31, 0⟩
def SAF.CFG_CRC_CALC.VALUE : RF := ⟨0x20001A0024, 0, 0, 31, 0⟩
def SAF.SI_CFG.FUNC : RF := ⟨0x20001A0040, 0, 8, 1, 0⟩
def SAF.SI_CFG.POL : RF := ⟨0x20001A0040, 0, 8, 2, 2⟩
def SAF.SI_CFG.SI_FILT : RF := ⟨0x20001A0040, 0, 8, 15, 8⟩
def SAF.SI_CFG.DISC : RF := ⟨0x20001A0040, 0, 8, 23, 16⟩
def SAF.SI_GROUPS.GROUPS : RF := ⟨0x20001A0044, 0, 8, 15, 0⟩
def SAF.SI_STATE.LOW : RF := ⟨0x20001A00C0, 0, 0, 15, 0⟩
def SAF.SI_STATE.HIGH : RF := ⟨0x20001A00C0, 0, 0, 31, 16⟩
def SAF.GROUP_STATE.LOW : RF := ⟨0x20001A00C4, 0, 0, 15, 0⟩
def SAF.GROUP_STATE.HIGH : RF := ⟨0x20001A00C4, 0, 0, 31, 16⟩
def SAF.FAULT_LAST.CODE : RF := ⟨0x20001A00D0, 0, 0, 5, 0⟩
def SAF.FAULT_LAST.AXIS : RF := ⟨0x20001A00D0, 0, 0, 11, 6⟩
def SAF.FAULT_LAST.UNIT : RF := ⟨0x20001A00D0, 0, 0, 19, 12⟩
def SAF.FAULT_TIME : RF := ⟨0x20001A00D4, 0, 0, 63, 0⟩
def SAF.TEST_STATUS.ABORT_CNT : RF := ⟨0x20001A00E0, 0, 0, 15, 0⟩
def SAF.TEST_STATUS.ROT_POS : RF := ⟨0x20001A00E0, 0, 0, 22, 16⟩
def AGE.SVC_POLICY.AGEING : RF := ⟨0x20001B0000, 0, 0, 0, 0⟩
def AGE.SVC_POLICY.INTERFACES : RF := ⟨0x20001B0000, 0, 0, 1, 1⟩
def AGE.CTRL.REPLAN : RF := ⟨0x20001B0004, 0, 0, 0, 0⟩
def AGE.STATUS.MODE : RF := ⟨0x20001B0008, 0, 0, 0, 0⟩
def AGE.STATUS.MARGIN_LOW : RF := ⟨0x20001B0008, 0, 0, 1, 1⟩
def AGE.STATUS.PMBUS_ERR : RF := ⟨0x20001B0008, 0, 0, 2, 2⟩
def AGE.STATUS.DL_LIM : RF := ⟨0x20001B0008, 0, 0, 3, 3⟩
def AGE.STATUS.TRIM_LIM : RF := ⟨0x20001B0008, 0, 0, 4, 4⟩
def AGE.STATUS.SVC_REFUSED : RF := ⟨0x20001B0008, 0, 0, 5, 5⟩
def AGE.STATUS.REPLAN_CNT : RF := ⟨0x20001B0008, 0, 0, 31, 16⟩
def AGE.VREQ.V_REQ : RF := ⟨0x20001B000C, 0, 0, 15, 0⟩
def AGE.VFUSE.VMIN : RF := ⟨0x20001B0010, 0, 0, 15, 0⟩
def AGE.VFUSE.VMAX : RF := ⟨0x20001B0010, 0, 0, 31, 16⟩
def AGE.VFIX.VFIX : RF := ⟨0x20001B0014, 0, 0, 15, 0⟩
def AGE.VFIX.TGT : RF := ⟨0x20001B0014, 0, 0, 23, 16⟩
def AGE.VFIX.HYS : RF := ⟨0x20001B0014, 0, 0, 31, 24⟩
def AGE.SMIN.SLACK : RF := ⟨0x20001B0018, 0, 0, 15, 0⟩
def AGE.SMIN.MON : RF := ⟨0x20001B0018, 0, 0, 22, 16⟩
def AGE.REF_TRIM.TRIM : RF := ⟨0x20001B0020, 0, 4, 11, 0⟩
def AGE.SVC_CMD.CH : RF := ⟨0x20001B0030, 0, 0, 15, 0⟩
def AGE.SVC_CMD.CODE : RF := ⟨0x20001B0030, 0, 0, 23, 16⟩
def AGE.SVC_CMD.PF : RF := ⟨0x20001B0030, 0, 0, 24, 24⟩
def AGE.PFENCE_CLR.MASK : RF := ⟨0x20001B0034, 0, 0, 31, 0⟩
def AGE.PFENCE.PFENCE : RF := ⟨0x20001B0038, 0, 0, 31, 0⟩
def AGE.FAIL_CNT.FAIL_CNT : RF := ⟨0x20001B003C, 0, 4, 31, 0⟩
def AGE.PFENCE_AX : RF := ⟨0x20001B004C, 0, 0, 63, 0⟩
def AGE.PFENCE_AX_CLR : RF := ⟨0x20001B0054, 0, 0, 63, 0⟩
def AGE.DL_CORR.CORR : RF := ⟨0x20001B0080, 0, 4, 7, 0⟩
def AGE.MON.SLACK : RF := ⟨0x20001B0100, 0, 4, 15, 0⟩
def BIST.STATUS.STEP : RF := ⟨0x20001C0000, 0, 0, 2, 0⟩
def BIST.STATUS.DONE : RF := ⟨0x20001C0000, 0, 0, 3, 3⟩
def BIST.STATUS.UNREPAIRED : RF := ⟨0x20001C0000, 0, 0, 4, 4⟩
def BIST.STATUS.FUSE_FULL : RF := ⟨0x20001C0000, 0, 0, 5, 5⟩
def BIST.STATUS.FUSE_USED : RF := ⟨0x20001C0000, 0, 0, 26, 16⟩
def BIST.RESULT.OUTCOME : RF := ⟨0x20001C0010, 0, 4, 1, 0⟩
def BIST.RESULT.REPAIRS : RF := ⟨0x20001C0010, 0, 4, 11, 2⟩
def BIST.RESULT.TIME : RF := ⟨0x20001C0010, 0, 4, 31, 12⟩
def REC.CTRL.FLUSH : RF := ⟨0x20001D0000, 0, 0, 0, 0⟩
def REC.STATUS.NV_VALID : RF := ⟨0x20001D0004, 0, 0, 0, 0⟩
def REC.STATUS.NV_ERR : RF := ⟨0x20001D0004, 0, 0, 1, 1⟩
def REC.STATUS.NV_BAD : RF := ⟨0x20001D0004, 0, 0, 31, 16⟩
def REC.HEAD.VALUE : RF := ⟨0x20001D0008, 0, 0, 31, 0⟩
def REC.NV_HEAD.VALUE : RF := ⟨0x20001D000C, 0, 0, 31, 0⟩
def REC.QUEUE.VALUE : RF := ⟨0x20001D0010, 0, 0, 31, 0⟩
def REC.EVT_TOTAL : RF := ⟨0x20001D0018, 0, 0, 63, 0⟩
def REC.HOURS.VALUE : RF := ⟨0x20001D0020, 0, 0, 31, 0⟩
def REC.PCYCLE.VALUE : RF := ⟨0x20001D0024, 0, 0, 31, 0⟩
def REC.NV_IDX.SEQ : RF := ⟨0x20001D0030, 0, 0, 31, 0⟩
def REC.NV_DATA.DATA : RF := ⟨0x20001D0040, 0, 4, 31, 0⟩
def SEC.LC.STATE : RF := ⟨0x20001E0000, 0, 0, 2, 0⟩
def SEC.LC.DBG_UNLOCKED : RF := ⟨0x20001E0000, 0, 0, 3, 3⟩
def SEC.BOOT_STATUS.SLOT : RF := ⟨0x20001E0004, 0, 0, 1, 0⟩
def SEC.BOOT_STATUS.OPEN : RF := ⟨0x20001E0004, 0, 0, 2, 2⟩
def SEC.BOOT_STATUS.CODE_A : RF := ⟨0x20001E0004, 0, 0, 7, 4⟩
def SEC.BOOT_STATUS.CODE_B : RF := ⟨0x20001E0004, 0, 0, 11, 8⟩
def SEC.LDR_KEY.KEY_ID : RF := ⟨0x20001E0008, 0, 0, 31, 0⟩
def SEC.KEY_STATUS.VALID : RF := ⟨0x20001E000C, 0, 0, 11, 0⟩
def SEC.KEY_STATUS.REVOKED : RF := ⟨0x20001E000C, 0, 0, 23, 12⟩
def SEC.KEY_STATUS.BAD : RF := ⟨0x20001E000C, 0, 0, 31, 24⟩
def SEC.LDR_DIGEST.DIGEST : RF := ⟨0x20001E0020, 0, 4, 31, 0⟩
def SEC.KEY_HASH.HASH : RF := ⟨0x20001E0040, 0, 4, 31, 0⟩
def SEC.KEY_PROG.SLOT : RF := ⟨0x20001E0060, 0, 0, 2, 0⟩
def SEC.KEY_PROG.GO : RF := ⟨0x20001E0060, 0, 0, 8, 8⟩
def SEC.REVOKE.MASK : RF := ⟨0x20001E0064, 0, 0, 11, 0⟩
def SEC.REVOKE.CODE : RF := ⟨0x20001E0064, 0, 0, 23, 16⟩
def SEC.LC_CMD.NEXT : RF := ⟨0x20001E0068, 0, 0, 2, 0⟩
def SEC.LC_CMD.CODE : RF := ⟨0x20001E0068, 0, 0, 23, 16⟩
def SEC.FUSE_STATUS.BUSY : RF := ⟨0x20001E006C, 0, 0, 0, 0⟩
def SEC.FUSE_STATUS.DONE : RF := ⟨0x20001E006C, 0, 0, 1, 1⟩
def SEC.FUSE_STATUS.REFUSED : RF := ⟨0x20001E006C, 0, 0, 2, 2⟩
def SEC.FUSE_STATUS.RCODE : RF := ⟨0x20001E006C, 0, 0, 6, 3⟩
def SEC.DEV_ID.ID : RF := ⟨0x20001E0080, 0, 4, 31, 0⟩
def SEC.ATT_NONCE.NONCE : RF := ⟨0x20001E00A0, 0, 4, 31, 0⟩
def SEC.ATT_ADDR : RF := ⟨0x20001E00C0, 0, 0, 63, 0⟩
def SEC.ATT_CMD.GO : RF := ⟨0x20001E00C8, 0, 0, 0, 0⟩
def SEC.ATT_STATUS.BUSY : RF := ⟨0x20001E00CC, 0, 0, 0, 0⟩
def SEC.ATT_STATUS.DONE : RF := ⟨0x20001E00CC, 0, 0, 1, 1⟩
def SEC.ATT_STATUS.REFUSED : RF := ⟨0x20001E00CC, 0, 0, 2, 2⟩
def SEC.ATT_STATUS.RCODE : RF := ⟨0x20001E00CC, 0, 0, 5, 3⟩
def SEC.DBG_CMD.CHAL : RF := ⟨0x20001E00D0, 0, 0, 0, 0⟩
def SEC.DBG_CMD.GO : RF := ⟨0x20001E00D0, 0, 0, 1, 1⟩
def SEC.DBG_CMD.FAIL : RF := ⟨0x20001E00D0, 0, 0, 2, 2⟩
def SEC.DBG_ADDR : RF := ⟨0x20001E00D8, 0, 0, 63, 0⟩
def SEC.DBG_CHAL.CHAL : RF := ⟨0x20001E00E0, 0, 4, 31, 0⟩
def SEC.ID_PUB.KEY : RF := ⟨0x20001E1000, 0, 4, 31, 0⟩
def PWR.STATE.STATE : RF := ⟨0x20001F0000, 0, 0, 1, 0⟩
def PWR.STATE.BUSY : RF := ⟨0x20001F0000, 0, 0, 2, 2⟩
def PWR.RST_CMD.SYS : RF := ⟨0x20001F0004, 0, 0, 0, 0⟩
def PWR.RST_CMD.DBG : RF := ⟨0x20001F0004, 0, 0, 1, 1⟩
def PWR.RST_CMD.CODE : RF := ⟨0x20001F0004, 0, 0, 23, 16⟩
def PWR.RST_CAUSE.CAUSE : RF := ⟨0x20001F0008, 0, 0, 2, 0⟩
def PWR.RST_CAUSE.SYS_CNT : RF := ⟨0x20001F0008, 0, 0, 31, 16⟩
def PWR.AXIS_RST_LO.AXES : RF := ⟨0x20001F000C, 0, 0, 31, 0⟩
def PWR.AXIS_RST_HI.AXES : RF := ⟨0x20001F0010, 0, 0, 15, 0⟩
def PWR.START_STATUS.SELF_OK : RF := ⟨0x20001F0014, 0, 0, 0, 0⟩
def PWR.START_STATUS.BOOT_OK : RF := ⟨0x20001F0014, 0, 0, 1, 1⟩
def PWR.START_STATUS.TRAINED : RF := ⟨0x20001F0014, 0, 0, 2, 2⟩
def PWR.START_STATUS.ENUM_DONE : RF := ⟨0x20001F0014, 0, 0, 3, 3⟩
def PWR.START_STATUS.STOP : RF := ⟨0x20001F0014, 0, 0, 9, 8⟩
def PWR.STRAPS.PWMSAFE_H : RF := ⟨0x20001F0018, 0, 0, 0, 0⟩
def PWR.STRAPS.PWMSAFE_L : RF := ⟨0x20001F0018, 0, 0, 1, 1⟩
def PWR.STRAPS.RINGPOS0 : RF := ⟨0x20001F0018, 0, 0, 2, 2⟩
def PWR.RING_CTRL.GO : RF := ⟨0x20001F0020, 0, 0, 0, 0⟩
def PWR.RING_CTRL.N_EXP : RF := ⟨0x20001F0020, 0, 0, 3, 1⟩
def PWR.RING_CTRL.ISO_STO : RF := ⟨0x20001F0020, 0, 0, 4, 4⟩
def PWR.RING_STATUS.RING_ID : RF := ⟨0x20001F0024, 0, 0, 7, 0⟩
def PWR.RING_STATUS.PRESENT : RF := ⟨0x20001F0024, 0, 0, 15, 8⟩
def PWR.RING_STATUS.GAP : RF := ⟨0x20001F0024, 0, 0, 23, 16⟩
def PWR.RING_STATUS.ENUM_ERR : RF := ⟨0x20001F0024, 0, 0, 24, 24⟩
def PWR.RING_STATUS.ISOLATED : RF := ⟨0x20001F0024, 0, 0, 25, 25⟩
def PWR.RING_STATUS.MASTER : RF := ⟨0x20001F0024, 0, 0, 30, 28⟩
def PWR.GO_TIME : RF := ⟨0x20001F0028, 0, 0, 63, 0⟩
def PWR.WAKE_CFG.PIN : RF := ⟨0x20001F0030, 0, 0, 0, 0⟩
def PWR.WAKE_CFG.TIME : RF := ⟨0x20001F0030, 0, 0, 1, 1⟩
def PWR.WAKE_TIME : RF := ⟨0x20001F0038, 0, 0, 63, 0⟩
def LNK.CTRL.RETRAIN : RF := ⟨0x2000200000, 0x100, 0, 0, 0⟩
def LNK.STATUS.UP : RF := ⟨0x2000200004, 0x100, 0, 0, 0⟩
def LNK.STATUS.LANES : RF := ⟨0x2000200004, 0x100, 0, 3, 1⟩
def LNK.STATUS.VER_ERR : RF := ⟨0x2000200004, 0x100, 0, 4, 4⟩
def LNK.STATUS.LOST : RF := ⟨0x2000200004, 0x100, 0, 5, 5⟩
def LNK.STATUS.VER_MINOR : RF := ⟨0x2000200004, 0x100, 0, 15, 8⟩
def LNK.STATUS.VER_MAJOR : RF := ⟨0x2000200004, 0x100, 0, 23, 16⟩
def LNK.STATUS.PEER_ID : RF := ⟨0x2000200004, 0x100, 0, 31, 24⟩
def LNK.RETRY_CNT.CNT : RF := ⟨0x2000200008, 0x100, 0, 31, 0⟩
def LNK.CRC_CNT.CNT : RF := ⟨0x200020000C, 0x100, 0, 31, 0⟩
def LNK.RETRAIN_CNT.CNT : RF := ⟨0x2000200010, 0x100, 0, 15, 0⟩
def LNK.DOWN_TIME : RF := ⟨0x2000200014, 0x100, 0, 63, 0⟩
def LNK.DELAY.DELAY : RF := ⟨0x200020001C, 0x100, 0, 31, 0⟩
def IOS.TACH_CFG.EN : RF := ⟨0x2000210000, 0x10, 0, 0, 0⟩
def IOS.TACH_CFG.EDGE : RF := ⟨0x2000210000, 0x10, 0, 1, 1⟩
def IOS.TACH_CFG.FILT : RF := ⟨0x2000210000, 0x10, 0, 9, 2⟩
def IOS.TACH_STATUS.PULSE_CNT : RF := ⟨0x2000210004, 0x10, 0, 15, 0⟩
def IOS.TACH_STATUS.REJ_CNT : RF := ⟨0x2000210004, 0x10, 0, 31, 16⟩
def IOS.SSI_CFG0.EN : RF := ⟨0x2000210100, 0x20, 0, 0, 0⟩
def IOS.SSI_CFG0.GRAY : RF := ⟨0x2000210100, 0x20, 0, 1, 1⟩
def IOS.SSI_CFG0.PARITY : RF := ⟨0x2000210100, 0x20, 0, 3, 2⟩
def IOS.SSI_CFG0.BITS : RF := ⟨0x2000210100, 0x20, 0, 9, 4⟩
def IOS.SSI_CFG0.ST : RF := ⟨0x2000210100, 0x20, 0, 15, 10⟩
def IOS.SSI_CFG0.MONO : RF := ⟨0x2000210100, 0x20, 0, 23, 16⟩
def IOS.SSI_CFG1.DIV : RF := ⟨0x2000210104, 0x20, 0, 10, 0⟩
def IOS.SSI_CFG1.RATE : RF := ⟨0x2000210104, 0x20, 0, 26, 11⟩
def IOS.SSI_STATUS.FRAME_CNT : RF := ⟨0x2000210108, 0x20, 0, 15, 0⟩
def IOS.SSI_STATUS.ERR_CNT : RF := ⟨0x2000210108, 0x20, 0, 23, 16⟩
def IOS.LSYNC_CFG.EN : RF := ⟨0x2000210300, 0, 0, 0, 0⟩
def IOS.LSYNC_CFG.FILT : RF := ⟨0x2000210300, 0, 0, 8, 1⟩
def IOS.LSYNC_PERIOD.PERIOD : RF := ⟨0x2000210304, 0, 0, 31, 0⟩
def IOS.LSYNC_STATUS.REJ_CNT : RF := ⟨0x2000210308, 0, 0, 15, 0⟩
def PCIE.BAR0_XLAT : RF := ⟨0x2000220000, 0, 0, 63, 0⟩
def PCIE.CFG.BAR0_L : RF := ⟨0x2000220008, 0, 0, 4, 0⟩
def PCIE.CFG.LOCK : RF := ⟨0x2000220008, 0, 0, 5, 5⟩
def PCIE.OB_XLAT : RF := ⟨0x200022000C, 0, 0, 63, 0⟩
def PCIE.STATUS.GEN : RF := ⟨0x2000220014, 0, 0, 2, 0⟩
def PCIE.STATUS.WIDTH : RF := ⟨0x2000220014, 0, 0, 6, 3⟩
def ETH.CFG.GPTP_PORT : RF := ⟨0x2000220020, 0, 0, 1, 0⟩
def ETH.CFG.PRIO1 : RF := ⟨0x2000220020, 0, 0, 9, 2⟩
def ETH.QUEUES.TXQ : RF := ⟨0x2000220024, 0, 0, 9, 0⟩
def ETH.QUEUES.RXFREE : RF := ⟨0x2000220024, 0, 0, 19, 10⟩
def ETH.QUEUES.RXQ : RF := ⟨0x2000220024, 0, 0, 29, 20⟩
def ETH.GCL_BASE : RF := ⟨0x2000220028, 0, 8, 63, 0⟩
def PMB.ADDR.ADDR : RF := ⟨0x2000220060, 0, 0, 6, 0⟩
def PMB.READ.VOUT : RF := ⟨0x2000220064, 0, 0, 15, 0⟩
def PMB.READ.IOUT : RF := ⟨0x2000220064, 0, 0, 31, 16⟩
def PMB.STATUS.STATUS_WORD : RF := ⟨0x2000220068, 0, 0, 15, 0⟩
def THM.CFG.LOCK : RF := ⟨0x2000230000, 0, 0, 0, 0⟩
def THM.CFG.IRQ : RF := ⟨0x2000230000, 0, 0, 5, 1⟩
def THM.CFG.THR_OFF : RF := ⟨0x2000230000, 0, 0, 15, 8⟩
def THM.CFG.THR_ON : RF := ⟨0x2000230000, 0, 0, 23, 16⟩
def THM.CFG.CRIT : RF := ⟨0x2000230000, 0, 0, 31, 24⟩
def THM.STATUS.THROTTLE : RF := ⟨0x2000230004, 0, 0, 0, 0⟩
def THM.STATUS.CRIT : RF := ⟨0x2000230004, 0, 0, 1, 1⟩
def THM.STATUS.SHUT : RF := ⟨0x2000230004, 0, 0, 2, 2⟩
def THM.STATUS.CFG_REFUSED : RF := ⟨0x2000230004, 0, 0, 3, 3⟩
def THM.STATUS.LEVEL : RF := ⟨0x2000230004, 0, 0, 7, 4⟩
def THM.STATUS.THR_MS : RF := ⟨0x2000230004, 0, 0, 31, 16⟩
def THM.TJ_MAX.TJ : RF := ⟨0x2000230008, 0, 0, 15, 0⟩
def THM.TJ_MAX.SENSOR : RF := ⟨0x2000230008, 0, 0, 19, 16⟩
def THM.TJ_PEAK.TJ : RF := ⟨0x200023000C, 0, 0, 15, 0⟩
def THM.TJ_PEAK.SENSOR : RF := ⟨0x200023000C, 0, 0, 19, 16⟩

end Sys2Proof.Machine
end

