-- ==== Sys2Proof/Machine/RegTable.lean ====
section
/-!
DEFINITION. The register table: every register of the register maps of spec/ (R16) with its addresses, reset domain,
LOCK (R14), SW attribute (R288) and fields (access type R12, reset value, reserved encodings R11). Bits in no field are
reserved (R10). Reset values the tables do not write as one number are given by `resetOverride` in Ops.lean.
-/
namespace Sys2Proof.Machine

/-- Access types of R12. -/
inductive Acc where
  | ro | rw | wo | w1c | w1s | rwl
  deriving DecidableEq, Repr
/-- Reset domains (R16, R391); `kept`: held with the ageing history or in fuses, changed by no reset. -/
inductive Dom where
  | por | system | supervisor | axis | engine | kept
  deriving DecidableEq, Repr
/-- A 32-bit register, or the low or high half of a 64-bit pair (R15). -/
inductive RKind where
  | w32 | lo | hi
  deriving DecidableEq, Repr
/-- One field: bits, access type, reset value, reserved encodings as closed intervals. -/
structure FieldSpec where
  hi : Nat
  lo : Nat
  acc : Acc
  rst : Nat
  rsv : List (Nat × Nat)
  deriving DecidableEq, Repr
/-- One register family: `n1` instances `s1` apart, each an array of `n2` registers `s2` apart. `lock`: address of the
register that holds the LOCK bit for instance 0, its stride, and the bit. -/
structure RegSpec where
  base : Nat
  n1 : Nat
  s1 : Nat
  n2 : Nat
  s2 : Nat
  kind : RKind
  dom : Dom
  sw : Bool
  lock : Option (Nat × Nat × Nat)
  fields : List FieldSpec
  deriving DecidableEq, Repr

/-- Registers of one part of the address map. -/
def regs5_04 : List RegSpec := [
  ⟨0x2000040000, 1, 0, 1, 0, .lo, .por, false, some (0x2000040008, 0, 0), [⟨31, 0, .ro, 0, []⟩]⟩,
  ⟨0x2000040004, 1, 0, 1, 0, .hi, .por, false, some (0x2000040008, 0, 0), [⟨31, 0, .ro, 0, []⟩]⟩,
  ⟨0x2000040008, 1, 0, 1, 0, .w32, .system, false, some (0x2000040008, 0, 0), [⟨0, 0, .w1s, 0, []⟩, ⟨2, 1, .rwl, 0, [(3, 3)]⟩, ⟨3, 3, .rwl, 0, []⟩]⟩,
  ⟨0x200004000C, 1, 0, 1, 0, .w32, .system, false, some (0x2000040008, 0, 0), [⟨31, 0, .rw, 0, []⟩]⟩,
  ⟨0x2000040010, 1, 0, 1, 0, .lo, .system, false, some (0x2000040008, 0, 0), [⟨31, 0, .wo, 0, []⟩]⟩,
  ⟨0x2000040014, 1, 0, 1, 0, .hi, .system, false, some (0x2000040008, 0, 0), [⟨31, 0, .wo, 0, []⟩]⟩,
  ⟨0x2000040018, 1, 0, 1, 0, .w32, .system, false, some (0x2000040008, 0, 0), [⟨0, 0, .ro, 0, []⟩, ⟨1, 1, .w1c, 0, []⟩, ⟨2, 2, .w1c, 0, []⟩]⟩,
  ⟨0x200004001C, 1, 0, 1, 0, .w32, .system, false, some (0x2000040008, 0, 0), [⟨31, 0, .ro, 0, []⟩]⟩,
  ⟨0x2000040020, 1, 0, 1, 0, .lo, .system, false, some (0x2000040008, 0, 0), [⟨31, 0, .ro, 0, []⟩]⟩,
  ⟨0x2000040024, 1, 0, 1, 0, .hi, .system, false, some (0x2000040008, 0, 0), [⟨31, 0, .ro, 0, []⟩]⟩]
/-- Registers of one part of the address map. -/
def regs5_05 : List RegSpec := [
  ⟨0x2000050000, 64, 0x100, 1, 0, .w32, .system, false, none, [⟨0, 0, .rw, 0, []⟩, ⟨2, 1, .ro, 0, []⟩, ⟨6, 3, .rw, 0, [(7, 0xF)]⟩, ⟨10, 7, .rw, 0, [(7, 0xF)]⟩, ⟨16, 11, .rw, 0, []⟩, ⟨19, 17, .rw, 0, []⟩, ⟨23, 20, .rw, 0, []⟩]⟩,
  ⟨0x2000050004, 64, 0x100, 1, 0, .w32, .system, false, none, [⟨15, 0, .rw, 1, []⟩, ⟨31, 16, .rw, 1, []⟩]⟩,
  ⟨0x2000050008, 64, 0x100, 1, 0, .w32, .system, false, none, [⟨23, 0, .rw, 0, []⟩, ⟨31, 24, .rw, 0xFF, []⟩]⟩,
  ⟨0x200005000C, 64, 0x100, 1, 0, .w32, .system, false, none, [⟨31, 0, .rw, 0, []⟩]⟩,
  ⟨0x2000050010, 64, 0x100, 1, 0, .lo, .system, false, none, [⟨31, 0, .rw, 0, []⟩]⟩,
  ⟨0x2000050014, 64, 0x100, 1, 0, .hi, .system, false, none, [⟨31, 0, .rw, 0, []⟩]⟩,
  ⟨0x2000050018, 64, 0x100, 1, 0, .lo, .system, false, none, [⟨31, 0, .ro, 0, []⟩]⟩,
  ⟨0x200005001C, 64, 0x100, 1, 0, .hi, .system, false, none, [⟨31, 0, .ro, 0, []⟩]⟩,
  ⟨0x2000050020, 64, 0x100, 1, 0, .w32, .system, false, none, [⟨2, 0, .ro, 0, []⟩, ⟨3, 3, .w1c, 0, []⟩, ⟨4, 4, .w1c, 0, []⟩, ⟨31, 16, .ro, 0, []⟩]⟩]
/-- Registers of one part of the address map. -/
def regs5_06 : List RegSpec := [
  ⟨0x2000060000, 256, 0x40, 1, 0, .w32, .system, false, none, [⟨0, 0, .rw, 0, []⟩, ⟨1, 1, .rw, 0, []⟩, ⟨3, 2, .rw, 0, [(3, 3)]⟩, ⟨9, 4, .rw, 0, []⟩, ⟨13, 10, .rw, 0, [(7, 0xF)]⟩, ⟨25, 16, .rw, 0, []⟩]⟩,
  ⟨0x2000060008, 256, 0x40, 1, 0, .lo, .system, false, none, [⟨31, 0, .rw, 0, []⟩]⟩,
  ⟨0x200006000C, 256, 0x40, 1, 0, .hi, .system, false, none, [⟨31, 0, .rw, 0, []⟩]⟩,
  ⟨0x2000060010, 256, 0x40, 1, 0, .lo, .system, false, none, [⟨31, 0, .rw, 0, []⟩]⟩,
  ⟨0x2000060014, 256, 0x40, 1, 0, .hi, .system, false, none, [⟨31, 0, .rw, 0, []⟩]⟩,
  ⟨0x2000060018, 256, 0x40, 1, 0, .lo, .system, false, none, [⟨31, 0, .ro, 0xFFFFFFFF, []⟩]⟩,
  ⟨0x200006001C, 256, 0x40, 1, 0, .hi, .system, false, none, [⟨31, 0, .ro, 0xFFFFFFFF, []⟩]⟩,
  ⟨0x2000060020, 256, 0x40, 1, 0, .w32, .system, false, none, [⟨31, 0, .ro, 0, []⟩]⟩,
  ⟨0x2000060024, 256, 0x40, 1, 0, .w32, .system, false, none, [⟨30, 0, .rw, 0, []⟩]⟩,
  ⟨0x2000060028, 256, 0x40, 1, 0, .w32, .system, false, none, [⟨2, 0, .ro, 0, []⟩, ⟨3, 3, .w1c, 0, []⟩, ⟨4, 4, .w1c, 0, []⟩, ⟨5, 5, .w1c, 0, []⟩, ⟨15, 8, .ro, 0, []⟩, ⟨31, 16, .ro, 0, []⟩]⟩,
  ⟨0x200006002C, 256, 0x40, 1, 0, .lo, .system, false, none, [⟨31, 0, .ro, 0, []⟩]⟩,
  ⟨0x2000060030, 256, 0x40, 1, 0, .hi, .system, false, none, [⟨31, 0, .ro, 0, []⟩]⟩]
/-- Registers of one part of the address map. -/
def regs5_08_0 : List RegSpec := [
  ⟨0x2000081000, 8, 0x40, 1, 0, .w32, .system, false, none, [⟨0, 0, .wo, 0, []⟩, ⟨31, 16, .rw, 0, []⟩]⟩,
  ⟨0x2000081400, 32, 0x40, 1, 0, .w32, .system, false, none, [⟨0, 0, .wo, 0, []⟩, ⟨31, 16, .rw, 0, []⟩]⟩,
  ⟨0x2000081004, 8, 0x40, 1, 0, .w32, .system, false, none, [⟨31, 0, .ro, 0, []⟩]⟩,
  ⟨0x2000081404, 32, 0x40, 1, 0, .w32, .system, false, none, [⟨31, 0, .ro, 0, []⟩]⟩,
  ⟨0x2000081008, 8, 0x40, 1, 0, .lo, .system, false, none, [⟨31, 0, .ro, 0, []⟩]⟩,
  ⟨0x200008100C, 8, 0x40, 1, 0, .hi, .system, false, none, [⟨31, 0, .ro, 0, []⟩]⟩,
  ⟨0x2000081408, 32, 0x40, 1, 0, .lo, .system, false, none, [⟨31, 0, .ro, 0, []⟩]⟩,
  ⟨0x200008140C, 32, 0x40, 1, 0, .hi, .system, false, none, [⟨31, 0, .ro, 0, []⟩]⟩,
  ⟨0x2000081010, 8, 0x40, 1, 0, .w32, .system, false, none, [⟨31, 0, .ro, 0x7FFFFFFF, []⟩]⟩,
  ⟨0x2000081410, 32, 0x40, 1, 0, .w32, .system, false, none, [⟨31, 0, .ro, 0x7FFFFFFF, []⟩]⟩,
  ⟨0x2000081014, 8, 0x40, 1, 0, .w32, .system, false, none, [⟨31, 0, .ro, 0x80000000, []⟩]⟩,
  ⟨0x2000081414, 32, 0x40, 1, 0, .w32, .system, false, none, [⟨31, 0, .ro, 0x80000000, []⟩]⟩,
  ⟨0x2000081018, 8, 0x40, 1, 0, .lo, .system, false, none, [⟨31, 0, .ro, 0, []⟩]⟩,
  ⟨0x200008101C, 8, 0x40, 1, 0, .hi, .system, false, none, [⟨31, 0, .ro, 0, []⟩]⟩,
  ⟨0x2000081418, 32, 0x40, 1, 0, .lo, .system, false, none, [⟨31, 0, .ro, 0, []⟩]⟩,
  ⟨0x200008141C, 32, 0x40, 1, 0, .hi, .system, false, none, [⟨31, 0, .ro, 0, []⟩]⟩,
  ⟨0x2000081020, 8, 0x40, 1, 0, .lo, .system, false, none, [⟨31, 0, .ro, 0, []⟩]⟩,
  ⟨0x2000081024, 8, 0x40, 1, 0, .hi, .system, false, none, [⟨31, 0, .ro, 0, []⟩]⟩,
  ⟨0x2000081420, 32, 0x40, 1, 0, .lo, .system, false, none, [⟨31, 0, .ro, 0, []⟩]⟩,
  ⟨0x2000081424, 32, 0x40, 1, 0, .hi, .system, false, none, [⟨31, 0, .ro, 0, []⟩]⟩,
  ⟨0x2000081028, 8, 0x40, 1, 0, .lo, .system, false, none, [⟨31, 0, .ro, 0, []⟩]⟩,
  ⟨0x200008102C, 8, 0x40, 1, 0, .hi, .system, false, none, [⟨31, 0, .ro, 0, []⟩]⟩,
  ⟨0x2000081428, 32, 0x40, 1, 0, .lo, .system, false, none, [⟨31, 0, .ro, 0, []⟩]⟩,
  ⟨0x200008142C, 32, 0x40, 1, 0, .hi, .system, false, none, [⟨31, 0, .ro, 0, []⟩]⟩,
  ⟨0x2000081030, 8, 0x40, 1, 0, .w32, .system, false, none, [⟨0, 0, .ro, 0, []⟩, ⟨31, 16, .ro, 0, []⟩]⟩,
  ⟨0x2000081430, 32, 0x40, 1, 0, .w32, .system, false, none, [⟨0, 0, .ro, 0, []⟩, ⟨31, 16, .ro, 0, []⟩]⟩,
  ⟨0x2000080000, 1, 0, 1, 0, .w32, .system, true, none, [⟨0, 0, .wo, 0, []⟩, ⟨1, 1, .rw, 1, []⟩, ⟨2, 2, .rw, 1, []⟩, ⟨3, 3, .rw, 1, []⟩, ⟨4, 4, .rw, 1, []⟩]⟩,
  ⟨0x2000080004, 1, 0, 1, 0, .w32, .system, false, none, [⟨0, 0, .ro, 0, []⟩, ⟨1, 1, .w1c, 0, []⟩, ⟨2, 2, .w1c, 0, []⟩, ⟨3, 3, .w1c, 0, []⟩, ⟨15, 8, .w1c, 0, []⟩]⟩,
  ⟨0x2000080008, 1, 0, 1, 0, .lo, .por, false, none, [⟨31, 0, .ro, 0, []⟩]⟩,
  ⟨0x200008000C, 1, 0, 1, 0, .hi, .por, false, none, [⟨31, 0, .ro, 0, []⟩]⟩,
  ⟨0x2000080800, 1, 0, 44, 8, .w32, .por, false, none, [⟨31, 0, .ro, 0, []⟩]⟩,
  ⟨0x2000080804, 1, 0, 44, 8, .w32, .por, false, none, [⟨31, 0, .ro, 0, []⟩]⟩,
  ⟨0x2000080100, 8, 0x10, 1, 0, .w32, .system, false, some (0x2000090000, 0x100, 2), [⟨9, 0, .rwl, 0x3FF, []⟩, ⟨25, 16, .rwl, 0x40, []⟩]⟩,
  ⟨0x2000080104, 8, 0x10, 1, 0, .w32, .system, false, some (0x2000090000, 0x100, 2), [⟨0, 0, .ro, 0, []⟩, ⟨1, 1, .ro, 0, []⟩, ⟨2, 2, .w1c, 0, []⟩, ⟨3, 3, .ro, 0, []⟩]⟩,
  ⟨0x2000080200, 32, 0x10, 1, 0, .w32, .system, false, none, [⟨0, 0, .rw, 1, []⟩, ⟨2, 1, .rw, 2, [(3, 3)]⟩, ⟨3, 3, .rw, 0, []⟩]⟩,
  ⟨0x2000080204, 32, 0x10, 1, 0, .w32, .system, false, none, [⟨14, 0, .rw, 0, []⟩, ⟨18, 16, .rw, 0, [(5, 7)]⟩]⟩,
  ⟨0x2000080208, 32, 0x10, 1, 0, .w32, .system, false, none, [⟨0, 0, .ro, 0, []⟩, ⟨1, 1, .ro, 0, []⟩, ⟨2, 2, .w1c, 0, []⟩, ⟨3, 3, .w1c, 0, []⟩, ⟨4, 4, .ro, 0, []⟩, ⟨31, 16, .ro, 0, []⟩]⟩,
  ⟨0x2000082000, 4, 0x800, 1, 0, .w32, .system, false, none, [⟨0, 0, .wo, 0, []⟩, ⟨1, 1, .rw, 0, []⟩, ⟨2, 2, .rw, 1, []⟩, ⟨3, 3, .wo, 0, []⟩]⟩,
  ⟨0x2000082004, 4, 0x800, 1, 0, .w32, .system, false, none, [⟨0, 0, .ro, 0, []⟩, ⟨1, 1, .w1c, 0, []⟩, ⟨2, 2, .w1c, 0, []⟩, ⟨3, 3, .w1c, 0, []⟩, ⟨4, 4, .w1c, 0, []⟩, ⟨5, 5, .w1c, 0, []⟩, ⟨13, 8, .ro, 0, []⟩, ⟨31, 16, .ro, 0, []⟩]⟩,
  ⟨0x2000082008, 4, 0x800, 1, 0, .w32, .system, false, none, [⟨0, 0, .wo, 0, []⟩, ⟨7, 2, .rw, 0, [(0x14, 0x3F)]⟩, ⟨9, 8, .rw, 0, [(3, 3)]⟩, ⟨13, 10, .rw, 0, []⟩]⟩]
def regs5_08_1 : List RegSpec := [
  ⟨0x200008200C, 4, 0x800, 1, 0, .w32, .system, false, none, [⟨31, 0, .ro, 0, []⟩]⟩,
  ⟨0x2000082010, 4, 0x800, 1, 0, .lo, .system, false, none, [⟨31, 0, .ro, 0, []⟩]⟩,
  ⟨0x2000082014, 4, 0x800, 1, 0, .hi, .system, false, none, [⟨31, 0, .ro, 0, []⟩]⟩,
  ⟨0x2000082100, 4, 0x800, 64, 4, .w32, .system, false, none, [⟨5, 0, .rw, 0, [(0x14, 0x3F)]⟩, ⟨7, 6, .rw, 0, [(3, 3)]⟩, ⟨11, 8, .rw, 0, []⟩, ⟨19, 12, .rw, 0, []⟩, ⟨27, 20, .rw, 0, []⟩, ⟨28, 28, .rw, 0, []⟩, ⟨29, 29, .rw, 0, []⟩]⟩,
  ⟨0x2000082200, 4, 0x800, 64, 4, .w32, .system, false, none, [⟨15, 0, .ro, 0, []⟩, ⟨16, 16, .ro, 0, []⟩, ⟨17, 17, .ro, 0, []⟩, ⟨31, 24, .ro, 0, []⟩]⟩,
  ⟨0x2000082300, 4, 0x800, 64, 8, .lo, .system, false, none, [⟨31, 0, .ro, 0, []⟩]⟩,
  ⟨0x2000082304, 4, 0x800, 64, 8, .hi, .system, false, none, [⟨31, 0, .ro, 0, []⟩]⟩]
def regs5_08 : List RegSpec := regs5_08_0 ++ regs5_08_1
/-- Registers of one part of the address map. -/
def regs5_09 : List RegSpec := [
  ⟨0x2000090000, 8, 0x100, 1, 0, .w32, .system, false, some (0x2000090000, 0x100, 2), [⟨0, 0, .rwl, 0, []⟩, ⟨1, 1, .rwl, 0, []⟩, ⟨2, 2, .w1s, 0, []⟩]⟩,
  ⟨0x2000090004, 8, 0x100, 1, 0, .w32, .system, false, some (0x2000090000, 0x100, 2), [⟨15, 0, .rwl, 0xFFFC, []⟩, ⟨31, 16, .rwl, 0xFFFB, []⟩]⟩,
  ⟨0x2000090008, 8, 0x100, 1, 0, .w32, .system, false, some (0x2000090000, 0x100, 2), [⟨15, 0, .rwl, 0xFFFE, []⟩, ⟨31, 16, .rwl, 0xFFFD, []⟩]⟩,
  ⟨0x200009000C, 8, 0x100, 1, 0, .w32, .system, false, some (0x2000090000, 0x100, 2), [⟨15, 0, .rwl, 0, []⟩]⟩,
  ⟨0x2000090010, 8, 0x100, 1, 0, .w32, .system, false, some (0x2000090000, 0x100, 2), [⟨7, 0, .rwl, 0x14, []⟩, ⟨23, 8, .rwl, 0, []⟩]⟩,
  ⟨0x2000090014, 8, 0x100, 1, 0, .w32, .system, false, some (0x2000090000, 0x100, 2), [⟨15, 0, .rwl, 0, []⟩, ⟨31, 16, .rwl, 0, []⟩]⟩,
  ⟨0x2000090018, 8, 0x100, 1, 0, .w32, .system, false, some (0x2000090000, 0x100, 2), [⟨15, 0, .rwl, 0, []⟩]⟩,
  ⟨0x200009001C, 8, 0x100, 1, 0, .w32, .system, false, some (0x2000090000, 0x100, 2), [⟨31, 0, .rwl, 0, []⟩]⟩,
  ⟨0x2000090020, 8, 0x100, 1, 0, .w32, .system, false, some (0x2000090000, 0x100, 2), [⟨31, 0, .rwl, 0, []⟩]⟩,
  ⟨0x2000090024, 8, 0x100, 1, 0, .w32, .system, false, some (0x2000090000, 0x100, 2), [⟨31, 0, .rwl, 0xFFFFFFFF, [(0, 0)]⟩]⟩,
  ⟨0x2000090030, 8, 0x100, 1, 0, .w32, .system, false, some (0x2000090000, 0x100, 2), [⟨0, 0, .ro, 0, []⟩, ⟨1, 1, .w1c, 0, []⟩, ⟨3, 2, .ro, 0, []⟩, ⟨4, 4, .w1c, 0, []⟩, ⟨5, 5, .ro, 0, []⟩, ⟨6, 6, .w1c, 0, []⟩, ⟨7, 7, .w1c, 0, []⟩, ⟨8, 8, .ro, 0, []⟩, ⟨9, 9, .w1c, 0, []⟩]⟩,
  ⟨0x2000090034, 8, 0x100, 1, 0, .w32, .system, false, some (0x2000090000, 0x100, 2), [⟨30, 0, .ro, 0x7FFFFFFF, []⟩]⟩,
  ⟨0x2000090038, 8, 0x100, 1, 0, .w32, .system, false, some (0x2000090000, 0x100, 2), [⟨15, 0, .ro, 0, []⟩]⟩,
  ⟨0x200009003C, 8, 0x100, 1, 0, .w32, .system, false, some (0x2000090000, 0x100, 2), [⟨0, 0, .wo, 0, []⟩, ⟨1, 1, .wo, 0, []⟩, ⟨31, 16, .rw, 0, []⟩]⟩,
  ⟨0x2000090040, 8, 0x100, 6, 8, .lo, .system, false, some (0x2000090000, 0x100, 2), [⟨31, 0, .ro, 0, []⟩]⟩,
  ⟨0x2000090044, 8, 0x100, 6, 8, .hi, .system, false, some (0x2000090000, 0x100, 2), [⟨31, 0, .ro, 0, []⟩]⟩,
  ⟨0x2000090070, 8, 0x100, 1, 0, .lo, .system, false, some (0x2000090000, 0x100, 2), [⟨31, 0, .ro, 0, []⟩]⟩,
  ⟨0x2000090074, 8, 0x100, 1, 0, .hi, .system, false, some (0x2000090000, 0x100, 2), [⟨31, 0, .ro, 0, []⟩]⟩,
  ⟨0x2000090078, 8, 0x100, 1, 0, .lo, .system, false, some (0x2000090000, 0x100, 2), [⟨31, 0, .ro, 0, []⟩]⟩,
  ⟨0x200009007C, 8, 0x100, 1, 0, .hi, .system, false, some (0x2000090000, 0x100, 2), [⟨31, 0, .ro, 0, []⟩]⟩,
  ⟨0x2000090080, 8, 0x100, 1, 0, .lo, .system, false, some (0x2000090000, 0x100, 2), [⟨31, 0, .ro, 0, []⟩]⟩,
  ⟨0x2000090084, 8, 0x100, 1, 0, .hi, .system, false, some (0x2000090000, 0x100, 2), [⟨31, 0, .ro, 0, []⟩]⟩]
/-- Registers of one part of the address map. -/
def regs5_0A : List RegSpec := [
  ⟨0x20000A0000, 1, 0, 1, 0, .w32, .system, true, some (0x20000A0020, 0, 0), [⟨0, 0, .wo, 0, []⟩, ⟨1, 1, .wo, 0, []⟩, ⟨3, 2, .rw, 0, [(3, 3)]⟩, ⟨9, 4, .rw, 0, [(0x30, 0x3F)]⟩]⟩,
  ⟨0x20000A0004, 1, 0, 1, 0, .w32, .system, false, some (0x20000A0020, 0, 0), [⟨22, 0, .rw, 0, []⟩]⟩,
  ⟨0x20000A0008, 1, 0, 1, 0, .w32, .system, false, some (0x20000A0020, 0, 0), [⟨0, 0, .ro, 0, []⟩, ⟨1, 1, .w1c, 0, []⟩, ⟨2, 2, .w1c, 0, []⟩, ⟨6, 3, .ro, 0, []⟩]⟩,
  ⟨0x20000A000C, 1, 0, 1, 0, .w32, .system, false, some (0x20000A0020, 0, 0), [⟨31, 0, .ro, 0, []⟩]⟩,
  ⟨0x20000A0010, 1, 0, 1, 0, .w32, .system, false, some (0x20000A0020, 0, 0), [⟨31, 0, .ro, 0, []⟩]⟩,
  ⟨0x20000A0014, 1, 0, 3, 4, .w32, .system, false, some (0x20000A0020, 0, 0), [⟨31, 0, .rwl, 0x40000, []⟩]⟩,
  ⟨0x20000A0020, 1, 0, 1, 0, .w32, .system, false, some (0x20000A0020, 0, 0), [⟨0, 0, .w1s, 0, []⟩]⟩,
  ⟨0x20000A0024, 1, 0, 1, 0, .w32, .system, false, some (0x20000A0020, 0, 0), [⟨11, 0, .ro, 0xFFF, []⟩, ⟨15, 12, .ro, 0xF, []⟩, ⟨27, 16, .ro, 0, []⟩, ⟨31, 28, .ro, 0, []⟩]⟩,
  ⟨0x20000A0028, 1, 0, 1, 0, .w32, .system, true, some (0x20000A0020, 0, 0), [⟨11, 0, .w1s, 0, []⟩, ⟨15, 12, .w1s, 0, []⟩]⟩,
  ⟨0x20000A002C, 1, 0, 1, 0, .w32, .system, false, some (0x20000A0020, 0, 0), [⟨15, 0, .ro, 0, []⟩, ⟨23, 16, .ro, 0, []⟩, ⟨31, 24, .ro, 0, []⟩]⟩,
  ⟨0x20000A0030, 1, 0, 1, 0, .w32, .system, false, some (0x20000A0020, 0, 0), [⟨15, 0, .ro, 0, []⟩, ⟨23, 16, .ro, 0, []⟩, ⟨31, 24, .ro, 0, []⟩]⟩,
  ⟨0x20000A0034, 1, 0, 1, 0, .w32, .system, false, some (0x20000A0020, 0, 0), [⟨0, 0, .w1c, 0, []⟩, ⟨1, 1, .w1c, 0, []⟩, ⟨2, 2, .w1c, 0, []⟩, ⟨3, 3, .w1c, 0, []⟩]⟩]
/-- Registers of one part of the address map. -/
def regs5_0B : List RegSpec := [
  ⟨0x20000B0000, 1, 0, 1, 0, .w32, .system, false, some (0x20000B0000, 0, 0), [⟨0, 0, .w1s, 0, []⟩]⟩,
  ⟨0x20000B0004, 1, 0, 1, 0, .w32, .system, false, some (0x20000B0000, 0, 0), [⟨0, 0, .w1c, 0, []⟩, ⟨31, 16, .ro, 0, []⟩]⟩,
  ⟨0x20000B0008, 1, 0, 1, 0, .lo, .system, false, some (0x20000B0000, 0, 0), [⟨31, 6, .rwl, 0, []⟩]⟩,
  ⟨0x20000B000C, 1, 0, 1, 0, .hi, .system, false, some (0x20000B0000, 0, 0), [⟨31, 0, .rwl, 0, []⟩]⟩,
  ⟨0x20000B0010, 1, 0, 1, 0, .lo, .system, false, some (0x20000B0000, 0, 0), [⟨31, 6, .rwl, 0, []⟩]⟩,
  ⟨0x20000B0014, 1, 0, 1, 0, .hi, .system, false, some (0x20000B0000, 0, 0), [⟨31, 0, .rwl, 0, []⟩]⟩,
  ⟨0x20000B1000, 32, 0x40, 1, 0, .w32, .system, false, some (0x20000B0000, 0, 0), [⟨0, 0, .rwl, 0, []⟩, ⟨6, 1, .rwl, 0, []⟩, ⟨10, 7, .rwl, 0xA, [(0, 5), (0xD, 0xF)]⟩, ⟨13, 11, .rwl, 2, [(6, 7)]⟩, ⟨18, 14, .rwl, 0x10, [(0, 0xB), (0x15, 0x1F)]⟩, ⟨19, 19, .rwl, 0, []⟩, ⟨23, 20, .rwl, 8, [(0, 3)]⟩, ⟨29, 24, .rwl, 0x3F, [(0x30, 0x3E)]⟩]⟩,
  ⟨0x20000B1004, 32, 0x40, 1, 0, .w32, .system, false, some (0x20000B0000, 0, 0), [⟨15, 0, .rwl, 0x14, []⟩, ⟨31, 16, .rwl, 0x64, []⟩]⟩,
  ⟨0x20000B1008, 32, 0x40, 1, 0, .w32, .system, false, some (0x20000B0000, 0, 0), [⟨31, 0, .rwl, 0, []⟩]⟩,
  ⟨0x20000B100C, 32, 0x40, 1, 0, .w32, .system, false, some (0x20000B0000, 0, 0), [⟨1, 0, .ro, 0, []⟩, ⟨2, 2, .w1c, 0, []⟩, ⟨31, 16, .ro, 0, []⟩]⟩,
  ⟨0x20000B1010, 32, 0x40, 1, 0, .lo, .system, false, some (0x20000B0000, 0, 0), [⟨31, 0, .ro, 0, []⟩]⟩,
  ⟨0x20000B1014, 32, 0x40, 1, 0, .hi, .system, false, some (0x20000B0000, 0, 0), [⟨31, 0, .ro, 0, []⟩]⟩,
  ⟨0x20000B2000, 64, 0x40, 1, 0, .w32, .system, false, some (0x20000B0000, 0, 0), [⟨0, 0, .rw, 0, []⟩, ⟨3, 1, .rwl, 3, [(7, 7)]⟩, ⟨7, 4, .rwl, 0xF, []⟩, ⟨8, 8, .rwl, 0, []⟩, ⟨9, 9, .rwl, 0, []⟩, ⟨14, 10, .rwl, 0, []⟩, ⟨23, 16, .rwl, 0, []⟩, ⟨31, 24, .rwl, 0, []⟩]⟩,
  ⟨0x20000B2004, 64, 0x40, 1, 0, .w32, .system, false, some (0x20000B0000, 0, 0), [⟨31, 0, .rwl, 0, []⟩]⟩,
  ⟨0x20000B2008, 64, 0x40, 1, 0, .lo, .system, false, some (0x20000B0000, 0, 0), [⟨31, 0, .rwl, 0, []⟩]⟩,
  ⟨0x20000B200C, 64, 0x40, 1, 0, .hi, .system, false, some (0x20000B0000, 0, 0), [⟨31, 0, .rwl, 0, []⟩]⟩,
  ⟨0x20000B2010, 64, 0x40, 1, 0, .w32, .system, false, some (0x20000B0000, 0, 0), [⟨31, 0, .ro, 0, []⟩]⟩,
  ⟨0x20000B2014, 64, 0x40, 1, 0, .lo, .system, false, some (0x20000B0000, 0, 0), [⟨31, 0, .rwl, 0, []⟩]⟩,
  ⟨0x20000B2018, 64, 0x40, 1, 0, .hi, .system, false, some (0x20000B0000, 0, 0), [⟨15, 0, .rwl, 0, []⟩]⟩,
  ⟨0x20000B201C, 64, 0x40, 1, 0, .w32, .system, false, some (0x20000B0000, 0, 0), [⟨15, 0, .rwl, 0, []⟩, ⟨31, 16, .rwl, 0, []⟩]⟩,
  ⟨0x20000B2020, 64, 0x40, 1, 0, .w32, .system, false, some (0x20000B0000, 0, 0), [⟨15, 0, .rwl, 0x8000, []⟩, ⟨31, 16, .rwl, 0x8000, []⟩]⟩,
  ⟨0x20000B2024, 64, 0x40, 1, 0, .w32, .system, false, some (0x20000B0000, 0, 0), [⟨15, 0, .rwl, 0, []⟩]⟩,
  ⟨0x20000B2028, 64, 0x40, 1, 0, .w32, .system, false, some (0x20000B0000, 0, 0), [⟨31, 0, .w1c, 0, []⟩]⟩,
  ⟨0x20000B202C, 64, 0x40, 1, 0, .w32, .system, false, some (0x20000B0000, 0, 0), [⟨0, 0, .w1c, 0, []⟩, ⟨1, 1, .w1c, 0, []⟩, ⟨2, 2, .w1c, 0, []⟩, ⟨3, 3, .w1c, 0, []⟩, ⟨4, 4, .w1c, 0, []⟩, ⟨15, 8, .ro, 0, []⟩, ⟨31, 16, .ro, 0, []⟩]⟩,
  ⟨0x20000B2030, 64, 0x40, 1, 0, .lo, .system, false, some (0x20000B0000, 0, 0), [⟨31, 0, .ro, 0, []⟩]⟩,
  ⟨0x20000B2034, 64, 0x40, 1, 0, .hi, .system, false, some (0x20000B0000, 0, 0), [⟨31, 0, .ro, 0, []⟩]⟩]
/-- Registers of one part of the address map. -/
def regs5_0C : List RegSpec := [
  ⟨0x20000C0000, 1, 0, 1, 0, .w32, .system, false, some (0x20000C0000, 0, 2), [⟨0, 0, .rwl, 0, []⟩, ⟨1, 1, .ro, 0, []⟩, ⟨2, 2, .w1s, 0, []⟩, ⟨15, 8, .rwl, 0x64, [(0, 9)]⟩]⟩,
  ⟨0x20000C0004, 1, 0, 1, 0, .w32, .system, false, some (0x20000C0000, 0, 2), [⟨0, 0, .ro, 0, []⟩, ⟨1, 1, .ro, 0, []⟩, ⟨2, 2, .w1c, 0, []⟩, ⟨31, 16, .ro, 0, []⟩]⟩]
/-- Registers of one part of the address map. -/
def regs5_0D : List RegSpec := [
  ⟨0x20000D0000, 1, 0, 1, 0, .w32, .system, false, none, [⟨15, 0, .ro, 0xFFFF, []⟩, ⟨16, 16, .ro, 0, []⟩]⟩,
  ⟨0x20000D0004, 1, 0, 1, 0, .w32, .kept, true, none, [⟨15, 0, .w1s, 0, []⟩]⟩,
  ⟨0x20000D0008, 1, 0, 1, 0, .lo, .system, false, none, [⟨31, 0, .ro, 0, []⟩]⟩,
  ⟨0x20000D000C, 1, 0, 1, 0, .hi, .system, false, none, [⟨31, 0, .ro, 0xF, []⟩]⟩,
  ⟨0x20000D0010, 1, 0, 1, 0, .w32, .system, false, none, [⟨0, 0, .rw, 1, []⟩, ⟨15, 8, .rw, 0x18, [(0, 0)]⟩, ⟨20, 16, .rw, 0, []⟩]⟩,
  ⟨0x20000D0014, 1, 0, 1, 0, .w32, .system, false, none, [⟨0, 0, .w1c, 0, []⟩, ⟨1, 1, .w1c, 0, []⟩, ⟨2, 2, .w1c, 0, []⟩, ⟨3, 3, .w1c, 0, []⟩, ⟨4, 4, .w1c, 0, []⟩]⟩,
  ⟨0x20000D0020, 1, 0, 1, 0, .lo, .system, false, none, [⟨31, 0, .ro, 0, []⟩]⟩,
  ⟨0x20000D0024, 1, 0, 1, 0, .hi, .system, false, none, [⟨31, 0, .ro, 0, []⟩]⟩,
  ⟨0x20000D0028, 1, 0, 1, 0, .w32, .system, false, none, [⟨5, 0, .ro, 0, []⟩, ⟨9, 6, .ro, 0, []⟩, ⟨11, 10, .ro, 0, []⟩, ⟨15, 12, .ro, 0, []⟩]⟩,
  ⟨0x20000D002C, 1, 0, 1, 0, .lo, .system, false, none, [⟨31, 0, .ro, 0, []⟩]⟩,
  ⟨0x20000D0030, 1, 0, 1, 0, .hi, .system, false, none, [⟨31, 0, .ro, 0, []⟩]⟩,
  ⟨0x20000D0034, 1, 0, 1, 0, .lo, .system, false, none, [⟨31, 0, .ro, 0, []⟩]⟩,
  ⟨0x20000D0038, 1, 0, 1, 0, .hi, .system, false, none, [⟨31, 0, .ro, 0, []⟩]⟩,
  ⟨0x20000D003C, 1, 0, 1, 0, .w32, .system, false, none, [⟨31, 0, .ro, 0, []⟩]⟩,
  ⟨0x20000D0040, 1, 0, 1, 0, .lo, .system, false, none, [⟨31, 0, .ro, 0, []⟩]⟩,
  ⟨0x20000D0044, 1, 0, 1, 0, .hi, .system, false, none, [⟨31, 0, .ro, 0, []⟩]⟩,
  ⟨0x20000D0100, 1, 0, 16, 4, .w32, .system, false, none, [⟨15, 0, .ro, 0, []⟩, ⟨31, 16, .ro, 0, []⟩]⟩,
  ⟨0x20000D0140, 1, 0, 4, 4, .w32, .system, false, none, [⟨15, 0, .ro, 0, []⟩, ⟨31, 16, .ro, 0, []⟩]⟩]
/-- Registers of one part of the address map. -/
def regs5_0E : List RegSpec := [
  ⟨0x20000E0000, 1, 0, 1, 0, .w32, .supervisor, false, none, [⟨0, 0, .ro, 0, []⟩, ⟨1, 1, .ro, 0, []⟩, ⟨31, 16, .ro, 0, []⟩]⟩,
  ⟨0x20000E1000, 16, 0x400, 64, 4, .w32, .supervisor, false, none, [⟨31, 0, .rw, 0, []⟩]⟩,
  ⟨0x20000E1100, 16, 0x400, 64, 4, .w32, .supervisor, false, none, [⟨31, 0, .ro, 0, []⟩]⟩,
  ⟨0x20000E1200, 16, 0x400, 1, 0, .w32, .supervisor, false, none, [⟨0, 0, .wo, 0, []⟩]⟩,
  ⟨0x20000E1204, 16, 0x400, 1, 0, .w32, .supervisor, false, none, [⟨0, 0, .wo, 0, []⟩]⟩,
  ⟨0x20000E1208, 16, 0x400, 1, 0, .w32, .system, false, none, [⟨4, 0, .rw, 0, []⟩, ⟨8, 8, .rw, 0, []⟩]⟩,
  ⟨0x20000E120C, 16, 0x400, 1, 0, .w32, .supervisor, false, none, [⟨0, 0, .ro, 0, []⟩, ⟨1, 1, .ro, 0, []⟩, ⟨2, 2, .ro, 0, []⟩, ⟨3, 3, .w1c, 0, []⟩, ⟨4, 4, .w1c, 0, []⟩, ⟨5, 5, .ro, 0, []⟩, ⟨23, 16, .ro, 0, []⟩, ⟨31, 24, .ro, 0, []⟩]⟩,
  ⟨0x20000E1210, 16, 0x400, 1, 0, .lo, .supervisor, false, none, [⟨31, 0, .ro, 0, []⟩]⟩,
  ⟨0x20000E1214, 16, 0x400, 1, 0, .hi, .supervisor, false, none, [⟨31, 0, .ro, 0, []⟩]⟩]
/-- Registers of one part of the address map. -/
def regs5_0F : List RegSpec := [
  ⟨0x20000F0000, 1, 0, 1, 0, .w32, .system, false, none, [⟨0, 0, .wo, 0, []⟩]⟩,
  ⟨0x20000F0008, 1, 0, 1, 0, .lo, .system, false, none, [⟨31, 0, .rw, 0, []⟩]⟩,
  ⟨0x20000F000C, 1, 0, 1, 0, .hi, .system, false, none, [⟨31, 0, .rw, 0, []⟩]⟩,
  ⟨0x20000F0010, 1, 0, 1, 0, .w32, .system, false, none, [⟨0, 0, .wo, 0, []⟩]⟩,
  ⟨0x20000F0014, 1, 0, 1, 0, .w32, .supervisor, false, none, [⟨2, 0, .ro, 0, []⟩, ⟨7, 4, .ro, 0, []⟩]⟩,
  ⟨0x20000F0018, 1, 0, 1, 0, .w32, .supervisor, false, none, [⟨31, 0, .ro, 0, []⟩]⟩,
  ⟨0x20000F001C, 1, 0, 1, 0, .w32, .supervisor, false, none, [⟨31, 0, .ro, 0, []⟩]⟩,
  ⟨0x20000F0020, 1, 0, 1, 0, .w32, .system, false, none, [⟨31, 0, .ro, 0, []⟩]⟩,
  ⟨0x20000F0024, 1, 0, 1, 0, .w32, .system, false, none, [⟨2, 0, .ro, 0, []⟩, ⟨31, 16, .ro, 0, []⟩]⟩,
  ⟨0x20000F0028, 1, 0, 1, 0, .lo, .supervisor, false, none, [⟨31, 0, .ro, 0, []⟩]⟩,
  ⟨0x20000F002C, 1, 0, 1, 0, .hi, .supervisor, false, none, [⟨31, 0, .ro, 0, []⟩]⟩]
/-- Registers of one part of the address map. -/
def regs5_10 : List RegSpec := [
  ⟨0x2000100000, 10, 0x10000, 1, 0, .w32, .system, true, none, [⟨0, 0, .w1s, 0, []⟩]⟩,
  ⟨0x2000100004, 10, 0x10000, 1, 0, .w32, .system, true, none, [⟨0, 0, .w1c, 0, []⟩, ⟨31, 16, .ro, 0, []⟩]⟩,
  ⟨0x2000100010, 10, 0x10000, 1, 0, .lo, .system, true, none, [⟨31, 0, .ro, 0, []⟩]⟩,
  ⟨0x2000100014, 10, 0x10000, 1, 0, .hi, .system, true, none, [⟨31, 0, .ro, 0, []⟩]⟩,
  ⟨0x2000100018, 10, 0x10000, 1, 0, .w32, .system, true, none, [⟨5, 0, .ro, 0, []⟩, ⟨9, 6, .ro, 0, []⟩, ⟨12, 10, .ro, 0, []⟩]⟩,
  ⟨0x200010001C, 10, 0x10000, 1, 0, .lo, .system, true, none, [⟨31, 0, .ro, 0, []⟩]⟩,
  ⟨0x2000100020, 10, 0x10000, 1, 0, .hi, .system, true, none, [⟨31, 0, .ro, 0, []⟩]⟩,
  ⟨0x2000100024, 10, 0x10000, 1, 0, .lo, .system, true, none, [⟨31, 0, .ro, 0, []⟩]⟩,
  ⟨0x2000100028, 10, 0x10000, 1, 0, .hi, .system, true, none, [⟨31, 0, .ro, 0, []⟩]⟩,
  ⟨0x200010002C, 10, 0x10000, 1, 0, .w32, .system, true, none, [⟨31, 0, .ro, 0, []⟩]⟩,
  ⟨0x2000100030, 10, 0x10000, 1, 0, .lo, .system, true, none, [⟨31, 0, .ro, 0, []⟩]⟩,
  ⟨0x2000100034, 10, 0x10000, 1, 0, .hi, .system, true, none, [⟨31, 0, .ro, 0, []⟩]⟩,
  ⟨0x2000101000, 10, 0x10000, 1024, 0x10, .w32, .system, true, none, [⟨31, 0, .rw, 0, []⟩]⟩,
  ⟨0x2000101004, 10, 0x10000, 1024, 0x10, .w32, .system, true, none, [⟨31, 0, .rw, 0, []⟩]⟩,
  ⟨0x2000101008, 10, 0x10000, 1024, 0x10, .w32, .system, true, none, [⟨0, 0, .rw, 0, []⟩, ⟨1, 1, .rw, 0, []⟩, ⟨2, 2, .rw, 0, []⟩, ⟨3, 3, .rw, 0, []⟩]⟩,
  ⟨0x200010100C, 10, 0x10000, 1024, 0x10, .w32, .system, true, none, []⟩]
/-- Registers of one part of the address map. -/
def regs5_1A : List RegSpec := [
  ⟨0x20001A0000, 1, 0, 1, 0, .w32, .system, true, some (0x20001A0000, 0, 0), [⟨0, 0, .w1s, 0, []⟩]⟩,
  ⟨0x20001A0004, 1, 0, 1, 0, .w32, .system, true, some (0x20001A0000, 0, 0), [⟨0, 0, .ro, 0, []⟩, ⟨1, 1, .ro, 0, []⟩, ⟨2, 2, .w1c, 0, []⟩, ⟨3, 3, .w1c, 0, []⟩, ⟨4, 4, .w1c, 0, []⟩]⟩,
  ⟨0x20001A0008, 1, 0, 1, 0, .w32, .system, true, some (0x20001A0000, 0, 0), [⟨15, 0, .wo, 0, []⟩, ⟨16, 16, .wo, 0, []⟩]⟩,
  ⟨0x20001A000C, 1, 0, 1, 0, .w32, .system, true, some (0x20001A0000, 0, 0), [⟨15, 0, .rw, 0, []⟩]⟩,
  ⟨0x20001A0010, 1, 0, 1, 0, .w32, .system, true, some (0x20001A0000, 0, 0), [⟨3, 0, .rwl, 0xA, []⟩, ⟨11, 4, .rwl, 0x32, []⟩]⟩,
  ⟨0x20001A0014, 1, 0, 1, 0, .w32, .system, true, some (0x20001A0000, 0, 0), [⟨7, 0, .rwl, 0x64, [(0, 9)]⟩, ⟨15, 8, .rwl, 0x14, [(0, 4), (0x29, 0xFF)]⟩]⟩,
  ⟨0x20001A0018, 1, 0, 1, 0, .w32, .system, true, some (0x20001A0000, 0, 0), [⟨1, 0, .rwl, 0, [(3, 3)]⟩, ⟨2, 2, .rwl, 0, []⟩, ⟨4, 3, .rwl, 0, [(3, 3)]⟩, ⟨5, 5, .rwl, 0, []⟩, ⟨6, 6, .rwl, 0, []⟩, ⟨7, 7, .rwl, 0, []⟩, ⟨8, 8, .rwl, 0, []⟩, ⟨9, 9, .rwl, 0, []⟩]⟩,
  ⟨0x20001A001C, 1, 0, 1, 0, .w32, .system, true, some (0x20001A0000, 0, 0), [⟨15, 0, .rwl, 0x4000, []⟩]⟩,
  ⟨0x20001A0020, 1, 0, 1, 0, .w32, .system, true, some (0x20001A0000, 0, 0), [⟨31, 0, .rwl, 0, []⟩]⟩,
  ⟨0x20001A0024, 1, 0, 1, 0, .w32, .system, false, some (0x20001A0000, 0, 0), [⟨31, 0, .ro, 0, []⟩]⟩,
  ⟨0x20001A0040, 1, 0, 16, 8, .w32, .system, true, some (0x20001A0000, 0, 0), [⟨1, 0, .rwl, 0, []⟩, ⟨2, 2, .rwl, 0, []⟩, ⟨15, 8, .rwl, 0xA, [(0, 0)]⟩, ⟨23, 16, .rwl, 0x14, [(0, 0)]⟩]⟩,
  ⟨0x20001A0044, 1, 0, 16, 8, .w32, .system, true, some (0x20001A0000, 0, 0), [⟨15, 0, .rwl, 0, []⟩]⟩,
  ⟨0x20001A00C0, 1, 0, 1, 0, .w32, .system, false, some (0x20001A0000, 0, 0), [⟨15, 0, .ro, 0, []⟩, ⟨31, 16, .ro, 0, []⟩]⟩,
  ⟨0x20001A00C4, 1, 0, 1, 0, .w32, .system, false, some (0x20001A0000, 0, 0), [⟨15, 0, .ro, 0, []⟩, ⟨31, 16, .ro, 0, []⟩]⟩,
  ⟨0x20001A00D0, 1, 0, 1, 0, .w32, .system, false, some (0x20001A0000, 0, 0), [⟨5, 0, .ro, 0, []⟩, ⟨11, 6, .ro, 0x3F, []⟩, ⟨19, 12, .ro, 0, []⟩]⟩,
  ⟨0x20001A00D4, 1, 0, 1, 0, .lo, .system, false, some (0x20001A0000, 0, 0), [⟨31, 0, .ro, 0, []⟩]⟩,
  ⟨0x20001A00D8, 1, 0, 1, 0, .hi, .system, false, some (0x20001A0000, 0, 0), [⟨31, 0, .ro, 0, []⟩]⟩,
  ⟨0x20001A00E0, 1, 0, 1, 0, .w32, .system, false, some (0x20001A0000, 0, 0), [⟨15, 0, .ro, 0, []⟩, ⟨22, 16, .ro, 0, []⟩]⟩]
/-- Registers of one part of the address map. -/
def regs5_1B : List RegSpec := [
  ⟨0x20001B0000, 1, 0, 1, 0, .w32, .kept, true, none, [⟨0, 0, .rw, 0, []⟩, ⟨1, 1, .rw, 0, []⟩]⟩,
  ⟨0x20001B0004, 1, 0, 1, 0, .w32, .system, false, none, [⟨0, 0, .wo, 0, []⟩]⟩,
  ⟨0x20001B0008, 1, 0, 1, 0, .w32, .system, false, none, [⟨0, 0, .ro, 0, []⟩, ⟨1, 1, .ro, 0, []⟩, ⟨2, 2, .w1c, 0, []⟩, ⟨3, 3, .w1c, 0, []⟩, ⟨4, 4, .w1c, 0, []⟩, ⟨5, 5, .w1c, 0, []⟩, ⟨31, 16, .ro, 0, []⟩]⟩,
  ⟨0x20001B000C, 1, 0, 1, 0, .w32, .system, false, none, [⟨15, 0, .ro, 0, []⟩]⟩,
  ⟨0x20001B0010, 1, 0, 1, 0, .w32, .kept, false, none, [⟨15, 0, .ro, 0, []⟩, ⟨31, 16, .ro, 0, []⟩]⟩,
  ⟨0x20001B0014, 1, 0, 1, 0, .w32, .kept, false, none, [⟨15, 0, .ro, 0, []⟩, ⟨23, 16, .ro, 0, []⟩, ⟨31, 24, .ro, 0, []⟩]⟩,
  ⟨0x20001B0018, 1, 0, 1, 0, .w32, .system, false, none, [⟨15, 0, .ro, 0, []⟩, ⟨22, 16, .ro, 0, []⟩]⟩,
  ⟨0x20001B0020, 1, 0, 2, 4, .w32, .system, false, none, [⟨11, 0, .ro, 0, []⟩]⟩,
  ⟨0x20001B0030, 1, 0, 1, 0, .w32, .system, true, none, [⟨15, 0, .wo, 0, []⟩, ⟨23, 16, .wo, 0, []⟩, ⟨24, 24, .wo, 0, []⟩]⟩,
  ⟨0x20001B0034, 1, 0, 1, 0, .w32, .system, false, none, [⟨31, 0, .rw, 0, []⟩]⟩,
  ⟨0x20001B0038, 1, 0, 1, 0, .w32, .kept, false, none, [⟨31, 0, .ro, 0, []⟩]⟩,
  ⟨0x20001B003C, 1, 0, 4, 4, .w32, .kept, false, none, [⟨31, 0, .ro, 0, []⟩]⟩,
  ⟨0x20001B004C, 1, 0, 1, 0, .lo, .kept, false, none, [⟨31, 0, .ro, 0, []⟩]⟩,
  ⟨0x20001B0050, 1, 0, 1, 0, .hi, .kept, false, none, [⟨31, 0, .ro, 0, []⟩]⟩,
  ⟨0x20001B0054, 1, 0, 1, 0, .lo, .system, false, none, [⟨31, 0, .rw, 0, []⟩]⟩,
  ⟨0x20001B0058, 1, 0, 1, 0, .hi, .system, false, none, [⟨31, 0, .rw, 0, []⟩]⟩,
  ⟨0x20001B0080, 1, 0, 16, 4, .w32, .system, false, none, [⟨7, 0, .ro, 0, []⟩]⟩,
  ⟨0x20001B0100, 1, 0, 128, 4, .w32, .system, false, none, [⟨15, 0, .ro, 0, []⟩]⟩]
/-- Registers of one part of the address map. -/
def regs5_1C : List RegSpec := [
  ⟨0x20001C0000, 1, 0, 1, 0, .w32, .por, false, none, [⟨2, 0, .ro, 0, []⟩, ⟨3, 3, .ro, 0, []⟩, ⟨4, 4, .ro, 0, []⟩, ⟨5, 5, .ro, 0, []⟩, ⟨26, 16, .ro, 0, []⟩]⟩,
  ⟨0x20001C0010, 1, 0, 8, 4, .w32, .por, false, none, [⟨1, 0, .ro, 0, []⟩, ⟨11, 2, .ro, 0, []⟩, ⟨31, 12, .ro, 0, []⟩]⟩]
/-- Registers of one part of the address map. -/
def regs5_1D : List RegSpec := [
  ⟨0x20001D0000, 1, 0, 1, 0, .w32, .system, false, none, [⟨0, 0, .wo, 0, []⟩]⟩,
  ⟨0x20001D0004, 1, 0, 1, 0, .w32, .por, false, none, [⟨0, 0, .ro, 0, []⟩, ⟨1, 1, .w1c, 0, []⟩, ⟨31, 16, .ro, 0, []⟩]⟩,
  ⟨0x20001D0008, 1, 0, 1, 0, .w32, .por, false, none, [⟨31, 0, .ro, 0, []⟩]⟩,
  ⟨0x20001D000C, 1, 0, 1, 0, .w32, .por, false, none, [⟨31, 0, .ro, 0, []⟩]⟩,
  ⟨0x20001D0010, 1, 0, 1, 0, .w32, .por, false, none, [⟨31, 0, .ro, 0, []⟩]⟩,
  ⟨0x20001D0018, 1, 0, 1, 0, .lo, .kept, false, none, [⟨31, 0, .ro, 0, []⟩]⟩,
  ⟨0x20001D001C, 1, 0, 1, 0, .hi, .kept, false, none, [⟨31, 0, .ro, 0, []⟩]⟩,
  ⟨0x20001D0020, 1, 0, 1, 0, .w32, .kept, false, none, [⟨31, 0, .ro, 0, []⟩]⟩,
  ⟨0x20001D0024, 1, 0, 1, 0, .w32, .kept, false, none, [⟨31, 0, .ro, 0, []⟩]⟩,
  ⟨0x20001D0030, 1, 0, 1, 0, .w32, .system, false, none, [⟨31, 0, .rw, 0, []⟩]⟩,
  ⟨0x20001D0040, 1, 0, 16, 4, .w32, .system, false, none, [⟨31, 0, .ro, 0, []⟩]⟩]
/-- Registers of one part of the address map. -/
def regs5_1E : List RegSpec := [
  ⟨0x20001E0000, 1, 0, 1, 0, .w32, .kept, false, none, [⟨2, 0, .ro, 0, []⟩, ⟨3, 3, .ro, 0, []⟩]⟩,
  ⟨0x20001E0004, 1, 0, 1, 0, .w32, .por, false, none, [⟨1, 0, .ro, 3, []⟩, ⟨2, 2, .ro, 0, []⟩, ⟨7, 4, .ro, 0, []⟩, ⟨11, 8, .ro, 0, []⟩]⟩,
  ⟨0x20001E0008, 1, 0, 1, 0, .w32, .por, false, none, [⟨31, 0, .ro, 0, []⟩]⟩,
  ⟨0x20001E000C, 1, 0, 1, 0, .w32, .kept, false, none, [⟨11, 0, .ro, 0xF, []⟩, ⟨23, 12, .ro, 0, []⟩, ⟨31, 24, .ro, 0, []⟩]⟩,
  ⟨0x20001E0020, 1, 0, 8, 4, .w32, .por, false, none, [⟨31, 0, .ro, 0, []⟩]⟩,
  ⟨0x20001E0040, 1, 0, 8, 4, .w32, .por, true, none, [⟨31, 0, .rw, 0, []⟩]⟩,
  ⟨0x20001E0060, 1, 0, 1, 0, .w32, .system, true, none, [⟨2, 0, .wo, 0, []⟩, ⟨8, 8, .wo, 0, []⟩]⟩,
  ⟨0x20001E0064, 1, 0, 1, 0, .w32, .system, true, none, [⟨11, 0, .wo, 0, []⟩, ⟨23, 16, .wo, 0, []⟩]⟩,
  ⟨0x20001E0068, 1, 0, 1, 0, .w32, .system, true, none, [⟨2, 0, .wo, 0, []⟩, ⟨23, 16, .wo, 0, []⟩]⟩,
  ⟨0x20001E006C, 1, 0, 1, 0, .w32, .system, false, none, [⟨0, 0, .ro, 0, []⟩, ⟨1, 1, .w1c, 0, []⟩, ⟨2, 2, .w1c, 0, []⟩, ⟨6, 3, .ro, 0, []⟩]⟩,
  ⟨0x20001E0080, 1, 0, 8, 4, .w32, .kept, false, none, [⟨31, 0, .ro, 0, []⟩]⟩,
  ⟨0x20001E00A0, 1, 0, 8, 4, .w32, .system, false, none, [⟨31, 0, .rw, 0, []⟩]⟩,
  ⟨0x20001E00C0, 1, 0, 1, 0, .lo, .system, false, none, [⟨31, 0, .rw, 0, []⟩]⟩,
  ⟨0x20001E00C4, 1, 0, 1, 0, .hi, .system, false, none, [⟨31, 0, .rw, 0, []⟩]⟩,
  ⟨0x20001E00C8, 1, 0, 1, 0, .w32, .system, false, none, [⟨0, 0, .wo, 0, []⟩]⟩,
  ⟨0x20001E00CC, 1, 0, 1, 0, .w32, .system, false, none, [⟨0, 0, .ro, 0, []⟩, ⟨1, 1, .w1c, 0, []⟩, ⟨2, 2, .w1c, 0, []⟩, ⟨5, 3, .ro, 0, []⟩]⟩,
  ⟨0x20001E00D0, 1, 0, 1, 0, .w32, .system, false, none, [⟨0, 0, .wo, 0, []⟩, ⟨1, 1, .wo, 0, []⟩, ⟨2, 2, .w1c, 0, []⟩]⟩,
  ⟨0x20001E00D8, 1, 0, 1, 0, .lo, .system, false, none, [⟨31, 6, .rw, 0, []⟩]⟩,
  ⟨0x20001E00DC, 1, 0, 1, 0, .hi, .system, false, none, [⟨31, 0, .rw, 0, []⟩]⟩,
  ⟨0x20001E00E0, 1, 0, 8, 4, .w32, .system, false, none, [⟨31, 0, .ro, 0, []⟩]⟩,
  ⟨0x20001E1000, 1, 0, 328, 4, .w32, .kept, false, none, [⟨31, 0, .ro, 0, []⟩]⟩]
/-- Registers of one part of the address map. -/
def regs5_1F : List RegSpec := [
  ⟨0x20001F0000, 1, 0, 1, 0, .w32, .por, false, none, [⟨1, 0, .ro, 0, []⟩, ⟨2, 2, .ro, 0, []⟩]⟩,
  ⟨0x20001F0004, 1, 0, 1, 0, .w32, .system, false, none, [⟨0, 0, .wo, 0, []⟩, ⟨1, 1, .wo, 0, []⟩, ⟨23, 16, .wo, 0, []⟩]⟩,
  ⟨0x20001F0008, 1, 0, 1, 0, .w32, .por, false, none, [⟨2, 0, .ro, 0, []⟩, ⟨31, 16, .ro, 0, []⟩]⟩,
  ⟨0x20001F000C, 1, 0, 1, 0, .w32, .system, true, none, [⟨31, 0, .w1s, 0, []⟩]⟩,
  ⟨0x20001F0010, 1, 0, 1, 0, .w32, .system, true, none, [⟨15, 0, .w1s, 0, []⟩]⟩,
  ⟨0x20001F0014, 1, 0, 1, 0, .w32, .system, false, none, [⟨0, 0, .ro, 0, []⟩, ⟨1, 1, .ro, 0, []⟩, ⟨2, 2, .ro, 0, []⟩, ⟨3, 3, .ro, 0, []⟩, ⟨9, 8, .ro, 0, []⟩]⟩,
  ⟨0x20001F0018, 1, 0, 1, 0, .w32, .por, false, none, [⟨0, 0, .ro, 0, []⟩, ⟨1, 1, .ro, 0, []⟩, ⟨2, 2, .ro, 0, []⟩]⟩,
  ⟨0x20001F0020, 1, 0, 1, 0, .w32, .system, false, none, [⟨0, 0, .wo, 0, []⟩, ⟨3, 1, .rw, 0, []⟩, ⟨4, 4, .rw, 1, []⟩]⟩,
  ⟨0x20001F0024, 1, 0, 1, 0, .w32, .system, false, none, [⟨7, 0, .ro, 0xFF, []⟩, ⟨15, 8, .ro, 0, []⟩, ⟨23, 16, .ro, 0, []⟩, ⟨24, 24, .w1c, 0, []⟩, ⟨25, 25, .ro, 0, []⟩, ⟨30, 28, .ro, 0, []⟩]⟩,
  ⟨0x20001F0028, 1, 0, 1, 0, .lo, .system, false, none, [⟨31, 0, .ro, 0, []⟩]⟩,
  ⟨0x20001F002C, 1, 0, 1, 0, .hi, .system, false, none, [⟨31, 0, .ro, 0, []⟩]⟩,
  ⟨0x20001F0030, 1, 0, 1, 0, .w32, .por, false, none, [⟨0, 0, .rw, 1, []⟩, ⟨1, 1, .rw, 0, []⟩]⟩,
  ⟨0x20001F0038, 1, 0, 1, 0, .lo, .por, false, none, [⟨31, 0, .rw, 0, []⟩]⟩,
  ⟨0x20001F003C, 1, 0, 1, 0, .hi, .por, false, none, [⟨31, 0, .rw, 0, []⟩]⟩]
/-- Registers of one part of the address map. -/
def regs5_20 : List RegSpec := [
  ⟨0x2000200000, 3, 0x100, 1, 0, .w32, .system, false, none, [⟨0, 0, .wo, 0, []⟩]⟩,
  ⟨0x2000200004, 3, 0x100, 1, 0, .w32, .system, false, none, [⟨0, 0, .ro, 0, []⟩, ⟨3, 1, .ro, 0, []⟩, ⟨4, 4, .w1c, 0, []⟩, ⟨5, 5, .w1c, 0, []⟩, ⟨15, 8, .ro, 0, []⟩, ⟨23, 16, .ro, 0, []⟩, ⟨31, 24, .ro, 0xFF, []⟩]⟩,
  ⟨0x2000200008, 3, 0x100, 1, 0, .w32, .system, false, none, [⟨31, 0, .ro, 0, []⟩]⟩,
  ⟨0x200020000C, 3, 0x100, 1, 0, .w32, .system, false, none, [⟨31, 0, .ro, 0, []⟩]⟩,
  ⟨0x2000200010, 3, 0x100, 1, 0, .w32, .system, false, none, [⟨15, 0, .ro, 0, []⟩]⟩,
  ⟨0x2000200014, 3, 0x100, 1, 0, .lo, .system, false, none, [⟨31, 0, .ro, 0, []⟩]⟩,
  ⟨0x2000200018, 3, 0x100, 1, 0, .hi, .system, false, none, [⟨31, 0, .ro, 0, []⟩]⟩,
  ⟨0x200020001C, 3, 0x100, 1, 0, .w32, .system, false, none, [⟨31, 0, .ro, 0, []⟩]⟩]
/-- Registers of one part of the address map. -/
def regs5_21 : List RegSpec := [
  ⟨0x2000210000, 8, 0x10, 1, 0, .w32, .system, false, none, [⟨0, 0, .rw, 0, []⟩, ⟨1, 1, .rw, 0, []⟩, ⟨9, 2, .rw, 0xA, []⟩]⟩,
  ⟨0x2000210004, 8, 0x10, 1, 0, .w32, .system, false, none, [⟨15, 0, .ro, 0, []⟩, ⟨31, 16, .ro, 0, []⟩]⟩,
  ⟨0x2000210100, 8, 0x20, 1, 0, .w32, .system, false, none, [⟨0, 0, .rw, 0, []⟩, ⟨1, 1, .rw, 1, []⟩, ⟨3, 2, .rw, 0, [(3, 3)]⟩, ⟨9, 4, .rw, 0x19, [(0, 7), (0x29, 0x3F)]⟩, ⟨15, 10, .rw, 0xD, [(0, 7), (0x21, 0x3F)]⟩, ⟨23, 16, .rw, 0x14, []⟩]⟩,
  ⟨0x2000210104, 8, 0x20, 1, 0, .w32, .system, false, none, [⟨10, 0, .rw, 0x9F, [(0, 0xE), (0x500, 0x7FF)]⟩, ⟨26, 11, .rw, 0xA, [(0, 0)]⟩]⟩,
  ⟨0x2000210108, 8, 0x20, 1, 0, .w32, .system, false, none, [⟨15, 0, .ro, 0, []⟩, ⟨23, 16, .ro, 0, []⟩]⟩,
  ⟨0x2000210300, 1, 0, 1, 0, .w32, .system, false, none, [⟨0, 0, .rw, 0, []⟩, ⟨8, 1, .rw, 0x14, []⟩]⟩,
  ⟨0x2000210304, 1, 0, 1, 0, .w32, .system, false, none, [⟨31, 0, .ro, 0, []⟩]⟩,
  ⟨0x2000210308, 1, 0, 1, 0, .w32, .system, false, none, [⟨15, 0, .ro, 0, []⟩]⟩]
/-- Registers of one part of the address map. -/
def regs5_22 : List RegSpec := [
  ⟨0x2000220000, 1, 0, 1, 0, .lo, .system, false, some (0x2000220008, 0, 5), [⟨31, 20, .rwl, 0, []⟩]⟩,
  ⟨0x2000220004, 1, 0, 1, 0, .hi, .system, false, some (0x2000220008, 0, 5), [⟨31, 0, .rwl, 0, []⟩]⟩,
  ⟨0x2000220008, 1, 0, 1, 0, .w32, .system, false, some (0x2000220008, 0, 5), [⟨4, 0, .rwl, 0x14, []⟩, ⟨5, 5, .w1s, 0, []⟩]⟩,
  ⟨0x200022000C, 1, 0, 1, 0, .lo, .system, false, some (0x2000220008, 0, 5), [⟨31, 0, .rwl, 0, []⟩]⟩,
  ⟨0x2000220010, 1, 0, 1, 0, .hi, .system, false, some (0x2000220008, 0, 5), [⟨31, 0, .rwl, 0, []⟩]⟩,
  ⟨0x2000220014, 1, 0, 1, 0, .w32, .system, false, some (0x2000220008, 0, 5), [⟨2, 0, .ro, 0, []⟩, ⟨6, 3, .ro, 0, []⟩]⟩,
  ⟨0x2000220020, 1, 0, 1, 0, .w32, .system, false, some (0x2000220008, 0, 5), [⟨1, 0, .rwl, 0, []⟩, ⟨9, 2, .rwl, 0xF8, []⟩]⟩,
  ⟨0x2000220024, 1, 0, 1, 0, .w32, .system, false, some (0x2000220008, 0, 5), [⟨9, 0, .rwl, 0, []⟩, ⟨19, 10, .rwl, 0, []⟩, ⟨29, 20, .rwl, 0, []⟩]⟩,
  ⟨0x2000220028, 1, 0, 4, 8, .lo, .system, false, some (0x2000220008, 0, 5), [⟨31, 0, .rwl, 0, []⟩]⟩,
  ⟨0x200022002C, 1, 0, 4, 8, .hi, .system, false, some (0x2000220008, 0, 5), [⟨31, 0, .rwl, 0, []⟩]⟩,
  ⟨0x2000220060, 1, 0, 1, 0, .w32, .system, false, some (0x2000220008, 0, 5), [⟨6, 0, .rwl, 0x40, []⟩]⟩,
  ⟨0x2000220064, 1, 0, 1, 0, .w32, .system, false, some (0x2000220008, 0, 5), [⟨15, 0, .ro, 0, []⟩, ⟨31, 16, .ro, 0, []⟩]⟩,
  ⟨0x2000220068, 1, 0, 1, 0, .w32, .system, false, some (0x2000220008, 0, 5), [⟨15, 0, .ro, 0, []⟩]⟩]
/-- Registers of one part of the address map. -/
def regs5_23 : List RegSpec := [
  ⟨0x2000230000, 1, 0, 1, 0, .w32, .system, false, some (0x2000230000, 0, 0), [⟨0, 0, .w1s, 0, []⟩, ⟨5, 1, .rwl, 0, []⟩, ⟨15, 8, .rwl, 0x64, []⟩, ⟨23, 16, .rwl, 0x69, []⟩, ⟨31, 24, .rwl, 0x73, []⟩]⟩,
  ⟨0x2000230004, 1, 0, 1, 0, .w32, .system, false, some (0x2000230000, 0, 0), [⟨0, 0, .ro, 0, []⟩, ⟨1, 1, .w1c, 0, []⟩, ⟨2, 2, .ro, 0, []⟩, ⟨3, 3, .w1c, 0, []⟩, ⟨7, 4, .ro, 0, []⟩, ⟨31, 16, .ro, 0, []⟩]⟩,
  ⟨0x2000230008, 1, 0, 1, 0, .w32, .system, false, some (0x2000230000, 0, 0), [⟨15, 0, .ro, 0, []⟩, ⟨19, 16, .ro, 0, []⟩]⟩,
  ⟨0x200023000C, 1, 0, 1, 0, .w32, .system, false, some (0x2000230000, 0, 0), [⟨15, 0, .ro, 0, []⟩, ⟨19, 16, .ro, 0, []⟩]⟩]
/-- Registers of one part of the address map. -/
def regs6_pxb : List RegSpec := [
  ⟨0x2010300000, 1, 0, 2, 4, .w32, .system, true, none, [⟨5, 0, .rw, 0, [(0x30, 0x3F)]⟩, ⟨8, 8, .rw, 0, []⟩]⟩,
  ⟨0x2010300008, 1, 0, 1, 0, .w32, .system, true, none, [⟨0, 0, .ro, 0, []⟩, ⟨1, 1, .w1c, 0, []⟩]⟩]
/-- Registers of one part of the address map. -/
def regs6_00 : List RegSpec := [
  ⟨0x2010000000, 48, 0x10000, 1, 0, .w32, .axis, false, some (0x2010000000, 0x10000, 3), [⟨0, 0, .rw, 0, []⟩, ⟨1, 1, .rwl, 1, []⟩, ⟨2, 2, .rw, 0, []⟩, ⟨3, 3, .w1s, 0, []⟩]⟩,
  ⟨0x2010000004, 48, 0x10000, 1, 0, .w32, .axis, false, some (0x2010000000, 0x10000, 3), [⟨16, 0, .rw, 0x2710, []⟩]⟩,
  ⟨0x2010000008, 48, 0x10000, 3, 4, .w32, .axis, false, some (0x2010000000, 0x10000, 3), [⟨23, 0, .rw, 0x800000, []⟩]⟩,
  ⟨0x2010000014, 48, 0x10000, 1, 0, .w32, .axis, false, some (0x2010000000, 0x10000, 3), [⟨0, 0, .wo, 0, []⟩]⟩,
  ⟨0x2010000018, 48, 0x10000, 1, 0, .w32, .axis, false, some (0x2010000000, 0x10000, 3), [⟨14, 0, .rwl, 0x5000, [(0x5001, 0x7FFF)]⟩, ⟨30, 16, .rwl, 0x5000, [(0x5001, 0x7FFF)]⟩]⟩,
  ⟨0x201000001C, 48, 0x10000, 1, 0, .w32, .axis, false, some (0x2010000000, 0x10000, 3), [⟨14, 0, .rwl, 0, [(0x5001, 0x7FFF)]⟩]⟩,
  ⟨0x2010000020, 48, 0x10000, 1, 0, .w32, .axis, false, some (0x2010000000, 0x10000, 3), [⟨0, 0, .ro, 0, []⟩, ⟨1, 1, .w1c, 0, []⟩, ⟨2, 2, .w1c, 0, []⟩, ⟨3, 3, .w1c, 0, []⟩, ⟨4, 4, .w1c, 0, []⟩, ⟨5, 5, .w1c, 0, []⟩, ⟨6, 6, .w1c, 0, []⟩, ⟨7, 7, .w1c, 0, []⟩, ⟨8, 8, .ro, 0, []⟩, ⟨11, 9, .ro, 0, []⟩, ⟨31, 16, .ro, 0, []⟩]⟩,
  ⟨0x2010000024, 48, 0x10000, 1, 0, .w32, .axis, false, some (0x2010000000, 0x10000, 3), [⟨16, 0, .ro, 0x2710, []⟩]⟩,
  ⟨0x2010000028, 48, 0x10000, 3, 4, .w32, .axis, false, some (0x2010000000, 0x10000, 3), [⟨22, 0, .ro, 0, []⟩]⟩,
  ⟨0x2010000034, 48, 0x10000, 3, 4, .w32, .axis, false, some (0x2010000000, 0x10000, 3), [⟨31, 0, .ro, 0, []⟩]⟩,
  ⟨0x2010000040, 48, 0x10000, 1, 0, .lo, .axis, false, some (0x2010000000, 0x10000, 3), [⟨31, 0, .rw, 0, []⟩]⟩,
  ⟨0x2010000044, 48, 0x10000, 1, 0, .hi, .axis, false, some (0x2010000000, 0x10000, 3), [⟨31, 0, .rw, 0, []⟩]⟩,
  ⟨0x2010000048, 48, 0x10000, 1, 0, .lo, .axis, false, some (0x2010000000, 0x10000, 3), [⟨31, 0, .ro, 0, []⟩]⟩,
  ⟨0x201000004C, 48, 0x10000, 1, 0, .hi, .axis, false, some (0x2010000000, 0x10000, 3), [⟨31, 0, .ro, 0, []⟩]⟩,
  ⟨0x2010000050, 48, 0x10000, 1, 0, .w32, .axis, false, some (0x2010000000, 0x10000, 3), [⟨6, 0, .ro, 0, []⟩, ⟨7, 7, .ro, 0, []⟩, ⟨31, 16, .ro, 0, []⟩]⟩,
  ⟨0x2010000060, 48, 0x10000, 2, 4, .w32, .axis, false, some (0x2010000000, 0x10000, 3), [⟨0, 0, .rwl, 1, []⟩, ⟨1, 1, .rwl, 0, []⟩, ⟨3, 2, .rwl, 1, []⟩, ⟨13, 4, .rwl, 0, []⟩, ⟨23, 16, .rwl, 0xF, []⟩]⟩,
  ⟨0x2010000068, 48, 0x10000, 1, 0, .w32, .axis, false, some (0x2010000000, 0x10000, 3), [⟨1, 0, .w1c, 0, []⟩, ⟨3, 2, .ro, 0, []⟩, ⟨4, 4, .ro, 0, []⟩, ⟨31, 16, .ro, 0, []⟩]⟩,
  ⟨0x2010000070, 48, 0x10000, 1, 0, .lo, .axis, false, some (0x2010000000, 0x10000, 3), [⟨31, 0, .ro, 0, []⟩]⟩,
  ⟨0x2010000074, 48, 0x10000, 1, 0, .hi, .axis, false, some (0x2010000000, 0x10000, 3), [⟨31, 0, .ro, 0, []⟩]⟩,
  ⟨0x2010000080, 48, 0x10000, 1, 0, .w32, .axis, false, some (0x2010000000, 0x10000, 3), [⟨0, 0, .rwl, 1, []⟩]⟩,
  ⟨0x2010000084, 48, 0x10000, 1, 0, .w32, .axis, false, some (0x2010000000, 0x10000, 3), [⟨11, 0, .rwl, 0x40, []⟩, ⟨23, 16, .rwl, 4, []⟩, ⟨27, 24, .rwl, 3, [(0, 0)]⟩]⟩,
  ⟨0x2010000088, 48, 0x10000, 1, 0, .w32, .axis, false, some (0x2010000000, 0x10000, 3), [⟨1, 0, .w1c, 0, []⟩, ⟨2, 2, .w1c, 0, []⟩, ⟨3, 3, .w1c, 0, []⟩, ⟨4, 4, .w1c, 0, []⟩, ⟨11, 8, .ro, 0, []⟩, ⟨15, 12, .ro, 0, []⟩, ⟨31, 16, .ro, 0, []⟩]⟩,
  ⟨0x201000008C, 48, 0x10000, 1, 0, .w32, .system, false, some (0x2010000000, 0x10000, 3), [⟨2, 0, .ro, 0, []⟩, ⟨4, 3, .ro, 0, []⟩, ⟨7, 5, .ro, 0, []⟩]⟩,
  ⟨0x2010000090, 48, 0x10000, 3, 8, .w32, .por, false, some (0x2010000000, 0x10000, 3), [⟨31, 0, .ro, 0, []⟩]⟩,
  ⟨0x2010000094, 48, 0x10000, 3, 8, .w32, .por, false, some (0x2010000000, 0x10000, 3), [⟨31, 0, .ro, 0, []⟩]⟩,
  ⟨0x20100000B0, 48, 0x10000, 1, 0, .w32, .axis, false, some (0x2010000000, 0x10000, 3), [⟨0, 0, .rwl, 1, []⟩, ⟨1, 1, .rwl, 1, []⟩, ⟨3, 2, .rwl, 1, []⟩]⟩,
  ⟨0x20100000B4, 48, 0x10000, 3, 4, .w32, .axis, false, some (0x2010000000, 0x10000, 3), [⟨9, 0, .rw, 0, []⟩]⟩,
  ⟨0x20100000C0, 48, 0x10000, 1, 0, .w32, .axis, false, some (0x2010000000, 0x10000, 3), [⟨2, 0, .ro, 0, []⟩, ⟨3, 3, .w1c, 0, []⟩]⟩]
/-- Registers of one part of the address map. -/
def regs6_01 : List RegSpec := [
  ⟨0x2010000100, 48, 0x10000, 1, 0, .w32, .axis, false, none, [⟨0, 0, .wo, 0, []⟩, ⟨31, 16, .rw, 0, []⟩]⟩,
  ⟨0x2010000140, 48, 0x10000, 1, 0, .w32, .axis, false, none, [⟨0, 0, .wo, 0, []⟩, ⟨31, 16, .rw, 0, []⟩]⟩,
  ⟨0x2010000180, 48, 0x10000, 1, 0, .w32, .axis, false, none, [⟨0, 0, .wo, 0, []⟩, ⟨31, 16, .rw, 0, []⟩]⟩,
  ⟨0x2010000104, 48, 0x10000, 1, 0, .w32, .axis, false, none, [⟨31, 0, .ro, 0, []⟩]⟩,
  ⟨0x2010000144, 48, 0x10000, 1, 0, .w32, .axis, false, none, [⟨31, 0, .ro, 0, []⟩]⟩,
  ⟨0x2010000184, 48, 0x10000, 1, 0, .w32, .axis, false, none, [⟨31, 0, .ro, 0, []⟩]⟩,
  ⟨0x2010000108, 48, 0x10000, 1, 0, .lo, .axis, false, none, [⟨31, 0, .ro, 0, []⟩]⟩,
  ⟨0x201000010C, 48, 0x10000, 1, 0, .hi, .axis, false, none, [⟨31, 0, .ro, 0, []⟩]⟩,
  ⟨0x2010000148, 48, 0x10000, 1, 0, .lo, .axis, false, none, [⟨31, 0, .ro, 0, []⟩]⟩,
  ⟨0x201000014C, 48, 0x10000, 1, 0, .hi, .axis, false, none, [⟨31, 0, .ro, 0, []⟩]⟩,
  ⟨0x2010000188, 48, 0x10000, 1, 0, .lo, .axis, false, none, [⟨31, 0, .ro, 0, []⟩]⟩,
  ⟨0x201000018C, 48, 0x10000, 1, 0, .hi, .axis, false, none, [⟨31, 0, .ro, 0, []⟩]⟩,
  ⟨0x2010000110, 48, 0x10000, 1, 0, .w32, .axis, false, none, [⟨31, 0, .ro, 0x7FFFFFFF, []⟩]⟩,
  ⟨0x2010000150, 48, 0x10000, 1, 0, .w32, .axis, false, none, [⟨31, 0, .ro, 0x7FFFFFFF, []⟩]⟩,
  ⟨0x2010000190, 48, 0x10000, 1, 0, .w32, .axis, false, none, [⟨31, 0, .ro, 0x7FFFFFFF, []⟩]⟩,
  ⟨0x2010000114, 48, 0x10000, 1, 0, .w32, .axis, false, none, [⟨31, 0, .ro, 0x80000000, []⟩]⟩,
  ⟨0x2010000154, 48, 0x10000, 1, 0, .w32, .axis, false, none, [⟨31, 0, .ro, 0x80000000, []⟩]⟩,
  ⟨0x2010000194, 48, 0x10000, 1, 0, .w32, .axis, false, none, [⟨31, 0, .ro, 0x80000000, []⟩]⟩,
  ⟨0x2010000118, 48, 0x10000, 1, 0, .lo, .axis, false, none, [⟨31, 0, .ro, 0, []⟩]⟩,
  ⟨0x201000011C, 48, 0x10000, 1, 0, .hi, .axis, false, none, [⟨31, 0, .ro, 0, []⟩]⟩,
  ⟨0x2010000158, 48, 0x10000, 1, 0, .lo, .axis, false, none, [⟨31, 0, .ro, 0, []⟩]⟩,
  ⟨0x201000015C, 48, 0x10000, 1, 0, .hi, .axis, false, none, [⟨31, 0, .ro, 0, []⟩]⟩,
  ⟨0x2010000198, 48, 0x10000, 1, 0, .lo, .axis, false, none, [⟨31, 0, .ro, 0, []⟩]⟩,
  ⟨0x201000019C, 48, 0x10000, 1, 0, .hi, .axis, false, none, [⟨31, 0, .ro, 0, []⟩]⟩,
  ⟨0x2010000120, 48, 0x10000, 1, 0, .lo, .axis, false, none, [⟨31, 0, .ro, 0, []⟩]⟩,
  ⟨0x2010000124, 48, 0x10000, 1, 0, .hi, .axis, false, none, [⟨31, 0, .ro, 0, []⟩]⟩,
  ⟨0x2010000160, 48, 0x10000, 1, 0, .lo, .axis, false, none, [⟨31, 0, .ro, 0, []⟩]⟩,
  ⟨0x2010000164, 48, 0x10000, 1, 0, .hi, .axis, false, none, [⟨31, 0, .ro, 0, []⟩]⟩,
  ⟨0x20100001A0, 48, 0x10000, 1, 0, .lo, .axis, false, none, [⟨31, 0, .ro, 0, []⟩]⟩,
  ⟨0x20100001A4, 48, 0x10000, 1, 0, .hi, .axis, false, none, [⟨31, 0, .ro, 0, []⟩]⟩,
  ⟨0x2010000128, 48, 0x10000, 1, 0, .lo, .axis, false, none, [⟨31, 0, .ro, 0, []⟩]⟩,
  ⟨0x201000012C, 48, 0x10000, 1, 0, .hi, .axis, false, none, [⟨31, 0, .ro, 0, []⟩]⟩,
  ⟨0x2010000168, 48, 0x10000, 1, 0, .lo, .axis, false, none, [⟨31, 0, .ro, 0, []⟩]⟩,
  ⟨0x201000016C, 48, 0x10000, 1, 0, .hi, .axis, false, none, [⟨31, 0, .ro, 0, []⟩]⟩,
  ⟨0x20100001A8, 48, 0x10000, 1, 0, .lo, .axis, false, none, [⟨31, 0, .ro, 0, []⟩]⟩,
  ⟨0x20100001AC, 48, 0x10000, 1, 0, .hi, .axis, false, none, [⟨31, 0, .ro, 0, []⟩]⟩,
  ⟨0x2010000130, 48, 0x10000, 1, 0, .w32, .axis, false, none, [⟨0, 0, .ro, 0, []⟩, ⟨31, 16, .ro, 0, []⟩]⟩,
  ⟨0x2010000170, 48, 0x10000, 1, 0, .w32, .axis, false, none, [⟨0, 0, .ro, 0, []⟩, ⟨31, 16, .ro, 0, []⟩]⟩,
  ⟨0x20100001B0, 48, 0x10000, 1, 0, .w32, .axis, false, none, [⟨0, 0, .ro, 0, []⟩, ⟨31, 16, .ro, 0, []⟩]⟩]
/-- Registers of one part of the address map. -/
def regs6_02 : List RegSpec := [
  ⟨0x2010000200, 48, 0x10000, 1, 0, .w32, .axis, false, some (0x2010000200, 0x10000, 10), [⟨0, 0, .rw, 0, []⟩, ⟨1, 1, .rw, 0, []⟩, ⟨2, 2, .rw, 0, []⟩, ⟨3, 3, .rw, 1, []⟩, ⟨4, 4, .rwl, 0, []⟩, ⟨5, 5, .rwl, 0, []⟩, ⟨6, 6, .rwl, 1, []⟩, ⟨7, 7, .rw, 0, []⟩, ⟨9, 8, .rwl, 1, [(3, 3)]⟩, ⟨10, 10, .w1s, 0, []⟩]⟩,
  ⟨0x2010000204, 48, 0x10000, 1, 0, .w32, .axis, false, some (0x2010000200, 0x10000, 10), [⟨17, 0, .rwl, 0, []⟩]⟩,
  ⟨0x2010000208, 48, 0x10000, 1, 0, .w32, .axis, false, some (0x2010000200, 0x10000, 10), [⟨17, 0, .rwl, 0, []⟩]⟩,
  ⟨0x201000020C, 48, 0x10000, 1, 0, .w32, .axis, false, some (0x2010000200, 0x10000, 10), [⟨15, 0, .rwl, 0x4000, []⟩, ⟨31, 16, .rwl, 0x400, []⟩]⟩,
  ⟨0x2010000210, 48, 0x10000, 1, 0, .w32, .axis, false, some (0x2010000200, 0x10000, 10), [⟨23, 0, .rwl, 0xF33333, []⟩]⟩,
  ⟨0x2010000214, 48, 0x10000, 1, 0, .w32, .axis, false, some (0x2010000200, 0x10000, 10), [⟨31, 0, .rw, 0, []⟩]⟩,
  ⟨0x2010000218, 48, 0x10000, 1, 0, .w32, .axis, false, some (0x2010000200, 0x10000, 10), [⟨31, 0, .rw, 0, []⟩]⟩,
  ⟨0x201000021C, 48, 0x10000, 1, 0, .w32, .axis, false, some (0x2010000200, 0x10000, 10), [⟨30, 0, .rwl, 0, []⟩]⟩,
  ⟨0x2010000220, 48, 0x10000, 1, 0, .w32, .axis, false, some (0x2010000200, 0x10000, 10), [⟨30, 0, .rwl, 0, []⟩]⟩,
  ⟨0x2010000224, 48, 0x10000, 1, 0, .w32, .axis, false, some (0x2010000200, 0x10000, 10), [⟨31, 0, .rw, 0, []⟩]⟩,
  ⟨0x2010000228, 48, 0x10000, 1, 0, .w32, .axis, false, some (0x2010000200, 0x10000, 10), [⟨31, 0, .rw, 0, []⟩]⟩,
  ⟨0x20100002C0, 48, 0x10000, 1, 0, .w32, .axis, false, some (0x2010000200, 0x10000, 10), [⟨14, 0, .rwl, 0x100, []⟩]⟩,
  ⟨0x20100002C4, 48, 0x10000, 1, 0, .w32, .axis, false, some (0x2010000200, 0x10000, 10), [⟨4, 0, .rw, 0, []⟩]⟩,
  ⟨0x20100002C8, 48, 0x10000, 1, 0, .w32, .axis, false, some (0x2010000200, 0x10000, 10), [⟨31, 0, .rw, 0, []⟩]⟩,
  ⟨0x20100002CC, 48, 0x10000, 1, 0, .w32, .axis, false, some (0x2010000200, 0x10000, 10), [⟨31, 0, .rw, 0, []⟩]⟩,
  ⟨0x20100002D0, 48, 0x10000, 1, 0, .w32, .axis, false, some (0x2010000200, 0x10000, 10), [⟨31, 0, .rw, 0, []⟩]⟩,
  ⟨0x20100002E0, 48, 0x10000, 1, 0, .w32, .axis, false, some (0x2010000200, 0x10000, 10), [⟨2, 0, .ro, 0, []⟩, ⟨3, 3, .ro, 0, []⟩, ⟨4, 4, .w1c, 0, []⟩, ⟨5, 5, .w1c, 0, []⟩, ⟨6, 6, .w1c, 0, []⟩, ⟨7, 7, .w1c, 0, []⟩, ⟨15, 8, .ro, 0, []⟩, ⟨31, 16, .ro, 0, []⟩]⟩,
  ⟨0x20100002E4, 48, 0x10000, 1, 0, .w32, .axis, false, some (0x2010000200, 0x10000, 10), [⟨15, 0, .ro, 0, []⟩]⟩,
  ⟨0x2010000240, 48, 0x10000, 1, 0, .w32, .axis, false, some (0x2010000200, 0x10000, 10), [⟨0, 0, .rwl, 0, []⟩, ⟨2, 1, .rwl, 1, [(3, 3)]⟩, ⟨3, 3, .wo, 0, []⟩]⟩,
  ⟨0x2010000280, 48, 0x10000, 1, 0, .w32, .axis, false, some (0x2010000200, 0x10000, 10), [⟨0, 0, .rwl, 0, []⟩, ⟨2, 1, .rwl, 1, [(3, 3)]⟩, ⟨3, 3, .wo, 0, []⟩]⟩,
  ⟨0x2010000244, 48, 0x10000, 4, 4, .w32, .axis, false, some (0x2010000200, 0x10000, 10), [⟨31, 0, .rw, 0, []⟩]⟩,
  ⟨0x2010000284, 48, 0x10000, 4, 4, .w32, .axis, false, some (0x2010000200, 0x10000, 10), [⟨31, 0, .rw, 0, []⟩]⟩,
  ⟨0x2010000254, 48, 0x10000, 3, 4, .w32, .axis, false, some (0x2010000200, 0x10000, 10), [⟨31, 0, .rw, 0, []⟩]⟩,
  ⟨0x2010000294, 48, 0x10000, 3, 4, .w32, .axis, false, some (0x2010000200, 0x10000, 10), [⟨31, 0, .rw, 0, []⟩]⟩,
  ⟨0x2010000260, 48, 0x10000, 1, 0, .w32, .axis, false, some (0x2010000200, 0x10000, 10), [⟨30, 0, .rw, 0x7FFFFFFF, []⟩]⟩,
  ⟨0x20100002A0, 48, 0x10000, 1, 0, .w32, .axis, false, some (0x2010000200, 0x10000, 10), [⟨30, 0, .rw, 0x7FFFFFFF, []⟩]⟩]
/-- Registers of one part of the address map. -/
def regs6_03 : List RegSpec := [
  ⟨0x2010000300, 48, 0x10000, 1, 0, .w32, .axis, false, some (0x2010000200, 0x10000, 10), [⟨7, 0, .rwl, 0, []⟩, ⟨11, 8, .rwl, 0, []⟩, ⟨12, 12, .rw, 0, []⟩, ⟨13, 13, .wo, 0, []⟩, ⟨14, 14, .rw, 0, []⟩]⟩,
  ⟨0x2010000304, 48, 0x10000, 1, 0, .w32, .axis, false, some (0x2010000200, 0x10000, 10), [⟨31, 0, .rw, 0, []⟩]⟩,
  ⟨0x2010000308, 48, 0x10000, 1, 0, .w32, .axis, false, some (0x2010000200, 0x10000, 10), [⟨31, 0, .rw, 0, []⟩]⟩,
  ⟨0x201000030C, 48, 0x10000, 1, 0, .w32, .axis, false, some (0x2010000200, 0x10000, 10), [⟨31, 0, .rw, 0, []⟩]⟩,
  ⟨0x2010000310, 48, 0x10000, 1, 0, .w32, .axis, false, some (0x2010000200, 0x10000, 10), [⟨30, 0, .rw, 0, []⟩]⟩,
  ⟨0x2010000314, 48, 0x10000, 1, 0, .w32, .axis, false, some (0x2010000200, 0x10000, 10), [⟨31, 0, .ro, 0, []⟩]⟩,
  ⟨0x2010000318, 48, 0x10000, 1, 0, .w32, .axis, false, some (0x2010000200, 0x10000, 10), [⟨0, 0, .ro, 0, []⟩, ⟨1, 1, .ro, 0, []⟩, ⟨2, 2, .ro, 0, []⟩, ⟨3, 3, .ro, 0, []⟩, ⟨4, 4, .ro, 0, []⟩]⟩,
  ⟨0x201000031C, 48, 0x10000, 1, 0, .w32, .axis, true, some (0x2010000200, 0x10000, 10), [⟨15, 0, .rw, 0x8000, [(0x8001, 0xFFFF)]⟩, ⟨31, 16, .rw, 0x8000, [(0x8001, 0xFFFF)]⟩]⟩,
  ⟨0x2010000344, 48, 0x10000, 1, 0, .w32, .axis, false, some (0x2010000200, 0x10000, 10), [⟨31, 0, .rw, 0, []⟩]⟩,
  ⟨0x2010000348, 48, 0x10000, 1, 0, .w32, .axis, false, some (0x2010000200, 0x10000, 10), [⟨30, 0, .ro, 0x7FFFFFFF, []⟩]⟩,
  ⟨0x2010000320, 48, 0x10000, 1, 0, .w32, .axis, false, some (0x2010000200, 0x10000, 10), [⟨0, 0, .rwl, 0, []⟩, ⟨2, 1, .rwl, 1, [(3, 3)]⟩, ⟨3, 3, .wo, 0, []⟩]⟩,
  ⟨0x2010000324, 48, 0x10000, 4, 4, .w32, .axis, false, some (0x2010000200, 0x10000, 10), [⟨31, 0, .rw, 0, []⟩]⟩,
  ⟨0x2010000334, 48, 0x10000, 3, 4, .w32, .axis, false, some (0x2010000200, 0x10000, 10), [⟨31, 0, .rw, 0, []⟩]⟩,
  ⟨0x2010000340, 48, 0x10000, 1, 0, .w32, .axis, false, some (0x2010000200, 0x10000, 10), [⟨30, 0, .rw, 0x7FFFFFFF, []⟩]⟩]
/-- Registers of one part of the address map. -/
def regs6_04_0 : List RegSpec := [
  ⟨0x2010000400, 48, 0x10000, 1, 0, .w32, .axis, false, none, [⟨0, 0, .wo, 0, []⟩, ⟨31, 16, .rw, 0, []⟩]⟩,
  ⟨0x2010000440, 48, 0x10000, 1, 0, .w32, .axis, false, none, [⟨0, 0, .wo, 0, []⟩, ⟨31, 16, .rw, 0, []⟩]⟩,
  ⟨0x2010000480, 48, 0x10000, 1, 0, .w32, .axis, false, none, [⟨0, 0, .wo, 0, []⟩, ⟨31, 16, .rw, 0, []⟩]⟩,
  ⟨0x20100004C0, 48, 0x10000, 1, 0, .w32, .axis, false, none, [⟨0, 0, .wo, 0, []⟩, ⟨31, 16, .rw, 0, []⟩]⟩,
  ⟨0x2010000404, 48, 0x10000, 1, 0, .w32, .axis, false, none, [⟨31, 0, .ro, 0, []⟩]⟩,
  ⟨0x2010000444, 48, 0x10000, 1, 0, .w32, .axis, false, none, [⟨31, 0, .ro, 0, []⟩]⟩,
  ⟨0x2010000484, 48, 0x10000, 1, 0, .w32, .axis, false, none, [⟨31, 0, .ro, 0, []⟩]⟩,
  ⟨0x20100004C4, 48, 0x10000, 1, 0, .w32, .axis, false, none, [⟨31, 0, .ro, 0, []⟩]⟩,
  ⟨0x2010000408, 48, 0x10000, 1, 0, .lo, .axis, false, none, [⟨31, 0, .ro, 0, []⟩]⟩,
  ⟨0x201000040C, 48, 0x10000, 1, 0, .hi, .axis, false, none, [⟨31, 0, .ro, 0, []⟩]⟩,
  ⟨0x2010000448, 48, 0x10000, 1, 0, .lo, .axis, false, none, [⟨31, 0, .ro, 0, []⟩]⟩,
  ⟨0x201000044C, 48, 0x10000, 1, 0, .hi, .axis, false, none, [⟨31, 0, .ro, 0, []⟩]⟩,
  ⟨0x2010000488, 48, 0x10000, 1, 0, .lo, .axis, false, none, [⟨31, 0, .ro, 0, []⟩]⟩,
  ⟨0x201000048C, 48, 0x10000, 1, 0, .hi, .axis, false, none, [⟨31, 0, .ro, 0, []⟩]⟩,
  ⟨0x20100004C8, 48, 0x10000, 1, 0, .lo, .axis, false, none, [⟨31, 0, .ro, 0, []⟩]⟩,
  ⟨0x20100004CC, 48, 0x10000, 1, 0, .hi, .axis, false, none, [⟨31, 0, .ro, 0, []⟩]⟩,
  ⟨0x2010000410, 48, 0x10000, 1, 0, .w32, .axis, false, none, [⟨31, 0, .ro, 0x7FFFFFFF, []⟩]⟩,
  ⟨0x2010000450, 48, 0x10000, 1, 0, .w32, .axis, false, none, [⟨31, 0, .ro, 0x7FFFFFFF, []⟩]⟩,
  ⟨0x2010000490, 48, 0x10000, 1, 0, .w32, .axis, false, none, [⟨31, 0, .ro, 0x7FFFFFFF, []⟩]⟩,
  ⟨0x20100004D0, 48, 0x10000, 1, 0, .w32, .axis, false, none, [⟨31, 0, .ro, 0x7FFFFFFF, []⟩]⟩,
  ⟨0x2010000414, 48, 0x10000, 1, 0, .w32, .axis, false, none, [⟨31, 0, .ro, 0x80000000, []⟩]⟩,
  ⟨0x2010000454, 48, 0x10000, 1, 0, .w32, .axis, false, none, [⟨31, 0, .ro, 0x80000000, []⟩]⟩,
  ⟨0x2010000494, 48, 0x10000, 1, 0, .w32, .axis, false, none, [⟨31, 0, .ro, 0x80000000, []⟩]⟩,
  ⟨0x20100004D4, 48, 0x10000, 1, 0, .w32, .axis, false, none, [⟨31, 0, .ro, 0x80000000, []⟩]⟩,
  ⟨0x2010000418, 48, 0x10000, 1, 0, .lo, .axis, false, none, [⟨31, 0, .ro, 0, []⟩]⟩,
  ⟨0x201000041C, 48, 0x10000, 1, 0, .hi, .axis, false, none, [⟨31, 0, .ro, 0, []⟩]⟩,
  ⟨0x2010000458, 48, 0x10000, 1, 0, .lo, .axis, false, none, [⟨31, 0, .ro, 0, []⟩]⟩,
  ⟨0x201000045C, 48, 0x10000, 1, 0, .hi, .axis, false, none, [⟨31, 0, .ro, 0, []⟩]⟩,
  ⟨0x2010000498, 48, 0x10000, 1, 0, .lo, .axis, false, none, [⟨31, 0, .ro, 0, []⟩]⟩,
  ⟨0x201000049C, 48, 0x10000, 1, 0, .hi, .axis, false, none, [⟨31, 0, .ro, 0, []⟩]⟩,
  ⟨0x20100004D8, 48, 0x10000, 1, 0, .lo, .axis, false, none, [⟨31, 0, .ro, 0, []⟩]⟩,
  ⟨0x20100004DC, 48, 0x10000, 1, 0, .hi, .axis, false, none, [⟨31, 0, .ro, 0, []⟩]⟩,
  ⟨0x2010000420, 48, 0x10000, 1, 0, .lo, .axis, false, none, [⟨31, 0, .ro, 0, []⟩]⟩,
  ⟨0x2010000424, 48, 0x10000, 1, 0, .hi, .axis, false, none, [⟨31, 0, .ro, 0, []⟩]⟩,
  ⟨0x2010000460, 48, 0x10000, 1, 0, .lo, .axis, false, none, [⟨31, 0, .ro, 0, []⟩]⟩,
  ⟨0x2010000464, 48, 0x10000, 1, 0, .hi, .axis, false, none, [⟨31, 0, .ro, 0, []⟩]⟩,
  ⟨0x20100004A0, 48, 0x10000, 1, 0, .lo, .axis, false, none, [⟨31, 0, .ro, 0, []⟩]⟩,
  ⟨0x20100004A4, 48, 0x10000, 1, 0, .hi, .axis, false, none, [⟨31, 0, .ro, 0, []⟩]⟩,
  ⟨0x20100004E0, 48, 0x10000, 1, 0, .lo, .axis, false, none, [⟨31, 0, .ro, 0, []⟩]⟩,
  ⟨0x20100004E4, 48, 0x10000, 1, 0, .hi, .axis, false, none, [⟨31, 0, .ro, 0, []⟩]⟩]
def regs6_04_1 : List RegSpec := [
  ⟨0x2010000428, 48, 0x10000, 1, 0, .lo, .axis, false, none, [⟨31, 0, .ro, 0, []⟩]⟩,
  ⟨0x201000042C, 48, 0x10000, 1, 0, .hi, .axis, false, none, [⟨31, 0, .ro, 0, []⟩]⟩,
  ⟨0x2010000468, 48, 0x10000, 1, 0, .lo, .axis, false, none, [⟨31, 0, .ro, 0, []⟩]⟩,
  ⟨0x201000046C, 48, 0x10000, 1, 0, .hi, .axis, false, none, [⟨31, 0, .ro, 0, []⟩]⟩,
  ⟨0x20100004A8, 48, 0x10000, 1, 0, .lo, .axis, false, none, [⟨31, 0, .ro, 0, []⟩]⟩,
  ⟨0x20100004AC, 48, 0x10000, 1, 0, .hi, .axis, false, none, [⟨31, 0, .ro, 0, []⟩]⟩,
  ⟨0x20100004E8, 48, 0x10000, 1, 0, .lo, .axis, false, none, [⟨31, 0, .ro, 0, []⟩]⟩,
  ⟨0x20100004EC, 48, 0x10000, 1, 0, .hi, .axis, false, none, [⟨31, 0, .ro, 0, []⟩]⟩,
  ⟨0x2010000430, 48, 0x10000, 1, 0, .w32, .axis, false, none, [⟨0, 0, .ro, 0, []⟩, ⟨31, 16, .ro, 0, []⟩]⟩,
  ⟨0x2010000470, 48, 0x10000, 1, 0, .w32, .axis, false, none, [⟨0, 0, .ro, 0, []⟩, ⟨31, 16, .ro, 0, []⟩]⟩,
  ⟨0x20100004B0, 48, 0x10000, 1, 0, .w32, .axis, false, none, [⟨0, 0, .ro, 0, []⟩, ⟨31, 16, .ro, 0, []⟩]⟩,
  ⟨0x20100004F0, 48, 0x10000, 1, 0, .w32, .axis, false, none, [⟨0, 0, .ro, 0, []⟩, ⟨31, 16, .ro, 0, []⟩]⟩]
def regs6_04 : List RegSpec := regs6_04_0 ++ regs6_04_1
/-- Registers of one part of the address map. -/
def regs6_05 : List RegSpec := [
  ⟨0x2010000500, 48, 0x10000, 1, 0, .w32, .axis, false, none, [⟨0, 0, .wo, 0, []⟩, ⟨31, 16, .rw, 0, []⟩]⟩,
  ⟨0x2010000504, 48, 0x10000, 1, 0, .w32, .axis, false, none, [⟨31, 0, .ro, 0, []⟩]⟩,
  ⟨0x2010000508, 48, 0x10000, 1, 0, .lo, .axis, false, none, [⟨31, 0, .ro, 0, []⟩]⟩,
  ⟨0x201000050C, 48, 0x10000, 1, 0, .hi, .axis, false, none, [⟨31, 0, .ro, 0, []⟩]⟩,
  ⟨0x2010000510, 48, 0x10000, 1, 0, .w32, .axis, false, none, [⟨31, 0, .ro, 0x7FFFFFFF, []⟩]⟩,
  ⟨0x2010000514, 48, 0x10000, 1, 0, .w32, .axis, false, none, [⟨31, 0, .ro, 0x80000000, []⟩]⟩,
  ⟨0x2010000518, 48, 0x10000, 1, 0, .lo, .axis, false, none, [⟨31, 0, .ro, 0, []⟩]⟩,
  ⟨0x201000051C, 48, 0x10000, 1, 0, .hi, .axis, false, none, [⟨31, 0, .ro, 0, []⟩]⟩,
  ⟨0x2010000520, 48, 0x10000, 1, 0, .lo, .axis, false, none, [⟨31, 0, .ro, 0, []⟩]⟩,
  ⟨0x2010000524, 48, 0x10000, 1, 0, .hi, .axis, false, none, [⟨31, 0, .ro, 0, []⟩]⟩,
  ⟨0x2010000528, 48, 0x10000, 1, 0, .lo, .axis, false, none, [⟨31, 0, .ro, 0, []⟩]⟩,
  ⟨0x201000052C, 48, 0x10000, 1, 0, .hi, .axis, false, none, [⟨31, 0, .ro, 0, []⟩]⟩,
  ⟨0x2010000530, 48, 0x10000, 1, 0, .w32, .axis, false, none, [⟨0, 0, .ro, 0, []⟩, ⟨31, 16, .ro, 0, []⟩]⟩]
/-- Registers of one part of the address map. -/
def regs6_06 : List RegSpec := [
  ⟨0x2010000600, 48, 0x10000, 1, 0, .w32, .axis, false, some (0x2010000600, 0x10000, 6), [⟨0, 0, .rw, 0, []⟩, ⟨1, 1, .rwl, 0, []⟩, ⟨3, 2, .rwl, 0, [(3, 3)]⟩, ⟨5, 4, .rwl, 0, []⟩, ⟨6, 6, .w1s, 0, []⟩, ⟨17, 8, .rwl, 0, []⟩]⟩,
  ⟨0x2010000604, 48, 0x10000, 1, 0, .w32, .axis, false, some (0x2010000600, 0x10000, 6), [⟨10, 0, .rwl, 0x280, [(0, 0xFF), (0x781, 0x7FF)]⟩, ⟨21, 12, .rwl, 0x80, [(0, 0x3F)]⟩, ⟨31, 24, .rwl, 0xF, []⟩]⟩,
  ⟨0x2010000608, 48, 0x10000, 1, 0, .w32, .axis, false, some (0x2010000600, 0x10000, 6), [⟨23, 0, .rwl, 0, []⟩, ⟨31, 24, .rwl, 6, []⟩]⟩,
  ⟨0x201000060C, 48, 0x10000, 1, 0, .w32, .axis, false, some (0x2010000600, 0x10000, 6), [⟨30, 0, .rwl, 0, []⟩]⟩,
  ⟨0x2010000610, 48, 0x10000, 1, 0, .w32, .axis, false, some (0x2010000600, 0x10000, 6), [⟨30, 0, .rwl, 0, []⟩]⟩,
  ⟨0x2010000614, 48, 0x10000, 1, 0, .w32, .axis, false, some (0x2010000600, 0x10000, 6), [⟨30, 0, .rwl, 0, []⟩]⟩,
  ⟨0x2010000618, 48, 0x10000, 1, 0, .w32, .axis, false, some (0x2010000600, 0x10000, 6), [⟨15, 0, .rwl, 0x4000, []⟩, ⟨31, 16, .rwl, 0x800, []⟩]⟩,
  ⟨0x2010000620, 48, 0x10000, 1, 0, .w32, .axis, false, some (0x2010000600, 0x10000, 6), [⟨30, 0, .rwl, 0x80000, []⟩]⟩,
  ⟨0x2010000624, 48, 0x10000, 1, 0, .w32, .axis, false, some (0x2010000600, 0x10000, 6), [⟨30, 0, .rwl, 0x155555, []⟩]⟩,
  ⟨0x2010000628, 48, 0x10000, 1, 0, .w32, .axis, false, some (0x2010000600, 0x10000, 6), [⟨30, 0, .rwl, 0, []⟩]⟩,
  ⟨0x201000062C, 48, 0x10000, 1, 0, .w32, .axis, false, some (0x2010000600, 0x10000, 6), [⟨30, 0, .rwl, 0, []⟩]⟩,
  ⟨0x2010000630, 48, 0x10000, 1, 0, .w32, .axis, false, some (0x2010000600, 0x10000, 6), [⟨30, 0, .rwl, 0, []⟩]⟩,
  ⟨0x2010000634, 48, 0x10000, 1, 0, .w32, .axis, false, some (0x2010000600, 0x10000, 6), [⟨30, 0, .rwl, 0, []⟩]⟩,
  ⟨0x2010000638, 48, 0x10000, 1, 0, .w32, .axis, false, some (0x2010000600, 0x10000, 6), [⟨0, 0, .wo, 0, []⟩, ⟨1, 1, .wo, 0, []⟩]⟩,
  ⟨0x201000063C, 48, 0x10000, 1, 0, .w32, .axis, false, some (0x2010000600, 0x10000, 6), [⟨7, 0, .rwl, 0x14, [(0, 0)]⟩, ⟨15, 8, .rwl, 0x32, []⟩, ⟨23, 16, .rwl, 0x64, []⟩, ⟨31, 24, .rwl, 0x14, []⟩]⟩,
  ⟨0x2010000640, 48, 0x10000, 1, 0, .w32, .axis, false, some (0x2010000600, 0x10000, 6), [⟨3, 0, .rwl, 4, [(0, 0)]⟩, ⟨7, 4, .rwl, 3, []⟩, ⟨15, 8, .rwl, 0x32, []⟩]⟩,
  ⟨0x2010000650, 48, 0x10000, 1, 0, .w32, .axis, false, some (0x2010000600, 0x10000, 6), [⟨2, 0, .ro, 0, []⟩, ⟨3, 3, .ro, 0, []⟩, ⟨7, 4, .ro, 0, []⟩, ⟨8, 8, .w1c, 0, []⟩, ⟨9, 9, .w1c, 0, []⟩, ⟨10, 10, .w1c, 0, []⟩, ⟨11, 11, .w1c, 0, []⟩, ⟨12, 12, .w1c, 0, []⟩, ⟨13, 13, .w1c, 0, []⟩, ⟨14, 14, .ro, 0, []⟩]⟩,
  ⟨0x2010000654, 48, 0x10000, 1, 0, .w32, .axis, false, some (0x2010000600, 0x10000, 6), [⟨15, 0, .ro, 0, []⟩, ⟨23, 16, .ro, 0, []⟩, ⟨27, 24, .ro, 0, []⟩, ⟨31, 28, .ro, 0, []⟩]⟩,
  ⟨0x2010000658, 48, 0x10000, 1, 0, .w32, .axis, false, some (0x2010000600, 0x10000, 6), [⟨7, 0, .ro, 0, []⟩, ⟨15, 8, .ro, 0, []⟩, ⟨23, 16, .ro, 0, []⟩, ⟨31, 24, .ro, 0, []⟩]⟩,
  ⟨0x2010000660, 48, 0x10000, 1, 0, .lo, .axis, false, some (0x2010000600, 0x10000, 6), [⟨31, 0, .ro, 0, []⟩]⟩,
  ⟨0x2010000664, 48, 0x10000, 1, 0, .hi, .axis, false, some (0x2010000600, 0x10000, 6), [⟨31, 0, .ro, 0, []⟩]⟩,
  ⟨0x2010000668, 48, 0x10000, 1, 0, .w32, .axis, false, some (0x2010000600, 0x10000, 6), [⟨31, 0, .ro, 0, []⟩]⟩,
  ⟨0x201000066C, 48, 0x10000, 1, 0, .w32, .axis, false, some (0x2010000600, 0x10000, 6), [⟨31, 0, .ro, 0, []⟩]⟩,
  ⟨0x2010000670, 48, 0x10000, 1, 0, .w32, .axis, false, some (0x2010000600, 0x10000, 6), [⟨31, 0, .ro, 0, []⟩]⟩,
  ⟨0x2010000674, 48, 0x10000, 1, 0, .w32, .axis, false, some (0x2010000600, 0x10000, 6), [⟨31, 0, .ro, 0, []⟩]⟩,
  ⟨0x2010000678, 48, 0x10000, 1, 0, .w32, .axis, false, some (0x2010000600, 0x10000, 6), [⟨31, 0, .ro, 0, []⟩]⟩,
  ⟨0x2010000680, 48, 0x10000, 1, 0, .w32, .axis, false, some (0x2010000680, 0x10000, 6), [⟨3, 0, .rwl, 0, [(8, 0xE)]⟩, ⟨4, 4, .rwl, 0, []⟩, ⟨5, 5, .rwl, 0, []⟩, ⟨6, 6, .w1s, 0, []⟩, ⟨15, 8, .rwl, 0x80, []⟩]⟩,
  ⟨0x2010000684, 48, 0x10000, 1, 0, .w32, .axis, false, some (0x2010000680, 0x10000, 6), [⟨30, 0, .rwl, 0, []⟩]⟩,
  ⟨0x2010000688, 48, 0x10000, 1, 0, .w32, .axis, false, some (0x2010000680, 0x10000, 6), [⟨30, 0, .rwl, 0, []⟩]⟩,
  ⟨0x201000068C, 48, 0x10000, 1, 0, .w32, .axis, false, some (0x2010000680, 0x10000, 6), [⟨30, 0, .rwl, 0, []⟩]⟩,
  ⟨0x2010000690, 48, 0x10000, 1, 0, .w32, .axis, false, some (0x2010000680, 0x10000, 6), [⟨31, 0, .ro, 0, []⟩]⟩,
  ⟨0x2010000694, 48, 0x10000, 1, 0, .w32, .axis, false, some (0x2010000680, 0x10000, 6), [⟨0, 0, .w1c, 0, []⟩, ⟨1, 1, .ro, 0, []⟩, ⟨3, 2, .ro, 0, []⟩]⟩]
/-- Registers of one part of the address map. -/
def regs6_07 : List RegSpec := [
  ⟨0x2010000700, 48, 0x10000, 1, 0, .w32, .axis, false, some (0x2010000700, 0x10000, 7), [⟨1, 0, .rwl, 2, []⟩, ⟨3, 2, .rwl, 1, []⟩, ⟨4, 4, .rwl, 0, []⟩, ⟨5, 5, .wo, 0, []⟩, ⟨6, 6, .rw, 0, []⟩, ⟨7, 7, .w1s, 0, []⟩, ⟨15, 8, .rwl, 0x40, [(0, 7)]⟩, ⟨19, 16, .rwl, 3, [(0, 0)]⟩]⟩,
  ⟨0x2010000704, 48, 0x10000, 1, 0, .w32, .axis, false, some (0x2010000700, 0x10000, 7), [⟨4, 0, .rwl, 0, []⟩, ⟨31, 16, .rwl, 0x800, []⟩]⟩,
  ⟨0x2010000708, 48, 0x10000, 1, 0, .w32, .axis, false, some (0x2010000700, 0x10000, 7), [⟨7, 0, .rwl, 4, []⟩, ⟨15, 8, .rwl, 4, []⟩, ⟨23, 16, .rwl, 4, []⟩]⟩,
  ⟨0x201000070C, 48, 0x10000, 1, 0, .w32, .axis, false, some (0x2010000700, 0x10000, 7), [⟨30, 0, .rwl, 0x7FFFFFFF, []⟩]⟩,
  ⟨0x2010000710, 48, 0x10000, 1, 0, .w32, .axis, false, some (0x2010000700, 0x10000, 7), [⟨23, 0, .rwl, 0x20000, []⟩]⟩,
  ⟨0x2010000714, 48, 0x10000, 1, 0, .w32, .axis, false, some (0x2010000700, 0x10000, 7), [⟨15, 0, .rwl, 0xF600, []⟩, ⟨31, 16, .rwl, 0x2580, []⟩]⟩,
  ⟨0x2010000718, 48, 0x10000, 1, 0, .w32, .axis, false, some (0x2010000700, 0x10000, 7), [⟨15, 0, .rwl, 0x8000, []⟩, ⟨31, 16, .rwl, 0x7FFF, []⟩]⟩,
  ⟨0x201000071C, 48, 0x10000, 1, 0, .w32, .axis, false, some (0x2010000700, 0x10000, 7), [⟨15, 0, .rwl, 0x40, []⟩, ⟨31, 16, .rwl, 0x7FFF, []⟩]⟩,
  ⟨0x2010000720, 48, 0x10000, 1, 0, .w32, .axis, false, some (0x2010000700, 0x10000, 7), [⟨0, 0, .ro, 0, []⟩, ⟨3, 1, .ro, 0, []⟩, ⟨6, 4, .ro, 0, []⟩, ⟨9, 7, .ro, 0, []⟩, ⟨10, 10, .w1c, 0, []⟩, ⟨11, 11, .w1c, 0, []⟩, ⟨12, 12, .w1c, 0, []⟩, ⟨13, 13, .w1c, 0, []⟩, ⟨14, 14, .w1c, 0, []⟩, ⟨23, 16, .ro, 0, []⟩, ⟨31, 24, .ro, 0, []⟩]⟩,
  ⟨0x2010000724, 48, 0x10000, 1, 0, .w32, .axis, false, some (0x2010000700, 0x10000, 7), [⟨15, 0, .ro, 0, []⟩, ⟨31, 16, .ro, 0, []⟩]⟩,
  ⟨0x2010000728, 48, 0x10000, 1, 0, .lo, .axis, false, some (0x2010000700, 0x10000, 7), [⟨31, 0, .ro, 0, []⟩]⟩,
  ⟨0x201000072C, 48, 0x10000, 1, 0, .hi, .axis, false, some (0x2010000700, 0x10000, 7), [⟨31, 0, .ro, 0, []⟩]⟩,
  ⟨0x2010000730, 48, 0x10000, 1, 0, .w32, .axis, false, some (0x2010000700, 0x10000, 7), [⟨23, 0, .ro, 0, []⟩]⟩,
  ⟨0x2010000734, 48, 0x10000, 1, 0, .w32, .axis, false, some (0x2010000700, 0x10000, 7), [⟨31, 0, .ro, 0, []⟩]⟩,
  ⟨0x2010000738, 48, 0x10000, 1, 0, .w32, .axis, false, some (0x2010000700, 0x10000, 7), [⟨15, 0, .ro, 0, []⟩, ⟨31, 16, .ro, 0, []⟩]⟩,
  ⟨0x201000073C, 48, 0x10000, 1, 0, .w32, .axis, false, some (0x2010000700, 0x10000, 7), [⟨15, 0, .ro, 0, []⟩]⟩,
  ⟨0x2010000740, 48, 0x10000, 1, 0, .lo, .axis, false, some (0x2010000700, 0x10000, 7), [⟨31, 0, .ro, 0, []⟩]⟩,
  ⟨0x2010000744, 48, 0x10000, 1, 0, .hi, .axis, false, some (0x2010000700, 0x10000, 7), [⟨31, 0, .ro, 0, []⟩]⟩,
  ⟨0x2010000748, 48, 0x10000, 1, 0, .w32, .axis, false, some (0x2010000700, 0x10000, 7), [⟨5, 0, .ro, 0, []⟩]⟩,
  ⟨0x2010000750, 48, 0x10000, 1, 0, .w32, .axis, false, some (0x2010000700, 0x10000, 7), [⟨31, 0, .rwl, 0, []⟩]⟩,
  ⟨0x2010000760, 48, 0x10000, 1, 0, .w32, .axis, false, some (0x2010000700, 0x10000, 7), [⟨31, 0, .rwl, 0, []⟩]⟩,
  ⟨0x2010000764, 48, 0x10000, 1, 0, .w32, .axis, false, some (0x2010000700, 0x10000, 7), [⟨31, 0, .rwl, 0, []⟩]⟩,
  ⟨0x2010000768, 48, 0x10000, 1, 0, .w32, .axis, false, some (0x2010000700, 0x10000, 7), [⟨31, 0, .rwl, 0, []⟩]⟩,
  ⟨0x201000076C, 48, 0x10000, 1, 0, .w32, .axis, false, some (0x2010000700, 0x10000, 7), [⟨31, 0, .rwl, 0, []⟩]⟩,
  ⟨0x2010000770, 48, 0x10000, 1, 0, .w32, .axis, false, some (0x2010000700, 0x10000, 7), [⟨31, 0, .rwl, 0, []⟩]⟩,
  ⟨0x2010000774, 48, 0x10000, 1, 0, .w32, .axis, false, some (0x2010000700, 0x10000, 7), [⟨15, 0, .rwl, 0, []⟩, ⟨31, 16, .rwl, 0, []⟩]⟩,
  ⟨0x2010000778, 48, 0x10000, 1, 0, .w32, .axis, false, some (0x2010000700, 0x10000, 7), [⟨15, 0, .rw, 0, []⟩, ⟨31, 16, .rw, 0, []⟩]⟩,
  ⟨0x201000077C, 48, 0x10000, 1, 0, .w32, .axis, false, some (0x2010000700, 0x10000, 7), [⟨15, 0, .rwl, 0, []⟩]⟩,
  ⟨0x2010000780, 48, 0x10000, 1, 0, .w32, .system, true, some (0x20001A0000, 0, 0), [⟨4, 0, .rwl, 0x1F, [(0x10, 0x1E)]⟩, ⟨5, 5, .rwl, 0, []⟩, ⟨6, 6, .rwl, 0, []⟩, ⟨7, 7, .rwl, 0, []⟩, ⟨23, 8, .rwl, 0x400, []⟩, ⟨27, 24, .rwl, 3, [(0, 0)]⟩]⟩,
  ⟨0x2010000784, 48, 0x10000, 1, 0, .w32, .system, true, some (0x20001A0000, 0, 0), [⟨30, 0, .rwl, 0, []⟩, ⟨31, 31, .rwl, 0, []⟩]⟩,
  ⟨0x2010000788, 48, 0x10000, 1, 0, .w32, .system, true, some (0x20001A0000, 0, 0), [⟨30, 0, .rwl, 0, []⟩]⟩,
  ⟨0x201000078C, 48, 0x10000, 1, 0, .w32, .system, true, some (0x20001A0000, 0, 0), [⟨15, 0, .rwl, 0x3E8, []⟩]⟩,
  ⟨0x2010000790, 48, 0x10000, 1, 0, .w32, .system, true, some (0x20001A0000, 0, 0), [⟨30, 0, .rwl, 0, []⟩]⟩,
  ⟨0x2010000794, 48, 0x10000, 1, 0, .w32, .system, false, some (0x20001A0000, 0, 0), [⟨1, 0, .ro, 0, []⟩, ⟨2, 2, .ro, 0, []⟩, ⟨3, 3, .ro, 0, []⟩, ⟨4, 4, .ro, 0, []⟩, ⟨10, 5, .ro, 0, []⟩]⟩,
  ⟨0x2010000798, 48, 0x10000, 1, 0, .w32, .system, false, some (0x20001A0000, 0, 0), [⟨31, 0, .ro, 0, []⟩]⟩]
/-- Registers of one part of the address map. -/
def regs7_eng : List RegSpec := [
  ⟨0x2020000000, 8, 0x10000, 1, 0, .w32, .engine, true, none, [⟨0, 0, .wo, 0, []⟩]⟩,
  ⟨0x2020000004, 8, 0x10000, 1, 0, .w32, .engine, false, none, [⟨7, 0, .ro, 0, []⟩, ⟨16, 8, .ro, 0, []⟩, ⟨17, 17, .ro, 0, []⟩, ⟨18, 18, .ro, 0, []⟩]⟩,
  ⟨0x2020000010, 8, 0x10000, 6, 8, .lo, .system, false, none, [⟨31, 0, .ro, 0, []⟩]⟩,
  ⟨0x2020000014, 8, 0x10000, 6, 8, .hi, .system, false, none, [⟨31, 0, .ro, 0, []⟩]⟩]
/-- Registers of one part of the address map. -/
def regs7_inf : List RegSpec := [
  ⟨0x2020100000, 1, 0, 1, 0, .w32, .system, false, none, [⟨31, 0, .ro, 0xFEDCBA98, []⟩]⟩,
  ⟨0x2020100004, 1, 0, 1, 0, .w32, .system, true, none, [⟨7, 0, .w1s, 0, []⟩]⟩,
  ⟨0x2020100008, 1, 0, 1, 0, .w32, .system, false, none, [⟨7, 0, .ro, 0xFF, []⟩, ⟨15, 8, .ro, 0, []⟩, ⟨23, 16, .ro, 0, []⟩]⟩,
  ⟨0x202010000C, 1, 0, 1, 0, .w32, .system, false, none, [⟨0, 0, .ro, 0, []⟩, ⟨1, 1, .w1c, 0, []⟩, ⟨23, 16, .ro, 0, []⟩]⟩,
  ⟨0x2020100010, 1, 0, 1, 0, .w32, .system, false, none, [⟨0, 0, .wo, 0, []⟩, ⟨31, 16, .rw, 0, []⟩]⟩,
  ⟨0x2020100018, 1, 0, 1, 0, .lo, .system, false, none, [⟨31, 0, .ro, 0, []⟩]⟩,
  ⟨0x202010001C, 1, 0, 1, 0, .hi, .system, false, none, [⟨31, 0, .ro, 0, []⟩]⟩]
/-- Registers of one part of the address map. -/
def regs7_ctx_0 : List RegSpec := [
  ⟨0x2020200000, 64, 0x100, 1, 0, .w32, .system, true, none, [⟨3, 0, .wo, 0, []⟩, ⟨4, 4, .wo, 0, []⟩]⟩,
  ⟨0x2020200004, 64, 0x100, 1, 0, .w32, .system, false, none, [⟨2, 0, .rw, 0, []⟩, ⟨4, 3, .rw, 0, []⟩, ⟨5, 5, .rw, 0, []⟩, ⟨7, 6, .rw, 0, []⟩, ⟨15, 8, .rw, 0xA, []⟩]⟩,
  ⟨0x2020200008, 64, 0x100, 1, 0, .w32, .system, false, none, [⟨9, 0, .rw, 0, []⟩, ⟨10, 10, .rw, 0, []⟩, ⟨25, 16, .rw, 0, []⟩]⟩,
  ⟨0x2020200010, 64, 0x100, 1, 0, .lo, .system, false, none, [⟨31, 6, .rw, 0, []⟩]⟩,
  ⟨0x2020200014, 64, 0x100, 1, 0, .hi, .system, false, none, [⟨31, 0, .rw, 0, []⟩]⟩,
  ⟨0x2020200018, 64, 0x100, 1, 0, .lo, .system, false, none, [⟨31, 6, .rw, 0, []⟩]⟩,
  ⟨0x202020001C, 64, 0x100, 1, 0, .hi, .system, false, none, [⟨31, 0, .rw, 0, []⟩]⟩,
  ⟨0x2020200020, 64, 0x100, 1, 0, .w32, .system, false, none, [⟨31, 0, .rw, 0, []⟩]⟩,
  ⟨0x2020200024, 64, 0x100, 1, 0, .w32, .system, false, none, [⟨1, 0, .ro, 0, []⟩, ⟨2, 2, .ro, 0, []⟩, ⟨3, 3, .w1c, 0, []⟩, ⟨4, 4, .w1c, 0, []⟩, ⟨8, 5, .ro, 0, []⟩, ⟨9, 9, .ro, 0, []⟩, ⟨10, 10, .ro, 0, []⟩, ⟨11, 11, .ro, 0, []⟩, ⟨12, 12, .ro, 0, []⟩, ⟨31, 16, .ro, 0, []⟩]⟩,
  ⟨0x2020200028, 64, 0x100, 1, 0, .w32, .system, false, none, [⟨31, 0, .ro, 0, []⟩]⟩,
  ⟨0x202020002C, 64, 0x100, 1, 0, .w32, .system, false, none, [⟨7, 0, .ro, 0, []⟩, ⟨23, 8, .ro, 0, []⟩]⟩,
  ⟨0x2020200030, 64, 0x100, 1, 0, .lo, .system, false, none, [⟨31, 0, .ro, 0, []⟩]⟩,
  ⟨0x2020200034, 64, 0x100, 1, 0, .hi, .system, false, none, [⟨31, 0, .ro, 0, []⟩]⟩,
  ⟨0x2020200038, 64, 0x100, 1, 0, .lo, .system, false, none, [⟨31, 0, .ro, 0, []⟩]⟩,
  ⟨0x202020003C, 64, 0x100, 1, 0, .hi, .system, false, none, [⟨31, 0, .ro, 0, []⟩]⟩,
  ⟨0x2020200040, 64, 0x100, 1, 0, .w32, .system, false, none, [⟨31, 0, .ro, 0, []⟩]⟩,
  ⟨0x2020200044, 64, 0x100, 1, 0, .w32, .system, false, none, [⟨31, 0, .ro, 0, []⟩]⟩,
  ⟨0x2020200048, 64, 0x100, 1, 0, .w32, .system, false, none, [⟨31, 0, .ro, 0, []⟩]⟩,
  ⟨0x2020200050, 64, 0x100, 1, 0, .lo, .system, false, none, [⟨31, 6, .rw, 0, []⟩]⟩,
  ⟨0x2020200054, 64, 0x100, 1, 0, .hi, .system, false, none, [⟨31, 0, .rw, 0, []⟩]⟩,
  ⟨0x2020200058, 64, 0x100, 1, 0, .w32, .system, false, none, [⟨7, 0, .rw, 1, []⟩]⟩,
  ⟨0x202020005C, 64, 0x100, 1, 0, .w32, .system, false, none, [⟨31, 0, .ro, 0, []⟩]⟩,
  ⟨0x2020200080, 64, 0x100, 1, 0, .w32, .system, false, none, [⟨15, 0, .rw, 0, []⟩]⟩,
  ⟨0x2020200084, 64, 0x100, 1, 0, .w32, .system, false, none, [⟨0, 0, .w1c, 0, []⟩, ⟨1, 1, .w1c, 0, []⟩, ⟨2, 2, .w1c, 0, []⟩, ⟨3, 3, .ro, 0, []⟩, ⟨31, 16, .ro, 0, []⟩]⟩,
  ⟨0x2020200088, 64, 0x100, 1, 0, .w32, .system, false, none, [⟨31, 0, .ro, 0, []⟩]⟩,
  ⟨0x202020008C, 64, 0x100, 1, 0, .w32, .system, false, none, [⟨31, 0, .ro, 0, []⟩]⟩,
  ⟨0x2020200090, 64, 0x100, 1, 0, .w32, .system, false, none, [⟨31, 0, .ro, 0, []⟩]⟩,
  ⟨0x2020200094, 64, 0x100, 1, 0, .w32, .system, false, none, [⟨31, 0, .ro, 0, []⟩]⟩,
  ⟨0x2020200098, 64, 0x100, 1, 0, .w32, .system, false, none, [⟨15, 0, .ro, 0, []⟩, ⟨25, 16, .ro, 0, []⟩]⟩,
  ⟨0x202020009C, 64, 0x100, 1, 0, .w32, .system, false, none, [⟨3, 0, .ro, 0, []⟩, ⟨7, 4, .ro, 0, []⟩, ⟨18, 8, .ro, 0, []⟩]⟩,
  ⟨0x20202000A0, 64, 0x100, 1, 0, .lo, .system, false, none, [⟨31, 0, .ro, 0, []⟩]⟩,
  ⟨0x20202000A4, 64, 0x100, 1, 0, .hi, .system, false, none, [⟨31, 0, .ro, 0, []⟩]⟩,
  ⟨0x20202000A8, 64, 0x100, 1, 0, .lo, .system, false, none, [⟨31, 0, .ro, 0, []⟩]⟩,
  ⟨0x20202000AC, 64, 0x100, 1, 0, .hi, .system, false, none, [⟨31, 0, .ro, 0, []⟩]⟩,
  ⟨0x20202000B0, 64, 0x100, 1, 0, .lo, .system, false, none, [⟨31, 0, .ro, 0, []⟩]⟩,
  ⟨0x20202000B4, 64, 0x100, 1, 0, .hi, .system, false, none, [⟨31, 0, .ro, 0, []⟩]⟩,
  ⟨0x20202000C0, 64, 0x100, 1, 0, .w32, .system, false, none, [⟨0, 0, .rw, 0, []⟩, ⟨1, 1, .rw, 0, []⟩, ⟨2, 2, .rw, 0, []⟩]⟩,
  ⟨0x20202000C4, 64, 0x100, 1, 0, .w32, .system, false, none, [⟨0, 0, .ro, 0, []⟩, ⟨1, 1, .ro, 0, []⟩, ⟨2, 2, .ro, 0, []⟩, ⟨3, 3, .w1c, 0, []⟩, ⟨4, 4, .w1c, 0, []⟩, ⟨15, 8, .ro, 0, []⟩, ⟨31, 16, .ro, 0, []⟩]⟩,
  ⟨0x20202000C8, 64, 0x100, 1, 0, .w32, .system, false, none, [⟨0, 0, .wo, 0, []⟩, ⟨1, 1, .ro, 0, []⟩, ⟨2, 2, .w1c, 0, []⟩, ⟨3, 3, .w1c, 0, []⟩]⟩,
  ⟨0x20202000D0, 64, 0x100, 1, 0, .lo, .system, false, none, [⟨31, 0, .rw, 0, []⟩]⟩]
def regs7_ctx_1 : List RegSpec := [
  ⟨0x20202000D4, 64, 0x100, 1, 0, .hi, .system, false, none, [⟨31, 0, .rw, 0, []⟩]⟩,
  ⟨0x20202000D8, 64, 0x100, 1, 0, .lo, .system, false, none, [⟨31, 0, .ro, 0, []⟩]⟩,
  ⟨0x20202000DC, 64, 0x100, 1, 0, .hi, .system, false, none, [⟨31, 0, .ro, 0, []⟩]⟩,
  ⟨0x20202000E0, 64, 0x100, 8, 4, .w32, .system, false, none, [⟨31, 0, .ro, 0, []⟩]⟩]
def regs7_ctx : List RegSpec := regs7_ctx_0 ++ regs7_ctx_1
/-- Registers of one part of the address map. -/
def regs8_q : List RegSpec := [
  ⟨0x2030000000, 1024, 0x40, 1, 0, .w32, .system, false, none, [⟨0, 0, .rw, 0, []⟩, ⟨13, 1, .rw, 1, [(0x1001, 0x1FFF)]⟩, ⟨15, 14, .rw, 0, []⟩, ⟨16, 16, .rw, 0, []⟩, ⟨22, 17, .rw, 0, []⟩]⟩,
  ⟨0x2030000004, 1024, 0x40, 1, 0, .lo, .system, false, none, [⟨31, 6, .rw, 0, []⟩]⟩,
  ⟨0x2030000008, 1024, 0x40, 1, 0, .hi, .system, false, none, [⟨31, 0, .rw, 0, []⟩]⟩,
  ⟨0x203000000C, 1024, 0x40, 1, 0, .w32, .system, false, none, [⟨15, 0, .ro, 0, []⟩]⟩,
  ⟨0x2030000010, 1024, 0x40, 1, 0, .w32, .system, false, none, [⟨15, 0, .ro, 0, []⟩]⟩,
  ⟨0x2030000014, 1024, 0x40, 1, 0, .w32, .system, false, none, [⟨15, 0, .ro, 0, []⟩]⟩,
  ⟨0x2030000018, 1024, 0x40, 1, 0, .w32, .system, false, none, [⟨12, 0, .ro, 1, []⟩]⟩,
  ⟨0x203000001C, 1024, 0x40, 1, 0, .w32, .system, false, none, [⟨12, 0, .wo, 0, []⟩, ⟨14, 13, .wo, 0, []⟩]⟩,
  ⟨0x2030000020, 1024, 0x40, 1, 0, .w32, .system, false, none, [⟨0, 0, .w1c, 0, []⟩, ⟨1, 1, .w1c, 0, []⟩, ⟨2, 2, .w1c, 0, []⟩, ⟨3, 3, .w1c, 0, []⟩, ⟨4, 4, .w1c, 0, []⟩, ⟨31, 16, .ro, 0, []⟩]⟩,
  ⟨0x2030000024, 1024, 0x40, 1, 0, .lo, .system, false, none, [⟨31, 0, .ro, 0, []⟩]⟩,
  ⟨0x2030000028, 1024, 0x40, 1, 0, .hi, .system, false, none, [⟨31, 0, .ro, 0, []⟩]⟩,
  ⟨0x203000002C, 1024, 0x40, 1, 0, .w32, .system, false, none, [⟨31, 0, .ro, 0, []⟩]⟩,
  ⟨0x2030000030, 1024, 0x40, 1, 0, .w32, .system, false, none, [⟨11, 0, .ro, 0, []⟩, ⟨27, 16, .ro, 0, []⟩]⟩]

/-- Which register families can hold address `a`: by 64 KiB window of target 5, by 256-byte part of an axis window, by block of targets 7 and 8. -/
def regBlock (a : Nat) : List RegSpec :=
  if 0x2010000000 ≤ a ∧ a < 0x2010300000 then
    match (a % 0x10000) / 0x100 with
    | 0 => regs6_00
    | 1 => regs6_01
    | 2 => regs6_02
    | 3 => regs6_03
    | 4 => regs6_04
    | 5 => regs6_05
    | 6 => regs6_06
    | 7 => regs6_07
    | _ => []
  else
    if 0x2000040000 ≤ a ∧ a ≤ 0x200004FFFF then regs5_04 else
    if 0x2000050000 ≤ a ∧ a ≤ 0x200005FFFF then regs5_05 else
    if 0x2000060000 ≤ a ∧ a ≤ 0x200006FFFF then regs5_06 else
    if 0x2000080000 ≤ a ∧ a ≤ 0x200008FFFF then regs5_08 else
    if 0x2000090000 ≤ a ∧ a ≤ 0x200009FFFF then regs5_09 else
    if 0x20000A0000 ≤ a ∧ a ≤ 0x20000AFFFF then regs5_0A else
    if 0x20000B0000 ≤ a ∧ a ≤ 0x20000BFFFF then regs5_0B else
    if 0x20000C0000 ≤ a ∧ a ≤ 0x20000CFFFF then regs5_0C else
    if 0x20000D0000 ≤ a ∧ a ≤ 0x20000DFFFF then regs5_0D else
    if 0x20000E0000 ≤ a ∧ a ≤ 0x20000EFFFF then regs5_0E else
    if 0x20000F0000 ≤ a ∧ a ≤ 0x20000FFFFF then regs5_0F else
    if 0x2000100000 ≤ a ∧ a ≤ 0x200019FFFF then regs5_10 else
    if 0x20001A0000 ≤ a ∧ a ≤ 0x20001AFFFF then regs5_1A else
    if 0x20001B0000 ≤ a ∧ a ≤ 0x20001BFFFF then regs5_1B else
    if 0x20001C0000 ≤ a ∧ a ≤ 0x20001CFFFF then regs5_1C else
    if 0x20001D0000 ≤ a ∧ a ≤ 0x20001DFFFF then regs5_1D else
    if 0x20001E0000 ≤ a ∧ a ≤ 0x20001EFFFF then regs5_1E else
    if 0x20001F0000 ≤ a ∧ a ≤ 0x20001FFFFF then regs5_1F else
    if 0x2000200000 ≤ a ∧ a ≤ 0x200020FFFF then regs5_20 else
    if 0x2000210000 ≤ a ∧ a ≤ 0x200021FFFF then regs5_21 else
    if 0x2000220000 ≤ a ∧ a ≤ 0x200022FFFF then regs5_22 else
    if 0x2000230000 ≤ a ∧ a ≤ 0x200023FFFF then regs5_23 else
    if 0x2010300000 ≤ a ∧ a ≤ 0x201030FFFF then regs6_pxb else
    if 0x2020000000 ≤ a ∧ a ≤ 0x202007FFFF then regs7_eng else
    if 0x2020100000 ≤ a ∧ a ≤ 0x202010FFFF then regs7_inf else
    if 0x2020200000 ≤ a ∧ a ≤ 0x2020203FFF then regs7_ctx else
    if 0x2030000000 ≤ a ∧ a ≤ 0x203000FFFF then regs8_q else
    []

end Sys2Proof.Machine
end

