-- ==== Sys2Proof/Machine/State.lean ====
section
/-!
DEFINITION. The state of the module as plain data: the register file, the memories, the hidden state of every unit that the
spec names beside its registers, the queue of waiting commands, and the machine right after reset.
Registers: one sparse file by address; the reset value, fields and access types of every register stand in RegTable.lean.
-/
namespace Sys2Proof.Machine

/-- Why the machine stops. -/
inductive Fault where
  /-- No command raises it on any input (safe): the block answers an access it cannot serve with an error response (R280, R292), which is a next state. -/
  | unreachable
  deriving DecidableEq, Repr

/-- Why a command has no meaning. -/
inductive Refusal where
  /-- Raised by exec's arm of a command whose meaning is not written (safe: nothing can be proved about it). -/
  | notModelled (mnemonic : String)
  deriving DecidableEq, Repr

/-- The bus response of the last access the block served (R9, R14, R280, R284, R292, R411): error or not, whether an uncorrectable error made it,
and the data read. -/
structure Resp where
  err : Bool := false
  ue : Bool := false
  data : List Nat := []
  deriving DecidableEq, Repr

/-- An event posted to the recorder (R355, R357): its code, SOURCE word, DEVICE TIME stamp, payload bytes, whether it may merge
with a candidate record, and the clock it arrived in (R359). -/
structure RecEvent where
  code : Nat
  source : Nat
  stamp : Nat
  payload : List Nat
  merge : Bool
  arrived : Nat
  deriving DecidableEq, Repr

/-- A recorder record (R355) without its CRC, which is computed. -/
structure Record where
  seq : Nat := 0
  code : Nat := 0
  source : Nat := 0
  dt : Nat := 0
  hours : Nat := 0
  pcycle : Nat := 0
  rep : Nat := 0
  cont : Bool := false
  ringId : Nat := 0
  lastDelta : Nat := 0
  payload : List Nat := []
  deriving DecidableEq, Repr

/-- The ageing history and mirror's own copy of the counts (R360, R361, R364, R437); kept without supply. -/
structure AgeingHistory where
  empty : Bool := true
  hours : Nat := 0
  pcycle : Nat := 0
  evtTotal : Nat := 0
  nextSeq : Nat := 0
  clean : Bool := true
  /-- Units whose fence the service command has cleared, tested again at the next start (R354), by PFENCE bit, axis channels from 24 on. -/
  retest : List Nat := []
  deriving DecidableEq, Repr

/-- The recorder beside its registers: input queue, the count, first and last of the lost events, candidate set (SEQs, newest first), the ring's and the
mirror's records, the changes not yet mirrored with the time they are due from, the next SEQ, the clock of the last take, the clock from which the present
0.1 h of operation counts, and the clock at which the count has stopped (R364). -/
structure RecState where
  queue : List RecEvent := []
  lost : Nat := 0
  lostFirst : Option RecEvent := none
  lostLast : Option RecEvent := none
  cands : List Nat := []
  ring : Tab Record := []
  mirror : Tab Record := []
  badMirror : List Nat := []
  pendNew : List (Nat × Nat) := []
  pendRep : List (Nat × Nat) := []
  nextSeq : Nat := 0
  lastTake : Option Nat := none
  hist : AgeingHistory := {}
  nvPend : Option Nat := none
  hoursRef : Nat := 0
  hoursStop : Option Nat := some 0
  deriving DecidableEq, Repr

/-- A pass of the patrol scrubber: when it began and the blocks it has read (R283). -/
structure ScrubH where
  since : Nat := 0
  done : List Nat := []
  deriving DecidableEq, Repr

/-- The violations that a target logged in one clock: the clock, the highest master among them, and the master in the FIRST registers where
one of them filled these (R292). -/
structure VioH where
  at_ : Option Nat := none
  hi : Nat := 0
  first : Option Nat := none
  deriving DecidableEq, Repr

/-- A timebase beside its registers (R42, R43, R439, R440): the last update of the primary and of the fallback since each is
watched, the instant from which the source in use is watched, consecutive primary updates, the start of HOLD, the offset a
tachometer correction gave a source-3 timebase, whether the next update comes from a source that has just become active, whether the present
word is that of an update, the words of late (stamp, angle, speed) and the states of late (clock, state), newest first, that Babbitt may ask
for (R242, R246, R251). -/
structure TbH where
  primLast : Option Nat := none
  fbLast : Option Nat := none
  since : Nat := 0
  fbSince : Nat := 0
  consec : Nat := 0
  holdAt : Nat := 0
  ofs : Int := 0
  fresh : Bool := false
  live : Bool := false
  words : List (Nat × Int × Int) := []
  hist : List (Nat × Nat) := []
  deriving DecidableEq, Repr

/-- A schedule slot beside its registers: the clock at which it fires, whether that firing is late, the firings left of a counted
backlog, whether a backlog above 16 skips, a target waiting for the next prediction (R49), fired targets whose residual is due (R47),
and whether the slot was armed since its enable. -/
structure SlotH where
  due : Option Nat := none
  late : Bool := false
  left : Nat := 0
  skip : Bool := false
  newTarget : Option Nat := none
  resid : Option (Nat × Nat) := none
  deriving DecidableEq, Repr

/-- A tachometer input (R414): the filtered level, the last accepted pulse and the interval before it. -/
structure TachH where
  level : Bool := false
  last : Option Nat := none
  interval : Option Nat := none
  deriving DecidableEq, Repr

/-- Device time beside its registers (R32): consecutive offsets within 20 ns and the clock of the last one, whether a follower has made its one step; the line-sync input's
filtered level, reference edge and period (R416); SSI frame ends by port (R415). -/
structure TimeH where
  good : Nat := 0
  lastOffset : Nat := 0
  stepped : Bool := false
  lsLevel : Bool := false
  lsRef : Option Nat := none
  lsPeriod : Option Nat := none
  deriving DecidableEq, Repr

/-- A layer of an admitted network (R170): weights by row, biases. -/
structure LayerDef where
  nIn : Nat := 0
  nOut : Nat := 0
  wide : Bool := false
  act : Nat := 0
  shift : Nat := 0
  weights : List (List Int) := []
  biases : List Int := []
  deriving DecidableEq, Repr

/-- An admitted network (R168 to R173). -/
structure NetDef where
  kind : Nat := 0
  nOut : Nat := 0
  inputs : List Nat := []
  layers : List LayerDef := []
  tag : Nat := 0
  deriving DecidableEq, Repr

/-- An evaluation of one kind (R176, R183): its sampling instant, what the lane and Pewter compute, whether a check belongs to it, what is
complete, whether it is late, the lanes that ran it, and, once selected by R186, whether and with which outputs the network estimate passes. -/
structure EvalH where
  kind : Nat := 0
  ts : Nat := 0
  lane : List Int := []
  pew : List Int := []
  needPew : Bool := false
  laneDone : Bool := false
  pewDone : Bool := false
  late : Bool := false
  laneNo : Nat := 0
  pewNo : Nat := 0
  judged : Bool := false
  out : Option (List Int) := none
  deriving DecidableEq, Repr

/-- A job of a lane or a Pewter lane (R178, R183): axis, kind, sampling instant, clocks, whether it is FOREGROUND, its release. -/
structure JobH where
  axis : Nat := 0
  kind : Nat := 0
  ts : Nat := 0
  cost : Nat := 0
  fg : Bool := true
  rel : Nat := 0
  deriving DecidableEq, Repr

/-- The observers of an axis beside the registers (R176 to R191): the evaluation count k, the last evaluation's instant, the last delivered
position estimate, temperatures and load, the classical model observer, evaluations of BACKGROUND networks in progress and ready,
the periods that held a mismatch, the period in which they reached ESC_N (R188), the stamps of the delivered temperature and load (R186), and the plan's state by kind (0 none, 1 FOREGROUND, 2 BACKGROUND, 3 OFF). -/
structure ObsH where
  k : Nat := 0
  lastEval : Option Nat := none
  th : Int := 0
  om : Int := 0
  at_ : Nat := 0
  tW : Int := 0
  tB : Int := 0
  load : Int := 0
  thC : Int := 0
  omC : Int := 0
  omPrev : Int := 0
  tWC : Int := 0
  tBC : Int := 0
  loadC : Int := 0
  lastStep : Option Nat := none
  bg : List EvalH := []
  ready : List EvalH := []
  miss : List Nat := []
  esc : Option Nat := none
  tAt : Nat := 0
  loadAt : Nat := 0
  state : List Nat := [0, 0, 0]
  deriving DecidableEq, Repr

/-- One phase in a period (R56, R65): the edges of the high side in steps after the boundary, none where it has none; whether the high side
then conducts throughout; whether it, and whether the low side, conducted up to the boundary. -/
structure PhaseH where
  edges : Option (Int × Int) := none
  full : Bool := false
  was : Bool := false
  lowOn : Bool := false
  deriving DecidableEq, Repr

/-- How an axis switches in one period (R55, R56): its boundary, TOP (0 before the first boundary), the three phases, and the clock from which
EN = 0 ended it. -/
structure DriveH where
  at_ : Nat := 0
  top : Nat := 0
  phases : List PhaseH := []
  stop : Option Nat := none
  deriving DecidableEq, Repr

/-- A PWM channel beside its registers (R57 to R77): the active short circuit (0 none, 1 low, 2 high), the next boundary, the last one, the
number of boundaries since EN was set, whether the capture of the next boundary was made and what it holds (TOP and the three bases),
the active bases, the capture interval of the last write of each shadow register (R63), the capture intervals counted, a delay-line
table waiting for the boundary, the tap table in use as N × (4096 + DL_CORR) (R58, R350), the power of the step whose commit waits and of the captured one (R164), the ranked action of the trips in force, a trip action that waits for a crossbar switch, the release
(R75), the current converters' power (R102), their last trigger (R82), the last 16 comparisons of each phase, newest first (R84), the present
and the two previous periods of its outputs, the clock in which a short circuit or a braking took them (R71, R142), the interval for which a start last held them off the edges (R141, R142), whether the
short circuit is that of threshold 2 (R159), and whether threshold 2 waits for a crossbar switch, with a short circuit or, for a segment, with STO (R158). -/
structure PwmH where
  asc : Nat := 0
  nextB : Option Nat := none
  lastB : Nat := 0
  periods : Nat := 0
  capDone : Bool := false
  cap : Option (Nat × List Nat) := none
  bases : List Nat := [320000, 320000, 320000]
  stepP : Option Int := none
  capP : Option Int := none
  tags : List (Option Nat) := [none, none, none, none]
  interval : Nat := 0
  dlNew : Option Nat := none
  tap : Nat := 0
  tripAct : Nat := 0
  heldAct : Option Nat := none
  released : Bool := false
  awake : Bool := false
  wakeAt : Option Nat := none
  lastTrig : Option Nat := none
  histA : List Bool := []
  histB : List Bool := []
  drv : DriveH := {}
  prv : DriveH := {}
  pp : DriveH := {}
  sideAt : Nat := 0
  hold : Option (Nat × Option Nat) := none
  ascBus : Bool := false
  heldBus : Bool := false
  heldSto : Option Nat := none
  deriving DecidableEq, Repr

/-- The pin crossbar (R76): per spare, the switch in progress: the axis it moves, the new map word and its start. -/
structure PxbH where
  axis : Nat := 0
  start : Nat := 0
  deriving DecidableEq, Repr

/-- One compensator (R113 to R115): stored errors and outputs, newest first, the coefficients in use (B0 to B3, A1 to A3, LIM), and an
APPLY that waits for the next step. -/
structure CmpH where
  e : List Int := [0, 0, 0]
  y : List Int := [0, 0, 0]
  b : List Int := [0, 0, 0, 0]
  a : List Int := [0, 0, 0]
  lim : Nat := 0x7FFFFFFF
  apply : Bool := false
  deriving DecidableEq, Repr

/-- The limits that a loop step takes at its start: AX.SPD_DERATE, AX.SPD_BUS_LIM and the absorption term Δiq (R126, R155, R156, R256). -/
structure LimH where
  tq : Nat := 0x8000
  acc : Nat := 0x8000
  bus : Nat := 0x7FFFFFFF
  dq : Int := 0
  deriving DecidableEq, Repr

/-- A loop step in progress (R107, R122): its sampling instant, iα, iβ and ic in Q1.31 with the phase current of B, the mode (0 the loop
itself, 1 ALIGN, 2 OPEN), the shadow TOP, the next boundary, the mode bits CUR_MAN and SPD_EN and the limits at its start, its period, and the
evaluations it released. -/
structure StepH where
  ts : Nat := 0
  ialpha : Int := 0
  ibeta : Int := 0
  ib : Int := 0
  ic : Int := 0
  mode : Nat := 0
  top : Nat := 0
  nextB : Nat := 0
  man : Bool := false
  spd : Bool := false
  period : Nat := 0
  evals : List EvalH := []
  lims : LimH := {}
  deriving DecidableEq, Repr

/-- The current and speed loops beside their registers (R107 to R128): the step in progress, the compensators, the ramp's remainder, the
instant of the last speed step, steps since EN was set, the speed loop's output for the next step, the modes of the last step, a
PRESET that waits, whether the next step is the first after EN was set or after a start, the voltages and currents of the last step, the term Δiq of the bus
logic, the period of the last step, the error, y_u and load feedforward of a speed step whose y_f is not known yet, and the window compensation. -/
structure FocH where
  step : Option StepH := none
  cd : CmpH := {}
  cq : CmpH := {}
  cs : CmpH := {}
  rem : Nat := 0
  lastSpd : Option Nat := none
  steps : Nat := 0
  iqPend : Int := 0
  prevMan : Bool := false
  prevSpd : Bool := false
  preset : Bool := false
  fresh : Bool := true
  ualpha : Int := 0
  ubeta : Int := 0
  id : Int := 0
  iq : Int := 0
  dq : Int := 0
  notBefore : Nat := 0
  stepOf : Nat := 0
  spdPend : Option (Int × Int × Int) := none
  dlw : List Int := [0, 0, 0]
  deriving DecidableEq, Repr

/-- A listening window (R131, R135): crossing index, direction, the instants of R131, whether it is open, whether its crossing has qualified,
the comparator's level when the window opened, its changes since (clock, level, whether marked SETTLE), and the broken runs counted. -/
structure WinH where
  k : Nat := 0
  fwd : Bool := true
  tOpen : Nat := 0
  tObs : Nat := 0
  tClose : Nat := 0
  isOpen : Bool := false
  qualified : Bool := false
  level0 : Bool := false
  changes : List (Nat × Bool × Bool) := []
  bounces : Nat := 0
  deriving DecidableEq, Repr

/-- Commutation beside its registers (R129 to R145): the planned or open window, the phase, opening and end of the last one that was open, the last close, the correction's time of update and
last accepted crossing, the last delivered estimate and unwrapped angle, a correction that waits for the step in progress, the run of windows without an accepted crossing, and the start: its crossings
(newest first), whether an ABORT ends it in the next clock, the clock from which it listens, the deadlines of its phases, brakings, the start logic's angle and the last crossings of OPEN. -/
structure CmtH where
  win : Option WinH := none
  lastWin : Option (Nat × Nat × Nat) := none
  lastClose : Option Nat := none
  c : Int := 0
  sc : Int := 0
  tu : Nat := 0
  lastAcc : Option Nat := none
  theta : Int := 0
  omega : Int := 0
  at_ : Nat := 0
  cNext : Option (Int × Int × Nat) := none
  skipK : Option Nat := none
  elec : Int := 0
  rejRun : Nat := 0
  cross : List (Nat × Nat) := []
  listenAt : Nat := 0
  phaseEnd : Nat := 0
  waitEnd : Option Nat := none
  brakes : Nat := 0
  angle : Int := 0
  angleAt : Nat := 0
  good : List (Nat × Nat) := []
  handed : Bool := false
  lastEps : Int := 0
  abort : Bool := false
  deriving DecidableEq, Repr

/-- A phase-voltage comparator as the commutation logic sees it (R87, R88, R141): the clock and the stamp of its last change, whether that came at
the end of a settling, and whether it has been passed on as a crossing. -/
structure PvH where
  clk : Nat := 0
  stamp : Nat := 0
  settle : Bool := false
  done : Bool := true
  deriving DecidableEq, Repr

/-- The live values of a monitor set (R105, R106), the instant from which its AUTO period runs and whether that is a
snapshot's, and the samples of clock `nowAt` with their
stamps and whether they saturated, which are not among the values yet. -/
structure MonH where
  acc : Int := 0
  cnt : Nat := 0
  mn : Int := 0x7FFFFFFF
  mx : Int := -0x80000000
  mnT : Nat := 0
  mxT : Nat := 0
  ovr : Nat := 0
  ref : Nat := 0
  snapped : Bool := false
  now : List (Int × Nat × Bool) := []
  nowAt : Nat := 0
  deriving DecidableEq, Repr

/-- An urgent request of a housekeeping sequencer (R101), the clock it was registered in and whether the safety manager made it; `start` is none
while it waits. -/
structure HkUrg where
  ch : Nat := 0
  exc : Nat := 0
  acq : Nat := 0
  at_ : Nat := 0
  safety : Bool := false
  start : Option Nat := none
  deriving DecidableEq, Repr

/-- What a sequencer is doing (R99). -/
inductive HkPhase where
  | idle | conv | delay
  deriving DecidableEq, Repr

/-- A housekeeping sequencer and its converter beside the registers (R99 to R102): the entry it executes with the word it started
with, the conversion and its start (none while held), the running sum, the end of a delay, urgent requests, power. -/
structure HkH where
  phase : HkPhase := .idle
  entry : Nat := 0
  word : Nat := 0
  conv : Nat := 0
  start : Option Nat := none
  sum : Int := 0
  isOver : Bool := false
  delayEnd : Nat := 0
  any : Bool := false
  pass : Nat := 0
  urg : Option HkUrg := none
  urgPend : Option HkUrg := none
  urgEnd : Nat := 0
  awake : Bool := false
  wakeAt : Option Nat := none
  stop : Bool := false
  deriving DecidableEq, Repr

/-- A vibration channel beside its registers (R95, R97, R102): the end of its settling, its wake, whether samples carry UNCAL. -/
structure VibH where
  settleEnd : Option Nat := none
  wakeAt : Option Nat := none
  deriving DecidableEq, Repr

/-- A calibration in progress (R103): the classes selected (bits CUR, DCB, VIB, HK), its start, the axes and segments it skips. -/
structure CalH where
  sel : Nat := 0
  start : Nat := 0
  skipAx : Nat := 0
  skipSeg : Nat := 0
  deriving DecidableEq, Repr

/-- A DC-bus segment beside its registers (R147 to R166): the six live energies (µJ modulo 2^64), increments of the open interval, the
last unsaturated code and whether one was delivered, clocks of the interval with the gate high and current present and the instant
that count runs from, the gate's last edges, the last clocks with and without current, the need of braking, the controller's
integral, pending clear and snapshot, the reference of AUTO, whether the last judged sample lay above UV, and the
output of the chopper current comparator ahead of its filter with the clock in which it became active and that of the last change of its threshold
(R91), whether the last delivered sample saturated (R162), and a threshold 2 reached in
this clock, with the code and whether by the comparator, which acts in the next (R158). -/
structure SegH where
  eCapNow : Nat := 0
  eCapStart : Nat := 0
  eMot : Nat := 0
  eReg : Nat := 0
  eChop : Nat := 0
  eSrc : Nat := 0
  dMot : Int := 0
  dReg : Int := 0
  code : Nat := 0
  nOn : Nat := 0
  onFrom : Option Nat := none
  riseAt : Nat := 0
  fallAt : Option Nat := none
  curEdge : Nat := 0
  need : Bool := false
  lInt : Int := 0
  clear : Bool := false
  snap : Bool := false
  autoRef : Nat := 0
  above : Bool := true
  chfb : Bool := false
  chfbAt : Nat := 0
  thAt : Nat := 0
  sat : Bool := false
  t2 : Option (Nat × Bool) := none
  dq : List (Nat × Int) := []
  deriving DecidableEq, Repr

/-- A tensor entry of a program (R203). -/
structure TensorDef where
  fmt : Nat := 0
  rank : Nat := 0
  kind : Nat := 0
  logical : Nat := 0
  dims : List Nat := []
  addr : Nat := 0
  deriving DecidableEq, Repr

/-- An operation entry of a program (R203): `attr` holds its bytes 16 to 27. -/
structure OpDef where
  opcode : Nat := 0
  logical : Nat := 0
  ins : List Nat := []
  outs : List Nat := []
  attr : List Nat := []
  nTiles : Nat := 0
  deriving DecidableEq, Repr

/-- A loaded program (R203). -/
structure Prog where
  partSize : Nat := 1
  maxTile : Nat := 0
  budget : List Nat := []
  stateBytes : Nat := 0
  userTag : Nat := 0
  tensors : List TensorDef := []
  ops : List OpDef := []
  init : List Nat := []
  digest : List Nat := []
  resultLen : Nat := 0
  bytes : Nat := 0
  deriving DecidableEq, Repr

/-- A trigger of a context (R215): its stamp, the firing slot, the timebase state, whether a command gave it, and, of a trigger that
the LEAD of a pair has copied, the LEAD's FRAME (R269). -/
structure Trig where
  stamp : Nat := 0
  slot : Nat := 0
  tbState : Nat := 0
  cmd : Bool := false
  copy : Option Nat := none
  deriving DecidableEq, Repr

/-- Counts of one quantiser in a frame (R228 to R234, R240): elements, clips, NaNs, deviations, and whether a CONSTANT channel was used. -/
structure QuantCnt where
  elems : Nat := 0
  clips : Nat := 0
  nans : Nat := 0
  devs : Nat := 0
  constCh : Nat := 0
  deriving DecidableEq, Repr

/-- A frame in progress (R215 to R218): number, trigger, FLAGS, clocks charged per logical engine of the partition, class 2, the input
descriptor's ADDR and LEN, the RESULT block, finished operations, retired tiles, the CODE it is to end with, digests of operations with
their stamps (R274) and of INPUT and SHARED tensors (R265), quantiser counts, NaNs and clips, the quantisers whose QSTAT ran, DMA
operations that wait with their completion queue, descriptors taken by operation (R266), tracing, whether it is a re-run, and the digest
S_in of the committed state at its start (R265). -/
structure Frame where
  num : Nat := 0
  trig : Trig := {}
  flags : Nat := 0
  clks : List Nat := []
  class2 : Bool := false
  input : Option (Nat × Nat) := none
  result : Option (List Nat) := none
  doneOps : List Nat := []
  readyTiles : List (Nat × Nat) := []
  endCode : Option Nat := none
  opDig : Tab (Nat × List Nat) := []
  inDig : Tab (List Nat) := []
  quant : Tab QuantCnt := []
  qstats : List Nat := []
  nanCnt : Nat := 0
  clipCnt : Nat := 0
  dmaWait : List (Nat × Nat) := []
  taken : List (Nat × List Nat) := []
  trace : Bool := false
  rerun : Bool := false
  sIn : List Nat := []
  /-- The declared state with which the frame started; nothing where it did not run (R228). -/
  base : List Nat := []
  deriving DecidableEq, Repr

/-- A context command in progress (R201): its code, FRESH, its clock, and, for SNAP of an ARMED context, the RCODE once the frame end has run it. -/
structure CtxCmdH where
  op : Nat := 0
  fresh : Bool := false
  result : Option Nat := none
  at_ : Nat := 0
  deriving DecidableEq, Repr

/-- The end of a lock-step frame that waits for its partner's packet (R271): KIND, the local digest and its clock. -/
structure TwinWait where
  kind : Nat := 0
  digest : List Nat := []
  at_ : Nat := 0
  deriving DecidableEq, Repr

/-- A partner's comparison packet (R271): KIND, CODE, FRAME, DIGEST. -/
structure TwinPkt where
  kind : Nat := 0
  code : Nat := 0
  frame : Nat := 0
  digest : List Nat := []
  deriving DecidableEq, Repr

/-- Where the areas of a context lie on one logical engine `eng` of the module (R442): the addresses of the two copies of its declared state,
`len` bytes each, and of its SCRATCH area with its length (0 unless ARMED). -/
structure Place where
  eng : Nat
  copy0 : Nat
  copy1 : Nat
  len : Nat
  scr : Nat := 0
  scrLen : Nat := 0
  deriving DecidableEq, Repr

/-- A context beside its registers: program, the places of its areas by logical engine counted from BASE (R196, R442), whether its
second copy is the committed one (R202), RESULT bytes that a lock-step frame holds (R271), frame, latched trigger (R51), overruns since the
last record, the last accepted trigger, the command in progress, a DISARM that waits, the plan's mark, an armed trace, frames whose input
post was dropped, a lock-step frame end that waits, the partner's packets. -/
structure CtxH where
  prog : Option Prog := none
  places : List Place := []
  flip : Bool := false
  held : Tab Nat := []
  frame : Option Frame := none
  latched : Option Trig := none
  ovr : Nat := 0
  prevTrig : Option Nat := none
  cmd : Option CtxCmdH := none
  disarm : Bool := false
  isProtected : Bool := false
  traceArmed : Bool := false
  noInput : List Nat := []
  wait : Option TwinWait := none
  pkts : List TwinPkt := []
  deriving DecidableEq, Repr

/-- A tile on a physical engine (R441): context, operation, tile number, logical engine counted from BASE, whether its operands are staged. -/
structure TileH where
  ctx : Nat
  op : Nat
  tile : Nat
  logical : Nat
  staged : Bool
  deriving DecidableEq, Repr

/-- A physical engine beside its registers: assigned tiles, the tile in the issue slot with its first clock, the live counters of
R219 and the clock up to which they count. -/
structure EngH where
  tiles : List TileH := []
  issue : Option (TileH × Nat) := none
  macEq : Nat := 0
  busy : Nat := 0
  stallMem : Nat := 0
  stallDep : Nat := 0
  test : Nat := 0
  since : Nat := 0
  upTo : Nat := 0
  deriving DecidableEq, Repr

/-- A resampled point (R242, R243): index m, time t_m in 1/256 tick, family, whether the family cap was reached, and the IFLAGS bits its
instant adds (R251). Its value lies in the ring in memory (R241); `val` and `env` are the FP32 codes that a close read there. -/
structure BabPt where
  m : Int := 0
  tm : Nat := 0
  fam : Nat := 0
  capped : Bool := false
  val : Nat := 0
  env : Nat := 0
  flags : Nat := 0
  deriving DecidableEq, Repr

/-- A sample of an input's stream: stamp, code, and the squared band-pass value in FP32 (R243). -/
structure BabSmp where
  stamp : Nat
  code : Int
  sq : Nat
  deriving DecidableEq, Repr

/-- A Babbitt input beside its registers: samples of its stream (newest first), the state of its band-pass (R243), points waiting for
samples, the points that the ring in memory holds (newest first), the highest point reached, a pause or discontinuity to mark on the
next point (R241, R244), samples that were saturated or uncalibrated with their IFLAGS bits (R251), and its ALIAS count (R242). -/
structure BabInH where
  samples : List BabSmp := []
  bp : List Nat := []
  wait : List BabPt := []
  ring : List BabPt := []
  top : Option Int := none
  paused : Bool := false
  disc : Bool := false
  marks : List (Nat × Nat) := []
  alias_ : Nat := 0
  deriving DecidableEq, Repr

/-- A close that Babbitt has not posted yet (R245, R252): context, frame number, firing stamp, whether the context's frames are enabled, whether it
is late, the buffer, the frame's bytes, formed from what stood at the firing (R254), and whether an input of it is valid. -/
structure BabClose where
  ctx : Nat := 0
  frame : Nat := 0
  at_ : Nat := 0
  en : Bool := true
  late : Bool := false
  buf : Nat := 0
  len : Nat := 0
  data : List Nat := []
  valid : Bool := false
  deriving DecidableEq, Repr

/-- Babbitt's result path and frame state per context: the defect table copied at EN (R248), the reference of STALE (R257), the
frame ends that wait for the result path, oldest first (R256): frame, code, flags, result block, DONE stamp. -/
structure BabCtxH where
  defects : List (List Nat) := []
  staleRef : Nat := 0
  apply : List (Nat × Nat × Nat × List Nat × Nat) := []
  deriving DecidableEq, Repr

/-- An axis in the safety manager beside its registers (R316 to R319, R329): the reaction in force (0 none, 1 REPORT, 2 DERATE, 3 SS1,
4 STO), the fault codes whose cause has not ended, the derating ceiling, an SS1 in progress (its request and v0), windows in a row
with a speed discrepancy between the channels and with the partner, the clock of the last write of AX.SPD_DERATE, and the
segment faults (14 to 16) of the axis whose condition stands at a segment (R158, R329). -/
structure SafAxH where
  react : Nat := 0
  causes : List Nat := []
  ceil : Option Nat := none
  ss1 : Option (Nat × Nat) := none
  disc : Nat := 0
  discTwin : Nat := 0
  derAt : Option Nat := none
  segCauses : List (Nat × Nat) := []
  deriving DecidableEq, Repr

/-- A safe input (R314): its two filtered levels and the instant from which they differ. At reset both stand at the inactive level of POL = 0
(DESIGN CHOICE, assumption log 6). -/
structure SafInH where
  a : Bool := true
  b : Bool := true
  differ : Option Nat := none
  deriving DecidableEq, Repr

/-- A unit under run-time test (R322 to R326): end of the last completed test, the slice in progress, the start of the last slice, the
latest end of a restore, and, of an engine, the 256 KiB part of its scratch that the next slice marches, 0 to 15. -/
structure TestH where
  done : Bool := false
  last : Nat := 0
  start : Option Nat := none
  lastStart : Option Nat := none
  restoreBy : Option Nat := none
  part : Nat := 0
  deriving DecidableEq, Repr

/-- The test pulses of a group (R313): the starts of the last pulse of channels A and B. -/
structure PulseH where
  a : Option Nat := none
  b : Option Nat := none
  deriving DecidableEq, Repr

/-- A fault (R329, R330): its code, SAF.FAULT_LAST's AXIS and UNIT, the SOURCE of its record, its clock, its reaction with the axes it is to act on, and the
groups whose STO it is. -/
structure FaultH where
  code : Nat := 0
  axis : Option Nat := none
  unit : Nat := 0
  source : Nat := 0
  at_ : Nat := 0
  react : Nat := 1
  axes : List Nat := []
  groups : List Nat := []
  deriving DecidableEq, Repr

/-- The safety manager beside its registers: STO output levels of channels A and B by group, a heartbeat or clock loss of the watchdog
island, the groups whose outputs stand in a test pulse by channel and the pulses' starts, the last window, windows in a row without the
partner's exchange, whether the partner was heard since the last window and its safe speeds by axis, the entry into RUN, the clocks at
which the outputs of channels A and B last changed by group (R313), the segments
whose overvoltage comparator failed its test (R327), the safe-input and group states of the partner (R333), the faults found
in a window, which react at its end (R329), and the Pewter lane that the rotation of tests is at (R322). -/
structure SafH where
  outA : Nat := 0
  outB : Nat := 0
  pulseA : Nat := 0
  pulseB : Nat := 0
  clockBad : Bool := false
  hbLost : Bool := false
  windowAt : Option Nat := none
  missed : Nat := 0
  heard : Bool := false
  runAt : Nat := 0
  peer : List (Nat × Nat) := []
  pulses : Tab PulseH := []
  aAt : Tab Nat := []
  bAt : Tab Nat := []
  ovDead : List Nat := []
  peerSi : Nat := 0
  peerGroups : Nat := 0
  due : List FaultH := []
  pewNext : Nat := 0
  deriving DecidableEq, Repr


/-- Ageing beside the registers (R346 to R352): the last 16 measurements of each delay monitor, newest first, the last measurement, the end
of the 1 ms after a new voltage request, whether no re-plan has run since the last start, and by die the trim that the reference moves to with the
clock of its next step (R351), and whether a whole operating hour has passed whose re-plan is due (R349). -/
structure AgeH where
  samples : Tab (List Int) := []
  lastMeas : Option Nat := none
  notBefore : Nat := 0
  firstPlan : Bool := true
  trim : Tab (Option (Int × Nat)) := []
  hourDue : Bool := false
  deriving DecidableEq, Repr

/-- An entry of the fuse bank (R336): the kind of structure and its instance, the spare, the address it replaces, and the valid mark. -/
structure FuseEntry where
  kind : Nat := 0
  inst : Nat := 0
  spare : Nat := 0
  addr : Nat := 0
  valid : Bool := false
  deriving DecidableEq, Repr

/-- The shut-down BIST under way (R338, R342): what the completed groups have found, block by block, the units with a defect that no spare repairs,
the entries to be written with the block of each, the defects left, whether the entries' bodies are written, and whether the blocks' events are. -/
structure BistH where
  found : List BistBlock := []
  units : List Nat := []
  plan : List (Nat × FuseEntry) := []
  left : List (Nat × BistDefect) := []
  bodies : Bool := false
  told : Bool := false
  deriving DecidableEq, Repr

/-- What the security block keeps of a firmware image (R293): versions, build, key, digest and the mailbox versions it speaks. -/
structure FwH where
  major : Nat := 0
  minor : Nat := 0
  build : Nat := 0
  keyId : Nat := 0
  digest : List Nat := []
  vers : List (Nat × Nat) := []
  deriving DecidableEq, Repr

/-- The supervisor beside its registers: the clock and the address of the download in progress and the key slots revoked when it began (R368), the
firmware loaded or running, the supervisor's code memory and data memory from offset 0, zero beyond (R293), the entry offset of its cores,
and the interfaces setting as the last firmware start read it (R306). -/
structure SupH where
  loadAt : Option Nat := none
  addr : Nat := 0
  revoked : Nat := 0
  fw : FwH := {}
  code : List Nat := []
  data : List Nat := []
  entry : Nat := 0
  policy : Bool := false
  deriving DecidableEq, Repr

/-- A mailbox command that the supervisor has taken (R299): header fields, payload, the clock of the take, whether its row has begun it, and
the reply's STATUS, DETAIL and payload once they are known; `rc` is what the unit at work for it has answered, once it has (R305). -/
structure MbCmdH where
  op : Nat := 0
  tag : Nat := 0
  payload : List Nat := []
  taken : Nat := 0
  begun : Bool := false
  result : Option (Nat × Nat × List Nat) := none
  rc : Option Nat := none
  deriving DecidableEq, Repr

/-- The security block beside its registers: owner slots present and their hashes, the fuse command in progress (0 program with a slot and a
hash, 1 revoke with a mask, 2 advance with a state), a challenge not yet used, the challenges and block addresses of the responses under verification, oldest
first, the attestation in progress (its master, address and report), whether a debug override has been active since POR, the address at which core 0 was
released, whether the identity secret is overwritten with ones (R370), and the clock of the last lifecycle advance with the state before it. -/
structure SecH where
  present : Nat := 0
  hashes : Tab (List Nat) := []
  fuseOp : Option (Nat × Nat × List Nat) := none
  fuseAt : Nat := 0
  chal : Bool := false
  dbg : List (List Nat × Nat) := []
  att : Option (Nat × Nat × List Nat) := none
  override : Bool := false
  core0 : Option Nat := none
  wiped : Bool := false
  lcPrev : Option (Nat × Nat) := none
  deriving DecidableEq, Repr

/-- Power and start-up beside the registers: POR in force and its cause, a power-state transition (target and start), the ends of axis resets
by axis and those that wait for a crossbar switch, OFFRDY and THERMn, the outputs still high-impedance, the clock of GO, whether the
module is standalone, whether a walk has reached it, whether its 3 s without enumeration have passed (R387), the last throttle step, and the INTERFACES
setting as it stood at the last POR or system reset (R402), the clock at which the DC-bus converters and the comparators are up (R102), the clock of the
last system reset, whether POR began in this clock (R393), and whether a junction reading has come since the reset (R434). -/
structure PwrH where
  por : Bool := false
  porCause : Nat := 0
  trans : Option (Nat × Nat) := none
  axRst : Tab (Option Nat) := []
  axPend : List Nat := []
  offrdy : Bool := false
  therm : Bool := false
  tjSeen : Bool := false
  hiZ : Bool := false
  go : Option Nat := none
  alone : Bool := false
  walked : Bool := false
  enumOver : Bool := false
  negotiate : Bool := false
  selfOk : Bool := true
  msAt : Nat := 0
  measAt : Nat := 640
  rstAt : Option Nat := none
  porNew : Bool := false
  deriving DecidableEq, Repr

/-- A packet (R401) kept for replay: whether it has gone on the wire, the clock it was last sent and the number of its resends (R403). -/
structure PktH where
  type_ : Nat := 0
  cls : Nat := 0
  dst : Nat := 0
  status : Nat := 0
  seq : Nat := 0
  stamp : Nat := 0
  addr : Nat := 0
  payload : List Nat := []
  onWire : Bool := false
  sent : Nat := 0
  resends : Nat := 0
  deriving DecidableEq, Repr

/-- A link port beside its registers (R401 to R404): training, whether that training keeps the replay contents, the clock since which it is
without link, whether that loss has been declared, the next SEQ to send and to receive by class, packets not acknowledged, oldest first, and the
last refused training. -/
structure LnkH where
  training : Bool := false
  retraining : Bool := false
  down : Option Nat := none
  lost : Bool := false
  tx : Tab Nat := []
  rx : Tab Nat := []
  unacked : List PktH := []
  refusedAt : Option Nat := none
  deriving DecidableEq, Repr

/-- An outbound PCIe read that waits for its completion (R410, R411): its local master, the clock it left, the host address and its length. -/
structure PcieReq where
  master : Nat := 0
  at_ : Nat := 0
  host : Nat := 0
  len : Nat := 0
  deriving DecidableEq, Repr

/-- The external interfaces beside their registers: Ethernet frames on the wire (port, class, completion queue, descriptor), their bytes by port and the clocks at which their first symbols left (R35), the gate states
in force by port and the entry of the gate list, dropped frames by port, outbound PCIe reads that wait, oldest first, and the last posted write with its host address (R410), the service port's FIFO and
what it received. -/
structure ExtH where
  ethTx : List (Nat × Nat × Nat × List Nat) := []
  ethWire : Tab (List Nat) := []
  ethStamp : Tab Nat := []
  gates : Tab Nat := []
  gateIdx : Tab Nat := []
  ethDrop : Tab Nat := []
  pcie : List PcieReq := []
  hostWrite : Option (Nat × List Nat) := none
  svcTx : List Nat := []
  svcRx : List Nat := []
  deriving DecidableEq, Repr

/-- The whole state of the module: its registers, memories, per-unit hidden state, and the queue of waiting commands. -/
structure State where
  /-- DEVICE TIME, 64 bits (R28). -/
  dtime : Nat := 0
  /-- The register file: every register of the register maps that differs from its reset value, by address (R9, R16). -/
  regs : Tab Word := []
  /-- Memory: LPDDR5X, shared SRAM, scratch, retained SRAM, axis-fabric memory, by physical address (R279). -/
  mem : List Host.Cell := []
  /-- The bits of memory and check bits that stand in error: the address of the code word that holds the bit, and its number in it (R282, R287). -/
  flips : List (Nat × Nat) := []
  /-- The patrol scrubber's pass (R283). -/
  scrub : ScrubH := {}
  /-- What each target has logged in the present clock, by target (R292). -/
  vios : Tab VioH := []
  /-- The response of the last access (R292). -/
  resp : Resp := {}
  /-- _HI latches by master and register (R15): key master × 2^40 + address. -/
  latches : Tab (Option Nat) := []
  /-- Group latches by master and register (R15, R52, R78, R193), same key. -/
  glatches : Tab (Option Nat) := []
  /-- Held _LO words by the address of the _LO register (R15). -/
  heldLo : Tab Nat := []
  /-- Bits that hardware set in the present clock, by register address (R13). -/
  justSet : Tab Nat := []
  /-- Register writes of threads and DMA that take effect at the next clock: master, address, value (R12). -/
  posted : List (Nat × Nat × Nat) := []
  /-- A debug override is active (R2). -/
  debugOverride : Bool := false
  /-- Interrupt lines raised (each bit a line); the spec gives no clearing of a line, so a raised line stays seen here. -/
  irqLines : Nat := 0
  /-- The event recorder (R355 to R366). -/
  recd : RecState := {}
  /-- The model's own counter of free values drawn (not the spec's). -/
  freeCtr : Nat := 0
  /-- Timebases beside their registers. -/
  tbs : Tab TbH := []
  /-- Schedule slots beside their registers. -/
  slots : Tab SlotH := []
  /-- Tachometer inputs. -/
  tachs : Tab TachH := []
  /-- Ends of the last SSI frame by port (R415). -/
  ssiEnd : Tab (Option Nat) := []
  /-- Alignment and line-sync state. -/
  timeH : TimeH := {}
  /-- Observers by axis beside their registers. -/
  obss : Tab ObsH := []
  /-- Networks the loader holds, by axis × 4 + kind (R175). -/
  nets : Tab (Option NetDef) := []
  /-- Jobs in the lanes 0 to 11 and the Pewter lanes 12 to 15, with their starts. -/
  lanes : Tab (Option (JobH × Nat)) := []
  /-- Jobs waiting for an observer lane, and for a Pewter lane. -/
  jobs : List JobH := []
  pjobs : List JobH := []
  /-- A load in progress (axis, kind, address), and the removals asked for (axis, kind), oldest first. -/
  obsLoad : Option (Nat × Nat × Nat) := none
  obsRemove : List (Nat × Nat) := []
  /-- Ends of settling of the phase-voltage DACs, by axis × 4 + phase (R88). -/
  pvSettle : Tab Nat := []
  /-- PWM channels beside their registers. -/
  pwms : Tab PwmH := []
  /-- Crossbar switches in progress by spare. -/
  pxbs : Tab (Option PxbH) := []
  /-- Current and speed loops beside their registers. -/
  focs : Tab FocH := []
  /-- Commutation and starts beside their registers. -/
  cmts : Tab CmtH := []
  /-- Phase-voltage comparators by axis × 4 + phase (R87, R88). -/
  pvs : Tab PvH := []
  /-- The last valid delay-line measurement N of each physical channel, 48 and 49 the spares; 0 where there is none (R58, R77). -/
  chans : Tab Nat := []
  /-- Live monitor sets by the address of their registers (R105). -/
  mons : Tab MonH := []
  /-- Housekeeping sequencers beside their registers. -/
  hks : Tab HkH := []
  /-- Vibration channels beside their registers. -/
  vibs : Tab VibH := []
  /-- The calibration in progress. -/
  cal : Option CalH := none
  /-- DC-bus segments beside their registers. -/
  segs : Tab SegH := []
  /-- Contexts beside their registers. -/
  ctxs : Tab CtxH := []
  /-- Physical engines beside their registers. -/
  engs : Tab EngH := []
  /-- Retires of the present clock by queue, clock and count: their credit is available from the next clock (R206). -/
  qRetired : Tab (Nat × Nat) := []
  /-- The instant from which the AUTO period of the utilisation snapshots runs (R219). -/
  utilRef : Nat := 0
  /-- Babbitt inputs beside their registers. -/
  babIns : Tab BabInH := []
  /-- Closes not yet posted, in firing order. -/
  babCloses : List BabClose := []
  /-- Costs of the closes fired in the last 120 µs: firing stamp and cost (R253). -/
  babCosts : List (Nat × Nat) := []
  /-- Babbitt contexts beside their registers. -/
  babCtxs : Tab BabCtxH := []
  /-- Axes in the safety manager beside their registers. -/
  safAxs : Tab SafAxH := []
  /-- Safe inputs. -/
  safIns : Tab SafInH := []
  /-- Units under run-time test: lanes 0 to 11, Pewter lanes 12 to 15, engines 16 to 23. -/
  tests : Tab TestH := []
  /-- The safety manager beside its registers. -/
  saf : SafH := {}
  /-- Ageing. -/
  age : AgeH := {}
  /-- The fuse bank of repairs, the entries that steer since the last start, and the shut-down BIST (R335 to R338). -/
  fuses : List FuseEntry := []
  steer : List FuseEntry := []
  bist : BistH := {}
  /-- The supervisor. -/
  sup : SupH := {}
  /-- Mailbox commands taken, by mailbox. -/
  mbs : Tab (Option MbCmdH) := []
  /-- The security block. -/
  sec : SecH := {}
  /-- Power, start-up and thermal state. -/
  pwr : PwrH := {}
  /-- Link ports. -/
  lnks : Tab LnkH := []
  /-- Ethernet, PCIe and the service port. -/
  ext : ExtH := {}
  /-- The commands that are waiting, first in, first out. -/
  pending : List Instr := []
  deriving DecidableEq, Repr

/-- The machine right after reset: every register at its reset value, memory with nothing listed, the queue empty. -/
def State.reset : State := {}

end Sys2Proof.Machine
end

