-- ==== Sys2Proof/Machine/Ops.lean ====
section
/-!
DEFINITION. The named operations over registers and memory: reset values (R16), reading and writing a register, a field and a
64-bit pair, status flags and counters, and bytes of memory. Every read and write of a register by the hardware itself goes
through these; bus accesses go through Access.lean, which adds the checks.
-/
namespace Sys2Proof.Machine

/-! ### Registers -/

/-- The instance and array index at which a register family holds address `a`. -/
def RegSpec.index (r : RegSpec) (a : Nat) : Option (Nat × Nat) :=
  if a < r.base then none else
  let d := a - r.base
  let i := if r.s1 = 0 then 0 else d / r.s1
  let e := if r.s1 = 0 then d else d % r.s1
  let j := if r.s2 = 0 then 0 else e / r.s2
  let f := if r.s2 = 0 then e else e % r.s2
  if i < r.n1 ∧ j < r.n2 ∧ f = 0 then some (i, j) else none

/-- The register a physical address names, with its instance and array index; none where no block defines the offset (R280). -/
def findReg (a : Nat) : Option (RegSpec × Nat × Nat) :=
  (regBlock a).findSome? fun r => (r.index a).map fun ij => (r, ij.1, ij.2)

/-- The default content of window `w` of master `m` at target `t` (R290): base and limit in bytes, and attribute bits
EN, R, W, SW. The spec fixes the content, not its order in windows 0 to 3. -/
def atDefault (t m w : Nat) : Option (Nat × Nat × Nat) :=
  let core := decide (m ≤ 7)
  let sup := m == 8
  let eng := decide (0x10 ≤ m ∧ m ≤ 0x17)
  let bab := m == 0x18
  let axf := m == 0x19
  let dma := m == 0x20
  let lnk := m == 0x30 || m == 0x31
  let dbg := m == 0x3F
  let one (b l at_ : Nat) : Option (Nat × Nat × Nat) := if w = 0 then some (b, l, at_) else none
  match t with
  | 0 => if dbg then one 0 0xFFFFFFFFF 15 else if core || sup || eng || bab || dma || lnk then one 0 0xFFFFFFFFF 7 else none
  | 1 => if dbg then one 0x1000000000 0x100FFFFFFF 15
         else if bab then one 0x1000000000 0x100FFFFFFF 7
         else if core || sup || eng || dma || lnk then one 0x1000000000 0x100BFFFFFF 7 else none
  | 2 => if dbg then one 0x1100000000 0x1101FFFFFF 15
         else if core || sup || eng || dma then one 0x1100000000 0x1101FFFFFF 7 else none
  | 3 => if dbg then one 0x1200000000 0x12003FFFFF 15
         else if core || sup then
           (if w = 0 then some (0x1200000000, 0x120007FFFF, 3) else if w = 1 then some (0x1200080000, 0x12003FFFFF, 7) else none)
         else if dma then one 0x1200080000 0x12003FFFFF 7 else none
  | 4 => if dbg then one 0x1300000000 0x13007FFFFF 15
         else if core || sup || axf || dma then one 0x1300000000 0x13007FFFFF 7 else none
  | 5 => if dbg || sup then one 0x2000000000 0x200FFFFFFF 15 else if core then one 0x2000000000 0x200FFFFFFF 7 else none
  | 6 => if dbg || sup then one 0x2010000000 0x201FFFFFFF 15 else if core || bab then one 0x2010000000 0x201FFFFFFF 7 else none
  | 7 => if dbg || sup then one 0x2020000000 0x202FFFFFFF 15 else if core then one 0x2020000000 0x202FFFFFFF 7 else none
  | 8 => if dbg || sup then one 0x2030000000 0x203000FFFF 15
         else if core || eng || bab || dma || lnk then one 0x2030000000 0x203000FFFF 7 else none
  | 9 => if dbg then one 0x3000000000 0x3FFFFFFFFF 15 else if core || sup || dma then one 0x3000000000 0x3FFFFFFFFF 7 else none
  | _ => none

/-- Reset values that the register maps give by a rule instead of one number: TB.CFG (EN and SRC 1 for t ≤ 47; KIND from the
index), AX.BUS_CFG.SEG ⌊n/6⌋, ENG.STATUS.HOSTS 1 << e, the access-table windows (R290). -/
def resetOverride (a : Nat) : Option Nat :=
  if 0x2000050000 ≤ a ∧ a < 0x2000054000 ∧ a % 0x100 = 0 then
    let t := (a - 0x2000050000) / 0x100
    let kind := if t ≤ 47 then 0 else if t ≤ 55 then 1 else if t ≤ 59 then 2 else 3
    some ((if t ≤ 47 then 1 + 8 else 0) + kind * 2)
  else if 0x2010000000 ≤ a ∧ a < 0x2010300000 ∧ a % 0x10000 = 0x680 then
    some (128 * 256 + (a - 0x2010000000) / 0x10000 / 6)
  else if 0x2020000000 ≤ a ∧ a < 0x2020080000 ∧ a % 0x10000 = 4 then
    some (2 ^ ((a - 0x2020000000) / 0x10000))
  else if 0x2000100000 ≤ a ∧ a < 0x20001A0000 ∧ 0x1000 ≤ a % 0x10000 ∧ a % 0x10000 < 0x5000 then
    let t := (a - 0x2000100000) / 0x10000
    let k := (a % 0x10000 - 0x1000) / 16
    match atDefault t (k / 16) (k % 16) with
    | none => some 0
    | some (b, l, at_) =>
      if a % 16 = 0 then some (b / 64) else if a % 16 = 4 then some (l / 64) else if a % 16 = 8 then some at_ else some 0
  else none

/-- The word a field list spells at reset. -/
def fieldsReset : List FieldSpec → Nat
  | [] => 0
  | f :: t => f.rst * 2 ^ f.lo + fieldsReset t

/-- The reset value of the register at address `a` (R16); 0 where no register lies. -/
def resetWord (a : Nat) : Word :=
  match resetOverride a with
  | some v => BitVec.ofNat 32 v
  | none =>
    match findReg a with
    | some (r, _, _) => BitVec.ofNat 32 (fieldsReset r.fields)
    | none => 0

/-- The value of the register at address `a`. -/
def State.reg (s : State) (a : Nat) : Word := Tab.get (resetWord a) s.regs a
/-- The register at address `a` takes value `v`. -/
def State.setReg (s : State) (a : Nat) (v : Word) : State := { s with regs := Tab.put (resetWord a) s.regs a v }

/-- The value of a field (a 64-bit pair reads both registers). -/
def State.rd (s : State) (f : RF) (i : Nat := 0) (j : Nat := 0) : Nat :=
  let a := f.addr i j
  if f.hi = 63 then (s.reg a).toNat + 2 ^ 32 * (s.reg (a + 4)).toNat
  else bits (s.reg a).toNat f.hi f.lo
/-- A field takes the low bits of `v`; the other bits of the register stay. -/
def State.wr (s : State) (f : RF) (v : Nat) (i : Nat := 0) (j : Nat := 0) : State :=
  let a := f.addr i j
  if f.hi = 63 then (s.setReg a (BitVec.ofNat 32 v)).setReg (a + 4) (BitVec.ofNat 32 (v / 2 ^ 32))
  else s.setReg a (BitVec.ofNat 32 (setBits (s.reg a).toNat f.hi f.lo v))
/-- A field read as a two's complement number of its width. -/
def State.rdS (s : State) (f : RF) (i : Nat := 0) (j : Nat := 0) : Int := toS f.width (s.rd f i j)
/-- A field written with the two's complement code of an integer. -/
def State.wrS (s : State) (f : RF) (v : Int) (i : Nat := 0) (j : Nat := 0) : State := s.wr f (ofS f.width v) i j

/-! ### Memory -/

/-- What a byte nothing has written reads as: DESIGN CHOICE (the spec gives memory no content after power-on). -/
def memDefault : Byte := 0
/-- The canonical form of memory: addresses strictly rising, no entry equal to what an unlisted address reads as. -/
def Memory.wf (m : List Host.Cell) : Bool := Tab.wf (fun _ => memDefault) m
/-- One byte of memory. -/
def State.byte (s : State) (a : Nat) : Byte := Tab.get memDefault s.mem a
/-- One byte of memory is written. -/
def State.setByte (s : State) (a : Nat) (b : Byte) : State := { s with mem := Tab.put memDefault s.mem a b }
/-- `n` bytes of memory from address `a`. -/
def State.readMem (s : State) : Nat → Nat → List Nat
  | _, 0 => []
  | a, n + 1 => (s.byte a).toNat :: s.readMem (a + 1) n
/-- A byte string is stored from address `a` up. -/
def State.writeMem (s : State) : Nat → List Nat → State
  | _, [] => s
  | a, b :: t => (s.setByte a (BitVec.ofNat 8 b)).writeMem (a + 1) t
/-- Bytes of a code word's data: 64-byte blocks of LPDDR5X (R282), 64-bit words of the on-chip memories (R287). -/
def eccSize (a : Nat) : Nat := if a < 0x1000000000 then 64 else 8
/-- The code word that holds an address, by its first address. -/
def eccWord (a : Nat) : Nat := a / eccSize a * eccSize a
/-- The code words that `n` bytes from `a` meet. -/
def eccWords (a n : Nat) : List Nat :=
  if n = 0 then [] else (List.range ((a + n - 1) / eccSize a + 1 - a / eccSize a)).map fun k => (a / eccSize a + k) * eccSize a
/-- Code words that are written whole take new check bits: their errors are gone (R285). -/
def State.eccOver (s : State) (a n : Nat) : State :=
  { s with flips := s.flips.filter fun x => !(decide (a ≤ x.1 ∧ x.1 + eccSize x.1 ≤ a + n)) }
/-- A little-endian number of `n` bytes read from memory. -/
def State.readLE (s : State) (a n : Nat) : Nat := ofLE (s.readMem a n)

/-! ### Time -/

/-- One clock passes (R28); while POR is asserted DEVICE TIME stands at 0, its PLL not locked (R29). -/
def State.tick (s : State) : State := { s with dtime := if s.pwr.por then s.dtime else (s.dtime + 1) % timeMod, justSet := [] }

/-! ### Free values and outputs -/

/-- A free value is drawn: a value nothing constrains, and the counter that keeps the next draw apart. -/
def State.draw (s : State) : Nat × State := (Config.freeNat s.freeCtr, { s with freeCtr := s.freeCtr + 1 })
/-- Interrupt line `l` is raised. -/
def State.raiseIrq (s : State) (l : Nat) : State := { s with irqLines := setBit s.irqLines l true }

/-! ### Iteration -/

/-- A state change repeated for each element of a list, in its order. -/
def State.forEach {α : Type} (s : State) (l : List α) (f : State → α → State) : State := l.foldl f s
/-- A state change made only where a condition holds. -/
def State.iff (s : State) (c : Bool) (f : State → State) : State := if c then f s else s

/-- Every value of a table changed, in canonical form. -/
def Tab.mapV {α : Type} [DecidableEq α] (d : α) (f : α → α) (t : Tab α) : Tab α := (t.map fun e => (e.1, f e.2)).filter fun e => e.2 ≠ d
/-- A unit finishes with a code: the mailbox command that it was at work for, by opcode and payload, keeps that answer (R304, R305). -/
def State.mbSettle (s : State) (op rc : Nat) (mine : List Nat → Bool) : State :=
  { s with mbs := Tab.mapV none (fun h => h.map fun c =>
      if c.op = op ∧ c.begun = true ∧ c.result = none ∧ c.rc = none ∧ mine c.payload = true then { c with rc := some rc } else c) s.mbs }

end Sys2Proof.Machine
end

