-- ==== Sys2Proof/Machine/Operands.lean ====
section
/-!
DEFINITION. Operand forms: how a word written to a register turns into field values (R10 to R14), and how the values of the
number formats of R4 and R6 are read from words.
-/
namespace Sys2Proof.Machine

/-- Whether an encoding is reserved for a field (R11). -/
def FieldSpec.reserved (f : FieldSpec) (v : Nat) : Bool := f.rsv.any fun r => decide (r.1 ≤ v ∧ v ≤ r.2)

/-- The LOCK bit that governs the RWL fields of a register (R14). -/
def State.locked (s : State) (r : RegSpec) (i : Nat) : Bool :=
  match r.lock with
  | none => false
  | some (b, st, k) => bit (s.reg (b + i * st)).toNat k

/-- One field of a register write: the register's new content, and whether a locked field was to change (R11, R12, R14); `keep` marks the
bits that hardware set in the same clock, which a clear leaves set (R13). -/
def FieldSpec.write (lock : Bool) (keep v : Nat) (acc : Nat × Bool) (f : FieldSpec) : Nat × Bool :=
  let old := bits acc.1 f.hi f.lo
  let new := bits v f.hi f.lo
  match f.acc with
  | .ro | .wo => acc
  | .rw => (if f.reserved new then acc.1 else setBits acc.1 f.hi f.lo new, acc.2)
  | .rwl =>
    if lock then (acc.1, acc.2 || old != new)
    else (if f.reserved new then acc.1 else setBits acc.1 f.hi f.lo new, acc.2)
  | .w1c => (setBits acc.1 f.hi f.lo ((old - (old &&& new)) ||| (old &&& bits keep f.hi f.lo)), acc.2)
  | .w1s => (setBits acc.1 f.hi f.lo (old ||| new), acc.2)

/-- A word written to a register, field by field: the register's new content, and whether a locked field was to change. -/
def RegSpec.write (r : RegSpec) (lock : Bool) (keep old v : Nat) : Nat × Bool :=
  r.fields.foldl (FieldSpec.write lock keep v) (old, false)

/-- The bits a read of a register returns: write-only fields and reserved bits read 0 (R10, R12). -/
def RegSpec.readMask (r : RegSpec) (v : Nat) : Nat :=
  r.fields.foldl (fun a f => if f.acc = .wo then a else a + bits v f.hi f.lo * 2 ^ f.lo) 0

/-! ### Timebases (R39, R42) -/

/-- A timebase's state beside its registers. -/
def State.tb (s : State) (t : Nat) : TbH := Tab.get {} s.tbs t
/-- A timebase's state changed. -/
def State.updTb (s : State) (t : Nat) (f : TbH → TbH) : State := { s with tbs := Tab.put {} s.tbs t (f (s.tb t)) }
/-- Timebase states (TB.STATUS.STATE). -/
def tbOff : Nat := 0
def tbPrimary : Nat := 1
def tbFallback : Nat := 2
def tbHold : Nat := 3
def tbLost : Nat := 4

/-- The speed a timebase moves at: 0 while it is OFF or LOST (R42, R439). -/
def State.tbSpeed (s : State) (t : Nat) : Int :=
  let st := s.rd TB.STATUS.STATE t
  if st = tbOff ∨ st = tbLost then 0 else s.rdS TB.SPEED.SPEED t
/-- The angle of a timebase at DEVICE TIME `at_`: angle + round(speed × (t − stamp) / 2^24), ties to even (R39). -/
def State.tbAngleAt (s : State) (t at_ : Nat) : Int :=
  toS 64 (ofS 64 (s.rdS TB.ANGLE t + rneShr (s.tbSpeed t * ((at_ : Int) - (s.rd TB.STAMP t : Int))) 24))

/-- The entries of a history (newest first) that an instant since `lim` may ask for: those after it, and the one in force at it. -/
def keepSince {α : Type} (lim : Nat) (l : List (Nat × α)) : List (Nat × α) :=
  let n := l.takeWhile fun x => decide (lim < x.1)
  n ++ (l.drop n.length).take 1
/-- How long words and states of timebases are kept for Babbitt, in ticks beyond the last word: more than the largest LAG (R246). -/
def tbKeep : Nat := 1500000
/-- A word of a timebase is noted: stamp, angle and speed; `live` where it is that of an update. -/
def State.tbNote (s : State) (t stamp : Nat) (ang spd : Int) (live : Bool) : State :=
  s.updTb t fun h => { h with live := live, words := (stamp, ang, spd) :: keepSince (stamp - tbKeep) h.words }
/-- The angle of a timebase at an earlier instant: the extrapolation of the word then in force (R39). -/
def State.tbAngleThen (s : State) (t at_ : Nat) : Int :=
  match (s.tb t).words.find? fun w => decide (w.1 ≤ at_) with
  | some w => toS 64 (ofS 64 (w.2.1 + rneShr (w.2.2 * ((at_ : Int) - (w.1 : Int))) 24))
  | none => s.tbAngleAt t at_
/-- The state of a timebase at an earlier instant (R251). -/
def State.tbStateThen (s : State) (t at_ : Nat) : Nat :=
  match (s.tb t).hist.find? fun x => decide (x.1 ≤ at_) with
  | some x => x.2
  | none => if (s.tb t).hist = [] then s.rd TB.STATUS.STATE t else tbOff

end Sys2Proof.Machine
end

