-- ==== Sys2Proof/Machine/Flags.lean ====
section
/-!
DEFINITION. Status flags and counters: a flag read, set and cleared; counters that wrap at their field's width and counters that
saturate, as each register map says of its field.
-/
namespace Sys2Proof.Machine

/-- A one-bit field is set. -/
def State.flag (s : State) (f : RF) (i : Nat := 0) (j : Nat := 0) : Bool := s.rd f i j != 0
/-- Bits that hardware sets are noted for the rest of the clock (R13). -/
def State.noteSet (s : State) (a mask : Nat) : State := { s with justSet := Tab.put 0 s.justSet a (Tab.get 0 s.justSet a ||| mask) }
/-- Hardware sets a flag. -/
def State.raise (s : State) (f : RF) (i : Nat := 0) (j : Nat := 0) : State := (s.wr f 1 i j).noteSet (f.addr i j) (2 ^ f.lo)
/-- Hardware sets the flags `mask` of a field of flags. -/
def State.raiseBits (s : State) (f : RF) (mask : Nat) (i : Nat := 0) (j : Nat := 0) : State :=
  (s.wr f (s.rd f i j ||| mask) i j).noteSet (f.addr i j) (mask * 2 ^ f.lo)
/-- Hardware clears a flag. -/
def State.clear (s : State) (f : RF) (i : Nat := 0) (j : Nat := 0) : State := s.wr f 0 i j
/-- A flag takes a truth value. -/
def State.put (s : State) (f : RF) (b : Bool) (i : Nat := 0) (j : Nat := 0) : State :=
  if b then s.raise f i j else s.clear f i j
/-- A flag is set where a condition holds, else it keeps its value. -/
def State.raiseIf (s : State) (c : Bool) (f : RF) (i : Nat := 0) (j : Nat := 0) : State := if c then s.raise f i j else s
/-- A wrapping counter counts `n`. -/
def State.incWrap (s : State) (f : RF) (i : Nat := 0) (j : Nat := 0) (n : Nat := 1) : State := s.wr f (s.rd f i j + n) i j
/-- A saturating counter counts `n`. -/
def State.incSat (s : State) (f : RF) (i : Nat := 0) (j : Nat := 0) (n : Nat := 1) : State :=
  s.wr f (satU f.width (s.rd f i j + n)) i j
/-- Bit `b` of a field. -/
def State.rdBit (s : State) (f : RF) (b : Nat) (i : Nat := 0) (j : Nat := 0) : Bool := bit (s.rd f i j) b
/-- Bit `b` of a field takes a truth value. -/
def State.wrBit (s : State) (f : RF) (b : Nat) (x : Bool) (i : Nat := 0) (j : Nat := 0) : State :=
  if x then (s.wr f (setBit (s.rd f i j) b true) i j).noteSet (f.addr i j) (2 ^ (f.lo + b)) else s.wr f (setBit (s.rd f i j) b false) i j

/-- A level that a ball has shown since a clock has passed the two clocks of the synchroniser and a filter of `n` ticks (R70, R314, R414, R416). -/
def State.ballPassed (s : State) (p : PinLevel) (n : Nat) : Bool := decide (p.since + 2 + n ≤ s.dtime)
/-- A reset abandons a power-state transition in progress (R393). -/
def State.transAbandon (s : State) : State :=
  if s.pwr.trans.isSome then { s with pwr := { s.pwr with trans := none } }.clear PWR.STATE.BUSY else s
/-- A POR is in force, or a system reset was performed in this clock: it contains every further reset (R391, R393). -/
def State.inReset (s : State) : Bool := s.pwr.por || s.pwr.rstAt == some s.dtime

end Sys2Proof.Machine
end

