-- ==== Sys2Proof/Machine/Recorder.lean ====
section
/-!
DEFINITION. The event recorder: CRC-32C, records as bytes, posting an event, taking one from the queue (opening or repeating a
record), and writing the mirror (R355 to R366, R437).
-/
namespace Sys2Proof.Machine

/-- One bit of CRC-32C, polynomial 0x1EDC_6F41 in reflected form (R355). -/
def crcBits : Nat → Nat → Nat
  | 0, c => c
  | k + 1, c => crcBits k (if c % 2 = 1 then Nat.xor (c / 2) 0x82F63B78 else c / 2)
/-- CRC-32C over a byte string: initial value 0xFFFF_FFFF, final inversion (R355). -/
def crc32c (l : List Nat) : Nat :=
  Nat.xor (l.foldl (fun c b => crcBits 8 (Nat.xor c (b % 256))) 0xFFFFFFFF) 0xFFFFFFFF

/-- A SOURCE word: class and number (R356). -/
def srcOf (cls n : Nat) : Nat := cls * 4096 + n % 4096
/-- SOURCE of the module, an axis, an engine, a lane, a segment, a context, a queue, a timebase and a slot (R356). -/
def srcModule : Nat := 0
def srcAxis (n : Nat) : Nat := srcOf 1 n
def srcEngine (n : Nat) : Nat := srcOf 2 n
def srcLane (n : Nat) : Nat := srcOf 3 n
def srcSegment (n : Nat) : Nat := srcOf 4 n
def srcContext (n : Nat) : Nat := srcOf 5 n
def srcQueue (n : Nat) : Nat := srcOf 6 n
def srcTimebase (n : Nat) : Nat := srcOf 7 n
def srcSlot (n : Nat) : Nat := srcOf 8 n
def srcTarget (n : Nat) : Nat := srcOf 9 n
def srcChannel (n : Nat) : Nat := srcOf 10 n
def srcGroup (n : Nat) : Nat := srcOf 12 n
def srcConverter (n : Nat) : Nat := srcOf 14 n

/-- The first 60 bytes of a record (R355). -/
def Record.body (r : Record) : List Nat :=
  le 4 r.seq ++ le 2 r.code ++ le 2 r.source ++ le 8 r.dt ++ le 4 r.hours ++ le 4 r.pcycle ++ le 2 r.rep
    ++ [b2n r.cont, r.ringId % 256] ++ le 4 r.lastDelta ++ slice r.payload 0 28
/-- The 64 bytes of a record, CRC included (R355). -/
def Record.bytes (r : Record) : List Nat := let b := r.body; b ++ le 4 (crc32c b)

/-- Of two events of one clock, `a` goes before `b`: ascending SOURCE, then CODE (R359). -/
def evBefore (a b : RecEvent) : Bool :=
  a.arrived == b.arrived && (decide (a.source < b.source) || a.source == b.source && decide (a.code < b.code))
/-- An event enters the queue behind those of earlier clocks; events of one clock stand in ascending SOURCE, then CODE (R359). -/
def insertEvent (e : RecEvent) : List RecEvent → List RecEvent
  | [] => [e]
  | x :: t => if evBefore e x then e :: x :: t else x :: insertEvent e t
/-- An event finds the queue full: it is counted, with the first and the last of those lost (R359). -/
def RecState.lose (r : RecState) (e : RecEvent) : RecState :=
  { r with lost := r.lost + 1,
           lostFirst := match r.lostFirst with
             | some x => if r.lost ≠ 0 && !(evBefore e x) then some x else some e
             | none => some e,
           lostLast := match r.lostLast with
             | some x => if r.lost ≠ 0 && evBefore e x then some x else some e
             | none => some e }

/-- The number of events waiting shows in REC.QUEUE. -/
def State.showQueue (s : State) : State := s.wr REC.QUEUE.VALUE s.recd.queue.length

/-- A recorder event is posted with stamp `at_` (R357, R359, R360): it is counted in REC.EVT_TOTAL and waits in the input queue, or, where 256 events
wait, is counted as lost. Of the events of one clock the lowest SOURCE and CODE enter first, so one already let in gives way to a lower one. -/
def State.emitAt (s : State) (at_ code source : Nat) (payload : List Nat) (merge : Bool) : State :=
  let s := s.wr REC.EVT_TOTAL (s.rd REC.EVT_TOTAL + 1)
  let r := s.recd
  let e : RecEvent := { code := code, source := source, stamp := at_, payload := payload, merge := merge, arrived := s.dtime }
  if r.queue.length < 256 then { s with recd := { r with queue := insertEvent e r.queue } }.showQueue
  else
    match r.queue.getLast? with
    | some x => if evBefore e x then { s with recd := { r with queue := insertEvent e r.queue.dropLast }.lose x } else { s with recd := r.lose e }
    | none => { s with recd := r.lose e }
/-- A never-merged event stamped with the present clock. -/
def State.emit (s : State) (code source : Nat) (payload : List Nat := []) : State := s.emitAt s.dtime code source payload false
/-- An event that may merge with a candidate record, stamped with the present clock. -/
def State.emitMerge (s : State) (code source : Nat) (payload : List Nat := []) : State := s.emitAt s.dtime code source payload true

/-- The ring address of the record with sequence number `q` (R361). -/
def ringAddr (q : Nat) : Nat := 0x1200000000 + (q % 8192) * 64
/-- A record stands in the ring, as data and as its bytes in retained SRAM (R361). -/
def State.putRecord (s : State) (r : Record) : State :=
  ({ s with recd := { s.recd with ring := Tab.put {} s.recd.ring (r.seq % 8192) r } }.eccOver (ringAddr r.seq) 64).writeMem (ringAddr r.seq) r.bytes
/-- The record with sequence number `q` in the ring. -/
def State.getRecord (s : State) (q : Nat) : Record := Tab.get {} s.recd.ring (q % 8192)

/-- A new record is opened for an event (R355, R357, R358): the candidates are those of the 64 records opened most recently that are not full. -/
def State.openRecord (s : State) (e : RecEvent) (cont : Bool) : State :=
  let q := s.recd.nextSeq
  let rec_ : Record :=
    { seq := q, code := e.code, source := e.source, dt := e.stamp, hours := s.rd REC.HOURS.VALUE, pcycle := s.rd REC.PCYCLE.VALUE,
      rep := 0, cont := cont, ringId := s.rd PWR.RING_STATUS.RING_ID, lastDelta := 0, payload := e.payload }
  let s := s.putRecord rec_
  let r := s.recd
  { s with recd := { r with nextSeq := q + 1, cands := (q :: r.cands).filter (fun x => q < x + 64), pendNew := r.pendNew ++ [(q, s.dtime)] } }.wr REC.HEAD.VALUE q

/-- The most recent candidate record that an event repeats (R357). -/
def State.findCand (s : State) (e : RecEvent) : Option Nat :=
  if e.merge then
    s.recd.cands.find? fun q =>
      let r := s.getRecord q
      r.code == e.code && r.source == e.source && r.payload == e.payload
  else none

/-- An event taken from the queue opens a record or repeats one (R357, R358). -/
def State.recordEvent (s : State) (e : RecEvent) : State :=
  match s.findCand e with
  | none => s.openRecord e false
  | some q =>
    let r := s.getRecord q
    if 65535 ≤ r.rep then
      { s with recd := { s.recd with cands := s.recd.cands.filter (· ≠ q) } }.openRecord e true
    else
      let s := s.putRecord { r with rep := r.rep + 1, lastDelta := satU 32 (e.stamp - r.dt) }
      { s with recd := { s.recd with pendRep := (s.recd.pendRep.filter fun p => p.1 ≠ q) ++ [(q, s.dtime)] } }

/-- The OVERFLOW event that takes the place a take freed, where events were lost (R359). -/
def State.overflowEvent (s : State) : State :=
  let r := s.recd
  if r.lost = 0 then s else
  let e : RecEvent :=
    let at_ (x : Option RecEvent) : Nat := (x.map (·.stamp)).getD 0
    let code (x : Option RecEvent) : Nat := (x.map (·.code)).getD 0
    { code := 0x0002, source := srcModule, stamp := at_ r.lostFirst,
      payload := le 4 r.lost ++ le 2 (code r.lostFirst) ++ le 2 (code r.lostLast) ++ le 8 (at_ r.lostFirst) ++ le 8 (at_ r.lostLast),
      merge := false, arrived := s.dtime }
  { s with recd := { r with queue := r.queue ++ [e], lost := 0, lostFirst := none, lostLast := none } }

/-- RECORDER_TAKE (R359): at least 4 clocks after the last take, the event that has waited longest is taken and recorded. -/
def execRecorderTake (s : State) : Host.Outcome State Fault Refusal :=
  let r := s.recd
  let ready := match r.lastTake with
    | none => true
    | some t => decide (t + 4 ≤ s.dtime)
  match r.queue with
  | [] => .next s
  | e :: rest =>
    if ready then
      let s := { s with recd := { r with queue := rest, lastTake := some s.dtime } }
      .next ((s.recordEvent e).overflowEvent.showQueue)
    else .next s

/-- Posted events that are in no record yet: those that wait, those that an OVERFLOW event in the queue reports, and those lost since (R360). -/
def RecState.waiting (r : RecState) : Nat :=
  (r.queue.foldl (fun n e => n + if e.code = 2 then fieldLE e.payload 0 4 else 1) 0) + r.lost
/-- Every pending record and change is written to the mirror, in ascending SEQ, and the total with it (R360, R361, R363). The
mirrored total counts the events that are in records. -/
def State.mirrorAll (s : State) (clean : Bool) : State :=
  let r := s.recd
  let qs := r.pendNew.map (·.1) ++ r.pendRep.map (·.1)
  let mir := qs.foldl (fun t q => Tab.put ({} : Record) t (q % 16384) (Tab.get {} r.ring (q % 8192))) r.mirror
  let h := { r.hist with
    empty := false, hours := s.rd REC.HOURS.VALUE, pcycle := s.rd REC.PCYCLE.VALUE,
    evtTotal := s.rd REC.EVT_TOTAL - r.waiting, nextSeq := r.nextSeq, clean := clean }
  let s := { s with recd := { r with mirror := mir, badMirror := r.badMirror.filter (fun k => !(qs.any fun q => q % 16384 == k)),
                                     pendNew := [], pendRep := [], hist := h } }
  s.wr REC.NV_HEAD.VALUE (s.rd REC.HEAD.VALUE)
/-- A flush of the mirror: every pending change is written and the clean mark set (R360, R363); a failed write sets NV_ERR. -/
def State.flushMirror (s : State) (ok : Bool) : State := if ok then s.mirrorAll true else s.raise REC.STATUS.NV_ERR

/-- MIRROR_WRITE (R363): pending records and changes go to the mirror; the first mirror write after a flush clears the clean mark.
`ok` is whether the device on port 1 took the write. -/
def execMirrorWrite (ok : Bool) (s : State) : Host.Outcome State Fault Refusal :=
  if s.recd.pendNew = [] ∧ s.recd.pendRep = [] then .next s
  else if ok then .next (s.mirrorAll false) else .next (s.raise REC.STATUS.NV_ERR)

/-- NV_READ_DONE (R365): the mirror record that NV_IDX names is loaded into NV_DATA in one step and NV_VALID sets; a failed read
sets NV_ERR. Without a read in progress nothing happens. -/
def execNvReadDone (ok : Bool) (s : State) : Host.Outcome State Fault Refusal :=
  match s.recd.nvPend with
  | none => .next s
  | some q =>
    let s := { s with recd := { s.recd with nvPend := none } }
    if ok then
      let b := (Tab.get ({} : Record) s.recd.mirror (q % 16384)).bytes
      let s := s.forEach (List.range 16) fun s k => s.wr REC.NV_DATA.DATA (fieldLE b (4 * k) 4) 0 k
      .next (s.raise REC.STATUS.NV_VALID)
    else .next (s.raise REC.STATUS.NV_ERR)

/-- Operation begins, at the entry into RUN at the end of step 2 (R364, R394): HOURS counts on from where it stopped. -/
def State.hoursGo (s : State) : State :=
  match s.recd.hoursStop with
  | some t => { s with recd := { s.recd with hoursRef := s.recd.hoursRef + (s.dtime - t), hoursStop := none } }
  | none => s
/-- HOURS_UPDATE (R364, R349): after each 0.1 h of operation HOURS counts one and is written to the ageing history; at a whole hour a re-plan is due. -/
def execHoursUpdate (s : State) : Host.Outcome State Fault Refusal :=
  let period := 360000 * msTicks
  if s.recd.hoursStop = none ∧ s.recd.hoursRef + period ≤ s.dtime then
    let s := s.incWrap REC.HOURS.VALUE
    let whole := s.rd REC.HOURS.VALUE % 10 == 0
    .next { s with recd := { s.recd with hoursRef := s.recd.hoursRef + period,
                                         hist := { s.recd.hist with empty := false, hours := s.rd REC.HOURS.VALUE } },
                   age := { s.age with hourDue := s.age.hourDue || whole } }
  else .next s

/-- What an empty ageing history holds beside the recorder's counts: SVC_POLICY 0, no persistent fence, failure count or channel retirement (R437). -/
def State.historyEmpty (s : State) : State :=
  let s := ((s.clear AGE.SVC_POLICY.AGEING).clear AGE.SVC_POLICY.INTERFACES).wr AGE.PFENCE.PFENCE 0
  let s := (s.wr AGE.PFENCE_AX 0).forEach (List.range 3) fun s k => s.wr AGE.FAIL_CNT.FAIL_CNT 0 0 k
  s.wr MEM.CH_RETIRE.RETIRE 0
/-- The newest 8,192 of the valid records of a mirror (R364). -/
def newestRecords (l : Tab Record) : Tab Record :=
  if l.length ≤ 8192 then l else l.filter fun e => decide ((l.filter fun x => e.2.seq < x.2.seq).length < 8192)
/-- What is found of the device on port 1: mirror records with a bad CRC, and whether the ageing history's check fails, when the empty history holds (R364,
R437). -/
def State.historyCheck (s : State) (found : StartFindings) : State :=
  let bad := found.records.foldl (fun (l : List Nat) (k : Fin 16384) => if l.contains k.val then l else l ++ [k.val]) s.recd.badMirror
  let h := if found.history then {} else s.recd.hist
  let s := { s with recd := { s.recd with badMirror := bad, hist := h } }
  if s.recd.hist.empty then s.historyEmpty else s
/-- The counts from which a start goes on: those of the history, or, where it is empty, the starting values (R437). -/
def AgeingHistory.start (h : AgeingHistory) : AgeingHistory :=
  if h.empty then { empty := false, hours := 0, pcycle := 0, evtTotal := 0, nextSeq := 0, clean := true } else h
/-- The valid records of the mirror; an empty history has none. -/
def RecState.mirrorGood (r : RecState) : Tab Record := if r.hist.empty then [] else r.mirror.filter fun e => !(r.badMirror.contains e.1)
/-- The bad records of the mirror. -/
def RecState.mirrorBad (r : RecState) : Nat := if r.hist.empty then 0 else r.badMirror.length
/-- The SEQ that the next record takes. -/
def RecState.mirrorTop (r : RecState) : Nat := r.mirrorGood.foldl (fun m e => max m (e.2.seq + 1)) r.hist.start.nextSeq
/-- The ring is filled again from the mirror, and PCYCLE counts on (R364). -/
def State.ringFill (s : State) : State :=
  let r := s.recd
  let h := r.hist.start
  let kept := newestRecords r.mirrorGood
  let r' := { r with mirror := if r.hist.empty then [] else r.mirror, nextSeq := r.mirrorTop, cands := [], pendNew := [], pendRep := [],
                     ring := kept.foldl (fun t e => Tab.put ({} : Record) t (e.2.seq % 8192) e.2) [],
                     lastTake := none, nvPend := none, hist := { h with pcycle := h.pcycle + 1 } }
  { s with recd := r' }.forEach kept fun s e => s.writeMem (ringAddr e.2.seq) e.2.bytes
/-- The recorder's registers after the mirror `r` has been read (R364). -/
def State.recorderShow (s : State) (r : RecState) : State :=
  let h := r.hist.start
  let s := (s.wr REC.HOURS.VALUE h.hours).wr REC.PCYCLE.VALUE (h.pcycle + 1)
  let s := (s.wr REC.EVT_TOTAL (h.evtTotal + r.waiting + 1)).showQueue
  ((s.wr REC.HEAD.VALUE (r.mirrorTop - 1)).wr REC.NV_HEAD.VALUE (r.mirrorTop - 1)).wr REC.STATUS.NV_BAD (satU 16 r.mirrorBad)
/-- At POR the recorder starts from the mirror and the ageing history, in R364's order, and opens RECORDER_START (R364, R437); records of the mirror may
have a bad CRC, and the history's check may fail (`found`). Events that already wait are counted on. -/
def State.recorderPor (s : State) (found : StartFindings) : State :=
  let s := s.historyCheck found
  let r := s.recd
  let e : RecEvent :=
    { code := 0x0001, source := srcModule, stamp := s.dtime, merge := false, arrived := s.dtime,
      payload := le 4 (r.hist.start.pcycle + 1) ++ le 2 (newestRecords r.mirrorGood).length ++ le 2 r.mirrorBad ++ [b2n r.hist.start.clean] }
  (s.ringFill.recorderShow r).openRecord e false

end Sys2Proof.Machine
end

