-- ==== Sys2Proof/Machine/Access.lean ====
section
/-!
DEFINITION. Bus accesses: the address map (R279, R280), the access tables (R288), violations (R292), register reads with their
latches (R15), register writes by access type, lock and reserved encoding (R11, R12, R14), and the response.
-/
namespace Sys2Proof.Machine

/-- The target whose range holds an address (R279); the unmapped rest of target 9's range belongs to none. -/
def targetOf (a : Nat) : Option Nat :=
  if a < 0x1000000000 then some 0
  else if a < 0x1010000000 then some 1
  else if 0x1100000000 ≤ a ∧ a < 0x1102000000 then some 2
  else if 0x1200000000 ≤ a ∧ a < 0x1200400000 then some 3
  else if 0x1300000000 ≤ a ∧ a < 0x1300800000 then some 4
  else if 0x2000000000 ≤ a ∧ a < 0x2010000000 then some 5
  else if 0x2010000000 ≤ a ∧ a < 0x2020000000 then some 6
  else if 0x2020000000 ≤ a ∧ a < 0x2030000000 then some 7
  else if 0x2030000000 ≤ a ∧ a < 0x2030010000 then some 8
  else if 0x3000000000 ≤ a ∧ a < 0x3010000000 then some 9
  else if 0x3800000000 ≤ a ∧ a < 0x4000000000 then some 9
  else none
/-- The target whose range is nearest below an address (R280). -/
def nearestTarget (a : Nat) : Nat :=
  if a < 0x1000000000 then 0 else if a < 0x1100000000 then 1 else if a < 0x1200000000 then 2
  else if a < 0x1300000000 then 3 else if a < 0x2000000000 then 4 else if a < 0x2010000000 then 5
  else if a < 0x2020000000 then 6 else if a < 0x2030000000 then 7 else if a < 0x3000000000 then 8 else 9
/-- Register space is targets 5 to 8 (R9). -/
def isRegSpace (a : Nat) : Bool := decide (0x2000000000 ≤ a ∧ a < 0x2030010000)

/-- Violation types of AT.VIO_FIRST_INFO.TYPE. -/
def vioRead : Nat := 0
def vioWrite : Nat := 1
def vioSw : Nat := 2
def vioUnmapped : Nat := 3
def vioAlign : Nat := 4
def vioLocked : Nat := 5
def vioAtLocked : Nat := 6

/-- Base-2 logarithm of an access size, floor. -/
def log2Size (n : Nat) : Nat := if n ≤ 1 then 0 else if n < 4 then 1 else if n < 8 then 2 else if n < 16 then 3 else if n < 32 then 4 else if n < 64 then 5 else if n < 128 then 6 else 7

/-- What a target has logged in the present clock (R292). -/
def State.vioNow (s : State) (t : Nat) : VioH := let h := Tab.get {} s.vios t; if h.at_ = some s.dtime then h else {}
/-- What the violations of a clock have shown at a target. -/
def State.vioNote (s : State) (t : Nat) (h : VioH) : State := { s with vios := Tab.put {} s.vios t h }
/-- A violation is logged at the target nearest below its address and written to the recorder; of those of one clock the lowest master may become FIRST and the
highest becomes LATEST (R292). -/
def State.logViolation (s : State) (m a n type_ : Nat) : State :=
  let t := nearestTarget a
  let info := m % 64 + type_ * 64 + (log2Size n) * 1024
  let h := s.vioNow t
  let first := s.flag AT.VIO_STATUS.FIRST_VALID t = false ∨ h.first.any (fun x => decide (m < x)) = true
  let s := if first then
      ((((s.wr AT.VIO_FIRST_ADDR a t).wr AT.VIO_FIRST_INFO.MASTER m t).wr AT.VIO_FIRST_INFO.TYPE type_ t).wr AT.VIO_FIRST_INFO.SIZE
        (log2Size n) t).wr AT.VIO_FIRST_TIME s.dtime t |>.raise AT.VIO_STATUS.FIRST_VALID t
    else s
  let s := if m < h.hi then s else ((s.wr AT.VIO_LATEST_ADDR a t).wr AT.VIO_LATEST_INFO.INFO info t).wr AT.VIO_LATEST_TIME s.dtime t
  let s := s.vioNote t { at_ := some s.dtime, hi := max m h.hi, first := if first then some m else h.first }
  let s := s.incSat AT.VIO_STATUS.VIO_CNT t
  s.emitMerge 0x0803 (srcTarget t) (le 8 a ++ [m % 64, type_])
/-- An access that completes with an error response: a read returns 0 (R292). -/
def State.errResp (s : State) (n : Nat) : State := { s with resp := { err := true, data := List.replicate n 0 } }
/-- An access that completes without error, with the bytes read. -/
def State.okResp (s : State) (d : List Nat := []) : State := { s with resp := { err := false, data := d } }
/-- A violating access: logged, and answered with an error response. -/
def State.violate (s : State) (m a n type_ : Nat) : State := (s.logViolation m a n type_).errResp n

/-- Window `w` of master `m` at target `t` is in force, covers bytes `a` to `a + n − 1` and grants the attribute bits `need` (R288). -/
def State.windowGrants (s : State) (t m w a n need : Nat) : Bool :=
  let k := m * 16 + w
  let b := s.rd AT.WIN_BASE.BASE t k
  let l := s.rd AT.WIN_LIMIT.LIMIT t k
  let at_ := (s.reg (AT.WIN_ATTR.EN.addr t k)).toNat
  bit at_ 0 && decide (b ≤ l) && decide (b * 64 ≤ a) && decide (a + n ≤ l * 64 + 64) && (at_ &&& need) == need
/-- The lifecycle state that governs master 0x3F: a new one from the clock after the advance is complete (R370). -/
def State.debugLc (s : State) : Nat :=
  match s.sec.lcPrev with
  | some (t, st) => if s.dtime = t then st else s.rd SEC.LC.STATE
  | none => s.rd SEC.LC.STATE
/-- What the lifecycle leaves master 0x3F (R369): everything in PROVISION, nothing in SECURED before a debug unlock, nothing beyond. -/
def State.debugOpen (s : State) : Bool :=
  match s.debugLc with
  | 0 => true
  | 1 => s.flag SEC.LC.DBG_UNLOCKED
  | _ => false
/-- The master IDs that R18 assigns; any other matches no access-table entry. -/
def assignedMaster (m : Nat) : Bool :=
  decide (m ≤ 8) || decide (0x10 ≤ m ∧ m ≤ 0x19) || m == 0x20 || m == 0x28 || m == 0x30 || m == 0x31 || m == 0x3F
/-- One window of the master's table covers the access and grants it (R18, R288); the lifecycle governs master 0x3F besides (R369). -/
def State.permits (s : State) (t m a n need : Nat) : Bool :=
  assignedMaster m && (m != 0x3F || s.debugOpen) && (List.range 16).any fun w => s.windowGrants t m w a n need

/-- Whether every byte of an access lies where a target answers (R280): in a range, below MEM.TOP, on a register some block defines. -/
def State.mapped (s : State) (a n : Nat) : Bool :=
  match targetOf a, targetOf (a + n - 1) with
  | some t, some t' =>
    t == t' &&
    (if t = 0 then decide (a + n ≤ s.rd MEM.TOP) && !(s.flag MEM.STATUS.UNAVAIL)
     else if 5 ≤ t ∧ t ≤ 8 then (List.range ((a % 4 + n + 3) / 4)).all fun i => (findReg (a - a % 4 + 4 * i)).isSome
     else true)
  | _, _ => false

/-- The register at `a` needs SW for a write: it is marked "master 0x08 only in the default access table". -/
def needsSw (a : Nat) : Bool :=
  match findReg a with
  | some (r, _, _) => r.sw
  | none => false

/-- A write of `v` at `a` needs SW: the register is marked, or it is a system reset. -/
def swOf (a v : Nat) : Bool := needsSw a || (a == PWR.RST_CMD.SYS.base && bit v 0)
/-- The first check an access of `n` bytes fails, in R292's order; none where it is permitted. `sw` asks the SW right of a write; xSPI port 0 is
read-only (R412). -/
def State.checkAccess (s : State) (m a n : Nat) (write : Bool) (sw : Bool) : Option Nat :=
  if !(s.mapped a n) then some vioUnmapped
  else if isRegSpace a && (n != 4 || a % 4 != 0) then some vioAlign
  else
    let t := nearestTarget a
    if write then
      if !(s.permits t m a n 4) || decide (0x3000000000 ≤ a ∧ a < 0x3010000000) then some vioWrite
      else if sw && !(s.permits t m a n 12) then some vioSw
      else none
    else if s.permits t m a n 2 then none else some vioRead

/-- What a write found beside its own checks: nothing, a locked field it would change (R14), a locked access table (R289), or a
refusal answered with an error response but not logged as a violation. -/
inductive WErr where
  | ok | locked | atLocked | error
  deriving DecidableEq, Repr

/-- The module's state differs from `before`: the model's counter of free values is none of it, nor is the debug logic's own override (R391). -/
def State.changedFrom (s before : State) : Bool := decide ({ s with freeCtr := before.freeCtr, debugOverride := before.debugOverride } ≠ before)
/-- A debug override starts at the first write of master 0x3F that changes module state (R2), whichever part of the state it is. -/
def State.noteDebug (s : State) (before : State) (m : Nat) : State :=
  if m = 0x3F ∧ s.changedFrom before = true then { s with debugOverride := true, sec := { s.sec with override := true } } else s

/-- A register write of master `m`: the checks, then the register's own effect `fx`, then the response (R9, R14, R288, R289, R292). -/
def State.busWriteWith (s : State) (m a : Nat) (sw : Bool) (fx : State → State × WErr) : State :=
  match s.checkAccess m a 4 true sw with
  | some ty => s.violate m a 4 ty
  | none =>
    let r := fx s
    let s' := r.1.noteDebug s m
    match r.2 with
    | .ok => s'.okResp
    | .locked => s'.violate m a 4 vioLocked
    | .atLocked => s'.violate m a 4 vioAtLocked
    | .error => s'.errResp 4

/-! ### Register reads (R15) -/

/-- An axis reset lasts (R391): 64 ticks from its start, or waits for a crossbar switch (R393). -/
def State.inAxisReset (s : State) (n : Nat) : Bool :=
  s.pwr.axPend.contains n || (match Tab.get none s.pwr.axRst n with
    | some e => decide (s.dtime < e)
    | none => false)
/-- The bits of PWR.AXIS_RST: 1 while the axis's reset lasts. -/
def State.axRstBits (s : State) (from_ cnt : Nat) : Nat :=
  (List.range cnt).foldl (fun v i => setBit v i (s.inAxisReset (from_ + i))) 0
/-- The live value of the register at `a`; DT.TIME reads DEVICE TIME, PWR.AXIS_RST the resets that last. -/
def State.live (s : State) (a : Nat) : Nat :=
  if a = 0x2000040000 then s.dtime % 2 ^ 32
  else if a = 0x2000040004 then s.dtime / 2 ^ 32 % 2 ^ 32
  else if a = 0x20001F000C then s.axRstBits 0 32
  else if a = 0x20001F0010 then s.axRstBits 32 16
  else
    match findReg a with
    | some (r, _, _) => r.readMask (s.reg a).toNat
    | none => 0
/-- The key of a latch: master and register address. -/
def latchKey (m a : Nat) : Nat := m * 2 ^ 40 + a
/-- A latch of register `a` for master `m` is set. -/
def State.setLatch (s : State) (m a v : Nat) : State := { s with latches := Tab.put none s.latches (latchKey m a) (some v) }
/-- A group latch of register `a` for master `m` is set. -/
def State.setGLatch (s : State) (m a v : Nat) : State := { s with glatches := Tab.put none s.glatches (latchKey m a) (some v) }
/-- The registers of a group are latched for a master (R52, R78, R193). -/
def State.latchGroup (s : State) (m : Nat) (as_ : List Nat) : State := s.forEach as_ fun s a => s.setGLatch m a (s.live a)

/-- The group that a read of register `a` latches: TB.ANGLE_LO (R52), AX.PWM_ACT_PERIOD (R78), AX.OBS_EST_THETA (R193). -/
def groupOf (a : Nat) : List Nat :=
  if 0x2000050000 ≤ a ∧ a < 0x2000054000 ∧ a % 0x100 = 0x10 then [a + 4, a - 4, a + 8, a + 12]
  else if 0x2010000000 ≤ a ∧ a < 0x2010300000 ∧ a % 0x10000 = 0x24 then [a + 4, a + 8, a + 12, a + 16, a + 20, a + 24]
  else if 0x2010000000 ≤ a ∧ a < 0x2010300000 ∧ a % 0x10000 = 0x730 then [a + 4, a + 8, a + 12, a + 16, a + 20, a + 24]
  else []

/-- A permitted read of register `a` by master `m`: the value, from a latch or live, and the state with latches set or consumed (R15). -/
def State.readReg (s : State) (m a : Nat) : Nat × State :=
  let k := latchKey m a
  let grp := groupOf a
  if grp ≠ [] then (s.live a, s.latchGroup m grp)
  else
    match Tab.get none s.glatches k with
    | some v => (v, { s with glatches := Tab.put none s.glatches k none })
    | none =>
      match findReg a with
      | some (r, _, _) =>
        match r.kind with
        | .w32 => (s.live a, s)
        | .lo => (s.live a, s.setLatch m (a + 4) (s.live (a + 4)))
        | .hi =>
          match Tab.get none s.latches k with
          | some v => (v, { s with latches := Tab.put none s.latches k none })
          | none => (s.live a, s)
      | none => (0, s)

/-- A register read of master `m`: the checks, the value, the response. -/
def State.busRead (s : State) (m a : Nat) : State :=
  match s.checkAccess m a 4 false false with
  | some ty => s.violate m a 4 ty
  | none =>
    let r := s.readReg m a
    r.2.okResp (le 4 r.1)

/-! ### Register writes (R11 to R15) -/

/-- The word held for a _LO register. -/
def State.held (s : State) (a : Nat) : Nat := Tab.get 0 s.heldLo a
/-- A _LO write is held (R15). -/
def State.hold (s : State) (a v : Nat) : State := { s with heldLo := Tab.put 0 s.heldLo a v }
/-- The 64-bit value that a write of `v` to the _HI register at `a` makes take effect. -/
def State.pairValue (s : State) (a v : Nat) : Nat := s.held (a - 4) + v * 2 ^ 32

/-- A word written to one register by the field rules alone. -/
def State.writeFields (s : State) (a v : Nat) : State × WErr :=
  match findReg a with
  | none => (s, .ok)
  | some (r, i, _) =>
    let w := r.write (s.locked r i) (Tab.get 0 s.justSet a) (s.reg a).toNat v
    (s.setReg a (BitVec.ofNat 32 w.1), if w.2 then .locked else .ok)

/-- A write to a register that has no effect of its own: a _LO word is held, a _HI word makes the pair take effect, any other word
updates its fields (R11, R12, R14, R15). Each word of a pair is LOCKED by its own bits (R14), and a _LO word turned away is not held. -/
def State.writePlain (s : State) (a v : Nat) : State × WErr :=
  match findReg a with
  | none => (s, .ok)
  | some (r, _, _) =>
    match r.kind with
    | .w32 => s.writeFields a v
    | .lo => if (s.writeFields a v).2 = .locked then (s, .locked) else (s.hold a v, .ok)
    | .hi => (s.writeFields (a - 4) (s.held (a - 4))).1.writeFields a v

/-- A write of `v` at `a` would change a field that a LOCK bit protects (R14). -/
def State.lockedDiffers (s : State) (a v : Nat) : Bool :=
  match findReg a with
  | none => false
  | some (r, i, _) => (r.write (s.locked r i) 0 (s.reg a).toNat v).2
/-- A write that a register's own rules turn away: its fields stay, and it is LOCKED where it would change a locked field (R14), else answered as `e`. -/
def State.turnAway (s : State) (a v : Nat) (e : WErr) : State × WErr := (s, if s.lockedDiffers a v then .locked else e)

end Sys2Proof.Machine
end

