-- ==== Sys2Proof/Machine/LinkPort.lean ====
section
/-!
DEFINITION. Link ports as their users see them: a packet sent and kept for replay, a packet received, a retrain (R401, R403, R404).
-/
namespace Sys2Proof.Machine

/-- A link port beside its registers: 0 BRU, 1 BRD, 2 TWN. -/
def State.lnk (s : State) (p : Nat) : LnkH := Tab.get {} s.lnks p
def State.updLnk (s : State) (p : Nat) (f : LnkH → LnkH) : State := { s with lnks := Tab.put {} s.lnks p (f (s.lnk p)) }
/-- Packet types (R401). -/
def pkTime : Nat := 0
def pkEnum : Nat := 1
def pkWrite : Nat := 2
def pkRead : Nat := 3
def pkCompletion : Nat := 4
def pkPost : Nat := 5
def pkSafety : Nat := 6
def pkShadow : Nat := 7
def pkCopy : Nat := 8
def pkCompare : Nat := 9
/-- The class of a packet type on a port (R406). -/
def linkClass (p t : Nat) : Nat :=
  if p = 2 then (if t = pkSafety ∨ t = pkTime then 0 else if t = pkShadow then 1 else if t = pkCompare then 2 else 3)
  else if t = pkTime ∨ t = pkEnum then 0 else 3
/-- The packets of a class that are on the wire or next to go: the oldest 32 not acknowledged (R403). -/
def LnkH.window (h : LnkH) (c : Nat) : List PktH := (h.unacked.filter fun k => k.cls == c).take 32
/-- The packets of a port that have room in the replay window go on the wire; each is stamped as its first symbol leaves (R35, R403). -/
def State.linkFlush (s : State) (p : Nat) : State :=
  let now := s.dtime
  s.updLnk p fun h => { h with unacked := h.unacked.map fun k =>
    if !k.onWire && (h.window k.cls).any (fun w => w.seq == k.seq) then { k with onWire := true, stamp := now, sent := now } else k }
/-- A packet leaves a port that has link, or waits in the replay buffer of one that retrains; a port without link keeps nothing (R403, R404). -/
def State.linkSend (s : State) (p t status addr : Nat) (payload : List Nat) : State :=
  let up := s.flag LNK.STATUS.UP p
  if up || (s.lnk p).retraining then
    let c := linkClass p t
    let k : PktH := { type_ := t, cls := c, dst := s.rd LNK.STATUS.PEER_ID p, status := status, seq := Tab.get 0 (s.lnk p).tx c,
                      addr := addr, payload := payload }
    let s := s.updLnk p fun h => { h with tx := Tab.put 0 h.tx c ((k.seq + 1) % 2 ^ 32), unacked := h.unacked ++ [k] }
    if up then s.linkFlush p else s
  else s
/-- A received packet is refused (R401, R403): too short or of another length, a CRC that fails, a value that R401 reserves, a type not valid on the
port, a class that is not the type's, or a SEQ out of sequence. -/
def State.packetBad (s : State) (p : Nat) (b : List Nat) : Bool :=
  let f := fieldLE b
  let n := b.length
  let t := f 1 1
  let len := f 6 2
  n < 36 || decide (2048 < len) || len % 4 != 0 || n != 36 + len || f (n - 4) 4 != crc32c (b.take (n - 4))
    || f 0 1 != s.rd LNK.STATUS.VER_MAJOR p || decide (9 < t) || (decide (6 ≤ t) && p != 2) || (t == pkEnum && p == 2)
    || f 2 1 != linkClass p t || (if t = pkCompletion then decide (2 < f 5 1) else f 5 1 != 0) || f 0xC 4 != 0
    || (if t = pkPost then decide (1024 ≤ f 0x18 8) else t != pkWrite && t != pkRead && f 0x18 8 != 0)
    || f 8 4 != Tab.get 0 (s.lnk p).rx (linkClass p t)
/-- A packet of a type has arrived on a port in sequence: the SEQ expected of its class moves on (R403). -/
def State.linkRecv (s : State) (p t : Nat) : State :=
  let c := linkClass p t
  s.updLnk p fun h => { h with rx := Tab.put 0 h.rx c ((Tab.get 0 h.rx c + 1) % 2 ^ 32) }
/-- A packet of a lock-step pair leaves on the Twin link. -/
def State.twinSend (s : State) (t : Nat) (payload : List Nat) : State := if s.flag TWN.CFG.EN then s.linkSend 2 t 0 0 payload else s
/-- The LEAD sends the copy of a frame, or of its trigger alone, and counts it (R269). -/
def State.sendCopy (s : State) (what : List Nat) : State := (s.incWrap TWN.STATUS.COPY_CNT).twinSend pkCopy (Config.linkBytes pkCopy what)
/-- A port goes without link, keeping its replay contents, and trains again (R403, R404). -/
def State.linkDown (s : State) (p : Nat) : State :=
  let now := s.dtime
  let s := ((s.clear LNK.STATUS.UP p).wr LNK.STATUS.LANES 0 p).updLnk p fun h => { h with training := true, retraining := true, down := some (h.down.getD now) }
  if p = 2 then (s.clear TWN.STATUS.LINK_UP).clear TWN.STATUS.PAIRED else s
/-- A retrain of a port that has link (R403). -/
def State.linkRetrain (s : State) (p : Nat) : State := if s.flag LNK.STATUS.UP p then (s.incSat LNK.RETRAIN_CNT.CNT p).linkDown p else s

end Sys2Proof.Machine
end

