-- ==== Sys2Proof/Machine/Ecc.lean ====
section
/-!
DEFINITION. The error-correcting codes of memory: bits in error, what the codes correct and detect, error counts and logs, channel retirement, and
the reading and writing of code words (R281 to R287).
-/
namespace Sys2Proof.Machine

/-- SRC codes of MEM.UE_FIRST_INFO. -/
def ueRead : Nat := 0
def ueRmw : Nat := 1
def ueScrub : Nat := 2
/-- The channel that holds an address: the fixed hash over the usable channels, which the spec does not give (R281). -/
def State.channelOf (s : State) (a : Nat) : Nat :=
  let us := (List.range 16).filter fun k => s.rdBit MEM.STATUS.USABLE k
  us.getD (Config.chanHash (s.rd MEM.STATUS.USABLE) (a / 256) % us.length) 0

/-- A correctable error at an address: corrected, counted and shown (R283, R287). -/
def State.memCe (s : State) (a : Nat) : State :=
  match targetOf a with
  | some 0 => (s.incSat MEM.CH_CNT.CE 0 (s.channelOf a)).raise MEM.ECC_STATUS.CE
  | some t => if 1 ≤ t ∧ t ≤ 4 then (s.incSat MEM.SRAM_CNT.CE 0 (t - 1)).raise MEM.ECC_STATUS.SRAM_CE else s
  | none => s

/-- A channel whose count of uncorrectable errors reaches 16 is retired (R286). -/
def State.chRetire (s : State) (ch : Nat) : State := (s.wrBit MEM.CH_RETIRE.RETIRE ch true).emit 0x0802 (srcChannel ch)

/-- An uncorrectable error is counted, logged, recorded and raises its line (R284, R286, R287). -/
def State.memUe (s : State) (m a src : Nat) : State :=
  let t := nearestTarget a
  let ch := if t = 0 then s.channelOf a else 0
  let s := if t = 0 then
      let s := (s.incSat MEM.CH_CNT.UE 0 ch).raise MEM.ECC_STATUS.UE
      if s.rd MEM.CH_CNT.UE 0 ch = 16 then s.chRetire ch else s
    else (s.incSat MEM.SRAM_CNT.UE 0 (t - 1)).raise MEM.ECC_STATUS.SRAM_UE
  let info := m % 64 + t * 64 + src * 1024 + ch * 4096
  let s := if s.flag MEM.ECC_STATUS.FIRST_VALID then s else
    ((((((s.wr MEM.UE_FIRST_ADDR a).wr MEM.UE_FIRST_INFO.MASTER m).wr MEM.UE_FIRST_INFO.TARGET t).wr MEM.UE_FIRST_INFO.SRC src).wr
      MEM.UE_FIRST_INFO.CH ch).wr MEM.UE_FIRST_TIME s.dtime).raise MEM.ECC_STATUS.FIRST_VALID
  let s := ((s.wr MEM.UE_LATEST_ADDR a).wr MEM.UE_LATEST_INFO.INFO info).wr MEM.UE_LATEST_TIME s.dtime
  let s := s.raiseIrq (s.rd MEM.ECC_CTRL.IRQ)
  s.emit 0x0801 (if t = 0 then srcChannel ch else srcTarget t) (le 8 a ++ [m % 64, src])

/-- The bits of a code word: 512 of data and 32 of check, or 64 and 8. -/
def eccBits (u : Nat) : Nat := if u < 0x1000000000 then 544 else 72
/-- Memory that the code guards (R282, R287). -/
def eccGuards (a : Nat) : Bool :=
  match targetOf a with
  | some t => decide (t ≤ 4)
  | none => false
/-- One bit of the code word at an address turns over, where memory lies there. -/
def State.flipBit (s : State) (x : Nat × Nat) : State :=
  let k := (eccWord x.1, x.2 % eccBits x.1)
  if !(eccGuards x.1) then s
  else { s with flips := if s.flips.contains k then s.flips.filter (· ≠ k) else k :: s.flips }
/-- The symbols of a code word that stand in error: of 16 bits in LPDDR5X, single bits in the on-chip memories (R282, R287). -/
def State.eccSyms (s : State) (u : Nat) : List Nat :=
  ((s.flips.filter fun x => x.1 == u).map fun x => x.2 / (if u < 0x1000000000 then 16 else 1)).eraseDups
/-- The error of a code word can be corrected: it is confined to one symbol (R282, R287). -/
def State.isCe (s : State) (u : Nat) : Bool := (s.eccSyms u).length == 1
/-- The error of a code word cannot be corrected: it meets two symbols, or more (DEDUCED, assumption log 86: the spec states the detection of two). -/
def State.isUe (s : State) (u : Nat) : Bool := decide (2 ≤ (s.eccSyms u).length)
/-- A correctable error is met: the data come corrected, the block is written back, the error is counted (R283, R287). -/
def State.eccFix (s : State) (u : Nat) : State := { s.memCe u with flips := s.flips.filter fun x => x.1 != u }
/-- Code words are read for an access at `a` by master `m`: correctable errors are corrected up to the first word whose error cannot be, which is
logged with `src` and given (R283, R284). -/
def State.eccFind (s : State) (m a src : Nat) (us : List Nat) : State × Option Nat :=
  let t := s.forEach ((us.takeWhile fun u => !(s.isUe u)).filter s.isCe) State.eccFix
  match us.find? s.isUe with
  | some u => (t.memUe m (max u a) src, some u)
  | none => (t, none)
/-- Bytes that master `m` writes into memory: a word written in part is read, and refused with an error that cannot be corrected; a word written
whole takes new check bits (R282, R284, R285). The answer says whether they were written. -/
def State.memWrite (s : State) (m a : Nat) (d : List Nat) : State × Bool :=
  match s.eccFind m a ueRmw ((eccWords a d.length).filter fun u => decide (u < a ∨ a + d.length < u + eccSize u)) with
  | (s', some _) => (s', false)
  | (s', none) => ((s'.eccOver a d.length).writeMem a d, true)

end Sys2Proof.Machine
end

