-- ==== Sys2Proof/Machine/Queue.lean ====
section
/-!
DEFINITION. Hardware queues: descriptors, posts, takes, retires, credits and configuration (R205 to R208).
-/
namespace Sys2Proof.Machine

/-- A descriptor as its poster fills it (R208); the module writes STAMP and SEQ at the post. -/
structure Desc where
  type_ : Nat := 0
  src : Nat := 0
  ctx : Nat := 0xFF
  frame : Nat := 0
  addr : Nat := 0
  addr2 : Nat := 0
  len : Nat := 0
  param : Nat := 0
  user : List Nat := []
  deriving DecidableEq, Repr

/-- The 64 bytes of a descriptor (R208). -/
def Desc.bytes (d : Desc) (stamp seq : Nat) : List Nat :=
  [d.type_ % 256, d.src % 64, d.ctx % 256, 0] ++ le 4 d.frame ++ le 8 stamp ++ le 8 d.addr ++ le 8 d.addr2 ++ le 4 d.len ++ le 4 d.param
    ++ le 4 seq ++ slice d.user 0 20
/-- The descriptor that 64 bytes of a ring slot spell. -/
def Desc.ofBytes (b : List Nat) : Desc :=
  { type_ := fieldLE b 0 1, src := fieldLE b 1 1 % 64, ctx := fieldLE b 2 1, frame := fieldLE b 4 4, addr := fieldLE b 0x10 8,
    addr2 := fieldLE b 0x18 8, len := fieldLE b 0x20 4, param := fieldLE b 0x24 4, user := slice b 0x2C 20 }

/-- Slot `j` of queue `q`'s ring (R205). -/
def State.qSlotAddr (s : State) (q j : Nat) : Nat := s.rd Q.BASE q + j * 64
/-- The credits free to a post in this clock: those of retires in the same clock count from the next (R206). -/
def State.qFree (s : State) (q : Nat) : Nat :=
  let r := Tab.get (0, 0) s.qRetired q
  s.rd Q.CREDITS.CREDITS q - (if r.1 = s.dtime then r.2 else 0)
/-- CREDITS = DEPTH − (PROD − RET) (R205). -/
def State.qCredits (s : State) (q : Nat) : State :=
  s.wr Q.CREDITS.CREDITS (s.rd Q.CFG.DEPTH q - (s.rd Q.PROD.PROD q + 65536 - s.rd Q.RET.RET q) % 65536) q
/-- Descriptors posted and not taken; taken and not retired (R205). -/
def State.qPosted (s : State) (q : Nat) : Nat := (s.rd Q.PROD.PROD q + 65536 - s.rd Q.TAKE.TAKE q) % 65536
def State.qTaken (s : State) (q : Nat) : Nat := (s.rd Q.TAKE.TAKE q + 65536 - s.rd Q.RET.RET q) % 65536
/-- No descriptor is in the queue. -/
def State.qEmpty (s : State) (q : Nat) : Bool := s.rd Q.PROD.PROD q == s.rd Q.RET.RET q

/-- A position advances by one modulo DEPTH (R205). -/
def advSlot (depth j : Nat) : Nat := if j + 1 < depth then j + 1 else 0

/-- The index, the slot position and the counters of a queue move with a post (R205, R208). -/
def State.qPosted1 (s : State) (q : Nat) : State :=
  let j := s.rd Q.SLOTS.POST_SLOT q
  let s := s.incWrap Q.PROD.PROD q
  let s := s.wr Q.SLOTS.POST_SLOT (advSlot (s.rd Q.CFG.DEPTH q) j) q
  let s := s.incWrap Q.POSTS.SEQ q
  (s.wr Q.LAST_POST s.dtime q).qCredits q
/-- The address of the slot that the next post fills. -/
def State.qPostAddr (s : State) (q : Nat) : Nat := s.qSlotAddr q (s.rd Q.SLOTS.POST_SLOT q)
/-- One descriptor is posted: the next slot holds it with STAMP and SEQ (R205, R208). -/
def State.qPut (s : State) (q : Nat) (d : Desc) : State :=
  (s.memWrite d.src (s.qPostAddr q) (d.bytes s.dtime (s.rd Q.POSTS.SEQ q))).1.qPosted1 q

/-- One descriptor that master `m` wrote into the ring is posted: the module writes its STAMP and SEQ into the block (R208, R282). -/
def State.qPutSw (s : State) (m q : Nat) : State :=
  let a := s.qPostAddr q
  (((s.memWrite m (a + 8) (le 8 s.dtime)).1.memWrite m (a + 0x28) (le 4 (s.rd Q.POSTS.SEQ q))).1).qPosted1 q

/-- One posted descriptor is taken (R205). -/
def State.qTake1 (s : State) (q : Nat) : State :=
  let s := s.wr Q.SLOTS.TAKE_SLOT (advSlot (s.rd Q.CFG.DEPTH q) (s.rd Q.SLOTS.TAKE_SLOT q)) q
  s.incWrap Q.TAKE.TAKE q
/-- `n` taken descriptors are retired; their credits return (R205, R206). -/
def State.qRetireN (s : State) (q n : Nat) : State :=
  let r := Tab.get (0, 0) s.qRetired q
  let s := { s with qRetired := Tab.put (0, 0) s.qRetired q (s.dtime, n + (if r.1 = s.dtime then r.2 else 0)) }
  (s.incWrap Q.RET.RET q 0 n).qCredits q
/-- A state change repeated `n` times. -/
def State.times (s : State) : Nat → (State → State) → State
  | 0, _ => s
  | n + 1, f => (f s).times n f

/-- A post by a schedule slot, Babbitt, the DMA master, an Ethernet port or a partner link: dropped, counted and recorded where the
queue is disabled or holds no credit (R206). The answer says whether it was posted. -/
def State.qPostHw (s : State) (q : Nat) (d : Desc) : State × Bool :=
  if !(s.flag Q.CFG.EN q) then
    (((s.raise Q.STATUS.DISABLED q).incSat Q.STATUS.DROP_CNT q).emitMerge 0x0604 (srcQueue q) [d.src], false)
  else if s.qFree q = 0 then
    (((s.raise Q.STATUS.NO_CREDIT q).incSat Q.STATUS.DROP_CNT q).emitMerge 0x0604 (srcQueue q) [d.src], false)
  else (s.qPut q d, true)
/-- A thread or an engine can post to a queue now: it is enabled and a credit is free (R206). -/
def State.qCanPost (s : State) (q : Nat) : Bool := s.flag Q.CFG.EN q && decide (0 < s.qFree q)

/-- A software operation of Q.OP by master `m`: command 1 POST, 2 TAKE, 3 RETIRE, with its count (R206). -/
def State.qOp (s : State) (m q n cmd : Nat) : State :=
  if n = 0 ∨ cmd = 0 then s
  else if !(s.flag Q.CFG.EN q) then s.raise Q.STATUS.DISABLED q
  else if cmd = 1 then
    if s.qFree q < n then s.raise Q.STATUS.NO_CREDIT q else s.times n (fun s => s.qPutSw m q)
  else if cmd = 2 then
    if s.qPosted q < n then s.raise Q.STATUS.UNDERFLOW q else s.times n (fun s => s.qTake1 q)
  else if s.qTaken q < n then s.raise Q.STATUS.UNDERFLOW q else s.qRetireN q n

/-- The effect of a write of Q.CFG (R205, R206). -/
def State.fxQCfg (s : State) (q v : Nat) : State × WErr :=
  if !(s.qEmpty q) then (s.raise Q.STATUS.CFG_ERR q, .ok)
  else if bits v 13 1 = 0 then (s.raise Q.STATUS.CFG_ERR q, .error)
  else
    let r := s.writeFields (Q.CFG.EN.addr q) v
    let s := r.1
    let s := ((s.wr Q.PROD.PROD 0 q).wr Q.TAKE.TAKE 0 q).wr Q.RET.RET 0 q
    let s := ((s.wr Q.POSTS.SEQ 0 q).wr Q.SLOTS.POST_SLOT 0 q).wr Q.SLOTS.TAKE_SLOT 0 q
    (s.wr Q.CREDITS.CREDITS (s.rd Q.CFG.DEPTH q) q, r.2)
/-- The effect of a write of Q.BASE_HI (R205). -/
def State.fxQBaseHi (s : State) (q v : Nat) : State × WErr :=
  if !(s.qEmpty q) then (s.raise Q.STATUS.CFG_ERR q, .ok) else s.writePlain (Q.BASE.addr q + 4) v
/-- The effect of a write of Q.OP. -/
def State.fxQOp (s : State) (m q v : Nat) : State × WErr := (s.qOp m q (bits v 12 0) (bits v 14 13), .ok)

/-- Q_POST (R206): a software POST of `n` descriptors. -/
def execQPost (m : Fin 64) (q : Fin 1024) (n : Fin 8192) (s : State) : Host.Outcome State Fault Refusal :=
  .next (s.busWriteWith m (Q.OP.N.addr q) false fun s => s.fxQOp m q (n + 1 * 8192))
/-- Q_TAKE (R206): a software TAKE of `n` descriptors. -/
def execQTake (m : Fin 64) (q : Fin 1024) (n : Fin 8192) (s : State) : Host.Outcome State Fault Refusal :=
  .next (s.busWriteWith m (Q.OP.N.addr q) false fun s => s.fxQOp m q (n + 2 * 8192))
/-- Q_RETIRE (R206): a software RETIRE of `n` descriptors. -/
def execQRetire (m : Fin 64) (q : Fin 1024) (n : Fin 8192) (s : State) : Host.Outcome State Fault Refusal :=
  .next (s.busWriteWith m (Q.OP.N.addr q) false fun s => s.fxQOp m q (n + 3 * 8192))
/-- Q_CFG_WRITE (R205): a write of Q.CFG. -/
def execQCfgWrite (m : Fin 64) (q : Fin 1024) (v : Word) (s : State) : Host.Outcome State Fault Refusal :=
  .next (s.busWriteWith m (Q.CFG.EN.addr q) false fun s => s.fxQCfg q v.toNat)
/-- Q_BASE_WRITE (R205): a write of Q.BASE_HI. -/
def execQBaseWrite (m : Fin 64) (q : Fin 1024) (v : Word) (s : State) : Host.Outcome State Fault Refusal :=
  .next (s.busWriteWith m (Q.BASE.addr q + 4) false fun s => s.fxQBaseHi q v.toNat)

end Sys2Proof.Machine
end

