-- ==== Sys2Proof/Machine/Memory.lean ====
section
/-!
DEFINITION. Reads and writes of a master that span blocks, checked by the access tables and the error-correcting codes (R283 to R289).
-/
namespace Sys2Proof.Machine

/-- What an access of many blocks gives: its data, a violation, or an uncorrectable error with the data before it. -/
inductive MemRes where
  | ok (data : List Nat)
  | vio
  | ue (before : List Nat)
  deriving DecidableEq, Repr
/-- The access went through. -/
def MemRes.good : MemRes → Bool
  | .ok _ => true
  | _ => false

/-- A byte range cut at 64-byte boundaries: start and length of each piece. -/
def pieces (a n : Nat) : List (Nat × Nat) :=
  if n = 0 then [] else
  (List.range ((a + n - 1) / 64 + 1 - a / 64)).map fun k =>
    let lo := max a ((a / 64 + k) * 64)
    (lo, min (a + n) ((a / 64 + k + 1) * 64) - lo)

/-- The violation by which a permitted register write is turned away: a locked access table (R289), a locked field that would change (R14). -/
def State.lockVio (s : State) (a v : Nat) : Option Nat :=
  if 0x2000100000 ≤ a ∧ a < 0x20001A0000 ∧ 0x1000 ≤ a % 0x10000 ∧ a % 0x10000 < 0x5000 ∧ s.flag AT.CTRL.LOCK ((a - 0x2000100000) / 0x10000) = true
  then some vioAtLocked
  else if s.lockedDiffers a v then some vioLocked else none
/-- The effect of a write of an access-table window (R289). -/
def State.fxAtWin (s : State) (t a v : Nat) : State × WErr := if s.flag AT.CTRL.LOCK t then (s, .atLocked) else s.writeFields a v
/-- A register write is posted: it takes effect at the next clock. -/
def State.post (s : State) (m a v : Nat) : State := { s with posted := s.posted ++ [(m, a, v)] }
/-- How a register write of a thread or of DMA ended. -/
def MemRes.ofErr (e : WErr) : MemRes := if e = .ok then .ok [] else .vio
/-- A write of one register by a thread or by DMA (R14): queue registers and the access tables (R289) act at once, every other register at the
next clock, with all its effects (the model's choice, assumption log 42); a locked field is turned away now. -/
def State.regWrite (s : State) (m a v : Nat) : State × MemRes :=
  if 0x2030000000 ≤ a ∧ a < 0x2030010000 then
    let q := (a - 0x2030000000) / 0x40
    let r := match a % 0x40 with
      | 0 => s.fxQCfg q v
      | 8 => s.fxQBaseHi q v
      | 0x1C => s.fxQOp m q v
      | _ => s.writePlain a v
    (r.1, MemRes.ofErr r.2)
  else
    match s.lockVio a v with
    | some ty => ((s.logViolation m a 4 ty).post m a v, .vio)
    | none =>
      if 0x2000100000 ≤ a ∧ a < 0x20001A0000 then ((if 0x1000 ≤ a % 0x10000 then s.fxAtWin ((a - 0x2000100000) / 0x10000) a v else s.writePlain a v).1, .ok [])
      else (s.post m a v, .ok [])

/-- One piece read by a master: the bytes before a word that holds an uncorrectable error are given with that answer (R284, R288). -/
def State.readPiece (s : State) (m a n : Nat) : State × MemRes :=
  match s.checkAccess m a n false false with
  | some ty => (s.logViolation m a n ty, .vio)
  | none =>
    if isRegSpace a then let r := s.readReg m a; (r.2, .ok (le 4 r.1))
    else
      match s.eccFind m a ueRead (eccWords a n) with
      | (s', some u) => (s', .ue (s'.readMem a (u - a)))
      | (s', none) => (s', .ok (s'.readMem a n))
/-- One piece written by a master: a partial write of a word that holds an uncorrectable error is refused; a full one ends the error (R284, R285). -/
def State.writePiece (s : State) (m a : Nat) (d : List Nat) : State × MemRes :=
  match s.checkAccess m a d.length true (swOf a (ofLE d)) with
  | some ty => (s.logViolation m a d.length ty, .vio)
  | none =>
    if isRegSpace a then s.regWrite m a (ofLE d)
    else let r := s.memWrite m a d; (r.1, if r.2 then .ok [] else .ue [])

/-- Pieces read in order, up to the first that fails. -/
def State.readPieces (s : State) (m : Nat) (acc : List Nat) : List (Nat × Nat) → State × MemRes
  | [] => (s, .ok acc)
  | p :: t =>
    match s.readPiece m p.1 p.2 with
    | (s', .ok d) => s'.readPieces m (acc ++ d) t
    | (s', .vio) => (s', .vio)
    | (s', .ue d) => (s', .ue (acc ++ d))
/-- A range read by a master. -/
def State.masterRead (s : State) (m a n : Nat) : State × MemRes := s.readPieces m [] (pieces a n)
/-- A range that a whole operation reads: where a piece of it is not permitted, the first such piece is logged and nothing is read (R204, R292). -/
def State.rangeRead (s : State) (m a n : Nat) : State × MemRes :=
  match (pieces a n).find? fun p => (s.checkAccess m p.1 p.2 false false).isSome with
  | some p => (s.logViolation m p.1 p.2 ((s.checkAccess m p.1 p.2 false false).getD 0), .vio)
  | none => s.masterRead m a n
/-- The descriptor at the take slot of a queue, as its consumer `m` reads it; none where the read fails. -/
def State.qFetch (s : State) (m q : Nat) : State × Option (List Nat) :=
  match s.masterRead m (s.qSlotAddr q (s.rd Q.SLOTS.TAKE_SLOT q)) 64 with
  | (s', .ok b) => (s', some b)
  | (s', _) => (s', none)
/-- Pieces written in order, up to the first that fails. -/
def State.writePieces (s : State) (m : Nat) : List Nat → List (Nat × Nat) → State × MemRes
  | _, [] => (s, .ok [])
  | d, p :: t =>
    match s.writePiece m p.1 (d.take p.2) with
    | (s', .ok _) => s'.writePieces m (d.drop p.2) t
    | (s', r) => (s', r)
/-- A byte string written by a master. -/
def State.masterWrite (s : State) (m a : Nat) (d : List Nat) : State × MemRes := s.writePieces m d (pieces a d.length)

end Sys2Proof.Machine
end

