-- ==== Sys2Proof/Machine/BabRing.lean ====
section
/-!
DEFINITION. Babbitt's angle resampling: ring points of an input at each timebase update, their values in the ring in memory when the
samples around them have arrived, restarts (R241 to R244).
-/
namespace Sys2Proof.Machine

/-- An input's state beside its registers. -/
def State.bi (s : State) (v : Nat) : BabInH := Tab.get {} s.babIns v
/-- An input's state changed. -/
def State.updBi (s : State) (v : Nat) (f : BabInH → BabInH) : State := { s with babIns := Tab.put {} s.babIns v (f (s.bi v)) }
/-- The sample period of an input in ticks: 1,250, or 625 while its channel pairs (R242). -/
def State.babTin (s : State) (v : Nat) : Nat := if s.flag MF.VIB_CFG.PAIR v then 625 else 1250
/-- Input `2k + 1` of a pair is not an input of its own. -/
def State.babLive (s : State) (v : Nat) : Bool := s.flag BAB.IN_CFG.EN v
/-- An enabled input is processed: in RUN only, since Babbitt's clock stands in every other power state (R394). -/
def State.babRuns (s : State) (v : Nat) : Bool := s.babLive v && s.rd PWR.STATE.STATE == 0

/-- The family of a point (R242, step 2): the smallest j up to MAXJ with 2^−j ≤ 1.25 ρ, else MAXJ with the cap reached. -/
def famOf (ppr dA dS tin maxj : Nat) : Nat × Bool :=
  match (List.range (maxj + 1)).find? fun j => decide (4 * dS * 2 ^ 24 ≤ 5 * ppr * dA * tin * 2 ^ j) with
  | some j => (j, false)
  | none => (maxj, true)

/-- The points φ_m with a_i < φ_m ≤ a_{i+1} between two timebase updates (R242, step 1), oldest first. -/
def babPoints (pprL maxj tin : Nat) (s0 : Nat) (a0 : Int) (s1 : Nat) (a1 : Int) (flags : Nat → Nat) : List BabPt :=
  let unit : Int := ((2 ^ (24 - pprL) : Nat) : Int)
  let m0 := a0 / unit
  let n := ((a1 / unit) - m0).toNat
  let dA := (a1 - a0).toNat
  let dS := s1 - s0
  let f := famOf (2 ^ pprL) dA dS tin maxj
  (List.range n).map fun (k : Nat) =>
    let m : Int := m0 + 1 + (k : Int)
    let tm := s0 * 256 + (rne ((m * unit - a0) * (dS * 256 : Nat)) (dA : Int)).toNat
    { m := m, tm := tm, fam := f.1, capped := f.2, flags := flags tm }

/-- IFLAGS bits (R251). -/
def ifInvalid : Nat := 1
def ifShort : Nat := 2
def ifNoAngle : Nat := 4
def ifSrcAlt : Nat := 8
def ifUncal : Nat := 16
def ifOver : Nat := 32
def ifReversal : Nat := 64
def ifDiscont : Nat := 128

/-- The largest window that enabled contexts ask of input `v`, in points (IN_STATUS.STATE READY). -/
def State.babNeed (s : State) (v : Nat) : Nat :=
  (List.range 64).foldl (fun n c =>
    if s.flag BAB.CTX_CFG.EN c && bit (s.rd BAB.CTX_IN.VALUE c) v then max n (2 ^ (s.rd BAB.CTX_CFG.REVS_L c + s.rd BAB.IN_CFG.PPR_L v)) else n) 0
/-- IN_STATUS.STATE follows the ring. -/
def State.babShow (s : State) (v : Nat) : State :=
  if !(s.flag BAB.IN_CFG.EN v) then s.wr BAB.IN_STATUS.STATE 0 v
  else s.wr BAB.IN_STATUS.STATE (if s.babNeed v ≤ (s.bi v).ring.length ∧ (s.bi v).ring ≠ [] then 2 else 1) v

/-- A restart of an input's ring: it holds no points until the next φ_m (R244). -/
def State.babRestart (s : State) (v : Nat) : State :=
  ((s.updBi v fun h => { h with wait := [], ring := [], top := none, paused := false, disc := false, marks := [] }).incWrap
    BAB.IN_STATUS.RESTART_CNT v).babShow v

/-! ### The ring in memory (R241) -/

/-- Bytes of a point in the ring: its value, and the envelope point after it (IN_RING). -/
def State.babPtSize (s : State) (v : Nat) : Nat := if s.flag BAB.IN_CFG.ENV v then 8 else 4
/-- Where point `m` of an input lies: slot m modulo 2^RL of its ring (DESIGN CHOICE, assumption log 56). -/
def State.babPtAddr (s : State) (v : Nat) (m : Int) : Nat :=
  s.rd BAB.RING_BASE + s.rd BAB.IN_RING.OFS v + (m % ((2 ^ s.rd BAB.IN_CFG.RL v : Nat) : Int)).toNat * s.babPtSize v
/-- A point's values go into the ring under master 0x18. -/
def State.babStore (s : State) (v : Nat) (p : BabPt) : State :=
  (s.masterWrite 0x18 (s.babPtAddr v p.m) (le 4 p.val ++ if s.flag BAB.IN_CFG.ENV v then le 4 p.env else [])).1
/-- The values of points (oldest first) read from the ring under master 0x18, and whether an uncorrectable error was met (R284); what the
access tables refuse reads as 0 (R292). -/
def State.babLoad (s : State) (v : Nat) : List BabPt → State × List BabPt × Bool
  | [] => (s, [], false)
  | p :: t =>
    let r := s.masterRead 0x18 (s.babPtAddr v p.m) (s.babPtSize v)
    let d := match r.2 with
      | .ok d => d
      | _ => []
    let ue := match r.2 with
      | .ue _ => true
      | _ => false
    if ue then (r.1, [], true) else
    let rest := r.1.babLoad v t
    (rest.1, { p with val := fieldLE d 0 4, env := fieldLE d 4 4 } :: rest.2.1, rest.2.2)

/-- How far in ticks the half-band stages and the 16-tap kernel of a family reach beside a point (R242): 8 samples of the family, and 15 of
each stage's input. -/
def babReach (fam tin : Nat) : Nat := (8 * 2 ^ fam + 15 * (2 ^ fam - 1)) * tin
/-- A waiting point's value from the samples within reach (R242, step 3; R243): the phase is the place of t_m, in 1/256 rounded down, between the
stamps of its family, the multiples of 2^j sample periods (DESIGN CHOICE, assumption log 55). The fixed taps are not given: free functions. -/
def babValue (h : BabInH) (tin : Nat) (p : BabPt) : BabPt :=
  let st := 2 ^ p.fam * tin
  let t0 := p.tm / 256 / st * st
  let phase := (p.tm - t0 * 256) / st
  let near := h.samples.filter fun x => decide (x.stamp ≤ t0 + babReach p.fam tin ∧ t0 ≤ x.stamp + babReach p.fam tin)
  { p with val := f32Fin (Config.babValue (near.map fun x => ((x.stamp : Int) - t0, x.code)) p.fam phase),
           env := f32Fin (Config.babEnvelope (near.map fun x => ((x.stamp : Int) - t0, x.sq)) p.fam phase) }
/-- Points whose samples have arrived enter the ring, oldest first (R241). -/
def State.babResolve (s : State) (v : Nat) : State :=
  let h := s.bi v
  let newest := match h.samples with
    | [] => 0
    | x :: _ => x.stamp
  let tin := s.babTin v
  let rdy := h.wait.takeWhile fun p => decide (p.tm + babReach p.fam tin * 256 ≤ newest * 256)
  if rdy = [] then s else
  let pts := rdy.map (babValue h tin)
  let size := 2 ^ s.rd BAB.IN_CFG.RL v
  let s := s.forEach pts fun s p => s.babStore v p
  let s := s.updBi v fun h =>
    let ring := (pts.reverse ++ h.ring).take size
    let oldest := (ring.getLast?.map (·.tm)).getD 0
    { h with wait := h.wait.drop rdy.length, ring := ring, marks := h.marks.filter fun k => decide (oldest ≤ k.1 * 256) }
  let s := match pts.getLast? with
    | some p => s.wrS BAB.IN_POS (p.m * ((2 ^ (24 - s.rd BAB.IN_CFG.PPR_L v) : Nat) : Int)) v
    | none => s
  s.babShow v

/-- IFLAGS SRC_ALT of an instant (1/256 tick): its timebase was in FALLBACK or HOLD then (R251). -/
def State.babAlt (s : State) (t tm : Nat) : Nat :=
  let st := s.tbStateThen t (tm / 256)
  if st = tbFallback ∨ st = tbHold then ifSrcAlt else 0
/-- A timebase update seen by input `v`: points passed going forward wait for their samples; while the angle decreases the ring
pauses at the highest point reached; a point at the family cap counts in ALIAS (R241, R242). -/
def State.babInUpdate (s : State) (v t : Nat) (s0 : Nat) (a0 : Int) (s1 : Nat) (a1 : Int) (big : Bool) : State :=
  let h := s.bi v
  let disc := h.disc || big
  if a1 ≤ a0 ∨ s1 ≤ s0 then s.updBi v fun h => { h with paused := h.paused || decide (a1 < a0), disc := disc }
  else
    let pts := babPoints (s.rd BAB.IN_CFG.PPR_L v) (s.rd BAB.IN_CFG.MAXJ v) (s.babTin v) s0 a0 s1 a1 (s.babAlt t)
    let pts := match h.top with
      | none => pts
      | some t => pts.filter fun p => decide (t < p.m)
    match pts with
    | [] => s.updBi v fun h => { h with disc := disc }
    | p :: t =>
      let mark := (if h.paused then ifReversal else 0) ||| (if disc then ifDiscont else 0)
      let pts := { p with flags := p.flags ||| mark } :: t
      let top := (pts.getLast?.map (·.m)).getD p.m
      let n := (pts.filter (·.capped)).length
      ((s.updBi v fun h => { h with wait := h.wait ++ pts, top := some top, paused := false, disc := false, alias_ := h.alias_ + n }).raiseIf
        (decide (0 < n)) BAB.IN_STATUS.ALIAS v).babResolve v

/-- Every enabled input of a timebase sees its update. -/
def State.babTbUpdate (s : State) (t : Nat) (s0 : Nat) (a0 : Int) (s1 : Nat) (a1 : Int) (big : Bool) : State :=
  s.forEach (List.range 32) fun s v =>
    if s.babRuns v && s.rd BAB.IN_CFG.TB v == t then s.babInUpdate v t s0 a0 s1 a1 big else s
/-- A timebase that enters LOST or OFF restarts the rings of its inputs (R244). -/
def State.babTbLost (s : State) (t : Nat) : State :=
  s.forEach (List.range 32) fun s v => if s.babLive v && s.rd BAB.IN_CFG.TB v == t then s.babRestart v else s
/-- The earliest sample that a point still to come can ask for (R242): a reach before the last update of the input's timebase, or before the oldest
point that waits. -/
def State.babFrom (s : State) (v newest : Nat) : Nat :=
  let tb := s.tb (s.rd BAB.IN_CFG.TB v)
  let upd := if tb.live then min ((tb.words.head?.map (·.1)).getD newest) newest else newest
  ((s.bi v).wait.foldl (fun m p => min m (p.tm / 256)) upd) - 2 * babReach (s.rd BAB.IN_CFG.MAXJ v) (s.babTin v)
/-- A vibration sample reaches its input, with the band-pass run on where the envelope path is enabled (R241, R243, R251). -/
def State.babSample (s : State) (v stamp : Nat) (code : Int) (uncal ovr : Bool) : State :=
  if s.babRuns v then
    let fl := (if uncal then ifUncal else 0) ||| (if ovr then ifOver else 0)
    let env := s.flag BAB.IN_CFG.ENV v
    let lo := s.rd BAB.IN_BAND.LO v
    let hi := s.rd BAB.IN_BAND.HI v
    let tin := s.babTin v
    let lim := s.babFrom v stamp
    (s.updBi v fun h =>
      let y := floatValue 7 (Config.bandOut lo hi tin h.bp code % 2 ^ 32)
      { h with samples := ({ stamp := stamp, code := code, sq := if env then (toFloat 7 (y.mul y)).code else 0 } :: h.samples).takeWhile fun x => decide (lim ≤ x.stamp),
               bp := if env then Config.bandState lo hi tin h.bp code else h.bp,
               marks := if fl = 0 then h.marks else (stamp, fl) :: h.marks }).babResolve v
  else s

end Sys2Proof.Machine
end

