-- ==== Sys2Proof/Machine/BabFrame.lean ====
section
/-!
DEFINITION. The closing of Babbitt's frames: windows, products, headers, indicators, the frame's bytes as they stand at the firing, and the closes that
wait to be posted (R245 to R251, R253, R254).
-/
namespace Sys2Proof.Machine

/-- The next multiple of 64. -/
def up64 (n : Nat) : Nat := (n + 63) / 64 * 64
/-- LAG by MAXJ (R246). -/
def lagOf (maxj : Nat) : Nat := [24000, 52000, 110000, 225000, 455000, 915000].getD maxj 915000
/-- The inputs of a context, ascending. -/
def State.babInputs (s : State) (c : Nat) : List Nat := (List.range 32).filter fun v => bit (s.rd BAB.CTX_IN.VALUE c) v
/-- The FP32 values of each product of an input: SA, SAS, OS, ENV (R247). -/
def prodLen (pprL envL revsL : Nat) : List Nat := [2 ^ pprL, 2 ^ pprL / 2 + 1, 2 ^ (pprL + revsL) / 2 + 1, 2 ^ (envL + revsL) / 2 + 1]
/-- The bytes of a context's frame (R250). -/
def State.babLayout (s : State) (c : Nat) : Nat :=
  let ins := s.babInputs c
  let prod := s.rd BAB.CTX_CFG.PROD c
  let body := ins.foldl (fun n v =>
    let l := prodLen (s.rd BAB.IN_CFG.PPR_L v) (s.rd BAB.IN_CFG.ENV_PPR_L v) (s.rd BAB.CTX_CFG.REVS_L c)
    (List.range 4).foldl (fun n k => if bit prod k then n + up64 (4 * l.getD k 0) else n) n) 0
  64 + up64 (48 * ins.length) + body + 64 * s.rd BAB.CTX_CFG.DEF_N c

/-- What a close computes for one input: flags, the window oldest first, φ_end in points, capped points, the envelope points at ENV_PPR. -/
structure BabWin where
  ch : Nat := 0
  iflags : Nat := 0
  win : List BabPt := []
  env : List Nat := []
  mEnd : Int := 0
  alias_ : Nat := 0
  deriving DecidableEq, Repr
/-- The envelope points of a window that ends D_E points before φ_end (R243, R246): k half-band stages reach D_E points of PPR to each side; the
points kept are those whose index is a multiple of 2^k (DESIGN CHOICE, assumption log 55). `pts` are ring points, oldest first. -/
def envPoints (pts : List BabPt) (mEnd : Int) (n k : Nat) : List Nat :=
  let dE := 15 * (2 ^ k - 1)
  let st : Int := ((2 ^ k : Nat) : Int)
  let m0 : Int := -((-(mEnd - dE - n)) / st) * st
  (List.range (n / 2 ^ k)).map fun (i : Nat) =>
    let m := m0 + (i : Int) * st
    let near := (pts.filter fun p => decide (absI (p.m - m) ≤ (dE : Int))).map fun p => (p.m - m, p.env)
    if k = 0 then (near.head?.map (·.2)).getD 0 else Config.envPoint near k % 2 ^ 32
/-- φ_end in points of an input for a close that fired at `at_`: its timebase's angle at T − LAG, rounded down (R246). -/
def State.babEnd (s : State) (v at_ : Nat) : Int :=
  s.tbAngleThen (s.rd BAB.IN_CFG.TB v) (at_ - lagOf (s.rd BAB.IN_CFG.MAXJ v)) / ((2 ^ (24 - s.rd BAB.IN_CFG.PPR_L v) : Nat) : Int)
/-- The timebase of an input was LOST or OFF at an instant (R251). -/
def State.babNoAngle (s : State) (v te : Nat) : Bool :=
  let st := s.tbStateThen (s.rd BAB.IN_CFG.TB v) te
  st == tbOff || st == tbLost
/-- The window of an input at a close of context `c` that fired at `at_`, its points read from the ring (R241, R246, R251): the N points
before φ_end; where the ring does not hold them all the input is SHORT (DESIGN CHOICE, assumption log 55, where points of it have yet to come). The
answer says whether an uncorrectable error was met. -/
def State.babWindow (s : State) (c at_ v : Nat) : State × BabWin × Bool :=
  let pprL := s.rd BAB.IN_CFG.PPR_L v
  let n : Nat := 2 ^ (s.rd BAB.CTX_CFG.REVS_L c + pprL)
  let k := pprL - s.rd BAB.IN_CFG.ENV_PPR_L v
  let te := at_ - lagOf (s.rd BAB.IN_CFG.MAXJ v)
  let h := s.bi v
  let mEnd := s.babEnd v at_
  let past := h.ring.dropWhile fun p => decide (mEnd ≤ p.m)
  let raw := (past.takeWhile fun p => decide (mEnd - (n : Int) ≤ p.m)).reverse
  let short := decide (raw.length < n)
  let noAngle := s.babNoAngle v te
  let fl := raw.foldl (fun f p => f ||| p.flags) 0
  let from_ := (raw.head?.map (·.tm)).getD 0
  let until_ := ((h.ring.takeWhile fun p => decide (mEnd ≤ p.m)).getLast?.map (·.tm)).getD (te * 256)
  let fl := h.marks.foldl (fun f x => if from_ ≤ x.1 * 256 ∧ x.1 * 256 < until_ then f ||| x.2 else f) fl
  let w : BabWin := { ch := v, mEnd := mEnd, alias_ := (raw.filter (·.capped)).length,
                      iflags := b2n (short || noAngle) + 2 * b2n short + 4 * b2n noAngle + bits fl 7 3 * 8 }
  if short || noAngle then (s, w, false) else
  let r := s.babLoad v (past.take (n + if s.flag BAB.IN_CFG.ENV v then 2 * (15 * (2 ^ k - 1)) else 0)).reverse
  if r.2.2 then (r.1, w, true) else
  (r.1, { w with win := r.2.1.drop (r.2.1.length - n), env := if s.flag BAB.IN_CFG.ENV v then envPoints r.2.1 mEnd n k else [] }, false)
/-- The windows of a close's inputs in ascending channel order, and whether one met an uncorrectable error (R284). -/
def State.babWindows (s : State) (c at_ : Nat) : List Nat → State × List BabWin × Bool
  | [] => (s, [], false)
  | v :: t =>
    let r := s.babWindow c at_ v
    let rest := r.1.babWindows c at_ t
    (rest.1, r.2.1 :: rest.2.1, r.2.2 || rest.2.2)
/-- A window is valid. -/
def BabWin.ok (w : BabWin) : Bool := w.iflags % 2 == 0
/-- The FP32 codes of product `k` of an input, 0 SA, 1 SAS, 2 OS, 3 ENV (R247); +0 where the input is invalid (R251). -/
def babProd (w : BabWin) (pprL envL revsL k len : Nat) : List Nat :=
  if !w.ok then List.replicate len 0 else
  let xs := w.win.map (·.val)
  let sa := babSa xs (w.mEnd - xs.length) (2 ^ pprL)
  match k with
  | 0 => sa
  | 1 => spectrum false pprL sa
  | 2 => spectrum true (pprL + revsL) xs
  | _ => spectrum true (envL + revsL) w.env
/-- FP32 codes as bytes, padded to 64. -/
def f32Pad (l : List Nat) : List Nat := let b := l.flatMap (le 4); b ++ List.replicate (up64 b.length - b.length) 0
/-- The 48-byte header of an input (R250), with the scalars of R247. -/
def State.babInHeader (s : State) (w : BabWin) : List Nat :=
  let pprL := s.rd BAB.IN_CFG.PPR_L w.ch
  let vals := w.win.map (·.val)
  let n := s.rd BAB.IN_CFG.AXIS w.ch
  let q (x : Int) (d : Nat) : Nat := (toFloat 7 (.fin (decide (x < 0)) x.natAbs d)).code
  let tail := if n < 48 then [q (s.rdS AX.OBS_EST_T.T_W n) 64, q (s.rdS AX.OBS_EST_T.T_B n) 64, q (s.rdS AX.OBS_EST_LOAD.LOAD n) 32768] else [0, 0, 0]
  let t0 := (w.win.head?.map (·.tm)).getD 0
  let t1 := (w.win.getLast?.map (·.tm)).getD 0
  let sc := if w.ok then
      [babMeanSpeed t0 t1 vals.length (2 ^ pprL), babRms vals, babPeak vals, babKurt vals (w.mEnd - vals.length) (2 ^ pprL)] ++ tail
    else List.replicate 7 0
  [w.ch, 0] ++ le 2 w.iflags ++ le 4 w.alias_ ++ le 8 (ofS 64 (w.mEnd * ((2 ^ (24 - pprL) : Nat) : Int))) ++ sc.flatMap (le 4) ++ [0, 0, 0, 0]
/-- The peak of a spectrum around a frequency in Q16.16 of its bins: the largest value of the bins that exist, 0 if none (R249). -/
def pkOf (spec : List Nat) (f : Int) (tol : Nat) : FV :=
  let b := rne f 65536
  (List.range (2 * tol + 1)).foldl (fun m (k : Nat) =>
    let j : Int := b - (tol : Int) + (k : Int)
    if 0 ≤ j ∧ j < spec.length then let v := floatValue 7 (spec.getD j.toNat 0); if m.lt v then v else m else m) FV.zero
/-- The indicator block of a defect entry (R249). -/
def indicator (d : List Nat) (spec : List Nat) (revs : Nat) : List Nat :=
  let ty := fieldLE d 0 1
  let mult := if ty ≤ 1 then 1 else revs
  let tol := if ty ≤ 1 then 0 else fieldLE d 12 2
  let order := fieldLE d 4 4 * mult
  let sb := fieldLE d 8 4 * mult
  let harm := fieldLE d 2 1
  let one (h : Nat) : FV × FV :=
    if harm < h then (.zero, .zero) else
    let f : Int := ((h * order : Nat) : Int)
    (pkOf spec f tol, (List.range (fieldLE d 3 1)).foldl (fun a k =>
      let s : Int := (((k + 1) * sb : Nat) : Int)
      (a.add ((pkOf spec (f - s) tol).add (pkOf spec (f + s) tol)).r32.v).r32.v) .zero)
  let l := (List.range 8).map fun k => one (k + 1)
  (l.map fun x => (toFloat 7 x.1).code).flatMap (le 4) ++ (l.map fun x => (toFloat 7 x.2).code).flatMap (le 4)
/-- The bytes of a frame (R250). -/
def State.babFrame (s : State) (c frame at_ : Nat) (late : Bool) (ws : List BabWin) : List Nat :=
  let revsL := s.rd BAB.CTX_CFG.REVS_L c
  let prod := s.rd BAB.CTX_CFG.PROD c
  let maxLag := ws.foldl (fun m w => max m (lagOf (s.rd BAB.IN_CFG.MAXJ w.ch))) 0
  let none_ := ws.all fun w => !w.ok
  let hdr := le 4 frame ++ [ws.length, b2n late + 2 * b2n none_, 0, 0] ++ le 8 at_ ++ le 8 (at_ - maxLag) ++ List.replicate 40 0
  if none_ then hdr else
  let heads := ws.flatMap s.babInHeader
  let lens (v : Nat) := prodLen (s.rd BAB.IN_CFG.PPR_L v) (s.rd BAB.IN_CFG.ENV_PPR_L v) revsL
  let products := ws.flatMap fun w => (List.range 4).flatMap fun k =>
    if bit prod k then f32Pad (babProd w (s.rd BAB.IN_CFG.PPR_L w.ch) (s.rd BAB.IN_CFG.ENV_PPR_L w.ch) revsL k ((lens w.ch).getD k 0)) else []
  let defs := (Tab.get ({} : BabCtxH) s.babCtxs c).defects
  let ind := defs.flatMap fun d =>
    let v := fieldLE d 1 1
    match ws.find? fun w => w.ch == v with
    | some w =>
      let k := if fieldLE d 0 1 ≤ 1 then 1 else 3
      if w.ok then indicator d (babProd w (s.rd BAB.IN_CFG.PPR_L v) (s.rd BAB.IN_CFG.ENV_PPR_L v) revsL k ((lens v).getD k 0)) (2 ^ revsL) else List.replicate 64 0
    | none => List.replicate 64 0
  hdr ++ heads ++ List.replicate (up64 heads.length - heads.length) 0 ++ products ++ ind

/-! ### The close (R245, R253, R254) -/

/-- The cost of a close over its valid inputs (R253). -/
def State.babCost (s : State) (c : Nat) (ws : List BabWin) : Nat :=
  let prod := s.rd BAB.CTX_CFG.PROD c
  let defs := (Tab.get ({} : BabCtxH) s.babCtxs c).defects
  (ws.filter BabWin.ok).foldl (fun n w =>
    let pprL := s.rd BAB.IN_CFG.PPR_L w.ch
    let win := 2 ^ (s.rd BAB.CTX_CFG.REVS_L c + pprL)
    n + win + (if bit prod 2 then win else 0) + (if bit prod 3 then 2 ^ (s.rd BAB.CTX_CFG.REVS_L c + s.rd BAB.IN_CFG.ENV_PPR_L w.ch) else 0)
      + (if bit prod 1 then 2 ^ pprL else 0) + 64 * (defs.filter fun d => fieldLE d 1 1 == w.ch).length) 0
/-- A firing closes a frame of context `c` (R245): its content is formed from what stands now (R254), and it waits to be posted, in firing order; where
the closes fired within 120 µs cost more than 524,288 it is late (R253). An uncorrectable error invalidates every input (R284). -/
def State.babClose (s : State) (c frame stamp : Nat) : State :=
  let s := s.incWrap BAB.STATUS.CLOSE_CNT
  let len := s.rd BAB.CTX_LAYOUT.VALUE c
  let b : BabClose := { ctx := c, frame := frame, at_ := stamp, en := s.flag BAB.CTX_CFG.EN c, buf := s.rd BAB.CTX_BUF c + frame % 2 * len, len := len }
  if !b.en then { s with babCloses := s.babCloses ++ [b] } else
  let r := s.babWindows c stamp (s.babInputs c)
  let s := r.1
  let ws := if r.2.2 then r.2.1.map fun w => { w with iflags := setBit w.iflags 0 true } else r.2.1
  let cost := s.babCost c ws
  let recent := s.babCosts.filter fun x => decide (stamp ≤ x.1 + 120 * usTicks)
  let late := decide (524288 < recent.foldl (fun n x => n + x.2) cost)
  { s with babCloses := s.babCloses ++ [{ b with late := late, data := s.babFrame c frame stamp late ws, valid := ws.any BabWin.ok }],
           babCosts := recent ++ [(stamp, cost)] }

end Sys2Proof.Machine
end

