-- ==== Sys2Proof/Machine/Sha3.lean ====
section
/-!
DEFINITION. SHA3-256 over byte strings (R168, R203, R265, R294 name it). Its arithmetic is PRESUMED from the public standard, which
the spec names and does not restate. The model hashes lists of bytes, so the sponge is held as one number of 1,600 bits: a block is
absorbed by reading it as a little-endian number, and the digest is the low 32 bytes of that number. The three layers of the
permutation work on planes, the five numbers of 320 bits (five lanes of 64) that the sponge consists of.
-/
namespace Sys2Proof.Machine

/-- A word of `w` bits turned left by `n` places. -/
def turnLeft (w n x : Nat) : Nat := x * 2 ^ (n % w) % 2 ^ w + x / 2 ^ (w - n % w)
/-- Plane `y` of a sponge. -/
def spongePlane (a y : Nat) : Nat := a / 2 ^ (320 * y) % 2 ^ 320
/-- Lane `x` of a number of lanes. -/
def spongeLane (a x : Nat) : Nat := a / 2 ^ (64 * x) % 2 ^ 64
/-- A number from its parts of `w` bits, the first the lowest. -/
def joinParts (w : Nat) : List Nat → Nat
  | [] => 0
  | p :: ps => p + 2 ^ w * joinParts w ps
/-- Every plane changed by `f`. -/
def overPlanes (f : Nat → Nat) (a : Nat) : Nat := joinParts 320 ((List.range 5).map fun y => f (spongePlane a y))
/-- Each column is mixed with the parities of the column before it and of the one after it, the latter one bit deeper. -/
def mixColumns (a : Nat) : Nat :=
  let par := (List.range 5).foldl (fun p y => p ^^^ spongePlane a y) 0
  let deeper := joinParts 64 ((List.range 5).map fun x => turnLeft 64 1 (spongeLane par x))
  let both := turnLeft 320 64 par ^^^ turnLeft 320 256 deeper
  overPlanes (· ^^^ both) a
/-- The walk over the 24 lanes beside the one at the origin: the lane at (x, y) is turned by the walk's next triangular number and
goes to (y, 2x + 3y), where the walk goes on. -/
def scatterLanes (a : Nat) : Nat → Nat → Nat → Nat → Nat
  | 0, _, _, _ => spongeLane a 0
  | n + 1, t, x, y =>
    let y' := (2 * x + 3 * y) % 5
    turnLeft 64 ((t + 1) * (t + 2) / 2) (spongeLane a (x + 5 * y)) * 2 ^ (64 * (y + 5 * y')) + scatterLanes a n (t + 1) y y'
/-- In each plane a bit flips where the next lane's is 0 and the one's after it is 1. -/
def mixRows (a : Nat) : Nat :=
  overPlanes (fun p => p ^^^ ((2 ^ 320 - 1 - turnLeft 320 256 p) &&& turnLeft 320 192 p)) a
/-- The register that gives the round constants makes a step. -/
def rcStep (r : Nat) : Nat := if r < 128 then 2 * r else 2 * r ^^^ 0x171
/-- The round constant read from the register: its low bit at seven steps, at the places 0, 1, 3, 7, 15, 31 and 63; and the register
after them. -/
def rcRead : Nat → Nat → Nat → Nat × Nat
  | 0, _, r => (0, r)
  | n + 1, j, r =>
    let rest := rcRead n (j + 1) (rcStep r)
    (rest.1 + r % 2 * 2 ^ (2 ^ j - 1), rest.2)
/-- The rounds of the permutation from a state of the constants' register. -/
def spongeRounds : Nat → Nat → Nat → Nat
  | 0, _, a => a
  | n + 1, r, a =>
    let c := rcRead 7 0 r
    spongeRounds n c.2 (mixRows (scatterLanes (mixColumns a) 24 0 1 0) ^^^ c.1)
/-- The bytes of a padded message are absorbed, 136 at a time. -/
def soak : Nat → Nat → List Nat → Nat
  | 0, a, _ => a
  | n + 1, a, m => soak n (spongeRounds 24 1 (a ^^^ fieldLE m 0 136)) (m.drop 136)
/-- SHA3-256: 32 bytes. The padding is the bits 01 and 10…01 up to a whole block. -/
def sha3 (m : List Nat) : List Nat :=
  let blocks := m.length / 136 + 1
  let pad := 6 :: List.replicate (136 * blocks - m.length - 1) 0
  let last := 136 * blocks - 1
  let p := m.map (· % 256) ++ pad
  le 32 (soak blocks 0 (p.take last ++ [p.getD last 0 + 128]))

end Sys2Proof.Machine
end

