-- ==== Sys2Proof/Machine/Context.lean ====
section
/-!
DEFINITION. Contexts: their state beside the registers, the engine map, the areas in engine scratch, thread slots, the plan of R210,
triggers and the start of a frame (R51, R195, R196, R201, R202, R209, R210, R215, R218, R442).
-/
namespace Sys2Proof.Machine

/-- A context's state beside its registers. -/
def State.cx (s : State) (c : Nat) : CtxH := Tab.get {} s.ctxs c
/-- A context's state changed. -/
def State.updCx (s : State) (c : Nat) (f : CtxH → CtxH) : State := { s with ctxs := Tab.put {} s.ctxs c (f (s.cx c)) }
/-- The frame in progress changed. -/
def State.updFrame (s : State) (c : Nat) (f : Frame → Frame) : State := s.updCx c fun h => { h with frame := h.frame.map f }
/-- A physical engine's state beside its registers. -/
def State.en (s : State) (p : Nat) : EngH := Tab.get {} s.engs p
/-- A physical engine's state changed. -/
def State.updEn (s : State) (p : Nat) (f : EngH → EngH) : State := { s with engs := Tab.put {} s.engs p (f (s.en p)) }

/-- SIZE as a number of logical engines (R194). -/
def State.ctxSize (s : State) (c : Nat) : Nat := 2 ^ s.rd CTX.CFG.SIZE c
/-- The logical engines of a context's partition (R194). -/
def State.ctxPart (s : State) (c : Nat) : List Nat := (List.range (s.ctxSize c)).map (· + s.rd CTX.CFG.BASE c)
/-- The physical engine that runs logical engine `i` (R195, INF.ENG_MAP bits [4i+2:4i]). -/
def State.engOf (s : State) (i : Nat) : Nat := s.rd INF.ENG_MAP.MAP / 16 ^ i % 8
/-- The logical engines that physical engine `p` hosts. -/
def State.hosted (s : State) (p : Nat) : List Nat := (List.range 8).filter fun i => s.engOf i == p
/-- A usable physical engine is not fenced. -/
def State.engUsable (s : State) (p : Nat) : Bool := s.rdBit INF.ENG_STATUS.USABLE p
/-- Physical engine `p` runs a logical engine of the context. -/
def State.ctxOn (s : State) (c p : Nat) : Bool := (s.ctxPart c).any fun i => s.engOf i == p
/-- Context states (CTX.STATUS.STATE): 0 FREE, 1 LOADED, 2 ARMED. -/
def ctxFree : Nat := 0
def ctxLoaded : Nat := 1
def ctxArmed : Nat := 2
/-- A context is BOUNDED (CTX.CFG.CLASS = 0). -/
def State.ctxBounded (s : State) (c : Nat) : Bool := s.rd CTX.CFG.CLASS c == 0

/-! ### Areas in engine scratch (R196, R202, R442) -/

/-- A list of options as an option of a list. -/
def allSome {α : Type} : List (Option α) → Option (List α)
  | [] => some []
  | none :: _ => none
  | some a :: t => (allSome t).map (a :: ·)
/-- The scratch of logical engine `i` (R196). -/
def scrBase (i : Nat) : Nat := 0x1100000000 + i * 0x400000
def scrSize : Nat := 0x400000
/-- The byte ranges (start, length) that a context's areas take on one engine. -/
def Place.ranges (a : Place) : List (Nat × Nat) := [(a.copy0, a.len), (a.copy1, a.len), (a.scr, a.scrLen)]
/-- The ranges that contexts other than `c` hold on logical engine `i`. -/
def State.usedOn (s : State) (c i : Nat) : List (Nat × Nat) :=
  ((List.range 64).filter (· != c)).flatMap fun x => ((s.cx x).places.filter fun a => a.eng == i).flatMap Place.ranges
/-- A byte range meets one of a list. -/
def meets (l : List (Nat × Nat)) (a n : Nat) : Bool := l.any fun r => decide (0 < r.2 ∧ r.1 < a + n ∧ a < r.1 + r.2)
/-- The lowest place of `n` bytes on a 64-byte boundary of engine `i`'s scratch beside the ranges in use: the module's own choice (R442). -/
def firstFit (used : List (Nat × Nat)) (i n : Nat) : Option Nat :=
  if n = 0 then some (scrBase i)
  else ((scrBase i :: used.map fun r => up64 (r.1 + r.2)).filter fun a => decide (a + n ≤ scrBase i + scrSize) && !(meets used a n)).foldl
    (fun b a => some (min a (b.getD a))) none
/-- The committed copy (`work` = false) or the working copy on one engine. -/
def Place.copy (a : Place) (flip work : Bool) : Nat := if flip != work then a.copy1 else a.copy0
/-- Where the committed or working copy lies, part by part, in ascending logical order (R202). -/
def State.copyParts (s : State) (c : Nat) (work : Bool) : List (Nat × Nat) := let h := s.cx c; h.places.map fun a => (a.copy h.flip work, a.len)
/-- The committed or working declared state of a context. -/
def State.readCopy (s : State) (c : Nat) (work : Bool) : List Nat := (s.copyParts c work).flatMap fun r => s.readMem r.1 r.2
/-- Bytes laid over a list of ranges in turn. -/
def State.writeParts (s : State) : List (Nat × Nat) → List Nat → State
  | [], _ => s
  | r :: t, d => (s.writeMem r.1 (slice d 0 r.2)).writeParts t (d.drop r.2)
/-- The committed or working declared state takes bytes. -/
def State.writeCopy (s : State) (c : Nat) (work : Bool) (d : List Nat) : State := s.writeParts (s.copyParts c work) d
/-- Ranges that the module writes whole lose their errors (R285). -/
def State.ueDrop (s : State) (l : List (Nat × Nat)) : State := { s with flips := s.flips.filter fun x => !(meets l x.1 (eccSize x.1)) }
/-- The words of a list of ranges that stand in error. -/
def State.badWords (s : State) (l : List (Nat × Nat)) : List Nat := ((s.flips.filter fun x => meets l x.1 (eccSize x.1)).map (·.1)).eraseDups
/-- Ranges are read by master `m` for the module's own use: what is correctable is corrected, an uncorrectable error is counted, logged and given
(R283, R284). -/
def State.eccScan (s : State) (m : Nat) (l : List (Nat × Nat)) : State × Option Nat := s.eccFind m 0 ueRead (s.badWords l)
/-- A frame's state at its start (R51, R202): the working copy is the committed one, the SCRATCH areas hold nothing (DESIGN CHOICE: a
byte that no thread of the frame has written reads as a byte of memory that nothing has written, assumption log 43), no RESULT byte is held.
An uncorrectable error in the committed copy is met (R284); the answer says so. -/
def State.startState (s : State) (c : Nat) : State × Bool :=
  match s.eccScan (0x10 + s.engOf (s.rd CTX.CFG.BASE c)) (s.copyParts c false) with
  | (s, some _) => (s, true)
  | (s, none) =>
    let scr := (s.cx c).places.map fun a => (a.scr, a.scrLen)
    let s := s.ueDrop (s.copyParts c true ++ scr)
    let s := (s.writeCopy c true (s.readCopy c false)).writeParts scr (List.replicate (scr.foldl (fun n r => n + r.2) 0) memDefault.toNat)
    (s.updCx c fun h => { h with held := [] }, false)

/-! ### Thread slots and the issue slot (R209, R219, R441) -/

/-- The counters of an engine run up to the present clock (R219). -/
def State.engCount (s : State) (p : Nat) : State :=
  let now := s.dtime
  let t := s.rdBit INF.ENG_STATUS.TEST p
  s.updEn p fun h =>
    let d := now - h.upTo
    let idle := h.issue.isNone
    let staging := idle && h.tiles != [] && h.tiles.all fun x => !x.staged
    let ready := h.tiles.any (·.staged)
    { h with upTo := now, busy := h.busy + (if idle then 0 else d), stallMem := h.stallMem + (if staging then d else 0),
             stallDep := h.stallDep + (if idle && !staging && !ready then d else 0), test := h.test + (if t then d else 0) }
/-- THREADS shows the thread slots in use. -/
def State.engShow (s : State) (p : Nat) : State := s.wr ENG.STATUS.THREADS (s.en p).tiles.length p
/-- FLAGS bits of the frame status record (R216). -/
def flLate : Nat := 0
def flBudget : Nat := 1
def flEarly : Nat := 2
def flUnprot : Nat := 3
def flUndrained : Nat := 4
def flRemapped : Nat := 5
def flClip : Nat := 6
def flNan : Nat := 7
def flConst : Nat := 8
def flDigest : Nat := 9
def flCmdTrig : Nat := 10
def flRerun : Nat := 11
/-- The clocks of a tile in the issue slot since `start` are charged to its frame on its logical engine; beyond BUDGET the frame goes to
class 2 (R209, R212, R218). -/
def State.chargeTile (s : State) (t : TileH) (start : Nat) : State :=
  let d := s.dtime - start
  let budget := ((s.cx t.ctx).prog.map fun g => g.budget.getD t.logical 0).getD 0
  s.updFrame t.ctx fun f =>
    let used := f.clks.getD t.logical 0 + d
    let isOver := decide (budget < used)
    { f with clks := f.clks.set t.logical used, flags := if isOver then setBit f.flags flBudget true else f.flags, class2 := f.class2 || isOver }
/-- The tiles of engine `p` that `keep` does not hold leave it; one in the issue slot is charged its clocks (R209). -/
def State.dropEngine (s : State) (p : Nat) (keep : TileH → Bool) : State :=
  let s := s.engCount p
  let s := match (s.en p).issue with
    | some (t, start) => if keep t then s else s.chargeTile t start
    | none => s
  (s.updEn p fun h => { h with tiles := h.tiles.filter keep, issue := h.issue.filter fun x => keep x.1 }).engShow p

/-! ### The plan (R210) -/

/-- What context `c` adds to the load of logical engine `i`: BUDGET × ⌈233,600 / TRIG_MIN⌉, with 1,280 clocks more where it runs in
lock step (R270). -/
def State.planTerm (s : State) (c i : Nat) : Nat :=
  match (s.cx c).prog with
  | none => 0
  | some p => (p.budget.getD (i - s.rd CTX.CFG.BASE c) 0 + if s.flag CTX.DIG_CFG.TWIN c then 1280 else 0) * ceilDiv 233600 (s.rd CTX.TRIG_MIN.TICKS c)
/-- D_p over a set of protected contexts. -/
def State.planLoad (s : State) (prot : List Nat) (p : Nat) : Nat :=
  (s.hosted p).foldl (fun n i => prot.foldl (fun n c => if (s.ctxPart c).contains i then n + s.planTerm c i else n) n) 0
/-- The physical engines that a set of protected contexts overloads. -/
def State.planBad (s : State) (prot : List Nat) : List Nat :=
  (List.range 8).filter fun p => s.engUsable p && decide (165504 < s.planLoad prot p)
/-- The context that step 2 marks: on a violating engine, highest PRIO, then highest number. -/
def State.planVictim (s : State) (prot bad : List Nat) : Option Nat :=
  (prot.filter fun c => bad.any fun p => s.ctxOn c p).foldl (fun b c =>
    match b with
    | none => some c
    | some d =>
      let pc := s.rd CTX.CFG.PRIO c
      let pd := s.rd CTX.CFG.PRIO d
      if pd < pc ∨ (pd = pc ∧ d < c) then some c else some d) none
/-- Step 2 of R210, at most one context a round. -/
def State.planDemote (s : State) : Nat → List Nat → List Nat
  | 0, prot => prot
  | f + 1, prot =>
    let bad := s.planBad prot
    if bad = [] then prot else
    match s.planVictim prot bad with
    | none => prot
    | some c => s.planDemote f (prot.filter (· ≠ c))
/-- The contexts ARMED and BOUNDED. -/
def State.armedBounded (s : State) : List Nat := (List.range 64).filter fun c => s.rd CTX.STATUS.STATE c == ctxArmed && s.ctxBounded c
/-- A recomputation of the plan (R210): each context marked unprotected shows UNPROTECTED and writes a recorder event. -/
def State.replan (s : State) : State :=
  let all := s.armedBounded
  let prot := s.planDemote 64 all
  let s := s.forEach (List.range 64) fun s c =>
    let isP := prot.contains c
    let un := all.contains c && !isP
    let s := s.updCx c fun h => { h with isProtected := isP }
    let s := s.put CTX.STATUS.UNPROTECTED un c
    if un then (s.emit 0x0605 (srcContext c)).raise INF.STATUS.DEMOTE else s
  s.wr INF.STATUS.UNPROT (all.filter fun c => !(prot.contains c)).length
/-- The plan holds with context `c` included at step 1. -/
def State.planHolds (s : State) (c : Nat) : Bool :=
  s.planBad (if s.armedBounded.contains c || !(s.ctxBounded c) then s.armedBounded else s.armedBounded ++ [c]) == []

/-! ### Triggers (R51, R215, R218) -/

/-- A lock-step context (R269): DIG_CFG.TWIN = 1 on a member of a pair. -/
def State.lockStep (s : State) (c : Nat) : Bool := s.flag CTX.DIG_CFG.TWIN c && s.flag TWN.CFG.EN
/-- A frame starts from the committed declared state (R202, R215). It ends at once with STATE_LOST, with WITHHELD_TWIN in a fenced pair
(R273), with NO_INPUT where its input post was dropped (R252), or with WITHHELD_ECC where its state is not readable (R217). -/
def State.startFrame (s : State) (c : Nat) (t : Trig) : State :=
  let s := match t.copy with
    | some n => s.wr CTX.FRAME.FRAME n c
    | none => s.incWrap CTX.FRAME.FRAME c
  let num := s.rd CTX.FRAME.FRAME c
  let h := s.cx c
  let early := match h.prevTrig with
    | none => false
    | some p => decide (t.stamp < p + s.rd CTX.TRIG_MIN.TICKS c)
  let remap := (s.ctxPart c).any fun i => s.engOf i != i
  let fl := setBit (setBit (setBit (setBit 0 flEarly early) flUnprot (s.flag CTX.STATUS.UNPROTECTED c)) flRemapped remap) flCmdTrig t.cmd
  let code := if s.flag CTX.STATUS.STATE_LOST c then some 9
    else if s.flag CTX.DIG_STATUS.TWIN_FENCED c then some 4
    else if h.noInput.contains num then some 7 else none
  let r := if code = none then s.startState c else (s, false)
  let fr : Frame :=
    { num := num, trig := t, flags := fl, clks := List.replicate 8 0, class2 := early || h.traceArmed, endCode := if r.2 then some 1 else code,
      trace := h.traceArmed, sIn := sha3 (s.readCopy c false), base := if code = none ∧ r.2 = false then r.1.readCopy c false else [] }
  let s := r.1.updCx c fun h =>
    { h with frame := some fr, prevTrig := some t.stamp, traceArmed := false, noInput := h.noInput.filter (· ≠ num), wait := none }
  let s := if s.lockStep c && s.flag CTX.QUEUES.IN_NONE c && !(s.flag TWN.CFG.ROLE) then s.sendCopy [c, num, t.stamp] else s
  s.raise CTX.STATUS.FRAME_ACTIVE c

/-- What became of a trigger: the number of the frame it starts (at once or latched), or none where it was ignored or an overrun; a FOLLOW's
own triggers are ignored (R269), and outside RUN there are no frames (R394). -/
def State.trigger (s : State) (c : Nat) (t : Trig) : State × Option Nat :=
  let h := s.cx c
  if s.rd CTX.STATUS.STATE c ≠ ctxArmed ∨ h.disarm = true ∨ s.flag INF.STATUS.UNAVAIL = true ∨ s.rd PWR.STATE.STATE ≠ 0
      ∨ (s.lockStep c && s.flag TWN.CFG.ROLE && t.copy.isNone) = true then
    (s.incSat CTX.STATUS.TRIG_IGN c, none)
  else
    let num := t.copy.getD ((s.rd CTX.FRAME.FRAME c + 1) % 2 ^ 32)
    match h.frame with
    | none => (s.startFrame c t, some num)
    | some _ =>
      match h.latched with
      | none => ((s.updCx c fun h => { h with latched := some t }).raise CTX.STATUS.LATCHED c, some num)
      | some _ =>
        (((s.updCx c fun h => { h with ovr := h.ovr + 1 }).incWrap CTX.OVR_CNT.CNT c).emitMerge 0x0603 (srcContext c), none)

/-- The rows of R218 that end a frame: an engine reset governs over a fence, a fence over an uncorrectable error, that over every cause that
is no row. -/
def codeRank (code : Nat) : Nat := if code = 3 then 3 else if code = 2 then 2 else if code = 1 then 1 else 0
/-- A frame in progress is to end with a code: of two causes the higher row governs, else the first stands (R218). -/
def State.failFrame (s : State) (c code : Nat) : State :=
  s.updFrame c fun f => { f with endCode := some (match f.endCode with
    | some k => if codeRank k < codeRank code then code else k
    | none => code) }
/-- A dropped input post: the frame ends with NO_INPUT (R252). -/
def State.noInput (s : State) (c frame : Nat) : State :=
  if ((s.cx c).frame.map (·.num)) = some frame then s.failFrame c 7 else s.updCx c fun h => { h with noInput := frame :: h.noInput }

end Sys2Proof.Machine
end

