-- ==== Sys2Proof/Machine/Monitor.lean ====
section
/-!
DEFINITION. Correction of a sample by its converter's factors (R81) and the monitor sets (R105, R106).
-/
namespace Sys2Proof.Machine

/-- v = round((raw − OFS × 2^−4) × (1 + GAIN × 2^−30)), to nearest with ties to even (R81). -/
def correct (raw ofs gain : Int) : Int := rne ((raw * 16 - ofs) * (2 ^ 30 + gain)) (2 ^ 34)
/-- The same in units of 1/16 LSB, for housekeeping converters (R81). -/
def correct16 (raw ofs gain : Int) : Int := rne ((raw * 16 - ofs) * (2 ^ 30 + gain)) (2 ^ 30)

/-- The monitor sets: three per axis for A, B and K, five per axis for id, iq, vd, vq and e_s, one per segment, one per vibration channel. -/
def monBase (k : Nat) : Nat :=
  if k < 384 then
    let n := k / 8
    let j := k % 8
    0x2010000000 + n * 0x10000 + (if j < 3 then 0x100 + j * 0x40 else 0x400 + (j - 3) * 0x40)
  else if k < 392 then 0x2000081000 + (k - 384) * 0x40
  else 0x2000081400 + (k - 392) * 0x40
/-- Number of the monitor set of converter j (0 A, 1 B, 2 K) of axis n, of loop quantity j, of segment b, of channel v. -/
def monAdc (n j : Nat) : Nat := n * 8 + j
def monLoop (n j : Nat) : Nat := n * 8 + 3 + j
def monDcb (b : Nat) : Nat := 384 + b
def monVib (v : Nat) : Nat := 392 + v

/-- A monitor set's live values. -/
def State.mon (s : State) (k : Nat) : MonH := Tab.get {} s.mons (monBase k)
/-- A monitor set's live values changed. -/
def State.updMon (s : State) (k : Nat) (f : MonH → MonH) : State := { s with mons := Tab.put {} s.mons (monBase k) (f (s.mon k)) }

/-- One sample, its stamp and whether it saturated, enters live values (R105). -/
def MonH.one (h : MonH) (x : Int × Nat × Bool) : MonH :=
  let full := decide (0xFFFFFFFF ≤ h.cnt)
  { h with
    acc := if full then h.acc else h.acc + x.1
    cnt := if full then h.cnt else h.cnt + 1
    mn := if x.1 < h.mn then x.1 else h.mn
    mnT := if x.1 < h.mn then x.2.1 else h.mnT
    mx := if h.mx < x.1 then x.1 else h.mx
    mxT := if h.mx < x.1 then x.2.1 else h.mxT
    ovr := if x.2.2 then satU 16 (h.ovr + 1) else h.ovr }
/-- The live values with every sample delivered so far. -/
def MonH.all (h : MonH) : MonH := { h.now.foldl MonH.one h with now := [] }
/-- The live values at the beginning of clock `t`; the samples delivered in it stand apart, since a snapshot in that clock leaves them to the
new interval (R106). -/
def MonH.before (h : MonH) (t : Nat) : MonH := if h.nowAt = t then h else { h.all with nowAt := t }
/-- A delivered sample enters its monitor set (R105). -/
def State.monAdd (s : State) (k : Nat) (v : Int) (stamp : Nat) (ovr : Bool) : State :=
  s.updMon k fun h => let b := h.before s.dtime
    { b with now := b.now ++ [(v, stamp, ovr)] }

/-- A snapshot copies the live values into the registers in one clock, stamps the copy and restarts the live values; a sample of this clock is
counted in the new interval (R106). -/
def State.monSnap (s : State) (k : Nat) : State :=
  let b := monBase k
  let h := (s.mon k).before s.dtime
  let s := s.wr MON.CNT.CNT h.cnt b
  let s := s.wrS MON.ACC h.acc b
  let s := s.wrS MON.MIN.MIN h.mn b
  let s := s.wrS MON.MAX.MAX h.mx b
  let s := s.wr MON.MIN_TIME h.mnT b
  let s := s.wr MON.MAX_TIME h.mxT b
  let s := s.wr MON.SNAP_TIME s.dtime b
  let s := s.put MON.STATUS.CNT_SAT (decide (0xFFFFFFFF ≤ h.cnt)) b
  let s := s.wr MON.STATUS.OVR_CNT h.ovr b
  s.updMon k fun _ => { ref := s.dtime, snapped := true, now := h.now, nowAt := s.dtime }

/-- The effect of a write of MON.CTRL (R106). The AUTO period runs from the previous snapshot; before the first there is none, and it runs from
the write that sets AUTO (the model's choice, assumption log 26). -/
def State.fxMonCtrl (s : State) (k v : Nat) : State × WErr :=
  let b := monBase k
  let old := s.rd MON.CTRL.AUTO b
  let r := s.writeFields (MON.CTRL.SNAP.addr b) v
  let s := if r.1.rd MON.CTRL.AUTO b = old ∨ (s.mon k).snapped = true then r.1 else r.1.updMon k fun h => { h with ref := r.1.dtime }
  (if bit v 0 then s.monSnap k else s, r.2)

/-- MON_SNAP (R106): a write of MON.CTRL.SNAP = 1. -/
def execMonSnap (m : Fin 64) (k : Fin 424) (v : Word) (s : State) : Host.Outcome State Fault Refusal :=
  .next (s.busWriteWith m (MON.CTRL.SNAP.addr (monBase k)) false fun s => s.fxMonCtrl k (setBit v.toNat 0 true))
/-- MON_AUTO_SNAP (R106): AUTO ms after the previous snapshot. -/
def execMonAutoSnap (k : Fin 424) (s : State) : Host.Outcome State Fault Refusal :=
  let auto := s.rd MON.CTRL.AUTO (monBase k)
  if auto ≠ 0 ∧ (s.mon k).ref + auto * msTicks ≤ s.dtime then .next (s.monSnap k) else .next s

end Sys2Proof.Machine
end

