-- ==== Sys2Proof/Machine/Hk.lean ====
section
/-!
DEFINITION. Housekeeping sequencers: passes, entries, conversions, delays, urgent requests, power-down (R98 to R102).
-/
namespace Sys2Proof.Machine

/-- A sequencer's state beside its registers. -/
def State.hk (s : State) (k : Nat) : HkH := Tab.get {} s.hks k
/-- A sequencer's state changed. -/
def State.updHk (s : State) (k : Nat) (f : HkH → HkH) : State := { s with hks := Tab.put {} s.hks k (f (s.hk k)) }
/-- Acquisition of an ACQ code in ticks: (ACQ + 1) × 200 ns; the conversion takes 500 ns (R99). -/
def acqTicks (acq : Nat) : Nat := (acq + 1) * 64
def convTicks : Nat := 160
/-- The converter is under self-calibration, which holds its work (R103). -/
def State.hkCal (s : State) : Bool :=
  match s.cal with
  | some c => bit c.sel 3
  | none => false
/-- Work can start now: the converter is powered and not under calibration. -/
def State.hkReady (s : State) (k : Nat) : Bool := (s.hk k).awake && !s.hkCal

/-- The first entry from `e` that converts (REPEAT > 0), up to the entry that ends the pass; the fuel is the number of entries left. -/
def State.hkNext (s : State) (k : Nat) : Nat → Nat → Option Nat
  | 0, _ => none
  | f + 1, e =>
    if s.rd HK.TABLE.REPEAT k e ≠ 0 then some e
    else if s.flag HK.TABLE.END k e ∨ e = 63 then none
    else s.hkNext k f (e + 1)

/-- The pass idles the sequencer; with PD_AUTO its converter powers down (R99, R102). -/
def State.hkIdle (s : State) (k : Nat) : State :=
  let h := s.hk k
  let down := s.flag HK.CTRL.PD_AUTO k && h.urg.isNone && h.urgPend.isNone
  (s.updHk k fun h => { h with phase := .idle, start := none, stop := false, awake := h.awake && !down, wakeAt := if down then none else h.wakeAt }).clear
    HK.STATUS.RUN k
/-- Entry `e` starts at time `t` with the values the table holds now (R100). -/
def State.hkEntry (s : State) (k e t : Nat) : State :=
  let w := (s.reg (HK.TABLE.CH.addr k e)).toNat
  let go := s.hkReady k && (s.hk k).urg.isNone
  (s.updHk k fun h => { h with phase := .conv, entry := e, word := w, conv := 0, start := if go then some t else none, sum := 0, isOver := false, any := true }).wr
    HK.STATUS.ENTRY e k
/-- A pass starts at entry 0 at time `t`; a pass that performs no conversion idles and sets EMPTY (R99), and
EMPTY alone, in ONE_SHOT mode too (the model's choice: the spec does not say whether DONE is set besides; assumption log 26). The pass count starts so that the first pass
shows 1 (the model's choice: the spec gives no start; assumption log 26). -/
def State.hkPass (s : State) (k t : Nat) : State :=
  match s.hkNext k 64 0 with
  | some e => (s.updHk k fun h => { h with pass := (h.pass + 1) % 256 }).hkEntry k e t
  | none => (s.raise HK.STATUS.EMPTY k).hkIdle k
/-- A converter that is powered down begins its start-up at this event (R102). -/
def State.hkWake (s : State) (k : Nat) : State :=
  let h := s.hk k
  if h.awake ∨ h.wakeAt.isSome then s else s.updHk k fun h => { h with wakeAt := some s.dtime }
/-- A start, by a register write or a slot firing: ignored with START_OVR while the sequencer runs (R100). -/
def State.hkStart (s : State) (k : Nat) : State :=
  if s.flag HK.STATUS.RUN k then s.raise HK.STATUS.START_OVR k
  else (((s.raise HK.STATUS.RUN k).hkWake k).hkPass k s.dtime)
/-- Held work starts at time `t` once the converter is ready: an urgent request first, else the held conversion. -/
def State.hkResume (s : State) (k t : Nat) : State :=
  let h := s.hk k
  if !(s.hkReady k) then s else
  match h.urg with
  | some u => if u.start.isNone then s.updHk k fun h => { h with urg := some { u with start := some t } } else s
  | none => if h.phase = .conv ∧ h.start.isNone then s.updHk k fun h => { h with start := some t } else s

/-- The entry is complete at time `t`: its delay, the next entry, the wrap or the end of the pass (R99). -/
def State.hkAfterEntry (s : State) (k t : Nat) : State :=
  let h := s.hk k
  let last := bit h.word 29 || h.entry == 63
  let cont := s.flag HK.CTRL.MODE k
  if last && !cont then (s.hkIdle k).raise HK.STATUS.DONE k
  else if h.stop then s.hkIdle k
  else
    let d := bits h.word 27 20
    if d = 0 then
      if last then s.hkPass k t
      else
        match s.hkNext k 64 (h.entry + 1) with
        | some e => s.hkEntry k e t
        | none => if cont then s.hkPass k t else (s.hkIdle k).raise HK.STATUS.DONE k
    else s.updHk k fun h => { h with phase := .delay, delayEnd := t + d * usTicks, start := none }

/-- A conversion value in HK.RESULT's layout (R81, R98): corrected by converter k's factors in 1/16 LSB unsigned and saturated; for the die sensors,
channels 8 to 11, the temperature in 1/16 °C signed that the fused trim makes of the corrected value, which the spec does not give (free,
assumption log 26). With whether either saturated. -/
def State.hkValue (s : State) (k ch : Nat) (raw : Int) : Int × Bool :=
  let w := correct16 raw (s.rdS MF.CAL_OFS.OFS 0 (40 + k)) (s.rdS MF.CAL_GAIN.GAIN 0 (40 + k))
  let v := clampI 0 65535 w
  let o := decide (v ≠ w)
  if 8 ≤ ch ∧ ch ≤ 11 then
    let t := Config.dieTemp k ch v
    (satS 16 t, o || decide (satS 16 t ≠ t))
  else (v, o)
/-- The excitation that flows (R99, R101): an urgent request's own while it is served; before that, and without one, the entry's, from the start of its first acquisition to
the end of its last conversion; on channels 0 to 7 only. -/
def State.hkExcite (s : State) (k : Nat) : Nat :=
  let h := s.hk k
  let on (ch exc : Nat) : Nat := if ch ≤ 7 then exc else 0
  let entry := if h.phase = .conv ∧ (h.start.isSome ∨ 0 < h.conv) then on (bits h.word 5 0) (bits h.word 7 6) else 0
  match h.urg with
  | some u => if u.start.isSome then on u.ch u.exc else entry
  | none => entry

/-- The conversion of the entry in progress completes with a corrected value; its sampling instant is `st`, its end `t` (R99). -/
def State.hkConv (s : State) (k : Nat) (raw : Int) (st t : Nat) : State :=
  let h := s.hk k
  let ch := bits h.word 5 0
  let v := s.hkValue k ch raw
  let n := bits h.word 19 12
  let sum := h.sum + v.1
  let isOver := h.isOver || v.2
  if h.conv + 1 < n then
    s.updHk k fun h => { h with conv := h.conv + 1, sum := sum, isOver := isOver, start := if s.hkCal || h.urg.isSome then none else some t }
  else
    let avg := bit h.word 28
    let res := if avg then rne sum (n : Int) else v.1
    let o := if avg then isOver else v.2
    let s := s.wrS HK.RESULT.VALUE res k h.entry
    let s := s.raise HK.RESULT.VALID k h.entry
    let s := s.put HK.RESULT.OVR o k h.entry
    let s := s.wr HK.RESULT.PASS h.pass k h.entry
    let s := s.wr HK.STAMP st k h.entry
    s.hkAfterEntry k t

/-- The urgent request served since `t0` completes (R101): its result and stamp, and the one behind it, or the interrupted conversion, starts. -/
def State.hkUrgDone (s : State) (k : Nat) (u : HkUrg) (t0 : Nat) (raw : Int) : State :=
  let st := t0 + acqTicks u.acq
  let t := st + convTicks
  if s.dtime < t then s else
  let v := s.hkValue k u.ch raw
  let s := s.wr HK.URG_RESULT.VALUE (ofS 16 v.1 + 65536 + (if v.2 then 131072 else 0) + (s.hk k).pass * 16777216) k
  let s := s.wr HK.URG_STAMP st k
  let s := s.raise HK.STATUS.URG_DONE k
  let s := s.updHk k fun h => { h with urg := h.urgPend, urgPend := none, urgEnd := t }
  let s := if (s.hk k).phase = .idle ∧ (s.hk k).urg.isNone then s.hkIdle k else s
  s.hkResume k t
/-- The conversion of the sequence in progress, if any, completes (R99). -/
def State.hkSeqDone (s : State) (k : Nat) (raw : Int) : State :=
  let h := s.hk k
  match h.phase, h.start with
  | .conv, some t0 =>
    let st := t0 + acqTicks (bits h.word 11 8)
    let t := st + convTicks
    if s.dtime < t then s else s.hkConv k raw st t
  | _, _ => s
/-- HK_CONVERSION_DONE (R99, R101): the conversion in progress, urgent or of the sequence, completes. Before its time nothing happens. -/
def execHkConversionDone (k : Fin 4) (raw : Int) (s : State) : Host.Outcome State Fault Refusal :=
  match (s.hk k).urg with
  | some u =>
    match u.start with
    | some t0 => .next (s.hkUrgDone k u t0 raw)
    | none => .next (s.hkSeqDone k raw)
  | none => .next (s.hkSeqDone k raw)

/-- HK_DELAY_EXPIRY (R99, R101): the entry's DELAY and any urgent request have ended; the next entry starts, or the sequencer wraps. -/
def execHkDelayExpiry (k : Fin 4) (s : State) : Host.Outcome State Fault Refusal :=
  let h := s.hk k
  if h.phase = .delay ∧ h.delayEnd ≤ s.dtime ∧ h.urg.isNone then
    let t := max h.delayEnd h.urgEnd
    if h.stop then .next (s.hkIdle k)
    else if bit h.word 29 ∨ h.entry = 63 then .next (s.hkPass k t)
    else
      match s.hkNext k 64 (h.entry + 1) with
      | some e => .next (s.hkEntry k e t)
      | none => if s.flag HK.CTRL.MODE k then .next (s.hkPass k t) else .next ((s.hkIdle k).raise HK.STATUS.DONE k)
  else .next s

/-- An urgent request is registered (R101): served at once, after a wake, after calibration, or behind the one being served; a further
one is refused. Of two in one clock the safety manager's is served first: it takes the place of a software request registered in this clock, and that
one moves behind it, or is the further one. A conversion in progress is aborted and will be repeated; one under calibration ends first. -/
def State.hkUrgent (s : State) (k ch exc acq : Nat) (safety : Bool) : State :=
  let h := s.hk k
  let now := s.dtime
  let u : HkUrg := { ch := ch, exc := exc, acq := acq, at_ := now, safety := safety }
  let yields (r : HkUrg) : Bool := safety && !r.safety && r.at_ == now
  match h.urg, h.urgPend with
  | some cur, none =>
    if yields cur then s.updHk k fun h => { h with urg := some { u with start := cur.start }, urgPend := some { cur with start := none } }
    else s.updHk k fun h => { h with urgPend := some u }
  | some cur, some p =>
    let s := s.raise HK.STATUS.URG_OVF k
    if yields cur then s.updHk k fun h => { h with urg := some { u with start := cur.start }, urgPend := some { cur with start := none } }
    else if yields p then s.updHk k fun h => { h with urgPend := some u }
    else s
  | none, _ =>
    let abort := h.phase == .conv && h.start.isSome && !s.hkCal
    let s := s.hkWake k
    let s := s.updHk k fun h => { h with urg := some u, start := if abort then none else h.start }
    let s := if abort then s.incWrap HK.STATUS.URG_ABORT_CNT k else s
    s.hkResume k now

/-- The effect of a write of HK.CTRL (R100, R102). STOP in an entry's DELAY idles the sequencer at once (the model's choice: the spec says only idle
after the current entry; assumption log 26). -/
def State.fxHkCtrl (s : State) (k v : Nat) : State × WErr :=
  let r := s.writeFields (HK.CTRL.START.addr k) v
  let s := r.1
  let s := if !(s.flag HK.CTRL.PD_AUTO k) then s.hkWake k else if (s.hk k).phase = .idle then s.hkIdle k else s
  let s := if bit v 0 then s.hkStart k else s
  let s := if bit v 3 then
      (if (s.hk k).phase = .delay then s.hkIdle k else if s.flag HK.STATUS.RUN k then s.updHk k fun h => { h with stop := true } else s)
    else s
  (s, r.2)
/-- The effect of a write of HK.URGENT (R101). -/
def State.fxHkUrgent (s : State) (k v : Nat) : State × WErr :=
  let r := s.writeFields (HK.URGENT.REQ.addr k) v
  let s := r.1
  (if bit v 0 then s.hkUrgent k (s.rd HK.URGENT.CH k) (s.rd HK.URGENT.EXC k) (s.rd HK.URGENT.ACQ k) false else s, r.2)

/-- HK_START (R100): a write of HK.CTRL.START = 1. -/
def execHkStart (m : Fin 64) (k : Fin 4) (v : Word) (s : State) : Host.Outcome State Fault Refusal :=
  .next (s.busWriteWith m (HK.CTRL.START.addr k) false fun s => s.fxHkCtrl k (setBit v.toNat 0 true))
/-- HK_STOP (R100): a write of HK.CTRL.STOP = 1. -/
def execHkStop (m : Fin 64) (k : Fin 4) (v : Word) (s : State) : Host.Outcome State Fault Refusal :=
  .next (s.busWriteWith m (HK.CTRL.START.addr k) false fun s => s.fxHkCtrl k (setBit v.toNat 3 true))
/-- HK_URGENT (R101): an urgent request, of the safety manager with the operands in `v`'s layout, or a write of HK.URGENT.REQ = 1. -/
def execHkUrgent (m : Fin 64) (k : Fin 4) (safety : Bool) (v : Word) (s : State) : Host.Outcome State Fault Refusal :=
  if safety then .next (s.hkUrgent k (bits v.toNat 7 2) (bits v.toNat 9 8) (bits v.toNat 13 10) true)
  else .next (s.busWriteWith m (HK.URGENT.REQ.addr k) false fun s => s.fxHkUrgent k (setBit v.toNat 0 true))

end Sys2Proof.Machine
end

