-- ==== Sys2Proof/Machine/Slots.lean ====
section
/-!
DEFINITION. Schedule slots: prediction at an angle timebase, backlogs, firing with its action, residuals, and the writes of a
slot's configuration and target (R37, R39, R44 to R49).
-/
namespace Sys2Proof.Machine

/-- A slot's state beside its registers. -/
def State.slot (s : State) (k : Nat) : SlotH := Tab.get {} s.slots k
/-- A slot's state changed. -/
def State.updSlot (s : State) (k : Nat) (f : SlotH → SlotH) : State := { s with slots := Tab.put {} s.slots k (f (s.slot k)) }

/-- DIR permits motion of a sign (R44): 0 FWD, 1 REV, 2 EITHER. -/
def dirPermits (dir : Nat) (sgn : Int) : Bool := if dir = 0 then decide (0 < sgn) else if dir = 1 then decide (sgn < 0) else true
/-- A target at signed distance `d` lies behind the angle in the slot's direction (R44). -/
def behind (dir : Nat) (speed d : Int) : Bool :=
  if dir = 0 then decide (d ≤ 0) else if dir = 1 then decide (0 ≤ d)
  else decide (d = 0) || (decide (speed ≠ 0) && decide (d * speed < 0))
/-- How many targets, from the one at distance `d` on in steps of `step`, lie behind (R46). -/
def behindCount (dir : Nat) (speed d step : Int) : Nat :=
  if !(behind dir speed d) then 0
  else if step = 0 ∨ dir = 2 then 1
  else ((absI d) / (absI step)).toNat + 1

/-- The signed distance of slot `k`'s target from an angle (R37). -/
def State.slotDist (s : State) (k : Nat) (angle : Int) : Int := toS 64 (ofS 64 (s.rdS SCH.TARGET k - angle))
/-- A slot waits without a prediction (R44). -/
def State.slotWait (s : State) (k : Nat) : State :=
  (((s.updSlot k fun h => { h with due := none, late := false, left := 0, skip := false }).wr SCH.PRED (2 ^ 64 - 1) k).wr SCH.STATUS.STATE 1 k)
/-- A slot fires at clock `c`; PRED shows it. -/
def State.slotArm (s : State) (k c : Nat) (late : Bool) : State :=
  ((s.updSlot k fun h => { h with due := some c, late := late }).wr SCH.PRED c k).wr SCH.STATUS.STATE 2 k
/-- A slot is disabled and idle. A TARGET written since and not yet taken is dropped with it (R49; the model's choice, assumption log 18). -/
def State.slotIdle (s : State) (k : Nat) : State :=
  (((s.updSlot k fun h => { h with due := none, late := false, left := 0, skip := false, newTarget := none }).wr SCH.PRED (2 ^ 64 - 1) k).wr
    SCH.STATUS.STATE 0 k)

/-- A backlog of `n` targets is found behind; its first firing is at clock `c`, LATE (R46). -/
def State.slotBacklog (s : State) (k c n : Nat) : State :=
  (s.slotArm k c true).updSlot k fun h => { h with left := max n 1, skip := decide (16 < n) }

/-- R44's formula against an angle valid at `stamp`; `c` is the first clock in which the slot may fire on it, `prev` the angle before
the update. -/
def State.slotPredict (s : State) (k : Nat) (angle : Int) (stamp c : Nat) (prev : Option Int) : State :=
  let t := s.rd SCH.CFG.TB k
  let dir := s.rd SCH.CFG.DIR k
  let step := s.rdS SCH.STEP k
  let v := s.tbSpeed t
  let d := s.slotDist k angle
  let cnt := behindCount dir v (s.slotDist k (s.tbAngleAt t c)) step
  if s.rd TB.STATUS.STATE t = tbLost ∨ s.rd TB.STATUS.STATE t = tbOff then s.slotWait k
  else if d = 0 then (s.slotArm k c false).updSlot k fun h => { h with left := 0, skip := false }
  else if v ≠ 0 ∧ sgnI d = sgnI v ∧ dirPermits dir (sgnI v) = true then
    let p := (stamp : Int) + rnu (absI d * 2 ^ 24) (absI v)
    if p ≤ (c : Int) then s.slotBacklog k (c + 1) cnt
    else (s.slotArm k p.toNat false).updSlot k fun h => { h with left := 0, skip := false }
  else
    match prev with
    | none => s.slotWait k
    | some pa =>
      let pd := s.slotDist k pa
      if (0 < pd ∧ d ≤ 0 ∧ dirPermits dir 1 = true) ∨ (pd < 0 ∧ 0 ≤ d ∧ dirPermits dir (-1) = true) then s.slotBacklog k c cnt
      else s.slotWait k

/-- A slot is armed from its present target against the timebase's extrapolation: at an enable and after a firing (R45, R46, R49). -/
def State.slotArmNow (s : State) (k : Nat) : State :=
  let now := s.dtime
  let step := s.rdS SCH.STEP k
  if s.flag SCH.CFG.TYPE k then
    let d := (s.rd SCH.TARGET k : Int) - (now : Int)
    if d ≤ 0 then s.slotBacklog k (now + 1) (behindCount 0 1 d step)
    else (s.slotArm k (s.rd SCH.TARGET k) false).updSlot k fun h => { h with left := 0, skip := false }
  else
    let t := s.rd SCH.CFG.TB k
    let dir := s.rd SCH.CFG.DIR k
    let a := s.tbAngleAt t now
    let n := behindCount dir (s.tbSpeed t) (s.slotDist k a) step
    if s.rd TB.STATUS.STATE t = tbOff then s.slotWait k
    else if 0 < n then s.slotBacklog k (now + 1) n
    else s.slotPredict k a now now none

/-- A newly written target is taken at an update (R49): one that lies behind fires in the next clock, LATE; any other is predicted. -/
def State.slotTake (s : State) (k x : Nat) (angle : Int) (stamp c : Nat) (prev : Int) : State :=
  let s := (s.wr SCH.TARGET x k).updSlot k fun h => { h with newTarget := none }
  let t := s.rd SCH.CFG.TB k
  let dir := s.rd SCH.CFG.DIR k
  let d := s.slotDist k angle
  if d ≠ 0 ∧ behind dir (s.tbSpeed t) d = true ∧ s.rd TB.STATUS.STATE t ≠ tbLost ∧ s.rd TB.STATUS.STATE t ≠ tbOff then
    s.slotBacklog k c (behindCount dir (s.tbSpeed t) (s.slotDist k (s.tbAngleAt t c)) (s.rdS SCH.STEP k))
  else s.slotPredict k angle stamp c (some prev)

/-- A timebase update: each enabled ANGLE slot on it takes a target written since and predicts anew, unless it fires in this clock or
works off a backlog (R44, R46, R49). The prediction is made in the clock after the update. -/
def State.slotsTbUpdate (s : State) (t : Nat) (prev : Int) : State :=
  let a := s.rdS TB.ANGLE t
  let stamp := s.rd TB.STAMP t
  s.forEach (List.range 256) fun s k =>
    if s.flag SCH.CFG.EN k && !(s.flag SCH.CFG.TYPE k) && s.rd SCH.CFG.TB k == t then
      let h := s.slot k
      let firing := match h.due with
        | some c => decide (c ≤ s.dtime) || h.late
        | none => false
      match h.newTarget with
      | some x =>
        if firing then s else s.slotTake k x a stamp (s.dtime + 1) prev
      | none => if firing then s else s.slotPredict k a stamp (s.dtime + 1) (some prev)
    else s
/-- A timebase that enters LOST or OFF leaves its ANGLE slots armed without a prediction (R49). -/
def State.slotsTbLost (s : State) (t : Nat) : State :=
  s.forEach (List.range 256) fun s k =>
    if s.flag SCH.CFG.EN k && !(s.flag SCH.CFG.TYPE k) && s.rd SCH.CFG.TB k == t then s.slotWait k else s

/-- Residuals of the firings since the last update of timebase `t` (R47); an update in the clock of the firing is not yet the one (R49). -/
def State.slotsResid (s : State) (t : Nat) : State :=
  s.forEach (List.range 256) fun s k =>
    match (s.slot k).resid with
    | none => s
    | some (target, clk) =>
      if s.rd SCH.CFG.TB k = t ∧ s.flag SCH.CFG.TYPE k = false ∧ clk < s.dtime then
        let r := satS 32 (toS 64 (ofS 64 (s.tbAngleAt t clk - toS 64 target)))
        let s := (s.wrS SCH.RESID.RESID r k).updSlot k fun h => { h with resid := none }
        let lim := s.rd SCH.RESID_LIM.LIM k
        if lim ≠ 0 ∧ (lim : Int) < absI r then (s.raise SCH.STATUS.RESID_OVER k).emitMerge 0x0104 (srcSlot k) else s
      else s

/-- The action of a firing (R48). -/
def State.slotAction (s : State) (k target : Nat) : State :=
  let p := s.rd SCH.CFG.PARAM k
  let tbSt := if s.flag SCH.CFG.TYPE k then tbPrimary else s.rd TB.STATUS.STATE (s.rd SCH.CFG.TB k)
  let trig : Trig := { stamp := s.dtime, slot := k, tbState := tbSt, cmd := false }
  match s.rd SCH.CFG.ACTION k with
  | 0 => s.emit 0x0105 (srcSlot k) (le 8 target)
  | 1 =>
    let r := s.trigger (p % 64) trig
    match r.2 with
    | some n => r.1.babClose (p % 64) n s.dtime
    | none => r.1
  | 2 => (s.trigger (p % 64) trig).1
  | 3 => s.hkStart (p % 4)
  | 4 => s.raiseIrq (p % 32)
  | 5 => (s.qPostHw p { type_ := 3, src := Config.slotSrc, ctx := 0xFF, addr := target, param := k }).1
  | _ => s

/-- What follows a firing (R45, R46): a one-shot slot disables itself; a periodic one advances, skips, continues a counted backlog or
predicts anew. -/
def State.slotAdvance (s : State) (k target : Nat) : State :=
  let step := s.rdS SCH.STEP k
  if step = 0 then (s.clear SCH.CFG.EN k).slotIdle k
  else
    let h := s.slot k
    let dir := if s.flag SCH.CFG.TYPE k then 0 else s.rd SCH.CFG.DIR k
    let t := s.rd SCH.CFG.TB k
    let d : Int := if s.flag SCH.CFG.TYPE k then toS 64 target - (s.dtime : Int) else s.slotDist k (s.tbAngleAt t s.dtime)
    let n := if h.skip then max (behindCount dir (s.tbSpeed t) d step) 1 else 1
    let s := s.wrS SCH.TARGET (toS 64 target + step * n) k
    let s := if h.skip && decide (1 < n) then (s.incSat SCH.STATUS.MISS_CNT k 0 (n - 1)).emit 0x0103 (srcSlot k) (le 4 (n - 1)) else s
    if !h.skip && decide (1 < h.left) then
      (s.slotArm k (s.dtime + 1) true).updSlot k fun h' => { h' with left := h.left - 1 }
    else (s.updSlot k fun h => { h with left := 0, skip := false, late := false }).slotArmNow k

/-- Slot `j` is due to fire in this clock. -/
def State.slotDue (s : State) (j : Nat) : Bool :=
  match (s.slot j).due with
  | some c => s.flag SCH.CFG.EN j && decide (c ≤ s.dtime)
  | none => false
/-- SLOT_FIRE (R48, R49): a slot that is due fires with its action, stamped with this clock, and advances; slots of one clock fire in
ascending order, so a slot waits while a lower one is due. -/
def execSlotFire (k : Fin 256) (s : State) : Host.Outcome State Fault Refusal :=
  let h := s.slot k
  if !(s.slotDue k) || (List.range k).any s.slotDue then .next s
  else
    let target := s.rd SCH.TARGET k
    let s := s.slotAction k target
    let s := s.wr SCH.LAST_FIRE s.dtime k
    let s := (s.incWrap SCH.STATUS.FIRE_CNT k).raiseIf h.late SCH.STATUS.LATE k
    let s := if s.flag SCH.CFG.TYPE k then s.wr SCH.RESID.RESID 0 k
      else s.updSlot k fun h => { h with resid := some (target, s.dtime) }
    .next (s.slotAdvance k target)

/-- Whether R45 accepts the slot as it is configured. -/
def State.slotOk (s : State) (k : Nat) : Bool :=
  let step := s.rdS SCH.STEP k
  if s.flag SCH.CFG.TYPE k then decide (0 ≤ step)
  else
    let dir := s.rd SCH.CFG.DIR k
    s.rd TB.STATUS.STATE (s.rd SCH.CFG.TB k) != tbOff &&
      (decide (step = 0) || (dir == 0 && decide (0 < step)) || (dir == 1 && decide (step < 0)))
/-- The effect of a write of SCH.CFG (R45, R49). A fresh enable drops a TARGET written and not yet taken (the model's choice, assumption log 18). -/
def State.fxSchCfg (s : State) (k v : Nat) : State × WErr :=
  let a := SCH.CFG.EN.addr k
  let old := s.reg a
  let r := s.writeFields a v
  let s := r.1
  if !(s.flag SCH.CFG.EN k) then (if bit old.toNat 0 then s.slotIdle k else s, r.2)
  else if bit old.toNat 0 && s.reg a == old then (s, r.2)
  else
    let s := s.updSlot k fun h => { h with newTarget := none }
    if s.slotOk k then (s.slotArmNow k, r.2)
    else (((s.clear SCH.CFG.EN k).raise SCH.STATUS.CFG_ERR k).slotIdle k, r.2)
/-- The effect of a write of SCH.TARGET_HI (R49): an enabled ANGLE slot holds the new target until its next prediction, a TIME slot
takes it at once. -/
def State.fxSchTargetHi (s : State) (k v : Nat) : State × WErr :=
  let x := s.pairValue (SCH.TARGET.addr k + 4) v
  if s.flag SCH.CFG.EN k && !(s.flag SCH.CFG.TYPE k) then (s.updSlot k fun h => { h with newTarget := some x }, .ok)
  else if s.flag SCH.CFG.EN k then ((s.wr SCH.TARGET x k).slotArmNow k, .ok)
  else (s.wr SCH.TARGET x k, .ok)

/-- SCH_CFG_WRITE (R45, R49): a write of SCH.CFG. -/
def execSchCfgWrite (m : Fin 64) (k : Fin 256) (v : Word) (s : State) : Host.Outcome State Fault Refusal :=
  .next (s.busWriteWith m (SCH.CFG.EN.addr k) false fun s => s.fxSchCfg k v.toNat)
/-- SCH_TARGET_WRITE (R49): a write of SCH.TARGET_HI. -/
def execSchTargetWrite (m : Fin 64) (k : Fin 256) (v : Word) (s : State) : Host.Outcome State Fault Refusal :=
  .next (s.busWriteWith m (SCH.TARGET.addr k + 4) false fun s => s.fxSchTargetHi k v.toNat)

end Sys2Proof.Machine
end

