-- ==== Sys2Proof/Machine/Timebase.lean ====
section
/-!
DEFINITION. Angle timebases: sources, states, corrections, restarts and derived timebases (R36 to R43, R439, R440), and the inputs
that feed them: tachometers, SSI ports and the line-sync input (R414 to R416).
-/
namespace Sys2Proof.Machine

/-- A source may be used by a kind of timebase (R40): kinds 0 motor shaft, 1 output shaft, 2 mains cycle, 3 spare. -/
def srcPermitted (kind src : Nat) : Bool :=
  match src with
  | 0 => true
  | 1 => kind == 0
  | 2 => kind == 1 || kind == 3
  | 3 => kind == 1
  | 4 => kind == 1 || kind == 3
  | 5 => kind == 2
  | 6 => kind == 3
  | _ => false
/-- Source `x` derives from another timebase. -/
def srcDerived (x : Nat) : Bool := x == 2 || x == 3
/-- Timebase `t` derives from another by its primary or its fallback. -/
def State.tbDerived (s : State) (t : Nat) : Bool := srcDerived (s.rd TB.CFG.SRC t) || srcDerived (s.rd TB.CFG.FALLBACK t)
/-- Following references from `t`, timebase `x` is reached. -/
def State.tbReaches (s : State) (x : Nat) : Nat → Nat → Bool
  | 0, _ => false
  | f + 1, t => s.tbDerived t && (s.rd TB.CFG.REF t == x || s.tbReaches x f (s.rd TB.CFG.REF t))
/-- R40 accepts the configuration of a timebase. -/
def State.tbValid (s : State) (t : Nat) : Bool :=
  let kind := s.rd TB.CFG.KIND t
  srcPermitted kind (s.rd TB.CFG.SRC t) && srcPermitted kind (s.rd TB.CFG.FALLBACK t) && s.rd TB.RATIO.DEN t != 0 && !(s.tbReaches t 64 t)
/-- A timebase works: enabled, with a configuration that R40 accepts and no CFG_ERR standing (R439). -/
def State.tbOn (s : State) (t : Nat) : Bool := s.flag TB.CFG.EN t && s.tbValid t && !(s.flag TB.STATUS.CFG_ERR t)

/-- The source a timebase uses: its fallback in state FALLBACK or without a primary. -/
def State.tbSrcInUse (s : State) (t : Nat) : Nat :=
  if s.rd TB.STATUS.STATE t = tbFallback ∨ s.rd TB.CFG.SRC t = 0 then s.rd TB.CFG.FALLBACK t else s.rd TB.CFG.SRC t
/-- The expected update interval of a source of timebase `t` in ticks; 0 where there is none (R440). -/
def State.tbInterval (s : State) : Nat → Nat → Nat → Nat
  | 0, _, _ => 0
  | f + 1, t, src =>
    match src with
    | 1 => 2 * s.rd AX.PWM_ACT_PERIOD.TOP t
    | 2 => s.tbInterval f (s.rd TB.CFG.REF t) (s.tbSrcInUse (s.rd TB.CFG.REF t))
    | 3 => s.tbInterval f (s.rd TB.CFG.REF t) (s.tbSrcInUse (s.rd TB.CFG.REF t))
    | 4 => s.rd IOS.SSI_CFG1.RATE (s.rd TB.CFG.TIN t) * 3200
    | 5 => 7111111
    | _ => 0

/-- A source is silent: no update for 4 expected intervals, from its last update or from `since` (R42). A source without an interval
is never silent, a source that is absent always is; a derived source is silent as any other, when its reference brings no update. -/
def State.tbSilent (s : State) (t src since : Nat) (last : Option Nat) : Bool :=
  if src = 0 then true else
  let i := s.tbInterval 64 t src
  decide (i ≠ 0) && decide (last.getD since + 4 * i ≤ s.dtime)

/-- A timebase changes state, with the recorder event that R42 asks for. -/
def State.tbSetState (s : State) (t new : Nat) (event : Bool) : State :=
  let old := s.rd TB.STATUS.STATE t
  let now := s.dtime
  let s := (s.wr TB.STATUS.STATE new t).updTb t fun h =>
    { h with hist := (now, new) :: keepSince ((h.words.head?.map (·.1)).getD now - tbKeep) h.hist }
  if event then s.emitMerge 0x0101 (srcTimebase t) [old, new] else s

/-- The scaling of an angle or a speed by NUM / DEN (R40): exact where it divides, else to one of the two nearest integers; which of
them is not stated. -/
def scaleRatio (x : Int) (num den : Nat) : Int :=
  let p := x * num
  let q := p / (den : Int)
  if p % (den : Int) = 0 then q else if Config.ratioUp p den then q + 1 else q

/-- Angle, speed and stamp of a timebase are written in one clock (R39), with what an update brings: residuals, slot predictions and
Babbitt's points, which lie between two updates (R242). A correction is counted and checked against TOL (R41, R43). A speed outside the speed word is saturated (R38; the model's choice,
assumption log 16). -/
def State.tbWrite (s : State) (t : Nat) (ang spd : Int) (stamp : Nat) (corr : Bool) : State :=
  let a0 := s.rdS TB.ANGLE t
  let s0 := s.rd TB.STAMP t
  let ext := s.tbAngleAt t stamp
  let new := toS 64 (ofS 64 ang)
  let big := corr && decide (((s.rd TB.TACH.TOL t * 256 : Nat) : Int) < absI (toS 64 (ofS 64 (new - ext))))
  let s := if corr then s.incWrap TB.STATUS.CORR_CNT t else s
  let s := if big then (s.raise TB.STATUS.CORR_BIG t).emit 0x0102 (srcTimebase t) (le 8 (ofS 64 ext) ++ le 8 (ofS 64 new)) else s
  let s := ((s.wrS TB.ANGLE new t).wrS TB.SPEED.SPEED (satS 32 spd) t).wr TB.STAMP stamp t
  let live := (s.tb t).live
  let s := s.tbNote t stamp new (satS 32 spd) true
  let s := s.slotsResid t
  let s := s.slotsTbUpdate t a0
  if live then s.babTbUpdate t s0 a0 stamp new big else s

/-- An update of a timebase's primary (`prim`) or fallback source arrives with an angle, a speed and a stamp (R42, R43, R439): the answer
says whether the timebase took it. -/
def State.tbSource (s : State) (t : Nat) (prim : Bool) (ang spd : Int) (stamp : Nat) : State × Bool :=
  if !(s.tbOn t) then (s, false) else
  let h := s.tb t
  let st := s.rd TB.STATUS.STATE t
  let src := s.rd TB.CFG.SRC t
  let primDead := s.tbSilent t src h.since h.primLast
  if prim then
    let i := s.tbInterval 64 t src
    let run := match h.primLast with
      | some p => if s.dtime ≤ p + 4 * i ∨ i = 0 then h.consec + 1 else 1
      | none => 1
    let s := s.updTb t fun h => { h with primLast := some s.dtime, consec := min run 4 }
    if st = tbOff then ((s.tbSetState t tbPrimary false).tbWrite t ang spd stamp true, true)
    else if st = tbPrimary then (s.tbWrite t ang spd stamp false, true)
    else if 4 ≤ run then ((s.tbSetState t tbPrimary true).tbWrite t ang spd stamp true, true)
    else (s, false)
  else if st = tbPrimary then (s, false)
  else if st = tbFallback then ((s.updTb t fun h => { h with fbLast := some s.dtime, fresh := false }).tbWrite t ang spd stamp h.fresh, true)
  else if primDead then
    (((s.updTb t fun h => { h with fbLast := some s.dtime, fbSince := s.dtime, since := if st = tbOff then s.dtime else h.since }).tbSetState t tbFallback (st != tbOff)).tbWrite t ang spd stamp true, true)
  else (s, false)

/-- An update is offered to the primary of a timebase and, where that does not take it, to its fallback, as far as they are source `src`. -/
def State.tbOffer (s : State) (t src : Nat) (ang spd : Int) (stamp : Nat) : State × Bool :=
  let p := if s.rd TB.CFG.SRC t = src then s.tbSource t true ang spd stamp else (s, false)
  if !p.2 && s.rd TB.CFG.FALLBACK t == src then p.1.tbSource t false ang spd stamp else p

/-- The angle and speed that timebase `t` derives from its reference (R40). -/
def State.tbDerive (s : State) (t : Nat) (withOfs : Bool) : Int × Int :=
  let r := s.rd TB.CFG.REF t
  let n := s.rd TB.RATIO.NUM t
  let d := s.rd TB.RATIO.DEN t
  (scaleRatio (s.rdS TB.ANGLE r) n d + (if withOfs then (s.tb t).ofs else 0), scaleRatio (s.tbSpeed r) n d)

/-- An update of its reference reaches timebase `x`: offered to a derived primary, and to a derived fallback where that does not take it. -/
def State.tbOfferRef (s : State) (x stamp : Nat) : State × Bool :=
  let src := s.rd TB.CFG.SRC x
  let fb := s.rd TB.CFG.FALLBACK x
  let p := if srcDerived src then (let d := s.tbDerive x (src == 3); s.tbSource x true d.1 d.2 stamp) else (s, false)
  if !p.2 && srcDerived fb then (let d := p.1.tbDerive x (fb == 3); p.1.tbSource x false d.1 d.2 stamp) else p
/-- The derived source that a timebase follows: its source in use, or in HOLD and LOST the one it derives from; 0 where it follows none. -/
def State.tbFollows (s : State) (x : Nat) : Nat :=
  let st := s.rd TB.STATUS.STATE x
  let src := s.rd TB.CFG.SRC x
  let fb := s.rd TB.CFG.FALLBACK x
  let f := if st = tbPrimary then src else if st = tbFallback then fb else if st = tbOff then 0 else if srcDerived src then src else fb
  if srcDerived f then f else 0
/-- Timebase `x` takes the angle and the speed of its reference, where they differ from its own; whether it did (R43). -/
def State.tbTake (s : State) (x : Nat) : State × Bool :=
  let src := s.tbFollows x
  let d := s.tbDerive x (src == 3)
  let stamp := s.rd TB.STAMP (s.rd TB.CFG.REF x)
  if src = 0 ∨ (s.rdS TB.ANGLE x = toS 64 (ofS 64 d.1) ∧ s.rdS TB.SPEED.SPEED x = satS 32 d.2 ∧ s.rd TB.STAMP x = stamp) then (s, false)
  else (s.tbWrite x d.1 d.2 stamp false, true)
/-- Timebases derived from one that changed state inherit its angle and speed; their own state stays (R43). -/
def State.tbInherit (s : State) : Nat → Nat → State
  | 0, _ => s
  | f + 1, t =>
    s.forEach ((List.range 64).filter fun x => s.tbOn x && s.rd TB.CFG.REF x == t) fun s x =>
      let r := s.tbTake x
      if r.2 then r.1.tbInherit f x else r.1
/-- Every timebase derived from `t` takes the update, and so on through chains of references (R40, sources 2 and 3); where the update changed the
state of `t` (`ch`), one that does not take it inherits (R43). -/
def State.tbPropagate (s : State) : Nat → Nat → Bool → State
  | 0, _, _ => s
  | f + 1, t, ch =>
    s.forEach ((List.range 64).filter fun x => s.tbOn x && s.tbDerived x && s.rd TB.CFG.REF x == t) fun s x =>
      let r := s.tbOfferRef x (s.rd TB.STAMP t)
      if r.2 then r.1.tbPropagate f x (r.1.rd TB.STATUS.STATE x != s.rd TB.STATUS.STATE x)
      else if ch then (let q := r.1.tbTake x; if q.2 then q.1.tbInherit 64 x else q.1)
      else r.1

/-- An update of source `src` of timebase `t`, with everything derived from it. -/
def State.tbUpdate (s : State) (t src : Nat) (ang spd : Int) (stamp : Nat) : State :=
  let r := s.tbOffer t src ang spd stamp
  if r.2 then r.1.tbPropagate 64 t (r.1.rd TB.STATUS.STATE t != s.rd TB.STATUS.STATE t) else r.1

/-- A timebase freezes: it keeps the angle of this clock and its speed is 0 (R42, R439). -/
def State.tbFreeze (s : State) (t : Nat) : State :=
  let a := s.tbAngleAt t s.dtime
  (((s.wrS TB.ANGLE a t).wr TB.SPEED.SPEED 0 t).wr TB.STAMP s.dtime t).tbNote t s.dtime a 0 false
/-- A timebase enters LOST: frozen, its slots wait, its Babbitt inputs restart (R42, R49, R244). -/
def State.tbEnterLost (s : State) (t : Nat) : State :=
  ((((s.tbFreeze t).tbSetState t tbLost true).slotsTbLost t).babTbLost t).tbInherit 64 t
/-- A timebase enters HOLD, and LOST at once where HOLD = 0 (R42). -/
def State.tbEnterHold (s : State) (t : Nat) : State :=
  let run := if s.rd TB.STATUS.STATE t = tbPrimary then 0 else (s.tb t).consec
  let s := (s.tbSetState t tbHold true).updTb t fun h => { h with holdAt := s.dtime, consec := run }
  if s.rd TB.CFG.HOLD t = 0 then s.tbEnterLost t else s.tbInherit 64 t
/-- The primary of a timebase in state PRIMARY fails: it goes to its fallback, or to HOLD without one (R42). -/
def State.tbPrimaryFails (s : State) (t : Nat) : State :=
  if s.rd TB.STATUS.STATE t ≠ tbPrimary then s
  else if s.rd TB.CFG.FALLBACK t = 0 then s.tbEnterHold t
  else ((s.tbSetState t tbFallback true).updTb t fun h => { h with fbLast := none, fbSince := s.dtime, consec := 0, fresh := true }).tbInherit 64 t
/-- Axis `n` is reset or goes into STO: the timebase whose primary is its observer loses it (R42). -/
def State.tbAxisLost (s : State) (n : Nat) : State :=
  if s.rd TB.CFG.SRC n = 1 ∧ s.rd TB.CFG.KIND n = 0 then s.tbPrimaryFails n else s

/-- A timebase enters OFF: angle kept, speed 0, its slots without prediction, what derives from it inherits (R43, R49, R439). -/
def State.tbEnterOff (s : State) (t : Nat) : State :=
  let s := s.tbFreeze t
  let s := if s.rd TB.STATUS.STATE t = tbOff then s else (((s.tbSetState t tbOff false).slotsTbLost t).babTbLost t).tbInherit 64 t
  s.updTb t fun h => { h with primLast := none, fbLast := none, since := s.dtime, fbSince := s.dtime, consec := 0, ofs := 0, fresh := false }
/-- A timebase restarts: state OFF, and its configuration is checked again (R40, R439); every other timebase that the write closed into a
circle of references fails R40 with it. -/
def State.tbRestart (s : State) (t : Nat) : State :=
  let s := s.tbEnterOff t
  let s := s.raiseIf (!(s.tbValid t)) TB.STATUS.CFG_ERR t
  s.forEach ((List.range 64).filter fun x => x != t && s.tbReaches t 64 x && s.tbReaches x 64 t) fun s x =>
    (s.tbEnterOff x).raise TB.STATUS.CFG_ERR x

/-- The effect of a write of TB.CFG (R439): a change of EN, SRC, FALLBACK, REF or TIN restarts the timebase. -/
def State.fxTbCfg (s : State) (t v : Nat) : State × WErr :=
  let a := TB.CFG.EN.addr t
  let old := (s.reg a).toNat
  let r := s.writeFields a v
  if bits old 19 0 = bits (r.1.reg a).toNat 19 0 then r else (r.1.tbRestart t, r.2)
/-- The effect of a write of TB.RATIO (R439): a change restarts the timebase. -/
def State.fxTbRatio (s : State) (t v : Nat) : State × WErr :=
  let a := TB.RATIO.NUM.addr t
  let old := s.reg a
  let r := s.writeFields a v
  if r.1.reg a = old then r else (r.1.tbRestart t, r.2)
/-- The effect of a write of TB.SPEED: taken with SRC = 6, else read-only. The new speed moves the angle from the old STAMP on at once, before
a write of ANGLE_HI (R39; the model's choice, assumption log 16). -/
def State.fxTbSpeed (s : State) (t v : Nat) : State × WErr :=
  if s.rd TB.CFG.SRC t = 6 then
    let r := s.writeFields (TB.SPEED.SPEED.addr t) v
    (r.1.updTb t fun h => { h with words := match h.words with | [] => [] | w :: l => (w.1, w.2.1, r.1.rdS TB.SPEED.SPEED t) :: l }, r.2)
  else (s, .ok)
/-- The effect of a write of TB.ANGLE_LO: held with SRC = 6 (R15), else read-only. -/
def State.fxTbAngleLo (s : State) (t v : Nat) : State × WErr :=
  if s.rd TB.CFG.SRC t = 6 then (s.hold (TB.ANGLE.addr t) v, .ok) else (s, .ok)
/-- The effect of a write of TB.ANGLE_HI: with SRC = 6 an update with the current SPEED, stamped with this clock (R40). -/
def State.fxTbAngleHi (s : State) (t v : Nat) : State × WErr :=
  if s.rd TB.CFG.SRC t = 6 then
    (s.tbUpdate t 6 (toS 64 (s.pairValue (TB.ANGLE.addr t + 4) v)) (s.rdS TB.SPEED.SPEED t) s.dtime, .ok)
  else (s, .ok)

/-- TB_RESTART (R439): a write of TB.CFG, or of TB.RATIO. -/
def execTbRestart (m : Fin 64) (t : Fin 64) (ratio : Bool) (v : Word) (s : State) : Host.Outcome State Fault Refusal :=
  if ratio then .next (s.busWriteWith m (TB.RATIO.NUM.addr t) false fun s => s.fxTbRatio t v.toNat)
  else .next (s.busWriteWith m (TB.CFG.EN.addr t) false fun s => s.fxTbCfg t v.toNat)
/-- TB_SOFTWARE_UPDATE (R40): a write of TB.ANGLE_HI. -/
def execTbSoftwareUpdate (m : Fin 64) (t : Fin 64) (v : Word) (s : State) : Host.Outcome State Fault Refusal :=
  .next (s.busWriteWith m (TB.ANGLE.addr t + 4) false fun s => s.fxTbAngleHi t v.toNat)
/-- TB_ANGLE_LO_READ (R52): a read of TB.ANGLE_LO, which latches the group. -/
def execTbAngleLoRead (m : Fin 64) (t : Fin 64) (s : State) : Host.Outcome State Fault Refusal :=
  .next (s.busRead m (TB.ANGLE.addr t))
/-- TB_SOURCE_SILENT (R42): the source in use has been silent for 4 expected intervals. -/
def execTbSourceSilent (t : Fin 64) (s : State) : Host.Outcome State Fault Refusal :=
  let h := s.tb t
  let st := s.rd TB.STATUS.STATE t
  if !(s.tbOn t) then .next s
  else if st = tbPrimary ∧ s.tbSilent t (s.rd TB.CFG.SRC t) h.since h.primLast = true then .next (s.tbPrimaryFails t)
  else if st = tbFallback ∧ s.tbSilent t (s.rd TB.CFG.FALLBACK t) h.fbSince h.fbLast = true then .next (s.tbEnterHold t)
  else .next s
/-- TB_HOLD_EXPIRY (R42): HOLD × 4 ms have passed in HOLD. -/
def execTbHoldExpiry (t : Fin 64) (s : State) : Host.Outcome State Fault Refusal :=
  if s.rd TB.STATUS.STATE t = tbHold ∧ (s.tb t).holdAt + s.rd TB.CFG.HOLD t * 4 * msTicks ≤ s.dtime then .next (s.tbEnterLost t)
  else .next s

/-! ### Inputs -/

/-- The tachometer correction of a source-3 timebase (R41): the angle with fraction TACH_OFFSET nearest the extrapolated one, ties
higher, at the derived speed. -/
def State.tachCorrect (s : State) (t stamp : Nat) : State :=
  let ext := s.tbAngleAt t stamp
  let off : Int := s.rd TB.TACH.TACH_OFFSET t
  let new := (ext - off + 2 ^ 23) / 2 ^ 24 * 2 ^ 24 + off
  let base := s.tbDerive t false
  let r := s.rd TB.CFG.REF t
  let refAt := scaleRatio (s.tbAngleAt r stamp) (s.rd TB.RATIO.NUM t) (s.rd TB.RATIO.DEN t)
  let s := s.updTb t fun h => { h with ofs := new - refAt }
  (s.tbWrite t new base.2 stamp true).tbPropagate 64 t false

/-- What a tachometer input keeps beside its registers, and the interval counter of the line-synchronising input, take new values. -/
def State.setTach (s : State) (k : Nat) (h : TachH) : State := { s with tachs := Tab.put {} s.tachs k h }
def State.setSsiEnd (s : State) (k : Nat) (e : Option Nat) : State := { s with ssiEnd := Tab.put none s.ssiEnd k e }
def State.updTime (s : State) (f : TimeH → TimeH) : State := { s with timeH := f s.timeH }

/-- An accepted pulse of tachometer input `k` corrects every timebase in use with source 3 on that input (R41). -/
def State.tachPulse (s : State) (k stamp : Nat) : State :=
  s.forEach (List.range 64) fun s t =>
    let st := s.rd TB.STATUS.STATE t
    if s.tbOn t && s.rd TB.CFG.TIN t == k && s.tbSrcInUse t == 3 && (st == tbPrimary || st == tbFallback) then s.tachCorrect t stamp else s
/-- TACH_PULSE (R414): the ball of input `k` has stood at a level since a clock; once that has passed the filter of FILT µs, the edge that EDGE
selects is judged against the previous interval and stamped with its ball crossing; an accepted pulse corrects every timebase in use with
source 3 on that input (R41). A timebase in HOLD, LOST or OFF takes no pulse (the model's choice, assumption log 16). -/
def execTachPulse (k : Fin 8) (level : PinLevel) (s : State) : Host.Outcome State Fault Refusal :=
  let h := Tab.get ({} : TachH) s.tachs k
  if !(s.flag IOS.TACH_CFG.EN k) || !(s.ballPassed level (s.rd IOS.TACH_CFG.FILT k * usTicks)) || level.level == h.level then .next s else
  let stamp := level.since
  let s := s.setTach k { h with level := level.level }
  if level.level == s.flag IOS.TACH_CFG.EDGE k then .next s else
  let rej := match h.last, h.interval with
    | some l, some i => decide (4 * (stamp - l) < i)
    | _, _ => false
  if rej then .next (s.incWrap IOS.TACH_STATUS.REJ_CNT k)
  else
    let h' : TachH := { level := level.level, last := some stamp, interval := match h.last with | some l => some (stamp - l) | none => none }
    .next (((s.setTach k h').incWrap IOS.TACH_STATUS.PULSE_CNT k).tachPulse k stamp)

/-- Binary value of a Gray code of `w` bits. -/
def grayDecode : Nat → Nat → Nat
  | 0, _ => 0
  | w + 1, g =>
    let hi := grayDecode w (g / 2)
    2 * hi + (hi + g) % 2
/-- The angle word of an SSI position: turns above, the single turn scaled to 24 bits (R415). -/
def ssiAngle (st pos : Nat) : Int :=
  let single : Int := ((pos % 2 ^ st : Nat) : Int)
  let turns : Int := ((pos / 2 ^ st : Nat) : Int)
  turns * 2 ^ 24 + (if st ≤ 24 then single * 2 ^ (24 - st) else rneShr single (st - 24))
/-- A frame's parity is good: PARITY 0 none, 1 even, 2 odd. -/
def ssiParityOk (mode bitsN raw : Nat) (p : Bool) : Bool :=
  let ones := (popCount bitsN raw + b2n p) % 2
  if mode = 0 then true else if mode = 1 then ones == 0 else ones == 1

/-- A valid frame of encoder `k` updates every timebase that has source 4 with that input (R36, R415). -/
def State.ssiUpdate (s : State) (k : Nat) (ang : Int) (stamp : Nat) : State :=
  s.forEach (List.range 64) fun s t =>
    if s.rd TB.CFG.TIN t == k && (s.rd TB.CFG.SRC t == 4 || s.rd TB.CFG.FALLBACK t == 4) then
      s.tbUpdate t 4 ang (Config.ssiSpeed (s.rdS TB.ANGLE t) ang (stamp - s.rd TB.STAMP t)) stamp
    else s
/-- SSI_FRAME (R415): a frame of port `k`, started at `start` and latched at `stamp`; a frame with a parity error, a data line not idle at
its end, or a start inside the monoflop time is discarded and counted. -/
def execSsiFrame (k : Fin 8) (start : Nat) (stamp : Nat) (raw : Nat) (parity : Bool) (idle : Bool) (s : State) : Host.Outcome State Fault Refusal :=
  if !(s.flag IOS.SSI_CFG0.EN k) ∨ start % (s.rd IOS.SSI_CFG1.RATE k * 3200) ≠ 0 then .next s else
  let nb := s.rd IOS.SSI_CFG0.BITS k
  let mono := match Tab.get none s.ssiEnd k with
    | some e => decide (start < e + s.rd IOS.SSI_CFG0.MONO k * usTicks)
    | none => false
  let s := s.setSsiEnd k (some s.dtime)
  if !(ssiParityOk (s.rd IOS.SSI_CFG0.PARITY k) nb (raw % 2 ^ nb) parity) ∨ idle = false ∨ mono = true then .next (s.incWrap IOS.SSI_STATUS.ERR_CNT k)
  else
    let s := s.incWrap IOS.SSI_STATUS.FRAME_CNT k
    let pos := if s.flag IOS.SSI_CFG0.GRAY k then grayDecode nb (raw % 2 ^ nb) else raw % 2 ^ nb
    let ang := ssiAngle (s.rd IOS.SSI_CFG0.ST k) pos
    .next (s.ssiUpdate k ang stamp)

/-- An accepted edge of the line whose period is `p` updates every timebase that has source 5 (R36, R416). -/
def State.lsyncUpdate (s : State) (stamp p : Nat) : State :=
  s.forEach (List.range 64) fun s t =>
    if s.rd TB.CFG.SRC t == 5 || s.rd TB.CFG.FALLBACK t == 5 then
      s.tbUpdate t 5 ((s.tbAngleAt t stamp + 2 ^ 23) / 2 ^ 24 * 2 ^ 24) (scaleRatio (2 ^ 48) 1 p) stamp
    else s
/-- The edge `stamp` becomes the reference of the next period; the last period is `q`, and the register shows `p`. -/
def State.lsyncRef (s : State) (stamp : Nat) (q : Option Nat) (p : Nat) : State :=
  (s.updTime fun h => { h with lsRef := some stamp, lsPeriod := q }).wr IOS.LSYNC_PERIOD.PERIOD p
/-- LSYNC_EDGE (R416): the line-sync ball has stood at a level since a clock; once that has passed the filter of FILT × 10 µs, a rising edge,
stamped with its ball crossing, is judged by the first of the six cases that applies. A qualified edge stands for a whole revolution, the one
nearest the extrapolated angle. -/
def execLsyncEdge (level : PinLevel) (s : State) : Host.Outcome State Fault Refusal :=
  if !(s.flag IOS.LSYNC_CFG.EN) || !(s.ballPassed level (s.rd IOS.LSYNC_CFG.FILT * 10 * usTicks)) || level.level == s.timeH.lsLevel then .next s else
  let stamp := level.since
  let s := s.updTime fun h => { h with lsLevel := level.level }
  if !level.level then .next s else
  let h := s.timeH
  match h.lsRef with
  | none => .next (s.updTime fun h => { h with lsRef := some stamp, lsPeriod := none })
  | some r =>
    let p := stamp - r
    if 7111111 < p then .next (s.lsyncRef stamp none 0)
    else if p < 4923077 then .next (s.incWrap IOS.LSYNC_STATUS.REJ_CNT)
    else
      match h.lsPeriod with
      | none => .next (s.lsyncRef stamp (some p) p)
      | some q =>
        if 20 * (max p q - min p q) ≤ q then
          .next ((s.lsyncRef stamp (some p) p).lsyncUpdate stamp p)
        else .next (s.incWrap IOS.LSYNC_STATUS.REJ_CNT)

/-- The effect of a write of IOS.TACH_CFG: an enable starts the input without a previous pulse (R414), its filtered level low (the model's choice,
log 16). -/
def State.fxTachCfg (s : State) (k v : Nat) : State × WErr :=
  let was := s.flag IOS.TACH_CFG.EN k
  let r := s.writeFields (IOS.TACH_CFG.EN.addr k) v
  if !was && r.1.flag IOS.TACH_CFG.EN k then ({ r.1 with tachs := Tab.put {} r.1.tachs k {} }, r.2) else r
/-- The effect of a write of IOS.LSYNC_CFG: an enable starts the input without a reference edge (R416). -/
def State.fxLsyncCfg (s : State) (v : Nat) : State × WErr :=
  let was := s.flag IOS.LSYNC_CFG.EN
  let r := s.writeFields IOS.LSYNC_CFG.EN.base v
  if !was && r.1.flag IOS.LSYNC_CFG.EN then
    (({ r.1 with timeH := { r.1.timeH with lsLevel := false, lsRef := none, lsPeriod := none } }).wr IOS.LSYNC_PERIOD.PERIOD 0, r.2)
  else r

end Sys2Proof.Machine
end

