-- ==== Sys2Proof/Machine/Axis.lean ====
section
/-!
DEFINITION. What every part of the module asks of an axis: clearing EN, ending a start, safe torque-off by group and by axis, SS1,
and the raising of a safety fault with its reaction (R74, R140, R145, R311, R312, R318, R329, R330).
-/
namespace Sys2Proof.Machine

/-- The state of an axis's PWM channel, current loop, commutation and safety entry beside the registers, and how it changes. -/
def State.pw (s : State) (n : Nat) : PwmH := Tab.get {} s.pwms n
def State.updPw (s : State) (n : Nat) (f : PwmH → PwmH) : State := { s with pwms := Tab.put {} s.pwms n (f (s.pw n)) }
def State.fo (s : State) (n : Nat) : FocH := Tab.get {} s.focs n
def State.updFo (s : State) (n : Nat) (f : FocH → FocH) : State := { s with focs := Tab.put {} s.focs n (f (s.fo n)) }
def State.cm (s : State) (n : Nat) : CmtH := Tab.get {} s.cmts n
def State.updCm (s : State) (n : Nat) (f : CmtH → CmtH) : State := { s with cmts := Tab.put {} s.cmts n (f (s.cm n)) }
def State.sx (s : State) (n : Nat) : SafAxH := Tab.get {} s.safAxs n
def State.updSx (s : State) (n : Nat) (f : SafAxH → SafAxH) : State := { s with safAxs := Tab.put {} s.safAxs n (f (s.sx n)) }

/-- The 48 axes, the 16 groups, the 8 segments. -/
def axes : List Nat := List.range 48
def groups : List Nat := List.range 16
/-- An axis runs. -/
def State.axOn (s : State) (n : Nat) : Bool := s.flag AX.PWM_CTRL.EN n

/-- The STO group of an axis; 31 is none (R311). -/
def State.groupOfAxis (s : State) (n : Nat) : Nat := s.rd AX.SAF_CFG.GROUP n
/-- The axes of a group. -/
def State.axesOf (s : State) (g : Nat) : List Nat := axes.filter fun n => s.groupOfAxis n == g
/-- A cause of STO for group `g` holds, beside the latch (R311). -/
def State.stoCause (s : State) (g : Nat) : Bool :=
  ((List.range 16).any fun k => s.rd SAF.SI_CFG.FUNC 0 k == 1 && s.rdBit SAF.SI_GROUPS.GROUPS g 0 k && s.rdBit SAF.SI_STATE.LOW k)
  || (axes.any fun n => s.groupOfAxis n == g && (s.sx n).react == 4)
  || s.rdBit SAF.STO_REQ.GROUPS g || s.flag THM.STATUS.SHUT
/-- The STO of a group is active: a cause, or latched and not acknowledged (R311, R315). -/
def State.stoActive (s : State) (g : Nat) : Bool := s.rdBit SAF.GROUP_STATE.LOW g
/-- The STO of an axis is active: its group's, or its own reaction where it has no group. -/
def State.axSto (s : State) (n : Nat) : Bool :=
  (s.groupOfAxis n < 16 && s.stoActive (s.groupOfAxis n)) || (s.sx n).react == 4

/-! ### Outputs (R53 to R56, R65, R69, R71, R74, R133, R141, R142) -/

/-- A crossbar switch moves axis `n` (R76). -/
def State.pxbMoving (s : State) (n : Nat) : Bool :=
  (List.range 2).any fun sp => match Tab.get none s.pxbs sp with
    | some x => x.axis == n
    | none => false
/-- What the six outputs of an axis do (R71, R74, R141, R142): 0 inactive, 1 switching, 2 low sides on, 3 high sides on. Nothing is driven
before the first boundary. -/
def State.outMode (s : State) (n : Nat) : Nat :=
  if s.axSto n || s.pxbMoving n then 0
  else if s.axOn n then
    if (s.pw n).periods = 0 then 0 else
    match s.rd AX.CMT_STATUS.STATE n with
    | 1 => 0
    | 2 => 0
    | 3 => 2
    | _ => 1
  else match (s.pw n).asc with
    | 1 => 2
    | 2 => 3
    | _ => 0
/-- The counter of an axis that runs (R55): t up to TOP and 2 × TOP − t after it, t being the ticks since the boundary. -/
def State.pwmCounter (s : State) (n : Nat) : Nat :=
  let d := (s.pw n).drv
  let t := s.dtime - d.at_
  if t ≤ d.top then t else 2 * d.top - t

/-- The two sides of a phase at step `e` after the boundary, high and low (R56, R65): the side that turns off does so at the edge, the other one
turns on its dead time later. -/
def PhaseH.gates (p : PhaseH) (dtH dtL : Nat) (e : Int) : Bool × Bool :=
  match p.edges with
  | none => if p.full then (p.was || decide ((dtH : Int) ≤ e), false) else (false, !p.was || decide ((dtL : Int) ≤ e))
  | some (r, f) =>
    if e < r then (false, !p.was || decide ((dtL : Int) ≤ e))
    else if e < f then (decide (r + dtH ≤ e), false)
    else (false, decide (f + dtL ≤ e))
/-- The instants at which a side of a phase turns on in a period, in steps after the boundary, each with whether it is the high side. A low side
that conducts up to the boundary goes on and turns on no more. -/
def PhaseH.turnOns (p : PhaseH) (dtH dtL : Nat) : List (Int × Bool) :=
  let first : List (Int × Bool) := if p.was then [((dtL : Int), false)] else if p.lowOn then [] else [(0, false)]
  match p.edges with
  | none => if p.full then (if p.was then [] else [((dtH : Int), true)]) else first
  | some (r, f) => first ++ [(r + dtH, true), (f + dtL, false)]
/-- A period covers step `x` of DEVICE TIME. -/
def DriveH.covers (d : DriveH) (x : Int) : Bool :=
  d.top != 0 && decide (32 * (d.at_ : Int) ≤ x) && (match d.stop with
    | some c => decide (x < 32 * (c : Int))
    | none => true)
/-- Dead times of an axis in steps. -/
def State.dtHs (s : State) (n : Nat) : Nat := s.rd AX.PWM_DT.DT_HS n
def State.dtLs (s : State) (n : Nat) : Nat := s.rd AX.PWM_DT.DT_LS n
/-- The sides of phase `j` that the edges command at step `x` of DEVICE TIME, in the present or one of the two previous periods, without windows. The
longest window with the 32 ticks before it reaches no further back (R131, R135). -/
def State.commanded (s : State) (n j : Nat) (x : Int) : Bool × Bool :=
  let h := s.pw n
  let at_ (d : DriveH) : Bool × Bool := (d.phases.getD j {}).gates (s.dtHs n) (s.dtLs n) (x - 32 * d.at_)
  if h.drv.covers x then at_ h.drv
  else if h.prv.covers x && decide (x < 32 * (h.drv.at_ : Int)) then at_ h.prv
  else if h.pp.covers x && decide (x < 32 * (h.prv.at_ : Int)) then at_ h.pp
  else (false, false)
/-- The phase that listens at crossing `k` (R129). -/
def phaseOf (k : Nat) : Nat := [0, 2, 1, 0, 2, 1].getD k 0
/-- A listening window of `phase` from `o` to `c` keeps a side with dead time `dt` of phase `j` off at step `x`: from its opening to the later of its
close and the dead time, in whole ticks, after its opening (R133). -/
def windowBlocks (phase o c j dt : Nat) (x : Int) : Bool :=
  phase == j && decide (32 * (o : Int) ≤ x) && decide (x < 32 * ((max c (o + (dt + 31) / 32) : Nat) : Int))
/-- A window, open or the last one that was, keeps a side of phase `j` off at step `x`. -/
def State.windowOff (s : State) (n j dt : Nat) (x : Int) : Bool :=
  (match (s.cm n).win with
    | some w => w.isOpen && windowBlocks (phaseOf w.k) w.tOpen w.tClose j dt x
    | none => false) ||
  (match (s.cm n).lastWin with
    | some (p, o, c) => windowBlocks p o c j dt x
    | none => false)
/-- The sides of phase `j` as the edges and the listening windows leave them at step `x`. -/
def State.driven (s : State) (n j : Nat) (x : Int) : Bool × Bool :=
  let g := s.commanded n j x
  (g.1 && !(s.windowOff n j (s.dtHs n) x), g.2 && !(s.windowOff n j (s.dtLs n) x))
/-- The high and the low side of phase `j` are active at step `x` of DEVICE TIME, in the present mode of the outputs. -/
def State.sides (s : State) (n j : Nat) (x : Int) : Bool × Bool :=
  match s.outMode n with
  | 0 => (false, false)
  | 1 => s.driven n j x
  | 2 => (false, decide (32 * ((s.pw n).sideAt : Int) + s.dtLs n ≤ x))
  | _ => (decide (32 * ((s.pw n).sideAt : Int) + s.dtHs n ≤ x), false)
/-- The level of an output ball at step `x` (R53, R54): none while it is high-impedance; the strapped inactive level, or its complement while the
side is active. -/
def State.ball (s : State) (n j : Nat) (high : Bool) (x : Int) : Option Bool :=
  if s.pwr.hiZ then none
  else
    let idle := s.flag (if high then PWR.STRAPS.PWMSAFE_H else PWR.STRAPS.PWMSAFE_L)
    let on := if high then (s.sides n j x).1 else (s.sides n j x).2
    some (idle != on)

/-- A start holds the outputs off the edges at clock `c` (R141, R142). -/
def PwmH.holds (h : PwmH) (c : Nat) : Bool :=
  match h.hold with
  | some (a, none) => decide (a ≤ c)
  | some (a, some b) => decide (a ≤ c ∧ c < b)
  | none => false
/-- The clock at which the edges took the outputs back, where a side then turned on. -/
def State.holdOns (s : State) (n : Nat) : List Nat :=
  match (s.pw n).hold with
  | some (_, some b) => if [0, 1, 2].any fun j => let g := s.driven n j (32 * b); g.1 || g.2 then [b] else []
  | _ => []
/-- The clocks at which an output of the axis turned on in a period. -/
def State.driveOns (s : State) (n : Nat) (d : DriveH) : List Nat :=
  if d.top = 0 then [] else
  ([0, 1, 2].flatMap fun j => ((d.phases.getD j {}).turnOns (s.dtHs n) (s.dtLs n)).filterMap fun t =>
    let x := 32 * (d.at_ : Int) + t.1
    let g := s.driven n j x
    if d.covers x && (if t.2 then g.1 else g.2) && !((s.pw n).holds (x / 32).toNat) then some (x / 32).toNat else none)
/-- The clocks at which a side of the last window's phase turned on after it (R133). -/
def State.windowOns (s : State) (n : Nat) : List Nat :=
  match (s.cm n).lastWin with
  | some (p, o, c) =>
    let h := max c (o + (s.dtHs n + 31) / 32)
    let l := max c (o + (s.dtLs n + 31) / 32)
    (if (s.driven n p (32 * h)).1 then [h] else []) ++ (if (s.driven n p (32 * l)).2 then [l] else [])
  | none => []
/-- The latest turn-ons of any of the axis's six outputs (R70). -/
def State.turnOns (s : State) (n : Nat) : List Nat :=
  let h := s.pw n
  let side := match s.outMode n with
    | 2 => [h.sideAt + s.dtLs n / 32]
    | 3 => [h.sideAt + s.dtHs n / 32]
    | _ => []
  s.driveOns n h.drv ++ s.driveOns n h.prv ++ s.holdOns n ++ s.windowOns n ++ side

/-- A state of CMT_STATUS in which the edges do not drive the outputs: LISTEN, WAIT and BRAKE (R141, R142). -/
def cmtHolds (st : Nat) : Bool := decide (1 ≤ st ∧ st ≤ 3)
/-- A start goes into a state of CMT_STATUS: the outputs are held off the edges from this clock, or follow them again. -/
def State.cmtState (s : State) (n st : Nat) : State :=
  let was := cmtHolds (s.rd AX.CMT_STATUS.STATE n)
  let now := s.dtime
  let s := s.wr AX.CMT_STATUS.STATE st n
  if was == cmtHolds st then s
  else s.updPw n fun h => { h with hold := if was then h.hold.map fun x => (x.1, some now) else some (now, none) }
/-- A start in progress ends with a RESULT; the recorder holds RESULT and the measured speed (R140). -/
def State.startEnd (s : State) (n result : Nat) : State :=
  let s := (s.cmtState n 0).wr AX.CMT_STATUS.RESULT result n
  let s := s.updCm n fun h => { h with cross := [], waitEnd := none, brakes := 0, good := [], handed := false, abort := false }
  s.emit 0x0301 (srcAxis n) ([result, 0, 0, 0] ++ le 4 (s.rd AX.CMT_MEAS_SPD.VALUE n))
/-- A planned or open window is abandoned without a count (R132). -/
def State.windowDrop (s : State) (n : Nat) : State :=
  match (s.cm n).win with
  | none => s
  | some w =>
    (s.updCm n fun h => { h with win := none, lastClose := if w.isOpen then some s.dtime else h.lastClose,
                                 lastWin := if w.isOpen then some (phaseOf w.k, w.tOpen, s.dtime) else h.lastWin }).clear AX.CMT_STATUS.WINDOW n

/-- EN of an axis clears (R71, R74, R75, R110, R132, R145): no further boundary, no step in progress, no window, a start aborted with
`result`; the outputs go to the strapped inactive level, or to a short circuit `asc` (1 low, 2 high). With PD_AUTO the current
converters power down (R102). -/
def State.axisOff (s : State) (n asc result : Nat) : State :=
  let now := s.dtime
  let s := s.clear AX.PWM_CTRL.EN n
  let s := s.updPw n fun h => { h with nextB := none, capDone := false, cap := none, asc := asc, sideAt := if h.asc = asc then h.sideAt else now,
                                       drv := { h.drv with stop := some (h.drv.stop.getD now) },
                                       awake := h.awake && !(s.flag AX.ADC_CTRL.PD_AUTO n),
                                       wakeAt := if s.flag AX.ADC_CTRL.PD_AUTO n then none else h.wakeAt }
  let s := s.updFo n fun h => { h with step := none, fresh := true }
  let s := s.windowDrop n
  if s.rd AX.CMT_STATUS.STATE n = 0 then s else s.startEnd n result
/-- RESULT = ABORTED (R145). -/
def resAborted : Nat := 9

/-! ### Safe torque-off -/

/-- STO acts on an axis: EN cleared, outputs inactive, any short circuit ended, the release withdrawn, its timebase without its
observer (R71, R74, R311, R315, R42). -/
def State.axisSto (s : State) (n : Nat) : State :=
  let s := s.axisOff n 0 resAborted
  let s := s.updPw n fun h => { h with released := false, heldAct := none, heldBus := false, heldSto := none }
  let s := s.updSx n fun h => { h with ss1 := none }
  (s.wr AX.SAF_STATUS.STATE 0 n).tbAxisLost n
/-- A group is released while any of its axes is (R310). -/
def State.groupReleased (s : State) (g : Nat) : Bool := (s.axesOf g).any fun n => (s.pw n).released
/-- The clock of each group's last change of an output, after the groups' levels `old` have become `new`. -/
def changedAt (old new now : Nat) (m : Tab Nat) : Tab Nat := groups.foldl (fun m g => if bit old g = bit new g then m else Tab.put 0 m g now) m
/-- The commanded levels of the STO outputs: high while the group is released, outside a test pulse; channel B low without heartbeat or
with a bad clock (R310, R313). -/
def State.stoOutputs (s : State) : State :=
  let rel := groups.foldl (fun m g => setBit m g (s.groupReleased g && !(s.stoActive g))) 0
  let h := s.saf
  let a := rel - (rel &&& h.pulseA)
  let b := if h.clockBad || h.hbLost then 0 else rel - (rel &&& h.pulseB)
  { s with saf := { h with outA := a, outB := b, aAt := changedAt h.outA a s.dtime h.aAt, bAt := changedAt h.outB b s.dtime h.bAt } }
/-- The STO of each group of `gs` that is not active yet becomes active: the request is registered, EN of the group's axes cleared, the
group latched (R311, R312, R315). `code` is the fault code, or 0, that the recorder event gives. -/
def State.stoSet (s : State) (code : Nat) (gs : List Nat) : State :=
  let new := gs.filter fun g => !(s.stoActive g)
  let s := if new = [] then s else s.twinSend pkSafety (Config.linkBytes pkSafety (1 :: new))
  let s := s.forEach new fun s g =>
    let s := s.emit 0x0A02 (srcGroup g) [code]
    let s := (s.wrBit SAF.GROUP_STATE.LOW g true).wrBit SAF.GROUP_STATE.HIGH g true
    s.forEach (s.axesOf g) fun s n => s.axisSto n
  s.stoOutputs
/-- The causes of STO are formed again (R311); an axis of no group with an STO reaction is held off by itself. -/
def State.stoEval (s : State) (code : Nat) : State :=
  let s := s.forEach axes fun s n => if (s.sx n).react == 4 && 16 ≤ s.groupOfAxis n && s.axOn n then s.axisSto n else s
  s.stoSet code (groups.filter fun g => s.stoCause g)

/-! ### Faults and reactions -/

/-- Reactions in rising order (R329). -/
def rcReport : Nat := 1
def rcDerate : Nat := 2
def rcSs1 : Nat := 3
def rcSto : Nat := 4

/-- STO is requested for an axis: its group's, or its own where it has no group (R311, R318). `code` is what the record gives. -/
def State.axStoReq (s : State) (n code : Nat) : State :=
  if s.groupOfAxis n < 16 then s.stoSet code [s.groupOfAxis n] else (s.axisSto n).stoOutputs
/-- An SS1 request on an axis (R318): the loops go to automatic, the ramp to 0 at SS1_DEC; on an axis in a start it is an STO, and where the STO is
active already it is reached. -/
def State.ss1Start (s : State) (n code : Nat) : State :=
  if s.axSto n then s
  else if s.rd AX.CMT_STATUS.STATE n ≠ 0 then s.axStoReq n code
  else if (s.sx n).ss1.isSome then s
  else
    let s := (s.clear AX.FOC_CTRL.CUR_MAN n).raise AX.FOC_CTRL.SPD_EN n
    (s.updSx n fun h => { h with ss1 := some (s.dtime, s.rd AX.SAF_SPEED.SPEED n) }).wr AX.SAF_STATUS.STATE 2 n

/-- The reaction of an axis rises to `r` for fault `code` (R329): a reaction in force only rises. -/
def State.react (s : State) (n code r : Nat) : State :=
  let old := (s.sx n).react
  let s := s.updSx n fun h => { h with react := max h.react r, causes := if h.causes.contains code then h.causes else code :: h.causes }
  let s := (s.raise AX.SAF_STATUS.REACT n).wr AX.SAF_STATUS.CODE code n
  let s := if r = rcDerate ∧ (s.sx n).ceil = none then
      let c := s.rd SAF.DERATE.TQ
      (s.updSx n fun h => { h with ceil := some c }).wr AX.SPD_DERATE.TQ (min (s.rd AX.SPD_DERATE.TQ n) c) n
    else s
  let s := if r = rcSs1 ∧ old < rcSs1 then s.ss1Start n code else s
  if (s.sx n).react = rcSto then s.stoEval code else s

/-- A fault is shown: SAF.STATUS.FAULT, FAULT_LAST with its time, and the recorder event (R329, R330). -/
def State.faultShow (s : State) (f : FaultH) : State :=
  let s := s.raise SAF.STATUS.FAULT
  let s := ((s.wr SAF.FAULT_LAST.CODE f.code).wr SAF.FAULT_LAST.AXIS (f.axis.getD 63)).wr SAF.FAULT_LAST.UNIT f.unit
  (s.wr SAF.FAULT_TIME f.at_).emit 0x0A01 f.source [f.code, f.unit, f.react - 1]
/-- Faults that arise together react: each is shown, and an axis takes the highest of their reactions (R329). -/
def State.faultTake (s : State) (fs : List FaultH) : State :=
  let s := s.forEach fs State.faultShow
  let s := s.forEach (axes.filter fun n => fs.any fun f => f.axes.contains n) fun s n =>
    let mine := fs.filter fun f => f.axes.contains n
    let top := mine.foldl (fun m f => max m f.react) 0
    let s := s.updSx n fun h => { h with causes := (mine.map (·.code)).foldl (fun l k => if l.contains k then l else k :: l) h.causes }
    s.react n (((mine.find? fun f => f.react == top).map (·.code)).getD 0) top
  s.forEach (fs.filter fun f => f.groups != []) fun s f => s.stoSet f.code f.groups
/-- A fault that arises outside a window reacts at once (R329). -/
def State.faultRaise (s : State) (f : FaultH) : State := s.faultTake [{ f with at_ := s.dtime }]
/-- A fault found in a window reacts at the window's end (R329). -/
def State.faultHold (s : State) (f : FaultH) : State := { s with saf := { s.saf with due := s.saf.due ++ [{ f with at_ := s.dtime }] } }
/-- A fault of one axis with its reaction; UNIT names its group or its segment (SAF.FAULT_LAST). -/
def axFaultOf (n code unit r : Nat) : FaultH := { code := code, axis := some n, unit := unit, source := srcAxis n, react := r, axes := [n] }
/-- A fault of a segment, a unit or the module, recorded with SOURCE module (R366), with a reaction on a list of axes (REPORT where the list
is empty). -/
def faultOf (code unit r : Nat) (ax : List Nat) : FaultH := { code := code, unit := unit, source := srcModule, react := r, axes := ax }
/-- A fault of one axis, outside a window. -/
def State.axFault (s : State) (n code unit r : Nat) : State := s.faultRaise (axFaultOf n code unit r)
/-- A fault of a segment, a unit or the module, outside a window. -/
def State.fault (s : State) (code unit r : Nat) (ax : List Nat) : State := s.faultRaise (faultOf code unit r ax)
/-- A fault whose reaction is STO of groups. -/
def State.groupFault (s : State) (code unit : Nat) (gs : List Nat) : State :=
  s.faultRaise { code := code, unit := unit, source := (match gs with | g :: _ => srcGroup g | [] => srcModule), react := rcSto,
                 axes := axes.filter fun n => gs.contains (s.groupOfAxis n), groups := gs }
/-- The cause of a fault on an axis has ended; the reaction stays until acknowledged (R329). -/
def State.causeEnded (s : State) (n code : Nat) : State := s.updSx n fun h => { h with causes := h.causes.filter (· ≠ code) }
/-- Fault `code` of axis `n` rests on the condition of segment `b`, whatever segment the axis is given later. -/
def State.segCause (s : State) (b code n : Nat) : State :=
  s.updSx n fun h => { h with segCauses := if h.segCauses.contains (code, b) then h.segCauses else (code, b) :: h.segCauses }
/-- The condition of segment `b` behind fault `code` has ended: so has the cause on every axis that rests on no other segment. -/
def State.segEnded (s : State) (b code : Nat) : State :=
  s.forEach axes fun s n =>
    if (s.sx n).segCauses.contains (code, b) then
      let s := s.updSx n fun h => { h with segCauses := h.segCauses.filter (· ≠ (code, b)) }
      if (s.sx n).segCauses.any (·.1 == code) then s else s.causeEnded n code
    else s
/-- A fault of segment `b` with its reaction on the segment's axes. -/
def State.segFault (s : State) (code b r : Nat) (ax : List Nat) : State :=
  (s.fault code b r ax).forEach ax fun s n => s.segCause b code n

/-- Selectable reactions of R330, as SAF.FAULT_CFG has them. -/
def State.rcMeasDeg (s : State) : Nat := match s.rd SAF.FAULT_CFG.MEAS_DEG with | 1 => rcSs1 | 2 => rcSto | _ => rcDerate
def State.rcSpeedDisc (s : State) : Nat := if s.flag SAF.FAULT_CFG.SPEED_DISC then rcSto else rcSs1
def State.rcSingle (s : State) : Nat := match s.rd SAF.FAULT_CFG.SINGLE with | 1 => rcSs1 | 2 => rcSto | _ => rcReport
def State.rcPosLost (s : State) : Nat := if s.flag SAF.FAULT_CFG.POS_LOST then rcSto else rcSs1
def State.rcChopStuck (s : State) : Nat := if s.flag SAF.FAULT_CFG.CHOP_STUCK then rcSs1 else rcReport
def State.rcBusUv (s : State) : Nat := if s.flag SAF.FAULT_CFG.BUS_UV then rcSs1 else rcReport
def State.rcTwinLost (s : State) : Nat := if s.flag SAF.FAULT_CFG.TWIN_LOST then rcSto else rcSs1
def State.rcTwinFence (s : State) : Nat := if s.flag SAF.FAULT_CFG.TWIN_FENCE then rcSs1 else rcReport

/-- The value AX.SPD_DERATE.TQ takes when `v` is written: never above the ceiling of a DERATE reaction (R329). -/
def State.derateTq (s : State) (n v : Nat) : Nat :=
  match (s.sx n).ceil with
  | some c => min v c
  | none => v
/-- AX.SPD_DERATE is written by the result path or by a master: never above the ceiling of a DERATE reaction, and of two writes in one
clock each field takes the smaller value (R126, R256, R329). -/
def State.fxSpdDerate (s : State) (n v : Nat) : State × WErr :=
  let old := (s.rd AX.SPD_DERATE.TQ n, s.rd AX.SPD_DERATE.ACC n)
  let same := decide ((s.sx n).derAt = some s.dtime)
  let now := s.dtime
  let r := s.writeFields (AX.SPD_DERATE.TQ.addr n) v
  let s := r.1
  let tq := s.derateTq n (s.rd AX.SPD_DERATE.TQ n)
  let acc := s.rd AX.SPD_DERATE.ACC n
  let s := (s.wr AX.SPD_DERATE.TQ (if same then min tq old.1 else tq) n).wr AX.SPD_DERATE.ACC (if same then min acc old.2 else acc) n
  (s.updSx n fun h => { h with derAt := some now }, r.2)

/-- SPD_DERATE_WRITE (R126, R329): a write of AX.SPD_DERATE. -/
def execSpdDerateWrite (m : Fin 64) (n : Fin 48) (v : Word) (s : State) : Host.Outcome State Fault Refusal :=
  .next (s.busWriteWith m (AX.SPD_DERATE.TQ.addr n) true fun s => s.fxSpdDerate n v.toNat)

end Sys2Proof.Machine
end

