-- ==== Sys2Proof/Machine/Program.lean ====
section
/-!
DEFINITION. Program images: parsing, the checks of LOAD (R203, R204, R230, R442, R445) and the quantiser records inside declared state (R229).
-/
namespace Sys2Proof.Machine

/-- A tensor entry of 32 bytes at `o` (R203). -/
def tensorOf (img : List Nat) (o : Nat) : TensorDef :=
  let b := slice img o 32
  { fmt := fieldLE b 0 1, rank := fieldLE b 1 1, kind := fieldLE b 2 1, logical := fieldLE b 3 1,
    dims := (List.range 4).map fun i => fieldLE b (4 + 4 * i) 4, addr := fieldLE b 24 8 }
/-- An operation entry of 32 bytes at `o` (R203). -/
def opOf (img : List Nat) (o : Nat) : OpDef :=
  let b := slice img o 32
  { opcode := fieldLE b 0 1, logical := fieldLE b 1 1, ins := (List.range (min (fieldLE b 2 1) 4)).map (fun i => fieldLE b (4 + 2 * i) 2),
    outs := (List.range (min (fieldLE b 3 1) 2)).map (fun i => fieldLE b (12 + 2 * i) 2), attr := slice b 16 12, nTiles := fieldLE b 28 2 }
/-- Elements of a tensor: the product of its first RANK dimensions. -/
def TensorDef.count (t : TensorDef) : Nat := (t.dims.take t.rank).foldl (· * ·) 1
/-- Bytes of a tensor. -/
def TensorDef.bytes (t : TensorDef) : Nat := fmtBytes t.fmt t.count
/-- The tensor of index `k` of a program. -/
def Prog.tensor (p : Prog) (k : Nat) : TensorDef := p.tensors.getD k {}
/-- Input `j` and output `j` of an operation. -/
def Prog.inT (p : Prog) (o : OpDef) (j : Nat) : TensorDef := p.tensor (o.ins.getD j 0xFFFF)
def Prog.outT (p : Prog) (o : OpDef) (j : Nat) : TensorDef := p.tensor (o.outs.getD j 0xFFFF)
/-- Kinds of tensors. -/
def kWeight : Nat := 0
def kInput : Nat := 1
def kScratch : Nat := 2
def kState : Nat := 3
def kResult : Nat := 4
def kShared : Nat := 5

/-- Every opcode of R213. -/
def opcodes : List Nat :=
  [0x01, 0x02, 0x03, 0x04, 0x05, 0x06, 0x08, 0x10, 0x11, 0x12, 0x13, 0x14, 0x15, 0x16, 0x17, 0x18, 0x19, 0x20, 0x21, 0x22, 0x23, 0x24,
   0x25, 0x26, 0x27, 0x28, 0x30, 0x31, 0x32, 0x38, 0x39, 0x3A, 0x3B, 0x3C, 0x3D] ++
  [0x40, 0x41, 0x42, 0x43, 0x48, 0x49, 0x4A, 0x4B, 0x4C, 0x4D, 0x4E, 0x4F, 0x50, 0x58, 0x59, 0x5A, 0x60, 0x61, 0x62, 0x63, 0x64, 0x65]
/-- A format is wide; narrow (R213, R229). -/
def fmtWide (f : Nat) : Bool := f == 2 || f == 3 || f == 6 || f == 7
def fmtNarrow (f : Nat) : Bool := f == 0 || f == 1 || f == 2 || f == 4 || f == 5
/-- Two formats pair in a matrix operation (R227). -/
def matrixPair (a b : Nat) : Bool := (a == b && (a == 0 || a == 1 || a == 2 || a == 4 || a == 5 || a == 6 || a == 7)) || (a == 4 && b == 5) || (a == 5 && b == 4)
/-- The formats of an operation are permitted for its opcode (R213, R227, R238). -/
def Prog.formatsOk (p : Prog) (o : OpDef) : Bool :=
  let inF (j : Nat) : Nat := (p.inT o j).fmt
  let all (f : Nat → Bool) : Bool := o.ins.all (fun k => f (p.tensor k).fmt) && o.outs.all fun k => f (p.tensor k).fmt
  let c := o.opcode
  if c ≤ 5 then matrixPair (inF 0) (inF 1)
  else if c = 6 then (inF 1 == 2 && inF 2 == 2) || (inF 1 == 6 && inF 2 == 6)
  else if c = 8 then all fmtWide
  else if 0x20 ≤ c ∧ c ≤ 0x24 then all fun f => fmtWide f || f == 1
  else if (0x25 ≤ c ∧ c ≤ 0x28) ∨ (0x30 ≤ c ∧ c ≤ 0x32) then all fmtWide
  else if c = 0x41 then fmtWide (inF 0) && fmtNarrow (p.outT o 0).fmt
  else if c = 0x42 then fmtNarrow (inF 0) && fmtWide (p.outT o 0).fmt
  else if c = 0x43 then fmtWide (inF 0)
  else true

/-! ### Attributes -/

/-- Queue value and count of WAIT, POST and RETIRE (R445). -/
def OpDef.queue (o : OpDef) : Nat := fieldLE o.attr 0 2
def OpDef.cnt (o : OpDef) : Nat := fieldLE o.attr 2 2
/-- Q_ID, AXIS and REC_OFS of a quantiser operation; K and AXIS of HADAMARD (R230). -/
def OpDef.qid (o : OpDef) : Nat := fieldLE o.attr 0 2
def OpDef.axis (o : OpDef) : Nat := fieldLE o.attr 2 1
def OpDef.recOfs (o : OpDef) : Nat := fieldLE o.attr 4 4
def OpDef.hadK (o : OpDef) : Nat := fieldLE o.attr 0 1
def OpDef.hadAxis (o : OpDef) : Nat := fieldLE o.attr 1 1
/-- A quantiser operation: QSTAT, QUANT, DEQUANT, OUTLIER_MM. -/
def OpDef.isQuant (o : OpDef) : Bool := o.opcode == 0x06 || (decide (0x41 ≤ o.opcode) && decide (o.opcode ≤ 0x43))
/-- The attributes of WAIT, POST and RETIRE keep R445. -/
def OpDef.queueAttrOk (o : OpDef) : Bool :=
  if 0x60 ≤ o.opcode ∧ o.opcode ≤ 0x62 then
    (decide (o.queue < 1024) || o.queue == 0xFFFF) && fieldLE o.attr 4 8 == 0 &&
      (if o.opcode = 0x62 then decide (1 ≤ o.cnt ∧ o.cnt ≤ 4096) else o.cnt == 1)
  else true
/-- The reserved attribute bytes of R230 hold 0. -/
def OpDef.quantAttrOk (o : OpDef) : Bool :=
  if o.isQuant then fieldLE o.attr 3 1 == 0 && fieldLE o.attr 8 4 == 0 && decide (o.qid < 1024)
  else if o.opcode = 8 then fieldLE o.attr 2 10 == 0
  else true

/-! ### Quantiser records (R229) -/

/-- The head of a quantiser record. -/
structure QRec where
  nCh : Nat := 0
  asym : Bool := false
  outlier : Nat := 0
  modeRsv : Nat := 0
  fmt : Nat := 0
  fill : Nat := 0
  head : Nat := 0
  nOut : Nat := 0
  floor : Nat := 0
  shift : Nat := 0
  sideFmt : Nat := 0
  deriving DecidableEq, Repr
/-- The head of the record in bytes `b`. -/
def QRec.ofBytes (b : List Nat) : QRec :=
  let m := fieldLE b 2 1
  { nCh := fieldLE b 0 2, asym := bit m 0, outlier := bits m 2 1, modeRsv := bits m 7 3, fmt := fieldLE b 3 1, fill := fieldLE b 4 1,
    head := fieldLE b 5 1, nOut := fieldLE b 6 2, floor := fieldLE b 8 2, shift := fieldLE b 0x0A 1, sideFmt := fieldLE b 0x0B 1 }
/-- Bytes of a record: channels, and the outlier list padded to 16 bytes. -/
def QRec.size (r : QRec) : Nat := 0x20 + r.nCh * 80 + ceilDiv (2 * r.nOut) 16 * 16
/-- The place of channel `j` in a record. -/
def chOfs (j : Nat) : Nat := 0x20 + 80 * j

/-- The quantisers of a program: Q_ID, logical engine, REC_OFS, in the order of their first operation. -/
def Prog.quants (p : Prog) : List (Nat × Nat × Nat) :=
  p.ops.foldl (fun l o => if o.isQuant && !(l.any fun q => q.1 == o.qid) then l ++ [(o.qid, o.logical, o.recOfs)] else l) []
/-- The quantisers whose record's head lies inside STATE_BYTES and the image: one outside is refused with LAYOUT, its fields are not judged (R230). -/
def Prog.headed (p : Prog) : List (Nat × Nat × Nat) :=
  p.quants.filter fun q => decide (q.2.2 + 0x20 ≤ p.stateBytes ∧ q.2.1 * p.stateBytes + q.2.2 + 0x20 ≤ p.init.length)
/-- The initial record of a quantiser. -/
def Prog.initRec (p : Prog) (q : Nat × Nat × Nat) : List Nat := (p.init.drop (q.2.1 * p.stateBytes + q.2.2)).take (p.stateBytes - q.2.2)
/-- A dimension of a tensor along AXIS. -/
def TensorDef.axisLen (t : TensorDef) (axis : Nat) : Nat := t.dims.getD axis 0

/-- SHAPE cases of R230. -/
def Prog.quantShape (p : Prog) : Bool :=
  let dup := p.ops.any fun o => o.opcode == 0x43 && decide (1 < (p.ops.filter fun x => x.opcode == 0x43 && x.qid == o.qid).length)
  let recs := p.headed.any fun q =>
    let r := QRec.ofBytes (p.initRec q)
    r.nCh == 0 || (if r.outlier = 2 then decide (min 64 r.nCh < r.nOut) else r.nOut != 0)
  let axes_ := p.ops.any fun o =>
    if o.isQuant then decide ((p.inT o (if o.opcode = 6 then 1 else 0)).rank ≤ o.axis)
    else if o.opcode = 8 then decide (12 < o.hadK) || o.hadK == 0 || decide ((p.inT o 0).rank ≤ o.hadAxis) || (p.inT o 0).axisLen o.hadAxis % 2 ^ o.hadK != 0
    else false
  dup || recs || axes_
/-- A FP32 code is finite. -/
def finite32 (c : Nat) : Bool := match floatValue 7 c with
  | .fin _ _ _ => true
  | _ => false
/-- FORMAT cases of R230. -/
def Prog.quantFormat (p : Prog) : Bool :=
  let recs := p.headed.any fun q =>
    let b := p.initRec q
    let r := QRec.ofBytes b
    r.modeRsv != 0 || r.outlier == 3 || !(fmtNarrow r.fmt) || !(r.sideFmt == 2 || r.sideFmt == 6) || decide (8 < r.fill) || decide (7 < r.head)
      || (List.range r.nCh).any (fun j =>
        let mn := fieldLE b (chOfs j) 4
        let mx := fieldLE b (chOfs j + 4) 4
        decide (chOfs j + 8 ≤ b.length) && (!(finite32 mn) || !(finite32 mx) || (floatValue 7 mx).lt (floatValue 7 mn)))
      || (r.outlier == 1 && p.partSize == 8) || (r.outlier == 2 && p.partSize != 8)
  let ops := p.ops.any fun o =>
    o.opcode == 0x41 &&
      (match p.headed.find? fun q => q.1 == o.qid with
       | some q => let r := QRec.ofBytes (p.initRec q); (p.outT o 0).fmt != r.fmt || (p.inT o 0).axisLen o.axis != r.nCh
       | none => false)
  recs || ops
/-- Two ranges of a list of ranges (engine, start, length) overlap: an empty one overlaps nothing. -/
def anyClash : List (Nat × Nat × Nat) → Bool
  | [] => false
  | r :: t => t.any (fun x => x.1 == r.1 && decide (0 < r.2.2 ∧ 0 < x.2.2 ∧ x.2.1 < r.2.1 + r.2.2 ∧ r.2.1 < x.2.1 + x.2.2)) || anyClash t
/-- LAYOUT cases of R230. -/
def Prog.quantLayout (p : Prog) : Bool :=
  let size (q : Nat × Nat × Nat) : Nat := (QRec.ofBytes (p.initRec q)).size
  p.quants.any (fun q => decide (p.stateBytes < q.2.2 + max 0x20 (size q)) || q.2.2 % 16 != 0)
    || anyClash (p.quants.map fun q => (q.2.1, q.2.2, size q))
    || p.ops.any fun o => o.isQuant && p.quants.any fun q => q.1 == o.qid && (q.2.1 != o.logical || q.2.2 != o.recOfs)

/-! ### LOAD (R204) -/

/-- Scratch bytes of a program's SCRATCH tensors on logical engine `l` of its partition (R442). -/
def Prog.scratchLen (p : Prog) (l : Nat) : Nat :=
  p.tensors.foldl (fun m t => if t.kind = kScratch ∧ t.logical = l then max m (t.addr + t.bytes) else m) 0
/-- The length of the RESULT area (R443). -/
def Prog.resLen (ts : List TensorDef) : Nat := ceilDiv (ts.foldl (fun m t => if t.kind = kResult then max m (t.addr + t.bytes) else m) 0) 64 * 64
/-- The header of an image with its tables. -/
def progOf (img : List Nat) : Prog :=
  let nOps := fieldLE img 6 2
  let nT := fieldLE img 8 2
  let ps := fieldLE img 4 1
  let sb := fieldLE img 0x30 4
  let ts := (List.range nT).map fun i => tensorOf img (fieldLE img 0x40 4 + 32 * i)
  { partSize := ps, maxTile := fieldLE img 0x0A 2, budget := (List.range 8).map (fun i => fieldLE img (0x10 + 4 * i) 4), stateBytes := sb,
    userTag := fieldLE img 0x38 4, tensors := ts, ops := (List.range nOps).map (fun i => opOf img (fieldLE img 0x3C 4 + 32 * i)),
    init := (img.drop (fieldLE img 0x44 4)).take (ps * sb), digest := slice img 0x60 32, resultLen := Prog.resLen ts, bytes := fieldLE img 0x0C 4 }
/-- A reserved byte of an image is not 0 (R203). -/
def imgReserved (img : List Nat) (p : Prog) : Bool :=
  fieldLE img 5 1 != 0 || (slice img 0x48 24).any (· != 0)
    || (List.range p.tensors.length).any (fun i => fieldLE img (fieldLE img 0x40 4 + 32 * i + 20) 4 != 0)
    || (List.range p.ops.length).any fun i => fieldLE img (fieldLE img 0x3C 4 + 32 * i + 30) 2 != 0
/-- Some operation has more inputs or outputs than an entry holds. -/
def imgArity (img : List Nat) (p : Prog) : Bool :=
  (List.range p.ops.length).any fun i => let o := fieldLE img 0x3C 4 + 32 * i; decide (4 < fieldLE img (o + 2) 1) || decide (2 < fieldLE img (o + 3) 1)
/-- An INPUT tensor, and a WAIT on 0xFFFF. -/
def Prog.hasInput (p : Prog) : Bool := p.tensors.any fun t => t.kind == kInput
def Prog.hasInWait (p : Prog) : Bool := p.ops.any fun o => o.opcode == 0x60 && o.queue == 0xFFFF
/-- U operations (R264). -/
def Prog.hasU (p : Prog) : Bool := p.ops.any fun o => o.opcode == 0x39 || o.opcode == 0x50
/-- SHAPE (R204, R230, R442). -/
def Prog.badShape (p : Prog) : Bool :=
  p.ops == [] || p.tensors == [] || p.tensors.any (fun t => decide (4 < t.rank))
    || p.ops.any (fun o => (o.ins ++ o.outs).any fun k => decide (p.tensors.length ≤ k))
    || p.maxTile == 0 || decide (4096 < p.maxTile)
    || p.ops.any (fun o => p.budget.getD o.logical 0 == 0)
    || (p.hasInput && !p.hasInWait)
    || p.ops.any (fun o => o.opcode == 0x64 && (o.ins == [] || decide ((p.inT o 0).bytes < 256)))
    || p.quantShape
/-- FORMAT (R204, R230, R445). -/
def Prog.badFormat (img : List Nat) (p : Prog) : Bool :=
  p.tensors.any (fun t => decide (7 < t.fmt) || decide (5 < t.kind)) || p.ops.any (fun o => !(opcodes.contains o.opcode) || !(p.formatsOk o))
    || imgReserved img p || imgArity img p || (p.budget.drop p.partSize).any (· != 0) || p.ops.any (fun o => !o.queueAttrOk || !o.quantAttrOk) || p.quantFormat
/-- LAYOUT (R204, R230, R442). -/
def Prog.badLayout (img : List Nat) (p : Prog) : Bool :=
  let ops := fieldLE img 0x3C 4
  let ts := fieldLE img 0x40 4
  let ini := fieldLE img 0x44 4
  let parts := [(0, 0, 0x80), (0, ops, 32 * p.ops.length), (0, ts, 32 * p.tensors.length), (0, ini, p.partSize * p.stateBytes)]
  ops % 32 != 0 || ts % 32 != 0 || ini % 64 != 0 || p.bytes % 64 != 0 || decide (16 * 2 ^ 20 < p.bytes)
    || parts.any (fun r => decide (p.bytes < r.2.1 + r.2.2)) || anyClash parts
    || p.tensors.any (fun t => t.kind == kState && decide (p.stateBytes < t.addr + t.bytes)) || p.quantLayout

/-- The place of a context's areas on logical engine `i` of the module, beside what the other contexts hold there: both copies of `sb` bytes,
where they lie already if `old` gives them, and a SCRATCH area of `sl` bytes (R442). None where they do not fit (R204). -/
def State.placeOne (s : State) (c i sb sl : Nat) (old : Option Place) : Option Place :=
  let used := s.usedOn c i
  let held := ((List.range 64).filter (· != c)).foldl (fun n x => ((s.cx x).places.filter fun a => a.eng == i).foldl (fun n a => n + 2 * a.len) n) (2 * sb)
  if 2 * 2 ^ 20 < held then none else
  let copies := match old with
    | some a => some (a.copy0, a.copy1)
    | none => (firstFit used i sb).bind fun a => (firstFit ((a, sb) :: used) i sb).map fun b => (a, b)
  copies.bind fun ab => (firstFit ((ab.1, sb) :: (ab.2, sb) :: used) i sl).map fun x =>
    { eng := i, copy0 := ab.1, copy1 := ab.2, len := sb, scr := x, scrLen := sl }
/-- The places of a context's areas on the partition of CTX.CFG: at LOAD both copies anew; at ARM (`arm`) with the SCRATCH areas, the copies
where they lie unless the partition has moved (R201, R442). -/
def State.placeFor (s : State) (c : Nat) (p : Prog) (arm : Bool) : Option (List Place) :=
  allSome ((List.range p.partSize).map fun l =>
    let i := s.rd CTX.CFG.BASE c + l
    s.placeOne c i p.stateBytes (if arm then p.scratchLen l else 0) (if arm then ((s.cx c).places[l]?).filter fun a => a.eng == i else none))
/-- PARTITION at LOAD and at ARM (R204). -/
def State.badPartition (s : State) (c : Nat) (p : Prog) : Bool :=
  p.partSize != s.ctxSize c || s.rd CTX.CFG.BASE c % s.ctxSize c != 0
    || p.ops.any (fun o => decide (p.partSize ≤ o.logical)) || p.tensors.any fun t => decide (p.partSize ≤ t.logical)
/-- The checks of LOAD on an image that has been read, in order (R204). -/
def State.imageCheck (s : State) (c : Nat) (img : List Nat) : Nat × Prog :=
  if fieldLE img 0 2 ≠ 1 ∨ (fieldLE img 2 2 ≠ 0 ∧ s.sup.policy = false) ∨ fieldLE img 0x34 4 ≠ 0 then (3, {}) else
  let p := progOf img
  if s.badPartition c p then (4, p)
  else if p.badShape then (5, p)
  else if p.badFormat img then (6, p)
  else if p.badLayout img then (7, p)
  else if sha3 (img.take 0x60 ++ List.replicate 32 0 ++ img.drop 0x80) ≠ p.digest then (8, p)
  else if 65536 < p.stateBytes ∨ s.placeFor c p false = none then (9, p)
  else (0, p)
/-- LOAD's reading of the image under master 0x08, header first, and its checks in order: RCODE and the program. What the access table refuses is
logged, and refused with ADDRESS; an uncorrectable error anywhere in the image leaves nothing to judge, and is refused with DIGEST (R204, R284). -/
def State.loadCheck (s : State) (c : Nat) : State × Nat × Prog :=
  let a := s.rd CTX.PROG c
  if a % 64 ≠ 0 then (s, 2, {}) else
  match s.rangeRead 8 a 128 with
  | (s, .vio) => (s, 2, {})
  | (s, .ue _) => (s, 8, {})
  | (s, .ok hdr) =>
    match s.rangeRead 8 (a + 128) (min (fieldLE hdr 0x0C 4) (16 * 2 ^ 20) - 128) with
    | (s, .vio) => (s, 2, {})
    | (s, .ue _) => (s, 8, {})
    | (s, .ok body) => (s, s.imageCheck c (hdr ++ body))

end Sys2Proof.Machine
end

