-- ==== Sys2Proof/Machine/Tensor.lean ====
section
/-!
DEFINITION. Threads of a frame: where a tensor lies, reads and writes of its elements, the scoreboard, and how an operation runs to its
retirement (R196, R199, R200, R202, R204, R218, R265, R274, R442, R443).
-/
namespace Sys2Proof.Machine

/-- The master of the physical engine that runs logical engine `l` of the partition (R199). -/
def State.ctxMaster (s : State) (c l : Nat) : Nat := 0x10 + s.engOf (s.rd CTX.CFG.BASE c + l)
/-- The address of the output record of frame `f` (R443). -/
def State.outRec (s : State) (c f : Nat) : Nat :=
  s.rd CTX.OUT_BASE c + f % (max (s.rd CTX.OUT_CFG.N c) 1) * s.rd CTX.OUT_STRIDE.STRIDE c
/-- Bytes of a table of held RESULT bytes. -/
def heldRead (t : Tab Nat) : Nat → Nat → List Nat
  | _, 0 => []
  | k, n + 1 => Tab.get 0 t k :: heldRead t (k + 1) n
def heldWrite (t : Tab Nat) : Nat → List Nat → Tab Nat
  | _, [] => t
  | k, b :: l => heldWrite (Tab.put 0 t k b) (k + 1) l
/-- Bytes of a list replaced from an offset. -/
def patch (l : List Nat) (o : Nat) (d : List Nat) : List Nat := l.take o ++ d ++ l.drop (o + d.length)

/-- The areas of a context on logical engine `l` counted from BASE. -/
def State.place (s : State) (c l : Nat) : Place := ((s.cx c).places[l]?).getD { eng := 0, copy0 := scrBase 0, copy1 := scrBase 0, len := 0 }
/-- The absolute address of a tensor (R442): a STATE tensor is read in the committed copy and, with `work`, written in the working copy
(R202). -/
def State.tensorAddr (s : State) (c : Nat) (f : Frame) (t : TensorDef) (work : Bool := false) : Nat :=
  if t.kind = kInput then (match f.input with | some i => i.1 + t.addr | none => t.addr)
  else if t.kind = kResult then s.outRec c f.num + 320 + t.addr
  else if t.kind = kScratch then (s.place c t.logical).scr + t.addr
  else if t.kind = kState then (s.place c t.logical).copy (s.cx c).flip work + t.addr
  else t.addr

/-- The outcome of a thread's read or write ends its frame with ACCESS or WITHHELD_ECC (R217, R218, R284, R292). -/
def State.memFail (s : State) (c : Nat) : MemRes → State
  | .ok _ => s
  | .vio => s.failFrame c 8
  | .ue _ => s.failFrame c 1

/-- The bytes of a tensor read by a thread on logical engine `l`: none where the frame is to end. -/
def State.readTensor (s : State) (c l : Nat) (p : Prog) (k : Nat) : State × Option (List Nat) :=
  let t := p.tensor k
  let n := t.bytes
  let h := s.cx c
  match h.frame with
  | none => (s, none)
  | some f =>
    if n = 0 then (s, some [])
    else if t.kind = kResult ∧ s.lockStep c then (s, some (heldRead h.held t.addr n))
    else if t.kind = kInput ∧ (f.input.map (·.2)).getD 0 < t.addr + n then (s.failFrame c 8, none)
    else
      match s.masterRead (s.ctxMaster c l) (s.tensorAddr c f t) n with
      | (s', .ok d) =>
        let s' := if s'.flag CTX.DIG_CFG.EN c && (t.kind == kInput || t.kind == kShared) && (Tab.get [] f.inDig k).isEmpty
          then s'.updFrame c fun f => { f with inDig := Tab.put [] f.inDig k (sha3 d) } else s'
        (s', some d)
      | (s', r) => (s'.memFail c r, none)
/-- The bytes of a tensor written by a thread; RESULT tensors go out under the master of the host of BASE (R443) and, of a lock-step
frame, are held (R271). -/
def State.writeTensor (s : State) (c l : Nat) (p : Prog) (k : Nat) (d : List Nat) : State :=
  let t := p.tensor k
  match (s.cx c).frame with
  | none => s
  | some f =>
    if t.bytes = 0 then s
    else if t.kind = kResult ∧ s.lockStep c then s.updCx c fun h => { h with held := heldWrite h.held t.addr d }
    else
      let r := s.masterWrite (s.ctxMaster c (if t.kind = kResult then 0 else l)) (s.tensorAddr c f t true) d
      r.1.memFail c r.2

/-! ### The scoreboard (R200) -/

/-- Every tile of operation `i` has retired. -/
def Frame.tilesDone (f : Frame) (o : OpDef) (i : Nat) : Bool := (List.range o.nTiles).all fun t => f.readyTiles.contains (i, t)
/-- The queue of WAIT, POST and RETIRE: 0xFFFF names IN_Q, or RES_Q for POST (R445). -/
def State.opQueue (s : State) (c : Nat) (o : OpDef) : Nat :=
  if o.queue = 0xFFFF then (if o.opcode = 0x61 then s.rd CTX.QUEUES.RES_Q c else s.rd CTX.QUEUES.IN_Q c) else o.queue
/-- The tensors in which operation `b` must wait for an earlier operation `a`: `b` reads or writes what `a` writes, or writes what `a` reads. -/
def OpDef.shared (a b : OpDef) : List Nat := a.outs.filter (fun k => b.ins.contains k || b.outs.contains k) ++ a.ins.filter b.outs.contains
/-- What orders operation `b` after an earlier `a` beside tensors (DEDUCED, assumption log 45): WAITs of one queue, and POSTs of one queue, move
their descriptors in table order, a RETIRE follows the WAITs that took what it retires, and what stands after a BARRIER on its engine waits
for it. -/
def State.ordered (s : State) (c : Nat) (a b : OpDef) : Bool :=
  let isQ (o : OpDef) : Bool := decide (0x60 ≤ o.opcode ∧ o.opcode ≤ 0x62)
  (isQ a && isQ b && s.opQueue c a == s.opQueue c b && (a.opcode == b.opcode || (a.opcode == 0x60 && b.opcode == 0x62)))
    || (a.opcode == 0x63 && a.logical == b.logical)
/-- The frame's input descriptor is taken, where an operation reads an INPUT tensor (R442): the scoreboard orders every such read after the first
WAIT whose queue attribute is 0xFFFF, wherever it stands in the table. -/
def Frame.inputTaken (f : Frame) (p : Prog) (o : OpDef) : Bool :=
  !(o.ins.any fun k => (p.tensor k).kind == kInput) ||
    (match (List.range p.ops.length).find? fun j => let x := p.ops.getD j {}; x.opcode == 0x60 && x.queue == 0xFFFF with
     | some w => f.doneOps.contains w
     | none => true)
/-- Every earlier operation that operation `i` must wait for has taken effect. -/
def State.depsDone (s : State) (c : Nat) (p : Prog) (f : Frame) (i : Nat) (o : OpDef) : Bool :=
  f.inputTaken p o && (List.range i).all fun j =>
    f.doneOps.contains j || (let a := p.ops.getD j {}; (a.shared o).isEmpty && !(s.ordered c a o))
/-- A tile of operation `j` touches what tile `t` of operation `i` waits for (R200): they meet in a tile of a tensor that one of them writes. -/
def Prog.tilesMeet (p : Prog) (j u : Nat) (a : OpDef) (i t : Nat) (o : OpDef) : Bool :=
  (a.shared o).any fun k => (Config.tileOf p.digest j u k).any fun x => (Config.tileOf p.digest i t k).contains x
/-- The scoreboard permits tile `t` of operation `i` (R200): every tile it reads is ready and every thread that reads the previous value of a
tile it writes has retired. -/
def State.tileFree (s : State) (c : Nat) (p : Prog) (f : Frame) (i : Nat) (o : OpDef) (t : Nat) : Bool :=
  f.inputTaken p o && (List.range i).all fun j =>
    f.doneOps.contains j ||
      (let a := p.ops.getD j {}
       !(s.ordered c a o) && ((a.shared o).isEmpty ||
         (decide (0 < a.nTiles) && (List.range a.nTiles).all fun u => f.readyTiles.contains (j, u) || !(p.tilesMeet j u a i t o))))
/-- Operation `i` of the frame in progress, where it may take effect: it is not done, its tiles have retired and the scoreboard permits it. -/
def State.opReady (s : State) (c i code : Nat) : Option (Prog × OpDef × Frame) :=
  let h := s.cx c
  match h.prog, h.frame with
  | some p, some f =>
    match p.ops[i]? with
    | some o =>
      if o.opcode = code ∧ f.endCode = none ∧ f.doneOps.contains i = false ∧ f.tilesDone o i = true ∧ s.depsDone c p f i o = true
      then some (p, o, f) else none
    | none => none
  | _, _ => none

/-- Bytes of a tensor as they stand, without an access (R265). -/
def State.peekTensor (s : State) (c : Nat) (f : Frame) (t : TensorDef) : List Nat :=
  if t.kind = kResult ∧ s.lockStep c then heldRead (s.cx c).held t.addr t.bytes else s.readMem (s.tensorAddr c f t) t.bytes
/-- An operation has run: it is done, with the digest of a traced frame over the bytes `d` (R274). -/
def State.opDone (s : State) (c i : Nat) (d : List Nat) : State :=
  let now := s.dtime
  s.updFrame c fun f =>
    { f with doneOps := i :: f.doneOps, opDig := if f.trace then Tab.put (0, []) f.opDig i (now, sha3 d) else f.opDig }

/-- What a data operation gives: the codes of each output, clips and NaNs counted, multiply-accumulates; counts of a quantiser; bytes of the
working copy with their offset on the operation's engine, and the quantiser whose QSTAT wrote them. -/
structure OpRes where
  outs : List (List Nat) := []
  clips : Nat := 0
  nans : Nat := 0
  macs : Nat := 0
  quant : Option (Nat × QuantCnt) := none
  work : Option (Nat × Nat × List Nat) := none
  deriving DecidableEq, Repr

/-- An operand of a data operation: its format, dimensions and codes. -/
structure Opnd where
  fmt : Nat := 7
  dims : List Nat := []
  codes : List Nat := []
  deriving DecidableEq, Repr
/-- Elements of an operand; the value of element `e`. -/
def Opnd.n (x : Opnd) : Nat := x.codes.length
def Opnd.val (x : Opnd) (e : Nat) : FV := valueOf x.fmt (x.codes.getD e 0)
/-- Some element is a NaN. -/
def Opnd.hasNan (x : Opnd) : Bool := x.codes.any fun k => (valueOf x.fmt k).isNan
/-- The dimensions of a tensor in use. -/
def TensorDef.shape (t : TensorDef) : List Nat := t.dims.take t.rank

/-- Weight of one multiply-accumulate in MAC_EQ by input format (R219). -/
def macWeight (f : Nat) : Nat := if f = 0 then 1 else if f = 1 ∨ f = 4 ∨ f = 5 then 2 else if f = 2 ∨ f = 6 then 8 else 32

/-- The operands of an operation read in order; none where the frame is to end. -/
def State.readOpnds (s : State) (c l : Nat) (p : Prog) : List Nat → State × Option (List Opnd)
  | [] => (s, some [])
  | k :: t =>
    match s.readTensor c l p k with
    | (s', none) => (s', none)
    | (s', some d) =>
      let td := p.tensor k
      match s'.readOpnds c l p t with
      | (s'', none) => (s'', none)
      | (s'', some r) => (s'', some ({ fmt := td.fmt, dims := td.shape, codes := unpackN td.fmt td.count d } :: r))

/-- A free code of an output that the spec does not state: a function of the program and of the operands (R260). -/
def openAt (p : Prog) (i : Nat) (xs : List Opnd) (fmt j e : Nat) : Nat := (openConv fmt (Config.openCode p.digest i (xs.map (·.codes)) j e)).code
/-- Free codes for outputs that the spec does not state. -/
def openOuts (p : Prog) (i : Nat) (o : OpDef) (xs : List Opnd) : List (List Nat) :=
  (List.range o.outs.length).map fun j => let t := p.outT o j; (List.range t.count).map (openAt p i xs t.fmt j)

/-- Counts of one quantiser added up; its CONSTANT channels are those of the frame. -/
def QuantCnt.plus (a b : QuantCnt) : QuantCnt :=
  { elems := a.elems + b.elems, clips := a.clips + b.clips, nans := a.nans + b.nans, devs := a.devs + b.devs, constCh := max a.constCh b.constCh }
/-- The outputs of an operation are written to their tensors. -/
def State.opWrite (s : State) (c : Nat) (p : Prog) (o : OpDef) (dat : List (List Nat)) : State :=
  s.forEach ((List.range o.outs.length).zip dat) fun s jd => s.writeTensor c o.logical p (o.outs.getD jd.1 0) jd.2
/-- What an operation counts: clips and NaNs, a quantiser's elements, state written beside its outputs, multiply-accumulates (R219, R228, R231). -/
def State.opCount (s : State) (c : Nat) (o : OpDef) (x : OpRes) : State :=
  let s := s.updFrame c fun f => { f with clipCnt := f.clipCnt + x.clips, nanCnt := f.nanCnt + x.nans }
  let s := match x.quant with
    | some q => s.updFrame c fun f => { f with quant := Tab.put ({} : QuantCnt) f.quant q.1 ((Tab.get ({} : QuantCnt) f.quant q.1).plus q.2) }
    | none => s
  let s := match x.work with
    | some w =>
      let r := s.masterWrite (s.ctxMaster c o.logical) ((s.place c o.logical).copy (s.cx c).flip true + w.2.1) w.2.2
      (r.1.memFail c r.2).updFrame c fun f => { f with qstats := w.1 :: f.qstats }
    | none => s
  if x.macs = 0 then s else s.updEn (s.engOf (s.rd CTX.CFG.BASE c + o.logical)) fun e => { e with macEq := e.macEq + x.macs }
/-- A data operation takes effect: it reads its inputs, computes, converts and writes its outputs, and counts (R224 to R228). An operation
on a tensor of zero size does nothing (R204); where the spec does not fit the operands, the outputs are free values. -/
def State.runOp (s : State) (c i code : Nat) (g : Prog → OpDef → Frame → List Opnd → Option OpRes) : State :=
  match s.opReady c i code with
  | none => s
  | some (p, o, f) =>
    if (o.ins ++ o.outs).any (fun k => (p.tensor k).count == 0) then s.opDone c i (o.outs.flatMap fun k => s.peekTensor c f (p.tensor k))
    else
      match s.readOpnds c o.logical p o.ins with
      | (s', none) => s'
      | (s', some xs) =>
        let r := g p o f xs
        let outs := (r.map (·.outs)).getD (openOuts p i o xs)
        let dat := (List.range o.outs.length).map fun j => packCodes (p.outT o j).fmt (outs.getD j [])
        ((s'.opWrite c p o dat).opCount c o (r.getD {})).opDone c i dat.flatten

/-- The codes of a list of conversions, with their counts. -/
def convRes (l : List Conv) (clips : Nat := 0) (macs : Nat := 0) : OpRes :=
  { outs := [l.map (·.code)], clips := clips + (l.filter (·.clip)).length, nans := (l.filter (·.nan)).length, macs := macs }
/-- The codes of accumulator read-outs, with the counts of their accumulators. -/
def accRes (l : List Conv) (acc : List Accu) (macs : Nat := 0) : OpRes :=
  let r := convRes l (acc.foldl (fun n a => n + a.clips) 0) macs
  { r with nans := r.nans + acc.foldl (fun n a => n + a.nans) 0 }
/-- The output operand's format, shape and count. -/
def Prog.out0 (p : Prog) (o : OpDef) : Opnd := let t := p.outT o 0; { fmt := t.fmt, dims := t.shape, codes := List.replicate t.count 0 }

/-! ### Index spaces -/

/-- The elements of one step along an axis. -/
def strideOf (dims : List Nat) (ax : Nat) : Nat := (dims.drop (ax + 1)).foldl (· * ·) 1
/-- The coordinates of element `e`, first dimension first. -/
def coords : List Nat → Nat → List Nat
  | [], _ => []
  | d :: t, e => let st := t.foldl (· * ·) 1; (e / st % (max d 1)) :: coords t e
/-- The element of coordinates; none outside the shape. -/
def elemOf : List Nat → List Nat → Option Nat
  | [], [] => some 0
  | d :: t, x :: y => if x < d then (elemOf t y).map fun r => x * t.foldl (· * ·) 1 + r else none
  | _, _ => none
/-- The channel of element `e` along an axis. -/
def chanOf (dims : List Nat) (ax e : Nat) : Nat := e / strideOf dims ax % (max (dims.getD ax 1) 1)
/-- The element of an operand that broadcasts to coordinates of a larger shape, aligned at the last dimension; none where it does not. -/
def bcast (dims : List Nat) (xs : List Nat) : Option Nat :=
  if xs.length < dims.length then none
  else elemOf dims (List.zipWith (fun d x => if d = 1 then 0 else x) dims (xs.drop (xs.length - dims.length)))
end Sys2Proof.Machine
end

