-- ==== Sys2Proof/Machine/EngMatrix.lean ====
section
/-!
DEFINITION. Matrix operations of the engines: MATMUL, MATMUL_BIAS, CONV1D, CONV2D, DWCONV, OUTLIER_MM and HADAMARD (R213, R227, R237,
R238). The spec gives no attribute layout for strides, dilation and padding: a convolution's command carries them.
-/
namespace Sys2Proof.Machine

/-- One output element: products in their order from +0, then a bias step, read out into the output format (R227). -/
def matElem (fin fout : Nat) (prods : List (FV × FV)) (bias : Option FV) : Conv × Accu :=
  let a := accumulate (accInt fin) {} (prods.map fun x => x.1.mul x.2)
  let a := match bias with
    | some b => Accu.step (accInt fin) a b
    | none => a
  (convert fout a.v, a)
/-- The results of output elements gathered. -/
def matRes (l : List (Conv × Accu)) (macs : Nat) : OpRes := accRes (l.map (·.1)) (l.map (·.2)) macs

/-- A × B with the sum over K in ascending index, B's first dimension; the bias follows the output's columns. -/
def matmulOp (bias : Bool) (p : Prog) (o : OpDef) (_ : Frame) (xs : List Opnd) : Option OpRes :=
  let a := xs.getD 0 {}
  let b := xs.getD 1 {}
  let c := xs.getD 2 {}
  let out := p.out0 o
  let k := a.dims.getLast?.getD 1
  let n := b.n / (max k 1)
  let m := a.n / (max k 1)
  if b.dims.getD 0 0 = k ∧ m * n = out.n ∧ (bias = false ∨ c.n = n ∨ c.n = 1 ∨ c.n = m * n) ∧ 2 ≤ xs.length then
    let elems := (List.range (m * n)).map fun e =>
      let r := e / n
      let j := e % n
      matElem a.fmt out.fmt ((List.range k).map fun q => (a.val (r * k + q), b.val (q * n + j)))
        (if bias then some (c.val (if c.n = 1 then 0 else if c.n = n then j else e)) else none)
    some (matRes elems (m * n * k * macWeight a.fmt))
  else none

/-- The input element under tap `ks` of a convolution at output place `os`; none in the padding. -/
def convTap (dims os ks : List Nat) (stride dil pad : Nat) : Option (List Nat) :=
  allSome ((List.range dims.length).map fun i =>
    let x := os.getD i 0 * stride + ks.getD i 0 * dil
    if pad ≤ x ∧ x - pad < dims.getD i 0 then some (x - pad) else none)
/-- A convolution over `sp` spatial dimensions, with or without a leading batch: weights [Co, Ci, K…], or [C, K…] where depthwise; products
in ascending index of a filter's [Ci, K…], as MATMUL orders K. -/
def convOp (sp stride dil pad : Nat) (depth : Bool) (p : Prog) (o : OpDef) (_ : Frame) (xs : List Opnd) : Option OpRes :=
  let x := xs.getD 0 {}
  let w := xs.getD 1 {}
  let out := p.out0 o
  let wRank := if depth then sp + 1 else sp + 2
  let batch := decide (x.dims.length = sp + 2)
  let off := if batch then 1 else 0
  let ci := x.dims.getD off 0
  let fl := if depth then w.dims.drop 1 else w.dims.drop 1
  let fn := fl.foldl (· * ·) 1
  let sdims := x.dims.drop (off + 1)
  if w.dims.length = wRank ∧ x.dims.length = sp + 1 + off ∧ out.dims.length = sp + 1 + off ∧ out.dims.getD off 0 = w.dims.getD 0 0
      ∧ (if depth then w.dims.getD 0 0 = ci else w.dims.getD 1 0 = ci) ∧ (batch = false ∨ out.dims.getD 0 0 = x.dims.getD 0 0) then
    let elems := (List.range out.n).map fun e =>
      let oc := coords out.dims e
      let co := oc.getD off 0
      let os := oc.drop (off + 1)
      let prods := (List.range fn).filterMap fun q =>
        let fc := coords fl q
        let ch := if depth then co else fc.getD 0 0
        let ks := if depth then fc else fc.drop 1
        match convTap sdims os ks stride dil pad with
        | none => none
        | some y => (elemOf x.dims ((if batch then [oc.getD 0 0] else []) ++ ch :: y)).map fun xe => (x.val xe, w.val (co * fn + q))
      (matElem x.fmt out.fmt prods none, prods.length)
    some (matRes (elems.map (·.1)) (macWeight x.fmt * elems.foldl (fun n x => n + x.2) 0))
  else none

/-- The record of an operation's quantiser as its thread reads it, in the committed copy or, with `work`, in the working copy (R199, R229, R232):
none where the frame is to end. -/
def State.quantRec (s : State) (c : Nat) (p : Prog) (o : OpDef) (work : Bool) : State × Option (List Nat) :=
  let a := (s.place c o.logical).copy (s.cx c).flip work + o.recOfs
  let m := s.ctxMaster c o.logical
  let lim := p.stateBytes - o.recOfs
  match s.masterRead m a (min 32 lim) with
  | (s', .ok hd) =>
    match s'.masterRead m a (min (QRec.ofBytes hd).size lim) with
    | (s', .ok b) => (s', some b)
    | (s', r) => (s'.memFail c r, none)
  | (s', r) => (s'.memFail c r, none)
/-- A quantiser operation takes effect with the bytes of its record; on a tensor of zero size it does nothing (R204, R231). -/
def State.runRec (s : State) (c i code : Nat) (work : Bool) (g : List Nat → Prog → OpDef → Frame → List Opnd → Option OpRes) : State :=
  match s.opReady c i code with
  | none => s
  | some (p, o, _) =>
    if (o.ins ++ o.outs).any (fun k => (p.tensor k).count == 0) then s.runOp c i code (g [])
    else
      match s.quantRec c p o work with
      | (s', none) => s'
      | (s', some b) => s'.runOp c i code (g b)
/-- The outlier list of a record (R229). -/
def outList (b : List Nat) : List Nat :=
  let q := QRec.ofBytes b
  (List.range q.nOut).map fun k => fieldLE b (chOfs q.nCh + 2 * k) 2
/-- Side tensor times weight rows in list order, added to the MATMUL result and converted once (R238). Inputs: the MATMUL result, the
side tensor, the weight rows. -/
def outlierOp (rec_ : List Nat) (p : Prog) (o : OpDef) (_ : Frame) (xs : List Opnd) : Option OpRes :=
  let c := xs.getD 0 {}
  let a := xs.getD 1 {}
  let w := xs.getD 2 {}
  let q := QRec.ofBytes rec_
  let ol := outList rec_
  let ax := o.axis
  let k := a.dims.getD ax 0
  let st := strideOf a.dims ax
  let n := w.n / (max (w.dims.getD 0 1) 1)
  let m := a.n / (max k 1)
  let out := p.out0 o
  if k = q.nOut ∧ m * n = c.n ∧ out.n = c.n ∧ (w.dims.getD 0 0 = k ∨ w.dims.getD 0 0 = q.nCh) then
    let elems := (List.range (m * n)).map fun e =>
      let r := e / n
      let acc := accumulate (accInt a.fmt) {} ((List.range k).map fun j =>
        let row := if w.dims.getD 0 0 = k then j else ol.getD j 0
        (a.val (r / st * (st * k) + j * st + r % st)).mul (w.val (row * n + e % n)))
      (convert out.fmt (acc.v.add (c.val e)), acc)
    some (matRes elems (m * n * k * macWeight a.fmt))
  else none

/-- One butterfly stage over values by element: pairs whose indices along the axis differ by 2^r (R237). -/
def hadStage (f dimsAx st r : Nat) (v : List (FV × Nat × Nat)) : List (FV × Nat × Nat) :=
  (List.range v.length).map fun e =>
    let i := e / st % (max dimsAx 1)
    let x := v.getD e (.zero, 0, 0)
    let up := bit i r
    let y := (v.getD (if up then e - st * 2 ^ r else e + st * 2 ^ r) (.zero, 0, 0)).1
    let z := convert f (if up then y.sub x.1 else x.1.add y)
    (valueOf f z.code, x.2.1 + b2n z.clip, x.2.2 + b2n z.nan)
/-- K stages in Sylvester order, then the factor 2^−⌊K/2⌋ with one further conversion (R237). -/
def hadamardOp (p : Prog) (o : OpDef) (_ : Frame) (xs : List Opnd) : Option OpRes :=
  let x := xs.getD 0 {}
  let out := p.out0 o
  let k := o.hadK
  let d := x.dims.getD o.hadAxis 1
  let st := strideOf x.dims o.hadAxis
  if out.n = x.n then
    let v := (List.range k).foldl (fun v r => hadStage x.fmt d st r v) ((List.range x.n).map fun e => (x.val e, 0, 0))
    let l := v.map fun y => (convert x.fmt (y.1.mul (.fin false 1 (2 ^ (k / 2)))), y.2)
    let l := l.map fun y => (convert out.fmt (valueOf x.fmt y.1.code), b2n y.1.clip + y.2.1, b2n y.1.nan + y.2.2)
    let r := convRes (l.map (·.1)) (l.foldl (fun n y => n + y.2.1) 0) (Config.hadMacs x.n k)
    some { r with nans := l.foldl (fun n y => n + y.2.2) 0 }
  else none

/-- MATMUL (R213, R227). -/
def execMatmul (c : Fin 64) (i : Fin 65536) (s : State) : Host.Outcome State Fault Refusal := .next (s.runOp c i 0x01 (matmulOp false))
/-- MATMUL_BIAS (R213, R227). -/
def execMatmulBias (c : Fin 64) (i : Fin 65536) (s : State) : Host.Outcome State Fault Refusal := .next (s.runOp c i 0x02 (matmulOp true))
/-- CONV1D (R213, R227). -/
def execConv1d (c : Fin 64) (i : Fin 65536) (stride dil pad : Nat) (s : State) : Host.Outcome State Fault Refusal :=
  .next (s.runOp c i 0x03 (convOp 1 stride dil pad false))
/-- CONV2D (R213, R227). -/
def execConv2d (c : Fin 64) (i : Fin 65536) (stride dil pad : Nat) (s : State) : Host.Outcome State Fault Refusal :=
  .next (s.runOp c i 0x04 (convOp 2 stride dil pad false))
/-- DWCONV (R213, R227): depthwise over as many spatial dimensions as its weights have. -/
def execDwconv (c : Fin 64) (i : Fin 65536) (stride dil pad : Nat) (s : State) : Host.Outcome State Fault Refusal :=
  .next (s.runOp c i 0x05 fun p o f xs => convOp ((xs.getD 1 {}).dims.length - 1) stride dil pad true p o f xs)
/-- OUTLIER_MM (R213, R238): it reads the outlier list of the committed record (R232). -/
def execOutlierMm (c : Fin 64) (i : Fin 65536) (s : State) : Host.Outcome State Fault Refusal :=
  .next (s.runRec c i 0x06 false outlierOp)
/-- HADAMARD (R213, R237). -/
def execHadamard (c : Fin 64) (i : Fin 65536) (s : State) : Host.Outcome State Fault Refusal := .next (s.runOp c i 0x08 hadamardOp)

end Sys2Proof.Machine
end

