-- ==== Sys2Proof/Machine/Quantiser.lean ====
section
/-!
DEFINITION. Quantisers: history, range, scale and codes, adaptation and outlier selection (R229 to R240).
-/
namespace Sys2Proof.Machine

/-- A sum, difference, product and quotient rounded once to FP32, with what the rounding counts (R224, R233). -/
def fAdd (a b : FV) : F32 := (a.add b).r32
def fSub (a b : FV) : F32 := (a.sub b).r32
def fMul (a b : FV) : F32 := (a.mul b).r32
def fDiv (a b : FV) : F32 := (a.div b).r32
/-- FP32 value at an offset of a record; its code. -/
def f32At (b : List Nat) (o : Nat) : FV := floatValue 7 (fieldLE b o 4)
def f32Bytes (v : FV) : List Nat := le 4 (toFloat 7 v).code

/-- Qmax of a narrow format (R233). -/
def qMax (f : Nat) : FV := if f = 0 then .ofInt 7 else if f = 1 then .ofInt 127 else if f = 2 then .ofInt 32767 else if f = 4 then .ofInt 448 else .ofInt 57344
/-- The history slots that are filled: the FILL slots written last (R233). -/
def QRec.slots (q : QRec) : List Nat := (List.range (min q.fill 8)).map fun k => (q.head + 16 - 1 - k) % 8
/-- HIST_MIN and HIST_MAX of a channel's slot. -/
def histMinOfs (j k : Nat) : Nat := chOfs j + 8 + 4 * k
def histMaxOfs (j k : Nat) : Nat := chOfs j + 40 + 4 * k
/-- Hlo and Hhi of a channel. -/
def histRange (b : List Nat) (j : Nat) : FV × FV :=
  let sl := (QRec.ofBytes b).slots
  match sl with
  | [] => (.zero, .zero)
  | k :: t => (t.foldl (fun v k => v.min (f32At b (histMinOfs j k))) (f32At b (histMinOfs j k)),
               t.foldl (fun v k => v.max (f32At b (histMaxOfs j k))) (f32At b (histMaxOfs j k)))
/-- lo and hi of a channel before the floor (R233). -/
def rawRange (b : List Nat) (j : Nat) : FV × FV :=
  let q := QRec.ofBytes b
  let h := histRange b j
  let cl := f32At b (chOfs j)
  let chh := f32At b (chOfs j + 4)
  if q.fill = 0 then (cl, chh) else if q.fill < 8 then (h.1.min cl, h.2.max chh) else h

/-- A channel's quantisation for a frame: CONSTANT, offset, inverse scale, scale (R233 to R235), and the clips of the roundings that formed
them (R224). -/
structure QChan where
  const : Bool := false
  o : FV := .zero
  inv : FV := .zero
  s : FV := .zero
  clips : Nat := 0
  deriving DecidableEq, Repr
/-- The range, the floor, CONSTANT and the scales of a channel (R233 to R235). -/
def qChan (b : List Nat) (j : Nat) : QChan :=
  let q := QRec.ofBytes b
  let r := rawRange b j
  let cl := f32At b (chOfs j)
  let chh := f32At b (chOfs j + 4)
  let fl : FV := .fin false q.floor 65536
  let qm := qMax q.fmt
  let outl := q.outlier == 2 && (outList b).contains j
  if q.asym then
    let two : FV := .ofInt 2
    let w := fSub r.2 r.1
    let cw := fSub chh cl
    let wf := fMul fl cw.v
    let narrow := w.v.lt wf.v
    let sum := fAdd r.2 r.1
    let c := fDiv sum.v two
    let half := fDiv wf.v two
    let lo := if narrow then fSub c.v half.v else { v := r.1 }
    let hi := if narrow then fAdd c.v half.v else { v := r.2 }
    let n := clipsOf ([w, cw, wf] ++ if narrow then [sum, c, half, lo, hi] else [])
    let q2 := fMul two qm
    if !outl && hi.v.eqv lo.v then { const := true, o := hi.v, clips := n }
    else
      let d := fSub hi.v lo.v
      let t := fAdd hi.v lo.v
      let o := fDiv t.v two
      let inv := fDiv q2.v d.v
      let s := fDiv d.v q2.v
      { o := o.v, inv := inv.v, s := s.v, clips := n + clipsOf [q2, d, t, o, inv, s] }
  else
    let a := r.1.abs.max r.2.abs
    let f := fMul fl (cl.abs.max chh.abs)
    let ae := a.max f.v
    if !outl && ae.isZero then { const := true, o := .zero, clips := clipsOf [f] }
    else
      let inv := fDiv qm ae
      let s := fDiv ae qm
      { o := .zero, inv := inv.v, s := s.v, clips := clipsOf [f, inv, s] }

/-- The code of one element, with the counts of its quantiser's record; clips and NaNs of the frame (R224, R225, R228, R234, R235): x − o is
a conversion into FP32, and the product enters the narrow format by another; a NaN is counted once, where it enters the narrow format (R225). -/
def quantElem (f : Nat) (ch : QChan) (x : FV) : Nat × QuantCnt × Nat × Nat :=
  if ch.const then
    (0, if x.isNan then { nans := 1 } else if x.eqv ch.o then {} else { devs := 1 }, 0, b2n x.isNan)
  else
    let d := fSub x ch.o
    let t := d.v.mul ch.inv
    let c := if fmtInt f then (match qMax f with | .fin _ m _ => toInt f (-(m : Int)) m t | _ => { code := 0 }) else toFloat f t
    let n := b2n d.clip + b2n c.clip
    (c.code, if x.isNan then { nans := 1 } else { elems := 1, clips := n }, n, b2n c.nan)
/-- CONSTANT channels of a record. -/
def constCount (b : List Nat) : Nat := ((List.range (QRec.ofBytes b).nCh).filter fun j => (qChan b j).const).length

/-- QUANT: narrow codes, and the side tensor of a SPLIT quantiser (R234, R235, R238). -/
def quantOp (b : List Nat) (p : Prog) (o : OpDef) (_ : Frame) (xs : List Opnd) : Option OpRes :=
  let x := xs.getD 0 {}
  let out := p.out0 o
  let q := QRec.ofBytes b
  let ol := if q.outlier = 2 then outList b else []
  if out.n = x.n then
    let chs := (List.range q.nCh).map (qChan b)
    let one (e : Nat) : Nat × QuantCnt × Nat × Nat :=
      let j := chanOf x.dims o.axis e
      if ol.contains j then (0, if (x.val e).isNan then { nans := 1 } else {}, 0, 0) else quantElem out.fmt (chs.getD j {}) (x.val e)
    let l := (List.range x.n).map one
    let cnt := l.foldl (fun a y => a.plus y.2.1) { constCh := constCount b }
    let st := strideOf x.dims o.axis
    let d := x.dims.getD o.axis 1
    let side := if o.outs.length < 2 ∨ q.outlier ≠ 2 then [] else
      let t := p.outT o 1
      let k := ol.length
      (List.range t.count).map fun e =>
        let r := e / (st * (max k 1))
        let j := e / st % (max k 1)
        convert q.sideFmt (x.val (r * (st * d) + ol.getD j 0 * st + e % st))
    some { outs := [l.map (·.1), side.map (·.code)], clips := l.foldl (fun n y => n + y.2.2.1) (side.filter (·.clip)).length,
           nans := l.foldl (fun n y => n + y.2.2.2) (side.filter (·.nan)).length, quant := some (o.qid, cnt) }
  else none
/-- DEQUANT: code × s + o in one rounding; o for a CONSTANT channel (R234, R235). -/
def dequantOp (b : List Nat) (p : Prog) (o : OpDef) (_ : Frame) (xs : List Opnd) : Option OpRes :=
  let x := xs.getD 0 {}
  let out := p.out0 o
  let chs := (List.range (QRec.ofBytes b).nCh).map (qChan b)
  if out.n = x.n then
    let r := convRes ((List.range x.n).map fun e =>
      let ch := chs.getD (chanOf x.dims o.axis e) {}
      convert out.fmt (if ch.const then ch.o else ((x.val e).mul ch.s).add ch.o))
    some { r with quant := some (o.qid, { constCh := constCount b }) }
  else none
/-- QSTAT: each channel's extremes enter the working record's history (R231). -/
def qstatOp (w : List Nat) (_ : Prog) (o : OpDef) (_ : Frame) (xs : List Opnd) : Option OpRes :=
  let x := xs.getD 0 {}
  let q := QRec.ofBytes w
  let prev := (q.head + 7) % 8
  let big : FV := floatValue 7 (fmtMaxCode 7)
  let val (e : Nat) : FV :=
    match x.val e with
    | .inf n => if n then big.neg else big
    | v => v.r32.v
  let w' := (List.range q.nCh).foldl (fun w j =>
    let es := ((List.range x.n).filter fun e => chanOf x.dims o.axis e == j && !((x.val e).isNan)).map val
    let mm : List Nat × List Nat := match es with
      | [] => if q.fill = 0 then (slice w (chOfs j) 4, slice w (chOfs j + 4) 4) else (slice w (histMinOfs j prev) 4, slice w (histMaxOfs j prev) 4)
      | v :: t => (f32Bytes (t.foldl FV.min v), f32Bytes (t.foldl FV.max v))
    patch (patch w (histMinOfs j q.head) mm.1) (histMaxOfs j q.head) mm.2) w
  let w' := patch w' 4 [min (q.fill + 1) 8, (q.head + 1) % 8]
  let infs := ((List.range x.n).filter fun e => match x.val e with | .inf _ => true | _ => false).length
  some { clips := infs, work := some (o.qid, o.recOfs, w') }

/-! ### The frame end (R236, R239, R240) -/

/-- A list sorted by a relation. -/
def insertBy {α : Type} (lt : α → α → Bool) (a : α) : List α → List α
  | [] => [a]
  | b :: t => if lt a b then a :: b :: t else b :: insertBy lt a t
def sortBy {α : Type} (lt : α → α → Bool) (l : List α) : List α := l.foldl (fun r a => insertBy lt a r) []

/-- Calibration adaptation of a record whose history is full, with the clips of its roundings (R224, R236). -/
def adaptRec (b : List Nat) : List Nat × Nat :=
  let q := QRec.ofBytes b
  if q.fill = 8 ∧ q.shift ≠ 0 then
    let k : FV := .fin false 1 (2 ^ q.shift)
    (List.range q.nCh).foldl (fun w j =>
      let h := histRange b j
      let move (c to_ : FV) : F32 × Nat :=
        let d := fSub to_ c
        let p := fMul d.v k
        let r := fAdd c p.v
        (r, clipsOf [d, p, r])
      let lo := move (f32At b (chOfs j)) h.1
      let hi := move (f32At b (chOfs j + 4)) h.2
      (patch w.1 (chOfs j) (f32Bytes lo.1.v ++ f32Bytes hi.1.v), w.2 + lo.2 + hi.2)) (b, 0)
  else (b, 0)
/-- Outlier selection of a SPLIT quantiser (R239). -/
def selectOutliers (b : List Nat) : List Nat :=
  let q := QRec.ofBytes b
  if q.outlier = 2 then
    let a (j : Nat) : FV := let r := rawRange b j; r.1.abs.max r.2.abs
    let order := sortBy (fun x y : Nat × FV => if y.2.lt x.2 then true else if x.2.lt y.2 then false else decide (x.1 < y.1))
      ((List.range q.nCh).map fun j => (j, a j))
    let top := sortBy (fun x y => decide (x < y)) ((order.take q.nOut).map (·.1))
    let b := patch b (chOfs q.nCh) (top.flatMap (le 2))
    (List.range q.nCh).foldl (fun w j =>
      let f := fieldLE w (chOfs j + 72) 4
      let f := setBit f 1 (top.contains j)
      patch w (chOfs j + 72) (le 4 (if top.contains j then setBit f 0 false else f))) b
  else b
/-- A record as a committed frame leaves it: its counts, CONST flags of the frame's range, adaptation and outliers (R229, R232, R234). -/
def commitRec (committed w : List Nat) (cnt : QuantCnt) (ran : Bool) : List Nat :=
  let q := QRec.ofBytes w
  let w := patch w 0x0C (le 4 (satU 32 cnt.clips) ++ le 4 (satU 32 cnt.elems) ++ le 4 (satU 32 cnt.nans) ++ le 4 (satU 32 cnt.devs))
  let w := (List.range q.nCh).foldl (fun w j =>
      patch w (chOfs j + 72) (le 4 (setBit (fieldLE w (chOfs j + 72) 4) 0 (qChan committed j).const))) w
  if ran then selectOutliers (adaptRec w).1 else w
/-- The declared state that a frame commits (R202, R236, R239). -/
def State.commitState (s : State) (c : Nat) (p : Prog) (f : Frame) : List Nat :=
  let committed := s.readCopy c false
  p.quants.foldl (fun st q =>
    let ofs := q.2.1 * p.stateBytes + q.2.2
    let len := (QRec.ofBytes (slice committed ofs 32)).size
    let cnt := Tab.get ({} : QuantCnt) f.quant q.1
    patch st ofs (commitRec (slice committed ofs len) (slice st ofs len) cnt (f.qstats.contains q.1))) (s.readCopy c true)
/-- The clips of the FP32 steps that a frame takes outside its threads (R224, R228): the ranges and scales of every channel at its start, none where it
did not run (R233 to R235), and, where it commits, the calibration's adaptation (R236). -/
def State.rangeClips (s : State) (c : Nat) (p : Prog) (f : Frame) (commit : Bool) : Nat :=
  let work := s.readCopy c true
  p.quants.foldl (fun n q =>
    let ofs := q.2.1 * p.stateBytes + q.2.2
    let len := (QRec.ofBytes (slice f.base ofs 32)).size
    let b := slice f.base ofs len
    (List.range (QRec.ofBytes b).nCh).foldl (fun n j => n + (qChan b j).clips) n
      + if commit && f.qstats.contains q.1 then (adaptRec (slice work ofs len)).2 else 0) 0

/-- The clip share of a quantiser (R240). -/
def clipShare (q : QuantCnt) : Nat := if q.elems = 0 then 0 else q.clips * 65536 / q.elems
/-- The largest share over the quantisers of a program, with the lowest Q_ID that gives it. -/
def worstShare (ids : List Nat) (t : Tab QuantCnt) : Nat × Nat :=
  (ids.foldl (fun (b : Option (Nat × Nat)) k =>
    let x := clipShare (Tab.get ({} : QuantCnt) t k)
    match b with
    | none => some (k, x)
    | some y => if y.2 < x ∨ (y.2 = x ∧ k < y.1) then some (k, x) else b) none).getD (0, 0)
/-- The quantisation registers at a frame end, and the clip alarm (R228, R234, R240). The share is compared whole; SHARE and the event show at
most 65,535 (DESIGN CHOICE, assumption log 49). -/
def State.quantReport (s : State) (c : Nat) (p : Prog) (f : Frame) : State :=
  let tot := f.quant.foldl (fun a e => { a.plus e.2 with constCh := a.constCh + e.2.constCh }) ({} : QuantCnt)
  let w := worstShare (p.quants.map (·.1)) f.quant
  let shown := min w.2 65535
  let s := ((s.wr CTX.Q_CLIP.CNT (satU 32 f.clipCnt) c).wr CTX.Q_ELEM.CNT (satU 32 tot.elems) c).wr CTX.Q_NAN.CNT (satU 32 f.nanCnt) c
  let s := s.wr CTX.Q_DEV.CNT (satU 32 tot.devs) c
  let s := ((s.raiseIf (decide (0 < f.nanCnt)) CTX.Q_STATUS.NAN c).raiseIf (decide (0 < tot.devs)) CTX.Q_STATUS.DEVIATE c)
  let s := (s.put CTX.Q_STATUS.CONST (decide (0 < tot.constCh)) c).wr CTX.Q_STATUS.CONST_CH (satU 16 tot.constCh) c
  let s := (s.wr CTX.Q_WORST.SHARE shown c).wr CTX.Q_WORST.Q_ID w.1 c
  let s := ((s.incWrap CTX.Q_CLIP_TOT c 0 f.clipCnt).incWrap CTX.Q_ELEM_TOT c 0 tot.elems).incWrap CTX.Q_NAN_TOT c 0 f.nanCnt
  let lim := s.rd CTX.Q_CFG.CLIP_ALARM c
  if lim ≠ 0 ∧ lim < w.2 then (s.raise CTX.Q_STATUS.CLIP_ALARM c).emit 0x0607 (srcContext c) (le 4 f.num ++ le 2 w.1 ++ le 2 shown) else s
/-- FILL_MIN and FILL_MAX over the quantisers of a context (CTX.Q_HIST). -/
def State.showFill (s : State) (c : Nat) (p : Prog) : State :=
  let st := s.readCopy c false
  let fills := p.quants.map fun q => fieldLE st (q.2.1 * p.stateBytes + q.2.2 + 4) 1
  match fills with
  | [] => (s.wr CTX.Q_HIST.FILL_MIN 0 c).wr CTX.Q_HIST.FILL_MAX 0 c
  | a :: t => (s.wr CTX.Q_HIST.FILL_MIN (t.foldl min a) c).wr CTX.Q_HIST.FILL_MAX (t.foldl max a) c

/-- QUANT (R213, R232 to R235, R238). -/
def execQuant (c : Fin 64) (i : Fin 65536) (s : State) : Host.Outcome State Fault Refusal := .next (s.runRec c i 0x41 false quantOp)
/-- DEQUANT (R213, R232, R235). -/
def execDequant (c : Fin 64) (i : Fin 65536) (s : State) : Host.Outcome State Fault Refusal := .next (s.runRec c i 0x42 false dequantOp)
/-- QSTAT (R213, R231): it reads and writes the working copy. -/
def execQstat (c : Fin 64) (i : Fin 65536) (s : State) : Host.Outcome State Fault Refusal := .next (s.runRec c i 0x43 true qstatOp)

end Sys2Proof.Machine
end

