-- ==== Sys2Proof/Machine/Threads.lean ====
section
/-!
DEFINITION. Operations of threads on queues and the frame: WAIT, POST, RETIRE, DMA, BARRIER, RESULT and NOP (R206, R208, R213, R214, R255,
R266, R445).
-/
namespace Sys2Proof.Machine

/-- The descriptor fields that a digest takes: TYPE, LEN, PARAM, USER (R266). -/
def digFields (b : List Nat) : List Nat := slice b 0 1 ++ slice b 0x20 4 ++ slice b 0x24 4 ++ slice b 0x2C 20
/-- A descriptor can be taken from a queue by a thread: it is enabled and one is posted (R206). -/
def State.qCanTake (s : State) (q : Nat) : Bool := s.flag Q.CFG.EN q && decide (0 < s.qPosted q)

/-- The descriptor at the take slot of a queue as a thread of logical engine `l` reads it (R199, R217): none where the frame is to end. -/
def State.threadPeek (s : State) (c l q : Nat) : State × Option (List Nat) :=
  match s.masterRead (s.ctxMaster c l) (s.qSlotAddr q (s.rd Q.SLOTS.TAKE_SLOT q)) 64 with
  | (s', .ok b) => (s', some b)
  | (s', r) => (s'.memFail c r, none)
/-- A thread of logical engine `l` posts a descriptor: its write passes the access table of the engine's master (R199), and ends the frame where it is
refused (R217). The answer says whether it is posted. -/
def State.threadPost (s : State) (c l q : Nat) (d : Desc) : State × Bool :=
  match s.masterWrite (s.ctxMaster c l) (s.qPostAddr q) (d.bytes s.dtime (s.rd Q.POSTS.SEQ q)) with
  | (s', .ok _) => (s'.qPosted1 q, true)
  | (s', r) => (s'.memFail c r, false)
/-- WAIT takes one descriptor, in a re-run the one it took before (R271, R445). A Babbitt post of LEN 0 to IN_Q ends the frame with
NO_INPUT (R252). -/
def State.opWait (s : State) (c i : Nat) : State :=
  match s.opReady c i 0x60 with
  | none => s
  | some (p, o, f) =>
    let q := s.opQueue c o
    let first := o.queue == 0xFFFF && !((List.range i).any fun j => let x := p.ops.getD j {}; x.opcode == 0x60 && x.queue == 0xFFFF)
    match f.rerun, f.taken.find? (fun t => t.1 == i) with
    | true, some t => s.opDone c i t.2
    | _, _ =>
      if s.qCanTake q then
        match s.threadPeek c o.logical q with
        | (s, none) => s
        | (s, some b) =>
          let d := Desc.ofBytes b
          let s := s.qTake1 q
          let s := s.updFrame c fun f =>
            { f with taken := f.taken ++ [(i, digFields b)], input := if first then some (d.addr, d.len) else f.input }
          if first && d.src == 0x18 && d.len == 0 && d.frame == f.num then s.failFrame c 7 else s.opDone c i (digFields b)
      else s
/-- The descriptor that POST posts (R445). -/
def State.postDesc (s : State) (c : Nat) (p : Prog) (o : OpDef) (f : Frame) : Desc :=
  let base : Desc := { type_ := 4, src := s.ctxMaster c o.logical, ctx := c, frame := f.num }
  match o.ins with
  | [] => base
  | k :: _ => { base with type_ := 0, addr := s.tensorAddr c f (p.tensor k), len := (p.tensor k).bytes, param := k }
/-- POST waits for a credit and posts (R206, R445); a re-run's descriptors are in their queues already (R271); with an input tensor of zero size it
does nothing (R204). -/
def State.opPost (s : State) (c i : Nat) : State :=
  match s.opReady c i 0x61 with
  | none => s
  | some (p, o, f) =>
    let q := s.opQueue c o
    let d := s.postDesc c p o f
    if o.ins.any (fun k => (p.tensor k).count == 0) then s.opDone c i []
    else if f.rerun then s.opDone c i (digFields (d.bytes 0 0))
    else if s.qCanPost q then
      match s.threadPost c o.logical q d with
      | (s', true) => s'.opDone c i (digFields (d.bytes 0 0))
      | (s', false) => s'
    else s
/-- RETIRE retires COUNT taken descriptors; where fewer are taken it changes nothing and sets UNDERFLOW (R206, R445). -/
def State.opRetire (s : State) (c i : Nat) : State :=
  match s.opReady c i 0x62 with
  | none => s
  | some (_, o, f) =>
    let q := s.opQueue c o
    if f.rerun then s.opDone c i []
    else if !(s.flag Q.CFG.EN q) then s
    else if s.qTaken q < o.cnt then (s.raise Q.STATUS.UNDERFLOW q).opDone c i []
    else (s.qRetireN q o.cnt).opDone c i []
/-- DMA posts a DMA descriptor, then waits for the completion TOKEN, which it takes and retires (R208, R213). -/
def State.opDma (s : State) (c i q done src dst len : Nat) : State :=
  match s.opReady c i 0x58 with
  | none => s
  | some (_, o, f) =>
    match f.dmaWait.find? (fun x => x.1 == i) with
    | none =>
      if s.qCanPost q then
        match s.threadPost c o.logical q
            { type_ := 1, src := s.ctxMaster c o.logical, ctx := c, frame := f.num, addr := src, addr2 := dst, len := len, param := done } with
        | (s', true) => s'.updFrame c fun f => { f with dmaWait := (i, done) :: f.dmaWait }
        | (s', false) => s'
      else s
    | some w =>
      if s.qCanTake w.2 then
        match s.threadPeek c o.logical w.2 with
        | (s, none) => s
        | (s, some b) => if (Desc.ofBytes b).type_ == 4 then ((s.qTake1 w.2).qRetireN w.2 1).opDone c i [] else s
      else s
/-- BARRIER is passed once the earlier operations of every named logical engine are done. -/
def State.opBarrier (s : State) (c i mask : Nat) : State :=
  match s.opReady c i 0x63 with
  | none => s
  | some (p, _, f) =>
    if (List.range i).all fun j => f.doneOps.contains j || !(bit mask (p.ops.getD j {}).logical) then s.opDone c i [] else s
/-- RESULT forms the result block from the first 256 bytes of its input with FRAME replaced (R213, R255). -/
def State.opResult (s : State) (c i : Nat) : State :=
  match s.opReady c i 0x64 with
  | none => s
  | some (p, o, _) =>
    match s.readTensor c o.logical p (o.ins.getD 0 0xFFFF) with
    | (s', none) => s'
    | (s', some d) => (s'.updFrame c fun f => { f with result := some (patch (slice d 0 256) 0 (le 4 f.num)) }).opDone c i []
/-- NOP has no effect. -/
def State.opNop (s : State) (c i : Nat) : State := match s.opReady c i 0x65 with | none => s | some _ => s.opDone c i []

/-- DMA (R208, R213): the queue, completion queue, addresses and length are the operation's attributes, whose layout is not given. -/
def execDma (c : Fin 64) (i : Fin 65536) (q done : Fin 1024) (src dst len : Nat) (s : State) : Host.Outcome State Fault Refusal :=
  .next (s.opDma c i q done src dst len)
/-- WAIT (R213, R445). -/
def execWait (c : Fin 64) (i : Fin 65536) (s : State) : Host.Outcome State Fault Refusal := .next (s.opWait c i)
/-- POST (R213, R445). -/
def execPost (c : Fin 64) (i : Fin 65536) (s : State) : Host.Outcome State Fault Refusal := .next (s.opPost c i)
/-- RETIRE (R213, R445). -/
def execRetire (c : Fin 64) (i : Fin 65536) (s : State) : Host.Outcome State Fault Refusal := .next (s.opRetire c i)
/-- BARRIER (R213): `mask` names logical engines of the partition. -/
def execBarrier (c : Fin 64) (i : Fin 65536) (mask : Fin 256) (s : State) : Host.Outcome State Fault Refusal := .next (s.opBarrier c i mask)
/-- RESULT (R213, R255). -/
def execResult (c : Fin 64) (i : Fin 65536) (s : State) : Host.Outcome State Fault Refusal := .next (s.opResult c i)
/-- NOP (R213). -/
def execNop (c : Fin 64) (i : Fin 65536) (s : State) : Host.Outcome State Fault Refusal := .next (s.opNop c i)

end Sys2Proof.Machine
end

