-- ==== Sys2Proof/Machine/FrameEnd.lean ====
section
/-!
DEFINITION. The end of a frame: drained queues, digests, the output record, the RESULT descriptor, trace buffers, the re-run and the
commit of lock-step pairs, and the watchdog (R207, R215 to R218, R228, R265 to R275, R443).
-/
namespace Sys2Proof.Machine

/-- The queues that belong to the frames of context `c` are drained (R207). -/
def State.drainQueues (s : State) (c : Nat) : State :=
  s.forEach ((List.range 1024).filter fun q => s.flag Q.CFG.FRAME_BOUND q && s.rd Q.CFG.CTX q == c && !(s.qEmpty q)) fun s q =>
    let s := s.times (s.qPosted q) fun s => s.qTake1 q
    let s := (s.qRetireN q (s.qTaken q)).raise Q.STATUS.UNDRAINED q
    s.updFrame c fun f => { f with flags := setBit f.flags flUndrained true }
/-- The tiles of a context leave the engines; one in an issue slot is charged its clocks (R209, R218). -/
def State.dropTiles (s : State) (c : Nat) : State :=
  s.forEach (List.range 8) fun s p => if (s.en p).tiles.any (fun t => t.ctx == c) then s.dropEngine p fun t => t.ctx != c else s

/-- The weight digest W that CTX.WDIGEST holds (R267). -/
def State.wDigest (s : State) (c : Nat) : List Nat := (List.range 8).flatMap fun k => le 4 (s.rd CTX.WDIGEST.W c k)
/-- The result digest of a frame that is to commit `out` (R265, R266). -/
def State.resultDigest (s : State) (c : Nat) (p : Prog) (f : Frame) (out : List Nat) : List Nat :=
  let idx := List.range p.tensors.length
  let ins := (idx.filter fun k => (p.tensor k).kind == kInput || (p.tensor k).kind == kShared).flatMap fun k =>
    match Tab.get [] f.inDig k with
    | [] => sha3 (s.peekTensor c f (p.tensor k))
    | d => d
  let outs := (idx.filter fun k => (p.tensor k).kind == kResult).flatMap fun k => sha3 (s.peekTensor c f (p.tensor k))
  let taken := (List.range p.ops.length).flatMap fun i => (f.taken.filter fun t => t.1 == i).flatMap (·.2)
  let block := match f.result with
    | some r => sha3 (patch r 0 [0, 0, 0, 0])
    | none => sha3 []
  sha3 ([1, 0, p.partSize, 0, 0, 0, 0, 0] ++ p.digest ++ s.wDigest c ++ slice f.sIn 0 32 ++ ins ++ sha3 taken ++ outs ++ block ++ sha3 out)

/-- What the result digest reads of memory at a frame's end: tensors not yet digested, and the working copy (R265, R266). -/
def State.digestRanges (s : State) (c : Nat) (p : Prog) (f : Frame) : List (Nat × Nat) :=
  ((List.range p.tensors.length).filter fun k =>
      let t := p.tensor k
      (t.kind == kInput || t.kind == kShared) && (Tab.get [] f.inDig k).isEmpty || t.kind == kResult && !(s.lockStep c)).map
    (fun k => (s.tensorAddr c f (p.tensor k), (p.tensor k).bytes)) ++ s.copyParts c true
/-- The 64 bytes of a frame status record (R216). -/
def statusRecord (c code flags done ovr : Nat) (f : Frame) (dig : List Nat) : List Nat :=
  le 4 f.num ++ [code, c] ++ le 2 flags ++ le 8 f.trig.stamp ++ le 8 done ++ le 4 (f.clks.foldl max 0) ++ le 2 ovr
    ++ (if f.trig.cmd then [0, 0] else [f.trig.slot, f.trig.tbState]) ++ slice dig 0 32
/-- The trace buffer of a traced frame (R275). -/
def traceBuffer (c code : Nat) (p : Prog) (f : Frame) (dig : List Nat) : List Nat :=
  le 4 f.num ++ [c, code] ++ le 2 p.ops.length ++ le 8 f.trig.stamp ++ slice dig 0 32 ++ List.replicate 16 0
    ++ (List.range p.ops.length).flatMap fun i =>
      let o := p.ops.getD i {}
      let d := Tab.get (0, []) f.opDig i
      let ex := f.doneOps.contains i
      le 4 i ++ [o.opcode, o.logical] ++ le 2 o.nTiles ++ le 8 d.1 ++ slice d.2 0 32
        ++ [b2n (o.opcode == 0x39 || o.opcode == 0x50) + 2 * b2n ex] ++ List.replicate 15 0
/-- The snapshot of a context: DIGEST and committed state (R444), written under master 0x08; RCODE 0 or ADDRESS (R201). An uncorrectable error in
the committed copy ends it with ADDRESS too (DESIGN CHOICE, assumption log 43). -/
def State.snapWrite (s : State) (c : Nat) : State × Nat :=
  let d := ((s.cx c).prog.map (·.digest)).getD []
  let a := s.rd CTX.SNAP c
  if a % 64 ≠ 0 then (s, 2) else
  match s.eccScan 8 (s.copyParts c false) with
  | (s, some _) => (s, 2)
  | (s, none) =>
    let r := s.masterWrite 8 a (slice d 0 32 ++ s.readCopy c false)
    (r.1, if r.2.good then 0 else 2)

/-- The FLAGS of a frame that ends now (R218, R228, R243). -/
def frameFlags (f : Frame) (done : Nat) (dig : Bool) : Nat :=
  let fl := setBit f.flags flLate (decide (f.trig.stamp + 272000 < done))
  let fl := setBit (setBit (setBit fl flClip (decide (0 < f.clipCnt))) flNan (decide (0 < f.nanCnt))) flConst (f.quant.any fun e => 0 < e.2.constCh)
  setBit (setBit fl flDigest dig) flRerun f.rerun
/-- RESULT tensors that a lock-step frame held go out with its commit (R271). -/
def State.frameHeld (s : State) (c : Nat) (p : Prog) (f : Frame) : State :=
  s.forEach ((List.range p.tensors.length).filter fun k => (p.tensor k).kind == kResult) fun s k =>
    (s.masterWrite (s.ctxMaster c 0) (s.tensorAddr c f (p.tensor k)) (s.peekTensor c f (p.tensor k))).1
/-- The trace buffer of a traced frame is written; a TRACE_BASE that is not aligned sets ERR instead (R275). -/
def State.frameTrace (s : State) (c code : Nat) (p : Prog) (f : Frame) (dig : List Nat) : State :=
  if f.trace then
    if s.rd CTX.TRACE_BASE c % 64 ≠ 0 then (s.clear CTX.TRACE_CTRL.BUSY c).raise CTX.TRACE_CTRL.ERR c
    else
      let s := (s.masterWrite (s.ctxMaster c 0) (s.rd CTX.TRACE_BASE c) (traceBuffer c code p f dig)).1
      (s.clear CTX.TRACE_CTRL.BUSY c).raise CTX.TRACE_CTRL.DONE c
  else s
/-- What the frame's end puts into memory and declared state: held RESULT tensors, the status record with the RESULT block, the commit, the
quantisers' counts, the trace buffer (R202, R216, R228, R275). -/
def State.frameOut (s : State) (c code fl : Nat) (p : Prog) (f : Frame) (dig : List Nat) : State :=
  let ok := code == 0
  let out := s.commitState c p f
  let body := statusRecord c code fl s.dtime (s.cx c).ovr f dig
  let s := if ok && s.lockStep c then s.frameHeld c p f else s
  let s := (s.masterWrite (s.ctxMaster c 0) (s.outRec c f.num) (if ok then body ++ (f.result.getD []) else body)).1
  let s := if ok then ((s.writeCopy c true out).updCx c fun h => { h with flip := !h.flip }).showFill c p else s
  (s.quantReport c p f).frameTrace c code p f dig
/-- The registers of a frame's end, and the recorder event of one that failed (R216, R217, R218). -/
def State.frameRegs (s : State) (c code fl : Nat) (f : Frame) : State :=
  let s := (s.wr CTX.LAST_CODE.CODE code c).wr CTX.LAST_CODE.FLAGS fl c
  let s := (s.wr CTX.LAST_TRIG f.trig.stamp c).wr CTX.LAST_DONE s.dtime c
  let cm := f.clks.foldl max 0
  let s := (s.wr CTX.CLK_LAST.CLK cm c).wr CTX.CLK_MAX.CLK (max cm (s.rd CTX.CLK_MAX.CLK c)) c
  if code == 0 then s else s.emit 0x0602 (srcContext c) (le 4 f.num ++ [code] ++ le 2 fl)
/-- The frame's RESULT descriptor and what it gives Babbitt's result path (R206, R256). -/
def State.frameDesc (s : State) (c code fl : Nat) (f : Frame) : State :=
  let s := (s.qPostHw (s.rd CTX.QUEUES.RES_Q c)
    { type_ := 2, src := s.ctxMaster c 0, ctx := c, frame := f.num, addr := s.outRec c f.num,
      len := if code == 0 then s.rd CTX.OUT_STRIDE.STRIDE c else 64 }).1
  let b : BabCtxH := Tab.get {} s.babCtxs c
  let b : BabCtxH := { b with apply := b.apply ++ [(f.num, code, fl, f.result.getD [], s.dtime)] }
  { s with babCtxs := Tab.put {} s.babCtxs c b }
/-- A snapshot that waited for the frame's end runs (R201, R444). -/
def State.frameSnap (s : State) (c : Nat) : State :=
  match (s.cx c).cmd with
  | some k =>
    if k.op = 6 ∧ k.result = none then
      let r := s.snapWrite c
      r.1.updCx c fun h => { h with cmd := some { k with result := some r.2 } }
    else s
  | none => s
/-- The frame leaves the context: a waiting snapshot runs, and a latched trigger starts the next frame (R51, R215), or is dropped where no frame
may start (R197). -/
def State.frameNext (s : State) (c num : Nat) : State :=
  let s := (s.updCx c fun h => { h with frame := none, ovr := 0, wait := none, pkts := h.pkts.filter fun k => k.frame != num }).clear
    CTX.STATUS.FRAME_ACTIVE c
  let s := s.frameSnap c
  match (s.cx c).latched with
  | some t =>
    let s := (s.updCx c fun h => { h with latched := none }).clear CTX.STATUS.LATCHED c
    if s.flag INF.STATUS.UNAVAIL then s else s.startFrame c t
  | none => s
/-- The record of a frame is written, with a CODE: flags, counts, commit, output record, RESULT descriptor, trace buffer, registers, Babbitt's
result path, a snapshot that waited, and the start of a latched frame (R202, R209, R215 to R218, R228, R443). -/
def State.frameWrap (s : State) (c code : Nat) (dig : Option (List Nat)) : State :=
  match (s.cx c).prog, (s.cx c).frame with
  | some p, some f =>
    let f := { f with clipCnt := f.clipCnt + s.rangeClips c p f (code == 0) }
    let fl := frameFlags f s.dtime dig.isSome
    (((s.frameOut c code fl p f (dig.getD [])).frameRegs c code fl f).frameDesc c code fl f).frameNext c f.num
  | _, _ => s
/-- A frame ends with a CODE: its queues are drained and its tiles dropped (R207, R218), then its record is written. -/
def State.frameFinish (s : State) (c code : Nat) (dig : Option (List Nat)) : State :=
  ((s.drainQueues c).dropTiles c).frameWrap c code dig

/-! ### Lock-step pairs (R269 to R273) -/

/-- The axes of BAB.CTX_AXES. -/
def State.babAxes (s : State) (c : Nat) : List Nat := (List.range 48).filter fun n => bit (s.rd BAB.CTX_AXES c) n
/-- Both modules of the pair run the frame again from the same committed state and inputs, in class 2 (R271), traced where TRACE_ON_MISM asks for
it (R272) or where ARM had the frame traced (R274: DESIGN CHOICE, the buffer then holds the re-run, assumption log 57). -/
def State.twinRerun (s : State) (c : Nat) : State :=
  let want := s.flag CTX.DIG_CFG.TRACE_ON_MISM c
  let tr := want && s.rd CTX.TRACE_BASE c % 64 == 0
  let s := s.dropTiles c
  let r := (s.updCx c fun h => { h with wait := none }).startState c
  let s := r.1
  let base := if r.2 then [] else s.readCopy c false
  let s := (s.raiseIf tr CTX.TRACE_CTRL.BUSY c).raiseIf (want && !tr) CTX.TRACE_CTRL.ERR c
  s.updFrame c fun f =>
    { f with clks := List.replicate 8 0, class2 := true, result := none, doneOps := [], readyTiles := [], opDig := [], inDig := [], quant := [],
             qstats := [], nanCnt := 0, clipCnt := 0, dmaWait := [], trace := f.trace || tr, rerun := true, base := base,
             endCode := if r.2 then some 1 else none }
/-- The local digest and the partner's packet of the same FRAME and KIND are compared (R271 to R273); a frame that is to end with a code of
its own meanwhile ends with that (R218, R272). -/
def State.twinJudge (s : State) (c : Nat) : State :=
  match (s.cx c).frame, (s.cx c).wait with
  | some f, some w =>
    if f.endCode.isSome then s else
    match (s.cx c).pkts.find? fun k => k.frame == f.num && k.kind == w.kind with
    | none => s
    | some k =>
      let dig := if s.flag CTX.DIG_CFG.EN c then some w.digest else none
      let s := s.updCx c fun h => { h with wait := none, pkts := h.pkts.filter fun x => !(x.frame == f.num && x.kind == w.kind) }
      let misM := le 4 f.num ++ [w.kind, 0, 0, 0] ++ w.digest.take 10 ++ k.digest.take 10
      if k.code ≠ 0 then s.frameFinish c 4 (some w.digest)
      else if k.digest = w.digest then
        let s := if w.kind = 1 then ((s.raise CTX.DIG_STATUS.TRANSIENT c).incWrap CTX.DIG_STATUS.RERUN_OK_CNT c).emit 0x0704 (srcContext c) (le 4 f.num)
          else s
        s.frameFinish c 0 dig
      else if w.kind = 0 then
        (((s.incSat CTX.DIG_STATUS.MISM_CNT c).wr CTX.TWIN_MISM_TIME s.dtime c).emit 0x0703 (srcContext c) misM).twinRerun c
      else
        let s := ((s.raise CTX.DIG_STATUS.TWIN_FENCED c).wr CTX.TWIN_MISM_TIME s.dtime c).emit 0x0703 (srcContext c) misM
        let s := s.emit 0x0705 (srcContext c) (le 4 f.num)
        let s := s.fault 20 0 s.rcTwinFence (s.babAxes c)
        s.frameFinish c 4 none
  | _, _ => s
/-- The axes of a pair (AX.SAF_CFG.PAIR). -/
def State.pairAxes (s : State) : List Nat := axes.filter fun n => s.flag AX.SAF_CFG.PAIR n
/-- The partner is missing for a context (R272). -/
def State.twinLost (s : State) (c : Nat) : State :=
  let s := ((s.raise CTX.DIG_STATUS.TWIN_LOST c).raise TWN.STATUS.LOST).emitMerge 0x0706 (srcContext c)
  s.fault 19 0 s.rcTwinLost s.pairAxes

/-! ### Commands -/

/-- A frame can end: it is to end with a code, WITHHELD_ECC once its threads have retired (R218), or all its operations are done and it does
not wait for a partner. -/
def State.frameCanEnd (s : State) (c : Nat) : Bool :=
  match (s.cx c).prog, (s.cx c).frame with
  | some p, some f =>
    match f.endCode with
    | some code => code != 1 || (List.range 8).all fun p => !((s.en p).tiles.any fun t => t.ctx == c)
    | none => (s.cx c).wait.isNone && (List.range p.ops.length).all fun i => f.doneOps.contains i
  | _, _ => false
/-- The comparison packet of a lock-step frame (R271). -/
def State.sendCompare (s : State) (c : Nat) (f : Frame) (code : Nat) (digest : List Nat) : State :=
  s.twinSend pkCompare ([c, b2n f.rerun, code, 0] ++ le 4 f.num ++ le 8 f.trig.stamp ++ List.replicate 16 0 ++ slice digest 0 32)
/-- A lock-step frame whose operations are done sends its digest and waits for its partner's (R271). -/
def State.frameWait (s : State) (c : Nat) (f : Frame) (d : List Nat) : State :=
  ((s.sendCompare c f 0 d).updCx c fun h => { h with wait := some { kind := b2n f.rerun, digest := d, at_ := s.dtime } }).twinJudge c
/-- A frame ends with the code it was to end with, or with its results; in lock step its packet goes out first
(R215, R271). What its digest cannot read without error withholds it (R217, R284). -/
def State.frameClose (s : State) (c : Nat) : State :=
  match (s.cx c).prog, (s.cx c).frame with
  | some p, some f =>
    match f.endCode with
    | some code => (if s.lockStep c then s.sendCompare c f code (List.replicate 32 0) else s).frameFinish c code none
    | none =>
      match s.eccScan (s.ctxMaster c 0) (if s.lockStep c || s.flag CTX.DIG_CFG.EN c then s.digestRanges c p f else []) with
      | (s, some _) => (if s.lockStep c then s.sendCompare c f 1 (List.replicate 32 0) else s).frameFinish c 1 none
      | (s, none) =>
      let out := s.commitState c p f
      if s.lockStep c then s.frameWait c f (s.resultDigest c p f out)
      else s.frameFinish c 0 (if s.flag CTX.DIG_CFG.EN c then some (s.resultDigest c p f out) else none)
  | _, _ => s
/-- The last thread has retired: the frame ends, or, in lock step, its packet goes out (R215, R271). -/
def State.frameEnd (s : State) (c : Nat) : State := s.frameClose c

/-- FRAME_END (R215). -/
def execFrameEnd (c : Fin 64) (s : State) : Host.Outcome State Fault Refusal := .next (if s.frameCanEnd c then s.frameEnd c else s)
/-- FRAME_TIMEOUT (R217): a frame not ended CTX.CFG.WDOG ms after its trigger ends with TIMEOUT, its threads discarded. -/
def execFrameTimeout (c : Fin 64) (s : State) : Host.Outcome State Fault Refusal :=
  let w := s.rd CTX.CFG.WDOG c
  match (s.cx c).frame with
  | some f =>
    if w ≠ 0 ∧ f.trig.stamp + w * msTicks ≤ s.dtime then
      let s := if s.lockStep c then s.sendCompare c f (f.endCode.getD 6) (List.replicate 32 0) else s
      .next ((s.failFrame c 6).frameFinish c (f.endCode.getD 6) none)
    else .next s
  | none => .next s
/-- COMPARE (R271): the partner's comparison packet arrives. -/
def execCompare (c : Fin 64) (kind : Fin 2) (code : Fin 256) (frame : Nat) (digest : List Nat) (s : State) : Host.Outcome State Fault Refusal :=
  if s.lockStep c then
    let s := s.linkRecv 2 pkCompare
    let k : TwinPkt := { kind := kind, code := code, frame := frame % 2 ^ 32, digest := slice digest 0 32 }
    .next ((s.updCx c fun h => { h with pkts := h.pkts ++ [k] }).twinJudge c)
  else .next s
/-- TWIN_PARTNER_TIMEOUT (R272): no packet of the partner TMO µs after the local digest. -/
def execTwinPartnerTimeout (c : Fin 64) (s : State) : Host.Outcome State Fault Refusal :=
  match (s.cx c).wait, (s.cx c).frame with
  | some w, some f =>
    if f.endCode = none ∧ w.at_ + s.rd TWN.CFG.TMO * usTicks ≤ s.dtime then .next ((s.twinLost c).frameFinish c 4 none) else .next s
  | _, _ => .next s
/-- LINK_COPY (R269): a COPY packet gives the FOLLOW the frame buffer, the descriptor's fields, FRAME and TRIG_STAMP, which trigger the frame there; a
trigger during a frame or a re-run is latched or an overrun as any other (R51, R271). A context without an input queue gets the trigger alone; an
input post that is dropped ends the frame with NO_INPUT (R217). -/
def execLinkCopy (c : Fin 64) (frame stamp : Nat) (type_ : Fin 256) (param : Nat) (user data : List Nat) (s : State) :
    Host.Outcome State Fault Refusal :=
  if s.lockStep c && s.flag TWN.CFG.ROLE then
    let fr := frame % 2 ^ 32
    let s := (s.linkRecv 2 pkCopy).incWrap TWN.STATUS.COPY_CNT
    let r := s.trigger c { stamp := stamp % 2 ^ 64, copy := some fr }
    if r.2 = none ∨ s.flag CTX.QUEUES.IN_NONE c = true then .next r.1
    else
      let buf := s.rd BAB.CTX_BUF c + fr % 2 * s.rd BAB.CTX_LAYOUT.VALUE c
      let q := ((r.1.masterWrite 0x18 buf data).1).qPostHw (s.rd CTX.QUEUES.IN_Q c)
        { type_ := type_, src := 0x31, ctx := c, frame := fr, addr := buf, len := data.length, param := param % 2 ^ 32, user := user }
      .next (if q.2 then q.1 else q.1.noInput c fr)
  else .next s
/-- TWIN_COPY_TIMEOUT (R272): the copy of a frame has not reached the FOLLOW within TMO µs of the LEAD's post: the FOLLOW does not run the frame, which
ends with NO_INPUT, at once or, latched, when it would start. -/
def execTwinCopyTimeout (c : Fin 64) (frame : Nat) (stamp : LeadPost) (s : State) : Host.Outcome State Fault Refusal :=
  if s.lockStep c && s.flag TWN.CFG.ROLE && decide (stamp.post + s.rd TWN.CFG.TMO * usTicks ≤ s.dtime) then
    let fr := frame % 2 ^ 32
    let s := s.raise TWN.STATUS.LOST
    match s.trigger c { stamp := stamp.trig % 2 ^ 64, copy := some fr } with
    | (s, none) => .next s
    | (s, some n) =>
      let s := s.noInput c n
      .next (if (s.cx c).frame.any (fun f => f.num == fr && f.endCode.isSome) then s.frameEnd c else s)
  else .next s

end Sys2Proof.Machine
end

