-- ==== Sys2Proof/Machine/Babbitt.lean ====
section
/-!
DEFINITION. Babbitt's frames and result path: configuration, closes with their products and indicators, the posted descriptor, deratings
and alarms, misses (R244 to R259).
-/
namespace Sys2Proof.Machine

/-! ### Configuration (R250, R259) -/

/-- CTX_LAYOUT follows the configuration of every context. -/
def State.babShowLayout (s : State) : State := s.forEach (List.range 64) fun s c => s.wr BAB.CTX_LAYOUT.VALUE (s.babLayout c) c
/-- Contexts with frames enabled that use input `v`. -/
def State.babUsers (s : State) (v : Nat) : List Nat := (List.range 64).filter fun c => s.flag BAB.CTX_CFG.EN c && bit (s.rd BAB.CTX_IN.VALUE c) v

/-- A write of BAB.IN_BAND keeps LO below HI and HI at most 1,024, or 2,048 paired; another is a reserved encoding (R11). -/
def State.bandOk (s : State) (v w : Nat) : Bool :=
  decide (bits w 15 0 < bits w 31 16 ∧ bits w 31 16 ≤ if s.flag MF.VIB_CFG.PAIR v then 2048 else 1024)
/-- The effect of a write of BAB.IN_CFG, IN_BAND or IN_RING (R14, R244, R259): refused while a context uses the input; else the ring and the
band-pass restart. -/
def State.fxBabIn (s : State) (v k w : Nat) : State × WErr :=
  let a := BAB.IN_CFG.EN.addr v + 4 * k
  if s.babUsers v ≠ [] then (s.forEach (s.babUsers v) fun s c => s.raise BAB.CTX_STATUS.CFG_ERR c).turnAway a w .ok
  else
    let r := s.writeFields a (if k = 1 ∧ s.bandOk v w = false then (s.reg a).toNat else w)
    if s.lockedDiffers a w then (r.1, .locked)
    else (((r.1.updBi v fun h => { h with bp := [] }).babRestart v).babShowLayout, r.2)
/-- The entries of the defect table of a context, 16 bytes each, as Babbitt reads them under master 0x18 (R248, R288): none where the table cannot be
read. -/
def State.defectTable (s : State) (c : Nat) : State × Option (List (List Nat)) :=
  let n := s.rd BAB.CTX_CFG.DEF_N c
  match s.masterRead 0x18 (s.rd BAB.DEF_BASE + 16 * s.rd BAB.CTX_CFG.DEF_FIRST c) (16 * n) with
  | (s', .ok d) => (s', some ((List.range n).map fun k => slice d (16 * k) 16))
  | (s', _) => (s', none)
/-- A defect entry that R259 refuses. -/
def State.badDefect (s : State) (c : Nat) (d : List Nat) : Bool :=
  let ty := fieldLE d 0 1
  let v := fieldLE d 1 1
  let prod := s.rd BAB.CTX_CFG.PROD c
  decide (5 < ty) || !(bit (s.rd BAB.CTX_IN.VALUE c) v && decide (v < 32)) || fieldLE d 2 1 == 0 || decide (8 < fieldLE d 2 1) || decide (4 < fieldLE d 3 1)
    || (decide (2 ≤ ty) && decide (15 < fieldLE d 12 2)) || fieldLE d 14 2 != 0
    || (decide (ty ≤ 1) && (fieldLE d 4 4 % 65536 != 0 || !(bit prod 1)))
    || (decide (2 ≤ ty) && (!(s.flag BAB.IN_CFG.ENV v) || !(bit prod 3)))
/-- The checks of EN = 1 on the registers (R259). -/
def State.babBad (s : State) (c : Nat) : Bool :=
  (s.babInputs c).any (fun v =>
    let n := s.rd BAB.CTX_CFG.REVS_L c + s.rd BAB.IN_CFG.PPR_L v
    !(s.flag BAB.IN_CFG.EN v) || decide (16 < n) || decide (s.rd BAB.IN_CFG.RL v < n + 1) || decide (s.rd BAB.IN_CFG.PPR_L v < s.rd BAB.IN_CFG.ENV_PPR_L v))
  || decide (64 < s.rd BAB.CTX_CFG.DEF_N c) || s.rd BAB.CTX_BUF c % 64 != 0
/-- A Babbitt context's state beside its registers changed. -/
def State.updBc (s : State) (c : Nat) (f : BabCtxH → BabCtxH) : State :=
  { s with babCtxs := Tab.put {} s.babCtxs c (f (Tab.get {} s.babCtxs c)) }
/-- The effect of a write of BAB.CTX_CFG (R248, R259); a defect table that cannot be read refuses EN too (DESIGN CHOICE, assumption log 56). -/
def State.fxBabCtxCfg (s : State) (c w : Nat) : State × WErr :=
  let a := BAB.CTX_CFG.EN.addr c
  let old := (s.reg a).toNat
  if bit old 0 then
    let s' := s.raiseIf (decide (old / 2 ≠ w / 2 % 2 ^ 31)) BAB.CTX_STATUS.CFG_ERR c
    (s'.put BAB.CTX_CFG.EN (bit w 0) c, if s.lockedDiffers a w then .locked else .ok)
  else
    let r := s.writeFields a (w - w % 2)
    let s := r.1.babShowLayout
    if bit w 0 then
      if s.babBad c then (s.raise BAB.CTX_STATUS.CFG_ERR c, r.2)
      else
        let now := s.dtime
        let d := s.defectTable c
        match d.2.filter fun l => !(l.any (s.badDefect c)) with
        | some l => ((d.1.raise BAB.CTX_CFG.EN c).updBc c fun h => { h with defects := l, staleRef := now }, r.2)
        | none => (d.1.raise BAB.CTX_STATUS.CFG_ERR c, r.2)
    else (s, r.2)
/-- The effect of a write of another configuration register of a Babbitt context: refused while EN = 1 (R259). -/
def State.fxBabCtxReg (s : State) (c a w : Nat) : State × WErr :=
  if s.flag BAB.CTX_CFG.EN c then (s.raise BAB.CTX_STATUS.CFG_ERR c).turnAway a w .ok
  else let r := s.writePlain a w; (r.1.babShowLayout, r.2)

/-- BAB_IN_CFG_WRITE (R244): a write of BAB.IN_CFG, IN_BAND or IN_RING of an input. -/
def execBabInCfgWrite (m : Fin 64) (v : Fin 32) (k : Fin 3) (w : Word) (s : State) : Host.Outcome State Fault Refusal :=
  .next (s.busWriteWith m (BAB.IN_CFG.EN.addr v + 4 * k) false fun s => s.fxBabIn v k w.toNat)
/-- BAB_CTX_ENABLE (R248, R259): a write of BAB.CTX_CFG. -/
def execBabCtxEnable (m c : Fin 64) (w : Word) (s : State) : Host.Outcome State Fault Refusal :=
  .next (s.busWriteWith m (BAB.CTX_CFG.EN.addr c) false fun s => s.fxBabCtxCfg c w.toNat)

/-! ### Posts (R252, R253) -/

/-- A close is finished: the frame is written under master 0x18 and its descriptor posted; one without a valid input, or dropped, ends its frame with
NO_INPUT (R252, R253, R269). -/
def State.babPost (s : State) (b : BabClose) : State :=
  let c := b.ctx
  let s := if b.late then (s.raise BAB.STATUS.OVERLOAD).raise BAB.CTX_STATUS.LATE_IN c else s
  let s := if b.en then (s.masterWrite 0x18 b.buf b.data).1 else s
  if s.flag CTX.QUEUES.IN_NONE c then s else
  let len := if b.valid then b.len else 0
  let r := s.qPostHw (s.rd CTX.QUEUES.IN_Q c) { type_ := 0, src := 0x18, ctx := c, frame := b.frame, addr := b.buf, len := len }
  let s := if r.2 && r.1.lockStep c && !(r.1.flag TWN.CFG.ROLE) then r.1.sendCopy (c :: b.frame :: b.at_ :: slice b.data 0 len) else r.1
  if r.2 && b.valid then s else s.noInput c b.frame
/-- BAB_CLOSE_POSTED (R252, R253): the close that fired first is finished. -/
def execBabClosePosted (s : State) : Host.Outcome State Fault Refusal :=
  match s.babCloses with
  | [] => .next s
  | b :: t => .next (if s.rd THM.STATUS.LEVEL = 8 then s else { s with babCloses := t }.babPost b)

/-! ### The result path (R256, R257) -/

/-- The result path writes AX.SPD_DERATE under master 0x18; a violation is not applied (R256, R292). -/
def State.babDerate (s : State) (c n tq acc : Nat) : State :=
  let a := AX.SPD_DERATE.TQ.addr n
  match s.checkAccess 0x18 a 4 true false with
  | some ty => (s.logViolation 0x18 a 4 ty).raise BAB.CTX_STATUS.REJ_ACT c
  | none => (s.fxSpdDerate n (tq + acc * 65536)).1
/-- A miss (R257): counted, raised, recorded, with the fallback deratings. -/
def State.babMiss (s : State) (c : Nat) (stale : Bool) : State :=
  let s := if stale then s.raise BAB.CTX_STATUS.STALE c else s.raise BAB.CTX_STATUS.MISS c
  let s := ((s.incSat BAB.CTX_STATUS.MISS_CNT c).raiseIrq (s.rd BAB.CTX_CFG.IRQ c)).emitMerge 0x0702 (srcContext c) [b2n stale]
  if s.flag BAB.CTX_CFG.MISS_ACT c then
    s.forEach (s.babAxes c) fun s n =>
      s.babDerate c n (min (s.rd AX.SPD_DERATE.TQ n) (s.rd BAB.CTX_FB.LOW c)) (min (s.rd AX.SPD_DERATE.ACC n) (s.rd BAB.CTX_FB.HIGH c))
  else s
/-- One action of a result block (R255, R256). -/
def State.babAction (s : State) (c : Nat) (a : List Nat) : State :=
  let n := fieldLE a 0 1
  if fieldLE a 1 1 ≠ 1 then s
  else if 48 ≤ n ∨ bit (s.rd BAB.CTX_AXES c) n = false then s.raise BAB.CTX_STATUS.REJ_ACT c
  else s.babDerate c n (min 0x8000 (max (fieldLE a 2 2) (s.rd BAB.CTX_FLOOR.LOW c))) (min 0x8000 (max (fieldLE a 4 2) (s.rd BAB.CTX_FLOOR.HIGH c)))
/-- The result path acts on a frame (R255, R256). -/
def State.babApply (s : State) (c frame : Nat) (blk : List Nat) : State :=
  let n := fieldLE blk 4 1
  let s := s.raiseIf (decide (16 < n)) BAB.CTX_STATUS.REJ_ACT c
  let s := if blk = [] then s
    else if fieldLE blk 5 1 ≠ 1 then s.raiseIf (decide (0 < n)) BAB.CTX_STATUS.REJ_ACT c
    else s.forEach (List.range (min n 16)) fun s k => s.babAction c (slice blk (0x50 + 8 * k) 8)
  let old := s.rd BAB.CTX_ALARM.ALARM c
  let new := fieldLE blk 8 4 - (fieldLE blk 8 4 &&& old)
  let s := if new = 0 then s else
    ((s.raiseBits BAB.CTX_ALARM.ALARM new c).raiseIrq (s.rd BAB.CTX_CFG.IRQ c)).emit 0x0701 (srcContext c) (le 4 frame ++ le 4 new)
  let now := s.dtime
  ((s.wr BAB.CTX_LAST_APPLY now c).incWrap BAB.CTX_STATUS.APPLY_CNT c).updBc c fun h => { h with staleRef := now }
/-- BAB_RESULT_APPLY (R256, R257): the frame of a context that ended is acted on, or is a miss. -/
def execBabResultApply (c : Fin 64) (s : State) : Host.Outcome State Fault Refusal :=
  match (Tab.get ({} : BabCtxH) s.babCtxs c).apply with
  | [] => .next s
  | (frame, code, fl, blk, _) :: t =>
    let s := s.updBc c fun h => { h with apply := t }
    if code = 0 ∧ (bit fl flLate = false ∨ s.flag BAB.CTX_CFG.LATE_USE c = true) then .next (s.babApply c frame blk)
    else .next (s.babMiss c false)
/-- BAB_STALE (R257): STALE ms without an action of R256. -/
def execBabStale (c : Fin 64) (s : State) : Host.Outcome State Fault Refusal :=
  let p := s.rd BAB.CTX_STALE.LOW c * msTicks
  let ref := (Tab.get ({} : BabCtxH) s.babCtxs c).staleRef
  if p ≠ 0 ∧ s.flag BAB.CTX_CFG.EN c = true ∧ ref + p ≤ s.dtime then
    .next ((s.updBc c fun h => { h with staleRef := ref + p }).babMiss c true)
  else .next s

end Sys2Proof.Machine
end

