-- ==== Sys2Proof/Machine/CtxCmd.lean ====
section
/-!
DEFINITION. Context commands and the configuration writes of a context (R201, R204, R210, R267, R270, R274).
-/
namespace Sys2Proof.Machine

/-- A refusal of a context command: REFUSED with RCODE, and the recorder event (R201). -/
def State.ctxRefuse (s : State) (c op rcode : Nat) : State :=
  ((s.raise CTX.STATUS.REFUSED c).wr CTX.STATUS.RCODE rcode c).emit 0x0601 (srcContext c) [op, rcode]
/-- A context command has finished with RCODE (R201). -/
def State.ctxDone (s : State) (c op rcode : Nat) : State :=
  let s := ((s.updCx c fun h => { h with cmd := none }).clear CTX.STATUS.BUSY c).mbSettle 0x0040 rcode fun p => fieldLE p 0 1 == c && fieldLE p 1 1 == op
  if rcode = 0 then ((s.raise CTX.STATUS.DONE c).wr CTX.STATUS.RCODE 0 c).emit 0x0601 (srcContext c) [op, 0]
  else s.ctxRefuse c op rcode
/-- The states in which a command is accepted (R201). -/
def ctxAccepts (op st : Nat) : Bool :=
  match op with
  | 1 => st == ctxFree || st == ctxLoaded
  | 2 | 5 | 7 => st == ctxLoaded
  | 3 | 4 | 8 => st == ctxArmed
  | 6 => st == ctxLoaded || st == ctxArmed
  | _ => false
/-- A command reaches a context (R201): not executed without running firmware (R297), refused with BUSY or STATE (ARM also outside RUN, R395),
or accepted; DISARM and ABORT act at once, START triggers a frame. -/
def State.ctxCommand (s : State) (c op : Nat) (fresh : Bool) : State :=
  if op = 0 ∨ 9 ≤ op ∨ s.rd SUP.FW_STATUS.STATE ≠ 3 then s
  else if op = 2 ∧ (s.rd PWR.STATE.STATE ≠ 0 ∨ s.flag PWR.STATE.BUSY) then s.ctxRefuse c op 1
  else if s.flag CTX.STATUS.BUSY c then s.ctxRefuse c op 12
  else if ctxAccepts op (s.rd CTX.STATUS.STATE c) = false ∨ (op = 2 ∧ fresh = false ∧ s.flag CTX.STATUS.STATE_LOST c = true) then s.ctxRefuse c op 1
  else if op = 8 then ((s.trigger c { stamp := s.dtime, slot := 0, tbState := 0, cmd := true }).1).ctxDone c op 0
  else
    let s := (s.updCx c fun h => { h with cmd := some { op := op, fresh := fresh, at_ := s.dtime } }).raise CTX.STATUS.BUSY c
    if op = 3 then s.updCx c fun h => { h with disarm := true }
    else if op = 4 then
      ((s.failFrame c 5).updCx c fun h => { h with latched := none, wait := none }).clear CTX.STATUS.LATCHED c
    else s
/-- The effect of a write of CTX.CMD. -/
def State.fxCtxCmd (s : State) (c v : Nat) : State × WErr := (s.ctxCommand c (bits v 3 0) (bit v 4), .ok)

/-! ### Effects at completion -/

/-- LOAD (R201, R203, R204, R442, R443): RCODE and the context with its new program. -/
def State.ctxLoadDo (s : State) (c : Nat) : State × Nat :=
  let r := s.loadCheck c
  let p := r.2.2
  let s := r.1
  if r.2.1 = 0 then
    let s := s.updCx c fun h => { h with prog := some p, places := (s.placeFor c p false).getD [], flip := false, held := [] }
    let s := s.ueDrop (s.copyParts c false ++ s.copyParts c true)
    let s := (s.writeCopy c false p.init).writeCopy c true p.init
    let s := (s.wr CTX.STATUS.STATE ctxLoaded c).clear CTX.STATUS.STATE_LOST c
    let s := s.wr CTX.OUT_STRIDE.STRIDE (320 + p.resultLen) c
    let s := s.put CTX.DIG_STATUS.HAS_U (p.ops.any fun o => o.opcode == 0x39 || o.opcode == 0x50) c
    ((s.wr CTX.Q_HIST.N_Q p.quants.length c).showFill c p, 0)
  else (s, r.2.1)

/-- The checks of ARM in order (R204): STATE is judged when the command arrives. -/
def State.armCheck (s : State) (c : Nat) (p : Prog) : Nat :=
  let twin := s.flag CTX.DIG_CFG.TWIN c
  if s.rd CTX.OUT_BASE c % 64 ≠ 0 ∨ s.rd CTX.OUT_CFG.N c = 0 then 2
  else if s.badPartition c p then 4
  else if (s.flag CTX.QUEUES.IN_NONE c && p.tensors.any fun t => t.kind == kInput) || (twin && s.flag CTX.DIG_STATUS.HAS_U c) then 6
  else if s.placeFor c p true = none then 9
  else if (s.ctxBounded c && decide (s.rd CTX.TRIG_MIN.TICKS c < 3200)) || !(s.planHolds c) then 10
  else 0
/-- A byte string cut into parts of the given lengths. -/
def cutAll : List Nat → List Nat → List (List Nat)
  | [], _ => []
  | n :: t, d => d.take n :: cutAll t (d.drop n)
/-- The weights of a program read for an ARM with digests on (R267), as context commands read, under master 0x08: RCODE, and W. What the table
refuses gives ADDRESS, an uncorrectable error DIGEST (DESIGN CHOICE, assumption log 43). -/
def State.armWeights (s : State) (c : Nat) (p : Prog) : State × Nat × List Nat :=
  if s.flag CTX.DIG_CFG.EN c then
    let ts := p.tensors.filter fun t => t.kind == kWeight
    match s.readPieces 8 [] (ts.flatMap fun t => pieces t.addr t.bytes) with
    | (s, .ok d) => (s, 0, sha3 ((cutAll (ts.map (·.bytes)) d).flatMap sha3))
    | (s, .vio) => (s, 2, [])
    | (s, .ue _) => (s, 8, [])
  else (s, 0, [])
/-- The weight digest of an ARM with digests on is shown (R267). -/
def State.armDigest (s : State) (c : Nat) (w : List Nat) : State :=
  if s.flag CTX.DIG_CFG.EN c then
    (s.forEach (List.range 8) fun s k => s.wr CTX.WDIGEST.W (fieldLE w (4 * k) 4) c k).raise CTX.DIG_STATUS.WDIG_VALID c
  else s.clear CTX.DIG_STATUS.WDIG_VALID c
/-- The areas of a context at ARM: SCRATCH areas are placed, and the committed declared state moves with the partition (R201, R442). An uncorrectable
error in what moves refuses the ARM with DIGEST (DESIGN CHOICE, assumption log 43). -/
def State.armPlace (s : State) (c : Nat) (p : Prog) : State × Nat :=
  let old := s.copyParts c false
  let t := s.updCx c fun h => { h with places := (s.placeFor c p true).getD [] }
  if t.copyParts c false = old then (t, 0) else
  match s.eccScan 8 old with
  | (s, some _) => (s, 8)
  | (s, none) =>
    let d := s.readCopy c false
    let t := s.updCx c fun h => { h with places := (s.placeFor c p true).getD [] }
    ((t.ueDrop (t.copyParts c false ++ t.copyParts c true)).writeCopy c false d, 0)
/-- ARM (R201, R204, R210, R267): RCODE and the context ARMED with its counts since ARM at 0. -/
def State.ctxArmDo (s : State) (c : Nat) (fresh : Bool) : State × Nat :=
  match (s.cx c).prog with
  | none => (s, 1)
  | some p =>
    let rc := s.armCheck c p
    if rc ≠ 0 then (s, rc) else
    let w := s.armWeights c p
    if w.2.1 ≠ 0 then (w.1, w.2.1) else
    let a := w.1.armPlace c p
    if a.2 ≠ 0 then (a.1, a.2) else
    let s := a.1
    let s := if fresh then (((s.ueDrop (s.copyParts c false)).writeCopy c false p.init).clear CTX.STATUS.STATE_LOST c).showFill c p else s
    let s := s.wr CTX.STATUS.STATE ctxArmed c
    let s := ((s.wr CTX.CLK_MAX.CLK 0 c).wr CTX.OVR_CNT.CNT 0 c).armDigest c w.2.2
    let s := ((s.wr CTX.Q_CLIP_TOT 0 c).wr CTX.Q_ELEM_TOT 0 c).wr CTX.Q_NAN_TOT 0 c
    let s := ((s.wr CTX.DIG_STATUS.MISM_CNT 0 c).wr CTX.DIG_STATUS.RERUN_OK_CNT 0 c).clear CTX.DIG_STATUS.TWIN_FENCED c
    ((s.updCx c fun h => { h with ovr := 0, disarm := false, noInput := [], pkts := [] }).replan, 0)
/-- RESTORE (R201, R444): RCODE and the declared state of the snapshot. -/
def State.ctxRestoreDo (s : State) (c : Nat) : State × Nat :=
  match (s.cx c).prog with
  | none => (s, 1)
  | some p =>
    let a := s.rd CTX.SNAP c
    if a % 64 ≠ 0 then (s, 2) else
    match s.masterRead 8 a (32 + p.partSize * p.stateBytes) with
    | (s, .ok d) =>
      if slice d 0 32 = slice p.digest 0 32 then
        ((((s.ueDrop (s.copyParts c false)).writeCopy c false (d.drop 32)).clear CTX.STATUS.STATE_LOST c).showFill c p, 0)
      else (s, 11)
    | (s, _) => (s, 11)
/-- UNLOAD (R201): the context is FREE, its declared state discarded and its copies released. -/
def State.ctxUnloadDo (s : State) (c : Nat) : State :=
  let s := s.updCx c fun h => { h with prog := none, places := [], flip := false, held := [] }
  let s := ((s.wr CTX.STATUS.STATE ctxFree c).clear CTX.STATUS.STATE_LOST c).clear CTX.DIG_STATUS.HAS_U c
  (s.wr CTX.Q_HIST.N_Q 0 c).replan
/-- The partner's context of the same number holds a program with the same DIGEST and a committed declared state with the same S_in, after
FRESH on both (R270). -/
def State.twinAgrees (s : State) (c : Nat) (fresh : Bool) (partner : Option PartnerCtx) : Bool :=
  match (s.cx c).prog, partner with
  | some p, some x =>
    x.digest == slice p.digest 0 32 && x.sIn == sha3 (if fresh then slice p.init 0 (p.partSize * p.stateBytes) else s.readCopy c false)
  | _, _ => false
/-- An ARM is refused before it asks the partner (R204, R270). -/
def State.armEarly (s : State) (c : Nat) : Nat := ((s.cx c).prog.map fun p => s.armCheck c p).getD 1
/-- An ARM with TWIN = 1 completes only where the partner agrees, which takes a member of a pair and a committed copy that can be read (R270, R284). -/
def State.armAgrees (s : State) (c : Nat) (fresh : Bool) (partner : Option PartnerCtx) : State × Bool :=
  match if fresh then (s, none) else s.eccScan 8 (s.copyParts c false) with
  | (s, some _) => (s, false)
  | (s, none) => (s, s.lockStep c && s.twinAgrees c fresh partner)
/-- A command in progress finishes, where it can: DISARM once no frame is left, ABORT once the frame ended, SNAP of an ARMED context at a
frame end, ARM of a context with TWIN = 1 once the partner agrees, unless R204 refuses it (R201, R264, R270). Without running firmware no context command is executed (R297): it waits
(DESIGN CHOICE, assumption log 51). -/
def State.ctxComplete (s : State) (c : Nat) (partner : Option PartnerCtx) : State :=
  match (s.cx c).cmd with
  | none => s
  | some k =>
    if s.rd SUP.FW_STATUS.STATE ≠ 3 then s else
    match k.op with
    | 1 => let r := s.ctxLoadDo c; r.1.ctxDone c 1 r.2
    | 2 =>
      let a := if s.flag CTX.DIG_CFG.TWIN c && s.armEarly c == 0 then s.armAgrees c k.fresh partner else (s, true)
      if a.2 then let r := a.1.ctxArmDo c k.fresh; r.1.ctxDone c 2 r.2 else a.1
    | 3 =>
      if (s.cx c).frame.isSome || (s.cx c).latched.isSome then s
      else (((s.updCx c fun h => { h with disarm := false, places := h.places.map fun a => { a with scrLen := 0 } }).wr CTX.STATUS.STATE ctxLoaded c).replan).ctxDone c 3 0
    | 4 => if (s.cx c).frame.isSome then s else s.ctxDone c 4 0
    | 5 => s.ctxUnloadDo c |>.ctxDone c 5 0
    | 6 =>
      match k.result with
      | some rc => s.ctxDone c 6 rc
      | none => if s.rd CTX.STATUS.STATE c = ctxArmed then s else let r := s.snapWrite c; r.1.ctxDone c 6 r.2
    | 7 => let r := s.ctxRestoreDo c; r.1.ctxDone c 7 r.2
    | _ => s

/-! ### Configuration writes -/

/-- A write that an ARMED context does not take: REFUSED with RCODE = STATE. -/
def State.ctxCfgRefuse (s : State) (c : Nat) : State := (s.raise CTX.STATUS.REFUSED c).wr CTX.STATUS.RCODE 1 c
/-- The effect of a write of CTX.CFG: WDOG 0 is reserved for BOUNDED. -/
def State.fxCtxCfg (s : State) (c v : Nat) : State × WErr :=
  if s.rd CTX.STATUS.STATE c = ctxArmed then (s.ctxCfgRefuse c, .ok)
  else s.writeFields (CTX.CFG.BASE.addr c) (if bits v 15 8 = 0 ∧ bits v 5 5 = 0 then setBits v 15 8 (s.rd CTX.CFG.WDOG c) else v)
/-- The effect of a write of CTX.OUT_BASE_HI and of CTX.OUT_CFG. -/
def State.fxOutBaseHi (s : State) (c v : Nat) : State × WErr :=
  if s.rd CTX.STATUS.STATE c = ctxArmed then (s.ctxCfgRefuse c, .ok) else s.writePlain (CTX.OUT_BASE.addr c + 4) v
def State.fxOutCfg (s : State) (c v : Nat) : State × WErr :=
  if s.rd CTX.STATUS.STATE c = ctxArmed then (s.ctxCfgRefuse c, .ok) else s.writeFields (CTX.OUT_CFG.N.addr c) v
/-- The effect of a write of CTX.DIG_CFG: TWIN changes only in FREE or LOADED. -/
def State.fxDigCfg (s : State) (c v : Nat) : State × WErr :=
  let a := CTX.DIG_CFG.EN.addr c
  let t := s.rd CTX.DIG_CFG.TWIN c
  if s.rd CTX.STATUS.STATE c = ctxArmed ∧ bits v 1 1 ≠ t then let r := s.writeFields a (setBits v 1 1 t); (r.1.ctxCfgRefuse c, r.2)
  else s.writeFields a v
/-- The effect of a write of CTX.TRACE_CTRL (R274, R275). -/
def State.fxTraceCtrl (s : State) (c v : Nat) : State × WErr :=
  let r := s.writeFields (CTX.TRACE_CTRL.ARM.addr c) v
  if bit v 0 then
    if s.rd CTX.TRACE_BASE c % 64 ≠ 0 then (r.1.raise CTX.TRACE_CTRL.ERR c, r.2)
    else ((r.1.updCx c fun h => { h with traceArmed := true }).raise CTX.TRACE_CTRL.BUSY c, r.2)
  else r

/-- A write of CTX.CMD by a master. -/
def State.ctxCmdWrite (s : State) (m c op : Nat) (fresh : Bool) : State :=
  s.busWriteWith m (CTX.CMD.OP.addr c) true fun s => s.fxCtxCmd c (op + 16 * b2n fresh)
/-- CTX_LOAD (R201, R204). -/
def execCtxLoad (m c : Fin 64) (s : State) : Host.Outcome State Fault Refusal := .next (s.ctxCmdWrite m c 1 false)
/-- CTX_ARM (R201, R210). -/
def execCtxArm (m c : Fin 64) (fresh : Bool) (s : State) : Host.Outcome State Fault Refusal := .next (s.ctxCmdWrite m c 2 fresh)
/-- CTX_DISARM (R201). -/
def execCtxDisarm (m c : Fin 64) (s : State) : Host.Outcome State Fault Refusal := .next (s.ctxCmdWrite m c 3 false)
/-- CTX_ABORT (R201). -/
def execCtxAbort (m c : Fin 64) (s : State) : Host.Outcome State Fault Refusal := .next (s.ctxCmdWrite m c 4 false)
/-- CTX_UNLOAD (R201). -/
def execCtxUnload (m c : Fin 64) (s : State) : Host.Outcome State Fault Refusal := .next (s.ctxCmdWrite m c 5 false)
/-- CTX_SNAP (R201, R444). -/
def execCtxSnap (m c : Fin 64) (s : State) : Host.Outcome State Fault Refusal := .next (s.ctxCmdWrite m c 6 false)
/-- CTX_RESTORE (R201, R444). -/
def execCtxRestore (m c : Fin 64) (s : State) : Host.Outcome State Fault Refusal := .next (s.ctxCmdWrite m c 7 false)
/-- CTX_START (R201, R215). -/
def execCtxStart (m c : Fin 64) (s : State) : Host.Outcome State Fault Refusal := .next (s.ctxCmdWrite m c 8 false)
/-- CTX_CMD_COMPLETE (R201, R270): `partner` is what the partner tells of its context, which a lock-step ARM compares. -/
def execCtxCmdComplete (c : Fin 64) (partner : Option PartnerCtx) (s : State) : Host.Outcome State Fault Refusal := .next (s.ctxComplete c partner)
/-- TWIN_ARM_TIMEOUT (R270): the partner of an ARM with TWIN = 1 did not agree within TMO µs: refused with SNAPSHOT, or with the code that R204 puts
first (R264). -/
def execTwinArmTimeout (c : Fin 64) (s : State) : Host.Outcome State Fault Refusal :=
  match (s.cx c).cmd with
  | some k =>
    if k.op = 2 ∧ s.flag CTX.DIG_CFG.TWIN c = true ∧ k.at_ + s.rd TWN.CFG.TMO * usTicks ≤ s.dtime then
      .next (s.ctxDone c 2 (if s.armEarly c = 0 then 11 else s.armEarly c))
    else .next s
  | none => .next s
/-- TRACE_ARM (R274): a write of CTX.TRACE_CTRL. -/
def execTraceArm (m c : Fin 64) (v : Word) (s : State) : Host.Outcome State Fault Refusal :=
  .next (s.busWriteWith m (CTX.TRACE_CTRL.ARM.addr c) false fun s => s.fxTraceCtrl c v.toNat)

end Sys2Proof.Machine
end

