-- ==== Sys2Proof/Machine/Engines.lean ====
section
/-!
DEFINITION. Physical engines: fences and the engine map, engine reset, tiles in thread slots and the issue slot, and the utilisation
counters (R194 to R202, R209, R212, R218, R219, R441).
-/
namespace Sys2Proof.Machine

/-- HOSTS and HOST2 follow the map. -/
def State.hostsShow (s : State) : State :=
  s.forEach (List.range 8) fun s p =>
    let hs := s.hosted p
    let live := hs.filter fun i => bit (s.rd INF.ENG_MAP.MAP) (4 * i + 3)
    (s.wr ENG.STATUS.HOSTS (live.foldl (fun m i => setBit m i true) 0) p).wrBit INF.ENG_STATUS.HOST2 p (decide (live.length = 2))
/-- Logical engine `i` is mapped, or loses its host. -/
def State.mapEngine (s : State) (i : Nat) (p : Option Nat) : State :=
  let m := s.rd INF.ENG_MAP.MAP
  match p with
  | some q => s.wr INF.ENG_MAP.MAP (setBits m (4 * i + 3) (4 * i) (8 + q))
  | none => s.wr INF.ENG_MAP.MAP (setBit m (4 * i + 3) false)
/-- The lowest usable engine that hosts exactly one logical engine (R195). -/
def State.hostFor (s : State) : Option Nat := (List.range 8).find? fun p => s.engUsable p && (s.hosted p).length == 1
/-- One fenced engine's logical engines move in ascending order (R195). -/
def State.moveAll (s : State) (p : Nat) : State :=
  match s.hosted p with
  | [] => s.emit 0x0606 (srcEngine p) [0xFF, 0xFF]
  | hs => s.forEach hs fun s i =>
    match s.hostFor with
    | some q => (s.mapEngine i (some q)).emit 0x0606 (srcEngine p) [q, i]
    | none => s.mapEngine i none
/-- Physical engines are fenced in one clock (R195, R197, R218). -/
def State.engFence (s : State) (mask : Nat) : State :=
  let ps := (List.range 8).filter fun p => bit mask p && s.engUsable p
  if ps = [] then s else
  let hit := (List.range 64).filter fun c => (s.cx c).frame.isSome && ps.any fun p => s.ctxOn c p
  let s := s.forEach ps fun s p => ((s.dropEngine p fun _ => false).wrBit INF.ENG_STATUS.USABLE p false).raise ENG.STATUS.FENCED p
  let s := s.forEach ps State.moveAll
  let s := s.hostsShow
  let s := s.forEach hit fun s c => s.failFrame c 2
  let s := if ((List.range 8).filter s.engUsable).length < 4 then
      (s.raise INF.STATUS.UNAVAIL).forEach (List.range 64) fun s c => s.failFrame c 2
    else s
  s.replan
/-- The effect of a write of INF.ENG_FENCE. -/
def State.fxEngFence (s : State) (v : Nat) : State × WErr :=
  let r := s.writeFields INF.ENG_FENCE.FENCE.addr v
  (r.1.engFence (bits v 7 0), r.2)

/-- The declared state of a context is lost (R202): both copies hold free values. -/
def State.loseState (s : State) (c : Nat) : State :=
  let d := s.freeCtr
  let lost := (List.range ((s.cx c).places.foldl (fun n a => n + a.len) 0)).map fun k => Config.lostState d k % 256
  ((({ s with freeCtr := d + 1 }.writeCopy c false lost).writeCopy c true lost).raise CTX.STATUS.STATE_LOST c)
/-- The registers of the engine-reset domain of an engine take their reset values (R16), and then show what is so (ENG.STATUS). -/
def State.engRegs (s : State) (p : Nat) : State :=
  let s := ((s.wr ENG.STATUS.HOSTS (2 ^ p) p).clear ENG.STATUS.TEST p).wrBit INF.ENG_STATUS.TEST p false
  (s.engShow p).hostsShow
/-- An engine reset: the declared state of every context whose partition holds a logical engine of the engine is lost, and its frames end (R202,
R218, R393). -/
def State.engReset (s : State) (p : Nat) : State :=
  if s.inReset then s else
  let s := s.transAbandon.dropEngine p fun _ => false
  let s := s.forEach ((List.range 64).filter fun c => (s.cx c).places.any fun a => s.engOf a.eng == p) fun s c => (s.loseState c).failFrame c 3
  s.engRegs p
/-- The effect of a write of ENG.CTRL. -/
def State.fxEngCtrl (s : State) (p v : Nat) : State × WErr := (if bit v 0 then s.engReset p else s, .ok)

/-! ### Tiles (R212, R441) -/

/-- The class of a context's frame (R212). -/
def State.frameClass (s : State) (c : Nat) (f : Frame) : Nat :=
  if f.class2 || (s.ctxBounded c && !(s.cx c).isProtected) then 2 else if s.ctxBounded c then 1 else 3
/-- The rank of a tile: class, PRIO within class 3, trigger stamp, context, operation, tile (R212). -/
def State.tileRank (s : State) (f : Frame) (t : TileH) : List Nat :=
  let k := s.frameClass t.ctx f
  [k, if k = 3 then s.rd CTX.CFG.PRIO t.ctx else 0, f.trig.stamp, t.ctx, t.op, t.tile]
/-- Lexicographic order. -/
def lexLt : List Nat → List Nat → Bool
  | [], [] => false
  | [], _ => true
  | _, [] => false
  | a :: x, b :: y => decide (a < b) || (a == b && lexLt x y)
/-- The best of a list of ranked tiles. -/
def bestTile (l : List (List Nat × TileH)) : Option TileH :=
  (l.foldl (fun (b : Option (List Nat × TileH)) x =>
    match b with
    | none => some x
    | some y => if lexLt x.1 y.1 then some x else some y) none).map (·.2)
/-- Tiles of a context that the scoreboard permits on engine `p` and that no slot holds yet (R200, R441). -/
def State.tilesOf (s : State) (c p : Nat) : List (List Nat × TileH) :=
  match (s.cx c).prog, (s.cx c).frame with
  | some g, some f =>
    if f.endCode.isSome || (s.cx c).wait.isSome then [] else
    (List.range g.ops.length).flatMap fun i =>
      let o := g.ops.getD i {}
      if s.engOf (s.rd CTX.CFG.BASE c + o.logical) == p && !(f.doneOps.contains i) then
        ((List.range o.nTiles).filter fun t => !(f.readyTiles.contains (i, t)) && s.tileFree c g f i o t
            && !((s.en p).tiles.any fun x => x.ctx == c && x.op == i && x.tile == t)).map
          fun t =>
            let x : TileH := { ctx := c, op := i, tile := t, logical := o.logical, staged := false }
            (s.tileRank f x, x)
      else []
  | _, _ => []
/-- TILE_ASSIGN (R198, R441): the first tile in the order of R212 takes a free thread slot of engine `p` and starts staging. -/
def execTileAssign (p : Fin 8) (s : State) : Host.Outcome State Fault Refusal :=
  if s.engUsable p && decide ((s.en p).tiles.length < 256) then
    match bestTile ((List.range 64).flatMap fun c => s.tilesOf c p) with
    | some t => .next (((s.engCount p).updEn p fun h => { h with tiles := h.tiles ++ [t] }).engShow p)
    | none => .next s
  else .next s
/-- TILE_STAGED (R441): the operands of the tile in thread slot `k` of engine `p` are staged. -/
def execTileStaged (p : Fin 8) (k : Fin 256) (s : State) : Host.Outcome State Fault Refusal :=
  match (s.en p).tiles[k.val]? with
  | some t => .next ((s.engCount p).updEn p fun h => { h with tiles := h.tiles.set k { t with staged := true } })
  | none => .next s
/-- At throttle level 8 the engines issue nothing (R434). TILE_ISSUE (R212, R441): the free issue slot takes the staged tile of first rank; none during a test slice. -/
def execTileIssue (p : Fin 8) (s : State) : Host.Outcome State Fault Refusal :=
  let h := s.en p
  if h.issue.isSome || s.rdBit INF.ENG_STATUS.TEST p || s.rd THM.STATUS.LEVEL == 8 then .next s
  else
    match bestTile ((h.tiles.filter (·.staged)).filterMap fun t => (s.cx t.ctx).frame.map fun f => (s.tileRank f t, t)) with
    | some t => let now := s.dtime; .next ((s.engCount p).updEn p fun h => { h with issue := some (t, now) })
    | none => .next s
/-- TILE_RETIRE (R200, R209, R441): the tile in the issue slot retires; its clocks are charged, and a frame beyond BUDGET goes to class 2. -/
def execTileRetire (p : Fin 8) (s : State) : Host.Outcome State Fault Refusal :=
  match (s.en p).issue with
  | none => .next s
  | some (t, start) =>
    let s := ((s.engCount p).updEn p fun h =>
      { h with issue := none, tiles := h.tiles.filter fun x => !(x.ctx == t.ctx && x.op == t.op && x.tile == t.tile) }).engShow p
    .next ((s.chargeTile t start).updFrame t.ctx fun f => { f with readyTiles := (t.op, t.tile) :: f.readyTiles })

/-! ### Utilisation (R219) -/

/-- Every engine's counters are copied in one clock, stamped, and start again. -/
def State.utilSnap (s : State) : State :=
  let now := s.dtime
  let s := s.forEach (List.range 8) fun s p =>
    let s := s.engCount p
    let h := s.en p
    let s := ((s.wr ENG.UTIL (now - h.since) p 0).wr ENG.UTIL h.busy p 1).wr ENG.UTIL h.macEq p 2
    let s := ((s.wr ENG.UTIL h.stallMem p 3).wr ENG.UTIL h.stallDep p 4).wr ENG.UTIL h.test p 5
    s.updEn p fun h => { h with busy := 0, macEq := 0, stallMem := 0, stallDep := 0, test := 0, since := now }
  { s.wr INF.UTIL_SNAP_TIME now with utilRef := now }
/-- The effect of a write of INF.UTIL_CTRL. -/
def State.fxUtilCtrl (s : State) (v : Nat) : State × WErr :=
  let r := s.writeFields INF.UTIL_CTRL.SNAP.addr v
  let s := { r.1 with utilRef := r.1.dtime }
  (if bit v 0 then s.utilSnap else s, r.2)

/-- INF_ENG_FENCE (R195): a write of INF.ENG_FENCE. -/
def execInfEngFence (m : Fin 64) (v : Word) (s : State) : Host.Outcome State Fault Refusal :=
  .next (s.busWriteWith m INF.ENG_FENCE.FENCE.addr true fun s => s.fxEngFence v.toNat)
/-- ENG_CTRL_RESET (R202, R218): a write of ENG.CTRL. -/
def execEngCtrlReset (m : Fin 64) (p : Fin 8) (v : Word) (s : State) : Host.Outcome State Fault Refusal :=
  .next (s.busWriteWith m (ENG.CTRL.RESET.addr p) true fun s => s.fxEngCtrl p v.toNat)
/-- UTIL_SNAP (R219): a write of INF.UTIL_CTRL. -/
def execUtilSnap (m : Fin 64) (v : Word) (s : State) : Host.Outcome State Fault Refusal :=
  .next (s.busWriteWith m INF.UTIL_CTRL.SNAP.addr false fun s => s.fxUtilCtrl v.toNat)
/-- UTIL_AUTO_SNAP (R219): every AUTO ms. -/
def execUtilAutoSnap (s : State) : Host.Outcome State Fault Refusal :=
  let a := s.rd INF.UTIL_CTRL.AUTO
  if a ≠ 0 ∧ s.utilRef + a * msTicks ≤ s.dtime then .next s.utilSnap else .next s

end Sys2Proof.Machine
end

