-- ==== Sys2Proof/Machine/Pwm.lean ====
section
/-!
DEFINITION. The PWM generator: period, edges, shadow pair, capture, boundary with dead time and volt-second carry, delay-line
calibration, trips, and the pin crossbar (R53 to R78).
-/
namespace Sys2Proof.Machine

/-- A segment's state beside its registers. -/
def State.sg (s : State) (b : Nat) : SegH := Tab.get {} s.segs b
/-- A segment's state changed. -/
def State.updSg (s : State) (b : Nat) (f : SegH → SegH) : State := { s with segs := Tab.put {} s.segs b (f (s.sg b)) }

/-! ### Pure rules of a period -/

/-- P, the steps of a period (R56). -/
def stepsOf (top : Nat) : Nat := 64 * top
/-- The requested width of a duty: D × P / 2^24, ties to even (R60). -/
def baseOf (d p : Nat) : Nat := (rne ((d : Int) * p) (2 ^ 24)).toNat
/-- Width applied and carry left, from the base, the carry and the least high and low times (R66). -/
def carryStep (p tH tL base : Nat) (c : Int) : Nat × Int :=
  let req : Int := base + c
  let low : Int := (p : Int) - 2 * tL
  let w : Int :=
    if base < tH then (if (tH : Int) ≤ req then tH else 0)
    else if p < base + 2 * tL then (if req ≤ low then low else p)
    else minI (maxI req tH) low
  (w.toNat, req - w)
/-- The centring shift of a short pulse (R67). -/
def shiftOf (p w minp dtHs : Nat) : Nat := if 0 < w ∧ w < p ∧ w < minp + 2 * dtHs then dtHs / 2 else 0
/-- The ideal rising and falling edges, in steps after the boundary; none at W = 0 or W = P (R56). -/
def edgesOf (top w shift : Nat) : Option (Int × Int) :=
  if w = 0 ∨ w = stepsOf top then none
  else some (32 * top - ((w + 1) / 2 : Nat) - shift, 32 * top + (w / 2 : Nat) - shift)
/-- The tick and the delay-line tap of an edge (R56). -/
def edgeTick (e : Int) : Int × Int := (e / 32, e % 32)
/-- The element that tap `k` selects with `x` / 4096 elements to a tick (R58, R350): round(k × N × (1 + DL_CORR × 2^−12) / 32); a tie goes to
the even element (the model's choice: the spec says only round; assumption log 23). -/
def tapElement (x k : Nat) : Nat := (rne ((k : Int) * x) (32 * 4096)).toNat

/-- T_H and T_L of an axis (R62). -/
def State.tHigh (s : State) (n : Nat) : Nat := s.rd AX.PWM_DT.DT_HS n + s.rd AX.PWM_MINP.MINP n
def State.tLow (s : State) (n : Nat) : Nat := s.rd AX.PWM_DT.DT_LS n + s.rd AX.PWM_MINP.MINP n

/-- The spare that carries axis `n`, if any (R76). -/
def State.carriedBy (s : State) (n : Nat) : Option Nat :=
  (List.range 2).find? fun sp => s.flag PXB.MAP.VALID 0 sp && s.rd PXB.MAP.AXIS 0 sp == n
/-- The delay-monitor group of an axis's output lines: 3g to 3g + 2, or of the spare that carries it, S0 group 0, S1 group 15 (R345). -/
def State.lineGroup (s : State) (n : Nat) : Nat :=
  match s.carriedBy n with
  | some 0 => 0
  | some _ => 15
  | none => n / 3
/-- A measured N makes the axis's tap table (R58, R59, R350). -/
def State.tapApply (s : State) (n e : Nat) : State :=
  let x := ((e : Int) * (4096 + s.rdS AGE.DL_CORR.CORR 0 (s.lineGroup n))).toNat
  ((s.wr AX.PWM_DLCAL.N e n).raise AX.PWM_DLCAL.VALID n).updPw n fun h => { h with tap := x }

/-! ### Shadow pair and commit -/

/-- A shadow register (0 TOP, 1 to 3 the duties) is tagged with the present capture interval (R63). -/
def State.tagShadow (s : State) (n r : Nat) : State := s.updPw n fun h => { h with tags := h.tags.set r (some h.interval) }
/-- A commit request is latched (R61). -/
def State.commitRequest (s : State) (n : Nat) : State := s.raise AX.PWM_STATUS.COMMIT_PEND n
/-- The current loop writes a duty (R64). -/
def State.loopDuty (s : State) (n j d : Nat) : State := (s.wr AX.PWM_DUTY.D d n j).tagShadow n (j + 1)

/-- The shadow pair of an axis passes the check of R62. -/
def State.pairOk (s : State) (n : Nat) : Bool :=
  let top := s.rd AX.PWM_PERIOD.TOP n
  decide (800 ≤ top ∧ top ≤ 80000) && decide (3 * (s.tHigh n + s.tLow n) ≤ stepsOf top)
/-- More than one capture interval stands among the tags (R63). -/
def tagsMixed (tags : List (Option Nat)) : Bool :=
  match tags.filterMap id with
  | [] => false
  | t :: ts => ts.any (· != t)
/-- PWM_CAPTURE (R61 to R63): in the capture clock, 4 clocks before the boundary, a pending commit is checked and the shadow pair copied,
or refused as a whole. -/
def execPwmCapture (n : Fin 48) (s : State) : Host.Outcome State Fault Refusal :=
  let h := s.pw n
  match h.nextB with
  | none => .next s
  | some b =>
    if h.capDone ∨ s.dtime + 4 < b ∨ s.axOn n = false then .next s else
    let s := s.updPw n fun h => { h with capDone := true, interval := h.interval + 1 }
    if !(s.flag AX.PWM_STATUS.COMMIT_PEND n) then .next s else
    let s := s.clear AX.PWM_STATUS.COMMIT_PEND n
    let top := s.rd AX.PWM_PERIOD.TOP n
    if s.pairOk n then
      let bases := (List.range 3).map fun j => baseOf (s.rd AX.PWM_DUTY.D n j) (stepsOf top)
      let s := s.raiseIf (tagsMixed h.tags) AX.PWM_STATUS.PAIR_AGE n
      .next (s.updPw n fun h => { h with cap := some (top, bases), capP := h.stepP, stepP := none, tags := [none, none, none, none] })
    else .next ((s.raise AX.PWM_STATUS.COMMIT_REFUSED n).emitMerge 0x0201 (srcAxis n) (le 4 top))

/-- A phase of the new period (R56, R65, R67) of `p` = 64 × TOP steps and width `w`. -/
def phaseIn (top w minp dtHs : Nat) (was lowOn : Bool) : PhaseH :=
  { edges := edgesOf top w (shiftOf (stepsOf top) w minp dtHs), full := w == stepsOf top, was := was, lowOn := lowOn }
/-- The energy of a step in µJ (R164): `p` is 3 × (ud·id + uq·iq) × code × VSCALE × ISCALE, that is the power in units of 2^−95 W. -/
def stepEnergy (p : Int) (top : Nat) : Int := rne (p * (2 * top * 3125)) (2 ^ 95 * 1000000)
/-- The step whose pair applies at a boundary is booked in the open sample interval of its segment (R164). -/
def State.bookStep (s : State) (n : Nat) (p : Int) (top : Nat) : State :=
  let b := s.rd AX.BUS_CFG.SEG n
  if 8 ≤ b then s else
  let e := stepEnergy p top
  s.updSg b fun h =>
    if 0 < p then { h with dMot := h.dMot + e } else if p < 0 then { h with dReg := h.dReg - e } else h

/-- One phase at a boundary (R66): width, carry and SKIP from the active pair. -/
def State.phaseBoundary (s : State) (n j : Nat) : State :=
  let p := stepsOf (s.rd AX.PWM_ACT_PERIOD.TOP n)
  let base := (s.pw n).bases.getD j 0
  let tH := s.tHigh n
  let tL := s.tLow n
  let r := carryStep p tH tL base (s.rdS AX.PWM_CARRY.CARRY n j)
  let s := (s.wr AX.PWM_ACT_W.W r.1 n j).wrS AX.PWM_CARRY.CARRY r.2 n j
  s.wrBit AX.PWM_STATUS.SKIP j (decide (r.2 ≠ 0 ∧ (base < tH ∨ p < base + 2 * tL))) n
/-- The outputs of a new period from boundary `b` (R55, R56, R65, R67): the edges of the widths applied; a braking in progress turns the low
sides on from the first boundary (R74, R142). -/
def State.driveBegin (s : State) (n b : Nat) : State :=
  let top := s.rd AX.PWM_ACT_PERIOD.TOP n
  let ph := (List.range 3).map fun j =>
    phaseIn top (s.rd AX.PWM_ACT_W.W n j) (s.rd AX.PWM_MINP.MINP n) (s.dtHs n) (s.commanded n j (32 * (b : Int) - 1)).1 (s.sides n j (32 * (b : Int) - 1)).2
  s.updPw n fun h => { h with pp := h.prv, prv := h.drv, drv := { at_ := b, top := top, phases := ph }, sideAt := if h.periods = 0 then max h.sideAt b else h.sideAt }
/-- A period boundary (R50, R56 to R58, R61, R65 to R67, R164): a captured pair becomes active, a new delay-line table applies, widths,
carries and edges are computed, the energy of the step is booked, and the next boundary lies 2 × TOP later. -/
def State.pwmBoundary (s : State) (n : Nat) : State :=
  let h := s.pw n
  match h.nextB with
  | none => s
  | some b =>
    if s.dtime < b ∨ s.axOn n = false then s else
    let s := match h.cap with
      | none => s
      | some (top, bases) =>
        let s := ((s.wr AX.PWM_ACT_PERIOD.TOP top n).incWrap AX.PWM_STATUS.COMMIT_CNT n).wr AX.PWM_LAST_COMMIT b n
        let s := s.updPw n fun h => { h with bases := bases }
        match h.capP with
        | some p => s.bookStep n p top
        | none => s
    let s := match h.dlNew with
      | some e => s.tapApply n e
      | none => s
    let s := (s.forEach [0, 1, 2] fun s j => s.phaseBoundary n j).driveBegin n b
    s.updPw n fun h => { h with cap := none, capP := none, dlNew := none, capDone := false, lastB := b, periods := h.periods + 1,
                                       nextB := some (b + 2 * s.rd AX.PWM_ACT_PERIOD.TOP n) }

/-- The effect of a write of AX.PWM_DUTY_x (R64). -/
def State.fxPwmDuty (s : State) (n j v : Nat) : State × WErr :=
  if s.flag AX.PWM_CTRL.SRC n then (s.raise AX.PWM_STATUS.SH_REFUSED n, .ok)
  else
    let r := s.writeFields (AX.PWM_DUTY.D.addr n j) v
    (r.1.tagShadow n (j + 1), r.2)
/-- The effect of a write of AX.PWM_PERIOD (R63, R64). -/
def State.fxPwmPeriod (s : State) (n v : Nat) : State × WErr :=
  let r := s.writeFields (AX.PWM_PERIOD.TOP.addr n) v
  (r.1.tagShadow n 0, r.2)
/-- The effect of a write of AX.PWM_COMMIT (R61). -/
def State.fxPwmCommit (s : State) (n v : Nat) : State × WErr := (if bit v 0 then s.commitRequest n else s, .ok)
/-- The effect of a write of AX.PWM_DT or AX.PWM_MINP: only while EN = 0 (R65). -/
def State.fxPwmDead (s : State) (n a v : Nat) : State × WErr :=
  if s.axOn n then (s.raise AX.PWM_STATUS.CFG_REFUSED n).turnAway a v .ok else s.writeFields a v

/-- PWM_DUTY_WRITE (R64): a write of AX.PWM_DUTY_A, _B or _C. -/
def execPwmDutyWrite (m : Fin 64) (n : Fin 48) (j : Fin 3) (v : Word) (s : State) : Host.Outcome State Fault Refusal :=
  .next (s.busWriteWith m (AX.PWM_DUTY.D.addr n j) false fun s => s.fxPwmDuty n j v.toNat)
/-- PWM_COMMIT (R61): a write of AX.PWM_COMMIT.COMMIT = 1. -/
def execPwmCommit (m : Fin 64) (n : Fin 48) (s : State) : Host.Outcome State Fault Refusal :=
  .next (s.busWriteWith m (AX.PWM_COMMIT.COMMIT.addr n) false fun s => s.fxPwmCommit n 1)
/-- PWM_ACT_PERIOD_READ (R78): a read of AX.PWM_ACT_PERIOD, which latches the group. -/
def execPwmActPeriodRead (m : Fin 64) (n : Fin 48) (s : State) : Host.Outcome State Fault Refusal :=
  .next (s.busRead m (AX.PWM_ACT_PERIOD.TOP.addr n))

/-- The axis that a physical channel drives: its own, unless a spare carries that; a spare's (48, 49) the one it carries. -/
def State.axisOfCh (s : State) (ch : Nat) : Option Nat :=
  if ch < 48 then (if (s.carriedBy ch).isNone then some ch else none)
  else if s.flag PXB.MAP.VALID 0 (ch - 48) then some (s.rd PXB.MAP.AXIS 0 (ch - 48)) else none
/-- The physical channel that drives an axis. -/
def State.chOfAxis (s : State) (n : Nat) : Nat :=
  match s.carriedBy n with
  | some sp => 48 + sp
  | none => n
/-- DL_CAL_MEASURE (R58, R59, R77): the replica line of channel `ch` (48 and 49 the spares) gives N elements to a tick. For the axis that the
channel drives, a valid table applies at the next boundary, or at once where it does not run; an invalid one is dropped. -/
def execDlCalMeasure (ch : Fin 50) (elems : Fin 128) (s : State) : Host.Outcome State Fault Refusal :=
  let ok := decide (36 ≤ elems.val ∧ elems.val ≤ 78)
  let s := if ok then { s with chans := Tab.put 0 s.chans ch elems } else s
  match s.axisOfCh ch with
  | none => .next s
  | some n =>
    let s := s.incWrap AX.PWM_DLCAL.CAL_CNT n
    if ok then
      if s.axOn n then .next (s.updPw n fun h => { h with dlNew := some elems })
      else .next ((s.tapApply n elems).updPw n fun h => { h with dlNew := none })
    else .next ((s.raise AX.PWM_STATUS.DL_CAL_ERR n).emitMerge 0x0202 (srcAxis n) [elems])

/-! ### Enabling -/

/-- The carries of an axis are 0, and SKIP shows none owed (R68, R69). -/
def State.carryClear (s : State) (n : Nat) : State :=
  (s.forEach [0, 1, 2] fun s j => s.wr AX.PWM_CARRY.CARRY 0 n j).clear AX.PWM_STATUS.SKIP n
/-- EN is granted (R57, R61, R68, R71, R102, R110, R137): carries and loop histories are 0, a short circuit ends, the first boundary is set, and a
commit waits for it. With SPD_EN = 1 the steps before the speed loop's first output use an iq_ref of 0 (the model's choice: R125 gives none;
assumption log 31). -/
def State.axisOn (s : State) (n : Nat) : State :=
  let now := s.dtime
  let st := s.rd AX.PWM_START n
  let arm := s.flag AX.PWM_CTRL.START_ARM n
  let late := arm && decide (st < now + 4)
  let first := if arm && !late then st else now + 4
  let s := (s.raise AX.PWM_CTRL.EN n).raiseIf late AX.PWM_STATUS.START_LATE n
  let s := s.carryClear n
  let s := s.updPw n fun h => { h with asc := 0, ascBus := false, nextB := some first, periods := 0, capDone := false, cap := none, capP := none, stepP := none, tripAct := 0,
                                       pp := h.prv, prv := h.drv, drv := {},
                                       wakeAt := if h.awake then none else some now }
  let s := s.updFo n fun h => { h with step := none, fresh := true, steps := 0, stepOf := 0, spdPend := none, iqPend := 0, lastSpd := none, dq := 0, dlw := [0, 0, 0],
                                       cd := { h.cd with e := [0, 0, 0], y := [0, 0, 0] }, cq := { h.cq with e := [0, 0, 0], y := [0, 0, 0] },
                                       cs := { h.cs with e := [0, 0, 0], y := [0, 0, 0] } }
  let s := s.updCm n fun h => { h with c := 0, sc := 0, lastAcc := none, cNext := none, rejRun := 0 }
  (((s.wr AX.CMT_CORR.VALUE 0 n).wr AX.CMT_SCORR.VALUE 0 n)).commitRequest n
/-- A write of EN = 1 is refused (R59, R73, R75, R76, R147, R160, R343, R395): not released, a trip latched, no valid delay-line table, no
segment or a segment in T2, a fenced channel without a spare, a crossbar switch, a power state other than RUN. -/
def State.enRefused (s : State) (n : Nat) : Bool :=
  let seg := s.rd AX.BUS_CFG.SEG n
  let fenced := s.rdBit AGE.PFENCE_AX n
  !((s.pw n).released) || s.axSto n || s.rd AX.TRIP_STATUS.LATCH n != 0 || !(s.flag AX.PWM_DLCAL.VALID n) || seg == 15
    || (seg < 8 && s.flag BUS.STATUS.T2 seg) || (fenced && (s.carriedBy n).isNone) || s.pxbMoving n || s.inAxisReset n || s.rd PWR.STATE.STATE != 0 || s.flag PWR.STATE.BUSY

/-! ### Trips -/

/-- The short circuit an ACTION stands for (R71). -/
def ascOf (act : Nat) : Nat := if act = 2 then 1 else if act = 3 then 2 else 0
/-- An action of a trip on an axis (R71, R73): EN clears and the commit is discarded for ACTION 1 to 3; the action takes the outputs. -/
def State.tripPerform (s : State) (n act : Nat) : State :=
  if act = 0 then s else
  let asc := if s.axSto n then 0 else ascOf act
  let now := s.dtime
  let s := if s.axOn n then s.axisOff n asc resAborted else s.updPw n fun h => { h with asc := asc, sideAt := if h.asc = asc then h.sideAt else now }
  (s.clear AX.PWM_STATUS.COMMIT_PEND n).updPw n fun h => { h with tripAct := act, ascBus := false }
/-- Newly active trip inputs are latched and recorded, and end a listening window (R132); the first of them is stamped (R71). -/
def State.tripLatch (s : State) (n : Nat) (newO newD had : Bool) (aO aD : Nat) : State :=
  let s := if newO then (s.wrBit AX.TRIP_STATUS.LATCH 0 true n).emit 0x0203 (srcAxis n) [0, aO] else s
  let s := if newD then (s.wrBit AX.TRIP_STATUS.LATCH 1 true n).emit 0x0203 (srcAxis n) [1, aD] else s
  let s := (s.raise AX.PWM_STATUS.TRIPPED n).windowDrop n
  if had then s else (s.wr AX.TRIP_TIME s.dtime n).put AX.TRIP_STATUS.FIRST (!newO) n
/-- A trip input is blanked at clock `c` (R70): within BLANK ticks of a turn-on of any of the axis's outputs. -/
def State.tripMasked (s : State) (n j c : Nat) : Bool :=
  let b := s.rd AX.TRIP_CFG.BLANK n j
  decide (b ≠ 0) && (s.turnOns n).any fun t => decide (t ≤ c ∧ c < t + b)
/-- The filter's output for input `j` (0 OC, 1 DS) whose ball has stood at `level` since clock `at_` (R70): active, at the level set by POL,
and outside blanking, for FILT + 1 consecutive clocks, two clocks of the synchroniser earlier. -/
def State.tripActive (s : State) (n j : Nat) (level : Bool) (at_ : Nat) : Bool :=
  s.flag AX.TRIP_CFG.EN n j && (level != s.flag AX.TRIP_CFG.POL n j) &&
    (List.range (s.rd AX.TRIP_CFG.FILT n j + 1)).all fun i =>
      decide (at_ + 2 + i ≤ s.dtime) && !(s.tripMasked n j (s.dtime - 2 - i))
/-- What newly qualified trips of rank `act` do (R71, R73): `had` is whether one was latched before. ACTION 1 to 3 discards a pending commit. A lower
or equal second action changes nothing; one during a crossbar switch waits for its end; RECORD only records; with EN = 0, nothing latched and no
short circuit of threshold 2 (R159) the outputs stay. -/
def State.tripGovern (s : State) (n act : Nat) (had : Bool) : State :=
  let s := if act = 0 then s else s.clear AX.PWM_STATUS.COMMIT_PEND n
  let h := s.pw n
  let inForce := had || (h.asc != 0 && h.ascBus)
  if inForce && decide (act ≤ h.tripAct) then s
  else if s.pxbMoving n then s.updPw n fun h => { h with heldAct := some (max act (h.heldAct.getD 0)) }
  else if s.axOn n || inForce then s.tripPerform n act
  else s.updPw n fun h => { h with tripAct := max act (if h.asc = 0 then 0 else h.asc + 1) }
/-- TRIP_QUALIFIED (R70 to R73): the levels at the two balls and the clocks since which they stand; an input whose filtered level has become
active is latched, stamped, recorded and acted on. -/
def execTripQualified (n : Fin 48) (oc ds : PinLevel) (s : State) : Host.Outcome State Fault Refusal :=
  let o := s.tripActive n 0 oc.level oc.since
  let d := s.tripActive n 1 ds.level ds.since
  let newO := o && !(s.rdBit AX.TRIP_STATUS.LIVE 0 n)
  let newD := d && !(s.rdBit AX.TRIP_STATUS.LIVE 1 n)
  let had := s.rd AX.TRIP_STATUS.LATCH n != 0
  let s := (s.wrBit AX.TRIP_STATUS.LIVE 0 o n).wrBit AX.TRIP_STATUS.LIVE 1 d n
  if !(newO || newD) then .next s else
  let aO := s.rd AX.TRIP_CFG.ACTION n 0
  let aD := s.rd AX.TRIP_CFG.ACTION n 1
  let s := s.tripLatch n newO newD had aO aD
  .next (s.tripGovern n (max (if newO then aO else 0) (if newD then aD else 0)) had)
/-- TRIP_ASSERTION_BLANKED (R70): an assertion at a trip input has ended, and every clock of it lay in blanking. -/
def execTripAssertionBlanked (p : TripPulse) (s : State) : Host.Outcome State Fault Refusal :=
  .next (if s.flag AX.TRIP_CFG.EN p.axis p.input && decide (p.from_ < p.to_ ∧ p.to_ ≤ s.dtime) &&
      (List.range (p.to_ - p.from_)).all fun i => s.tripMasked p.axis p.input (p.from_ + i)
    then s.incWrap AX.TRIP_STATUS.MASK_CNT p.axis else s)
/-- The effect of a write of AX.TRIP_STATUS: a LATCH bit whose input is still qualified is set again (R73). -/
def State.fxTripStatus (s : State) (n v : Nat) : State × WErr :=
  let live := s.rd AX.TRIP_STATUS.LIVE n
  let was := s.rd AX.TRIP_STATUS.LATCH n
  let r := s.writeFields (AX.TRIP_STATUS.LATCH.addr n) v
  let s := r.1.wr AX.TRIP_STATUS.LATCH (r.1.rd AX.TRIP_STATUS.LATCH n ||| (was &&& live)) n
  let any := s.rd AX.TRIP_STATUS.LATCH n != 0
  let s := s.put AX.PWM_STATUS.TRIPPED any n
  (if any then s else s.updPw n fun h => { h with tripAct := if h.asc = 1 then 2 else if h.asc = 2 then 3 else 0 }, r.2)

/-! ### The pin crossbar -/

/-- The effect of a write of PXB.S0_MAP or PXB.S1_MAP (R76, R343). -/
def State.fxPxbMap (s : State) (sp v : Nat) : State × WErr :=
  let a := PXB.MAP.AXIS.addr 0 sp
  let oldV := s.flag PXB.MAP.VALID 0 sp
  let oldA := s.rd PXB.MAP.AXIS 0 sp
  let r := s.writeFields a v
  let newV := r.1.flag PXB.MAP.VALID 0 sp
  let newA := r.1.rd PXB.MAP.AXIS 0 sp
  if s.rdBit AGE.PFENCE_AX (48 + sp) then (s.raise PXB.STATUS.ERR, .ok)
  else if oldV = newV ∧ (oldA = newA ∨ oldV = false) then r
  else
    let other := s.flag PXB.MAP.VALID 0 (1 - sp) && s.rd PXB.MAP.AXIS 0 (1 - sp) == newA
    let moved := if newV then newA else oldA
    if s.flag PXB.STATUS.BUSY || s.axOn moved || (oldV && oldA != newA) || (newV && other) then (s.raise PXB.STATUS.ERR, .ok)
    else (({ r.1 with pxbs := Tab.put none r.1.pxbs sp (some { axis := moved, start := s.dtime }) }).raise PXB.STATUS.BUSY, r.2)
/-- PXB_MAP_WRITE (R76): a write of a spare's map. -/
def execPxbMapWrite (m : Fin 64) (sp : Fin 2) (v : Word) (s : State) : Host.Outcome State Fault Refusal :=
  .next (s.busWriteWith m (PXB.MAP.AXIS.addr 0 sp) true fun s => s.fxPxbMap sp v.toNat)
/-- The axis takes the delay-line table of the channel that drives it now (R77). EN waits for a measurement where that channel, or since its reset the
axis, has none yet (R59; the model's choice, assumption log 23). -/
def State.tapSwitch (s : State) (n : Nat) : State :=
  match Tab.get 0 s.chans (s.chOfAxis n), s.flag AX.PWM_DLCAL.VALID n with
  | 0, _ => (s.clear AX.PWM_DLCAL.VALID n).updPw n fun h => { h with dlNew := none }
  | e, true => (s.tapApply n e).updPw n fun h => { h with dlNew := none }
  | _, false => s.updPw n fun h => { h with dlNew := none }
/-- A crossbar switch ends (R73, R76, R77): the axis's carries are 0, it has the delay lines of its new channel, the recorder names axis and
spare, and an action that came during the switch takes the outputs, unless a short circuit as high is in force. A short circuit that stood before goes on. -/
def State.pxbComplete (s : State) (sp : Nat) (x : PxbH) : State :=
  let s := (({ s with pxbs := Tab.put none s.pxbs sp none }).clear PXB.STATUS.BUSY).mbSettle 0x0012 0 fun p => fieldLE p 0 1 == sp
  let s := (s.carryClear x.axis).tapSwitch x.axis
  let s := s.emit 0x0204 (srcAxis x.axis) [sp]
  let now := s.dtime
  let held := (s.pw x.axis).heldAct
  let bus := (s.pw x.axis).heldBus
  let s := s.updPw x.axis fun h => { h with heldAct := none, heldBus := false, sideAt := now }
  let asc := (s.pw x.axis).asc
  match held with
  | none => s
  | some act =>
    let s := if asc ≠ 0 ∧ act ≤ asc + 1 then s else s.tripPerform x.axis act
    if bus then s.updPw x.axis fun h => { h with ascBus := h.asc == 1 } else s

end Sys2Proof.Machine
end

