-- ==== Sys2Proof/Machine/Vib.lean ====
section
/-!
DEFINITION. Vibration channels: delivery of a sample, restarts and settling, pairing and interleave lock (R92 to R97).
-/
namespace Sys2Proof.Machine

/-- A channel's state beside its registers. -/
def State.vib (s : State) (c : Nat) : VibH := Tab.get {} s.vibs c
/-- A channel's state changed. -/
def State.updVib (s : State) (c : Nat) (f : VibH → VibH) : State := { s with vibs := Tab.put {} s.vibs c (f (s.vib c)) }
/-- Channel `c` is the odd channel of a pair, whose own input has no effect (R96). -/
def State.vibOdd (s : State) (c : Nat) : Bool := c % 2 == 1 && s.flag MF.VIB_CFG.PAIR (c - 1)
/-- The vibration channels are under calibration and deliver nothing (R103). -/
def State.vibCal (s : State) : Bool :=
  match s.cal with
  | some c => bit c.sel 2
  | none => false
/-- The notch is in force: F lies below the limit of the channel as it is now (R94). An F from 16,000 written for a pair leaves the notch off, with
no settling time of its own, once the pair has ended (the model's choice: the spec speaks of the write alone; assumption log 26). -/
def State.notchOk (s : State) (c : Nat) : Bool := decide (s.rd MF.VIB_NOTCH.F c < (if s.flag MF.VIB_CFG.PAIR c then 32000 else 16000))
/-- Settling time in ticks: the sinc's by ORDER, plus the notch's by BW (R93, R94). -/
def State.settleTicks (s : State) (c : Nat) : Nat :=
  (match s.rd MF.VIB_CFG.ORDER c with
    | 0 => 16500
    | 1 => 16750
    | _ => 17000) +
  (if s.notchOk c then
    (match s.rd MF.VIB_NOTCH.BW c with
      | 1 => 5632000
      | 2 => 1408000
      | 3 => 352000
      | 4 => 88000
      | _ => 0) else 0)
/-- A restart: no sample until the settling time has passed; Babbitt's ring restarts; a pair loses its lock (R95, R97, R244). -/
def State.vibRestart (s : State) (c : Nat) (from_ : Nat) : State :=
  let s := s.updVib c fun h => { h with settleEnd := some (from_ + s.settleTicks c) }
  let s := (s.raise MF.VIB_STATUS.SETTLING c).incWrap MF.VIB_STATUS.RESTART_CNT c
  let s := s.clear MF.VIB_STATUS.INTLV_LOCK c
  let s := s.updBi c fun h => { h with samples := [] }
  if s.babLive c then s.babRestart c else s

/-- The odd channel of an even channel's pair begins again when the pair ends (R96). -/
def State.vibUnpair (s : State) (c : Nat) : State := if s.flag MF.VIB_CFG.PD (c + 1) then s else s.vibRestart (c + 1) s.dtime
/-- The effect of a write of VIB_CFG (R95, R96, R102): a write of the odd channel of a pair is held, without effect while the pair is set. -/
def State.fxVibCfg (s : State) (c v : Nat) : State × WErr :=
  let odd := c % 2 == 1 && bit v 3
  let s0 := if odd then s.raise MF.VIB_STATUS.CFG_ERR c else s
  if odd then (s0, .ok) else
  let old := (s.reg (MF.VIB_CFG.PD.addr c)).toNat
  let r := s.writeFields (MF.VIB_CFG.PD.addr c) v
  let s := r.1
  let new := (s.reg (MF.VIB_CFG.PD.addr c)).toNat
  let s := if s.vibOdd c then s
    else if bit old 0 && !(bit new 0) then
      (s.updVib c fun h => { h with wakeAt := some s.dtime }).vibRestart c (s.dtime + 640)
    else if bits old 3 1 ≠ bits new 3 1 then s.vibRestart c s.dtime else s
  (if bit old 3 && !(bit new 3) then s.vibUnpair c else s, r.2)
/-- The effect of a write of VIB_NOTCH (R94 to R96): an F at or above the limit is refused as a whole, so that a notch that is off stays off and one
that is on goes on as it is (the model's choice: the spec says only that the notch stays off; assumption log 26). -/
def State.fxVibNotch (s : State) (c v : Nat) : State × WErr :=
  let lim := if s.flag MF.VIB_CFG.PAIR c then 32000 else 16000
  if lim ≤ bits v 14 0 then (s.raise MF.VIB_STATUS.CFG_ERR c, .ok)
  else
    let old := s.reg (MF.VIB_NOTCH.F.addr c)
    let r := s.writeFields (MF.VIB_NOTCH.F.addr c) v
    (if r.1.reg (MF.VIB_NOTCH.F.addr c) = old || r.1.vibOdd c then r.1 else r.1.vibRestart c r.1.dtime, r.2)

/-- Group delay in ticks by ORDER (R93). -/
def State.vibDelay (s : State) (c : Nat) : Nat :=
  match s.rd MF.VIB_CFG.ORDER c with
  | 0 => 8110
  | 1 => 8230
  | _ => 8350
/-- VIB_SAMPLE (R92, R93, R96, R97, R81, R105): a channel that is powered and settled delivers a corrected sample, stamped with the instant it
represents, one group delay ago, to Babbitt and its monitor set; the raw operand is the decimated code after the notch. The odd converter's samples
of a pair pass its further correction, whose estimates the spec does not give (free), and a saturation of theirs shows in the even channel's OVR, the
channel that delivers the pair's stream (the model's choice; both assumption log 26). -/
def execVibSample (c : Fin 32) (stamp : Nat) (raw : Int) (s : State) : Host.Outcome State Fault Refusal :=
  let pair := s.flag MF.VIB_CFG.PAIR c
  if s.flag MF.VIB_CFG.PD c ∨ s.vibOdd c = true ∨ s.vibCal = true ∨ s.flag MF.VIB_STATUS.SETTLING c ∨ stamp % (if pair then 625 else 1250) ≠ 0
      ∨ stamp + s.vibDelay c ≠ s.dtime then .next s
  else
    let odd := pair && stamp % 1250 != 0
    let conv := if odd then c.val + 1 else c.val
    let w := correct raw (s.rdS MF.CAL_OFS.OFS 0 (8 + conv)) (s.rdS MF.CAL_GAIN.GAIN 0 (8 + conv))
    let w := if odd then Config.pairCorr c stamp w else w
    let v := satS 24 w
    let ovr := decide (v ≠ w)
    let s := (s.raiseIf ovr MF.VIB_STATUS.OVR c).monAdd (monVib c) v stamp ovr
    .next (s.babSample c stamp v (pair && !(s.flag MF.VIB_STATUS.INTLV_LOCK c)) ovr)
/-- VIB_RESTART (R95): a write of VIB_CFG, or of VIB_NOTCH, that changes the channel's configuration or powers it up. -/
def execVibRestart (m : Fin 64) (c : Fin 32) (notch : Bool) (v : Word) (s : State) : Host.Outcome State Fault Refusal :=
  if notch then .next (s.busWriteWith m (MF.VIB_NOTCH.F.addr c) false fun s => s.fxVibNotch c v.toNat)
  else .next (s.busWriteWith m (MF.VIB_CFG.PD.addr c) false fun s => s.fxVibCfg c v.toNat)
/-- VIB_SETTLED (R95): the settling time has passed; SETTLING clears and samples flow again. -/
def execVibSettled (c : Fin 32) (s : State) : Host.Outcome State Fault Refusal :=
  match (s.vib c).settleEnd with
  | some t => if t ≤ s.dtime then .next ((s.updVib c fun h => { h with settleEnd := none }).clear MF.VIB_STATUS.SETTLING c) else .next s
  | none => .next s
/-- INTLV_LOCK (R97): a pair's estimates have converged. -/
def execIntlvLock (c : Fin 32) (s : State) : Host.Outcome State Fault Refusal :=
  if s.flag MF.VIB_CFG.PAIR c then .next (s.raise MF.VIB_STATUS.INTLV_LOCK c) else .next s
/-- INTLV_LOCK_LOSS (R97): a pair loses its lock; its samples carry UNCAL again. -/
def execIntlvLockLoss (c : Fin 32) (s : State) : Host.Outcome State Fault Refusal :=
  .next (s.clear MF.VIB_STATUS.INTLV_LOCK c)

end Sys2Proof.Machine
end

