-- ==== Sys2Proof/Machine/DcBus.lean ====
section
/-!
DEFINITION. DC-bus segments: thresholds, chopper, hold controller, absorption, threshold 2 and the energy account (R147 to R166).
-/
namespace Sys2Proof.Machine

/-- The axes of segment `b` (R147). -/
def State.segAxes (s : State) (b : Nat) : List Nat := axes.filter fun n => s.rd AX.BUS_CFG.SEG n == b
/-- The chopper of a segment is unavailable (R153). -/
def State.chopUnavail (s : State) (b : Nat) : Bool := !(s.flag BUS.CTRL.CHOP_PRESENT b) || s.flag BUS.STATUS.CHOP_FAULT b
/-- The module has entered RUN, at the end of step 2 of its start-up, and stands in RUN or AXIS_HOLD (R394). -/
def State.runs (s : State) : Bool := !s.pwr.por && s.flag PWR.START_STATUS.BOOT_OK && decide (s.rd PWR.STATE.STATE ≤ 1)
/-- The DC-bus converters and all comparators are powered: in RUN and AXIS_HOLD, from 640 ticks after the entry (R102). -/
def State.measUp (s : State) : Bool := s.runs && decide (s.pwr.measAt ≤ s.dtime)
/-- The output of a comparator at a ball, from its output so far, against `th` steps of its 10-bit DAC of 1.25 V with 4 mV of hysteresis on each
side (R90, R91); the ball stands at `uv` µV. -/
def dacCompare (was : Bool) (th uv : Nat) : Bool :=
  if was then decide (1250000 * th ≤ 1024 * uv + 1024 * 4000) else decide (1250000 * th + 1024 * 4000 ≤ 1024 * uv)
/-- The largest bus limit. -/
def limMax : Int := 0x7FFFFFFF

/-! ### The gate and its current -/

/-- The count of clocks with the gate high and current present stops or goes on from this clock (R164). -/
def State.segCount (s : State) (b : Nat) : State :=
  let on := s.flag BUS.STATUS.CHOP_ON b && s.flag MF.DCB_STATUS.CHFB b
  s.updSg b fun h =>
    let n := match h.onFrom with
      | some t => h.nOn + (s.dtime - t)
      | none => h.nOn
    { h with nOn := n, onFrom := if on then some s.dtime else none }
/-- The gate goes high, with the record R151 asks for. -/
def State.gateOn (s : State) (b : Nat) : State :=
  if s.flag BUS.STATUS.CHOP_ON b ∨ s.chopUnavail b = true then s else
  let long := match (s.sg b).fallAt with
    | none => true
    | some t => decide (t + 10 * msTicks ≤ s.dtime)
  let s := ((s.raise BUS.STATUS.CHOP_ON b).updSg b fun h => { h with riseAt := s.dtime }).segCount b
  if long then s.emit 0x0401 (srcSegment b) else s.emitMerge 0x0401 (srcSegment b)
/-- The gate goes low. -/
def State.gateOff (s : State) (b : Nat) : State :=
  if s.flag BUS.STATUS.CHOP_ON b then ((s.clear BUS.STATUS.CHOP_ON b).updSg b fun h => { h with fallAt := some s.dtime }).segCount b else s
/-- A chopper fault is latched with its cause: 0 a failed comparator test, 1 NO_CURRENT, 2 OVERLOAD (R152, R327). -/
def State.chopFault (s : State) (b cause : Nat) : State :=
  let s := ((s.raise BUS.STATUS.CHOP_FAULT b).wr BUS.STATUS.CAUSE cause b).wr BUS.CHOP_FAULT_TIME s.dtime b
  (s.emit 0x0402 (srcSegment b) [cause]).gateOff b

/-- The effect of a write of MF.DCB_CFG: a new CHFB_TH stands from this clock (R91). -/
def State.fxDcbCfg (s : State) (b v : Nat) : State × WErr :=
  let old := s.rd MF.DCB_CFG.CHFB_TH b
  let r := s.writeFields (MF.DCB_CFG.OV_TH.addr b) v
  let now := s.dtime
  (if r.1.rd MF.DCB_CFG.CHFB_TH b = old then r.1 else r.1.updSg b fun h => { h with thAt := now }, r.2)
/-- CHFB_CHANGE (R91, R152, R164): the voltage of ball CHFBb and the clock since which it stands so. The comparator becomes active with the voltage, or
with the threshold where that changed later; current is present once it has been active for 8 consecutive clocks, whatever the voltage
does above the falling point meanwhile, and an inactive clock ends it. -/
def execChfbChange (b : Fin 8) (v : BallLevel) (s : State) : Host.Outcome State Fault Refusal :=
  if !s.measUp || decide (s.dtime < v.since) then .next s else
  let h := s.sg b
  let raw := dacCompare h.chfb (s.rd MF.DCB_CFG.CHFB_TH b) v.uv
  let at_ := if h.chfb then h.chfbAt else max (max v.since h.thAt) s.pwr.measAt
  let present := raw && decide (at_ + 7 ≤ s.dtime)
  let s := s.updSg b fun h => { h with chfb := raw, chfbAt := at_ }
  if s.flag MF.DCB_STATUS.CHFB b = present then .next s
  else .next (((s.put MF.DCB_STATUS.CHFB present b).updSg b fun h => { h with curEdge := s.dtime }).segCount b)
/-- The gate has been high without current for 6,400 clocks, the higher row of R152. -/
def State.chopNoCur (s : State) (b : Nat) : Bool :=
  s.flag BUS.STATUS.CHOP_ON b && !(s.flag MF.DCB_STATUS.CHFB b) && decide (max (s.sg b).riseAt (s.sg b).curEdge + 6400 ≤ s.dtime)
/-- CHOP_NO_CURRENT (R152): the gate has been high without current for 6,400 clocks. -/
def execChopNoCurrent (b : Fin 8) (s : State) : Host.Outcome State Fault Refusal :=
  .next (if s.chopNoCur b then s.chopFault b 1 else s)
/-- CHOP_OVERLOAD (R152): the gate has been high for MAX_ON ms; where no current has flowed either, that cause governs. -/
def execChopOverload (b : Fin 8) (s : State) : Host.Outcome State Fault Refusal :=
  let mx := s.rd BUS.CHOP_CFG.MAX_ON b
  if s.flag BUS.STATUS.CHOP_ON b ∧ mx ≠ 0 ∧ (s.sg b).riseAt + mx * msTicks ≤ s.dtime then .next (s.chopFault b (if s.chopNoCur b then 1 else 2)) else .next s
/-- CHOP_STUCK (R152, R330): the gate has been low with current for 6,400 clocks. -/
def execChopStuck (b : Fin 8) (s : State) : Host.Outcome State Fault Refusal :=
  let h := s.sg b
  if s.flag BUS.STATUS.CHOP_ON b = false ∧ s.flag MF.DCB_STATUS.CHFB b ∧ s.flag BUS.STATUS.CHOP_STUCK b = false
      ∧ max (h.fallAt.getD 0) h.curEdge + 6400 ≤ s.dtime then
    .next (((s.raise BUS.STATUS.CHOP_STUCK b).emit 0x0403 (srcSegment b)).segFault 15 b s.rcChopStuck (s.segAxes b))
  else .next s

/-! ### Threshold 2 -/

/-- The action that threshold 2 has for an axis (R158): 0 none, 1 active short circuit, 2 STO. -/
def State.t2Choice (s : State) (n : Nat) : Nat :=
  let st := s.rd TB.STATUS.STATE n
  if s.axSto n then 0
  else if s.flag AX.BUS_CFG.PM n && (decide ((s.rd AX.BUS_ASC_SPD.VALUE n : Int) ≤ absI (s.tbSpeed n)) || st == tbHold || st == tbLost || st == tbOff) then 1
  else 2
/-- The STO that threshold 2 of segment `b` asks for on an axis (R158): EN cleared and the fault raised, whose cause is that segment's. -/
def State.t2Sto (s : State) (b n : Nat) : State :=
  let s := (s.axisOff n (s.pw n).asc resAborted).axFault n 14 b rcSto
  if (s.sx n).segCauses.any (·.1 == 14) then s else s.causeEnded n 14
/-- The action is taken (R158, R159): a short circuit in force stays, since it is the same or the higher one; an axis in a crossbar switch takes
its action when the switch completes. -/
def State.t2Axis (s : State) (b n act : Nat) : State :=
  let s := (s.wr AX.BUS_STATUS.T2_ACT act n).emit 0x0406 (srcAxis n) [act]
  let s := if act = 0 then s else s.segCause b 14 n
  match act with
  | 0 => s
  | 1 =>
    let s := if s.pxbMoving n then s.updPw n fun h => { h with heldAct := some (max 2 (h.heldAct.getD 0)), heldBus := true }
      else if (s.pw n).asc = 0 then (s.tripPerform n 2).updPw n fun h => { h with ascBus := true }
      else s.updPw n fun h => { h with ascBus := h.ascBus || h.asc == 1 }
    s.axFault n 14 b rcReport
  | _ => if s.pxbMoving n then s.updPw n fun h => { h with heldSto := some b } else s.t2Sto b n
/-- Threshold 2 acts (R158): latched, stamped, recorded, and every axis of the segment acted on as it stands in this clock. -/
def State.t2Act (s : State) (b code : Nat) (cmp : Bool) : State :=
  if s.flag BUS.STATUS.T2 b then s else
  let s := (s.raise BUS.STATUS.T2 b).wr BUS.T2_TIME s.dtime b
  let s := s.emit 0x0405 (srcSegment b) (le 2 code ++ [b2n cmp])
  let acts := (s.segAxes b).map fun n => (n, s.t2Choice n)
  s.forEach acts fun s a => s.t2Axis b a.1 a.2
/-- Threshold 2 is reached in this clock; the first cause counts (R158). -/
def State.t2Reach (s : State) (b code : Nat) (cmp : Bool) : State :=
  if s.flag BUS.STATUS.T2 b then s else s.updSg b fun h => { h with t2 := some (h.t2.getD (code, cmp)) }
/-- In the clock after, what was reached acts (R158). -/
def State.t2Clock (s : State) : State :=
  s.forEach (List.range 8) fun s b =>
    match (s.sg b).t2 with
    | none => s
    | some x => (s.updSg b fun h => { h with t2 := none }).t2Act b x.1 x.2

/-- The gate follows the comparator alone: no sample, or the last one saturated (R162). -/
def State.gateByOv (s : State) (b : Nat) : State := if s.flag MF.DCB_STATUS.OV b then s.gateOn b else s.gateOff b
/-- OV_COMPARATOR (R90, R158, R162): ball DCBb stands at `uv` µV for the overvoltage comparator of segment `b`. -/
def execOvComparator (b : Fin 8) (uv : Nat) (s : State) : Host.Outcome State Fault Refusal :=
  if !s.measUp then .next s else
  let active := dacCompare (s.flag MF.DCB_STATUS.OV b) (s.rd MF.DCB_CFG.OV_TH b) uv
  let s := s.put MF.DCB_STATUS.OV active b
  if s.saf.ovDead.contains b.val then .next s else
  let s := if active then s.t2Reach b (s.rd BUS.VNOW.V b) true else s
  .next (if s.flag BUS.STATUS.NO_SAMPLE b || (s.sg b).sat then s.gateByOv b else s)

/-! ### The hold controller and the limits of the axes -/

/-- The hold controller at a delivered sample with code `u` (R154). -/
def State.holdRun (s : State) (b u : Nat) : State :=
  let need := if s.rd BUS.TH1.TH1_ON b ≤ u then true else if u ≤ s.rd BUS.TH1.TH1_OFF b then false else (s.sg b).need
  let s := s.updSg b fun h => { h with need := need }
  let cond := s.flag BUS.CTRL.HOLD_MODE b || (s.chopUnavail b && need)
  let was := s.flag BUS.STATUS.HOLD b
  let s := if cond && !was then ((s.raise BUS.STATUS.HOLD b).updSg b fun h => { h with lInt := limMax }).emit 0x0404 (srcSegment b) [1] else s
  if cond || was then
    let e : Int := (s.rd BUS.TH2.V_HOLD b : Int) - u
    let li := clampI 0 limMax ((s.sg b).lInt + s.rd BUS.HOLD_GAIN.KI_H b * e * 2 ^ 15)
    let l := clampI 0 limMax (li + s.rd BUS.HOLD_GAIN.KP_H b * e * 2 ^ 15)
    let s := (s.updSg b fun h => { h with lInt := li }).wr BUS.HOLD_LIM.L_BUS l.toNat b
    if !cond && l == limMax then (s.clear BUS.STATUS.HOLD b).emit 0x0404 (srcSegment b) [0] else s
  else s.wr BUS.HOLD_LIM.L_BUS 0x7FFFFFFF b
/-- BUS_LIM of each axis of a segment (R155) and the term Δiq it may absorb (R156). -/
def State.busLimits (s : State) (b u : Nat) : State :=
  let l := s.rd BUS.HOLD_LIM.L_BUS b
  let vh := s.rd BUS.TH2.V_HOLD b
  let hold := s.flag BUS.STATUS.HOLD b
  s.forEach (s.segAxes b) fun s n =>
    let s := s.wr AX.SPD_BUS_LIM.LIM (min (l * s.rd AX.BUS_CFG.WEIGHT n / 128) 0x7FFFFFFF) n
    let dq := if s.flag AX.BUS_CFG.ABSORB n && hold && decide (vh < u) then
        min (s.rd AX.BUS_ABS_LIM.VALUE n) (s.rd BUS.ABS_GAIN.KA b * (u - vh) * 2 ^ 15) else 0
    s.updFo n fun h => { h with dq := dq }

/-! ### The energy account -/

/-- ½ × CAP × V² in µJ (R164), V the code × VSCALE × 2^−24. -/
def capEnergy (cap vscale code : Nat) : Nat := ofS 64 (rne (cap * (code * vscale) ^ 2 : Nat) (2 ^ 49))
/-- The energy of the chopper over an interval (R164). -/
def chopEnergy (vscale rchop code nOn : Nat) : Int := rne ((code * vscale) ^ 2 * 1000 * nOn : Nat) (2 ^ 48 * rchop * 320 : Nat)
/-- The account at a delivered sample of code `u` (R164, R165), and a clear that waited for it (R166). -/
def State.accRun (s : State) (b u : Nat) : State :=
  let s := s.segCount b
  let cap := capEnergy (s.rd BUS.CAP.CAP b) (s.rd BUS.VSCALE.VSCALE b) u
  s.updSg b fun h =>
    let dc := chopEnergy (s.rd BUS.VSCALE.VSCALE b) (s.rd BUS.RCHOP.RCHOP b) h.code h.nOn
    let h := { h with
      eSrc := ofS 64 (h.eSrc + ((cap : Int) - h.eCapNow) + h.dMot - h.dReg + dc)
      eCapNow := cap
      eMot := ofS 64 (h.eMot + h.dMot)
      eReg := ofS 64 (h.eReg + h.dReg)
      eChop := ofS 64 (h.eChop + dc)
      dMot := 0, dReg := 0, nOn := 0, code := u }
    if h.clear then { h with eMot := 0, eReg := 0, eChop := 0, eSrc := 0, eCapStart := h.eCapNow, clear := false } else h
/-- A snapshot of the six quantities in one clock (R166). -/
def State.accSnap (s : State) (b : Nat) : State :=
  let h := s.sg b
  let s := s.wr BUS.E h.eCapStart b 0
  let s := s.wr BUS.E h.eCapNow b 1
  let s := s.wr BUS.E h.eMot b 2
  let s := s.wr BUS.E h.eReg b 3
  let s := s.wr BUS.E h.eChop b 4
  let s := s.wr BUS.E h.eSrc b 5
  s.wr BUS.ACC_SNAP_TIME s.dtime b

/-! ### A delivered sample -/

/-- The chopper at a delivered sample (R151, R162): by the comparator alone where the sample is held or saturated. -/
def State.chopRun (s : State) (b v : Nat) (held : Bool) : State :=
  if held then s.gateByOv b
  else if s.rd BUS.TH1.TH1_ON b ≤ v then s.gateOn b
  else if v ≤ s.rd BUS.TH1.TH1_OFF b ∧ (s.sg b).riseAt + s.rd BUS.CHOP_CFG.MIN_ON b * usTicks ≤ s.dtime then s.gateOff b
  else s
/-- Undervoltage at a judged sample (R162). -/
def State.uvRun (s : State) (b v : Nat) : State :=
  if v ≤ s.rd BUS.UV.UV b then
    if (s.sg b).above then
      let s := ((s.updSg b fun h => { h with above := false }).raise BUS.STATUS.UV b).emitMerge 0x0407 (srcSegment b)
      s.segFault 16 b s.rcBusUv (s.segAxes b)
    else s
  else (s.updSg b fun h => { h with above := true }).segEnded b 16
/-- DCB_SAMPLE_DELIVERED (R79, R81, R89, R149, R162): a sample of segment `b`'s converter taken at `stamp`, a multiple of 320 ticks not more than 256
ticks ago, is delivered in RUN or AXIS_HOLD, and the bus logic acts on it in this clock. During calibration the last sample is held. -/
def execDcbSampleDelivered (b : Fin 8) (stamp : Nat) (raw : Fin 65536) (s : State) : Host.Outcome State Fault Refusal :=
  if !s.measUp || stamp % 320 != 0 || decide (s.dtime < stamp ∨ stamp + 256 < s.dtime) then .next s else
  let noS := s.flag BUS.STATUS.NO_SAMPLE b
  let w := correct (raw.val : Int) (s.rdS MF.CAL_OFS.OFS 0 b) (s.rdS MF.CAL_GAIN.GAIN 0 b)
  let v := clampI 0 65535 w
  let sat := decide (v ≠ w)
  let s := if noS then s else (((s.wr BUS.VNOW.V v.toNat b).raiseIf sat MF.DCB_STATUS.OVR b).monAdd (monDcb b) v stamp sat).updSg b fun h => { h with sat := sat }
  let held := noS || sat
  let u := if held then (s.sg b).code else v.toNat
  let s := s.accRun b u
  let s := s.chopRun b v.toNat held
  let s := if held then s else s.uvRun b v.toNat
  let s := (s.holdRun b u).busLimits b u
  .next (if !held && decide (s.rd BUS.TH2.TH2 b ≤ v.toNat) then s.t2Reach b v.toNat false else s)

/-! ### Register effects -/

/-- The thresholds stand in their order (R148). -/
def State.thOrder (s : State) (b : Nat) : Bool :=
  let off := s.rd BUS.TH1.TH1_OFF b
  let on := s.rd BUS.TH1.TH1_ON b
  let hold := s.rd BUS.TH2.V_HOLD b
  decide (s.rd BUS.UV.UV b < off) && decide (off < on) && decide (on < hold) && decide (hold < s.rd BUS.TH2.TH2 b)
/-- The effect of a write of BUS.TH1, BUS.TH2 or BUS.UV (R148). -/
def State.fxBusTh (s : State) (b a v : Nat) : State × WErr :=
  let r := s.writeFields a v
  if r.1.thOrder b then r else (s.raise BUS.STATUS.CFG_REFUSED b, .ok)
/-- The effect of a write of BUS.STATUS (R13, R153, R160): a chopper fault or T2 clears only once the bus is below TH1_OFF. -/
def State.fxBusStatus (s : State) (b v : Nat) : State × WErr :=
  let low := decide (s.rd BUS.VNOW.V b ≤ s.rd BUS.TH1.TH1_OFF b)
  let cf := s.flag BUS.STATUS.CHOP_FAULT b && !low
  let t2 := s.flag BUS.STATUS.T2 b && !(low && !(s.flag MF.DCB_STATUS.OV b))
  let wasT2 := s.flag BUS.STATUS.T2 b
  let r := s.writeFields (BUS.STATUS.T2.addr b) v
  let s := (r.1.raiseIf cf BUS.STATUS.CHOP_FAULT b).raiseIf t2 BUS.STATUS.T2 b
  let s := if wasT2 && !(s.flag BUS.STATUS.T2 b) then s.segEnded b 14 else s
  (if s.flag BUS.STATUS.CHOP_STUCK b then s else s.segEnded b 15, r.2)
/-- The effect of a write of BUS.CTRL: a chopper declared absent drives its gate low (R153). -/
def State.fxBusCtrl (s : State) (b v : Nat) : State × WErr :=
  let r := s.writeFields (BUS.CTRL.LOCK.addr b) v
  (if r.1.chopUnavail b then r.1.gateOff b else r.1, r.2)
/-- The effect of a write of BUS.ACC_CTRL (R166). -/
def State.fxAccCtrl (s : State) (b v : Nat) : State × WErr :=
  let r := s.writeFields (BUS.ACC_CTRL.AUTO.addr b) v
  let s := r.1.updSg b fun h => { h with autoRef := s.dtime, clear := h.clear || bit v 0 }
  (if bit v 1 then s.accSnap b else s, r.2)
/-- The effect of a write of AX.BUS_CFG (R147, R14): while EN = 1 it leaves SEG and sets CFG_REFUSED. -/
def State.fxAxBusCfg (s : State) (n v : Nat) : State × WErr :=
  let a := AX.BUS_CFG.SEG.addr n
  if s.axOn n then
    let r := s.writeFields a (setBits v 3 0 (s.rd AX.BUS_CFG.SEG n))
    (r.1.raise AX.BUS_STATUS.CFG_REFUSED n, if s.lockedDiffers a v then .locked else r.2)
  else s.writeFields a v

/-- BUS_TH_WRITE (R148): a write of BUS.TH1 (0), BUS.TH2 (1) or BUS.UV (2). -/
def execBusThWrite (m : Fin 64) (b : Fin 8) (which : Fin 3) (v : Word) (s : State) : Host.Outcome State Fault Refusal :=
  let a := BUS.TH1.TH1_ON.addr b + 4 * which
  .next (s.busWriteWith m a false fun s => s.fxBusTh b a v.toNat)
/-- CHOP_FAULT_CLEAR (R153): a write of 1 to BUS.STATUS.CHOP_FAULT. -/
def execChopFaultClear (m : Fin 64) (b : Fin 8) (s : State) : Host.Outcome State Fault Refusal :=
  .next (s.busWriteWith m (BUS.STATUS.T2.addr b) false fun s => s.fxBusStatus b 2)
/-- T2_CLEAR (R160): a write of 1 to BUS.STATUS.T2. -/
def execT2Clear (m : Fin 64) (b : Fin 8) (s : State) : Host.Outcome State Fault Refusal :=
  .next (s.busWriteWith m (BUS.STATUS.T2.addr b) false fun s => s.fxBusStatus b 64)
/-- ACC_CLEAR (R166): a write of BUS.ACC_CTRL with CLEAR = 1. -/
def execAccClear (m : Fin 64) (b : Fin 8) (v : Word) (s : State) : Host.Outcome State Fault Refusal :=
  .next (s.busWriteWith m (BUS.ACC_CTRL.AUTO.addr b) false fun s => s.fxAccCtrl b (setBit v.toNat 0 true))
/-- ACC_SNAP (R166): a write of BUS.ACC_CTRL with SNAP = 1. -/
def execAccSnap (m : Fin 64) (b : Fin 8) (v : Word) (s : State) : Host.Outcome State Fault Refusal :=
  .next (s.busWriteWith m (BUS.ACC_CTRL.AUTO.addr b) false fun s => s.fxAccCtrl b (setBit v.toNat 1 true))
/-- ACC_AUTO_SNAP (R166): AUTO ms have passed. -/
def execAccAutoSnap (b : Fin 8) (s : State) : Host.Outcome State Fault Refusal :=
  let auto := s.rd BUS.ACC_CTRL.AUTO b
  if auto ≠ 0 ∧ (s.sg b).autoRef + auto * msTicks ≤ s.dtime then
    .next ((s.accSnap b).updSg b fun h => { h with autoRef := s.dtime })
  else .next s

end Sys2Proof.Machine
end

