-- ==== Sys2Proof/Machine/Measure.lean ====
section
/-!
DEFINITION. The measurement front end beside monitors, housekeeping and vibration: the current converters and their checking pair, the
phase-voltage comparators' levels and DACs, wake-up and self-calibration (R82 to R88, R102 to R104).
-/
namespace Sys2Proof.Machine

/-- Converters A, B and K of axis `n` (0, 1, 2) in the numbering of R356. -/
def convCur (n c : Nat) : Nat := 64 + 3 * n + c
/-- A current converter is marked as failed, by count (0) or by calibration (1): its FAIL bit, K's role, the record (R84). -/
def State.convMark (s : State) (n c cause : Nat) : State :=
  let had := s.rd AX.ADC_HEALTH.FAIL n != 0
  let s := (s.wrBit AX.ADC_HEALTH.FAIL c true n).emit 0x0211 (srcConverter (convCur n c)) [cause]
  if c = 2 then s.wr AX.ADC_HEALTH.ROLE_K 3 n else if had then s else s.wr AX.ADC_HEALTH.ROLE_K (c + 1) n
/-- The report of a failing converter to the safety manager: degraded at the axis's first, lost at its second (R84, R330). -/
def State.convFaultOf (s : State) (n : Nat) : FaultH :=
  if s.rd AX.ADC_HEALTH.FAIL n != 0 then axFaultOf n 10 (s.groupOfAxis n) rcSto else axFaultOf n 9 (s.groupOfAxis n) s.rcMeasDeg
/-- A current converter is declared failed, outside a window (R84). -/
def State.convFail (s : State) (n c cause : Nat) : State :=
  if s.rdBit AX.ADC_HEALTH.FAIL c n then s else (s.convMark n c cause).faultRaise (s.convFaultOf n)

/-- The tolerance of the checking pair (R83). -/
def chkTol (main : Int) (abs_ rel : Nat) : Int := abs_ + absI main * rel / 256
/-- K's comparison with the main converter of phase `x` (0 A, 1 B) (R83, R84). -/
def State.chkCompare (s : State) (n x : Nat) (main k : Int) : State :=
  let bad := decide (chkTol main (s.rd AX.ADC_CHK.TOL_ABS n) (s.rd AX.ADC_CHK.TOL_REL n) < absI (main - k))
  let h := s.pw n
  let ha := if x = 0 then (bad :: h.histA).take 16 else h.histA
  let hb := if x = 1 then (bad :: h.histB).take 16 else h.histB
  let s := s.updPw n fun h => { h with histA := ha, histB := hb }
  let ca := (ha.filter id).length
  let cb := (hb.filter id).length
  let s := (s.wr AX.ADC_STATUS.MISM_CNT_A ca n).wr AX.ADC_STATUS.MISM_CNT_B cb n
  if !bad then s else
  let s := s.wrBit AX.ADC_STATUS.CHK_MISM x true n
  let own := if x = 0 then ca else cb
  let other := if x = 0 then cb else ca
  if own < s.rd AX.ADC_CHK.LIM n then s.emit 0x0210 (srcAxis n) ([x, 0] ++ le 2 (ofS 16 main) ++ le 2 (ofS 16 k))
  else s.convFail n (if other = 0 then x else 2) 0

/-- One current sample: corrected, saturated, given to its monitor set (R81, R105). -/
def State.curSample (s : State) (n c : Nat) (raw : Int) (ts : Nat) : Int × State :=
  let w := correct raw (s.rdS AX.CAL_OFS.OFS n c) (s.rdS AX.CAL_GAIN.GAIN n c)
  let v := satS 16 w
  let ovr := decide (v ≠ w)
  (v, (s.raiseIf ovr AX.ADC_STATUS.OVR n).monAdd (monAdc n c) v ts ovr)
/-- The sampling trigger of an axis at `ts` (R82, R102): whether it is converted. -/
def State.trigOk (s : State) (n ts : Nat) : Bool :=
  (s.pw n).awake && (match (s.pw n).lastTrig with
    | some t => decide (t + 64 ≤ ts)
    | none => true)
/-- The three converters sample (R82 to R84): the phase currents the loop uses, in codes. -/
def State.sampleCurrents (s : State) (n ts : Nat) (ra rb rk : Int) : Int × Int × State :=
  let a := s.curSample n 0 ra ts
  let b := a.2.curSample n 1 rb ts
  let k := b.2.curSample n 2 rk ts
  let s := k.2.updPw n fun h => { h with lastTrig := some ts }
  let role := s.rd AX.ADC_HEALTH.ROLE_K n
  let x := ((s.pw n).periods + 1) % 2
  let ia := if role = 1 then k.1 else a.1
  let ib := if role = 2 then k.1 else b.1
  (ia, ib, if role = 0 then s.chkCompare n x (if x = 0 then a.1 else b.1) k.1 else s)
/-- A sampling trigger that is not converted (R82, R102). -/
def State.trigDrop (s : State) (n : Nat) : State :=
  (s.incWrap AX.ADC_STATUS.TRIG_DROP n).raiseIf (!(s.pw n).awake) AX.ADC_STATUS.WAKE_DROP n

/-- CONVERTER_WAKE_DONE (R102): 640 ticks after the event that woke it, a current converter set (`cur`) or a housekeeping converter is
ready; what was held starts. -/
def execConverterWakeDone (cur : Bool) (n : Fin 48) (s : State) : Host.Outcome State Fault Refusal :=
  if cur then
    match (s.pw n).wakeAt with
    | some t => if t + 640 ≤ s.dtime then .next (s.updPw n fun h => { h with awake := true, wakeAt := none }) else .next s
    | none => .next s
  else
    let k := n % 4
    match (s.hk k).wakeAt with
    | some t => if t + 640 ≤ s.dtime then .next ((s.updHk k fun h => { h with awake := true, wakeAt := none }).hkResume k s.dtime) else .next s
    | none => .next s
/-- The effect of a write of AX.ADC_CTRL (R102): with PD_AUTO = 0 the converters of an axis at rest start up, but never in AXIS_HOLD. -/
def State.fxAdcCtrl (s : State) (n v : Nat) : State × WErr :=
  let r := s.writeFields (AX.ADC_CTRL.PD_AUTO.addr n) v
  let s := r.1
  if s.axOn n then r
  else if s.flag AX.ADC_CTRL.PD_AUTO n || s.rd PWR.STATE.STATE != 0 then (s.updPw n fun h => { h with awake := false, wakeAt := none }, r.2)
  else (s.updPw n fun h => { h with wakeAt := if h.awake then none else some (h.wakeAt.getD s.dtime) }, r.2)

/-- RUN or AXIS_HOLD is entered (R102, R162): undervoltage is judged afresh; `cold` where the DC-bus converters and the comparators were powered down,
which start up; in RUN the current converters that PD_AUTO = 0 keeps powered start up. -/
def State.measEnter (s : State) (cold : Bool) : State :=
  let now := s.dtime
  let s := s.forEach (List.range 8) fun s b => s.updSg b fun h => { h with above := true }
  let s := if cold then { s with pwr := { s.pwr with measAt := now + 640 } } else s
  if s.rd PWR.STATE.STATE ≠ 0 then s else
  s.forEach axes fun s n => if s.flag AX.ADC_CTRL.PD_AUTO n || (s.pw n).awake then s else s.updPw n fun h => { h with wakeAt := some now }

/-! ### Phase-voltage DACs -/

/-- The hysteresis of a phase-voltage comparator in mV (R86). -/
def State.pvHys (s : State) (n : Nat) : Nat := [0, 4, 8, 16].getD (s.rd AX.PV_CFG.HYS n) 0
/-- The output of a phase's comparator, from its output so far and the three balls (R86): the phase minus the mean of the three against
TH ± HYS / 2. -/
def State.pvCompare (s : State) (n j : Nat) (was : Bool) (v : PhaseLevels) : Bool :=
  let d := 3 * [v.a, v.b, v.c].getD j 0 - (v.a + v.b + v.c)
  let th := 3000 * s.rdS AX.PV_DAC.TH n j
  let hy : Int := 1500 * s.pvHys n
  if was then decide (th - hy ≤ d) else decide (th + hy ≤ d)
/-- A DAC takes a threshold and settles for 64 ticks (R88). -/
def State.pvDac (s : State) (n j th : Nat) : State :=
  let s := s.wr AX.PV_DAC.TH th n j
  { s with pvSettle := Tab.put 0 s.pvSettle (n * 4 + j) (s.dtime + 64) }
/-- A comparator's output is held while its DAC settles (R88). -/
def State.pvHeld (s : State) (n j : Nat) : Bool := Tab.get 0 s.pvSettle (n * 4 + j) != 0
/-- The effect of a write of AX.PV_DAC_x (R88). -/
def State.fxPvDac (s : State) (n j v : Nat) : State × WErr :=
  if s.flag AX.PV_CFG.OWNER n then (s.raise AX.PV_STATUS.WR_REFUSED n, .ok) else (s.pvDac n j (bits v 9 0), .ok)
/-- PV_DAC_WRITE (R88): a write of AX.PV_DAC_A, _B or _C. -/
def execPvDacWrite (m : Fin 64) (n : Fin 48) (j : Fin 3) (v : Word) (s : State) : Host.Outcome State Fault Refusal :=
  .next (s.busWriteWith m (AX.PV_DAC.TH.addr n j) false fun s => s.fxPvDac n j v.toNat)
/-- The commutation logic writes a DAC, where it owns the DACs (R88). -/
def State.pvOwn (s : State) (n j th : Nat) : State := if s.flag AX.PV_CFG.OWNER n then s.pvDac n j th else s

/-! ### Self-calibration -/

/-- Calibration of the current class skips axes that run (R103). -/
def State.calSkipAx (s : State) (sel skAx : Nat) : State :=
  if bit sel 0 then s.forEach axes fun s n => s.raiseIf (bit skAx n) AX.ADC_STATUS.CAL_SKIP n else s
/-- Calibration of the DC-bus class skips segments whose axes run; the others deliver no sample, and their choppers follow the comparators
(R103, R162). -/
def State.calSkipSeg (s : State) (skSeg : Nat) : State :=
  s.forEach (List.range 8) fun s b =>
    if bit skSeg b then s.wrBit MF.CAL_STATUS.DCB_SKIP b true else (s.raise BUS.STATUS.NO_SAMPLE b).gateByOv b
/-- The effect of a write of MF.CAL_CMD (R103): its fields take the value; a START without firmware in RUNNING starts nothing (R385). -/
def State.fxCalCmd (s : State) (v : Nat) : State × WErr :=
  if s.flag MF.CAL_STATUS.BUSY then (s.raise MF.CAL_STATUS.CAL_REFUSED, .ok)
  else
    let r := s.writeFields MF.CAL_CMD.START.base v
    if !(bit v 0) || s.rd SUP.FW_STATUS.STATE != 3 then r else
    let s := r.1
    let sel := bits (s.reg MF.CAL_CMD.START.base).toNat 4 1
    let skAx := axes.foldl (fun m n => setBit m n (s.axOn n)) 0
    let skSeg := (List.range 8).foldl (fun m b => setBit m b ((s.segAxes b).any fun n => s.axOn n)) 0
    let s := (s.raise MF.CAL_STATUS.BUSY)
    let s := { s with cal := some { sel := sel, start := s.dtime, skipAx := skAx, skipSeg := skSeg } }
    ((if bit sel 1 then (s.calSkipAx sel skAx).calSkipSeg skSeg else s.calSkipAx sel skAx), r.2)
/-- The classes of R104: 0 current, 1 DC bus, 2 vibration, 3 housekeeping. -/
def calClass (i : Nat) : Nat := if i < 8 then 1 else if i < 40 then 2 else if i < 44 then 3 else 0
/-- A new factor pair lies within its class's limits (R104). -/
def calInLimit (i : Nat) (ofs gain : Int) : Bool :=
  let c := calClass i
  let lo : Int := if c = 2 then 1048576 else if c = 3 then 512 else 8192
  let lg : Int := if c = 2 then 32212255 else 21474836
  decide (absI ofs ≤ lo) && decide (absI gain ≤ lg)
/-- Converter `i` (R356's numbering) was calibrated by `c`. -/
def calSelected (c : CalH) (i : Nat) : Bool :=
  bit c.sel (calClass i) && (if i < 8 then !(bit c.skipSeg i) else if 64 ≤ i ∧ i < 208 then !(bit c.skipAx ((i - 64) / 3)) else i < 44)
/-- One converter's new factors are checked and stored (R104). A calibration within the limits clears CAL_ERR again (the model's choice: the spec says
when it is set and not when it clears; assumption log 26). -/
def State.calStore (s : State) (i : Nat) (ofs gain : Int) : State :=
  let ok := calInLimit i ofs gain
  if i < 44 then
    let s := if ok then (s.wrS MF.CAL_OFS.OFS ofs 0 i).wrS MF.CAL_GAIN.GAIN gain 0 i else s
    if i < 8 then s.put MF.DCB_STATUS.CAL_ERR (!ok) i else if i < 40 then s.put MF.VIB_STATUS.CAL_ERR (!ok) (i - 8) else s
  else
    let n := (i - 64) / 3
    let c := (i - 64) % 3
    let s := if ok then (s.wrS AX.CAL_OFS.OFS ofs n c).wrS AX.CAL_GAIN.GAIN gain n c else s
    let s := s.wrBit AX.ADC_HEALTH.CAL_ERR c (!ok) n
    if ok then s else s.convFail n c 1
/-- CAL_CMD_START (R103): a write of MF.CAL_CMD with START = 1. -/
def execCalCmdStart (m : Fin 64) (v : Word) (s : State) : Host.Outcome State Fault Refusal :=
  .next (s.busWriteWith m MF.CAL_CMD.START.base true fun s => s.fxCalCmd (setBit v.toNat 0 true))
/-- A reference buffer differs from the independent bandgap by more than 0.5 % of it (R103). -/
def refBad (r : RefCheck) : Bool := r.buffers.any fun b => decide ((r.bandgap : Int) * 5 < absI ((b : Int) - r.bandgap) * 1000)
/-- CAL_COMPLETE (R103, R104): the calibration ends: the factors measured, by converter number, are checked and stored, or, where the
reference failed its check, all factors are kept. Vibration channels restart and housekeeping sequencers resume. -/
def execCalComplete (ref : RefCheck) (factors : List (Nat × Int × Int)) (s : State) : Host.Outcome State Fault Refusal :=
  match s.cal with
  | none => .next s
  | some c =>
    let refErr := refBad ref
    let s := { s with cal := none }
    let s := if refErr then s.raise MF.CAL_STATUS.REF_ERR
      else (s.forEach (factors.filter fun f => calSelected c f.1) fun s f => s.calStore f.1 f.2.1 f.2.2).raise MF.CAL_STATUS.DONE
    let s := if bit c.sel 2 then s.forEach (List.range 32) fun s v => if s.flag MF.VIB_CFG.PD v then s else s.vibRestart v s.dtime else s
    let s := if bit c.sel 3 then s.forEach (List.range 4) fun s k => s.hkResume k s.dtime else s
    let s := s.forEach (List.range 8) fun s b => s.clear BUS.STATUS.NO_SAMPLE b
    let s := (s.clear MF.CAL_STATUS.BUSY).mbSettle 0x0020 (2 * b2n refErr) fun _ => true
    if refErr then .next s
    else
      let s := s.wr MF.CAL_TIME s.dtime
      .next (s.emit 0x0212 srcModule (le 4 (s.reg MF.CAL_STATUS.BUSY.base).toNat))

end Sys2Proof.Machine
end

