-- ==== Sys2Proof/Machine/Trig.lean ====
section
/-!
DEFINITION. The fixed procedures whose error the spec bounds and whose bits it does not give: sine and cosine (R112), atan2 (R167), TANH
and SIGMOID of the lanes (R171). Each is a free value held inside the bound the spec states, or the one value inside it.
-/
namespace Sys2Proof.Machine

/-- One in the fixed point of the reference values below. -/
def refOne : Int := 2 ^ 60
/-- Sum of the first 14 terms of a series: each term is the one before times `step`, divided by `d k`. -/
def refSeries (x0 x2 : Int) (d : Nat → Int) : Int :=
  ((List.range 14).foldl (fun (p : Int × Int) k => let t := rneShr (p.1 * x2) 60 / d k; (t, p.2 + t)) (x0, x0)).2
/-- An angle of less than a quarter revolution, in units of 2^−24 revolutions, in radians. -/
def refRad (r : Nat) : Int := (r : Int) * 7244019458077122842 / 2 ^ 24
/-- Sine and cosine of an angle of less than a quarter revolution. -/
def refSinQuarter (r : Nat) : Int :=
  let x := refRad r
  refSeries x (-(rneShr (x * x) 60)) fun k => ((2 * k + 2) * (2 * k + 3) : Nat)
def refCosQuarter (r : Nat) : Int :=
  let x := refRad r
  refSeries refOne (-(rneShr (x * x) 60)) fun k => ((2 * k + 1) * (2 * k + 2) : Nat)
/-- Sine of a 24-bit angle. -/
def refSin (a : Nat) : Int :=
  let r := a % 2 ^ 22
  match a / 2 ^ 22 % 4 with
  | 0 => refSinQuarter r
  | 1 => refCosQuarter r
  | 2 => -refSinQuarter r
  | _ => -refCosQuarter r
/-- A free value held within 3 × 10^−8 of full scale of a reference value, in Q1.31 (R112). -/
def nearQ31 (ref v : Int) : Int :=
  let t : Int := 34587645138 + 65536
  satS 32 (clampI (-((t - ref) / 2 ^ 29)) ((ref + t) / 2 ^ 29) v)
/-- Sine and cosine of a 24-bit angle in Q1.31 (R112). -/
def sinQ (a : Nat) : Int := nearQ31 (refSin (a % 2 ^ 24)) (Config.sin (a % 2 ^ 24))
def cosQ (a : Nat) : Int := nearQ31 (refSin ((a + 2 ^ 22) % 2 ^ 24)) (Config.cos (a % 2 ^ 24))

/-- How far the vector (x, y) of the first quadrant lies beyond the angle `r`: the cross product. -/
def refCross (y x : Int) (r : Nat) : Int := y * refCosQuarter r - x * refSinQuarter r
/-- The largest angle of less than a quarter revolution that (x, y) of the first quadrant reaches, found bit by bit. -/
def refAngle (y x : Int) : Nat :=
  (List.range 22).foldl (fun a i => let b := a + 2 ^ (21 - i); if -(2 ^ 24) ≤ refCross y x b then b else a) 0
/-- The angle of a vector, y before x, as a 24-bit fraction of a revolution (R167): a free value within 2 units of 2^−24 revolutions. The
spec states no angle for the zero vector. -/
def atan2Q (y x : Int) : Nat :=
  if y = 0 ∧ x = 0 then Config.atan2 y x % 2 ^ 24 else
  let q : Nat × Int × Int :=
    if 0 < x ∧ 0 ≤ y then (0, y, x) else if x ≤ 0 ∧ 0 < y then (1, -x, y) else if x < 0 then (2, -y, -x) else (3, x, -y)
  let r := refAngle q.2.1 q.2.2
  let lo := if refCross q.2.1 q.2.2 r ≤ 2 ^ 24 then 2 else 1
  (q.1 * 2 ^ 22 + r + 2 ^ 24 - lo + Config.atan2 y x % (lo + 3)) % 2 ^ 24

/-- e^x for 0 ≤ x ≤ 2. -/
def refExp (x : Int) : Int :=
  ((List.range 40).foldl (fun (p : Int × Int) k => let t := rneShr (p.1 * x) 60 / ((k + 1 : Nat) : Int); (t, p.2 + t)) (refOne, refOne)).2
/-- tanh of a magnitude `x`, in codes, to nearest. -/
def tanhNear (x : Int) : Int :=
  let e := refExp x
  ((e - refOne) * 65536 / (e + refOne) + 1) / 2
/-- TANH of a Q1.15 code (R171): the code at most 0.5 code from the true value. -/
def tanhQ (z : Int) : Int := if z < 0 then -(tanhNear (-z * 2 ^ 46)) else tanhNear (z * 2 ^ 46)
/-- SIGMOID of a Q1.15 code (R171): the code of [0, 1) at most 0.5 code from σ(2z), as the table's formula reads, or from σ(z), whose Lipschitz
constant is the 1/4 of its next column; which of the two is open. -/
def sigmoidQ (z : Int) : Int :=
  let k : Int := if Config.sigmoidDouble then 2 ^ 46 else 2 ^ 45
  let e := refExp ((if z < 0 then -z else z) * k)
  let up := (e * 65536 / (e + refOne) + 1) / 2
  clampI 0 32767 (if z < 0 then 32768 - up else up)

end Sys2Proof.Machine
end

