-- ==== Sys2Proof/Machine/Observer.lean ====
section
/-!
DEFINITION. Network images, their admission and evaluation, the lanes and their plan, Pewter, and the classical model observer (R167 to
R185, R190).
-/
namespace Sys2Proof.Machine

/-- The observers' state of an axis beside the registers, and how it changes. -/
def State.ob (s : State) (n : Nat) : ObsH := Tab.get {} s.obss n
def State.updOb (s : State) (n : Nat) (f : ObsH → ObsH) : State := { s with obss := Tab.put {} s.obss n (f (s.ob n)) }
/-- The network of an axis and kind that the loader holds. -/
def State.net (s : State) (n k : Nat) : Option NetDef := Tab.get none s.nets (n * 4 + k)

/-! ### Evaluation (R169 to R171) -/

/-- An activation, the same on both paths (R171). -/
def actOf (act : Nat) (z : Int) : Int :=
  match act with
  | 0 => z
  | 1 => maxI z 0
  | 2 => if 0 ≤ z then z else rne z 8
  | 3 => tanhQ z
  | _ => sigmoidQ z
/-- One output of a layer (R170). -/
def neuron (l : LayerDef) (a : List Int) (row : List Int) (bias : Int) : Int :=
  actOf l.act (satS 16 (rneShr ((row.zip a).foldl (fun t x => t + x.1 * x.2) bias) l.shift))
/-- One layer. -/
def LayerDef.eval (l : LayerDef) (a : List Int) : List Int :=
  (l.weights.zip l.biases).map fun rb => neuron l a rb.1 rb.2
/-- The outputs of a network for an input vector, as a lane or a Pewter lane without a defect computes them. -/
def NetDef.eval (d : NetDef) (x : List Int) : List Int := d.layers.foldl (fun a l => l.eval a) x
/-- Clocks of a job on an observer lane (R178) and of a check on a Pewter lane (R183). -/
def NetDef.cost (d : NetDef) : Nat := d.layers.foldl (fun c l => c + ceilDiv (l.nIn * l.nOut) 64 + 2) 8
def NetDef.pcost (d : NetDef) : Nat := d.layers.foldl (fun c l => c + ceilDiv (l.nIn * l.nOut) 256 + 1) 4

/-- A quotient to nearest, ties to even; by 0 its value is open. -/
def divQ (a b : Int) : Int := if b = 0 then Config.divByZero a else rne a b
/-- Rounded product of two fixed-point numbers with `f` fraction bits in the second. -/
def mulQ (f : Nat) (a b : Int) : Int := rneShr (a * b) f
/-- Bits [31:16] of a Q1.31 number. -/
def hi16 (x : Int) : Int := toS 16 (ofS 32 x / 65536)
/-- The source value of an input entry, as S16 before SHIFT (R169). After a reset of the correction stage no crossing is accepted yet: the age reads its
largest value 32,767, and ε is still that of the last accepted crossing (the model's choice: R137 and R138 name neither; assumption log 33). -/
def State.obsSource (s : State) (n ts : Nat) (ia ib : Int) (bus : Nat) (w : Nat) : Int :=
  let p := bits w 31 16
  let f := s.fo n
  let c := s.cm n
  let o := s.ob n
  match bits w 5 0 with
  | 0 => toS 16 p
  | 1 => hi16 ia
  | 2 => hi16 ib
  | 3 => hi16 f.ualpha
  | 4 => hi16 f.ubeta
  | 5 => bus / 2
  | 6 => hi16 (sinQ (ofS 24 c.theta))
  | 7 => hi16 (cosQ (ofS 24 c.theta))
  | 8 => hi16 (satS 32 (c.omega * 2 ^ (p % 32)))
  | 9 => satS 16 (c.lastEps / 16)
  | 10 => match c.lastAcc with
    | some t => ((min ((ts - t) / 2 ^ (p % 32)) 32767 : Nat) : Int)
    | none => 32767
  | 11 => hi16 f.id
  | 12 => hi16 f.iq
  | 13 => ((s.rd HK.RESULT.VALUE (bits p 7 6) (bits p 5 0) / 2 : Nat) : Int)
  | 14 => hi16 (sinQ (ofS 24 o.thC))
  | 15 => hi16 (cosQ (ofS 24 o.thC))
  | 16 => hi16 (satS 32 (o.omC * 2 ^ (p % 32)))
  | 17 => hi16 (satS 32 (rneShr (f.id * f.id + f.iq * f.iq) 31))
  | 18 => if p = 0 then o.tW else o.tB
  | 19 => o.load
  | _ => 0
/-- An input value: the source × 2^SHIFT, saturated to S16; SHIFT is ignored for a constant. -/
def State.obsInput (s : State) (n ts : Nat) (ia ib : Int) (bus : Nat) (w : Nat) : Int :=
  let v := s.obsSource n ts ia ib bus w
  if bits w 5 0 = 0 then v else satS 16 (v * 2 ^ bits w 9 6)

/-! ### Admission (R168, R172, R173) -/

/-- Where axis-fabric memory lies and how large it is (R279). -/
def axfBase : Nat := 0x1300000000
def axfSize : Nat := 0x800000
/-- A layer of an image with its weight and bias places. -/
def layerOf (img : List Nat) (at_ : Nat) : LayerDef × Nat × Nat :=
  let wofs := fieldLE img (at_ + 8) 4
  let bofs := fieldLE img (at_ + 12) 4
  let nIn := fieldLE img at_ 1
  let nOut := fieldLE img (at_ + 1) 1
  let wide := fieldLE img (at_ + 2) 1 == 1
  let ws := if wide then 2 else 1
  let weights := (List.range nOut).map fun j => (List.range nIn).map fun i => toS (8 * ws) (fieldLE img (wofs + (j * nIn + i) * ws) ws)
  let biases := (List.range nOut).map fun j => toS 32 (fieldLE img (bofs + 4 * j) 4)
  ({ nIn := nIn, nOut := nOut, wide := wide, act := fieldLE img (at_ + 3) 1, shift := fieldLE img (at_ + 4) 1, weights := weights, biases := biases },
    wofs, bofs)
/-- A rounded-up Q16.16 quotient by 2^k. -/
def upShr (x k : Nat) : Nat := (x + 2 ^ k - 1) / 2 ^ k
/-- F_l of a layer in Q16.16, rounded up (R173). -/
def layerBound (l : LayerDef) : Nat :=
  let sl := l.weights.foldl (fun m row => max m (row.foldl (fun t w => t + w.natAbs) 0)) 0
  upShr (sl * 65536) (l.shift + if l.act = 4 then 2 else 0)
/-- The product of bounds, each partial product rounded up to Q16.16 (R173). -/
def boundProd (fs : List Nat) : Nat := fs.foldl (fun p f => upShr (p * f) 16) 65536
/-- Some partial product overflows Q16.16. -/
def boundOver (fs : List Nat) : Bool := (fs.foldl (fun (a : Nat × Bool) f => (upShr (a.1 * f) 16, a.2 || decide (2 ^ 32 ≤ upShr (a.1 * f) 16))) (65536, false)).2
/-- E: the sum over layers of the product of the bounds that follow (R173). -/
def boundErr : List Nat → Nat
  | [] => 0
  | _ :: fs => boundProd fs + boundErr fs
/-- Two byte ranges overlap. -/
def overlap (a b : Nat × Nat) : Bool := decide (a.1 < b.1 + b.2 ∧ b.1 < a.1 + a.2)
/-- Some two of a list of ranges overlap. -/
def anyOverlap : List (Nat × Nat) → Bool
  | [] => false
  | r :: t => t.any (overlap r) || anyOverlap t

/-- The result of an admission: the code of R172, L, E, USER_TAG and the network. -/
structure Admit where
  code : Nat := 0
  lip : Nat := 0
  err : Nat := 0
  tag : Nat := 0
  net : NetDef := {}
  /-- The bytes from the image's start whose reading failed. -/
  unread : Nat := 0
  deriving DecidableEq, Repr

/-! ### The plan (R179, R181, R184) -/

/-- A network in the plan: axis, kind, C, C_P, its state (1 FOREGROUND, 2 BACKGROUND, 3 OFF), its PRIO, whether its check is dropped. -/
structure PlanNet where
  axis : Nat
  kind : Nat
  c : Nat
  cp : Nat
  st : Nat
  prio : Nat
  drop : Bool := false
  deriving DecidableEq, Repr

/-- The two conditions of R179 for sums and a largest cost over `m` usable lanes. -/
def planCond (m sumF sumB cmax : Nat) : Bool :=
  if sumF + sumB = 0 then true else decide (1 < m) && decide (ceilDiv sumF (m - 1) + cmax ≤ 416) && decide (ceilDiv (2 * sumF + sumB) (m - 1) + cmax ≤ 6400)
/-- The first condition alone. -/
def planFirst (m sumF cmax : Nat) : Bool := if sumF = 0 then true else decide (1 < m) && decide (ceilDiv sumF (m - 1) + cmax ≤ 416)
/-- Sums over the networks of a state. -/
def sumC (l : List PlanNet) (st : Nat) : Nat := l.foldl (fun t p => if p.st = st then t + p.c else t) 0
/-- C_max: the largest among the FOREGROUND networks (R179). -/
def maxC (l : List PlanNet) : Nat := l.foldl (fun t p => if p.st = 1 then max t p.c else t) 0
/-- The observer plan holds over `m` lanes. -/
def obsPlanOk (m : Nat) (l : List PlanNet) : Bool := planCond m (sumC l 1) (sumC l 2) (maxC l)
/-- Pewter's sums (R184): by axis the position check plus the larger of the FOREGROUND temperature and load checks. -/
def pewSumF (l : List PlanNet) : Nat :=
  axes.foldl (fun t n =>
    let mine := l.filter fun p => p.axis == n && p.st == 1 && !p.drop
    t + mine.foldl (fun t p => if p.kind = 0 then t + p.cp else t) 0 + mine.foldl (fun t p => if p.kind = 0 then t else max t p.cp) 0) 0
def pewSumB (l : List PlanNet) : Nat := l.foldl (fun t p => if p.st = 2 ∧ p.drop = false then t + p.cp else t) 0
def pewMax (l : List PlanNet) : Nat := l.foldl (fun t p => if p.st = 1 ∧ p.drop = false then max t p.cp else t) 0
/-- The Pewter plan holds over `m` lanes. -/
def pewPlanOk (m : Nat) (l : List PlanNet) : Bool := planCond m (pewSumF l) (pewSumB l) (pewMax l)
/-- The order in which step 2 gives networks up: highest PRIO value, then highest axis, then load before temperature. -/
def givesUp (p q : PlanNet) : Bool :=
  decide (q.prio < p.prio) || (p.prio == q.prio && (decide (q.axis < p.axis) || (p.axis == q.axis && decide (q.kind < p.kind))))
/-- The first to be given up among those that satisfy a test. -/
def firstUp (l : List PlanNet) (ok : PlanNet → Bool) : Option PlanNet :=
  (l.filter ok).foldl (fun b p => match b with
    | none => some p
    | some q => if givesUp p q then some p else some q) none
/-- A change to one network of a plan. -/
def planSet (l : List PlanNet) (q : PlanNet) (f : PlanNet → PlanNet) : List PlanNet :=
  l.map fun p => if p.axis = q.axis ∧ p.kind = q.kind then f p else p
/-- The highest-numbered axis whose position network runs. -/
def topPosition (l : List PlanNet) : Option PlanNet :=
  (l.filter fun p => p.kind == 0 && p.st == 1).foldl (fun b p => match b with
    | none => some p
    | some q => if q.axis < p.axis then some p else some q) none
/-- The position network of an axis is OFF (R181, step 3). -/
def axisOffPlan (l : List PlanNet) (n : Nat) : List PlanNet := l.map fun p => if p.axis = n ∧ p.kind = 0 then { p with st := 3 } else p
/-- Steps 2 and 3 of R181, one network a round. -/
def planRounds (m : Nat) : Nat → List PlanNet → List PlanNet
  | 0, l => l
  | f + 1, l =>
    if obsPlanOk m l then l else
    match firstUp l fun p => p.kind != 0 && p.st == 1 with
    | some q => planRounds m f (planSet l q fun p => { p with st := 2 })
    | none =>
      match topPosition l with
      | some q => planRounds m f (axisOffPlan l q.axis)
      | none => l
/-- The Pewter plan (R184): checks are dropped in the same order; if the position checks alone do not fit, step 3 applies. -/
def pewRounds (m : Nat) : Nat → List PlanNet → List PlanNet
  | 0, l => l
  | f + 1, l =>
    if pewPlanOk m l then l else
    match firstUp l fun p => p.kind != 0 && (p.st == 1 || p.st == 2) && !p.drop with
    | some q => pewRounds m f (planSet l q fun p => { p with drop := true })
    | none =>
      match topPosition l with
      | some q => pewRounds m f (axisOffPlan l q.axis)
      | none => l

/-- The networks held by the loader, each FOREGROUND unless its axis is in CLASSICAL mode (R181, step 1). -/
def State.planNets (s : State) (ignoreMode : Bool) : List PlanNet :=
  axes.flatMap fun n => (List.range 3).filterMap fun k =>
    match s.net n k with
    | none => none
    | some d =>
      some { axis := n, kind := k, c := d.cost, cp := d.pcost, st := if s.flag AX.OBS_STATUS.MODE n && !ignoreMode then 3 else 1,
             prio := if k = 1 then s.rd AX.OBS_CFG.PRIO_T n else if k = 2 then s.rd AX.OBS_CFG.PRIO_L n else 0 }
/-- The plan is recomputed (R181, R182, R184): states, registers, one record per network that goes BACKGROUND or OFF; an axis whose position
network is set OFF enters CLASSICAL mode; what a network that is no longer BACKGROUND has ready is delivered no more (R186). -/
def State.obsReplan (s : State) : State :=
  let m := popCount 12 (s.rd OBS.LANES.USABLE)
  let mp := popCount 4 (s.rd OBS.LANES.P_USABLE)
  let l := pewRounds mp 256 (planRounds m 256 (s.planNets false))
  let s := s.forEach axes fun s n => ((s.wr AX.OBS_STATUS.BG 0 n).wr AX.OBS_STATUS.UNCHECKED 0 n).wr AX.OBS_STATUS.PRESENT 0 n
  let s := s.forEach l fun s p =>
    let old := (s.ob p.axis).state.getD p.kind 0
    let s := s.updOb p.axis fun h => { h with state := h.state.set p.kind p.st }
    let s := s.wrBit AX.OBS_STATUS.PRESENT p.kind true p.axis
    let s := s.wrBit AX.OBS_STATUS.BG p.kind (p.st == 2) p.axis
    let s := s.wrBit AX.OBS_STATUS.UNCHECKED p.kind p.drop p.axis
    let s := if p.drop then s.raise OBS.STATUS.UNCHECKED else s
    let s := if p.st = 2 ∧ old ≠ 2 then (s.raise OBS.STATUS.DEMOTE).emit 0x0505 (srcAxis p.axis) [p.kind, 1] else s
    if p.kind = 0 ∧ p.st = 3 ∧ s.flag AX.OBS_STATUS.MODE p.axis = false then
      ((s.raise AX.OBS_STATUS.MODE p.axis).raise OBS.STATUS.CLS_FORCED).emit 0x0505 (srcAxis p.axis) [0, 2]
    else s
  let s := s.forEach axes fun s n =>
    if (s.ob n).ready.isEmpty then s else s.updOb n fun h => { h with ready := h.ready.filter fun e => h.state.getD e.kind 0 == 2 && (s.net n e.kind).isSome }
  let s := ((s.wr OBS.PLAN.SUM (sumC l 1)).wr OBS.PLAN.CMAX (maxC l)).wr OBS.PLAN.COUNT (l.filter fun p => p.st == 2).length
  ((s.wr OBS.PPLAN.SUM (pewSumF l)).wr OBS.PPLAN.CMAX (pewMax l)).wr OBS.PPLAN.COUNT (l.filter (·.drop)).length

/-- The loader's reading of `n` bytes at an offset of axis-fabric memory, under master 0x19 (R284, R290), with what the read leaves behind and
whether it delivered the data. -/
def State.axfRead (s : State) (addr n : Nat) : State × Bool :=
  match s.masterRead 0x19 (axfBase + addr) n with
  | (s, .ok _) => (s, true)
  | (s, _) => (s, false)
/-- The checks of R172 in order for the image of `axis` and `kind` at `addr`; the setting of interfaces is the one of the last firmware start (R347). -/
def State.admitCheck (s : State) (axis kind addr : Nat) : Admit :=
  let base := axfBase + addr
  if addr % 64 = 0 ∧ addr + 64 ≤ axfSize ∧ (s.axfRead addr 64).2 = false then { code := 10, unread := 64 } else
  let hdr := s.readMem base 64
  let len := fieldLE hdr 8 4
  if addr % 64 ≠ 0 ∨ axfSize < addr + 64 ∨ axfSize < addr + len then { code := 1 } else
  let tag := fieldLE hdr 0x14 4
  if 48 ≤ axis then { code := 2, tag := tag } else
  if fieldLE hdr 0 2 ≠ 1 ∨ (fieldLE hdr 2 2 ≠ 0 ∧ s.sup.policy = false) ∨ fieldLE hdr 0x10 4 ≠ 0 then { code := 3, tag := tag } else
  let kd := fieldLE hdr 4 1
  if 2 < kd ∨ kd ≠ kind then { code := 4, tag := tag } else
  let nl := fieldLE hdr 5 1
  let ni := fieldLE hdr 6 1
  let no := fieldLE hdr 7 1
  let size := min (max len 64) 65536
  if (s.axfRead addr size).2 = false then { code := 10, tag := tag, unread := size } else
  let img := s.readMem base size
  let lofs := 0x40 + 4 * ni
  let ls := (List.range (min nl 6)).map fun i => layerOf img (lofs + 16 * i)
  let chain := (ls.zip (ls.drop 1)).all fun p => p.1.1.nOut == p.2.1.nIn
  let okNo := if kd = 0 then no == 3 else if kd = 1 then no == 1 || no == 2 else no == 1
  let shapeOk := decide (1 ≤ nl ∧ nl ≤ 6 ∧ 1 ≤ ni ∧ ni ≤ 64) && ls.all (fun l => decide (1 ≤ l.1.nIn ∧ l.1.nIn ≤ 64 ∧ 1 ≤ l.1.nOut ∧ l.1.nOut ≤ 64))
    && (ls.head?.map fun l => l.1.nIn == ni).getD false && chain && (ls.getLast?.map fun l => l.1.nOut == no).getD false && okNo
  if !shapeOk then { code := 5, tag := tag } else
  if 8192 < ls.foldl (fun t l => t + l.1.nIn * l.1.nOut) 0 ∨ 65536 < len ∨ len % 4 ≠ 0 then { code := 6, tag := tag } else
  let wsz (l : LayerDef) : Nat := if l.wide then 2 else 1
  let blocks := ls.flatMap fun l => [(l.2.1, l.1.nIn * l.1.nOut * wsz l.1), (l.2.2, 4 * l.1.nOut)]
  let misal := ls.any fun l => l.2.1 % wsz l.1 != 0 || l.2.2 % 4 != 0
  if misal ∨ blocks.any (fun b => decide (len < b.1 + b.2)) ∨ anyOverlap ((0, lofs + 16 * nl) :: blocks) then { code := 7, tag := tag } else
  let ins := (List.range ni).map fun i => fieldLE img (0x40 + 4 * i) 4
  if ins.any (fun w => decide (20 ≤ bits w 5 0) || (bits w 5 0 == 13 && decide (256 ≤ bits w 31 16))) then { code := 8, tag := tag } else
  let resv := ins.any (fun w => bits w 15 10 != 0) || fieldLE img 0x18 8 != 0
    || (List.range nl).any fun i => fieldLE img (lofs + 16 * i + 5) 3 != 0 || decide (1 < fieldLE img (lofs + 16 * i + 2) 1)
  if resv ∨ ls.any (fun l => decide (4 < l.1.act) || decide (31 < l.1.shift)) then { code := 9, tag := tag } else
  if sha3 (img.take 0x20 ++ List.replicate 32 0 ++ img.drop 0x40) ≠ slice img 0x20 32 then { code := 10, tag := tag } else
  let fs := ls.map fun l => layerBound l.1
  let isBeyond := boundOver fs
  let lip := if isBeyond then 0xFFFFFFFF else boundProd fs
  let err := boundErr fs
  let claim := fieldLE hdr 0x0C 4
  if isBeyond ∨ claim < lip then { code := 11, lip := lip, err := err, tag := tag } else
  if s.rd OBS.LIP_LIM.LIM 0 kd < claim then { code := 12, lip := lip, err := err, tag := tag } else
  let d : NetDef := { kind := kd, nOut := no, inputs := ins, layers := ls.map (·.1), tag := tag }
  let l := ({ s with nets := Tab.put none s.nets (axis * 4 + kd) (some d) }).planNets true
  let pos := l.filter fun p => p.kind == 0
  if !(obsPlanOk 12 l) ∨ !(planFirst 11 (sumC pos 1) (maxC pos)) then { code := 13, lip := lip, err := err, tag := tag } else
  if !(pewPlanOk 4 l) ∨ !(planFirst 3 (pewSumF pos) (pewMax pos)) then { code := 14, lip := lip, err := err, tag := tag } else
  { code := 0, lip := lip, err := err, tag := tag, net := d }

/-- A load starts, from a register write or the mailbox (R172). -/
def State.obsLoadStart (s : State) (axis kind addr : Nat) : State :=
  if s.flag OBS.LOAD_STATUS.BUSY then s else { s with obsLoad := some (axis, kind, addr) }.raise OBS.LOAD_STATUS.BUSY
/-- A removal starts (R175). -/
def State.obsRemoveStart (s : State) (axis kind : Nat) : State := { s with obsRemove := s.obsRemove ++ [(axis, kind)] }
/-- The effect of a write of OBS.LOAD_CMD (R172, R175). An AXIS above 47 is a reserved encoding that leaves the field. -/
def State.fxLoadCmd (s : State) (v : Nat) : State × WErr :=
  if s.flag OBS.LOAD_STATUS.BUSY && bit v 0 then (s, .ok) else
  let r := s.writeFields OBS.LOAD_CMD.GO.base v
  let s := r.1
  let axis := if 48 ≤ bits v 9 4 then bits v 9 4 else s.rd OBS.LOAD_CMD.AXIS
  let s := if bit v 0 then s.obsLoadStart axis (s.rd OBS.LOAD_CMD.KIND) (s.rd OBS.LOAD_ADDR.ADDR) else s
  (if bit v 1 then s.obsRemoveStart axis (s.rd OBS.LOAD_CMD.KIND) else s, r.2)
/-- OBS_LOAD_GO (R172): a write of OBS.LOAD_CMD with GO = 1. -/
def execObsLoadGo (m : Fin 64) (v : Word) (s : State) : Host.Outcome State Fault Refusal :=
  .next (s.busWriteWith m OBS.LOAD_CMD.GO.base true fun s => s.fxLoadCmd (setBit v.toNat 0 true))
/-- LOAD_CMD_REMOVE (R175): a write of OBS.LOAD_CMD with REMOVE = 1. -/
def execLoadCmdRemove (m : Fin 64) (v : Word) (s : State) : Host.Outcome State Fault Refusal :=
  .next (s.busWriteWith m OBS.LOAD_CMD.GO.base true fun s => s.fxLoadCmd (setBit v.toNat 1 true))
/-- The loader finishes the load in progress (R172, R173, R175, R181): the answer is the code. -/
def State.obsLoadFinish (s : State) : State × Nat :=
  match s.obsLoad with
  | none => (s, 0)
  | some (axis, kind, addr) =>
    let a := s.admitCheck axis kind addr
    let s := if a.unread = 0 then s else (s.axfRead addr a.unread).1
    let s := (({ s with obsLoad := none }).clear OBS.LOAD_STATUS.BUSY).mbSettle 0x0030 a.code fun p => fieldLE p 0 1 == axis && fieldLE p 1 1 == kind
    let s := s.wr OBS.LOAD_STATUS.CODE a.code
    let s := if a.code = 0 ∨ 11 ≤ a.code then (s.wr OBS.ADM_LIP.VALUE a.lip).wr OBS.ADM_ERRB.VALUE (satU 32 a.err) else s
    let s := s.emit 0x0501 (srcAxis axis) ([kind, a.code, 0, 0] ++ le 4 a.tag ++ le 4 a.lip)
    if a.code = 0 then
      (({ s with nets := Tab.put none s.nets (axis * 4 + kind) (some a.net) }).raise OBS.LOAD_STATUS.DONE |>.obsReplan, 0)
    else (s.raise OBS.LOAD_STATUS.REFUSED, a.code)
/-- The removal asked for first finishes (R175, R181). -/
def State.obsRemoveFinish (s : State) : State :=
  match s.obsRemove with
  | [] => s
  | (axis, kind) :: rest =>
    let s := { s with obsRemove := rest, nets := Tab.put none s.nets (axis * 4 + kind) none }.mbSettle 0x0031 0 fun p =>
      fieldLE p 0 1 == axis && fieldLE p 1 1 == kind
    (s.updOb axis fun h => { h with state := h.state.set kind 0 }).obsReplan

/-! ### Lanes (R178, R183) -/

/-- The job in lane `i` (12 to 15 are Pewter lanes). -/
def State.laneJob (s : State) (i : Nat) : Option (JobH × Nat) := Tab.get none s.lanes i
/-- A lane takes jobs: usable, not under test, without a job. -/
def State.laneFree (s : State) (i : Nat) : Bool :=
  (s.laneJob i).isNone && (if i < 12 then s.rdBit OBS.LANES.USABLE i && !(s.rdBit OBS.LANES.TEST i)
    else s.rdBit OBS.LANES.P_USABLE (i - 12) && !(s.rdBit OBS.LANES.P_TEST (i - 12)))
/-- The order of waiting jobs (R178): FOREGROUND first, then the earlier release, the lower axis, the lower kind. -/
def jobBefore (a b : JobH) : Bool :=
  if a.fg ≠ b.fg then a.fg else decide (a.rel < b.rel) || (a.rel == b.rel && (decide (a.axis < b.axis) || (a.axis == b.axis && decide (a.kind < b.kind))))
/-- The job to be taken next. -/
def nextJob (l : List JobH) : Option JobH :=
  l.foldl (fun b j => match b with
    | none => some j
    | some q => if jobBefore j q then some j else some q) none
/-- Lane `i` takes the next of the jobs that are released, if it is free. -/
def State.laneTake (s : State) (i : Nat) : State :=
  if !(s.laneFree i) then s else
  let q := if i < 12 then s.jobs else s.pjobs
  match nextJob (q.filter fun j => decide (j.rel ≤ s.dtime)) with
  | none => s
  | some j =>
    let rest := q.erase j
    let s := { s with lanes := Tab.put none s.lanes i (some (j, s.dtime)) }
    if i < 12 then { s with jobs := rest } else { s with pjobs := rest }
/-- Every free lane takes a released job, lowest lane first. -/
def State.lanesTake (s : State) : State := s.forEach (List.range 16) fun s i => s.laneTake i

/-- In each clock the free lanes take the jobs released by then (R178). -/
def State.lanesClock (s : State) : State := if s.jobs.isEmpty && s.pjobs.isEmpty then s else s.lanesTake
/-- A change to the evaluation that a job belongs to. -/
def State.updEval (s : State) (j : JobH) (f : EvalH → EvalH) : State :=
  let g (l : List EvalH) : List EvalH := l.map fun e => if e.kind = j.kind ∧ e.ts = j.ts then f e else e
  if j.fg then s.updFo j.axis fun h => { h with step := h.step.map fun st => if st.ts = j.ts then { st with evals := g st.evals } else st }
  else s.updOb j.axis fun h => { h with bg := g h.bg }
/-- An evaluation has an outcome: late, or complete on its lane and, where a check belongs to it, on its Pewter lane. -/
def EvalH.isOver (e : EvalH) : Bool := e.late || (e.laneDone && (e.pewDone || !e.needPew))
/-- BACKGROUND evaluations of the axis of job `j` that are over wait for the selection. -/
def State.bgReady (s : State) (j : JobH) : State :=
  if j.fg then s else
  s.updOb j.axis fun h => { h with bg := h.bg.filter (fun e => !e.isOver), ready := h.ready ++ h.bg.filter EvalH.isOver }
/-- Lane `i` completes its job (R178, R183): the evaluation learns it, with other outputs than the network's where the lane is defective; the
lane is free. -/
def State.laneComplete (s : State) (i : Nat) (j : JobH) (defect : Option (List Int)) : State :=
  let s := { s with lanes := Tab.put none s.lanes i none }
  let s := s.updEval j fun e =>
    if i < 12 then { e with laneDone := true, laneNo := i, lane := defect.getD e.lane } else { e with pewDone := true, pewNo := i, pew := defect.getD e.pew }
  (s.bgReady j).laneTake i
/-- A fence or a lost lane discards the job it runs; its evaluation is late (R182). -/
def State.laneDrop (s : State) (i : Nat) : State :=
  match s.laneJob i with
  | none => s
  | some (j, _) => (({ s with lanes := Tab.put none s.lanes i none }).updEval j fun e => { e with late := true }).bgReady j
/-- Lane `i` is fenced (R182), by a failed test (0) or by command (1). -/
def State.laneFenceOne (s : State) (i cause : Nat) : State :=
  let usable := if i < 12 then s.rdBit OBS.LANES.USABLE i else s.rdBit OBS.LANES.P_USABLE (i - 12)
  if !usable then s else
  let s := if i < 12 then s.wrBit OBS.LANES.USABLE i false else s.wrBit OBS.LANES.P_USABLE (i - 12) false
  (s.laneDrop i).emit 0x0504 (srcLane i) [cause]

/-! ### The classical model observer (R190) -/

/-- The DC-bus code last delivered for the axis's segment (R118, R169); 0 for an axis without a segment. -/
def State.busCode (s : State) (n : Nat) : Nat :=
  let b := s.rd AX.BUS_CFG.SEG n
  if b < 8 then s.rd BUS.VNOW.V b else 0
/-- Rotation of (a, b) into dq at an angle (R111). -/
def park (a b : Int) (th : Nat) : Int × Int :=
  let c := cosQ th
  let sn := sinQ th
  (satS 32 (mulQ 31 a c + mulQ 31 b sn), satS 32 (-(mulQ 31 a sn) + mulQ 31 b c))
/-- One step of the classical model observer of axis `n` at `ts` (R190). -/
def State.classicStep (s : State) (n ts : Nat) (ialpha ibeta : Int) (vbus : Nat) : State :=
  let h := s.ob n
  let f := s.fo n
  let th := ofS 24 h.thC
  let i := park ialpha ibeta th
  let vb : Int := s.rd AX.FOC_VBASE.VBASE n
  let u := park f.ualpha f.ubeta th
  let vd := satS 32 (divQ (u.1 * (vbus : Int)) vb)
  let vq := satS 32 (divQ (u.2 * (vbus : Int)) vb)
  let wpu := satS 32 (h.omC * 2 ^ s.rd AX.FOC_FF_CFG.WSHIFT n)
  let rs := s.rdS AX.OBS_CLS_RS.RS n
  let ed := satS 32 (vd - mulQ 28 i.1 rs + mulQ 31 (mulQ 28 wpu (s.rdS AX.OBS_CLS_LQ.LQ n)) i.2)
  let eq_ := satS 32 (vq - mulQ 28 i.2 rs - mulQ 31 (mulQ 28 wpu (s.rdS AX.OBS_CLS_LD.LD n)) i.1)
  let eps := if 0 ≤ eq_ then satS 32 (-ed) else ed
  let om := satS 32 (h.omC + mulQ 31 eps (s.rdS AX.OBS_CLS_KI.KI_C n))
  let dt : Int := match h.lastStep with
    | some t => (ts : Int) - t
    | none => Config.firstDelta
  let thN := toS 24 (ofS 24 (h.thC + rneShr (om * dt) 24 + mulQ 31 eps (s.rdS AX.OBS_CLS_KP.KP_C n)))
  let i2 := rneShr (i.1 * i.1 + i.2 * i.2) 47
  let amb := s.rdS AX.OBS_CLS_TAMB.T_AMB n
  let tw := satS 16 (h.tWC + rneShr (s.rd AX.OBS_CLS_TH.KH n * i2 - s.rd AX.OBS_CLS_TH.KC n * (h.tWC - amb)) 16)
  let tb := satS 16 (amb + s.rdS AX.OBS_CLS_TAMB.BOFS n)
  let ld := satS 16 (h.loadC + rneShr (s.rd AX.OBS_CLS_LOAD.KL n * (rneShr i.2 16 - rneShr (s.rdS AX.OBS_CLS_KJ.KJ n * (om - h.omC)) 28 - h.loadC)) 16)
  s.updOb n fun h => { h with thC := thN, omC := om, omPrev := h.omC, tWC := tw, tBC := tb, loadC := ld, lastStep := some ts }

end Sys2Proof.Machine
end

