-- ==== Sys2Proof/Machine/Estimate.lean ====
section
/-!
DEFINITION. The estimate of each loop step: release of evaluations, mismatches and escalation, selection, clamps and delivery, presets of
the observers (R176, R177, R183, R185 to R191).
-/
namespace Sys2Proof.Machine

/-! ### Release -/

/-- A check belongs to an evaluation (R183): position and BACKGROUND networks always; with temperature and load both FOREGROUND the one
that the evaluation count picks; never a dropped check (R184). -/
def State.needsCheck (s : State) (n kind k : Nat) : Bool :=
  let st (x : Nat) : Nat := (s.ob n).state.getD x 0
  !(s.rdBit AX.OBS_STATUS.UNCHECKED kind n) &&
    (if kind = 0 ∨ st kind = 2 then true
     else if st 1 = 1 ∧ st 2 = 1 then (if k % 2 = 0 then kind == 1 else kind == 2)
     else true)
/-- The kinds that evaluation `k` of an axis evaluates (R176, R179): FOREGROUND networks, and BACKGROUND ones at even `k`. -/
def State.evalKinds (s : State) (n k : Nat) : List Nat :=
  [0, 1, 2].filter fun kind =>
    let st := (s.ob n).state.getD kind 0
    (s.net n kind).isSome && (st == 1 || (st == 2 && k % 2 == 0))
/-- One evaluation with what both paths compute from its inputs (R169, R170, R183). -/
def State.evalOf (s : State) (n kind ts k : Nat) (ia ib : Int) (d : NetDef) : EvalH :=
  let x := d.inputs.map fun w => s.obsInput n ts ia ib (s.busCode n) w
  { kind := kind, ts := ts, lane := d.eval x, pew := d.eval x, needPew := s.needsCheck n kind k }
/-- The jobs of an evaluation enter the queues of the lanes, released at `ts` + 72 (R178, R183). -/
def State.evalRelease (s : State) (n ts : Nat) (fg : Bool) (d : NetDef) (e : EvalH) : State :=
  let j : JobH := { axis := n, kind := e.kind, ts := ts, cost := d.cost, fg := fg, rel := ts + 72 }
  let s := { s with jobs := s.jobs ++ [j] }
  if e.needPew then { s with pjobs := s.pjobs ++ [{ j with cost := d.pcost }] } else s
/-- The evaluation of an axis at sampling instant `ts`, if one is due (R176): the FOREGROUND evaluations of the step. The axis counts an
evaluation where it holds a network and is not in CLASSICAL mode. -/
def State.obsRelease (s : State) (n ts : Nat) (ia ib : Int) : List EvalH × State :=
  let h := s.ob n
  let due := match h.lastEval with
    | some t => decide (t + 6400 ≤ ts)
    | none => true
  let any := [0, 1, 2].any fun kind => (s.net n kind).isSome
  if !due || !any || s.flag AX.OBS_STATUS.MODE n then ([], s) else
  let es := (s.evalKinds n h.k).filterMap fun kind => (s.net n kind).map fun d => (d, s.evalOf n kind ts h.k ia ib d)
  let isFg (e : EvalH) : Bool := h.state.getD e.kind 0 == 1
  let s := s.forEach es fun s p => s.evalRelease n ts (isFg p.2) p.1 p.2
  let s := s.updOb n fun g => { g with k := g.k + 1, lastEval := some ts, bg := g.bg ++ (es.map (·.2)).filter fun e => !(isFg e) }
  ((es.map (·.2)).filter isFg, s.incWrap AX.OBS_CNT.EVAL_CNT n)

/-! ### Mismatches and escalation -/

/-- An axis enters CLASSICAL mode (R188). -/
def State.obsClassical (s : State) (n : Nat) : State := s.raise AX.OBS_STATUS.MODE n
/-- A mismatch or an INVALID outcome (R187, R188): flag, counts, stamp and record; `o` is the output it names. -/
def State.obsMismatch (s : State) (n : Nat) (e : EvalH) (o : Nat) (invalid : Bool) : State :=
  let s := if invalid then s.raise AX.OBS_STATUS.INVALID n else s.raise AX.OBS_STATUS.MISM n
  let s := (s.incWrap AX.OBS_CNT.MISM_CNT n).wr AX.OBS_LAST_MISM e.ts n
  let s := s.updOb n fun h => { h with miss := (s.pw n).periods :: h.miss }
  s.emitAt e.ts 0x0502 (srcAxis n)
    ([e.kind, o, e.laneNo, e.pewNo - 12] ++ le 2 (ofS 16 (e.lane.getD o 0)) ++ le 2 (ofS 16 (e.pew.getD o 0)) ++ [b2n invalid]) false
/-- The mismatches of the last ESC_WIN periods are counted; when ESC_N of them have been reached, a record is written and ESC_ACT waits for the next
period (R188). -/
def State.obsEscalate (s : State) (n : Nat) : State :=
  let p := (s.pw n).periods
  let s := s.updOb n fun h => { h with miss := h.miss.filter fun q => decide (p < q + s.rd AX.OBS_CFG.ESC_WIN n) }
  let c := (s.ob n).miss.length
  let s := s.wr AX.OBS_STATUS.WIN_CNT (satU 8 c) n
  if c < s.rd AX.OBS_CFG.ESC_N n || s.flag AX.OBS_STATUS.MODE n || (s.ob n).esc.isSome then s
  else (s.updOb n fun h => { h with esc := some p }).emit 0x0506 (srcAxis n) [s.rd AX.OBS_CFG.ESC_ACT n]
/-- In the period after, the escalation acts (R188). -/
def State.obsEscAct (s : State) (n : Nat) : State :=
  match (s.ob n).esc with
  | none => s
  | some p =>
    if (s.pw n).periods ≤ p then s else
    let s := (s.updOb n fun h => { h with esc := none }).raise AX.OBS_STATUS.ESC n
    if s.rd AX.OBS_CFG.ESC_ACT n = 0 then s.obsClassical n else s.axFault n 8 (s.groupOfAxis n) rcSto

/-! ### Selection (R186) -/

/-- The tolerance of a kind (R185). -/
def State.obsTol (s : State) (n kind : Nat) : Nat :=
  if kind = 0 then s.rd AX.OBS_TOL.TOL_P n else if kind = 1 then s.rd AX.OBS_TOL.TOL_T n else s.rd AX.OBS_TOL.TOL_L n
/-- The first output on which the two paths disagree by more than the tolerance (R185). -/
def disagree (tol : Nat) (a b : List Int) : Option Nat :=
  (List.range a.length).find? fun o => decide ((tol : Int) < absI (a.getD o 0 - b.getD o 0))
/-- The rows of R186 for an evaluation: its network outputs where they pass, none where the classical estimate is delivered. The output
that the record of an INVALID outcome names is open where both paths agree. -/
def State.evalSelect (s : State) (n : Nat) (e : EvalH) : Option (List Int) × State :=
  let bad := if e.needPew then disagree (s.obsTol n e.kind) e.lane e.pew else none
  if e.late then
    (none, ((s.raise AX.OBS_STATUS.LATE n).raise OBS.STATUS.LATE).emitMerge 0x0503 (srcAxis n) [e.kind])
  else if s.rdBit AX.OBS_STATUS.UNCHECKED e.kind n then (none, s)
  else if e.kind = 0 ∧ absI (e.lane.getD 0 0) + absI (e.lane.getD 1 0) < s.rd AX.OBS_PCFG.MAG_MIN n then
    match bad with
    | some o => (none, s.obsMismatch n e o true)
    | none => let d := s.draw; (none, d.2.obsMismatch n e (d.1 % 3) true)
  else
    match bad with
    | some o => (none, s.obsMismatch n e o false)
    | none => (some e.lane, s)
/-- A BACKGROUND evaluation of this kind can still be delivered: the axis is not in CLASSICAL mode, and its network is there and BACKGROUND. -/
def State.bgLive (s : State) (n kind : Nat) : Bool :=
  !(s.flag AX.OBS_STATUS.MODE n) && (s.net n kind).isSome && (s.ob n).state.getD kind 0 == 2
/-- BACKGROUND evaluations that are over are judged by the same rows when they complete, the first row among them, and their mismatches count at once
(R186, R188). -/
def State.bgJudge (s : State) (n : Nat) : State :=
  let todo := (s.ob n).ready.filter fun e => !e.judged
  if todo.isEmpty then s else
  (s.forEach todo fun s e =>
    if s.bgLive n e.kind then
      let r := s.evalSelect n e
      r.2.updOb n fun h => { h with ready := h.ready.map fun x => if x = e then { e with judged := true, out := r.1 } else x }
    else s.updOb n fun h => { h with ready := h.ready.filter (· ≠ e) }).obsEscalate n

/-! ### Clamps (R189) -/

/-- A clamp that changes a value is shown. -/
def State.clampNote (s : State) (n : Nat) (c : Bool) : State :=
  if c then (s.raise AX.OBS_STATUS.CLAMP n).incSat AX.OBS_STATUS.CLAMP_CNT n else s
/-- The extrapolated position of an axis at `ts` (R177). -/
def State.obsPredict (s : State) (n ts : Nat) : Int :=
  let h := s.ob n
  h.th + rneShr (h.om * ((ts : Int) - h.at_)) 24
/-- Position: ω_obs, then the distance of θ_obs from the extrapolation. -/
def State.clampPosition (s : State) (n ts : Nat) (th om : Int) : Int × Int × State :=
  let w : Int := s.rd AX.OBS_W_MAX.VALUE n
  let om' := clampI (-w) w om
  let a : Int := bits (s.rd AX.OBS_ANG_MAX.VALUE n) 23 0
  let p := s.obsPredict n ts
  let d := toS 24 (ofS 24 (th - p))
  let d' := clampI (-a) a d
  (if d' = d then th else p + d', om', (s.clampNote n (decide (om' ≠ om))).clampNote n (decide (d' ≠ d)))
/-- One temperature against its last value: the range, then the rate; with whether either changed it. -/
def State.clampOneTemp (s : State) (n : Nat) (last t : Int) : Int × Bool × Bool :=
  let r : Int := s.rd AX.OBS_RATE.LOW n
  let t1 := clampI (toS 16 (s.rd AX.OBS_T_RANGE.LOW n)) (toS 16 (s.rd AX.OBS_T_RANGE.HIGH n)) t
  let t2 := clampI (last - r) (last + r) t1
  (t2, decide (t1 ≠ t), decide (t2 ≠ t1))
/-- Temperature: the range, then the rate, on each output that the network has. -/
def State.clampTemp (s : State) (n : Nat) (tw : Int) (tb : Option Int) : Int × Int × State :=
  let h := s.ob n
  let w := s.clampOneTemp n h.tW tw
  match tb with
  | none => (w.1, h.tBC, (s.clampNote n w.2.1).clampNote n w.2.2)
  | some tb =>
    let b := s.clampOneTemp n h.tB tb
    (w.1, b.1, (s.clampNote n (w.2.1 || b.2.1)).clampNote n (w.2.2 || b.2.2))
/-- Load: the range, then the rate. -/
def State.clampLoad (s : State) (n : Nat) (l : Int) : Int × State :=
  let l1 := clampI (toS 16 (s.rd AX.OBS_L_RANGE.LOW n)) (toS 16 (s.rd AX.OBS_L_RANGE.HIGH n)) l
  let r : Int := s.rd AX.OBS_RATE.HIGH n
  let h := s.ob n
  let l2 := clampI (h.load - r) (h.load + r) l1
  (l2, (s.clampNote n (decide (l1 ≠ l))).clampNote n (decide (l2 ≠ l1)))

/-! ### Delivery -/

/-- Values of AX.OBS_EST_SRC per kind. -/
def srcNetwork : Nat := 0
def srcHeld : Nat := 1
def srcClassical : Nat := 2
/-- What R186 selects for a kind in a step with the evaluations `es`: the source, the network outputs where it is NETWORK, and their sampling
instant, which for a BACKGROUND network is its own. -/
def State.obsPick (s : State) (n kind : Nat) (es : List EvalH) : Nat × (List Int × Nat) × State :=
  if s.flag AX.OBS_STATUS.MODE n then (srcClassical, ([], 0), s) else
  match es.find? fun e => e.kind == kind with
  | some e =>
    match s.evalSelect n e with
    | (some o, s) => (srcNetwork, (o, e.ts), s)
    | (none, s) => (srcClassical, ([], 0), s)
  | none =>
    let st := (s.ob n).state.getD kind 0
    if (s.net n kind).isNone || !(st == 1 || st == 2) then (srcClassical, ([], 0), s) else
    match (s.ob n).ready.find? fun e => e.kind == kind && e.judged && st == 2 with
    | some e =>
      let s := s.updOb n fun h => { h with ready := h.ready.filter fun x => x.kind != kind || !x.judged }
      match e.out with
      | some o => (srcNetwork, (o, e.ts), s)
      | none => (srcClassical, ([], 0), s)
    | none => (srcHeld, ([], 0), s)
/-- The stamp of a delivered temperature or load: the evaluation's own, kept while it is held, else the step's (R186). -/
def deliveredAt (src own last ts : Nat) : Nat := if src = srcNetwork then own else if src = srcHeld then last else ts
/-- Position is delivered: θ_obs and ω_obs. -/
def State.deliverPosition (s : State) (n ts : Nat) (es : List EvalH) : Nat × State :=
  let p := s.obsPick n 0 es
  let s := p.2.2
  let h := s.ob n
  let d : Int × Int × State :=
    if p.1 = srcNetwork then
      s.clampPosition n ts (atan2Q (p.2.1.1.getD 0 0) (p.2.1.1.getD 1 0)) (satS 32 (p.2.1.1.getD 2 0 * 2 ^ s.rd AX.OBS_PCFG.WSHIFT n))
    else if p.1 = srcHeld then (s.obsPredict n ts, h.om, s)
    else (h.thC, h.omC, s)
  (p.1, d.2.2.updOb n fun h => { h with th := toS 24 (ofS 24 d.1), om := d.2.1, at_ := ts })
/-- Temperatures are delivered; a network with one output leaves the bearing to the classical observer. -/
def State.deliverTemp (s : State) (n ts : Nat) (es : List EvalH) : Nat × State :=
  let p := s.obsPick n 1 es
  let s := p.2.2
  let h := s.ob n
  let d : Int × Int × State :=
    if p.1 = srcNetwork then
      s.clampTemp n (p.2.1.1.getD 0 0) p.2.1.1[1]?
    else if p.1 = srcHeld then (h.tW, h.tB, s)
    else (h.tWC, h.tBC, s)
  (p.1, d.2.2.updOb n fun h => { h with tW := d.1, tB := d.2.1, tAt := deliveredAt p.1 p.2.1.2 h.tAt ts })
/-- Load is delivered. -/
def State.deliverLoad (s : State) (n ts : Nat) (es : List EvalH) : Nat × State :=
  let p := s.obsPick n 2 es
  let s := p.2.2
  let h := s.ob n
  let d : Int × State :=
    if p.1 = srcNetwork then s.clampLoad n (p.2.1.1.getD 0 0) else if p.1 = srcHeld then (h.load, s) else (h.loadC, s)
  (p.1, d.2.updOb n fun h => { h with load := d.1, loadAt := deliveredAt p.1 p.2.1.2 h.loadAt ts })
/-- The estimates of a step are selected, clamped and delivered (R186, R189), and shown (R193). -/
def State.obsDeliver (s : State) (n ts : Nat) (es : List EvalH) : State :=
  let a := s.deliverPosition n ts es
  let b := a.2.deliverTemp n ts es
  let c := b.2.deliverLoad n ts es
  let s := c.2
  let h := s.ob n
  let s := (s.wrS AX.OBS_EST_THETA.THETA h.th n).wrS AX.OBS_EST_OMEGA.OMEGA h.om n
  let s := ((s.wrS AX.OBS_EST_T.T_W h.tW n).wrS AX.OBS_EST_T.T_B h.tB n).wrS AX.OBS_EST_LOAD.LOAD h.load n
  ((s.wr AX.OBS_EST_STAMP ts n).wr AX.OBS_EST_SRC.SRC (a.1 + 4 * b.1 + 16 * c.1) n).obsEscalate n

/-- A preset of the observers with an angle and a speed at instant `t` (R191); the next loop step evaluates. The correction stage is
reset with it (R137, R143, R144). -/
def State.obsPreset (s : State) (n : Nat) (th om : Int) (t : Nat) : State :=
  let a := toS 24 (ofS 24 th)
  let s := s.updOb n fun h => { h with thC := a, omC := om, omPrev := om, th := a, om := om, at_ := t, lastEval := none }
  let s := s.updCm n fun h => { h with c := 0, sc := 0, lastAcc := none, cNext := none, theta := a, omega := om, at_ := t, rejRun := 0 }
  (s.wr AX.CMT_CORR.VALUE 0 n).wr AX.CMT_SCORR.VALUE 0 n
/-- What setting EN does to the observers of an axis (R176, R188): the counts of evaluations and of mismatches restart; the mode stays. -/
def State.obsEnable (s : State) (n : Nat) : State :=
  (s.updOb n fun h => { h with k := 0, lastEval := none, miss := [], esc := none, bg := [], ready := [] }).wr AX.OBS_STATUS.WIN_CNT 0 n

/-- The effect of a write of AX.OBS_CFG (R188): FORCE_CLS = 1 enters CLASSICAL mode; RESUME = 1 while FORCE_CLS = 0 leaves it. -/
def State.fxObsCfg (s : State) (n v : Nat) : State × WErr :=
  let r := s.writeFields (AX.OBS_CFG.ESC_ACT.addr n) v
  let s := r.1
  let s := if s.flag AX.OBS_CFG.FORCE_CLS n then s.obsClassical n else s
  if bit v 5 && !(s.flag AX.OBS_CFG.FORCE_CLS n) && s.flag AX.OBS_STATUS.MODE n then
    let s := (s.clear AX.OBS_STATUS.MODE n).updOb n fun h => { h with miss := [], esc := none, bg := [], ready := [] }
    ((s.wr AX.OBS_STATUS.WIN_CNT 0 n).obsReplan, r.2)
  else (s, r.2)
/-- FORCE_CLS (R188): a write of AX.OBS_CFG with FORCE_CLS = 1. -/
def execForceCls (m : Fin 64) (n : Fin 48) (v : Word) (s : State) : Host.Outcome State Fault Refusal :=
  .next (s.busWriteWith m (AX.OBS_CFG.ESC_ACT.addr n) false fun s => s.fxObsCfg n (setBit v.toNat 6 true))
/-- RESUME (R188): a write of AX.OBS_CFG with RESUME = 1. -/
def execResume (m : Fin 64) (n : Fin 48) (v : Word) (s : State) : Host.Outcome State Fault Refusal :=
  .next (s.busWriteWith m (AX.OBS_CFG.ESC_ACT.addr n) false fun s => s.fxObsCfg n (setBit v.toNat 5 true))
/-- OBS_EST_THETA_READ (R193): a read of AX.OBS_EST_THETA, which latches the group. -/
def execObsEstThetaRead (m : Fin 64) (n : Fin 48) (s : State) : Host.Outcome State Fault Refusal :=
  .next (s.busRead m (AX.OBS_EST_THETA.THETA.addr n))
/-- OBS_LOAD_DONE (R172): the loader completes. -/
def execObsLoadDone (s : State) : Host.Outcome State Fault Refusal := .next (s.obsLoadFinish).1
/-- OBS_REMOVE_DONE (R175): the removal completes. -/
def execObsRemoveDone (s : State) : Host.Outcome State Fault Refusal :=
  .next (if s.obsRemove.isEmpty then s else s.obsRemoveFinish.raise OBS.LOAD_STATUS.DONE)

end Sys2Proof.Machine
end

