-- ==== Sys2Proof/Machine/FieldLoop.lean ====
section
/-!
DEFINITION. The arithmetic of a loop step: transforms, compensators, ramp, torque limits, vector limit, modulation and the volt-second
compensation of a listening window (R111 to R121, R125 to R128, R134).
-/
namespace Sys2Proof.Machine

/-! ### Transforms (R111, R112, R119) -/

/-- x / √3 to nearest. -/
def overSqrt3 (x : Int) : Int :=
  let n : Int := (isqrt (4 * (x * x) / 3).toNat + 1) / 2
  if x < 0 then -n else n
/-- (√3 / 2) × x to nearest. -/
def halfSqrt3 (x : Int) : Int :=
  let n : Int := (isqrt (3 * (x * x)).toNat + 1) / 2
  if x < 0 then -n else n
/-- iα, iβ and ic of two phase currents in Q1.31 (R111). -/
def clarke (ia ib : Int) : Int × Int × Int := (ia, satS 32 (overSqrt3 (ia + 2 * ib)), satS 32 (-ia - ib))
/-- Rotation of (d, q) to (α, β) at an angle (R119). -/
def turnBy (d q : Int) (th : Nat) : Int × Int :=
  let c := cosQ th
  let sn := sinQ th
  (mulQ 31 d c - mulQ 31 q sn, mulQ 31 d sn + mulQ 31 q c)
/-- The same in Q1.31. -/
def invPark (d q : Int) (th : Nat) : Int × Int :=
  let u := turnBy d q th
  (satS 32 u.1, satS 32 u.2)
/-- The three phase voltages of (uα, uβ) in Q1.31 (R119). Each product of the rotation is rounded to nearest, ties to even, and so are uα / 2 and
(√3 / 2) × uβ before the sums (the model's choice: R119 states no rounding; assumption log 30). -/
def phases (ua ub : Int) : Int × Int × Int :=
  let h := rneShr ua 1
  let r := halfSqrt3 ub
  (ua, -h + r, -h - r)
/-- Largest and least of three. -/
def max3 (v : Int × Int × Int) : Int := maxI v.1 (maxI v.2.1 v.2.2)
def min3 (v : Int × Int × Int) : Int := minI v.1 (minI v.2.1 v.2.2)
/-- ⌊φ / 60°⌋ of a vector (R119); 0 for the zero vector. -/
def sectorOf (ua ub : Int) : Nat :=
  let steep := decide (3 * (ua * ua) ≤ ub * ub)
  let on := decide (3 * (ua * ua) = ub * ub)
  if ua = 0 ∧ ub = 0 then 0
  else if 0 < ub then
    (if 0 < ua then (if steep then 1 else 0) else if steep && !on then 1 else 2)
  else if ub = 0 then (if 0 < ua then 0 else 3)
  else if ua < 0 then (if steep then 4 else 3)
  else if steep && !on then 4 else 5

/-! ### Compensators (R113 to R115, R123) -/

/-- A sum of products of two lists. -/
def dot : List Int → List Int → Int
  | a :: as_, b :: bs => a * b + dot as_ bs
  | _, _ => 0
/-- Order of a compensator whose registers lie at `base` (R113): 2 or 3. -/
def State.cmpOrder (s : State) (base : Nat) : Nat := if s.rd CMP.CFG.ORDER base = 1 then 3 else 2
/-- y_u at a step with error `e` (R113). -/
def cmpRaw (order : Nat) (h : CmpH) (e : Int) : Int :=
  satS 32 (rneShr (dot (h.b.take (order + 1)) (e :: h.e) - dot (h.a.take order) h.y) 28)
/-- y_c: y_u clamped to LIM. -/
def cmpClamp (h : CmpH) (yu : Int) : Int := clampI (-(h.lim : Int)) h.lim yu
/-- The histories after a step (R115): `aw` is CMP_CFG.AW, `yf` the value the step gave to the output. -/
def cmpStore (aw : Nat) (h : CmpH) (e yu yf : Int) : CmpH :=
  if aw = 2 ∧ yf ≠ yu then h
  else { h with e := (e :: h.e).take 3, y := ((if aw = 1 then yf else yu) :: h.y).take 3 }
/-- A preset: every stored output the preset value, every stored error 0 (R123). -/
def cmpPreset (h : CmpH) (v : Int) : CmpH := { h with e := [0, 0, 0], y := [satS 32 v, satS 32 v, satS 32 v] }
/-- The preset is exact: the codes of A1 to A_N sum to −2^28. -/
def cmpExact (order : Nat) (h : CmpH) : Bool := (h.a.take order).foldl (· + ·) 0 == -(2 ^ 28)
/-- The coefficients that a pending APPLY brings into use at the start of a step (R114): the shadow as it stands then, so a write between APPLY and that
step is taken with it (the model's choice: the spec does not say whether APPLY captures the shadow; assumption log 31). -/
def State.cmpTake (s : State) (base : Nat) (h : CmpH) : CmpH :=
  if !h.apply then h else
  { h with
    apply := false
    b := (List.range 4).map fun i => s.rdS CMP.B.B base i
    a := (List.range 3).map fun i => s.rdS CMP.A.A base i
    lim := s.rd CMP.LIM.LIM base }
/-- Base addresses of the d, q and speed compensators of axis `n`. -/
def cmpD (n : Nat) : Nat := 0x2010000240 + n * 0x10000
def cmpQ (n : Nat) : Nat := 0x2010000280 + n * 0x10000
def cmpS (n : Nat) : Nat := 0x2010000320 + n * 0x10000

/-! ### Feedforward and torque limits (R117, R126) -/

/-- ω_pu = ω_e × 2^WSHIFT, saturated. -/
def State.omegaPu (s : State) (n : Nat) (om : Int) : Int := satS 32 (om * 2 ^ s.rd AX.FOC_FF_CFG.WSHIFT n)
/-- ff_d and ff_q (R117); 0 with FF_EN = 0. -/
def State.feedForward (s : State) (n : Nat) (om id iq : Int) : Int × Int :=
  if s.flag AX.FOC_CTRL.FF_EN n then
    let w := s.omegaPu n om
    (satS 32 (-(mulQ 31 (mulQ 28 w (s.rdS AX.FOC_KLQ.K n)) iq)),
      satS 32 (mulQ 31 w (satS 32 (mulQ 28 id (s.rdS AX.FOC_KLD.K n) + s.rdS AX.FOC_KPSI.K n * 8))))
  else (0, 0)
/-- The load feedforward of the speed loop (R125): KLOAD × load to nearest, ties to even; the sum with the compensator's output saturates to Q1.31
before the torque limits (the model's choice: R125 states neither; assumption log 31). -/
def State.loadFf (s : State) (n : Nat) : Int :=
  if s.flag AX.SPD_CTRL.LOAD_FF n then mulQ 28 ((s.ob n).load * 65536) (s.rdS AX.SPD_KLOAD.KLOAD n) else 0
/-- The limits as the registers hold them now. -/
def State.limsNow (s : State) (n : Nat) : LimH :=
  { tq := s.rd AX.SPD_DERATE.TQ n, acc := s.rd AX.SPD_DERATE.ACC n, bus := s.rd AX.SPD_BUS_LIM.LIM n, dq := (s.fo n).dq }
/-- The limits of the step in progress: a value written after its start applies from the next step (R126, R155, R256). -/
def State.lims (s : State) (n : Nat) : LimH :=
  match (s.fo n).step with
  | some st => st.lims
  | none => s.limsNow n
/-- The torque limits on an iq_ref at speed `om` (R126, R156), with the term Δiq: the clamped value, and TQ_LIM, BUS_LIMITED, ABSORBING and
AX.BUS_ABS. -/
def State.torqueLimit (s : State) (n : Nat) (iq om : Int) : Int × Int × State :=
  let li := s.lims n
  let tq := li.tq
  let mot0 := decide (0 ≤ iq * om)
  let dq := if mot0 ∧ om ≠ 0 then sgnI om * li.dq else 0
  let x := iq + dq
  let mot := decide (0 ≤ x * om)
  let lm : Nat := s.rd AX.FOC_IQ_LIM_MOT.LIM n * tq / 2 ^ 15
  let lr : Nat := s.rd AX.FOC_IQ_LIM_REG.LIM n * tq / 2 ^ 15
  let bl := li.bus
  let l : Int := ((if mot then lm else min lr bl : Nat) : Int)
  let y := clampI (-l) l x
  let hit := decide (y ≠ x)
  let s := (s.put AX.SPD_STATUS.TQ_LIM hit n).put AX.SPD_STATUS.BUS_LIMITED (hit && !mot && decide (bl < lr)) n
  let s := s.put AX.BUS_STATUS.ABSORBING (decide (dq ≠ 0)) n
  (y, dq, s.wrS AX.BUS_ABS.DIQ dq n)

/-! ### Vector limit (R118) -/

/-- The sign of the first with the magnitude of the second. -/
def withSign (x : Int) (m : Nat) : Int := if x < 0 then -(m : Int) else m
/-- The voltage vector limited for CIRCLE, D_FIRST: `m` is M in Q1.31. Limits are rounded toward 0. -/
def limitDFirst (m : Nat) (ud uq : Int) : Int × Int :=
  let r2 := m * m / 3
  let l : Int := isqrt r2
  let d := clampI (-l) l ud
  let q : Int := isqrt (r2 - (d * d).toNat)
  (d, clampI (-q) q uq)
/-- CIRCLE, PROPORTIONAL: one factor for both, the angle kept. -/
def limitProp (m : Nat) (ud uq : Int) : Int × Int :=
  let mag2 := (ud * ud + uq * uq).toNat
  if 3 * mag2 ≤ m * m then (ud, uq)
  else (withSign ud (isqrt ((ud * ud).toNat * (m * m) / (3 * mag2))), withSign uq (isqrt ((uq * uq).toNat * (m * m) / (3 * mag2))))
/-- HEX: one factor for both, so that the spread of the phase voltages is at most M. -/
def limitHex (m : Nat) (th : Nat) (ud uq : Int) : Int × Int :=
  let u := turnBy ud uq th
  let v := phases u.1 u.2
  let sp := (max3 v - min3 v).toNat
  if sp ≤ m then (ud, uq) else (withSign ud (ud.natAbs * m / sp), withSign uq (uq.natAbs * m / sp))
/-- The limit that OVM and PRIO choose. -/
def State.vectorLimit (s : State) (n th : Nat) (ud uq : Int) : Int × Int :=
  let m := s.rd AX.FOC_MOD.MOD_MAX n * 128
  if s.flag AX.FOC_CTRL.OVM n then limitHex m th ud uq
  else if s.flag AX.FOC_CTRL.PRIO n then limitProp m ud uq
  else if 3 * (ud * ud + uq * uq) ≤ (m * m : Nat) then (ud, uq) else limitDFirst m ud uq

/-! ### Window compensation (R134) -/

/-- Steps of the high-side conduction of a pulse of width `w` that lie outside [w0, w1). -/
def condOut (p dtHs w0 w1 w : Nat) : Nat :=
  let a : Int := (p / 2 : Nat) - ((w + 1) / 2 : Nat) + dtHs
  let b : Int := (p / 2 : Nat) + (w / 2 : Nat)
  let len (x y : Int) : Nat := (y - x).toNat
  len a b - len (maxI a w0) (minI b w1)
/-- The smallest width in lo .. hi whose conduction outside the window reaches the target, by bisection: the measure grows with the width. -/
def smallestW (p dtHs w0 w1 target : Nat) : Nat → Nat → Nat → Nat
  | 0, _, hi => hi
  | f + 1, lo, hi =>
    if hi ≤ lo then hi else
    let mid := (lo + hi) / 2
    if target ≤ condOut p dtHs w0 w1 mid then smallestW p dtHs w0 w1 target f lo mid else smallestW p dtHs w0 w1 target f (mid + 1) hi
/-- Δlw of a phase in Q0.24 for W0 and a window piece, and whether the target is out of reach. -/
def windowComp (p dtHs w0 w1 wid : Nat) : Int × Bool :=
  let whole := condOut p dtHs 0 0 wid
  let target := whole - (w1 - w0) / 2
  let short := decide (condOut p dtHs w0 w1 p < target)
  let w' := if short then p else smallestW p dtHs w0 w1 target 24 0 p
  (rne (((w' : Int) - wid) * 2 ^ 24) p, short)
/-- The window of phase `j` that covers a piece of the period from boundary `b` with `p` steps: [w0, w1) in steps from it. -/
def pieceOf (w : WinH) (b p : Nat) : Option (Nat × Nat) :=
  let lo := (w.tOpen - b) * 32
  let hi := min ((w.tClose - b) * 32) p
  if w.tClose ≤ b ∨ p ≤ lo then none else some (lo, hi)

/-! ### Duties (R119 to R121) -/

/-- A duty in Q0.24 from a numerator and a denominator in units of 2^−24, with a further term in those units, rounded once and clamped. -/
def dutyOf (num den lw : Int) : Nat := (clampI 0 0xFFFFFF (rne (num + lw * den) den)).toNat
/-- The dead-time term of a phase: numerator over P × max(IBAND, 1) × 2^16 (R120). -/
def deadTerm (en : Bool) (i : Int) (band dtHs dtLs : Nat) : Int :=
  if !en then 0 else
  let one : Int := (max band 1 : Nat) * 2 ^ 16
  if band = 0 then (if 0 < i then dtHs * one else if i < 0 then -(dtLs * one) else 0)
  else if 0 ≤ i then dtHs * minI i one else dtLs * maxI i (-one)
/-- A phase's duty before Δlw as a fraction of 2^−24 units: numerator and denominator, from v_x, max + min and the dead-time term. -/
def dutyFrac (v mm dead : Int) (p band : Nat) : Int × Int :=
  let d : Int := (p * max band 1 * 2 ^ 16 : Nat)
  (((2 ^ 31 : Int) + 2 * v - mm) * d + dead * 2 ^ 32, d * 256)
/-- The duty of phase `j` for phase voltage `v` and current `i` in the coming period of `top`; without a period its value is open. -/
def State.phaseDuty (s : State) (n j top nextB : Nat) (v mm i : Int) : State :=
  let p := stepsOf top
  if p = 0 then let d := s.draw; d.2.loopDuty n j (d.1 % 2 ^ 24) else
  let band := s.rd AX.FOC_DTC.IBAND n
  let hs := s.rd AX.PWM_DT.DT_HS n
  let f := dutyFrac v mm (deadTerm (s.flag AX.FOC_CTRL.DTC_EN n) i band hs (s.rd AX.PWM_DT.DT_LS n)) p band
  let piece := match (s.cm n).win with
    | some w => if phaseOf w.k = j then pieceOf w nextB p else none
    | none => none
  match piece with
  | none => (s.loopDuty n j (dutyOf f.1 f.2 0)).updFo n fun h => { h with dlw := h.dlw.set j 0 }
  | some (w0, w1) =>
    let c := windowComp p hs w0 w1 (baseOf (dutyOf f.1 f.2 0) p)
    ((s.raiseIf c.2 AX.CMT_STATUS.LW_SHORT n).loopDuty n j (dutyOf f.1 f.2 c.1)).updFo n fun h => { h with dlw := h.dlw.set j c.1 }

/-! ### Ramp and speed step (R125 to R128, R318, R319) -/

/-- One move of the ramp toward a goal: REF and REM after `dt` ticks at `rate`. An unlimited move reaches its goal and leaves REM 0 like every other
that does (R127; for the unlimited one the model's choice, assumption log 31). -/
def rampMove (ref goal : Int) (rem rate dt : Nat) (unlimited : Bool) : Int × Nat :=
  if unlimited then (goal, 0)
  else if rate = 0 then (ref, rem)
  else
    let t := rate * dt + rem
    let inc : Int := t / 65536
    let r := if ref < goal then minI (ref + inc) goal else maxI (ref - inc) goal
    (r, if r = goal then 0 else t % 65536)
/-- SLS is active for an axis (R319). -/
def State.slsActive (s : State) (n : Nat) : Bool :=
  s.flag AX.SAF_CFG.SLS_EN n
    || (List.range 16).any fun k => s.rd SAF.SI_CFG.FUNC 0 k == 3 && s.groupOfAxis n < 16 && s.rdBit SAF.SI_GROUPS.GROUPS (s.groupOfAxis n) 0 k
        && s.rdBit SAF.SI_STATE.LOW k
/-- The band that SLS leaves to REF. -/
def State.slsBand (s : State) (n : Nat) : Int := (7 * s.rd AX.SAF_SLS.SLS_LIM n / 8 : Nat)
/-- The target the ramp moves to, and whether it moves at DEC because REF lies outside the band of SLS. -/
def State.rampTarget (s : State) (n : Nat) : Int × Bool :=
  let ref := s.rdS AX.SPD_REF.REF n
  let t := s.rdS AX.SPD_TARGET.VALUE n
  if s.slsActive n then (clampI (-(s.slsBand n)) (s.slsBand n) t, decide (s.slsBand n < absI ref)) else (t, false)
/-- REF after a ramp step of `dt` ticks toward `target` (R127). -/
def State.rampNext (s : State) (n : Nat) (target : Int) (dt : Nat) : Int × Nat :=
  let ref := s.rdS AX.SPD_REF.REF n
  let rem := (s.fo n).rem
  let goal := if (target < 0 ∧ 0 < ref) ∨ (0 < target ∧ ref < 0) then 0 else target
  if absI ref < absI goal then
    let acc := s.rd AX.SPD_ACC.VALUE n
    rampMove ref goal rem (acc * (s.lims n).acc / 2 ^ 15) dt (decide (acc = 0))
  else
    let dec := s.rd AX.SPD_DEC.VALUE n
    rampMove ref goal rem dec dt (decide (dec = 0))
/-- AT_TARGET shows REF = TARGET (R128). -/
def State.atTarget (s : State) (n : Nat) : State := s.put AX.SPD_STATUS.AT_TARGET (decide (s.rdS AX.SPD_REF.REF n = s.rdS AX.SPD_TARGET.VALUE n)) n
/-- The lag band stops a move of REF to `ref'` at measured speed `v` (R128): LAG is set, exceeded, and the move would widen the difference. -/
def State.rampLags (s : State) (n : Nat) (ref' v : Int) : Bool :=
  let lag : Int := s.rd AX.SPD_LAG.VALUE n
  let ref := s.rdS AX.SPD_REF.REF n
  decide (lag ≠ 0 ∧ lag < absI (ref - v) ∧ absI (ref - v) < absI (ref' - v))
/-- The ramp at a speed-loop step with measured speed `v` (R127, R128, R318, R319). A PRESET that waits when an SS1 ramp runs is dropped (the model's
choice: the spec does not order the two; assumption log 31). -/
def State.rampStep (s : State) (n dt : Nat) (v : Int) : State :=
  let s := s.clear AX.SPD_STATUS.LAG_HOLD n
  let h := s.fo n
  let ref := s.rdS AX.SPD_REF.REF n
  let set (s : State) (r : Int × Nat) : State := ((s.wrS AX.SPD_REF.REF r.1 n).updFo n fun h => { h with rem := r.2 }).atTarget n
  if (s.sx n).ss1.isSome then
    set (s.updFo n fun h => { h with preset := false }) (rampMove ref 0 h.rem (s.rd AX.SAF_SS1_DEC.VALUE n) dt (decide (s.rd AX.SAF_SS1_DEC.VALUE n = 0)))
  else if h.preset then set (s.updFo n fun h => { h with preset := false }) (v, 0)
  else
    if s.flag AX.SPD_CTRL.HOLD n then s.atTarget n else
    let t := s.rampTarget n
    let dec := s.rd AX.SPD_DEC.VALUE n
    let r := if t.2 then rampMove ref (if ref < 0 then -(s.slsBand n) else s.slsBand n) h.rem dec dt (decide (dec = 0)) else s.rampNext n t.1 dt
    if s.rampLags n r.1 v then (s.raise AX.SPD_STATUS.LAG_HOLD n).atTarget n else set s r
/-- A speed-loop step at `ts` (R125): ramp, error, compensator, load feedforward; its iq_ref waits for the next loop step. -/
def State.speedStep (s : State) (n ts : Nat) (man : Bool) : State :=
  let dt := match (s.fo n).lastSpd with
    | some t => ts - t
    | none => Config.firstRamp
  let v := s.tbSpeed n
  let s := (s.rampStep n dt v).updFo n fun h => { h with lastSpd := some ts }
  let e := satS 32 ((s.rdS AX.SPD_REF.REF n - v) * 2 ^ s.rd AX.SPD_CTRL.ESHIFT n)
  let s := s.monAdd (monLoop n 4) e ts false
  if man then s else
  let h := (s.fo n).cs
  let yu := cmpRaw (s.cmpOrder (cmpS n)) h e
  let ff := s.loadFf n
  s.updFo n fun f => { f with iqPend := satS 32 (cmpClamp h yu + ff), spdPend := some (e, yu, ff) }

end Sys2Proof.Machine
end

