-- ==== Sys2Proof/Machine/Commute.lean ====
section
/-!
DEFINITION. Commutation: planning of listening windows, crossings and the correction stage, their loss, and the starts (R129 to R145).
-/
namespace Sys2Proof.Machine

/-! ### Crossing angles and windows -/

/-- CK_k (R129). -/
def crossingBase (k : Nat) : Int := [0, 2796203, 5592405, 8388608, 11184811, 13981013].getD k 0
/-- θ_k. -/
def State.crossingAngle (s : State) (n k : Nat) : Int := crossingBase k + toS 24 (s.rd AX.CMT_OFS.OFS n)
/-- The distance from `th` to θ_k in the direction of travel, as a fraction above 0 up to a whole revolution. -/
def State.crossingAhead (s : State) (n k : Nat) (th : Int) (fwd : Bool) : Nat :=
  let d := s.crossingAngle n k - th
  let m := ofS 24 (if fwd then d else -d)
  if m = 0 then 2 ^ 24 else m
/-- The next crossing ahead of `th` (R130), with its distance. -/
def State.nextCrossing (s : State) (n : Nat) (th : Int) (fwd : Bool) : Nat × Nat :=
  (List.range 6).foldl (fun b k => let d := s.crossingAhead n k th fwd; if d < b.2 then (k, d) else b) (0, 2 ^ 25)
/-- The index of a crossing from its phase and direction (R129, R141). -/
def crossingIndex (phase : Nat) (rising : Bool) : Nat :=
  match phase with
  | 0 => if rising then 3 else 0
  | 1 => if rising then 5 else 2
  | _ => if rising then 1 else 4
/-- The comparator's change at crossing `k` is rising in this direction of travel. -/
def risingAt (k : Nat) (fwd : Bool) : Bool := (k % 2 == 1) == fwd
/-- A window that would open at `tOpen` may be planned (R131): the speed and the phase's current lie within their limits, no window is
pending, the last close lies two periods back, and a window moved to the boundary still leaves DECAY and 64 ticks before the crossing. -/
def State.windowFits (s : State) (n : Nat) (om cur : Int) (tPred tOpen b1 : Nat) : Bool :=
  let h := s.cm n
  let spaced : Bool := match h.lastClose with
    | some t => decide (t + 2 * s.rd AX.PWM_ACT_PERIOD.TOP n ≤ max tOpen b1)
    | none => true
  decide ((s.rd AX.CMT_SPD_MIN.VALUE n : Int) ≤ absI om ∧ absI om ≤ s.rd AX.CMT_SPD_MAX.VALUE n) &&
    decide (absI cur ≤ s.rd AX.CMT_IMAX.VALUE n) && h.win.isNone && spaced &&
    (decide (b1 ≤ tOpen) || decide (b1 + s.rd AX.CMT_LW.DECAY n + 64 ≤ tPred))
/-- A crossing that gets no window is counted once (R132). -/
def State.windowSkip (s : State) (n k : Nat) : State :=
  if (s.cm n).skipK = some k then s else (s.incSat AX.CMT_FAIL_CNT.SKIP n).updCm n fun h => { h with skipK := some k, good := [] }
/-- A window for crossing `k` is planned (R131); one that would open before boundary `b1` is moved to it. -/
def State.windowTake (s : State) (n k : Nat) (fwd : Bool) (tOpen b1 : Nat) : State :=
  let decay := s.rd AX.CMT_LW.DECAY n
  let w : WinH := { k := k, fwd := fwd, tOpen := max tOpen b1, tObs := max tOpen b1 + decay, tClose := tOpen + s.rd AX.CMT_LW.LEN n }
  let s := if tOpen < b1 then (s.raise AX.CMT_STATUS.SHIFT n).incSat AX.CMT_CNT.SHIFT_CNT n else s
  s.updCm n fun h => { h with skipK := none, win := some w }
/-- The step's plan of a window at estimate (`th`, `om`) with the phase currents `i` (R130 to R132). -/
def State.planWindow (s : State) (n : Nat) (st : StepH) (th om : Int) (i : List Int) : State :=
  if !(s.flag AX.CMT_CTRL.LW_EN n) ∨ om = 0 then s else
  let fwd := decide (0 < om)
  let c := s.nextCrossing n th fwd
  let len := s.rd AX.CMT_LW.LEN n
  let decay := s.rd AX.CMT_LW.DECAY n
  let tPred := st.ts + (rnu (c.2 * 2 ^ 24) (absI om)).toNat
  let tOpen := tPred - decay - (len - decay) / 2
  let mine := match (s.cm n).win with
    | some w => w.k == c.1
    | none => false
  if decide (st.nextB + 2 * st.top ≤ tOpen) || mine then s
  else if s.windowFits n om (i.getD (phaseOf c.1) 0) tPred tOpen st.nextB then s.windowTake n c.1 fwd tOpen st.nextB
  else s.windowSkip n c.1

/-! ### The correction stage (R137 to R139) -/

/-- c at instant `t`. -/
def CmtH.corrAt (h : CmtH) (t : Nat) : Int := h.c + rneShr (h.sc * ((t : Int) - h.tu)) 24
/-- The position is lost after REJ_LIM windows in a row without an accepted crossing (R139). -/
def State.windowFailed (s : State) (n : Nat) : State :=
  let s := s.updCm n fun h => { h with rejRun := h.rejRun + 1 }
  let lim := s.rd AX.CMT_OFS.REJ_LIM n
  if s.rd AX.CMT_STATUS.STATE n = 0 ∧ lim ≠ 0 ∧ (s.cm n).rejRun = lim then
    ((s.raise AX.CMT_STATUS.SYNC_LOST n).emit 0x0303 (srcAxis n)).axFault n 7 (s.groupOfAxis n) s.rcPosLost
  else s
/-- An accepted crossing updates c and s_c (R137); during a loop step it waits for the next one (R138). C_LIM holds the c that this update forms; the
c(t) that a step delivers between updates may pass it without CORR_BIG (the model's choice: R137 leaves it open; assumption log 33). -/
def State.correct (s : State) (n : Nat) (eps : Int) (tx : Nat) : State :=
  let h := s.cm n
  let lim : Int := s.rd AX.CMT_C_LIM.VALUE n
  let c0 := h.corrAt tx + rneShr (s.rd AX.CMT_GAIN.KP n * eps) 16
  let c := clampI (-lim) lim c0
  let sc := match h.lastAcc with
    | some t => if tx - t < 2 ^ 32 then satS 32 (h.sc + rne (s.rd AX.CMT_GAIN.KI n * eps * 256) (tx - t : Nat)) else h.sc
    | none => h.sc
  let s := if c = c0 then s else (s.raise AX.CMT_STATUS.CORR_BIG n).emitMerge 0x0302 (srcAxis n)
  let s := s.updCm n fun h => { h with lastAcc := some tx, rejRun := 0, lastEps := eps }
  if (s.fo n).step.isSome then s.updCm n fun h => { h with cNext := some (c, sc, tx) }
  else (s.updCm n fun h => { h with c := c, sc := sc, tu := tx }).wrS AX.CMT_SCORR.VALUE sc n
/-- A correction that waited for the step in progress takes effect. -/
def State.correctLate (s : State) (n : Nat) : State :=
  match (s.cm n).cNext with
  | none => s
  | some (c, sc, tx) => (s.updCm n fun h => { h with c := c, sc := sc, tu := tx, cNext := none }).wrS AX.CMT_SCORR.VALUE sc n
/-- A crossing qualifies in the open window (R136, R137, R139, R144). -/
def State.crossing (s : State) (n : Nat) (w : WinH) (tx : Nat) : State :=
  let h := s.cm n
  let est := h.theta + rneShr (h.omega * ((tx : Int) - h.at_)) 24
  let eps := toS 24 (ofS 24 (s.crossingAngle n w.k - est))
  let s := s.updCm n fun h => { h with win := some { w with qualified := true } }
  let s := ((s.incWrap AX.CMT_CNT.QUALIFIED n).wr AX.CMT_LAST tx n).wrS AX.CMT_LAST_ERR.VALUE eps n
  let fit := decide (absI eps ≤ s.rd AX.CMT_EPS_LIM.VALUE n)
  if s.rd AX.CMT_STATUS.STATE n = 5 then
    let s := s.updCm n fun h => { h with good := if fit then (w.k, tx) :: h.good else [] }
    if fit then s else s.incSat AX.CMT_FAIL_CNT.REJECT n
  else if fit then s.correct n eps tx
  else (s.incSat AX.CMT_FAIL_CNT.REJECT n).windowFailed n

/-! ### Comparator changes and qualification (R87, R88, R135, R136, R141) -/

/-- The steps after the boundary at which the high side of a phase changes in a period (R56, R65). -/
def PhaseH.highEdges (p : PhaseH) (dtH : Nat) : List Int :=
  match p.edges with
  | none => if p.full then (if p.was then [] else [(dtH : Int)]) else if p.was then [0] else []
  | some (r, f) => (if p.was then [0] else []) ++ if r + dtH < f then [r + dtH, f] else []
/-- The commanded high side of phase `j` changes in the 32 ticks before clock `c` (R135). -/
def State.highMoved (s : State) (n j c : Nat) : Bool :=
  let x : Int := 32 * (c : Int)
  let near (d : DriveH) : Bool := d.top != 0 && ((d.phases.getD j {}).highEdges (s.dtHs n)).any fun t =>
    decide (x - 1024 ≤ 32 * (d.at_ : Int) + t ∧ 32 * (d.at_ : Int) + t < x) && d.covers (32 * (d.at_ : Int) + t)
  near (s.pw n).drv || near (s.pw n).prv || near (s.pw n).pp
/-- Clock `c` of a window on `phase` is valid (R135): with GATE, only while the commanded high sides of the other two phases are equal and have
stood for 32 ticks. -/
def State.clockValid (s : State) (n phase c : Nat) : Bool :=
  !(s.flag AX.CMT_CTRL.GATE n) ||
    (let a := (phase + 1) % 3
     let b := (phase + 2) % 3
     ((s.commanded n a (32 * c)).1 == (s.commanded n b (32 * c)).1) && !(s.highMoved n a c) && !(s.highMoved n b c))
/-- The comparator's level in clock `c` of the window. -/
def WinH.levelAt (w : WinH) (c : Nat) : Bool :=
  match w.changes.find? fun x => decide (x.1 ≤ c) with
  | some x => x.2.1
  | none => w.level0
/-- The progress of a window's qualification, clock by clock (R135, R136): the new level in the first valid clock, the last valid clock at the
pre-level, the run with its first clock, runs broken, and the crossing's time once it has qualified. -/
structure ScanH where
  begun : Bool := false
  early : Bool := false
  pre : Nat := 0
  run : Nat := 0
  first : Nat := 0
  broken : Nat := 0
  hit : Option Nat := none
  deriving DecidableEq, Repr
/-- t_x of a run that began in clock `c` after the pre-level of clock `pre` (R87, R135): the stamp of the change, synchronised 8 ticks earlier, if
that was in a valid clock of the window; else the midpoint, rounded down. A change marked SETTLE gives none (R88). -/
def State.runTime (s : State) (n : Nat) (w : WinH) (pre c : Nat) : Option Nat :=
  match w.changes.find? fun x => decide (x.1 ≤ c) with
  | some (t, _, settle) =>
    if settle then none
    else if w.tObs ≤ t && s.clockValid n (phaseOf w.k) t then some (t - 8) else some ((pre + c) / 2)
  | none => some ((pre + c) / 2)
/-- One clock of the observation part. -/
def State.scanOne (s : State) (n : Nat) (w : WinH) (h : ScanH) (c : Nat) : ScanH :=
  if h.hit.isSome || h.early || !(s.clockValid n (phaseOf w.k) c) then h else
  if w.levelAt c == risingAt w.k w.fwd then
    if !h.begun then { h with begun := true, early := true }
    else
      let h := { h with run := h.run + 1, first := if h.run = 0 then c else h.first }
      if h.run = s.rd AX.CMT_LW.QUAL n + 1 then { h with hit := s.runTime n w h.pre h.first } else h
  else { h with begun := true, pre := c, run := 0, broken := if h.run = 0 then h.broken else h.broken + 1 }
/-- The clocks of the observation part up to and with `c`, before t_close. -/
def State.scan (s : State) (n : Nat) (w : WinH) (c : Nat) : ScanH :=
  (List.range (min (c + 1) w.tClose - w.tObs)).foldl (fun h i => s.scanOne n w h (w.tObs + i)) {}
/-- Broken runs seen up to clock `c` are counted (R136). -/
def State.countBounces (s : State) (n c : Nat) : State :=
  match (s.cm n).win with
  | none => s
  | some w =>
    if !w.isOpen || w.qualified then s else
    let b := (s.scan n w c).broken
    (s.forEach (List.range (b - w.bounces)) fun s _ => s.incSat AX.CMT_CNT.BOUNCE n).updCm n fun h => { h with win := some { w with bounces := max b w.bounces } }
/-- A comparator as the commutation logic sees it, by axis and phase. -/
def State.pv (s : State) (n j : Nat) : PvH := Tab.get {} s.pvs (n * 4 + j)
/-- A comparator's record changed. -/
def State.updPv (s : State) (n j : Nat) (f : PvH → PvH) : State := { s with pvs := Tab.put {} s.pvs (n * 4 + j) (f (s.pv n j)) }
/-- A synchronised comparator output changes in this clock (R87, R88, R136): the change is passed on with its stamp and whether it is marked SETTLE.
In the observation part of an open window on its phase a change back breaks the run there is, or is against the direction. -/
def State.pvChange (s : State) (n j : Nat) (level : Bool) (stamp : Nat) (settle : Bool) : State :=
  let now := s.dtime
  let s := (s.wrBit AX.PV_STATUS.LEVEL j level n).updPv n j fun _ => { clk := now, stamp := stamp, settle := settle, done := false }
  match (s.cm n).win with
  | none => s
  | some w =>
    if !w.isOpen || phaseOf w.k != j then s else
    let seen := !w.qualified && decide (w.tObs ≤ now ∧ now < w.tClose)
    let running := decide (0 < (s.scan n w (now - 1)).run)
    let s := if seen && level != risingAt w.k w.fwd && !running then s.incSat AX.CMT_CNT.WRONG_DIR n else s
    (s.updCm n fun h => { h with win := some { w with changes := (now, level, settle) :: w.changes } }).countBounces n now

/-- PV_COMPARATOR_CHANGE (R86, R87): the three phase-voltage balls of axis `n` in this clock; where the comparator of phase `j` changes, the
change reaches the commutation logic with the stamp of 8 ticks earlier. -/
def execPvComparatorChange (n : Fin 48) (j : Fin 3) (v : PhaseLevels) (s : State) : Host.Outcome State Fault Refusal :=
  let was := s.rdBit AX.PV_STATUS.LEVEL j n
  let level := s.pvCompare n j was v
  .next (if s.measUp && s.flag AX.PV_CFG.EN n && !(s.pvHeld n j) && level != was then s.pvChange n j level (s.dtime - 8) false else s)
/-- PV_DAC_SETTLED (R88): 64 ticks after a write the DAC has settled; an output that differs from the held one is passed on with the stamp of the
end of settling and the flag SETTLE. -/
def execPvDacSettled (n : Fin 48) (j : Fin 3) (v : PhaseLevels) (s : State) : Host.Outcome State Fault Refusal :=
  let t := Tab.get 0 s.pvSettle (n.val * 4 + j)
  if t ≠ 0 ∧ t ≤ s.dtime then
    let s := { s with pvSettle := Tab.put 0 s.pvSettle (n.val * 4 + j) 0 }
    let was := s.rdBit AX.PV_STATUS.LEVEL j n
    let level := s.pvCompare n j was v
    .next (if s.measUp && s.flag AX.PV_CFG.EN n && level != was then s.pvChange n j level t true else s)
  else .next s
/-- LW_OPEN (R133): the planned window opens: the outputs of its phase are inactive, and its DAC takes TH. -/
def execLwOpen (n : Fin 48) (s : State) : Host.Outcome State Fault Refusal :=
  match (s.cm n).win with
  | some w =>
    if w.isOpen = false ∧ w.tOpen ≤ s.dtime then
      let level := s.rdBit AX.PV_STATUS.LEVEL (phaseOf w.k) n
      let s := (s.updCm n fun h => { h with win := some { w with isOpen := true, level0 := level } }).raise AX.CMT_STATUS.WINDOW n
      .next (s.pvOwn n (phaseOf w.k) (s.rd AX.CMT_CTRL.TH n))
    else .next s
  | none => .next s
/-- LW_CLOSE (R133, R136): the open window that closes at `at_` ends with its outcome: a crossing that qualified, EARLY, where the first valid clock already showed the new
level, or NONE; the latter two break the crossings in a row of OPEN (R144). -/
def execLwClose (n : Fin 48) (at_ : Nat) (s : State) : Host.Outcome State Fault Refusal :=
  match (s.cm n).win with
  | some w =>
    if w.isOpen ∧ w.tClose = at_ ∧ at_ ≤ s.dtime then
      let r := s.scan n w w.tClose
      let s := s.countBounces n w.tClose
      let s := match r.hit with
        | some tx => if w.qualified then s else s.crossing n w tx
        | none => s
      let s := (s.updCm n fun h => { h with win := none, lastClose := some w.tClose, lastWin := some (phaseOf w.k, w.tOpen, w.tClose) }).clear AX.CMT_STATUS.WINDOW n
      if w.qualified || r.hit.isSome then .next s
      else .next (((s.incSat (if r.early then AX.CMT_FAIL_CNT.EARLY else AX.CMT_FAIL_CNT.NONE) n).updCm n fun h => { h with good := [] }).windowFailed n)
    else .next s
  | none => .next s
/-- A start listens. -/
def State.listening (s : State) (n : Nat) : Bool := s.rd AX.CMT_STATUS.STATE n == 1 || s.rd AX.CMT_STATUS.STATE n == 2
/-- CROSSING_QUALIFIED (R135, R141): the crossing of `phase` in direction `rising` at `tx` qualifies where it is the one for which QUAL + 1 valid clocks
at the new level have followed the pre-level by this clock: while a start listens it joins the crossings heard, in a window on its phase it goes
to the correction stage. -/
def execCrossingQualified (n : Fin 48) (phase : Fin 3) (rising : Bool) (tx : Nat) (s : State) : Host.Outcome State Fault Refusal :=
  if s.listening n then
    let p := s.pv n phase
    if p.done || p.settle || p.stamp != tx || s.rdBit AX.PV_STATUS.LEVEL phase n != rising || decide (p.clk ≤ (s.cm n).listenAt) || decide (s.dtime < p.clk + s.rd AX.CMT_LW.QUAL n) then .next s else
    let s := (((s.incWrap AX.CMT_CNT.QUALIFIED n).wr AX.CMT_LAST tx n)).updPv n phase fun h => { h with done := true }
    .next (s.updCm n fun h => { h with cross := (crossingIndex phase rising, tx) :: h.cross.take 3 })
  else
    match (s.cm n).win with
    | some w =>
      if w.isOpen && !w.qualified && phaseOf w.k == phase.val && rising == risingAt w.k w.fwd && (s.scan n w s.dtime).hit == some tx then
        .next ((s.countBounces n s.dtime).crossing n w tx)
      else .next s
    | none => .next s

/-! ### Starts (R140 to R145) -/

/-- States and results of a start. -/
def cmtListen : Nat := 1
def cmtWait : Nat := 2
def cmtBrake : Nat := 3
def cmtAlign : Nat := 4
def cmtOpen : Nat := 5
/-- A start listens, from LISTEN or WAIT (R141): no crossing heard yet, the comparators at TH. -/
def State.listen (s : State) (n st : Nat) : State :=
  let s := (s.cmtState n st).updCm n fun h =>
    { h with cross := [], listenAt := s.dtime, phaseEnd := s.dtime + s.rd AX.CMT_TIMES.LISTEN_T n * msTicks }
  s.forEach [0, 1, 2] fun s j => s.pvOwn n j (s.rd AX.CMT_CTRL.TH n)
/-- A start ends without success: EN clears (R140). -/
def State.startFail (s : State) (n result : Nat) : State := s.axisOff n 0 result
/-- Four crossings, newest first, are consistent: forward, reverse, or not (R141). -/
def consistent (l : List (Nat × Nat)) : Option Bool :=
  match l with
  | [d, c, b, a] =>
    let step (x y : Nat × Nat) : Nat := (y.1 + 6 - x.1) % 6
    if step a b = 1 ∧ step b c = 1 ∧ step c d = 1 then some true
    else if step a b = 5 ∧ step b c = 5 ∧ step c d = 5 then some false
    else none
  | _ => none
/-- The catch of a turning machine (R143): the presets stand for the first step, whatever CUR_MAN was in a step before the start. -/
def State.catchMotor (s : State) (n : Nat) (th om : Int) (t4 : Nat) : State :=
  let s := s.obsPreset n (th + rneShr (om * ((s.dtime : Int) - t4)) 24) om s.dtime
  let s := ((s.wrS AX.SPD_REF.REF om n).updFo n fun h => { h with rem := 0 }).atTarget n
  let q := if s.flag AX.FOC_CTRL.FF_EN n then 0 else satS 32 (mulQ 28 (s.omegaPu n om) (s.rdS AX.FOC_KPSI.K n))
  let man := s.flag AX.FOC_CTRL.CUR_MAN n
  let s := s.updFo n fun h => { h with cd := cmpPreset h.cd 0, cq := cmpPreset h.cq q, prevMan := man, notBefore := t4 + 64 }
  (s.raise AX.FOC_CTRL.RUN n).startEnd n 1
/-- OPEN begins (R144): REF ramps from 0; the start logic's angle goes on from ALIGN. -/
def State.openBegin (s : State) (n : Nat) (angle : Int) : State :=
  let s := ((s.cmtState n cmtOpen).wr AX.SPD_REF.REF 0 n).atTarget n
  (s.updFo n fun h => { h with rem := 0 }).updCm n fun h =>
    { h with phaseEnd := s.dtime + s.rd AX.CMT_TIMES.OPEN_T n * 10 * msTicks, angle := angle, angleAt := s.dtime, good := [] }
/-- A start from standstill (R144). Without ALIGN the angle OPEN begins with is open. -/
def State.standstill (s : State) (n : Nat) : State :=
  match s.rd AX.CMT_CTRL.START_MODE n with
  | 0 =>
    (s.cmtState n cmtAlign).updCm n fun h =>
      { h with phaseEnd := s.dtime + s.rd AX.CMT_TIMES.ALIGN_T n * msTicks, angle := toS 24 (s.rd AX.CMT_OFS.OFS n), angleAt := s.dtime }
  | 1 => let d := s.draw; d.2.openBegin n (toS 24 (d.1 % 2 ^ 24))
  | _ => s.startFail n 5
/-- LISTEN has ended with a motion of `om` at `th` at instant `t4` (R142). -/
def State.decideMotion (s : State) (n : Nat) (th om : Int) (t4 : Nat) : State :=
  let target := s.rdS AX.SPD_TARGET.VALUE n
  let matching := target == 0 || sgnI target == sgnI om
  let mode := s.rd AX.CMT_CTRL.REV_MODE n
  if (s.rd AX.CMT_CATCH_MAX.VALUE n : Int) < absI om then s.startFail n 3
  else if matching then s.catchMotor n th om t4
  else if mode = 0 then s.startFail n 4
  else if mode = 1 then (if s.flag AX.FOC_CTRL.SPD_EN n then s.catchMotor n th om t4 else s.startFail n 4)
  else if mode = 2 then
    (s.updCm n fun h => { h with waitEnd := some (h.waitEnd.getD (s.dtime + s.rd AX.CMT_LIMITS.WAIT_MAX n * 100 * msTicks)) }).listen n cmtWait
  else if s.rd AX.CMT_LIMITS.BRAKE_N n ≤ (s.cm n).brakes then s.startFail n 7
  else
    let now := s.dtime
    ((s.cmtState n cmtBrake).updPw n fun h => { h with sideAt := now }).updCm n fun h =>
      { h with brakes := h.brakes + 1, phaseEnd := now + s.rd AX.CMT_TIMES.BRAKE_T n * msTicks }
/-- LISTEN_END (R141, R142): four consistent crossings, or LISTEN_T ms, end LISTEN, and the start is decided. -/
def execListenEnd (n : Fin 48) (s : State) : Host.Outcome State Fault Refusal :=
  let st := s.rd AX.CMT_STATUS.STATE n
  let h := s.cm n
  if !(st == cmtListen || st == cmtWait) then .next s else
  match consistent h.cross, h.cross with
  | some fwd, (k, t4) :: l =>
    let t1 := (l.getLastD (k, t4)).2
    let mag := rne (2 ^ 47) (t4 - t1 : Nat)
    let om := if fwd then mag else -mag
    let th := s.crossingAngle n (if fwd then k else (k + 3) % 6)
    let s := ((s.put AX.CMT_STATUS.DIR (!fwd) n).wrS AX.CMT_MEAS_SPD.VALUE om n).wr AX.CMT_MEAS_ANGLE.VALUE (ofS 24 th) n
    .next (s.decideMotion n th om t4)
  | _, _ => if h.phaseEnd ≤ s.dtime then .next (s.standstill n) else .next s
/-- WAIT_TIMEOUT (R142): WAIT_MAX × 100 ms of waiting have passed. -/
def execWaitTimeout (n : Fin 48) (s : State) : Host.Outcome State Fault Refusal :=
  match (s.cm n).waitEnd with
  | some t => if s.rd AX.CMT_STATUS.STATE n = cmtWait ∧ t ≤ s.dtime then .next (s.startFail n 6) else .next s
  | none => .next s
/-- BRAKE_END (R142): BRAKE_T ms of braking have passed: the start listens again; after BRAKE_N brakings a motion still opposite then ends it
with BRAKE_EXHAUSTED. -/
def execBrakeEnd (n : Fin 48) (s : State) : Host.Outcome State Fault Refusal :=
  let h := s.cm n
  if s.rd AX.CMT_STATUS.STATE n ≠ cmtBrake ∨ s.dtime < h.phaseEnd then .next s
  else .next (s.listen n cmtListen)
/-- ALIGN_END (R144): ALIGN_T ms of alignment have passed. -/
def execAlignEnd (n : Fin 48) (s : State) : Host.Outcome State Fault Refusal :=
  if s.rd AX.CMT_STATUS.STATE n = cmtAlign ∧ (s.cm n).phaseEnd ≤ s.dtime then .next (s.openBegin n (s.cm n).angle) else .next s
/-- HANDOVER_FAIL (R144): OPEN_T × 10 ms have passed without handover. -/
def execHandoverFail (n : Fin 48) (s : State) : Host.Outcome State Fault Refusal :=
  if s.rd AX.CMT_STATUS.STATE n = cmtOpen ∧ (s.cm n).phaseEnd ≤ s.dtime then .next (s.startFail n 8) else .next s
/-- The sign OPEN turns in: that of TARGET, forward for 0. -/
def State.openSign (s : State) (n : Nat) : Int := if s.rdS AX.SPD_TARGET.VALUE n < 0 then -1 else 1
/-- Handover is due at a step (R144): REF has reached ±SPD_HAND and HAND_N crossings in a row fit. -/
def State.handoverDue (s : State) (n : Nat) : Bool :=
  s.rd AX.CMT_STATUS.STATE n == cmtOpen && absI (s.rdS AX.SPD_REF.REF n) == (s.rd AX.CMT_SPD_HAND.VALUE n : Int)
    && decide (s.rd AX.CMT_LIMITS.HAND_N n ≤ (s.cm n).good.length)
/-- Handover at sampling instant `ts` (R144). The speed over a single crossing is open. -/
def State.handover (s : State) (n ts : Nat) : State :=
  let nH := s.rd AX.CMT_LIMITS.HAND_N n
  let l := (s.cm n).good.take nH
  match l with
  | [] => s
  | (k, tN) :: _ =>
    let t1 := (l.getLastD (k, tN)).2
    let d := s.draw
    let sg := s.openSign n
    let om := if nH ≤ 1 then toS 32 (d.1 % 2 ^ 32) else satS 32 (sg * rne ((nH - 1 : Nat) * 2 ^ 48) (6 * (tN - t1) : Nat))
    let s := if nH ≤ 1 then d.2 else s
    let s := s.obsPreset n (s.crossingAngle n k + rneShr (om * ((ts : Int) - tN)) 24) om ts
    let iq := sg * (s.rd AX.CMT_I_OPEN.VALUE n : Int)
    let ff := s.loadFf n
    let s := s.raiseIf (!(cmpExact (s.cmpOrder (cmpS n)) (s.fo n).cs)) AX.FOC_STATUS.PRESET_INEXACT n
    let s := s.updFo n fun h => { h with cs := cmpPreset h.cs (iq - ff), iqPend := iq, spdPend := none, prevSpd := s.flag AX.FOC_CTRL.SPD_EN n, prevMan := s.flag AX.FOC_CTRL.CUR_MAN n, fresh := false }
    (s.raise AX.FOC_CTRL.RUN n).startEnd n 2
/-- The start logic's angle and speed at instant `ts` (R144): in OPEN the ramp moves REF toward ±SPD_HAND, unless HOLD or the lag band stops it
(R128), and the angle advances at it. -/
def State.startAngle (s : State) (n ts : Nat) : Int × Int × State :=
  let h := s.cm n
  if s.rd AX.CMT_STATUS.STATE n ≠ cmtOpen then (toS 24 (s.rd AX.CMT_OFS.OFS n), 0, s) else
  let dt := ts - h.angleAt
  let s := s.clear AX.SPD_STATUS.LAG_HOLD n
  let r := s.rampNext n (s.openSign n * (s.rd AX.CMT_SPD_HAND.VALUE n : Int)) dt
  let lag := s.rampLags n r.1 (s.tbSpeed n)
  let s := s.raiseIf (!(s.flag AX.SPD_CTRL.HOLD n) && lag) AX.SPD_STATUS.LAG_HOLD n
  let r := if s.flag AX.SPD_CTRL.HOLD n || lag then (s.rdS AX.SPD_REF.REF n, (s.fo n).rem) else r
  let th := toS 24 (ofS 24 (h.angle + rneShr (s.rdS AX.SPD_REF.REF n * dt) 24))
  let s := ((s.wrS AX.SPD_REF.REF r.1 n).updFo n fun f => { f with rem := r.2 }).atTarget n
  (th, r.1, s.updCm n fun h => { h with angle := th, angleAt := ts })

/-- In the clock after an ABORT the start that still runs ends, and EN clears (R145). -/
def State.abortClock (s : State) : State :=
  s.forEach axes fun s n =>
    if !(s.cm n).abort then s else
    let s := s.updCm n fun h => { h with abort := false }
    if s.rd AX.CMT_STATUS.STATE n = 0 then s else s.startFail n resAborted
/-- The effect of a write of AX.CMT_START (R140, R145): an ABORT ends the start in the next clock. -/
def State.fxCmtStart (s : State) (n v : Nat) : State × WErr :=
  let st := s.rd AX.CMT_STATUS.STATE n
  let s :=
    if !(bit v 0) then s
    else if s.axOn n && s.flag AX.PWM_CTRL.SRC n && !(s.flag AX.FOC_CTRL.RUN n) && st == 0 then
      (s.wr AX.CMT_STATUS.RESULT 0 n).listen n cmtListen
    else s.raise AX.CMT_STATUS.GO_REFUSED n
  (if bit v 1 && s.rd AX.CMT_STATUS.STATE n != 0 then s.updCm n fun h => { h with abort := true } else s, .ok)
/-- START_GO (R140): a write of AX.CMT_START with GO = 1. -/
def execStartGo (m : Fin 64) (n : Fin 48) (s : State) : Host.Outcome State Fault Refusal :=
  .next (s.busWriteWith m (AX.CMT_START.GO.addr n) false fun s => s.fxCmtStart n 1)
/-- START_ABORT (R145): a write of AX.CMT_START with ABORT = 1. -/
def execStartAbort (m : Fin 64) (n : Fin 48) (s : State) : Host.Outcome State Fault Refusal :=
  .next (s.busWriteWith m (AX.CMT_START.GO.addr n) false fun s => s.fxCmtStart n 2)
/-- The effect of a write of AX.CMT_CTRL (R130): LW_EN = 1 needs OWNER = 1. -/
def State.fxCmtCtrl (s : State) (n v : Nat) : State × WErr :=
  if bit v 0 && !(s.flag AX.PV_CFG.OWNER n) then
    let r := s.writeFields (AX.CMT_CTRL.LW_EN.addr n) (setBit v 0 false)
    (r.1.raise AX.CMT_STATUS.CFG_REFUSED n, r.2)
  else s.writeFields (AX.CMT_CTRL.LW_EN.addr n) v
/-- The effect of a write of AX.CMT_LW (R131): a DECAY above ⌊LEN / 2⌋ is a reserved encoding; under the lock a differing write is an error (R14). -/
def State.fxCmtLw (s : State) (n v : Nat) : State × WErr :=
  let len := if 256 ≤ bits v 10 0 ∧ bits v 10 0 ≤ 1920 then bits v 10 0 else s.rd AX.CMT_LW.LEN n
  let a := AX.CMT_LW.LEN.addr n
  let r := s.writeFields a (if len / 2 < bits v 21 12 then setBits v 21 12 (s.rd AX.CMT_LW.DECAY n) else v)
  (r.1, if s.lockedDiffers a v then .locked else r.2)

end Sys2Proof.Machine
end

