-- ==== Sys2Proof/Machine/LoopStep.lean ====
section
/-!
DEFINITION. The loop step of an axis from its sampling instant to its commit (R107 to R124, R176 to R183), the completion of the jobs it
waits for, and the commands on the loop's registers; EN of an axis (R57, R75).
-/
namespace Sys2Proof.Machine

/-! ### Conclusion of a step -/

/-- The corrected position of the step (R137): c at its instant; the axis's motor-shaft timebase takes the estimate (R40, R138). During a
start the correction is inactive and the timebase takes the observers' estimate. -/
def State.stepPosition (s : State) (n : Nat) (st : StepH) : Int × Int × State :=
  let o := s.ob n
  let h := s.cm n
  let c := if st.mode = 0 then h.corrAt st.ts else 0
  let th := toS 24 (ofS 24 (o.th + c))
  let om := satS 32 (o.om + if st.mode = 0 then h.sc else 0)
  let ext := h.elec + rneShr (h.omega * ((st.ts : Int) - h.at_)) 24
  let elec := toS 64 (ofS 64 (ext + toS 24 (ofS 24 (th - ext))))
  let s := if st.mode = 0 then s.wrS AX.CMT_CORR.VALUE c n else s
  let s := s.updCm n fun h => { h with elec := elec }
  let num := s.rd TB.RATIO.NUM n
  let den := s.rd TB.RATIO.DEN n
  let s := s.tbUpdate n 1 (scaleRatio elec num den) (scaleRatio om num den) st.ts
  if st.mode = 0 then (th, om, s)
  else s.startAngle n st.ts
/-- The transfers of a step from manual to automatic (R123, R124), current loop first. Until the speed loop's first output the step uses the preset's
IQ_REF or measured iq as iq_ref (the model's choice: R123 and R125 leave it open; assumption log 31). -/
def State.transfers (s : State) (n : Nat) (st : StepH) (ffd ffq iq : Int) : State :=
  let h := s.fo n
  let s := s.put AX.SPD_STATUS.HELD (st.man && st.spd) n
  let lf := s.loadFf n
  let cur := !h.fresh && h.prevMan && !st.man
  let spdIn := !h.fresh && !h.prevSpd && st.spd
  let spdCur := cur && h.prevSpd && st.spd
  let inex := (cur && !(cmpExact (s.cmpOrder (cmpD n)) h.cd && cmpExact (s.cmpOrder (cmpQ n)) h.cq))
    || ((spdIn || spdCur) && !(cmpExact (s.cmpOrder (cmpS n)) h.cs))
  let s := s.raiseIf inex AX.FOC_STATUS.PRESET_INEXACT n
  let vd := s.rdS AX.FOC_VD_MAN.VALUE n - ffd
  let vq := s.rdS AX.FOC_VQ_MAN.VALUE n - ffq
  let s := if cur then s.updFo n fun h => { h with cd := cmpPreset h.cd vd, cq := cmpPreset h.cq vq } else s
  let pre (s : State) (v : Int) : State := s.updFo n fun h => { h with cs := cmpPreset h.cs (v - lf), iqPend := v, spdPend := none }
  let s := if spdCur then pre s iq else s
  let s := if spdIn then pre s (s.rdS AX.FOC_IQ_REF.VALUE n) else s
  s.updFo n fun h => { h with prevMan := st.man, prevSpd := st.spd, fresh := false }
/-- id_ref and iq_ref of the step (R116, R126, R144, R156), and y_f of the speed step that gave iq_ref (R115). -/
def State.stepRefs (s : State) (n : Nat) (st : StepH) (om : Int) : Int × Int × State :=
  let none_ := ((s.clear AX.SPD_STATUS.TQ_LIM n).clear AX.SPD_STATUS.BUS_LIMITED n).clear AX.BUS_STATUS.ABSORBING n
  if st.mode = 1 then ((s.rd AX.CMT_I_ALIGN.VALUE n : Int), 0, none_)
  else if st.mode = 2 then (0, s.openSign n * (s.rd AX.CMT_I_OPEN.VALUE n : Int), none_)
  else
    let auto := st.spd
    let raw := if auto then (s.fo n).iqPend else s.rdS AX.FOC_IQ_REF.VALUE n
    let r := s.torqueLimit n raw om
    let s := r.2.2
    let s := match (s.fo n).spdPend with
      | some (e, yu, ff) =>
        let aw := s.rd CMP.CFG.AW (cmpS n)
        if auto && !st.man then
          let yf := satS 32 (r.1 - r.2.1 - ff)
          s.updFo n fun h => { h with cs := cmpStore aw h.cs e yu yf, spdPend := none }
        else s.updFo n fun h => { h with spdPend := none }
      | none => s
    let s := if auto && s.flag AX.FOC_CTRL.TRACK n then s.wrS AX.FOC_IQ_REF.VALUE r.1 n else s
    (s.rdS AX.FOC_ID_REF.VALUE n, r.1, s)
/-- The advance of the output angle (R112). -/
def State.stepAdv (s : State) (n : Nat) (st : StepH) : Int :=
  match s.rd AX.FOC_CTRL.ADV_MODE n with
  | 1 => (st.nextB : Int) - st.ts + st.top
  | 2 => s.rd AX.FOC_ADV.ADV n
  | _ => 0
/-- From the position and the references of the step to its three duties, the commit request and the power of the step (R111 to R121, R164). -/
def State.stepCurrent (s : State) (n : Nat) (st : StepH) (th om : Int) : State :=
  let i := park st.ialpha st.ibeta (ofS 24 th)
  let ff := if st.man then (0, 0) else s.feedForward n om i.1 i.2
  let s := s.transfers n st ff.1 ff.2 i.2
  let r := s.stepRefs n st om
  let s := r.2.2
  let f := s.fo n
  let ed := satS 32 (r.1 - i.1)
  let eq_ := satS 32 (r.2.1 - i.2)
  let yud := cmpRaw (s.cmpOrder (cmpD n)) f.cd ed
  let yuq := cmpRaw (s.cmpOrder (cmpQ n)) f.cq eq_
  let vd := if st.man then s.rdS AX.FOC_VD_MAN.VALUE n else satS 32 (cmpClamp f.cd yud + ff.1)
  let vq := if st.man then s.rdS AX.FOC_VQ_MAN.VALUE n else satS 32 (cmpClamp f.cq yuq + ff.2)
  let code := s.busCode n
  let vmin := s.rd AX.FOC_VBASE.VMIN n
  let s := s.raiseIf (decide (code < vmin)) AX.FOC_STATUS.BUS_LOW n
  let bus := max code vmin
  let s := s.wr AX.FOC_VBUS.VBUS bus n
  let base := s.rd AX.FOC_VBASE.VBASE n
  let ud0 := satS 32 (divQ (vd * base) bus)
  let uq0 := satS 32 (divQ (vq * base) bus)
  let thOut := ofS 24 (th + rneShr (om * s.stepAdv n st) 24)
  let u := s.vectorLimit n thOut ud0 uq0
  let red := u != (ud0, uq0)
  let s := s.put AX.FOC_STATUS.VLIM red n
  let s := if red then s.incWrap AX.FOC_STATUS.VLIM_CNT n else s
  let vdF := if red then satS 32 (divQ (u.1 * bus) base) else vd
  let vqF := if red then satS 32 (divQ (u.2 * bus) base) else vq
  let yfd := if red then satS 32 (vdF - ff.1) else cmpClamp f.cd yud
  let yfq := if red then satS 32 (vqF - ff.2) else cmpClamp f.cq yuq
  let awD := s.rd CMP.CFG.AW (cmpD n)
  let awQ := s.rd CMP.CFG.AW (cmpQ n)
  let s := if st.man then s else s.updFo n fun h => { h with cd := cmpStore awD h.cd ed yud yfd, cq := cmpStore awQ h.cq eq_ yuq yfq }
  let s := if !st.man && s.flag AX.FOC_CTRL.TRACK n then (s.wrS AX.FOC_VD_MAN.VALUE vdF n).wrS AX.FOC_VQ_MAN.VALUE vqF n else s
  let ab := invPark u.1 u.2 thOut
  let v := phases ab.1 ab.2
  let mm := max3 v + min3 v
  let s := s.wr AX.FOC_STATUS.SECTOR (sectorOf ab.1 ab.2) n
  let s := s.planWindow n st th om [st.ialpha, st.ib, st.ic]
  let s := s.phaseDuty n 0 st.top st.nextB v.1 mm st.ialpha
  let s := s.phaseDuty n 1 st.top st.nextB v.2.1 mm st.ib
  let s := s.phaseDuty n 2 st.top st.nextB v.2.2 mm st.ic
  let p : Int := 3 * (u.1 * i.1 + u.2 * i.2) * bus * (let b := s.rd AX.BUS_CFG.SEG n; if b < 8 then s.rd BUS.VSCALE.VSCALE b else 0) * s.rd AX.BUS_ISCALE.VALUE n
  let s := (s.commitRequest n).updPw n fun h => { h with stepP := some p }
  let s := s.updFo n fun h => { h with ualpha := ab.1, ubeta := ab.2, id := i.1, iq := i.2 }
  let s := (s.monAdd (monLoop n 0) i.1 st.ts false).monAdd (monLoop n 1) i.2 st.ts false
  (s.monAdd (monLoop n 2) vdF st.ts false).monAdd (monLoop n 3) vqF st.ts false
/-- A speed-loop step is due in the period of the step (R125). -/
def State.speedDue (s : State) (n : Nat) (st : StepH) : Bool :=
  st.mode == 0 && st.spd && (st.period - (s.fo n).steps) % (s.rd AX.SPD_CTRL.DIV n + 1) == 0
/-- The LEAD of a pair sends the shadow record of a paired axis's loop step (R333). -/
def State.sendShadow (s : State) (n : Nat) (st : StepH) : State :=
  if s.flag AX.SAF_CFG.PAIR n && !(s.flag TWN.CFG.ROLE) then
    let f := s.fo n
    s.twinSend pkShadow (Config.linkBytes pkShadow [n, st.ts, ofS 32 st.ialpha, ofS 32 st.ibeta, ofS 32 f.ualpha, ofS 32 f.ubeta, s.busCode n])
  else s
/-- A step concludes once its evaluations have an outcome: the estimates, the loops and the commit. -/
def State.concludeStep (s : State) (n : Nat) : State :=
  match (s.fo n).step with
  | none => s
  | some st =>
    let s := s.sendShadow n st
    let s := s.classicStep n st.ts st.ialpha st.ibeta (max (s.busCode n) (s.rd AX.FOC_VBASE.VMIN n))
    let s := s.obsDeliver n st.ts st.evals
    if s.axOn n = false then s.updFo n fun h => { h with step := none } else
    let p := s.stepPosition n st
    let s := p.2.2.updCm n fun h => { h with theta := p.1, omega := p.2.1, at_ := st.ts }
    let s := s.stepCurrent n st p.1 p.2.1
    let s := if s.speedDue n st then s.speedStep n st.ts st.man else s
    (s.updFo n fun h => { h with step := none }).correctLate n
/-- The step of an axis concludes if every evaluation of it has an outcome. -/
def State.tryConclude (s : State) (n : Nat) : State :=
  match (s.fo n).step with
  | none => s
  | some st => if st.evals.all EvalH.isOver then s.concludeStep n else s
/-- Evaluations of the step of an axis that are not complete are late (R182). -/
def State.stepLate (s : State) (n : Nat) : State :=
  s.updFo n fun h => { h with step := h.step.map fun st => { st with evals := st.evals.map fun e => if e.isOver then e else { e with late := true } } }

/-! ### The sampling instant -/

/-- The sampling instant of the present period, and whether it was moved (R107, R108). -/
def State.sampleAt (s : State) (n : Nat) : Nat × Bool :=
  let top : Int := s.rd AX.PWM_ACT_PERIOD.TOP n
  let x := top + toS 18 (s.rd AX.FOC_SAMP.POS n)
  let y := clampI 1 (2 * top - 644) x
  ((s.pw n).lastB + y.toNat, decide (x ≠ y))
/-- The mode of a loop step that may run (R107, R144): 0 the loop, 1 ALIGN, 2 OPEN. -/
def State.loopMode (s : State) (n : Nat) : Option Nat :=
  if !(s.axOn n) || !(s.flag AX.PWM_CTRL.SRC n) || (s.pw n).periods == 0 then none
  else if s.flag AX.FOC_CTRL.RUN n then some 0
  else if s.rd AX.CMT_STATUS.STATE n = 4 then some 1
  else if s.rd AX.CMT_STATUS.STATE n = 5 then some 2
  else none
/-- A step starts (R107, R114, R123, R144): handover where it is due, coefficients, mode bits, sampling and release of the evaluations. -/
def State.stepStart (s : State) (n ts mode : Nat) (ra rb rk : Int) : State :=
  let s := if s.handoverDue n then s.handover n ts else s
  let mode := if s.flag AX.FOC_CTRL.RUN n then 0 else mode
  let h := s.fo n
  let d := s.cmpTake (cmpD n) h.cd
  let q := s.cmpTake (cmpQ n) h.cq
  let c := s.cmpTake (cmpS n) h.cs
  let per := (s.pw n).periods
  let s := s.updFo n fun h => { h with cd := d, cq := q, cs := c, stepOf := per, steps := if h.fresh then per else h.steps }
  let r := s.sampleCurrents n ts ra rb rk
  let s := r.2.2
  let ia := r.1 * 65536
  let ib := r.2.1 * 65536
  let k := clarke ia ib
  let man := mode == 0 && s.flag AX.FOC_CTRL.CUR_MAN n
  let spd := mode == 0 && s.flag AX.FOC_CTRL.SPD_EN n
  let li := s.limsNow n
  let e := s.obsRelease n ts k.1 k.2.1
  e.2.updFo n fun h => { h with
    step := some { ts := ts, ialpha := k.1, ibeta := k.2.1, ib := ib, ic := k.2.2, mode := mode, top := s.rd AX.PWM_PERIOD.TOP n,
                   nextB := (s.pw n).nextB.getD 0, man := man, spd := spd, period := per, evals := e.1, lims := li } }
/-- LOOP_STEP (R107 to R109, R122): the sampling instant of a period of axis `n` with the raw codes of its converters. A step still waiting
for estimates is late. A trigger that is not converted leaves the active pair and every history. -/
def execLoopStep (n : Fin 48) (ra rb rk : Int) (s : State) : Host.Outcome State Fault Refusal :=
  match s.loopMode n with
  | none => .next s
  | some mode =>
    let t := s.sampleAt n
    if s.dtime < t.1 ∨ t.1 < (s.fo n).notBefore ∨ (s.fo n).stepOf = (s.pw n).periods then .next s else
    let s := if (s.fo n).step.isSome then (s.stepLate n).concludeStep n else s
    let s := s.raiseIf t.2 AX.FOC_STATUS.SAMP_CLAMP n
    if s.trigOk n t.1 then .next ((s.stepStart n t.1 mode ra rb rk).tryConclude n)
    else .next (((s.trigDrop n).incSat AX.FOC_STATUS.SKIP_CNT n).updFo n fun h => { h with stepOf := (s.pw n).periods })

/-! ### Lanes -/

/-- Lane `i` completes its job, with other outputs than the network's where it is defective; the axis's BACKGROUND evaluations are judged, or its
step concludes. A FOREGROUND job that passed its deadline is late, and its result discarded (R182). -/
def State.laneDone (s : State) (i : Nat) (defect : Option (List Int)) : State :=
  match s.laneJob i with
  | none => s
  | some (j, t) =>
    if s.dtime < t + j.cost then s else
    let s := if j.fg && decide (j.ts + 488 < s.dtime) then s.updEval j fun e => { e with late := true } else s
    ((s.laneComplete i j defect).bgJudge j.axis).tryConclude j.axis
/-- OBS_JOB_COMPLETE (R178): an observer lane completes its job. -/
def execObsJobComplete (i : LaneEnd 12) (s : State) : Host.Outcome State Fault Refusal := .next (s.laneDone i.lane i.defect)
/-- PEWTER_CHECK_COMPLETE (R183): a Pewter lane completes its check. -/
def execPewterCheckComplete (i : LaneEnd 4) (s : State) : Host.Outcome State Fault Refusal := .next (s.laneDone (12 + i.lane) i.defect)
/-- OBS_LATE (R182): FOREGROUND jobs of the step not complete at t_s + 488 ticks make their evaluations late. -/
def execObsLate (n : Fin 48) (s : State) : Host.Outcome State Fault Refusal :=
  match (s.fo n).step with
  | none => .next s
  | some st => if st.ts + 488 ≤ s.dtime then .next ((s.stepLate n).tryConclude n) else .next s
/-- Lanes are fenced by cause 0 (a failed test) or 1 (command), and the plan recomputed (R182). -/
def State.lanesFence (s : State) (ls : List Nat) (cause : Nat) : State :=
  let use := ls.filter fun i => if i < 12 then s.rdBit OBS.LANES.USABLE i else s.rdBit OBS.LANES.P_USABLE (i - 12)
  if use = [] then s else
  let hit := use.filterMap fun i => (s.laneJob i).map (·.1.axis)
  let s := (s.forEach use fun s i => s.laneFenceOne i cause).obsReplan
  s.forEach hit fun s n => (s.bgJudge n).tryConclude n
/-- The effect of a write of OBS.LANE_FENCE (R182). -/
def State.fxLaneFence (s : State) (v : Nat) : State × WErr :=
  let r := s.writeFields OBS.LANE_FENCE.FENCE.base v
  (r.1.lanesFence ((List.range 16).filter fun i => bit v i) 1, r.2)
/-- OBS_LANE_FENCE (R182): a write of OBS.LANE_FENCE. -/
def execObsLaneFence (m : Fin 64) (v : Word) (s : State) : Host.Outcome State Fault Refusal :=
  .next (s.busWriteWith m OBS.LANE_FENCE.FENCE.base true fun s => s.fxLaneFence v.toNat)

/-! ### Registers of the loops -/

/-- The effect of a write of AX.FOC_CTRL (R145): RUN = 1 during a start is refused. -/
def State.fxFocCtrl (s : State) (n v : Nat) : State × WErr :=
  let a := AX.FOC_CTRL.RUN.addr n
  if bit v 0 && s.rd AX.CMT_STATUS.STATE n != 0 then
    let r := s.writeFields a (setBit v 0 false)
    (r.1.raise AX.CMT_STATUS.CFG_REFUSED n, r.2)
  else s.writeFields a v
/-- The effect of a write of AX.FOC_IQ_REF, _VD_MAN or _VQ_MAN at `a` (R124): refused under TRACK while the loop is automatic, the current loop
also in ALIGN and OPEN. -/
def State.fxFocManual (s : State) (n a v : Nat) : State × WErr :=
  let start := s.rd AX.CMT_STATUS.STATE n == cmtAlign || s.rd AX.CMT_STATUS.STATE n == cmtOpen
  let auto := if a = AX.FOC_IQ_REF.VALUE.addr n then s.flag AX.FOC_CTRL.SPD_EN n else !(s.flag AX.FOC_CTRL.CUR_MAN n) || start
  if s.flag AX.FOC_CTRL.TRACK n && auto then (s.raise AX.FOC_STATUS.MAN_REFUSED n, .ok) else s.writeFields a v
/-- The effect of a write of CMP_CFG of compensator `which` (0 d, 1 q, 2 speed) (R114). -/
def State.fxCmpCfg (s : State) (n which v : Nat) : State × WErr :=
  let r := s.writeFields (if which = 0 then cmpD n else if which = 1 then cmpQ n else cmpS n) v
  if bit v 3 then
    (r.1.updFo n fun h => match which with
      | 0 => { h with cd := { h.cd with apply := true } }
      | 1 => { h with cq := { h.cq with apply := true } }
      | _ => { h with cs := { h.cs with apply := true } }, r.2)
  else r
/-- The effect of a write of AX.SPD_CTRL (R128). -/
def State.fxSpdCtrl (s : State) (n v : Nat) : State × WErr :=
  let r := s.writeFields (AX.SPD_CTRL.DIV.addr n) v
  (if bit v 13 then r.1.updFo n fun h => { h with preset := true } else r.1, r.2)
/-- The effect of a write of AX.SPD_TARGET (R127, R128). -/
def State.fxSpdTarget (s : State) (n v : Nat) : State × WErr :=
  let r := s.writeFields (AX.SPD_TARGET.VALUE.addr n) v
  (r.1.atTarget n, r.2)
/-- CMP_APPLY (R114): a write of CMP_CFG with APPLY = 1. -/
def execCmpApply (m : Fin 64) (n : Fin 48) (which : Fin 3) (v : Word) (s : State) : Host.Outcome State Fault Refusal :=
  .next (s.busWriteWith m (if which.val = 0 then cmpD n else if which.val = 1 then cmpQ n else cmpS n) false
    fun s => s.fxCmpCfg n which (setBit v.toNat 3 true))
/-- SPD_PRESET (R128): a write of AX.SPD_CTRL with PRESET = 1. -/
def execSpdPreset (m : Fin 64) (n : Fin 48) (v : Word) (s : State) : Host.Outcome State Fault Refusal :=
  .next (s.busWriteWith m (AX.SPD_CTRL.DIV.addr n) false fun s => s.fxSpdCtrl n (setBit v.toNat 13 true))

/-- PWM_PERIOD_BOUNDARY (R50, R56 to R58, R61, R65 to R67, R164, R188): the boundary of a period, and an escalation that waited for it. -/
def execPwmPeriodBoundary (n : Fin 48) (s : State) : Host.Outcome State Fault Refusal := .next ((s.pwmBoundary n).obsEscAct n)

/-! ### EN -/

/-- The effect of a write of AX.PWM_CTRL (R57, R61, R64, R75): SRC changes only while EN = 0; EN = 1 is granted or refused; EN = 0 puts the
outputs at their inactive level. -/
def State.fxPwmCtrl (s : State) (n v : Nat) : State × WErr :=
  let a := AX.PWM_CTRL.EN.addr n
  let on := s.axOn n
  let keep := on && (bit v 1 != s.flag AX.PWM_CTRL.SRC n)
  let e : WErr := if keep && s.lockedDiffers a v then .locked else .ok
  let v := if keep then setBit v 1 (s.flag AX.PWM_CTRL.SRC n) else v
  let r := s.writeFields a (setBit v 0 on)
  let s := r.1.raiseIf keep AX.PWM_STATUS.CFG_REFUSED n
  if on then (if bit v 0 then s else s.axisOff n 0 resAborted, if e = .locked then e else r.2)
  else if !(bit v 0) then (s, if e = .locked then e else r.2)
  else if s.enRefused n then (s.raise AX.PWM_STATUS.EN_REFUSED n, if e = .locked then e else r.2)
  else ((s.axisOn n).obsEnable n, if e = .locked then e else r.2)
/-- AXIS_ENABLE (R57, R75): a write of AX.PWM_CTRL with EN = 1. -/
def execAxisEnable (m : Fin 64) (n : Fin 48) (v : Word) (s : State) : Host.Outcome State Fault Refusal :=
  .next (s.busWriteWith m (AX.PWM_CTRL.EN.addr n) false fun s => s.fxPwmCtrl n (setBit v.toNat 0 true))
/-- AXIS_DISABLE (R75): a write of AX.PWM_CTRL with EN = 0. -/
def execAxisDisable (m : Fin 64) (n : Fin 48) (v : Word) (s : State) : Host.Outcome State Fault Refusal :=
  .next (s.busWriteWith m (AX.PWM_CTRL.EN.addr n) false fun s => s.fxPwmCtrl n (setBit v.toNat 0 false))

end Sys2Proof.Machine
end

