-- ==== Sys2Proof/Machine/SafetyIo.lean ====
section
/-!
DEFINITION. The safety manager's groups, safe inputs, STO test pulses, the watchdog island, acknowledgement, and the safety
configuration with its lock and CRC (R310 to R315, R321, R329, R332).
-/
namespace Sys2Proof.Machine

/-- A safe input beside the registers. -/
def State.si (s : State) (k : Nat) : SafInH := Tab.get {} s.safIns k
def State.updSi (s : State) (k : Nat) (f : SafInH → SafInH) : State := { s with safIns := Tab.put {} s.safIns k (f (s.si k)) }
/-- A safe input is active when either filtered channel is at the level POL gives (R314). -/
def State.siActive (s : State) (k : Nat) : Bool :=
  let p := s.flag SAF.SI_CFG.POL 0 k
  (s.si k).a == p || (s.si k).b == p
/-- The axes on whose groups safe input `k` acts. -/
def State.siAxes (s : State) (k : Nat) : List Nat :=
  axes.filter fun n => s.groupOfAxis n < 16 && s.rdBit SAF.SI_GROUPS.GROUPS (s.groupOfAxis n) 0 k
/-- SLS_ACT of every axis shows whether SLS is active (R319). -/
def State.slsShow (s : State) : State := s.forEach axes fun s n => s.put AX.SAF_STATUS.SLS_ACT (s.slsActive n) n
/-- Safe input `k` takes effect as its levels and its configuration now stand (R311, R314, R318, R319). -/
def State.siEval (s : State) (k : Nat) : State :=
  let was := s.rdBit SAF.SI_STATE.LOW k
  let act := s.siActive k
  let s := s.wrBit SAF.SI_STATE.LOW k act
  let s := if act && !was && s.rd SAF.SI_CFG.FUNC 0 k == 2 then s.forEach (s.siAxes k) fun s n => s.ss1Start n 0 else s
  (s.stoEval 0).slsShow
/-- The discrepancy of safe input `k` starts or ends with its levels (R314). -/
def State.siDiffer (s : State) (k : Nat) : State :=
  let d := (s.si k).a != (s.si k).b
  let now := s.dtime
  let s := s.updSi k fun h => { h with differ := if d then (match h.differ with | some t => some t | none => some now) else none }
  if d then s else s.wrBit SAF.SI_STATE.HIGH k false

/-- SAFE_INPUT_CHANGE (R314): the ball of channel A or B of safe input `k` has stood at a level since a clock; once the level has passed the
filter of SI_FILT × 100 µs it is the channel's. -/
def execSafeInputChange (k : Fin 16) (chB : Bool) (level : PinLevel) (s : State) : Host.Outcome State Fault Refusal :=
  if s.ballPassed level (s.rd SAF.SI_CFG.SI_FILT 0 k * 100 * usTicks) then
    let s := s.updSi k fun h => if chB then { h with b := level.level } else { h with a := level.level }
    .next ((s.siDiffer k).siEval k)
  else .next s
/-- SI_DISC (R314): the channels of safe input `k` have differed for longer than DISC ms: STO of the input's groups (R330). -/
def execSiDisc (k : Fin 16) (s : State) : Host.Outcome State Fault Refusal :=
  match (s.si k).differ with
  | none => .next s
  | some t =>
    if s.rdBit SAF.SI_STATE.HIGH k = false ∧ t + s.rd SAF.SI_CFG.DISC 0 k * msTicks < s.dtime then
      let gs := groups.filter fun g => s.rdBit SAF.SI_GROUPS.GROUPS g 0 k
      .next ((s.wrBit SAF.SI_STATE.HIGH k true).groupFault 1 (gs.headD 0) gs)
    else .next s

/-! ### STO requests, acknowledgement -/

/-- The effect of a write of SAF.STO_REQ (R311). -/
def State.fxStoReq (s : State) (v : Nat) : State × WErr :=
  let r := s.writeFields SAF.STO_REQ.GROUPS.base v
  (r.1.stoEval 0, r.2)
/-- STO_REQ_WRITE (R311): a write of SAF.STO_REQ. -/
def execStoReqWrite (m : Fin 64) (v : Word) (s : State) : Host.Outcome State Fault Refusal :=
  .next (s.busWriteWith m SAF.STO_REQ.GROUPS.base true fun s => s.fxStoReq v.toNat)

/-- The cause of fault `code` on axis `n` still holds (R329). Causes that are moments (a readback, a violated ramp, a lock-step mismatch,
a failed test, an escalation) have ended; those of a segment (14 to 16) leave the list of causes when they end. -/
def State.causeHolds (s : State) (n code : Nat) : Bool :=
  let g := s.groupOfAxis n
  match code with
  | 1 => (List.range 16).any fun k => s.rdBit SAF.SI_STATE.HIGH k && g < 16 && s.rdBit SAF.SI_GROUPS.GROUPS g 0 k
  | 3 => s.slsActive n && decide (s.rd AX.SAF_SLS.SLS_LIM n < s.rd AX.SAF_SPEED.SPEED n)
  | 5 => decide (s.rd AX.SAF_CFG.SPD_N n ≤ (s.sx n).disc) || decide (s.rd AX.SAF_CFG.SPD_N n ≤ (s.sx n).discTwin)
  | 6 => s.flag AX.SAF_STATUS.SINGLE n
  | 7 => s.flag AX.CMT_STATUS.SYNC_LOST n
  | 9 => s.rd AX.ADC_HEALTH.FAIL n != 0
  | 10 => decide (2 ≤ popCount 3 (s.rd AX.ADC_HEALTH.FAIL n))
  | 14 | 15 | 16 => true
  | 18 => s.saf.clockBad
  | 19 => decide (3 ≤ s.saf.missed)
  | 20 => (List.range 64).any fun c => s.flag CTX.DIG_STATUS.TWIN_FENCED c && s.rdBit BAB.CTX_AXES n c
  | _ => false
/-- Acknowledging FAULTS: an axis all of whose causes have ended is left by its reaction, with its ceiling (R329). -/
def State.ackFaults (s : State) : State :=
  s.forEach axes fun s n =>
    let live := (s.sx n).causes.filter fun c => s.causeHolds n c
    let s := s.updSx n fun h => { h with causes := live }
    if live = [] then (s.updSx n fun h => { h with react := 0, ceil := none }).clear AX.SAF_STATUS.REACT n else s
/-- Acknowledging groups: a latched group without a cause leaves STO (R315). -/
def State.ackGroups (s : State) (mask : Nat) : State :=
  let gs := groups.filter fun g => bit mask g && !(s.stoCause g)
  (s.forEach gs fun s g => (s.wrBit SAF.GROUP_STATE.LOW g false).wrBit SAF.GROUP_STATE.HIGH g false).stoOutputs
/-- The effect of a write of SAF.ACK: groups are judged by the causes present at the write, then reactions are acknowledged. -/
def State.fxSafAck (s : State) (v : Nat) : State × WErr :=
  let s := s.ackGroups (bits v 15 0)
  (if bit v 16 then s.ackFaults else s, .ok)
/-- SAF_ACK_GROUPS (R315): a write of SAF.ACK with bits of GROUPS. -/
def execSafAckGroups (m : Fin 64) (v : Word) (s : State) : Host.Outcome State Fault Refusal :=
  .next (s.busWriteWith m SAF.ACK.GROUPS.base true fun s => s.fxSafAck (setBit v.toNat 16 false))
/-- SAF_ACK_FAULTS (R329): a write of SAF.ACK with FAULTS = 1. -/
def execSafAckFaults (m : Fin 64) (v : Word) (s : State) : Host.Outcome State Fault Refusal :=
  .next (s.busWriteWith m SAF.ACK.GROUPS.base true fun s => s.fxSafAck (setBit v.toNat 16 true))

/-! ### Outputs: test pulses, readback, the watchdog island -/

/-- The test pulses of a group. -/
def State.pulseOf (s : State) (g : Nat) : PulseH := Tab.get {} s.saf.pulses g
def State.updSaf (s : State) (f : SafH → SafH) : State := { s with saf := f s.saf }
/-- A pulse of group `g` may start on a channel (R313): the group is released; channel A once every PER ms, channel B PER / 2 after it. -/
def State.pulseDue (s : State) (g : Nat) (chB : Bool) : Bool :=
  let h := s.pulseOf g
  let per := s.rd SAF.STO_TEST.PER * msTicks
  let open_ := s.groupReleased g && !(s.stoActive g) && !(bit s.saf.pulseA g) && !(bit s.saf.pulseB g)
  open_ && (if chB then
      match h.a with
      | none => false
      | some a => decide (a + per / 2 ≤ s.dtime) && (match h.b with | none => true | some b => decide (b < a))
    else
      match h.a with
      | none => true
      | some a => decide (a + per ≤ s.dtime))
/-- STO_TEST_PULSE (R313): channel A or B of group `g` goes low for its test, or, PULSE × 10 µs later, high again. -/
def execStoTestPulse (g : Fin 16) (chB start : Bool) (s : State) : Host.Outcome State Fault Refusal :=
  let now := s.dtime
  let set (s : State) (x : Bool) : State :=
    (s.updSaf fun h => if chB then { h with pulseB := setBit h.pulseB g x } else { h with pulseA := setBit h.pulseA g x }).stoOutputs
  if start then
    if s.pulseDue g chB then
      let p := s.pulseOf g
      let q : PulseH := if chB then { p with b := some now } else { p with a := some now }
      .next (set (s.updSaf fun h => { h with pulses := Tab.put {} h.pulses g q }) true)
    else .next s
  else
    let at_ := if chB then (s.pulseOf g).b else (s.pulseOf g).a
    match at_ with
    | none => .next s
    | some t => .next (if t + s.rd SAF.STO_TEST.PULSE * 10 * usTicks ≤ now then set s false else s)
/-- A readback of an output of group `g` has differed from the commanded level for more than 10 µs (R313). -/
def State.readbackBad (s : State) (g : Nat) (r : StoReadback) : Bool :=
  let h := s.saf
  let level := bit (if r.chB then h.outB else h.outA) g
  let since := Tab.get 0 (if r.chB then h.bAt else h.aAt) g
  r.level != level && decide (max r.since since + 10 * usTicks < s.dtime)
/-- STO_READBACK_MISMATCH (R313): channel A or B of group `g` reads back a level since a clock: STO_FB once it has differed for more than 10 µs. -/
def execStoReadbackMismatch (g : Fin 16) (at_ : StoReadback) (s : State) : Host.Outcome State Fault Refusal :=
  .next (if s.readbackBad g at_ then s.groupFault 2 g [g] else s)
/-- HEARTBEAT_LOSS (R310): the safety manager's heartbeat has been absent for 100 µs: every channel B goes low. -/
def execHeartbeatLoss (s : State) : Host.Outcome State Fault Refusal := .next (s.updSaf fun h => { h with hbLost := true }).stoOutputs
/-- A clock lies outside ±2 % of nominal (R310). -/
def clockOut (d : ClockDev) : Bool := decide (20000 < absI d.timing ∨ 20000 < absI d.island)
/-- CLOCK (R310, R330): the island's clock monitor finds the clocks so far from nominal: every channel B low and STO of every group while one
lies outside ±2 %. -/
def execClock (dev : ClockDev) (s : State) : Host.Outcome State Fault Refusal :=
  let was := s.saf.clockBad
  let s := s.updSaf fun h => { h with clockBad := clockOut dev }
  .next (if clockOut dev && !was then s.groupFault 18 0 groups else s.stoOutputs)

/-! ### Configuration -/

/-- A write of a word of the safety configuration takes effect on inputs, groups and SLS at once. -/
def State.fxSafWord (s : State) (a v : Nat) : State × WErr :=
  let r := s.writeFields a v
  (((r.1.forEach (List.range 16) fun s k => s.wrBit SAF.SI_STATE.LOW k (s.siActive k)).stoEval 0).slsShow.stoOutputs, r.2)
/-- The effect of a write of SAF.CFG: FTTI 2 to 10, CYCLE 5 to 50 and at most FTTI / 4, else CFG_REFUSED (R321). -/
def State.fxSafCfg (s : State) (v : Nat) : State × WErr :=
  let a := SAF.CFG.FTTI.base
  let f := bits v 3 0
  let c := bits v 11 4
  if 2 ≤ f ∧ f ≤ 10 ∧ 5 ≤ c ∧ c ≤ 50 ∧ c ≤ 5 * f then s.writeFields a v
  else (s.raise SAF.STATUS.CFG_REFUSED, if s.flag SAF.CTRL.LOCK ∧ bits v 11 0 ≠ bits (s.reg a).toNat 11 0 then .locked else .ok)
/-- SAF_CFG_WRITE (R321): a write of SAF.CFG. -/
def execSafCfgWrite (m : Fin 64) (v : Word) (s : State) : Host.Outcome State Fault Refusal :=
  .next (s.busWriteWith m SAF.CFG.FTTI.base true fun s => s.fxSafCfg v.toNat)
/-- The words of the safety configuration in ascending address order, as bytes (R332). -/
def State.safConfig (s : State) : List Nat :=
  let b := SAF.CTRL.LOCK.base
  let own := ((List.range 44).map fun k => 0x10 + 4 * k).filter fun o => o != 0x20 && o != 0x24
  let ax := axes.flatMap fun n => (List.range 5).map fun k => AX.SAF_CFG.GROUP.addr n + 4 * k
  (own.flatMap fun o => le 4 (if (findReg (b + o)).isSome then (s.reg (b + o)).toNat else 0)) ++ ax.flatMap fun a => le 4 (s.reg a).toNat
/-- The effect of a write of SAF.CTRL: LOCK locks the configuration and compares its CRC (R332). -/
def State.fxSafCtrl (s : State) (v : Nat) : State × WErr :=
  if bit v 0 && !(s.flag SAF.CTRL.LOCK) then
    let c := crc32c s.safConfig
    (((s.raise SAF.CTRL.LOCK).wr SAF.CFG_CRC_CALC.VALUE c).put SAF.STATUS.CRC_OK (c == s.rd SAF.CFG_CRC.VALUE), .ok)
  else (s, .ok)
/-- SAF_LOCK (R332): a write of SAF.CTRL with LOCK = 1. -/
def execSafLock (m : Fin 64) (v : Word) (s : State) : Host.Outcome State Fault Refusal :=
  .next (s.busWriteWith m SAF.CTRL.LOCK.base true fun s => s.fxSafCtrl (setBit v.toNat 0 true))

end Sys2Proof.Machine
end

