-- ==== Sys2Proof/Machine/SafetyCycle.lean ====
section
/-!
DEFINITION. The safety cycle: windows with safe speed, SS1 and SLS, rotating tests, run-time test slices of lanes and engines, entry into
RUN, and the exchange with the partner of a Twin pair (R316 to R320, R322 to R328, R332, R333).
-/
namespace Sys2Proof.Machine

/-- A window is open: 40 µs from its opening (R320). -/
def State.windowOpen (s : State) : Bool :=
  match s.saf.windowAt with
  | some t => decide (s.dtime < t + 40 * usTicks)
  | none => false
/-- Ticks from one window to the next (R320). -/
def State.cycleTicks (s : State) : Nat := s.rd SAF.CFG.CYCLE * 16000

/-! ### Units under run-time test (R322) -/

/-- A unit's test beside the registers, and the fields that show it. -/
def State.tst (s : State) (u : Nat) : TestH := Tab.get {} s.tests u
def State.updTst (s : State) (u : Nat) (f : TestH → TestH) : State := { s with tests := Tab.put {} s.tests u (f (s.tst u)) }
def testUnits : List Nat := List.range 24
/-- The unit is in service: lane 0 to 11, Pewter lane 12 to 15, engine 16 to 23. -/
def State.unitUsable (s : State) (u : Nat) : Bool :=
  if u < 12 then s.rdBit OBS.LANES.USABLE u else if u < 16 then s.rdBit OBS.LANES.P_USABLE (u - 12) else s.engUsable (u - 16)
/-- The unit is shown under test, or no longer. -/
def State.unitShow (s : State) (u : Nat) (x : Bool) : State :=
  if u < 12 then s.wrBit OBS.LANES.TEST u x
  else if u < 16 then s.wrBit OBS.LANES.P_TEST (u - 12) x
  else ((s.engCount (u - 16)).wrBit INF.ENG_STATUS.TEST (u - 16) x).put ENG.STATUS.TEST x (u - 16)
/-- Slice budget and restore time in ticks (R322). -/
def sliceBudget (u : Nat) : Nat := if u < 16 then 20 * usTicks else 200 * usTicks
def restoreTime (u : Nat) : Nat := if u < 16 then usTicks else 20 * usTicks
/-- SOURCE of a unit in the recorder. -/
def srcUnit (u : Nat) : Nat := if u < 16 then srcLane u else srcEngine (u - 16)
/-- The observer plan as it stands (R181, R184). -/
def State.planNow (s : State) : List PlanNet :=
  (s.planNets true).map fun p => { p with st := (s.ob p.axis).state.getD p.kind 0, drop := s.rdBit AX.OBS_STATUS.UNCHECKED p.kind p.axis }
/-- The Pewter lane whose turn it is, in rotation P0, P1, P2, P3 over those in service (R322). -/
def State.pewTurn (s : State) : Option Nat := ((List.range 4).map fun k => (s.saf.pewNext + k) % 4).find? fun i => s.rdBit OBS.LANES.P_USABLE i
/-- A unit may take a slice now (R180, R211, R322, R324); outside RUN none does (R395). -/
def State.sliceOk (s : State) (u : Nat) : Bool :=
  let h := s.tst u
  let now := s.dtime
  let cyc := s.cycleTicks
  let idle := h.start.isNone && h.restoreBy.isNone && s.unitUsable u
  let room := s.rd PWR.STATE.STATE == 0 && !s.windowOpen && decide (now % cyc + sliceBudget u ≤ cyc)
  let alone (us : List Nat) : Bool := us.all fun w => (s.tst w).start.isNone && (s.tst w).restoreBy.isNone
  let fits :=
    if u < 12 then alone (List.range 12) && (s.laneJob u).isNone && obsPlanOk (popCount 12 (s.rd OBS.LANES.USABLE) - 1) s.planNow
    else if u < 16 then s.pewTurn == some (u - 12) && alone [12, 13, 14, 15] && (s.laneJob u).isNone && pewPlanOk (popCount 4 (s.rd OBS.LANES.P_USABLE) - 1) s.planNow
    else (s.en (u - 16)).issue.isNone && (match h.lastStart with
      | some t => decide (t + 233600 ≤ now)
      | none => true)
  idle && room && fits
/-- Of the units that may take a slice, the one whose last completed test ended earliest; ties go to the lower number. -/
def State.sliceUnit (s : State) : Option Nat :=
  (testUnits.filter s.sliceOk).foldl (fun b u => match b with
    | none => some u
    | some v => if (s.tst u).last < (s.tst v).last then some u else b) none
/-- TEST_SLICE_START (R324). -/
def execTestSliceStart (s : State) : Host.Outcome State Fault Refusal :=
  match s.sliceUnit with
  | none => .next s
  | some u =>
    let now := s.dtime
    .next ((s.unitShow u true).updTst u fun h => { h with start := some now, lastStart := some now })
/-- A unit is declared failed (R328, R344): fenced, counted in the ageing history, UNIT_FAIL raised. -/
def State.unitFail (s : State) (u code : Nat) : State :=
  let s := s.updTst u fun h => { h with start := none, restoreBy := none }
  let s := s.unitShow u false
  let s := if u < 16 then s.lanesFence [u] 0 else s.engFence (2 ^ (u - 16))
  let pos := if u < 16 then u + 8 else u - 16
  let cnt := s.rd AGE.FAIL_CNT.FAIL_CNT 0 (pos / 8)
  let f := bits cnt (4 * (pos % 8) + 3) (4 * (pos % 8))
  let s := s.wr AGE.FAIL_CNT.FAIL_CNT (setBits cnt (4 * (pos % 8) + 3) (4 * (pos % 8)) (satU 4 (f + 1))) 0 (pos / 8)
  s.fault code u rcReport []
/-- A unit's test has completed: the Pewter lanes' rotation moves on, and the march to the next part of an engine's scratch (R322). -/
def State.sliceNext (s : State) (u : Nat) : State :=
  let now := s.dtime
  let s := s.updTst u fun h => { h with start := none, done := true, last := now, part := if u < 16 then 0 else (h.part + 1) % 16 }
  if 12 ≤ u ∧ u < 16 then s.updSaf fun h => { h with pewNext := (u - 11) % 4 } else s
/-- TEST_SLICE_COMPLETE (R322, R328): the slice of unit `u` completes with its signature as stored, or not. -/
def execTestSliceComplete (u : Fin 24) (pass : Bool) (s : State) : Host.Outcome State Fault Refusal :=
  match (s.tst u).start with
  | none => .next s
  | some _ =>
    if pass then .next (((s.unitShow u false).sliceNext u).lanesTake)
    else .next (s.unitFail u 11)
/-- TEST_RESTORE_DONE (R325): the restore of an aborted unit completes and it returns to service. -/
def execTestRestoreDone (u : Fin 24) (s : State) : Host.Outcome State Fault Refusal :=
  match (s.tst u).restoreBy with
  | none => .next s
  | some _ => .next (((s.unitShow u false).updTst u fun h => { h with restoreBy := none }).lanesTake)
/-- TEST_DEADLINE (R323, R326): in RUN, a usable unit has no completed test FTTI − 500 µs after its last one, or after the entry into RUN. -/
def execTestDeadline (u : Fin 24) (s : State) : Host.Outcome State Fault Refusal :=
  let limit := s.rd SAF.CFG.FTTI * msTicks - 500 * usTicks
  if s.flag SAF.STATUS.STATE ∧ s.rd PWR.STATE.STATE = 0 ∧ s.unitUsable u ∧ max (s.tst u).last s.saf.runAt + limit < s.dtime then
    .next (((s.raise SAF.STATUS.DEADLINE).fault 13 u rcReport []).unitFail u 11)
  else .next s
/-- SAF_ENTER_RUN (R332): locked, CRC_OK, and every unit in service has completed one test. -/
def execSafEnterRun (s : State) : Host.Outcome State Fault Refusal :=
  let now := s.dtime
  if s.flag SAF.CTRL.LOCK ∧ s.flag SAF.STATUS.CRC_OK ∧ s.flag SAF.STATUS.STATE = false ∧
      (testUnits.all fun u => !(s.unitUsable u) || (s.tst u).done) = true then
    .next ((s.raise SAF.STATUS.STATE).updSaf fun h => { h with runAt := now })
  else .next s
/-- Slices still running when a window opens are aborted and their tests queued again (R325). -/
def State.abortSlices (s : State) : State :=
  let now := s.dtime
  s.forEach (testUnits.filter fun u => (s.tst u).start.isSome) fun s u =>
    let s := s.updTst u fun h => { h with start := none, restoreBy := some (now + restoreTime u) }
    (s.incWrap SAF.TEST_STATUS.ABORT_CNT).emitMerge 0x0A03 (srcUnit u)

/-! ### Safe speed, SS1, SLS (R316 to R319) -/

/-- Channel 1 (timebase n) and channel 2 (ω_c scaled by NUM / DEN) of an axis (R316). -/
def State.speedChannels (s : State) (n : Nat) : Int × Int :=
  (s.tbSpeed n, scaleRatio (s.ob n).omC (s.rd TB.RATIO.NUM n) (s.rd TB.RATIO.DEN n))
/-- The axis has one speed source (R317): running, in CLASSICAL mode or with a CLASSICAL position estimate. -/
def State.singleSpeed (s : State) (n : Nat) : Bool :=
  s.flag AX.OBS_STATUS.MODE n || (s.axOn n && s.rd AX.OBS_EST_SRC.SRC n % 4 == srcClassical)
/-- Safe speed and the comparison of the two channels (R316, R317). -/
def State.windowSpeed (s : State) (n : Nat) : State :=
  let c := s.speedChannels n
  let tol : Int := s.rd AX.SAF_CFG.SPD_TOL n * 256
  let bad := decide (tol < absI (c.1 - c.2))
  let d := if bad then (s.sx n).disc + 1 else 0
  let s := (s.updSx n fun h => { h with disc := d }).wr AX.SAF_SPEED.SPEED (max (absI c.1) (absI c.2)).toNat n
  let s := if d = s.rd AX.SAF_CFG.SPD_N n then s.faultHold (axFaultOf n 5 (s.groupOfAxis n) s.rcSpeedDisc) else s
  let was := s.flag AX.SAF_STATUS.SINGLE n
  let now := s.singleSpeed n
  let s := s.put AX.SAF_STATUS.SINGLE now n
  if now && !was then s.faultHold (axFaultOf n 6 (s.groupOfAxis n) s.rcSingle) else s
/-- SLS in a window (R319): raised once while its cause stays in force. -/
def State.windowSls (s : State) (n : Nat) : State :=
  let s := s.put AX.SAF_STATUS.SLS_ACT (s.slsActive n) n
  let isOver := s.slsActive n && decide (s.rd AX.SAF_SLS.SLS_LIM n < s.rd AX.SAF_SPEED.SPEED n)
  if isOver then
    if (s.sx n).causes.contains 3 then s
    else s.faultHold (axFaultOf n 3 (s.groupOfAxis n) (if s.flag AX.SAF_SLS.ACT n then rcSto else rcSs1))
  else s.causeEnded n 3
/-- The record of an STO that ends an SS1 names the fault that asked for the SS1, if one did. -/
def State.ss1Code (s : State) (n : Nat) : Nat := if rcSs1 ≤ (s.sx n).react then s.rd AX.SAF_STATUS.CODE n else 0
/-- The bound of SS1-r is passed (R318): safe speed above max(|v0| − ⌊3 DEC / 4⌋ Δt / 65,536, 0) + SS_LIM. -/
def ss1Over (speed v0 dec dt lim : Nat) : Bool := decide ((v0 * 65536 - 3 * dec / 4 * dt) + lim * 65536 < speed * 65536)
/-- An SS1 ends in its STO, which it asks for once (R318). -/
def State.ss1Sto (s : State) (n : Nat) : State := (s.axStoReq n (s.ss1Code n)).updSx n fun h => { h with ss1 := none }
/-- SS1 in a window (R318). -/
def State.windowSs1 (s : State) (n : Nat) : State :=
  match (s.sx n).ss1 with
  | none => s
  | some (t0, v0) =>
    let v := s.rd AX.SAF_SPEED.SPEED n
    let s := if s.flag AX.SAF_CFG.SS1_MODE n && ss1Over v v0 (s.rd AX.SAF_SS1_DEC.VALUE n) (s.dtime - t0) (s.rd AX.SAF_SS_LIM.VALUE n) then
        s.faultHold (axFaultOf n 4 (s.groupOfAxis n) rcSto) else s
    if v ≤ s.rd AX.SAF_SS_LIM.VALUE n then s.ss1Sto n else s
/-- SS1_TIMEOUT (R318): SS1_T ms after the request STO is requested. -/
def execSs1Timeout (n : Fin 48) (s : State) : Host.Outcome State Fault Refusal :=
  match (s.sx n).ss1 with
  | none => .next s
  | some (t0, _) => .next (if t0 + s.rd AX.SAF_SS1_T.MS n * msTicks ≤ s.dtime then s.ss1Sto n else s)

/-! ### The window -/

/-- A rotating test entry fails (R327, R330): CMP_FAIL with its unit number, and the entry's effect. -/
def State.entryFail (s : State) (e : Nat) : State :=
  let s := s.faultHold <| if e < 96 then { code := 12, axis := some (e % 48), unit := 32 + e, source := srcAxis (e % 48) }
    else if e < 104 then faultOf 12 (32 + e) s.rcChopStuck (s.segAxes (e - 96)) else faultOf 12 (32 + e) rcReport []
  if e < 48 then if s.rdBit AX.ADC_HEALTH.FAIL 2 e then s else (s.convMark e 2 0).faultHold (s.convFaultOf e)
  else if e < 96 then s.faultHold (axFaultOf (e - 48) 5 (s.groupOfAxis (e - 48)) s.rcSpeedDisc)
  else if e < 104 then
    let b := e - 96
    s.updSaf fun h => { h with ovDead := if h.ovDead.contains b then h.ovDead else h.ovDead ++ [b] }
  else if e < 112 then s.chopFault (e - 104) 0
  else s.lanesFence [12 + (e - 112)] 0
/-- The 39 entries of the next window (R327). -/
def State.windowEntries (s : State) : List Nat := (List.range 39).map fun i => (s.rd SAF.TEST_STATUS.ROT_POS + i) % 116
/-- The partner's states differ from this module's for paired axis `n` (R333): its safe speed by more than the tolerance, or, compared as the speeds are
(DEDUCED, assumption log 65), the state of its group or of a safe input that acts on its group. -/
def State.twinDiffers (s : State) (n : Nat) : Bool :=
  let g := s.groupOfAxis n
  (match s.saf.peer.find? fun p => p.1 == n with
   | some p => decide ((s.rd AX.SAF_CFG.SPD_TOL n * 256 : Int) < absI ((s.rd AX.SAF_SPEED.SPEED n : Int) - p.2))
   | none => false)
  || (g < 16 && (s.rdBit SAF.GROUP_STATE.LOW g != bit s.saf.peerGroups g
      || (List.range 16).any fun k => s.rdBit SAF.SI_GROUPS.GROUPS g 0 k && s.rdBit SAF.SI_STATE.LOW k != bit s.saf.peerSi k))
/-- Paired axes compared with what the partner sent of its last window (R333). -/
def State.windowTwin (s : State) : State :=
  if !(s.flag TWN.CFG.EN) then s else
  let s :=
    if s.saf.heard then
      (s.forEach s.pairAxes fun s n =>
        let d := if s.twinDiffers n then (s.sx n).discTwin + 1 else 0
        let s := s.updSx n fun h => { h with discTwin := d }
        if d = s.rd AX.SAF_CFG.SPD_N n then s.faultHold (axFaultOf n 5 (s.groupOfAxis n) s.rcSpeedDisc) else s).updSaf fun h => { h with missed := 0 }
    else s.updSaf fun h => { h with missed := h.missed + 1 }
  let s := if s.saf.missed = 3 then s.faultHold (faultOf 19 0 s.rcTwinLost s.pairAxes) else s
  s.updSaf fun h => { h with heard := false }
/-- The end of a window, 40 µs after its opening: the faults found in it react together (R320, R329). -/
def State.windowEnd (s : State) : State :=
  if s.saf.due = [] ∨ s.windowOpen = true then s
  else let fs := s.saf.due; (s.updSaf fun h => { h with due := [] }).faultTake fs
/-- SAFETY_WINDOW (R320): at a multiple of the safety cycle a window opens; `bad` are the entries of the rotating tests that fail, if they
are among this window's. The faults found react at its end (R329). -/
def execSafetyWindow (bad : List (Fin 116)) (s : State) : Host.Outcome State Fault Refusal :=
  if s.dtime % s.cycleTicks ≠ 0 ∨ s.saf.windowAt = some s.dtime then .next s else
  let now := s.dtime
  let s := s.windowEnd.updSaf fun h => { h with windowAt := some now, hbLost := false }
  let s := s.abortSlices.windowTwin
  let s := s.forEach axes fun s n => ((s.windowSpeed n).windowSls n).windowSs1 n
  let s := s.twinSend pkSafety (Config.linkBytes pkSafety (0 :: s.rd SAF.SI_STATE.LOW :: s.rd SAF.GROUP_STATE.LOW :: s.pairAxes.map fun n => s.rd AX.SAF_SPEED.SPEED n))
  let es := s.windowEntries
  let s := s.forEach (es.filter fun e => bad.any fun b => b.val == e) State.entryFail
  .next (s.wr SAF.TEST_STATUS.ROT_POS ((s.rd SAF.TEST_STATUS.ROT_POS + 39) % 116)).stoOutputs

/-! ### The Twin pair (R333) -/

/-- SHADOW (R333): on the FOLLOW, a shadow record of axis `n` runs its classical observer: t_s, iα, iβ, uα, uβ, bus code. -/
def execShadow (n : Fin 48) (ts : Nat) (ia ib ua ub : Int) (bus : Fin 65536) (s : State) : Host.Outcome State Fault Refusal :=
  if s.flag TWN.CFG.EN ∧ s.flag TWN.CFG.ROLE ∧ s.flag AX.SAF_CFG.PAIR n ∧ s.axOn n = false then
    .next (((s.linkRecv 2 pkShadow).updFo n fun h => { h with ualpha := ua, ubeta := ub }).classicStep n ts ia ib bus)
  else .next s
/-- SAFETY (R333): the partner's window exchange (safe speeds by axis, safe-input and group states), or its STO request for groups. -/
def execSafety (speeds : List (Fin 48 × Word)) (sto : PeerStates) (s : State) : Host.Outcome State Fault Refusal :=
  if s.flag TWN.CFG.EN then
    let s := s.linkRecv 2 pkSafety
    let s := match sto.window with
      | some (si, gr) => s.updSaf fun h =>
          { h with heard := true, peer := speeds.map (fun (p : Fin 48 × Word) => (p.1.val, p.2.toNat)), peerSi := si, peerGroups := gr }
      | none => s
    .next (s.stoSet 0 (groups.filter fun g => bit sto.request g))
  else .next s

end Sys2Proof.Machine
end

