-- ==== Sys2Proof/Machine/Ageing.lean ====
section
/-!
DEFINITION. Delay monitors, margin re-planning, and the service command (R345 to R354).
-/
namespace Sys2Proof.Machine

def State.updAge (s : State) (f : AgeH → AgeH) : State := { s with age := f s.age }
/-- Insertion into a list in ascending order. -/
def insertI (x : Int) : List Int → List Int
  | [] => [x]
  | y :: t => if x ≤ y then x :: y :: t else y :: insertI x t
/-- The median of the measurements kept; of an even number whose middle values differ it lies between these, and the spec does not say where (R346). -/
def medianOf (l : List Int) : Int :=
  let m := l.foldr insertI []
  let k := m.length / 2
  if m.length % 2 = 1 then m.getD k 0
  else
    let lo := m.getD (k - 1) 0
    lo + ((Config.medianPick m % ((m.getD k 0 - lo).toNat + 1) : Nat) : Int)
/-- A monitor of a fenced unit is left out of every minimum (R345, R346): 8 by engine, then one by lane. -/
def State.monInUse (s : State) (i : Nat) : Bool :=
  (Tab.get [] s.age.samples i != []) &&
  (if i < 64 then s.engUsable (i / 8) else if i < 76 then s.rdBit OBS.LANES.USABLE (i - 64) else if i < 80 then s.rdBit OBS.LANES.P_USABLE (i - 76) else true)
/-- S_min and its monitor, the lowest-numbered of equals (R346). -/
def State.slackMin (s : State) : Option (Int × Nat) :=
  ((List.range 128).filter s.monInUse).foldl (fun b i =>
    let v := s.rdS AGE.MON.SLACK 0 i
    match b with
    | none => some (v, i)
    | some (w, j) => if v < w then some (v, i) else some (w, j)) none
/-- SMIN shows S_min; MARGIN_LOW sets below target at VMAX, which a step of 5 mV may pass, under ADAPTIVE, or under FIXED (R352). -/
def State.marginCheck (s : State) : State :=
  match s.slackMin with
  | none => s
  | some (v, i) =>
    let s := (s.wrS AGE.SMIN.SLACK v).wr AGE.SMIN.MON i
    let atTop := if s.flag AGE.STATUS.MODE then decide (s.rd AGE.VFUSE.VMAX ≤ s.rd AGE.VREQ.V_REQ) else true
    if v < s.rd AGE.VFIX.TGT ∧ atTop = true ∧ s.flag AGE.STATUS.MARGIN_LOW = false then
      (s.raise AGE.STATUS.MARGIN_LOW).emit 0x0B03 srcModule (le 2 (ofS 16 v))
    else s
/-- DELAY_MONITOR_MEASURE (R346, R349): every 100 ms each monitor gives its corrected slack; measurements of the 1 ms after a new voltage
request do not count. -/
def execDelayMonitorMeasure (slack : List Int) (s : State) : Host.Outcome State Fault Refusal :=
  let now := s.dtime
  let due := match s.age.lastMeas with
    | none => true
    | some t => decide (t + 100 * msTicks ≤ now)
  if !due then .next s
  else if now < s.age.notBefore then .next (s.updAge fun h => { h with lastMeas := some now })
  else
    let s := s.updAge fun h => { h with lastMeas := some now }
    let s := s.forEach ((List.range 128).zip slack) fun s p =>
      let l := (satS 16 p.2 :: Tab.get [] s.age.samples p.1).take 16
      (s.updAge fun h => { h with samples := Tab.put [] h.samples p.1 l }).wrS AGE.MON.SLACK (medianOf l) 0 p.1
    .next s.marginCheck
/-- One step of `x` toward `goal` by at most `most`, within ±`lim`. -/
def stepToward (x goal most lim : Int) : Int := clampI (-lim) lim (if x < goal then minI (x + most) goal else maxI (x - most) goal)
/-- A re-plan finds that the trim of die `h` should stand at `goal`: the trim moves from the next millisecond on, by one step of 2^−18 per ms, within
±1,024 steps (R351). -/
def State.trimGoal (s : State) (h : Nat) (goal : Int) : State :=
  let g := clampI (-1024) 1024 goal
  let at_ := s.dtime + msTicks
  let here := g == s.rdS AGE.REF_TRIM.TRIM 0 h
  (s.updAge fun x => { x with trim := Tab.put none x.trim h (if here then none else some (g, at_)) }).raiseIf (here && absI g == 1024) AGE.STATUS.TRIM_LIM
/-- A trim on its way takes its step, at most one per ms, unless a self-calibration runs; one that is held at ±1,024 sets TRIM_LIM (R351). -/
def State.trimStep (s : State) (h : Nat) : State :=
  match Tab.get none s.age.trim h with
  | none => s
  | some (g, t) =>
    if s.dtime < t ∨ s.flag MF.CAL_STATUS.BUSY = true then s else
    let c := stepToward (s.rdS AGE.REF_TRIM.TRIM 0 h) g 1 1024
    let next := s.dtime + msTicks
    ((s.wrS AGE.REF_TRIM.TRIM c 0 h).updAge fun x => { x with trim := Tab.put none x.trim h (if c = g then none else some (g, next)) }).raiseIf
      (c == g && absI c == 1024) AGE.STATUS.TRIM_LIM
/-- The trims of both dies move with the clock. -/
def State.trimClock (s : State) : State := s.forEach (List.range 2) State.trimStep
/-- A margin re-plan under ADAPTIVE (R349 to R353): `dl` are the differences by line group in units of 2^−12, `ref` those of the two
references in steps of 2^−18, `ack` whether the regulator acknowledges a new request. -/
def State.marginReplan (s : State) (dl ref : List Int) (ack : Bool) : State :=
  if !(s.flag AGE.STATUS.MODE) then s.marginCheck else
  let old := s.rd AGE.VREQ.V_REQ
  let want := match s.slackMin with
    | none => old
    | some (v, _) =>
      if v < s.rd AGE.VFIX.TGT ∧ old < s.rd AGE.VFUSE.VMAX then old + 5
      else if (s.rd AGE.VFIX.TGT + s.rd AGE.VFIX.HYS : Int) < v ∧ s.rd AGE.VFUSE.VMIN < old then old - 5 else old
  let now := s.dtime
  let s1 := s.incWrap AGE.STATUS.REPLAN_CNT
  let s1 := if want = old then s1
    else if ack then (s1.wr AGE.VREQ.V_REQ want).updAge fun h => { h with notBefore := now + msTicks }
    else s1.raise AGE.STATUS.PMBUS_ERR
  let s1 := s1.forEach ((List.range 16).zip dl) fun s p =>
    let c := stepToward (s.rdS AGE.DL_CORR.CORR 0 p.1) p.2 1 64
    (s.wrS AGE.DL_CORR.CORR c 0 p.1).raiseIf (absI c == 64 && decide (64 ≤ absI p.2)) AGE.STATUS.DL_LIM
  let s1 := s1.forEach ((List.range 2).zip ref) fun s p => s.trimGoal p.1 p.2
  let changed := s1.rd AGE.VREQ.V_REQ != old || (List.range 16).any (fun g => s1.rd AGE.DL_CORR.CORR 0 g != s.rd AGE.DL_CORR.CORR 0 g)
    || (List.range 2).any (fun h => (Tab.get none s1.age.trim h).isSome)
  let smin := match s.slackMin with
    | some (v, _) => v
    | none => s.rdS AGE.SMIN.SLACK
  let s1 := if changed then s1.emit 0x0B02 srcModule (le 2 old ++ le 2 (s1.rd AGE.VREQ.V_REQ) ++ le 2 (ofS 16 smin)) else s1
  let good := match s.slackMin with
    | some (v, _) => decide ((s.rd AGE.VFIX.TGT : Int) ≤ v)
    | none => false
  let s1 := if s1.age.firstPlan && good then s1.clear AGE.STATUS.MARGIN_LOW else s1
  (s1.updAge fun h => { h with firstPlan := false }).marginCheck
/-- REPLAN (R349): a re-plan once at each whole operating hour, or the first of a start, at the entry into RUN at the end of step 2. -/
def execReplan (dl ref : List Int) (ack : Bool) (s : State) : Host.Outcome State Fault Refusal :=
  .next (if s.age.hourDue = true ∨ (s.age.firstPlan = true ∧ s.flag PWR.START_STATUS.BOOT_OK = true) then
      (s.updAge fun h => { h with hourDue := false }).marginReplan dl ref ack
    else s)
/-- The effect of a write of AGE.CTRL (R349). -/
def State.fxAgeCtrl (s : State) (dl ref : List Int) (ack : Bool) (v : Nat) : State × WErr := (if bit v 0 then s.marginReplan dl ref ack else s, .ok)
/-- AGE_REPLAN (R349): a write of AGE.CTRL, with what the re-plan finds. -/
def execAgeReplan (m : Fin 64) (v : Word) (dl ref : List Int) (ack : Bool) (s : State) : Host.Outcome State Fault Refusal :=
  .next (s.busWriteWith m AGE.CTRL.REPLAN.base false fun s => s.fxAgeCtrl dl ref ack v.toNat)
/-- The effect of a write of AGE.SVC_CMD (R354): a cleared unit is to be tested again at the next start. -/
def State.fxSvcCmd (s : State) (v : Nat) : State × WErr :=
  let free := (List.range 64).all fun c => s.rd CTX.STATUS.STATE c == ctxFree
  if s.rd PWR.STATE.STATE = 1 ∧ s.flag PWR.STATE.BUSY = false ∧ free = true ∧ bits v 23 16 = 0xA5 then
    let clr (x m : Nat) : Nat := x - (x &&& m)
    let s := s.wr MEM.CH_RETIRE.RETIRE (clr (s.rd MEM.CH_RETIRE.RETIRE) (bits v 15 0))
    if bit v 24 then
      let gone (r m : Nat) (o n : Nat) : List Nat := ((List.range n).filter fun i => bit r i && bit m i).map (· + o)
      let us := gone (s.rd AGE.PFENCE.PFENCE) (s.rd AGE.PFENCE_CLR.MASK) 0 24 ++ gone (s.rd AGE.PFENCE_AX) (s.rd AGE.PFENCE_AX_CLR) 24 50
      let s := { s with recd := { s.recd with hist := { s.recd.hist with retest := s.recd.hist.retest ++ us } } }
      ((s.wr AGE.PFENCE.PFENCE (clr (s.rd AGE.PFENCE.PFENCE) (s.rd AGE.PFENCE_CLR.MASK))).wr AGE.PFENCE_AX
        (clr (s.rd AGE.PFENCE_AX) (s.rd AGE.PFENCE_AX_CLR)), .ok)
    else (s, .ok)
  else (s.raise AGE.STATUS.SVC_REFUSED, .ok)
/-- SVC_CMD (R354): a write of AGE.SVC_CMD. -/
def execSvcCmd (m : Fin 64) (v : Word) (s : State) : Host.Outcome State Fault Refusal :=
  .next (s.busWriteWith m AGE.SVC_CMD.CH.base true fun s => s.fxSvcCmd v.toNat)

end Sys2Proof.Machine
end

