-- ==== Sys2Proof/Machine/Tables.lean ====
section
/-!
DEFINITION. The patrol scrubber, the access tables' own registers and channel retirement (R283, R284, R286, R289).
-/
namespace Sys2Proof.Machine

/-- The pass of the scrubber in which a block is read now: a new one begins SCRUB_H hours after the last began (R283). -/
def State.scrubPass (s : State) : ScrubH :=
  if s.scrub.since + s.rd MEM.ECC_CTRL.SCRUB_H * 3600000 * msTicks ≤ s.dtime then { since := s.dtime } else s.scrub
/-- PATROL_SCRUB (R283, R284): the scrubber reads the LPDDR5X block at `a`, once in each pass; `errs` are bits that have turned over in memory by
then. A correctable error is corrected, an uncorrectable one counted and logged. -/
def execPatrolScrub (a : Nat) (errs : List (Nat × Nat)) (s : State) : Host.Outcome State Fault Refusal :=
  let s := s.forEach errs State.flipBit
  let p := s.scrubPass
  if s.flag MEM.ECC_CTRL.SCRUB_EN && decide (a < s.rd MEM.TOP) && !(p.done.contains (a / 64)) then
    .next ({ s with scrub := { p with done := a / 64 :: p.done } }.eccFind 0x3E (a / 64 * 64) ueScrub [a / 64 * 64]).1
  else .next s

/-- AT_WINDOW_WRITE (R289): word `w` of window `k` mod 16 of master `k` / 16 at target `t`. -/
def execAtWindowWrite (m : Fin 64) (t : Fin 10) (k : Fin 1024) (w : Fin 3) (v : Word) (s : State) : Host.Outcome State Fault Refusal :=
  let a := AT.WIN_BASE.BASE.addr t k + 4 * w
  .next (s.busWriteWith m a true fun s => s.fxAtWin t a v.toNat)
/-- AT_CTRL_LOCK (R289): a write of AT.CTRL. -/
def execAtCtrlLock (m : Fin 64) (t : Fin 10) (v : Word) (s : State) : Host.Outcome State Fault Refusal :=
  .next (s.busWriteWith m (AT.CTRL.LOCK.addr t) true fun s => s.writeFields (AT.CTRL.LOCK.addr t) v.toNat)
/-- CH_RETIRE_WRITE (R286): a write of MEM.CH_RETIRE; bits are only set, and apply from the next start-up. -/
def execChRetireWrite (m : Fin 64) (v : Word) (s : State) : Host.Outcome State Fault Refusal :=
  .next (s.busWriteWith m MEM.CH_RETIRE.RETIRE.addr true fun s => s.writeFields MEM.CH_RETIRE.RETIRE.addr v.toNat)

end Sys2Proof.Machine
end

