-- ==== Sys2Proof/Machine/Supervisor.lean ====
section
/-!
DEFINITION. The supervisor: firmware download and start, supervisor reset, and the mailboxes' doorbells, buffers and take order
(R293 to R303, R307).
-/
namespace Sys2Proof.Machine

/-! ### Registers of a reset domain (R16, R391) -/

/-- Every register that `hit` names takes its reset value. -/
def State.resetRegs (s : State) (hit : Nat → RegSpec → Bool) : State :=
  { s with regs := s.regs.filter fun e => match findReg e.1 with
      | some (r, _, _) => !(hit e.1 r)
      | none => true }

/-! ### Firmware (R293 to R296) -/

def State.updSup (s : State) (f : SupH → SupH) : State := { s with sup := f s.sup }
def fwNone : Nat := 0
def fwLoading : Nat := 1
def fwStarting : Nat := 2
def fwRunning : Nat := 3
def fwFailed : Nat := 4
/-- A download fails with a code (R294, R295). -/
def State.fwFail (s : State) (code : Nat) : State :=
  (((s.wr SUP.FW_STATUS.STATE fwFailed).wr SUP.FW_STATUS.CODE code).updSup fun h => { h with loadAt := none }).emit 0x0902 srcModule [code]
/-- The effect of a write of SUP.FW_CMD (R294). -/
def State.fxFwCmd (s : State) (v : Nat) : State × WErr :=
  if !(bit v 0) then (s, .ok)
  else if s.rd SUP.FW_STATUS.STATE = fwNone ∨ s.rd SUP.FW_STATUS.STATE = fwFailed then
    let now := s.dtime
    let a := s.rd SUP.FW_ADDR
    let rev := s.rd SEC.KEY_STATUS.REVOKED
    (((s.wr SUP.FW_STATUS.STATE fwLoading).wr SUP.FW_STATUS.CODE 0).updSup fun h => { h with loadAt := some now, addr := a, revoked := rev }, .ok)
  else (s.wr SUP.FW_STATUS.CODE 1, .ok)
/-- FW_LOAD (R294): a write of SUP.FW_CMD. -/
def execFwLoad (m : Fin 64) (v : Word) (s : State) : Host.Outcome State Fault Refusal :=
  .next (s.busWriteWith m SUP.FW_CMD.LOAD.base false fun s => s.fxFwCmd v.toNat)

/-- All bytes of a part of an image are 0. -/
def zeroAt (h : List Nat) (o n : Nat) : Bool := (slice h o n).all (· == 0)
/-- The mailbox versions of a firmware header. -/
def fwVers (h : List Nat) : List (Nat × Nat) :=
  (List.range (fieldLE h 0x24 1)).map fun i => (fieldLE h (0x28 + 4 * i) 2, fieldLE h (0x2A + 4 * i) 2)
/-- The header checks of step 2 (R293, R294). -/
def fwHeaderOk (h : List Nat) : Bool :=
  let f := fieldLE h
  let nmb := f 0x24 1
  f 0 4 == 0x4E444653 && f 4 2 == 1 && f 6 2 == 0 && f 0x10 4 == 0x4808
    && f 0x14 4 == 2560 + f 0x18 4 + f 0x1C 4
    && f 0x18 4 % 64 == 0 && decide (64 ≤ f 0x18 4 ∧ f 0x18 4 ≤ 1048576)
    && f 0x1C 4 % 64 == 0 && decide (f 0x1C 4 ≤ 524288)
    && f 0x20 4 % 4 == 0 && decide (f 0x20 4 < f 0x18 4)
    && decide (1 ≤ nmb ∧ nmb ≤ 4) && zeroAt h 0x25 3 && zeroAt h (0x28 + 4 * nmb) (16 - 4 * nmb)
    && zeroAt h 0x3C 4 && zeroAt h 0x60 32 && zeroAt h 0x9F4 12
/-- An image lies wholly in LPDDR5X below MEM.TOP or in shared SRAM (R295). -/
def State.imagePlace (s : State) (a n : Nat) : Bool :=
  decide (a + n ≤ s.rd MEM.TOP) || decide (0x1000000000 ≤ a ∧ a + n ≤ 0x1010000000)
/-- The code of a failed read of the image: ADDRESS for a violation, MEM_ERR for an uncorrectable error. -/
def MemRes.fwCode : MemRes → Nat
  | .ok _ => 0
  | .vio => 2
  | .ue _ => 6
/-- The data of a read. -/
def MemRes.bytes : MemRes → List Nat
  | .ok d => d
  | _ => []
/-- A vendor key slot that may sign firmware: present, not revoked (R367). -/
def State.vendorOk (s : State) (k : Nat) : Bool := k < 4 && !(s.rdBit SEC.KEY_STATUS.REVOKED k)
/-- The security block reads, checks, copies and verifies the image (R293, R294, steps 2 to 4): the first failing code, or 0, with what it keeps. The
keys are those valid when the download began (R368). -/
def State.fwCheck (s : State) : State × Nat × FwH :=
  let a := s.sup.addr
  if a % 64 ≠ 0 ∨ s.imagePlace a 2560 = false then (s, 2, {}) else
  let r := s.masterRead 8 a 2560
  let s := r.1
  let h := r.2.bytes
  if r.2.fwCode ≠ 0 then (s, r.2.fwCode, {})
  else if !(fwHeaderOk h) then (s, 3, {})
  else
    let n := fieldLE h 0x14 4
    if !(s.imagePlace a n) then (s, 2, {}) else
    let b := s.masterRead 8 (a + 2560) (n - 2560)
    let s := b.1
    if b.2.fwCode ≠ 0 then (s, b.2.fwCode, {}) else
    let cl := fieldLE h 0x18 4
    let s := s.updSup fun x => { x with code := slice b.2.bytes 0 cl, data := b.2.bytes.drop cl, entry := fieldLE h 0x20 4 }
    if sha3 b.2.bytes ≠ slice h 0x40 32 then (s, 4, {})
    else
      let k := fieldLE h 0x38 4
      if k < 4 && !(bit s.sup.revoked k) && Config.mldsaVerify (Config.vendorKey k) (slice h 0 0x80) (slice h 0x80 2420) then
        (s, 0, { major := fieldLE h 8 2, minor := fieldLE h 0xA 2, build := fieldLE h 0xC 4, keyId := k, digest := slice h 0x40 32, vers := fwVers h })
      else (s, 5, {})
/-- FW_VERIFY_DONE (R294): the image has been read, hashed and verified: both cores are released, or the download fails. -/
def execFwVerifyDone (s : State) : Host.Outcome State Fault Refusal :=
  if s.rd SUP.FW_STATUS.STATE = fwLoading then
    let r := s.fwCheck
    if r.2.1 = 0 then .next ((r.1.wr SUP.FW_STATUS.STATE fwStarting).updSup fun h => { h with fw := r.2.2 })
    else .next (r.1.fwFail r.2.1)
  else .next s
/-- FW_READY (R294, R306): the firmware completes its self-check, or reports that it failed (INIT). -/
def execFwReady (ok : Bool) (s : State) : Host.Outcome State Fault Refusal :=
  if s.rd SUP.FW_STATUS.STATE = fwStarting then
    if !ok then .next (s.fwFail 7) else
    let f := s.sup.fw
    let s := (s.wr SUP.FW_STATUS.STATE fwRunning).incWrap SUP.BOOT_CNT.CNT
    let s := ((s.wr SUP.FW_VER.VALUE (f.major + 65536 * f.minor)).wr SUP.FW_BUILD.VALUE f.build).wr SUP.FW_TIME s.dtime
    let s := (s.raise MB.GLOBAL.READY).put MB.GLOBAL.POLICY (s.flag AGE.SVC_POLICY.INTERFACES)
    let pol := s.flag AGE.SVC_POLICY.INTERFACES
    .next ((s.updSup fun h => { h with loadAt := none, policy := pol }).emit 0x0901 srcModule (le 2 f.major ++ le 2 f.minor ++ le 4 f.build ++ le 4 f.keyId))
  else .next s
/-- FW_TIMEOUT (R295): READY not set 150 ms after LOAD. -/
def execFwTimeout (s : State) : Host.Outcome State Fault Refusal :=
  match s.sup.loadAt with
  | none => .next s
  | some t => .next (if t + 150 * msTicks ≤ s.dtime then s.fwFail 8 else s)

/-! ### Supervisor reset (R296, R297, R301, R392) -/

/-- Every release is withdrawn, and the choppers and the STO outputs go low: the outputs' safe levels (R297, R392, R394). -/
def State.withdraw (s : State) : State :=
  let s := s.forEach axes fun s n => (s.updPw n fun h => { h with released := false, heldAct := none, heldBus := false }).wr AX.SAF_STATUS.STATE 0 n
  (s.forEach (List.range 8) State.gateOff).stoOutputs
/-- A supervisor reset of a cause: firmware, mailboxes and sessions are lost, EN of every axis clears, releases are withdrawn, choppers and
STO outputs go low. -/
def State.supReset (s : State) (cause : Nat) : State :=
  if s.inReset then s else
  let s := (s.transAbandon.forEach axes fun s n => s.axisOff n 0 resAborted).withdraw
  let s := (s.wr SUP.LAST_RESET.CAUSE cause).incSat SUP.LAST_RESET.CNT
  let s := s.resetRegs fun _ r => r.dom = .supervisor
  { s with sup := { policy := s.sup.policy }, mbs := [] }.emit 0x0903 srcModule [cause]
/-- The effect of a write of SUP.CTRL. -/
def State.fxSupCtrl (s : State) (v : Nat) : State × WErr := (if bit v 0 then s.supReset 1 else s, .ok)
/-- SUP_RESET (R297): a write of SUP.CTRL. -/
def execSupReset (m : Fin 64) (v : Word) (s : State) : Host.Outcome State Fault Refusal :=
  .next (s.busWriteWith m SUP.CTRL.SUP_RESET.base false fun s => s.fxSupCtrl v.toNat)
/-- SUP_WATCHDOG (R297): the firmware has not serviced the watchdog for 10 ms. -/
def execSupWatchdog (s : State) : Host.Outcome State Fault Refusal :=
  .next (if s.rd SUP.FW_STATUS.STATE = fwStarting ∨ s.rd SUP.FW_STATUS.STATE = fwRunning then s.supReset 2 else s)
/-- SUP_LOCKSTEP (R297, R330): the two cores differ: a supervisor reset, and SUP_LOCKSTEP with STO of every group. -/
def execSupLockstep (s : State) : Host.Outcome State Fault Refusal :=
  .next (if s.rd SUP.FW_STATUS.STATE = fwStarting ∨ s.rd SUP.FW_STATUS.STATE = fwRunning then (s.supReset 3).groupFault 17 0 groups else s)

/-! ### Mailboxes (R298, R299, R302, R303, R307) -/

/-- The command that a mailbox has taken. -/
def State.mb (s : State) (b : Nat) : Option MbCmdH := Tab.get none s.mbs b
def State.setMb (s : State) (b : Nat) (c : Option MbCmdH) : State := { s with mbs := Tab.put none s.mbs b c }
/-- The effect of a write of MB.REQ_k. -/
def State.fxMbReq (s : State) (b k v : Nat) : State × WErr :=
  if s.flag MB.STATUS.PENDING b || s.flag MB.STATUS.BUSY b then (s.raise MB.STATUS.WR_REFUSED b, .ok) else (s.wr MB.REQ.DATA v b k, .ok)
/-- The effect of a write of MB.DOORBELL. -/
def State.fxMbDoorbell (s : State) (b v : Nat) : State × WErr :=
  if !(bit v 0) then (s, .ok)
  else if !(s.flag MB.GLOBAL.READY) || s.flag MB.STATUS.PENDING b || s.flag MB.STATUS.BUSY b || s.flag MB.STATUS.REPLY b then
    (s.raise MB.STATUS.DB_REFUSED b, .ok)
  else ((s.wr MB.DB_TIME s.dtime b).raise MB.STATUS.PENDING b, .ok)
/-- The effect of a write of MB.ACK. -/
def State.fxMbAck (s : State) (b v : Nat) : State × WErr :=
  (if bit v 0 then (s.clear MB.STATUS.REPLY b).wrBit MB.GLOBAL.REPLY_PEND b false else s, .ok)
/-- MB_REQUEST_WRITE (R298): word `k` of the request buffer. -/
def execMbRequestWrite (m : Fin 64) (b : Fin 16) (k : Fin 64) (v : Word) (s : State) : Host.Outcome State Fault Refusal :=
  .next (s.busWriteWith m (MB.REQ.DATA.addr b k) false fun s => s.fxMbReq b k v.toNat)
/-- MB_DOORBELL (R298): a write of MB.DOORBELL. -/
def execMbDoorbell (m : Fin 64) (b : Fin 16) (v : Word) (s : State) : Host.Outcome State Fault Refusal :=
  .next (s.busWriteWith m (MB.DOORBELL.RING.addr b) false fun s => s.fxMbDoorbell b v.toNat)
/-- MB_ACK (R298): a write of MB.ACK. -/
def execMbAck (m : Fin 64) (b : Fin 16) (v : Word) (s : State) : Host.Outcome State Fault Refusal :=
  .next (s.busWriteWith m (MB.ACK.ACK.addr b) false fun s => s.fxMbAck b v.toNat)

/-- STATUS codes (R303). -/
def mbOk : Nat := 0
def mbBadOpcode : Nat := 1
def mbNoSession : Nat := 2
def mbBadLen : Nat := 3
def mbBadParam : Nat := 4
def mbState : Nat := 5
def mbRefused : Nat := 6
def mbTimeout : Nat := 7
/-- The payload length of a command at protocol 1.0; none for PING, which takes any (R304). -/
def mbLength (op : Nat) : Option (Option Nat) :=
  match op with
  | 0x0001 => some (some 20)
  | 0x0002 => some none
  | 0x0010 | 0x0011 | 0x0012 | 0x0020 | 0x0031 | 0x0032 | 0x0040 | 0x0041 | 0x0042 | 0x0050 | 0x0061 | 0x00A0 => some (some 4)
  | 0x0030 => some (some 8)
  | 0x0060 => some (some 16)
  | 0x0070 => some (some 12)
  | _ => none
/-- The bytes of a request buffer. -/
def State.mbRequest (s : State) (b : Nat) : List Nat := (List.range 64).flatMap fun k => le 4 (s.rd MB.REQ.DATA b k)
/-- What is wrong with a request's header and length (R302, R303, R307), by the lowest code that applies; 0 where nothing is. -/
def State.mbHeader (s : State) (b : Nat) (q : List Nat) : Nat :=
  let op := fieldLE q 0 2
  let len := fieldLE q 2 2
  let bad := if zeroAt q 8 8 then mbOk else mbBadParam
  match mbLength op with
  | none => mbBadOpcode
  | some want =>
    if op ≠ 1 ∧ op ≠ 2 ∧ s.flag MB.STATUS.SESSION b = false then mbNoSession
    else if 240 < len then mbBadLen
    else
      match want with
      | none => bad
      | some n =>
        if len < n then mbBadLen
        else if n < len then
          (if !(s.flag MB.GLOBAL.POLICY) then mbBadLen else if zeroAt q (16 + n) (len - n) then bad else mbBadParam)
        else bad
/-- Of the mailboxes with a pending request, the one rung first; ties to the lower number (R299). -/
def State.mbNext (s : State) : Option Nat :=
  ((List.range 16).filter fun b => s.flag MB.STATUS.PENDING b).foldl (fun x b => match x with
    | none => some b
    | some y => if s.rd MB.DB_TIME b < s.rd MB.DB_TIME y then some b else some y) none
/-- MB_TAKE (R298, R299): the supervisor copies the next request and begins its command; a request whose header is wrong has its reply. -/
def execMbTake (s : State) : Host.Outcome State Fault Refusal :=
  match s.mbNext with
  | none => .next s
  | some b =>
    let q := s.mbRequest b
    let st := s.mbHeader b q
    let c : MbCmdH := { op := fieldLE q 0 2, tag := fieldLE q 4 4, payload := slice q 16 (fieldLE q 2 2), taken := s.dtime,
                        begun := decide (st ≠ mbOk), result := if st = mbOk then none else some (st, 0, []) }
    .next (((s.clear MB.STATUS.PENDING b).raise MB.STATUS.BUSY b).setMb b (some c))
/-- The reply of a taken command is written, with the interrupt (R298, R302). -/
def State.mbReply (s : State) (b : Nat) (c : MbCmdH) (status detail : Nat) (payload : List Nat) : State :=
  let body := le 2 c.op ++ le 2 payload.length ++ le 4 c.tag ++ le 2 status ++ le 2 detail ++ le 4 0 ++ le 8 s.dtime ++ payload
  let s := s.forEach (List.range 64) fun s k => s.wr MB.REP.DATA (fieldLE body (4 * k) 4) b k
  let s := ((s.setMb b none).raise MB.STATUS.REPLY b).clear MB.STATUS.BUSY b
  let s := s.wrBit MB.GLOBAL.REPLY_PEND b true
  if s.flag MB.CFG.IRQ_EN b then s.raiseIrq (s.rd MB.CFG.IRQ b) else s
/-- Sessions end: pending requests and unacknowledged replies are discarded (R301). -/
def State.mbEnd (s : State) : State :=
  let s := s.forEach (List.range 16) fun s b =>
    let s := (((s.clear MB.STATUS.PENDING b).clear MB.STATUS.BUSY b).clear MB.STATUS.REPLY b).clear MB.STATUS.SESSION b
    (s.wr MB.STATUS.MAJOR 0 b).wr MB.STATUS.MINOR 0 b
  { s.wr MB.GLOBAL.REPLY_PEND 0 with mbs := [] }

end Sys2Proof.Machine
end

