-- ==== Sys2Proof/Machine/Security.lean ====
section
/-!
DEFINITION. The security block: key slots and lifecycle fuses, the boot ROM's loader slots, debug unlock, identity and attestation
(R367 to R377).
-/
namespace Sys2Proof.Machine

def State.updSec (s : State) (f : SecH → SecH) : State := { s with sec := f s.sec }
/-- Eight words of a register array as bytes, and back. -/
def State.words8 (s : State) (f : RF) : List Nat := (List.range 8).flatMap fun k => le 4 (s.rd f 0 k)
def State.setWords8 (s : State) (f : RF) (b : List Nat) : State := s.forEach (List.range 8) fun s k => s.wr f (fieldLE b (4 * k) 4) 0 k

/-! ### Keys and fuses (R367 to R370) -/

/-- Owner slot `i` is valid: present and not revoked. -/
def State.ownerOk (s : State) (i : Nat) : Bool := i < 8 && bit s.sec.present i && !(s.rdBit SEC.KEY_STATUS.REVOKED (4 + i))
/-- KEY_STATUS.VALID shows the valid slots. -/
def State.keyShow (s : State) : State :=
  let v := (List.range 4).foldl (fun x k => setBit x k (s.vendorOk k)) 0
  s.wr SEC.KEY_STATUS.VALID ((List.range 8).foldl (fun x i => setBit x (4 + i) (s.ownerOk i)) v)
/-- A fuse command is refused. -/
def State.fuseRefuse (s : State) (rcode : Nat) : State := (s.raise SEC.FUSE_STATUS.REFUSED).wr SEC.FUSE_STATUS.RCODE rcode
/-- A fuse command starts. -/
def State.fuseStart (s : State) (op : Nat × Nat × List Nat) : State :=
  let now := s.dtime
  ((s.raise SEC.FUSE_STATUS.BUSY).wr SEC.FUSE_STATUS.RCODE 0).updSec fun h => { h with fuseOp := some op, fuseAt := now }
/-- The effect of a write of SEC.KEY_PROG (R368). -/
def State.fxKeyProg (s : State) (v : Nat) : State × WErr :=
  let i := bits v 2 0
  if !(bit v 8) then (s, .ok)
  else if s.flag SEC.FUSE_STATUS.BUSY then (s.fuseRefuse 1, .ok)
  else if bit s.sec.present i || s.rdBit SEC.KEY_STATUS.BAD i then (s.fuseRefuse 4, .ok)
  else (s.fuseStart (0, i, s.words8 SEC.KEY_HASH.HASH), .ok)
/-- A revocation meets a condition of R368: a vendor slot not below the running firmware's, or the last valid owner slot. -/
def State.revokeCond (s : State) (m : Nat) : Bool :=
  let vendor := s.rd SUP.FW_STATUS.STATE == fwRunning && (List.range 4).any fun k => bit m k && decide (s.sup.fw.keyId ≤ k)
  let own := (List.range 8).filter s.ownerOk
  let lc := s.rd SEC.LC.STATE
  let last := (lc == 1 || lc == 2) && own.any (fun i => bit m (4 + i)) && own.all fun i => bit m (4 + i)
  vendor || last
/-- The effect of a write of SEC.REVOKE. -/
def State.fxRevoke (s : State) (v : Nat) : State × WErr :=
  if s.flag SEC.FUSE_STATUS.BUSY then (s.fuseRefuse 1, .ok)
  else if bits v 23 16 ≠ 0xA5 then (s.fuseRefuse 2, .ok)
  else if s.revokeCond (bits v 11 0) then (s.fuseRefuse 3, .ok)
  else (s.fuseStart (1, bits v 11 0, []), .ok)
/-- The effect of a write of SEC.LC_CMD (R370). -/
def State.fxLcCmd (s : State) (v : Nat) : State × WErr :=
  let next := bits v 2 0
  let st := s.rd SEC.LC.STATE
  if s.flag SEC.FUSE_STATUS.BUSY then (s.fuseRefuse 1, .ok)
  else if bits v 23 16 ≠ 0x5A then (s.fuseRefuse 2, .ok)
  else if next ≤ st ∨ 4 ≤ next ∨ (next = 1 ∧ (((List.range 8).any s.ownerOk) = false ∨ s.flag SEC.BOOT_STATUS.OPEN = true)) then (s.fuseRefuse 3, .ok)
  else (s.fuseStart (2, next, []), .ok)
/-- KEY_PROG, REVOKE, LC_CMD (R368, R370): writes of the fuse commands. -/
def execKeyProg (m : Fin 64) (v : Word) (s : State) : Host.Outcome State Fault Refusal :=
  .next (s.busWriteWith m SEC.KEY_PROG.SLOT.base true fun s => s.fxKeyProg v.toNat)
def execRevoke (m : Fin 64) (v : Word) (s : State) : Host.Outcome State Fault Refusal :=
  .next (s.busWriteWith m SEC.REVOKE.MASK.base true fun s => s.fxRevoke v.toNat)
def execLcCmd (m : Fin 64) (v : Word) (s : State) : Host.Outcome State Fault Refusal :=
  .next (s.busWriteWith m SEC.LC_CMD.NEXT.base true fun s => s.fxLcCmd v.toNat)
/-- The identity secret: 32 fused bytes, unique to the module, overwritten with ones once it is decommissioned (R370, R375). -/
def State.secret (s : State) : List Nat := if s.sec.wiped then List.replicate 32 255 else slice Config.secret 0 32
/-- The seed of the identity key pair (R375): SHA3-256 of the secret and D. -/
def State.identitySeed (s : State) : List Nat := sha3 (s.secret ++ [0x49, 0x44, 0x00, 0x01])
/-- The identity registers (R375): the public key derived from the secret and its hash, or all ones once the module is decommissioned. -/
def State.identity (s : State) : State :=
  let dead := s.rd SEC.LC.STATE == 3
  let pub := if dead then List.replicate 1312 255 else slice (Config.mldsaPub s.identitySeed) 0 1312
  let s := s.setWords8 SEC.DEV_ID.ID (if dead then List.replicate 32 255 else sha3 pub)
  s.forEach (List.range 328) fun s k => s.wr SEC.ID_PUB.KEY (fieldLE pub (4 * k) 4) 0 k
/-- FUSE_DONE (R368, R370): the fuse command completes. -/
def execFuseDone (s : State) : Host.Outcome State Fault Refusal :=
  match s.sec.fuseOp with
  | none => .next s
  | some (op, x, hash) =>
    let s := ((s.clear SEC.FUSE_STATUS.BUSY).raise SEC.FUSE_STATUS.DONE).updSec fun h => { h with fuseOp := none }
    if op = 0 then .next (s.updSec fun h => { h with present := setBit h.present x true, hashes := Tab.put [] h.hashes x hash }).keyShow
    else if op = 1 then .next (s.wr SEC.KEY_STATUS.REVOKED (s.rd SEC.KEY_STATUS.REVOKED ||| x)).keyShow
    else
      let now := s.dtime
      let old := s.rd SEC.LC.STATE
      let s := (s.wr SEC.LC.STATE x).updSec fun h => { h with lcPrev := some (now, old) }
      if x = 3 then
        .next (s.updSec fun h => { h with wiped := true, hashes := (List.range 8).foldl (fun t i => Tab.put [] t i (List.replicate 32 255)) h.hashes }).identity
      else .next s

/-! ### The boot chain (R371 to R373) -/

/-- Open boot (R369): PROVISION with no owner slot present. -/
def State.openBoot (s : State) : Bool := s.rd SEC.LC.STATE == 0 && s.sec.present == 0
/-- A key of an image is accepted: its KEY_ID names a valid owner slot whose hash is that of the key (R373, R374). -/
def State.keyOk (s : State) (id : Nat) (pub : List Nat) : Bool :=
  decide (0x10 ≤ id ∧ id ≤ 0x17) && s.ownerOk (id - 0x10) && Tab.get [] s.sec.hashes (id - 0x10) == sha3 pub
/-- Address of a loader slot of the boot device on port 0. -/
def slotAddr (i : Nat) : Nat := 0x3000000000 + i * 0x800000
/-- The header checks of a loader image (R372). -/
def ldrHeaderOk (h : List Nat) : Bool :=
  let f := fieldLE h
  f 4 2 == 1 && f 6 2 == 0 && f 8 4 == 0x4808 && f 0xC 4 % 64 == 0 && decide (64 ≤ f 0xC 4 ∧ f 0xC 4 ≤ 4194304)
    && f 0x10 4 % 4 == 0 && decide (f 0x10 4 < f 0xC 4) && zeroAt h 0x18 8 && zeroAt h 0x40 64 && zeroAt h 0xF14 236
/-- The code with which slot `i` is refused, or 0 (R373); `err` is an error that port 0 reports. -/
def State.slotCode (s : State) (i : Nat) (err : Bool) : Nat :=
  let h := s.readMem (slotAddr i) 4096
  let pub := slice h 0x80 1312
  if s.rd SEC.LC.STATE = 3 then 7
  else if err then 6
  else if fieldLE h 0 4 ≠ 0x4E444C44 then 1
  else if !(ldrHeaderOk h) then 2
  else if !s.openBoot && !(s.keyOk (fieldLE h 0x14 4) pub) then 3
  else if sha3 (s.readMem (slotAddr i + 4096) (fieldLE h 0xC 4)) ≠ slice h 0x20 32 then 4
  else if Config.mldsaVerify pub (slice h 0 0x5A0) (slice h 0x5A0 2420) then 0 else 5
/-- Slot `i` is tried: its code, and, where its header passes, its body in shared SRAM, before digest, key and signature are judged (R371). -/
def State.bootTry (s : State) (i : Nat) (err : Bool) : State × Nat :=
  let c := s.slotCode i err
  let n := fieldLE (s.readMem (slotAddr i) 4096) 0xC 4
  (if c = 0 ∨ (3 ≤ c ∧ c ≤ 5) then (s.eccOver 0x1000000000 n).writeMem 0x1000000000 (s.readMem (slotAddr i + 4096) n) else s, c)
/-- Slot `i` is accepted: core 0 is released at ENTRY (R371), and the module enters RUN (R394). -/
def State.bootAccept (s : State) (i : Nat) : State :=
  let h := s.readMem (slotAddr i) 4096
  let s := ((s.wr SEC.BOOT_STATUS.SLOT i).put SEC.BOOT_STATUS.OPEN s.openBoot).wr SEC.LDR_KEY.KEY_ID (fieldLE h 0x14 4)
  let s := (s.setWords8 SEC.LDR_DIGEST.DIGEST (slice h 0x20 32)).raise PWR.START_STATUS.BOOT_OK
  let old := s.rd PWR.STATE.STATE
  let s := if old = 0 then s else s.emit 0x0004 srcModule [old, 0]
  let e := 0x1000000000 + fieldLE h 0x10 4
  (((s.wr PWR.STATE.STATE 0).clear PWR.STATE.BUSY).measEnter true).hoursGo.updSec fun k => { k with core0 := some e }
/-- BOOT_ROM (R371, R383, R394): after the self-check, slot A, then slot B; `errA` and `errB` are errors that port 0 reports. -/
def execBootRom (errA errB : Bool) (s : State) : Host.Outcome State Fault Refusal :=
  if s.flag PWR.START_STATUS.SELF_OK = false ∨ s.flag PWR.START_STATUS.BOOT_OK = true ∨ s.rd PWR.START_STATUS.STOP ≠ 0 then .next s else
  let s := s.identity
  let a := s.bootTry 0 errA
  let s := ((a.1.wr SEC.BOOT_STATUS.SLOT 3).wr SEC.BOOT_STATUS.CODE_A a.2).wr SEC.BOOT_STATUS.CODE_B 0
  if a.2 = 0 then .next (s.bootAccept 0) else
  let b := s.bootTry 1 errB
  let s := b.1.wr SEC.BOOT_STATUS.CODE_B b.2
  if b.2 = 0 then .next (s.bootAccept 1)
  else .next (s.wr PWR.START_STATUS.STOP (if s.rd SEC.LC.STATE = 3 then 3 else 2))

/-! ### Debug unlock (R374) -/

/-- The effect of a write of SEC.DBG_CMD. -/
def State.fxDbgCmd (s : State) (v : Nat) : State × WErr :=
  let s := (s.writeFields SEC.DBG_CMD.FAIL.base v).1
  if bit v 0 && s.rd SEC.LC.STATE == 1 then
    ((s.setWords8 SEC.DBG_CHAL.CHAL (sha3 (s.words8 SEC.DEV_ID.ID ++ le 4 (s.rd REC.PCYCLE.VALUE) ++ le 8 s.dtime))).updSec fun h => { h with chal := true }, .ok)
  else if bit v 1 then
    if s.sec.chal then
      let c := s.words8 SEC.DBG_CHAL.CHAL
      let a := s.rd SEC.DBG_ADDR / 64 * 64
      (s.updSec fun h => { h with chal := false, dbg := h.dbg ++ [(c, a)] }, .ok)
    else (s.raise SEC.DBG_CMD.FAIL, .ok)
  else (s, .ok)
/-- DBG_CHALLENGE and DBG_VERIFY (R374): a write of SEC.DBG_CMD with CHAL = 1, or with GO = 1. -/
def execDbgChallenge (m : Fin 64) (v : Word) (s : State) : Host.Outcome State Fault Refusal :=
  .next (s.busWriteWith m SEC.DBG_CMD.FAIL.base false fun s => s.fxDbgCmd (setBit v.toNat 0 true))
def execDbgVerify (m : Fin 64) (v : Word) (s : State) : Host.Outcome State Fault Refusal :=
  .next (s.busWriteWith m SEC.DBG_CMD.FAIL.base false fun s => s.fxDbgCmd (setBit (setBit v.toNat 0 false) 1 true))
/-- DBG_VERIFY_DONE (R374): the response block that the oldest GO named is verified against its challenge; the security block reads it under master
0x08. -/
def execDbgVerifyDone (s : State) : Host.Outcome State Fault Refusal :=
  match s.sec.dbg with
  | [] => .next s
  | (c, a) :: rest =>
    let r := s.masterRead 8 a 3736
    let s := r.1.updSec fun h => { h with dbg := rest }
    let b := r.2.bytes
    let pub := slice b 4 1312
    .next (if r.2.good && s.keyOk (fieldLE b 0 4) pub && Config.mldsaVerify pub c (slice b 1316 2420) && s.rd SEC.LC.STATE == 1
      then s.raise SEC.LC.DBG_UNLOCKED else s.raise SEC.DBG_CMD.FAIL)

/-! ### Attestation (R376, R377) -/

/-- The 256 signed bytes of a report. -/
def State.attReport (s : State) : List Nat :=
  let run := s.rd SUP.FW_STATUS.STATE == fwRunning
  let flags := b2n (s.flag SEC.BOOT_STATUS.OPEN) + 2 * b2n (s.flag SEC.LC.DBG_UNLOCKED) + 4 * b2n run + 8 * b2n s.sec.override
  let locks := (List.range 10).foldl (fun m t => setBit m t (s.flag AT.CTRL.LOCK t)) 0
  le 4 0x4E444154 ++ le 2 1 ++ le 2 256 ++ le 4 0x4808 ++ [s.rd SEC.LC.STATE, flags, s.rd PWR.RING_STATUS.RING_ID, 0]
    ++ s.words8 SEC.ATT_NONCE.NONCE ++ le 8 s.dtime ++ le 4 (s.rd REC.PCYCLE.VALUE) ++ le 4 (s.rd REC.HOURS.VALUE)
    ++ s.words8 SEC.DEV_ID.ID ++ s.words8 SEC.LDR_DIGEST.DIGEST ++ le 4 (s.rd SEC.LDR_KEY.KEY_ID)
    ++ le 4 (if run then s.sup.fw.keyId else 0) ++ le 4 (s.rd SUP.FW_VER.VALUE) ++ le 4 (s.rd SUP.FW_BUILD.VALUE)
    ++ slice s.sup.fw.digest 0 32 ++ le 4 (s.rd SUP.BOOT_CNT.CNT) ++ le 4 (s.reg AGE.SVC_POLICY.AGEING.base).toNat
    ++ le 4 (s.reg SEC.KEY_STATUS.VALID.base).toNat ++ le 2 locks ++ le 2 ((s.reg SAF.STATUS.STATE.base).toNat % 4)
    ++ le 4 (s.rd SAF.CFG_CRC.VALUE) ++ List.replicate 60 0
/-- An attestation is refused. -/
def State.attRefuse (s : State) (rcode : Nat) : State := (s.raise SEC.ATT_STATUS.REFUSED).wr SEC.ATT_STATUS.RCODE rcode
/-- The effect of a write of SEC.ATT_CMD by master `m`. -/
def State.fxAttCmd (s : State) (m v : Nat) : State × WErr :=
  if !(bit v 0) then (s, .ok)
  else if s.rd SEC.LC.STATE = 3 then (s.attRefuse 1, .ok)
  else if s.flag SEC.ATT_STATUS.BUSY then (s.attRefuse 2, .ok)
  else if s.rd SEC.ATT_ADDR % 64 ≠ 0 then (s.attRefuse 3, .ok)
  else
    let a := s.rd SEC.ATT_ADDR
    let r := s.attReport
    (((s.raise SEC.ATT_STATUS.BUSY).wr SEC.ATT_STATUS.RCODE 0).updSec fun h => { h with att := some (m, a, r) }, .ok)
/-- ATT_GO (R376): a write of SEC.ATT_CMD. -/
def execAttGo (m : Fin 64) (v : Word) (s : State) : Host.Outcome State Fault Refusal :=
  .next (s.busWriteWith m SEC.ATT_CMD.GO.base false fun s => s.fxAttCmd m v.toNat)
/-- ATT_DONE (R376, R377): the report is signed and written under the master that asked; nothing is written once the module is decommissioned. -/
def execAttDone (s : State) : Host.Outcome State Fault Refusal :=
  match s.sec.att with
  | none => .next s
  | some (m, a, rep) =>
    let s := (s.updSec fun h => { h with att := none }).clear SEC.ATT_STATUS.BUSY
    if s.rd SEC.LC.STATE = 3 then .next (s.attRefuse 1) else
    match Config.mldsaSign s.identitySeed rep with
    | none => .next (s.attRefuse 4)
    | some sig =>
      let r := s.masterWrite m a (rep ++ slice sig 0 2420)
      .next (if r.2.good then r.1.raise SEC.ATT_STATUS.DONE else r.1.attRefuse 5)
/-- Entry to STANDBY or OFF_PREP abandons a report (R377). -/
def State.attAbort (s : State) : State :=
  if s.sec.att.isSome then ((s.updSec fun h => { h with att := none }).clear SEC.ATT_STATUS.BUSY).attRefuse 6 else s

end Sys2Proof.Machine
end

