-- ==== Sys2Proof/Machine/Resets.lean ====
section
/-!
DEFINITION. The resets and what survives them (R379 to R382, R391 to R393, R396, R398): axis reset, system reset and wake, POR and its
end with the power-on self-check, debug reset, and the end of a crossbar switch that an axis reset waited for.
-/
namespace Sys2Proof.Machine

def State.updPwr (s : State) (f : PwrH → PwrH) : State := { s with pwr := f s.pwr }
/-- Entries of a table whose key is in a range are dropped. -/
def dropKeys {α : Type} (t : Tab α) (lo hi : Nat) : Tab α := t.filter fun e => !(decide (lo ≤ e.1 ∧ e.1 < hi))

/-! ### Axis reset (R391, R392, R393, R398) -/

/-- Axis `n` is reset: its registers and channel, loops, commutation, observers and monitors take their reset values; networks and their
plan, the safety configuration, latches, reactions and the release stay. -/
def State.axisReset (s : State) (n : Nat) : State :=
  if s.inReset then s else
  let s := s.transAbandon
  let plan := [AX.OBS_STATUS.PRESENT, AX.OBS_STATUS.BG, AX.OBS_STATUS.UNCHECKED].map fun f => (f, s.rd f n)
  let lo := 0x2010000000 + n * 0x10000
  let rel := (s.pw n).released
  let st := (s.ob n).state
  let s := s.resetRegs fun a r => r.dom = .axis && decide (lo ≤ a ∧ a < lo + 0x10000)
  let s := s.forEach plan fun s p => s.wr p.1 p.2 n
  let amb := s.rdS AX.OBS_CLS_TAMB.T_AMB n
  let s := { s with pwms := Tab.put {} s.pwms n { released := rel }, focs := Tab.put {} s.focs n {}, cmts := Tab.put {} s.cmts n {},
                    obss := Tab.put {} s.obss n { state := st, tWC := amb },
                    heldLo := dropKeys s.heldLo lo (lo + 0x10000), mons := dropKeys s.mons lo (lo + 0x10000), pvSettle := dropKeys s.pvSettle (n * 4) (n * 4 + 4),
                    pvs := dropKeys s.pvs (n * 4) (n * 4 + 4) }
  let e := s.dtime + 64
  (s.tbAxisLost n).updPwr fun h => { h with axRst := Tab.put none h.axRst n (some e) }
/-- The effect of a write of PWR.AXIS_RST_LO or _HI: each axis is reset, one that a crossbar switch moves when the switch completes. -/
def State.fxAxisRst (s : State) (hi : Bool) (v : Nat) : State × WErr :=
  let ns := axes.filter fun n => if hi then decide (32 ≤ n) && bit v (n - 32) else decide (n < 32) && bit v n
  (s.forEach ns fun s n =>
    if s.pxbMoving n then s.updPwr fun h => { h with axPend := if h.axPend.contains n then h.axPend else n :: h.axPend } else s.axisReset n, .ok)
/-- AXIS_RESET (R391): a write of PWR.AXIS_RST_LO, or of _HI. -/
def execAxisReset (m : Fin 64) (hi : Bool) (v : Word) (s : State) : Host.Outcome State Fault Refusal :=
  .next (s.busWriteWith m (if hi then PWR.AXIS_RST_HI.AXES.base else PWR.AXIS_RST_LO.AXES.base) true fun s => s.fxAxisRst hi v.toNat)
/-- PXB_SWITCH_COMPLETE (R73, R76, R77, R393): the switch of a spare ends, and an axis reset that waited for it follows. -/
def execPxbSwitchComplete (sp : Fin 2) (s : State) : Host.Outcome State Fault Refusal :=
  match Tab.get none s.pxbs sp with
  | none => .next s
  | some x =>
    let s := s.pxbComplete sp x
    let s := match (s.pw x.axis).heldSto with
      | some b => (s.updPw x.axis fun h => { h with heldSto := none }).t2Sto b x.axis
      | none => s
    if s.pwr.axPend.contains x.axis then
      .next ((s.updPwr fun h => { h with axPend := h.axPend.filter (· ≠ x.axis) }).axisReset x.axis)
    else .next s

/-! ### The self-check (R286, R337, R347 to R349, R381 to R383) -/

/-- Persistent fences of the ageing history take their units out of service (R337, R344). -/
def State.applyFences (s : State) : State :=
  let f := s.rd AGE.PFENCE.PFENCE
  let lanes := (List.range 16).filter fun i => bit f (8 + i)
  let s := s.forEach lanes fun s i => if i < 12 then s.wrBit OBS.LANES.USABLE i false else s.wrBit OBS.LANES.P_USABLE (i - 12) false
  (s.engFence (f % 256)).obsReplan
/-- The fuse bank is read: every entry with its valid mark steers, and FUSE_USED counts them (R336, R337). -/
def State.readFuses (s : State) : State :=
  let ok := s.fuses.filter (·.valid)
  ({ s with steer := ok }.wr BIST.STATUS.FUSE_USED ok.length).put BIST.STATUS.FUSE_FULL (decide (1024 ≤ s.fuses.length))
/-- Units whose fence was cleared are tested again; one that fails is fenced again (R354). -/
def State.retestUnits (s : State) (bad : List (Fin 74)) : State :=
  let again := s.recd.hist.retest.filter fun u => bad.any fun b => b.val == u
  let s := s.forEach again fun s u => if u < 24 then s.wrBit AGE.PFENCE.PFENCE u true else s.wrBit AGE.PFENCE_AX (u - 24) true
  { s with recd := { s.recd with hist := { s.recd.hist with retest := [] } } }
/-- Step 1 of the start-up: fuses read, LPDDR5X channels that fail training or are retired are excluded, MEM.TOP set, V_req = VFIX, the ageing
setting taken; the identity is derived (R375); with five or more excluded the start-up stops. -/
def State.selfCheck (s : State) (found : StartFindings) : State :=
  let excl := found.channels.val ||| s.rd MEM.CH_RETIRE.RETIRE
  let k := popCount 16 excl
  let s := (s.readFuses.retestUnits found.units).wr MEM.STATUS.USABLE (65535 - excl)
  let s := (s.wr MEM.TOP ((16 - k) * 0xF0000000)).put MEM.STATUS.UNAVAIL (decide (5 ≤ k))
  let s := (s.wr AGE.VREQ.V_REQ (s.rd AGE.VFIX.VFIX)).put AGE.STATUS.MODE (s.flag AGE.SVC_POLICY.AGEING)
  let neg := s.flag AGE.SVC_POLICY.INTERFACES
  let s := ((s.updAge fun h => { h with firstPlan := true }).updPwr fun h => { h with negotiate := neg }).applyFences
  let s := s.identity
  if 5 ≤ k then s.wr PWR.START_STATUS.STOP 1 else s.raise PWR.START_STATUS.SELF_OK

/-! ### System reset, wake and POR -/

/-- Memory ranges whose content a reset keeps: `lp` LPDDR5X, `sh` shared SRAM, `sc` scratch, `re` retained SRAM, `af` axis-fabric; devices
outside the module keep theirs. -/
def keepMem (lp sh sc re af : Bool) (m : List Host.Cell) : List Host.Cell :=
  m.filter fun c =>
    if c.1 < 0x1000000000 then lp else if c.1 < 0x1100000000 then sh else if c.1 < 0x1200000000 then sc
    else if c.1 < 0x1300000000 then re else if c.1 < 0x2000000000 then af else true
/-- The bits in error of the memories whose content a reset keeps. -/
def keepFlips (lp sh sc re af : Bool) (l : List (Nat × Nat)) : List (Nat × Nat) :=
  l.filter fun x =>
    if x.1 < 0x1000000000 then lp else if x.1 < 0x1100000000 then sh else if x.1 < 0x1200000000 then sc
    else if x.1 < 0x1300000000 then re else af
/-- The engines after a reset at clock `now`: no tile, and their counters run from it (R219, R398). -/
def resetEngs (now : Nat) : Tab EngH := (List.range 8).foldl (fun t p => Tab.put {} t p { since := now, upTo := now }) []
/-- What a system reset or a POR leaves of the state outside registers and memory (R398): the pins, the recorder, the fuses and the
queue of commands; a key slot whose programming is cut off is BAD. -/
def State.resetHidden (s : State) : State :=
  let bad := match s.sec.fuseOp with
    | some (0, i, _) => setBit (s.rd SEC.KEY_STATUS.BAD) i true
    | _ => s.rd SEC.KEY_STATUS.BAD
  let s := s.wr SEC.KEY_STATUS.BAD bad
  let now := s.dtime
  { s with latches := [], glatches := [], heldLo := [], justSet := [], posted := [], irqLines := 0, vios := [], scrub := { since := now },
           recd := { s.recd with nvPend := none, hoursStop := some (s.recd.hoursStop.getD now) }, bist := {},
           tbs := [], slots := [], tachs := [], ssiEnd := [], timeH := {}, obss := [], nets := [], lanes := [], jobs := [], pjobs := [],
           obsLoad := none, obsRemove := [], pvSettle := [], pvs := [], chans := [], pwms := [], pxbs := [], focs := [], cmts := [], mons := [], hks := [],
           vibs := [], cal := none, segs := [], ctxs := [], engs := resetEngs now, qRetired := [], utilRef := now, babIns := [], babCloses := [],
           babCosts := [], babCtxs := [], safAxs := [], tests := [], saf := {}, age := {}, mbs := [], lnks := [], ext := {},
           sec := { s.sec with fuseOp := none, chal := false, dbg := [], att := none, core0 := none },
           pwr := { therm := s.pwr.therm, hiZ := s.pwr.hiZ, por := s.pwr.por, porCause := s.pwr.porCause } }
/-- After a reset the filtered safe inputs show as they stand, and a thermal shutdown asks for STO again in the first clock (R434). -/
def State.resetSafety (s : State) : State :=
  let s := s.forEach (List.range 16) fun s k => s.wrBit SAF.SI_STATE.LOW k (s.siActive k)
  let s := if s.flag THM.STATUS.SHUT then s.wr SAF.STO_REQ.GROUPS 65535 else s
  s.stoEval 0
/-- A system reset with a cause (R391, R392, R398), or, with `wake`, the end of STANDBY, which keeps the supervisor's firmware and
registers and loses the volatile memories (R394, R396); then step 1. During a POR it adds nothing, and causes of one clock make one reset, which shows
the lowest (R393). -/
def State.sysReset (s : State) (cause : Nat) (wake : Bool) (found : StartFindings) : State :=
  if s.pwr.por then s
  else if s.pwr.rstAt = some s.dtime then s.wr PWR.RST_CAUSE.CAUSE (min cause (s.rd PWR.RST_CAUSE.CAUSE))
  else
  let shut := s.rd THM.STATUS.SHUT
  let low := s.rd AGE.STATUS.MARGIN_LOW
  let ready := s.rd MB.GLOBAL.READY
  let pol := s.rd MB.GLOBAL.POLICY
  let sup := s.sup
  let regs := fun (a : Nat) (r : RegSpec) =>
    match r.dom with
    | .system | .axis | .engine | .supervisor => !(wake && decide (0x20000F0000 ≤ a ∧ a < 0x2000100000))
    | .por | .kept => false
  let held := s.heldLo.filter fun e => match findReg e.1 with
    | some (r, _, _) => !(regs e.1 r)
    | none => false
  let s := (s.resetRegs regs).resetHidden
  let s := { s with heldLo := held, mem := keepMem (!wake) (!wake) false true (!wake) s.mem, flips := keepFlips (!wake) (!wake) false true (!wake) s.flips,
                    sup := if wake then sup else {} }
  let s := (s.wr THM.STATUS.SHUT shut).wr AGE.STATUS.MARGIN_LOW low
  let s := if wake then (s.wr MB.GLOBAL.READY ready).wr MB.GLOBAL.POLICY pol else s
  let s := (s.clear SEC.LC.DBG_UNLOCKED).clear PWR.STATE.BUSY
  let now := s.dtime
  let s := ((s.wr PWR.RST_CAUSE.CAUSE cause).incSat PWR.RST_CAUSE.SYS_CNT).updPwr fun h => { h with measAt := now + 640, rstAt := some now }
  (s.selfCheck found).resetSafety
/-- A debug reset ends the debug override (R391), and, as any reset, a power-state transition in progress (R393; DEDUCED, assumption log 71). -/
def State.debugReset (s : State) : State := { s with debugOverride := false }.transAbandon
/-- JTAG keeps boundary scan only: in LOCKED_NODEBUG and DECOMMISSIONED (R369). -/
def State.jtagShut (s : State) : Bool := decide (2 ≤ s.debugLc)
/-- The effect of a write of PWR.RST_CMD by master `m`: CODE 0xA5 with SYS, or with DBG by master 0x3F. -/
def State.fxRstCmd (s : State) (m v : Nat) (found : StartFindings) : State × WErr :=
  if bits v 23 16 ≠ 0xA5 then (s, .ok)
  else
    let s := if bit v 1 ∧ m = 0x3F then s.debugReset else s
    (if bit v 0 then s.sysReset 3 false found else s, .ok)
/-- SYSTEM_RESET (R391): by SYSRSTn low for a number of ticks (`pin`), at least 1 µs of them, or by a write of PWR.RST_CMD; `found` is
what step 1 finds. -/
def execSystemReset (pin : Option Nat) (m : Fin 64) (v : Word) (found : StartFindings) (s : State) : Host.Outcome State Fault Refusal :=
  match pin with
  | some t => .next (if usTicks ≤ t then s.sysReset 2 false found else s)
  | none => .next (s.busWriteWith m PWR.RST_CMD.SYS.base (bit v.toNat 0) fun s => s.fxRstCmd m v.toNat found)
/-- DEBUG_RESET (R391, R369): by the JTAG instruction, which boundary scan alone does not have, or by a write of PWR.RST_CMD. -/
def execDebugReset (jtag : Bool) (m : Fin 64) (v : Word) (s : State) : Host.Outcome State Fault Refusal :=
  if jtag then .next (if s.jtagShut then s else s.debugReset)
  else .next (s.busWriteWith m PWR.RST_CMD.SYS.base (bit v.toNat 0) fun s => s.fxRstCmd m (setBit v.toNat 0 false) {})
/-- WAKE (R396): a rising edge on ball WAKE in STANDBY with WAKE_CFG.PIN. -/
def execWake (found : StartFindings) (s : State) : Host.Outcome State Fault Refusal :=
  .next (if s.rd PWR.STATE.STATE = 2 ∧ s.flag PWR.WAKE_CFG.PIN = true then s.sysReset 4 true found else s)
/-- WAKE_TIMER (R396): DEVICE TIME reaches WAKE_TIME in STANDBY with WAKE_CFG.TIME. -/
def execWakeTimer (found : StartFindings) (s : State) : Host.Outcome State Fault Refusal :=
  .next (if s.rd PWR.STATE.STATE = 2 ∧ s.flag PWR.WAKE_CFG.TIME = true ∧ s.rd PWR.WAKE_TIME ≤ s.dtime then s.sysReset 4 true found else s)

/-- The trip level of a rail in mV: 90 % of nominal, and for VCORE 90 % of the lowest request (R379, R423). -/
def railTrip (r : Nat) : Nat := [2970, 1620, 1620, 945, 612, 450].getD r 0
/-- The supply monitor finds a rail below its trip level for at least 2 µs (R379). -/
def railTrips (r : RailLow) : Bool := decide (r.mv < railTrip r.rail ∧ 2 * usTicks ≤ r.ticks)
/-- POR_ASSERT (R379, R29, R398): PORn low (cause 0), or a rail below its trip level (1): everything that R398 does not keep is lost, and the
outputs are high-impedance. Of two causes in one clock the lower is shown; a later one extends the POR (R393). MARGIN_LOW stays (R352). -/
def execPorAssert (rail : Option RailLow) (s : State) : Host.Outcome State Fault Refusal :=
  if rail.any (fun r => !(railTrips r)) then .next s
  else if s.pwr.por then .next (if s.pwr.porNew then s.updPwr fun h => { h with porCause := min h.porCause (b2n rail.isSome) } else s)
  else
  let r := s.recd
  let low := s.rd AGE.STATUS.MARGIN_LOW
  let s := (s.resetRegs fun _ r => r.dom ≠ .kept).resetHidden
  let s := { s with dtime := 0, mem := keepMem false false false false false s.mem, flips := [], sup := {}, safIns := [],
                    resp := {}, debugOverride := false, utilRef := 0, engs := [], lnks := [],
                    recd := { mirror := r.mirror, badMirror := r.badMirror, hist := r.hist },
                    sec := { s.sec with override := false },
                    pwr := { por := true, porCause := b2n rail.isSome, hiZ := true, selfOk := false, porNew := true } }
  .next ((s.clear SEC.LC.DBG_UNLOCKED).wr AGE.STATUS.MARGIN_LOW low)
/-- The clock in which POR began has passed (R393). -/
def State.porClock (s : State) : State := { s with pwr := { s.pwr with porNew := false } }
/-- POR_END (R379 to R381, R53, R364): POR ends: the straps are sampled, the outputs take their safe levels, the recorder starts from the
mirror, and the self-check runs. -/
def execPorEnd (safeH safeL pos0 : Bool) (found : StartFindings) (s : State) : Host.Outcome State Fault Refusal :=
  if !s.pwr.por then .next s else
  let s := ((s.put PWR.STRAPS.PWMSAFE_H safeH).put PWR.STRAPS.PWMSAFE_L safeL).put PWR.STRAPS.RINGPOS0 pos0
  let now := s.dtime
  let s := (s.wr PWR.RST_CAUSE.CAUSE s.pwr.porCause).updPwr fun _ => { measAt := now + 640 }
  .next (((s.recorderPor found).selfCheck found).resetSafety)

end Sys2Proof.Machine
end

