-- ==== Sys2Proof/Machine/PowerThermal.lean ====
section
/-!
DEFINITION. Power-state transitions with the shut-down BIST, and the junction sensors with throttling (R338 to R344, R394, R395, R434).
-/
namespace Sys2Proof.Machine

/-! ### Power states -/

/-- A transition to `to_` is allowed from the present state (R395). -/
def State.powerOk (s : State) (to_ : Nat) : Bool :=
  let st := s.rd PWR.STATE.STATE
  !(s.flag PWR.STATE.BUSY) &&
  (match st, to_ with
   | 0, 1 => !(axes.any s.axOn) && !((List.range 64).any fun c => s.rd CTX.STATUS.STATE c == ctxArmed)
   | 1, 0 => true
   | 1, 2 => true
   | 0, 3 => true
   | 1, 3 => true
   | _, _ => false)
/-- A transition begins; OFF_PREP is entered at once: axes off, STO of every group, frames aborted, cores halted, sessions ended (R338). -/
def State.powerStart (s : State) (to_ : Nat) : State :=
  let now := s.dtime
  let old := s.rd PWR.STATE.STATE
  let s := (s.raise PWR.STATE.BUSY).updPwr fun h => { h with trans := some (to_, now) }
  if to_ = 3 then
    let s := (s.wr PWR.STATE.STATE 3).emit 0x0004 srcModule [old, 3]
    let s := s.forEach axes fun s n => s.axisOff n 0 resAborted
    let s := (s.stoSet 0 groups).forEach (List.range 64) fun s c =>
      let s := (s.updCx c fun h => { h with latched := none, wait := none }).clear CTX.STATUS.LATCHED c
      if (s.cx c).frame.isSome then (s.failFrame c 5).frameEnd c else s
    ({ s.mbEnd.attAbort with bist := {} }.wr BIST.STATUS.STEP 1).updSec fun h => { h with core0 := none }
  else s

/-- Spares of a kind in one instance, and the instances there are (R335); the spec gives no number of cache arrays. -/
def spareCount (k : Nat) : Nat := [8, 2, 8, 2, 8, 2, 64, 4, 4].getD k 0
def spareInst (k i : Nat) : Bool := match [64, 64, 8, 8, 2, 2, 8, 16][k]? with | some n => decide (i < n) | none => k == 8
/-- A free spare for a defect among fuse entries: the lowest that no valid entry names (R335, R342). -/
def freeSpare (l : List FuseEntry) (d : BistDefect) : Option Nat :=
  if spareInst d.kind d.inst then (List.range (spareCount d.kind)).find? fun k => !(l.any fun e => e.valid && e.kind == d.kind.val && e.inst == d.inst && e.spare == k)
  else none
/-- The repairs that the defects of the blocks ask for, in the blocks' order, as far as spares and room in the bank reach, and the defects left
(R342). -/
def planRepairs : List FuseEntry → List (Nat × BistDefect) → List (Nat × FuseEntry) × List (Nat × BistDefect)
  | _, [] => ([], [])
  | bank, d :: t =>
    match if bank.length < 1024 then freeSpare bank d.2 else none with
    | some k =>
      let e : FuseEntry := { kind := d.2.kind, inst := d.2.inst, spare := k, addr := d.2.addr, valid := true }
      let r := planRepairs (bank ++ [e]) t
      ((d.1, e) :: r.1, r.2)
    | none => let r := planRepairs bank t; (r.1, d :: r.2)
/-- The unit that a defect lies in, by PFENCE bit: an engine's MAC array, an observer or Pewter lane. -/
def defectUnit (kind inst : Nat) : Option Nat := if kind = 6 then some inst else if kind = 7 then some (8 + inst) else none
/-- The block of R339 that a unit belongs to: engines, lanes, axis channels. -/
def bistBlock (u : Nat) : Nat := if u < 8 then 0 else if u < 24 then 1 else 2
/-- A unit is fenced for good (R342): by PFENCE bit, axis channels from 24 on. -/
def State.fenceUnit (s : State) (u : Nat) : State := if u < 24 then s.wrBit AGE.PFENCE.PFENCE u true else s.wrBit AGE.PFENCE_AX (u - 24) true
/-- The failure count of a unit (R344). -/
def State.failCount (s : State) (u : Nat) : Nat := bits (s.rd AGE.FAIL_CNT.FAIL_CNT 0 (u / 8)) (4 * (u % 8) + 3) (4 * (u % 8))
/-- What the completed BIST does with the units (R342, R344): those with a defect left are fenced, those repaired lose their failure count, and those
without a defect whose count has reached 3 are fenced. -/
def State.bistUnits (s : State) : State :=
  let b := s.bist
  let bad := b.units ++ b.left.filterMap fun d => defectUnit d.2.kind d.2.inst
  let fixed := b.plan.filterMap fun e => defectUnit e.2.kind e.2.inst
  let s := s.forEach bad State.fenceUnit
  let s := s.forEach (fixed.filter fun u => !(bad.contains u)) fun s u =>
    s.wr AGE.FAIL_CNT.FAIL_CNT (setBits (s.rd AGE.FAIL_CNT.FAIL_CNT 0 (u / 8)) (4 * (u % 8) + 3) (4 * (u % 8)) 0) 0 (u / 8)
  s.forEach ((List.range 24).filter fun u => !(bad.contains u) && !(fixed.contains u)) fun s u => if 3 ≤ s.failCount u then s.fenceUnit u else s
/-- RESULT of block `i`: PASS, REPAIRED or UNREPAIRED, the entries written and the duration (R342). -/
def State.bistResult (s : State) (i : Nat) : State :=
  let b := s.bist
  let f := b.found.getD i {}
  let reps := (b.plan.filter fun e => e.1 == i).length
  let bad := 0 < f.other || b.left.any (fun d => d.1 == i) || b.units.any fun u => bistBlock u == i
  let s := s.raiseIf bad BIST.STATUS.UNREPAIRED
  ((s.wr BIST.RESULT.OUTCOME (if bad then 3 else if 0 < reps then 2 else 1) 0 i).wr BIST.RESULT.REPAIRS (satU 10 reps) 0 i).wr BIST.RESULT.TIME (satU 20 f.time) 0 i
/-- The valid marks are written behind the entries' bodies (R336); the units, the blocks and the bank show what has come of the defects. -/
def State.bistWrite (s : State) : State :=
  let k := s.fuses.length - s.bist.plan.length
  let s := { s with fuses := s.fuses.take k ++ s.bist.plan.map Prod.snd }
  let s := s.bistUnits.forEach (List.range 8) State.bistResult
  (s.wr BIST.STATUS.FUSE_USED (s.fuses.filter FuseEntry.valid).length).put BIST.STATUS.FUSE_FULL (decide (1024 ≤ s.fuses.length))
/-- The recorder event of block `i` (R338). -/
def State.bistTell (s : State) (i : Nat) : State :=
  s.emit 0x0B01 srcModule ([i, s.rd BIST.RESULT.OUTCOME 0 i] ++ le 2 (s.rd BIST.RESULT.REPAIRS 0 i) ++ le 4 (s.rd BIST.RESULT.TIME 0 i))
/-- The BIST goes on by one step of R338, with what the blocks of the group that completes have shown: groups 1 to 3, the repairs, the bodies of
the fuse entries and then their valid marks, one event per block; once these are recorded it is complete: the mirror is flushed and OFFRDY
goes high. -/
def State.bistStep (s : State) (blocks : List BistBlock) (units : List (Fin 74)) : State :=
  let b := s.bist
  let more (n : Nat) : List BistBlock := b.found ++ (blocks ++ List.replicate n ({} : BistBlock)).take n
  match s.rd BIST.STATUS.STEP with
  | 1 => s.wr BIST.STATUS.STEP 2
  | 2 => { s with bist := { b with found := more 5, units := (units.map Fin.val).eraseDups } }.wr BIST.STATUS.STEP 3
  | 3 => { s with bist := { b with found := more 2 } }.wr BIST.STATUS.STEP 4
  | 4 =>
    let found := more 1
    let r := planRepairs s.fuses ((List.range 8).flatMap fun i => (found.getD i {}).defects.map fun d => (i, d))
    { s with bist := { b with found := found, plan := r.1, left := r.2 } }.wr BIST.STATUS.STEP 5
  | 5 =>
    if b.bodies then s.bistWrite.wr BIST.STATUS.STEP 6
    else { s with fuses := s.fuses ++ b.plan.map (fun e => { e.2 with valid := false }), bist := { b with bodies := true } }
  | 6 =>
    if !b.told then { s with bist := { b with told := true } }.forEach (List.range 8) State.bistTell
    else if s.recd.queue.any (fun e => e.code == 0x0B01) then s
    else
      let s := ((s.wr BIST.STATUS.STEP 7).raise BIST.STATUS.DONE).clear PWR.STATE.BUSY
      (s.mirrorAll true).updPwr fun h => { h with offrdy := true, trans := none }
  | _ => s
/-- The links are off: every port is without link, untrained, its replay contents gone (R394, R396). -/
def State.linksOff (s : State) : State :=
  let s := { s with lnks := [] }.forEach (List.range 3) fun s p => (s.clear LNK.STATUS.UP p).wr LNK.STATUS.LANES 0 p
  (s.clear TWN.STATUS.LINK_UP).clear TWN.STATUS.PAIRED
/-- POWER_TRANSITION_DONE (R338, R342, R344, R395): the transition in progress completes; `dl`, `ref` and `ack` are what the re-plan at the
entry into RUN finds (R349). The transition to OFF_PREP completes step by step of R338, one at each such command (DESIGN CHOICE, assumption log 82),
`blocks` and `units` being what the BIST finds in the group that completes. -/
def execPowerTransitionDone (dl ref : List Int) (ack : Bool) (blocks : List BistBlock) (units : List (Fin 74)) (s : State) :
    Host.Outcome State Fault Refusal :=
  match s.pwr.trans with
  | none => .next s
  | some (to_, _) =>
    if to_ = 3 then .next (s.bistStep blocks units) else
    let now := s.dtime
    let old := s.rd PWR.STATE.STATE
    let s := (s.clear PWR.STATE.BUSY).updPwr fun h => { h with trans := none }
    let s := (s.wr PWR.STATE.STATE to_).emit 0x0004 srcModule [old, to_]
    match to_ with
    | 0 => .next (((s.updSaf (fun h => { h with runAt := now })).measEnter (decide (2 ≤ old))).marginReplan dl ref ack)
    | 1 => .next ((s.measEnter (decide (2 ≤ old))).forEach axes fun s n => s.updPw n fun h => { h with awake := false, wakeAt := none })
    | _ =>
      let s := s.withdraw.mbEnd.attAbort.linksOff.mirrorAll true
      let s := { s with mem := keepMem false false true true true s.mem, flips := keepFlips false false true true true s.flips }
      .next (s.updSec fun h => { h with core0 := none })

/-! ### Thermal (R434) -/

/-- Every bit of SAF.STO_REQ is set by the module (R389, R434). -/
def State.stoAll (s : State) : State := (s.wr SAF.STO_REQ.GROUPS 65535).stoEval 0
/-- THROTTLE shows LEVEL above 0. -/
def State.levelSet (s : State) (l : Nat) : State := (s.wr THM.STATUS.LEVEL l).put THM.STATUS.THROTTLE (decide (0 < l))
/-- THERMAL_SAMPLE (R434): the highest junction reading in 1/16 °C and its sensor. -/
def execThermalSample (tj : Int) (sensor : Fin 16) (s : State) : Host.Outcome State Fault Refusal :=
  let t := satS 16 tj
  let s := (s.wrS THM.TJ_MAX.TJ t).wr THM.TJ_MAX.SENSOR sensor
  let s := if !s.pwr.tjSeen || decide (s.rdS THM.TJ_PEAK.TJ < t) then ((s.wrS THM.TJ_PEAK.TJ t).wr THM.TJ_PEAK.SENSOR sensor).updPwr fun h => { h with tjSeen := true }
    else s
  if 125 * 16 ≤ t then
    if s.flag THM.STATUS.SHUT then .next s
    else .next ((s.raise THM.STATUS.SHUT).updPwr (fun h => { h with therm := true }) |>.stoAll)
  else if (s.rd THM.CFG.CRIT * 16 : Int) ≤ t then
    let s := if s.rd THM.STATUS.LEVEL = 8 then s else s.raiseIrq (s.rd THM.CFG.IRQ)
    .next ((s.raise THM.STATUS.CRIT).levelSet 8)
  else .next s
/-- THROTTLE_STEP (R434): each ms LEVEL rises or falls by one as TJ_MAX requires, and a millisecond above level 0 is counted. -/
def execThrottleStep (s : State) : Host.Outcome State Fault Refusal :=
  if s.dtime < s.pwr.msAt + msTicks then .next s else
  let now := s.dtime
  let s := s.updPwr fun h => { h with msAt := now }
  let t := s.rdS THM.TJ_MAX.TJ
  let l := s.rd THM.STATUS.LEVEL
  let s := if (s.rd THM.CFG.CRIT * 16 : Int) ≤ t then s
    else if (s.rd THM.CFG.THR_ON * 16 : Int) ≤ t then s.levelSet (min 7 (l + 1))
    else if t < (s.rd THM.CFG.THR_OFF * 16 : Int) then s.levelSet (l - 1)
    else s
  .next (if 0 < s.rd THM.STATUS.LEVEL then s.incSat THM.STATUS.THR_MS else s)
/-- The effect of a write of THM.CFG: one that breaks THR_OFF < THR_ON < CRIT ≤ 120 changes no field. -/
def State.fxThmCfg (s : State) (v : Nat) : State × WErr :=
  let a := THM.CFG.LOCK.base
  if s.flag THM.CFG.LOCK then s.writeFields a v
  else if bits v 15 8 < bits v 23 16 ∧ bits v 23 16 < bits v 31 24 ∧ bits v 31 24 ≤ 120 then s.writeFields a v
  else (s.raise THM.STATUS.CFG_REFUSED, .ok)

end Sys2Proof.Machine
end

