-- ==== Sys2Proof/Machine/DeviceTime.lean ====
section
/-!
DEFINITION. DEVICE TIME: steps with every reference that moves with them, the rate trim, alignment to the time master, gPTP, and the
recorder's flush and mirror read (R28 to R34, R390, R405, R438, R363, R365).
-/
namespace Sys2Proof.Machine

/-! ### Steps (R31, R438) -/

/-- A held DEVICE TIME moved by a step. -/
def shiftT (d : Int) (t : Nat) : Nat := ofS 64 (t + d)
def shiftO (d : Int) (t : Option Nat) : Option Nat := t.map (shiftT d)

/-- The references of timebases, inputs, monitor sets, energy accounts, utilisation counters and contexts move (R438). -/
def State.shiftNamed (s : State) (d : Int) : State :=
  let sh := shiftT d
  let so := shiftO d
  let s := s.forEach (List.range 64) fun s t =>
    (s.wr TB.STAMP (sh (s.rd TB.STAMP t)) t).updTb t fun h =>
      { h with primLast := so h.primLast, fbLast := so h.fbLast, since := sh h.since, fbSince := sh h.fbSince, holdAt := sh h.holdAt,
               words := h.words.map (fun x => (sh x.1, x.2)), hist := h.hist.map fun x => (sh x.1, x.2) }
  let s := s.forEach (List.range 424) fun s k => s.updMon k fun h => { h with ref := sh h.ref, nowAt := sh h.nowAt }
  let s := s.forEach (List.range 8) fun s b => s.updSg b fun h =>
    { h with autoRef := sh h.autoRef, onFrom := so h.onFrom, riseAt := sh h.riseAt, fallAt := so h.fallAt, curEdge := sh h.curEdge,
             chfbAt := sh h.chfbAt, thAt := sh h.thAt }
  let s := s.forEach (List.range 8) fun s p => s.updEn p fun h =>
    { h with issue := h.issue.map (fun x => (x.1, sh x.2)), since := sh h.since, upTo := sh h.upTo }
  let s := s.forEach axes fun s n => s.updFo n fun h => { h with notBefore := sh h.notBefore }
  let s := s.forEach (List.range 64) fun s c => s.updCx c fun h => { h with prevTrig := so h.prevTrig, cmd := h.cmd.map fun x => { x with at_ := sh x.at_ } }
  { s with
    qRetired := Tab.mapV (0, 0) (fun x => if x.1 = s.dtime then (sh x.1, x.2) else (0, 0)) s.qRetired
    slots := Tab.mapV {} (fun h => { h with resid := h.resid.map fun x => (x.1, sh x.2) }) s.slots
    tachs := Tab.mapV {} (fun h => { h with last := so h.last }) s.tachs
    ssiEnd := Tab.mapV none so s.ssiEnd
    timeH := { s.timeH with lsRef := so s.timeH.lsRef, lastOffset := sh s.timeH.lastOffset }
    utilRef := sh s.utilRef }
/-- The references of the intervals that the other units measure move as well. -/
def State.shiftUnits (s : State) (d : Int) : State :=
  let sh := shiftT d
  let so := shiftO d
  let tests : List Nat := List.range 24
  let ev (e : EvalH) : EvalH := { e with ts := sh e.ts }
  let s := s.forEach tests fun s u => s.updTst u fun h =>
    { h with last := sh h.last, start := so h.start, lastStart := so h.lastStart, restoreBy := so h.restoreBy }
  let s := s.forEach axes fun s n => s.updOb n fun h =>
    { h with lastEval := so h.lastEval, at_ := sh h.at_, tAt := sh h.tAt, loadAt := sh h.loadAt, lastStep := so h.lastStep, bg := h.bg.map ev, ready := h.ready.map ev }
  let cost (p : Nat × Nat) : Nat × Nat := (sh p.1, p.2)
  let job (j : JobH) : JobH := { j with ts := sh j.ts, rel := sh j.rel }
  let drive (h : DriveH) : DriveH := { h with at_ := sh h.at_, stop := so h.stop }
  let ring (p : BabPt) : BabPt := { p with tm := ofS 72 (p.tm + 256 * d) }
  { s with
    pwms := Tab.mapV {} (fun h => { h with lastTrig := so h.lastTrig, wakeAt := so h.wakeAt, nextB := so h.nextB, lastB := sh h.lastB,
                                            sideAt := sh h.sideAt, hold := h.hold.map (fun x => (sh x.1, so x.2)), drv := drive h.drv, prv := drive h.prv, pp := drive h.pp }) s.pwms
    cmts := Tab.mapV {} (fun h => { h with lastWin := h.lastWin.map (fun x => (x.1, sh x.2.1, sh x.2.2)), lastClose := so h.lastClose, tu := sh h.tu,
                                           lastAcc := so h.lastAcc, at_ := sh h.at_, angleAt := sh h.angleAt }) s.cmts
    pvs := Tab.mapV {} (fun h => { h with clk := sh h.clk, stamp := sh h.stamp }) s.pvs
    pxbs := Tab.mapV none (fun h => h.map fun x => { x with start := sh x.start }) s.pxbs
    hks := Tab.mapV {} (fun h => { h with start := so h.start, delayEnd := sh h.delayEnd, urgEnd := sh h.urgEnd, wakeAt := so h.wakeAt,
                                          urg := h.urg.map (fun u => { u with start := so u.start, at_ := sh u.at_ }),
                                          urgPend := h.urgPend.map fun u => { u with at_ := sh u.at_ } }) s.hks
    vibs := Tab.mapV {} (fun h => { h with settleEnd := so h.settleEnd, wakeAt := so h.wakeAt }) s.vibs
    pvSettle := Tab.mapV 0 sh s.pvSettle
    cal := s.cal.map fun h => { h with start := sh h.start }
    babIns := Tab.mapV {} (fun h => { h with samples := h.samples.map (fun x => { x with stamp := sh x.stamp }), wait := h.wait.map ring, ring := h.ring.map ring,
                                             marks := h.marks.map fun x => (sh x.1, x.2) }) s.babIns
    babCosts := s.babCosts.map cost
    babCloses := s.babCloses.map fun c => { c with at_ := sh c.at_ }
    lanes := Tab.mapV none (fun h => h.map fun x => (job x.1, sh x.2)) s.lanes
    jobs := s.jobs.map job
    pjobs := s.pjobs.map job
    babCtxs := Tab.mapV {} (fun h => { h with staleRef := sh h.staleRef }) s.babCtxs
    safAxs := Tab.mapV {} (fun h => { h with ss1 := h.ss1.map cost, derAt := so h.derAt }) s.safAxs
    safIns := Tab.mapV {} (fun h => { h with differ := so h.differ }) s.safIns
    saf := { s.saf with windowAt := so s.saf.windowAt, runAt := sh s.saf.runAt,
                        pulses := Tab.mapV {} (fun h => { h with a := so h.a, b := so h.b }) s.saf.pulses,
                        aAt := Tab.mapV 0 sh s.saf.aAt, bAt := Tab.mapV 0 sh s.saf.bAt, due := s.saf.due.map fun f => { f with at_ := sh f.at_ } }
    age := { s.age with lastMeas := so s.age.lastMeas, notBefore := sh s.age.notBefore,
                        trim := Tab.mapV none (fun h => h.map fun x => (x.1, sh x.2)) s.age.trim }
    sup := { s.sup with loadAt := so s.sup.loadAt }
    mbs := Tab.mapV none (fun h => h.map fun c => { c with taken := sh c.taken }) s.mbs
    sec := { s.sec with fuseAt := sh s.sec.fuseAt, lcPrev := s.sec.lcPrev.map fun x => (sh x.1, x.2) }
    pwr := { s.pwr with trans := s.pwr.trans.map (fun x => (x.1, sh x.2)), axRst := Tab.mapV none so s.pwr.axRst, go := so s.pwr.go,
                        msAt := sh s.pwr.msAt, rstAt := so s.pwr.rstAt, measAt := sh s.pwr.measAt }
    lnks := Tab.mapV {} (fun h => { h with down := so h.down, refusedAt := so h.refusedAt,
                                           unacked := h.unacked.map fun p => { p with sent := sh p.sent } }) s.lnks
    ext := { s.ext with pcie := s.ext.pcie.map fun x => { x with at_ := sh x.at_ } }
    recd := { s.recd with queue := s.recd.queue.map (fun e => { e with arrived := sh e.arrived }), lastTake := so s.recd.lastTake, hoursStop := so s.recd.hoursStop, hoursRef := sh s.recd.hoursRef,
                          pendNew := s.recd.pendNew.map (fun x => (x.1, sh x.2)), pendRep := s.recd.pendRep.map fun x => (x.1, sh x.2) } }

/-- A step is allowed (R31): no axis enabled, no frame in progress, no slot enabled. -/
def State.stepOk (s : State) : Bool :=
  !(axes.any s.axOn) && !((List.range 64).any fun c => (s.cx c).frame.isSome) && !((List.range 256).any fun k => s.flag SCH.CFG.EN k)
/-- A step of `d` ticks is performed, or refused (R31, R438); it restarts every vibration channel that is powered (R92, R95). -/
def State.stepTime (s : State) (d : Int) : State :=
  if s.stepOk then
    let before := s.dtime
    let s := (s.shiftNamed d).shiftUnits d
    let s := ({ s with dtime := shiftT d before }).emit 0x0003 srcModule (le 8 before ++ le 8 (ofS 64 d))
    s.forEach (List.range 32) fun s c => if s.flag MF.VIB_CFG.PD c || s.vibOdd c then s else s.vibRestart c s.dtime
  else s.raise DT.STATUS.STEP_REFUSED
/-- The effect of a write of DT.STEP_HI. -/
def State.fxDtStepHi (s : State) (v : Nat) : State × WErr := (s.stepTime (toS 64 (s.pairValue (DT.STEP.base + 4) v)), .ok)
/-- DT_STEP (R31): a write of DT.STEP_HI. -/
def execDtStep (m : Fin 64) (v : Word) (s : State) : Host.Outcome State Fault Refusal :=
  .next (s.busWriteWith m (DT.STEP.base + 4) false fun s => s.fxDtStepHi v.toNat)

/-! ### Rate (R30, R34) -/

/-- RATE takes a trim, held at ±429,497 (±100 ppm). -/
def State.setRate (s : State) (r : Int) : State :=
  (s.wrS DT.RATE.RATE (clampI (-429497) 429497 r)).raiseIf (decide (r < -429497 ∨ 429497 < r)) DT.STATUS.RATE_CLAMP
/-- The effect of a write of DT.RATE: ignored while hardware trims. -/
def State.fxDtRate (s : State) (v : Nat) : State × WErr :=
  if s.rd DT.CTRL.ROLE = 2 ∨ s.flag DT.CTRL.GPTP_FOLLOW = true then (s, .ok) else (s.setRate (toS 32 v), .ok)
/-- DT_RATE_WRITE (R30): a write of DT.RATE. -/
def execDtRateWrite (m : Fin 64) (v : Word) (s : State) : Host.Outcome State Fault Refusal :=
  .next (s.busWriteWith m DT.RATE.RATE.base false fun s => s.fxDtRate v.toNat)
/-- Hardware trims RATE: the value is free, inside the limit. -/
def State.trimFree (s : State) : State := let r := s.draw; r.2.setRate (toS 32 r.1)

/-! ### Alignment (R32, R390, R405) -/

/-- 20 ns in units of 1/256 tick, floor: 6.4 ticks. -/
def alignLimit : Nat := 1638
/-- A follower's one step to the master's value, at its first measurement, in whole ticks (R388, *Alignment across modules*). -/
def State.followerStep (s : State) (o : Int) : State :=
  if s.timeH.stepped then s else
  let t := rne o 256
  let s := { s with timeH := { s.timeH with stepped := true } }
  if t = 0 then s else s.stepTime t
/-- An offset to the master has been measured: shown, judged, and used to trim the rate (R32, R405). An offset that OFFSET cannot hold is free. -/
def State.offsetMeasured (s : State) (o : Int) : State :=
  let r := if satS 32 o = o then (ofS 32 o, s) else s.draw
  let s := (r.2.wr DT.OFFSET.OFFSET r.1).followerStep o
  let good := decide (absI o ≤ alignLimit)
  let g := if good then min 16 (s.timeH.good + 1) else 0
  let now := s.dtime
  let s := { s with timeH := { s.timeH with good := g, lastOffset := now } }
  let s := if !good then s.clear DT.STATUS.ALIGNED else s.raiseIf (decide (g = 16)) DT.STATUS.ALIGNED
  s.trimFree
/-- PAIRED sets (R390). -/
def State.pairJudge (s : State) (o : Int) (peer : Bool) : State :=
  s.raiseIf (s.flag TWN.CFG.EN && s.flag LNK.STATUS.UP 2 && s.flag DT.STATUS.ALIGNED && peer && decide (absI o ≤ alignLimit)) TWN.STATUS.PAIRED
/-- Hops from this module to the time master upstream (falling ring IDs) or downstream, more than the ring has where a gap lies on the way (R386, R405). -/
def State.hopsToMaster (s : State) (up : Bool) : Nat :=
  let present := s.rd PWR.RING_STATUS.PRESENT
  let n := popCount 8 (present ||| s.rd PWR.RING_STATUS.GAP)
  let way := (List.range n).map fun k => (s.rd PWR.RING_STATUS.RING_ID + (k + 1) * (if up then n - 1 else 1)) % n
  match way.findIdx? (· == s.rd PWR.RING_STATUS.MASTER) with
  | some k => if (way.take (k + 1)).all (bit present) then k + 1 else n + 1
  | none => n + 1
/-- The Brass port over which a follower measures: toward the neighbour with fewer hops to the time master, upstream on a tie, among the ports
that have link (R405). -/
def State.timePort (s : State) : Nat :=
  if !(s.flag LNK.STATUS.UP 1) then 0 else if !(s.flag LNK.STATUS.UP 0) then 1
  else if s.hopsToMaster true ≤ s.hopsToMaster false then 0 else 1
/-- TIME (R405, R32, R390): an exchange on port `p` with its four stamps in ticks, the fused delay of both ports' SerDes in 1/256 tick, the
offset of the neighbour to the master (alignment waits for enumeration, R385) and, on port 2, whether the partner shows ALIGNED with the same master (or leads the standalone pair). -/
def execTime (p : Fin 3) (t1 t2 t3 t4 serdes : Nat) (nb : Int) (peer : Bool) (s : State) : Host.Outcome State Fault Refusal :=
  if !(s.flag LNK.STATUS.UP p) then .next s else
  let s := s.linkRecv p pkTime
  let there : Int := 256 * ((t2 : Int) - t1) - serdes
  let back : Int := 256 * ((t4 : Int) - t3) - serdes
  let hop := (there - back) / 2
  let s := s.wr LNK.DELAY.DELAY (ofS 32 ((there + back) / 2)) p
  if p.val = 2 then
    let s := if s.rd DT.CTRL.ROLE = 2 ∧ s.pwr.alone = true ∧ s.flag PWR.START_STATUS.ENUM_DONE = true then s.offsetMeasured (hop + nb) else s
    .next (s.pairJudge hop peer)
  else if s.rd DT.CTRL.ROLE = 2 ∧ p.val = s.timePort ∧ s.flag PWR.START_STATUS.ENUM_DONE = true then .next (s.offsetMeasured (hop + nb))
  else .next s
/-- ALIGN_TIMEOUT (R32): no offset measurement has arrived at a follower for 1 ms. -/
def execAlignTimeout (s : State) : Host.Outcome State Fault Refusal :=
  if s.rd DT.CTRL.ROLE = 2 ∧ s.timeH.lastOffset + msTicks ≤ s.dtime then
    .next ({ s with timeH := { s.timeH with good := 0 } }.clear DT.STATUS.ALIGNED)
  else .next s
/-- GPTP_OFS_UPDATE (R34): a synchronisation on the gPTP port gives gPTP time minus DEVICE TIME in ns. -/
def execGptpOfsUpdate (ofs : Int) (s : State) : Host.Outcome State Fault Refusal :=
  let s := s.wrS DT.GPTP_OFS ofs
  .next (if s.flag DT.CTRL.GPTP_FOLLOW = true ∧ s.rd DT.CTRL.ROLE = 1 then s.trimFree else s)

/-! ### The recorder's registers -/

/-- The effect of a write of REC.CTRL; `ok` is whether the device on port 1 takes the writes. -/
def State.fxRecCtrl (s : State) (ok : Bool) (v : Nat) : State × WErr := (if bit v 0 then s.flushMirror ok else s, .ok)
/-- REC_FLUSH (R363): a write of REC.CTRL. -/
def execRecFlush (m : Fin 64) (v : Word) (ok : Bool) (s : State) : Host.Outcome State Fault Refusal :=
  .next (s.busWriteWith m REC.CTRL.FLUSH.base false fun s => s.fxRecCtrl ok v.toNat)
/-- The effect of a write of REC.NV_IDX: a read of that record from the mirror begins; NV_VALID no longer holds. -/
def State.fxNvIdx (s : State) (v : Nat) : State × WErr :=
  let s := (s.wr REC.NV_IDX.SEQ v).clear REC.STATUS.NV_VALID
  ({ s with recd := { s.recd with nvPend := some v } }, .ok)
/-- NV_IDX_WRITE (R365): a write of REC.NV_IDX. -/
def execNvIdxWrite (m : Fin 64) (v : Word) (s : State) : Host.Outcome State Fault Refusal :=
  .next (s.busWriteWith m REC.NV_IDX.SEQ.base false fun s => s.fxNvIdx v.toNat)

end Sys2Proof.Machine
end

