-- ==== Sys2Proof/Machine/Links.lean ====
section
/-!
DEFINITION. The Brass and Twin links: training, enumeration, gaps and joins, loss of link, acknowledgement and replay (R384 to R390, R400 to
R406).
-/
namespace Sys2Proof.Machine

/-- Lanes in use by operand: 1, 2 or 4. -/
def lanesOf (k : Nat) : Nat := 2 ^ k
/-- A recorder event that R402, R404 or R417 asks for and R366 does not list: its code, payload and merging are open. -/
def State.emitOpen (s : State) (kind source what : Nat) : State :=
  s.emitAt s.dtime (Config.eventCode kind) source (Config.eventData kind what) (Config.eventMerge kind)
/-- SOURCE of a link port. -/
def srcPort (p : Nat) : Nat := srcOf 13 p

/-! ### Training (R384, R385, R402) -/

/-- Training starts on a port without link. -/
def State.linkTrain (s : State) (p : Nat) : State :=
  if s.flag LNK.STATUS.UP p then s else s.updLnk p fun h => { h with training := true, refusedAt := none }
/-- The effect of a write of PWR.RING_CTRL: GO stamps and starts training on both Brass ports. -/
def State.fxRingCtrl (s : State) (v : Nat) : State × WErr :=
  let r := s.writeFields PWR.RING_CTRL.GO.base v
  if bit v 0 then
    let now := s.dtime
    (((((r.1.wr PWR.GO_TIME now).updPwr fun h => { h with go := some now, walked := false, enumOver := false }).linkTrain 0).linkTrain 1), r.2)
  else r
/-- RING_GO (R384): a write of PWR.RING_CTRL. -/
def execRingGo (m : Fin 64) (v : Word) (s : State) : Host.Outcome State Fault Refusal :=
  .next (s.busWriteWith m PWR.RING_CTRL.GO.base false fun s => s.fxRingCtrl v.toNat)
/-- The module's place in its pair, by ring ID: the higher of the two is FOLLOW (R269). While the partner's ID is not known the pair is taken to be
an even ID with the next one (DESIGN CHOICE, assumption log 57). -/
def State.twinRole (s : State) : State :=
  let id := s.rd PWR.RING_STATUS.RING_ID
  let peer := s.rd LNK.STATUS.PEER_ID 2
  s.put TWN.CFG.ROLE (s.flag TWN.CFG.EN && decide (id < 8) && (if peer < 8 then decide (peer < id) else id % 2 == 1))
/-- The effect of a write of TWN.CFG: setting EN starts training on port 2. -/
def State.fxTwnCfg (s : State) (v : Nat) : State × WErr :=
  let was := s.flag TWN.CFG.EN
  let r := s.writeFields TWN.CFG.EN.base v
  ((if !was && r.1.flag TWN.CFG.EN then r.1.linkTrain 2 else r.1).twinRole, r.2)
/-- TWN_CFG_ENABLE (R402): a write of TWN.CFG. -/
def execTwnCfgEnable (m : Fin 64) (v : Word) (s : State) : Host.Outcome State Fault Refusal :=
  .next (s.busWriteWith m TWN.CFG.EN.base false fun s => s.fxTwnCfg v.toNat)
/-- The version of a link with a partner of version `major`.`minor`, none where it is refused (R402); this module speaks 1.0. -/
def State.linkVersion (s : State) (major minor : Nat) : Option (Nat × Nat) :=
  if s.pwr.negotiate then (if major = 1 then some (1, 0) else none)
  else if major = 1 ∧ minor = 0 then some (1, 0) else none
/-- A port comes up. -/
def State.linkUp (s : State) (p lanes : Nat) (ver : Nat × Nat) (peer : Nat) : State :=
  let s := (s.raise LNK.STATUS.UP p).wr LNK.STATUS.LANES lanes p
  let s := ((s.wr LNK.STATUS.VER_MAJOR ver.1 p).wr LNK.STATUS.VER_MINOR ver.2 p).wr LNK.STATUS.PEER_ID peer p
  let now := s.dtime
  let s := s.updLnk p fun h =>
    if h.retraining then { h with training := false, retraining := false, down := none, lost := false,
                                  unacked := h.unacked.map fun k => { k with sent := now, resends := 0 } }
    else {}
  let s := s.linkFlush p
  if p = 2 then (s.raise TWN.STATUS.LINK_UP).twinRole
  else
    let s := s.raiseIf (s.flag LNK.STATUS.UP 0 && s.flag LNK.STATUS.UP 1) PWR.START_STATUS.TRAINED
    if s.flag PWR.START_STATUS.ENUM_DONE then s.clear PWR.RING_STATUS.ISOLATED else s
/-- LINK_TRAINED (R400, R402): a hop that trains locks 1, 2 or 4 lanes (`lanes` is the logarithm) and exchanges versions and ring positions:
it comes up, or sets VER_ERR and is retried later. -/
def execLinkTrained (p : Fin 3) (lanes : Fin 3) (major minor : Fin 256) (peer : Fin 256) (s : State) : Host.Outcome State Fault Refusal :=
  if (s.lnk p).training then
    match s.linkVersion major minor with
    | some v => .next (s.linkUp p (lanesOf lanes) v peer)
    | none =>
      let now := s.dtime
      .next (((s.raise LNK.STATUS.VER_ERR p).emitOpen 0 (srcPort p) (major * 256 + minor)).updLnk p fun h =>
        { h with training := false, refusedAt := some now })
  else .next s
/-- TRAINING_RETRY (R402): 100 ms after a refusal the hop trains again. -/
def execTrainingRetry (p : Fin 3) (s : State) : Host.Outcome State Fault Refusal :=
  match (s.lnk p).refusedAt with
  | some t => .next (if t + 100 * msTicks ≤ s.dtime then s.updLnk p fun h => { h with training := true, refusedAt := none } else s)
  | none => .next s

/-! ### The ring (R385 to R389) -/

/-- The mask of IDs 0 to `n`. -/
def idMask (n : Nat) : Nat := 2 ^ (n + 1) - 1
/-- A module is enumerated with an ID: its masks, its role and the time master. A master has no offset and shows ALIGNED. -/
def State.enumerated (s : State) (id present gap master : Nat) (lead : Bool) : State :=
  let s := (((s.wr PWR.RING_STATUS.RING_ID id).wr PWR.RING_STATUS.PRESENT present).wr PWR.RING_STATUS.GAP gap).wr PWR.RING_STATUS.MASTER master
  let s := (s.raise PWR.START_STATUS.ENUM_DONE).clear PWR.RING_STATUS.ISOLATED
  let now := s.dtime
  let s := { s.wr DT.CTRL.ROLE (if lead then 1 else 2) with timeH := { s.timeH with good := 0, stepped := false, lastOffset := now } }
  (if lead then (s.wr DT.OFFSET.OFFSET 0).raise DT.STATUS.ALIGNED else s).twinRole
/-- A module that takes part in no ring (R387): no ring ID, no masks, no role and no alignment; enumeration has ended until the next GO. -/
def State.unenumerated (s : State) : State :=
  let s := (((s.wr PWR.RING_STATUS.RING_ID 0xFF).wr PWR.RING_STATUS.PRESENT 0).wr PWR.RING_STATUS.GAP 0).wr PWR.RING_STATUS.MASTER 0
  let s := (((s.clear PWR.START_STATUS.ENUM_DONE).wr DT.CTRL.ROLE 0).clear DT.STATUS.ALIGNED).twinRole
  { s with timeH := { s.timeH with good := 0 } }.updPwr fun h => { h with enumOver := true, alone := false }
/-- An ENUM packet leaves a Brass port that is up: the ID it assigns, none in a walk that is refused, and the masks it carries (R386, R387). -/
def State.sendEnum (s : State) (p : Nat) (id : Option Nat) (present gap : Nat) : State :=
  if s.flag LNK.STATUS.UP p then
    s.linkSend p pkEnum 0 0 (Config.linkBytes pkEnum [(id.map (· + 1)).getD 0, present, gap])
  else s
/-- Enumeration is refused on a position-0 module, and every module it can reach is told (R387). -/
def State.enumRefused (s : State) : State :=
  (((s.raise PWR.RING_STATUS.ENUM_ERR).unenumerated).sendEnum 1 none 0 0).sendEnum 0 none 0 0
/-- The position-0 module enumerates: `down` modules reached downstream, `up` upstream; `second` where another RINGPOS0 module is met. The walk
leaves with ID 1 downstream and with N_EXP upstream (R386). -/
def State.enumerate (s : State) (down up : Nat) (second : Bool) : State :=
  let n := s.rd PWR.RING_CTRL.N_EXP
  if second || decide (n < down + up) then s.enumRefused
  else
    let pres := (List.range (n + 1)).foldl (fun m i => setBit m i (decide (i ≤ down ∨ n - up < i))) 0
    let gap := idMask n - pres
    let s := s.enumerated 0 pres gap 0 true
    let s := if 0 < down then s.sendEnum 1 (some 1) pres gap else s
    if 0 < up then s.sendEnum 0 (some n) pres gap else s
/-- A standalone module: GO written with N_EXP = 0 and no Brass port trained (R385). -/
def State.isAlone (s : State) : Bool :=
  s.rd PWR.RING_CTRL.N_EXP == 0 && !(s.flag LNK.STATUS.UP 0) && !(s.flag LNK.STATUS.UP 1)
/-- ENUMERATION (R385, R386): after GO, the position-0 module with every hop trained walks the ring; a standalone module takes ID 0 or 1. -/
def execEnumeration (down up : Nat) (second : Bool) (s : State) : Host.Outcome State Fault Refusal :=
  if s.pwr.go = none ∨ s.flag PWR.START_STATUS.ENUM_DONE = true ∨ s.pwr.enumOver = true then .next s
  else if s.isAlone then
    let id := if s.flag PWR.STRAPS.RINGPOS0 then 0 else 1
    .next ((s.enumerated id (2 ^ id) 0 0 (id == 0)).updPwr fun h => { h with alone := true })
  else if s.flag PWR.STRAPS.RINGPOS0 && s.flag LNK.STATUS.UP 0 && s.flag LNK.STATUS.UP 1 then .next (s.enumerate down up second)
  else .next s
/-- ENUM_TIMEOUT (R386): 2 s after its own GO the position-0 module enumerates the hops that have trained. -/
def execEnumTimeout (down up : Nat) (second : Bool) (s : State) : Host.Outcome State Fault Refusal :=
  match s.pwr.go with
  | none => .next s
  | some t =>
    if t + 2000 * msTicks ≤ s.dtime ∧ s.flag PWR.STRAPS.RINGPOS0 = true ∧ s.flag PWR.START_STATUS.ENUM_DONE = false ∧ s.pwr.enumOver = false ∧ s.isAlone = false then
      .next (s.enumerate down up second)
    else .next s
/-- ENUM_WAIT_EXPIRY (R387): a module that no position-0 module has enumerated 3 s after its own GO stays unenumerated; one that no walk has
reached is isolated. -/
def execEnumWaitExpiry (s : State) : Host.Outcome State Fault Refusal :=
  match s.pwr.go with
  | none => .next s
  | some t =>
    if t + 3000 * msTicks ≤ s.dtime ∧ s.flag PWR.STRAPS.RINGPOS0 = false ∧ s.flag PWR.START_STATUS.ENUM_DONE = false then
      .next (((s.wr PWR.RING_STATUS.RING_ID 0xFF).raiseIf (!s.pwr.walked) PWR.RING_STATUS.ISOLATED).updPwr fun h => { h with enumOver := true })
    else .next s
/-- The lowest ID of a mask. -/
def lowestId (m : Nat) : Nat := ((List.range 8).find? fun i => bit m i).getD 0
/-- The masks of an enumerated module change; where the time master is gone the lowest remaining ID is master, without a step (R389). -/
def State.ringMasks (s : State) (present gap : Nat) : State :=
  let s := (s.wr PWR.RING_STATUS.PRESENT present).wr PWR.RING_STATUS.GAP gap
  if bit present (s.rd PWR.RING_STATUS.MASTER) then s
  else
    let m := lowestId present
    let s := s.wr PWR.RING_STATUS.MASTER m
    if m = s.rd PWR.RING_STATUS.RING_ID then ((s.wr DT.CTRL.ROLE 1).wr DT.OFFSET.OFFSET 0).raise DT.STATUS.ALIGNED else s
/-- ENUM (R386, R387, R389): an ENUM packet with the ID it assigns, none in a walk that is refused, and the masks it carries: the module takes the ID
and sends the walk on with the next one, up or down as it came; on an enumerated module it brings new masks, which it sends on. A refused walk leaves the module
unenumerated and goes on; a position-0 module that another one's walk reaches refuses it. -/
def execEnum (p : Fin 2) (id : Option (Fin 8)) (present gap : Fin 256) (s : State) : Host.Outcome State Fault Refusal :=
  if !(s.flag LNK.STATUS.UP p) then .next s else
  let s := (s.linkRecv p pkEnum).updPwr fun h => { h with walked := true }
  match id with
  | none =>
    if s.flag PWR.STRAPS.RINGPOS0 then .next (if s.pwr.enumOver then s else s.enumRefused)
    else .next (s.unenumerated.sendEnum (1 - p) none present gap)
  | some i =>
    if s.flag PWR.START_STATUS.ENUM_DONE then
      if s.rd PWR.RING_STATUS.PRESENT = present ∧ s.rd PWR.RING_STATUS.GAP = gap then .next s
      else .next ((s.ringMasks present gap).sendEnum (1 - p) (some i) present gap)
    else if s.flag PWR.STRAPS.RINGPOS0 then .next s.enumRefused
    else if s.pwr.enumOver then .next s
    else
      let j := if p.val = 0 then i.val + 1 else i.val - 1
      .next ((s.enumerated i present gap 0 false).sendEnum (1 - p) (some (j % 8)) present gap)
/-- A follower makes its one step (R32). -/
def State.firstStep (s : State) (d : Int) : State := let s := s.stepTime d; { s with timeH := { s.timeH with stepped := true } }
/-- The ID of the gap between a joining module's neighbours in ring order, where training has told one of their IDs (R388). -/
def State.joinId (s : State) (n i : Nat) : Nat :=
  let u := s.rd LNK.STATUS.PEER_ID 0
  let d := s.rd LNK.STATUS.PEER_ID 1
  if s.flag PWR.STRAPS.RINGPOS0 then 0
  else if s.flag LNK.STATUS.UP 0 && decide (u < n) then (u + 1) % n
  else if s.flag LNK.STATUS.UP 1 && decide (d < n) then (d + n - 1) % n
  else i
/-- The enumerating module: position 0 while it runs, else the one that holds the time-master role (R388). -/
def State.enumerates (s : State) : Bool :=
  let own := s.rd PWR.RING_STATUS.RING_ID
  s.flag PWR.START_STATUS.ENUM_DONE && (own == 0 || !(s.rdBit PWR.RING_STATUS.PRESENT 0) && s.rd PWR.RING_STATUS.MASTER == own)
/-- RING_JOIN (R388, R389): a module trains into a gap. On the joining module (`self`): it takes the ID of the gap between its neighbours, steps by
`step` to the master's DEVICE TIME, and follows; on the others its bit moves from GAP to PRESENT, and the enumerating one sends the ID. -/
def execRingJoin (self : Bool) (id : Fin 8) (step : Int) (present gap : Fin 256) (master : Fin 8) (s : State) : Host.Outcome State Fault Refusal :=
  if self then
    let n := popCount 8 (present.val ||| gap.val)
    let i := s.joinId n id
    if s.flag PWR.START_STATUS.ENUM_DONE = false ∧ s.pwr.go.isSome = true ∧ (s.flag LNK.STATUS.UP 0 || s.flag LNK.STATUS.UP 1) = true ∧ i < n then
      .next ((s.enumerated i (setBit present i true) (setBit gap i false) master false).firstStep step)
    else .next s
  else if s.flag PWR.START_STATUS.ENUM_DONE && s.rdBit PWR.RING_STATUS.GAP id then
    let s := (s.wrBit PWR.RING_STATUS.GAP id false).wrBit PWR.RING_STATUS.PRESENT id true
    let present := s.rd PWR.RING_STATUS.PRESENT
    let gap := s.rd PWR.RING_STATUS.GAP
    .next (if s.enumerates then (s.sendEnum 1 (some id.val) present gap).sendEnum 0 (some id.val) present gap else s)
  else .next s

/-! ### Loss of link (R389, R403, R404) -/

/-- LANE_LOCK_LOSS (R404): a port loses lane lock and is without link from this clock. -/
def execLaneLockLoss (p : Fin 3) (s : State) : Host.Outcome State Fault Refusal := .next (if s.flag LNK.STATUS.UP p then s.linkDown p else s)
/-- The partner is absent (R272, R333, R404): lock-step frames that wait for it are withheld, and TWIN_LOST is raised. -/
def State.twinAbsent (s : State) : State :=
  let s := s.raise TWN.STATUS.LOST
  let s := s.forEach ((List.range 64).filter fun c => (s.cx c).wait.isSome) fun s c =>
    let t := s.twinLost c
    if (s.cx c).frame.any (fun f => f.endCode.isNone) then t.frameFinish c 4 none else t
  s.fault 19 0 s.rcTwinLost s.pairAxes
/-- What the loss of a Brass port means for the ring (R389): a lost module's ID moves to GAP, here and, by an ENUM packet, further on; without both ports the module is isolated. -/
def State.ringLoss (s : State) (p : Nat) (gone : Option (Fin 8)) : State :=
  let s := match gone with
    | some i =>
      if s.flag PWR.START_STATUS.ENUM_DONE && s.rdBit PWR.RING_STATUS.PRESENT i then
        let s := s.ringMasks (setBit (s.rd PWR.RING_STATUS.PRESENT) i false) (setBit (s.rd PWR.RING_STATUS.GAP) i true)
        s.sendEnum (1 - p) (some i.val) (s.rd PWR.RING_STATUS.PRESENT) (s.rd PWR.RING_STATUS.GAP)
      else s
    | none => s
  let q := 1 - p
  if s.flag LNK.STATUS.UP q = false ∧ ((s.lnk q).down = none ∨ (s.lnk q).lost = true) then
    let s := s.raise PWR.RING_STATUS.ISOLATED
    if s.flag PWR.RING_CTRL.ISO_STO then s.stoAll else s
  else s
/-- LINK_LOST (R404, R389): a port has been without link for 1 ms; `gone` is the ring ID of a module that both its neighbours have lost. Packets
held for replay are discarded, and a WRITE or READ among them ends in an error response. -/
def execLinkLost (p : Fin 3) (gone : Option (Fin 8)) (s : State) : Host.Outcome State Fault Refusal :=
  let h := s.lnk p
  match h.down with
  | none => .next s
  | some t =>
    if h.lost = true ∨ s.dtime < t + msTicks then .next s else
    let s := ((s.raise LNK.STATUS.LOST p).wr LNK.DOWN_TIME s.dtime p).emitOpen 1 (srcPort p) p
    let s := if h.unacked.any fun k => k.type_ == pkWrite || k.type_ == pkRead then s.errResp 0 else s
    let s := s.updLnk p fun h => { h with lost := true, retraining := false, training := true, unacked := [] }
    .next (if p.val = 2 then s.twinAbsent else s.ringLoss p gone)

/-! ### Acknowledgement and replay (R403) -/

/-- Every unacknowledged packet of a class is sent again; the eighth resend of one packet in a row starts a retrain. -/
def State.linkResend (s : State) (p c : Nat) : State :=
  let w := ((s.lnk p).window c).filter (·.onWire)
  if w = [] then s else
  let now := s.dtime
  let qs := w.map (·.seq)
  let s := (s.incWrap LNK.RETRY_CNT.CNT p).updLnk p fun h =>
    { h with unacked := h.unacked.map fun k => if k.cls = c ∧ qs.contains k.seq = true then { k with sent := now, resends := k.resends + 1 } else k }
  if w.any fun k => k.resends + 1 == 8 then s.linkRetrain p else s
/-- LINK_NAK (R403): the receiver has refused a packet of a class. -/
def execLinkNak (p : Fin 3) (cls : Fin 4) (s : State) : Host.Outcome State Fault Refusal := .next (if s.flag LNK.STATUS.UP p then s.linkResend p cls else s)
/-- LINK_ACK (R403): the receiver has acknowledged a packet, which leaves the replay buffer; the next that waits goes on the wire. -/
def execLinkAck (p : Fin 3) (cls : Fin 4) (seq : Nat) (s : State) : Host.Outcome State Fault Refusal :=
  let s := s.updLnk p fun h => { h with unacked := h.unacked.filter fun k => !(k.cls == cls.val && k.seq == seq) }
  .next (if s.flag LNK.STATUS.UP p then s.linkFlush p else s)
/-- LINK_ACK_TIMEOUT (R403): a packet of a class has had no acknowledgement for 1 µs. -/
def execLinkAckTimeout (p : Fin 3) (cls : Fin 4) (s : State) : Host.Outcome State Fault Refusal :=
  .next (if s.flag LNK.STATUS.UP p && ((s.lnk p).window cls).any (fun k => k.onWire && decide (k.sent + usTicks ≤ s.dtime)) then s.linkResend p cls else s)
/-- PACKET_DISCARDED (R401, R403): a packet that has arrived on a port with link and that the port refuses is counted, and not delivered. -/
def execPacketDiscarded (p : RxPacket) (s : State) : Host.Outcome State Fault Refusal :=
  .next (if s.flag LNK.STATUS.UP p.port && s.packetBad p.port p.bytes then s.incWrap LNK.CRC_CNT.CNT p.port else s)
/-- The effect of a write of LNK.CTRL. -/
def State.fxLnkCtrl (s : State) (p v : Nat) : State × WErr := (if bit v 0 then s.linkRetrain p else s, .ok)
/-- RETRAIN (R403): a write of LNK.CTRL. -/
def execRetrain (m : Fin 64) (p : Fin 3) (v : Word) (s : State) : Host.Outcome State Fault Refusal :=
  .next (s.busWriteWith m (LNK.CTRL.RETRAIN.addr p) false fun s => s.fxLnkCtrl p v.toNat)

end Sys2Proof.Machine
end

