-- ==== Sys2Proof/Machine/External.lean ====
section
/-!
DEFINITION. The DMA master, Ethernet, PCIe completions, PMBus and the service port (R208, R284, R408 to R411, R417, R418).
-/
namespace Sys2Proof.Machine

def State.updExt (s : State) (f : ExtH → ExtH) : State := { s with ext := f s.ext }

/-! ### Completion TOKENs and DMA (R208, R284) -/

/-- The TOKEN that answers a descriptor: TYPE, SRC and LEN are given, the other fields open (R208). -/
def tokenFor (src len : Nat) (d : List Nat) : Desc :=
  { type_ := 4, src := src, ctx := Config.tokenField 0 d, frame := Config.tokenField 1 d, addr := Config.tokenField 2 d,
    len := len, param := Config.tokenField 3 d, user := Config.tokenUser d }
/-- Pieces moved from `src` to `dst` in order, up to the first that cannot be read or written: the bytes moved before it. -/
def State.dmaMove (s : State) (src dst : Nat) : Nat → List (Nat × Nat) → State × Nat
  | n, [] => (s, n)
  | n, p :: t =>
    match s.readPiece 0x20 p.1 p.2 with
    | (s, .ok d) =>
      match s.masterWrite 0x20 (dst + (p.1 - src)) d with
      | (s, .ok _) => s.dmaMove src dst (n + p.2) t
      | (s, _) => (s, n)
    | (s, .ue d) =>
      let r := s.masterWrite 0x20 (dst + (p.1 - src)) d
      (r.1, if r.2.good then n + d.length else n)
    | (s, .vio) => (s, n)
/-- DMA_TRANSFER_DONE (R208, R284): the DMA master has carried out the DMA descriptor at the front of queue `q`: it posts the TOKEN with the
bytes moved, and retires the descriptor. One that it cannot read it retires without a TOKEN, whose queue it does not know (DESIGN CHOICE,
assumption log 86). -/
def execDmaTransferDone (q : Fin 1024) (s : State) : Host.Outcome State Fault Refusal :=
  if s.flag Q.CFG.EN q = true ∧ 0 < s.qPosted q then
    match s.qFetch 0x20 q with
    | (s, none) => .next ((s.qTake1 q).qRetireN q 1)
    | (s, some b) =>
      let d := Desc.ofBytes b
      if d.type_ = 1 then
        let r := (s.qTake1 q).dmaMove d.addr d.addr2 0 (pieces d.addr d.len)
        let p := r.1.qPostHw (d.param % 1024) (tokenFor 0x20 r.2 b)
        .next (p.1.qRetireN q 1)
      else .next s
  else .next s

/-! ### Ethernet (R408, R409) -/

/-- The queues of a port (R409). -/
def State.ethTxq (s : State) (p c : Nat) : Nat := (s.rd ETH.QUEUES.TXQ + 8 * p + c) % 1024
def State.ethRxFree (s : State) (p : Nat) : Nat := (s.rd ETH.QUEUES.RXFREE + 8 * p) % 1024
def State.ethRxq (s : State) (p c : Nat) : Nat := (s.rd ETH.QUEUES.RXQ + 8 * p + c) % 1024
/-- The gate states in force on a port: all open until a list switches them. -/
def State.ethGates (s : State) (p : Nat) : Nat := Tab.get 255 s.ext.gates p
/-- ETH_TRANSMIT (R409): port `p`, idle and with the gate of class `c` open, takes the next descriptor of the class; a DATA descriptor's frame is
read and goes on the wire; any other, and one whose frame cannot be read, is retired without a frame. -/
def execEthTransmit (p : Fin 4) (c : Fin 8) (s : State) : Host.Outcome State Fault Refusal :=
  let q := s.ethTxq p c
  if (s.ext.ethTx.any fun x => x.1 == p.val) || !(bit (s.ethGates p) c) || !(s.flag Q.CFG.EN q) || s.qPosted q == 0 then .next s else
  match s.qFetch 0x20 q with
  | (s, none) => .next ((s.qTake1 q).qRetireN q 1)
  | (s, some b) =>
  let d := Desc.ofBytes b
  let s := s.qTake1 q
  if d.type_ = 0 then
    match s.masterRead 0x20 d.addr d.len with
    | (s, .ok f) =>
      let now := s.dtime
      .next (s.updExt fun h => { h with ethTx := h.ethTx ++ [(p.val, c.val, d.param % 1024, b)], ethWire := Tab.put [] h.ethWire p f,
                                        ethStamp := Tab.put 0 h.ethStamp p now })
    | (s, _) => .next (s.qRetireN q 1)
  else .next (s.qRetireN q 1)
/-- ETH_TX_DONE (R409): the last symbol of port `p`'s frame has left: its descriptor is retired and a TOKEN posted. -/
def execEthTxDone (p : Fin 4) (s : State) : Host.Outcome State Fault Refusal :=
  match s.ext.ethTx.find? fun x => x.1 == p.val with
  | none => .next s
  | some x =>
    let s := s.updExt fun h => { h with ethTx := h.ethTx.filter fun y => y.1 != p.val, ethWire := Tab.put [] h.ethWire p [] }
    let s := s.qRetireN (s.ethTxq p x.2.1) 1
    .next (s.qPostHw x.2.2.1 (tokenFor 0x20 (Desc.ofBytes x.2.2.2).len x.2.2.2)).1
/-- A post by hardware whose STAMP is that of its event (R409). -/
def State.qPostAt (s : State) (q : Nat) (d : Desc) (stamp : Nat) : State × Bool :=
  let a := s.qSlotAddr q (s.rd Q.SLOTS.POST_SLOT q)
  let r := s.qPostHw q d
  if r.2 then ((r.1.memWrite d.src (a + 8) (le 8 stamp)).1, true) else r
/-- A received frame is dropped and counted. -/
def State.ethDropped (s : State) (p : Nat) : State := s.updExt fun h => { h with ethDrop := Tab.put 0 h.ethDrop p (Tab.get 0 h.ethDrop p + 1) }
/-- ETH_RECEIVE (R408, R409): a frame of class `c`, whose first symbol arrived at `stamp`, goes into a free buffer and is posted, or is dropped. -/
def execEthReceive (p : Fin 4) (c : Fin 8) (stamp : Nat) (data : List Nat) (s : State) : Host.Outcome State Fault Refusal :=
  let fq := s.ethRxFree p
  let q := s.ethRxq p c
  if 9216 < data.length || !(s.flag Q.CFG.EN fq) || s.qPosted fq == 0 then .next (s.ethDropped p)
  else if !(s.qCanPost q) then .next ((s.qPostHw q { src := 0x20 }).1.ethDropped p)
  else
    match s.qFetch 0x20 fq with
    | (s, none) => .next (((s.qTake1 fq).qRetireN fq 1).ethDropped p)
    | (s, some b) =>
    let d := Desc.ofBytes b
    match (s.qTake1 fq).masterWrite 0x20 d.addr data with
    | (s, .ok _) =>
      .next (s.qRetireN fq 1 |>.qPostAt q { type_ := 0, src := 0x20, ctx := 0xFF, addr := d.addr, len := data.length, param := Config.tokenField 3 data } stamp).1
    | (s, _) => .next ((s.qRetireN fq 1).ethDropped p)
/-- ETH_GATE_SWITCH (R408): the instant of entry `k` of port `p`'s gate control list: its gate states come into force. -/
def execEthGateSwitch (p : Fin 4) (k : Fin 256) (s : State) : Host.Outcome State Fault Refusal :=
  match s.masterRead 0x20 (s.rd ETH.GCL_BASE 0 p + 8 * k) 8 with
  | (s, .ok e) => .next (s.updExt fun h => { h with gates := Tab.put 255 h.gates p (fieldLE e 0 1), gateIdx := Tab.put 0 h.gateIdx p k })
  | (s, _) => .next s

/-! ### PCIe, PMBus, the service port -/

/-- An address of the outbound PCIe window (R410). -/
def isOutbound (a : Nat) : Bool := decide (0x3800000000 ≤ a ∧ a < 0x4000000000)
/-- The host address behind an outbound address (R410). -/
def State.hostAddr (s : State) (a : Nat) : Nat := (s.rd PCIE.OB_XLAT + (a - 0x3800000000)) % 2 ^ 64
/-- PCIE_COMPLETION (R411): the completion of the oldest outbound read arrives; a poisoned one is an error response. -/
def execPcieCompletion (poisoned : Bool) (data : List Nat) (s : State) : Host.Outcome State Fault Refusal :=
  match s.ext.pcie with
  | [] => .next s
  | _ :: t =>
    let s := s.updExt fun h => { h with pcie := t }
    .next (if poisoned then s.errResp data.length else s.okResp data)
/-- PCIE_COMPLETION_TIMEOUT (R411): 50 ms without a completion give the local master an error response. -/
def execPcieCompletionTimeout (s : State) : Host.Outcome State Fault Refusal :=
  match s.ext.pcie with
  | [] => .next s
  | x :: t => .next (if x.at_ + 50 * msTicks ≤ s.dtime then (s.updExt fun h => { h with pcie := t }).errResp 0 else s)
/-- PMBUS_POLL (R417): the regulator's readings, in mV and units of 10 mA. -/
def execPmbusPoll (vout iout : Fin 65536) (s : State) : Host.Outcome State Fault Refusal := .next ((s.wr PMB.READ.VOUT vout).wr PMB.READ.IOUT iout)
/-- PMBUS_ALERT (R417): ALERTn: STATUS_WORD is read and recorded. -/
def execPmbusAlert (word : Fin 65536) (s : State) : Host.Outcome State Fault Refusal :=
  .next ((s.wr PMB.STATUS.STATUS_WORD word).emitOpen 2 srcModule word)
/-- SERVICE_TRANSFER (R418): the FIFO's bytes go out and `inp` comes in, at most 64 of each. -/
def execServiceTransfer (out inp : List Nat) (s : State) : Host.Outcome State Fault Refusal :=
  if 64 < out.length ∨ 64 < inp.length then .next s
  else .next (s.updExt fun h => { h with svcTx := out.map (· % 256), svcRx := inp.map (· % 256) })

end Sys2Proof.Machine
end

