-- ==== Sys2Proof/Machine/Bus.lean ====
section
/-!
DEFINITION. The bus as every master meets it: a register write by its address, with the effect of the register it names; accesses of
cores, link partners and the PCIe host (R9 to R15, R280, R284, R288, R407, R410, R411).
-/
namespace Sys2Proof.Machine

/-! ### Writes whose outside findings are free -/

/-- What the channels that fail training, the device on port 1 and the delay lines answer to a plain register write is a free value. -/
def State.fxRstFree (s : State) (m v : Nat) : State × WErr := 
  let r := s.draw
  r.2.fxRstCmd m v { channels := Fin.ofNat 65536 r.1, units := (List.finRange 74).filter fun u => bit (r.1 / 65536) u }
def State.fxRecFree (s : State) (v : Nat) : State × WErr := let r := s.draw; r.2.fxRecCtrl (r.1 % 2 == 1) v
def State.fxAgeFree (s : State) (v : Nat) : State × WErr :=
  let r := s.draw
  r.2.fxAgeCtrl ((List.range 48).map fun n => toS 16 (r.1 / 65536 ^ n)) ((List.range 48).map fun n => toS 16 (r.1 / 65536 ^ (48 + n))) (r.1 / 65536 ^ 96 % 2 == 1) v

/-! ### A register write by its address -/

/-- An effect, by the instance and array index at which a register lies, where address `a` is `off` above it. -/
def onReg (f : RF) (n1 n2 off a : Nat) (fx : Nat → Nat → State → State × WErr) : Option (State → State × WErr) :=
  if a < f.base + off then none else
  let d := a - (f.base + off)
  let i := if f.s1 = 0 then 0 else d / f.s1
  let e := if f.s1 = 0 then d else d % f.s1
  let j := if f.s2 = 0 then 0 else e / f.s2
  let r := if f.s2 = 0 then e else e % f.s2
  if i < n1 ∧ j < n2 ∧ r = 0 then some (fx i j) else none

/-- Time, schedule and inputs: writes that do more than update their fields. -/
def writesA (m a v : Nat) : List (Option (State → State × WErr)) :=
  let _ := m
  [ onReg DT.RATE.RATE 1 1 0 a fun _ _ s => s.fxDtRate v,
    onReg DT.STEP 1 1 4 a fun _ _ s => s.fxDtStepHi v,
    onReg TB.CFG.EN 64 1 0 a fun i _ s => s.fxTbCfg i v,
    onReg TB.RATIO.NUM 64 1 0 a fun i _ s => s.fxTbRatio i v,
    onReg TB.SPEED.SPEED 64 1 0 a fun i _ s => s.fxTbSpeed i v,
    onReg TB.ANGLE 64 1 0 a fun i _ s => s.fxTbAngleLo i v,
    onReg TB.ANGLE 64 1 4 a fun i _ s => s.fxTbAngleHi i v,
    onReg SCH.CFG.EN 256 1 0 a fun i _ s => s.fxSchCfg i v,
    onReg SCH.TARGET 256 1 4 a fun i _ s => s.fxSchTargetHi i v,
    onReg IOS.TACH_CFG.EN 8 1 0 a fun i _ s => s.fxTachCfg i v,
    onReg IOS.LSYNC_CFG.EN 1 1 0 a fun _ _ s => s.fxLsyncCfg v ]
/-- Axes: PWM, measurement, loops, commutation: writes that do more than update their fields. -/
def writesB (m a v : Nat) : List (Option (State → State × WErr)) :=
  let _ := m
  [ onReg AX.PWM_CTRL.EN 48 1 0 a fun i _ s => s.fxPwmCtrl i v,
    onReg AX.PWM_PERIOD.TOP 48 1 0 a fun i _ s => s.fxPwmPeriod i v,
    onReg AX.PWM_DUTY.D 48 3 0 a fun i j s => s.fxPwmDuty i j v,
    onReg AX.PWM_COMMIT.COMMIT 48 1 0 a fun i _ s => s.fxPwmCommit i v,
    onReg AX.PWM_DT.DT_HS 48 1 0 a fun i _ s => s.fxPwmDead i a v,
    onReg AX.PWM_MINP.MINP 48 1 0 a fun i _ s => s.fxPwmDead i a v,
    onReg AX.TRIP_STATUS.LATCH 48 1 0 a fun i _ s => s.fxTripStatus i v,
    onReg PXB.MAP.AXIS 1 2 0 a fun _ j s => s.fxPxbMap j v,
    onReg AX.ADC_CTRL.PD_AUTO 48 1 0 a fun i _ s => s.fxAdcCtrl i v,
    onReg AX.PV_DAC.TH 48 3 0 a fun i j s => s.fxPvDac i j v,
    onReg AX.FOC_CTRL.RUN 48 1 0 a fun i _ s => s.fxFocCtrl i v,
    onReg AX.FOC_IQ_REF.VALUE 48 1 0 a fun i _ s => s.fxFocManual i a v,
    onReg AX.FOC_VD_MAN.VALUE 48 1 0 a fun i _ s => s.fxFocManual i a v,
    onReg AX.FOC_VQ_MAN.VALUE 48 1 0 a fun i _ s => s.fxFocManual i a v,
    onReg AX.SPD_CTRL.DIV 48 1 0 a fun i _ s => s.fxSpdCtrl i v,
    onReg AX.SPD_TARGET.VALUE 48 1 0 a fun i _ s => s.fxSpdTarget i v,
    onReg AX.SPD_DERATE.TQ 48 1 0 a fun i _ s => s.fxSpdDerate i v,
    onReg AX.CMT_CTRL.LW_EN 48 1 0 a fun i _ s => s.fxCmtCtrl i v,
    onReg AX.CMT_LW.LEN 48 1 0 a fun i _ s => s.fxCmtLw i v,
    onReg AX.CMT_START.GO 48 1 0 a fun i _ s => s.fxCmtStart i v,
    onReg AX.BUS_CFG.SEG 48 1 0 a fun i _ s => s.fxAxBusCfg i v,
    onReg AX.OBS_CFG.ESC_ACT 48 1 0 a fun i _ s => s.fxObsCfg i v ]
/-- Measurement blocks, segments, observers: writes that do more than update their fields. -/
def writesC (m a v : Nat) : List (Option (State → State × WErr)) :=
  let _ := m
  [ onReg MF.CAL_CMD.START 1 1 0 a fun _ _ s => s.fxCalCmd v,
    onReg MF.VIB_CFG.PD 32 1 0 a fun i _ s => s.fxVibCfg i v,
    onReg MF.VIB_NOTCH.F 32 1 0 a fun i _ s => s.fxVibNotch i v,
    onReg MF.DCB_CFG.OV_TH 8 1 0 a fun i _ s => s.fxDcbCfg i v,
    onReg HK.CTRL.START 4 1 0 a fun i _ s => s.fxHkCtrl i v,
    onReg HK.URGENT.REQ 4 1 0 a fun i _ s => s.fxHkUrgent i v,
    onReg BUS.CTRL.CHOP_PRESENT 8 1 0 a fun i _ s => s.fxBusCtrl i v,
    onReg BUS.TH1.TH1_ON 8 1 0 a fun i _ s => s.fxBusTh i a v,
    onReg BUS.TH2.TH2 8 1 0 a fun i _ s => s.fxBusTh i a v,
    onReg BUS.UV.UV 8 1 0 a fun i _ s => s.fxBusTh i a v,
    onReg BUS.STATUS.T2 8 1 0 a fun i _ s => s.fxBusStatus i v,
    onReg BUS.ACC_CTRL.AUTO 8 1 0 a fun i _ s => s.fxAccCtrl i v,
    onReg OBS.LOAD_CMD.GO 1 1 0 a fun _ _ s => s.fxLoadCmd v,
    onReg OBS.LANE_FENCE.FENCE 1 1 0 a fun _ _ s => s.fxLaneFence v ]
/-- Engines, contexts, queues, Babbitt: writes that do more than update their fields. -/
def writesD (m a v : Nat) : List (Option (State → State × WErr)) :=
  let _ := m
  [ onReg INF.ENG_FENCE.FENCE 1 1 0 a fun _ _ s => s.fxEngFence v,
    onReg INF.UTIL_CTRL.SNAP 1 1 0 a fun _ _ s => s.fxUtilCtrl v,
    onReg ENG.CTRL.RESET 8 1 0 a fun i _ s => s.fxEngCtrl i v,
    onReg CTX.CMD.OP 64 1 0 a fun i _ s => s.fxCtxCmd i v,
    onReg CTX.CFG.BASE 64 1 0 a fun i _ s => s.fxCtxCfg i v,
    onReg CTX.OUT_BASE 64 1 4 a fun i _ s => s.fxOutBaseHi i v,
    onReg CTX.OUT_CFG.N 64 1 0 a fun i _ s => s.fxOutCfg i v,
    onReg CTX.DIG_CFG.EN 64 1 0 a fun i _ s => s.fxDigCfg i v,
    onReg CTX.TRACE_CTRL.ARM 64 1 0 a fun i _ s => s.fxTraceCtrl i v,
    onReg Q.CFG.EN 1024 1 0 a fun i _ s => s.fxQCfg i v,
    onReg Q.BASE 1024 1 4 a fun i _ s => s.fxQBaseHi i v,
    onReg Q.OP.N 1024 1 0 a fun i _ s => s.fxQOp m i v,
    onReg BAB.IN_CFG.EN 32 1 0 a fun i _ s => s.fxBabIn i 0 v,
    onReg BAB.IN_BAND.LO 32 1 0 a fun i _ s => s.fxBabIn i 1 v,
    onReg BAB.IN_RING.OFS 32 1 0 a fun i _ s => s.fxBabIn i 2 v,
    onReg BAB.CTX_CFG.EN 64 1 0 a fun i _ s => s.fxBabCtxCfg i v ]
/-- Access tables, safety, ageing: writes that do more than update their fields. -/
def writesE (m a v : Nat) : List (Option (State → State × WErr)) :=
  let _ := m
  [ onReg AT.WIN_BASE.BASE 10 1024 0 a fun i _ s => s.fxAtWin i a v,
    onReg AT.WIN_LIMIT.LIMIT 10 1024 0 a fun i _ s => s.fxAtWin i a v,
    onReg AT.WIN_ATTR.EN 10 1024 0 a fun i _ s => s.fxAtWin i a v,
    onReg SAF.STO_REQ.GROUPS 1 1 0 a fun _ _ s => s.fxStoReq v,
    onReg SAF.ACK.GROUPS 1 1 0 a fun _ _ s => s.fxSafAck v,
    onReg SAF.CFG.FTTI 1 1 0 a fun _ _ s => s.fxSafCfg v,
    onReg SAF.CTRL.LOCK 1 1 0 a fun _ _ s => s.fxSafCtrl v,
    onReg SAF.STO_TEST.PER 1 1 0 a fun _ _ s => s.fxSafWord a v,
    onReg SAF.FAULT_CFG.MEAS_DEG 1 1 0 a fun _ _ s => s.fxSafWord a v,
    onReg SAF.DERATE.TQ 1 1 0 a fun _ _ s => s.fxSafWord a v,
    onReg SAF.CFG_CRC.VALUE 1 1 0 a fun _ _ s => s.fxSafWord a v,
    onReg SAF.SI_CFG.FUNC 1 16 0 a fun _ _ s => s.fxSafWord a v,
    onReg SAF.SI_GROUPS.GROUPS 1 16 0 a fun _ _ s => s.fxSafWord a v,
    onReg AX.SAF_CFG.GROUP 48 1 0 a fun _ _ s => s.fxSafWord a v,
    onReg AX.SAF_SLS.SLS_LIM 48 1 0 a fun _ _ s => s.fxSafWord a v,
    onReg AX.SAF_SS1_DEC.VALUE 48 1 0 a fun _ _ s => s.fxSafWord a v,
    onReg AX.SAF_SS1_T.MS 48 1 0 a fun _ _ s => s.fxSafWord a v,
    onReg AX.SAF_SS_LIM.VALUE 48 1 0 a fun _ _ s => s.fxSafWord a v,
    onReg AGE.CTRL.REPLAN 1 1 0 a fun _ _ s => s.fxAgeFree v,
    onReg AGE.SVC_CMD.CH 1 1 0 a fun _ _ s => s.fxSvcCmd v ]
/-- Supervisor, recorder, security, power, links: writes that do more than update their fields. -/
def writesF (m a v : Nat) : List (Option (State → State × WErr)) :=
  let _ := m
  [ onReg SUP.FW_CMD.LOAD 1 1 0 a fun _ _ s => s.fxFwCmd v,
    onReg SUP.CTRL.SUP_RESET 1 1 0 a fun _ _ s => s.fxSupCtrl v,
    onReg MB.REQ.DATA 16 64 0 a fun i j s => s.fxMbReq i j v,
    onReg MB.DOORBELL.RING 16 1 0 a fun i _ s => s.fxMbDoorbell i v,
    onReg MB.ACK.ACK 16 1 0 a fun i _ s => s.fxMbAck i v,
    onReg REC.CTRL.FLUSH 1 1 0 a fun _ _ s => s.fxRecFree v,
    onReg REC.NV_IDX.SEQ 1 1 0 a fun _ _ s => s.fxNvIdx v,
    onReg SEC.KEY_PROG.SLOT 1 1 0 a fun _ _ s => s.fxKeyProg v,
    onReg SEC.REVOKE.MASK 1 1 0 a fun _ _ s => s.fxRevoke v,
    onReg SEC.LC_CMD.NEXT 1 1 0 a fun _ _ s => s.fxLcCmd v,
    onReg SEC.DBG_CMD.FAIL 1 1 0 a fun _ _ s => s.fxDbgCmd v,
    onReg SEC.ATT_CMD.GO 1 1 0 a fun _ _ s => s.fxAttCmd m v,
    onReg PWR.RST_CMD.SYS 1 1 0 a fun _ _ s => s.fxRstFree m v,
    onReg PWR.AXIS_RST_LO.AXES 1 1 0 a fun _ _ s => s.fxAxisRst false v,
    onReg PWR.AXIS_RST_HI.AXES 1 1 0 a fun _ _ s => s.fxAxisRst true v,
    onReg PWR.RING_CTRL.GO 1 1 0 a fun _ _ s => s.fxRingCtrl v,
    onReg TWN.CFG.EN 1 1 0 a fun _ _ s => s.fxTwnCfg v,
    onReg LNK.CTRL.RETRAIN 3 1 0 a fun i _ s => s.fxLnkCtrl i v,
    onReg THM.CFG.LOCK 1 1 0 a fun _ _ s => s.fxThmCfg v ]
/-- CMP_CFG of each axis's compensators, MON.CTRL of each monitor set, the other configuration registers of a Babbitt context. -/
def writesOther (a v : Nat) : Option (State → State × WErr) :=
  if 0x2010000000 ≤ a ∧ a < 0x2010300000 ∧ (a % 0x10000 = 0x240 ∨ a % 0x10000 = 0x280 ∨ a % 0x10000 = 0x320) then
    some fun s => s.fxCmpCfg ((a - 0x2010000000) / 0x10000) (if a % 0x10000 = 0x240 then 0 else if a % 0x10000 = 0x280 then 1 else 2) v
  else if 0x20000B2000 ≤ a ∧ a < 0x20000B3000 ∧ [0x04, 0x08, 0x0C, 0x14, 0x18, 0x1C, 0x20, 0x24].contains (a % 0x40) = true then some fun s => s.fxBabCtxReg ((a - 0x20000B2000) / 0x40) a v
  else ((List.range 424).find? fun k => monBase k == a).map fun k s => s.fxMonCtrl k v
/-- The effect of a write of `v` to the register at `a` by master `m`: its own, or that of its fields alone (R11, R12, R14, R15). -/
def State.writeFx (s : State) (m a v : Nat) : State × WErr :=
  match (writesA m a v ++ writesB m a v ++ writesC m a v ++ writesD m a v ++ writesE m a v ++ writesF m a v).findSome? id with
  | some fx => fx s
  | none =>
    match writesOther a v with
    | some fx => fx s
    | none => s.writePlain a v
/-- The posted register writes of threads and DMA take effect, in their order (R12). -/
def State.drainPosted (s : State) : State := s.posted.foldl (fun s p => (s.writeFx p.1 p.2.1 p.2.2).1) { s with posted := [] }
/-- One clock passes: DEVICE TIME advances, a threshold 2 reached in the clock before acts (R158), an ABORT written in it ends its start (R145), free lanes take released
jobs (R178), the reference trims move (R351), the faults of a window that has ended react (R329), and the posted register writes take effect. -/
def State.clock (s : State) : State := s.tick.t2Clock.abortClock.lanesClock.trimClock.windowEnd.porClock.drainPosted
/-- A register write of master `m`. -/
def State.busWrite (s : State) (m a v : Nat) : State := s.busWriteWith m a (swOf a v) fun s => s.writeFx m a v

/-- REGISTER_WRITE (R9 to R14). -/
def execRegisterWrite (m : Fin 64) (a : Nat) (v : Word) (s : State) : Host.Outcome State Fault Refusal := .next (s.busWrite m a v.toNat)
/-- READ_LO_LATCH (R15): a read of a _LO register latches its _HI for the master. -/
def execReadLoLatch (m : Fin 64) (a : Nat) (s : State) : Host.Outcome State Fault Refusal := .next (s.busRead m a)
/-- READ_HI (R15): a read of a _HI register returns and consumes the master's latch, or the live value. -/
def execReadHi (m : Fin 64) (a : Nat) (s : State) : Host.Outcome State Fault Refusal := .next (s.busRead m a)
/-- WRITE_HI (R15): a write of a _HI register makes the held low word and the high word take effect. -/
def execWriteHi (m : Fin 64) (a : Nat) (v : Word) (s : State) : Host.Outcome State Fault Refusal := .next (s.busWrite m a v.toNat)

/-! ### Accesses of masters (R284, R288, R292) -/

/-- An error response made by an uncorrectable error. -/
def State.ueResp (s : State) (n : Nat) : State := { s with resp := { err := true, ue := true, data := List.replicate n 0 } }
/-- A write of master `m` (R285, R288, R292, R410): registers take their effect, memory its bytes; a write to the host is posted. -/
def State.store (s : State) (m a : Nat) (d : List Nat) : State :=
  if d = [] then s.okResp
  else if isRegSpace a && d.length == 4 then s.busWrite m a (ofLE d)
  else
    match s.checkAccess m a d.length true (swOf a (ofLE d)) with
    | some ty => s.violate m a d.length ty
    | none =>
      if isOutbound a then (s.updExt fun h => { h with hostWrite := some (s.hostAddr a, d) }).okResp
      else
        let r := s.masterWrite m a d
        let s' := r.1.noteDebug s m
        match r.2 with
        | .ok _ => s'.okResp
        | .vio => s'.errResp d.length
        | .ue _ => s'.ueResp d.length
/-- A read of master `m` (R283, R284, R288, R292, R410): a read from the host waits for its completion. -/
def State.load (s : State) (m a n : Nat) : State :=
  if n = 0 then s.okResp
  else if isRegSpace a && n == 4 then s.busRead m a
  else
    match s.checkAccess m a n false false with
    | some ty => s.violate m a n ty
    | none =>
      if isOutbound a then s.updExt fun h => { h with pcie := h.pcie ++ [{ master := m, at_ := s.dtime, host := s.hostAddr a, len := n }] }
      else
        match s.masterRead m a n with
        | (s', .ok d) => s'.okResp d
        | (s', .vio) => s'.errResp n
        | (s', .ue _) => s'.ueResp n
/-- MEMORY_ACCESS (R283, R284, R288, R292): a read of `n` bytes, or a write of `data`, by master `m`; `errs` are
bits that have turned over in memory by then, by an address in their code word and their number in it. -/
def execMemoryAccess (m : Fin 64) (a n : Nat) (write : Bool) (data : List Nat) (errs : List (Nat × Nat)) (s : State) : Host.Outcome State Fault Refusal :=
  let s := s.forEach errs State.flipBit
  .next (if write then s.store m a (data.map (· % 256)) else s.load m a n)
/-- PCIE_INBOUND (R410, R411): an inbound request at BAR0 + `x`, translated and performed under master 0x28; a poisoned one is discarded, one beyond
BAR0 or the access table is an Unsupported Request, one that meets an uncorrectable error a Completer Abort. -/
def execPcieInbound (x n : Nat) (write : Bool) (data : List Nat) (poisoned : Bool) (errs : List (Nat × Nat)) (s : State) : Host.Outcome State Fault Refusal :=
  let len := if write then data.length else n
  let s := s.forEach errs State.flipBit
  if poisoned then .next s
  else if 2 ^ s.rd PCIE.CFG.BAR0_L < x + len then .next (s.errResp len)
  else
    let a := s.rd PCIE.BAR0_XLAT + x
    .next (if write then s.store 0x28 a (data.map (· % 256)) else s.load 0x28 a n)

/-! ### Remote accesses (R407) -/

/-- The master ID of a port's partner. -/
def linkMaster (p : Nat) : Nat := if p = 2 then 0x31 else 0x30
/-- The COMPLETION of a remote access. -/
def State.linkComplete (s : State) (p : Nat) (data : List Nat) : State :=
  s.linkSend p pkCompletion (if !s.resp.err then 0 else if s.resp.ue then 2 else 1) 0 (if s.resp.err then [] else data)
/-- A packet's payload is 0 to 2,048 bytes and a multiple of 4 (R401). -/
def payloadOk (n : Nat) : Bool := decide (n ≤ 2048) && n % 4 == 0
/-- WRITE (R407): a partner's write of `data` at `a`, answered by a COMPLETION. -/
def execWrite (p : Fin 3) (a : Nat) (data : List Nat) (s : State) : Host.Outcome State Fault Refusal :=
  if !(s.flag LNK.STATUS.UP p) then .next s
  else if !(payloadOk data.length) then .next (s.incWrap LNK.CRC_CNT.CNT p)
  else .next (((s.linkRecv p pkWrite).store (linkMaster p) a (data.map (· % 256))).linkComplete p [])
/-- READ (R407): a partner's read of `n` bytes at `a`, answered by a COMPLETION with the data, ERROR or UE. -/
def execRead (p : Fin 3) (a n : Nat) (errs : List (Nat × Nat)) (s : State) : Host.Outcome State Fault Refusal :=
  let s := s.forEach errs State.flipBit
  if !(s.flag LNK.STATUS.UP p) then .next s
  else if !(payloadOk n) then .next (s.incWrap LNK.CRC_CNT.CNT p)
  else let t := (s.linkRecv p pkRead).load (linkMaster p) a n; .next (t.linkComplete p t.resp.data)
/-- COMPLETION (R407): a remote access of a local master completes: with its data, or with an error response. -/
def execCompletion (p : Fin 3) (status : Fin 3) (data : List Nat) (s : State) : Host.Outcome State Fault Refusal :=
  if !(s.flag LNK.STATUS.UP p) then .next s else
  let s := s.linkRecv p pkCompletion
  .next (if status.val = 0 then s.okResp (data.map (· % 256)) else if status.val = 2 then s.ueResp 0 else s.errResp 0)
/-- LINK_POST (R206, R407): a partner's POST of a descriptor to queue `q`, judged by the access table of the link's master. -/
def execLinkPost (p : Fin 3) (q : Fin 1024) (data : List Nat) (s : State) : Host.Outcome State Fault Refusal :=
  if !(s.flag LNK.STATUS.UP p) then .next s
  else if data.length ≠ 64 then .next (s.incWrap LNK.CRC_CNT.CNT p)
  else
    let s := s.linkRecv p pkPost
    let m := linkMaster p
    match s.checkAccess m (Q.OP.N.addr q) 4 true false with
    | some ty => .next ((s.violate m (Q.OP.N.addr q) 4 ty).linkComplete p [])
    | none => .next (s.qPostHw q { Desc.ofBytes data with src := m }).1

end Sys2Proof.Machine
end

