-- ==== Sys2Proof/Machine/EngElem.lean ====
section
/-!
DEFINITION. Elementwise operations, activations, procedures and reductions of the engines (R213, R223 to R227). The spec gives no attribute
layout for the channel axis, the relation of CMP and the axes of a reduction: the command carries them.
-/
namespace Sys2Proof.Machine

/-- Every output element from the operands' elements that broadcast to it, converted once (R226). -/
def elemOp (g : List FV → FV) (p : Prog) (o : OpDef) (_ : Frame) (xs : List Opnd) : Option OpRes :=
  let out := p.out0 o
  (allSome ((List.range out.n).map fun e =>
    let cs := coords out.dims e
    allSome (xs.map fun x => (bcast x.dims cs).map fun k => x.val k))).map fun rows => convRes (rows.map fun r => convert out.fmt (g r))
/-- As `elemOp`, with the operands after the first per channel along an axis, or a single element (SCALE, CLAMP). -/
def chanOp (ax : Nat) (g : FV → FV → FV → FV) (p : Prog) (o : OpDef) (_ : Frame) (xs : List Opnd) : Option OpRes :=
  let out := p.out0 o
  let x := xs.getD 0 {}
  let a := xs.getD 1 {}
  let b := xs.getD 2 {}
  let fits (y : Opnd) : Bool := y.n == 1 || y.n == x.dims.getD ax 0
  if out.n = x.n ∧ xs.length = 3 ∧ fits a = true ∧ fits b = true then
    some (convRes ((List.range x.n).map fun e =>
      let ch := chanOf x.dims ax e
      convert out.fmt (g (x.val e) (a.val (if a.n = 1 then 0 else ch)) (b.val (if b.n = 1 then 0 else ch)))))
  else none
/-- A function of the first value, and of the first two. -/
def fv1 (g : FV → FV) (l : List FV) : FV := g (l.getD 0 .nan)
def fv2 (g : FV → FV → FV) (l : List FV) : FV := g (l.getD 0 .nan) (l.getD 1 .nan)

/-- The relations of CMP; a comparison with a NaN is false (R225). -/
def cmpRel (rel : Nat) (a b : FV) : Bool :=
  if a.isNan || b.isNan then false else
  match rel with
  | 0 => a.eqv b
  | 1 => !(a.eqv b)
  | 2 => a.lt b
  | 3 => !(b.lt a)
  | 4 => b.lt a
  | _ => !(a.lt b)
/-- CMP: a mask element per comparison. -/
def cmpOp (rel : Nat) (p : Prog) (o : OpDef) (_ : Frame) (xs : List Opnd) : Option OpRes :=
  let out := p.out0 o
  (allSome ((List.range out.n).map fun e =>
    let cs := coords out.dims e
    allSome (xs.map fun x => (bcast x.dims cs).map fun k => x.val k))).map fun rows =>
      { outs := [rows.map fun r => (openConv out.fmt (Config.maskCode (cmpRel rel (r.getD 0 .nan) (r.getD 1 .nan)) out.fmt)).code] }
/-- SELECT: where the mask (input 0) is true the second operand, else the third. -/
def selectOp (p : Prog) (o : OpDef) (_ : Frame) (xs : List Opnd) : Option OpRes :=
  let out := p.out0 o
  let mk := xs.getD 0 {}
  if xs.length = 3 then
    (allSome ((List.range out.n).map fun e =>
      let cs := coords out.dims e
      allSome (xs.map fun x => bcast x.dims cs))).map fun rows => convRes (rows.map fun r =>
        let t := Config.maskTrue mk.fmt (mk.codes.getD (r.getD 0 0) 0)
        let x := xs.getD (if t then 1 else 2) {}
        convert out.fmt (x.val (r.getD (if t then 1 else 2) 0)))
  else none

/-- An activation or procedure on each element: its fixed procedure is not given (R226), so its code is a free function of the operand;
a NaN, in the element or in a further input, gives the canonical NaN, or 0 in an S format, and counts (R225). -/
def procOp (p : Prog) (o : OpDef) (_ : Frame) (xs : List Opnd) : Option OpRes :=
  let x := xs.getD 0 {}
  let out := p.out0 o
  if out.n = x.n then
    let par := (xs.drop 1).flatMap (·.codes)
    let bad := (xs.drop 1).any Opnd.hasNan
    let l := (List.range x.n).map fun e =>
      let args := x.codes.getD e 0 :: par
      if bad || (x.val e).isNan then (convert out.fmt .nan, 0)
      else (openConv out.fmt (Config.procCode o.opcode x.fmt out.fmt args 0), Config.procClips o.opcode x.fmt out.fmt args 0)
    some (convRes (l.map (·.1)) (l.foldl (fun n y => n + y.2) 0))
  else none
/-- A normalisation along an axis: each element is a free function of its row and the further inputs (R213, R226); a NaN in either gives the
canonical NaN (R225). -/
def rowOp (ax : Nat) (p : Prog) (o : OpDef) (_ : Frame) (xs : List Opnd) : Option OpRes :=
  let x := xs.getD 0 {}
  let out := p.out0 o
  let st := strideOf x.dims ax
  let d := x.dims.getD ax 1
  if out.n = x.n ∧ ax < x.dims.length then
    let par := (xs.drop 1).flatMap (·.codes)
    let bad := (xs.drop 1).any Opnd.hasNan
    let l := (List.range x.n).map fun e =>
      let k := e / st % (max d 1)
      let base := e - k * st
      let row := (List.range d).map fun j => x.codes.getD (base + j * st) 0
      if bad || row.any (fun q => (valueOf x.fmt q).isNan) then (convert out.fmt .nan, 0)
      else (openConv out.fmt (Config.procCode o.opcode x.fmt out.fmt (row ++ par) k), Config.procClips o.opcode x.fmt out.fmt (row ++ par) k)
    some (convRes (l.map (·.1)) (l.foldl (fun n y => n + y.2) 0))
  else none

/-- The source elements that reduce to output element `e`, in ascending index: the axes of `mask` are reduced. -/
def reduceGroup (x : Opnd) (out : Opnd) (mask e : Nat) : List Nat :=
  (List.range x.n).filter fun k =>
    let cs := coords x.dims k
    let kept := (List.range cs.length).filterMap fun i => if bit mask i then none else some (cs.getD i 0)
    let dims := (List.range cs.length).filterMap fun i => if bit mask i then none else some (x.dims.getD i 1)
    elemOf dims kept == some e && decide (e < out.n)
/-- The shape of a reduction fits its output. -/
def reduceFits (x out : Opnd) (mask : Nat) : Bool :=
  ((List.range x.dims.length).foldl (fun n i => if bit mask i then n else n * x.dims.getD i 1) 1) == out.n
/-- A list in an order of arrival; the list's own order where `ord` is none of its permutations. -/
def arrive (l : List Nat) (ord : List Nat) : List Nat :=
  let o := ord.filter fun k => decide (k < l.length)
  if o.length = l.length ∧ (List.range l.length).all (fun k => o.contains k) = true then o.map fun k => l.getD k 0 else l
/-- A sum over reduced axes by R227, in ascending index or in an order of arrival. -/
def sumOp (mask : Nat) (ord : List Nat) (p : Prog) (o : OpDef) (_ : Frame) (xs : List Opnd) : Option OpRes :=
  let x := xs.getD 0 {}
  let out := p.out0 o
  if reduceFits x out mask then
    let l := (List.range out.n).map fun e =>
      let a := accumulate (accInt x.fmt) {} ((arrive (reduceGroup x out mask e) ord).map x.val)
      (convert out.fmt a.v, a)
    some (accRes (l.map (·.1)) (l.map (·.2)))
  else none
/-- A fold over reduced axes: the extremum, or the position of the first extremum in its group (R213, R225). -/
def extremeOp (mask : Nat) (g : List FV → FV) (p : Prog) (o : OpDef) (_ : Frame) (xs : List Opnd) : Option OpRes :=
  let x := xs.getD 0 {}
  let out := p.out0 o
  if reduceFits x out mask then
    some (convRes ((List.range out.n).map fun e => convert out.fmt (g ((reduceGroup x out mask e).map x.val))))
  else none
/-- Extremum of a group. -/
def foldFv (g : FV → FV → FV) : List FV → FV
  | [] => .zero
  | a :: t => t.foldl g a
/-- The place of the first extremum: `better a b` says that a is beyond b. -/
def argBest (better : FV → FV → Bool) (l : List FV) : FV :=
  let r := (List.range l.length).foldl (fun b k => if better (l.getD k .zero) (l.getD b .zero) then k else b) 0
  .ofInt (r : Int)
/-- Equality of extrema where a NaN is larger than every number: ties keep the lower index. -/
def beyondMax (a b : FV) : Bool := b.ltN a
def beyondMin (a b : FV) : Bool := a.ltN b

/-- ADD (R213, R226). -/
def execAdd (c : Fin 64) (i : Fin 65536) (s : State) : Host.Outcome State Fault Refusal := .next (s.runOp c i 0x10 (elemOp (fv2 FV.add)))
/-- SUB (R213, R226). -/
def execSub (c : Fin 64) (i : Fin 65536) (s : State) : Host.Outcome State Fault Refusal := .next (s.runOp c i 0x11 (elemOp (fv2 FV.sub)))
/-- MUL (R213, R226). -/
def execMul (c : Fin 64) (i : Fin 65536) (s : State) : Host.Outcome State Fault Refusal := .next (s.runOp c i 0x12 (elemOp (fv2 FV.mul)))
/-- MAX (R213, R223, R226). -/
def execMax (c : Fin 64) (i : Fin 65536) (s : State) : Host.Outcome State Fault Refusal := .next (s.runOp c i 0x13 (elemOp (fv2 FV.max)))
/-- MIN (R213, R223, R226). -/
def execMin (c : Fin 64) (i : Fin 65536) (s : State) : Host.Outcome State Fault Refusal := .next (s.runOp c i 0x14 (elemOp (fv2 FV.min)))
/-- ABS (R213, R226). -/
def execAbs (c : Fin 64) (i : Fin 65536) (s : State) : Host.Outcome State Fault Refusal := .next (s.runOp c i 0x15 (elemOp (fv1 FV.abs)))
/-- SCALE (R213, R226): a × s + o, rounded once. -/
def execScale (c : Fin 64) (i : Fin 65536) (axis : Fin 4) (s : State) : Host.Outcome State Fault Refusal :=
  .next (s.runOp c i 0x16 (chanOp axis fun a k o => (a.mul k).add o))
/-- CLAMP (R213, R226). -/
def execClamp (c : Fin 64) (i : Fin 65536) (axis : Fin 4) (s : State) : Host.Outcome State Fault Refusal :=
  .next (s.runOp c i 0x17 (chanOp axis fun x lo hi => (x.max lo).min hi))
/-- CMP (R213, R225): relations 0 to 5 are =, ≠, <, ≤, >, ≥. -/
def execCmp (c : Fin 64) (i : Fin 65536) (rel : Fin 6) (s : State) : Host.Outcome State Fault Refusal := .next (s.runOp c i 0x18 (cmpOp rel))
/-- SELECT (R213, R226). -/
def execSelect (c : Fin 64) (i : Fin 65536) (s : State) : Host.Outcome State Fault Refusal := .next (s.runOp c i 0x19 selectOp)
/-- RELU (R213): the greater of the operand and +0. -/
def execRelu (c : Fin 64) (i : Fin 65536) (s : State) : Host.Outcome State Fault Refusal :=
  .next (s.runOp c i 0x20 (elemOp (fv1 fun x => x.max .zero)))
/-- LEAKY (R213, R226). -/
def execLeaky (c : Fin 64) (i : Fin 65536) (s : State) : Host.Outcome State Fault Refusal := .next (s.runOp c i 0x21 procOp)
/-- TANH (R213, R226). -/
def execTanh (c : Fin 64) (i : Fin 65536) (s : State) : Host.Outcome State Fault Refusal := .next (s.runOp c i 0x22 procOp)
/-- SIGMOID (R213, R226). -/
def execSigmoid (c : Fin 64) (i : Fin 65536) (s : State) : Host.Outcome State Fault Refusal := .next (s.runOp c i 0x23 procOp)
/-- GELU (R213, R226). -/
def execGelu (c : Fin 64) (i : Fin 65536) (s : State) : Host.Outcome State Fault Refusal := .next (s.runOp c i 0x24 procOp)
/-- EXP (R213, R226). -/
def execExp (c : Fin 64) (i : Fin 65536) (s : State) : Host.Outcome State Fault Refusal := .next (s.runOp c i 0x25 procOp)
/-- LOG (R213, R226). -/
def execLog (c : Fin 64) (i : Fin 65536) (s : State) : Host.Outcome State Fault Refusal := .next (s.runOp c i 0x26 procOp)
/-- RSQRT (R213, R226). -/
def execRsqrt (c : Fin 64) (i : Fin 65536) (s : State) : Host.Outcome State Fault Refusal := .next (s.runOp c i 0x27 procOp)
/-- RECIP (R213, R226). -/
def execRecip (c : Fin 64) (i : Fin 65536) (s : State) : Host.Outcome State Fault Refusal := .next (s.runOp c i 0x28 procOp)
/-- SOFTMAX (R213, R226) along an axis. -/
def execSoftmax (c : Fin 64) (i : Fin 65536) (axis : Fin 4) (s : State) : Host.Outcome State Fault Refusal := .next (s.runOp c i 0x30 (rowOp axis))
/-- LAYERNORM (R213, R226) along an axis. -/
def execLayernorm (c : Fin 64) (i : Fin 65536) (axis : Fin 4) (s : State) : Host.Outcome State Fault Refusal := .next (s.runOp c i 0x31 (rowOp axis))
/-- RMSNORM (R213, R226) along an axis. -/
def execRmsnorm (c : Fin 64) (i : Fin 65536) (axis : Fin 4) (s : State) : Host.Outcome State Fault Refusal := .next (s.runOp c i 0x32 (rowOp axis))
/-- REDUCE_SUM (R213, R227): the axes of `mask`, in ascending index. -/
def execReduceSum (c : Fin 64) (i : Fin 65536) (mask : Fin 16) (s : State) : Host.Outcome State Fault Refusal := .next (s.runOp c i 0x38 (sumOp mask []))
/-- REDUCE_SUM_U (R213, R227): in the arrival order `order`. -/
def execReduceSumU (c : Fin 64) (i : Fin 65536) (mask : Fin 16) (order : List Nat) (s : State) : Host.Outcome State Fault Refusal :=
  .next (s.runOp c i 0x39 (sumOp mask order))
/-- REDUCE_MAX (R213, R225). -/
def execReduceMax (c : Fin 64) (i : Fin 65536) (mask : Fin 16) (s : State) : Host.Outcome State Fault Refusal :=
  .next (s.runOp c i 0x3A (extremeOp mask (foldFv FV.maxN)))
/-- REDUCE_MIN (R213, R225). -/
def execReduceMin (c : Fin 64) (i : Fin 65536) (mask : Fin 16) (s : State) : Host.Outcome State Fault Refusal :=
  .next (s.runOp c i 0x3B (extremeOp mask (foldFv FV.minN)))
/-- ARGMAX (R213, R225): ties give the lowest index. -/
def execArgmax (c : Fin 64) (i : Fin 65536) (mask : Fin 16) (s : State) : Host.Outcome State Fault Refusal :=
  .next (s.runOp c i 0x3C (extremeOp mask (argBest beyondMax)))
/-- ARGMIN (R213, R225): ties give the lowest index. -/
def execArgmin (c : Fin 64) (i : Fin 65536) (mask : Fin 16) (s : State) : Host.Outcome State Fault Refusal :=
  .next (s.runOp c i 0x3D (extremeOp mask (argBest beyondMin)))
/-- CAST (R213, R224). -/
def execCast (c : Fin 64) (i : Fin 65536) (s : State) : Host.Outcome State Fault Refusal := .next (s.runOp c i 0x40 (elemOp (fv1 id)))

end Sys2Proof.Machine
end

