-- ==== Sys2Proof/Machine/EngLayout.lean ====
section
/-!
DEFINITION. Layout operations, gathers, scatters and the declared-state operations of the engines (R202, R213, R226). The spec gives no
attribute layout for permutations, starts, axes and padding: the command carries them.
-/
namespace Sys2Proof.Machine

/-- Every output element is one input element, converted (R226); none where the coordinates leave the input. -/
def moveOp (g : List Nat → List Nat → Option (List Nat)) (p : Prog) (o : OpDef) (_ : Frame) (xs : List Opnd) : Option OpRes :=
  let x := xs.getD 0 {}
  let out := p.out0 o
  (allSome ((List.range out.n).map fun e => (g x.dims (coords out.dims e)).bind (elemOf x.dims))).map fun l =>
    convRes (l.map fun k => convert out.fmt (x.val k))
/-- The input coordinates of a transposed element: output dimension d is input dimension perm[d]. -/
def permIdx (perm : List Nat) (dims cs : List Nat) : Option (List Nat) :=
  allSome ((List.range dims.length).map fun i => (List.range perm.length).findSome? fun d => if perm.getD d 99 = i then cs[d]? else none)
/-- Concatenation along an axis. -/
def concatOp (ax : Nat) (p : Prog) (o : OpDef) (_ : Frame) (xs : List Opnd) : Option OpRes :=
  let out := p.out0 o
  let pick (cs : List Nat) : Option FV :=
    (xs.foldl (fun (acc : Nat × Option FV) x =>
      match acc.2 with
      | some _ => acc
      | none =>
        let d := x.dims.getD ax 0
        let k := cs.getD ax 0
        if k < acc.1 + d then (acc.1, (elemOf x.dims (cs.set ax (k - acc.1))).map x.val) else (acc.1 + d, none)) (0, none)).2
  (allSome ((List.range out.n).map fun e => pick (coords out.dims e))).map fun l => convRes (l.map (convert out.fmt))
/-- Padding: elements before the input in each dimension, and after it, hold the value of code `v` of the input's format. -/
def padOp (before : List Nat) (v : Nat) (p : Prog) (o : OpDef) (_ : Frame) (xs : List Opnd) : Option OpRes :=
  let x := xs.getD 0 {}
  let out := p.out0 o
  if out.dims.length = x.dims.length then
    some (convRes ((List.range out.n).map fun e =>
      let cs := coords out.dims e
      let src := allSome ((List.range cs.length).map fun i => if before.getD i 0 ≤ cs.getD i 0 then some (cs.getD i 0 - before.getD i 0) else none)
      match src.bind (elemOf x.dims) with
      | some k => convert out.fmt (x.val k)
      | none => convert out.fmt (valueOf x.fmt v)))
  else none

/-- The integer that an element of an index tensor names; none where it names none. -/
def Opnd.index (x : Opnd) (e : Nat) : Option Int :=
  match x.val e with
  | .fin n a d => if a % d = 0 then some (if n then -((a / d : Nat) : Int) else ((a / d : Nat) : Int)) else none
  | _ => none
/-- The element along an axis of length `d` that an index names; outside the axis the spec states none. -/
def idxOf (x : Opnd) (e d : Nat) : Option Nat :=
  match x.index e with
  | some k => if 0 ≤ k ∧ k < (d : Int) then some k.toNat else (Config.badIndex k d).filter (· < d)
  | none => (Config.badIndex (-1) d).filter (· < d)
/-- GATHER along an axis: output [.., indices.., ..]; an index outside the axis gives a free code. -/
def gatherOp (i ax : Nat) (p : Prog) (o : OpDef) (_ : Frame) (xs : List Opnd) : Option OpRes :=
  let x := xs.getD 0 {}
  let ix := xs.getD 1 {}
  let out := p.out0 o
  let r := ix.dims.length
  if ax < x.dims.length ∧ xs.length = 2 ∧ out.dims = x.dims.take ax ++ ix.dims ++ x.dims.drop (ax + 1) then
    let l := (List.range out.n).map fun e =>
      let cs := coords out.dims e
      let ie := (elemOf ix.dims ((cs.drop ax).take r)).getD 0
      match (idxOf ix ie (x.dims.getD ax 0)).bind fun k => elemOf x.dims (cs.take ax ++ k :: cs.drop (ax + r)) with
      | some k => convert out.fmt (x.val k)
      | none => { code := openAt p i xs out.fmt 0 e }
    some (convRes l)
  else none

/-- The source elements that fall on output element `e` of a scatter along an axis, in ascending source index. -/
def scatterHits (src ix : Opnd) (dims : List Nat) (ax e : Nat) : List Nat :=
  (List.range src.n).filter fun k =>
    let cs := coords src.dims k
    let ie := cs.getD ax 0
    match idxOf ix ie (dims.getD ax 0) with
    | some d => elemOf dims (cs.set ax d) == some e
    | none => false
/-- SCATTER and SCATTER_ADD: source, indices along an axis, and a base whose other elements stand; without a base they are free. -/
def scatterOp (add : Bool) (i ax : Nat) (ord : List Nat) (p : Prog) (o : OpDef) (_ : Frame) (xs : List Opnd) : Option OpRes :=
  let src := xs.getD 0 {}
  let ix := xs.getD 1 {}
  let base := xs[2]?
  let out := p.out0 o
  if src.dims.length = out.dims.length ∧ ax < out.dims.length ∧ 2 ≤ xs.length ∧ ix.n = src.dims.getD ax 0
      ∧ (base.map (·.n)).getD out.n = out.n then
    let l := (List.range out.n).map fun e =>
      let hits := scatterHits src ix out.dims ax e
      let old := base.map fun b => b.val e
      if add then
        let a0 : Accu := { v := old.getD .zero }
        let a := accumulate (accInt src.fmt) a0 ((arrive hits ord).map src.val)
        (convert out.fmt a.v, a)
      else
        match hits.getLast? with
        | some k => (convert out.fmt (src.val k), {})
        | none => (match old with
          | some v => (convert out.fmt v, {})
          | none => ({ code := openAt p i xs out.fmt 0 e }, {}))
    some (accRes (l.map (·.1)) (l.map (·.2)))
  else none
/-- COPY (R213, R226). -/
def execCopy (c : Fin 64) (i : Fin 65536) (s : State) : Host.Outcome State Fault Refusal := .next (s.runOp c i 0x48 (moveOp fun _ cs => some cs))
/-- TRANSPOSE (R213, R226). -/
def execTranspose (c : Fin 64) (i : Fin 65536) (perm : List Nat) (s : State) : Host.Outcome State Fault Refusal :=
  .next (s.runOp c i 0x49 (moveOp (permIdx perm)))
/-- SLICE (R213, R226): starts and steps by dimension. -/
def execSlice (c : Fin 64) (i : Fin 65536) (starts steps : List Nat) (s : State) : Host.Outcome State Fault Refusal :=
  .next (s.runOp c i 0x4A (moveOp fun _ cs => some ((List.range cs.length).map fun d => starts.getD d 0 + cs.getD d 0 * steps.getD d 1)))
/-- CONCAT (R213, R226). -/
def execConcat (c : Fin 64) (i : Fin 65536) (axis : Fin 4) (s : State) : Host.Outcome State Fault Refusal := .next (s.runOp c i 0x4B (concatOp axis))
/-- PAD (R213, R226). -/
def execPad (c : Fin 64) (i : Fin 65536) (before : List Nat) (value : Nat) (s : State) : Host.Outcome State Fault Refusal :=
  .next (s.runOp c i 0x4C (padOp before value))
/-- GATHER (R213). -/
def execGather (c : Fin 64) (i : Fin 65536) (axis : Fin 4) (s : State) : Host.Outcome State Fault Refusal :=
  .next (s.runOp c i 0x4D (gatherOp i axis))
/-- SCATTER (R213): on duplicate indices the highest source index wins. -/
def execScatter (c : Fin 64) (i : Fin 65536) (axis : Fin 4) (s : State) : Host.Outcome State Fault Refusal :=
  .next (s.runOp c i 0x4E (scatterOp false i axis []))
/-- SCATTER_ADD (R213): in ascending source index. -/
def execScatterAdd (c : Fin 64) (i : Fin 65536) (axis : Fin 4) (s : State) : Host.Outcome State Fault Refusal :=
  .next (s.runOp c i 0x4F (scatterOp true i axis []))
/-- SCATTER_ADD_U (R213): in the arrival order `order`. -/
def execScatterAddU (c : Fin 64) (i : Fin 65536) (axis : Fin 4) (order : List Nat) (s : State) : Host.Outcome State Fault Refusal :=
  .next (s.runOp c i 0x50 (scatterOp true i axis order))
/-- STATE_LOAD (R202, R213): reads the committed copy. -/
def execStateLoad (c : Fin 64) (i : Fin 65536) (s : State) : Host.Outcome State Fault Refusal := .next (s.runOp c i 0x59 (moveOp fun _ cs => some cs))
/-- STATE_STORE (R202, R213): writes the working copy. -/
def execStateStore (c : Fin 64) (i : Fin 65536) (s : State) : Host.Outcome State Fault Refusal := .next (s.runOp c i 0x5A (moveOp fun _ cs => some cs))

end Sys2Proof.Machine
end

