-- ==== Sys2Proof/Machine/MailCmd.lean ====
section
/-!
DEFINITION. The mailbox commands (R300, R303 to R307, R331): what each does under master 0x08, its reply, and its time-out.
-/
namespace Sys2Proof.Machine

/-- A reply's STATUS, DETAIL and payload. -/
abbrev MbRes := Nat × Nat × List Nat
/-- OK with a payload. -/
def mbGood (p : List Nat := []) : MbRes := (mbOk, 0, p)
/-- A command begins: it is the one the mailbox has taken, by opcode, and has not begun. `f` gives the effect and, where the command is complete,
its reply. -/
def State.mbRun (s : State) (b op : Nat) (f : State → List Nat → State × Option MbRes) : State :=
  match s.mb b with
  | none => s
  | some c =>
    if c.op = op ∧ c.begun = false then
      let r := f s c.payload
      match r.1.mb b with
      | none => r.1
      | some _ => r.1.setMb b (some { c with begun := true, result := r.2 })
    else s
/-- A parameter out of range, a reserved encoding or a reserved byte not 0 changes nothing. -/
def mbCheck (ok : Bool) (s : State) (f : State × Option MbRes) : State × Option MbRes := if ok then f else (s, some (mbBadParam, 0, []))
/-- The four bytes of a register as read. -/
def State.regBytes (s : State) (a : Nat) : List Nat := le 4 (s.live a)
/-- A register write by the supervisor, with the register's own effect; one that is answered with an error changes nothing and gives STATE (R303). -/
def State.mbWrite (s : State) (a : Nat) (fx : State → State × WErr) (res : State → Option MbRes) : State × Option MbRes :=
  let t := s.busWriteWith 8 a (needsSw a) fx
  if t.resp.err then (s, some (mbState, 0, [])) else (t, res t)

/-! ### Sessions (R306) -/

/-- The version at which HELLO opens a session, or the DETAIL of its refusal. -/
def State.helloVersion (s : State) (n : Nat) (pairs : List (Nat × Nat)) : Except Nat (Nat × Nat) :=
  let mine := s.sup.fw.vers
  if !(s.flag MB.GLOBAL.POLICY) then
    if mine.head? = pairs.head? then .ok (pairs.getD 0 (0, 0)) else .error 1
  else
    let common := (pairs.take n).filter fun p => mine.any fun q => q.1 == p.1
    match common.foldl (fun m p => max m p.1) 0 with
    | 0 => .error 2
    | mj =>
      let minor (l : List (Nat × Nat)) : Nat := ((l.find? fun p => p.1 == mj).getD (0, 0)).2
      .ok (mj, min (minor (pairs.take n)) (minor mine))
/-- HELLO's reply payload. -/
def State.helloReply (s : State) (v : Nat × Nat) : List Nat :=
  let f := s.sup.fw
  let vers := (f.vers ++ List.replicate 4 (0, 0)).take 4
  le 2 v.1 ++ le 2 v.2 ++ le 2 f.major ++ le 2 f.minor ++ le 4 f.build ++ [b2n (s.flag MB.GLOBAL.POLICY), f.vers.length, 0, 0]
    ++ (vers.flatMap fun p => le 2 p.1 ++ le 2 p.2) ++ le 4 (s.rd SUP.BOOT_CNT.CNT) ++ [0, 0, 0, 0]
/-- HELLO (R306): a session opens, ending one already open; a HELLO that fails changes nothing. -/
def execHello (b : Fin 16) (s : State) : Host.Outcome State Fault Refusal :=
  .next (s.mbRun b 0x0001 fun s p =>
    let n := fieldLE p 0 1
    let pairs := (List.range 4).map fun i => (fieldLE p (4 + 4 * i) 2, fieldLE p (6 + 4 * i) 2)
    mbCheck (decide (1 ≤ n ∧ n ≤ 4) && zeroAt p 1 3 && (pairs.take n).all (fun q => q.1 != 0) && (pairs.drop n).all (fun q => q == (0, 0))) s
      (match s.helloVersion n pairs with
       | .error d => (s, some (mbState, d, s.helloReply (0, 0)))
       | .ok v =>
         let s := ((s.raise MB.STATUS.SESSION b).wr MB.STATUS.MAJOR v.1 b).wr MB.STATUS.MINOR v.2 b
         (s, some (mbGood (s.helloReply v)))))
/-- PING (R304): the payload comes back, as far as a reply holds it. -/
def execPing (b : Fin 16) (s : State) : Host.Outcome State Fault Refusal := .next (s.mbRun b 0x0002 fun s p => (s, some (mbGood (p.take 232))))

/-! ### Axes (R75, R76, R331) -/

/-- The lowest DETAIL that refuses a release (R331); 0 where it is granted. -/
def State.releaseCode (s : State) (n : Nat) : Nat :=
  let g := s.groupOfAxis n
  let seg := s.rd AX.BUS_CFG.SEG n
  if !(s.flag SAF.STATUS.STATE) then 1
  else if !(s.flag SAF.CTRL.LOCK) || !(s.flag SAF.STATUS.CRC_OK) then 2
  else if g = 31 then 3
  else if g < 16 && (s.stoActive g || s.rdBit SAF.GROUP_STATE.HIGH g) then 4
  else if 3 ≤ (s.sx n).react then 5
  else if seg < 8 && s.flag BUS.STATUS.T2 seg then 6
  else if 2 ≤ popCount 3 (s.rd AX.ADC_HEALTH.FAIL n) then 7
  else if s.flag AX.SAF_CFG.PAIR n && !(s.flag TWN.STATUS.PAIRED) then 8
  else 0
/-- AXIS_RELEASE (R75, R331). -/
def execAxisRelease (b : Fin 16) (s : State) : Host.Outcome State Fault Refusal :=
  .next (s.mbRun b 0x0010 fun s p =>
    let n := fieldLE p 0 1
    mbCheck (decide (n < 48) && zeroAt p 1 3) s
      (let d := s.releaseCode n
       if d = 0 then
         (((s.updPw n fun h => { h with released := true }).wr AX.SAF_STATUS.STATE 1 n).stoOutputs, some (mbGood [1, 0, 0, 0]))
       else (s, some (mbRefused, d, [0, 0, 0, 0]))))
/-- AXIS_WITHHOLD (R75, R304): the release is withdrawn; STATE while EN = 1. -/
def execAxisWithhold (b : Fin 16) (s : State) : Host.Outcome State Fault Refusal :=
  .next (s.mbRun b 0x0011 fun s p =>
    let n := fieldLE p 0 1
    mbCheck (decide (n < 48) && zeroAt p 1 3) s
      (if s.axOn n then (s, some (mbState, 0, []))
       else (((s.updPw n fun h => { h with released := false }).wr AX.SAF_STATUS.STATE 0 n).stoOutputs, some (mbGood))))
/-- PXB_MAP (R76, R304): writes a spare's map; a refusal has DETAIL 1. -/
def execPxbMap (b : Fin 16) (s : State) : Host.Outcome State Fault Refusal :=
  .next (s.mbRun b 0x0012 fun s p =>
    let sp := fieldLE p 0 1
    let n := fieldLE p 1 1
    let v := fieldLE p 2 1
    mbCheck (decide (sp < 2 ∧ n < 48 ∧ v < 2) && zeroAt p 3 1) s
      (let e := s.flag PXB.STATUS.ERR
       let w := setBits (setBits 0 PXB.MAP.AXIS.hi PXB.MAP.AXIS.lo n) PXB.MAP.VALID.hi PXB.MAP.VALID.lo v
       let r := (s.clear PXB.STATUS.ERR).mbWrite (PXB.MAP.AXIS.addr 0 sp) (fun s => s.fxPxbMap sp w) fun t => if t.flag PXB.STATUS.BUSY then none else some (mbGood (t.regBytes PXB.STATUS.ERR.base))
       let no := r.1.flag PXB.STATUS.ERR
       let t := r.1.raiseIf e PXB.STATUS.ERR
       (t, if no then some (mbRefused, 1, t.regBytes PXB.STATUS.ERR.base) else r.2)))

/-! ### Measurement and observers -/

/-- CAL_START (R103, R304): writes MF.CAL_CMD; CAL_REFUSED gives DETAIL 1. -/
def execCalStart (b : Fin 16) (s : State) : Host.Outcome State Fault Refusal :=
  .next (s.mbRun b 0x0020 fun s p =>
    let sel := fieldLE p 0 1
    mbCheck (decide (sel < 16) && zeroAt p 1 3) s
      (let busy := s.flag MF.CAL_STATUS.BUSY
       s.mbWrite MF.CAL_CMD.START.base (fun s => s.fxCalCmd (1 + 2 * sel)) fun t =>
         if busy then some (mbRefused, 1, t.regBytes MF.CAL_STATUS.BUSY.base ++ le 4 0 ++ le 8 (t.rd MF.CAL_TIME)) else none))
/-- An OBS_LOAD_CMD word. -/
def loadWord (go rem kind axis : Nat) : Nat := go + 2 * rem + 4 * kind + 16 * axis
/-- OBS_LOAD (R172, R304): writes LOAD_ADDR and LOAD_CMD.GO; STATE while the loader is busy. -/
def execObsLoad (b : Fin 16) (s : State) : Host.Outcome State Fault Refusal :=
  .next (s.mbRun b 0x0030 fun s p =>
    let n := fieldLE p 0 1
    let k := fieldLE p 1 1
    let a := fieldLE p 4 4
    mbCheck (decide (n < 48 ∧ k < 3 ∧ a < 2 ^ 23) && zeroAt p 2 2) s
      (if s.flag OBS.LOAD_STATUS.BUSY then (s, some (mbState, 0, []))
       else
         let t := s.mbWrite OBS.LOAD_ADDR.ADDR.base (fun s => s.writeFields OBS.LOAD_ADDR.ADDR.base a) fun _ => none
         let u := t.1.mbWrite OBS.LOAD_CMD.GO.base (fun s => s.fxLoadCmd (loadWord 1 0 k n)) fun _ => none
         if t.2.isSome || u.2.isSome then (s, some (mbState, 0, [])) else u))
/-- OBS_REMOVE (R175, R304). -/
def execObsRemove (b : Fin 16) (s : State) : Host.Outcome State Fault Refusal :=
  .next (s.mbRun b 0x0031 fun s p =>
    let n := fieldLE p 0 1
    let k := fieldLE p 1 1
    mbCheck (decide (n < 48 ∧ k < 3) && zeroAt p 2 2) s (s.mbWrite OBS.LOAD_CMD.GO.base (fun s => s.fxLoadCmd (loadWord 0 1 k n)) fun _ => none))
/-- LANE_FENCE (R182, R304). -/
def execLaneFence (b : Fin 16) (s : State) : Host.Outcome State Fault Refusal :=
  .next (s.mbRun b 0x0032 fun s p =>
    let l := fieldLE p 0 2
    let q := fieldLE p 2 1
    mbCheck (decide (l < 4096 ∧ q < 16) && zeroAt p 3 1) s
      (s.mbWrite OBS.LANE_FENCE.FENCE.base (fun s => s.fxLaneFence (l + 4096 * q)) fun t => some (mbGood (t.regBytes OBS.LANES.USABLE.base))))

/-! ### Contexts, engines, memory, access tables -/

/-- CTX_CMD (R201, R304): writes CTX.CMD; a command the context refuses at once has its reply. -/
def execCtxCmd (b : Fin 16) (s : State) : Host.Outcome State Fault Refusal :=
  .next (s.mbRun b 0x0040 fun s p =>
    let c := fieldLE p 0 1
    let op := fieldLE p 1 1
    let fresh := fieldLE p 2 1
    mbCheck (decide (c < 64 ∧ 1 ≤ op ∧ op ≤ 8 ∧ fresh < 2) && zeroAt p 3 1) s
      (let busy := s.flag CTX.STATUS.BUSY c
       s.mbWrite (CTX.CMD.OP.addr c) (fun s => s.fxCtxCmd c (op + 16 * fresh)) fun t =>
         if !busy && t.flag CTX.STATUS.BUSY c then none
         else
           let rc := t.rd CTX.STATUS.RCODE c
           some (if rc = 0 then mbOk else mbRefused, rc, t.regBytes (CTX.STATUS.STATE.addr c))))
/-- ENG_FENCE (R195, R304). -/
def execEngFence (b : Fin 16) (s : State) : Host.Outcome State Fault Refusal :=
  .next (s.mbRun b 0x0041 fun s p =>
    mbCheck (zeroAt p 1 3) s (s.mbWrite INF.ENG_FENCE.FENCE.base (fun s => s.fxEngFence (fieldLE p 0 1)) fun t => some (mbGood (t.regBytes INF.ENG_STATUS.USABLE.base))))
/-- ENG_RESET (R202, R304). -/
def execEngReset (b : Fin 16) (s : State) : Host.Outcome State Fault Refusal :=
  .next (s.mbRun b 0x0042 fun s p =>
    let e := fieldLE p 0 1
    mbCheck (decide (e < 8) && zeroAt p 1 3) s (s.mbWrite (ENG.CTRL.RESET.addr e) (fun s => s.fxEngCtrl e 1) fun _ => some (mbGood)))
/-- MEM_RETIRE (R286, R304). -/
def execMemRetire (b : Fin 16) (s : State) : Host.Outcome State Fault Refusal :=
  .next (s.mbRun b 0x0050 fun s p =>
    mbCheck (zeroAt p 2 2) s (s.mbWrite MEM.CH_RETIRE.RETIRE.base (fun s => s.writeFields MEM.CH_RETIRE.RETIRE.base (fieldLE p 0 2)) fun t => some (mbGood (t.regBytes MEM.CH_RETIRE.RETIRE.base))))
/-- Words of an access table written in order; none where one of them is answered with an error. -/
def State.mbWords (s : State) : List (Nat × Nat × Nat) → Option State
  | [] => some s
  | w :: t =>
    let u := s.busWriteWith 8 w.2.1 true fun s => if w.2.1 = AT.CTRL.LOCK.addr w.1 then s.writeFields w.2.1 w.2.2 else s.fxAtWin w.1 w.2.1 w.2.2
    if u.resp.err then none else u.mbWords t
/-- The words are all written, or an answer is given and nothing changes (R303). -/
def State.mbWordsOr (s : State) (l : List (Nat × Nat × Nat)) (res : MbRes) : State × Option MbRes :=
  match s.mbWords l with
  | some t => (t, some (mbGood))
  | none => (s, some res)
/-- AT_WRITE (R288, R289, R304): a locked target gives DETAIL 1. -/
def execAtWrite (b : Fin 16) (s : State) : Host.Outcome State Fault Refusal :=
  .next (s.mbRun b 0x0060 fun s p =>
    let t := fieldLE p 0 1
    let m := fieldLE p 1 1
    let w := fieldLE p 2 1
    let at_ := fieldLE p 12 4
    mbCheck (decide (t < 10 ∧ m < 64 ∧ w < 16 ∧ at_ < 16) && zeroAt p 3 1) s
      (let k := m * 16 + w
       s.mbWordsOr [(t, AT.WIN_BASE.BASE.addr t k, fieldLE p 4 4), (t, AT.WIN_LIMIT.LIMIT.addr t k, fieldLE p 8 4), (t, AT.WIN_ATTR.EN.addr t k, at_)]
         (if s.flag AT.CTRL.LOCK t then (mbRefused, 1, []) else (mbState, 0, []))))
/-- AT_LOCK (R289, R304). -/
def execAtLock (b : Fin 16) (s : State) : Host.Outcome State Fault Refusal :=
  .next (s.mbRun b 0x0061 fun s p =>
    let ts := fieldLE p 0 2
    mbCheck (decide (ts < 1024) && zeroAt p 2 2) s
      (s.mbWordsOr (((List.range 10).filter fun t => bit ts t).map fun t => (t, AT.CTRL.LOCK.addr t, 1)) (mbState, 0, [])))
/-- Registers that a mailbox command of their own writes (R304): of the access tables all but VIO_STATUS. -/
def ownCommand (a : Nat) : Bool :=
  a == MF.CAL_CMD.START.base || a == OBS.LOAD_CMD.GO.base || a == OBS.LOAD_ADDR.ADDR.base || a == OBS.LANE_FENCE.FENCE.base
    || a == INF.ENG_FENCE.FENCE.base || a == MEM.CH_RETIRE.RETIRE.base || a == PXB.MAP.AXIS.addr 0 0 || a == PXB.MAP.AXIS.addr 0 1
    || (List.range 64).any (fun c => a == CTX.CMD.OP.addr c) || (List.range 8).any (fun e => a == ENG.CTRL.RESET.addr e)
    || decide (0x2000100000 ≤ a ∧ a < 0x20001A0000) && a % 0x10000 != 4
/-- SW_WRITE (R304): writes a register that is marked for master 0x08 alone and that no other command writes, and reads it back. -/
def execSwWrite (b : Fin 16) (s : State) : Host.Outcome State Fault Refusal :=
  .next (s.mbRun b 0x0070 fun s p =>
    let a := fieldLE p 0 8
    mbCheck (isRegSpace a && a % 4 == 0 && (needsSw a || a == PWR.RST_CMD.SYS.base) && !(ownCommand a)) s
      (let t := s.busWrite 8 a (fieldLE p 8 4)
       if t.resp.err then (s, some (mbState, 0, [])) else (t, some (mbGood (t.regBytes a)))))
/-- POWER_STATE (R304, R395): the present state completes at once; a transition that is not allowed gives STATE; one that is allowed starts
after its reply. -/
def execPowerState (b : Fin 16) (s : State) : Host.Outcome State Fault Refusal :=
  .next (s.mbRun b 0x00A0 fun s p =>
    let st := fieldLE p 0 1
    mbCheck (decide (st < 4) && zeroAt p 1 3) s
      (if st = s.rd PWR.STATE.STATE ∨ s.powerOk st = true then (s, some (mbGood)) else (s, some (mbState, 0, []))))

/-! ### Replies (R298, R300) -/

/-- What a command that waited for its unit has come to, once the unit has answered it (R304, R305). -/
def State.mbPoll (s : State) (c : MbCmdH) : Option MbRes :=
  c.rc.map fun rc =>
    let d := match c.op with
      | 0x0012 => s.regBytes PXB.STATUS.ERR.base
      | 0x0020 => s.regBytes MF.CAL_STATUS.BUSY.base ++ le 4 0 ++ le 8 (s.rd MF.CAL_TIME)
      | 0x0030 => s.regBytes OBS.ADM_LIP.VALUE.base ++ s.regBytes OBS.ADM_ERRB.VALUE.base
      | 0x0040 => s.regBytes (CTX.STATUS.STATE.addr (fieldLE c.payload 0 1))
      | _ => []
    if rc = 0 then mbGood d else (mbRefused, rc, d)
/-- MB_REPLY (R298, R304, R395): the reply of a command that is complete is written; a power-state transition starts after it, and one that the state of
the module no longer allows gives STATE. -/
def execMbReply (b : Fin 16) (s : State) : Host.Outcome State Fault Refusal :=
  match s.mb b with
  | none => .next s
  | some c =>
    if c.begun = false then .next s else
    match (match c.result with | some r => some r | none => s.mbPoll c) with
    | none => .next s
    | some r =>
      let to_ := fieldLE c.payload 0 1
      let go := c.op == 0x00A0 && r.1 == mbOk && to_ != s.rd PWR.STATE.STATE
      if go && !(s.powerOk to_) then .next (s.mbReply b c mbState 0 [])
      else
        let t := s.mbReply b c r.1 r.2.1 r.2.2
        .next (if go then t.powerStart to_ else t)
/-- The bound of a context command in µs: R201's and 100 µs (R304). -/
def State.ctxBound (s : State) (c op : Nat) : Nat :=
  let kib (n : Nat) : Nat := (n + 4095) / 4096
  let st := kib ((s.cx c).places.foldl (fun n a => n + a.len) 0)
  let own := match op with
    | 1 => 20 + kib (fieldLE (s.readMem (s.rd CTX.PROG c) 128) 0x0C 4)
    | 2 => 50 + st
    | 3 => 2 * s.rd CTX.CFG.WDOG c * 1000
    | 4 => 20
    | 5 => 5
    | 6 | 7 => 10 + st
    | _ => 100
  if op = 3 ∨ op = 8 then own else own + 100
/-- The bound of a command in µs (R304). -/
def State.mbBound (s : State) (c : MbCmdH) : Nat :=
  match c.op with
  | 0x0002 | 0x0012 => 20
  | 0x0010 | 0x0011 | 0x0041 | 0x0042 | 0x00A0 => 100
  | 0x0020 => 13000
  | 0x0030 => 300
  | 0x0040 => s.ctxBound (fieldLE c.payload 0 1) (fieldLE c.payload 1 1)
  | _ => 50
/-- A SNAP of an ARMED context counts its bound from a frame end (R201). -/
def State.mbHeld (s : State) (c : MbCmdH) : Bool :=
  c.op == 0x0040 && fieldLE c.payload 1 1 == 6 && (s.cx (fieldLE c.payload 0 1)).frame.isSome
/-- MB_COMMAND_TIMEOUT (R300): a command whose operation has not completed within its bound is answered with TIMEOUT; its effect stands. -/
def execMbCommandTimeout (b : Fin 16) (s : State) : Host.Outcome State Fault Refusal :=
  match s.mb b with
  | none => .next s
  | some c =>
    if c.result.isSome = false ∧ c.rc = none ∧ s.mbHeld c = false ∧ c.taken + s.mbBound c * usTicks ≤ s.dtime then .next (s.mbReply b c mbTimeout 0 [])
    else .next s

end Sys2Proof.Machine
end

