-- ==== Sys2Proof/Machine/Dispatch.lean ====
section
/-!
DEFINITION. The dispatch of a command to its meaning, one arm per constructor.
-/
namespace Sys2Proof.Machine

/-- The effect of a command on everything but the queue. -/
def exec (i : Instr) (s : State) : Host.Outcome State Fault Refusal :=
  match i with
  | .registerWrite m a v => Sys2Proof.Machine.execRegisterWrite m a v s
  | .readLoLatch m a => Sys2Proof.Machine.execReadLoLatch m a s
  | .readHi m a => Sys2Proof.Machine.execReadHi m a s
  | .writeHi m a v => Sys2Proof.Machine.execWriteHi m a v s
  | .tbAngleLoRead m t => Sys2Proof.Machine.execTbAngleLoRead m t s
  | .pwmActPeriodRead m n => Sys2Proof.Machine.execPwmActPeriodRead m n s
  | .obsEstThetaRead m n => Sys2Proof.Machine.execObsEstThetaRead m n s
  | .dtStep m v => Sys2Proof.Machine.execDtStep m v s
  | .dtRateWrite m v => Sys2Proof.Machine.execDtRateWrite m v s
  | .time p t1 t2 t3 t4 serdes nb peer => Sys2Proof.Machine.execTime p t1 t2 t3 t4 serdes nb peer s
  | .alignTimeout => Sys2Proof.Machine.execAlignTimeout s
  | .tbSoftwareUpdate m t v => Sys2Proof.Machine.execTbSoftwareUpdate m t v s
  | .tachPulse k level => Sys2Proof.Machine.execTachPulse k level s
  | .ssiFrame k start stamp raw parity idle => Sys2Proof.Machine.execSsiFrame k start stamp raw parity idle s
  | .lsyncEdge level => Sys2Proof.Machine.execLsyncEdge level s
  | .tbSourceSilent t => Sys2Proof.Machine.execTbSourceSilent t s
  | .tbHoldExpiry t => Sys2Proof.Machine.execTbHoldExpiry t s
  | .tbRestart m t ratio v => Sys2Proof.Machine.execTbRestart m t ratio v s
  | .schCfgWrite m k v => Sys2Proof.Machine.execSchCfgWrite m k v s
  | .schTargetWrite m k v => Sys2Proof.Machine.execSchTargetWrite m k v s
  | .slotFire k => Sys2Proof.Machine.execSlotFire k s
  | .axisEnable m n v => Sys2Proof.Machine.execAxisEnable m n v s
  | .axisDisable m n v => Sys2Proof.Machine.execAxisDisable m n v s
  | .pwmDutyWrite m n j v => Sys2Proof.Machine.execPwmDutyWrite m n j v s
  | .pwmCommit m n => Sys2Proof.Machine.execPwmCommit m n s
  | .pwmCapture n => Sys2Proof.Machine.execPwmCapture n s
  | .pwmPeriodBoundary n => Sys2Proof.Machine.execPwmPeriodBoundary n s
  | .dlCalMeasure ch elems => Sys2Proof.Machine.execDlCalMeasure ch elems s
  | .tripQualified n oc ds => Sys2Proof.Machine.execTripQualified n oc ds s
  | .pxbMapWrite m sp v => Sys2Proof.Machine.execPxbMapWrite m sp v s
  | .pxbSwitchComplete sp => Sys2Proof.Machine.execPxbSwitchComplete sp s
  | .loopStep n ra rb rk => Sys2Proof.Machine.execLoopStep n ra rb rk s
  | .pvComparatorChange n j v => Sys2Proof.Machine.execPvComparatorChange n j v s
  | .pvDacWrite m n j v => Sys2Proof.Machine.execPvDacWrite m n j v s
  | .pvDacSettled n j v => Sys2Proof.Machine.execPvDacSettled n j v s
  | .dcbSampleDelivered b stamp raw => Sys2Proof.Machine.execDcbSampleDelivered b stamp raw s
  | .ovComparator b uv => Sys2Proof.Machine.execOvComparator b uv s
  | .chfbChange b v => Sys2Proof.Machine.execChfbChange b v s
  | .chopNoCurrent b => Sys2Proof.Machine.execChopNoCurrent b s
  | .chopOverload b => Sys2Proof.Machine.execChopOverload b s
  | .chopStuck b => Sys2Proof.Machine.execChopStuck b s
  | .chopFaultClear m b => Sys2Proof.Machine.execChopFaultClear m b s
  | .t2Clear m b => Sys2Proof.Machine.execT2Clear m b s
  | .busThWrite m b which v => Sys2Proof.Machine.execBusThWrite m b which v s
  | .accClear m b v => Sys2Proof.Machine.execAccClear m b v s
  | .accSnap m b v => Sys2Proof.Machine.execAccSnap m b v s
  | .accAutoSnap b => Sys2Proof.Machine.execAccAutoSnap b s
  | .vibSample c stamp raw => Sys2Proof.Machine.execVibSample c stamp raw s
  | .vibRestart m c notch v => Sys2Proof.Machine.execVibRestart m c notch v s
  | .vibSettled c => Sys2Proof.Machine.execVibSettled c s
  | .intlvLock c => Sys2Proof.Machine.execIntlvLock c s
  | .hkStart m k v => Sys2Proof.Machine.execHkStart m k v s
  | .hkStop m k v => Sys2Proof.Machine.execHkStop m k v s
  | .hkConversionDone k raw => Sys2Proof.Machine.execHkConversionDone k raw s
  | .hkDelayExpiry k => Sys2Proof.Machine.execHkDelayExpiry k s
  | .hkUrgent m k safety v => Sys2Proof.Machine.execHkUrgent m k safety v s
  | .converterWakeDone cur n => Sys2Proof.Machine.execConverterWakeDone cur n s
  | .calCmdStart m v => Sys2Proof.Machine.execCalCmdStart m v s
  | .calComplete ref factors => Sys2Proof.Machine.execCalComplete ref factors s
  | .monSnap m k v => Sys2Proof.Machine.execMonSnap m k v s
  | .monAutoSnap k => Sys2Proof.Machine.execMonAutoSnap k s
  | .cmpApply m n which v => Sys2Proof.Machine.execCmpApply m n which v s
  | .spdPreset m n v => Sys2Proof.Machine.execSpdPreset m n v s
  | .spdDerateWrite m n v => Sys2Proof.Machine.execSpdDerateWrite m n v s
  | .lwOpen n => Sys2Proof.Machine.execLwOpen n s
  | .crossingQualified n phase rising tx => Sys2Proof.Machine.execCrossingQualified n phase rising tx s
  | .lwClose n at_ => Sys2Proof.Machine.execLwClose n at_ s
  | .startGo m n => Sys2Proof.Machine.execStartGo m n s
  | .startAbort m n => Sys2Proof.Machine.execStartAbort m n s
  | .listenEnd n => Sys2Proof.Machine.execListenEnd n s
  | .waitTimeout n => Sys2Proof.Machine.execWaitTimeout n s
  | .brakeEnd n => Sys2Proof.Machine.execBrakeEnd n s
  | .alignEnd n => Sys2Proof.Machine.execAlignEnd n s
  | .handoverFail n => Sys2Proof.Machine.execHandoverFail n s
  | .obsLoadGo m v => Sys2Proof.Machine.execObsLoadGo m v s
  | .obsLoadDone => Sys2Proof.Machine.execObsLoadDone s
  | .loadCmdRemove m v => Sys2Proof.Machine.execLoadCmdRemove m v s
  | .obsRemoveDone => Sys2Proof.Machine.execObsRemoveDone s
  | .obsJobComplete oi => Sys2Proof.Machine.execObsJobComplete oi s
  | .pewterCheckComplete oi => Sys2Proof.Machine.execPewterCheckComplete oi s
  | .obsLate n => Sys2Proof.Machine.execObsLate n s
  | .obsLaneFence m v => Sys2Proof.Machine.execObsLaneFence m v s
  | .forceCls m n v => Sys2Proof.Machine.execForceCls m n v s
  | .resume m n v => Sys2Proof.Machine.execResume m n v s
  | .infEngFence m v => Sys2Proof.Machine.execInfEngFence m v s
  | .engCtrlReset m p v => Sys2Proof.Machine.execEngCtrlReset m p v s
  | .tileAssign p => Sys2Proof.Machine.execTileAssign p s
  | .tileIssue p => Sys2Proof.Machine.execTileIssue p s
  | .tileRetire p => Sys2Proof.Machine.execTileRetire p s
  | .ctxLoad m c => Sys2Proof.Machine.execCtxLoad m c s
  | .ctxArm m c fresh => Sys2Proof.Machine.execCtxArm m c fresh s
  | .ctxDisarm m c => Sys2Proof.Machine.execCtxDisarm m c s
  | .ctxAbort m c => Sys2Proof.Machine.execCtxAbort m c s
  | .ctxUnload m c => Sys2Proof.Machine.execCtxUnload m c s
  | .ctxSnap m c => Sys2Proof.Machine.execCtxSnap m c s
  | .ctxRestore m c => Sys2Proof.Machine.execCtxRestore m c s
  | .ctxStart m c => Sys2Proof.Machine.execCtxStart m c s
  | .ctxCmdComplete c partner => Sys2Proof.Machine.execCtxCmdComplete c partner s
  | .qPost m q n => Sys2Proof.Machine.execQPost m q n s
  | .qTake m q n => Sys2Proof.Machine.execQTake m q n s
  | .qRetire m q n => Sys2Proof.Machine.execQRetire m q n s
  | .qCfgWrite m q v => Sys2Proof.Machine.execQCfgWrite m q v s
  | .qBaseWrite m q v => Sys2Proof.Machine.execQBaseWrite m q v s
  | .frameEnd c => Sys2Proof.Machine.execFrameEnd c s
  | .frameTimeout c => Sys2Proof.Machine.execFrameTimeout c s
  | .utilSnap m v => Sys2Proof.Machine.execUtilSnap m v s
  | .utilAutoSnap => Sys2Proof.Machine.execUtilAutoSnap s
  | .matmul c oi => Sys2Proof.Machine.execMatmul c oi s
  | .matmulBias c oi => Sys2Proof.Machine.execMatmulBias c oi s
  | .conv1d c oi stride dil pad => Sys2Proof.Machine.execConv1d c oi stride dil pad s
  | .conv2d c oi stride dil pad => Sys2Proof.Machine.execConv2d c oi stride dil pad s
  | .dwconv c oi stride dil pad => Sys2Proof.Machine.execDwconv c oi stride dil pad s
  | .outlierMm c oi => Sys2Proof.Machine.execOutlierMm c oi s
  | .hadamard c oi => Sys2Proof.Machine.execHadamard c oi s
  | .add c oi => Sys2Proof.Machine.execAdd c oi s
  | .sub c oi => Sys2Proof.Machine.execSub c oi s
  | .mul c oi => Sys2Proof.Machine.execMul c oi s
  | .max c oi => Sys2Proof.Machine.execMax c oi s
  | .min c oi => Sys2Proof.Machine.execMin c oi s
  | .abs c oi => Sys2Proof.Machine.execAbs c oi s
  | .scale c oi axis => Sys2Proof.Machine.execScale c oi axis s
  | .clamp c oi axis => Sys2Proof.Machine.execClamp c oi axis s
  | .cmp c oi rel => Sys2Proof.Machine.execCmp c oi rel s
  | .select c oi => Sys2Proof.Machine.execSelect c oi s
  | .relu c oi => Sys2Proof.Machine.execRelu c oi s
  | .leaky c oi => Sys2Proof.Machine.execLeaky c oi s
  | .tanh c oi => Sys2Proof.Machine.execTanh c oi s
  | .sigmoid c oi => Sys2Proof.Machine.execSigmoid c oi s
  | .gelu c oi => Sys2Proof.Machine.execGelu c oi s
  | .exp c oi => Sys2Proof.Machine.execExp c oi s
  | .log c oi => Sys2Proof.Machine.execLog c oi s
  | .rsqrt c oi => Sys2Proof.Machine.execRsqrt c oi s
  | .recip c oi => Sys2Proof.Machine.execRecip c oi s
  | .softmax c oi axis => Sys2Proof.Machine.execSoftmax c oi axis s
  | .layernorm c oi axis => Sys2Proof.Machine.execLayernorm c oi axis s
  | .rmsnorm c oi axis => Sys2Proof.Machine.execRmsnorm c oi axis s
  | .reduceSum c oi mask => Sys2Proof.Machine.execReduceSum c oi mask s
  | .reduceSumU c oi mask order => Sys2Proof.Machine.execReduceSumU c oi mask order s
  | .reduceMax c oi mask => Sys2Proof.Machine.execReduceMax c oi mask s
  | .reduceMin c oi mask => Sys2Proof.Machine.execReduceMin c oi mask s
  | .argmax c oi mask => Sys2Proof.Machine.execArgmax c oi mask s
  | .argmin c oi mask => Sys2Proof.Machine.execArgmin c oi mask s
  | .cast c oi => Sys2Proof.Machine.execCast c oi s
  | .quant c oi => Sys2Proof.Machine.execQuant c oi s
  | .dequant c oi => Sys2Proof.Machine.execDequant c oi s
  | .qstat c oi => Sys2Proof.Machine.execQstat c oi s
  | .copy c oi => Sys2Proof.Machine.execCopy c oi s
  | .transpose c oi perm => Sys2Proof.Machine.execTranspose c oi perm s
  | .slice c oi starts steps => Sys2Proof.Machine.execSlice c oi starts steps s
  | .concat c oi axis => Sys2Proof.Machine.execConcat c oi axis s
  | .pad c oi before value => Sys2Proof.Machine.execPad c oi before value s
  | .gather c oi axis => Sys2Proof.Machine.execGather c oi axis s
  | .scatter c oi axis => Sys2Proof.Machine.execScatter c oi axis s
  | .scatterAdd c oi axis => Sys2Proof.Machine.execScatterAdd c oi axis s
  | .scatterAddU c oi axis order => Sys2Proof.Machine.execScatterAddU c oi axis order s
  | .dma c oi q done src dst len => Sys2Proof.Machine.execDma c oi q done src dst len s
  | .stateLoad c oi => Sys2Proof.Machine.execStateLoad c oi s
  | .stateStore c oi => Sys2Proof.Machine.execStateStore c oi s
  | .wait c oi => Sys2Proof.Machine.execWait c oi s
  | .post c oi => Sys2Proof.Machine.execPost c oi s
  | .retire c oi => Sys2Proof.Machine.execRetire c oi s
  | .barrier c oi mask => Sys2Proof.Machine.execBarrier c oi mask s
  | .result c oi => Sys2Proof.Machine.execResult c oi s
  | .nop c oi => Sys2Proof.Machine.execNop c oi s
  | .babInCfgWrite m v k w => Sys2Proof.Machine.execBabInCfgWrite m v k w s
  | .babCtxEnable m c w => Sys2Proof.Machine.execBabCtxEnable m c w s
  | .babClosePosted => Sys2Proof.Machine.execBabClosePosted s
  | .babResultApply c => Sys2Proof.Machine.execBabResultApply c s
  | .babStale c => Sys2Proof.Machine.execBabStale c s
  | .linkCopy c frame stamp type_ param user data => Sys2Proof.Machine.execLinkCopy c frame stamp type_ param user data s
  | .compare c kind code frame digest => Sys2Proof.Machine.execCompare c kind code frame digest s
  | .twinPartnerTimeout c => Sys2Proof.Machine.execTwinPartnerTimeout c s
  | .twinCopyTimeout c frame stamp => Sys2Proof.Machine.execTwinCopyTimeout c frame stamp s
  | .twinArmTimeout c => Sys2Proof.Machine.execTwinArmTimeout c s
  | .traceArm m c v => Sys2Proof.Machine.execTraceArm m c v s
  | .memoryAccess m a n write data errs => Sys2Proof.Machine.execMemoryAccess m a n write data errs s
  | .patrolScrub a errs => Sys2Proof.Machine.execPatrolScrub a errs s
  | .atWindowWrite m t k w v => Sys2Proof.Machine.execAtWindowWrite m t k w v s
  | .atCtrlLock m t v => Sys2Proof.Machine.execAtCtrlLock m t v s
  | .chRetireWrite m v => Sys2Proof.Machine.execChRetireWrite m v s
  | .fwLoad m v => Sys2Proof.Machine.execFwLoad m v s
  | .fwReady ok => Sys2Proof.Machine.execFwReady ok s
  | .fwTimeout => Sys2Proof.Machine.execFwTimeout s
  | .supReset m v => Sys2Proof.Machine.execSupReset m v s
  | .supWatchdog => Sys2Proof.Machine.execSupWatchdog s
  | .supLockstep => Sys2Proof.Machine.execSupLockstep s
  | .mbRequestWrite m b k v => Sys2Proof.Machine.execMbRequestWrite m b k v s
  | .mbDoorbell m b v => Sys2Proof.Machine.execMbDoorbell m b v s
  | .mbTake => Sys2Proof.Machine.execMbTake s
  | .mbReply b => Sys2Proof.Machine.execMbReply b s
  | .mbCommandTimeout b => Sys2Proof.Machine.execMbCommandTimeout b s
  | .mbAck m b v => Sys2Proof.Machine.execMbAck m b v s
  | .hello b => Sys2Proof.Machine.execHello b s
  | .ping b => Sys2Proof.Machine.execPing b s
  | .axisRelease b => Sys2Proof.Machine.execAxisRelease b s
  | .axisWithhold b => Sys2Proof.Machine.execAxisWithhold b s
  | .pxbMap b => Sys2Proof.Machine.execPxbMap b s
  | .calStart b => Sys2Proof.Machine.execCalStart b s
  | .obsLoad b => Sys2Proof.Machine.execObsLoad b s
  | .obsRemove b => Sys2Proof.Machine.execObsRemove b s
  | .laneFence b => Sys2Proof.Machine.execLaneFence b s
  | .ctxCmd b => Sys2Proof.Machine.execCtxCmd b s
  | .engFence b => Sys2Proof.Machine.execEngFence b s
  | .engReset b => Sys2Proof.Machine.execEngReset b s
  | .memRetire b => Sys2Proof.Machine.execMemRetire b s
  | .atWrite b => Sys2Proof.Machine.execAtWrite b s
  | .atLock b => Sys2Proof.Machine.execAtLock b s
  | .swWrite b => Sys2Proof.Machine.execSwWrite b s
  | .powerState b => Sys2Proof.Machine.execPowerState b s
  | .powerTransitionDone dl ref ack blocks units => Sys2Proof.Machine.execPowerTransitionDone dl ref ack blocks units s
  | .safeInputChange k chB level => Sys2Proof.Machine.execSafeInputChange k chB level s
  | .siDisc k => Sys2Proof.Machine.execSiDisc k s
  | .stoReqWrite m v => Sys2Proof.Machine.execStoReqWrite m v s
  | .safAckGroups m v => Sys2Proof.Machine.execSafAckGroups m v s
  | .safAckFaults m v => Sys2Proof.Machine.execSafAckFaults m v s
  | .stoTestPulse g chB start => Sys2Proof.Machine.execStoTestPulse g chB start s
  | .heartbeatLoss => Sys2Proof.Machine.execHeartbeatLoss s
  | .clock dev => Sys2Proof.Machine.execClock dev s
  | .safetyWindow bad => Sys2Proof.Machine.execSafetyWindow bad s
  | .ss1Timeout n => Sys2Proof.Machine.execSs1Timeout n s
  | .testSliceStart => Sys2Proof.Machine.execTestSliceStart s
  | .testSliceComplete u pass => Sys2Proof.Machine.execTestSliceComplete u pass s
  | .testRestoreDone u => Sys2Proof.Machine.execTestRestoreDone u s
  | .testDeadline u => Sys2Proof.Machine.execTestDeadline u s
  | .safCfgWrite m v => Sys2Proof.Machine.execSafCfgWrite m v s
  | .safLock m v => Sys2Proof.Machine.execSafLock m v s
  | .safEnterRun => Sys2Proof.Machine.execSafEnterRun s
  | .shadow n ts ia ib ua ub bus => Sys2Proof.Machine.execShadow n ts ia ib ua ub bus s
  | .safety speeds sto => Sys2Proof.Machine.execSafety speeds sto s
  | .delayMonitorMeasure slack => Sys2Proof.Machine.execDelayMonitorMeasure slack s
  | .replan dl ref ack => Sys2Proof.Machine.execReplan dl ref ack s
  | .ageReplan m v dl ref ack => Sys2Proof.Machine.execAgeReplan m v dl ref ack s
  | .svcCmd m v => Sys2Proof.Machine.execSvcCmd m v s
  | .recorderTake => Sys2Proof.Machine.execRecorderTake s
  | .mirrorWrite ok => Sys2Proof.Machine.execMirrorWrite ok s
  | .recFlush m v ok => Sys2Proof.Machine.execRecFlush m v ok s
  | .nvIdxWrite m v => Sys2Proof.Machine.execNvIdxWrite m v s
  | .nvReadDone ok => Sys2Proof.Machine.execNvReadDone ok s
  | .hoursUpdate => Sys2Proof.Machine.execHoursUpdate s
  | .bootRom errA errB => Sys2Proof.Machine.execBootRom errA errB s
  | .keyProg m v => Sys2Proof.Machine.execKeyProg m v s
  | .revoke m v => Sys2Proof.Machine.execRevoke m v s
  | .lcCmd m v => Sys2Proof.Machine.execLcCmd m v s
  | .fuseDone => Sys2Proof.Machine.execFuseDone s
  | .dbgChallenge m v => Sys2Proof.Machine.execDbgChallenge m v s
  | .dbgVerify m v => Sys2Proof.Machine.execDbgVerify m v s
  | .attGo m v => Sys2Proof.Machine.execAttGo m v s
  | .attDone => Sys2Proof.Machine.execAttDone s
  | .porAssert rail => Sys2Proof.Machine.execPorAssert rail s
  | .porEnd safeH safeL pos0 found => Sys2Proof.Machine.execPorEnd safeH safeL pos0 found s
  | .systemReset pin m v found => Sys2Proof.Machine.execSystemReset pin m v found s
  | .debugReset jtag m v => Sys2Proof.Machine.execDebugReset jtag m v s
  | .axisReset m hi v => Sys2Proof.Machine.execAxisReset m hi v s
  | .ringGo m v => Sys2Proof.Machine.execRingGo m v s
  | .twnCfgEnable m v => Sys2Proof.Machine.execTwnCfgEnable m v s
  | .linkTrained p lanes major minor peer => Sys2Proof.Machine.execLinkTrained p lanes major minor peer s
  | .trainingRetry p => Sys2Proof.Machine.execTrainingRetry p s
  | .enumeration down up second => Sys2Proof.Machine.execEnumeration down up second s
  | .enumTimeout down up second => Sys2Proof.Machine.execEnumTimeout down up second s
  | .enumWaitExpiry => Sys2Proof.Machine.execEnumWaitExpiry s
  | .enum p id present gap => Sys2Proof.Machine.execEnum p id present gap s
  | .ringJoin self id step present gap master => Sys2Proof.Machine.execRingJoin self id step present gap master s
  | .linkLost p gone => Sys2Proof.Machine.execLinkLost p gone s
  | .write p a data => Sys2Proof.Machine.execWrite p a data s
  | .read p a n errs => Sys2Proof.Machine.execRead p a n errs s
  | .completion p status data => Sys2Proof.Machine.execCompletion p status data s
  | .linkPost p q data => Sys2Proof.Machine.execLinkPost p q data s
  | .linkNak p cls => Sys2Proof.Machine.execLinkNak p cls s
  | .linkAckTimeout p cls => Sys2Proof.Machine.execLinkAckTimeout p cls s
  | .retrain m p v => Sys2Proof.Machine.execRetrain m p v s
  | .ethTransmit p c => Sys2Proof.Machine.execEthTransmit p c s
  | .ethTxDone p => Sys2Proof.Machine.execEthTxDone p s
  | .ethReceive p c stamp data => Sys2Proof.Machine.execEthReceive p c stamp data s
  | .ethGateSwitch p k => Sys2Proof.Machine.execEthGateSwitch p k s
  | .pcieInbound x n write data poisoned errs => Sys2Proof.Machine.execPcieInbound x n write data poisoned errs s
  | .pcieCompletionTimeout => Sys2Proof.Machine.execPcieCompletionTimeout s
  | .pmbusPoll vout iout => Sys2Proof.Machine.execPmbusPoll vout iout s
  | .pmbusAlert word => Sys2Proof.Machine.execPmbusAlert word s
  | .serviceTransfer out inp => Sys2Proof.Machine.execServiceTransfer out inp s
  | .wake found => Sys2Proof.Machine.execWake found s
  | .wakeTimer found => Sys2Proof.Machine.execWakeTimer found s
  | .thermalSample tj sensor => Sys2Proof.Machine.execThermalSample tj sensor s
  | .throttleStep => Sys2Proof.Machine.execThrottleStep s
  | .gptpOfsUpdate ofs => Sys2Proof.Machine.execGptpOfsUpdate ofs s
  | .intlvLockLoss c => Sys2Proof.Machine.execIntlvLockLoss c s
  | .dmaTransferDone q => Sys2Proof.Machine.execDmaTransferDone q s
  | .fwVerifyDone => Sys2Proof.Machine.execFwVerifyDone s
  | .dbgVerifyDone => Sys2Proof.Machine.execDbgVerifyDone s
  | .laneLockLoss p => Sys2Proof.Machine.execLaneLockLoss p s
  | .packetDiscarded p => Sys2Proof.Machine.execPacketDiscarded p s
  | .linkAck p cls seq => Sys2Proof.Machine.execLinkAck p cls seq s
  | .pcieCompletion poisoned data => Sys2Proof.Machine.execPcieCompletion poisoned data s
  | .stoReadbackMismatch g at_ => Sys2Proof.Machine.execStoReadbackMismatch g at_ s
  | .tripAssertionBlanked p => Sys2Proof.Machine.execTripAssertionBlanked p s
  | .tileStaged p k => Sys2Proof.Machine.execTileStaged p k s

end Sys2Proof.Machine
end

