-- ==== Sys2Proof/Safety.lean ====
section
/-!
DEFINITION. What counts as a safe run: every step answers a next state, and memory keeps its canonical form in every state of it; and the words that
the statements are made of: a command completes with a property of its next state, and an event waits for the recorder.
-/
namespace Sys2Proof.Safety
open Sys2Proof.Machine

/-- A step that neither stops nor breaks the canonical form of memory. -/
def SafeStep (s : State) : Prop := ∃ t, step s = .next t ∧ Memory.wf t.mem = true

/-- `k` steps, each safe. -/
def SafeRun : Nat → State → Prop
  | 0, _ => True
  | k + 1, s => ∃ t, step s = .next t ∧ Memory.wf t.mem = true ∧ SafeRun k t

/-- The command completes: exec answers a next state, and that state has the property. -/
def Completes (c : Instr) (s : State) (P : State → Prop) : Prop := ∃ t, exec c s = .next t ∧ P t

/-- The access table lets master `m` read the register at `a` (R288). -/
abbrev MayRead (s : State) (m a : Nat) : Prop := s.checkAccess m a 4 false false = none
/-- The access table lets master `m` write the register at `a` (R288); `sw` where the write needs the attribute SW. -/
abbrev MayWrite (s : State) (m a : Nat) (sw : Bool) : Prop := s.checkAccess m a 4 true sw = none

/-- The register at `a` has no effect of its own beside its fields: no row of the register maps gives a write of it one (R12). -/
abbrev Plain (m a v : Nat) : Prop :=
  (writesA m a v ++ writesB m a v ++ writesC m a v ++ writesD m a v ++ writesE m a v ++ writesF m a v).all Option.isNone = true ∧
  (writesOther a v).isNone = true
/-- Every register but those listed reads as before. -/
def OnlyRegs (s t : State) (as_ : List Nat) : Prop := ∀ a, a ∉ as_ → t.reg a = s.reg a
/-- `a` is the address of the register of field `f`, at some instance and array index; a 64-bit field has two registers (R15). -/
def IsReg (f : RF) (a : Nat) : Prop := ∃ i j, a = f.addr i j ∨ (f.hi = 63 ∧ a = f.addr i j + 4)
/-- The registers that do not lie at an address of a field's own: monitor sets (R106), the compensator blocks of an axis (R113), and the queues, whose
registers, the last of the register space, a master that is no port writes in the same clock (R212, R213). -/
inductive RegSet where
  | monitors | compensators | direct
  deriving DecidableEq, Repr
/-- `a` lies in a set of registers. -/
def InSet : RegSet → Nat → Prop
  | .monitors, a => ∃ k d, d < 0x40 ∧ a = monBase k + d
  | .compensators, a => ∃ n, ∃ b ∈ [cmpD n, cmpQ n, cmpS n], b ≤ a ∧ a < b + 0x30
  | .direct, a => 0x2030000000 ≤ a ∨ (0x2000100000 ≤ a ∧ a < 0x20001A0000)
/-- Every register but those of the fields, and of the sets named beside them, reads as before. -/
def OnlyFields (s t : State) (fs : List RF) (sets : List RegSet := []) : Prop :=
  ∀ a, (∀ f ∈ fs, ¬IsReg f a) → (∀ x ∈ sets, ¬InSet x a) → t.reg a = s.reg a
/-- The registers that an event waiting for the recorder shows in (R359). -/
def events : List RF := [REC.QUEUE.VALUE, REC.EVT_TOTAL]
/-- The registers a violation is logged in (R292). -/
def violations : List RF := [AT.VIO_STATUS.FIRST_VALID, AT.VIO_FIRST_ADDR, AT.VIO_FIRST_INFO.MASTER, AT.VIO_FIRST_TIME, AT.VIO_LATEST_ADDR,
      AT.VIO_LATEST_INFO.INFO, AT.VIO_LATEST_TIME]
/-- The registers in which memory errors show (R283 to R286). -/
def memoryErrors : List RF := [MEM.ECC_STATUS.CE, MEM.UE_FIRST_ADDR, MEM.UE_FIRST_INFO.MASTER, MEM.UE_FIRST_TIME, MEM.UE_LATEST_ADDR,
      MEM.UE_LATEST_INFO.INFO, MEM.UE_LATEST_TIME, MEM.CH_CNT.CE, MEM.SRAM_CNT.CE, MEM.CH_RETIRE.RETIRE]
/-- The registers a command may change, by one field of each, and the sets of registers among them; none for a
command that may write a register at an address it is given or resets a domain of registers (R391). -/
def registersOf : Instr → Option (List RF × List RegSet)
  | .tbAngleLoRead _ _ | .pwmActPeriodRead _ _ | .obsEstThetaRead _ _ | .readLoLatch _ _ | .readHi _ _ =>
    some (violations ++ events, [])
  | .dtStep _ _ =>
    some (violations ++ events ++ [DT.STATUS.ALIGNED, TB.STAMP, MF.VIB_STATUS.SETTLING, BAB.IN_STATUS.STATE], [])
  | .dtRateWrite _ _ =>
    some (violations ++ events ++ [DT.RATE.RATE, DT.STATUS.ALIGNED], [])
  | .time _ _ _ _ _ _ _ _ =>
    some (events ++ [DT.RATE.RATE, DT.STATUS.ALIGNED, DT.OFFSET.OFFSET, TB.STAMP, MF.VIB_STATUS.SETTLING, BAB.IN_STATUS.STATE, TWN.STATUS.PAIRED,
      LNK.DELAY.DELAY], [])
  | .alignTimeout =>
    some ([DT.STATUS.ALIGNED], [])
  | .tbSoftwareUpdate _ _ _ | .tbSourceSilent _ | .tbHoldExpiry _ =>
    some (violations ++ events ++ memoryErrors ++ [TB.SPEED.SPEED, TB.ANGLE, TB.STAMP, TB.STATUS.STATE, SCH.TARGET, SCH.PRED, SCH.RESID.RESID,
      SCH.STATUS.STATE, BAB.IN_STATUS.STATE, BAB.IN_POS], [.direct])
  | .tachPulse _ _ =>
    some (violations ++ events ++ memoryErrors ++ [TB.SPEED.SPEED, TB.ANGLE, TB.STAMP, TB.STATUS.STATE, SCH.TARGET, SCH.PRED, SCH.RESID.RESID,
      SCH.STATUS.STATE, BAB.IN_STATUS.STATE, BAB.IN_POS, IOS.TACH_STATUS.PULSE_CNT], [.direct])
  | .ssiFrame _ _ _ _ _ _ =>
    some (violations ++ events ++ memoryErrors ++ [TB.SPEED.SPEED, TB.ANGLE, TB.STAMP, TB.STATUS.STATE, SCH.TARGET, SCH.PRED, SCH.RESID.RESID,
      SCH.STATUS.STATE, BAB.IN_STATUS.STATE, BAB.IN_POS, IOS.SSI_STATUS.FRAME_CNT], [.direct])
  | .lsyncEdge _ =>
    some (violations ++ events ++ memoryErrors ++ [TB.SPEED.SPEED, TB.ANGLE, TB.STAMP, TB.STATUS.STATE, SCH.TARGET, SCH.PRED, SCH.RESID.RESID,
      SCH.STATUS.STATE, BAB.IN_STATUS.STATE, BAB.IN_POS, IOS.LSYNC_PERIOD.PERIOD, IOS.LSYNC_STATUS.REJ_CNT], [.direct])
  | .tbRestart _ _ _ _ =>
    some (violations ++ events ++ memoryErrors ++ [TB.CFG.EN, TB.RATIO.NUM, TB.SPEED.SPEED, TB.ANGLE, TB.STAMP, TB.STATUS.STATE, SCH.TARGET,
      SCH.PRED, SCH.RESID.RESID, SCH.STATUS.STATE, BAB.IN_STATUS.STATE, BAB.IN_POS], [.direct])
  | .schCfgWrite _ _ _ =>
    some (violations ++ events ++ [SCH.CFG.EN, SCH.PRED, SCH.STATUS.STATE], [])
  | .schTargetWrite _ _ _ =>
    some (violations ++ events ++ [SCH.TARGET, SCH.PRED, SCH.STATUS.STATE], [])
  | .slotFire _ =>
    some (violations ++ events ++ memoryErrors ++ [SCH.CFG.EN, SCH.TARGET, SCH.PRED, SCH.RESID.RESID, SCH.STATUS.STATE, SCH.LAST_FIRE,
      HK.STATUS.RUN, CTX.STATUS.STATE, CTX.FRAME.FRAME, CTX.OVR_CNT.CNT, Q.PROD.PROD, Q.CREDITS.CREDITS, Q.STATUS.NO_CREDIT, Q.LAST_POST,
      Q.POSTS.SEQ, Q.SLOTS.POST_SLOT, BAB.STATUS.OVERLOAD, TWN.STATUS.PAIRED], [])
  | .axisEnable _ _ _ | .axisDisable _ _ _ =>
    some (violations ++ events ++ [AX.PWM_CTRL.EN, AX.PWM_STATUS.COMMIT_PEND, AX.PWM_CARRY.CARRY, AX.CMT_STATUS.STATE, AX.CMT_CORR.VALUE,
      AX.CMT_SCORR.VALUE, AX.OBS_STATUS.MODE], [])
  | .pwmDutyWrite _ _ _ _ =>
    some (violations ++ events ++ [AX.PWM_DUTY.D, AX.PWM_STATUS.COMMIT_PEND], [])
  | .pwmCommit _ _ =>
    some (violations ++ events ++ [AX.PWM_STATUS.COMMIT_PEND], [])
  | .pwmCapture _ =>
    some (events ++ [AX.PWM_STATUS.COMMIT_PEND], [])
  | .pwmPeriodBoundary _ =>
    some (violations ++ events ++ memoryErrors ++ [TB.SPEED.SPEED, TB.ANGLE, TB.STAMP, TB.STATUS.STATE, SCH.TARGET, SCH.PRED, SCH.RESID.RESID,
      SCH.STATUS.STATE, AX.PWM_CTRL.EN, AX.PWM_STATUS.COMMIT_PEND, AX.PWM_ACT_PERIOD.TOP, AX.PWM_ACT_W.W, AX.PWM_CARRY.CARRY, AX.PWM_LAST_COMMIT,
      AX.PWM_DLCAL.N, AX.FOC_CTRL.RUN, AX.SPD_DERATE.TQ, AX.CMT_STATUS.STATE, AX.OBS_STATUS.MODE, AX.SAF_STATUS.STATE, BAB.IN_STATUS.STATE,
      BAB.IN_POS, SAF.STATUS.STATE, SAF.GROUP_STATE.LOW, SAF.FAULT_LAST.CODE, SAF.FAULT_TIME], [.direct])
  | .dlCalMeasure _ _ =>
    some (events ++ [AX.PWM_STATUS.COMMIT_PEND, AX.PWM_DLCAL.N], [])
  | .tripQualified _ _ _ =>
    some (events ++ [AX.PWM_CTRL.EN, AX.PWM_STATUS.COMMIT_PEND, AX.TRIP_STATUS.LATCH, AX.TRIP_TIME, AX.CMT_STATUS.STATE], [])
  | .pxbMapWrite _ _ _ | .pxbMap _ =>
    some (violations ++ events ++ [PXB.MAP.AXIS, PXB.STATUS.BUSY], [])
  | .loopStep _ _ _ _ =>
    some (violations ++ events ++ memoryErrors ++ [TB.SPEED.SPEED, TB.ANGLE, TB.STAMP, TB.STATUS.STATE, SCH.TARGET, SCH.PRED, SCH.RESID.RESID,
      SCH.STATUS.STATE, AX.PWM_CTRL.EN, AX.PWM_DUTY.D, AX.PWM_STATUS.COMMIT_PEND, AX.ADC_STATUS.CHK_MISM, AX.ADC_HEALTH.FAIL, AX.FOC_CTRL.RUN,
      AX.FOC_IQ_REF.VALUE, AX.FOC_VD_MAN.VALUE, AX.FOC_VQ_MAN.VALUE, AX.FOC_STATUS.SECTOR, AX.FOC_VBUS.VBUS, AX.SPD_REF.REF,
      AX.SPD_STATUS.AT_TARGET, AX.SPD_DERATE.TQ, AX.CMT_STATUS.STATE, AX.CMT_CNT.QUALIFIED, AX.CMT_FAIL_CNT.NONE, AX.CMT_CORR.VALUE,
      AX.CMT_SCORR.VALUE, AX.BUS_ABS.DIQ, AX.BUS_STATUS.CFG_REFUSED, AX.OBS_STATUS.MODE, AX.OBS_CNT.EVAL_CNT, AX.OBS_LAST_MISM,
      AX.OBS_EST_THETA.THETA, AX.OBS_EST_OMEGA.OMEGA, AX.OBS_EST_T.T_W, AX.OBS_EST_LOAD.LOAD, AX.OBS_EST_STAMP, AX.OBS_EST_SRC.SRC,
      AX.SAF_STATUS.STATE, OBS.STATUS.DEMOTE, BAB.IN_STATUS.STATE, BAB.IN_POS, SAF.STATUS.STATE, SAF.GROUP_STATE.LOW, SAF.FAULT_LAST.CODE,
      SAF.FAULT_TIME], [.direct])
  | .pvComparatorChange _ _ _ | .pvDacSettled _ _ _ =>
    some ([AX.PV_STATUS.LEVEL, AX.CMT_CNT.QUALIFIED], [])
  | .pvDacWrite _ _ _ _ =>
    some (violations ++ events ++ [AX.PV_DAC.TH, AX.PV_STATUS.LEVEL], [])
  | .dcbSampleDelivered _ _ _ =>
    some (violations ++ events ++ memoryErrors ++ [TB.SPEED.SPEED, TB.ANGLE, TB.STAMP, TB.STATUS.STATE, SCH.TARGET, SCH.PRED, SCH.RESID.RESID,
      SCH.STATUS.STATE, AX.PWM_CTRL.EN, AX.FOC_CTRL.RUN, AX.SPD_DERATE.TQ, AX.SPD_BUS_LIM.LIM, AX.CMT_STATUS.STATE, AX.SAF_STATUS.STATE,
      MF.DCB_STATUS.OV, BUS.STATUS.CHOP_ON, BUS.HOLD_LIM.L_BUS, BUS.VNOW.V, BAB.IN_STATUS.STATE, BAB.IN_POS, SAF.STATUS.STATE,
      SAF.GROUP_STATE.LOW, SAF.FAULT_LAST.CODE, SAF.FAULT_TIME], [.direct])
  | .ovComparator _ _ =>
    some (events ++ [MF.DCB_STATUS.OV, BUS.STATUS.CHOP_ON], [])
  | .chfbChange _ _ =>
    some ([MF.DCB_STATUS.OV], [])
  | .chopNoCurrent _ | .chopOverload _ =>
    some (events ++ [BUS.STATUS.CHOP_ON, BUS.CHOP_FAULT_TIME], [])
  | .chopStuck _ =>
    some (violations ++ events ++ memoryErrors ++ [TB.SPEED.SPEED, TB.ANGLE, TB.STAMP, TB.STATUS.STATE, SCH.TARGET, SCH.PRED, SCH.RESID.RESID,
      SCH.STATUS.STATE, AX.PWM_CTRL.EN, AX.FOC_CTRL.RUN, AX.SPD_DERATE.TQ, AX.CMT_STATUS.STATE, AX.SAF_STATUS.STATE, BUS.STATUS.CHOP_ON,
      BAB.IN_STATUS.STATE, BAB.IN_POS, SAF.STATUS.STATE, SAF.GROUP_STATE.LOW, SAF.FAULT_LAST.CODE, SAF.FAULT_TIME], [.direct])
  | .chopFaultClear _ _ | .t2Clear _ _ =>
    some (violations ++ events ++ [BUS.STATUS.CHOP_ON], [])
  | .busThWrite _ _ _ _ =>
    some (violations ++ events ++ [BUS.TH1.TH1_ON, BUS.TH2.TH2, BUS.UV.UV, BUS.STATUS.CHOP_ON], [])
  | .accClear _ _ _ | .accSnap _ _ _ =>
    some (violations ++ events ++ [BUS.ACC_CTRL.CLEAR, BUS.E, BUS.ACC_SNAP_TIME], [])
  | .accAutoSnap _ =>
    some ([BUS.E, BUS.ACC_SNAP_TIME], [])
  | .vibSample _ _ _ =>
    some (violations ++ events ++ memoryErrors ++ [MF.VIB_STATUS.SETTLING, BAB.IN_STATUS.STATE, BAB.IN_POS], [.direct])
  | .vibRestart _ _ _ _ =>
    some (violations ++ events ++ [MF.VIB_CFG.PD, MF.VIB_NOTCH.F, MF.VIB_STATUS.SETTLING, BAB.IN_STATUS.STATE], [])
  | .vibSettled _ | .intlvLock _ | .intlvLockLoss _ =>
    some ([MF.VIB_STATUS.SETTLING], [])
  | .hkStart _ _ _ | .hkStop _ _ _ =>
    some (violations ++ events ++ [HK.CTRL.START, HK.STATUS.RUN], [])
  | .hkConversionDone _ _ =>
    some ([HK.STATUS.RUN, HK.URG_RESULT.VALUE, HK.URG_STAMP, HK.RESULT.VALUE, HK.STAMP], [])
  | .hkDelayExpiry _ =>
    some ([HK.STATUS.RUN], [])
  | .hkUrgent _ _ _ _ =>
    some (violations ++ events ++ [HK.STATUS.RUN, HK.URGENT.REQ], [])
  | .barrier _ _ _ | .nop _ _ | .tileStaged _ _ | .tileIssue _ | .converterWakeDone _ _ | .stoTestPulse _ _ _ | .heartbeatLoss
  | .shadow _ _ _ _ _ _ _ | .trainingRetry _ | .linkAck _ _ _ | .pcieCompletion _ _ | .pcieCompletionTimeout | .serviceTransfer _ _
  | .completion _ _ _ | .ping _ | .powerState _ =>
    some ([], [])
  | .calCmdStart _ _ | .calStart _ =>
    some (violations ++ events ++ [AX.ADC_STATUS.CHK_MISM, MF.CAL_CMD.START, MF.CAL_STATUS.BUSY, BUS.STATUS.CHOP_ON], [])
  | .calComplete _ _ =>
    some (violations ++ events ++ memoryErrors ++ [TB.SPEED.SPEED, TB.ANGLE, TB.STAMP, TB.STATUS.STATE, SCH.TARGET, SCH.PRED, SCH.RESID.RESID,
      SCH.STATUS.STATE, AX.PWM_CTRL.EN, AX.ADC_HEALTH.FAIL, AX.CAL_OFS.OFS, AX.CAL_GAIN.GAIN, AX.FOC_CTRL.RUN, AX.SPD_DERATE.TQ,
      AX.CMT_STATUS.STATE, AX.SAF_STATUS.STATE, MF.CAL_STATUS.BUSY, MF.CAL_TIME, MF.CAL_OFS.OFS, MF.CAL_GAIN.GAIN, MF.DCB_STATUS.OV,
      MF.VIB_STATUS.SETTLING, BUS.STATUS.CHOP_ON, BAB.IN_STATUS.STATE, BAB.IN_POS, SAF.STATUS.STATE, SAF.GROUP_STATE.LOW, SAF.FAULT_LAST.CODE,
      SAF.FAULT_TIME], [.direct])
  | .monSnap _ _ _ =>
    some (violations ++ events, [.monitors])
  | .monAutoSnap _ =>
    some ([], [.monitors])
  | .cmpApply _ _ _ _ =>
    some (violations ++ events, [.compensators])
  | .spdPreset _ _ _ =>
    some (violations ++ events ++ [AX.SPD_CTRL.DIV], [])
  | .spdDerateWrite _ _ _ =>
    some (violations ++ events ++ [AX.SPD_DERATE.TQ], [])
  | .lwOpen _ | .brakeEnd _ =>
    some ([AX.PV_DAC.TH, AX.CMT_STATUS.STATE], [])
  | .lwClose _ _ | .crossingQualified _ _ _ _ =>
    some (violations ++ events ++ memoryErrors ++ [TB.SPEED.SPEED, TB.ANGLE, TB.STAMP, TB.STATUS.STATE, SCH.TARGET, SCH.PRED, SCH.RESID.RESID,
      SCH.STATUS.STATE, AX.PWM_CTRL.EN, AX.FOC_CTRL.RUN, AX.SPD_DERATE.TQ, AX.CMT_STATUS.STATE, AX.CMT_CNT.QUALIFIED, AX.CMT_FAIL_CNT.NONE,
      AX.CMT_LAST, AX.CMT_LAST_ERR.VALUE, AX.CMT_SCORR.VALUE, AX.SAF_STATUS.STATE, BAB.IN_STATUS.STATE, BAB.IN_POS, SAF.STATUS.STATE,
      SAF.GROUP_STATE.LOW, SAF.FAULT_LAST.CODE, SAF.FAULT_TIME], [.direct])
  | .startGo _ _ | .startAbort _ _ =>
    some (violations ++ events ++ [AX.PV_DAC.TH, AX.CMT_STATUS.STATE], [])
  | .listenEnd _ =>
    some (events ++ [AX.PWM_CTRL.EN, AX.PV_DAC.TH, AX.FOC_CTRL.RUN, AX.SPD_REF.REF, AX.SPD_STATUS.AT_TARGET, AX.CMT_STATUS.STATE,
      AX.CMT_CORR.VALUE, AX.CMT_SCORR.VALUE, AX.CMT_MEAS_SPD.VALUE, AX.CMT_MEAS_ANGLE.VALUE], [])
  | .waitTimeout _ | .handoverFail _ =>
    some (events ++ [AX.PWM_CTRL.EN, AX.CMT_STATUS.STATE], [])
  | .alignEnd _ =>
    some ([AX.SPD_REF.REF, AX.SPD_STATUS.AT_TARGET, AX.CMT_STATUS.STATE], [])
  | .obsLoadGo _ _ | .loadCmdRemove _ _ | .obsRemove _ =>
    some (violations ++ events ++ [OBS.LOAD_CMD.GO, OBS.LOAD_STATUS.BUSY], [])
  | .obsLoadDone =>
    some (violations ++ events ++ memoryErrors ++ [AX.OBS_STATUS.MODE, OBS.LOAD_STATUS.BUSY, OBS.ADM_LIP.VALUE, OBS.ADM_ERRB.VALUE, OBS.PLAN.SUM,
      OBS.PPLAN.SUM, OBS.STATUS.DEMOTE], [])
  | .obsRemoveDone =>
    some (events ++ [AX.OBS_STATUS.MODE, OBS.LOAD_STATUS.BUSY, OBS.PLAN.SUM, OBS.PPLAN.SUM, OBS.STATUS.DEMOTE], [])
  | .obsJobComplete _ | .pewterCheckComplete _ | .obsLate _ =>
    some (violations ++ events ++ memoryErrors ++ [TB.SPEED.SPEED, TB.ANGLE, TB.STAMP, TB.STATUS.STATE, SCH.TARGET, SCH.PRED, SCH.RESID.RESID,
      SCH.STATUS.STATE, AX.PWM_DUTY.D, AX.PWM_STATUS.COMMIT_PEND, AX.FOC_IQ_REF.VALUE, AX.FOC_VD_MAN.VALUE, AX.FOC_VQ_MAN.VALUE,
      AX.FOC_STATUS.SECTOR, AX.FOC_VBUS.VBUS, AX.SPD_REF.REF, AX.SPD_STATUS.AT_TARGET, AX.CMT_STATUS.STATE, AX.CMT_CNT.QUALIFIED,
      AX.CMT_FAIL_CNT.NONE, AX.CMT_CORR.VALUE, AX.CMT_SCORR.VALUE, AX.BUS_ABS.DIQ, AX.BUS_STATUS.CFG_REFUSED, AX.OBS_STATUS.MODE,
      AX.OBS_CNT.EVAL_CNT, AX.OBS_LAST_MISM, AX.OBS_EST_THETA.THETA, AX.OBS_EST_OMEGA.OMEGA, AX.OBS_EST_T.T_W, AX.OBS_EST_LOAD.LOAD,
      AX.OBS_EST_STAMP, AX.OBS_EST_SRC.SRC, OBS.STATUS.DEMOTE, BAB.IN_STATUS.STATE, BAB.IN_POS], [.direct])
  | .obsLaneFence _ _ | .laneFence _ =>
    some (violations ++ events ++ memoryErrors ++ [TB.SPEED.SPEED, TB.ANGLE, TB.STAMP, TB.STATUS.STATE, SCH.TARGET, SCH.PRED, SCH.RESID.RESID,
      SCH.STATUS.STATE, AX.PWM_DUTY.D, AX.PWM_STATUS.COMMIT_PEND, AX.FOC_IQ_REF.VALUE, AX.FOC_VD_MAN.VALUE, AX.FOC_VQ_MAN.VALUE,
      AX.FOC_STATUS.SECTOR, AX.FOC_VBUS.VBUS, AX.SPD_REF.REF, AX.SPD_STATUS.AT_TARGET, AX.CMT_STATUS.STATE, AX.CMT_CNT.QUALIFIED,
      AX.CMT_FAIL_CNT.NONE, AX.CMT_CORR.VALUE, AX.CMT_SCORR.VALUE, AX.BUS_ABS.DIQ, AX.BUS_STATUS.CFG_REFUSED, AX.OBS_STATUS.MODE,
      AX.OBS_CNT.EVAL_CNT, AX.OBS_LAST_MISM, AX.OBS_EST_THETA.THETA, AX.OBS_EST_OMEGA.OMEGA, AX.OBS_EST_T.T_W, AX.OBS_EST_LOAD.LOAD,
      AX.OBS_EST_STAMP, AX.OBS_EST_SRC.SRC, OBS.LANES.USABLE, OBS.LANE_FENCE.FENCE, OBS.PLAN.SUM, OBS.PPLAN.SUM, OBS.STATUS.DEMOTE,
      BAB.IN_STATUS.STATE, BAB.IN_POS], [.direct])
  | .forceCls _ _ _ | .resume _ _ _ =>
    some (violations ++ events ++ [AX.OBS_CFG.PRIO_T, AX.OBS_STATUS.MODE, OBS.PLAN.SUM, OBS.PPLAN.SUM, OBS.STATUS.DEMOTE], [])
  | .infEngFence _ _ | .engFence _ =>
    some (violations ++ events ++ [INF.ENG_MAP.MAP, INF.ENG_FENCE.FENCE, INF.ENG_STATUS.USABLE, INF.STATUS.UNAVAIL, ENG.STATUS.HOSTS,
      CTX.STATUS.STATE], [])
  | .engCtrlReset _ _ _ | .engReset _ =>
    some (violations ++ events ++ [INF.ENG_STATUS.USABLE, ENG.STATUS.HOSTS, CTX.STATUS.STATE, PWR.STATE.STATE], [])
  | .tileAssign _ | .tileRetire _ =>
    some ([ENG.STATUS.HOSTS], [])
  | .ctxLoad _ _ | .ctxArm _ _ _ | .ctxDisarm _ _ | .ctxAbort _ _ | .ctxUnload _ _ | .ctxSnap _ _ | .ctxRestore _ _ | .ctxStart _ _ | .ctxCmd _ =>
    some (violations ++ events ++ memoryErrors ++ [CTX.STATUS.STATE, CTX.FRAME.FRAME, CTX.OVR_CNT.CNT, TWN.STATUS.PAIRED], [])
  | .ctxCmdComplete _ _ =>
    some (violations ++ events ++ memoryErrors ++ [INF.STATUS.UNAVAIL, CTX.STATUS.STATE, CTX.CLK_MAX.CLK, CTX.OVR_CNT.CNT, CTX.OUT_STRIDE.STRIDE,
      CTX.Q_HIST.FILL_MIN, CTX.Q_CLIP_TOT, CTX.Q_ELEM_TOT, CTX.Q_NAN_TOT, CTX.DIG_STATUS.HAS_U, CTX.WDIGEST.W], [.direct])
  | .qPost _ _ _ | .qTake _ _ _ | .qRetire _ _ _ =>
    some (violations ++ events ++ memoryErrors ++ [Q.PROD.PROD, Q.TAKE.TAKE, Q.RET.RET, Q.CREDITS.CREDITS, Q.STATUS.NO_CREDIT, Q.LAST_POST,
      Q.POSTS.SEQ, Q.SLOTS.POST_SLOT], [])
  | .qCfgWrite _ _ _ =>
    some (violations ++ events ++ [Q.CFG.EN, Q.PROD.PROD, Q.TAKE.TAKE, Q.RET.RET, Q.CREDITS.CREDITS, Q.STATUS.NO_CREDIT, Q.POSTS.SEQ,
      Q.SLOTS.POST_SLOT], [])
  | .qBaseWrite _ _ _ =>
    some (violations ++ events ++ [Q.BASE, Q.STATUS.NO_CREDIT], [])
  | .frameEnd _ | .compare _ _ _ _ _ =>
    some (violations ++ events ++ memoryErrors ++ [TB.SPEED.SPEED, TB.ANGLE, TB.STAMP, TB.STATUS.STATE, SCH.TARGET, SCH.PRED, SCH.RESID.RESID,
      SCH.STATUS.STATE, AX.PWM_CTRL.EN, AX.FOC_CTRL.RUN, AX.SPD_DERATE.TQ, AX.CMT_STATUS.STATE, AX.SAF_STATUS.STATE, ENG.STATUS.HOSTS,
      CTX.STATUS.STATE, CTX.FRAME.FRAME, CTX.LAST_CODE.CODE, CTX.LAST_TRIG, CTX.LAST_DONE, CTX.CLK_LAST.CLK, CTX.CLK_MAX.CLK,
      CTX.Q_STATUS.CLIP_ALARM, CTX.Q_CLIP.CNT, CTX.Q_ELEM.CNT, CTX.Q_NAN.CNT, CTX.Q_DEV.CNT, CTX.Q_WORST.SHARE, CTX.Q_HIST.FILL_MIN,
      CTX.Q_CLIP_TOT, CTX.Q_ELEM_TOT, CTX.Q_NAN_TOT, CTX.DIG_STATUS.HAS_U, CTX.TRACE_CTRL.ARM, CTX.TWIN_MISM_TIME, Q.PROD.PROD, Q.TAKE.TAKE,
      Q.RET.RET, Q.CREDITS.CREDITS, Q.STATUS.NO_CREDIT, Q.LAST_POST, Q.POSTS.SEQ, Q.SLOTS.POST_SLOT, BAB.IN_STATUS.STATE, BAB.IN_POS,
      TWN.STATUS.PAIRED, SAF.STATUS.STATE, SAF.GROUP_STATE.LOW, SAF.FAULT_LAST.CODE, SAF.FAULT_TIME], [.direct])
  | .frameTimeout _ =>
    some (violations ++ events ++ memoryErrors ++ [ENG.STATUS.HOSTS, CTX.STATUS.STATE, CTX.FRAME.FRAME, CTX.LAST_CODE.CODE, CTX.LAST_TRIG,
      CTX.LAST_DONE, CTX.CLK_LAST.CLK, CTX.CLK_MAX.CLK, CTX.Q_STATUS.CLIP_ALARM, CTX.Q_CLIP.CNT, CTX.Q_ELEM.CNT, CTX.Q_NAN.CNT, CTX.Q_DEV.CNT,
      CTX.Q_WORST.SHARE, CTX.Q_HIST.FILL_MIN, CTX.Q_CLIP_TOT, CTX.Q_ELEM_TOT, CTX.Q_NAN_TOT, CTX.TRACE_CTRL.ARM, Q.PROD.PROD, Q.TAKE.TAKE,
      Q.RET.RET, Q.CREDITS.CREDITS, Q.STATUS.NO_CREDIT, Q.LAST_POST, Q.POSTS.SEQ, Q.SLOTS.POST_SLOT, TWN.STATUS.PAIRED], [.direct])
  | .utilSnap _ _ =>
    some (violations ++ events ++ [INF.UTIL_CTRL.SNAP, INF.UTIL_SNAP_TIME, ENG.UTIL], [])
  | .utilAutoSnap =>
    some ([INF.UTIL_SNAP_TIME, ENG.UTIL], [])
  | .matmul _ _ | .matmulBias _ _ | .conv1d _ _ _ _ _ | .conv2d _ _ _ _ _ | .dwconv _ _ _ _ _ | .outlierMm _ _ | .hadamard _ _ | .quant _ _
  | .dequant _ _ | .qstat _ _ | .add _ _ | .sub _ _ | .mul _ _ | .max _ _ | .min _ _ | .abs _ _ | .scale _ _ _ | .clamp _ _ _ | .cmp _ _ _
  | .select _ _ | .relu _ _ | .leaky _ _ | .tanh _ _ | .sigmoid _ _ | .gelu _ _ | .exp _ _ | .log _ _ | .rsqrt _ _ | .recip _ _ | .softmax _ _ _
  | .layernorm _ _ _ | .rmsnorm _ _ _ | .reduceSum _ _ _ | .reduceSumU _ _ _ _ | .reduceMax _ _ _ | .reduceMin _ _ _ | .argmax _ _ _
  | .argmin _ _ _ | .cast _ _ | .copy _ _ | .transpose _ _ _ | .slice _ _ _ _ | .concat _ _ _ | .pad _ _ _ _ | .gather _ _ _ | .scatter _ _ _
  | .scatterAdd _ _ _ | .scatterAddU _ _ _ _ | .stateLoad _ _ | .stateStore _ _ =>
    some (violations ++ events ++ memoryErrors, [.direct])
  | .dma _ _ _ _ _ _ _ =>
    some (violations ++ events ++ memoryErrors ++ [Q.PROD.PROD, Q.TAKE.TAKE, Q.RET.RET, Q.CREDITS.CREDITS, Q.LAST_POST, Q.POSTS.SEQ,
      Q.SLOTS.POST_SLOT], [.direct])
  | .wait _ _ =>
    some (violations ++ events ++ memoryErrors ++ [Q.TAKE.TAKE, Q.SLOTS.POST_SLOT], [])
  | .post _ _ =>
    some (violations ++ events ++ memoryErrors ++ [Q.PROD.PROD, Q.CREDITS.CREDITS, Q.LAST_POST, Q.POSTS.SEQ, Q.SLOTS.POST_SLOT], [.direct])
  | .retire _ _ =>
    some ([Q.RET.RET, Q.CREDITS.CREDITS, Q.STATUS.NO_CREDIT], [])
  | .result _ _ | .ethGateSwitch _ _ =>
    some (violations ++ events ++ memoryErrors, [])
  | .babInCfgWrite _ _ _ _ =>
    some (violations ++ events ++ [BAB.IN_CFG.EN, BAB.IN_BAND.LO, BAB.IN_RING.OFS, BAB.IN_STATUS.STATE, BAB.CTX_LAYOUT.VALUE,
      BAB.CTX_STATUS.CFG_ERR], [])
  | .babCtxEnable _ _ _ =>
    some (violations ++ events ++ memoryErrors ++ [BAB.CTX_CFG.EN, BAB.CTX_LAYOUT.VALUE, BAB.CTX_STATUS.CFG_ERR], [])
  | .babClosePosted =>
    some (violations ++ events ++ memoryErrors ++ [Q.PROD.PROD, Q.CREDITS.CREDITS, Q.STATUS.NO_CREDIT, Q.LAST_POST, Q.POSTS.SEQ,
      Q.SLOTS.POST_SLOT, BAB.STATUS.OVERLOAD, BAB.CTX_STATUS.CFG_ERR, TWN.STATUS.PAIRED], [.direct])
  | .babResultApply _ =>
    some (violations ++ events ++ [AX.SPD_DERATE.TQ, BAB.CTX_ALARM.ALARM, BAB.CTX_STATUS.CFG_ERR, BAB.CTX_LAST_APPLY], [])
  | .babStale _ =>
    some (violations ++ events ++ [AX.SPD_DERATE.TQ, BAB.CTX_STATUS.CFG_ERR], [])
  | .linkCopy _ _ _ _ _ _ _ =>
    some (violations ++ events ++ memoryErrors ++ [CTX.STATUS.STATE, CTX.FRAME.FRAME, CTX.OVR_CNT.CNT, Q.PROD.PROD, Q.CREDITS.CREDITS,
      Q.STATUS.NO_CREDIT, Q.LAST_POST, Q.POSTS.SEQ, Q.SLOTS.POST_SLOT, TWN.STATUS.PAIRED], [.direct])
  | .twinPartnerTimeout _ =>
    some (violations ++ events ++ memoryErrors ++ [TB.SPEED.SPEED, TB.ANGLE, TB.STAMP, TB.STATUS.STATE, SCH.TARGET, SCH.PRED, SCH.RESID.RESID,
      SCH.STATUS.STATE, AX.PWM_CTRL.EN, AX.FOC_CTRL.RUN, AX.SPD_DERATE.TQ, AX.CMT_STATUS.STATE, AX.SAF_STATUS.STATE, ENG.STATUS.HOSTS,
      CTX.STATUS.STATE, CTX.FRAME.FRAME, CTX.LAST_CODE.CODE, CTX.LAST_TRIG, CTX.LAST_DONE, CTX.CLK_LAST.CLK, CTX.CLK_MAX.CLK,
      CTX.Q_STATUS.CLIP_ALARM, CTX.Q_CLIP.CNT, CTX.Q_ELEM.CNT, CTX.Q_NAN.CNT, CTX.Q_DEV.CNT, CTX.Q_WORST.SHARE, CTX.Q_HIST.FILL_MIN,
      CTX.Q_CLIP_TOT, CTX.Q_ELEM_TOT, CTX.Q_NAN_TOT, CTX.DIG_STATUS.HAS_U, CTX.TRACE_CTRL.ARM, Q.PROD.PROD, Q.TAKE.TAKE, Q.RET.RET,
      Q.CREDITS.CREDITS, Q.STATUS.NO_CREDIT, Q.LAST_POST, Q.POSTS.SEQ, Q.SLOTS.POST_SLOT, BAB.IN_STATUS.STATE, BAB.IN_POS, TWN.STATUS.PAIRED,
      SAF.STATUS.STATE, SAF.GROUP_STATE.LOW, SAF.FAULT_LAST.CODE, SAF.FAULT_TIME], [.direct])
  | .twinCopyTimeout _ _ _ =>
    some (violations ++ events ++ memoryErrors ++ [TB.SPEED.SPEED, TB.ANGLE, TB.STAMP, TB.STATUS.STATE, SCH.TARGET, SCH.PRED, SCH.RESID.RESID,
      SCH.STATUS.STATE, AX.PWM_CTRL.EN, AX.FOC_CTRL.RUN, AX.SPD_DERATE.TQ, AX.CMT_STATUS.STATE, AX.SAF_STATUS.STATE, ENG.STATUS.HOSTS,
      CTX.STATUS.STATE, CTX.FRAME.FRAME, CTX.LAST_CODE.CODE, CTX.LAST_TRIG, CTX.LAST_DONE, CTX.CLK_LAST.CLK, CTX.CLK_MAX.CLK, CTX.OVR_CNT.CNT,
      CTX.Q_STATUS.CLIP_ALARM, CTX.Q_CLIP.CNT, CTX.Q_ELEM.CNT, CTX.Q_NAN.CNT, CTX.Q_DEV.CNT, CTX.Q_WORST.SHARE, CTX.Q_HIST.FILL_MIN,
      CTX.Q_CLIP_TOT, CTX.Q_ELEM_TOT, CTX.Q_NAN_TOT, CTX.DIG_STATUS.HAS_U, CTX.TRACE_CTRL.ARM, CTX.TWIN_MISM_TIME, Q.PROD.PROD, Q.TAKE.TAKE,
      Q.RET.RET, Q.CREDITS.CREDITS, Q.STATUS.NO_CREDIT, Q.LAST_POST, Q.POSTS.SEQ, Q.SLOTS.POST_SLOT, BAB.IN_STATUS.STATE, BAB.IN_POS,
      TWN.STATUS.PAIRED, SAF.STATUS.STATE, SAF.GROUP_STATE.LOW, SAF.FAULT_LAST.CODE, SAF.FAULT_TIME], [.direct])
  | .twinArmTimeout _ =>
    some (events ++ [CTX.STATUS.STATE], [])
  | .traceArm _ _ _ =>
    some (violations ++ events ++ [CTX.TRACE_CTRL.ARM], [])
  | .patrolScrub _ _ =>
    some (events ++ memoryErrors, [])
  | .atWindowWrite _ _ _ _ _ =>
    some (violations ++ events ++ [AT.WIN_BASE.BASE, AT.WIN_LIMIT.LIMIT, AT.WIN_ATTR.EN], [])
  | .atCtrlLock _ _ _ =>
    some (violations ++ events ++ [AT.CTRL.LOCK], [])
  | .chRetireWrite _ _ | .memRetire _ =>
    some (violations ++ events ++ [MEM.CH_RETIRE.RETIRE], [])
  | .fwLoad _ _ =>
    some (violations ++ events ++ [SUP.FW_STATUS.STATE], [])
  | .fwReady _ =>
    some (events ++ [SUP.FW_STATUS.STATE, SUP.FW_VER.VALUE, SUP.FW_BUILD.VALUE, SUP.BOOT_CNT.CNT, SUP.FW_TIME, MB.GLOBAL.READY], [])
  | .fwTimeout =>
    some (events ++ [SUP.FW_STATUS.STATE], [])
  | .mbRequestWrite _ _ _ _ =>
    some (violations ++ events ++ [MB.REQ.DATA, MB.STATUS.PENDING], [])
  | .mbDoorbell _ _ _ =>
    some (violations ++ events ++ [MB.STATUS.PENDING, MB.DB_TIME], [])
  | .mbTake | .hello _ =>
    some ([MB.STATUS.PENDING], [])
  | .mbReply _ =>
    some (violations ++ events ++ memoryErrors ++ [TB.SPEED.SPEED, TB.ANGLE, TB.STAMP, TB.STATUS.STATE, SCH.TARGET, SCH.PRED, SCH.RESID.RESID,
      SCH.STATUS.STATE, AX.PWM_CTRL.EN, AX.FOC_CTRL.RUN, AX.SPD_DERATE.TQ, AX.CMT_STATUS.STATE, AX.SAF_STATUS.STATE, ENG.STATUS.HOSTS,
      CTX.STATUS.STATE, CTX.FRAME.FRAME, CTX.LAST_CODE.CODE, CTX.LAST_TRIG, CTX.LAST_DONE, CTX.CLK_LAST.CLK, CTX.CLK_MAX.CLK,
      CTX.Q_STATUS.CLIP_ALARM, CTX.Q_CLIP.CNT, CTX.Q_ELEM.CNT, CTX.Q_NAN.CNT, CTX.Q_DEV.CNT, CTX.Q_WORST.SHARE, CTX.Q_HIST.FILL_MIN,
      CTX.Q_CLIP_TOT, CTX.Q_ELEM_TOT, CTX.Q_NAN_TOT, CTX.DIG_STATUS.HAS_U, CTX.TRACE_CTRL.ARM, CTX.TWIN_MISM_TIME, Q.PROD.PROD, Q.TAKE.TAKE,
      Q.RET.RET, Q.CREDITS.CREDITS, Q.STATUS.NO_CREDIT, Q.LAST_POST, Q.POSTS.SEQ, Q.SLOTS.POST_SLOT, BAB.IN_STATUS.STATE, BAB.IN_POS,
      TWN.STATUS.PAIRED, MB.GLOBAL.READY, MB.REP.DATA, MB.STATUS.PENDING, SAF.STATUS.STATE, SAF.GROUP_STATE.LOW, SAF.FAULT_LAST.CODE,
      SAF.FAULT_TIME, BIST.STATUS.STEP, SEC.ATT_STATUS.BUSY, PWR.STATE.STATE], [.direct])
  | .mbCommandTimeout _ =>
    some ([MB.GLOBAL.READY, MB.REP.DATA, MB.STATUS.PENDING], [])
  | .mbAck _ _ _ =>
    some (violations ++ events ++ [MB.GLOBAL.READY, MB.STATUS.PENDING], [])
  | .axisRelease _ | .axisWithhold _ =>
    some ([AX.SAF_STATUS.STATE], [])
  | .obsLoad _ =>
    some (violations ++ events ++ [OBS.LOAD_CMD.GO, OBS.LOAD_ADDR.ADDR, OBS.LOAD_STATUS.BUSY], [])
  | .powerTransitionDone _ _ _ _ _ =>
    some (events ++ [AX.SAF_STATUS.STATE, BUS.STATUS.CHOP_ON, TWN.STATUS.PAIRED, MB.GLOBAL.READY, MB.STATUS.PENDING, AGE.STATUS.MODE,
      AGE.VREQ.V_REQ, AGE.SMIN.SLACK, AGE.PFENCE.PFENCE, AGE.FAIL_CNT.FAIL_CNT, AGE.PFENCE_AX, AGE.DL_CORR.CORR, BIST.STATUS.STEP,
      BIST.RESULT.OUTCOME, REC.NV_HEAD.VALUE, SEC.ATT_STATUS.BUSY, PWR.STATE.STATE, LNK.STATUS.UP], [])
  | .safeInputChange _ _ _ =>
    some (violations ++ events ++ memoryErrors ++ [TB.SPEED.SPEED, TB.ANGLE, TB.STAMP, TB.STATUS.STATE, SCH.TARGET, SCH.PRED, SCH.RESID.RESID,
      SCH.STATUS.STATE, AX.PWM_CTRL.EN, AX.FOC_CTRL.RUN, AX.CMT_STATUS.STATE, AX.SAF_STATUS.STATE, BAB.IN_STATUS.STATE, BAB.IN_POS,
      SAF.SI_STATE.LOW, SAF.GROUP_STATE.LOW], [.direct])
  | .siDisc _ =>
    some (violations ++ events ++ memoryErrors ++ [TB.SPEED.SPEED, TB.ANGLE, TB.STAMP, TB.STATUS.STATE, SCH.TARGET, SCH.PRED, SCH.RESID.RESID,
      SCH.STATUS.STATE, AX.PWM_CTRL.EN, AX.FOC_CTRL.RUN, AX.SPD_DERATE.TQ, AX.CMT_STATUS.STATE, AX.SAF_STATUS.STATE, BAB.IN_STATUS.STATE,
      BAB.IN_POS, SAF.STATUS.STATE, SAF.SI_STATE.LOW, SAF.GROUP_STATE.LOW, SAF.FAULT_LAST.CODE, SAF.FAULT_TIME], [.direct])
  | .stoReqWrite _ _ =>
    some (violations ++ events ++ memoryErrors ++ [TB.SPEED.SPEED, TB.ANGLE, TB.STAMP, TB.STATUS.STATE, SCH.TARGET, SCH.PRED, SCH.RESID.RESID,
      SCH.STATUS.STATE, AX.PWM_CTRL.EN, AX.CMT_STATUS.STATE, AX.SAF_STATUS.STATE, BAB.IN_STATUS.STATE, BAB.IN_POS, SAF.STO_REQ.GROUPS,
      SAF.GROUP_STATE.LOW], [.direct])
  | .safAckGroups _ _ | .safAckFaults _ _ =>
    some (violations ++ events ++ [AX.SAF_STATUS.STATE, SAF.GROUP_STATE.LOW], [])
  | .stoReadbackMismatch _ _ | .clock _ =>
    some (violations ++ events ++ memoryErrors ++ [TB.SPEED.SPEED, TB.ANGLE, TB.STAMP, TB.STATUS.STATE, SCH.TARGET, SCH.PRED, SCH.RESID.RESID,
      SCH.STATUS.STATE, AX.PWM_CTRL.EN, AX.FOC_CTRL.RUN, AX.SPD_DERATE.TQ, AX.CMT_STATUS.STATE, AX.SAF_STATUS.STATE, BAB.IN_STATUS.STATE,
      BAB.IN_POS, SAF.STATUS.STATE, SAF.GROUP_STATE.LOW, SAF.FAULT_LAST.CODE, SAF.FAULT_TIME], [.direct])
  | .safetyWindow _ =>
    some (violations ++ events ++ memoryErrors ++ [TB.SPEED.SPEED, TB.ANGLE, TB.STAMP, TB.STATUS.STATE, SCH.TARGET, SCH.PRED, SCH.RESID.RESID,
      SCH.STATUS.STATE, AX.PWM_CTRL.EN, AX.PWM_DUTY.D, AX.PWM_STATUS.COMMIT_PEND, AX.ADC_HEALTH.FAIL, AX.FOC_CTRL.RUN, AX.FOC_IQ_REF.VALUE,
      AX.FOC_VD_MAN.VALUE, AX.FOC_VQ_MAN.VALUE, AX.FOC_STATUS.SECTOR, AX.FOC_VBUS.VBUS, AX.SPD_REF.REF, AX.SPD_STATUS.AT_TARGET,
      AX.SPD_DERATE.TQ, AX.CMT_STATUS.STATE, AX.CMT_CNT.QUALIFIED, AX.CMT_FAIL_CNT.NONE, AX.CMT_CORR.VALUE, AX.CMT_SCORR.VALUE, AX.BUS_ABS.DIQ,
      AX.BUS_STATUS.CFG_REFUSED, AX.OBS_STATUS.MODE, AX.OBS_CNT.EVAL_CNT, AX.OBS_LAST_MISM, AX.OBS_EST_THETA.THETA, AX.OBS_EST_OMEGA.OMEGA,
      AX.OBS_EST_T.T_W, AX.OBS_EST_LOAD.LOAD, AX.OBS_EST_STAMP, AX.OBS_EST_SRC.SRC, AX.SAF_STATUS.STATE, AX.SAF_SPEED.SPEED, BUS.STATUS.CHOP_ON,
      BUS.CHOP_FAULT_TIME, OBS.LANES.USABLE, OBS.PLAN.SUM, OBS.PPLAN.SUM, OBS.STATUS.DEMOTE, BAB.IN_STATUS.STATE, BAB.IN_POS, SAF.STATUS.STATE,
      SAF.GROUP_STATE.LOW, SAF.FAULT_LAST.CODE, SAF.FAULT_TIME, SAF.TEST_STATUS.ABORT_CNT], [.direct])
  | .ss1Timeout _ | .safety _ _ =>
    some (violations ++ events ++ memoryErrors ++ [TB.SPEED.SPEED, TB.ANGLE, TB.STAMP, TB.STATUS.STATE, SCH.TARGET, SCH.PRED, SCH.RESID.RESID,
      SCH.STATUS.STATE, AX.PWM_CTRL.EN, AX.CMT_STATUS.STATE, AX.SAF_STATUS.STATE, BAB.IN_STATUS.STATE, BAB.IN_POS, SAF.GROUP_STATE.LOW],
      [.direct])
  | .testSliceStart | .testRestoreDone _ =>
    some ([OBS.LANES.USABLE, INF.ENG_STATUS.USABLE, ENG.STATUS.HOSTS], [])
  | .testSliceComplete _ _ | .testDeadline _ =>
    some (violations ++ events ++ memoryErrors ++ [TB.SPEED.SPEED, TB.ANGLE, TB.STAMP, TB.STATUS.STATE, SCH.TARGET, SCH.PRED, SCH.RESID.RESID,
      SCH.STATUS.STATE, AX.PWM_CTRL.EN, AX.PWM_DUTY.D, AX.PWM_STATUS.COMMIT_PEND, AX.FOC_CTRL.RUN, AX.FOC_IQ_REF.VALUE, AX.FOC_VD_MAN.VALUE,
      AX.FOC_VQ_MAN.VALUE, AX.FOC_STATUS.SECTOR, AX.FOC_VBUS.VBUS, AX.SPD_REF.REF, AX.SPD_STATUS.AT_TARGET, AX.SPD_DERATE.TQ,
      AX.CMT_STATUS.STATE, AX.CMT_CNT.QUALIFIED, AX.CMT_FAIL_CNT.NONE, AX.CMT_CORR.VALUE, AX.CMT_SCORR.VALUE, AX.BUS_ABS.DIQ,
      AX.BUS_STATUS.CFG_REFUSED, AX.OBS_STATUS.MODE, AX.OBS_CNT.EVAL_CNT, AX.OBS_LAST_MISM, AX.OBS_EST_THETA.THETA, AX.OBS_EST_OMEGA.OMEGA,
      AX.OBS_EST_T.T_W, AX.OBS_EST_LOAD.LOAD, AX.OBS_EST_STAMP, AX.OBS_EST_SRC.SRC, AX.SAF_STATUS.STATE, OBS.LANES.USABLE, OBS.PLAN.SUM,
      OBS.PPLAN.SUM, OBS.STATUS.DEMOTE, INF.ENG_MAP.MAP, INF.ENG_STATUS.USABLE, INF.STATUS.UNAVAIL, ENG.STATUS.HOSTS, CTX.STATUS.STATE,
      BAB.IN_STATUS.STATE, BAB.IN_POS, SAF.STATUS.STATE, SAF.GROUP_STATE.LOW, SAF.FAULT_LAST.CODE, SAF.FAULT_TIME, AGE.FAIL_CNT.FAIL_CNT],
      [.direct])
  | .safCfgWrite _ _ =>
    some (violations ++ events ++ [SAF.STATUS.STATE, SAF.CFG.FTTI], [])
  | .safLock _ _ =>
    some (violations ++ events ++ [SAF.CTRL.LOCK, SAF.STATUS.STATE, SAF.CFG_CRC_CALC.VALUE], [])
  | .safEnterRun =>
    some ([SAF.STATUS.STATE], [])
  | .delayMonitorMeasure _ =>
    some (events ++ [AGE.STATUS.MODE, AGE.SMIN.SLACK, AGE.MON.SLACK], [])
  | .replan _ _ _ =>
    some (events ++ [AGE.STATUS.MODE, AGE.VREQ.V_REQ, AGE.SMIN.SLACK, AGE.DL_CORR.CORR], [])
  | .ageReplan _ _ _ _ _ =>
    some (violations ++ events ++ [AGE.STATUS.MODE, AGE.VREQ.V_REQ, AGE.SMIN.SLACK, AGE.DL_CORR.CORR], [])
  | .svcCmd _ _ =>
    some (violations ++ events ++ [MEM.CH_RETIRE.RETIRE, AGE.STATUS.MODE, AGE.PFENCE.PFENCE, AGE.PFENCE_AX], [])
  | .recorderTake =>
    some ([REC.HEAD.VALUE, REC.QUEUE.VALUE], [])
  | .mirrorWrite _ =>
    some ([REC.STATUS.NV_VALID, REC.NV_HEAD.VALUE], [])
  | .recFlush _ _ _ =>
    some (violations ++ events ++ [REC.STATUS.NV_VALID, REC.NV_HEAD.VALUE], [])
  | .nvIdxWrite _ _ =>
    some (violations ++ events ++ [REC.STATUS.NV_VALID, REC.NV_IDX.SEQ], [])
  | .nvReadDone _ =>
    some ([REC.STATUS.NV_VALID, REC.NV_DATA.DATA], [])
  | .hoursUpdate =>
    some ([REC.HOURS.VALUE], [])
  | .bootRom _ _ =>
    some (events ++ [SEC.BOOT_STATUS.SLOT, SEC.LDR_KEY.KEY_ID, SEC.LDR_DIGEST.DIGEST, SEC.DEV_ID.ID, SEC.ID_PUB.KEY, PWR.STATE.STATE,
      PWR.START_STATUS.SELF_OK], [])
  | .keyProg _ _ | .revoke _ _ | .lcCmd _ _ =>
    some (violations ++ events ++ [SEC.FUSE_STATUS.BUSY], [])
  | .fuseDone =>
    some ([SEC.LC.STATE, SEC.KEY_STATUS.VALID, SEC.FUSE_STATUS.BUSY, SEC.DEV_ID.ID, SEC.ID_PUB.KEY], [])
  | .dbgChallenge _ _ | .dbgVerify _ _ =>
    some (violations ++ events ++ [SEC.DBG_CMD.CHAL, SEC.DBG_CHAL.CHAL], [])
  | .attGo _ _ =>
    some (violations ++ events ++ [SEC.ATT_STATUS.BUSY], [])
  | .attDone =>
    some (violations ++ events ++ memoryErrors ++ [SEC.ATT_STATUS.BUSY], [.direct])
  | .porEnd _ _ _ _ =>
    some (violations ++ events ++ memoryErrors ++ [TB.SPEED.SPEED, TB.ANGLE, TB.STAMP, TB.STATUS.STATE, SCH.TARGET, SCH.PRED, SCH.RESID.RESID,
      SCH.STATUS.STATE, AX.PWM_CTRL.EN, AX.CMT_STATUS.STATE, AX.OBS_STATUS.MODE, AX.SAF_STATUS.STATE, OBS.LANES.USABLE, OBS.PLAN.SUM,
      OBS.PPLAN.SUM, OBS.STATUS.DEMOTE, INF.ENG_MAP.MAP, INF.ENG_STATUS.USABLE, INF.STATUS.UNAVAIL, ENG.STATUS.HOSTS, CTX.STATUS.STATE,
      BAB.IN_STATUS.STATE, BAB.IN_POS, MEM.STATUS.USABLE, MEM.TOP, SAF.STO_REQ.GROUPS, SAF.SI_STATE.LOW, SAF.GROUP_STATE.LOW,
      AGE.SVC_POLICY.AGEING, AGE.STATUS.MODE, AGE.VREQ.V_REQ, AGE.PFENCE.PFENCE, AGE.FAIL_CNT.FAIL_CNT, AGE.PFENCE_AX, BIST.STATUS.STEP,
      REC.STATUS.NV_VALID, REC.HEAD.VALUE, REC.NV_HEAD.VALUE, REC.HOURS.VALUE, REC.PCYCLE.VALUE, SEC.DEV_ID.ID, SEC.ID_PUB.KEY,
      PWR.RST_CAUSE.CAUSE, PWR.START_STATUS.SELF_OK, PWR.STRAPS.PWMSAFE_H], [.direct])
  | .ringGo _ _ =>
    some (violations ++ events ++ [PWR.RING_CTRL.GO, PWR.GO_TIME], [])
  | .twnCfgEnable _ _ =>
    some (violations ++ events ++ [TWN.CFG.EN], [])
  | .linkTrained _ _ _ _ _ =>
    some (events ++ [TWN.CFG.EN, TWN.STATUS.PAIRED, PWR.START_STATUS.SELF_OK, PWR.RING_STATUS.RING_ID, LNK.STATUS.UP], [])
  | .enumeration _ _ _ | .enumTimeout _ _ _ | .enum _ _ _ _ =>
    some ([DT.CTRL.LOCK, DT.STATUS.ALIGNED, DT.OFFSET.OFFSET, TWN.CFG.EN, PWR.START_STATUS.SELF_OK, PWR.RING_STATUS.RING_ID], [])
  | .enumWaitExpiry =>
    some ([PWR.RING_STATUS.RING_ID], [])
  | .ringJoin _ _ _ _ _ _ =>
    some (events ++ [DT.CTRL.LOCK, DT.STATUS.ALIGNED, DT.OFFSET.OFFSET, TB.STAMP, MF.VIB_STATUS.SETTLING, BAB.IN_STATUS.STATE, TWN.CFG.EN,
      PWR.START_STATUS.SELF_OK, PWR.RING_STATUS.RING_ID], [])
  | .linkLost _ _ =>
    some (violations ++ events ++ memoryErrors ++ [DT.CTRL.LOCK, DT.STATUS.ALIGNED, DT.OFFSET.OFFSET, TB.SPEED.SPEED, TB.ANGLE, TB.STAMP,
      TB.STATUS.STATE, SCH.TARGET, SCH.PRED, SCH.RESID.RESID, SCH.STATUS.STATE, AX.PWM_CTRL.EN, AX.FOC_CTRL.RUN, AX.SPD_DERATE.TQ,
      AX.CMT_STATUS.STATE, AX.SAF_STATUS.STATE, ENG.STATUS.HOSTS, CTX.STATUS.STATE, CTX.FRAME.FRAME, CTX.LAST_CODE.CODE, CTX.LAST_TRIG,
      CTX.LAST_DONE, CTX.CLK_LAST.CLK, CTX.CLK_MAX.CLK, CTX.Q_STATUS.CLIP_ALARM, CTX.Q_CLIP.CNT, CTX.Q_ELEM.CNT, CTX.Q_NAN.CNT, CTX.Q_DEV.CNT,
      CTX.Q_WORST.SHARE, CTX.Q_HIST.FILL_MIN, CTX.Q_CLIP_TOT, CTX.Q_ELEM_TOT, CTX.Q_NAN_TOT, CTX.DIG_STATUS.HAS_U, CTX.TRACE_CTRL.ARM,
      Q.PROD.PROD, Q.TAKE.TAKE, Q.RET.RET, Q.CREDITS.CREDITS, Q.STATUS.NO_CREDIT, Q.LAST_POST, Q.POSTS.SEQ, Q.SLOTS.POST_SLOT,
      BAB.IN_STATUS.STATE, BAB.IN_POS, TWN.STATUS.PAIRED, SAF.STATUS.STATE, SAF.STO_REQ.GROUPS, SAF.GROUP_STATE.LOW, SAF.FAULT_LAST.CODE,
      SAF.FAULT_TIME, PWR.RING_STATUS.RING_ID, LNK.STATUS.UP, LNK.DOWN_TIME], [.direct])
  | .read _ _ _ _ =>
    some (violations ++ events ++ memoryErrors ++ [LNK.CRC_CNT.CNT], [])
  | .linkPost _ _ _ =>
    some (violations ++ events ++ memoryErrors ++ [Q.PROD.PROD, Q.CREDITS.CREDITS, Q.STATUS.NO_CREDIT, Q.LAST_POST, Q.POSTS.SEQ,
      Q.SLOTS.POST_SLOT, LNK.CRC_CNT.CNT], [])
  | .linkNak _ _ | .linkAckTimeout _ _ =>
    some ([TWN.STATUS.PAIRED, LNK.STATUS.UP, LNK.RETRY_CNT.CNT, LNK.RETRAIN_CNT.CNT], [])
  | .retrain _ _ _ =>
    some (violations ++ events ++ [TWN.STATUS.PAIRED, LNK.STATUS.UP, LNK.RETRAIN_CNT.CNT], [])
  | .ethTransmit _ _ =>
    some (violations ++ events ++ memoryErrors ++ [Q.TAKE.TAKE, Q.RET.RET, Q.CREDITS.CREDITS, Q.SLOTS.POST_SLOT], [])
  | .ethTxDone _ =>
    some (events ++ memoryErrors ++ [Q.PROD.PROD, Q.RET.RET, Q.CREDITS.CREDITS, Q.STATUS.NO_CREDIT, Q.LAST_POST, Q.POSTS.SEQ, Q.SLOTS.POST_SLOT],
      [])
  | .dmaTransferDone _ | .ethReceive _ _ _ _ =>
    some (violations ++ events ++ memoryErrors ++ [Q.PROD.PROD, Q.TAKE.TAKE, Q.RET.RET, Q.CREDITS.CREDITS, Q.STATUS.NO_CREDIT, Q.LAST_POST,
      Q.POSTS.SEQ, Q.SLOTS.POST_SLOT], [.direct])
  | .pmbusPoll _ _ =>
    some ([PMB.READ.VOUT], [])
  | .pmbusAlert _ =>
    some (events ++ [PMB.STATUS.STATUS_WORD], [])
  | .thermalSample _ _ =>
    some (violations ++ events ++ memoryErrors ++ [TB.SPEED.SPEED, TB.ANGLE, TB.STAMP, TB.STATUS.STATE, SCH.TARGET, SCH.PRED, SCH.RESID.RESID,
      SCH.STATUS.STATE, AX.PWM_CTRL.EN, AX.CMT_STATUS.STATE, AX.SAF_STATUS.STATE, BAB.IN_STATUS.STATE, BAB.IN_POS, SAF.STO_REQ.GROUPS,
      SAF.GROUP_STATE.LOW, THM.STATUS.THROTTLE, THM.TJ_MAX.TJ, THM.TJ_PEAK.TJ], [.direct])
  | .throttleStep =>
    some ([THM.STATUS.THROTTLE], [])
  | .gptpOfsUpdate _ =>
    some ([DT.RATE.RATE, DT.STATUS.ALIGNED, DT.GPTP_OFS], [])
  | .fwVerifyDone =>
    some (violations ++ events ++ memoryErrors ++ [SUP.FW_STATUS.STATE], [])
  | .dbgVerifyDone =>
    some (violations ++ events ++ memoryErrors ++ [SEC.LC.STATE, SEC.DBG_CMD.CHAL], [])
  | .laneLockLoss _ =>
    some ([TWN.STATUS.PAIRED, LNK.STATUS.UP], [])
  | .packetDiscarded _ =>
    some ([LNK.CRC_CNT.CNT], [])
  | .tripAssertionBlanked _ =>
    some ([AX.TRIP_STATUS.LATCH], [])
  | _ => none
/-- The commands that may change DEVICE TIME: steps and measurements of the time, writes that may reach DT.STEP, and POR (R28 to R32). -/
def changesTime : Instr → Bool
  | .registerWrite _ _ _ | .writeHi _ _ _ | .dtStep _ _ | .time _ _ _ _ _ _ _ _ | .memoryAccess _ _ _ _ _ _ | .swWrite _ | .porAssert _
  | .ringJoin _ _ _ _ _ _ | .write _ _ _ | .pcieInbound _ _ _ _ _ _ => true
  | _ => false
/-- The commands that may change memory: stores of masters, threads, queues, frames and links, what ends or starts frames, Babbitt's rings, which every
update of a timebase may fill, the recorder's ring, and resets that lose it. -/
def changesMemory : Instr → Bool
  | .registerWrite _ _ _ | .writeHi _ _ _ | .tbSoftwareUpdate _ _ _ | .tachPulse _ _ | .ssiFrame _ _ _ _ _ _ | .lsyncEdge _
  | .tbSourceSilent _ | .tbHoldExpiry _ | .tbRestart _ _ _ _ | .slotFire _ | .pwmPeriodBoundary _ | .pxbSwitchComplete _ | .loopStep _ _ _ _
  | .dcbSampleDelivered _ _ _ | .chopStuck _ | .vibSample _ _ _ | .calComplete _ _ | .crossingQualified _ _ _ _ | .lwClose _ _
  | .obsJobComplete _ | .pewterCheckComplete _ | .obsLate _ | .obsLaneFence _ _ | .engCtrlReset _ _ _ | .ctxLoad _ _ | .ctxArm _ _ _
  | .ctxDisarm _ _ | .ctxAbort _ _ | .ctxUnload _ _ | .ctxSnap _ _ | .ctxRestore _ _ | .ctxStart _ _ | .ctxCmdComplete _ _ | .qPost _ _ _
  | .qTake _ _ _ | .qRetire _ _ _ | .frameEnd _ | .frameTimeout _ | .matmul _ _ | .matmulBias _ _ | .conv1d _ _ _ _ _ | .conv2d _ _ _ _ _
  | .dwconv _ _ _ _ _ | .outlierMm _ _ | .hadamard _ _ | .add _ _ | .sub _ _ | .mul _ _ | .max _ _ | .min _ _ | .abs _ _ | .scale _ _ _
  | .clamp _ _ _ | .cmp _ _ _ | .select _ _ | .relu _ _ | .leaky _ _ | .tanh _ _ | .sigmoid _ _ | .gelu _ _ | .exp _ _ | .log _ _
  | .rsqrt _ _ | .recip _ _ | .softmax _ _ _ | .layernorm _ _ _ | .rmsnorm _ _ _ | .reduceSum _ _ _ | .reduceSumU _ _ _ _ | .reduceMax _ _ _
  | .reduceMin _ _ _ | .argmax _ _ _ | .argmin _ _ _ | .cast _ _ | .quant _ _ | .dequant _ _ | .qstat _ _ | .copy _ _ | .transpose _ _ _
  | .slice _ _ _ _ | .concat _ _ _ | .pad _ _ _ _ | .gather _ _ _ | .scatter _ _ _ | .scatterAdd _ _ _ | .scatterAddU _ _ _ _
  | .dma _ _ _ _ _ _ _ | .stateLoad _ _ | .stateStore _ _ | .post _ _ | .babClosePosted | .linkCopy _ _ _ _ _ _ _ | .compare _ _ _ _ _
  | .twinPartnerTimeout _ | .twinCopyTimeout _ _ _ | .memoryAccess _ _ _ _ _ _ | .supLockstep | .mbReply _ | .laneFence _ | .ctxCmd _
  | .engReset _ | .swWrite _ | .powerTransitionDone _ _ _ _ _ | .safeInputChange _ _ _ | .siDisc _ | .stoReqWrite _ _ | .clock _
  | .safetyWindow _ | .ss1Timeout _ | .testSliceComplete _ _ | .testDeadline _ | .safety _ _ | .recorderTake | .bootRom _ _ | .attDone
  | .porAssert _ | .porEnd _ _ _ _ | .systemReset _ _ _ _ | .debugReset _ _ _ | .axisReset _ _ _ | .linkLost _ _ | .write _ _ _
  | .linkPost _ _ _ | .ethTxDone _ | .ethReceive _ _ _ _ | .pcieInbound _ _ _ _ _ _ | .wake _ | .wakeTimer _ | .thermalSample _ _
  | .dmaTransferDone _ | .stoReadbackMismatch _ _ => true
  | _ => false
/-- An event with this code, source and stamp waits in the recorder's input queue (R357, R359). -/
abbrev Noted (t : State) (code source stamp : Nat) : Prop := ∃ e ∈ t.recd.queue, e.code = code ∧ e.source = source ∧ e.stamp = stamp
/-- The recorder's input queue has room for another event (R359). -/
abbrev Room (s : State) : Prop := s.recd.queue.length < 256
/-- The command that mailbox `b` has taken but not begun has this opcode and payload (R299). -/
abbrev Taken (s : State) (b op : Nat) (p : List Nat) : Prop := (s.mb b).map (fun y => (y.op, y.payload, y.begun)) = some (op, p, false)
/-- The command of mailbox `b` has begun, and its reply's STATUS, DETAIL and payload are `r`; none while its unit is at work (R298). -/
abbrev Came (t : State) (b : Nat) (r : Option MbRes) : Prop := (t.mb b).map (fun y => (y.begun, y.result)) = some (true, r)

end Sys2Proof.Safety
end

