-- ==== Sys2Proof/Certificates/Slice0/Obligations.lean ====
section
/-!
DEFINITION. The statements about the model: one definition per obligation, listed in OBLIGATIONS.json. A statement that a command completes says so
with Completes: exec answers a next state, which has the property.
-/
set_option linter.all false
open Sys2Proof Sys2Proof.Machine Sys2Proof.Safety

/-- A step of a state whose queue begins with a command is that command's effect on the state with the rest of the queue. -/
def Obligations.StepRunsFrontCommand : Prop :=
  ∀ (s : State) (c : Instr) (l : List Instr), s.pending = c :: l → step s = exec c { s with pending := l }

/-- R29: POR sets DEVICE TIME to 0; it counts once POR has ended; every other reset keeps it, in every power state. That a step with no command
waiting is one clock of DEVICE TIME is the model's choice (assumption 1). -/
def Obligations.DeviceTimeAcrossResets : Prop :=
  (∀ (s : State) (b : Option RailLow), (∀ x, b = some x → railTrips x = true) → s.pwr.por = false → Completes (.porAssert b) s fun t => t.dtime = 0 ∧ t.pwr.por = true) ∧
  (∀ (s : State) (h l p : Bool) (ch : StartFindings), s.pwr.por = true → Completes (.porEnd h l p ch) s fun t => t.dtime = s.dtime ∧ t.pwr.por = false) ∧
  (∀ (s : State) (c : Instr), ((∃ pin m v ch, c = .systemReset pin m v ch) ∨ (∃ m v, c = .supReset m v) ∨ c = .supWatchdog ∨ (∃ m b v, c = .axisReset m b v) ∨
      (∃ m v b, c = .debugReset m v b) ∨ (∃ m e v, c = .engCtrlReset m e v)) → Completes c s fun t => t.dtime = s.dtime) ∧
  (∀ s : State, s.pending = [] → s.posted = [] → ∃ t, step s = .next t ∧ t.pending = [] ∧
      t.dtime = if s.pwr.por then s.dtime else (s.dtime + 1) % 2 ^ 64)

/-- R29, R290, R321 and the register maps: DEVICE TIME 0, the default access tables, no queue, and registers at their reset values. -/
def Obligations.ResetValues : Prop :=
  State.reset.pending = [] ∧ State.reset.mem = [] ∧ State.reset.dtime = 0 ∧ State.reset.recd.queue = [] ∧ State.reset.regs = [] ∧
    State.reset.rd SAF.CFG.FTTI = 10 ∧ State.reset.rd SAF.CFG.CYCLE = 50 ∧ State.reset.rd AX.PWM_CTRL.EN 47 = 0 ∧
    State.reset.rd AX.SAF_CFG.SPD_TOL 47 = 0x400 ∧ State.reset.rd PWR.STATE.STATE = 0 ∧ State.reset.flag DT.CTRL.LOCK = false ∧
    (∀ m : Fin 8, State.reset.permits 0 m 0 4 4 = true) ∧ (∀ m : Fin 64, 0x18 < m.val → m.val < 0x20 → State.reset.permits 0 m 0 4 2 = false)

/-- The canonical form of memory (rising addresses, no entry equal to what an unlisted address reads as; the model's own form) holds at reset. -/
def Obligations.MemoryCanonicalAtReset : Prop :=
  Memory.wf State.reset.mem = true

/-- The model's own form: whatever command is at the front, a step from a state whose memory has the canonical form answers a state whose memory has
it. -/
def Obligations.MemoryStaysCanonical : Prop :=
  ∀ s t : State, Memory.wf s.mem = true → step s = .next t → Memory.wf t.mem = true

/-- No command stops the block: every command of the table, with any operands in any state, answers a next state, and the commands that wait stay as
they are. Where the spec leaves a reading open it states the model's, of log entry 2. -/
def Obligations.EveryCommandCompletes : Prop :=
  ∀ (c : Instr) (s : State), ∃ t, exec c s = .next t ∧ t.pending = s.pending

/-- R28 to R32, R284: every command but a step or a measurement of time, a write that may reach DT.STEP, and POR leaves DEVICE TIME as it is; every
command but the stores of masters, threads, queues, frames and links, the recorder's ring and the resets that lose memory leaves every byte of
memory as it is. Where the spec leaves a reading open it states the model's, of log entries 1 and 2. -/
def Obligations.TimeAndMemoryKept : Prop :=
  ∀ (c : Instr) (s t : State), exec c s = .next t →
    (changesTime c = false → t.dtime = s.dtime) ∧ (changesMemory c = false → ∀ a, t.byte a = s.byte a)

/-- The frame of 277 commands: every register but those the command's own effect, its violations and its events write (registersOf) reads as before.
Where the spec leaves a reading open it states the model's, of log entry 2. -/
def Obligations.RegistersKept : Prop :=
  ∀ (c : Instr) (s t : State) (r : List RF × List RegSet), registersOf c = some r → exec c s = .next t → OnlyFields s t r.1 r.2

/-- R9, R288, R292: a register write that fails a check answers an error response, is counted and logged at the nearest target and noted in the
recorder; nothing else of the state changes. Of the violations of one clock at one target the log keeps the lowest master's as its first and the
highest master's as its latest. Where the spec leaves a reading open it states the model's, of log entries 8, 10 and 11. -/
def Obligations.RefusedWriteIsLogged : Prop :=
(∀ (s : State) (m : Fin 64) (a : Nat) (v : Word) (ty : Nat),
    let k : Nat := nearestTarget a;
    s.checkAccess m a 4 true (swOf a v.toNat) = some ty → Completes (.registerWrite m a v) s fun t => t.resp.err = true ∧ OnlyFields s t (violations
    ++ events) ∧ { t with regs := s.regs, recd := s.recd, resp := s.resp, justSet := s.justSet, vios := s.vios } = s ∧ t.flag
    AT.VIO_STATUS.FIRST_VALID k = true ∧ t.rd AT.VIO_STATUS.VIO_CNT k = min (s.rd AT.VIO_STATUS.VIO_CNT k + 1) 65535 ∧ (Room s → Noted t 0x0803
    (srcTarget k) s.dtime)) ∧
(∀ (s : State) (m : Fin 64) (a : Nat) (v : Word) (ty : Nat),
    let k : Nat := nearestTarget a;
    s.checkAccess m a 4 true (swOf a v.toNat) = some ty → (s.vioNow k).hi ≤ m → Completes (.registerWrite m a v) s fun t => t.rd AT.VIO_LATEST_ADDR
    k = a % 2 ^ 64 ∧ t.rd AT.VIO_LATEST_TIME k = s.dtime % 2 ^ 64) ∧
(∀ (s : State) (m : Fin 64) (a : Nat) (v : Word) (ty : Nat),
    let k : Nat := nearestTarget a;
    s.checkAccess m a 4 true (swOf a v.toNat) = some ty → m < (s.vioNow k).hi → Completes (.registerWrite m a v) s fun t => t.rd AT.VIO_LATEST_ADDR
    k = s.rd AT.VIO_LATEST_ADDR k ∧ t.rd AT.VIO_LATEST_TIME k = s.rd AT.VIO_LATEST_TIME k) ∧
(∀ (s : State) (m : Fin 64) (a : Nat) (v : Word) (ty : Nat),
    let k : Nat := nearestTarget a;
    s.checkAccess m a 4 true (swOf a v.toNat) = some ty → (s.flag AT.VIO_STATUS.FIRST_VALID k = false ∨ ∃ x, (s.vioNow k).first = some x ∧ m < x) →
    Completes (.registerWrite m a v) s fun t => t.rd AT.VIO_FIRST_ADDR k = a % 2 ^ 64 ∧ t.rd AT.VIO_FIRST_INFO.MASTER k = m ∧ t.rd
    AT.VIO_FIRST_INFO.TYPE k = ty ∧ t.rd AT.VIO_FIRST_TIME k = s.dtime % 2 ^ 64) ∧
(∀ (s : State) (m : Fin 64) (a : Nat) (v : Word) (ty : Nat),
    let k : Nat := nearestTarget a;
    s.checkAccess m a 4 true (swOf a v.toNat) = some ty → s.flag AT.VIO_STATUS.FIRST_VALID k = true → (s.vioNow k).first = none → Completes
    (.registerWrite m a v) s fun t => t.rd AT.VIO_FIRST_ADDR k = s.rd AT.VIO_FIRST_ADDR k ∧ t.rd AT.VIO_FIRST_INFO.MASTER k = s.rd
    AT.VIO_FIRST_INFO.MASTER k ∧ t.rd AT.VIO_FIRST_INFO.TYPE k = s.rd AT.VIO_FIRST_INFO.TYPE k ∧ t.rd AT.VIO_FIRST_TIME k = s.rd AT.VIO_FIRST_TIME
    k)

/-- A command that is a write of one register is the register write of that address. Where the spec leaves a reading open it states the model's, of
log entry 3. -/
def Obligations.RegisterRowsAgree : Prop :=
  ∀ p ∈ (
  [(.dtRateWrite, DT.RATE.RATE.base), (.dtStep, DT.STEP.base + 4), (.nvIdxWrite, REC.NV_IDX.SEQ.base), (.ringGo, PWR.RING_CTRL.GO.base),
   (.twnCfgEnable, TWN.CFG.EN.base), (.obsLaneFence, OBS.LANE_FENCE.FENCE.base), (.infEngFence, INF.ENG_FENCE.FENCE.base),
   (.fwLoad, SUP.FW_CMD.LOAD.base), (.supReset, SUP.CTRL.SUP_RESET.base), (.keyProg, SEC.KEY_PROG.SLOT.base), (.revoke, SEC.REVOKE.MASK.base),
   (.lcCmd, SEC.LC_CMD.NEXT.base), (.attGo, SEC.ATT_CMD.GO.base), (.stoReqWrite, SAF.STO_REQ.GROUPS.base), (.safCfgWrite, SAF.CFG.FTTI.base),
   (.svcCmd, AGE.SVC_CMD.CH.base), (.utilSnap, INF.UTIL_CTRL.SNAP.base), (.chRetireWrite, MEM.CH_RETIRE.RETIRE.base)] : List ((Fin 64 → Word → Instr) × Nat)),
    ∀ (m : Fin 64) (v : Word) (s : State), exec (p.1 m v) s = exec (.registerWrite m p.2 v) s

/-- R11: a permitted write of any plain register that is not locked completes without error; each of its writable fields takes the value written, or
keeps its own where that is a reserved encoding, whatever the other fields of the write hold. Which encodings are reserved is what the register
table says; where the spec gives a field a range and does not call the rest reserved, that is the model's reading (log entry 9). -/
def Obligations.ReservedEncodingsKeepTheField : Prop :=
  ∀ (s : State) (m : Fin 64) (a : Nat) (v : Word) (r : RegSpec) (i j : Nat), MayWrite s m a (swOf a v.toNat) → Plain m a v.toNat →
    findReg a = some (r, i, j) → r.kind = .w32 → s.locked r i = false →
    Completes (.registerWrite m a v) s fun t => t.resp.err = false ∧
      ∀ f ∈ r.fields, f.acc = .rw ∨ f.acc = .rwl →
        bits (t.reg a).toNat f.hi f.lo =
          if f.reserved (bits v.toNat f.hi f.lo) then bits (s.reg a).toNat f.hi f.lo else bits v.toNat f.hi f.lo

/-- R321: FTTI is 10 ms at reset; a permitted write with FTTI from 2 to 10 takes effect if CYCLE is 5 to 50 and at most FTTI / 4, and otherwise
leaves SAF.CFG unchanged and sets CFG_REFUSED. -/
def Obligations.SafetyTimesAreChecked : Prop :=
(∀ (s : State) (m : Fin 64) (v : Word), MayWrite s m SAF.CFG.FTTI.base true → s.flag SAF.CTRL.LOCK = false → (2 ≤ bits v.toNat 3 0 ∧ bits v.toNat 3
    0 ≤ 10) → (5 ≤ bits v.toNat 11 4 ∧ bits v.toNat 11 4 ≤ 50 ∧ bits v.toNat 11 4 * 50 * 4 ≤ bits v.toNat 3 0 * 1000) → Completes (.safCfgWrite m v)
    s fun t => t.rd SAF.CFG.FTTI = bits v.toNat 3 0 ∧ t.rd SAF.CFG.CYCLE = bits v.toNat 11 4 ∧ OnlyRegs s t [SAF.CFG.FTTI.base] ∧ State.reset.rd
    SAF.CFG.FTTI = 10) ∧
(∀ (s : State) (m : Fin 64) (v : Word), MayWrite s m SAF.CFG.FTTI.base true → (2 ≤ bits v.toNat 3 0 ∧ bits v.toNat 3 0 ≤ 10) → (¬(5 ≤ bits v.toNat
    11 4 ∧ bits v.toNat 11 4 ≤ 50 ∧ bits v.toNat 11 4 * 50 * 4 ≤ bits v.toNat 3 0 * 1000)) → Completes (.safCfgWrite m v) s fun t => t.reg
    SAF.CFG.FTTI.base = s.reg SAF.CFG.FTTI.base ∧ t.flag SAF.STATUS.CFG_REFUSED = true)

/-- R358: an event taken from the queue that repeats a record whose REPEAT is 65,535 opens a record with CONT set, REPEAT 0 and the event's own
stamp; the full record keeps its REPEAT and is a candidate no more. -/
def Obligations.FullRecordOpensAnother : Prop :=
∀ (s : State) (e : RecEvent) (l : List RecEvent) (q : Nat), s.recd.queue = e :: l → s.recd.lastTake = none → s.findCand e = some q → (s.getRecord
    q).rep = 65535 → q % 8192 ≠ s.recd.nextSeq % 8192 → q ≠ s.recd.nextSeq → Completes (.recorderTake) s fun t => (t.getRecord s.recd.nextSeq).cont
    = true ∧ (t.getRecord s.recd.nextSeq).rep = 0 ∧ (t.getRecord s.recd.nextSeq).dt = e.stamp ∧ t.recd.nextSeq = s.recd.nextSeq + 1 ∧ t.getRecord q
    = s.getRecord q ∧ q ∉ t.recd.cands

/-- R326: a unit in service whose last completed test, or the entry into RUN, lies more than FTTI - 500 us back raises TEST_DEADLINE and is then
treated as failed: fenced, out of test, with the fault UNIT_FAIL and its number. -/
def Obligations.TestDeadlineFailsTheUnit : Prop :=
∀ (s : State) (u : Fin 24), s.flag SAF.STATUS.STATE = true → s.rd PWR.STATE.STATE = 0 → s.unitUsable u = true → max (s.tst u).last s.saf.runAt +
    (s.rd SAF.CFG.FTTI * 320000 - 160000) < s.dtime → Completes (.testDeadline u) s fun t => t.flag SAF.STATUS.DEADLINE = true ∧ (Room s → ∃ e ∈
    t.recd.queue, e.code = 0x0A01 ∧ e.source = srcModule ∧ e.stamp = s.dtime ∧ e.payload = [13, u.val, 0]) ∧ t.unitUsable u = false ∧ (t.tst
    u).start = none ∧ t.rd SAF.FAULT_LAST.CODE = 11 ∧ t.rd SAF.FAULT_LAST.UNIT = u ∧ t.rd SAF.FAULT_TIME = s.dtime % 2 ^ 64

/-- R15, R52, R78, R193: what a permitted read returns and what it latches for the reading master; no register changes. Where the spec leaves a
reading open it states the model's, of log entry 12. -/
def Obligations.ReadsReturnAndLatch : Prop :=
(∀ (s : State) (m : Fin 64) (a : Nat) (r : RegSpec) (i j : Nat), MayRead s m a → groupOf a = [] → Tab.get none s.glatches (latchKey m a) = none →
    findReg a = some (r, i, j) → r.kind = .lo → Completes (.readLoLatch m a) s fun t => t.resp.err = false ∧ t.resp.data = le 4 (s.live a) ∧ Tab.get
    none t.latches (latchKey m (a + 4)) = some (s.live (a + 4)) ∧ t.regs = s.regs) ∧
(∀ (s : State) (m : Fin 64) (a : Nat) (r : RegSpec) (i j v : Nat), MayRead s m a → groupOf a = [] → Tab.get none s.glatches (latchKey m a) = none →
    findReg a = some (r, i, j) → r.kind = .hi → Tab.get none s.latches (latchKey m a) = some v → Completes (.readHi m a) s fun t => t.resp.err =
    false ∧ t.resp.data = le 4 v ∧ Tab.get none t.latches (latchKey m a) = none ∧ t.regs = s.regs) ∧
(∀ (s : State) (m : Fin 64) (a : Nat) (r : RegSpec) (i j : Nat), MayRead s m a → groupOf a = [] → Tab.get none s.glatches (latchKey m a) = none →
    findReg a = some (r, i, j) → r.kind = .hi → Tab.get none s.latches (latchKey m a) = none → Completes (.readHi m a) s fun t => t.resp.err = false
    ∧ t.resp.data = le 4 (s.live a) ∧ t.regs = s.regs) ∧
(∀ (s : State) (m : Fin 64) (t : Fin 64), MayRead s m (TB.ANGLE.addr t) → Completes (.tbAngleLoRead m t) s fun u => u.resp.err = false ∧ u.resp.data
    = le 4 (s.live (TB.ANGLE.addr t)) ∧ u.regs = s.regs ∧ Tab.get none u.glatches (latchKey m (TB.ANGLE.addr t + 4)) = some (s.live (TB.ANGLE.addr t
    + 4)) ∧ Tab.get none u.glatches (latchKey m (TB.SPEED.SPEED.addr t)) = some (s.live (TB.SPEED.SPEED.addr t)) ∧ Tab.get none u.glatches (latchKey
    m (TB.STAMP.addr t)) = some (s.live (TB.STAMP.addr t)) ∧ Tab.get none u.glatches (latchKey m (TB.STAMP.addr t + 4)) = some (s.live
    (TB.STAMP.addr t + 4))) ∧
(∀ (s : State) (m : Fin 64) (n : Fin 48), MayRead s m (AX.PWM_ACT_PERIOD.TOP.addr n) → Completes (.pwmActPeriodRead m n) s fun t => t.resp.err =
    false ∧ t.resp.data = le 4 (s.live (AX.PWM_ACT_PERIOD.TOP.addr n)) ∧ t.regs = s.regs ∧ (∀ k < 6, Tab.get none t.glatches (latchKey m
    (AX.PWM_ACT_PERIOD.TOP.addr n + 4 + 4 * k)) = some (s.live (AX.PWM_ACT_PERIOD.TOP.addr n + 4 + 4 * k)))) ∧
(∀ (s : State) (m : Fin 64) (n : Fin 48), MayRead s m (AX.OBS_EST_THETA.THETA.addr n) → Completes (.obsEstThetaRead m n) s fun t => t.resp.err =
    false ∧ t.resp.data = le 4 (s.live (AX.OBS_EST_THETA.THETA.addr n)) ∧ t.regs = s.regs ∧ (∀ k < 6, Tab.get none t.glatches (latchKey m
    (AX.OBS_EST_THETA.THETA.addr n + 4 + 4 * k)) = some (s.live (AX.OBS_EST_THETA.THETA.addr n + 4 + 4 * k))))

/-- R9, R12, R15: a permitted write of a plain register updates its fields and no other register; a write of a _HI register makes the held low word
and the high word take effect together. Where the spec leaves a reading open it states the model's, of log entries 3 and 9. -/
def Obligations.PlainWritesTakeEffect : Prop :=
(∀ (s : State) (m : Fin 64) (a : Nat) (v : Word) (r : RegSpec) (i j : Nat), MayWrite s m a (swOf a v.toNat) → Plain m a v.toNat → findReg a = some
    (r, i, j) → r.kind = .w32 → s.locked r i = false → Completes (.registerWrite m a v) s fun t => t.resp.err = false ∧ OnlyRegs s t [a] ∧ t.reg a =
    BitVec.ofNat 32 (r.write false (Tab.get 0 s.justSet a) (s.reg a).toNat v.toNat).1) ∧
(∀ (s : State) (m : Fin 64) (a : Nat) (v : Word) (l r : RegSpec) (i j : Nat), 4 ≤ a → MayWrite s m a (swOf a v.toNat) → Plain m a v.toNat → findReg
    a = some (r, i, j) → findReg (a - 4) = some (l, i, j) → r.kind = .hi → r.lock = none → l.lock = none → Completes (.writeHi m a v) s fun t =>
    t.resp.err = false ∧ OnlyRegs s t [a, a - 4] ∧ t.reg (a - 4) = BitVec.ofNat 32 (l.write false (Tab.get 0 s.justSet (a - 4)) (s.reg (a -
    4)).toNat (s.held (a - 4))).1 ∧ t.reg a = BitVec.ofNat 32 (r.write false (Tab.get 0 s.justSet a) (s.reg a).toNat v.toNat).1)

/-- R11, R12, R13, R14: one field of a write: a read-write field takes the value unless it is reserved, a W1C field loses the bits written 1 but
those that hardware set in the same clock (keep), a W1S field gains the bits written 1, read-only and write-only fields keep, and a locked field
keeps and tells that it was to change. Every other bit keeps. Where the spec leaves a reading open it states the model's, of log entry 9. -/
def Obligations.FieldAccessTypes : Prop :=
  ∀ (f : FieldSpec) (v old keep : Nat) (lock e : Bool), f.hi < 32 → f.lo ≤ f.hi →
    let new := bits v f.hi f.lo
    let was := bits old f.hi f.lo
    let out := f.write lock keep v (old, e)
    (f.acc = .rw → f.reserved new = false → bits out.1 f.hi f.lo = new) ∧
    (f.acc = .rw → f.reserved new = true → out.1 = old) ∧
    (f.acc = .ro ∨ f.acc = .wo → out = (old, e)) ∧
    (f.acc = .w1c → ∀ b < f.hi + 1 - f.lo, bit (bits out.1 f.hi f.lo) b = (bit was b && !(bit new b && !bit (bits keep f.hi f.lo) b))) ∧
    (f.acc = .w1s → ∀ b < f.hi + 1 - f.lo, bit (bits out.1 f.hi f.lo) b = (bit was b || bit new b)) ∧
    (f.acc = .rwl → lock = true → out = (old, e || was != new)) ∧
    (f.acc = .rwl → lock = false → f.reserved new = false → bits out.1 f.hi f.lo = new ∧ out.2 = e) ∧
    (∀ h l, l ≤ h → h < f.lo ∨ f.hi < l → bits out.1 h l = bits old h l)

/-- R30, R31, R32, R34, R405: a step moves DEVICE TIME or is refused, a written rate is held inside its limit, an offset to the master is shown, a
follower without measurements loses ALIGNED, and gPTP time is shown. Where the spec leaves a reading open it states the model's, of log entries 14
and 15. -/
def Obligations.DeviceTimeCommands : Prop :=
(∀ (s : State) (m : Fin 64) (v : Word), MayWrite s m (DT.STEP.base + 4) false → s.stepOk = true → Completes (.dtStep m v) s fun t => t.resp.err =
    false ∧ t.dtime = ofS 64 (s.dtime + toS 64 (s.held DT.STEP.base + v.toNat * 2 ^ 32)) ∧ (Room s → Noted t 0x0003 srcModule t.dtime)) ∧
(∀ (s : State) (m : Fin 64) (v : Word), MayWrite s m (DT.STEP.base + 4) false → s.stepOk = false → Completes (.dtStep m v) s fun t => t.dtime =
    s.dtime ∧ t.flag DT.STATUS.STEP_REFUSED = true ∧ OnlyRegs s t [DT.STATUS.STEP_REFUSED.base]) ∧
(∀ (s : State) (m : Fin 64) (v : Word), MayWrite s m DT.RATE.RATE.base false → s.rd DT.CTRL.ROLE ≠ 2 → s.flag DT.CTRL.GPTP_FOLLOW = false →
    Completes (.dtRateWrite m v) s fun t => t.resp.err = false ∧ t.rdS DT.RATE.RATE = clampI (-429497) 429497 (toS 32 v.toNat) ∧ (t.flag
    DT.STATUS.RATE_CLAMP = true ↔ s.flag DT.STATUS.RATE_CLAMP = true ∨ toS 32 v.toNat < -429497 ∨ 429497 < toS 32 v.toNat) ∧ OnlyRegs s t
    [DT.RATE.RATE.base, DT.STATUS.RATE_CLAMP.base]) ∧
(∀ (s : State) (p : Fin 3) (t1 t2 t3 t4 serdes : Nat) (nb : Int) (peer : Bool),
    let hop : Int := ((256 * ((t2 : Int) - t1) - serdes) - (256 * ((t4 : Int) - t3) - serdes)) / 2;
    s.flag LNK.STATUS.UP p = true → s.rd DT.CTRL.ROLE = 2 → s.flag PWR.START_STATUS.ENUM_DONE = true → (p.val ≠ 2 ∧ p.val = s.timePort ∨ p.val = 2 ∧
    s.pwr.alone = true) → s.timeH.stepped = true → (-2 ^ 31 : Int) ≤ hop + nb → hop + nb < 2 ^ 31 → Completes (.time p t1 t2 t3 t4 serdes nb peer) s
    fun t => t.rdS DT.OFFSET.OFFSET = hop + nb ∧ t.timeH.lastOffset = s.dtime ∧ (t.flag DT.STATUS.ALIGNED = true → (alignLimit : Int) ≥ absI (hop +
    nb))) ∧
(∀ (s : State), s.rd DT.CTRL.ROLE = 2 → s.timeH.lastOffset + msTicks ≤ s.dtime → Completes (.alignTimeout) s fun t => t.flag DT.STATUS.ALIGNED =
    false ∧ OnlyRegs s t [DT.STATUS.ALIGNED.base]) ∧
(∀ (s : State) (ofs : Int), (-2 ^ 63 : Int) ≤ ofs → ofs < 2 ^ 63 → Completes (.gptpOfsUpdate ofs) s fun t => t.rdS DT.GPTP_OFS = ofs ∧ (s.flag
    DT.CTRL.GPTP_FOLLOW = false → OnlyRegs s t [DT.GPTP_OFS.base, DT.GPTP_OFS.base + 4]))

/-- R39, R40, R42, R439: a software update is taken with its angle and the clock's stamp, a silent primary leads to FALLBACK or HOLD, HOLD expires
into LOST, and a change of the ratio restarts a timebase. Where the spec leaves a reading open it states the model's, of log entries 2, 16 and 17.
-/
def Obligations.TimebaseCommands : Prop :=
(∀ (s : State) (m : Fin 64) (t : Fin 64) (v : Word), MayWrite s m (TB.ANGLE.addr t + 4) false → s.tbOn t = true → s.rd TB.CFG.SRC t = 6 → (s.rd
    TB.STATUS.STATE t = tbOff ∨ s.rd TB.STATUS.STATE t = tbPrimary) → (∀ x : Fin 64, s.tbDerived x = true → s.rd TB.CFG.REF x ≠ t) → Completes
    (.tbSoftwareUpdate m t v) s fun u => u.resp.err = false ∧ u.rd TB.STATUS.STATE t = tbPrimary ∧ u.rd TB.ANGLE t = (s.held (TB.ANGLE.addr t) +
    v.toNat * 2 ^ 32) % 2 ^ 64 ∧ u.rd TB.STAMP t = s.dtime % 2 ^ 64 ∧ u.rd TB.SPEED.SPEED t = s.rd TB.SPEED.SPEED t) ∧
(∀ (s : State) (t : Fin 64), s.tbOn t = true → s.rd TB.STATUS.STATE t = tbPrimary → s.rd TB.CFG.FALLBACK t ≠ 0 → s.tbSilent t (s.rd TB.CFG.SRC t)
    (s.tb t).since (s.tb t).primLast = true → Completes (.tbSourceSilent t) s fun u => u.rd TB.STATUS.STATE t = tbFallback ∧ (Room s → Noted u
    0x0101 (srcTimebase t) s.dtime)) ∧
(∀ (s : State) (t : Fin 64), s.tbOn t = true → s.rd TB.STATUS.STATE t = tbPrimary → s.rd TB.CFG.FALLBACK t = 0 → s.rd TB.CFG.HOLD t ≠ 0 → s.tbSilent
    t (s.rd TB.CFG.SRC t) (s.tb t).since (s.tb t).primLast = true → Completes (.tbSourceSilent t) s fun u => u.rd TB.STATUS.STATE t = tbHold ∧ (u.tb
    t).holdAt = s.dtime ∧ (Room s → Noted u 0x0101 (srcTimebase t) s.dtime)) ∧
(∀ (s : State) (t : Fin 64), s.rd TB.STATUS.STATE t = tbHold → (s.tb t).holdAt + s.rd TB.CFG.HOLD t * 4 * msTicks ≤ s.dtime → Completes
    (.tbHoldExpiry t) s fun u => u.rd TB.STATUS.STATE t = tbLost) ∧
(∀ (s : State) (m : Fin 64) (t : Fin 64) (v : Word), MayWrite s m (TB.RATIO.NUM.addr t) false → s.reg (TB.RATIO.NUM.addr t) ≠ v → Completes
    (.tbRestart m t true v) s fun u => u.resp.err = false ∧ u.rd TB.STATUS.STATE t = tbOff ∧ u.rdS TB.SPEED.SPEED t = 0 ∧ u.reg (TB.RATIO.NUM.addr
    t) = v)

/-- R414, R415, R416: an accepted pulse, frame or edge of an input is counted and becomes its reference, a refused one is counted. The accepted
cases are stated where no timebase takes the input as its source; what a timebase takes from an update is Obligations.TimebaseUpdate's. Where the
spec leaves a reading open it states the model's, of log entry 16. -/
def Obligations.TimebaseInputs : Prop :=
(∀ (s : State) (k : Fin 8) (pin : PinLevel),
    let h : TachH := Tab.get {} s.tachs k;
    s.flag IOS.TACH_CFG.EN k = true → s.ballPassed pin (s.rd IOS.TACH_CFG.FILT k * usTicks) = true → pin.level ≠ h.level → pin.level ≠ s.flag
    IOS.TACH_CFG.EDGE k → (∀ t : Fin 64, s.tbSrcInUse t ≠ 3) → (h.last = none ∨ h.interval = none ∨ h.interval.getD 0 ≤ 4 * (pin.since - h.last.getD
    0)) → Completes (.tachPulse k pin) s fun t => t.rd IOS.TACH_STATUS.PULSE_CNT k = (s.rd IOS.TACH_STATUS.PULSE_CNT k + 1) % 2 ^ 16 ∧ (Tab.get {}
    t.tachs k : TachH).last = some pin.since ∧ OnlyRegs s t [IOS.TACH_STATUS.PULSE_CNT.addr k]) ∧
(∀ (s : State) (k : Fin 8) (pin : PinLevel) (l i : Nat), s.flag IOS.TACH_CFG.EN k = true → s.ballPassed pin (s.rd IOS.TACH_CFG.FILT k * usTicks) =
    true → pin.level ≠ (Tab.get {} s.tachs k : TachH).level → pin.level ≠ s.flag IOS.TACH_CFG.EDGE k → (Tab.get {} s.tachs k : TachH).last = some l
    → (Tab.get {} s.tachs k : TachH).interval = some i → 4 * (pin.since - l) < i → Completes (.tachPulse k pin) s fun t => t.rd
    IOS.TACH_STATUS.REJ_CNT k = (s.rd IOS.TACH_STATUS.REJ_CNT k + 1) % 2 ^ 16 ∧ (Tab.get {} t.tachs k : TachH).last = some l ∧ (Tab.get {} t.tachs k
    : TachH).interval = some i ∧ t.tbs = s.tbs ∧ OnlyRegs s t [IOS.TACH_STATUS.REJ_CNT.addr k]) ∧
(∀ (s : State) (k : Fin 8) (start stamp raw : Nat) (parity : Bool), s.flag IOS.SSI_CFG0.EN k = true → start % (s.rd IOS.SSI_CFG1.RATE k * 3200) = 0
    → Tab.get none s.ssiEnd k = none → ssiParityOk (s.rd IOS.SSI_CFG0.PARITY k) (s.rd IOS.SSI_CFG0.BITS k) (raw % 2 ^ s.rd IOS.SSI_CFG0.BITS k)
    parity = true → (∀ t : Fin 64, s.rd TB.CFG.SRC t ≠ 4 ∧ s.rd TB.CFG.FALLBACK t ≠ 4) → Completes (.ssiFrame k start stamp raw parity true) s fun t
    => t.rd IOS.SSI_STATUS.FRAME_CNT k = (s.rd IOS.SSI_STATUS.FRAME_CNT k + 1) % 2 ^ 16 ∧ Tab.get none t.ssiEnd k = some s.dtime ∧ OnlyRegs s t
    [IOS.SSI_STATUS.FRAME_CNT.addr k]) ∧
(∀ (s : State) (k : Fin 8) (start stamp raw : Nat) (parity idle : Bool), s.flag IOS.SSI_CFG0.EN k = true → start % (s.rd IOS.SSI_CFG1.RATE k * 3200)
    = 0 → (idle = false ∨ ssiParityOk (s.rd IOS.SSI_CFG0.PARITY k) (s.rd IOS.SSI_CFG0.BITS k) (raw % 2 ^ s.rd IOS.SSI_CFG0.BITS k) parity = false) →
    Completes (.ssiFrame k start stamp raw parity idle) s fun t => t.rd IOS.SSI_STATUS.ERR_CNT k = (s.rd IOS.SSI_STATUS.ERR_CNT k + 1) % 2 ^ 8 ∧
    t.tbs = s.tbs ∧ OnlyRegs s t [IOS.SSI_STATUS.ERR_CNT.addr k]) ∧
(∀ (s : State) (pin : PinLevel), s.flag IOS.LSYNC_CFG.EN = true → s.ballPassed pin (s.rd IOS.LSYNC_CFG.FILT * 10 * usTicks) = true → pin.level =
    true → s.timeH.lsLevel = false → s.timeH.lsRef = none → Completes (.lsyncEdge pin) s fun t => t.timeH.lsRef = some pin.since ∧ t.timeH.lsPeriod
    = none ∧ t.regs = s.regs) ∧
(∀ (s : State) (pin : PinLevel) (r : Nat), s.flag IOS.LSYNC_CFG.EN = true → s.ballPassed pin (s.rd IOS.LSYNC_CFG.FILT * 10 * usTicks) = true →
    pin.level = true → s.timeH.lsLevel = false → s.timeH.lsRef = some r → 7111111 < pin.since - r → Completes (.lsyncEdge pin) s fun t =>
    t.timeH.lsRef = some pin.since ∧ t.timeH.lsPeriod = none ∧ t.rd IOS.LSYNC_PERIOD.PERIOD = 0) ∧
(∀ (s : State) (pin : PinLevel) (r : Nat), s.flag IOS.LSYNC_CFG.EN = true → s.ballPassed pin (s.rd IOS.LSYNC_CFG.FILT * 10 * usTicks) = true →
    pin.level = true → s.timeH.lsLevel = false → s.timeH.lsRef = some r → pin.since - r < 4923077 → Completes (.lsyncEdge pin) s fun t => t.rd
    IOS.LSYNC_STATUS.REJ_CNT = (s.rd IOS.LSYNC_STATUS.REJ_CNT + 1) % 2 ^ 16 ∧ t.timeH = { s.timeH with lsLevel := true }) ∧
(∀ (s : State) (pin : PinLevel) (r q : Nat), s.flag IOS.LSYNC_CFG.EN = true → s.ballPassed pin (s.rd IOS.LSYNC_CFG.FILT * 10 * usTicks) = true →
    pin.level = true → s.timeH.lsLevel = false → s.timeH.lsRef = some r → s.timeH.lsPeriod = some q → 4923077 ≤ pin.since - r → pin.since - r ≤
    7111111 → 20 * (max (pin.since - r) q - min (pin.since - r) q) ≤ q → (∀ t : Fin 64, s.rd TB.CFG.SRC t ≠ 5 ∧ s.rd TB.CFG.FALLBACK t ≠ 5) →
    Completes (.lsyncEdge pin) s fun t => t.timeH.lsRef = some pin.since ∧ t.rd IOS.LSYNC_PERIOD.PERIOD = pin.since - r ∧ OnlyRegs s t
    [IOS.LSYNC_PERIOD.PERIOD.base])

/-- R39, R42, R43: an update that a timebase takes from its primary source writes its angle, speed and stamp in one clock, and the state becomes
PRIMARY from OFF; in FALLBACK a first update of the primary is not taken. Where the spec leaves a reading open it states the model's, of log entry
17. -/
def Obligations.TimebaseUpdate : Prop :=
  (∀ (s : State) (t : Fin 64) (ang spd : Int) (stamp : Nat), s.tbOn t = true →
      s.rd TB.STATUS.STATE t = tbOff ∨ s.rd TB.STATUS.STATE t = tbPrimary →
    (s.tbSource t true ang spd stamp).2 = true ∧ (s.tbSource t true ang spd stamp).1.rd TB.STATUS.STATE t = tbPrimary ∧
    (s.tbSource t true ang spd stamp).1.rd TB.ANGLE t = ofS 64 ang ∧ (s.tbSource t true ang spd stamp).1.rdS TB.SPEED.SPEED t = satS 32 spd ∧
    (s.tbSource t true ang spd stamp).1.rd TB.STAMP t = stamp % 2 ^ 64) ∧
  (∀ (s : State) (t : Fin 64) (ang spd : Int) (stamp : Nat), s.tbOn t = true → s.rd TB.STATUS.STATE t = tbFallback → (s.tb t).primLast = none →
    (s.tbSource t true ang spd stamp).2 = false ∧ (s.tbSource t true ang spd stamp).1.regs = s.regs)

/-- R45, R48, R49: an enabled TIME slot waits for its target, a disabled slot is idle, a target written while an ANGLE slot is enabled is held, and
a due one-shot slot fires with its action, counts, and disables itself, once no slot of a lower number is due. Where the spec leaves a reading open
it states the model's, of log entries 18 and 19. -/
def Obligations.SlotCommands : Prop :=
(∀ (s : State) (m : Fin 64) (k : Fin 256) (v : Word),
    let u : State := (s.writeFields (SCH.CFG.EN.addr k) v.toNat).1;
    MayWrite s m (SCH.CFG.EN.addr k) false → s.flag SCH.CFG.EN k = false → u.flag SCH.CFG.EN k = true → u.flag SCH.CFG.TYPE k = true → 0 ≤ s.rdS
    SCH.STEP k → s.dtime < s.rd SCH.TARGET k → Completes (.schCfgWrite m k v) s fun t => t.flag SCH.CFG.EN k = true ∧ t.rd SCH.STATUS.STATE k = 2 ∧
    t.rd SCH.PRED k = s.rd SCH.TARGET k ∧ (t.slot k).due = some (s.rd SCH.TARGET k) ∧ OnlyRegs s t [SCH.CFG.EN.addr k, SCH.PRED.addr k,
    SCH.PRED.addr k + 4, SCH.STATUS.STATE.addr k]) ∧
(∀ (s : State) (m : Fin 64) (k : Fin 256) (v : Word), MayWrite s m (SCH.CFG.EN.addr k) false → s.flag SCH.CFG.EN k = true → bit v.toNat 0 = false →
    Completes (.schCfgWrite m k v) s fun t => t.flag SCH.CFG.EN k = false ∧ t.rd SCH.STATUS.STATE k = 0 ∧ (t.slot k).due = none) ∧
(∀ (s : State) (m : Fin 64) (k : Fin 256) (v : Word), MayWrite s m (SCH.TARGET.addr k + 4) false → s.flag SCH.CFG.EN k = false → Completes
    (.schTargetWrite m k v) s fun t => t.rd SCH.TARGET k = (s.held (SCH.TARGET.addr k) + v.toNat * 2 ^ 32) % 2 ^ 64 ∧ OnlyRegs s t [SCH.TARGET.addr
    k, SCH.TARGET.addr k + 4]) ∧
(∀ (s : State) (m : Fin 64) (k : Fin 256) (v : Word), MayWrite s m (SCH.TARGET.addr k + 4) false → s.flag SCH.CFG.EN k = true → s.flag SCH.CFG.TYPE
    k = false → Completes (.schTargetWrite m k v) s fun t => t.regs = s.regs ∧ (t.slot k).newTarget = some (s.held (SCH.TARGET.addr k) + v.toNat * 2
    ^ 32)) ∧
(∀ (s : State) (k : Fin 256) (c : Nat), (s.slot k).due = some c → c ≤ s.dtime → s.flag SCH.CFG.EN k = true → s.flag SCH.CFG.TYPE k = true → s.rdS
    SCH.STEP k = 0 → s.rd SCH.CFG.ACTION k = 4 → (List.range k).any s.slotDue = false → Completes (.slotFire k) s fun t => bit t.irqLines (s.rd
    SCH.CFG.PARAM k % 32) = true ∧ t.rd SCH.LAST_FIRE k = s.dtime % 2 ^ 64 ∧ t.rd SCH.STATUS.FIRE_CNT k = (s.rd SCH.STATUS.FIRE_CNT k + 1) % 2 ^ 16
    ∧ t.flag SCH.CFG.EN k = false ∧ t.rd SCH.STATUS.STATE k = 0 ∧ (t.flag SCH.STATUS.LATE k = true ↔ s.flag SCH.STATUS.LATE k = true ∨ (s.slot
    k).late = true)) ∧
(∀ (s : State) (k : Fin 256) (c : Nat), (s.slot k).due = some c → c ≤ s.dtime → s.flag SCH.CFG.EN k = true → s.flag SCH.CFG.TYPE k = true → s.rdS
    SCH.STEP k = 0 → s.rd SCH.CFG.ACTION k = 0 → Room s → (List.range k).any s.slotDue = false → Completes (.slotFire k) s fun t => Noted t 0x0105
    (srcSlot k) s.dtime ∧ t.rd SCH.LAST_FIRE k = s.dtime % 2 ^ 64 ∧ t.flag SCH.CFG.EN k = false) ∧
(∀ (s : State) (k : Fin 256), (s.slotDue k = false ∨ (List.range k).any s.slotDue = true) → Completes (.slotFire k) s fun t => t = s)

/-- R57, R61, R63, R64, R75: EN is granted or refused and its clearing stops the boundaries; the shadow duties belong to software or to the current
loop; a commit request is latched, and the capture copies an accepted pair or refuses it as a whole. Where the spec leaves a reading open it states
the model's, of log entries 21 and 22. -/
def Obligations.AxisAndShadowCommands : Prop :=
(∀ (s : State) (m : Fin 64) (n : Fin 48) (v : Word), MayWrite s m (AX.PWM_CTRL.EN.addr n) false → s.axOn n = false → s.enRefused n = false →
    Completes (.axisEnable m n v) s fun t => t.axOn n = true ∧ t.flag AX.PWM_STATUS.COMMIT_PEND n = true ∧ (t.pw n).asc = 0 ∧ (t.pw n).nextB.isSome
    = true ∧ t.rd AX.PWM_CARRY.CARRY n 0 = 0 ∧ t.rd AX.CMT_CORR.VALUE n = 0) ∧
(∀ (s : State) (m : Fin 64) (n : Fin 48) (v : Word), MayWrite s m (AX.PWM_CTRL.EN.addr n) false → s.axOn n = false → s.enRefused n = true →
    Completes (.axisEnable m n v) s fun t => t.axOn n = false ∧ t.flag AX.PWM_STATUS.EN_REFUSED n = true ∧ (OnlyRegs s t [AX.PWM_CTRL.EN.addr n,
    AX.PWM_STATUS.EN_REFUSED.addr n] ∨ t.resp.err = true)) ∧
(∀ (s : State) (m : Fin 64) (n : Fin 48) (v : Word), MayWrite s m (AX.PWM_CTRL.EN.addr n) false → s.axOn n = true → Completes (.axisDisable m n v) s
    fun t => t.axOn n = false ∧ (t.pw n).nextB = none ∧ (t.fo n).step = none ∧ (t.pw n).asc = 0) ∧
(∀ (s : State) (m : Fin 64) (n : Fin 48) (j : Fin 3) (v : Word), MayWrite s m (AX.PWM_DUTY.D.addr n j) false → s.flag AX.PWM_CTRL.SRC n = false →
    (s.pw n).tags.length = 4 → Completes (.pwmDutyWrite m n j v) s fun t => OnlyRegs s t [AX.PWM_DUTY.D.addr n j] ∧ (t.pw n).tags.getD (j + 1) none
    = some (s.pw n).interval) ∧
(∀ (s : State) (m : Fin 64) (n : Fin 48) (j : Fin 3) (v : Word), MayWrite s m (AX.PWM_DUTY.D.addr n j) false → s.flag AX.PWM_CTRL.SRC n = true →
    Completes (.pwmDutyWrite m n j v) s fun t => t.flag AX.PWM_STATUS.SH_REFUSED n = true ∧ OnlyRegs s t [AX.PWM_STATUS.SH_REFUSED.addr n]) ∧
(∀ (s : State) (m : Fin 64) (n : Fin 48), MayWrite s m (AX.PWM_COMMIT.COMMIT.addr n) false → Completes (.pwmCommit m n) s fun t => t.resp.err =
    false ∧ t.flag AX.PWM_STATUS.COMMIT_PEND n = true ∧ OnlyRegs s t [AX.PWM_STATUS.COMMIT_PEND.addr n]) ∧
(∀ (s : State) (n : Fin 48) (b : Nat), (s.pw n).nextB = some b → (s.pw n).capDone = false → b ≤ s.dtime + 4 → s.axOn n = true → s.flag
    AX.PWM_STATUS.COMMIT_PEND n = true → s.pairOk n = true → Completes (.pwmCapture n) s fun t => t.flag AX.PWM_STATUS.COMMIT_PEND n = false ∧
    ((t.pw n).cap.map Prod.fst) = some (s.rd AX.PWM_PERIOD.TOP n) ∧ (t.pw n).capDone = true ∧ OnlyRegs s t [AX.PWM_STATUS.COMMIT_PEND.addr n]) ∧
(∀ (s : State) (n : Fin 48) (b : Nat), (s.pw n).nextB = some b → (s.pw n).capDone = false → b ≤ s.dtime + 4 → s.axOn n = true → s.flag
    AX.PWM_STATUS.COMMIT_PEND n = true → s.pairOk n = false → Room s → Completes (.pwmCapture n) s fun t => t.flag AX.PWM_STATUS.COMMIT_PEND n =
    false ∧ t.flag AX.PWM_STATUS.COMMIT_REFUSED n = true ∧ (t.pw n).cap = (s.pw n).cap ∧ Noted t 0x0201 (srcAxis n) s.dtime)

/-- R50, R57 to R59, R70 to R73, R76, R77: a boundary makes the captured pair active, a valid calibration applies or waits for the boundary, a
qualified trip latches and acts, a crossbar switch starts and ends. Where the spec leaves a reading open it states the model's, of log entries 2 and
23. -/
def Obligations.BoundaryAndTripCommands : Prop :=
(∀ (s : State) (n : Fin 48) (b top : Nat) (bases : List Nat), (s.pw n).nextB = some b → b ≤ s.dtime → s.axOn n = true → (s.pw n).cap = some (top,
    bases) → (s.pw n).dlNew = none → (s.ob n).esc = none → top < 2 ^ 17 → Completes (.pwmPeriodBoundary n) s fun t => t.rd AX.PWM_ACT_PERIOD.TOP n =
    top ∧ t.rd AX.PWM_STATUS.COMMIT_CNT n = (s.rd AX.PWM_STATUS.COMMIT_CNT n + 1) % 2 ^ 16 ∧ t.rd AX.PWM_LAST_COMMIT n = b % 2 ^ 64 ∧ (t.pw n).nextB
    = some (b + 2 * top) ∧ (t.pw n).periods = (s.pw n).periods + 1 ∧ (t.pw n).cap = none) ∧
(∀ (s : State) (n : Fin 48) (b : Nat), (s.pw n).nextB = some b → b ≤ s.dtime → s.axOn n = true → (s.pw n).cap = none → (s.pw n).dlNew = none → (s.ob
    n).esc = none → Completes (.pwmPeriodBoundary n) s fun t => t.rd AX.PWM_ACT_PERIOD.TOP n = s.rd AX.PWM_ACT_PERIOD.TOP n ∧ t.rd
    AX.PWM_STATUS.COMMIT_CNT n = s.rd AX.PWM_STATUS.COMMIT_CNT n ∧ (t.pw n).nextB = some (b + 2 * s.rd AX.PWM_ACT_PERIOD.TOP n)) ∧
(∀ (s : State) (ch : Fin 50) (n : Nat) (e : Fin 128), 36 ≤ e.val → e.val ≤ 78 → s.axOn n = true → s.axisOfCh ch = some n → Completes (.dlCalMeasure
    ch e) s fun t => (t.pw n).dlNew = some e.val ∧ Tab.get 0 t.chans ch = e ∧ t.rd AX.PWM_DLCAL.CAL_CNT n = (s.rd AX.PWM_DLCAL.CAL_CNT n + 1) % 2 ^
    16 ∧ OnlyRegs s t [AX.PWM_DLCAL.N.addr n]) ∧
(∀ (s : State) (ch : Fin 50) (n : Nat) (e : Fin 128), 36 ≤ e.val → e.val ≤ 78 → s.axOn n = false → s.axisOfCh ch = some n → Completes (.dlCalMeasure
    ch e) s fun t => t.rd AX.PWM_DLCAL.N n = e ∧ t.flag AX.PWM_DLCAL.VALID n = true ∧ OnlyRegs s t [AX.PWM_DLCAL.N.addr n]) ∧
(∀ (s : State) (ch : Fin 50) (n : Nat) (e : Fin 128), (e.val < 36 ∨ 78 < e.val) → Room s → s.axisOfCh ch = some n → Completes (.dlCalMeasure ch e) s
    fun t => t.flag AX.PWM_STATUS.DL_CAL_ERR n = true ∧ t.flag AX.PWM_DLCAL.VALID n = s.flag AX.PWM_DLCAL.VALID n ∧ t.pwms = s.pwms ∧ t.chans =
    s.chans ∧ Noted t 0x0202 (srcAxis n) s.dtime) ∧
(∀ (s : State) (n : Fin 48) (oc ds : PinLevel), s.tripActive n 0 oc.level oc.since = true → s.tripActive n 1 ds.level ds.since = false → (s.pw
    n).asc = 0 → s.rd AX.TRIP_CFG.ACTION n 0 = 1 → s.rdBit AX.TRIP_STATUS.LIVE 0 n = false → s.rd AX.TRIP_STATUS.LATCH n = 0 → s.pxbMoving n = false
    → s.axOn n = true → Room s → Completes (.tripQualified n oc ds) s fun t => t.axOn n = false ∧ t.rdBit AX.TRIP_STATUS.LATCH 0 n = true ∧ t.flag
    AX.TRIP_STATUS.FIRST n = false ∧ t.rd AX.TRIP_TIME n = s.dtime % 2 ^ 64 ∧ t.flag AX.PWM_STATUS.TRIPPED n = true ∧ t.flag
    AX.PWM_STATUS.COMMIT_PEND n = false ∧ (t.pw n).asc = 0 ∧ Noted t 0x0203 (srcAxis n) s.dtime) ∧
(∀ (s : State) (a : TripPulse), s.flag AX.TRIP_CFG.EN a.axis a.input = true → a.from_ < a.to_ → a.to_ ≤ s.dtime → (∀ k < a.to_ - a.from_,
    s.tripMasked a.axis a.input (a.from_ + k) = true) → Completes (.tripAssertionBlanked a) s fun t => t.rd AX.TRIP_STATUS.MASK_CNT a.axis = (s.rd
    AX.TRIP_STATUS.MASK_CNT a.axis + 1) % 2 ^ 16 ∧ OnlyRegs s t [AX.TRIP_STATUS.MASK_CNT.addr a.axis]) ∧
(∀ (s : State) (m : Fin 64) (sp : Fin 2) (v : Word), MayWrite s m (PXB.MAP.AXIS.addr 0 sp) true → s.flag PXB.MAP.VALID 0 sp = false → s.flag
    PXB.MAP.VALID 0 (1 - sp) = false → s.flag PXB.STATUS.BUSY = false → s.axOn (v.toNat % 64) = false → bit v.toNat 8 = true → v.toNat % 64 < 48 →
    s.rdBit AGE.PFENCE_AX (48 + sp) = false → Completes (.pxbMapWrite m sp v) s fun t => t.flag PXB.STATUS.BUSY = true ∧ t.rd PXB.MAP.AXIS 0 sp =
    v.toNat % 64 ∧ t.pxbMoving (v.toNat % 64) = true ∧ OnlyRegs s t [PXB.MAP.AXIS.addr 0 sp, PXB.STATUS.BUSY.base]) ∧
(∀ (s : State) (m : Fin 64) (sp : Fin 2) (v : Word), MayWrite s m (PXB.MAP.AXIS.addr 0 sp) true → s.flag PXB.MAP.VALID 0 sp = false → s.flag
    PXB.STATUS.BUSY = true → bit v.toNat 8 = true → v.toNat % 64 < 48 → Completes (.pxbMapWrite m sp v) s fun t => t.flag PXB.STATUS.ERR = true ∧
    OnlyRegs s t [PXB.STATUS.ERR.base] ∧ t.pxbs = s.pxbs) ∧
(∀ (s : State) (sp : Fin 2) (x : PxbH), Tab.get none s.pxbs sp = some x → (s.pw x.axis).heldAct = none → s.pwr.axPend = [] → x.axis < 48 → Room s →
    Completes (.pxbSwitchComplete sp) s fun t => t.flag PXB.STATUS.BUSY = false ∧ Tab.get none t.pxbs sp = none ∧ t.rd AX.PWM_CARRY.CARRY x.axis 0 =
    0 ∧ Noted t 0x0204 (srcAxis x.axis) s.dtime)

/-- R82, R102, R107, R109, R114, R128: at the sampling instant of a period an enabled axis takes its loop step, with the coefficients of a
compensator whose APPLY waits, and REF at the measured speed where a PRESET waits at a speed-loop step; a trigger whose converters are not ready is
dropped and counted, and the active pair stays. Where the spec leaves a reading open it states the model's, of log entry 32. -/
def Obligations.LoopStepRuns : Prop :=
(∀ (s : State) (n : Fin 48) (ra rb rk : Int), s.axOn n = true → s.flag AX.PWM_CTRL.SRC n = true → 0 < (s.pw n).periods → s.flag AX.FOC_CTRL.RUN n =
    true → s.rd AX.CMT_STATUS.STATE n = 0 → (s.sampleAt n).1 ≤ s.dtime → (s.fo n).notBefore ≤ (s.sampleAt n).1 → (s.fo n).stepOf ≠ (s.pw n).periods
    → (s.fo n).step = none → s.trigOk n (s.sampleAt n).1 = true → (∀ k : Fin 3, s.net n k = none) → s.rd AX.ADC_HEALTH.ROLE_K n = 3 → Completes
    (.loopStep n ra rb rk) s fun t => (t.fo n).stepOf = (s.pw n).periods ∧ (t.fo n).step = none ∧ (t.pw n).lastTrig = some (s.sampleAt n).1 ∧ t.flag
    AX.PWM_STATUS.COMMIT_PEND n = true) ∧
(∀ (s : State) (n : Fin 48) (ra rb rk : Int), s.axOn n = true → s.flag AX.PWM_CTRL.SRC n = true → 0 < (s.pw n).periods → s.flag AX.FOC_CTRL.RUN n =
    true → s.rd AX.CMT_STATUS.STATE n = 0 → (s.sampleAt n).1 ≤ s.dtime → (s.fo n).notBefore ≤ (s.sampleAt n).1 → (s.fo n).stepOf ≠ (s.pw n).periods
    → (s.fo n).step = none → s.trigOk n (s.sampleAt n).1 = true → (∀ k : Fin 3, s.net n k = none) → s.rd AX.ADC_HEALTH.ROLE_K n = 3 → Completes
    (.loopStep n ra rb rk) s fun t => (t.fo n).cd.b = (s.cmpTake (cmpD n) (s.fo n).cd).b ∧ (t.fo n).cd.a = (s.cmpTake (cmpD n) (s.fo n).cd).a ∧
    (t.fo n).cd.lim = (s.cmpTake (cmpD n) (s.fo n).cd).lim ∧ (t.fo n).cq.b = (s.cmpTake (cmpQ n) (s.fo n).cq).b ∧ (t.fo n).cq.a = (s.cmpTake (cmpQ
    n) (s.fo n).cq).a ∧ (t.fo n).cq.lim = (s.cmpTake (cmpQ n) (s.fo n).cq).lim ∧ (t.fo n).cd.apply = false ∧ (t.fo n).cq.apply = false) ∧
(∀ (s : State) (n : Fin 48) (ra rb rk : Int), s.axOn n = true → s.flag AX.PWM_CTRL.SRC n = true → 0 < (s.pw n).periods → s.flag AX.FOC_CTRL.RUN n =
    true → s.rd AX.CMT_STATUS.STATE n = 0 → (s.sampleAt n).1 ≤ s.dtime → (s.fo n).notBefore ≤ (s.sampleAt n).1 → (s.fo n).stepOf ≠ (s.pw n).periods
    → (s.fo n).step = none → s.trigOk n (s.sampleAt n).1 = true → (∀ k : Fin 3, s.net n k = none) → s.rd AX.ADC_HEALTH.ROLE_K n = 3 → s.flag
    AX.FOC_CTRL.SPD_EN n = true → (s.fo n).fresh = true → (s.fo n).preset = true → (s.sx n).ss1 = none → Completes (.loopStep n ra rb rk) s fun t =>
    t.rdS AX.SPD_REF.REF n = s.tbSpeed n ∧ (t.fo n).rem = 0 ∧ (t.fo n).preset = false) ∧
(∀ (s : State) (n : Fin 48) (ra rb rk : Int), s.axOn n = true → s.flag AX.PWM_CTRL.SRC n = true → 0 < (s.pw n).periods → s.flag AX.FOC_CTRL.RUN n =
    true → (s.sampleAt n).1 ≤ s.dtime → (s.fo n).notBefore ≤ (s.sampleAt n).1 → (s.fo n).stepOf ≠ (s.pw n).periods → (s.fo n).step = none → s.trigOk
    n (s.sampleAt n).1 = false → Completes (.loopStep n ra rb rk) s fun t => t.rd AX.ADC_STATUS.TRIG_DROP n = (s.rd AX.ADC_STATUS.TRIG_DROP n + 1) %
    2 ^ 16 ∧ t.rd AX.FOC_STATUS.SKIP_CNT n = min (s.rd AX.FOC_STATUS.SKIP_CNT n + 1) 255 ∧ t.flag AX.PWM_STATUS.COMMIT_PEND n = s.flag
    AX.PWM_STATUS.COMMIT_PEND n ∧ OnlyRegs s t [AX.ADC_STATUS.TRIG_DROP.addr n, AX.FOC_STATUS.SKIP_CNT.addr n])

/-- R86 to R88, R133, R135, R136, R141: a planned window opens, a comparator changes at its threshold and hysteresis, its change is kept for the
qualification, a crossing that qualifies by the levels of the window's clocks (State.scan) is counted and noted, and a window that closes without
one counts why; a DAC takes its threshold and settles. Where the spec leaves a reading open it states the model's, of log entries 33 and 35. -/
def Obligations.WindowCommands : Prop :=
(∀ (s : State) (n : Fin 48) (w : WinH), (s.cm n).win = some w → w.isOpen = false → w.tOpen ≤ s.dtime → s.flag AX.PV_CFG.OWNER n = true → Completes
    (.lwOpen n) s fun t => t.flag AX.CMT_STATUS.WINDOW n = true ∧ (((t.cm n).win.map fun x => x.isOpen) = some true) ∧ t.pvHeld n (phaseOf w.k) =
    true ∧ OnlyRegs s t [AX.CMT_STATUS.WINDOW.addr n, AX.PV_DAC.TH.addr n (phaseOf w.k)]) ∧
(∀ (s : State) (n : Fin 48) (w : WinH), (s.cm n).win = some w → w.isOpen = true → w.tClose ≤ s.dtime → w.qualified = true → Completes (.lwClose n
    w.tClose) s fun t => t.flag AX.CMT_STATUS.WINDOW n = false ∧ (t.cm n).win = none ∧ (t.cm n).lastClose = some w.tClose ∧ OnlyRegs s t
    [AX.CMT_STATUS.WINDOW.addr n]) ∧
(∀ (s : State) (n : Fin 48) (w : WinH), (s.cm n).win = some w → w.isOpen = true → w.tClose ≤ s.dtime → w.qualified = false → (s.scan n w
    w.tClose).hit = none → (s.scan n w w.tClose).early = false → s.rd AX.CMT_OFS.REJ_LIM n = 0 → Completes (.lwClose n w.tClose) s fun t => t.flag
    AX.CMT_STATUS.WINDOW n = false ∧ (t.cm n).win = none ∧ t.rd AX.CMT_FAIL_CNT.NONE n = min (s.rd AX.CMT_FAIL_CNT.NONE n + 1) 255 ∧ (t.cm n).rejRun
    = (s.cm n).rejRun + 1 ∧ (t.cm n).good = []) ∧
(∀ (s : State) (n : Fin 48) (w : WinH), (s.cm n).win = some w → w.isOpen = true → w.tClose ≤ s.dtime → w.qualified = false → (s.scan n w
    w.tClose).hit = none → (s.scan n w w.tClose).early = true → s.rd AX.CMT_OFS.REJ_LIM n = 0 → Completes (.lwClose n w.tClose) s fun t => t.rd
    AX.CMT_FAIL_CNT.EARLY n = min (s.rd AX.CMT_FAIL_CNT.EARLY n + 1) 255 ∧ t.rd AX.CMT_FAIL_CNT.NONE n = s.rd AX.CMT_FAIL_CNT.NONE n) ∧
(∀ (s : State) (n : Fin 48) (w : WinH) (tx : Nat), s.rd AX.CMT_STATUS.STATE n = 0 → (s.cm n).win = some w → w.isOpen = true → w.tClose ≤ s.dtime →
    w.qualified = false → (s.scan n w w.tClose).hit = some tx → Completes (.lwClose n w.tClose) s fun t => t.rd AX.CMT_LAST n = tx % 2 ^ 64 ∧ t.rd
    AX.CMT_CNT.QUALIFIED n = (s.rd AX.CMT_CNT.QUALIFIED n + 1) % 2 ^ 16 ∧ (t.cm n).win = none) ∧
(∀ (s : State) (n : Fin 48) (j : Fin 3) (v : PhaseLevels),
    let x : Int := [v.a, v.b, v.c].getD j.val 0;
    s.measUp = true → s.flag AX.PV_CFG.EN n = true → s.pvHeld n j = false → (s.cm n).win = none → s.rdBit AX.PV_STATUS.LEVEL j n = false → 3000 *
    s.rdS AX.PV_DAC.TH n j + 1500 * (s.pvHys n : Int) ≤ 3 * x - (v.a + v.b + v.c) → Completes (.pvComparatorChange n j v) s fun t => t.rdBit
    AX.PV_STATUS.LEVEL j n = true ∧ t.pv n j = { clk := s.dtime, stamp := s.dtime - 8, settle := false, done := false } ∧ OnlyRegs s t
    [AX.PV_STATUS.LEVEL.addr n]) ∧
(∀ (s : State) (n : Fin 48) (j : Fin 3) (v : PhaseLevels), (s.pvHeld n j = true ∨ s.flag AX.PV_CFG.EN n = false ∨ s.pvCompare n j (s.rdBit
    AX.PV_STATUS.LEVEL j n) v = s.rdBit AX.PV_STATUS.LEVEL j n) → Completes (.pvComparatorChange n j v) s fun t => t = s) ∧
(∀ (s : State) (n : Fin 48) (w : WinH) (v : PhaseLevels), s.measUp = true → s.flag AX.PV_CFG.EN n = true → s.pvHeld n (phaseOf w.k) = false → (s.cm
    n).win = some w → w.isOpen = true → w.qualified = false → w.tObs ≤ s.dtime → s.dtime < w.tClose → s.rdBit AX.PV_STATUS.LEVEL (phaseOf w.k) n =
    risingAt w.k w.fwd → s.pvCompare n (phaseOf w.k) (risingAt w.k w.fwd) v = !(risingAt w.k w.fwd) → (s.scan n w (s.dtime - 1)).run = 0 → Completes
    (.pvComparatorChange n ⟨phaseOf w.k % 3, Nat.mod_lt _ (by decide)⟩ v) s fun t => (((t.cm n).win.map fun x => x.changes) = some ((s.dtime,
    !(risingAt w.k w.fwd), false) :: w.changes)) ∧ t.rd AX.CMT_CNT.WRONG_DIR n = min (s.rd AX.CMT_CNT.WRONG_DIR n + 1) 255) ∧
(∀ (s : State) (n : Fin 48) (phase : Fin 3) (tx : Nat),
    let rising : Bool := s.rdBit AX.PV_STATUS.LEVEL phase n;
    (s.rd AX.CMT_STATUS.STATE n = 1 ∨ s.rd AX.CMT_STATUS.STATE n = 2) → (s.pv n phase).done = false → (s.pv n phase).settle = false → (s.pv n
    phase).stamp = tx → (s.cm n).listenAt < (s.pv n phase).clk → (s.pv n phase).clk + s.rd AX.CMT_LW.QUAL n ≤ s.dtime → Completes
    (.crossingQualified n phase (s.rdBit AX.PV_STATUS.LEVEL phase n) tx) s fun t => t.rd AX.CMT_LAST n = tx % 2 ^ 64 ∧ t.rd AX.CMT_CNT.QUALIFIED n =
    (s.rd AX.CMT_CNT.QUALIFIED n + 1) % 2 ^ 16 ∧ (t.cm n).cross.head? = some (crossingIndex phase rising, tx) ∧ (t.pv n phase).done = true ∧
    OnlyRegs s t [AX.CMT_LAST.addr n, AX.CMT_LAST.addr n + 4, AX.CMT_CNT.QUALIFIED.addr n]) ∧
(∀ (s : State) (n : Fin 48) (w : WinH) (tx : Nat), s.rd AX.CMT_STATUS.STATE n ≠ 1 → s.rd AX.CMT_STATUS.STATE n ≠ 2 → (s.cm n).win = some w →
    w.isOpen = true → w.qualified = false → (s.scan n w s.dtime).hit = some tx → Completes (.crossingQualified n ⟨phaseOf w.k % 3, Nat.mod_lt _ (by
    decide)⟩ (risingAt w.k w.fwd) tx) s fun t => t.rd AX.CMT_LAST n = tx % 2 ^ 64 ∧ t.rd AX.CMT_CNT.QUALIFIED n = (s.rd AX.CMT_CNT.QUALIFIED n + 1)
    % 2 ^ 16 ∧ (((t.cm n).win.map fun x => x.qualified) = some true)) ∧
(∀ (s : State) (m : Fin 64) (n : Fin 48) (j : Fin 3) (v : Word), MayWrite s m (AX.PV_DAC.TH.addr n j) false → s.flag AX.PV_CFG.OWNER n = false →
    Completes (.pvDacWrite m n j v) s fun t => t.rd AX.PV_DAC.TH n j = v.toNat % 1024 ∧ t.pvHeld n j = true ∧ OnlyRegs s t [AX.PV_DAC.TH.addr n j]) ∧
(∀ (s : State) (m : Fin 64) (n : Fin 48) (j : Fin 3) (v : Word), MayWrite s m (AX.PV_DAC.TH.addr n j) false → s.flag AX.PV_CFG.OWNER n = true →
    Completes (.pvDacWrite m n j v) s fun t => t.flag AX.PV_STATUS.WR_REFUSED n = true ∧ OnlyRegs s t [AX.PV_STATUS.WR_REFUSED.addr n]) ∧
(∀ (s : State) (n : Fin 48) (j : Fin 3) (v : PhaseLevels),
    let was : Bool := s.rdBit AX.PV_STATUS.LEVEL j n;
    Tab.get 0 s.pvSettle (n.val * 4 + j) ≠ 0 → Tab.get 0 s.pvSettle (n.val * 4 + j) ≤ s.dtime → s.measUp = true → s.flag AX.PV_CFG.EN n = true →
    (s.cm n).win = none → Completes (.pvDacSettled n j v) s fun t => t.pvHeld n j = false ∧ t.rdBit AX.PV_STATUS.LEVEL j n = s.pvCompare n j was v ∧
    (s.pvCompare n j was v ≠ was → t.pv n j = { clk := s.dtime, stamp := Tab.get 0 s.pvSettle (n.val * 4 + j), settle := true, done := false }) ∧
    OnlyRegs s t [AX.PV_STATUS.LEVEL.addr n])

/-- R140 to R145: a start listens first, standstill leads to ALIGN, ALIGN to OPEN, braking to listening, and a start that waits, brakes or opens too
long ends with its RESULT and EN cleared; an abort is noted by its write and ends the start so in the next clock. Where the spec leaves a reading
open it states the model's, of log entries 31, 34 and 35. -/
def Obligations.StartCommands : Prop :=
(∀ (s : State) (m : Fin 64) (n : Fin 48), MayWrite s m (AX.CMT_START.GO.addr n) false → s.axOn n = true → s.flag AX.PWM_CTRL.SRC n = true → s.flag
    AX.FOC_CTRL.RUN n = false → s.rd AX.CMT_STATUS.STATE n = 0 → Completes (.startGo m n) s fun t => t.rd AX.CMT_STATUS.STATE n = cmtListen ∧ t.rd
    AX.CMT_STATUS.RESULT n = 0 ∧ (t.cm n).cross = [] ∧ (t.cm n).phaseEnd = s.dtime + s.rd AX.CMT_TIMES.LISTEN_T n * msTicks ∧ (s.flag
    AX.PV_CFG.OWNER n = true → t.pvHeld n 0 = true ∧ t.pvHeld n 1 = true ∧ t.pvHeld n 2 = true) ∧ (t.cm n).listenAt = s.dtime) ∧
(∀ (s : State) (m : Fin 64) (n : Fin 48), MayWrite s m (AX.CMT_START.GO.addr n) false → s.rd AX.CMT_STATUS.STATE n ≠ 0 → Completes (.startGo m n) s
    fun t => t.flag AX.CMT_STATUS.GO_REFUSED n = true ∧ OnlyRegs s t [AX.CMT_STATUS.GO_REFUSED.addr n]) ∧
(∀ (s : State) (m : Fin 64) (n : Fin 48), MayWrite s m (AX.CMT_START.GO.addr n) false → s.rd AX.CMT_STATUS.STATE n ≠ 0 → Completes (.startAbort m n)
    s fun t => t.cm n = { (s.cm n) with abort := true } ∧ t.rd AX.CMT_STATUS.STATE n = s.rd AX.CMT_STATUS.STATE n ∧ t.axOn n = s.axOn n ∧ t.regs =
    s.regs ∧ t.resp.err = false) ∧
(∀ (s : State) (n : Fin 48), s.rd AX.CMT_STATUS.STATE n = cmtListen → (s.cm n).cross = [] → (s.cm n).phaseEnd ≤ s.dtime → s.rd
    AX.CMT_CTRL.START_MODE n = 0 → Completes (.listenEnd n) s fun t => t.rd AX.CMT_STATUS.STATE n = cmtAlign ∧ (t.cm n).phaseEnd = s.dtime + s.rd
    AX.CMT_TIMES.ALIGN_T n * msTicks ∧ (t.cm n).angle = toS 24 (s.rd AX.CMT_OFS.OFS n) ∧ OnlyRegs s t [AX.CMT_STATUS.STATE.addr n]) ∧
(∀ (s : State) (n : Fin 48) (e : Nat), s.rd AX.CMT_STATUS.STATE n = cmtWait → (s.cm n).waitEnd = some e → e ≤ s.dtime → Completes (.waitTimeout n) s
    fun t => t.rd AX.CMT_STATUS.STATE n = 0 ∧ t.rd AX.CMT_STATUS.RESULT n = 6 ∧ t.axOn n = false) ∧
(∀ (s : State) (n : Fin 48), s.rd AX.CMT_STATUS.STATE n = cmtBrake → (s.cm n).phaseEnd ≤ s.dtime → Completes (.brakeEnd n) s fun t => t.rd
    AX.CMT_STATUS.STATE n = cmtListen ∧ (t.cm n).cross = [] ∧ (t.cm n).brakes = (s.cm n).brakes ∧ (t.cm n).phaseEnd = s.dtime + s.rd
    AX.CMT_TIMES.LISTEN_T n * msTicks) ∧
(∀ (s : State) (n : Fin 48) (a b c d : Nat), s.rd AX.CMT_STATUS.STATE n = cmtListen → (s.cm n).cross = [(3, d), (2, c), (1, b), (0, a)] → a < d →
    rne (2 ^ 47) ((d - a : Nat) : Int) ≤ (s.rd AX.CMT_CATCH_MAX.VALUE n : Int) → rne (2 ^ 47) ((d - a : Nat) : Int) < 2 ^ 31 → 0 < rne (2 ^ 47) ((d
    - a : Nat) : Int) → s.rdS AX.SPD_TARGET.VALUE n < 0 → s.rd AX.CMT_CTRL.REV_MODE n = 3 → Completes (.listenEnd n) s fun t => t.rdS
    AX.CMT_MEAS_SPD.VALUE n = rne (2 ^ 47) ((d - a : Nat) : Int) ∧ t.flag AX.CMT_STATUS.DIR n = false ∧ (s.rd AX.CMT_LIMITS.BRAKE_N n ≤ (s.cm
    n).brakes → t.rd AX.CMT_STATUS.STATE n = 0 ∧ t.rd AX.CMT_STATUS.RESULT n = 7 ∧ t.axOn n = false) ∧ ((s.cm n).brakes < s.rd AX.CMT_LIMITS.BRAKE_N
    n → t.rd AX.CMT_STATUS.STATE n = cmtBrake ∧ (t.cm n).brakes = (s.cm n).brakes + 1 ∧ (t.cm n).phaseEnd = s.dtime + s.rd AX.CMT_TIMES.BRAKE_T n *
    msTicks)) ∧
(∀ (s : State) (n : Fin 48), s.rd AX.CMT_STATUS.STATE n = cmtAlign → (s.cm n).phaseEnd ≤ s.dtime → Completes (.alignEnd n) s fun t => t.rd
    AX.CMT_STATUS.STATE n = cmtOpen ∧ t.rd AX.SPD_REF.REF n = 0 ∧ (t.cm n).phaseEnd = s.dtime + s.rd AX.CMT_TIMES.OPEN_T n * 10 * msTicks ∧ (t.cm
    n).angle = (s.cm n).angle) ∧
(∀ (s : State) (n : Fin 48), s.rd AX.CMT_STATUS.STATE n = cmtOpen → (s.cm n).phaseEnd ≤ s.dtime → Completes (.handoverFail n) s fun t => t.rd
    AX.CMT_STATUS.STATE n = 0 ∧ t.rd AX.CMT_STATUS.RESULT n = 8 ∧ t.axOn n = false) ∧
  (∀ (s : State) (n : Fin 48), s.pending = [] → s.posted = [] → (s.cm n).abort = true → s.rd AX.CMT_STATUS.STATE n ≠ 0 →
      ∃ t, step s = .next t ∧ t.rd AX.CMT_STATUS.STATE n = 0 ∧ t.rd AX.CMT_STATUS.RESULT n = 9 ∧ t.axOn n = false ∧ (t.cm n).abort = false)

/-- R114, R128, R126, R329: cmpApply completes for each of the three compensators: a write of CMP_CFG.APPLY changes none of the coefficients in use,
and the compensator that the next step takes has the shadow's B0 to B3, A1 to A3 and LIM and no APPLY left; spdPreset completes: the preset waits
for the next speed-loop step, which sets REF to the measured speed and REM to 0; spdDerateWrite completes: AX.SPD_DERATE takes the value written,
its TQ the smaller of it and the ceiling of a DERATE reaction in force. That of two writes in one clock each field takes the smaller value is said
by R256 of results alone, and for other writes is the model's reading (log entry 31). -/
def Obligations.LoopRegisterCommands : Prop :=
(∀ (s : State) (m : Fin 64) (n : Fin 48) (v : Word), MayWrite s m (cmpD n) false → Completes (.cmpApply m n 0 v) s fun t => (t.fo n).cd = { (s.fo
    n).cd with apply := true } ∧ (t.cmpTake (cmpD n) (t.fo n).cd).b = [s.rdS CMP.B.B (cmpD n) 0, s.rdS CMP.B.B (cmpD n) 1, s.rdS CMP.B.B (cmpD n) 2,
    s.rdS CMP.B.B (cmpD n) 3] ∧ (t.cmpTake (cmpD n) (t.fo n).cd).a = [s.rdS CMP.A.A (cmpD n) 0, s.rdS CMP.A.A (cmpD n) 1, s.rdS CMP.A.A (cmpD n) 2]
    ∧ ((t.cmpTake (cmpD n) (t.fo n).cd).lim = s.rd CMP.LIM.LIM (cmpD n) ∧ (t.cmpTake (cmpD n) (t.fo n).cd).apply = false) ∧ ((t.cmpTake (cmpD n)
    (t.fo n).cd).e = (s.fo n).cd.e ∧ (t.cmpTake (cmpD n) (t.fo n).cd).y = (s.fo n).cd.y) ∧ (t.fo n).cq = (s.fo n).cq ∧ (t.fo n).cs = (s.fo n).cs ∧
    (s.flag AX.FOC_CTRL.LOCK n = false → OnlyRegs s t [cmpD n])) ∧
(∀ (s : State) (m : Fin 64) (n : Fin 48) (v : Word), MayWrite s m (cmpQ n) false → Completes (.cmpApply m n 1 v) s fun t => (t.fo n).cq = { (s.fo
    n).cq with apply := true } ∧ (t.cmpTake (cmpQ n) (t.fo n).cq).b = [s.rdS CMP.B.B (cmpQ n) 0, s.rdS CMP.B.B (cmpQ n) 1, s.rdS CMP.B.B (cmpQ n) 2,
    s.rdS CMP.B.B (cmpQ n) 3] ∧ (t.cmpTake (cmpQ n) (t.fo n).cq).a = [s.rdS CMP.A.A (cmpQ n) 0, s.rdS CMP.A.A (cmpQ n) 1, s.rdS CMP.A.A (cmpQ n) 2]
    ∧ ((t.cmpTake (cmpQ n) (t.fo n).cq).lim = s.rd CMP.LIM.LIM (cmpQ n) ∧ (t.cmpTake (cmpQ n) (t.fo n).cq).apply = false) ∧ ((t.cmpTake (cmpQ n)
    (t.fo n).cq).e = (s.fo n).cq.e ∧ (t.cmpTake (cmpQ n) (t.fo n).cq).y = (s.fo n).cq.y) ∧ (t.fo n).cd = (s.fo n).cd ∧ (t.fo n).cs = (s.fo n).cs ∧
    (s.flag AX.FOC_CTRL.LOCK n = false → OnlyRegs s t [cmpQ n])) ∧
(∀ (s : State) (m : Fin 64) (n : Fin 48) (v : Word), MayWrite s m (cmpS n) false → Completes (.cmpApply m n 2 v) s fun t => (t.fo n).cs = { (s.fo
    n).cs with apply := true } ∧ (t.cmpTake (cmpS n) (t.fo n).cs).b = [s.rdS CMP.B.B (cmpS n) 0, s.rdS CMP.B.B (cmpS n) 1, s.rdS CMP.B.B (cmpS n) 2,
    s.rdS CMP.B.B (cmpS n) 3] ∧ (t.cmpTake (cmpS n) (t.fo n).cs).a = [s.rdS CMP.A.A (cmpS n) 0, s.rdS CMP.A.A (cmpS n) 1, s.rdS CMP.A.A (cmpS n) 2]
    ∧ ((t.cmpTake (cmpS n) (t.fo n).cs).lim = s.rd CMP.LIM.LIM (cmpS n) ∧ (t.cmpTake (cmpS n) (t.fo n).cs).apply = false) ∧ ((t.cmpTake (cmpS n)
    (t.fo n).cs).e = (s.fo n).cs.e ∧ (t.cmpTake (cmpS n) (t.fo n).cs).y = (s.fo n).cs.y) ∧ (t.fo n).cd = (s.fo n).cd ∧ (t.fo n).cq = (s.fo n).cq ∧
    (s.flag AX.FOC_CTRL.LOCK n = false → OnlyRegs s t [cmpS n])) ∧
(∀ (s : State) (m : Fin 64) (n : Fin 48) (v : Word), MayWrite s m (AX.SPD_CTRL.DIV.addr n) false → s.flag AX.FOC_CTRL.LOCK n = false → Completes
    (.spdPreset m n v) s fun t => (t.fo n).preset = true ∧ t.rd AX.SPD_CTRL.DIV n = v.toNat % 256 ∧ OnlyRegs s t [AX.SPD_CTRL.DIV.addr n]) ∧
(∀ (s : State) (m : Fin 64) (n : Fin 48) (v : Word), MayWrite s m (AX.SPD_CTRL.DIV.addr n) false → s.flag AX.FOC_CTRL.LOCK n = true → Completes
    (.spdPreset m n v) s fun t => (t.fo n).preset = true ∧ t.rd AX.SPD_CTRL.DIV n = s.rd AX.SPD_CTRL.DIV n) ∧
(∀ (s : State) (m : Fin 64) (n : Fin 48) (v : Word), MayWrite s m (AX.SPD_DERATE.TQ.addr n) true → (s.sx n).derAt ≠ some s.dtime → (s.sx n).ceil =
    none → Completes (.spdDerateWrite m n v) s fun t => t.rd AX.SPD_DERATE.TQ n = v.toNat % 2 ^ 16 ∧ t.rd AX.SPD_DERATE.ACC n = v.toNat / 2 ^ 16 ∧
    OnlyRegs s t [AX.SPD_DERATE.TQ.addr n]) ∧
(∀ (s : State) (m : Fin 64) (n : Fin 48) (v : Word) (x : Nat), MayWrite s m (AX.SPD_DERATE.TQ.addr n) true → (s.sx n).derAt ≠ some s.dtime → (s.sx
    n).ceil = some x → Completes (.spdDerateWrite m n v) s fun t => t.rd AX.SPD_DERATE.TQ n = min (v.toNat % 2 ^ 16) x ∧ t.rd AX.SPD_DERATE.ACC n =
    v.toNat / 2 ^ 16 ∧ OnlyRegs s t [AX.SPD_DERATE.TQ.addr n]) ∧
(∀ (s : State) (m : Fin 64) (n : Fin 48) (v : Word), MayWrite s m (AX.SPD_DERATE.TQ.addr n) true → (s.sx n).derAt = some s.dtime → (s.sx n).ceil =
    none → Completes (.spdDerateWrite m n v) s fun t => t.rd AX.SPD_DERATE.TQ n = min (v.toNat % 2 ^ 16) (s.rd AX.SPD_DERATE.TQ n) ∧ t.rd
    AX.SPD_DERATE.ACC n = min (v.toNat / 2 ^ 16) (s.rd AX.SPD_DERATE.ACC n) ∧ OnlyRegs s t [AX.SPD_DERATE.TQ.addr n]) ∧
  (∀ (s : State) (base : Nat) (h : CmpH), (h.apply = false → s.cmpTake base h = h) ∧
      (h.apply = true → s.cmpTake base h = { h with
        apply := false
        b := [s.rdS CMP.B.B base 0, s.rdS CMP.B.B base 1, s.rdS CMP.B.B base 2, s.rdS CMP.B.B base 3]
        a := [s.rdS CMP.A.A base 0, s.rdS CMP.A.A base 1, s.rdS CMP.A.A base 2]
        lim := s.rd CMP.LIM.LIM base })) ∧
  (∀ (s : State) (n : Fin 48) (dt : Nat) (v : Int), (s.fo n).preset = true → (s.sx n).ss1 = none → -2 ^ 31 ≤ v → v < 2 ^ 31 →
      (s.rampStep n dt v).rdS AX.SPD_REF.REF n = v ∧ ((s.rampStep n dt v).fo n).rem = 0 ∧ ((s.rampStep n dt v).fo n).preset = false)

/-- R90, R91, R152, R153, R158, R160, R162: chopper current is shown, chopper faults latch their cause and drive the gate low, a latched fault or
threshold 2 clears only below TH1_OFF. Where the spec leaves a reading open it states the model's, of log entries 24 and 36. -/
def Obligations.BusChopperCommands : Prop :=
(∀ (s : State) (b : Fin 8) (v : BallLevel), s.measUp = true → s.flag MF.DCB_STATUS.CHFB b = false → (s.sg b).chfb = false → 1250000 * s.rd
    MF.DCB_CFG.CHFB_TH b + 1024 * 4000 ≤ 1024 * v.uv → (v.since + 7 ≤ s.dtime ∧ (s.sg b).thAt + 7 ≤ s.dtime ∧ s.pwr.measAt + 7 ≤ s.dtime) →
    Completes (.chfbChange b v) s fun t => t.flag MF.DCB_STATUS.CHFB b = true ∧ (t.sg b).curEdge = s.dtime ∧ OnlyRegs s t [MF.DCB_STATUS.CHFB.addr
    b]) ∧
(∀ (s : State) (b : Fin 8) (v : BallLevel), s.measUp = true → s.flag MF.DCB_STATUS.CHFB b = true → 1024 * v.uv + 1024 * 4000 < 1250000 * s.rd
    MF.DCB_CFG.CHFB_TH b → Completes (.chfbChange b v) s fun t => t.flag MF.DCB_STATUS.CHFB b = false ∧ (t.sg b).curEdge = s.dtime ∧ OnlyRegs s t
    [MF.DCB_STATUS.CHFB.addr b]) ∧
(∀ (s : State) (b : Fin 8), s.flag BUS.STATUS.CHOP_ON b = true → s.flag MF.DCB_STATUS.CHFB b = false → max (s.sg b).riseAt (s.sg b).curEdge + 6400 ≤
    s.dtime → Room s → Completes (.chopNoCurrent b) s fun t => t.flag BUS.STATUS.CHOP_ON b = false ∧ t.flag BUS.STATUS.CHOP_FAULT b = true ∧ t.rd
    BUS.STATUS.CAUSE b = 1 ∧ t.rd BUS.CHOP_FAULT_TIME b = s.dtime % 2 ^ 64 ∧ Noted t 0x0402 (srcSegment b) s.dtime) ∧
(∀ (s : State) (b : Fin 8), s.flag BUS.STATUS.CHOP_ON b = true → s.rd BUS.CHOP_CFG.MAX_ON b ≠ 0 → (s.sg b).riseAt + s.rd BUS.CHOP_CFG.MAX_ON b *
    msTicks ≤ s.dtime → s.flag MF.DCB_STATUS.CHFB b = true → Room s → Completes (.chopOverload b) s fun t => t.flag BUS.STATUS.CHOP_ON b = false ∧
    t.flag BUS.STATUS.CHOP_FAULT b = true ∧ t.rd BUS.STATUS.CAUSE b = 2 ∧ Noted t 0x0402 (srcSegment b) s.dtime) ∧
(∀ (s : State) (b : Fin 8), s.flag BUS.STATUS.CHOP_ON b = false → s.flag MF.DCB_STATUS.CHFB b = true → s.flag BUS.STATUS.CHOP_STUCK b = false → max
    ((s.sg b).fallAt.getD 0) (s.sg b).curEdge + 6400 ≤ s.dtime → s.segAxes b = [] → Room s → Completes (.chopStuck b) s fun t => t.flag
    BUS.STATUS.CHOP_STUCK b = true ∧ t.flag SAF.STATUS.FAULT = true ∧ t.rd SAF.FAULT_LAST.CODE = 15 ∧ Noted t 0x0403 (srcSegment b) s.dtime) ∧
(∀ (s : State) (m : Fin 64) (b : Fin 8), MayWrite s m (BUS.STATUS.T2.addr b) false → s.rd BUS.VNOW.V b ≤ s.rd BUS.TH1.TH1_OFF b → s.flag
    BUS.STATUS.T2 b = false → Completes (.chopFaultClear m b) s fun t => t.flag BUS.STATUS.CHOP_FAULT b = false ∧ OnlyRegs s t
    [BUS.STATUS.CHOP_FAULT.addr b]) ∧
(∀ (s : State) (m : Fin 64) (b : Fin 8), MayWrite s m (BUS.STATUS.T2.addr b) false → s.rd BUS.TH1.TH1_OFF b < s.rd BUS.VNOW.V b → s.flag
    BUS.STATUS.CHOP_FAULT b = true → Completes (.chopFaultClear m b) s fun t => t.flag BUS.STATUS.CHOP_FAULT b = true ∧ t.regs = s.regs) ∧
(∀ (s : State) (m : Fin 64) (b : Fin 8), MayWrite s m (BUS.STATUS.T2.addr b) false → s.rd BUS.VNOW.V b ≤ s.rd BUS.TH1.TH1_OFF b → s.flag
    MF.DCB_STATUS.OV b = false → Completes (.t2Clear m b) s fun t => t.flag BUS.STATUS.T2 b = false ∧ OnlyRegs s t [BUS.STATUS.T2.addr b]) ∧
(∀ (s : State) (b : Fin 8) (uv : Nat), s.measUp = true → s.saf.ovDead = [] → s.flag MF.DCB_STATUS.OV b = false → s.flag BUS.STATUS.T2 b = false →
    1250000 * s.rd MF.DCB_CFG.OV_TH b + 1024 * 4000 ≤ 1024 * uv → Completes (.ovComparator b uv) s fun t => t.flag MF.DCB_STATUS.OV b = true ∧ (t.sg
    b).t2 = some ((s.sg b).t2.getD (s.rd BUS.VNOW.V b, true)) ∧ (s.flag BUS.STATUS.NO_SAMPLE b = false → (s.sg b).sat = false → OnlyRegs s t
    [MF.DCB_STATUS.OV.addr b])) ∧
(∀ (s : State) (b : Fin 8) (uv : Nat), s.measUp = true → s.flag MF.DCB_STATUS.OV b = true → 1024 * uv + 1024 * 4000 < 1250000 * s.rd
    MF.DCB_CFG.OV_TH b → s.flag BUS.STATUS.NO_SAMPLE b = false → (s.sg b).sat = false → Completes (.ovComparator b uv) s fun t => t.flag
    MF.DCB_STATUS.OV b = false ∧ OnlyRegs s t [MF.DCB_STATUS.OV.addr b]) ∧
  (∀ (s : State) (b : Fin 8) (code : Nat) (cmp : Bool), (∀ k, (s.sg k).t2 = none ↔ k ≠ b.val) → (s.sg b).t2 = some (code, cmp) → s.flag BUS.STATUS.T2 b = false →
      s.segAxes b = [] → Room s → ∀ t, t = s.forEach (List.range 8) (fun s b => match (s.sg b).t2 with
        | none => s
        | some x => (s.updSg b fun h => { h with t2 := none }).t2Act b x.1 x.2) →
      t = s.t2Clock ∧ t.flag BUS.STATUS.T2 b = true ∧ t.rd BUS.T2_TIME b = s.dtime % 2 ^ 64 ∧ Noted t 0x0405 (srcSegment b) s.dtime)

/-- R89, R148, R149, R151, R166: a delivered sample is shown and switches the chopper, thresholds keep their order, and the account is cleared at
the next sample and copied in one clock by a snapshot. Where the spec leaves a reading open it states the model's, of log entries 23 and 36. -/
def Obligations.BusSampleCommands : Prop :=
(∀ (s : State) (b : Fin 8) (stamp : Nat) (raw : Fin 65536),
    let v : Int := clampI 0 65535 (Sys2Proof.Machine.correct (raw.val : Int) (s.rdS MF.CAL_OFS.OFS 0 b) (s.rdS MF.CAL_GAIN.GAIN 0 b));
    s.measUp = true → stamp % 320 = 0 → stamp ≤ s.dtime → s.dtime ≤ stamp + 256 → s.flag BUS.STATUS.NO_SAMPLE b = false → v =
    Sys2Proof.Machine.correct (raw.val : Int) (s.rdS MF.CAL_OFS.OFS 0 b) (s.rdS MF.CAL_GAIN.GAIN 0 b) → s.segAxes b = [] → (s.rd BUS.TH1.TH1_ON b :
    Int) ≤ v → s.chopUnavail b = false → Completes (.dcbSampleDelivered b stamp raw) s fun t => (t.rd BUS.VNOW.V b : Int) = v ∧ t.flag
    BUS.STATUS.CHOP_ON b = true ∧ ((t.sg b).code : Int) = v) ∧
(∀ (s : State) (m : Fin 64) (b : Fin 8) (v : Word), MayWrite s m (BUS.UV.UV.addr b) false → (s.writeFields (BUS.UV.UV.addr b) v.toNat).1.thOrder b =
    true → (s.writeFields (BUS.UV.UV.addr b) v.toNat).2 = .ok → Completes (.busThWrite m b 2 v) s fun t => t.thOrder b = true ∧ t.resp.err = false ∧
    OnlyRegs s t [BUS.UV.UV.addr b]) ∧
(∀ (s : State) (m : Fin 64) (b : Fin 8) (which : Fin 3) (v : Word), MayWrite s m (BUS.TH1.TH1_ON.addr b + 4 * which) false → (s.writeFields
    (BUS.TH1.TH1_ON.addr b + 4 * which) v.toNat).1.thOrder b = false → Completes (.busThWrite m b which v) s fun t => t.flag BUS.STATUS.CFG_REFUSED
    b = true ∧ OnlyRegs s t [BUS.STATUS.CFG_REFUSED.addr b]) ∧
(∀ (s : State) (m : Fin 64) (b : Fin 8) (v : Word), MayWrite s m (BUS.ACC_CTRL.AUTO.addr b) false → bit v.toNat 1 = false → Completes (.accClear m b
    v) s fun t => (t.sg b).clear = true ∧ (t.sg b).autoRef = s.dtime ∧ OnlyRegs s t [BUS.ACC_CTRL.AUTO.addr b]) ∧
(∀ (s : State) (m : Fin 64) (b : Fin 8) (v : Word), MayWrite s m (BUS.ACC_CTRL.AUTO.addr b) false → Completes (.accSnap m b v) s fun t => t.rd BUS.E
    b 0 = (s.sg b).eCapStart % 2 ^ 64 ∧ t.rd BUS.E b 1 = (s.sg b).eCapNow % 2 ^ 64 ∧ t.rd BUS.E b 2 = (s.sg b).eMot % 2 ^ 64 ∧ t.rd BUS.E b 5 =
    (s.sg b).eSrc % 2 ^ 64 ∧ t.rd BUS.ACC_SNAP_TIME b = s.dtime % 2 ^ 64) ∧
(∀ (s : State) (b : Fin 8), s.rd BUS.ACC_CTRL.AUTO b ≠ 0 → (s.sg b).autoRef + s.rd BUS.ACC_CTRL.AUTO b * msTicks ≤ s.dtime → Completes (.accAutoSnap
    b) s fun t => t.rd BUS.E b 3 = (s.sg b).eReg % 2 ^ 64 ∧ t.rd BUS.E b 4 = (s.sg b).eChop % 2 ^ 64 ∧ t.rd BUS.ACC_SNAP_TIME b = s.dtime % 2 ^ 64 ∧
    (t.sg b).autoRef = s.dtime)

/-- R92, R95, R97, R102: a powered and settled channel delivers its sample to its monitor set, a change of its configuration restarts it, and a
pair's lock sets and clears. Where the spec leaves a reading open it states the model's, of log entry 2. -/
def Obligations.VibrationCommands : Prop :=
(∀ (s : State) (c : Fin 32) (stamp : Nat) (raw : Int), s.flag MF.VIB_CFG.PD c = false → s.flag MF.VIB_CFG.PAIR c = false → s.vibOdd c = false →
    s.vibCal = false → s.flag MF.VIB_STATUS.SETTLING c = false → stamp % 1250 = 0 → s.dtime = stamp + s.vibDelay c → s.babLive c = false → absI
    (Sys2Proof.Machine.correct raw (s.rdS MF.CAL_OFS.OFS 0 (8 + c)) (s.rdS MF.CAL_GAIN.GAIN 0 (8 + c))) < 2 ^ 23 → Completes (.vibSample c stamp
    raw) s fun t => (t.mon (monVib c)).now = ((s.mon (monVib c)).before s.dtime).now ++ [(Sys2Proof.Machine.correct raw (s.rdS MF.CAL_OFS.OFS 0 (8 +
    c)) (s.rdS MF.CAL_GAIN.GAIN 0 (8 + c)), stamp, false)] ∧ t.regs = s.regs) ∧
(∀ (s : State) (m : Fin 64) (c : Fin 32) (v : Word), MayWrite s m (MF.VIB_CFG.PD.addr c) false → s.flag MF.VIB_CFG.PD c = true → bit v.toNat 0 =
    false → bit v.toNat 3 = false → s.vibOdd c = false → s.babLive c = false → Completes (.vibRestart m c false v) s fun t => t.flag MF.VIB_CFG.PD c
    = false ∧ t.flag MF.VIB_STATUS.SETTLING c = true ∧ t.rd MF.VIB_STATUS.RESTART_CNT c = (s.rd MF.VIB_STATUS.RESTART_CNT c + 1) % 2 ^
    MF.VIB_STATUS.RESTART_CNT.width ∧ (t.vib c).wakeAt = some s.dtime ∧ (t.vib c).settleEnd.isSome = true) ∧
(∀ (s : State) (c : Fin 32) (e : Nat), (s.vib c).settleEnd = some e → e ≤ s.dtime → Completes (.vibSettled c) s fun t => t.flag
    MF.VIB_STATUS.SETTLING c = false ∧ (t.vib c).settleEnd = none ∧ OnlyRegs s t [MF.VIB_STATUS.SETTLING.addr c]) ∧
(∀ (s : State) (c : Fin 32), s.flag MF.VIB_CFG.PAIR c = true → Completes (.intlvLock c) s fun t => t.flag MF.VIB_STATUS.INTLV_LOCK c = true ∧
    OnlyRegs s t [MF.VIB_STATUS.INTLV_LOCK.addr c]) ∧
(∀ (s : State) (c : Fin 32), Completes (.intlvLockLoss c) s fun t => t.flag MF.VIB_STATUS.INTLV_LOCK c = false ∧ OnlyRegs s t
    [MF.VIB_STATUS.INTLV_LOCK.addr c])

/-- R99 to R102: a start runs the first entry that converts, a finished conversion writes its result, a delay leads to the next entry, an urgent
request is registered, a stop ends a delay, and a converter is ready 640 ticks after its wake. Where the spec leaves a reading open it states the
model's, of log entries 2 and 26. -/
def Obligations.HousekeepingCommands : Prop :=
(∀ (s : State) (m : Fin 64) (k : Fin 4) (v : Word) (e : Nat), MayWrite s m (HK.CTRL.START.addr k) false → s.flag HK.STATUS.RUN k = false → s.flag
    HK.CTRL.PD_AUTO k = false → bit v.toNat 2 = false → bit v.toNat 3 = false → s.hkNext k 64 0 = some e → e < 64 → Completes (.hkStart m k v) s fun
    t => t.flag HK.STATUS.RUN k = true ∧ t.rd HK.STATUS.ENTRY k = e ∧ (t.hk k).phase = .conv ∧ (t.hk k).entry = e) ∧
(∀ (s : State) (m : Fin 64) (k : Fin 4) (v : Word), MayWrite s m (HK.CTRL.START.addr k) false → s.flag HK.STATUS.RUN k = true → (s.hk k).phase =
    .conv → bit v.toNat 3 = false → Completes (.hkStart m k v) s fun t => t.flag HK.STATUS.START_OVR k = true ∧ (t.hk k).phase = .conv ∧ (t.hk
    k).entry = (s.hk k).entry) ∧
(∀ (s : State) (m : Fin 64) (k : Fin 4) (v : Word), MayWrite s m (HK.CTRL.START.addr k) false → (s.hk k).phase = .delay → bit v.toNat 0 = false →
    Completes (.hkStop m k v) s fun t => t.flag HK.STATUS.RUN k = false ∧ (t.hk k).phase = .idle) ∧
(∀ (s : State) (k : Fin 4) (raw : Int) (t0 : Nat),
    let u : HkH := s.hk k;
    u.urg = none → u.phase = .conv → u.start = some t0 → t0 + acqTicks (bits u.word 11 8) + convTicks ≤ s.dtime → bits u.word 19 12 ≤ u.conv + 1 →
    bit u.word 28 = false → u.entry < 64 → u.stop = true → Completes (.hkConversionDone k raw) s fun t => (t.rdS HK.RESULT.VALUE k u.entry =
    (s.hkValue k (bits u.word 5 0) raw).1 ∨ (2 ^ 15 : Int) ≤ (s.hkValue k (bits u.word 5 0) raw).1) ∧ t.flag HK.RESULT.VALID k u.entry = true ∧ t.rd
    HK.STAMP k u.entry = (t0 + acqTicks (bits u.word 11 8)) % 2 ^ 64 ∧ (t.hk k).phase = .idle) ∧
(∀ (s : State) (k : Fin 4) (e : Nat), (s.hk k).phase = .delay → (s.hk k).delayEnd ≤ s.dtime → (s.hk k).urg = none → (s.hk k).stop = false → bit
    (s.hk k).word 29 = false → (s.hk k).entry < 63 → s.hkNext k 64 ((s.hk k).entry + 1) = some e → e < 64 → Completes (.hkDelayExpiry k) s fun t =>
    (t.hk k).phase = .conv ∧ (t.hk k).entry = e ∧ t.rd HK.STATUS.ENTRY k = e ∧ OnlyRegs s t [HK.STATUS.ENTRY.addr k]) ∧
(∀ (s : State) (k : Fin 4) (v : Word), (s.hk k).urg = none → (s.hk k).awake = true → s.cal = none → Completes (.hkUrgent 0 k true v) s fun t =>
    (((t.hk k).urg.map fun u => u.ch) = some (bits v.toNat 7 2)) ∧ (((t.hk k).urg.map fun u => u.start) = some (some s.dtime)) ∧ (t.hk k).start =
    none) ∧
(∀ (s : State) (n : Fin 48) (e : Nat), (s.hk (n % 4)).wakeAt = some e → e + 640 ≤ s.dtime → Completes (.converterWakeDone false n) s fun t => (t.hk
    (n % 4)).awake = true ∧ (t.hk (n % 4)).wakeAt = none ∧ t.regs = s.regs) ∧
(∀ (s : State) (n : Fin 48) (e : Nat), (s.pw n).wakeAt = some e → e + 640 ≤ s.dtime → Completes (.converterWakeDone true n) s fun t => (t.pw
    n).awake = true ∧ (t.pw n).wakeAt = none ∧ t.regs = s.regs)

/-- R103 to R106: calCmdStart: while the firmware runs, a calibration starts unless one is busy; calComplete: it ends; where every reference buffer
lies within 0.5 % of the bandgap, with every selected factor within its limits stored and the converter's CAL_ERR cleared, a factor outside them
kept and CAL_ERR set, or, where the reference failed, all factors kept; monSnap and monAutoSnap: a snapshot copies every value of a monitor set in
one clock and restarts the set, with the samples of its own clock in the new interval. Where the spec leaves a reading open it states the model's,
of log entries 25 and 26. -/
def Obligations.CalibrationAndMonitorCommands : Prop :=
(∀ (s : State) (m : Fin 64) (v : Word), MayWrite s m MF.CAL_CMD.START.base true → s.rd SUP.FW_STATUS.STATE = 3 → s.flag MF.CAL_STATUS.BUSY = false →
    Completes (.calCmdStart m v) s fun t => t.flag MF.CAL_STATUS.BUSY = true ∧ ((t.cal.map fun c => c.start) = some s.dtime) ∧ ((t.cal.map fun c =>
    c.sel) = some (bits v.toNat 4 1)) ∧ (bit v.toNat 1 = false → bit v.toNat 2 = false → OnlyRegs s t [MF.CAL_CMD.START.base,
    MF.CAL_STATUS.BUSY.base])) ∧
(∀ (s : State) (m : Fin 64) (v : Word), MayWrite s m MF.CAL_CMD.START.base true → s.rd SUP.FW_STATUS.STATE = 3 → s.flag MF.CAL_STATUS.BUSY = true →
    Completes (.calCmdStart m v) s fun t => t.flag MF.CAL_STATUS.CAL_REFUSED = true ∧ t.cal = s.cal ∧ OnlyRegs s t [MF.CAL_STATUS.CAL_REFUSED.base]) ∧
(∀ (s : State) (m : Fin 64) (v : Word), MayWrite s m MF.CAL_CMD.START.base true → s.rd SUP.FW_STATUS.STATE ≠ 3 → s.flag MF.CAL_STATUS.BUSY = false →
    Completes (.calCmdStart m v) s fun t => t.resp.err = false ∧ t.cal = s.cal ∧ t.flag MF.CAL_STATUS.BUSY = false ∧ bits (t.reg
    MF.CAL_CMD.START.base).toNat 4 1 = bits v.toNat 4 1 ∧ OnlyRegs s t [MF.CAL_CMD.START.base]) ∧
(∀ (s : State) (r : RefCheck) (f : List (Nat × Int × Int)) (c : CalH), s.cal = some c → (∀ b ∈ r.buffers, 1000 * absI ((b : Int) - r.bandgap) ≤ 5 *
    (r.bandgap : Int)) → Completes (.calComplete r f) s fun t => t.flag MF.CAL_STATUS.BUSY = false ∧ t.flag MF.CAL_STATUS.DONE = true ∧ t.cal = none
    ∧ t.rd MF.CAL_TIME = s.dtime % 2 ^ 64 ∧ (Room s → c.sel < 4 → (f.all fun x => calInLimit x.1 x.2.1 x.2.2) = true → Noted t 0x0212 srcModule
    s.dtime)) ∧
(∀ (s : State) (r : RefCheck) (f : List (Nat × Int × Int)) (c : CalH) (i : Fin 44) (o g : Int), s.cal = some c → calSelected c i = true → ((f.filter
    fun x => decide (x.1 = i.val)) = [(i.val, o, g)]) → (∀ b ∈ r.buffers, 1000 * absI ((b : Int) - r.bandgap) ≤ 5 * (r.bandgap : Int)) → Completes
    (.calComplete r f) s fun t => (calInLimit i o g = true → t.rdS MF.CAL_OFS.OFS 0 i = o ∧ t.rdS MF.CAL_GAIN.GAIN 0 i = g) ∧ (calInLimit i o g =
    false → t.rd MF.CAL_OFS.OFS 0 i = s.rd MF.CAL_OFS.OFS 0 i ∧ t.rd MF.CAL_GAIN.GAIN 0 i = s.rd MF.CAL_GAIN.GAIN 0 i) ∧ (i.val < 8 → t.flag
    MF.DCB_STATUS.CAL_ERR i = !(calInLimit i o g)) ∧ (8 ≤ i.val → i.val < 40 → t.flag MF.VIB_STATUS.CAL_ERR (i - 8) = !(calInLimit i o g))) ∧
(∀ (s : State) (r : RefCheck) (f : List (Nat × Int × Int)) (c : CalH) (n : Fin 48) (j : Fin 3) (o g : Int),
    let i : Nat := 64 + 3 * n.val + j.val;
    s.cal = some c → calSelected c (64 + 3 * n.val + j.val) = true → ((f.filter fun x => decide (x.1 = 64 + 3 * n.val + j.val)) = [(64 + 3 * n.val +
    j.val, o, g)]) → (∀ b ∈ r.buffers, 1000 * absI ((b : Int) - r.bandgap) ≤ 5 * (r.bandgap : Int)) → Completes (.calComplete r f) s fun t =>
    (calInLimit i o g = true → t.rdS AX.CAL_OFS.OFS n j = o ∧ t.rdS AX.CAL_GAIN.GAIN n j = g) ∧ (calInLimit i o g = false → t.rd AX.CAL_OFS.OFS n j
    = s.rd AX.CAL_OFS.OFS n j ∧ t.rd AX.CAL_GAIN.GAIN n j = s.rd AX.CAL_GAIN.GAIN n j) ∧ t.rdBit AX.ADC_HEALTH.CAL_ERR j n = !(calInLimit i o g)) ∧
(∀ (s : State) (r : RefCheck) (f : List (Nat × Int × Int)) (c : CalH), s.cal = some c → (∃ b ∈ r.buffers, 5 * (r.bandgap : Int) < 1000 * absI ((b :
    Int) - r.bandgap)) → Completes (.calComplete r f) s fun t => t.flag MF.CAL_STATUS.BUSY = false ∧ t.flag MF.CAL_STATUS.REF_ERR = true ∧ t.cal =
    none ∧ (∀ i : Fin 44, t.rd MF.CAL_OFS.OFS 0 i = s.rd MF.CAL_OFS.OFS 0 i ∧ t.rd MF.CAL_GAIN.GAIN 0 i = s.rd MF.CAL_GAIN.GAIN 0 i) ∧ (∀ (n : Fin
    48) (j : Fin 3), t.rd AX.CAL_OFS.OFS n j = s.rd AX.CAL_OFS.OFS n j ∧ t.rd AX.CAL_GAIN.GAIN n j = s.rd AX.CAL_GAIN.GAIN n j)) ∧
(∀ (s : State) (m : Fin 64) (k : Fin 424) (v : Word),
    let x : MonH := (s.mon k).before s.dtime;
    MayWrite s m (MON.CTRL.SNAP.addr (monBase k)) false → Completes (.monSnap m k v) s fun t => t.rd MON.CNT.CNT (monBase k) = x.cnt % 2 ^ 32 ∧ t.rd
    MON.ACC (monBase k) = ofS 64 x.acc ∧ t.rd MON.MIN.MIN (monBase k) = ofS 32 x.mn ∧ t.rd MON.MAX.MAX (monBase k) = ofS 32 x.mx ∧ t.rd MON.MIN_TIME
    (monBase k) = x.mnT % 2 ^ 64 ∧ t.rd MON.MAX_TIME (monBase k) = x.mxT % 2 ^ 64 ∧ t.rd MON.SNAP_TIME (monBase k) = s.dtime % 2 ^ 64 ∧ t.flag
    MON.STATUS.CNT_SAT (monBase k) = decide (0xFFFFFFFF ≤ x.cnt) ∧ t.rd MON.STATUS.OVR_CNT (monBase k) = x.ovr % 2 ^ 16 ∧ t.mon k = {
    ref := s.dtime, snapped := true, now := x.now, nowAt := s.dtime }) ∧
(∀ (s : State) (k : Fin 424),
    let x : MonH := (s.mon k).before s.dtime;
    s.rd MON.CTRL.AUTO (monBase k) ≠ 0 → (s.mon k).ref + s.rd MON.CTRL.AUTO (monBase k) * msTicks ≤ s.dtime → Completes (.monAutoSnap k) s fun t =>
    t.rd MON.CNT.CNT (monBase k) = x.cnt % 2 ^ 32 ∧ t.rd MON.ACC (monBase k) = ofS 64 x.acc ∧ t.rd MON.MIN.MIN (monBase k) = ofS 32 x.mn ∧ t.rd
    MON.MAX.MAX (monBase k) = ofS 32 x.mx ∧ t.rd MON.MIN_TIME (monBase k) = x.mnT % 2 ^ 64 ∧ t.rd MON.MAX_TIME (monBase k) = x.mxT % 2 ^ 64 ∧ t.rd
    MON.SNAP_TIME (monBase k) = s.dtime % 2 ^ 64 ∧ t.flag MON.STATUS.CNT_SAT (monBase k) = decide (0xFFFFFFFF ≤ x.cnt) ∧ t.rd MON.STATUS.OVR_CNT
    (monBase k) = x.ovr % 2 ^ 16 ∧ t.mon k = { ref := s.dtime, snapped := true, now := x.now, nowAt := s.dtime })

/-- R172, R173, R175: obsLoadGo: a GO starts the loader for the axis, the kind and the address, and changes nothing while it is busy; obsLoadDone:
an image that passes its checks (State.admitCheck) is held and its bounds are shown, one that fails leaves every network held and its code is shown,
and both are noted; loadCmdRemove: a removal is asked for; obsRemoveDone: the oldest asked for takes its network out and no other. Where the spec
leaves a reading open it states the model's, of log entry 37. -/
def Obligations.ObserverNetworkCommands : Prop :=
(∀ (s : State) (m : Fin 64) (v : Word),
    let kind : Nat := if bits v.toNat 3 2 = 3 then s.rd OBS.LOAD_CMD.KIND else bits v.toNat 3 2;
    MayWrite s m OBS.LOAD_CMD.GO.base true → s.flag OBS.LOAD_STATUS.BUSY = false → bit v.toNat 1 = false → Completes (.obsLoadGo m v) s fun t =>
    t.flag OBS.LOAD_STATUS.BUSY = true ∧ t.obsLoad = some (bits v.toNat 9 4, kind, s.rd OBS.LOAD_ADDR.ADDR) ∧ OnlyRegs s t [OBS.LOAD_CMD.GO.base,
    OBS.LOAD_STATUS.BUSY.base]) ∧
(∀ (s : State) (m : Fin 64) (v : Word), MayWrite s m OBS.LOAD_CMD.GO.base true → s.flag OBS.LOAD_STATUS.BUSY = true → Completes (.obsLoadGo m v) s
    fun t => t.resp.err = false ∧ t.obsLoad = s.obsLoad ∧ t.obsRemove = s.obsRemove ∧ t.regs = s.regs) ∧
(∀ (s : State) (axis kind addr : Nat), s.obsLoad = some (axis, kind, addr) → (s.admitCheck axis kind addr).code = 0 → Completes (.obsLoadDone) s fun
    t => t.flag OBS.LOAD_STATUS.BUSY = false ∧ t.flag OBS.LOAD_STATUS.DONE = true ∧ t.rd OBS.LOAD_STATUS.CODE = 0 ∧ t.obsLoad = none ∧ t.net axis
    kind = some (s.admitCheck axis kind addr).net ∧ t.rd OBS.ADM_LIP.VALUE = (s.admitCheck axis kind addr).lip % 2 ^ 32 ∧ t.rd OBS.ADM_ERRB.VALUE =
    satU 32 (s.admitCheck axis kind addr).err % 2 ^ 32 ∧ (Room s → Noted t 0x0501 (srcAxis axis) s.dtime) ∧ (∀ a k, a * 4 + k ≠ axis * 4 + kind →
    t.net a k = s.net a k)) ∧
(∀ (s : State) (axis kind addr : Nat), s.obsLoad = some (axis, kind, addr) → (s.admitCheck axis kind addr).code ≠ 0 → (s.admitCheck axis kind
    addr).unread = 0 → Completes (.obsLoadDone) s fun t => t.flag OBS.LOAD_STATUS.BUSY = false ∧ t.flag OBS.LOAD_STATUS.REFUSED = true ∧ t.rd
    OBS.LOAD_STATUS.CODE = (s.admitCheck axis kind addr).code % 2 ^ OBS.LOAD_STATUS.CODE.width ∧ (addr % 64 ≠ 0 → t.rd OBS.LOAD_STATUS.CODE = 1) ∧
    t.nets = s.nets ∧ (Room s → Noted t 0x0501 (srcAxis axis) s.dtime)) ∧
(∀ (s : State) (axis kind addr : Nat), s.obsLoad = some (axis, kind, addr) → 0 < (s.admitCheck axis kind addr).unread → Completes (.obsLoadDone) s
    fun t => t.flag OBS.LOAD_STATUS.BUSY = false ∧ t.flag OBS.LOAD_STATUS.REFUSED = true ∧ t.rd OBS.LOAD_STATUS.CODE = 10 ∧ t.nets = s.nets) ∧
(∀ (s : State) (m : Fin 64) (v : Word),
    let kind : Nat := if bits v.toNat 3 2 = 3 then s.rd OBS.LOAD_CMD.KIND else bits v.toNat 3 2;
    MayWrite s m OBS.LOAD_CMD.GO.base true → bit v.toNat 0 = false → Completes (.loadCmdRemove m v) s fun t => t.obsRemove = s.obsRemove ++ [(bits
    v.toNat 9 4, kind)] ∧ OnlyRegs s t [OBS.LOAD_CMD.GO.base]) ∧
(∀ (s : State) (axis kind : Nat) (rest : List (Nat × Nat)), s.obsRemove = (axis, kind) :: rest → Completes (.obsRemoveDone) s fun t => t.net axis
    kind = none ∧ t.obsRemove = rest ∧ t.flag OBS.LOAD_STATUS.DONE = true ∧ (∀ a k, a * 4 + k ≠ axis * 4 + kind → t.net a k = s.net a k))

/-- R178, R182, R183, R188: a lane that completes a job is free again, a late step concludes with the classical estimate, a fenced lane is no longer
usable, FORCE_CLS enters CLASSICAL mode and RESUME leaves it. Where the spec leaves a reading open it states the model's, of log entries 32, 37 and
39. -/
def Obligations.ObserverLaneCommands : Prop :=
(∀ (s : State) (i : LaneEnd 12) (j : JobH) (t0 : Nat), s.laneJob i.lane = some (j, t0) → t0 + j.cost ≤ s.dtime → j.fg = false → (s.fo j.axis).step =
    none → s.jobs = [] → Completes (.obsJobComplete i) s fun t => t.laneJob i.lane = none ∧ t.pjobs = s.pjobs) ∧
(∀ (s : State) (i : LaneEnd 4) (j : JobH) (t0 : Nat), s.laneJob (12 + i.lane) = some (j, t0) → t0 + j.cost ≤ s.dtime → j.fg = false → (s.fo
    j.axis).step = none → s.pjobs = [] → Completes (.pewterCheckComplete i) s fun t => t.laneJob (12 + i.lane) = none ∧ t.jobs = s.jobs) ∧
(∀ (s : State) (n : Fin 48) (st : StepH), (s.fo n).step = some st → st.ts + 488 ≤ s.dtime → Completes (.obsLate n) s fun t => (t.fo n).step = none) ∧
(∀ (s : State) (m : Fin 64) (v : Word), MayWrite s m OBS.LANE_FENCE.FENCE.base true → (∀ i : Fin 16, s.laneJob i = none) → Completes (.obsLaneFence
    m v) s fun t => (∀ i : Fin 12, bit v.toNat i = true → t.rdBit OBS.LANES.USABLE i = false) ∧ (∀ i : Fin 4, bit v.toNat (12 + i) = true → t.rdBit
    OBS.LANES.P_USABLE i = false)) ∧
(∀ (s : State) (m : Fin 64) (n : Fin 48) (v : Word), MayWrite s m (AX.OBS_CFG.ESC_ACT.addr n) false → s.flag AX.OBS_CFG.LOCK n = false → Completes
    (.forceCls m n v) s fun t => t.flag AX.OBS_STATUS.MODE n = true ∧ t.flag AX.OBS_CFG.FORCE_CLS n = true ∧ OnlyRegs s t [AX.OBS_CFG.ESC_ACT.addr
    n, AX.OBS_STATUS.MODE.addr n]) ∧
(∀ (s : State) (m : Fin 64) (n : Fin 48) (v : Word), MayWrite s m (AX.OBS_CFG.ESC_ACT.addr n) false → s.flag AX.OBS_CFG.LOCK n = false → s.flag
    AX.OBS_STATUS.MODE n = true → bit v.toNat 6 = false → s.nets = [] → Completes (.resume m n v) s fun t => t.flag AX.OBS_STATUS.MODE n = false ∧
    t.rd AX.OBS_STATUS.WIN_CNT n = 0 ∧ (t.ob n).miss = [])

/-- R195, R198, R200, R202, R212, R218, R219, R441: a fenced engine is unusable, a reset engine holds nothing, tiles are assigned, staged, issued
and retired in order, and the utilisation counters are copied and restarted in one clock. Where the spec leaves a reading open it states the
model's, of log entries 52, 53 and 54. -/
def Obligations.EngineCommands : Prop :=
(∀ (s : State) (m : Fin 64) (v : Word), MayWrite s m INF.ENG_FENCE.FENCE.addr true → Completes (.infEngFence m v) s fun t => (∀ p : Fin 8, bit
    v.toNat p = true → t.engUsable p = false) ∧ (∀ p : Fin 8, bit v.toNat p = false → t.engUsable p = s.engUsable p)) ∧
(∀ (s : State) (m : Fin 64) (p : Fin 8) (v : Word), MayWrite s m (ENG.CTRL.RESET.addr p) true → bit v.toNat 0 = true → s.inReset = false → Completes
    (.engCtrlReset m p v) s fun t => (t.en p).tiles = [] ∧ (t.en p).issue = none ∧ t.rd ENG.STATUS.THREADS p = 0) ∧
(∀ (s : State) (p : Fin 8) (x : TileH), s.engUsable p = true → (s.en p).tiles.length < 256 → (bestTile ((List.range 64).flatMap fun c => s.tilesOf c
    p) = some x) → Completes (.tileAssign p) s fun t => (t.en p).tiles = (s.en p).tiles ++ [x] ∧ t.rd ENG.STATUS.THREADS p = (s.en p).tiles.length +
    1 ∧ OnlyRegs s t [ENG.STATUS.THREADS.addr p]) ∧
(∀ (s : State) (p : Fin 8) (k : Fin 256) (x : TileH), (s.en p).tiles[k.val]? = some x → Completes (.tileStaged p k) s fun t => (t.en
    p).tiles[k.val]? = some { x with staged := true } ∧ (t.en p).tiles.length = (s.en p).tiles.length ∧ t.regs = s.regs) ∧
(∀ (s : State) (p : Fin 8) (x : TileH), (s.en p).issue = none → s.rdBit INF.ENG_STATUS.TEST p = false → s.rd THM.STATUS.LEVEL ≠ 8 → (bestTile
    (((s.en p).tiles.filter (·.staged)).filterMap fun t => (s.cx t.ctx).frame.map fun f => (s.tileRank f t, t)) = some x) → Completes (.tileIssue p)
    s fun t => (t.en p).issue = some (x, s.dtime) ∧ t.regs = s.regs) ∧
(∀ (s : State) (p : Fin 8) (x : TileH) (start : Nat) (f : Frame), (s.en p).issue = some (x, start) → (s.cx x.ctx).frame = some f → Completes
    (.tileRetire p) s fun t => (t.en p).issue = none ∧ (((t.cx x.ctx).frame.map fun g => g.readyTiles) = some ((x.op, x.tile) :: f.readyTiles)) ∧
    (((t.cx x.ctx).frame.map fun g => g.clks) = some (f.clks.set x.logical (f.clks.getD x.logical 0 + (s.dtime - start))))) ∧
(∀ (s : State) (m : Fin 64) (v : Word), MayWrite s m INF.UTIL_CTRL.SNAP.addr false → bit v.toNat 0 = true → Completes (.utilSnap m v) s fun t =>
    t.rd INF.UTIL_SNAP_TIME = s.dtime % 2 ^ 64 ∧ (∀ p : Fin 8, t.rd ENG.UTIL p 2 = (s.en p).macEq % 2 ^ 64 ∧ (t.en p).macEq = 0 ∧ (t.en p).since =
    s.dtime)) ∧
(∀ (s : State), s.rd INF.UTIL_CTRL.AUTO ≠ 0 → s.utilRef + s.rd INF.UTIL_CTRL.AUTO * msTicks ≤ s.dtime → Completes (.utilAutoSnap) s fun t => t.rd
    INF.UTIL_SNAP_TIME = s.dtime % 2 ^ 64 ∧ t.utilRef = s.dtime ∧ (∀ p : Fin 8, t.rd ENG.UTIL p 2 = (s.en p).macEq % 2 ^ 64 ∧ (t.en p).macEq = 0))

/-- R201: with running firmware and a context that is not busy and in a state that the command accepts, a command keeps the context busy; DISARM
stops triggers, ABORT ends the frame with its code, START starts a frame at once. Where the spec leaves a reading open it states the model's, of log
entry 51. -/
def Obligations.ContextCommandsAccepted : Prop :=
(∀ (s : State) (m c : Fin 64), MayWrite s m (CTX.CMD.OP.addr c) true → s.rd SUP.FW_STATUS.STATE = 3 → s.flag CTX.STATUS.BUSY c = false → s.rd
    CTX.STATUS.STATE c ≤ 1 → Completes (.ctxLoad m c) s fun t => t.flag CTX.STATUS.BUSY c = true ∧ (((t.cx c).cmd.map fun k => k.op) = some 1) ∧
    OnlyRegs s t [CTX.STATUS.BUSY.addr c]) ∧
(∀ (s : State) (m c : Fin 64) (fresh : Bool), MayWrite s m (CTX.CMD.OP.addr c) true → s.rd SUP.FW_STATUS.STATE = 3 → s.rd PWR.STATE.STATE = 0 →
    s.flag PWR.STATE.BUSY = false → s.flag CTX.STATUS.BUSY c = false → s.rd CTX.STATUS.STATE c = ctxLoaded → (fresh = true ∨ s.flag
    CTX.STATUS.STATE_LOST c = false) → Completes (.ctxArm m c fresh) s fun t => t.flag CTX.STATUS.BUSY c = true ∧ (((t.cx c).cmd.map fun k => (k.op,
    k.fresh, k.at_)) = some (2, fresh, s.dtime)) ∧ OnlyRegs s t [CTX.STATUS.BUSY.addr c]) ∧
(∀ (s : State) (m c : Fin 64), MayWrite s m (CTX.CMD.OP.addr c) true → s.rd SUP.FW_STATUS.STATE = 3 → s.flag CTX.STATUS.BUSY c = false → s.rd
    CTX.STATUS.STATE c = ctxArmed → Completes (.ctxDisarm m c) s fun t => t.flag CTX.STATUS.BUSY c = true ∧ (t.cx c).disarm = true ∧ OnlyRegs s t
    [CTX.STATUS.BUSY.addr c]) ∧
(∀ (s : State) (m c : Fin 64) (f : Frame), MayWrite s m (CTX.CMD.OP.addr c) true → s.rd SUP.FW_STATUS.STATE = 3 → s.flag CTX.STATUS.BUSY c = false →
    s.rd CTX.STATUS.STATE c = ctxArmed → (s.cx c).frame = some f → f.endCode = none → Completes (.ctxAbort m c) s fun t => t.flag CTX.STATUS.BUSY c
    = true ∧ t.flag CTX.STATUS.LATCHED c = false ∧ (((t.cx c).frame.bind fun g => g.endCode) = some 5) ∧ (t.cx c).latched = none) ∧
(∀ (s : State) (m c : Fin 64), MayWrite s m (CTX.CMD.OP.addr c) true → s.rd SUP.FW_STATUS.STATE = 3 → s.flag CTX.STATUS.BUSY c = false → s.rd
    CTX.STATUS.STATE c = ctxLoaded → Completes (.ctxUnload m c) s fun t => t.flag CTX.STATUS.BUSY c = true ∧ (((t.cx c).cmd.map fun k => k.op) =
    some 5) ∧ OnlyRegs s t [CTX.STATUS.BUSY.addr c]) ∧
(∀ (s : State) (m c : Fin 64), MayWrite s m (CTX.CMD.OP.addr c) true → s.rd SUP.FW_STATUS.STATE = 3 → s.flag CTX.STATUS.BUSY c = false → (s.rd
    CTX.STATUS.STATE c = ctxLoaded ∨ s.rd CTX.STATUS.STATE c = ctxArmed) → Completes (.ctxSnap m c) s fun t => t.flag CTX.STATUS.BUSY c = true ∧
    (((t.cx c).cmd.map fun k => k.op) = some 6) ∧ OnlyRegs s t [CTX.STATUS.BUSY.addr c]) ∧
(∀ (s : State) (m c : Fin 64), MayWrite s m (CTX.CMD.OP.addr c) true → s.rd SUP.FW_STATUS.STATE = 3 → s.flag CTX.STATUS.BUSY c = false → s.rd
    CTX.STATUS.STATE c = ctxLoaded → Completes (.ctxRestore m c) s fun t => t.flag CTX.STATUS.BUSY c = true ∧ (((t.cx c).cmd.map fun k => k.op) =
    some 7) ∧ OnlyRegs s t [CTX.STATUS.BUSY.addr c]) ∧
(∀ (s : State) (m c : Fin 64), MayWrite s m (CTX.CMD.OP.addr c) true → s.rd SUP.FW_STATUS.STATE = 3 → s.flag CTX.STATUS.BUSY c = false → s.rd
    CTX.STATUS.STATE c = ctxArmed → (s.cx c).disarm = false → (s.cx c).frame = none → s.rd PWR.STATE.STATE = 0 → s.flag INF.STATUS.UNAVAIL = false →
    s.flag TWN.CFG.EN = false → Completes (.ctxStart m c) s fun t => t.flag CTX.STATUS.FRAME_ACTIVE c = true ∧ t.rd CTX.FRAME.FRAME c = (s.rd
    CTX.FRAME.FRAME c + 1) % 2 ^ 32 ∧ (t.cx c).frame.isSome = true ∧ t.flag CTX.STATUS.DONE c = true ∧ t.rd CTX.STATUS.RCODE c = 0) ∧
(∀ (s : State) (m c : Fin 64) (fresh : Bool), MayWrite s m (CTX.CMD.OP.addr c) true → s.rd SUP.FW_STATUS.STATE = 3 → s.rd PWR.STATE.STATE = 0 →
    s.flag PWR.STATE.BUSY = false → s.flag CTX.STATUS.BUSY c = true → Room s → Completes (.ctxArm m c fresh) s fun t => t.flag CTX.STATUS.REFUSED c
    = true ∧ t.rd CTX.STATUS.RCODE c = 12 ∧ t.ctxs = s.ctxs ∧ Noted t 0x0601 (srcContext c) s.dtime)

/-- R201, R207, R215 to R218, R270, R274, R275: while the firmware runs, a DISARM without frames and an UNLOAD finish; a frame that is to end or has
timed out leaves its code and its context free for the next, a trace is armed, or refused where its base is not aligned, and an ARM with TWIN = 1
whose partner did not agree is refused with SNAPSHOT, or with the code that R204 puts before it. Where the spec leaves a reading open it states the
model's, of log entries 48, 50 and 51. -/
def Obligations.ContextCommandsComplete : Prop :=
(∀ (s : State) (c : Fin 64) (k : CtxCmdH) (partner : Option PartnerCtx), (s.cx c).cmd = some k → k.op = 3 → (s.cx c).frame = none → (s.cx c).latched
    = none → s.rd SUP.FW_STATUS.STATE = 3 → Completes (.ctxCmdComplete c partner) s fun t => t.rd CTX.STATUS.STATE c = ctxLoaded ∧ t.flag
    CTX.STATUS.DONE c = true ∧ t.flag CTX.STATUS.BUSY c = false ∧ (t.cx c).cmd = none ∧ (t.cx c).disarm = false) ∧
(∀ (s : State) (c : Fin 64) (k : CtxCmdH) (partner : Option PartnerCtx), (s.cx c).cmd = some k → k.op = 5 → s.rd SUP.FW_STATUS.STATE = 3 → Completes
    (.ctxCmdComplete c partner) s fun t => t.rd CTX.STATUS.STATE c = ctxFree ∧ (t.cx c).prog = none ∧ (t.cx c).places = [] ∧ t.flag CTX.STATUS.DONE
    c = true ∧ t.flag CTX.STATUS.BUSY c = false) ∧
(∀ (s : State) (c : Fin 64) (partner : Option PartnerCtx), s.rd SUP.FW_STATUS.STATE ≠ 3 → Completes (.ctxCmdComplete c partner) s fun t => t = s) ∧
(∀ (s : State) (c : Fin 64) (p : Prog) (f : Frame) (code : Nat), (s.cx c).prog = some p → (s.cx c).frame = some f → f.endCode = some code → (code ≠
    1 ∨ ∀ p : Fin 8, ((s.en p).tiles.any fun x => x.ctx == c) = false) → (s.cx c).latched = none → (s.cx c).cmd = none → s.lockStep c = false →
    Completes (.frameEnd c) s fun t => (t.cx c).frame = none ∧ t.flag CTX.STATUS.FRAME_ACTIVE c = false ∧ t.rd CTX.LAST_CODE.CODE c = code % 256 ∧
    t.rd CTX.LAST_TRIG c = f.trig.stamp % 2 ^ 64 ∧ t.rd CTX.LAST_DONE c = s.dtime % 2 ^ 64) ∧
(∀ (s : State) (c : Fin 64) (p : Prog) (f : Frame), (s.cx c).prog = some p → (s.cx c).frame = some f → f.endCode = none → (((List.range
    p.ops.length).all fun i => f.doneOps.contains i) = true) → (s.cx c).wait = none → (s.cx c).latched = none → (s.cx c).cmd = none → s.lockStep c =
    false → s.flag CTX.DIG_CFG.EN c = false → Completes (.frameEnd c) s fun t => (t.cx c).frame = none ∧ t.flag CTX.STATUS.FRAME_ACTIVE c = false ∧
    t.rd CTX.LAST_CODE.CODE c = 0 ∧ t.rd CTX.LAST_DONE c = s.dtime % 2 ^ 64) ∧
(∀ (s : State) (c : Fin 64) (p : Prog) (f : Frame), (s.cx c).prog = some p → (s.cx c).frame = some f → f.endCode = none → s.rd CTX.CFG.WDOG c ≠ 0 →
    f.trig.stamp + s.rd CTX.CFG.WDOG c * msTicks ≤ s.dtime → (s.cx c).latched = none → (s.cx c).cmd = none → s.lockStep c = false → Completes
    (.frameTimeout c) s fun t => (t.cx c).frame = none ∧ t.rd CTX.LAST_CODE.CODE c = 6 ∧ t.flag CTX.STATUS.FRAME_ACTIVE c = false) ∧
(∀ (s : State) (m c : Fin 64) (v : Word), MayWrite s m (CTX.TRACE_CTRL.ARM.addr c) false → bit v.toNat 0 = true → s.rd CTX.TRACE_BASE c % 64 = 0 →
    Completes (.traceArm m c v) s fun t => (t.cx c).traceArmed = true ∧ t.flag CTX.TRACE_CTRL.BUSY c = true ∧ OnlyRegs s t [CTX.TRACE_CTRL.ARM.addr
    c]) ∧
(∀ (s : State) (m c : Fin 64) (v : Word), MayWrite s m (CTX.TRACE_CTRL.ARM.addr c) false → bit v.toNat 0 = true → s.rd CTX.TRACE_BASE c % 64 ≠ 0 →
    Completes (.traceArm m c v) s fun t => t.flag CTX.TRACE_CTRL.ERR c = true ∧ t.cx c = s.cx c ∧ OnlyRegs s t [CTX.TRACE_CTRL.ARM.addr c]) ∧
(∀ (s : State) (c : Fin 64) (k : CtxCmdH), (s.cx c).cmd = some k → k.op = 2 → s.flag CTX.DIG_CFG.TWIN c = true → k.at_ + s.rd TWN.CFG.TMO * usTicks
    ≤ s.dtime → Room s → Completes (.twinArmTimeout c) s fun t => t.flag CTX.STATUS.REFUSED c = true ∧ (t.rd CTX.STATUS.RCODE c = if s.armEarly c =
    0 then 11 else s.armEarly c % 2 ^ CTX.STATUS.RCODE.width) ∧ t.flag CTX.STATUS.BUSY c = false ∧ (t.cx c).cmd = none ∧ Noted t 0x0601 (srcContext
    c) s.dtime)

/-- R205, R206, R208: posts, takes and retires move their index by the count they name where credits and descriptors suffice, a post writes only
STAMP and SEQ of its slot, and a queue without descriptors takes a new configuration. Where the spec leaves a reading open it states the model's, of
log entry 54. -/
def Obligations.QueueCommands : Prop :=
(∀ (s : State) (m : Fin 64) (q : Fin 1024) (n : Fin 8192), MayWrite s m (Q.OP.N.addr q) false → s.flag Q.CFG.EN q = true → n.val ≠ 0 → n.val ≤
    s.qFree q → Completes (.qPost m q n) s fun t => t.rd Q.PROD.PROD q = (s.rd Q.PROD.PROD q + n) % 2 ^ 16 ∧ t.rd Q.POSTS.SEQ q = (s.rd Q.POSTS.SEQ
    q + n) % 2 ^ 32 ∧ t.rd Q.LAST_POST q = s.dtime % 2 ^ 64 ∧ t.rd Q.TAKE.TAKE q = s.rd Q.TAKE.TAKE q) ∧
(∀ (s : State) (m : Fin 64) (q : Fin 1024),
    let a : Nat := s.qSlotAddr q (s.rd Q.SLOTS.POST_SLOT q);
    MayWrite s m (Q.OP.N.addr q) false → s.flag Q.CFG.EN q = true → 1 ≤ s.qFree q → (∀ u ∈ eccWords (a + 8) 8 ++ eccWords (a + 0x28) 4, s.isUe u =
    false) → Completes (.qPost m q 1) s fun t => (∀ x, ¬ (a + 8 ≤ x ∧ x < a + 16) → ¬ (a + 0x28 ≤ x ∧ x < a + 0x2C) → t.byte x = s.byte x) ∧
    t.readLE (a + 8) 8 = s.dtime % 2 ^ 64 ∧ t.readLE (a + 0x28) 4 = s.rd Q.POSTS.SEQ q) ∧
(∀ (s : State) (m : Fin 64) (q : Fin 1024) (n : Fin 8192), MayWrite s m (Q.OP.N.addr q) false → s.flag Q.CFG.EN q = true → n.val ≠ 0 → n.val ≤
    s.qPosted q → Completes (.qTake m q n) s fun t => t.rd Q.TAKE.TAKE q = (s.rd Q.TAKE.TAKE q + n) % 2 ^ 16 ∧ t.rd Q.RET.RET q = s.rd Q.RET.RET q ∧
    OnlyRegs s t [Q.TAKE.TAKE.addr q, Q.SLOTS.TAKE_SLOT.addr q]) ∧
(∀ (s : State) (m : Fin 64) (q : Fin 1024) (n : Fin 8192), MayWrite s m (Q.OP.N.addr q) false → s.flag Q.CFG.EN q = true → n.val ≠ 0 → n.val ≤
    s.qTaken q → Completes (.qRetire m q n) s fun t => t.rd Q.RET.RET q = (s.rd Q.RET.RET q + n) % 2 ^ 16 ∧ t.rd Q.PROD.PROD q = s.rd Q.PROD.PROD q
    ∧ OnlyRegs s t [Q.RET.RET.addr q, Q.CREDITS.CREDITS.addr q]) ∧
(∀ (s : State) (m : Fin 64) (q : Fin 1024) (n : Fin 8192), MayWrite s m (Q.OP.N.addr q) false → s.flag Q.CFG.EN q = true → s.qTaken q < n.val →
    Completes (.qRetire m q n) s fun t => t.flag Q.STATUS.UNDERFLOW q = true ∧ OnlyRegs s t [Q.STATUS.UNDERFLOW.addr q]) ∧
(∀ (s : State) (m : Fin 64) (q : Fin 1024) (v : Word), MayWrite s m (Q.CFG.EN.addr q) false → s.qEmpty q = true → bits v.toNat 13 1 ≠ 0 → Completes
    (.qCfgWrite m q v) s fun t => t.rd Q.PROD.PROD q = 0 ∧ t.rd Q.TAKE.TAKE q = 0 ∧ t.rd Q.RET.RET q = 0 ∧ t.rd Q.CREDITS.CREDITS q = t.rd
    Q.CFG.DEPTH q ∧ t.flag Q.CFG.EN q = bit v.toNat 0) ∧
(∀ (s : State) (m : Fin 64) (q : Fin 1024) (v : Word), MayWrite s m (Q.CFG.EN.addr q) false → s.qEmpty q = false → Completes (.qCfgWrite m q v) s
    fun t => t.flag Q.STATUS.CFG_ERR q = true ∧ OnlyRegs s t [Q.STATUS.CFG_ERR.addr q]) ∧
(∀ (s : State) (m : Fin 64) (q : Fin 1024) (v : Word), MayWrite s m (Q.BASE.addr q + 4) false → s.qEmpty q = true → Completes (.qBaseWrite m q v) s
    fun t => t.resp.err = false ∧ t.reg (Q.BASE.addr q + 4) = v ∧ OnlyRegs s t [Q.BASE.addr q, Q.BASE.addr q + 4])

/-- The data operations of R213 with their opcodes. -/
def Sys2Proof.Claims.dataOps (c : Fin 64) (i : Fin 65536) (stride dil pad value : Nat) (axis : Fin 4) (rel : Fin 6) (mask : Fin 16)
    (perm starts steps before order : List Nat) : List (Nat × Instr) :=
  [(0x01, .matmul c i), (0x02, .matmulBias c i), (0x03, .conv1d c i stride dil pad), (0x04, .conv2d c i stride dil pad),
   (0x05, .dwconv c i stride dil pad), (0x06, .outlierMm c i), (0x08, .hadamard c i), (0x10, .add c i), (0x11, .sub c i), (0x12, .mul c i),
   (0x13, .max c i), (0x14, .min c i), (0x15, .abs c i), (0x16, .scale c i axis), (0x17, .clamp c i axis), (0x18, .cmp c i rel),
   (0x19, .select c i), (0x20, .relu c i), (0x21, .leaky c i), (0x22, .tanh c i), (0x23, .sigmoid c i), (0x24, .gelu c i), (0x25, .exp c i),
   (0x26, .log c i), (0x27, .rsqrt c i), (0x28, .recip c i), (0x30, .softmax c i axis), (0x31, .layernorm c i axis),
   (0x32, .rmsnorm c i axis), (0x38, .reduceSum c i mask), (0x39, .reduceSumU c i mask order), (0x3A, .reduceMax c i mask),
   (0x3B, .reduceMin c i mask), (0x3C, .argmax c i mask), (0x3D, .argmin c i mask), (0x40, .cast c i), (0x41, .quant c i),
   (0x42, .dequant c i), (0x43, .qstat c i), (0x48, .copy c i), (0x49, .transpose c i perm), (0x4A, .slice c i starts steps),
   (0x4B, .concat c i axis), (0x4C, .pad c i before value), (0x4D, .gather c i axis), (0x4E, .scatter c i axis), (0x4F, .scatterAdd c i axis),
   (0x50, .scatterAddU c i axis order), (0x59, .stateLoad c i), (0x5A, .stateStore c i)]
/-- R200, R204, R213, R226: a data operation that is ready and reads its inputs is done after its command, and touches no other context, no program
and no place of declared state; one that is not ready has no effect. Where the spec leaves a reading open it states the model's, of log entries 45,
46 and 47. -/
def Obligations.DataOperationsRetire : Prop :=
  (∀ (s : State) (c : Fin 64) (i : Fin 65536) (stride dil pad value : Nat) (axis : Fin 4) (rel : Fin 6) (mask : Fin 16)
    (perm starts steps before order : List Nat) (x : Nat × Instr) (p : Prog) (o : OpDef) (f : Frame) (xs : List Opnd),
    x ∈ Claims.dataOps c i stride dil pad value axis rel mask perm starts steps before order →
    s.opReady c i x.1 = some (p, o, f) → (s.readOpnds c o.logical p o.ins).2 = some xs →
    Completes x.2 s fun t => ((t.cx c).frame.map (·.doneOps)) = some (i.val :: f.doneOps) ∧ (∀ k, k ≠ c.val → t.cx k = s.cx k) ∧
      (t.cx c).prog = some p ∧ (t.cx c).places = (s.cx c).places ∧ (t.cx c).flip = (s.cx c).flip ∧ t.dtime = s.dtime) ∧
  (∀ (s : State) (c : Fin 64) (i : Fin 65536) (stride dil pad value : Nat) (axis : Fin 4) (rel : Fin 6) (mask : Fin 16)
    (perm starts steps before order : List Nat) (x : Nat × Instr),
    x ∈ Claims.dataOps c i stride dil pad value axis rel mask perm starts steps before order →
    s.opReady c i x.1 = none → Completes x.2 s fun t => t = s)

/-- The codes that a value's conversions give, and the clips of them. -/
def Sys2Proof.Claims.codes (f n : Nat) (g : Nat → FV) : List Nat := (List.range n).map fun e => (convert f (g e)).code
def Sys2Proof.Claims.clips (f n : Nat) (g : Nat → FV) : Nat := ((List.range n).filter fun e => (convert f (g e)).clip).length
/-- A master writes `n` bytes at `a`: memory that its windows give it, free of uncorrectable errors. -/
def Sys2Proof.Claims.Writable (s : State) (m a n : Nat) : Prop :=
  ∀ q ∈ pieces a n, s.checkAccess m q.1 q.2 true (needsSw q.1) = none ∧ isRegSpace q.1 = false ∧ (∀ u ∈ eccWords q.1 q.2, s.isUe u = false)
/-- Where a tensor in scratch lies. -/
def Sys2Proof.Claims.addrOf (s : State) (c : Nat) (out : TensorDef) : Nat := (s.place c out.logical).scr + out.addr
/-- The output's bytes are those of the codes and no other byte of memory changes, and the frame has counted the clips. -/
def Sys2Proof.Claims.Gives (c : Nat) (s t : State) (f : Frame) (out : TensorDef) (g : Nat → FV) : Prop :=
  t.readMem (Claims.addrOf s c out) out.bytes = packCodes out.fmt (Claims.codes out.fmt out.count g) ∧
  (∀ a, ¬(Claims.addrOf s c out ≤ a ∧ a < Claims.addrOf s c out + out.bytes) → t.byte a = s.byte a) ∧
  ((t.cx c).frame.map (·.clipCnt)) = some (f.clipCnt + Claims.clips out.fmt out.count g)
/-- The operation is ready, its operands are read, and it writes one tensor in scratch that its engine may write. -/
def Sys2Proof.Claims.ToScratch (s : State) (c i code : Nat) (p : Prog) (o : OpDef) (f : Frame) (xs : List Opnd) (out : TensorDef) : Prop :=
  s.opReady c i code = some (p, o, f) ∧ (s.readOpnds c o.logical p o.ins).2 = some xs ∧ (∀ k ∈ o.ins ++ o.outs, (p.tensor k).count ≠ 0) ∧
  (∃ k, o.outs = [k] ∧ p.tensor k = out) ∧ out.kind = kScratch ∧ Claims.Writable s (s.ctxMaster c o.logical) (Claims.addrOf s c out) out.bytes
/-- R224, R226, R228: an elementwise operation on operands of its output's shape gives each output element the exact value of its operands'
elements, converted once into the output's format; the clips of the conversions are counted. Where the spec leaves a reading open it states the
model's, of log entry 47. -/
def Obligations.ElementwiseResults : Prop :=
  (∀ (s : State) (c : Fin 64) (i : Fin 65536) (x : Nat × Instr × (FV → FV → FV)) (p : Prog) (o : OpDef) (f : Frame) (a b : Opnd)
    (out : TensorDef), x ∈ [(0x10, Instr.add c i, FV.add), (0x11, .sub c i, FV.sub), (0x12, .mul c i, FV.mul), (0x13, .max c i, FV.max),
      (0x14, .min c i, FV.min)] →
    Claims.ToScratch s c i x.1 p o f [a, b] out → a.dims = out.shape → b.dims = out.shape →
    Completes x.2.1 s fun t => Claims.Gives c s t f out fun e => x.2.2 (a.val e) (b.val e)) ∧
  (∀ (s : State) (c : Fin 64) (i : Fin 65536) (x : Nat × Instr × (FV → FV)) (p : Prog) (o : OpDef) (f : Frame) (a : Opnd)
    (out : TensorDef), x ∈ [(0x15, Instr.abs c i, FV.abs), (0x20, .relu c i, fun v => v.max .zero), (0x40, .cast c i, id), (0x48, .copy c i, id),
      (0x59, .stateLoad c i, id)] →
    Claims.ToScratch s c i x.1 p o f [a] out → a.dims = out.shape →
    Completes x.2.1 s fun t => Claims.Gives c s t f out fun e => x.2.2 (a.val e)) ∧
  (∀ (s : State) (c : Fin 64) (i : Fin 65536) (axis : Fin 4) (p : Prog) (o : OpDef) (f : Frame) (a k b : Opnd) (out : TensorDef),
    Claims.ToScratch s c i 0x16 p o f [a, k, b] out → a.dims = out.shape → k.n = 1 → b.n = 1 →
    Completes (.scale c i axis) s fun t => Claims.Gives c s t f out fun e => ((a.val e).mul (k.val 0)).add (b.val 0)) ∧
  (∀ (s : State) (c : Fin 64) (i : Fin 65536) (axis : Fin 4) (p : Prog) (o : OpDef) (f : Frame) (a k b : Opnd) (out : TensorDef),
    Claims.ToScratch s c i 0x17 p o f [a, k, b] out → a.dims = out.shape → k.n = 1 → b.n = 1 →
    Completes (.clamp c i axis) s fun t => Claims.Gives c s t f out fun e => ((a.val e).max (k.val 0)).min (b.val 0))

/-- R213, R227: MATMUL of S8 operands into an S32 output gives every element the exact sum over K of the products of a row of A and a column of B
wherever K is at most 131,071, so that no step can saturate; nothing is clipped. Where the spec leaves a reading open it states the model's, of log
entries 46 and 49. -/
def Obligations.MatrixProducts : Prop :=
  ∀ (s : State) (c : Fin 64) (i : Fin 65536) (p : Prog) (o : OpDef) (f : Frame) (a b : Opnd) (out : TensorDef) (m k n : Nat),
    Claims.ToScratch s c i 0x01 p o f [a, b] out → a.fmt = fS8 → b.fmt = fS8 → out.fmt = fS32 → a.dims = [m, k] → b.dims = [k, n] →
    out.shape = [m, n] → 0 < k → k ≤ 131071 →
    Completes (.matmul c i) s fun t => ((t.cx c).frame.map (·.clipCnt)) = some f.clipCnt ∧ Claims.Gives c s t f out fun e =>
      FV.ofInt (((List.range k).map fun q => toS 8 (a.codes.getD (e / n * k + q) 0) * toS 8 (b.codes.getD (q * n + e % n) 0)).foldl (· + ·) 0)

/-- R200, R206, R208, R213, R252, R255, R445: WAIT takes one descriptor of its queue, of IN_Q as the input of the frame, POST posts one where there
is a credit, RETIRE retires taken descriptors or sets UNDERFLOW, DMA posts a descriptor and then takes the completion TOKEN, BARRIER waits for its
engines, RESULT forms the result block, NOP has no effect. Where the spec leaves a reading open it states the model's, of log entries 42, 45 and 75.
-/
def Obligations.FrameQueueOperations : Prop :=
(∀ (s : State) (c : Fin 64) (i : Fin 65536) (p : Prog) (o : OpDef) (f : Frame) (d : List Nat), s.opReady c i 0x60 = some (p, o, f) → f.rerun = false
    → s.qCanTake (s.opQueue c o) = true → (s.threadPeek c o.logical (s.opQueue c o)).2 = some d → s.opQueue c o < 1024 → o.queue ≠ 0xFFFF →
    Completes (.wait c i) s fun t => ((t.cx c).frame.map (·.doneOps)) = some (i.val :: f.doneOps) ∧ ((t.cx c).frame.map (·.taken)) = some (f.taken
    ++ [(i.val, digFields d)]) ∧ t.qTaken (s.opQueue c o) = (s.qTaken (s.opQueue c o) + 1) % 65536 ∧ t.mem = s.mem) ∧
(∀ (s : State) (c : Fin 64) (i : Fin 65536) (p : Prog) (o : OpDef) (f : Frame), s.opReady c i 0x60 = some (p, o, f) → f.rerun = false → s.qCanTake
    (s.opQueue c o) = false → Completes (.wait c i) s fun t => t = s) ∧
(∀ (s : State) (c : Fin 64) (i : Fin 65536) (p : Prog) (o : OpDef) (f : Frame), s.opReady c i 0x61 = some (p, o, f) → f.rerun = false → s.qCanPost
    (s.opQueue c o) = true → s.opQueue c o < 1024 → ((o.ins.any fun k => (p.tensor k).count == 0) = false) → (∀ x ∈ pieces (s.qPostAddr (s.opQueue c
    o)) 64, s.checkAccess (s.ctxMaster c o.logical) x.1 x.2 true (needsSw x.1) = none ∧ isRegSpace x.1 = false ∧ (∀ u ∈ eccWords x.1 x.2, s.isUe u =
    false)) → Completes (.post c i) s fun t => ((t.cx c).frame.map (·.doneOps)) = some (i.val :: f.doneOps) ∧ t.rd Q.PROD.PROD (s.opQueue c o) =
    (s.rd Q.PROD.PROD (s.opQueue c o) + 1) % 65536 ∧ t.rd Q.LAST_POST (s.opQueue c o) = s.dtime % 2 ^ 64) ∧
(∀ (s : State) (c : Fin 64) (i : Fin 65536) (p : Prog) (o : OpDef) (f : Frame), s.opReady c i 0x61 = some (p, o, f) → ((o.ins.any fun k => (p.tensor
    k).count == 0) = true) → Completes (.post c i) s fun t => ((t.cx c).frame.map (·.doneOps)) = some (i.val :: f.doneOps) ∧ t.regs = s.regs ∧ t.mem
    = s.mem) ∧
(∀ (s : State) (c : Fin 64) (i : Fin 65536) (p : Prog) (o : OpDef) (f : Frame) (a : Nat) (ty : Nat), s.opReady c i 0x61 = some (p, o, f) → f.rerun =
    false → s.qCanPost (s.opQueue c o) = true → s.opQueue c o < 1024 → ((o.ins.any fun k => (p.tensor k).count == 0) = false) → pieces (s.qPostAddr
    (s.opQueue c o)) 64 = [(a, 64)] → isRegSpace a = false → s.checkAccess (s.ctxMaster c o.logical) a 64 true (needsSw a) = some ty → f.endCode =
    none → Completes (.post c i) s fun t => ((t.cx c).frame.bind (·.endCode)) = some 8 ∧ ((t.cx c).frame.map (·.doneOps)) = some f.doneOps ∧ t.rd
    Q.PROD.PROD (s.opQueue c o) = s.rd Q.PROD.PROD (s.opQueue c o) ∧ t.mem = s.mem) ∧
(∀ (s : State) (c : Fin 64) (i : Fin 65536) (p : Prog) (o : OpDef) (f : Frame), s.opReady c i 0x62 = some (p, o, f) → f.rerun = false → s.flag
    Q.CFG.EN (s.opQueue c o) = true → o.cnt ≤ s.qTaken (s.opQueue c o) → s.opQueue c o < 1024 → Completes (.retire c i) s fun t => ((t.cx
    c).frame.map (·.doneOps)) = some (i.val :: f.doneOps) ∧ t.rd Q.RET.RET (s.opQueue c o) = (s.rd Q.RET.RET (s.opQueue c o) + o.cnt) % 65536 ∧
    t.mem = s.mem) ∧
(∀ (s : State) (c : Fin 64) (i : Fin 65536) (p : Prog) (o : OpDef) (f : Frame), s.opReady c i 0x62 = some (p, o, f) → f.rerun = false → s.flag
    Q.CFG.EN (s.opQueue c o) = true → s.qTaken (s.opQueue c o) < o.cnt → s.opQueue c o < 1024 → Completes (.retire c i) s fun t => ((t.cx
    c).frame.map (·.doneOps)) = some (i.val :: f.doneOps) ∧ t.flag Q.STATUS.UNDERFLOW (s.opQueue c o) = true ∧ OnlyRegs s t [Q.STATUS.UNDERFLOW.addr
    (s.opQueue c o)]) ∧
(∀ (s : State) (c : Fin 64) (i : Fin 65536) (p : Prog) (o : OpDef) (f : Frame) (d : List Nat), s.opReady c i 0x60 = some (p, o, f) → f.rerun = false
    → o.queue = 0xFFFF → (∀ j ∈ List.range i, (p.ops.getD j {}).opcode ≠ 0x60 ∨ (p.ops.getD j {}).queue ≠ 0xFFFF) → s.qCanTake (s.rd CTX.QUEUES.IN_Q
    c) = true → (s.threadPeek c o.logical (s.rd CTX.QUEUES.IN_Q c)).2 = some d → Completes (.wait c i) s fun t => ((t.cx c).frame.map (·.input)) =
    some (some ((Desc.ofBytes d).addr, (Desc.ofBytes d).len)) ∧ ((t.cx c).frame.map (·.taken)) = some (f.taken ++ [(i.val, digFields d)]) ∧ t.qTaken
    (s.rd CTX.QUEUES.IN_Q c) = (s.qTaken (s.rd CTX.QUEUES.IN_Q c) + 1) % 65536 ∧ ((Desc.ofBytes d).src = 0x18 ∧ (Desc.ofBytes d).len = 0 → ((t.cx
    c).frame.bind (·.endCode)) = some 7 ∧ ((t.cx c).frame.map (·.doneOps)) = some f.doneOps) ∧ ((Desc.ofBytes d).src ≠ 0x18 ∨ (Desc.ofBytes d).len ≠
    0 → ((t.cx c).frame.map (·.doneOps)) = some (i.val :: f.doneOps))) ∧
(∀ (s : State) (c : Fin 64) (i : Fin 65536) (q done : Fin 1024) (src dst len : Nat) (p : Prog) (o : OpDef) (f : Frame), s.opReady c i 0x58 = some
    (p, o, f) → (f.dmaWait.find? (fun x => x.1 == i.val) = none) → s.qCanPost q = true → (∀ x ∈ pieces (s.qPostAddr (q)) 64, s.checkAccess
    (s.ctxMaster c o.logical) x.1 x.2 true (needsSw x.1) = none ∧ isRegSpace x.1 = false ∧ (∀ u ∈ eccWords x.1 x.2, s.isUe u = false)) → Completes
    (.dma c i q done src dst len) s fun t => t.rd Q.PROD.PROD q = (s.rd Q.PROD.PROD q + 1) % 65536 ∧ ((t.cx c).frame.map (·.dmaWait)) = some
    ((i.val, done.val) :: f.dmaWait) ∧ ((t.cx c).frame.map (·.doneOps)) = some f.doneOps) ∧
(∀ (s : State) (c : Fin 64) (i : Fin 65536) (q done : Fin 1024) (src dst len : Nat) (p : Prog) (o : OpDef) (f : Frame) (d : List Nat), s.opReady c i
    0x58 = some (p, o, f) → (f.dmaWait.find? (fun x => x.1 == i.val) = some (i.val, done.val)) → s.qCanTake done = true → (s.threadPeek c o.logical
    done).2 = some d → (Desc.ofBytes d).type_ = 4 → Completes (.dma c i q done src dst len) s fun t => ((t.cx c).frame.map (·.doneOps)) = some
    (i.val :: f.doneOps) ∧ t.rd Q.TAKE.TAKE done = (s.rd Q.TAKE.TAKE done + 1) % 65536 ∧ t.rd Q.RET.RET done = (s.rd Q.RET.RET done + 1) % 65536) ∧
(∀ (s : State) (c : Fin 64) (i : Fin 65536) (mask : Fin 256) (p : Prog) (o : OpDef) (f : Frame), s.opReady c i 0x63 = some (p, o, f) → (∀ j ∈
    List.range i, bit mask (p.ops.getD j {}).logical = true → f.doneOps.contains j = true) → Completes (.barrier c i mask) s fun t => ((t.cx
    c).frame.map (·.doneOps)) = some (i.val :: f.doneOps) ∧ t.regs = s.regs ∧ t.mem = s.mem) ∧
(∀ (s : State) (c : Fin 64) (i : Fin 65536) (mask : Fin 256) (p : Prog) (o : OpDef) (f : Frame) (j : Nat), s.opReady c i 0x63 = some (p, o, f) → j <
    i → bit mask (p.ops.getD j {}).logical = true → f.doneOps.contains j = false → Completes (.barrier c i mask) s fun t => t = s) ∧
(∀ (s : State) (c : Fin 64) (i : Fin 65536) (p : Prog) (o : OpDef) (f : Frame) (d : List Nat), s.opReady c i 0x64 = some (p, o, f) → (s.readTensor c
    o.logical p (o.ins.getD 0 0xFFFF)).2 = some d → Completes (.result c i) s fun t => ((t.cx c).frame.map (·.doneOps)) = some (i.val :: f.doneOps)
    ∧ ((t.cx c).frame.bind (·.result)).map (·.drop 4) = some (slice d 4 252) ∧ (((t.cx c).frame.bind (·.result)).map (fun r => slice r 0 4) = some
    (le 4 f.num))) ∧
(∀ (s : State) (c : Fin 64) (i : Fin 65536) (p : Prog) (o : OpDef) (f : Frame), s.opReady c i 0x65 = some (p, o, f) → Completes (.nop c i) s fun t
    => ((t.cx c).frame.map (·.doneOps)) = some (i.val :: f.doneOps) ∧ t.regs = s.regs ∧ t.mem = s.mem)

/-- R244, R248, R252, R255 to R257, R259: babInCfgWrite: an input in use cannot be reconfigured, a free one is restarted; babCtxEnable: a context is
enabled only if its configuration stands its checks, and cleared at once; babClosePosted: closes are finished in their order; babResultApply: the
oldest frame that ended is acted on or is a miss; babStale: a context without a result for STALE ms is stale. Where the spec leaves a reading open
it states the model's, of log entries 55 and 56. -/
def Obligations.BabbittCommands : Prop :=
(∀ (s : State) (m : Fin 64) (v : Fin 32) (k : Fin 3) (w : Word), MayWrite s m (BAB.IN_CFG.EN.addr v + 4 * k) false → s.babUsers v = [] →
    (s.writeFields (BAB.IN_CFG.EN.addr v + 4 * k) w.toNat).2 = .ok → Completes (.babInCfgWrite m v k w) s fun t => (t.bi v).ring = [] ∧ (t.bi
    v).wait = [] ∧ t.rd BAB.IN_STATUS.RESTART_CNT v = (s.rd BAB.IN_STATUS.RESTART_CNT v + 1) % 65536) ∧
(∀ (s : State) (m : Fin 64) (v : Fin 32) (k : Fin 3) (w : Word) (x : Fin 64), MayWrite s m (BAB.IN_CFG.EN.addr v + 4 * k) false → x.val ∈ s.babUsers
    v → Completes (.babInCfgWrite m v k w) s fun t => t.flag BAB.CTX_STATUS.CFG_ERR x = true ∧ t.reg (BAB.IN_CFG.EN.addr v + 4 * k) = s.reg
    (BAB.IN_CFG.EN.addr v + 4 * k) ∧ t.babIns = s.babIns) ∧
(∀ (s : State) (m c : Fin 64) (w : Word) (v : Fin 32), MayWrite s m (BAB.CTX_CFG.EN.addr c) false → s.flag BAB.CTX_CFG.EN c = false → bit w.toNat 0
    = true → bit (s.rd BAB.CTX_IN.VALUE c) v = true → s.flag BAB.IN_CFG.EN v = false → Completes (.babCtxEnable m c w) s fun t => t.flag
    BAB.CTX_CFG.EN c = false ∧ t.flag BAB.CTX_STATUS.CFG_ERR c = true) ∧
(∀ (s : State) (m c : Fin 64) (w : Word) (d : List (List Nat)),
    let u : State := (s.writeFields (BAB.CTX_CFG.EN.addr c) (w.toNat - 1)).1;
    MayWrite s m (BAB.CTX_CFG.EN.addr c) false → s.flag BAB.CTX_CFG.EN c = false → bit w.toNat 0 = true → (∀ v : Fin 32, bit (u.rd BAB.CTX_IN.VALUE
    c) v = true → u.flag BAB.IN_CFG.EN v = true ∧ u.rd BAB.CTX_CFG.REVS_L c + u.rd BAB.IN_CFG.PPR_L v ≤ 16 ∧ u.rd BAB.CTX_CFG.REVS_L c + u.rd
    BAB.IN_CFG.PPR_L v + 1 ≤ u.rd BAB.IN_CFG.RL v ∧ u.rd BAB.IN_CFG.ENV_PPR_L v ≤ u.rd BAB.IN_CFG.PPR_L v) → (u.defectTable c).2 = some d → (∀ x ∈
    d, u.badDefect c x = false) → u.rd BAB.CTX_CFG.DEF_N c ≤ 64 → u.rd BAB.CTX_BUF c % 64 = 0 → Completes (.babCtxEnable m c w) s fun t => t.flag
    BAB.CTX_CFG.EN c = true ∧ (Tab.get {} t.babCtxs c).staleRef = s.dtime ∧ (Tab.get {} t.babCtxs c).defects = d ∧ t.mem = s.mem) ∧
(∀ (s : State) (m c : Fin 64) (w : Word),
    let u : State := (s.writeFields (BAB.CTX_CFG.EN.addr c) (w.toNat - 1)).1;
    MayWrite s m (BAB.CTX_CFG.EN.addr c) false → s.flag BAB.CTX_CFG.EN c = false → bit w.toNat 0 = true → (u.defectTable c).2 = none → Completes
    (.babCtxEnable m c w) s fun t => t.flag BAB.CTX_CFG.EN c = false ∧ t.flag BAB.CTX_STATUS.CFG_ERR c = true ∧ t.babCtxs = s.babCtxs) ∧
(∀ (s : State) (m c : Fin 64) (w : Word), MayWrite s m (BAB.CTX_CFG.EN.addr c) false → s.flag BAB.CTX_CFG.EN c = true → bit w.toNat 0 = false →
    (s.reg (BAB.CTX_CFG.EN.addr c)).toNat / 2 = w.toNat / 2 → Completes (.babCtxEnable m c w) s fun t => t.flag BAB.CTX_CFG.EN c = false ∧ OnlyRegs
    s t [BAB.CTX_CFG.EN.addr c]) ∧
(∀ (s : State) (x : BabClose) (l : List BabClose), s.babCloses = x :: l → s.rd THM.STATUS.LEVEL ≠ 8 → Completes (.babClosePosted) s fun t =>
    t.babCloses = l ∧ t.dtime = s.dtime ∧ (x.late = true → t.flag BAB.STATUS.OVERLOAD = true ∧ t.flag BAB.CTX_STATUS.LATE_IN x.ctx = true)) ∧
(∀ (s : State) (x : BabClose) (l : List BabClose), s.babCloses = x :: l → s.rd THM.STATUS.LEVEL ≠ 8 → x.en = false → s.flag CTX.QUEUES.IN_NONE x.ctx
    = true → Completes (.babClosePosted) s fun t => t.mem = s.mem) ∧
(∀ (s : State), s.rd THM.STATUS.LEVEL = 8 → Completes (.babClosePosted) s fun t => t = s) ∧
(∀ (s : State) (c : Fin 64) (frame fl at_ : Nat) (blk : List Nat) (l : List (Nat × Nat × Nat × List Nat × Nat)), (Tab.get {} s.babCtxs c).apply =
    (frame, 0, fl, blk, at_) :: l → bit fl flLate = false → fieldLE blk 5 1 ≠ 1 → blk ≠ [] → Completes (.babResultApply c) s fun t => (Tab.get {}
    t.babCtxs c).apply = l ∧ (Tab.get {} t.babCtxs c).staleRef = s.dtime ∧ t.rd BAB.CTX_LAST_APPLY c = s.dtime % 2 ^ 64 ∧ t.rd
    BAB.CTX_STATUS.APPLY_CNT c = (s.rd BAB.CTX_STATUS.APPLY_CNT c + 1) % 65536 ∧ (∀ n : Fin 48, t.rd AX.SPD_DERATE.TQ n = s.rd AX.SPD_DERATE.TQ n) ∧
    (0 < fieldLE blk 4 1 → t.flag BAB.CTX_STATUS.REJ_ACT c = true)) ∧
(∀ (s : State) (c : Fin 64) (frame code fl at_ : Nat) (blk : List Nat) (l : List (Nat × Nat × Nat × List Nat × Nat)), (Tab.get {} s.babCtxs c).apply
    = (frame, code, fl, blk, at_) :: l → code ≠ 0 → s.flag BAB.CTX_CFG.MISS_ACT c = false → Completes (.babResultApply c) s fun t => (Tab.get {}
    t.babCtxs c).apply = l ∧ t.flag BAB.CTX_STATUS.MISS c = true ∧ t.rd BAB.CTX_STATUS.MISS_CNT c = min (s.rd BAB.CTX_STATUS.MISS_CNT c + 1) 255 ∧
    t.rd BAB.CTX_STATUS.APPLY_CNT c = s.rd BAB.CTX_STATUS.APPLY_CNT c) ∧
(∀ (s : State) (c : Fin 64), s.flag BAB.CTX_CFG.EN c = true → s.rd BAB.CTX_STALE.LOW c ≠ 0 → (Tab.get {} s.babCtxs c).staleRef + s.rd
    BAB.CTX_STALE.LOW c * msTicks ≤ s.dtime → Completes (.babStale c) s fun t => t.flag BAB.CTX_STATUS.STALE c = true ∧ t.rd BAB.CTX_STATUS.MISS_CNT
    c = min (s.rd BAB.CTX_STATUS.MISS_CNT c + 1) 255 ∧ (Tab.get {} t.babCtxs c).staleRef = (Tab.get {} s.babCtxs c).staleRef + s.rd
    BAB.CTX_STALE.LOW c * msTicks)

/-- R269, R271 to R273: linkCopy: the FOLLOW starts the frame of the LEAD with its number and its trigger, latched where a frame runs, and posts the
descriptor where the context has an input queue; compare: a packet of the partner is kept until this module's frame waits for it; a frame ends when
both digests of its KIND agree, a first mismatch runs it again from the committed state, a second one fences the context; twinPartnerTimeout: a
missing partner ends the frame with TWIN_LOST; twinCopyTimeout: a missing copy sets LOST and ends the frame that the FOLLOW never got with NO_INPUT,
at once or when it would start. A packet for a context that is not in lock-step does nothing. Where the spec leaves a reading open it states the
model's, of log entries 57 and 74. -/
def Obligations.TwinCommands : Prop :=
(∀ (s : State) (c : Fin 64) (frame stamp : Nat) (ty : Fin 256) (param : Nat) (user data : List Nat), s.lockStep c = true → s.flag TWN.CFG.ROLE =
    true → s.flag CTX.QUEUES.IN_NONE c = true → s.rd CTX.STATUS.STATE c = ctxArmed → (s.cx c).disarm = false → s.rd PWR.STATE.STATE = 0 → (s.cx
    c).frame = none → s.flag INF.STATUS.UNAVAIL = false → Completes (.linkCopy c frame stamp ty param user data) s fun t => t.rd TWN.STATUS.COPY_CNT
    = (s.rd TWN.STATUS.COPY_CNT + 1) % 65536 ∧ ((t.cx c).frame.map (·.num)) = some (frame % 2 ^ 32) ∧ ((t.cx c).frame.map (·.trig.stamp)) = some
    (stamp % 2 ^ 64) ∧ t.flag CTX.STATUS.FRAME_ACTIVE c = true) ∧
(∀ (s : State) (c : Fin 64) (frame stamp : Nat) (ty : Fin 256) (param : Nat) (user data : List Nat), s.lockStep c = true → s.flag TWN.CFG.ROLE =
    true → s.flag CTX.QUEUES.IN_NONE c = false → s.rd CTX.STATUS.STATE c = ctxArmed → (s.cx c).disarm = false → s.rd PWR.STATE.STATE = 0 → s.flag
    INF.STATUS.UNAVAIL = false → ((s.cx c).frame = none ∨ (s.cx c).latched = none) → s.rd CTX.QUEUES.IN_Q c < 1024 → s.qCanPost (s.rd
    CTX.QUEUES.IN_Q c) = true → data = [] → Completes (.linkCopy c frame stamp ty param user data) s fun t => t.rd TWN.STATUS.COPY_CNT = (s.rd
    TWN.STATUS.COPY_CNT + 1) % 65536 ∧ t.rd Q.PROD.PROD (s.rd CTX.QUEUES.IN_Q c) = (s.rd Q.PROD.PROD (s.rd CTX.QUEUES.IN_Q c) + 1) % 65536) ∧
(∀ (s : State) (c : Fin 64) (frame stamp : Nat) (ty : Fin 256) (param : Nat) (user data : List Nat) (f : Frame), s.lockStep c = true → s.flag
    TWN.CFG.ROLE = true → s.flag CTX.QUEUES.IN_NONE c = true → s.rd CTX.STATUS.STATE c = ctxArmed → (s.cx c).disarm = false → s.rd PWR.STATE.STATE =
    0 → s.flag INF.STATUS.UNAVAIL = false → (s.cx c).frame = some f → (s.cx c).latched = none → Completes (.linkCopy c frame stamp ty param user
    data) s fun t => (t.cx c).frame = some f ∧ ((t.cx c).latched.map (·.stamp)) = some (stamp % 2 ^ 64) ∧ ((t.cx c).latched.bind (·.copy)) = some
    (frame % 2 ^ 32) ∧ t.flag CTX.STATUS.LATCHED c = true) ∧
(∀ (s : State) (c : Fin 64) (frame stamp : Nat) (ty : Fin 256) (param : Nat) (user data : List Nat), s.lockStep c = false → Completes (.linkCopy c
    frame stamp ty param user data) s fun t => t = s) ∧
(∀ (s : State) (c : Fin 64) (frame : Nat) (kind : Fin 2) (code : Fin 256) (digest : List Nat), s.lockStep c = false → Completes (.compare c kind
    code frame digest) s fun t => t = s) ∧
(∀ (s : State) (c : Fin 64) (kind : Fin 2) (code : Fin 256) (frame : Nat) (digest : List Nat), s.lockStep c = true → (s.cx c).wait = none →
    Completes (.compare c kind code frame digest) s fun t => (t.cx c).pkts = (s.cx c).pkts ++ [TwinPkt.mk kind code (frame % 2 ^ 32) (slice digest 0
    32)] ∧ (t.cx c).frame = (s.cx c).frame ∧ t.mem = s.mem) ∧
(∀ (s : State) (c : Fin 64) (code : Fin 256) (frame : Nat) (digest : List Nat) (f : Frame) (x : TwinWait) (p : Prog), s.lockStep c = true → (s.cx
    c).prog = some p → (s.cx c).frame = some f → (s.cx c).latched = none → (s.cx c).wait = some x → f.endCode = none → (s.cx c).pkts = [] → f.num =
    frame → frame < 2 ^ 32 → x.kind = 0 → code = 0 → slice digest 0 32 = x.digest → (s.cx c).cmd = none → (s.cx c).disarm = false → Completes
    (.compare c 0 code frame digest) s fun t => (t.cx c).frame = none ∧ (t.cx c).wait = none) ∧
(∀ (s : State) (c : Fin 64) (code : Fin 256) (frame : Nat) (digest : List Nat) (f : Frame) (x : TwinWait), s.lockStep c = true → (s.cx c).frame =
    some f → (s.cx c).wait = some x → f.endCode = none → (s.cx c).pkts = [] → f.num = frame → frame < 2 ^ 32 → x.kind = 0 → code = 0 → slice digest
    0 32 ≠ x.digest → (∀ r ∈ s.copyParts c false, ∀ u ∈ eccWords r.1 r.2, s.isUe u = false) → Room s → Completes (.compare c 0 code frame digest) s
    fun t => ((t.cx c).frame.map (·.rerun)) = some true ∧ ((t.cx c).frame.map (·.doneOps)) = some [] ∧ (t.cx c).wait = none ∧ (t.cx c).held = [] ∧
    t.mem = (s.startState c).1.mem ∧ t.rd CTX.DIG_STATUS.MISM_CNT c = min (s.rd CTX.DIG_STATUS.MISM_CNT c + 1) (2 ^ (CTX.DIG_STATUS.MISM_CNT.hi + 1
    - CTX.DIG_STATUS.MISM_CNT.lo) - 1) ∧ t.rd CTX.TWIN_MISM_TIME c = s.dtime % 2 ^ 64 ∧ Noted t 0x0703 (srcContext c) s.dtime) ∧
(∀ (s : State) (c : Fin 64) (code : Fin 256) (frame : Nat) (digest : List Nat) (f : Frame) (x : TwinWait) (p : Prog), s.lockStep c = true → (s.cx
    c).prog = some p → (s.cx c).frame = some f → (s.cx c).wait = some x → f.endCode = none → (s.cx c).pkts = [] → f.num = frame → frame < 2 ^ 32 →
    x.kind = 1 → code = 0 → slice digest 0 32 ≠ x.digest → s.outRec c f.num % 64 = 0 → f.trace = false → (s.cx c).cmd = none → (s.cx c).latched =
    none → Completes (.compare c 1 code frame digest) s fun t => t.flag CTX.DIG_STATUS.TWIN_FENCED c = true ∧ t.rd CTX.TWIN_MISM_TIME c = s.dtime %
    2 ^ 64 ∧ (t.cx c).wait = none) ∧
(∀ (s : State) (c : Fin 64) (x : TwinWait) (f : Frame), (s.cx c).wait = some x → (s.cx c).frame = some f → f.endCode = none → x.at_ + s.rd
    TWN.CFG.TMO * usTicks ≤ s.dtime → Completes (.twinPartnerTimeout c) s fun t => t.flag CTX.DIG_STATUS.TWIN_LOST c = true ∧ t.flag TWN.STATUS.LOST
    = true) ∧
(∀ (s : State) (c : Fin 64) (frame : Nat) (stamp : LeadPost), s.lockStep c = true → s.flag TWN.CFG.ROLE = true → stamp.post + s.rd TWN.CFG.TMO *
    usTicks ≤ s.dtime → (s.cx c).frame = none → Completes (.twinCopyTimeout c frame stamp) s fun t => t.flag TWN.STATUS.LOST = true) ∧
(∀ (s : State) (c : Fin 64) (frame : Nat) (stamp : LeadPost) (p : Prog), s.lockStep c = true → s.flag TWN.CFG.ROLE = true → stamp.post + s.rd
    TWN.CFG.TMO * usTicks ≤ s.dtime → (s.cx c).prog = some p → (s.cx c).frame = none → (s.cx c).latched = none → (s.cx c).cmd = none → s.rd
    CTX.STATUS.STATE c = ctxArmed → (s.cx c).disarm = false → s.rd PWR.STATE.STATE = 0 → s.flag INF.STATUS.UNAVAIL = false → s.flag
    CTX.STATUS.STATE_LOST c = false → s.flag CTX.DIG_STATUS.TWIN_FENCED c = false → (∀ r ∈ s.copyParts c false, ∀ u ∈ eccWords r.1 r.2, s.isUe u =
    false) → Completes (.twinCopyTimeout c frame stamp) s fun t => t.flag TWN.STATUS.LOST = true ∧ (t.cx c).frame = none ∧ t.rd CTX.FRAME.FRAME c =
    frame % 2 ^ 32 ∧ t.rd CTX.LAST_TRIG c = stamp.trig % 2 ^ 64 ∧ t.rd CTX.LAST_CODE.CODE c = 7) ∧
(∀ (s : State) (c : Fin 64) (frame : Nat) (stamp : LeadPost) (f : Frame), s.lockStep c = true → s.flag TWN.CFG.ROLE = true → stamp.post + s.rd
    TWN.CFG.TMO * usTicks ≤ s.dtime → (s.cx c).frame = some f → f.endCode = none → f.num ≠ frame % 2 ^ 32 → (s.cx c).latched = none → s.rd
    CTX.STATUS.STATE c = ctxArmed → (s.cx c).disarm = false → s.rd PWR.STATE.STATE = 0 → s.flag INF.STATUS.UNAVAIL = false → Completes
    (.twinCopyTimeout c frame stamp) s fun t => t.flag TWN.STATUS.LOST = true ∧ (t.cx c).frame = some f ∧ ((t.cx c).latched.bind (·.copy)) = some
    (frame % 2 ^ 32) ∧ frame % 2 ^ 32 ∈ (t.cx c).noInput)

/-- R280, R282 to R285, R287, R288, R292: a permitted write stores its bytes and no others, a permitted read gives the bytes; a correctable error is
corrected and counted and the data come right; an uncorrectable error answers a read, or a write of part of its word, with an error response, and a
write of the whole word removes it; a violating access changes no memory, is logged and is answered with an error response. The errors that the
memory has taken by then come with the command (log entry 86). Where the spec leaves a reading open it states the model's, of log entries 4, 42, 77
and 86. -/
def Obligations.MemoryAccesses : Prop :=
(∀ (s : State) (m : Fin 64) (a n : Nat) (data : List Nat) (errs : List (Nat × Nat)),
    let u : State := s.forEach errs State.flipBit;
    isRegSpace a = false → isOutbound a = false → s.checkAccess m a data.length true false = none → a % 64 + data.length ≤ 64 → 0 < data.length → (∀
    x ∈ eccWords a data.length, u.isUe x = false) → Completes (.memoryAccess m a n true data errs) s fun t => t.readMem a data.length = data.map (·
    % 256) ∧ (∀ x, ¬(a ≤ x ∧ x < a + data.length) → t.readMem x 1 = s.readMem x 1) ∧ t.resp.err = false ∧ ((∀ x ∈ eccWords a data.length, u.isCe x =
    false) → t.regs = s.regs)) ∧
(∀ (s : State) (m : Fin 64) (a n : Nat) (data : List Nat) (errs : List (Nat × Nat)), isRegSpace a = false → isOutbound a = false → s.checkAccess m a
    data.length true false = none → a % eccSize a = 0 → data.length = eccSize a → Completes (.memoryAccess m a n true data errs) s fun t =>
    t.readMem a data.length = data.map (· % 256) ∧ t.eccSyms a = [] ∧ t.resp.err = false ∧ t.regs = s.regs) ∧
(∀ (s : State) (m : Fin 64) (a n : Nat) (data : List Nat) (errs : List (Nat × Nat)) (x : Nat),
    let u : State := s.forEach errs State.flipBit;
    isRegSpace a = false → isOutbound a = false → s.checkAccess m a data.length true false = none → eccWords a data.length = [x] → data.length <
    eccSize a → 0 < data.length → u.isUe x = true → Completes (.memoryAccess m a n true data errs) s fun t => t.mem = s.mem ∧ t.resp.err = true ∧
    t.resp.ue = true ∧ t.isUe x = true) ∧
(∀ (s : State) (m : Fin 64) (a n : Nat) (data : List Nat) (errs : List (Nat × Nat)),
    let u : State := s.forEach errs State.flipBit;
    isRegSpace a = false → isOutbound a = false → s.checkAccess m a n false false = none → a % 64 + n ≤ 64 → 0 < n → (∀ x ∈ eccWords a n, u.isUe x =
    false) → Completes (.memoryAccess m a n false data errs) s fun t => t.resp.err = false ∧ t.resp.data = s.readMem a n ∧ t.mem = s.mem ∧ ((∀ x ∈
    eccWords a n, u.isCe x = false) → t.regs = s.regs)) ∧
(∀ (s : State) (m : Fin 64) (a n : Nat) (data : List Nat) (errs : List (Nat × Nat)) (x : Nat),
    let u : State := s.forEach errs State.flipBit;
    isRegSpace a = false → isOutbound a = false → s.checkAccess m a n false false = none → 0 < n → eccWords a n = [x] → a < 0x1000000000 → u.isCe x
    = true → Completes (.memoryAccess m a n false data errs) s fun t => t.resp.err = false ∧ t.resp.data = s.readMem a n ∧ t.eccSyms x = [] ∧ t.flag
    MEM.ECC_STATUS.CE = true ∧ t.rd MEM.CH_CNT.CE 0 (s.channelOf x) = min (s.rd MEM.CH_CNT.CE 0 (s.channelOf x) + 1) 65535 ∧ t.mem = s.mem ∧
    OnlyRegs s t [MEM.CH_CNT.CE.addr 0 (s.channelOf x), MEM.ECC_STATUS.CE.addr]) ∧
(∀ (s : State) (m : Fin 64) (a n : Nat) (data : List Nat) (errs : List (Nat × Nat)) (x : Nat),
    let u : State := s.forEach errs State.flipBit;
    isRegSpace a = false → isOutbound a = false → s.checkAccess m a n false false = none → a % 64 + n ≤ 64 → 0 < n → x ∈ eccWords a n → u.isUe x =
    true → Completes (.memoryAccess m a n false data errs) s fun t => t.resp.err = true ∧ t.resp.ue = true ∧ t.mem = s.mem ∧ t.rd MEM.UE_LATEST_TIME
    = s.dtime % 2 ^ 64) ∧
(∀ (s : State) (m : Fin 64) (a n : Nat) (write : Bool) (data : List Nat) (errs : List (Nat × Nat)) (ty : Nat), isOutbound a = false → write = true →
    s.checkAccess m a data.length true (swOf a (ofLE (data.map (· % 256)))) = some ty → 0 < data.length → (s.vioNow (nearestTarget a)).hi ≤ m →
    Completes (.memoryAccess m a n write data errs) s fun t => t.mem = s.mem ∧ t.resp.err = true ∧ t.rd AT.VIO_LATEST_ADDR (nearestTarget a) = a % 2
    ^ 64 ∧ t.rd AT.VIO_LATEST_TIME (nearestTarget a) = s.dtime % 2 ^ 64 ∧ t.flag AT.VIO_STATUS.FIRST_VALID (nearestTarget a) = true ∧ t.rd
    AT.VIO_STATUS.VIO_CNT (nearestTarget a) = min (s.rd AT.VIO_STATUS.VIO_CNT (nearestTarget a) + 1) 65535) ∧
(∀ (s : State) (m : Fin 64) (a n : Nat) (data : List Nat) (errs : List (Nat × Nat)) (ty : Nat), isOutbound a = false → s.checkAccess m a n false
    false = some ty → 0 < n → (s.vioNow (nearestTarget a)).hi ≤ m → Completes (.memoryAccess m a n false data errs) s fun t => t.mem = s.mem ∧
    t.resp.err = true ∧ t.resp.data = List.replicate n 0 ∧ t.rd AT.VIO_LATEST_ADDR (nearestTarget a) = a % 2 ^ 64) ∧
(∀ (s : State) (m : Fin 64) (a n : Nat) (data : List Nat) (errs : List (Nat × Nat)) (ty : Nat), isOutbound a = false → s.checkAccess m a n false
    false = some ty → 0 < n → m < (s.vioNow (nearestTarget a)).hi → Completes (.memoryAccess m a n false data errs) s fun t => t.mem = s.mem ∧
    t.resp.err = true ∧ t.rd AT.VIO_LATEST_ADDR (nearestTarget a) = s.rd AT.VIO_LATEST_ADDR (nearestTarget a))

/-- R283, R284, R286, R289: patrolScrub: the scrubber meets each block of main memory once in a pass, corrects, counts and logs what it finds, and
leaves a sound block; chRetireWrite: a channel is marked for retirement and stays in use until the next start; atWindowWrite: a window of an access
table is written until its target is locked, a locked one answers with a violation; atCtrlLock: the lock is set. Where the spec leaves a reading
open it states the model's, of log entries 4, 5 and 86. -/
def Obligations.MemoryServiceCommands : Prop :=
(∀ (s : State) (a : Nat) (errs : List (Nat × Nat)),
    let u : State := s.forEach errs State.flipBit;
    u.eccSyms (a / 64 * 64) = [] → Completes (.patrolScrub a errs) s fun t => t.regs = s.regs ∧ t.mem = s.mem ∧ t.flips = u.flips) ∧
(∀ (s : State) (a : Nat) (errs : List (Nat × Nat)),
    let u : State := s.forEach errs State.flipBit;
    s.flag MEM.ECC_CTRL.SCRUB_EN = true → a < s.rd MEM.TOP → a < 0x1000000000 → u.isCe (a / 64 * 64) = true → s.scrubPass.done.contains (a / 64) =
    false → Completes (.patrolScrub a errs) s fun t => t.flag MEM.ECC_STATUS.CE = true ∧ t.eccSyms (a / 64 * 64) = [] ∧ t.mem = s.mem ∧ OnlyRegs s t
    [MEM.CH_CNT.CE.addr 0 (s.channelOf (a / 64 * 64)), MEM.ECC_STATUS.CE.addr]) ∧
(∀ (s : State) (a : Nat) (errs : List (Nat × Nat)),
    let u : State := s.forEach errs State.flipBit;
    s.flag MEM.ECC_CTRL.SCRUB_EN = true → a < s.rd MEM.TOP → a < 0x1000000000 → s.flag MEM.ECC_STATUS.FIRST_VALID = false → u.isUe (a / 64 * 64) =
    true → s.scrubPass.done.contains (a / 64) = false → Completes (.patrolScrub a errs) s fun t => t.flag MEM.ECC_STATUS.UE = true ∧ t.flag
    MEM.ECC_STATUS.FIRST_VALID = true ∧ t.rd MEM.UE_FIRST_ADDR = a / 64 * 64 ∧ t.rd MEM.UE_FIRST_INFO.MASTER = 0x3E ∧ t.rd MEM.UE_FIRST_INFO.SRC =
    ueScrub ∧ t.isUe (a / 64 * 64) = true ∧ t.mem = s.mem) ∧
(∀ (s : State) (a : Nat) (errs : List (Nat × Nat)), s.scrubPass.done.contains (a / 64) = true → Completes (.patrolScrub a errs) s fun t => t.regs =
    s.regs ∧ t.mem = s.mem) ∧
(∀ (s : State) (m : Fin 64) (v : Word), MayWrite s m MEM.CH_RETIRE.RETIRE.addr true → Completes (.chRetireWrite m v) s fun t => t.rd
    MEM.CH_RETIRE.RETIRE = s.rd MEM.CH_RETIRE.RETIRE ||| v.toNat % 65536 ∧ t.rd MEM.STATUS.USABLE = s.rd MEM.STATUS.USABLE ∧ OnlyRegs s t
    [MEM.CH_RETIRE.RETIRE.addr]) ∧
(∀ (s : State) (m : Fin 64) (x : Fin 10) (k : Fin 1024) (v : Word), MayWrite s m (AT.WIN_BASE.BASE.addr x k) true → s.flag AT.CTRL.LOCK x = false →
    Completes (.atWindowWrite m x k 0 v) s fun t => t.rd AT.WIN_BASE.BASE x k = v.toNat % 2 ^ (AT.WIN_BASE.BASE.hi + 1) ∧ OnlyRegs s t
    [AT.WIN_BASE.BASE.addr x k]) ∧
(∀ (s : State) (m : Fin 64) (x : Fin 10) (k : Fin 1024) (v : Word), MayWrite s m (AT.WIN_ATTR.EN.addr x k) true → s.flag AT.CTRL.LOCK x = false →
    Completes (.atWindowWrite m x k 2 v) s fun t => t.rd AT.WIN_ATTR.EN x k = v.toNat % 2 ∧ OnlyRegs s t [AT.WIN_ATTR.EN.addr x k]) ∧
(∀ (s : State) (m : Fin 64) (x : Fin 10) (k : Fin 1024) (i : Fin 3) (v : Word), MayWrite s m (AT.WIN_BASE.BASE.addr x k + 4 * i) true → s.flag
    AT.CTRL.LOCK x = true → m ≠ 0x3F → (s.vioNow (nearestTarget (AT.WIN_BASE.BASE.addr x k + 4 * i))).hi ≤ m → Completes (.atWindowWrite m x k i v)
    s fun t => t.resp.err = true ∧ t.reg (AT.WIN_BASE.BASE.addr x k + 4 * i) = s.reg (AT.WIN_BASE.BASE.addr x k + 4 * i) ∧ t.rd AT.VIO_LATEST_ADDR
    (nearestTarget (AT.WIN_BASE.BASE.addr x k)) = AT.WIN_BASE.BASE.addr x k + 4 * i) ∧
(∀ (s : State) (m : Fin 64) (x : Fin 10) (v : Word), MayWrite s m (AT.CTRL.LOCK.addr x) true → bit v.toNat 0 = true → Completes (.atCtrlLock m x v)
    s fun t => t.flag AT.CTRL.LOCK x = true)

/-- R293 to R297: LOAD starts a download from NONE or FAILED and gives CODE 1 in any other state, verification releases the cores or fails, READY
makes the firmware run, 150 ms without READY fail, and a supervisor reset clears firmware, mailboxes and releases. Where the spec leaves a reading
open it states the model's, of log entries 58 and 59. -/
def Obligations.FirmwareCommands : Prop :=
(∀ (s : State) (m : Fin 64) (v : Word), MayWrite s m SUP.FW_CMD.LOAD.base false → bit v.toNat 0 = true → (s.rd SUP.FW_STATUS.STATE = fwNone ∨ s.rd
    SUP.FW_STATUS.STATE = fwFailed) → Completes (.fwLoad m v) s fun t => t.rd SUP.FW_STATUS.STATE = fwLoading ∧ t.rd SUP.FW_STATUS.CODE = 0 ∧
    t.sup.loadAt = some s.dtime ∧ t.sup.addr = s.rd SUP.FW_ADDR ∧ t.sup.revoked = s.rd SEC.KEY_STATUS.REVOKED ∧ OnlyRegs s t
    [SUP.FW_STATUS.STATE.base]) ∧
(∀ (s : State) (m : Fin 64) (v : Word), MayWrite s m SUP.FW_CMD.LOAD.base false → bit v.toNat 0 = true → (s.rd SUP.FW_STATUS.STATE = fwLoading ∨
    s.rd SUP.FW_STATUS.STATE = fwStarting ∨ s.rd SUP.FW_STATUS.STATE = fwRunning) → Completes (.fwLoad m v) s fun t => t.rd SUP.FW_STATUS.STATE =
    s.rd SUP.FW_STATUS.STATE ∧ t.rd SUP.FW_STATUS.CODE = 1 ∧ t.sup = s.sup ∧ OnlyRegs s t [SUP.FW_STATUS.STATE.base]) ∧
(∀ (s : State) (g d : List Nat),
    let a := s.sup.addr;
    let r := s.masterRead 8 a 2560;
    let q := r.1.masterRead 8 (a + 2560) (fieldLE g 0x14 4 - 2560);
    s.rd SUP.FW_STATUS.STATE = fwLoading → a % 64 = 0 → s.imagePlace a 2560 = true → r.2 = .ok g → fwHeaderOk g = true → r.1.imagePlace a (fieldLE g
    0x14 4) = true → q.2 = .ok d → sha3 d = slice g 0x40 32 → fieldLE g 0x38 4 < 4 → bit s.sup.revoked (fieldLE g 0x38 4) = false → Completes
    (.fwVerifyDone) s fun t => (if Config.mldsaVerify (Config.vendorKey (fieldLE g 0x38 4)) (slice g 0 0x80) (slice g 0x80 2420) = true then t.rd
    SUP.FW_STATUS.STATE = fwStarting ∧ t.sup.fw.digest = sha3 d ∧ t.sup.code = slice d 0 (fieldLE g 0x18 4) ∧ t.sup.data = d.drop (fieldLE g 0x18 4)
    ∧ t.sup.entry = fieldLE g 0x20 4 else t.rd SUP.FW_STATUS.STATE = fwFailed ∧ t.rd SUP.FW_STATUS.CODE = 5)) ∧
(∀ (s : State), s.rd SUP.FW_STATUS.STATE = fwLoading → s.sup.addr % 64 = 0 → s.imagePlace s.sup.addr 2560 = true → (s.masterRead 8 s.sup.addr
    2560).2 = .ok (List.replicate 2560 0) → Room s → Completes (.fwVerifyDone) s fun t => t.rd SUP.FW_STATUS.STATE = fwFailed ∧ t.rd
    SUP.FW_STATUS.CODE = 3 ∧ t.sup.loadAt = none) ∧
(∀ (s : State), s.rd SUP.FW_STATUS.STATE = fwLoading → (s.sup.addr % 64 ≠ 0 ∨ s.imagePlace s.sup.addr 2560 = false) → Room s → Completes
    (.fwVerifyDone) s fun t => t.rd SUP.FW_STATUS.STATE = fwFailed ∧ t.rd SUP.FW_STATUS.CODE = 2 ∧ t.sup.loadAt = none ∧ Noted t 0x0902 srcModule
    s.dtime ∧ t.mem = s.mem) ∧
(∀ (s : State), s.rd SUP.FW_STATUS.STATE = fwStarting → Room s → Completes (.fwReady true) s fun t => t.rd SUP.FW_STATUS.STATE = fwRunning ∧ t.flag
    MB.GLOBAL.READY = true ∧ t.rd SUP.FW_VER.VALUE = (s.sup.fw.major + 65536 * s.sup.fw.minor) % 2 ^ 32 ∧ t.rd SUP.FW_TIME = s.dtime % 2 ^ 64 ∧ t.rd
    SUP.BOOT_CNT.CNT = (s.rd SUP.BOOT_CNT.CNT + 1) % 2 ^ (SUP.BOOT_CNT.CNT.hi + 1) ∧ t.sup.loadAt = none ∧ Noted t 0x0901 srcModule s.dtime) ∧
(∀ (s : State), s.rd SUP.FW_STATUS.STATE = fwStarting → Room s → Completes (.fwReady false) s fun t => t.rd SUP.FW_STATUS.STATE = fwFailed ∧ t.rd
    SUP.FW_STATUS.CODE = 7 ∧ t.sup.loadAt = none ∧ Noted t 0x0902 srcModule s.dtime) ∧
(∀ (s : State) (x : Nat), s.sup.loadAt = some x → x + 150 * msTicks ≤ s.dtime → Room s → Completes (.fwTimeout) s fun t => t.rd SUP.FW_STATUS.STATE
    = fwFailed ∧ t.rd SUP.FW_STATUS.CODE = 8 ∧ t.sup.loadAt = none) ∧
(∀ (s : State) (m : Fin 64) (v : Word), MayWrite s m SUP.CTRL.SUP_RESET.base false → bit v.toNat 0 = true → s.inReset = false → Completes (.supReset
    m v) s fun t => t.mbs = [] ∧ t.sup = { policy := s.sup.policy } ∧ (∀ n : Fin 48, (t.pw n).released = false) ∧ t.rd SUP.FW_STATUS.STATE = fwNone
    ∧ t.flag MB.GLOBAL.READY = false ∧ t.dtime = s.dtime) ∧
(∀ (s : State) (m : Fin 64) (v : Word), MayWrite s m SUP.CTRL.SUP_RESET.base false → bit v.toNat 0 = false → Completes (.supReset m v) s fun t =>
    t.regs = s.regs ∧ t.sup = s.sup ∧ t.mbs = s.mbs) ∧
(∀ (s : State), s.rd SUP.FW_STATUS.STATE = fwRunning → s.inReset = false → Completes (.supWatchdog) s fun t => t.mbs = [] ∧ (∀ n : Fin 48, (t.pw
    n).released = false) ∧ t.rd SUP.FW_STATUS.STATE = fwNone) ∧
(∀ (s : State), s.rd SUP.FW_STATUS.STATE = fwRunning → s.inReset = false → Completes (.supLockstep) s fun t => t.mbs = [] ∧ (∀ n : Fin 48, (t.pw
    n).released = false) ∧ t.rd SUP.FW_STATUS.STATE = fwNone)

/-- R298 to R300, R302, R303, R307: a request is written and rung, taken in the order of the doorbells, answered with its header and status,
acknowledged, and answered with TIMEOUT where its bound passes; a write or a doorbell at the wrong time is refused. Where the spec leaves a reading
open it states the model's, of log entry 59. -/
def Obligations.MailboxProtocol : Prop :=
(∀ (s : State) (m : Fin 64) (k : Fin 64) (x : Fin 16) (v : Word), MayWrite s m (MB.REQ.DATA.addr x k) false → s.flag MB.STATUS.PENDING x = false →
    s.flag MB.STATUS.BUSY x = false → Completes (.mbRequestWrite m x k v) s fun t => t.rd MB.REQ.DATA x k = v.toNat ∧ OnlyRegs s t [MB.REQ.DATA.addr
    x k]) ∧
(∀ (s : State) (m : Fin 64) (k : Fin 64) (x : Fin 16) (v : Word), MayWrite s m (MB.REQ.DATA.addr x k) false → (s.flag MB.STATUS.PENDING x = true ∨
    s.flag MB.STATUS.BUSY x = true) → Completes (.mbRequestWrite m x k v) s fun t => t.flag MB.STATUS.WR_REFUSED x = true ∧ OnlyRegs s t
    [MB.STATUS.WR_REFUSED.addr x]) ∧
(∀ (s : State) (m : Fin 64) (x : Fin 16) (v : Word), MayWrite s m (MB.DOORBELL.RING.addr x) false → bit v.toNat 0 = true → s.flag MB.GLOBAL.READY =
    true → s.flag MB.STATUS.PENDING x = false → s.flag MB.STATUS.BUSY x = false → s.flag MB.STATUS.REPLY x = false → Completes (.mbDoorbell m x v) s
    fun t => t.flag MB.STATUS.PENDING x = true ∧ t.rd MB.DB_TIME x = s.dtime % 2 ^ 64 ∧ OnlyRegs s t [MB.STATUS.PENDING.addr x, MB.DB_TIME.addr x,
    MB.DB_TIME.addr x + 4]) ∧
(∀ (s : State) (m : Fin 64) (x : Fin 16) (v : Word), MayWrite s m (MB.DOORBELL.RING.addr x) false → bit v.toNat 0 = true → (s.flag MB.GLOBAL.READY =
    false ∨ s.flag MB.STATUS.PENDING x = true ∨ s.flag MB.STATUS.BUSY x = true ∨ s.flag MB.STATUS.REPLY x = true) → Completes (.mbDoorbell m x v) s
    fun t => t.flag MB.STATUS.DB_REFUSED x = true ∧ t.flag MB.STATUS.PENDING x = s.flag MB.STATUS.PENDING x ∧ OnlyRegs s t
    [MB.STATUS.DB_REFUSED.addr x]) ∧
(∀ (s : State) (x : Nat), s.mbNext = some x → s.mbHeader x (s.mbRequest x) = mbOk → Completes (.mbTake) s fun t => t.flag MB.STATUS.PENDING x =
    false ∧ t.flag MB.STATUS.BUSY x = true ∧ (t.mb x).map (·.op) = some (fieldLE (s.mbRequest x) 0 2) ∧ (t.mb x).map (·.begun) = some false ∧ (t.mb
    x).map (·.taken) = some s.dtime ∧ OnlyRegs s t [MB.STATUS.PENDING.addr x]) ∧
(∀ (s : State) (x : Nat), s.mbNext = some x → mbLength (fieldLE (s.mbRequest x) 0 2) = none → Completes (.mbTake) s fun t => t.flag
    MB.STATUS.PENDING x = false ∧ t.flag MB.STATUS.BUSY x = true ∧ (t.mb x).map (·.result) = some (some (mbBadOpcode, 0, []))) ∧
(∀ (s : State), s.mbNext = none → Completes (.mbTake) s fun t => t = s) ∧
(∀ (s : State) (x : Fin 16) (y : MbCmdH) (st d : Nat) (pl : List Nat), s.mb x = some y → y.begun = true → y.result = some (st, d, pl) → y.op ≠
    0x00A0 → Completes (.mbReply x) s fun t => t.mb x = none ∧ t.flag MB.STATUS.REPLY x = true ∧ t.flag MB.STATUS.BUSY x = false ∧ t.rdBit
    MB.GLOBAL.REPLY_PEND x = true ∧ t.rd MB.REP.DATA x 0 = y.op % 65536 + 65536 * (pl.length % 65536) ∧ t.rd MB.REP.DATA x 1 = y.tag % 2 ^ 32 ∧ t.rd
    MB.REP.DATA x 2 = st % 65536 + 65536 * (d % 65536) ∧ t.rd MB.REP.DATA x 4 = s.dtime % 2 ^ 32) ∧
(∀ (s : State) (x : Fin 16) (y : MbCmdH) (st : Fin 4), s.mb x = some y → y.begun = true → y.result = some (mbOk, 0, []) → y.op = 0x00A0 → fieldLE
    y.payload 0 1 = st → st.val ≠ s.rd PWR.STATE.STATE → s.powerOk st = true → Completes (.mbReply x) s fun t => t.mb x = none ∧ t.flag
    MB.STATUS.REPLY x = true ∧ t.flag PWR.STATE.BUSY = true ∧ t.pwr.trans.map (·.1) = some st.val) ∧
(∀ (s : State) (x : Fin 16) (y : MbCmdH) (st : Fin 4), s.mb x = some y → y.begun = true → y.result = some (mbOk, 0, []) → y.op = 0x00A0 → fieldLE
    y.payload 0 1 = st → st.val ≠ s.rd PWR.STATE.STATE → s.powerOk st = false → Completes (.mbReply x) s fun t => t.mb x = none ∧ t.flag
    MB.STATUS.REPLY x = true ∧ t.pwr = s.pwr ∧ t.rd PWR.STATE.STATE = s.rd PWR.STATE.STATE) ∧
(∀ (s : State) (m : Fin 64) (x : Fin 16) (v : Word), MayWrite s m (MB.ACK.ACK.addr x) false → bit v.toNat 0 = true → Completes (.mbAck m x v) s fun
    t => t.flag MB.STATUS.REPLY x = false ∧ t.rdBit MB.GLOBAL.REPLY_PEND x = false ∧ OnlyRegs s t [MB.STATUS.REPLY.addr x,
    MB.GLOBAL.REPLY_PEND.addr]) ∧
(∀ (s : State) (x : Fin 16) (y : MbCmdH), s.mb x = some y → y.result = none → s.mbHeld y = false → y.taken + s.mbBound y * usTicks ≤ s.dtime →
    Completes (.mbCommandTimeout x) s fun t => t.mb x = none ∧ t.flag MB.STATUS.REPLY x = true ∧ t.rd MB.REP.DATA x 2 = mbTimeout)

/-- R300, R303 to R306, R331: a session opens at a version both sides know, a release is granted or refused with its DETAIL, a command that writes a
register does so under master 0x08, and a parameter out of range or a reserved byte that is not 0 changes nothing but gives BAD_PARAM. Where the
spec leaves a reading open it states the model's, of log entry 59. -/
def Obligations.MailboxCommands : Prop :=
(∀ (s : State) (b : Fin 16) (p : List Nat), Taken s b 0x0001 p → s.flag MB.GLOBAL.POLICY = false → p = [1, 0, 0, 0, 1, 0, 0, 0] ++ List.replicate 12
    0 → s.sup.fw.vers.head? = some (1, 0) → Completes (.hello b) s fun t => t.flag MB.STATUS.SESSION b = true ∧ t.rd MB.STATUS.MAJOR b = 1 ∧ t.rd
    MB.STATUS.MINOR b = 0 ∧ Came t b (some (mbGood (s.helloReply (1, 0))))) ∧
(∀ (s : State) (b : Fin 16) (p : List Nat), Taken s b 0x0002 p → p.length ≤ 232 → Completes (.ping b) s fun t => Came t b (some (mbOk, 0, p)) ∧
    t.regs = s.regs) ∧
(∀ (s : State) (b : Fin 16) (n : Fin 48), Taken s b 0x0010 [n, 0, 0, 0] → s.releaseCode n = 0 → Completes (.axisRelease b) s fun t => (t.pw
    n).released = true ∧ t.rd AX.SAF_STATUS.STATE n = 1 ∧ Came t b (some (mbOk, 0, [1, 0, 0, 0]))) ∧
(∀ (s : State) (b : Fin 16) (n : Fin 48), Taken s b 0x0010 [n, 0, 0, 0] → s.flag SAF.STATUS.STATE = false → Completes (.axisRelease b) s fun t =>
    (t.pw n).released = (s.pw n).released ∧ t.regs = s.regs ∧ Came t b (some (mbRefused, 1, [0, 0, 0, 0]))) ∧
(∀ (s : State) (b : Fin 16) (n : Fin 256), Taken s b 0x0010 [n, 0, 0, 0] → 48 ≤ n.val → Completes (.axisRelease b) s fun t => t.regs = s.regs ∧ Came
    t b (some (mbBadParam, 0, []))) ∧
(∀ (s : State) (b : Fin 16) (n : Fin 48), Taken s b 0x0011 [n, 0, 0, 0] → s.axOn n = false → Completes (.axisWithhold b) s fun t => (t.pw
    n).released = false ∧ t.rd AX.SAF_STATUS.STATE n = 0 ∧ Came t b (some (mbOk, 0, []))) ∧
(∀ (s : State) (b : Fin 16) (n : Fin 48), Taken s b 0x0011 [n, 0, 0, 0] → s.axOn n = true → Completes (.axisWithhold b) s fun t => t.regs = s.regs ∧
    Came t b (some (mbState, 0, []))) ∧
(∀ (s : State) (b : Fin 16) (x : Fin 2) (n : Fin 48), Taken s b 0x0012 [x, n, 1, 0] → MayWrite s 8 (PXB.MAP.AXIS.addr 0 x) true → s.flag
    PXB.STATUS.BUSY = true → Completes (.pxbMap b) s fun t => t.reg (PXB.MAP.AXIS.addr 0 x) = s.reg (PXB.MAP.AXIS.addr 0 x) ∧ ((t.mb b).map (fun y
    => y.result.map fun r => (r.1, r.2.1)) = some (some (mbRefused, 1)))) ∧
(∀ (s : State) (b : Fin 16) (x : Fin 2) (n : Fin 48), Taken s b 0x0012 [x, n, 1, 0] → MayWrite s 8 (PXB.MAP.AXIS.addr 0 x) true → s.flag
    PXB.MAP.VALID 0 x = false → s.flag PXB.MAP.VALID 0 (1 - x) = false → s.flag PXB.STATUS.BUSY = false → s.axOn n = false → s.rdBit AGE.PFENCE_AX
    (48 + x) = false → Completes (.pxbMap b) s fun t => t.flag PXB.STATUS.BUSY = true ∧ t.rd PXB.MAP.AXIS 0 x = n ∧ t.pxbMoving n = true ∧ Came t b
    none) ∧
(∀ (s : State) (b : Fin 16) (x : Fin 16), Taken s b 0x0020 [x, 0, 0, 0] → MayWrite s 8 MF.CAL_CMD.START.base true → s.rd SUP.FW_STATUS.STATE =
    fwRunning → s.flag MF.CAL_STATUS.BUSY = false → Completes (.calStart b) s fun t => t.flag MF.CAL_STATUS.BUSY = true ∧ Came t b none) ∧
(∀ (s : State) (b : Fin 16) (n : Fin 48) (k : Fin 3) (a : Fin 128), Taken s b 0x0030 [n, k, 0, 0, 0, a, 0, 0] → MayWrite s 8 OBS.LOAD_ADDR.ADDR.base
    (needsSw OBS.LOAD_ADDR.ADDR.base) → MayWrite s 8 OBS.LOAD_CMD.GO.base true → s.flag OBS.LOAD_STATUS.BUSY = false → Completes (.obsLoad b) s fun
    t => t.obsLoad = some (n.val, k.val, a.val * 256) ∧ t.flag OBS.LOAD_STATUS.BUSY = true ∧ Came t b none) ∧
(∀ (s : State) (b : Fin 16) (n : Fin 48) (k : Fin 3) (a : Fin 128), Taken s b 0x0030 [n, k, 0, 0, 0, a, 0, 0] → s.flag OBS.LOAD_STATUS.BUSY = true →
    Completes (.obsLoad b) s fun t => t.regs = s.regs ∧ Came t b (some (mbState, 0, []))) ∧
(∀ (s : State) (b : Fin 16) (n : Fin 48) (k : Fin 3), Taken s b 0x0031 [n, k, 0, 0] → MayWrite s 8 OBS.LOAD_CMD.GO.base true → Completes (.obsRemove
    b) s fun t => t.obsRemove = s.obsRemove ++ [(n.val, k.val)] ∧ Came t b none) ∧
(∀ (s : State) (b : Fin 16) (l : Fin 256) (q : Fin 16), Taken s b 0x0032 [l, 0, q, 0] → MayWrite s 8 OBS.LANE_FENCE.FENCE.base true → s.lanes = [] →
    Completes (.laneFence b) s fun t => (∀ i : Fin 8, bit l i = true → t.rdBit OBS.LANES.USABLE i = false) ∧ (∀ i : Fin 4, bit q i = true → t.rdBit
    OBS.LANES.P_USABLE i = false) ∧ ((t.mb b).map (fun y => y.result.map fun r => (r.1, r.2.1)) = some (some (mbOk, 0)))) ∧
(∀ (s : State) (b : Fin 16) (c : Fin 64), Taken s b 0x0040 [c, 6, 0, 0] → MayWrite s 8 (CTX.CMD.OP.addr c) true → s.rd SUP.FW_STATUS.STATE =
    fwRunning → s.flag CTX.STATUS.BUSY c = false → s.rd CTX.STATUS.STATE c = ctxLoaded → Completes (.ctxCmd b) s fun t => t.flag CTX.STATUS.BUSY c =
    true ∧ (((t.cx c).cmd.map fun k => k.op) = some 6) ∧ Came t b none) ∧
(∀ (s : State) (b : Fin 16) (x : Fin 256), Taken s b 0x0041 [x, 0, 0, 0] → MayWrite s 8 INF.ENG_FENCE.FENCE.base true → Completes (.engFence b) s
    fun t => (∀ p : Fin 8, bit x p = true → t.rdBit INF.ENG_STATUS.USABLE p = false) ∧ ((t.mb b).map (fun y => y.result.map fun r => (r.1, r.2.1)) =
    some (some (mbOk, 0)))) ∧
(∀ (s : State) (b : Fin 16) (x : Fin 8), Taken s b 0x0042 [x, 0, 0, 0] → MayWrite s 8 (ENG.CTRL.RESET.addr x) true → s.inReset = false → Completes
    (.engReset b) s fun t => (t.en x).tiles = [] ∧ (t.en x).issue = none ∧ Came t b (some (mbOk, 0, []))) ∧
(∀ (s : State) (b : Fin 16) (x y : Fin 256), Taken s b 0x0050 [x, y, 0, 0] → MayWrite s 8 MEM.CH_RETIRE.RETIRE.base true → Completes (.memRetire b)
    s fun t => t.rd MEM.CH_RETIRE.RETIRE = s.rd MEM.CH_RETIRE.RETIRE ||| (x + 256 * y) ∧ ((t.mb b).map (fun y => y.result.map fun r => (r.1, r.2.1))
    = some (some (mbOk, 0)))) ∧
(∀ (s : State) (b : Fin 16) (x : Fin 10) (m : Fin 64) (k : Fin 16) (r : Fin 16) (p : List Nat), Taken s b 0x0060 p → p.length = 16 → (p.getD 0 0 = x
    ∧ p.getD 1 0 = m ∧ p.getD 2 0 = k ∧ p.getD 3 0 = 0 ∧ p.drop 12 = [r.val, 0, 0, 0]) → s.flag AT.CTRL.LOCK x = true → Completes (.atWrite b) s fun
    t => t.reg (AT.WIN_BASE.BASE.addr x (m * 16 + k)) = s.reg (AT.WIN_BASE.BASE.addr x (m * 16 + k)) ∧ Came t b (some (mbRefused, 1, []))) ∧
(∀ (s : State) (b : Fin 16) (x : Fin 10) (m : Fin 64) (k : Fin 16) (r : Fin 16) (p : List Nat), Taken s b 0x0060 p → p.length = 16 → (p.getD 0 0 = x
    ∧ p.getD 1 0 = m ∧ p.getD 2 0 = k ∧ p.getD 3 0 = 0 ∧ p.drop 12 = [r.val, 0, 0, 0]) → s.flag AT.CTRL.LOCK x = false → x.val ≠ 5 → MayWrite s 8
    (AT.WIN_BASE.BASE.addr x (m * 16 + k)) true → MayWrite s 8 (AT.WIN_LIMIT.LIMIT.addr x (m * 16 + k)) true → MayWrite s 8 (AT.WIN_ATTR.EN.addr x
    (m * 16 + k)) true → Completes (.atWrite b) s fun t => t.rd AT.WIN_BASE.BASE x (m * 16 + k) = fieldLE p 4 4 % 2 ^ (AT.WIN_BASE.BASE.hi + 1) ∧
    t.rd AT.WIN_LIMIT.LIMIT x (m * 16 + k) = fieldLE p 8 4 % 2 ^ (AT.WIN_LIMIT.LIMIT.hi + 1) ∧ t.rd AT.WIN_ATTR.EN x (m * 16 + k) = r % 2 ∧ Came t b
    (some (mbOk, 0, []))) ∧
(∀ (s : State) (b : Fin 16) (x : Fin 10), Taken s b 0x0061 (le 4 (2 ^ x.val)) → MayWrite s 8 (AT.CTRL.LOCK.addr x) true → Completes (.atLock b) s
    fun t => t.flag AT.CTRL.LOCK x = true ∧ OnlyRegs s t [AT.CTRL.LOCK.addr x] ∧ Came t b (some (mbOk, 0, []))) ∧
(∀ (s : State) (b : Fin 16) (n : Fin 48) (v : Nat), Taken s b 0x0070 (le 8 AX.SAF_CFG.GROUP.base ++ le 4 v) → s.checkAccess 8 AX.SAF_CFG.GROUP.base
    4 true true = some vioWrite → Completes (.swWrite b) s fun t => Came t b (some (mbState, 0, [])) ∧ t.rd AX.SAF_CFG.GROUP 0 = s.rd
    AX.SAF_CFG.GROUP 0) ∧
(∀ (s : State) (b : Fin 16) (a v : Nat),
    let u := s.busWrite 8 a v;
    Taken s b 0x0070 (le 8 a ++ le 4 v) → a < 2 ^ 64 → v < 2 ^ 32 → isRegSpace a = true → a % 4 = 0 → needsSw a = true → ownCommand a = false →
    Completes (.swWrite b) s fun t => (t.regs = if u.resp.err then s.regs else u.regs) ∧ (t.mem = if u.resp.err then s.mem else u.mem) ∧ (u.mb b =
    s.mb b → Came t b (some (if u.resp.err then (mbState, 0, []) else mbGood (u.regBytes a))))) ∧
(∀ (s : State) (b : Fin 16) (a v : Nat), Taken s b 0x0070 (le 8 a ++ le 4 v) → a < 2 ^ 64 → (needsSw a = false ∧ a ≠ PWR.RST_CMD.SYS.base) →
    Completes (.swWrite b) s fun t => Came t b (some (mbBadParam, 0, [])) ∧ t.regs = s.regs) ∧
(∀ (s : State) (b : Fin 16) (x : Fin 4), Taken s b 0x00A0 [x, 0, 0, 0] → x.val = s.rd PWR.STATE.STATE → Completes (.powerState b) s fun t => Came t
    b (some (mbOk, 0, [])) ∧ t.regs = s.regs) ∧
(∀ (s : State) (b : Fin 16) (x : Fin 4), Taken s b 0x00A0 [x, 0, 0, 0] → s.flag PWR.STATE.BUSY = false → ((s.rd PWR.STATE.STATE = 1 ∧ x.val ≠ 1) ∨
    (s.rd PWR.STATE.STATE = 0 ∧ x.val = 3) ∨ (s.rd PWR.STATE.STATE = 0 ∧ x.val = 1 ∧ (∀ n : Fin 48, s.axOn n = false) ∧ ∀ c : Fin 64, s.rd
    CTX.STATUS.STATE c ≠ ctxArmed)) → Completes (.powerState b) s fun t => Came t b (some (mbOk, 0, [])) ∧ t.regs = s.regs) ∧
(∀ (s : State) (b : Fin 16) (x : Fin 4), Taken s b 0x00A0 [x, 0, 0, 0] → x.val ≠ s.rd PWR.STATE.STATE → s.powerOk x = false → Completes (.powerState
    b) s fun t => Came t b (some (mbState, 0, [])) ∧ t.regs = s.regs)

/-- R310 to R315, R329, R330: safeInputChange: a safe input follows a channel's level that has passed its filter; siDisc: channels that differ for
longer than DISC make the groups active; stoReqWrite: a request makes its groups active; safAckGroups and safAckFaults: what is latched ends by an
acknowledgement without a cause; stoTestPulse: a test pulse takes one channel low; stoReadbackMismatch: a readback that differs for more than 10 µs
is STO_FB; heartbeatLoss and clock: the watchdog island takes every channel B low without heartbeat or with a clock outside ±2 %. Where the spec
leaves a reading open it states the model's, of log entries 20 and 62. -/
def Obligations.SafetyInputsAndGroups : Prop :=
(∀ (s : State) (k : Fin 16) (chB : Bool) (x : PinLevel), x.since + 2 + s.rd SAF.SI_CFG.SI_FILT 0 k * 100 * usTicks ≤ s.dtime → Completes
    (.safeInputChange k chB x) s fun t => ((if chB then (t.si k).b else (t.si k).a) = x.level) ∧ t.rdBit SAF.SI_STATE.LOW k = t.siActive k) ∧
(∀ (s : State) (k : Fin 16) (chB : Bool) (x : PinLevel), s.dtime < x.since + 2 + s.rd SAF.SI_CFG.SI_FILT 0 k * 100 * usTicks → Completes
    (.safeInputChange k chB x) s fun t => t = s) ∧
(∀ (s : State) (k : Fin 16) (g : Fin 16) (chB : Bool) (x : PinLevel), x.since + 2 + s.rd SAF.SI_CFG.SI_FILT 0 k * 100 * usTicks ≤ s.dtime → x.level
    = s.flag SAF.SI_CFG.POL 0 k → s.rd SAF.SI_CFG.FUNC 0 k = 1 → s.rdBit SAF.SI_GROUPS.GROUPS g 0 k = true → Completes (.safeInputChange k chB x) s
    fun t => t.stoActive g = true) ∧
(∀ (s : State) (k : Fin 16) (g : Fin 16) (x : Nat), (s.si k).differ = some x → s.rdBit SAF.SI_STATE.HIGH k = false → x + s.rd SAF.SI_CFG.DISC 0 k *
    msTicks < s.dtime → s.rdBit SAF.SI_GROUPS.GROUPS g 0 k = true → Completes (.siDisc k) s fun t => t.rdBit SAF.SI_STATE.HIGH k = true ∧
    t.stoActive g = true) ∧
(∀ (s : State) (m : Fin 64) (v : Word) (g : Fin 16), MayWrite s m SAF.STO_REQ.GROUPS.base true → bit v.toNat g = true → Completes (.stoReqWrite m v)
    s fun t => t.stoActive g = true ∧ t.rdBit SAF.STO_REQ.GROUPS g = true ∧ (∀ n : Fin 48, s.groupOfAxis n = g.val → s.stoActive g = false → t.axOn
    n = false)) ∧
(∀ (s : State) (m : Fin 64) (v : Word) (g : Fin 16), MayWrite s m SAF.ACK.GROUPS.base true → bit v.toNat g = true → s.stoCause g = false → Completes
    (.safAckGroups m v) s fun t => t.stoActive g = false ∧ OnlyRegs s t [SAF.GROUP_STATE.LOW.base]) ∧
(∀ (s : State) (m : Fin 64) (v : Word) (g : Fin 16), MayWrite s m SAF.ACK.GROUPS.base true → s.stoCause g = true → s.stoActive g = true → Completes
    (.safAckGroups m v) s fun t => t.stoActive g = true) ∧
(∀ (s : State) (m : Fin 64) (v : Word) (n : Fin 48), MayWrite s m SAF.ACK.GROUPS.base true → v.toNat % 65536 = 0 → (s.sx n).causes = [] → Completes
    (.safAckFaults m v) s fun t => (t.sx n).react = 0 ∧ (t.sx n).ceil = none ∧ t.rd AX.SAF_STATUS.REACT n = 0) ∧
(∀ (s : State) (g : Fin 16), s.pulseDue g false = true → Completes (.stoTestPulse g false true) s fun t => bit t.saf.outA g = false ∧ (t.pulseOf
    g).a = some s.dtime ∧ t.regs = s.regs) ∧
(∀ (s : State) (g : Fin 16) (x : Nat), (s.pulseOf g).a = some x → x + s.rd SAF.STO_TEST.PULSE * 10 * usTicks ≤ s.dtime → Completes (.stoTestPulse g
    false false) s fun t => bit t.saf.pulseA g = false ∧ t.regs = s.regs) ∧
(∀ (s : State) (g : Fin 16) (x : StoReadback), (x.level ≠ bit (if x.chB then s.saf.outB else s.saf.outA) g) → (max x.since (Tab.get 0 (if x.chB then
    s.saf.bAt else s.saf.aAt) g) + 10 * usTicks < s.dtime) → Completes (.stoReadbackMismatch g x) s fun t => t.stoActive g = true ∧ t.rd
    SAF.FAULT_TIME = s.dtime % 2 ^ 64) ∧
(∀ (s : State) (g : Fin 16) (x : StoReadback), (x.level = bit (if x.chB then s.saf.outB else s.saf.outA) g ∨ s.dtime ≤ max x.since (Tab.get 0 (if
    x.chB then s.saf.bAt else s.saf.aAt) g) + 10 * usTicks) → Completes (.stoReadbackMismatch g x) s fun t => t = s) ∧
(∀ (s : State), Completes (.heartbeatLoss) s fun t => t.saf.outB = 0 ∧ t.regs = s.regs) ∧
(∀ (s : State) (x : ClockDev), s.saf.clockBad = false → (20000 < absI x.timing ∨ 20000 < absI x.island) → Completes (.clock x) s fun t =>
    t.saf.clockBad = true ∧ t.saf.outB = 0 ∧ (∀ g : Fin 16, t.stoActive g = true)) ∧
(∀ (s : State) (x : ClockDev), absI x.timing ≤ 20000 → absI x.island ≤ 20000 → Completes (.clock x) s fun t => t.saf.clockBad = false ∧ t.regs =
    s.regs)

/-- R318, R320 to R322, R324 to R328, R332, R333: a window opens at a multiple of the cycle, aborts running slices and moves the rotating tests on,
a slice starts, passes or takes its unit out of service, the configuration is checked and locked with its CRC, and RUN is entered once every unit
has passed. Where the spec leaves a reading open it states the model's, of log entries 61, 62 and 65. -/
def Obligations.SafetyCycleCommands : Prop :=
(∀ (s : State) (bad : List (Fin 116)), s.dtime % s.cycleTicks = 0 → s.saf.windowAt ≠ some s.dtime → Completes (.safetyWindow bad) s fun t =>
    t.saf.windowAt = some s.dtime ∧ t.saf.hbLost = false ∧ t.rd SAF.TEST_STATUS.ROT_POS = (s.rd SAF.TEST_STATUS.ROT_POS + 39) % 116 ∧ (∀ u : Fin 24,
    (t.tst u).start = none)) ∧
(∀ (s : State) (bad : List (Fin 116)), s.dtime % s.cycleTicks ≠ 0 → Completes (.safetyWindow bad) s fun t => t = s) ∧
(∀ (s : State) (n : Fin 48) (x : Nat × Nat), (s.sx n).ss1 = some x → x.1 + s.rd AX.SAF_SS1_T.MS n * msTicks ≤ s.dtime → s.groupOfAxis n < 16 →
    Completes (.ss1Timeout n) s fun t => t.stoActive (s.groupOfAxis n) = true) ∧
(∀ (s : State) (u : Nat), s.sliceUnit = some u → Completes (.testSliceStart) s fun t => (t.tst u).start = some s.dtime ∧ t.saf = s.saf) ∧
(∀ (s : State) (u : Fin 24) (x : Nat), (s.tst u).start = some x → s.jobs = [] → s.pjobs = [] → Completes (.testSliceComplete u true) s fun t =>
    (t.tst u).start = none ∧ (t.tst u).done = true ∧ (t.tst u).last = s.dtime) ∧
(∀ (s : State) (u : Fin 24) (x : Nat), (s.tst u).start = some x → s.jobs = [] → s.pjobs = [] → Completes (.testSliceComplete u false) s fun t =>
    (t.tst u).start = none ∧ t.unitUsable u = false ∧ t.rd SAF.FAULT_TIME = s.dtime % 2 ^ 64) ∧
(∀ (s : State) (u : Fin 24) (x : Nat), (s.tst u).restoreBy = some x → s.jobs = [] → s.pjobs = [] → Completes (.testRestoreDone u) s fun t => (t.tst
    u).restoreBy = none) ∧
(∀ (s : State) (u : Fin 24), s.flag SAF.STATUS.STATE = true → s.rd PWR.STATE.STATE = 0 → s.unitUsable u = true → max (s.tst u).last s.saf.runAt +
    (s.rd SAF.CFG.FTTI * msTicks - 500 * usTicks) < s.dtime → s.jobs = [] → s.pjobs = [] → Completes (.testDeadline u) s fun t => t.flag
    SAF.STATUS.DEADLINE = true ∧ t.unitUsable u = false) ∧
(∀ (s : State) (m : Fin 64) (v : Word), MayWrite s m SAF.CFG.FTTI.base true → s.flag SAF.CTRL.LOCK = false → (2 ≤ bits v.toNat 3 0 ∧ bits v.toNat 3
    0 ≤ 10) → (5 ≤ bits v.toNat 11 4 ∧ bits v.toNat 11 4 ≤ 50 ∧ bits v.toNat 11 4 ≤ 5 * bits v.toNat 3 0) → Completes (.safCfgWrite m v) s fun t =>
    t.rd SAF.CFG.FTTI = bits v.toNat 3 0 ∧ t.rd SAF.CFG.CYCLE = bits v.toNat 11 4 ∧ OnlyRegs s t [SAF.CFG.FTTI.base]) ∧
(∀ (s : State) (m : Fin 64) (v : Word), MayWrite s m SAF.CFG.FTTI.base true → s.flag SAF.CTRL.LOCK = false → 5 * bits v.toNat 3 0 < bits v.toNat 11
    4 → Completes (.safCfgWrite m v) s fun t => t.flag SAF.STATUS.CFG_REFUSED = true ∧ OnlyRegs s t [SAF.STATUS.CFG_REFUSED.base]) ∧
(∀ (s : State) (m : Fin 64) (v : Word), MayWrite s m SAF.CTRL.LOCK.base true → s.flag SAF.CTRL.LOCK = false → Completes (.safLock m v) s fun t =>
    t.flag SAF.CTRL.LOCK = true ∧ t.rd SAF.CFG_CRC_CALC.VALUE = crc32c s.safConfig ∧ t.flag SAF.STATUS.CRC_OK = (crc32c s.safConfig == s.rd
    SAF.CFG_CRC.VALUE) ∧ OnlyRegs s t [SAF.CTRL.LOCK.base, SAF.CFG_CRC_CALC.VALUE.base, SAF.STATUS.CRC_OK.base]) ∧
(∀ (s : State), s.flag SAF.CTRL.LOCK = true → s.flag SAF.STATUS.CRC_OK = true → s.flag SAF.STATUS.STATE = false → (∀ u : Fin 24, s.unitUsable u =
    true → (s.tst u).done = true) → Completes (.safEnterRun) s fun t => t.flag SAF.STATUS.STATE = true ∧ t.saf.runAt = s.dtime ∧ OnlyRegs s t
    [SAF.STATUS.STATE.base]) ∧
(∀ (s : State) (n : Fin 48) (ts : Nat) (ia ib ua ub : Int) (bus : Fin 65536), s.flag TWN.CFG.EN = true → s.flag TWN.CFG.ROLE = true → s.flag
    AX.SAF_CFG.PAIR n = true → s.axOn n = false → Completes (.shadow n ts ia ib ua ub bus) s fun t => (t.fo n).ualpha = ua ∧ (t.fo n).ubeta = ub ∧
    t.axOn n = false) ∧
(∀ (s : State) (speeds : List (Fin 48 × Word)) (sto : PeerStates) (si gr : Fin 65536), s.flag TWN.CFG.EN = true → sto.window = some (si, gr) →
    Completes (.safety speeds sto) s fun t => t.saf.heard = true ∧ (t.saf.peer = speeds.map fun x => (x.1.val, x.2.toNat)) ∧ (t.saf.peerSi = si ∧
    t.saf.peerGroups = gr) ∧ (∀ g : Fin 16, bit sto.request g = true → t.stoActive g = true)) ∧
(∀ (s : State) (speeds : List (Fin 48 × Word)) (sto : PeerStates), s.flag TWN.CFG.EN = true → sto.window = none → Completes (.safety speeds sto) s
    fun t => t.saf.heard = s.saf.heard ∧ t.saf.peer = s.saf.peer ∧ (∀ g : Fin 16, bit sto.request g = true → t.stoActive g = true))

/-- R346, R349, R350, R352, R354: delayMonitorMeasure: every 100 ms and not within 1 ms of a change of voltage, each monitor's slack is the median
of its last 16 measurements; replan and ageReplan: a re-plan under FIXED changes no voltage, one under ADAPTIVE moves each delay-line correction by
one step and asks for 5 mV more where the slack is below target; svcCmd: the service command clears retired channels, and with PF the fences named,
only in AXIS_HOLD with every context FREE. Where the spec leaves a reading open it states the model's, of log entries 66 and 67. -/
def Obligations.AgeingCommands : Prop :=
(∀ (s : State) (x : Int),
    let l : List Int := (x :: Tab.get [] s.age.samples 0).take 16;
    (∀ y, s.age.lastMeas = some y → y + 100 * msTicks ≤ s.dtime) → s.age.notBefore ≤ s.dtime → (-32768 ≤ x ∧ x ≤ 32767) → (l.all (fun y => decide
    (-32768 ≤ y ∧ y ≤ 32767)) = true) → Completes (.delayMonitorMeasure [x]) s fun t => t.rdS AGE.MON.SLACK 0 0 = medianOf l ∧ t.age.lastMeas = some
    s.dtime ∧ Tab.get [] t.age.samples 0 = l) ∧
(∀ (s : State) (l : List Int) (y : Nat), s.age.lastMeas = some y → s.dtime < y + 100 * msTicks → Completes (.delayMonitorMeasure l) s fun t => t =
    s) ∧
(∀ (s : State) (l : List Int), (∀ y, s.age.lastMeas = some y → y + 100 * msTicks ≤ s.dtime) → s.dtime < s.age.notBefore → Completes
    (.delayMonitorMeasure l) s fun t => t.age.lastMeas = some s.dtime ∧ t.age.samples = s.age.samples ∧ t.regs = s.regs) ∧
(∀ (s : State) (dl ref : List Int) (ack : Bool), s.flag AGE.STATUS.MODE = false → Completes (.replan dl ref ack) s fun t => t.rd AGE.VREQ.V_REQ =
    s.rd AGE.VREQ.V_REQ ∧ t.rd AGE.STATUS.REPLAN_CNT = s.rd AGE.STATUS.REPLAN_CNT ∧ (∀ g : Fin 16, t.rd AGE.DL_CORR.CORR 0 g = s.rd AGE.DL_CORR.CORR
    0 g)) ∧
(∀ (s : State) (dl ref : List Int) (ack : Bool), s.age.hourDue = false → (s.age.firstPlan = false ∨ s.flag PWR.START_STATUS.BOOT_OK = false) →
    Completes (.replan dl ref ack) s fun t => t = s) ∧
(∀ (s : State) (d : Int) (ref : List Int) (ack : Bool) (x : Int) (i : Nat), s.age.hourDue = true → s.flag AGE.STATUS.MODE = true → s.slackMin = some
    (x, i) → s.rd AGE.VFIX.TGT ≤ x → x ≤ s.rd AGE.VFIX.TGT + s.rd AGE.VFIX.HYS → Completes (.replan [d] ref ack) s fun t => t.rdS AGE.DL_CORR.CORR 0
    0 = stepToward (s.rdS AGE.DL_CORR.CORR 0 0) d 1 64 ∧ t.rd AGE.VREQ.V_REQ = s.rd AGE.VREQ.V_REQ ∧ t.rd AGE.STATUS.REPLAN_CNT = (s.rd
    AGE.STATUS.REPLAN_CNT + 1) % 2 ^ (AGE.STATUS.REPLAN_CNT.hi + 1 - AGE.STATUS.REPLAN_CNT.lo) ∧ t.age.firstPlan = false ∧ t.age.hourDue = false) ∧
(∀ (s : State) (m : Fin 64) (v : Word) (x : Int) (i : Nat), MayWrite s m AGE.CTRL.REPLAN.base false → bit v.toNat 0 = true → s.flag AGE.STATUS.MODE
    = true → s.slackMin = some (x, i) → x < s.rd AGE.VFIX.TGT → s.rd AGE.VREQ.V_REQ < s.rd AGE.VFUSE.VMAX → s.rd AGE.VREQ.V_REQ + 5 < 2 ^
    (AGE.VREQ.V_REQ.hi + 1 - AGE.VREQ.V_REQ.lo) → Completes (.ageReplan m v [] [] true) s fun t => t.rd AGE.VREQ.V_REQ = s.rd AGE.VREQ.V_REQ + 5 ∧
    t.rd AGE.STATUS.REPLAN_CNT = (s.rd AGE.STATUS.REPLAN_CNT + 1) % 2 ^ (AGE.STATUS.REPLAN_CNT.hi + 1 - AGE.STATUS.REPLAN_CNT.lo) ∧ t.age.notBefore
    = s.dtime + msTicks) ∧
(∀ (s : State) (m : Fin 64) (v : Word), MayWrite s m AGE.SVC_CMD.CH.base true → s.rd PWR.STATE.STATE = 1 → s.flag PWR.STATE.BUSY = false → (∀ c :
    Fin 64, s.rd CTX.STATUS.STATE c = ctxFree) → bits v.toNat 23 16 = 0xA5 → bit v.toNat 24 = false → Completes (.svcCmd m v) s fun t => t.rd
    MEM.CH_RETIRE.RETIRE = s.rd MEM.CH_RETIRE.RETIRE - (s.rd MEM.CH_RETIRE.RETIRE &&& v.toNat % 65536) ∧ OnlyRegs s t [MEM.CH_RETIRE.RETIRE.base]) ∧
(∀ (s : State) (m : Fin 64) (v : Word), MayWrite s m AGE.SVC_CMD.CH.base true → s.rd PWR.STATE.STATE = 1 → s.flag PWR.STATE.BUSY = false → (∀ c :
    Fin 64, s.rd CTX.STATUS.STATE c = ctxFree) → bits v.toNat 23 16 = 0xA5 → bit v.toNat 24 = true → Completes (.svcCmd m v) s fun t => t.rd
    AGE.PFENCE.PFENCE = s.rd AGE.PFENCE.PFENCE - (s.rd AGE.PFENCE.PFENCE &&& s.rd AGE.PFENCE_CLR.MASK) ∧ t.rd AGE.PFENCE_AX = s.rd AGE.PFENCE_AX -
    (s.rd AGE.PFENCE_AX &&& s.rd AGE.PFENCE_AX_CLR)) ∧
(∀ (s : State) (m : Fin 64) (v : Word), MayWrite s m AGE.SVC_CMD.CH.base true → (s.rd PWR.STATE.STATE ≠ 1 ∨ bits v.toNat 23 16 ≠ 0xA5) → Completes
    (.svcCmd m v) s fun t => t.flag AGE.STATUS.SVC_REFUSED = true ∧ OnlyRegs s t [AGE.STATUS.SVC_REFUSED.base])

/-- R355, R357, R359, R361, R363 to R365: the event that has waited longest becomes a record with the next sequence number, pending records go to
the mirror, a flush sets the clean mark, a mirror record is read back, and each 0.1 h counts one. Where the spec leaves a reading open it states the
model's, of log entry 68. -/
def Obligations.RecorderCommands : Prop :=
(∀ (s : State) (e : RecEvent) (l : List RecEvent), s.recd.queue = e :: l → s.recd.lastTake = none → s.recd.lost = 0 → s.findCand e = none →
    Completes (.recorderTake) s fun t => t.recd.queue = l ∧ t.recd.nextSeq = s.recd.nextSeq + 1 ∧ t.rd REC.HEAD.VALUE = s.recd.nextSeq % 2 ^ 32 ∧
    (t.getRecord s.recd.nextSeq).seq = s.recd.nextSeq ∧ (t.getRecord s.recd.nextSeq).code = e.code ∧ (t.getRecord s.recd.nextSeq).source = e.source
    ∧ (t.getRecord s.recd.nextSeq).dt = e.stamp ∧ (t.getRecord s.recd.nextSeq).payload = e.payload ∧ t.rd REC.QUEUE.VALUE = l.length % 2 ^
    (REC.QUEUE.VALUE.hi + 1)) ∧
(∀ (s : State) (x : Nat), s.recd.lastTake = some x → s.dtime < x + 4 → Completes (.recorderTake) s fun t => t = s) ∧
(∀ (s : State), (s.recd.pendNew ≠ [] ∨ s.recd.pendRep ≠ []) → Completes (.mirrorWrite true) s fun t => t.recd.pendNew = [] ∧ t.recd.pendRep = [] ∧
    t.recd.hist.clean = false ∧ t.recd.hist.nextSeq = s.recd.nextSeq ∧ t.rd REC.NV_HEAD.VALUE = s.rd REC.HEAD.VALUE) ∧
(∀ (s : State), (s.recd.pendNew ≠ [] ∨ s.recd.pendRep ≠ []) → Completes (.mirrorWrite false) s fun t => t.flag REC.STATUS.NV_ERR = true ∧ OnlyRegs s
    t [REC.STATUS.NV_ERR.base] ∧ t.recd = s.recd) ∧
(∀ (s : State) (m : Fin 64) (v : Word), MayWrite s m REC.CTRL.FLUSH.base false → bit v.toNat 0 = true → Completes (.recFlush m v true) s fun t =>
    t.recd.hist.clean = true ∧ t.recd.pendNew = [] ∧ t.recd.hist.hours = s.rd REC.HOURS.VALUE) ∧
(∀ (s : State) (m : Fin 64) (v : Word), MayWrite s m REC.NV_IDX.SEQ.base false → Completes (.nvIdxWrite m v) s fun t => t.recd.nvPend = some v.toNat
    ∧ t.flag REC.STATUS.NV_VALID = false ∧ t.rd REC.NV_IDX.SEQ = v.toNat) ∧
(∀ (s : State) (q : Nat), s.recd.nvPend = some q → Completes (.nvReadDone true) s fun t => t.flag REC.STATUS.NV_VALID = true ∧ t.recd.nvPend = none
    ∧ t.rd REC.NV_DATA.DATA 0 0 = (Tab.get {} s.recd.mirror (q % 16384)).seq % 2 ^ 32) ∧
(∀ (s : State) (q : Nat), s.recd.nvPend = some q → Completes (.nvReadDone false) s fun t => t.flag REC.STATUS.NV_ERR = true ∧ t.recd.nvPend = none ∧
    OnlyRegs s t [REC.STATUS.NV_ERR.base]) ∧
(∀ (s : State), s.recd.hoursStop = none → s.recd.hoursRef + 360000 * msTicks ≤ s.dtime → Completes (.hoursUpdate) s fun t => t.rd REC.HOURS.VALUE =
    (s.rd REC.HOURS.VALUE + 1) % 2 ^ 32 ∧ t.recd.hist.hours = t.rd REC.HOURS.VALUE ∧ t.recd.hoursRef = s.recd.hoursRef + 360000 * msTicks ∧
    t.age.hourDue = (s.age.hourDue || t.rd REC.HOURS.VALUE % 10 == 0) ∧ OnlyRegs s t [REC.HOURS.VALUE.base]) ∧
(∀ (s : State) (x : Nat), s.recd.hoursStop = some x → Completes (.hoursUpdate) s fun t => t = s)

/-- R367 to R374, R376: the boot ROM accepts the first slot whose checks hold and stops where none does, a fuse command is refused with its RCODE or
takes its effect when it is done, a debug response unlocks only with a signature of a valid owner key, and a report is signed or refused. Where the
spec leaves a reading open it states the model's, of log entries 58, 60, 70 and 79. -/
def Obligations.SecurityCommands : Prop :=
(∀ (s : State) (g : List Nat), s.flag PWR.START_STATUS.SELF_OK = true → s.flag PWR.START_STATUS.BOOT_OK = false → s.rd PWR.START_STATUS.STOP = 0 →
    s.openBoot = true → g = s.readMem (slotAddr 0) 4096 → fieldLE g 0 4 = 0x4E444C44 → ldrHeaderOk g = true → sha3 (s.readMem (slotAddr 0 + 4096)
    (fieldLE g 0xC 4)) = slice g 0x20 32 → Completes (.bootRom false false) s fun t => (if Config.mldsaVerify (slice g 0x80 1312) (slice g 0 0x5A0)
    (slice g 0x5A0 2420) = true then t.sec.core0 = some (0x1000000000 + fieldLE g 0x10 4) ∧ t.rd SEC.BOOT_STATUS.SLOT = 0 ∧ t.flag
    SEC.BOOT_STATUS.OPEN = true ∧ t.flag PWR.START_STATUS.BOOT_OK = true else t.rd SEC.BOOT_STATUS.CODE_A = 5)) ∧
(∀ (s : State) (errA errB : Bool), s.flag PWR.START_STATUS.SELF_OK = true → s.flag PWR.START_STATUS.BOOT_OK = false → s.rd PWR.START_STATUS.STOP = 0
    → s.rd SEC.LC.STATE ≠ 3 → (errA = true ∧ errB = true) → Completes (.bootRom errA errB) s fun t => t.rd SEC.BOOT_STATUS.CODE_A = 6 ∧ t.rd
    SEC.BOOT_STATUS.CODE_B = 6 ∧ t.rd SEC.BOOT_STATUS.SLOT = 3 ∧ t.rd PWR.START_STATUS.STOP = 2 ∧ t.sec.core0 = s.sec.core0) ∧
(∀ (s : State) (errA errB : Bool), s.flag PWR.START_STATUS.SELF_OK = true → s.flag PWR.START_STATUS.BOOT_OK = false → s.rd PWR.START_STATUS.STOP = 0
    → s.rd SEC.LC.STATE = 3 → Completes (.bootRom errA errB) s fun t => t.rd SEC.BOOT_STATUS.CODE_A = 7 ∧ t.rd PWR.START_STATUS.STOP = 3 ∧
    t.sec.core0 = s.sec.core0) ∧
(∀ (s : State) (m : Fin 64) (v : Word), MayWrite s m SEC.KEY_PROG.SLOT.base true → bit v.toNat 8 = true → s.flag SEC.FUSE_STATUS.BUSY = false → bit
    s.sec.present (bits v.toNat 2 0) = false → s.rdBit SEC.KEY_STATUS.BAD (bits v.toNat 2 0) = false → Completes (.keyProg m v) s fun t => t.flag
    SEC.FUSE_STATUS.BUSY = true ∧ t.sec.fuseOp = some (0, bits v.toNat 2 0, s.words8 SEC.KEY_HASH.HASH) ∧ OnlyRegs s t [SEC.FUSE_STATUS.BUSY.base]) ∧
(∀ (s : State) (m : Fin 64) (v : Word), MayWrite s m SEC.KEY_PROG.SLOT.base true → bit v.toNat 8 = true → s.flag SEC.FUSE_STATUS.BUSY = false → bit
    s.sec.present (bits v.toNat 2 0) = true → Completes (.keyProg m v) s fun t => t.flag SEC.FUSE_STATUS.REFUSED = true ∧ t.rd SEC.FUSE_STATUS.RCODE
    = 4 ∧ t.sec = s.sec) ∧
(∀ (s : State) (m : Fin 64) (v : Word), MayWrite s m SEC.REVOKE.MASK.base true → s.flag SEC.FUSE_STATUS.BUSY = false → bits v.toNat 23 16 = 0xA5 →
    s.revokeCond (bits v.toNat 11 0) = false → Completes (.revoke m v) s fun t => t.flag SEC.FUSE_STATUS.BUSY = true ∧ t.sec.fuseOp = some (1, bits
    v.toNat 11 0, [])) ∧
(∀ (s : State) (m : Fin 64) (v : Word), MayWrite s m SEC.REVOKE.MASK.base true → s.flag SEC.FUSE_STATUS.BUSY = false → bits v.toNat 23 16 ≠ 0xA5 →
    Completes (.revoke m v) s fun t => t.flag SEC.FUSE_STATUS.REFUSED = true ∧ t.rd SEC.FUSE_STATUS.RCODE = 2 ∧ t.sec = s.sec ∧ t.rd
    SEC.KEY_STATUS.REVOKED = s.rd SEC.KEY_STATUS.REVOKED) ∧
(∀ (s : State) (m : Fin 64) (v : Word), MayWrite s m SEC.LC_CMD.NEXT.base true → s.flag SEC.FUSE_STATUS.BUSY = false → bits v.toNat 23 16 = 0x5A →
    s.rd SEC.LC.STATE < bits v.toNat 2 0 → (bits v.toNat 2 0 = 2 ∨ bits v.toNat 2 0 = 3) → Completes (.lcCmd m v) s fun t => t.flag
    SEC.FUSE_STATUS.BUSY = true ∧ t.sec.fuseOp = some (2, bits v.toNat 2 0, []) ∧ t.rd SEC.LC.STATE = s.rd SEC.LC.STATE) ∧
(∀ (s : State) (m : Fin 64) (v : Word), MayWrite s m SEC.LC_CMD.NEXT.base true → s.flag SEC.FUSE_STATUS.BUSY = false → bits v.toNat 23 16 = 0x5A →
    bits v.toNat 2 0 ≤ s.rd SEC.LC.STATE → Completes (.lcCmd m v) s fun t => t.flag SEC.FUSE_STATUS.REFUSED = true ∧ t.rd SEC.FUSE_STATUS.RCODE = 3
    ∧ t.rd SEC.LC.STATE = s.rd SEC.LC.STATE ∧ t.sec = s.sec) ∧
(∀ (s : State) (x : Fin 8) (l : List Nat), s.sec.fuseOp = some (0, x.val, l) → Completes (.fuseDone) s fun t => bit t.sec.present x = true ∧ Tab.get
    [] t.sec.hashes x = l ∧ t.flag SEC.FUSE_STATUS.BUSY = false ∧ t.flag SEC.FUSE_STATUS.DONE = true ∧ t.sec.fuseOp = none) ∧
(∀ (s : State) (x : Fin 4096) (l : List Nat), s.sec.fuseOp = some (1, x.val, l) → Completes (.fuseDone) s fun t => t.rd SEC.KEY_STATUS.REVOKED =
    s.rd SEC.KEY_STATUS.REVOKED ||| x ∧ t.flag SEC.FUSE_STATUS.BUSY = false ∧ t.flag SEC.FUSE_STATUS.DONE = true) ∧
(∀ (s : State) (l : List Nat), s.sec.fuseOp = some (2, 2, l) → Completes (.fuseDone) s fun t => t.rd SEC.LC.STATE = 2 ∧ t.flag SEC.FUSE_STATUS.BUSY
    = false ∧ t.flag SEC.FUSE_STATUS.DONE = true) ∧
(∀ (s : State) (m : Fin 64) (v : Word), MayWrite s m SEC.DBG_CMD.FAIL.base false → s.rd SEC.LC.STATE = 1 → Completes (.dbgChallenge m v) s fun t =>
    t.sec.chal = true ∧ t.words8 SEC.DBG_CHAL.CHAL = sha3 (s.words8 SEC.DEV_ID.ID ++ le 4 (s.rd REC.PCYCLE.VALUE) ++ le 8 s.dtime)) ∧
(∀ (s : State) (m : Fin 64) (v : Word), MayWrite s m SEC.DBG_CMD.FAIL.base false → s.sec.chal = true → Completes (.dbgVerify m v) s fun t =>
    t.sec.chal = false ∧ t.sec.dbg = s.sec.dbg ++ [(s.words8 SEC.DBG_CHAL.CHAL, s.rd SEC.DBG_ADDR / 64 * 64)]) ∧
(∀ (s : State) (m : Fin 64) (v : Word), MayWrite s m SEC.DBG_CMD.FAIL.base false → s.sec.chal = false → Completes (.dbgVerify m v) s fun t => t.flag
    SEC.DBG_CMD.FAIL = true ∧ t.sec = s.sec) ∧
(∀ (s : State) (x d : List Nat) (a : Nat) (l : List (List Nat × Nat)), s.sec.dbg = (x, a) :: l → s.rd SEC.LC.STATE = 1 → (s.masterRead 8 a 3736).2 =
    .ok d → s.keyOk (fieldLE d 0 4) (slice d 4 1312) = true → s.heldLo = [] → Completes (.dbgVerifyDone) s fun t => t.sec.dbg = l ∧ (if
    Config.mldsaVerify (slice d 4 1312) x (slice d 1316 2420) = true then t.flag SEC.LC.DBG_UNLOCKED = true else t.flag SEC.DBG_CMD.FAIL = true)) ∧
(∀ (s : State) (x : List Nat) (a : Nat) (l : List (List Nat × Nat)), s.sec.dbg = (x, a) :: l → s.sec.present = 0 → Completes (.dbgVerifyDone) s fun
    t => t.flag SEC.DBG_CMD.FAIL = true ∧ t.sec.dbg = l) ∧
(∀ (s : State) (m : Fin 64) (v : Word), MayWrite s m SEC.ATT_CMD.GO.base false → bit v.toNat 0 = true → s.rd SEC.LC.STATE ≠ 3 → s.flag
    SEC.ATT_STATUS.BUSY = false → s.rd SEC.ATT_ADDR % 64 = 0 → Completes (.attGo m v) s fun t => t.flag SEC.ATT_STATUS.BUSY = true ∧ t.sec.att =
    some (m.val, s.rd SEC.ATT_ADDR, s.attReport) ∧ OnlyRegs s t [SEC.ATT_STATUS.BUSY.base]) ∧
(∀ (s : State) (m : Fin 64) (v : Word), MayWrite s m SEC.ATT_CMD.GO.base false → bit v.toNat 0 = true → s.rd SEC.LC.STATE = 3 → Completes (.attGo m
    v) s fun t => t.flag SEC.ATT_STATUS.REFUSED = true ∧ t.rd SEC.ATT_STATUS.RCODE = 1 ∧ t.sec = s.sec) ∧
(∀ (s : State) (m a : Nat) (r : List Nat), s.sec.att = some (m, a, r) → Completes (.attDone) s fun t => t.sec.att = none ∧ (t.flag
    SEC.ATT_STATUS.DONE = true ∨ t.flag SEC.ATT_STATUS.REFUSED = true) ∧ (s.rd SEC.LC.STATE ≠ 3 → Config.mldsaSign s.identitySeed r = none → t.flag
    SEC.ATT_STATUS.REFUSED = true ∧ t.rd SEC.ATT_STATUS.RCODE = 4 ∧ t.mem = s.mem)) ∧
(∀ (s : State) (m a : Nat) (r : List Nat), s.sec.att = some (m, a, r) → s.rd SEC.LC.STATE = 3 → Completes (.attDone) s fun t => t.sec.att = none ∧
    t.flag SEC.ATT_STATUS.REFUSED = true ∧ t.rd SEC.ATT_STATUS.RCODE = 1 ∧ t.mem = s.mem)

/-- R29, R379, R381, R391 to R393, R396, R398: a reset returns its domain, names its cause and keeps what it keeps: porAssert by PORn or a rail
below its trip level for 2 µs, porEnd with the straps, systemReset by SYSRSTn held for 1 µs or by a write with the code, debugReset, axisReset, wake
and wakeTimer; only POR returns DEVICE TIME to 0; an axis reset leaves the other axes alone. Where the spec leaves a reading open it states the
model's, of log entries 4, 6, 71 and 84. -/
def Obligations.ResetCommands : Prop :=
(∀ (s : State) (x : Option RailLow), s.pwr.por = false → (∀ r, x = some r → r.mv < railTrip r.rail ∧ 2 * usTicks ≤ r.ticks) → Completes (.porAssert
    x) s fun t => t.dtime = 0 ∧ t.pwr.por = true ∧ t.pwr.porCause = b2n x.isSome ∧ (t.mem = s.mem.filter fun y => decide (0x2000000000 ≤ y.1)) ∧
    t.recd.mirror = s.recd.mirror ∧ t.recd.hist = s.recd.hist ∧ t.fuses = s.fuses ∧ t.sec.present = s.sec.present ∧ t.ctxs = [] ∧ (∀ n : Fin 48,
    t.axOn n = false)) ∧
(∀ (s : State) (r : RailLow), (railTrip r.rail ≤ r.mv ∨ r.ticks < 2 * usTicks) → Completes (.porAssert (some r)) s fun t => t = s) ∧
(∀ (s : State) (x : Option RailLow), s.pwr.por = true → s.pwr.porNew = false → Completes (.porAssert x) s fun t => t = s) ∧
(∀ (s : State) (x : Option RailLow), s.pwr.por = true → s.pwr.porNew = true → (∀ r, x = some r → r.mv < railTrip r.rail ∧ 2 * usTicks ≤ r.ticks) →
    Completes (.porAssert x) s fun t => t.pwr.porCause = min s.pwr.porCause (b2n x.isSome) ∧ t.regs = s.regs ∧ t.mem = s.mem) ∧
(∀ (s : State) (safeH safeL pos0 : Bool) (found : StartFindings), s.pwr.por = true → s.recd.hist.empty = false → found.history = false → Completes
    (.porEnd safeH safeL pos0 found) s fun t => t.pwr.por = false ∧ t.rd PWR.RST_CAUSE.CAUSE = s.pwr.porCause % 2 ^ (PWR.RST_CAUSE.CAUSE.hi + 1 -
    PWR.RST_CAUSE.CAUSE.lo) ∧ t.flag PWR.STRAPS.PWMSAFE_H = safeH ∧ t.flag PWR.STRAPS.PWMSAFE_L = safeL ∧ t.flag PWR.STRAPS.RINGPOS0 = pos0 ∧ t.rd
    REC.PCYCLE.VALUE = (s.recd.hist.pcycle + 1) % 2 ^ 32 ∧ t.rd REC.HOURS.VALUE = s.recd.hist.hours % 2 ^ 32 ∧ t.rd MEM.STATUS.USABLE = 65535 -
    (found.channels.val ||| s.rd MEM.CH_RETIRE.RETIRE) ∧ t.rd MEM.TOP = (16 - popCount 16 (found.channels.val ||| s.rd MEM.CH_RETIRE.RETIRE)) *
    0xF0000000 ∧ t.steer = s.fuses.filter (·.valid) ∧ t.rd BIST.STATUS.FUSE_USED = (s.fuses.filter (·.valid)).length % 2 ^ (BIST.STATUS.FUSE_USED.hi
    + 1 - BIST.STATUS.FUSE_USED.lo)) ∧
(∀ (s : State) (safeH safeL pos0 : Bool) (found : StartFindings), s.pwr.por = true → found.history = true → Completes (.porEnd safeH safeL pos0
    found) s fun t => t.rd REC.PCYCLE.VALUE = 1 ∧ t.rd REC.HOURS.VALUE = 0 ∧ t.rd AGE.PFENCE.PFENCE = 0 ∧ t.rd MEM.CH_RETIRE.RETIRE = 0 ∧
    t.recd.mirror = []) ∧
(∀ (s : State) (m : Fin 64) (v : Word) (found : StartFindings) (n : Nat), usTicks ≤ n → s.pwr.por = false → s.pwr.rstAt ≠ some s.dtime → Completes
    (.systemReset (some n) m v found) s fun t => t.dtime = s.dtime ∧ t.rd PWR.RST_CAUSE.CAUSE = 2 ∧ (t.mem = s.mem.filter fun x => !(decide
    (0x1100000000 ≤ x.1 ∧ x.1 < 0x1200000000))) ∧ t.ctxs = [] ∧ t.recd.mirror = s.recd.mirror ∧ (∀ n : Fin 48, t.axOn n = false ∧ (t.pw n).released
    = false) ∧ t.rd PWR.RST_CAUSE.SYS_CNT = min (s.rd PWR.RST_CAUSE.SYS_CNT + 1) (2 ^ (PWR.RST_CAUSE.SYS_CNT.hi + 1 - PWR.RST_CAUSE.SYS_CNT.lo) -
    1)) ∧
(∀ (s : State) (m : Fin 64) (v : Word) (found : StartFindings) (n : Nat), usTicks ≤ n → s.pwr.por = false → s.pwr.rstAt = some s.dtime → Completes
    (.systemReset (some n) m v found) s fun t => t.rd PWR.RST_CAUSE.CAUSE = min 2 (s.rd PWR.RST_CAUSE.CAUSE) ∧ t.rd PWR.RST_CAUSE.SYS_CNT = s.rd
    PWR.RST_CAUSE.SYS_CNT ∧ t.mem = s.mem) ∧
(∀ (s : State) (m : Fin 64) (v : Word) (found : StartFindings) (n : Nat), s.pwr.por = true → Completes (.systemReset (some n) m v found) s fun t =>
    t = s) ∧
(∀ (s : State) (m : Fin 64) (v : Word) (found : StartFindings) (n : Nat), n < usTicks → Completes (.systemReset (some n) m v found) s fun t => t =
    s) ∧
(∀ (s : State) (m : Fin 64) (v : Word) (found : StartFindings), MayWrite s m PWR.RST_CMD.SYS.base true → bit v.toNat 0 = true → bits v.toNat 23 16 =
    0xA5 → s.pwr.por = false → s.pwr.rstAt ≠ some s.dtime → Completes (.systemReset none m v found) s fun t => t.dtime = s.dtime ∧ t.rd
    PWR.RST_CAUSE.CAUSE = 3 ∧ t.ctxs = []) ∧
(∀ (s : State) (m : Fin 64) (v : Word) (found : StartFindings), MayWrite s m PWR.RST_CMD.SYS.base (bit v.toNat 0) → bits v.toNat 23 16 ≠ 0xA5 →
    Completes (.systemReset none m v found) s fun t => t.regs = s.regs ∧ t.mem = s.mem ∧ t.ctxs = s.ctxs) ∧
(∀ (s : State) (m : Fin 64) (v : Word), s.jtagShut = false → s.pwr.trans = none → Completes (.debugReset true m v) s fun t => t.debugOverride =
    false ∧ t.regs = s.regs ∧ t.mem = s.mem) ∧
(∀ (s : State) (m : Fin 64) (v : Word), s.jtagShut = true → Completes (.debugReset true m v) s fun t => t = s) ∧
(∀ (s : State) (v : Word), MayWrite s 0x3F PWR.RST_CMD.SYS.base false → bits v.toNat 23 16 = 0xA5 → bit v.toNat 1 = true → s.pwr.trans = none →
    Completes (.debugReset false 0x3F v) s fun t => t.debugOverride = false ∧ t.regs = s.regs ∧ t.mem = s.mem) ∧
(∀ (s : State) (m : Fin 64) (n : Fin 32), MayWrite s m PWR.AXIS_RST_LO.AXES.base true → s.pxbMoving n = false → s.inReset = false → Completes
    (.axisReset m false (BitVec.ofNat 32 (2 ^ n.val))) s fun t => t.axOn n = false ∧ t.inAxisReset n = true ∧ (t.pw n).released = (s.pw n).released
    ∧ t.fo n = {} ∧ (∀ k : Fin 48, k.val ≠ n.val → t.axOn k = s.axOn k ∧ (t.pw k).released = (s.pw k).released)) ∧
(∀ (s : State) (m : Fin 64) (n : Fin 32), MayWrite s m PWR.AXIS_RST_LO.AXES.base true → s.pxbMoving n = true → Completes (.axisReset m false
    (BitVec.ofNat 32 (2 ^ n.val))) s fun t => t.regs = s.regs ∧ t.pwr.axPend.contains n.val = true) ∧
(∀ (s : State) (m : Fin 64) (n : Fin 16), MayWrite s m PWR.AXIS_RST_HI.AXES.base true → s.pxbMoving (32 + n.val) = false → s.inReset = false →
    Completes (.axisReset m true (BitVec.ofNat 32 (2 ^ n.val))) s fun t => t.axOn (32 + n.val) = false ∧ t.inAxisReset (32 + n.val) = true ∧ (∀ k :
    Fin 48, k.val ≠ 32 + n.val → t.axOn k = s.axOn k ∧ (t.pw k).released = (s.pw k).released)) ∧
(∀ (s : State) (found : StartFindings), s.rd PWR.STATE.STATE = 2 → s.flag PWR.WAKE_CFG.PIN = true → s.pwr.por = false → s.pwr.rstAt ≠ some s.dtime →
    Completes (.wake found) s fun t => t.rd PWR.RST_CAUSE.CAUSE = 4 ∧ t.dtime = s.dtime ∧ t.sup = s.sup ∧ (t.mem = s.mem.filter fun x => decide
    (0x1200000000 ≤ x.1 ∧ x.1 < 0x1300000000) || decide (0x2000000000 ≤ x.1))) ∧
(∀ (s : State) (found : StartFindings), s.rd PWR.STATE.STATE ≠ 2 → Completes (.wake found) s fun t => t = s) ∧
(∀ (s : State) (found : StartFindings), s.rd PWR.STATE.STATE = 2 → s.flag PWR.WAKE_CFG.TIME = true → s.rd PWR.WAKE_TIME ≤ s.dtime → s.pwr.por =
    false → s.pwr.rstAt ≠ some s.dtime → Completes (.wakeTimer found) s fun t => t.rd PWR.RST_CAUSE.CAUSE = 4 ∧ t.sup = s.sup)

/-- R338, R394, R395, R434: a transition completes in its state, STANDBY loses the volatile memories, OFF_PREP ends with the BIST done, 125 °C shuts
every group down, CRIT throttles fully, and LEVEL moves by one a millisecond. Where the spec leaves a reading open it states the model's, of log
entries 71 and 82. -/
def Obligations.PowerAndThermalCommands : Prop :=
(∀ (s : State) (dl ref : List Int) (ack : Bool) (blocks : List BistBlock) (units : List (Fin 74)) (x : Nat), s.pwr.trans = some (1, x) → Room s →
    Completes (.powerTransitionDone dl ref ack blocks units) s fun t => t.rd PWR.STATE.STATE = 1 ∧ t.flag PWR.STATE.BUSY = false ∧ t.pwr.trans =
    none ∧ Noted t 0x0004 srcModule s.dtime) ∧
(∀ (s : State) (dl ref : List Int) (ack : Bool) (blocks : List BistBlock) (units : List (Fin 74)) (x : Nat), s.pwr.trans = some (0, x) → Completes
    (.powerTransitionDone dl ref ack blocks units) s fun t => t.rd PWR.STATE.STATE = 0 ∧ t.flag PWR.STATE.BUSY = false ∧ t.saf.runAt = s.dtime) ∧
(∀ (s : State) (dl ref : List Int) (ack : Bool) (blocks : List BistBlock) (units : List (Fin 74)) (x : Nat), s.pwr.trans = some (2, x) → Completes
    (.powerTransitionDone dl ref ack blocks units) s fun t => t.rd PWR.STATE.STATE = 2 ∧ t.flag PWR.STATE.BUSY = false ∧ (t.mem = s.mem.filter fun x
    => decide (0x1100000000 ≤ x.1)) ∧ t.sec.core0 = none ∧ t.lnks = [] ∧ t.recd.hist.clean = true) ∧
(∀ (s : State) (dl ref : List Int) (ack : Bool) (blocks : List BistBlock) (units : List (Fin 74)) (x : Nat), s.pwr.trans = some (3, x) → s.rd
    BIST.STATUS.STEP = 1 → Completes (.powerTransitionDone dl ref ack blocks units) s fun t => t.rd BIST.STATUS.STEP = 2 ∧ OnlyRegs s t
    [BIST.STATUS.STEP.base]) ∧
(∀ (s : State) (dl ref : List Int) (ack : Bool) (blocks : List BistBlock) (units : List (Fin 74)) (x : Nat), s.pwr.trans = some (3, x) → s.rd
    BIST.STATUS.STEP = 2 → Completes (.powerTransitionDone dl ref ack blocks units) s fun t => t.rd BIST.STATUS.STEP = 3 ∧ t.bist.found =
    s.bist.found ++ (blocks ++ List.replicate 5 ({} : BistBlock)).take 5 ∧ t.bist.units = (units.map Fin.val).eraseDups ∧ OnlyRegs s t
    [BIST.STATUS.STEP.base]) ∧
(∀ (s : State) (dl ref : List Int) (ack : Bool) (blocks : List BistBlock) (units : List (Fin 74)) (x : Nat), s.pwr.trans = some (3, x) → s.rd
    BIST.STATUS.STEP = 3 → Completes (.powerTransitionDone dl ref ack blocks units) s fun t => t.rd BIST.STATUS.STEP = 4 ∧ t.bist.found =
    s.bist.found ++ (blocks ++ List.replicate 2 ({} : BistBlock)).take 2 ∧ OnlyRegs s t [BIST.STATUS.STEP.base]) ∧
(∀ (s : State) (dl ref : List Int) (ack : Bool) (blocks : List BistBlock) (units : List (Fin 74)) (x : Nat), s.pwr.trans = some (3, x) → s.rd
    BIST.STATUS.STEP = 4 → Completes (.powerTransitionDone dl ref ack blocks units) s fun t => t.rd BIST.STATUS.STEP = 5 ∧ t.bist.found =
    s.bist.found ++ (blocks ++ [({} : BistBlock)]).take 1 ∧ t.fuses = s.fuses ∧ (∀ e ∈ t.bist.plan, e.2.valid = true) ∧ OnlyRegs s t
    [BIST.STATUS.STEP.base]) ∧
(∀ (s : State) (dl ref : List Int) (ack : Bool) (blocks : List BistBlock) (units : List (Fin 74)) (x : Nat), s.pwr.trans = some (3, x) → s.rd
    BIST.STATUS.STEP = 5 → s.bist.bodies = false → Completes (.powerTransitionDone dl ref ack blocks units) s fun t => (t.fuses = s.fuses ++
    s.bist.plan.map (fun e => { e.2 with valid := false })) ∧ t.bist.bodies = true ∧ t.regs = s.regs) ∧
(∀ (s : State) (dl ref : List Int) (ack : Bool) (blocks : List BistBlock) (units : List (Fin 74)) (x : Nat), s.pwr.trans = some (3, x) → s.rd
    BIST.STATUS.STEP = 5 → s.bist.bodies = true → s.bist.plan.length ≤ s.fuses.length → Completes (.powerTransitionDone dl ref ack blocks units) s
    fun t => t.rd BIST.STATUS.STEP = 6 ∧ t.fuses = s.fuses.take (s.fuses.length - s.bist.plan.length) ++ s.bist.plan.map Prod.snd ∧ t.flag
    BIST.STATUS.FUSE_FULL = decide (1024 ≤ s.fuses.length)) ∧
(∀ (s : State) (dl ref : List Int) (ack : Bool) (blocks : List BistBlock) (units : List (Fin 74)) (x : Nat), s.pwr.trans = some (3, x) → s.rd
    BIST.STATUS.STEP = 6 → s.bist.told = false → s.recd.queue.length < 248 → Completes (.powerTransitionDone dl ref ack blocks units) s fun t =>
    t.bist.told = true ∧ t.rd BIST.STATUS.STEP = 6 ∧ (((t.recd.queue.filter fun e => e.code == 0x0B01).length) = ((s.recd.queue.filter fun e =>
    e.code == 0x0B01).length) + 8)) ∧
(∀ (s : State) (dl ref : List Int) (ack : Bool) (blocks : List BistBlock) (units : List (Fin 74)) (x : Nat), s.pwr.trans = some (3, x) → s.rd
    BIST.STATUS.STEP = 6 → s.bist.told = true → (s.recd.queue.any (fun e => e.code == 0x0B01) = true) → Completes (.powerTransitionDone dl ref ack
    blocks units) s fun t => t = s) ∧
(∀ (s : State) (dl ref : List Int) (ack : Bool) (blocks : List BistBlock) (units : List (Fin 74)) (x : Nat), s.pwr.trans = some (3, x) → s.rd
    BIST.STATUS.STEP = 6 → s.bist.told = true → (s.recd.queue.any (fun e => e.code == 0x0B01) = false) → Completes (.powerTransitionDone dl ref ack
    blocks units) s fun t => t.rd BIST.STATUS.STEP = 7 ∧ t.flag BIST.STATUS.DONE = true ∧ t.flag PWR.STATE.BUSY = false ∧ t.pwr.offrdy = true ∧
    t.pwr.trans = none ∧ t.recd.hist.clean = true ∧ t.recd.pendNew = []) ∧
(∀ (s : State) (tj : Int) (k : Fin 16), tj < s.rd THM.CFG.CRIT * 16 → (tj < 2000 ∧ -32768 ≤ tj) → Completes (.thermalSample tj k) s fun t => t.rdS
    THM.TJ_MAX.TJ = tj ∧ t.rd THM.TJ_MAX.SENSOR = k ∧ t.rd THM.STATUS.LEVEL = s.rd THM.STATUS.LEVEL) ∧
(∀ (s : State) (tj : Int) (k : Fin 16), s.rd THM.CFG.CRIT * 16 ≤ tj → tj < 2000 → Completes (.thermalSample tj k) s fun t => t.rd THM.STATUS.LEVEL =
    8 ∧ t.flag THM.STATUS.CRIT = true ∧ t.flag THM.STATUS.THROTTLE = true) ∧
(∀ (s : State) (tj : Int) (k : Fin 16), 2000 ≤ tj → s.flag THM.STATUS.SHUT = false → Completes (.thermalSample tj k) s fun t => t.flag
    THM.STATUS.SHUT = true ∧ t.pwr.therm = true ∧ (∀ g : Fin 16, t.stoActive g = true)) ∧
(∀ (s : State), s.pwr.msAt + msTicks ≤ s.dtime → s.rdS THM.TJ_MAX.TJ < s.rd THM.CFG.CRIT * 16 → s.rd THM.CFG.THR_ON * 16 ≤ s.rdS THM.TJ_MAX.TJ →
    s.rd THM.STATUS.LEVEL < 7 → Completes (.throttleStep) s fun t => t.rd THM.STATUS.LEVEL = s.rd THM.STATUS.LEVEL + 1 ∧ t.flag THM.STATUS.THROTTLE
    = true ∧ t.pwr.msAt = s.dtime) ∧
(∀ (s : State), s.pwr.msAt + msTicks ≤ s.dtime → s.rdS THM.TJ_MAX.TJ < s.rd THM.CFG.CRIT * 16 → s.rdS THM.TJ_MAX.TJ < s.rd THM.CFG.THR_ON * 16 →
    s.rdS THM.TJ_MAX.TJ < s.rd THM.CFG.THR_OFF * 16 → Completes (.throttleStep) s fun t => t.rd THM.STATUS.LEVEL = s.rd THM.STATUS.LEVEL - 1 ∧
    t.pwr.msAt = s.dtime)

/-- R384 to R389, R400, R402 to R404: GO trains both Brass ports, a hop comes up or is refused by its version, the ring is enumerated with its
masks, a lost module leaves a gap, and a packet is kept until it is acknowledged. Where the spec leaves a reading open it states the model's, of log
entries 69, 73 and 83. -/
def Obligations.RingAndLinkCommands : Prop :=
(∀ (s : State) (m : Fin 64) (v : Word), MayWrite s m PWR.RING_CTRL.GO.base false → bit v.toNat 0 = true → s.flag LNK.STATUS.UP 0 = false → s.flag
    LNK.STATUS.UP 1 = false → Completes (.ringGo m v) s fun t => t.rd PWR.GO_TIME = s.dtime % 2 ^ 64 ∧ (t.lnk 0).training = true ∧ (t.lnk
    1).training = true ∧ t.pwr.go = some s.dtime) ∧
(∀ (s : State) (m : Fin 64) (v : Word), MayWrite s m TWN.CFG.EN.base false → s.flag TWN.CFG.EN = false → (s.writeFields TWN.CFG.EN.base
    v.toNat).1.flag TWN.CFG.EN = true → s.flag LNK.STATUS.UP 2 = false → Completes (.twnCfgEnable m v) s fun t => t.flag TWN.CFG.EN = true ∧ (t.lnk
    2).training = true ∧ OnlyRegs s t [TWN.CFG.EN.base]) ∧
(∀ (s : State) (q : Fin 3) (k : Fin 3) (peer : Fin 256), (s.lnk q).training = true → Completes (.linkTrained q k 1 0 peer) s fun t => t.flag
    LNK.STATUS.UP q = true ∧ t.rd LNK.STATUS.LANES q = 2 ^ k.val ∧ t.rd LNK.STATUS.VER_MAJOR q = 1 ∧ t.rd LNK.STATUS.VER_MINOR q = 0 ∧ (t.lnk
    q).training = false) ∧
(∀ (s : State) (q : Fin 3) (k : Fin 3) (major minor peer : Fin 256), (s.lnk q).training = true → major.val ≠ 1 → Completes (.linkTrained q k major
    minor peer) s fun t => t.flag LNK.STATUS.VER_ERR q = true ∧ (t.lnk q).training = false ∧ (t.lnk q).refusedAt = some s.dtime) ∧
(∀ (s : State) (q : Fin 3) (x : Nat), (s.lnk q).refusedAt = some x → x + 100 * msTicks ≤ s.dtime → Completes (.trainingRetry q) s fun t => (t.lnk
    q).training = true ∧ (t.lnk q).refusedAt = none ∧ t.regs = s.regs) ∧
(∀ (s : State) (down up : Nat) (second : Bool) (x : Nat), s.pwr.go = some x → s.pwr.enumOver = false → s.flag PWR.START_STATUS.ENUM_DONE = false →
    s.isAlone = true → Completes (.enumeration down up second) s fun t => t.flag PWR.START_STATUS.ENUM_DONE = true ∧ (t.rd PWR.RING_STATUS.RING_ID =
    if s.flag PWR.STRAPS.RINGPOS0 then 0 else 1) ∧ (t.rd PWR.RING_STATUS.PRESENT = if s.flag PWR.STRAPS.RINGPOS0 then 1 else 2) ∧ t.rd
    PWR.RING_STATUS.GAP = 0 ∧ t.flag PWR.RING_STATUS.ISOLATED = false) ∧
(∀ (s : State) (down up : Nat) (x : Nat), s.pwr.go = some x → s.pwr.enumOver = false → s.flag PWR.START_STATUS.ENUM_DONE = false → s.flag
    PWR.STRAPS.RINGPOS0 = true → s.flag LNK.STATUS.UP 0 = true → s.flag LNK.STATUS.UP 1 = true → down + up = s.rd PWR.RING_CTRL.N_EXP → Completes
    (.enumeration down up false) s fun t => t.flag PWR.START_STATUS.ENUM_DONE = true ∧ t.rd PWR.RING_STATUS.RING_ID = 0 ∧ t.rd
    PWR.RING_STATUS.PRESENT = 2 ^ (s.rd PWR.RING_CTRL.N_EXP + 1) - 1 ∧ t.rd PWR.RING_STATUS.GAP = 0 ∧ t.rd DT.CTRL.ROLE = 1 ∧ (0 < down → ((t.lnk
    1).unacked.map (·.type_)).getLast? = some pkEnum) ∧ (0 < up → ((t.lnk 0).unacked.map (·.type_)).getLast? = some pkEnum)) ∧
(∀ (s : State) (down up : Nat) (x : Nat), s.pwr.go = some x → x + 2000 * msTicks ≤ s.dtime → s.flag PWR.START_STATUS.ENUM_DONE = false → s.flag
    PWR.STRAPS.RINGPOS0 = true → s.isAlone = false → s.pwr.enumOver = false → down + up ≤ s.rd PWR.RING_CTRL.N_EXP → Completes (.enumTimeout down up
    false) s fun t => t.flag PWR.START_STATUS.ENUM_DONE = true ∧ t.rd PWR.RING_STATUS.RING_ID = 0 ∧ t.rdBit PWR.RING_STATUS.PRESENT 0 = true ∧ (∀ i
    : Fin 8, i.val ≤ s.rd PWR.RING_CTRL.N_EXP → t.rdBit PWR.RING_STATUS.GAP i = !(decide (i.val ≤ down) || decide (s.rd PWR.RING_CTRL.N_EXP - up <
    i.val)))) ∧
(∀ (s : State) (down up : Nat) (x : Nat), s.pwr.go = some x → x + 2000 * msTicks ≤ s.dtime → s.flag PWR.START_STATUS.ENUM_DONE = false → s.flag
    PWR.STRAPS.RINGPOS0 = true → s.isAlone = false → s.pwr.enumOver = false → Completes (.enumTimeout down up true) s fun t => t.flag
    PWR.RING_STATUS.ENUM_ERR = true ∧ t.rd PWR.RING_STATUS.RING_ID = 0xFF ∧ t.rd PWR.RING_STATUS.PRESENT = 0 ∧ t.rd DT.CTRL.ROLE = 0 ∧
    t.pwr.enumOver = true ∧ t.flag PWR.START_STATUS.ENUM_DONE = false) ∧
(∀ (s : State) (x : Nat), s.pwr.go = some x → x + 3000 * msTicks ≤ s.dtime → s.flag PWR.START_STATUS.ENUM_DONE = false → s.flag PWR.STRAPS.RINGPOS0
    = false → Completes (.enumWaitExpiry) s fun t => t.rd PWR.RING_STATUS.RING_ID = 0xFF ∧ t.pwr.enumOver = true ∧ (s.pwr.walked = false → t.flag
    PWR.RING_STATUS.ISOLATED = true)) ∧
(∀ (s : State) (q : Fin 2) (id : Fin 8) (present gap : Fin 256), s.flag LNK.STATUS.UP q = true → s.flag PWR.START_STATUS.ENUM_DONE = false → s.flag
    PWR.STRAPS.RINGPOS0 = false → s.pwr.enumOver = false → Completes (.enum q (some id) present gap) s fun t => t.rd PWR.RING_STATUS.RING_ID = id ∧
    t.rd PWR.RING_STATUS.PRESENT = present ∧ t.rd PWR.RING_STATUS.GAP = gap ∧ t.flag PWR.START_STATUS.ENUM_DONE = true ∧ t.rd DT.CTRL.ROLE = 2 ∧
    (s.flag LNK.STATUS.UP (1 - q.val) = true → ((t.lnk (1 - q.val)).unacked.map (·.type_)).getLast? = some pkEnum)) ∧
(∀ (s : State) (q : Fin 2) (present gap : Fin 256), s.flag LNK.STATUS.UP q = true → s.flag PWR.STRAPS.RINGPOS0 = false → Completes (.enum q none
    present gap) s fun t => t.rd PWR.RING_STATUS.RING_ID = 0xFF ∧ t.rd PWR.RING_STATUS.PRESENT = 0 ∧ t.flag PWR.START_STATUS.ENUM_DONE = false ∧
    t.pwr.enumOver = true) ∧
(∀ (s : State) (q : Fin 2) (id : Fin 8) (present gap : Fin 256), s.flag LNK.STATUS.UP q = true → s.flag PWR.START_STATUS.ENUM_DONE = true →
    Completes (.enum q (some id) present gap) s fun t => t.rd PWR.RING_STATUS.RING_ID = s.rd PWR.RING_STATUS.RING_ID ∧ t.rd PWR.RING_STATUS.PRESENT
    = present ∧ t.rd PWR.RING_STATUS.GAP = gap) ∧
(∀ (s : State) (id : Fin 8) (step : Int) (present gap : Fin 256) (master : Fin 8), s.flag PWR.START_STATUS.ENUM_DONE = true → s.rdBit
    PWR.RING_STATUS.GAP id = true → Completes (.ringJoin false id step present gap master) s fun t => t.rdBit PWR.RING_STATUS.GAP id = false ∧
    t.rdBit PWR.RING_STATUS.PRESENT id = true ∧ t.dtime = s.dtime ∧ OnlyRegs s t [PWR.RING_STATUS.GAP.base, PWR.RING_STATUS.PRESENT.base]) ∧
(∀ (s : State) (id : Fin 8) (step : Int) (present gap : Fin 256) (master : Fin 8) (x : Nat), s.flag PWR.START_STATUS.ENUM_DONE = false → s.pwr.go =
    some x → s.flag LNK.STATUS.UP 0 = true → s.flag PWR.STRAPS.RINGPOS0 = false → (0 ≤ step ∧ s.dtime + step.toNat < 2 ^ 64) → s.stepOk = true →
    s.joinId (popCount 8 (present.val ||| gap.val)) id < popCount 8 (present.val ||| gap.val) → Completes (.ringJoin true id step present gap
    master) s fun t => t.rd PWR.RING_STATUS.RING_ID = s.joinId (popCount 8 (present.val ||| gap.val)) id ∧ t.rd PWR.RING_STATUS.RING_ID < 8 ∧ t.flag
    PWR.START_STATUS.ENUM_DONE = true ∧ t.dtime = s.dtime + step.toNat ∧ t.rd DT.CTRL.ROLE = 2) ∧
(∀ (s : State) (q : Fin 3), s.flag LNK.STATUS.UP q = true → Completes (.laneLockLoss q) s fun t => t.flag LNK.STATUS.UP q = false ∧ t.rd
    LNK.STATUS.LANES q = 0 ∧ (t.lnk q).unacked = (s.lnk q).unacked ∧ (t.lnk q).retraining = true) ∧
(∀ (s : State) (q : Fin 3) (x : Nat), q.val < 2 → (s.lnk q).down = some x → (s.lnk q).lost = false → x + msTicks ≤ s.dtime → Completes (.linkLost q
    none) s fun t => t.flag LNK.STATUS.LOST q = true ∧ (t.lnk q).unacked = [] ∧ t.rd LNK.DOWN_TIME q = s.dtime % 2 ^ 64) ∧
(∀ (s : State) (q : Fin 3) (cls : Fin 4), s.flag LNK.STATUS.UP q = true → ((s.lnk q).window cls).any (·.onWire) = true → Completes (.linkNak q cls)
    s fun t => t.rd LNK.RETRY_CNT.CNT q = (s.rd LNK.RETRY_CNT.CNT q + 1) % 2 ^ (LNK.RETRY_CNT.CNT.hi + 1 - LNK.RETRY_CNT.CNT.lo) ∧ (t.lnk
    q).unacked.length = (s.lnk q).unacked.length) ∧
(∀ (s : State) (q : Fin 3) (cls : Fin 4) (seq : Nat), Completes (.linkAck q cls seq) s fun t => ((t.lnk q).unacked.map (fun k => (k.cls, k.seq,
    k.payload)) = ((s.lnk q).unacked.filter fun k => !(k.cls == cls.val && k.seq == seq)).map fun k => (k.cls, k.seq, k.payload)) ∧ (s.flag
    LNK.STATUS.UP q = false → (t.lnk q).unacked = (s.lnk q).unacked.filter fun k => !(k.cls == cls.val && k.seq == seq)) ∧ t.regs = s.regs) ∧
(∀ (s : State) (q : Fin 3) (cls : Fin 4) (k : PktH), s.flag LNK.STATUS.UP q = true → k ∈ (s.lnk q).window cls → k.onWire = true → k.sent + usTicks ≤
    s.dtime → Completes (.linkAckTimeout q cls) s fun t => t.rd LNK.RETRY_CNT.CNT q = (s.rd LNK.RETRY_CNT.CNT q + 1) % 2 ^ (LNK.RETRY_CNT.CNT.hi + 1
    - LNK.RETRY_CNT.CNT.lo)) ∧
(∀ (s : State) (m : Fin 64) (q : Fin 3) (v : Word), MayWrite s m (LNK.CTRL.RETRAIN.addr q) false → bit v.toNat 0 = true → s.flag LNK.STATUS.UP q =
    true → Completes (.retrain m q v) s fun t => t.flag LNK.STATUS.UP q = false ∧ (t.lnk q).training = true ∧ (t.lnk q).retraining = true) ∧
(∀ (s : State) (x : RxPacket), s.flag LNK.STATUS.UP x.port = true → (x.bytes.length < 36 ∨ x.bytes.length ≠ 36 + fieldLE x.bytes 6 2 ∨ fieldLE
    x.bytes (x.bytes.length - 4) 4 ≠ crc32c (x.bytes.take (x.bytes.length - 4)) ∨ 9 < fieldLE x.bytes 1 1 ∨ fieldLE x.bytes 8 4 ≠ Tab.get 0 (s.lnk
    x.port).rx (linkClass x.port (fieldLE x.bytes 1 1))) → Completes (.packetDiscarded x) s fun t => t.rd LNK.CRC_CNT.CNT x.port = (s.rd
    LNK.CRC_CNT.CNT x.port + 1) % 2 ^ (LNK.CRC_CNT.CNT.hi + 1 - LNK.CRC_CNT.CNT.lo) ∧ OnlyRegs s t [LNK.CRC_CNT.CNT.addr x.port]) ∧
(∀ (s : State) (x : RxPacket), s.packetBad x.port x.bytes = false → Completes (.packetDiscarded x) s fun t => t = s)

/-- R206, R288, R401, R407: write: a partner's write stores its bytes and no others under the link's master and is answered; read: a read is
answered with the data; completion: a completion ends a local master's access with its data or an error response; linkPost: a post goes into its
queue, or is answered as a violation; a port without link takes none of them. Where the spec leaves a reading open it states the model's, of log
entries 42, 77 and 86. -/
def Obligations.RemoteAccesses : Prop :=
(∀ (s : State) (q : Fin 3) (a : Nat) (data : List Nat), s.flag LNK.STATUS.UP q = true → payloadOk data.length = true → (∀ x ∈ eccWords a
    data.length, s.isUe x = false) → isRegSpace a = false → isOutbound a = false → s.checkAccess (linkMaster q) a data.length true false = none → a
    % 64 + data.length ≤ 64 → 0 < data.length → Completes (.write q a data) s fun t => t.readMem a data.length = data.map (· % 256) ∧ ((t.lnk
    q).unacked.map (·.type_)).getLast? = some pkCompletion ∧ t.resp.err = false ∧ (∀ x, ¬(a ≤ x ∧ x < a + data.length) → t.readMem x 1 = s.readMem x
    1)) ∧
(∀ (s : State) (q : Fin 3) (a n : Nat) (errs : List (Nat × Nat)),
    let u : State := s.forEach errs State.flipBit;
    (∀ x ∈ eccWords a n, u.isUe x = false) → s.flag LNK.STATUS.UP q = true → payloadOk n = true → isRegSpace a = false → isOutbound a = false →
    s.checkAccess (linkMaster q) a n false false = none → a % 64 + n ≤ 64 → 0 < n → Completes (.read q a n errs) s fun t => ((t.lnk q).unacked.map
    (·.type_)).getLast? = some pkCompletion ∧ ((t.lnk q).unacked.map (·.payload)).getLast? = some (s.readMem a n) ∧ t.mem = s.mem) ∧
(∀ (s : State) (q : Fin 3) (a : Nat) (data : List Nat), s.flag LNK.STATUS.UP q = true → payloadOk data.length = false → Completes (.write q a data)
    s fun t => t.mem = s.mem ∧ t.lnks = s.lnks ∧ OnlyRegs s t [LNK.CRC_CNT.CNT.addr q]) ∧
(∀ (s : State) (q : Fin 3) (data : List Nat), s.flag LNK.STATUS.UP q = true → Completes (.completion q 0 data) s fun t => t.resp.err = false ∧
    t.resp.data = data.map (· % 256) ∧ t.regs = s.regs ∧ t.mem = s.mem) ∧
(∀ (s : State) (q : Fin 3) (data : List Nat), s.flag LNK.STATUS.UP q = true → Completes (.completion q 1 data) s fun t => t.resp.err = true ∧ t.regs
    = s.regs ∧ t.mem = s.mem) ∧
(∀ (s : State) (q : Fin 3) (k : Fin 1024) (data : List Nat), s.flag LNK.STATUS.UP q = true → data.length = 64 → MayWrite s (linkMaster q)
    (Q.OP.N.addr k) false → s.qCanPost k = true → Completes (.linkPost q k data) s fun t => t.rd Q.PROD.PROD k = (s.rd Q.PROD.PROD k + 1) % 65536 ∧
    t.rd Q.LAST_POST k = s.dtime % 2 ^ 64) ∧
(∀ (s : State) (q : Fin 3) (k : Fin 1024) (data : List Nat) (ty : Nat), s.flag LNK.STATUS.UP q = true → data.length = 64 → s.checkAccess (linkMaster
    q) (Q.OP.N.addr k) 4 true false = some ty → Completes (.linkPost q k data) s fun t => t.mem = s.mem ∧ t.resp.err = true ∧ t.rd Q.PROD.PROD k =
    s.rd Q.PROD.PROD k) ∧
(∀ (s : State) (q : Fin 3) (a : Nat) (data : List Nat), s.flag LNK.STATUS.UP q = false → Completes (.write q a data) s fun t => t = s) ∧
(∀ (s : State) (q : Fin 3) (a n : Nat) (errs : List (Nat × Nat)), s.flag LNK.STATUS.UP q = false → Completes (.read q a n errs) s fun t => t.regs =
    s.regs ∧ t.mem = s.mem ∧ t.lnks = s.lnks) ∧
(∀ (s : State) (q : Fin 3) (st : Fin 3) (data : List Nat), s.flag LNK.STATUS.UP q = false → Completes (.completion q st data) s fun t => t = s) ∧
(∀ (s : State) (q : Fin 3) (k : Fin 1024) (data : List Nat), s.flag LNK.STATUS.UP q = false → Completes (.linkPost q k data) s fun t => t = s)

/-- R208, R284, R408 to R411, R417, R418: a DMA descriptor is carried out and retired, frames go out and come in through their queues, gates follow
their list, a host request is translated or refused, an outbound read completes or times out, and the regulator and the service port deliver their
data. Where the spec leaves a reading open it states the model's, of log entries 75, 76, 77 and 86. -/
def Obligations.ExternalInterfaces : Prop :=
(∀ (s : State) (q : Fin 1024) (d : List Nat), s.flag Q.CFG.EN q = true → 0 < s.qPosted q → (s.qFetch 0x20 q).2 = some d → (Desc.ofBytes d).type_ = 1
    → (Desc.ofBytes d).len = 0 → s.flag Q.CFG.EN ((Desc.ofBytes d).param % 1024) = false → Completes (.dmaTransferDone q) s fun t => t.rd
    Q.TAKE.TAKE q = (s.rd Q.TAKE.TAKE q + 1) % 65536 ∧ t.rd Q.RET.RET q = (s.rd Q.RET.RET q + 1) % 65536) ∧
(∀ (s : State) (q : Fin 1024), s.flag Q.CFG.EN q = true → 0 < s.qPosted q → (s.qFetch 0x20 q).2 = none → Completes (.dmaTransferDone q) s fun t =>
    t.rd Q.TAKE.TAKE q = (s.rd Q.TAKE.TAKE q + 1) % 65536 ∧ t.rd Q.RET.RET q = (s.rd Q.RET.RET q + 1) % 65536 ∧ t.mem = s.mem) ∧
(∀ (s : State) (q : Fin 1024), s.qPosted q = 0 → Completes (.dmaTransferDone q) s fun t => t = s) ∧
(∀ (s : State) (q : Fin 4) (k : Fin 8) (d : List Nat), s.ext.ethTx = [] → bit (s.ethGates q) k = true → s.flag Q.CFG.EN (s.ethTxq q k) = true →
    s.qPosted (s.ethTxq q k) ≠ 0 → (s.qFetch 0x20 (s.ethTxq q k)).2 = some d → (Desc.ofBytes d).type_ ≠ 0 → Completes (.ethTransmit q k) s fun t =>
    t.rd Q.TAKE.TAKE (s.ethTxq q k) = (s.rd Q.TAKE.TAKE (s.ethTxq q k) + 1) % 65536 ∧ t.rd Q.RET.RET (s.ethTxq q k) = (s.rd Q.RET.RET (s.ethTxq q k)
    + 1) % 65536 ∧ t.ext = s.ext) ∧
(∀ (s : State) (q : Fin 4) (k : Fin 8) (f d : List Nat), s.ext.ethTx = [] → bit (s.ethGates q) k = true → s.flag Q.CFG.EN (s.ethTxq q k) = true →
    s.qPosted (s.ethTxq q k) ≠ 0 → (s.qFetch 0x20 (s.ethTxq q k)).2 = some d → (Desc.ofBytes d).type_ = 0 → (((s.qFetch 0x20 (s.ethTxq q
    k)).1.qTake1 (s.ethTxq q k)).masterRead 0x20 (Desc.ofBytes d).addr (Desc.ofBytes d).len).2 = .ok f → Completes (.ethTransmit q k) s fun t =>
    t.ext.ethTx = [(q.val, k.val, (Desc.ofBytes d).param % 1024, d)] ∧ Tab.get [] t.ext.ethWire q = f) ∧
(∀ (s : State) (q : Fin 4) (k dq : Nat) (d : List Nat), s.ext.ethTx = [(q.val, k, dq, d)] → s.flag Q.CFG.EN dq = false → Completes (.ethTxDone q) s
    fun t => t.ext.ethTx = [] ∧ Tab.get [] t.ext.ethWire q = [] ∧ t.rd Q.RET.RET (s.ethTxq q k) = (s.rd Q.RET.RET (s.ethTxq q k) + 1) % 65536) ∧
(∀ (s : State) (q : Fin 4) (k : Fin 8) (stamp : Nat) (data : List Nat), (9216 < data.length ∨ s.flag Q.CFG.EN (s.ethRxFree q) = false) → Completes
    (.ethReceive q k stamp data) s fun t => Tab.get 0 t.ext.ethDrop q = Tab.get 0 s.ext.ethDrop q + 1 ∧ t.mem = s.mem ∧ t.regs = s.regs) ∧
(∀ (s : State) (q : Fin 4) (k : Fin 8) (stamp : Nat) (data d : List Nat), data.length ≤ 9216 → s.flag Q.CFG.EN (s.ethRxFree q) = true → s.qPosted
    (s.ethRxFree q) ≠ 0 → s.qCanPost (s.ethRxq q k) = true → s.ethRxq q k ≠ s.ethRxFree q → (s.qFetch 0x20 (s.ethRxFree q)).2 = some d → (((s.qFetch
    0x20 (s.ethRxFree q)).1.qTake1 (s.ethRxFree q)).masterWrite 0x20 (Desc.ofBytes d).addr data).2.good = true → (Desc.ofBytes d).addr + data.length
    ≤ 0x2000000000 → Completes (.ethReceive q k stamp data) s fun t => t.rd Q.RET.RET (s.ethRxFree q) = (s.rd Q.RET.RET (s.ethRxFree q) + 1) % 65536
    ∧ t.rd Q.PROD.PROD (s.ethRxq q k) = (s.rd Q.PROD.PROD (s.ethRxq q k) + 1) % 65536 ∧ Tab.get 0 t.ext.ethDrop q = Tab.get 0 s.ext.ethDrop q) ∧
(∀ (s : State) (q : Fin 4) (k : Fin 256) (e : List Nat), (s.masterRead 0x20 (s.rd ETH.GCL_BASE 0 q + 8 * k) 8).2 = .ok e → Completes (.ethGateSwitch
    q k) s fun t => t.ethGates q = fieldLE e 0 1 ∧ Tab.get 0 t.ext.gateIdx q = k) ∧
(∀ (s : State) (x n : Nat) (write : Bool) (data : List Nat) (errs : List (Nat × Nat)), Completes (.pcieInbound x n write data true errs) s fun t =>
    t.regs = s.regs ∧ t.mem = s.mem ∧ t.resp = s.resp) ∧
(∀ (s : State) (x n : Nat) (data : List Nat) (errs : List (Nat × Nat)), 2 ^ s.rd PCIE.CFG.BAR0_L < x + n → Completes (.pcieInbound x n false data
    false errs) s fun t => t.resp.err = true ∧ t.mem = s.mem ∧ t.regs = s.regs) ∧
(∀ (s : State) (x n : Nat) (data : List Nat) (errs : List (Nat × Nat)),
    let a := s.rd PCIE.BAR0_XLAT + x;
    let u : State := s.forEach errs State.flipBit;
    (∀ y ∈ eccWords a n, u.isUe y = false) → x + n ≤ 2 ^ s.rd PCIE.CFG.BAR0_L → isRegSpace a = false → isOutbound a = false → s.checkAccess 0x28 a n
    false false = none → a % 64 + n ≤ 64 → 0 < n → Completes (.pcieInbound x n false data false errs) s fun t => t.resp.err = false ∧ t.resp.data =
    s.readMem a n ∧ t.mem = s.mem) ∧
(∀ (s : State) (x : PcieReq) (l : List PcieReq) (data : List Nat), s.ext.pcie = x :: l → Completes (.pcieCompletion false data) s fun t =>
    t.ext.pcie = l ∧ t.resp.err = false ∧ t.resp.data = data) ∧
(∀ (s : State) (x : PcieReq) (l : List PcieReq) (data : List Nat), s.ext.pcie = x :: l → Completes (.pcieCompletion true data) s fun t => t.ext.pcie
    = l ∧ t.resp.err = true) ∧
(∀ (s : State) (x : PcieReq) (l : List PcieReq), s.ext.pcie = x :: l → x.at_ + 50 * msTicks ≤ s.dtime → Completes (.pcieCompletionTimeout) s fun t
    => t.ext.pcie = l ∧ t.resp.err = true ∧ t.regs = s.regs) ∧
(∀ (s : State) (v i : Fin 65536), Completes (.pmbusPoll v i) s fun t => t.rd PMB.READ.VOUT = v ∧ t.rd PMB.READ.IOUT = i ∧ OnlyRegs s t
    [PMB.READ.VOUT.base]) ∧
(∀ (s : State) (x : Fin 65536), Completes (.pmbusAlert x) s fun t => t.rd PMB.STATUS.STATUS_WORD = x) ∧
(∀ (s : State) (o i : List Nat), o.length ≤ 64 → i.length ≤ 64 → Completes (.serviceTransfer o i) s fun t => t.ext.svcTx = o.map (· % 256) ∧
    t.ext.svcRx = i.map (· % 256) ∧ t.regs = s.regs)
end

