-- ==== Sys2Proof/Laws/Tab.lean ====
section
/-!
SUPPORT. Laws of sparse tables: reading after a write, and that a write keeps the canonical form.
-/
namespace Sys2Proof.Machine

theorem Tab.get_filter_ne {α : Type} (d : α) (t : Tab α) {k k' : Nat} (h : k' ≠ k) :
    Tab.get d (t.filter fun e => e.1 ≠ k) k' = Tab.get d t k' := by
  induction t with
  | nil => rfl
  | cons e t ih =>
    obtain ⟨c, v⟩ := e
    by_cases hc : c = k
    · subst hc; simp [Tab.get, h] at ih ⊢; exact ih
    · simp [hc, Tab.get] at ih ⊢; rw [ih]

theorem Tab.get_filter_self {α : Type} (d : α) (t : Tab α) (k : Nat) : Tab.get d (t.filter fun e => e.1 ≠ k) k = d := by
  induction t with
  | nil => rfl
  | cons e t ih =>
    obtain ⟨c, v⟩ := e
    by_cases hc : c = k
    · simp [hc] at ih ⊢; exact ih
    · simp [hc, Tab.get, Ne.symm hc] at ih ⊢; exact ih

theorem Tab.get_ins_self {α : Type} (d : α) (t : Tab α) (k : Nat) (v : α) (h : Tab.get d t k = d ∧ ∀ e ∈ t, e.1 ≠ k) :
    Tab.get d (Tab.ins k v t) k = v := by
  induction t with
  | nil => simp [Tab.ins, Tab.get]
  | cons e t ih =>
    obtain ⟨c, w⟩ := e
    have hc : k ≠ c := fun hh => h.2 (c, w) (by simp) hh.symm
    by_cases hlt : k < c
    · simp [Tab.ins, hlt, Tab.get]
    · simp only [Tab.ins, hlt, Tab.get, hc, if_false]
      exact ih ⟨by simpa [Tab.get, hc] using h.1, fun e he => h.2 e (List.mem_cons_of_mem _ he)⟩

theorem Tab.get_ins_ne {α : Type} (d : α) (t : Tab α) {k k' : Nat} (v : α) (h : k' ≠ k) :
    Tab.get d (Tab.ins k v t) k' = Tab.get d t k' := by
  induction t with
  | nil => simp [Tab.ins, Tab.get, h]
  | cons e t ih =>
    obtain ⟨c, w⟩ := e
    by_cases hlt : k < c
    · simp [Tab.ins, hlt, Tab.get, h]
    · simp [Tab.ins, hlt, Tab.get, ih]

/-- A key reads as the value written to it. -/
theorem Tab.get_put_self {α : Type} [DecidableEq α] (d : α) (t : Tab α) (k : Nat) (v : α) : Tab.get d (Tab.put d t k v) k = v := by
  unfold Tab.put
  split
  · rename_i h; rw [Tab.get_filter_self, h]
  · exact Tab.get_ins_self d _ k v ⟨Tab.get_filter_self d t k, fun e he => by simpa using (List.mem_filter.mp he).2⟩

/-- A write leaves every other key as it was, whatever an unlisted key reads as. -/
theorem Tab.get_put_ne {α : Type} [DecidableEq α] (d d' : α) (t : Tab α) {k k' : Nat} (v : α) (h : k' ≠ k) :
    Tab.get d' (Tab.put d t k v) k' = Tab.get d' t k' := by
  unfold Tab.put
  split
  · exact Tab.get_filter_ne d' t h
  · rw [Tab.get_ins_ne d' _ v h, Tab.get_filter_ne d' t h]

theorem Tab.wfFrom_mono {α : Type} [DecidableEq α] (d : Nat → α) (t : Tab α) {lo lo' : Nat} (h : lo' ≤ lo)
    (w : Tab.wfFrom d lo t = true) : Tab.wfFrom d lo' t = true := by
  cases t with
  | nil => rfl
  | cons e t => obtain ⟨k, v⟩ := e; simp [Tab.wfFrom] at w ⊢; exact ⟨⟨by omega, w.1.2⟩, w.2⟩

theorem Tab.wfFrom_filter {α : Type} [DecidableEq α] (d : Nat → α) (p : Nat × α → Bool) (t : Tab α) (lo : Nat)
    (w : Tab.wfFrom d lo t = true) : Tab.wfFrom d lo (t.filter p) = true := by
  induction t generalizing lo with
  | nil => rfl
  | cons e t ih =>
    obtain ⟨k, v⟩ := e
    simp only [Tab.wfFrom, Bool.and_eq_true, decide_eq_true_eq] at w
    by_cases hp : p (k, v) = true
    · simp only [List.filter_cons, hp, if_true, Tab.wfFrom, Bool.and_eq_true, decide_eq_true_eq]
      exact ⟨w.1, ih _ w.2⟩
    · simp only [List.filter_cons, hp]
      exact ih _ (Tab.wfFrom_mono d t (by omega) w.2)

theorem Tab.wfFrom_ins {α : Type} [DecidableEq α] (d : Nat → α) (t : Tab α) {lo k : Nat} {v : α} (hk : lo ≤ k) (hv : v ≠ d k)
    (hn : ∀ e ∈ t, e.1 ≠ k) (w : Tab.wfFrom d lo t = true) : Tab.wfFrom d lo (Tab.ins k v t) = true := by
  induction t generalizing lo with
  | nil => simp [Tab.ins, Tab.wfFrom, hk, hv]
  | cons e t ih =>
    obtain ⟨c, x⟩ := e
    have hc : c ≠ k := hn (c, x) (by simp)
    simp only [Tab.wfFrom, Bool.and_eq_true, decide_eq_true_eq] at w
    by_cases hlt : k < c
    · simp only [Tab.ins, hlt, if_true, Tab.wfFrom, Bool.and_eq_true, decide_eq_true_eq]
      exact ⟨⟨hk, hv⟩, ⟨by omega, w.1.2⟩, w.2⟩
    · simp only [Tab.ins, hlt, Tab.wfFrom, Bool.and_eq_true, decide_eq_true_eq, if_false]
      exact ⟨w.1, ih (by omega) (fun e he => hn e (List.mem_cons_of_mem _ he)) w.2⟩

/-- A write keeps the canonical form. -/
theorem Tab.wf_put {α : Type} [DecidableEq α] (d : α) (t : Tab α) (k : Nat) (v : α) (w : Tab.wf (fun _ => d) t = true) :
    Tab.wf (fun _ => d) (Tab.put d t k v) = true := by
  unfold Tab.put Tab.wf at *
  have hf := Tab.wfFrom_filter (fun _ => d) (fun e => decide (e.1 ≠ k)) t 0 w
  split
  · exact hf
  · rename_i hv
    exact Tab.wfFrom_ins _ _ (Nat.zero_le k) hv (fun e he => by simpa using (List.mem_filter.mp he).2) hf

end Sys2Proof.Machine
end

