-- ==== Sys2Proof/Laws/Regs.lean ====
section
/-!
SUPPORT. Laws of bit fields and of registers: what a field reads as after a write of it, of another field of its register, and of
another register.
-/
namespace Sys2Proof.Machine
theorem bits_parts (n hi lo : Nat) : ∃ q r, n = (q * 2 ^ (hi + 1 - lo) + bits n hi lo) * 2 ^ lo + r ∧ r < 2 ^ lo ∧ bits n hi lo < 2 ^ (hi + 1 - lo) ∧ q = n / 2 ^ lo / 2 ^ (hi + 1 - lo) := by
  refine ⟨n / 2 ^ lo / 2 ^ (hi + 1 - lo), n % 2 ^ lo, ?_, Nat.mod_lt _ (Nat.two_pow_pos _), Nat.mod_lt _ (Nat.two_pow_pos _), rfl⟩
  unfold bits
  rw [Nat.div_add_mod' (n / 2 ^ lo), Nat.div_add_mod']

theorem setBits_parts (n hi lo v : Nat) : setBits n hi lo v = (n / 2 ^ lo / 2 ^ (hi + 1 - lo) * 2 ^ (hi + 1 - lo) + v % 2 ^ (hi + 1 - lo)) * 2 ^ lo + n % 2 ^ lo := by
  unfold setBits bits
  have h1 := Nat.div_add_mod' n (2 ^ lo)
  have h2 := Nat.div_add_mod' (n / 2 ^ lo) (2 ^ (hi + 1 - lo))
  generalize n / 2 ^ lo / 2 ^ (hi + 1 - lo) * 2 ^ (hi + 1 - lo) = A at *
  generalize n / 2 ^ lo % 2 ^ (hi + 1 - lo) = B at *
  generalize n % 2 ^ lo = r at *
  generalize n / 2 ^ lo = m at *
  subst h2
  rw [Nat.add_mul] at h1
  rw [Nat.add_mul]
  omega

theorem bits_setBits (n hi lo v : Nat) : bits (setBits n hi lo v) hi lo = v % 2 ^ (hi + 1 - lo) := by
  rw [setBits_parts]
  unfold bits
  have hr : n % 2 ^ lo < 2 ^ lo := Nat.mod_lt _ (Nat.two_pow_pos _)
  rw [Nat.add_comm, Nat.add_mul_div_right _ _ (Nat.two_pow_pos _), Nat.div_eq_of_lt hr, Nat.zero_add, Nat.add_comm, Nat.add_mul_mod_self_right, Nat.mod_mod]

theorem setBits_lt {n hi lo v k : Nat} (h : hi < k) (hl : lo ≤ hi + 1) (hn : n < 2 ^ k) : setBits n hi lo v < 2 ^ k := by
  rw [setBits_parts]
  have hv : v % 2 ^ (hi + 1 - lo) < 2 ^ (hi + 1 - lo) := Nat.mod_lt _ (Nat.two_pow_pos _)
  have hr : n % 2 ^ lo < 2 ^ lo := Nat.mod_lt _ (Nat.two_pow_pos _)
  have hk : 2 ^ k = 2 ^ (k - (hi + 1)) * 2 ^ (hi + 1 - lo) * 2 ^ lo := by
    rw [← Nat.pow_add, ← Nat.pow_add]; congr 1; omega
  have hq : n / 2 ^ lo / 2 ^ (hi + 1 - lo) < 2 ^ (k - (hi + 1)) := by
    rw [Nat.div_div_eq_div_mul, Nat.div_lt_iff_lt_mul (by positivity), Nat.mul_comm (2 ^ lo), ← Nat.mul_assoc, ← hk]; exact hn
  rw [hk]
  generalize n / 2 ^ lo / 2 ^ (hi + 1 - lo) = q at *
  generalize v % 2 ^ (hi + 1 - lo) = x at *
  generalize n % 2 ^ lo = r at *
  generalize 2 ^ (k - (hi + 1)) = K at *
  generalize 2 ^ (hi + 1 - lo) = W at *
  generalize 2 ^ lo = L at *
  have h1 : q * W + x + 1 ≤ K * W := by
    have : (q + 1) * W ≤ K * W := Nat.mul_le_mul_right _ hq
    rw [Nat.add_mul] at this; omega
  have h2 : (q * W + x + 1) * L ≤ K * W * L := Nat.mul_le_mul_right _ h1
  rw [Nat.add_mul] at h2; omega

theorem bits_setBits_above {n hi lo v hi' lo' : Nat} (h : hi < lo') (hl : lo ≤ hi + 1) : bits (setBits n hi lo v) hi' lo' = bits n hi' lo' := by
  rw [setBits_parts]
  unfold bits
  congr 1
  have hv : v % 2 ^ (hi + 1 - lo) < 2 ^ (hi + 1 - lo) := Nat.mod_lt _ (Nat.two_pow_pos _)
  have hr : n % 2 ^ lo < 2 ^ lo := Nat.mod_lt _ (Nat.two_pow_pos _)
  have e : 2 ^ lo' = 2 ^ lo * (2 ^ (hi + 1 - lo) * 2 ^ (lo' - (hi + 1))) := by
    rw [← Nat.pow_add, ← Nat.pow_add]; congr 1; omega
  rw [e, ← Nat.div_div_eq_div_mul, ← Nat.div_div_eq_div_mul, ← Nat.div_div_eq_div_mul, ← Nat.div_div_eq_div_mul]
  congr 1
  rw [Nat.add_comm _ (n % 2 ^ lo), Nat.add_mul_div_right _ _ (Nat.two_pow_pos _), Nat.div_eq_of_lt hr, Nat.zero_add, Nat.add_comm, Nat.add_mul_div_right _ _ (Nat.two_pow_pos _), Nat.div_eq_of_lt hv, Nat.zero_add]

theorem bits_mod {n hi lo k : Nat} (h : hi < k) : bits (n % 2 ^ k) hi lo = bits n hi lo := by
  by_cases hl : lo ≤ hi + 1
  · have e : 2 ^ k = 2 ^ lo * 2 ^ (k - lo) := by rw [← Nat.pow_add]; congr 1; omega
    unfold bits
    rw [e, Nat.mod_mul_right_div_self, Nat.mod_mod_of_dvd]
    exact Nat.pow_dvd_pow 2 (by omega)
  · have : hi + 1 - lo = 0 := by omega
    simp [bits, this, Nat.mod_one]

theorem bits_setBits_below {n hi lo v hi' lo' : Nat} (h : hi' < lo) : bits (setBits n hi lo v) hi' lo' = bits n hi' lo' := by
  rw [setBits_parts, ← bits_mod (n := _ * 2 ^ lo + _) h, Nat.mul_comm, Nat.mul_add_mod, Nat.mod_mod, bits_mod h]

/-! ### Registers -/

theorem State.reg_setReg (s : State) (a b : Nat) (v : Word) : (s.setReg a v).reg b = if b = a then v else s.reg b := by
  unfold State.reg State.setReg
  split
  · rename_i h; subst h; exact Tab.get_put_self _ _ _ _
  · rename_i h; exact Tab.get_put_ne _ _ _ _ h

theorem State.reg_setReg_self (s : State) (a : Nat) (v : Word) : (s.setReg a v).reg a = v := by rw [State.reg_setReg, if_pos rfl]
theorem State.reg_setReg_ne (s : State) {a b : Nat} (v : Word) (h : b ≠ a) : (s.setReg a v).reg b = s.reg b := by
  rw [State.reg_setReg, if_neg h]

/-- The register `b` lies outside the one or two registers of a field. -/
def RF.off (f : RF) (i j b : Nat) : Prop := b ≠ f.addr i j ∧ (f.hi = 63 → b ≠ f.addr i j + 4)

theorem State.reg_wr_off (s : State) (f : RF) (v i j b : Nat) (h : f.off i j b) : (s.wr f v i j).reg b = s.reg b := by
  unfold State.wr
  dsimp only
  split
  · rename_i h63; rw [State.reg_setReg_ne _ _ (h.2 h63), State.reg_setReg_ne _ _ h.1]
  · rw [State.reg_setReg_ne _ _ h.1]

/-- A field of a register reads as the low bits written to it. -/
theorem State.rd_wr_self (s : State) (f : RF) (v i j : Nat) (h : f.hi < 32) (hl : f.lo ≤ f.hi + 1) :
    (s.wr f v i j).rd f i j = v % 2 ^ f.width := by
  have h63 : f.hi ≠ 63 := by omega
  unfold State.wr State.rd
  simp only [h63, if_false, State.reg_setReg_self]
  rw [BitVec.toNat_ofNat, Nat.mod_eq_of_lt (setBits_lt h hl (BitVec.isLt _)), bits_setBits]
  rfl

/-- A pair reads as the low 64 bits written to it. -/
theorem State.rd_wr_pair (s : State) (f : RF) (v i j : Nat) (h : f.hi = 63) : (s.wr f v i j).rd f i j = v % 2 ^ 64 := by
  unfold State.wr State.rd
  simp only [h, if_true, State.reg_setReg_self]
  rw [State.reg_setReg_ne _ _ (by omega), State.reg_setReg_self, BitVec.toNat_ofNat, BitVec.toNat_ofNat]
  omega

/-- Two fields share no register. -/
def RF.apart (f : RF) (i j : Nat) (g : RF) (k l : Nat) : Prop :=
  f.off i j (g.addr k l) ∧ (g.hi = 63 → f.off i j (g.addr k l + 4))

/-- A write leaves a field of another register as it was. -/
theorem State.rd_wr_apart (s : State) (f g : RF) (v i j k l : Nat) (h : f.apart i j g k l) : (s.wr f v i j).rd g k l = s.rd g k l := by
  unfold State.rd
  dsimp only
  split
  · rename_i h63; rw [State.reg_wr_off _ _ _ _ _ _ h.1, State.reg_wr_off _ _ _ _ _ _ (h.2 h63)]
  · rw [State.reg_wr_off _ _ _ _ _ _ h.1]

/-- A write leaves the other fields of its register as they were. -/
theorem State.rd_wr_beside (s : State) (f g : RF) (v i j k l : Nat) (ha : f.addr i j = g.addr k l) (h : f.hi < 32) (hl : f.lo ≤ f.hi + 1)
    (hg : g.hi < 32) (hd : f.hi < g.lo ∨ g.hi < f.lo) : (s.wr f v i j).rd g k l = s.rd g k l := by
  have h63 : f.hi ≠ 63 := by omega
  have hg63 : g.hi ≠ 63 := by omega
  unfold State.wr State.rd
  simp only [h63, hg63, if_false, ← ha, State.reg_setReg_self]
  rw [BitVec.toNat_ofNat, Nat.mod_eq_of_lt (setBits_lt h hl (BitVec.isLt _))]
  rcases hd with hd | hd
  · rw [bits_setBits_above hd hl]
  · rw [bits_setBits_below hd]

/-- A field reads below 2 to its width. -/
theorem State.rd_lt (s : State) (f : RF) (i j : Nat) (h : f.hi = 63 → f.lo = 0) : s.rd f i j < 2 ^ f.width := by
  unfold State.rd RF.width
  dsimp only
  split
  · rename_i h63
    have h1 := (s.reg (f.addr i j)).isLt
    have h2 := (s.reg (f.addr i j + 4)).isLt
    rw [h63, h h63]; omega
  · exact Nat.mod_lt _ (Nat.two_pow_pos _)

/-! ### Memory -/

theorem State.byte_setByte (s : State) (a b : Nat) (v : Byte) : (s.setByte a v).byte b = if b = a then v else s.byte b := by
  unfold State.byte State.setByte
  split
  · rename_i h; subst h; exact Tab.get_put_self _ _ _ _
  · rename_i h; exact Tab.get_put_ne _ _ _ _ h

theorem State.setByte_wf (s : State) (a : Nat) (v : Byte) (h : Memory.wf s.mem = true) : Memory.wf (s.setByte a v).mem = true :=
  Tab.wf_put memDefault s.mem a v h

/-- A store leaves every byte outside it as it was. -/
theorem State.byte_writeMem_off (s : State) (a b : Nat) (l : List Nat) (h : b < a ∨ a + l.length ≤ b) :
    (s.writeMem a l).byte b = s.byte b := by
  induction l generalizing s a with
  | nil => rfl
  | cons x t ih =>
    rw [State.writeMem, ih _ _ (by simp at h; omega), State.byte_setByte, if_neg (by simp at h; omega)]

/-- A stored byte reads as what was stored. -/
theorem State.byte_writeMem (s : State) (a : Nat) (l : List Nat) (k : Nat) (h : k < l.length) :
    (s.writeMem a l).byte (a + k) = BitVec.ofNat 8 (l.getD k 0) := by
  induction l generalizing s a k with
  | nil => simp at h
  | cons x t ih =>
    rw [State.writeMem]
    cases k with
    | zero => rw [State.byte_writeMem_off _ _ _ _ (by omega), State.byte_setByte]; simp
    | succ k =>
      have e : a + (k + 1) = a + 1 + k := by omega
      rw [e, ih _ _ _ (by simpa using h)]; simp

/-- A store keeps the canonical form of memory. -/
theorem State.writeMem_wf (s : State) (a : Nat) (l : List Nat) (h : Memory.wf s.mem = true) : Memory.wf (s.writeMem a l).mem = true := by
  induction l generalizing s a with
  | nil => exact h
  | cons x t ih => exact ih _ _ (State.setByte_wf s a _ h)

end Sys2Proof.Machine
end

