-- ==== Sys2Proof/Laws/State.lean ====
section
/-!
SUPPORT. What each named update of the state leaves as it was, field by field, and what it reads back as. An update of one field leaves
every other field; registers and memory keep their contents under every update that is not one of theirs.
-/
namespace Sys2Proof.Machine

@[simp] theorem State.noteSet_keeps (s : State) (a mask : Nat) :
    (s.noteSet a mask).dtime = s.dtime ∧ (s.noteSet a mask).regs = s.regs ∧ (s.noteSet a mask).mem = s.mem ∧ (s.noteSet a mask).flips = s.flips ∧
    (s.noteSet a mask).scrub = s.scrub ∧ (s.noteSet a mask).vios = s.vios ∧ (s.noteSet a mask).resp = s.resp ∧ (s.noteSet a mask).latches = s.latches ∧
    (s.noteSet a mask).glatches = s.glatches ∧ (s.noteSet a mask).heldLo = s.heldLo ∧ (s.noteSet a mask).posted = s.posted ∧
    (s.noteSet a mask).debugOverride = s.debugOverride ∧ (s.noteSet a mask).irqLines = s.irqLines ∧ (s.noteSet a mask).recd = s.recd ∧
    (s.noteSet a mask).freeCtr = s.freeCtr ∧ (s.noteSet a mask).tbs = s.tbs ∧ (s.noteSet a mask).slots = s.slots ∧ (s.noteSet a mask).tachs = s.tachs ∧
    (s.noteSet a mask).ssiEnd = s.ssiEnd ∧ (s.noteSet a mask).timeH = s.timeH ∧ (s.noteSet a mask).obss = s.obss ∧ (s.noteSet a mask).nets = s.nets ∧
    (s.noteSet a mask).lanes = s.lanes ∧ (s.noteSet a mask).jobs = s.jobs ∧ (s.noteSet a mask).pjobs = s.pjobs ∧ (s.noteSet a mask).obsLoad = s.obsLoad ∧
    (s.noteSet a mask).obsRemove = s.obsRemove ∧ (s.noteSet a mask).pvSettle = s.pvSettle ∧ (s.noteSet a mask).pwms = s.pwms ∧
    (s.noteSet a mask).pxbs = s.pxbs ∧ (s.noteSet a mask).focs = s.focs ∧ (s.noteSet a mask).cmts = s.cmts ∧ (s.noteSet a mask).pvs = s.pvs ∧
    (s.noteSet a mask).chans = s.chans ∧ (s.noteSet a mask).mons = s.mons ∧ (s.noteSet a mask).hks = s.hks ∧ (s.noteSet a mask).vibs = s.vibs ∧
    (s.noteSet a mask).cal = s.cal ∧ (s.noteSet a mask).segs = s.segs ∧ (s.noteSet a mask).ctxs = s.ctxs ∧ (s.noteSet a mask).engs = s.engs ∧
    (s.noteSet a mask).qRetired = s.qRetired ∧ (s.noteSet a mask).utilRef = s.utilRef ∧ (s.noteSet a mask).babIns = s.babIns ∧
    (s.noteSet a mask).babCloses = s.babCloses ∧ (s.noteSet a mask).babCosts = s.babCosts ∧ (s.noteSet a mask).babCtxs = s.babCtxs ∧
    (s.noteSet a mask).safAxs = s.safAxs ∧ (s.noteSet a mask).safIns = s.safIns ∧ (s.noteSet a mask).tests = s.tests ∧ (s.noteSet a mask).saf = s.saf ∧
    (s.noteSet a mask).age = s.age ∧ (s.noteSet a mask).fuses = s.fuses ∧ (s.noteSet a mask).steer = s.steer ∧ (s.noteSet a mask).bist = s.bist ∧
    (s.noteSet a mask).sup = s.sup ∧ (s.noteSet a mask).mbs = s.mbs ∧ (s.noteSet a mask).sec = s.sec ∧ (s.noteSet a mask).pwr = s.pwr ∧
    (s.noteSet a mask).lnks = s.lnks ∧ (s.noteSet a mask).ext = s.ext ∧ (s.noteSet a mask).pending = s.pending :=
  ⟨rfl, rfl, rfl, rfl, rfl, rfl, rfl, rfl, rfl, rfl, rfl, rfl, rfl, rfl, rfl, rfl, rfl, rfl, rfl, rfl, rfl, rfl, rfl, rfl, rfl, rfl, rfl, rfl, rfl, rfl, rfl, rfl, rfl, rfl, rfl, rfl, rfl, rfl, rfl, rfl, rfl, rfl, rfl, rfl, rfl, rfl, rfl, rfl, rfl, rfl, rfl, rfl, rfl, rfl, rfl, rfl, rfl, rfl, rfl, rfl, rfl, rfl⟩
@[simp] theorem State.noteSet_reg (s : State) (a mask : Nat) (ga : Nat) : (s.noteSet a mask).reg ga = s.reg ga := rfl
@[simp] theorem State.noteSet_rd (s : State) (a mask : Nat) (g : RF) (gi gj : Nat) :
    (s.noteSet a mask).rd g gi gj = s.rd g gi gj ∧ (s.noteSet a mask).rdS g gi gj = s.rdS g gi gj ∧ (s.noteSet a mask).flag g gi gj = s.flag g gi gj := ⟨rfl, rfl, rfl⟩
@[simp] theorem State.noteSet_rdBit (s : State) (a mask : Nat) (g : RF) (gb gi gj : Nat) : (s.noteSet a mask).rdBit g gb gi gj = s.rdBit g gb gi gj := rfl
@[simp] theorem State.noteSet_byte (s : State) (a mask : Nat) (ga : Nat) : (s.noteSet a mask).byte ga = s.byte ga := rfl

@[simp] theorem State.updVib_keeps (s : State) (c : Nat) (f : VibH → VibH) :
    (s.updVib c f).dtime = s.dtime ∧ (s.updVib c f).regs = s.regs ∧ (s.updVib c f).mem = s.mem ∧ (s.updVib c f).flips = s.flips ∧
    (s.updVib c f).scrub = s.scrub ∧ (s.updVib c f).vios = s.vios ∧ (s.updVib c f).resp = s.resp ∧ (s.updVib c f).latches = s.latches ∧
    (s.updVib c f).glatches = s.glatches ∧ (s.updVib c f).heldLo = s.heldLo ∧ (s.updVib c f).justSet = s.justSet ∧ (s.updVib c f).posted = s.posted ∧
    (s.updVib c f).debugOverride = s.debugOverride ∧ (s.updVib c f).irqLines = s.irqLines ∧ (s.updVib c f).recd = s.recd ∧
    (s.updVib c f).freeCtr = s.freeCtr ∧ (s.updVib c f).tbs = s.tbs ∧ (s.updVib c f).slots = s.slots ∧ (s.updVib c f).tachs = s.tachs ∧
    (s.updVib c f).ssiEnd = s.ssiEnd ∧ (s.updVib c f).timeH = s.timeH ∧ (s.updVib c f).obss = s.obss ∧ (s.updVib c f).nets = s.nets ∧
    (s.updVib c f).lanes = s.lanes ∧ (s.updVib c f).jobs = s.jobs ∧ (s.updVib c f).pjobs = s.pjobs ∧ (s.updVib c f).obsLoad = s.obsLoad ∧
    (s.updVib c f).obsRemove = s.obsRemove ∧ (s.updVib c f).pvSettle = s.pvSettle ∧ (s.updVib c f).pwms = s.pwms ∧ (s.updVib c f).pxbs = s.pxbs ∧
    (s.updVib c f).focs = s.focs ∧ (s.updVib c f).cmts = s.cmts ∧ (s.updVib c f).pvs = s.pvs ∧ (s.updVib c f).chans = s.chans ∧
    (s.updVib c f).mons = s.mons ∧ (s.updVib c f).hks = s.hks ∧ (s.updVib c f).cal = s.cal ∧ (s.updVib c f).segs = s.segs ∧
    (s.updVib c f).ctxs = s.ctxs ∧ (s.updVib c f).engs = s.engs ∧ (s.updVib c f).qRetired = s.qRetired ∧ (s.updVib c f).utilRef = s.utilRef ∧
    (s.updVib c f).babIns = s.babIns ∧ (s.updVib c f).babCloses = s.babCloses ∧ (s.updVib c f).babCosts = s.babCosts ∧
    (s.updVib c f).babCtxs = s.babCtxs ∧ (s.updVib c f).safAxs = s.safAxs ∧ (s.updVib c f).safIns = s.safIns ∧ (s.updVib c f).tests = s.tests ∧
    (s.updVib c f).saf = s.saf ∧ (s.updVib c f).age = s.age ∧ (s.updVib c f).fuses = s.fuses ∧ (s.updVib c f).steer = s.steer ∧
    (s.updVib c f).bist = s.bist ∧ (s.updVib c f).sup = s.sup ∧ (s.updVib c f).mbs = s.mbs ∧ (s.updVib c f).sec = s.sec ∧ (s.updVib c f).pwr = s.pwr ∧
    (s.updVib c f).lnks = s.lnks ∧ (s.updVib c f).ext = s.ext ∧ (s.updVib c f).pending = s.pending :=
  ⟨rfl, rfl, rfl, rfl, rfl, rfl, rfl, rfl, rfl, rfl, rfl, rfl, rfl, rfl, rfl, rfl, rfl, rfl, rfl, rfl, rfl, rfl, rfl, rfl, rfl, rfl, rfl, rfl, rfl, rfl, rfl, rfl, rfl, rfl, rfl, rfl, rfl, rfl, rfl, rfl, rfl, rfl, rfl, rfl, rfl, rfl, rfl, rfl, rfl, rfl, rfl, rfl, rfl, rfl, rfl, rfl, rfl, rfl, rfl, rfl, rfl, rfl⟩
@[simp] theorem State.updVib_reg (s : State) (c : Nat) (f : VibH → VibH) (ga : Nat) : (s.updVib c f).reg ga = s.reg ga := rfl
@[simp] theorem State.updVib_rd (s : State) (c : Nat) (f : VibH → VibH) (g : RF) (gi gj : Nat) :
    (s.updVib c f).rd g gi gj = s.rd g gi gj ∧ (s.updVib c f).rdS g gi gj = s.rdS g gi gj ∧ (s.updVib c f).flag g gi gj = s.flag g gi gj := ⟨rfl, rfl, rfl⟩
@[simp] theorem State.updVib_rdBit (s : State) (c : Nat) (f : VibH → VibH) (g : RF) (gb gi gj : Nat) : (s.updVib c f).rdBit g gb gi gj = s.rdBit g gb gi gj := rfl
@[simp] theorem State.updVib_byte (s : State) (c : Nat) (f : VibH → VibH) (ga : Nat) : (s.updVib c f).byte ga = s.byte ga := rfl
theorem State.updVib_same (s : State) (c : Nat) (f : VibH → VibH) : (s.updVib c f).vib c = f (s.vib c) := Tab.get_put_self _ _ _ _
theorem State.updVib_other (s : State) (c : Nat) (f : VibH → VibH) {x : Nat} (h : x ≠ c) : (s.updVib c f).vib x = s.vib x := Tab.get_put_ne _ _ _ _ h

@[simp] theorem State.updOb_keeps (s : State) (n : Nat) (f : ObsH → ObsH) :
    (s.updOb n f).dtime = s.dtime ∧ (s.updOb n f).regs = s.regs ∧ (s.updOb n f).mem = s.mem ∧ (s.updOb n f).flips = s.flips ∧
    (s.updOb n f).scrub = s.scrub ∧ (s.updOb n f).vios = s.vios ∧ (s.updOb n f).resp = s.resp ∧ (s.updOb n f).latches = s.latches ∧
    (s.updOb n f).glatches = s.glatches ∧ (s.updOb n f).heldLo = s.heldLo ∧ (s.updOb n f).justSet = s.justSet ∧ (s.updOb n f).posted = s.posted ∧
    (s.updOb n f).debugOverride = s.debugOverride ∧ (s.updOb n f).irqLines = s.irqLines ∧ (s.updOb n f).recd = s.recd ∧
    (s.updOb n f).freeCtr = s.freeCtr ∧ (s.updOb n f).tbs = s.tbs ∧ (s.updOb n f).slots = s.slots ∧ (s.updOb n f).tachs = s.tachs ∧
    (s.updOb n f).ssiEnd = s.ssiEnd ∧ (s.updOb n f).timeH = s.timeH ∧ (s.updOb n f).nets = s.nets ∧ (s.updOb n f).lanes = s.lanes ∧
    (s.updOb n f).jobs = s.jobs ∧ (s.updOb n f).pjobs = s.pjobs ∧ (s.updOb n f).obsLoad = s.obsLoad ∧ (s.updOb n f).obsRemove = s.obsRemove ∧
    (s.updOb n f).pvSettle = s.pvSettle ∧ (s.updOb n f).pwms = s.pwms ∧ (s.updOb n f).pxbs = s.pxbs ∧ (s.updOb n f).focs = s.focs ∧
    (s.updOb n f).cmts = s.cmts ∧ (s.updOb n f).pvs = s.pvs ∧ (s.updOb n f).chans = s.chans ∧ (s.updOb n f).mons = s.mons ∧ (s.updOb n f).hks = s.hks ∧
    (s.updOb n f).vibs = s.vibs ∧ (s.updOb n f).cal = s.cal ∧ (s.updOb n f).segs = s.segs ∧ (s.updOb n f).ctxs = s.ctxs ∧ (s.updOb n f).engs = s.engs ∧
    (s.updOb n f).qRetired = s.qRetired ∧ (s.updOb n f).utilRef = s.utilRef ∧ (s.updOb n f).babIns = s.babIns ∧ (s.updOb n f).babCloses = s.babCloses ∧
    (s.updOb n f).babCosts = s.babCosts ∧ (s.updOb n f).babCtxs = s.babCtxs ∧ (s.updOb n f).safAxs = s.safAxs ∧ (s.updOb n f).safIns = s.safIns ∧
    (s.updOb n f).tests = s.tests ∧ (s.updOb n f).saf = s.saf ∧ (s.updOb n f).age = s.age ∧ (s.updOb n f).fuses = s.fuses ∧
    (s.updOb n f).steer = s.steer ∧ (s.updOb n f).bist = s.bist ∧ (s.updOb n f).sup = s.sup ∧ (s.updOb n f).mbs = s.mbs ∧ (s.updOb n f).sec = s.sec ∧
    (s.updOb n f).pwr = s.pwr ∧ (s.updOb n f).lnks = s.lnks ∧ (s.updOb n f).ext = s.ext ∧ (s.updOb n f).pending = s.pending :=
  ⟨rfl, rfl, rfl, rfl, rfl, rfl, rfl, rfl, rfl, rfl, rfl, rfl, rfl, rfl, rfl, rfl, rfl, rfl, rfl, rfl, rfl, rfl, rfl, rfl, rfl, rfl, rfl, rfl, rfl, rfl, rfl, rfl, rfl, rfl, rfl, rfl, rfl, rfl, rfl, rfl, rfl, rfl, rfl, rfl, rfl, rfl, rfl, rfl, rfl, rfl, rfl, rfl, rfl, rfl, rfl, rfl, rfl, rfl, rfl, rfl, rfl, rfl⟩
@[simp] theorem State.updOb_reg (s : State) (n : Nat) (f : ObsH → ObsH) (ga : Nat) : (s.updOb n f).reg ga = s.reg ga := rfl
@[simp] theorem State.updOb_rd (s : State) (n : Nat) (f : ObsH → ObsH) (g : RF) (gi gj : Nat) :
    (s.updOb n f).rd g gi gj = s.rd g gi gj ∧ (s.updOb n f).rdS g gi gj = s.rdS g gi gj ∧ (s.updOb n f).flag g gi gj = s.flag g gi gj := ⟨rfl, rfl, rfl⟩
@[simp] theorem State.updOb_rdBit (s : State) (n : Nat) (f : ObsH → ObsH) (g : RF) (gb gi gj : Nat) : (s.updOb n f).rdBit g gb gi gj = s.rdBit g gb gi gj := rfl
@[simp] theorem State.updOb_byte (s : State) (n : Nat) (f : ObsH → ObsH) (ga : Nat) : (s.updOb n f).byte ga = s.byte ga := rfl
theorem State.updOb_same (s : State) (n : Nat) (f : ObsH → ObsH) : (s.updOb n f).ob n = f (s.ob n) := Tab.get_put_self _ _ _ _
theorem State.updOb_other (s : State) (n : Nat) (f : ObsH → ObsH) {x : Nat} (h : x ≠ n) : (s.updOb n f).ob x = s.ob x := Tab.get_put_ne _ _ _ _ h

@[simp] theorem State.obsRemoveStart_keeps (s : State) (axis kind : Nat) :
    (s.obsRemoveStart axis kind).dtime = s.dtime ∧ (s.obsRemoveStart axis kind).regs = s.regs ∧ (s.obsRemoveStart axis kind).mem = s.mem ∧
    (s.obsRemoveStart axis kind).flips = s.flips ∧ (s.obsRemoveStart axis kind).scrub = s.scrub ∧ (s.obsRemoveStart axis kind).vios = s.vios ∧
    (s.obsRemoveStart axis kind).resp = s.resp ∧ (s.obsRemoveStart axis kind).latches = s.latches ∧ (s.obsRemoveStart axis kind).glatches = s.glatches ∧
    (s.obsRemoveStart axis kind).heldLo = s.heldLo ∧ (s.obsRemoveStart axis kind).justSet = s.justSet ∧ (s.obsRemoveStart axis kind).posted = s.posted ∧
    (s.obsRemoveStart axis kind).debugOverride = s.debugOverride ∧ (s.obsRemoveStart axis kind).irqLines = s.irqLines ∧
    (s.obsRemoveStart axis kind).recd = s.recd ∧ (s.obsRemoveStart axis kind).freeCtr = s.freeCtr ∧ (s.obsRemoveStart axis kind).tbs = s.tbs ∧
    (s.obsRemoveStart axis kind).slots = s.slots ∧ (s.obsRemoveStart axis kind).tachs = s.tachs ∧ (s.obsRemoveStart axis kind).ssiEnd = s.ssiEnd ∧
    (s.obsRemoveStart axis kind).timeH = s.timeH ∧ (s.obsRemoveStart axis kind).obss = s.obss ∧ (s.obsRemoveStart axis kind).nets = s.nets ∧
    (s.obsRemoveStart axis kind).lanes = s.lanes ∧ (s.obsRemoveStart axis kind).jobs = s.jobs ∧ (s.obsRemoveStart axis kind).pjobs = s.pjobs ∧
    (s.obsRemoveStart axis kind).obsLoad = s.obsLoad ∧ (s.obsRemoveStart axis kind).pvSettle = s.pvSettle ∧ (s.obsRemoveStart axis kind).pwms = s.pwms ∧
    (s.obsRemoveStart axis kind).pxbs = s.pxbs ∧ (s.obsRemoveStart axis kind).focs = s.focs ∧ (s.obsRemoveStart axis kind).cmts = s.cmts ∧
    (s.obsRemoveStart axis kind).pvs = s.pvs ∧ (s.obsRemoveStart axis kind).chans = s.chans ∧ (s.obsRemoveStart axis kind).mons = s.mons ∧
    (s.obsRemoveStart axis kind).hks = s.hks ∧ (s.obsRemoveStart axis kind).vibs = s.vibs ∧ (s.obsRemoveStart axis kind).cal = s.cal ∧
    (s.obsRemoveStart axis kind).segs = s.segs ∧ (s.obsRemoveStart axis kind).ctxs = s.ctxs ∧ (s.obsRemoveStart axis kind).engs = s.engs ∧
    (s.obsRemoveStart axis kind).qRetired = s.qRetired ∧ (s.obsRemoveStart axis kind).utilRef = s.utilRef ∧
    (s.obsRemoveStart axis kind).babIns = s.babIns ∧ (s.obsRemoveStart axis kind).babCloses = s.babCloses ∧
    (s.obsRemoveStart axis kind).babCosts = s.babCosts ∧ (s.obsRemoveStart axis kind).babCtxs = s.babCtxs ∧
    (s.obsRemoveStart axis kind).safAxs = s.safAxs ∧ (s.obsRemoveStart axis kind).safIns = s.safIns ∧ (s.obsRemoveStart axis kind).tests = s.tests ∧
    (s.obsRemoveStart axis kind).saf = s.saf ∧ (s.obsRemoveStart axis kind).age = s.age ∧ (s.obsRemoveStart axis kind).fuses = s.fuses ∧
    (s.obsRemoveStart axis kind).steer = s.steer ∧ (s.obsRemoveStart axis kind).bist = s.bist ∧ (s.obsRemoveStart axis kind).sup = s.sup ∧
    (s.obsRemoveStart axis kind).mbs = s.mbs ∧ (s.obsRemoveStart axis kind).sec = s.sec ∧ (s.obsRemoveStart axis kind).pwr = s.pwr ∧
    (s.obsRemoveStart axis kind).lnks = s.lnks ∧ (s.obsRemoveStart axis kind).ext = s.ext ∧ (s.obsRemoveStart axis kind).pending = s.pending :=
  ⟨rfl, rfl, rfl, rfl, rfl, rfl, rfl, rfl, rfl, rfl, rfl, rfl, rfl, rfl, rfl, rfl, rfl, rfl, rfl, rfl, rfl, rfl, rfl, rfl, rfl, rfl, rfl, rfl, rfl, rfl, rfl, rfl, rfl, rfl, rfl, rfl, rfl, rfl, rfl, rfl, rfl, rfl, rfl, rfl, rfl, rfl, rfl, rfl, rfl, rfl, rfl, rfl, rfl, rfl, rfl, rfl, rfl, rfl, rfl, rfl, rfl, rfl⟩
@[simp] theorem State.obsRemoveStart_reg (s : State) (axis kind : Nat) (ga : Nat) : (s.obsRemoveStart axis kind).reg ga = s.reg ga := rfl
@[simp] theorem State.obsRemoveStart_rd (s : State) (axis kind : Nat) (g : RF) (gi gj : Nat) :
    (s.obsRemoveStart axis kind).rd g gi gj = s.rd g gi gj ∧ (s.obsRemoveStart axis kind).rdS g gi gj = s.rdS g gi gj ∧ (s.obsRemoveStart axis kind).flag g gi gj = s.flag g gi gj := ⟨rfl, rfl, rfl⟩
@[simp] theorem State.obsRemoveStart_rdBit (s : State) (axis kind : Nat) (g : RF) (gb gi gj : Nat) : (s.obsRemoveStart axis kind).rdBit g gb gi gj = s.rdBit g gb gi gj := rfl
@[simp] theorem State.obsRemoveStart_byte (s : State) (axis kind : Nat) (ga : Nat) : (s.obsRemoveStart axis kind).byte ga = s.byte ga := rfl

@[simp] theorem State.post_keeps (s : State) (m a v : Nat) :
    (s.post m a v).dtime = s.dtime ∧ (s.post m a v).regs = s.regs ∧ (s.post m a v).mem = s.mem ∧ (s.post m a v).flips = s.flips ∧
    (s.post m a v).scrub = s.scrub ∧ (s.post m a v).vios = s.vios ∧ (s.post m a v).resp = s.resp ∧ (s.post m a v).latches = s.latches ∧
    (s.post m a v).glatches = s.glatches ∧ (s.post m a v).heldLo = s.heldLo ∧ (s.post m a v).justSet = s.justSet ∧
    (s.post m a v).debugOverride = s.debugOverride ∧ (s.post m a v).irqLines = s.irqLines ∧ (s.post m a v).recd = s.recd ∧
    (s.post m a v).freeCtr = s.freeCtr ∧ (s.post m a v).tbs = s.tbs ∧ (s.post m a v).slots = s.slots ∧ (s.post m a v).tachs = s.tachs ∧
    (s.post m a v).ssiEnd = s.ssiEnd ∧ (s.post m a v).timeH = s.timeH ∧ (s.post m a v).obss = s.obss ∧ (s.post m a v).nets = s.nets ∧
    (s.post m a v).lanes = s.lanes ∧ (s.post m a v).jobs = s.jobs ∧ (s.post m a v).pjobs = s.pjobs ∧ (s.post m a v).obsLoad = s.obsLoad ∧
    (s.post m a v).obsRemove = s.obsRemove ∧ (s.post m a v).pvSettle = s.pvSettle ∧ (s.post m a v).pwms = s.pwms ∧ (s.post m a v).pxbs = s.pxbs ∧
    (s.post m a v).focs = s.focs ∧ (s.post m a v).cmts = s.cmts ∧ (s.post m a v).pvs = s.pvs ∧ (s.post m a v).chans = s.chans ∧
    (s.post m a v).mons = s.mons ∧ (s.post m a v).hks = s.hks ∧ (s.post m a v).vibs = s.vibs ∧ (s.post m a v).cal = s.cal ∧
    (s.post m a v).segs = s.segs ∧ (s.post m a v).ctxs = s.ctxs ∧ (s.post m a v).engs = s.engs ∧ (s.post m a v).qRetired = s.qRetired ∧
    (s.post m a v).utilRef = s.utilRef ∧ (s.post m a v).babIns = s.babIns ∧ (s.post m a v).babCloses = s.babCloses ∧
    (s.post m a v).babCosts = s.babCosts ∧ (s.post m a v).babCtxs = s.babCtxs ∧ (s.post m a v).safAxs = s.safAxs ∧ (s.post m a v).safIns = s.safIns ∧
    (s.post m a v).tests = s.tests ∧ (s.post m a v).saf = s.saf ∧ (s.post m a v).age = s.age ∧ (s.post m a v).fuses = s.fuses ∧
    (s.post m a v).steer = s.steer ∧ (s.post m a v).bist = s.bist ∧ (s.post m a v).sup = s.sup ∧ (s.post m a v).mbs = s.mbs ∧
    (s.post m a v).sec = s.sec ∧ (s.post m a v).pwr = s.pwr ∧ (s.post m a v).lnks = s.lnks ∧ (s.post m a v).ext = s.ext ∧
    (s.post m a v).pending = s.pending :=
  ⟨rfl, rfl, rfl, rfl, rfl, rfl, rfl, rfl, rfl, rfl, rfl, rfl, rfl, rfl, rfl, rfl, rfl, rfl, rfl, rfl, rfl, rfl, rfl, rfl, rfl, rfl, rfl, rfl, rfl, rfl, rfl, rfl, rfl, rfl, rfl, rfl, rfl, rfl, rfl, rfl, rfl, rfl, rfl, rfl, rfl, rfl, rfl, rfl, rfl, rfl, rfl, rfl, rfl, rfl, rfl, rfl, rfl, rfl, rfl, rfl, rfl, rfl⟩
@[simp] theorem State.post_reg (s : State) (m a v : Nat) (ga : Nat) : (s.post m a v).reg ga = s.reg ga := rfl
@[simp] theorem State.post_rd (s : State) (m a v : Nat) (g : RF) (gi gj : Nat) :
    (s.post m a v).rd g gi gj = s.rd g gi gj ∧ (s.post m a v).rdS g gi gj = s.rdS g gi gj ∧ (s.post m a v).flag g gi gj = s.flag g gi gj := ⟨rfl, rfl, rfl⟩
@[simp] theorem State.post_rdBit (s : State) (m a v : Nat) (g : RF) (gb gi gj : Nat) : (s.post m a v).rdBit g gb gi gj = s.rdBit g gb gi gj := rfl
@[simp] theorem State.post_byte (s : State) (m a v : Nat) (ga : Nat) : (s.post m a v).byte ga = s.byte ga := rfl

@[simp] theorem State.updPwr_keeps (s : State) (f : PwrH → PwrH) :
    (s.updPwr f).dtime = s.dtime ∧ (s.updPwr f).regs = s.regs ∧ (s.updPwr f).mem = s.mem ∧ (s.updPwr f).flips = s.flips ∧ (s.updPwr f).scrub = s.scrub ∧
    (s.updPwr f).vios = s.vios ∧ (s.updPwr f).resp = s.resp ∧ (s.updPwr f).latches = s.latches ∧ (s.updPwr f).glatches = s.glatches ∧
    (s.updPwr f).heldLo = s.heldLo ∧ (s.updPwr f).justSet = s.justSet ∧ (s.updPwr f).posted = s.posted ∧ (s.updPwr f).debugOverride = s.debugOverride ∧
    (s.updPwr f).irqLines = s.irqLines ∧ (s.updPwr f).recd = s.recd ∧ (s.updPwr f).freeCtr = s.freeCtr ∧ (s.updPwr f).tbs = s.tbs ∧
    (s.updPwr f).slots = s.slots ∧ (s.updPwr f).tachs = s.tachs ∧ (s.updPwr f).ssiEnd = s.ssiEnd ∧ (s.updPwr f).timeH = s.timeH ∧
    (s.updPwr f).obss = s.obss ∧ (s.updPwr f).nets = s.nets ∧ (s.updPwr f).lanes = s.lanes ∧ (s.updPwr f).jobs = s.jobs ∧ (s.updPwr f).pjobs = s.pjobs ∧
    (s.updPwr f).obsLoad = s.obsLoad ∧ (s.updPwr f).obsRemove = s.obsRemove ∧ (s.updPwr f).pvSettle = s.pvSettle ∧ (s.updPwr f).pwms = s.pwms ∧
    (s.updPwr f).pxbs = s.pxbs ∧ (s.updPwr f).focs = s.focs ∧ (s.updPwr f).cmts = s.cmts ∧ (s.updPwr f).pvs = s.pvs ∧ (s.updPwr f).chans = s.chans ∧
    (s.updPwr f).mons = s.mons ∧ (s.updPwr f).hks = s.hks ∧ (s.updPwr f).vibs = s.vibs ∧ (s.updPwr f).cal = s.cal ∧ (s.updPwr f).segs = s.segs ∧
    (s.updPwr f).ctxs = s.ctxs ∧ (s.updPwr f).engs = s.engs ∧ (s.updPwr f).qRetired = s.qRetired ∧ (s.updPwr f).utilRef = s.utilRef ∧
    (s.updPwr f).babIns = s.babIns ∧ (s.updPwr f).babCloses = s.babCloses ∧ (s.updPwr f).babCosts = s.babCosts ∧ (s.updPwr f).babCtxs = s.babCtxs ∧
    (s.updPwr f).safAxs = s.safAxs ∧ (s.updPwr f).safIns = s.safIns ∧ (s.updPwr f).tests = s.tests ∧ (s.updPwr f).saf = s.saf ∧
    (s.updPwr f).age = s.age ∧ (s.updPwr f).fuses = s.fuses ∧ (s.updPwr f).steer = s.steer ∧ (s.updPwr f).bist = s.bist ∧ (s.updPwr f).sup = s.sup ∧
    (s.updPwr f).mbs = s.mbs ∧ (s.updPwr f).sec = s.sec ∧ (s.updPwr f).lnks = s.lnks ∧ (s.updPwr f).ext = s.ext ∧ (s.updPwr f).pending = s.pending :=
  ⟨rfl, rfl, rfl, rfl, rfl, rfl, rfl, rfl, rfl, rfl, rfl, rfl, rfl, rfl, rfl, rfl, rfl, rfl, rfl, rfl, rfl, rfl, rfl, rfl, rfl, rfl, rfl, rfl, rfl, rfl, rfl, rfl, rfl, rfl, rfl, rfl, rfl, rfl, rfl, rfl, rfl, rfl, rfl, rfl, rfl, rfl, rfl, rfl, rfl, rfl, rfl, rfl, rfl, rfl, rfl, rfl, rfl, rfl, rfl, rfl, rfl, rfl⟩
@[simp] theorem State.updPwr_reg (s : State) (f : PwrH → PwrH) (ga : Nat) : (s.updPwr f).reg ga = s.reg ga := rfl
@[simp] theorem State.updPwr_rd (s : State) (f : PwrH → PwrH) (g : RF) (gi gj : Nat) :
    (s.updPwr f).rd g gi gj = s.rd g gi gj ∧ (s.updPwr f).rdS g gi gj = s.rdS g gi gj ∧ (s.updPwr f).flag g gi gj = s.flag g gi gj := ⟨rfl, rfl, rfl⟩
@[simp] theorem State.updPwr_rdBit (s : State) (f : PwrH → PwrH) (g : RF) (gb gi gj : Nat) : (s.updPwr f).rdBit g gb gi gj = s.rdBit g gb gi gj := rfl
@[simp] theorem State.updPwr_byte (s : State) (f : PwrH → PwrH) (ga : Nat) : (s.updPwr f).byte ga = s.byte ga := rfl

@[simp] theorem State.porClock_keeps (s : State) :
    s.porClock.dtime = s.dtime ∧ s.porClock.regs = s.regs ∧ s.porClock.mem = s.mem ∧ s.porClock.flips = s.flips ∧ s.porClock.scrub = s.scrub ∧
    s.porClock.vios = s.vios ∧ s.porClock.resp = s.resp ∧ s.porClock.latches = s.latches ∧ s.porClock.glatches = s.glatches ∧
    s.porClock.heldLo = s.heldLo ∧ s.porClock.justSet = s.justSet ∧ s.porClock.posted = s.posted ∧ s.porClock.debugOverride = s.debugOverride ∧
    s.porClock.irqLines = s.irqLines ∧ s.porClock.recd = s.recd ∧ s.porClock.freeCtr = s.freeCtr ∧ s.porClock.tbs = s.tbs ∧ s.porClock.slots = s.slots ∧
    s.porClock.tachs = s.tachs ∧ s.porClock.ssiEnd = s.ssiEnd ∧ s.porClock.timeH = s.timeH ∧ s.porClock.obss = s.obss ∧ s.porClock.nets = s.nets ∧
    s.porClock.lanes = s.lanes ∧ s.porClock.jobs = s.jobs ∧ s.porClock.pjobs = s.pjobs ∧ s.porClock.obsLoad = s.obsLoad ∧
    s.porClock.obsRemove = s.obsRemove ∧ s.porClock.pvSettle = s.pvSettle ∧ s.porClock.pwms = s.pwms ∧ s.porClock.pxbs = s.pxbs ∧
    s.porClock.focs = s.focs ∧ s.porClock.cmts = s.cmts ∧ s.porClock.pvs = s.pvs ∧ s.porClock.chans = s.chans ∧ s.porClock.mons = s.mons ∧
    s.porClock.hks = s.hks ∧ s.porClock.vibs = s.vibs ∧ s.porClock.cal = s.cal ∧ s.porClock.segs = s.segs ∧ s.porClock.ctxs = s.ctxs ∧
    s.porClock.engs = s.engs ∧ s.porClock.qRetired = s.qRetired ∧ s.porClock.utilRef = s.utilRef ∧ s.porClock.babIns = s.babIns ∧
    s.porClock.babCloses = s.babCloses ∧ s.porClock.babCosts = s.babCosts ∧ s.porClock.babCtxs = s.babCtxs ∧ s.porClock.safAxs = s.safAxs ∧
    s.porClock.safIns = s.safIns ∧ s.porClock.tests = s.tests ∧ s.porClock.saf = s.saf ∧ s.porClock.age = s.age ∧ s.porClock.fuses = s.fuses ∧
    s.porClock.steer = s.steer ∧ s.porClock.bist = s.bist ∧ s.porClock.sup = s.sup ∧ s.porClock.mbs = s.mbs ∧ s.porClock.sec = s.sec ∧
    s.porClock.lnks = s.lnks ∧ s.porClock.ext = s.ext ∧ s.porClock.pending = s.pending :=
  ⟨rfl, rfl, rfl, rfl, rfl, rfl, rfl, rfl, rfl, rfl, rfl, rfl, rfl, rfl, rfl, rfl, rfl, rfl, rfl, rfl, rfl, rfl, rfl, rfl, rfl, rfl, rfl, rfl, rfl, rfl, rfl, rfl, rfl, rfl, rfl, rfl, rfl, rfl, rfl, rfl, rfl, rfl, rfl, rfl, rfl, rfl, rfl, rfl, rfl, rfl, rfl, rfl, rfl, rfl, rfl, rfl, rfl, rfl, rfl, rfl, rfl, rfl⟩
@[simp] theorem State.porClock_reg (s : State) (ga : Nat) : s.porClock.reg ga = s.reg ga := rfl
@[simp] theorem State.porClock_rd (s : State) (g : RF) (gi gj : Nat) :
    s.porClock.rd g gi gj = s.rd g gi gj ∧ s.porClock.rdS g gi gj = s.rdS g gi gj ∧ s.porClock.flag g gi gj = s.flag g gi gj := ⟨rfl, rfl, rfl⟩
@[simp] theorem State.porClock_rdBit (s : State) (g : RF) (gb gi gj : Nat) : s.porClock.rdBit g gb gi gj = s.rdBit g gb gi gj := rfl
@[simp] theorem State.porClock_byte (s : State) (ga : Nat) : s.porClock.byte ga = s.byte ga := rfl

@[simp] theorem State.updPv_keeps (s : State) (n j : Nat) (f : PvH → PvH) :
    (s.updPv n j f).dtime = s.dtime ∧ (s.updPv n j f).regs = s.regs ∧ (s.updPv n j f).mem = s.mem ∧ (s.updPv n j f).flips = s.flips ∧
    (s.updPv n j f).scrub = s.scrub ∧ (s.updPv n j f).vios = s.vios ∧ (s.updPv n j f).resp = s.resp ∧ (s.updPv n j f).latches = s.latches ∧
    (s.updPv n j f).glatches = s.glatches ∧ (s.updPv n j f).heldLo = s.heldLo ∧ (s.updPv n j f).justSet = s.justSet ∧ (s.updPv n j f).posted = s.posted ∧
    (s.updPv n j f).debugOverride = s.debugOverride ∧ (s.updPv n j f).irqLines = s.irqLines ∧ (s.updPv n j f).recd = s.recd ∧
    (s.updPv n j f).freeCtr = s.freeCtr ∧ (s.updPv n j f).tbs = s.tbs ∧ (s.updPv n j f).slots = s.slots ∧ (s.updPv n j f).tachs = s.tachs ∧
    (s.updPv n j f).ssiEnd = s.ssiEnd ∧ (s.updPv n j f).timeH = s.timeH ∧ (s.updPv n j f).obss = s.obss ∧ (s.updPv n j f).nets = s.nets ∧
    (s.updPv n j f).lanes = s.lanes ∧ (s.updPv n j f).jobs = s.jobs ∧ (s.updPv n j f).pjobs = s.pjobs ∧ (s.updPv n j f).obsLoad = s.obsLoad ∧
    (s.updPv n j f).obsRemove = s.obsRemove ∧ (s.updPv n j f).pvSettle = s.pvSettle ∧ (s.updPv n j f).pwms = s.pwms ∧ (s.updPv n j f).pxbs = s.pxbs ∧
    (s.updPv n j f).focs = s.focs ∧ (s.updPv n j f).cmts = s.cmts ∧ (s.updPv n j f).chans = s.chans ∧ (s.updPv n j f).mons = s.mons ∧
    (s.updPv n j f).hks = s.hks ∧ (s.updPv n j f).vibs = s.vibs ∧ (s.updPv n j f).cal = s.cal ∧ (s.updPv n j f).segs = s.segs ∧
    (s.updPv n j f).ctxs = s.ctxs ∧ (s.updPv n j f).engs = s.engs ∧ (s.updPv n j f).qRetired = s.qRetired ∧ (s.updPv n j f).utilRef = s.utilRef ∧
    (s.updPv n j f).babIns = s.babIns ∧ (s.updPv n j f).babCloses = s.babCloses ∧ (s.updPv n j f).babCosts = s.babCosts ∧
    (s.updPv n j f).babCtxs = s.babCtxs ∧ (s.updPv n j f).safAxs = s.safAxs ∧ (s.updPv n j f).safIns = s.safIns ∧ (s.updPv n j f).tests = s.tests ∧
    (s.updPv n j f).saf = s.saf ∧ (s.updPv n j f).age = s.age ∧ (s.updPv n j f).fuses = s.fuses ∧ (s.updPv n j f).steer = s.steer ∧
    (s.updPv n j f).bist = s.bist ∧ (s.updPv n j f).sup = s.sup ∧ (s.updPv n j f).mbs = s.mbs ∧ (s.updPv n j f).sec = s.sec ∧
    (s.updPv n j f).pwr = s.pwr ∧ (s.updPv n j f).lnks = s.lnks ∧ (s.updPv n j f).ext = s.ext ∧ (s.updPv n j f).pending = s.pending :=
  ⟨rfl, rfl, rfl, rfl, rfl, rfl, rfl, rfl, rfl, rfl, rfl, rfl, rfl, rfl, rfl, rfl, rfl, rfl, rfl, rfl, rfl, rfl, rfl, rfl, rfl, rfl, rfl, rfl, rfl, rfl, rfl, rfl, rfl, rfl, rfl, rfl, rfl, rfl, rfl, rfl, rfl, rfl, rfl, rfl, rfl, rfl, rfl, rfl, rfl, rfl, rfl, rfl, rfl, rfl, rfl, rfl, rfl, rfl, rfl, rfl, rfl, rfl⟩
@[simp] theorem State.updPv_reg (s : State) (n j : Nat) (f : PvH → PvH) (ga : Nat) : (s.updPv n j f).reg ga = s.reg ga := rfl
@[simp] theorem State.updPv_rd (s : State) (n j : Nat) (f : PvH → PvH) (g : RF) (gi gj : Nat) :
    (s.updPv n j f).rd g gi gj = s.rd g gi gj ∧ (s.updPv n j f).rdS g gi gj = s.rdS g gi gj ∧ (s.updPv n j f).flag g gi gj = s.flag g gi gj := ⟨rfl, rfl, rfl⟩
@[simp] theorem State.updPv_rdBit (s : State) (n j : Nat) (f : PvH → PvH) (g : RF) (gb gi gj : Nat) : (s.updPv n j f).rdBit g gb gi gj = s.rdBit g gb gi gj := rfl
@[simp] theorem State.updPv_byte (s : State) (n j : Nat) (f : PvH → PvH) (ga : Nat) : (s.updPv n j f).byte ga = s.byte ga := rfl

@[simp] theorem State.updLnk_keeps (s : State) (p : Nat) (f : LnkH → LnkH) :
    (s.updLnk p f).dtime = s.dtime ∧ (s.updLnk p f).regs = s.regs ∧ (s.updLnk p f).mem = s.mem ∧ (s.updLnk p f).flips = s.flips ∧
    (s.updLnk p f).scrub = s.scrub ∧ (s.updLnk p f).vios = s.vios ∧ (s.updLnk p f).resp = s.resp ∧ (s.updLnk p f).latches = s.latches ∧
    (s.updLnk p f).glatches = s.glatches ∧ (s.updLnk p f).heldLo = s.heldLo ∧ (s.updLnk p f).justSet = s.justSet ∧ (s.updLnk p f).posted = s.posted ∧
    (s.updLnk p f).debugOverride = s.debugOverride ∧ (s.updLnk p f).irqLines = s.irqLines ∧ (s.updLnk p f).recd = s.recd ∧
    (s.updLnk p f).freeCtr = s.freeCtr ∧ (s.updLnk p f).tbs = s.tbs ∧ (s.updLnk p f).slots = s.slots ∧ (s.updLnk p f).tachs = s.tachs ∧
    (s.updLnk p f).ssiEnd = s.ssiEnd ∧ (s.updLnk p f).timeH = s.timeH ∧ (s.updLnk p f).obss = s.obss ∧ (s.updLnk p f).nets = s.nets ∧
    (s.updLnk p f).lanes = s.lanes ∧ (s.updLnk p f).jobs = s.jobs ∧ (s.updLnk p f).pjobs = s.pjobs ∧ (s.updLnk p f).obsLoad = s.obsLoad ∧
    (s.updLnk p f).obsRemove = s.obsRemove ∧ (s.updLnk p f).pvSettle = s.pvSettle ∧ (s.updLnk p f).pwms = s.pwms ∧ (s.updLnk p f).pxbs = s.pxbs ∧
    (s.updLnk p f).focs = s.focs ∧ (s.updLnk p f).cmts = s.cmts ∧ (s.updLnk p f).pvs = s.pvs ∧ (s.updLnk p f).chans = s.chans ∧
    (s.updLnk p f).mons = s.mons ∧ (s.updLnk p f).hks = s.hks ∧ (s.updLnk p f).vibs = s.vibs ∧ (s.updLnk p f).cal = s.cal ∧
    (s.updLnk p f).segs = s.segs ∧ (s.updLnk p f).ctxs = s.ctxs ∧ (s.updLnk p f).engs = s.engs ∧ (s.updLnk p f).qRetired = s.qRetired ∧
    (s.updLnk p f).utilRef = s.utilRef ∧ (s.updLnk p f).babIns = s.babIns ∧ (s.updLnk p f).babCloses = s.babCloses ∧
    (s.updLnk p f).babCosts = s.babCosts ∧ (s.updLnk p f).babCtxs = s.babCtxs ∧ (s.updLnk p f).safAxs = s.safAxs ∧ (s.updLnk p f).safIns = s.safIns ∧
    (s.updLnk p f).tests = s.tests ∧ (s.updLnk p f).saf = s.saf ∧ (s.updLnk p f).age = s.age ∧ (s.updLnk p f).fuses = s.fuses ∧
    (s.updLnk p f).steer = s.steer ∧ (s.updLnk p f).bist = s.bist ∧ (s.updLnk p f).sup = s.sup ∧ (s.updLnk p f).mbs = s.mbs ∧
    (s.updLnk p f).sec = s.sec ∧ (s.updLnk p f).pwr = s.pwr ∧ (s.updLnk p f).ext = s.ext ∧ (s.updLnk p f).pending = s.pending :=
  ⟨rfl, rfl, rfl, rfl, rfl, rfl, rfl, rfl, rfl, rfl, rfl, rfl, rfl, rfl, rfl, rfl, rfl, rfl, rfl, rfl, rfl, rfl, rfl, rfl, rfl, rfl, rfl, rfl, rfl, rfl, rfl, rfl, rfl, rfl, rfl, rfl, rfl, rfl, rfl, rfl, rfl, rfl, rfl, rfl, rfl, rfl, rfl, rfl, rfl, rfl, rfl, rfl, rfl, rfl, rfl, rfl, rfl, rfl, rfl, rfl, rfl, rfl⟩
@[simp] theorem State.updLnk_reg (s : State) (p : Nat) (f : LnkH → LnkH) (ga : Nat) : (s.updLnk p f).reg ga = s.reg ga := rfl
@[simp] theorem State.updLnk_rd (s : State) (p : Nat) (f : LnkH → LnkH) (g : RF) (gi gj : Nat) :
    (s.updLnk p f).rd g gi gj = s.rd g gi gj ∧ (s.updLnk p f).rdS g gi gj = s.rdS g gi gj ∧ (s.updLnk p f).flag g gi gj = s.flag g gi gj := ⟨rfl, rfl, rfl⟩
@[simp] theorem State.updLnk_rdBit (s : State) (p : Nat) (f : LnkH → LnkH) (g : RF) (gb gi gj : Nat) : (s.updLnk p f).rdBit g gb gi gj = s.rdBit g gb gi gj := rfl
@[simp] theorem State.updLnk_byte (s : State) (p : Nat) (f : LnkH → LnkH) (ga : Nat) : (s.updLnk p f).byte ga = s.byte ga := rfl
theorem State.updLnk_same (s : State) (p : Nat) (f : LnkH → LnkH) : (s.updLnk p f).lnk p = f (s.lnk p) := Tab.get_put_self _ _ _ _
theorem State.updLnk_other (s : State) (p : Nat) (f : LnkH → LnkH) {x : Nat} (h : x ≠ p) : (s.updLnk p f).lnk x = s.lnk x := Tab.get_put_ne _ _ _ _ h

@[simp] theorem State.updSlot_keeps (s : State) (k : Nat) (f : SlotH → SlotH) :
    (s.updSlot k f).dtime = s.dtime ∧ (s.updSlot k f).regs = s.regs ∧ (s.updSlot k f).mem = s.mem ∧ (s.updSlot k f).flips = s.flips ∧
    (s.updSlot k f).scrub = s.scrub ∧ (s.updSlot k f).vios = s.vios ∧ (s.updSlot k f).resp = s.resp ∧ (s.updSlot k f).latches = s.latches ∧
    (s.updSlot k f).glatches = s.glatches ∧ (s.updSlot k f).heldLo = s.heldLo ∧ (s.updSlot k f).justSet = s.justSet ∧ (s.updSlot k f).posted = s.posted ∧
    (s.updSlot k f).debugOverride = s.debugOverride ∧ (s.updSlot k f).irqLines = s.irqLines ∧ (s.updSlot k f).recd = s.recd ∧
    (s.updSlot k f).freeCtr = s.freeCtr ∧ (s.updSlot k f).tbs = s.tbs ∧ (s.updSlot k f).tachs = s.tachs ∧ (s.updSlot k f).ssiEnd = s.ssiEnd ∧
    (s.updSlot k f).timeH = s.timeH ∧ (s.updSlot k f).obss = s.obss ∧ (s.updSlot k f).nets = s.nets ∧ (s.updSlot k f).lanes = s.lanes ∧
    (s.updSlot k f).jobs = s.jobs ∧ (s.updSlot k f).pjobs = s.pjobs ∧ (s.updSlot k f).obsLoad = s.obsLoad ∧ (s.updSlot k f).obsRemove = s.obsRemove ∧
    (s.updSlot k f).pvSettle = s.pvSettle ∧ (s.updSlot k f).pwms = s.pwms ∧ (s.updSlot k f).pxbs = s.pxbs ∧ (s.updSlot k f).focs = s.focs ∧
    (s.updSlot k f).cmts = s.cmts ∧ (s.updSlot k f).pvs = s.pvs ∧ (s.updSlot k f).chans = s.chans ∧ (s.updSlot k f).mons = s.mons ∧
    (s.updSlot k f).hks = s.hks ∧ (s.updSlot k f).vibs = s.vibs ∧ (s.updSlot k f).cal = s.cal ∧ (s.updSlot k f).segs = s.segs ∧
    (s.updSlot k f).ctxs = s.ctxs ∧ (s.updSlot k f).engs = s.engs ∧ (s.updSlot k f).qRetired = s.qRetired ∧ (s.updSlot k f).utilRef = s.utilRef ∧
    (s.updSlot k f).babIns = s.babIns ∧ (s.updSlot k f).babCloses = s.babCloses ∧ (s.updSlot k f).babCosts = s.babCosts ∧
    (s.updSlot k f).babCtxs = s.babCtxs ∧ (s.updSlot k f).safAxs = s.safAxs ∧ (s.updSlot k f).safIns = s.safIns ∧ (s.updSlot k f).tests = s.tests ∧
    (s.updSlot k f).saf = s.saf ∧ (s.updSlot k f).age = s.age ∧ (s.updSlot k f).fuses = s.fuses ∧ (s.updSlot k f).steer = s.steer ∧
    (s.updSlot k f).bist = s.bist ∧ (s.updSlot k f).sup = s.sup ∧ (s.updSlot k f).mbs = s.mbs ∧ (s.updSlot k f).sec = s.sec ∧
    (s.updSlot k f).pwr = s.pwr ∧ (s.updSlot k f).lnks = s.lnks ∧ (s.updSlot k f).ext = s.ext ∧ (s.updSlot k f).pending = s.pending :=
  ⟨rfl, rfl, rfl, rfl, rfl, rfl, rfl, rfl, rfl, rfl, rfl, rfl, rfl, rfl, rfl, rfl, rfl, rfl, rfl, rfl, rfl, rfl, rfl, rfl, rfl, rfl, rfl, rfl, rfl, rfl, rfl, rfl, rfl, rfl, rfl, rfl, rfl, rfl, rfl, rfl, rfl, rfl, rfl, rfl, rfl, rfl, rfl, rfl, rfl, rfl, rfl, rfl, rfl, rfl, rfl, rfl, rfl, rfl, rfl, rfl, rfl, rfl⟩
@[simp] theorem State.updSlot_reg (s : State) (k : Nat) (f : SlotH → SlotH) (ga : Nat) : (s.updSlot k f).reg ga = s.reg ga := rfl
@[simp] theorem State.updSlot_rd (s : State) (k : Nat) (f : SlotH → SlotH) (g : RF) (gi gj : Nat) :
    (s.updSlot k f).rd g gi gj = s.rd g gi gj ∧ (s.updSlot k f).rdS g gi gj = s.rdS g gi gj ∧ (s.updSlot k f).flag g gi gj = s.flag g gi gj := ⟨rfl, rfl, rfl⟩
@[simp] theorem State.updSlot_rdBit (s : State) (k : Nat) (f : SlotH → SlotH) (g : RF) (gb gi gj : Nat) : (s.updSlot k f).rdBit g gb gi gj = s.rdBit g gb gi gj := rfl
@[simp] theorem State.updSlot_byte (s : State) (k : Nat) (f : SlotH → SlotH) (ga : Nat) : (s.updSlot k f).byte ga = s.byte ga := rfl
theorem State.updSlot_same (s : State) (k : Nat) (f : SlotH → SlotH) : (s.updSlot k f).slot k = f (s.slot k) := Tab.get_put_self _ _ _ _
theorem State.updSlot_other (s : State) (k : Nat) (f : SlotH → SlotH) {x : Nat} (h : x ≠ k) : (s.updSlot k f).slot x = s.slot x := Tab.get_put_ne _ _ _ _ h

@[simp] theorem State.updCx_keeps (s : State) (c : Nat) (f : CtxH → CtxH) :
    (s.updCx c f).dtime = s.dtime ∧ (s.updCx c f).regs = s.regs ∧ (s.updCx c f).mem = s.mem ∧ (s.updCx c f).flips = s.flips ∧
    (s.updCx c f).scrub = s.scrub ∧ (s.updCx c f).vios = s.vios ∧ (s.updCx c f).resp = s.resp ∧ (s.updCx c f).latches = s.latches ∧
    (s.updCx c f).glatches = s.glatches ∧ (s.updCx c f).heldLo = s.heldLo ∧ (s.updCx c f).justSet = s.justSet ∧ (s.updCx c f).posted = s.posted ∧
    (s.updCx c f).debugOverride = s.debugOverride ∧ (s.updCx c f).irqLines = s.irqLines ∧ (s.updCx c f).recd = s.recd ∧
    (s.updCx c f).freeCtr = s.freeCtr ∧ (s.updCx c f).tbs = s.tbs ∧ (s.updCx c f).slots = s.slots ∧ (s.updCx c f).tachs = s.tachs ∧
    (s.updCx c f).ssiEnd = s.ssiEnd ∧ (s.updCx c f).timeH = s.timeH ∧ (s.updCx c f).obss = s.obss ∧ (s.updCx c f).nets = s.nets ∧
    (s.updCx c f).lanes = s.lanes ∧ (s.updCx c f).jobs = s.jobs ∧ (s.updCx c f).pjobs = s.pjobs ∧ (s.updCx c f).obsLoad = s.obsLoad ∧
    (s.updCx c f).obsRemove = s.obsRemove ∧ (s.updCx c f).pvSettle = s.pvSettle ∧ (s.updCx c f).pwms = s.pwms ∧ (s.updCx c f).pxbs = s.pxbs ∧
    (s.updCx c f).focs = s.focs ∧ (s.updCx c f).cmts = s.cmts ∧ (s.updCx c f).pvs = s.pvs ∧ (s.updCx c f).chans = s.chans ∧ (s.updCx c f).mons = s.mons ∧
    (s.updCx c f).hks = s.hks ∧ (s.updCx c f).vibs = s.vibs ∧ (s.updCx c f).cal = s.cal ∧ (s.updCx c f).segs = s.segs ∧ (s.updCx c f).engs = s.engs ∧
    (s.updCx c f).qRetired = s.qRetired ∧ (s.updCx c f).utilRef = s.utilRef ∧ (s.updCx c f).babIns = s.babIns ∧ (s.updCx c f).babCloses = s.babCloses ∧
    (s.updCx c f).babCosts = s.babCosts ∧ (s.updCx c f).babCtxs = s.babCtxs ∧ (s.updCx c f).safAxs = s.safAxs ∧ (s.updCx c f).safIns = s.safIns ∧
    (s.updCx c f).tests = s.tests ∧ (s.updCx c f).saf = s.saf ∧ (s.updCx c f).age = s.age ∧ (s.updCx c f).fuses = s.fuses ∧
    (s.updCx c f).steer = s.steer ∧ (s.updCx c f).bist = s.bist ∧ (s.updCx c f).sup = s.sup ∧ (s.updCx c f).mbs = s.mbs ∧ (s.updCx c f).sec = s.sec ∧
    (s.updCx c f).pwr = s.pwr ∧ (s.updCx c f).lnks = s.lnks ∧ (s.updCx c f).ext = s.ext ∧ (s.updCx c f).pending = s.pending :=
  ⟨rfl, rfl, rfl, rfl, rfl, rfl, rfl, rfl, rfl, rfl, rfl, rfl, rfl, rfl, rfl, rfl, rfl, rfl, rfl, rfl, rfl, rfl, rfl, rfl, rfl, rfl, rfl, rfl, rfl, rfl, rfl, rfl, rfl, rfl, rfl, rfl, rfl, rfl, rfl, rfl, rfl, rfl, rfl, rfl, rfl, rfl, rfl, rfl, rfl, rfl, rfl, rfl, rfl, rfl, rfl, rfl, rfl, rfl, rfl, rfl, rfl, rfl⟩
@[simp] theorem State.updCx_reg (s : State) (c : Nat) (f : CtxH → CtxH) (ga : Nat) : (s.updCx c f).reg ga = s.reg ga := rfl
@[simp] theorem State.updCx_rd (s : State) (c : Nat) (f : CtxH → CtxH) (g : RF) (gi gj : Nat) :
    (s.updCx c f).rd g gi gj = s.rd g gi gj ∧ (s.updCx c f).rdS g gi gj = s.rdS g gi gj ∧ (s.updCx c f).flag g gi gj = s.flag g gi gj := ⟨rfl, rfl, rfl⟩
@[simp] theorem State.updCx_rdBit (s : State) (c : Nat) (f : CtxH → CtxH) (g : RF) (gb gi gj : Nat) : (s.updCx c f).rdBit g gb gi gj = s.rdBit g gb gi gj := rfl
@[simp] theorem State.updCx_byte (s : State) (c : Nat) (f : CtxH → CtxH) (ga : Nat) : (s.updCx c f).byte ga = s.byte ga := rfl
theorem State.updCx_same (s : State) (c : Nat) (f : CtxH → CtxH) : (s.updCx c f).cx c = f (s.cx c) := Tab.get_put_self _ _ _ _
theorem State.updCx_other (s : State) (c : Nat) (f : CtxH → CtxH) {x : Nat} (h : x ≠ c) : (s.updCx c f).cx x = s.cx x := Tab.get_put_ne _ _ _ _ h

@[simp] theorem State.updEn_keeps (s : State) (p : Nat) (f : EngH → EngH) :
    (s.updEn p f).dtime = s.dtime ∧ (s.updEn p f).regs = s.regs ∧ (s.updEn p f).mem = s.mem ∧ (s.updEn p f).flips = s.flips ∧
    (s.updEn p f).scrub = s.scrub ∧ (s.updEn p f).vios = s.vios ∧ (s.updEn p f).resp = s.resp ∧ (s.updEn p f).latches = s.latches ∧
    (s.updEn p f).glatches = s.glatches ∧ (s.updEn p f).heldLo = s.heldLo ∧ (s.updEn p f).justSet = s.justSet ∧ (s.updEn p f).posted = s.posted ∧
    (s.updEn p f).debugOverride = s.debugOverride ∧ (s.updEn p f).irqLines = s.irqLines ∧ (s.updEn p f).recd = s.recd ∧
    (s.updEn p f).freeCtr = s.freeCtr ∧ (s.updEn p f).tbs = s.tbs ∧ (s.updEn p f).slots = s.slots ∧ (s.updEn p f).tachs = s.tachs ∧
    (s.updEn p f).ssiEnd = s.ssiEnd ∧ (s.updEn p f).timeH = s.timeH ∧ (s.updEn p f).obss = s.obss ∧ (s.updEn p f).nets = s.nets ∧
    (s.updEn p f).lanes = s.lanes ∧ (s.updEn p f).jobs = s.jobs ∧ (s.updEn p f).pjobs = s.pjobs ∧ (s.updEn p f).obsLoad = s.obsLoad ∧
    (s.updEn p f).obsRemove = s.obsRemove ∧ (s.updEn p f).pvSettle = s.pvSettle ∧ (s.updEn p f).pwms = s.pwms ∧ (s.updEn p f).pxbs = s.pxbs ∧
    (s.updEn p f).focs = s.focs ∧ (s.updEn p f).cmts = s.cmts ∧ (s.updEn p f).pvs = s.pvs ∧ (s.updEn p f).chans = s.chans ∧ (s.updEn p f).mons = s.mons ∧
    (s.updEn p f).hks = s.hks ∧ (s.updEn p f).vibs = s.vibs ∧ (s.updEn p f).cal = s.cal ∧ (s.updEn p f).segs = s.segs ∧ (s.updEn p f).ctxs = s.ctxs ∧
    (s.updEn p f).qRetired = s.qRetired ∧ (s.updEn p f).utilRef = s.utilRef ∧ (s.updEn p f).babIns = s.babIns ∧ (s.updEn p f).babCloses = s.babCloses ∧
    (s.updEn p f).babCosts = s.babCosts ∧ (s.updEn p f).babCtxs = s.babCtxs ∧ (s.updEn p f).safAxs = s.safAxs ∧ (s.updEn p f).safIns = s.safIns ∧
    (s.updEn p f).tests = s.tests ∧ (s.updEn p f).saf = s.saf ∧ (s.updEn p f).age = s.age ∧ (s.updEn p f).fuses = s.fuses ∧
    (s.updEn p f).steer = s.steer ∧ (s.updEn p f).bist = s.bist ∧ (s.updEn p f).sup = s.sup ∧ (s.updEn p f).mbs = s.mbs ∧ (s.updEn p f).sec = s.sec ∧
    (s.updEn p f).pwr = s.pwr ∧ (s.updEn p f).lnks = s.lnks ∧ (s.updEn p f).ext = s.ext ∧ (s.updEn p f).pending = s.pending :=
  ⟨rfl, rfl, rfl, rfl, rfl, rfl, rfl, rfl, rfl, rfl, rfl, rfl, rfl, rfl, rfl, rfl, rfl, rfl, rfl, rfl, rfl, rfl, rfl, rfl, rfl, rfl, rfl, rfl, rfl, rfl, rfl, rfl, rfl, rfl, rfl, rfl, rfl, rfl, rfl, rfl, rfl, rfl, rfl, rfl, rfl, rfl, rfl, rfl, rfl, rfl, rfl, rfl, rfl, rfl, rfl, rfl, rfl, rfl, rfl, rfl, rfl, rfl⟩
@[simp] theorem State.updEn_reg (s : State) (p : Nat) (f : EngH → EngH) (ga : Nat) : (s.updEn p f).reg ga = s.reg ga := rfl
@[simp] theorem State.updEn_rd (s : State) (p : Nat) (f : EngH → EngH) (g : RF) (gi gj : Nat) :
    (s.updEn p f).rd g gi gj = s.rd g gi gj ∧ (s.updEn p f).rdS g gi gj = s.rdS g gi gj ∧ (s.updEn p f).flag g gi gj = s.flag g gi gj := ⟨rfl, rfl, rfl⟩
@[simp] theorem State.updEn_rdBit (s : State) (p : Nat) (f : EngH → EngH) (g : RF) (gb gi gj : Nat) : (s.updEn p f).rdBit g gb gi gj = s.rdBit g gb gi gj := rfl
@[simp] theorem State.updEn_byte (s : State) (p : Nat) (f : EngH → EngH) (ga : Nat) : (s.updEn p f).byte ga = s.byte ga := rfl
theorem State.updEn_same (s : State) (p : Nat) (f : EngH → EngH) : (s.updEn p f).en p = f (s.en p) := Tab.get_put_self _ _ _ _
theorem State.updEn_other (s : State) (p : Nat) (f : EngH → EngH) {x : Nat} (h : x ≠ p) : (s.updEn p f).en x = s.en x := Tab.get_put_ne _ _ _ _ h

@[simp] theorem State.updSec_keeps (s : State) (f : SecH → SecH) :
    (s.updSec f).dtime = s.dtime ∧ (s.updSec f).regs = s.regs ∧ (s.updSec f).mem = s.mem ∧ (s.updSec f).flips = s.flips ∧ (s.updSec f).scrub = s.scrub ∧
    (s.updSec f).vios = s.vios ∧ (s.updSec f).resp = s.resp ∧ (s.updSec f).latches = s.latches ∧ (s.updSec f).glatches = s.glatches ∧
    (s.updSec f).heldLo = s.heldLo ∧ (s.updSec f).justSet = s.justSet ∧ (s.updSec f).posted = s.posted ∧ (s.updSec f).debugOverride = s.debugOverride ∧
    (s.updSec f).irqLines = s.irqLines ∧ (s.updSec f).recd = s.recd ∧ (s.updSec f).freeCtr = s.freeCtr ∧ (s.updSec f).tbs = s.tbs ∧
    (s.updSec f).slots = s.slots ∧ (s.updSec f).tachs = s.tachs ∧ (s.updSec f).ssiEnd = s.ssiEnd ∧ (s.updSec f).timeH = s.timeH ∧
    (s.updSec f).obss = s.obss ∧ (s.updSec f).nets = s.nets ∧ (s.updSec f).lanes = s.lanes ∧ (s.updSec f).jobs = s.jobs ∧ (s.updSec f).pjobs = s.pjobs ∧
    (s.updSec f).obsLoad = s.obsLoad ∧ (s.updSec f).obsRemove = s.obsRemove ∧ (s.updSec f).pvSettle = s.pvSettle ∧ (s.updSec f).pwms = s.pwms ∧
    (s.updSec f).pxbs = s.pxbs ∧ (s.updSec f).focs = s.focs ∧ (s.updSec f).cmts = s.cmts ∧ (s.updSec f).pvs = s.pvs ∧ (s.updSec f).chans = s.chans ∧
    (s.updSec f).mons = s.mons ∧ (s.updSec f).hks = s.hks ∧ (s.updSec f).vibs = s.vibs ∧ (s.updSec f).cal = s.cal ∧ (s.updSec f).segs = s.segs ∧
    (s.updSec f).ctxs = s.ctxs ∧ (s.updSec f).engs = s.engs ∧ (s.updSec f).qRetired = s.qRetired ∧ (s.updSec f).utilRef = s.utilRef ∧
    (s.updSec f).babIns = s.babIns ∧ (s.updSec f).babCloses = s.babCloses ∧ (s.updSec f).babCosts = s.babCosts ∧ (s.updSec f).babCtxs = s.babCtxs ∧
    (s.updSec f).safAxs = s.safAxs ∧ (s.updSec f).safIns = s.safIns ∧ (s.updSec f).tests = s.tests ∧ (s.updSec f).saf = s.saf ∧
    (s.updSec f).age = s.age ∧ (s.updSec f).fuses = s.fuses ∧ (s.updSec f).steer = s.steer ∧ (s.updSec f).bist = s.bist ∧ (s.updSec f).sup = s.sup ∧
    (s.updSec f).mbs = s.mbs ∧ (s.updSec f).pwr = s.pwr ∧ (s.updSec f).lnks = s.lnks ∧ (s.updSec f).ext = s.ext ∧ (s.updSec f).pending = s.pending :=
  ⟨rfl, rfl, rfl, rfl, rfl, rfl, rfl, rfl, rfl, rfl, rfl, rfl, rfl, rfl, rfl, rfl, rfl, rfl, rfl, rfl, rfl, rfl, rfl, rfl, rfl, rfl, rfl, rfl, rfl, rfl, rfl, rfl, rfl, rfl, rfl, rfl, rfl, rfl, rfl, rfl, rfl, rfl, rfl, rfl, rfl, rfl, rfl, rfl, rfl, rfl, rfl, rfl, rfl, rfl, rfl, rfl, rfl, rfl, rfl, rfl, rfl, rfl⟩
@[simp] theorem State.updSec_reg (s : State) (f : SecH → SecH) (ga : Nat) : (s.updSec f).reg ga = s.reg ga := rfl
@[simp] theorem State.updSec_rd (s : State) (f : SecH → SecH) (g : RF) (gi gj : Nat) :
    (s.updSec f).rd g gi gj = s.rd g gi gj ∧ (s.updSec f).rdS g gi gj = s.rdS g gi gj ∧ (s.updSec f).flag g gi gj = s.flag g gi gj := ⟨rfl, rfl, rfl⟩
@[simp] theorem State.updSec_rdBit (s : State) (f : SecH → SecH) (g : RF) (gb gi gj : Nat) : (s.updSec f).rdBit g gb gi gj = s.rdBit g gb gi gj := rfl
@[simp] theorem State.updSec_byte (s : State) (f : SecH → SecH) (ga : Nat) : (s.updSec f).byte ga = s.byte ga := rfl

@[simp] theorem State.updMon_keeps (s : State) (k : Nat) (f : MonH → MonH) :
    (s.updMon k f).dtime = s.dtime ∧ (s.updMon k f).regs = s.regs ∧ (s.updMon k f).mem = s.mem ∧ (s.updMon k f).flips = s.flips ∧
    (s.updMon k f).scrub = s.scrub ∧ (s.updMon k f).vios = s.vios ∧ (s.updMon k f).resp = s.resp ∧ (s.updMon k f).latches = s.latches ∧
    (s.updMon k f).glatches = s.glatches ∧ (s.updMon k f).heldLo = s.heldLo ∧ (s.updMon k f).justSet = s.justSet ∧ (s.updMon k f).posted = s.posted ∧
    (s.updMon k f).debugOverride = s.debugOverride ∧ (s.updMon k f).irqLines = s.irqLines ∧ (s.updMon k f).recd = s.recd ∧
    (s.updMon k f).freeCtr = s.freeCtr ∧ (s.updMon k f).tbs = s.tbs ∧ (s.updMon k f).slots = s.slots ∧ (s.updMon k f).tachs = s.tachs ∧
    (s.updMon k f).ssiEnd = s.ssiEnd ∧ (s.updMon k f).timeH = s.timeH ∧ (s.updMon k f).obss = s.obss ∧ (s.updMon k f).nets = s.nets ∧
    (s.updMon k f).lanes = s.lanes ∧ (s.updMon k f).jobs = s.jobs ∧ (s.updMon k f).pjobs = s.pjobs ∧ (s.updMon k f).obsLoad = s.obsLoad ∧
    (s.updMon k f).obsRemove = s.obsRemove ∧ (s.updMon k f).pvSettle = s.pvSettle ∧ (s.updMon k f).pwms = s.pwms ∧ (s.updMon k f).pxbs = s.pxbs ∧
    (s.updMon k f).focs = s.focs ∧ (s.updMon k f).cmts = s.cmts ∧ (s.updMon k f).pvs = s.pvs ∧ (s.updMon k f).chans = s.chans ∧
    (s.updMon k f).hks = s.hks ∧ (s.updMon k f).vibs = s.vibs ∧ (s.updMon k f).cal = s.cal ∧ (s.updMon k f).segs = s.segs ∧
    (s.updMon k f).ctxs = s.ctxs ∧ (s.updMon k f).engs = s.engs ∧ (s.updMon k f).qRetired = s.qRetired ∧ (s.updMon k f).utilRef = s.utilRef ∧
    (s.updMon k f).babIns = s.babIns ∧ (s.updMon k f).babCloses = s.babCloses ∧ (s.updMon k f).babCosts = s.babCosts ∧
    (s.updMon k f).babCtxs = s.babCtxs ∧ (s.updMon k f).safAxs = s.safAxs ∧ (s.updMon k f).safIns = s.safIns ∧ (s.updMon k f).tests = s.tests ∧
    (s.updMon k f).saf = s.saf ∧ (s.updMon k f).age = s.age ∧ (s.updMon k f).fuses = s.fuses ∧ (s.updMon k f).steer = s.steer ∧
    (s.updMon k f).bist = s.bist ∧ (s.updMon k f).sup = s.sup ∧ (s.updMon k f).mbs = s.mbs ∧ (s.updMon k f).sec = s.sec ∧ (s.updMon k f).pwr = s.pwr ∧
    (s.updMon k f).lnks = s.lnks ∧ (s.updMon k f).ext = s.ext ∧ (s.updMon k f).pending = s.pending :=
  ⟨rfl, rfl, rfl, rfl, rfl, rfl, rfl, rfl, rfl, rfl, rfl, rfl, rfl, rfl, rfl, rfl, rfl, rfl, rfl, rfl, rfl, rfl, rfl, rfl, rfl, rfl, rfl, rfl, rfl, rfl, rfl, rfl, rfl, rfl, rfl, rfl, rfl, rfl, rfl, rfl, rfl, rfl, rfl, rfl, rfl, rfl, rfl, rfl, rfl, rfl, rfl, rfl, rfl, rfl, rfl, rfl, rfl, rfl, rfl, rfl, rfl, rfl⟩
@[simp] theorem State.updMon_reg (s : State) (k : Nat) (f : MonH → MonH) (ga : Nat) : (s.updMon k f).reg ga = s.reg ga := rfl
@[simp] theorem State.updMon_rd (s : State) (k : Nat) (f : MonH → MonH) (g : RF) (gi gj : Nat) :
    (s.updMon k f).rd g gi gj = s.rd g gi gj ∧ (s.updMon k f).rdS g gi gj = s.rdS g gi gj ∧ (s.updMon k f).flag g gi gj = s.flag g gi gj := ⟨rfl, rfl, rfl⟩
@[simp] theorem State.updMon_rdBit (s : State) (k : Nat) (f : MonH → MonH) (g : RF) (gb gi gj : Nat) : (s.updMon k f).rdBit g gb gi gj = s.rdBit g gb gi gj := rfl
@[simp] theorem State.updMon_byte (s : State) (k : Nat) (f : MonH → MonH) (ga : Nat) : (s.updMon k f).byte ga = s.byte ga := rfl

@[simp] theorem State.setReg_keeps (s : State) (a : Nat) (v : Word) :
    (s.setReg a v).dtime = s.dtime ∧ (s.setReg a v).mem = s.mem ∧ (s.setReg a v).flips = s.flips ∧ (s.setReg a v).scrub = s.scrub ∧
    (s.setReg a v).vios = s.vios ∧ (s.setReg a v).resp = s.resp ∧ (s.setReg a v).latches = s.latches ∧ (s.setReg a v).glatches = s.glatches ∧
    (s.setReg a v).heldLo = s.heldLo ∧ (s.setReg a v).justSet = s.justSet ∧ (s.setReg a v).posted = s.posted ∧
    (s.setReg a v).debugOverride = s.debugOverride ∧ (s.setReg a v).irqLines = s.irqLines ∧ (s.setReg a v).recd = s.recd ∧
    (s.setReg a v).freeCtr = s.freeCtr ∧ (s.setReg a v).tbs = s.tbs ∧ (s.setReg a v).slots = s.slots ∧ (s.setReg a v).tachs = s.tachs ∧
    (s.setReg a v).ssiEnd = s.ssiEnd ∧ (s.setReg a v).timeH = s.timeH ∧ (s.setReg a v).obss = s.obss ∧ (s.setReg a v).nets = s.nets ∧
    (s.setReg a v).lanes = s.lanes ∧ (s.setReg a v).jobs = s.jobs ∧ (s.setReg a v).pjobs = s.pjobs ∧ (s.setReg a v).obsLoad = s.obsLoad ∧
    (s.setReg a v).obsRemove = s.obsRemove ∧ (s.setReg a v).pvSettle = s.pvSettle ∧ (s.setReg a v).pwms = s.pwms ∧ (s.setReg a v).pxbs = s.pxbs ∧
    (s.setReg a v).focs = s.focs ∧ (s.setReg a v).cmts = s.cmts ∧ (s.setReg a v).pvs = s.pvs ∧ (s.setReg a v).chans = s.chans ∧
    (s.setReg a v).mons = s.mons ∧ (s.setReg a v).hks = s.hks ∧ (s.setReg a v).vibs = s.vibs ∧ (s.setReg a v).cal = s.cal ∧
    (s.setReg a v).segs = s.segs ∧ (s.setReg a v).ctxs = s.ctxs ∧ (s.setReg a v).engs = s.engs ∧ (s.setReg a v).qRetired = s.qRetired ∧
    (s.setReg a v).utilRef = s.utilRef ∧ (s.setReg a v).babIns = s.babIns ∧ (s.setReg a v).babCloses = s.babCloses ∧
    (s.setReg a v).babCosts = s.babCosts ∧ (s.setReg a v).babCtxs = s.babCtxs ∧ (s.setReg a v).safAxs = s.safAxs ∧ (s.setReg a v).safIns = s.safIns ∧
    (s.setReg a v).tests = s.tests ∧ (s.setReg a v).saf = s.saf ∧ (s.setReg a v).age = s.age ∧ (s.setReg a v).fuses = s.fuses ∧
    (s.setReg a v).steer = s.steer ∧ (s.setReg a v).bist = s.bist ∧ (s.setReg a v).sup = s.sup ∧ (s.setReg a v).mbs = s.mbs ∧
    (s.setReg a v).sec = s.sec ∧ (s.setReg a v).pwr = s.pwr ∧ (s.setReg a v).lnks = s.lnks ∧ (s.setReg a v).ext = s.ext ∧
    (s.setReg a v).pending = s.pending :=
  ⟨rfl, rfl, rfl, rfl, rfl, rfl, rfl, rfl, rfl, rfl, rfl, rfl, rfl, rfl, rfl, rfl, rfl, rfl, rfl, rfl, rfl, rfl, rfl, rfl, rfl, rfl, rfl, rfl, rfl, rfl, rfl, rfl, rfl, rfl, rfl, rfl, rfl, rfl, rfl, rfl, rfl, rfl, rfl, rfl, rfl, rfl, rfl, rfl, rfl, rfl, rfl, rfl, rfl, rfl, rfl, rfl, rfl, rfl, rfl, rfl, rfl, rfl⟩
@[simp] theorem State.setReg_byte (s : State) (a : Nat) (v : Word) (ga : Nat) : (s.setReg a v).byte ga = s.byte ga := rfl

@[simp] theorem State.setByte_keeps (s : State) (a : Nat) (b : Byte) :
    (s.setByte a b).dtime = s.dtime ∧ (s.setByte a b).regs = s.regs ∧ (s.setByte a b).flips = s.flips ∧ (s.setByte a b).scrub = s.scrub ∧
    (s.setByte a b).vios = s.vios ∧ (s.setByte a b).resp = s.resp ∧ (s.setByte a b).latches = s.latches ∧ (s.setByte a b).glatches = s.glatches ∧
    (s.setByte a b).heldLo = s.heldLo ∧ (s.setByte a b).justSet = s.justSet ∧ (s.setByte a b).posted = s.posted ∧
    (s.setByte a b).debugOverride = s.debugOverride ∧ (s.setByte a b).irqLines = s.irqLines ∧ (s.setByte a b).recd = s.recd ∧
    (s.setByte a b).freeCtr = s.freeCtr ∧ (s.setByte a b).tbs = s.tbs ∧ (s.setByte a b).slots = s.slots ∧ (s.setByte a b).tachs = s.tachs ∧
    (s.setByte a b).ssiEnd = s.ssiEnd ∧ (s.setByte a b).timeH = s.timeH ∧ (s.setByte a b).obss = s.obss ∧ (s.setByte a b).nets = s.nets ∧
    (s.setByte a b).lanes = s.lanes ∧ (s.setByte a b).jobs = s.jobs ∧ (s.setByte a b).pjobs = s.pjobs ∧ (s.setByte a b).obsLoad = s.obsLoad ∧
    (s.setByte a b).obsRemove = s.obsRemove ∧ (s.setByte a b).pvSettle = s.pvSettle ∧ (s.setByte a b).pwms = s.pwms ∧ (s.setByte a b).pxbs = s.pxbs ∧
    (s.setByte a b).focs = s.focs ∧ (s.setByte a b).cmts = s.cmts ∧ (s.setByte a b).pvs = s.pvs ∧ (s.setByte a b).chans = s.chans ∧
    (s.setByte a b).mons = s.mons ∧ (s.setByte a b).hks = s.hks ∧ (s.setByte a b).vibs = s.vibs ∧ (s.setByte a b).cal = s.cal ∧
    (s.setByte a b).segs = s.segs ∧ (s.setByte a b).ctxs = s.ctxs ∧ (s.setByte a b).engs = s.engs ∧ (s.setByte a b).qRetired = s.qRetired ∧
    (s.setByte a b).utilRef = s.utilRef ∧ (s.setByte a b).babIns = s.babIns ∧ (s.setByte a b).babCloses = s.babCloses ∧
    (s.setByte a b).babCosts = s.babCosts ∧ (s.setByte a b).babCtxs = s.babCtxs ∧ (s.setByte a b).safAxs = s.safAxs ∧ (s.setByte a b).safIns = s.safIns ∧
    (s.setByte a b).tests = s.tests ∧ (s.setByte a b).saf = s.saf ∧ (s.setByte a b).age = s.age ∧ (s.setByte a b).fuses = s.fuses ∧
    (s.setByte a b).steer = s.steer ∧ (s.setByte a b).bist = s.bist ∧ (s.setByte a b).sup = s.sup ∧ (s.setByte a b).mbs = s.mbs ∧
    (s.setByte a b).sec = s.sec ∧ (s.setByte a b).pwr = s.pwr ∧ (s.setByte a b).lnks = s.lnks ∧ (s.setByte a b).ext = s.ext ∧
    (s.setByte a b).pending = s.pending :=
  ⟨rfl, rfl, rfl, rfl, rfl, rfl, rfl, rfl, rfl, rfl, rfl, rfl, rfl, rfl, rfl, rfl, rfl, rfl, rfl, rfl, rfl, rfl, rfl, rfl, rfl, rfl, rfl, rfl, rfl, rfl, rfl, rfl, rfl, rfl, rfl, rfl, rfl, rfl, rfl, rfl, rfl, rfl, rfl, rfl, rfl, rfl, rfl, rfl, rfl, rfl, rfl, rfl, rfl, rfl, rfl, rfl, rfl, rfl, rfl, rfl, rfl, rfl⟩
@[simp] theorem State.setByte_reg (s : State) (a : Nat) (b : Byte) (ga : Nat) : (s.setByte a b).reg ga = s.reg ga := rfl
@[simp] theorem State.setByte_rd (s : State) (a : Nat) (b : Byte) (g : RF) (gi gj : Nat) :
    (s.setByte a b).rd g gi gj = s.rd g gi gj ∧ (s.setByte a b).rdS g gi gj = s.rdS g gi gj ∧ (s.setByte a b).flag g gi gj = s.flag g gi gj := ⟨rfl, rfl, rfl⟩
@[simp] theorem State.setByte_rdBit (s : State) (a : Nat) (b : Byte) (g : RF) (gb gi gj : Nat) : (s.setByte a b).rdBit g gb gi gj = s.rdBit g gb gi gj := rfl

@[simp] theorem State.eccOver_keeps (s : State) (a n : Nat) :
    (s.eccOver a n).dtime = s.dtime ∧ (s.eccOver a n).regs = s.regs ∧ (s.eccOver a n).mem = s.mem ∧ (s.eccOver a n).scrub = s.scrub ∧
    (s.eccOver a n).vios = s.vios ∧ (s.eccOver a n).resp = s.resp ∧ (s.eccOver a n).latches = s.latches ∧ (s.eccOver a n).glatches = s.glatches ∧
    (s.eccOver a n).heldLo = s.heldLo ∧ (s.eccOver a n).justSet = s.justSet ∧ (s.eccOver a n).posted = s.posted ∧
    (s.eccOver a n).debugOverride = s.debugOverride ∧ (s.eccOver a n).irqLines = s.irqLines ∧ (s.eccOver a n).recd = s.recd ∧
    (s.eccOver a n).freeCtr = s.freeCtr ∧ (s.eccOver a n).tbs = s.tbs ∧ (s.eccOver a n).slots = s.slots ∧ (s.eccOver a n).tachs = s.tachs ∧
    (s.eccOver a n).ssiEnd = s.ssiEnd ∧ (s.eccOver a n).timeH = s.timeH ∧ (s.eccOver a n).obss = s.obss ∧ (s.eccOver a n).nets = s.nets ∧
    (s.eccOver a n).lanes = s.lanes ∧ (s.eccOver a n).jobs = s.jobs ∧ (s.eccOver a n).pjobs = s.pjobs ∧ (s.eccOver a n).obsLoad = s.obsLoad ∧
    (s.eccOver a n).obsRemove = s.obsRemove ∧ (s.eccOver a n).pvSettle = s.pvSettle ∧ (s.eccOver a n).pwms = s.pwms ∧ (s.eccOver a n).pxbs = s.pxbs ∧
    (s.eccOver a n).focs = s.focs ∧ (s.eccOver a n).cmts = s.cmts ∧ (s.eccOver a n).pvs = s.pvs ∧ (s.eccOver a n).chans = s.chans ∧
    (s.eccOver a n).mons = s.mons ∧ (s.eccOver a n).hks = s.hks ∧ (s.eccOver a n).vibs = s.vibs ∧ (s.eccOver a n).cal = s.cal ∧
    (s.eccOver a n).segs = s.segs ∧ (s.eccOver a n).ctxs = s.ctxs ∧ (s.eccOver a n).engs = s.engs ∧ (s.eccOver a n).qRetired = s.qRetired ∧
    (s.eccOver a n).utilRef = s.utilRef ∧ (s.eccOver a n).babIns = s.babIns ∧ (s.eccOver a n).babCloses = s.babCloses ∧
    (s.eccOver a n).babCosts = s.babCosts ∧ (s.eccOver a n).babCtxs = s.babCtxs ∧ (s.eccOver a n).safAxs = s.safAxs ∧ (s.eccOver a n).safIns = s.safIns ∧
    (s.eccOver a n).tests = s.tests ∧ (s.eccOver a n).saf = s.saf ∧ (s.eccOver a n).age = s.age ∧ (s.eccOver a n).fuses = s.fuses ∧
    (s.eccOver a n).steer = s.steer ∧ (s.eccOver a n).bist = s.bist ∧ (s.eccOver a n).sup = s.sup ∧ (s.eccOver a n).mbs = s.mbs ∧
    (s.eccOver a n).sec = s.sec ∧ (s.eccOver a n).pwr = s.pwr ∧ (s.eccOver a n).lnks = s.lnks ∧ (s.eccOver a n).ext = s.ext ∧
    (s.eccOver a n).pending = s.pending :=
  ⟨rfl, rfl, rfl, rfl, rfl, rfl, rfl, rfl, rfl, rfl, rfl, rfl, rfl, rfl, rfl, rfl, rfl, rfl, rfl, rfl, rfl, rfl, rfl, rfl, rfl, rfl, rfl, rfl, rfl, rfl, rfl, rfl, rfl, rfl, rfl, rfl, rfl, rfl, rfl, rfl, rfl, rfl, rfl, rfl, rfl, rfl, rfl, rfl, rfl, rfl, rfl, rfl, rfl, rfl, rfl, rfl, rfl, rfl, rfl, rfl, rfl, rfl⟩
@[simp] theorem State.eccOver_reg (s : State) (a n : Nat) (ga : Nat) : (s.eccOver a n).reg ga = s.reg ga := rfl
@[simp] theorem State.eccOver_rd (s : State) (a n : Nat) (g : RF) (gi gj : Nat) :
    (s.eccOver a n).rd g gi gj = s.rd g gi gj ∧ (s.eccOver a n).rdS g gi gj = s.rdS g gi gj ∧ (s.eccOver a n).flag g gi gj = s.flag g gi gj := ⟨rfl, rfl, rfl⟩
@[simp] theorem State.eccOver_rdBit (s : State) (a n : Nat) (g : RF) (gb gi gj : Nat) : (s.eccOver a n).rdBit g gb gi gj = s.rdBit g gb gi gj := rfl
@[simp] theorem State.eccOver_byte (s : State) (a n : Nat) (ga : Nat) : (s.eccOver a n).byte ga = s.byte ga := rfl

@[simp] theorem State.tick_keeps (s : State) :
    s.tick.regs = s.regs ∧ s.tick.mem = s.mem ∧ s.tick.flips = s.flips ∧ s.tick.scrub = s.scrub ∧ s.tick.vios = s.vios ∧ s.tick.resp = s.resp ∧
    s.tick.latches = s.latches ∧ s.tick.glatches = s.glatches ∧ s.tick.heldLo = s.heldLo ∧ s.tick.posted = s.posted ∧
    s.tick.debugOverride = s.debugOverride ∧ s.tick.irqLines = s.irqLines ∧ s.tick.recd = s.recd ∧ s.tick.freeCtr = s.freeCtr ∧ s.tick.tbs = s.tbs ∧
    s.tick.slots = s.slots ∧ s.tick.tachs = s.tachs ∧ s.tick.ssiEnd = s.ssiEnd ∧ s.tick.timeH = s.timeH ∧ s.tick.obss = s.obss ∧ s.tick.nets = s.nets ∧
    s.tick.lanes = s.lanes ∧ s.tick.jobs = s.jobs ∧ s.tick.pjobs = s.pjobs ∧ s.tick.obsLoad = s.obsLoad ∧ s.tick.obsRemove = s.obsRemove ∧
    s.tick.pvSettle = s.pvSettle ∧ s.tick.pwms = s.pwms ∧ s.tick.pxbs = s.pxbs ∧ s.tick.focs = s.focs ∧ s.tick.cmts = s.cmts ∧ s.tick.pvs = s.pvs ∧
    s.tick.chans = s.chans ∧ s.tick.mons = s.mons ∧ s.tick.hks = s.hks ∧ s.tick.vibs = s.vibs ∧ s.tick.cal = s.cal ∧ s.tick.segs = s.segs ∧
    s.tick.ctxs = s.ctxs ∧ s.tick.engs = s.engs ∧ s.tick.qRetired = s.qRetired ∧ s.tick.utilRef = s.utilRef ∧ s.tick.babIns = s.babIns ∧
    s.tick.babCloses = s.babCloses ∧ s.tick.babCosts = s.babCosts ∧ s.tick.babCtxs = s.babCtxs ∧ s.tick.safAxs = s.safAxs ∧ s.tick.safIns = s.safIns ∧
    s.tick.tests = s.tests ∧ s.tick.saf = s.saf ∧ s.tick.age = s.age ∧ s.tick.fuses = s.fuses ∧ s.tick.steer = s.steer ∧ s.tick.bist = s.bist ∧
    s.tick.sup = s.sup ∧ s.tick.mbs = s.mbs ∧ s.tick.sec = s.sec ∧ s.tick.pwr = s.pwr ∧ s.tick.lnks = s.lnks ∧ s.tick.ext = s.ext ∧
    s.tick.pending = s.pending :=
  ⟨rfl, rfl, rfl, rfl, rfl, rfl, rfl, rfl, rfl, rfl, rfl, rfl, rfl, rfl, rfl, rfl, rfl, rfl, rfl, rfl, rfl, rfl, rfl, rfl, rfl, rfl, rfl, rfl, rfl, rfl, rfl, rfl, rfl, rfl, rfl, rfl, rfl, rfl, rfl, rfl, rfl, rfl, rfl, rfl, rfl, rfl, rfl, rfl, rfl, rfl, rfl, rfl, rfl, rfl, rfl, rfl, rfl, rfl, rfl, rfl, rfl⟩
@[simp] theorem State.tick_reg (s : State) (ga : Nat) : s.tick.reg ga = s.reg ga := rfl
@[simp] theorem State.tick_rd (s : State) (g : RF) (gi gj : Nat) :
    s.tick.rd g gi gj = s.rd g gi gj ∧ s.tick.rdS g gi gj = s.rdS g gi gj ∧ s.tick.flag g gi gj = s.flag g gi gj := ⟨rfl, rfl, rfl⟩
@[simp] theorem State.tick_rdBit (s : State) (g : RF) (gb gi gj : Nat) : s.tick.rdBit g gb gi gj = s.rdBit g gb gi gj := rfl
@[simp] theorem State.tick_byte (s : State) (ga : Nat) : s.tick.byte ga = s.byte ga := rfl

@[simp] theorem State.raiseIrq_keeps (s : State) (l : Nat) :
    (s.raiseIrq l).dtime = s.dtime ∧ (s.raiseIrq l).regs = s.regs ∧ (s.raiseIrq l).mem = s.mem ∧ (s.raiseIrq l).flips = s.flips ∧
    (s.raiseIrq l).scrub = s.scrub ∧ (s.raiseIrq l).vios = s.vios ∧ (s.raiseIrq l).resp = s.resp ∧ (s.raiseIrq l).latches = s.latches ∧
    (s.raiseIrq l).glatches = s.glatches ∧ (s.raiseIrq l).heldLo = s.heldLo ∧ (s.raiseIrq l).justSet = s.justSet ∧ (s.raiseIrq l).posted = s.posted ∧
    (s.raiseIrq l).debugOverride = s.debugOverride ∧ (s.raiseIrq l).recd = s.recd ∧ (s.raiseIrq l).freeCtr = s.freeCtr ∧ (s.raiseIrq l).tbs = s.tbs ∧
    (s.raiseIrq l).slots = s.slots ∧ (s.raiseIrq l).tachs = s.tachs ∧ (s.raiseIrq l).ssiEnd = s.ssiEnd ∧ (s.raiseIrq l).timeH = s.timeH ∧
    (s.raiseIrq l).obss = s.obss ∧ (s.raiseIrq l).nets = s.nets ∧ (s.raiseIrq l).lanes = s.lanes ∧ (s.raiseIrq l).jobs = s.jobs ∧
    (s.raiseIrq l).pjobs = s.pjobs ∧ (s.raiseIrq l).obsLoad = s.obsLoad ∧ (s.raiseIrq l).obsRemove = s.obsRemove ∧ (s.raiseIrq l).pvSettle = s.pvSettle ∧
    (s.raiseIrq l).pwms = s.pwms ∧ (s.raiseIrq l).pxbs = s.pxbs ∧ (s.raiseIrq l).focs = s.focs ∧ (s.raiseIrq l).cmts = s.cmts ∧
    (s.raiseIrq l).pvs = s.pvs ∧ (s.raiseIrq l).chans = s.chans ∧ (s.raiseIrq l).mons = s.mons ∧ (s.raiseIrq l).hks = s.hks ∧
    (s.raiseIrq l).vibs = s.vibs ∧ (s.raiseIrq l).cal = s.cal ∧ (s.raiseIrq l).segs = s.segs ∧ (s.raiseIrq l).ctxs = s.ctxs ∧
    (s.raiseIrq l).engs = s.engs ∧ (s.raiseIrq l).qRetired = s.qRetired ∧ (s.raiseIrq l).utilRef = s.utilRef ∧ (s.raiseIrq l).babIns = s.babIns ∧
    (s.raiseIrq l).babCloses = s.babCloses ∧ (s.raiseIrq l).babCosts = s.babCosts ∧ (s.raiseIrq l).babCtxs = s.babCtxs ∧
    (s.raiseIrq l).safAxs = s.safAxs ∧ (s.raiseIrq l).safIns = s.safIns ∧ (s.raiseIrq l).tests = s.tests ∧ (s.raiseIrq l).saf = s.saf ∧
    (s.raiseIrq l).age = s.age ∧ (s.raiseIrq l).fuses = s.fuses ∧ (s.raiseIrq l).steer = s.steer ∧ (s.raiseIrq l).bist = s.bist ∧
    (s.raiseIrq l).sup = s.sup ∧ (s.raiseIrq l).mbs = s.mbs ∧ (s.raiseIrq l).sec = s.sec ∧ (s.raiseIrq l).pwr = s.pwr ∧ (s.raiseIrq l).lnks = s.lnks ∧
    (s.raiseIrq l).ext = s.ext ∧ (s.raiseIrq l).pending = s.pending :=
  ⟨rfl, rfl, rfl, rfl, rfl, rfl, rfl, rfl, rfl, rfl, rfl, rfl, rfl, rfl, rfl, rfl, rfl, rfl, rfl, rfl, rfl, rfl, rfl, rfl, rfl, rfl, rfl, rfl, rfl, rfl, rfl, rfl, rfl, rfl, rfl, rfl, rfl, rfl, rfl, rfl, rfl, rfl, rfl, rfl, rfl, rfl, rfl, rfl, rfl, rfl, rfl, rfl, rfl, rfl, rfl, rfl, rfl, rfl, rfl, rfl, rfl, rfl⟩
@[simp] theorem State.raiseIrq_reg (s : State) (l : Nat) (ga : Nat) : (s.raiseIrq l).reg ga = s.reg ga := rfl
@[simp] theorem State.raiseIrq_rd (s : State) (l : Nat) (g : RF) (gi gj : Nat) :
    (s.raiseIrq l).rd g gi gj = s.rd g gi gj ∧ (s.raiseIrq l).rdS g gi gj = s.rdS g gi gj ∧ (s.raiseIrq l).flag g gi gj = s.flag g gi gj := ⟨rfl, rfl, rfl⟩
@[simp] theorem State.raiseIrq_rdBit (s : State) (l : Nat) (g : RF) (gb gi gj : Nat) : (s.raiseIrq l).rdBit g gb gi gj = s.rdBit g gb gi gj := rfl
@[simp] theorem State.raiseIrq_byte (s : State) (l : Nat) (ga : Nat) : (s.raiseIrq l).byte ga = s.byte ga := rfl

@[simp] theorem State.updAge_keeps (s : State) (f : AgeH → AgeH) :
    (s.updAge f).dtime = s.dtime ∧ (s.updAge f).regs = s.regs ∧ (s.updAge f).mem = s.mem ∧ (s.updAge f).flips = s.flips ∧ (s.updAge f).scrub = s.scrub ∧
    (s.updAge f).vios = s.vios ∧ (s.updAge f).resp = s.resp ∧ (s.updAge f).latches = s.latches ∧ (s.updAge f).glatches = s.glatches ∧
    (s.updAge f).heldLo = s.heldLo ∧ (s.updAge f).justSet = s.justSet ∧ (s.updAge f).posted = s.posted ∧ (s.updAge f).debugOverride = s.debugOverride ∧
    (s.updAge f).irqLines = s.irqLines ∧ (s.updAge f).recd = s.recd ∧ (s.updAge f).freeCtr = s.freeCtr ∧ (s.updAge f).tbs = s.tbs ∧
    (s.updAge f).slots = s.slots ∧ (s.updAge f).tachs = s.tachs ∧ (s.updAge f).ssiEnd = s.ssiEnd ∧ (s.updAge f).timeH = s.timeH ∧
    (s.updAge f).obss = s.obss ∧ (s.updAge f).nets = s.nets ∧ (s.updAge f).lanes = s.lanes ∧ (s.updAge f).jobs = s.jobs ∧ (s.updAge f).pjobs = s.pjobs ∧
    (s.updAge f).obsLoad = s.obsLoad ∧ (s.updAge f).obsRemove = s.obsRemove ∧ (s.updAge f).pvSettle = s.pvSettle ∧ (s.updAge f).pwms = s.pwms ∧
    (s.updAge f).pxbs = s.pxbs ∧ (s.updAge f).focs = s.focs ∧ (s.updAge f).cmts = s.cmts ∧ (s.updAge f).pvs = s.pvs ∧ (s.updAge f).chans = s.chans ∧
    (s.updAge f).mons = s.mons ∧ (s.updAge f).hks = s.hks ∧ (s.updAge f).vibs = s.vibs ∧ (s.updAge f).cal = s.cal ∧ (s.updAge f).segs = s.segs ∧
    (s.updAge f).ctxs = s.ctxs ∧ (s.updAge f).engs = s.engs ∧ (s.updAge f).qRetired = s.qRetired ∧ (s.updAge f).utilRef = s.utilRef ∧
    (s.updAge f).babIns = s.babIns ∧ (s.updAge f).babCloses = s.babCloses ∧ (s.updAge f).babCosts = s.babCosts ∧ (s.updAge f).babCtxs = s.babCtxs ∧
    (s.updAge f).safAxs = s.safAxs ∧ (s.updAge f).safIns = s.safIns ∧ (s.updAge f).tests = s.tests ∧ (s.updAge f).saf = s.saf ∧
    (s.updAge f).fuses = s.fuses ∧ (s.updAge f).steer = s.steer ∧ (s.updAge f).bist = s.bist ∧ (s.updAge f).sup = s.sup ∧ (s.updAge f).mbs = s.mbs ∧
    (s.updAge f).sec = s.sec ∧ (s.updAge f).pwr = s.pwr ∧ (s.updAge f).lnks = s.lnks ∧ (s.updAge f).ext = s.ext ∧ (s.updAge f).pending = s.pending :=
  ⟨rfl, rfl, rfl, rfl, rfl, rfl, rfl, rfl, rfl, rfl, rfl, rfl, rfl, rfl, rfl, rfl, rfl, rfl, rfl, rfl, rfl, rfl, rfl, rfl, rfl, rfl, rfl, rfl, rfl, rfl, rfl, rfl, rfl, rfl, rfl, rfl, rfl, rfl, rfl, rfl, rfl, rfl, rfl, rfl, rfl, rfl, rfl, rfl, rfl, rfl, rfl, rfl, rfl, rfl, rfl, rfl, rfl, rfl, rfl, rfl, rfl, rfl⟩
@[simp] theorem State.updAge_reg (s : State) (f : AgeH → AgeH) (ga : Nat) : (s.updAge f).reg ga = s.reg ga := rfl
@[simp] theorem State.updAge_rd (s : State) (f : AgeH → AgeH) (g : RF) (gi gj : Nat) :
    (s.updAge f).rd g gi gj = s.rd g gi gj ∧ (s.updAge f).rdS g gi gj = s.rdS g gi gj ∧ (s.updAge f).flag g gi gj = s.flag g gi gj := ⟨rfl, rfl, rfl⟩
@[simp] theorem State.updAge_rdBit (s : State) (f : AgeH → AgeH) (g : RF) (gb gi gj : Nat) : (s.updAge f).rdBit g gb gi gj = s.rdBit g gb gi gj := rfl
@[simp] theorem State.updAge_byte (s : State) (f : AgeH → AgeH) (ga : Nat) : (s.updAge f).byte ga = s.byte ga := rfl

@[simp] theorem State.setTach_keeps (s : State) (k : Nat) (h : TachH) :
    (s.setTach k h).dtime = s.dtime ∧ (s.setTach k h).regs = s.regs ∧ (s.setTach k h).mem = s.mem ∧ (s.setTach k h).flips = s.flips ∧
    (s.setTach k h).scrub = s.scrub ∧ (s.setTach k h).vios = s.vios ∧ (s.setTach k h).resp = s.resp ∧ (s.setTach k h).latches = s.latches ∧
    (s.setTach k h).glatches = s.glatches ∧ (s.setTach k h).heldLo = s.heldLo ∧ (s.setTach k h).justSet = s.justSet ∧ (s.setTach k h).posted = s.posted ∧
    (s.setTach k h).debugOverride = s.debugOverride ∧ (s.setTach k h).irqLines = s.irqLines ∧ (s.setTach k h).recd = s.recd ∧
    (s.setTach k h).freeCtr = s.freeCtr ∧ (s.setTach k h).tbs = s.tbs ∧ (s.setTach k h).slots = s.slots ∧ (s.setTach k h).ssiEnd = s.ssiEnd ∧
    (s.setTach k h).timeH = s.timeH ∧ (s.setTach k h).obss = s.obss ∧ (s.setTach k h).nets = s.nets ∧ (s.setTach k h).lanes = s.lanes ∧
    (s.setTach k h).jobs = s.jobs ∧ (s.setTach k h).pjobs = s.pjobs ∧ (s.setTach k h).obsLoad = s.obsLoad ∧ (s.setTach k h).obsRemove = s.obsRemove ∧
    (s.setTach k h).pvSettle = s.pvSettle ∧ (s.setTach k h).pwms = s.pwms ∧ (s.setTach k h).pxbs = s.pxbs ∧ (s.setTach k h).focs = s.focs ∧
    (s.setTach k h).cmts = s.cmts ∧ (s.setTach k h).pvs = s.pvs ∧ (s.setTach k h).chans = s.chans ∧ (s.setTach k h).mons = s.mons ∧
    (s.setTach k h).hks = s.hks ∧ (s.setTach k h).vibs = s.vibs ∧ (s.setTach k h).cal = s.cal ∧ (s.setTach k h).segs = s.segs ∧
    (s.setTach k h).ctxs = s.ctxs ∧ (s.setTach k h).engs = s.engs ∧ (s.setTach k h).qRetired = s.qRetired ∧ (s.setTach k h).utilRef = s.utilRef ∧
    (s.setTach k h).babIns = s.babIns ∧ (s.setTach k h).babCloses = s.babCloses ∧ (s.setTach k h).babCosts = s.babCosts ∧
    (s.setTach k h).babCtxs = s.babCtxs ∧ (s.setTach k h).safAxs = s.safAxs ∧ (s.setTach k h).safIns = s.safIns ∧ (s.setTach k h).tests = s.tests ∧
    (s.setTach k h).saf = s.saf ∧ (s.setTach k h).age = s.age ∧ (s.setTach k h).fuses = s.fuses ∧ (s.setTach k h).steer = s.steer ∧
    (s.setTach k h).bist = s.bist ∧ (s.setTach k h).sup = s.sup ∧ (s.setTach k h).mbs = s.mbs ∧ (s.setTach k h).sec = s.sec ∧
    (s.setTach k h).pwr = s.pwr ∧ (s.setTach k h).lnks = s.lnks ∧ (s.setTach k h).ext = s.ext ∧ (s.setTach k h).pending = s.pending :=
  ⟨rfl, rfl, rfl, rfl, rfl, rfl, rfl, rfl, rfl, rfl, rfl, rfl, rfl, rfl, rfl, rfl, rfl, rfl, rfl, rfl, rfl, rfl, rfl, rfl, rfl, rfl, rfl, rfl, rfl, rfl, rfl, rfl, rfl, rfl, rfl, rfl, rfl, rfl, rfl, rfl, rfl, rfl, rfl, rfl, rfl, rfl, rfl, rfl, rfl, rfl, rfl, rfl, rfl, rfl, rfl, rfl, rfl, rfl, rfl, rfl, rfl, rfl⟩
@[simp] theorem State.setTach_reg (s : State) (k : Nat) (h : TachH) (ga : Nat) : (s.setTach k h).reg ga = s.reg ga := rfl
@[simp] theorem State.setTach_rd (s : State) (k : Nat) (h : TachH) (g : RF) (gi gj : Nat) :
    (s.setTach k h).rd g gi gj = s.rd g gi gj ∧ (s.setTach k h).rdS g gi gj = s.rdS g gi gj ∧ (s.setTach k h).flag g gi gj = s.flag g gi gj := ⟨rfl, rfl, rfl⟩
@[simp] theorem State.setTach_rdBit (s : State) (k : Nat) (h : TachH) (g : RF) (gb gi gj : Nat) : (s.setTach k h).rdBit g gb gi gj = s.rdBit g gb gi gj := rfl
@[simp] theorem State.setTach_byte (s : State) (k : Nat) (h : TachH) (ga : Nat) : (s.setTach k h).byte ga = s.byte ga := rfl

@[simp] theorem State.setSsiEnd_keeps (s : State) (k : Nat) (e : Option Nat) :
    (s.setSsiEnd k e).dtime = s.dtime ∧ (s.setSsiEnd k e).regs = s.regs ∧ (s.setSsiEnd k e).mem = s.mem ∧ (s.setSsiEnd k e).flips = s.flips ∧
    (s.setSsiEnd k e).scrub = s.scrub ∧ (s.setSsiEnd k e).vios = s.vios ∧ (s.setSsiEnd k e).resp = s.resp ∧ (s.setSsiEnd k e).latches = s.latches ∧
    (s.setSsiEnd k e).glatches = s.glatches ∧ (s.setSsiEnd k e).heldLo = s.heldLo ∧ (s.setSsiEnd k e).justSet = s.justSet ∧
    (s.setSsiEnd k e).posted = s.posted ∧ (s.setSsiEnd k e).debugOverride = s.debugOverride ∧ (s.setSsiEnd k e).irqLines = s.irqLines ∧
    (s.setSsiEnd k e).recd = s.recd ∧ (s.setSsiEnd k e).freeCtr = s.freeCtr ∧ (s.setSsiEnd k e).tbs = s.tbs ∧ (s.setSsiEnd k e).slots = s.slots ∧
    (s.setSsiEnd k e).tachs = s.tachs ∧ (s.setSsiEnd k e).timeH = s.timeH ∧ (s.setSsiEnd k e).obss = s.obss ∧ (s.setSsiEnd k e).nets = s.nets ∧
    (s.setSsiEnd k e).lanes = s.lanes ∧ (s.setSsiEnd k e).jobs = s.jobs ∧ (s.setSsiEnd k e).pjobs = s.pjobs ∧ (s.setSsiEnd k e).obsLoad = s.obsLoad ∧
    (s.setSsiEnd k e).obsRemove = s.obsRemove ∧ (s.setSsiEnd k e).pvSettle = s.pvSettle ∧ (s.setSsiEnd k e).pwms = s.pwms ∧
    (s.setSsiEnd k e).pxbs = s.pxbs ∧ (s.setSsiEnd k e).focs = s.focs ∧ (s.setSsiEnd k e).cmts = s.cmts ∧ (s.setSsiEnd k e).pvs = s.pvs ∧
    (s.setSsiEnd k e).chans = s.chans ∧ (s.setSsiEnd k e).mons = s.mons ∧ (s.setSsiEnd k e).hks = s.hks ∧ (s.setSsiEnd k e).vibs = s.vibs ∧
    (s.setSsiEnd k e).cal = s.cal ∧ (s.setSsiEnd k e).segs = s.segs ∧ (s.setSsiEnd k e).ctxs = s.ctxs ∧ (s.setSsiEnd k e).engs = s.engs ∧
    (s.setSsiEnd k e).qRetired = s.qRetired ∧ (s.setSsiEnd k e).utilRef = s.utilRef ∧ (s.setSsiEnd k e).babIns = s.babIns ∧
    (s.setSsiEnd k e).babCloses = s.babCloses ∧ (s.setSsiEnd k e).babCosts = s.babCosts ∧ (s.setSsiEnd k e).babCtxs = s.babCtxs ∧
    (s.setSsiEnd k e).safAxs = s.safAxs ∧ (s.setSsiEnd k e).safIns = s.safIns ∧ (s.setSsiEnd k e).tests = s.tests ∧ (s.setSsiEnd k e).saf = s.saf ∧
    (s.setSsiEnd k e).age = s.age ∧ (s.setSsiEnd k e).fuses = s.fuses ∧ (s.setSsiEnd k e).steer = s.steer ∧ (s.setSsiEnd k e).bist = s.bist ∧
    (s.setSsiEnd k e).sup = s.sup ∧ (s.setSsiEnd k e).mbs = s.mbs ∧ (s.setSsiEnd k e).sec = s.sec ∧ (s.setSsiEnd k e).pwr = s.pwr ∧
    (s.setSsiEnd k e).lnks = s.lnks ∧ (s.setSsiEnd k e).ext = s.ext ∧ (s.setSsiEnd k e).pending = s.pending :=
  ⟨rfl, rfl, rfl, rfl, rfl, rfl, rfl, rfl, rfl, rfl, rfl, rfl, rfl, rfl, rfl, rfl, rfl, rfl, rfl, rfl, rfl, rfl, rfl, rfl, rfl, rfl, rfl, rfl, rfl, rfl, rfl, rfl, rfl, rfl, rfl, rfl, rfl, rfl, rfl, rfl, rfl, rfl, rfl, rfl, rfl, rfl, rfl, rfl, rfl, rfl, rfl, rfl, rfl, rfl, rfl, rfl, rfl, rfl, rfl, rfl, rfl, rfl⟩
@[simp] theorem State.setSsiEnd_reg (s : State) (k : Nat) (e : Option Nat) (ga : Nat) : (s.setSsiEnd k e).reg ga = s.reg ga := rfl
@[simp] theorem State.setSsiEnd_rd (s : State) (k : Nat) (e : Option Nat) (g : RF) (gi gj : Nat) :
    (s.setSsiEnd k e).rd g gi gj = s.rd g gi gj ∧ (s.setSsiEnd k e).rdS g gi gj = s.rdS g gi gj ∧ (s.setSsiEnd k e).flag g gi gj = s.flag g gi gj := ⟨rfl, rfl, rfl⟩
@[simp] theorem State.setSsiEnd_rdBit (s : State) (k : Nat) (e : Option Nat) (g : RF) (gb gi gj : Nat) : (s.setSsiEnd k e).rdBit g gb gi gj = s.rdBit g gb gi gj := rfl
@[simp] theorem State.setSsiEnd_byte (s : State) (k : Nat) (e : Option Nat) (ga : Nat) : (s.setSsiEnd k e).byte ga = s.byte ga := rfl

@[simp] theorem State.updTime_keeps (s : State) (f : TimeH → TimeH) :
    (s.updTime f).dtime = s.dtime ∧ (s.updTime f).regs = s.regs ∧ (s.updTime f).mem = s.mem ∧ (s.updTime f).flips = s.flips ∧
    (s.updTime f).scrub = s.scrub ∧ (s.updTime f).vios = s.vios ∧ (s.updTime f).resp = s.resp ∧ (s.updTime f).latches = s.latches ∧
    (s.updTime f).glatches = s.glatches ∧ (s.updTime f).heldLo = s.heldLo ∧ (s.updTime f).justSet = s.justSet ∧ (s.updTime f).posted = s.posted ∧
    (s.updTime f).debugOverride = s.debugOverride ∧ (s.updTime f).irqLines = s.irqLines ∧ (s.updTime f).recd = s.recd ∧
    (s.updTime f).freeCtr = s.freeCtr ∧ (s.updTime f).tbs = s.tbs ∧ (s.updTime f).slots = s.slots ∧ (s.updTime f).tachs = s.tachs ∧
    (s.updTime f).ssiEnd = s.ssiEnd ∧ (s.updTime f).obss = s.obss ∧ (s.updTime f).nets = s.nets ∧ (s.updTime f).lanes = s.lanes ∧
    (s.updTime f).jobs = s.jobs ∧ (s.updTime f).pjobs = s.pjobs ∧ (s.updTime f).obsLoad = s.obsLoad ∧ (s.updTime f).obsRemove = s.obsRemove ∧
    (s.updTime f).pvSettle = s.pvSettle ∧ (s.updTime f).pwms = s.pwms ∧ (s.updTime f).pxbs = s.pxbs ∧ (s.updTime f).focs = s.focs ∧
    (s.updTime f).cmts = s.cmts ∧ (s.updTime f).pvs = s.pvs ∧ (s.updTime f).chans = s.chans ∧ (s.updTime f).mons = s.mons ∧ (s.updTime f).hks = s.hks ∧
    (s.updTime f).vibs = s.vibs ∧ (s.updTime f).cal = s.cal ∧ (s.updTime f).segs = s.segs ∧ (s.updTime f).ctxs = s.ctxs ∧ (s.updTime f).engs = s.engs ∧
    (s.updTime f).qRetired = s.qRetired ∧ (s.updTime f).utilRef = s.utilRef ∧ (s.updTime f).babIns = s.babIns ∧ (s.updTime f).babCloses = s.babCloses ∧
    (s.updTime f).babCosts = s.babCosts ∧ (s.updTime f).babCtxs = s.babCtxs ∧ (s.updTime f).safAxs = s.safAxs ∧ (s.updTime f).safIns = s.safIns ∧
    (s.updTime f).tests = s.tests ∧ (s.updTime f).saf = s.saf ∧ (s.updTime f).age = s.age ∧ (s.updTime f).fuses = s.fuses ∧
    (s.updTime f).steer = s.steer ∧ (s.updTime f).bist = s.bist ∧ (s.updTime f).sup = s.sup ∧ (s.updTime f).mbs = s.mbs ∧ (s.updTime f).sec = s.sec ∧
    (s.updTime f).pwr = s.pwr ∧ (s.updTime f).lnks = s.lnks ∧ (s.updTime f).ext = s.ext ∧ (s.updTime f).pending = s.pending :=
  ⟨rfl, rfl, rfl, rfl, rfl, rfl, rfl, rfl, rfl, rfl, rfl, rfl, rfl, rfl, rfl, rfl, rfl, rfl, rfl, rfl, rfl, rfl, rfl, rfl, rfl, rfl, rfl, rfl, rfl, rfl, rfl, rfl, rfl, rfl, rfl, rfl, rfl, rfl, rfl, rfl, rfl, rfl, rfl, rfl, rfl, rfl, rfl, rfl, rfl, rfl, rfl, rfl, rfl, rfl, rfl, rfl, rfl, rfl, rfl, rfl, rfl, rfl⟩
@[simp] theorem State.updTime_reg (s : State) (f : TimeH → TimeH) (ga : Nat) : (s.updTime f).reg ga = s.reg ga := rfl
@[simp] theorem State.updTime_rd (s : State) (f : TimeH → TimeH) (g : RF) (gi gj : Nat) :
    (s.updTime f).rd g gi gj = s.rd g gi gj ∧ (s.updTime f).rdS g gi gj = s.rdS g gi gj ∧ (s.updTime f).flag g gi gj = s.flag g gi gj := ⟨rfl, rfl, rfl⟩
@[simp] theorem State.updTime_rdBit (s : State) (f : TimeH → TimeH) (g : RF) (gb gi gj : Nat) : (s.updTime f).rdBit g gb gi gj = s.rdBit g gb gi gj := rfl
@[simp] theorem State.updTime_byte (s : State) (f : TimeH → TimeH) (ga : Nat) : (s.updTime f).byte ga = s.byte ga := rfl

@[simp] theorem State.updBc_keeps (s : State) (c : Nat) (f : BabCtxH → BabCtxH) :
    (s.updBc c f).dtime = s.dtime ∧ (s.updBc c f).regs = s.regs ∧ (s.updBc c f).mem = s.mem ∧ (s.updBc c f).flips = s.flips ∧
    (s.updBc c f).scrub = s.scrub ∧ (s.updBc c f).vios = s.vios ∧ (s.updBc c f).resp = s.resp ∧ (s.updBc c f).latches = s.latches ∧
    (s.updBc c f).glatches = s.glatches ∧ (s.updBc c f).heldLo = s.heldLo ∧ (s.updBc c f).justSet = s.justSet ∧ (s.updBc c f).posted = s.posted ∧
    (s.updBc c f).debugOverride = s.debugOverride ∧ (s.updBc c f).irqLines = s.irqLines ∧ (s.updBc c f).recd = s.recd ∧
    (s.updBc c f).freeCtr = s.freeCtr ∧ (s.updBc c f).tbs = s.tbs ∧ (s.updBc c f).slots = s.slots ∧ (s.updBc c f).tachs = s.tachs ∧
    (s.updBc c f).ssiEnd = s.ssiEnd ∧ (s.updBc c f).timeH = s.timeH ∧ (s.updBc c f).obss = s.obss ∧ (s.updBc c f).nets = s.nets ∧
    (s.updBc c f).lanes = s.lanes ∧ (s.updBc c f).jobs = s.jobs ∧ (s.updBc c f).pjobs = s.pjobs ∧ (s.updBc c f).obsLoad = s.obsLoad ∧
    (s.updBc c f).obsRemove = s.obsRemove ∧ (s.updBc c f).pvSettle = s.pvSettle ∧ (s.updBc c f).pwms = s.pwms ∧ (s.updBc c f).pxbs = s.pxbs ∧
    (s.updBc c f).focs = s.focs ∧ (s.updBc c f).cmts = s.cmts ∧ (s.updBc c f).pvs = s.pvs ∧ (s.updBc c f).chans = s.chans ∧ (s.updBc c f).mons = s.mons ∧
    (s.updBc c f).hks = s.hks ∧ (s.updBc c f).vibs = s.vibs ∧ (s.updBc c f).cal = s.cal ∧ (s.updBc c f).segs = s.segs ∧ (s.updBc c f).ctxs = s.ctxs ∧
    (s.updBc c f).engs = s.engs ∧ (s.updBc c f).qRetired = s.qRetired ∧ (s.updBc c f).utilRef = s.utilRef ∧ (s.updBc c f).babIns = s.babIns ∧
    (s.updBc c f).babCloses = s.babCloses ∧ (s.updBc c f).babCosts = s.babCosts ∧ (s.updBc c f).safAxs = s.safAxs ∧ (s.updBc c f).safIns = s.safIns ∧
    (s.updBc c f).tests = s.tests ∧ (s.updBc c f).saf = s.saf ∧ (s.updBc c f).age = s.age ∧ (s.updBc c f).fuses = s.fuses ∧
    (s.updBc c f).steer = s.steer ∧ (s.updBc c f).bist = s.bist ∧ (s.updBc c f).sup = s.sup ∧ (s.updBc c f).mbs = s.mbs ∧ (s.updBc c f).sec = s.sec ∧
    (s.updBc c f).pwr = s.pwr ∧ (s.updBc c f).lnks = s.lnks ∧ (s.updBc c f).ext = s.ext ∧ (s.updBc c f).pending = s.pending :=
  ⟨rfl, rfl, rfl, rfl, rfl, rfl, rfl, rfl, rfl, rfl, rfl, rfl, rfl, rfl, rfl, rfl, rfl, rfl, rfl, rfl, rfl, rfl, rfl, rfl, rfl, rfl, rfl, rfl, rfl, rfl, rfl, rfl, rfl, rfl, rfl, rfl, rfl, rfl, rfl, rfl, rfl, rfl, rfl, rfl, rfl, rfl, rfl, rfl, rfl, rfl, rfl, rfl, rfl, rfl, rfl, rfl, rfl, rfl, rfl, rfl, rfl, rfl⟩
@[simp] theorem State.updBc_reg (s : State) (c : Nat) (f : BabCtxH → BabCtxH) (ga : Nat) : (s.updBc c f).reg ga = s.reg ga := rfl
@[simp] theorem State.updBc_rd (s : State) (c : Nat) (f : BabCtxH → BabCtxH) (g : RF) (gi gj : Nat) :
    (s.updBc c f).rd g gi gj = s.rd g gi gj ∧ (s.updBc c f).rdS g gi gj = s.rdS g gi gj ∧ (s.updBc c f).flag g gi gj = s.flag g gi gj := ⟨rfl, rfl, rfl⟩
@[simp] theorem State.updBc_rdBit (s : State) (c : Nat) (f : BabCtxH → BabCtxH) (g : RF) (gb gi gj : Nat) : (s.updBc c f).rdBit g gb gi gj = s.rdBit g gb gi gj := rfl
@[simp] theorem State.updBc_byte (s : State) (c : Nat) (f : BabCtxH → BabCtxH) (ga : Nat) : (s.updBc c f).byte ga = s.byte ga := rfl

@[simp] theorem State.updHk_keeps (s : State) (k : Nat) (f : HkH → HkH) :
    (s.updHk k f).dtime = s.dtime ∧ (s.updHk k f).regs = s.regs ∧ (s.updHk k f).mem = s.mem ∧ (s.updHk k f).flips = s.flips ∧
    (s.updHk k f).scrub = s.scrub ∧ (s.updHk k f).vios = s.vios ∧ (s.updHk k f).resp = s.resp ∧ (s.updHk k f).latches = s.latches ∧
    (s.updHk k f).glatches = s.glatches ∧ (s.updHk k f).heldLo = s.heldLo ∧ (s.updHk k f).justSet = s.justSet ∧ (s.updHk k f).posted = s.posted ∧
    (s.updHk k f).debugOverride = s.debugOverride ∧ (s.updHk k f).irqLines = s.irqLines ∧ (s.updHk k f).recd = s.recd ∧
    (s.updHk k f).freeCtr = s.freeCtr ∧ (s.updHk k f).tbs = s.tbs ∧ (s.updHk k f).slots = s.slots ∧ (s.updHk k f).tachs = s.tachs ∧
    (s.updHk k f).ssiEnd = s.ssiEnd ∧ (s.updHk k f).timeH = s.timeH ∧ (s.updHk k f).obss = s.obss ∧ (s.updHk k f).nets = s.nets ∧
    (s.updHk k f).lanes = s.lanes ∧ (s.updHk k f).jobs = s.jobs ∧ (s.updHk k f).pjobs = s.pjobs ∧ (s.updHk k f).obsLoad = s.obsLoad ∧
    (s.updHk k f).obsRemove = s.obsRemove ∧ (s.updHk k f).pvSettle = s.pvSettle ∧ (s.updHk k f).pwms = s.pwms ∧ (s.updHk k f).pxbs = s.pxbs ∧
    (s.updHk k f).focs = s.focs ∧ (s.updHk k f).cmts = s.cmts ∧ (s.updHk k f).pvs = s.pvs ∧ (s.updHk k f).chans = s.chans ∧ (s.updHk k f).mons = s.mons ∧
    (s.updHk k f).vibs = s.vibs ∧ (s.updHk k f).cal = s.cal ∧ (s.updHk k f).segs = s.segs ∧ (s.updHk k f).ctxs = s.ctxs ∧ (s.updHk k f).engs = s.engs ∧
    (s.updHk k f).qRetired = s.qRetired ∧ (s.updHk k f).utilRef = s.utilRef ∧ (s.updHk k f).babIns = s.babIns ∧ (s.updHk k f).babCloses = s.babCloses ∧
    (s.updHk k f).babCosts = s.babCosts ∧ (s.updHk k f).babCtxs = s.babCtxs ∧ (s.updHk k f).safAxs = s.safAxs ∧ (s.updHk k f).safIns = s.safIns ∧
    (s.updHk k f).tests = s.tests ∧ (s.updHk k f).saf = s.saf ∧ (s.updHk k f).age = s.age ∧ (s.updHk k f).fuses = s.fuses ∧
    (s.updHk k f).steer = s.steer ∧ (s.updHk k f).bist = s.bist ∧ (s.updHk k f).sup = s.sup ∧ (s.updHk k f).mbs = s.mbs ∧ (s.updHk k f).sec = s.sec ∧
    (s.updHk k f).pwr = s.pwr ∧ (s.updHk k f).lnks = s.lnks ∧ (s.updHk k f).ext = s.ext ∧ (s.updHk k f).pending = s.pending :=
  ⟨rfl, rfl, rfl, rfl, rfl, rfl, rfl, rfl, rfl, rfl, rfl, rfl, rfl, rfl, rfl, rfl, rfl, rfl, rfl, rfl, rfl, rfl, rfl, rfl, rfl, rfl, rfl, rfl, rfl, rfl, rfl, rfl, rfl, rfl, rfl, rfl, rfl, rfl, rfl, rfl, rfl, rfl, rfl, rfl, rfl, rfl, rfl, rfl, rfl, rfl, rfl, rfl, rfl, rfl, rfl, rfl, rfl, rfl, rfl, rfl, rfl, rfl⟩
@[simp] theorem State.updHk_reg (s : State) (k : Nat) (f : HkH → HkH) (ga : Nat) : (s.updHk k f).reg ga = s.reg ga := rfl
@[simp] theorem State.updHk_rd (s : State) (k : Nat) (f : HkH → HkH) (g : RF) (gi gj : Nat) :
    (s.updHk k f).rd g gi gj = s.rd g gi gj ∧ (s.updHk k f).rdS g gi gj = s.rdS g gi gj ∧ (s.updHk k f).flag g gi gj = s.flag g gi gj := ⟨rfl, rfl, rfl⟩
@[simp] theorem State.updHk_rdBit (s : State) (k : Nat) (f : HkH → HkH) (g : RF) (gb gi gj : Nat) : (s.updHk k f).rdBit g gb gi gj = s.rdBit g gb gi gj := rfl
@[simp] theorem State.updHk_byte (s : State) (k : Nat) (f : HkH → HkH) (ga : Nat) : (s.updHk k f).byte ga = s.byte ga := rfl
theorem State.updHk_same (s : State) (k : Nat) (f : HkH → HkH) : (s.updHk k f).hk k = f (s.hk k) := Tab.get_put_self _ _ _ _
theorem State.updHk_other (s : State) (k : Nat) (f : HkH → HkH) {x : Nat} (h : x ≠ k) : (s.updHk k f).hk x = s.hk x := Tab.get_put_ne _ _ _ _ h

@[simp] theorem State.vioNote_keeps (s : State) (t : Nat) (h : VioH) :
    (s.vioNote t h).dtime = s.dtime ∧ (s.vioNote t h).regs = s.regs ∧ (s.vioNote t h).mem = s.mem ∧ (s.vioNote t h).flips = s.flips ∧
    (s.vioNote t h).scrub = s.scrub ∧ (s.vioNote t h).resp = s.resp ∧ (s.vioNote t h).latches = s.latches ∧ (s.vioNote t h).glatches = s.glatches ∧
    (s.vioNote t h).heldLo = s.heldLo ∧ (s.vioNote t h).justSet = s.justSet ∧ (s.vioNote t h).posted = s.posted ∧
    (s.vioNote t h).debugOverride = s.debugOverride ∧ (s.vioNote t h).irqLines = s.irqLines ∧ (s.vioNote t h).recd = s.recd ∧
    (s.vioNote t h).freeCtr = s.freeCtr ∧ (s.vioNote t h).tbs = s.tbs ∧ (s.vioNote t h).slots = s.slots ∧ (s.vioNote t h).tachs = s.tachs ∧
    (s.vioNote t h).ssiEnd = s.ssiEnd ∧ (s.vioNote t h).timeH = s.timeH ∧ (s.vioNote t h).obss = s.obss ∧ (s.vioNote t h).nets = s.nets ∧
    (s.vioNote t h).lanes = s.lanes ∧ (s.vioNote t h).jobs = s.jobs ∧ (s.vioNote t h).pjobs = s.pjobs ∧ (s.vioNote t h).obsLoad = s.obsLoad ∧
    (s.vioNote t h).obsRemove = s.obsRemove ∧ (s.vioNote t h).pvSettle = s.pvSettle ∧ (s.vioNote t h).pwms = s.pwms ∧ (s.vioNote t h).pxbs = s.pxbs ∧
    (s.vioNote t h).focs = s.focs ∧ (s.vioNote t h).cmts = s.cmts ∧ (s.vioNote t h).pvs = s.pvs ∧ (s.vioNote t h).chans = s.chans ∧
    (s.vioNote t h).mons = s.mons ∧ (s.vioNote t h).hks = s.hks ∧ (s.vioNote t h).vibs = s.vibs ∧ (s.vioNote t h).cal = s.cal ∧
    (s.vioNote t h).segs = s.segs ∧ (s.vioNote t h).ctxs = s.ctxs ∧ (s.vioNote t h).engs = s.engs ∧ (s.vioNote t h).qRetired = s.qRetired ∧
    (s.vioNote t h).utilRef = s.utilRef ∧ (s.vioNote t h).babIns = s.babIns ∧ (s.vioNote t h).babCloses = s.babCloses ∧
    (s.vioNote t h).babCosts = s.babCosts ∧ (s.vioNote t h).babCtxs = s.babCtxs ∧ (s.vioNote t h).safAxs = s.safAxs ∧ (s.vioNote t h).safIns = s.safIns ∧
    (s.vioNote t h).tests = s.tests ∧ (s.vioNote t h).saf = s.saf ∧ (s.vioNote t h).age = s.age ∧ (s.vioNote t h).fuses = s.fuses ∧
    (s.vioNote t h).steer = s.steer ∧ (s.vioNote t h).bist = s.bist ∧ (s.vioNote t h).sup = s.sup ∧ (s.vioNote t h).mbs = s.mbs ∧
    (s.vioNote t h).sec = s.sec ∧ (s.vioNote t h).pwr = s.pwr ∧ (s.vioNote t h).lnks = s.lnks ∧ (s.vioNote t h).ext = s.ext ∧
    (s.vioNote t h).pending = s.pending :=
  ⟨rfl, rfl, rfl, rfl, rfl, rfl, rfl, rfl, rfl, rfl, rfl, rfl, rfl, rfl, rfl, rfl, rfl, rfl, rfl, rfl, rfl, rfl, rfl, rfl, rfl, rfl, rfl, rfl, rfl, rfl, rfl, rfl, rfl, rfl, rfl, rfl, rfl, rfl, rfl, rfl, rfl, rfl, rfl, rfl, rfl, rfl, rfl, rfl, rfl, rfl, rfl, rfl, rfl, rfl, rfl, rfl, rfl, rfl, rfl, rfl, rfl, rfl⟩
@[simp] theorem State.vioNote_reg (s : State) (t : Nat) (h : VioH) (ga : Nat) : (s.vioNote t h).reg ga = s.reg ga := rfl
@[simp] theorem State.vioNote_rd (s : State) (t : Nat) (h : VioH) (g : RF) (gi gj : Nat) :
    (s.vioNote t h).rd g gi gj = s.rd g gi gj ∧ (s.vioNote t h).rdS g gi gj = s.rdS g gi gj ∧ (s.vioNote t h).flag g gi gj = s.flag g gi gj := ⟨rfl, rfl, rfl⟩
@[simp] theorem State.vioNote_rdBit (s : State) (t : Nat) (h : VioH) (g : RF) (gb gi gj : Nat) : (s.vioNote t h).rdBit g gb gi gj = s.rdBit g gb gi gj := rfl
@[simp] theorem State.vioNote_byte (s : State) (t : Nat) (h : VioH) (ga : Nat) : (s.vioNote t h).byte ga = s.byte ga := rfl

@[simp] theorem State.errResp_keeps (s : State) (n : Nat) :
    (s.errResp n).dtime = s.dtime ∧ (s.errResp n).regs = s.regs ∧ (s.errResp n).mem = s.mem ∧ (s.errResp n).flips = s.flips ∧
    (s.errResp n).scrub = s.scrub ∧ (s.errResp n).vios = s.vios ∧ (s.errResp n).latches = s.latches ∧ (s.errResp n).glatches = s.glatches ∧
    (s.errResp n).heldLo = s.heldLo ∧ (s.errResp n).justSet = s.justSet ∧ (s.errResp n).posted = s.posted ∧
    (s.errResp n).debugOverride = s.debugOverride ∧ (s.errResp n).irqLines = s.irqLines ∧ (s.errResp n).recd = s.recd ∧
    (s.errResp n).freeCtr = s.freeCtr ∧ (s.errResp n).tbs = s.tbs ∧ (s.errResp n).slots = s.slots ∧ (s.errResp n).tachs = s.tachs ∧
    (s.errResp n).ssiEnd = s.ssiEnd ∧ (s.errResp n).timeH = s.timeH ∧ (s.errResp n).obss = s.obss ∧ (s.errResp n).nets = s.nets ∧
    (s.errResp n).lanes = s.lanes ∧ (s.errResp n).jobs = s.jobs ∧ (s.errResp n).pjobs = s.pjobs ∧ (s.errResp n).obsLoad = s.obsLoad ∧
    (s.errResp n).obsRemove = s.obsRemove ∧ (s.errResp n).pvSettle = s.pvSettle ∧ (s.errResp n).pwms = s.pwms ∧ (s.errResp n).pxbs = s.pxbs ∧
    (s.errResp n).focs = s.focs ∧ (s.errResp n).cmts = s.cmts ∧ (s.errResp n).pvs = s.pvs ∧ (s.errResp n).chans = s.chans ∧ (s.errResp n).mons = s.mons ∧
    (s.errResp n).hks = s.hks ∧ (s.errResp n).vibs = s.vibs ∧ (s.errResp n).cal = s.cal ∧ (s.errResp n).segs = s.segs ∧ (s.errResp n).ctxs = s.ctxs ∧
    (s.errResp n).engs = s.engs ∧ (s.errResp n).qRetired = s.qRetired ∧ (s.errResp n).utilRef = s.utilRef ∧ (s.errResp n).babIns = s.babIns ∧
    (s.errResp n).babCloses = s.babCloses ∧ (s.errResp n).babCosts = s.babCosts ∧ (s.errResp n).babCtxs = s.babCtxs ∧ (s.errResp n).safAxs = s.safAxs ∧
    (s.errResp n).safIns = s.safIns ∧ (s.errResp n).tests = s.tests ∧ (s.errResp n).saf = s.saf ∧ (s.errResp n).age = s.age ∧
    (s.errResp n).fuses = s.fuses ∧ (s.errResp n).steer = s.steer ∧ (s.errResp n).bist = s.bist ∧ (s.errResp n).sup = s.sup ∧ (s.errResp n).mbs = s.mbs ∧
    (s.errResp n).sec = s.sec ∧ (s.errResp n).pwr = s.pwr ∧ (s.errResp n).lnks = s.lnks ∧ (s.errResp n).ext = s.ext ∧ (s.errResp n).pending = s.pending :=
  ⟨rfl, rfl, rfl, rfl, rfl, rfl, rfl, rfl, rfl, rfl, rfl, rfl, rfl, rfl, rfl, rfl, rfl, rfl, rfl, rfl, rfl, rfl, rfl, rfl, rfl, rfl, rfl, rfl, rfl, rfl, rfl, rfl, rfl, rfl, rfl, rfl, rfl, rfl, rfl, rfl, rfl, rfl, rfl, rfl, rfl, rfl, rfl, rfl, rfl, rfl, rfl, rfl, rfl, rfl, rfl, rfl, rfl, rfl, rfl, rfl, rfl, rfl⟩
@[simp] theorem State.errResp_reg (s : State) (n : Nat) (ga : Nat) : (s.errResp n).reg ga = s.reg ga := rfl
@[simp] theorem State.errResp_rd (s : State) (n : Nat) (g : RF) (gi gj : Nat) :
    (s.errResp n).rd g gi gj = s.rd g gi gj ∧ (s.errResp n).rdS g gi gj = s.rdS g gi gj ∧ (s.errResp n).flag g gi gj = s.flag g gi gj := ⟨rfl, rfl, rfl⟩
@[simp] theorem State.errResp_rdBit (s : State) (n : Nat) (g : RF) (gb gi gj : Nat) : (s.errResp n).rdBit g gb gi gj = s.rdBit g gb gi gj := rfl
@[simp] theorem State.errResp_byte (s : State) (n : Nat) (ga : Nat) : (s.errResp n).byte ga = s.byte ga := rfl

@[simp] theorem State.okResp_keeps (s : State) (d : List Nat) :
    (s.okResp d).dtime = s.dtime ∧ (s.okResp d).regs = s.regs ∧ (s.okResp d).mem = s.mem ∧ (s.okResp d).flips = s.flips ∧ (s.okResp d).scrub = s.scrub ∧
    (s.okResp d).vios = s.vios ∧ (s.okResp d).latches = s.latches ∧ (s.okResp d).glatches = s.glatches ∧ (s.okResp d).heldLo = s.heldLo ∧
    (s.okResp d).justSet = s.justSet ∧ (s.okResp d).posted = s.posted ∧ (s.okResp d).debugOverride = s.debugOverride ∧
    (s.okResp d).irqLines = s.irqLines ∧ (s.okResp d).recd = s.recd ∧ (s.okResp d).freeCtr = s.freeCtr ∧ (s.okResp d).tbs = s.tbs ∧
    (s.okResp d).slots = s.slots ∧ (s.okResp d).tachs = s.tachs ∧ (s.okResp d).ssiEnd = s.ssiEnd ∧ (s.okResp d).timeH = s.timeH ∧
    (s.okResp d).obss = s.obss ∧ (s.okResp d).nets = s.nets ∧ (s.okResp d).lanes = s.lanes ∧ (s.okResp d).jobs = s.jobs ∧ (s.okResp d).pjobs = s.pjobs ∧
    (s.okResp d).obsLoad = s.obsLoad ∧ (s.okResp d).obsRemove = s.obsRemove ∧ (s.okResp d).pvSettle = s.pvSettle ∧ (s.okResp d).pwms = s.pwms ∧
    (s.okResp d).pxbs = s.pxbs ∧ (s.okResp d).focs = s.focs ∧ (s.okResp d).cmts = s.cmts ∧ (s.okResp d).pvs = s.pvs ∧ (s.okResp d).chans = s.chans ∧
    (s.okResp d).mons = s.mons ∧ (s.okResp d).hks = s.hks ∧ (s.okResp d).vibs = s.vibs ∧ (s.okResp d).cal = s.cal ∧ (s.okResp d).segs = s.segs ∧
    (s.okResp d).ctxs = s.ctxs ∧ (s.okResp d).engs = s.engs ∧ (s.okResp d).qRetired = s.qRetired ∧ (s.okResp d).utilRef = s.utilRef ∧
    (s.okResp d).babIns = s.babIns ∧ (s.okResp d).babCloses = s.babCloses ∧ (s.okResp d).babCosts = s.babCosts ∧ (s.okResp d).babCtxs = s.babCtxs ∧
    (s.okResp d).safAxs = s.safAxs ∧ (s.okResp d).safIns = s.safIns ∧ (s.okResp d).tests = s.tests ∧ (s.okResp d).saf = s.saf ∧
    (s.okResp d).age = s.age ∧ (s.okResp d).fuses = s.fuses ∧ (s.okResp d).steer = s.steer ∧ (s.okResp d).bist = s.bist ∧ (s.okResp d).sup = s.sup ∧
    (s.okResp d).mbs = s.mbs ∧ (s.okResp d).sec = s.sec ∧ (s.okResp d).pwr = s.pwr ∧ (s.okResp d).lnks = s.lnks ∧ (s.okResp d).ext = s.ext ∧
    (s.okResp d).pending = s.pending :=
  ⟨rfl, rfl, rfl, rfl, rfl, rfl, rfl, rfl, rfl, rfl, rfl, rfl, rfl, rfl, rfl, rfl, rfl, rfl, rfl, rfl, rfl, rfl, rfl, rfl, rfl, rfl, rfl, rfl, rfl, rfl, rfl, rfl, rfl, rfl, rfl, rfl, rfl, rfl, rfl, rfl, rfl, rfl, rfl, rfl, rfl, rfl, rfl, rfl, rfl, rfl, rfl, rfl, rfl, rfl, rfl, rfl, rfl, rfl, rfl, rfl, rfl, rfl⟩
@[simp] theorem State.okResp_reg (s : State) (d : List Nat) (ga : Nat) : (s.okResp d).reg ga = s.reg ga := rfl
@[simp] theorem State.okResp_rd (s : State) (d : List Nat) (g : RF) (gi gj : Nat) :
    (s.okResp d).rd g gi gj = s.rd g gi gj ∧ (s.okResp d).rdS g gi gj = s.rdS g gi gj ∧ (s.okResp d).flag g gi gj = s.flag g gi gj := ⟨rfl, rfl, rfl⟩
@[simp] theorem State.okResp_rdBit (s : State) (d : List Nat) (g : RF) (gb gi gj : Nat) : (s.okResp d).rdBit g gb gi gj = s.rdBit g gb gi gj := rfl
@[simp] theorem State.okResp_byte (s : State) (d : List Nat) (ga : Nat) : (s.okResp d).byte ga = s.byte ga := rfl

@[simp] theorem State.setLatch_keeps (s : State) (m a v : Nat) :
    (s.setLatch m a v).dtime = s.dtime ∧ (s.setLatch m a v).regs = s.regs ∧ (s.setLatch m a v).mem = s.mem ∧ (s.setLatch m a v).flips = s.flips ∧
    (s.setLatch m a v).scrub = s.scrub ∧ (s.setLatch m a v).vios = s.vios ∧ (s.setLatch m a v).resp = s.resp ∧ (s.setLatch m a v).glatches = s.glatches ∧
    (s.setLatch m a v).heldLo = s.heldLo ∧ (s.setLatch m a v).justSet = s.justSet ∧ (s.setLatch m a v).posted = s.posted ∧
    (s.setLatch m a v).debugOverride = s.debugOverride ∧ (s.setLatch m a v).irqLines = s.irqLines ∧ (s.setLatch m a v).recd = s.recd ∧
    (s.setLatch m a v).freeCtr = s.freeCtr ∧ (s.setLatch m a v).tbs = s.tbs ∧ (s.setLatch m a v).slots = s.slots ∧ (s.setLatch m a v).tachs = s.tachs ∧
    (s.setLatch m a v).ssiEnd = s.ssiEnd ∧ (s.setLatch m a v).timeH = s.timeH ∧ (s.setLatch m a v).obss = s.obss ∧ (s.setLatch m a v).nets = s.nets ∧
    (s.setLatch m a v).lanes = s.lanes ∧ (s.setLatch m a v).jobs = s.jobs ∧ (s.setLatch m a v).pjobs = s.pjobs ∧ (s.setLatch m a v).obsLoad = s.obsLoad ∧
    (s.setLatch m a v).obsRemove = s.obsRemove ∧ (s.setLatch m a v).pvSettle = s.pvSettle ∧ (s.setLatch m a v).pwms = s.pwms ∧
    (s.setLatch m a v).pxbs = s.pxbs ∧ (s.setLatch m a v).focs = s.focs ∧ (s.setLatch m a v).cmts = s.cmts ∧ (s.setLatch m a v).pvs = s.pvs ∧
    (s.setLatch m a v).chans = s.chans ∧ (s.setLatch m a v).mons = s.mons ∧ (s.setLatch m a v).hks = s.hks ∧ (s.setLatch m a v).vibs = s.vibs ∧
    (s.setLatch m a v).cal = s.cal ∧ (s.setLatch m a v).segs = s.segs ∧ (s.setLatch m a v).ctxs = s.ctxs ∧ (s.setLatch m a v).engs = s.engs ∧
    (s.setLatch m a v).qRetired = s.qRetired ∧ (s.setLatch m a v).utilRef = s.utilRef ∧ (s.setLatch m a v).babIns = s.babIns ∧
    (s.setLatch m a v).babCloses = s.babCloses ∧ (s.setLatch m a v).babCosts = s.babCosts ∧ (s.setLatch m a v).babCtxs = s.babCtxs ∧
    (s.setLatch m a v).safAxs = s.safAxs ∧ (s.setLatch m a v).safIns = s.safIns ∧ (s.setLatch m a v).tests = s.tests ∧ (s.setLatch m a v).saf = s.saf ∧
    (s.setLatch m a v).age = s.age ∧ (s.setLatch m a v).fuses = s.fuses ∧ (s.setLatch m a v).steer = s.steer ∧ (s.setLatch m a v).bist = s.bist ∧
    (s.setLatch m a v).sup = s.sup ∧ (s.setLatch m a v).mbs = s.mbs ∧ (s.setLatch m a v).sec = s.sec ∧ (s.setLatch m a v).pwr = s.pwr ∧
    (s.setLatch m a v).lnks = s.lnks ∧ (s.setLatch m a v).ext = s.ext ∧ (s.setLatch m a v).pending = s.pending :=
  ⟨rfl, rfl, rfl, rfl, rfl, rfl, rfl, rfl, rfl, rfl, rfl, rfl, rfl, rfl, rfl, rfl, rfl, rfl, rfl, rfl, rfl, rfl, rfl, rfl, rfl, rfl, rfl, rfl, rfl, rfl, rfl, rfl, rfl, rfl, rfl, rfl, rfl, rfl, rfl, rfl, rfl, rfl, rfl, rfl, rfl, rfl, rfl, rfl, rfl, rfl, rfl, rfl, rfl, rfl, rfl, rfl, rfl, rfl, rfl, rfl, rfl, rfl⟩
@[simp] theorem State.setLatch_reg (s : State) (m a v : Nat) (ga : Nat) : (s.setLatch m a v).reg ga = s.reg ga := rfl
@[simp] theorem State.setLatch_rd (s : State) (m a v : Nat) (g : RF) (gi gj : Nat) :
    (s.setLatch m a v).rd g gi gj = s.rd g gi gj ∧ (s.setLatch m a v).rdS g gi gj = s.rdS g gi gj ∧ (s.setLatch m a v).flag g gi gj = s.flag g gi gj := ⟨rfl, rfl, rfl⟩
@[simp] theorem State.setLatch_rdBit (s : State) (m a v : Nat) (g : RF) (gb gi gj : Nat) : (s.setLatch m a v).rdBit g gb gi gj = s.rdBit g gb gi gj := rfl
@[simp] theorem State.setLatch_byte (s : State) (m a v : Nat) (ga : Nat) : (s.setLatch m a v).byte ga = s.byte ga := rfl

@[simp] theorem State.setGLatch_keeps (s : State) (m a v : Nat) :
    (s.setGLatch m a v).dtime = s.dtime ∧ (s.setGLatch m a v).regs = s.regs ∧ (s.setGLatch m a v).mem = s.mem ∧ (s.setGLatch m a v).flips = s.flips ∧
    (s.setGLatch m a v).scrub = s.scrub ∧ (s.setGLatch m a v).vios = s.vios ∧ (s.setGLatch m a v).resp = s.resp ∧
    (s.setGLatch m a v).latches = s.latches ∧ (s.setGLatch m a v).heldLo = s.heldLo ∧ (s.setGLatch m a v).justSet = s.justSet ∧
    (s.setGLatch m a v).posted = s.posted ∧ (s.setGLatch m a v).debugOverride = s.debugOverride ∧ (s.setGLatch m a v).irqLines = s.irqLines ∧
    (s.setGLatch m a v).recd = s.recd ∧ (s.setGLatch m a v).freeCtr = s.freeCtr ∧ (s.setGLatch m a v).tbs = s.tbs ∧ (s.setGLatch m a v).slots = s.slots ∧
    (s.setGLatch m a v).tachs = s.tachs ∧ (s.setGLatch m a v).ssiEnd = s.ssiEnd ∧ (s.setGLatch m a v).timeH = s.timeH ∧
    (s.setGLatch m a v).obss = s.obss ∧ (s.setGLatch m a v).nets = s.nets ∧ (s.setGLatch m a v).lanes = s.lanes ∧ (s.setGLatch m a v).jobs = s.jobs ∧
    (s.setGLatch m a v).pjobs = s.pjobs ∧ (s.setGLatch m a v).obsLoad = s.obsLoad ∧ (s.setGLatch m a v).obsRemove = s.obsRemove ∧
    (s.setGLatch m a v).pvSettle = s.pvSettle ∧ (s.setGLatch m a v).pwms = s.pwms ∧ (s.setGLatch m a v).pxbs = s.pxbs ∧
    (s.setGLatch m a v).focs = s.focs ∧ (s.setGLatch m a v).cmts = s.cmts ∧ (s.setGLatch m a v).pvs = s.pvs ∧ (s.setGLatch m a v).chans = s.chans ∧
    (s.setGLatch m a v).mons = s.mons ∧ (s.setGLatch m a v).hks = s.hks ∧ (s.setGLatch m a v).vibs = s.vibs ∧ (s.setGLatch m a v).cal = s.cal ∧
    (s.setGLatch m a v).segs = s.segs ∧ (s.setGLatch m a v).ctxs = s.ctxs ∧ (s.setGLatch m a v).engs = s.engs ∧
    (s.setGLatch m a v).qRetired = s.qRetired ∧ (s.setGLatch m a v).utilRef = s.utilRef ∧ (s.setGLatch m a v).babIns = s.babIns ∧
    (s.setGLatch m a v).babCloses = s.babCloses ∧ (s.setGLatch m a v).babCosts = s.babCosts ∧ (s.setGLatch m a v).babCtxs = s.babCtxs ∧
    (s.setGLatch m a v).safAxs = s.safAxs ∧ (s.setGLatch m a v).safIns = s.safIns ∧ (s.setGLatch m a v).tests = s.tests ∧
    (s.setGLatch m a v).saf = s.saf ∧ (s.setGLatch m a v).age = s.age ∧ (s.setGLatch m a v).fuses = s.fuses ∧ (s.setGLatch m a v).steer = s.steer ∧
    (s.setGLatch m a v).bist = s.bist ∧ (s.setGLatch m a v).sup = s.sup ∧ (s.setGLatch m a v).mbs = s.mbs ∧ (s.setGLatch m a v).sec = s.sec ∧
    (s.setGLatch m a v).pwr = s.pwr ∧ (s.setGLatch m a v).lnks = s.lnks ∧ (s.setGLatch m a v).ext = s.ext ∧ (s.setGLatch m a v).pending = s.pending :=
  ⟨rfl, rfl, rfl, rfl, rfl, rfl, rfl, rfl, rfl, rfl, rfl, rfl, rfl, rfl, rfl, rfl, rfl, rfl, rfl, rfl, rfl, rfl, rfl, rfl, rfl, rfl, rfl, rfl, rfl, rfl, rfl, rfl, rfl, rfl, rfl, rfl, rfl, rfl, rfl, rfl, rfl, rfl, rfl, rfl, rfl, rfl, rfl, rfl, rfl, rfl, rfl, rfl, rfl, rfl, rfl, rfl, rfl, rfl, rfl, rfl, rfl, rfl⟩
@[simp] theorem State.setGLatch_reg (s : State) (m a v : Nat) (ga : Nat) : (s.setGLatch m a v).reg ga = s.reg ga := rfl
@[simp] theorem State.setGLatch_rd (s : State) (m a v : Nat) (g : RF) (gi gj : Nat) :
    (s.setGLatch m a v).rd g gi gj = s.rd g gi gj ∧ (s.setGLatch m a v).rdS g gi gj = s.rdS g gi gj ∧ (s.setGLatch m a v).flag g gi gj = s.flag g gi gj := ⟨rfl, rfl, rfl⟩
@[simp] theorem State.setGLatch_rdBit (s : State) (m a v : Nat) (g : RF) (gb gi gj : Nat) : (s.setGLatch m a v).rdBit g gb gi gj = s.rdBit g gb gi gj := rfl
@[simp] theorem State.setGLatch_byte (s : State) (m a v : Nat) (ga : Nat) : (s.setGLatch m a v).byte ga = s.byte ga := rfl

@[simp] theorem State.hold_keeps (s : State) (a v : Nat) :
    (s.hold a v).dtime = s.dtime ∧ (s.hold a v).regs = s.regs ∧ (s.hold a v).mem = s.mem ∧ (s.hold a v).flips = s.flips ∧ (s.hold a v).scrub = s.scrub ∧
    (s.hold a v).vios = s.vios ∧ (s.hold a v).resp = s.resp ∧ (s.hold a v).latches = s.latches ∧ (s.hold a v).glatches = s.glatches ∧
    (s.hold a v).justSet = s.justSet ∧ (s.hold a v).posted = s.posted ∧ (s.hold a v).debugOverride = s.debugOverride ∧
    (s.hold a v).irqLines = s.irqLines ∧ (s.hold a v).recd = s.recd ∧ (s.hold a v).freeCtr = s.freeCtr ∧ (s.hold a v).tbs = s.tbs ∧
    (s.hold a v).slots = s.slots ∧ (s.hold a v).tachs = s.tachs ∧ (s.hold a v).ssiEnd = s.ssiEnd ∧ (s.hold a v).timeH = s.timeH ∧
    (s.hold a v).obss = s.obss ∧ (s.hold a v).nets = s.nets ∧ (s.hold a v).lanes = s.lanes ∧ (s.hold a v).jobs = s.jobs ∧ (s.hold a v).pjobs = s.pjobs ∧
    (s.hold a v).obsLoad = s.obsLoad ∧ (s.hold a v).obsRemove = s.obsRemove ∧ (s.hold a v).pvSettle = s.pvSettle ∧ (s.hold a v).pwms = s.pwms ∧
    (s.hold a v).pxbs = s.pxbs ∧ (s.hold a v).focs = s.focs ∧ (s.hold a v).cmts = s.cmts ∧ (s.hold a v).pvs = s.pvs ∧ (s.hold a v).chans = s.chans ∧
    (s.hold a v).mons = s.mons ∧ (s.hold a v).hks = s.hks ∧ (s.hold a v).vibs = s.vibs ∧ (s.hold a v).cal = s.cal ∧ (s.hold a v).segs = s.segs ∧
    (s.hold a v).ctxs = s.ctxs ∧ (s.hold a v).engs = s.engs ∧ (s.hold a v).qRetired = s.qRetired ∧ (s.hold a v).utilRef = s.utilRef ∧
    (s.hold a v).babIns = s.babIns ∧ (s.hold a v).babCloses = s.babCloses ∧ (s.hold a v).babCosts = s.babCosts ∧ (s.hold a v).babCtxs = s.babCtxs ∧
    (s.hold a v).safAxs = s.safAxs ∧ (s.hold a v).safIns = s.safIns ∧ (s.hold a v).tests = s.tests ∧ (s.hold a v).saf = s.saf ∧
    (s.hold a v).age = s.age ∧ (s.hold a v).fuses = s.fuses ∧ (s.hold a v).steer = s.steer ∧ (s.hold a v).bist = s.bist ∧ (s.hold a v).sup = s.sup ∧
    (s.hold a v).mbs = s.mbs ∧ (s.hold a v).sec = s.sec ∧ (s.hold a v).pwr = s.pwr ∧ (s.hold a v).lnks = s.lnks ∧ (s.hold a v).ext = s.ext ∧
    (s.hold a v).pending = s.pending :=
  ⟨rfl, rfl, rfl, rfl, rfl, rfl, rfl, rfl, rfl, rfl, rfl, rfl, rfl, rfl, rfl, rfl, rfl, rfl, rfl, rfl, rfl, rfl, rfl, rfl, rfl, rfl, rfl, rfl, rfl, rfl, rfl, rfl, rfl, rfl, rfl, rfl, rfl, rfl, rfl, rfl, rfl, rfl, rfl, rfl, rfl, rfl, rfl, rfl, rfl, rfl, rfl, rfl, rfl, rfl, rfl, rfl, rfl, rfl, rfl, rfl, rfl, rfl⟩
@[simp] theorem State.hold_reg (s : State) (a v : Nat) (ga : Nat) : (s.hold a v).reg ga = s.reg ga := rfl
@[simp] theorem State.hold_rd (s : State) (a v : Nat) (g : RF) (gi gj : Nat) :
    (s.hold a v).rd g gi gj = s.rd g gi gj ∧ (s.hold a v).rdS g gi gj = s.rdS g gi gj ∧ (s.hold a v).flag g gi gj = s.flag g gi gj := ⟨rfl, rfl, rfl⟩
@[simp] theorem State.hold_rdBit (s : State) (a v : Nat) (g : RF) (gb gi gj : Nat) : (s.hold a v).rdBit g gb gi gj = s.rdBit g gb gi gj := rfl
@[simp] theorem State.hold_byte (s : State) (a v : Nat) (ga : Nat) : (s.hold a v).byte ga = s.byte ga := rfl

@[simp] theorem State.updExt_keeps (s : State) (f : ExtH → ExtH) :
    (s.updExt f).dtime = s.dtime ∧ (s.updExt f).regs = s.regs ∧ (s.updExt f).mem = s.mem ∧ (s.updExt f).flips = s.flips ∧ (s.updExt f).scrub = s.scrub ∧
    (s.updExt f).vios = s.vios ∧ (s.updExt f).resp = s.resp ∧ (s.updExt f).latches = s.latches ∧ (s.updExt f).glatches = s.glatches ∧
    (s.updExt f).heldLo = s.heldLo ∧ (s.updExt f).justSet = s.justSet ∧ (s.updExt f).posted = s.posted ∧ (s.updExt f).debugOverride = s.debugOverride ∧
    (s.updExt f).irqLines = s.irqLines ∧ (s.updExt f).recd = s.recd ∧ (s.updExt f).freeCtr = s.freeCtr ∧ (s.updExt f).tbs = s.tbs ∧
    (s.updExt f).slots = s.slots ∧ (s.updExt f).tachs = s.tachs ∧ (s.updExt f).ssiEnd = s.ssiEnd ∧ (s.updExt f).timeH = s.timeH ∧
    (s.updExt f).obss = s.obss ∧ (s.updExt f).nets = s.nets ∧ (s.updExt f).lanes = s.lanes ∧ (s.updExt f).jobs = s.jobs ∧ (s.updExt f).pjobs = s.pjobs ∧
    (s.updExt f).obsLoad = s.obsLoad ∧ (s.updExt f).obsRemove = s.obsRemove ∧ (s.updExt f).pvSettle = s.pvSettle ∧ (s.updExt f).pwms = s.pwms ∧
    (s.updExt f).pxbs = s.pxbs ∧ (s.updExt f).focs = s.focs ∧ (s.updExt f).cmts = s.cmts ∧ (s.updExt f).pvs = s.pvs ∧ (s.updExt f).chans = s.chans ∧
    (s.updExt f).mons = s.mons ∧ (s.updExt f).hks = s.hks ∧ (s.updExt f).vibs = s.vibs ∧ (s.updExt f).cal = s.cal ∧ (s.updExt f).segs = s.segs ∧
    (s.updExt f).ctxs = s.ctxs ∧ (s.updExt f).engs = s.engs ∧ (s.updExt f).qRetired = s.qRetired ∧ (s.updExt f).utilRef = s.utilRef ∧
    (s.updExt f).babIns = s.babIns ∧ (s.updExt f).babCloses = s.babCloses ∧ (s.updExt f).babCosts = s.babCosts ∧ (s.updExt f).babCtxs = s.babCtxs ∧
    (s.updExt f).safAxs = s.safAxs ∧ (s.updExt f).safIns = s.safIns ∧ (s.updExt f).tests = s.tests ∧ (s.updExt f).saf = s.saf ∧
    (s.updExt f).age = s.age ∧ (s.updExt f).fuses = s.fuses ∧ (s.updExt f).steer = s.steer ∧ (s.updExt f).bist = s.bist ∧ (s.updExt f).sup = s.sup ∧
    (s.updExt f).mbs = s.mbs ∧ (s.updExt f).sec = s.sec ∧ (s.updExt f).pwr = s.pwr ∧ (s.updExt f).lnks = s.lnks ∧ (s.updExt f).pending = s.pending :=
  ⟨rfl, rfl, rfl, rfl, rfl, rfl, rfl, rfl, rfl, rfl, rfl, rfl, rfl, rfl, rfl, rfl, rfl, rfl, rfl, rfl, rfl, rfl, rfl, rfl, rfl, rfl, rfl, rfl, rfl, rfl, rfl, rfl, rfl, rfl, rfl, rfl, rfl, rfl, rfl, rfl, rfl, rfl, rfl, rfl, rfl, rfl, rfl, rfl, rfl, rfl, rfl, rfl, rfl, rfl, rfl, rfl, rfl, rfl, rfl, rfl, rfl, rfl⟩
@[simp] theorem State.updExt_reg (s : State) (f : ExtH → ExtH) (ga : Nat) : (s.updExt f).reg ga = s.reg ga := rfl
@[simp] theorem State.updExt_rd (s : State) (f : ExtH → ExtH) (g : RF) (gi gj : Nat) :
    (s.updExt f).rd g gi gj = s.rd g gi gj ∧ (s.updExt f).rdS g gi gj = s.rdS g gi gj ∧ (s.updExt f).flag g gi gj = s.flag g gi gj := ⟨rfl, rfl, rfl⟩
@[simp] theorem State.updExt_rdBit (s : State) (f : ExtH → ExtH) (g : RF) (gb gi gj : Nat) : (s.updExt f).rdBit g gb gi gj = s.rdBit g gb gi gj := rfl
@[simp] theorem State.updExt_byte (s : State) (f : ExtH → ExtH) (ga : Nat) : (s.updExt f).byte ga = s.byte ga := rfl

@[simp] theorem State.updPw_keeps (s : State) (n : Nat) (f : PwmH → PwmH) :
    (s.updPw n f).dtime = s.dtime ∧ (s.updPw n f).regs = s.regs ∧ (s.updPw n f).mem = s.mem ∧ (s.updPw n f).flips = s.flips ∧
    (s.updPw n f).scrub = s.scrub ∧ (s.updPw n f).vios = s.vios ∧ (s.updPw n f).resp = s.resp ∧ (s.updPw n f).latches = s.latches ∧
    (s.updPw n f).glatches = s.glatches ∧ (s.updPw n f).heldLo = s.heldLo ∧ (s.updPw n f).justSet = s.justSet ∧ (s.updPw n f).posted = s.posted ∧
    (s.updPw n f).debugOverride = s.debugOverride ∧ (s.updPw n f).irqLines = s.irqLines ∧ (s.updPw n f).recd = s.recd ∧
    (s.updPw n f).freeCtr = s.freeCtr ∧ (s.updPw n f).tbs = s.tbs ∧ (s.updPw n f).slots = s.slots ∧ (s.updPw n f).tachs = s.tachs ∧
    (s.updPw n f).ssiEnd = s.ssiEnd ∧ (s.updPw n f).timeH = s.timeH ∧ (s.updPw n f).obss = s.obss ∧ (s.updPw n f).nets = s.nets ∧
    (s.updPw n f).lanes = s.lanes ∧ (s.updPw n f).jobs = s.jobs ∧ (s.updPw n f).pjobs = s.pjobs ∧ (s.updPw n f).obsLoad = s.obsLoad ∧
    (s.updPw n f).obsRemove = s.obsRemove ∧ (s.updPw n f).pvSettle = s.pvSettle ∧ (s.updPw n f).pxbs = s.pxbs ∧ (s.updPw n f).focs = s.focs ∧
    (s.updPw n f).cmts = s.cmts ∧ (s.updPw n f).pvs = s.pvs ∧ (s.updPw n f).chans = s.chans ∧ (s.updPw n f).mons = s.mons ∧ (s.updPw n f).hks = s.hks ∧
    (s.updPw n f).vibs = s.vibs ∧ (s.updPw n f).cal = s.cal ∧ (s.updPw n f).segs = s.segs ∧ (s.updPw n f).ctxs = s.ctxs ∧ (s.updPw n f).engs = s.engs ∧
    (s.updPw n f).qRetired = s.qRetired ∧ (s.updPw n f).utilRef = s.utilRef ∧ (s.updPw n f).babIns = s.babIns ∧ (s.updPw n f).babCloses = s.babCloses ∧
    (s.updPw n f).babCosts = s.babCosts ∧ (s.updPw n f).babCtxs = s.babCtxs ∧ (s.updPw n f).safAxs = s.safAxs ∧ (s.updPw n f).safIns = s.safIns ∧
    (s.updPw n f).tests = s.tests ∧ (s.updPw n f).saf = s.saf ∧ (s.updPw n f).age = s.age ∧ (s.updPw n f).fuses = s.fuses ∧
    (s.updPw n f).steer = s.steer ∧ (s.updPw n f).bist = s.bist ∧ (s.updPw n f).sup = s.sup ∧ (s.updPw n f).mbs = s.mbs ∧ (s.updPw n f).sec = s.sec ∧
    (s.updPw n f).pwr = s.pwr ∧ (s.updPw n f).lnks = s.lnks ∧ (s.updPw n f).ext = s.ext ∧ (s.updPw n f).pending = s.pending :=
  ⟨rfl, rfl, rfl, rfl, rfl, rfl, rfl, rfl, rfl, rfl, rfl, rfl, rfl, rfl, rfl, rfl, rfl, rfl, rfl, rfl, rfl, rfl, rfl, rfl, rfl, rfl, rfl, rfl, rfl, rfl, rfl, rfl, rfl, rfl, rfl, rfl, rfl, rfl, rfl, rfl, rfl, rfl, rfl, rfl, rfl, rfl, rfl, rfl, rfl, rfl, rfl, rfl, rfl, rfl, rfl, rfl, rfl, rfl, rfl, rfl, rfl, rfl⟩
@[simp] theorem State.updPw_reg (s : State) (n : Nat) (f : PwmH → PwmH) (ga : Nat) : (s.updPw n f).reg ga = s.reg ga := rfl
@[simp] theorem State.updPw_rd (s : State) (n : Nat) (f : PwmH → PwmH) (g : RF) (gi gj : Nat) :
    (s.updPw n f).rd g gi gj = s.rd g gi gj ∧ (s.updPw n f).rdS g gi gj = s.rdS g gi gj ∧ (s.updPw n f).flag g gi gj = s.flag g gi gj := ⟨rfl, rfl, rfl⟩
@[simp] theorem State.updPw_rdBit (s : State) (n : Nat) (f : PwmH → PwmH) (g : RF) (gb gi gj : Nat) : (s.updPw n f).rdBit g gb gi gj = s.rdBit g gb gi gj := rfl
@[simp] theorem State.updPw_byte (s : State) (n : Nat) (f : PwmH → PwmH) (ga : Nat) : (s.updPw n f).byte ga = s.byte ga := rfl
theorem State.updPw_same (s : State) (n : Nat) (f : PwmH → PwmH) : (s.updPw n f).pw n = f (s.pw n) := Tab.get_put_self _ _ _ _
theorem State.updPw_other (s : State) (n : Nat) (f : PwmH → PwmH) {x : Nat} (h : x ≠ n) : (s.updPw n f).pw x = s.pw x := Tab.get_put_ne _ _ _ _ h

@[simp] theorem State.updFo_keeps (s : State) (n : Nat) (f : FocH → FocH) :
    (s.updFo n f).dtime = s.dtime ∧ (s.updFo n f).regs = s.regs ∧ (s.updFo n f).mem = s.mem ∧ (s.updFo n f).flips = s.flips ∧
    (s.updFo n f).scrub = s.scrub ∧ (s.updFo n f).vios = s.vios ∧ (s.updFo n f).resp = s.resp ∧ (s.updFo n f).latches = s.latches ∧
    (s.updFo n f).glatches = s.glatches ∧ (s.updFo n f).heldLo = s.heldLo ∧ (s.updFo n f).justSet = s.justSet ∧ (s.updFo n f).posted = s.posted ∧
    (s.updFo n f).debugOverride = s.debugOverride ∧ (s.updFo n f).irqLines = s.irqLines ∧ (s.updFo n f).recd = s.recd ∧
    (s.updFo n f).freeCtr = s.freeCtr ∧ (s.updFo n f).tbs = s.tbs ∧ (s.updFo n f).slots = s.slots ∧ (s.updFo n f).tachs = s.tachs ∧
    (s.updFo n f).ssiEnd = s.ssiEnd ∧ (s.updFo n f).timeH = s.timeH ∧ (s.updFo n f).obss = s.obss ∧ (s.updFo n f).nets = s.nets ∧
    (s.updFo n f).lanes = s.lanes ∧ (s.updFo n f).jobs = s.jobs ∧ (s.updFo n f).pjobs = s.pjobs ∧ (s.updFo n f).obsLoad = s.obsLoad ∧
    (s.updFo n f).obsRemove = s.obsRemove ∧ (s.updFo n f).pvSettle = s.pvSettle ∧ (s.updFo n f).pwms = s.pwms ∧ (s.updFo n f).pxbs = s.pxbs ∧
    (s.updFo n f).cmts = s.cmts ∧ (s.updFo n f).pvs = s.pvs ∧ (s.updFo n f).chans = s.chans ∧ (s.updFo n f).mons = s.mons ∧ (s.updFo n f).hks = s.hks ∧
    (s.updFo n f).vibs = s.vibs ∧ (s.updFo n f).cal = s.cal ∧ (s.updFo n f).segs = s.segs ∧ (s.updFo n f).ctxs = s.ctxs ∧ (s.updFo n f).engs = s.engs ∧
    (s.updFo n f).qRetired = s.qRetired ∧ (s.updFo n f).utilRef = s.utilRef ∧ (s.updFo n f).babIns = s.babIns ∧ (s.updFo n f).babCloses = s.babCloses ∧
    (s.updFo n f).babCosts = s.babCosts ∧ (s.updFo n f).babCtxs = s.babCtxs ∧ (s.updFo n f).safAxs = s.safAxs ∧ (s.updFo n f).safIns = s.safIns ∧
    (s.updFo n f).tests = s.tests ∧ (s.updFo n f).saf = s.saf ∧ (s.updFo n f).age = s.age ∧ (s.updFo n f).fuses = s.fuses ∧
    (s.updFo n f).steer = s.steer ∧ (s.updFo n f).bist = s.bist ∧ (s.updFo n f).sup = s.sup ∧ (s.updFo n f).mbs = s.mbs ∧ (s.updFo n f).sec = s.sec ∧
    (s.updFo n f).pwr = s.pwr ∧ (s.updFo n f).lnks = s.lnks ∧ (s.updFo n f).ext = s.ext ∧ (s.updFo n f).pending = s.pending :=
  ⟨rfl, rfl, rfl, rfl, rfl, rfl, rfl, rfl, rfl, rfl, rfl, rfl, rfl, rfl, rfl, rfl, rfl, rfl, rfl, rfl, rfl, rfl, rfl, rfl, rfl, rfl, rfl, rfl, rfl, rfl, rfl, rfl, rfl, rfl, rfl, rfl, rfl, rfl, rfl, rfl, rfl, rfl, rfl, rfl, rfl, rfl, rfl, rfl, rfl, rfl, rfl, rfl, rfl, rfl, rfl, rfl, rfl, rfl, rfl, rfl, rfl, rfl⟩
@[simp] theorem State.updFo_reg (s : State) (n : Nat) (f : FocH → FocH) (ga : Nat) : (s.updFo n f).reg ga = s.reg ga := rfl
@[simp] theorem State.updFo_rd (s : State) (n : Nat) (f : FocH → FocH) (g : RF) (gi gj : Nat) :
    (s.updFo n f).rd g gi gj = s.rd g gi gj ∧ (s.updFo n f).rdS g gi gj = s.rdS g gi gj ∧ (s.updFo n f).flag g gi gj = s.flag g gi gj := ⟨rfl, rfl, rfl⟩
@[simp] theorem State.updFo_rdBit (s : State) (n : Nat) (f : FocH → FocH) (g : RF) (gb gi gj : Nat) : (s.updFo n f).rdBit g gb gi gj = s.rdBit g gb gi gj := rfl
@[simp] theorem State.updFo_byte (s : State) (n : Nat) (f : FocH → FocH) (ga : Nat) : (s.updFo n f).byte ga = s.byte ga := rfl
theorem State.updFo_same (s : State) (n : Nat) (f : FocH → FocH) : (s.updFo n f).fo n = f (s.fo n) := Tab.get_put_self _ _ _ _
theorem State.updFo_other (s : State) (n : Nat) (f : FocH → FocH) {x : Nat} (h : x ≠ n) : (s.updFo n f).fo x = s.fo x := Tab.get_put_ne _ _ _ _ h

@[simp] theorem State.updCm_keeps (s : State) (n : Nat) (f : CmtH → CmtH) :
    (s.updCm n f).dtime = s.dtime ∧ (s.updCm n f).regs = s.regs ∧ (s.updCm n f).mem = s.mem ∧ (s.updCm n f).flips = s.flips ∧
    (s.updCm n f).scrub = s.scrub ∧ (s.updCm n f).vios = s.vios ∧ (s.updCm n f).resp = s.resp ∧ (s.updCm n f).latches = s.latches ∧
    (s.updCm n f).glatches = s.glatches ∧ (s.updCm n f).heldLo = s.heldLo ∧ (s.updCm n f).justSet = s.justSet ∧ (s.updCm n f).posted = s.posted ∧
    (s.updCm n f).debugOverride = s.debugOverride ∧ (s.updCm n f).irqLines = s.irqLines ∧ (s.updCm n f).recd = s.recd ∧
    (s.updCm n f).freeCtr = s.freeCtr ∧ (s.updCm n f).tbs = s.tbs ∧ (s.updCm n f).slots = s.slots ∧ (s.updCm n f).tachs = s.tachs ∧
    (s.updCm n f).ssiEnd = s.ssiEnd ∧ (s.updCm n f).timeH = s.timeH ∧ (s.updCm n f).obss = s.obss ∧ (s.updCm n f).nets = s.nets ∧
    (s.updCm n f).lanes = s.lanes ∧ (s.updCm n f).jobs = s.jobs ∧ (s.updCm n f).pjobs = s.pjobs ∧ (s.updCm n f).obsLoad = s.obsLoad ∧
    (s.updCm n f).obsRemove = s.obsRemove ∧ (s.updCm n f).pvSettle = s.pvSettle ∧ (s.updCm n f).pwms = s.pwms ∧ (s.updCm n f).pxbs = s.pxbs ∧
    (s.updCm n f).focs = s.focs ∧ (s.updCm n f).pvs = s.pvs ∧ (s.updCm n f).chans = s.chans ∧ (s.updCm n f).mons = s.mons ∧ (s.updCm n f).hks = s.hks ∧
    (s.updCm n f).vibs = s.vibs ∧ (s.updCm n f).cal = s.cal ∧ (s.updCm n f).segs = s.segs ∧ (s.updCm n f).ctxs = s.ctxs ∧ (s.updCm n f).engs = s.engs ∧
    (s.updCm n f).qRetired = s.qRetired ∧ (s.updCm n f).utilRef = s.utilRef ∧ (s.updCm n f).babIns = s.babIns ∧ (s.updCm n f).babCloses = s.babCloses ∧
    (s.updCm n f).babCosts = s.babCosts ∧ (s.updCm n f).babCtxs = s.babCtxs ∧ (s.updCm n f).safAxs = s.safAxs ∧ (s.updCm n f).safIns = s.safIns ∧
    (s.updCm n f).tests = s.tests ∧ (s.updCm n f).saf = s.saf ∧ (s.updCm n f).age = s.age ∧ (s.updCm n f).fuses = s.fuses ∧
    (s.updCm n f).steer = s.steer ∧ (s.updCm n f).bist = s.bist ∧ (s.updCm n f).sup = s.sup ∧ (s.updCm n f).mbs = s.mbs ∧ (s.updCm n f).sec = s.sec ∧
    (s.updCm n f).pwr = s.pwr ∧ (s.updCm n f).lnks = s.lnks ∧ (s.updCm n f).ext = s.ext ∧ (s.updCm n f).pending = s.pending :=
  ⟨rfl, rfl, rfl, rfl, rfl, rfl, rfl, rfl, rfl, rfl, rfl, rfl, rfl, rfl, rfl, rfl, rfl, rfl, rfl, rfl, rfl, rfl, rfl, rfl, rfl, rfl, rfl, rfl, rfl, rfl, rfl, rfl, rfl, rfl, rfl, rfl, rfl, rfl, rfl, rfl, rfl, rfl, rfl, rfl, rfl, rfl, rfl, rfl, rfl, rfl, rfl, rfl, rfl, rfl, rfl, rfl, rfl, rfl, rfl, rfl, rfl, rfl⟩
@[simp] theorem State.updCm_reg (s : State) (n : Nat) (f : CmtH → CmtH) (ga : Nat) : (s.updCm n f).reg ga = s.reg ga := rfl
@[simp] theorem State.updCm_rd (s : State) (n : Nat) (f : CmtH → CmtH) (g : RF) (gi gj : Nat) :
    (s.updCm n f).rd g gi gj = s.rd g gi gj ∧ (s.updCm n f).rdS g gi gj = s.rdS g gi gj ∧ (s.updCm n f).flag g gi gj = s.flag g gi gj := ⟨rfl, rfl, rfl⟩
@[simp] theorem State.updCm_rdBit (s : State) (n : Nat) (f : CmtH → CmtH) (g : RF) (gb gi gj : Nat) : (s.updCm n f).rdBit g gb gi gj = s.rdBit g gb gi gj := rfl
@[simp] theorem State.updCm_byte (s : State) (n : Nat) (f : CmtH → CmtH) (ga : Nat) : (s.updCm n f).byte ga = s.byte ga := rfl
theorem State.updCm_same (s : State) (n : Nat) (f : CmtH → CmtH) : (s.updCm n f).cm n = f (s.cm n) := Tab.get_put_self _ _ _ _
theorem State.updCm_other (s : State) (n : Nat) (f : CmtH → CmtH) {x : Nat} (h : x ≠ n) : (s.updCm n f).cm x = s.cm x := Tab.get_put_ne _ _ _ _ h

@[simp] theorem State.updSx_keeps (s : State) (n : Nat) (f : SafAxH → SafAxH) :
    (s.updSx n f).dtime = s.dtime ∧ (s.updSx n f).regs = s.regs ∧ (s.updSx n f).mem = s.mem ∧ (s.updSx n f).flips = s.flips ∧
    (s.updSx n f).scrub = s.scrub ∧ (s.updSx n f).vios = s.vios ∧ (s.updSx n f).resp = s.resp ∧ (s.updSx n f).latches = s.latches ∧
    (s.updSx n f).glatches = s.glatches ∧ (s.updSx n f).heldLo = s.heldLo ∧ (s.updSx n f).justSet = s.justSet ∧ (s.updSx n f).posted = s.posted ∧
    (s.updSx n f).debugOverride = s.debugOverride ∧ (s.updSx n f).irqLines = s.irqLines ∧ (s.updSx n f).recd = s.recd ∧
    (s.updSx n f).freeCtr = s.freeCtr ∧ (s.updSx n f).tbs = s.tbs ∧ (s.updSx n f).slots = s.slots ∧ (s.updSx n f).tachs = s.tachs ∧
    (s.updSx n f).ssiEnd = s.ssiEnd ∧ (s.updSx n f).timeH = s.timeH ∧ (s.updSx n f).obss = s.obss ∧ (s.updSx n f).nets = s.nets ∧
    (s.updSx n f).lanes = s.lanes ∧ (s.updSx n f).jobs = s.jobs ∧ (s.updSx n f).pjobs = s.pjobs ∧ (s.updSx n f).obsLoad = s.obsLoad ∧
    (s.updSx n f).obsRemove = s.obsRemove ∧ (s.updSx n f).pvSettle = s.pvSettle ∧ (s.updSx n f).pwms = s.pwms ∧ (s.updSx n f).pxbs = s.pxbs ∧
    (s.updSx n f).focs = s.focs ∧ (s.updSx n f).cmts = s.cmts ∧ (s.updSx n f).pvs = s.pvs ∧ (s.updSx n f).chans = s.chans ∧ (s.updSx n f).mons = s.mons ∧
    (s.updSx n f).hks = s.hks ∧ (s.updSx n f).vibs = s.vibs ∧ (s.updSx n f).cal = s.cal ∧ (s.updSx n f).segs = s.segs ∧ (s.updSx n f).ctxs = s.ctxs ∧
    (s.updSx n f).engs = s.engs ∧ (s.updSx n f).qRetired = s.qRetired ∧ (s.updSx n f).utilRef = s.utilRef ∧ (s.updSx n f).babIns = s.babIns ∧
    (s.updSx n f).babCloses = s.babCloses ∧ (s.updSx n f).babCosts = s.babCosts ∧ (s.updSx n f).babCtxs = s.babCtxs ∧ (s.updSx n f).safIns = s.safIns ∧
    (s.updSx n f).tests = s.tests ∧ (s.updSx n f).saf = s.saf ∧ (s.updSx n f).age = s.age ∧ (s.updSx n f).fuses = s.fuses ∧
    (s.updSx n f).steer = s.steer ∧ (s.updSx n f).bist = s.bist ∧ (s.updSx n f).sup = s.sup ∧ (s.updSx n f).mbs = s.mbs ∧ (s.updSx n f).sec = s.sec ∧
    (s.updSx n f).pwr = s.pwr ∧ (s.updSx n f).lnks = s.lnks ∧ (s.updSx n f).ext = s.ext ∧ (s.updSx n f).pending = s.pending :=
  ⟨rfl, rfl, rfl, rfl, rfl, rfl, rfl, rfl, rfl, rfl, rfl, rfl, rfl, rfl, rfl, rfl, rfl, rfl, rfl, rfl, rfl, rfl, rfl, rfl, rfl, rfl, rfl, rfl, rfl, rfl, rfl, rfl, rfl, rfl, rfl, rfl, rfl, rfl, rfl, rfl, rfl, rfl, rfl, rfl, rfl, rfl, rfl, rfl, rfl, rfl, rfl, rfl, rfl, rfl, rfl, rfl, rfl, rfl, rfl, rfl, rfl, rfl⟩
@[simp] theorem State.updSx_reg (s : State) (n : Nat) (f : SafAxH → SafAxH) (ga : Nat) : (s.updSx n f).reg ga = s.reg ga := rfl
@[simp] theorem State.updSx_rd (s : State) (n : Nat) (f : SafAxH → SafAxH) (g : RF) (gi gj : Nat) :
    (s.updSx n f).rd g gi gj = s.rd g gi gj ∧ (s.updSx n f).rdS g gi gj = s.rdS g gi gj ∧ (s.updSx n f).flag g gi gj = s.flag g gi gj := ⟨rfl, rfl, rfl⟩
@[simp] theorem State.updSx_rdBit (s : State) (n : Nat) (f : SafAxH → SafAxH) (g : RF) (gb gi gj : Nat) : (s.updSx n f).rdBit g gb gi gj = s.rdBit g gb gi gj := rfl
@[simp] theorem State.updSx_byte (s : State) (n : Nat) (f : SafAxH → SafAxH) (ga : Nat) : (s.updSx n f).byte ga = s.byte ga := rfl
theorem State.updSx_same (s : State) (n : Nat) (f : SafAxH → SafAxH) : (s.updSx n f).sx n = f (s.sx n) := Tab.get_put_self _ _ _ _
theorem State.updSx_other (s : State) (n : Nat) (f : SafAxH → SafAxH) {x : Nat} (h : x ≠ n) : (s.updSx n f).sx x = s.sx x := Tab.get_put_ne _ _ _ _ h

@[simp] theorem State.faultHold_keeps (s : State) (f : FaultH) :
    (s.faultHold f).dtime = s.dtime ∧ (s.faultHold f).regs = s.regs ∧ (s.faultHold f).mem = s.mem ∧ (s.faultHold f).flips = s.flips ∧
    (s.faultHold f).scrub = s.scrub ∧ (s.faultHold f).vios = s.vios ∧ (s.faultHold f).resp = s.resp ∧ (s.faultHold f).latches = s.latches ∧
    (s.faultHold f).glatches = s.glatches ∧ (s.faultHold f).heldLo = s.heldLo ∧ (s.faultHold f).justSet = s.justSet ∧ (s.faultHold f).posted = s.posted ∧
    (s.faultHold f).debugOverride = s.debugOverride ∧ (s.faultHold f).irqLines = s.irqLines ∧ (s.faultHold f).recd = s.recd ∧
    (s.faultHold f).freeCtr = s.freeCtr ∧ (s.faultHold f).tbs = s.tbs ∧ (s.faultHold f).slots = s.slots ∧ (s.faultHold f).tachs = s.tachs ∧
    (s.faultHold f).ssiEnd = s.ssiEnd ∧ (s.faultHold f).timeH = s.timeH ∧ (s.faultHold f).obss = s.obss ∧ (s.faultHold f).nets = s.nets ∧
    (s.faultHold f).lanes = s.lanes ∧ (s.faultHold f).jobs = s.jobs ∧ (s.faultHold f).pjobs = s.pjobs ∧ (s.faultHold f).obsLoad = s.obsLoad ∧
    (s.faultHold f).obsRemove = s.obsRemove ∧ (s.faultHold f).pvSettle = s.pvSettle ∧ (s.faultHold f).pwms = s.pwms ∧ (s.faultHold f).pxbs = s.pxbs ∧
    (s.faultHold f).focs = s.focs ∧ (s.faultHold f).cmts = s.cmts ∧ (s.faultHold f).pvs = s.pvs ∧ (s.faultHold f).chans = s.chans ∧
    (s.faultHold f).mons = s.mons ∧ (s.faultHold f).hks = s.hks ∧ (s.faultHold f).vibs = s.vibs ∧ (s.faultHold f).cal = s.cal ∧
    (s.faultHold f).segs = s.segs ∧ (s.faultHold f).ctxs = s.ctxs ∧ (s.faultHold f).engs = s.engs ∧ (s.faultHold f).qRetired = s.qRetired ∧
    (s.faultHold f).utilRef = s.utilRef ∧ (s.faultHold f).babIns = s.babIns ∧ (s.faultHold f).babCloses = s.babCloses ∧
    (s.faultHold f).babCosts = s.babCosts ∧ (s.faultHold f).babCtxs = s.babCtxs ∧ (s.faultHold f).safAxs = s.safAxs ∧ (s.faultHold f).safIns = s.safIns ∧
    (s.faultHold f).tests = s.tests ∧ (s.faultHold f).age = s.age ∧ (s.faultHold f).fuses = s.fuses ∧ (s.faultHold f).steer = s.steer ∧
    (s.faultHold f).bist = s.bist ∧ (s.faultHold f).sup = s.sup ∧ (s.faultHold f).mbs = s.mbs ∧ (s.faultHold f).sec = s.sec ∧
    (s.faultHold f).pwr = s.pwr ∧ (s.faultHold f).lnks = s.lnks ∧ (s.faultHold f).ext = s.ext ∧ (s.faultHold f).pending = s.pending :=
  ⟨rfl, rfl, rfl, rfl, rfl, rfl, rfl, rfl, rfl, rfl, rfl, rfl, rfl, rfl, rfl, rfl, rfl, rfl, rfl, rfl, rfl, rfl, rfl, rfl, rfl, rfl, rfl, rfl, rfl, rfl, rfl, rfl, rfl, rfl, rfl, rfl, rfl, rfl, rfl, rfl, rfl, rfl, rfl, rfl, rfl, rfl, rfl, rfl, rfl, rfl, rfl, rfl, rfl, rfl, rfl, rfl, rfl, rfl, rfl, rfl, rfl, rfl⟩
@[simp] theorem State.faultHold_reg (s : State) (f : FaultH) (ga : Nat) : (s.faultHold f).reg ga = s.reg ga := rfl
@[simp] theorem State.faultHold_rd (s : State) (f : FaultH) (g : RF) (gi gj : Nat) :
    (s.faultHold f).rd g gi gj = s.rd g gi gj ∧ (s.faultHold f).rdS g gi gj = s.rdS g gi gj ∧ (s.faultHold f).flag g gi gj = s.flag g gi gj := ⟨rfl, rfl, rfl⟩
@[simp] theorem State.faultHold_rdBit (s : State) (f : FaultH) (g : RF) (gb gi gj : Nat) : (s.faultHold f).rdBit g gb gi gj = s.rdBit g gb gi gj := rfl
@[simp] theorem State.faultHold_byte (s : State) (f : FaultH) (ga : Nat) : (s.faultHold f).byte ga = s.byte ga := rfl

@[simp] theorem State.updSi_keeps (s : State) (k : Nat) (f : SafInH → SafInH) :
    (s.updSi k f).dtime = s.dtime ∧ (s.updSi k f).regs = s.regs ∧ (s.updSi k f).mem = s.mem ∧ (s.updSi k f).flips = s.flips ∧
    (s.updSi k f).scrub = s.scrub ∧ (s.updSi k f).vios = s.vios ∧ (s.updSi k f).resp = s.resp ∧ (s.updSi k f).latches = s.latches ∧
    (s.updSi k f).glatches = s.glatches ∧ (s.updSi k f).heldLo = s.heldLo ∧ (s.updSi k f).justSet = s.justSet ∧ (s.updSi k f).posted = s.posted ∧
    (s.updSi k f).debugOverride = s.debugOverride ∧ (s.updSi k f).irqLines = s.irqLines ∧ (s.updSi k f).recd = s.recd ∧
    (s.updSi k f).freeCtr = s.freeCtr ∧ (s.updSi k f).tbs = s.tbs ∧ (s.updSi k f).slots = s.slots ∧ (s.updSi k f).tachs = s.tachs ∧
    (s.updSi k f).ssiEnd = s.ssiEnd ∧ (s.updSi k f).timeH = s.timeH ∧ (s.updSi k f).obss = s.obss ∧ (s.updSi k f).nets = s.nets ∧
    (s.updSi k f).lanes = s.lanes ∧ (s.updSi k f).jobs = s.jobs ∧ (s.updSi k f).pjobs = s.pjobs ∧ (s.updSi k f).obsLoad = s.obsLoad ∧
    (s.updSi k f).obsRemove = s.obsRemove ∧ (s.updSi k f).pvSettle = s.pvSettle ∧ (s.updSi k f).pwms = s.pwms ∧ (s.updSi k f).pxbs = s.pxbs ∧
    (s.updSi k f).focs = s.focs ∧ (s.updSi k f).cmts = s.cmts ∧ (s.updSi k f).pvs = s.pvs ∧ (s.updSi k f).chans = s.chans ∧ (s.updSi k f).mons = s.mons ∧
    (s.updSi k f).hks = s.hks ∧ (s.updSi k f).vibs = s.vibs ∧ (s.updSi k f).cal = s.cal ∧ (s.updSi k f).segs = s.segs ∧ (s.updSi k f).ctxs = s.ctxs ∧
    (s.updSi k f).engs = s.engs ∧ (s.updSi k f).qRetired = s.qRetired ∧ (s.updSi k f).utilRef = s.utilRef ∧ (s.updSi k f).babIns = s.babIns ∧
    (s.updSi k f).babCloses = s.babCloses ∧ (s.updSi k f).babCosts = s.babCosts ∧ (s.updSi k f).babCtxs = s.babCtxs ∧ (s.updSi k f).safAxs = s.safAxs ∧
    (s.updSi k f).tests = s.tests ∧ (s.updSi k f).saf = s.saf ∧ (s.updSi k f).age = s.age ∧ (s.updSi k f).fuses = s.fuses ∧
    (s.updSi k f).steer = s.steer ∧ (s.updSi k f).bist = s.bist ∧ (s.updSi k f).sup = s.sup ∧ (s.updSi k f).mbs = s.mbs ∧ (s.updSi k f).sec = s.sec ∧
    (s.updSi k f).pwr = s.pwr ∧ (s.updSi k f).lnks = s.lnks ∧ (s.updSi k f).ext = s.ext ∧ (s.updSi k f).pending = s.pending :=
  ⟨rfl, rfl, rfl, rfl, rfl, rfl, rfl, rfl, rfl, rfl, rfl, rfl, rfl, rfl, rfl, rfl, rfl, rfl, rfl, rfl, rfl, rfl, rfl, rfl, rfl, rfl, rfl, rfl, rfl, rfl, rfl, rfl, rfl, rfl, rfl, rfl, rfl, rfl, rfl, rfl, rfl, rfl, rfl, rfl, rfl, rfl, rfl, rfl, rfl, rfl, rfl, rfl, rfl, rfl, rfl, rfl, rfl, rfl, rfl, rfl, rfl, rfl⟩
@[simp] theorem State.updSi_reg (s : State) (k : Nat) (f : SafInH → SafInH) (ga : Nat) : (s.updSi k f).reg ga = s.reg ga := rfl
@[simp] theorem State.updSi_rd (s : State) (k : Nat) (f : SafInH → SafInH) (g : RF) (gi gj : Nat) :
    (s.updSi k f).rd g gi gj = s.rd g gi gj ∧ (s.updSi k f).rdS g gi gj = s.rdS g gi gj ∧ (s.updSi k f).flag g gi gj = s.flag g gi gj := ⟨rfl, rfl, rfl⟩
@[simp] theorem State.updSi_rdBit (s : State) (k : Nat) (f : SafInH → SafInH) (g : RF) (gb gi gj : Nat) : (s.updSi k f).rdBit g gb gi gj = s.rdBit g gb gi gj := rfl
@[simp] theorem State.updSi_byte (s : State) (k : Nat) (f : SafInH → SafInH) (ga : Nat) : (s.updSi k f).byte ga = s.byte ga := rfl
theorem State.updSi_same (s : State) (k : Nat) (f : SafInH → SafInH) : (s.updSi k f).si k = f (s.si k) := Tab.get_put_self _ _ _ _
theorem State.updSi_other (s : State) (k : Nat) (f : SafInH → SafInH) {x : Nat} (h : x ≠ k) : (s.updSi k f).si x = s.si x := Tab.get_put_ne _ _ _ _ h

@[simp] theorem State.updSaf_keeps (s : State) (f : SafH → SafH) :
    (s.updSaf f).dtime = s.dtime ∧ (s.updSaf f).regs = s.regs ∧ (s.updSaf f).mem = s.mem ∧ (s.updSaf f).flips = s.flips ∧ (s.updSaf f).scrub = s.scrub ∧
    (s.updSaf f).vios = s.vios ∧ (s.updSaf f).resp = s.resp ∧ (s.updSaf f).latches = s.latches ∧ (s.updSaf f).glatches = s.glatches ∧
    (s.updSaf f).heldLo = s.heldLo ∧ (s.updSaf f).justSet = s.justSet ∧ (s.updSaf f).posted = s.posted ∧ (s.updSaf f).debugOverride = s.debugOverride ∧
    (s.updSaf f).irqLines = s.irqLines ∧ (s.updSaf f).recd = s.recd ∧ (s.updSaf f).freeCtr = s.freeCtr ∧ (s.updSaf f).tbs = s.tbs ∧
    (s.updSaf f).slots = s.slots ∧ (s.updSaf f).tachs = s.tachs ∧ (s.updSaf f).ssiEnd = s.ssiEnd ∧ (s.updSaf f).timeH = s.timeH ∧
    (s.updSaf f).obss = s.obss ∧ (s.updSaf f).nets = s.nets ∧ (s.updSaf f).lanes = s.lanes ∧ (s.updSaf f).jobs = s.jobs ∧ (s.updSaf f).pjobs = s.pjobs ∧
    (s.updSaf f).obsLoad = s.obsLoad ∧ (s.updSaf f).obsRemove = s.obsRemove ∧ (s.updSaf f).pvSettle = s.pvSettle ∧ (s.updSaf f).pwms = s.pwms ∧
    (s.updSaf f).pxbs = s.pxbs ∧ (s.updSaf f).focs = s.focs ∧ (s.updSaf f).cmts = s.cmts ∧ (s.updSaf f).pvs = s.pvs ∧ (s.updSaf f).chans = s.chans ∧
    (s.updSaf f).mons = s.mons ∧ (s.updSaf f).hks = s.hks ∧ (s.updSaf f).vibs = s.vibs ∧ (s.updSaf f).cal = s.cal ∧ (s.updSaf f).segs = s.segs ∧
    (s.updSaf f).ctxs = s.ctxs ∧ (s.updSaf f).engs = s.engs ∧ (s.updSaf f).qRetired = s.qRetired ∧ (s.updSaf f).utilRef = s.utilRef ∧
    (s.updSaf f).babIns = s.babIns ∧ (s.updSaf f).babCloses = s.babCloses ∧ (s.updSaf f).babCosts = s.babCosts ∧ (s.updSaf f).babCtxs = s.babCtxs ∧
    (s.updSaf f).safAxs = s.safAxs ∧ (s.updSaf f).safIns = s.safIns ∧ (s.updSaf f).tests = s.tests ∧ (s.updSaf f).age = s.age ∧
    (s.updSaf f).fuses = s.fuses ∧ (s.updSaf f).steer = s.steer ∧ (s.updSaf f).bist = s.bist ∧ (s.updSaf f).sup = s.sup ∧ (s.updSaf f).mbs = s.mbs ∧
    (s.updSaf f).sec = s.sec ∧ (s.updSaf f).pwr = s.pwr ∧ (s.updSaf f).lnks = s.lnks ∧ (s.updSaf f).ext = s.ext ∧ (s.updSaf f).pending = s.pending :=
  ⟨rfl, rfl, rfl, rfl, rfl, rfl, rfl, rfl, rfl, rfl, rfl, rfl, rfl, rfl, rfl, rfl, rfl, rfl, rfl, rfl, rfl, rfl, rfl, rfl, rfl, rfl, rfl, rfl, rfl, rfl, rfl, rfl, rfl, rfl, rfl, rfl, rfl, rfl, rfl, rfl, rfl, rfl, rfl, rfl, rfl, rfl, rfl, rfl, rfl, rfl, rfl, rfl, rfl, rfl, rfl, rfl, rfl, rfl, rfl, rfl, rfl, rfl⟩
@[simp] theorem State.updSaf_reg (s : State) (f : SafH → SafH) (ga : Nat) : (s.updSaf f).reg ga = s.reg ga := rfl
@[simp] theorem State.updSaf_rd (s : State) (f : SafH → SafH) (g : RF) (gi gj : Nat) :
    (s.updSaf f).rd g gi gj = s.rd g gi gj ∧ (s.updSaf f).rdS g gi gj = s.rdS g gi gj ∧ (s.updSaf f).flag g gi gj = s.flag g gi gj := ⟨rfl, rfl, rfl⟩
@[simp] theorem State.updSaf_rdBit (s : State) (f : SafH → SafH) (g : RF) (gb gi gj : Nat) : (s.updSaf f).rdBit g gb gi gj = s.rdBit g gb gi gj := rfl
@[simp] theorem State.updSaf_byte (s : State) (f : SafH → SafH) (ga : Nat) : (s.updSaf f).byte ga = s.byte ga := rfl

@[simp] theorem State.updTst_keeps (s : State) (u : Nat) (f : TestH → TestH) :
    (s.updTst u f).dtime = s.dtime ∧ (s.updTst u f).regs = s.regs ∧ (s.updTst u f).mem = s.mem ∧ (s.updTst u f).flips = s.flips ∧
    (s.updTst u f).scrub = s.scrub ∧ (s.updTst u f).vios = s.vios ∧ (s.updTst u f).resp = s.resp ∧ (s.updTst u f).latches = s.latches ∧
    (s.updTst u f).glatches = s.glatches ∧ (s.updTst u f).heldLo = s.heldLo ∧ (s.updTst u f).justSet = s.justSet ∧ (s.updTst u f).posted = s.posted ∧
    (s.updTst u f).debugOverride = s.debugOverride ∧ (s.updTst u f).irqLines = s.irqLines ∧ (s.updTst u f).recd = s.recd ∧
    (s.updTst u f).freeCtr = s.freeCtr ∧ (s.updTst u f).tbs = s.tbs ∧ (s.updTst u f).slots = s.slots ∧ (s.updTst u f).tachs = s.tachs ∧
    (s.updTst u f).ssiEnd = s.ssiEnd ∧ (s.updTst u f).timeH = s.timeH ∧ (s.updTst u f).obss = s.obss ∧ (s.updTst u f).nets = s.nets ∧
    (s.updTst u f).lanes = s.lanes ∧ (s.updTst u f).jobs = s.jobs ∧ (s.updTst u f).pjobs = s.pjobs ∧ (s.updTst u f).obsLoad = s.obsLoad ∧
    (s.updTst u f).obsRemove = s.obsRemove ∧ (s.updTst u f).pvSettle = s.pvSettle ∧ (s.updTst u f).pwms = s.pwms ∧ (s.updTst u f).pxbs = s.pxbs ∧
    (s.updTst u f).focs = s.focs ∧ (s.updTst u f).cmts = s.cmts ∧ (s.updTst u f).pvs = s.pvs ∧ (s.updTst u f).chans = s.chans ∧
    (s.updTst u f).mons = s.mons ∧ (s.updTst u f).hks = s.hks ∧ (s.updTst u f).vibs = s.vibs ∧ (s.updTst u f).cal = s.cal ∧
    (s.updTst u f).segs = s.segs ∧ (s.updTst u f).ctxs = s.ctxs ∧ (s.updTst u f).engs = s.engs ∧ (s.updTst u f).qRetired = s.qRetired ∧
    (s.updTst u f).utilRef = s.utilRef ∧ (s.updTst u f).babIns = s.babIns ∧ (s.updTst u f).babCloses = s.babCloses ∧
    (s.updTst u f).babCosts = s.babCosts ∧ (s.updTst u f).babCtxs = s.babCtxs ∧ (s.updTst u f).safAxs = s.safAxs ∧ (s.updTst u f).safIns = s.safIns ∧
    (s.updTst u f).saf = s.saf ∧ (s.updTst u f).age = s.age ∧ (s.updTst u f).fuses = s.fuses ∧ (s.updTst u f).steer = s.steer ∧
    (s.updTst u f).bist = s.bist ∧ (s.updTst u f).sup = s.sup ∧ (s.updTst u f).mbs = s.mbs ∧ (s.updTst u f).sec = s.sec ∧ (s.updTst u f).pwr = s.pwr ∧
    (s.updTst u f).lnks = s.lnks ∧ (s.updTst u f).ext = s.ext ∧ (s.updTst u f).pending = s.pending :=
  ⟨rfl, rfl, rfl, rfl, rfl, rfl, rfl, rfl, rfl, rfl, rfl, rfl, rfl, rfl, rfl, rfl, rfl, rfl, rfl, rfl, rfl, rfl, rfl, rfl, rfl, rfl, rfl, rfl, rfl, rfl, rfl, rfl, rfl, rfl, rfl, rfl, rfl, rfl, rfl, rfl, rfl, rfl, rfl, rfl, rfl, rfl, rfl, rfl, rfl, rfl, rfl, rfl, rfl, rfl, rfl, rfl, rfl, rfl, rfl, rfl, rfl, rfl⟩
@[simp] theorem State.updTst_reg (s : State) (u : Nat) (f : TestH → TestH) (ga : Nat) : (s.updTst u f).reg ga = s.reg ga := rfl
@[simp] theorem State.updTst_rd (s : State) (u : Nat) (f : TestH → TestH) (g : RF) (gi gj : Nat) :
    (s.updTst u f).rd g gi gj = s.rd g gi gj ∧ (s.updTst u f).rdS g gi gj = s.rdS g gi gj ∧ (s.updTst u f).flag g gi gj = s.flag g gi gj := ⟨rfl, rfl, rfl⟩
@[simp] theorem State.updTst_rdBit (s : State) (u : Nat) (f : TestH → TestH) (g : RF) (gb gi gj : Nat) : (s.updTst u f).rdBit g gb gi gj = s.rdBit g gb gi gj := rfl
@[simp] theorem State.updTst_byte (s : State) (u : Nat) (f : TestH → TestH) (ga : Nat) : (s.updTst u f).byte ga = s.byte ga := rfl
theorem State.updTst_same (s : State) (u : Nat) (f : TestH → TestH) : (s.updTst u f).tst u = f (s.tst u) := Tab.get_put_self _ _ _ _
theorem State.updTst_other (s : State) (u : Nat) (f : TestH → TestH) {x : Nat} (h : x ≠ u) : (s.updTst u f).tst x = s.tst x := Tab.get_put_ne _ _ _ _ h

@[simp] theorem State.ueResp_keeps (s : State) (n : Nat) :
    (s.ueResp n).dtime = s.dtime ∧ (s.ueResp n).regs = s.regs ∧ (s.ueResp n).mem = s.mem ∧ (s.ueResp n).flips = s.flips ∧ (s.ueResp n).scrub = s.scrub ∧
    (s.ueResp n).vios = s.vios ∧ (s.ueResp n).latches = s.latches ∧ (s.ueResp n).glatches = s.glatches ∧ (s.ueResp n).heldLo = s.heldLo ∧
    (s.ueResp n).justSet = s.justSet ∧ (s.ueResp n).posted = s.posted ∧ (s.ueResp n).debugOverride = s.debugOverride ∧
    (s.ueResp n).irqLines = s.irqLines ∧ (s.ueResp n).recd = s.recd ∧ (s.ueResp n).freeCtr = s.freeCtr ∧ (s.ueResp n).tbs = s.tbs ∧
    (s.ueResp n).slots = s.slots ∧ (s.ueResp n).tachs = s.tachs ∧ (s.ueResp n).ssiEnd = s.ssiEnd ∧ (s.ueResp n).timeH = s.timeH ∧
    (s.ueResp n).obss = s.obss ∧ (s.ueResp n).nets = s.nets ∧ (s.ueResp n).lanes = s.lanes ∧ (s.ueResp n).jobs = s.jobs ∧ (s.ueResp n).pjobs = s.pjobs ∧
    (s.ueResp n).obsLoad = s.obsLoad ∧ (s.ueResp n).obsRemove = s.obsRemove ∧ (s.ueResp n).pvSettle = s.pvSettle ∧ (s.ueResp n).pwms = s.pwms ∧
    (s.ueResp n).pxbs = s.pxbs ∧ (s.ueResp n).focs = s.focs ∧ (s.ueResp n).cmts = s.cmts ∧ (s.ueResp n).pvs = s.pvs ∧ (s.ueResp n).chans = s.chans ∧
    (s.ueResp n).mons = s.mons ∧ (s.ueResp n).hks = s.hks ∧ (s.ueResp n).vibs = s.vibs ∧ (s.ueResp n).cal = s.cal ∧ (s.ueResp n).segs = s.segs ∧
    (s.ueResp n).ctxs = s.ctxs ∧ (s.ueResp n).engs = s.engs ∧ (s.ueResp n).qRetired = s.qRetired ∧ (s.ueResp n).utilRef = s.utilRef ∧
    (s.ueResp n).babIns = s.babIns ∧ (s.ueResp n).babCloses = s.babCloses ∧ (s.ueResp n).babCosts = s.babCosts ∧ (s.ueResp n).babCtxs = s.babCtxs ∧
    (s.ueResp n).safAxs = s.safAxs ∧ (s.ueResp n).safIns = s.safIns ∧ (s.ueResp n).tests = s.tests ∧ (s.ueResp n).saf = s.saf ∧
    (s.ueResp n).age = s.age ∧ (s.ueResp n).fuses = s.fuses ∧ (s.ueResp n).steer = s.steer ∧ (s.ueResp n).bist = s.bist ∧ (s.ueResp n).sup = s.sup ∧
    (s.ueResp n).mbs = s.mbs ∧ (s.ueResp n).sec = s.sec ∧ (s.ueResp n).pwr = s.pwr ∧ (s.ueResp n).lnks = s.lnks ∧ (s.ueResp n).ext = s.ext ∧
    (s.ueResp n).pending = s.pending :=
  ⟨rfl, rfl, rfl, rfl, rfl, rfl, rfl, rfl, rfl, rfl, rfl, rfl, rfl, rfl, rfl, rfl, rfl, rfl, rfl, rfl, rfl, rfl, rfl, rfl, rfl, rfl, rfl, rfl, rfl, rfl, rfl, rfl, rfl, rfl, rfl, rfl, rfl, rfl, rfl, rfl, rfl, rfl, rfl, rfl, rfl, rfl, rfl, rfl, rfl, rfl, rfl, rfl, rfl, rfl, rfl, rfl, rfl, rfl, rfl, rfl, rfl, rfl⟩
@[simp] theorem State.ueResp_reg (s : State) (n : Nat) (ga : Nat) : (s.ueResp n).reg ga = s.reg ga := rfl
@[simp] theorem State.ueResp_rd (s : State) (n : Nat) (g : RF) (gi gj : Nat) :
    (s.ueResp n).rd g gi gj = s.rd g gi gj ∧ (s.ueResp n).rdS g gi gj = s.rdS g gi gj ∧ (s.ueResp n).flag g gi gj = s.flag g gi gj := ⟨rfl, rfl, rfl⟩
@[simp] theorem State.ueResp_rdBit (s : State) (n : Nat) (g : RF) (gb gi gj : Nat) : (s.ueResp n).rdBit g gb gi gj = s.rdBit g gb gi gj := rfl
@[simp] theorem State.ueResp_byte (s : State) (n : Nat) (ga : Nat) : (s.ueResp n).byte ga = s.byte ga := rfl

@[simp] theorem State.updSup_keeps (s : State) (f : SupH → SupH) :
    (s.updSup f).dtime = s.dtime ∧ (s.updSup f).regs = s.regs ∧ (s.updSup f).mem = s.mem ∧ (s.updSup f).flips = s.flips ∧ (s.updSup f).scrub = s.scrub ∧
    (s.updSup f).vios = s.vios ∧ (s.updSup f).resp = s.resp ∧ (s.updSup f).latches = s.latches ∧ (s.updSup f).glatches = s.glatches ∧
    (s.updSup f).heldLo = s.heldLo ∧ (s.updSup f).justSet = s.justSet ∧ (s.updSup f).posted = s.posted ∧ (s.updSup f).debugOverride = s.debugOverride ∧
    (s.updSup f).irqLines = s.irqLines ∧ (s.updSup f).recd = s.recd ∧ (s.updSup f).freeCtr = s.freeCtr ∧ (s.updSup f).tbs = s.tbs ∧
    (s.updSup f).slots = s.slots ∧ (s.updSup f).tachs = s.tachs ∧ (s.updSup f).ssiEnd = s.ssiEnd ∧ (s.updSup f).timeH = s.timeH ∧
    (s.updSup f).obss = s.obss ∧ (s.updSup f).nets = s.nets ∧ (s.updSup f).lanes = s.lanes ∧ (s.updSup f).jobs = s.jobs ∧ (s.updSup f).pjobs = s.pjobs ∧
    (s.updSup f).obsLoad = s.obsLoad ∧ (s.updSup f).obsRemove = s.obsRemove ∧ (s.updSup f).pvSettle = s.pvSettle ∧ (s.updSup f).pwms = s.pwms ∧
    (s.updSup f).pxbs = s.pxbs ∧ (s.updSup f).focs = s.focs ∧ (s.updSup f).cmts = s.cmts ∧ (s.updSup f).pvs = s.pvs ∧ (s.updSup f).chans = s.chans ∧
    (s.updSup f).mons = s.mons ∧ (s.updSup f).hks = s.hks ∧ (s.updSup f).vibs = s.vibs ∧ (s.updSup f).cal = s.cal ∧ (s.updSup f).segs = s.segs ∧
    (s.updSup f).ctxs = s.ctxs ∧ (s.updSup f).engs = s.engs ∧ (s.updSup f).qRetired = s.qRetired ∧ (s.updSup f).utilRef = s.utilRef ∧
    (s.updSup f).babIns = s.babIns ∧ (s.updSup f).babCloses = s.babCloses ∧ (s.updSup f).babCosts = s.babCosts ∧ (s.updSup f).babCtxs = s.babCtxs ∧
    (s.updSup f).safAxs = s.safAxs ∧ (s.updSup f).safIns = s.safIns ∧ (s.updSup f).tests = s.tests ∧ (s.updSup f).saf = s.saf ∧
    (s.updSup f).age = s.age ∧ (s.updSup f).fuses = s.fuses ∧ (s.updSup f).steer = s.steer ∧ (s.updSup f).bist = s.bist ∧ (s.updSup f).mbs = s.mbs ∧
    (s.updSup f).sec = s.sec ∧ (s.updSup f).pwr = s.pwr ∧ (s.updSup f).lnks = s.lnks ∧ (s.updSup f).ext = s.ext ∧ (s.updSup f).pending = s.pending :=
  ⟨rfl, rfl, rfl, rfl, rfl, rfl, rfl, rfl, rfl, rfl, rfl, rfl, rfl, rfl, rfl, rfl, rfl, rfl, rfl, rfl, rfl, rfl, rfl, rfl, rfl, rfl, rfl, rfl, rfl, rfl, rfl, rfl, rfl, rfl, rfl, rfl, rfl, rfl, rfl, rfl, rfl, rfl, rfl, rfl, rfl, rfl, rfl, rfl, rfl, rfl, rfl, rfl, rfl, rfl, rfl, rfl, rfl, rfl, rfl, rfl, rfl, rfl⟩
@[simp] theorem State.updSup_reg (s : State) (f : SupH → SupH) (ga : Nat) : (s.updSup f).reg ga = s.reg ga := rfl
@[simp] theorem State.updSup_rd (s : State) (f : SupH → SupH) (g : RF) (gi gj : Nat) :
    (s.updSup f).rd g gi gj = s.rd g gi gj ∧ (s.updSup f).rdS g gi gj = s.rdS g gi gj ∧ (s.updSup f).flag g gi gj = s.flag g gi gj := ⟨rfl, rfl, rfl⟩
@[simp] theorem State.updSup_rdBit (s : State) (f : SupH → SupH) (g : RF) (gb gi gj : Nat) : (s.updSup f).rdBit g gb gi gj = s.rdBit g gb gi gj := rfl
@[simp] theorem State.updSup_byte (s : State) (f : SupH → SupH) (ga : Nat) : (s.updSup f).byte ga = s.byte ga := rfl

@[simp] theorem State.setMb_keeps (s : State) (b : Nat) (c : Option MbCmdH) :
    (s.setMb b c).dtime = s.dtime ∧ (s.setMb b c).regs = s.regs ∧ (s.setMb b c).mem = s.mem ∧ (s.setMb b c).flips = s.flips ∧
    (s.setMb b c).scrub = s.scrub ∧ (s.setMb b c).vios = s.vios ∧ (s.setMb b c).resp = s.resp ∧ (s.setMb b c).latches = s.latches ∧
    (s.setMb b c).glatches = s.glatches ∧ (s.setMb b c).heldLo = s.heldLo ∧ (s.setMb b c).justSet = s.justSet ∧ (s.setMb b c).posted = s.posted ∧
    (s.setMb b c).debugOverride = s.debugOverride ∧ (s.setMb b c).irqLines = s.irqLines ∧ (s.setMb b c).recd = s.recd ∧
    (s.setMb b c).freeCtr = s.freeCtr ∧ (s.setMb b c).tbs = s.tbs ∧ (s.setMb b c).slots = s.slots ∧ (s.setMb b c).tachs = s.tachs ∧
    (s.setMb b c).ssiEnd = s.ssiEnd ∧ (s.setMb b c).timeH = s.timeH ∧ (s.setMb b c).obss = s.obss ∧ (s.setMb b c).nets = s.nets ∧
    (s.setMb b c).lanes = s.lanes ∧ (s.setMb b c).jobs = s.jobs ∧ (s.setMb b c).pjobs = s.pjobs ∧ (s.setMb b c).obsLoad = s.obsLoad ∧
    (s.setMb b c).obsRemove = s.obsRemove ∧ (s.setMb b c).pvSettle = s.pvSettle ∧ (s.setMb b c).pwms = s.pwms ∧ (s.setMb b c).pxbs = s.pxbs ∧
    (s.setMb b c).focs = s.focs ∧ (s.setMb b c).cmts = s.cmts ∧ (s.setMb b c).pvs = s.pvs ∧ (s.setMb b c).chans = s.chans ∧ (s.setMb b c).mons = s.mons ∧
    (s.setMb b c).hks = s.hks ∧ (s.setMb b c).vibs = s.vibs ∧ (s.setMb b c).cal = s.cal ∧ (s.setMb b c).segs = s.segs ∧ (s.setMb b c).ctxs = s.ctxs ∧
    (s.setMb b c).engs = s.engs ∧ (s.setMb b c).qRetired = s.qRetired ∧ (s.setMb b c).utilRef = s.utilRef ∧ (s.setMb b c).babIns = s.babIns ∧
    (s.setMb b c).babCloses = s.babCloses ∧ (s.setMb b c).babCosts = s.babCosts ∧ (s.setMb b c).babCtxs = s.babCtxs ∧ (s.setMb b c).safAxs = s.safAxs ∧
    (s.setMb b c).safIns = s.safIns ∧ (s.setMb b c).tests = s.tests ∧ (s.setMb b c).saf = s.saf ∧ (s.setMb b c).age = s.age ∧
    (s.setMb b c).fuses = s.fuses ∧ (s.setMb b c).steer = s.steer ∧ (s.setMb b c).bist = s.bist ∧ (s.setMb b c).sup = s.sup ∧ (s.setMb b c).sec = s.sec ∧
    (s.setMb b c).pwr = s.pwr ∧ (s.setMb b c).lnks = s.lnks ∧ (s.setMb b c).ext = s.ext ∧ (s.setMb b c).pending = s.pending :=
  ⟨rfl, rfl, rfl, rfl, rfl, rfl, rfl, rfl, rfl, rfl, rfl, rfl, rfl, rfl, rfl, rfl, rfl, rfl, rfl, rfl, rfl, rfl, rfl, rfl, rfl, rfl, rfl, rfl, rfl, rfl, rfl, rfl, rfl, rfl, rfl, rfl, rfl, rfl, rfl, rfl, rfl, rfl, rfl, rfl, rfl, rfl, rfl, rfl, rfl, rfl, rfl, rfl, rfl, rfl, rfl, rfl, rfl, rfl, rfl, rfl, rfl, rfl⟩
@[simp] theorem State.setMb_reg (s : State) (b : Nat) (c : Option MbCmdH) (ga : Nat) : (s.setMb b c).reg ga = s.reg ga := rfl
@[simp] theorem State.setMb_rd (s : State) (b : Nat) (c : Option MbCmdH) (g : RF) (gi gj : Nat) :
    (s.setMb b c).rd g gi gj = s.rd g gi gj ∧ (s.setMb b c).rdS g gi gj = s.rdS g gi gj ∧ (s.setMb b c).flag g gi gj = s.flag g gi gj := ⟨rfl, rfl, rfl⟩
@[simp] theorem State.setMb_rdBit (s : State) (b : Nat) (c : Option MbCmdH) (g : RF) (gb gi gj : Nat) : (s.setMb b c).rdBit g gb gi gj = s.rdBit g gb gi gj := rfl
@[simp] theorem State.setMb_byte (s : State) (b : Nat) (c : Option MbCmdH) (ga : Nat) : (s.setMb b c).byte ga = s.byte ga := rfl

@[simp] theorem State.updTb_keeps (s : State) (t : Nat) (f : TbH → TbH) :
    (s.updTb t f).dtime = s.dtime ∧ (s.updTb t f).regs = s.regs ∧ (s.updTb t f).mem = s.mem ∧ (s.updTb t f).flips = s.flips ∧
    (s.updTb t f).scrub = s.scrub ∧ (s.updTb t f).vios = s.vios ∧ (s.updTb t f).resp = s.resp ∧ (s.updTb t f).latches = s.latches ∧
    (s.updTb t f).glatches = s.glatches ∧ (s.updTb t f).heldLo = s.heldLo ∧ (s.updTb t f).justSet = s.justSet ∧ (s.updTb t f).posted = s.posted ∧
    (s.updTb t f).debugOverride = s.debugOverride ∧ (s.updTb t f).irqLines = s.irqLines ∧ (s.updTb t f).recd = s.recd ∧
    (s.updTb t f).freeCtr = s.freeCtr ∧ (s.updTb t f).slots = s.slots ∧ (s.updTb t f).tachs = s.tachs ∧ (s.updTb t f).ssiEnd = s.ssiEnd ∧
    (s.updTb t f).timeH = s.timeH ∧ (s.updTb t f).obss = s.obss ∧ (s.updTb t f).nets = s.nets ∧ (s.updTb t f).lanes = s.lanes ∧
    (s.updTb t f).jobs = s.jobs ∧ (s.updTb t f).pjobs = s.pjobs ∧ (s.updTb t f).obsLoad = s.obsLoad ∧ (s.updTb t f).obsRemove = s.obsRemove ∧
    (s.updTb t f).pvSettle = s.pvSettle ∧ (s.updTb t f).pwms = s.pwms ∧ (s.updTb t f).pxbs = s.pxbs ∧ (s.updTb t f).focs = s.focs ∧
    (s.updTb t f).cmts = s.cmts ∧ (s.updTb t f).pvs = s.pvs ∧ (s.updTb t f).chans = s.chans ∧ (s.updTb t f).mons = s.mons ∧ (s.updTb t f).hks = s.hks ∧
    (s.updTb t f).vibs = s.vibs ∧ (s.updTb t f).cal = s.cal ∧ (s.updTb t f).segs = s.segs ∧ (s.updTb t f).ctxs = s.ctxs ∧ (s.updTb t f).engs = s.engs ∧
    (s.updTb t f).qRetired = s.qRetired ∧ (s.updTb t f).utilRef = s.utilRef ∧ (s.updTb t f).babIns = s.babIns ∧ (s.updTb t f).babCloses = s.babCloses ∧
    (s.updTb t f).babCosts = s.babCosts ∧ (s.updTb t f).babCtxs = s.babCtxs ∧ (s.updTb t f).safAxs = s.safAxs ∧ (s.updTb t f).safIns = s.safIns ∧
    (s.updTb t f).tests = s.tests ∧ (s.updTb t f).saf = s.saf ∧ (s.updTb t f).age = s.age ∧ (s.updTb t f).fuses = s.fuses ∧
    (s.updTb t f).steer = s.steer ∧ (s.updTb t f).bist = s.bist ∧ (s.updTb t f).sup = s.sup ∧ (s.updTb t f).mbs = s.mbs ∧ (s.updTb t f).sec = s.sec ∧
    (s.updTb t f).pwr = s.pwr ∧ (s.updTb t f).lnks = s.lnks ∧ (s.updTb t f).ext = s.ext ∧ (s.updTb t f).pending = s.pending :=
  ⟨rfl, rfl, rfl, rfl, rfl, rfl, rfl, rfl, rfl, rfl, rfl, rfl, rfl, rfl, rfl, rfl, rfl, rfl, rfl, rfl, rfl, rfl, rfl, rfl, rfl, rfl, rfl, rfl, rfl, rfl, rfl, rfl, rfl, rfl, rfl, rfl, rfl, rfl, rfl, rfl, rfl, rfl, rfl, rfl, rfl, rfl, rfl, rfl, rfl, rfl, rfl, rfl, rfl, rfl, rfl, rfl, rfl, rfl, rfl, rfl, rfl, rfl⟩
@[simp] theorem State.updTb_reg (s : State) (t : Nat) (f : TbH → TbH) (ga : Nat) : (s.updTb t f).reg ga = s.reg ga := rfl
@[simp] theorem State.updTb_rd (s : State) (t : Nat) (f : TbH → TbH) (g : RF) (gi gj : Nat) :
    (s.updTb t f).rd g gi gj = s.rd g gi gj ∧ (s.updTb t f).rdS g gi gj = s.rdS g gi gj ∧ (s.updTb t f).flag g gi gj = s.flag g gi gj := ⟨rfl, rfl, rfl⟩
@[simp] theorem State.updTb_rdBit (s : State) (t : Nat) (f : TbH → TbH) (g : RF) (gb gi gj : Nat) : (s.updTb t f).rdBit g gb gi gj = s.rdBit g gb gi gj := rfl
@[simp] theorem State.updTb_byte (s : State) (t : Nat) (f : TbH → TbH) (ga : Nat) : (s.updTb t f).byte ga = s.byte ga := rfl
theorem State.updTb_same (s : State) (t : Nat) (f : TbH → TbH) : (s.updTb t f).tb t = f (s.tb t) := Tab.get_put_self _ _ _ _
theorem State.updTb_other (s : State) (t : Nat) (f : TbH → TbH) {x : Nat} (h : x ≠ t) : (s.updTb t f).tb x = s.tb x := Tab.get_put_ne _ _ _ _ h

@[simp] theorem State.updBi_keeps (s : State) (v : Nat) (f : BabInH → BabInH) :
    (s.updBi v f).dtime = s.dtime ∧ (s.updBi v f).regs = s.regs ∧ (s.updBi v f).mem = s.mem ∧ (s.updBi v f).flips = s.flips ∧
    (s.updBi v f).scrub = s.scrub ∧ (s.updBi v f).vios = s.vios ∧ (s.updBi v f).resp = s.resp ∧ (s.updBi v f).latches = s.latches ∧
    (s.updBi v f).glatches = s.glatches ∧ (s.updBi v f).heldLo = s.heldLo ∧ (s.updBi v f).justSet = s.justSet ∧ (s.updBi v f).posted = s.posted ∧
    (s.updBi v f).debugOverride = s.debugOverride ∧ (s.updBi v f).irqLines = s.irqLines ∧ (s.updBi v f).recd = s.recd ∧
    (s.updBi v f).freeCtr = s.freeCtr ∧ (s.updBi v f).tbs = s.tbs ∧ (s.updBi v f).slots = s.slots ∧ (s.updBi v f).tachs = s.tachs ∧
    (s.updBi v f).ssiEnd = s.ssiEnd ∧ (s.updBi v f).timeH = s.timeH ∧ (s.updBi v f).obss = s.obss ∧ (s.updBi v f).nets = s.nets ∧
    (s.updBi v f).lanes = s.lanes ∧ (s.updBi v f).jobs = s.jobs ∧ (s.updBi v f).pjobs = s.pjobs ∧ (s.updBi v f).obsLoad = s.obsLoad ∧
    (s.updBi v f).obsRemove = s.obsRemove ∧ (s.updBi v f).pvSettle = s.pvSettle ∧ (s.updBi v f).pwms = s.pwms ∧ (s.updBi v f).pxbs = s.pxbs ∧
    (s.updBi v f).focs = s.focs ∧ (s.updBi v f).cmts = s.cmts ∧ (s.updBi v f).pvs = s.pvs ∧ (s.updBi v f).chans = s.chans ∧ (s.updBi v f).mons = s.mons ∧
    (s.updBi v f).hks = s.hks ∧ (s.updBi v f).vibs = s.vibs ∧ (s.updBi v f).cal = s.cal ∧ (s.updBi v f).segs = s.segs ∧ (s.updBi v f).ctxs = s.ctxs ∧
    (s.updBi v f).engs = s.engs ∧ (s.updBi v f).qRetired = s.qRetired ∧ (s.updBi v f).utilRef = s.utilRef ∧ (s.updBi v f).babCloses = s.babCloses ∧
    (s.updBi v f).babCosts = s.babCosts ∧ (s.updBi v f).babCtxs = s.babCtxs ∧ (s.updBi v f).safAxs = s.safAxs ∧ (s.updBi v f).safIns = s.safIns ∧
    (s.updBi v f).tests = s.tests ∧ (s.updBi v f).saf = s.saf ∧ (s.updBi v f).age = s.age ∧ (s.updBi v f).fuses = s.fuses ∧
    (s.updBi v f).steer = s.steer ∧ (s.updBi v f).bist = s.bist ∧ (s.updBi v f).sup = s.sup ∧ (s.updBi v f).mbs = s.mbs ∧ (s.updBi v f).sec = s.sec ∧
    (s.updBi v f).pwr = s.pwr ∧ (s.updBi v f).lnks = s.lnks ∧ (s.updBi v f).ext = s.ext ∧ (s.updBi v f).pending = s.pending :=
  ⟨rfl, rfl, rfl, rfl, rfl, rfl, rfl, rfl, rfl, rfl, rfl, rfl, rfl, rfl, rfl, rfl, rfl, rfl, rfl, rfl, rfl, rfl, rfl, rfl, rfl, rfl, rfl, rfl, rfl, rfl, rfl, rfl, rfl, rfl, rfl, rfl, rfl, rfl, rfl, rfl, rfl, rfl, rfl, rfl, rfl, rfl, rfl, rfl, rfl, rfl, rfl, rfl, rfl, rfl, rfl, rfl, rfl, rfl, rfl, rfl, rfl, rfl⟩
@[simp] theorem State.updBi_reg (s : State) (v : Nat) (f : BabInH → BabInH) (ga : Nat) : (s.updBi v f).reg ga = s.reg ga := rfl
@[simp] theorem State.updBi_rd (s : State) (v : Nat) (f : BabInH → BabInH) (g : RF) (gi gj : Nat) :
    (s.updBi v f).rd g gi gj = s.rd g gi gj ∧ (s.updBi v f).rdS g gi gj = s.rdS g gi gj ∧ (s.updBi v f).flag g gi gj = s.flag g gi gj := ⟨rfl, rfl, rfl⟩
@[simp] theorem State.updBi_rdBit (s : State) (v : Nat) (f : BabInH → BabInH) (g : RF) (gb gi gj : Nat) : (s.updBi v f).rdBit g gb gi gj = s.rdBit g gb gi gj := rfl
@[simp] theorem State.updBi_byte (s : State) (v : Nat) (f : BabInH → BabInH) (ga : Nat) : (s.updBi v f).byte ga = s.byte ga := rfl
theorem State.updBi_same (s : State) (v : Nat) (f : BabInH → BabInH) : (s.updBi v f).bi v = f (s.bi v) := Tab.get_put_self _ _ _ _
theorem State.updBi_other (s : State) (v : Nat) (f : BabInH → BabInH) {x : Nat} (h : x ≠ v) : (s.updBi v f).bi x = s.bi x := Tab.get_put_ne _ _ _ _ h

@[simp] theorem State.updSg_keeps (s : State) (b : Nat) (f : SegH → SegH) :
    (s.updSg b f).dtime = s.dtime ∧ (s.updSg b f).regs = s.regs ∧ (s.updSg b f).mem = s.mem ∧ (s.updSg b f).flips = s.flips ∧
    (s.updSg b f).scrub = s.scrub ∧ (s.updSg b f).vios = s.vios ∧ (s.updSg b f).resp = s.resp ∧ (s.updSg b f).latches = s.latches ∧
    (s.updSg b f).glatches = s.glatches ∧ (s.updSg b f).heldLo = s.heldLo ∧ (s.updSg b f).justSet = s.justSet ∧ (s.updSg b f).posted = s.posted ∧
    (s.updSg b f).debugOverride = s.debugOverride ∧ (s.updSg b f).irqLines = s.irqLines ∧ (s.updSg b f).recd = s.recd ∧
    (s.updSg b f).freeCtr = s.freeCtr ∧ (s.updSg b f).tbs = s.tbs ∧ (s.updSg b f).slots = s.slots ∧ (s.updSg b f).tachs = s.tachs ∧
    (s.updSg b f).ssiEnd = s.ssiEnd ∧ (s.updSg b f).timeH = s.timeH ∧ (s.updSg b f).obss = s.obss ∧ (s.updSg b f).nets = s.nets ∧
    (s.updSg b f).lanes = s.lanes ∧ (s.updSg b f).jobs = s.jobs ∧ (s.updSg b f).pjobs = s.pjobs ∧ (s.updSg b f).obsLoad = s.obsLoad ∧
    (s.updSg b f).obsRemove = s.obsRemove ∧ (s.updSg b f).pvSettle = s.pvSettle ∧ (s.updSg b f).pwms = s.pwms ∧ (s.updSg b f).pxbs = s.pxbs ∧
    (s.updSg b f).focs = s.focs ∧ (s.updSg b f).cmts = s.cmts ∧ (s.updSg b f).pvs = s.pvs ∧ (s.updSg b f).chans = s.chans ∧ (s.updSg b f).mons = s.mons ∧
    (s.updSg b f).hks = s.hks ∧ (s.updSg b f).vibs = s.vibs ∧ (s.updSg b f).cal = s.cal ∧ (s.updSg b f).ctxs = s.ctxs ∧ (s.updSg b f).engs = s.engs ∧
    (s.updSg b f).qRetired = s.qRetired ∧ (s.updSg b f).utilRef = s.utilRef ∧ (s.updSg b f).babIns = s.babIns ∧ (s.updSg b f).babCloses = s.babCloses ∧
    (s.updSg b f).babCosts = s.babCosts ∧ (s.updSg b f).babCtxs = s.babCtxs ∧ (s.updSg b f).safAxs = s.safAxs ∧ (s.updSg b f).safIns = s.safIns ∧
    (s.updSg b f).tests = s.tests ∧ (s.updSg b f).saf = s.saf ∧ (s.updSg b f).age = s.age ∧ (s.updSg b f).fuses = s.fuses ∧
    (s.updSg b f).steer = s.steer ∧ (s.updSg b f).bist = s.bist ∧ (s.updSg b f).sup = s.sup ∧ (s.updSg b f).mbs = s.mbs ∧ (s.updSg b f).sec = s.sec ∧
    (s.updSg b f).pwr = s.pwr ∧ (s.updSg b f).lnks = s.lnks ∧ (s.updSg b f).ext = s.ext ∧ (s.updSg b f).pending = s.pending :=
  ⟨rfl, rfl, rfl, rfl, rfl, rfl, rfl, rfl, rfl, rfl, rfl, rfl, rfl, rfl, rfl, rfl, rfl, rfl, rfl, rfl, rfl, rfl, rfl, rfl, rfl, rfl, rfl, rfl, rfl, rfl, rfl, rfl, rfl, rfl, rfl, rfl, rfl, rfl, rfl, rfl, rfl, rfl, rfl, rfl, rfl, rfl, rfl, rfl, rfl, rfl, rfl, rfl, rfl, rfl, rfl, rfl, rfl, rfl, rfl, rfl, rfl, rfl⟩
@[simp] theorem State.updSg_reg (s : State) (b : Nat) (f : SegH → SegH) (ga : Nat) : (s.updSg b f).reg ga = s.reg ga := rfl
@[simp] theorem State.updSg_rd (s : State) (b : Nat) (f : SegH → SegH) (g : RF) (gi gj : Nat) :
    (s.updSg b f).rd g gi gj = s.rd g gi gj ∧ (s.updSg b f).rdS g gi gj = s.rdS g gi gj ∧ (s.updSg b f).flag g gi gj = s.flag g gi gj := ⟨rfl, rfl, rfl⟩
@[simp] theorem State.updSg_rdBit (s : State) (b : Nat) (f : SegH → SegH) (g : RF) (gb gi gj : Nat) : (s.updSg b f).rdBit g gb gi gj = s.rdBit g gb gi gj := rfl
@[simp] theorem State.updSg_byte (s : State) (b : Nat) (f : SegH → SegH) (ga : Nat) : (s.updSg b f).byte ga = s.byte ga := rfl
theorem State.updSg_same (s : State) (b : Nat) (f : SegH → SegH) : (s.updSg b f).sg b = f (s.sg b) := Tab.get_put_self _ _ _ _
theorem State.updSg_other (s : State) (b : Nat) (f : SegH → SegH) {x : Nat} (h : x ≠ b) : (s.updSg b f).sg x = s.sg x := Tab.get_put_ne _ _ _ _ h

@[simp] theorem State.wr_keeps (s : State) (f : RF) (v i j : Nat) :
    (s.wr f v i j).dtime = s.dtime ∧ (s.wr f v i j).mem = s.mem ∧ (s.wr f v i j).flips = s.flips ∧ (s.wr f v i j).scrub = s.scrub ∧
    (s.wr f v i j).vios = s.vios ∧ (s.wr f v i j).resp = s.resp ∧ (s.wr f v i j).latches = s.latches ∧ (s.wr f v i j).glatches = s.glatches ∧
    (s.wr f v i j).heldLo = s.heldLo ∧ (s.wr f v i j).justSet = s.justSet ∧ (s.wr f v i j).posted = s.posted ∧
    (s.wr f v i j).debugOverride = s.debugOverride ∧ (s.wr f v i j).irqLines = s.irqLines ∧ (s.wr f v i j).recd = s.recd ∧
    (s.wr f v i j).freeCtr = s.freeCtr ∧ (s.wr f v i j).tbs = s.tbs ∧ (s.wr f v i j).slots = s.slots ∧ (s.wr f v i j).tachs = s.tachs ∧
    (s.wr f v i j).ssiEnd = s.ssiEnd ∧ (s.wr f v i j).timeH = s.timeH ∧ (s.wr f v i j).obss = s.obss ∧ (s.wr f v i j).nets = s.nets ∧
    (s.wr f v i j).lanes = s.lanes ∧ (s.wr f v i j).jobs = s.jobs ∧ (s.wr f v i j).pjobs = s.pjobs ∧ (s.wr f v i j).obsLoad = s.obsLoad ∧
    (s.wr f v i j).obsRemove = s.obsRemove ∧ (s.wr f v i j).pvSettle = s.pvSettle ∧ (s.wr f v i j).pwms = s.pwms ∧ (s.wr f v i j).pxbs = s.pxbs ∧
    (s.wr f v i j).focs = s.focs ∧ (s.wr f v i j).cmts = s.cmts ∧ (s.wr f v i j).pvs = s.pvs ∧ (s.wr f v i j).chans = s.chans ∧
    (s.wr f v i j).mons = s.mons ∧ (s.wr f v i j).hks = s.hks ∧ (s.wr f v i j).vibs = s.vibs ∧ (s.wr f v i j).cal = s.cal ∧
    (s.wr f v i j).segs = s.segs ∧ (s.wr f v i j).ctxs = s.ctxs ∧ (s.wr f v i j).engs = s.engs ∧ (s.wr f v i j).qRetired = s.qRetired ∧
    (s.wr f v i j).utilRef = s.utilRef ∧ (s.wr f v i j).babIns = s.babIns ∧ (s.wr f v i j).babCloses = s.babCloses ∧
    (s.wr f v i j).babCosts = s.babCosts ∧ (s.wr f v i j).babCtxs = s.babCtxs ∧ (s.wr f v i j).safAxs = s.safAxs ∧ (s.wr f v i j).safIns = s.safIns ∧
    (s.wr f v i j).tests = s.tests ∧ (s.wr f v i j).saf = s.saf ∧ (s.wr f v i j).age = s.age ∧ (s.wr f v i j).fuses = s.fuses ∧
    (s.wr f v i j).steer = s.steer ∧ (s.wr f v i j).bist = s.bist ∧ (s.wr f v i j).sup = s.sup ∧ (s.wr f v i j).mbs = s.mbs ∧
    (s.wr f v i j).sec = s.sec ∧ (s.wr f v i j).pwr = s.pwr ∧ (s.wr f v i j).lnks = s.lnks ∧ (s.wr f v i j).ext = s.ext ∧
    (s.wr f v i j).pending = s.pending := by
  unfold State.wr; dsimp only; split <;> exact ⟨rfl, rfl, rfl, rfl, rfl, rfl, rfl, rfl, rfl, rfl, rfl, rfl, rfl, rfl, rfl, rfl, rfl, rfl, rfl, rfl, rfl, rfl, rfl, rfl, rfl, rfl, rfl, rfl, rfl, rfl, rfl, rfl, rfl, rfl, rfl, rfl, rfl, rfl, rfl, rfl, rfl, rfl, rfl, rfl, rfl, rfl, rfl, rfl, rfl, rfl, rfl, rfl, rfl, rfl, rfl, rfl, rfl, rfl, rfl, rfl, rfl, rfl⟩
@[simp] theorem State.wr_byte (s : State) (f : RF) (v i j : Nat) (y : Nat) : (s.wr f v i j).byte y = s.byte y := by simp [State.byte]

@[simp] theorem State.raise_keeps (s : State) (f : RF) (i j : Nat) :
    (s.raise f i j).dtime = s.dtime ∧ (s.raise f i j).mem = s.mem ∧ (s.raise f i j).flips = s.flips ∧ (s.raise f i j).scrub = s.scrub ∧
    (s.raise f i j).vios = s.vios ∧ (s.raise f i j).resp = s.resp ∧ (s.raise f i j).latches = s.latches ∧ (s.raise f i j).glatches = s.glatches ∧
    (s.raise f i j).heldLo = s.heldLo ∧ (s.raise f i j).posted = s.posted ∧ (s.raise f i j).debugOverride = s.debugOverride ∧
    (s.raise f i j).irqLines = s.irqLines ∧ (s.raise f i j).recd = s.recd ∧ (s.raise f i j).freeCtr = s.freeCtr ∧ (s.raise f i j).tbs = s.tbs ∧
    (s.raise f i j).slots = s.slots ∧ (s.raise f i j).tachs = s.tachs ∧ (s.raise f i j).ssiEnd = s.ssiEnd ∧ (s.raise f i j).timeH = s.timeH ∧
    (s.raise f i j).obss = s.obss ∧ (s.raise f i j).nets = s.nets ∧ (s.raise f i j).lanes = s.lanes ∧ (s.raise f i j).jobs = s.jobs ∧
    (s.raise f i j).pjobs = s.pjobs ∧ (s.raise f i j).obsLoad = s.obsLoad ∧ (s.raise f i j).obsRemove = s.obsRemove ∧
    (s.raise f i j).pvSettle = s.pvSettle ∧ (s.raise f i j).pwms = s.pwms ∧ (s.raise f i j).pxbs = s.pxbs ∧ (s.raise f i j).focs = s.focs ∧
    (s.raise f i j).cmts = s.cmts ∧ (s.raise f i j).pvs = s.pvs ∧ (s.raise f i j).chans = s.chans ∧ (s.raise f i j).mons = s.mons ∧
    (s.raise f i j).hks = s.hks ∧ (s.raise f i j).vibs = s.vibs ∧ (s.raise f i j).cal = s.cal ∧ (s.raise f i j).segs = s.segs ∧
    (s.raise f i j).ctxs = s.ctxs ∧ (s.raise f i j).engs = s.engs ∧ (s.raise f i j).qRetired = s.qRetired ∧ (s.raise f i j).utilRef = s.utilRef ∧
    (s.raise f i j).babIns = s.babIns ∧ (s.raise f i j).babCloses = s.babCloses ∧ (s.raise f i j).babCosts = s.babCosts ∧
    (s.raise f i j).babCtxs = s.babCtxs ∧ (s.raise f i j).safAxs = s.safAxs ∧ (s.raise f i j).safIns = s.safIns ∧ (s.raise f i j).tests = s.tests ∧
    (s.raise f i j).saf = s.saf ∧ (s.raise f i j).age = s.age ∧ (s.raise f i j).fuses = s.fuses ∧ (s.raise f i j).steer = s.steer ∧
    (s.raise f i j).bist = s.bist ∧ (s.raise f i j).sup = s.sup ∧ (s.raise f i j).mbs = s.mbs ∧ (s.raise f i j).sec = s.sec ∧
    (s.raise f i j).pwr = s.pwr ∧ (s.raise f i j).lnks = s.lnks ∧ (s.raise f i j).ext = s.ext ∧ (s.raise f i j).pending = s.pending := by
  unfold State.raise State.noteSet; have h := State.wr_keeps s f 1 i j; simp only [h, and_self]
@[simp] theorem State.raise_byte (s : State) (f : RF) (i j : Nat) (y : Nat) : (s.raise f i j).byte y = s.byte y := by simp [State.byte]

@[simp] theorem State.clear_keeps (s : State) (f : RF) (i j : Nat) :
    (s.clear f i j).dtime = s.dtime ∧ (s.clear f i j).mem = s.mem ∧ (s.clear f i j).flips = s.flips ∧ (s.clear f i j).scrub = s.scrub ∧
    (s.clear f i j).vios = s.vios ∧ (s.clear f i j).resp = s.resp ∧ (s.clear f i j).latches = s.latches ∧ (s.clear f i j).glatches = s.glatches ∧
    (s.clear f i j).heldLo = s.heldLo ∧ (s.clear f i j).justSet = s.justSet ∧ (s.clear f i j).posted = s.posted ∧
    (s.clear f i j).debugOverride = s.debugOverride ∧ (s.clear f i j).irqLines = s.irqLines ∧ (s.clear f i j).recd = s.recd ∧
    (s.clear f i j).freeCtr = s.freeCtr ∧ (s.clear f i j).tbs = s.tbs ∧ (s.clear f i j).slots = s.slots ∧ (s.clear f i j).tachs = s.tachs ∧
    (s.clear f i j).ssiEnd = s.ssiEnd ∧ (s.clear f i j).timeH = s.timeH ∧ (s.clear f i j).obss = s.obss ∧ (s.clear f i j).nets = s.nets ∧
    (s.clear f i j).lanes = s.lanes ∧ (s.clear f i j).jobs = s.jobs ∧ (s.clear f i j).pjobs = s.pjobs ∧ (s.clear f i j).obsLoad = s.obsLoad ∧
    (s.clear f i j).obsRemove = s.obsRemove ∧ (s.clear f i j).pvSettle = s.pvSettle ∧ (s.clear f i j).pwms = s.pwms ∧ (s.clear f i j).pxbs = s.pxbs ∧
    (s.clear f i j).focs = s.focs ∧ (s.clear f i j).cmts = s.cmts ∧ (s.clear f i j).pvs = s.pvs ∧ (s.clear f i j).chans = s.chans ∧
    (s.clear f i j).mons = s.mons ∧ (s.clear f i j).hks = s.hks ∧ (s.clear f i j).vibs = s.vibs ∧ (s.clear f i j).cal = s.cal ∧
    (s.clear f i j).segs = s.segs ∧ (s.clear f i j).ctxs = s.ctxs ∧ (s.clear f i j).engs = s.engs ∧ (s.clear f i j).qRetired = s.qRetired ∧
    (s.clear f i j).utilRef = s.utilRef ∧ (s.clear f i j).babIns = s.babIns ∧ (s.clear f i j).babCloses = s.babCloses ∧
    (s.clear f i j).babCosts = s.babCosts ∧ (s.clear f i j).babCtxs = s.babCtxs ∧ (s.clear f i j).safAxs = s.safAxs ∧ (s.clear f i j).safIns = s.safIns ∧
    (s.clear f i j).tests = s.tests ∧ (s.clear f i j).saf = s.saf ∧ (s.clear f i j).age = s.age ∧ (s.clear f i j).fuses = s.fuses ∧
    (s.clear f i j).steer = s.steer ∧ (s.clear f i j).bist = s.bist ∧ (s.clear f i j).sup = s.sup ∧ (s.clear f i j).mbs = s.mbs ∧
    (s.clear f i j).sec = s.sec ∧ (s.clear f i j).pwr = s.pwr ∧ (s.clear f i j).lnks = s.lnks ∧ (s.clear f i j).ext = s.ext ∧
    (s.clear f i j).pending = s.pending := by
  exact State.wr_keeps s f _ i j
@[simp] theorem State.clear_byte (s : State) (f : RF) (i j : Nat) (y : Nat) : (s.clear f i j).byte y = s.byte y := by simp [State.byte]

@[simp] theorem State.put_keeps (s : State) (f : RF) (b : Bool) (i j : Nat) :
    (s.put f b i j).dtime = s.dtime ∧ (s.put f b i j).mem = s.mem ∧ (s.put f b i j).flips = s.flips ∧ (s.put f b i j).scrub = s.scrub ∧
    (s.put f b i j).vios = s.vios ∧ (s.put f b i j).resp = s.resp ∧ (s.put f b i j).latches = s.latches ∧ (s.put f b i j).glatches = s.glatches ∧
    (s.put f b i j).heldLo = s.heldLo ∧ (s.put f b i j).posted = s.posted ∧ (s.put f b i j).debugOverride = s.debugOverride ∧
    (s.put f b i j).irqLines = s.irqLines ∧ (s.put f b i j).recd = s.recd ∧ (s.put f b i j).freeCtr = s.freeCtr ∧ (s.put f b i j).tbs = s.tbs ∧
    (s.put f b i j).slots = s.slots ∧ (s.put f b i j).tachs = s.tachs ∧ (s.put f b i j).ssiEnd = s.ssiEnd ∧ (s.put f b i j).timeH = s.timeH ∧
    (s.put f b i j).obss = s.obss ∧ (s.put f b i j).nets = s.nets ∧ (s.put f b i j).lanes = s.lanes ∧ (s.put f b i j).jobs = s.jobs ∧
    (s.put f b i j).pjobs = s.pjobs ∧ (s.put f b i j).obsLoad = s.obsLoad ∧ (s.put f b i j).obsRemove = s.obsRemove ∧
    (s.put f b i j).pvSettle = s.pvSettle ∧ (s.put f b i j).pwms = s.pwms ∧ (s.put f b i j).pxbs = s.pxbs ∧ (s.put f b i j).focs = s.focs ∧
    (s.put f b i j).cmts = s.cmts ∧ (s.put f b i j).pvs = s.pvs ∧ (s.put f b i j).chans = s.chans ∧ (s.put f b i j).mons = s.mons ∧
    (s.put f b i j).hks = s.hks ∧ (s.put f b i j).vibs = s.vibs ∧ (s.put f b i j).cal = s.cal ∧ (s.put f b i j).segs = s.segs ∧
    (s.put f b i j).ctxs = s.ctxs ∧ (s.put f b i j).engs = s.engs ∧ (s.put f b i j).qRetired = s.qRetired ∧ (s.put f b i j).utilRef = s.utilRef ∧
    (s.put f b i j).babIns = s.babIns ∧ (s.put f b i j).babCloses = s.babCloses ∧ (s.put f b i j).babCosts = s.babCosts ∧
    (s.put f b i j).babCtxs = s.babCtxs ∧ (s.put f b i j).safAxs = s.safAxs ∧ (s.put f b i j).safIns = s.safIns ∧ (s.put f b i j).tests = s.tests ∧
    (s.put f b i j).saf = s.saf ∧ (s.put f b i j).age = s.age ∧ (s.put f b i j).fuses = s.fuses ∧ (s.put f b i j).steer = s.steer ∧
    (s.put f b i j).bist = s.bist ∧ (s.put f b i j).sup = s.sup ∧ (s.put f b i j).mbs = s.mbs ∧ (s.put f b i j).sec = s.sec ∧
    (s.put f b i j).pwr = s.pwr ∧ (s.put f b i j).lnks = s.lnks ∧ (s.put f b i j).ext = s.ext ∧ (s.put f b i j).pending = s.pending := by
  unfold State.put; split
  · exact State.raise_keeps s f i j
  · have h := State.clear_keeps s f i j; simp only [h, and_self]
@[simp] theorem State.put_byte (s : State) (f : RF) (b : Bool) (i j : Nat) (y : Nat) : (s.put f b i j).byte y = s.byte y := by simp [State.byte]

@[simp] theorem State.incWrap_keeps (s : State) (f : RF) (i j n : Nat) :
    (s.incWrap f i j n).dtime = s.dtime ∧ (s.incWrap f i j n).mem = s.mem ∧ (s.incWrap f i j n).flips = s.flips ∧ (s.incWrap f i j n).scrub = s.scrub ∧
    (s.incWrap f i j n).vios = s.vios ∧ (s.incWrap f i j n).resp = s.resp ∧ (s.incWrap f i j n).latches = s.latches ∧
    (s.incWrap f i j n).glatches = s.glatches ∧ (s.incWrap f i j n).heldLo = s.heldLo ∧ (s.incWrap f i j n).justSet = s.justSet ∧
    (s.incWrap f i j n).posted = s.posted ∧ (s.incWrap f i j n).debugOverride = s.debugOverride ∧ (s.incWrap f i j n).irqLines = s.irqLines ∧
    (s.incWrap f i j n).recd = s.recd ∧ (s.incWrap f i j n).freeCtr = s.freeCtr ∧ (s.incWrap f i j n).tbs = s.tbs ∧ (s.incWrap f i j n).slots = s.slots ∧
    (s.incWrap f i j n).tachs = s.tachs ∧ (s.incWrap f i j n).ssiEnd = s.ssiEnd ∧ (s.incWrap f i j n).timeH = s.timeH ∧
    (s.incWrap f i j n).obss = s.obss ∧ (s.incWrap f i j n).nets = s.nets ∧ (s.incWrap f i j n).lanes = s.lanes ∧ (s.incWrap f i j n).jobs = s.jobs ∧
    (s.incWrap f i j n).pjobs = s.pjobs ∧ (s.incWrap f i j n).obsLoad = s.obsLoad ∧ (s.incWrap f i j n).obsRemove = s.obsRemove ∧
    (s.incWrap f i j n).pvSettle = s.pvSettle ∧ (s.incWrap f i j n).pwms = s.pwms ∧ (s.incWrap f i j n).pxbs = s.pxbs ∧
    (s.incWrap f i j n).focs = s.focs ∧ (s.incWrap f i j n).cmts = s.cmts ∧ (s.incWrap f i j n).pvs = s.pvs ∧ (s.incWrap f i j n).chans = s.chans ∧
    (s.incWrap f i j n).mons = s.mons ∧ (s.incWrap f i j n).hks = s.hks ∧ (s.incWrap f i j n).vibs = s.vibs ∧ (s.incWrap f i j n).cal = s.cal ∧
    (s.incWrap f i j n).segs = s.segs ∧ (s.incWrap f i j n).ctxs = s.ctxs ∧ (s.incWrap f i j n).engs = s.engs ∧
    (s.incWrap f i j n).qRetired = s.qRetired ∧ (s.incWrap f i j n).utilRef = s.utilRef ∧ (s.incWrap f i j n).babIns = s.babIns ∧
    (s.incWrap f i j n).babCloses = s.babCloses ∧ (s.incWrap f i j n).babCosts = s.babCosts ∧ (s.incWrap f i j n).babCtxs = s.babCtxs ∧
    (s.incWrap f i j n).safAxs = s.safAxs ∧ (s.incWrap f i j n).safIns = s.safIns ∧ (s.incWrap f i j n).tests = s.tests ∧
    (s.incWrap f i j n).saf = s.saf ∧ (s.incWrap f i j n).age = s.age ∧ (s.incWrap f i j n).fuses = s.fuses ∧ (s.incWrap f i j n).steer = s.steer ∧
    (s.incWrap f i j n).bist = s.bist ∧ (s.incWrap f i j n).sup = s.sup ∧ (s.incWrap f i j n).mbs = s.mbs ∧ (s.incWrap f i j n).sec = s.sec ∧
    (s.incWrap f i j n).pwr = s.pwr ∧ (s.incWrap f i j n).lnks = s.lnks ∧ (s.incWrap f i j n).ext = s.ext ∧ (s.incWrap f i j n).pending = s.pending := by
  exact State.wr_keeps s f _ i j
@[simp] theorem State.incWrap_byte (s : State) (f : RF) (i j n : Nat) (y : Nat) : (s.incWrap f i j n).byte y = s.byte y := by simp [State.byte]

@[simp] theorem State.incSat_keeps (s : State) (f : RF) (i j n : Nat) :
    (s.incSat f i j n).dtime = s.dtime ∧ (s.incSat f i j n).mem = s.mem ∧ (s.incSat f i j n).flips = s.flips ∧ (s.incSat f i j n).scrub = s.scrub ∧
    (s.incSat f i j n).vios = s.vios ∧ (s.incSat f i j n).resp = s.resp ∧ (s.incSat f i j n).latches = s.latches ∧
    (s.incSat f i j n).glatches = s.glatches ∧ (s.incSat f i j n).heldLo = s.heldLo ∧ (s.incSat f i j n).justSet = s.justSet ∧
    (s.incSat f i j n).posted = s.posted ∧ (s.incSat f i j n).debugOverride = s.debugOverride ∧ (s.incSat f i j n).irqLines = s.irqLines ∧
    (s.incSat f i j n).recd = s.recd ∧ (s.incSat f i j n).freeCtr = s.freeCtr ∧ (s.incSat f i j n).tbs = s.tbs ∧ (s.incSat f i j n).slots = s.slots ∧
    (s.incSat f i j n).tachs = s.tachs ∧ (s.incSat f i j n).ssiEnd = s.ssiEnd ∧ (s.incSat f i j n).timeH = s.timeH ∧ (s.incSat f i j n).obss = s.obss ∧
    (s.incSat f i j n).nets = s.nets ∧ (s.incSat f i j n).lanes = s.lanes ∧ (s.incSat f i j n).jobs = s.jobs ∧ (s.incSat f i j n).pjobs = s.pjobs ∧
    (s.incSat f i j n).obsLoad = s.obsLoad ∧ (s.incSat f i j n).obsRemove = s.obsRemove ∧ (s.incSat f i j n).pvSettle = s.pvSettle ∧
    (s.incSat f i j n).pwms = s.pwms ∧ (s.incSat f i j n).pxbs = s.pxbs ∧ (s.incSat f i j n).focs = s.focs ∧ (s.incSat f i j n).cmts = s.cmts ∧
    (s.incSat f i j n).pvs = s.pvs ∧ (s.incSat f i j n).chans = s.chans ∧ (s.incSat f i j n).mons = s.mons ∧ (s.incSat f i j n).hks = s.hks ∧
    (s.incSat f i j n).vibs = s.vibs ∧ (s.incSat f i j n).cal = s.cal ∧ (s.incSat f i j n).segs = s.segs ∧ (s.incSat f i j n).ctxs = s.ctxs ∧
    (s.incSat f i j n).engs = s.engs ∧ (s.incSat f i j n).qRetired = s.qRetired ∧ (s.incSat f i j n).utilRef = s.utilRef ∧
    (s.incSat f i j n).babIns = s.babIns ∧ (s.incSat f i j n).babCloses = s.babCloses ∧ (s.incSat f i j n).babCosts = s.babCosts ∧
    (s.incSat f i j n).babCtxs = s.babCtxs ∧ (s.incSat f i j n).safAxs = s.safAxs ∧ (s.incSat f i j n).safIns = s.safIns ∧
    (s.incSat f i j n).tests = s.tests ∧ (s.incSat f i j n).saf = s.saf ∧ (s.incSat f i j n).age = s.age ∧ (s.incSat f i j n).fuses = s.fuses ∧
    (s.incSat f i j n).steer = s.steer ∧ (s.incSat f i j n).bist = s.bist ∧ (s.incSat f i j n).sup = s.sup ∧ (s.incSat f i j n).mbs = s.mbs ∧
    (s.incSat f i j n).sec = s.sec ∧ (s.incSat f i j n).pwr = s.pwr ∧ (s.incSat f i j n).lnks = s.lnks ∧ (s.incSat f i j n).ext = s.ext ∧
    (s.incSat f i j n).pending = s.pending := by
  exact State.wr_keeps s f _ i j
@[simp] theorem State.incSat_byte (s : State) (f : RF) (i j n : Nat) (y : Nat) : (s.incSat f i j n).byte y = s.byte y := by simp [State.byte]

@[simp] theorem State.wrBit_keeps (s : State) (f : RF) (b : Nat) (x : Bool) (i j : Nat) :
    (s.wrBit f b x i j).dtime = s.dtime ∧ (s.wrBit f b x i j).mem = s.mem ∧ (s.wrBit f b x i j).flips = s.flips ∧ (s.wrBit f b x i j).scrub = s.scrub ∧
    (s.wrBit f b x i j).vios = s.vios ∧ (s.wrBit f b x i j).resp = s.resp ∧ (s.wrBit f b x i j).latches = s.latches ∧
    (s.wrBit f b x i j).glatches = s.glatches ∧ (s.wrBit f b x i j).heldLo = s.heldLo ∧ (s.wrBit f b x i j).posted = s.posted ∧
    (s.wrBit f b x i j).debugOverride = s.debugOverride ∧ (s.wrBit f b x i j).irqLines = s.irqLines ∧ (s.wrBit f b x i j).recd = s.recd ∧
    (s.wrBit f b x i j).freeCtr = s.freeCtr ∧ (s.wrBit f b x i j).tbs = s.tbs ∧ (s.wrBit f b x i j).slots = s.slots ∧
    (s.wrBit f b x i j).tachs = s.tachs ∧ (s.wrBit f b x i j).ssiEnd = s.ssiEnd ∧ (s.wrBit f b x i j).timeH = s.timeH ∧
    (s.wrBit f b x i j).obss = s.obss ∧ (s.wrBit f b x i j).nets = s.nets ∧ (s.wrBit f b x i j).lanes = s.lanes ∧ (s.wrBit f b x i j).jobs = s.jobs ∧
    (s.wrBit f b x i j).pjobs = s.pjobs ∧ (s.wrBit f b x i j).obsLoad = s.obsLoad ∧ (s.wrBit f b x i j).obsRemove = s.obsRemove ∧
    (s.wrBit f b x i j).pvSettle = s.pvSettle ∧ (s.wrBit f b x i j).pwms = s.pwms ∧ (s.wrBit f b x i j).pxbs = s.pxbs ∧
    (s.wrBit f b x i j).focs = s.focs ∧ (s.wrBit f b x i j).cmts = s.cmts ∧ (s.wrBit f b x i j).pvs = s.pvs ∧ (s.wrBit f b x i j).chans = s.chans ∧
    (s.wrBit f b x i j).mons = s.mons ∧ (s.wrBit f b x i j).hks = s.hks ∧ (s.wrBit f b x i j).vibs = s.vibs ∧ (s.wrBit f b x i j).cal = s.cal ∧
    (s.wrBit f b x i j).segs = s.segs ∧ (s.wrBit f b x i j).ctxs = s.ctxs ∧ (s.wrBit f b x i j).engs = s.engs ∧
    (s.wrBit f b x i j).qRetired = s.qRetired ∧ (s.wrBit f b x i j).utilRef = s.utilRef ∧ (s.wrBit f b x i j).babIns = s.babIns ∧
    (s.wrBit f b x i j).babCloses = s.babCloses ∧ (s.wrBit f b x i j).babCosts = s.babCosts ∧ (s.wrBit f b x i j).babCtxs = s.babCtxs ∧
    (s.wrBit f b x i j).safAxs = s.safAxs ∧ (s.wrBit f b x i j).safIns = s.safIns ∧ (s.wrBit f b x i j).tests = s.tests ∧
    (s.wrBit f b x i j).saf = s.saf ∧ (s.wrBit f b x i j).age = s.age ∧ (s.wrBit f b x i j).fuses = s.fuses ∧ (s.wrBit f b x i j).steer = s.steer ∧
    (s.wrBit f b x i j).bist = s.bist ∧ (s.wrBit f b x i j).sup = s.sup ∧ (s.wrBit f b x i j).mbs = s.mbs ∧ (s.wrBit f b x i j).sec = s.sec ∧
    (s.wrBit f b x i j).pwr = s.pwr ∧ (s.wrBit f b x i j).lnks = s.lnks ∧ (s.wrBit f b x i j).ext = s.ext ∧ (s.wrBit f b x i j).pending = s.pending := by
  unfold State.wrBit; split
  · unfold State.noteSet; have h := State.wr_keeps s f (setBit (s.rd f i j) b true) i j; simp only [h, and_self]
  · have h := State.wr_keeps s f (setBit (s.rd f i j) b false) i j; simp only [h, and_self]
@[simp] theorem State.wrBit_byte (s : State) (f : RF) (b : Nat) (x : Bool) (i j : Nat) (y : Nat) : (s.wrBit f b x i j).byte y = s.byte y := by simp [State.byte]

@[simp] theorem State.wrS_keeps (s : State) (f : RF) (v : Int) (i j : Nat) :
    (s.wrS f v i j).dtime = s.dtime ∧ (s.wrS f v i j).mem = s.mem ∧ (s.wrS f v i j).flips = s.flips ∧ (s.wrS f v i j).scrub = s.scrub ∧
    (s.wrS f v i j).vios = s.vios ∧ (s.wrS f v i j).resp = s.resp ∧ (s.wrS f v i j).latches = s.latches ∧ (s.wrS f v i j).glatches = s.glatches ∧
    (s.wrS f v i j).heldLo = s.heldLo ∧ (s.wrS f v i j).justSet = s.justSet ∧ (s.wrS f v i j).posted = s.posted ∧
    (s.wrS f v i j).debugOverride = s.debugOverride ∧ (s.wrS f v i j).irqLines = s.irqLines ∧ (s.wrS f v i j).recd = s.recd ∧
    (s.wrS f v i j).freeCtr = s.freeCtr ∧ (s.wrS f v i j).tbs = s.tbs ∧ (s.wrS f v i j).slots = s.slots ∧ (s.wrS f v i j).tachs = s.tachs ∧
    (s.wrS f v i j).ssiEnd = s.ssiEnd ∧ (s.wrS f v i j).timeH = s.timeH ∧ (s.wrS f v i j).obss = s.obss ∧ (s.wrS f v i j).nets = s.nets ∧
    (s.wrS f v i j).lanes = s.lanes ∧ (s.wrS f v i j).jobs = s.jobs ∧ (s.wrS f v i j).pjobs = s.pjobs ∧ (s.wrS f v i j).obsLoad = s.obsLoad ∧
    (s.wrS f v i j).obsRemove = s.obsRemove ∧ (s.wrS f v i j).pvSettle = s.pvSettle ∧ (s.wrS f v i j).pwms = s.pwms ∧ (s.wrS f v i j).pxbs = s.pxbs ∧
    (s.wrS f v i j).focs = s.focs ∧ (s.wrS f v i j).cmts = s.cmts ∧ (s.wrS f v i j).pvs = s.pvs ∧ (s.wrS f v i j).chans = s.chans ∧
    (s.wrS f v i j).mons = s.mons ∧ (s.wrS f v i j).hks = s.hks ∧ (s.wrS f v i j).vibs = s.vibs ∧ (s.wrS f v i j).cal = s.cal ∧
    (s.wrS f v i j).segs = s.segs ∧ (s.wrS f v i j).ctxs = s.ctxs ∧ (s.wrS f v i j).engs = s.engs ∧ (s.wrS f v i j).qRetired = s.qRetired ∧
    (s.wrS f v i j).utilRef = s.utilRef ∧ (s.wrS f v i j).babIns = s.babIns ∧ (s.wrS f v i j).babCloses = s.babCloses ∧
    (s.wrS f v i j).babCosts = s.babCosts ∧ (s.wrS f v i j).babCtxs = s.babCtxs ∧ (s.wrS f v i j).safAxs = s.safAxs ∧ (s.wrS f v i j).safIns = s.safIns ∧
    (s.wrS f v i j).tests = s.tests ∧ (s.wrS f v i j).saf = s.saf ∧ (s.wrS f v i j).age = s.age ∧ (s.wrS f v i j).fuses = s.fuses ∧
    (s.wrS f v i j).steer = s.steer ∧ (s.wrS f v i j).bist = s.bist ∧ (s.wrS f v i j).sup = s.sup ∧ (s.wrS f v i j).mbs = s.mbs ∧
    (s.wrS f v i j).sec = s.sec ∧ (s.wrS f v i j).pwr = s.pwr ∧ (s.wrS f v i j).lnks = s.lnks ∧ (s.wrS f v i j).ext = s.ext ∧
    (s.wrS f v i j).pending = s.pending := by
  exact State.wr_keeps s f _ i j
@[simp] theorem State.wrS_byte (s : State) (f : RF) (v : Int) (i j : Nat) (y : Nat) : (s.wrS f v i j).byte y = s.byte y := by simp [State.byte]

@[simp] theorem State.raiseIf_keeps (s : State) (c : Bool) (f : RF) (i j : Nat) :
    (s.raiseIf c f i j).dtime = s.dtime ∧ (s.raiseIf c f i j).mem = s.mem ∧ (s.raiseIf c f i j).flips = s.flips ∧ (s.raiseIf c f i j).scrub = s.scrub ∧
    (s.raiseIf c f i j).vios = s.vios ∧ (s.raiseIf c f i j).resp = s.resp ∧ (s.raiseIf c f i j).latches = s.latches ∧
    (s.raiseIf c f i j).glatches = s.glatches ∧ (s.raiseIf c f i j).heldLo = s.heldLo ∧ (s.raiseIf c f i j).posted = s.posted ∧
    (s.raiseIf c f i j).debugOverride = s.debugOverride ∧ (s.raiseIf c f i j).irqLines = s.irqLines ∧ (s.raiseIf c f i j).recd = s.recd ∧
    (s.raiseIf c f i j).freeCtr = s.freeCtr ∧ (s.raiseIf c f i j).tbs = s.tbs ∧ (s.raiseIf c f i j).slots = s.slots ∧
    (s.raiseIf c f i j).tachs = s.tachs ∧ (s.raiseIf c f i j).ssiEnd = s.ssiEnd ∧ (s.raiseIf c f i j).timeH = s.timeH ∧
    (s.raiseIf c f i j).obss = s.obss ∧ (s.raiseIf c f i j).nets = s.nets ∧ (s.raiseIf c f i j).lanes = s.lanes ∧ (s.raiseIf c f i j).jobs = s.jobs ∧
    (s.raiseIf c f i j).pjobs = s.pjobs ∧ (s.raiseIf c f i j).obsLoad = s.obsLoad ∧ (s.raiseIf c f i j).obsRemove = s.obsRemove ∧
    (s.raiseIf c f i j).pvSettle = s.pvSettle ∧ (s.raiseIf c f i j).pwms = s.pwms ∧ (s.raiseIf c f i j).pxbs = s.pxbs ∧
    (s.raiseIf c f i j).focs = s.focs ∧ (s.raiseIf c f i j).cmts = s.cmts ∧ (s.raiseIf c f i j).pvs = s.pvs ∧ (s.raiseIf c f i j).chans = s.chans ∧
    (s.raiseIf c f i j).mons = s.mons ∧ (s.raiseIf c f i j).hks = s.hks ∧ (s.raiseIf c f i j).vibs = s.vibs ∧ (s.raiseIf c f i j).cal = s.cal ∧
    (s.raiseIf c f i j).segs = s.segs ∧ (s.raiseIf c f i j).ctxs = s.ctxs ∧ (s.raiseIf c f i j).engs = s.engs ∧
    (s.raiseIf c f i j).qRetired = s.qRetired ∧ (s.raiseIf c f i j).utilRef = s.utilRef ∧ (s.raiseIf c f i j).babIns = s.babIns ∧
    (s.raiseIf c f i j).babCloses = s.babCloses ∧ (s.raiseIf c f i j).babCosts = s.babCosts ∧ (s.raiseIf c f i j).babCtxs = s.babCtxs ∧
    (s.raiseIf c f i j).safAxs = s.safAxs ∧ (s.raiseIf c f i j).safIns = s.safIns ∧ (s.raiseIf c f i j).tests = s.tests ∧
    (s.raiseIf c f i j).saf = s.saf ∧ (s.raiseIf c f i j).age = s.age ∧ (s.raiseIf c f i j).fuses = s.fuses ∧ (s.raiseIf c f i j).steer = s.steer ∧
    (s.raiseIf c f i j).bist = s.bist ∧ (s.raiseIf c f i j).sup = s.sup ∧ (s.raiseIf c f i j).mbs = s.mbs ∧ (s.raiseIf c f i j).sec = s.sec ∧
    (s.raiseIf c f i j).pwr = s.pwr ∧ (s.raiseIf c f i j).lnks = s.lnks ∧ (s.raiseIf c f i j).ext = s.ext ∧ (s.raiseIf c f i j).pending = s.pending := by
  unfold State.raiseIf; split
  · exact State.raise_keeps s f i j
  · exact ⟨rfl, rfl, rfl, rfl, rfl, rfl, rfl, rfl, rfl, rfl, rfl, rfl, rfl, rfl, rfl, rfl, rfl, rfl, rfl, rfl, rfl, rfl, rfl, rfl, rfl, rfl, rfl, rfl, rfl, rfl, rfl, rfl, rfl, rfl, rfl, rfl, rfl, rfl, rfl, rfl, rfl, rfl, rfl, rfl, rfl, rfl, rfl, rfl, rfl, rfl, rfl, rfl, rfl, rfl, rfl, rfl, rfl, rfl, rfl, rfl, rfl⟩
@[simp] theorem State.raiseIf_byte (s : State) (c : Bool) (f : RF) (i j : Nat) (y : Nat) : (s.raiseIf c f i j).byte y = s.byte y := by simp [State.byte]

end Sys2Proof.Machine
end

