-- ==== Sys2Proof/Laws/Keep.lean ====
section
/-!
SUPPORT. What conditionals, repetitions and higher-order operations keep of DEVICE TIME, the queue of commands and memory.
-/
namespace Sys2Proof.Machine

@[simp] theorem dtime_ite (c : Prop) [Decidable c] (a b : State) : (if c then a else b).dtime = if c then a.dtime else b.dtime := by split <;> rfl
@[simp] theorem pending_ite (c : Prop) [Decidable c] (a b : State) : (if c then a else b).pending = if c then a.pending else b.pending := by
  split <;> rfl
@[simp] theorem mem_ite (c : Prop) [Decidable c] (a b : State) : (if c then a else b).mem = if c then a.mem else b.mem := by split <;> rfl
@[simp] theorem fst_ite {α β : Type} (c : Prop) [Decidable c] (a b : α × β) : (if c then a else b).1 = if c then a.1 else b.1 := by split <;> rfl
@[simp] theorem snd_ite {α β : Type} (c : Prop) [Decidable c] (a b : α × β) : (if c then a else b).2 = if c then a.2 else b.2 := by split <;> rfl

/-- A filter of memory keeps its canonical form. -/
@[simp] theorem keepMem_wf (a b c d e : Bool) (m : List Host.Cell) (h : Memory.wf m = true) : Memory.wf (keepMem a b c d e m) = true :=
  Tab.wfFrom_filter _ _ _ _ h

theorem foldl_keep {α β : Type} (p : State → β) (f : State → α → State) (h : ∀ s a, p (f s a) = p s) (l : List α) (s : State) :
    p (l.foldl f s) = p s := by
  induction l generalizing s with
  | nil => rfl
  | cons a t ih => rw [List.foldl_cons, ih, h]
@[simp] theorem State.forEach_dtime {α : Type} (s : State) (l : List α) (f : State → α → State) (h : ∀ s a, (f s a).dtime = s.dtime) :
    (s.forEach l f).dtime = s.dtime := foldl_keep State.dtime f h l s
@[simp] theorem State.forEach_pending {α : Type} (s : State) (l : List α) (f : State → α → State) (h : ∀ s a, (f s a).pending = s.pending) :
    (s.forEach l f).pending = s.pending := foldl_keep State.pending f h l s
@[simp] theorem State.forEach_mem {α : Type} (s : State) (l : List α) (f : State → α → State) (h : ∀ s a, (f s a).mem = s.mem) :
    (s.forEach l f).mem = s.mem := foldl_keep State.mem f h l s
@[simp] theorem State.forEach_wf {α : Type} (s : State) (l : List α) (f : State → α → State)
    (h : ∀ s a, Memory.wf s.mem = true → Memory.wf (f s a).mem = true) (w : Memory.wf s.mem = true) : Memory.wf (s.forEach l f).mem = true := by
  unfold State.forEach
  induction l generalizing s with
  | nil => exact w
  | cons a t ih => exact ih _ (h s a w)
@[simp] theorem State.times_keep (s : State) (n : Nat) (f : State → State) :
    ((∀ s, (f s).dtime = s.dtime) → (s.times n f).dtime = s.dtime) ∧ ((∀ s, (f s).pending = s.pending) → (s.times n f).pending = s.pending) ∧
    ((∀ s, (f s).mem = s.mem) → (s.times n f).mem = s.mem) := by
  induction n generalizing s with
  | zero => exact ⟨fun _ => rfl, fun _ => rfl, fun _ => rfl⟩
  | succ n ih =>
    have k := ih (f s)
    exact ⟨fun h => (k.1 h).trans (h s), fun h => (k.2.1 h).trans (h s), fun h => (k.2.2 h).trans (h s)⟩
@[simp] theorem State.times_wf (s : State) (n : Nat) (f : State → State) (h : ∀ s, Memory.wf s.mem = true → Memory.wf (f s).mem = true)
    (w : Memory.wf s.mem = true) : Memory.wf (s.times n f).mem = true := by
  induction n generalizing s with
  | zero => exact w
  | succ n ih => exact ih _ (h s w)
@[simp] theorem wf_ite (c : Prop) [Decidable c] (a b : List Host.Cell) (ha : Memory.wf a = true) (hb : Memory.wf b = true) :
    Memory.wf (if c then a else b) = true := by split <;> assumption
@[simp] theorem mbCheck_keep (ok : Bool) (s : State) (f : State × Option MbRes) :
    (f.1.dtime = s.dtime → (mbCheck ok s f).1.dtime = s.dtime) ∧ (f.1.pending = s.pending → (mbCheck ok s f).1.pending = s.pending) ∧
    (f.1.mem = s.mem → (mbCheck ok s f).1.mem = s.mem) := by
  unfold mbCheck; split <;> simp
@[simp] theorem State.setByte_wf' (s : State) (a : Nat) (v : Byte) (h : Memory.wf s.mem = true) : Memory.wf (s.setByte a v).mem = true :=
  State.setByte_wf s a v h
@[simp] theorem State.writeMem_keep (s : State) (a : Nat) (l : List Nat) : (s.writeMem a l).dtime = s.dtime ∧ (s.writeMem a l).pending = s.pending := by
  induction l generalizing s a with
  | nil => exact ⟨rfl, rfl⟩
  | cons b t ih => rw [State.writeMem]; simp [ih]
@[simp] theorem State.writeMem_wf' (s : State) (a : Nat) (l : List Nat) (h : Memory.wf s.mem = true) : Memory.wf (s.writeMem a l).mem = true :=
  State.writeMem_wf s a l h

end Sys2Proof.Machine
end

