-- ==== Sys2Proof/Laws/Keep1.lean ====
section
/-!
SUPPORT. What the operations of Ops, Flags, Recorder, Operands, Access, LinkPort, Ecc, Queue keep: DEVICE TIME, the queue of
commands, and memory, or its canonical form where they write it.
-/
set_option linter.all false
namespace Sys2Proof.Machine

@[simp] theorem State.draw_keep (s : State) :
    (State.draw s).2.dtime = s.dtime ∧ (State.draw s).2.pending = s.pending ∧ (State.draw s).2.mem = s.mem := by
  simp [State.draw]
@[simp] theorem State.mbSettle_keep (s : State) (op : Nat) (rc : Nat) (mine : List Nat → Bool) :
    (State.mbSettle s op rc mine).dtime = s.dtime ∧ (State.mbSettle s op rc mine).pending = s.pending ∧ (State.mbSettle s op rc mine).mem = s.mem := by
  simp [State.mbSettle]
@[simp] theorem State.raiseBits_keep (s : State) (f : RF) (mask : Nat) (i : Nat) (j : Nat) :
    (State.raiseBits s f mask i j).dtime = s.dtime ∧ (State.raiseBits s f mask i j).pending = s.pending ∧ (State.raiseBits s f mask i j).mem = s.mem := by
  simp [State.raiseBits]
@[simp] theorem State.transAbandon_keep (s : State) :
    (State.transAbandon s).dtime = s.dtime ∧ (State.transAbandon s).pending = s.pending ∧ (State.transAbandon s).mem = s.mem := by
  simp [State.transAbandon]
@[simp] theorem State.showQueue_keep (s : State) :
    (State.showQueue s).dtime = s.dtime ∧ (State.showQueue s).pending = s.pending ∧ (State.showQueue s).mem = s.mem := by
  simp [State.showQueue]
@[simp] theorem State.emitAt_keep (s : State) (at_ : Nat) (code : Nat) (source : Nat) (payload : List Nat) (merge : Bool) :
    (State.emitAt s at_ code source payload merge).dtime = s.dtime ∧ (State.emitAt s at_ code source payload merge).pending = s.pending ∧ (State.emitAt s at_ code source payload merge).mem = s.mem := by
  unfold State.emitAt; dsimp only; (repeat' split) <;> simp
@[simp] theorem State.emit_keep (s : State) (code : Nat) (source : Nat) (payload : (List Nat)) :
    (State.emit s code source payload).dtime = s.dtime ∧ (State.emit s code source payload).pending = s.pending ∧ (State.emit s code source payload).mem = s.mem := by
  simp [State.emit]
@[simp] theorem State.emitMerge_keep (s : State) (code : Nat) (source : Nat) (payload : (List Nat)) :
    (State.emitMerge s code source payload).dtime = s.dtime ∧ (State.emitMerge s code source payload).pending = s.pending ∧ (State.emitMerge s code source payload).mem = s.mem := by
  simp [State.emitMerge]
@[simp] theorem State.putRecord_keep (s : State) (r : Record) :
    (State.putRecord s r).dtime = s.dtime ∧ (State.putRecord s r).pending = s.pending := by
  simp [State.putRecord]
@[simp] theorem State.putRecord_wf (s : State) (r : Record) (h : Memory.wf s.mem = true) : Memory.wf (State.putRecord s r).mem = true := by
  simp [State.putRecord, h]
@[simp] theorem State.openRecord_keep (s : State) (e : RecEvent) (cont : Bool) :
    (State.openRecord s e cont).dtime = s.dtime ∧ (State.openRecord s e cont).pending = s.pending := by
  simp [State.openRecord]
@[simp] theorem State.openRecord_wf (s : State) (e : RecEvent) (cont : Bool) (h : Memory.wf s.mem = true) : Memory.wf (State.openRecord s e cont).mem = true := by
  simp [State.openRecord, h]
@[simp] theorem State.recordEvent_keep (s : State) (e : RecEvent) :
    (State.recordEvent s e).dtime = s.dtime ∧ (State.recordEvent s e).pending = s.pending := by
  unfold State.recordEvent; split <;> simp
@[simp] theorem State.recordEvent_wf (s : State) (e : RecEvent) (h : Memory.wf s.mem = true) : Memory.wf (State.recordEvent s e).mem = true := by
  unfold State.recordEvent; dsimp only; (repeat' split) <;> simp [h]
@[simp] theorem State.overflowEvent_keep (s : State) :
    (State.overflowEvent s).dtime = s.dtime ∧ (State.overflowEvent s).pending = s.pending ∧ (State.overflowEvent s).mem = s.mem := by
  simp [State.overflowEvent]
@[simp] theorem State.mirrorAll_keep (s : State) (clean : Bool) :
    (State.mirrorAll s clean).dtime = s.dtime ∧ (State.mirrorAll s clean).pending = s.pending ∧ (State.mirrorAll s clean).mem = s.mem := by
  simp [State.mirrorAll]
@[simp] theorem State.flushMirror_keep (s : State) (ok : Bool) :
    (State.flushMirror s ok).dtime = s.dtime ∧ (State.flushMirror s ok).pending = s.pending ∧ (State.flushMirror s ok).mem = s.mem := by
  simp [State.flushMirror]
@[simp] theorem State.hoursGo_keep (s : State) :
    (State.hoursGo s).dtime = s.dtime ∧ (State.hoursGo s).pending = s.pending ∧ (State.hoursGo s).mem = s.mem := by
  unfold State.hoursGo; split <;> simp
@[simp] theorem State.historyEmpty_keep (s : State) :
    (State.historyEmpty s).dtime = s.dtime ∧ (State.historyEmpty s).pending = s.pending ∧ (State.historyEmpty s).mem = s.mem := by
  simp [State.historyEmpty]
@[simp] theorem State.historyCheck_keep (s : State) (found : Sys2Proof.StartFindings) :
    (State.historyCheck s found).dtime = s.dtime ∧ (State.historyCheck s found).pending = s.pending ∧ (State.historyCheck s found).mem = s.mem := by
  simp [State.historyCheck]
@[simp] theorem State.ringFill_keep (s : State) :
    (State.ringFill s).dtime = s.dtime ∧ (State.ringFill s).pending = s.pending := by
  simp [State.ringFill]
@[simp] theorem State.ringFill_wf (s : State) (h : Memory.wf s.mem = true) : Memory.wf (State.ringFill s).mem = true := by
  unfold State.ringFill; dsimp only; (repeat' split) <;> simp_all
@[simp] theorem State.recorderShow_keep (s : State) (r : RecState) :
    (State.recorderShow s r).dtime = s.dtime ∧ (State.recorderShow s r).pending = s.pending ∧ (State.recorderShow s r).mem = s.mem := by
  simp [State.recorderShow]
@[simp] theorem State.recorderPor_keep (s : State) (found : Sys2Proof.StartFindings) :
    (State.recorderPor s found).dtime = s.dtime ∧ (State.recorderPor s found).pending = s.pending := by
  simp [State.recorderPor]
@[simp] theorem State.recorderPor_wf (s : State) (found : Sys2Proof.StartFindings) (h : Memory.wf s.mem = true) : Memory.wf (State.recorderPor s found).mem = true := by
  simp [State.recorderPor, h]
@[simp] theorem State.tbNote_keep (s : State) (t : Nat) (stamp : Nat) (ang : Int) (spd : Int) (live : Bool) :
    (State.tbNote s t stamp ang spd live).dtime = s.dtime ∧ (State.tbNote s t stamp ang spd live).pending = s.pending ∧ (State.tbNote s t stamp ang spd live).mem = s.mem := by
  simp [State.tbNote]
@[simp] theorem State.logViolation_keep (s : State) (m : Nat) (a : Nat) (n : Nat) (type_ : Nat) :
    (State.logViolation s m a n type_).dtime = s.dtime ∧ (State.logViolation s m a n type_).pending = s.pending ∧ (State.logViolation s m a n type_).mem = s.mem := by
  simp [State.logViolation]
@[simp] theorem State.violate_keep (s : State) (m : Nat) (a : Nat) (n : Nat) (type_ : Nat) :
    (State.violate s m a n type_).dtime = s.dtime ∧ (State.violate s m a n type_).pending = s.pending ∧ (State.violate s m a n type_).mem = s.mem := by
  simp [State.violate]
@[simp] theorem State.noteDebug_keep (s : State) (before : State) (m : Nat) :
    (State.noteDebug s before m).dtime = s.dtime ∧ (State.noteDebug s before m).pending = s.pending ∧ (State.noteDebug s before m).mem = s.mem := by
  simp [State.noteDebug]
@[simp] theorem State.busWriteWith_keep (s : State) (m a : Nat) (sw : Bool) (fx : State → State × WErr) :
    ((fx s).1.dtime = s.dtime → (s.busWriteWith m a sw fx).dtime = s.dtime) ∧
    ((fx s).1.pending = s.pending → (s.busWriteWith m a sw fx).pending = s.pending) ∧
    ((fx s).1.mem = s.mem → (s.busWriteWith m a sw fx).mem = s.mem) := by
  unfold State.busWriteWith
  split
  · simp
  · dsimp only; split <;> simp
@[simp] theorem State.busWriteWith_wf (s : State) (m a : Nat) (sw : Bool) (fx : State → State × WErr) (h : Memory.wf s.mem = true)
    (hf : Memory.wf s.mem = true → Memory.wf (fx s).1.mem = true) : Memory.wf (s.busWriteWith m a sw fx).mem = true := by
  unfold State.busWriteWith
  split
  · simp [h]
  · dsimp only; split <;> simp [hf h]
@[simp] theorem State.latchGroup_keep (s : State) (m : Nat) (as_ : List Nat) :
    (State.latchGroup s m as_).dtime = s.dtime ∧ (State.latchGroup s m as_).pending = s.pending ∧ (State.latchGroup s m as_).mem = s.mem := by
  simp [State.latchGroup]
@[simp] theorem State.readReg_keep (s : State) (m : Nat) (a : Nat) :
    (State.readReg s m a).2.dtime = s.dtime ∧ (State.readReg s m a).2.pending = s.pending ∧ (State.readReg s m a).2.mem = s.mem := by
  unfold State.readReg; dsimp only; (repeat' split) <;> simp
@[simp] theorem State.busRead_keep (s : State) (m : Nat) (a : Nat) :
    (State.busRead s m a).dtime = s.dtime ∧ (State.busRead s m a).pending = s.pending ∧ (State.busRead s m a).mem = s.mem := by
  unfold State.busRead; split <;> simp
@[simp] theorem State.writeFields_keep (s : State) (a : Nat) (v : Nat) :
    (State.writeFields s a v).1.dtime = s.dtime ∧ (State.writeFields s a v).1.pending = s.pending ∧ (State.writeFields s a v).1.mem = s.mem := by
  unfold State.writeFields; split <;> simp
@[simp] theorem State.writePlain_keep (s : State) (a : Nat) (v : Nat) :
    (State.writePlain s a v).1.dtime = s.dtime ∧ (State.writePlain s a v).1.pending = s.pending ∧ (State.writePlain s a v).1.mem = s.mem := by
  unfold State.writePlain; (repeat' split) <;> simp
@[simp] theorem State.turnAway_keep (s : State) (a : Nat) (v : Nat) (e : WErr) :
    (State.turnAway s a v e).1.dtime = s.dtime ∧ (State.turnAway s a v e).1.pending = s.pending ∧ (State.turnAway s a v e).1.mem = s.mem := by
  simp [State.turnAway]
@[simp] theorem State.linkFlush_keep (s : State) (p : Nat) :
    (State.linkFlush s p).dtime = s.dtime ∧ (State.linkFlush s p).pending = s.pending ∧ (State.linkFlush s p).mem = s.mem := by
  simp [State.linkFlush]
@[simp] theorem State.linkSend_keep (s : State) (p : Nat) (t : Nat) (status : Nat) (addr : Nat) (payload : List Nat) :
    (State.linkSend s p t status addr payload).dtime = s.dtime ∧ (State.linkSend s p t status addr payload).pending = s.pending ∧ (State.linkSend s p t status addr payload).mem = s.mem := by
  simp [State.linkSend]
@[simp] theorem State.linkRecv_keep (s : State) (p : Nat) (t : Nat) :
    (State.linkRecv s p t).dtime = s.dtime ∧ (State.linkRecv s p t).pending = s.pending ∧ (State.linkRecv s p t).mem = s.mem := by
  simp [State.linkRecv]
@[simp] theorem State.twinSend_keep (s : State) (t : Nat) (payload : List Nat) :
    (State.twinSend s t payload).dtime = s.dtime ∧ (State.twinSend s t payload).pending = s.pending ∧ (State.twinSend s t payload).mem = s.mem := by
  simp [State.twinSend]
@[simp] theorem State.sendCopy_keep (s : State) (what : List Nat) :
    (State.sendCopy s what).dtime = s.dtime ∧ (State.sendCopy s what).pending = s.pending ∧ (State.sendCopy s what).mem = s.mem := by
  simp [State.sendCopy]
@[simp] theorem State.linkDown_keep (s : State) (p : Nat) :
    (State.linkDown s p).dtime = s.dtime ∧ (State.linkDown s p).pending = s.pending ∧ (State.linkDown s p).mem = s.mem := by
  simp [State.linkDown]
@[simp] theorem State.linkRetrain_keep (s : State) (p : Nat) :
    (State.linkRetrain s p).dtime = s.dtime ∧ (State.linkRetrain s p).pending = s.pending ∧ (State.linkRetrain s p).mem = s.mem := by
  simp [State.linkRetrain]
@[simp] theorem State.memCe_keep (s : State) (a : Nat) :
    (State.memCe s a).dtime = s.dtime ∧ (State.memCe s a).pending = s.pending ∧ (State.memCe s a).mem = s.mem := by
  unfold State.memCe; split <;> simp
@[simp] theorem State.chRetire_keep (s : State) (ch : Nat) :
    (State.chRetire s ch).dtime = s.dtime ∧ (State.chRetire s ch).pending = s.pending ∧ (State.chRetire s ch).mem = s.mem := by
  simp [State.chRetire]
@[simp] theorem State.memUe_keep (s : State) (m : Nat) (a : Nat) (src : Nat) :
    (State.memUe s m a src).dtime = s.dtime ∧ (State.memUe s m a src).pending = s.pending ∧ (State.memUe s m a src).mem = s.mem := by
  simp [State.memUe]
@[simp] theorem State.flipBit_keep (s : State) (x : Nat × Nat) :
    (State.flipBit s x).dtime = s.dtime ∧ (State.flipBit s x).pending = s.pending ∧ (State.flipBit s x).mem = s.mem := by
  simp [State.flipBit]
@[simp] theorem State.eccFix_keep (s : State) (u : Nat) :
    (State.eccFix s u).dtime = s.dtime ∧ (State.eccFix s u).pending = s.pending ∧ (State.eccFix s u).mem = s.mem := by
  simp [State.eccFix]
@[simp] theorem State.eccFind_keep (s : State) (m : Nat) (a : Nat) (src : Nat) (us : List Nat) :
    (State.eccFind s m a src us).1.dtime = s.dtime ∧ (State.eccFind s m a src us).1.pending = s.pending ∧ (State.eccFind s m a src us).1.mem = s.mem := by
  unfold State.eccFind; split <;> simp
@[simp] theorem State.memWrite_keep (s : State) (m : Nat) (a : Nat) (d : List Nat) :
    (State.memWrite s m a d).1.dtime = s.dtime ∧ (State.memWrite s m a d).1.pending = s.pending := by
  unfold State.memWrite; (try dsimp only); (repeat' (split <;> try (rename_i heq; have hs := congrArg (fun x => x.1) heq; simp only at hs; subst hs))) <;> simp
@[simp] theorem State.memWrite_wf (s : State) (m : Nat) (a : Nat) (d : List Nat) (h : Memory.wf s.mem = true) : Memory.wf (State.memWrite s m a d).1.mem = true := by
  unfold State.memWrite; (try dsimp only); (repeat' (split <;> try (rename_i heq; have hs := congrArg (fun x => x.1) heq; simp only at hs; subst hs))) <;> simp [h]
@[simp] theorem State.qCredits_keep (s : State) (q : Nat) :
    (State.qCredits s q).dtime = s.dtime ∧ (State.qCredits s q).pending = s.pending ∧ (State.qCredits s q).mem = s.mem := by
  simp [State.qCredits]
@[simp] theorem State.qPosted1_keep (s : State) (q : Nat) :
    (State.qPosted1 s q).dtime = s.dtime ∧ (State.qPosted1 s q).pending = s.pending ∧ (State.qPosted1 s q).mem = s.mem := by
  simp [State.qPosted1]
@[simp] theorem State.qPut_keep (s : State) (q : Nat) (d : Desc) :
    (State.qPut s q d).dtime = s.dtime ∧ (State.qPut s q d).pending = s.pending := by
  simp [State.qPut]
@[simp] theorem State.qPut_wf (s : State) (q : Nat) (d : Desc) (h : Memory.wf s.mem = true) : Memory.wf (State.qPut s q d).mem = true := by
  simp [State.qPut, h]
@[simp] theorem State.qPutSw_keep (s : State) (m : Nat) (q : Nat) :
    (State.qPutSw s m q).dtime = s.dtime ∧ (State.qPutSw s m q).pending = s.pending := by
  simp [State.qPutSw]
@[simp] theorem State.qPutSw_wf (s : State) (m : Nat) (q : Nat) (h : Memory.wf s.mem = true) : Memory.wf (State.qPutSw s m q).mem = true := by
  simp [State.qPutSw, h]
@[simp] theorem State.qTake1_keep (s : State) (q : Nat) :
    (State.qTake1 s q).dtime = s.dtime ∧ (State.qTake1 s q).pending = s.pending ∧ (State.qTake1 s q).mem = s.mem := by
  simp [State.qTake1]
@[simp] theorem State.qRetireN_keep (s : State) (q : Nat) (n : Nat) :
    (State.qRetireN s q n).dtime = s.dtime ∧ (State.qRetireN s q n).pending = s.pending ∧ (State.qRetireN s q n).mem = s.mem := by
  simp [State.qRetireN]
@[simp] theorem State.qPostHw_keep (s : State) (q : Nat) (d : Desc) :
    (State.qPostHw s q d).1.dtime = s.dtime ∧ (State.qPostHw s q d).1.pending = s.pending := by
  simp [State.qPostHw]
@[simp] theorem State.qPostHw_wf (s : State) (q : Nat) (d : Desc) (h : Memory.wf s.mem = true) : Memory.wf (State.qPostHw s q d).1.mem = true := by
  unfold State.qPostHw; split <;> simp [h]
@[simp] theorem State.qOp_keep (s : State) (m : Nat) (q : Nat) (n : Nat) (cmd : Nat) :
    (State.qOp s m q n cmd).dtime = s.dtime ∧ (State.qOp s m q n cmd).pending = s.pending := by
  simp [State.qOp]
@[simp] theorem State.qOp_wf (s : State) (m q n cmd : Nat) (h : Memory.wf s.mem = true) : Memory.wf (s.qOp m q n cmd).mem = true := by
  unfold State.qOp
  (repeat' split) <;> first | (simp [h]) | exact State.times_wf _ _ _ (fun _ h => by simp [h]) h
@[simp] theorem State.fxQCfg_keep (s : State) (q : Nat) (v : Nat) :
    (State.fxQCfg s q v).1.dtime = s.dtime ∧ (State.fxQCfg s q v).1.pending = s.pending ∧ (State.fxQCfg s q v).1.mem = s.mem := by
  simp [State.fxQCfg]
@[simp] theorem State.fxQBaseHi_keep (s : State) (q : Nat) (v : Nat) :
    (State.fxQBaseHi s q v).1.dtime = s.dtime ∧ (State.fxQBaseHi s q v).1.pending = s.pending ∧ (State.fxQBaseHi s q v).1.mem = s.mem := by
  simp [State.fxQBaseHi]
@[simp] theorem State.fxQOp_keep (s : State) (m : Nat) (q : Nat) (v : Nat) :
    (State.fxQOp s m q v).1.dtime = s.dtime ∧ (State.fxQOp s m q v).1.pending = s.pending := by
  simp [State.fxQOp]
@[simp] theorem State.fxQOp_wf (s : State) (m : Nat) (q : Nat) (v : Nat) (h : Memory.wf s.mem = true) : Memory.wf (State.fxQOp s m q v).1.mem = true := by
  simp [State.fxQOp, h]

end Sys2Proof.Machine
end

