-- ==== Sys2Proof/Laws/Events.lean ====
section
/-!
SUPPORT. What posting an event, answering an access and a permitted register write do, said once: an event touches only the recorder,
a permitted write leaves what its effect leaves, and the response tells whether it went through.
-/
namespace Sys2Proof.Machine

/-- A register is none of those that posting an event writes. -/
def notEvent (a : Nat) : Prop := a ≠ REC.EVT_TOTAL.base ∧ a ≠ REC.EVT_TOTAL.base + 4 ∧ a ≠ REC.QUEUE.VALUE.base

/-- Posting an event leaves every register but REC.EVT_TOTAL and REC.QUEUE. -/
theorem State.emitAt_reg (s : State) (at_ code source : Nat) (payload : List Nat) (merge : Bool) {a : Nat} (h : notEvent a) :
    (s.emitAt at_ code source payload merge).reg a = s.reg a := by
  have h1 : RF.off REC.EVT_TOTAL 0 0 a := ⟨h.1, fun _ => h.2.1⟩
  have h2 : RF.off REC.QUEUE.VALUE 0 0 a := ⟨h.2.2, fun e => absurd e (by decide)⟩
  unfold State.emitAt
  dsimp only
  split
  · unfold State.showQueue
    rw [State.reg_wr_off _ _ _ _ _ _ h2]
    exact State.reg_wr_off s _ _ _ _ _ h1
  · split
    · split
      · exact State.reg_wr_off s _ _ _ _ _ h1
      · exact State.reg_wr_off s _ _ _ _ _ h1
    · exact State.reg_wr_off s _ _ _ _ _ h1
theorem State.emit_reg (s : State) (code source : Nat) (payload : List Nat) {a : Nat} (h : notEvent a) :
    (s.emit code source payload).reg a = s.reg a := State.emitAt_reg _ _ _ _ _ _ h
theorem State.emitMerge_reg (s : State) (code source : Nat) (payload : List Nat) {a : Nat} (h : notEvent a) :
    (s.emitMerge code source payload).reg a = s.reg a := State.emitAt_reg _ _ _ _ _ _ h

/-- A field is none of those that posting an event writes. -/
def RF.quiet (g : RF) (k l : Nat) : Prop := notEvent (g.addr k l) ∧ (g.hi = 63 → notEvent (g.addr k l + 4))
theorem State.rd_congr {s t : State} (g : RF) (k l : Nat) (h : t.reg (g.addr k l) = s.reg (g.addr k l))
    (h' : g.hi = 63 → t.reg (g.addr k l + 4) = s.reg (g.addr k l + 4)) : t.rd g k l = s.rd g k l := by
  unfold State.rd
  dsimp only
  rw [h]
  split
  · rename_i e; rw [h' e]
  · rfl
theorem State.emitAt_rd (s : State) (at_ code source : Nat) (payload : List Nat) (merge : Bool) (g : RF) (k l : Nat) (h : g.quiet k l) :
    (s.emitAt at_ code source payload merge).rd g k l = s.rd g k l :=
  State.rd_congr g k l (State.emitAt_reg _ _ _ _ _ _ h.1) fun e => State.emitAt_reg _ _ _ _ _ _ (h.2 e)
theorem State.emit_rd (s : State) (code source : Nat) (payload : List Nat) (g : RF) (k l : Nat) (h : g.quiet k l) :
    (s.emit code source payload).rd g k l = s.rd g k l := State.emitAt_rd _ _ _ _ _ _ _ _ _ h
theorem State.emitMerge_rd (s : State) (code source : Nat) (payload : List Nat) (g : RF) (k l : Nat) (h : g.quiet k l) :
    (s.emitMerge code source payload).rd g k l = s.rd g k l := State.emitAt_rd _ _ _ _ _ _ _ _ _ h

theorem insertEvent_mem (e : RecEvent) (l : List RecEvent) (x : RecEvent) : x ∈ insertEvent e l ↔ x = e ∨ x ∈ l := by
  induction l with
  | nil => simp [insertEvent]
  | cons y t ih =>
    unfold insertEvent
    split
    · simp
    · simp only [List.mem_cons, ih]; tauto
theorem insertEvent_length (e : RecEvent) (l : List RecEvent) : (insertEvent e l).length = l.length + 1 := by
  induction l with
  | nil => rfl
  | cons y t ih => unfold insertEvent; split <;> simp [ih]

/-- Where the input queue has room, a posted event waits in it, and no other event is lost. -/
theorem State.emitAt_queue (s : State) (at_ code source : Nat) (payload : List Nat) (merge : Bool) (h : s.recd.queue.length < 256) :
    (s.emitAt at_ code source payload merge).recd.queue =
      insertEvent { code := code, source := source, stamp := at_, payload := payload, merge := merge, arrived := s.dtime } s.recd.queue := by
  unfold State.emitAt
  simp [h, State.showQueue]
theorem State.emit_queue (s : State) (code source : Nat) (payload : List Nat) (h : s.recd.queue.length < 256) :
    (s.emit code source payload).recd.queue =
      insertEvent { code := code, source := source, stamp := s.dtime, payload := payload, merge := false, arrived := s.dtime } s.recd.queue :=
  State.emitAt_queue _ _ _ _ _ _ h
theorem State.emitMerge_queue (s : State) (code source : Nat) (payload : List Nat) (h : s.recd.queue.length < 256) :
    (s.emitMerge code source payload).recd.queue =
      insertEvent { code := code, source := source, stamp := s.dtime, payload := payload, merge := true, arrived := s.dtime } s.recd.queue :=
  State.emitAt_queue _ _ _ _ _ _ h
/-- Posting counts the event (R360). -/
theorem State.emitAt_total (s : State) (at_ code source : Nat) (payload : List Nat) (merge : Bool) :
    (s.emitAt at_ code source payload merge).rd REC.EVT_TOTAL = (s.rd REC.EVT_TOTAL + 1) % 2 ^ 64 := by
  have k := State.rd_wr_pair s REC.EVT_TOTAL (s.rd REC.EVT_TOTAL + 1) 0 0 rfl
  unfold State.emitAt
  dsimp only
  split
  · unfold State.showQueue
    rw [State.rd_wr_apart _ _ _ _ _ _ _ _ (by unfold RF.apart RF.off; decide)]
    exact k
  · split
    · split
      · exact k
      · exact k
    · exact k

/-- Posting an event leaves everything but the recorder and its registers. -/
@[simp] theorem State.emitAt_keeps (s : State) (at_ code source : Nat) (payload : List Nat) (merge : Bool) :
    (s.emitAt at_ code source payload merge).dtime = s.dtime ∧ (s.emitAt at_ code source payload merge).mem = s.mem ∧
    (s.emitAt at_ code source payload merge).flips = s.flips ∧ (s.emitAt at_ code source payload merge).scrub = s.scrub ∧
    (s.emitAt at_ code source payload merge).vios = s.vios ∧ (s.emitAt at_ code source payload merge).resp = s.resp ∧
    (s.emitAt at_ code source payload merge).latches = s.latches ∧ (s.emitAt at_ code source payload merge).glatches = s.glatches ∧
    (s.emitAt at_ code source payload merge).heldLo = s.heldLo ∧ (s.emitAt at_ code source payload merge).justSet = s.justSet ∧
    (s.emitAt at_ code source payload merge).posted = s.posted ∧ (s.emitAt at_ code source payload merge).debugOverride = s.debugOverride ∧
    (s.emitAt at_ code source payload merge).irqLines = s.irqLines ∧ (s.emitAt at_ code source payload merge).freeCtr = s.freeCtr ∧
    (s.emitAt at_ code source payload merge).tbs = s.tbs ∧ (s.emitAt at_ code source payload merge).slots = s.slots ∧
    (s.emitAt at_ code source payload merge).tachs = s.tachs ∧ (s.emitAt at_ code source payload merge).ssiEnd = s.ssiEnd ∧
    (s.emitAt at_ code source payload merge).timeH = s.timeH ∧ (s.emitAt at_ code source payload merge).obss = s.obss ∧
    (s.emitAt at_ code source payload merge).nets = s.nets ∧ (s.emitAt at_ code source payload merge).lanes = s.lanes ∧
    (s.emitAt at_ code source payload merge).jobs = s.jobs ∧ (s.emitAt at_ code source payload merge).pjobs = s.pjobs ∧
    (s.emitAt at_ code source payload merge).obsLoad = s.obsLoad ∧ (s.emitAt at_ code source payload merge).obsRemove = s.obsRemove ∧
    (s.emitAt at_ code source payload merge).pvSettle = s.pvSettle ∧ (s.emitAt at_ code source payload merge).pwms = s.pwms ∧
    (s.emitAt at_ code source payload merge).pxbs = s.pxbs ∧ (s.emitAt at_ code source payload merge).focs = s.focs ∧
    (s.emitAt at_ code source payload merge).cmts = s.cmts ∧ (s.emitAt at_ code source payload merge).pvs = s.pvs ∧
    (s.emitAt at_ code source payload merge).chans = s.chans ∧ (s.emitAt at_ code source payload merge).mons = s.mons ∧
    (s.emitAt at_ code source payload merge).hks = s.hks ∧ (s.emitAt at_ code source payload merge).vibs = s.vibs ∧
    (s.emitAt at_ code source payload merge).cal = s.cal ∧ (s.emitAt at_ code source payload merge).segs = s.segs ∧
    (s.emitAt at_ code source payload merge).ctxs = s.ctxs ∧ (s.emitAt at_ code source payload merge).engs = s.engs ∧
    (s.emitAt at_ code source payload merge).qRetired = s.qRetired ∧ (s.emitAt at_ code source payload merge).utilRef = s.utilRef ∧
    (s.emitAt at_ code source payload merge).babIns = s.babIns ∧ (s.emitAt at_ code source payload merge).babCloses = s.babCloses ∧
    (s.emitAt at_ code source payload merge).babCosts = s.babCosts ∧ (s.emitAt at_ code source payload merge).babCtxs = s.babCtxs ∧
    (s.emitAt at_ code source payload merge).safAxs = s.safAxs ∧ (s.emitAt at_ code source payload merge).safIns = s.safIns ∧
    (s.emitAt at_ code source payload merge).tests = s.tests ∧ (s.emitAt at_ code source payload merge).saf = s.saf ∧
    (s.emitAt at_ code source payload merge).age = s.age ∧ (s.emitAt at_ code source payload merge).fuses = s.fuses ∧
    (s.emitAt at_ code source payload merge).steer = s.steer ∧ (s.emitAt at_ code source payload merge).bist = s.bist ∧
    (s.emitAt at_ code source payload merge).sup = s.sup ∧ (s.emitAt at_ code source payload merge).mbs = s.mbs ∧
    (s.emitAt at_ code source payload merge).sec = s.sec ∧ (s.emitAt at_ code source payload merge).pwr = s.pwr ∧
    (s.emitAt at_ code source payload merge).lnks = s.lnks ∧ (s.emitAt at_ code source payload merge).ext = s.ext ∧
    (s.emitAt at_ code source payload merge).pending = s.pending := by
  unfold State.emitAt
  dsimp only
  split
  · simp [State.showQueue]
  · split
    · split <;> simp
    · simp
@[simp] theorem State.emit_keeps (s : State) (code source : Nat) (payload : List Nat) :
    (s.emit code source payload).dtime = s.dtime ∧ (s.emit code source payload).mem = s.mem ∧ (s.emit code source payload).flips = s.flips ∧
    (s.emit code source payload).scrub = s.scrub ∧ (s.emit code source payload).vios = s.vios ∧ (s.emit code source payload).resp = s.resp ∧
    (s.emit code source payload).latches = s.latches ∧ (s.emit code source payload).glatches = s.glatches ∧
    (s.emit code source payload).heldLo = s.heldLo ∧ (s.emit code source payload).justSet = s.justSet ∧
    (s.emit code source payload).posted = s.posted ∧ (s.emit code source payload).debugOverride = s.debugOverride ∧
    (s.emit code source payload).irqLines = s.irqLines ∧ (s.emit code source payload).freeCtr = s.freeCtr ∧ (s.emit code source payload).tbs = s.tbs ∧
    (s.emit code source payload).slots = s.slots ∧ (s.emit code source payload).tachs = s.tachs ∧ (s.emit code source payload).ssiEnd = s.ssiEnd ∧
    (s.emit code source payload).timeH = s.timeH ∧ (s.emit code source payload).obss = s.obss ∧ (s.emit code source payload).nets = s.nets ∧
    (s.emit code source payload).lanes = s.lanes ∧ (s.emit code source payload).jobs = s.jobs ∧ (s.emit code source payload).pjobs = s.pjobs ∧
    (s.emit code source payload).obsLoad = s.obsLoad ∧ (s.emit code source payload).obsRemove = s.obsRemove ∧
    (s.emit code source payload).pvSettle = s.pvSettle ∧ (s.emit code source payload).pwms = s.pwms ∧ (s.emit code source payload).pxbs = s.pxbs ∧
    (s.emit code source payload).focs = s.focs ∧ (s.emit code source payload).cmts = s.cmts ∧ (s.emit code source payload).pvs = s.pvs ∧
    (s.emit code source payload).chans = s.chans ∧ (s.emit code source payload).mons = s.mons ∧ (s.emit code source payload).hks = s.hks ∧
    (s.emit code source payload).vibs = s.vibs ∧ (s.emit code source payload).cal = s.cal ∧ (s.emit code source payload).segs = s.segs ∧
    (s.emit code source payload).ctxs = s.ctxs ∧ (s.emit code source payload).engs = s.engs ∧ (s.emit code source payload).qRetired = s.qRetired ∧
    (s.emit code source payload).utilRef = s.utilRef ∧ (s.emit code source payload).babIns = s.babIns ∧
    (s.emit code source payload).babCloses = s.babCloses ∧ (s.emit code source payload).babCosts = s.babCosts ∧
    (s.emit code source payload).babCtxs = s.babCtxs ∧ (s.emit code source payload).safAxs = s.safAxs ∧
    (s.emit code source payload).safIns = s.safIns ∧ (s.emit code source payload).tests = s.tests ∧ (s.emit code source payload).saf = s.saf ∧
    (s.emit code source payload).age = s.age ∧ (s.emit code source payload).fuses = s.fuses ∧ (s.emit code source payload).steer = s.steer ∧
    (s.emit code source payload).bist = s.bist ∧ (s.emit code source payload).sup = s.sup ∧ (s.emit code source payload).mbs = s.mbs ∧
    (s.emit code source payload).sec = s.sec ∧ (s.emit code source payload).pwr = s.pwr ∧ (s.emit code source payload).lnks = s.lnks ∧
    (s.emit code source payload).ext = s.ext ∧ (s.emit code source payload).pending = s.pending :=
  State.emitAt_keeps _ _ _ _ _ _
@[simp] theorem State.emitMerge_keeps (s : State) (code source : Nat) (payload : List Nat) :
    (s.emitMerge code source payload).dtime = s.dtime ∧ (s.emitMerge code source payload).mem = s.mem ∧
    (s.emitMerge code source payload).flips = s.flips ∧ (s.emitMerge code source payload).scrub = s.scrub ∧
    (s.emitMerge code source payload).vios = s.vios ∧ (s.emitMerge code source payload).resp = s.resp ∧
    (s.emitMerge code source payload).latches = s.latches ∧ (s.emitMerge code source payload).glatches = s.glatches ∧
    (s.emitMerge code source payload).heldLo = s.heldLo ∧ (s.emitMerge code source payload).justSet = s.justSet ∧
    (s.emitMerge code source payload).posted = s.posted ∧ (s.emitMerge code source payload).debugOverride = s.debugOverride ∧
    (s.emitMerge code source payload).irqLines = s.irqLines ∧ (s.emitMerge code source payload).freeCtr = s.freeCtr ∧
    (s.emitMerge code source payload).tbs = s.tbs ∧ (s.emitMerge code source payload).slots = s.slots ∧
    (s.emitMerge code source payload).tachs = s.tachs ∧ (s.emitMerge code source payload).ssiEnd = s.ssiEnd ∧
    (s.emitMerge code source payload).timeH = s.timeH ∧ (s.emitMerge code source payload).obss = s.obss ∧
    (s.emitMerge code source payload).nets = s.nets ∧ (s.emitMerge code source payload).lanes = s.lanes ∧
    (s.emitMerge code source payload).jobs = s.jobs ∧ (s.emitMerge code source payload).pjobs = s.pjobs ∧
    (s.emitMerge code source payload).obsLoad = s.obsLoad ∧ (s.emitMerge code source payload).obsRemove = s.obsRemove ∧
    (s.emitMerge code source payload).pvSettle = s.pvSettle ∧ (s.emitMerge code source payload).pwms = s.pwms ∧
    (s.emitMerge code source payload).pxbs = s.pxbs ∧ (s.emitMerge code source payload).focs = s.focs ∧
    (s.emitMerge code source payload).cmts = s.cmts ∧ (s.emitMerge code source payload).pvs = s.pvs ∧
    (s.emitMerge code source payload).chans = s.chans ∧ (s.emitMerge code source payload).mons = s.mons ∧
    (s.emitMerge code source payload).hks = s.hks ∧ (s.emitMerge code source payload).vibs = s.vibs ∧ (s.emitMerge code source payload).cal = s.cal ∧
    (s.emitMerge code source payload).segs = s.segs ∧ (s.emitMerge code source payload).ctxs = s.ctxs ∧
    (s.emitMerge code source payload).engs = s.engs ∧ (s.emitMerge code source payload).qRetired = s.qRetired ∧
    (s.emitMerge code source payload).utilRef = s.utilRef ∧ (s.emitMerge code source payload).babIns = s.babIns ∧
    (s.emitMerge code source payload).babCloses = s.babCloses ∧ (s.emitMerge code source payload).babCosts = s.babCosts ∧
    (s.emitMerge code source payload).babCtxs = s.babCtxs ∧ (s.emitMerge code source payload).safAxs = s.safAxs ∧
    (s.emitMerge code source payload).safIns = s.safIns ∧ (s.emitMerge code source payload).tests = s.tests ∧
    (s.emitMerge code source payload).saf = s.saf ∧ (s.emitMerge code source payload).age = s.age ∧
    (s.emitMerge code source payload).fuses = s.fuses ∧ (s.emitMerge code source payload).steer = s.steer ∧
    (s.emitMerge code source payload).bist = s.bist ∧ (s.emitMerge code source payload).sup = s.sup ∧ (s.emitMerge code source payload).mbs = s.mbs ∧
    (s.emitMerge code source payload).sec = s.sec ∧ (s.emitMerge code source payload).pwr = s.pwr ∧ (s.emitMerge code source payload).lnks = s.lnks ∧
    (s.emitMerge code source payload).ext = s.ext ∧ (s.emitMerge code source payload).pending = s.pending :=
  State.emitAt_keeps _ _ _ _ _ _

/-- A debug override marks itself and leaves everything else (R2). -/
@[simp] theorem State.noteDebug_keeps (s before : State) (m : Nat) :
    (s.noteDebug before m).dtime = s.dtime ∧ (s.noteDebug before m).regs = s.regs ∧ (s.noteDebug before m).mem = s.mem ∧
    (s.noteDebug before m).flips = s.flips ∧ (s.noteDebug before m).scrub = s.scrub ∧ (s.noteDebug before m).vios = s.vios ∧
    (s.noteDebug before m).resp = s.resp ∧ (s.noteDebug before m).latches = s.latches ∧ (s.noteDebug before m).glatches = s.glatches ∧
    (s.noteDebug before m).heldLo = s.heldLo ∧ (s.noteDebug before m).justSet = s.justSet ∧ (s.noteDebug before m).posted = s.posted ∧
    (s.noteDebug before m).irqLines = s.irqLines ∧ (s.noteDebug before m).recd = s.recd ∧ (s.noteDebug before m).freeCtr = s.freeCtr ∧
    (s.noteDebug before m).tbs = s.tbs ∧ (s.noteDebug before m).slots = s.slots ∧ (s.noteDebug before m).tachs = s.tachs ∧
    (s.noteDebug before m).ssiEnd = s.ssiEnd ∧ (s.noteDebug before m).timeH = s.timeH ∧ (s.noteDebug before m).obss = s.obss ∧
    (s.noteDebug before m).nets = s.nets ∧ (s.noteDebug before m).lanes = s.lanes ∧ (s.noteDebug before m).jobs = s.jobs ∧
    (s.noteDebug before m).pjobs = s.pjobs ∧ (s.noteDebug before m).obsLoad = s.obsLoad ∧ (s.noteDebug before m).obsRemove = s.obsRemove ∧
    (s.noteDebug before m).pvSettle = s.pvSettle ∧ (s.noteDebug before m).pwms = s.pwms ∧ (s.noteDebug before m).pxbs = s.pxbs ∧
    (s.noteDebug before m).focs = s.focs ∧ (s.noteDebug before m).cmts = s.cmts ∧ (s.noteDebug before m).pvs = s.pvs ∧
    (s.noteDebug before m).chans = s.chans ∧ (s.noteDebug before m).mons = s.mons ∧ (s.noteDebug before m).hks = s.hks ∧
    (s.noteDebug before m).vibs = s.vibs ∧ (s.noteDebug before m).cal = s.cal ∧ (s.noteDebug before m).segs = s.segs ∧
    (s.noteDebug before m).ctxs = s.ctxs ∧ (s.noteDebug before m).engs = s.engs ∧ (s.noteDebug before m).qRetired = s.qRetired ∧
    (s.noteDebug before m).utilRef = s.utilRef ∧ (s.noteDebug before m).babIns = s.babIns ∧ (s.noteDebug before m).babCloses = s.babCloses ∧
    (s.noteDebug before m).babCosts = s.babCosts ∧ (s.noteDebug before m).babCtxs = s.babCtxs ∧ (s.noteDebug before m).safAxs = s.safAxs ∧
    (s.noteDebug before m).safIns = s.safIns ∧ (s.noteDebug before m).tests = s.tests ∧ (s.noteDebug before m).saf = s.saf ∧
    (s.noteDebug before m).age = s.age ∧ (s.noteDebug before m).fuses = s.fuses ∧ (s.noteDebug before m).steer = s.steer ∧
    (s.noteDebug before m).bist = s.bist ∧ (s.noteDebug before m).sup = s.sup ∧ (s.noteDebug before m).mbs = s.mbs ∧
    (s.noteDebug before m).pwr = s.pwr ∧ (s.noteDebug before m).lnks = s.lnks ∧ (s.noteDebug before m).ext = s.ext ∧
    (s.noteDebug before m).pending = s.pending := by
  unfold State.noteDebug
  split <;> exact ⟨rfl, rfl, rfl, rfl, rfl, rfl, rfl, rfl, rfl, rfl, rfl, rfl, rfl, rfl, rfl, rfl, rfl, rfl, rfl, rfl, rfl, rfl, rfl, rfl, rfl, rfl, rfl, rfl, rfl, rfl, rfl, rfl, rfl, rfl, rfl, rfl, rfl, rfl, rfl, rfl, rfl, rfl, rfl, rfl, rfl, rfl, rfl, rfl, rfl, rfl, rfl, rfl, rfl, rfl, rfl, rfl, rfl, rfl, rfl, rfl, rfl⟩
@[simp] theorem State.noteDebug_reg (s before : State) (m x : Nat) : (s.noteDebug before m).reg x = s.reg x := by
  unfold State.noteDebug
  split <;> rfl
@[simp] theorem State.noteDebug_rd (s before : State) (m : Nat) (g : RF) (k l : Nat) :
    (s.noteDebug before m).rd g k l = s.rd g k l ∧ (s.noteDebug before m).rdS g k l = s.rdS g k l ∧
    (s.noteDebug before m).flag g k l = s.flag g k l := by
  unfold State.noteDebug
  split <;> exact ⟨rfl, rfl, rfl⟩
theorem State.noteDebug_other (s before : State) {m : Nat} (h : m ≠ 0x3F) : s.noteDebug before m = s := by
  unfold State.noteDebug
  rw [if_neg fun hh => h hh.1]

/-- A register write that the access table grants and whose effect finds nothing locked: the effect, marked where it is a debug override, answered
without error. -/
theorem State.busWriteWith_granted (s : State) (m a : Nat) (sw : Bool) (fx : State → State × WErr) (h : s.checkAccess m a 4 true sw = none)
    (hf : (fx s).2 = .ok) : s.busWriteWith m a sw fx = ((fx s).1.noteDebug s m).okResp := by
  unfold State.busWriteWith
  rw [h]
  dsimp only
  rw [hf]
/-- An access that the access table refuses gets an error response and leaves all registers but the violation's log and the recorder's. -/
theorem State.busWriteWith_refused (s : State) (m a ty : Nat) (sw : Bool) (fx : State → State × WErr) (h : s.checkAccess m a 4 true sw = some ty) :
    s.busWriteWith m a sw fx = s.violate m a 4 ty := by
  unfold State.busWriteWith
  rw [h]
@[simp] theorem State.violate_resp (s : State) (m a n ty : Nat) :
    (s.violate m a n ty).resp.err = true ∧ (s.violate m a n ty).resp.data = List.replicate n 0 := ⟨rfl, rfl⟩

end Sys2Proof.Machine
end

