-- ==== Sys2Proof/Laws/Frame.lean ====
section
/-!
SUPPORT. What writes of fields, conditionals, repetitions and higher-order operations keep of a register: a register that belongs to none of the
fields written keeps its value.
-/
namespace Sys2Proof.Machine
open Sys2Proof.Safety

/-- The value of the register at `ga` in a register file. -/
def regAt (r : List (Nat × Word)) (ga : Nat) : Word := Tab.get (resetWord ga) r ga
/-- The register at `ga` belongs to none of the fields. -/
def Off (fs : List RF) (ga : Nat) : Prop := ∀ f ∈ fs, ¬IsReg f ga
@[simp] theorem Off_nil (ga : Nat) : Off [] ga ↔ True := by simp [Off]
@[simp] theorem Off_cons (f : RF) (l : List RF) (ga : Nat) : Off (f :: l) ga ↔ ¬IsReg f ga ∧ Off l ga := by simp [Off]
theorem onlyFields_of {s t : State} {fs : List RF} {sets : List RegSet}
    (h : ∀ ga, Off fs ga → (∀ b ∈ sets, ¬InSet b ga) → regAt t.regs ga = regAt s.regs ga) : OnlyFields s t fs sets := fun ga ho hs => h ga ho hs
theorem State.reg_eq (s : State) (ga : Nat) : s.reg ga = regAt s.regs ga := rfl

@[simp] theorem regs_ite (c : Prop) [Decidable c] (a b : State) : (if c then a else b).regs = if c then a.regs else b.regs := by split <;> rfl
theorem setReg_off (s : State) (a : Nat) (v : Word) (ga : Nat) (h : ga ≠ a) : regAt (s.setReg a v).regs ga = regAt s.regs ga :=
  State.reg_setReg_ne s v h
@[simp] theorem wr_off (s : State) (f : RF) (v i j ga : Nat) (h : ¬IsReg f ga) : regAt (s.wr f v i j).regs ga = regAt s.regs ga := by
  have h0 : ga ≠ f.addr i j := fun e => h ⟨i, j, .inl e⟩
  unfold State.wr
  dsimp only
  split
  · next e =>
    have h1 : ga ≠ f.addr i j + 4 := fun k => h ⟨i, j, .inr ⟨e, k⟩⟩
    rw [setReg_off _ _ _ _ h1, setReg_off _ _ _ _ h0]
  · exact setReg_off _ _ _ _ h0
@[simp] theorem wrS_off (s : State) (f : RF) (v : Int) (i j ga : Nat) (h : ¬IsReg f ga) : regAt (s.wrS f v i j).regs ga = regAt s.regs ga :=
  wr_off _ _ _ _ _ _ h
@[simp] theorem raise_off (s : State) (f : RF) (i j ga : Nat) (h : ¬IsReg f ga) : regAt (s.raise f i j).regs ga = regAt s.regs ga :=
  wr_off _ _ _ _ _ _ h
@[simp] theorem clear_off (s : State) (f : RF) (i j ga : Nat) (h : ¬IsReg f ga) : regAt (s.clear f i j).regs ga = regAt s.regs ga :=
  wr_off _ _ _ _ _ _ h
@[simp] theorem raiseBits_off (s : State) (f : RF) (m i j ga : Nat) (h : ¬IsReg f ga) : regAt (s.raiseBits f m i j).regs ga = regAt s.regs ga :=
  wr_off _ _ _ _ _ _ h
@[simp] theorem put_off (s : State) (f : RF) (b : Bool) (i j ga : Nat) (h : ¬IsReg f ga) : regAt (s.put f b i j).regs ga = regAt s.regs ga := by
  unfold State.put; split
  · exact raise_off _ _ _ _ _ h
  · exact clear_off _ _ _ _ _ h
@[simp] theorem raiseIf_off (s : State) (c : Bool) (f : RF) (i j ga : Nat) (h : ¬IsReg f ga) :
    regAt (s.raiseIf c f i j).regs ga = regAt s.regs ga := by unfold State.raiseIf; split <;> simp [h]
@[simp] theorem incWrap_off (s : State) (f : RF) (i j n ga : Nat) (h : ¬IsReg f ga) : regAt (s.incWrap f i j n).regs ga = regAt s.regs ga :=
  wr_off _ _ _ _ _ _ h
@[simp] theorem incSat_off (s : State) (f : RF) (i j n ga : Nat) (h : ¬IsReg f ga) : regAt (s.incSat f i j n).regs ga = regAt s.regs ga :=
  wr_off _ _ _ _ _ _ h
@[simp] theorem wrBit_off (s : State) (f : RF) (b : Nat) (x : Bool) (i j ga : Nat) (h : ¬IsReg f ga) :
    regAt (s.wrBit f b x i j).regs ga = regAt s.regs ga := by
  unfold State.wrBit; split <;> exact wr_off _ _ _ _ _ _ h
@[simp] theorem writeFields_off (s : State) (a v ga : Nat) (h : ga ≠ a) : regAt (s.writeFields a v).1.regs ga = regAt s.regs ga := by
  unfold State.writeFields
  split
  · rfl
  · exact setReg_off _ _ _ _ h
@[simp] theorem addr_ne (f : RF) (i j ga : Nat) (h : ¬IsReg f ga) : (ga = f.addr i j) = False := by
  simp only [eq_iff_iff, iff_false]; exact fun e => h ⟨i, j, .inl e⟩
@[simp] theorem base_ne (f : RF) (ga : Nat) (h : ¬IsReg f ga) : (ga = f.base) = False := by
  simp only [eq_iff_iff, iff_false]; exact fun e => h ⟨0, 0, .inl (by simpa [RF.addr] using e)⟩

@[simp] theorem writePlain_pair (s : State) (f : RF) (i j v ga : Nat) (hf : f.hi = 63) (h : ¬IsReg f ga) :
    regAt (s.writePlain (f.addr i j + 4) v).1.regs ga = regAt s.regs ga := by
  have h0 : ga ≠ f.addr i j := fun e => h ⟨i, j, .inl e⟩
  have h4 : ga ≠ f.addr i j + 4 := fun e => h ⟨i, j, .inr ⟨hf, e⟩⟩
  unfold State.writePlain
  split
  · rfl
  · split
    · exact writeFields_off _ _ _ _ h4
    · split <;> rfl
    · rw [writeFields_off _ _ _ _ h4, writeFields_off _ _ _ _ (by simpa using h0)]
theorem isReg_rep {f g : RF} {a : Nat} (hb : f.base = g.base) (h1 : f.s1 = g.s1) (h2 : f.s2 = g.s2) (h : f.hi = 63 ↔ g.hi = 63) :
    IsReg f a ↔ IsReg g a := by simp only [IsReg, RF.addr, hb, h1, h2, h]
theorem foldl_off {α : Type} (f : State → α → State) (ga : Nat) (h : ∀ s a, regAt (f s a).regs ga = regAt s.regs ga) (l : List α) (s : State) :
    regAt (l.foldl f s).regs ga = regAt s.regs ga := foldl_keep (fun s => regAt s.regs ga) f h l s
@[simp] theorem forEach_off {α : Type} (s : State) (l : List α) (f : State → α → State) (ga : Nat)
    (h : ∀ s a, regAt (f s a).regs ga = regAt s.regs ga) : regAt (s.forEach l f).regs ga = regAt s.regs ga := foldl_off f ga h l s
@[simp] theorem times_off (s : State) (n : Nat) (f : State → State) (ga : Nat) (h : ∀ s, regAt (f s).regs ga = regAt s.regs ga) :
    regAt (s.times n f).regs ga = regAt s.regs ga := by
  induction n generalizing s with
  | zero => rfl
  | succ n ih => exact (ih (f s)).trans (h s)
@[simp] theorem regAt_ite (c : Prop) [Decidable c] (a b : List (Nat × Word)) (ga : Nat) :
    regAt (if c then a else b) ga = if c then regAt a ga else regAt b ga := by split <;> rfl
@[simp] theorem writeMem_off (s : State) (a : Nat) (l : List Nat) (ga : Nat) : regAt (s.writeMem a l).regs ga = regAt s.regs ga := by
  induction l generalizing s a with
  | nil => rfl
  | cons b t ih => rw [State.writeMem]; simp [ih]
@[simp] theorem mbCheck_off (ok : Bool) (s : State) (f : State × Option MbRes) (ga : Nat) (h : regAt f.1.regs ga = regAt s.regs ga) :
    regAt (mbCheck ok s f).1.regs ga = regAt s.regs ga := by
  unfold mbCheck; split <;> simp [h]
@[simp] theorem noteDebug_off (s b : State) (m ga : Nat) : regAt (s.noteDebug b m).regs ga = regAt s.regs ga := by
  unfold State.noteDebug; split <;> rfl
end Sys2Proof.Machine
end

