-- ==== Sys2Proof/Laws/Frame0.lean ====
section
/-!
SUPPORT. Fields of one register name the same register.
-/
set_option linter.all false
namespace Sys2Proof.Machine
open Sys2Proof.Safety

@[simp] theorem isReg_DT_CTRL_ROLE (a : Nat) : IsReg DT.CTRL.ROLE a ↔ IsReg DT.CTRL.LOCK a := isReg_rep rfl rfl rfl (by decide)
@[simp] theorem isReg_DT_STATUS_STEP_REFUSED (a : Nat) : IsReg DT.STATUS.STEP_REFUSED a ↔ IsReg DT.STATUS.ALIGNED a := isReg_rep rfl rfl rfl (by decide)
@[simp] theorem isReg_DT_STATUS_RATE_CLAMP (a : Nat) : IsReg DT.STATUS.RATE_CLAMP a ↔ IsReg DT.STATUS.ALIGNED a := isReg_rep rfl rfl rfl (by decide)
@[simp] theorem isReg_TB_STATUS_CFG_ERR (a : Nat) : IsReg TB.STATUS.CFG_ERR a ↔ IsReg TB.STATUS.STATE a := isReg_rep rfl rfl rfl (by decide)
@[simp] theorem isReg_TB_STATUS_CORR_BIG (a : Nat) : IsReg TB.STATUS.CORR_BIG a ↔ IsReg TB.STATUS.STATE a := isReg_rep rfl rfl rfl (by decide)
@[simp] theorem isReg_TB_STATUS_CORR_CNT (a : Nat) : IsReg TB.STATUS.CORR_CNT a ↔ IsReg TB.STATUS.STATE a := isReg_rep rfl rfl rfl (by decide)
@[simp] theorem isReg_SCH_STATUS_LATE (a : Nat) : IsReg SCH.STATUS.LATE a ↔ IsReg SCH.STATUS.STATE a := isReg_rep rfl rfl rfl (by decide)
@[simp] theorem isReg_SCH_STATUS_CFG_ERR (a : Nat) : IsReg SCH.STATUS.CFG_ERR a ↔ IsReg SCH.STATUS.STATE a := isReg_rep rfl rfl rfl (by decide)
@[simp] theorem isReg_SCH_STATUS_RESID_OVER (a : Nat) : IsReg SCH.STATUS.RESID_OVER a ↔ IsReg SCH.STATUS.STATE a := isReg_rep rfl rfl rfl (by decide)
@[simp] theorem isReg_SCH_STATUS_MISS_CNT (a : Nat) : IsReg SCH.STATUS.MISS_CNT a ↔ IsReg SCH.STATUS.STATE a := isReg_rep rfl rfl rfl (by decide)
@[simp] theorem isReg_SCH_STATUS_FIRE_CNT (a : Nat) : IsReg SCH.STATUS.FIRE_CNT a ↔ IsReg SCH.STATUS.STATE a := isReg_rep rfl rfl rfl (by decide)
@[simp] theorem isReg_PXB_STATUS_ERR (a : Nat) : IsReg PXB.STATUS.ERR a ↔ IsReg PXB.STATUS.BUSY a := isReg_rep rfl rfl rfl (by decide)
@[simp] theorem isReg_AX_PWM_STATUS_PAIR_AGE (a : Nat) : IsReg AX.PWM_STATUS.PAIR_AGE a ↔ IsReg AX.PWM_STATUS.COMMIT_PEND a := isReg_rep rfl rfl rfl (by decide)
@[simp] theorem isReg_AX_PWM_STATUS_COMMIT_REFUSED (a : Nat) : IsReg AX.PWM_STATUS.COMMIT_REFUSED a ↔ IsReg AX.PWM_STATUS.COMMIT_PEND a := isReg_rep rfl rfl rfl (by decide)
@[simp] theorem isReg_AX_PWM_STATUS_SH_REFUSED (a : Nat) : IsReg AX.PWM_STATUS.SH_REFUSED a ↔ IsReg AX.PWM_STATUS.COMMIT_PEND a := isReg_rep rfl rfl rfl (by decide)
@[simp] theorem isReg_AX_PWM_STATUS_CFG_REFUSED (a : Nat) : IsReg AX.PWM_STATUS.CFG_REFUSED a ↔ IsReg AX.PWM_STATUS.COMMIT_PEND a := isReg_rep rfl rfl rfl (by decide)
@[simp] theorem isReg_AX_PWM_STATUS_START_LATE (a : Nat) : IsReg AX.PWM_STATUS.START_LATE a ↔ IsReg AX.PWM_STATUS.COMMIT_PEND a := isReg_rep rfl rfl rfl (by decide)
@[simp] theorem isReg_AX_PWM_STATUS_EN_REFUSED (a : Nat) : IsReg AX.PWM_STATUS.EN_REFUSED a ↔ IsReg AX.PWM_STATUS.COMMIT_PEND a := isReg_rep rfl rfl rfl (by decide)
@[simp] theorem isReg_AX_PWM_STATUS_DL_CAL_ERR (a : Nat) : IsReg AX.PWM_STATUS.DL_CAL_ERR a ↔ IsReg AX.PWM_STATUS.COMMIT_PEND a := isReg_rep rfl rfl rfl (by decide)
@[simp] theorem isReg_AX_PWM_STATUS_TRIPPED (a : Nat) : IsReg AX.PWM_STATUS.TRIPPED a ↔ IsReg AX.PWM_STATUS.COMMIT_PEND a := isReg_rep rfl rfl rfl (by decide)
@[simp] theorem isReg_AX_PWM_STATUS_SKIP (a : Nat) : IsReg AX.PWM_STATUS.SKIP a ↔ IsReg AX.PWM_STATUS.COMMIT_PEND a := isReg_rep rfl rfl rfl (by decide)
@[simp] theorem isReg_AX_PWM_STATUS_COMMIT_CNT (a : Nat) : IsReg AX.PWM_STATUS.COMMIT_CNT a ↔ IsReg AX.PWM_STATUS.COMMIT_PEND a := isReg_rep rfl rfl rfl (by decide)
@[simp] theorem isReg_AX_PWM_DLCAL_VALID (a : Nat) : IsReg AX.PWM_DLCAL.VALID a ↔ IsReg AX.PWM_DLCAL.N a := isReg_rep rfl rfl rfl (by decide)
@[simp] theorem isReg_AX_PWM_DLCAL_CAL_CNT (a : Nat) : IsReg AX.PWM_DLCAL.CAL_CNT a ↔ IsReg AX.PWM_DLCAL.N a := isReg_rep rfl rfl rfl (by decide)
@[simp] theorem isReg_AX_TRIP_STATUS_LIVE (a : Nat) : IsReg AX.TRIP_STATUS.LIVE a ↔ IsReg AX.TRIP_STATUS.LATCH a := isReg_rep rfl rfl rfl (by decide)
@[simp] theorem isReg_AX_TRIP_STATUS_FIRST (a : Nat) : IsReg AX.TRIP_STATUS.FIRST a ↔ IsReg AX.TRIP_STATUS.LATCH a := isReg_rep rfl rfl rfl (by decide)
@[simp] theorem isReg_AX_TRIP_STATUS_MASK_CNT (a : Nat) : IsReg AX.TRIP_STATUS.MASK_CNT a ↔ IsReg AX.TRIP_STATUS.LATCH a := isReg_rep rfl rfl rfl (by decide)
@[simp] theorem isReg_AX_ADC_STATUS_OVR (a : Nat) : IsReg AX.ADC_STATUS.OVR a ↔ IsReg AX.ADC_STATUS.CHK_MISM a := isReg_rep rfl rfl rfl (by decide)
@[simp] theorem isReg_AX_ADC_STATUS_WAKE_DROP (a : Nat) : IsReg AX.ADC_STATUS.WAKE_DROP a ↔ IsReg AX.ADC_STATUS.CHK_MISM a := isReg_rep rfl rfl rfl (by decide)
@[simp] theorem isReg_AX_ADC_STATUS_CAL_SKIP (a : Nat) : IsReg AX.ADC_STATUS.CAL_SKIP a ↔ IsReg AX.ADC_STATUS.CHK_MISM a := isReg_rep rfl rfl rfl (by decide)
@[simp] theorem isReg_AX_ADC_STATUS_MISM_CNT_A (a : Nat) : IsReg AX.ADC_STATUS.MISM_CNT_A a ↔ IsReg AX.ADC_STATUS.CHK_MISM a := isReg_rep rfl rfl rfl (by decide)
@[simp] theorem isReg_AX_ADC_STATUS_MISM_CNT_B (a : Nat) : IsReg AX.ADC_STATUS.MISM_CNT_B a ↔ IsReg AX.ADC_STATUS.CHK_MISM a := isReg_rep rfl rfl rfl (by decide)
@[simp] theorem isReg_AX_ADC_STATUS_TRIG_DROP (a : Nat) : IsReg AX.ADC_STATUS.TRIG_DROP a ↔ IsReg AX.ADC_STATUS.CHK_MISM a := isReg_rep rfl rfl rfl (by decide)
@[simp] theorem isReg_AX_ADC_HEALTH_ROLE_K (a : Nat) : IsReg AX.ADC_HEALTH.ROLE_K a ↔ IsReg AX.ADC_HEALTH.FAIL a := isReg_rep rfl rfl rfl (by decide)
@[simp] theorem isReg_AX_ADC_HEALTH_CAL_ERR (a : Nat) : IsReg AX.ADC_HEALTH.CAL_ERR a ↔ IsReg AX.ADC_HEALTH.FAIL a := isReg_rep rfl rfl rfl (by decide)
@[simp] theorem isReg_AX_PV_STATUS_WR_REFUSED (a : Nat) : IsReg AX.PV_STATUS.WR_REFUSED a ↔ IsReg AX.PV_STATUS.LEVEL a := isReg_rep rfl rfl rfl (by decide)
@[simp] theorem isReg_AX_FOC_CTRL_CUR_MAN (a : Nat) : IsReg AX.FOC_CTRL.CUR_MAN a ↔ IsReg AX.FOC_CTRL.RUN a := isReg_rep rfl rfl rfl (by decide)
@[simp] theorem isReg_AX_FOC_CTRL_SPD_EN (a : Nat) : IsReg AX.FOC_CTRL.SPD_EN a ↔ IsReg AX.FOC_CTRL.RUN a := isReg_rep rfl rfl rfl (by decide)
@[simp] theorem isReg_AX_FOC_STATUS_VLIM (a : Nat) : IsReg AX.FOC_STATUS.VLIM a ↔ IsReg AX.FOC_STATUS.SECTOR a := isReg_rep rfl rfl rfl (by decide)
@[simp] theorem isReg_AX_FOC_STATUS_SAMP_CLAMP (a : Nat) : IsReg AX.FOC_STATUS.SAMP_CLAMP a ↔ IsReg AX.FOC_STATUS.SECTOR a := isReg_rep rfl rfl rfl (by decide)
@[simp] theorem isReg_AX_FOC_STATUS_BUS_LOW (a : Nat) : IsReg AX.FOC_STATUS.BUS_LOW a ↔ IsReg AX.FOC_STATUS.SECTOR a := isReg_rep rfl rfl rfl (by decide)
@[simp] theorem isReg_AX_FOC_STATUS_PRESET_INEXACT (a : Nat) : IsReg AX.FOC_STATUS.PRESET_INEXACT a ↔ IsReg AX.FOC_STATUS.SECTOR a := isReg_rep rfl rfl rfl (by decide)
@[simp] theorem isReg_AX_FOC_STATUS_MAN_REFUSED (a : Nat) : IsReg AX.FOC_STATUS.MAN_REFUSED a ↔ IsReg AX.FOC_STATUS.SECTOR a := isReg_rep rfl rfl rfl (by decide)
@[simp] theorem isReg_AX_FOC_STATUS_SKIP_CNT (a : Nat) : IsReg AX.FOC_STATUS.SKIP_CNT a ↔ IsReg AX.FOC_STATUS.SECTOR a := isReg_rep rfl rfl rfl (by decide)
@[simp] theorem isReg_AX_FOC_STATUS_VLIM_CNT (a : Nat) : IsReg AX.FOC_STATUS.VLIM_CNT a ↔ IsReg AX.FOC_STATUS.SECTOR a := isReg_rep rfl rfl rfl (by decide)
@[simp] theorem isReg_AX_SPD_STATUS_LAG_HOLD (a : Nat) : IsReg AX.SPD_STATUS.LAG_HOLD a ↔ IsReg AX.SPD_STATUS.AT_TARGET a := isReg_rep rfl rfl rfl (by decide)
@[simp] theorem isReg_AX_SPD_STATUS_TQ_LIM (a : Nat) : IsReg AX.SPD_STATUS.TQ_LIM a ↔ IsReg AX.SPD_STATUS.AT_TARGET a := isReg_rep rfl rfl rfl (by decide)
@[simp] theorem isReg_AX_SPD_STATUS_BUS_LIMITED (a : Nat) : IsReg AX.SPD_STATUS.BUS_LIMITED a ↔ IsReg AX.SPD_STATUS.AT_TARGET a := isReg_rep rfl rfl rfl (by decide)
@[simp] theorem isReg_AX_SPD_STATUS_HELD (a : Nat) : IsReg AX.SPD_STATUS.HELD a ↔ IsReg AX.SPD_STATUS.AT_TARGET a := isReg_rep rfl rfl rfl (by decide)
@[simp] theorem isReg_AX_SPD_DERATE_ACC (a : Nat) : IsReg AX.SPD_DERATE.ACC a ↔ IsReg AX.SPD_DERATE.TQ a := isReg_rep rfl rfl rfl (by decide)
@[simp] theorem isReg_AX_CMT_STATUS_DIR (a : Nat) : IsReg AX.CMT_STATUS.DIR a ↔ IsReg AX.CMT_STATUS.STATE a := isReg_rep rfl rfl rfl (by decide)
@[simp] theorem isReg_AX_CMT_STATUS_RESULT (a : Nat) : IsReg AX.CMT_STATUS.RESULT a ↔ IsReg AX.CMT_STATUS.STATE a := isReg_rep rfl rfl rfl (by decide)
@[simp] theorem isReg_AX_CMT_STATUS_GO_REFUSED (a : Nat) : IsReg AX.CMT_STATUS.GO_REFUSED a ↔ IsReg AX.CMT_STATUS.STATE a := isReg_rep rfl rfl rfl (by decide)
@[simp] theorem isReg_AX_CMT_STATUS_CFG_REFUSED (a : Nat) : IsReg AX.CMT_STATUS.CFG_REFUSED a ↔ IsReg AX.CMT_STATUS.STATE a := isReg_rep rfl rfl rfl (by decide)
@[simp] theorem isReg_AX_CMT_STATUS_SHIFT (a : Nat) : IsReg AX.CMT_STATUS.SHIFT a ↔ IsReg AX.CMT_STATUS.STATE a := isReg_rep rfl rfl rfl (by decide)
@[simp] theorem isReg_AX_CMT_STATUS_LW_SHORT (a : Nat) : IsReg AX.CMT_STATUS.LW_SHORT a ↔ IsReg AX.CMT_STATUS.STATE a := isReg_rep rfl rfl rfl (by decide)
@[simp] theorem isReg_AX_CMT_STATUS_CORR_BIG (a : Nat) : IsReg AX.CMT_STATUS.CORR_BIG a ↔ IsReg AX.CMT_STATUS.STATE a := isReg_rep rfl rfl rfl (by decide)
@[simp] theorem isReg_AX_CMT_STATUS_SYNC_LOST (a : Nat) : IsReg AX.CMT_STATUS.SYNC_LOST a ↔ IsReg AX.CMT_STATUS.STATE a := isReg_rep rfl rfl rfl (by decide)
@[simp] theorem isReg_AX_CMT_STATUS_WINDOW (a : Nat) : IsReg AX.CMT_STATUS.WINDOW a ↔ IsReg AX.CMT_STATUS.STATE a := isReg_rep rfl rfl rfl (by decide)
@[simp] theorem isReg_AX_CMT_CNT_WRONG_DIR (a : Nat) : IsReg AX.CMT_CNT.WRONG_DIR a ↔ IsReg AX.CMT_CNT.QUALIFIED a := isReg_rep rfl rfl rfl (by decide)
@[simp] theorem isReg_AX_CMT_CNT_BOUNCE (a : Nat) : IsReg AX.CMT_CNT.BOUNCE a ↔ IsReg AX.CMT_CNT.QUALIFIED a := isReg_rep rfl rfl rfl (by decide)
@[simp] theorem isReg_AX_CMT_CNT_SHIFT_CNT (a : Nat) : IsReg AX.CMT_CNT.SHIFT_CNT a ↔ IsReg AX.CMT_CNT.QUALIFIED a := isReg_rep rfl rfl rfl (by decide)
@[simp] theorem isReg_AX_CMT_FAIL_CNT_EARLY (a : Nat) : IsReg AX.CMT_FAIL_CNT.EARLY a ↔ IsReg AX.CMT_FAIL_CNT.NONE a := isReg_rep rfl rfl rfl (by decide)
@[simp] theorem isReg_AX_CMT_FAIL_CNT_REJECT (a : Nat) : IsReg AX.CMT_FAIL_CNT.REJECT a ↔ IsReg AX.CMT_FAIL_CNT.NONE a := isReg_rep rfl rfl rfl (by decide)
@[simp] theorem isReg_AX_CMT_FAIL_CNT_SKIP (a : Nat) : IsReg AX.CMT_FAIL_CNT.SKIP a ↔ IsReg AX.CMT_FAIL_CNT.NONE a := isReg_rep rfl rfl rfl (by decide)
@[simp] theorem isReg_AX_BUS_STATUS_ABSORBING (a : Nat) : IsReg AX.BUS_STATUS.ABSORBING a ↔ IsReg AX.BUS_STATUS.CFG_REFUSED a := isReg_rep rfl rfl rfl (by decide)
@[simp] theorem isReg_AX_BUS_STATUS_T2_ACT (a : Nat) : IsReg AX.BUS_STATUS.T2_ACT a ↔ IsReg AX.BUS_STATUS.CFG_REFUSED a := isReg_rep rfl rfl rfl (by decide)
@[simp] theorem isReg_AX_OBS_CFG_ESC_ACT (a : Nat) : IsReg AX.OBS_CFG.ESC_ACT a ↔ IsReg AX.OBS_CFG.PRIO_T a := isReg_rep rfl rfl rfl (by decide)
@[simp] theorem isReg_AX_OBS_STATUS_PRESENT (a : Nat) : IsReg AX.OBS_STATUS.PRESENT a ↔ IsReg AX.OBS_STATUS.MODE a := isReg_rep rfl rfl rfl (by decide)
@[simp] theorem isReg_AX_OBS_STATUS_BG (a : Nat) : IsReg AX.OBS_STATUS.BG a ↔ IsReg AX.OBS_STATUS.MODE a := isReg_rep rfl rfl rfl (by decide)
@[simp] theorem isReg_AX_OBS_STATUS_UNCHECKED (a : Nat) : IsReg AX.OBS_STATUS.UNCHECKED a ↔ IsReg AX.OBS_STATUS.MODE a := isReg_rep rfl rfl rfl (by decide)
@[simp] theorem isReg_AX_OBS_STATUS_MISM (a : Nat) : IsReg AX.OBS_STATUS.MISM a ↔ IsReg AX.OBS_STATUS.MODE a := isReg_rep rfl rfl rfl (by decide)
@[simp] theorem isReg_AX_OBS_STATUS_INVALID (a : Nat) : IsReg AX.OBS_STATUS.INVALID a ↔ IsReg AX.OBS_STATUS.MODE a := isReg_rep rfl rfl rfl (by decide)
@[simp] theorem isReg_AX_OBS_STATUS_CLAMP (a : Nat) : IsReg AX.OBS_STATUS.CLAMP a ↔ IsReg AX.OBS_STATUS.MODE a := isReg_rep rfl rfl rfl (by decide)
@[simp] theorem isReg_AX_OBS_STATUS_LATE (a : Nat) : IsReg AX.OBS_STATUS.LATE a ↔ IsReg AX.OBS_STATUS.MODE a := isReg_rep rfl rfl rfl (by decide)
@[simp] theorem isReg_AX_OBS_STATUS_ESC (a : Nat) : IsReg AX.OBS_STATUS.ESC a ↔ IsReg AX.OBS_STATUS.MODE a := isReg_rep rfl rfl rfl (by decide)
@[simp] theorem isReg_AX_OBS_STATUS_WIN_CNT (a : Nat) : IsReg AX.OBS_STATUS.WIN_CNT a ↔ IsReg AX.OBS_STATUS.MODE a := isReg_rep rfl rfl rfl (by decide)
@[simp] theorem isReg_AX_OBS_STATUS_CLAMP_CNT (a : Nat) : IsReg AX.OBS_STATUS.CLAMP_CNT a ↔ IsReg AX.OBS_STATUS.MODE a := isReg_rep rfl rfl rfl (by decide)
@[simp] theorem isReg_AX_OBS_CNT_MISM_CNT (a : Nat) : IsReg AX.OBS_CNT.MISM_CNT a ↔ IsReg AX.OBS_CNT.EVAL_CNT a := isReg_rep rfl rfl rfl (by decide)
@[simp] theorem isReg_AX_OBS_EST_T_T_B (a : Nat) : IsReg AX.OBS_EST_T.T_B a ↔ IsReg AX.OBS_EST_T.T_W a := isReg_rep rfl rfl rfl (by decide)
@[simp] theorem isReg_AX_SAF_STATUS_SLS_ACT (a : Nat) : IsReg AX.SAF_STATUS.SLS_ACT a ↔ IsReg AX.SAF_STATUS.STATE a := isReg_rep rfl rfl rfl (by decide)
@[simp] theorem isReg_AX_SAF_STATUS_SINGLE (a : Nat) : IsReg AX.SAF_STATUS.SINGLE a ↔ IsReg AX.SAF_STATUS.STATE a := isReg_rep rfl rfl rfl (by decide)
@[simp] theorem isReg_AX_SAF_STATUS_REACT (a : Nat) : IsReg AX.SAF_STATUS.REACT a ↔ IsReg AX.SAF_STATUS.STATE a := isReg_rep rfl rfl rfl (by decide)
@[simp] theorem isReg_AX_SAF_STATUS_CODE (a : Nat) : IsReg AX.SAF_STATUS.CODE a ↔ IsReg AX.SAF_STATUS.STATE a := isReg_rep rfl rfl rfl (by decide)
@[simp] theorem isReg_MF_CAL_STATUS_DONE (a : Nat) : IsReg MF.CAL_STATUS.DONE a ↔ IsReg MF.CAL_STATUS.BUSY a := isReg_rep rfl rfl rfl (by decide)
@[simp] theorem isReg_MF_CAL_STATUS_CAL_REFUSED (a : Nat) : IsReg MF.CAL_STATUS.CAL_REFUSED a ↔ IsReg MF.CAL_STATUS.BUSY a := isReg_rep rfl rfl rfl (by decide)
@[simp] theorem isReg_MF_CAL_STATUS_REF_ERR (a : Nat) : IsReg MF.CAL_STATUS.REF_ERR a ↔ IsReg MF.CAL_STATUS.BUSY a := isReg_rep rfl rfl rfl (by decide)
@[simp] theorem isReg_MF_CAL_STATUS_DCB_SKIP (a : Nat) : IsReg MF.CAL_STATUS.DCB_SKIP a ↔ IsReg MF.CAL_STATUS.BUSY a := isReg_rep rfl rfl rfl (by decide)
@[simp] theorem isReg_MF_DCB_STATUS_CHFB (a : Nat) : IsReg MF.DCB_STATUS.CHFB a ↔ IsReg MF.DCB_STATUS.OV a := isReg_rep rfl rfl rfl (by decide)
@[simp] theorem isReg_MF_DCB_STATUS_OVR (a : Nat) : IsReg MF.DCB_STATUS.OVR a ↔ IsReg MF.DCB_STATUS.OV a := isReg_rep rfl rfl rfl (by decide)
@[simp] theorem isReg_MF_DCB_STATUS_CAL_ERR (a : Nat) : IsReg MF.DCB_STATUS.CAL_ERR a ↔ IsReg MF.DCB_STATUS.OV a := isReg_rep rfl rfl rfl (by decide)
@[simp] theorem isReg_MF_VIB_STATUS_INTLV_LOCK (a : Nat) : IsReg MF.VIB_STATUS.INTLV_LOCK a ↔ IsReg MF.VIB_STATUS.SETTLING a := isReg_rep rfl rfl rfl (by decide)
@[simp] theorem isReg_MF_VIB_STATUS_CFG_ERR (a : Nat) : IsReg MF.VIB_STATUS.CFG_ERR a ↔ IsReg MF.VIB_STATUS.SETTLING a := isReg_rep rfl rfl rfl (by decide)
@[simp] theorem isReg_MF_VIB_STATUS_OVR (a : Nat) : IsReg MF.VIB_STATUS.OVR a ↔ IsReg MF.VIB_STATUS.SETTLING a := isReg_rep rfl rfl rfl (by decide)
@[simp] theorem isReg_MF_VIB_STATUS_CAL_ERR (a : Nat) : IsReg MF.VIB_STATUS.CAL_ERR a ↔ IsReg MF.VIB_STATUS.SETTLING a := isReg_rep rfl rfl rfl (by decide)
@[simp] theorem isReg_MF_VIB_STATUS_RESTART_CNT (a : Nat) : IsReg MF.VIB_STATUS.RESTART_CNT a ↔ IsReg MF.VIB_STATUS.SETTLING a := isReg_rep rfl rfl rfl (by decide)
@[simp] theorem isReg_HK_STATUS_DONE (a : Nat) : IsReg HK.STATUS.DONE a ↔ IsReg HK.STATUS.RUN a := isReg_rep rfl rfl rfl (by decide)
@[simp] theorem isReg_HK_STATUS_EMPTY (a : Nat) : IsReg HK.STATUS.EMPTY a ↔ IsReg HK.STATUS.RUN a := isReg_rep rfl rfl rfl (by decide)
@[simp] theorem isReg_HK_STATUS_START_OVR (a : Nat) : IsReg HK.STATUS.START_OVR a ↔ IsReg HK.STATUS.RUN a := isReg_rep rfl rfl rfl (by decide)
@[simp] theorem isReg_HK_STATUS_URG_DONE (a : Nat) : IsReg HK.STATUS.URG_DONE a ↔ IsReg HK.STATUS.RUN a := isReg_rep rfl rfl rfl (by decide)
@[simp] theorem isReg_HK_STATUS_URG_OVF (a : Nat) : IsReg HK.STATUS.URG_OVF a ↔ IsReg HK.STATUS.RUN a := isReg_rep rfl rfl rfl (by decide)
@[simp] theorem isReg_HK_STATUS_ENTRY (a : Nat) : IsReg HK.STATUS.ENTRY a ↔ IsReg HK.STATUS.RUN a := isReg_rep rfl rfl rfl (by decide)
@[simp] theorem isReg_HK_STATUS_URG_ABORT_CNT (a : Nat) : IsReg HK.STATUS.URG_ABORT_CNT a ↔ IsReg HK.STATUS.RUN a := isReg_rep rfl rfl rfl (by decide)
@[simp] theorem isReg_HK_RESULT_VALID (a : Nat) : IsReg HK.RESULT.VALID a ↔ IsReg HK.RESULT.VALUE a := isReg_rep rfl rfl rfl (by decide)
@[simp] theorem isReg_HK_RESULT_OVR (a : Nat) : IsReg HK.RESULT.OVR a ↔ IsReg HK.RESULT.VALUE a := isReg_rep rfl rfl rfl (by decide)
@[simp] theorem isReg_HK_RESULT_PASS (a : Nat) : IsReg HK.RESULT.PASS a ↔ IsReg HK.RESULT.VALUE a := isReg_rep rfl rfl rfl (by decide)
@[simp] theorem isReg_BUS_CTRL_LOCK (a : Nat) : IsReg BUS.CTRL.LOCK a ↔ IsReg BUS.CTRL.CHOP_PRESENT a := isReg_rep rfl rfl rfl (by decide)
@[simp] theorem isReg_BUS_STATUS_CHOP_FAULT (a : Nat) : IsReg BUS.STATUS.CHOP_FAULT a ↔ IsReg BUS.STATUS.CHOP_ON a := isReg_rep rfl rfl rfl (by decide)
@[simp] theorem isReg_BUS_STATUS_CAUSE (a : Nat) : IsReg BUS.STATUS.CAUSE a ↔ IsReg BUS.STATUS.CHOP_ON a := isReg_rep rfl rfl rfl (by decide)
@[simp] theorem isReg_BUS_STATUS_CHOP_STUCK (a : Nat) : IsReg BUS.STATUS.CHOP_STUCK a ↔ IsReg BUS.STATUS.CHOP_ON a := isReg_rep rfl rfl rfl (by decide)
@[simp] theorem isReg_BUS_STATUS_HOLD (a : Nat) : IsReg BUS.STATUS.HOLD a ↔ IsReg BUS.STATUS.CHOP_ON a := isReg_rep rfl rfl rfl (by decide)
@[simp] theorem isReg_BUS_STATUS_T2 (a : Nat) : IsReg BUS.STATUS.T2 a ↔ IsReg BUS.STATUS.CHOP_ON a := isReg_rep rfl rfl rfl (by decide)
@[simp] theorem isReg_BUS_STATUS_UV (a : Nat) : IsReg BUS.STATUS.UV a ↔ IsReg BUS.STATUS.CHOP_ON a := isReg_rep rfl rfl rfl (by decide)
@[simp] theorem isReg_BUS_STATUS_NO_SAMPLE (a : Nat) : IsReg BUS.STATUS.NO_SAMPLE a ↔ IsReg BUS.STATUS.CHOP_ON a := isReg_rep rfl rfl rfl (by decide)
@[simp] theorem isReg_BUS_STATUS_CFG_REFUSED (a : Nat) : IsReg BUS.STATUS.CFG_REFUSED a ↔ IsReg BUS.STATUS.CHOP_ON a := isReg_rep rfl rfl rfl (by decide)
@[simp] theorem isReg_BUS_ACC_CTRL_AUTO (a : Nat) : IsReg BUS.ACC_CTRL.AUTO a ↔ IsReg BUS.ACC_CTRL.CLEAR a := isReg_rep rfl rfl rfl (by decide)
@[simp] theorem isReg_OBS_LOAD_STATUS_DONE (a : Nat) : IsReg OBS.LOAD_STATUS.DONE a ↔ IsReg OBS.LOAD_STATUS.BUSY a := isReg_rep rfl rfl rfl (by decide)
@[simp] theorem isReg_OBS_LOAD_STATUS_REFUSED (a : Nat) : IsReg OBS.LOAD_STATUS.REFUSED a ↔ IsReg OBS.LOAD_STATUS.BUSY a := isReg_rep rfl rfl rfl (by decide)
@[simp] theorem isReg_OBS_LOAD_STATUS_CODE (a : Nat) : IsReg OBS.LOAD_STATUS.CODE a ↔ IsReg OBS.LOAD_STATUS.BUSY a := isReg_rep rfl rfl rfl (by decide)
@[simp] theorem isReg_OBS_LANES_P_USABLE (a : Nat) : IsReg OBS.LANES.P_USABLE a ↔ IsReg OBS.LANES.USABLE a := isReg_rep rfl rfl rfl (by decide)
@[simp] theorem isReg_OBS_LANES_TEST (a : Nat) : IsReg OBS.LANES.TEST a ↔ IsReg OBS.LANES.USABLE a := isReg_rep rfl rfl rfl (by decide)
@[simp] theorem isReg_OBS_LANES_P_TEST (a : Nat) : IsReg OBS.LANES.P_TEST a ↔ IsReg OBS.LANES.USABLE a := isReg_rep rfl rfl rfl (by decide)
@[simp] theorem isReg_OBS_PLAN_CMAX (a : Nat) : IsReg OBS.PLAN.CMAX a ↔ IsReg OBS.PLAN.SUM a := isReg_rep rfl rfl rfl (by decide)
@[simp] theorem isReg_OBS_PLAN_COUNT (a : Nat) : IsReg OBS.PLAN.COUNT a ↔ IsReg OBS.PLAN.SUM a := isReg_rep rfl rfl rfl (by decide)
@[simp] theorem isReg_OBS_PPLAN_CMAX (a : Nat) : IsReg OBS.PPLAN.CMAX a ↔ IsReg OBS.PPLAN.SUM a := isReg_rep rfl rfl rfl (by decide)
@[simp] theorem isReg_OBS_PPLAN_COUNT (a : Nat) : IsReg OBS.PPLAN.COUNT a ↔ IsReg OBS.PPLAN.SUM a := isReg_rep rfl rfl rfl (by decide)
@[simp] theorem isReg_OBS_STATUS_CLS_FORCED (a : Nat) : IsReg OBS.STATUS.CLS_FORCED a ↔ IsReg OBS.STATUS.DEMOTE a := isReg_rep rfl rfl rfl (by decide)
@[simp] theorem isReg_OBS_STATUS_UNCHECKED (a : Nat) : IsReg OBS.STATUS.UNCHECKED a ↔ IsReg OBS.STATUS.DEMOTE a := isReg_rep rfl rfl rfl (by decide)
@[simp] theorem isReg_OBS_STATUS_LATE (a : Nat) : IsReg OBS.STATUS.LATE a ↔ IsReg OBS.STATUS.DEMOTE a := isReg_rep rfl rfl rfl (by decide)
@[simp] theorem isReg_INF_ENG_STATUS_TEST (a : Nat) : IsReg INF.ENG_STATUS.TEST a ↔ IsReg INF.ENG_STATUS.USABLE a := isReg_rep rfl rfl rfl (by decide)
@[simp] theorem isReg_INF_ENG_STATUS_HOST2 (a : Nat) : IsReg INF.ENG_STATUS.HOST2 a ↔ IsReg INF.ENG_STATUS.USABLE a := isReg_rep rfl rfl rfl (by decide)
@[simp] theorem isReg_INF_STATUS_DEMOTE (a : Nat) : IsReg INF.STATUS.DEMOTE a ↔ IsReg INF.STATUS.UNAVAIL a := isReg_rep rfl rfl rfl (by decide)
@[simp] theorem isReg_INF_STATUS_UNPROT (a : Nat) : IsReg INF.STATUS.UNPROT a ↔ IsReg INF.STATUS.UNAVAIL a := isReg_rep rfl rfl rfl (by decide)
@[simp] theorem isReg_ENG_STATUS_THREADS (a : Nat) : IsReg ENG.STATUS.THREADS a ↔ IsReg ENG.STATUS.HOSTS a := isReg_rep rfl rfl rfl (by decide)
@[simp] theorem isReg_ENG_STATUS_FENCED (a : Nat) : IsReg ENG.STATUS.FENCED a ↔ IsReg ENG.STATUS.HOSTS a := isReg_rep rfl rfl rfl (by decide)
@[simp] theorem isReg_ENG_STATUS_TEST (a : Nat) : IsReg ENG.STATUS.TEST a ↔ IsReg ENG.STATUS.HOSTS a := isReg_rep rfl rfl rfl (by decide)
@[simp] theorem isReg_CTX_STATUS_BUSY (a : Nat) : IsReg CTX.STATUS.BUSY a ↔ IsReg CTX.STATUS.STATE a := isReg_rep rfl rfl rfl (by decide)
@[simp] theorem isReg_CTX_STATUS_DONE (a : Nat) : IsReg CTX.STATUS.DONE a ↔ IsReg CTX.STATUS.STATE a := isReg_rep rfl rfl rfl (by decide)
@[simp] theorem isReg_CTX_STATUS_REFUSED (a : Nat) : IsReg CTX.STATUS.REFUSED a ↔ IsReg CTX.STATUS.STATE a := isReg_rep rfl rfl rfl (by decide)
@[simp] theorem isReg_CTX_STATUS_RCODE (a : Nat) : IsReg CTX.STATUS.RCODE a ↔ IsReg CTX.STATUS.STATE a := isReg_rep rfl rfl rfl (by decide)
@[simp] theorem isReg_CTX_STATUS_STATE_LOST (a : Nat) : IsReg CTX.STATUS.STATE_LOST a ↔ IsReg CTX.STATUS.STATE a := isReg_rep rfl rfl rfl (by decide)
@[simp] theorem isReg_CTX_STATUS_UNPROTECTED (a : Nat) : IsReg CTX.STATUS.UNPROTECTED a ↔ IsReg CTX.STATUS.STATE a := isReg_rep rfl rfl rfl (by decide)
@[simp] theorem isReg_CTX_STATUS_FRAME_ACTIVE (a : Nat) : IsReg CTX.STATUS.FRAME_ACTIVE a ↔ IsReg CTX.STATUS.STATE a := isReg_rep rfl rfl rfl (by decide)
@[simp] theorem isReg_CTX_STATUS_LATCHED (a : Nat) : IsReg CTX.STATUS.LATCHED a ↔ IsReg CTX.STATUS.STATE a := isReg_rep rfl rfl rfl (by decide)
@[simp] theorem isReg_CTX_STATUS_TRIG_IGN (a : Nat) : IsReg CTX.STATUS.TRIG_IGN a ↔ IsReg CTX.STATUS.STATE a := isReg_rep rfl rfl rfl (by decide)
@[simp] theorem isReg_CTX_LAST_CODE_FLAGS (a : Nat) : IsReg CTX.LAST_CODE.FLAGS a ↔ IsReg CTX.LAST_CODE.CODE a := isReg_rep rfl rfl rfl (by decide)
@[simp] theorem isReg_CTX_Q_STATUS_NAN (a : Nat) : IsReg CTX.Q_STATUS.NAN a ↔ IsReg CTX.Q_STATUS.CLIP_ALARM a := isReg_rep rfl rfl rfl (by decide)
@[simp] theorem isReg_CTX_Q_STATUS_DEVIATE (a : Nat) : IsReg CTX.Q_STATUS.DEVIATE a ↔ IsReg CTX.Q_STATUS.CLIP_ALARM a := isReg_rep rfl rfl rfl (by decide)
@[simp] theorem isReg_CTX_Q_STATUS_CONST (a : Nat) : IsReg CTX.Q_STATUS.CONST a ↔ IsReg CTX.Q_STATUS.CLIP_ALARM a := isReg_rep rfl rfl rfl (by decide)
@[simp] theorem isReg_CTX_Q_STATUS_CONST_CH (a : Nat) : IsReg CTX.Q_STATUS.CONST_CH a ↔ IsReg CTX.Q_STATUS.CLIP_ALARM a := isReg_rep rfl rfl rfl (by decide)
@[simp] theorem isReg_CTX_Q_WORST_Q_ID (a : Nat) : IsReg CTX.Q_WORST.Q_ID a ↔ IsReg CTX.Q_WORST.SHARE a := isReg_rep rfl rfl rfl (by decide)
@[simp] theorem isReg_CTX_Q_HIST_FILL_MAX (a : Nat) : IsReg CTX.Q_HIST.FILL_MAX a ↔ IsReg CTX.Q_HIST.FILL_MIN a := isReg_rep rfl rfl rfl (by decide)
@[simp] theorem isReg_CTX_Q_HIST_N_Q (a : Nat) : IsReg CTX.Q_HIST.N_Q a ↔ IsReg CTX.Q_HIST.FILL_MIN a := isReg_rep rfl rfl rfl (by decide)
@[simp] theorem isReg_CTX_DIG_STATUS_WDIG_VALID (a : Nat) : IsReg CTX.DIG_STATUS.WDIG_VALID a ↔ IsReg CTX.DIG_STATUS.HAS_U a := isReg_rep rfl rfl rfl (by decide)
@[simp] theorem isReg_CTX_DIG_STATUS_TWIN_FENCED (a : Nat) : IsReg CTX.DIG_STATUS.TWIN_FENCED a ↔ IsReg CTX.DIG_STATUS.HAS_U a := isReg_rep rfl rfl rfl (by decide)
@[simp] theorem isReg_CTX_DIG_STATUS_TWIN_LOST (a : Nat) : IsReg CTX.DIG_STATUS.TWIN_LOST a ↔ IsReg CTX.DIG_STATUS.HAS_U a := isReg_rep rfl rfl rfl (by decide)
@[simp] theorem isReg_CTX_DIG_STATUS_TRANSIENT (a : Nat) : IsReg CTX.DIG_STATUS.TRANSIENT a ↔ IsReg CTX.DIG_STATUS.HAS_U a := isReg_rep rfl rfl rfl (by decide)
@[simp] theorem isReg_CTX_DIG_STATUS_MISM_CNT (a : Nat) : IsReg CTX.DIG_STATUS.MISM_CNT a ↔ IsReg CTX.DIG_STATUS.HAS_U a := isReg_rep rfl rfl rfl (by decide)
@[simp] theorem isReg_CTX_DIG_STATUS_RERUN_OK_CNT (a : Nat) : IsReg CTX.DIG_STATUS.RERUN_OK_CNT a ↔ IsReg CTX.DIG_STATUS.HAS_U a := isReg_rep rfl rfl rfl (by decide)
@[simp] theorem isReg_CTX_TRACE_CTRL_BUSY (a : Nat) : IsReg CTX.TRACE_CTRL.BUSY a ↔ IsReg CTX.TRACE_CTRL.ARM a := isReg_rep rfl rfl rfl (by decide)
@[simp] theorem isReg_CTX_TRACE_CTRL_DONE (a : Nat) : IsReg CTX.TRACE_CTRL.DONE a ↔ IsReg CTX.TRACE_CTRL.ARM a := isReg_rep rfl rfl rfl (by decide)
@[simp] theorem isReg_CTX_TRACE_CTRL_ERR (a : Nat) : IsReg CTX.TRACE_CTRL.ERR a ↔ IsReg CTX.TRACE_CTRL.ARM a := isReg_rep rfl rfl rfl (by decide)
@[simp] theorem isReg_Q_STATUS_UNDERFLOW (a : Nat) : IsReg Q.STATUS.UNDERFLOW a ↔ IsReg Q.STATUS.NO_CREDIT a := isReg_rep rfl rfl rfl (by decide)
@[simp] theorem isReg_Q_STATUS_CFG_ERR (a : Nat) : IsReg Q.STATUS.CFG_ERR a ↔ IsReg Q.STATUS.NO_CREDIT a := isReg_rep rfl rfl rfl (by decide)
@[simp] theorem isReg_Q_STATUS_UNDRAINED (a : Nat) : IsReg Q.STATUS.UNDRAINED a ↔ IsReg Q.STATUS.NO_CREDIT a := isReg_rep rfl rfl rfl (by decide)
@[simp] theorem isReg_Q_STATUS_DISABLED (a : Nat) : IsReg Q.STATUS.DISABLED a ↔ IsReg Q.STATUS.NO_CREDIT a := isReg_rep rfl rfl rfl (by decide)
@[simp] theorem isReg_Q_STATUS_DROP_CNT (a : Nat) : IsReg Q.STATUS.DROP_CNT a ↔ IsReg Q.STATUS.NO_CREDIT a := isReg_rep rfl rfl rfl (by decide)
@[simp] theorem isReg_Q_SLOTS_TAKE_SLOT (a : Nat) : IsReg Q.SLOTS.TAKE_SLOT a ↔ IsReg Q.SLOTS.POST_SLOT a := isReg_rep rfl rfl rfl (by decide)
@[simp] theorem isReg_BAB_STATUS_CLOSE_CNT (a : Nat) : IsReg BAB.STATUS.CLOSE_CNT a ↔ IsReg BAB.STATUS.OVERLOAD a := isReg_rep rfl rfl rfl (by decide)
@[simp] theorem isReg_BAB_IN_STATUS_ALIAS (a : Nat) : IsReg BAB.IN_STATUS.ALIAS a ↔ IsReg BAB.IN_STATUS.STATE a := isReg_rep rfl rfl rfl (by decide)
@[simp] theorem isReg_BAB_IN_STATUS_RESTART_CNT (a : Nat) : IsReg BAB.IN_STATUS.RESTART_CNT a ↔ IsReg BAB.IN_STATUS.STATE a := isReg_rep rfl rfl rfl (by decide)
@[simp] theorem isReg_BAB_CTX_STATUS_MISS (a : Nat) : IsReg BAB.CTX_STATUS.MISS a ↔ IsReg BAB.CTX_STATUS.CFG_ERR a := isReg_rep rfl rfl rfl (by decide)
@[simp] theorem isReg_BAB_CTX_STATUS_STALE (a : Nat) : IsReg BAB.CTX_STATUS.STALE a ↔ IsReg BAB.CTX_STATUS.CFG_ERR a := isReg_rep rfl rfl rfl (by decide)
@[simp] theorem isReg_BAB_CTX_STATUS_REJ_ACT (a : Nat) : IsReg BAB.CTX_STATUS.REJ_ACT a ↔ IsReg BAB.CTX_STATUS.CFG_ERR a := isReg_rep rfl rfl rfl (by decide)
@[simp] theorem isReg_BAB_CTX_STATUS_LATE_IN (a : Nat) : IsReg BAB.CTX_STATUS.LATE_IN a ↔ IsReg BAB.CTX_STATUS.CFG_ERR a := isReg_rep rfl rfl rfl (by decide)
@[simp] theorem isReg_BAB_CTX_STATUS_MISS_CNT (a : Nat) : IsReg BAB.CTX_STATUS.MISS_CNT a ↔ IsReg BAB.CTX_STATUS.CFG_ERR a := isReg_rep rfl rfl rfl (by decide)
@[simp] theorem isReg_BAB_CTX_STATUS_APPLY_CNT (a : Nat) : IsReg BAB.CTX_STATUS.APPLY_CNT a ↔ IsReg BAB.CTX_STATUS.CFG_ERR a := isReg_rep rfl rfl rfl (by decide)
@[simp] theorem isReg_TWN_CFG_ROLE (a : Nat) : IsReg TWN.CFG.ROLE a ↔ IsReg TWN.CFG.EN a := isReg_rep rfl rfl rfl (by decide)
@[simp] theorem isReg_TWN_STATUS_LINK_UP (a : Nat) : IsReg TWN.STATUS.LINK_UP a ↔ IsReg TWN.STATUS.PAIRED a := isReg_rep rfl rfl rfl (by decide)
@[simp] theorem isReg_TWN_STATUS_LOST (a : Nat) : IsReg TWN.STATUS.LOST a ↔ IsReg TWN.STATUS.PAIRED a := isReg_rep rfl rfl rfl (by decide)
@[simp] theorem isReg_TWN_STATUS_COPY_CNT (a : Nat) : IsReg TWN.STATUS.COPY_CNT a ↔ IsReg TWN.STATUS.PAIRED a := isReg_rep rfl rfl rfl (by decide)
@[simp] theorem isReg_MEM_STATUS_UNAVAIL (a : Nat) : IsReg MEM.STATUS.UNAVAIL a ↔ IsReg MEM.STATUS.USABLE a := isReg_rep rfl rfl rfl (by decide)
@[simp] theorem isReg_MEM_ECC_STATUS_UE (a : Nat) : IsReg MEM.ECC_STATUS.UE a ↔ IsReg MEM.ECC_STATUS.CE a := isReg_rep rfl rfl rfl (by decide)
@[simp] theorem isReg_MEM_ECC_STATUS_SRAM_CE (a : Nat) : IsReg MEM.ECC_STATUS.SRAM_CE a ↔ IsReg MEM.ECC_STATUS.CE a := isReg_rep rfl rfl rfl (by decide)
@[simp] theorem isReg_MEM_ECC_STATUS_SRAM_UE (a : Nat) : IsReg MEM.ECC_STATUS.SRAM_UE a ↔ IsReg MEM.ECC_STATUS.CE a := isReg_rep rfl rfl rfl (by decide)
@[simp] theorem isReg_MEM_ECC_STATUS_FIRST_VALID (a : Nat) : IsReg MEM.ECC_STATUS.FIRST_VALID a ↔ IsReg MEM.ECC_STATUS.CE a := isReg_rep rfl rfl rfl (by decide)
@[simp] theorem isReg_MEM_UE_FIRST_INFO_TARGET (a : Nat) : IsReg MEM.UE_FIRST_INFO.TARGET a ↔ IsReg MEM.UE_FIRST_INFO.MASTER a := isReg_rep rfl rfl rfl (by decide)
@[simp] theorem isReg_MEM_UE_FIRST_INFO_SRC (a : Nat) : IsReg MEM.UE_FIRST_INFO.SRC a ↔ IsReg MEM.UE_FIRST_INFO.MASTER a := isReg_rep rfl rfl rfl (by decide)
@[simp] theorem isReg_MEM_UE_FIRST_INFO_CH (a : Nat) : IsReg MEM.UE_FIRST_INFO.CH a ↔ IsReg MEM.UE_FIRST_INFO.MASTER a := isReg_rep rfl rfl rfl (by decide)
@[simp] theorem isReg_MEM_CH_CNT_UE (a : Nat) : IsReg MEM.CH_CNT.UE a ↔ IsReg MEM.CH_CNT.CE a := isReg_rep rfl rfl rfl (by decide)
@[simp] theorem isReg_MEM_SRAM_CNT_UE (a : Nat) : IsReg MEM.SRAM_CNT.UE a ↔ IsReg MEM.SRAM_CNT.CE a := isReg_rep rfl rfl rfl (by decide)
@[simp] theorem isReg_AT_VIO_STATUS_VIO_CNT (a : Nat) : IsReg AT.VIO_STATUS.VIO_CNT a ↔ IsReg AT.VIO_STATUS.FIRST_VALID a := isReg_rep rfl rfl rfl (by decide)
@[simp] theorem isReg_AT_VIO_FIRST_INFO_TYPE (a : Nat) : IsReg AT.VIO_FIRST_INFO.TYPE a ↔ IsReg AT.VIO_FIRST_INFO.MASTER a := isReg_rep rfl rfl rfl (by decide)
@[simp] theorem isReg_AT_VIO_FIRST_INFO_SIZE (a : Nat) : IsReg AT.VIO_FIRST_INFO.SIZE a ↔ IsReg AT.VIO_FIRST_INFO.MASTER a := isReg_rep rfl rfl rfl (by decide)
@[simp] theorem isReg_SUP_FW_STATUS_CODE (a : Nat) : IsReg SUP.FW_STATUS.CODE a ↔ IsReg SUP.FW_STATUS.STATE a := isReg_rep rfl rfl rfl (by decide)
@[simp] theorem isReg_SUP_LAST_RESET_CNT (a : Nat) : IsReg SUP.LAST_RESET.CNT a ↔ IsReg SUP.LAST_RESET.CAUSE a := isReg_rep rfl rfl rfl (by decide)
@[simp] theorem isReg_MB_GLOBAL_POLICY (a : Nat) : IsReg MB.GLOBAL.POLICY a ↔ IsReg MB.GLOBAL.READY a := isReg_rep rfl rfl rfl (by decide)
@[simp] theorem isReg_MB_GLOBAL_REPLY_PEND (a : Nat) : IsReg MB.GLOBAL.REPLY_PEND a ↔ IsReg MB.GLOBAL.READY a := isReg_rep rfl rfl rfl (by decide)
@[simp] theorem isReg_MB_STATUS_BUSY (a : Nat) : IsReg MB.STATUS.BUSY a ↔ IsReg MB.STATUS.PENDING a := isReg_rep rfl rfl rfl (by decide)
@[simp] theorem isReg_MB_STATUS_REPLY (a : Nat) : IsReg MB.STATUS.REPLY a ↔ IsReg MB.STATUS.PENDING a := isReg_rep rfl rfl rfl (by decide)
@[simp] theorem isReg_MB_STATUS_DB_REFUSED (a : Nat) : IsReg MB.STATUS.DB_REFUSED a ↔ IsReg MB.STATUS.PENDING a := isReg_rep rfl rfl rfl (by decide)
@[simp] theorem isReg_MB_STATUS_WR_REFUSED (a : Nat) : IsReg MB.STATUS.WR_REFUSED a ↔ IsReg MB.STATUS.PENDING a := isReg_rep rfl rfl rfl (by decide)
@[simp] theorem isReg_MB_STATUS_SESSION (a : Nat) : IsReg MB.STATUS.SESSION a ↔ IsReg MB.STATUS.PENDING a := isReg_rep rfl rfl rfl (by decide)
@[simp] theorem isReg_MB_STATUS_MAJOR (a : Nat) : IsReg MB.STATUS.MAJOR a ↔ IsReg MB.STATUS.PENDING a := isReg_rep rfl rfl rfl (by decide)
@[simp] theorem isReg_MB_STATUS_MINOR (a : Nat) : IsReg MB.STATUS.MINOR a ↔ IsReg MB.STATUS.PENDING a := isReg_rep rfl rfl rfl (by decide)
@[simp] theorem isReg_SAF_STATUS_CRC_OK (a : Nat) : IsReg SAF.STATUS.CRC_OK a ↔ IsReg SAF.STATUS.STATE a := isReg_rep rfl rfl rfl (by decide)
@[simp] theorem isReg_SAF_STATUS_CFG_REFUSED (a : Nat) : IsReg SAF.STATUS.CFG_REFUSED a ↔ IsReg SAF.STATUS.STATE a := isReg_rep rfl rfl rfl (by decide)
@[simp] theorem isReg_SAF_STATUS_FAULT (a : Nat) : IsReg SAF.STATUS.FAULT a ↔ IsReg SAF.STATUS.STATE a := isReg_rep rfl rfl rfl (by decide)
@[simp] theorem isReg_SAF_STATUS_DEADLINE (a : Nat) : IsReg SAF.STATUS.DEADLINE a ↔ IsReg SAF.STATUS.STATE a := isReg_rep rfl rfl rfl (by decide)
@[simp] theorem isReg_SAF_SI_STATE_HIGH (a : Nat) : IsReg SAF.SI_STATE.HIGH a ↔ IsReg SAF.SI_STATE.LOW a := isReg_rep rfl rfl rfl (by decide)
@[simp] theorem isReg_SAF_GROUP_STATE_HIGH (a : Nat) : IsReg SAF.GROUP_STATE.HIGH a ↔ IsReg SAF.GROUP_STATE.LOW a := isReg_rep rfl rfl rfl (by decide)
@[simp] theorem isReg_SAF_FAULT_LAST_AXIS (a : Nat) : IsReg SAF.FAULT_LAST.AXIS a ↔ IsReg SAF.FAULT_LAST.CODE a := isReg_rep rfl rfl rfl (by decide)
@[simp] theorem isReg_SAF_FAULT_LAST_UNIT (a : Nat) : IsReg SAF.FAULT_LAST.UNIT a ↔ IsReg SAF.FAULT_LAST.CODE a := isReg_rep rfl rfl rfl (by decide)
@[simp] theorem isReg_SAF_TEST_STATUS_ROT_POS (a : Nat) : IsReg SAF.TEST_STATUS.ROT_POS a ↔ IsReg SAF.TEST_STATUS.ABORT_CNT a := isReg_rep rfl rfl rfl (by decide)
@[simp] theorem isReg_AGE_SVC_POLICY_INTERFACES (a : Nat) : IsReg AGE.SVC_POLICY.INTERFACES a ↔ IsReg AGE.SVC_POLICY.AGEING a := isReg_rep rfl rfl rfl (by decide)
@[simp] theorem isReg_AGE_STATUS_MARGIN_LOW (a : Nat) : IsReg AGE.STATUS.MARGIN_LOW a ↔ IsReg AGE.STATUS.MODE a := isReg_rep rfl rfl rfl (by decide)
@[simp] theorem isReg_AGE_STATUS_PMBUS_ERR (a : Nat) : IsReg AGE.STATUS.PMBUS_ERR a ↔ IsReg AGE.STATUS.MODE a := isReg_rep rfl rfl rfl (by decide)
@[simp] theorem isReg_AGE_STATUS_DL_LIM (a : Nat) : IsReg AGE.STATUS.DL_LIM a ↔ IsReg AGE.STATUS.MODE a := isReg_rep rfl rfl rfl (by decide)
@[simp] theorem isReg_AGE_STATUS_TRIM_LIM (a : Nat) : IsReg AGE.STATUS.TRIM_LIM a ↔ IsReg AGE.STATUS.MODE a := isReg_rep rfl rfl rfl (by decide)
@[simp] theorem isReg_AGE_STATUS_SVC_REFUSED (a : Nat) : IsReg AGE.STATUS.SVC_REFUSED a ↔ IsReg AGE.STATUS.MODE a := isReg_rep rfl rfl rfl (by decide)
@[simp] theorem isReg_AGE_STATUS_REPLAN_CNT (a : Nat) : IsReg AGE.STATUS.REPLAN_CNT a ↔ IsReg AGE.STATUS.MODE a := isReg_rep rfl rfl rfl (by decide)
@[simp] theorem isReg_AGE_SMIN_MON (a : Nat) : IsReg AGE.SMIN.MON a ↔ IsReg AGE.SMIN.SLACK a := isReg_rep rfl rfl rfl (by decide)
@[simp] theorem isReg_BIST_STATUS_DONE (a : Nat) : IsReg BIST.STATUS.DONE a ↔ IsReg BIST.STATUS.STEP a := isReg_rep rfl rfl rfl (by decide)
@[simp] theorem isReg_BIST_STATUS_UNREPAIRED (a : Nat) : IsReg BIST.STATUS.UNREPAIRED a ↔ IsReg BIST.STATUS.STEP a := isReg_rep rfl rfl rfl (by decide)
@[simp] theorem isReg_BIST_STATUS_FUSE_FULL (a : Nat) : IsReg BIST.STATUS.FUSE_FULL a ↔ IsReg BIST.STATUS.STEP a := isReg_rep rfl rfl rfl (by decide)
@[simp] theorem isReg_BIST_STATUS_FUSE_USED (a : Nat) : IsReg BIST.STATUS.FUSE_USED a ↔ IsReg BIST.STATUS.STEP a := isReg_rep rfl rfl rfl (by decide)
@[simp] theorem isReg_BIST_RESULT_REPAIRS (a : Nat) : IsReg BIST.RESULT.REPAIRS a ↔ IsReg BIST.RESULT.OUTCOME a := isReg_rep rfl rfl rfl (by decide)
@[simp] theorem isReg_BIST_RESULT_TIME (a : Nat) : IsReg BIST.RESULT.TIME a ↔ IsReg BIST.RESULT.OUTCOME a := isReg_rep rfl rfl rfl (by decide)
@[simp] theorem isReg_REC_STATUS_NV_ERR (a : Nat) : IsReg REC.STATUS.NV_ERR a ↔ IsReg REC.STATUS.NV_VALID a := isReg_rep rfl rfl rfl (by decide)
@[simp] theorem isReg_REC_STATUS_NV_BAD (a : Nat) : IsReg REC.STATUS.NV_BAD a ↔ IsReg REC.STATUS.NV_VALID a := isReg_rep rfl rfl rfl (by decide)
@[simp] theorem isReg_SEC_LC_DBG_UNLOCKED (a : Nat) : IsReg SEC.LC.DBG_UNLOCKED a ↔ IsReg SEC.LC.STATE a := isReg_rep rfl rfl rfl (by decide)
@[simp] theorem isReg_SEC_BOOT_STATUS_OPEN (a : Nat) : IsReg SEC.BOOT_STATUS.OPEN a ↔ IsReg SEC.BOOT_STATUS.SLOT a := isReg_rep rfl rfl rfl (by decide)
@[simp] theorem isReg_SEC_BOOT_STATUS_CODE_A (a : Nat) : IsReg SEC.BOOT_STATUS.CODE_A a ↔ IsReg SEC.BOOT_STATUS.SLOT a := isReg_rep rfl rfl rfl (by decide)
@[simp] theorem isReg_SEC_BOOT_STATUS_CODE_B (a : Nat) : IsReg SEC.BOOT_STATUS.CODE_B a ↔ IsReg SEC.BOOT_STATUS.SLOT a := isReg_rep rfl rfl rfl (by decide)
@[simp] theorem isReg_SEC_KEY_STATUS_REVOKED (a : Nat) : IsReg SEC.KEY_STATUS.REVOKED a ↔ IsReg SEC.KEY_STATUS.VALID a := isReg_rep rfl rfl rfl (by decide)
@[simp] theorem isReg_SEC_KEY_STATUS_BAD (a : Nat) : IsReg SEC.KEY_STATUS.BAD a ↔ IsReg SEC.KEY_STATUS.VALID a := isReg_rep rfl rfl rfl (by decide)
@[simp] theorem isReg_SEC_FUSE_STATUS_DONE (a : Nat) : IsReg SEC.FUSE_STATUS.DONE a ↔ IsReg SEC.FUSE_STATUS.BUSY a := isReg_rep rfl rfl rfl (by decide)
@[simp] theorem isReg_SEC_FUSE_STATUS_REFUSED (a : Nat) : IsReg SEC.FUSE_STATUS.REFUSED a ↔ IsReg SEC.FUSE_STATUS.BUSY a := isReg_rep rfl rfl rfl (by decide)
@[simp] theorem isReg_SEC_FUSE_STATUS_RCODE (a : Nat) : IsReg SEC.FUSE_STATUS.RCODE a ↔ IsReg SEC.FUSE_STATUS.BUSY a := isReg_rep rfl rfl rfl (by decide)
@[simp] theorem isReg_SEC_ATT_STATUS_DONE (a : Nat) : IsReg SEC.ATT_STATUS.DONE a ↔ IsReg SEC.ATT_STATUS.BUSY a := isReg_rep rfl rfl rfl (by decide)
@[simp] theorem isReg_SEC_ATT_STATUS_REFUSED (a : Nat) : IsReg SEC.ATT_STATUS.REFUSED a ↔ IsReg SEC.ATT_STATUS.BUSY a := isReg_rep rfl rfl rfl (by decide)
@[simp] theorem isReg_SEC_ATT_STATUS_RCODE (a : Nat) : IsReg SEC.ATT_STATUS.RCODE a ↔ IsReg SEC.ATT_STATUS.BUSY a := isReg_rep rfl rfl rfl (by decide)
@[simp] theorem isReg_SEC_DBG_CMD_FAIL (a : Nat) : IsReg SEC.DBG_CMD.FAIL a ↔ IsReg SEC.DBG_CMD.CHAL a := isReg_rep rfl rfl rfl (by decide)
@[simp] theorem isReg_PWR_STATE_BUSY (a : Nat) : IsReg PWR.STATE.BUSY a ↔ IsReg PWR.STATE.STATE a := isReg_rep rfl rfl rfl (by decide)
@[simp] theorem isReg_PWR_RST_CAUSE_SYS_CNT (a : Nat) : IsReg PWR.RST_CAUSE.SYS_CNT a ↔ IsReg PWR.RST_CAUSE.CAUSE a := isReg_rep rfl rfl rfl (by decide)
@[simp] theorem isReg_PWR_START_STATUS_BOOT_OK (a : Nat) : IsReg PWR.START_STATUS.BOOT_OK a ↔ IsReg PWR.START_STATUS.SELF_OK a := isReg_rep rfl rfl rfl (by decide)
@[simp] theorem isReg_PWR_START_STATUS_TRAINED (a : Nat) : IsReg PWR.START_STATUS.TRAINED a ↔ IsReg PWR.START_STATUS.SELF_OK a := isReg_rep rfl rfl rfl (by decide)
@[simp] theorem isReg_PWR_START_STATUS_ENUM_DONE (a : Nat) : IsReg PWR.START_STATUS.ENUM_DONE a ↔ IsReg PWR.START_STATUS.SELF_OK a := isReg_rep rfl rfl rfl (by decide)
@[simp] theorem isReg_PWR_START_STATUS_STOP (a : Nat) : IsReg PWR.START_STATUS.STOP a ↔ IsReg PWR.START_STATUS.SELF_OK a := isReg_rep rfl rfl rfl (by decide)
@[simp] theorem isReg_PWR_STRAPS_PWMSAFE_L (a : Nat) : IsReg PWR.STRAPS.PWMSAFE_L a ↔ IsReg PWR.STRAPS.PWMSAFE_H a := isReg_rep rfl rfl rfl (by decide)
@[simp] theorem isReg_PWR_STRAPS_RINGPOS0 (a : Nat) : IsReg PWR.STRAPS.RINGPOS0 a ↔ IsReg PWR.STRAPS.PWMSAFE_H a := isReg_rep rfl rfl rfl (by decide)
@[simp] theorem isReg_PWR_RING_STATUS_PRESENT (a : Nat) : IsReg PWR.RING_STATUS.PRESENT a ↔ IsReg PWR.RING_STATUS.RING_ID a := isReg_rep rfl rfl rfl (by decide)
@[simp] theorem isReg_PWR_RING_STATUS_GAP (a : Nat) : IsReg PWR.RING_STATUS.GAP a ↔ IsReg PWR.RING_STATUS.RING_ID a := isReg_rep rfl rfl rfl (by decide)
@[simp] theorem isReg_PWR_RING_STATUS_ENUM_ERR (a : Nat) : IsReg PWR.RING_STATUS.ENUM_ERR a ↔ IsReg PWR.RING_STATUS.RING_ID a := isReg_rep rfl rfl rfl (by decide)
@[simp] theorem isReg_PWR_RING_STATUS_ISOLATED (a : Nat) : IsReg PWR.RING_STATUS.ISOLATED a ↔ IsReg PWR.RING_STATUS.RING_ID a := isReg_rep rfl rfl rfl (by decide)
@[simp] theorem isReg_PWR_RING_STATUS_MASTER (a : Nat) : IsReg PWR.RING_STATUS.MASTER a ↔ IsReg PWR.RING_STATUS.RING_ID a := isReg_rep rfl rfl rfl (by decide)
@[simp] theorem isReg_LNK_STATUS_LANES (a : Nat) : IsReg LNK.STATUS.LANES a ↔ IsReg LNK.STATUS.UP a := isReg_rep rfl rfl rfl (by decide)
@[simp] theorem isReg_LNK_STATUS_VER_ERR (a : Nat) : IsReg LNK.STATUS.VER_ERR a ↔ IsReg LNK.STATUS.UP a := isReg_rep rfl rfl rfl (by decide)
@[simp] theorem isReg_LNK_STATUS_LOST (a : Nat) : IsReg LNK.STATUS.LOST a ↔ IsReg LNK.STATUS.UP a := isReg_rep rfl rfl rfl (by decide)
@[simp] theorem isReg_LNK_STATUS_VER_MINOR (a : Nat) : IsReg LNK.STATUS.VER_MINOR a ↔ IsReg LNK.STATUS.UP a := isReg_rep rfl rfl rfl (by decide)
@[simp] theorem isReg_LNK_STATUS_VER_MAJOR (a : Nat) : IsReg LNK.STATUS.VER_MAJOR a ↔ IsReg LNK.STATUS.UP a := isReg_rep rfl rfl rfl (by decide)
@[simp] theorem isReg_LNK_STATUS_PEER_ID (a : Nat) : IsReg LNK.STATUS.PEER_ID a ↔ IsReg LNK.STATUS.UP a := isReg_rep rfl rfl rfl (by decide)
@[simp] theorem isReg_IOS_TACH_STATUS_REJ_CNT (a : Nat) : IsReg IOS.TACH_STATUS.REJ_CNT a ↔ IsReg IOS.TACH_STATUS.PULSE_CNT a := isReg_rep rfl rfl rfl (by decide)
@[simp] theorem isReg_IOS_SSI_STATUS_ERR_CNT (a : Nat) : IsReg IOS.SSI_STATUS.ERR_CNT a ↔ IsReg IOS.SSI_STATUS.FRAME_CNT a := isReg_rep rfl rfl rfl (by decide)
@[simp] theorem isReg_PMB_READ_IOUT (a : Nat) : IsReg PMB.READ.IOUT a ↔ IsReg PMB.READ.VOUT a := isReg_rep rfl rfl rfl (by decide)
@[simp] theorem isReg_THM_STATUS_CRIT (a : Nat) : IsReg THM.STATUS.CRIT a ↔ IsReg THM.STATUS.THROTTLE a := isReg_rep rfl rfl rfl (by decide)
@[simp] theorem isReg_THM_STATUS_SHUT (a : Nat) : IsReg THM.STATUS.SHUT a ↔ IsReg THM.STATUS.THROTTLE a := isReg_rep rfl rfl rfl (by decide)
@[simp] theorem isReg_THM_STATUS_CFG_REFUSED (a : Nat) : IsReg THM.STATUS.CFG_REFUSED a ↔ IsReg THM.STATUS.THROTTLE a := isReg_rep rfl rfl rfl (by decide)
@[simp] theorem isReg_THM_STATUS_LEVEL (a : Nat) : IsReg THM.STATUS.LEVEL a ↔ IsReg THM.STATUS.THROTTLE a := isReg_rep rfl rfl rfl (by decide)
@[simp] theorem isReg_THM_STATUS_THR_MS (a : Nat) : IsReg THM.STATUS.THR_MS a ↔ IsReg THM.STATUS.THROTTLE a := isReg_rep rfl rfl rfl (by decide)
@[simp] theorem isReg_THM_TJ_MAX_SENSOR (a : Nat) : IsReg THM.TJ_MAX.SENSOR a ↔ IsReg THM.TJ_MAX.TJ a := isReg_rep rfl rfl rfl (by decide)
@[simp] theorem isReg_THM_TJ_PEAK_SENSOR (a : Nat) : IsReg THM.TJ_PEAK.SENSOR a ↔ IsReg THM.TJ_PEAK.TJ a := isReg_rep rfl rfl rfl (by decide)

end Sys2Proof.Machine
end

