-- ==== Sys2Proof/Laws/Frame1.lean ====
section
/-!
SUPPORT. Which registers the operations of Ops, Flags, Recorder, Operands, Access, LinkPort, Ecc, Queue change: every register of another
field keeps its value.
-/
set_option linter.all false
namespace Sys2Proof.Machine
open Sys2Proof.Safety

@[simp] theorem State.draw_regs (s : State) (ga : Nat) :
    regAt (State.draw s).2.regs ga = regAt s.regs ga := by
  simp [State.draw]
@[simp] theorem State.mbSettle_regs (s : State) (op : Nat) (rc : Nat) (mine : List Nat → Bool) (ga : Nat) :
    regAt (State.mbSettle s op rc mine).regs ga = regAt s.regs ga := by
  simp [State.mbSettle]
@[simp] theorem State.transAbandon_regs (s : State) (ga : Nat) (ho : Off [PWR.STATE.STATE] ga) :
    regAt (State.transAbandon s).regs ga = regAt s.regs ga := by
  simp only [Off_cons, Off_nil] at ho
  simp [State.transAbandon, ho]
@[simp] theorem State.showQueue_regs (s : State) (ga : Nat) (ho : Off [REC.QUEUE.VALUE] ga) :
    regAt (State.showQueue s).regs ga = regAt s.regs ga := by
  simp only [Off_cons, Off_nil] at ho
  simp [State.showQueue, ho]
@[simp] theorem State.emitAt_regs (s : State) (at_ : Nat) (code : Nat) (source : Nat) (payload : List Nat) (merge : Bool) (ga : Nat) (ho : Off [REC.QUEUE.VALUE, REC.EVT_TOTAL] ga) :
    regAt (State.emitAt s at_ code source payload merge).regs ga = regAt s.regs ga := by
  simp only [Off_cons, Off_nil] at ho
  unfold State.emitAt; dsimp only; (repeat' split) <;> simp [ho]
@[simp] theorem State.emit_regs (s : State) (code : Nat) (source : Nat) (payload : (List Nat)) (ga : Nat) (ho : Off [REC.QUEUE.VALUE, REC.EVT_TOTAL] ga) :
    regAt (State.emit s code source payload).regs ga = regAt s.regs ga := by
  simp only [Off_cons, Off_nil] at ho
  simp [State.emit, ho]
@[simp] theorem State.emitMerge_regs (s : State) (code : Nat) (source : Nat) (payload : (List Nat)) (ga : Nat) (ho : Off [REC.QUEUE.VALUE, REC.EVT_TOTAL] ga) :
    regAt (State.emitMerge s code source payload).regs ga = regAt s.regs ga := by
  simp only [Off_cons, Off_nil] at ho
  simp [State.emitMerge, ho]
@[simp] theorem State.putRecord_regs (s : State) (r : Record) (ga : Nat) :
    regAt (State.putRecord s r).regs ga = regAt s.regs ga := by
  simp [State.putRecord]
@[simp] theorem State.openRecord_regs (s : State) (e : RecEvent) (cont : Bool) (ga : Nat) (ho : Off [REC.HEAD.VALUE] ga) :
    regAt (State.openRecord s e cont).regs ga = regAt s.regs ga := by
  simp only [Off_cons, Off_nil] at ho
  simp [State.openRecord, ho]
@[simp] theorem State.recordEvent_regs (s : State) (e : RecEvent) (ga : Nat) (ho : Off [REC.HEAD.VALUE] ga) :
    regAt (State.recordEvent s e).regs ga = regAt s.regs ga := by
  simp only [Off_cons, Off_nil] at ho
  unfold State.recordEvent; split <;> simp [ho]
@[simp] theorem State.overflowEvent_regs (s : State) (ga : Nat) :
    regAt (State.overflowEvent s).regs ga = regAt s.regs ga := by
  simp [State.overflowEvent]
@[simp] theorem State.mirrorAll_regs (s : State) (clean : Bool) (ga : Nat) (ho : Off [REC.NV_HEAD.VALUE] ga) :
    regAt (State.mirrorAll s clean).regs ga = regAt s.regs ga := by
  simp only [Off_cons, Off_nil] at ho
  simp [State.mirrorAll, ho]
@[simp] theorem State.flushMirror_regs (s : State) (ok : Bool) (ga : Nat) (ho : Off [REC.STATUS.NV_VALID, REC.NV_HEAD.VALUE] ga) :
    regAt (State.flushMirror s ok).regs ga = regAt s.regs ga := by
  simp only [Off_cons, Off_nil] at ho
  simp [State.flushMirror, ho]
@[simp] theorem State.hoursGo_regs (s : State) (ga : Nat) :
    regAt (State.hoursGo s).regs ga = regAt s.regs ga := by
  unfold State.hoursGo; split <;> simp
@[simp] theorem State.historyEmpty_regs (s : State) (ga : Nat) (ho : Off [MEM.CH_RETIRE.RETIRE, AGE.SVC_POLICY.AGEING, AGE.PFENCE.PFENCE, AGE.FAIL_CNT.FAIL_CNT, AGE.PFENCE_AX] ga) :
    regAt (State.historyEmpty s).regs ga = regAt s.regs ga := by
  simp only [Off_cons, Off_nil] at ho
  simp [State.historyEmpty, ho]
@[simp] theorem State.historyCheck_regs (s : State) (found : Sys2Proof.StartFindings) (ga : Nat) (ho : Off [MEM.CH_RETIRE.RETIRE, AGE.SVC_POLICY.AGEING, AGE.PFENCE.PFENCE, AGE.FAIL_CNT.FAIL_CNT, AGE.PFENCE_AX] ga) :
    regAt (State.historyCheck s found).regs ga = regAt s.regs ga := by
  simp only [Off_cons, Off_nil] at ho
  simp [State.historyCheck, ho]
@[simp] theorem State.ringFill_regs (s : State) (ga : Nat) :
    regAt (State.ringFill s).regs ga = regAt s.regs ga := by
  simp [State.ringFill]
@[simp] theorem State.recorderShow_regs (s : State) (r : RecState) (ga : Nat) (ho : Off [REC.STATUS.NV_VALID, REC.HEAD.VALUE, REC.NV_HEAD.VALUE, REC.QUEUE.VALUE, REC.EVT_TOTAL, REC.HOURS.VALUE,
      REC.PCYCLE.VALUE] ga) :
    regAt (State.recorderShow s r).regs ga = regAt s.regs ga := by
  simp only [Off_cons, Off_nil] at ho
  simp [State.recorderShow, ho]
@[simp] theorem State.recorderPor_regs (s : State) (found : Sys2Proof.StartFindings) (ga : Nat) (ho : Off [MEM.CH_RETIRE.RETIRE, AGE.SVC_POLICY.AGEING, AGE.PFENCE.PFENCE, AGE.FAIL_CNT.FAIL_CNT, AGE.PFENCE_AX,
      REC.STATUS.NV_VALID, REC.HEAD.VALUE, REC.NV_HEAD.VALUE, REC.QUEUE.VALUE, REC.EVT_TOTAL, REC.HOURS.VALUE,
      REC.PCYCLE.VALUE] ga) :
    regAt (State.recorderPor s found).regs ga = regAt s.regs ga := by
  simp only [Off_cons, Off_nil] at ho
  simp [State.recorderPor, ho]
@[simp] theorem State.tbNote_regs (s : State) (t_ : Nat) (stamp : Nat) (ang : Int) (spd : Int) (live : Bool) (ga : Nat) :
    regAt (State.tbNote s t_ stamp ang spd live).regs ga = regAt s.regs ga := by
  simp [State.tbNote]
@[simp] theorem State.logViolation_regs (s : State) (m a n type_ : Nat) (ga : Nat) (ho : Off [AT.VIO_STATUS.FIRST_VALID, AT.VIO_FIRST_ADDR, AT.VIO_FIRST_INFO.MASTER, AT.VIO_FIRST_TIME, AT.VIO_LATEST_ADDR,
      AT.VIO_LATEST_INFO.INFO, AT.VIO_LATEST_TIME, REC.QUEUE.VALUE, REC.EVT_TOTAL] ga) :
    regAt (s.logViolation m a n type_).regs ga = regAt s.regs ga := by
  simp only [Off_cons, Off_nil] at ho
  unfold State.logViolation
  dsimp only
  rw [State.emitMerge_regs _ _ _ _ _ (by simp [ho]), incSat_off _ _ _ _ _ _ (by simp [ho])]
  show regAt (State.regs (if _ then _ else _)) ga = _
  (repeat' split) <;> simp [ho]
@[simp] theorem State.violate_regs (s : State) (m : Nat) (a : Nat) (n : Nat) (type_ : Nat) (ga : Nat) (ho : Off [AT.VIO_STATUS.FIRST_VALID, AT.VIO_FIRST_ADDR, AT.VIO_FIRST_INFO.MASTER, AT.VIO_FIRST_TIME, AT.VIO_LATEST_ADDR,
      AT.VIO_LATEST_INFO.INFO, AT.VIO_LATEST_TIME, REC.QUEUE.VALUE, REC.EVT_TOTAL] ga) :
    regAt (State.violate s m a n type_).regs ga = regAt s.regs ga := by
  simp only [Off_cons, Off_nil] at ho
  simp [State.violate, ho]
@[simp] theorem State.busWriteWith_regs (s : State) (m a : Nat) (sw : Bool) (fx : State → State × WErr) (ga : Nat) (ho : Off [AT.VIO_STATUS.FIRST_VALID, AT.VIO_FIRST_ADDR, AT.VIO_FIRST_INFO.MASTER, AT.VIO_FIRST_TIME, AT.VIO_LATEST_ADDR,
      AT.VIO_LATEST_INFO.INFO, AT.VIO_LATEST_TIME, REC.QUEUE.VALUE, REC.EVT_TOTAL] ga)
    (hf : regAt (fx s).1.regs ga = regAt s.regs ga) : regAt (s.busWriteWith m a sw fx).regs ga = regAt s.regs ga := by
  unfold State.busWriteWith
  split
  · simp [ho]
  · dsimp only; split <;> simp [ho, hf]
@[simp] theorem State.latchGroup_regs (s : State) (m : Nat) (as_ : List Nat) (ga : Nat) :
    regAt (State.latchGroup s m as_).regs ga = regAt s.regs ga := by
  simp [State.latchGroup]
@[simp] theorem State.readReg_regs (s : State) (m : Nat) (a : Nat) (ga : Nat) :
    regAt (State.readReg s m a).2.regs ga = regAt s.regs ga := by
  unfold State.readReg; dsimp only; (repeat' split) <;> simp
@[simp] theorem State.busRead_regs (s : State) (m : Nat) (a : Nat) (ga : Nat) (ho : Off [AT.VIO_STATUS.FIRST_VALID, AT.VIO_FIRST_ADDR, AT.VIO_FIRST_INFO.MASTER, AT.VIO_FIRST_TIME, AT.VIO_LATEST_ADDR,
      AT.VIO_LATEST_INFO.INFO, AT.VIO_LATEST_TIME, REC.QUEUE.VALUE, REC.EVT_TOTAL] ga) :
    regAt (State.busRead s m a).regs ga = regAt s.regs ga := by
  simp only [Off_cons, Off_nil] at ho
  unfold State.busRead; split <;> simp [ho]
@[simp] theorem State.turnAway_regs (s : State) (a : Nat) (v : Nat) (e : WErr) (ga : Nat) :
    regAt (State.turnAway s a v e).1.regs ga = regAt s.regs ga := by
  simp [State.turnAway]
@[simp] theorem State.linkFlush_regs (s : State) (p : Nat) (ga : Nat) :
    regAt (State.linkFlush s p).regs ga = regAt s.regs ga := by
  simp [State.linkFlush]
@[simp] theorem State.linkSend_regs (s : State) (p : Nat) (t_ : Nat) (status : Nat) (addr : Nat) (payload : List Nat) (ga : Nat) :
    regAt (State.linkSend s p t_ status addr payload).regs ga = regAt s.regs ga := by
  simp [State.linkSend]
@[simp] theorem State.linkRecv_regs (s : State) (p : Nat) (t_ : Nat) (ga : Nat) :
    regAt (State.linkRecv s p t_).regs ga = regAt s.regs ga := by
  simp [State.linkRecv]
@[simp] theorem State.twinSend_regs (s : State) (t_ : Nat) (payload : List Nat) (ga : Nat) :
    regAt (State.twinSend s t_ payload).regs ga = regAt s.regs ga := by
  simp [State.twinSend]
@[simp] theorem State.sendCopy_regs (s : State) (what : List Nat) (ga : Nat) (ho : Off [TWN.STATUS.PAIRED] ga) :
    regAt (State.sendCopy s what).regs ga = regAt s.regs ga := by
  simp only [Off_cons, Off_nil] at ho
  simp [State.sendCopy, ho]
@[simp] theorem State.linkDown_regs (s : State) (p : Nat) (ga : Nat) (ho : Off [TWN.STATUS.PAIRED, LNK.STATUS.UP] ga) :
    regAt (State.linkDown s p).regs ga = regAt s.regs ga := by
  simp only [Off_cons, Off_nil] at ho
  simp [State.linkDown, ho]
@[simp] theorem State.linkRetrain_regs (s : State) (p : Nat) (ga : Nat) (ho : Off [TWN.STATUS.PAIRED, LNK.STATUS.UP, LNK.RETRAIN_CNT.CNT] ga) :
    regAt (State.linkRetrain s p).regs ga = regAt s.regs ga := by
  simp only [Off_cons, Off_nil] at ho
  simp [State.linkRetrain, ho]
@[simp] theorem State.memCe_regs (s : State) (a : Nat) (ga : Nat) (ho : Off [MEM.ECC_STATUS.CE, MEM.CH_CNT.CE, MEM.SRAM_CNT.CE] ga) :
    regAt (State.memCe s a).regs ga = regAt s.regs ga := by
  simp only [Off_cons, Off_nil] at ho
  unfold State.memCe; split <;> simp [ho]
@[simp] theorem State.chRetire_regs (s : State) (ch : Nat) (ga : Nat) (ho : Off [MEM.CH_RETIRE.RETIRE, REC.QUEUE.VALUE, REC.EVT_TOTAL] ga) :
    regAt (State.chRetire s ch).regs ga = regAt s.regs ga := by
  simp only [Off_cons, Off_nil] at ho
  simp [State.chRetire, ho]
@[simp] theorem State.memUe_regs (s : State) (m : Nat) (a : Nat) (src : Nat) (ga : Nat) (ho : Off [MEM.CH_RETIRE.RETIRE, MEM.ECC_STATUS.CE, MEM.UE_FIRST_ADDR, MEM.UE_FIRST_INFO.MASTER, MEM.UE_FIRST_TIME,
      MEM.UE_LATEST_ADDR, MEM.UE_LATEST_INFO.INFO, MEM.UE_LATEST_TIME, MEM.CH_CNT.CE, MEM.SRAM_CNT.CE, REC.QUEUE.VALUE,
      REC.EVT_TOTAL] ga) :
    regAt (State.memUe s m a src).regs ga = regAt s.regs ga := by
  simp only [Off_cons, Off_nil] at ho
  simp [State.memUe, ho]
@[simp] theorem State.flipBit_regs (s : State) (x : Nat × Nat) (ga : Nat) :
    regAt (State.flipBit s x).regs ga = regAt s.regs ga := by
  simp [State.flipBit]
@[simp] theorem State.eccFix_regs (s : State) (u : Nat) (ga : Nat) (ho : Off [MEM.ECC_STATUS.CE, MEM.CH_CNT.CE, MEM.SRAM_CNT.CE] ga) :
    regAt (State.eccFix s u).regs ga = regAt s.regs ga := by
  simp only [Off_cons, Off_nil] at ho
  simp [State.eccFix, ho]
@[simp] theorem State.eccFind_regs (s : State) (m : Nat) (a : Nat) (src : Nat) (us : List Nat) (ga : Nat) (ho : Off [MEM.CH_RETIRE.RETIRE, MEM.ECC_STATUS.CE, MEM.UE_FIRST_ADDR, MEM.UE_FIRST_INFO.MASTER, MEM.UE_FIRST_TIME,
      MEM.UE_LATEST_ADDR, MEM.UE_LATEST_INFO.INFO, MEM.UE_LATEST_TIME, MEM.CH_CNT.CE, MEM.SRAM_CNT.CE, REC.QUEUE.VALUE,
      REC.EVT_TOTAL] ga) :
    regAt (State.eccFind s m a src us).1.regs ga = regAt s.regs ga := by
  simp only [Off_cons, Off_nil] at ho
  unfold State.eccFind; split <;> simp [ho]
@[simp] theorem State.memWrite_regs (s : State) (m a : Nat) (d : List Nat) (ga : Nat) (ho : Off [MEM.CH_RETIRE.RETIRE, MEM.ECC_STATUS.CE, MEM.UE_FIRST_ADDR, MEM.UE_FIRST_INFO.MASTER, MEM.UE_FIRST_TIME,
      MEM.UE_LATEST_ADDR, MEM.UE_LATEST_INFO.INFO, MEM.UE_LATEST_TIME, MEM.CH_CNT.CE, MEM.SRAM_CNT.CE, REC.QUEUE.VALUE,
      REC.EVT_TOTAL] ga) :
    regAt (s.memWrite m a d).1.regs ga = regAt s.regs ga := by
  simp only [Off_cons, Off_nil] at ho
  unfold State.memWrite
  split <;> (rename_i heq; have hs := congrArg (fun x => x.1) heq; simp only at hs; subst hs) <;> simp [ho]
@[simp] theorem State.qCredits_regs (s : State) (q : Nat) (ga : Nat) (ho : Off [Q.CREDITS.CREDITS] ga) :
    regAt (State.qCredits s q).regs ga = regAt s.regs ga := by
  simp only [Off_cons, Off_nil] at ho
  simp [State.qCredits, ho]
@[simp] theorem State.qPosted1_regs (s : State) (q : Nat) (ga : Nat) (ho : Off [Q.PROD.PROD, Q.CREDITS.CREDITS, Q.LAST_POST, Q.POSTS.SEQ, Q.SLOTS.POST_SLOT] ga) :
    regAt (State.qPosted1 s q).regs ga = regAt s.regs ga := by
  simp only [Off_cons, Off_nil] at ho
  simp [State.qPosted1, ho]
@[simp] theorem State.qPut_regs (s : State) (q : Nat) (d : Desc) (ga : Nat) (ho : Off [Q.PROD.PROD, Q.CREDITS.CREDITS, Q.LAST_POST, Q.POSTS.SEQ, Q.SLOTS.POST_SLOT, MEM.CH_RETIRE.RETIRE, MEM.ECC_STATUS.CE,
      MEM.UE_FIRST_ADDR, MEM.UE_FIRST_INFO.MASTER, MEM.UE_FIRST_TIME, MEM.UE_LATEST_ADDR, MEM.UE_LATEST_INFO.INFO,
      MEM.UE_LATEST_TIME, MEM.CH_CNT.CE, MEM.SRAM_CNT.CE, REC.QUEUE.VALUE, REC.EVT_TOTAL] ga) :
    regAt (State.qPut s q d).regs ga = regAt s.regs ga := by
  simp only [Off_cons, Off_nil] at ho
  simp [State.qPut, ho]
@[simp] theorem State.qPutSw_regs (s : State) (m : Nat) (q : Nat) (ga : Nat) (ho : Off [Q.PROD.PROD, Q.CREDITS.CREDITS, Q.LAST_POST, Q.POSTS.SEQ, Q.SLOTS.POST_SLOT, MEM.CH_RETIRE.RETIRE, MEM.ECC_STATUS.CE,
      MEM.UE_FIRST_ADDR, MEM.UE_FIRST_INFO.MASTER, MEM.UE_FIRST_TIME, MEM.UE_LATEST_ADDR, MEM.UE_LATEST_INFO.INFO,
      MEM.UE_LATEST_TIME, MEM.CH_CNT.CE, MEM.SRAM_CNT.CE, REC.QUEUE.VALUE, REC.EVT_TOTAL] ga) :
    regAt (State.qPutSw s m q).regs ga = regAt s.regs ga := by
  simp only [Off_cons, Off_nil] at ho
  simp [State.qPutSw, ho]
@[simp] theorem State.qTake1_regs (s : State) (q : Nat) (ga : Nat) (ho : Off [Q.TAKE.TAKE, Q.SLOTS.POST_SLOT] ga) :
    regAt (State.qTake1 s q).regs ga = regAt s.regs ga := by
  simp only [Off_cons, Off_nil] at ho
  simp [State.qTake1, ho]
@[simp] theorem State.qRetireN_regs (s : State) (q : Nat) (n : Nat) (ga : Nat) (ho : Off [Q.RET.RET, Q.CREDITS.CREDITS] ga) :
    regAt (State.qRetireN s q n).regs ga = regAt s.regs ga := by
  simp only [Off_cons, Off_nil] at ho
  simp [State.qRetireN, ho]
@[simp] theorem State.qPostHw_regs (s : State) (q : Nat) (d : Desc) (ga : Nat) (ho : Off [Q.PROD.PROD, Q.CREDITS.CREDITS, Q.STATUS.NO_CREDIT, Q.LAST_POST, Q.POSTS.SEQ, Q.SLOTS.POST_SLOT, MEM.CH_RETIRE.RETIRE,
      MEM.ECC_STATUS.CE, MEM.UE_FIRST_ADDR, MEM.UE_FIRST_INFO.MASTER, MEM.UE_FIRST_TIME, MEM.UE_LATEST_ADDR,
      MEM.UE_LATEST_INFO.INFO, MEM.UE_LATEST_TIME, MEM.CH_CNT.CE, MEM.SRAM_CNT.CE, REC.QUEUE.VALUE, REC.EVT_TOTAL] ga) :
    regAt (State.qPostHw s q d).1.regs ga = regAt s.regs ga := by
  simp only [Off_cons, Off_nil] at ho
  simp [State.qPostHw, ho]
@[simp] theorem State.qOp_regs (s : State) (m : Nat) (q : Nat) (n : Nat) (cmd : Nat) (ga : Nat) (ho : Off [Q.PROD.PROD, Q.TAKE.TAKE, Q.RET.RET, Q.CREDITS.CREDITS, Q.STATUS.NO_CREDIT, Q.LAST_POST, Q.POSTS.SEQ,
      Q.SLOTS.POST_SLOT, MEM.CH_RETIRE.RETIRE, MEM.ECC_STATUS.CE, MEM.UE_FIRST_ADDR, MEM.UE_FIRST_INFO.MASTER,
      MEM.UE_FIRST_TIME, MEM.UE_LATEST_ADDR, MEM.UE_LATEST_INFO.INFO, MEM.UE_LATEST_TIME, MEM.CH_CNT.CE, MEM.SRAM_CNT.CE,
      REC.QUEUE.VALUE, REC.EVT_TOTAL] ga) :
    regAt (State.qOp s m q n cmd).regs ga = regAt s.regs ga := by
  simp only [Off_cons, Off_nil] at ho
  simp [State.qOp, ho]
@[simp] theorem State.fxQCfg_regs (s : State) (q : Nat) (v : Nat) (ga : Nat) (ho : Off [Q.CFG.EN, Q.PROD.PROD, Q.TAKE.TAKE, Q.RET.RET, Q.CREDITS.CREDITS, Q.STATUS.NO_CREDIT, Q.POSTS.SEQ, Q.SLOTS.POST_SLOT] ga) :
    regAt (State.fxQCfg s q v).1.regs ga = regAt s.regs ga := by
  simp only [Off_cons, Off_nil] at ho
  simp [State.fxQCfg, ho]
@[simp] theorem State.fxQBaseHi_regs (s : State) (q v : Nat) (ga : Nat) (ho : Off [Q.BASE, Q.STATUS.NO_CREDIT] ga) : regAt (s.fxQBaseHi q v).1.regs ga = regAt s.regs ga := by
  simp only [Off_cons, Off_nil] at ho
  unfold State.fxQBaseHi
  split
  · simp [ho]
  · exact writePlain_pair _ _ _ _ _ _ rfl (by simp [ho])
@[simp] theorem State.fxQOp_regs (s : State) (m : Nat) (q : Nat) (v : Nat) (ga : Nat) (ho : Off [Q.PROD.PROD, Q.TAKE.TAKE, Q.RET.RET, Q.CREDITS.CREDITS, Q.STATUS.NO_CREDIT, Q.LAST_POST, Q.POSTS.SEQ,
      Q.SLOTS.POST_SLOT, MEM.CH_RETIRE.RETIRE, MEM.ECC_STATUS.CE, MEM.UE_FIRST_ADDR, MEM.UE_FIRST_INFO.MASTER,
      MEM.UE_FIRST_TIME, MEM.UE_LATEST_ADDR, MEM.UE_LATEST_INFO.INFO, MEM.UE_LATEST_TIME, MEM.CH_CNT.CE, MEM.SRAM_CNT.CE,
      REC.QUEUE.VALUE, REC.EVT_TOTAL] ga) :
    regAt (State.fxQOp s m q v).1.regs ga = regAt s.regs ga := by
  simp only [Off_cons, Off_nil] at ho
  simp [State.fxQOp, ho]

end Sys2Proof.Machine
end

