-- ==== Sys2Proof/Laws/Frame2.lean ====
section
/-!
SUPPORT. Which registers the operations of Memory, BabRing, BabFrame, Context, Program, Tensor, EngMatrix, Quantiser, Threads change: every
register of another field keeps its value.
-/
set_option linter.all false
namespace Sys2Proof.Machine
open Sys2Proof.Safety

@[simp] theorem State.fxAtWin_regs (s : State) (t a v : Nat) (ga : Nat) (hn : ga ≠ a) :
    regAt (s.fxAtWin t a v).1.regs ga = regAt s.regs ga := by
  unfold State.fxAtWin; split <;> simp [hn]
/-- A write of the fields at an address of the queues leaves every register outside them. -/
theorem writePlain_off (s : State) (a v ga : Nat) (h : ga ≠ a) (h4 : ga ≠ a - 4) : regAt (s.writePlain a v).1.regs ga = regAt s.regs ga := by
  unfold State.writePlain
  split
  · rfl
  · split
    · exact writeFields_off _ _ _ _ h
    · split <;> rfl
    · rw [writeFields_off _ _ _ _ h, writeFields_off _ _ _ _ h4]
/-- Outside the queues no field of a queue has a register. -/
theorem queue_off (f : RF) {ga : Nat} (hq : ¬InSet .direct ga) (hf : 0x2030000000 ≤ f.base) : ¬IsReg f ga := by
  rintro ⟨i, j, h⟩
  simp only [InSet, RF.addr] at hq h
  generalize i * f.s1 = x at h
  generalize j * f.s2 = y at h
  omega
@[simp] theorem State.regWrite_regs (s : State) (m a v : Nat) (ga : Nat) (ho : Off [MEM.CH_RETIRE.RETIRE, MEM.ECC_STATUS.CE, MEM.UE_FIRST_ADDR, MEM.UE_FIRST_INFO.MASTER, MEM.UE_FIRST_TIME,
      MEM.UE_LATEST_ADDR, MEM.UE_LATEST_INFO.INFO, MEM.UE_LATEST_TIME, MEM.CH_CNT.CE, MEM.SRAM_CNT.CE,
      AT.VIO_STATUS.FIRST_VALID, AT.VIO_FIRST_ADDR, AT.VIO_FIRST_INFO.MASTER, AT.VIO_FIRST_TIME, AT.VIO_LATEST_ADDR,
      AT.VIO_LATEST_INFO.INFO, AT.VIO_LATEST_TIME, REC.QUEUE.VALUE, REC.EVT_TOTAL] ga) (hq : ¬InSet .direct ga) :
    regAt (s.regWrite m a v).1.regs ga = regAt s.regs ga := by
  simp only [Off_cons, Off_nil] at ho
  unfold State.regWrite
  split
  · rename_i h
    have q := fun f hf => queue_off f hq hf
    dsimp only
    split
    · exact State.fxQCfg_regs _ _ _ _ (by simp [q, Q.CFG.EN, Q.STATUS.NO_CREDIT, Q.PROD.PROD, Q.TAKE.TAKE, Q.RET.RET, Q.CREDITS.CREDITS, Q.POSTS.SEQ, Q.SLOTS.POST_SLOT])
    · exact State.fxQBaseHi_regs _ _ _ _ (by simp [q, Q.BASE, Q.STATUS.NO_CREDIT])
    · exact State.fxQOp_regs _ _ _ _ _ (by simp [q, Q.PROD.PROD, Q.TAKE.TAKE, Q.RET.RET, Q.CREDITS.CREDITS, Q.POSTS.SEQ, Q.SLOTS.POST_SLOT, Q.LAST_POST, Q.STATUS.NO_CREDIT, ho])
    · rename_i h0 _ _
      simp only [InSet] at hq
      by_cases h4 : a < 0x2030000004
      · have k : findReg 0x2030000001 = none ∧ findReg 0x2030000002 = none ∧ findReg 0x2030000003 = none := by decide
        have e : findReg a = none := by
          rcases (by omega : a = 0x2030000000 ∨ a = 0x2030000001 ∨ a = 0x2030000002 ∨ a = 0x2030000003) with e | e | e | e <;> subst e
          · exact absurd rfl h0
          · exact k.1
          · exact k.2.1
          · exact k.2.2
        simp [State.writePlain, e]
      · exact writePlain_off _ _ _ _ (by omega) (by omega)
  · split
    · simp [State.post, ho]
    · split
      · rename_i h
        simp only [InSet] at hq
        split
        · exact State.fxAtWin_regs _ _ _ _ _ (by omega)
        · by_cases h4 : a < 0x2000100004
          · have k : ∀ d < 4, 0 < d → findReg (0x2000100000 + d) = none := by decide
            have k0 : ((findReg 0x2000100000).map fun r => r.1.kind) = some .w32 := by decide
            by_cases e0 : a = 0x2000100000
            · subst e0
              unfold State.writePlain
              split
              · rfl
              · rename_i e; rw [e] at k0; simp only [Option.map_some, Option.some.injEq] at k0
                rw [k0]; exact writeFields_off _ _ _ _ (by omega)
            · have e := k (a - 0x2000100000) (by omega) (by omega)
              rw [show 0x2000100000 + (a - 0x2000100000) = a by omega] at e
              simp [State.writePlain, e]
          · exact writePlain_off _ _ _ _ (by omega) (by omega)
      · rfl
@[simp] theorem State.readPiece_regs (s : State) (m a n : Nat) (ga : Nat) (ho : Off [MEM.CH_RETIRE.RETIRE, MEM.ECC_STATUS.CE, MEM.UE_FIRST_ADDR, MEM.UE_FIRST_INFO.MASTER, MEM.UE_FIRST_TIME,
      MEM.UE_LATEST_ADDR, MEM.UE_LATEST_INFO.INFO, MEM.UE_LATEST_TIME, MEM.CH_CNT.CE, MEM.SRAM_CNT.CE,
      AT.VIO_STATUS.FIRST_VALID, AT.VIO_FIRST_ADDR, AT.VIO_FIRST_INFO.MASTER, AT.VIO_FIRST_TIME, AT.VIO_LATEST_ADDR,
      AT.VIO_LATEST_INFO.INFO, AT.VIO_LATEST_TIME, REC.QUEUE.VALUE, REC.EVT_TOTAL] ga) :
    regAt (s.readPiece m a n).1.regs ga = regAt s.regs ga := by
  simp only [Off_cons, Off_nil] at ho
  unfold State.readPiece
  split
  · simp [ho]
  · split
    · simp [ho]
    · split <;> (rename_i heq; have hs := congrArg (fun x => x.1) heq; simp only at hs; subst hs) <;> simp [ho]
@[simp] theorem State.writePiece_regs (s : State) (m : Nat) (a : Nat) (d : List Nat) (ga : Nat) (ho : Off [MEM.CH_RETIRE.RETIRE, MEM.ECC_STATUS.CE, MEM.UE_FIRST_ADDR, MEM.UE_FIRST_INFO.MASTER, MEM.UE_FIRST_TIME,
      MEM.UE_LATEST_ADDR, MEM.UE_LATEST_INFO.INFO, MEM.UE_LATEST_TIME, MEM.CH_CNT.CE, MEM.SRAM_CNT.CE,
      AT.VIO_STATUS.FIRST_VALID, AT.VIO_FIRST_ADDR, AT.VIO_FIRST_INFO.MASTER, AT.VIO_FIRST_TIME, AT.VIO_LATEST_ADDR,
      AT.VIO_LATEST_INFO.INFO, AT.VIO_LATEST_TIME, REC.QUEUE.VALUE, REC.EVT_TOTAL] ga) (hq : ¬InSet .direct ga) :
    regAt (State.writePiece s m a d).1.regs ga = regAt s.regs ga := by
  simp only [Off_cons, Off_nil] at ho
  unfold State.writePiece; split <;> simp [ho, hq]
@[simp] theorem State.readPieces_regs (s : State) (m : Nat) (acc : List Nat) (l : List (Nat × Nat)) (ga : Nat) (ho : Off [MEM.CH_RETIRE.RETIRE, MEM.ECC_STATUS.CE, MEM.UE_FIRST_ADDR, MEM.UE_FIRST_INFO.MASTER, MEM.UE_FIRST_TIME,
      MEM.UE_LATEST_ADDR, MEM.UE_LATEST_INFO.INFO, MEM.UE_LATEST_TIME, MEM.CH_CNT.CE, MEM.SRAM_CNT.CE,
      AT.VIO_STATUS.FIRST_VALID, AT.VIO_FIRST_ADDR, AT.VIO_FIRST_INFO.MASTER, AT.VIO_FIRST_TIME, AT.VIO_LATEST_ADDR,
      AT.VIO_LATEST_INFO.INFO, AT.VIO_LATEST_TIME, REC.QUEUE.VALUE, REC.EVT_TOTAL] ga) :
    regAt (s.readPieces m acc l).1.regs ga = regAt s.regs ga := by
  induction l generalizing s acc with
  | nil => rfl
  | cons p t ih =>
    have k := State.readPiece_regs s m p.1 p.2 ga ho
    unfold State.readPieces
    split
    · rename_i e; rw [e] at k; exact (ih _ _).trans k
    all_goals (rename_i e; rw [e] at k; exact k)
@[simp] theorem State.masterRead_regs (s : State) (m : Nat) (a : Nat) (n : Nat) (ga : Nat) (ho : Off [MEM.CH_RETIRE.RETIRE, MEM.ECC_STATUS.CE, MEM.UE_FIRST_ADDR, MEM.UE_FIRST_INFO.MASTER, MEM.UE_FIRST_TIME,
      MEM.UE_LATEST_ADDR, MEM.UE_LATEST_INFO.INFO, MEM.UE_LATEST_TIME, MEM.CH_CNT.CE, MEM.SRAM_CNT.CE,
      AT.VIO_STATUS.FIRST_VALID, AT.VIO_FIRST_ADDR, AT.VIO_FIRST_INFO.MASTER, AT.VIO_FIRST_TIME, AT.VIO_LATEST_ADDR,
      AT.VIO_LATEST_INFO.INFO, AT.VIO_LATEST_TIME, REC.QUEUE.VALUE, REC.EVT_TOTAL] ga) :
    regAt (State.masterRead s m a n).1.regs ga = regAt s.regs ga := by
  simp only [Off_cons, Off_nil] at ho
  simp [State.masterRead, ho]
@[simp] theorem State.rangeRead_regs (s : State) (m : Nat) (a : Nat) (n : Nat) (ga : Nat) (ho : Off [MEM.CH_RETIRE.RETIRE, MEM.ECC_STATUS.CE, MEM.UE_FIRST_ADDR, MEM.UE_FIRST_INFO.MASTER, MEM.UE_FIRST_TIME,
      MEM.UE_LATEST_ADDR, MEM.UE_LATEST_INFO.INFO, MEM.UE_LATEST_TIME, MEM.CH_CNT.CE, MEM.SRAM_CNT.CE,
      AT.VIO_STATUS.FIRST_VALID, AT.VIO_FIRST_ADDR, AT.VIO_FIRST_INFO.MASTER, AT.VIO_FIRST_TIME, AT.VIO_LATEST_ADDR,
      AT.VIO_LATEST_INFO.INFO, AT.VIO_LATEST_TIME, REC.QUEUE.VALUE, REC.EVT_TOTAL] ga) :
    regAt (State.rangeRead s m a n).1.regs ga = regAt s.regs ga := by
  simp only [Off_cons, Off_nil] at ho
  unfold State.rangeRead; split <;> simp [ho]
@[simp] theorem State.qFetch_regs (s : State) (m q : Nat) (ga : Nat) (ho : Off [MEM.CH_RETIRE.RETIRE, MEM.ECC_STATUS.CE, MEM.UE_FIRST_ADDR, MEM.UE_FIRST_INFO.MASTER, MEM.UE_FIRST_TIME,
      MEM.UE_LATEST_ADDR, MEM.UE_LATEST_INFO.INFO, MEM.UE_LATEST_TIME, MEM.CH_CNT.CE, MEM.SRAM_CNT.CE,
      AT.VIO_STATUS.FIRST_VALID, AT.VIO_FIRST_ADDR, AT.VIO_FIRST_INFO.MASTER, AT.VIO_FIRST_TIME, AT.VIO_LATEST_ADDR,
      AT.VIO_LATEST_INFO.INFO, AT.VIO_LATEST_TIME, REC.QUEUE.VALUE, REC.EVT_TOTAL] ga) :
    regAt (s.qFetch m q).1.regs ga = regAt s.regs ga := by
  simp only [Off_cons, Off_nil] at ho
  unfold State.qFetch
  split <;> (rename_i heq; have hs := congrArg (fun x => x.1) heq; simp only at hs; subst hs) <;> simp [ho]
@[simp] theorem State.writePieces_regs (s : State) (m : Nat) (d : List Nat) (ps : List (Nat × Nat)) (ga : Nat) (ho : Off [MEM.CH_RETIRE.RETIRE, MEM.ECC_STATUS.CE, MEM.UE_FIRST_ADDR, MEM.UE_FIRST_INFO.MASTER, MEM.UE_FIRST_TIME,
      MEM.UE_LATEST_ADDR, MEM.UE_LATEST_INFO.INFO, MEM.UE_LATEST_TIME, MEM.CH_CNT.CE, MEM.SRAM_CNT.CE,
      AT.VIO_STATUS.FIRST_VALID, AT.VIO_FIRST_ADDR, AT.VIO_FIRST_INFO.MASTER, AT.VIO_FIRST_TIME, AT.VIO_LATEST_ADDR,
      AT.VIO_LATEST_INFO.INFO, AT.VIO_LATEST_TIME, REC.QUEUE.VALUE, REC.EVT_TOTAL] ga) (hq : ¬InSet .direct ga) :
    regAt (s.writePieces m d ps).1.regs ga = regAt s.regs ga := by
  induction ps generalizing s d with
  | nil => rfl
  | cons p t ih =>
    have k := State.writePiece_regs s m p.1 (d.take p.2) ga ho hq
    unfold State.writePieces
    split
    · rename_i e; rw [e] at k; exact (ih _ _).trans k
    · rename_i e; rw [e] at k; exact k
@[simp] theorem State.masterWrite_regs (s : State) (m : Nat) (a : Nat) (d : List Nat) (ga : Nat) (ho : Off [MEM.CH_RETIRE.RETIRE, MEM.ECC_STATUS.CE, MEM.UE_FIRST_ADDR, MEM.UE_FIRST_INFO.MASTER, MEM.UE_FIRST_TIME,
      MEM.UE_LATEST_ADDR, MEM.UE_LATEST_INFO.INFO, MEM.UE_LATEST_TIME, MEM.CH_CNT.CE, MEM.SRAM_CNT.CE,
      AT.VIO_STATUS.FIRST_VALID, AT.VIO_FIRST_ADDR, AT.VIO_FIRST_INFO.MASTER, AT.VIO_FIRST_TIME, AT.VIO_LATEST_ADDR,
      AT.VIO_LATEST_INFO.INFO, AT.VIO_LATEST_TIME, REC.QUEUE.VALUE, REC.EVT_TOTAL] ga) (hq : ¬InSet .direct ga) :
    regAt (State.masterWrite s m a d).1.regs ga = regAt s.regs ga := by
  simp only [Off_cons, Off_nil] at ho
  simp [State.masterWrite, ho, hq]
@[simp] theorem State.babShow_regs (s : State) (v : Nat) (ga : Nat) (ho : Off [BAB.IN_STATUS.STATE] ga) :
    regAt (State.babShow s v).regs ga = regAt s.regs ga := by
  simp only [Off_cons, Off_nil] at ho
  simp [State.babShow, ho]
@[simp] theorem State.babRestart_regs (s : State) (v : Nat) (ga : Nat) (ho : Off [BAB.IN_STATUS.STATE] ga) :
    regAt (State.babRestart s v).regs ga = regAt s.regs ga := by
  simp only [Off_cons, Off_nil] at ho
  simp [State.babRestart, ho]
@[simp] theorem State.babStore_regs (s : State) (v : Nat) (p : BabPt) (ga : Nat) (ho : Off [MEM.CH_RETIRE.RETIRE, MEM.ECC_STATUS.CE, MEM.UE_FIRST_ADDR, MEM.UE_FIRST_INFO.MASTER, MEM.UE_FIRST_TIME,
      MEM.UE_LATEST_ADDR, MEM.UE_LATEST_INFO.INFO, MEM.UE_LATEST_TIME, MEM.CH_CNT.CE, MEM.SRAM_CNT.CE,
      AT.VIO_STATUS.FIRST_VALID, AT.VIO_FIRST_ADDR, AT.VIO_FIRST_INFO.MASTER, AT.VIO_FIRST_TIME, AT.VIO_LATEST_ADDR,
      AT.VIO_LATEST_INFO.INFO, AT.VIO_LATEST_TIME, REC.QUEUE.VALUE, REC.EVT_TOTAL] ga) (hq : ¬InSet .direct ga) :
    regAt (State.babStore s v p).regs ga = regAt s.regs ga := by
  simp only [Off_cons, Off_nil] at ho
  simp [State.babStore, ho, hq]
@[simp] theorem State.babLoad_regs (s : State) (v : Nat) (a : List BabPt) (ga : Nat) (ho : Off [MEM.CH_RETIRE.RETIRE, MEM.ECC_STATUS.CE, MEM.UE_FIRST_ADDR, MEM.UE_FIRST_INFO.MASTER, MEM.UE_FIRST_TIME,
      MEM.UE_LATEST_ADDR, MEM.UE_LATEST_INFO.INFO, MEM.UE_LATEST_TIME, MEM.CH_CNT.CE, MEM.SRAM_CNT.CE,
      AT.VIO_STATUS.FIRST_VALID, AT.VIO_FIRST_ADDR, AT.VIO_FIRST_INFO.MASTER, AT.VIO_FIRST_TIME, AT.VIO_LATEST_ADDR,
      AT.VIO_LATEST_INFO.INFO, AT.VIO_LATEST_TIME, REC.QUEUE.VALUE, REC.EVT_TOTAL] ga) :
    regAt (s.babLoad v a).1.regs ga = regAt s.regs ga := by
  induction a generalizing s with
  | nil => rfl
  | cons p t ih =>
    simp only [Off_cons, Off_nil] at ho
    rw [State.babLoad]; dsimp only; (repeat' split) <;> simp [ih, ho]
@[simp] theorem State.babResolve_regs (s : State) (v : Nat) (ga : Nat) (ho : Off [BAB.IN_STATUS.STATE, BAB.IN_POS, MEM.CH_RETIRE.RETIRE, MEM.ECC_STATUS.CE, MEM.UE_FIRST_ADDR, MEM.UE_FIRST_INFO.MASTER,
      MEM.UE_FIRST_TIME, MEM.UE_LATEST_ADDR, MEM.UE_LATEST_INFO.INFO, MEM.UE_LATEST_TIME, MEM.CH_CNT.CE, MEM.SRAM_CNT.CE,
      AT.VIO_STATUS.FIRST_VALID, AT.VIO_FIRST_ADDR, AT.VIO_FIRST_INFO.MASTER, AT.VIO_FIRST_TIME, AT.VIO_LATEST_ADDR,
      AT.VIO_LATEST_INFO.INFO, AT.VIO_LATEST_TIME, REC.QUEUE.VALUE, REC.EVT_TOTAL] ga) (hq : ¬InSet .direct ga) :
    regAt (State.babResolve s v).regs ga = regAt s.regs ga := by
  simp only [Off_cons, Off_nil] at ho
  unfold State.babResolve; dsimp only; (repeat' split) <;> simp [ho, hq]
@[simp] theorem State.babInUpdate_regs (s : State) (v : Nat) (t_ : Nat) (s0 : Nat) (a0 : Int) (s1 : Nat) (a1 : Int) (big : Bool) (ga : Nat) (ho : Off [BAB.IN_STATUS.STATE, BAB.IN_POS, MEM.CH_RETIRE.RETIRE, MEM.ECC_STATUS.CE, MEM.UE_FIRST_ADDR, MEM.UE_FIRST_INFO.MASTER,
      MEM.UE_FIRST_TIME, MEM.UE_LATEST_ADDR, MEM.UE_LATEST_INFO.INFO, MEM.UE_LATEST_TIME, MEM.CH_CNT.CE, MEM.SRAM_CNT.CE,
      AT.VIO_STATUS.FIRST_VALID, AT.VIO_FIRST_ADDR, AT.VIO_FIRST_INFO.MASTER, AT.VIO_FIRST_TIME, AT.VIO_LATEST_ADDR,
      AT.VIO_LATEST_INFO.INFO, AT.VIO_LATEST_TIME, REC.QUEUE.VALUE, REC.EVT_TOTAL] ga) (hq : ¬InSet .direct ga) :
    regAt (State.babInUpdate s v t_ s0 a0 s1 a1 big).regs ga = regAt s.regs ga := by
  simp only [Off_cons, Off_nil] at ho
  unfold State.babInUpdate; dsimp only; (repeat' split) <;> simp [ho, hq]
@[simp] theorem State.babTbUpdate_regs (s : State) (t_ : Nat) (s0 : Nat) (a0 : Int) (s1 : Nat) (a1 : Int) (big : Bool) (ga : Nat) (ho : Off [BAB.IN_STATUS.STATE, BAB.IN_POS, MEM.CH_RETIRE.RETIRE, MEM.ECC_STATUS.CE, MEM.UE_FIRST_ADDR, MEM.UE_FIRST_INFO.MASTER,
      MEM.UE_FIRST_TIME, MEM.UE_LATEST_ADDR, MEM.UE_LATEST_INFO.INFO, MEM.UE_LATEST_TIME, MEM.CH_CNT.CE, MEM.SRAM_CNT.CE,
      AT.VIO_STATUS.FIRST_VALID, AT.VIO_FIRST_ADDR, AT.VIO_FIRST_INFO.MASTER, AT.VIO_FIRST_TIME, AT.VIO_LATEST_ADDR,
      AT.VIO_LATEST_INFO.INFO, AT.VIO_LATEST_TIME, REC.QUEUE.VALUE, REC.EVT_TOTAL] ga) (hq : ¬InSet .direct ga) :
    regAt (State.babTbUpdate s t_ s0 a0 s1 a1 big).regs ga = regAt s.regs ga := by
  simp only [Off_cons, Off_nil] at ho
  simp [State.babTbUpdate, ho, hq]
@[simp] theorem State.babTbLost_regs (s : State) (t_ : Nat) (ga : Nat) (ho : Off [BAB.IN_STATUS.STATE] ga) :
    regAt (State.babTbLost s t_).regs ga = regAt s.regs ga := by
  simp only [Off_cons, Off_nil] at ho
  simp [State.babTbLost, ho]
@[simp] theorem State.babSample_regs (s : State) (v : Nat) (stamp : Nat) (code : Int) (uncal : Bool) (ovr : Bool) (ga : Nat) (ho : Off [BAB.IN_STATUS.STATE, BAB.IN_POS, MEM.CH_RETIRE.RETIRE, MEM.ECC_STATUS.CE, MEM.UE_FIRST_ADDR, MEM.UE_FIRST_INFO.MASTER,
      MEM.UE_FIRST_TIME, MEM.UE_LATEST_ADDR, MEM.UE_LATEST_INFO.INFO, MEM.UE_LATEST_TIME, MEM.CH_CNT.CE, MEM.SRAM_CNT.CE,
      AT.VIO_STATUS.FIRST_VALID, AT.VIO_FIRST_ADDR, AT.VIO_FIRST_INFO.MASTER, AT.VIO_FIRST_TIME, AT.VIO_LATEST_ADDR,
      AT.VIO_LATEST_INFO.INFO, AT.VIO_LATEST_TIME, REC.QUEUE.VALUE, REC.EVT_TOTAL] ga) (hq : ¬InSet .direct ga) :
    regAt (State.babSample s v stamp code uncal ovr).regs ga = regAt s.regs ga := by
  simp only [Off_cons, Off_nil] at ho
  simp [State.babSample, ho, hq]
@[simp] theorem State.babWindow_regs (s : State) (c : Nat) (at_ : Nat) (v : Nat) (ga : Nat) (ho : Off [MEM.CH_RETIRE.RETIRE, MEM.ECC_STATUS.CE, MEM.UE_FIRST_ADDR, MEM.UE_FIRST_INFO.MASTER, MEM.UE_FIRST_TIME,
      MEM.UE_LATEST_ADDR, MEM.UE_LATEST_INFO.INFO, MEM.UE_LATEST_TIME, MEM.CH_CNT.CE, MEM.SRAM_CNT.CE,
      AT.VIO_STATUS.FIRST_VALID, AT.VIO_FIRST_ADDR, AT.VIO_FIRST_INFO.MASTER, AT.VIO_FIRST_TIME, AT.VIO_LATEST_ADDR,
      AT.VIO_LATEST_INFO.INFO, AT.VIO_LATEST_TIME, REC.QUEUE.VALUE, REC.EVT_TOTAL] ga) :
    regAt (State.babWindow s c at_ v).1.regs ga = regAt s.regs ga := by
  simp only [Off_cons, Off_nil] at ho
  simp [State.babWindow, ho]
@[simp] theorem State.babWindows_regs (s : State) (c at_ : Nat) (a : List Nat) (ga : Nat) (ho : Off [MEM.CH_RETIRE.RETIRE, MEM.ECC_STATUS.CE, MEM.UE_FIRST_ADDR, MEM.UE_FIRST_INFO.MASTER, MEM.UE_FIRST_TIME,
      MEM.UE_LATEST_ADDR, MEM.UE_LATEST_INFO.INFO, MEM.UE_LATEST_TIME, MEM.CH_CNT.CE, MEM.SRAM_CNT.CE,
      AT.VIO_STATUS.FIRST_VALID, AT.VIO_FIRST_ADDR, AT.VIO_FIRST_INFO.MASTER, AT.VIO_FIRST_TIME, AT.VIO_LATEST_ADDR,
      AT.VIO_LATEST_INFO.INFO, AT.VIO_LATEST_TIME, REC.QUEUE.VALUE, REC.EVT_TOTAL] ga) :
    regAt (s.babWindows c at_ a).1.regs ga = regAt s.regs ga := by
  simp only [Off_cons, Off_nil] at ho
  induction a generalizing s with
  | nil => rfl
  | cons v t ih => rw [State.babWindows]; simp [ih, ho]
@[simp] theorem State.babClose_regs (s : State) (c : Nat) (frame : Nat) (stamp : Nat) (ga : Nat) (ho : Off [BAB.STATUS.OVERLOAD, MEM.CH_RETIRE.RETIRE, MEM.ECC_STATUS.CE, MEM.UE_FIRST_ADDR, MEM.UE_FIRST_INFO.MASTER,
      MEM.UE_FIRST_TIME, MEM.UE_LATEST_ADDR, MEM.UE_LATEST_INFO.INFO, MEM.UE_LATEST_TIME, MEM.CH_CNT.CE, MEM.SRAM_CNT.CE,
      AT.VIO_STATUS.FIRST_VALID, AT.VIO_FIRST_ADDR, AT.VIO_FIRST_INFO.MASTER, AT.VIO_FIRST_TIME, AT.VIO_LATEST_ADDR,
      AT.VIO_LATEST_INFO.INFO, AT.VIO_LATEST_TIME, REC.QUEUE.VALUE, REC.EVT_TOTAL] ga) :
    regAt (State.babClose s c frame stamp).regs ga = regAt s.regs ga := by
  simp only [Off_cons, Off_nil] at ho
  simp [State.babClose, ho]
@[simp] theorem State.updFrame_regs (s : State) (c : Nat) (f : Frame → Frame) (ga : Nat) :
    regAt (State.updFrame s c f).regs ga = regAt s.regs ga := by
  simp [State.updFrame]
@[simp] theorem State.writeParts_regs (s : State) (a : List (Nat × Nat)) (d : List Nat) (ga : Nat) :
    regAt (s.writeParts a d).regs ga = regAt s.regs ga := by
  induction a generalizing s d with
  | nil => rfl
  | cons r t ih => rw [State.writeParts]; simp [ih]
@[simp] theorem State.writeCopy_regs (s : State) (c : Nat) (work : Bool) (d : List Nat) (ga : Nat) :
    regAt (State.writeCopy s c work d).regs ga = regAt s.regs ga := by
  simp [State.writeCopy]
@[simp] theorem State.ueDrop_regs (s : State) (l : List (Nat × Nat)) (ga : Nat) :
    regAt (State.ueDrop s l).regs ga = regAt s.regs ga := by
  simp [State.ueDrop]
@[simp] theorem State.eccScan_regs (s : State) (m : Nat) (l : List (Nat × Nat)) (ga : Nat) (ho : Off [MEM.CH_RETIRE.RETIRE, MEM.ECC_STATUS.CE, MEM.UE_FIRST_ADDR, MEM.UE_FIRST_INFO.MASTER, MEM.UE_FIRST_TIME,
      MEM.UE_LATEST_ADDR, MEM.UE_LATEST_INFO.INFO, MEM.UE_LATEST_TIME, MEM.CH_CNT.CE, MEM.SRAM_CNT.CE, REC.QUEUE.VALUE,
      REC.EVT_TOTAL] ga) :
    regAt (State.eccScan s m l).1.regs ga = regAt s.regs ga := by
  simp only [Off_cons, Off_nil] at ho
  simp [State.eccScan, ho]
@[simp] theorem State.startState_regs (s : State) (c : Nat) (ga : Nat) (ho : Off [MEM.CH_RETIRE.RETIRE, MEM.ECC_STATUS.CE, MEM.UE_FIRST_ADDR, MEM.UE_FIRST_INFO.MASTER, MEM.UE_FIRST_TIME,
      MEM.UE_LATEST_ADDR, MEM.UE_LATEST_INFO.INFO, MEM.UE_LATEST_TIME, MEM.CH_CNT.CE, MEM.SRAM_CNT.CE, REC.QUEUE.VALUE,
      REC.EVT_TOTAL] ga) :
    regAt (s.startState c).1.regs ga = regAt s.regs ga := by
  simp only [Off_cons, Off_nil] at ho
  unfold State.startState
  split <;> (rename_i heq; have hs := congrArg (fun x => x.1) heq; simp only at hs; subst hs) <;> simp [ho]
@[simp] theorem State.engCount_regs (s : State) (p : Nat) (ga : Nat) :
    regAt (State.engCount s p).regs ga = regAt s.regs ga := by
  simp [State.engCount]
@[simp] theorem State.engShow_regs (s : State) (p : Nat) (ga : Nat) (ho : Off [ENG.STATUS.HOSTS] ga) :
    regAt (State.engShow s p).regs ga = regAt s.regs ga := by
  simp only [Off_cons, Off_nil] at ho
  simp [State.engShow, ho]
@[simp] theorem State.chargeTile_regs (s : State) (t_ : TileH) (start : Nat) (ga : Nat) :
    regAt (State.chargeTile s t_ start).regs ga = regAt s.regs ga := by
  simp [State.chargeTile]
@[simp] theorem State.dropEngine_regs (s : State) (p : Nat) (keep : TileH → Bool) (ga : Nat) (ho : Off [ENG.STATUS.HOSTS] ga) :
    regAt (State.dropEngine s p keep).regs ga = regAt s.regs ga := by
  simp only [Off_cons, Off_nil] at ho
  unfold State.dropEngine; dsimp only; (repeat' split) <;> simp [ho]
@[simp] theorem State.replan_regs (s : State) (ga : Nat) (ho : Off [INF.STATUS.UNAVAIL, CTX.STATUS.STATE, REC.QUEUE.VALUE, REC.EVT_TOTAL] ga) :
    regAt (State.replan s).regs ga = regAt s.regs ga := by
  simp only [Off_cons, Off_nil] at ho
  simp [State.replan, ho]
@[simp] theorem State.startFrame_regs (s : State) (c : Nat) (t_ : Trig) (ga : Nat) (ho : Off [CTX.STATUS.STATE, CTX.FRAME.FRAME, TWN.STATUS.PAIRED, MEM.CH_RETIRE.RETIRE, MEM.ECC_STATUS.CE, MEM.UE_FIRST_ADDR,
      MEM.UE_FIRST_INFO.MASTER, MEM.UE_FIRST_TIME, MEM.UE_LATEST_ADDR, MEM.UE_LATEST_INFO.INFO, MEM.UE_LATEST_TIME,
      MEM.CH_CNT.CE, MEM.SRAM_CNT.CE, REC.QUEUE.VALUE, REC.EVT_TOTAL] ga) :
    regAt (State.startFrame s c t_).regs ga = regAt s.regs ga := by
  simp only [Off_cons, Off_nil] at ho
  unfold State.startFrame; split <;> simp [ho]
@[simp] theorem State.trigger_regs (s : State) (c : Nat) (t_ : Trig) (ga : Nat) (ho : Off [CTX.STATUS.STATE, CTX.FRAME.FRAME, CTX.OVR_CNT.CNT, TWN.STATUS.PAIRED, MEM.CH_RETIRE.RETIRE, MEM.ECC_STATUS.CE,
      MEM.UE_FIRST_ADDR, MEM.UE_FIRST_INFO.MASTER, MEM.UE_FIRST_TIME, MEM.UE_LATEST_ADDR, MEM.UE_LATEST_INFO.INFO,
      MEM.UE_LATEST_TIME, MEM.CH_CNT.CE, MEM.SRAM_CNT.CE, REC.QUEUE.VALUE, REC.EVT_TOTAL] ga) :
    regAt (State.trigger s c t_).1.regs ga = regAt s.regs ga := by
  simp only [Off_cons, Off_nil] at ho
  unfold State.trigger; dsimp only; (repeat' split) <;> simp [ho]
@[simp] theorem State.failFrame_regs (s : State) (c : Nat) (code : Nat) (ga : Nat) :
    regAt (State.failFrame s c code).regs ga = regAt s.regs ga := by
  simp [State.failFrame]
@[simp] theorem State.noInput_regs (s : State) (c : Nat) (frame : Nat) (ga : Nat) :
    regAt (State.noInput s c frame).regs ga = regAt s.regs ga := by
  simp [State.noInput]
@[simp] theorem State.loadCheck_regs (s : State) (c : Nat) (ga : Nat) (ho : Off [MEM.CH_RETIRE.RETIRE, MEM.ECC_STATUS.CE, MEM.UE_FIRST_ADDR, MEM.UE_FIRST_INFO.MASTER, MEM.UE_FIRST_TIME,
      MEM.UE_LATEST_ADDR, MEM.UE_LATEST_INFO.INFO, MEM.UE_LATEST_TIME, MEM.CH_CNT.CE, MEM.SRAM_CNT.CE,
      AT.VIO_STATUS.FIRST_VALID, AT.VIO_FIRST_ADDR, AT.VIO_FIRST_INFO.MASTER, AT.VIO_FIRST_TIME, AT.VIO_LATEST_ADDR,
      AT.VIO_LATEST_INFO.INFO, AT.VIO_LATEST_TIME, REC.QUEUE.VALUE, REC.EVT_TOTAL] ga) :
    regAt (s.loadCheck c).1.regs ga = regAt s.regs ga := by
  simp only [Off_cons, Off_nil] at ho
  unfold State.loadCheck
  dsimp only
  split
  · rfl
  · split <;> (rename_i heq; have hs := congrArg (fun x => x.1) heq; simp only at hs; subst hs)
    · simp [ho]
    · simp [ho]
    · split <;> (rename_i heq; have hs := congrArg (fun x => x.1) heq; simp only at hs; subst hs) <;> simp [ho]
@[simp] theorem State.memFail_regs (s : State) (c : Nat) (a : MemRes) (ga : Nat) :
    regAt (State.memFail s c a).regs ga = regAt s.regs ga := by
  unfold State.memFail; split <;> simp
@[simp] theorem State.readTensor_regs (s : State) (c l : Nat) (p : Prog) (k : Nat) (ga : Nat) (ho : Off [MEM.CH_RETIRE.RETIRE, MEM.ECC_STATUS.CE, MEM.UE_FIRST_ADDR, MEM.UE_FIRST_INFO.MASTER, MEM.UE_FIRST_TIME,
      MEM.UE_LATEST_ADDR, MEM.UE_LATEST_INFO.INFO, MEM.UE_LATEST_TIME, MEM.CH_CNT.CE, MEM.SRAM_CNT.CE,
      AT.VIO_STATUS.FIRST_VALID, AT.VIO_FIRST_ADDR, AT.VIO_FIRST_INFO.MASTER, AT.VIO_FIRST_TIME, AT.VIO_LATEST_ADDR,
      AT.VIO_LATEST_INFO.INFO, AT.VIO_LATEST_TIME, REC.QUEUE.VALUE, REC.EVT_TOTAL] ga) :
    regAt (s.readTensor c l p k).1.regs ga = regAt s.regs ga := by
  unfold State.readTensor
  dsimp only
  split
  · rfl
  · rename_i f _
    have hk := State.masterRead_regs s (s.ctxMaster c l) (s.tensorAddr c f (p.tensor k)) (p.tensor k).bytes ga ho
    (repeat' split) <;> first | rfl | simp_all
@[simp] theorem State.writeTensor_regs (s : State) (c : Nat) (l : Nat) (p : Prog) (k : Nat) (d : List Nat) (ga : Nat) (ho : Off [MEM.CH_RETIRE.RETIRE, MEM.ECC_STATUS.CE, MEM.UE_FIRST_ADDR, MEM.UE_FIRST_INFO.MASTER, MEM.UE_FIRST_TIME,
      MEM.UE_LATEST_ADDR, MEM.UE_LATEST_INFO.INFO, MEM.UE_LATEST_TIME, MEM.CH_CNT.CE, MEM.SRAM_CNT.CE,
      AT.VIO_STATUS.FIRST_VALID, AT.VIO_FIRST_ADDR, AT.VIO_FIRST_INFO.MASTER, AT.VIO_FIRST_TIME, AT.VIO_LATEST_ADDR,
      AT.VIO_LATEST_INFO.INFO, AT.VIO_LATEST_TIME, REC.QUEUE.VALUE, REC.EVT_TOTAL] ga) (hq : ¬InSet .direct ga) :
    regAt (State.writeTensor s c l p k d).regs ga = regAt s.regs ga := by
  simp only [Off_cons, Off_nil] at ho
  unfold State.writeTensor; split <;> simp [ho, hq]
@[simp] theorem State.opDone_regs (s : State) (c : Nat) (i : Nat) (d : List Nat) (ga : Nat) :
    regAt (State.opDone s c i d).regs ga = regAt s.regs ga := by
  simp [State.opDone]
@[simp] theorem State.readOpnds_regs (s : State) (c l : Nat) (p : Prog) (ks : List Nat) (ga : Nat) (ho : Off [MEM.CH_RETIRE.RETIRE, MEM.ECC_STATUS.CE, MEM.UE_FIRST_ADDR, MEM.UE_FIRST_INFO.MASTER, MEM.UE_FIRST_TIME,
      MEM.UE_LATEST_ADDR, MEM.UE_LATEST_INFO.INFO, MEM.UE_LATEST_TIME, MEM.CH_CNT.CE, MEM.SRAM_CNT.CE,
      AT.VIO_STATUS.FIRST_VALID, AT.VIO_FIRST_ADDR, AT.VIO_FIRST_INFO.MASTER, AT.VIO_FIRST_TIME, AT.VIO_LATEST_ADDR,
      AT.VIO_LATEST_INFO.INFO, AT.VIO_LATEST_TIME, REC.QUEUE.VALUE, REC.EVT_TOTAL] ga) :
    regAt (s.readOpnds c l p ks).1.regs ga = regAt s.regs ga := by
  induction ks generalizing s with
  | nil => rfl
  | cons k t ih =>
    have hk := State.readTensor_regs s c l p k ga ho
    unfold State.readOpnds
    split
    · rename_i e; rw [e] at hk; exact hk
    · rename_i s' d e
      rw [e] at hk
      have hi := ih s'
      split <;> (rename_i e'; rw [e'] at hi; exact hi.trans hk)
@[simp] theorem State.opWrite_regs (s : State) (c : Nat) (p : Prog) (o : OpDef) (dat : List (List Nat)) (ga : Nat) (ho : Off [MEM.CH_RETIRE.RETIRE, MEM.ECC_STATUS.CE, MEM.UE_FIRST_ADDR, MEM.UE_FIRST_INFO.MASTER, MEM.UE_FIRST_TIME,
      MEM.UE_LATEST_ADDR, MEM.UE_LATEST_INFO.INFO, MEM.UE_LATEST_TIME, MEM.CH_CNT.CE, MEM.SRAM_CNT.CE,
      AT.VIO_STATUS.FIRST_VALID, AT.VIO_FIRST_ADDR, AT.VIO_FIRST_INFO.MASTER, AT.VIO_FIRST_TIME, AT.VIO_LATEST_ADDR,
      AT.VIO_LATEST_INFO.INFO, AT.VIO_LATEST_TIME, REC.QUEUE.VALUE, REC.EVT_TOTAL] ga) (hq : ¬InSet .direct ga) :
    regAt (State.opWrite s c p o dat).regs ga = regAt s.regs ga := by
  simp only [Off_cons, Off_nil] at ho
  simp [State.opWrite, ho, hq]
@[simp] theorem State.opCount_regs (s : State) (c : Nat) (o : OpDef) (x : OpRes) (ga : Nat) (ho : Off [MEM.CH_RETIRE.RETIRE, MEM.ECC_STATUS.CE, MEM.UE_FIRST_ADDR, MEM.UE_FIRST_INFO.MASTER, MEM.UE_FIRST_TIME,
      MEM.UE_LATEST_ADDR, MEM.UE_LATEST_INFO.INFO, MEM.UE_LATEST_TIME, MEM.CH_CNT.CE, MEM.SRAM_CNT.CE,
      AT.VIO_STATUS.FIRST_VALID, AT.VIO_FIRST_ADDR, AT.VIO_FIRST_INFO.MASTER, AT.VIO_FIRST_TIME, AT.VIO_LATEST_ADDR,
      AT.VIO_LATEST_INFO.INFO, AT.VIO_LATEST_TIME, REC.QUEUE.VALUE, REC.EVT_TOTAL] ga) (hq : ¬InSet .direct ga) :
    regAt (State.opCount s c o x).regs ga = regAt s.regs ga := by
  simp only [Off_cons, Off_nil] at ho
  unfold State.opCount; dsimp only; (repeat' split) <;> simp [ho, hq]
@[simp] theorem State.runOp_regs (s : State) (c i code : Nat) (g : Prog → OpDef → Frame → List Opnd → Option OpRes) (ga : Nat)
    (ho : Off [MEM.CH_RETIRE.RETIRE, MEM.ECC_STATUS.CE, MEM.UE_FIRST_ADDR, MEM.UE_FIRST_INFO.MASTER, MEM.UE_FIRST_TIME,
      MEM.UE_LATEST_ADDR, MEM.UE_LATEST_INFO.INFO, MEM.UE_LATEST_TIME, MEM.CH_CNT.CE, MEM.SRAM_CNT.CE,
      AT.VIO_STATUS.FIRST_VALID, AT.VIO_FIRST_ADDR, AT.VIO_FIRST_INFO.MASTER, AT.VIO_FIRST_TIME, AT.VIO_LATEST_ADDR,
      AT.VIO_LATEST_INFO.INFO, AT.VIO_LATEST_TIME, REC.QUEUE.VALUE, REC.EVT_TOTAL] ga) (hq : ¬InSet .direct ga) : regAt (s.runOp c i code g).regs ga = regAt s.regs ga := by
  simp only [Off_cons, Off_nil] at ho
  unfold State.runOp
  split
  · rfl
  · split
    · simp [ho, hq]
    · split <;> (rename_i heq; have hs := congrArg (fun x => x.1) heq; simp only at hs; subst hs)
      · simp [ho, hq]
      · dsimp only
        simp [ho, hq]
@[simp] theorem State.quantRec_regs (s : State) (c : Nat) (p : Prog) (o : OpDef) (work : Bool) (ga : Nat) (ho : Off [MEM.CH_RETIRE.RETIRE, MEM.ECC_STATUS.CE, MEM.UE_FIRST_ADDR, MEM.UE_FIRST_INFO.MASTER, MEM.UE_FIRST_TIME,
      MEM.UE_LATEST_ADDR, MEM.UE_LATEST_INFO.INFO, MEM.UE_LATEST_TIME, MEM.CH_CNT.CE, MEM.SRAM_CNT.CE,
      AT.VIO_STATUS.FIRST_VALID, AT.VIO_FIRST_ADDR, AT.VIO_FIRST_INFO.MASTER, AT.VIO_FIRST_TIME, AT.VIO_LATEST_ADDR,
      AT.VIO_LATEST_INFO.INFO, AT.VIO_LATEST_TIME, REC.QUEUE.VALUE, REC.EVT_TOTAL] ga) :
    regAt (s.quantRec c p o work).1.regs ga = regAt s.regs ga := by
  simp only [Off_cons, Off_nil] at ho
  unfold State.quantRec
  dsimp only
  split <;> (rename_i heq; have hs := congrArg (fun x => x.1) heq; simp only at hs; subst hs)
  · split <;> (rename_i heq; have hs := congrArg (fun x => x.1) heq; simp only at hs; subst hs) <;> simp [ho]
  · simp [ho]
@[simp] theorem State.runRec_regs (s : State) (c i code : Nat) (work : Bool) (g : List Nat → Prog → OpDef → Frame → List Opnd → Option OpRes) (ga : Nat)
    (ho : Off [MEM.CH_RETIRE.RETIRE, MEM.ECC_STATUS.CE, MEM.UE_FIRST_ADDR, MEM.UE_FIRST_INFO.MASTER, MEM.UE_FIRST_TIME,
      MEM.UE_LATEST_ADDR, MEM.UE_LATEST_INFO.INFO, MEM.UE_LATEST_TIME, MEM.CH_CNT.CE, MEM.SRAM_CNT.CE,
      AT.VIO_STATUS.FIRST_VALID, AT.VIO_FIRST_ADDR, AT.VIO_FIRST_INFO.MASTER, AT.VIO_FIRST_TIME, AT.VIO_LATEST_ADDR,
      AT.VIO_LATEST_INFO.INFO, AT.VIO_LATEST_TIME, REC.QUEUE.VALUE, REC.EVT_TOTAL] ga) (hq : ¬InSet .direct ga) : regAt (s.runRec c i code work g).regs ga = regAt s.regs ga := by
  simp only [Off_cons, Off_nil] at ho
  unfold State.runRec
  split
  · rfl
  · split
    · simp [ho, hq]
    · split <;> (rename_i heq; have hs := congrArg (fun x => x.1) heq; simp only at hs; subst hs) <;> simp [ho, hq]
@[simp] theorem State.quantReport_regs (s : State) (c : Nat) (p : Prog) (f : Frame) (ga : Nat) (ho : Off [CTX.Q_STATUS.CLIP_ALARM, CTX.Q_CLIP.CNT, CTX.Q_ELEM.CNT, CTX.Q_NAN.CNT, CTX.Q_DEV.CNT, CTX.Q_WORST.SHARE,
      CTX.Q_CLIP_TOT, CTX.Q_ELEM_TOT, CTX.Q_NAN_TOT, REC.QUEUE.VALUE, REC.EVT_TOTAL] ga) :
    regAt (State.quantReport s c p f).regs ga = regAt s.regs ga := by
  simp only [Off_cons, Off_nil] at ho
  simp [State.quantReport, ho]
@[simp] theorem State.showFill_regs (s : State) (c : Nat) (p : Prog) (ga : Nat) (ho : Off [CTX.Q_HIST.FILL_MIN] ga) :
    regAt (State.showFill s c p).regs ga = regAt s.regs ga := by
  simp only [Off_cons, Off_nil] at ho
  unfold State.showFill; dsimp only; (repeat' split) <;> simp [ho]
@[simp] theorem State.threadPeek_regs (s : State) (c l q : Nat) (ga : Nat) (ho : Off [MEM.CH_RETIRE.RETIRE, MEM.ECC_STATUS.CE, MEM.UE_FIRST_ADDR, MEM.UE_FIRST_INFO.MASTER, MEM.UE_FIRST_TIME,
      MEM.UE_LATEST_ADDR, MEM.UE_LATEST_INFO.INFO, MEM.UE_LATEST_TIME, MEM.CH_CNT.CE, MEM.SRAM_CNT.CE,
      AT.VIO_STATUS.FIRST_VALID, AT.VIO_FIRST_ADDR, AT.VIO_FIRST_INFO.MASTER, AT.VIO_FIRST_TIME, AT.VIO_LATEST_ADDR,
      AT.VIO_LATEST_INFO.INFO, AT.VIO_LATEST_TIME, REC.QUEUE.VALUE, REC.EVT_TOTAL] ga) :
    regAt (s.threadPeek c l q).1.regs ga = regAt s.regs ga := by
  simp only [Off_cons, Off_nil] at ho
  unfold State.threadPeek
  split <;> (rename_i heq; have hs := congrArg (fun x => x.1) heq; simp only at hs; subst hs) <;> simp [ho]
@[simp] theorem State.threadPost_regs (s : State) (c l q : Nat) (d : Desc) (ga : Nat) (ho : Off [Q.PROD.PROD, Q.CREDITS.CREDITS, Q.LAST_POST, Q.POSTS.SEQ, Q.SLOTS.POST_SLOT, MEM.CH_RETIRE.RETIRE, MEM.ECC_STATUS.CE,
      MEM.UE_FIRST_ADDR, MEM.UE_FIRST_INFO.MASTER, MEM.UE_FIRST_TIME, MEM.UE_LATEST_ADDR, MEM.UE_LATEST_INFO.INFO,
      MEM.UE_LATEST_TIME, MEM.CH_CNT.CE, MEM.SRAM_CNT.CE, AT.VIO_STATUS.FIRST_VALID, AT.VIO_FIRST_ADDR,
      AT.VIO_FIRST_INFO.MASTER, AT.VIO_FIRST_TIME, AT.VIO_LATEST_ADDR, AT.VIO_LATEST_INFO.INFO, AT.VIO_LATEST_TIME,
      REC.QUEUE.VALUE, REC.EVT_TOTAL] ga) (hq : ¬InSet .direct ga) :
    regAt (s.threadPost c l q d).1.regs ga = regAt s.regs ga := by
  simp only [Off_cons, Off_nil] at ho
  unfold State.threadPost
  split <;> (rename_i heq; have hs := congrArg (fun x => x.1) heq; simp only at hs; subst hs) <;> simp [ho, hq]
@[simp] theorem State.opWait_regs (s : State) (c i : Nat) (ga : Nat) (ho : Off [Q.TAKE.TAKE, Q.SLOTS.POST_SLOT, MEM.CH_RETIRE.RETIRE, MEM.ECC_STATUS.CE, MEM.UE_FIRST_ADDR, MEM.UE_FIRST_INFO.MASTER,
      MEM.UE_FIRST_TIME, MEM.UE_LATEST_ADDR, MEM.UE_LATEST_INFO.INFO, MEM.UE_LATEST_TIME, MEM.CH_CNT.CE, MEM.SRAM_CNT.CE,
      AT.VIO_STATUS.FIRST_VALID, AT.VIO_FIRST_ADDR, AT.VIO_FIRST_INFO.MASTER, AT.VIO_FIRST_TIME, AT.VIO_LATEST_ADDR,
      AT.VIO_LATEST_INFO.INFO, AT.VIO_LATEST_TIME, REC.QUEUE.VALUE, REC.EVT_TOTAL] ga) : regAt (s.opWait c i).regs ga = regAt s.regs ga := by
  simp only [Off_cons, Off_nil] at ho
  unfold State.opWait
  split
  · rfl
  · dsimp only
    split
    · simp
    · split
      · split <;> (rename_i heq; have hs := congrArg (fun x => x.1) heq; simp only at hs; subst hs)
        · simp [ho]
        · split <;> simp [ho]
      · rfl
@[simp] theorem State.opPost_regs (s : State) (c i : Nat) (ga : Nat) (ho : Off [Q.PROD.PROD, Q.CREDITS.CREDITS, Q.LAST_POST, Q.POSTS.SEQ, Q.SLOTS.POST_SLOT, MEM.CH_RETIRE.RETIRE, MEM.ECC_STATUS.CE,
      MEM.UE_FIRST_ADDR, MEM.UE_FIRST_INFO.MASTER, MEM.UE_FIRST_TIME, MEM.UE_LATEST_ADDR, MEM.UE_LATEST_INFO.INFO,
      MEM.UE_LATEST_TIME, MEM.CH_CNT.CE, MEM.SRAM_CNT.CE, AT.VIO_STATUS.FIRST_VALID, AT.VIO_FIRST_ADDR,
      AT.VIO_FIRST_INFO.MASTER, AT.VIO_FIRST_TIME, AT.VIO_LATEST_ADDR, AT.VIO_LATEST_INFO.INFO, AT.VIO_LATEST_TIME,
      REC.QUEUE.VALUE, REC.EVT_TOTAL] ga) (hq : ¬InSet .direct ga) :
    regAt (s.opPost c i).regs ga = regAt s.regs ga := by
  simp only [Off_cons, Off_nil] at ho
  unfold State.opPost
  dsimp only
  split
  · rfl
  · split
    · simp
    · split
      · simp
      · split
        · split <;> (rename_i heq; have hs := congrArg (fun x => x.1) heq; simp only at hs; subst hs) <;> simp [ho, hq]
        · rfl
@[simp] theorem State.opRetire_regs (s : State) (c : Nat) (i : Nat) (ga : Nat) (ho : Off [Q.RET.RET, Q.CREDITS.CREDITS, Q.STATUS.NO_CREDIT] ga) :
    regAt (State.opRetire s c i).regs ga = regAt s.regs ga := by
  simp only [Off_cons, Off_nil] at ho
  unfold State.opRetire; split <;> simp [ho]
@[simp] theorem State.opDma_regs (s : State) (c i q done src dst len : Nat) (ga : Nat) (ho : Off [Q.PROD.PROD, Q.TAKE.TAKE, Q.RET.RET, Q.CREDITS.CREDITS, Q.LAST_POST, Q.POSTS.SEQ, Q.SLOTS.POST_SLOT,
      MEM.CH_RETIRE.RETIRE, MEM.ECC_STATUS.CE, MEM.UE_FIRST_ADDR, MEM.UE_FIRST_INFO.MASTER, MEM.UE_FIRST_TIME,
      MEM.UE_LATEST_ADDR, MEM.UE_LATEST_INFO.INFO, MEM.UE_LATEST_TIME, MEM.CH_CNT.CE, MEM.SRAM_CNT.CE,
      AT.VIO_STATUS.FIRST_VALID, AT.VIO_FIRST_ADDR, AT.VIO_FIRST_INFO.MASTER, AT.VIO_FIRST_TIME, AT.VIO_LATEST_ADDR,
      AT.VIO_LATEST_INFO.INFO, AT.VIO_LATEST_TIME, REC.QUEUE.VALUE, REC.EVT_TOTAL] ga) (hq : ¬InSet .direct ga) :
    regAt (s.opDma c i q done src dst len).regs ga = regAt s.regs ga := by
  simp only [Off_cons, Off_nil] at ho
  unfold State.opDma
  split
  · rfl
  · split
    · split
      · split <;> (rename_i heq; have hs := congrArg (fun x => x.1) heq; simp only at hs; subst hs) <;> simp [ho, hq]
      · rfl
    · split
      · split <;> (rename_i heq; have hs := congrArg (fun x => x.1) heq; simp only at hs; subst hs)
        · simp [ho, hq]
        · split <;> simp [ho, hq]
      · rfl
@[simp] theorem State.opBarrier_regs (s : State) (c : Nat) (i : Nat) (mask : Nat) (ga : Nat) :
    regAt (State.opBarrier s c i mask).regs ga = regAt s.regs ga := by
  unfold State.opBarrier; split <;> simp
@[simp] theorem State.opResult_regs (s : State) (c i : Nat) (ga : Nat) (ho : Off [MEM.CH_RETIRE.RETIRE, MEM.ECC_STATUS.CE, MEM.UE_FIRST_ADDR, MEM.UE_FIRST_INFO.MASTER, MEM.UE_FIRST_TIME,
      MEM.UE_LATEST_ADDR, MEM.UE_LATEST_INFO.INFO, MEM.UE_LATEST_TIME, MEM.CH_CNT.CE, MEM.SRAM_CNT.CE,
      AT.VIO_STATUS.FIRST_VALID, AT.VIO_FIRST_ADDR, AT.VIO_FIRST_INFO.MASTER, AT.VIO_FIRST_TIME, AT.VIO_LATEST_ADDR,
      AT.VIO_LATEST_INFO.INFO, AT.VIO_LATEST_TIME, REC.QUEUE.VALUE, REC.EVT_TOTAL] ga) :
    regAt (s.opResult c i).regs ga = regAt s.regs ga := by
  unfold State.opResult
  split
  · rfl
  · rename_i p o f _
    have hk := State.readTensor_regs s c o.logical p (o.ins.getD 0 0xFFFF) ga ho
    split <;> (rename_i e; rw [e] at hk; simpa using hk)
@[simp] theorem State.opNop_regs (s : State) (c : Nat) (i : Nat) (ga : Nat) :
    regAt (State.opNop s c i).regs ga = regAt s.regs ga := by
  unfold State.opNop; split <;> simp

end Sys2Proof.Machine
end

