-- ==== Sys2Proof/Laws/Frame3.lean ====
section
/-!
SUPPORT. Which registers the operations of Monitor, Hk, Slots, Timebase change: every register of another field keeps its value.
-/
set_option linter.all false
namespace Sys2Proof.Machine
open Sys2Proof.Safety

@[simp] theorem State.monAdd_regs (s : State) (k : Nat) (v : Int) (stamp : Nat) (ovr : Bool) (ga : Nat) :
    regAt (State.monAdd s k v stamp ovr).regs ga = regAt s.regs ga := by
  simp [State.monAdd]
theorem wr_mon (s : State) (f : RF) (v k : Nat) (ga : Nat) (h1 : f.s1 = 1 ∧ f.s2 = 0 ∧ f.base + 4 < 0x40) (hm : ¬InSet .monitors ga) :
    regAt (s.wr f v (monBase k)).regs ga = regAt s.regs ga := by
  have key : ∀ d < 0x40, ga ≠ monBase k + d := fun d hd e => hm ⟨k, d, hd, e⟩
  have a0 : ga ≠ f.addr (monBase k) 0 := by
    rw [RF.addr, h1.1, h1.2.1]; have := key f.base (by omega); omega
  have a4 : ga ≠ f.addr (monBase k) 0 + 4 := by
    rw [RF.addr, h1.1, h1.2.1]; have := key (f.base + 4) (by omega); omega
  unfold State.wr
  dsimp only
  split
  · rw [setReg_off _ _ _ _ a4, setReg_off _ _ _ _ a0]
  · exact setReg_off _ _ _ _ a0
@[simp] theorem State.monSnap_regs (s : State) (k : Nat) (ga : Nat) (hm : ¬InSet .monitors ga) : regAt (s.monSnap k).regs ga = regAt s.regs ga := by
  unfold State.monSnap State.wrS State.put State.raise State.clear
  dsimp only
  simp only [State.updMon_keeps]
  rw [wr_mon _ _ _ _ _ (by decide) hm]
  split <;> (try simp only [State.noteSet_keeps]) <;> iterate 8 rw [wr_mon _ _ _ _ _ (by decide) hm]
@[simp] theorem State.fxMonCtrl_regs (s : State) (k v : Nat) (ga : Nat) (hm : ¬InSet .monitors ga) :
    regAt (s.fxMonCtrl k v).1.regs ga = regAt s.regs ga := by
  have h0 : ga ≠ MON.CTRL.SNAP.addr (monBase k) := by
    intro e; exact hm ⟨k, 0, by decide, by simpa [RF.addr, MON.CTRL.SNAP] using e⟩
  unfold State.fxMonCtrl
  dsimp only
  (repeat' split) <;> simp [hm, h0]
@[simp] theorem State.hkIdle_regs (s : State) (k : Nat) (ga : Nat) (ho : Off [HK.STATUS.RUN] ga) :
    regAt (State.hkIdle s k).regs ga = regAt s.regs ga := by
  simp only [Off_cons, Off_nil] at ho
  simp [State.hkIdle, ho]
@[simp] theorem State.hkEntry_regs (s : State) (k : Nat) (e : Nat) (t_ : Nat) (ga : Nat) (ho : Off [HK.STATUS.RUN] ga) :
    regAt (State.hkEntry s k e t_).regs ga = regAt s.regs ga := by
  simp only [Off_cons, Off_nil] at ho
  simp [State.hkEntry, ho]
@[simp] theorem State.hkPass_regs (s : State) (k : Nat) (t_ : Nat) (ga : Nat) (ho : Off [HK.STATUS.RUN] ga) :
    regAt (State.hkPass s k t_).regs ga = regAt s.regs ga := by
  simp only [Off_cons, Off_nil] at ho
  unfold State.hkPass; split <;> simp [ho]
@[simp] theorem State.hkWake_regs (s : State) (k : Nat) (ga : Nat) :
    regAt (State.hkWake s k).regs ga = regAt s.regs ga := by
  simp [State.hkWake]
@[simp] theorem State.hkStart_regs (s : State) (k : Nat) (ga : Nat) (ho : Off [HK.STATUS.RUN] ga) :
    regAt (State.hkStart s k).regs ga = regAt s.regs ga := by
  simp only [Off_cons, Off_nil] at ho
  simp [State.hkStart, ho]
@[simp] theorem State.hkResume_regs (s : State) (k : Nat) (t_ : Nat) (ga : Nat) :
    regAt (State.hkResume s k t_).regs ga = regAt s.regs ga := by
  unfold State.hkResume; dsimp only; (repeat' split) <;> simp
@[simp] theorem State.hkAfterEntry_regs (s : State) (k : Nat) (t_ : Nat) (ga : Nat) (ho : Off [HK.STATUS.RUN] ga) :
    regAt (State.hkAfterEntry s k t_).regs ga = regAt s.regs ga := by
  simp only [Off_cons, Off_nil] at ho
  unfold State.hkAfterEntry; dsimp only; (repeat' split) <;> simp [ho]
@[simp] theorem State.hkConv_regs (s : State) (k : Nat) (raw : Int) (st : Nat) (t_ : Nat) (ga : Nat) (ho : Off [HK.STATUS.RUN, HK.RESULT.VALUE, HK.STAMP] ga) :
    regAt (State.hkConv s k raw st t_).regs ga = regAt s.regs ga := by
  simp only [Off_cons, Off_nil] at ho
  simp [State.hkConv, ho]
@[simp] theorem State.hkUrgDone_regs (s : State) (k : Nat) (u : HkUrg) (t0 : Nat) (raw : Int) (ga : Nat) (ho : Off [HK.STATUS.RUN, HK.URG_RESULT.VALUE, HK.URG_STAMP] ga) :
    regAt (State.hkUrgDone s k u t0 raw).regs ga = regAt s.regs ga := by
  simp only [Off_cons, Off_nil] at ho
  simp [State.hkUrgDone, ho]
@[simp] theorem State.hkSeqDone_regs (s : State) (k : Nat) (raw : Int) (ga : Nat) (ho : Off [HK.STATUS.RUN, HK.RESULT.VALUE, HK.STAMP] ga) :
    regAt (State.hkSeqDone s k raw).regs ga = regAt s.regs ga := by
  simp only [Off_cons, Off_nil] at ho
  unfold State.hkSeqDone; dsimp only; (repeat' split) <;> simp [ho]
@[simp] theorem State.hkUrgent_regs (s : State) (k : Nat) (ch : Nat) (exc : Nat) (acq : Nat) (safety : Bool) (ga : Nat) (ho : Off [HK.STATUS.RUN] ga) :
    regAt (State.hkUrgent s k ch exc acq safety).regs ga = regAt s.regs ga := by
  simp only [Off_cons, Off_nil] at ho
  unfold State.hkUrgent; dsimp only; (repeat' split) <;> simp [ho]
@[simp] theorem State.fxHkCtrl_regs (s : State) (k : Nat) (v : Nat) (ga : Nat) (ho : Off [HK.CTRL.START, HK.STATUS.RUN] ga) :
    regAt (State.fxHkCtrl s k v).1.regs ga = regAt s.regs ga := by
  simp only [Off_cons, Off_nil] at ho
  simp [State.fxHkCtrl, ho]
@[simp] theorem State.fxHkUrgent_regs (s : State) (k : Nat) (v : Nat) (ga : Nat) (ho : Off [HK.STATUS.RUN, HK.URGENT.REQ] ga) :
    regAt (State.fxHkUrgent s k v).1.regs ga = regAt s.regs ga := by
  simp only [Off_cons, Off_nil] at ho
  simp [State.fxHkUrgent, ho]
@[simp] theorem State.slotWait_regs (s : State) (k : Nat) (ga : Nat) (ho : Off [SCH.PRED, SCH.STATUS.STATE] ga) :
    regAt (State.slotWait s k).regs ga = regAt s.regs ga := by
  simp only [Off_cons, Off_nil] at ho
  simp [State.slotWait, ho]
@[simp] theorem State.slotArm_regs (s : State) (k : Nat) (c : Nat) (late : Bool) (ga : Nat) (ho : Off [SCH.PRED, SCH.STATUS.STATE] ga) :
    regAt (State.slotArm s k c late).regs ga = regAt s.regs ga := by
  simp only [Off_cons, Off_nil] at ho
  simp [State.slotArm, ho]
@[simp] theorem State.slotIdle_regs (s : State) (k : Nat) (ga : Nat) (ho : Off [SCH.PRED, SCH.STATUS.STATE] ga) :
    regAt (State.slotIdle s k).regs ga = regAt s.regs ga := by
  simp only [Off_cons, Off_nil] at ho
  simp [State.slotIdle, ho]
@[simp] theorem State.slotBacklog_regs (s : State) (k : Nat) (c : Nat) (n : Nat) (ga : Nat) (ho : Off [SCH.PRED, SCH.STATUS.STATE] ga) :
    regAt (State.slotBacklog s k c n).regs ga = regAt s.regs ga := by
  simp only [Off_cons, Off_nil] at ho
  simp [State.slotBacklog, ho]
@[simp] theorem State.slotPredict_regs (s : State) (k : Nat) (angle : Int) (stamp : Nat) (c : Nat) (prev : Option Int) (ga : Nat) (ho : Off [SCH.PRED, SCH.STATUS.STATE] ga) :
    regAt (State.slotPredict s k angle stamp c prev).regs ga = regAt s.regs ga := by
  simp only [Off_cons, Off_nil] at ho
  unfold State.slotPredict; split <;> simp [ho]
@[simp] theorem State.slotArmNow_regs (s : State) (k : Nat) (ga : Nat) (ho : Off [SCH.PRED, SCH.STATUS.STATE] ga) :
    regAt (State.slotArmNow s k).regs ga = regAt s.regs ga := by
  simp only [Off_cons, Off_nil] at ho
  simp [State.slotArmNow, ho]
@[simp] theorem State.slotTake_regs (s : State) (k : Nat) (x : Nat) (angle : Int) (stamp : Nat) (c : Nat) (prev : Int) (ga : Nat) (ho : Off [SCH.TARGET, SCH.PRED, SCH.STATUS.STATE] ga) :
    regAt (State.slotTake s k x angle stamp c prev).regs ga = regAt s.regs ga := by
  simp only [Off_cons, Off_nil] at ho
  simp [State.slotTake, ho]
@[simp] theorem State.slotsTbUpdate_regs (s : State) (t : Nat) (prev : Int) (ga : Nat) (ho : Off [SCH.TARGET, SCH.PRED, SCH.STATUS.STATE] ga) :
    regAt (s.slotsTbUpdate t prev).regs ga = regAt s.regs ga := by
  simp only [Off_cons, Off_nil] at ho
  unfold State.slotsTbUpdate
  refine forEach_off _ _ _ _ fun s k => ?_
  dsimp only
  (repeat' split) <;> simp [ho]
@[simp] theorem State.slotsTbLost_regs (s : State) (t_ : Nat) (ga : Nat) (ho : Off [SCH.PRED, SCH.STATUS.STATE] ga) :
    regAt (State.slotsTbLost s t_).regs ga = regAt s.regs ga := by
  simp only [Off_cons, Off_nil] at ho
  simp [State.slotsTbLost, ho]
@[simp] theorem State.slotsResid_regs (s : State) (t : Nat) (ga : Nat) (ho : Off [SCH.RESID.RESID, SCH.STATUS.STATE, REC.QUEUE.VALUE, REC.EVT_TOTAL] ga) :
    regAt (s.slotsResid t).regs ga = regAt s.regs ga := by
  simp only [Off_cons, Off_nil] at ho
  unfold State.slotsResid
  refine forEach_off _ _ _ _ fun s k => ?_
  dsimp only
  (repeat' split) <;> simp [ho]
@[simp] theorem State.slotAction_regs (s : State) (k : Nat) (target : Nat) (ga : Nat) (ho : Off [HK.STATUS.RUN, CTX.STATUS.STATE, CTX.FRAME.FRAME, CTX.OVR_CNT.CNT, Q.PROD.PROD, Q.CREDITS.CREDITS, Q.STATUS.NO_CREDIT,
      Q.LAST_POST, Q.POSTS.SEQ, Q.SLOTS.POST_SLOT, BAB.STATUS.OVERLOAD, TWN.STATUS.PAIRED, MEM.CH_RETIRE.RETIRE,
      MEM.ECC_STATUS.CE, MEM.UE_FIRST_ADDR, MEM.UE_FIRST_INFO.MASTER, MEM.UE_FIRST_TIME, MEM.UE_LATEST_ADDR,
      MEM.UE_LATEST_INFO.INFO, MEM.UE_LATEST_TIME, MEM.CH_CNT.CE, MEM.SRAM_CNT.CE, AT.VIO_STATUS.FIRST_VALID,
      AT.VIO_FIRST_ADDR, AT.VIO_FIRST_INFO.MASTER, AT.VIO_FIRST_TIME, AT.VIO_LATEST_ADDR, AT.VIO_LATEST_INFO.INFO,
      AT.VIO_LATEST_TIME, REC.QUEUE.VALUE, REC.EVT_TOTAL] ga) :
    regAt (State.slotAction s k target).regs ga = regAt s.regs ga := by
  simp only [Off_cons, Off_nil] at ho
  unfold State.slotAction; dsimp only; (repeat' split) <;> simp [ho]
@[simp] theorem State.slotAdvance_regs (s : State) (k : Nat) (target : Nat) (ga : Nat) (ho : Off [SCH.CFG.EN, SCH.TARGET, SCH.PRED, SCH.STATUS.STATE, REC.QUEUE.VALUE, REC.EVT_TOTAL] ga) :
    regAt (State.slotAdvance s k target).regs ga = regAt s.regs ga := by
  simp only [Off_cons, Off_nil] at ho
  simp [State.slotAdvance, ho]
@[simp] theorem State.fxSchCfg_regs (s : State) (k : Nat) (v : Nat) (ga : Nat) (ho : Off [SCH.CFG.EN, SCH.PRED, SCH.STATUS.STATE] ga) :
    regAt (State.fxSchCfg s k v).1.regs ga = regAt s.regs ga := by
  simp only [Off_cons, Off_nil] at ho
  simp [State.fxSchCfg, ho]
@[simp] theorem State.fxSchTargetHi_regs (s : State) (k : Nat) (v : Nat) (ga : Nat) (ho : Off [SCH.TARGET, SCH.PRED, SCH.STATUS.STATE] ga) :
    regAt (State.fxSchTargetHi s k v).1.regs ga = regAt s.regs ga := by
  simp only [Off_cons, Off_nil] at ho
  simp [State.fxSchTargetHi, ho]
@[simp] theorem State.tbSetState_regs (s : State) (t_ : Nat) (new : Nat) (event : Bool) (ga : Nat) (ho : Off [TB.STATUS.STATE, REC.QUEUE.VALUE, REC.EVT_TOTAL] ga) :
    regAt (State.tbSetState s t_ new event).regs ga = regAt s.regs ga := by
  simp only [Off_cons, Off_nil] at ho
  simp [State.tbSetState, ho]
@[simp] theorem State.tbWrite_regs (s : State) (t_ : Nat) (ang : Int) (spd : Int) (stamp : Nat) (corr : Bool) (ga : Nat) (ho : Off [TB.SPEED.SPEED, TB.ANGLE, TB.STAMP, TB.STATUS.STATE, SCH.TARGET, SCH.PRED, SCH.RESID.RESID, SCH.STATUS.STATE,
      BAB.IN_STATUS.STATE, BAB.IN_POS, MEM.CH_RETIRE.RETIRE, MEM.ECC_STATUS.CE, MEM.UE_FIRST_ADDR, MEM.UE_FIRST_INFO.MASTER,
      MEM.UE_FIRST_TIME, MEM.UE_LATEST_ADDR, MEM.UE_LATEST_INFO.INFO, MEM.UE_LATEST_TIME, MEM.CH_CNT.CE, MEM.SRAM_CNT.CE,
      AT.VIO_STATUS.FIRST_VALID, AT.VIO_FIRST_ADDR, AT.VIO_FIRST_INFO.MASTER, AT.VIO_FIRST_TIME, AT.VIO_LATEST_ADDR,
      AT.VIO_LATEST_INFO.INFO, AT.VIO_LATEST_TIME, REC.QUEUE.VALUE, REC.EVT_TOTAL] ga) (hq : ¬InSet .direct ga) :
    regAt (State.tbWrite s t_ ang spd stamp corr).regs ga = regAt s.regs ga := by
  simp only [Off_cons, Off_nil] at ho
  simp [State.tbWrite, ho, hq]
@[simp] theorem State.tbSource_regs (s : State) (t_ : Nat) (prim : Bool) (ang : Int) (spd : Int) (stamp : Nat) (ga : Nat) (ho : Off [TB.SPEED.SPEED, TB.ANGLE, TB.STAMP, TB.STATUS.STATE, SCH.TARGET, SCH.PRED, SCH.RESID.RESID, SCH.STATUS.STATE,
      BAB.IN_STATUS.STATE, BAB.IN_POS, MEM.CH_RETIRE.RETIRE, MEM.ECC_STATUS.CE, MEM.UE_FIRST_ADDR, MEM.UE_FIRST_INFO.MASTER,
      MEM.UE_FIRST_TIME, MEM.UE_LATEST_ADDR, MEM.UE_LATEST_INFO.INFO, MEM.UE_LATEST_TIME, MEM.CH_CNT.CE, MEM.SRAM_CNT.CE,
      AT.VIO_STATUS.FIRST_VALID, AT.VIO_FIRST_ADDR, AT.VIO_FIRST_INFO.MASTER, AT.VIO_FIRST_TIME, AT.VIO_LATEST_ADDR,
      AT.VIO_LATEST_INFO.INFO, AT.VIO_LATEST_TIME, REC.QUEUE.VALUE, REC.EVT_TOTAL] ga) (hq : ¬InSet .direct ga) :
    regAt (State.tbSource s t_ prim ang spd stamp).1.regs ga = regAt s.regs ga := by
  simp only [Off_cons, Off_nil] at ho
  simp [State.tbSource, ho, hq]
@[simp] theorem State.tbOffer_regs (s : State) (t_ : Nat) (src : Nat) (ang : Int) (spd : Int) (stamp : Nat) (ga : Nat) (ho : Off [TB.SPEED.SPEED, TB.ANGLE, TB.STAMP, TB.STATUS.STATE, SCH.TARGET, SCH.PRED, SCH.RESID.RESID, SCH.STATUS.STATE,
      BAB.IN_STATUS.STATE, BAB.IN_POS, MEM.CH_RETIRE.RETIRE, MEM.ECC_STATUS.CE, MEM.UE_FIRST_ADDR, MEM.UE_FIRST_INFO.MASTER,
      MEM.UE_FIRST_TIME, MEM.UE_LATEST_ADDR, MEM.UE_LATEST_INFO.INFO, MEM.UE_LATEST_TIME, MEM.CH_CNT.CE, MEM.SRAM_CNT.CE,
      AT.VIO_STATUS.FIRST_VALID, AT.VIO_FIRST_ADDR, AT.VIO_FIRST_INFO.MASTER, AT.VIO_FIRST_TIME, AT.VIO_LATEST_ADDR,
      AT.VIO_LATEST_INFO.INFO, AT.VIO_LATEST_TIME, REC.QUEUE.VALUE, REC.EVT_TOTAL] ga) (hq : ¬InSet .direct ga) :
    regAt (State.tbOffer s t_ src ang spd stamp).1.regs ga = regAt s.regs ga := by
  simp only [Off_cons, Off_nil] at ho
  simp [State.tbOffer, ho, hq]
@[simp] theorem State.tbOfferRef_regs (s : State) (x : Nat) (stamp : Nat) (ga : Nat) (ho : Off [TB.SPEED.SPEED, TB.ANGLE, TB.STAMP, TB.STATUS.STATE, SCH.TARGET, SCH.PRED, SCH.RESID.RESID, SCH.STATUS.STATE,
      BAB.IN_STATUS.STATE, BAB.IN_POS, MEM.CH_RETIRE.RETIRE, MEM.ECC_STATUS.CE, MEM.UE_FIRST_ADDR, MEM.UE_FIRST_INFO.MASTER,
      MEM.UE_FIRST_TIME, MEM.UE_LATEST_ADDR, MEM.UE_LATEST_INFO.INFO, MEM.UE_LATEST_TIME, MEM.CH_CNT.CE, MEM.SRAM_CNT.CE,
      AT.VIO_STATUS.FIRST_VALID, AT.VIO_FIRST_ADDR, AT.VIO_FIRST_INFO.MASTER, AT.VIO_FIRST_TIME, AT.VIO_LATEST_ADDR,
      AT.VIO_LATEST_INFO.INFO, AT.VIO_LATEST_TIME, REC.QUEUE.VALUE, REC.EVT_TOTAL] ga) (hq : ¬InSet .direct ga) :
    regAt (State.tbOfferRef s x stamp).1.regs ga = regAt s.regs ga := by
  simp only [Off_cons, Off_nil] at ho
  simp [State.tbOfferRef, ho, hq]
@[simp] theorem State.tbTake_regs (s : State) (x : Nat) (ga : Nat) (ho : Off [TB.SPEED.SPEED, TB.ANGLE, TB.STAMP, TB.STATUS.STATE, SCH.TARGET, SCH.PRED, SCH.RESID.RESID, SCH.STATUS.STATE,
      BAB.IN_STATUS.STATE, BAB.IN_POS, MEM.CH_RETIRE.RETIRE, MEM.ECC_STATUS.CE, MEM.UE_FIRST_ADDR, MEM.UE_FIRST_INFO.MASTER,
      MEM.UE_FIRST_TIME, MEM.UE_LATEST_ADDR, MEM.UE_LATEST_INFO.INFO, MEM.UE_LATEST_TIME, MEM.CH_CNT.CE, MEM.SRAM_CNT.CE,
      AT.VIO_STATUS.FIRST_VALID, AT.VIO_FIRST_ADDR, AT.VIO_FIRST_INFO.MASTER, AT.VIO_FIRST_TIME, AT.VIO_LATEST_ADDR,
      AT.VIO_LATEST_INFO.INFO, AT.VIO_LATEST_TIME, REC.QUEUE.VALUE, REC.EVT_TOTAL] ga) (hq : ¬InSet .direct ga) :
    regAt (State.tbTake s x).1.regs ga = regAt s.regs ga := by
  simp only [Off_cons, Off_nil] at ho
  simp [State.tbTake, ho, hq]
@[simp] theorem State.tbInherit_regs (s : State) (n t : Nat) (ga : Nat) (ho : Off [TB.SPEED.SPEED, TB.ANGLE, TB.STAMP, TB.STATUS.STATE, SCH.TARGET, SCH.PRED, SCH.RESID.RESID, SCH.STATUS.STATE,
      BAB.IN_STATUS.STATE, BAB.IN_POS, MEM.CH_RETIRE.RETIRE, MEM.ECC_STATUS.CE, MEM.UE_FIRST_ADDR, MEM.UE_FIRST_INFO.MASTER,
      MEM.UE_FIRST_TIME, MEM.UE_LATEST_ADDR, MEM.UE_LATEST_INFO.INFO, MEM.UE_LATEST_TIME, MEM.CH_CNT.CE, MEM.SRAM_CNT.CE,
      AT.VIO_STATUS.FIRST_VALID, AT.VIO_FIRST_ADDR, AT.VIO_FIRST_INFO.MASTER, AT.VIO_FIRST_TIME, AT.VIO_LATEST_ADDR,
      AT.VIO_LATEST_INFO.INFO, AT.VIO_LATEST_TIME, REC.QUEUE.VALUE, REC.EVT_TOTAL] ga) (hq : ¬InSet .direct ga) :
    regAt (s.tbInherit n t).regs ga = regAt s.regs ga := by
  have ho' := ho
  simp only [Off_cons, Off_nil] at ho'
  induction n generalizing s t with
  | zero => rfl
  | succ n ih =>
    unfold State.tbInherit
    refine forEach_off _ _ _ _ fun s k => ?_
    dsimp only
    (repeat' split) <;> simp [ih, ho', hq]
@[simp] theorem State.tbPropagate_regs (s : State) (n t : Nat) (ch : Bool) (ga : Nat) (ho : Off [TB.SPEED.SPEED, TB.ANGLE, TB.STAMP, TB.STATUS.STATE, SCH.TARGET, SCH.PRED, SCH.RESID.RESID, SCH.STATUS.STATE,
      BAB.IN_STATUS.STATE, BAB.IN_POS, MEM.CH_RETIRE.RETIRE, MEM.ECC_STATUS.CE, MEM.UE_FIRST_ADDR, MEM.UE_FIRST_INFO.MASTER,
      MEM.UE_FIRST_TIME, MEM.UE_LATEST_ADDR, MEM.UE_LATEST_INFO.INFO, MEM.UE_LATEST_TIME, MEM.CH_CNT.CE, MEM.SRAM_CNT.CE,
      AT.VIO_STATUS.FIRST_VALID, AT.VIO_FIRST_ADDR, AT.VIO_FIRST_INFO.MASTER, AT.VIO_FIRST_TIME, AT.VIO_LATEST_ADDR,
      AT.VIO_LATEST_INFO.INFO, AT.VIO_LATEST_TIME, REC.QUEUE.VALUE, REC.EVT_TOTAL] ga) (hq : ¬InSet .direct ga) :
    regAt (s.tbPropagate n t ch).regs ga = regAt s.regs ga := by
  have ho' := ho
  simp only [Off_cons, Off_nil] at ho'
  induction n generalizing s t ch with
  | zero => rfl
  | succ n ih =>
    unfold State.tbPropagate
    refine forEach_off _ _ _ _ fun s k => ?_
    dsimp only
    (repeat' split) <;> simp [ih, ho', hq]
@[simp] theorem State.tbUpdate_regs (s : State) (t_ : Nat) (src : Nat) (ang : Int) (spd : Int) (stamp : Nat) (ga : Nat) (ho : Off [TB.SPEED.SPEED, TB.ANGLE, TB.STAMP, TB.STATUS.STATE, SCH.TARGET, SCH.PRED, SCH.RESID.RESID, SCH.STATUS.STATE,
      BAB.IN_STATUS.STATE, BAB.IN_POS, MEM.CH_RETIRE.RETIRE, MEM.ECC_STATUS.CE, MEM.UE_FIRST_ADDR, MEM.UE_FIRST_INFO.MASTER,
      MEM.UE_FIRST_TIME, MEM.UE_LATEST_ADDR, MEM.UE_LATEST_INFO.INFO, MEM.UE_LATEST_TIME, MEM.CH_CNT.CE, MEM.SRAM_CNT.CE,
      AT.VIO_STATUS.FIRST_VALID, AT.VIO_FIRST_ADDR, AT.VIO_FIRST_INFO.MASTER, AT.VIO_FIRST_TIME, AT.VIO_LATEST_ADDR,
      AT.VIO_LATEST_INFO.INFO, AT.VIO_LATEST_TIME, REC.QUEUE.VALUE, REC.EVT_TOTAL] ga) (hq : ¬InSet .direct ga) :
    regAt (State.tbUpdate s t_ src ang spd stamp).regs ga = regAt s.regs ga := by
  simp only [Off_cons, Off_nil] at ho
  simp [State.tbUpdate, ho, hq]
@[simp] theorem State.tbFreeze_regs (s : State) (t_ : Nat) (ga : Nat) (ho : Off [TB.SPEED.SPEED, TB.ANGLE, TB.STAMP] ga) :
    regAt (State.tbFreeze s t_).regs ga = regAt s.regs ga := by
  simp only [Off_cons, Off_nil] at ho
  simp [State.tbFreeze, ho]
@[simp] theorem State.tbEnterLost_regs (s : State) (t_ : Nat) (ga : Nat) (ho : Off [TB.SPEED.SPEED, TB.ANGLE, TB.STAMP, TB.STATUS.STATE, SCH.TARGET, SCH.PRED, SCH.RESID.RESID, SCH.STATUS.STATE,
      BAB.IN_STATUS.STATE, BAB.IN_POS, MEM.CH_RETIRE.RETIRE, MEM.ECC_STATUS.CE, MEM.UE_FIRST_ADDR, MEM.UE_FIRST_INFO.MASTER,
      MEM.UE_FIRST_TIME, MEM.UE_LATEST_ADDR, MEM.UE_LATEST_INFO.INFO, MEM.UE_LATEST_TIME, MEM.CH_CNT.CE, MEM.SRAM_CNT.CE,
      AT.VIO_STATUS.FIRST_VALID, AT.VIO_FIRST_ADDR, AT.VIO_FIRST_INFO.MASTER, AT.VIO_FIRST_TIME, AT.VIO_LATEST_ADDR,
      AT.VIO_LATEST_INFO.INFO, AT.VIO_LATEST_TIME, REC.QUEUE.VALUE, REC.EVT_TOTAL] ga) (hq : ¬InSet .direct ga) :
    regAt (State.tbEnterLost s t_).regs ga = regAt s.regs ga := by
  simp only [Off_cons, Off_nil] at ho
  simp [State.tbEnterLost, ho, hq]
@[simp] theorem State.tbEnterHold_regs (s : State) (t_ : Nat) (ga : Nat) (ho : Off [TB.SPEED.SPEED, TB.ANGLE, TB.STAMP, TB.STATUS.STATE, SCH.TARGET, SCH.PRED, SCH.RESID.RESID, SCH.STATUS.STATE,
      BAB.IN_STATUS.STATE, BAB.IN_POS, MEM.CH_RETIRE.RETIRE, MEM.ECC_STATUS.CE, MEM.UE_FIRST_ADDR, MEM.UE_FIRST_INFO.MASTER,
      MEM.UE_FIRST_TIME, MEM.UE_LATEST_ADDR, MEM.UE_LATEST_INFO.INFO, MEM.UE_LATEST_TIME, MEM.CH_CNT.CE, MEM.SRAM_CNT.CE,
      AT.VIO_STATUS.FIRST_VALID, AT.VIO_FIRST_ADDR, AT.VIO_FIRST_INFO.MASTER, AT.VIO_FIRST_TIME, AT.VIO_LATEST_ADDR,
      AT.VIO_LATEST_INFO.INFO, AT.VIO_LATEST_TIME, REC.QUEUE.VALUE, REC.EVT_TOTAL] ga) (hq : ¬InSet .direct ga) :
    regAt (State.tbEnterHold s t_).regs ga = regAt s.regs ga := by
  simp only [Off_cons, Off_nil] at ho
  simp [State.tbEnterHold, ho, hq]
@[simp] theorem State.tbPrimaryFails_regs (s : State) (t_ : Nat) (ga : Nat) (ho : Off [TB.SPEED.SPEED, TB.ANGLE, TB.STAMP, TB.STATUS.STATE, SCH.TARGET, SCH.PRED, SCH.RESID.RESID, SCH.STATUS.STATE,
      BAB.IN_STATUS.STATE, BAB.IN_POS, MEM.CH_RETIRE.RETIRE, MEM.ECC_STATUS.CE, MEM.UE_FIRST_ADDR, MEM.UE_FIRST_INFO.MASTER,
      MEM.UE_FIRST_TIME, MEM.UE_LATEST_ADDR, MEM.UE_LATEST_INFO.INFO, MEM.UE_LATEST_TIME, MEM.CH_CNT.CE, MEM.SRAM_CNT.CE,
      AT.VIO_STATUS.FIRST_VALID, AT.VIO_FIRST_ADDR, AT.VIO_FIRST_INFO.MASTER, AT.VIO_FIRST_TIME, AT.VIO_LATEST_ADDR,
      AT.VIO_LATEST_INFO.INFO, AT.VIO_LATEST_TIME, REC.QUEUE.VALUE, REC.EVT_TOTAL] ga) (hq : ¬InSet .direct ga) :
    regAt (State.tbPrimaryFails s t_).regs ga = regAt s.regs ga := by
  simp only [Off_cons, Off_nil] at ho
  simp [State.tbPrimaryFails, ho, hq]
@[simp] theorem State.tbAxisLost_regs (s : State) (n : Nat) (ga : Nat) (ho : Off [TB.SPEED.SPEED, TB.ANGLE, TB.STAMP, TB.STATUS.STATE, SCH.TARGET, SCH.PRED, SCH.RESID.RESID, SCH.STATUS.STATE,
      BAB.IN_STATUS.STATE, BAB.IN_POS, MEM.CH_RETIRE.RETIRE, MEM.ECC_STATUS.CE, MEM.UE_FIRST_ADDR, MEM.UE_FIRST_INFO.MASTER,
      MEM.UE_FIRST_TIME, MEM.UE_LATEST_ADDR, MEM.UE_LATEST_INFO.INFO, MEM.UE_LATEST_TIME, MEM.CH_CNT.CE, MEM.SRAM_CNT.CE,
      AT.VIO_STATUS.FIRST_VALID, AT.VIO_FIRST_ADDR, AT.VIO_FIRST_INFO.MASTER, AT.VIO_FIRST_TIME, AT.VIO_LATEST_ADDR,
      AT.VIO_LATEST_INFO.INFO, AT.VIO_LATEST_TIME, REC.QUEUE.VALUE, REC.EVT_TOTAL] ga) (hq : ¬InSet .direct ga) :
    regAt (State.tbAxisLost s n).regs ga = regAt s.regs ga := by
  simp only [Off_cons, Off_nil] at ho
  simp [State.tbAxisLost, ho, hq]
@[simp] theorem State.tbEnterOff_regs (s : State) (t_ : Nat) (ga : Nat) (ho : Off [TB.SPEED.SPEED, TB.ANGLE, TB.STAMP, TB.STATUS.STATE, SCH.TARGET, SCH.PRED, SCH.RESID.RESID, SCH.STATUS.STATE,
      BAB.IN_STATUS.STATE, BAB.IN_POS, MEM.CH_RETIRE.RETIRE, MEM.ECC_STATUS.CE, MEM.UE_FIRST_ADDR, MEM.UE_FIRST_INFO.MASTER,
      MEM.UE_FIRST_TIME, MEM.UE_LATEST_ADDR, MEM.UE_LATEST_INFO.INFO, MEM.UE_LATEST_TIME, MEM.CH_CNT.CE, MEM.SRAM_CNT.CE,
      AT.VIO_STATUS.FIRST_VALID, AT.VIO_FIRST_ADDR, AT.VIO_FIRST_INFO.MASTER, AT.VIO_FIRST_TIME, AT.VIO_LATEST_ADDR,
      AT.VIO_LATEST_INFO.INFO, AT.VIO_LATEST_TIME, REC.QUEUE.VALUE, REC.EVT_TOTAL] ga) (hq : ¬InSet .direct ga) :
    regAt (State.tbEnterOff s t_).regs ga = regAt s.regs ga := by
  simp only [Off_cons, Off_nil] at ho
  simp [State.tbEnterOff, ho, hq]
@[simp] theorem State.tbRestart_regs (s : State) (t_ : Nat) (ga : Nat) (ho : Off [TB.SPEED.SPEED, TB.ANGLE, TB.STAMP, TB.STATUS.STATE, SCH.TARGET, SCH.PRED, SCH.RESID.RESID, SCH.STATUS.STATE,
      BAB.IN_STATUS.STATE, BAB.IN_POS, MEM.CH_RETIRE.RETIRE, MEM.ECC_STATUS.CE, MEM.UE_FIRST_ADDR, MEM.UE_FIRST_INFO.MASTER,
      MEM.UE_FIRST_TIME, MEM.UE_LATEST_ADDR, MEM.UE_LATEST_INFO.INFO, MEM.UE_LATEST_TIME, MEM.CH_CNT.CE, MEM.SRAM_CNT.CE,
      AT.VIO_STATUS.FIRST_VALID, AT.VIO_FIRST_ADDR, AT.VIO_FIRST_INFO.MASTER, AT.VIO_FIRST_TIME, AT.VIO_LATEST_ADDR,
      AT.VIO_LATEST_INFO.INFO, AT.VIO_LATEST_TIME, REC.QUEUE.VALUE, REC.EVT_TOTAL] ga) (hq : ¬InSet .direct ga) :
    regAt (State.tbRestart s t_).regs ga = regAt s.regs ga := by
  simp only [Off_cons, Off_nil] at ho
  simp [State.tbRestart, ho, hq]
@[simp] theorem State.fxTbCfg_regs (s : State) (t_ : Nat) (v : Nat) (ga : Nat) (ho : Off [TB.CFG.EN, TB.SPEED.SPEED, TB.ANGLE, TB.STAMP, TB.STATUS.STATE, SCH.TARGET, SCH.PRED, SCH.RESID.RESID,
      SCH.STATUS.STATE, BAB.IN_STATUS.STATE, BAB.IN_POS, MEM.CH_RETIRE.RETIRE, MEM.ECC_STATUS.CE, MEM.UE_FIRST_ADDR,
      MEM.UE_FIRST_INFO.MASTER, MEM.UE_FIRST_TIME, MEM.UE_LATEST_ADDR, MEM.UE_LATEST_INFO.INFO, MEM.UE_LATEST_TIME,
      MEM.CH_CNT.CE, MEM.SRAM_CNT.CE, AT.VIO_STATUS.FIRST_VALID, AT.VIO_FIRST_ADDR, AT.VIO_FIRST_INFO.MASTER,
      AT.VIO_FIRST_TIME, AT.VIO_LATEST_ADDR, AT.VIO_LATEST_INFO.INFO, AT.VIO_LATEST_TIME, REC.QUEUE.VALUE, REC.EVT_TOTAL] ga) (hq : ¬InSet .direct ga) :
    regAt (State.fxTbCfg s t_ v).1.regs ga = regAt s.regs ga := by
  simp only [Off_cons, Off_nil] at ho
  simp [State.fxTbCfg, ho, hq]
@[simp] theorem State.fxTbRatio_regs (s : State) (t_ : Nat) (v : Nat) (ga : Nat) (ho : Off [TB.RATIO.NUM, TB.SPEED.SPEED, TB.ANGLE, TB.STAMP, TB.STATUS.STATE, SCH.TARGET, SCH.PRED, SCH.RESID.RESID,
      SCH.STATUS.STATE, BAB.IN_STATUS.STATE, BAB.IN_POS, MEM.CH_RETIRE.RETIRE, MEM.ECC_STATUS.CE, MEM.UE_FIRST_ADDR,
      MEM.UE_FIRST_INFO.MASTER, MEM.UE_FIRST_TIME, MEM.UE_LATEST_ADDR, MEM.UE_LATEST_INFO.INFO, MEM.UE_LATEST_TIME,
      MEM.CH_CNT.CE, MEM.SRAM_CNT.CE, AT.VIO_STATUS.FIRST_VALID, AT.VIO_FIRST_ADDR, AT.VIO_FIRST_INFO.MASTER,
      AT.VIO_FIRST_TIME, AT.VIO_LATEST_ADDR, AT.VIO_LATEST_INFO.INFO, AT.VIO_LATEST_TIME, REC.QUEUE.VALUE, REC.EVT_TOTAL] ga) (hq : ¬InSet .direct ga) :
    regAt (State.fxTbRatio s t_ v).1.regs ga = regAt s.regs ga := by
  simp only [Off_cons, Off_nil] at ho
  simp [State.fxTbRatio, ho, hq]
@[simp] theorem State.fxTbSpeed_regs (s : State) (t_ : Nat) (v : Nat) (ga : Nat) (ho : Off [TB.SPEED.SPEED] ga) :
    regAt (State.fxTbSpeed s t_ v).1.regs ga = regAt s.regs ga := by
  simp only [Off_cons, Off_nil] at ho
  simp [State.fxTbSpeed, ho]
@[simp] theorem State.fxTbAngleLo_regs (s : State) (t_ : Nat) (v : Nat) (ga : Nat) :
    regAt (State.fxTbAngleLo s t_ v).1.regs ga = regAt s.regs ga := by
  simp [State.fxTbAngleLo]
@[simp] theorem State.fxTbAngleHi_regs (s : State) (t_ : Nat) (v : Nat) (ga : Nat) (ho : Off [TB.SPEED.SPEED, TB.ANGLE, TB.STAMP, TB.STATUS.STATE, SCH.TARGET, SCH.PRED, SCH.RESID.RESID, SCH.STATUS.STATE,
      BAB.IN_STATUS.STATE, BAB.IN_POS, MEM.CH_RETIRE.RETIRE, MEM.ECC_STATUS.CE, MEM.UE_FIRST_ADDR, MEM.UE_FIRST_INFO.MASTER,
      MEM.UE_FIRST_TIME, MEM.UE_LATEST_ADDR, MEM.UE_LATEST_INFO.INFO, MEM.UE_LATEST_TIME, MEM.CH_CNT.CE, MEM.SRAM_CNT.CE,
      AT.VIO_STATUS.FIRST_VALID, AT.VIO_FIRST_ADDR, AT.VIO_FIRST_INFO.MASTER, AT.VIO_FIRST_TIME, AT.VIO_LATEST_ADDR,
      AT.VIO_LATEST_INFO.INFO, AT.VIO_LATEST_TIME, REC.QUEUE.VALUE, REC.EVT_TOTAL] ga) (hq : ¬InSet .direct ga) :
    regAt (State.fxTbAngleHi s t_ v).1.regs ga = regAt s.regs ga := by
  simp only [Off_cons, Off_nil] at ho
  simp [State.fxTbAngleHi, ho, hq]
@[simp] theorem State.tachCorrect_regs (s : State) (t_ : Nat) (stamp : Nat) (ga : Nat) (ho : Off [TB.SPEED.SPEED, TB.ANGLE, TB.STAMP, TB.STATUS.STATE, SCH.TARGET, SCH.PRED, SCH.RESID.RESID, SCH.STATUS.STATE,
      BAB.IN_STATUS.STATE, BAB.IN_POS, MEM.CH_RETIRE.RETIRE, MEM.ECC_STATUS.CE, MEM.UE_FIRST_ADDR, MEM.UE_FIRST_INFO.MASTER,
      MEM.UE_FIRST_TIME, MEM.UE_LATEST_ADDR, MEM.UE_LATEST_INFO.INFO, MEM.UE_LATEST_TIME, MEM.CH_CNT.CE, MEM.SRAM_CNT.CE,
      AT.VIO_STATUS.FIRST_VALID, AT.VIO_FIRST_ADDR, AT.VIO_FIRST_INFO.MASTER, AT.VIO_FIRST_TIME, AT.VIO_LATEST_ADDR,
      AT.VIO_LATEST_INFO.INFO, AT.VIO_LATEST_TIME, REC.QUEUE.VALUE, REC.EVT_TOTAL] ga) (hq : ¬InSet .direct ga) :
    regAt (State.tachCorrect s t_ stamp).regs ga = regAt s.regs ga := by
  simp only [Off_cons, Off_nil] at ho
  simp [State.tachCorrect, ho, hq]
@[simp] theorem State.tachPulse_regs (s : State) (k : Nat) (stamp : Nat) (ga : Nat) (ho : Off [TB.SPEED.SPEED, TB.ANGLE, TB.STAMP, TB.STATUS.STATE, SCH.TARGET, SCH.PRED, SCH.RESID.RESID, SCH.STATUS.STATE,
      BAB.IN_STATUS.STATE, BAB.IN_POS, MEM.CH_RETIRE.RETIRE, MEM.ECC_STATUS.CE, MEM.UE_FIRST_ADDR, MEM.UE_FIRST_INFO.MASTER,
      MEM.UE_FIRST_TIME, MEM.UE_LATEST_ADDR, MEM.UE_LATEST_INFO.INFO, MEM.UE_LATEST_TIME, MEM.CH_CNT.CE, MEM.SRAM_CNT.CE,
      AT.VIO_STATUS.FIRST_VALID, AT.VIO_FIRST_ADDR, AT.VIO_FIRST_INFO.MASTER, AT.VIO_FIRST_TIME, AT.VIO_LATEST_ADDR,
      AT.VIO_LATEST_INFO.INFO, AT.VIO_LATEST_TIME, REC.QUEUE.VALUE, REC.EVT_TOTAL] ga) (hq : ¬InSet .direct ga) :
    regAt (State.tachPulse s k stamp).regs ga = regAt s.regs ga := by
  simp only [Off_cons, Off_nil] at ho
  simp [State.tachPulse, ho, hq]
@[simp] theorem State.ssiUpdate_regs (s : State) (k : Nat) (ang : Int) (stamp : Nat) (ga : Nat) (ho : Off [TB.SPEED.SPEED, TB.ANGLE, TB.STAMP, TB.STATUS.STATE, SCH.TARGET, SCH.PRED, SCH.RESID.RESID, SCH.STATUS.STATE,
      BAB.IN_STATUS.STATE, BAB.IN_POS, MEM.CH_RETIRE.RETIRE, MEM.ECC_STATUS.CE, MEM.UE_FIRST_ADDR, MEM.UE_FIRST_INFO.MASTER,
      MEM.UE_FIRST_TIME, MEM.UE_LATEST_ADDR, MEM.UE_LATEST_INFO.INFO, MEM.UE_LATEST_TIME, MEM.CH_CNT.CE, MEM.SRAM_CNT.CE,
      AT.VIO_STATUS.FIRST_VALID, AT.VIO_FIRST_ADDR, AT.VIO_FIRST_INFO.MASTER, AT.VIO_FIRST_TIME, AT.VIO_LATEST_ADDR,
      AT.VIO_LATEST_INFO.INFO, AT.VIO_LATEST_TIME, REC.QUEUE.VALUE, REC.EVT_TOTAL] ga) (hq : ¬InSet .direct ga) :
    regAt (State.ssiUpdate s k ang stamp).regs ga = regAt s.regs ga := by
  simp only [Off_cons, Off_nil] at ho
  simp [State.ssiUpdate, ho, hq]
@[simp] theorem State.lsyncUpdate_regs (s : State) (stamp : Nat) (p : Nat) (ga : Nat) (ho : Off [TB.SPEED.SPEED, TB.ANGLE, TB.STAMP, TB.STATUS.STATE, SCH.TARGET, SCH.PRED, SCH.RESID.RESID, SCH.STATUS.STATE,
      BAB.IN_STATUS.STATE, BAB.IN_POS, MEM.CH_RETIRE.RETIRE, MEM.ECC_STATUS.CE, MEM.UE_FIRST_ADDR, MEM.UE_FIRST_INFO.MASTER,
      MEM.UE_FIRST_TIME, MEM.UE_LATEST_ADDR, MEM.UE_LATEST_INFO.INFO, MEM.UE_LATEST_TIME, MEM.CH_CNT.CE, MEM.SRAM_CNT.CE,
      AT.VIO_STATUS.FIRST_VALID, AT.VIO_FIRST_ADDR, AT.VIO_FIRST_INFO.MASTER, AT.VIO_FIRST_TIME, AT.VIO_LATEST_ADDR,
      AT.VIO_LATEST_INFO.INFO, AT.VIO_LATEST_TIME, REC.QUEUE.VALUE, REC.EVT_TOTAL] ga) (hq : ¬InSet .direct ga) :
    regAt (State.lsyncUpdate s stamp p).regs ga = regAt s.regs ga := by
  simp only [Off_cons, Off_nil] at ho
  simp [State.lsyncUpdate, ho, hq]
@[simp] theorem State.lsyncRef_regs (s : State) (stamp : Nat) (q : Option Nat) (p : Nat) (ga : Nat) (ho : Off [IOS.LSYNC_PERIOD.PERIOD] ga) :
    regAt (State.lsyncRef s stamp q p).regs ga = regAt s.regs ga := by
  simp only [Off_cons, Off_nil] at ho
  simp [State.lsyncRef, ho]
@[simp] theorem State.fxTachCfg_regs (s : State) (k : Nat) (v : Nat) (ga : Nat) (ho : Off [IOS.TACH_CFG.EN] ga) :
    regAt (State.fxTachCfg s k v).1.regs ga = regAt s.regs ga := by
  simp only [Off_cons, Off_nil] at ho
  simp [State.fxTachCfg, ho]
@[simp] theorem State.fxLsyncCfg_regs (s : State) (v : Nat) (ga : Nat) (ho : Off [IOS.LSYNC_CFG.EN, IOS.LSYNC_PERIOD.PERIOD] ga) :
    regAt (State.fxLsyncCfg s v).1.regs ga = regAt s.regs ga := by
  simp only [Off_cons, Off_nil] at ho
  simp [State.fxLsyncCfg, ho]

end Sys2Proof.Machine
end

