-- ==== Sys2Proof/Laws/Frame4.lean ====
section
/-!
SUPPORT. Which registers the operations of Axis, FrameEnd change: every register of another field keeps its value.
-/
set_option linter.all false
namespace Sys2Proof.Machine
open Sys2Proof.Safety

@[simp] theorem State.cmtState_regs (s : State) (n : Nat) (st : Nat) (ga : Nat) (ho : Off [AX.CMT_STATUS.STATE] ga) :
    regAt (State.cmtState s n st).regs ga = regAt s.regs ga := by
  simp only [Off_cons, Off_nil] at ho
  simp [State.cmtState, ho]
@[simp] theorem State.startEnd_regs (s : State) (n : Nat) (result : Nat) (ga : Nat) (ho : Off [AX.CMT_STATUS.STATE, REC.QUEUE.VALUE, REC.EVT_TOTAL] ga) :
    regAt (State.startEnd s n result).regs ga = regAt s.regs ga := by
  simp only [Off_cons, Off_nil] at ho
  simp [State.startEnd, ho]
@[simp] theorem State.windowDrop_regs (s : State) (n : Nat) (ga : Nat) (ho : Off [AX.CMT_STATUS.STATE] ga) :
    regAt (State.windowDrop s n).regs ga = regAt s.regs ga := by
  simp only [Off_cons, Off_nil] at ho
  unfold State.windowDrop; split <;> simp [ho]
@[simp] theorem State.axisOff_regs (s : State) (n : Nat) (asc : Nat) (result : Nat) (ga : Nat) (ho : Off [AX.PWM_CTRL.EN, AX.CMT_STATUS.STATE, REC.QUEUE.VALUE, REC.EVT_TOTAL] ga) :
    regAt (State.axisOff s n asc result).regs ga = regAt s.regs ga := by
  simp only [Off_cons, Off_nil] at ho
  simp [State.axisOff, ho]
@[simp] theorem State.axisSto_regs (s : State) (n : Nat) (ga : Nat) (ho : Off [TB.SPEED.SPEED, TB.ANGLE, TB.STAMP, TB.STATUS.STATE, SCH.TARGET, SCH.PRED, SCH.RESID.RESID, SCH.STATUS.STATE,
      AX.PWM_CTRL.EN, AX.CMT_STATUS.STATE, AX.SAF_STATUS.STATE, BAB.IN_STATUS.STATE, BAB.IN_POS, MEM.CH_RETIRE.RETIRE,
      MEM.ECC_STATUS.CE, MEM.UE_FIRST_ADDR, MEM.UE_FIRST_INFO.MASTER, MEM.UE_FIRST_TIME, MEM.UE_LATEST_ADDR,
      MEM.UE_LATEST_INFO.INFO, MEM.UE_LATEST_TIME, MEM.CH_CNT.CE, MEM.SRAM_CNT.CE, AT.VIO_STATUS.FIRST_VALID,
      AT.VIO_FIRST_ADDR, AT.VIO_FIRST_INFO.MASTER, AT.VIO_FIRST_TIME, AT.VIO_LATEST_ADDR, AT.VIO_LATEST_INFO.INFO,
      AT.VIO_LATEST_TIME, REC.QUEUE.VALUE, REC.EVT_TOTAL] ga) (hq : ¬InSet .direct ga) :
    regAt (State.axisSto s n).regs ga = regAt s.regs ga := by
  simp only [Off_cons, Off_nil] at ho
  simp [State.axisSto, ho, hq]
@[simp] theorem State.stoOutputs_regs (s : State) (ga : Nat) :
    regAt (State.stoOutputs s).regs ga = regAt s.regs ga := by
  simp [State.stoOutputs]
@[simp] theorem State.stoSet_regs (s : State) (code : Nat) (gs : List Nat) (ga : Nat) (ho : Off [TB.SPEED.SPEED, TB.ANGLE, TB.STAMP, TB.STATUS.STATE, SCH.TARGET, SCH.PRED, SCH.RESID.RESID, SCH.STATUS.STATE,
      AX.PWM_CTRL.EN, AX.CMT_STATUS.STATE, AX.SAF_STATUS.STATE, BAB.IN_STATUS.STATE, BAB.IN_POS, MEM.CH_RETIRE.RETIRE,
      MEM.ECC_STATUS.CE, MEM.UE_FIRST_ADDR, MEM.UE_FIRST_INFO.MASTER, MEM.UE_FIRST_TIME, MEM.UE_LATEST_ADDR,
      MEM.UE_LATEST_INFO.INFO, MEM.UE_LATEST_TIME, MEM.CH_CNT.CE, MEM.SRAM_CNT.CE, AT.VIO_STATUS.FIRST_VALID,
      AT.VIO_FIRST_ADDR, AT.VIO_FIRST_INFO.MASTER, AT.VIO_FIRST_TIME, AT.VIO_LATEST_ADDR, AT.VIO_LATEST_INFO.INFO,
      AT.VIO_LATEST_TIME, SAF.GROUP_STATE.LOW, REC.QUEUE.VALUE, REC.EVT_TOTAL] ga) (hq : ¬InSet .direct ga) :
    regAt (s.stoSet code gs).regs ga = regAt s.regs ga := by
  simp only [Off_cons, Off_nil] at ho
  have h : ∀ (s : State) (new : List Nat), regAt (if new = [] then s else s.twinSend pkSafety (Config.linkBytes pkSafety (1 :: new))).regs ga = regAt s.regs ga := by
    intro s new; split <;> simp [ho, hq]
  unfold State.stoSet
  dsimp only
  rw [State.stoOutputs_regs, forEach_off _ _ _ _ (fun s g => by simp [ho, hq]), h]
@[simp] theorem State.stoEval_regs (s : State) (code : Nat) (ga : Nat) (ho : Off [TB.SPEED.SPEED, TB.ANGLE, TB.STAMP, TB.STATUS.STATE, SCH.TARGET, SCH.PRED, SCH.RESID.RESID, SCH.STATUS.STATE,
      AX.PWM_CTRL.EN, AX.CMT_STATUS.STATE, AX.SAF_STATUS.STATE, BAB.IN_STATUS.STATE, BAB.IN_POS, MEM.CH_RETIRE.RETIRE,
      MEM.ECC_STATUS.CE, MEM.UE_FIRST_ADDR, MEM.UE_FIRST_INFO.MASTER, MEM.UE_FIRST_TIME, MEM.UE_LATEST_ADDR,
      MEM.UE_LATEST_INFO.INFO, MEM.UE_LATEST_TIME, MEM.CH_CNT.CE, MEM.SRAM_CNT.CE, AT.VIO_STATUS.FIRST_VALID,
      AT.VIO_FIRST_ADDR, AT.VIO_FIRST_INFO.MASTER, AT.VIO_FIRST_TIME, AT.VIO_LATEST_ADDR, AT.VIO_LATEST_INFO.INFO,
      AT.VIO_LATEST_TIME, SAF.GROUP_STATE.LOW, REC.QUEUE.VALUE, REC.EVT_TOTAL] ga) (hq : ¬InSet .direct ga) :
    regAt (State.stoEval s code).regs ga = regAt s.regs ga := by
  simp only [Off_cons, Off_nil] at ho
  simp [State.stoEval, ho, hq]
@[simp] theorem State.axStoReq_regs (s : State) (n : Nat) (code : Nat) (ga : Nat) (ho : Off [TB.SPEED.SPEED, TB.ANGLE, TB.STAMP, TB.STATUS.STATE, SCH.TARGET, SCH.PRED, SCH.RESID.RESID, SCH.STATUS.STATE,
      AX.PWM_CTRL.EN, AX.CMT_STATUS.STATE, AX.SAF_STATUS.STATE, BAB.IN_STATUS.STATE, BAB.IN_POS, MEM.CH_RETIRE.RETIRE,
      MEM.ECC_STATUS.CE, MEM.UE_FIRST_ADDR, MEM.UE_FIRST_INFO.MASTER, MEM.UE_FIRST_TIME, MEM.UE_LATEST_ADDR,
      MEM.UE_LATEST_INFO.INFO, MEM.UE_LATEST_TIME, MEM.CH_CNT.CE, MEM.SRAM_CNT.CE, AT.VIO_STATUS.FIRST_VALID,
      AT.VIO_FIRST_ADDR, AT.VIO_FIRST_INFO.MASTER, AT.VIO_FIRST_TIME, AT.VIO_LATEST_ADDR, AT.VIO_LATEST_INFO.INFO,
      AT.VIO_LATEST_TIME, SAF.GROUP_STATE.LOW, REC.QUEUE.VALUE, REC.EVT_TOTAL] ga) (hq : ¬InSet .direct ga) :
    regAt (State.axStoReq s n code).regs ga = regAt s.regs ga := by
  simp only [Off_cons, Off_nil] at ho
  simp [State.axStoReq, ho, hq]
@[simp] theorem State.ss1Start_regs (s : State) (n : Nat) (code : Nat) (ga : Nat) (ho : Off [TB.SPEED.SPEED, TB.ANGLE, TB.STAMP, TB.STATUS.STATE, SCH.TARGET, SCH.PRED, SCH.RESID.RESID, SCH.STATUS.STATE,
      AX.PWM_CTRL.EN, AX.FOC_CTRL.RUN, AX.CMT_STATUS.STATE, AX.SAF_STATUS.STATE, BAB.IN_STATUS.STATE, BAB.IN_POS,
      MEM.CH_RETIRE.RETIRE, MEM.ECC_STATUS.CE, MEM.UE_FIRST_ADDR, MEM.UE_FIRST_INFO.MASTER, MEM.UE_FIRST_TIME,
      MEM.UE_LATEST_ADDR, MEM.UE_LATEST_INFO.INFO, MEM.UE_LATEST_TIME, MEM.CH_CNT.CE, MEM.SRAM_CNT.CE,
      AT.VIO_STATUS.FIRST_VALID, AT.VIO_FIRST_ADDR, AT.VIO_FIRST_INFO.MASTER, AT.VIO_FIRST_TIME, AT.VIO_LATEST_ADDR,
      AT.VIO_LATEST_INFO.INFO, AT.VIO_LATEST_TIME, SAF.GROUP_STATE.LOW, REC.QUEUE.VALUE, REC.EVT_TOTAL] ga) (hq : ¬InSet .direct ga) :
    regAt (State.ss1Start s n code).regs ga = regAt s.regs ga := by
  simp only [Off_cons, Off_nil] at ho
  simp [State.ss1Start, ho, hq]
@[simp] theorem State.react_regs (s : State) (n : Nat) (code : Nat) (r : Nat) (ga : Nat) (ho : Off [TB.SPEED.SPEED, TB.ANGLE, TB.STAMP, TB.STATUS.STATE, SCH.TARGET, SCH.PRED, SCH.RESID.RESID, SCH.STATUS.STATE,
      AX.PWM_CTRL.EN, AX.FOC_CTRL.RUN, AX.SPD_DERATE.TQ, AX.CMT_STATUS.STATE, AX.SAF_STATUS.STATE, BAB.IN_STATUS.STATE,
      BAB.IN_POS, MEM.CH_RETIRE.RETIRE, MEM.ECC_STATUS.CE, MEM.UE_FIRST_ADDR, MEM.UE_FIRST_INFO.MASTER, MEM.UE_FIRST_TIME,
      MEM.UE_LATEST_ADDR, MEM.UE_LATEST_INFO.INFO, MEM.UE_LATEST_TIME, MEM.CH_CNT.CE, MEM.SRAM_CNT.CE,
      AT.VIO_STATUS.FIRST_VALID, AT.VIO_FIRST_ADDR, AT.VIO_FIRST_INFO.MASTER, AT.VIO_FIRST_TIME, AT.VIO_LATEST_ADDR,
      AT.VIO_LATEST_INFO.INFO, AT.VIO_LATEST_TIME, SAF.GROUP_STATE.LOW, REC.QUEUE.VALUE, REC.EVT_TOTAL] ga) (hq : ¬InSet .direct ga) :
    regAt (State.react s n code r).regs ga = regAt s.regs ga := by
  simp only [Off_cons, Off_nil] at ho
  simp [State.react, ho, hq]
@[simp] theorem State.faultShow_regs (s : State) (f : FaultH) (ga : Nat) (ho : Off [SAF.STATUS.STATE, SAF.FAULT_LAST.CODE, SAF.FAULT_TIME, REC.QUEUE.VALUE, REC.EVT_TOTAL] ga) :
    regAt (State.faultShow s f).regs ga = regAt s.regs ga := by
  simp only [Off_cons, Off_nil] at ho
  simp [State.faultShow, ho]
@[simp] theorem State.faultTake_regs (s : State) (fs : List FaultH) (ga : Nat) (ho : Off [TB.SPEED.SPEED, TB.ANGLE, TB.STAMP, TB.STATUS.STATE, SCH.TARGET, SCH.PRED, SCH.RESID.RESID, SCH.STATUS.STATE,
      AX.PWM_CTRL.EN, AX.FOC_CTRL.RUN, AX.SPD_DERATE.TQ, AX.CMT_STATUS.STATE, AX.SAF_STATUS.STATE, BAB.IN_STATUS.STATE,
      BAB.IN_POS, MEM.CH_RETIRE.RETIRE, MEM.ECC_STATUS.CE, MEM.UE_FIRST_ADDR, MEM.UE_FIRST_INFO.MASTER, MEM.UE_FIRST_TIME,
      MEM.UE_LATEST_ADDR, MEM.UE_LATEST_INFO.INFO, MEM.UE_LATEST_TIME, MEM.CH_CNT.CE, MEM.SRAM_CNT.CE,
      AT.VIO_STATUS.FIRST_VALID, AT.VIO_FIRST_ADDR, AT.VIO_FIRST_INFO.MASTER, AT.VIO_FIRST_TIME, AT.VIO_LATEST_ADDR,
      AT.VIO_LATEST_INFO.INFO, AT.VIO_LATEST_TIME, SAF.STATUS.STATE, SAF.GROUP_STATE.LOW, SAF.FAULT_LAST.CODE,
      SAF.FAULT_TIME, REC.QUEUE.VALUE, REC.EVT_TOTAL] ga) (hq : ¬InSet .direct ga) :
    regAt (State.faultTake s fs).regs ga = regAt s.regs ga := by
  simp only [Off_cons, Off_nil] at ho
  simp [State.faultTake, ho, hq]
@[simp] theorem State.faultRaise_regs (s : State) (f : FaultH) (ga : Nat) (ho : Off [TB.SPEED.SPEED, TB.ANGLE, TB.STAMP, TB.STATUS.STATE, SCH.TARGET, SCH.PRED, SCH.RESID.RESID, SCH.STATUS.STATE,
      AX.PWM_CTRL.EN, AX.FOC_CTRL.RUN, AX.SPD_DERATE.TQ, AX.CMT_STATUS.STATE, AX.SAF_STATUS.STATE, BAB.IN_STATUS.STATE,
      BAB.IN_POS, MEM.CH_RETIRE.RETIRE, MEM.ECC_STATUS.CE, MEM.UE_FIRST_ADDR, MEM.UE_FIRST_INFO.MASTER, MEM.UE_FIRST_TIME,
      MEM.UE_LATEST_ADDR, MEM.UE_LATEST_INFO.INFO, MEM.UE_LATEST_TIME, MEM.CH_CNT.CE, MEM.SRAM_CNT.CE,
      AT.VIO_STATUS.FIRST_VALID, AT.VIO_FIRST_ADDR, AT.VIO_FIRST_INFO.MASTER, AT.VIO_FIRST_TIME, AT.VIO_LATEST_ADDR,
      AT.VIO_LATEST_INFO.INFO, AT.VIO_LATEST_TIME, SAF.STATUS.STATE, SAF.GROUP_STATE.LOW, SAF.FAULT_LAST.CODE,
      SAF.FAULT_TIME, REC.QUEUE.VALUE, REC.EVT_TOTAL] ga) (hq : ¬InSet .direct ga) :
    regAt (State.faultRaise s f).regs ga = regAt s.regs ga := by
  simp only [Off_cons, Off_nil] at ho
  simp [State.faultRaise, ho, hq]
@[simp] theorem State.axFault_regs (s : State) (n : Nat) (code : Nat) (unit : Nat) (r : Nat) (ga : Nat) (ho : Off [TB.SPEED.SPEED, TB.ANGLE, TB.STAMP, TB.STATUS.STATE, SCH.TARGET, SCH.PRED, SCH.RESID.RESID, SCH.STATUS.STATE,
      AX.PWM_CTRL.EN, AX.FOC_CTRL.RUN, AX.SPD_DERATE.TQ, AX.CMT_STATUS.STATE, AX.SAF_STATUS.STATE, BAB.IN_STATUS.STATE,
      BAB.IN_POS, MEM.CH_RETIRE.RETIRE, MEM.ECC_STATUS.CE, MEM.UE_FIRST_ADDR, MEM.UE_FIRST_INFO.MASTER, MEM.UE_FIRST_TIME,
      MEM.UE_LATEST_ADDR, MEM.UE_LATEST_INFO.INFO, MEM.UE_LATEST_TIME, MEM.CH_CNT.CE, MEM.SRAM_CNT.CE,
      AT.VIO_STATUS.FIRST_VALID, AT.VIO_FIRST_ADDR, AT.VIO_FIRST_INFO.MASTER, AT.VIO_FIRST_TIME, AT.VIO_LATEST_ADDR,
      AT.VIO_LATEST_INFO.INFO, AT.VIO_LATEST_TIME, SAF.STATUS.STATE, SAF.GROUP_STATE.LOW, SAF.FAULT_LAST.CODE,
      SAF.FAULT_TIME, REC.QUEUE.VALUE, REC.EVT_TOTAL] ga) (hq : ¬InSet .direct ga) :
    regAt (State.axFault s n code unit r).regs ga = regAt s.regs ga := by
  simp only [Off_cons, Off_nil] at ho
  simp [State.axFault, ho, hq]
@[simp] theorem State.fault_regs (s : State) (code : Nat) (unit : Nat) (r : Nat) (ax : List Nat) (ga : Nat) (ho : Off [TB.SPEED.SPEED, TB.ANGLE, TB.STAMP, TB.STATUS.STATE, SCH.TARGET, SCH.PRED, SCH.RESID.RESID, SCH.STATUS.STATE,
      AX.PWM_CTRL.EN, AX.FOC_CTRL.RUN, AX.SPD_DERATE.TQ, AX.CMT_STATUS.STATE, AX.SAF_STATUS.STATE, BAB.IN_STATUS.STATE,
      BAB.IN_POS, MEM.CH_RETIRE.RETIRE, MEM.ECC_STATUS.CE, MEM.UE_FIRST_ADDR, MEM.UE_FIRST_INFO.MASTER, MEM.UE_FIRST_TIME,
      MEM.UE_LATEST_ADDR, MEM.UE_LATEST_INFO.INFO, MEM.UE_LATEST_TIME, MEM.CH_CNT.CE, MEM.SRAM_CNT.CE,
      AT.VIO_STATUS.FIRST_VALID, AT.VIO_FIRST_ADDR, AT.VIO_FIRST_INFO.MASTER, AT.VIO_FIRST_TIME, AT.VIO_LATEST_ADDR,
      AT.VIO_LATEST_INFO.INFO, AT.VIO_LATEST_TIME, SAF.STATUS.STATE, SAF.GROUP_STATE.LOW, SAF.FAULT_LAST.CODE,
      SAF.FAULT_TIME, REC.QUEUE.VALUE, REC.EVT_TOTAL] ga) (hq : ¬InSet .direct ga) :
    regAt (State.fault s code unit r ax).regs ga = regAt s.regs ga := by
  simp only [Off_cons, Off_nil] at ho
  simp [State.fault, ho, hq]
@[simp] theorem State.groupFault_regs (s : State) (code : Nat) (unit : Nat) (gs : List Nat) (ga : Nat) (ho : Off [TB.SPEED.SPEED, TB.ANGLE, TB.STAMP, TB.STATUS.STATE, SCH.TARGET, SCH.PRED, SCH.RESID.RESID, SCH.STATUS.STATE,
      AX.PWM_CTRL.EN, AX.FOC_CTRL.RUN, AX.SPD_DERATE.TQ, AX.CMT_STATUS.STATE, AX.SAF_STATUS.STATE, BAB.IN_STATUS.STATE,
      BAB.IN_POS, MEM.CH_RETIRE.RETIRE, MEM.ECC_STATUS.CE, MEM.UE_FIRST_ADDR, MEM.UE_FIRST_INFO.MASTER, MEM.UE_FIRST_TIME,
      MEM.UE_LATEST_ADDR, MEM.UE_LATEST_INFO.INFO, MEM.UE_LATEST_TIME, MEM.CH_CNT.CE, MEM.SRAM_CNT.CE,
      AT.VIO_STATUS.FIRST_VALID, AT.VIO_FIRST_ADDR, AT.VIO_FIRST_INFO.MASTER, AT.VIO_FIRST_TIME, AT.VIO_LATEST_ADDR,
      AT.VIO_LATEST_INFO.INFO, AT.VIO_LATEST_TIME, SAF.STATUS.STATE, SAF.GROUP_STATE.LOW, SAF.FAULT_LAST.CODE,
      SAF.FAULT_TIME, REC.QUEUE.VALUE, REC.EVT_TOTAL] ga) (hq : ¬InSet .direct ga) :
    regAt (State.groupFault s code unit gs).regs ga = regAt s.regs ga := by
  simp only [Off_cons, Off_nil] at ho
  simp [State.groupFault, ho, hq]
@[simp] theorem State.causeEnded_regs (s : State) (n : Nat) (code : Nat) (ga : Nat) :
    regAt (State.causeEnded s n code).regs ga = regAt s.regs ga := by
  simp [State.causeEnded]
@[simp] theorem State.segCause_regs (s : State) (b : Nat) (code : Nat) (n : Nat) (ga : Nat) :
    regAt (State.segCause s b code n).regs ga = regAt s.regs ga := by
  simp [State.segCause]
@[simp] theorem State.segEnded_regs (s : State) (b : Nat) (code : Nat) (ga : Nat) :
    regAt (State.segEnded s b code).regs ga = regAt s.regs ga := by
  simp [State.segEnded]
@[simp] theorem State.segFault_regs (s : State) (code : Nat) (b : Nat) (r : Nat) (ax : List Nat) (ga : Nat) (ho : Off [TB.SPEED.SPEED, TB.ANGLE, TB.STAMP, TB.STATUS.STATE, SCH.TARGET, SCH.PRED, SCH.RESID.RESID, SCH.STATUS.STATE,
      AX.PWM_CTRL.EN, AX.FOC_CTRL.RUN, AX.SPD_DERATE.TQ, AX.CMT_STATUS.STATE, AX.SAF_STATUS.STATE, BAB.IN_STATUS.STATE,
      BAB.IN_POS, MEM.CH_RETIRE.RETIRE, MEM.ECC_STATUS.CE, MEM.UE_FIRST_ADDR, MEM.UE_FIRST_INFO.MASTER, MEM.UE_FIRST_TIME,
      MEM.UE_LATEST_ADDR, MEM.UE_LATEST_INFO.INFO, MEM.UE_LATEST_TIME, MEM.CH_CNT.CE, MEM.SRAM_CNT.CE,
      AT.VIO_STATUS.FIRST_VALID, AT.VIO_FIRST_ADDR, AT.VIO_FIRST_INFO.MASTER, AT.VIO_FIRST_TIME, AT.VIO_LATEST_ADDR,
      AT.VIO_LATEST_INFO.INFO, AT.VIO_LATEST_TIME, SAF.STATUS.STATE, SAF.GROUP_STATE.LOW, SAF.FAULT_LAST.CODE,
      SAF.FAULT_TIME, REC.QUEUE.VALUE, REC.EVT_TOTAL] ga) (hq : ¬InSet .direct ga) :
    regAt (State.segFault s code b r ax).regs ga = regAt s.regs ga := by
  simp only [Off_cons, Off_nil] at ho
  simp [State.segFault, ho, hq]
@[simp] theorem State.fxSpdDerate_regs (s : State) (n : Nat) (v : Nat) (ga : Nat) (ho : Off [AX.SPD_DERATE.TQ] ga) :
    regAt (State.fxSpdDerate s n v).1.regs ga = regAt s.regs ga := by
  simp only [Off_cons, Off_nil] at ho
  simp [State.fxSpdDerate, ho]
@[simp] theorem State.drainQueues_regs (s : State) (c : Nat) (ga : Nat) (ho : Off [Q.TAKE.TAKE, Q.RET.RET, Q.CREDITS.CREDITS, Q.STATUS.NO_CREDIT, Q.SLOTS.POST_SLOT] ga) :
    regAt (s.drainQueues c).regs ga = regAt s.regs ga := by
  simp only [Off_cons, Off_nil] at ho
  unfold State.drainQueues
  refine forEach_off _ _ _ _ fun s q => ?_
  simp [ho]
@[simp] theorem State.dropTiles_regs (s : State) (c : Nat) (ga : Nat) (ho : Off [ENG.STATUS.HOSTS] ga) :
    regAt (State.dropTiles s c).regs ga = regAt s.regs ga := by
  simp only [Off_cons, Off_nil] at ho
  simp [State.dropTiles, ho]
@[simp] theorem State.snapWrite_regs (s : State) (c : Nat) (ga : Nat) (ho : Off [MEM.CH_RETIRE.RETIRE, MEM.ECC_STATUS.CE, MEM.UE_FIRST_ADDR, MEM.UE_FIRST_INFO.MASTER, MEM.UE_FIRST_TIME,
      MEM.UE_LATEST_ADDR, MEM.UE_LATEST_INFO.INFO, MEM.UE_LATEST_TIME, MEM.CH_CNT.CE, MEM.SRAM_CNT.CE,
      AT.VIO_STATUS.FIRST_VALID, AT.VIO_FIRST_ADDR, AT.VIO_FIRST_INFO.MASTER, AT.VIO_FIRST_TIME, AT.VIO_LATEST_ADDR,
      AT.VIO_LATEST_INFO.INFO, AT.VIO_LATEST_TIME, REC.QUEUE.VALUE, REC.EVT_TOTAL] ga) (hq : ¬InSet .direct ga) :
    regAt (State.snapWrite s c).1.regs ga = regAt s.regs ga := by
  simp only [Off_cons, Off_nil] at ho
  unfold State.snapWrite; (try dsimp only); (repeat' (split <;> try (rename_i heq; have hs := congrArg (fun x => x.1) heq; simp only at hs; subst hs))) <;> simp [ho, hq]
@[simp] theorem State.frameHeld_regs (s : State) (c : Nat) (p : Prog) (f : Frame) (ga : Nat) (ho : Off [MEM.CH_RETIRE.RETIRE, MEM.ECC_STATUS.CE, MEM.UE_FIRST_ADDR, MEM.UE_FIRST_INFO.MASTER, MEM.UE_FIRST_TIME,
      MEM.UE_LATEST_ADDR, MEM.UE_LATEST_INFO.INFO, MEM.UE_LATEST_TIME, MEM.CH_CNT.CE, MEM.SRAM_CNT.CE,
      AT.VIO_STATUS.FIRST_VALID, AT.VIO_FIRST_ADDR, AT.VIO_FIRST_INFO.MASTER, AT.VIO_FIRST_TIME, AT.VIO_LATEST_ADDR,
      AT.VIO_LATEST_INFO.INFO, AT.VIO_LATEST_TIME, REC.QUEUE.VALUE, REC.EVT_TOTAL] ga) (hq : ¬InSet .direct ga) :
    regAt (State.frameHeld s c p f).regs ga = regAt s.regs ga := by
  simp only [Off_cons, Off_nil] at ho
  simp [State.frameHeld, ho, hq]
@[simp] theorem State.frameTrace_regs (s : State) (c : Nat) (code : Nat) (p : Prog) (f : Frame) (dig : List Nat) (ga : Nat) (ho : Off [CTX.TRACE_CTRL.ARM, MEM.CH_RETIRE.RETIRE, MEM.ECC_STATUS.CE, MEM.UE_FIRST_ADDR, MEM.UE_FIRST_INFO.MASTER,
      MEM.UE_FIRST_TIME, MEM.UE_LATEST_ADDR, MEM.UE_LATEST_INFO.INFO, MEM.UE_LATEST_TIME, MEM.CH_CNT.CE, MEM.SRAM_CNT.CE,
      AT.VIO_STATUS.FIRST_VALID, AT.VIO_FIRST_ADDR, AT.VIO_FIRST_INFO.MASTER, AT.VIO_FIRST_TIME, AT.VIO_LATEST_ADDR,
      AT.VIO_LATEST_INFO.INFO, AT.VIO_LATEST_TIME, REC.QUEUE.VALUE, REC.EVT_TOTAL] ga) (hq : ¬InSet .direct ga) :
    regAt (State.frameTrace s c code p f dig).regs ga = regAt s.regs ga := by
  simp only [Off_cons, Off_nil] at ho
  simp [State.frameTrace, ho, hq]
@[simp] theorem State.frameOut_regs (s : State) (c : Nat) (code : Nat) (fl : Nat) (p : Prog) (f : Frame) (dig : List Nat) (ga : Nat) (ho : Off [CTX.Q_STATUS.CLIP_ALARM, CTX.Q_CLIP.CNT, CTX.Q_ELEM.CNT, CTX.Q_NAN.CNT, CTX.Q_DEV.CNT, CTX.Q_WORST.SHARE,
      CTX.Q_HIST.FILL_MIN, CTX.Q_CLIP_TOT, CTX.Q_ELEM_TOT, CTX.Q_NAN_TOT, CTX.TRACE_CTRL.ARM, MEM.CH_RETIRE.RETIRE,
      MEM.ECC_STATUS.CE, MEM.UE_FIRST_ADDR, MEM.UE_FIRST_INFO.MASTER, MEM.UE_FIRST_TIME, MEM.UE_LATEST_ADDR,
      MEM.UE_LATEST_INFO.INFO, MEM.UE_LATEST_TIME, MEM.CH_CNT.CE, MEM.SRAM_CNT.CE, AT.VIO_STATUS.FIRST_VALID,
      AT.VIO_FIRST_ADDR, AT.VIO_FIRST_INFO.MASTER, AT.VIO_FIRST_TIME, AT.VIO_LATEST_ADDR, AT.VIO_LATEST_INFO.INFO,
      AT.VIO_LATEST_TIME, REC.QUEUE.VALUE, REC.EVT_TOTAL] ga) (hq : ¬InSet .direct ga) :
    regAt (State.frameOut s c code fl p f dig).regs ga = regAt s.regs ga := by
  simp only [Off_cons, Off_nil] at ho
  simp [State.frameOut, ho, hq]
@[simp] theorem State.frameRegs_regs (s : State) (c : Nat) (code : Nat) (fl : Nat) (f : Frame) (ga : Nat) (ho : Off [CTX.LAST_CODE.CODE, CTX.LAST_TRIG, CTX.LAST_DONE, CTX.CLK_LAST.CLK, CTX.CLK_MAX.CLK, REC.QUEUE.VALUE, REC.EVT_TOTAL] ga) :
    regAt (State.frameRegs s c code fl f).regs ga = regAt s.regs ga := by
  simp only [Off_cons, Off_nil] at ho
  simp [State.frameRegs, ho]
@[simp] theorem State.frameDesc_regs (s : State) (c : Nat) (code : Nat) (fl : Nat) (f : Frame) (ga : Nat) (ho : Off [Q.PROD.PROD, Q.CREDITS.CREDITS, Q.STATUS.NO_CREDIT, Q.LAST_POST, Q.POSTS.SEQ, Q.SLOTS.POST_SLOT, MEM.CH_RETIRE.RETIRE,
      MEM.ECC_STATUS.CE, MEM.UE_FIRST_ADDR, MEM.UE_FIRST_INFO.MASTER, MEM.UE_FIRST_TIME, MEM.UE_LATEST_ADDR,
      MEM.UE_LATEST_INFO.INFO, MEM.UE_LATEST_TIME, MEM.CH_CNT.CE, MEM.SRAM_CNT.CE, REC.QUEUE.VALUE, REC.EVT_TOTAL] ga) :
    regAt (State.frameDesc s c code fl f).regs ga = regAt s.regs ga := by
  simp only [Off_cons, Off_nil] at ho
  simp [State.frameDesc, ho]
@[simp] theorem State.frameSnap_regs (s : State) (c : Nat) (ga : Nat) (ho : Off [MEM.CH_RETIRE.RETIRE, MEM.ECC_STATUS.CE, MEM.UE_FIRST_ADDR, MEM.UE_FIRST_INFO.MASTER, MEM.UE_FIRST_TIME,
      MEM.UE_LATEST_ADDR, MEM.UE_LATEST_INFO.INFO, MEM.UE_LATEST_TIME, MEM.CH_CNT.CE, MEM.SRAM_CNT.CE,
      AT.VIO_STATUS.FIRST_VALID, AT.VIO_FIRST_ADDR, AT.VIO_FIRST_INFO.MASTER, AT.VIO_FIRST_TIME, AT.VIO_LATEST_ADDR,
      AT.VIO_LATEST_INFO.INFO, AT.VIO_LATEST_TIME, REC.QUEUE.VALUE, REC.EVT_TOTAL] ga) (hq : ¬InSet .direct ga) :
    regAt (State.frameSnap s c).regs ga = regAt s.regs ga := by
  simp only [Off_cons, Off_nil] at ho
  unfold State.frameSnap; split <;> simp [ho, hq]
@[simp] theorem State.frameNext_regs (s : State) (c : Nat) (num : Nat) (ga : Nat) (ho : Off [CTX.STATUS.STATE, CTX.FRAME.FRAME, TWN.STATUS.PAIRED, MEM.CH_RETIRE.RETIRE, MEM.ECC_STATUS.CE, MEM.UE_FIRST_ADDR,
      MEM.UE_FIRST_INFO.MASTER, MEM.UE_FIRST_TIME, MEM.UE_LATEST_ADDR, MEM.UE_LATEST_INFO.INFO, MEM.UE_LATEST_TIME,
      MEM.CH_CNT.CE, MEM.SRAM_CNT.CE, AT.VIO_STATUS.FIRST_VALID, AT.VIO_FIRST_ADDR, AT.VIO_FIRST_INFO.MASTER,
      AT.VIO_FIRST_TIME, AT.VIO_LATEST_ADDR, AT.VIO_LATEST_INFO.INFO, AT.VIO_LATEST_TIME, REC.QUEUE.VALUE, REC.EVT_TOTAL] ga) (hq : ¬InSet .direct ga) :
    regAt (State.frameNext s c num).regs ga = regAt s.regs ga := by
  simp only [Off_cons, Off_nil] at ho
  unfold State.frameNext; dsimp only; (repeat' split) <;> simp [ho, hq]
@[simp] theorem State.frameWrap_regs (s : State) (c : Nat) (code : Nat) (dig : Option (List Nat)) (ga : Nat) (ho : Off [CTX.STATUS.STATE, CTX.FRAME.FRAME, CTX.LAST_CODE.CODE, CTX.LAST_TRIG, CTX.LAST_DONE, CTX.CLK_LAST.CLK, CTX.CLK_MAX.CLK,
      CTX.Q_STATUS.CLIP_ALARM, CTX.Q_CLIP.CNT, CTX.Q_ELEM.CNT, CTX.Q_NAN.CNT, CTX.Q_DEV.CNT, CTX.Q_WORST.SHARE,
      CTX.Q_HIST.FILL_MIN, CTX.Q_CLIP_TOT, CTX.Q_ELEM_TOT, CTX.Q_NAN_TOT, CTX.TRACE_CTRL.ARM, Q.PROD.PROD, Q.CREDITS.CREDITS,
      Q.STATUS.NO_CREDIT, Q.LAST_POST, Q.POSTS.SEQ, Q.SLOTS.POST_SLOT, TWN.STATUS.PAIRED, MEM.CH_RETIRE.RETIRE,
      MEM.ECC_STATUS.CE, MEM.UE_FIRST_ADDR, MEM.UE_FIRST_INFO.MASTER, MEM.UE_FIRST_TIME, MEM.UE_LATEST_ADDR,
      MEM.UE_LATEST_INFO.INFO, MEM.UE_LATEST_TIME, MEM.CH_CNT.CE, MEM.SRAM_CNT.CE, AT.VIO_STATUS.FIRST_VALID,
      AT.VIO_FIRST_ADDR, AT.VIO_FIRST_INFO.MASTER, AT.VIO_FIRST_TIME, AT.VIO_LATEST_ADDR, AT.VIO_LATEST_INFO.INFO,
      AT.VIO_LATEST_TIME, REC.QUEUE.VALUE, REC.EVT_TOTAL] ga) (hq : ¬InSet .direct ga) :
    regAt (State.frameWrap s c code dig).regs ga = regAt s.regs ga := by
  simp only [Off_cons, Off_nil] at ho
  unfold State.frameWrap; split <;> simp [ho, hq]
@[simp] theorem State.frameFinish_regs (s : State) (c : Nat) (code : Nat) (dig : Option (List Nat)) (ga : Nat) (ho : Off [ENG.STATUS.HOSTS, CTX.STATUS.STATE, CTX.FRAME.FRAME, CTX.LAST_CODE.CODE, CTX.LAST_TRIG, CTX.LAST_DONE,
      CTX.CLK_LAST.CLK, CTX.CLK_MAX.CLK, CTX.Q_STATUS.CLIP_ALARM, CTX.Q_CLIP.CNT, CTX.Q_ELEM.CNT, CTX.Q_NAN.CNT,
      CTX.Q_DEV.CNT, CTX.Q_WORST.SHARE, CTX.Q_HIST.FILL_MIN, CTX.Q_CLIP_TOT, CTX.Q_ELEM_TOT, CTX.Q_NAN_TOT,
      CTX.TRACE_CTRL.ARM, Q.PROD.PROD, Q.TAKE.TAKE, Q.RET.RET, Q.CREDITS.CREDITS, Q.STATUS.NO_CREDIT, Q.LAST_POST,
      Q.POSTS.SEQ, Q.SLOTS.POST_SLOT, TWN.STATUS.PAIRED, MEM.CH_RETIRE.RETIRE, MEM.ECC_STATUS.CE, MEM.UE_FIRST_ADDR,
      MEM.UE_FIRST_INFO.MASTER, MEM.UE_FIRST_TIME, MEM.UE_LATEST_ADDR, MEM.UE_LATEST_INFO.INFO, MEM.UE_LATEST_TIME,
      MEM.CH_CNT.CE, MEM.SRAM_CNT.CE, AT.VIO_STATUS.FIRST_VALID, AT.VIO_FIRST_ADDR, AT.VIO_FIRST_INFO.MASTER,
      AT.VIO_FIRST_TIME, AT.VIO_LATEST_ADDR, AT.VIO_LATEST_INFO.INFO, AT.VIO_LATEST_TIME, REC.QUEUE.VALUE, REC.EVT_TOTAL] ga) (hq : ¬InSet .direct ga) :
    regAt (State.frameFinish s c code dig).regs ga = regAt s.regs ga := by
  simp only [Off_cons, Off_nil] at ho
  simp [State.frameFinish, ho, hq]
@[simp] theorem State.twinRerun_regs (s : State) (c : Nat) (ga : Nat) (ho : Off [ENG.STATUS.HOSTS, CTX.TRACE_CTRL.ARM, MEM.CH_RETIRE.RETIRE, MEM.ECC_STATUS.CE, MEM.UE_FIRST_ADDR,
      MEM.UE_FIRST_INFO.MASTER, MEM.UE_FIRST_TIME, MEM.UE_LATEST_ADDR, MEM.UE_LATEST_INFO.INFO, MEM.UE_LATEST_TIME,
      MEM.CH_CNT.CE, MEM.SRAM_CNT.CE, REC.QUEUE.VALUE, REC.EVT_TOTAL] ga) :
    regAt (State.twinRerun s c).regs ga = regAt s.regs ga := by
  simp only [Off_cons, Off_nil] at ho
  simp [State.twinRerun, ho]
@[simp] theorem State.twinJudge_regs (s : State) (c : Nat) (ga : Nat) (ho : Off [TB.SPEED.SPEED, TB.ANGLE, TB.STAMP, TB.STATUS.STATE, SCH.TARGET, SCH.PRED, SCH.RESID.RESID, SCH.STATUS.STATE,
      AX.PWM_CTRL.EN, AX.FOC_CTRL.RUN, AX.SPD_DERATE.TQ, AX.CMT_STATUS.STATE, AX.SAF_STATUS.STATE, ENG.STATUS.HOSTS,
      CTX.STATUS.STATE, CTX.FRAME.FRAME, CTX.LAST_CODE.CODE, CTX.LAST_TRIG, CTX.LAST_DONE, CTX.CLK_LAST.CLK, CTX.CLK_MAX.CLK,
      CTX.Q_STATUS.CLIP_ALARM, CTX.Q_CLIP.CNT, CTX.Q_ELEM.CNT, CTX.Q_NAN.CNT, CTX.Q_DEV.CNT, CTX.Q_WORST.SHARE,
      CTX.Q_HIST.FILL_MIN, CTX.Q_CLIP_TOT, CTX.Q_ELEM_TOT, CTX.Q_NAN_TOT, CTX.DIG_STATUS.HAS_U, CTX.TRACE_CTRL.ARM,
      CTX.TWIN_MISM_TIME, Q.PROD.PROD, Q.TAKE.TAKE, Q.RET.RET, Q.CREDITS.CREDITS, Q.STATUS.NO_CREDIT, Q.LAST_POST,
      Q.POSTS.SEQ, Q.SLOTS.POST_SLOT, BAB.IN_STATUS.STATE, BAB.IN_POS, TWN.STATUS.PAIRED, MEM.CH_RETIRE.RETIRE,
      MEM.ECC_STATUS.CE, MEM.UE_FIRST_ADDR, MEM.UE_FIRST_INFO.MASTER, MEM.UE_FIRST_TIME, MEM.UE_LATEST_ADDR,
      MEM.UE_LATEST_INFO.INFO, MEM.UE_LATEST_TIME, MEM.CH_CNT.CE, MEM.SRAM_CNT.CE, AT.VIO_STATUS.FIRST_VALID,
      AT.VIO_FIRST_ADDR, AT.VIO_FIRST_INFO.MASTER, AT.VIO_FIRST_TIME, AT.VIO_LATEST_ADDR, AT.VIO_LATEST_INFO.INFO,
      AT.VIO_LATEST_TIME, SAF.STATUS.STATE, SAF.GROUP_STATE.LOW, SAF.FAULT_LAST.CODE, SAF.FAULT_TIME, REC.QUEUE.VALUE,
      REC.EVT_TOTAL] ga) (hq : ¬InSet .direct ga) :
    regAt (State.twinJudge s c).regs ga = regAt s.regs ga := by
  simp only [Off_cons, Off_nil] at ho
  unfold State.twinJudge; dsimp only; (repeat' split) <;> simp [ho, hq]
@[simp] theorem State.twinLost_regs (s : State) (c : Nat) (ga : Nat) (ho : Off [TB.SPEED.SPEED, TB.ANGLE, TB.STAMP, TB.STATUS.STATE, SCH.TARGET, SCH.PRED, SCH.RESID.RESID, SCH.STATUS.STATE,
      AX.PWM_CTRL.EN, AX.FOC_CTRL.RUN, AX.SPD_DERATE.TQ, AX.CMT_STATUS.STATE, AX.SAF_STATUS.STATE, CTX.DIG_STATUS.HAS_U,
      BAB.IN_STATUS.STATE, BAB.IN_POS, TWN.STATUS.PAIRED, MEM.CH_RETIRE.RETIRE, MEM.ECC_STATUS.CE, MEM.UE_FIRST_ADDR,
      MEM.UE_FIRST_INFO.MASTER, MEM.UE_FIRST_TIME, MEM.UE_LATEST_ADDR, MEM.UE_LATEST_INFO.INFO, MEM.UE_LATEST_TIME,
      MEM.CH_CNT.CE, MEM.SRAM_CNT.CE, AT.VIO_STATUS.FIRST_VALID, AT.VIO_FIRST_ADDR, AT.VIO_FIRST_INFO.MASTER,
      AT.VIO_FIRST_TIME, AT.VIO_LATEST_ADDR, AT.VIO_LATEST_INFO.INFO, AT.VIO_LATEST_TIME, SAF.STATUS.STATE,
      SAF.GROUP_STATE.LOW, SAF.FAULT_LAST.CODE, SAF.FAULT_TIME, REC.QUEUE.VALUE, REC.EVT_TOTAL] ga) (hq : ¬InSet .direct ga) :
    regAt (State.twinLost s c).regs ga = regAt s.regs ga := by
  simp only [Off_cons, Off_nil] at ho
  simp [State.twinLost, ho, hq]
@[simp] theorem State.sendCompare_regs (s : State) (c : Nat) (f : Frame) (code : Nat) (digest : List Nat) (ga : Nat) :
    regAt (State.sendCompare s c f code digest).regs ga = regAt s.regs ga := by
  simp [State.sendCompare]
@[simp] theorem State.frameWait_regs (s : State) (c : Nat) (f : Frame) (d : List Nat) (ga : Nat) (ho : Off [TB.SPEED.SPEED, TB.ANGLE, TB.STAMP, TB.STATUS.STATE, SCH.TARGET, SCH.PRED, SCH.RESID.RESID, SCH.STATUS.STATE,
      AX.PWM_CTRL.EN, AX.FOC_CTRL.RUN, AX.SPD_DERATE.TQ, AX.CMT_STATUS.STATE, AX.SAF_STATUS.STATE, ENG.STATUS.HOSTS,
      CTX.STATUS.STATE, CTX.FRAME.FRAME, CTX.LAST_CODE.CODE, CTX.LAST_TRIG, CTX.LAST_DONE, CTX.CLK_LAST.CLK, CTX.CLK_MAX.CLK,
      CTX.Q_STATUS.CLIP_ALARM, CTX.Q_CLIP.CNT, CTX.Q_ELEM.CNT, CTX.Q_NAN.CNT, CTX.Q_DEV.CNT, CTX.Q_WORST.SHARE,
      CTX.Q_HIST.FILL_MIN, CTX.Q_CLIP_TOT, CTX.Q_ELEM_TOT, CTX.Q_NAN_TOT, CTX.DIG_STATUS.HAS_U, CTX.TRACE_CTRL.ARM,
      CTX.TWIN_MISM_TIME, Q.PROD.PROD, Q.TAKE.TAKE, Q.RET.RET, Q.CREDITS.CREDITS, Q.STATUS.NO_CREDIT, Q.LAST_POST,
      Q.POSTS.SEQ, Q.SLOTS.POST_SLOT, BAB.IN_STATUS.STATE, BAB.IN_POS, TWN.STATUS.PAIRED, MEM.CH_RETIRE.RETIRE,
      MEM.ECC_STATUS.CE, MEM.UE_FIRST_ADDR, MEM.UE_FIRST_INFO.MASTER, MEM.UE_FIRST_TIME, MEM.UE_LATEST_ADDR,
      MEM.UE_LATEST_INFO.INFO, MEM.UE_LATEST_TIME, MEM.CH_CNT.CE, MEM.SRAM_CNT.CE, AT.VIO_STATUS.FIRST_VALID,
      AT.VIO_FIRST_ADDR, AT.VIO_FIRST_INFO.MASTER, AT.VIO_FIRST_TIME, AT.VIO_LATEST_ADDR, AT.VIO_LATEST_INFO.INFO,
      AT.VIO_LATEST_TIME, SAF.STATUS.STATE, SAF.GROUP_STATE.LOW, SAF.FAULT_LAST.CODE, SAF.FAULT_TIME, REC.QUEUE.VALUE,
      REC.EVT_TOTAL] ga) (hq : ¬InSet .direct ga) :
    regAt (State.frameWait s c f d).regs ga = regAt s.regs ga := by
  simp only [Off_cons, Off_nil] at ho
  simp [State.frameWait, ho, hq]
@[simp] theorem State.frameClose_regs (s : State) (c : Nat) (ga : Nat) (ho : Off [TB.SPEED.SPEED, TB.ANGLE, TB.STAMP, TB.STATUS.STATE, SCH.TARGET, SCH.PRED, SCH.RESID.RESID, SCH.STATUS.STATE,
      AX.PWM_CTRL.EN, AX.FOC_CTRL.RUN, AX.SPD_DERATE.TQ, AX.CMT_STATUS.STATE, AX.SAF_STATUS.STATE, ENG.STATUS.HOSTS,
      CTX.STATUS.STATE, CTX.FRAME.FRAME, CTX.LAST_CODE.CODE, CTX.LAST_TRIG, CTX.LAST_DONE, CTX.CLK_LAST.CLK, CTX.CLK_MAX.CLK,
      CTX.Q_STATUS.CLIP_ALARM, CTX.Q_CLIP.CNT, CTX.Q_ELEM.CNT, CTX.Q_NAN.CNT, CTX.Q_DEV.CNT, CTX.Q_WORST.SHARE,
      CTX.Q_HIST.FILL_MIN, CTX.Q_CLIP_TOT, CTX.Q_ELEM_TOT, CTX.Q_NAN_TOT, CTX.DIG_STATUS.HAS_U, CTX.TRACE_CTRL.ARM,
      CTX.TWIN_MISM_TIME, Q.PROD.PROD, Q.TAKE.TAKE, Q.RET.RET, Q.CREDITS.CREDITS, Q.STATUS.NO_CREDIT, Q.LAST_POST,
      Q.POSTS.SEQ, Q.SLOTS.POST_SLOT, BAB.IN_STATUS.STATE, BAB.IN_POS, TWN.STATUS.PAIRED, MEM.CH_RETIRE.RETIRE,
      MEM.ECC_STATUS.CE, MEM.UE_FIRST_ADDR, MEM.UE_FIRST_INFO.MASTER, MEM.UE_FIRST_TIME, MEM.UE_LATEST_ADDR,
      MEM.UE_LATEST_INFO.INFO, MEM.UE_LATEST_TIME, MEM.CH_CNT.CE, MEM.SRAM_CNT.CE, AT.VIO_STATUS.FIRST_VALID,
      AT.VIO_FIRST_ADDR, AT.VIO_FIRST_INFO.MASTER, AT.VIO_FIRST_TIME, AT.VIO_LATEST_ADDR, AT.VIO_LATEST_INFO.INFO,
      AT.VIO_LATEST_TIME, SAF.STATUS.STATE, SAF.GROUP_STATE.LOW, SAF.FAULT_LAST.CODE, SAF.FAULT_TIME, REC.QUEUE.VALUE,
      REC.EVT_TOTAL] ga) (hq : ¬InSet .direct ga) :
    regAt (State.frameClose s c).regs ga = regAt s.regs ga := by
  simp only [Off_cons, Off_nil] at ho
  unfold State.frameClose; (try dsimp only); (repeat' (split <;> try (rename_i heq; have hs := congrArg (fun x => x.1) heq; simp only at hs; subst hs))) <;> simp [ho, hq]
@[simp] theorem State.frameEnd_regs (s : State) (c : Nat) (ga : Nat) (ho : Off [TB.SPEED.SPEED, TB.ANGLE, TB.STAMP, TB.STATUS.STATE, SCH.TARGET, SCH.PRED, SCH.RESID.RESID, SCH.STATUS.STATE,
      AX.PWM_CTRL.EN, AX.FOC_CTRL.RUN, AX.SPD_DERATE.TQ, AX.CMT_STATUS.STATE, AX.SAF_STATUS.STATE, ENG.STATUS.HOSTS,
      CTX.STATUS.STATE, CTX.FRAME.FRAME, CTX.LAST_CODE.CODE, CTX.LAST_TRIG, CTX.LAST_DONE, CTX.CLK_LAST.CLK, CTX.CLK_MAX.CLK,
      CTX.Q_STATUS.CLIP_ALARM, CTX.Q_CLIP.CNT, CTX.Q_ELEM.CNT, CTX.Q_NAN.CNT, CTX.Q_DEV.CNT, CTX.Q_WORST.SHARE,
      CTX.Q_HIST.FILL_MIN, CTX.Q_CLIP_TOT, CTX.Q_ELEM_TOT, CTX.Q_NAN_TOT, CTX.DIG_STATUS.HAS_U, CTX.TRACE_CTRL.ARM,
      CTX.TWIN_MISM_TIME, Q.PROD.PROD, Q.TAKE.TAKE, Q.RET.RET, Q.CREDITS.CREDITS, Q.STATUS.NO_CREDIT, Q.LAST_POST,
      Q.POSTS.SEQ, Q.SLOTS.POST_SLOT, BAB.IN_STATUS.STATE, BAB.IN_POS, TWN.STATUS.PAIRED, MEM.CH_RETIRE.RETIRE,
      MEM.ECC_STATUS.CE, MEM.UE_FIRST_ADDR, MEM.UE_FIRST_INFO.MASTER, MEM.UE_FIRST_TIME, MEM.UE_LATEST_ADDR,
      MEM.UE_LATEST_INFO.INFO, MEM.UE_LATEST_TIME, MEM.CH_CNT.CE, MEM.SRAM_CNT.CE, AT.VIO_STATUS.FIRST_VALID,
      AT.VIO_FIRST_ADDR, AT.VIO_FIRST_INFO.MASTER, AT.VIO_FIRST_TIME, AT.VIO_LATEST_ADDR, AT.VIO_LATEST_INFO.INFO,
      AT.VIO_LATEST_TIME, SAF.STATUS.STATE, SAF.GROUP_STATE.LOW, SAF.FAULT_LAST.CODE, SAF.FAULT_TIME, REC.QUEUE.VALUE,
      REC.EVT_TOTAL] ga) (hq : ¬InSet .direct ga) :
    regAt (State.frameEnd s c).regs ga = regAt s.regs ga := by
  simp only [Off_cons, Off_nil] at ho
  simp [State.frameEnd, ho, hq]

end Sys2Proof.Machine
end

