-- ==== Sys2Proof/Laws/Frame5.lean ====
section
/-!
SUPPORT. Which registers the operations of CtxCmd, Engines, Pwm, Vib change: every register of another field keeps its value.
-/
set_option linter.all false
namespace Sys2Proof.Machine
open Sys2Proof.Safety

@[simp] theorem State.ctxRefuse_regs (s : State) (c : Nat) (op : Nat) (rcode : Nat) (ga : Nat) (ho : Off [CTX.STATUS.STATE, REC.QUEUE.VALUE, REC.EVT_TOTAL] ga) :
    regAt (State.ctxRefuse s c op rcode).regs ga = regAt s.regs ga := by
  simp only [Off_cons, Off_nil] at ho
  simp [State.ctxRefuse, ho]
@[simp] theorem State.ctxDone_regs (s : State) (c : Nat) (op : Nat) (rcode : Nat) (ga : Nat) (ho : Off [CTX.STATUS.STATE, REC.QUEUE.VALUE, REC.EVT_TOTAL] ga) :
    regAt (State.ctxDone s c op rcode).regs ga = regAt s.regs ga := by
  simp only [Off_cons, Off_nil] at ho
  simp [State.ctxDone, ho]
@[simp] theorem State.ctxCommand_regs (s : State) (c : Nat) (op : Nat) (fresh : Bool) (ga : Nat) (ho : Off [CTX.STATUS.STATE, CTX.FRAME.FRAME, CTX.OVR_CNT.CNT, TWN.STATUS.PAIRED, MEM.CH_RETIRE.RETIRE, MEM.ECC_STATUS.CE,
      MEM.UE_FIRST_ADDR, MEM.UE_FIRST_INFO.MASTER, MEM.UE_FIRST_TIME, MEM.UE_LATEST_ADDR, MEM.UE_LATEST_INFO.INFO,
      MEM.UE_LATEST_TIME, MEM.CH_CNT.CE, MEM.SRAM_CNT.CE, REC.QUEUE.VALUE, REC.EVT_TOTAL] ga) :
    regAt (State.ctxCommand s c op fresh).regs ga = regAt s.regs ga := by
  simp only [Off_cons, Off_nil] at ho
  simp [State.ctxCommand, ho]
@[simp] theorem State.fxCtxCmd_regs (s : State) (c : Nat) (v : Nat) (ga : Nat) (ho : Off [CTX.STATUS.STATE, CTX.FRAME.FRAME, CTX.OVR_CNT.CNT, TWN.STATUS.PAIRED, MEM.CH_RETIRE.RETIRE, MEM.ECC_STATUS.CE,
      MEM.UE_FIRST_ADDR, MEM.UE_FIRST_INFO.MASTER, MEM.UE_FIRST_TIME, MEM.UE_LATEST_ADDR, MEM.UE_LATEST_INFO.INFO,
      MEM.UE_LATEST_TIME, MEM.CH_CNT.CE, MEM.SRAM_CNT.CE, REC.QUEUE.VALUE, REC.EVT_TOTAL] ga) :
    regAt (State.fxCtxCmd s c v).1.regs ga = regAt s.regs ga := by
  simp only [Off_cons, Off_nil] at ho
  simp [State.fxCtxCmd, ho]
@[simp] theorem State.ctxLoadDo_regs (s : State) (c : Nat) (ga : Nat) (ho : Off [CTX.STATUS.STATE, CTX.OUT_STRIDE.STRIDE, CTX.Q_HIST.FILL_MIN, CTX.DIG_STATUS.HAS_U, MEM.CH_RETIRE.RETIRE,
      MEM.ECC_STATUS.CE, MEM.UE_FIRST_ADDR, MEM.UE_FIRST_INFO.MASTER, MEM.UE_FIRST_TIME, MEM.UE_LATEST_ADDR,
      MEM.UE_LATEST_INFO.INFO, MEM.UE_LATEST_TIME, MEM.CH_CNT.CE, MEM.SRAM_CNT.CE, AT.VIO_STATUS.FIRST_VALID,
      AT.VIO_FIRST_ADDR, AT.VIO_FIRST_INFO.MASTER, AT.VIO_FIRST_TIME, AT.VIO_LATEST_ADDR, AT.VIO_LATEST_INFO.INFO,
      AT.VIO_LATEST_TIME, REC.QUEUE.VALUE, REC.EVT_TOTAL] ga) :
    regAt (State.ctxLoadDo s c).1.regs ga = regAt s.regs ga := by
  simp only [Off_cons, Off_nil] at ho
  simp [State.ctxLoadDo, ho]
@[simp] theorem State.armWeights_regs (s : State) (c : Nat) (p : Prog) (ga : Nat) (ho : Off [MEM.CH_RETIRE.RETIRE, MEM.ECC_STATUS.CE, MEM.UE_FIRST_ADDR, MEM.UE_FIRST_INFO.MASTER, MEM.UE_FIRST_TIME,
      MEM.UE_LATEST_ADDR, MEM.UE_LATEST_INFO.INFO, MEM.UE_LATEST_TIME, MEM.CH_CNT.CE, MEM.SRAM_CNT.CE,
      AT.VIO_STATUS.FIRST_VALID, AT.VIO_FIRST_ADDR, AT.VIO_FIRST_INFO.MASTER, AT.VIO_FIRST_TIME, AT.VIO_LATEST_ADDR,
      AT.VIO_LATEST_INFO.INFO, AT.VIO_LATEST_TIME, REC.QUEUE.VALUE, REC.EVT_TOTAL] ga) :
    regAt (State.armWeights s c p).1.regs ga = regAt s.regs ga := by
  simp only [Off_cons, Off_nil] at ho
  unfold State.armWeights; (try dsimp only); (repeat' (split <;> try (rename_i heq; have hs := congrArg (fun x => x.1) heq; simp only at hs; subst hs))) <;> simp [ho]
@[simp] theorem State.armDigest_regs (s : State) (c : Nat) (w : List Nat) (ga : Nat) (ho : Off [CTX.DIG_STATUS.HAS_U, CTX.WDIGEST.W] ga) :
    regAt (State.armDigest s c w).regs ga = regAt s.regs ga := by
  simp only [Off_cons, Off_nil] at ho
  simp [State.armDigest, ho]
@[simp] theorem State.armPlace_regs (s : State) (c : Nat) (p : Prog) (ga : Nat) (ho : Off [MEM.CH_RETIRE.RETIRE, MEM.ECC_STATUS.CE, MEM.UE_FIRST_ADDR, MEM.UE_FIRST_INFO.MASTER, MEM.UE_FIRST_TIME,
      MEM.UE_LATEST_ADDR, MEM.UE_LATEST_INFO.INFO, MEM.UE_LATEST_TIME, MEM.CH_CNT.CE, MEM.SRAM_CNT.CE, REC.QUEUE.VALUE,
      REC.EVT_TOTAL] ga) :
    regAt (State.armPlace s c p).1.regs ga = regAt s.regs ga := by
  simp only [Off_cons, Off_nil] at ho
  unfold State.armPlace; (try dsimp only); (repeat' (split <;> try (rename_i heq; have hs := congrArg (fun x => x.1) heq; simp only at hs; subst hs))) <;> simp [ho]
@[simp] theorem State.ctxArmDo_regs (s : State) (c : Nat) (fresh : Bool) (ga : Nat) (ho : Off [INF.STATUS.UNAVAIL, CTX.STATUS.STATE, CTX.CLK_MAX.CLK, CTX.OVR_CNT.CNT, CTX.Q_HIST.FILL_MIN, CTX.Q_CLIP_TOT,
      CTX.Q_ELEM_TOT, CTX.Q_NAN_TOT, CTX.DIG_STATUS.HAS_U, CTX.WDIGEST.W, MEM.CH_RETIRE.RETIRE, MEM.ECC_STATUS.CE,
      MEM.UE_FIRST_ADDR, MEM.UE_FIRST_INFO.MASTER, MEM.UE_FIRST_TIME, MEM.UE_LATEST_ADDR, MEM.UE_LATEST_INFO.INFO,
      MEM.UE_LATEST_TIME, MEM.CH_CNT.CE, MEM.SRAM_CNT.CE, AT.VIO_STATUS.FIRST_VALID, AT.VIO_FIRST_ADDR,
      AT.VIO_FIRST_INFO.MASTER, AT.VIO_FIRST_TIME, AT.VIO_LATEST_ADDR, AT.VIO_LATEST_INFO.INFO, AT.VIO_LATEST_TIME,
      REC.QUEUE.VALUE, REC.EVT_TOTAL] ga) :
    regAt (State.ctxArmDo s c fresh).1.regs ga = regAt s.regs ga := by
  simp only [Off_cons, Off_nil] at ho
  unfold State.ctxArmDo; split <;> simp [ho]
@[simp] theorem State.ctxRestoreDo_regs (s : State) (c : Nat) (ga : Nat) (ho : Off [CTX.STATUS.STATE, CTX.Q_HIST.FILL_MIN, MEM.CH_RETIRE.RETIRE, MEM.ECC_STATUS.CE, MEM.UE_FIRST_ADDR,
      MEM.UE_FIRST_INFO.MASTER, MEM.UE_FIRST_TIME, MEM.UE_LATEST_ADDR, MEM.UE_LATEST_INFO.INFO, MEM.UE_LATEST_TIME,
      MEM.CH_CNT.CE, MEM.SRAM_CNT.CE, AT.VIO_STATUS.FIRST_VALID, AT.VIO_FIRST_ADDR, AT.VIO_FIRST_INFO.MASTER,
      AT.VIO_FIRST_TIME, AT.VIO_LATEST_ADDR, AT.VIO_LATEST_INFO.INFO, AT.VIO_LATEST_TIME, REC.QUEUE.VALUE, REC.EVT_TOTAL] ga) :
    regAt (s.ctxRestoreDo c).1.regs ga = regAt s.regs ga := by
  simp only [Off_cons, Off_nil] at ho
  unfold State.ctxRestoreDo
  split
  · rfl
  · rename_i p _
    have k := State.masterRead_regs s 8 (s.rd CTX.SNAP c) (32 + p.partSize * p.stateBytes) ga (by simp [ho])
    dsimp only
    split
    · rfl
    · split
      · rename_i e; rw [e] at k; split <;> simpa [ho] using k
      · rename_i e; rw [e] at k; exact k
@[simp] theorem State.ctxUnloadDo_regs (s : State) (c : Nat) (ga : Nat) (ho : Off [INF.STATUS.UNAVAIL, CTX.STATUS.STATE, CTX.Q_HIST.FILL_MIN, CTX.DIG_STATUS.HAS_U, REC.QUEUE.VALUE, REC.EVT_TOTAL] ga) :
    regAt (State.ctxUnloadDo s c).regs ga = regAt s.regs ga := by
  simp only [Off_cons, Off_nil] at ho
  simp [State.ctxUnloadDo, ho]
@[simp] theorem State.armAgrees_regs (s : State) (c : Nat) (fresh : Bool) (partner : Option Sys2Proof.PartnerCtx) (ga : Nat) (ho : Off [MEM.CH_RETIRE.RETIRE, MEM.ECC_STATUS.CE, MEM.UE_FIRST_ADDR, MEM.UE_FIRST_INFO.MASTER, MEM.UE_FIRST_TIME,
      MEM.UE_LATEST_ADDR, MEM.UE_LATEST_INFO.INFO, MEM.UE_LATEST_TIME, MEM.CH_CNT.CE, MEM.SRAM_CNT.CE, REC.QUEUE.VALUE,
      REC.EVT_TOTAL] ga) :
    regAt (State.armAgrees s c fresh partner).1.regs ga = regAt s.regs ga := by
  simp only [Off_cons, Off_nil] at ho
  unfold State.armAgrees; (try dsimp only); (repeat' (split <;> try (rename_i heq; have hs := congrArg (fun x => x.1) heq; simp only at hs; subst hs))) <;> simp [ho]
@[simp] theorem State.ctxComplete_regs (s : State) (c : Nat) (partner : Option Sys2Proof.PartnerCtx) (ga : Nat) (ho : Off [INF.STATUS.UNAVAIL, CTX.STATUS.STATE, CTX.CLK_MAX.CLK, CTX.OVR_CNT.CNT, CTX.OUT_STRIDE.STRIDE, CTX.Q_HIST.FILL_MIN,
      CTX.Q_CLIP_TOT, CTX.Q_ELEM_TOT, CTX.Q_NAN_TOT, CTX.DIG_STATUS.HAS_U, CTX.WDIGEST.W, MEM.CH_RETIRE.RETIRE,
      MEM.ECC_STATUS.CE, MEM.UE_FIRST_ADDR, MEM.UE_FIRST_INFO.MASTER, MEM.UE_FIRST_TIME, MEM.UE_LATEST_ADDR,
      MEM.UE_LATEST_INFO.INFO, MEM.UE_LATEST_TIME, MEM.CH_CNT.CE, MEM.SRAM_CNT.CE, AT.VIO_STATUS.FIRST_VALID,
      AT.VIO_FIRST_ADDR, AT.VIO_FIRST_INFO.MASTER, AT.VIO_FIRST_TIME, AT.VIO_LATEST_ADDR, AT.VIO_LATEST_INFO.INFO,
      AT.VIO_LATEST_TIME, REC.QUEUE.VALUE, REC.EVT_TOTAL] ga) (hq : ¬InSet .direct ga) :
    regAt (State.ctxComplete s c partner).regs ga = regAt s.regs ga := by
  simp only [Off_cons, Off_nil] at ho
  unfold State.ctxComplete; dsimp only; (repeat' split) <;> simp [ho, hq]
@[simp] theorem State.ctxCfgRefuse_regs (s : State) (c : Nat) (ga : Nat) (ho : Off [CTX.STATUS.STATE] ga) :
    regAt (State.ctxCfgRefuse s c).regs ga = regAt s.regs ga := by
  simp only [Off_cons, Off_nil] at ho
  simp [State.ctxCfgRefuse, ho]
@[simp] theorem State.fxCtxCfg_regs (s : State) (c : Nat) (v : Nat) (ga : Nat) (ho : Off [CTX.CFG.BASE, CTX.STATUS.STATE] ga) :
    regAt (State.fxCtxCfg s c v).1.regs ga = regAt s.regs ga := by
  simp only [Off_cons, Off_nil] at ho
  simp [State.fxCtxCfg, ho]
@[simp] theorem State.fxOutBaseHi_regs (s : State) (c v : Nat) (ga : Nat) (ho : Off [CTX.STATUS.STATE, CTX.OUT_BASE] ga) : regAt (s.fxOutBaseHi c v).1.regs ga = regAt s.regs ga := by
  simp only [Off_cons, Off_nil] at ho
  unfold State.fxOutBaseHi
  split
  · simp [ho]
  · exact writePlain_pair _ _ _ _ _ _ rfl (by simp [ho])
@[simp] theorem State.fxOutCfg_regs (s : State) (c : Nat) (v : Nat) (ga : Nat) (ho : Off [CTX.STATUS.STATE, CTX.OUT_CFG.N] ga) :
    regAt (State.fxOutCfg s c v).1.regs ga = regAt s.regs ga := by
  simp only [Off_cons, Off_nil] at ho
  simp [State.fxOutCfg, ho]
@[simp] theorem State.fxDigCfg_regs (s : State) (c : Nat) (v : Nat) (ga : Nat) (ho : Off [CTX.STATUS.STATE, CTX.DIG_CFG.EN] ga) :
    regAt (State.fxDigCfg s c v).1.regs ga = regAt s.regs ga := by
  simp only [Off_cons, Off_nil] at ho
  simp [State.fxDigCfg, ho]
@[simp] theorem State.fxTraceCtrl_regs (s : State) (c : Nat) (v : Nat) (ga : Nat) (ho : Off [CTX.TRACE_CTRL.ARM] ga) :
    regAt (State.fxTraceCtrl s c v).1.regs ga = regAt s.regs ga := by
  simp only [Off_cons, Off_nil] at ho
  simp [State.fxTraceCtrl, ho]
@[simp] theorem State.ctxCmdWrite_regs (s : State) (m : Nat) (c : Nat) (op : Nat) (fresh : Bool) (ga : Nat) (ho : Off [CTX.STATUS.STATE, CTX.FRAME.FRAME, CTX.OVR_CNT.CNT, TWN.STATUS.PAIRED, MEM.CH_RETIRE.RETIRE, MEM.ECC_STATUS.CE,
      MEM.UE_FIRST_ADDR, MEM.UE_FIRST_INFO.MASTER, MEM.UE_FIRST_TIME, MEM.UE_LATEST_ADDR, MEM.UE_LATEST_INFO.INFO,
      MEM.UE_LATEST_TIME, MEM.CH_CNT.CE, MEM.SRAM_CNT.CE, AT.VIO_STATUS.FIRST_VALID, AT.VIO_FIRST_ADDR,
      AT.VIO_FIRST_INFO.MASTER, AT.VIO_FIRST_TIME, AT.VIO_LATEST_ADDR, AT.VIO_LATEST_INFO.INFO, AT.VIO_LATEST_TIME,
      REC.QUEUE.VALUE, REC.EVT_TOTAL] ga) :
    regAt (State.ctxCmdWrite s m c op fresh).regs ga = regAt s.regs ga := by
  simp only [Off_cons, Off_nil] at ho
  simp [State.ctxCmdWrite, ho]
@[simp] theorem State.hostsShow_regs (s : State) (ga : Nat) (ho : Off [INF.ENG_STATUS.USABLE, ENG.STATUS.HOSTS] ga) :
    regAt (State.hostsShow s).regs ga = regAt s.regs ga := by
  simp only [Off_cons, Off_nil] at ho
  simp [State.hostsShow, ho]
@[simp] theorem State.mapEngine_regs (s : State) (i : Nat) (p : Option Nat) (ga : Nat) (ho : Off [INF.ENG_MAP.MAP] ga) :
    regAt (State.mapEngine s i p).regs ga = regAt s.regs ga := by
  simp only [Off_cons, Off_nil] at ho
  unfold State.mapEngine; split <;> simp [ho]
@[simp] theorem State.moveAll_regs (s : State) (p : Nat) (ga : Nat) (ho : Off [INF.ENG_MAP.MAP, REC.QUEUE.VALUE, REC.EVT_TOTAL] ga) :
    regAt (s.moveAll p).regs ga = regAt s.regs ga := by
  simp only [Off_cons, Off_nil] at ho
  unfold State.moveAll
  split
  · simp [ho]
  · refine forEach_off _ _ _ _ fun s k => ?_
    split <;> simp [ho]
@[simp] theorem State.engFence_regs (s : State) (mask : Nat) (ga : Nat) (ho : Off [INF.ENG_MAP.MAP, INF.ENG_STATUS.USABLE, INF.STATUS.UNAVAIL, ENG.STATUS.HOSTS, CTX.STATUS.STATE, REC.QUEUE.VALUE,
      REC.EVT_TOTAL] ga) :
    regAt (State.engFence s mask).regs ga = regAt s.regs ga := by
  simp only [Off_cons, Off_nil] at ho
  simp [State.engFence, ho]
@[simp] theorem State.fxEngFence_regs (s : State) (v : Nat) (ga : Nat) (ho : Off [INF.ENG_MAP.MAP, INF.ENG_FENCE.FENCE, INF.ENG_STATUS.USABLE, INF.STATUS.UNAVAIL, ENG.STATUS.HOSTS, CTX.STATUS.STATE,
      REC.QUEUE.VALUE, REC.EVT_TOTAL] ga) :
    regAt (State.fxEngFence s v).1.regs ga = regAt s.regs ga := by
  simp only [Off_cons, Off_nil] at ho
  simp [State.fxEngFence, ho]
@[simp] theorem State.loseState_regs (s : State) (c : Nat) (ga : Nat) (ho : Off [CTX.STATUS.STATE] ga) :
    regAt (State.loseState s c).regs ga = regAt s.regs ga := by
  simp only [Off_cons, Off_nil] at ho
  simp [State.loseState, ho]
@[simp] theorem State.engRegs_regs (s : State) (p : Nat) (ga : Nat) (ho : Off [INF.ENG_STATUS.USABLE, ENG.STATUS.HOSTS] ga) :
    regAt (State.engRegs s p).regs ga = regAt s.regs ga := by
  simp only [Off_cons, Off_nil] at ho
  simp [State.engRegs, ho]
@[simp] theorem State.engReset_regs (s : State) (p : Nat) (ga : Nat) (ho : Off [INF.ENG_STATUS.USABLE, ENG.STATUS.HOSTS, CTX.STATUS.STATE, PWR.STATE.STATE] ga) :
    regAt (State.engReset s p).regs ga = regAt s.regs ga := by
  simp only [Off_cons, Off_nil] at ho
  simp [State.engReset, ho]
@[simp] theorem State.fxEngCtrl_regs (s : State) (p : Nat) (v : Nat) (ga : Nat) (ho : Off [INF.ENG_STATUS.USABLE, ENG.STATUS.HOSTS, CTX.STATUS.STATE, PWR.STATE.STATE] ga) :
    regAt (State.fxEngCtrl s p v).1.regs ga = regAt s.regs ga := by
  simp only [Off_cons, Off_nil] at ho
  simp [State.fxEngCtrl, ho]
@[simp] theorem State.utilSnap_regs (s : State) (ga : Nat) (ho : Off [INF.UTIL_SNAP_TIME, ENG.UTIL] ga) :
    regAt (State.utilSnap s).regs ga = regAt s.regs ga := by
  simp only [Off_cons, Off_nil] at ho
  simp [State.utilSnap, ho]
@[simp] theorem State.fxUtilCtrl_regs (s : State) (v : Nat) (ga : Nat) (ho : Off [INF.UTIL_CTRL.SNAP, INF.UTIL_SNAP_TIME, ENG.UTIL] ga) :
    regAt (State.fxUtilCtrl s v).1.regs ga = regAt s.regs ga := by
  simp only [Off_cons, Off_nil] at ho
  simp [State.fxUtilCtrl, ho]
@[simp] theorem State.tapApply_regs (s : State) (n : Nat) (e : Nat) (ga : Nat) (ho : Off [AX.PWM_DLCAL.N] ga) :
    regAt (State.tapApply s n e).regs ga = regAt s.regs ga := by
  simp only [Off_cons, Off_nil] at ho
  simp [State.tapApply, ho]
@[simp] theorem State.tagShadow_regs (s : State) (n : Nat) (r : Nat) (ga : Nat) :
    regAt (State.tagShadow s n r).regs ga = regAt s.regs ga := by
  simp [State.tagShadow]
@[simp] theorem State.commitRequest_regs (s : State) (n : Nat) (ga : Nat) (ho : Off [AX.PWM_STATUS.COMMIT_PEND] ga) :
    regAt (State.commitRequest s n).regs ga = regAt s.regs ga := by
  simp only [Off_cons, Off_nil] at ho
  simp [State.commitRequest, ho]
@[simp] theorem State.loopDuty_regs (s : State) (n : Nat) (j : Nat) (d : Nat) (ga : Nat) (ho : Off [AX.PWM_DUTY.D] ga) :
    regAt (State.loopDuty s n j d).regs ga = regAt s.regs ga := by
  simp only [Off_cons, Off_nil] at ho
  simp [State.loopDuty, ho]
@[simp] theorem State.bookStep_regs (s : State) (n : Nat) (p : Int) (top : Nat) (ga : Nat) :
    regAt (State.bookStep s n p top).regs ga = regAt s.regs ga := by
  simp [State.bookStep]
@[simp] theorem State.phaseBoundary_regs (s : State) (n : Nat) (j : Nat) (ga : Nat) (ho : Off [AX.PWM_STATUS.COMMIT_PEND, AX.PWM_ACT_W.W, AX.PWM_CARRY.CARRY] ga) :
    regAt (State.phaseBoundary s n j).regs ga = regAt s.regs ga := by
  simp only [Off_cons, Off_nil] at ho
  simp [State.phaseBoundary, ho]
@[simp] theorem State.driveBegin_regs (s : State) (n : Nat) (b : Nat) (ga : Nat) :
    regAt (State.driveBegin s n b).regs ga = regAt s.regs ga := by
  simp [State.driveBegin]
@[simp] theorem State.pwmBoundary_regs (s : State) (n : Nat) (ga : Nat) (ho : Off [AX.PWM_STATUS.COMMIT_PEND, AX.PWM_ACT_PERIOD.TOP, AX.PWM_ACT_W.W, AX.PWM_CARRY.CARRY, AX.PWM_LAST_COMMIT, AX.PWM_DLCAL.N] ga) :
    regAt (State.pwmBoundary s n).regs ga = regAt s.regs ga := by
  simp only [Off_cons, Off_nil] at ho
  unfold State.pwmBoundary; dsimp only; (repeat' split) <;> simp [ho]
@[simp] theorem State.fxPwmDuty_regs (s : State) (n : Nat) (j : Nat) (v : Nat) (ga : Nat) (ho : Off [AX.PWM_DUTY.D, AX.PWM_STATUS.COMMIT_PEND] ga) :
    regAt (State.fxPwmDuty s n j v).1.regs ga = regAt s.regs ga := by
  simp only [Off_cons, Off_nil] at ho
  simp [State.fxPwmDuty, ho]
@[simp] theorem State.fxPwmPeriod_regs (s : State) (n : Nat) (v : Nat) (ga : Nat) (ho : Off [AX.PWM_PERIOD.TOP] ga) :
    regAt (State.fxPwmPeriod s n v).1.regs ga = regAt s.regs ga := by
  simp only [Off_cons, Off_nil] at ho
  simp [State.fxPwmPeriod, ho]
@[simp] theorem State.fxPwmCommit_regs (s : State) (n : Nat) (v : Nat) (ga : Nat) (ho : Off [AX.PWM_STATUS.COMMIT_PEND] ga) :
    regAt (State.fxPwmCommit s n v).1.regs ga = regAt s.regs ga := by
  simp only [Off_cons, Off_nil] at ho
  simp [State.fxPwmCommit, ho]
@[simp] theorem State.fxPwmDead_regs (s : State) (n : Nat) (a : Nat) (v : Nat) (ga : Nat) (ho : Off [AX.PWM_STATUS.COMMIT_PEND] ga) (hn : ga ≠ a) :
    regAt (State.fxPwmDead s n a v).1.regs ga = regAt s.regs ga := by
  simp only [Off_cons, Off_nil] at ho
  simp [State.fxPwmDead, ho, hn]
@[simp] theorem State.carryClear_regs (s : State) (n : Nat) (ga : Nat) (ho : Off [AX.PWM_STATUS.COMMIT_PEND, AX.PWM_CARRY.CARRY] ga) :
    regAt (State.carryClear s n).regs ga = regAt s.regs ga := by
  simp only [Off_cons, Off_nil] at ho
  simp [State.carryClear, ho]
@[simp] theorem State.axisOn_regs (s : State) (n : Nat) (ga : Nat) (ho : Off [AX.PWM_CTRL.EN, AX.PWM_STATUS.COMMIT_PEND, AX.PWM_CARRY.CARRY, AX.CMT_CORR.VALUE, AX.CMT_SCORR.VALUE] ga) :
    regAt (State.axisOn s n).regs ga = regAt s.regs ga := by
  simp only [Off_cons, Off_nil] at ho
  simp [State.axisOn, ho]
@[simp] theorem State.tripPerform_regs (s : State) (n : Nat) (act : Nat) (ga : Nat) (ho : Off [AX.PWM_CTRL.EN, AX.PWM_STATUS.COMMIT_PEND, AX.CMT_STATUS.STATE, REC.QUEUE.VALUE, REC.EVT_TOTAL] ga) :
    regAt (State.tripPerform s n act).regs ga = regAt s.regs ga := by
  simp only [Off_cons, Off_nil] at ho
  simp [State.tripPerform, ho]
@[simp] theorem State.tripLatch_regs (s : State) (n : Nat) (newO : Bool) (newD : Bool) (had : Bool) (aO : Nat) (aD : Nat) (ga : Nat) (ho : Off [AX.PWM_STATUS.COMMIT_PEND, AX.TRIP_STATUS.LATCH, AX.TRIP_TIME, AX.CMT_STATUS.STATE, REC.QUEUE.VALUE, REC.EVT_TOTAL] ga) :
    regAt (State.tripLatch s n newO newD had aO aD).regs ga = regAt s.regs ga := by
  simp only [Off_cons, Off_nil] at ho
  simp [State.tripLatch, ho]
@[simp] theorem State.tripGovern_regs (s : State) (n : Nat) (act : Nat) (had : Bool) (ga : Nat) (ho : Off [AX.PWM_CTRL.EN, AX.PWM_STATUS.COMMIT_PEND, AX.CMT_STATUS.STATE, REC.QUEUE.VALUE, REC.EVT_TOTAL] ga) :
    regAt (State.tripGovern s n act had).regs ga = regAt s.regs ga := by
  simp only [Off_cons, Off_nil] at ho
  simp [State.tripGovern, ho]
@[simp] theorem State.fxTripStatus_regs (s : State) (n : Nat) (v : Nat) (ga : Nat) (ho : Off [AX.PWM_STATUS.COMMIT_PEND, AX.TRIP_STATUS.LATCH] ga) :
    regAt (State.fxTripStatus s n v).1.regs ga = regAt s.regs ga := by
  simp only [Off_cons, Off_nil] at ho
  simp [State.fxTripStatus, ho]
@[simp] theorem State.fxPxbMap_regs (s : State) (sp : Nat) (v : Nat) (ga : Nat) (ho : Off [PXB.MAP.AXIS, PXB.STATUS.BUSY] ga) :
    regAt (State.fxPxbMap s sp v).1.regs ga = regAt s.regs ga := by
  simp only [Off_cons, Off_nil] at ho
  simp [State.fxPxbMap, ho]
@[simp] theorem State.tapSwitch_regs (s : State) (n : Nat) (ga : Nat) (ho : Off [AX.PWM_DLCAL.N] ga) :
    regAt (State.tapSwitch s n).regs ga = regAt s.regs ga := by
  simp only [Off_cons, Off_nil] at ho
  unfold State.tapSwitch; split <;> simp [ho]
@[simp] theorem State.pxbComplete_regs (s : State) (sp : Nat) (x : PxbH) (ga : Nat) (ho : Off [PXB.STATUS.BUSY, AX.PWM_CTRL.EN, AX.PWM_STATUS.COMMIT_PEND, AX.PWM_CARRY.CARRY, AX.PWM_DLCAL.N, AX.CMT_STATUS.STATE,
      REC.QUEUE.VALUE, REC.EVT_TOTAL] ga) :
    regAt (State.pxbComplete s sp x).regs ga = regAt s.regs ga := by
  simp only [Off_cons, Off_nil] at ho
  unfold State.pxbComplete; dsimp only; (repeat' split) <;> simp [ho]
@[simp] theorem State.vibRestart_regs (s : State) (c : Nat) (from_ : Nat) (ga : Nat) (ho : Off [MF.VIB_STATUS.SETTLING, BAB.IN_STATUS.STATE] ga) :
    regAt (State.vibRestart s c from_).regs ga = regAt s.regs ga := by
  simp only [Off_cons, Off_nil] at ho
  simp [State.vibRestart, ho]
@[simp] theorem State.vibUnpair_regs (s : State) (c : Nat) (ga : Nat) (ho : Off [MF.VIB_STATUS.SETTLING, BAB.IN_STATUS.STATE] ga) :
    regAt (State.vibUnpair s c).regs ga = regAt s.regs ga := by
  simp only [Off_cons, Off_nil] at ho
  simp [State.vibUnpair, ho]
@[simp] theorem State.fxVibCfg_regs (s : State) (c : Nat) (v : Nat) (ga : Nat) (ho : Off [MF.VIB_CFG.PD, MF.VIB_STATUS.SETTLING, BAB.IN_STATUS.STATE] ga) :
    regAt (State.fxVibCfg s c v).1.regs ga = regAt s.regs ga := by
  simp only [Off_cons, Off_nil] at ho
  simp [State.fxVibCfg, ho]
@[simp] theorem State.fxVibNotch_regs (s : State) (c : Nat) (v : Nat) (ga : Nat) (ho : Off [MF.VIB_NOTCH.F, MF.VIB_STATUS.SETTLING, BAB.IN_STATUS.STATE] ga) :
    regAt (State.fxVibNotch s c v).1.regs ga = regAt s.regs ga := by
  simp only [Off_cons, Off_nil] at ho
  simp [State.fxVibNotch, ho]

end Sys2Proof.Machine
end

