-- ==== Sys2Proof/Laws/Frame6.lean ====
section
/-!
SUPPORT. Which registers the operations of DcBus, Measure, Observer change: every register of another field keeps its value.
-/
set_option linter.all false
namespace Sys2Proof.Machine
open Sys2Proof.Safety

@[simp] theorem State.segCount_regs (s : State) (b : Nat) (ga : Nat) :
    regAt (State.segCount s b).regs ga = regAt s.regs ga := by
  simp [State.segCount]
@[simp] theorem State.gateOn_regs (s : State) (b : Nat) (ga : Nat) (ho : Off [BUS.STATUS.CHOP_ON, REC.QUEUE.VALUE, REC.EVT_TOTAL] ga) :
    regAt (State.gateOn s b).regs ga = regAt s.regs ga := by
  simp only [Off_cons, Off_nil] at ho
  simp [State.gateOn, ho]
@[simp] theorem State.gateOff_regs (s : State) (b : Nat) (ga : Nat) (ho : Off [BUS.STATUS.CHOP_ON] ga) :
    regAt (State.gateOff s b).regs ga = regAt s.regs ga := by
  simp only [Off_cons, Off_nil] at ho
  simp [State.gateOff, ho]
@[simp] theorem State.chopFault_regs (s : State) (b : Nat) (cause : Nat) (ga : Nat) (ho : Off [BUS.STATUS.CHOP_ON, BUS.CHOP_FAULT_TIME, REC.QUEUE.VALUE, REC.EVT_TOTAL] ga) :
    regAt (State.chopFault s b cause).regs ga = regAt s.regs ga := by
  simp only [Off_cons, Off_nil] at ho
  simp [State.chopFault, ho]
@[simp] theorem State.fxDcbCfg_regs (s : State) (b : Nat) (v : Nat) (ga : Nat) (ho : Off [MF.DCB_CFG.OV_TH] ga) :
    regAt (State.fxDcbCfg s b v).1.regs ga = regAt s.regs ga := by
  simp only [Off_cons, Off_nil] at ho
  simp [State.fxDcbCfg, ho]
@[simp] theorem State.t2Sto_regs (s : State) (b : Nat) (n : Nat) (ga : Nat) (ho : Off [TB.SPEED.SPEED, TB.ANGLE, TB.STAMP, TB.STATUS.STATE, SCH.TARGET, SCH.PRED, SCH.RESID.RESID, SCH.STATUS.STATE,
      AX.PWM_CTRL.EN, AX.FOC_CTRL.RUN, AX.SPD_DERATE.TQ, AX.CMT_STATUS.STATE, AX.SAF_STATUS.STATE, BAB.IN_STATUS.STATE,
      BAB.IN_POS, MEM.CH_RETIRE.RETIRE, MEM.ECC_STATUS.CE, MEM.UE_FIRST_ADDR, MEM.UE_FIRST_INFO.MASTER, MEM.UE_FIRST_TIME,
      MEM.UE_LATEST_ADDR, MEM.UE_LATEST_INFO.INFO, MEM.UE_LATEST_TIME, MEM.CH_CNT.CE, MEM.SRAM_CNT.CE,
      AT.VIO_STATUS.FIRST_VALID, AT.VIO_FIRST_ADDR, AT.VIO_FIRST_INFO.MASTER, AT.VIO_FIRST_TIME, AT.VIO_LATEST_ADDR,
      AT.VIO_LATEST_INFO.INFO, AT.VIO_LATEST_TIME, SAF.STATUS.STATE, SAF.GROUP_STATE.LOW, SAF.FAULT_LAST.CODE,
      SAF.FAULT_TIME, REC.QUEUE.VALUE, REC.EVT_TOTAL] ga) (hq : ¬InSet .direct ga) :
    regAt (State.t2Sto s b n).regs ga = regAt s.regs ga := by
  simp only [Off_cons, Off_nil] at ho
  simp [State.t2Sto, ho, hq]
@[simp] theorem State.t2Axis_regs (s : State) (b : Nat) (n : Nat) (act : Nat) (ga : Nat) (ho : Off [TB.SPEED.SPEED, TB.ANGLE, TB.STAMP, TB.STATUS.STATE, SCH.TARGET, SCH.PRED, SCH.RESID.RESID, SCH.STATUS.STATE,
      AX.PWM_CTRL.EN, AX.PWM_STATUS.COMMIT_PEND, AX.FOC_CTRL.RUN, AX.SPD_DERATE.TQ, AX.CMT_STATUS.STATE,
      AX.BUS_STATUS.CFG_REFUSED, AX.SAF_STATUS.STATE, BAB.IN_STATUS.STATE, BAB.IN_POS, MEM.CH_RETIRE.RETIRE,
      MEM.ECC_STATUS.CE, MEM.UE_FIRST_ADDR, MEM.UE_FIRST_INFO.MASTER, MEM.UE_FIRST_TIME, MEM.UE_LATEST_ADDR,
      MEM.UE_LATEST_INFO.INFO, MEM.UE_LATEST_TIME, MEM.CH_CNT.CE, MEM.SRAM_CNT.CE, AT.VIO_STATUS.FIRST_VALID,
      AT.VIO_FIRST_ADDR, AT.VIO_FIRST_INFO.MASTER, AT.VIO_FIRST_TIME, AT.VIO_LATEST_ADDR, AT.VIO_LATEST_INFO.INFO,
      AT.VIO_LATEST_TIME, SAF.STATUS.STATE, SAF.GROUP_STATE.LOW, SAF.FAULT_LAST.CODE, SAF.FAULT_TIME, REC.QUEUE.VALUE,
      REC.EVT_TOTAL] ga) (hq : ¬InSet .direct ga) :
    regAt (State.t2Axis s b n act).regs ga = regAt s.regs ga := by
  simp only [Off_cons, Off_nil] at ho
  unfold State.t2Axis; dsimp only; (repeat' split) <;> simp [ho, hq]
@[simp] theorem State.t2Act_regs (s : State) (b : Nat) (code : Nat) (cmp : Bool) (ga : Nat) (ho : Off [TB.SPEED.SPEED, TB.ANGLE, TB.STAMP, TB.STATUS.STATE, SCH.TARGET, SCH.PRED, SCH.RESID.RESID, SCH.STATUS.STATE,
      AX.PWM_CTRL.EN, AX.PWM_STATUS.COMMIT_PEND, AX.FOC_CTRL.RUN, AX.SPD_DERATE.TQ, AX.CMT_STATUS.STATE,
      AX.BUS_STATUS.CFG_REFUSED, AX.SAF_STATUS.STATE, BUS.STATUS.CHOP_ON, BUS.T2_TIME, BAB.IN_STATUS.STATE, BAB.IN_POS,
      MEM.CH_RETIRE.RETIRE, MEM.ECC_STATUS.CE, MEM.UE_FIRST_ADDR, MEM.UE_FIRST_INFO.MASTER, MEM.UE_FIRST_TIME,
      MEM.UE_LATEST_ADDR, MEM.UE_LATEST_INFO.INFO, MEM.UE_LATEST_TIME, MEM.CH_CNT.CE, MEM.SRAM_CNT.CE,
      AT.VIO_STATUS.FIRST_VALID, AT.VIO_FIRST_ADDR, AT.VIO_FIRST_INFO.MASTER, AT.VIO_FIRST_TIME, AT.VIO_LATEST_ADDR,
      AT.VIO_LATEST_INFO.INFO, AT.VIO_LATEST_TIME, SAF.STATUS.STATE, SAF.GROUP_STATE.LOW, SAF.FAULT_LAST.CODE,
      SAF.FAULT_TIME, REC.QUEUE.VALUE, REC.EVT_TOTAL] ga) (hq : ¬InSet .direct ga) :
    regAt (State.t2Act s b code cmp).regs ga = regAt s.regs ga := by
  simp only [Off_cons, Off_nil] at ho
  simp [State.t2Act, ho, hq]
@[simp] theorem State.t2Reach_regs (s : State) (b : Nat) (code : Nat) (cmp : Bool) (ga : Nat) :
    regAt (State.t2Reach s b code cmp).regs ga = regAt s.regs ga := by
  simp [State.t2Reach]
@[simp] theorem State.t2Clock_regs (s : State) (ga : Nat) (ho : Off [TB.SPEED.SPEED, TB.ANGLE, TB.STAMP, TB.STATUS.STATE, SCH.TARGET, SCH.PRED, SCH.RESID.RESID, SCH.STATUS.STATE,
      AX.PWM_CTRL.EN, AX.PWM_STATUS.COMMIT_PEND, AX.FOC_CTRL.RUN, AX.SPD_DERATE.TQ, AX.CMT_STATUS.STATE,
      AX.BUS_STATUS.CFG_REFUSED, AX.SAF_STATUS.STATE, BUS.STATUS.CHOP_ON, BUS.T2_TIME, BAB.IN_STATUS.STATE, BAB.IN_POS,
      MEM.CH_RETIRE.RETIRE, MEM.ECC_STATUS.CE, MEM.UE_FIRST_ADDR, MEM.UE_FIRST_INFO.MASTER, MEM.UE_FIRST_TIME,
      MEM.UE_LATEST_ADDR, MEM.UE_LATEST_INFO.INFO, MEM.UE_LATEST_TIME, MEM.CH_CNT.CE, MEM.SRAM_CNT.CE,
      AT.VIO_STATUS.FIRST_VALID, AT.VIO_FIRST_ADDR, AT.VIO_FIRST_INFO.MASTER, AT.VIO_FIRST_TIME, AT.VIO_LATEST_ADDR,
      AT.VIO_LATEST_INFO.INFO, AT.VIO_LATEST_TIME, SAF.STATUS.STATE, SAF.GROUP_STATE.LOW, SAF.FAULT_LAST.CODE,
      SAF.FAULT_TIME, REC.QUEUE.VALUE, REC.EVT_TOTAL] ga) (hq : ¬InSet .direct ga) : regAt s.t2Clock.regs ga = regAt s.regs ga := by
  simp only [Off_cons, Off_nil] at ho
  unfold State.t2Clock
  refine forEach_off _ _ _ _ fun s k => ?_
  split <;> simp [ho, hq]
@[simp] theorem State.gateByOv_regs (s : State) (b : Nat) (ga : Nat) (ho : Off [BUS.STATUS.CHOP_ON, REC.QUEUE.VALUE, REC.EVT_TOTAL] ga) :
    regAt (State.gateByOv s b).regs ga = regAt s.regs ga := by
  simp only [Off_cons, Off_nil] at ho
  simp [State.gateByOv, ho]
@[simp] theorem State.holdRun_regs (s : State) (b : Nat) (u : Nat) (ga : Nat) (ho : Off [BUS.STATUS.CHOP_ON, BUS.HOLD_LIM.L_BUS, REC.QUEUE.VALUE, REC.EVT_TOTAL] ga) :
    regAt (State.holdRun s b u).regs ga = regAt s.regs ga := by
  simp only [Off_cons, Off_nil] at ho
  simp [State.holdRun, ho]
@[simp] theorem State.busLimits_regs (s : State) (b : Nat) (u : Nat) (ga : Nat) (ho : Off [AX.SPD_BUS_LIM.LIM] ga) :
    regAt (State.busLimits s b u).regs ga = regAt s.regs ga := by
  simp only [Off_cons, Off_nil] at ho
  simp [State.busLimits, ho]
@[simp] theorem State.accRun_regs (s : State) (b : Nat) (u : Nat) (ga : Nat) :
    regAt (State.accRun s b u).regs ga = regAt s.regs ga := by
  simp [State.accRun]
@[simp] theorem State.accSnap_regs (s : State) (b : Nat) (ga : Nat) (ho : Off [BUS.E, BUS.ACC_SNAP_TIME] ga) :
    regAt (State.accSnap s b).regs ga = regAt s.regs ga := by
  simp only [Off_cons, Off_nil] at ho
  simp [State.accSnap, ho]
@[simp] theorem State.chopRun_regs (s : State) (b : Nat) (v : Nat) (held : Bool) (ga : Nat) (ho : Off [BUS.STATUS.CHOP_ON, REC.QUEUE.VALUE, REC.EVT_TOTAL] ga) :
    regAt (State.chopRun s b v held).regs ga = regAt s.regs ga := by
  simp only [Off_cons, Off_nil] at ho
  simp [State.chopRun, ho]
@[simp] theorem State.uvRun_regs (s : State) (b : Nat) (v : Nat) (ga : Nat) (ho : Off [TB.SPEED.SPEED, TB.ANGLE, TB.STAMP, TB.STATUS.STATE, SCH.TARGET, SCH.PRED, SCH.RESID.RESID, SCH.STATUS.STATE,
      AX.PWM_CTRL.EN, AX.FOC_CTRL.RUN, AX.SPD_DERATE.TQ, AX.CMT_STATUS.STATE, AX.SAF_STATUS.STATE, BUS.STATUS.CHOP_ON,
      BAB.IN_STATUS.STATE, BAB.IN_POS, MEM.CH_RETIRE.RETIRE, MEM.ECC_STATUS.CE, MEM.UE_FIRST_ADDR, MEM.UE_FIRST_INFO.MASTER,
      MEM.UE_FIRST_TIME, MEM.UE_LATEST_ADDR, MEM.UE_LATEST_INFO.INFO, MEM.UE_LATEST_TIME, MEM.CH_CNT.CE, MEM.SRAM_CNT.CE,
      AT.VIO_STATUS.FIRST_VALID, AT.VIO_FIRST_ADDR, AT.VIO_FIRST_INFO.MASTER, AT.VIO_FIRST_TIME, AT.VIO_LATEST_ADDR,
      AT.VIO_LATEST_INFO.INFO, AT.VIO_LATEST_TIME, SAF.STATUS.STATE, SAF.GROUP_STATE.LOW, SAF.FAULT_LAST.CODE,
      SAF.FAULT_TIME, REC.QUEUE.VALUE, REC.EVT_TOTAL] ga) (hq : ¬InSet .direct ga) :
    regAt (State.uvRun s b v).regs ga = regAt s.regs ga := by
  simp only [Off_cons, Off_nil] at ho
  simp [State.uvRun, ho, hq]
@[simp] theorem State.fxBusTh_regs (s : State) (b : Nat) (a : Nat) (v : Nat) (ga : Nat) (ho : Off [BUS.STATUS.CHOP_ON] ga) (hn : ga ≠ a) :
    regAt (State.fxBusTh s b a v).1.regs ga = regAt s.regs ga := by
  simp only [Off_cons, Off_nil] at ho
  simp [State.fxBusTh, ho, hn]
@[simp] theorem State.fxBusStatus_regs (s : State) (b : Nat) (v : Nat) (ga : Nat) (ho : Off [BUS.STATUS.CHOP_ON] ga) :
    regAt (State.fxBusStatus s b v).1.regs ga = regAt s.regs ga := by
  simp only [Off_cons, Off_nil] at ho
  simp [State.fxBusStatus, ho]
@[simp] theorem State.fxBusCtrl_regs (s : State) (b : Nat) (v : Nat) (ga : Nat) (ho : Off [BUS.CTRL.CHOP_PRESENT, BUS.STATUS.CHOP_ON] ga) :
    regAt (State.fxBusCtrl s b v).1.regs ga = regAt s.regs ga := by
  simp only [Off_cons, Off_nil] at ho
  simp [State.fxBusCtrl, ho]
@[simp] theorem State.fxAccCtrl_regs (s : State) (b : Nat) (v : Nat) (ga : Nat) (ho : Off [BUS.ACC_CTRL.CLEAR, BUS.E, BUS.ACC_SNAP_TIME] ga) :
    regAt (State.fxAccCtrl s b v).1.regs ga = regAt s.regs ga := by
  simp only [Off_cons, Off_nil] at ho
  simp [State.fxAccCtrl, ho]
@[simp] theorem State.fxAxBusCfg_regs (s : State) (n : Nat) (v : Nat) (ga : Nat) (ho : Off [AX.BUS_CFG.SEG, AX.BUS_STATUS.CFG_REFUSED] ga) :
    regAt (State.fxAxBusCfg s n v).1.regs ga = regAt s.regs ga := by
  simp only [Off_cons, Off_nil] at ho
  simp [State.fxAxBusCfg, ho]
@[simp] theorem State.convMark_regs (s : State) (n : Nat) (c : Nat) (cause : Nat) (ga : Nat) (ho : Off [AX.ADC_HEALTH.FAIL, REC.QUEUE.VALUE, REC.EVT_TOTAL] ga) :
    regAt (State.convMark s n c cause).regs ga = regAt s.regs ga := by
  simp only [Off_cons, Off_nil] at ho
  simp [State.convMark, ho]
@[simp] theorem State.convFail_regs (s : State) (n : Nat) (c : Nat) (cause : Nat) (ga : Nat) (ho : Off [TB.SPEED.SPEED, TB.ANGLE, TB.STAMP, TB.STATUS.STATE, SCH.TARGET, SCH.PRED, SCH.RESID.RESID, SCH.STATUS.STATE,
      AX.PWM_CTRL.EN, AX.ADC_HEALTH.FAIL, AX.FOC_CTRL.RUN, AX.SPD_DERATE.TQ, AX.CMT_STATUS.STATE, AX.SAF_STATUS.STATE,
      BAB.IN_STATUS.STATE, BAB.IN_POS, MEM.CH_RETIRE.RETIRE, MEM.ECC_STATUS.CE, MEM.UE_FIRST_ADDR, MEM.UE_FIRST_INFO.MASTER,
      MEM.UE_FIRST_TIME, MEM.UE_LATEST_ADDR, MEM.UE_LATEST_INFO.INFO, MEM.UE_LATEST_TIME, MEM.CH_CNT.CE, MEM.SRAM_CNT.CE,
      AT.VIO_STATUS.FIRST_VALID, AT.VIO_FIRST_ADDR, AT.VIO_FIRST_INFO.MASTER, AT.VIO_FIRST_TIME, AT.VIO_LATEST_ADDR,
      AT.VIO_LATEST_INFO.INFO, AT.VIO_LATEST_TIME, SAF.STATUS.STATE, SAF.GROUP_STATE.LOW, SAF.FAULT_LAST.CODE,
      SAF.FAULT_TIME, REC.QUEUE.VALUE, REC.EVT_TOTAL] ga) (hq : ¬InSet .direct ga) :
    regAt (State.convFail s n c cause).regs ga = regAt s.regs ga := by
  simp only [Off_cons, Off_nil] at ho
  simp [State.convFail, ho, hq]
@[simp] theorem State.chkCompare_regs (s : State) (n : Nat) (x : Nat) (main : Int) (k : Int) (ga : Nat) (ho : Off [TB.SPEED.SPEED, TB.ANGLE, TB.STAMP, TB.STATUS.STATE, SCH.TARGET, SCH.PRED, SCH.RESID.RESID, SCH.STATUS.STATE,
      AX.PWM_CTRL.EN, AX.ADC_STATUS.CHK_MISM, AX.ADC_HEALTH.FAIL, AX.FOC_CTRL.RUN, AX.SPD_DERATE.TQ, AX.CMT_STATUS.STATE,
      AX.SAF_STATUS.STATE, BAB.IN_STATUS.STATE, BAB.IN_POS, MEM.CH_RETIRE.RETIRE, MEM.ECC_STATUS.CE, MEM.UE_FIRST_ADDR,
      MEM.UE_FIRST_INFO.MASTER, MEM.UE_FIRST_TIME, MEM.UE_LATEST_ADDR, MEM.UE_LATEST_INFO.INFO, MEM.UE_LATEST_TIME,
      MEM.CH_CNT.CE, MEM.SRAM_CNT.CE, AT.VIO_STATUS.FIRST_VALID, AT.VIO_FIRST_ADDR, AT.VIO_FIRST_INFO.MASTER,
      AT.VIO_FIRST_TIME, AT.VIO_LATEST_ADDR, AT.VIO_LATEST_INFO.INFO, AT.VIO_LATEST_TIME, SAF.STATUS.STATE,
      SAF.GROUP_STATE.LOW, SAF.FAULT_LAST.CODE, SAF.FAULT_TIME, REC.QUEUE.VALUE, REC.EVT_TOTAL] ga) (hq : ¬InSet .direct ga) :
    regAt (State.chkCompare s n x main k).regs ga = regAt s.regs ga := by
  simp only [Off_cons, Off_nil] at ho
  unfold State.chkCompare; split <;> simp [ho, hq]
@[simp] theorem State.curSample_regs (s : State) (n : Nat) (c : Nat) (raw : Int) (ts : Nat) (ga : Nat) (ho : Off [AX.ADC_STATUS.CHK_MISM] ga) :
    regAt (State.curSample s n c raw ts).2.regs ga = regAt s.regs ga := by
  simp only [Off_cons, Off_nil] at ho
  simp [State.curSample, ho]
@[simp] theorem State.sampleCurrents_regs (s : State) (n : Nat) (ts : Nat) (ra : Int) (rb : Int) (rk : Int) (ga : Nat) (ho : Off [TB.SPEED.SPEED, TB.ANGLE, TB.STAMP, TB.STATUS.STATE, SCH.TARGET, SCH.PRED, SCH.RESID.RESID, SCH.STATUS.STATE,
      AX.PWM_CTRL.EN, AX.ADC_STATUS.CHK_MISM, AX.ADC_HEALTH.FAIL, AX.FOC_CTRL.RUN, AX.SPD_DERATE.TQ, AX.CMT_STATUS.STATE,
      AX.SAF_STATUS.STATE, BAB.IN_STATUS.STATE, BAB.IN_POS, MEM.CH_RETIRE.RETIRE, MEM.ECC_STATUS.CE, MEM.UE_FIRST_ADDR,
      MEM.UE_FIRST_INFO.MASTER, MEM.UE_FIRST_TIME, MEM.UE_LATEST_ADDR, MEM.UE_LATEST_INFO.INFO, MEM.UE_LATEST_TIME,
      MEM.CH_CNT.CE, MEM.SRAM_CNT.CE, AT.VIO_STATUS.FIRST_VALID, AT.VIO_FIRST_ADDR, AT.VIO_FIRST_INFO.MASTER,
      AT.VIO_FIRST_TIME, AT.VIO_LATEST_ADDR, AT.VIO_LATEST_INFO.INFO, AT.VIO_LATEST_TIME, SAF.STATUS.STATE,
      SAF.GROUP_STATE.LOW, SAF.FAULT_LAST.CODE, SAF.FAULT_TIME, REC.QUEUE.VALUE, REC.EVT_TOTAL] ga) (hq : ¬InSet .direct ga) :
    regAt (State.sampleCurrents s n ts ra rb rk).2.2.regs ga = regAt s.regs ga := by
  simp only [Off_cons, Off_nil] at ho
  simp [State.sampleCurrents, ho, hq]
@[simp] theorem State.trigDrop_regs (s : State) (n : Nat) (ga : Nat) (ho : Off [AX.ADC_STATUS.CHK_MISM] ga) :
    regAt (State.trigDrop s n).regs ga = regAt s.regs ga := by
  simp only [Off_cons, Off_nil] at ho
  simp [State.trigDrop, ho]
@[simp] theorem State.fxAdcCtrl_regs (s : State) (n : Nat) (v : Nat) (ga : Nat) (ho : Off [AX.ADC_CTRL.PD_AUTO] ga) :
    regAt (State.fxAdcCtrl s n v).1.regs ga = regAt s.regs ga := by
  simp only [Off_cons, Off_nil] at ho
  simp [State.fxAdcCtrl, ho]
@[simp] theorem State.measEnter_regs (s : State) (cold : Bool) (ga : Nat) :
    regAt (State.measEnter s cold).regs ga = regAt s.regs ga := by
  simp [State.measEnter]
@[simp] theorem State.pvDac_regs (s : State) (n : Nat) (j : Nat) (th : Nat) (ga : Nat) (ho : Off [AX.PV_DAC.TH] ga) :
    regAt (State.pvDac s n j th).regs ga = regAt s.regs ga := by
  simp only [Off_cons, Off_nil] at ho
  simp [State.pvDac, ho]
@[simp] theorem State.fxPvDac_regs (s : State) (n : Nat) (j : Nat) (v : Nat) (ga : Nat) (ho : Off [AX.PV_DAC.TH, AX.PV_STATUS.LEVEL] ga) :
    regAt (State.fxPvDac s n j v).1.regs ga = regAt s.regs ga := by
  simp only [Off_cons, Off_nil] at ho
  simp [State.fxPvDac, ho]
@[simp] theorem State.pvOwn_regs (s : State) (n : Nat) (j : Nat) (th : Nat) (ga : Nat) (ho : Off [AX.PV_DAC.TH] ga) :
    regAt (State.pvOwn s n j th).regs ga = regAt s.regs ga := by
  simp only [Off_cons, Off_nil] at ho
  simp [State.pvOwn, ho]
@[simp] theorem State.calSkipAx_regs (s : State) (sel : Nat) (skAx : Nat) (ga : Nat) (ho : Off [AX.ADC_STATUS.CHK_MISM] ga) :
    regAt (State.calSkipAx s sel skAx).regs ga = regAt s.regs ga := by
  simp only [Off_cons, Off_nil] at ho
  simp [State.calSkipAx, ho]
@[simp] theorem State.calSkipSeg_regs (s : State) (skSeg : Nat) (ga : Nat) (ho : Off [MF.CAL_STATUS.BUSY, BUS.STATUS.CHOP_ON, REC.QUEUE.VALUE, REC.EVT_TOTAL] ga) :
    regAt (State.calSkipSeg s skSeg).regs ga = regAt s.regs ga := by
  simp only [Off_cons, Off_nil] at ho
  simp [State.calSkipSeg, ho]
@[simp] theorem State.fxCalCmd_regs (s : State) (v : Nat) (ga : Nat) (ho : Off [AX.ADC_STATUS.CHK_MISM, MF.CAL_CMD.START, MF.CAL_STATUS.BUSY, BUS.STATUS.CHOP_ON, REC.QUEUE.VALUE, REC.EVT_TOTAL] ga) :
    regAt (State.fxCalCmd s v).1.regs ga = regAt s.regs ga := by
  simp only [Off_cons, Off_nil] at ho
  simp [State.fxCalCmd, ho]
@[simp] theorem State.calStore_regs (s : State) (i : Nat) (ofs : Int) (gain : Int) (ga : Nat) (ho : Off [TB.SPEED.SPEED, TB.ANGLE, TB.STAMP, TB.STATUS.STATE, SCH.TARGET, SCH.PRED, SCH.RESID.RESID, SCH.STATUS.STATE,
      AX.PWM_CTRL.EN, AX.ADC_HEALTH.FAIL, AX.CAL_OFS.OFS, AX.CAL_GAIN.GAIN, AX.FOC_CTRL.RUN, AX.SPD_DERATE.TQ,
      AX.CMT_STATUS.STATE, AX.SAF_STATUS.STATE, MF.CAL_OFS.OFS, MF.CAL_GAIN.GAIN, MF.DCB_STATUS.OV, MF.VIB_STATUS.SETTLING,
      BAB.IN_STATUS.STATE, BAB.IN_POS, MEM.CH_RETIRE.RETIRE, MEM.ECC_STATUS.CE, MEM.UE_FIRST_ADDR, MEM.UE_FIRST_INFO.MASTER,
      MEM.UE_FIRST_TIME, MEM.UE_LATEST_ADDR, MEM.UE_LATEST_INFO.INFO, MEM.UE_LATEST_TIME, MEM.CH_CNT.CE, MEM.SRAM_CNT.CE,
      AT.VIO_STATUS.FIRST_VALID, AT.VIO_FIRST_ADDR, AT.VIO_FIRST_INFO.MASTER, AT.VIO_FIRST_TIME, AT.VIO_LATEST_ADDR,
      AT.VIO_LATEST_INFO.INFO, AT.VIO_LATEST_TIME, SAF.STATUS.STATE, SAF.GROUP_STATE.LOW, SAF.FAULT_LAST.CODE,
      SAF.FAULT_TIME, REC.QUEUE.VALUE, REC.EVT_TOTAL] ga) (hq : ¬InSet .direct ga) :
    regAt (State.calStore s i ofs gain).regs ga = regAt s.regs ga := by
  simp only [Off_cons, Off_nil] at ho
  simp [State.calStore, ho, hq]
@[simp] theorem State.obsReplan_regs (s : State) (ga : Nat) (ho : Off [AX.OBS_STATUS.MODE, OBS.PLAN.SUM, OBS.PPLAN.SUM, OBS.STATUS.DEMOTE, REC.QUEUE.VALUE, REC.EVT_TOTAL] ga) :
    regAt (State.obsReplan s).regs ga = regAt s.regs ga := by
  simp only [Off_cons, Off_nil] at ho
  simp [State.obsReplan, ho]
@[simp] theorem State.axfRead_regs (s : State) (addr n : Nat) (ga : Nat) (ho : Off [MEM.CH_RETIRE.RETIRE, MEM.ECC_STATUS.CE, MEM.UE_FIRST_ADDR, MEM.UE_FIRST_INFO.MASTER, MEM.UE_FIRST_TIME,
      MEM.UE_LATEST_ADDR, MEM.UE_LATEST_INFO.INFO, MEM.UE_LATEST_TIME, MEM.CH_CNT.CE, MEM.SRAM_CNT.CE,
      AT.VIO_STATUS.FIRST_VALID, AT.VIO_FIRST_ADDR, AT.VIO_FIRST_INFO.MASTER, AT.VIO_FIRST_TIME, AT.VIO_LATEST_ADDR,
      AT.VIO_LATEST_INFO.INFO, AT.VIO_LATEST_TIME, REC.QUEUE.VALUE, REC.EVT_TOTAL] ga) : regAt (s.axfRead addr n).1.regs ga = regAt s.regs ga := by
  simp only [Off_cons, Off_nil] at ho
  unfold State.axfRead
  split <;> (rename_i heq; have hs := congrArg (fun x => x.1) heq; simp only at hs; subst hs) <;> simp [ho]
@[simp] theorem State.obsLoadStart_regs (s : State) (axis : Nat) (kind : Nat) (addr : Nat) (ga : Nat) (ho : Off [OBS.LOAD_STATUS.BUSY] ga) :
    regAt (State.obsLoadStart s axis kind addr).regs ga = regAt s.regs ga := by
  simp only [Off_cons, Off_nil] at ho
  simp [State.obsLoadStart, ho]
@[simp] theorem State.fxLoadCmd_regs (s : State) (v : Nat) (ga : Nat) (ho : Off [OBS.LOAD_CMD.GO, OBS.LOAD_STATUS.BUSY] ga) :
    regAt (State.fxLoadCmd s v).1.regs ga = regAt s.regs ga := by
  simp only [Off_cons, Off_nil] at ho
  simp [State.fxLoadCmd, ho]
@[simp] theorem State.obsLoadFinish_regs (s : State) (ga : Nat) (ho : Off [AX.OBS_STATUS.MODE, OBS.LOAD_STATUS.BUSY, OBS.ADM_LIP.VALUE, OBS.ADM_ERRB.VALUE, OBS.PLAN.SUM, OBS.PPLAN.SUM,
      OBS.STATUS.DEMOTE, MEM.CH_RETIRE.RETIRE, MEM.ECC_STATUS.CE, MEM.UE_FIRST_ADDR, MEM.UE_FIRST_INFO.MASTER,
      MEM.UE_FIRST_TIME, MEM.UE_LATEST_ADDR, MEM.UE_LATEST_INFO.INFO, MEM.UE_LATEST_TIME, MEM.CH_CNT.CE, MEM.SRAM_CNT.CE,
      AT.VIO_STATUS.FIRST_VALID, AT.VIO_FIRST_ADDR, AT.VIO_FIRST_INFO.MASTER, AT.VIO_FIRST_TIME, AT.VIO_LATEST_ADDR,
      AT.VIO_LATEST_INFO.INFO, AT.VIO_LATEST_TIME, REC.QUEUE.VALUE, REC.EVT_TOTAL] ga) :
    regAt (State.obsLoadFinish s).1.regs ga = regAt s.regs ga := by
  simp only [Off_cons, Off_nil] at ho
  unfold State.obsLoadFinish; split <;> simp [ho]
@[simp] theorem State.obsRemoveFinish_regs (s : State) (ga : Nat) (ho : Off [AX.OBS_STATUS.MODE, OBS.PLAN.SUM, OBS.PPLAN.SUM, OBS.STATUS.DEMOTE, REC.QUEUE.VALUE, REC.EVT_TOTAL] ga) :
    regAt (State.obsRemoveFinish s).regs ga = regAt s.regs ga := by
  simp only [Off_cons, Off_nil] at ho
  unfold State.obsRemoveFinish; split <;> simp [ho]
@[simp] theorem State.laneTake_regs (s : State) (i : Nat) (ga : Nat) :
    regAt (State.laneTake s i).regs ga = regAt s.regs ga := by
  unfold State.laneTake; dsimp only; (repeat' split) <;> simp
@[simp] theorem State.lanesTake_regs (s : State) (ga : Nat) :
    regAt (State.lanesTake s).regs ga = regAt s.regs ga := by
  simp [State.lanesTake]
@[simp] theorem State.lanesClock_regs (s : State) (ga : Nat) :
    regAt (State.lanesClock s).regs ga = regAt s.regs ga := by
  simp [State.lanesClock]
@[simp] theorem State.updEval_regs (s : State) (j : JobH) (f : EvalH → EvalH) (ga : Nat) :
    regAt (State.updEval s j f).regs ga = regAt s.regs ga := by
  simp [State.updEval]
@[simp] theorem State.bgReady_regs (s : State) (j : JobH) (ga : Nat) :
    regAt (State.bgReady s j).regs ga = regAt s.regs ga := by
  simp [State.bgReady]
@[simp] theorem State.laneComplete_regs (s : State) (i : Nat) (j : JobH) (defect : Option (List Int)) (ga : Nat) :
    regAt (State.laneComplete s i j defect).regs ga = regAt s.regs ga := by
  simp [State.laneComplete]
@[simp] theorem State.laneDrop_regs (s : State) (i : Nat) (ga : Nat) :
    regAt (State.laneDrop s i).regs ga = regAt s.regs ga := by
  unfold State.laneDrop; split <;> simp
@[simp] theorem State.laneFenceOne_regs (s : State) (i : Nat) (cause : Nat) (ga : Nat) (ho : Off [OBS.LANES.USABLE, REC.QUEUE.VALUE, REC.EVT_TOTAL] ga) :
    regAt (State.laneFenceOne s i cause).regs ga = regAt s.regs ga := by
  simp only [Off_cons, Off_nil] at ho
  simp [State.laneFenceOne, ho]
@[simp] theorem State.classicStep_regs (s : State) (n : Nat) (ts : Nat) (ialpha : Int) (ibeta : Int) (vbus : Nat) (ga : Nat) :
    regAt (State.classicStep s n ts ialpha ibeta vbus).regs ga = regAt s.regs ga := by
  simp [State.classicStep]

end Sys2Proof.Machine
end

