-- ==== Sys2Proof/Laws/Frame7.lean ====
section
/-!
SUPPORT. Which registers the operations of Estimate, FieldLoop, Commute change: every register of another field keeps its value.
-/
set_option linter.all false
namespace Sys2Proof.Machine
open Sys2Proof.Safety

@[simp] theorem State.evalRelease_regs (s : State) (n : Nat) (ts : Nat) (fg : Bool) (d : NetDef) (e : EvalH) (ga : Nat) :
    regAt (State.evalRelease s n ts fg d e).regs ga = regAt s.regs ga := by
  simp [State.evalRelease]
@[simp] theorem State.obsRelease_regs (s : State) (n : Nat) (ts : Nat) (ia : Int) (ib : Int) (ga : Nat) (ho : Off [AX.OBS_CNT.EVAL_CNT] ga) :
    regAt (State.obsRelease s n ts ia ib).2.regs ga = regAt s.regs ga := by
  simp only [Off_cons, Off_nil] at ho
  simp [State.obsRelease, ho]
@[simp] theorem State.obsClassical_regs (s : State) (n : Nat) (ga : Nat) (ho : Off [AX.OBS_STATUS.MODE] ga) :
    regAt (State.obsClassical s n).regs ga = regAt s.regs ga := by
  simp only [Off_cons, Off_nil] at ho
  simp [State.obsClassical, ho]
@[simp] theorem State.obsMismatch_regs (s : State) (n : Nat) (e : EvalH) (o : Nat) (invalid : Bool) (ga : Nat) (ho : Off [AX.OBS_STATUS.MODE, AX.OBS_CNT.EVAL_CNT, AX.OBS_LAST_MISM, REC.QUEUE.VALUE, REC.EVT_TOTAL] ga) :
    regAt (State.obsMismatch s n e o invalid).regs ga = regAt s.regs ga := by
  simp only [Off_cons, Off_nil] at ho
  simp [State.obsMismatch, ho]
@[simp] theorem State.obsEscalate_regs (s : State) (n : Nat) (ga : Nat) (ho : Off [AX.OBS_STATUS.MODE, REC.QUEUE.VALUE, REC.EVT_TOTAL] ga) :
    regAt (State.obsEscalate s n).regs ga = regAt s.regs ga := by
  simp only [Off_cons, Off_nil] at ho
  simp [State.obsEscalate, ho]
@[simp] theorem State.obsEscAct_regs (s : State) (n : Nat) (ga : Nat) (ho : Off [TB.SPEED.SPEED, TB.ANGLE, TB.STAMP, TB.STATUS.STATE, SCH.TARGET, SCH.PRED, SCH.RESID.RESID, SCH.STATUS.STATE,
      AX.PWM_CTRL.EN, AX.FOC_CTRL.RUN, AX.SPD_DERATE.TQ, AX.CMT_STATUS.STATE, AX.OBS_STATUS.MODE, AX.SAF_STATUS.STATE,
      BAB.IN_STATUS.STATE, BAB.IN_POS, MEM.CH_RETIRE.RETIRE, MEM.ECC_STATUS.CE, MEM.UE_FIRST_ADDR, MEM.UE_FIRST_INFO.MASTER,
      MEM.UE_FIRST_TIME, MEM.UE_LATEST_ADDR, MEM.UE_LATEST_INFO.INFO, MEM.UE_LATEST_TIME, MEM.CH_CNT.CE, MEM.SRAM_CNT.CE,
      AT.VIO_STATUS.FIRST_VALID, AT.VIO_FIRST_ADDR, AT.VIO_FIRST_INFO.MASTER, AT.VIO_FIRST_TIME, AT.VIO_LATEST_ADDR,
      AT.VIO_LATEST_INFO.INFO, AT.VIO_LATEST_TIME, SAF.STATUS.STATE, SAF.GROUP_STATE.LOW, SAF.FAULT_LAST.CODE,
      SAF.FAULT_TIME, REC.QUEUE.VALUE, REC.EVT_TOTAL] ga) (hq : ¬InSet .direct ga) :
    regAt (State.obsEscAct s n).regs ga = regAt s.regs ga := by
  simp only [Off_cons, Off_nil] at ho
  unfold State.obsEscAct; split <;> simp [ho, hq]
@[simp] theorem State.evalSelect_regs (s : State) (n : Nat) (e : EvalH) (ga : Nat) (ho : Off [AX.OBS_STATUS.MODE, AX.OBS_CNT.EVAL_CNT, AX.OBS_LAST_MISM, OBS.STATUS.DEMOTE, REC.QUEUE.VALUE, REC.EVT_TOTAL] ga) :
    regAt (State.evalSelect s n e).2.regs ga = regAt s.regs ga := by
  simp only [Off_cons, Off_nil] at ho
  unfold State.evalSelect; dsimp only; (repeat' split) <;> simp [ho]
@[simp] theorem State.bgJudge_regs (s : State) (n : Nat) (ga : Nat) (ho : Off [AX.OBS_STATUS.MODE, AX.OBS_CNT.EVAL_CNT, AX.OBS_LAST_MISM, OBS.STATUS.DEMOTE, REC.QUEUE.VALUE, REC.EVT_TOTAL] ga) :
    regAt (State.bgJudge s n).regs ga = regAt s.regs ga := by
  simp only [Off_cons, Off_nil] at ho
  simp [State.bgJudge, ho]
@[simp] theorem State.clampNote_regs (s : State) (n : Nat) (c : Bool) (ga : Nat) (ho : Off [AX.OBS_STATUS.MODE] ga) :
    regAt (State.clampNote s n c).regs ga = regAt s.regs ga := by
  simp only [Off_cons, Off_nil] at ho
  simp [State.clampNote, ho]
@[simp] theorem State.clampPosition_regs (s : State) (n : Nat) (ts : Nat) (th : Int) (om : Int) (ga : Nat) (ho : Off [AX.OBS_STATUS.MODE] ga) :
    regAt (State.clampPosition s n ts th om).2.2.regs ga = regAt s.regs ga := by
  simp only [Off_cons, Off_nil] at ho
  simp [State.clampPosition, ho]
@[simp] theorem State.clampTemp_regs (s : State) (n : Nat) (tw : Int) (tb : Option Int) (ga : Nat) (ho : Off [AX.OBS_STATUS.MODE] ga) :
    regAt (State.clampTemp s n tw tb).2.2.regs ga = regAt s.regs ga := by
  simp only [Off_cons, Off_nil] at ho
  unfold State.clampTemp; split <;> simp [ho]
@[simp] theorem State.clampLoad_regs (s : State) (n : Nat) (l : Int) (ga : Nat) (ho : Off [AX.OBS_STATUS.MODE] ga) :
    regAt (State.clampLoad s n l).2.regs ga = regAt s.regs ga := by
  simp only [Off_cons, Off_nil] at ho
  simp [State.clampLoad, ho]
@[simp] theorem State.obsPick_regs (s : State) (n kind : Nat) (es : List EvalH) (ga : Nat) (ho : Off [AX.OBS_STATUS.MODE, AX.OBS_CNT.EVAL_CNT, AX.OBS_LAST_MISM, OBS.STATUS.DEMOTE, REC.QUEUE.VALUE, REC.EVT_TOTAL] ga) :
    regAt (s.obsPick n kind es).2.2.regs ga = regAt s.regs ga := by
  have ho' := ho
  simp only [Off_cons, Off_nil] at ho'
  unfold State.obsPick
  split
  · rfl
  · split
    · rename_i e _
      have k := State.evalSelect_regs s n e ga (by simp [ho'])
      split <;> simp_all
    · dsimp only
      split
      · rfl
      · split
        · split <;> simp [ho']
        · rfl
@[simp] theorem State.deliverPosition_regs (s : State) (n : Nat) (ts : Nat) (es : List EvalH) (ga : Nat) (ho : Off [AX.OBS_STATUS.MODE, AX.OBS_CNT.EVAL_CNT, AX.OBS_LAST_MISM, OBS.STATUS.DEMOTE, REC.QUEUE.VALUE, REC.EVT_TOTAL] ga) :
    regAt (State.deliverPosition s n ts es).2.regs ga = regAt s.regs ga := by
  simp only [Off_cons, Off_nil] at ho
  simp [State.deliverPosition, ho]
@[simp] theorem State.deliverTemp_regs (s : State) (n : Nat) (ts : Nat) (es : List EvalH) (ga : Nat) (ho : Off [AX.OBS_STATUS.MODE, AX.OBS_CNT.EVAL_CNT, AX.OBS_LAST_MISM, OBS.STATUS.DEMOTE, REC.QUEUE.VALUE, REC.EVT_TOTAL] ga) :
    regAt (State.deliverTemp s n ts es).2.regs ga = regAt s.regs ga := by
  simp only [Off_cons, Off_nil] at ho
  simp [State.deliverTemp, ho]
@[simp] theorem State.deliverLoad_regs (s : State) (n : Nat) (ts : Nat) (es : List EvalH) (ga : Nat) (ho : Off [AX.OBS_STATUS.MODE, AX.OBS_CNT.EVAL_CNT, AX.OBS_LAST_MISM, OBS.STATUS.DEMOTE, REC.QUEUE.VALUE, REC.EVT_TOTAL] ga) :
    regAt (State.deliverLoad s n ts es).2.regs ga = regAt s.regs ga := by
  simp only [Off_cons, Off_nil] at ho
  simp [State.deliverLoad, ho]
@[simp] theorem State.obsDeliver_regs (s : State) (n : Nat) (ts : Nat) (es : List EvalH) (ga : Nat) (ho : Off [AX.OBS_STATUS.MODE, AX.OBS_CNT.EVAL_CNT, AX.OBS_LAST_MISM, AX.OBS_EST_THETA.THETA, AX.OBS_EST_OMEGA.OMEGA,
      AX.OBS_EST_T.T_W, AX.OBS_EST_LOAD.LOAD, AX.OBS_EST_STAMP, AX.OBS_EST_SRC.SRC, OBS.STATUS.DEMOTE, REC.QUEUE.VALUE,
      REC.EVT_TOTAL] ga) :
    regAt (State.obsDeliver s n ts es).regs ga = regAt s.regs ga := by
  simp only [Off_cons, Off_nil] at ho
  simp [State.obsDeliver, ho]
@[simp] theorem State.obsPreset_regs (s : State) (n : Nat) (th : Int) (om : Int) (t_ : Nat) (ga : Nat) (ho : Off [AX.CMT_CORR.VALUE, AX.CMT_SCORR.VALUE] ga) :
    regAt (State.obsPreset s n th om t_).regs ga = regAt s.regs ga := by
  simp only [Off_cons, Off_nil] at ho
  simp [State.obsPreset, ho]
@[simp] theorem State.obsEnable_regs (s : State) (n : Nat) (ga : Nat) (ho : Off [AX.OBS_STATUS.MODE] ga) :
    regAt (State.obsEnable s n).regs ga = regAt s.regs ga := by
  simp only [Off_cons, Off_nil] at ho
  simp [State.obsEnable, ho]
@[simp] theorem State.fxObsCfg_regs (s : State) (n : Nat) (v : Nat) (ga : Nat) (ho : Off [AX.OBS_CFG.PRIO_T, AX.OBS_STATUS.MODE, OBS.PLAN.SUM, OBS.PPLAN.SUM, OBS.STATUS.DEMOTE, REC.QUEUE.VALUE, REC.EVT_TOTAL] ga) :
    regAt (State.fxObsCfg s n v).1.regs ga = regAt s.regs ga := by
  simp only [Off_cons, Off_nil] at ho
  simp [State.fxObsCfg, ho]
@[simp] theorem State.torqueLimit_regs (s : State) (n : Nat) (iq : Int) (om : Int) (ga : Nat) (ho : Off [AX.SPD_STATUS.AT_TARGET, AX.BUS_ABS.DIQ, AX.BUS_STATUS.CFG_REFUSED] ga) :
    regAt (State.torqueLimit s n iq om).2.2.regs ga = regAt s.regs ga := by
  simp only [Off_cons, Off_nil] at ho
  simp [State.torqueLimit, ho]
@[simp] theorem State.phaseDuty_regs (s : State) (n : Nat) (j : Nat) (top : Nat) (nextB : Nat) (v : Int) (mm : Int) (i : Int) (ga : Nat) (ho : Off [AX.PWM_DUTY.D, AX.CMT_STATUS.STATE] ga) :
    regAt (State.phaseDuty s n j top nextB v mm i).regs ga = regAt s.regs ga := by
  simp only [Off_cons, Off_nil] at ho
  unfold State.phaseDuty; dsimp only; (repeat' split) <;> simp [ho]
@[simp] theorem State.atTarget_regs (s : State) (n : Nat) (ga : Nat) (ho : Off [AX.SPD_STATUS.AT_TARGET] ga) :
    regAt (State.atTarget s n).regs ga = regAt s.regs ga := by
  simp only [Off_cons, Off_nil] at ho
  simp [State.atTarget, ho]
@[simp] theorem State.rampStep_regs (s : State) (n : Nat) (dt : Nat) (v : Int) (ga : Nat) (ho : Off [AX.SPD_REF.REF, AX.SPD_STATUS.AT_TARGET] ga) :
    regAt (State.rampStep s n dt v).regs ga = regAt s.regs ga := by
  simp only [Off_cons, Off_nil] at ho
  simp [State.rampStep, ho]
@[simp] theorem State.speedStep_regs (s : State) (n : Nat) (ts : Nat) (man : Bool) (ga : Nat) (ho : Off [AX.SPD_REF.REF, AX.SPD_STATUS.AT_TARGET] ga) :
    regAt (State.speedStep s n ts man).regs ga = regAt s.regs ga := by
  simp only [Off_cons, Off_nil] at ho
  simp [State.speedStep, ho]
@[simp] theorem State.windowSkip_regs (s : State) (n : Nat) (k : Nat) (ga : Nat) (ho : Off [AX.CMT_FAIL_CNT.NONE] ga) :
    regAt (State.windowSkip s n k).regs ga = regAt s.regs ga := by
  simp only [Off_cons, Off_nil] at ho
  simp [State.windowSkip, ho]
@[simp] theorem State.windowTake_regs (s : State) (n : Nat) (k : Nat) (fwd : Bool) (tOpen : Nat) (b1 : Nat) (ga : Nat) (ho : Off [AX.CMT_STATUS.STATE, AX.CMT_CNT.QUALIFIED] ga) :
    regAt (State.windowTake s n k fwd tOpen b1).regs ga = regAt s.regs ga := by
  simp only [Off_cons, Off_nil] at ho
  simp [State.windowTake, ho]
@[simp] theorem State.planWindow_regs (s : State) (n : Nat) (st : StepH) (th : Int) (om : Int) (i : List Int) (ga : Nat) (ho : Off [AX.CMT_STATUS.STATE, AX.CMT_CNT.QUALIFIED, AX.CMT_FAIL_CNT.NONE] ga) :
    regAt (State.planWindow s n st th om i).regs ga = regAt s.regs ga := by
  simp only [Off_cons, Off_nil] at ho
  simp [State.planWindow, ho]
@[simp] theorem State.windowFailed_regs (s : State) (n : Nat) (ga : Nat) (ho : Off [TB.SPEED.SPEED, TB.ANGLE, TB.STAMP, TB.STATUS.STATE, SCH.TARGET, SCH.PRED, SCH.RESID.RESID, SCH.STATUS.STATE,
      AX.PWM_CTRL.EN, AX.FOC_CTRL.RUN, AX.SPD_DERATE.TQ, AX.CMT_STATUS.STATE, AX.SAF_STATUS.STATE, BAB.IN_STATUS.STATE,
      BAB.IN_POS, MEM.CH_RETIRE.RETIRE, MEM.ECC_STATUS.CE, MEM.UE_FIRST_ADDR, MEM.UE_FIRST_INFO.MASTER, MEM.UE_FIRST_TIME,
      MEM.UE_LATEST_ADDR, MEM.UE_LATEST_INFO.INFO, MEM.UE_LATEST_TIME, MEM.CH_CNT.CE, MEM.SRAM_CNT.CE,
      AT.VIO_STATUS.FIRST_VALID, AT.VIO_FIRST_ADDR, AT.VIO_FIRST_INFO.MASTER, AT.VIO_FIRST_TIME, AT.VIO_LATEST_ADDR,
      AT.VIO_LATEST_INFO.INFO, AT.VIO_LATEST_TIME, SAF.STATUS.STATE, SAF.GROUP_STATE.LOW, SAF.FAULT_LAST.CODE,
      SAF.FAULT_TIME, REC.QUEUE.VALUE, REC.EVT_TOTAL] ga) (hq : ¬InSet .direct ga) :
    regAt (State.windowFailed s n).regs ga = regAt s.regs ga := by
  simp only [Off_cons, Off_nil] at ho
  simp [State.windowFailed, ho, hq]
@[simp] theorem State.correct_regs (s : State) (n : Nat) (eps : Int) (tx : Nat) (ga : Nat) (ho : Off [AX.CMT_STATUS.STATE, AX.CMT_SCORR.VALUE, REC.QUEUE.VALUE, REC.EVT_TOTAL] ga) :
    regAt (State.correct s n eps tx).regs ga = regAt s.regs ga := by
  simp only [Off_cons, Off_nil] at ho
  simp [State.correct, ho]
@[simp] theorem State.correctLate_regs (s : State) (n : Nat) (ga : Nat) (ho : Off [AX.CMT_SCORR.VALUE] ga) :
    regAt (State.correctLate s n).regs ga = regAt s.regs ga := by
  simp only [Off_cons, Off_nil] at ho
  unfold State.correctLate; split <;> simp [ho]
@[simp] theorem State.crossing_regs (s : State) (n : Nat) (w : WinH) (tx : Nat) (ga : Nat) (ho : Off [TB.SPEED.SPEED, TB.ANGLE, TB.STAMP, TB.STATUS.STATE, SCH.TARGET, SCH.PRED, SCH.RESID.RESID, SCH.STATUS.STATE,
      AX.PWM_CTRL.EN, AX.FOC_CTRL.RUN, AX.SPD_DERATE.TQ, AX.CMT_STATUS.STATE, AX.CMT_CNT.QUALIFIED, AX.CMT_FAIL_CNT.NONE,
      AX.CMT_LAST, AX.CMT_LAST_ERR.VALUE, AX.CMT_SCORR.VALUE, AX.SAF_STATUS.STATE, BAB.IN_STATUS.STATE, BAB.IN_POS,
      MEM.CH_RETIRE.RETIRE, MEM.ECC_STATUS.CE, MEM.UE_FIRST_ADDR, MEM.UE_FIRST_INFO.MASTER, MEM.UE_FIRST_TIME,
      MEM.UE_LATEST_ADDR, MEM.UE_LATEST_INFO.INFO, MEM.UE_LATEST_TIME, MEM.CH_CNT.CE, MEM.SRAM_CNT.CE,
      AT.VIO_STATUS.FIRST_VALID, AT.VIO_FIRST_ADDR, AT.VIO_FIRST_INFO.MASTER, AT.VIO_FIRST_TIME, AT.VIO_LATEST_ADDR,
      AT.VIO_LATEST_INFO.INFO, AT.VIO_LATEST_TIME, SAF.STATUS.STATE, SAF.GROUP_STATE.LOW, SAF.FAULT_LAST.CODE,
      SAF.FAULT_TIME, REC.QUEUE.VALUE, REC.EVT_TOTAL] ga) (hq : ¬InSet .direct ga) :
    regAt (State.crossing s n w tx).regs ga = regAt s.regs ga := by
  simp only [Off_cons, Off_nil] at ho
  simp [State.crossing, ho, hq]
@[simp] theorem State.countBounces_regs (s : State) (n : Nat) (c : Nat) (ga : Nat) (ho : Off [AX.CMT_CNT.QUALIFIED] ga) :
    regAt (State.countBounces s n c).regs ga = regAt s.regs ga := by
  simp only [Off_cons, Off_nil] at ho
  unfold State.countBounces; split <;> simp [ho]
@[simp] theorem State.pvChange_regs (s : State) (n : Nat) (j : Nat) (level : Bool) (stamp : Nat) (settle : Bool) (ga : Nat) (ho : Off [AX.PV_STATUS.LEVEL, AX.CMT_CNT.QUALIFIED] ga) :
    regAt (State.pvChange s n j level stamp settle).regs ga = regAt s.regs ga := by
  simp only [Off_cons, Off_nil] at ho
  unfold State.pvChange; dsimp only; (repeat' split) <;> simp [ho]
@[simp] theorem State.listen_regs (s : State) (n : Nat) (st : Nat) (ga : Nat) (ho : Off [AX.PV_DAC.TH, AX.CMT_STATUS.STATE] ga) :
    regAt (State.listen s n st).regs ga = regAt s.regs ga := by
  simp only [Off_cons, Off_nil] at ho
  simp [State.listen, ho]
@[simp] theorem State.startFail_regs (s : State) (n : Nat) (result : Nat) (ga : Nat) (ho : Off [AX.PWM_CTRL.EN, AX.CMT_STATUS.STATE, REC.QUEUE.VALUE, REC.EVT_TOTAL] ga) :
    regAt (State.startFail s n result).regs ga = regAt s.regs ga := by
  simp only [Off_cons, Off_nil] at ho
  simp [State.startFail, ho]
@[simp] theorem State.catchMotor_regs (s : State) (n : Nat) (th : Int) (om : Int) (t4 : Nat) (ga : Nat) (ho : Off [AX.FOC_CTRL.RUN, AX.SPD_REF.REF, AX.SPD_STATUS.AT_TARGET, AX.CMT_STATUS.STATE, AX.CMT_CORR.VALUE, AX.CMT_SCORR.VALUE,
      REC.QUEUE.VALUE, REC.EVT_TOTAL] ga) :
    regAt (State.catchMotor s n th om t4).regs ga = regAt s.regs ga := by
  simp only [Off_cons, Off_nil] at ho
  simp [State.catchMotor, ho]
@[simp] theorem State.openBegin_regs (s : State) (n : Nat) (angle : Int) (ga : Nat) (ho : Off [AX.SPD_REF.REF, AX.SPD_STATUS.AT_TARGET, AX.CMT_STATUS.STATE] ga) :
    regAt (State.openBegin s n angle).regs ga = regAt s.regs ga := by
  simp only [Off_cons, Off_nil] at ho
  simp [State.openBegin, ho]
@[simp] theorem State.standstill_regs (s : State) (n : Nat) (ga : Nat) (ho : Off [AX.PWM_CTRL.EN, AX.SPD_REF.REF, AX.SPD_STATUS.AT_TARGET, AX.CMT_STATUS.STATE, REC.QUEUE.VALUE, REC.EVT_TOTAL] ga) :
    regAt (State.standstill s n).regs ga = regAt s.regs ga := by
  simp only [Off_cons, Off_nil] at ho
  unfold State.standstill; split <;> simp [ho]
@[simp] theorem State.decideMotion_regs (s : State) (n : Nat) (th : Int) (om : Int) (t4 : Nat) (ga : Nat) (ho : Off [AX.PWM_CTRL.EN, AX.PV_DAC.TH, AX.FOC_CTRL.RUN, AX.SPD_REF.REF, AX.SPD_STATUS.AT_TARGET, AX.CMT_STATUS.STATE,
      AX.CMT_CORR.VALUE, AX.CMT_SCORR.VALUE, REC.QUEUE.VALUE, REC.EVT_TOTAL] ga) :
    regAt (State.decideMotion s n th om t4).regs ga = regAt s.regs ga := by
  simp only [Off_cons, Off_nil] at ho
  simp [State.decideMotion, ho]
@[simp] theorem State.handover_regs (s : State) (n : Nat) (ts : Nat) (ga : Nat) (ho : Off [AX.FOC_CTRL.RUN, AX.FOC_STATUS.SECTOR, AX.CMT_STATUS.STATE, AX.CMT_CORR.VALUE, AX.CMT_SCORR.VALUE, REC.QUEUE.VALUE,
      REC.EVT_TOTAL] ga) :
    regAt (State.handover s n ts).regs ga = regAt s.regs ga := by
  simp only [Off_cons, Off_nil] at ho
  unfold State.handover; dsimp only; (repeat' split) <;> simp [ho]
@[simp] theorem State.startAngle_regs (s : State) (n : Nat) (ts : Nat) (ga : Nat) (ho : Off [AX.SPD_REF.REF, AX.SPD_STATUS.AT_TARGET] ga) :
    regAt (State.startAngle s n ts).2.2.regs ga = regAt s.regs ga := by
  simp only [Off_cons, Off_nil] at ho
  simp [State.startAngle, ho]
@[simp] theorem State.abortClock_regs (s : State) (ga : Nat) (ho : Off [AX.PWM_CTRL.EN, AX.CMT_STATUS.STATE, REC.QUEUE.VALUE, REC.EVT_TOTAL] ga) :
    regAt (State.abortClock s).regs ga = regAt s.regs ga := by
  simp only [Off_cons, Off_nil] at ho
  simp [State.abortClock, ho]
@[simp] theorem State.fxCmtStart_regs (s : State) (n : Nat) (v : Nat) (ga : Nat) (ho : Off [AX.PV_DAC.TH, AX.CMT_STATUS.STATE] ga) :
    regAt (State.fxCmtStart s n v).1.regs ga = regAt s.regs ga := by
  simp only [Off_cons, Off_nil] at ho
  simp [State.fxCmtStart, ho]
@[simp] theorem State.fxCmtCtrl_regs (s : State) (n : Nat) (v : Nat) (ga : Nat) (ho : Off [AX.CMT_CTRL.LW_EN, AX.CMT_STATUS.STATE] ga) :
    regAt (State.fxCmtCtrl s n v).1.regs ga = regAt s.regs ga := by
  simp only [Off_cons, Off_nil] at ho
  simp [State.fxCmtCtrl, ho]
@[simp] theorem State.fxCmtLw_regs (s : State) (n : Nat) (v : Nat) (ga : Nat) (ho : Off [AX.CMT_LW.LEN] ga) :
    regAt (State.fxCmtLw s n v).1.regs ga = regAt s.regs ga := by
  simp only [Off_cons, Off_nil] at ho
  simp [State.fxCmtLw, ho]

end Sys2Proof.Machine
end

