-- ==== Sys2Proof/Laws/Frame8.lean ====
section
/-!
SUPPORT. Which registers the operations of LoopStep, SafetyIo, SafetyCycle, Ageing, Supervisor change: every register of another field keeps
its value.
-/
set_option linter.all false
namespace Sys2Proof.Machine
open Sys2Proof.Safety

@[simp] theorem State.stepPosition_regs (s : State) (n : Nat) (st : StepH) (ga : Nat) (ho : Off [TB.SPEED.SPEED, TB.ANGLE, TB.STAMP, TB.STATUS.STATE, SCH.TARGET, SCH.PRED, SCH.RESID.RESID, SCH.STATUS.STATE,
      AX.SPD_REF.REF, AX.SPD_STATUS.AT_TARGET, AX.CMT_CORR.VALUE, BAB.IN_STATUS.STATE, BAB.IN_POS, MEM.CH_RETIRE.RETIRE,
      MEM.ECC_STATUS.CE, MEM.UE_FIRST_ADDR, MEM.UE_FIRST_INFO.MASTER, MEM.UE_FIRST_TIME, MEM.UE_LATEST_ADDR,
      MEM.UE_LATEST_INFO.INFO, MEM.UE_LATEST_TIME, MEM.CH_CNT.CE, MEM.SRAM_CNT.CE, AT.VIO_STATUS.FIRST_VALID,
      AT.VIO_FIRST_ADDR, AT.VIO_FIRST_INFO.MASTER, AT.VIO_FIRST_TIME, AT.VIO_LATEST_ADDR, AT.VIO_LATEST_INFO.INFO,
      AT.VIO_LATEST_TIME, REC.QUEUE.VALUE, REC.EVT_TOTAL] ga) (hq : ¬InSet .direct ga) :
    regAt (State.stepPosition s n st).2.2.regs ga = regAt s.regs ga := by
  simp only [Off_cons, Off_nil] at ho
  simp [State.stepPosition, ho, hq]
@[simp] theorem State.transfers_regs (s : State) (n : Nat) (st : StepH) (ffd : Int) (ffq : Int) (iq : Int) (ga : Nat) (ho : Off [AX.FOC_STATUS.SECTOR, AX.SPD_STATUS.AT_TARGET] ga) :
    regAt (State.transfers s n st ffd ffq iq).regs ga = regAt s.regs ga := by
  simp only [Off_cons, Off_nil] at ho
  simp [State.transfers, ho]
@[simp] theorem State.stepRefs_regs (s : State) (n : Nat) (st : StepH) (om : Int) (ga : Nat) (ho : Off [AX.FOC_IQ_REF.VALUE, AX.SPD_STATUS.AT_TARGET, AX.BUS_ABS.DIQ, AX.BUS_STATUS.CFG_REFUSED] ga) :
    regAt (State.stepRefs s n st om).2.2.regs ga = regAt s.regs ga := by
  simp only [Off_cons, Off_nil] at ho
  unfold State.stepRefs; dsimp only; (repeat' split) <;> simp [ho]
@[simp] theorem State.stepCurrent_regs (s : State) (n : Nat) (st : StepH) (th : Int) (om : Int) (ga : Nat) (ho : Off [AX.PWM_DUTY.D, AX.PWM_STATUS.COMMIT_PEND, AX.FOC_IQ_REF.VALUE, AX.FOC_VD_MAN.VALUE, AX.FOC_VQ_MAN.VALUE,
      AX.FOC_STATUS.SECTOR, AX.FOC_VBUS.VBUS, AX.SPD_STATUS.AT_TARGET, AX.CMT_STATUS.STATE, AX.CMT_CNT.QUALIFIED,
      AX.CMT_FAIL_CNT.NONE, AX.BUS_ABS.DIQ, AX.BUS_STATUS.CFG_REFUSED] ga) :
    regAt (State.stepCurrent s n st th om).regs ga = regAt s.regs ga := by
  simp only [Off_cons, Off_nil] at ho
  simp [State.stepCurrent, ho]
@[simp] theorem State.sendShadow_regs (s : State) (n : Nat) (st : StepH) (ga : Nat) :
    regAt (State.sendShadow s n st).regs ga = regAt s.regs ga := by
  simp [State.sendShadow]
@[simp] theorem State.concludeStep_regs (s : State) (n : Nat) (ga : Nat) (ho : Off [TB.SPEED.SPEED, TB.ANGLE, TB.STAMP, TB.STATUS.STATE, SCH.TARGET, SCH.PRED, SCH.RESID.RESID, SCH.STATUS.STATE,
      AX.PWM_DUTY.D, AX.PWM_STATUS.COMMIT_PEND, AX.FOC_IQ_REF.VALUE, AX.FOC_VD_MAN.VALUE, AX.FOC_VQ_MAN.VALUE,
      AX.FOC_STATUS.SECTOR, AX.FOC_VBUS.VBUS, AX.SPD_REF.REF, AX.SPD_STATUS.AT_TARGET, AX.CMT_STATUS.STATE,
      AX.CMT_CNT.QUALIFIED, AX.CMT_FAIL_CNT.NONE, AX.CMT_CORR.VALUE, AX.CMT_SCORR.VALUE, AX.BUS_ABS.DIQ,
      AX.BUS_STATUS.CFG_REFUSED, AX.OBS_STATUS.MODE, AX.OBS_CNT.EVAL_CNT, AX.OBS_LAST_MISM, AX.OBS_EST_THETA.THETA,
      AX.OBS_EST_OMEGA.OMEGA, AX.OBS_EST_T.T_W, AX.OBS_EST_LOAD.LOAD, AX.OBS_EST_STAMP, AX.OBS_EST_SRC.SRC,
      OBS.STATUS.DEMOTE, BAB.IN_STATUS.STATE, BAB.IN_POS, MEM.CH_RETIRE.RETIRE, MEM.ECC_STATUS.CE, MEM.UE_FIRST_ADDR,
      MEM.UE_FIRST_INFO.MASTER, MEM.UE_FIRST_TIME, MEM.UE_LATEST_ADDR, MEM.UE_LATEST_INFO.INFO, MEM.UE_LATEST_TIME,
      MEM.CH_CNT.CE, MEM.SRAM_CNT.CE, AT.VIO_STATUS.FIRST_VALID, AT.VIO_FIRST_ADDR, AT.VIO_FIRST_INFO.MASTER,
      AT.VIO_FIRST_TIME, AT.VIO_LATEST_ADDR, AT.VIO_LATEST_INFO.INFO, AT.VIO_LATEST_TIME, REC.QUEUE.VALUE, REC.EVT_TOTAL] ga) (hq : ¬InSet .direct ga) :
    regAt (State.concludeStep s n).regs ga = regAt s.regs ga := by
  simp only [Off_cons, Off_nil] at ho
  unfold State.concludeStep; split <;> simp [ho, hq]
@[simp] theorem State.tryConclude_regs (s : State) (n : Nat) (ga : Nat) (ho : Off [TB.SPEED.SPEED, TB.ANGLE, TB.STAMP, TB.STATUS.STATE, SCH.TARGET, SCH.PRED, SCH.RESID.RESID, SCH.STATUS.STATE,
      AX.PWM_DUTY.D, AX.PWM_STATUS.COMMIT_PEND, AX.FOC_IQ_REF.VALUE, AX.FOC_VD_MAN.VALUE, AX.FOC_VQ_MAN.VALUE,
      AX.FOC_STATUS.SECTOR, AX.FOC_VBUS.VBUS, AX.SPD_REF.REF, AX.SPD_STATUS.AT_TARGET, AX.CMT_STATUS.STATE,
      AX.CMT_CNT.QUALIFIED, AX.CMT_FAIL_CNT.NONE, AX.CMT_CORR.VALUE, AX.CMT_SCORR.VALUE, AX.BUS_ABS.DIQ,
      AX.BUS_STATUS.CFG_REFUSED, AX.OBS_STATUS.MODE, AX.OBS_CNT.EVAL_CNT, AX.OBS_LAST_MISM, AX.OBS_EST_THETA.THETA,
      AX.OBS_EST_OMEGA.OMEGA, AX.OBS_EST_T.T_W, AX.OBS_EST_LOAD.LOAD, AX.OBS_EST_STAMP, AX.OBS_EST_SRC.SRC,
      OBS.STATUS.DEMOTE, BAB.IN_STATUS.STATE, BAB.IN_POS, MEM.CH_RETIRE.RETIRE, MEM.ECC_STATUS.CE, MEM.UE_FIRST_ADDR,
      MEM.UE_FIRST_INFO.MASTER, MEM.UE_FIRST_TIME, MEM.UE_LATEST_ADDR, MEM.UE_LATEST_INFO.INFO, MEM.UE_LATEST_TIME,
      MEM.CH_CNT.CE, MEM.SRAM_CNT.CE, AT.VIO_STATUS.FIRST_VALID, AT.VIO_FIRST_ADDR, AT.VIO_FIRST_INFO.MASTER,
      AT.VIO_FIRST_TIME, AT.VIO_LATEST_ADDR, AT.VIO_LATEST_INFO.INFO, AT.VIO_LATEST_TIME, REC.QUEUE.VALUE, REC.EVT_TOTAL] ga) (hq : ¬InSet .direct ga) :
    regAt (State.tryConclude s n).regs ga = regAt s.regs ga := by
  simp only [Off_cons, Off_nil] at ho
  unfold State.tryConclude; split <;> simp [ho, hq]
@[simp] theorem State.stepLate_regs (s : State) (n : Nat) (ga : Nat) :
    regAt (State.stepLate s n).regs ga = regAt s.regs ga := by
  simp [State.stepLate]
@[simp] theorem State.stepStart_regs (s : State) (n : Nat) (ts : Nat) (mode : Nat) (ra : Int) (rb : Int) (rk : Int) (ga : Nat) (ho : Off [TB.SPEED.SPEED, TB.ANGLE, TB.STAMP, TB.STATUS.STATE, SCH.TARGET, SCH.PRED, SCH.RESID.RESID, SCH.STATUS.STATE,
      AX.PWM_CTRL.EN, AX.ADC_STATUS.CHK_MISM, AX.ADC_HEALTH.FAIL, AX.FOC_CTRL.RUN, AX.FOC_STATUS.SECTOR, AX.SPD_DERATE.TQ,
      AX.CMT_STATUS.STATE, AX.CMT_CORR.VALUE, AX.CMT_SCORR.VALUE, AX.OBS_CNT.EVAL_CNT, AX.SAF_STATUS.STATE,
      BAB.IN_STATUS.STATE, BAB.IN_POS, MEM.CH_RETIRE.RETIRE, MEM.ECC_STATUS.CE, MEM.UE_FIRST_ADDR, MEM.UE_FIRST_INFO.MASTER,
      MEM.UE_FIRST_TIME, MEM.UE_LATEST_ADDR, MEM.UE_LATEST_INFO.INFO, MEM.UE_LATEST_TIME, MEM.CH_CNT.CE, MEM.SRAM_CNT.CE,
      AT.VIO_STATUS.FIRST_VALID, AT.VIO_FIRST_ADDR, AT.VIO_FIRST_INFO.MASTER, AT.VIO_FIRST_TIME, AT.VIO_LATEST_ADDR,
      AT.VIO_LATEST_INFO.INFO, AT.VIO_LATEST_TIME, SAF.STATUS.STATE, SAF.GROUP_STATE.LOW, SAF.FAULT_LAST.CODE,
      SAF.FAULT_TIME, REC.QUEUE.VALUE, REC.EVT_TOTAL] ga) (hq : ¬InSet .direct ga) :
    regAt (State.stepStart s n ts mode ra rb rk).regs ga = regAt s.regs ga := by
  simp only [Off_cons, Off_nil] at ho
  simp [State.stepStart, ho, hq]
@[simp] theorem State.laneDone_regs (s : State) (i : Nat) (defect : Option (List Int)) (ga : Nat) (ho : Off [TB.SPEED.SPEED, TB.ANGLE, TB.STAMP, TB.STATUS.STATE, SCH.TARGET, SCH.PRED, SCH.RESID.RESID, SCH.STATUS.STATE,
      AX.PWM_DUTY.D, AX.PWM_STATUS.COMMIT_PEND, AX.FOC_IQ_REF.VALUE, AX.FOC_VD_MAN.VALUE, AX.FOC_VQ_MAN.VALUE,
      AX.FOC_STATUS.SECTOR, AX.FOC_VBUS.VBUS, AX.SPD_REF.REF, AX.SPD_STATUS.AT_TARGET, AX.CMT_STATUS.STATE,
      AX.CMT_CNT.QUALIFIED, AX.CMT_FAIL_CNT.NONE, AX.CMT_CORR.VALUE, AX.CMT_SCORR.VALUE, AX.BUS_ABS.DIQ,
      AX.BUS_STATUS.CFG_REFUSED, AX.OBS_STATUS.MODE, AX.OBS_CNT.EVAL_CNT, AX.OBS_LAST_MISM, AX.OBS_EST_THETA.THETA,
      AX.OBS_EST_OMEGA.OMEGA, AX.OBS_EST_T.T_W, AX.OBS_EST_LOAD.LOAD, AX.OBS_EST_STAMP, AX.OBS_EST_SRC.SRC,
      OBS.STATUS.DEMOTE, BAB.IN_STATUS.STATE, BAB.IN_POS, MEM.CH_RETIRE.RETIRE, MEM.ECC_STATUS.CE, MEM.UE_FIRST_ADDR,
      MEM.UE_FIRST_INFO.MASTER, MEM.UE_FIRST_TIME, MEM.UE_LATEST_ADDR, MEM.UE_LATEST_INFO.INFO, MEM.UE_LATEST_TIME,
      MEM.CH_CNT.CE, MEM.SRAM_CNT.CE, AT.VIO_STATUS.FIRST_VALID, AT.VIO_FIRST_ADDR, AT.VIO_FIRST_INFO.MASTER,
      AT.VIO_FIRST_TIME, AT.VIO_LATEST_ADDR, AT.VIO_LATEST_INFO.INFO, AT.VIO_LATEST_TIME, REC.QUEUE.VALUE, REC.EVT_TOTAL] ga) (hq : ¬InSet .direct ga) :
    regAt (State.laneDone s i defect).regs ga = regAt s.regs ga := by
  simp only [Off_cons, Off_nil] at ho
  unfold State.laneDone; split <;> simp [ho, hq]
@[simp] theorem State.lanesFence_regs (s : State) (ls : List Nat) (cause : Nat) (ga : Nat) (ho : Off [TB.SPEED.SPEED, TB.ANGLE, TB.STAMP, TB.STATUS.STATE, SCH.TARGET, SCH.PRED, SCH.RESID.RESID, SCH.STATUS.STATE,
      AX.PWM_DUTY.D, AX.PWM_STATUS.COMMIT_PEND, AX.FOC_IQ_REF.VALUE, AX.FOC_VD_MAN.VALUE, AX.FOC_VQ_MAN.VALUE,
      AX.FOC_STATUS.SECTOR, AX.FOC_VBUS.VBUS, AX.SPD_REF.REF, AX.SPD_STATUS.AT_TARGET, AX.CMT_STATUS.STATE,
      AX.CMT_CNT.QUALIFIED, AX.CMT_FAIL_CNT.NONE, AX.CMT_CORR.VALUE, AX.CMT_SCORR.VALUE, AX.BUS_ABS.DIQ,
      AX.BUS_STATUS.CFG_REFUSED, AX.OBS_STATUS.MODE, AX.OBS_CNT.EVAL_CNT, AX.OBS_LAST_MISM, AX.OBS_EST_THETA.THETA,
      AX.OBS_EST_OMEGA.OMEGA, AX.OBS_EST_T.T_W, AX.OBS_EST_LOAD.LOAD, AX.OBS_EST_STAMP, AX.OBS_EST_SRC.SRC, OBS.LANES.USABLE,
      OBS.PLAN.SUM, OBS.PPLAN.SUM, OBS.STATUS.DEMOTE, BAB.IN_STATUS.STATE, BAB.IN_POS, MEM.CH_RETIRE.RETIRE,
      MEM.ECC_STATUS.CE, MEM.UE_FIRST_ADDR, MEM.UE_FIRST_INFO.MASTER, MEM.UE_FIRST_TIME, MEM.UE_LATEST_ADDR,
      MEM.UE_LATEST_INFO.INFO, MEM.UE_LATEST_TIME, MEM.CH_CNT.CE, MEM.SRAM_CNT.CE, AT.VIO_STATUS.FIRST_VALID,
      AT.VIO_FIRST_ADDR, AT.VIO_FIRST_INFO.MASTER, AT.VIO_FIRST_TIME, AT.VIO_LATEST_ADDR, AT.VIO_LATEST_INFO.INFO,
      AT.VIO_LATEST_TIME, REC.QUEUE.VALUE, REC.EVT_TOTAL] ga) (hq : ¬InSet .direct ga) :
    regAt (State.lanesFence s ls cause).regs ga = regAt s.regs ga := by
  simp only [Off_cons, Off_nil] at ho
  simp [State.lanesFence, ho, hq]
@[simp] theorem State.fxLaneFence_regs (s : State) (v : Nat) (ga : Nat) (ho : Off [TB.SPEED.SPEED, TB.ANGLE, TB.STAMP, TB.STATUS.STATE, SCH.TARGET, SCH.PRED, SCH.RESID.RESID, SCH.STATUS.STATE,
      AX.PWM_DUTY.D, AX.PWM_STATUS.COMMIT_PEND, AX.FOC_IQ_REF.VALUE, AX.FOC_VD_MAN.VALUE, AX.FOC_VQ_MAN.VALUE,
      AX.FOC_STATUS.SECTOR, AX.FOC_VBUS.VBUS, AX.SPD_REF.REF, AX.SPD_STATUS.AT_TARGET, AX.CMT_STATUS.STATE,
      AX.CMT_CNT.QUALIFIED, AX.CMT_FAIL_CNT.NONE, AX.CMT_CORR.VALUE, AX.CMT_SCORR.VALUE, AX.BUS_ABS.DIQ,
      AX.BUS_STATUS.CFG_REFUSED, AX.OBS_STATUS.MODE, AX.OBS_CNT.EVAL_CNT, AX.OBS_LAST_MISM, AX.OBS_EST_THETA.THETA,
      AX.OBS_EST_OMEGA.OMEGA, AX.OBS_EST_T.T_W, AX.OBS_EST_LOAD.LOAD, AX.OBS_EST_STAMP, AX.OBS_EST_SRC.SRC, OBS.LANES.USABLE,
      OBS.LANE_FENCE.FENCE, OBS.PLAN.SUM, OBS.PPLAN.SUM, OBS.STATUS.DEMOTE, BAB.IN_STATUS.STATE, BAB.IN_POS,
      MEM.CH_RETIRE.RETIRE, MEM.ECC_STATUS.CE, MEM.UE_FIRST_ADDR, MEM.UE_FIRST_INFO.MASTER, MEM.UE_FIRST_TIME,
      MEM.UE_LATEST_ADDR, MEM.UE_LATEST_INFO.INFO, MEM.UE_LATEST_TIME, MEM.CH_CNT.CE, MEM.SRAM_CNT.CE,
      AT.VIO_STATUS.FIRST_VALID, AT.VIO_FIRST_ADDR, AT.VIO_FIRST_INFO.MASTER, AT.VIO_FIRST_TIME, AT.VIO_LATEST_ADDR,
      AT.VIO_LATEST_INFO.INFO, AT.VIO_LATEST_TIME, REC.QUEUE.VALUE, REC.EVT_TOTAL] ga) (hq : ¬InSet .direct ga) :
    regAt (State.fxLaneFence s v).1.regs ga = regAt s.regs ga := by
  simp only [Off_cons, Off_nil] at ho
  simp [State.fxLaneFence, ho, hq]
@[simp] theorem State.fxFocCtrl_regs (s : State) (n : Nat) (v : Nat) (ga : Nat) (ho : Off [AX.FOC_CTRL.RUN, AX.CMT_STATUS.STATE] ga) :
    regAt (State.fxFocCtrl s n v).1.regs ga = regAt s.regs ga := by
  simp only [Off_cons, Off_nil] at ho
  simp [State.fxFocCtrl, ho]
@[simp] theorem State.fxFocManual_regs (s : State) (n : Nat) (a : Nat) (v : Nat) (ga : Nat) (ho : Off [AX.FOC_STATUS.SECTOR] ga) (hn : ga ≠ a) :
    regAt (State.fxFocManual s n a v).1.regs ga = regAt s.regs ga := by
  simp only [Off_cons, Off_nil] at ho
  simp [State.fxFocManual, ho, hn]
@[simp] theorem State.fxCmpCfg_regs (s : State) (n which v : Nat) (ga : Nat) (hc : ¬InSet .compensators ga) :
    regAt (s.fxCmpCfg n which v).1.regs ga = regAt s.regs ga := by
  have key : ∀ b ∈ [cmpD n, cmpQ n, cmpS n], ga ≠ b := fun b hb e => hc ⟨n, b, hb, by omega, by omega⟩
  have h0 : ga ≠ (if which = 0 then cmpD n else if which = 1 then cmpQ n else cmpS n) := by
    (repeat' split) <;> exact key _ (by simp)
  unfold State.fxCmpCfg
  dsimp only
  split <;> simp [writeFields_off _ _ _ _ h0]
@[simp] theorem State.fxSpdCtrl_regs (s : State) (n : Nat) (v : Nat) (ga : Nat) (ho : Off [AX.SPD_CTRL.DIV] ga) :
    regAt (State.fxSpdCtrl s n v).1.regs ga = regAt s.regs ga := by
  simp only [Off_cons, Off_nil] at ho
  simp [State.fxSpdCtrl, ho]
@[simp] theorem State.fxSpdTarget_regs (s : State) (n : Nat) (v : Nat) (ga : Nat) (ho : Off [AX.SPD_TARGET.VALUE, AX.SPD_STATUS.AT_TARGET] ga) :
    regAt (State.fxSpdTarget s n v).1.regs ga = regAt s.regs ga := by
  simp only [Off_cons, Off_nil] at ho
  simp [State.fxSpdTarget, ho]
@[simp] theorem State.fxPwmCtrl_regs (s : State) (n : Nat) (v : Nat) (ga : Nat) (ho : Off [AX.PWM_CTRL.EN, AX.PWM_STATUS.COMMIT_PEND, AX.PWM_CARRY.CARRY, AX.CMT_STATUS.STATE, AX.CMT_CORR.VALUE,
      AX.CMT_SCORR.VALUE, AX.OBS_STATUS.MODE, REC.QUEUE.VALUE, REC.EVT_TOTAL] ga) :
    regAt (State.fxPwmCtrl s n v).1.regs ga = regAt s.regs ga := by
  simp only [Off_cons, Off_nil] at ho
  simp [State.fxPwmCtrl, ho]
@[simp] theorem State.slsShow_regs (s : State) (ga : Nat) (ho : Off [AX.SAF_STATUS.STATE] ga) :
    regAt (State.slsShow s).regs ga = regAt s.regs ga := by
  simp only [Off_cons, Off_nil] at ho
  simp [State.slsShow, ho]
@[simp] theorem State.siEval_regs (s : State) (k : Nat) (ga : Nat) (ho : Off [TB.SPEED.SPEED, TB.ANGLE, TB.STAMP, TB.STATUS.STATE, SCH.TARGET, SCH.PRED, SCH.RESID.RESID, SCH.STATUS.STATE,
      AX.PWM_CTRL.EN, AX.FOC_CTRL.RUN, AX.CMT_STATUS.STATE, AX.SAF_STATUS.STATE, BAB.IN_STATUS.STATE, BAB.IN_POS,
      MEM.CH_RETIRE.RETIRE, MEM.ECC_STATUS.CE, MEM.UE_FIRST_ADDR, MEM.UE_FIRST_INFO.MASTER, MEM.UE_FIRST_TIME,
      MEM.UE_LATEST_ADDR, MEM.UE_LATEST_INFO.INFO, MEM.UE_LATEST_TIME, MEM.CH_CNT.CE, MEM.SRAM_CNT.CE,
      AT.VIO_STATUS.FIRST_VALID, AT.VIO_FIRST_ADDR, AT.VIO_FIRST_INFO.MASTER, AT.VIO_FIRST_TIME, AT.VIO_LATEST_ADDR,
      AT.VIO_LATEST_INFO.INFO, AT.VIO_LATEST_TIME, SAF.SI_STATE.LOW, SAF.GROUP_STATE.LOW, REC.QUEUE.VALUE, REC.EVT_TOTAL] ga) (hq : ¬InSet .direct ga) :
    regAt (State.siEval s k).regs ga = regAt s.regs ga := by
  simp only [Off_cons, Off_nil] at ho
  simp [State.siEval, ho, hq]
@[simp] theorem State.siDiffer_regs (s : State) (k : Nat) (ga : Nat) (ho : Off [SAF.SI_STATE.LOW] ga) :
    regAt (State.siDiffer s k).regs ga = regAt s.regs ga := by
  simp only [Off_cons, Off_nil] at ho
  simp [State.siDiffer, ho]
@[simp] theorem State.fxStoReq_regs (s : State) (v : Nat) (ga : Nat) (ho : Off [TB.SPEED.SPEED, TB.ANGLE, TB.STAMP, TB.STATUS.STATE, SCH.TARGET, SCH.PRED, SCH.RESID.RESID, SCH.STATUS.STATE,
      AX.PWM_CTRL.EN, AX.CMT_STATUS.STATE, AX.SAF_STATUS.STATE, BAB.IN_STATUS.STATE, BAB.IN_POS, MEM.CH_RETIRE.RETIRE,
      MEM.ECC_STATUS.CE, MEM.UE_FIRST_ADDR, MEM.UE_FIRST_INFO.MASTER, MEM.UE_FIRST_TIME, MEM.UE_LATEST_ADDR,
      MEM.UE_LATEST_INFO.INFO, MEM.UE_LATEST_TIME, MEM.CH_CNT.CE, MEM.SRAM_CNT.CE, AT.VIO_STATUS.FIRST_VALID,
      AT.VIO_FIRST_ADDR, AT.VIO_FIRST_INFO.MASTER, AT.VIO_FIRST_TIME, AT.VIO_LATEST_ADDR, AT.VIO_LATEST_INFO.INFO,
      AT.VIO_LATEST_TIME, SAF.STO_REQ.GROUPS, SAF.GROUP_STATE.LOW, REC.QUEUE.VALUE, REC.EVT_TOTAL] ga) (hq : ¬InSet .direct ga) :
    regAt (State.fxStoReq s v).1.regs ga = regAt s.regs ga := by
  simp only [Off_cons, Off_nil] at ho
  simp [State.fxStoReq, ho, hq]
@[simp] theorem State.ackFaults_regs (s : State) (ga : Nat) (ho : Off [AX.SAF_STATUS.STATE] ga) :
    regAt (State.ackFaults s).regs ga = regAt s.regs ga := by
  simp only [Off_cons, Off_nil] at ho
  simp [State.ackFaults, ho]
@[simp] theorem State.ackGroups_regs (s : State) (mask : Nat) (ga : Nat) (ho : Off [SAF.GROUP_STATE.LOW] ga) :
    regAt (State.ackGroups s mask).regs ga = regAt s.regs ga := by
  simp only [Off_cons, Off_nil] at ho
  simp [State.ackGroups, ho]
@[simp] theorem State.fxSafAck_regs (s : State) (v : Nat) (ga : Nat) (ho : Off [AX.SAF_STATUS.STATE, SAF.GROUP_STATE.LOW] ga) :
    regAt (State.fxSafAck s v).1.regs ga = regAt s.regs ga := by
  simp only [Off_cons, Off_nil] at ho
  simp [State.fxSafAck, ho]
@[simp] theorem State.fxSafWord_regs (s : State) (a : Nat) (v : Nat) (ga : Nat) (ho : Off [TB.SPEED.SPEED, TB.ANGLE, TB.STAMP, TB.STATUS.STATE, SCH.TARGET, SCH.PRED, SCH.RESID.RESID, SCH.STATUS.STATE,
      AX.PWM_CTRL.EN, AX.CMT_STATUS.STATE, AX.SAF_STATUS.STATE, BAB.IN_STATUS.STATE, BAB.IN_POS, MEM.CH_RETIRE.RETIRE,
      MEM.ECC_STATUS.CE, MEM.UE_FIRST_ADDR, MEM.UE_FIRST_INFO.MASTER, MEM.UE_FIRST_TIME, MEM.UE_LATEST_ADDR,
      MEM.UE_LATEST_INFO.INFO, MEM.UE_LATEST_TIME, MEM.CH_CNT.CE, MEM.SRAM_CNT.CE, AT.VIO_STATUS.FIRST_VALID,
      AT.VIO_FIRST_ADDR, AT.VIO_FIRST_INFO.MASTER, AT.VIO_FIRST_TIME, AT.VIO_LATEST_ADDR, AT.VIO_LATEST_INFO.INFO,
      AT.VIO_LATEST_TIME, SAF.SI_STATE.LOW, SAF.GROUP_STATE.LOW, REC.QUEUE.VALUE, REC.EVT_TOTAL] ga) (hq : ¬InSet .direct ga) (hn : ga ≠ a) :
    regAt (State.fxSafWord s a v).1.regs ga = regAt s.regs ga := by
  simp only [Off_cons, Off_nil] at ho
  simp [State.fxSafWord, ho, hq, hn]
@[simp] theorem State.fxSafCfg_regs (s : State) (v : Nat) (ga : Nat) (ho : Off [SAF.STATUS.STATE, SAF.CFG.FTTI] ga) :
    regAt (State.fxSafCfg s v).1.regs ga = regAt s.regs ga := by
  simp only [Off_cons, Off_nil] at ho
  simp [State.fxSafCfg, ho]
@[simp] theorem State.fxSafCtrl_regs (s : State) (v : Nat) (ga : Nat) (ho : Off [SAF.CTRL.LOCK, SAF.STATUS.STATE, SAF.CFG_CRC_CALC.VALUE] ga) :
    regAt (State.fxSafCtrl s v).1.regs ga = regAt s.regs ga := by
  simp only [Off_cons, Off_nil] at ho
  simp [State.fxSafCtrl, ho]
@[simp] theorem State.unitShow_regs (s : State) (u : Nat) (x : Bool) (ga : Nat) (ho : Off [OBS.LANES.USABLE, INF.ENG_STATUS.USABLE, ENG.STATUS.HOSTS] ga) :
    regAt (State.unitShow s u x).regs ga = regAt s.regs ga := by
  simp only [Off_cons, Off_nil] at ho
  simp [State.unitShow, ho]
@[simp] theorem State.unitFail_regs (s : State) (u : Nat) (code : Nat) (ga : Nat) (ho : Off [TB.SPEED.SPEED, TB.ANGLE, TB.STAMP, TB.STATUS.STATE, SCH.TARGET, SCH.PRED, SCH.RESID.RESID, SCH.STATUS.STATE,
      AX.PWM_CTRL.EN, AX.PWM_DUTY.D, AX.PWM_STATUS.COMMIT_PEND, AX.FOC_CTRL.RUN, AX.FOC_IQ_REF.VALUE, AX.FOC_VD_MAN.VALUE,
      AX.FOC_VQ_MAN.VALUE, AX.FOC_STATUS.SECTOR, AX.FOC_VBUS.VBUS, AX.SPD_REF.REF, AX.SPD_STATUS.AT_TARGET, AX.SPD_DERATE.TQ,
      AX.CMT_STATUS.STATE, AX.CMT_CNT.QUALIFIED, AX.CMT_FAIL_CNT.NONE, AX.CMT_CORR.VALUE, AX.CMT_SCORR.VALUE, AX.BUS_ABS.DIQ,
      AX.BUS_STATUS.CFG_REFUSED, AX.OBS_STATUS.MODE, AX.OBS_CNT.EVAL_CNT, AX.OBS_LAST_MISM, AX.OBS_EST_THETA.THETA,
      AX.OBS_EST_OMEGA.OMEGA, AX.OBS_EST_T.T_W, AX.OBS_EST_LOAD.LOAD, AX.OBS_EST_STAMP, AX.OBS_EST_SRC.SRC,
      AX.SAF_STATUS.STATE, OBS.LANES.USABLE, OBS.PLAN.SUM, OBS.PPLAN.SUM, OBS.STATUS.DEMOTE, INF.ENG_MAP.MAP,
      INF.ENG_STATUS.USABLE, INF.STATUS.UNAVAIL, ENG.STATUS.HOSTS, CTX.STATUS.STATE, BAB.IN_STATUS.STATE, BAB.IN_POS,
      MEM.CH_RETIRE.RETIRE, MEM.ECC_STATUS.CE, MEM.UE_FIRST_ADDR, MEM.UE_FIRST_INFO.MASTER, MEM.UE_FIRST_TIME,
      MEM.UE_LATEST_ADDR, MEM.UE_LATEST_INFO.INFO, MEM.UE_LATEST_TIME, MEM.CH_CNT.CE, MEM.SRAM_CNT.CE,
      AT.VIO_STATUS.FIRST_VALID, AT.VIO_FIRST_ADDR, AT.VIO_FIRST_INFO.MASTER, AT.VIO_FIRST_TIME, AT.VIO_LATEST_ADDR,
      AT.VIO_LATEST_INFO.INFO, AT.VIO_LATEST_TIME, SAF.STATUS.STATE, SAF.GROUP_STATE.LOW, SAF.FAULT_LAST.CODE,
      SAF.FAULT_TIME, AGE.FAIL_CNT.FAIL_CNT, REC.QUEUE.VALUE, REC.EVT_TOTAL] ga) (hq : ¬InSet .direct ga) :
    regAt (State.unitFail s u code).regs ga = regAt s.regs ga := by
  simp only [Off_cons, Off_nil] at ho
  simp [State.unitFail, ho, hq]
@[simp] theorem State.sliceNext_regs (s : State) (u : Nat) (ga : Nat) :
    regAt (State.sliceNext s u).regs ga = regAt s.regs ga := by
  simp [State.sliceNext]
@[simp] theorem State.abortSlices_regs (s : State) (ga : Nat) (ho : Off [SAF.TEST_STATUS.ABORT_CNT, REC.QUEUE.VALUE, REC.EVT_TOTAL] ga) :
    regAt (State.abortSlices s).regs ga = regAt s.regs ga := by
  simp only [Off_cons, Off_nil] at ho
  simp [State.abortSlices, ho]
@[simp] theorem State.windowSpeed_regs (s : State) (n : Nat) (ga : Nat) (ho : Off [AX.SAF_STATUS.STATE, AX.SAF_SPEED.SPEED] ga) :
    regAt (State.windowSpeed s n).regs ga = regAt s.regs ga := by
  simp only [Off_cons, Off_nil] at ho
  simp [State.windowSpeed, ho]
@[simp] theorem State.windowSls_regs (s : State) (n : Nat) (ga : Nat) (ho : Off [AX.SAF_STATUS.STATE] ga) :
    regAt (State.windowSls s n).regs ga = regAt s.regs ga := by
  simp only [Off_cons, Off_nil] at ho
  simp [State.windowSls, ho]
@[simp] theorem State.ss1Sto_regs (s : State) (n : Nat) (ga : Nat) (ho : Off [TB.SPEED.SPEED, TB.ANGLE, TB.STAMP, TB.STATUS.STATE, SCH.TARGET, SCH.PRED, SCH.RESID.RESID, SCH.STATUS.STATE,
      AX.PWM_CTRL.EN, AX.CMT_STATUS.STATE, AX.SAF_STATUS.STATE, BAB.IN_STATUS.STATE, BAB.IN_POS, MEM.CH_RETIRE.RETIRE,
      MEM.ECC_STATUS.CE, MEM.UE_FIRST_ADDR, MEM.UE_FIRST_INFO.MASTER, MEM.UE_FIRST_TIME, MEM.UE_LATEST_ADDR,
      MEM.UE_LATEST_INFO.INFO, MEM.UE_LATEST_TIME, MEM.CH_CNT.CE, MEM.SRAM_CNT.CE, AT.VIO_STATUS.FIRST_VALID,
      AT.VIO_FIRST_ADDR, AT.VIO_FIRST_INFO.MASTER, AT.VIO_FIRST_TIME, AT.VIO_LATEST_ADDR, AT.VIO_LATEST_INFO.INFO,
      AT.VIO_LATEST_TIME, SAF.GROUP_STATE.LOW, REC.QUEUE.VALUE, REC.EVT_TOTAL] ga) (hq : ¬InSet .direct ga) :
    regAt (State.ss1Sto s n).regs ga = regAt s.regs ga := by
  simp only [Off_cons, Off_nil] at ho
  simp [State.ss1Sto, ho, hq]
@[simp] theorem State.windowSs1_regs (s : State) (n : Nat) (ga : Nat) (ho : Off [TB.SPEED.SPEED, TB.ANGLE, TB.STAMP, TB.STATUS.STATE, SCH.TARGET, SCH.PRED, SCH.RESID.RESID, SCH.STATUS.STATE,
      AX.PWM_CTRL.EN, AX.CMT_STATUS.STATE, AX.SAF_STATUS.STATE, BAB.IN_STATUS.STATE, BAB.IN_POS, MEM.CH_RETIRE.RETIRE,
      MEM.ECC_STATUS.CE, MEM.UE_FIRST_ADDR, MEM.UE_FIRST_INFO.MASTER, MEM.UE_FIRST_TIME, MEM.UE_LATEST_ADDR,
      MEM.UE_LATEST_INFO.INFO, MEM.UE_LATEST_TIME, MEM.CH_CNT.CE, MEM.SRAM_CNT.CE, AT.VIO_STATUS.FIRST_VALID,
      AT.VIO_FIRST_ADDR, AT.VIO_FIRST_INFO.MASTER, AT.VIO_FIRST_TIME, AT.VIO_LATEST_ADDR, AT.VIO_LATEST_INFO.INFO,
      AT.VIO_LATEST_TIME, SAF.GROUP_STATE.LOW, REC.QUEUE.VALUE, REC.EVT_TOTAL] ga) (hq : ¬InSet .direct ga) :
    regAt (State.windowSs1 s n).regs ga = regAt s.regs ga := by
  simp only [Off_cons, Off_nil] at ho
  unfold State.windowSs1; split <;> simp [ho, hq]
@[simp] theorem State.entryFail_regs (s : State) (e : Nat) (ga : Nat) (ho : Off [TB.SPEED.SPEED, TB.ANGLE, TB.STAMP, TB.STATUS.STATE, SCH.TARGET, SCH.PRED, SCH.RESID.RESID, SCH.STATUS.STATE,
      AX.PWM_DUTY.D, AX.PWM_STATUS.COMMIT_PEND, AX.ADC_HEALTH.FAIL, AX.FOC_IQ_REF.VALUE, AX.FOC_VD_MAN.VALUE,
      AX.FOC_VQ_MAN.VALUE, AX.FOC_STATUS.SECTOR, AX.FOC_VBUS.VBUS, AX.SPD_REF.REF, AX.SPD_STATUS.AT_TARGET,
      AX.CMT_STATUS.STATE, AX.CMT_CNT.QUALIFIED, AX.CMT_FAIL_CNT.NONE, AX.CMT_CORR.VALUE, AX.CMT_SCORR.VALUE, AX.BUS_ABS.DIQ,
      AX.BUS_STATUS.CFG_REFUSED, AX.OBS_STATUS.MODE, AX.OBS_CNT.EVAL_CNT, AX.OBS_LAST_MISM, AX.OBS_EST_THETA.THETA,
      AX.OBS_EST_OMEGA.OMEGA, AX.OBS_EST_T.T_W, AX.OBS_EST_LOAD.LOAD, AX.OBS_EST_STAMP, AX.OBS_EST_SRC.SRC,
      BUS.STATUS.CHOP_ON, BUS.CHOP_FAULT_TIME, OBS.LANES.USABLE, OBS.PLAN.SUM, OBS.PPLAN.SUM, OBS.STATUS.DEMOTE,
      BAB.IN_STATUS.STATE, BAB.IN_POS, MEM.CH_RETIRE.RETIRE, MEM.ECC_STATUS.CE, MEM.UE_FIRST_ADDR, MEM.UE_FIRST_INFO.MASTER,
      MEM.UE_FIRST_TIME, MEM.UE_LATEST_ADDR, MEM.UE_LATEST_INFO.INFO, MEM.UE_LATEST_TIME, MEM.CH_CNT.CE, MEM.SRAM_CNT.CE,
      AT.VIO_STATUS.FIRST_VALID, AT.VIO_FIRST_ADDR, AT.VIO_FIRST_INFO.MASTER, AT.VIO_FIRST_TIME, AT.VIO_LATEST_ADDR,
      AT.VIO_LATEST_INFO.INFO, AT.VIO_LATEST_TIME, REC.QUEUE.VALUE, REC.EVT_TOTAL] ga) (hq : ¬InSet .direct ga) :
    regAt (State.entryFail s e).regs ga = regAt s.regs ga := by
  simp only [Off_cons, Off_nil] at ho
  unfold State.entryFail; dsimp only; (repeat' split) <;> simp [ho, hq]
@[simp] theorem State.windowTwin_regs (s : State) (ga : Nat) :
    regAt (State.windowTwin s).regs ga = regAt s.regs ga := by
  simp [State.windowTwin]
@[simp] theorem State.windowEnd_regs (s : State) (ga : Nat) (ho : Off [TB.SPEED.SPEED, TB.ANGLE, TB.STAMP, TB.STATUS.STATE, SCH.TARGET, SCH.PRED, SCH.RESID.RESID, SCH.STATUS.STATE,
      AX.PWM_CTRL.EN, AX.FOC_CTRL.RUN, AX.SPD_DERATE.TQ, AX.CMT_STATUS.STATE, AX.SAF_STATUS.STATE, BAB.IN_STATUS.STATE,
      BAB.IN_POS, MEM.CH_RETIRE.RETIRE, MEM.ECC_STATUS.CE, MEM.UE_FIRST_ADDR, MEM.UE_FIRST_INFO.MASTER, MEM.UE_FIRST_TIME,
      MEM.UE_LATEST_ADDR, MEM.UE_LATEST_INFO.INFO, MEM.UE_LATEST_TIME, MEM.CH_CNT.CE, MEM.SRAM_CNT.CE,
      AT.VIO_STATUS.FIRST_VALID, AT.VIO_FIRST_ADDR, AT.VIO_FIRST_INFO.MASTER, AT.VIO_FIRST_TIME, AT.VIO_LATEST_ADDR,
      AT.VIO_LATEST_INFO.INFO, AT.VIO_LATEST_TIME, SAF.STATUS.STATE, SAF.GROUP_STATE.LOW, SAF.FAULT_LAST.CODE,
      SAF.FAULT_TIME, REC.QUEUE.VALUE, REC.EVT_TOTAL] ga) (hq : ¬InSet .direct ga) :
    regAt (State.windowEnd s).regs ga = regAt s.regs ga := by
  simp only [Off_cons, Off_nil] at ho
  simp [State.windowEnd, ho, hq]
@[simp] theorem State.marginCheck_regs (s : State) (ga : Nat) (ho : Off [AGE.STATUS.MODE, AGE.SMIN.SLACK, REC.QUEUE.VALUE, REC.EVT_TOTAL] ga) :
    regAt (State.marginCheck s).regs ga = regAt s.regs ga := by
  simp only [Off_cons, Off_nil] at ho
  unfold State.marginCheck; split <;> simp [ho]
@[simp] theorem State.trimGoal_regs (s : State) (h_ : Nat) (goal : Int) (ga : Nat) (ho : Off [AGE.STATUS.MODE] ga) :
    regAt (State.trimGoal s h_ goal).regs ga = regAt s.regs ga := by
  simp only [Off_cons, Off_nil] at ho
  simp [State.trimGoal, ho]
@[simp] theorem State.trimStep_regs (s : State) (h_ : Nat) (ga : Nat) (ho : Off [AGE.STATUS.MODE, AGE.REF_TRIM.TRIM] ga) :
    regAt (State.trimStep s h_).regs ga = regAt s.regs ga := by
  simp only [Off_cons, Off_nil] at ho
  unfold State.trimStep; split <;> simp [ho]
@[simp] theorem State.trimClock_regs (s : State) (ga : Nat) (ho : Off [AGE.STATUS.MODE, AGE.REF_TRIM.TRIM] ga) :
    regAt (State.trimClock s).regs ga = regAt s.regs ga := by
  simp only [Off_cons, Off_nil] at ho
  simp [State.trimClock, ho]
@[simp] theorem State.marginReplan_regs (s : State) (dl : List Int) (ref : List Int) (ack : Bool) (ga : Nat) (ho : Off [AGE.STATUS.MODE, AGE.VREQ.V_REQ, AGE.SMIN.SLACK, AGE.DL_CORR.CORR, REC.QUEUE.VALUE, REC.EVT_TOTAL] ga) :
    regAt (State.marginReplan s dl ref ack).regs ga = regAt s.regs ga := by
  simp only [Off_cons, Off_nil] at ho
  simp [State.marginReplan, ho]
@[simp] theorem State.fxAgeCtrl_regs (s : State) (dl : List Int) (ref : List Int) (ack : Bool) (v : Nat) (ga : Nat) (ho : Off [AGE.STATUS.MODE, AGE.VREQ.V_REQ, AGE.SMIN.SLACK, AGE.DL_CORR.CORR, REC.QUEUE.VALUE, REC.EVT_TOTAL] ga) :
    regAt (State.fxAgeCtrl s dl ref ack v).1.regs ga = regAt s.regs ga := by
  simp only [Off_cons, Off_nil] at ho
  simp [State.fxAgeCtrl, ho]
@[simp] theorem State.fxSvcCmd_regs (s : State) (v : Nat) (ga : Nat) (ho : Off [MEM.CH_RETIRE.RETIRE, AGE.STATUS.MODE, AGE.PFENCE.PFENCE, AGE.PFENCE_AX] ga) :
    regAt (State.fxSvcCmd s v).1.regs ga = regAt s.regs ga := by
  simp only [Off_cons, Off_nil] at ho
  simp [State.fxSvcCmd, ho]
@[simp] theorem State.fwFail_regs (s : State) (code : Nat) (ga : Nat) (ho : Off [SUP.FW_STATUS.STATE, REC.QUEUE.VALUE, REC.EVT_TOTAL] ga) :
    regAt (State.fwFail s code).regs ga = regAt s.regs ga := by
  simp only [Off_cons, Off_nil] at ho
  simp [State.fwFail, ho]
@[simp] theorem State.fxFwCmd_regs (s : State) (v : Nat) (ga : Nat) (ho : Off [SUP.FW_STATUS.STATE] ga) :
    regAt (State.fxFwCmd s v).1.regs ga = regAt s.regs ga := by
  simp only [Off_cons, Off_nil] at ho
  simp [State.fxFwCmd, ho]
@[simp] theorem State.fwCheck_regs (s : State) (ga : Nat) (ho : Off [MEM.CH_RETIRE.RETIRE, MEM.ECC_STATUS.CE, MEM.UE_FIRST_ADDR, MEM.UE_FIRST_INFO.MASTER, MEM.UE_FIRST_TIME,
      MEM.UE_LATEST_ADDR, MEM.UE_LATEST_INFO.INFO, MEM.UE_LATEST_TIME, MEM.CH_CNT.CE, MEM.SRAM_CNT.CE,
      AT.VIO_STATUS.FIRST_VALID, AT.VIO_FIRST_ADDR, AT.VIO_FIRST_INFO.MASTER, AT.VIO_FIRST_TIME, AT.VIO_LATEST_ADDR,
      AT.VIO_LATEST_INFO.INFO, AT.VIO_LATEST_TIME, REC.QUEUE.VALUE, REC.EVT_TOTAL] ga) :
    regAt (State.fwCheck s).1.regs ga = regAt s.regs ga := by
  simp only [Off_cons, Off_nil] at ho
  simp [State.fwCheck, ho]
@[simp] theorem State.withdraw_regs (s : State) (ga : Nat) (ho : Off [AX.SAF_STATUS.STATE, BUS.STATUS.CHOP_ON] ga) :
    regAt (State.withdraw s).regs ga = regAt s.regs ga := by
  simp only [Off_cons, Off_nil] at ho
  simp [State.withdraw, ho]
@[simp] theorem State.fxMbReq_regs (s : State) (b : Nat) (k : Nat) (v : Nat) (ga : Nat) (ho : Off [MB.REQ.DATA, MB.STATUS.PENDING] ga) :
    regAt (State.fxMbReq s b k v).1.regs ga = regAt s.regs ga := by
  simp only [Off_cons, Off_nil] at ho
  simp [State.fxMbReq, ho]
@[simp] theorem State.fxMbDoorbell_regs (s : State) (b : Nat) (v : Nat) (ga : Nat) (ho : Off [MB.STATUS.PENDING, MB.DB_TIME] ga) :
    regAt (State.fxMbDoorbell s b v).1.regs ga = regAt s.regs ga := by
  simp only [Off_cons, Off_nil] at ho
  simp [State.fxMbDoorbell, ho]
@[simp] theorem State.fxMbAck_regs (s : State) (b : Nat) (v : Nat) (ga : Nat) (ho : Off [MB.GLOBAL.READY, MB.STATUS.PENDING] ga) :
    regAt (State.fxMbAck s b v).1.regs ga = regAt s.regs ga := by
  simp only [Off_cons, Off_nil] at ho
  simp [State.fxMbAck, ho]
@[simp] theorem State.mbReply_regs (s : State) (b : Nat) (c : MbCmdH) (status : Nat) (detail : Nat) (payload : List Nat) (ga : Nat) (ho : Off [MB.GLOBAL.READY, MB.REP.DATA, MB.STATUS.PENDING] ga) :
    regAt (State.mbReply s b c status detail payload).regs ga = regAt s.regs ga := by
  simp only [Off_cons, Off_nil] at ho
  simp [State.mbReply, ho]
@[simp] theorem State.mbEnd_regs (s : State) (ga : Nat) (ho : Off [MB.GLOBAL.READY, MB.STATUS.PENDING] ga) :
    regAt (State.mbEnd s).regs ga = regAt s.regs ga := by
  simp only [Off_cons, Off_nil] at ho
  simp [State.mbEnd, ho]

end Sys2Proof.Machine
end

