-- ==== Sys2Proof/Laws/Frame9.lean ====
section
/-!
SUPPORT. Which registers the operations of Security, Resets, PowerThermal, DeviceTime change: every register of another field keeps its
value.
-/
set_option linter.all false
namespace Sys2Proof.Machine
open Sys2Proof.Safety

@[simp] theorem State.setWords8_regs (s : State) (f : RF) (b : List Nat) (ga : Nat) (h : ¬IsReg f ga) :
    regAt (s.setWords8 f b).regs ga = regAt s.regs ga := by
  unfold State.setWords8
  exact forEach_off _ _ _ _ fun s k => wr_off _ _ _ _ _ _ h
@[simp] theorem State.keyShow_regs (s : State) (ga : Nat) (ho : Off [SEC.KEY_STATUS.VALID] ga) :
    regAt (State.keyShow s).regs ga = regAt s.regs ga := by
  simp only [Off_cons, Off_nil] at ho
  simp [State.keyShow, ho]
@[simp] theorem State.fuseRefuse_regs (s : State) (rcode : Nat) (ga : Nat) (ho : Off [SEC.FUSE_STATUS.BUSY] ga) :
    regAt (State.fuseRefuse s rcode).regs ga = regAt s.regs ga := by
  simp only [Off_cons, Off_nil] at ho
  simp [State.fuseRefuse, ho]
@[simp] theorem State.fuseStart_regs (s : State) (op : Nat × Nat × List Nat) (ga : Nat) (ho : Off [SEC.FUSE_STATUS.BUSY] ga) :
    regAt (State.fuseStart s op).regs ga = regAt s.regs ga := by
  simp only [Off_cons, Off_nil] at ho
  simp [State.fuseStart, ho]
@[simp] theorem State.fxKeyProg_regs (s : State) (v : Nat) (ga : Nat) (ho : Off [SEC.FUSE_STATUS.BUSY] ga) :
    regAt (State.fxKeyProg s v).1.regs ga = regAt s.regs ga := by
  simp only [Off_cons, Off_nil] at ho
  simp [State.fxKeyProg, ho]
@[simp] theorem State.fxRevoke_regs (s : State) (v : Nat) (ga : Nat) (ho : Off [SEC.FUSE_STATUS.BUSY] ga) :
    regAt (State.fxRevoke s v).1.regs ga = regAt s.regs ga := by
  simp only [Off_cons, Off_nil] at ho
  simp [State.fxRevoke, ho]
@[simp] theorem State.fxLcCmd_regs (s : State) (v : Nat) (ga : Nat) (ho : Off [SEC.FUSE_STATUS.BUSY] ga) :
    regAt (State.fxLcCmd s v).1.regs ga = regAt s.regs ga := by
  simp only [Off_cons, Off_nil] at ho
  simp [State.fxLcCmd, ho]
@[simp] theorem State.identity_regs (s : State) (ga : Nat) (ho : Off [SEC.DEV_ID.ID, SEC.ID_PUB.KEY] ga) : regAt s.identity.regs ga = regAt s.regs ga := by
  simp only [Off_cons, Off_nil] at ho
  unfold State.identity
  dsimp only
  generalize (List.range 328) = l
  generalize (if (s.rd SEC.LC.STATE == 3) = true then List.replicate 1312 255 else slice (Config.mldsaPub s.identitySeed) 0 1312) = pub
  rw [forEach_off _ _ _ _ (fun s k => by simp [ho]), State.setWords8_regs _ _ _ _ (by simp [ho])]
@[simp] theorem State.bootTry_regs (s : State) (i : Nat) (err : Bool) (ga : Nat) :
    regAt (State.bootTry s i err).1.regs ga = regAt s.regs ga := by
  simp [State.bootTry]
@[simp] theorem State.bootAccept_regs (s : State) (i : Nat) (ga : Nat) (ho : Off [REC.QUEUE.VALUE, REC.EVT_TOTAL, SEC.BOOT_STATUS.SLOT, SEC.LDR_KEY.KEY_ID, SEC.LDR_DIGEST.DIGEST, PWR.STATE.STATE,
      PWR.START_STATUS.SELF_OK] ga) :
    regAt (State.bootAccept s i).regs ga = regAt s.regs ga := by
  simp only [Off_cons, Off_nil] at ho
  simp [State.bootAccept, ho]
@[simp] theorem State.fxDbgCmd_regs (s : State) (v : Nat) (ga : Nat) (ho : Off [SEC.DBG_CMD.CHAL, SEC.DBG_CHAL.CHAL] ga) :
    regAt (State.fxDbgCmd s v).1.regs ga = regAt s.regs ga := by
  simp only [Off_cons, Off_nil] at ho
  simp [State.fxDbgCmd, ho]
@[simp] theorem State.attRefuse_regs (s : State) (rcode : Nat) (ga : Nat) (ho : Off [SEC.ATT_STATUS.BUSY] ga) :
    regAt (State.attRefuse s rcode).regs ga = regAt s.regs ga := by
  simp only [Off_cons, Off_nil] at ho
  simp [State.attRefuse, ho]
@[simp] theorem State.fxAttCmd_regs (s : State) (m : Nat) (v : Nat) (ga : Nat) (ho : Off [SEC.ATT_STATUS.BUSY] ga) :
    regAt (State.fxAttCmd s m v).1.regs ga = regAt s.regs ga := by
  simp only [Off_cons, Off_nil] at ho
  simp [State.fxAttCmd, ho]
@[simp] theorem State.attAbort_regs (s : State) (ga : Nat) (ho : Off [SEC.ATT_STATUS.BUSY] ga) :
    regAt (State.attAbort s).regs ga = regAt s.regs ga := by
  simp only [Off_cons, Off_nil] at ho
  simp [State.attAbort, ho]
@[simp] theorem State.applyFences_regs (s : State) (ga : Nat) (ho : Off [AX.OBS_STATUS.MODE, OBS.LANES.USABLE, OBS.PLAN.SUM, OBS.PPLAN.SUM, OBS.STATUS.DEMOTE, INF.ENG_MAP.MAP,
      INF.ENG_STATUS.USABLE, INF.STATUS.UNAVAIL, ENG.STATUS.HOSTS, CTX.STATUS.STATE, REC.QUEUE.VALUE, REC.EVT_TOTAL] ga) :
    regAt (State.applyFences s).regs ga = regAt s.regs ga := by
  simp only [Off_cons, Off_nil] at ho
  simp [State.applyFences, ho]
@[simp] theorem State.readFuses_regs (s : State) (ga : Nat) (ho : Off [BIST.STATUS.STEP] ga) :
    regAt (State.readFuses s).regs ga = regAt s.regs ga := by
  simp only [Off_cons, Off_nil] at ho
  simp [State.readFuses, ho]
@[simp] theorem State.retestUnits_regs (s : State) (bad : List (Fin 74)) (ga : Nat) (ho : Off [AGE.PFENCE.PFENCE, AGE.PFENCE_AX] ga) :
    regAt (State.retestUnits s bad).regs ga = regAt s.regs ga := by
  simp only [Off_cons, Off_nil] at ho
  simp [State.retestUnits, ho]
@[simp] theorem State.selfCheck_regs (s : State) (found : Sys2Proof.StartFindings) (ga : Nat) (ho : Off [AX.OBS_STATUS.MODE, OBS.LANES.USABLE, OBS.PLAN.SUM, OBS.PPLAN.SUM, OBS.STATUS.DEMOTE, INF.ENG_MAP.MAP,
      INF.ENG_STATUS.USABLE, INF.STATUS.UNAVAIL, ENG.STATUS.HOSTS, CTX.STATUS.STATE, MEM.STATUS.USABLE, MEM.TOP,
      AGE.STATUS.MODE, AGE.VREQ.V_REQ, AGE.PFENCE.PFENCE, AGE.PFENCE_AX, BIST.STATUS.STEP, REC.QUEUE.VALUE, REC.EVT_TOTAL,
      SEC.DEV_ID.ID, SEC.ID_PUB.KEY, PWR.START_STATUS.SELF_OK] ga) :
    regAt (State.selfCheck s found).regs ga = regAt s.regs ga := by
  simp only [Off_cons, Off_nil] at ho
  simp [State.selfCheck, ho]
@[simp] theorem State.resetHidden_regs (s : State) (ga : Nat) (ho : Off [SEC.KEY_STATUS.VALID] ga) :
    regAt (State.resetHidden s).regs ga = regAt s.regs ga := by
  simp only [Off_cons, Off_nil] at ho
  simp [State.resetHidden, ho]
@[simp] theorem State.resetSafety_regs (s : State) (ga : Nat) (ho : Off [TB.SPEED.SPEED, TB.ANGLE, TB.STAMP, TB.STATUS.STATE, SCH.TARGET, SCH.PRED, SCH.RESID.RESID, SCH.STATUS.STATE,
      AX.PWM_CTRL.EN, AX.CMT_STATUS.STATE, AX.SAF_STATUS.STATE, BAB.IN_STATUS.STATE, BAB.IN_POS, MEM.CH_RETIRE.RETIRE,
      MEM.ECC_STATUS.CE, MEM.UE_FIRST_ADDR, MEM.UE_FIRST_INFO.MASTER, MEM.UE_FIRST_TIME, MEM.UE_LATEST_ADDR,
      MEM.UE_LATEST_INFO.INFO, MEM.UE_LATEST_TIME, MEM.CH_CNT.CE, MEM.SRAM_CNT.CE, AT.VIO_STATUS.FIRST_VALID,
      AT.VIO_FIRST_ADDR, AT.VIO_FIRST_INFO.MASTER, AT.VIO_FIRST_TIME, AT.VIO_LATEST_ADDR, AT.VIO_LATEST_INFO.INFO,
      AT.VIO_LATEST_TIME, SAF.STO_REQ.GROUPS, SAF.SI_STATE.LOW, SAF.GROUP_STATE.LOW, REC.QUEUE.VALUE, REC.EVT_TOTAL] ga) (hq : ¬InSet .direct ga) :
    regAt (State.resetSafety s).regs ga = regAt s.regs ga := by
  simp only [Off_cons, Off_nil] at ho
  simp [State.resetSafety, ho, hq]
@[simp] theorem State.debugReset_regs (s : State) (ga : Nat) (ho : Off [PWR.STATE.STATE] ga) :
    regAt (State.debugReset s).regs ga = regAt s.regs ga := by
  simp only [Off_cons, Off_nil] at ho
  simp [State.debugReset, ho]
@[simp] theorem State.powerStart_regs (s : State) (to_ : Nat) (ga : Nat) (ho : Off [TB.SPEED.SPEED, TB.ANGLE, TB.STAMP, TB.STATUS.STATE, SCH.TARGET, SCH.PRED, SCH.RESID.RESID, SCH.STATUS.STATE,
      AX.PWM_CTRL.EN, AX.FOC_CTRL.RUN, AX.SPD_DERATE.TQ, AX.CMT_STATUS.STATE, AX.SAF_STATUS.STATE, ENG.STATUS.HOSTS,
      CTX.STATUS.STATE, CTX.FRAME.FRAME, CTX.LAST_CODE.CODE, CTX.LAST_TRIG, CTX.LAST_DONE, CTX.CLK_LAST.CLK, CTX.CLK_MAX.CLK,
      CTX.Q_STATUS.CLIP_ALARM, CTX.Q_CLIP.CNT, CTX.Q_ELEM.CNT, CTX.Q_NAN.CNT, CTX.Q_DEV.CNT, CTX.Q_WORST.SHARE,
      CTX.Q_HIST.FILL_MIN, CTX.Q_CLIP_TOT, CTX.Q_ELEM_TOT, CTX.Q_NAN_TOT, CTX.DIG_STATUS.HAS_U, CTX.TRACE_CTRL.ARM,
      CTX.TWIN_MISM_TIME, Q.PROD.PROD, Q.TAKE.TAKE, Q.RET.RET, Q.CREDITS.CREDITS, Q.STATUS.NO_CREDIT, Q.LAST_POST,
      Q.POSTS.SEQ, Q.SLOTS.POST_SLOT, BAB.IN_STATUS.STATE, BAB.IN_POS, TWN.STATUS.PAIRED, MEM.CH_RETIRE.RETIRE,
      MEM.ECC_STATUS.CE, MEM.UE_FIRST_ADDR, MEM.UE_FIRST_INFO.MASTER, MEM.UE_FIRST_TIME, MEM.UE_LATEST_ADDR,
      MEM.UE_LATEST_INFO.INFO, MEM.UE_LATEST_TIME, MEM.CH_CNT.CE, MEM.SRAM_CNT.CE, AT.VIO_STATUS.FIRST_VALID,
      AT.VIO_FIRST_ADDR, AT.VIO_FIRST_INFO.MASTER, AT.VIO_FIRST_TIME, AT.VIO_LATEST_ADDR, AT.VIO_LATEST_INFO.INFO,
      AT.VIO_LATEST_TIME, MB.GLOBAL.READY, MB.STATUS.PENDING, SAF.STATUS.STATE, SAF.GROUP_STATE.LOW, SAF.FAULT_LAST.CODE,
      SAF.FAULT_TIME, BIST.STATUS.STEP, REC.QUEUE.VALUE, REC.EVT_TOTAL, SEC.ATT_STATUS.BUSY, PWR.STATE.STATE] ga) (hq : ¬InSet .direct ga) :
    regAt (State.powerStart s to_).regs ga = regAt s.regs ga := by
  simp only [Off_cons, Off_nil] at ho
  simp [State.powerStart, ho, hq]
@[simp] theorem State.fenceUnit_regs (s : State) (u : Nat) (ga : Nat) (ho : Off [AGE.PFENCE.PFENCE, AGE.PFENCE_AX] ga) :
    regAt (State.fenceUnit s u).regs ga = regAt s.regs ga := by
  simp only [Off_cons, Off_nil] at ho
  simp [State.fenceUnit, ho]
@[simp] theorem State.bistUnits_regs (s : State) (ga : Nat) (ho : Off [AGE.PFENCE.PFENCE, AGE.FAIL_CNT.FAIL_CNT, AGE.PFENCE_AX] ga) :
    regAt (State.bistUnits s).regs ga = regAt s.regs ga := by
  simp only [Off_cons, Off_nil] at ho
  simp [State.bistUnits, ho]
@[simp] theorem State.bistResult_regs (s : State) (i : Nat) (ga : Nat) (ho : Off [BIST.STATUS.STEP, BIST.RESULT.OUTCOME] ga) :
    regAt (State.bistResult s i).regs ga = regAt s.regs ga := by
  simp only [Off_cons, Off_nil] at ho
  simp [State.bistResult, ho]
@[simp] theorem State.bistWrite_regs (s : State) (ga : Nat) (ho : Off [AGE.PFENCE.PFENCE, AGE.FAIL_CNT.FAIL_CNT, AGE.PFENCE_AX, BIST.STATUS.STEP, BIST.RESULT.OUTCOME] ga) :
    regAt (State.bistWrite s).regs ga = regAt s.regs ga := by
  simp only [Off_cons, Off_nil] at ho
  simp [State.bistWrite, ho]
@[simp] theorem State.bistTell_regs (s : State) (i : Nat) (ga : Nat) (ho : Off [REC.QUEUE.VALUE, REC.EVT_TOTAL] ga) :
    regAt (State.bistTell s i).regs ga = regAt s.regs ga := by
  simp only [Off_cons, Off_nil] at ho
  simp [State.bistTell, ho]
@[simp] theorem State.bistStep_regs (s : State) (blocks : List Sys2Proof.BistBlock) (units : List (Fin 74)) (ga : Nat) (ho : Off [AGE.PFENCE.PFENCE, AGE.FAIL_CNT.FAIL_CNT, AGE.PFENCE_AX, BIST.STATUS.STEP, BIST.RESULT.OUTCOME, REC.NV_HEAD.VALUE,
      REC.QUEUE.VALUE, REC.EVT_TOTAL, PWR.STATE.STATE] ga) :
    regAt (State.bistStep s blocks units).regs ga = regAt s.regs ga := by
  simp only [Off_cons, Off_nil] at ho
  unfold State.bistStep; split <;> simp [ho]
@[simp] theorem State.linksOff_regs (s : State) (ga : Nat) (ho : Off [TWN.STATUS.PAIRED, LNK.STATUS.UP] ga) :
    regAt (State.linksOff s).regs ga = regAt s.regs ga := by
  simp only [Off_cons, Off_nil] at ho
  simp [State.linksOff, ho]
@[simp] theorem State.stoAll_regs (s : State) (ga : Nat) (ho : Off [TB.SPEED.SPEED, TB.ANGLE, TB.STAMP, TB.STATUS.STATE, SCH.TARGET, SCH.PRED, SCH.RESID.RESID, SCH.STATUS.STATE,
      AX.PWM_CTRL.EN, AX.CMT_STATUS.STATE, AX.SAF_STATUS.STATE, BAB.IN_STATUS.STATE, BAB.IN_POS, MEM.CH_RETIRE.RETIRE,
      MEM.ECC_STATUS.CE, MEM.UE_FIRST_ADDR, MEM.UE_FIRST_INFO.MASTER, MEM.UE_FIRST_TIME, MEM.UE_LATEST_ADDR,
      MEM.UE_LATEST_INFO.INFO, MEM.UE_LATEST_TIME, MEM.CH_CNT.CE, MEM.SRAM_CNT.CE, AT.VIO_STATUS.FIRST_VALID,
      AT.VIO_FIRST_ADDR, AT.VIO_FIRST_INFO.MASTER, AT.VIO_FIRST_TIME, AT.VIO_LATEST_ADDR, AT.VIO_LATEST_INFO.INFO,
      AT.VIO_LATEST_TIME, SAF.STO_REQ.GROUPS, SAF.GROUP_STATE.LOW, REC.QUEUE.VALUE, REC.EVT_TOTAL] ga) (hq : ¬InSet .direct ga) :
    regAt (State.stoAll s).regs ga = regAt s.regs ga := by
  simp only [Off_cons, Off_nil] at ho
  simp [State.stoAll, ho, hq]
@[simp] theorem State.levelSet_regs (s : State) (l : Nat) (ga : Nat) (ho : Off [THM.STATUS.THROTTLE] ga) :
    regAt (State.levelSet s l).regs ga = regAt s.regs ga := by
  simp only [Off_cons, Off_nil] at ho
  simp [State.levelSet, ho]
@[simp] theorem State.fxThmCfg_regs (s : State) (v : Nat) (ga : Nat) (ho : Off [THM.CFG.LOCK, THM.STATUS.THROTTLE] ga) :
    regAt (State.fxThmCfg s v).1.regs ga = regAt s.regs ga := by
  simp only [Off_cons, Off_nil] at ho
  simp [State.fxThmCfg, ho]
@[simp] theorem State.shiftNamed_regs (s : State) (d : Int) (ga : Nat) (ho : Off [TB.STAMP] ga) :
    regAt (State.shiftNamed s d).regs ga = regAt s.regs ga := by
  simp only [Off_cons, Off_nil] at ho
  simp [State.shiftNamed, ho]
@[simp] theorem State.shiftUnits_regs (s : State) (d : Int) (ga : Nat) :
    regAt (State.shiftUnits s d).regs ga = regAt s.regs ga := by
  simp [State.shiftUnits]
@[simp] theorem State.stepTime_regs (s : State) (d : Int) (ga : Nat) (ho : Off [DT.STATUS.ALIGNED, TB.STAMP, MF.VIB_STATUS.SETTLING, BAB.IN_STATUS.STATE, REC.QUEUE.VALUE, REC.EVT_TOTAL] ga) :
    regAt (State.stepTime s d).regs ga = regAt s.regs ga := by
  simp only [Off_cons, Off_nil] at ho
  simp [State.stepTime, ho]
@[simp] theorem State.fxDtStepHi_regs (s : State) (v : Nat) (ga : Nat) (ho : Off [DT.STATUS.ALIGNED, TB.STAMP, MF.VIB_STATUS.SETTLING, BAB.IN_STATUS.STATE, REC.QUEUE.VALUE, REC.EVT_TOTAL] ga) :
    regAt (State.fxDtStepHi s v).1.regs ga = regAt s.regs ga := by
  simp only [Off_cons, Off_nil] at ho
  simp [State.fxDtStepHi, ho]
@[simp] theorem State.setRate_regs (s : State) (r : Int) (ga : Nat) (ho : Off [DT.RATE.RATE, DT.STATUS.ALIGNED] ga) :
    regAt (State.setRate s r).regs ga = regAt s.regs ga := by
  simp only [Off_cons, Off_nil] at ho
  simp [State.setRate, ho]
@[simp] theorem State.fxDtRate_regs (s : State) (v : Nat) (ga : Nat) (ho : Off [DT.RATE.RATE, DT.STATUS.ALIGNED] ga) :
    regAt (State.fxDtRate s v).1.regs ga = regAt s.regs ga := by
  simp only [Off_cons, Off_nil] at ho
  simp [State.fxDtRate, ho]
@[simp] theorem State.trimFree_regs (s : State) (ga : Nat) (ho : Off [DT.RATE.RATE, DT.STATUS.ALIGNED] ga) :
    regAt (State.trimFree s).regs ga = regAt s.regs ga := by
  simp only [Off_cons, Off_nil] at ho
  simp [State.trimFree, ho]
@[simp] theorem State.followerStep_regs (s : State) (o : Int) (ga : Nat) (ho : Off [DT.STATUS.ALIGNED, TB.STAMP, MF.VIB_STATUS.SETTLING, BAB.IN_STATUS.STATE, REC.QUEUE.VALUE, REC.EVT_TOTAL] ga) :
    regAt (State.followerStep s o).regs ga = regAt s.regs ga := by
  simp only [Off_cons, Off_nil] at ho
  simp [State.followerStep, ho]
@[simp] theorem State.offsetMeasured_regs (s : State) (o : Int) (ga : Nat) (ho : Off [DT.RATE.RATE, DT.STATUS.ALIGNED, DT.OFFSET.OFFSET, TB.STAMP, MF.VIB_STATUS.SETTLING, BAB.IN_STATUS.STATE,
      REC.QUEUE.VALUE, REC.EVT_TOTAL] ga) :
    regAt (State.offsetMeasured s o).regs ga = regAt s.regs ga := by
  simp only [Off_cons, Off_nil] at ho
  simp [State.offsetMeasured, ho]
@[simp] theorem State.pairJudge_regs (s : State) (o : Int) (peer : Bool) (ga : Nat) (ho : Off [TWN.STATUS.PAIRED] ga) :
    regAt (State.pairJudge s o peer).regs ga = regAt s.regs ga := by
  simp only [Off_cons, Off_nil] at ho
  simp [State.pairJudge, ho]
@[simp] theorem State.fxRecCtrl_regs (s : State) (ok : Bool) (v : Nat) (ga : Nat) (ho : Off [REC.STATUS.NV_VALID, REC.NV_HEAD.VALUE] ga) :
    regAt (State.fxRecCtrl s ok v).1.regs ga = regAt s.regs ga := by
  simp only [Off_cons, Off_nil] at ho
  simp [State.fxRecCtrl, ho]
@[simp] theorem State.fxNvIdx_regs (s : State) (v : Nat) (ga : Nat) (ho : Off [REC.STATUS.NV_VALID, REC.NV_IDX.SEQ] ga) :
    regAt (State.fxNvIdx s v).1.regs ga = regAt s.regs ga := by
  simp only [Off_cons, Off_nil] at ho
  simp [State.fxNvIdx, ho]

end Sys2Proof.Machine
end

