-- ==== Sys2Proof/Laws/Frame10.lean ====
section
/-!
SUPPORT. Which registers the operations of Links, Babbitt, External, Bus, MailCmd change: every register of another field keeps its value.
-/
set_option linter.all false
namespace Sys2Proof.Machine
open Sys2Proof.Safety

@[simp] theorem State.emitOpen_regs (s : State) (kind : Nat) (source : Nat) (what : Nat) (ga : Nat) (ho : Off [REC.QUEUE.VALUE, REC.EVT_TOTAL] ga) :
    regAt (State.emitOpen s kind source what).regs ga = regAt s.regs ga := by
  simp only [Off_cons, Off_nil] at ho
  simp [State.emitOpen, ho]
@[simp] theorem State.linkTrain_regs (s : State) (p : Nat) (ga : Nat) :
    regAt (State.linkTrain s p).regs ga = regAt s.regs ga := by
  simp [State.linkTrain]
@[simp] theorem State.fxRingCtrl_regs (s : State) (v : Nat) (ga : Nat) (ho : Off [PWR.RING_CTRL.GO, PWR.GO_TIME] ga) :
    regAt (State.fxRingCtrl s v).1.regs ga = regAt s.regs ga := by
  simp only [Off_cons, Off_nil] at ho
  simp [State.fxRingCtrl, ho]
@[simp] theorem State.twinRole_regs (s : State) (ga : Nat) (ho : Off [TWN.CFG.EN] ga) :
    regAt (State.twinRole s).regs ga = regAt s.regs ga := by
  simp only [Off_cons, Off_nil] at ho
  simp [State.twinRole, ho]
@[simp] theorem State.fxTwnCfg_regs (s : State) (v : Nat) (ga : Nat) (ho : Off [TWN.CFG.EN] ga) :
    regAt (State.fxTwnCfg s v).1.regs ga = regAt s.regs ga := by
  simp only [Off_cons, Off_nil] at ho
  simp [State.fxTwnCfg, ho]
@[simp] theorem State.linkUp_regs (s : State) (p : Nat) (lanes : Nat) (ver : Nat × Nat) (peer : Nat) (ga : Nat) (ho : Off [TWN.CFG.EN, TWN.STATUS.PAIRED, PWR.START_STATUS.SELF_OK, PWR.RING_STATUS.RING_ID, LNK.STATUS.UP] ga) :
    regAt (State.linkUp s p lanes ver peer).regs ga = regAt s.regs ga := by
  simp only [Off_cons, Off_nil] at ho
  simp [State.linkUp, ho]
@[simp] theorem State.enumerated_regs (s : State) (id : Nat) (present : Nat) (gap : Nat) (master : Nat) (lead : Bool) (ga : Nat) (ho : Off [DT.CTRL.LOCK, DT.STATUS.ALIGNED, DT.OFFSET.OFFSET, TWN.CFG.EN, PWR.START_STATUS.SELF_OK, PWR.RING_STATUS.RING_ID] ga) :
    regAt (State.enumerated s id present gap master lead).regs ga = regAt s.regs ga := by
  simp only [Off_cons, Off_nil] at ho
  simp [State.enumerated, ho]
@[simp] theorem State.unenumerated_regs (s : State) (ga : Nat) (ho : Off [DT.CTRL.LOCK, DT.STATUS.ALIGNED, TWN.CFG.EN, PWR.START_STATUS.SELF_OK, PWR.RING_STATUS.RING_ID] ga) :
    regAt s.unenumerated.regs ga = regAt s.regs ga := by
  simp only [Off_cons, Off_nil] at ho
  have t1 : ∀ u : State, regAt (((u.clear PWR.START_STATUS.ENUM_DONE).wr DT.CTRL.ROLE 0).clear DT.STATUS.ALIGNED).regs ga = regAt u.regs ga :=
    fun u => by simp [ho]
  have t2 : ∀ (u : State) (h : _), regAt ({ u with timeH := h }.updPwr fun h => { h with enumOver := true, alone := false }).regs ga =
      regAt u.regs ga := fun _ _ => rfl
  unfold State.unenumerated
  refine (t2 _ _).trans ?_
  rw [State.twinRole_regs _ _ (by simp [ho])]
  refine (t1 _).trans ?_
  simp [ho]
@[simp] theorem State.sendEnum_regs (s : State) (p : Nat) (id : Option Nat) (present : Nat) (gap : Nat) (ga : Nat) :
    regAt (State.sendEnum s p id present gap).regs ga = regAt s.regs ga := by
  simp [State.sendEnum]
@[simp] theorem State.enumRefused_regs (s : State) (ga : Nat) (ho : Off [DT.CTRL.LOCK, DT.STATUS.ALIGNED, TWN.CFG.EN, PWR.START_STATUS.SELF_OK, PWR.RING_STATUS.RING_ID] ga) :
    regAt (State.enumRefused s).regs ga = regAt s.regs ga := by
  simp only [Off_cons, Off_nil] at ho
  simp [State.enumRefused, ho]
@[simp] theorem State.enumerate_regs (s : State) (down : Nat) (up : Nat) (second : Bool) (ga : Nat) (ho : Off [DT.CTRL.LOCK, DT.STATUS.ALIGNED, DT.OFFSET.OFFSET, TWN.CFG.EN, PWR.START_STATUS.SELF_OK, PWR.RING_STATUS.RING_ID] ga) :
    regAt (State.enumerate s down up second).regs ga = regAt s.regs ga := by
  simp only [Off_cons, Off_nil] at ho
  simp [State.enumerate, ho]
@[simp] theorem State.ringMasks_regs (s : State) (present : Nat) (gap : Nat) (ga : Nat) (ho : Off [DT.CTRL.LOCK, DT.STATUS.ALIGNED, DT.OFFSET.OFFSET, PWR.RING_STATUS.RING_ID] ga) :
    regAt (State.ringMasks s present gap).regs ga = regAt s.regs ga := by
  simp only [Off_cons, Off_nil] at ho
  simp [State.ringMasks, ho]
@[simp] theorem State.firstStep_regs (s : State) (d : Int) (ga : Nat) (ho : Off [DT.STATUS.ALIGNED, TB.STAMP, MF.VIB_STATUS.SETTLING, BAB.IN_STATUS.STATE, REC.QUEUE.VALUE, REC.EVT_TOTAL] ga) :
    regAt (State.firstStep s d).regs ga = regAt s.regs ga := by
  simp only [Off_cons, Off_nil] at ho
  simp [State.firstStep, ho]
@[simp] theorem State.twinAbsent_regs (s : State) (ga : Nat) (ho : Off [TB.SPEED.SPEED, TB.ANGLE, TB.STAMP, TB.STATUS.STATE, SCH.TARGET, SCH.PRED, SCH.RESID.RESID, SCH.STATUS.STATE,
      AX.PWM_CTRL.EN, AX.FOC_CTRL.RUN, AX.SPD_DERATE.TQ, AX.CMT_STATUS.STATE, AX.SAF_STATUS.STATE, ENG.STATUS.HOSTS,
      CTX.STATUS.STATE, CTX.FRAME.FRAME, CTX.LAST_CODE.CODE, CTX.LAST_TRIG, CTX.LAST_DONE, CTX.CLK_LAST.CLK, CTX.CLK_MAX.CLK,
      CTX.Q_STATUS.CLIP_ALARM, CTX.Q_CLIP.CNT, CTX.Q_ELEM.CNT, CTX.Q_NAN.CNT, CTX.Q_DEV.CNT, CTX.Q_WORST.SHARE,
      CTX.Q_HIST.FILL_MIN, CTX.Q_CLIP_TOT, CTX.Q_ELEM_TOT, CTX.Q_NAN_TOT, CTX.DIG_STATUS.HAS_U, CTX.TRACE_CTRL.ARM,
      Q.PROD.PROD, Q.TAKE.TAKE, Q.RET.RET, Q.CREDITS.CREDITS, Q.STATUS.NO_CREDIT, Q.LAST_POST, Q.POSTS.SEQ,
      Q.SLOTS.POST_SLOT, BAB.IN_STATUS.STATE, BAB.IN_POS, TWN.STATUS.PAIRED, MEM.CH_RETIRE.RETIRE, MEM.ECC_STATUS.CE,
      MEM.UE_FIRST_ADDR, MEM.UE_FIRST_INFO.MASTER, MEM.UE_FIRST_TIME, MEM.UE_LATEST_ADDR, MEM.UE_LATEST_INFO.INFO,
      MEM.UE_LATEST_TIME, MEM.CH_CNT.CE, MEM.SRAM_CNT.CE, AT.VIO_STATUS.FIRST_VALID, AT.VIO_FIRST_ADDR,
      AT.VIO_FIRST_INFO.MASTER, AT.VIO_FIRST_TIME, AT.VIO_LATEST_ADDR, AT.VIO_LATEST_INFO.INFO, AT.VIO_LATEST_TIME,
      SAF.STATUS.STATE, SAF.GROUP_STATE.LOW, SAF.FAULT_LAST.CODE, SAF.FAULT_TIME, REC.QUEUE.VALUE, REC.EVT_TOTAL] ga) (hq : ¬InSet .direct ga) :
    regAt (State.twinAbsent s).regs ga = regAt s.regs ga := by
  simp only [Off_cons, Off_nil] at ho
  simp [State.twinAbsent, ho, hq]
@[simp] theorem State.ringLoss_regs (s : State) (p : Nat) (gone : Option (Fin 8)) (ga : Nat) (ho : Off [DT.CTRL.LOCK, DT.STATUS.ALIGNED, DT.OFFSET.OFFSET, TB.SPEED.SPEED, TB.ANGLE, TB.STAMP, TB.STATUS.STATE, SCH.TARGET,
      SCH.PRED, SCH.RESID.RESID, SCH.STATUS.STATE, AX.PWM_CTRL.EN, AX.CMT_STATUS.STATE, AX.SAF_STATUS.STATE,
      BAB.IN_STATUS.STATE, BAB.IN_POS, MEM.CH_RETIRE.RETIRE, MEM.ECC_STATUS.CE, MEM.UE_FIRST_ADDR, MEM.UE_FIRST_INFO.MASTER,
      MEM.UE_FIRST_TIME, MEM.UE_LATEST_ADDR, MEM.UE_LATEST_INFO.INFO, MEM.UE_LATEST_TIME, MEM.CH_CNT.CE, MEM.SRAM_CNT.CE,
      AT.VIO_STATUS.FIRST_VALID, AT.VIO_FIRST_ADDR, AT.VIO_FIRST_INFO.MASTER, AT.VIO_FIRST_TIME, AT.VIO_LATEST_ADDR,
      AT.VIO_LATEST_INFO.INFO, AT.VIO_LATEST_TIME, SAF.STO_REQ.GROUPS, SAF.GROUP_STATE.LOW, REC.QUEUE.VALUE, REC.EVT_TOTAL,
      PWR.RING_STATUS.RING_ID] ga) (hq : ¬InSet .direct ga) :
    regAt (State.ringLoss s p gone).regs ga = regAt s.regs ga := by
  simp only [Off_cons, Off_nil] at ho
  unfold State.ringLoss; split <;> simp [ho, hq]
@[simp] theorem State.linkResend_regs (s : State) (p : Nat) (c : Nat) (ga : Nat) (ho : Off [TWN.STATUS.PAIRED, LNK.STATUS.UP, LNK.RETRY_CNT.CNT, LNK.RETRAIN_CNT.CNT] ga) :
    regAt (State.linkResend s p c).regs ga = regAt s.regs ga := by
  simp only [Off_cons, Off_nil] at ho
  simp [State.linkResend, ho]
@[simp] theorem State.fxLnkCtrl_regs (s : State) (p : Nat) (v : Nat) (ga : Nat) (ho : Off [TWN.STATUS.PAIRED, LNK.STATUS.UP, LNK.RETRAIN_CNT.CNT] ga) :
    regAt (State.fxLnkCtrl s p v).1.regs ga = regAt s.regs ga := by
  simp only [Off_cons, Off_nil] at ho
  simp [State.fxLnkCtrl, ho]
@[simp] theorem State.babShowLayout_regs (s : State) (ga : Nat) (ho : Off [BAB.CTX_LAYOUT.VALUE] ga) :
    regAt (State.babShowLayout s).regs ga = regAt s.regs ga := by
  simp only [Off_cons, Off_nil] at ho
  simp [State.babShowLayout, ho]
@[simp] theorem State.fxBabIn_regs (s : State) (v k w : Nat) (ga : Nat) (ho : Off [BAB.IN_CFG.EN, BAB.IN_BAND.LO, BAB.IN_RING.OFS, BAB.IN_STATUS.STATE, BAB.CTX_LAYOUT.VALUE, BAB.CTX_STATUS.CFG_ERR] ga) (hk : k < 3) :
    regAt (s.fxBabIn v k w).1.regs ga = regAt s.regs ga := by
  simp only [Off_cons, Off_nil] at ho
  have h0 : ga ≠ BAB.IN_CFG.EN.addr v + 4 * k := by
    intro e
    have e1 : ga = BAB.IN_CFG.EN.addr v ∨ ga = BAB.IN_BAND.LO.addr v ∨ ga = BAB.IN_RING.OFS.addr v := by
      simp only [RF.addr, BAB.IN_CFG.EN, BAB.IN_BAND.LO, BAB.IN_RING.OFS] at e ⊢; omega
    rcases e1 with e | e | e
    · exact ho.1 ⟨v, 0, .inl e⟩
    · exact ho.2.1 ⟨v, 0, .inl e⟩
    · exact ho.2.2.1 ⟨v, 0, .inl e⟩
  unfold State.fxBabIn
  dsimp only
  split
  · simp [ho]
  · split <;> simp [ho, writeFields_off _ _ _ _ h0]
@[simp] theorem State.defectTable_regs (s : State) (c : Nat) (ga : Nat) (ho : Off [MEM.CH_RETIRE.RETIRE, MEM.ECC_STATUS.CE, MEM.UE_FIRST_ADDR, MEM.UE_FIRST_INFO.MASTER, MEM.UE_FIRST_TIME,
      MEM.UE_LATEST_ADDR, MEM.UE_LATEST_INFO.INFO, MEM.UE_LATEST_TIME, MEM.CH_CNT.CE, MEM.SRAM_CNT.CE,
      AT.VIO_STATUS.FIRST_VALID, AT.VIO_FIRST_ADDR, AT.VIO_FIRST_INFO.MASTER, AT.VIO_FIRST_TIME, AT.VIO_LATEST_ADDR,
      AT.VIO_LATEST_INFO.INFO, AT.VIO_LATEST_TIME, REC.QUEUE.VALUE, REC.EVT_TOTAL] ga) :
    regAt (State.defectTable s c).1.regs ga = regAt s.regs ga := by
  simp only [Off_cons, Off_nil] at ho
  unfold State.defectTable; (try dsimp only); (repeat' (split <;> try (rename_i heq; have hs := congrArg (fun x => x.1) heq; simp only at hs; subst hs))) <;> simp [ho]
@[simp] theorem State.fxBabCtxCfg_regs (s : State) (c : Nat) (w : Nat) (ga : Nat) (ho : Off [BAB.CTX_CFG.EN, BAB.CTX_LAYOUT.VALUE, BAB.CTX_STATUS.CFG_ERR, MEM.CH_RETIRE.RETIRE, MEM.ECC_STATUS.CE,
      MEM.UE_FIRST_ADDR, MEM.UE_FIRST_INFO.MASTER, MEM.UE_FIRST_TIME, MEM.UE_LATEST_ADDR, MEM.UE_LATEST_INFO.INFO,
      MEM.UE_LATEST_TIME, MEM.CH_CNT.CE, MEM.SRAM_CNT.CE, AT.VIO_STATUS.FIRST_VALID, AT.VIO_FIRST_ADDR,
      AT.VIO_FIRST_INFO.MASTER, AT.VIO_FIRST_TIME, AT.VIO_LATEST_ADDR, AT.VIO_LATEST_INFO.INFO, AT.VIO_LATEST_TIME,
      REC.QUEUE.VALUE, REC.EVT_TOTAL] ga) :
    regAt (State.fxBabCtxCfg s c w).1.regs ga = regAt s.regs ga := by
  simp only [Off_cons, Off_nil] at ho
  unfold State.fxBabCtxCfg; dsimp only; (repeat' split) <;> simp [ho]
@[simp] theorem State.babPost_regs (s : State) (b : BabClose) (ga : Nat) (ho : Off [Q.PROD.PROD, Q.CREDITS.CREDITS, Q.STATUS.NO_CREDIT, Q.LAST_POST, Q.POSTS.SEQ, Q.SLOTS.POST_SLOT, BAB.STATUS.OVERLOAD,
      BAB.CTX_STATUS.CFG_ERR, TWN.STATUS.PAIRED, MEM.CH_RETIRE.RETIRE, MEM.ECC_STATUS.CE, MEM.UE_FIRST_ADDR,
      MEM.UE_FIRST_INFO.MASTER, MEM.UE_FIRST_TIME, MEM.UE_LATEST_ADDR, MEM.UE_LATEST_INFO.INFO, MEM.UE_LATEST_TIME,
      MEM.CH_CNT.CE, MEM.SRAM_CNT.CE, AT.VIO_STATUS.FIRST_VALID, AT.VIO_FIRST_ADDR, AT.VIO_FIRST_INFO.MASTER,
      AT.VIO_FIRST_TIME, AT.VIO_LATEST_ADDR, AT.VIO_LATEST_INFO.INFO, AT.VIO_LATEST_TIME, REC.QUEUE.VALUE, REC.EVT_TOTAL] ga) (hq : ¬InSet .direct ga) :
    regAt (State.babPost s b).regs ga = regAt s.regs ga := by
  simp only [Off_cons, Off_nil] at ho
  simp [State.babPost, ho, hq]
@[simp] theorem State.babDerate_regs (s : State) (c : Nat) (n : Nat) (tq : Nat) (acc : Nat) (ga : Nat) (ho : Off [AX.SPD_DERATE.TQ, BAB.CTX_STATUS.CFG_ERR, AT.VIO_STATUS.FIRST_VALID, AT.VIO_FIRST_ADDR, AT.VIO_FIRST_INFO.MASTER,
      AT.VIO_FIRST_TIME, AT.VIO_LATEST_ADDR, AT.VIO_LATEST_INFO.INFO, AT.VIO_LATEST_TIME, REC.QUEUE.VALUE, REC.EVT_TOTAL] ga) :
    regAt (State.babDerate s c n tq acc).regs ga = regAt s.regs ga := by
  simp only [Off_cons, Off_nil] at ho
  unfold State.babDerate; dsimp only; (repeat' split) <;> simp [ho]
@[simp] theorem State.babMiss_regs (s : State) (c : Nat) (stale : Bool) (ga : Nat) (ho : Off [AX.SPD_DERATE.TQ, BAB.CTX_STATUS.CFG_ERR, AT.VIO_STATUS.FIRST_VALID, AT.VIO_FIRST_ADDR, AT.VIO_FIRST_INFO.MASTER,
      AT.VIO_FIRST_TIME, AT.VIO_LATEST_ADDR, AT.VIO_LATEST_INFO.INFO, AT.VIO_LATEST_TIME, REC.QUEUE.VALUE, REC.EVT_TOTAL] ga) :
    regAt (State.babMiss s c stale).regs ga = regAt s.regs ga := by
  simp only [Off_cons, Off_nil] at ho
  simp [State.babMiss, ho]
@[simp] theorem State.babAction_regs (s : State) (c : Nat) (a : List Nat) (ga : Nat) (ho : Off [AX.SPD_DERATE.TQ, BAB.CTX_STATUS.CFG_ERR, AT.VIO_STATUS.FIRST_VALID, AT.VIO_FIRST_ADDR, AT.VIO_FIRST_INFO.MASTER,
      AT.VIO_FIRST_TIME, AT.VIO_LATEST_ADDR, AT.VIO_LATEST_INFO.INFO, AT.VIO_LATEST_TIME, REC.QUEUE.VALUE, REC.EVT_TOTAL] ga) :
    regAt (State.babAction s c a).regs ga = regAt s.regs ga := by
  simp only [Off_cons, Off_nil] at ho
  simp [State.babAction, ho]
@[simp] theorem State.babApply_regs (s : State) (c : Nat) (frame : Nat) (blk : List Nat) (ga : Nat) (ho : Off [AX.SPD_DERATE.TQ, BAB.CTX_ALARM.ALARM, BAB.CTX_STATUS.CFG_ERR, BAB.CTX_LAST_APPLY, AT.VIO_STATUS.FIRST_VALID,
      AT.VIO_FIRST_ADDR, AT.VIO_FIRST_INFO.MASTER, AT.VIO_FIRST_TIME, AT.VIO_LATEST_ADDR, AT.VIO_LATEST_INFO.INFO,
      AT.VIO_LATEST_TIME, REC.QUEUE.VALUE, REC.EVT_TOTAL] ga) :
    regAt (State.babApply s c frame blk).regs ga = regAt s.regs ga := by
  simp only [Off_cons, Off_nil] at ho
  simp [State.babApply, ho]
@[simp] theorem State.dmaMove_regs (s : State) (src dst n : Nat) (a : List (Nat × Nat)) (ga : Nat) (ho : Off [MEM.CH_RETIRE.RETIRE, MEM.ECC_STATUS.CE, MEM.UE_FIRST_ADDR, MEM.UE_FIRST_INFO.MASTER, MEM.UE_FIRST_TIME,
      MEM.UE_LATEST_ADDR, MEM.UE_LATEST_INFO.INFO, MEM.UE_LATEST_TIME, MEM.CH_CNT.CE, MEM.SRAM_CNT.CE,
      AT.VIO_STATUS.FIRST_VALID, AT.VIO_FIRST_ADDR, AT.VIO_FIRST_INFO.MASTER, AT.VIO_FIRST_TIME, AT.VIO_LATEST_ADDR,
      AT.VIO_LATEST_INFO.INFO, AT.VIO_LATEST_TIME, REC.QUEUE.VALUE, REC.EVT_TOTAL] ga) (hq : ¬InSet .direct ga) :
    regAt (s.dmaMove src dst n a).1.regs ga = regAt s.regs ga := by
  induction a generalizing s n with
  | nil => rfl
  | cons p t ih =>
    simp only [Off_cons, Off_nil] at ho
    unfold State.dmaMove
    split
    · (rename_i heq; have hs := congrArg (fun x => x.1) heq; simp only at hs; subst hs)
      split
      · (rename_i heq; have hs := congrArg (fun x => x.1) heq; simp only at hs; subst hs)
        rw [ih]; simp [ho, hq]
      · (rename_i heq; have hs := congrArg (fun x => x.1) heq; simp only at hs; subst hs)
        simp [ho, hq]
    · (rename_i heq; have hs := congrArg (fun x => x.1) heq; simp only at hs; subst hs)
      simp [ho, hq]
    · (rename_i heq; have hs := congrArg (fun x => x.1) heq; simp only at hs; subst hs)
      simp [ho, hq]
@[simp] theorem State.qPostAt_regs (s : State) (q : Nat) (d : Desc) (stamp : Nat) (ga : Nat) (ho : Off [Q.PROD.PROD, Q.CREDITS.CREDITS, Q.STATUS.NO_CREDIT, Q.LAST_POST, Q.POSTS.SEQ, Q.SLOTS.POST_SLOT, MEM.CH_RETIRE.RETIRE,
      MEM.ECC_STATUS.CE, MEM.UE_FIRST_ADDR, MEM.UE_FIRST_INFO.MASTER, MEM.UE_FIRST_TIME, MEM.UE_LATEST_ADDR,
      MEM.UE_LATEST_INFO.INFO, MEM.UE_LATEST_TIME, MEM.CH_CNT.CE, MEM.SRAM_CNT.CE, REC.QUEUE.VALUE, REC.EVT_TOTAL] ga) :
    regAt (State.qPostAt s q d stamp).1.regs ga = regAt s.regs ga := by
  simp only [Off_cons, Off_nil] at ho
  simp [State.qPostAt, ho]
@[simp] theorem State.ethDropped_regs (s : State) (p : Nat) (ga : Nat) :
    regAt (State.ethDropped s p).regs ga = regAt s.regs ga := by
  simp [State.ethDropped]
@[simp] theorem State.fxRecFree_regs (s : State) (v : Nat) (ga : Nat) (ho : Off [REC.STATUS.NV_VALID, REC.NV_HEAD.VALUE] ga) :
    regAt (State.fxRecFree s v).1.regs ga = regAt s.regs ga := by
  simp only [Off_cons, Off_nil] at ho
  simp [State.fxRecFree, ho]
@[simp] theorem State.fxAgeFree_regs (s : State) (v : Nat) (ga : Nat) (ho : Off [AGE.STATUS.MODE, AGE.VREQ.V_REQ, AGE.SMIN.SLACK, AGE.DL_CORR.CORR, REC.QUEUE.VALUE, REC.EVT_TOTAL] ga) :
    regAt (State.fxAgeFree s v).1.regs ga = regAt s.regs ga := by
  simp only [Off_cons, Off_nil] at ho
  simp [State.fxAgeFree, ho]
@[simp] theorem State.load_regs (s : State) (m a n : Nat) (ga : Nat) (ho : Off [MEM.CH_RETIRE.RETIRE, MEM.ECC_STATUS.CE, MEM.UE_FIRST_ADDR, MEM.UE_FIRST_INFO.MASTER, MEM.UE_FIRST_TIME,
      MEM.UE_LATEST_ADDR, MEM.UE_LATEST_INFO.INFO, MEM.UE_LATEST_TIME, MEM.CH_CNT.CE, MEM.SRAM_CNT.CE,
      AT.VIO_STATUS.FIRST_VALID, AT.VIO_FIRST_ADDR, AT.VIO_FIRST_INFO.MASTER, AT.VIO_FIRST_TIME, AT.VIO_LATEST_ADDR,
      AT.VIO_LATEST_INFO.INFO, AT.VIO_LATEST_TIME, REC.QUEUE.VALUE, REC.EVT_TOTAL] ga) :
    regAt (s.load m a n).regs ga = regAt s.regs ga := by
  simp only [Off_cons, Off_nil] at ho
  unfold State.load
  split
  · simp
  · split
    · simp [ho]
    · split
      · simp [ho]
      · split
        · simp [ho]
        · split <;> (rename_i heq; have hs := congrArg (fun x => x.1) heq; simp only at hs; subst hs) <;> simp [ho]
@[simp] theorem State.linkComplete_regs (s : State) (p : Nat) (data : List Nat) (ga : Nat) :
    regAt (State.linkComplete s p data).regs ga = regAt s.regs ga := by
  simp [State.linkComplete]
@[simp] theorem State.mbRun_regs (s : State) (b op : Nat) (f : State → List Nat → State × Option MbRes) (ga : Nat)
    (hf : ∀ s l, regAt (f s l).1.regs ga = regAt s.regs ga) : regAt (s.mbRun b op f).regs ga = regAt s.regs ga := by
  unfold State.mbRun
  split
  · simp
  · split
    · dsimp only; split <;> simp [hf]
    · simp
@[simp] theorem State.mbWrite_regs (s : State) (a : Nat) (fx : State → State × WErr) (res : State → Option MbRes) (ga : Nat) (ho : Off [AT.VIO_STATUS.FIRST_VALID, AT.VIO_FIRST_ADDR, AT.VIO_FIRST_INFO.MASTER, AT.VIO_FIRST_TIME, AT.VIO_LATEST_ADDR,
      AT.VIO_LATEST_INFO.INFO, AT.VIO_LATEST_TIME, REC.QUEUE.VALUE, REC.EVT_TOTAL] ga)
    (hf : regAt (fx s).1.regs ga = regAt s.regs ga) : regAt (s.mbWrite a fx res).1.regs ga = regAt s.regs ga := by
  have k := State.busWriteWith_regs s 8 a (needsSw a) fx ga ho hf
  unfold State.mbWrite
  dsimp only
  split
  · rfl
  · exact k

end Sys2Proof.Machine
end

