-- ==== Sys2Proof/Laws/FrameExec1.lean ====
section
/-!
SUPPORT. Which registers each command changes: it answers a next state in which every register of another field keeps its value.
-/
set_option linter.all false
namespace Sys2Proof.Machine
open Sys2Proof.Safety

theorem execRecorderTake_regs (s : State) :
    ∃ t, execRecorderTake s = .next t ∧ OnlyFields s t [REC.HEAD.VALUE, REC.QUEUE.VALUE] := by
  unfold execRecorderTake; dsimp only; (repeat' split) <;> (refine ⟨_, rfl, onlyFields_of fun ga ho hs => ?_⟩; simp only [Off_cons, Off_nil] at ho; simp [ho])
theorem execMirrorWrite_regs (ok : Bool) (s : State) :
    ∃ t, execMirrorWrite ok s = .next t ∧ OnlyFields s t [REC.STATUS.NV_VALID, REC.NV_HEAD.VALUE] := by
  unfold execMirrorWrite; (repeat' split) <;> (refine ⟨_, rfl, onlyFields_of fun ga ho hs => ?_⟩; simp only [Off_cons, Off_nil] at ho; simp [ho])
theorem execNvReadDone_regs (ok : Bool) (s : State) :
    ∃ t, execNvReadDone ok s = .next t ∧ OnlyFields s t [REC.STATUS.NV_VALID, REC.NV_DATA.DATA] := by
  unfold execNvReadDone; (repeat' split) <;> (refine ⟨_, rfl, onlyFields_of fun ga ho hs => ?_⟩; simp only [Off_cons, Off_nil] at ho; simp [ho])
theorem execHoursUpdate_regs (s : State) :
    ∃ t, execHoursUpdate s = .next t ∧ OnlyFields s t [REC.HOURS.VALUE] := by
  unfold execHoursUpdate; dsimp only; (repeat' split) <;> (refine ⟨_, rfl, onlyFields_of fun ga ho hs => ?_⟩; simp only [Off_cons, Off_nil] at ho; simp [ho])
theorem execQPost_regs (m : Fin 64) (q : Fin 1024) (n : Fin 8192) (s : State) :
    ∃ t, execQPost m q n s = .next t ∧ OnlyFields s t [Q.PROD.PROD, Q.TAKE.TAKE, Q.RET.RET, Q.CREDITS.CREDITS, Q.STATUS.NO_CREDIT, Q.LAST_POST, Q.POSTS.SEQ,
      Q.SLOTS.POST_SLOT, MEM.CH_RETIRE.RETIRE, MEM.ECC_STATUS.CE, MEM.UE_FIRST_ADDR, MEM.UE_FIRST_INFO.MASTER,
      MEM.UE_FIRST_TIME, MEM.UE_LATEST_ADDR, MEM.UE_LATEST_INFO.INFO, MEM.UE_LATEST_TIME, MEM.CH_CNT.CE, MEM.SRAM_CNT.CE,
      AT.VIO_STATUS.FIRST_VALID, AT.VIO_FIRST_ADDR, AT.VIO_FIRST_INFO.MASTER, AT.VIO_FIRST_TIME, AT.VIO_LATEST_ADDR,
      AT.VIO_LATEST_INFO.INFO, AT.VIO_LATEST_TIME, REC.QUEUE.VALUE, REC.EVT_TOTAL] := by
  refine ⟨_, rfl, onlyFields_of fun ga ho hs => ?_⟩; simp only [Off_cons, Off_nil] at ho; simp [ho]
theorem execQTake_regs (m : Fin 64) (q : Fin 1024) (n : Fin 8192) (s : State) :
    ∃ t, execQTake m q n s = .next t ∧ OnlyFields s t [Q.PROD.PROD, Q.TAKE.TAKE, Q.RET.RET, Q.CREDITS.CREDITS, Q.STATUS.NO_CREDIT, Q.LAST_POST, Q.POSTS.SEQ,
      Q.SLOTS.POST_SLOT, MEM.CH_RETIRE.RETIRE, MEM.ECC_STATUS.CE, MEM.UE_FIRST_ADDR, MEM.UE_FIRST_INFO.MASTER,
      MEM.UE_FIRST_TIME, MEM.UE_LATEST_ADDR, MEM.UE_LATEST_INFO.INFO, MEM.UE_LATEST_TIME, MEM.CH_CNT.CE, MEM.SRAM_CNT.CE,
      AT.VIO_STATUS.FIRST_VALID, AT.VIO_FIRST_ADDR, AT.VIO_FIRST_INFO.MASTER, AT.VIO_FIRST_TIME, AT.VIO_LATEST_ADDR,
      AT.VIO_LATEST_INFO.INFO, AT.VIO_LATEST_TIME, REC.QUEUE.VALUE, REC.EVT_TOTAL] := by
  refine ⟨_, rfl, onlyFields_of fun ga ho hs => ?_⟩; simp only [Off_cons, Off_nil] at ho; simp [ho]
theorem execQRetire_regs (m : Fin 64) (q : Fin 1024) (n : Fin 8192) (s : State) :
    ∃ t, execQRetire m q n s = .next t ∧ OnlyFields s t [Q.PROD.PROD, Q.TAKE.TAKE, Q.RET.RET, Q.CREDITS.CREDITS, Q.STATUS.NO_CREDIT, Q.LAST_POST, Q.POSTS.SEQ,
      Q.SLOTS.POST_SLOT, MEM.CH_RETIRE.RETIRE, MEM.ECC_STATUS.CE, MEM.UE_FIRST_ADDR, MEM.UE_FIRST_INFO.MASTER,
      MEM.UE_FIRST_TIME, MEM.UE_LATEST_ADDR, MEM.UE_LATEST_INFO.INFO, MEM.UE_LATEST_TIME, MEM.CH_CNT.CE, MEM.SRAM_CNT.CE,
      AT.VIO_STATUS.FIRST_VALID, AT.VIO_FIRST_ADDR, AT.VIO_FIRST_INFO.MASTER, AT.VIO_FIRST_TIME, AT.VIO_LATEST_ADDR,
      AT.VIO_LATEST_INFO.INFO, AT.VIO_LATEST_TIME, REC.QUEUE.VALUE, REC.EVT_TOTAL] := by
  refine ⟨_, rfl, onlyFields_of fun ga ho hs => ?_⟩; simp only [Off_cons, Off_nil] at ho; simp [ho]
theorem execQCfgWrite_regs (m : Fin 64) (q : Fin 1024) (v : Sys2Proof.Word) (s : State) :
    ∃ t, execQCfgWrite m q v s = .next t ∧ OnlyFields s t [Q.CFG.EN, Q.PROD.PROD, Q.TAKE.TAKE, Q.RET.RET, Q.CREDITS.CREDITS, Q.STATUS.NO_CREDIT, Q.POSTS.SEQ, Q.SLOTS.POST_SLOT,
      AT.VIO_STATUS.FIRST_VALID, AT.VIO_FIRST_ADDR, AT.VIO_FIRST_INFO.MASTER, AT.VIO_FIRST_TIME, AT.VIO_LATEST_ADDR,
      AT.VIO_LATEST_INFO.INFO, AT.VIO_LATEST_TIME, REC.QUEUE.VALUE, REC.EVT_TOTAL] := by
  refine ⟨_, rfl, onlyFields_of fun ga ho hs => ?_⟩; simp only [Off_cons, Off_nil] at ho; simp [ho]
theorem execQBaseWrite_regs (m : Fin 64) (q : Fin 1024) (v : Sys2Proof.Word) (s : State) :
    ∃ t, execQBaseWrite m q v s = .next t ∧ OnlyFields s t [Q.BASE, Q.STATUS.NO_CREDIT, AT.VIO_STATUS.FIRST_VALID, AT.VIO_FIRST_ADDR, AT.VIO_FIRST_INFO.MASTER, AT.VIO_FIRST_TIME,
      AT.VIO_LATEST_ADDR, AT.VIO_LATEST_INFO.INFO, AT.VIO_LATEST_TIME, REC.QUEUE.VALUE, REC.EVT_TOTAL] := by
  refine ⟨_, rfl, onlyFields_of fun ga ho hs => ?_⟩; simp only [Off_cons, Off_nil] at ho; simp [ho]
theorem execMatmul_regs (c : Fin 64) (i : Fin 65536) (s : State) :
    ∃ t, execMatmul c i s = .next t ∧ OnlyFields s t [MEM.CH_RETIRE.RETIRE, MEM.ECC_STATUS.CE, MEM.UE_FIRST_ADDR, MEM.UE_FIRST_INFO.MASTER, MEM.UE_FIRST_TIME,
      MEM.UE_LATEST_ADDR, MEM.UE_LATEST_INFO.INFO, MEM.UE_LATEST_TIME, MEM.CH_CNT.CE, MEM.SRAM_CNT.CE,
      AT.VIO_STATUS.FIRST_VALID, AT.VIO_FIRST_ADDR, AT.VIO_FIRST_INFO.MASTER, AT.VIO_FIRST_TIME, AT.VIO_LATEST_ADDR,
      AT.VIO_LATEST_INFO.INFO, AT.VIO_LATEST_TIME, REC.QUEUE.VALUE, REC.EVT_TOTAL] [.direct] := by
  refine ⟨_, rfl, onlyFields_of fun ga ho hs => ?_⟩; simp only [Off_cons, Off_nil] at ho; simp [ho, hs .direct (by simp)]
theorem execMatmulBias_regs (c : Fin 64) (i : Fin 65536) (s : State) :
    ∃ t, execMatmulBias c i s = .next t ∧ OnlyFields s t [MEM.CH_RETIRE.RETIRE, MEM.ECC_STATUS.CE, MEM.UE_FIRST_ADDR, MEM.UE_FIRST_INFO.MASTER, MEM.UE_FIRST_TIME,
      MEM.UE_LATEST_ADDR, MEM.UE_LATEST_INFO.INFO, MEM.UE_LATEST_TIME, MEM.CH_CNT.CE, MEM.SRAM_CNT.CE,
      AT.VIO_STATUS.FIRST_VALID, AT.VIO_FIRST_ADDR, AT.VIO_FIRST_INFO.MASTER, AT.VIO_FIRST_TIME, AT.VIO_LATEST_ADDR,
      AT.VIO_LATEST_INFO.INFO, AT.VIO_LATEST_TIME, REC.QUEUE.VALUE, REC.EVT_TOTAL] [.direct] := by
  refine ⟨_, rfl, onlyFields_of fun ga ho hs => ?_⟩; simp only [Off_cons, Off_nil] at ho; simp [ho, hs .direct (by simp)]
theorem execConv1d_regs (c : Fin 64) (i : Fin 65536) (stride : Nat) (dil : Nat) (pad : Nat) (s : State) :
    ∃ t, execConv1d c i stride dil pad s = .next t ∧ OnlyFields s t [MEM.CH_RETIRE.RETIRE, MEM.ECC_STATUS.CE, MEM.UE_FIRST_ADDR, MEM.UE_FIRST_INFO.MASTER, MEM.UE_FIRST_TIME,
      MEM.UE_LATEST_ADDR, MEM.UE_LATEST_INFO.INFO, MEM.UE_LATEST_TIME, MEM.CH_CNT.CE, MEM.SRAM_CNT.CE,
      AT.VIO_STATUS.FIRST_VALID, AT.VIO_FIRST_ADDR, AT.VIO_FIRST_INFO.MASTER, AT.VIO_FIRST_TIME, AT.VIO_LATEST_ADDR,
      AT.VIO_LATEST_INFO.INFO, AT.VIO_LATEST_TIME, REC.QUEUE.VALUE, REC.EVT_TOTAL] [.direct] := by
  refine ⟨_, rfl, onlyFields_of fun ga ho hs => ?_⟩; simp only [Off_cons, Off_nil] at ho; simp [ho, hs .direct (by simp)]
theorem execConv2d_regs (c : Fin 64) (i : Fin 65536) (stride : Nat) (dil : Nat) (pad : Nat) (s : State) :
    ∃ t, execConv2d c i stride dil pad s = .next t ∧ OnlyFields s t [MEM.CH_RETIRE.RETIRE, MEM.ECC_STATUS.CE, MEM.UE_FIRST_ADDR, MEM.UE_FIRST_INFO.MASTER, MEM.UE_FIRST_TIME,
      MEM.UE_LATEST_ADDR, MEM.UE_LATEST_INFO.INFO, MEM.UE_LATEST_TIME, MEM.CH_CNT.CE, MEM.SRAM_CNT.CE,
      AT.VIO_STATUS.FIRST_VALID, AT.VIO_FIRST_ADDR, AT.VIO_FIRST_INFO.MASTER, AT.VIO_FIRST_TIME, AT.VIO_LATEST_ADDR,
      AT.VIO_LATEST_INFO.INFO, AT.VIO_LATEST_TIME, REC.QUEUE.VALUE, REC.EVT_TOTAL] [.direct] := by
  refine ⟨_, rfl, onlyFields_of fun ga ho hs => ?_⟩; simp only [Off_cons, Off_nil] at ho; simp [ho, hs .direct (by simp)]
theorem execDwconv_regs (c : Fin 64) (i : Fin 65536) (stride : Nat) (dil : Nat) (pad : Nat) (s : State) :
    ∃ t, execDwconv c i stride dil pad s = .next t ∧ OnlyFields s t [MEM.CH_RETIRE.RETIRE, MEM.ECC_STATUS.CE, MEM.UE_FIRST_ADDR, MEM.UE_FIRST_INFO.MASTER, MEM.UE_FIRST_TIME,
      MEM.UE_LATEST_ADDR, MEM.UE_LATEST_INFO.INFO, MEM.UE_LATEST_TIME, MEM.CH_CNT.CE, MEM.SRAM_CNT.CE,
      AT.VIO_STATUS.FIRST_VALID, AT.VIO_FIRST_ADDR, AT.VIO_FIRST_INFO.MASTER, AT.VIO_FIRST_TIME, AT.VIO_LATEST_ADDR,
      AT.VIO_LATEST_INFO.INFO, AT.VIO_LATEST_TIME, REC.QUEUE.VALUE, REC.EVT_TOTAL] [.direct] := by
  refine ⟨_, rfl, onlyFields_of fun ga ho hs => ?_⟩; simp only [Off_cons, Off_nil] at ho; simp [ho, hs .direct (by simp)]
theorem execOutlierMm_regs (c : Fin 64) (i : Fin 65536) (s : State) :
    ∃ t, execOutlierMm c i s = .next t ∧ OnlyFields s t [MEM.CH_RETIRE.RETIRE, MEM.ECC_STATUS.CE, MEM.UE_FIRST_ADDR, MEM.UE_FIRST_INFO.MASTER, MEM.UE_FIRST_TIME,
      MEM.UE_LATEST_ADDR, MEM.UE_LATEST_INFO.INFO, MEM.UE_LATEST_TIME, MEM.CH_CNT.CE, MEM.SRAM_CNT.CE,
      AT.VIO_STATUS.FIRST_VALID, AT.VIO_FIRST_ADDR, AT.VIO_FIRST_INFO.MASTER, AT.VIO_FIRST_TIME, AT.VIO_LATEST_ADDR,
      AT.VIO_LATEST_INFO.INFO, AT.VIO_LATEST_TIME, REC.QUEUE.VALUE, REC.EVT_TOTAL] [.direct] := by
  refine ⟨_, rfl, onlyFields_of fun ga ho hs => ?_⟩; simp only [Off_cons, Off_nil] at ho; simp [ho, hs .direct (by simp)]
theorem execHadamard_regs (c : Fin 64) (i : Fin 65536) (s : State) :
    ∃ t, execHadamard c i s = .next t ∧ OnlyFields s t [MEM.CH_RETIRE.RETIRE, MEM.ECC_STATUS.CE, MEM.UE_FIRST_ADDR, MEM.UE_FIRST_INFO.MASTER, MEM.UE_FIRST_TIME,
      MEM.UE_LATEST_ADDR, MEM.UE_LATEST_INFO.INFO, MEM.UE_LATEST_TIME, MEM.CH_CNT.CE, MEM.SRAM_CNT.CE,
      AT.VIO_STATUS.FIRST_VALID, AT.VIO_FIRST_ADDR, AT.VIO_FIRST_INFO.MASTER, AT.VIO_FIRST_TIME, AT.VIO_LATEST_ADDR,
      AT.VIO_LATEST_INFO.INFO, AT.VIO_LATEST_TIME, REC.QUEUE.VALUE, REC.EVT_TOTAL] [.direct] := by
  refine ⟨_, rfl, onlyFields_of fun ga ho hs => ?_⟩; simp only [Off_cons, Off_nil] at ho; simp [ho, hs .direct (by simp)]
theorem execQuant_regs (c : Fin 64) (i : Fin 65536) (s : State) :
    ∃ t, execQuant c i s = .next t ∧ OnlyFields s t [MEM.CH_RETIRE.RETIRE, MEM.ECC_STATUS.CE, MEM.UE_FIRST_ADDR, MEM.UE_FIRST_INFO.MASTER, MEM.UE_FIRST_TIME,
      MEM.UE_LATEST_ADDR, MEM.UE_LATEST_INFO.INFO, MEM.UE_LATEST_TIME, MEM.CH_CNT.CE, MEM.SRAM_CNT.CE,
      AT.VIO_STATUS.FIRST_VALID, AT.VIO_FIRST_ADDR, AT.VIO_FIRST_INFO.MASTER, AT.VIO_FIRST_TIME, AT.VIO_LATEST_ADDR,
      AT.VIO_LATEST_INFO.INFO, AT.VIO_LATEST_TIME, REC.QUEUE.VALUE, REC.EVT_TOTAL] [.direct] := by
  refine ⟨_, rfl, onlyFields_of fun ga ho hs => ?_⟩; simp only [Off_cons, Off_nil] at ho; simp [ho, hs .direct (by simp)]
theorem execDequant_regs (c : Fin 64) (i : Fin 65536) (s : State) :
    ∃ t, execDequant c i s = .next t ∧ OnlyFields s t [MEM.CH_RETIRE.RETIRE, MEM.ECC_STATUS.CE, MEM.UE_FIRST_ADDR, MEM.UE_FIRST_INFO.MASTER, MEM.UE_FIRST_TIME,
      MEM.UE_LATEST_ADDR, MEM.UE_LATEST_INFO.INFO, MEM.UE_LATEST_TIME, MEM.CH_CNT.CE, MEM.SRAM_CNT.CE,
      AT.VIO_STATUS.FIRST_VALID, AT.VIO_FIRST_ADDR, AT.VIO_FIRST_INFO.MASTER, AT.VIO_FIRST_TIME, AT.VIO_LATEST_ADDR,
      AT.VIO_LATEST_INFO.INFO, AT.VIO_LATEST_TIME, REC.QUEUE.VALUE, REC.EVT_TOTAL] [.direct] := by
  refine ⟨_, rfl, onlyFields_of fun ga ho hs => ?_⟩; simp only [Off_cons, Off_nil] at ho; simp [ho, hs .direct (by simp)]
theorem execQstat_regs (c : Fin 64) (i : Fin 65536) (s : State) :
    ∃ t, execQstat c i s = .next t ∧ OnlyFields s t [MEM.CH_RETIRE.RETIRE, MEM.ECC_STATUS.CE, MEM.UE_FIRST_ADDR, MEM.UE_FIRST_INFO.MASTER, MEM.UE_FIRST_TIME,
      MEM.UE_LATEST_ADDR, MEM.UE_LATEST_INFO.INFO, MEM.UE_LATEST_TIME, MEM.CH_CNT.CE, MEM.SRAM_CNT.CE,
      AT.VIO_STATUS.FIRST_VALID, AT.VIO_FIRST_ADDR, AT.VIO_FIRST_INFO.MASTER, AT.VIO_FIRST_TIME, AT.VIO_LATEST_ADDR,
      AT.VIO_LATEST_INFO.INFO, AT.VIO_LATEST_TIME, REC.QUEUE.VALUE, REC.EVT_TOTAL] [.direct] := by
  refine ⟨_, rfl, onlyFields_of fun ga ho hs => ?_⟩; simp only [Off_cons, Off_nil] at ho; simp [ho, hs .direct (by simp)]
theorem execDma_regs (c : Fin 64) (i : Fin 65536) (q : Fin 1024) (done : Fin 1024) (src : Nat) (dst : Nat) (len : Nat) (s : State) :
    ∃ t, execDma c i q done src dst len s = .next t ∧ OnlyFields s t [Q.PROD.PROD, Q.TAKE.TAKE, Q.RET.RET, Q.CREDITS.CREDITS, Q.LAST_POST, Q.POSTS.SEQ, Q.SLOTS.POST_SLOT,
      MEM.CH_RETIRE.RETIRE, MEM.ECC_STATUS.CE, MEM.UE_FIRST_ADDR, MEM.UE_FIRST_INFO.MASTER, MEM.UE_FIRST_TIME,
      MEM.UE_LATEST_ADDR, MEM.UE_LATEST_INFO.INFO, MEM.UE_LATEST_TIME, MEM.CH_CNT.CE, MEM.SRAM_CNT.CE,
      AT.VIO_STATUS.FIRST_VALID, AT.VIO_FIRST_ADDR, AT.VIO_FIRST_INFO.MASTER, AT.VIO_FIRST_TIME, AT.VIO_LATEST_ADDR,
      AT.VIO_LATEST_INFO.INFO, AT.VIO_LATEST_TIME, REC.QUEUE.VALUE, REC.EVT_TOTAL] [.direct] := by
  refine ⟨_, rfl, onlyFields_of fun ga ho hs => ?_⟩; simp only [Off_cons, Off_nil] at ho; simp [ho, hs .direct (by simp)]
theorem execWait_regs (c : Fin 64) (i : Fin 65536) (s : State) :
    ∃ t, execWait c i s = .next t ∧ OnlyFields s t [Q.TAKE.TAKE, Q.SLOTS.POST_SLOT, MEM.CH_RETIRE.RETIRE, MEM.ECC_STATUS.CE, MEM.UE_FIRST_ADDR, MEM.UE_FIRST_INFO.MASTER,
      MEM.UE_FIRST_TIME, MEM.UE_LATEST_ADDR, MEM.UE_LATEST_INFO.INFO, MEM.UE_LATEST_TIME, MEM.CH_CNT.CE, MEM.SRAM_CNT.CE,
      AT.VIO_STATUS.FIRST_VALID, AT.VIO_FIRST_ADDR, AT.VIO_FIRST_INFO.MASTER, AT.VIO_FIRST_TIME, AT.VIO_LATEST_ADDR,
      AT.VIO_LATEST_INFO.INFO, AT.VIO_LATEST_TIME, REC.QUEUE.VALUE, REC.EVT_TOTAL] := by
  refine ⟨_, rfl, onlyFields_of fun ga ho hs => ?_⟩; simp only [Off_cons, Off_nil] at ho; simp [ho]
theorem execPost_regs (c : Fin 64) (i : Fin 65536) (s : State) :
    ∃ t, execPost c i s = .next t ∧ OnlyFields s t [Q.PROD.PROD, Q.CREDITS.CREDITS, Q.LAST_POST, Q.POSTS.SEQ, Q.SLOTS.POST_SLOT, MEM.CH_RETIRE.RETIRE, MEM.ECC_STATUS.CE,
      MEM.UE_FIRST_ADDR, MEM.UE_FIRST_INFO.MASTER, MEM.UE_FIRST_TIME, MEM.UE_LATEST_ADDR, MEM.UE_LATEST_INFO.INFO,
      MEM.UE_LATEST_TIME, MEM.CH_CNT.CE, MEM.SRAM_CNT.CE, AT.VIO_STATUS.FIRST_VALID, AT.VIO_FIRST_ADDR,
      AT.VIO_FIRST_INFO.MASTER, AT.VIO_FIRST_TIME, AT.VIO_LATEST_ADDR, AT.VIO_LATEST_INFO.INFO, AT.VIO_LATEST_TIME,
      REC.QUEUE.VALUE, REC.EVT_TOTAL] [.direct] := by
  refine ⟨_, rfl, onlyFields_of fun ga ho hs => ?_⟩; simp only [Off_cons, Off_nil] at ho; simp [ho, hs .direct (by simp)]
theorem execRetire_regs (c : Fin 64) (i : Fin 65536) (s : State) :
    ∃ t, execRetire c i s = .next t ∧ OnlyFields s t [Q.RET.RET, Q.CREDITS.CREDITS, Q.STATUS.NO_CREDIT] := by
  refine ⟨_, rfl, onlyFields_of fun ga ho hs => ?_⟩; simp only [Off_cons, Off_nil] at ho; simp [ho]
theorem execBarrier_regs (c : Fin 64) (i : Fin 65536) (mask : Fin 256) (s : State) :
    ∃ t, execBarrier c i mask s = .next t ∧ OnlyFields s t [] := by
  refine ⟨_, rfl, onlyFields_of fun ga ho hs => ?_⟩; simp
theorem execResult_regs (c : Fin 64) (i : Fin 65536) (s : State) :
    ∃ t, execResult c i s = .next t ∧ OnlyFields s t [MEM.CH_RETIRE.RETIRE, MEM.ECC_STATUS.CE, MEM.UE_FIRST_ADDR, MEM.UE_FIRST_INFO.MASTER, MEM.UE_FIRST_TIME,
      MEM.UE_LATEST_ADDR, MEM.UE_LATEST_INFO.INFO, MEM.UE_LATEST_TIME, MEM.CH_CNT.CE, MEM.SRAM_CNT.CE,
      AT.VIO_STATUS.FIRST_VALID, AT.VIO_FIRST_ADDR, AT.VIO_FIRST_INFO.MASTER, AT.VIO_FIRST_TIME, AT.VIO_LATEST_ADDR,
      AT.VIO_LATEST_INFO.INFO, AT.VIO_LATEST_TIME, REC.QUEUE.VALUE, REC.EVT_TOTAL] := by
  refine ⟨_, rfl, onlyFields_of fun ga ho hs => ?_⟩; simp only [Off_cons, Off_nil] at ho; simp [ho]
theorem execNop_regs (c : Fin 64) (i : Fin 65536) (s : State) :
    ∃ t, execNop c i s = .next t ∧ OnlyFields s t [] := by
  refine ⟨_, rfl, onlyFields_of fun ga ho hs => ?_⟩; simp
theorem execMonSnap_regs (m : Fin 64) (k : Fin 424) (v : Sys2Proof.Word) (s : State) :
    ∃ t, execMonSnap m k v s = .next t ∧ OnlyFields s t [AT.VIO_STATUS.FIRST_VALID, AT.VIO_FIRST_ADDR, AT.VIO_FIRST_INFO.MASTER, AT.VIO_FIRST_TIME, AT.VIO_LATEST_ADDR,
      AT.VIO_LATEST_INFO.INFO, AT.VIO_LATEST_TIME, REC.QUEUE.VALUE, REC.EVT_TOTAL] [.monitors] := by
  refine ⟨_, rfl, onlyFields_of fun ga ho hs => ?_⟩; simp only [Off_cons, Off_nil] at ho; simp [ho, hs .monitors (by simp)]
theorem execMonAutoSnap_regs (k : Fin 424) (s : State) :
    ∃ t, execMonAutoSnap k s = .next t ∧ OnlyFields s t [] [.monitors] := by
  unfold execMonAutoSnap; dsimp only; (repeat' split) <;> (refine ⟨_, rfl, onlyFields_of fun ga ho hs => ?_⟩; simp [hs .monitors (by simp)])
theorem execHkConversionDone_regs (k : Fin 4) (raw : Int) (s : State) :
    ∃ t, execHkConversionDone k raw s = .next t ∧ OnlyFields s t [HK.STATUS.RUN, HK.URG_RESULT.VALUE, HK.URG_STAMP, HK.RESULT.VALUE, HK.STAMP] := by
  unfold execHkConversionDone; (repeat' split) <;> (refine ⟨_, rfl, onlyFields_of fun ga ho hs => ?_⟩; simp only [Off_cons, Off_nil] at ho; simp [ho])
theorem execHkDelayExpiry_regs (k : Fin 4) (s : State) :
    ∃ t, execHkDelayExpiry k s = .next t ∧ OnlyFields s t [HK.STATUS.RUN] := by
  unfold execHkDelayExpiry; dsimp only; (repeat' split) <;> (refine ⟨_, rfl, onlyFields_of fun ga ho hs => ?_⟩; simp only [Off_cons, Off_nil] at ho; simp [ho])
theorem execHkStart_regs (m : Fin 64) (k : Fin 4) (v : Sys2Proof.Word) (s : State) :
    ∃ t, execHkStart m k v s = .next t ∧ OnlyFields s t [HK.CTRL.START, HK.STATUS.RUN, AT.VIO_STATUS.FIRST_VALID, AT.VIO_FIRST_ADDR, AT.VIO_FIRST_INFO.MASTER,
      AT.VIO_FIRST_TIME, AT.VIO_LATEST_ADDR, AT.VIO_LATEST_INFO.INFO, AT.VIO_LATEST_TIME, REC.QUEUE.VALUE, REC.EVT_TOTAL] := by
  refine ⟨_, rfl, onlyFields_of fun ga ho hs => ?_⟩; simp only [Off_cons, Off_nil] at ho; simp [ho]
theorem execHkStop_regs (m : Fin 64) (k : Fin 4) (v : Sys2Proof.Word) (s : State) :
    ∃ t, execHkStop m k v s = .next t ∧ OnlyFields s t [HK.CTRL.START, HK.STATUS.RUN, AT.VIO_STATUS.FIRST_VALID, AT.VIO_FIRST_ADDR, AT.VIO_FIRST_INFO.MASTER,
      AT.VIO_FIRST_TIME, AT.VIO_LATEST_ADDR, AT.VIO_LATEST_INFO.INFO, AT.VIO_LATEST_TIME, REC.QUEUE.VALUE, REC.EVT_TOTAL] := by
  refine ⟨_, rfl, onlyFields_of fun ga ho hs => ?_⟩; simp only [Off_cons, Off_nil] at ho; simp [ho]
theorem execHkUrgent_regs (m : Fin 64) (k : Fin 4) (safety : Bool) (v : Sys2Proof.Word) (s : State) :
    ∃ t, execHkUrgent m k safety v s = .next t ∧ OnlyFields s t [HK.STATUS.RUN, HK.URGENT.REQ, AT.VIO_STATUS.FIRST_VALID, AT.VIO_FIRST_ADDR, AT.VIO_FIRST_INFO.MASTER,
      AT.VIO_FIRST_TIME, AT.VIO_LATEST_ADDR, AT.VIO_LATEST_INFO.INFO, AT.VIO_LATEST_TIME, REC.QUEUE.VALUE, REC.EVT_TOTAL] := by
  unfold execHkUrgent; (repeat' split) <;> (refine ⟨_, rfl, onlyFields_of fun ga ho hs => ?_⟩; simp only [Off_cons, Off_nil] at ho; simp [ho])
theorem execSlotFire_regs (k : Fin 256) (s : State) :
    ∃ t, execSlotFire k s = .next t ∧ OnlyFields s t [SCH.CFG.EN, SCH.TARGET, SCH.PRED, SCH.RESID.RESID, SCH.STATUS.STATE, SCH.LAST_FIRE, HK.STATUS.RUN, CTX.STATUS.STATE,
      CTX.FRAME.FRAME, CTX.OVR_CNT.CNT, Q.PROD.PROD, Q.CREDITS.CREDITS, Q.STATUS.NO_CREDIT, Q.LAST_POST, Q.POSTS.SEQ,
      Q.SLOTS.POST_SLOT, BAB.STATUS.OVERLOAD, TWN.STATUS.PAIRED, MEM.CH_RETIRE.RETIRE, MEM.ECC_STATUS.CE, MEM.UE_FIRST_ADDR,
      MEM.UE_FIRST_INFO.MASTER, MEM.UE_FIRST_TIME, MEM.UE_LATEST_ADDR, MEM.UE_LATEST_INFO.INFO, MEM.UE_LATEST_TIME,
      MEM.CH_CNT.CE, MEM.SRAM_CNT.CE, AT.VIO_STATUS.FIRST_VALID, AT.VIO_FIRST_ADDR, AT.VIO_FIRST_INFO.MASTER,
      AT.VIO_FIRST_TIME, AT.VIO_LATEST_ADDR, AT.VIO_LATEST_INFO.INFO, AT.VIO_LATEST_TIME, REC.QUEUE.VALUE, REC.EVT_TOTAL] := by
  unfold execSlotFire; dsimp only; (repeat' split) <;> (refine ⟨_, rfl, onlyFields_of fun ga ho hs => ?_⟩; simp only [Off_cons, Off_nil] at ho; simp [ho])
theorem execSchCfgWrite_regs (m : Fin 64) (k : Fin 256) (v : Sys2Proof.Word) (s : State) :
    ∃ t, execSchCfgWrite m k v s = .next t ∧ OnlyFields s t [SCH.CFG.EN, SCH.PRED, SCH.STATUS.STATE, AT.VIO_STATUS.FIRST_VALID, AT.VIO_FIRST_ADDR, AT.VIO_FIRST_INFO.MASTER,
      AT.VIO_FIRST_TIME, AT.VIO_LATEST_ADDR, AT.VIO_LATEST_INFO.INFO, AT.VIO_LATEST_TIME, REC.QUEUE.VALUE, REC.EVT_TOTAL] := by
  refine ⟨_, rfl, onlyFields_of fun ga ho hs => ?_⟩; simp only [Off_cons, Off_nil] at ho; simp [ho]
theorem execSchTargetWrite_regs (m : Fin 64) (k : Fin 256) (v : Sys2Proof.Word) (s : State) :
    ∃ t, execSchTargetWrite m k v s = .next t ∧ OnlyFields s t [SCH.TARGET, SCH.PRED, SCH.STATUS.STATE, AT.VIO_STATUS.FIRST_VALID, AT.VIO_FIRST_ADDR, AT.VIO_FIRST_INFO.MASTER,
      AT.VIO_FIRST_TIME, AT.VIO_LATEST_ADDR, AT.VIO_LATEST_INFO.INFO, AT.VIO_LATEST_TIME, REC.QUEUE.VALUE, REC.EVT_TOTAL] := by
  refine ⟨_, rfl, onlyFields_of fun ga ho hs => ?_⟩; simp only [Off_cons, Off_nil] at ho; simp [ho]
theorem execTbRestart_regs (m : Fin 64) (t_ : Fin 64) (ratio : Bool) (v : Sys2Proof.Word) (s : State) :
    ∃ t, execTbRestart m t_ ratio v s = .next t ∧ OnlyFields s t [TB.CFG.EN, TB.RATIO.NUM, TB.SPEED.SPEED, TB.ANGLE, TB.STAMP, TB.STATUS.STATE, SCH.TARGET, SCH.PRED, SCH.RESID.RESID,
      SCH.STATUS.STATE, BAB.IN_STATUS.STATE, BAB.IN_POS, MEM.CH_RETIRE.RETIRE, MEM.ECC_STATUS.CE, MEM.UE_FIRST_ADDR,
      MEM.UE_FIRST_INFO.MASTER, MEM.UE_FIRST_TIME, MEM.UE_LATEST_ADDR, MEM.UE_LATEST_INFO.INFO, MEM.UE_LATEST_TIME,
      MEM.CH_CNT.CE, MEM.SRAM_CNT.CE, AT.VIO_STATUS.FIRST_VALID, AT.VIO_FIRST_ADDR, AT.VIO_FIRST_INFO.MASTER,
      AT.VIO_FIRST_TIME, AT.VIO_LATEST_ADDR, AT.VIO_LATEST_INFO.INFO, AT.VIO_LATEST_TIME, REC.QUEUE.VALUE, REC.EVT_TOTAL] [.direct] := by
  unfold execTbRestart; (repeat' split) <;> (refine ⟨_, rfl, onlyFields_of fun ga ho hs => ?_⟩; simp only [Off_cons, Off_nil] at ho; simp [ho, hs .direct (by simp)])
theorem execTbSoftwareUpdate_regs (m : Fin 64) (t_ : Fin 64) (v : Sys2Proof.Word) (s : State) :
    ∃ t, execTbSoftwareUpdate m t_ v s = .next t ∧ OnlyFields s t [TB.SPEED.SPEED, TB.ANGLE, TB.STAMP, TB.STATUS.STATE, SCH.TARGET, SCH.PRED, SCH.RESID.RESID, SCH.STATUS.STATE,
      BAB.IN_STATUS.STATE, BAB.IN_POS, MEM.CH_RETIRE.RETIRE, MEM.ECC_STATUS.CE, MEM.UE_FIRST_ADDR, MEM.UE_FIRST_INFO.MASTER,
      MEM.UE_FIRST_TIME, MEM.UE_LATEST_ADDR, MEM.UE_LATEST_INFO.INFO, MEM.UE_LATEST_TIME, MEM.CH_CNT.CE, MEM.SRAM_CNT.CE,
      AT.VIO_STATUS.FIRST_VALID, AT.VIO_FIRST_ADDR, AT.VIO_FIRST_INFO.MASTER, AT.VIO_FIRST_TIME, AT.VIO_LATEST_ADDR,
      AT.VIO_LATEST_INFO.INFO, AT.VIO_LATEST_TIME, REC.QUEUE.VALUE, REC.EVT_TOTAL] [.direct] := by
  refine ⟨_, rfl, onlyFields_of fun ga ho hs => ?_⟩; simp only [Off_cons, Off_nil] at ho; simp [ho, hs .direct (by simp)]
theorem execTbAngleLoRead_regs (m : Fin 64) (t_ : Fin 64) (s : State) :
    ∃ t, execTbAngleLoRead m t_ s = .next t ∧ OnlyFields s t [AT.VIO_STATUS.FIRST_VALID, AT.VIO_FIRST_ADDR, AT.VIO_FIRST_INFO.MASTER, AT.VIO_FIRST_TIME, AT.VIO_LATEST_ADDR,
      AT.VIO_LATEST_INFO.INFO, AT.VIO_LATEST_TIME, REC.QUEUE.VALUE, REC.EVT_TOTAL] := by
  refine ⟨_, rfl, onlyFields_of fun ga ho hs => ?_⟩; simp only [Off_cons, Off_nil] at ho; simp [ho]
theorem execTbSourceSilent_regs (t_ : Fin 64) (s : State) :
    ∃ t, execTbSourceSilent t_ s = .next t ∧ OnlyFields s t [TB.SPEED.SPEED, TB.ANGLE, TB.STAMP, TB.STATUS.STATE, SCH.TARGET, SCH.PRED, SCH.RESID.RESID, SCH.STATUS.STATE,
      BAB.IN_STATUS.STATE, BAB.IN_POS, MEM.CH_RETIRE.RETIRE, MEM.ECC_STATUS.CE, MEM.UE_FIRST_ADDR, MEM.UE_FIRST_INFO.MASTER,
      MEM.UE_FIRST_TIME, MEM.UE_LATEST_ADDR, MEM.UE_LATEST_INFO.INFO, MEM.UE_LATEST_TIME, MEM.CH_CNT.CE, MEM.SRAM_CNT.CE,
      AT.VIO_STATUS.FIRST_VALID, AT.VIO_FIRST_ADDR, AT.VIO_FIRST_INFO.MASTER, AT.VIO_FIRST_TIME, AT.VIO_LATEST_ADDR,
      AT.VIO_LATEST_INFO.INFO, AT.VIO_LATEST_TIME, REC.QUEUE.VALUE, REC.EVT_TOTAL] [.direct] := by
  unfold execTbSourceSilent; dsimp only; (repeat' split) <;> (refine ⟨_, rfl, onlyFields_of fun ga ho hs => ?_⟩; simp only [Off_cons, Off_nil] at ho; simp [ho, hs .direct (by simp)])
theorem execTbHoldExpiry_regs (t_ : Fin 64) (s : State) :
    ∃ t, execTbHoldExpiry t_ s = .next t ∧ OnlyFields s t [TB.SPEED.SPEED, TB.ANGLE, TB.STAMP, TB.STATUS.STATE, SCH.TARGET, SCH.PRED, SCH.RESID.RESID, SCH.STATUS.STATE,
      BAB.IN_STATUS.STATE, BAB.IN_POS, MEM.CH_RETIRE.RETIRE, MEM.ECC_STATUS.CE, MEM.UE_FIRST_ADDR, MEM.UE_FIRST_INFO.MASTER,
      MEM.UE_FIRST_TIME, MEM.UE_LATEST_ADDR, MEM.UE_LATEST_INFO.INFO, MEM.UE_LATEST_TIME, MEM.CH_CNT.CE, MEM.SRAM_CNT.CE,
      AT.VIO_STATUS.FIRST_VALID, AT.VIO_FIRST_ADDR, AT.VIO_FIRST_INFO.MASTER, AT.VIO_FIRST_TIME, AT.VIO_LATEST_ADDR,
      AT.VIO_LATEST_INFO.INFO, AT.VIO_LATEST_TIME, REC.QUEUE.VALUE, REC.EVT_TOTAL] [.direct] := by
  unfold execTbHoldExpiry; (repeat' split) <;> (refine ⟨_, rfl, onlyFields_of fun ga ho hs => ?_⟩; simp only [Off_cons, Off_nil] at ho; simp [ho, hs .direct (by simp)])
theorem execTachPulse_regs (k : Fin 8) (level : Sys2Proof.PinLevel) (s : State) :
    ∃ t, execTachPulse k level s = .next t ∧ OnlyFields s t [TB.SPEED.SPEED, TB.ANGLE, TB.STAMP, TB.STATUS.STATE, SCH.TARGET, SCH.PRED, SCH.RESID.RESID, SCH.STATUS.STATE,
      BAB.IN_STATUS.STATE, BAB.IN_POS, MEM.CH_RETIRE.RETIRE, MEM.ECC_STATUS.CE, MEM.UE_FIRST_ADDR, MEM.UE_FIRST_INFO.MASTER,
      MEM.UE_FIRST_TIME, MEM.UE_LATEST_ADDR, MEM.UE_LATEST_INFO.INFO, MEM.UE_LATEST_TIME, MEM.CH_CNT.CE, MEM.SRAM_CNT.CE,
      AT.VIO_STATUS.FIRST_VALID, AT.VIO_FIRST_ADDR, AT.VIO_FIRST_INFO.MASTER, AT.VIO_FIRST_TIME, AT.VIO_LATEST_ADDR,
      AT.VIO_LATEST_INFO.INFO, AT.VIO_LATEST_TIME, REC.QUEUE.VALUE, REC.EVT_TOTAL, IOS.TACH_STATUS.PULSE_CNT] [.direct] := by
  unfold execTachPulse; dsimp only; (repeat' split) <;> (refine ⟨_, rfl, onlyFields_of fun ga ho hs => ?_⟩; simp only [Off_cons, Off_nil] at ho; simp [ho, hs .direct (by simp)])
theorem execSsiFrame_regs (k : Fin 8) (start : Nat) (stamp : Nat) (raw : Nat) (parity : Bool) (idle : Bool) (s : State) :
    ∃ t, execSsiFrame k start stamp raw parity idle s = .next t ∧ OnlyFields s t [TB.SPEED.SPEED, TB.ANGLE, TB.STAMP, TB.STATUS.STATE, SCH.TARGET, SCH.PRED, SCH.RESID.RESID, SCH.STATUS.STATE,
      BAB.IN_STATUS.STATE, BAB.IN_POS, MEM.CH_RETIRE.RETIRE, MEM.ECC_STATUS.CE, MEM.UE_FIRST_ADDR, MEM.UE_FIRST_INFO.MASTER,
      MEM.UE_FIRST_TIME, MEM.UE_LATEST_ADDR, MEM.UE_LATEST_INFO.INFO, MEM.UE_LATEST_TIME, MEM.CH_CNT.CE, MEM.SRAM_CNT.CE,
      AT.VIO_STATUS.FIRST_VALID, AT.VIO_FIRST_ADDR, AT.VIO_FIRST_INFO.MASTER, AT.VIO_FIRST_TIME, AT.VIO_LATEST_ADDR,
      AT.VIO_LATEST_INFO.INFO, AT.VIO_LATEST_TIME, REC.QUEUE.VALUE, REC.EVT_TOTAL, IOS.SSI_STATUS.FRAME_CNT] [.direct] := by
  unfold execSsiFrame; dsimp only; (repeat' split) <;> (refine ⟨_, rfl, onlyFields_of fun ga ho hs => ?_⟩; simp only [Off_cons, Off_nil] at ho; simp [ho, hs .direct (by simp)])
theorem execLsyncEdge_regs (level : Sys2Proof.PinLevel) (s : State) :
    ∃ t, execLsyncEdge level s = .next t ∧ OnlyFields s t [TB.SPEED.SPEED, TB.ANGLE, TB.STAMP, TB.STATUS.STATE, SCH.TARGET, SCH.PRED, SCH.RESID.RESID, SCH.STATUS.STATE,
      BAB.IN_STATUS.STATE, BAB.IN_POS, MEM.CH_RETIRE.RETIRE, MEM.ECC_STATUS.CE, MEM.UE_FIRST_ADDR, MEM.UE_FIRST_INFO.MASTER,
      MEM.UE_FIRST_TIME, MEM.UE_LATEST_ADDR, MEM.UE_LATEST_INFO.INFO, MEM.UE_LATEST_TIME, MEM.CH_CNT.CE, MEM.SRAM_CNT.CE,
      AT.VIO_STATUS.FIRST_VALID, AT.VIO_FIRST_ADDR, AT.VIO_FIRST_INFO.MASTER, AT.VIO_FIRST_TIME, AT.VIO_LATEST_ADDR,
      AT.VIO_LATEST_INFO.INFO, AT.VIO_LATEST_TIME, REC.QUEUE.VALUE, REC.EVT_TOTAL, IOS.LSYNC_PERIOD.PERIOD,
      IOS.LSYNC_STATUS.REJ_CNT] [.direct] := by
  unfold execLsyncEdge; dsimp only; (repeat' split) <;> (refine ⟨_, rfl, onlyFields_of fun ga ho hs => ?_⟩; simp only [Off_cons, Off_nil] at ho; simp [ho, hs .direct (by simp)])
theorem execSpdDerateWrite_regs (m : Fin 64) (n : Fin 48) (v : Sys2Proof.Word) (s : State) :
    ∃ t, execSpdDerateWrite m n v s = .next t ∧ OnlyFields s t [AX.SPD_DERATE.TQ, AT.VIO_STATUS.FIRST_VALID, AT.VIO_FIRST_ADDR, AT.VIO_FIRST_INFO.MASTER, AT.VIO_FIRST_TIME,
      AT.VIO_LATEST_ADDR, AT.VIO_LATEST_INFO.INFO, AT.VIO_LATEST_TIME, REC.QUEUE.VALUE, REC.EVT_TOTAL] := by
  refine ⟨_, rfl, onlyFields_of fun ga ho hs => ?_⟩; simp only [Off_cons, Off_nil] at ho; simp [ho]
theorem execFrameEnd_regs (c : Fin 64) (s : State) :
    ∃ t, execFrameEnd c s = .next t ∧ OnlyFields s t [TB.SPEED.SPEED, TB.ANGLE, TB.STAMP, TB.STATUS.STATE, SCH.TARGET, SCH.PRED, SCH.RESID.RESID, SCH.STATUS.STATE,
      AX.PWM_CTRL.EN, AX.FOC_CTRL.RUN, AX.SPD_DERATE.TQ, AX.CMT_STATUS.STATE, AX.SAF_STATUS.STATE, ENG.STATUS.HOSTS,
      CTX.STATUS.STATE, CTX.FRAME.FRAME, CTX.LAST_CODE.CODE, CTX.LAST_TRIG, CTX.LAST_DONE, CTX.CLK_LAST.CLK, CTX.CLK_MAX.CLK,
      CTX.Q_STATUS.CLIP_ALARM, CTX.Q_CLIP.CNT, CTX.Q_ELEM.CNT, CTX.Q_NAN.CNT, CTX.Q_DEV.CNT, CTX.Q_WORST.SHARE,
      CTX.Q_HIST.FILL_MIN, CTX.Q_CLIP_TOT, CTX.Q_ELEM_TOT, CTX.Q_NAN_TOT, CTX.DIG_STATUS.HAS_U, CTX.TRACE_CTRL.ARM,
      CTX.TWIN_MISM_TIME, Q.PROD.PROD, Q.TAKE.TAKE, Q.RET.RET, Q.CREDITS.CREDITS, Q.STATUS.NO_CREDIT, Q.LAST_POST,
      Q.POSTS.SEQ, Q.SLOTS.POST_SLOT, BAB.IN_STATUS.STATE, BAB.IN_POS, TWN.STATUS.PAIRED, MEM.CH_RETIRE.RETIRE,
      MEM.ECC_STATUS.CE, MEM.UE_FIRST_ADDR, MEM.UE_FIRST_INFO.MASTER, MEM.UE_FIRST_TIME, MEM.UE_LATEST_ADDR,
      MEM.UE_LATEST_INFO.INFO, MEM.UE_LATEST_TIME, MEM.CH_CNT.CE, MEM.SRAM_CNT.CE, AT.VIO_STATUS.FIRST_VALID,
      AT.VIO_FIRST_ADDR, AT.VIO_FIRST_INFO.MASTER, AT.VIO_FIRST_TIME, AT.VIO_LATEST_ADDR, AT.VIO_LATEST_INFO.INFO,
      AT.VIO_LATEST_TIME, SAF.STATUS.STATE, SAF.GROUP_STATE.LOW, SAF.FAULT_LAST.CODE, SAF.FAULT_TIME, REC.QUEUE.VALUE,
      REC.EVT_TOTAL] [.direct] := by
  refine ⟨_, rfl, onlyFields_of fun ga ho hs => ?_⟩; simp only [Off_cons, Off_nil] at ho; simp [ho, hs .direct (by simp)]
theorem execFrameTimeout_regs (c : Fin 64) (s : State) :
    ∃ t, execFrameTimeout c s = .next t ∧ OnlyFields s t [ENG.STATUS.HOSTS, CTX.STATUS.STATE, CTX.FRAME.FRAME, CTX.LAST_CODE.CODE, CTX.LAST_TRIG, CTX.LAST_DONE,
      CTX.CLK_LAST.CLK, CTX.CLK_MAX.CLK, CTX.Q_STATUS.CLIP_ALARM, CTX.Q_CLIP.CNT, CTX.Q_ELEM.CNT, CTX.Q_NAN.CNT,
      CTX.Q_DEV.CNT, CTX.Q_WORST.SHARE, CTX.Q_HIST.FILL_MIN, CTX.Q_CLIP_TOT, CTX.Q_ELEM_TOT, CTX.Q_NAN_TOT,
      CTX.TRACE_CTRL.ARM, Q.PROD.PROD, Q.TAKE.TAKE, Q.RET.RET, Q.CREDITS.CREDITS, Q.STATUS.NO_CREDIT, Q.LAST_POST,
      Q.POSTS.SEQ, Q.SLOTS.POST_SLOT, TWN.STATUS.PAIRED, MEM.CH_RETIRE.RETIRE, MEM.ECC_STATUS.CE, MEM.UE_FIRST_ADDR,
      MEM.UE_FIRST_INFO.MASTER, MEM.UE_FIRST_TIME, MEM.UE_LATEST_ADDR, MEM.UE_LATEST_INFO.INFO, MEM.UE_LATEST_TIME,
      MEM.CH_CNT.CE, MEM.SRAM_CNT.CE, AT.VIO_STATUS.FIRST_VALID, AT.VIO_FIRST_ADDR, AT.VIO_FIRST_INFO.MASTER,
      AT.VIO_FIRST_TIME, AT.VIO_LATEST_ADDR, AT.VIO_LATEST_INFO.INFO, AT.VIO_LATEST_TIME, REC.QUEUE.VALUE, REC.EVT_TOTAL] [.direct] := by
  unfold execFrameTimeout; dsimp only; (repeat' split) <;> (refine ⟨_, rfl, onlyFields_of fun ga ho hs => ?_⟩; simp only [Off_cons, Off_nil] at ho; simp [ho, hs .direct (by simp)])
theorem execCompare_regs (c : Fin 64) (kind : Fin 2) (code : Fin 256) (frame : Nat) (digest : List Nat) (s : State) :
    ∃ t, execCompare c kind code frame digest s = .next t ∧ OnlyFields s t [TB.SPEED.SPEED, TB.ANGLE, TB.STAMP, TB.STATUS.STATE, SCH.TARGET, SCH.PRED, SCH.RESID.RESID, SCH.STATUS.STATE,
      AX.PWM_CTRL.EN, AX.FOC_CTRL.RUN, AX.SPD_DERATE.TQ, AX.CMT_STATUS.STATE, AX.SAF_STATUS.STATE, ENG.STATUS.HOSTS,
      CTX.STATUS.STATE, CTX.FRAME.FRAME, CTX.LAST_CODE.CODE, CTX.LAST_TRIG, CTX.LAST_DONE, CTX.CLK_LAST.CLK, CTX.CLK_MAX.CLK,
      CTX.Q_STATUS.CLIP_ALARM, CTX.Q_CLIP.CNT, CTX.Q_ELEM.CNT, CTX.Q_NAN.CNT, CTX.Q_DEV.CNT, CTX.Q_WORST.SHARE,
      CTX.Q_HIST.FILL_MIN, CTX.Q_CLIP_TOT, CTX.Q_ELEM_TOT, CTX.Q_NAN_TOT, CTX.DIG_STATUS.HAS_U, CTX.TRACE_CTRL.ARM,
      CTX.TWIN_MISM_TIME, Q.PROD.PROD, Q.TAKE.TAKE, Q.RET.RET, Q.CREDITS.CREDITS, Q.STATUS.NO_CREDIT, Q.LAST_POST,
      Q.POSTS.SEQ, Q.SLOTS.POST_SLOT, BAB.IN_STATUS.STATE, BAB.IN_POS, TWN.STATUS.PAIRED, MEM.CH_RETIRE.RETIRE,
      MEM.ECC_STATUS.CE, MEM.UE_FIRST_ADDR, MEM.UE_FIRST_INFO.MASTER, MEM.UE_FIRST_TIME, MEM.UE_LATEST_ADDR,
      MEM.UE_LATEST_INFO.INFO, MEM.UE_LATEST_TIME, MEM.CH_CNT.CE, MEM.SRAM_CNT.CE, AT.VIO_STATUS.FIRST_VALID,
      AT.VIO_FIRST_ADDR, AT.VIO_FIRST_INFO.MASTER, AT.VIO_FIRST_TIME, AT.VIO_LATEST_ADDR, AT.VIO_LATEST_INFO.INFO,
      AT.VIO_LATEST_TIME, SAF.STATUS.STATE, SAF.GROUP_STATE.LOW, SAF.FAULT_LAST.CODE, SAF.FAULT_TIME, REC.QUEUE.VALUE,
      REC.EVT_TOTAL] [.direct] := by
  unfold execCompare; (repeat' split) <;> (refine ⟨_, rfl, onlyFields_of fun ga ho hs => ?_⟩; simp only [Off_cons, Off_nil] at ho; simp [ho, hs .direct (by simp)])
theorem execTwinPartnerTimeout_regs (c : Fin 64) (s : State) :
    ∃ t, execTwinPartnerTimeout c s = .next t ∧ OnlyFields s t [TB.SPEED.SPEED, TB.ANGLE, TB.STAMP, TB.STATUS.STATE, SCH.TARGET, SCH.PRED, SCH.RESID.RESID, SCH.STATUS.STATE,
      AX.PWM_CTRL.EN, AX.FOC_CTRL.RUN, AX.SPD_DERATE.TQ, AX.CMT_STATUS.STATE, AX.SAF_STATUS.STATE, ENG.STATUS.HOSTS,
      CTX.STATUS.STATE, CTX.FRAME.FRAME, CTX.LAST_CODE.CODE, CTX.LAST_TRIG, CTX.LAST_DONE, CTX.CLK_LAST.CLK, CTX.CLK_MAX.CLK,
      CTX.Q_STATUS.CLIP_ALARM, CTX.Q_CLIP.CNT, CTX.Q_ELEM.CNT, CTX.Q_NAN.CNT, CTX.Q_DEV.CNT, CTX.Q_WORST.SHARE,
      CTX.Q_HIST.FILL_MIN, CTX.Q_CLIP_TOT, CTX.Q_ELEM_TOT, CTX.Q_NAN_TOT, CTX.DIG_STATUS.HAS_U, CTX.TRACE_CTRL.ARM,
      Q.PROD.PROD, Q.TAKE.TAKE, Q.RET.RET, Q.CREDITS.CREDITS, Q.STATUS.NO_CREDIT, Q.LAST_POST, Q.POSTS.SEQ,
      Q.SLOTS.POST_SLOT, BAB.IN_STATUS.STATE, BAB.IN_POS, TWN.STATUS.PAIRED, MEM.CH_RETIRE.RETIRE, MEM.ECC_STATUS.CE,
      MEM.UE_FIRST_ADDR, MEM.UE_FIRST_INFO.MASTER, MEM.UE_FIRST_TIME, MEM.UE_LATEST_ADDR, MEM.UE_LATEST_INFO.INFO,
      MEM.UE_LATEST_TIME, MEM.CH_CNT.CE, MEM.SRAM_CNT.CE, AT.VIO_STATUS.FIRST_VALID, AT.VIO_FIRST_ADDR,
      AT.VIO_FIRST_INFO.MASTER, AT.VIO_FIRST_TIME, AT.VIO_LATEST_ADDR, AT.VIO_LATEST_INFO.INFO, AT.VIO_LATEST_TIME,
      SAF.STATUS.STATE, SAF.GROUP_STATE.LOW, SAF.FAULT_LAST.CODE, SAF.FAULT_TIME, REC.QUEUE.VALUE, REC.EVT_TOTAL] [.direct] := by
  unfold execTwinPartnerTimeout; (repeat' split) <;> (refine ⟨_, rfl, onlyFields_of fun ga ho hs => ?_⟩; simp only [Off_cons, Off_nil] at ho; simp [ho, hs .direct (by simp)])
theorem execLinkCopy_regs (c : Fin 64) (frame : Nat) (stamp : Nat) (type_ : Fin 256) (param : Nat) (user : List Nat) (data : List Nat) (s : State) :
    ∃ t, execLinkCopy c frame stamp type_ param user data s = .next t ∧ OnlyFields s t [CTX.STATUS.STATE, CTX.FRAME.FRAME, CTX.OVR_CNT.CNT, Q.PROD.PROD, Q.CREDITS.CREDITS, Q.STATUS.NO_CREDIT, Q.LAST_POST,
      Q.POSTS.SEQ, Q.SLOTS.POST_SLOT, TWN.STATUS.PAIRED, MEM.CH_RETIRE.RETIRE, MEM.ECC_STATUS.CE, MEM.UE_FIRST_ADDR,
      MEM.UE_FIRST_INFO.MASTER, MEM.UE_FIRST_TIME, MEM.UE_LATEST_ADDR, MEM.UE_LATEST_INFO.INFO, MEM.UE_LATEST_TIME,
      MEM.CH_CNT.CE, MEM.SRAM_CNT.CE, AT.VIO_STATUS.FIRST_VALID, AT.VIO_FIRST_ADDR, AT.VIO_FIRST_INFO.MASTER,
      AT.VIO_FIRST_TIME, AT.VIO_LATEST_ADDR, AT.VIO_LATEST_INFO.INFO, AT.VIO_LATEST_TIME, REC.QUEUE.VALUE, REC.EVT_TOTAL] [.direct] := by
  unfold execLinkCopy; dsimp only; (repeat' split) <;> (refine ⟨_, rfl, onlyFields_of fun ga ho hs => ?_⟩; simp only [Off_cons, Off_nil] at ho; simp [ho, hs .direct (by simp)])
theorem execTwinCopyTimeout_regs (c : Fin 64) (frame : Nat) (stamp : Sys2Proof.LeadPost) (s : State) :
    ∃ t, execTwinCopyTimeout c frame stamp s = .next t ∧ OnlyFields s t [TB.SPEED.SPEED, TB.ANGLE, TB.STAMP, TB.STATUS.STATE, SCH.TARGET, SCH.PRED, SCH.RESID.RESID, SCH.STATUS.STATE,
      AX.PWM_CTRL.EN, AX.FOC_CTRL.RUN, AX.SPD_DERATE.TQ, AX.CMT_STATUS.STATE, AX.SAF_STATUS.STATE, ENG.STATUS.HOSTS,
      CTX.STATUS.STATE, CTX.FRAME.FRAME, CTX.LAST_CODE.CODE, CTX.LAST_TRIG, CTX.LAST_DONE, CTX.CLK_LAST.CLK, CTX.CLK_MAX.CLK,
      CTX.OVR_CNT.CNT, CTX.Q_STATUS.CLIP_ALARM, CTX.Q_CLIP.CNT, CTX.Q_ELEM.CNT, CTX.Q_NAN.CNT, CTX.Q_DEV.CNT,
      CTX.Q_WORST.SHARE, CTX.Q_HIST.FILL_MIN, CTX.Q_CLIP_TOT, CTX.Q_ELEM_TOT, CTX.Q_NAN_TOT, CTX.DIG_STATUS.HAS_U,
      CTX.TRACE_CTRL.ARM, CTX.TWIN_MISM_TIME, Q.PROD.PROD, Q.TAKE.TAKE, Q.RET.RET, Q.CREDITS.CREDITS, Q.STATUS.NO_CREDIT,
      Q.LAST_POST, Q.POSTS.SEQ, Q.SLOTS.POST_SLOT, BAB.IN_STATUS.STATE, BAB.IN_POS, TWN.STATUS.PAIRED, MEM.CH_RETIRE.RETIRE,
      MEM.ECC_STATUS.CE, MEM.UE_FIRST_ADDR, MEM.UE_FIRST_INFO.MASTER, MEM.UE_FIRST_TIME, MEM.UE_LATEST_ADDR,
      MEM.UE_LATEST_INFO.INFO, MEM.UE_LATEST_TIME, MEM.CH_CNT.CE, MEM.SRAM_CNT.CE, AT.VIO_STATUS.FIRST_VALID,
      AT.VIO_FIRST_ADDR, AT.VIO_FIRST_INFO.MASTER, AT.VIO_FIRST_TIME, AT.VIO_LATEST_ADDR, AT.VIO_LATEST_INFO.INFO,
      AT.VIO_LATEST_TIME, SAF.STATUS.STATE, SAF.GROUP_STATE.LOW, SAF.FAULT_LAST.CODE, SAF.FAULT_TIME, REC.QUEUE.VALUE,
      REC.EVT_TOTAL] [.direct] := by
  unfold execTwinCopyTimeout; (try dsimp only); (repeat' (split <;> try (rename_i heq; have hs := congrArg (fun x => x.1) heq; simp only at hs; subst hs))) <;> (refine ⟨_, rfl, onlyFields_of fun ga ho hs => ?_⟩; simp only [Off_cons, Off_nil] at ho; simp [ho, hs .direct (by simp)])
theorem execCtxLoad_regs (m : Fin 64) (c : Fin 64) (s : State) :
    ∃ t, execCtxLoad m c s = .next t ∧ OnlyFields s t [CTX.STATUS.STATE, CTX.FRAME.FRAME, CTX.OVR_CNT.CNT, TWN.STATUS.PAIRED, MEM.CH_RETIRE.RETIRE, MEM.ECC_STATUS.CE,
      MEM.UE_FIRST_ADDR, MEM.UE_FIRST_INFO.MASTER, MEM.UE_FIRST_TIME, MEM.UE_LATEST_ADDR, MEM.UE_LATEST_INFO.INFO,
      MEM.UE_LATEST_TIME, MEM.CH_CNT.CE, MEM.SRAM_CNT.CE, AT.VIO_STATUS.FIRST_VALID, AT.VIO_FIRST_ADDR,
      AT.VIO_FIRST_INFO.MASTER, AT.VIO_FIRST_TIME, AT.VIO_LATEST_ADDR, AT.VIO_LATEST_INFO.INFO, AT.VIO_LATEST_TIME,
      REC.QUEUE.VALUE, REC.EVT_TOTAL] := by
  refine ⟨_, rfl, onlyFields_of fun ga ho hs => ?_⟩; simp only [Off_cons, Off_nil] at ho; simp [ho]
theorem execCtxArm_regs (m : Fin 64) (c : Fin 64) (fresh : Bool) (s : State) :
    ∃ t, execCtxArm m c fresh s = .next t ∧ OnlyFields s t [CTX.STATUS.STATE, CTX.FRAME.FRAME, CTX.OVR_CNT.CNT, TWN.STATUS.PAIRED, MEM.CH_RETIRE.RETIRE, MEM.ECC_STATUS.CE,
      MEM.UE_FIRST_ADDR, MEM.UE_FIRST_INFO.MASTER, MEM.UE_FIRST_TIME, MEM.UE_LATEST_ADDR, MEM.UE_LATEST_INFO.INFO,
      MEM.UE_LATEST_TIME, MEM.CH_CNT.CE, MEM.SRAM_CNT.CE, AT.VIO_STATUS.FIRST_VALID, AT.VIO_FIRST_ADDR,
      AT.VIO_FIRST_INFO.MASTER, AT.VIO_FIRST_TIME, AT.VIO_LATEST_ADDR, AT.VIO_LATEST_INFO.INFO, AT.VIO_LATEST_TIME,
      REC.QUEUE.VALUE, REC.EVT_TOTAL] := by
  refine ⟨_, rfl, onlyFields_of fun ga ho hs => ?_⟩; simp only [Off_cons, Off_nil] at ho; simp [ho]
theorem execCtxDisarm_regs (m : Fin 64) (c : Fin 64) (s : State) :
    ∃ t, execCtxDisarm m c s = .next t ∧ OnlyFields s t [CTX.STATUS.STATE, CTX.FRAME.FRAME, CTX.OVR_CNT.CNT, TWN.STATUS.PAIRED, MEM.CH_RETIRE.RETIRE, MEM.ECC_STATUS.CE,
      MEM.UE_FIRST_ADDR, MEM.UE_FIRST_INFO.MASTER, MEM.UE_FIRST_TIME, MEM.UE_LATEST_ADDR, MEM.UE_LATEST_INFO.INFO,
      MEM.UE_LATEST_TIME, MEM.CH_CNT.CE, MEM.SRAM_CNT.CE, AT.VIO_STATUS.FIRST_VALID, AT.VIO_FIRST_ADDR,
      AT.VIO_FIRST_INFO.MASTER, AT.VIO_FIRST_TIME, AT.VIO_LATEST_ADDR, AT.VIO_LATEST_INFO.INFO, AT.VIO_LATEST_TIME,
      REC.QUEUE.VALUE, REC.EVT_TOTAL] := by
  refine ⟨_, rfl, onlyFields_of fun ga ho hs => ?_⟩; simp only [Off_cons, Off_nil] at ho; simp [ho]
theorem execCtxAbort_regs (m : Fin 64) (c : Fin 64) (s : State) :
    ∃ t, execCtxAbort m c s = .next t ∧ OnlyFields s t [CTX.STATUS.STATE, CTX.FRAME.FRAME, CTX.OVR_CNT.CNT, TWN.STATUS.PAIRED, MEM.CH_RETIRE.RETIRE, MEM.ECC_STATUS.CE,
      MEM.UE_FIRST_ADDR, MEM.UE_FIRST_INFO.MASTER, MEM.UE_FIRST_TIME, MEM.UE_LATEST_ADDR, MEM.UE_LATEST_INFO.INFO,
      MEM.UE_LATEST_TIME, MEM.CH_CNT.CE, MEM.SRAM_CNT.CE, AT.VIO_STATUS.FIRST_VALID, AT.VIO_FIRST_ADDR,
      AT.VIO_FIRST_INFO.MASTER, AT.VIO_FIRST_TIME, AT.VIO_LATEST_ADDR, AT.VIO_LATEST_INFO.INFO, AT.VIO_LATEST_TIME,
      REC.QUEUE.VALUE, REC.EVT_TOTAL] := by
  refine ⟨_, rfl, onlyFields_of fun ga ho hs => ?_⟩; simp only [Off_cons, Off_nil] at ho; simp [ho]
theorem execCtxUnload_regs (m : Fin 64) (c : Fin 64) (s : State) :
    ∃ t, execCtxUnload m c s = .next t ∧ OnlyFields s t [CTX.STATUS.STATE, CTX.FRAME.FRAME, CTX.OVR_CNT.CNT, TWN.STATUS.PAIRED, MEM.CH_RETIRE.RETIRE, MEM.ECC_STATUS.CE,
      MEM.UE_FIRST_ADDR, MEM.UE_FIRST_INFO.MASTER, MEM.UE_FIRST_TIME, MEM.UE_LATEST_ADDR, MEM.UE_LATEST_INFO.INFO,
      MEM.UE_LATEST_TIME, MEM.CH_CNT.CE, MEM.SRAM_CNT.CE, AT.VIO_STATUS.FIRST_VALID, AT.VIO_FIRST_ADDR,
      AT.VIO_FIRST_INFO.MASTER, AT.VIO_FIRST_TIME, AT.VIO_LATEST_ADDR, AT.VIO_LATEST_INFO.INFO, AT.VIO_LATEST_TIME,
      REC.QUEUE.VALUE, REC.EVT_TOTAL] := by
  refine ⟨_, rfl, onlyFields_of fun ga ho hs => ?_⟩; simp only [Off_cons, Off_nil] at ho; simp [ho]
theorem execCtxSnap_regs (m : Fin 64) (c : Fin 64) (s : State) :
    ∃ t, execCtxSnap m c s = .next t ∧ OnlyFields s t [CTX.STATUS.STATE, CTX.FRAME.FRAME, CTX.OVR_CNT.CNT, TWN.STATUS.PAIRED, MEM.CH_RETIRE.RETIRE, MEM.ECC_STATUS.CE,
      MEM.UE_FIRST_ADDR, MEM.UE_FIRST_INFO.MASTER, MEM.UE_FIRST_TIME, MEM.UE_LATEST_ADDR, MEM.UE_LATEST_INFO.INFO,
      MEM.UE_LATEST_TIME, MEM.CH_CNT.CE, MEM.SRAM_CNT.CE, AT.VIO_STATUS.FIRST_VALID, AT.VIO_FIRST_ADDR,
      AT.VIO_FIRST_INFO.MASTER, AT.VIO_FIRST_TIME, AT.VIO_LATEST_ADDR, AT.VIO_LATEST_INFO.INFO, AT.VIO_LATEST_TIME,
      REC.QUEUE.VALUE, REC.EVT_TOTAL] := by
  refine ⟨_, rfl, onlyFields_of fun ga ho hs => ?_⟩; simp only [Off_cons, Off_nil] at ho; simp [ho]
theorem execCtxRestore_regs (m : Fin 64) (c : Fin 64) (s : State) :
    ∃ t, execCtxRestore m c s = .next t ∧ OnlyFields s t [CTX.STATUS.STATE, CTX.FRAME.FRAME, CTX.OVR_CNT.CNT, TWN.STATUS.PAIRED, MEM.CH_RETIRE.RETIRE, MEM.ECC_STATUS.CE,
      MEM.UE_FIRST_ADDR, MEM.UE_FIRST_INFO.MASTER, MEM.UE_FIRST_TIME, MEM.UE_LATEST_ADDR, MEM.UE_LATEST_INFO.INFO,
      MEM.UE_LATEST_TIME, MEM.CH_CNT.CE, MEM.SRAM_CNT.CE, AT.VIO_STATUS.FIRST_VALID, AT.VIO_FIRST_ADDR,
      AT.VIO_FIRST_INFO.MASTER, AT.VIO_FIRST_TIME, AT.VIO_LATEST_ADDR, AT.VIO_LATEST_INFO.INFO, AT.VIO_LATEST_TIME,
      REC.QUEUE.VALUE, REC.EVT_TOTAL] := by
  refine ⟨_, rfl, onlyFields_of fun ga ho hs => ?_⟩; simp only [Off_cons, Off_nil] at ho; simp [ho]
theorem execCtxStart_regs (m : Fin 64) (c : Fin 64) (s : State) :
    ∃ t, execCtxStart m c s = .next t ∧ OnlyFields s t [CTX.STATUS.STATE, CTX.FRAME.FRAME, CTX.OVR_CNT.CNT, TWN.STATUS.PAIRED, MEM.CH_RETIRE.RETIRE, MEM.ECC_STATUS.CE,
      MEM.UE_FIRST_ADDR, MEM.UE_FIRST_INFO.MASTER, MEM.UE_FIRST_TIME, MEM.UE_LATEST_ADDR, MEM.UE_LATEST_INFO.INFO,
      MEM.UE_LATEST_TIME, MEM.CH_CNT.CE, MEM.SRAM_CNT.CE, AT.VIO_STATUS.FIRST_VALID, AT.VIO_FIRST_ADDR,
      AT.VIO_FIRST_INFO.MASTER, AT.VIO_FIRST_TIME, AT.VIO_LATEST_ADDR, AT.VIO_LATEST_INFO.INFO, AT.VIO_LATEST_TIME,
      REC.QUEUE.VALUE, REC.EVT_TOTAL] := by
  refine ⟨_, rfl, onlyFields_of fun ga ho hs => ?_⟩; simp only [Off_cons, Off_nil] at ho; simp [ho]
theorem execCtxCmdComplete_regs (c : Fin 64) (partner : Option Sys2Proof.PartnerCtx) (s : State) :
    ∃ t, execCtxCmdComplete c partner s = .next t ∧ OnlyFields s t [INF.STATUS.UNAVAIL, CTX.STATUS.STATE, CTX.CLK_MAX.CLK, CTX.OVR_CNT.CNT, CTX.OUT_STRIDE.STRIDE, CTX.Q_HIST.FILL_MIN,
      CTX.Q_CLIP_TOT, CTX.Q_ELEM_TOT, CTX.Q_NAN_TOT, CTX.DIG_STATUS.HAS_U, CTX.WDIGEST.W, MEM.CH_RETIRE.RETIRE,
      MEM.ECC_STATUS.CE, MEM.UE_FIRST_ADDR, MEM.UE_FIRST_INFO.MASTER, MEM.UE_FIRST_TIME, MEM.UE_LATEST_ADDR,
      MEM.UE_LATEST_INFO.INFO, MEM.UE_LATEST_TIME, MEM.CH_CNT.CE, MEM.SRAM_CNT.CE, AT.VIO_STATUS.FIRST_VALID,
      AT.VIO_FIRST_ADDR, AT.VIO_FIRST_INFO.MASTER, AT.VIO_FIRST_TIME, AT.VIO_LATEST_ADDR, AT.VIO_LATEST_INFO.INFO,
      AT.VIO_LATEST_TIME, REC.QUEUE.VALUE, REC.EVT_TOTAL] [.direct] := by
  refine ⟨_, rfl, onlyFields_of fun ga ho hs => ?_⟩; simp only [Off_cons, Off_nil] at ho; simp [ho, hs .direct (by simp)]
theorem execTwinArmTimeout_regs (c : Fin 64) (s : State) :
    ∃ t, execTwinArmTimeout c s = .next t ∧ OnlyFields s t [CTX.STATUS.STATE, REC.QUEUE.VALUE, REC.EVT_TOTAL] := by
  unfold execTwinArmTimeout; (repeat' split) <;> (refine ⟨_, rfl, onlyFields_of fun ga ho hs => ?_⟩; simp only [Off_cons, Off_nil] at ho; simp [ho])
theorem execTraceArm_regs (m : Fin 64) (c : Fin 64) (v : Sys2Proof.Word) (s : State) :
    ∃ t, execTraceArm m c v s = .next t ∧ OnlyFields s t [CTX.TRACE_CTRL.ARM, AT.VIO_STATUS.FIRST_VALID, AT.VIO_FIRST_ADDR, AT.VIO_FIRST_INFO.MASTER, AT.VIO_FIRST_TIME,
      AT.VIO_LATEST_ADDR, AT.VIO_LATEST_INFO.INFO, AT.VIO_LATEST_TIME, REC.QUEUE.VALUE, REC.EVT_TOTAL] := by
  refine ⟨_, rfl, onlyFields_of fun ga ho hs => ?_⟩; simp only [Off_cons, Off_nil] at ho; simp [ho]
theorem execTileAssign_regs (p : Fin 8) (s : State) :
    ∃ t, execTileAssign p s = .next t ∧ OnlyFields s t [ENG.STATUS.HOSTS] := by
  unfold execTileAssign; (repeat' split) <;> (refine ⟨_, rfl, onlyFields_of fun ga ho hs => ?_⟩; simp only [Off_cons, Off_nil] at ho; simp [ho])
theorem execTileStaged_regs (p : Fin 8) (k : Fin 256) (s : State) :
    ∃ t, execTileStaged p k s = .next t ∧ OnlyFields s t [] := by
  unfold execTileStaged; (repeat' split) <;> (refine ⟨_, rfl, onlyFields_of fun ga ho hs => ?_⟩; simp)
theorem execTileIssue_regs (p : Fin 8) (s : State) :
    ∃ t, execTileIssue p s = .next t ∧ OnlyFields s t [] := by
  unfold execTileIssue; dsimp only; (repeat' split) <;> (refine ⟨_, rfl, onlyFields_of fun ga ho hs => ?_⟩; simp)
theorem execTileRetire_regs (p : Fin 8) (s : State) :
    ∃ t, execTileRetire p s = .next t ∧ OnlyFields s t [ENG.STATUS.HOSTS] := by
  unfold execTileRetire; (repeat' split) <;> (refine ⟨_, rfl, onlyFields_of fun ga ho hs => ?_⟩; simp only [Off_cons, Off_nil] at ho; simp [ho])
theorem execInfEngFence_regs (m : Fin 64) (v : Sys2Proof.Word) (s : State) :
    ∃ t, execInfEngFence m v s = .next t ∧ OnlyFields s t [INF.ENG_MAP.MAP, INF.ENG_FENCE.FENCE, INF.ENG_STATUS.USABLE, INF.STATUS.UNAVAIL, ENG.STATUS.HOSTS, CTX.STATUS.STATE,
      AT.VIO_STATUS.FIRST_VALID, AT.VIO_FIRST_ADDR, AT.VIO_FIRST_INFO.MASTER, AT.VIO_FIRST_TIME, AT.VIO_LATEST_ADDR,
      AT.VIO_LATEST_INFO.INFO, AT.VIO_LATEST_TIME, REC.QUEUE.VALUE, REC.EVT_TOTAL] := by
  refine ⟨_, rfl, onlyFields_of fun ga ho hs => ?_⟩; simp only [Off_cons, Off_nil] at ho; simp [ho]
theorem execEngCtrlReset_regs (m : Fin 64) (p : Fin 8) (v : Sys2Proof.Word) (s : State) :
    ∃ t, execEngCtrlReset m p v s = .next t ∧ OnlyFields s t [INF.ENG_STATUS.USABLE, ENG.STATUS.HOSTS, CTX.STATUS.STATE, AT.VIO_STATUS.FIRST_VALID, AT.VIO_FIRST_ADDR,
      AT.VIO_FIRST_INFO.MASTER, AT.VIO_FIRST_TIME, AT.VIO_LATEST_ADDR, AT.VIO_LATEST_INFO.INFO, AT.VIO_LATEST_TIME,
      REC.QUEUE.VALUE, REC.EVT_TOTAL, PWR.STATE.STATE] := by
  refine ⟨_, rfl, onlyFields_of fun ga ho hs => ?_⟩; simp only [Off_cons, Off_nil] at ho; simp [ho]
theorem execUtilSnap_regs (m : Fin 64) (v : Sys2Proof.Word) (s : State) :
    ∃ t, execUtilSnap m v s = .next t ∧ OnlyFields s t [INF.UTIL_CTRL.SNAP, INF.UTIL_SNAP_TIME, ENG.UTIL, AT.VIO_STATUS.FIRST_VALID, AT.VIO_FIRST_ADDR,
      AT.VIO_FIRST_INFO.MASTER, AT.VIO_FIRST_TIME, AT.VIO_LATEST_ADDR, AT.VIO_LATEST_INFO.INFO, AT.VIO_LATEST_TIME,
      REC.QUEUE.VALUE, REC.EVT_TOTAL] := by
  refine ⟨_, rfl, onlyFields_of fun ga ho hs => ?_⟩; simp only [Off_cons, Off_nil] at ho; simp [ho]
theorem execUtilAutoSnap_regs (s : State) :
    ∃ t, execUtilAutoSnap s = .next t ∧ OnlyFields s t [INF.UTIL_SNAP_TIME, ENG.UTIL] := by
  unfold execUtilAutoSnap; dsimp only; (repeat' split) <;> (refine ⟨_, rfl, onlyFields_of fun ga ho hs => ?_⟩; simp only [Off_cons, Off_nil] at ho; simp [ho])
theorem execPwmCapture_regs (n : Fin 48) (s : State) :
    ∃ t, execPwmCapture n s = .next t ∧ OnlyFields s t [AX.PWM_STATUS.COMMIT_PEND, REC.QUEUE.VALUE, REC.EVT_TOTAL] := by
  unfold execPwmCapture; dsimp only; (repeat' split) <;> (refine ⟨_, rfl, onlyFields_of fun ga ho hs => ?_⟩; simp only [Off_cons, Off_nil] at ho; simp [ho])
theorem execPwmDutyWrite_regs (m : Fin 64) (n : Fin 48) (j : Fin 3) (v : Sys2Proof.Word) (s : State) :
    ∃ t, execPwmDutyWrite m n j v s = .next t ∧ OnlyFields s t [AX.PWM_DUTY.D, AX.PWM_STATUS.COMMIT_PEND, AT.VIO_STATUS.FIRST_VALID, AT.VIO_FIRST_ADDR, AT.VIO_FIRST_INFO.MASTER,
      AT.VIO_FIRST_TIME, AT.VIO_LATEST_ADDR, AT.VIO_LATEST_INFO.INFO, AT.VIO_LATEST_TIME, REC.QUEUE.VALUE, REC.EVT_TOTAL] := by
  refine ⟨_, rfl, onlyFields_of fun ga ho hs => ?_⟩; simp only [Off_cons, Off_nil] at ho; simp [ho]
theorem execPwmCommit_regs (m : Fin 64) (n : Fin 48) (s : State) :
    ∃ t, execPwmCommit m n s = .next t ∧ OnlyFields s t [AX.PWM_STATUS.COMMIT_PEND, AT.VIO_STATUS.FIRST_VALID, AT.VIO_FIRST_ADDR, AT.VIO_FIRST_INFO.MASTER, AT.VIO_FIRST_TIME,
      AT.VIO_LATEST_ADDR, AT.VIO_LATEST_INFO.INFO, AT.VIO_LATEST_TIME, REC.QUEUE.VALUE, REC.EVT_TOTAL] := by
  refine ⟨_, rfl, onlyFields_of fun ga ho hs => ?_⟩; simp only [Off_cons, Off_nil] at ho; simp [ho]
theorem execPwmActPeriodRead_regs (m : Fin 64) (n : Fin 48) (s : State) :
    ∃ t, execPwmActPeriodRead m n s = .next t ∧ OnlyFields s t [AT.VIO_STATUS.FIRST_VALID, AT.VIO_FIRST_ADDR, AT.VIO_FIRST_INFO.MASTER, AT.VIO_FIRST_TIME, AT.VIO_LATEST_ADDR,
      AT.VIO_LATEST_INFO.INFO, AT.VIO_LATEST_TIME, REC.QUEUE.VALUE, REC.EVT_TOTAL] := by
  refine ⟨_, rfl, onlyFields_of fun ga ho hs => ?_⟩; simp only [Off_cons, Off_nil] at ho; simp [ho]
theorem execDlCalMeasure_regs (ch : Fin 50) (elems : Fin 128) (s : State) :
    ∃ t, execDlCalMeasure ch elems s = .next t ∧ OnlyFields s t [AX.PWM_STATUS.COMMIT_PEND, AX.PWM_DLCAL.N, REC.QUEUE.VALUE, REC.EVT_TOTAL] := by
  unfold execDlCalMeasure; dsimp only; (repeat' split) <;> (refine ⟨_, rfl, onlyFields_of fun ga ho hs => ?_⟩; simp only [Off_cons, Off_nil] at ho; simp [ho])
theorem execTripQualified_regs (n : Fin 48) (oc : Sys2Proof.PinLevel) (ds : Sys2Proof.PinLevel) (s : State) :
    ∃ t, execTripQualified n oc ds s = .next t ∧ OnlyFields s t [AX.PWM_CTRL.EN, AX.PWM_STATUS.COMMIT_PEND, AX.TRIP_STATUS.LATCH, AX.TRIP_TIME, AX.CMT_STATUS.STATE, REC.QUEUE.VALUE,
      REC.EVT_TOTAL] := by
  unfold execTripQualified; dsimp only; (repeat' split) <;> (refine ⟨_, rfl, onlyFields_of fun ga ho hs => ?_⟩; simp only [Off_cons, Off_nil] at ho; simp [ho])
theorem execTripAssertionBlanked_regs (p : Sys2Proof.TripPulse) (s : State) :
    ∃ t, execTripAssertionBlanked p s = .next t ∧ OnlyFields s t [AX.TRIP_STATUS.LATCH] := by
  refine ⟨_, rfl, onlyFields_of fun ga ho hs => ?_⟩; simp only [Off_cons, Off_nil] at ho; simp [ho]
theorem execPxbMapWrite_regs (m : Fin 64) (sp : Fin 2) (v : Sys2Proof.Word) (s : State) :
    ∃ t, execPxbMapWrite m sp v s = .next t ∧ OnlyFields s t [PXB.MAP.AXIS, PXB.STATUS.BUSY, AT.VIO_STATUS.FIRST_VALID, AT.VIO_FIRST_ADDR, AT.VIO_FIRST_INFO.MASTER,
      AT.VIO_FIRST_TIME, AT.VIO_LATEST_ADDR, AT.VIO_LATEST_INFO.INFO, AT.VIO_LATEST_TIME, REC.QUEUE.VALUE, REC.EVT_TOTAL] := by
  refine ⟨_, rfl, onlyFields_of fun ga ho hs => ?_⟩; simp only [Off_cons, Off_nil] at ho; simp [ho]
theorem execVibSample_regs (c : Fin 32) (stamp : Nat) (raw : Int) (s : State) :
    ∃ t, execVibSample c stamp raw s = .next t ∧ OnlyFields s t [MF.VIB_STATUS.SETTLING, BAB.IN_STATUS.STATE, BAB.IN_POS, MEM.CH_RETIRE.RETIRE, MEM.ECC_STATUS.CE, MEM.UE_FIRST_ADDR,
      MEM.UE_FIRST_INFO.MASTER, MEM.UE_FIRST_TIME, MEM.UE_LATEST_ADDR, MEM.UE_LATEST_INFO.INFO, MEM.UE_LATEST_TIME,
      MEM.CH_CNT.CE, MEM.SRAM_CNT.CE, AT.VIO_STATUS.FIRST_VALID, AT.VIO_FIRST_ADDR, AT.VIO_FIRST_INFO.MASTER,
      AT.VIO_FIRST_TIME, AT.VIO_LATEST_ADDR, AT.VIO_LATEST_INFO.INFO, AT.VIO_LATEST_TIME, REC.QUEUE.VALUE, REC.EVT_TOTAL] [.direct] := by
  unfold execVibSample; dsimp only; (repeat' split) <;> (refine ⟨_, rfl, onlyFields_of fun ga ho hs => ?_⟩; simp only [Off_cons, Off_nil] at ho; simp [ho, hs .direct (by simp)])
theorem execVibRestart_regs (m : Fin 64) (c : Fin 32) (notch : Bool) (v : Sys2Proof.Word) (s : State) :
    ∃ t, execVibRestart m c notch v s = .next t ∧ OnlyFields s t [MF.VIB_CFG.PD, MF.VIB_NOTCH.F, MF.VIB_STATUS.SETTLING, BAB.IN_STATUS.STATE, AT.VIO_STATUS.FIRST_VALID,
      AT.VIO_FIRST_ADDR, AT.VIO_FIRST_INFO.MASTER, AT.VIO_FIRST_TIME, AT.VIO_LATEST_ADDR, AT.VIO_LATEST_INFO.INFO,
      AT.VIO_LATEST_TIME, REC.QUEUE.VALUE, REC.EVT_TOTAL] := by
  unfold execVibRestart; (repeat' split) <;> (refine ⟨_, rfl, onlyFields_of fun ga ho hs => ?_⟩; simp only [Off_cons, Off_nil] at ho; simp [ho])
theorem execVibSettled_regs (c : Fin 32) (s : State) :
    ∃ t, execVibSettled c s = .next t ∧ OnlyFields s t [MF.VIB_STATUS.SETTLING] := by
  unfold execVibSettled; (repeat' split) <;> (refine ⟨_, rfl, onlyFields_of fun ga ho hs => ?_⟩; simp only [Off_cons, Off_nil] at ho; simp [ho])
theorem execIntlvLock_regs (c : Fin 32) (s : State) :
    ∃ t, execIntlvLock c s = .next t ∧ OnlyFields s t [MF.VIB_STATUS.SETTLING] := by
  unfold execIntlvLock; (repeat' split) <;> (refine ⟨_, rfl, onlyFields_of fun ga ho hs => ?_⟩; simp only [Off_cons, Off_nil] at ho; simp [ho])
theorem execIntlvLockLoss_regs (c : Fin 32) (s : State) :
    ∃ t, execIntlvLockLoss c s = .next t ∧ OnlyFields s t [MF.VIB_STATUS.SETTLING] := by
  refine ⟨_, rfl, onlyFields_of fun ga ho hs => ?_⟩; simp only [Off_cons, Off_nil] at ho; simp [ho]
theorem execChfbChange_regs (b : Fin 8) (v : Sys2Proof.BallLevel) (s : State) :
    ∃ t, execChfbChange b v s = .next t ∧ OnlyFields s t [MF.DCB_STATUS.OV] := by
  unfold execChfbChange; dsimp only; (repeat' split) <;> (refine ⟨_, rfl, onlyFields_of fun ga ho hs => ?_⟩; simp only [Off_cons, Off_nil] at ho; simp [ho])
theorem execChopNoCurrent_regs (b : Fin 8) (s : State) :
    ∃ t, execChopNoCurrent b s = .next t ∧ OnlyFields s t [BUS.STATUS.CHOP_ON, BUS.CHOP_FAULT_TIME, REC.QUEUE.VALUE, REC.EVT_TOTAL] := by
  refine ⟨_, rfl, onlyFields_of fun ga ho hs => ?_⟩; simp only [Off_cons, Off_nil] at ho; simp [ho]
theorem execChopOverload_regs (b : Fin 8) (s : State) :
    ∃ t, execChopOverload b s = .next t ∧ OnlyFields s t [BUS.STATUS.CHOP_ON, BUS.CHOP_FAULT_TIME, REC.QUEUE.VALUE, REC.EVT_TOTAL] := by
  unfold execChopOverload; dsimp only; (repeat' split) <;> (refine ⟨_, rfl, onlyFields_of fun ga ho hs => ?_⟩; simp only [Off_cons, Off_nil] at ho; simp [ho])
theorem execChopStuck_regs (b : Fin 8) (s : State) :
    ∃ t, execChopStuck b s = .next t ∧ OnlyFields s t [TB.SPEED.SPEED, TB.ANGLE, TB.STAMP, TB.STATUS.STATE, SCH.TARGET, SCH.PRED, SCH.RESID.RESID, SCH.STATUS.STATE,
      AX.PWM_CTRL.EN, AX.FOC_CTRL.RUN, AX.SPD_DERATE.TQ, AX.CMT_STATUS.STATE, AX.SAF_STATUS.STATE, BUS.STATUS.CHOP_ON,
      BAB.IN_STATUS.STATE, BAB.IN_POS, MEM.CH_RETIRE.RETIRE, MEM.ECC_STATUS.CE, MEM.UE_FIRST_ADDR, MEM.UE_FIRST_INFO.MASTER,
      MEM.UE_FIRST_TIME, MEM.UE_LATEST_ADDR, MEM.UE_LATEST_INFO.INFO, MEM.UE_LATEST_TIME, MEM.CH_CNT.CE, MEM.SRAM_CNT.CE,
      AT.VIO_STATUS.FIRST_VALID, AT.VIO_FIRST_ADDR, AT.VIO_FIRST_INFO.MASTER, AT.VIO_FIRST_TIME, AT.VIO_LATEST_ADDR,
      AT.VIO_LATEST_INFO.INFO, AT.VIO_LATEST_TIME, SAF.STATUS.STATE, SAF.GROUP_STATE.LOW, SAF.FAULT_LAST.CODE,
      SAF.FAULT_TIME, REC.QUEUE.VALUE, REC.EVT_TOTAL] [.direct] := by
  unfold execChopStuck; dsimp only; (repeat' split) <;> (refine ⟨_, rfl, onlyFields_of fun ga ho hs => ?_⟩; simp only [Off_cons, Off_nil] at ho; simp [ho, hs .direct (by simp)])
theorem execOvComparator_regs (b : Fin 8) (uv : Nat) (s : State) :
    ∃ t, execOvComparator b uv s = .next t ∧ OnlyFields s t [MF.DCB_STATUS.OV, BUS.STATUS.CHOP_ON, REC.QUEUE.VALUE, REC.EVT_TOTAL] := by
  unfold execOvComparator; dsimp only; (repeat' split) <;> (refine ⟨_, rfl, onlyFields_of fun ga ho hs => ?_⟩; simp only [Off_cons, Off_nil] at ho; simp [ho])
theorem execDcbSampleDelivered_regs (b : Fin 8) (stamp : Nat) (raw : Fin 65536) (s : State) :
    ∃ t, execDcbSampleDelivered b stamp raw s = .next t ∧ OnlyFields s t [TB.SPEED.SPEED, TB.ANGLE, TB.STAMP, TB.STATUS.STATE, SCH.TARGET, SCH.PRED, SCH.RESID.RESID, SCH.STATUS.STATE,
      AX.PWM_CTRL.EN, AX.FOC_CTRL.RUN, AX.SPD_DERATE.TQ, AX.SPD_BUS_LIM.LIM, AX.CMT_STATUS.STATE, AX.SAF_STATUS.STATE,
      MF.DCB_STATUS.OV, BUS.STATUS.CHOP_ON, BUS.HOLD_LIM.L_BUS, BUS.VNOW.V, BAB.IN_STATUS.STATE, BAB.IN_POS,
      MEM.CH_RETIRE.RETIRE, MEM.ECC_STATUS.CE, MEM.UE_FIRST_ADDR, MEM.UE_FIRST_INFO.MASTER, MEM.UE_FIRST_TIME,
      MEM.UE_LATEST_ADDR, MEM.UE_LATEST_INFO.INFO, MEM.UE_LATEST_TIME, MEM.CH_CNT.CE, MEM.SRAM_CNT.CE,
      AT.VIO_STATUS.FIRST_VALID, AT.VIO_FIRST_ADDR, AT.VIO_FIRST_INFO.MASTER, AT.VIO_FIRST_TIME, AT.VIO_LATEST_ADDR,
      AT.VIO_LATEST_INFO.INFO, AT.VIO_LATEST_TIME, SAF.STATUS.STATE, SAF.GROUP_STATE.LOW, SAF.FAULT_LAST.CODE,
      SAF.FAULT_TIME, REC.QUEUE.VALUE, REC.EVT_TOTAL] [.direct] := by
  unfold execDcbSampleDelivered; (repeat' split) <;> (refine ⟨_, rfl, onlyFields_of fun ga ho hs => ?_⟩; simp only [Off_cons, Off_nil] at ho; simp [ho, hs .direct (by simp)])
theorem execBusThWrite_regs (m : Fin 64) (b : Fin 8) (which : Fin 3) (v : Sys2Proof.Word) (s : State) :
    ∃ t, execBusThWrite m b which v s = .next t ∧ OnlyFields s t [BUS.TH1.TH1_ON, BUS.TH2.TH2, BUS.UV.UV, BUS.STATUS.CHOP_ON, AT.VIO_STATUS.FIRST_VALID, AT.VIO_FIRST_ADDR,
      AT.VIO_FIRST_INFO.MASTER, AT.VIO_FIRST_TIME, AT.VIO_LATEST_ADDR, AT.VIO_LATEST_INFO.INFO, AT.VIO_LATEST_TIME,
      REC.QUEUE.VALUE, REC.EVT_TOTAL] := by
  refine ⟨_, rfl, onlyFields_of fun ga ho hs => ?_⟩
  simp only [Off_cons, Off_nil] at ho
  have hn : ga ≠ BUS.TH1.TH1_ON.addr b + 4 * which := by
    intro e
    have e1 : ga = BUS.TH1.TH1_ON.addr b ∨ ga = BUS.TH2.TH2.addr b ∨ ga = BUS.UV.UV.addr b := by
      have := which.isLt
      simp only [RF.addr, BUS.TH1.TH1_ON, BUS.TH2.TH2, BUS.UV.UV] at e ⊢; omega
    rcases e1 with e | e | e
    · exact ho.1 ⟨b, 0, .inl e⟩
    · exact ho.2.1 ⟨b, 0, .inl e⟩
    · exact ho.2.2.1 ⟨b, 0, .inl e⟩
  exact State.busWriteWith_regs _ _ _ _ _ _ (by simp [ho]) (State.fxBusTh_regs _ _ _ _ _ (by simp [ho]) hn)
theorem execChopFaultClear_regs (m : Fin 64) (b : Fin 8) (s : State) :
    ∃ t, execChopFaultClear m b s = .next t ∧ OnlyFields s t [BUS.STATUS.CHOP_ON, AT.VIO_STATUS.FIRST_VALID, AT.VIO_FIRST_ADDR, AT.VIO_FIRST_INFO.MASTER, AT.VIO_FIRST_TIME,
      AT.VIO_LATEST_ADDR, AT.VIO_LATEST_INFO.INFO, AT.VIO_LATEST_TIME, REC.QUEUE.VALUE, REC.EVT_TOTAL] := by
  refine ⟨_, rfl, onlyFields_of fun ga ho hs => ?_⟩; simp only [Off_cons, Off_nil] at ho; simp [ho]
theorem execT2Clear_regs (m : Fin 64) (b : Fin 8) (s : State) :
    ∃ t, execT2Clear m b s = .next t ∧ OnlyFields s t [BUS.STATUS.CHOP_ON, AT.VIO_STATUS.FIRST_VALID, AT.VIO_FIRST_ADDR, AT.VIO_FIRST_INFO.MASTER, AT.VIO_FIRST_TIME,
      AT.VIO_LATEST_ADDR, AT.VIO_LATEST_INFO.INFO, AT.VIO_LATEST_TIME, REC.QUEUE.VALUE, REC.EVT_TOTAL] := by
  refine ⟨_, rfl, onlyFields_of fun ga ho hs => ?_⟩; simp only [Off_cons, Off_nil] at ho; simp [ho]
theorem execAccClear_regs (m : Fin 64) (b : Fin 8) (v : Sys2Proof.Word) (s : State) :
    ∃ t, execAccClear m b v s = .next t ∧ OnlyFields s t [BUS.ACC_CTRL.CLEAR, BUS.E, BUS.ACC_SNAP_TIME, AT.VIO_STATUS.FIRST_VALID, AT.VIO_FIRST_ADDR, AT.VIO_FIRST_INFO.MASTER,
      AT.VIO_FIRST_TIME, AT.VIO_LATEST_ADDR, AT.VIO_LATEST_INFO.INFO, AT.VIO_LATEST_TIME, REC.QUEUE.VALUE, REC.EVT_TOTAL] := by
  refine ⟨_, rfl, onlyFields_of fun ga ho hs => ?_⟩; simp only [Off_cons, Off_nil] at ho; simp [ho]

end Sys2Proof.Machine
end

