-- ==== Sys2Proof/Laws/FrameExec2.lean ====
section
/-!
SUPPORT. Which registers each command changes: it answers a next state in which every register of another field keeps its value.
-/
set_option linter.all false
namespace Sys2Proof.Machine
open Sys2Proof.Safety

theorem execAccSnap_regs (m : Fin 64) (b : Fin 8) (v : Sys2Proof.Word) (s : State) :
    ∃ t, execAccSnap m b v s = .next t ∧ OnlyFields s t [BUS.ACC_CTRL.CLEAR, BUS.E, BUS.ACC_SNAP_TIME, AT.VIO_STATUS.FIRST_VALID, AT.VIO_FIRST_ADDR, AT.VIO_FIRST_INFO.MASTER,
      AT.VIO_FIRST_TIME, AT.VIO_LATEST_ADDR, AT.VIO_LATEST_INFO.INFO, AT.VIO_LATEST_TIME, REC.QUEUE.VALUE, REC.EVT_TOTAL] := by
  refine ⟨_, rfl, onlyFields_of fun ga ho hs => ?_⟩; simp only [Off_cons, Off_nil] at ho; simp [ho]
theorem execAccAutoSnap_regs (b : Fin 8) (s : State) :
    ∃ t, execAccAutoSnap b s = .next t ∧ OnlyFields s t [BUS.E, BUS.ACC_SNAP_TIME] := by
  unfold execAccAutoSnap; dsimp only; (repeat' split) <;> (refine ⟨_, rfl, onlyFields_of fun ga ho hs => ?_⟩; simp only [Off_cons, Off_nil] at ho; simp [ho])
theorem execConverterWakeDone_regs (cur : Bool) (n : Fin 48) (s : State) :
    ∃ t, execConverterWakeDone cur n s = .next t ∧ OnlyFields s t [] := by
  unfold execConverterWakeDone; dsimp only; (repeat' split) <;> (refine ⟨_, rfl, onlyFields_of fun ga ho hs => ?_⟩; simp)
theorem execPvDacWrite_regs (m : Fin 64) (n : Fin 48) (j : Fin 3) (v : Sys2Proof.Word) (s : State) :
    ∃ t, execPvDacWrite m n j v s = .next t ∧ OnlyFields s t [AX.PV_DAC.TH, AX.PV_STATUS.LEVEL, AT.VIO_STATUS.FIRST_VALID, AT.VIO_FIRST_ADDR, AT.VIO_FIRST_INFO.MASTER,
      AT.VIO_FIRST_TIME, AT.VIO_LATEST_ADDR, AT.VIO_LATEST_INFO.INFO, AT.VIO_LATEST_TIME, REC.QUEUE.VALUE, REC.EVT_TOTAL] := by
  refine ⟨_, rfl, onlyFields_of fun ga ho hs => ?_⟩; simp only [Off_cons, Off_nil] at ho; simp [ho]
theorem execCalCmdStart_regs (m : Fin 64) (v : Sys2Proof.Word) (s : State) :
    ∃ t, execCalCmdStart m v s = .next t ∧ OnlyFields s t [AX.ADC_STATUS.CHK_MISM, MF.CAL_CMD.START, MF.CAL_STATUS.BUSY, BUS.STATUS.CHOP_ON, AT.VIO_STATUS.FIRST_VALID,
      AT.VIO_FIRST_ADDR, AT.VIO_FIRST_INFO.MASTER, AT.VIO_FIRST_TIME, AT.VIO_LATEST_ADDR, AT.VIO_LATEST_INFO.INFO,
      AT.VIO_LATEST_TIME, REC.QUEUE.VALUE, REC.EVT_TOTAL] := by
  refine ⟨_, rfl, onlyFields_of fun ga ho hs => ?_⟩; simp only [Off_cons, Off_nil] at ho; simp [ho]
theorem execCalComplete_regs (ref : Sys2Proof.RefCheck) (factors : List (Nat × Int × Int)) (s : State) :
    ∃ t, execCalComplete ref factors s = .next t ∧ OnlyFields s t [TB.SPEED.SPEED, TB.ANGLE, TB.STAMP, TB.STATUS.STATE, SCH.TARGET, SCH.PRED, SCH.RESID.RESID, SCH.STATUS.STATE,
      AX.PWM_CTRL.EN, AX.ADC_HEALTH.FAIL, AX.CAL_OFS.OFS, AX.CAL_GAIN.GAIN, AX.FOC_CTRL.RUN, AX.SPD_DERATE.TQ,
      AX.CMT_STATUS.STATE, AX.SAF_STATUS.STATE, MF.CAL_STATUS.BUSY, MF.CAL_TIME, MF.CAL_OFS.OFS, MF.CAL_GAIN.GAIN,
      MF.DCB_STATUS.OV, MF.VIB_STATUS.SETTLING, BUS.STATUS.CHOP_ON, BAB.IN_STATUS.STATE, BAB.IN_POS, MEM.CH_RETIRE.RETIRE,
      MEM.ECC_STATUS.CE, MEM.UE_FIRST_ADDR, MEM.UE_FIRST_INFO.MASTER, MEM.UE_FIRST_TIME, MEM.UE_LATEST_ADDR,
      MEM.UE_LATEST_INFO.INFO, MEM.UE_LATEST_TIME, MEM.CH_CNT.CE, MEM.SRAM_CNT.CE, AT.VIO_STATUS.FIRST_VALID,
      AT.VIO_FIRST_ADDR, AT.VIO_FIRST_INFO.MASTER, AT.VIO_FIRST_TIME, AT.VIO_LATEST_ADDR, AT.VIO_LATEST_INFO.INFO,
      AT.VIO_LATEST_TIME, SAF.STATUS.STATE, SAF.GROUP_STATE.LOW, SAF.FAULT_LAST.CODE, SAF.FAULT_TIME, REC.QUEUE.VALUE,
      REC.EVT_TOTAL] [.direct] := by
  unfold execCalComplete; (try dsimp only); (repeat' (split <;> try (rename_i heq; have hs := congrArg (fun x => x.1) heq; simp only at hs; subst hs))) <;> (refine ⟨_, rfl, onlyFields_of fun ga ho hs => ?_⟩; simp only [Off_cons, Off_nil] at ho; simp [ho, hs .direct (by simp)])
theorem execObsLoadGo_regs (m : Fin 64) (v : Sys2Proof.Word) (s : State) :
    ∃ t, execObsLoadGo m v s = .next t ∧ OnlyFields s t [OBS.LOAD_CMD.GO, OBS.LOAD_STATUS.BUSY, AT.VIO_STATUS.FIRST_VALID, AT.VIO_FIRST_ADDR, AT.VIO_FIRST_INFO.MASTER,
      AT.VIO_FIRST_TIME, AT.VIO_LATEST_ADDR, AT.VIO_LATEST_INFO.INFO, AT.VIO_LATEST_TIME, REC.QUEUE.VALUE, REC.EVT_TOTAL] := by
  refine ⟨_, rfl, onlyFields_of fun ga ho hs => ?_⟩; simp only [Off_cons, Off_nil] at ho; simp [ho]
theorem execLoadCmdRemove_regs (m : Fin 64) (v : Sys2Proof.Word) (s : State) :
    ∃ t, execLoadCmdRemove m v s = .next t ∧ OnlyFields s t [OBS.LOAD_CMD.GO, OBS.LOAD_STATUS.BUSY, AT.VIO_STATUS.FIRST_VALID, AT.VIO_FIRST_ADDR, AT.VIO_FIRST_INFO.MASTER,
      AT.VIO_FIRST_TIME, AT.VIO_LATEST_ADDR, AT.VIO_LATEST_INFO.INFO, AT.VIO_LATEST_TIME, REC.QUEUE.VALUE, REC.EVT_TOTAL] := by
  refine ⟨_, rfl, onlyFields_of fun ga ho hs => ?_⟩; simp only [Off_cons, Off_nil] at ho; simp [ho]
theorem execForceCls_regs (m : Fin 64) (n : Fin 48) (v : Sys2Proof.Word) (s : State) :
    ∃ t, execForceCls m n v s = .next t ∧ OnlyFields s t [AX.OBS_CFG.PRIO_T, AX.OBS_STATUS.MODE, OBS.PLAN.SUM, OBS.PPLAN.SUM, OBS.STATUS.DEMOTE, AT.VIO_STATUS.FIRST_VALID,
      AT.VIO_FIRST_ADDR, AT.VIO_FIRST_INFO.MASTER, AT.VIO_FIRST_TIME, AT.VIO_LATEST_ADDR, AT.VIO_LATEST_INFO.INFO,
      AT.VIO_LATEST_TIME, REC.QUEUE.VALUE, REC.EVT_TOTAL] := by
  refine ⟨_, rfl, onlyFields_of fun ga ho hs => ?_⟩; simp only [Off_cons, Off_nil] at ho; simp [ho]
theorem execResume_regs (m : Fin 64) (n : Fin 48) (v : Sys2Proof.Word) (s : State) :
    ∃ t, execResume m n v s = .next t ∧ OnlyFields s t [AX.OBS_CFG.PRIO_T, AX.OBS_STATUS.MODE, OBS.PLAN.SUM, OBS.PPLAN.SUM, OBS.STATUS.DEMOTE, AT.VIO_STATUS.FIRST_VALID,
      AT.VIO_FIRST_ADDR, AT.VIO_FIRST_INFO.MASTER, AT.VIO_FIRST_TIME, AT.VIO_LATEST_ADDR, AT.VIO_LATEST_INFO.INFO,
      AT.VIO_LATEST_TIME, REC.QUEUE.VALUE, REC.EVT_TOTAL] := by
  refine ⟨_, rfl, onlyFields_of fun ga ho hs => ?_⟩; simp only [Off_cons, Off_nil] at ho; simp [ho]
theorem execObsEstThetaRead_regs (m : Fin 64) (n : Fin 48) (s : State) :
    ∃ t, execObsEstThetaRead m n s = .next t ∧ OnlyFields s t [AT.VIO_STATUS.FIRST_VALID, AT.VIO_FIRST_ADDR, AT.VIO_FIRST_INFO.MASTER, AT.VIO_FIRST_TIME, AT.VIO_LATEST_ADDR,
      AT.VIO_LATEST_INFO.INFO, AT.VIO_LATEST_TIME, REC.QUEUE.VALUE, REC.EVT_TOTAL] := by
  refine ⟨_, rfl, onlyFields_of fun ga ho hs => ?_⟩; simp only [Off_cons, Off_nil] at ho; simp [ho]
theorem execObsLoadDone_regs (s : State) :
    ∃ t, execObsLoadDone s = .next t ∧ OnlyFields s t [AX.OBS_STATUS.MODE, OBS.LOAD_STATUS.BUSY, OBS.ADM_LIP.VALUE, OBS.ADM_ERRB.VALUE, OBS.PLAN.SUM, OBS.PPLAN.SUM,
      OBS.STATUS.DEMOTE, MEM.CH_RETIRE.RETIRE, MEM.ECC_STATUS.CE, MEM.UE_FIRST_ADDR, MEM.UE_FIRST_INFO.MASTER,
      MEM.UE_FIRST_TIME, MEM.UE_LATEST_ADDR, MEM.UE_LATEST_INFO.INFO, MEM.UE_LATEST_TIME, MEM.CH_CNT.CE, MEM.SRAM_CNT.CE,
      AT.VIO_STATUS.FIRST_VALID, AT.VIO_FIRST_ADDR, AT.VIO_FIRST_INFO.MASTER, AT.VIO_FIRST_TIME, AT.VIO_LATEST_ADDR,
      AT.VIO_LATEST_INFO.INFO, AT.VIO_LATEST_TIME, REC.QUEUE.VALUE, REC.EVT_TOTAL] := by
  refine ⟨_, rfl, onlyFields_of fun ga ho hs => ?_⟩; simp only [Off_cons, Off_nil] at ho; simp [ho]
theorem execObsRemoveDone_regs (s : State) :
    ∃ t, execObsRemoveDone s = .next t ∧ OnlyFields s t [AX.OBS_STATUS.MODE, OBS.LOAD_STATUS.BUSY, OBS.PLAN.SUM, OBS.PPLAN.SUM, OBS.STATUS.DEMOTE, REC.QUEUE.VALUE, REC.EVT_TOTAL] := by
  refine ⟨_, rfl, onlyFields_of fun ga ho hs => ?_⟩; simp only [Off_cons, Off_nil] at ho; simp [ho]
theorem execPvComparatorChange_regs (n : Fin 48) (j : Fin 3) (v : Sys2Proof.PhaseLevels) (s : State) :
    ∃ t, execPvComparatorChange n j v s = .next t ∧ OnlyFields s t [AX.PV_STATUS.LEVEL, AX.CMT_CNT.QUALIFIED] := by
  unfold execPvComparatorChange; dsimp only; (repeat' split) <;> (refine ⟨_, rfl, onlyFields_of fun ga ho hs => ?_⟩; simp only [Off_cons, Off_nil] at ho; simp [ho])
theorem execPvDacSettled_regs (n : Fin 48) (j : Fin 3) (v : Sys2Proof.PhaseLevels) (s : State) :
    ∃ t, execPvDacSettled n j v s = .next t ∧ OnlyFields s t [AX.PV_STATUS.LEVEL, AX.CMT_CNT.QUALIFIED] := by
  unfold execPvDacSettled; dsimp only; (repeat' split) <;> (refine ⟨_, rfl, onlyFields_of fun ga ho hs => ?_⟩; simp only [Off_cons, Off_nil] at ho; simp [ho])
theorem execLwOpen_regs (n : Fin 48) (s : State) :
    ∃ t, execLwOpen n s = .next t ∧ OnlyFields s t [AX.PV_DAC.TH, AX.CMT_STATUS.STATE] := by
  unfold execLwOpen; (repeat' split) <;> (refine ⟨_, rfl, onlyFields_of fun ga ho hs => ?_⟩; simp only [Off_cons, Off_nil] at ho; simp [ho])
theorem execLwClose_regs (n : Fin 48) (at_ : Nat) (s : State) :
    ∃ t, execLwClose n at_ s = .next t ∧ OnlyFields s t [TB.SPEED.SPEED, TB.ANGLE, TB.STAMP, TB.STATUS.STATE, SCH.TARGET, SCH.PRED, SCH.RESID.RESID, SCH.STATUS.STATE,
      AX.PWM_CTRL.EN, AX.FOC_CTRL.RUN, AX.SPD_DERATE.TQ, AX.CMT_STATUS.STATE, AX.CMT_CNT.QUALIFIED, AX.CMT_FAIL_CNT.NONE,
      AX.CMT_LAST, AX.CMT_LAST_ERR.VALUE, AX.CMT_SCORR.VALUE, AX.SAF_STATUS.STATE, BAB.IN_STATUS.STATE, BAB.IN_POS,
      MEM.CH_RETIRE.RETIRE, MEM.ECC_STATUS.CE, MEM.UE_FIRST_ADDR, MEM.UE_FIRST_INFO.MASTER, MEM.UE_FIRST_TIME,
      MEM.UE_LATEST_ADDR, MEM.UE_LATEST_INFO.INFO, MEM.UE_LATEST_TIME, MEM.CH_CNT.CE, MEM.SRAM_CNT.CE,
      AT.VIO_STATUS.FIRST_VALID, AT.VIO_FIRST_ADDR, AT.VIO_FIRST_INFO.MASTER, AT.VIO_FIRST_TIME, AT.VIO_LATEST_ADDR,
      AT.VIO_LATEST_INFO.INFO, AT.VIO_LATEST_TIME, SAF.STATUS.STATE, SAF.GROUP_STATE.LOW, SAF.FAULT_LAST.CODE,
      SAF.FAULT_TIME, REC.QUEUE.VALUE, REC.EVT_TOTAL] [.direct] := by
  unfold execLwClose; dsimp only; (repeat' split) <;> (refine ⟨_, rfl, onlyFields_of fun ga ho hs => ?_⟩; simp only [Off_cons, Off_nil] at ho; simp [ho, hs .direct (by simp)])
theorem execCrossingQualified_regs (n : Fin 48) (phase : Fin 3) (rising : Bool) (tx : Nat) (s : State) :
    ∃ t, execCrossingQualified n phase rising tx s = .next t ∧ OnlyFields s t [TB.SPEED.SPEED, TB.ANGLE, TB.STAMP, TB.STATUS.STATE, SCH.TARGET, SCH.PRED, SCH.RESID.RESID, SCH.STATUS.STATE,
      AX.PWM_CTRL.EN, AX.FOC_CTRL.RUN, AX.SPD_DERATE.TQ, AX.CMT_STATUS.STATE, AX.CMT_CNT.QUALIFIED, AX.CMT_FAIL_CNT.NONE,
      AX.CMT_LAST, AX.CMT_LAST_ERR.VALUE, AX.CMT_SCORR.VALUE, AX.SAF_STATUS.STATE, BAB.IN_STATUS.STATE, BAB.IN_POS,
      MEM.CH_RETIRE.RETIRE, MEM.ECC_STATUS.CE, MEM.UE_FIRST_ADDR, MEM.UE_FIRST_INFO.MASTER, MEM.UE_FIRST_TIME,
      MEM.UE_LATEST_ADDR, MEM.UE_LATEST_INFO.INFO, MEM.UE_LATEST_TIME, MEM.CH_CNT.CE, MEM.SRAM_CNT.CE,
      AT.VIO_STATUS.FIRST_VALID, AT.VIO_FIRST_ADDR, AT.VIO_FIRST_INFO.MASTER, AT.VIO_FIRST_TIME, AT.VIO_LATEST_ADDR,
      AT.VIO_LATEST_INFO.INFO, AT.VIO_LATEST_TIME, SAF.STATUS.STATE, SAF.GROUP_STATE.LOW, SAF.FAULT_LAST.CODE,
      SAF.FAULT_TIME, REC.QUEUE.VALUE, REC.EVT_TOTAL] [.direct] := by
  unfold execCrossingQualified; dsimp only; (repeat' split) <;> (refine ⟨_, rfl, onlyFields_of fun ga ho hs => ?_⟩; simp only [Off_cons, Off_nil] at ho; simp [ho, hs .direct (by simp)])
theorem execListenEnd_regs (n : Fin 48) (s : State) :
    ∃ t, execListenEnd n s = .next t ∧ OnlyFields s t [AX.PWM_CTRL.EN, AX.PV_DAC.TH, AX.FOC_CTRL.RUN, AX.SPD_REF.REF, AX.SPD_STATUS.AT_TARGET, AX.CMT_STATUS.STATE,
      AX.CMT_CORR.VALUE, AX.CMT_SCORR.VALUE, AX.CMT_MEAS_SPD.VALUE, AX.CMT_MEAS_ANGLE.VALUE, REC.QUEUE.VALUE, REC.EVT_TOTAL] := by
  unfold execListenEnd; dsimp only; (repeat' split) <;> (refine ⟨_, rfl, onlyFields_of fun ga ho hs => ?_⟩; simp only [Off_cons, Off_nil] at ho; simp [ho])
theorem execWaitTimeout_regs (n : Fin 48) (s : State) :
    ∃ t, execWaitTimeout n s = .next t ∧ OnlyFields s t [AX.PWM_CTRL.EN, AX.CMT_STATUS.STATE, REC.QUEUE.VALUE, REC.EVT_TOTAL] := by
  unfold execWaitTimeout; (repeat' split) <;> (refine ⟨_, rfl, onlyFields_of fun ga ho hs => ?_⟩; simp only [Off_cons, Off_nil] at ho; simp [ho])
theorem execBrakeEnd_regs (n : Fin 48) (s : State) :
    ∃ t, execBrakeEnd n s = .next t ∧ OnlyFields s t [AX.PV_DAC.TH, AX.CMT_STATUS.STATE] := by
  unfold execBrakeEnd; dsimp only; (repeat' split) <;> (refine ⟨_, rfl, onlyFields_of fun ga ho hs => ?_⟩; simp only [Off_cons, Off_nil] at ho; simp [ho])
theorem execAlignEnd_regs (n : Fin 48) (s : State) :
    ∃ t, execAlignEnd n s = .next t ∧ OnlyFields s t [AX.SPD_REF.REF, AX.SPD_STATUS.AT_TARGET, AX.CMT_STATUS.STATE] := by
  unfold execAlignEnd; (repeat' split) <;> (refine ⟨_, rfl, onlyFields_of fun ga ho hs => ?_⟩; simp only [Off_cons, Off_nil] at ho; simp [ho])
theorem execHandoverFail_regs (n : Fin 48) (s : State) :
    ∃ t, execHandoverFail n s = .next t ∧ OnlyFields s t [AX.PWM_CTRL.EN, AX.CMT_STATUS.STATE, REC.QUEUE.VALUE, REC.EVT_TOTAL] := by
  unfold execHandoverFail; (repeat' split) <;> (refine ⟨_, rfl, onlyFields_of fun ga ho hs => ?_⟩; simp only [Off_cons, Off_nil] at ho; simp [ho])
theorem execStartGo_regs (m : Fin 64) (n : Fin 48) (s : State) :
    ∃ t, execStartGo m n s = .next t ∧ OnlyFields s t [AX.PV_DAC.TH, AX.CMT_STATUS.STATE, AT.VIO_STATUS.FIRST_VALID, AT.VIO_FIRST_ADDR, AT.VIO_FIRST_INFO.MASTER,
      AT.VIO_FIRST_TIME, AT.VIO_LATEST_ADDR, AT.VIO_LATEST_INFO.INFO, AT.VIO_LATEST_TIME, REC.QUEUE.VALUE, REC.EVT_TOTAL] := by
  refine ⟨_, rfl, onlyFields_of fun ga ho hs => ?_⟩; simp only [Off_cons, Off_nil] at ho; simp [ho]
theorem execStartAbort_regs (m : Fin 64) (n : Fin 48) (s : State) :
    ∃ t, execStartAbort m n s = .next t ∧ OnlyFields s t [AX.PV_DAC.TH, AX.CMT_STATUS.STATE, AT.VIO_STATUS.FIRST_VALID, AT.VIO_FIRST_ADDR, AT.VIO_FIRST_INFO.MASTER,
      AT.VIO_FIRST_TIME, AT.VIO_LATEST_ADDR, AT.VIO_LATEST_INFO.INFO, AT.VIO_LATEST_TIME, REC.QUEUE.VALUE, REC.EVT_TOTAL] := by
  refine ⟨_, rfl, onlyFields_of fun ga ho hs => ?_⟩; simp only [Off_cons, Off_nil] at ho; simp [ho]
theorem execLoopStep_regs (n : Fin 48) (ra : Int) (rb : Int) (rk : Int) (s : State) :
    ∃ t, execLoopStep n ra rb rk s = .next t ∧ OnlyFields s t [TB.SPEED.SPEED, TB.ANGLE, TB.STAMP, TB.STATUS.STATE, SCH.TARGET, SCH.PRED, SCH.RESID.RESID, SCH.STATUS.STATE,
      AX.PWM_CTRL.EN, AX.PWM_DUTY.D, AX.PWM_STATUS.COMMIT_PEND, AX.ADC_STATUS.CHK_MISM, AX.ADC_HEALTH.FAIL, AX.FOC_CTRL.RUN,
      AX.FOC_IQ_REF.VALUE, AX.FOC_VD_MAN.VALUE, AX.FOC_VQ_MAN.VALUE, AX.FOC_STATUS.SECTOR, AX.FOC_VBUS.VBUS, AX.SPD_REF.REF,
      AX.SPD_STATUS.AT_TARGET, AX.SPD_DERATE.TQ, AX.CMT_STATUS.STATE, AX.CMT_CNT.QUALIFIED, AX.CMT_FAIL_CNT.NONE,
      AX.CMT_CORR.VALUE, AX.CMT_SCORR.VALUE, AX.BUS_ABS.DIQ, AX.BUS_STATUS.CFG_REFUSED, AX.OBS_STATUS.MODE,
      AX.OBS_CNT.EVAL_CNT, AX.OBS_LAST_MISM, AX.OBS_EST_THETA.THETA, AX.OBS_EST_OMEGA.OMEGA, AX.OBS_EST_T.T_W,
      AX.OBS_EST_LOAD.LOAD, AX.OBS_EST_STAMP, AX.OBS_EST_SRC.SRC, AX.SAF_STATUS.STATE, OBS.STATUS.DEMOTE,
      BAB.IN_STATUS.STATE, BAB.IN_POS, MEM.CH_RETIRE.RETIRE, MEM.ECC_STATUS.CE, MEM.UE_FIRST_ADDR, MEM.UE_FIRST_INFO.MASTER,
      MEM.UE_FIRST_TIME, MEM.UE_LATEST_ADDR, MEM.UE_LATEST_INFO.INFO, MEM.UE_LATEST_TIME, MEM.CH_CNT.CE, MEM.SRAM_CNT.CE,
      AT.VIO_STATUS.FIRST_VALID, AT.VIO_FIRST_ADDR, AT.VIO_FIRST_INFO.MASTER, AT.VIO_FIRST_TIME, AT.VIO_LATEST_ADDR,
      AT.VIO_LATEST_INFO.INFO, AT.VIO_LATEST_TIME, SAF.STATUS.STATE, SAF.GROUP_STATE.LOW, SAF.FAULT_LAST.CODE,
      SAF.FAULT_TIME, REC.QUEUE.VALUE, REC.EVT_TOTAL] [.direct] := by
  unfold execLoopStep; dsimp only; (repeat' split) <;> (refine ⟨_, rfl, onlyFields_of fun ga ho hs => ?_⟩; simp only [Off_cons, Off_nil] at ho; simp [ho, hs .direct (by simp)])
theorem execObsJobComplete_regs (i : Sys2Proof.LaneEnd 12) (s : State) :
    ∃ t, execObsJobComplete i s = .next t ∧ OnlyFields s t [TB.SPEED.SPEED, TB.ANGLE, TB.STAMP, TB.STATUS.STATE, SCH.TARGET, SCH.PRED, SCH.RESID.RESID, SCH.STATUS.STATE,
      AX.PWM_DUTY.D, AX.PWM_STATUS.COMMIT_PEND, AX.FOC_IQ_REF.VALUE, AX.FOC_VD_MAN.VALUE, AX.FOC_VQ_MAN.VALUE,
      AX.FOC_STATUS.SECTOR, AX.FOC_VBUS.VBUS, AX.SPD_REF.REF, AX.SPD_STATUS.AT_TARGET, AX.CMT_STATUS.STATE,
      AX.CMT_CNT.QUALIFIED, AX.CMT_FAIL_CNT.NONE, AX.CMT_CORR.VALUE, AX.CMT_SCORR.VALUE, AX.BUS_ABS.DIQ,
      AX.BUS_STATUS.CFG_REFUSED, AX.OBS_STATUS.MODE, AX.OBS_CNT.EVAL_CNT, AX.OBS_LAST_MISM, AX.OBS_EST_THETA.THETA,
      AX.OBS_EST_OMEGA.OMEGA, AX.OBS_EST_T.T_W, AX.OBS_EST_LOAD.LOAD, AX.OBS_EST_STAMP, AX.OBS_EST_SRC.SRC,
      OBS.STATUS.DEMOTE, BAB.IN_STATUS.STATE, BAB.IN_POS, MEM.CH_RETIRE.RETIRE, MEM.ECC_STATUS.CE, MEM.UE_FIRST_ADDR,
      MEM.UE_FIRST_INFO.MASTER, MEM.UE_FIRST_TIME, MEM.UE_LATEST_ADDR, MEM.UE_LATEST_INFO.INFO, MEM.UE_LATEST_TIME,
      MEM.CH_CNT.CE, MEM.SRAM_CNT.CE, AT.VIO_STATUS.FIRST_VALID, AT.VIO_FIRST_ADDR, AT.VIO_FIRST_INFO.MASTER,
      AT.VIO_FIRST_TIME, AT.VIO_LATEST_ADDR, AT.VIO_LATEST_INFO.INFO, AT.VIO_LATEST_TIME, REC.QUEUE.VALUE, REC.EVT_TOTAL] [.direct] := by
  refine ⟨_, rfl, onlyFields_of fun ga ho hs => ?_⟩; simp only [Off_cons, Off_nil] at ho; simp [ho, hs .direct (by simp)]
theorem execPewterCheckComplete_regs (i : Sys2Proof.LaneEnd 4) (s : State) :
    ∃ t, execPewterCheckComplete i s = .next t ∧ OnlyFields s t [TB.SPEED.SPEED, TB.ANGLE, TB.STAMP, TB.STATUS.STATE, SCH.TARGET, SCH.PRED, SCH.RESID.RESID, SCH.STATUS.STATE,
      AX.PWM_DUTY.D, AX.PWM_STATUS.COMMIT_PEND, AX.FOC_IQ_REF.VALUE, AX.FOC_VD_MAN.VALUE, AX.FOC_VQ_MAN.VALUE,
      AX.FOC_STATUS.SECTOR, AX.FOC_VBUS.VBUS, AX.SPD_REF.REF, AX.SPD_STATUS.AT_TARGET, AX.CMT_STATUS.STATE,
      AX.CMT_CNT.QUALIFIED, AX.CMT_FAIL_CNT.NONE, AX.CMT_CORR.VALUE, AX.CMT_SCORR.VALUE, AX.BUS_ABS.DIQ,
      AX.BUS_STATUS.CFG_REFUSED, AX.OBS_STATUS.MODE, AX.OBS_CNT.EVAL_CNT, AX.OBS_LAST_MISM, AX.OBS_EST_THETA.THETA,
      AX.OBS_EST_OMEGA.OMEGA, AX.OBS_EST_T.T_W, AX.OBS_EST_LOAD.LOAD, AX.OBS_EST_STAMP, AX.OBS_EST_SRC.SRC,
      OBS.STATUS.DEMOTE, BAB.IN_STATUS.STATE, BAB.IN_POS, MEM.CH_RETIRE.RETIRE, MEM.ECC_STATUS.CE, MEM.UE_FIRST_ADDR,
      MEM.UE_FIRST_INFO.MASTER, MEM.UE_FIRST_TIME, MEM.UE_LATEST_ADDR, MEM.UE_LATEST_INFO.INFO, MEM.UE_LATEST_TIME,
      MEM.CH_CNT.CE, MEM.SRAM_CNT.CE, AT.VIO_STATUS.FIRST_VALID, AT.VIO_FIRST_ADDR, AT.VIO_FIRST_INFO.MASTER,
      AT.VIO_FIRST_TIME, AT.VIO_LATEST_ADDR, AT.VIO_LATEST_INFO.INFO, AT.VIO_LATEST_TIME, REC.QUEUE.VALUE, REC.EVT_TOTAL] [.direct] := by
  refine ⟨_, rfl, onlyFields_of fun ga ho hs => ?_⟩; simp only [Off_cons, Off_nil] at ho; simp [ho, hs .direct (by simp)]
theorem execObsLate_regs (n : Fin 48) (s : State) :
    ∃ t, execObsLate n s = .next t ∧ OnlyFields s t [TB.SPEED.SPEED, TB.ANGLE, TB.STAMP, TB.STATUS.STATE, SCH.TARGET, SCH.PRED, SCH.RESID.RESID, SCH.STATUS.STATE,
      AX.PWM_DUTY.D, AX.PWM_STATUS.COMMIT_PEND, AX.FOC_IQ_REF.VALUE, AX.FOC_VD_MAN.VALUE, AX.FOC_VQ_MAN.VALUE,
      AX.FOC_STATUS.SECTOR, AX.FOC_VBUS.VBUS, AX.SPD_REF.REF, AX.SPD_STATUS.AT_TARGET, AX.CMT_STATUS.STATE,
      AX.CMT_CNT.QUALIFIED, AX.CMT_FAIL_CNT.NONE, AX.CMT_CORR.VALUE, AX.CMT_SCORR.VALUE, AX.BUS_ABS.DIQ,
      AX.BUS_STATUS.CFG_REFUSED, AX.OBS_STATUS.MODE, AX.OBS_CNT.EVAL_CNT, AX.OBS_LAST_MISM, AX.OBS_EST_THETA.THETA,
      AX.OBS_EST_OMEGA.OMEGA, AX.OBS_EST_T.T_W, AX.OBS_EST_LOAD.LOAD, AX.OBS_EST_STAMP, AX.OBS_EST_SRC.SRC,
      OBS.STATUS.DEMOTE, BAB.IN_STATUS.STATE, BAB.IN_POS, MEM.CH_RETIRE.RETIRE, MEM.ECC_STATUS.CE, MEM.UE_FIRST_ADDR,
      MEM.UE_FIRST_INFO.MASTER, MEM.UE_FIRST_TIME, MEM.UE_LATEST_ADDR, MEM.UE_LATEST_INFO.INFO, MEM.UE_LATEST_TIME,
      MEM.CH_CNT.CE, MEM.SRAM_CNT.CE, AT.VIO_STATUS.FIRST_VALID, AT.VIO_FIRST_ADDR, AT.VIO_FIRST_INFO.MASTER,
      AT.VIO_FIRST_TIME, AT.VIO_LATEST_ADDR, AT.VIO_LATEST_INFO.INFO, AT.VIO_LATEST_TIME, REC.QUEUE.VALUE, REC.EVT_TOTAL] [.direct] := by
  unfold execObsLate; (repeat' split) <;> (refine ⟨_, rfl, onlyFields_of fun ga ho hs => ?_⟩; simp only [Off_cons, Off_nil] at ho; simp [ho, hs .direct (by simp)])
theorem execObsLaneFence_regs (m : Fin 64) (v : Sys2Proof.Word) (s : State) :
    ∃ t, execObsLaneFence m v s = .next t ∧ OnlyFields s t [TB.SPEED.SPEED, TB.ANGLE, TB.STAMP, TB.STATUS.STATE, SCH.TARGET, SCH.PRED, SCH.RESID.RESID, SCH.STATUS.STATE,
      AX.PWM_DUTY.D, AX.PWM_STATUS.COMMIT_PEND, AX.FOC_IQ_REF.VALUE, AX.FOC_VD_MAN.VALUE, AX.FOC_VQ_MAN.VALUE,
      AX.FOC_STATUS.SECTOR, AX.FOC_VBUS.VBUS, AX.SPD_REF.REF, AX.SPD_STATUS.AT_TARGET, AX.CMT_STATUS.STATE,
      AX.CMT_CNT.QUALIFIED, AX.CMT_FAIL_CNT.NONE, AX.CMT_CORR.VALUE, AX.CMT_SCORR.VALUE, AX.BUS_ABS.DIQ,
      AX.BUS_STATUS.CFG_REFUSED, AX.OBS_STATUS.MODE, AX.OBS_CNT.EVAL_CNT, AX.OBS_LAST_MISM, AX.OBS_EST_THETA.THETA,
      AX.OBS_EST_OMEGA.OMEGA, AX.OBS_EST_T.T_W, AX.OBS_EST_LOAD.LOAD, AX.OBS_EST_STAMP, AX.OBS_EST_SRC.SRC, OBS.LANES.USABLE,
      OBS.LANE_FENCE.FENCE, OBS.PLAN.SUM, OBS.PPLAN.SUM, OBS.STATUS.DEMOTE, BAB.IN_STATUS.STATE, BAB.IN_POS,
      MEM.CH_RETIRE.RETIRE, MEM.ECC_STATUS.CE, MEM.UE_FIRST_ADDR, MEM.UE_FIRST_INFO.MASTER, MEM.UE_FIRST_TIME,
      MEM.UE_LATEST_ADDR, MEM.UE_LATEST_INFO.INFO, MEM.UE_LATEST_TIME, MEM.CH_CNT.CE, MEM.SRAM_CNT.CE,
      AT.VIO_STATUS.FIRST_VALID, AT.VIO_FIRST_ADDR, AT.VIO_FIRST_INFO.MASTER, AT.VIO_FIRST_TIME, AT.VIO_LATEST_ADDR,
      AT.VIO_LATEST_INFO.INFO, AT.VIO_LATEST_TIME, REC.QUEUE.VALUE, REC.EVT_TOTAL] [.direct] := by
  refine ⟨_, rfl, onlyFields_of fun ga ho hs => ?_⟩; simp only [Off_cons, Off_nil] at ho; simp [ho, hs .direct (by simp)]
theorem execCmpApply_regs (m : Fin 64) (n : Fin 48) (which : Fin 3) (v : Sys2Proof.Word) (s : State) :
    ∃ t, execCmpApply m n which v s = .next t ∧ OnlyFields s t [AT.VIO_STATUS.FIRST_VALID, AT.VIO_FIRST_ADDR, AT.VIO_FIRST_INFO.MASTER, AT.VIO_FIRST_TIME, AT.VIO_LATEST_ADDR,
      AT.VIO_LATEST_INFO.INFO, AT.VIO_LATEST_TIME, REC.QUEUE.VALUE, REC.EVT_TOTAL] [.compensators] := by
  refine ⟨_, rfl, onlyFields_of fun ga ho hs => ?_⟩; simp only [Off_cons, Off_nil] at ho; simp [ho, hs .compensators (by simp)]
theorem execSpdPreset_regs (m : Fin 64) (n : Fin 48) (v : Sys2Proof.Word) (s : State) :
    ∃ t, execSpdPreset m n v s = .next t ∧ OnlyFields s t [AX.SPD_CTRL.DIV, AT.VIO_STATUS.FIRST_VALID, AT.VIO_FIRST_ADDR, AT.VIO_FIRST_INFO.MASTER, AT.VIO_FIRST_TIME,
      AT.VIO_LATEST_ADDR, AT.VIO_LATEST_INFO.INFO, AT.VIO_LATEST_TIME, REC.QUEUE.VALUE, REC.EVT_TOTAL] := by
  refine ⟨_, rfl, onlyFields_of fun ga ho hs => ?_⟩; simp only [Off_cons, Off_nil] at ho; simp [ho]
theorem execPwmPeriodBoundary_regs (n : Fin 48) (s : State) :
    ∃ t, execPwmPeriodBoundary n s = .next t ∧ OnlyFields s t [TB.SPEED.SPEED, TB.ANGLE, TB.STAMP, TB.STATUS.STATE, SCH.TARGET, SCH.PRED, SCH.RESID.RESID, SCH.STATUS.STATE,
      AX.PWM_CTRL.EN, AX.PWM_STATUS.COMMIT_PEND, AX.PWM_ACT_PERIOD.TOP, AX.PWM_ACT_W.W, AX.PWM_CARRY.CARRY,
      AX.PWM_LAST_COMMIT, AX.PWM_DLCAL.N, AX.FOC_CTRL.RUN, AX.SPD_DERATE.TQ, AX.CMT_STATUS.STATE, AX.OBS_STATUS.MODE,
      AX.SAF_STATUS.STATE, BAB.IN_STATUS.STATE, BAB.IN_POS, MEM.CH_RETIRE.RETIRE, MEM.ECC_STATUS.CE, MEM.UE_FIRST_ADDR,
      MEM.UE_FIRST_INFO.MASTER, MEM.UE_FIRST_TIME, MEM.UE_LATEST_ADDR, MEM.UE_LATEST_INFO.INFO, MEM.UE_LATEST_TIME,
      MEM.CH_CNT.CE, MEM.SRAM_CNT.CE, AT.VIO_STATUS.FIRST_VALID, AT.VIO_FIRST_ADDR, AT.VIO_FIRST_INFO.MASTER,
      AT.VIO_FIRST_TIME, AT.VIO_LATEST_ADDR, AT.VIO_LATEST_INFO.INFO, AT.VIO_LATEST_TIME, SAF.STATUS.STATE,
      SAF.GROUP_STATE.LOW, SAF.FAULT_LAST.CODE, SAF.FAULT_TIME, REC.QUEUE.VALUE, REC.EVT_TOTAL] [.direct] := by
  unfold execPwmPeriodBoundary; dsimp only; (repeat' split) <;> (refine ⟨_, rfl, onlyFields_of fun ga ho hs => ?_⟩; simp only [Off_cons, Off_nil] at ho; simp [ho, hs .direct (by simp)])
theorem execAxisEnable_regs (m : Fin 64) (n : Fin 48) (v : Sys2Proof.Word) (s : State) :
    ∃ t, execAxisEnable m n v s = .next t ∧ OnlyFields s t [AX.PWM_CTRL.EN, AX.PWM_STATUS.COMMIT_PEND, AX.PWM_CARRY.CARRY, AX.CMT_STATUS.STATE, AX.CMT_CORR.VALUE,
      AX.CMT_SCORR.VALUE, AX.OBS_STATUS.MODE, AT.VIO_STATUS.FIRST_VALID, AT.VIO_FIRST_ADDR, AT.VIO_FIRST_INFO.MASTER,
      AT.VIO_FIRST_TIME, AT.VIO_LATEST_ADDR, AT.VIO_LATEST_INFO.INFO, AT.VIO_LATEST_TIME, REC.QUEUE.VALUE, REC.EVT_TOTAL] := by
  refine ⟨_, rfl, onlyFields_of fun ga ho hs => ?_⟩; simp only [Off_cons, Off_nil] at ho; simp [ho]
theorem execAxisDisable_regs (m : Fin 64) (n : Fin 48) (v : Sys2Proof.Word) (s : State) :
    ∃ t, execAxisDisable m n v s = .next t ∧ OnlyFields s t [AX.PWM_CTRL.EN, AX.PWM_STATUS.COMMIT_PEND, AX.PWM_CARRY.CARRY, AX.CMT_STATUS.STATE, AX.CMT_CORR.VALUE,
      AX.CMT_SCORR.VALUE, AX.OBS_STATUS.MODE, AT.VIO_STATUS.FIRST_VALID, AT.VIO_FIRST_ADDR, AT.VIO_FIRST_INFO.MASTER,
      AT.VIO_FIRST_TIME, AT.VIO_LATEST_ADDR, AT.VIO_LATEST_INFO.INFO, AT.VIO_LATEST_TIME, REC.QUEUE.VALUE, REC.EVT_TOTAL] := by
  refine ⟨_, rfl, onlyFields_of fun ga ho hs => ?_⟩; simp only [Off_cons, Off_nil] at ho; simp [ho]
theorem execSafeInputChange_regs (k : Fin 16) (chB : Bool) (level : Sys2Proof.PinLevel) (s : State) :
    ∃ t, execSafeInputChange k chB level s = .next t ∧ OnlyFields s t [TB.SPEED.SPEED, TB.ANGLE, TB.STAMP, TB.STATUS.STATE, SCH.TARGET, SCH.PRED, SCH.RESID.RESID, SCH.STATUS.STATE,
      AX.PWM_CTRL.EN, AX.FOC_CTRL.RUN, AX.CMT_STATUS.STATE, AX.SAF_STATUS.STATE, BAB.IN_STATUS.STATE, BAB.IN_POS,
      MEM.CH_RETIRE.RETIRE, MEM.ECC_STATUS.CE, MEM.UE_FIRST_ADDR, MEM.UE_FIRST_INFO.MASTER, MEM.UE_FIRST_TIME,
      MEM.UE_LATEST_ADDR, MEM.UE_LATEST_INFO.INFO, MEM.UE_LATEST_TIME, MEM.CH_CNT.CE, MEM.SRAM_CNT.CE,
      AT.VIO_STATUS.FIRST_VALID, AT.VIO_FIRST_ADDR, AT.VIO_FIRST_INFO.MASTER, AT.VIO_FIRST_TIME, AT.VIO_LATEST_ADDR,
      AT.VIO_LATEST_INFO.INFO, AT.VIO_LATEST_TIME, SAF.SI_STATE.LOW, SAF.GROUP_STATE.LOW, REC.QUEUE.VALUE, REC.EVT_TOTAL] [.direct] := by
  unfold execSafeInputChange; (repeat' split) <;> (refine ⟨_, rfl, onlyFields_of fun ga ho hs => ?_⟩; simp only [Off_cons, Off_nil] at ho; simp [ho, hs .direct (by simp)])
theorem execSiDisc_regs (k : Fin 16) (s : State) :
    ∃ t, execSiDisc k s = .next t ∧ OnlyFields s t [TB.SPEED.SPEED, TB.ANGLE, TB.STAMP, TB.STATUS.STATE, SCH.TARGET, SCH.PRED, SCH.RESID.RESID, SCH.STATUS.STATE,
      AX.PWM_CTRL.EN, AX.FOC_CTRL.RUN, AX.SPD_DERATE.TQ, AX.CMT_STATUS.STATE, AX.SAF_STATUS.STATE, BAB.IN_STATUS.STATE,
      BAB.IN_POS, MEM.CH_RETIRE.RETIRE, MEM.ECC_STATUS.CE, MEM.UE_FIRST_ADDR, MEM.UE_FIRST_INFO.MASTER, MEM.UE_FIRST_TIME,
      MEM.UE_LATEST_ADDR, MEM.UE_LATEST_INFO.INFO, MEM.UE_LATEST_TIME, MEM.CH_CNT.CE, MEM.SRAM_CNT.CE,
      AT.VIO_STATUS.FIRST_VALID, AT.VIO_FIRST_ADDR, AT.VIO_FIRST_INFO.MASTER, AT.VIO_FIRST_TIME, AT.VIO_LATEST_ADDR,
      AT.VIO_LATEST_INFO.INFO, AT.VIO_LATEST_TIME, SAF.STATUS.STATE, SAF.SI_STATE.LOW, SAF.GROUP_STATE.LOW,
      SAF.FAULT_LAST.CODE, SAF.FAULT_TIME, REC.QUEUE.VALUE, REC.EVT_TOTAL] [.direct] := by
  unfold execSiDisc; (repeat' split) <;> (refine ⟨_, rfl, onlyFields_of fun ga ho hs => ?_⟩; simp only [Off_cons, Off_nil] at ho; simp [ho, hs .direct (by simp)])
theorem execStoReqWrite_regs (m : Fin 64) (v : Sys2Proof.Word) (s : State) :
    ∃ t, execStoReqWrite m v s = .next t ∧ OnlyFields s t [TB.SPEED.SPEED, TB.ANGLE, TB.STAMP, TB.STATUS.STATE, SCH.TARGET, SCH.PRED, SCH.RESID.RESID, SCH.STATUS.STATE,
      AX.PWM_CTRL.EN, AX.CMT_STATUS.STATE, AX.SAF_STATUS.STATE, BAB.IN_STATUS.STATE, BAB.IN_POS, MEM.CH_RETIRE.RETIRE,
      MEM.ECC_STATUS.CE, MEM.UE_FIRST_ADDR, MEM.UE_FIRST_INFO.MASTER, MEM.UE_FIRST_TIME, MEM.UE_LATEST_ADDR,
      MEM.UE_LATEST_INFO.INFO, MEM.UE_LATEST_TIME, MEM.CH_CNT.CE, MEM.SRAM_CNT.CE, AT.VIO_STATUS.FIRST_VALID,
      AT.VIO_FIRST_ADDR, AT.VIO_FIRST_INFO.MASTER, AT.VIO_FIRST_TIME, AT.VIO_LATEST_ADDR, AT.VIO_LATEST_INFO.INFO,
      AT.VIO_LATEST_TIME, SAF.STO_REQ.GROUPS, SAF.GROUP_STATE.LOW, REC.QUEUE.VALUE, REC.EVT_TOTAL] [.direct] := by
  refine ⟨_, rfl, onlyFields_of fun ga ho hs => ?_⟩; simp only [Off_cons, Off_nil] at ho; simp [ho, hs .direct (by simp)]
theorem execSafAckGroups_regs (m : Fin 64) (v : Sys2Proof.Word) (s : State) :
    ∃ t, execSafAckGroups m v s = .next t ∧ OnlyFields s t [AX.SAF_STATUS.STATE, AT.VIO_STATUS.FIRST_VALID, AT.VIO_FIRST_ADDR, AT.VIO_FIRST_INFO.MASTER, AT.VIO_FIRST_TIME,
      AT.VIO_LATEST_ADDR, AT.VIO_LATEST_INFO.INFO, AT.VIO_LATEST_TIME, SAF.GROUP_STATE.LOW, REC.QUEUE.VALUE, REC.EVT_TOTAL] := by
  refine ⟨_, rfl, onlyFields_of fun ga ho hs => ?_⟩; simp only [Off_cons, Off_nil] at ho; simp [ho]
theorem execSafAckFaults_regs (m : Fin 64) (v : Sys2Proof.Word) (s : State) :
    ∃ t, execSafAckFaults m v s = .next t ∧ OnlyFields s t [AX.SAF_STATUS.STATE, AT.VIO_STATUS.FIRST_VALID, AT.VIO_FIRST_ADDR, AT.VIO_FIRST_INFO.MASTER, AT.VIO_FIRST_TIME,
      AT.VIO_LATEST_ADDR, AT.VIO_LATEST_INFO.INFO, AT.VIO_LATEST_TIME, SAF.GROUP_STATE.LOW, REC.QUEUE.VALUE, REC.EVT_TOTAL] := by
  refine ⟨_, rfl, onlyFields_of fun ga ho hs => ?_⟩; simp only [Off_cons, Off_nil] at ho; simp [ho]
theorem execStoTestPulse_regs (g : Fin 16) (chB : Bool) (start : Bool) (s : State) :
    ∃ t, execStoTestPulse g chB start s = .next t ∧ OnlyFields s t [] := by
  unfold execStoTestPulse; dsimp only; (repeat' split) <;> (refine ⟨_, rfl, onlyFields_of fun ga ho hs => ?_⟩; simp)
theorem execStoReadbackMismatch_regs (g : Fin 16) (at_ : Sys2Proof.StoReadback) (s : State) :
    ∃ t, execStoReadbackMismatch g at_ s = .next t ∧ OnlyFields s t [TB.SPEED.SPEED, TB.ANGLE, TB.STAMP, TB.STATUS.STATE, SCH.TARGET, SCH.PRED, SCH.RESID.RESID, SCH.STATUS.STATE,
      AX.PWM_CTRL.EN, AX.FOC_CTRL.RUN, AX.SPD_DERATE.TQ, AX.CMT_STATUS.STATE, AX.SAF_STATUS.STATE, BAB.IN_STATUS.STATE,
      BAB.IN_POS, MEM.CH_RETIRE.RETIRE, MEM.ECC_STATUS.CE, MEM.UE_FIRST_ADDR, MEM.UE_FIRST_INFO.MASTER, MEM.UE_FIRST_TIME,
      MEM.UE_LATEST_ADDR, MEM.UE_LATEST_INFO.INFO, MEM.UE_LATEST_TIME, MEM.CH_CNT.CE, MEM.SRAM_CNT.CE,
      AT.VIO_STATUS.FIRST_VALID, AT.VIO_FIRST_ADDR, AT.VIO_FIRST_INFO.MASTER, AT.VIO_FIRST_TIME, AT.VIO_LATEST_ADDR,
      AT.VIO_LATEST_INFO.INFO, AT.VIO_LATEST_TIME, SAF.STATUS.STATE, SAF.GROUP_STATE.LOW, SAF.FAULT_LAST.CODE,
      SAF.FAULT_TIME, REC.QUEUE.VALUE, REC.EVT_TOTAL] [.direct] := by
  refine ⟨_, rfl, onlyFields_of fun ga ho hs => ?_⟩; simp only [Off_cons, Off_nil] at ho; simp [ho, hs .direct (by simp)]
theorem execHeartbeatLoss_regs (s : State) :
    ∃ t, execHeartbeatLoss s = .next t ∧ OnlyFields s t [] := by
  refine ⟨_, rfl, onlyFields_of fun ga ho hs => ?_⟩; simp
theorem execClock_regs (dev : Sys2Proof.ClockDev) (s : State) :
    ∃ t, execClock dev s = .next t ∧ OnlyFields s t [TB.SPEED.SPEED, TB.ANGLE, TB.STAMP, TB.STATUS.STATE, SCH.TARGET, SCH.PRED, SCH.RESID.RESID, SCH.STATUS.STATE,
      AX.PWM_CTRL.EN, AX.FOC_CTRL.RUN, AX.SPD_DERATE.TQ, AX.CMT_STATUS.STATE, AX.SAF_STATUS.STATE, BAB.IN_STATUS.STATE,
      BAB.IN_POS, MEM.CH_RETIRE.RETIRE, MEM.ECC_STATUS.CE, MEM.UE_FIRST_ADDR, MEM.UE_FIRST_INFO.MASTER, MEM.UE_FIRST_TIME,
      MEM.UE_LATEST_ADDR, MEM.UE_LATEST_INFO.INFO, MEM.UE_LATEST_TIME, MEM.CH_CNT.CE, MEM.SRAM_CNT.CE,
      AT.VIO_STATUS.FIRST_VALID, AT.VIO_FIRST_ADDR, AT.VIO_FIRST_INFO.MASTER, AT.VIO_FIRST_TIME, AT.VIO_LATEST_ADDR,
      AT.VIO_LATEST_INFO.INFO, AT.VIO_LATEST_TIME, SAF.STATUS.STATE, SAF.GROUP_STATE.LOW, SAF.FAULT_LAST.CODE,
      SAF.FAULT_TIME, REC.QUEUE.VALUE, REC.EVT_TOTAL] [.direct] := by
  refine ⟨_, rfl, onlyFields_of fun ga ho hs => ?_⟩; simp only [Off_cons, Off_nil] at ho; simp [ho, hs .direct (by simp)]
theorem execSafCfgWrite_regs (m : Fin 64) (v : Sys2Proof.Word) (s : State) :
    ∃ t, execSafCfgWrite m v s = .next t ∧ OnlyFields s t [AT.VIO_STATUS.FIRST_VALID, AT.VIO_FIRST_ADDR, AT.VIO_FIRST_INFO.MASTER, AT.VIO_FIRST_TIME, AT.VIO_LATEST_ADDR,
      AT.VIO_LATEST_INFO.INFO, AT.VIO_LATEST_TIME, SAF.STATUS.STATE, SAF.CFG.FTTI, REC.QUEUE.VALUE, REC.EVT_TOTAL] := by
  refine ⟨_, rfl, onlyFields_of fun ga ho hs => ?_⟩; simp only [Off_cons, Off_nil] at ho; simp [ho]
theorem execSafLock_regs (m : Fin 64) (v : Sys2Proof.Word) (s : State) :
    ∃ t, execSafLock m v s = .next t ∧ OnlyFields s t [AT.VIO_STATUS.FIRST_VALID, AT.VIO_FIRST_ADDR, AT.VIO_FIRST_INFO.MASTER, AT.VIO_FIRST_TIME, AT.VIO_LATEST_ADDR,
      AT.VIO_LATEST_INFO.INFO, AT.VIO_LATEST_TIME, SAF.CTRL.LOCK, SAF.STATUS.STATE, SAF.CFG_CRC_CALC.VALUE, REC.QUEUE.VALUE,
      REC.EVT_TOTAL] := by
  refine ⟨_, rfl, onlyFields_of fun ga ho hs => ?_⟩; simp only [Off_cons, Off_nil] at ho; simp [ho]
theorem execTestSliceStart_regs (s : State) :
    ∃ t, execTestSliceStart s = .next t ∧ OnlyFields s t [OBS.LANES.USABLE, INF.ENG_STATUS.USABLE, ENG.STATUS.HOSTS] := by
  unfold execTestSliceStart; (repeat' split) <;> (refine ⟨_, rfl, onlyFields_of fun ga ho hs => ?_⟩; simp only [Off_cons, Off_nil] at ho; simp [ho])
theorem execTestSliceComplete_regs (u : Fin 24) (pass : Bool) (s : State) :
    ∃ t, execTestSliceComplete u pass s = .next t ∧ OnlyFields s t [TB.SPEED.SPEED, TB.ANGLE, TB.STAMP, TB.STATUS.STATE, SCH.TARGET, SCH.PRED, SCH.RESID.RESID, SCH.STATUS.STATE,
      AX.PWM_CTRL.EN, AX.PWM_DUTY.D, AX.PWM_STATUS.COMMIT_PEND, AX.FOC_CTRL.RUN, AX.FOC_IQ_REF.VALUE, AX.FOC_VD_MAN.VALUE,
      AX.FOC_VQ_MAN.VALUE, AX.FOC_STATUS.SECTOR, AX.FOC_VBUS.VBUS, AX.SPD_REF.REF, AX.SPD_STATUS.AT_TARGET, AX.SPD_DERATE.TQ,
      AX.CMT_STATUS.STATE, AX.CMT_CNT.QUALIFIED, AX.CMT_FAIL_CNT.NONE, AX.CMT_CORR.VALUE, AX.CMT_SCORR.VALUE, AX.BUS_ABS.DIQ,
      AX.BUS_STATUS.CFG_REFUSED, AX.OBS_STATUS.MODE, AX.OBS_CNT.EVAL_CNT, AX.OBS_LAST_MISM, AX.OBS_EST_THETA.THETA,
      AX.OBS_EST_OMEGA.OMEGA, AX.OBS_EST_T.T_W, AX.OBS_EST_LOAD.LOAD, AX.OBS_EST_STAMP, AX.OBS_EST_SRC.SRC,
      AX.SAF_STATUS.STATE, OBS.LANES.USABLE, OBS.PLAN.SUM, OBS.PPLAN.SUM, OBS.STATUS.DEMOTE, INF.ENG_MAP.MAP,
      INF.ENG_STATUS.USABLE, INF.STATUS.UNAVAIL, ENG.STATUS.HOSTS, CTX.STATUS.STATE, BAB.IN_STATUS.STATE, BAB.IN_POS,
      MEM.CH_RETIRE.RETIRE, MEM.ECC_STATUS.CE, MEM.UE_FIRST_ADDR, MEM.UE_FIRST_INFO.MASTER, MEM.UE_FIRST_TIME,
      MEM.UE_LATEST_ADDR, MEM.UE_LATEST_INFO.INFO, MEM.UE_LATEST_TIME, MEM.CH_CNT.CE, MEM.SRAM_CNT.CE,
      AT.VIO_STATUS.FIRST_VALID, AT.VIO_FIRST_ADDR, AT.VIO_FIRST_INFO.MASTER, AT.VIO_FIRST_TIME, AT.VIO_LATEST_ADDR,
      AT.VIO_LATEST_INFO.INFO, AT.VIO_LATEST_TIME, SAF.STATUS.STATE, SAF.GROUP_STATE.LOW, SAF.FAULT_LAST.CODE,
      SAF.FAULT_TIME, AGE.FAIL_CNT.FAIL_CNT, REC.QUEUE.VALUE, REC.EVT_TOTAL] [.direct] := by
  unfold execTestSliceComplete; (repeat' split) <;> (refine ⟨_, rfl, onlyFields_of fun ga ho hs => ?_⟩; simp only [Off_cons, Off_nil] at ho; simp [ho, hs .direct (by simp)])
theorem execTestRestoreDone_regs (u : Fin 24) (s : State) :
    ∃ t, execTestRestoreDone u s = .next t ∧ OnlyFields s t [OBS.LANES.USABLE, INF.ENG_STATUS.USABLE, ENG.STATUS.HOSTS] := by
  unfold execTestRestoreDone; (repeat' split) <;> (refine ⟨_, rfl, onlyFields_of fun ga ho hs => ?_⟩; simp only [Off_cons, Off_nil] at ho; simp [ho])
theorem execTestDeadline_regs (u : Fin 24) (s : State) :
    ∃ t, execTestDeadline u s = .next t ∧ OnlyFields s t [TB.SPEED.SPEED, TB.ANGLE, TB.STAMP, TB.STATUS.STATE, SCH.TARGET, SCH.PRED, SCH.RESID.RESID, SCH.STATUS.STATE,
      AX.PWM_CTRL.EN, AX.PWM_DUTY.D, AX.PWM_STATUS.COMMIT_PEND, AX.FOC_CTRL.RUN, AX.FOC_IQ_REF.VALUE, AX.FOC_VD_MAN.VALUE,
      AX.FOC_VQ_MAN.VALUE, AX.FOC_STATUS.SECTOR, AX.FOC_VBUS.VBUS, AX.SPD_REF.REF, AX.SPD_STATUS.AT_TARGET, AX.SPD_DERATE.TQ,
      AX.CMT_STATUS.STATE, AX.CMT_CNT.QUALIFIED, AX.CMT_FAIL_CNT.NONE, AX.CMT_CORR.VALUE, AX.CMT_SCORR.VALUE, AX.BUS_ABS.DIQ,
      AX.BUS_STATUS.CFG_REFUSED, AX.OBS_STATUS.MODE, AX.OBS_CNT.EVAL_CNT, AX.OBS_LAST_MISM, AX.OBS_EST_THETA.THETA,
      AX.OBS_EST_OMEGA.OMEGA, AX.OBS_EST_T.T_W, AX.OBS_EST_LOAD.LOAD, AX.OBS_EST_STAMP, AX.OBS_EST_SRC.SRC,
      AX.SAF_STATUS.STATE, OBS.LANES.USABLE, OBS.PLAN.SUM, OBS.PPLAN.SUM, OBS.STATUS.DEMOTE, INF.ENG_MAP.MAP,
      INF.ENG_STATUS.USABLE, INF.STATUS.UNAVAIL, ENG.STATUS.HOSTS, CTX.STATUS.STATE, BAB.IN_STATUS.STATE, BAB.IN_POS,
      MEM.CH_RETIRE.RETIRE, MEM.ECC_STATUS.CE, MEM.UE_FIRST_ADDR, MEM.UE_FIRST_INFO.MASTER, MEM.UE_FIRST_TIME,
      MEM.UE_LATEST_ADDR, MEM.UE_LATEST_INFO.INFO, MEM.UE_LATEST_TIME, MEM.CH_CNT.CE, MEM.SRAM_CNT.CE,
      AT.VIO_STATUS.FIRST_VALID, AT.VIO_FIRST_ADDR, AT.VIO_FIRST_INFO.MASTER, AT.VIO_FIRST_TIME, AT.VIO_LATEST_ADDR,
      AT.VIO_LATEST_INFO.INFO, AT.VIO_LATEST_TIME, SAF.STATUS.STATE, SAF.GROUP_STATE.LOW, SAF.FAULT_LAST.CODE,
      SAF.FAULT_TIME, AGE.FAIL_CNT.FAIL_CNT, REC.QUEUE.VALUE, REC.EVT_TOTAL] [.direct] := by
  unfold execTestDeadline; dsimp only; (repeat' split) <;> (refine ⟨_, rfl, onlyFields_of fun ga ho hs => ?_⟩; simp only [Off_cons, Off_nil] at ho; simp [ho, hs .direct (by simp)])
theorem execSafEnterRun_regs (s : State) :
    ∃ t, execSafEnterRun s = .next t ∧ OnlyFields s t [SAF.STATUS.STATE] := by
  unfold execSafEnterRun; (repeat' split) <;> (refine ⟨_, rfl, onlyFields_of fun ga ho hs => ?_⟩; simp only [Off_cons, Off_nil] at ho; simp [ho])
theorem execSs1Timeout_regs (n : Fin 48) (s : State) :
    ∃ t, execSs1Timeout n s = .next t ∧ OnlyFields s t [TB.SPEED.SPEED, TB.ANGLE, TB.STAMP, TB.STATUS.STATE, SCH.TARGET, SCH.PRED, SCH.RESID.RESID, SCH.STATUS.STATE,
      AX.PWM_CTRL.EN, AX.CMT_STATUS.STATE, AX.SAF_STATUS.STATE, BAB.IN_STATUS.STATE, BAB.IN_POS, MEM.CH_RETIRE.RETIRE,
      MEM.ECC_STATUS.CE, MEM.UE_FIRST_ADDR, MEM.UE_FIRST_INFO.MASTER, MEM.UE_FIRST_TIME, MEM.UE_LATEST_ADDR,
      MEM.UE_LATEST_INFO.INFO, MEM.UE_LATEST_TIME, MEM.CH_CNT.CE, MEM.SRAM_CNT.CE, AT.VIO_STATUS.FIRST_VALID,
      AT.VIO_FIRST_ADDR, AT.VIO_FIRST_INFO.MASTER, AT.VIO_FIRST_TIME, AT.VIO_LATEST_ADDR, AT.VIO_LATEST_INFO.INFO,
      AT.VIO_LATEST_TIME, SAF.GROUP_STATE.LOW, REC.QUEUE.VALUE, REC.EVT_TOTAL] [.direct] := by
  unfold execSs1Timeout; (repeat' split) <;> (refine ⟨_, rfl, onlyFields_of fun ga ho hs => ?_⟩; simp only [Off_cons, Off_nil] at ho; simp [ho, hs .direct (by simp)])
theorem execSafetyWindow_regs (bad : List (Fin 116)) (s : State) :
    ∃ t, execSafetyWindow bad s = .next t ∧ OnlyFields s t [TB.SPEED.SPEED, TB.ANGLE, TB.STAMP, TB.STATUS.STATE, SCH.TARGET, SCH.PRED, SCH.RESID.RESID, SCH.STATUS.STATE,
      AX.PWM_CTRL.EN, AX.PWM_DUTY.D, AX.PWM_STATUS.COMMIT_PEND, AX.ADC_HEALTH.FAIL, AX.FOC_CTRL.RUN, AX.FOC_IQ_REF.VALUE,
      AX.FOC_VD_MAN.VALUE, AX.FOC_VQ_MAN.VALUE, AX.FOC_STATUS.SECTOR, AX.FOC_VBUS.VBUS, AX.SPD_REF.REF,
      AX.SPD_STATUS.AT_TARGET, AX.SPD_DERATE.TQ, AX.CMT_STATUS.STATE, AX.CMT_CNT.QUALIFIED, AX.CMT_FAIL_CNT.NONE,
      AX.CMT_CORR.VALUE, AX.CMT_SCORR.VALUE, AX.BUS_ABS.DIQ, AX.BUS_STATUS.CFG_REFUSED, AX.OBS_STATUS.MODE,
      AX.OBS_CNT.EVAL_CNT, AX.OBS_LAST_MISM, AX.OBS_EST_THETA.THETA, AX.OBS_EST_OMEGA.OMEGA, AX.OBS_EST_T.T_W,
      AX.OBS_EST_LOAD.LOAD, AX.OBS_EST_STAMP, AX.OBS_EST_SRC.SRC, AX.SAF_STATUS.STATE, AX.SAF_SPEED.SPEED,
      BUS.STATUS.CHOP_ON, BUS.CHOP_FAULT_TIME, OBS.LANES.USABLE, OBS.PLAN.SUM, OBS.PPLAN.SUM, OBS.STATUS.DEMOTE,
      BAB.IN_STATUS.STATE, BAB.IN_POS, MEM.CH_RETIRE.RETIRE, MEM.ECC_STATUS.CE, MEM.UE_FIRST_ADDR, MEM.UE_FIRST_INFO.MASTER,
      MEM.UE_FIRST_TIME, MEM.UE_LATEST_ADDR, MEM.UE_LATEST_INFO.INFO, MEM.UE_LATEST_TIME, MEM.CH_CNT.CE, MEM.SRAM_CNT.CE,
      AT.VIO_STATUS.FIRST_VALID, AT.VIO_FIRST_ADDR, AT.VIO_FIRST_INFO.MASTER, AT.VIO_FIRST_TIME, AT.VIO_LATEST_ADDR,
      AT.VIO_LATEST_INFO.INFO, AT.VIO_LATEST_TIME, SAF.STATUS.STATE, SAF.GROUP_STATE.LOW, SAF.FAULT_LAST.CODE,
      SAF.FAULT_TIME, SAF.TEST_STATUS.ABORT_CNT, REC.QUEUE.VALUE, REC.EVT_TOTAL] [.direct] := by
  unfold execSafetyWindow; (repeat' split) <;> (refine ⟨_, rfl, onlyFields_of fun ga ho hs => ?_⟩; simp only [Off_cons, Off_nil] at ho; simp [ho, hs .direct (by simp)])
theorem execShadow_regs (n : Fin 48) (ts : Nat) (ia : Int) (ib : Int) (ua : Int) (ub : Int) (bus : Fin 65536) (s : State) :
    ∃ t, execShadow n ts ia ib ua ub bus s = .next t ∧ OnlyFields s t [] := by
  unfold execShadow; (repeat' split) <;> (refine ⟨_, rfl, onlyFields_of fun ga ho hs => ?_⟩; simp)
theorem execSafety_regs (speeds : List (Fin 48 × Sys2Proof.Word)) (sto : Sys2Proof.PeerStates) (s : State) :
    ∃ t, execSafety speeds sto s = .next t ∧ OnlyFields s t [TB.SPEED.SPEED, TB.ANGLE, TB.STAMP, TB.STATUS.STATE, SCH.TARGET, SCH.PRED, SCH.RESID.RESID, SCH.STATUS.STATE,
      AX.PWM_CTRL.EN, AX.CMT_STATUS.STATE, AX.SAF_STATUS.STATE, BAB.IN_STATUS.STATE, BAB.IN_POS, MEM.CH_RETIRE.RETIRE,
      MEM.ECC_STATUS.CE, MEM.UE_FIRST_ADDR, MEM.UE_FIRST_INFO.MASTER, MEM.UE_FIRST_TIME, MEM.UE_LATEST_ADDR,
      MEM.UE_LATEST_INFO.INFO, MEM.UE_LATEST_TIME, MEM.CH_CNT.CE, MEM.SRAM_CNT.CE, AT.VIO_STATUS.FIRST_VALID,
      AT.VIO_FIRST_ADDR, AT.VIO_FIRST_INFO.MASTER, AT.VIO_FIRST_TIME, AT.VIO_LATEST_ADDR, AT.VIO_LATEST_INFO.INFO,
      AT.VIO_LATEST_TIME, SAF.GROUP_STATE.LOW, REC.QUEUE.VALUE, REC.EVT_TOTAL] [.direct] := by
  unfold execSafety; (repeat' split) <;> (refine ⟨_, rfl, onlyFields_of fun ga ho hs => ?_⟩; simp only [Off_cons, Off_nil] at ho; simp [ho, hs .direct (by simp)])
theorem execDelayMonitorMeasure_regs (slack : List Int) (s : State) :
    ∃ t, execDelayMonitorMeasure slack s = .next t ∧ OnlyFields s t [AGE.STATUS.MODE, AGE.SMIN.SLACK, AGE.MON.SLACK, REC.QUEUE.VALUE, REC.EVT_TOTAL] := by
  unfold execDelayMonitorMeasure; dsimp only; (repeat' split) <;> (refine ⟨_, rfl, onlyFields_of fun ga ho hs => ?_⟩; simp only [Off_cons, Off_nil] at ho; simp [ho])
theorem execReplan_regs (dl : List Int) (ref : List Int) (ack : Bool) (s : State) :
    ∃ t, execReplan dl ref ack s = .next t ∧ OnlyFields s t [AGE.STATUS.MODE, AGE.VREQ.V_REQ, AGE.SMIN.SLACK, AGE.DL_CORR.CORR, REC.QUEUE.VALUE, REC.EVT_TOTAL] := by
  refine ⟨_, rfl, onlyFields_of fun ga ho hs => ?_⟩; simp only [Off_cons, Off_nil] at ho; simp [ho]
theorem execAgeReplan_regs (m : Fin 64) (v : Sys2Proof.Word) (dl : List Int) (ref : List Int) (ack : Bool) (s : State) :
    ∃ t, execAgeReplan m v dl ref ack s = .next t ∧ OnlyFields s t [AT.VIO_STATUS.FIRST_VALID, AT.VIO_FIRST_ADDR, AT.VIO_FIRST_INFO.MASTER, AT.VIO_FIRST_TIME, AT.VIO_LATEST_ADDR,
      AT.VIO_LATEST_INFO.INFO, AT.VIO_LATEST_TIME, AGE.STATUS.MODE, AGE.VREQ.V_REQ, AGE.SMIN.SLACK, AGE.DL_CORR.CORR,
      REC.QUEUE.VALUE, REC.EVT_TOTAL] := by
  refine ⟨_, rfl, onlyFields_of fun ga ho hs => ?_⟩; simp only [Off_cons, Off_nil] at ho; simp [ho]
theorem execSvcCmd_regs (m : Fin 64) (v : Sys2Proof.Word) (s : State) :
    ∃ t, execSvcCmd m v s = .next t ∧ OnlyFields s t [MEM.CH_RETIRE.RETIRE, AT.VIO_STATUS.FIRST_VALID, AT.VIO_FIRST_ADDR, AT.VIO_FIRST_INFO.MASTER, AT.VIO_FIRST_TIME,
      AT.VIO_LATEST_ADDR, AT.VIO_LATEST_INFO.INFO, AT.VIO_LATEST_TIME, AGE.STATUS.MODE, AGE.PFENCE.PFENCE, AGE.PFENCE_AX,
      REC.QUEUE.VALUE, REC.EVT_TOTAL] := by
  refine ⟨_, rfl, onlyFields_of fun ga ho hs => ?_⟩; simp only [Off_cons, Off_nil] at ho; simp [ho]
theorem execPatrolScrub_regs (a : Nat) (errs : List (Nat × Nat)) (s : State) :
    ∃ t, execPatrolScrub a errs s = .next t ∧ OnlyFields s t [MEM.CH_RETIRE.RETIRE, MEM.ECC_STATUS.CE, MEM.UE_FIRST_ADDR, MEM.UE_FIRST_INFO.MASTER, MEM.UE_FIRST_TIME,
      MEM.UE_LATEST_ADDR, MEM.UE_LATEST_INFO.INFO, MEM.UE_LATEST_TIME, MEM.CH_CNT.CE, MEM.SRAM_CNT.CE, REC.QUEUE.VALUE,
      REC.EVT_TOTAL] := by
  unfold execPatrolScrub; (try dsimp only); (repeat' (split <;> try (rename_i heq; have hs := congrArg (fun x => x.1) heq; simp only at hs; subst hs))) <;> (refine ⟨_, rfl, onlyFields_of fun ga ho hs => ?_⟩; simp only [Off_cons, Off_nil] at ho; simp [ho])
theorem execAtWindowWrite_regs (m : Fin 64) (t_ : Fin 10) (k : Fin 1024) (w : Fin 3) (v : Sys2Proof.Word) (s : State) :
    ∃ t, execAtWindowWrite m t_ k w v s = .next t ∧ OnlyFields s t [AT.VIO_STATUS.FIRST_VALID, AT.VIO_FIRST_ADDR, AT.VIO_FIRST_INFO.MASTER, AT.VIO_FIRST_TIME, AT.VIO_LATEST_ADDR,
      AT.VIO_LATEST_INFO.INFO, AT.VIO_LATEST_TIME, AT.WIN_BASE.BASE, AT.WIN_LIMIT.LIMIT, AT.WIN_ATTR.EN, REC.QUEUE.VALUE,
      REC.EVT_TOTAL] := by
  refine ⟨_, rfl, onlyFields_of fun ga ho hs => ?_⟩
  simp only [Off_cons, Off_nil] at ho
  have hn : ga ≠ AT.WIN_BASE.BASE.addr t_ k + 4 * w := by
    intro e
    have e1 : ga = AT.WIN_BASE.BASE.addr t_ k ∨ ga = AT.WIN_LIMIT.LIMIT.addr t_ k ∨ ga = AT.WIN_ATTR.EN.addr t_ k := by
      have := w.isLt
      simp only [RF.addr, AT.WIN_BASE.BASE, AT.WIN_LIMIT.LIMIT, AT.WIN_ATTR.EN] at e ⊢; omega
    rcases e1 with e | e | e
    · exact absurd ⟨t_, k, .inl e⟩ (by simp [ho] : ¬IsReg AT.WIN_BASE.BASE ga)
    · exact absurd ⟨t_, k, .inl e⟩ (by simp [ho] : ¬IsReg AT.WIN_LIMIT.LIMIT ga)
    · exact absurd ⟨t_, k, .inl e⟩ (by simp [ho] : ¬IsReg AT.WIN_ATTR.EN ga)
  exact State.busWriteWith_regs _ _ _ _ _ _ (by simp [ho]) (State.fxAtWin_regs _ _ _ _ _ hn)
theorem execAtCtrlLock_regs (m : Fin 64) (t_ : Fin 10) (v : Sys2Proof.Word) (s : State) :
    ∃ t, execAtCtrlLock m t_ v s = .next t ∧ OnlyFields s t [AT.CTRL.LOCK, AT.VIO_STATUS.FIRST_VALID, AT.VIO_FIRST_ADDR, AT.VIO_FIRST_INFO.MASTER, AT.VIO_FIRST_TIME,
      AT.VIO_LATEST_ADDR, AT.VIO_LATEST_INFO.INFO, AT.VIO_LATEST_TIME, REC.QUEUE.VALUE, REC.EVT_TOTAL] := by
  refine ⟨_, rfl, onlyFields_of fun ga ho hs => ?_⟩
  simp only [Off_cons, Off_nil] at ho
  exact State.busWriteWith_regs _ _ _ _ _ _ (by simp [ho]) (by simp [ho])
theorem execChRetireWrite_regs (m : Fin 64) (v : Sys2Proof.Word) (s : State) :
    ∃ t, execChRetireWrite m v s = .next t ∧ OnlyFields s t [MEM.CH_RETIRE.RETIRE, AT.VIO_STATUS.FIRST_VALID, AT.VIO_FIRST_ADDR, AT.VIO_FIRST_INFO.MASTER, AT.VIO_FIRST_TIME,
      AT.VIO_LATEST_ADDR, AT.VIO_LATEST_INFO.INFO, AT.VIO_LATEST_TIME, REC.QUEUE.VALUE, REC.EVT_TOTAL] := by
  refine ⟨_, rfl, onlyFields_of fun ga ho hs => ?_⟩
  simp only [Off_cons, Off_nil] at ho
  exact State.busWriteWith_regs _ _ _ _ _ _ (by simp [ho]) (by simp [ho])
theorem execFwLoad_regs (m : Fin 64) (v : Sys2Proof.Word) (s : State) :
    ∃ t, execFwLoad m v s = .next t ∧ OnlyFields s t [AT.VIO_STATUS.FIRST_VALID, AT.VIO_FIRST_ADDR, AT.VIO_FIRST_INFO.MASTER, AT.VIO_FIRST_TIME, AT.VIO_LATEST_ADDR,
      AT.VIO_LATEST_INFO.INFO, AT.VIO_LATEST_TIME, SUP.FW_STATUS.STATE, REC.QUEUE.VALUE, REC.EVT_TOTAL] := by
  refine ⟨_, rfl, onlyFields_of fun ga ho hs => ?_⟩; simp only [Off_cons, Off_nil] at ho; simp [ho]
theorem execFwVerifyDone_regs (s : State) :
    ∃ t, execFwVerifyDone s = .next t ∧ OnlyFields s t [MEM.CH_RETIRE.RETIRE, MEM.ECC_STATUS.CE, MEM.UE_FIRST_ADDR, MEM.UE_FIRST_INFO.MASTER, MEM.UE_FIRST_TIME,
      MEM.UE_LATEST_ADDR, MEM.UE_LATEST_INFO.INFO, MEM.UE_LATEST_TIME, MEM.CH_CNT.CE, MEM.SRAM_CNT.CE,
      AT.VIO_STATUS.FIRST_VALID, AT.VIO_FIRST_ADDR, AT.VIO_FIRST_INFO.MASTER, AT.VIO_FIRST_TIME, AT.VIO_LATEST_ADDR,
      AT.VIO_LATEST_INFO.INFO, AT.VIO_LATEST_TIME, SUP.FW_STATUS.STATE, REC.QUEUE.VALUE, REC.EVT_TOTAL] := by
  unfold execFwVerifyDone; dsimp only; (repeat' split) <;> (refine ⟨_, rfl, onlyFields_of fun ga ho hs => ?_⟩; simp only [Off_cons, Off_nil] at ho; simp [ho])
theorem execFwReady_regs (ok : Bool) (s : State) :
    ∃ t, execFwReady ok s = .next t ∧ OnlyFields s t [SUP.FW_STATUS.STATE, SUP.FW_VER.VALUE, SUP.FW_BUILD.VALUE, SUP.BOOT_CNT.CNT, SUP.FW_TIME, MB.GLOBAL.READY,
      REC.QUEUE.VALUE, REC.EVT_TOTAL] := by
  unfold execFwReady; (repeat' split) <;> (refine ⟨_, rfl, onlyFields_of fun ga ho hs => ?_⟩; simp only [Off_cons, Off_nil] at ho; simp [ho])
theorem execFwTimeout_regs (s : State) :
    ∃ t, execFwTimeout s = .next t ∧ OnlyFields s t [SUP.FW_STATUS.STATE, REC.QUEUE.VALUE, REC.EVT_TOTAL] := by
  unfold execFwTimeout; (repeat' split) <;> (refine ⟨_, rfl, onlyFields_of fun ga ho hs => ?_⟩; simp only [Off_cons, Off_nil] at ho; simp [ho])
theorem execMbRequestWrite_regs (m : Fin 64) (b : Fin 16) (k : Fin 64) (v : Sys2Proof.Word) (s : State) :
    ∃ t, execMbRequestWrite m b k v s = .next t ∧ OnlyFields s t [AT.VIO_STATUS.FIRST_VALID, AT.VIO_FIRST_ADDR, AT.VIO_FIRST_INFO.MASTER, AT.VIO_FIRST_TIME, AT.VIO_LATEST_ADDR,
      AT.VIO_LATEST_INFO.INFO, AT.VIO_LATEST_TIME, MB.REQ.DATA, MB.STATUS.PENDING, REC.QUEUE.VALUE, REC.EVT_TOTAL] := by
  refine ⟨_, rfl, onlyFields_of fun ga ho hs => ?_⟩; simp only [Off_cons, Off_nil] at ho; simp [ho]
theorem execMbDoorbell_regs (m : Fin 64) (b : Fin 16) (v : Sys2Proof.Word) (s : State) :
    ∃ t, execMbDoorbell m b v s = .next t ∧ OnlyFields s t [AT.VIO_STATUS.FIRST_VALID, AT.VIO_FIRST_ADDR, AT.VIO_FIRST_INFO.MASTER, AT.VIO_FIRST_TIME, AT.VIO_LATEST_ADDR,
      AT.VIO_LATEST_INFO.INFO, AT.VIO_LATEST_TIME, MB.STATUS.PENDING, MB.DB_TIME, REC.QUEUE.VALUE, REC.EVT_TOTAL] := by
  refine ⟨_, rfl, onlyFields_of fun ga ho hs => ?_⟩; simp only [Off_cons, Off_nil] at ho; simp [ho]
theorem execMbAck_regs (m : Fin 64) (b : Fin 16) (v : Sys2Proof.Word) (s : State) :
    ∃ t, execMbAck m b v s = .next t ∧ OnlyFields s t [AT.VIO_STATUS.FIRST_VALID, AT.VIO_FIRST_ADDR, AT.VIO_FIRST_INFO.MASTER, AT.VIO_FIRST_TIME, AT.VIO_LATEST_ADDR,
      AT.VIO_LATEST_INFO.INFO, AT.VIO_LATEST_TIME, MB.GLOBAL.READY, MB.STATUS.PENDING, REC.QUEUE.VALUE, REC.EVT_TOTAL] := by
  refine ⟨_, rfl, onlyFields_of fun ga ho hs => ?_⟩; simp only [Off_cons, Off_nil] at ho; simp [ho]
theorem execMbTake_regs (s : State) :
    ∃ t, execMbTake s = .next t ∧ OnlyFields s t [MB.STATUS.PENDING] := by
  unfold execMbTake; (repeat' split) <;> (refine ⟨_, rfl, onlyFields_of fun ga ho hs => ?_⟩; simp only [Off_cons, Off_nil] at ho; simp [ho])
theorem execKeyProg_regs (m : Fin 64) (v : Sys2Proof.Word) (s : State) :
    ∃ t, execKeyProg m v s = .next t ∧ OnlyFields s t [AT.VIO_STATUS.FIRST_VALID, AT.VIO_FIRST_ADDR, AT.VIO_FIRST_INFO.MASTER, AT.VIO_FIRST_TIME, AT.VIO_LATEST_ADDR,
      AT.VIO_LATEST_INFO.INFO, AT.VIO_LATEST_TIME, REC.QUEUE.VALUE, REC.EVT_TOTAL, SEC.FUSE_STATUS.BUSY] := by
  refine ⟨_, rfl, onlyFields_of fun ga ho hs => ?_⟩; simp only [Off_cons, Off_nil] at ho; simp [ho]
theorem execRevoke_regs (m : Fin 64) (v : Sys2Proof.Word) (s : State) :
    ∃ t, execRevoke m v s = .next t ∧ OnlyFields s t [AT.VIO_STATUS.FIRST_VALID, AT.VIO_FIRST_ADDR, AT.VIO_FIRST_INFO.MASTER, AT.VIO_FIRST_TIME, AT.VIO_LATEST_ADDR,
      AT.VIO_LATEST_INFO.INFO, AT.VIO_LATEST_TIME, REC.QUEUE.VALUE, REC.EVT_TOTAL, SEC.FUSE_STATUS.BUSY] := by
  refine ⟨_, rfl, onlyFields_of fun ga ho hs => ?_⟩; simp only [Off_cons, Off_nil] at ho; simp [ho]
theorem execLcCmd_regs (m : Fin 64) (v : Sys2Proof.Word) (s : State) :
    ∃ t, execLcCmd m v s = .next t ∧ OnlyFields s t [AT.VIO_STATUS.FIRST_VALID, AT.VIO_FIRST_ADDR, AT.VIO_FIRST_INFO.MASTER, AT.VIO_FIRST_TIME, AT.VIO_LATEST_ADDR,
      AT.VIO_LATEST_INFO.INFO, AT.VIO_LATEST_TIME, REC.QUEUE.VALUE, REC.EVT_TOTAL, SEC.FUSE_STATUS.BUSY] := by
  refine ⟨_, rfl, onlyFields_of fun ga ho hs => ?_⟩; simp only [Off_cons, Off_nil] at ho; simp [ho]
theorem execFuseDone_regs (s : State) :
    ∃ t, execFuseDone s = .next t ∧ OnlyFields s t [SEC.LC.STATE, SEC.KEY_STATUS.VALID, SEC.FUSE_STATUS.BUSY, SEC.DEV_ID.ID, SEC.ID_PUB.KEY] := by
  unfold execFuseDone; (repeat' split) <;> (refine ⟨_, rfl, onlyFields_of fun ga ho hs => ?_⟩; simp only [Off_cons, Off_nil] at ho; simp [ho])
theorem execBootRom_regs (errA : Bool) (errB : Bool) (s : State) :
    ∃ t, execBootRom errA errB s = .next t ∧ OnlyFields s t [REC.QUEUE.VALUE, REC.EVT_TOTAL, SEC.BOOT_STATUS.SLOT, SEC.LDR_KEY.KEY_ID, SEC.LDR_DIGEST.DIGEST, SEC.DEV_ID.ID,
      SEC.ID_PUB.KEY, PWR.STATE.STATE, PWR.START_STATUS.SELF_OK] := by
  unfold execBootRom; dsimp only; (repeat' split) <;> (refine ⟨_, rfl, onlyFields_of fun ga ho hs => ?_⟩; simp only [Off_cons, Off_nil] at ho; simp [ho])
theorem execDbgChallenge_regs (m : Fin 64) (v : Sys2Proof.Word) (s : State) :
    ∃ t, execDbgChallenge m v s = .next t ∧ OnlyFields s t [AT.VIO_STATUS.FIRST_VALID, AT.VIO_FIRST_ADDR, AT.VIO_FIRST_INFO.MASTER, AT.VIO_FIRST_TIME, AT.VIO_LATEST_ADDR,
      AT.VIO_LATEST_INFO.INFO, AT.VIO_LATEST_TIME, REC.QUEUE.VALUE, REC.EVT_TOTAL, SEC.DBG_CMD.CHAL, SEC.DBG_CHAL.CHAL] := by
  refine ⟨_, rfl, onlyFields_of fun ga ho hs => ?_⟩; simp only [Off_cons, Off_nil] at ho; simp [ho]
theorem execDbgVerify_regs (m : Fin 64) (v : Sys2Proof.Word) (s : State) :
    ∃ t, execDbgVerify m v s = .next t ∧ OnlyFields s t [AT.VIO_STATUS.FIRST_VALID, AT.VIO_FIRST_ADDR, AT.VIO_FIRST_INFO.MASTER, AT.VIO_FIRST_TIME, AT.VIO_LATEST_ADDR,
      AT.VIO_LATEST_INFO.INFO, AT.VIO_LATEST_TIME, REC.QUEUE.VALUE, REC.EVT_TOTAL, SEC.DBG_CMD.CHAL, SEC.DBG_CHAL.CHAL] := by
  refine ⟨_, rfl, onlyFields_of fun ga ho hs => ?_⟩; simp only [Off_cons, Off_nil] at ho; simp [ho]
theorem execDbgVerifyDone_regs (s : State) :
    ∃ t, execDbgVerifyDone s = .next t ∧ OnlyFields s t [MEM.CH_RETIRE.RETIRE, MEM.ECC_STATUS.CE, MEM.UE_FIRST_ADDR, MEM.UE_FIRST_INFO.MASTER, MEM.UE_FIRST_TIME,
      MEM.UE_LATEST_ADDR, MEM.UE_LATEST_INFO.INFO, MEM.UE_LATEST_TIME, MEM.CH_CNT.CE, MEM.SRAM_CNT.CE,
      AT.VIO_STATUS.FIRST_VALID, AT.VIO_FIRST_ADDR, AT.VIO_FIRST_INFO.MASTER, AT.VIO_FIRST_TIME, AT.VIO_LATEST_ADDR,
      AT.VIO_LATEST_INFO.INFO, AT.VIO_LATEST_TIME, REC.QUEUE.VALUE, REC.EVT_TOTAL, SEC.LC.STATE, SEC.DBG_CMD.CHAL] := by
  unfold execDbgVerifyDone; (repeat' split) <;> (refine ⟨_, rfl, onlyFields_of fun ga ho hs => ?_⟩; simp only [Off_cons, Off_nil] at ho; simp [ho])
theorem execAttGo_regs (m : Fin 64) (v : Sys2Proof.Word) (s : State) :
    ∃ t, execAttGo m v s = .next t ∧ OnlyFields s t [AT.VIO_STATUS.FIRST_VALID, AT.VIO_FIRST_ADDR, AT.VIO_FIRST_INFO.MASTER, AT.VIO_FIRST_TIME, AT.VIO_LATEST_ADDR,
      AT.VIO_LATEST_INFO.INFO, AT.VIO_LATEST_TIME, REC.QUEUE.VALUE, REC.EVT_TOTAL, SEC.ATT_STATUS.BUSY] := by
  refine ⟨_, rfl, onlyFields_of fun ga ho hs => ?_⟩; simp only [Off_cons, Off_nil] at ho; simp [ho]
theorem execAttDone_regs (s : State) :
    ∃ t, execAttDone s = .next t ∧ OnlyFields s t [MEM.CH_RETIRE.RETIRE, MEM.ECC_STATUS.CE, MEM.UE_FIRST_ADDR, MEM.UE_FIRST_INFO.MASTER, MEM.UE_FIRST_TIME,
      MEM.UE_LATEST_ADDR, MEM.UE_LATEST_INFO.INFO, MEM.UE_LATEST_TIME, MEM.CH_CNT.CE, MEM.SRAM_CNT.CE,
      AT.VIO_STATUS.FIRST_VALID, AT.VIO_FIRST_ADDR, AT.VIO_FIRST_INFO.MASTER, AT.VIO_FIRST_TIME, AT.VIO_LATEST_ADDR,
      AT.VIO_LATEST_INFO.INFO, AT.VIO_LATEST_TIME, REC.QUEUE.VALUE, REC.EVT_TOTAL, SEC.ATT_STATUS.BUSY] [.direct] := by
  unfold execAttDone; (try dsimp only); (repeat' (split <;> try (rename_i heq; have hs := congrArg (fun x => x.1) heq; simp only at hs; subst hs))) <;> (refine ⟨_, rfl, onlyFields_of fun ga ho hs => ?_⟩; simp only [Off_cons, Off_nil] at ho; simp [ho, hs .direct (by simp)])
theorem execPorEnd_regs (safeH : Bool) (safeL : Bool) (pos0 : Bool) (found : Sys2Proof.StartFindings) (s : State) :
    ∃ t, execPorEnd safeH safeL pos0 found s = .next t ∧ OnlyFields s t [TB.SPEED.SPEED, TB.ANGLE, TB.STAMP, TB.STATUS.STATE, SCH.TARGET, SCH.PRED, SCH.RESID.RESID, SCH.STATUS.STATE,
      AX.PWM_CTRL.EN, AX.CMT_STATUS.STATE, AX.OBS_STATUS.MODE, AX.SAF_STATUS.STATE, OBS.LANES.USABLE, OBS.PLAN.SUM,
      OBS.PPLAN.SUM, OBS.STATUS.DEMOTE, INF.ENG_MAP.MAP, INF.ENG_STATUS.USABLE, INF.STATUS.UNAVAIL, ENG.STATUS.HOSTS,
      CTX.STATUS.STATE, BAB.IN_STATUS.STATE, BAB.IN_POS, MEM.STATUS.USABLE, MEM.CH_RETIRE.RETIRE, MEM.TOP, MEM.ECC_STATUS.CE,
      MEM.UE_FIRST_ADDR, MEM.UE_FIRST_INFO.MASTER, MEM.UE_FIRST_TIME, MEM.UE_LATEST_ADDR, MEM.UE_LATEST_INFO.INFO,
      MEM.UE_LATEST_TIME, MEM.CH_CNT.CE, MEM.SRAM_CNT.CE, AT.VIO_STATUS.FIRST_VALID, AT.VIO_FIRST_ADDR,
      AT.VIO_FIRST_INFO.MASTER, AT.VIO_FIRST_TIME, AT.VIO_LATEST_ADDR, AT.VIO_LATEST_INFO.INFO, AT.VIO_LATEST_TIME,
      SAF.STO_REQ.GROUPS, SAF.SI_STATE.LOW, SAF.GROUP_STATE.LOW, AGE.SVC_POLICY.AGEING, AGE.STATUS.MODE, AGE.VREQ.V_REQ,
      AGE.PFENCE.PFENCE, AGE.FAIL_CNT.FAIL_CNT, AGE.PFENCE_AX, BIST.STATUS.STEP, REC.STATUS.NV_VALID, REC.HEAD.VALUE,
      REC.NV_HEAD.VALUE, REC.QUEUE.VALUE, REC.EVT_TOTAL, REC.HOURS.VALUE, REC.PCYCLE.VALUE, SEC.DEV_ID.ID, SEC.ID_PUB.KEY,
      PWR.RST_CAUSE.CAUSE, PWR.START_STATUS.SELF_OK, PWR.STRAPS.PWMSAFE_H] [.direct] := by
  unfold execPorEnd; (repeat' split) <;> (refine ⟨_, rfl, onlyFields_of fun ga ho hs => ?_⟩; simp only [Off_cons, Off_nil] at ho; simp [ho, hs .direct (by simp)])
theorem execPowerTransitionDone_regs (dl : List Int) (ref : List Int) (ack : Bool) (blocks : List Sys2Proof.BistBlock) (units : List (Fin 74)) (s : State) :
    ∃ t, execPowerTransitionDone dl ref ack blocks units s = .next t ∧ OnlyFields s t [AX.SAF_STATUS.STATE, BUS.STATUS.CHOP_ON, TWN.STATUS.PAIRED, MB.GLOBAL.READY, MB.STATUS.PENDING, AGE.STATUS.MODE,
      AGE.VREQ.V_REQ, AGE.SMIN.SLACK, AGE.PFENCE.PFENCE, AGE.FAIL_CNT.FAIL_CNT, AGE.PFENCE_AX, AGE.DL_CORR.CORR,
      BIST.STATUS.STEP, BIST.RESULT.OUTCOME, REC.NV_HEAD.VALUE, REC.QUEUE.VALUE, REC.EVT_TOTAL, SEC.ATT_STATUS.BUSY,
      PWR.STATE.STATE, LNK.STATUS.UP] := by
  unfold execPowerTransitionDone; (repeat' split) <;> (refine ⟨_, rfl, onlyFields_of fun ga ho hs => ?_⟩; simp only [Off_cons, Off_nil] at ho; simp [ho])
theorem execThermalSample_regs (tj : Int) (sensor : Fin 16) (s : State) :
    ∃ t, execThermalSample tj sensor s = .next t ∧ OnlyFields s t [TB.SPEED.SPEED, TB.ANGLE, TB.STAMP, TB.STATUS.STATE, SCH.TARGET, SCH.PRED, SCH.RESID.RESID, SCH.STATUS.STATE,
      AX.PWM_CTRL.EN, AX.CMT_STATUS.STATE, AX.SAF_STATUS.STATE, BAB.IN_STATUS.STATE, BAB.IN_POS, MEM.CH_RETIRE.RETIRE,
      MEM.ECC_STATUS.CE, MEM.UE_FIRST_ADDR, MEM.UE_FIRST_INFO.MASTER, MEM.UE_FIRST_TIME, MEM.UE_LATEST_ADDR,
      MEM.UE_LATEST_INFO.INFO, MEM.UE_LATEST_TIME, MEM.CH_CNT.CE, MEM.SRAM_CNT.CE, AT.VIO_STATUS.FIRST_VALID,
      AT.VIO_FIRST_ADDR, AT.VIO_FIRST_INFO.MASTER, AT.VIO_FIRST_TIME, AT.VIO_LATEST_ADDR, AT.VIO_LATEST_INFO.INFO,
      AT.VIO_LATEST_TIME, SAF.STO_REQ.GROUPS, SAF.GROUP_STATE.LOW, REC.QUEUE.VALUE, REC.EVT_TOTAL, THM.STATUS.THROTTLE,
      THM.TJ_MAX.TJ, THM.TJ_PEAK.TJ] [.direct] := by
  unfold execThermalSample; dsimp only; (repeat' split) <;> (refine ⟨_, rfl, onlyFields_of fun ga ho hs => ?_⟩; simp only [Off_cons, Off_nil] at ho; simp [ho, hs .direct (by simp)])
theorem execThrottleStep_regs (s : State) :
    ∃ t, execThrottleStep s = .next t ∧ OnlyFields s t [THM.STATUS.THROTTLE] := by
  unfold execThrottleStep; (repeat' split) <;> (refine ⟨_, rfl, onlyFields_of fun ga ho hs => ?_⟩; simp only [Off_cons, Off_nil] at ho; simp [ho])
theorem execDtStep_regs (m : Fin 64) (v : Sys2Proof.Word) (s : State) :
    ∃ t, execDtStep m v s = .next t ∧ OnlyFields s t [DT.STATUS.ALIGNED, TB.STAMP, MF.VIB_STATUS.SETTLING, BAB.IN_STATUS.STATE, AT.VIO_STATUS.FIRST_VALID, AT.VIO_FIRST_ADDR,
      AT.VIO_FIRST_INFO.MASTER, AT.VIO_FIRST_TIME, AT.VIO_LATEST_ADDR, AT.VIO_LATEST_INFO.INFO, AT.VIO_LATEST_TIME,
      REC.QUEUE.VALUE, REC.EVT_TOTAL] := by
  refine ⟨_, rfl, onlyFields_of fun ga ho hs => ?_⟩; simp only [Off_cons, Off_nil] at ho; simp [ho]
theorem execDtRateWrite_regs (m : Fin 64) (v : Sys2Proof.Word) (s : State) :
    ∃ t, execDtRateWrite m v s = .next t ∧ OnlyFields s t [DT.RATE.RATE, DT.STATUS.ALIGNED, AT.VIO_STATUS.FIRST_VALID, AT.VIO_FIRST_ADDR, AT.VIO_FIRST_INFO.MASTER,
      AT.VIO_FIRST_TIME, AT.VIO_LATEST_ADDR, AT.VIO_LATEST_INFO.INFO, AT.VIO_LATEST_TIME, REC.QUEUE.VALUE, REC.EVT_TOTAL] := by
  refine ⟨_, rfl, onlyFields_of fun ga ho hs => ?_⟩; simp only [Off_cons, Off_nil] at ho; simp [ho]
theorem execTime_regs (p : Fin 3) (t1 : Nat) (t2 : Nat) (t3 : Nat) (t4 : Nat) (serdes : Nat) (nb : Int) (peer : Bool) (s : State) :
    ∃ t, execTime p t1 t2 t3 t4 serdes nb peer s = .next t ∧ OnlyFields s t [DT.RATE.RATE, DT.STATUS.ALIGNED, DT.OFFSET.OFFSET, TB.STAMP, MF.VIB_STATUS.SETTLING, BAB.IN_STATUS.STATE,
      TWN.STATUS.PAIRED, REC.QUEUE.VALUE, REC.EVT_TOTAL, LNK.DELAY.DELAY] := by
  unfold execTime; dsimp only; (repeat' split) <;> (refine ⟨_, rfl, onlyFields_of fun ga ho hs => ?_⟩; simp only [Off_cons, Off_nil] at ho; simp [ho])
theorem execAlignTimeout_regs (s : State) :
    ∃ t, execAlignTimeout s = .next t ∧ OnlyFields s t [DT.STATUS.ALIGNED] := by
  unfold execAlignTimeout; (repeat' split) <;> (refine ⟨_, rfl, onlyFields_of fun ga ho hs => ?_⟩; simp only [Off_cons, Off_nil] at ho; simp [ho])
theorem execGptpOfsUpdate_regs (ofs : Int) (s : State) :
    ∃ t, execGptpOfsUpdate ofs s = .next t ∧ OnlyFields s t [DT.RATE.RATE, DT.STATUS.ALIGNED, DT.GPTP_OFS] := by
  refine ⟨_, rfl, onlyFields_of fun ga ho hs => ?_⟩; simp only [Off_cons, Off_nil] at ho; simp [ho]
theorem execRecFlush_regs (m : Fin 64) (v : Sys2Proof.Word) (ok : Bool) (s : State) :
    ∃ t, execRecFlush m v ok s = .next t ∧ OnlyFields s t [AT.VIO_STATUS.FIRST_VALID, AT.VIO_FIRST_ADDR, AT.VIO_FIRST_INFO.MASTER, AT.VIO_FIRST_TIME, AT.VIO_LATEST_ADDR,
      AT.VIO_LATEST_INFO.INFO, AT.VIO_LATEST_TIME, REC.STATUS.NV_VALID, REC.NV_HEAD.VALUE, REC.QUEUE.VALUE, REC.EVT_TOTAL] := by
  refine ⟨_, rfl, onlyFields_of fun ga ho hs => ?_⟩; simp only [Off_cons, Off_nil] at ho; simp [ho]
theorem execNvIdxWrite_regs (m : Fin 64) (v : Sys2Proof.Word) (s : State) :
    ∃ t, execNvIdxWrite m v s = .next t ∧ OnlyFields s t [AT.VIO_STATUS.FIRST_VALID, AT.VIO_FIRST_ADDR, AT.VIO_FIRST_INFO.MASTER, AT.VIO_FIRST_TIME, AT.VIO_LATEST_ADDR,
      AT.VIO_LATEST_INFO.INFO, AT.VIO_LATEST_TIME, REC.STATUS.NV_VALID, REC.QUEUE.VALUE, REC.EVT_TOTAL, REC.NV_IDX.SEQ] := by
  refine ⟨_, rfl, onlyFields_of fun ga ho hs => ?_⟩; simp only [Off_cons, Off_nil] at ho; simp [ho]
theorem execRingGo_regs (m : Fin 64) (v : Sys2Proof.Word) (s : State) :
    ∃ t, execRingGo m v s = .next t ∧ OnlyFields s t [AT.VIO_STATUS.FIRST_VALID, AT.VIO_FIRST_ADDR, AT.VIO_FIRST_INFO.MASTER, AT.VIO_FIRST_TIME, AT.VIO_LATEST_ADDR,
      AT.VIO_LATEST_INFO.INFO, AT.VIO_LATEST_TIME, REC.QUEUE.VALUE, REC.EVT_TOTAL, PWR.RING_CTRL.GO, PWR.GO_TIME] := by
  refine ⟨_, rfl, onlyFields_of fun ga ho hs => ?_⟩; simp only [Off_cons, Off_nil] at ho; simp [ho]

end Sys2Proof.Machine
end

