-- ==== Sys2Proof/Laws/FrameExec3.lean ====
section
/-!
SUPPORT. Which registers each command changes: it answers a next state in which every register of another field keeps its value.
-/
set_option linter.all false
namespace Sys2Proof.Machine
open Sys2Proof.Safety

theorem execTwnCfgEnable_regs (m : Fin 64) (v : Sys2Proof.Word) (s : State) :
    ∃ t, execTwnCfgEnable m v s = .next t ∧ OnlyFields s t [TWN.CFG.EN, AT.VIO_STATUS.FIRST_VALID, AT.VIO_FIRST_ADDR, AT.VIO_FIRST_INFO.MASTER, AT.VIO_FIRST_TIME,
      AT.VIO_LATEST_ADDR, AT.VIO_LATEST_INFO.INFO, AT.VIO_LATEST_TIME, REC.QUEUE.VALUE, REC.EVT_TOTAL] := by
  refine ⟨_, rfl, onlyFields_of fun ga ho hs => ?_⟩; simp only [Off_cons, Off_nil] at ho; simp [ho]
theorem execLinkTrained_regs (p : Fin 3) (lanes : Fin 3) (major : Fin 256) (minor : Fin 256) (peer : Fin 256) (s : State) :
    ∃ t, execLinkTrained p lanes major minor peer s = .next t ∧ OnlyFields s t [TWN.CFG.EN, TWN.STATUS.PAIRED, REC.QUEUE.VALUE, REC.EVT_TOTAL, PWR.START_STATUS.SELF_OK, PWR.RING_STATUS.RING_ID,
      LNK.STATUS.UP] := by
  unfold execLinkTrained; (repeat' split) <;> (refine ⟨_, rfl, onlyFields_of fun ga ho hs => ?_⟩; simp only [Off_cons, Off_nil] at ho; simp [ho])
theorem execTrainingRetry_regs (p : Fin 3) (s : State) :
    ∃ t, execTrainingRetry p s = .next t ∧ OnlyFields s t [] := by
  unfold execTrainingRetry; (repeat' split) <;> (refine ⟨_, rfl, onlyFields_of fun ga ho hs => ?_⟩; simp)
theorem execEnumeration_regs (down : Nat) (up : Nat) (second : Bool) (s : State) :
    ∃ t, execEnumeration down up second s = .next t ∧ OnlyFields s t [DT.CTRL.LOCK, DT.STATUS.ALIGNED, DT.OFFSET.OFFSET, TWN.CFG.EN, PWR.START_STATUS.SELF_OK, PWR.RING_STATUS.RING_ID] := by
  unfold execEnumeration; (repeat' split) <;> (refine ⟨_, rfl, onlyFields_of fun ga ho hs => ?_⟩; simp only [Off_cons, Off_nil] at ho; simp [ho])
theorem execEnumTimeout_regs (down : Nat) (up : Nat) (second : Bool) (s : State) :
    ∃ t, execEnumTimeout down up second s = .next t ∧ OnlyFields s t [DT.CTRL.LOCK, DT.STATUS.ALIGNED, DT.OFFSET.OFFSET, TWN.CFG.EN, PWR.START_STATUS.SELF_OK, PWR.RING_STATUS.RING_ID] := by
  unfold execEnumTimeout; (repeat' split) <;> (refine ⟨_, rfl, onlyFields_of fun ga ho hs => ?_⟩; simp only [Off_cons, Off_nil] at ho; simp [ho])
theorem execEnumWaitExpiry_regs (s : State) :
    ∃ t, execEnumWaitExpiry s = .next t ∧ OnlyFields s t [PWR.RING_STATUS.RING_ID] := by
  unfold execEnumWaitExpiry; (repeat' split) <;> (refine ⟨_, rfl, onlyFields_of fun ga ho hs => ?_⟩; simp only [Off_cons, Off_nil] at ho; simp [ho])
theorem execEnum_regs (p : Fin 2) (id : Option (Fin 8)) (present : Fin 256) (gap : Fin 256) (s : State) :
    ∃ t, execEnum p id present gap s = .next t ∧ OnlyFields s t [DT.CTRL.LOCK, DT.STATUS.ALIGNED, DT.OFFSET.OFFSET, TWN.CFG.EN, PWR.START_STATUS.SELF_OK, PWR.RING_STATUS.RING_ID] := by
  unfold execEnum; dsimp only; (repeat' split) <;> (refine ⟨_, rfl, onlyFields_of fun ga ho hs => ?_⟩; simp only [Off_cons, Off_nil] at ho; simp [ho])
theorem execRingJoin_regs (self : Bool) (id : Fin 8) (step : Int) (present : Fin 256) (gap : Fin 256) (master : Fin 8) (s : State) :
    ∃ t, execRingJoin self id step present gap master s = .next t ∧ OnlyFields s t [DT.CTRL.LOCK, DT.STATUS.ALIGNED, DT.OFFSET.OFFSET, TB.STAMP, MF.VIB_STATUS.SETTLING, BAB.IN_STATUS.STATE, TWN.CFG.EN,
      REC.QUEUE.VALUE, REC.EVT_TOTAL, PWR.START_STATUS.SELF_OK, PWR.RING_STATUS.RING_ID] := by
  unfold execRingJoin; (try dsimp only); (repeat' (split <;> try (rename_i heq; have hs := congrArg (fun x => x.1) heq; simp only at hs; subst hs))) <;> (refine ⟨_, rfl, onlyFields_of fun ga ho hs => ?_⟩; simp only [Off_cons, Off_nil] at ho; simp [ho])
theorem execLaneLockLoss_regs (p : Fin 3) (s : State) :
    ∃ t, execLaneLockLoss p s = .next t ∧ OnlyFields s t [TWN.STATUS.PAIRED, LNK.STATUS.UP] := by
  refine ⟨_, rfl, onlyFields_of fun ga ho hs => ?_⟩; simp only [Off_cons, Off_nil] at ho; simp [ho]
theorem execLinkLost_regs (p : Fin 3) (gone : Option (Fin 8)) (s : State) :
    ∃ t, execLinkLost p gone s = .next t ∧ OnlyFields s t [DT.CTRL.LOCK, DT.STATUS.ALIGNED, DT.OFFSET.OFFSET, TB.SPEED.SPEED, TB.ANGLE, TB.STAMP, TB.STATUS.STATE, SCH.TARGET,
      SCH.PRED, SCH.RESID.RESID, SCH.STATUS.STATE, AX.PWM_CTRL.EN, AX.FOC_CTRL.RUN, AX.SPD_DERATE.TQ, AX.CMT_STATUS.STATE,
      AX.SAF_STATUS.STATE, ENG.STATUS.HOSTS, CTX.STATUS.STATE, CTX.FRAME.FRAME, CTX.LAST_CODE.CODE, CTX.LAST_TRIG,
      CTX.LAST_DONE, CTX.CLK_LAST.CLK, CTX.CLK_MAX.CLK, CTX.Q_STATUS.CLIP_ALARM, CTX.Q_CLIP.CNT, CTX.Q_ELEM.CNT,
      CTX.Q_NAN.CNT, CTX.Q_DEV.CNT, CTX.Q_WORST.SHARE, CTX.Q_HIST.FILL_MIN, CTX.Q_CLIP_TOT, CTX.Q_ELEM_TOT, CTX.Q_NAN_TOT,
      CTX.DIG_STATUS.HAS_U, CTX.TRACE_CTRL.ARM, Q.PROD.PROD, Q.TAKE.TAKE, Q.RET.RET, Q.CREDITS.CREDITS, Q.STATUS.NO_CREDIT,
      Q.LAST_POST, Q.POSTS.SEQ, Q.SLOTS.POST_SLOT, BAB.IN_STATUS.STATE, BAB.IN_POS, TWN.STATUS.PAIRED, MEM.CH_RETIRE.RETIRE,
      MEM.ECC_STATUS.CE, MEM.UE_FIRST_ADDR, MEM.UE_FIRST_INFO.MASTER, MEM.UE_FIRST_TIME, MEM.UE_LATEST_ADDR,
      MEM.UE_LATEST_INFO.INFO, MEM.UE_LATEST_TIME, MEM.CH_CNT.CE, MEM.SRAM_CNT.CE, AT.VIO_STATUS.FIRST_VALID,
      AT.VIO_FIRST_ADDR, AT.VIO_FIRST_INFO.MASTER, AT.VIO_FIRST_TIME, AT.VIO_LATEST_ADDR, AT.VIO_LATEST_INFO.INFO,
      AT.VIO_LATEST_TIME, SAF.STATUS.STATE, SAF.STO_REQ.GROUPS, SAF.GROUP_STATE.LOW, SAF.FAULT_LAST.CODE, SAF.FAULT_TIME,
      REC.QUEUE.VALUE, REC.EVT_TOTAL, PWR.RING_STATUS.RING_ID, LNK.STATUS.UP, LNK.DOWN_TIME] [.direct] := by
  unfold execLinkLost; dsimp only; (repeat' split) <;> (refine ⟨_, rfl, onlyFields_of fun ga ho hs => ?_⟩; simp only [Off_cons, Off_nil] at ho; simp [ho, hs .direct (by simp)])
theorem execLinkNak_regs (p : Fin 3) (cls : Fin 4) (s : State) :
    ∃ t, execLinkNak p cls s = .next t ∧ OnlyFields s t [TWN.STATUS.PAIRED, LNK.STATUS.UP, LNK.RETRY_CNT.CNT, LNK.RETRAIN_CNT.CNT] := by
  refine ⟨_, rfl, onlyFields_of fun ga ho hs => ?_⟩; simp only [Off_cons, Off_nil] at ho; simp [ho]
theorem execLinkAck_regs (p : Fin 3) (cls : Fin 4) (seq : Nat) (s : State) :
    ∃ t, execLinkAck p cls seq s = .next t ∧ OnlyFields s t [] := by
  refine ⟨_, rfl, onlyFields_of fun ga ho hs => ?_⟩; simp
theorem execLinkAckTimeout_regs (p : Fin 3) (cls : Fin 4) (s : State) :
    ∃ t, execLinkAckTimeout p cls s = .next t ∧ OnlyFields s t [TWN.STATUS.PAIRED, LNK.STATUS.UP, LNK.RETRY_CNT.CNT, LNK.RETRAIN_CNT.CNT] := by
  refine ⟨_, rfl, onlyFields_of fun ga ho hs => ?_⟩; simp only [Off_cons, Off_nil] at ho; simp [ho]
theorem execPacketDiscarded_regs (p : Sys2Proof.RxPacket) (s : State) :
    ∃ t, execPacketDiscarded p s = .next t ∧ OnlyFields s t [LNK.CRC_CNT.CNT] := by
  refine ⟨_, rfl, onlyFields_of fun ga ho hs => ?_⟩; simp only [Off_cons, Off_nil] at ho; simp [ho]
theorem execRetrain_regs (m : Fin 64) (p : Fin 3) (v : Sys2Proof.Word) (s : State) :
    ∃ t, execRetrain m p v s = .next t ∧ OnlyFields s t [TWN.STATUS.PAIRED, AT.VIO_STATUS.FIRST_VALID, AT.VIO_FIRST_ADDR, AT.VIO_FIRST_INFO.MASTER, AT.VIO_FIRST_TIME,
      AT.VIO_LATEST_ADDR, AT.VIO_LATEST_INFO.INFO, AT.VIO_LATEST_TIME, REC.QUEUE.VALUE, REC.EVT_TOTAL, LNK.STATUS.UP,
      LNK.RETRAIN_CNT.CNT] := by
  refine ⟨_, rfl, onlyFields_of fun ga ho hs => ?_⟩; simp only [Off_cons, Off_nil] at ho; simp [ho]
theorem execBabInCfgWrite_regs (m : Fin 64) (v : Fin 32) (k : Fin 3) (w : Sys2Proof.Word) (s : State) :
    ∃ t, execBabInCfgWrite m v k w s = .next t ∧ OnlyFields s t [BAB.IN_CFG.EN, BAB.IN_BAND.LO, BAB.IN_RING.OFS, BAB.IN_STATUS.STATE, BAB.CTX_LAYOUT.VALUE, BAB.CTX_STATUS.CFG_ERR,
      AT.VIO_STATUS.FIRST_VALID, AT.VIO_FIRST_ADDR, AT.VIO_FIRST_INFO.MASTER, AT.VIO_FIRST_TIME, AT.VIO_LATEST_ADDR,
      AT.VIO_LATEST_INFO.INFO, AT.VIO_LATEST_TIME, REC.QUEUE.VALUE, REC.EVT_TOTAL] := by
  refine ⟨_, rfl, onlyFields_of fun ga ho hs => ?_⟩; simp only [Off_cons, Off_nil] at ho; simp [ho]
theorem execBabCtxEnable_regs (m : Fin 64) (c : Fin 64) (w : Sys2Proof.Word) (s : State) :
    ∃ t, execBabCtxEnable m c w s = .next t ∧ OnlyFields s t [BAB.CTX_CFG.EN, BAB.CTX_LAYOUT.VALUE, BAB.CTX_STATUS.CFG_ERR, MEM.CH_RETIRE.RETIRE, MEM.ECC_STATUS.CE,
      MEM.UE_FIRST_ADDR, MEM.UE_FIRST_INFO.MASTER, MEM.UE_FIRST_TIME, MEM.UE_LATEST_ADDR, MEM.UE_LATEST_INFO.INFO,
      MEM.UE_LATEST_TIME, MEM.CH_CNT.CE, MEM.SRAM_CNT.CE, AT.VIO_STATUS.FIRST_VALID, AT.VIO_FIRST_ADDR,
      AT.VIO_FIRST_INFO.MASTER, AT.VIO_FIRST_TIME, AT.VIO_LATEST_ADDR, AT.VIO_LATEST_INFO.INFO, AT.VIO_LATEST_TIME,
      REC.QUEUE.VALUE, REC.EVT_TOTAL] := by
  refine ⟨_, rfl, onlyFields_of fun ga ho hs => ?_⟩; simp only [Off_cons, Off_nil] at ho; simp [ho]
theorem execBabClosePosted_regs (s : State) :
    ∃ t, execBabClosePosted s = .next t ∧ OnlyFields s t [Q.PROD.PROD, Q.CREDITS.CREDITS, Q.STATUS.NO_CREDIT, Q.LAST_POST, Q.POSTS.SEQ, Q.SLOTS.POST_SLOT, BAB.STATUS.OVERLOAD,
      BAB.CTX_STATUS.CFG_ERR, TWN.STATUS.PAIRED, MEM.CH_RETIRE.RETIRE, MEM.ECC_STATUS.CE, MEM.UE_FIRST_ADDR,
      MEM.UE_FIRST_INFO.MASTER, MEM.UE_FIRST_TIME, MEM.UE_LATEST_ADDR, MEM.UE_LATEST_INFO.INFO, MEM.UE_LATEST_TIME,
      MEM.CH_CNT.CE, MEM.SRAM_CNT.CE, AT.VIO_STATUS.FIRST_VALID, AT.VIO_FIRST_ADDR, AT.VIO_FIRST_INFO.MASTER,
      AT.VIO_FIRST_TIME, AT.VIO_LATEST_ADDR, AT.VIO_LATEST_INFO.INFO, AT.VIO_LATEST_TIME, REC.QUEUE.VALUE, REC.EVT_TOTAL] [.direct] := by
  unfold execBabClosePosted; (repeat' split) <;> (refine ⟨_, rfl, onlyFields_of fun ga ho hs => ?_⟩; simp only [Off_cons, Off_nil] at ho; simp [ho, hs .direct (by simp)])
theorem execBabResultApply_regs (c : Fin 64) (s : State) :
    ∃ t, execBabResultApply c s = .next t ∧ OnlyFields s t [AX.SPD_DERATE.TQ, BAB.CTX_ALARM.ALARM, BAB.CTX_STATUS.CFG_ERR, BAB.CTX_LAST_APPLY, AT.VIO_STATUS.FIRST_VALID,
      AT.VIO_FIRST_ADDR, AT.VIO_FIRST_INFO.MASTER, AT.VIO_FIRST_TIME, AT.VIO_LATEST_ADDR, AT.VIO_LATEST_INFO.INFO,
      AT.VIO_LATEST_TIME, REC.QUEUE.VALUE, REC.EVT_TOTAL] := by
  unfold execBabResultApply; dsimp only; (repeat' split) <;> (refine ⟨_, rfl, onlyFields_of fun ga ho hs => ?_⟩; simp only [Off_cons, Off_nil] at ho; simp [ho])
theorem execBabStale_regs (c : Fin 64) (s : State) :
    ∃ t, execBabStale c s = .next t ∧ OnlyFields s t [AX.SPD_DERATE.TQ, BAB.CTX_STATUS.CFG_ERR, AT.VIO_STATUS.FIRST_VALID, AT.VIO_FIRST_ADDR, AT.VIO_FIRST_INFO.MASTER,
      AT.VIO_FIRST_TIME, AT.VIO_LATEST_ADDR, AT.VIO_LATEST_INFO.INFO, AT.VIO_LATEST_TIME, REC.QUEUE.VALUE, REC.EVT_TOTAL] := by
  unfold execBabStale; dsimp only; (repeat' split) <;> (refine ⟨_, rfl, onlyFields_of fun ga ho hs => ?_⟩; simp only [Off_cons, Off_nil] at ho; simp [ho])
theorem execDmaTransferDone_regs (q : Fin 1024) (s : State) :
    ∃ t, execDmaTransferDone q s = .next t ∧ OnlyFields s t [Q.PROD.PROD, Q.TAKE.TAKE, Q.RET.RET, Q.CREDITS.CREDITS, Q.STATUS.NO_CREDIT, Q.LAST_POST, Q.POSTS.SEQ,
      Q.SLOTS.POST_SLOT, MEM.CH_RETIRE.RETIRE, MEM.ECC_STATUS.CE, MEM.UE_FIRST_ADDR, MEM.UE_FIRST_INFO.MASTER,
      MEM.UE_FIRST_TIME, MEM.UE_LATEST_ADDR, MEM.UE_LATEST_INFO.INFO, MEM.UE_LATEST_TIME, MEM.CH_CNT.CE, MEM.SRAM_CNT.CE,
      AT.VIO_STATUS.FIRST_VALID, AT.VIO_FIRST_ADDR, AT.VIO_FIRST_INFO.MASTER, AT.VIO_FIRST_TIME, AT.VIO_LATEST_ADDR,
      AT.VIO_LATEST_INFO.INFO, AT.VIO_LATEST_TIME, REC.QUEUE.VALUE, REC.EVT_TOTAL] [.direct] := by
  unfold execDmaTransferDone; (try dsimp only); (repeat' (split <;> try (rename_i heq; have hs := congrArg (fun x => x.1) heq; simp only at hs; subst hs))) <;> (refine ⟨_, rfl, onlyFields_of fun ga ho hs => ?_⟩; simp only [Off_cons, Off_nil] at ho; simp [ho, hs .direct (by simp)])
theorem execEthTransmit_regs (p : Fin 4) (c : Fin 8) (s : State) :
    ∃ t, execEthTransmit p c s = .next t ∧ OnlyFields s t [Q.TAKE.TAKE, Q.RET.RET, Q.CREDITS.CREDITS, Q.SLOTS.POST_SLOT, MEM.CH_RETIRE.RETIRE, MEM.ECC_STATUS.CE,
      MEM.UE_FIRST_ADDR, MEM.UE_FIRST_INFO.MASTER, MEM.UE_FIRST_TIME, MEM.UE_LATEST_ADDR, MEM.UE_LATEST_INFO.INFO,
      MEM.UE_LATEST_TIME, MEM.CH_CNT.CE, MEM.SRAM_CNT.CE, AT.VIO_STATUS.FIRST_VALID, AT.VIO_FIRST_ADDR,
      AT.VIO_FIRST_INFO.MASTER, AT.VIO_FIRST_TIME, AT.VIO_LATEST_ADDR, AT.VIO_LATEST_INFO.INFO, AT.VIO_LATEST_TIME,
      REC.QUEUE.VALUE, REC.EVT_TOTAL] := by
  unfold execEthTransmit
  dsimp only
  split
  · exact ⟨_, rfl, fun _ _ _ => rfl⟩
  · split <;> (rename_i heq; have hs' := congrArg (fun x => x.1) heq; simp only at hs'; subst hs')
    · refine ⟨_, rfl, onlyFields_of fun ga ho hs => ?_⟩; simp only [Off_cons, Off_nil] at ho; simp [ho]
    · split
      · split <;> (rename_i heq; have hs' := congrArg (fun x => x.1) heq; simp only at hs'; subst hs') <;> (refine ⟨_, rfl, onlyFields_of fun ga ho hs => ?_⟩; simp only [Off_cons, Off_nil] at ho; simp [ho])
      · refine ⟨_, rfl, onlyFields_of fun ga ho hs => ?_⟩; simp only [Off_cons, Off_nil] at ho; simp [ho]
theorem execEthTxDone_regs (p : Fin 4) (s : State) :
    ∃ t, execEthTxDone p s = .next t ∧ OnlyFields s t [Q.PROD.PROD, Q.RET.RET, Q.CREDITS.CREDITS, Q.STATUS.NO_CREDIT, Q.LAST_POST, Q.POSTS.SEQ, Q.SLOTS.POST_SLOT,
      MEM.CH_RETIRE.RETIRE, MEM.ECC_STATUS.CE, MEM.UE_FIRST_ADDR, MEM.UE_FIRST_INFO.MASTER, MEM.UE_FIRST_TIME,
      MEM.UE_LATEST_ADDR, MEM.UE_LATEST_INFO.INFO, MEM.UE_LATEST_TIME, MEM.CH_CNT.CE, MEM.SRAM_CNT.CE, REC.QUEUE.VALUE,
      REC.EVT_TOTAL] := by
  unfold execEthTxDone; (repeat' split) <;> (refine ⟨_, rfl, onlyFields_of fun ga ho hs => ?_⟩; simp only [Off_cons, Off_nil] at ho; simp [ho])
theorem execEthReceive_regs (p : Fin 4) (c : Fin 8) (stamp : Nat) (data : List Nat) (s : State) :
    ∃ t, execEthReceive p c stamp data s = .next t ∧ OnlyFields s t [Q.PROD.PROD, Q.TAKE.TAKE, Q.RET.RET, Q.CREDITS.CREDITS, Q.STATUS.NO_CREDIT, Q.LAST_POST, Q.POSTS.SEQ,
      Q.SLOTS.POST_SLOT, MEM.CH_RETIRE.RETIRE, MEM.ECC_STATUS.CE, MEM.UE_FIRST_ADDR, MEM.UE_FIRST_INFO.MASTER,
      MEM.UE_FIRST_TIME, MEM.UE_LATEST_ADDR, MEM.UE_LATEST_INFO.INFO, MEM.UE_LATEST_TIME, MEM.CH_CNT.CE, MEM.SRAM_CNT.CE,
      AT.VIO_STATUS.FIRST_VALID, AT.VIO_FIRST_ADDR, AT.VIO_FIRST_INFO.MASTER, AT.VIO_FIRST_TIME, AT.VIO_LATEST_ADDR,
      AT.VIO_LATEST_INFO.INFO, AT.VIO_LATEST_TIME, REC.QUEUE.VALUE, REC.EVT_TOTAL] [.direct] := by
  unfold execEthReceive
  dsimp only
  split
  · refine ⟨_, rfl, onlyFields_of fun ga ho hs => ?_⟩; simp only [Off_cons, Off_nil] at ho; simp [ho, hs .direct (by simp)]
  · split
    · refine ⟨_, rfl, onlyFields_of fun ga ho hs => ?_⟩; simp only [Off_cons, Off_nil] at ho; simp [ho, hs .direct (by simp)]
    · split <;> (rename_i heq; have hs' := congrArg (fun x => x.1) heq; simp only at hs'; subst hs')
      · refine ⟨_, rfl, onlyFields_of fun ga ho hs => ?_⟩; simp only [Off_cons, Off_nil] at ho; simp [ho, hs .direct (by simp)]
      · split <;> (rename_i heq; have hs' := congrArg (fun x => x.1) heq; simp only at hs'; subst hs') <;> (refine ⟨_, rfl, onlyFields_of fun ga ho hs => ?_⟩; simp only [Off_cons, Off_nil] at ho; simp [ho, hs .direct (by simp)])
theorem execEthGateSwitch_regs (p : Fin 4) (k : Fin 256) (s : State) :
    ∃ t, execEthGateSwitch p k s = .next t ∧ OnlyFields s t [MEM.CH_RETIRE.RETIRE, MEM.ECC_STATUS.CE, MEM.UE_FIRST_ADDR, MEM.UE_FIRST_INFO.MASTER, MEM.UE_FIRST_TIME,
      MEM.UE_LATEST_ADDR, MEM.UE_LATEST_INFO.INFO, MEM.UE_LATEST_TIME, MEM.CH_CNT.CE, MEM.SRAM_CNT.CE,
      AT.VIO_STATUS.FIRST_VALID, AT.VIO_FIRST_ADDR, AT.VIO_FIRST_INFO.MASTER, AT.VIO_FIRST_TIME, AT.VIO_LATEST_ADDR,
      AT.VIO_LATEST_INFO.INFO, AT.VIO_LATEST_TIME, REC.QUEUE.VALUE, REC.EVT_TOTAL] := by
  unfold execEthGateSwitch
  have k := fun ga h => State.masterRead_regs s 0x20 (s.rd ETH.GCL_BASE 0 p + 8 * k) 8 ga h
  split <;>
  · rename_i e
    rw [e] at k
    refine ⟨_, rfl, onlyFields_of fun ga ho hs => ?_⟩
    simp only [Off_cons, Off_nil] at ho
    have k := k ga (by simp [ho])
    simp_all
theorem execPcieCompletion_regs (poisoned : Bool) (data : List Nat) (s : State) :
    ∃ t, execPcieCompletion poisoned data s = .next t ∧ OnlyFields s t [] := by
  unfold execPcieCompletion; (repeat' split) <;> (refine ⟨_, rfl, onlyFields_of fun ga ho hs => ?_⟩; simp)
theorem execPcieCompletionTimeout_regs (s : State) :
    ∃ t, execPcieCompletionTimeout s = .next t ∧ OnlyFields s t [] := by
  unfold execPcieCompletionTimeout; (repeat' split) <;> (refine ⟨_, rfl, onlyFields_of fun ga ho hs => ?_⟩; simp)
theorem execPmbusPoll_regs (vout : Fin 65536) (iout : Fin 65536) (s : State) :
    ∃ t, execPmbusPoll vout iout s = .next t ∧ OnlyFields s t [PMB.READ.VOUT] := by
  refine ⟨_, rfl, onlyFields_of fun ga ho hs => ?_⟩; simp only [Off_cons, Off_nil] at ho; simp [ho]
theorem execPmbusAlert_regs (word : Fin 65536) (s : State) :
    ∃ t, execPmbusAlert word s = .next t ∧ OnlyFields s t [REC.QUEUE.VALUE, REC.EVT_TOTAL, PMB.STATUS.STATUS_WORD] := by
  refine ⟨_, rfl, onlyFields_of fun ga ho hs => ?_⟩; simp only [Off_cons, Off_nil] at ho; simp [ho]
theorem execServiceTransfer_regs (out : List Nat) (inp : List Nat) (s : State) :
    ∃ t, execServiceTransfer out inp s = .next t ∧ OnlyFields s t [] := by
  unfold execServiceTransfer; (repeat' split) <;> (refine ⟨_, rfl, onlyFields_of fun ga ho hs => ?_⟩; simp)
theorem execReadLoLatch_regs (m : Fin 64) (a : Nat) (s : State) :
    ∃ t, execReadLoLatch m a s = .next t ∧ OnlyFields s t [AT.VIO_STATUS.FIRST_VALID, AT.VIO_FIRST_ADDR, AT.VIO_FIRST_INFO.MASTER, AT.VIO_FIRST_TIME, AT.VIO_LATEST_ADDR,
      AT.VIO_LATEST_INFO.INFO, AT.VIO_LATEST_TIME, REC.QUEUE.VALUE, REC.EVT_TOTAL] := by
  refine ⟨_, rfl, onlyFields_of fun ga ho hs => ?_⟩; simp only [Off_cons, Off_nil] at ho; simp [ho]
theorem execReadHi_regs (m : Fin 64) (a : Nat) (s : State) :
    ∃ t, execReadHi m a s = .next t ∧ OnlyFields s t [AT.VIO_STATUS.FIRST_VALID, AT.VIO_FIRST_ADDR, AT.VIO_FIRST_INFO.MASTER, AT.VIO_FIRST_TIME, AT.VIO_LATEST_ADDR,
      AT.VIO_LATEST_INFO.INFO, AT.VIO_LATEST_TIME, REC.QUEUE.VALUE, REC.EVT_TOTAL] := by
  refine ⟨_, rfl, onlyFields_of fun ga ho hs => ?_⟩; simp only [Off_cons, Off_nil] at ho; simp [ho]
theorem execRead_regs (p : Fin 3) (a : Nat) (n : Nat) (errs : List (Nat × Nat)) (s : State) :
    ∃ t, execRead p a n errs s = .next t ∧ OnlyFields s t [MEM.CH_RETIRE.RETIRE, MEM.ECC_STATUS.CE, MEM.UE_FIRST_ADDR, MEM.UE_FIRST_INFO.MASTER, MEM.UE_FIRST_TIME,
      MEM.UE_LATEST_ADDR, MEM.UE_LATEST_INFO.INFO, MEM.UE_LATEST_TIME, MEM.CH_CNT.CE, MEM.SRAM_CNT.CE,
      AT.VIO_STATUS.FIRST_VALID, AT.VIO_FIRST_ADDR, AT.VIO_FIRST_INFO.MASTER, AT.VIO_FIRST_TIME, AT.VIO_LATEST_ADDR,
      AT.VIO_LATEST_INFO.INFO, AT.VIO_LATEST_TIME, REC.QUEUE.VALUE, REC.EVT_TOTAL, LNK.CRC_CNT.CNT] := by
  unfold execRead; (try dsimp only); (repeat' (split <;> try (rename_i heq; have hs := congrArg (fun x => x.1) heq; simp only at hs; subst hs))) <;> (refine ⟨_, rfl, onlyFields_of fun ga ho hs => ?_⟩; simp only [Off_cons, Off_nil] at ho; simp [ho])
theorem execCompletion_regs (p : Fin 3) (status : Fin 3) (data : List Nat) (s : State) :
    ∃ t, execCompletion p status data s = .next t ∧ OnlyFields s t [] := by
  unfold execCompletion; (repeat' split) <;> (refine ⟨_, rfl, onlyFields_of fun ga ho hs => ?_⟩; simp)
theorem execLinkPost_regs (p : Fin 3) (q : Fin 1024) (data : List Nat) (s : State) :
    ∃ t, execLinkPost p q data s = .next t ∧ OnlyFields s t [Q.PROD.PROD, Q.CREDITS.CREDITS, Q.STATUS.NO_CREDIT, Q.LAST_POST, Q.POSTS.SEQ, Q.SLOTS.POST_SLOT, MEM.CH_RETIRE.RETIRE,
      MEM.ECC_STATUS.CE, MEM.UE_FIRST_ADDR, MEM.UE_FIRST_INFO.MASTER, MEM.UE_FIRST_TIME, MEM.UE_LATEST_ADDR,
      MEM.UE_LATEST_INFO.INFO, MEM.UE_LATEST_TIME, MEM.CH_CNT.CE, MEM.SRAM_CNT.CE, AT.VIO_STATUS.FIRST_VALID,
      AT.VIO_FIRST_ADDR, AT.VIO_FIRST_INFO.MASTER, AT.VIO_FIRST_TIME, AT.VIO_LATEST_ADDR, AT.VIO_LATEST_INFO.INFO,
      AT.VIO_LATEST_TIME, REC.QUEUE.VALUE, REC.EVT_TOTAL, LNK.CRC_CNT.CNT] := by
  unfold execLinkPost; dsimp only; (repeat' split) <;> (refine ⟨_, rfl, onlyFields_of fun ga ho hs => ?_⟩; simp only [Off_cons, Off_nil] at ho; simp [ho])
theorem execAdd_regs (c : Fin 64) (i : Fin 65536) (s : State) :
    ∃ t, execAdd c i s = .next t ∧ OnlyFields s t [MEM.CH_RETIRE.RETIRE, MEM.ECC_STATUS.CE, MEM.UE_FIRST_ADDR, MEM.UE_FIRST_INFO.MASTER, MEM.UE_FIRST_TIME,
      MEM.UE_LATEST_ADDR, MEM.UE_LATEST_INFO.INFO, MEM.UE_LATEST_TIME, MEM.CH_CNT.CE, MEM.SRAM_CNT.CE,
      AT.VIO_STATUS.FIRST_VALID, AT.VIO_FIRST_ADDR, AT.VIO_FIRST_INFO.MASTER, AT.VIO_FIRST_TIME, AT.VIO_LATEST_ADDR,
      AT.VIO_LATEST_INFO.INFO, AT.VIO_LATEST_TIME, REC.QUEUE.VALUE, REC.EVT_TOTAL] [.direct] := by
  refine ⟨_, rfl, onlyFields_of fun ga ho hs => ?_⟩; simp only [Off_cons, Off_nil] at ho; simp [ho, hs .direct (by simp)]
theorem execSub_regs (c : Fin 64) (i : Fin 65536) (s : State) :
    ∃ t, execSub c i s = .next t ∧ OnlyFields s t [MEM.CH_RETIRE.RETIRE, MEM.ECC_STATUS.CE, MEM.UE_FIRST_ADDR, MEM.UE_FIRST_INFO.MASTER, MEM.UE_FIRST_TIME,
      MEM.UE_LATEST_ADDR, MEM.UE_LATEST_INFO.INFO, MEM.UE_LATEST_TIME, MEM.CH_CNT.CE, MEM.SRAM_CNT.CE,
      AT.VIO_STATUS.FIRST_VALID, AT.VIO_FIRST_ADDR, AT.VIO_FIRST_INFO.MASTER, AT.VIO_FIRST_TIME, AT.VIO_LATEST_ADDR,
      AT.VIO_LATEST_INFO.INFO, AT.VIO_LATEST_TIME, REC.QUEUE.VALUE, REC.EVT_TOTAL] [.direct] := by
  refine ⟨_, rfl, onlyFields_of fun ga ho hs => ?_⟩; simp only [Off_cons, Off_nil] at ho; simp [ho, hs .direct (by simp)]
theorem execMul_regs (c : Fin 64) (i : Fin 65536) (s : State) :
    ∃ t, execMul c i s = .next t ∧ OnlyFields s t [MEM.CH_RETIRE.RETIRE, MEM.ECC_STATUS.CE, MEM.UE_FIRST_ADDR, MEM.UE_FIRST_INFO.MASTER, MEM.UE_FIRST_TIME,
      MEM.UE_LATEST_ADDR, MEM.UE_LATEST_INFO.INFO, MEM.UE_LATEST_TIME, MEM.CH_CNT.CE, MEM.SRAM_CNT.CE,
      AT.VIO_STATUS.FIRST_VALID, AT.VIO_FIRST_ADDR, AT.VIO_FIRST_INFO.MASTER, AT.VIO_FIRST_TIME, AT.VIO_LATEST_ADDR,
      AT.VIO_LATEST_INFO.INFO, AT.VIO_LATEST_TIME, REC.QUEUE.VALUE, REC.EVT_TOTAL] [.direct] := by
  refine ⟨_, rfl, onlyFields_of fun ga ho hs => ?_⟩; simp only [Off_cons, Off_nil] at ho; simp [ho, hs .direct (by simp)]
theorem execMax_regs (c : Fin 64) (i : Fin 65536) (s : State) :
    ∃ t, execMax c i s = .next t ∧ OnlyFields s t [MEM.CH_RETIRE.RETIRE, MEM.ECC_STATUS.CE, MEM.UE_FIRST_ADDR, MEM.UE_FIRST_INFO.MASTER, MEM.UE_FIRST_TIME,
      MEM.UE_LATEST_ADDR, MEM.UE_LATEST_INFO.INFO, MEM.UE_LATEST_TIME, MEM.CH_CNT.CE, MEM.SRAM_CNT.CE,
      AT.VIO_STATUS.FIRST_VALID, AT.VIO_FIRST_ADDR, AT.VIO_FIRST_INFO.MASTER, AT.VIO_FIRST_TIME, AT.VIO_LATEST_ADDR,
      AT.VIO_LATEST_INFO.INFO, AT.VIO_LATEST_TIME, REC.QUEUE.VALUE, REC.EVT_TOTAL] [.direct] := by
  refine ⟨_, rfl, onlyFields_of fun ga ho hs => ?_⟩; simp only [Off_cons, Off_nil] at ho; simp [ho, hs .direct (by simp)]
theorem execMin_regs (c : Fin 64) (i : Fin 65536) (s : State) :
    ∃ t, execMin c i s = .next t ∧ OnlyFields s t [MEM.CH_RETIRE.RETIRE, MEM.ECC_STATUS.CE, MEM.UE_FIRST_ADDR, MEM.UE_FIRST_INFO.MASTER, MEM.UE_FIRST_TIME,
      MEM.UE_LATEST_ADDR, MEM.UE_LATEST_INFO.INFO, MEM.UE_LATEST_TIME, MEM.CH_CNT.CE, MEM.SRAM_CNT.CE,
      AT.VIO_STATUS.FIRST_VALID, AT.VIO_FIRST_ADDR, AT.VIO_FIRST_INFO.MASTER, AT.VIO_FIRST_TIME, AT.VIO_LATEST_ADDR,
      AT.VIO_LATEST_INFO.INFO, AT.VIO_LATEST_TIME, REC.QUEUE.VALUE, REC.EVT_TOTAL] [.direct] := by
  refine ⟨_, rfl, onlyFields_of fun ga ho hs => ?_⟩; simp only [Off_cons, Off_nil] at ho; simp [ho, hs .direct (by simp)]
theorem execAbs_regs (c : Fin 64) (i : Fin 65536) (s : State) :
    ∃ t, execAbs c i s = .next t ∧ OnlyFields s t [MEM.CH_RETIRE.RETIRE, MEM.ECC_STATUS.CE, MEM.UE_FIRST_ADDR, MEM.UE_FIRST_INFO.MASTER, MEM.UE_FIRST_TIME,
      MEM.UE_LATEST_ADDR, MEM.UE_LATEST_INFO.INFO, MEM.UE_LATEST_TIME, MEM.CH_CNT.CE, MEM.SRAM_CNT.CE,
      AT.VIO_STATUS.FIRST_VALID, AT.VIO_FIRST_ADDR, AT.VIO_FIRST_INFO.MASTER, AT.VIO_FIRST_TIME, AT.VIO_LATEST_ADDR,
      AT.VIO_LATEST_INFO.INFO, AT.VIO_LATEST_TIME, REC.QUEUE.VALUE, REC.EVT_TOTAL] [.direct] := by
  refine ⟨_, rfl, onlyFields_of fun ga ho hs => ?_⟩; simp only [Off_cons, Off_nil] at ho; simp [ho, hs .direct (by simp)]
theorem execScale_regs (c : Fin 64) (i : Fin 65536) (axis : Fin 4) (s : State) :
    ∃ t, execScale c i axis s = .next t ∧ OnlyFields s t [MEM.CH_RETIRE.RETIRE, MEM.ECC_STATUS.CE, MEM.UE_FIRST_ADDR, MEM.UE_FIRST_INFO.MASTER, MEM.UE_FIRST_TIME,
      MEM.UE_LATEST_ADDR, MEM.UE_LATEST_INFO.INFO, MEM.UE_LATEST_TIME, MEM.CH_CNT.CE, MEM.SRAM_CNT.CE,
      AT.VIO_STATUS.FIRST_VALID, AT.VIO_FIRST_ADDR, AT.VIO_FIRST_INFO.MASTER, AT.VIO_FIRST_TIME, AT.VIO_LATEST_ADDR,
      AT.VIO_LATEST_INFO.INFO, AT.VIO_LATEST_TIME, REC.QUEUE.VALUE, REC.EVT_TOTAL] [.direct] := by
  refine ⟨_, rfl, onlyFields_of fun ga ho hs => ?_⟩; simp only [Off_cons, Off_nil] at ho; simp [ho, hs .direct (by simp)]
theorem execClamp_regs (c : Fin 64) (i : Fin 65536) (axis : Fin 4) (s : State) :
    ∃ t, execClamp c i axis s = .next t ∧ OnlyFields s t [MEM.CH_RETIRE.RETIRE, MEM.ECC_STATUS.CE, MEM.UE_FIRST_ADDR, MEM.UE_FIRST_INFO.MASTER, MEM.UE_FIRST_TIME,
      MEM.UE_LATEST_ADDR, MEM.UE_LATEST_INFO.INFO, MEM.UE_LATEST_TIME, MEM.CH_CNT.CE, MEM.SRAM_CNT.CE,
      AT.VIO_STATUS.FIRST_VALID, AT.VIO_FIRST_ADDR, AT.VIO_FIRST_INFO.MASTER, AT.VIO_FIRST_TIME, AT.VIO_LATEST_ADDR,
      AT.VIO_LATEST_INFO.INFO, AT.VIO_LATEST_TIME, REC.QUEUE.VALUE, REC.EVT_TOTAL] [.direct] := by
  refine ⟨_, rfl, onlyFields_of fun ga ho hs => ?_⟩; simp only [Off_cons, Off_nil] at ho; simp [ho, hs .direct (by simp)]
theorem execCmp_regs (c : Fin 64) (i : Fin 65536) (rel : Fin 6) (s : State) :
    ∃ t, execCmp c i rel s = .next t ∧ OnlyFields s t [MEM.CH_RETIRE.RETIRE, MEM.ECC_STATUS.CE, MEM.UE_FIRST_ADDR, MEM.UE_FIRST_INFO.MASTER, MEM.UE_FIRST_TIME,
      MEM.UE_LATEST_ADDR, MEM.UE_LATEST_INFO.INFO, MEM.UE_LATEST_TIME, MEM.CH_CNT.CE, MEM.SRAM_CNT.CE,
      AT.VIO_STATUS.FIRST_VALID, AT.VIO_FIRST_ADDR, AT.VIO_FIRST_INFO.MASTER, AT.VIO_FIRST_TIME, AT.VIO_LATEST_ADDR,
      AT.VIO_LATEST_INFO.INFO, AT.VIO_LATEST_TIME, REC.QUEUE.VALUE, REC.EVT_TOTAL] [.direct] := by
  refine ⟨_, rfl, onlyFields_of fun ga ho hs => ?_⟩; simp only [Off_cons, Off_nil] at ho; simp [ho, hs .direct (by simp)]
theorem execSelect_regs (c : Fin 64) (i : Fin 65536) (s : State) :
    ∃ t, execSelect c i s = .next t ∧ OnlyFields s t [MEM.CH_RETIRE.RETIRE, MEM.ECC_STATUS.CE, MEM.UE_FIRST_ADDR, MEM.UE_FIRST_INFO.MASTER, MEM.UE_FIRST_TIME,
      MEM.UE_LATEST_ADDR, MEM.UE_LATEST_INFO.INFO, MEM.UE_LATEST_TIME, MEM.CH_CNT.CE, MEM.SRAM_CNT.CE,
      AT.VIO_STATUS.FIRST_VALID, AT.VIO_FIRST_ADDR, AT.VIO_FIRST_INFO.MASTER, AT.VIO_FIRST_TIME, AT.VIO_LATEST_ADDR,
      AT.VIO_LATEST_INFO.INFO, AT.VIO_LATEST_TIME, REC.QUEUE.VALUE, REC.EVT_TOTAL] [.direct] := by
  refine ⟨_, rfl, onlyFields_of fun ga ho hs => ?_⟩; simp only [Off_cons, Off_nil] at ho; simp [ho, hs .direct (by simp)]
theorem execRelu_regs (c : Fin 64) (i : Fin 65536) (s : State) :
    ∃ t, execRelu c i s = .next t ∧ OnlyFields s t [MEM.CH_RETIRE.RETIRE, MEM.ECC_STATUS.CE, MEM.UE_FIRST_ADDR, MEM.UE_FIRST_INFO.MASTER, MEM.UE_FIRST_TIME,
      MEM.UE_LATEST_ADDR, MEM.UE_LATEST_INFO.INFO, MEM.UE_LATEST_TIME, MEM.CH_CNT.CE, MEM.SRAM_CNT.CE,
      AT.VIO_STATUS.FIRST_VALID, AT.VIO_FIRST_ADDR, AT.VIO_FIRST_INFO.MASTER, AT.VIO_FIRST_TIME, AT.VIO_LATEST_ADDR,
      AT.VIO_LATEST_INFO.INFO, AT.VIO_LATEST_TIME, REC.QUEUE.VALUE, REC.EVT_TOTAL] [.direct] := by
  refine ⟨_, rfl, onlyFields_of fun ga ho hs => ?_⟩; simp only [Off_cons, Off_nil] at ho; simp [ho, hs .direct (by simp)]
theorem execLeaky_regs (c : Fin 64) (i : Fin 65536) (s : State) :
    ∃ t, execLeaky c i s = .next t ∧ OnlyFields s t [MEM.CH_RETIRE.RETIRE, MEM.ECC_STATUS.CE, MEM.UE_FIRST_ADDR, MEM.UE_FIRST_INFO.MASTER, MEM.UE_FIRST_TIME,
      MEM.UE_LATEST_ADDR, MEM.UE_LATEST_INFO.INFO, MEM.UE_LATEST_TIME, MEM.CH_CNT.CE, MEM.SRAM_CNT.CE,
      AT.VIO_STATUS.FIRST_VALID, AT.VIO_FIRST_ADDR, AT.VIO_FIRST_INFO.MASTER, AT.VIO_FIRST_TIME, AT.VIO_LATEST_ADDR,
      AT.VIO_LATEST_INFO.INFO, AT.VIO_LATEST_TIME, REC.QUEUE.VALUE, REC.EVT_TOTAL] [.direct] := by
  refine ⟨_, rfl, onlyFields_of fun ga ho hs => ?_⟩; simp only [Off_cons, Off_nil] at ho; simp [ho, hs .direct (by simp)]
theorem execTanh_regs (c : Fin 64) (i : Fin 65536) (s : State) :
    ∃ t, execTanh c i s = .next t ∧ OnlyFields s t [MEM.CH_RETIRE.RETIRE, MEM.ECC_STATUS.CE, MEM.UE_FIRST_ADDR, MEM.UE_FIRST_INFO.MASTER, MEM.UE_FIRST_TIME,
      MEM.UE_LATEST_ADDR, MEM.UE_LATEST_INFO.INFO, MEM.UE_LATEST_TIME, MEM.CH_CNT.CE, MEM.SRAM_CNT.CE,
      AT.VIO_STATUS.FIRST_VALID, AT.VIO_FIRST_ADDR, AT.VIO_FIRST_INFO.MASTER, AT.VIO_FIRST_TIME, AT.VIO_LATEST_ADDR,
      AT.VIO_LATEST_INFO.INFO, AT.VIO_LATEST_TIME, REC.QUEUE.VALUE, REC.EVT_TOTAL] [.direct] := by
  refine ⟨_, rfl, onlyFields_of fun ga ho hs => ?_⟩; simp only [Off_cons, Off_nil] at ho; simp [ho, hs .direct (by simp)]
theorem execSigmoid_regs (c : Fin 64) (i : Fin 65536) (s : State) :
    ∃ t, execSigmoid c i s = .next t ∧ OnlyFields s t [MEM.CH_RETIRE.RETIRE, MEM.ECC_STATUS.CE, MEM.UE_FIRST_ADDR, MEM.UE_FIRST_INFO.MASTER, MEM.UE_FIRST_TIME,
      MEM.UE_LATEST_ADDR, MEM.UE_LATEST_INFO.INFO, MEM.UE_LATEST_TIME, MEM.CH_CNT.CE, MEM.SRAM_CNT.CE,
      AT.VIO_STATUS.FIRST_VALID, AT.VIO_FIRST_ADDR, AT.VIO_FIRST_INFO.MASTER, AT.VIO_FIRST_TIME, AT.VIO_LATEST_ADDR,
      AT.VIO_LATEST_INFO.INFO, AT.VIO_LATEST_TIME, REC.QUEUE.VALUE, REC.EVT_TOTAL] [.direct] := by
  refine ⟨_, rfl, onlyFields_of fun ga ho hs => ?_⟩; simp only [Off_cons, Off_nil] at ho; simp [ho, hs .direct (by simp)]
theorem execGelu_regs (c : Fin 64) (i : Fin 65536) (s : State) :
    ∃ t, execGelu c i s = .next t ∧ OnlyFields s t [MEM.CH_RETIRE.RETIRE, MEM.ECC_STATUS.CE, MEM.UE_FIRST_ADDR, MEM.UE_FIRST_INFO.MASTER, MEM.UE_FIRST_TIME,
      MEM.UE_LATEST_ADDR, MEM.UE_LATEST_INFO.INFO, MEM.UE_LATEST_TIME, MEM.CH_CNT.CE, MEM.SRAM_CNT.CE,
      AT.VIO_STATUS.FIRST_VALID, AT.VIO_FIRST_ADDR, AT.VIO_FIRST_INFO.MASTER, AT.VIO_FIRST_TIME, AT.VIO_LATEST_ADDR,
      AT.VIO_LATEST_INFO.INFO, AT.VIO_LATEST_TIME, REC.QUEUE.VALUE, REC.EVT_TOTAL] [.direct] := by
  refine ⟨_, rfl, onlyFields_of fun ga ho hs => ?_⟩; simp only [Off_cons, Off_nil] at ho; simp [ho, hs .direct (by simp)]
theorem execExp_regs (c : Fin 64) (i : Fin 65536) (s : State) :
    ∃ t, execExp c i s = .next t ∧ OnlyFields s t [MEM.CH_RETIRE.RETIRE, MEM.ECC_STATUS.CE, MEM.UE_FIRST_ADDR, MEM.UE_FIRST_INFO.MASTER, MEM.UE_FIRST_TIME,
      MEM.UE_LATEST_ADDR, MEM.UE_LATEST_INFO.INFO, MEM.UE_LATEST_TIME, MEM.CH_CNT.CE, MEM.SRAM_CNT.CE,
      AT.VIO_STATUS.FIRST_VALID, AT.VIO_FIRST_ADDR, AT.VIO_FIRST_INFO.MASTER, AT.VIO_FIRST_TIME, AT.VIO_LATEST_ADDR,
      AT.VIO_LATEST_INFO.INFO, AT.VIO_LATEST_TIME, REC.QUEUE.VALUE, REC.EVT_TOTAL] [.direct] := by
  refine ⟨_, rfl, onlyFields_of fun ga ho hs => ?_⟩; simp only [Off_cons, Off_nil] at ho; simp [ho, hs .direct (by simp)]
theorem execLog_regs (c : Fin 64) (i : Fin 65536) (s : State) :
    ∃ t, execLog c i s = .next t ∧ OnlyFields s t [MEM.CH_RETIRE.RETIRE, MEM.ECC_STATUS.CE, MEM.UE_FIRST_ADDR, MEM.UE_FIRST_INFO.MASTER, MEM.UE_FIRST_TIME,
      MEM.UE_LATEST_ADDR, MEM.UE_LATEST_INFO.INFO, MEM.UE_LATEST_TIME, MEM.CH_CNT.CE, MEM.SRAM_CNT.CE,
      AT.VIO_STATUS.FIRST_VALID, AT.VIO_FIRST_ADDR, AT.VIO_FIRST_INFO.MASTER, AT.VIO_FIRST_TIME, AT.VIO_LATEST_ADDR,
      AT.VIO_LATEST_INFO.INFO, AT.VIO_LATEST_TIME, REC.QUEUE.VALUE, REC.EVT_TOTAL] [.direct] := by
  refine ⟨_, rfl, onlyFields_of fun ga ho hs => ?_⟩; simp only [Off_cons, Off_nil] at ho; simp [ho, hs .direct (by simp)]
theorem execRsqrt_regs (c : Fin 64) (i : Fin 65536) (s : State) :
    ∃ t, execRsqrt c i s = .next t ∧ OnlyFields s t [MEM.CH_RETIRE.RETIRE, MEM.ECC_STATUS.CE, MEM.UE_FIRST_ADDR, MEM.UE_FIRST_INFO.MASTER, MEM.UE_FIRST_TIME,
      MEM.UE_LATEST_ADDR, MEM.UE_LATEST_INFO.INFO, MEM.UE_LATEST_TIME, MEM.CH_CNT.CE, MEM.SRAM_CNT.CE,
      AT.VIO_STATUS.FIRST_VALID, AT.VIO_FIRST_ADDR, AT.VIO_FIRST_INFO.MASTER, AT.VIO_FIRST_TIME, AT.VIO_LATEST_ADDR,
      AT.VIO_LATEST_INFO.INFO, AT.VIO_LATEST_TIME, REC.QUEUE.VALUE, REC.EVT_TOTAL] [.direct] := by
  refine ⟨_, rfl, onlyFields_of fun ga ho hs => ?_⟩; simp only [Off_cons, Off_nil] at ho; simp [ho, hs .direct (by simp)]
theorem execRecip_regs (c : Fin 64) (i : Fin 65536) (s : State) :
    ∃ t, execRecip c i s = .next t ∧ OnlyFields s t [MEM.CH_RETIRE.RETIRE, MEM.ECC_STATUS.CE, MEM.UE_FIRST_ADDR, MEM.UE_FIRST_INFO.MASTER, MEM.UE_FIRST_TIME,
      MEM.UE_LATEST_ADDR, MEM.UE_LATEST_INFO.INFO, MEM.UE_LATEST_TIME, MEM.CH_CNT.CE, MEM.SRAM_CNT.CE,
      AT.VIO_STATUS.FIRST_VALID, AT.VIO_FIRST_ADDR, AT.VIO_FIRST_INFO.MASTER, AT.VIO_FIRST_TIME, AT.VIO_LATEST_ADDR,
      AT.VIO_LATEST_INFO.INFO, AT.VIO_LATEST_TIME, REC.QUEUE.VALUE, REC.EVT_TOTAL] [.direct] := by
  refine ⟨_, rfl, onlyFields_of fun ga ho hs => ?_⟩; simp only [Off_cons, Off_nil] at ho; simp [ho, hs .direct (by simp)]
theorem execSoftmax_regs (c : Fin 64) (i : Fin 65536) (axis : Fin 4) (s : State) :
    ∃ t, execSoftmax c i axis s = .next t ∧ OnlyFields s t [MEM.CH_RETIRE.RETIRE, MEM.ECC_STATUS.CE, MEM.UE_FIRST_ADDR, MEM.UE_FIRST_INFO.MASTER, MEM.UE_FIRST_TIME,
      MEM.UE_LATEST_ADDR, MEM.UE_LATEST_INFO.INFO, MEM.UE_LATEST_TIME, MEM.CH_CNT.CE, MEM.SRAM_CNT.CE,
      AT.VIO_STATUS.FIRST_VALID, AT.VIO_FIRST_ADDR, AT.VIO_FIRST_INFO.MASTER, AT.VIO_FIRST_TIME, AT.VIO_LATEST_ADDR,
      AT.VIO_LATEST_INFO.INFO, AT.VIO_LATEST_TIME, REC.QUEUE.VALUE, REC.EVT_TOTAL] [.direct] := by
  refine ⟨_, rfl, onlyFields_of fun ga ho hs => ?_⟩; simp only [Off_cons, Off_nil] at ho; simp [ho, hs .direct (by simp)]
theorem execLayernorm_regs (c : Fin 64) (i : Fin 65536) (axis : Fin 4) (s : State) :
    ∃ t, execLayernorm c i axis s = .next t ∧ OnlyFields s t [MEM.CH_RETIRE.RETIRE, MEM.ECC_STATUS.CE, MEM.UE_FIRST_ADDR, MEM.UE_FIRST_INFO.MASTER, MEM.UE_FIRST_TIME,
      MEM.UE_LATEST_ADDR, MEM.UE_LATEST_INFO.INFO, MEM.UE_LATEST_TIME, MEM.CH_CNT.CE, MEM.SRAM_CNT.CE,
      AT.VIO_STATUS.FIRST_VALID, AT.VIO_FIRST_ADDR, AT.VIO_FIRST_INFO.MASTER, AT.VIO_FIRST_TIME, AT.VIO_LATEST_ADDR,
      AT.VIO_LATEST_INFO.INFO, AT.VIO_LATEST_TIME, REC.QUEUE.VALUE, REC.EVT_TOTAL] [.direct] := by
  refine ⟨_, rfl, onlyFields_of fun ga ho hs => ?_⟩; simp only [Off_cons, Off_nil] at ho; simp [ho, hs .direct (by simp)]
theorem execRmsnorm_regs (c : Fin 64) (i : Fin 65536) (axis : Fin 4) (s : State) :
    ∃ t, execRmsnorm c i axis s = .next t ∧ OnlyFields s t [MEM.CH_RETIRE.RETIRE, MEM.ECC_STATUS.CE, MEM.UE_FIRST_ADDR, MEM.UE_FIRST_INFO.MASTER, MEM.UE_FIRST_TIME,
      MEM.UE_LATEST_ADDR, MEM.UE_LATEST_INFO.INFO, MEM.UE_LATEST_TIME, MEM.CH_CNT.CE, MEM.SRAM_CNT.CE,
      AT.VIO_STATUS.FIRST_VALID, AT.VIO_FIRST_ADDR, AT.VIO_FIRST_INFO.MASTER, AT.VIO_FIRST_TIME, AT.VIO_LATEST_ADDR,
      AT.VIO_LATEST_INFO.INFO, AT.VIO_LATEST_TIME, REC.QUEUE.VALUE, REC.EVT_TOTAL] [.direct] := by
  refine ⟨_, rfl, onlyFields_of fun ga ho hs => ?_⟩; simp only [Off_cons, Off_nil] at ho; simp [ho, hs .direct (by simp)]
theorem execReduceSum_regs (c : Fin 64) (i : Fin 65536) (mask : Fin 16) (s : State) :
    ∃ t, execReduceSum c i mask s = .next t ∧ OnlyFields s t [MEM.CH_RETIRE.RETIRE, MEM.ECC_STATUS.CE, MEM.UE_FIRST_ADDR, MEM.UE_FIRST_INFO.MASTER, MEM.UE_FIRST_TIME,
      MEM.UE_LATEST_ADDR, MEM.UE_LATEST_INFO.INFO, MEM.UE_LATEST_TIME, MEM.CH_CNT.CE, MEM.SRAM_CNT.CE,
      AT.VIO_STATUS.FIRST_VALID, AT.VIO_FIRST_ADDR, AT.VIO_FIRST_INFO.MASTER, AT.VIO_FIRST_TIME, AT.VIO_LATEST_ADDR,
      AT.VIO_LATEST_INFO.INFO, AT.VIO_LATEST_TIME, REC.QUEUE.VALUE, REC.EVT_TOTAL] [.direct] := by
  refine ⟨_, rfl, onlyFields_of fun ga ho hs => ?_⟩; simp only [Off_cons, Off_nil] at ho; simp [ho, hs .direct (by simp)]
theorem execReduceSumU_regs (c : Fin 64) (i : Fin 65536) (mask : Fin 16) (order : List Nat) (s : State) :
    ∃ t, execReduceSumU c i mask order s = .next t ∧ OnlyFields s t [MEM.CH_RETIRE.RETIRE, MEM.ECC_STATUS.CE, MEM.UE_FIRST_ADDR, MEM.UE_FIRST_INFO.MASTER, MEM.UE_FIRST_TIME,
      MEM.UE_LATEST_ADDR, MEM.UE_LATEST_INFO.INFO, MEM.UE_LATEST_TIME, MEM.CH_CNT.CE, MEM.SRAM_CNT.CE,
      AT.VIO_STATUS.FIRST_VALID, AT.VIO_FIRST_ADDR, AT.VIO_FIRST_INFO.MASTER, AT.VIO_FIRST_TIME, AT.VIO_LATEST_ADDR,
      AT.VIO_LATEST_INFO.INFO, AT.VIO_LATEST_TIME, REC.QUEUE.VALUE, REC.EVT_TOTAL] [.direct] := by
  refine ⟨_, rfl, onlyFields_of fun ga ho hs => ?_⟩; simp only [Off_cons, Off_nil] at ho; simp [ho, hs .direct (by simp)]
theorem execReduceMax_regs (c : Fin 64) (i : Fin 65536) (mask : Fin 16) (s : State) :
    ∃ t, execReduceMax c i mask s = .next t ∧ OnlyFields s t [MEM.CH_RETIRE.RETIRE, MEM.ECC_STATUS.CE, MEM.UE_FIRST_ADDR, MEM.UE_FIRST_INFO.MASTER, MEM.UE_FIRST_TIME,
      MEM.UE_LATEST_ADDR, MEM.UE_LATEST_INFO.INFO, MEM.UE_LATEST_TIME, MEM.CH_CNT.CE, MEM.SRAM_CNT.CE,
      AT.VIO_STATUS.FIRST_VALID, AT.VIO_FIRST_ADDR, AT.VIO_FIRST_INFO.MASTER, AT.VIO_FIRST_TIME, AT.VIO_LATEST_ADDR,
      AT.VIO_LATEST_INFO.INFO, AT.VIO_LATEST_TIME, REC.QUEUE.VALUE, REC.EVT_TOTAL] [.direct] := by
  refine ⟨_, rfl, onlyFields_of fun ga ho hs => ?_⟩; simp only [Off_cons, Off_nil] at ho; simp [ho, hs .direct (by simp)]
theorem execReduceMin_regs (c : Fin 64) (i : Fin 65536) (mask : Fin 16) (s : State) :
    ∃ t, execReduceMin c i mask s = .next t ∧ OnlyFields s t [MEM.CH_RETIRE.RETIRE, MEM.ECC_STATUS.CE, MEM.UE_FIRST_ADDR, MEM.UE_FIRST_INFO.MASTER, MEM.UE_FIRST_TIME,
      MEM.UE_LATEST_ADDR, MEM.UE_LATEST_INFO.INFO, MEM.UE_LATEST_TIME, MEM.CH_CNT.CE, MEM.SRAM_CNT.CE,
      AT.VIO_STATUS.FIRST_VALID, AT.VIO_FIRST_ADDR, AT.VIO_FIRST_INFO.MASTER, AT.VIO_FIRST_TIME, AT.VIO_LATEST_ADDR,
      AT.VIO_LATEST_INFO.INFO, AT.VIO_LATEST_TIME, REC.QUEUE.VALUE, REC.EVT_TOTAL] [.direct] := by
  refine ⟨_, rfl, onlyFields_of fun ga ho hs => ?_⟩; simp only [Off_cons, Off_nil] at ho; simp [ho, hs .direct (by simp)]
theorem execArgmax_regs (c : Fin 64) (i : Fin 65536) (mask : Fin 16) (s : State) :
    ∃ t, execArgmax c i mask s = .next t ∧ OnlyFields s t [MEM.CH_RETIRE.RETIRE, MEM.ECC_STATUS.CE, MEM.UE_FIRST_ADDR, MEM.UE_FIRST_INFO.MASTER, MEM.UE_FIRST_TIME,
      MEM.UE_LATEST_ADDR, MEM.UE_LATEST_INFO.INFO, MEM.UE_LATEST_TIME, MEM.CH_CNT.CE, MEM.SRAM_CNT.CE,
      AT.VIO_STATUS.FIRST_VALID, AT.VIO_FIRST_ADDR, AT.VIO_FIRST_INFO.MASTER, AT.VIO_FIRST_TIME, AT.VIO_LATEST_ADDR,
      AT.VIO_LATEST_INFO.INFO, AT.VIO_LATEST_TIME, REC.QUEUE.VALUE, REC.EVT_TOTAL] [.direct] := by
  refine ⟨_, rfl, onlyFields_of fun ga ho hs => ?_⟩; simp only [Off_cons, Off_nil] at ho; simp [ho, hs .direct (by simp)]
theorem execArgmin_regs (c : Fin 64) (i : Fin 65536) (mask : Fin 16) (s : State) :
    ∃ t, execArgmin c i mask s = .next t ∧ OnlyFields s t [MEM.CH_RETIRE.RETIRE, MEM.ECC_STATUS.CE, MEM.UE_FIRST_ADDR, MEM.UE_FIRST_INFO.MASTER, MEM.UE_FIRST_TIME,
      MEM.UE_LATEST_ADDR, MEM.UE_LATEST_INFO.INFO, MEM.UE_LATEST_TIME, MEM.CH_CNT.CE, MEM.SRAM_CNT.CE,
      AT.VIO_STATUS.FIRST_VALID, AT.VIO_FIRST_ADDR, AT.VIO_FIRST_INFO.MASTER, AT.VIO_FIRST_TIME, AT.VIO_LATEST_ADDR,
      AT.VIO_LATEST_INFO.INFO, AT.VIO_LATEST_TIME, REC.QUEUE.VALUE, REC.EVT_TOTAL] [.direct] := by
  refine ⟨_, rfl, onlyFields_of fun ga ho hs => ?_⟩; simp only [Off_cons, Off_nil] at ho; simp [ho, hs .direct (by simp)]
theorem execCast_regs (c : Fin 64) (i : Fin 65536) (s : State) :
    ∃ t, execCast c i s = .next t ∧ OnlyFields s t [MEM.CH_RETIRE.RETIRE, MEM.ECC_STATUS.CE, MEM.UE_FIRST_ADDR, MEM.UE_FIRST_INFO.MASTER, MEM.UE_FIRST_TIME,
      MEM.UE_LATEST_ADDR, MEM.UE_LATEST_INFO.INFO, MEM.UE_LATEST_TIME, MEM.CH_CNT.CE, MEM.SRAM_CNT.CE,
      AT.VIO_STATUS.FIRST_VALID, AT.VIO_FIRST_ADDR, AT.VIO_FIRST_INFO.MASTER, AT.VIO_FIRST_TIME, AT.VIO_LATEST_ADDR,
      AT.VIO_LATEST_INFO.INFO, AT.VIO_LATEST_TIME, REC.QUEUE.VALUE, REC.EVT_TOTAL] [.direct] := by
  refine ⟨_, rfl, onlyFields_of fun ga ho hs => ?_⟩; simp only [Off_cons, Off_nil] at ho; simp [ho, hs .direct (by simp)]
theorem execCopy_regs (c : Fin 64) (i : Fin 65536) (s : State) :
    ∃ t, execCopy c i s = .next t ∧ OnlyFields s t [MEM.CH_RETIRE.RETIRE, MEM.ECC_STATUS.CE, MEM.UE_FIRST_ADDR, MEM.UE_FIRST_INFO.MASTER, MEM.UE_FIRST_TIME,
      MEM.UE_LATEST_ADDR, MEM.UE_LATEST_INFO.INFO, MEM.UE_LATEST_TIME, MEM.CH_CNT.CE, MEM.SRAM_CNT.CE,
      AT.VIO_STATUS.FIRST_VALID, AT.VIO_FIRST_ADDR, AT.VIO_FIRST_INFO.MASTER, AT.VIO_FIRST_TIME, AT.VIO_LATEST_ADDR,
      AT.VIO_LATEST_INFO.INFO, AT.VIO_LATEST_TIME, REC.QUEUE.VALUE, REC.EVT_TOTAL] [.direct] := by
  refine ⟨_, rfl, onlyFields_of fun ga ho hs => ?_⟩; simp only [Off_cons, Off_nil] at ho; simp [ho, hs .direct (by simp)]
theorem execTranspose_regs (c : Fin 64) (i : Fin 65536) (perm : List Nat) (s : State) :
    ∃ t, execTranspose c i perm s = .next t ∧ OnlyFields s t [MEM.CH_RETIRE.RETIRE, MEM.ECC_STATUS.CE, MEM.UE_FIRST_ADDR, MEM.UE_FIRST_INFO.MASTER, MEM.UE_FIRST_TIME,
      MEM.UE_LATEST_ADDR, MEM.UE_LATEST_INFO.INFO, MEM.UE_LATEST_TIME, MEM.CH_CNT.CE, MEM.SRAM_CNT.CE,
      AT.VIO_STATUS.FIRST_VALID, AT.VIO_FIRST_ADDR, AT.VIO_FIRST_INFO.MASTER, AT.VIO_FIRST_TIME, AT.VIO_LATEST_ADDR,
      AT.VIO_LATEST_INFO.INFO, AT.VIO_LATEST_TIME, REC.QUEUE.VALUE, REC.EVT_TOTAL] [.direct] := by
  refine ⟨_, rfl, onlyFields_of fun ga ho hs => ?_⟩; simp only [Off_cons, Off_nil] at ho; simp [ho, hs .direct (by simp)]
theorem execSlice_regs (c : Fin 64) (i : Fin 65536) (starts : List Nat) (steps : List Nat) (s : State) :
    ∃ t, execSlice c i starts steps s = .next t ∧ OnlyFields s t [MEM.CH_RETIRE.RETIRE, MEM.ECC_STATUS.CE, MEM.UE_FIRST_ADDR, MEM.UE_FIRST_INFO.MASTER, MEM.UE_FIRST_TIME,
      MEM.UE_LATEST_ADDR, MEM.UE_LATEST_INFO.INFO, MEM.UE_LATEST_TIME, MEM.CH_CNT.CE, MEM.SRAM_CNT.CE,
      AT.VIO_STATUS.FIRST_VALID, AT.VIO_FIRST_ADDR, AT.VIO_FIRST_INFO.MASTER, AT.VIO_FIRST_TIME, AT.VIO_LATEST_ADDR,
      AT.VIO_LATEST_INFO.INFO, AT.VIO_LATEST_TIME, REC.QUEUE.VALUE, REC.EVT_TOTAL] [.direct] := by
  refine ⟨_, rfl, onlyFields_of fun ga ho hs => ?_⟩; simp only [Off_cons, Off_nil] at ho; simp [ho, hs .direct (by simp)]
theorem execConcat_regs (c : Fin 64) (i : Fin 65536) (axis : Fin 4) (s : State) :
    ∃ t, execConcat c i axis s = .next t ∧ OnlyFields s t [MEM.CH_RETIRE.RETIRE, MEM.ECC_STATUS.CE, MEM.UE_FIRST_ADDR, MEM.UE_FIRST_INFO.MASTER, MEM.UE_FIRST_TIME,
      MEM.UE_LATEST_ADDR, MEM.UE_LATEST_INFO.INFO, MEM.UE_LATEST_TIME, MEM.CH_CNT.CE, MEM.SRAM_CNT.CE,
      AT.VIO_STATUS.FIRST_VALID, AT.VIO_FIRST_ADDR, AT.VIO_FIRST_INFO.MASTER, AT.VIO_FIRST_TIME, AT.VIO_LATEST_ADDR,
      AT.VIO_LATEST_INFO.INFO, AT.VIO_LATEST_TIME, REC.QUEUE.VALUE, REC.EVT_TOTAL] [.direct] := by
  refine ⟨_, rfl, onlyFields_of fun ga ho hs => ?_⟩; simp only [Off_cons, Off_nil] at ho; simp [ho, hs .direct (by simp)]
theorem execPad_regs (c : Fin 64) (i : Fin 65536) (before : List Nat) (value : Nat) (s : State) :
    ∃ t, execPad c i before value s = .next t ∧ OnlyFields s t [MEM.CH_RETIRE.RETIRE, MEM.ECC_STATUS.CE, MEM.UE_FIRST_ADDR, MEM.UE_FIRST_INFO.MASTER, MEM.UE_FIRST_TIME,
      MEM.UE_LATEST_ADDR, MEM.UE_LATEST_INFO.INFO, MEM.UE_LATEST_TIME, MEM.CH_CNT.CE, MEM.SRAM_CNT.CE,
      AT.VIO_STATUS.FIRST_VALID, AT.VIO_FIRST_ADDR, AT.VIO_FIRST_INFO.MASTER, AT.VIO_FIRST_TIME, AT.VIO_LATEST_ADDR,
      AT.VIO_LATEST_INFO.INFO, AT.VIO_LATEST_TIME, REC.QUEUE.VALUE, REC.EVT_TOTAL] [.direct] := by
  refine ⟨_, rfl, onlyFields_of fun ga ho hs => ?_⟩; simp only [Off_cons, Off_nil] at ho; simp [ho, hs .direct (by simp)]
theorem execGather_regs (c : Fin 64) (i : Fin 65536) (axis : Fin 4) (s : State) :
    ∃ t, execGather c i axis s = .next t ∧ OnlyFields s t [MEM.CH_RETIRE.RETIRE, MEM.ECC_STATUS.CE, MEM.UE_FIRST_ADDR, MEM.UE_FIRST_INFO.MASTER, MEM.UE_FIRST_TIME,
      MEM.UE_LATEST_ADDR, MEM.UE_LATEST_INFO.INFO, MEM.UE_LATEST_TIME, MEM.CH_CNT.CE, MEM.SRAM_CNT.CE,
      AT.VIO_STATUS.FIRST_VALID, AT.VIO_FIRST_ADDR, AT.VIO_FIRST_INFO.MASTER, AT.VIO_FIRST_TIME, AT.VIO_LATEST_ADDR,
      AT.VIO_LATEST_INFO.INFO, AT.VIO_LATEST_TIME, REC.QUEUE.VALUE, REC.EVT_TOTAL] [.direct] := by
  refine ⟨_, rfl, onlyFields_of fun ga ho hs => ?_⟩; simp only [Off_cons, Off_nil] at ho; simp [ho, hs .direct (by simp)]
theorem execScatter_regs (c : Fin 64) (i : Fin 65536) (axis : Fin 4) (s : State) :
    ∃ t, execScatter c i axis s = .next t ∧ OnlyFields s t [MEM.CH_RETIRE.RETIRE, MEM.ECC_STATUS.CE, MEM.UE_FIRST_ADDR, MEM.UE_FIRST_INFO.MASTER, MEM.UE_FIRST_TIME,
      MEM.UE_LATEST_ADDR, MEM.UE_LATEST_INFO.INFO, MEM.UE_LATEST_TIME, MEM.CH_CNT.CE, MEM.SRAM_CNT.CE,
      AT.VIO_STATUS.FIRST_VALID, AT.VIO_FIRST_ADDR, AT.VIO_FIRST_INFO.MASTER, AT.VIO_FIRST_TIME, AT.VIO_LATEST_ADDR,
      AT.VIO_LATEST_INFO.INFO, AT.VIO_LATEST_TIME, REC.QUEUE.VALUE, REC.EVT_TOTAL] [.direct] := by
  refine ⟨_, rfl, onlyFields_of fun ga ho hs => ?_⟩; simp only [Off_cons, Off_nil] at ho; simp [ho, hs .direct (by simp)]
theorem execScatterAdd_regs (c : Fin 64) (i : Fin 65536) (axis : Fin 4) (s : State) :
    ∃ t, execScatterAdd c i axis s = .next t ∧ OnlyFields s t [MEM.CH_RETIRE.RETIRE, MEM.ECC_STATUS.CE, MEM.UE_FIRST_ADDR, MEM.UE_FIRST_INFO.MASTER, MEM.UE_FIRST_TIME,
      MEM.UE_LATEST_ADDR, MEM.UE_LATEST_INFO.INFO, MEM.UE_LATEST_TIME, MEM.CH_CNT.CE, MEM.SRAM_CNT.CE,
      AT.VIO_STATUS.FIRST_VALID, AT.VIO_FIRST_ADDR, AT.VIO_FIRST_INFO.MASTER, AT.VIO_FIRST_TIME, AT.VIO_LATEST_ADDR,
      AT.VIO_LATEST_INFO.INFO, AT.VIO_LATEST_TIME, REC.QUEUE.VALUE, REC.EVT_TOTAL] [.direct] := by
  refine ⟨_, rfl, onlyFields_of fun ga ho hs => ?_⟩; simp only [Off_cons, Off_nil] at ho; simp [ho, hs .direct (by simp)]
theorem execScatterAddU_regs (c : Fin 64) (i : Fin 65536) (axis : Fin 4) (order : List Nat) (s : State) :
    ∃ t, execScatterAddU c i axis order s = .next t ∧ OnlyFields s t [MEM.CH_RETIRE.RETIRE, MEM.ECC_STATUS.CE, MEM.UE_FIRST_ADDR, MEM.UE_FIRST_INFO.MASTER, MEM.UE_FIRST_TIME,
      MEM.UE_LATEST_ADDR, MEM.UE_LATEST_INFO.INFO, MEM.UE_LATEST_TIME, MEM.CH_CNT.CE, MEM.SRAM_CNT.CE,
      AT.VIO_STATUS.FIRST_VALID, AT.VIO_FIRST_ADDR, AT.VIO_FIRST_INFO.MASTER, AT.VIO_FIRST_TIME, AT.VIO_LATEST_ADDR,
      AT.VIO_LATEST_INFO.INFO, AT.VIO_LATEST_TIME, REC.QUEUE.VALUE, REC.EVT_TOTAL] [.direct] := by
  refine ⟨_, rfl, onlyFields_of fun ga ho hs => ?_⟩; simp only [Off_cons, Off_nil] at ho; simp [ho, hs .direct (by simp)]
theorem execStateLoad_regs (c : Fin 64) (i : Fin 65536) (s : State) :
    ∃ t, execStateLoad c i s = .next t ∧ OnlyFields s t [MEM.CH_RETIRE.RETIRE, MEM.ECC_STATUS.CE, MEM.UE_FIRST_ADDR, MEM.UE_FIRST_INFO.MASTER, MEM.UE_FIRST_TIME,
      MEM.UE_LATEST_ADDR, MEM.UE_LATEST_INFO.INFO, MEM.UE_LATEST_TIME, MEM.CH_CNT.CE, MEM.SRAM_CNT.CE,
      AT.VIO_STATUS.FIRST_VALID, AT.VIO_FIRST_ADDR, AT.VIO_FIRST_INFO.MASTER, AT.VIO_FIRST_TIME, AT.VIO_LATEST_ADDR,
      AT.VIO_LATEST_INFO.INFO, AT.VIO_LATEST_TIME, REC.QUEUE.VALUE, REC.EVT_TOTAL] [.direct] := by
  refine ⟨_, rfl, onlyFields_of fun ga ho hs => ?_⟩; simp only [Off_cons, Off_nil] at ho; simp [ho, hs .direct (by simp)]
theorem execStateStore_regs (c : Fin 64) (i : Fin 65536) (s : State) :
    ∃ t, execStateStore c i s = .next t ∧ OnlyFields s t [MEM.CH_RETIRE.RETIRE, MEM.ECC_STATUS.CE, MEM.UE_FIRST_ADDR, MEM.UE_FIRST_INFO.MASTER, MEM.UE_FIRST_TIME,
      MEM.UE_LATEST_ADDR, MEM.UE_LATEST_INFO.INFO, MEM.UE_LATEST_TIME, MEM.CH_CNT.CE, MEM.SRAM_CNT.CE,
      AT.VIO_STATUS.FIRST_VALID, AT.VIO_FIRST_ADDR, AT.VIO_FIRST_INFO.MASTER, AT.VIO_FIRST_TIME, AT.VIO_LATEST_ADDR,
      AT.VIO_LATEST_INFO.INFO, AT.VIO_LATEST_TIME, REC.QUEUE.VALUE, REC.EVT_TOTAL] [.direct] := by
  refine ⟨_, rfl, onlyFields_of fun ga ho hs => ?_⟩; simp only [Off_cons, Off_nil] at ho; simp [ho, hs .direct (by simp)]
theorem execHello_regs (b : Fin 16) (s : State) :
    ∃ t, execHello b s = .next t ∧ OnlyFields s t [MB.STATUS.PENDING] := by
  refine ⟨_, rfl, onlyFields_of fun ga ho hs => ?_⟩
  simp only [Off_cons, Off_nil] at ho
  refine State.mbRun_regs _ _ _ _ _ fun s p => mbCheck_off _ _ _ _ ?_
  dsimp only; (repeat' split) <;> simp [ho]
theorem execPing_regs (b : Fin 16) (s : State) :
    ∃ t, execPing b s = .next t ∧ OnlyFields s t [] := by
  refine ⟨_, rfl, onlyFields_of fun ga ho hs => ?_⟩; simp
theorem execAxisRelease_regs (b : Fin 16) (s : State) :
    ∃ t, execAxisRelease b s = .next t ∧ OnlyFields s t [AX.SAF_STATUS.STATE] := by
  refine ⟨_, rfl, onlyFields_of fun ga ho hs => ?_⟩
  simp only [Off_cons, Off_nil] at ho
  refine State.mbRun_regs _ _ _ _ _ fun s p => mbCheck_off _ _ _ _ ?_
  dsimp only; (repeat' split) <;> simp [ho]
theorem execAxisWithhold_regs (b : Fin 16) (s : State) :
    ∃ t, execAxisWithhold b s = .next t ∧ OnlyFields s t [AX.SAF_STATUS.STATE] := by
  refine ⟨_, rfl, onlyFields_of fun ga ho hs => ?_⟩
  simp only [Off_cons, Off_nil] at ho
  refine State.mbRun_regs _ _ _ _ _ fun s p => mbCheck_off _ _ _ _ ?_
  (repeat' split) <;> simp [ho]
theorem execPxbMap_regs (b : Fin 16) (s : State) :
    ∃ t, execPxbMap b s = .next t ∧ OnlyFields s t [PXB.MAP.AXIS, PXB.STATUS.BUSY, AT.VIO_STATUS.FIRST_VALID, AT.VIO_FIRST_ADDR, AT.VIO_FIRST_INFO.MASTER,
      AT.VIO_FIRST_TIME, AT.VIO_LATEST_ADDR, AT.VIO_LATEST_INFO.INFO, AT.VIO_LATEST_TIME, REC.QUEUE.VALUE, REC.EVT_TOTAL] := by
  refine ⟨_, rfl, onlyFields_of fun ga ho hs => ?_⟩
  simp only [Off_cons, Off_nil] at ho
  refine State.mbRun_regs _ _ _ _ _ fun s p => mbCheck_off _ _ _ _ ?_
  simp [ho]
theorem execCalStart_regs (b : Fin 16) (s : State) :
    ∃ t, execCalStart b s = .next t ∧ OnlyFields s t [AX.ADC_STATUS.CHK_MISM, MF.CAL_CMD.START, MF.CAL_STATUS.BUSY, BUS.STATUS.CHOP_ON, AT.VIO_STATUS.FIRST_VALID,
      AT.VIO_FIRST_ADDR, AT.VIO_FIRST_INFO.MASTER, AT.VIO_FIRST_TIME, AT.VIO_LATEST_ADDR, AT.VIO_LATEST_INFO.INFO,
      AT.VIO_LATEST_TIME, REC.QUEUE.VALUE, REC.EVT_TOTAL] := by
  refine ⟨_, rfl, onlyFields_of fun ga ho hs => ?_⟩
  simp only [Off_cons, Off_nil] at ho
  refine State.mbRun_regs _ _ _ _ _ fun s p => mbCheck_off _ _ _ _ ?_
  simp [ho]
theorem execObsLoad_regs (b : Fin 16) (s : State) :
    ∃ t, execObsLoad b s = .next t ∧ OnlyFields s t [OBS.LOAD_CMD.GO, OBS.LOAD_ADDR.ADDR, OBS.LOAD_STATUS.BUSY, AT.VIO_STATUS.FIRST_VALID, AT.VIO_FIRST_ADDR,
      AT.VIO_FIRST_INFO.MASTER, AT.VIO_FIRST_TIME, AT.VIO_LATEST_ADDR, AT.VIO_LATEST_INFO.INFO, AT.VIO_LATEST_TIME,
      REC.QUEUE.VALUE, REC.EVT_TOTAL] := by
  refine ⟨_, rfl, onlyFields_of fun ga ho hs => ?_⟩
  simp only [Off_cons, Off_nil] at ho
  refine State.mbRun_regs _ _ _ _ _ fun s p => mbCheck_off _ _ _ _ ?_
  have h0 := fun a => State.mbWrite_regs s OBS.LOAD_ADDR.ADDR.base (fun s => s.writeFields OBS.LOAD_ADDR.ADDR.base a) (fun _ => none) ga
    (by simp [ho]) (by simp [ho])
  dsimp only; (repeat' split) <;> simp [ho, h0]
theorem execObsRemove_regs (b : Fin 16) (s : State) :
    ∃ t, execObsRemove b s = .next t ∧ OnlyFields s t [OBS.LOAD_CMD.GO, OBS.LOAD_STATUS.BUSY, AT.VIO_STATUS.FIRST_VALID, AT.VIO_FIRST_ADDR, AT.VIO_FIRST_INFO.MASTER,
      AT.VIO_FIRST_TIME, AT.VIO_LATEST_ADDR, AT.VIO_LATEST_INFO.INFO, AT.VIO_LATEST_TIME, REC.QUEUE.VALUE, REC.EVT_TOTAL] := by
  refine ⟨_, rfl, onlyFields_of fun ga ho hs => ?_⟩
  simp only [Off_cons, Off_nil] at ho
  refine State.mbRun_regs _ _ _ _ _ fun s p => mbCheck_off _ _ _ _ ?_
  simp [ho]
theorem execLaneFence_regs (b : Fin 16) (s : State) :
    ∃ t, execLaneFence b s = .next t ∧ OnlyFields s t [TB.SPEED.SPEED, TB.ANGLE, TB.STAMP, TB.STATUS.STATE, SCH.TARGET, SCH.PRED, SCH.RESID.RESID, SCH.STATUS.STATE,
      AX.PWM_DUTY.D, AX.PWM_STATUS.COMMIT_PEND, AX.FOC_IQ_REF.VALUE, AX.FOC_VD_MAN.VALUE, AX.FOC_VQ_MAN.VALUE,
      AX.FOC_STATUS.SECTOR, AX.FOC_VBUS.VBUS, AX.SPD_REF.REF, AX.SPD_STATUS.AT_TARGET, AX.CMT_STATUS.STATE,
      AX.CMT_CNT.QUALIFIED, AX.CMT_FAIL_CNT.NONE, AX.CMT_CORR.VALUE, AX.CMT_SCORR.VALUE, AX.BUS_ABS.DIQ,
      AX.BUS_STATUS.CFG_REFUSED, AX.OBS_STATUS.MODE, AX.OBS_CNT.EVAL_CNT, AX.OBS_LAST_MISM, AX.OBS_EST_THETA.THETA,
      AX.OBS_EST_OMEGA.OMEGA, AX.OBS_EST_T.T_W, AX.OBS_EST_LOAD.LOAD, AX.OBS_EST_STAMP, AX.OBS_EST_SRC.SRC, OBS.LANES.USABLE,
      OBS.LANE_FENCE.FENCE, OBS.PLAN.SUM, OBS.PPLAN.SUM, OBS.STATUS.DEMOTE, BAB.IN_STATUS.STATE, BAB.IN_POS,
      MEM.CH_RETIRE.RETIRE, MEM.ECC_STATUS.CE, MEM.UE_FIRST_ADDR, MEM.UE_FIRST_INFO.MASTER, MEM.UE_FIRST_TIME,
      MEM.UE_LATEST_ADDR, MEM.UE_LATEST_INFO.INFO, MEM.UE_LATEST_TIME, MEM.CH_CNT.CE, MEM.SRAM_CNT.CE,
      AT.VIO_STATUS.FIRST_VALID, AT.VIO_FIRST_ADDR, AT.VIO_FIRST_INFO.MASTER, AT.VIO_FIRST_TIME, AT.VIO_LATEST_ADDR,
      AT.VIO_LATEST_INFO.INFO, AT.VIO_LATEST_TIME, REC.QUEUE.VALUE, REC.EVT_TOTAL] [.direct] := by
  refine ⟨_, rfl, onlyFields_of fun ga ho hs => ?_⟩
  simp only [Off_cons, Off_nil] at ho
  refine State.mbRun_regs _ _ _ _ _ fun s p => mbCheck_off _ _ _ _ ?_
  simp [ho, hs .direct (by simp)]
theorem execCtxCmd_regs (b : Fin 16) (s : State) :
    ∃ t, execCtxCmd b s = .next t ∧ OnlyFields s t [CTX.STATUS.STATE, CTX.FRAME.FRAME, CTX.OVR_CNT.CNT, TWN.STATUS.PAIRED, MEM.CH_RETIRE.RETIRE, MEM.ECC_STATUS.CE,
      MEM.UE_FIRST_ADDR, MEM.UE_FIRST_INFO.MASTER, MEM.UE_FIRST_TIME, MEM.UE_LATEST_ADDR, MEM.UE_LATEST_INFO.INFO,
      MEM.UE_LATEST_TIME, MEM.CH_CNT.CE, MEM.SRAM_CNT.CE, AT.VIO_STATUS.FIRST_VALID, AT.VIO_FIRST_ADDR,
      AT.VIO_FIRST_INFO.MASTER, AT.VIO_FIRST_TIME, AT.VIO_LATEST_ADDR, AT.VIO_LATEST_INFO.INFO, AT.VIO_LATEST_TIME,
      REC.QUEUE.VALUE, REC.EVT_TOTAL] := by
  refine ⟨_, rfl, onlyFields_of fun ga ho hs => ?_⟩
  simp only [Off_cons, Off_nil] at ho
  refine State.mbRun_regs _ _ _ _ _ fun s p => mbCheck_off _ _ _ _ ?_
  simp [ho]
theorem execEngFence_regs (b : Fin 16) (s : State) :
    ∃ t, execEngFence b s = .next t ∧ OnlyFields s t [INF.ENG_MAP.MAP, INF.ENG_FENCE.FENCE, INF.ENG_STATUS.USABLE, INF.STATUS.UNAVAIL, ENG.STATUS.HOSTS, CTX.STATUS.STATE,
      AT.VIO_STATUS.FIRST_VALID, AT.VIO_FIRST_ADDR, AT.VIO_FIRST_INFO.MASTER, AT.VIO_FIRST_TIME, AT.VIO_LATEST_ADDR,
      AT.VIO_LATEST_INFO.INFO, AT.VIO_LATEST_TIME, REC.QUEUE.VALUE, REC.EVT_TOTAL] := by
  refine ⟨_, rfl, onlyFields_of fun ga ho hs => ?_⟩
  simp only [Off_cons, Off_nil] at ho
  refine State.mbRun_regs _ _ _ _ _ fun s p => mbCheck_off _ _ _ _ ?_
  simp [ho]
theorem execEngReset_regs (b : Fin 16) (s : State) :
    ∃ t, execEngReset b s = .next t ∧ OnlyFields s t [INF.ENG_STATUS.USABLE, ENG.STATUS.HOSTS, CTX.STATUS.STATE, AT.VIO_STATUS.FIRST_VALID, AT.VIO_FIRST_ADDR,
      AT.VIO_FIRST_INFO.MASTER, AT.VIO_FIRST_TIME, AT.VIO_LATEST_ADDR, AT.VIO_LATEST_INFO.INFO, AT.VIO_LATEST_TIME,
      REC.QUEUE.VALUE, REC.EVT_TOTAL, PWR.STATE.STATE] := by
  refine ⟨_, rfl, onlyFields_of fun ga ho hs => ?_⟩
  simp only [Off_cons, Off_nil] at ho
  refine State.mbRun_regs _ _ _ _ _ fun s p => mbCheck_off _ _ _ _ ?_
  simp [ho]
theorem execMemRetire_regs (b : Fin 16) (s : State) :
    ∃ t, execMemRetire b s = .next t ∧ OnlyFields s t [MEM.CH_RETIRE.RETIRE, AT.VIO_STATUS.FIRST_VALID, AT.VIO_FIRST_ADDR, AT.VIO_FIRST_INFO.MASTER, AT.VIO_FIRST_TIME,
      AT.VIO_LATEST_ADDR, AT.VIO_LATEST_INFO.INFO, AT.VIO_LATEST_TIME, REC.QUEUE.VALUE, REC.EVT_TOTAL] := by
  refine ⟨_, rfl, onlyFields_of fun ga ho hs => ?_⟩
  simp only [Off_cons, Off_nil] at ho
  refine State.mbRun_regs _ _ _ _ _ fun s p => mbCheck_off _ _ _ _ ?_
  exact State.mbWrite_regs _ _ _ _ _ (by simp [ho]) (by simp [ho])
theorem execPowerState_regs (b : Fin 16) (s : State) :
    ∃ t, execPowerState b s = .next t ∧ OnlyFields s t [] := by
  refine ⟨_, rfl, onlyFields_of fun ga ho hs => ?_⟩; simp
theorem execMbReply_regs (b : Fin 16) (s : State) :
    ∃ t, execMbReply b s = .next t ∧ OnlyFields s t [TB.SPEED.SPEED, TB.ANGLE, TB.STAMP, TB.STATUS.STATE, SCH.TARGET, SCH.PRED, SCH.RESID.RESID, SCH.STATUS.STATE,
      AX.PWM_CTRL.EN, AX.FOC_CTRL.RUN, AX.SPD_DERATE.TQ, AX.CMT_STATUS.STATE, AX.SAF_STATUS.STATE, ENG.STATUS.HOSTS,
      CTX.STATUS.STATE, CTX.FRAME.FRAME, CTX.LAST_CODE.CODE, CTX.LAST_TRIG, CTX.LAST_DONE, CTX.CLK_LAST.CLK, CTX.CLK_MAX.CLK,
      CTX.Q_STATUS.CLIP_ALARM, CTX.Q_CLIP.CNT, CTX.Q_ELEM.CNT, CTX.Q_NAN.CNT, CTX.Q_DEV.CNT, CTX.Q_WORST.SHARE,
      CTX.Q_HIST.FILL_MIN, CTX.Q_CLIP_TOT, CTX.Q_ELEM_TOT, CTX.Q_NAN_TOT, CTX.DIG_STATUS.HAS_U, CTX.TRACE_CTRL.ARM,
      CTX.TWIN_MISM_TIME, Q.PROD.PROD, Q.TAKE.TAKE, Q.RET.RET, Q.CREDITS.CREDITS, Q.STATUS.NO_CREDIT, Q.LAST_POST,
      Q.POSTS.SEQ, Q.SLOTS.POST_SLOT, BAB.IN_STATUS.STATE, BAB.IN_POS, TWN.STATUS.PAIRED, MEM.CH_RETIRE.RETIRE,
      MEM.ECC_STATUS.CE, MEM.UE_FIRST_ADDR, MEM.UE_FIRST_INFO.MASTER, MEM.UE_FIRST_TIME, MEM.UE_LATEST_ADDR,
      MEM.UE_LATEST_INFO.INFO, MEM.UE_LATEST_TIME, MEM.CH_CNT.CE, MEM.SRAM_CNT.CE, AT.VIO_STATUS.FIRST_VALID,
      AT.VIO_FIRST_ADDR, AT.VIO_FIRST_INFO.MASTER, AT.VIO_FIRST_TIME, AT.VIO_LATEST_ADDR, AT.VIO_LATEST_INFO.INFO,
      AT.VIO_LATEST_TIME, MB.GLOBAL.READY, MB.REP.DATA, MB.STATUS.PENDING, SAF.STATUS.STATE, SAF.GROUP_STATE.LOW,
      SAF.FAULT_LAST.CODE, SAF.FAULT_TIME, BIST.STATUS.STEP, REC.QUEUE.VALUE, REC.EVT_TOTAL, SEC.ATT_STATUS.BUSY,
      PWR.STATE.STATE] [.direct] := by
  unfold execMbReply; (try dsimp only); (repeat' (split <;> try (rename_i heq; have hs := congrArg (fun x => x.1) heq; simp only at hs; subst hs))) <;> (refine ⟨_, rfl, onlyFields_of fun ga ho hs => ?_⟩; simp only [Off_cons, Off_nil] at ho; simp [ho, hs .direct (by simp)])
theorem execMbCommandTimeout_regs (b : Fin 16) (s : State) :
    ∃ t, execMbCommandTimeout b s = .next t ∧ OnlyFields s t [MB.GLOBAL.READY, MB.REP.DATA, MB.STATUS.PENDING] := by
  unfold execMbCommandTimeout; (repeat' split) <;> (refine ⟨_, rfl, onlyFields_of fun ga ho hs => ?_⟩; simp only [Off_cons, Off_nil] at ho; simp [ho])

end Sys2Proof.Machine
end

