-- ==== Sys2Proof/Laws/Keep2.lean ====
section
/-!
SUPPORT. What the operations of Memory, BabRing, BabFrame, Context, Program, Tensor, EngMatrix, Quantiser, Threads keep: DEVICE TIME, the queue of
commands, and memory, or its canonical form where they write it.
-/
set_option linter.all false
namespace Sys2Proof.Machine

@[simp] theorem State.fxAtWin_keep (s : State) (t : Nat) (a : Nat) (v : Nat) :
    (State.fxAtWin s t a v).1.dtime = s.dtime ∧ (State.fxAtWin s t a v).1.pending = s.pending ∧ (State.fxAtWin s t a v).1.mem = s.mem := by
  simp [State.fxAtWin]
@[simp] theorem State.regWrite_keep (s : State) (m : Nat) (a : Nat) (v : Nat) :
    (State.regWrite s m a v).1.dtime = s.dtime ∧ (State.regWrite s m a v).1.pending = s.pending := by
  unfold State.regWrite; dsimp only; (repeat' split) <;> simp
@[simp] theorem State.regWrite_wf (s : State) (m : Nat) (a : Nat) (v : Nat) (h : Memory.wf s.mem = true) : Memory.wf (State.regWrite s m a v).1.mem = true := by
  unfold State.regWrite; dsimp only; (repeat' split) <;> simp [h]
@[simp] theorem State.readPiece_keep (s : State) (m : Nat) (a : Nat) (n : Nat) :
    (State.readPiece s m a n).1.dtime = s.dtime ∧ (State.readPiece s m a n).1.pending = s.pending ∧ (State.readPiece s m a n).1.mem = s.mem := by
  unfold State.readPiece; (try dsimp only); (repeat' (split <;> try (rename_i heq; have hs := congrArg (fun x => x.1) heq; simp only at hs; subst hs))) <;> simp
@[simp] theorem State.writePiece_keep (s : State) (m : Nat) (a : Nat) (d : List Nat) :
    (State.writePiece s m a d).1.dtime = s.dtime ∧ (State.writePiece s m a d).1.pending = s.pending := by
  unfold State.writePiece; split <;> simp
@[simp] theorem State.writePiece_wf (s : State) (m a : Nat) (d : List Nat) (h : Memory.wf s.mem = true) : Memory.wf (s.writePiece m a d).1.mem = true := by
  unfold State.writePiece
  (repeat' split) <;> simp [h]
@[simp] theorem State.readPieces_keep (s : State) (m : Nat) (acc : List Nat) (l : List (Nat × Nat)) :
    (s.readPieces m acc l).1.dtime = s.dtime ∧ (s.readPieces m acc l).1.pending = s.pending ∧ (s.readPieces m acc l).1.mem = s.mem := by
  induction l generalizing s acc with
  | nil => exact ⟨rfl, rfl, rfl⟩
  | cons p t ih =>
    have k := State.readPiece_keep s m p.1 p.2
    unfold State.readPieces
    split <;> simp_all
@[simp] theorem State.masterRead_keep (s : State) (m : Nat) (a : Nat) (n : Nat) :
    (State.masterRead s m a n).1.dtime = s.dtime ∧ (State.masterRead s m a n).1.pending = s.pending ∧ (State.masterRead s m a n).1.mem = s.mem := by
  simp [State.masterRead]
@[simp] theorem State.rangeRead_keep (s : State) (m : Nat) (a : Nat) (n : Nat) :
    (State.rangeRead s m a n).1.dtime = s.dtime ∧ (State.rangeRead s m a n).1.pending = s.pending ∧ (State.rangeRead s m a n).1.mem = s.mem := by
  unfold State.rangeRead; split <;> simp
@[simp] theorem State.qFetch_keep (s : State) (m : Nat) (q : Nat) :
    (State.qFetch s m q).1.dtime = s.dtime ∧ (State.qFetch s m q).1.pending = s.pending ∧ (State.qFetch s m q).1.mem = s.mem := by
  unfold State.qFetch; (try dsimp only); (repeat' (split <;> try (rename_i heq; have hs := congrArg (fun x => x.1) heq; simp only at hs; subst hs))) <;> simp
@[simp] theorem State.writePieces_keep (s : State) (m : Nat) (d : List Nat) (l : List (Nat × Nat)) :
    (s.writePieces m d l).1.dtime = s.dtime ∧ (s.writePieces m d l).1.pending = s.pending := by
  induction l generalizing s d with
  | nil => exact ⟨rfl, rfl⟩
  | cons p t ih =>
    have k := State.writePiece_keep s m p.1 (d.take p.2)
    unfold State.writePieces
    split <;> simp_all
@[simp] theorem State.writePieces_wf (s : State) (m : Nat) (d : List Nat) (l : List (Nat × Nat)) (h : Memory.wf s.mem = true) :
    Memory.wf (s.writePieces m d l).1.mem = true := by
  induction l generalizing s d with
  | nil => exact h
  | cons p t ih =>
    have k := State.writePiece_wf s m p.1 (d.take p.2) h
    unfold State.writePieces
    split <;> simp_all
@[simp] theorem State.masterWrite_keep (s : State) (m : Nat) (a : Nat) (d : List Nat) :
    (State.masterWrite s m a d).1.dtime = s.dtime ∧ (State.masterWrite s m a d).1.pending = s.pending := by
  simp [State.masterWrite]
@[simp] theorem State.masterWrite_wf (s : State) (m : Nat) (a : Nat) (d : List Nat) (h : Memory.wf s.mem = true) : Memory.wf (State.masterWrite s m a d).1.mem = true := by
  simp [State.masterWrite, h]
@[simp] theorem State.babShow_keep (s : State) (v : Nat) :
    (State.babShow s v).dtime = s.dtime ∧ (State.babShow s v).pending = s.pending ∧ (State.babShow s v).mem = s.mem := by
  simp [State.babShow]
@[simp] theorem State.babRestart_keep (s : State) (v : Nat) :
    (State.babRestart s v).dtime = s.dtime ∧ (State.babRestart s v).pending = s.pending ∧ (State.babRestart s v).mem = s.mem := by
  simp [State.babRestart]
@[simp] theorem State.babStore_keep (s : State) (v : Nat) (p : BabPt) :
    (State.babStore s v p).dtime = s.dtime ∧ (State.babStore s v p).pending = s.pending := by
  simp [State.babStore]
@[simp] theorem State.babStore_wf (s : State) (v : Nat) (p : BabPt) (h : Memory.wf s.mem = true) : Memory.wf (State.babStore s v p).mem = true := by
  simp [State.babStore, h]
@[simp] theorem State.babLoad_keep (s : State) (v : Nat) (a : List BabPt) :
    (State.babLoad s v a).1.dtime = s.dtime ∧ (State.babLoad s v a).1.pending = s.pending ∧ (State.babLoad s v a).1.mem = s.mem := by
  induction a generalizing s with
  | nil => exact ⟨rfl, rfl, rfl⟩
  | cons p t ih => rw [State.babLoad]; dsimp only; split <;> simp [ih]
@[simp] theorem State.babResolve_keep (s : State) (v : Nat) :
    (State.babResolve s v).dtime = s.dtime ∧ (State.babResolve s v).pending = s.pending := by
  unfold State.babResolve; dsimp only; (repeat' split) <;> simp
@[simp] theorem State.babResolve_wf (s : State) (v : Nat) (h : Memory.wf s.mem = true) : Memory.wf (State.babResolve s v).mem = true := by
  unfold State.babResolve; dsimp only; (repeat' split) <;> simp_all
@[simp] theorem State.babInUpdate_keep (s : State) (v : Nat) (t : Nat) (s0 : Nat) (a0 : Int) (s1 : Nat) (a1 : Int) (big : Bool) :
    (State.babInUpdate s v t s0 a0 s1 a1 big).dtime = s.dtime ∧ (State.babInUpdate s v t s0 a0 s1 a1 big).pending = s.pending := by
  unfold State.babInUpdate; dsimp only; (repeat' split) <;> simp
@[simp] theorem State.babInUpdate_wf (s : State) (v : Nat) (t : Nat) (s0 : Nat) (a0 : Int) (s1 : Nat) (a1 : Int) (big : Bool) (h : Memory.wf s.mem = true) : Memory.wf (State.babInUpdate s v t s0 a0 s1 a1 big).mem = true := by
  unfold State.babInUpdate; dsimp only; (repeat' split) <;> simp [h]
@[simp] theorem State.babTbUpdate_keep (s : State) (t : Nat) (s0 : Nat) (a0 : Int) (s1 : Nat) (a1 : Int) (big : Bool) :
    (State.babTbUpdate s t s0 a0 s1 a1 big).dtime = s.dtime ∧ (State.babTbUpdate s t s0 a0 s1 a1 big).pending = s.pending := by
  simp [State.babTbUpdate]
@[simp] theorem State.babTbUpdate_wf (s : State) (t : Nat) (s0 : Nat) (a0 : Int) (s1 : Nat) (a1 : Int) (big : Bool) (h : Memory.wf s.mem = true) : Memory.wf (State.babTbUpdate s t s0 a0 s1 a1 big).mem = true := by
  unfold State.babTbUpdate; refine State.forEach_wf _ _ _ (fun _ _ h => ?_) h; (repeat' split) <;> simp_all
@[simp] theorem State.babTbLost_keep (s : State) (t : Nat) :
    (State.babTbLost s t).dtime = s.dtime ∧ (State.babTbLost s t).pending = s.pending ∧ (State.babTbLost s t).mem = s.mem := by
  simp [State.babTbLost]
@[simp] theorem State.babSample_keep (s : State) (v : Nat) (stamp : Nat) (code : Int) (uncal : Bool) (ovr : Bool) :
    (State.babSample s v stamp code uncal ovr).dtime = s.dtime ∧ (State.babSample s v stamp code uncal ovr).pending = s.pending := by
  simp [State.babSample]
@[simp] theorem State.babSample_wf (s : State) (v : Nat) (stamp : Nat) (code : Int) (uncal : Bool) (ovr : Bool) (h : Memory.wf s.mem = true) : Memory.wf (State.babSample s v stamp code uncal ovr).mem = true := by
  simp [State.babSample, h]
@[simp] theorem State.babWindow_keep (s : State) (c : Nat) (at_ : Nat) (v : Nat) :
    (State.babWindow s c at_ v).1.dtime = s.dtime ∧ (State.babWindow s c at_ v).1.pending = s.pending ∧ (State.babWindow s c at_ v).1.mem = s.mem := by
  simp [State.babWindow]
@[simp] theorem State.babWindows_keep (s : State) (c at_ : Nat) (a : List Nat) :
    (State.babWindows s c at_ a).1.dtime = s.dtime ∧ (State.babWindows s c at_ a).1.pending = s.pending ∧ (State.babWindows s c at_ a).1.mem = s.mem := by
  induction a generalizing s with
  | nil => exact ⟨rfl, rfl, rfl⟩
  | cons v t ih => rw [State.babWindows]; simp [ih]
@[simp] theorem State.babClose_keep (s : State) (c : Nat) (frame : Nat) (stamp : Nat) :
    (State.babClose s c frame stamp).dtime = s.dtime ∧ (State.babClose s c frame stamp).pending = s.pending ∧ (State.babClose s c frame stamp).mem = s.mem := by
  simp [State.babClose]
@[simp] theorem State.updFrame_keep (s : State) (c : Nat) (f : Frame → Frame) :
    (State.updFrame s c f).dtime = s.dtime ∧ (State.updFrame s c f).pending = s.pending ∧ (State.updFrame s c f).mem = s.mem := by
  simp [State.updFrame]
@[simp] theorem State.writeParts_keep (s : State) (a : List (Nat × Nat)) (d : List Nat) :
    (State.writeParts s a d).dtime = s.dtime ∧ (State.writeParts s a d).pending = s.pending := by
  induction a generalizing s d with
  | nil => exact ⟨rfl, rfl⟩
  | cons r t ih => rw [State.writeParts]; simp [ih]
@[simp] theorem State.writeParts_wf (s : State) (a : List (Nat × Nat)) (d : List Nat) (h : Memory.wf s.mem = true) : Memory.wf (State.writeParts s a d).mem = true := by
  induction a generalizing s d with
  | nil => exact h
  | cons r t ih => rw [State.writeParts]; exact ih _ _ (by simp [h])
@[simp] theorem State.writeCopy_keep (s : State) (c : Nat) (work : Bool) (d : List Nat) :
    (State.writeCopy s c work d).dtime = s.dtime ∧ (State.writeCopy s c work d).pending = s.pending := by
  simp [State.writeCopy]
@[simp] theorem State.writeCopy_wf (s : State) (c : Nat) (work : Bool) (d : List Nat) (h : Memory.wf s.mem = true) : Memory.wf (State.writeCopy s c work d).mem = true := by
  simp [State.writeCopy, h]
@[simp] theorem State.ueDrop_keep (s : State) (l : List (Nat × Nat)) :
    (State.ueDrop s l).dtime = s.dtime ∧ (State.ueDrop s l).pending = s.pending ∧ (State.ueDrop s l).mem = s.mem := by
  simp [State.ueDrop]
@[simp] theorem State.eccScan_keep (s : State) (m : Nat) (l : List (Nat × Nat)) :
    (State.eccScan s m l).1.dtime = s.dtime ∧ (State.eccScan s m l).1.pending = s.pending ∧ (State.eccScan s m l).1.mem = s.mem := by
  simp [State.eccScan]
@[simp] theorem State.startState_keep (s : State) (c : Nat) :
    (State.startState s c).1.dtime = s.dtime ∧ (State.startState s c).1.pending = s.pending := by
  unfold State.startState; (try dsimp only); (repeat' (split <;> try (rename_i heq; have hs := congrArg (fun x => x.1) heq; simp only at hs; subst hs))) <;> simp
@[simp] theorem State.startState_wf (s : State) (c : Nat) (h : Memory.wf s.mem = true) : Memory.wf (State.startState s c).1.mem = true := by
  unfold State.startState; (try dsimp only); (repeat' (split <;> try (rename_i heq; have hs := congrArg (fun x => x.1) heq; simp only at hs; subst hs))) <;> simp [h]
@[simp] theorem State.engCount_keep (s : State) (p : Nat) :
    (State.engCount s p).dtime = s.dtime ∧ (State.engCount s p).pending = s.pending ∧ (State.engCount s p).mem = s.mem := by
  simp [State.engCount]
@[simp] theorem State.engShow_keep (s : State) (p : Nat) :
    (State.engShow s p).dtime = s.dtime ∧ (State.engShow s p).pending = s.pending ∧ (State.engShow s p).mem = s.mem := by
  simp [State.engShow]
@[simp] theorem State.chargeTile_keep (s : State) (t : TileH) (start : Nat) :
    (State.chargeTile s t start).dtime = s.dtime ∧ (State.chargeTile s t start).pending = s.pending ∧ (State.chargeTile s t start).mem = s.mem := by
  simp [State.chargeTile]
@[simp] theorem State.dropEngine_keep (s : State) (p : Nat) (keep : TileH → Bool) :
    (State.dropEngine s p keep).dtime = s.dtime ∧ (State.dropEngine s p keep).pending = s.pending ∧ (State.dropEngine s p keep).mem = s.mem := by
  unfold State.dropEngine; dsimp only; (repeat' split) <;> simp
@[simp] theorem State.replan_keep (s : State) :
    (State.replan s).dtime = s.dtime ∧ (State.replan s).pending = s.pending ∧ (State.replan s).mem = s.mem := by
  simp [State.replan]
@[simp] theorem State.startFrame_keep (s : State) (c : Nat) (t : Trig) :
    (State.startFrame s c t).dtime = s.dtime ∧ (State.startFrame s c t).pending = s.pending := by
  unfold State.startFrame; split <;> simp
@[simp] theorem State.startFrame_wf (s : State) (c : Nat) (t : Trig) (h : Memory.wf s.mem = true) : Memory.wf (State.startFrame s c t).mem = true := by
  unfold State.startFrame; split <;> simp [h]
@[simp] theorem State.trigger_keep (s : State) (c : Nat) (t : Trig) :
    (State.trigger s c t).1.dtime = s.dtime ∧ (State.trigger s c t).1.pending = s.pending := by
  unfold State.trigger; dsimp only; (repeat' split) <;> simp
@[simp] theorem State.trigger_wf (s : State) (c : Nat) (t : Trig) (h : Memory.wf s.mem = true) : Memory.wf (State.trigger s c t).1.mem = true := by
  unfold State.trigger; dsimp only; (repeat' split) <;> simp [h]
@[simp] theorem State.failFrame_keep (s : State) (c : Nat) (code : Nat) :
    (State.failFrame s c code).dtime = s.dtime ∧ (State.failFrame s c code).pending = s.pending ∧ (State.failFrame s c code).mem = s.mem := by
  simp [State.failFrame]
@[simp] theorem State.noInput_keep (s : State) (c : Nat) (frame : Nat) :
    (State.noInput s c frame).dtime = s.dtime ∧ (State.noInput s c frame).pending = s.pending ∧ (State.noInput s c frame).mem = s.mem := by
  simp [State.noInput]
@[simp] theorem State.loadCheck_keep (s : State) (c : Nat) :
    (State.loadCheck s c).1.dtime = s.dtime ∧ (State.loadCheck s c).1.pending = s.pending ∧ (State.loadCheck s c).1.mem = s.mem := by
  unfold State.loadCheck; (try dsimp only); (repeat' (split <;> try (rename_i heq; have hs := congrArg (fun x => x.1) heq; simp only at hs; subst hs))) <;> simp
@[simp] theorem State.memFail_keep (s : State) (c : Nat) (a : MemRes) :
    (State.memFail s c a).dtime = s.dtime ∧ (State.memFail s c a).pending = s.pending ∧ (State.memFail s c a).mem = s.mem := by
  unfold State.memFail; split <;> simp
@[simp] theorem State.readTensor_keep (s : State) (c l : Nat) (p : Prog) (k : Nat) :
    (s.readTensor c l p k).1.dtime = s.dtime ∧ (s.readTensor c l p k).1.pending = s.pending ∧ (s.readTensor c l p k).1.mem = s.mem := by
  unfold State.readTensor
  dsimp only
  split
  · exact ⟨rfl, rfl, rfl⟩
  · rename_i f _
    have hk := State.masterRead_keep s (s.ctxMaster c l) (s.tensorAddr c f (p.tensor k)) (p.tensor k).bytes
    (repeat' split) <;> simp_all
@[simp] theorem State.writeTensor_keep (s : State) (c : Nat) (l : Nat) (p : Prog) (k : Nat) (d : List Nat) :
    (State.writeTensor s c l p k d).dtime = s.dtime ∧ (State.writeTensor s c l p k d).pending = s.pending := by
  unfold State.writeTensor; split <;> simp
@[simp] theorem State.writeTensor_wf (s : State) (c : Nat) (l : Nat) (p : Prog) (k : Nat) (d : List Nat) (h : Memory.wf s.mem = true) : Memory.wf (State.writeTensor s c l p k d).mem = true := by
  unfold State.writeTensor; dsimp only; (repeat' split) <;> simp [h]
@[simp] theorem State.opDone_keep (s : State) (c : Nat) (i : Nat) (d : List Nat) :
    (State.opDone s c i d).dtime = s.dtime ∧ (State.opDone s c i d).pending = s.pending ∧ (State.opDone s c i d).mem = s.mem := by
  simp [State.opDone]
@[simp] theorem State.readOpnds_keep (s : State) (c l : Nat) (p : Prog) (ks : List Nat) :
    (s.readOpnds c l p ks).1.dtime = s.dtime ∧ (s.readOpnds c l p ks).1.pending = s.pending ∧ (s.readOpnds c l p ks).1.mem = s.mem := by
  induction ks generalizing s with
  | nil => exact ⟨rfl, rfl, rfl⟩
  | cons k t ih =>
    have hk := State.readTensor_keep s c l p k
    unfold State.readOpnds
    split
    · simp_all
    · rename_i s' d e
      have hi := ih s'
      split <;> simp_all
@[simp] theorem State.opWrite_keep (s : State) (c : Nat) (p : Prog) (o : OpDef) (dat : List (List Nat)) :
    (State.opWrite s c p o dat).dtime = s.dtime ∧ (State.opWrite s c p o dat).pending = s.pending := by
  simp [State.opWrite]
@[simp] theorem State.opWrite_wf (s : State) (c : Nat) (p : Prog) (o : OpDef) (dat : List (List Nat)) (h : Memory.wf s.mem = true) : Memory.wf (State.opWrite s c p o dat).mem = true := by
  simp +contextual [State.opWrite, h]
@[simp] theorem State.opCount_keep (s : State) (c : Nat) (o : OpDef) (x : OpRes) :
    (State.opCount s c o x).dtime = s.dtime ∧ (State.opCount s c o x).pending = s.pending := by
  unfold State.opCount; dsimp only; (repeat' split) <;> simp
@[simp] theorem State.opCount_wf (s : State) (c : Nat) (o : OpDef) (x : OpRes) (h : Memory.wf s.mem = true) : Memory.wf (State.opCount s c o x).mem = true := by
  unfold State.opCount; dsimp only; (repeat' split) <;> simp [h]
@[simp] theorem State.runOp_keep (s : State) (c i code : Nat) (g : Prog → OpDef → Frame → List Opnd → Option OpRes) :
    (s.runOp c i code g).dtime = s.dtime ∧ (s.runOp c i code g).pending = s.pending := by
  unfold State.runOp
  split
  · exact ⟨rfl, rfl⟩
  · rename_i p o f _
    have hk := State.readOpnds_keep s c o.logical p o.ins
    split
    · simp
    · (repeat' split) <;> simp_all
@[simp] theorem State.runOp_wf (s : State) (c i code : Nat) (g : Prog → OpDef → Frame → List Opnd → Option OpRes) (h : Memory.wf s.mem = true) :
    Memory.wf (s.runOp c i code g).mem = true := by
  unfold State.runOp
  split
  · exact h
  · rename_i p o f _
    have hk := State.readOpnds_keep s c o.logical p o.ins
    split
    · simp [h]
    · (repeat' split) <;> simp_all
@[simp] theorem State.quantRec_keep (s : State) (c : Nat) (p : Prog) (o : OpDef) (work : Bool) :
    (State.quantRec s c p o work).1.dtime = s.dtime ∧ (State.quantRec s c p o work).1.pending = s.pending ∧ (State.quantRec s c p o work).1.mem = s.mem := by
  unfold State.quantRec; (try dsimp only); (repeat' (split <;> try (rename_i heq; have hs := congrArg (fun x => x.1) heq; simp only at hs; subst hs))) <;> simp
@[simp] theorem State.runRec_keep (s : State) (c i code : Nat) (work : Bool) (g : List Nat → Prog → OpDef → Frame → List Opnd → Option OpRes) :
    (State.runRec s c i code work g).dtime = s.dtime ∧ (State.runRec s c i code work g).pending = s.pending := by
  unfold State.runRec
  split
  · simp
  · split
    · simp
    · have hk := fun p o => State.quantRec_keep s c p o work
      split <;> (rename_i heq; have hs := congrArg (fun x => x.1) heq; simp only at hs; subst hs; simp)
@[simp] theorem State.runRec_wf (s : State) (c i code : Nat) (work : Bool) (g : List Nat → Prog → OpDef → Frame → List Opnd → Option OpRes)
    (h : Memory.wf s.mem = true) : Memory.wf (State.runRec s c i code work g).mem = true := by
  unfold State.runRec
  split
  · simp [h]
  · split
    · simp [h]
    · split <;> (rename_i heq; have hs := congrArg (fun x => x.1) heq; simp only at hs; subst hs; simp [h])
@[simp] theorem State.quantReport_keep (s : State) (c : Nat) (p : Prog) (f : Frame) :
    (State.quantReport s c p f).dtime = s.dtime ∧ (State.quantReport s c p f).pending = s.pending ∧ (State.quantReport s c p f).mem = s.mem := by
  simp [State.quantReport]
@[simp] theorem State.showFill_keep (s : State) (c : Nat) (p : Prog) :
    (State.showFill s c p).dtime = s.dtime ∧ (State.showFill s c p).pending = s.pending ∧ (State.showFill s c p).mem = s.mem := by
  unfold State.showFill; dsimp only; (repeat' split) <;> simp
@[simp] theorem State.threadPeek_keep (s : State) (c : Nat) (l : Nat) (q : Nat) :
    (State.threadPeek s c l q).1.dtime = s.dtime ∧ (State.threadPeek s c l q).1.pending = s.pending ∧ (State.threadPeek s c l q).1.mem = s.mem := by
  unfold State.threadPeek; (try dsimp only); (repeat' (split <;> try (rename_i heq; have hs := congrArg (fun x => x.1) heq; simp only at hs; subst hs))) <;> simp
@[simp] theorem State.threadPost_keep (s : State) (c : Nat) (l : Nat) (q : Nat) (d : Desc) :
    (State.threadPost s c l q d).1.dtime = s.dtime ∧ (State.threadPost s c l q d).1.pending = s.pending := by
  unfold State.threadPost; (try dsimp only); (repeat' (split <;> try (rename_i heq; have hs := congrArg (fun x => x.1) heq; simp only at hs; subst hs))) <;> simp
@[simp] theorem State.threadPost_wf (s : State) (c : Nat) (l : Nat) (q : Nat) (d : Desc) (h : Memory.wf s.mem = true) : Memory.wf (State.threadPost s c l q d).1.mem = true := by
  unfold State.threadPost; (try dsimp only); (repeat' (split <;> try (rename_i heq; have hs := congrArg (fun x => x.1) heq; simp only at hs; subst hs))) <;> simp [h]
@[simp] theorem State.opWait_keep (s : State) (c : Nat) (i : Nat) :
    (State.opWait s c i).dtime = s.dtime ∧ (State.opWait s c i).pending = s.pending ∧ (State.opWait s c i).mem = s.mem := by
  unfold State.opWait; (try dsimp only); (repeat' (split <;> try (rename_i heq; have hs := congrArg (fun x => x.1) heq; simp only at hs; subst hs))) <;> simp
@[simp] theorem State.opPost_keep (s : State) (c : Nat) (i : Nat) :
    (State.opPost s c i).dtime = s.dtime ∧ (State.opPost s c i).pending = s.pending := by
  unfold State.opPost; (try dsimp only); (repeat' (split <;> try (rename_i heq; have hs := congrArg (fun x => x.1) heq; simp only at hs; subst hs))) <;> simp
@[simp] theorem State.opPost_wf (s : State) (c : Nat) (i : Nat) (h : Memory.wf s.mem = true) : Memory.wf (State.opPost s c i).mem = true := by
  unfold State.opPost; (try dsimp only); (repeat' (split <;> try (rename_i heq; have hs := congrArg (fun x => x.1) heq; simp only at hs; subst hs))) <;> simp [h]
@[simp] theorem State.opRetire_keep (s : State) (c : Nat) (i : Nat) :
    (State.opRetire s c i).dtime = s.dtime ∧ (State.opRetire s c i).pending = s.pending ∧ (State.opRetire s c i).mem = s.mem := by
  unfold State.opRetire; split <;> simp
@[simp] theorem State.opDma_keep (s : State) (c : Nat) (i : Nat) (q : Nat) (done : Nat) (src : Nat) (dst : Nat) (len : Nat) :
    (State.opDma s c i q done src dst len).dtime = s.dtime ∧ (State.opDma s c i q done src dst len).pending = s.pending := by
  unfold State.opDma; (try dsimp only); (repeat' (split <;> try (rename_i heq; have hs := congrArg (fun x => x.1) heq; simp only at hs; subst hs))) <;> simp
@[simp] theorem State.opDma_wf (s : State) (c : Nat) (i : Nat) (q : Nat) (done : Nat) (src : Nat) (dst : Nat) (len : Nat) (h : Memory.wf s.mem = true) : Memory.wf (State.opDma s c i q done src dst len).mem = true := by
  unfold State.opDma; (try dsimp only); (repeat' (split <;> try (rename_i heq; have hs := congrArg (fun x => x.1) heq; simp only at hs; subst hs))) <;> simp [h]
@[simp] theorem State.opBarrier_keep (s : State) (c : Nat) (i : Nat) (mask : Nat) :
    (State.opBarrier s c i mask).dtime = s.dtime ∧ (State.opBarrier s c i mask).pending = s.pending ∧ (State.opBarrier s c i mask).mem = s.mem := by
  unfold State.opBarrier; split <;> simp
@[simp] theorem State.opResult_keep (s : State) (c : Nat) (i : Nat) :
    (State.opResult s c i).dtime = s.dtime ∧ (State.opResult s c i).pending = s.pending ∧ (State.opResult s c i).mem = s.mem := by
  unfold State.opResult; (try dsimp only); (repeat' (split <;> try (rename_i heq; have hs := congrArg (fun x => x.1) heq; simp only at hs; subst hs))) <;> simp
@[simp] theorem State.opNop_keep (s : State) (c : Nat) (i : Nat) :
    (State.opNop s c i).dtime = s.dtime ∧ (State.opNop s c i).pending = s.pending ∧ (State.opNop s c i).mem = s.mem := by
  unfold State.opNop; split <;> simp

end Sys2Proof.Machine
end

