-- ==== Sys2Proof/Laws/Keep3.lean ====
section
/-!
SUPPORT. What the operations of Monitor, Hk, Slots, Timebase keep: DEVICE TIME, the queue of
commands, and memory, or its canonical form where they write it.
-/
set_option linter.all false
namespace Sys2Proof.Machine

@[simp] theorem State.monAdd_keep (s : State) (k : Nat) (v : Int) (stamp : Nat) (ovr : Bool) :
    (State.monAdd s k v stamp ovr).dtime = s.dtime ∧ (State.monAdd s k v stamp ovr).pending = s.pending ∧ (State.monAdd s k v stamp ovr).mem = s.mem := by
  simp [State.monAdd]
@[simp] theorem State.monSnap_keep (s : State) (k : Nat) :
    (State.monSnap s k).dtime = s.dtime ∧ (State.monSnap s k).pending = s.pending ∧ (State.monSnap s k).mem = s.mem := by
  simp [State.monSnap]
@[simp] theorem State.fxMonCtrl_keep (s : State) (k : Nat) (v : Nat) :
    (State.fxMonCtrl s k v).1.dtime = s.dtime ∧ (State.fxMonCtrl s k v).1.pending = s.pending ∧ (State.fxMonCtrl s k v).1.mem = s.mem := by
  simp [State.fxMonCtrl]
@[simp] theorem State.hkIdle_keep (s : State) (k : Nat) :
    (State.hkIdle s k).dtime = s.dtime ∧ (State.hkIdle s k).pending = s.pending ∧ (State.hkIdle s k).mem = s.mem := by
  simp [State.hkIdle]
@[simp] theorem State.hkEntry_keep (s : State) (k : Nat) (e : Nat) (t : Nat) :
    (State.hkEntry s k e t).dtime = s.dtime ∧ (State.hkEntry s k e t).pending = s.pending ∧ (State.hkEntry s k e t).mem = s.mem := by
  simp [State.hkEntry]
@[simp] theorem State.hkPass_keep (s : State) (k : Nat) (t : Nat) :
    (State.hkPass s k t).dtime = s.dtime ∧ (State.hkPass s k t).pending = s.pending ∧ (State.hkPass s k t).mem = s.mem := by
  unfold State.hkPass; split <;> simp
@[simp] theorem State.hkWake_keep (s : State) (k : Nat) :
    (State.hkWake s k).dtime = s.dtime ∧ (State.hkWake s k).pending = s.pending ∧ (State.hkWake s k).mem = s.mem := by
  simp [State.hkWake]
@[simp] theorem State.hkStart_keep (s : State) (k : Nat) :
    (State.hkStart s k).dtime = s.dtime ∧ (State.hkStart s k).pending = s.pending ∧ (State.hkStart s k).mem = s.mem := by
  simp [State.hkStart]
@[simp] theorem State.hkResume_keep (s : State) (k : Nat) (t : Nat) :
    (State.hkResume s k t).dtime = s.dtime ∧ (State.hkResume s k t).pending = s.pending ∧ (State.hkResume s k t).mem = s.mem := by
  unfold State.hkResume; dsimp only; (repeat' split) <;> simp
@[simp] theorem State.hkAfterEntry_keep (s : State) (k : Nat) (t : Nat) :
    (State.hkAfterEntry s k t).dtime = s.dtime ∧ (State.hkAfterEntry s k t).pending = s.pending ∧ (State.hkAfterEntry s k t).mem = s.mem := by
  unfold State.hkAfterEntry; dsimp only; (repeat' split) <;> simp
@[simp] theorem State.hkConv_keep (s : State) (k : Nat) (raw : Int) (st : Nat) (t : Nat) :
    (State.hkConv s k raw st t).dtime = s.dtime ∧ (State.hkConv s k raw st t).pending = s.pending ∧ (State.hkConv s k raw st t).mem = s.mem := by
  simp [State.hkConv]
@[simp] theorem State.hkUrgDone_keep (s : State) (k : Nat) (u : HkUrg) (t0 : Nat) (raw : Int) :
    (State.hkUrgDone s k u t0 raw).dtime = s.dtime ∧ (State.hkUrgDone s k u t0 raw).pending = s.pending ∧ (State.hkUrgDone s k u t0 raw).mem = s.mem := by
  simp [State.hkUrgDone]
@[simp] theorem State.hkSeqDone_keep (s : State) (k : Nat) (raw : Int) :
    (State.hkSeqDone s k raw).dtime = s.dtime ∧ (State.hkSeqDone s k raw).pending = s.pending ∧ (State.hkSeqDone s k raw).mem = s.mem := by
  unfold State.hkSeqDone; dsimp only; (repeat' split) <;> simp
@[simp] theorem State.hkUrgent_keep (s : State) (k : Nat) (ch : Nat) (exc : Nat) (acq : Nat) (safety : Bool) :
    (State.hkUrgent s k ch exc acq safety).dtime = s.dtime ∧ (State.hkUrgent s k ch exc acq safety).pending = s.pending ∧ (State.hkUrgent s k ch exc acq safety).mem = s.mem := by
  unfold State.hkUrgent; dsimp only; (repeat' split) <;> simp
@[simp] theorem State.fxHkCtrl_keep (s : State) (k : Nat) (v : Nat) :
    (State.fxHkCtrl s k v).1.dtime = s.dtime ∧ (State.fxHkCtrl s k v).1.pending = s.pending ∧ (State.fxHkCtrl s k v).1.mem = s.mem := by
  simp [State.fxHkCtrl]
@[simp] theorem State.fxHkUrgent_keep (s : State) (k : Nat) (v : Nat) :
    (State.fxHkUrgent s k v).1.dtime = s.dtime ∧ (State.fxHkUrgent s k v).1.pending = s.pending ∧ (State.fxHkUrgent s k v).1.mem = s.mem := by
  simp [State.fxHkUrgent]
@[simp] theorem State.slotWait_keep (s : State) (k : Nat) :
    (State.slotWait s k).dtime = s.dtime ∧ (State.slotWait s k).pending = s.pending ∧ (State.slotWait s k).mem = s.mem := by
  simp [State.slotWait]
@[simp] theorem State.slotArm_keep (s : State) (k : Nat) (c : Nat) (late : Bool) :
    (State.slotArm s k c late).dtime = s.dtime ∧ (State.slotArm s k c late).pending = s.pending ∧ (State.slotArm s k c late).mem = s.mem := by
  simp [State.slotArm]
@[simp] theorem State.slotIdle_keep (s : State) (k : Nat) :
    (State.slotIdle s k).dtime = s.dtime ∧ (State.slotIdle s k).pending = s.pending ∧ (State.slotIdle s k).mem = s.mem := by
  simp [State.slotIdle]
@[simp] theorem State.slotBacklog_keep (s : State) (k : Nat) (c : Nat) (n : Nat) :
    (State.slotBacklog s k c n).dtime = s.dtime ∧ (State.slotBacklog s k c n).pending = s.pending ∧ (State.slotBacklog s k c n).mem = s.mem := by
  simp [State.slotBacklog]
@[simp] theorem State.slotPredict_keep (s : State) (k : Nat) (angle : Int) (stamp : Nat) (c : Nat) (prev : Option Int) :
    (State.slotPredict s k angle stamp c prev).dtime = s.dtime ∧ (State.slotPredict s k angle stamp c prev).pending = s.pending ∧ (State.slotPredict s k angle stamp c prev).mem = s.mem := by
  unfold State.slotPredict; split <;> simp
@[simp] theorem State.slotArmNow_keep (s : State) (k : Nat) :
    (State.slotArmNow s k).dtime = s.dtime ∧ (State.slotArmNow s k).pending = s.pending ∧ (State.slotArmNow s k).mem = s.mem := by
  simp [State.slotArmNow]
@[simp] theorem State.slotTake_keep (s : State) (k : Nat) (x : Nat) (angle : Int) (stamp : Nat) (c : Nat) (prev : Int) :
    (State.slotTake s k x angle stamp c prev).dtime = s.dtime ∧ (State.slotTake s k x angle stamp c prev).pending = s.pending ∧ (State.slotTake s k x angle stamp c prev).mem = s.mem := by
  simp [State.slotTake]
@[simp] theorem State.slotsTbUpdate_keep (s : State) (t : Nat) (prev : Int) :
    (s.slotsTbUpdate t prev).dtime = s.dtime ∧ (s.slotsTbUpdate t prev).pending = s.pending ∧ (s.slotsTbUpdate t prev).mem = s.mem := by
  unfold State.slotsTbUpdate
  refine ⟨State.forEach_dtime _ _ _ fun s k => ?_, State.forEach_pending _ _ _ fun s k => ?_, State.forEach_mem _ _ _ fun s k => ?_⟩ <;>
    dsimp only <;> (repeat' split) <;> simp
@[simp] theorem State.slotsTbLost_keep (s : State) (t : Nat) :
    (State.slotsTbLost s t).dtime = s.dtime ∧ (State.slotsTbLost s t).pending = s.pending ∧ (State.slotsTbLost s t).mem = s.mem := by
  simp [State.slotsTbLost]
@[simp] theorem State.slotsResid_keep (s : State) (t : Nat) :
    (s.slotsResid t).dtime = s.dtime ∧ (s.slotsResid t).pending = s.pending ∧ (s.slotsResid t).mem = s.mem := by
  unfold State.slotsResid
  refine ⟨State.forEach_dtime _ _ _ fun s k => ?_, State.forEach_pending _ _ _ fun s k => ?_, State.forEach_mem _ _ _ fun s k => ?_⟩ <;>
    dsimp only <;> (repeat' split) <;> simp
@[simp] theorem State.slotAction_keep (s : State) (k : Nat) (target : Nat) :
    (State.slotAction s k target).dtime = s.dtime ∧ (State.slotAction s k target).pending = s.pending := by
  unfold State.slotAction; dsimp only; (repeat' split) <;> simp
@[simp] theorem State.slotAction_wf (s : State) (k : Nat) (target : Nat) (h : Memory.wf s.mem = true) : Memory.wf (State.slotAction s k target).mem = true := by
  unfold State.slotAction; dsimp only; (repeat' split) <;> simp [h]
@[simp] theorem State.slotAdvance_keep (s : State) (k : Nat) (target : Nat) :
    (State.slotAdvance s k target).dtime = s.dtime ∧ (State.slotAdvance s k target).pending = s.pending ∧ (State.slotAdvance s k target).mem = s.mem := by
  simp [State.slotAdvance]
@[simp] theorem State.fxSchCfg_keep (s : State) (k : Nat) (v : Nat) :
    (State.fxSchCfg s k v).1.dtime = s.dtime ∧ (State.fxSchCfg s k v).1.pending = s.pending ∧ (State.fxSchCfg s k v).1.mem = s.mem := by
  simp [State.fxSchCfg]
@[simp] theorem State.fxSchTargetHi_keep (s : State) (k : Nat) (v : Nat) :
    (State.fxSchTargetHi s k v).1.dtime = s.dtime ∧ (State.fxSchTargetHi s k v).1.pending = s.pending ∧ (State.fxSchTargetHi s k v).1.mem = s.mem := by
  simp [State.fxSchTargetHi]
@[simp] theorem State.tbSetState_keep (s : State) (t : Nat) (new : Nat) (event : Bool) :
    (State.tbSetState s t new event).dtime = s.dtime ∧ (State.tbSetState s t new event).pending = s.pending ∧ (State.tbSetState s t new event).mem = s.mem := by
  simp [State.tbSetState]
@[simp] theorem State.tbWrite_keep (s : State) (t : Nat) (ang : Int) (spd : Int) (stamp : Nat) (corr : Bool) :
    (State.tbWrite s t ang spd stamp corr).dtime = s.dtime ∧ (State.tbWrite s t ang spd stamp corr).pending = s.pending := by
  simp [State.tbWrite]
@[simp] theorem State.tbWrite_wf (s : State) (t : Nat) (ang : Int) (spd : Int) (stamp : Nat) (corr : Bool) (h : Memory.wf s.mem = true) : Memory.wf (State.tbWrite s t ang spd stamp corr).mem = true := by
  simp [State.tbWrite, h]
@[simp] theorem State.tbSource_keep (s : State) (t : Nat) (prim : Bool) (ang : Int) (spd : Int) (stamp : Nat) :
    (State.tbSource s t prim ang spd stamp).1.dtime = s.dtime ∧ (State.tbSource s t prim ang spd stamp).1.pending = s.pending := by
  simp [State.tbSource]
@[simp] theorem State.tbSource_wf (s : State) (t : Nat) (prim : Bool) (ang : Int) (spd : Int) (stamp : Nat) (h : Memory.wf s.mem = true) : Memory.wf (State.tbSource s t prim ang spd stamp).1.mem = true := by
  unfold State.tbSource; dsimp only; (repeat' split) <;> simp [h]
@[simp] theorem State.tbOffer_keep (s : State) (t : Nat) (src : Nat) (ang : Int) (spd : Int) (stamp : Nat) :
    (State.tbOffer s t src ang spd stamp).1.dtime = s.dtime ∧ (State.tbOffer s t src ang spd stamp).1.pending = s.pending := by
  simp [State.tbOffer]
@[simp] theorem State.tbOffer_wf (s : State) (t : Nat) (src : Nat) (ang : Int) (spd : Int) (stamp : Nat) (h : Memory.wf s.mem = true) : Memory.wf (State.tbOffer s t src ang spd stamp).1.mem = true := by
  unfold State.tbOffer; dsimp only; (repeat' split) <;> simp [h]
@[simp] theorem State.tbOfferRef_keep (s : State) (x : Nat) (stamp : Nat) :
    (State.tbOfferRef s x stamp).1.dtime = s.dtime ∧ (State.tbOfferRef s x stamp).1.pending = s.pending := by
  simp [State.tbOfferRef]
@[simp] theorem State.tbOfferRef_wf (s : State) (x : Nat) (stamp : Nat) (h : Memory.wf s.mem = true) : Memory.wf (State.tbOfferRef s x stamp).1.mem = true := by
  unfold State.tbOfferRef; dsimp only; (repeat' split) <;> simp [h]
@[simp] theorem State.tbTake_keep (s : State) (x : Nat) :
    (State.tbTake s x).1.dtime = s.dtime ∧ (State.tbTake s x).1.pending = s.pending := by
  simp [State.tbTake]
@[simp] theorem State.tbTake_wf (s : State) (x : Nat) (h : Memory.wf s.mem = true) : Memory.wf (State.tbTake s x).1.mem = true := by
  simp [State.tbTake, h]
@[simp] theorem State.tbInherit_keep (s : State) (n t : Nat) :
    (s.tbInherit n t).dtime = s.dtime ∧ (s.tbInherit n t).pending = s.pending := by
  induction n generalizing s t with
  | zero => exact ⟨rfl, rfl⟩
  | succ n ih =>
    unfold State.tbInherit
    refine ⟨State.forEach_dtime _ _ _ fun s k => ?_, State.forEach_pending _ _ _ fun s k => ?_⟩ <;>
      dsimp only <;> split <;> simp [ih]
@[simp] theorem State.tbInherit_wf (s : State) (n t : Nat) (h : Memory.wf s.mem = true) : Memory.wf (s.tbInherit n t).mem = true := by
  induction n generalizing s t with
  | zero => exact h
  | succ n ih =>
    unfold State.tbInherit
    refine State.forEach_wf _ _ _ (fun s k h => ?_) h
    dsimp only
    split
    · exact ih _ _ (by simp [h])
    · simp [h]
@[simp] theorem State.tbPropagate_keep (s : State) (n t : Nat) (ch : Bool) :
    (s.tbPropagate n t ch).dtime = s.dtime ∧ (s.tbPropagate n t ch).pending = s.pending := by
  induction n generalizing s t ch with
  | zero => exact ⟨rfl, rfl⟩
  | succ n ih =>
    unfold State.tbPropagate
    refine ⟨State.forEach_dtime _ _ _ fun s k => ?_, State.forEach_pending _ _ _ fun s k => ?_⟩ <;>
      dsimp only <;> (repeat' split) <;> simp [ih]
@[simp] theorem State.tbPropagate_wf (s : State) (n t : Nat) (ch : Bool) (h : Memory.wf s.mem = true) : Memory.wf (s.tbPropagate n t ch).mem = true := by
  induction n generalizing s t ch with
  | zero => exact h
  | succ n ih =>
    unfold State.tbPropagate
    refine State.forEach_wf _ _ _ (fun s k h => ?_) h
    have e : Memory.wf (s.tbOfferRef k (s.rd TB.STAMP t)).1.mem = true := by simp [h]
    dsimp only
    split
    · exact ih _ _ _ e
    · split
      · split
        · exact State.tbInherit_wf _ _ _ (State.tbTake_wf _ _ e)
        · exact State.tbTake_wf _ _ e
      · exact e
@[simp] theorem State.tbUpdate_keep (s : State) (t : Nat) (src : Nat) (ang : Int) (spd : Int) (stamp : Nat) :
    (State.tbUpdate s t src ang spd stamp).dtime = s.dtime ∧ (State.tbUpdate s t src ang spd stamp).pending = s.pending := by
  simp [State.tbUpdate]
@[simp] theorem State.tbUpdate_wf (s : State) (t : Nat) (src : Nat) (ang : Int) (spd : Int) (stamp : Nat) (h : Memory.wf s.mem = true) : Memory.wf (State.tbUpdate s t src ang spd stamp).mem = true := by
  unfold State.tbUpdate; dsimp only; (repeat' split) <;> simp [h]
@[simp] theorem State.tbFreeze_keep (s : State) (t : Nat) :
    (State.tbFreeze s t).dtime = s.dtime ∧ (State.tbFreeze s t).pending = s.pending ∧ (State.tbFreeze s t).mem = s.mem := by
  simp [State.tbFreeze]
@[simp] theorem State.tbEnterLost_keep (s : State) (t : Nat) :
    (State.tbEnterLost s t).dtime = s.dtime ∧ (State.tbEnterLost s t).pending = s.pending := by
  simp [State.tbEnterLost]
@[simp] theorem State.tbEnterLost_wf (s : State) (t : Nat) (h : Memory.wf s.mem = true) : Memory.wf (State.tbEnterLost s t).mem = true := by
  simp [State.tbEnterLost, h]
@[simp] theorem State.tbEnterHold_keep (s : State) (t : Nat) :
    (State.tbEnterHold s t).dtime = s.dtime ∧ (State.tbEnterHold s t).pending = s.pending := by
  simp [State.tbEnterHold]
@[simp] theorem State.tbEnterHold_wf (s : State) (t : Nat) (h : Memory.wf s.mem = true) : Memory.wf (State.tbEnterHold s t).mem = true := by
  simp [State.tbEnterHold, h]
@[simp] theorem State.tbPrimaryFails_keep (s : State) (t : Nat) :
    (State.tbPrimaryFails s t).dtime = s.dtime ∧ (State.tbPrimaryFails s t).pending = s.pending := by
  simp [State.tbPrimaryFails]
@[simp] theorem State.tbPrimaryFails_wf (s : State) (t : Nat) (h : Memory.wf s.mem = true) : Memory.wf (State.tbPrimaryFails s t).mem = true := by
  unfold State.tbPrimaryFails; split <;> simp [h]
@[simp] theorem State.tbAxisLost_keep (s : State) (n : Nat) :
    (State.tbAxisLost s n).dtime = s.dtime ∧ (State.tbAxisLost s n).pending = s.pending := by
  simp [State.tbAxisLost]
@[simp] theorem State.tbAxisLost_wf (s : State) (n : Nat) (h : Memory.wf s.mem = true) : Memory.wf (State.tbAxisLost s n).mem = true := by
  simp [State.tbAxisLost, h]
@[simp] theorem State.tbEnterOff_keep (s : State) (t : Nat) :
    (State.tbEnterOff s t).dtime = s.dtime ∧ (State.tbEnterOff s t).pending = s.pending := by
  simp [State.tbEnterOff]
@[simp] theorem State.tbEnterOff_wf (s : State) (t : Nat) (h : Memory.wf s.mem = true) : Memory.wf (State.tbEnterOff s t).mem = true := by
  simp [State.tbEnterOff, h]
@[simp] theorem State.tbRestart_keep (s : State) (t : Nat) :
    (State.tbRestart s t).dtime = s.dtime ∧ (State.tbRestart s t).pending = s.pending := by
  simp [State.tbRestart]
@[simp] theorem State.tbRestart_wf (s : State) (t : Nat) (h : Memory.wf s.mem = true) : Memory.wf (State.tbRestart s t).mem = true := by
  unfold State.tbRestart; dsimp only; (repeat' split) <;> simp_all
@[simp] theorem State.fxTbCfg_keep (s : State) (t : Nat) (v : Nat) :
    (State.fxTbCfg s t v).1.dtime = s.dtime ∧ (State.fxTbCfg s t v).1.pending = s.pending := by
  simp [State.fxTbCfg]
@[simp] theorem State.fxTbCfg_wf (s : State) (t : Nat) (v : Nat) (h : Memory.wf s.mem = true) : Memory.wf (State.fxTbCfg s t v).1.mem = true := by
  simp [State.fxTbCfg, h]
@[simp] theorem State.fxTbRatio_keep (s : State) (t : Nat) (v : Nat) :
    (State.fxTbRatio s t v).1.dtime = s.dtime ∧ (State.fxTbRatio s t v).1.pending = s.pending := by
  simp [State.fxTbRatio]
@[simp] theorem State.fxTbRatio_wf (s : State) (t : Nat) (v : Nat) (h : Memory.wf s.mem = true) : Memory.wf (State.fxTbRatio s t v).1.mem = true := by
  simp [State.fxTbRatio, h]
@[simp] theorem State.fxTbSpeed_keep (s : State) (t : Nat) (v : Nat) :
    (State.fxTbSpeed s t v).1.dtime = s.dtime ∧ (State.fxTbSpeed s t v).1.pending = s.pending ∧ (State.fxTbSpeed s t v).1.mem = s.mem := by
  simp [State.fxTbSpeed]
@[simp] theorem State.fxTbAngleLo_keep (s : State) (t : Nat) (v : Nat) :
    (State.fxTbAngleLo s t v).1.dtime = s.dtime ∧ (State.fxTbAngleLo s t v).1.pending = s.pending ∧ (State.fxTbAngleLo s t v).1.mem = s.mem := by
  simp [State.fxTbAngleLo]
@[simp] theorem State.fxTbAngleHi_keep (s : State) (t : Nat) (v : Nat) :
    (State.fxTbAngleHi s t v).1.dtime = s.dtime ∧ (State.fxTbAngleHi s t v).1.pending = s.pending := by
  simp [State.fxTbAngleHi]
@[simp] theorem State.fxTbAngleHi_wf (s : State) (t : Nat) (v : Nat) (h : Memory.wf s.mem = true) : Memory.wf (State.fxTbAngleHi s t v).1.mem = true := by
  simp [State.fxTbAngleHi, h]
@[simp] theorem State.tachCorrect_keep (s : State) (t : Nat) (stamp : Nat) :
    (State.tachCorrect s t stamp).dtime = s.dtime ∧ (State.tachCorrect s t stamp).pending = s.pending := by
  simp [State.tachCorrect]
@[simp] theorem State.tachCorrect_wf (s : State) (t : Nat) (stamp : Nat) (h : Memory.wf s.mem = true) : Memory.wf (State.tachCorrect s t stamp).mem = true := by
  simp [State.tachCorrect, h]
@[simp] theorem State.tachPulse_keep (s : State) (k : Nat) (stamp : Nat) :
    (State.tachPulse s k stamp).dtime = s.dtime ∧ (State.tachPulse s k stamp).pending = s.pending := by
  simp [State.tachPulse]
@[simp] theorem State.tachPulse_wf (s : State) (k : Nat) (stamp : Nat) (h : Memory.wf s.mem = true) : Memory.wf (State.tachPulse s k stamp).mem = true := by
  unfold State.tachPulse; refine State.forEach_wf _ _ _ (fun _ _ h => ?_) h; (repeat' split) <;> simp_all
@[simp] theorem State.ssiUpdate_keep (s : State) (k : Nat) (ang : Int) (stamp : Nat) :
    (State.ssiUpdate s k ang stamp).dtime = s.dtime ∧ (State.ssiUpdate s k ang stamp).pending = s.pending := by
  simp [State.ssiUpdate]
@[simp] theorem State.ssiUpdate_wf (s : State) (k : Nat) (ang : Int) (stamp : Nat) (h : Memory.wf s.mem = true) : Memory.wf (State.ssiUpdate s k ang stamp).mem = true := by
  unfold State.ssiUpdate; refine State.forEach_wf _ _ _ (fun _ _ h => ?_) h; (repeat' split) <;> simp_all
@[simp] theorem State.lsyncUpdate_keep (s : State) (stamp : Nat) (p : Nat) :
    (State.lsyncUpdate s stamp p).dtime = s.dtime ∧ (State.lsyncUpdate s stamp p).pending = s.pending := by
  simp [State.lsyncUpdate]
@[simp] theorem State.lsyncUpdate_wf (s : State) (stamp : Nat) (p : Nat) (h : Memory.wf s.mem = true) : Memory.wf (State.lsyncUpdate s stamp p).mem = true := by
  unfold State.lsyncUpdate; refine State.forEach_wf _ _ _ (fun _ _ h => ?_) h; (repeat' split) <;> simp_all
@[simp] theorem State.lsyncRef_keep (s : State) (stamp : Nat) (q : Option Nat) (p : Nat) :
    (State.lsyncRef s stamp q p).dtime = s.dtime ∧ (State.lsyncRef s stamp q p).pending = s.pending ∧ (State.lsyncRef s stamp q p).mem = s.mem := by
  simp [State.lsyncRef]
@[simp] theorem State.fxTachCfg_keep (s : State) (k : Nat) (v : Nat) :
    (State.fxTachCfg s k v).1.dtime = s.dtime ∧ (State.fxTachCfg s k v).1.pending = s.pending ∧ (State.fxTachCfg s k v).1.mem = s.mem := by
  simp [State.fxTachCfg]
@[simp] theorem State.fxLsyncCfg_keep (s : State) (v : Nat) :
    (State.fxLsyncCfg s v).1.dtime = s.dtime ∧ (State.fxLsyncCfg s v).1.pending = s.pending ∧ (State.fxLsyncCfg s v).1.mem = s.mem := by
  simp [State.fxLsyncCfg]

end Sys2Proof.Machine
end

