-- ==== Sys2Proof/Laws/Keep4.lean ====
section
/-!
SUPPORT. What the operations of Axis, FrameEnd keep: DEVICE TIME, the queue of
commands, and memory, or its canonical form where they write it.
-/
set_option linter.all false
namespace Sys2Proof.Machine

@[simp] theorem State.cmtState_keep (s : State) (n : Nat) (st : Nat) :
    (State.cmtState s n st).dtime = s.dtime ∧ (State.cmtState s n st).pending = s.pending ∧ (State.cmtState s n st).mem = s.mem := by
  simp [State.cmtState]
@[simp] theorem State.startEnd_keep (s : State) (n : Nat) (result : Nat) :
    (State.startEnd s n result).dtime = s.dtime ∧ (State.startEnd s n result).pending = s.pending ∧ (State.startEnd s n result).mem = s.mem := by
  simp [State.startEnd]
@[simp] theorem State.windowDrop_keep (s : State) (n : Nat) :
    (State.windowDrop s n).dtime = s.dtime ∧ (State.windowDrop s n).pending = s.pending ∧ (State.windowDrop s n).mem = s.mem := by
  unfold State.windowDrop; split <;> simp
@[simp] theorem State.axisOff_keep (s : State) (n : Nat) (asc : Nat) (result : Nat) :
    (State.axisOff s n asc result).dtime = s.dtime ∧ (State.axisOff s n asc result).pending = s.pending ∧ (State.axisOff s n asc result).mem = s.mem := by
  simp [State.axisOff]
@[simp] theorem State.axisSto_keep (s : State) (n : Nat) :
    (State.axisSto s n).dtime = s.dtime ∧ (State.axisSto s n).pending = s.pending := by
  simp [State.axisSto]
@[simp] theorem State.axisSto_wf (s : State) (n : Nat) (h : Memory.wf s.mem = true) : Memory.wf (State.axisSto s n).mem = true := by
  simp [State.axisSto, h]
@[simp] theorem State.stoOutputs_keep (s : State) :
    (State.stoOutputs s).dtime = s.dtime ∧ (State.stoOutputs s).pending = s.pending ∧ (State.stoOutputs s).mem = s.mem := by
  simp [State.stoOutputs]
@[simp] theorem State.stoSet_keep (s : State) (code : Nat) (gs : List Nat) :
    (State.stoSet s code gs).dtime = s.dtime ∧ (State.stoSet s code gs).pending = s.pending := by
  simp [State.stoSet]
@[simp] theorem State.stoSet_wf (s : State) (code : Nat) (gs : List Nat) (h : Memory.wf s.mem = true) : Memory.wf (State.stoSet s code gs).mem = true := by
  unfold State.stoSet
  have k : ∀ (s : State) (l : List Nat), Memory.wf s.mem = true → Memory.wf (s.forEach l fun s n => s.axisSto n).mem = true :=
    fun s l h => State.forEach_wf _ _ _ (fun _ _ h => by simp [h]) h
  simp only [State.stoOutputs_keep]
  refine State.forEach_wf _ _ _ (fun _ _ h => k _ _ (by simp [h])) ?_
  split <;> simp [h]
@[simp] theorem State.stoEval_keep (s : State) (code : Nat) :
    (State.stoEval s code).dtime = s.dtime ∧ (State.stoEval s code).pending = s.pending := by
  simp [State.stoEval]
@[simp] theorem State.stoEval_wf (s : State) (code : Nat) (h : Memory.wf s.mem = true) : Memory.wf (State.stoEval s code).mem = true := by
  unfold State.stoEval
  refine State.stoSet_wf _ _ _ (State.forEach_wf _ _ _ (fun _ _ h => ?_) h)
  split <;> simp [h]
@[simp] theorem State.axStoReq_keep (s : State) (n : Nat) (code : Nat) :
    (State.axStoReq s n code).dtime = s.dtime ∧ (State.axStoReq s n code).pending = s.pending := by
  simp [State.axStoReq]
@[simp] theorem State.axStoReq_wf (s : State) (n : Nat) (code : Nat) (h : Memory.wf s.mem = true) : Memory.wf (State.axStoReq s n code).mem = true := by
  simp [State.axStoReq, h]
@[simp] theorem State.ss1Start_keep (s : State) (n : Nat) (code : Nat) :
    (State.ss1Start s n code).dtime = s.dtime ∧ (State.ss1Start s n code).pending = s.pending := by
  simp [State.ss1Start]
@[simp] theorem State.ss1Start_wf (s : State) (n : Nat) (code : Nat) (h : Memory.wf s.mem = true) : Memory.wf (State.ss1Start s n code).mem = true := by
  unfold State.ss1Start; split <;> simp [h]
@[simp] theorem State.react_keep (s : State) (n : Nat) (code : Nat) (r : Nat) :
    (State.react s n code r).dtime = s.dtime ∧ (State.react s n code r).pending = s.pending := by
  simp [State.react]
@[simp] theorem State.react_wf (s : State) (n : Nat) (code : Nat) (r : Nat) (h : Memory.wf s.mem = true) : Memory.wf (State.react s n code r).mem = true := by
  unfold State.react; dsimp only; (repeat' split) <;> simp [h]
@[simp] theorem State.faultShow_keep (s : State) (f : FaultH) :
    (State.faultShow s f).dtime = s.dtime ∧ (State.faultShow s f).pending = s.pending ∧ (State.faultShow s f).mem = s.mem := by
  simp [State.faultShow]
@[simp] theorem State.faultTake_keep (s : State) (fs : List FaultH) :
    (State.faultTake s fs).dtime = s.dtime ∧ (State.faultTake s fs).pending = s.pending := by
  simp [State.faultTake]
@[simp] theorem State.faultTake_wf (s : State) (fs : List FaultH) (h : Memory.wf s.mem = true) : Memory.wf (s.faultTake fs).mem = true := by
  unfold State.faultTake
  refine State.forEach_wf _ _ _ (fun _ _ h => State.stoSet_wf _ _ _ h) ?_
  refine State.forEach_wf _ _ _ (fun _ _ h => State.react_wf _ _ _ _ (by simp [h])) ?_
  exact State.forEach_wf _ _ _ (fun _ _ h => by simpa using h) h
@[simp] theorem State.faultRaise_keep (s : State) (f : FaultH) :
    (State.faultRaise s f).dtime = s.dtime ∧ (State.faultRaise s f).pending = s.pending := by
  simp [State.faultRaise]
@[simp] theorem State.faultRaise_wf (s : State) (f : FaultH) (h : Memory.wf s.mem = true) : Memory.wf (State.faultRaise s f).mem = true := by
  simp [State.faultRaise, h]
@[simp] theorem State.axFault_keep (s : State) (n : Nat) (code : Nat) (unit : Nat) (r : Nat) :
    (State.axFault s n code unit r).dtime = s.dtime ∧ (State.axFault s n code unit r).pending = s.pending := by
  simp [State.axFault]
@[simp] theorem State.axFault_wf (s : State) (n : Nat) (code : Nat) (unit : Nat) (r : Nat) (h : Memory.wf s.mem = true) : Memory.wf (State.axFault s n code unit r).mem = true := by
  simp [State.axFault, h]
@[simp] theorem State.fault_keep (s : State) (code : Nat) (unit : Nat) (r : Nat) (ax : List Nat) :
    (State.fault s code unit r ax).dtime = s.dtime ∧ (State.fault s code unit r ax).pending = s.pending := by
  simp [State.fault]
@[simp] theorem State.fault_wf (s : State) (code : Nat) (unit : Nat) (r : Nat) (ax : List Nat) (h : Memory.wf s.mem = true) : Memory.wf (State.fault s code unit r ax).mem = true := by
  simp +contextual [State.fault, h]
@[simp] theorem State.groupFault_keep (s : State) (code : Nat) (unit : Nat) (gs : List Nat) :
    (State.groupFault s code unit gs).dtime = s.dtime ∧ (State.groupFault s code unit gs).pending = s.pending := by
  simp [State.groupFault]
@[simp] theorem State.groupFault_wf (s : State) (code : Nat) (unit : Nat) (gs : List Nat) (h : Memory.wf s.mem = true) : Memory.wf (State.groupFault s code unit gs).mem = true := by
  simp [State.groupFault, h]
@[simp] theorem State.causeEnded_keep (s : State) (n : Nat) (code : Nat) :
    (State.causeEnded s n code).dtime = s.dtime ∧ (State.causeEnded s n code).pending = s.pending ∧ (State.causeEnded s n code).mem = s.mem := by
  simp [State.causeEnded]
@[simp] theorem State.segCause_keep (s : State) (b : Nat) (code : Nat) (n : Nat) :
    (State.segCause s b code n).dtime = s.dtime ∧ (State.segCause s b code n).pending = s.pending ∧ (State.segCause s b code n).mem = s.mem := by
  simp [State.segCause]
@[simp] theorem State.segEnded_keep (s : State) (b : Nat) (code : Nat) :
    (State.segEnded s b code).dtime = s.dtime ∧ (State.segEnded s b code).pending = s.pending ∧ (State.segEnded s b code).mem = s.mem := by
  simp [State.segEnded]
@[simp] theorem State.segFault_keep (s : State) (code : Nat) (b : Nat) (r : Nat) (ax : List Nat) :
    (State.segFault s code b r ax).dtime = s.dtime ∧ (State.segFault s code b r ax).pending = s.pending := by
  simp [State.segFault]
@[simp] theorem State.segFault_wf (s : State) (code : Nat) (b : Nat) (r : Nat) (ax : List Nat) (h : Memory.wf s.mem = true) : Memory.wf (State.segFault s code b r ax).mem = true := by
  simp [State.segFault, h]
@[simp] theorem State.fxSpdDerate_keep (s : State) (n : Nat) (v : Nat) :
    (State.fxSpdDerate s n v).1.dtime = s.dtime ∧ (State.fxSpdDerate s n v).1.pending = s.pending ∧ (State.fxSpdDerate s n v).1.mem = s.mem := by
  simp [State.fxSpdDerate]
@[simp] theorem State.drainQueues_keep (s : State) (c : Nat) :
    (State.drainQueues s c).dtime = s.dtime ∧ (State.drainQueues s c).pending = s.pending ∧ (State.drainQueues s c).mem = s.mem := by
  simp [State.drainQueues]
@[simp] theorem State.dropTiles_keep (s : State) (c : Nat) :
    (State.dropTiles s c).dtime = s.dtime ∧ (State.dropTiles s c).pending = s.pending ∧ (State.dropTiles s c).mem = s.mem := by
  simp [State.dropTiles]
@[simp] theorem State.snapWrite_keep (s : State) (c : Nat) :
    (State.snapWrite s c).1.dtime = s.dtime ∧ (State.snapWrite s c).1.pending = s.pending := by
  unfold State.snapWrite; (try dsimp only); (repeat' (split <;> try (rename_i heq; have hs := congrArg (fun x => x.1) heq; simp only at hs; subst hs))) <;> simp
@[simp] theorem State.snapWrite_wf (s : State) (c : Nat) (h : Memory.wf s.mem = true) : Memory.wf (State.snapWrite s c).1.mem = true := by
  unfold State.snapWrite; (try dsimp only); (repeat' (split <;> try (rename_i heq; have hs := congrArg (fun x => x.1) heq; simp only at hs; subst hs))) <;> simp [h]
@[simp] theorem State.frameHeld_keep (s : State) (c : Nat) (p : Prog) (f : Frame) :
    (State.frameHeld s c p f).dtime = s.dtime ∧ (State.frameHeld s c p f).pending = s.pending := by
  simp [State.frameHeld]
@[simp] theorem State.frameHeld_wf (s : State) (c : Nat) (p : Prog) (f : Frame) (h : Memory.wf s.mem = true) : Memory.wf (State.frameHeld s c p f).mem = true := by
  simp +contextual [State.frameHeld, h]
@[simp] theorem State.frameTrace_keep (s : State) (c : Nat) (code : Nat) (p : Prog) (f : Frame) (dig : List Nat) :
    (State.frameTrace s c code p f dig).dtime = s.dtime ∧ (State.frameTrace s c code p f dig).pending = s.pending := by
  simp [State.frameTrace]
@[simp] theorem State.frameTrace_wf (s : State) (c : Nat) (code : Nat) (p : Prog) (f : Frame) (dig : List Nat) (h : Memory.wf s.mem = true) : Memory.wf (State.frameTrace s c code p f dig).mem = true := by
  unfold State.frameTrace; split <;> simp [h]
@[simp] theorem State.frameOut_keep (s : State) (c : Nat) (code : Nat) (fl : Nat) (p : Prog) (f : Frame) (dig : List Nat) :
    (State.frameOut s c code fl p f dig).dtime = s.dtime ∧ (State.frameOut s c code fl p f dig).pending = s.pending := by
  simp [State.frameOut]
@[simp] theorem State.frameOut_wf (s : State) (c code fl : Nat) (p : Prog) (f : Frame) (dig : List Nat) (h : Memory.wf s.mem = true) :
    Memory.wf (s.frameOut c code fl p f dig).mem = true := by
  unfold State.frameOut
  dsimp only
  refine State.frameTrace_wf _ _ _ _ _ _ ?_
  rw [(State.quantReport_keep _ _ _ _).2.2]
  split
  · simp only [State.showFill_keep, State.updCx_keeps]
    refine State.writeCopy_wf _ _ _ _ (State.masterWrite_wf _ _ _ _ ?_)
    split
    · exact State.frameHeld_wf _ _ _ _ (by simp [h])
    · simp [h]
  · refine State.masterWrite_wf _ _ _ _ ?_
    split
    · exact State.frameHeld_wf _ _ _ _ (by simp [h])
    · simp [h]
@[simp] theorem State.frameRegs_keep (s : State) (c : Nat) (code : Nat) (fl : Nat) (f : Frame) :
    (State.frameRegs s c code fl f).dtime = s.dtime ∧ (State.frameRegs s c code fl f).pending = s.pending ∧ (State.frameRegs s c code fl f).mem = s.mem := by
  simp [State.frameRegs]
@[simp] theorem State.frameDesc_keep (s : State) (c : Nat) (code : Nat) (fl : Nat) (f : Frame) :
    (State.frameDesc s c code fl f).dtime = s.dtime ∧ (State.frameDesc s c code fl f).pending = s.pending := by
  simp [State.frameDesc]
@[simp] theorem State.frameDesc_wf (s : State) (c : Nat) (code : Nat) (fl : Nat) (f : Frame) (h : Memory.wf s.mem = true) : Memory.wf (State.frameDesc s c code fl f).mem = true := by
  simp [State.frameDesc, h]
@[simp] theorem State.frameSnap_keep (s : State) (c : Nat) :
    (State.frameSnap s c).dtime = s.dtime ∧ (State.frameSnap s c).pending = s.pending := by
  unfold State.frameSnap; split <;> simp
@[simp] theorem State.frameSnap_wf (s : State) (c : Nat) (h : Memory.wf s.mem = true) : Memory.wf (State.frameSnap s c).mem = true := by
  unfold State.frameSnap; split <;> simp [h]
@[simp] theorem State.frameNext_keep (s : State) (c : Nat) (num : Nat) :
    (State.frameNext s c num).dtime = s.dtime ∧ (State.frameNext s c num).pending = s.pending := by
  unfold State.frameNext; dsimp only; (repeat' split) <;> simp
@[simp] theorem State.frameNext_wf (s : State) (c : Nat) (num : Nat) (h : Memory.wf s.mem = true) : Memory.wf (State.frameNext s c num).mem = true := by
  unfold State.frameNext; dsimp only; (repeat' split) <;> simp [h]
@[simp] theorem State.frameWrap_keep (s : State) (c : Nat) (code : Nat) (dig : Option (List Nat)) :
    (State.frameWrap s c code dig).dtime = s.dtime ∧ (State.frameWrap s c code dig).pending = s.pending := by
  unfold State.frameWrap; split <;> simp
@[simp] theorem State.frameWrap_wf (s : State) (c code : Nat) (dig : Option (List Nat)) (h : Memory.wf s.mem = true) :
    Memory.wf (s.frameWrap c code dig).mem = true := by
  unfold State.frameWrap
  split
  · refine State.frameNext_wf _ _ _ (State.frameDesc_wf _ _ _ _ _ ?_)
    rw [(State.frameRegs_keep _ _ _ _ _).2.2]
    exact State.frameOut_wf _ _ _ _ _ _ _ (by simp [h])
  · simp [h]
@[simp] theorem State.frameFinish_keep (s : State) (c : Nat) (code : Nat) (dig : Option (List Nat)) :
    (State.frameFinish s c code dig).dtime = s.dtime ∧ (State.frameFinish s c code dig).pending = s.pending := by
  simp [State.frameFinish]
@[simp] theorem State.frameFinish_wf (s : State) (c : Nat) (code : Nat) (dig : Option (List Nat)) (h : Memory.wf s.mem = true) : Memory.wf (State.frameFinish s c code dig).mem = true := by
  simp [State.frameFinish, h]
@[simp] theorem State.twinRerun_keep (s : State) (c : Nat) :
    (State.twinRerun s c).dtime = s.dtime ∧ (State.twinRerun s c).pending = s.pending := by
  simp [State.twinRerun]
@[simp] theorem State.twinRerun_wf (s : State) (c : Nat) (h : Memory.wf s.mem = true) : Memory.wf (State.twinRerun s c).mem = true := by
  simp [State.twinRerun, h]
@[simp] theorem State.twinJudge_keep (s : State) (c : Nat) :
    (State.twinJudge s c).dtime = s.dtime ∧ (State.twinJudge s c).pending = s.pending := by
  unfold State.twinJudge; dsimp only; (repeat' split) <;> simp
@[simp] theorem State.twinJudge_wf (s : State) (c : Nat) (h : Memory.wf s.mem = true) : Memory.wf (State.twinJudge s c).mem = true := by
  unfold State.twinJudge; dsimp only; (repeat' split) <;> simp [h]
@[simp] theorem State.twinLost_keep (s : State) (c : Nat) :
    (State.twinLost s c).dtime = s.dtime ∧ (State.twinLost s c).pending = s.pending := by
  simp [State.twinLost]
@[simp] theorem State.twinLost_wf (s : State) (c : Nat) (h : Memory.wf s.mem = true) : Memory.wf (State.twinLost s c).mem = true := by
  simp [State.twinLost, h]
@[simp] theorem State.sendCompare_keep (s : State) (c : Nat) (f : Frame) (code : Nat) (digest : List Nat) :
    (State.sendCompare s c f code digest).dtime = s.dtime ∧ (State.sendCompare s c f code digest).pending = s.pending ∧ (State.sendCompare s c f code digest).mem = s.mem := by
  simp [State.sendCompare]
@[simp] theorem State.frameWait_keep (s : State) (c : Nat) (f : Frame) (d : List Nat) :
    (State.frameWait s c f d).dtime = s.dtime ∧ (State.frameWait s c f d).pending = s.pending := by
  simp [State.frameWait]
@[simp] theorem State.frameWait_wf (s : State) (c : Nat) (f : Frame) (d : List Nat) (h : Memory.wf s.mem = true) : Memory.wf (State.frameWait s c f d).mem = true := by
  simp [State.frameWait, h]
@[simp] theorem State.frameClose_keep (s : State) (c : Nat) :
    (State.frameClose s c).dtime = s.dtime ∧ (State.frameClose s c).pending = s.pending := by
  unfold State.frameClose; (try dsimp only); (repeat' (split <;> try (rename_i heq; have hs := congrArg (fun x => x.1) heq; simp only at hs; subst hs))) <;> simp
@[simp] theorem State.frameClose_wf (s : State) (c : Nat) (h : Memory.wf s.mem = true) : Memory.wf (State.frameClose s c).mem = true := by
  unfold State.frameClose; (try dsimp only); (repeat' (split <;> try (rename_i heq; have hs := congrArg (fun x => x.1) heq; simp only at hs; subst hs))) <;> simp [h]
@[simp] theorem State.frameEnd_keep (s : State) (c : Nat) :
    (State.frameEnd s c).dtime = s.dtime ∧ (State.frameEnd s c).pending = s.pending := by
  simp [State.frameEnd]
@[simp] theorem State.frameEnd_wf (s : State) (c : Nat) (h : Memory.wf s.mem = true) : Memory.wf (State.frameEnd s c).mem = true := by
  simp [State.frameEnd, h]

end Sys2Proof.Machine
end

