-- ==== Sys2Proof/Laws/Keep5.lean ====
section
/-!
SUPPORT. What the operations of CtxCmd, Engines, Pwm, Vib keep: DEVICE TIME, the queue of
commands, and memory, or its canonical form where they write it.
-/
set_option linter.all false
namespace Sys2Proof.Machine

@[simp] theorem State.ctxRefuse_keep (s : State) (c : Nat) (op : Nat) (rcode : Nat) :
    (State.ctxRefuse s c op rcode).dtime = s.dtime ∧ (State.ctxRefuse s c op rcode).pending = s.pending ∧ (State.ctxRefuse s c op rcode).mem = s.mem := by
  simp [State.ctxRefuse]
@[simp] theorem State.ctxDone_keep (s : State) (c : Nat) (op : Nat) (rcode : Nat) :
    (State.ctxDone s c op rcode).dtime = s.dtime ∧ (State.ctxDone s c op rcode).pending = s.pending ∧ (State.ctxDone s c op rcode).mem = s.mem := by
  simp [State.ctxDone]
@[simp] theorem State.ctxCommand_keep (s : State) (c : Nat) (op : Nat) (fresh : Bool) :
    (State.ctxCommand s c op fresh).dtime = s.dtime ∧ (State.ctxCommand s c op fresh).pending = s.pending := by
  simp [State.ctxCommand]
@[simp] theorem State.ctxCommand_wf (s : State) (c : Nat) (op : Nat) (fresh : Bool) (h : Memory.wf s.mem = true) : Memory.wf (State.ctxCommand s c op fresh).mem = true := by
  unfold State.ctxCommand; dsimp only; (repeat' split) <;> simp [h]
@[simp] theorem State.fxCtxCmd_keep (s : State) (c : Nat) (v : Nat) :
    (State.fxCtxCmd s c v).1.dtime = s.dtime ∧ (State.fxCtxCmd s c v).1.pending = s.pending := by
  simp [State.fxCtxCmd]
@[simp] theorem State.fxCtxCmd_wf (s : State) (c : Nat) (v : Nat) (h : Memory.wf s.mem = true) : Memory.wf (State.fxCtxCmd s c v).1.mem = true := by
  simp [State.fxCtxCmd, h]
@[simp] theorem State.ctxLoadDo_keep (s : State) (c : Nat) :
    (State.ctxLoadDo s c).1.dtime = s.dtime ∧ (State.ctxLoadDo s c).1.pending = s.pending := by
  simp [State.ctxLoadDo]
@[simp] theorem State.ctxLoadDo_wf (s : State) (c : Nat) (h : Memory.wf s.mem = true) : Memory.wf (State.ctxLoadDo s c).1.mem = true := by
  unfold State.ctxLoadDo; dsimp only; (repeat' split) <;> simp [h]
@[simp] theorem State.armWeights_keep (s : State) (c : Nat) (p : Prog) :
    (State.armWeights s c p).1.dtime = s.dtime ∧ (State.armWeights s c p).1.pending = s.pending ∧ (State.armWeights s c p).1.mem = s.mem := by
  unfold State.armWeights; (try dsimp only); (repeat' (split <;> try (rename_i heq; have hs := congrArg (fun x => x.1) heq; simp only at hs; subst hs))) <;> simp
@[simp] theorem State.armDigest_keep (s : State) (c : Nat) (w : List Nat) :
    (State.armDigest s c w).dtime = s.dtime ∧ (State.armDigest s c w).pending = s.pending ∧ (State.armDigest s c w).mem = s.mem := by
  simp [State.armDigest]
@[simp] theorem State.armPlace_keep (s : State) (c : Nat) (p : Prog) :
    (State.armPlace s c p).1.dtime = s.dtime ∧ (State.armPlace s c p).1.pending = s.pending := by
  unfold State.armPlace; (try dsimp only); (repeat' (split <;> try (rename_i heq; have hs := congrArg (fun x => x.1) heq; simp only at hs; subst hs))) <;> simp
@[simp] theorem State.armPlace_wf (s : State) (c : Nat) (p : Prog) (h : Memory.wf s.mem = true) : Memory.wf (State.armPlace s c p).1.mem = true := by
  unfold State.armPlace; (try dsimp only); (repeat' (split <;> try (rename_i heq; have hs := congrArg (fun x => x.1) heq; simp only at hs; subst hs))) <;> simp [h]
@[simp] theorem State.ctxArmDo_keep (s : State) (c : Nat) (fresh : Bool) :
    (State.ctxArmDo s c fresh).1.dtime = s.dtime ∧ (State.ctxArmDo s c fresh).1.pending = s.pending := by
  unfold State.ctxArmDo; split <;> simp
@[simp] theorem State.ctxArmDo_wf (s : State) (c : Nat) (fresh : Bool) (h : Memory.wf s.mem = true) : Memory.wf (State.ctxArmDo s c fresh).1.mem = true := by
  unfold State.ctxArmDo; dsimp only; (repeat' split) <;> simp [h]
@[simp] theorem State.ctxRestoreDo_keep (s : State) (c : Nat) :
    (s.ctxRestoreDo c).1.dtime = s.dtime ∧ (s.ctxRestoreDo c).1.pending = s.pending := by
  unfold State.ctxRestoreDo
  split
  · exact ⟨rfl, rfl⟩
  · dsimp only
    split
    · exact ⟨rfl, rfl⟩
    · split <;> (rename_i heq; have hs := congrArg (fun x => x.1) heq; simp only at hs; subst hs) <;> (repeat' split) <;> simp
@[simp] theorem State.ctxRestoreDo_wf (s : State) (c : Nat) (h : Memory.wf s.mem = true) : Memory.wf (s.ctxRestoreDo c).1.mem = true := by
  unfold State.ctxRestoreDo
  split
  · exact h
  · dsimp only
    split
    · exact h
    · split <;> (rename_i heq; have hs := congrArg (fun x => x.1) heq; simp only at hs; subst hs) <;> (repeat' split) <;> simp [h]
@[simp] theorem State.ctxUnloadDo_keep (s : State) (c : Nat) :
    (State.ctxUnloadDo s c).dtime = s.dtime ∧ (State.ctxUnloadDo s c).pending = s.pending ∧ (State.ctxUnloadDo s c).mem = s.mem := by
  simp [State.ctxUnloadDo]
@[simp] theorem State.armAgrees_keep (s : State) (c : Nat) (fresh : Bool) (partner : Option Sys2Proof.PartnerCtx) :
    (State.armAgrees s c fresh partner).1.dtime = s.dtime ∧ (State.armAgrees s c fresh partner).1.pending = s.pending ∧ (State.armAgrees s c fresh partner).1.mem = s.mem := by
  unfold State.armAgrees; (try dsimp only); (repeat' (split <;> try (rename_i heq; have hs := congrArg (fun x => x.1) heq; simp only at hs; subst hs))) <;> simp
@[simp] theorem State.ctxComplete_keep (s : State) (c : Nat) (partner : Option Sys2Proof.PartnerCtx) :
    (State.ctxComplete s c partner).dtime = s.dtime ∧ (State.ctxComplete s c partner).pending = s.pending := by
  unfold State.ctxComplete; dsimp only; (repeat' split) <;> simp
@[simp] theorem State.ctxComplete_wf (s : State) (c : Nat) (partner : Option Sys2Proof.PartnerCtx) (h : Memory.wf s.mem = true) : Memory.wf (State.ctxComplete s c partner).mem = true := by
  unfold State.ctxComplete; dsimp only; (repeat' split) <;> simp [h]
@[simp] theorem State.ctxCfgRefuse_keep (s : State) (c : Nat) :
    (State.ctxCfgRefuse s c).dtime = s.dtime ∧ (State.ctxCfgRefuse s c).pending = s.pending ∧ (State.ctxCfgRefuse s c).mem = s.mem := by
  simp [State.ctxCfgRefuse]
@[simp] theorem State.fxCtxCfg_keep (s : State) (c : Nat) (v : Nat) :
    (State.fxCtxCfg s c v).1.dtime = s.dtime ∧ (State.fxCtxCfg s c v).1.pending = s.pending ∧ (State.fxCtxCfg s c v).1.mem = s.mem := by
  simp [State.fxCtxCfg]
@[simp] theorem State.fxOutBaseHi_keep (s : State) (c : Nat) (v : Nat) :
    (State.fxOutBaseHi s c v).1.dtime = s.dtime ∧ (State.fxOutBaseHi s c v).1.pending = s.pending ∧ (State.fxOutBaseHi s c v).1.mem = s.mem := by
  simp [State.fxOutBaseHi]
@[simp] theorem State.fxOutCfg_keep (s : State) (c : Nat) (v : Nat) :
    (State.fxOutCfg s c v).1.dtime = s.dtime ∧ (State.fxOutCfg s c v).1.pending = s.pending ∧ (State.fxOutCfg s c v).1.mem = s.mem := by
  simp [State.fxOutCfg]
@[simp] theorem State.fxDigCfg_keep (s : State) (c : Nat) (v : Nat) :
    (State.fxDigCfg s c v).1.dtime = s.dtime ∧ (State.fxDigCfg s c v).1.pending = s.pending ∧ (State.fxDigCfg s c v).1.mem = s.mem := by
  simp [State.fxDigCfg]
@[simp] theorem State.fxTraceCtrl_keep (s : State) (c : Nat) (v : Nat) :
    (State.fxTraceCtrl s c v).1.dtime = s.dtime ∧ (State.fxTraceCtrl s c v).1.pending = s.pending ∧ (State.fxTraceCtrl s c v).1.mem = s.mem := by
  simp [State.fxTraceCtrl]
@[simp] theorem State.ctxCmdWrite_keep (s : State) (m : Nat) (c : Nat) (op : Nat) (fresh : Bool) :
    (State.ctxCmdWrite s m c op fresh).dtime = s.dtime ∧ (State.ctxCmdWrite s m c op fresh).pending = s.pending := by
  simp [State.ctxCmdWrite]
@[simp] theorem State.ctxCmdWrite_wf (s : State) (m : Nat) (c : Nat) (op : Nat) (fresh : Bool) (h : Memory.wf s.mem = true) : Memory.wf (State.ctxCmdWrite s m c op fresh).mem = true := by
  simp [State.ctxCmdWrite, h]
@[simp] theorem State.hostsShow_keep (s : State) :
    (State.hostsShow s).dtime = s.dtime ∧ (State.hostsShow s).pending = s.pending ∧ (State.hostsShow s).mem = s.mem := by
  simp [State.hostsShow]
@[simp] theorem State.mapEngine_keep (s : State) (i : Nat) (p : Option Nat) :
    (State.mapEngine s i p).dtime = s.dtime ∧ (State.mapEngine s i p).pending = s.pending ∧ (State.mapEngine s i p).mem = s.mem := by
  unfold State.mapEngine; split <;> simp
@[simp] theorem State.moveAll_keep (s : State) (p : Nat) :
    (s.moveAll p).dtime = s.dtime ∧ (s.moveAll p).pending = s.pending ∧ (s.moveAll p).mem = s.mem := by
  unfold State.moveAll
  split
  · simp
  · refine ⟨State.forEach_dtime _ _ _ fun s k => ?_, State.forEach_pending _ _ _ fun s k => ?_, State.forEach_mem _ _ _ fun s k => ?_⟩ <;>
      split <;> simp
@[simp] theorem State.engFence_keep (s : State) (mask : Nat) :
    (State.engFence s mask).dtime = s.dtime ∧ (State.engFence s mask).pending = s.pending ∧ (State.engFence s mask).mem = s.mem := by
  simp [State.engFence]
@[simp] theorem State.fxEngFence_keep (s : State) (v : Nat) :
    (State.fxEngFence s v).1.dtime = s.dtime ∧ (State.fxEngFence s v).1.pending = s.pending ∧ (State.fxEngFence s v).1.mem = s.mem := by
  simp [State.fxEngFence]
@[simp] theorem State.loseState_keep (s : State) (c : Nat) :
    (State.loseState s c).dtime = s.dtime ∧ (State.loseState s c).pending = s.pending := by
  simp [State.loseState]
@[simp] theorem State.loseState_wf (s : State) (c : Nat) (h : Memory.wf s.mem = true) : Memory.wf (State.loseState s c).mem = true := by
  simp [State.loseState, h]
@[simp] theorem State.engRegs_keep (s : State) (p : Nat) :
    (State.engRegs s p).dtime = s.dtime ∧ (State.engRegs s p).pending = s.pending ∧ (State.engRegs s p).mem = s.mem := by
  simp [State.engRegs]
@[simp] theorem State.engReset_keep (s : State) (p : Nat) :
    (State.engReset s p).dtime = s.dtime ∧ (State.engReset s p).pending = s.pending := by
  simp [State.engReset]
@[simp] theorem State.engReset_wf (s : State) (p : Nat) (h : Memory.wf s.mem = true) : Memory.wf (State.engReset s p).mem = true := by
  unfold State.engReset; dsimp only; (repeat' split) <;> simp_all
@[simp] theorem State.fxEngCtrl_keep (s : State) (p : Nat) (v : Nat) :
    (State.fxEngCtrl s p v).1.dtime = s.dtime ∧ (State.fxEngCtrl s p v).1.pending = s.pending := by
  simp [State.fxEngCtrl]
@[simp] theorem State.fxEngCtrl_wf (s : State) (p : Nat) (v : Nat) (h : Memory.wf s.mem = true) : Memory.wf (State.fxEngCtrl s p v).1.mem = true := by
  simp [State.fxEngCtrl, h]
@[simp] theorem State.utilSnap_keep (s : State) :
    (State.utilSnap s).dtime = s.dtime ∧ (State.utilSnap s).pending = s.pending ∧ (State.utilSnap s).mem = s.mem := by
  simp [State.utilSnap]
@[simp] theorem State.fxUtilCtrl_keep (s : State) (v : Nat) :
    (State.fxUtilCtrl s v).1.dtime = s.dtime ∧ (State.fxUtilCtrl s v).1.pending = s.pending ∧ (State.fxUtilCtrl s v).1.mem = s.mem := by
  simp [State.fxUtilCtrl]
@[simp] theorem State.tapApply_keep (s : State) (n : Nat) (e : Nat) :
    (State.tapApply s n e).dtime = s.dtime ∧ (State.tapApply s n e).pending = s.pending ∧ (State.tapApply s n e).mem = s.mem := by
  simp [State.tapApply]
@[simp] theorem State.tagShadow_keep (s : State) (n : Nat) (r : Nat) :
    (State.tagShadow s n r).dtime = s.dtime ∧ (State.tagShadow s n r).pending = s.pending ∧ (State.tagShadow s n r).mem = s.mem := by
  simp [State.tagShadow]
@[simp] theorem State.commitRequest_keep (s : State) (n : Nat) :
    (State.commitRequest s n).dtime = s.dtime ∧ (State.commitRequest s n).pending = s.pending ∧ (State.commitRequest s n).mem = s.mem := by
  simp [State.commitRequest]
@[simp] theorem State.loopDuty_keep (s : State) (n : Nat) (j : Nat) (d : Nat) :
    (State.loopDuty s n j d).dtime = s.dtime ∧ (State.loopDuty s n j d).pending = s.pending ∧ (State.loopDuty s n j d).mem = s.mem := by
  simp [State.loopDuty]
@[simp] theorem State.bookStep_keep (s : State) (n : Nat) (p : Int) (top : Nat) :
    (State.bookStep s n p top).dtime = s.dtime ∧ (State.bookStep s n p top).pending = s.pending ∧ (State.bookStep s n p top).mem = s.mem := by
  simp [State.bookStep]
@[simp] theorem State.phaseBoundary_keep (s : State) (n : Nat) (j : Nat) :
    (State.phaseBoundary s n j).dtime = s.dtime ∧ (State.phaseBoundary s n j).pending = s.pending ∧ (State.phaseBoundary s n j).mem = s.mem := by
  simp [State.phaseBoundary]
@[simp] theorem State.driveBegin_keep (s : State) (n : Nat) (b : Nat) :
    (State.driveBegin s n b).dtime = s.dtime ∧ (State.driveBegin s n b).pending = s.pending ∧ (State.driveBegin s n b).mem = s.mem := by
  simp [State.driveBegin]
@[simp] theorem State.pwmBoundary_keep (s : State) (n : Nat) :
    (State.pwmBoundary s n).dtime = s.dtime ∧ (State.pwmBoundary s n).pending = s.pending ∧ (State.pwmBoundary s n).mem = s.mem := by
  unfold State.pwmBoundary; dsimp only; (repeat' split) <;> simp
@[simp] theorem State.fxPwmDuty_keep (s : State) (n : Nat) (j : Nat) (v : Nat) :
    (State.fxPwmDuty s n j v).1.dtime = s.dtime ∧ (State.fxPwmDuty s n j v).1.pending = s.pending ∧ (State.fxPwmDuty s n j v).1.mem = s.mem := by
  simp [State.fxPwmDuty]
@[simp] theorem State.fxPwmPeriod_keep (s : State) (n : Nat) (v : Nat) :
    (State.fxPwmPeriod s n v).1.dtime = s.dtime ∧ (State.fxPwmPeriod s n v).1.pending = s.pending ∧ (State.fxPwmPeriod s n v).1.mem = s.mem := by
  simp [State.fxPwmPeriod]
@[simp] theorem State.fxPwmCommit_keep (s : State) (n : Nat) (v : Nat) :
    (State.fxPwmCommit s n v).1.dtime = s.dtime ∧ (State.fxPwmCommit s n v).1.pending = s.pending ∧ (State.fxPwmCommit s n v).1.mem = s.mem := by
  simp [State.fxPwmCommit]
@[simp] theorem State.fxPwmDead_keep (s : State) (n : Nat) (a : Nat) (v : Nat) :
    (State.fxPwmDead s n a v).1.dtime = s.dtime ∧ (State.fxPwmDead s n a v).1.pending = s.pending ∧ (State.fxPwmDead s n a v).1.mem = s.mem := by
  simp [State.fxPwmDead]
@[simp] theorem State.carryClear_keep (s : State) (n : Nat) :
    (State.carryClear s n).dtime = s.dtime ∧ (State.carryClear s n).pending = s.pending ∧ (State.carryClear s n).mem = s.mem := by
  simp [State.carryClear]
@[simp] theorem State.axisOn_keep (s : State) (n : Nat) :
    (State.axisOn s n).dtime = s.dtime ∧ (State.axisOn s n).pending = s.pending ∧ (State.axisOn s n).mem = s.mem := by
  simp [State.axisOn]
@[simp] theorem State.tripPerform_keep (s : State) (n : Nat) (act : Nat) :
    (State.tripPerform s n act).dtime = s.dtime ∧ (State.tripPerform s n act).pending = s.pending ∧ (State.tripPerform s n act).mem = s.mem := by
  simp [State.tripPerform]
@[simp] theorem State.tripLatch_keep (s : State) (n : Nat) (newO : Bool) (newD : Bool) (had : Bool) (aO : Nat) (aD : Nat) :
    (State.tripLatch s n newO newD had aO aD).dtime = s.dtime ∧ (State.tripLatch s n newO newD had aO aD).pending = s.pending ∧ (State.tripLatch s n newO newD had aO aD).mem = s.mem := by
  simp [State.tripLatch]
@[simp] theorem State.tripGovern_keep (s : State) (n : Nat) (act : Nat) (had : Bool) :
    (State.tripGovern s n act had).dtime = s.dtime ∧ (State.tripGovern s n act had).pending = s.pending ∧ (State.tripGovern s n act had).mem = s.mem := by
  simp [State.tripGovern]
@[simp] theorem State.fxTripStatus_keep (s : State) (n : Nat) (v : Nat) :
    (State.fxTripStatus s n v).1.dtime = s.dtime ∧ (State.fxTripStatus s n v).1.pending = s.pending ∧ (State.fxTripStatus s n v).1.mem = s.mem := by
  simp [State.fxTripStatus]
@[simp] theorem State.fxPxbMap_keep (s : State) (sp : Nat) (v : Nat) :
    (State.fxPxbMap s sp v).1.dtime = s.dtime ∧ (State.fxPxbMap s sp v).1.pending = s.pending ∧ (State.fxPxbMap s sp v).1.mem = s.mem := by
  simp [State.fxPxbMap]
@[simp] theorem State.tapSwitch_keep (s : State) (n : Nat) :
    (State.tapSwitch s n).dtime = s.dtime ∧ (State.tapSwitch s n).pending = s.pending ∧ (State.tapSwitch s n).mem = s.mem := by
  unfold State.tapSwitch; split <;> simp
@[simp] theorem State.pxbComplete_keep (s : State) (sp : Nat) (x : PxbH) :
    (State.pxbComplete s sp x).dtime = s.dtime ∧ (State.pxbComplete s sp x).pending = s.pending ∧ (State.pxbComplete s sp x).mem = s.mem := by
  unfold State.pxbComplete; dsimp only; (repeat' split) <;> simp
@[simp] theorem State.vibRestart_keep (s : State) (c : Nat) (from_ : Nat) :
    (State.vibRestart s c from_).dtime = s.dtime ∧ (State.vibRestart s c from_).pending = s.pending ∧ (State.vibRestart s c from_).mem = s.mem := by
  simp [State.vibRestart]
@[simp] theorem State.vibUnpair_keep (s : State) (c : Nat) :
    (State.vibUnpair s c).dtime = s.dtime ∧ (State.vibUnpair s c).pending = s.pending ∧ (State.vibUnpair s c).mem = s.mem := by
  simp [State.vibUnpair]
@[simp] theorem State.fxVibCfg_keep (s : State) (c : Nat) (v : Nat) :
    (State.fxVibCfg s c v).1.dtime = s.dtime ∧ (State.fxVibCfg s c v).1.pending = s.pending ∧ (State.fxVibCfg s c v).1.mem = s.mem := by
  simp [State.fxVibCfg]
@[simp] theorem State.fxVibNotch_keep (s : State) (c : Nat) (v : Nat) :
    (State.fxVibNotch s c v).1.dtime = s.dtime ∧ (State.fxVibNotch s c v).1.pending = s.pending ∧ (State.fxVibNotch s c v).1.mem = s.mem := by
  simp [State.fxVibNotch]

end Sys2Proof.Machine
end

