-- ==== Sys2Proof/Laws/Keep6.lean ====
section
/-!
SUPPORT. What the operations of DcBus, Measure, Observer keep: DEVICE TIME, the queue of
commands, and memory, or its canonical form where they write it.
-/
set_option linter.all false
namespace Sys2Proof.Machine

@[simp] theorem State.segCount_keep (s : State) (b : Nat) :
    (State.segCount s b).dtime = s.dtime ∧ (State.segCount s b).pending = s.pending ∧ (State.segCount s b).mem = s.mem := by
  simp [State.segCount]
@[simp] theorem State.gateOn_keep (s : State) (b : Nat) :
    (State.gateOn s b).dtime = s.dtime ∧ (State.gateOn s b).pending = s.pending ∧ (State.gateOn s b).mem = s.mem := by
  simp [State.gateOn]
@[simp] theorem State.gateOff_keep (s : State) (b : Nat) :
    (State.gateOff s b).dtime = s.dtime ∧ (State.gateOff s b).pending = s.pending ∧ (State.gateOff s b).mem = s.mem := by
  simp [State.gateOff]
@[simp] theorem State.chopFault_keep (s : State) (b : Nat) (cause : Nat) :
    (State.chopFault s b cause).dtime = s.dtime ∧ (State.chopFault s b cause).pending = s.pending ∧ (State.chopFault s b cause).mem = s.mem := by
  simp [State.chopFault]
@[simp] theorem State.fxDcbCfg_keep (s : State) (b : Nat) (v : Nat) :
    (State.fxDcbCfg s b v).1.dtime = s.dtime ∧ (State.fxDcbCfg s b v).1.pending = s.pending ∧ (State.fxDcbCfg s b v).1.mem = s.mem := by
  simp [State.fxDcbCfg]
@[simp] theorem State.t2Sto_keep (s : State) (b : Nat) (n : Nat) :
    (State.t2Sto s b n).dtime = s.dtime ∧ (State.t2Sto s b n).pending = s.pending := by
  simp [State.t2Sto]
@[simp] theorem State.t2Sto_wf (s : State) (b : Nat) (n : Nat) (h : Memory.wf s.mem = true) : Memory.wf (State.t2Sto s b n).mem = true := by
  simp [State.t2Sto, h]
@[simp] theorem State.t2Axis_keep (s : State) (b : Nat) (n : Nat) (act : Nat) :
    (State.t2Axis s b n act).dtime = s.dtime ∧ (State.t2Axis s b n act).pending = s.pending := by
  unfold State.t2Axis; dsimp only; (repeat' split) <;> simp
@[simp] theorem State.t2Axis_wf (s : State) (b : Nat) (n : Nat) (act : Nat) (h : Memory.wf s.mem = true) : Memory.wf (State.t2Axis s b n act).mem = true := by
  unfold State.t2Axis; dsimp only; (repeat' split) <;> simp [h]
@[simp] theorem State.t2Act_keep (s : State) (b : Nat) (code : Nat) (cmp : Bool) :
    (State.t2Act s b code cmp).dtime = s.dtime ∧ (State.t2Act s b code cmp).pending = s.pending := by
  simp [State.t2Act]
@[simp] theorem State.t2Act_wf (s : State) (b : Nat) (code : Nat) (cmp : Bool) (h : Memory.wf s.mem = true) : Memory.wf (State.t2Act s b code cmp).mem = true := by
  unfold State.t2Act; dsimp only; (repeat' split) <;> simp_all
@[simp] theorem State.t2Reach_keep (s : State) (b : Nat) (code : Nat) (cmp : Bool) :
    (State.t2Reach s b code cmp).dtime = s.dtime ∧ (State.t2Reach s b code cmp).pending = s.pending ∧ (State.t2Reach s b code cmp).mem = s.mem := by
  simp [State.t2Reach]
@[simp] theorem State.t2Clock_keep (s : State) : (State.t2Clock s).dtime = s.dtime ∧ (State.t2Clock s).pending = s.pending := by
  unfold State.t2Clock
  refine ⟨State.forEach_dtime _ _ _ fun s k => ?_, State.forEach_pending _ _ _ fun s k => ?_⟩ <;> split <;> simp
@[simp] theorem State.t2Clock_wf (s : State) (h : Memory.wf s.mem = true) : Memory.wf (State.t2Clock s).mem = true := by
  unfold State.t2Clock; refine State.forEach_wf _ _ _ (fun _ _ h => ?_) h; (repeat' split) <;> simp_all
@[simp] theorem State.gateByOv_keep (s : State) (b : Nat) :
    (State.gateByOv s b).dtime = s.dtime ∧ (State.gateByOv s b).pending = s.pending ∧ (State.gateByOv s b).mem = s.mem := by
  simp [State.gateByOv]
@[simp] theorem State.holdRun_keep (s : State) (b : Nat) (u : Nat) :
    (State.holdRun s b u).dtime = s.dtime ∧ (State.holdRun s b u).pending = s.pending ∧ (State.holdRun s b u).mem = s.mem := by
  simp [State.holdRun]
@[simp] theorem State.busLimits_keep (s : State) (b : Nat) (u : Nat) :
    (State.busLimits s b u).dtime = s.dtime ∧ (State.busLimits s b u).pending = s.pending ∧ (State.busLimits s b u).mem = s.mem := by
  simp [State.busLimits]
@[simp] theorem State.accRun_keep (s : State) (b : Nat) (u : Nat) :
    (State.accRun s b u).dtime = s.dtime ∧ (State.accRun s b u).pending = s.pending ∧ (State.accRun s b u).mem = s.mem := by
  simp [State.accRun]
@[simp] theorem State.accSnap_keep (s : State) (b : Nat) :
    (State.accSnap s b).dtime = s.dtime ∧ (State.accSnap s b).pending = s.pending ∧ (State.accSnap s b).mem = s.mem := by
  simp [State.accSnap]
@[simp] theorem State.chopRun_keep (s : State) (b : Nat) (v : Nat) (held : Bool) :
    (State.chopRun s b v held).dtime = s.dtime ∧ (State.chopRun s b v held).pending = s.pending ∧ (State.chopRun s b v held).mem = s.mem := by
  simp [State.chopRun]
@[simp] theorem State.uvRun_keep (s : State) (b : Nat) (v : Nat) :
    (State.uvRun s b v).dtime = s.dtime ∧ (State.uvRun s b v).pending = s.pending := by
  simp [State.uvRun]
@[simp] theorem State.uvRun_wf (s : State) (b : Nat) (v : Nat) (h : Memory.wf s.mem = true) : Memory.wf (State.uvRun s b v).mem = true := by
  unfold State.uvRun; split <;> simp [h]
@[simp] theorem State.fxBusTh_keep (s : State) (b : Nat) (a : Nat) (v : Nat) :
    (State.fxBusTh s b a v).1.dtime = s.dtime ∧ (State.fxBusTh s b a v).1.pending = s.pending ∧ (State.fxBusTh s b a v).1.mem = s.mem := by
  simp [State.fxBusTh]
@[simp] theorem State.fxBusStatus_keep (s : State) (b : Nat) (v : Nat) :
    (State.fxBusStatus s b v).1.dtime = s.dtime ∧ (State.fxBusStatus s b v).1.pending = s.pending ∧ (State.fxBusStatus s b v).1.mem = s.mem := by
  simp [State.fxBusStatus]
@[simp] theorem State.fxBusCtrl_keep (s : State) (b : Nat) (v : Nat) :
    (State.fxBusCtrl s b v).1.dtime = s.dtime ∧ (State.fxBusCtrl s b v).1.pending = s.pending ∧ (State.fxBusCtrl s b v).1.mem = s.mem := by
  simp [State.fxBusCtrl]
@[simp] theorem State.fxAccCtrl_keep (s : State) (b : Nat) (v : Nat) :
    (State.fxAccCtrl s b v).1.dtime = s.dtime ∧ (State.fxAccCtrl s b v).1.pending = s.pending ∧ (State.fxAccCtrl s b v).1.mem = s.mem := by
  simp [State.fxAccCtrl]
@[simp] theorem State.fxAxBusCfg_keep (s : State) (n : Nat) (v : Nat) :
    (State.fxAxBusCfg s n v).1.dtime = s.dtime ∧ (State.fxAxBusCfg s n v).1.pending = s.pending ∧ (State.fxAxBusCfg s n v).1.mem = s.mem := by
  simp [State.fxAxBusCfg]
@[simp] theorem State.convMark_keep (s : State) (n : Nat) (c : Nat) (cause : Nat) :
    (State.convMark s n c cause).dtime = s.dtime ∧ (State.convMark s n c cause).pending = s.pending ∧ (State.convMark s n c cause).mem = s.mem := by
  simp [State.convMark]
@[simp] theorem State.convFail_keep (s : State) (n : Nat) (c : Nat) (cause : Nat) :
    (State.convFail s n c cause).dtime = s.dtime ∧ (State.convFail s n c cause).pending = s.pending := by
  simp [State.convFail]
@[simp] theorem State.convFail_wf (s : State) (n : Nat) (c : Nat) (cause : Nat) (h : Memory.wf s.mem = true) : Memory.wf (State.convFail s n c cause).mem = true := by
  unfold State.convFail; split <;> simp [h]
@[simp] theorem State.chkCompare_keep (s : State) (n : Nat) (x : Nat) (main : Int) (k : Int) :
    (State.chkCompare s n x main k).dtime = s.dtime ∧ (State.chkCompare s n x main k).pending = s.pending := by
  unfold State.chkCompare; split <;> simp
@[simp] theorem State.chkCompare_wf (s : State) (n : Nat) (x : Nat) (main : Int) (k : Int) (h : Memory.wf s.mem = true) : Memory.wf (State.chkCompare s n x main k).mem = true := by
  unfold State.chkCompare; dsimp only; (repeat' split) <;> simp [h]
@[simp] theorem State.curSample_keep (s : State) (n : Nat) (c : Nat) (raw : Int) (ts : Nat) :
    (State.curSample s n c raw ts).2.dtime = s.dtime ∧ (State.curSample s n c raw ts).2.pending = s.pending ∧ (State.curSample s n c raw ts).2.mem = s.mem := by
  simp [State.curSample]
@[simp] theorem State.sampleCurrents_keep (s : State) (n : Nat) (ts : Nat) (ra : Int) (rb : Int) (rk : Int) :
    (State.sampleCurrents s n ts ra rb rk).2.2.dtime = s.dtime ∧ (State.sampleCurrents s n ts ra rb rk).2.2.pending = s.pending := by
  simp [State.sampleCurrents]
@[simp] theorem State.sampleCurrents_wf (s : State) (n : Nat) (ts : Nat) (ra : Int) (rb : Int) (rk : Int) (h : Memory.wf s.mem = true) : Memory.wf (State.sampleCurrents s n ts ra rb rk).2.2.mem = true := by
  simp [State.sampleCurrents, h]
@[simp] theorem State.trigDrop_keep (s : State) (n : Nat) :
    (State.trigDrop s n).dtime = s.dtime ∧ (State.trigDrop s n).pending = s.pending ∧ (State.trigDrop s n).mem = s.mem := by
  simp [State.trigDrop]
@[simp] theorem State.fxAdcCtrl_keep (s : State) (n : Nat) (v : Nat) :
    (State.fxAdcCtrl s n v).1.dtime = s.dtime ∧ (State.fxAdcCtrl s n v).1.pending = s.pending ∧ (State.fxAdcCtrl s n v).1.mem = s.mem := by
  simp [State.fxAdcCtrl]
@[simp] theorem State.measEnter_keep (s : State) (cold : Bool) :
    (State.measEnter s cold).dtime = s.dtime ∧ (State.measEnter s cold).pending = s.pending ∧ (State.measEnter s cold).mem = s.mem := by
  simp [State.measEnter]
@[simp] theorem State.pvDac_keep (s : State) (n : Nat) (j : Nat) (th : Nat) :
    (State.pvDac s n j th).dtime = s.dtime ∧ (State.pvDac s n j th).pending = s.pending ∧ (State.pvDac s n j th).mem = s.mem := by
  simp [State.pvDac]
@[simp] theorem State.fxPvDac_keep (s : State) (n : Nat) (j : Nat) (v : Nat) :
    (State.fxPvDac s n j v).1.dtime = s.dtime ∧ (State.fxPvDac s n j v).1.pending = s.pending ∧ (State.fxPvDac s n j v).1.mem = s.mem := by
  simp [State.fxPvDac]
@[simp] theorem State.pvOwn_keep (s : State) (n : Nat) (j : Nat) (th : Nat) :
    (State.pvOwn s n j th).dtime = s.dtime ∧ (State.pvOwn s n j th).pending = s.pending ∧ (State.pvOwn s n j th).mem = s.mem := by
  simp [State.pvOwn]
@[simp] theorem State.calSkipAx_keep (s : State) (sel : Nat) (skAx : Nat) :
    (State.calSkipAx s sel skAx).dtime = s.dtime ∧ (State.calSkipAx s sel skAx).pending = s.pending ∧ (State.calSkipAx s sel skAx).mem = s.mem := by
  simp [State.calSkipAx]
@[simp] theorem State.calSkipSeg_keep (s : State) (skSeg : Nat) :
    (State.calSkipSeg s skSeg).dtime = s.dtime ∧ (State.calSkipSeg s skSeg).pending = s.pending ∧ (State.calSkipSeg s skSeg).mem = s.mem := by
  simp [State.calSkipSeg]
@[simp] theorem State.fxCalCmd_keep (s : State) (v : Nat) :
    (State.fxCalCmd s v).1.dtime = s.dtime ∧ (State.fxCalCmd s v).1.pending = s.pending ∧ (State.fxCalCmd s v).1.mem = s.mem := by
  simp [State.fxCalCmd]
@[simp] theorem State.calStore_keep (s : State) (i : Nat) (ofs : Int) (gain : Int) :
    (State.calStore s i ofs gain).dtime = s.dtime ∧ (State.calStore s i ofs gain).pending = s.pending := by
  simp [State.calStore]
@[simp] theorem State.calStore_wf (s : State) (i : Nat) (ofs : Int) (gain : Int) (h : Memory.wf s.mem = true) : Memory.wf (State.calStore s i ofs gain).mem = true := by
  unfold State.calStore; split <;> simp [h]
@[simp] theorem State.obsReplan_keep (s : State) :
    (State.obsReplan s).dtime = s.dtime ∧ (State.obsReplan s).pending = s.pending ∧ (State.obsReplan s).mem = s.mem := by
  simp [State.obsReplan]
@[simp] theorem State.axfRead_keep (s : State) (addr : Nat) (n : Nat) :
    (State.axfRead s addr n).1.dtime = s.dtime ∧ (State.axfRead s addr n).1.pending = s.pending ∧ (State.axfRead s addr n).1.mem = s.mem := by
  unfold State.axfRead
  split <;> (rename_i heq; have hs := congrArg (fun x => x.1) heq; simp only at hs; subst hs) <;> simp
@[simp] theorem State.obsLoadStart_keep (s : State) (axis : Nat) (kind : Nat) (addr : Nat) :
    (State.obsLoadStart s axis kind addr).dtime = s.dtime ∧ (State.obsLoadStart s axis kind addr).pending = s.pending ∧ (State.obsLoadStart s axis kind addr).mem = s.mem := by
  simp [State.obsLoadStart]
@[simp] theorem State.fxLoadCmd_keep (s : State) (v : Nat) :
    (State.fxLoadCmd s v).1.dtime = s.dtime ∧ (State.fxLoadCmd s v).1.pending = s.pending ∧ (State.fxLoadCmd s v).1.mem = s.mem := by
  simp [State.fxLoadCmd]
@[simp] theorem State.obsLoadFinish_keep (s : State) :
    (State.obsLoadFinish s).1.dtime = s.dtime ∧ (State.obsLoadFinish s).1.pending = s.pending ∧ (State.obsLoadFinish s).1.mem = s.mem := by
  unfold State.obsLoadFinish; split <;> simp
@[simp] theorem State.obsRemoveFinish_keep (s : State) :
    (State.obsRemoveFinish s).dtime = s.dtime ∧ (State.obsRemoveFinish s).pending = s.pending ∧ (State.obsRemoveFinish s).mem = s.mem := by
  unfold State.obsRemoveFinish; split <;> simp
@[simp] theorem State.laneTake_keep (s : State) (i : Nat) :
    (State.laneTake s i).dtime = s.dtime ∧ (State.laneTake s i).pending = s.pending ∧ (State.laneTake s i).mem = s.mem := by
  unfold State.laneTake; dsimp only; (repeat' split) <;> simp
@[simp] theorem State.lanesTake_keep (s : State) :
    (State.lanesTake s).dtime = s.dtime ∧ (State.lanesTake s).pending = s.pending ∧ (State.lanesTake s).mem = s.mem := by
  simp [State.lanesTake]
@[simp] theorem State.lanesClock_keep (s : State) :
    (State.lanesClock s).dtime = s.dtime ∧ (State.lanesClock s).pending = s.pending ∧ (State.lanesClock s).mem = s.mem := by
  simp [State.lanesClock]
@[simp] theorem State.updEval_keep (s : State) (j : JobH) (f : EvalH → EvalH) :
    (State.updEval s j f).dtime = s.dtime ∧ (State.updEval s j f).pending = s.pending ∧ (State.updEval s j f).mem = s.mem := by
  simp [State.updEval]
@[simp] theorem State.bgReady_keep (s : State) (j : JobH) :
    (State.bgReady s j).dtime = s.dtime ∧ (State.bgReady s j).pending = s.pending ∧ (State.bgReady s j).mem = s.mem := by
  simp [State.bgReady]
@[simp] theorem State.laneComplete_keep (s : State) (i : Nat) (j : JobH) (defect : Option (List Int)) :
    (State.laneComplete s i j defect).dtime = s.dtime ∧ (State.laneComplete s i j defect).pending = s.pending ∧ (State.laneComplete s i j defect).mem = s.mem := by
  simp [State.laneComplete]
@[simp] theorem State.laneDrop_keep (s : State) (i : Nat) :
    (State.laneDrop s i).dtime = s.dtime ∧ (State.laneDrop s i).pending = s.pending ∧ (State.laneDrop s i).mem = s.mem := by
  unfold State.laneDrop; split <;> simp
@[simp] theorem State.laneFenceOne_keep (s : State) (i : Nat) (cause : Nat) :
    (State.laneFenceOne s i cause).dtime = s.dtime ∧ (State.laneFenceOne s i cause).pending = s.pending ∧ (State.laneFenceOne s i cause).mem = s.mem := by
  simp [State.laneFenceOne]
@[simp] theorem State.classicStep_keep (s : State) (n : Nat) (ts : Nat) (ialpha : Int) (ibeta : Int) (vbus : Nat) :
    (State.classicStep s n ts ialpha ibeta vbus).dtime = s.dtime ∧ (State.classicStep s n ts ialpha ibeta vbus).pending = s.pending ∧ (State.classicStep s n ts ialpha ibeta vbus).mem = s.mem := by
  simp [State.classicStep]

end Sys2Proof.Machine
end

