-- ==== Sys2Proof/Laws/Keep7.lean ====
section
/-!
SUPPORT. What the operations of Estimate, FieldLoop, Commute keep: DEVICE TIME, the queue of
commands, and memory, or its canonical form where they write it.
-/
set_option linter.all false
namespace Sys2Proof.Machine

@[simp] theorem State.evalRelease_keep (s : State) (n : Nat) (ts : Nat) (fg : Bool) (d : NetDef) (e : EvalH) :
    (State.evalRelease s n ts fg d e).dtime = s.dtime ∧ (State.evalRelease s n ts fg d e).pending = s.pending ∧ (State.evalRelease s n ts fg d e).mem = s.mem := by
  simp [State.evalRelease]
@[simp] theorem State.obsRelease_keep (s : State) (n : Nat) (ts : Nat) (ia : Int) (ib : Int) :
    (State.obsRelease s n ts ia ib).2.dtime = s.dtime ∧ (State.obsRelease s n ts ia ib).2.pending = s.pending ∧ (State.obsRelease s n ts ia ib).2.mem = s.mem := by
  simp [State.obsRelease]
@[simp] theorem State.obsClassical_keep (s : State) (n : Nat) :
    (State.obsClassical s n).dtime = s.dtime ∧ (State.obsClassical s n).pending = s.pending ∧ (State.obsClassical s n).mem = s.mem := by
  simp [State.obsClassical]
@[simp] theorem State.obsMismatch_keep (s : State) (n : Nat) (e : EvalH) (o : Nat) (invalid : Bool) :
    (State.obsMismatch s n e o invalid).dtime = s.dtime ∧ (State.obsMismatch s n e o invalid).pending = s.pending ∧ (State.obsMismatch s n e o invalid).mem = s.mem := by
  simp [State.obsMismatch]
@[simp] theorem State.obsEscalate_keep (s : State) (n : Nat) :
    (State.obsEscalate s n).dtime = s.dtime ∧ (State.obsEscalate s n).pending = s.pending ∧ (State.obsEscalate s n).mem = s.mem := by
  simp [State.obsEscalate]
@[simp] theorem State.obsEscAct_keep (s : State) (n : Nat) :
    (State.obsEscAct s n).dtime = s.dtime ∧ (State.obsEscAct s n).pending = s.pending := by
  unfold State.obsEscAct; split <;> simp
@[simp] theorem State.obsEscAct_wf (s : State) (n : Nat) (h : Memory.wf s.mem = true) : Memory.wf (State.obsEscAct s n).mem = true := by
  unfold State.obsEscAct; dsimp only; (repeat' split) <;> simp [h]
@[simp] theorem State.evalSelect_keep (s : State) (n : Nat) (e : EvalH) :
    (State.evalSelect s n e).2.dtime = s.dtime ∧ (State.evalSelect s n e).2.pending = s.pending ∧ (State.evalSelect s n e).2.mem = s.mem := by
  unfold State.evalSelect; dsimp only; (repeat' split) <;> simp
@[simp] theorem State.bgJudge_keep (s : State) (n : Nat) :
    (State.bgJudge s n).dtime = s.dtime ∧ (State.bgJudge s n).pending = s.pending ∧ (State.bgJudge s n).mem = s.mem := by
  simp [State.bgJudge]
@[simp] theorem State.clampNote_keep (s : State) (n : Nat) (c : Bool) :
    (State.clampNote s n c).dtime = s.dtime ∧ (State.clampNote s n c).pending = s.pending ∧ (State.clampNote s n c).mem = s.mem := by
  simp [State.clampNote]
@[simp] theorem State.clampPosition_keep (s : State) (n : Nat) (ts : Nat) (th : Int) (om : Int) :
    (State.clampPosition s n ts th om).2.2.dtime = s.dtime ∧ (State.clampPosition s n ts th om).2.2.pending = s.pending ∧ (State.clampPosition s n ts th om).2.2.mem = s.mem := by
  simp [State.clampPosition]
@[simp] theorem State.clampTemp_keep (s : State) (n : Nat) (tw : Int) (tb : Option Int) :
    (State.clampTemp s n tw tb).2.2.dtime = s.dtime ∧ (State.clampTemp s n tw tb).2.2.pending = s.pending ∧ (State.clampTemp s n tw tb).2.2.mem = s.mem := by
  unfold State.clampTemp; split <;> simp
@[simp] theorem State.clampLoad_keep (s : State) (n : Nat) (l : Int) :
    (State.clampLoad s n l).2.dtime = s.dtime ∧ (State.clampLoad s n l).2.pending = s.pending ∧ (State.clampLoad s n l).2.mem = s.mem := by
  simp [State.clampLoad]
@[simp] theorem State.obsPick_keep (s : State) (n kind : Nat) (es : List EvalH) :
    (s.obsPick n kind es).2.2.dtime = s.dtime ∧ (s.obsPick n kind es).2.2.pending = s.pending ∧ (s.obsPick n kind es).2.2.mem = s.mem := by
  unfold State.obsPick
  split
  · exact ⟨rfl, rfl, rfl⟩
  · split
    · rename_i e _
      have k := State.evalSelect_keep s n e
      split <;> simp_all
    · dsimp only
      split
      · exact ⟨rfl, rfl, rfl⟩
      · split
        · split <;> simp
        · exact ⟨rfl, rfl, rfl⟩
@[simp] theorem State.deliverPosition_keep (s : State) (n : Nat) (ts : Nat) (es : List EvalH) :
    (State.deliverPosition s n ts es).2.dtime = s.dtime ∧ (State.deliverPosition s n ts es).2.pending = s.pending ∧ (State.deliverPosition s n ts es).2.mem = s.mem := by
  simp [State.deliverPosition]
@[simp] theorem State.deliverTemp_keep (s : State) (n : Nat) (ts : Nat) (es : List EvalH) :
    (State.deliverTemp s n ts es).2.dtime = s.dtime ∧ (State.deliverTemp s n ts es).2.pending = s.pending ∧ (State.deliverTemp s n ts es).2.mem = s.mem := by
  simp [State.deliverTemp]
@[simp] theorem State.deliverLoad_keep (s : State) (n : Nat) (ts : Nat) (es : List EvalH) :
    (State.deliverLoad s n ts es).2.dtime = s.dtime ∧ (State.deliverLoad s n ts es).2.pending = s.pending ∧ (State.deliverLoad s n ts es).2.mem = s.mem := by
  simp [State.deliverLoad]
@[simp] theorem State.obsDeliver_keep (s : State) (n : Nat) (ts : Nat) (es : List EvalH) :
    (State.obsDeliver s n ts es).dtime = s.dtime ∧ (State.obsDeliver s n ts es).pending = s.pending ∧ (State.obsDeliver s n ts es).mem = s.mem := by
  simp [State.obsDeliver]
@[simp] theorem State.obsPreset_keep (s : State) (n : Nat) (th : Int) (om : Int) (t : Nat) :
    (State.obsPreset s n th om t).dtime = s.dtime ∧ (State.obsPreset s n th om t).pending = s.pending ∧ (State.obsPreset s n th om t).mem = s.mem := by
  simp [State.obsPreset]
@[simp] theorem State.obsEnable_keep (s : State) (n : Nat) :
    (State.obsEnable s n).dtime = s.dtime ∧ (State.obsEnable s n).pending = s.pending ∧ (State.obsEnable s n).mem = s.mem := by
  simp [State.obsEnable]
@[simp] theorem State.fxObsCfg_keep (s : State) (n : Nat) (v : Nat) :
    (State.fxObsCfg s n v).1.dtime = s.dtime ∧ (State.fxObsCfg s n v).1.pending = s.pending ∧ (State.fxObsCfg s n v).1.mem = s.mem := by
  simp [State.fxObsCfg]
@[simp] theorem State.torqueLimit_keep (s : State) (n : Nat) (iq : Int) (om : Int) :
    (State.torqueLimit s n iq om).2.2.dtime = s.dtime ∧ (State.torqueLimit s n iq om).2.2.pending = s.pending ∧ (State.torqueLimit s n iq om).2.2.mem = s.mem := by
  simp [State.torqueLimit]
@[simp] theorem State.phaseDuty_keep (s : State) (n : Nat) (j : Nat) (top : Nat) (nextB : Nat) (v : Int) (mm : Int) (i : Int) :
    (State.phaseDuty s n j top nextB v mm i).dtime = s.dtime ∧ (State.phaseDuty s n j top nextB v mm i).pending = s.pending ∧ (State.phaseDuty s n j top nextB v mm i).mem = s.mem := by
  unfold State.phaseDuty; dsimp only; (repeat' split) <;> simp
@[simp] theorem State.atTarget_keep (s : State) (n : Nat) :
    (State.atTarget s n).dtime = s.dtime ∧ (State.atTarget s n).pending = s.pending ∧ (State.atTarget s n).mem = s.mem := by
  simp [State.atTarget]
@[simp] theorem State.rampStep_keep (s : State) (n : Nat) (dt : Nat) (v : Int) :
    (State.rampStep s n dt v).dtime = s.dtime ∧ (State.rampStep s n dt v).pending = s.pending ∧ (State.rampStep s n dt v).mem = s.mem := by
  simp [State.rampStep]
@[simp] theorem State.speedStep_keep (s : State) (n : Nat) (ts : Nat) (man : Bool) :
    (State.speedStep s n ts man).dtime = s.dtime ∧ (State.speedStep s n ts man).pending = s.pending ∧ (State.speedStep s n ts man).mem = s.mem := by
  simp [State.speedStep]
@[simp] theorem State.windowSkip_keep (s : State) (n : Nat) (k : Nat) :
    (State.windowSkip s n k).dtime = s.dtime ∧ (State.windowSkip s n k).pending = s.pending ∧ (State.windowSkip s n k).mem = s.mem := by
  simp [State.windowSkip]
@[simp] theorem State.windowTake_keep (s : State) (n : Nat) (k : Nat) (fwd : Bool) (tOpen : Nat) (b1 : Nat) :
    (State.windowTake s n k fwd tOpen b1).dtime = s.dtime ∧ (State.windowTake s n k fwd tOpen b1).pending = s.pending ∧ (State.windowTake s n k fwd tOpen b1).mem = s.mem := by
  simp [State.windowTake]
@[simp] theorem State.planWindow_keep (s : State) (n : Nat) (st : StepH) (th : Int) (om : Int) (i : List Int) :
    (State.planWindow s n st th om i).dtime = s.dtime ∧ (State.planWindow s n st th om i).pending = s.pending ∧ (State.planWindow s n st th om i).mem = s.mem := by
  simp [State.planWindow]
@[simp] theorem State.windowFailed_keep (s : State) (n : Nat) :
    (State.windowFailed s n).dtime = s.dtime ∧ (State.windowFailed s n).pending = s.pending := by
  simp [State.windowFailed]
@[simp] theorem State.windowFailed_wf (s : State) (n : Nat) (h : Memory.wf s.mem = true) : Memory.wf (State.windowFailed s n).mem = true := by
  simp [State.windowFailed, h]
@[simp] theorem State.correct_keep (s : State) (n : Nat) (eps : Int) (tx : Nat) :
    (State.correct s n eps tx).dtime = s.dtime ∧ (State.correct s n eps tx).pending = s.pending ∧ (State.correct s n eps tx).mem = s.mem := by
  simp [State.correct]
@[simp] theorem State.correctLate_keep (s : State) (n : Nat) :
    (State.correctLate s n).dtime = s.dtime ∧ (State.correctLate s n).pending = s.pending ∧ (State.correctLate s n).mem = s.mem := by
  unfold State.correctLate; split <;> simp
@[simp] theorem State.crossing_keep (s : State) (n : Nat) (w : WinH) (tx : Nat) :
    (State.crossing s n w tx).dtime = s.dtime ∧ (State.crossing s n w tx).pending = s.pending := by
  simp [State.crossing]
@[simp] theorem State.crossing_wf (s : State) (n : Nat) (w : WinH) (tx : Nat) (h : Memory.wf s.mem = true) : Memory.wf (State.crossing s n w tx).mem = true := by
  unfold State.crossing; dsimp only; (repeat' split) <;> simp [h]
@[simp] theorem State.countBounces_keep (s : State) (n : Nat) (c : Nat) :
    (State.countBounces s n c).dtime = s.dtime ∧ (State.countBounces s n c).pending = s.pending ∧ (State.countBounces s n c).mem = s.mem := by
  unfold State.countBounces; split <;> simp
@[simp] theorem State.pvChange_keep (s : State) (n : Nat) (j : Nat) (level : Bool) (stamp : Nat) (settle : Bool) :
    (State.pvChange s n j level stamp settle).dtime = s.dtime ∧ (State.pvChange s n j level stamp settle).pending = s.pending ∧ (State.pvChange s n j level stamp settle).mem = s.mem := by
  unfold State.pvChange; dsimp only; (repeat' split) <;> simp
@[simp] theorem State.listen_keep (s : State) (n : Nat) (st : Nat) :
    (State.listen s n st).dtime = s.dtime ∧ (State.listen s n st).pending = s.pending ∧ (State.listen s n st).mem = s.mem := by
  simp [State.listen]
@[simp] theorem State.startFail_keep (s : State) (n : Nat) (result : Nat) :
    (State.startFail s n result).dtime = s.dtime ∧ (State.startFail s n result).pending = s.pending ∧ (State.startFail s n result).mem = s.mem := by
  simp [State.startFail]
@[simp] theorem State.catchMotor_keep (s : State) (n : Nat) (th : Int) (om : Int) (t4 : Nat) :
    (State.catchMotor s n th om t4).dtime = s.dtime ∧ (State.catchMotor s n th om t4).pending = s.pending ∧ (State.catchMotor s n th om t4).mem = s.mem := by
  simp [State.catchMotor]
@[simp] theorem State.openBegin_keep (s : State) (n : Nat) (angle : Int) :
    (State.openBegin s n angle).dtime = s.dtime ∧ (State.openBegin s n angle).pending = s.pending ∧ (State.openBegin s n angle).mem = s.mem := by
  simp [State.openBegin]
@[simp] theorem State.standstill_keep (s : State) (n : Nat) :
    (State.standstill s n).dtime = s.dtime ∧ (State.standstill s n).pending = s.pending ∧ (State.standstill s n).mem = s.mem := by
  unfold State.standstill; split <;> simp
@[simp] theorem State.decideMotion_keep (s : State) (n : Nat) (th : Int) (om : Int) (t4 : Nat) :
    (State.decideMotion s n th om t4).dtime = s.dtime ∧ (State.decideMotion s n th om t4).pending = s.pending ∧ (State.decideMotion s n th om t4).mem = s.mem := by
  simp [State.decideMotion]
@[simp] theorem State.handover_keep (s : State) (n : Nat) (ts : Nat) :
    (State.handover s n ts).dtime = s.dtime ∧ (State.handover s n ts).pending = s.pending ∧ (State.handover s n ts).mem = s.mem := by
  unfold State.handover; dsimp only; (repeat' split) <;> simp
@[simp] theorem State.startAngle_keep (s : State) (n : Nat) (ts : Nat) :
    (State.startAngle s n ts).2.2.dtime = s.dtime ∧ (State.startAngle s n ts).2.2.pending = s.pending ∧ (State.startAngle s n ts).2.2.mem = s.mem := by
  simp [State.startAngle]
@[simp] theorem State.abortClock_keep (s : State) :
    (State.abortClock s).dtime = s.dtime ∧ (State.abortClock s).pending = s.pending ∧ (State.abortClock s).mem = s.mem := by
  simp [State.abortClock]
@[simp] theorem State.fxCmtStart_keep (s : State) (n : Nat) (v : Nat) :
    (State.fxCmtStart s n v).1.dtime = s.dtime ∧ (State.fxCmtStart s n v).1.pending = s.pending ∧ (State.fxCmtStart s n v).1.mem = s.mem := by
  simp [State.fxCmtStart]
@[simp] theorem State.fxCmtCtrl_keep (s : State) (n : Nat) (v : Nat) :
    (State.fxCmtCtrl s n v).1.dtime = s.dtime ∧ (State.fxCmtCtrl s n v).1.pending = s.pending ∧ (State.fxCmtCtrl s n v).1.mem = s.mem := by
  simp [State.fxCmtCtrl]
@[simp] theorem State.fxCmtLw_keep (s : State) (n : Nat) (v : Nat) :
    (State.fxCmtLw s n v).1.dtime = s.dtime ∧ (State.fxCmtLw s n v).1.pending = s.pending ∧ (State.fxCmtLw s n v).1.mem = s.mem := by
  simp [State.fxCmtLw]

end Sys2Proof.Machine
end

