-- ==== Sys2Proof/Laws/Keep8.lean ====
section
/-!
SUPPORT. What the operations of LoopStep, SafetyIo, SafetyCycle, Ageing, Supervisor keep: DEVICE TIME, the queue of
commands, and memory, or its canonical form where they write it.
-/
set_option linter.all false
namespace Sys2Proof.Machine

@[simp] theorem State.stepPosition_keep (s : State) (n : Nat) (st : StepH) :
    (State.stepPosition s n st).2.2.dtime = s.dtime ∧ (State.stepPosition s n st).2.2.pending = s.pending := by
  simp [State.stepPosition]
@[simp] theorem State.stepPosition_wf (s : State) (n : Nat) (st : StepH) (h : Memory.wf s.mem = true) : Memory.wf (State.stepPosition s n st).2.2.mem = true := by
  simp [State.stepPosition, h]
@[simp] theorem State.transfers_keep (s : State) (n : Nat) (st : StepH) (ffd : Int) (ffq : Int) (iq : Int) :
    (State.transfers s n st ffd ffq iq).dtime = s.dtime ∧ (State.transfers s n st ffd ffq iq).pending = s.pending ∧ (State.transfers s n st ffd ffq iq).mem = s.mem := by
  simp [State.transfers]
@[simp] theorem State.stepRefs_keep (s : State) (n : Nat) (st : StepH) (om : Int) :
    (State.stepRefs s n st om).2.2.dtime = s.dtime ∧ (State.stepRefs s n st om).2.2.pending = s.pending ∧ (State.stepRefs s n st om).2.2.mem = s.mem := by
  unfold State.stepRefs; dsimp only; (repeat' split) <;> simp
@[simp] theorem State.stepCurrent_keep (s : State) (n : Nat) (st : StepH) (th : Int) (om : Int) :
    (State.stepCurrent s n st th om).dtime = s.dtime ∧ (State.stepCurrent s n st th om).pending = s.pending ∧ (State.stepCurrent s n st th om).mem = s.mem := by
  simp [State.stepCurrent]
@[simp] theorem State.sendShadow_keep (s : State) (n : Nat) (st : StepH) :
    (State.sendShadow s n st).dtime = s.dtime ∧ (State.sendShadow s n st).pending = s.pending ∧ (State.sendShadow s n st).mem = s.mem := by
  simp [State.sendShadow]
@[simp] theorem State.concludeStep_keep (s : State) (n : Nat) :
    (State.concludeStep s n).dtime = s.dtime ∧ (State.concludeStep s n).pending = s.pending := by
  unfold State.concludeStep; split <;> simp
@[simp] theorem State.concludeStep_wf (s : State) (n : Nat) (h : Memory.wf s.mem = true) : Memory.wf (State.concludeStep s n).mem = true := by
  unfold State.concludeStep; split <;> simp [h]
@[simp] theorem State.tryConclude_keep (s : State) (n : Nat) :
    (State.tryConclude s n).dtime = s.dtime ∧ (State.tryConclude s n).pending = s.pending := by
  unfold State.tryConclude; split <;> simp
@[simp] theorem State.tryConclude_wf (s : State) (n : Nat) (h : Memory.wf s.mem = true) : Memory.wf (State.tryConclude s n).mem = true := by
  unfold State.tryConclude; split <;> simp [h]
@[simp] theorem State.stepLate_keep (s : State) (n : Nat) :
    (State.stepLate s n).dtime = s.dtime ∧ (State.stepLate s n).pending = s.pending ∧ (State.stepLate s n).mem = s.mem := by
  simp [State.stepLate]
@[simp] theorem State.stepStart_keep (s : State) (n : Nat) (ts : Nat) (mode : Nat) (ra : Int) (rb : Int) (rk : Int) :
    (State.stepStart s n ts mode ra rb rk).dtime = s.dtime ∧ (State.stepStart s n ts mode ra rb rk).pending = s.pending := by
  simp [State.stepStart]
@[simp] theorem State.stepStart_wf (s : State) (n : Nat) (ts : Nat) (mode : Nat) (ra : Int) (rb : Int) (rk : Int) (h : Memory.wf s.mem = true) : Memory.wf (State.stepStart s n ts mode ra rb rk).mem = true := by
  simp [State.stepStart, h]
@[simp] theorem State.laneDone_keep (s : State) (i : Nat) (defect : Option (List Int)) :
    (State.laneDone s i defect).dtime = s.dtime ∧ (State.laneDone s i defect).pending = s.pending := by
  unfold State.laneDone; split <;> simp
@[simp] theorem State.laneDone_wf (s : State) (i : Nat) (defect : Option (List Int)) (h : Memory.wf s.mem = true) : Memory.wf (State.laneDone s i defect).mem = true := by
  unfold State.laneDone; split <;> simp [h]
@[simp] theorem State.lanesFence_keep (s : State) (ls : List Nat) (cause : Nat) :
    (State.lanesFence s ls cause).dtime = s.dtime ∧ (State.lanesFence s ls cause).pending = s.pending := by
  simp [State.lanesFence]
@[simp] theorem State.lanesFence_wf (s : State) (ls : List Nat) (cause : Nat) (h : Memory.wf s.mem = true) : Memory.wf (State.lanesFence s ls cause).mem = true := by
  unfold State.lanesFence; dsimp only; (repeat' split) <;> simp_all
@[simp] theorem State.fxLaneFence_keep (s : State) (v : Nat) :
    (State.fxLaneFence s v).1.dtime = s.dtime ∧ (State.fxLaneFence s v).1.pending = s.pending := by
  simp [State.fxLaneFence]
@[simp] theorem State.fxLaneFence_wf (s : State) (v : Nat) (h : Memory.wf s.mem = true) : Memory.wf (State.fxLaneFence s v).1.mem = true := by
  simp [State.fxLaneFence, h]
@[simp] theorem State.fxFocCtrl_keep (s : State) (n : Nat) (v : Nat) :
    (State.fxFocCtrl s n v).1.dtime = s.dtime ∧ (State.fxFocCtrl s n v).1.pending = s.pending ∧ (State.fxFocCtrl s n v).1.mem = s.mem := by
  simp [State.fxFocCtrl]
@[simp] theorem State.fxFocManual_keep (s : State) (n : Nat) (a : Nat) (v : Nat) :
    (State.fxFocManual s n a v).1.dtime = s.dtime ∧ (State.fxFocManual s n a v).1.pending = s.pending ∧ (State.fxFocManual s n a v).1.mem = s.mem := by
  simp [State.fxFocManual]
@[simp] theorem State.fxCmpCfg_keep (s : State) (n : Nat) (which : Nat) (v : Nat) :
    (State.fxCmpCfg s n which v).1.dtime = s.dtime ∧ (State.fxCmpCfg s n which v).1.pending = s.pending ∧ (State.fxCmpCfg s n which v).1.mem = s.mem := by
  simp [State.fxCmpCfg]
@[simp] theorem State.fxSpdCtrl_keep (s : State) (n : Nat) (v : Nat) :
    (State.fxSpdCtrl s n v).1.dtime = s.dtime ∧ (State.fxSpdCtrl s n v).1.pending = s.pending ∧ (State.fxSpdCtrl s n v).1.mem = s.mem := by
  simp [State.fxSpdCtrl]
@[simp] theorem State.fxSpdTarget_keep (s : State) (n : Nat) (v : Nat) :
    (State.fxSpdTarget s n v).1.dtime = s.dtime ∧ (State.fxSpdTarget s n v).1.pending = s.pending ∧ (State.fxSpdTarget s n v).1.mem = s.mem := by
  simp [State.fxSpdTarget]
@[simp] theorem State.fxPwmCtrl_keep (s : State) (n : Nat) (v : Nat) :
    (State.fxPwmCtrl s n v).1.dtime = s.dtime ∧ (State.fxPwmCtrl s n v).1.pending = s.pending ∧ (State.fxPwmCtrl s n v).1.mem = s.mem := by
  simp [State.fxPwmCtrl]
@[simp] theorem State.slsShow_keep (s : State) :
    (State.slsShow s).dtime = s.dtime ∧ (State.slsShow s).pending = s.pending ∧ (State.slsShow s).mem = s.mem := by
  simp [State.slsShow]
@[simp] theorem State.siEval_keep (s : State) (k : Nat) :
    (State.siEval s k).dtime = s.dtime ∧ (State.siEval s k).pending = s.pending := by
  simp [State.siEval]
@[simp] theorem State.siEval_wf (s : State) (k : Nat) (h : Memory.wf s.mem = true) : Memory.wf (State.siEval s k).mem = true := by
  unfold State.siEval
  simp only [State.slsShow_keep]
  refine State.stoEval_wf _ _ ?_
  split
  · exact State.forEach_wf _ _ _ (fun _ _ h => by simp [h]) (by simp [h])
  · simp [h]
@[simp] theorem State.siDiffer_keep (s : State) (k : Nat) :
    (State.siDiffer s k).dtime = s.dtime ∧ (State.siDiffer s k).pending = s.pending ∧ (State.siDiffer s k).mem = s.mem := by
  simp [State.siDiffer]
@[simp] theorem State.fxStoReq_keep (s : State) (v : Nat) :
    (State.fxStoReq s v).1.dtime = s.dtime ∧ (State.fxStoReq s v).1.pending = s.pending := by
  simp [State.fxStoReq]
@[simp] theorem State.fxStoReq_wf (s : State) (v : Nat) (h : Memory.wf s.mem = true) : Memory.wf (State.fxStoReq s v).1.mem = true := by
  simp [State.fxStoReq, h]
@[simp] theorem State.ackFaults_keep (s : State) :
    (State.ackFaults s).dtime = s.dtime ∧ (State.ackFaults s).pending = s.pending ∧ (State.ackFaults s).mem = s.mem := by
  simp [State.ackFaults]
@[simp] theorem State.ackGroups_keep (s : State) (mask : Nat) :
    (State.ackGroups s mask).dtime = s.dtime ∧ (State.ackGroups s mask).pending = s.pending ∧ (State.ackGroups s mask).mem = s.mem := by
  simp [State.ackGroups]
@[simp] theorem State.fxSafAck_keep (s : State) (v : Nat) :
    (State.fxSafAck s v).1.dtime = s.dtime ∧ (State.fxSafAck s v).1.pending = s.pending ∧ (State.fxSafAck s v).1.mem = s.mem := by
  simp [State.fxSafAck]
@[simp] theorem State.fxSafWord_keep (s : State) (a : Nat) (v : Nat) :
    (State.fxSafWord s a v).1.dtime = s.dtime ∧ (State.fxSafWord s a v).1.pending = s.pending := by
  simp [State.fxSafWord]
@[simp] theorem State.fxSafWord_wf (s : State) (a : Nat) (v : Nat) (h : Memory.wf s.mem = true) : Memory.wf (State.fxSafWord s a v).1.mem = true := by
  simp [State.fxSafWord, h]
@[simp] theorem State.fxSafCfg_keep (s : State) (v : Nat) :
    (State.fxSafCfg s v).1.dtime = s.dtime ∧ (State.fxSafCfg s v).1.pending = s.pending ∧ (State.fxSafCfg s v).1.mem = s.mem := by
  simp [State.fxSafCfg]
@[simp] theorem State.fxSafCtrl_keep (s : State) (v : Nat) :
    (State.fxSafCtrl s v).1.dtime = s.dtime ∧ (State.fxSafCtrl s v).1.pending = s.pending ∧ (State.fxSafCtrl s v).1.mem = s.mem := by
  simp [State.fxSafCtrl]
@[simp] theorem State.unitShow_keep (s : State) (u : Nat) (x : Bool) :
    (State.unitShow s u x).dtime = s.dtime ∧ (State.unitShow s u x).pending = s.pending ∧ (State.unitShow s u x).mem = s.mem := by
  simp [State.unitShow]
@[simp] theorem State.unitFail_keep (s : State) (u : Nat) (code : Nat) :
    (State.unitFail s u code).dtime = s.dtime ∧ (State.unitFail s u code).pending = s.pending := by
  simp [State.unitFail]
@[simp] theorem State.unitFail_wf (s : State) (u : Nat) (code : Nat) (h : Memory.wf s.mem = true) : Memory.wf (State.unitFail s u code).mem = true := by
  unfold State.unitFail; split <;> simp [h]
@[simp] theorem State.sliceNext_keep (s : State) (u : Nat) :
    (State.sliceNext s u).dtime = s.dtime ∧ (State.sliceNext s u).pending = s.pending ∧ (State.sliceNext s u).mem = s.mem := by
  simp [State.sliceNext]
@[simp] theorem State.abortSlices_keep (s : State) :
    (State.abortSlices s).dtime = s.dtime ∧ (State.abortSlices s).pending = s.pending ∧ (State.abortSlices s).mem = s.mem := by
  simp [State.abortSlices]
@[simp] theorem State.windowSpeed_keep (s : State) (n : Nat) :
    (State.windowSpeed s n).dtime = s.dtime ∧ (State.windowSpeed s n).pending = s.pending ∧ (State.windowSpeed s n).mem = s.mem := by
  simp [State.windowSpeed]
@[simp] theorem State.windowSls_keep (s : State) (n : Nat) :
    (State.windowSls s n).dtime = s.dtime ∧ (State.windowSls s n).pending = s.pending ∧ (State.windowSls s n).mem = s.mem := by
  simp [State.windowSls]
@[simp] theorem State.ss1Sto_keep (s : State) (n : Nat) :
    (State.ss1Sto s n).dtime = s.dtime ∧ (State.ss1Sto s n).pending = s.pending := by
  simp [State.ss1Sto]
@[simp] theorem State.ss1Sto_wf (s : State) (n : Nat) (h : Memory.wf s.mem = true) : Memory.wf (State.ss1Sto s n).mem = true := by
  simp [State.ss1Sto, h]
@[simp] theorem State.windowSs1_keep (s : State) (n : Nat) :
    (State.windowSs1 s n).dtime = s.dtime ∧ (State.windowSs1 s n).pending = s.pending := by
  unfold State.windowSs1; split <;> simp
@[simp] theorem State.windowSs1_wf (s : State) (n : Nat) (h : Memory.wf s.mem = true) : Memory.wf (State.windowSs1 s n).mem = true := by
  unfold State.windowSs1; dsimp only; (repeat' split) <;> simp [h]
@[simp] theorem State.entryFail_keep (s : State) (e : Nat) :
    (State.entryFail s e).dtime = s.dtime ∧ (State.entryFail s e).pending = s.pending := by
  unfold State.entryFail; dsimp only; (repeat' split) <;> simp
@[simp] theorem State.entryFail_wf (s : State) (e : Nat) (h : Memory.wf s.mem = true) : Memory.wf (State.entryFail s e).mem = true := by
  unfold State.entryFail; dsimp only; (repeat' split) <;> simp_all
@[simp] theorem State.windowTwin_keep (s : State) :
    (State.windowTwin s).dtime = s.dtime ∧ (State.windowTwin s).pending = s.pending ∧ (State.windowTwin s).mem = s.mem := by
  simp [State.windowTwin]
@[simp] theorem State.windowEnd_keep (s : State) :
    (State.windowEnd s).dtime = s.dtime ∧ (State.windowEnd s).pending = s.pending := by
  simp [State.windowEnd]
@[simp] theorem State.windowEnd_wf (s : State) (h : Memory.wf s.mem = true) : Memory.wf (State.windowEnd s).mem = true := by
  simp [State.windowEnd, h]
@[simp] theorem State.marginCheck_keep (s : State) :
    (State.marginCheck s).dtime = s.dtime ∧ (State.marginCheck s).pending = s.pending ∧ (State.marginCheck s).mem = s.mem := by
  unfold State.marginCheck; split <;> simp
@[simp] theorem State.trimGoal_keep (s : State) (h_ : Nat) (goal : Int) :
    (State.trimGoal s h_ goal).dtime = s.dtime ∧ (State.trimGoal s h_ goal).pending = s.pending ∧ (State.trimGoal s h_ goal).mem = s.mem := by
  simp [State.trimGoal]
@[simp] theorem State.trimStep_keep (s : State) (h_ : Nat) :
    (State.trimStep s h_).dtime = s.dtime ∧ (State.trimStep s h_).pending = s.pending ∧ (State.trimStep s h_).mem = s.mem := by
  unfold State.trimStep; split <;> simp
@[simp] theorem State.trimClock_keep (s : State) :
    (State.trimClock s).dtime = s.dtime ∧ (State.trimClock s).pending = s.pending ∧ (State.trimClock s).mem = s.mem := by
  simp [State.trimClock]
@[simp] theorem State.marginReplan_keep (s : State) (dl : List Int) (ref : List Int) (ack : Bool) :
    (State.marginReplan s dl ref ack).dtime = s.dtime ∧ (State.marginReplan s dl ref ack).pending = s.pending ∧ (State.marginReplan s dl ref ack).mem = s.mem := by
  simp [State.marginReplan]
@[simp] theorem State.fxAgeCtrl_keep (s : State) (dl : List Int) (ref : List Int) (ack : Bool) (v : Nat) :
    (State.fxAgeCtrl s dl ref ack v).1.dtime = s.dtime ∧ (State.fxAgeCtrl s dl ref ack v).1.pending = s.pending ∧ (State.fxAgeCtrl s dl ref ack v).1.mem = s.mem := by
  simp [State.fxAgeCtrl]
@[simp] theorem State.fxSvcCmd_keep (s : State) (v : Nat) :
    (State.fxSvcCmd s v).1.dtime = s.dtime ∧ (State.fxSvcCmd s v).1.pending = s.pending ∧ (State.fxSvcCmd s v).1.mem = s.mem := by
  simp [State.fxSvcCmd]
@[simp] theorem State.resetRegs_keep (s : State) (hit : Nat → RegSpec → Bool) :
    (State.resetRegs s hit).dtime = s.dtime ∧ (State.resetRegs s hit).pending = s.pending ∧ (State.resetRegs s hit).mem = s.mem := by
  simp [State.resetRegs]
@[simp] theorem State.fwFail_keep (s : State) (code : Nat) :
    (State.fwFail s code).dtime = s.dtime ∧ (State.fwFail s code).pending = s.pending ∧ (State.fwFail s code).mem = s.mem := by
  simp [State.fwFail]
@[simp] theorem State.fxFwCmd_keep (s : State) (v : Nat) :
    (State.fxFwCmd s v).1.dtime = s.dtime ∧ (State.fxFwCmd s v).1.pending = s.pending ∧ (State.fxFwCmd s v).1.mem = s.mem := by
  simp [State.fxFwCmd]
@[simp] theorem State.fwCheck_keep (s : State) :
    (State.fwCheck s).1.dtime = s.dtime ∧ (State.fwCheck s).1.pending = s.pending ∧ (State.fwCheck s).1.mem = s.mem := by
  simp [State.fwCheck]
@[simp] theorem State.withdraw_keep (s : State) :
    (State.withdraw s).dtime = s.dtime ∧ (State.withdraw s).pending = s.pending ∧ (State.withdraw s).mem = s.mem := by
  simp [State.withdraw]
@[simp] theorem State.supReset_keep (s : State) (cause : Nat) :
    (State.supReset s cause).dtime = s.dtime ∧ (State.supReset s cause).pending = s.pending ∧ (State.supReset s cause).mem = s.mem := by
  simp [State.supReset]
@[simp] theorem State.fxSupCtrl_keep (s : State) (v : Nat) :
    (State.fxSupCtrl s v).1.dtime = s.dtime ∧ (State.fxSupCtrl s v).1.pending = s.pending ∧ (State.fxSupCtrl s v).1.mem = s.mem := by
  simp [State.fxSupCtrl]
@[simp] theorem State.fxMbReq_keep (s : State) (b : Nat) (k : Nat) (v : Nat) :
    (State.fxMbReq s b k v).1.dtime = s.dtime ∧ (State.fxMbReq s b k v).1.pending = s.pending ∧ (State.fxMbReq s b k v).1.mem = s.mem := by
  simp [State.fxMbReq]
@[simp] theorem State.fxMbDoorbell_keep (s : State) (b : Nat) (v : Nat) :
    (State.fxMbDoorbell s b v).1.dtime = s.dtime ∧ (State.fxMbDoorbell s b v).1.pending = s.pending ∧ (State.fxMbDoorbell s b v).1.mem = s.mem := by
  simp [State.fxMbDoorbell]
@[simp] theorem State.fxMbAck_keep (s : State) (b : Nat) (v : Nat) :
    (State.fxMbAck s b v).1.dtime = s.dtime ∧ (State.fxMbAck s b v).1.pending = s.pending ∧ (State.fxMbAck s b v).1.mem = s.mem := by
  simp [State.fxMbAck]
@[simp] theorem State.mbReply_keep (s : State) (b : Nat) (c : MbCmdH) (status : Nat) (detail : Nat) (payload : List Nat) :
    (State.mbReply s b c status detail payload).dtime = s.dtime ∧ (State.mbReply s b c status detail payload).pending = s.pending ∧ (State.mbReply s b c status detail payload).mem = s.mem := by
  simp [State.mbReply]
@[simp] theorem State.mbEnd_keep (s : State) :
    (State.mbEnd s).dtime = s.dtime ∧ (State.mbEnd s).pending = s.pending ∧ (State.mbEnd s).mem = s.mem := by
  simp [State.mbEnd]

end Sys2Proof.Machine
end

