-- ==== Sys2Proof/Laws/Keep9.lean ====
section
/-!
SUPPORT. What the operations of Security, Resets, PowerThermal, DeviceTime keep: DEVICE TIME, the queue of
commands, and memory, or its canonical form where they write it.
-/
set_option linter.all false
namespace Sys2Proof.Machine

@[simp] theorem State.setWords8_keep (s : State) (f : RF) (b : List Nat) :
    (State.setWords8 s f b).dtime = s.dtime ∧ (State.setWords8 s f b).pending = s.pending ∧ (State.setWords8 s f b).mem = s.mem := by
  simp [State.setWords8]
@[simp] theorem State.keyShow_keep (s : State) :
    (State.keyShow s).dtime = s.dtime ∧ (State.keyShow s).pending = s.pending ∧ (State.keyShow s).mem = s.mem := by
  simp [State.keyShow]
@[simp] theorem State.fuseRefuse_keep (s : State) (rcode : Nat) :
    (State.fuseRefuse s rcode).dtime = s.dtime ∧ (State.fuseRefuse s rcode).pending = s.pending ∧ (State.fuseRefuse s rcode).mem = s.mem := by
  simp [State.fuseRefuse]
@[simp] theorem State.fuseStart_keep (s : State) (op : Nat × Nat × List Nat) :
    (State.fuseStart s op).dtime = s.dtime ∧ (State.fuseStart s op).pending = s.pending ∧ (State.fuseStart s op).mem = s.mem := by
  simp [State.fuseStart]
@[simp] theorem State.fxKeyProg_keep (s : State) (v : Nat) :
    (State.fxKeyProg s v).1.dtime = s.dtime ∧ (State.fxKeyProg s v).1.pending = s.pending ∧ (State.fxKeyProg s v).1.mem = s.mem := by
  simp [State.fxKeyProg]
@[simp] theorem State.fxRevoke_keep (s : State) (v : Nat) :
    (State.fxRevoke s v).1.dtime = s.dtime ∧ (State.fxRevoke s v).1.pending = s.pending ∧ (State.fxRevoke s v).1.mem = s.mem := by
  simp [State.fxRevoke]
@[simp] theorem State.fxLcCmd_keep (s : State) (v : Nat) :
    (State.fxLcCmd s v).1.dtime = s.dtime ∧ (State.fxLcCmd s v).1.pending = s.pending ∧ (State.fxLcCmd s v).1.mem = s.mem := by
  simp [State.fxLcCmd]
@[simp] theorem State.identity_keep (s : State) : s.identity.dtime = s.dtime ∧ s.identity.pending = s.pending ∧ s.identity.mem = s.mem := by
  unfold State.identity
  dsimp only
  generalize (List.range 328) = l
  generalize (if (s.rd SEC.LC.STATE == 3) = true then List.replicate 1312 255 else slice (Config.mldsaPub s.identitySeed) 0 1312) = pub
  refine ⟨?_, ?_, ?_⟩
  · rw [State.forEach_dtime _ _ _ (fun s k => by simp), (State.setWords8_keep _ _ _).1]
  · rw [State.forEach_pending _ _ _ (fun s k => by simp), (State.setWords8_keep _ _ _).2.1]
  · rw [State.forEach_mem _ _ _ (fun s k => by simp), (State.setWords8_keep _ _ _).2.2]
@[simp] theorem State.bootTry_keep (s : State) (i : Nat) (err : Bool) :
    (State.bootTry s i err).1.dtime = s.dtime ∧ (State.bootTry s i err).1.pending = s.pending := by
  simp [State.bootTry]
@[simp] theorem State.bootTry_wf (s : State) (i : Nat) (err : Bool) (h : Memory.wf s.mem = true) : Memory.wf (State.bootTry s i err).1.mem = true := by
  simp [State.bootTry, h]
@[simp] theorem State.bootAccept_keep (s : State) (i : Nat) :
    (State.bootAccept s i).dtime = s.dtime ∧ (State.bootAccept s i).pending = s.pending ∧ (State.bootAccept s i).mem = s.mem := by
  simp [State.bootAccept]
@[simp] theorem State.fxDbgCmd_keep (s : State) (v : Nat) :
    (State.fxDbgCmd s v).1.dtime = s.dtime ∧ (State.fxDbgCmd s v).1.pending = s.pending ∧ (State.fxDbgCmd s v).1.mem = s.mem := by
  simp [State.fxDbgCmd]
@[simp] theorem State.attRefuse_keep (s : State) (rcode : Nat) :
    (State.attRefuse s rcode).dtime = s.dtime ∧ (State.attRefuse s rcode).pending = s.pending ∧ (State.attRefuse s rcode).mem = s.mem := by
  simp [State.attRefuse]
@[simp] theorem State.fxAttCmd_keep (s : State) (m : Nat) (v : Nat) :
    (State.fxAttCmd s m v).1.dtime = s.dtime ∧ (State.fxAttCmd s m v).1.pending = s.pending ∧ (State.fxAttCmd s m v).1.mem = s.mem := by
  simp [State.fxAttCmd]
@[simp] theorem State.attAbort_keep (s : State) :
    (State.attAbort s).dtime = s.dtime ∧ (State.attAbort s).pending = s.pending ∧ (State.attAbort s).mem = s.mem := by
  simp [State.attAbort]
@[simp] theorem State.axisReset_keep (s : State) (n : Nat) :
    (State.axisReset s n).dtime = s.dtime ∧ (State.axisReset s n).pending = s.pending := by
  simp [State.axisReset]
@[simp] theorem State.axisReset_wf (s : State) (n : Nat) (h : Memory.wf s.mem = true) : Memory.wf (State.axisReset s n).mem = true := by
  simp [State.axisReset, h]
@[simp] theorem State.fxAxisRst_keep (s : State) (hi : Bool) (v : Nat) :
    (State.fxAxisRst s hi v).1.dtime = s.dtime ∧ (State.fxAxisRst s hi v).1.pending = s.pending := by
  simp [State.fxAxisRst]
@[simp] theorem State.fxAxisRst_wf (s : State) (hi : Bool) (v : Nat) (h : Memory.wf s.mem = true) : Memory.wf (State.fxAxisRst s hi v).1.mem = true := by
  unfold State.fxAxisRst; refine State.forEach_wf _ _ _ (fun _ _ h => ?_) h; (repeat' split) <;> simp_all
@[simp] theorem State.applyFences_keep (s : State) :
    (State.applyFences s).dtime = s.dtime ∧ (State.applyFences s).pending = s.pending ∧ (State.applyFences s).mem = s.mem := by
  simp [State.applyFences]
@[simp] theorem State.readFuses_keep (s : State) :
    (State.readFuses s).dtime = s.dtime ∧ (State.readFuses s).pending = s.pending ∧ (State.readFuses s).mem = s.mem := by
  simp [State.readFuses]
@[simp] theorem State.retestUnits_keep (s : State) (bad : List (Fin 74)) :
    (State.retestUnits s bad).dtime = s.dtime ∧ (State.retestUnits s bad).pending = s.pending ∧ (State.retestUnits s bad).mem = s.mem := by
  simp [State.retestUnits]
@[simp] theorem State.selfCheck_keep (s : State) (found : Sys2Proof.StartFindings) :
    (State.selfCheck s found).dtime = s.dtime ∧ (State.selfCheck s found).pending = s.pending ∧ (State.selfCheck s found).mem = s.mem := by
  simp [State.selfCheck]
@[simp] theorem State.resetHidden_keep (s : State) :
    (State.resetHidden s).dtime = s.dtime ∧ (State.resetHidden s).pending = s.pending ∧ (State.resetHidden s).mem = s.mem := by
  simp [State.resetHidden]
@[simp] theorem State.resetSafety_keep (s : State) :
    (State.resetSafety s).dtime = s.dtime ∧ (State.resetSafety s).pending = s.pending := by
  simp [State.resetSafety]
@[simp] theorem State.resetSafety_wf (s : State) (h : Memory.wf s.mem = true) : Memory.wf (State.resetSafety s).mem = true := by
  simp [State.resetSafety, h]
@[simp] theorem State.sysReset_keep (s : State) (cause : Nat) (wake : Bool) (found : Sys2Proof.StartFindings) :
    (State.sysReset s cause wake found).dtime = s.dtime ∧ (State.sysReset s cause wake found).pending = s.pending := by
  simp [State.sysReset]
@[simp] theorem State.sysReset_wf (s : State) (cause : Nat) (wake : Bool) (found : Sys2Proof.StartFindings) (h : Memory.wf s.mem = true) : Memory.wf (State.sysReset s cause wake found).mem = true := by
  unfold State.sysReset; dsimp only; (repeat' split) <;> simp [h]
@[simp] theorem State.debugReset_keep (s : State) :
    (State.debugReset s).dtime = s.dtime ∧ (State.debugReset s).pending = s.pending ∧ (State.debugReset s).mem = s.mem := by
  simp [State.debugReset]
@[simp] theorem State.fxRstCmd_keep (s : State) (m : Nat) (v : Nat) (found : Sys2Proof.StartFindings) :
    (State.fxRstCmd s m v found).1.dtime = s.dtime ∧ (State.fxRstCmd s m v found).1.pending = s.pending := by
  simp [State.fxRstCmd]
@[simp] theorem State.fxRstCmd_wf (s : State) (m : Nat) (v : Nat) (found : Sys2Proof.StartFindings) (h : Memory.wf s.mem = true) : Memory.wf (State.fxRstCmd s m v found).1.mem = true := by
  unfold State.fxRstCmd; dsimp only; (repeat' split) <;> simp [h]
@[simp] theorem State.powerStart_keep (s : State) (to_ : Nat) :
    (State.powerStart s to_).dtime = s.dtime ∧ (State.powerStart s to_).pending = s.pending := by
  simp [State.powerStart]
@[simp] theorem State.powerStart_wf (s : State) (to_ : Nat) (h : Memory.wf s.mem = true) : Memory.wf (s.powerStart to_).mem = true := by
  unfold State.powerStart
  dsimp only
  split
  · have k : ∀ u : State, Memory.wf u.mem = true → Memory.wf ((u.stoSet 0 groups).forEach (List.range 64) fun s c =>
        let s := (s.updCx c fun h => { h with latched := none, wait := none }).clear CTX.STATUS.LATCHED c
        if (s.cx c).frame.isSome then (s.failFrame c 5).frameEnd c else s).mem = true := fun u hu =>
      State.forEach_wf _ _ _ (fun s c hs => by
        have h2 : Memory.wf ((s.updCx c fun h => { h with latched := none, wait := none }).clear CTX.STATUS.LATCHED c).mem = true := by simp [hs]
        dsimp only
        split
        · exact State.frameEnd_wf _ _ (by simp [hs])
        · exact h2) (by simp [hu])
    simp only [State.updSec_keeps, State.wr_keeps, State.attAbort_keep, State.mbEnd_keep]
    exact k _ (by simp [h])
  · simp [h]
@[simp] theorem State.fenceUnit_keep (s : State) (u : Nat) :
    (State.fenceUnit s u).dtime = s.dtime ∧ (State.fenceUnit s u).pending = s.pending ∧ (State.fenceUnit s u).mem = s.mem := by
  simp [State.fenceUnit]
@[simp] theorem State.bistUnits_keep (s : State) :
    (State.bistUnits s).dtime = s.dtime ∧ (State.bistUnits s).pending = s.pending ∧ (State.bistUnits s).mem = s.mem := by
  simp [State.bistUnits]
@[simp] theorem State.bistResult_keep (s : State) (i : Nat) :
    (State.bistResult s i).dtime = s.dtime ∧ (State.bistResult s i).pending = s.pending ∧ (State.bistResult s i).mem = s.mem := by
  simp [State.bistResult]
@[simp] theorem State.bistWrite_keep (s : State) :
    (State.bistWrite s).dtime = s.dtime ∧ (State.bistWrite s).pending = s.pending ∧ (State.bistWrite s).mem = s.mem := by
  simp [State.bistWrite]
@[simp] theorem State.bistTell_keep (s : State) (i : Nat) :
    (State.bistTell s i).dtime = s.dtime ∧ (State.bistTell s i).pending = s.pending ∧ (State.bistTell s i).mem = s.mem := by
  simp [State.bistTell]
@[simp] theorem State.bistStep_keep (s : State) (blocks : List Sys2Proof.BistBlock) (units : List (Fin 74)) :
    (State.bistStep s blocks units).dtime = s.dtime ∧ (State.bistStep s blocks units).pending = s.pending ∧ (State.bistStep s blocks units).mem = s.mem := by
  unfold State.bistStep; split <;> simp
@[simp] theorem State.linksOff_keep (s : State) :
    (State.linksOff s).dtime = s.dtime ∧ (State.linksOff s).pending = s.pending ∧ (State.linksOff s).mem = s.mem := by
  simp [State.linksOff]
@[simp] theorem State.stoAll_keep (s : State) :
    (State.stoAll s).dtime = s.dtime ∧ (State.stoAll s).pending = s.pending := by
  simp [State.stoAll]
@[simp] theorem State.stoAll_wf (s : State) (h : Memory.wf s.mem = true) : Memory.wf (State.stoAll s).mem = true := by
  simp [State.stoAll, h]
@[simp] theorem State.levelSet_keep (s : State) (l : Nat) :
    (State.levelSet s l).dtime = s.dtime ∧ (State.levelSet s l).pending = s.pending ∧ (State.levelSet s l).mem = s.mem := by
  simp [State.levelSet]
@[simp] theorem State.fxThmCfg_keep (s : State) (v : Nat) :
    (State.fxThmCfg s v).1.dtime = s.dtime ∧ (State.fxThmCfg s v).1.pending = s.pending ∧ (State.fxThmCfg s v).1.mem = s.mem := by
  simp [State.fxThmCfg]
@[simp] theorem State.shiftNamed_keep (s : State) (d : Int) :
    (State.shiftNamed s d).dtime = s.dtime ∧ (State.shiftNamed s d).pending = s.pending ∧ (State.shiftNamed s d).mem = s.mem := by
  simp [State.shiftNamed]
@[simp] theorem State.shiftUnits_keep (s : State) (d : Int) :
    (State.shiftUnits s d).dtime = s.dtime ∧ (State.shiftUnits s d).pending = s.pending ∧ (State.shiftUnits s d).mem = s.mem := by
  simp [State.shiftUnits]
@[simp] theorem State.stepTime_keep (s : State) (d : Int) :
    (State.stepTime s d).pending = s.pending ∧ (State.stepTime s d).mem = s.mem := by
  simp [State.stepTime]
@[simp] theorem State.fxDtStepHi_keep (s : State) (v : Nat) :
    (State.fxDtStepHi s v).1.pending = s.pending ∧ (State.fxDtStepHi s v).1.mem = s.mem := by
  simp [State.fxDtStepHi]
@[simp] theorem State.setRate_keep (s : State) (r : Int) :
    (State.setRate s r).dtime = s.dtime ∧ (State.setRate s r).pending = s.pending ∧ (State.setRate s r).mem = s.mem := by
  simp [State.setRate]
@[simp] theorem State.fxDtRate_keep (s : State) (v : Nat) :
    (State.fxDtRate s v).1.dtime = s.dtime ∧ (State.fxDtRate s v).1.pending = s.pending ∧ (State.fxDtRate s v).1.mem = s.mem := by
  simp [State.fxDtRate]
@[simp] theorem State.trimFree_keep (s : State) :
    (State.trimFree s).dtime = s.dtime ∧ (State.trimFree s).pending = s.pending ∧ (State.trimFree s).mem = s.mem := by
  simp [State.trimFree]
@[simp] theorem State.followerStep_keep (s : State) (o : Int) :
    (State.followerStep s o).pending = s.pending ∧ (State.followerStep s o).mem = s.mem := by
  simp [State.followerStep]
@[simp] theorem State.offsetMeasured_keep (s : State) (o : Int) :
    (State.offsetMeasured s o).pending = s.pending ∧ (State.offsetMeasured s o).mem = s.mem := by
  simp [State.offsetMeasured]
@[simp] theorem State.pairJudge_keep (s : State) (o : Int) (peer : Bool) :
    (State.pairJudge s o peer).dtime = s.dtime ∧ (State.pairJudge s o peer).pending = s.pending ∧ (State.pairJudge s o peer).mem = s.mem := by
  simp [State.pairJudge]
@[simp] theorem State.fxRecCtrl_keep (s : State) (ok : Bool) (v : Nat) :
    (State.fxRecCtrl s ok v).1.dtime = s.dtime ∧ (State.fxRecCtrl s ok v).1.pending = s.pending ∧ (State.fxRecCtrl s ok v).1.mem = s.mem := by
  simp [State.fxRecCtrl]
@[simp] theorem State.fxNvIdx_keep (s : State) (v : Nat) :
    (State.fxNvIdx s v).1.dtime = s.dtime ∧ (State.fxNvIdx s v).1.pending = s.pending ∧ (State.fxNvIdx s v).1.mem = s.mem := by
  simp [State.fxNvIdx]

end Sys2Proof.Machine
end

