-- ==== Sys2Proof/Laws/Keep10.lean ====
section
/-!
SUPPORT. What the operations of Links, Babbitt, External, Bus, MailCmd keep: DEVICE TIME, the queue of
commands, and memory, or its canonical form where they write it.
-/
set_option linter.all false
namespace Sys2Proof.Machine

@[simp] theorem State.emitOpen_keep (s : State) (kind : Nat) (source : Nat) (what : Nat) :
    (State.emitOpen s kind source what).dtime = s.dtime ∧ (State.emitOpen s kind source what).pending = s.pending ∧ (State.emitOpen s kind source what).mem = s.mem := by
  simp [State.emitOpen]
@[simp] theorem State.linkTrain_keep (s : State) (p : Nat) :
    (State.linkTrain s p).dtime = s.dtime ∧ (State.linkTrain s p).pending = s.pending ∧ (State.linkTrain s p).mem = s.mem := by
  simp [State.linkTrain]
@[simp] theorem State.fxRingCtrl_keep (s : State) (v : Nat) :
    (State.fxRingCtrl s v).1.dtime = s.dtime ∧ (State.fxRingCtrl s v).1.pending = s.pending ∧ (State.fxRingCtrl s v).1.mem = s.mem := by
  simp [State.fxRingCtrl]
@[simp] theorem State.twinRole_keep (s : State) :
    (State.twinRole s).dtime = s.dtime ∧ (State.twinRole s).pending = s.pending ∧ (State.twinRole s).mem = s.mem := by
  simp [State.twinRole]
@[simp] theorem State.fxTwnCfg_keep (s : State) (v : Nat) :
    (State.fxTwnCfg s v).1.dtime = s.dtime ∧ (State.fxTwnCfg s v).1.pending = s.pending ∧ (State.fxTwnCfg s v).1.mem = s.mem := by
  simp [State.fxTwnCfg]
@[simp] theorem State.linkUp_keep (s : State) (p : Nat) (lanes : Nat) (ver : Nat × Nat) (peer : Nat) :
    (State.linkUp s p lanes ver peer).dtime = s.dtime ∧ (State.linkUp s p lanes ver peer).pending = s.pending ∧ (State.linkUp s p lanes ver peer).mem = s.mem := by
  simp [State.linkUp]
@[simp] theorem State.enumerated_keep (s : State) (id : Nat) (present : Nat) (gap : Nat) (master : Nat) (lead : Bool) :
    (State.enumerated s id present gap master lead).dtime = s.dtime ∧ (State.enumerated s id present gap master lead).pending = s.pending ∧ (State.enumerated s id present gap master lead).mem = s.mem := by
  simp [State.enumerated]
@[simp] theorem State.unenumerated_keep (s : State) :
    (State.unenumerated s).dtime = s.dtime ∧ (State.unenumerated s).pending = s.pending ∧ (State.unenumerated s).mem = s.mem := by
  simp [State.unenumerated]
@[simp] theorem State.sendEnum_keep (s : State) (p : Nat) (id : Option Nat) (present : Nat) (gap : Nat) :
    (State.sendEnum s p id present gap).dtime = s.dtime ∧ (State.sendEnum s p id present gap).pending = s.pending ∧ (State.sendEnum s p id present gap).mem = s.mem := by
  simp [State.sendEnum]
@[simp] theorem State.enumRefused_keep (s : State) :
    (State.enumRefused s).dtime = s.dtime ∧ (State.enumRefused s).pending = s.pending ∧ (State.enumRefused s).mem = s.mem := by
  simp [State.enumRefused]
@[simp] theorem State.enumerate_keep (s : State) (down : Nat) (up : Nat) (second : Bool) :
    (State.enumerate s down up second).dtime = s.dtime ∧ (State.enumerate s down up second).pending = s.pending ∧ (State.enumerate s down up second).mem = s.mem := by
  simp [State.enumerate]
@[simp] theorem State.ringMasks_keep (s : State) (present : Nat) (gap : Nat) :
    (State.ringMasks s present gap).dtime = s.dtime ∧ (State.ringMasks s present gap).pending = s.pending ∧ (State.ringMasks s present gap).mem = s.mem := by
  simp [State.ringMasks]
@[simp] theorem State.firstStep_keep (s : State) (d : Int) :
    (State.firstStep s d).pending = s.pending ∧ (State.firstStep s d).mem = s.mem := by
  simp [State.firstStep]
@[simp] theorem State.twinAbsent_keep (s : State) :
    (State.twinAbsent s).dtime = s.dtime ∧ (State.twinAbsent s).pending = s.pending := by
  simp [State.twinAbsent]
@[simp] theorem State.twinAbsent_wf (s : State) (h : Memory.wf s.mem = true) : Memory.wf (State.twinAbsent s).mem = true := by
  unfold State.twinAbsent
  refine State.fault_wf _ _ _ _ _ (State.forEach_wf _ _ _ (fun s c h => ?_) (by simp [h]))
  dsimp only
  split
  · exact State.frameFinish_wf _ _ _ _ (by simp [h])
  · simp [h]
@[simp] theorem State.ringLoss_keep (s : State) (p : Nat) (gone : Option (Fin 8)) :
    (State.ringLoss s p gone).dtime = s.dtime ∧ (State.ringLoss s p gone).pending = s.pending := by
  unfold State.ringLoss; split <;> simp
@[simp] theorem State.ringLoss_wf (s : State) (p : Nat) (gone : Option (Fin 8)) (h : Memory.wf s.mem = true) : Memory.wf (State.ringLoss s p gone).mem = true := by
  unfold State.ringLoss; dsimp only; (repeat' split) <;> simp [h]
@[simp] theorem State.linkResend_keep (s : State) (p : Nat) (c : Nat) :
    (State.linkResend s p c).dtime = s.dtime ∧ (State.linkResend s p c).pending = s.pending ∧ (State.linkResend s p c).mem = s.mem := by
  simp [State.linkResend]
@[simp] theorem State.fxLnkCtrl_keep (s : State) (p : Nat) (v : Nat) :
    (State.fxLnkCtrl s p v).1.dtime = s.dtime ∧ (State.fxLnkCtrl s p v).1.pending = s.pending ∧ (State.fxLnkCtrl s p v).1.mem = s.mem := by
  simp [State.fxLnkCtrl]
@[simp] theorem State.babShowLayout_keep (s : State) :
    (State.babShowLayout s).dtime = s.dtime ∧ (State.babShowLayout s).pending = s.pending ∧ (State.babShowLayout s).mem = s.mem := by
  simp [State.babShowLayout]
@[simp] theorem State.fxBabIn_keep (s : State) (v : Nat) (k : Nat) (w : Nat) :
    (State.fxBabIn s v k w).1.dtime = s.dtime ∧ (State.fxBabIn s v k w).1.pending = s.pending ∧ (State.fxBabIn s v k w).1.mem = s.mem := by
  simp [State.fxBabIn]
@[simp] theorem State.defectTable_keep (s : State) (c : Nat) :
    (State.defectTable s c).1.dtime = s.dtime ∧ (State.defectTable s c).1.pending = s.pending ∧ (State.defectTable s c).1.mem = s.mem := by
  unfold State.defectTable; (try dsimp only); (repeat' (split <;> try (rename_i heq; have hs := congrArg (fun x => x.1) heq; simp only at hs; subst hs))) <;> simp
@[simp] theorem State.fxBabCtxCfg_keep (s : State) (c : Nat) (w : Nat) :
    (State.fxBabCtxCfg s c w).1.dtime = s.dtime ∧ (State.fxBabCtxCfg s c w).1.pending = s.pending ∧ (State.fxBabCtxCfg s c w).1.mem = s.mem := by
  unfold State.fxBabCtxCfg; dsimp only; (repeat' split) <;> simp
@[simp] theorem State.fxBabCtxReg_keep (s : State) (c : Nat) (a : Nat) (w : Nat) :
    (State.fxBabCtxReg s c a w).1.dtime = s.dtime ∧ (State.fxBabCtxReg s c a w).1.pending = s.pending ∧ (State.fxBabCtxReg s c a w).1.mem = s.mem := by
  simp [State.fxBabCtxReg]
@[simp] theorem State.babPost_keep (s : State) (b : BabClose) :
    (State.babPost s b).dtime = s.dtime ∧ (State.babPost s b).pending = s.pending := by
  unfold State.babPost; dsimp only; (repeat' split) <;> simp
@[simp] theorem State.babPost_wf (s : State) (b : BabClose) (h : Memory.wf s.mem = true) : Memory.wf (State.babPost s b).mem = true := by
  unfold State.babPost; dsimp only; (repeat' split) <;> simp [h]
@[simp] theorem State.babDerate_keep (s : State) (c : Nat) (n : Nat) (tq : Nat) (acc : Nat) :
    (State.babDerate s c n tq acc).dtime = s.dtime ∧ (State.babDerate s c n tq acc).pending = s.pending ∧ (State.babDerate s c n tq acc).mem = s.mem := by
  unfold State.babDerate; dsimp only; (repeat' split) <;> simp
@[simp] theorem State.babMiss_keep (s : State) (c : Nat) (stale : Bool) :
    (State.babMiss s c stale).dtime = s.dtime ∧ (State.babMiss s c stale).pending = s.pending ∧ (State.babMiss s c stale).mem = s.mem := by
  simp [State.babMiss]
@[simp] theorem State.babAction_keep (s : State) (c : Nat) (a : List Nat) :
    (State.babAction s c a).dtime = s.dtime ∧ (State.babAction s c a).pending = s.pending ∧ (State.babAction s c a).mem = s.mem := by
  simp [State.babAction]
@[simp] theorem State.babApply_keep (s : State) (c : Nat) (frame : Nat) (blk : List Nat) :
    (State.babApply s c frame blk).dtime = s.dtime ∧ (State.babApply s c frame blk).pending = s.pending ∧ (State.babApply s c frame blk).mem = s.mem := by
  simp [State.babApply]
@[simp] theorem State.dmaMove_keep (s : State) (src dst n : Nat) (l : List (Nat × Nat)) :
    (s.dmaMove src dst n l).1.dtime = s.dtime ∧ (s.dmaMove src dst n l).1.pending = s.pending := by
  induction l generalizing s n with
  | nil => exact ⟨rfl, rfl⟩
  | cons p t ih =>
    have k := State.readPiece_keep s 0x20 p.1 p.2
    unfold State.dmaMove
    split
    · rename_i u d e
      rw [e] at k
      have k' := State.masterWrite_keep u 0x20 (dst + (p.1 - src)) d
      split
      · rename_i e'; rw [e'] at k'; have i := ih ‹State› (n + p.2); simp_all
      · rename_i e'; rw [e'] at k'; simp_all
    · rename_i u d e
      rw [e] at k
      have k' := State.masterWrite_keep u 0x20 (dst + (p.1 - src)) d
      exact ⟨k'.1.trans k.1, k'.2.trans k.2.1⟩
    · rename_i e; rw [e] at k; exact ⟨k.1, k.2.1⟩
@[simp] theorem State.dmaMove_wf (s : State) (src dst n : Nat) (l : List (Nat × Nat)) (h : Memory.wf s.mem = true) :
    Memory.wf (s.dmaMove src dst n l).1.mem = true := by
  induction l generalizing s n with
  | nil => exact h
  | cons p t ih =>
    have k := State.readPiece_keep s 0x20 p.1 p.2
    unfold State.dmaMove
    split
    · rename_i u d e
      rw [e] at k
      have hu : Memory.wf u.mem = true := by rw [k.2.2]; exact h
      have k' := State.masterWrite_wf u 0x20 (dst + (p.1 - src)) d hu
      split
      · rename_i e'; rw [e'] at k'; exact ih _ _ k'
      · rename_i e'; rw [e'] at k'; exact k'
    · rename_i u d e
      rw [e] at k
      have hu : Memory.wf u.mem = true := by rw [k.2.2]; exact h
      exact State.masterWrite_wf u 0x20 (dst + (p.1 - src)) d hu
    · rename_i e; rw [e] at k; rw [k.2.2]; exact h
@[simp] theorem State.qPostAt_keep (s : State) (q : Nat) (d : Desc) (stamp : Nat) :
    (State.qPostAt s q d stamp).1.dtime = s.dtime ∧ (State.qPostAt s q d stamp).1.pending = s.pending := by
  simp [State.qPostAt]
@[simp] theorem State.qPostAt_wf (s : State) (q : Nat) (d : Desc) (stamp : Nat) (h : Memory.wf s.mem = true) : Memory.wf (State.qPostAt s q d stamp).1.mem = true := by
  unfold State.qPostAt; dsimp only; (repeat' split) <;> simp [h]
@[simp] theorem State.ethDropped_keep (s : State) (p : Nat) :
    (State.ethDropped s p).dtime = s.dtime ∧ (State.ethDropped s p).pending = s.pending ∧ (State.ethDropped s p).mem = s.mem := by
  simp [State.ethDropped]
@[simp] theorem State.fxRstFree_keep (s : State) (m : Nat) (v : Nat) :
    (State.fxRstFree s m v).1.dtime = s.dtime ∧ (State.fxRstFree s m v).1.pending = s.pending := by
  simp [State.fxRstFree]
@[simp] theorem State.fxRstFree_wf (s : State) (m : Nat) (v : Nat) (h : Memory.wf s.mem = true) : Memory.wf (State.fxRstFree s m v).1.mem = true := by
  simp [State.fxRstFree, h]
@[simp] theorem State.fxRecFree_keep (s : State) (v : Nat) :
    (State.fxRecFree s v).1.dtime = s.dtime ∧ (State.fxRecFree s v).1.pending = s.pending ∧ (State.fxRecFree s v).1.mem = s.mem := by
  simp [State.fxRecFree]
@[simp] theorem State.fxAgeFree_keep (s : State) (v : Nat) :
    (State.fxAgeFree s v).1.dtime = s.dtime ∧ (State.fxAgeFree s v).1.pending = s.pending ∧ (State.fxAgeFree s v).1.mem = s.mem := by
  simp [State.fxAgeFree]
theorem onReg_some {f : RF} {n1 n2 off a : Nat} {fx : Nat → Nat → State → State × WErr} {g : State → State × WErr}
    (h : onReg f n1 n2 off a fx = some g) : ∃ i j, g = fx i j := by
  simp only [onReg, Option.ite_none_left_eq_some, Option.ite_none_right_eq_some, Option.some.injEq] at h
  obtain ⟨-, -, rfl⟩ := h
  exact ⟨_, _, rfl⟩
theorem onReg_step {a : Nat} {fx : Nat → Nat → State → State × WErr} {g : State → State × WErr}
    (h : onReg DT.STEP 1 1 4 a fx = some g) : a = DT.STEP.base + 4 := by
  simp only [onReg, Option.ite_none_left_eq_some, Option.ite_none_right_eq_some, Option.some.injEq] at h
  obtain ⟨h1, ⟨-, -, h2⟩, -⟩ := h
  have e1 : DT.STEP.s1 = 0 := rfl
  have e2 : DT.STEP.s2 = 0 := rfl
  rw [e1, e2] at h2
  simp only [if_true] at h2
  omega
/-- What an effect of a register write keeps: the queue, the canonical form of memory, and, but for DT.STEP_HI, DEVICE TIME. -/
def FxKeeps (a : Nat) (s : State) (g : State → State × WErr) : Prop :=
  (g s).1.pending = s.pending ∧ (Memory.wf s.mem = true → Memory.wf (g s).1.mem = true) ∧ (a ≠ DT.STEP.base + 4 → (g s).1.dtime = s.dtime)
theorem writesA_keep (m a v : Nat) (s : State) : ∀ o ∈ writesA m a v, ∀ g, o = some g → FxKeeps a s g := by
  simp only [writesA, List.forall_mem_cons]
  refine ⟨?_, fun g hg => ⟨?_, ?_, fun hn => absurd (onReg_step hg) hn⟩, ?_, ?_, ?_, ?_, ?_, ?_, ?_, ?_, ?_, by simp⟩
  rotate_left 1
  · obtain ⟨i, j, rfl⟩ := onReg_some hg; simp
  · obtain ⟨i, j, rfl⟩ := onReg_some hg; simp +contextual
  all_goals (intro g hg; obtain ⟨i, j, rfl⟩ := onReg_some hg; simp +contextual [FxKeeps])
theorem writesB_keep (m a v : Nat) (s : State) : ∀ o ∈ writesB m a v, ∀ g, o = some g → FxKeeps a s g := by
  simp only [writesB, List.forall_mem_cons]
  refine ⟨?_, ?_, ?_, ?_, ?_, ?_, ?_, ?_, ?_, ?_, ?_, ?_, ?_, ?_, ?_, ?_, ?_, ?_, ?_, ?_, ?_, ?_, by simp⟩ <;>
    (intro g hg; obtain ⟨i, j, rfl⟩ := onReg_some hg; simp +contextual [FxKeeps])
theorem writesC_keep (m a v : Nat) (s : State) : ∀ o ∈ writesC m a v, ∀ g, o = some g → FxKeeps a s g := by
  simp only [writesC, List.forall_mem_cons]
  refine ⟨?_, ?_, ?_, ?_, ?_, ?_, ?_, ?_, ?_, ?_, ?_, ?_, ?_, ?_, by simp⟩ <;>
    (intro g hg; obtain ⟨i, j, rfl⟩ := onReg_some hg; simp +contextual [FxKeeps])
theorem writesD_keep (m a v : Nat) (s : State) : ∀ o ∈ writesD m a v, ∀ g, o = some g → FxKeeps a s g := by
  simp only [writesD, List.forall_mem_cons]
  refine ⟨?_, ?_, ?_, ?_, ?_, ?_, ?_, ?_, ?_, ?_, ?_, ?_, ?_, ?_, ?_, ?_, by simp⟩ <;>
    (intro g hg; obtain ⟨i, j, rfl⟩ := onReg_some hg; simp +contextual [FxKeeps])
theorem writesE_keep (m a v : Nat) (s : State) : ∀ o ∈ writesE m a v, ∀ g, o = some g → FxKeeps a s g := by
  simp only [writesE, List.forall_mem_cons]
  refine ⟨?_, ?_, ?_, ?_, ?_, ?_, ?_, ?_, ?_, ?_, ?_, ?_, ?_, ?_, ?_, ?_, ?_, ?_, ?_, ?_, by simp⟩ <;>
    (intro g hg; obtain ⟨i, j, rfl⟩ := onReg_some hg; simp +contextual [FxKeeps])
theorem writesF_keep (m a v : Nat) (s : State) : ∀ o ∈ writesF m a v, ∀ g, o = some g → FxKeeps a s g := by
  simp only [writesF, List.forall_mem_cons]
  refine ⟨?_, ?_, ?_, ?_, ?_, ?_, ?_, ?_, ?_, ?_, ?_, ?_, ?_, ?_, ?_, ?_, ?_, ?_, ?_, by simp⟩ <;>
    (intro g hg; obtain ⟨i, j, rfl⟩ := onReg_some hg; simp +contextual [FxKeeps])
theorem writesOther_keep {a v : Nat} (s : State) {g : State → State × WErr} (h : writesOther a v = some g) : FxKeeps a s g := by
  unfold writesOther at h
  split at h
  · cases h; simp +contextual [FxKeeps]
  · split at h
    · cases h; simp +contextual [FxKeeps]
    · obtain ⟨k, -, rfl⟩ := Option.map_eq_some_iff.mp h; simp +contextual [FxKeeps]
theorem State.writeFx_all (s : State) (m a v : Nat) : FxKeeps a s fun s => s.writeFx m a v := by
  have key : ∀ g, (writesA m a v ++ writesB m a v ++ writesC m a v ++ writesD m a v ++ writesE m a v ++ writesF m a v).findSome? id = some g →
      FxKeeps a s g := by
    intro g hg
    obtain ⟨o, ho, e⟩ := List.exists_of_findSome?_eq_some hg
    simp only [List.mem_append] at ho
    rcases ho with ((((ho | ho) | ho) | ho) | ho) | ho
    · exact writesA_keep m a v s o ho g e
    · exact writesB_keep m a v s o ho g e
    · exact writesC_keep m a v s o ho g e
    · exact writesD_keep m a v s o ho g e
    · exact writesE_keep m a v s o ho g e
    · exact writesF_keep m a v s o ho g e
  unfold FxKeeps State.writeFx
  split
  · rename_i g hg; exact key g hg
  · split
    · rename_i g hg; exact writesOther_keep s hg
    · simp +contextual
@[simp] theorem State.writeFx_keep (s : State) (m a v : Nat) : (s.writeFx m a v).1.pending = s.pending := (State.writeFx_all s m a v).1
@[simp] theorem State.writeFx_wf (s : State) (m a v : Nat) (h : Memory.wf s.mem = true) : Memory.wf (s.writeFx m a v).1.mem = true :=
  (State.writeFx_all s m a v).2.1 h
/-- No write but one of DT.STEP_HI moves DEVICE TIME. -/
theorem State.writeFx_time (s : State) (m a v : Nat) (h : a ≠ DT.STEP.base + 4) : (s.writeFx m a v).1.dtime = s.dtime :=
  (State.writeFx_all s m a v).2.2 h
@[simp] theorem State.drainPosted_keep (s : State) : (State.drainPosted s).pending = s.pending := by
  unfold State.drainPosted
  exact foldl_keep State.pending _ (fun s p => by simp) _ _
@[simp] theorem State.drainPosted_wf (s : State) (h : Memory.wf s.mem = true) : Memory.wf (State.drainPosted s).mem = true := by
  unfold State.drainPosted; refine State.forEach_wf _ _ _ (fun _ _ h => ?_) h; (repeat' split) <;> simp_all
@[simp] theorem State.clock_keep (s : State) :
    (State.clock s).pending = s.pending := by
  simp [State.clock]
@[simp] theorem State.clock_wf (s : State) (h : Memory.wf s.mem = true) : Memory.wf (State.clock s).mem = true := by
  have a : Memory.wf s.tick.t2Clock.abortClock.lanesClock.trimClock.mem = true := by simp [h]
  have b : Memory.wf s.tick.t2Clock.abortClock.lanesClock.trimClock.windowEnd.mem = true := State.windowEnd_wf _ a
  exact State.drainPosted_wf _ (by simpa using b)
@[simp] theorem State.busWrite_keep (s : State) (m a v : Nat) : (s.busWrite m a v).pending = s.pending := by
  simp [State.busWrite]
@[simp] theorem State.busWrite_wf (s : State) (m a v : Nat) (h : Memory.wf s.mem = true) : Memory.wf (s.busWrite m a v).mem = true := by
  unfold State.busWrite
  exact State.busWriteWith_wf _ _ _ _ _ h (State.writeFx_wf _ _ _ _)
theorem State.busWrite_time (s : State) (m a v : Nat) (h : a ≠ DT.STEP.base + 4) : (s.busWrite m a v).dtime = s.dtime := by
  unfold State.busWrite
  exact (State.busWriteWith_keep _ _ _ _ _).1 (State.writeFx_time _ _ _ _ h)
@[simp] theorem State.store_keep (s : State) (m a : Nat) (d : List Nat) :
    (s.store m a d).pending = s.pending ∧ (Memory.wf s.mem = true → Memory.wf (s.store m a d).mem = true) ∧
    (a ≠ DT.STEP.base + 4 → (s.store m a d).dtime = s.dtime) := by
  unfold State.store
  split
  · simp
  · split
    · exact ⟨State.busWrite_keep _ _ _ _, State.busWrite_wf _ _ _ _, State.busWrite_time _ _ _ _⟩
    · split
      · simp
      · split
        · simp
        · have k := State.masterWrite_keep s m a d
          have w := State.masterWrite_wf s m a d
          dsimp only
          split <;> simp_all
@[simp] theorem State.load_keep (s : State) (m a n : Nat) :
    (s.load m a n).dtime = s.dtime ∧ (s.load m a n).pending = s.pending ∧ (s.load m a n).mem = s.mem := by
  unfold State.load
  split
  · simp
  · split
    · simp
    · split
      · simp
      · split
        · simp
        · have k := State.masterRead_keep s m a n
          split <;> (rename_i e; rw [e] at k; simp_all)
@[simp] theorem State.linkComplete_keep (s : State) (p : Nat) (data : List Nat) :
    (State.linkComplete s p data).dtime = s.dtime ∧ (State.linkComplete s p data).pending = s.pending ∧ (State.linkComplete s p data).mem = s.mem := by
  simp [State.linkComplete]
@[simp] theorem State.mbRun_keep (s : State) (b op : Nat) (f : State → List Nat → State × Option MbRes) :
    ((∀ s l, (f s l).1.dtime = s.dtime) → (s.mbRun b op f).dtime = s.dtime) ∧
    ((∀ s l, (f s l).1.pending = s.pending) → (s.mbRun b op f).pending = s.pending) ∧
    ((∀ s l, (f s l).1.mem = s.mem) → (s.mbRun b op f).mem = s.mem) := by
  unfold State.mbRun
  split
  · simp
  · split
    · dsimp only; split <;> simp +contextual
    · simp
theorem State.mbRun_wf (s : State) (b op : Nat) (f : State → List Nat → State × Option MbRes)
    (hf : ∀ s l, Memory.wf s.mem = true → Memory.wf (f s l).1.mem = true) (h : Memory.wf s.mem = true) :
    Memory.wf (s.mbRun b op f).mem = true := by
  unfold State.mbRun
  split
  · exact h
  · split
    · dsimp only; split <;> simp [hf _ _ h]
    · exact h
@[simp] theorem State.mbWrite_keep (s : State) (a : Nat) (fx : State → State × WErr) (res : State → Option MbRes) :
    ((fx s).1.dtime = s.dtime → (s.mbWrite a fx res).1.dtime = s.dtime) ∧
    ((fx s).1.pending = s.pending → (s.mbWrite a fx res).1.pending = s.pending) ∧
    ((fx s).1.mem = s.mem → (s.mbWrite a fx res).1.mem = s.mem) := by
  have k := State.busWriteWith_keep s 8 a (needsSw a) fx
  unfold State.mbWrite
  dsimp only
  split
  · exact ⟨fun _ => rfl, fun _ => rfl, fun _ => rfl⟩
  · exact k
@[simp] theorem State.mbWrite_wf (s : State) (a : Nat) (fx : State → State × WErr) (res : State → Option MbRes)
    (h : Memory.wf s.mem = true) (hf : Memory.wf s.mem = true → Memory.wf (fx s).1.mem = true) :
    Memory.wf (s.mbWrite a fx res).1.mem = true := by
  unfold State.mbWrite
  dsimp only
  split
  · exact h
  · exact State.busWriteWith_wf s 8 a (needsSw a) fx h hf
/-- Words that all go through leave DEVICE TIME, the waiting commands and memory. -/
theorem State.mbWords_keep {s t : State} {l : List (Nat × Nat × Nat)} (h : s.mbWords l = some t) :
    t.dtime = s.dtime ∧ t.pending = s.pending ∧ t.mem = s.mem := by
  induction l generalizing s with
  | nil => cases h; exact ⟨rfl, rfl, rfl⟩
  | cons w l ih =>
    unfold State.mbWords at h
    dsimp only at h
    generalize hf : (fun s : State => if w.2.1 = AT.CTRL.LOCK.addr w.1 then s.writeFields w.2.1 w.2.2 else s.fxAtWin w.1 w.2.1 w.2.2) = fx at h
    have kd : ∀ u : State, (fx u).1.dtime = u.dtime ∧ (fx u).1.pending = u.pending ∧ (fx u).1.mem = u.mem := fun u => by
      rw [← hf]
      dsimp only
      split <;> simp
    split at h
    · cases h
    · have k := ih h
      have b := State.busWriteWith_keep s 8 w.2.1 true fx
      exact ⟨k.1.trans (b.1 (kd s).1), k.2.1.trans (b.2.1 (kd s).2.1), k.2.2.trans (b.2.2 (kd s).2.2)⟩
@[simp] theorem State.mbWordsOr_keep (s : State) (l : List (Nat × Nat × Nat)) (res : MbRes) :
    (s.mbWordsOr l res).1.dtime = s.dtime ∧ (s.mbWordsOr l res).1.pending = s.pending ∧ (s.mbWordsOr l res).1.mem = s.mem := by
  unfold State.mbWordsOr
  split
  · rename_i e; exact State.mbWords_keep e
  · exact ⟨rfl, rfl, rfl⟩

end Sys2Proof.Machine
end

