-- ==== Sys2Proof/Laws/KeepExec1.lean ====
section
/-!
SUPPORT. Every command answers a next state and keeps the queue; those that `changesTime` does not name keep DEVICE TIME; memory is kept, or its
canonical form where the command writes it.
-/
set_option linter.all false
namespace Sys2Proof.Machine

theorem execRecorderTake_keep (s : State) :
    ∃ t, execRecorderTake s = .next t ∧ t.dtime = s.dtime ∧ t.pending = s.pending ∧ (Memory.wf s.mem = true → Memory.wf t.mem = true) := by
  unfold execRecorderTake; dsimp only; (repeat' split) <;> refine ⟨_, rfl, ?_⟩ <;> simp_all +contextual
theorem execMirrorWrite_keep (ok : Bool) (s : State) :
    ∃ t, execMirrorWrite ok s = .next t ∧ t.dtime = s.dtime ∧ t.pending = s.pending ∧ t.mem = s.mem := by
  unfold execMirrorWrite; (repeat' split) <;> refine ⟨_, rfl, ?_⟩ <;> simp
theorem execNvReadDone_keep (ok : Bool) (s : State) :
    ∃ t, execNvReadDone ok s = .next t ∧ t.dtime = s.dtime ∧ t.pending = s.pending ∧ t.mem = s.mem := by
  unfold execNvReadDone; (repeat' split) <;> refine ⟨_, rfl, ?_⟩ <;> simp
theorem execHoursUpdate_keep (s : State) :
    ∃ t, execHoursUpdate s = .next t ∧ t.dtime = s.dtime ∧ t.pending = s.pending ∧ t.mem = s.mem := by
  unfold execHoursUpdate; dsimp only; (repeat' split) <;> refine ⟨_, rfl, ?_⟩ <;> simp
theorem execQPost_keep (m : Fin 64) (q : Fin 1024) (n : Fin 8192) (s : State) :
    ∃ t, execQPost m q n s = .next t ∧ t.dtime = s.dtime ∧ t.pending = s.pending ∧ (Memory.wf s.mem = true → Memory.wf t.mem = true) := by
  refine ⟨_, rfl, ?_⟩; simp +contextual
theorem execQTake_keep (m : Fin 64) (q : Fin 1024) (n : Fin 8192) (s : State) :
    ∃ t, execQTake m q n s = .next t ∧ t.dtime = s.dtime ∧ t.pending = s.pending ∧ (Memory.wf s.mem = true → Memory.wf t.mem = true) := by
  refine ⟨_, rfl, ?_⟩; simp +contextual
theorem execQRetire_keep (m : Fin 64) (q : Fin 1024) (n : Fin 8192) (s : State) :
    ∃ t, execQRetire m q n s = .next t ∧ t.dtime = s.dtime ∧ t.pending = s.pending ∧ (Memory.wf s.mem = true → Memory.wf t.mem = true) := by
  refine ⟨_, rfl, ?_⟩; simp +contextual
theorem execQCfgWrite_keep (m : Fin 64) (q : Fin 1024) (v : Sys2Proof.Word) (s : State) :
    ∃ t, execQCfgWrite m q v s = .next t ∧ t.dtime = s.dtime ∧ t.pending = s.pending ∧ t.mem = s.mem := by
  refine ⟨_, rfl, ?_⟩; simp
theorem execQBaseWrite_keep (m : Fin 64) (q : Fin 1024) (v : Sys2Proof.Word) (s : State) :
    ∃ t, execQBaseWrite m q v s = .next t ∧ t.dtime = s.dtime ∧ t.pending = s.pending ∧ t.mem = s.mem := by
  refine ⟨_, rfl, ?_⟩; simp
theorem execMatmul_keep (c : Fin 64) (i : Fin 65536) (s : State) :
    ∃ t, execMatmul c i s = .next t ∧ t.dtime = s.dtime ∧ t.pending = s.pending ∧ (Memory.wf s.mem = true → Memory.wf t.mem = true) := by
  refine ⟨_, rfl, ?_⟩; simp +contextual
theorem execMatmulBias_keep (c : Fin 64) (i : Fin 65536) (s : State) :
    ∃ t, execMatmulBias c i s = .next t ∧ t.dtime = s.dtime ∧ t.pending = s.pending ∧ (Memory.wf s.mem = true → Memory.wf t.mem = true) := by
  refine ⟨_, rfl, ?_⟩; simp +contextual
theorem execConv1d_keep (c : Fin 64) (i : Fin 65536) (stride : Nat) (dil : Nat) (pad : Nat) (s : State) :
    ∃ t, execConv1d c i stride dil pad s = .next t ∧ t.dtime = s.dtime ∧ t.pending = s.pending ∧ (Memory.wf s.mem = true → Memory.wf t.mem = true) := by
  refine ⟨_, rfl, ?_⟩; simp +contextual
theorem execConv2d_keep (c : Fin 64) (i : Fin 65536) (stride : Nat) (dil : Nat) (pad : Nat) (s : State) :
    ∃ t, execConv2d c i stride dil pad s = .next t ∧ t.dtime = s.dtime ∧ t.pending = s.pending ∧ (Memory.wf s.mem = true → Memory.wf t.mem = true) := by
  refine ⟨_, rfl, ?_⟩; simp +contextual
theorem execDwconv_keep (c : Fin 64) (i : Fin 65536) (stride : Nat) (dil : Nat) (pad : Nat) (s : State) :
    ∃ t, execDwconv c i stride dil pad s = .next t ∧ t.dtime = s.dtime ∧ t.pending = s.pending ∧ (Memory.wf s.mem = true → Memory.wf t.mem = true) := by
  refine ⟨_, rfl, ?_⟩; simp +contextual
theorem execOutlierMm_keep (c : Fin 64) (i : Fin 65536) (s : State) :
    ∃ t, execOutlierMm c i s = .next t ∧ t.dtime = s.dtime ∧ t.pending = s.pending ∧ (Memory.wf s.mem = true → Memory.wf t.mem = true) := by
  refine ⟨_, rfl, ?_⟩; simp +contextual
theorem execHadamard_keep (c : Fin 64) (i : Fin 65536) (s : State) :
    ∃ t, execHadamard c i s = .next t ∧ t.dtime = s.dtime ∧ t.pending = s.pending ∧ (Memory.wf s.mem = true → Memory.wf t.mem = true) := by
  refine ⟨_, rfl, ?_⟩; simp +contextual
theorem execQuant_keep (c : Fin 64) (i : Fin 65536) (s : State) :
    ∃ t, execQuant c i s = .next t ∧ t.dtime = s.dtime ∧ t.pending = s.pending ∧ (Memory.wf s.mem = true → Memory.wf t.mem = true) := by
  refine ⟨_, rfl, ?_⟩; simp +contextual
theorem execDequant_keep (c : Fin 64) (i : Fin 65536) (s : State) :
    ∃ t, execDequant c i s = .next t ∧ t.dtime = s.dtime ∧ t.pending = s.pending ∧ (Memory.wf s.mem = true → Memory.wf t.mem = true) := by
  refine ⟨_, rfl, ?_⟩; simp +contextual
theorem execQstat_keep (c : Fin 64) (i : Fin 65536) (s : State) :
    ∃ t, execQstat c i s = .next t ∧ t.dtime = s.dtime ∧ t.pending = s.pending ∧ (Memory.wf s.mem = true → Memory.wf t.mem = true) := by
  refine ⟨_, rfl, ?_⟩; simp +contextual
theorem execDma_keep (c : Fin 64) (i : Fin 65536) (q : Fin 1024) (done : Fin 1024) (src : Nat) (dst : Nat) (len : Nat) (s : State) :
    ∃ t, execDma c i q done src dst len s = .next t ∧ t.dtime = s.dtime ∧ t.pending = s.pending ∧ (Memory.wf s.mem = true → Memory.wf t.mem = true) := by
  refine ⟨_, rfl, ?_⟩; simp +contextual
theorem execWait_keep (c : Fin 64) (i : Fin 65536) (s : State) :
    ∃ t, execWait c i s = .next t ∧ t.dtime = s.dtime ∧ t.pending = s.pending ∧ t.mem = s.mem := by
  refine ⟨_, rfl, ?_⟩; simp
theorem execPost_keep (c : Fin 64) (i : Fin 65536) (s : State) :
    ∃ t, execPost c i s = .next t ∧ t.dtime = s.dtime ∧ t.pending = s.pending ∧ (Memory.wf s.mem = true → Memory.wf t.mem = true) := by
  refine ⟨_, rfl, ?_⟩; simp +contextual
theorem execRetire_keep (c : Fin 64) (i : Fin 65536) (s : State) :
    ∃ t, execRetire c i s = .next t ∧ t.dtime = s.dtime ∧ t.pending = s.pending ∧ t.mem = s.mem := by
  refine ⟨_, rfl, ?_⟩; simp
theorem execBarrier_keep (c : Fin 64) (i : Fin 65536) (mask : Fin 256) (s : State) :
    ∃ t, execBarrier c i mask s = .next t ∧ t.dtime = s.dtime ∧ t.pending = s.pending ∧ t.mem = s.mem := by
  refine ⟨_, rfl, ?_⟩; simp
theorem execResult_keep (c : Fin 64) (i : Fin 65536) (s : State) :
    ∃ t, execResult c i s = .next t ∧ t.dtime = s.dtime ∧ t.pending = s.pending ∧ t.mem = s.mem := by
  refine ⟨_, rfl, ?_⟩; simp
theorem execNop_keep (c : Fin 64) (i : Fin 65536) (s : State) :
    ∃ t, execNop c i s = .next t ∧ t.dtime = s.dtime ∧ t.pending = s.pending ∧ t.mem = s.mem := by
  refine ⟨_, rfl, ?_⟩; simp
theorem execMonSnap_keep (m : Fin 64) (k : Fin 424) (v : Sys2Proof.Word) (s : State) :
    ∃ t, execMonSnap m k v s = .next t ∧ t.dtime = s.dtime ∧ t.pending = s.pending ∧ t.mem = s.mem := by
  refine ⟨_, rfl, ?_⟩; simp
theorem execMonAutoSnap_keep (k : Fin 424) (s : State) :
    ∃ t, execMonAutoSnap k s = .next t ∧ t.dtime = s.dtime ∧ t.pending = s.pending ∧ t.mem = s.mem := by
  unfold execMonAutoSnap; dsimp only; (repeat' split) <;> refine ⟨_, rfl, ?_⟩ <;> simp
theorem execHkConversionDone_keep (k : Fin 4) (raw : Int) (s : State) :
    ∃ t, execHkConversionDone k raw s = .next t ∧ t.dtime = s.dtime ∧ t.pending = s.pending ∧ t.mem = s.mem := by
  unfold execHkConversionDone; (repeat' split) <;> refine ⟨_, rfl, ?_⟩ <;> simp
theorem execHkDelayExpiry_keep (k : Fin 4) (s : State) :
    ∃ t, execHkDelayExpiry k s = .next t ∧ t.dtime = s.dtime ∧ t.pending = s.pending ∧ t.mem = s.mem := by
  unfold execHkDelayExpiry; dsimp only; (repeat' split) <;> refine ⟨_, rfl, ?_⟩ <;> simp
theorem execHkStart_keep (m : Fin 64) (k : Fin 4) (v : Sys2Proof.Word) (s : State) :
    ∃ t, execHkStart m k v s = .next t ∧ t.dtime = s.dtime ∧ t.pending = s.pending ∧ t.mem = s.mem := by
  refine ⟨_, rfl, ?_⟩; simp
theorem execHkStop_keep (m : Fin 64) (k : Fin 4) (v : Sys2Proof.Word) (s : State) :
    ∃ t, execHkStop m k v s = .next t ∧ t.dtime = s.dtime ∧ t.pending = s.pending ∧ t.mem = s.mem := by
  refine ⟨_, rfl, ?_⟩; simp
theorem execHkUrgent_keep (m : Fin 64) (k : Fin 4) (safety : Bool) (v : Sys2Proof.Word) (s : State) :
    ∃ t, execHkUrgent m k safety v s = .next t ∧ t.dtime = s.dtime ∧ t.pending = s.pending ∧ t.mem = s.mem := by
  unfold execHkUrgent; (repeat' split) <;> refine ⟨_, rfl, ?_⟩ <;> simp
theorem execSlotFire_keep (k : Fin 256) (s : State) :
    ∃ t, execSlotFire k s = .next t ∧ t.dtime = s.dtime ∧ t.pending = s.pending ∧ (Memory.wf s.mem = true → Memory.wf t.mem = true) := by
  unfold execSlotFire; dsimp only; (repeat' split) <;> refine ⟨_, rfl, ?_⟩ <;> simp_all +contextual
theorem execSchCfgWrite_keep (m : Fin 64) (k : Fin 256) (v : Sys2Proof.Word) (s : State) :
    ∃ t, execSchCfgWrite m k v s = .next t ∧ t.dtime = s.dtime ∧ t.pending = s.pending ∧ t.mem = s.mem := by
  refine ⟨_, rfl, ?_⟩; simp
theorem execSchTargetWrite_keep (m : Fin 64) (k : Fin 256) (v : Sys2Proof.Word) (s : State) :
    ∃ t, execSchTargetWrite m k v s = .next t ∧ t.dtime = s.dtime ∧ t.pending = s.pending ∧ t.mem = s.mem := by
  refine ⟨_, rfl, ?_⟩; simp
theorem execTbRestart_keep (m : Fin 64) (t_ : Fin 64) (ratio : Bool) (v : Sys2Proof.Word) (s : State) :
    ∃ t, execTbRestart m t_ ratio v s = .next t ∧ t.dtime = s.dtime ∧ t.pending = s.pending ∧ (Memory.wf s.mem = true → Memory.wf t.mem = true) := by
  unfold execTbRestart; (repeat' split) <;> refine ⟨_, rfl, ?_⟩ <;> simp +contextual
theorem execTbSoftwareUpdate_keep (m : Fin 64) (t_ : Fin 64) (v : Sys2Proof.Word) (s : State) :
    ∃ t, execTbSoftwareUpdate m t_ v s = .next t ∧ t.dtime = s.dtime ∧ t.pending = s.pending ∧ (Memory.wf s.mem = true → Memory.wf t.mem = true) := by
  refine ⟨_, rfl, ?_⟩; simp +contextual
theorem execTbAngleLoRead_keep (m : Fin 64) (t_ : Fin 64) (s : State) :
    ∃ t, execTbAngleLoRead m t_ s = .next t ∧ t.dtime = s.dtime ∧ t.pending = s.pending ∧ t.mem = s.mem := by
  refine ⟨_, rfl, ?_⟩; simp
theorem execTbSourceSilent_keep (t_ : Fin 64) (s : State) :
    ∃ t, execTbSourceSilent t_ s = .next t ∧ t.dtime = s.dtime ∧ t.pending = s.pending ∧ (Memory.wf s.mem = true → Memory.wf t.mem = true) := by
  unfold execTbSourceSilent; dsimp only; (repeat' split) <;> refine ⟨_, rfl, ?_⟩ <;> simp_all +contextual
theorem execTbHoldExpiry_keep (t_ : Fin 64) (s : State) :
    ∃ t, execTbHoldExpiry t_ s = .next t ∧ t.dtime = s.dtime ∧ t.pending = s.pending ∧ (Memory.wf s.mem = true → Memory.wf t.mem = true) := by
  unfold execTbHoldExpiry; (repeat' split) <;> refine ⟨_, rfl, ?_⟩ <;> simp +contextual
theorem execTachPulse_keep (k : Fin 8) (level : Sys2Proof.PinLevel) (s : State) :
    ∃ t, execTachPulse k level s = .next t ∧ t.dtime = s.dtime ∧ t.pending = s.pending ∧ (Memory.wf s.mem = true → Memory.wf t.mem = true) := by
  unfold execTachPulse; dsimp only; (repeat' split) <;> refine ⟨_, rfl, ?_⟩ <;> simp_all +contextual
theorem execSsiFrame_keep (k : Fin 8) (start : Nat) (stamp : Nat) (raw : Nat) (parity : Bool) (idle : Bool) (s : State) :
    ∃ t, execSsiFrame k start stamp raw parity idle s = .next t ∧ t.dtime = s.dtime ∧ t.pending = s.pending ∧ (Memory.wf s.mem = true → Memory.wf t.mem = true) := by
  unfold execSsiFrame; dsimp only; (repeat' split) <;> refine ⟨_, rfl, ?_⟩ <;> simp_all +contextual
theorem execLsyncEdge_keep (level : Sys2Proof.PinLevel) (s : State) :
    ∃ t, execLsyncEdge level s = .next t ∧ t.dtime = s.dtime ∧ t.pending = s.pending ∧ (Memory.wf s.mem = true → Memory.wf t.mem = true) := by
  unfold execLsyncEdge; dsimp only; (repeat' split) <;> refine ⟨_, rfl, ?_⟩ <;> simp_all +contextual
theorem execSpdDerateWrite_keep (m : Fin 64) (n : Fin 48) (v : Sys2Proof.Word) (s : State) :
    ∃ t, execSpdDerateWrite m n v s = .next t ∧ t.dtime = s.dtime ∧ t.pending = s.pending ∧ t.mem = s.mem := by
  refine ⟨_, rfl, ?_⟩; simp
theorem execFrameEnd_keep (c : Fin 64) (s : State) :
    ∃ t, execFrameEnd c s = .next t ∧ t.dtime = s.dtime ∧ t.pending = s.pending ∧ (Memory.wf s.mem = true → Memory.wf t.mem = true) := by
  refine ⟨_, rfl, ?_⟩; simp +contextual
theorem execFrameTimeout_keep (c : Fin 64) (s : State) :
    ∃ t, execFrameTimeout c s = .next t ∧ t.dtime = s.dtime ∧ t.pending = s.pending ∧ (Memory.wf s.mem = true → Memory.wf t.mem = true) := by
  unfold execFrameTimeout; dsimp only; (repeat' split) <;> refine ⟨_, rfl, ?_⟩ <;> simp_all +contextual
theorem execCompare_keep (c : Fin 64) (kind : Fin 2) (code : Fin 256) (frame : Nat) (digest : List Nat) (s : State) :
    ∃ t, execCompare c kind code frame digest s = .next t ∧ t.dtime = s.dtime ∧ t.pending = s.pending ∧ (Memory.wf s.mem = true → Memory.wf t.mem = true) := by
  unfold execCompare; (repeat' split) <;> refine ⟨_, rfl, ?_⟩ <;> simp +contextual
theorem execTwinPartnerTimeout_keep (c : Fin 64) (s : State) :
    ∃ t, execTwinPartnerTimeout c s = .next t ∧ t.dtime = s.dtime ∧ t.pending = s.pending ∧ (Memory.wf s.mem = true → Memory.wf t.mem = true) := by
  unfold execTwinPartnerTimeout; (repeat' split) <;> refine ⟨_, rfl, ?_⟩ <;> simp +contextual
theorem execLinkCopy_keep (c : Fin 64) (frame stamp : Nat) (type_ : Fin 256) (param : Nat) (user data : List Nat) (s : State) :
    ∃ t, execLinkCopy c frame stamp type_ param user data s = .next t ∧ t.dtime = s.dtime ∧ t.pending = s.pending ∧
      (Memory.wf s.mem = true → Memory.wf t.mem = true) := by
  unfold execLinkCopy
  split
  · generalize frame % 2 ^ 32 = fr
    generalize stamp % 2 ^ 64 = st
    generalize param % 2 ^ 32 = pa
    dsimp only
    have w : ∀ x y z d a, Memory.wf s.mem = true →
        Memory.wf ((((((s.linkRecv 2 pkCopy).incWrap TWN.STATUS.COPY_CNT).trigger c x).1.masterWrite 24 y z).1.qPostHw d a).1).mem = true :=
      fun x y z d a h => State.qPostHw_wf _ _ _ (State.masterWrite_wf _ _ _ _ (State.trigger_wf _ _ _ (by simp [h])))
    split
    · exact ⟨_, rfl, by simp +contextual⟩
    · refine ⟨_, rfl, ?_⟩
      split
      · exact ⟨by simp, by simp, w _ _ _ _ _⟩
      · refine ⟨by simp, by simp, fun h => ?_⟩
        first
          | exact State.noInput_wf _ _ _ (w _ _ _ _ _ h)
          | (simp only [State.noInput_keep]; exact w _ _ _ _ _ h)
  · exact ⟨_, rfl, rfl, rfl, id⟩
theorem execTwinCopyTimeout_keep (c : Fin 64) (frame : Nat) (stamp : LeadPost) (s : State) :
    ∃ t, execTwinCopyTimeout c frame stamp s = .next t ∧ t.dtime = s.dtime ∧ t.pending = s.pending ∧
      (Memory.wf s.mem = true → Memory.wf t.mem = true) := by
  unfold execTwinCopyTimeout
  split
  · generalize frame % 2 ^ 32 = fr
    generalize stamp.trig % 2 ^ 64 = st
    dsimp only
    split <;> (rename_i heq; have hs := congrArg (fun x => x.1) heq; simp only at hs; subst hs)
    · exact ⟨_, rfl, by simp +contextual⟩
    · refine ⟨_, rfl, ?_⟩
      split <;> simp +contextual
  · exact ⟨_, rfl, rfl, rfl, id⟩
theorem execCtxLoad_keep (m : Fin 64) (c : Fin 64) (s : State) :
    ∃ t, execCtxLoad m c s = .next t ∧ t.dtime = s.dtime ∧ t.pending = s.pending ∧ (Memory.wf s.mem = true → Memory.wf t.mem = true) := by
  refine ⟨_, rfl, ?_⟩; simp +contextual
theorem execCtxArm_keep (m : Fin 64) (c : Fin 64) (fresh : Bool) (s : State) :
    ∃ t, execCtxArm m c fresh s = .next t ∧ t.dtime = s.dtime ∧ t.pending = s.pending ∧ (Memory.wf s.mem = true → Memory.wf t.mem = true) := by
  refine ⟨_, rfl, ?_⟩; simp +contextual
theorem execCtxDisarm_keep (m : Fin 64) (c : Fin 64) (s : State) :
    ∃ t, execCtxDisarm m c s = .next t ∧ t.dtime = s.dtime ∧ t.pending = s.pending ∧ (Memory.wf s.mem = true → Memory.wf t.mem = true) := by
  refine ⟨_, rfl, ?_⟩; simp +contextual
theorem execCtxAbort_keep (m : Fin 64) (c : Fin 64) (s : State) :
    ∃ t, execCtxAbort m c s = .next t ∧ t.dtime = s.dtime ∧ t.pending = s.pending ∧ (Memory.wf s.mem = true → Memory.wf t.mem = true) := by
  refine ⟨_, rfl, ?_⟩; simp +contextual
theorem execCtxUnload_keep (m : Fin 64) (c : Fin 64) (s : State) :
    ∃ t, execCtxUnload m c s = .next t ∧ t.dtime = s.dtime ∧ t.pending = s.pending ∧ (Memory.wf s.mem = true → Memory.wf t.mem = true) := by
  refine ⟨_, rfl, ?_⟩; simp +contextual
theorem execCtxSnap_keep (m : Fin 64) (c : Fin 64) (s : State) :
    ∃ t, execCtxSnap m c s = .next t ∧ t.dtime = s.dtime ∧ t.pending = s.pending ∧ (Memory.wf s.mem = true → Memory.wf t.mem = true) := by
  refine ⟨_, rfl, ?_⟩; simp +contextual
theorem execCtxRestore_keep (m : Fin 64) (c : Fin 64) (s : State) :
    ∃ t, execCtxRestore m c s = .next t ∧ t.dtime = s.dtime ∧ t.pending = s.pending ∧ (Memory.wf s.mem = true → Memory.wf t.mem = true) := by
  refine ⟨_, rfl, ?_⟩; simp +contextual
theorem execCtxStart_keep (m : Fin 64) (c : Fin 64) (s : State) :
    ∃ t, execCtxStart m c s = .next t ∧ t.dtime = s.dtime ∧ t.pending = s.pending ∧ (Memory.wf s.mem = true → Memory.wf t.mem = true) := by
  refine ⟨_, rfl, ?_⟩; simp +contextual
theorem execCtxCmdComplete_keep (c : Fin 64) (partner : Option Sys2Proof.PartnerCtx) (s : State) :
    ∃ t, execCtxCmdComplete c partner s = .next t ∧ t.dtime = s.dtime ∧ t.pending = s.pending ∧ (Memory.wf s.mem = true → Memory.wf t.mem = true) := by
  refine ⟨_, rfl, ?_⟩; simp +contextual
theorem execTwinArmTimeout_keep (c : Fin 64) (s : State) :
    ∃ t, execTwinArmTimeout c s = .next t ∧ t.dtime = s.dtime ∧ t.pending = s.pending ∧ t.mem = s.mem := by
  unfold execTwinArmTimeout; (repeat' split) <;> refine ⟨_, rfl, ?_⟩ <;> simp
theorem execTraceArm_keep (m : Fin 64) (c : Fin 64) (v : Sys2Proof.Word) (s : State) :
    ∃ t, execTraceArm m c v s = .next t ∧ t.dtime = s.dtime ∧ t.pending = s.pending ∧ t.mem = s.mem := by
  refine ⟨_, rfl, ?_⟩; simp
theorem execTileAssign_keep (p : Fin 8) (s : State) :
    ∃ t, execTileAssign p s = .next t ∧ t.dtime = s.dtime ∧ t.pending = s.pending ∧ t.mem = s.mem := by
  unfold execTileAssign; (repeat' split) <;> refine ⟨_, rfl, ?_⟩ <;> simp
theorem execTileStaged_keep (p : Fin 8) (k : Fin 256) (s : State) :
    ∃ t, execTileStaged p k s = .next t ∧ t.dtime = s.dtime ∧ t.pending = s.pending ∧ t.mem = s.mem := by
  unfold execTileStaged; (repeat' split) <;> refine ⟨_, rfl, ?_⟩ <;> simp
theorem execTileIssue_keep (p : Fin 8) (s : State) :
    ∃ t, execTileIssue p s = .next t ∧ t.dtime = s.dtime ∧ t.pending = s.pending ∧ t.mem = s.mem := by
  unfold execTileIssue; dsimp only; (repeat' split) <;> refine ⟨_, rfl, ?_⟩ <;> simp
theorem execTileRetire_keep (p : Fin 8) (s : State) :
    ∃ t, execTileRetire p s = .next t ∧ t.dtime = s.dtime ∧ t.pending = s.pending ∧ t.mem = s.mem := by
  unfold execTileRetire; (repeat' split) <;> refine ⟨_, rfl, ?_⟩ <;> simp
theorem execInfEngFence_keep (m : Fin 64) (v : Sys2Proof.Word) (s : State) :
    ∃ t, execInfEngFence m v s = .next t ∧ t.dtime = s.dtime ∧ t.pending = s.pending ∧ t.mem = s.mem := by
  refine ⟨_, rfl, ?_⟩; simp
theorem execEngCtrlReset_keep (m : Fin 64) (p : Fin 8) (v : Sys2Proof.Word) (s : State) :
    ∃ t, execEngCtrlReset m p v s = .next t ∧ t.dtime = s.dtime ∧ t.pending = s.pending ∧ (Memory.wf s.mem = true → Memory.wf t.mem = true) := by
  refine ⟨_, rfl, ?_⟩; simp +contextual
theorem execUtilSnap_keep (m : Fin 64) (v : Sys2Proof.Word) (s : State) :
    ∃ t, execUtilSnap m v s = .next t ∧ t.dtime = s.dtime ∧ t.pending = s.pending ∧ t.mem = s.mem := by
  refine ⟨_, rfl, ?_⟩; simp
theorem execUtilAutoSnap_keep (s : State) :
    ∃ t, execUtilAutoSnap s = .next t ∧ t.dtime = s.dtime ∧ t.pending = s.pending ∧ t.mem = s.mem := by
  unfold execUtilAutoSnap; dsimp only; (repeat' split) <;> refine ⟨_, rfl, ?_⟩ <;> simp
theorem execPwmCapture_keep (n : Fin 48) (s : State) :
    ∃ t, execPwmCapture n s = .next t ∧ t.dtime = s.dtime ∧ t.pending = s.pending ∧ t.mem = s.mem := by
  unfold execPwmCapture; dsimp only; (repeat' split) <;> refine ⟨_, rfl, ?_⟩ <;> simp
theorem execPwmDutyWrite_keep (m : Fin 64) (n : Fin 48) (j : Fin 3) (v : Sys2Proof.Word) (s : State) :
    ∃ t, execPwmDutyWrite m n j v s = .next t ∧ t.dtime = s.dtime ∧ t.pending = s.pending ∧ t.mem = s.mem := by
  refine ⟨_, rfl, ?_⟩; simp
theorem execPwmCommit_keep (m : Fin 64) (n : Fin 48) (s : State) :
    ∃ t, execPwmCommit m n s = .next t ∧ t.dtime = s.dtime ∧ t.pending = s.pending ∧ t.mem = s.mem := by
  refine ⟨_, rfl, ?_⟩; simp
theorem execPwmActPeriodRead_keep (m : Fin 64) (n : Fin 48) (s : State) :
    ∃ t, execPwmActPeriodRead m n s = .next t ∧ t.dtime = s.dtime ∧ t.pending = s.pending ∧ t.mem = s.mem := by
  refine ⟨_, rfl, ?_⟩; simp
theorem execDlCalMeasure_keep (ch : Fin 50) (elems : Fin 128) (s : State) :
    ∃ t, execDlCalMeasure ch elems s = .next t ∧ t.dtime = s.dtime ∧ t.pending = s.pending ∧ t.mem = s.mem := by
  unfold execDlCalMeasure; dsimp only; (repeat' split) <;> refine ⟨_, rfl, ?_⟩ <;> simp
theorem execTripQualified_keep (n : Fin 48) (oc : Sys2Proof.PinLevel) (ds : Sys2Proof.PinLevel) (s : State) :
    ∃ t, execTripQualified n oc ds s = .next t ∧ t.dtime = s.dtime ∧ t.pending = s.pending ∧ t.mem = s.mem := by
  unfold execTripQualified; dsimp only; (repeat' split) <;> refine ⟨_, rfl, ?_⟩ <;> simp
theorem execTripAssertionBlanked_keep (p : Sys2Proof.TripPulse) (s : State) :
    ∃ t, execTripAssertionBlanked p s = .next t ∧ t.dtime = s.dtime ∧ t.pending = s.pending ∧ t.mem = s.mem := by
  refine ⟨_, rfl, ?_⟩; simp
theorem execPxbMapWrite_keep (m : Fin 64) (sp : Fin 2) (v : Sys2Proof.Word) (s : State) :
    ∃ t, execPxbMapWrite m sp v s = .next t ∧ t.dtime = s.dtime ∧ t.pending = s.pending ∧ t.mem = s.mem := by
  refine ⟨_, rfl, ?_⟩; simp
theorem execVibSample_keep (c : Fin 32) (stamp : Nat) (raw : Int) (s : State) :
    ∃ t, execVibSample c stamp raw s = .next t ∧ t.dtime = s.dtime ∧ t.pending = s.pending ∧ (Memory.wf s.mem = true → Memory.wf t.mem = true) := by
  unfold execVibSample; dsimp only; (repeat' split) <;> refine ⟨_, rfl, ?_⟩ <;> simp_all +contextual
theorem execVibRestart_keep (m : Fin 64) (c : Fin 32) (notch : Bool) (v : Sys2Proof.Word) (s : State) :
    ∃ t, execVibRestart m c notch v s = .next t ∧ t.dtime = s.dtime ∧ t.pending = s.pending ∧ t.mem = s.mem := by
  unfold execVibRestart; (repeat' split) <;> refine ⟨_, rfl, ?_⟩ <;> simp
theorem execVibSettled_keep (c : Fin 32) (s : State) :
    ∃ t, execVibSettled c s = .next t ∧ t.dtime = s.dtime ∧ t.pending = s.pending ∧ t.mem = s.mem := by
  unfold execVibSettled; (repeat' split) <;> refine ⟨_, rfl, ?_⟩ <;> simp
theorem execIntlvLock_keep (c : Fin 32) (s : State) :
    ∃ t, execIntlvLock c s = .next t ∧ t.dtime = s.dtime ∧ t.pending = s.pending ∧ t.mem = s.mem := by
  unfold execIntlvLock; (repeat' split) <;> refine ⟨_, rfl, ?_⟩ <;> simp
theorem execIntlvLockLoss_keep (c : Fin 32) (s : State) :
    ∃ t, execIntlvLockLoss c s = .next t ∧ t.dtime = s.dtime ∧ t.pending = s.pending ∧ t.mem = s.mem := by
  refine ⟨_, rfl, ?_⟩; simp
theorem execChfbChange_keep (b : Fin 8) (v : Sys2Proof.BallLevel) (s : State) :
    ∃ t, execChfbChange b v s = .next t ∧ t.dtime = s.dtime ∧ t.pending = s.pending ∧ t.mem = s.mem := by
  unfold execChfbChange; dsimp only; (repeat' split) <;> refine ⟨_, rfl, ?_⟩ <;> simp
theorem execChopNoCurrent_keep (b : Fin 8) (s : State) :
    ∃ t, execChopNoCurrent b s = .next t ∧ t.dtime = s.dtime ∧ t.pending = s.pending ∧ t.mem = s.mem := by
  refine ⟨_, rfl, ?_⟩; simp
theorem execChopOverload_keep (b : Fin 8) (s : State) :
    ∃ t, execChopOverload b s = .next t ∧ t.dtime = s.dtime ∧ t.pending = s.pending ∧ t.mem = s.mem := by
  unfold execChopOverload; dsimp only; (repeat' split) <;> refine ⟨_, rfl, ?_⟩ <;> simp
theorem execChopStuck_keep (b : Fin 8) (s : State) :
    ∃ t, execChopStuck b s = .next t ∧ t.dtime = s.dtime ∧ t.pending = s.pending ∧ (Memory.wf s.mem = true → Memory.wf t.mem = true) := by
  unfold execChopStuck; dsimp only; (repeat' split) <;> refine ⟨_, rfl, ?_⟩ <;> simp_all +contextual
theorem execOvComparator_keep (b : Fin 8) (uv : Nat) (s : State) :
    ∃ t, execOvComparator b uv s = .next t ∧ t.dtime = s.dtime ∧ t.pending = s.pending ∧ t.mem = s.mem := by
  unfold execOvComparator; dsimp only; (repeat' split) <;> refine ⟨_, rfl, ?_⟩ <;> simp
theorem execDcbSampleDelivered_keep (b : Fin 8) (stamp : Nat) (raw : Fin 65536) (s : State) :
    ∃ t, execDcbSampleDelivered b stamp raw s = .next t ∧ t.dtime = s.dtime ∧ t.pending = s.pending ∧ (Memory.wf s.mem = true → Memory.wf t.mem = true) := by
  unfold execDcbSampleDelivered; dsimp only; (repeat' split) <;> refine ⟨_, rfl, ?_⟩ <;> simp_all +contextual
theorem execBusThWrite_keep (m : Fin 64) (b : Fin 8) (which : Fin 3) (v : Sys2Proof.Word) (s : State) :
    ∃ t, execBusThWrite m b which v s = .next t ∧ t.dtime = s.dtime ∧ t.pending = s.pending ∧ t.mem = s.mem := by
  refine ⟨_, rfl, ?_⟩; simp
theorem execChopFaultClear_keep (m : Fin 64) (b : Fin 8) (s : State) :
    ∃ t, execChopFaultClear m b s = .next t ∧ t.dtime = s.dtime ∧ t.pending = s.pending ∧ t.mem = s.mem := by
  refine ⟨_, rfl, ?_⟩; simp
theorem execT2Clear_keep (m : Fin 64) (b : Fin 8) (s : State) :
    ∃ t, execT2Clear m b s = .next t ∧ t.dtime = s.dtime ∧ t.pending = s.pending ∧ t.mem = s.mem := by
  refine ⟨_, rfl, ?_⟩; simp
theorem execAccClear_keep (m : Fin 64) (b : Fin 8) (v : Sys2Proof.Word) (s : State) :
    ∃ t, execAccClear m b v s = .next t ∧ t.dtime = s.dtime ∧ t.pending = s.pending ∧ t.mem = s.mem := by
  refine ⟨_, rfl, ?_⟩; simp
theorem execAccSnap_keep (m : Fin 64) (b : Fin 8) (v : Sys2Proof.Word) (s : State) :
    ∃ t, execAccSnap m b v s = .next t ∧ t.dtime = s.dtime ∧ t.pending = s.pending ∧ t.mem = s.mem := by
  refine ⟨_, rfl, ?_⟩; simp
theorem execAccAutoSnap_keep (b : Fin 8) (s : State) :
    ∃ t, execAccAutoSnap b s = .next t ∧ t.dtime = s.dtime ∧ t.pending = s.pending ∧ t.mem = s.mem := by
  unfold execAccAutoSnap; dsimp only; (repeat' split) <;> refine ⟨_, rfl, ?_⟩ <;> simp
theorem execConverterWakeDone_keep (cur : Bool) (n : Fin 48) (s : State) :
    ∃ t, execConverterWakeDone cur n s = .next t ∧ t.dtime = s.dtime ∧ t.pending = s.pending ∧ t.mem = s.mem := by
  unfold execConverterWakeDone; dsimp only; (repeat' split) <;> refine ⟨_, rfl, ?_⟩ <;> simp
theorem execPvDacWrite_keep (m : Fin 64) (n : Fin 48) (j : Fin 3) (v : Sys2Proof.Word) (s : State) :
    ∃ t, execPvDacWrite m n j v s = .next t ∧ t.dtime = s.dtime ∧ t.pending = s.pending ∧ t.mem = s.mem := by
  refine ⟨_, rfl, ?_⟩; simp
theorem execCalCmdStart_keep (m : Fin 64) (v : Sys2Proof.Word) (s : State) :
    ∃ t, execCalCmdStart m v s = .next t ∧ t.dtime = s.dtime ∧ t.pending = s.pending ∧ t.mem = s.mem := by
  refine ⟨_, rfl, ?_⟩; simp
theorem execCalComplete_keep (ref : Sys2Proof.RefCheck) (factors : List (Nat × Int × Int)) (s : State) :
    ∃ t, execCalComplete ref factors s = .next t ∧ t.dtime = s.dtime ∧ t.pending = s.pending ∧ (Memory.wf s.mem = true → Memory.wf t.mem = true) := by
  unfold execCalComplete; dsimp only; (repeat' split) <;> refine ⟨_, rfl, ?_⟩ <;> simp_all +contextual
theorem execObsLoadGo_keep (m : Fin 64) (v : Sys2Proof.Word) (s : State) :
    ∃ t, execObsLoadGo m v s = .next t ∧ t.dtime = s.dtime ∧ t.pending = s.pending ∧ t.mem = s.mem := by
  refine ⟨_, rfl, ?_⟩; simp
theorem execLoadCmdRemove_keep (m : Fin 64) (v : Sys2Proof.Word) (s : State) :
    ∃ t, execLoadCmdRemove m v s = .next t ∧ t.dtime = s.dtime ∧ t.pending = s.pending ∧ t.mem = s.mem := by
  refine ⟨_, rfl, ?_⟩; simp
theorem execForceCls_keep (m : Fin 64) (n : Fin 48) (v : Sys2Proof.Word) (s : State) :
    ∃ t, execForceCls m n v s = .next t ∧ t.dtime = s.dtime ∧ t.pending = s.pending ∧ t.mem = s.mem := by
  refine ⟨_, rfl, ?_⟩; simp
theorem execResume_keep (m : Fin 64) (n : Fin 48) (v : Sys2Proof.Word) (s : State) :
    ∃ t, execResume m n v s = .next t ∧ t.dtime = s.dtime ∧ t.pending = s.pending ∧ t.mem = s.mem := by
  refine ⟨_, rfl, ?_⟩; simp
theorem execObsEstThetaRead_keep (m : Fin 64) (n : Fin 48) (s : State) :
    ∃ t, execObsEstThetaRead m n s = .next t ∧ t.dtime = s.dtime ∧ t.pending = s.pending ∧ t.mem = s.mem := by
  refine ⟨_, rfl, ?_⟩; simp
theorem execObsLoadDone_keep (s : State) :
    ∃ t, execObsLoadDone s = .next t ∧ t.dtime = s.dtime ∧ t.pending = s.pending ∧ t.mem = s.mem := by
  refine ⟨_, rfl, ?_⟩; simp
theorem execObsRemoveDone_keep (s : State) :
    ∃ t, execObsRemoveDone s = .next t ∧ t.dtime = s.dtime ∧ t.pending = s.pending ∧ t.mem = s.mem := by
  refine ⟨_, rfl, ?_⟩; simp
theorem execPvComparatorChange_keep (n : Fin 48) (j : Fin 3) (v : Sys2Proof.PhaseLevels) (s : State) :
    ∃ t, execPvComparatorChange n j v s = .next t ∧ t.dtime = s.dtime ∧ t.pending = s.pending ∧ t.mem = s.mem := by
  unfold execPvComparatorChange; dsimp only; (repeat' split) <;> refine ⟨_, rfl, ?_⟩ <;> simp
theorem execPvDacSettled_keep (n : Fin 48) (j : Fin 3) (v : Sys2Proof.PhaseLevels) (s : State) :
    ∃ t, execPvDacSettled n j v s = .next t ∧ t.dtime = s.dtime ∧ t.pending = s.pending ∧ t.mem = s.mem := by
  unfold execPvDacSettled; dsimp only; (repeat' split) <;> refine ⟨_, rfl, ?_⟩ <;> simp
theorem execLwOpen_keep (n : Fin 48) (s : State) :
    ∃ t, execLwOpen n s = .next t ∧ t.dtime = s.dtime ∧ t.pending = s.pending ∧ t.mem = s.mem := by
  unfold execLwOpen; (repeat' split) <;> refine ⟨_, rfl, ?_⟩ <;> simp
theorem execLwClose_keep (n : Fin 48) (at_ : Nat) (s : State) :
    ∃ t, execLwClose n at_ s = .next t ∧ t.dtime = s.dtime ∧ t.pending = s.pending ∧ (Memory.wf s.mem = true → Memory.wf t.mem = true) := by
  unfold execLwClose; dsimp only; (repeat' split) <;> refine ⟨_, rfl, ?_⟩ <;> simp_all +contextual
theorem execCrossingQualified_keep (n : Fin 48) (phase : Fin 3) (rising : Bool) (tx : Nat) (s : State) :
    ∃ t, execCrossingQualified n phase rising tx s = .next t ∧ t.dtime = s.dtime ∧ t.pending = s.pending ∧ (Memory.wf s.mem = true → Memory.wf t.mem = true) := by
  unfold execCrossingQualified; dsimp only; (repeat' split) <;> refine ⟨_, rfl, ?_⟩ <;> simp_all +contextual
theorem execListenEnd_keep (n : Fin 48) (s : State) :
    ∃ t, execListenEnd n s = .next t ∧ t.dtime = s.dtime ∧ t.pending = s.pending ∧ t.mem = s.mem := by
  unfold execListenEnd; dsimp only; (repeat' split) <;> refine ⟨_, rfl, ?_⟩ <;> simp
theorem execWaitTimeout_keep (n : Fin 48) (s : State) :
    ∃ t, execWaitTimeout n s = .next t ∧ t.dtime = s.dtime ∧ t.pending = s.pending ∧ t.mem = s.mem := by
  unfold execWaitTimeout; (repeat' split) <;> refine ⟨_, rfl, ?_⟩ <;> simp
theorem execBrakeEnd_keep (n : Fin 48) (s : State) :
    ∃ t, execBrakeEnd n s = .next t ∧ t.dtime = s.dtime ∧ t.pending = s.pending ∧ t.mem = s.mem := by
  unfold execBrakeEnd; dsimp only; (repeat' split) <;> refine ⟨_, rfl, ?_⟩ <;> simp
theorem execAlignEnd_keep (n : Fin 48) (s : State) :
    ∃ t, execAlignEnd n s = .next t ∧ t.dtime = s.dtime ∧ t.pending = s.pending ∧ t.mem = s.mem := by
  unfold execAlignEnd; (repeat' split) <;> refine ⟨_, rfl, ?_⟩ <;> simp
theorem execHandoverFail_keep (n : Fin 48) (s : State) :
    ∃ t, execHandoverFail n s = .next t ∧ t.dtime = s.dtime ∧ t.pending = s.pending ∧ t.mem = s.mem := by
  unfold execHandoverFail; (repeat' split) <;> refine ⟨_, rfl, ?_⟩ <;> simp
theorem execStartGo_keep (m : Fin 64) (n : Fin 48) (s : State) :
    ∃ t, execStartGo m n s = .next t ∧ t.dtime = s.dtime ∧ t.pending = s.pending ∧ t.mem = s.mem := by
  refine ⟨_, rfl, ?_⟩; simp
theorem execStartAbort_keep (m : Fin 64) (n : Fin 48) (s : State) :
    ∃ t, execStartAbort m n s = .next t ∧ t.dtime = s.dtime ∧ t.pending = s.pending ∧ t.mem = s.mem := by
  refine ⟨_, rfl, ?_⟩; simp
theorem execLoopStep_keep (n : Fin 48) (ra rb rk : Int) (s : State) :
    ∃ t, execLoopStep n ra rb rk s = .next t ∧ t.dtime = s.dtime ∧ t.pending = s.pending ∧ (Memory.wf s.mem = true → Memory.wf t.mem = true) := by
  unfold execLoopStep
  split
  · exact ⟨_, rfl, rfl, rfl, id⟩
  · dsimp only
    split
    · exact ⟨_, rfl, rfl, rfl, id⟩
    · have k : ∀ u : State, (if (s.fo n).step.isSome = true then (s.stepLate n).concludeStep n else s) = u →
          u.dtime = s.dtime ∧ u.pending = s.pending ∧ (Memory.wf s.mem = true → Memory.wf u.mem = true) := fun u hu => by
        subst hu; split <;> simp +contextual
      generalize hu : (if (s.fo n).step.isSome = true then (s.stepLate n).concludeStep n else s) = u
      obtain ⟨hd, hp, hm⟩ := k u hu
      split <;> exact ⟨_, rfl, by simp [hd], by simp [hp], fun h => by simp [hm h]⟩
theorem execObsJobComplete_keep (i : Sys2Proof.LaneEnd 12) (s : State) :
    ∃ t, execObsJobComplete i s = .next t ∧ t.dtime = s.dtime ∧ t.pending = s.pending ∧ (Memory.wf s.mem = true → Memory.wf t.mem = true) := by
  refine ⟨_, rfl, ?_⟩; simp +contextual
theorem execPewterCheckComplete_keep (i : Sys2Proof.LaneEnd 4) (s : State) :
    ∃ t, execPewterCheckComplete i s = .next t ∧ t.dtime = s.dtime ∧ t.pending = s.pending ∧ (Memory.wf s.mem = true → Memory.wf t.mem = true) := by
  refine ⟨_, rfl, ?_⟩; simp +contextual
theorem execObsLate_keep (n : Fin 48) (s : State) :
    ∃ t, execObsLate n s = .next t ∧ t.dtime = s.dtime ∧ t.pending = s.pending ∧ (Memory.wf s.mem = true → Memory.wf t.mem = true) := by
  unfold execObsLate; (repeat' split) <;> refine ⟨_, rfl, ?_⟩ <;> simp +contextual
theorem execObsLaneFence_keep (m : Fin 64) (v : Sys2Proof.Word) (s : State) :
    ∃ t, execObsLaneFence m v s = .next t ∧ t.dtime = s.dtime ∧ t.pending = s.pending ∧ (Memory.wf s.mem = true → Memory.wf t.mem = true) := by
  refine ⟨_, rfl, ?_⟩; simp +contextual
theorem execCmpApply_keep (m : Fin 64) (n : Fin 48) (which : Fin 3) (v : Sys2Proof.Word) (s : State) :
    ∃ t, execCmpApply m n which v s = .next t ∧ t.dtime = s.dtime ∧ t.pending = s.pending ∧ t.mem = s.mem := by
  refine ⟨_, rfl, ?_⟩; simp
theorem execSpdPreset_keep (m : Fin 64) (n : Fin 48) (v : Sys2Proof.Word) (s : State) :
    ∃ t, execSpdPreset m n v s = .next t ∧ t.dtime = s.dtime ∧ t.pending = s.pending ∧ t.mem = s.mem := by
  refine ⟨_, rfl, ?_⟩; simp
theorem execPwmPeriodBoundary_keep (n : Fin 48) (s : State) :
    ∃ t, execPwmPeriodBoundary n s = .next t ∧ t.dtime = s.dtime ∧ t.pending = s.pending ∧ (Memory.wf s.mem = true → Memory.wf t.mem = true) := by
  refine ⟨_, rfl, ?_⟩; simp +contextual
theorem execAxisEnable_keep (m : Fin 64) (n : Fin 48) (v : Sys2Proof.Word) (s : State) :
    ∃ t, execAxisEnable m n v s = .next t ∧ t.dtime = s.dtime ∧ t.pending = s.pending ∧ t.mem = s.mem := by
  refine ⟨_, rfl, ?_⟩; simp
theorem execAxisDisable_keep (m : Fin 64) (n : Fin 48) (v : Sys2Proof.Word) (s : State) :
    ∃ t, execAxisDisable m n v s = .next t ∧ t.dtime = s.dtime ∧ t.pending = s.pending ∧ t.mem = s.mem := by
  refine ⟨_, rfl, ?_⟩; simp
theorem execSafeInputChange_keep (k : Fin 16) (chB : Bool) (level : Sys2Proof.PinLevel) (s : State) :
    ∃ t, execSafeInputChange k chB level s = .next t ∧ t.dtime = s.dtime ∧ t.pending = s.pending ∧ (Memory.wf s.mem = true → Memory.wf t.mem = true) := by
  unfold execSafeInputChange; (repeat' split) <;> refine ⟨_, rfl, ?_⟩ <;> simp +contextual
theorem execSiDisc_keep (k : Fin 16) (s : State) :
    ∃ t, execSiDisc k s = .next t ∧ t.dtime = s.dtime ∧ t.pending = s.pending ∧ (Memory.wf s.mem = true → Memory.wf t.mem = true) := by
  unfold execSiDisc; (repeat' split) <;> refine ⟨_, rfl, ?_⟩ <;> simp +contextual
theorem execStoReqWrite_keep (m : Fin 64) (v : Sys2Proof.Word) (s : State) :
    ∃ t, execStoReqWrite m v s = .next t ∧ t.dtime = s.dtime ∧ t.pending = s.pending ∧ (Memory.wf s.mem = true → Memory.wf t.mem = true) := by
  refine ⟨_, rfl, ?_⟩; simp +contextual
theorem execSafAckGroups_keep (m : Fin 64) (v : Sys2Proof.Word) (s : State) :
    ∃ t, execSafAckGroups m v s = .next t ∧ t.dtime = s.dtime ∧ t.pending = s.pending ∧ t.mem = s.mem := by
  refine ⟨_, rfl, ?_⟩; simp
theorem execSafAckFaults_keep (m : Fin 64) (v : Sys2Proof.Word) (s : State) :
    ∃ t, execSafAckFaults m v s = .next t ∧ t.dtime = s.dtime ∧ t.pending = s.pending ∧ t.mem = s.mem := by
  refine ⟨_, rfl, ?_⟩; simp
theorem execStoTestPulse_keep (g : Fin 16) (chB : Bool) (start : Bool) (s : State) :
    ∃ t, execStoTestPulse g chB start s = .next t ∧ t.dtime = s.dtime ∧ t.pending = s.pending ∧ t.mem = s.mem := by
  unfold execStoTestPulse; dsimp only; (repeat' split) <;> refine ⟨_, rfl, ?_⟩ <;> simp
theorem execStoReadbackMismatch_keep (g : Fin 16) (at_ : Sys2Proof.StoReadback) (s : State) :
    ∃ t, execStoReadbackMismatch g at_ s = .next t ∧ t.dtime = s.dtime ∧ t.pending = s.pending ∧ (Memory.wf s.mem = true → Memory.wf t.mem = true) := by
  refine ⟨_, rfl, ?_⟩; simp +contextual
theorem execHeartbeatLoss_keep (s : State) :
    ∃ t, execHeartbeatLoss s = .next t ∧ t.dtime = s.dtime ∧ t.pending = s.pending ∧ t.mem = s.mem := by
  refine ⟨_, rfl, ?_⟩; simp
theorem execClock_keep (dev : Sys2Proof.ClockDev) (s : State) :
    ∃ t, execClock dev s = .next t ∧ t.dtime = s.dtime ∧ t.pending = s.pending ∧ (Memory.wf s.mem = true → Memory.wf t.mem = true) := by
  refine ⟨_, rfl, ?_⟩; simp +contextual
theorem execSafCfgWrite_keep (m : Fin 64) (v : Sys2Proof.Word) (s : State) :
    ∃ t, execSafCfgWrite m v s = .next t ∧ t.dtime = s.dtime ∧ t.pending = s.pending ∧ t.mem = s.mem := by
  refine ⟨_, rfl, ?_⟩; simp
theorem execSafLock_keep (m : Fin 64) (v : Sys2Proof.Word) (s : State) :
    ∃ t, execSafLock m v s = .next t ∧ t.dtime = s.dtime ∧ t.pending = s.pending ∧ t.mem = s.mem := by
  refine ⟨_, rfl, ?_⟩; simp
theorem execTestSliceStart_keep (s : State) :
    ∃ t, execTestSliceStart s = .next t ∧ t.dtime = s.dtime ∧ t.pending = s.pending ∧ t.mem = s.mem := by
  unfold execTestSliceStart; (repeat' split) <;> refine ⟨_, rfl, ?_⟩ <;> simp
theorem execTestSliceComplete_keep (u : Fin 24) (pass : Bool) (s : State) :
    ∃ t, execTestSliceComplete u pass s = .next t ∧ t.dtime = s.dtime ∧ t.pending = s.pending ∧ (Memory.wf s.mem = true → Memory.wf t.mem = true) := by
  unfold execTestSliceComplete; (repeat' split) <;> refine ⟨_, rfl, ?_⟩ <;> simp +contextual
theorem execTestRestoreDone_keep (u : Fin 24) (s : State) :
    ∃ t, execTestRestoreDone u s = .next t ∧ t.dtime = s.dtime ∧ t.pending = s.pending ∧ t.mem = s.mem := by
  unfold execTestRestoreDone; (repeat' split) <;> refine ⟨_, rfl, ?_⟩ <;> simp
theorem execTestDeadline_keep (u : Fin 24) (s : State) :
    ∃ t, execTestDeadline u s = .next t ∧ t.dtime = s.dtime ∧ t.pending = s.pending ∧ (Memory.wf s.mem = true → Memory.wf t.mem = true) := by
  unfold execTestDeadline; dsimp only; (repeat' split) <;> refine ⟨_, rfl, ?_⟩ <;> simp_all +contextual
theorem execSafEnterRun_keep (s : State) :
    ∃ t, execSafEnterRun s = .next t ∧ t.dtime = s.dtime ∧ t.pending = s.pending ∧ t.mem = s.mem := by
  unfold execSafEnterRun; (repeat' split) <;> refine ⟨_, rfl, ?_⟩ <;> simp
theorem execSs1Timeout_keep (n : Fin 48) (s : State) :
    ∃ t, execSs1Timeout n s = .next t ∧ t.dtime = s.dtime ∧ t.pending = s.pending ∧ (Memory.wf s.mem = true → Memory.wf t.mem = true) := by
  unfold execSs1Timeout; (repeat' split) <;> refine ⟨_, rfl, ?_⟩ <;> simp +contextual
theorem execSafetyWindow_keep (bad : List (Fin 116)) (s : State) :
    ∃ t, execSafetyWindow bad s = .next t ∧ t.dtime = s.dtime ∧ t.pending = s.pending ∧ (Memory.wf s.mem = true → Memory.wf t.mem = true) := by
  unfold execSafetyWindow
  split
  · exact ⟨_, rfl, rfl, rfl, id⟩
  · refine ⟨_, rfl, by simp, by simp, fun h => ?_⟩
    simp only [State.stoOutputs_keep, State.wr_keeps, State.updSaf_keeps]
    refine State.forEach_wf _ _ _ (fun s e hs => State.entryFail_wf _ _ hs) ?_
    simp only [State.twinSend_keep]
    refine State.forEach_wf _ _ _ (fun s n hs => ?_) (by simp [h])
    exact State.windowSs1_wf _ _ (by simpa using hs)
theorem execShadow_keep (n : Fin 48) (ts : Nat) (ia : Int) (ib : Int) (ua : Int) (ub : Int) (bus : Fin 65536) (s : State) :
    ∃ t, execShadow n ts ia ib ua ub bus s = .next t ∧ t.dtime = s.dtime ∧ t.pending = s.pending ∧ t.mem = s.mem := by
  unfold execShadow; (repeat' split) <;> refine ⟨_, rfl, ?_⟩ <;> simp
theorem execSafety_keep (speeds : List (Fin 48 × Sys2Proof.Word)) (sto : Sys2Proof.PeerStates) (s : State) :
    ∃ t, execSafety speeds sto s = .next t ∧ t.dtime = s.dtime ∧ t.pending = s.pending ∧ (Memory.wf s.mem = true → Memory.wf t.mem = true) := by
  unfold execSafety; (repeat' split) <;> refine ⟨_, rfl, ?_⟩ <;> simp +contextual

end Sys2Proof.Machine
end

