-- ==== Sys2Proof/Laws/KeepExec2.lean ====
section
/-!
SUPPORT. Every command answers a next state and keeps the queue; those that `changesTime` does not name keep DEVICE TIME; memory is kept, or its
canonical form where the command writes it.
-/
set_option linter.all false
namespace Sys2Proof.Machine

theorem execDelayMonitorMeasure_keep (slack : List Int) (s : State) :
    ∃ t, execDelayMonitorMeasure slack s = .next t ∧ t.dtime = s.dtime ∧ t.pending = s.pending ∧ t.mem = s.mem := by
  unfold execDelayMonitorMeasure; dsimp only; (repeat' split) <;> refine ⟨_, rfl, ?_⟩ <;> simp
theorem execReplan_keep (dl : List Int) (ref : List Int) (ack : Bool) (s : State) :
    ∃ t, execReplan dl ref ack s = .next t ∧ t.dtime = s.dtime ∧ t.pending = s.pending ∧ t.mem = s.mem := by
  refine ⟨_, rfl, ?_⟩; simp
theorem execAgeReplan_keep (m : Fin 64) (v : Sys2Proof.Word) (dl : List Int) (ref : List Int) (ack : Bool) (s : State) :
    ∃ t, execAgeReplan m v dl ref ack s = .next t ∧ t.dtime = s.dtime ∧ t.pending = s.pending ∧ t.mem = s.mem := by
  refine ⟨_, rfl, ?_⟩; simp
theorem execSvcCmd_keep (m : Fin 64) (v : Sys2Proof.Word) (s : State) :
    ∃ t, execSvcCmd m v s = .next t ∧ t.dtime = s.dtime ∧ t.pending = s.pending ∧ t.mem = s.mem := by
  refine ⟨_, rfl, ?_⟩; simp
theorem execPatrolScrub_keep (a : Nat) (errs : List (Nat × Nat)) (s : State) :
    ∃ t, execPatrolScrub a errs s = .next t ∧ t.dtime = s.dtime ∧ t.pending = s.pending ∧ t.mem = s.mem := by
  unfold execPatrolScrub; dsimp only; (repeat' split) <;> refine ⟨_, rfl, ?_⟩ <;> simp
theorem execAtWindowWrite_keep (m : Fin 64) (t_ : Fin 10) (k : Fin 1024) (w : Fin 3) (v : Sys2Proof.Word) (s : State) :
    ∃ t, execAtWindowWrite m t_ k w v s = .next t ∧ t.dtime = s.dtime ∧ t.pending = s.pending ∧ t.mem = s.mem := by
  refine ⟨_, rfl, ?_⟩; simp
theorem execAtCtrlLock_keep (m : Fin 64) (t_ : Fin 10) (v : Sys2Proof.Word) (s : State) :
    ∃ t, execAtCtrlLock m t_ v s = .next t ∧ t.dtime = s.dtime ∧ t.pending = s.pending ∧ t.mem = s.mem := by
  refine ⟨_, rfl, ?_⟩; simp
theorem execChRetireWrite_keep (m : Fin 64) (v : Sys2Proof.Word) (s : State) :
    ∃ t, execChRetireWrite m v s = .next t ∧ t.dtime = s.dtime ∧ t.pending = s.pending ∧ t.mem = s.mem := by
  refine ⟨_, rfl, ?_⟩; simp
theorem execFwLoad_keep (m : Fin 64) (v : Sys2Proof.Word) (s : State) :
    ∃ t, execFwLoad m v s = .next t ∧ t.dtime = s.dtime ∧ t.pending = s.pending ∧ t.mem = s.mem := by
  refine ⟨_, rfl, ?_⟩; simp
theorem execFwVerifyDone_keep (s : State) :
    ∃ t, execFwVerifyDone s = .next t ∧ t.dtime = s.dtime ∧ t.pending = s.pending ∧ t.mem = s.mem := by
  unfold execFwVerifyDone; dsimp only; (repeat' split) <;> refine ⟨_, rfl, ?_⟩ <;> simp
theorem execFwReady_keep (ok : Bool) (s : State) :
    ∃ t, execFwReady ok s = .next t ∧ t.dtime = s.dtime ∧ t.pending = s.pending ∧ t.mem = s.mem := by
  unfold execFwReady; (repeat' split) <;> refine ⟨_, rfl, ?_⟩ <;> simp
theorem execFwTimeout_keep (s : State) :
    ∃ t, execFwTimeout s = .next t ∧ t.dtime = s.dtime ∧ t.pending = s.pending ∧ t.mem = s.mem := by
  unfold execFwTimeout; (repeat' split) <;> refine ⟨_, rfl, ?_⟩ <;> simp
theorem execSupReset_keep (m : Fin 64) (v : Sys2Proof.Word) (s : State) :
    ∃ t, execSupReset m v s = .next t ∧ t.dtime = s.dtime ∧ t.pending = s.pending ∧ t.mem = s.mem := by
  refine ⟨_, rfl, ?_⟩; simp
theorem execSupWatchdog_keep (s : State) :
    ∃ t, execSupWatchdog s = .next t ∧ t.dtime = s.dtime ∧ t.pending = s.pending ∧ t.mem = s.mem := by
  refine ⟨_, rfl, ?_⟩; simp
theorem execSupLockstep_keep (s : State) :
    ∃ t, execSupLockstep s = .next t ∧ t.dtime = s.dtime ∧ t.pending = s.pending ∧ (Memory.wf s.mem = true → Memory.wf t.mem = true) := by
  refine ⟨_, rfl, ?_⟩; simp +contextual
theorem execMbRequestWrite_keep (m : Fin 64) (b : Fin 16) (k : Fin 64) (v : Sys2Proof.Word) (s : State) :
    ∃ t, execMbRequestWrite m b k v s = .next t ∧ t.dtime = s.dtime ∧ t.pending = s.pending ∧ t.mem = s.mem := by
  refine ⟨_, rfl, ?_⟩; simp
theorem execMbDoorbell_keep (m : Fin 64) (b : Fin 16) (v : Sys2Proof.Word) (s : State) :
    ∃ t, execMbDoorbell m b v s = .next t ∧ t.dtime = s.dtime ∧ t.pending = s.pending ∧ t.mem = s.mem := by
  refine ⟨_, rfl, ?_⟩; simp
theorem execMbAck_keep (m : Fin 64) (b : Fin 16) (v : Sys2Proof.Word) (s : State) :
    ∃ t, execMbAck m b v s = .next t ∧ t.dtime = s.dtime ∧ t.pending = s.pending ∧ t.mem = s.mem := by
  refine ⟨_, rfl, ?_⟩; simp
theorem execMbTake_keep (s : State) :
    ∃ t, execMbTake s = .next t ∧ t.dtime = s.dtime ∧ t.pending = s.pending ∧ t.mem = s.mem := by
  unfold execMbTake; (repeat' split) <;> refine ⟨_, rfl, ?_⟩ <;> simp
theorem execKeyProg_keep (m : Fin 64) (v : Sys2Proof.Word) (s : State) :
    ∃ t, execKeyProg m v s = .next t ∧ t.dtime = s.dtime ∧ t.pending = s.pending ∧ t.mem = s.mem := by
  refine ⟨_, rfl, ?_⟩; simp
theorem execRevoke_keep (m : Fin 64) (v : Sys2Proof.Word) (s : State) :
    ∃ t, execRevoke m v s = .next t ∧ t.dtime = s.dtime ∧ t.pending = s.pending ∧ t.mem = s.mem := by
  refine ⟨_, rfl, ?_⟩; simp
theorem execLcCmd_keep (m : Fin 64) (v : Sys2Proof.Word) (s : State) :
    ∃ t, execLcCmd m v s = .next t ∧ t.dtime = s.dtime ∧ t.pending = s.pending ∧ t.mem = s.mem := by
  refine ⟨_, rfl, ?_⟩; simp
theorem execFuseDone_keep (s : State) :
    ∃ t, execFuseDone s = .next t ∧ t.dtime = s.dtime ∧ t.pending = s.pending ∧ t.mem = s.mem := by
  unfold execFuseDone; (repeat' split) <;> refine ⟨_, rfl, ?_⟩ <;> simp
theorem execBootRom_keep (errA : Bool) (errB : Bool) (s : State) :
    ∃ t, execBootRom errA errB s = .next t ∧ t.dtime = s.dtime ∧ t.pending = s.pending ∧ (Memory.wf s.mem = true → Memory.wf t.mem = true) := by
  unfold execBootRom; dsimp only; (repeat' split) <;> refine ⟨_, rfl, ?_⟩ <;> simp_all +contextual
theorem execDbgChallenge_keep (m : Fin 64) (v : Sys2Proof.Word) (s : State) :
    ∃ t, execDbgChallenge m v s = .next t ∧ t.dtime = s.dtime ∧ t.pending = s.pending ∧ t.mem = s.mem := by
  refine ⟨_, rfl, ?_⟩; simp
theorem execDbgVerify_keep (m : Fin 64) (v : Sys2Proof.Word) (s : State) :
    ∃ t, execDbgVerify m v s = .next t ∧ t.dtime = s.dtime ∧ t.pending = s.pending ∧ t.mem = s.mem := by
  refine ⟨_, rfl, ?_⟩; simp
theorem execDbgVerifyDone_keep (s : State) :
    ∃ t, execDbgVerifyDone s = .next t ∧ t.dtime = s.dtime ∧ t.pending = s.pending ∧ t.mem = s.mem := by
  unfold execDbgVerifyDone; (repeat' split) <;> refine ⟨_, rfl, ?_⟩ <;> simp
theorem execAttGo_keep (m : Fin 64) (v : Sys2Proof.Word) (s : State) :
    ∃ t, execAttGo m v s = .next t ∧ t.dtime = s.dtime ∧ t.pending = s.pending ∧ t.mem = s.mem := by
  refine ⟨_, rfl, ?_⟩; simp
theorem execAttDone_keep (s : State) :
    ∃ t, execAttDone s = .next t ∧ t.dtime = s.dtime ∧ t.pending = s.pending ∧ (Memory.wf s.mem = true → Memory.wf t.mem = true) := by
  unfold execAttDone; dsimp only; (repeat' split) <;> refine ⟨_, rfl, ?_⟩ <;> simp_all +contextual
theorem execAxisReset_keep (m : Fin 64) (hi : Bool) (v : Sys2Proof.Word) (s : State) :
    ∃ t, execAxisReset m hi v s = .next t ∧ t.dtime = s.dtime ∧ t.pending = s.pending ∧ (Memory.wf s.mem = true → Memory.wf t.mem = true) := by
  refine ⟨_, rfl, ?_⟩; simp +contextual
theorem execPxbSwitchComplete_keep (sp : Fin 2) (s : State) :
    ∃ t, execPxbSwitchComplete sp s = .next t ∧ t.dtime = s.dtime ∧ t.pending = s.pending ∧ (Memory.wf s.mem = true → Memory.wf t.mem = true) := by
  unfold execPxbSwitchComplete; dsimp only; (repeat' split) <;> refine ⟨_, rfl, ?_⟩ <;> simp_all +contextual
theorem execSystemReset_keep (pin : Option Nat) (m : Fin 64) (v : Sys2Proof.Word) (found : Sys2Proof.StartFindings) (s : State) :
    ∃ t, execSystemReset pin m v found s = .next t ∧ t.dtime = s.dtime ∧ t.pending = s.pending ∧ (Memory.wf s.mem = true → Memory.wf t.mem = true) := by
  unfold execSystemReset; (repeat' split) <;> refine ⟨_, rfl, ?_⟩ <;> simp +contextual
theorem execDebugReset_keep (jtag : Bool) (m : Fin 64) (v : Sys2Proof.Word) (s : State) :
    ∃ t, execDebugReset jtag m v s = .next t ∧ t.dtime = s.dtime ∧ t.pending = s.pending ∧ (Memory.wf s.mem = true → Memory.wf t.mem = true) := by
  unfold execDebugReset; (repeat' split) <;> refine ⟨_, rfl, ?_⟩ <;> simp +contextual
theorem execWake_keep (found : Sys2Proof.StartFindings) (s : State) :
    ∃ t, execWake found s = .next t ∧ t.dtime = s.dtime ∧ t.pending = s.pending ∧ (Memory.wf s.mem = true → Memory.wf t.mem = true) := by
  refine ⟨_, rfl, ?_⟩; simp +contextual
theorem execWakeTimer_keep (found : Sys2Proof.StartFindings) (s : State) :
    ∃ t, execWakeTimer found s = .next t ∧ t.dtime = s.dtime ∧ t.pending = s.pending ∧ (Memory.wf s.mem = true → Memory.wf t.mem = true) := by
  refine ⟨_, rfl, ?_⟩; simp +contextual
theorem execPorAssert_keep (rail : Option Sys2Proof.RailLow) (s : State) :
    ∃ t, execPorAssert rail s = .next t ∧ t.pending = s.pending ∧ (Memory.wf s.mem = true → Memory.wf t.mem = true) := by
  unfold execPorAssert; (repeat' split) <;> refine ⟨_, rfl, ?_⟩ <;> simp +contextual
theorem execPorEnd_keep (safeH : Bool) (safeL : Bool) (pos0 : Bool) (found : Sys2Proof.StartFindings) (s : State) :
    ∃ t, execPorEnd safeH safeL pos0 found s = .next t ∧ t.dtime = s.dtime ∧ t.pending = s.pending ∧ (Memory.wf s.mem = true → Memory.wf t.mem = true) := by
  unfold execPorEnd; (repeat' split) <;> refine ⟨_, rfl, ?_⟩ <;> simp +contextual
theorem execPowerTransitionDone_keep (dl : List Int) (ref : List Int) (ack : Bool) (blocks : List Sys2Proof.BistBlock) (units : List (Fin 74)) (s : State) :
    ∃ t, execPowerTransitionDone dl ref ack blocks units s = .next t ∧ t.dtime = s.dtime ∧ t.pending = s.pending ∧ (Memory.wf s.mem = true → Memory.wf t.mem = true) := by
  unfold execPowerTransitionDone; (repeat' split) <;> refine ⟨_, rfl, ?_⟩ <;> simp +contextual
theorem execThermalSample_keep (tj : Int) (sensor : Fin 16) (s : State) :
    ∃ t, execThermalSample tj sensor s = .next t ∧ t.dtime = s.dtime ∧ t.pending = s.pending ∧ (Memory.wf s.mem = true → Memory.wf t.mem = true) := by
  unfold execThermalSample; dsimp only; (repeat' split) <;> refine ⟨_, rfl, ?_⟩ <;> simp_all +contextual
theorem execThrottleStep_keep (s : State) :
    ∃ t, execThrottleStep s = .next t ∧ t.dtime = s.dtime ∧ t.pending = s.pending ∧ t.mem = s.mem := by
  unfold execThrottleStep; (repeat' split) <;> refine ⟨_, rfl, ?_⟩ <;> simp
theorem execDtStep_keep (m : Fin 64) (v : Sys2Proof.Word) (s : State) :
    ∃ t, execDtStep m v s = .next t ∧ t.pending = s.pending ∧ t.mem = s.mem := by
  refine ⟨_, rfl, ?_⟩; simp
theorem execDtRateWrite_keep (m : Fin 64) (v : Sys2Proof.Word) (s : State) :
    ∃ t, execDtRateWrite m v s = .next t ∧ t.dtime = s.dtime ∧ t.pending = s.pending ∧ t.mem = s.mem := by
  refine ⟨_, rfl, ?_⟩; simp
theorem execTime_keep (p : Fin 3) (t1 : Nat) (t2 : Nat) (t3 : Nat) (t4 : Nat) (serdes : Nat) (nb : Int) (peer : Bool) (s : State) :
    ∃ t, execTime p t1 t2 t3 t4 serdes nb peer s = .next t ∧ t.pending = s.pending ∧ t.mem = s.mem := by
  unfold execTime; dsimp only; (repeat' split) <;> refine ⟨_, rfl, ?_⟩ <;> simp
theorem execAlignTimeout_keep (s : State) :
    ∃ t, execAlignTimeout s = .next t ∧ t.dtime = s.dtime ∧ t.pending = s.pending ∧ t.mem = s.mem := by
  unfold execAlignTimeout; (repeat' split) <;> refine ⟨_, rfl, ?_⟩ <;> simp
theorem execGptpOfsUpdate_keep (ofs : Int) (s : State) :
    ∃ t, execGptpOfsUpdate ofs s = .next t ∧ t.dtime = s.dtime ∧ t.pending = s.pending ∧ t.mem = s.mem := by
  refine ⟨_, rfl, ?_⟩; simp
theorem execRecFlush_keep (m : Fin 64) (v : Sys2Proof.Word) (ok : Bool) (s : State) :
    ∃ t, execRecFlush m v ok s = .next t ∧ t.dtime = s.dtime ∧ t.pending = s.pending ∧ t.mem = s.mem := by
  refine ⟨_, rfl, ?_⟩; simp
theorem execNvIdxWrite_keep (m : Fin 64) (v : Sys2Proof.Word) (s : State) :
    ∃ t, execNvIdxWrite m v s = .next t ∧ t.dtime = s.dtime ∧ t.pending = s.pending ∧ t.mem = s.mem := by
  refine ⟨_, rfl, ?_⟩; simp
theorem execRingGo_keep (m : Fin 64) (v : Sys2Proof.Word) (s : State) :
    ∃ t, execRingGo m v s = .next t ∧ t.dtime = s.dtime ∧ t.pending = s.pending ∧ t.mem = s.mem := by
  refine ⟨_, rfl, ?_⟩; simp
theorem execTwnCfgEnable_keep (m : Fin 64) (v : Sys2Proof.Word) (s : State) :
    ∃ t, execTwnCfgEnable m v s = .next t ∧ t.dtime = s.dtime ∧ t.pending = s.pending ∧ t.mem = s.mem := by
  refine ⟨_, rfl, ?_⟩; simp
theorem execLinkTrained_keep (p : Fin 3) (lanes : Fin 3) (major : Fin 256) (minor : Fin 256) (peer : Fin 256) (s : State) :
    ∃ t, execLinkTrained p lanes major minor peer s = .next t ∧ t.dtime = s.dtime ∧ t.pending = s.pending ∧ t.mem = s.mem := by
  unfold execLinkTrained; (repeat' split) <;> refine ⟨_, rfl, ?_⟩ <;> simp
theorem execTrainingRetry_keep (p : Fin 3) (s : State) :
    ∃ t, execTrainingRetry p s = .next t ∧ t.dtime = s.dtime ∧ t.pending = s.pending ∧ t.mem = s.mem := by
  unfold execTrainingRetry; (repeat' split) <;> refine ⟨_, rfl, ?_⟩ <;> simp
theorem execEnumeration_keep (down : Nat) (up : Nat) (second : Bool) (s : State) :
    ∃ t, execEnumeration down up second s = .next t ∧ t.dtime = s.dtime ∧ t.pending = s.pending ∧ t.mem = s.mem := by
  unfold execEnumeration; (repeat' split) <;> refine ⟨_, rfl, ?_⟩ <;> simp
theorem execEnumTimeout_keep (down : Nat) (up : Nat) (second : Bool) (s : State) :
    ∃ t, execEnumTimeout down up second s = .next t ∧ t.dtime = s.dtime ∧ t.pending = s.pending ∧ t.mem = s.mem := by
  unfold execEnumTimeout; (repeat' split) <;> refine ⟨_, rfl, ?_⟩ <;> simp
theorem execEnumWaitExpiry_keep (s : State) :
    ∃ t, execEnumWaitExpiry s = .next t ∧ t.dtime = s.dtime ∧ t.pending = s.pending ∧ t.mem = s.mem := by
  unfold execEnumWaitExpiry; (repeat' split) <;> refine ⟨_, rfl, ?_⟩ <;> simp
theorem execEnum_keep (p : Fin 2) (id : Option (Fin 8)) (present : Fin 256) (gap : Fin 256) (s : State) :
    ∃ t, execEnum p id present gap s = .next t ∧ t.dtime = s.dtime ∧ t.pending = s.pending ∧ t.mem = s.mem := by
  unfold execEnum; dsimp only; (repeat' split) <;> refine ⟨_, rfl, ?_⟩ <;> simp
theorem execRingJoin_keep (self : Bool) (id : Fin 8) (step : Int) (present : Fin 256) (gap : Fin 256) (master : Fin 8) (s : State) :
    ∃ t, execRingJoin self id step present gap master s = .next t ∧ t.pending = s.pending ∧ t.mem = s.mem := by
  unfold execRingJoin; dsimp only; (repeat' split) <;> refine ⟨_, rfl, ?_⟩ <;> simp
theorem execLaneLockLoss_keep (p : Fin 3) (s : State) :
    ∃ t, execLaneLockLoss p s = .next t ∧ t.dtime = s.dtime ∧ t.pending = s.pending ∧ t.mem = s.mem := by
  refine ⟨_, rfl, ?_⟩; simp
theorem execLinkLost_keep (p : Fin 3) (gone : Option (Fin 8)) (s : State) :
    ∃ t, execLinkLost p gone s = .next t ∧ t.dtime = s.dtime ∧ t.pending = s.pending ∧ (Memory.wf s.mem = true → Memory.wf t.mem = true) := by
  unfold execLinkLost; dsimp only; (repeat' split) <;> refine ⟨_, rfl, ?_⟩ <;> simp_all +contextual
theorem execLinkNak_keep (p : Fin 3) (cls : Fin 4) (s : State) :
    ∃ t, execLinkNak p cls s = .next t ∧ t.dtime = s.dtime ∧ t.pending = s.pending ∧ t.mem = s.mem := by
  refine ⟨_, rfl, ?_⟩; simp
theorem execLinkAck_keep (p : Fin 3) (cls : Fin 4) (seq : Nat) (s : State) :
    ∃ t, execLinkAck p cls seq s = .next t ∧ t.dtime = s.dtime ∧ t.pending = s.pending ∧ t.mem = s.mem := by
  refine ⟨_, rfl, ?_⟩; simp
theorem execLinkAckTimeout_keep (p : Fin 3) (cls : Fin 4) (s : State) :
    ∃ t, execLinkAckTimeout p cls s = .next t ∧ t.dtime = s.dtime ∧ t.pending = s.pending ∧ t.mem = s.mem := by
  refine ⟨_, rfl, ?_⟩; simp
theorem execPacketDiscarded_keep (p : Sys2Proof.RxPacket) (s : State) :
    ∃ t, execPacketDiscarded p s = .next t ∧ t.dtime = s.dtime ∧ t.pending = s.pending ∧ t.mem = s.mem := by
  refine ⟨_, rfl, ?_⟩; simp
theorem execRetrain_keep (m : Fin 64) (p : Fin 3) (v : Sys2Proof.Word) (s : State) :
    ∃ t, execRetrain m p v s = .next t ∧ t.dtime = s.dtime ∧ t.pending = s.pending ∧ t.mem = s.mem := by
  refine ⟨_, rfl, ?_⟩; simp
theorem execBabInCfgWrite_keep (m : Fin 64) (v : Fin 32) (k : Fin 3) (w : Sys2Proof.Word) (s : State) :
    ∃ t, execBabInCfgWrite m v k w s = .next t ∧ t.dtime = s.dtime ∧ t.pending = s.pending ∧ t.mem = s.mem := by
  refine ⟨_, rfl, ?_⟩; simp
theorem execBabCtxEnable_keep (m : Fin 64) (c : Fin 64) (w : Sys2Proof.Word) (s : State) :
    ∃ t, execBabCtxEnable m c w s = .next t ∧ t.dtime = s.dtime ∧ t.pending = s.pending ∧ t.mem = s.mem := by
  refine ⟨_, rfl, ?_⟩; simp
theorem execBabClosePosted_keep (s : State) :
    ∃ t, execBabClosePosted s = .next t ∧ t.dtime = s.dtime ∧ t.pending = s.pending ∧ (Memory.wf s.mem = true → Memory.wf t.mem = true) := by
  unfold execBabClosePosted; (repeat' split) <;> refine ⟨_, rfl, ?_⟩ <;> simp +contextual
theorem execBabResultApply_keep (c : Fin 64) (s : State) :
    ∃ t, execBabResultApply c s = .next t ∧ t.dtime = s.dtime ∧ t.pending = s.pending ∧ t.mem = s.mem := by
  unfold execBabResultApply; dsimp only; (repeat' split) <;> refine ⟨_, rfl, ?_⟩ <;> simp
theorem execBabStale_keep (c : Fin 64) (s : State) :
    ∃ t, execBabStale c s = .next t ∧ t.dtime = s.dtime ∧ t.pending = s.pending ∧ t.mem = s.mem := by
  unfold execBabStale; dsimp only; (repeat' split) <;> refine ⟨_, rfl, ?_⟩ <;> simp
theorem execDmaTransferDone_keep (q : Fin 1024) (s : State) :
    ∃ t, execDmaTransferDone q s = .next t ∧ t.dtime = s.dtime ∧ t.pending = s.pending ∧ (Memory.wf s.mem = true → Memory.wf t.mem = true) := by
  have k := State.qFetch_keep s 0x20 q
  unfold execDmaTransferDone
  split
  · split
    · rename_i e; rw [e] at k; exact ⟨_, rfl, by simpa using k.1, by simpa using k.2.1, fun h => by simp_all⟩
    · rename_i u b e
      rw [e] at k
      dsimp only
      split
      · refine ⟨_, rfl, by simpa using k.1, by simpa using k.2.1, fun h => ?_⟩
        have hu : Memory.wf u.mem = true := by rw [k.2.2]; exact h
        simp only [State.qRetireN_keep]
        exact State.qPostHw_wf _ _ _ (State.dmaMove_wf _ _ _ _ _ (by simp [hu]))
      · exact ⟨_, rfl, k.1, k.2.1, fun h => by rw [k.2.2]; exact h⟩
  · exact ⟨_, rfl, rfl, rfl, id⟩
theorem execEthTransmit_keep (p : Fin 4) (c : Fin 8) (s : State) :
    ∃ t, execEthTransmit p c s = .next t ∧ t.dtime = s.dtime ∧ t.pending = s.pending ∧ t.mem = s.mem := by
  unfold execEthTransmit; (try dsimp only); (repeat' (split <;> try (rename_i heq; have hs := congrArg (fun x => x.1) heq; simp only at hs; subst hs))) <;> refine ⟨_, rfl, ?_⟩ <;> simp
theorem execEthTxDone_keep (p : Fin 4) (s : State) :
    ∃ t, execEthTxDone p s = .next t ∧ t.dtime = s.dtime ∧ t.pending = s.pending ∧ (Memory.wf s.mem = true → Memory.wf t.mem = true) := by
  unfold execEthTxDone; (repeat' split) <;> refine ⟨_, rfl, ?_⟩ <;> simp +contextual
theorem execEthReceive_keep (p : Fin 4) (c : Fin 8) (stamp : Nat) (data : List Nat) (s : State) :
    ∃ t, execEthReceive p c stamp data s = .next t ∧ t.dtime = s.dtime ∧ t.pending = s.pending ∧
      (Memory.wf s.mem = true → Memory.wf t.mem = true) := by
  have k := State.qFetch_keep s 0x20 (s.ethRxFree p)
  unfold execEthReceive
  dsimp only
  split
  · exact ⟨_, rfl, by simp⟩
  · split
    · exact ⟨_, rfl, by simp +contextual⟩
    · split
      · rename_i e; rw [e] at k; exact ⟨_, rfl, by simpa using k.1, by simpa using k.2.1, fun h => by simp_all⟩
      · rename_i u b e
        rw [e] at k
        have w := State.masterWrite_keep (u.qTake1 (s.ethRxFree p)) 0x20 (Desc.ofBytes b).addr data
        have x : Memory.wf s.mem = true → Memory.wf ((u.qTake1 (s.ethRxFree p)).masterWrite 0x20 (Desc.ofBytes b).addr data).1.mem = true :=
          fun h => State.masterWrite_wf _ _ _ _ (by have : Memory.wf u.mem = true := by rw [k.2.2]; exact h
                                                    simpa using this)
        split
        · rename_i e'; rw [e'] at w x
          exact ⟨_, rfl, by simp_all, by simp_all, fun h => State.qPostAt_wf _ _ _ _ (by simpa using x h)⟩
        · rename_i e'; rw [e'] at w x
          exact ⟨_, rfl, by simp_all, by simp_all, fun h => by simpa using x h⟩
theorem execEthGateSwitch_keep (p : Fin 4) (k : Fin 256) (s : State) :
    ∃ t, execEthGateSwitch p k s = .next t ∧ t.dtime = s.dtime ∧ t.pending = s.pending ∧ t.mem = s.mem := by
  unfold execEthGateSwitch; (try dsimp only); (repeat' (split <;> try (rename_i heq; have hs := congrArg (fun x => x.1) heq; simp only at hs; subst hs))) <;> refine ⟨_, rfl, ?_⟩ <;> simp
theorem execPcieCompletion_keep (poisoned : Bool) (data : List Nat) (s : State) :
    ∃ t, execPcieCompletion poisoned data s = .next t ∧ t.dtime = s.dtime ∧ t.pending = s.pending ∧ t.mem = s.mem := by
  unfold execPcieCompletion; (repeat' split) <;> refine ⟨_, rfl, ?_⟩ <;> simp
theorem execPcieCompletionTimeout_keep (s : State) :
    ∃ t, execPcieCompletionTimeout s = .next t ∧ t.dtime = s.dtime ∧ t.pending = s.pending ∧ t.mem = s.mem := by
  unfold execPcieCompletionTimeout; (repeat' split) <;> refine ⟨_, rfl, ?_⟩ <;> simp
theorem execPmbusPoll_keep (vout : Fin 65536) (iout : Fin 65536) (s : State) :
    ∃ t, execPmbusPoll vout iout s = .next t ∧ t.dtime = s.dtime ∧ t.pending = s.pending ∧ t.mem = s.mem := by
  refine ⟨_, rfl, ?_⟩; simp
theorem execPmbusAlert_keep (word : Fin 65536) (s : State) :
    ∃ t, execPmbusAlert word s = .next t ∧ t.dtime = s.dtime ∧ t.pending = s.pending ∧ t.mem = s.mem := by
  refine ⟨_, rfl, ?_⟩; simp
theorem execServiceTransfer_keep (out : List Nat) (inp : List Nat) (s : State) :
    ∃ t, execServiceTransfer out inp s = .next t ∧ t.dtime = s.dtime ∧ t.pending = s.pending ∧ t.mem = s.mem := by
  unfold execServiceTransfer; (repeat' split) <;> refine ⟨_, rfl, ?_⟩ <;> simp
theorem execRegisterWrite_keep (m : Fin 64) (a : Nat) (v : Sys2Proof.Word) (s : State) :
    ∃ t, execRegisterWrite m a v s = .next t ∧ t.pending = s.pending ∧ (Memory.wf s.mem = true → Memory.wf t.mem = true) := by
  refine ⟨_, rfl, ?_⟩; simp +contextual
theorem execReadLoLatch_keep (m : Fin 64) (a : Nat) (s : State) :
    ∃ t, execReadLoLatch m a s = .next t ∧ t.dtime = s.dtime ∧ t.pending = s.pending ∧ t.mem = s.mem := by
  refine ⟨_, rfl, ?_⟩; simp
theorem execReadHi_keep (m : Fin 64) (a : Nat) (s : State) :
    ∃ t, execReadHi m a s = .next t ∧ t.dtime = s.dtime ∧ t.pending = s.pending ∧ t.mem = s.mem := by
  refine ⟨_, rfl, ?_⟩; simp
theorem execWriteHi_keep (m : Fin 64) (a : Nat) (v : Sys2Proof.Word) (s : State) :
    ∃ t, execWriteHi m a v s = .next t ∧ t.pending = s.pending ∧ (Memory.wf s.mem = true → Memory.wf t.mem = true) := by
  refine ⟨_, rfl, ?_⟩; simp +contextual
theorem execMemoryAccess_keep (m : Fin 64) (a : Nat) (n : Nat) (write : Bool) (data : List Nat) (errs : List (Nat × Nat)) (s : State) :
    ∃ t, execMemoryAccess m a n write data errs s = .next t ∧ t.pending = s.pending ∧ (Memory.wf s.mem = true → Memory.wf t.mem = true) := by
  unfold execMemoryAccess; (repeat' split) <;> refine ⟨_, rfl, ?_⟩ <;> simp +contextual
theorem execPcieInbound_keep (x : Nat) (n : Nat) (write : Bool) (data : List Nat) (poisoned : Bool) (errs : List (Nat × Nat)) (s : State) :
    ∃ t, execPcieInbound x n write data poisoned errs s = .next t ∧ t.pending = s.pending ∧ (Memory.wf s.mem = true → Memory.wf t.mem = true) := by
  unfold execPcieInbound; dsimp only; (repeat' split) <;> refine ⟨_, rfl, ?_⟩ <;> simp_all +contextual
theorem execWrite_keep (p : Fin 3) (a : Nat) (data : List Nat) (s : State) :
    ∃ t, execWrite p a data s = .next t ∧ t.pending = s.pending ∧ (Memory.wf s.mem = true → Memory.wf t.mem = true) := by
  unfold execWrite; (repeat' split) <;> refine ⟨_, rfl, ?_⟩ <;> simp +contextual
theorem execRead_keep (p : Fin 3) (a : Nat) (n : Nat) (errs : List (Nat × Nat)) (s : State) :
    ∃ t, execRead p a n errs s = .next t ∧ t.dtime = s.dtime ∧ t.pending = s.pending ∧ t.mem = s.mem := by
  unfold execRead; dsimp only; (repeat' split) <;> refine ⟨_, rfl, ?_⟩ <;> simp
theorem execCompletion_keep (p : Fin 3) (status : Fin 3) (data : List Nat) (s : State) :
    ∃ t, execCompletion p status data s = .next t ∧ t.dtime = s.dtime ∧ t.pending = s.pending ∧ t.mem = s.mem := by
  unfold execCompletion; (repeat' split) <;> refine ⟨_, rfl, ?_⟩ <;> simp
theorem execLinkPost_keep (p : Fin 3) (q : Fin 1024) (data : List Nat) (s : State) :
    ∃ t, execLinkPost p q data s = .next t ∧ t.dtime = s.dtime ∧ t.pending = s.pending ∧ (Memory.wf s.mem = true → Memory.wf t.mem = true) := by
  unfold execLinkPost; dsimp only; (repeat' split) <;> refine ⟨_, rfl, ?_⟩ <;> simp_all +contextual
theorem execAdd_keep (c : Fin 64) (i : Fin 65536) (s : State) :
    ∃ t, execAdd c i s = .next t ∧ t.dtime = s.dtime ∧ t.pending = s.pending ∧ (Memory.wf s.mem = true → Memory.wf t.mem = true) := by
  refine ⟨_, rfl, ?_⟩; simp +contextual
theorem execSub_keep (c : Fin 64) (i : Fin 65536) (s : State) :
    ∃ t, execSub c i s = .next t ∧ t.dtime = s.dtime ∧ t.pending = s.pending ∧ (Memory.wf s.mem = true → Memory.wf t.mem = true) := by
  refine ⟨_, rfl, ?_⟩; simp +contextual
theorem execMul_keep (c : Fin 64) (i : Fin 65536) (s : State) :
    ∃ t, execMul c i s = .next t ∧ t.dtime = s.dtime ∧ t.pending = s.pending ∧ (Memory.wf s.mem = true → Memory.wf t.mem = true) := by
  refine ⟨_, rfl, ?_⟩; simp +contextual
theorem execMax_keep (c : Fin 64) (i : Fin 65536) (s : State) :
    ∃ t, execMax c i s = .next t ∧ t.dtime = s.dtime ∧ t.pending = s.pending ∧ (Memory.wf s.mem = true → Memory.wf t.mem = true) := by
  refine ⟨_, rfl, ?_⟩; simp +contextual
theorem execMin_keep (c : Fin 64) (i : Fin 65536) (s : State) :
    ∃ t, execMin c i s = .next t ∧ t.dtime = s.dtime ∧ t.pending = s.pending ∧ (Memory.wf s.mem = true → Memory.wf t.mem = true) := by
  refine ⟨_, rfl, ?_⟩; simp +contextual
theorem execAbs_keep (c : Fin 64) (i : Fin 65536) (s : State) :
    ∃ t, execAbs c i s = .next t ∧ t.dtime = s.dtime ∧ t.pending = s.pending ∧ (Memory.wf s.mem = true → Memory.wf t.mem = true) := by
  refine ⟨_, rfl, ?_⟩; simp +contextual
theorem execScale_keep (c : Fin 64) (i : Fin 65536) (axis : Fin 4) (s : State) :
    ∃ t, execScale c i axis s = .next t ∧ t.dtime = s.dtime ∧ t.pending = s.pending ∧ (Memory.wf s.mem = true → Memory.wf t.mem = true) := by
  refine ⟨_, rfl, ?_⟩; simp +contextual
theorem execClamp_keep (c : Fin 64) (i : Fin 65536) (axis : Fin 4) (s : State) :
    ∃ t, execClamp c i axis s = .next t ∧ t.dtime = s.dtime ∧ t.pending = s.pending ∧ (Memory.wf s.mem = true → Memory.wf t.mem = true) := by
  refine ⟨_, rfl, ?_⟩; simp +contextual
theorem execCmp_keep (c : Fin 64) (i : Fin 65536) (rel : Fin 6) (s : State) :
    ∃ t, execCmp c i rel s = .next t ∧ t.dtime = s.dtime ∧ t.pending = s.pending ∧ (Memory.wf s.mem = true → Memory.wf t.mem = true) := by
  refine ⟨_, rfl, ?_⟩; simp +contextual
theorem execSelect_keep (c : Fin 64) (i : Fin 65536) (s : State) :
    ∃ t, execSelect c i s = .next t ∧ t.dtime = s.dtime ∧ t.pending = s.pending ∧ (Memory.wf s.mem = true → Memory.wf t.mem = true) := by
  refine ⟨_, rfl, ?_⟩; simp +contextual
theorem execRelu_keep (c : Fin 64) (i : Fin 65536) (s : State) :
    ∃ t, execRelu c i s = .next t ∧ t.dtime = s.dtime ∧ t.pending = s.pending ∧ (Memory.wf s.mem = true → Memory.wf t.mem = true) := by
  refine ⟨_, rfl, ?_⟩; simp +contextual
theorem execLeaky_keep (c : Fin 64) (i : Fin 65536) (s : State) :
    ∃ t, execLeaky c i s = .next t ∧ t.dtime = s.dtime ∧ t.pending = s.pending ∧ (Memory.wf s.mem = true → Memory.wf t.mem = true) := by
  refine ⟨_, rfl, ?_⟩; simp +contextual
theorem execTanh_keep (c : Fin 64) (i : Fin 65536) (s : State) :
    ∃ t, execTanh c i s = .next t ∧ t.dtime = s.dtime ∧ t.pending = s.pending ∧ (Memory.wf s.mem = true → Memory.wf t.mem = true) := by
  refine ⟨_, rfl, ?_⟩; simp +contextual
theorem execSigmoid_keep (c : Fin 64) (i : Fin 65536) (s : State) :
    ∃ t, execSigmoid c i s = .next t ∧ t.dtime = s.dtime ∧ t.pending = s.pending ∧ (Memory.wf s.mem = true → Memory.wf t.mem = true) := by
  refine ⟨_, rfl, ?_⟩; simp +contextual
theorem execGelu_keep (c : Fin 64) (i : Fin 65536) (s : State) :
    ∃ t, execGelu c i s = .next t ∧ t.dtime = s.dtime ∧ t.pending = s.pending ∧ (Memory.wf s.mem = true → Memory.wf t.mem = true) := by
  refine ⟨_, rfl, ?_⟩; simp +contextual
theorem execExp_keep (c : Fin 64) (i : Fin 65536) (s : State) :
    ∃ t, execExp c i s = .next t ∧ t.dtime = s.dtime ∧ t.pending = s.pending ∧ (Memory.wf s.mem = true → Memory.wf t.mem = true) := by
  refine ⟨_, rfl, ?_⟩; simp +contextual
theorem execLog_keep (c : Fin 64) (i : Fin 65536) (s : State) :
    ∃ t, execLog c i s = .next t ∧ t.dtime = s.dtime ∧ t.pending = s.pending ∧ (Memory.wf s.mem = true → Memory.wf t.mem = true) := by
  refine ⟨_, rfl, ?_⟩; simp +contextual
theorem execRsqrt_keep (c : Fin 64) (i : Fin 65536) (s : State) :
    ∃ t, execRsqrt c i s = .next t ∧ t.dtime = s.dtime ∧ t.pending = s.pending ∧ (Memory.wf s.mem = true → Memory.wf t.mem = true) := by
  refine ⟨_, rfl, ?_⟩; simp +contextual
theorem execRecip_keep (c : Fin 64) (i : Fin 65536) (s : State) :
    ∃ t, execRecip c i s = .next t ∧ t.dtime = s.dtime ∧ t.pending = s.pending ∧ (Memory.wf s.mem = true → Memory.wf t.mem = true) := by
  refine ⟨_, rfl, ?_⟩; simp +contextual
theorem execSoftmax_keep (c : Fin 64) (i : Fin 65536) (axis : Fin 4) (s : State) :
    ∃ t, execSoftmax c i axis s = .next t ∧ t.dtime = s.dtime ∧ t.pending = s.pending ∧ (Memory.wf s.mem = true → Memory.wf t.mem = true) := by
  refine ⟨_, rfl, ?_⟩; simp +contextual
theorem execLayernorm_keep (c : Fin 64) (i : Fin 65536) (axis : Fin 4) (s : State) :
    ∃ t, execLayernorm c i axis s = .next t ∧ t.dtime = s.dtime ∧ t.pending = s.pending ∧ (Memory.wf s.mem = true → Memory.wf t.mem = true) := by
  refine ⟨_, rfl, ?_⟩; simp +contextual
theorem execRmsnorm_keep (c : Fin 64) (i : Fin 65536) (axis : Fin 4) (s : State) :
    ∃ t, execRmsnorm c i axis s = .next t ∧ t.dtime = s.dtime ∧ t.pending = s.pending ∧ (Memory.wf s.mem = true → Memory.wf t.mem = true) := by
  refine ⟨_, rfl, ?_⟩; simp +contextual
theorem execReduceSum_keep (c : Fin 64) (i : Fin 65536) (mask : Fin 16) (s : State) :
    ∃ t, execReduceSum c i mask s = .next t ∧ t.dtime = s.dtime ∧ t.pending = s.pending ∧ (Memory.wf s.mem = true → Memory.wf t.mem = true) := by
  refine ⟨_, rfl, ?_⟩; simp +contextual
theorem execReduceSumU_keep (c : Fin 64) (i : Fin 65536) (mask : Fin 16) (order : List Nat) (s : State) :
    ∃ t, execReduceSumU c i mask order s = .next t ∧ t.dtime = s.dtime ∧ t.pending = s.pending ∧ (Memory.wf s.mem = true → Memory.wf t.mem = true) := by
  refine ⟨_, rfl, ?_⟩; simp +contextual
theorem execReduceMax_keep (c : Fin 64) (i : Fin 65536) (mask : Fin 16) (s : State) :
    ∃ t, execReduceMax c i mask s = .next t ∧ t.dtime = s.dtime ∧ t.pending = s.pending ∧ (Memory.wf s.mem = true → Memory.wf t.mem = true) := by
  refine ⟨_, rfl, ?_⟩; simp +contextual
theorem execReduceMin_keep (c : Fin 64) (i : Fin 65536) (mask : Fin 16) (s : State) :
    ∃ t, execReduceMin c i mask s = .next t ∧ t.dtime = s.dtime ∧ t.pending = s.pending ∧ (Memory.wf s.mem = true → Memory.wf t.mem = true) := by
  refine ⟨_, rfl, ?_⟩; simp +contextual
theorem execArgmax_keep (c : Fin 64) (i : Fin 65536) (mask : Fin 16) (s : State) :
    ∃ t, execArgmax c i mask s = .next t ∧ t.dtime = s.dtime ∧ t.pending = s.pending ∧ (Memory.wf s.mem = true → Memory.wf t.mem = true) := by
  refine ⟨_, rfl, ?_⟩; simp +contextual
theorem execArgmin_keep (c : Fin 64) (i : Fin 65536) (mask : Fin 16) (s : State) :
    ∃ t, execArgmin c i mask s = .next t ∧ t.dtime = s.dtime ∧ t.pending = s.pending ∧ (Memory.wf s.mem = true → Memory.wf t.mem = true) := by
  refine ⟨_, rfl, ?_⟩; simp +contextual
theorem execCast_keep (c : Fin 64) (i : Fin 65536) (s : State) :
    ∃ t, execCast c i s = .next t ∧ t.dtime = s.dtime ∧ t.pending = s.pending ∧ (Memory.wf s.mem = true → Memory.wf t.mem = true) := by
  refine ⟨_, rfl, ?_⟩; simp +contextual
theorem execCopy_keep (c : Fin 64) (i : Fin 65536) (s : State) :
    ∃ t, execCopy c i s = .next t ∧ t.dtime = s.dtime ∧ t.pending = s.pending ∧ (Memory.wf s.mem = true → Memory.wf t.mem = true) := by
  refine ⟨_, rfl, ?_⟩; simp +contextual
theorem execTranspose_keep (c : Fin 64) (i : Fin 65536) (perm : List Nat) (s : State) :
    ∃ t, execTranspose c i perm s = .next t ∧ t.dtime = s.dtime ∧ t.pending = s.pending ∧ (Memory.wf s.mem = true → Memory.wf t.mem = true) := by
  refine ⟨_, rfl, ?_⟩; simp +contextual
theorem execSlice_keep (c : Fin 64) (i : Fin 65536) (starts : List Nat) (steps : List Nat) (s : State) :
    ∃ t, execSlice c i starts steps s = .next t ∧ t.dtime = s.dtime ∧ t.pending = s.pending ∧ (Memory.wf s.mem = true → Memory.wf t.mem = true) := by
  refine ⟨_, rfl, ?_⟩; simp +contextual
theorem execConcat_keep (c : Fin 64) (i : Fin 65536) (axis : Fin 4) (s : State) :
    ∃ t, execConcat c i axis s = .next t ∧ t.dtime = s.dtime ∧ t.pending = s.pending ∧ (Memory.wf s.mem = true → Memory.wf t.mem = true) := by
  refine ⟨_, rfl, ?_⟩; simp +contextual
theorem execPad_keep (c : Fin 64) (i : Fin 65536) (before : List Nat) (value : Nat) (s : State) :
    ∃ t, execPad c i before value s = .next t ∧ t.dtime = s.dtime ∧ t.pending = s.pending ∧ (Memory.wf s.mem = true → Memory.wf t.mem = true) := by
  refine ⟨_, rfl, ?_⟩; simp +contextual
theorem execGather_keep (c : Fin 64) (i : Fin 65536) (axis : Fin 4) (s : State) :
    ∃ t, execGather c i axis s = .next t ∧ t.dtime = s.dtime ∧ t.pending = s.pending ∧ (Memory.wf s.mem = true → Memory.wf t.mem = true) := by
  refine ⟨_, rfl, ?_⟩; simp +contextual
theorem execScatter_keep (c : Fin 64) (i : Fin 65536) (axis : Fin 4) (s : State) :
    ∃ t, execScatter c i axis s = .next t ∧ t.dtime = s.dtime ∧ t.pending = s.pending ∧ (Memory.wf s.mem = true → Memory.wf t.mem = true) := by
  refine ⟨_, rfl, ?_⟩; simp +contextual
theorem execScatterAdd_keep (c : Fin 64) (i : Fin 65536) (axis : Fin 4) (s : State) :
    ∃ t, execScatterAdd c i axis s = .next t ∧ t.dtime = s.dtime ∧ t.pending = s.pending ∧ (Memory.wf s.mem = true → Memory.wf t.mem = true) := by
  refine ⟨_, rfl, ?_⟩; simp +contextual
theorem execScatterAddU_keep (c : Fin 64) (i : Fin 65536) (axis : Fin 4) (order : List Nat) (s : State) :
    ∃ t, execScatterAddU c i axis order s = .next t ∧ t.dtime = s.dtime ∧ t.pending = s.pending ∧ (Memory.wf s.mem = true → Memory.wf t.mem = true) := by
  refine ⟨_, rfl, ?_⟩; simp +contextual
theorem execStateLoad_keep (c : Fin 64) (i : Fin 65536) (s : State) :
    ∃ t, execStateLoad c i s = .next t ∧ t.dtime = s.dtime ∧ t.pending = s.pending ∧ (Memory.wf s.mem = true → Memory.wf t.mem = true) := by
  refine ⟨_, rfl, ?_⟩; simp +contextual
theorem execStateStore_keep (c : Fin 64) (i : Fin 65536) (s : State) :
    ∃ t, execStateStore c i s = .next t ∧ t.dtime = s.dtime ∧ t.pending = s.pending ∧ (Memory.wf s.mem = true → Memory.wf t.mem = true) := by
  refine ⟨_, rfl, ?_⟩; simp +contextual
/-- A mailbox row that checks its payload keeps what its effect keeps. -/
theorem mbRun_check_keep (s : State) (b op : Nat) (ok : State → List Nat → Bool) (g : State → List Nat → State × Option MbRes)
    (h : ∀ s p, (g s p).1.dtime = s.dtime ∧ (g s p).1.pending = s.pending ∧ (g s p).1.mem = s.mem) :
    (s.mbRun b op fun s p => mbCheck (ok s p) s (g s p)).dtime = s.dtime ∧
    (s.mbRun b op fun s p => mbCheck (ok s p) s (g s p)).pending = s.pending ∧
    (s.mbRun b op fun s p => mbCheck (ok s p) s (g s p)).mem = s.mem :=
  ⟨(State.mbRun_keep _ _ _ _).1 fun s p => (mbCheck_keep _ _ _).1 (h s p).1,
   (State.mbRun_keep _ _ _ _).2.1 fun s p => (mbCheck_keep _ _ _).2.1 (h s p).2.1,
   (State.mbRun_keep _ _ _ _).2.2 fun s p => (mbCheck_keep _ _ _).2.2 (h s p).2.2⟩
theorem execHello_keep (b : Fin 16) (s : State) :
    ∃ t, execHello b s = .next t ∧ t.dtime = s.dtime ∧ t.pending = s.pending ∧ t.mem = s.mem :=
  ⟨_, rfl, mbRun_check_keep _ _ _ _ _ fun s p => by dsimp only; split <;> simp⟩
theorem execPing_keep (b : Fin 16) (s : State) :
    ∃ t, execPing b s = .next t ∧ t.dtime = s.dtime ∧ t.pending = s.pending ∧ t.mem = s.mem := by
  refine ⟨_, rfl, ?_⟩; simp
theorem execAxisRelease_keep (b : Fin 16) (s : State) :
    ∃ t, execAxisRelease b s = .next t ∧ t.dtime = s.dtime ∧ t.pending = s.pending ∧ t.mem = s.mem := by
  refine ⟨_, rfl, ?_⟩; simp
theorem execAxisWithhold_keep (b : Fin 16) (s : State) :
    ∃ t, execAxisWithhold b s = .next t ∧ t.dtime = s.dtime ∧ t.pending = s.pending ∧ t.mem = s.mem := by
  refine ⟨_, rfl, ?_⟩; simp
theorem execPxbMap_keep (b : Fin 16) (s : State) :
    ∃ t, execPxbMap b s = .next t ∧ t.dtime = s.dtime ∧ t.pending = s.pending ∧ t.mem = s.mem :=
  ⟨_, rfl, mbRun_check_keep _ _ _ _ _ fun s p => by simp⟩
theorem execCalStart_keep (b : Fin 16) (s : State) :
    ∃ t, execCalStart b s = .next t ∧ t.dtime = s.dtime ∧ t.pending = s.pending ∧ t.mem = s.mem :=
  ⟨_, rfl, mbRun_check_keep _ _ _ _ _ fun s p => by simp⟩
theorem execObsLoad_keep (b : Fin 16) (s : State) :
    ∃ t, execObsLoad b s = .next t ∧ t.dtime = s.dtime ∧ t.pending = s.pending ∧ t.mem = s.mem :=
  ⟨_, rfl, mbRun_check_keep _ _ _ _ _ fun s p => by split <;> simp⟩
theorem execObsRemove_keep (b : Fin 16) (s : State) :
    ∃ t, execObsRemove b s = .next t ∧ t.dtime = s.dtime ∧ t.pending = s.pending ∧ t.mem = s.mem :=
  ⟨_, rfl, mbRun_check_keep _ _ _ _ _ fun s p => by simp⟩
/-- A mailbox row that checks its payload keeps the canonical form of memory where its effect does. -/
theorem mbRun_check_wf (s : State) (b op : Nat) (ok : State → List Nat → Bool) (g : State → List Nat → State × Option MbRes)
    (h : ∀ s p, (g s p).1.dtime = s.dtime ∧ (g s p).1.pending = s.pending)
    (w : ∀ s p, Memory.wf s.mem = true → Memory.wf (g s p).1.mem = true) :
    (s.mbRun b op fun s p => mbCheck (ok s p) s (g s p)).dtime = s.dtime ∧
    (s.mbRun b op fun s p => mbCheck (ok s p) s (g s p)).pending = s.pending ∧
    (Memory.wf s.mem = true → Memory.wf (s.mbRun b op fun s p => mbCheck (ok s p) s (g s p)).mem = true) :=
  ⟨(State.mbRun_keep _ _ _ _).1 fun s p => (mbCheck_keep _ _ _).1 (h s p).1,
   (State.mbRun_keep _ _ _ _).2.1 fun s p => (mbCheck_keep _ _ _).2.1 (h s p).2,
   State.mbRun_wf _ _ _ _ fun s p hs => by unfold mbCheck; split <;> simp [hs, w]⟩
theorem execLaneFence_keep (b : Fin 16) (s : State) :
    ∃ t, execLaneFence b s = .next t ∧ t.dtime = s.dtime ∧ t.pending = s.pending ∧ (Memory.wf s.mem = true → Memory.wf t.mem = true) :=
  ⟨_, rfl, by apply mbRun_check_wf; (· intro s p; simp); (· intro s p h; simp [h])⟩
theorem execCtxCmd_keep (b : Fin 16) (s : State) :
    ∃ t, execCtxCmd b s = .next t ∧ t.dtime = s.dtime ∧ t.pending = s.pending ∧ (Memory.wf s.mem = true → Memory.wf t.mem = true) :=
  ⟨_, rfl, by apply mbRun_check_wf; (· intro s p; simp); (· intro s p h; simp [h])⟩
theorem execEngFence_keep (b : Fin 16) (s : State) :
    ∃ t, execEngFence b s = .next t ∧ t.dtime = s.dtime ∧ t.pending = s.pending ∧ t.mem = s.mem :=
  ⟨_, rfl, mbRun_check_keep _ _ _ _ _ fun s p => by simp⟩
theorem execEngReset_keep (b : Fin 16) (s : State) :
    ∃ t, execEngReset b s = .next t ∧ t.dtime = s.dtime ∧ t.pending = s.pending ∧ (Memory.wf s.mem = true → Memory.wf t.mem = true) :=
  ⟨_, rfl, by apply mbRun_check_wf; (· intro s p; simp); (· intro s p h; simp [h])⟩
theorem execMemRetire_keep (b : Fin 16) (s : State) :
    ∃ t, execMemRetire b s = .next t ∧ t.dtime = s.dtime ∧ t.pending = s.pending ∧ t.mem = s.mem :=
  ⟨_, rfl, mbRun_check_keep _ _ _ _ _ fun s p => by simp⟩
theorem execAtWrite_keep (b : Fin 16) (s : State) :
    ∃ t, execAtWrite b s = .next t ∧ t.dtime = s.dtime ∧ t.pending = s.pending ∧ t.mem = s.mem := by
  refine ⟨_, rfl, ?_⟩; simp
theorem execAtLock_keep (b : Fin 16) (s : State) :
    ∃ t, execAtLock b s = .next t ∧ t.dtime = s.dtime ∧ t.pending = s.pending ∧ t.mem = s.mem := by
  refine ⟨_, rfl, ?_⟩; simp
theorem execSwWrite_keep (b : Fin 16) (s : State) :
    ∃ t, execSwWrite b s = .next t ∧ t.pending = s.pending ∧ (Memory.wf s.mem = true → Memory.wf t.mem = true) :=
  ⟨_, rfl, (State.mbRun_keep _ _ _ _).2.1 fun s p => (mbCheck_keep _ _ _).2.1 (by simp),
    State.mbRun_wf _ _ _ _ fun s p h => by unfold mbCheck; dsimp only; split <;> simp [h]⟩
theorem execPowerState_keep (b : Fin 16) (s : State) :
    ∃ t, execPowerState b s = .next t ∧ t.dtime = s.dtime ∧ t.pending = s.pending ∧ t.mem = s.mem := by
  refine ⟨_, rfl, ?_⟩; simp
theorem execMbReply_keep (b : Fin 16) (s : State) :
    ∃ t, execMbReply b s = .next t ∧ t.dtime = s.dtime ∧ t.pending = s.pending ∧ (Memory.wf s.mem = true → Memory.wf t.mem = true) := by
  unfold execMbReply; dsimp only; (repeat' split) <;> refine ⟨_, rfl, ?_⟩ <;> simp_all +contextual
theorem execMbCommandTimeout_keep (b : Fin 16) (s : State) :
    ∃ t, execMbCommandTimeout b s = .next t ∧ t.dtime = s.dtime ∧ t.pending = s.pending ∧ t.mem = s.mem := by
  unfold execMbCommandTimeout; (repeat' split) <;> refine ⟨_, rfl, ?_⟩ <;> simp

end Sys2Proof.Machine
end

