-- ==== Sys2Proof/Laws/Low.lean ====
section
/-!
SUPPORT. The registers of DEVICE TIME and of the timebases lie below all others: what slots, Babbitt and the recorder do leaves them.
-/
set_option linter.all false
namespace Sys2Proof.Machine

/-- The first address above the registers of DEVICE TIME and of the timebases. -/
def lowEnd : Nat := 0x2000060000

@[simp] theorem State.reg_wr_low (s : State) (f : RF) (v i j : Nat) {x : Nat} (hx : x < lowEnd) (hf : lowEnd ≤ f.base) :
    (s.wr f v i j).reg x = s.reg x := by
  refine State.reg_wr_off _ _ _ _ _ _ ⟨?_, fun _ => ?_⟩ <;> unfold RF.addr
  · generalize i * f.s1 = a; generalize j * f.s2 = b; omega
  · generalize i * f.s1 = a; generalize j * f.s2 = b; omega
@[simp] theorem State.reg_raise_low (s : State) (f : RF) (i j : Nat) {x : Nat} (hx : x < lowEnd) (hf : lowEnd ≤ f.base) :
    (s.raise f i j).reg x = s.reg x := State.reg_wr_low s f _ i j hx hf
@[simp] theorem State.reg_incWrap_low (s : State) (f : RF) (i j n : Nat) {x : Nat} (hx : x < lowEnd) (hf : lowEnd ≤ f.base) :
    (s.incWrap f i j n).reg x = s.reg x := State.reg_wr_low s f _ i j hx hf
@[simp] theorem State.reg_wrS_low (s : State) (f : RF) (v : Int) (i j : Nat) {x : Nat} (hx : x < lowEnd) (hf : lowEnd ≤ f.base) :
    (s.wrS f v i j).reg x = s.reg x := State.reg_wr_low s f _ i j hx hf
@[simp] theorem State.reg_raiseIf_low (s : State) (c : Bool) (f : RF) (i j : Nat) {x : Nat} (hx : x < lowEnd) (hf : lowEnd ≤ f.base) :
    (s.raiseIf c f i j).reg x = s.reg x := by
  unfold State.raiseIf; split
  · exact State.reg_wr_low s f _ i j hx hf
  · rfl
@[simp] theorem reg_ite (c : Prop) [Decidable c] (a b : State) (x : Nat) : (if c then a else b).reg x = if c then a.reg x else b.reg x := by
  split <;> rfl
@[simp] theorem State.forEach_reg {α : Type} (s : State) (l : List α) (f : State → α → State) (x : Nat) (h : ∀ s a, (f s a).reg x = s.reg x) :
    (s.forEach l f).reg x = s.reg x := foldl_keep (fun s => s.reg x) f h l s

@[simp] theorem State.emitAt_low (s : State) (at_ code source : Nat) (payload : List Nat) (merge : Bool) {x : Nat} (h : x < lowEnd) :
    (s.emitAt at_ code source payload merge).reg x = s.reg x := by
  refine State.emitAt_reg _ _ _ _ _ _ ?_
  unfold notEvent
  have h1 : lowEnd ≤ REC.EVT_TOTAL.base := by decide
  have h2 : lowEnd ≤ REC.QUEUE.VALUE.base := by decide
  omega
theorem State.reg_setReg_low (s : State) (v : Word) {a x : Nat} (hx : x < lowEnd) (ha : lowEnd ≤ a) : (s.setReg a v).reg x = s.reg x :=
  State.reg_setReg_ne s v (by omega)
@[simp] theorem State.wrBit_low (s : State) (f : RF) (b : Nat) (y : Bool) (i j : Nat) {x : Nat} (hx : x < lowEnd) (hf : lowEnd ≤ f.base) :
    (s.wrBit f b y i j).reg x = s.reg x := by
  unfold State.wrBit; split <;> exact State.reg_wr_low s f _ i j hx hf
@[simp] theorem State.incSat_low (s : State) (f : RF) (i j n : Nat) {x : Nat} (hx : x < lowEnd) (hf : lowEnd ≤ f.base) :
    (s.incSat f i j n).reg x = s.reg x := State.reg_wr_low s f _ i j hx hf
@[simp] theorem State.times_low (s : State) (n : Nat) (f : State → State) {x : Nat} (h : ∀ s : State, (f s).reg x = s.reg x) :
    (s.times n f).reg x = s.reg x := by
  induction n generalizing s with
  | zero => rfl
  | succ n ih => exact (ih _).trans (h s)
@[simp] theorem State.writeFields_low (s : State) (a v : Nat) {x : Nat} (hx : x < lowEnd) (ha : lowEnd ≤ a) : (s.writeFields a v).1.reg x = s.reg x := by
  unfold State.writeFields
  split
  · rfl
  · exact State.reg_setReg_low _ _ hx ha
@[simp] theorem State.writePlain_low (s : State) (a v : Nat) {x : Nat} (hx : x < lowEnd) (ha : lowEnd + 4 ≤ a) : (s.writePlain a v).1.reg x = s.reg x := by
  unfold State.writePlain
  split
  · rfl
  · split
    · exact State.writeFields_low _ _ _ hx (by omega)
    · split <;> rfl
    · exact (State.writeFields_low _ _ _ hx (by omega)).trans (State.writeFields_low _ _ _ hx (by omega))
@[simp] theorem low_AT_CTRL_LOCK : lowEnd ≤ AT.CTRL.LOCK.base := by decide
@[simp] theorem low_AT_VIO_FIRST_ADDR : lowEnd ≤ AT.VIO_FIRST_ADDR.base := by decide
@[simp] theorem low_AT_VIO_FIRST_INFO_MASTER : lowEnd ≤ AT.VIO_FIRST_INFO.MASTER.base := by decide
@[simp] theorem low_AT_VIO_FIRST_INFO_SIZE : lowEnd ≤ AT.VIO_FIRST_INFO.SIZE.base := by decide
@[simp] theorem low_AT_VIO_FIRST_INFO_TYPE : lowEnd ≤ AT.VIO_FIRST_INFO.TYPE.base := by decide
@[simp] theorem low_AT_VIO_FIRST_TIME : lowEnd ≤ AT.VIO_FIRST_TIME.base := by decide
@[simp] theorem low_AT_VIO_LATEST_ADDR : lowEnd ≤ AT.VIO_LATEST_ADDR.base := by decide
@[simp] theorem low_AT_VIO_LATEST_INFO_INFO : lowEnd ≤ AT.VIO_LATEST_INFO.INFO.base := by decide
@[simp] theorem low_AT_VIO_LATEST_TIME : lowEnd ≤ AT.VIO_LATEST_TIME.base := by decide
@[simp] theorem low_AT_VIO_STATUS_FIRST_VALID : lowEnd ≤ AT.VIO_STATUS.FIRST_VALID.base := by decide
@[simp] theorem low_AT_VIO_STATUS_VIO_CNT : lowEnd ≤ AT.VIO_STATUS.VIO_CNT.base := by decide
@[simp] theorem low_AT_WIN_ATTR_EN : lowEnd ≤ AT.WIN_ATTR.EN.base := by decide
@[simp] theorem low_AT_WIN_BASE_BASE : lowEnd ≤ AT.WIN_BASE.BASE.base := by decide
@[simp] theorem low_AT_WIN_LIMIT_LIMIT : lowEnd ≤ AT.WIN_LIMIT.LIMIT.base := by decide
@[simp] theorem low_BAB_CTX_CFG_EN : lowEnd ≤ BAB.CTX_CFG.EN.base := by decide
@[simp] theorem low_BAB_CTX_CFG_REVS_L : lowEnd ≤ BAB.CTX_CFG.REVS_L.base := by decide
@[simp] theorem low_BAB_CTX_IN_VALUE : lowEnd ≤ BAB.CTX_IN.VALUE.base := by decide
@[simp] theorem low_BAB_IN_CFG_EN : lowEnd ≤ BAB.IN_CFG.EN.base := by decide
@[simp] theorem low_BAB_IN_CFG_ENV : lowEnd ≤ BAB.IN_CFG.ENV.base := by decide
@[simp] theorem low_BAB_IN_CFG_MAXJ : lowEnd ≤ BAB.IN_CFG.MAXJ.base := by decide
@[simp] theorem low_BAB_IN_CFG_PPR_L : lowEnd ≤ BAB.IN_CFG.PPR_L.base := by decide
@[simp] theorem low_BAB_IN_CFG_RL : lowEnd ≤ BAB.IN_CFG.RL.base := by decide
@[simp] theorem low_BAB_IN_CFG_TB : lowEnd ≤ BAB.IN_CFG.TB.base := by decide
@[simp] theorem low_BAB_IN_POS : lowEnd ≤ BAB.IN_POS.base := by decide
@[simp] theorem low_BAB_IN_RING_OFS : lowEnd ≤ BAB.IN_RING.OFS.base := by decide
@[simp] theorem low_BAB_IN_STATUS_ALIAS : lowEnd ≤ BAB.IN_STATUS.ALIAS.base := by decide
@[simp] theorem low_BAB_IN_STATUS_RESTART_CNT : lowEnd ≤ BAB.IN_STATUS.RESTART_CNT.base := by decide
@[simp] theorem low_BAB_IN_STATUS_STATE : lowEnd ≤ BAB.IN_STATUS.STATE.base := by decide
@[simp] theorem low_BAB_RING_BASE : lowEnd ≤ BAB.RING_BASE.base := by decide
@[simp] theorem low_MEM_CH_CNT_CE : lowEnd ≤ MEM.CH_CNT.CE.base := by decide
@[simp] theorem low_MEM_CH_CNT_UE : lowEnd ≤ MEM.CH_CNT.UE.base := by decide
@[simp] theorem low_MEM_CH_RETIRE_RETIRE : lowEnd ≤ MEM.CH_RETIRE.RETIRE.base := by decide
@[simp] theorem low_MEM_ECC_CTRL_IRQ : lowEnd ≤ MEM.ECC_CTRL.IRQ.base := by decide
@[simp] theorem low_MEM_ECC_STATUS_CE : lowEnd ≤ MEM.ECC_STATUS.CE.base := by decide
@[simp] theorem low_MEM_ECC_STATUS_FIRST_VALID : lowEnd ≤ MEM.ECC_STATUS.FIRST_VALID.base := by decide
@[simp] theorem low_MEM_ECC_STATUS_SRAM_CE : lowEnd ≤ MEM.ECC_STATUS.SRAM_CE.base := by decide
@[simp] theorem low_MEM_ECC_STATUS_SRAM_UE : lowEnd ≤ MEM.ECC_STATUS.SRAM_UE.base := by decide
@[simp] theorem low_MEM_ECC_STATUS_UE : lowEnd ≤ MEM.ECC_STATUS.UE.base := by decide
@[simp] theorem low_MEM_SRAM_CNT_CE : lowEnd ≤ MEM.SRAM_CNT.CE.base := by decide
@[simp] theorem low_MEM_SRAM_CNT_UE : lowEnd ≤ MEM.SRAM_CNT.UE.base := by decide
@[simp] theorem low_MEM_STATUS_UNAVAIL : lowEnd ≤ MEM.STATUS.UNAVAIL.base := by decide
@[simp] theorem low_MEM_STATUS_USABLE : lowEnd ≤ MEM.STATUS.USABLE.base := by decide
@[simp] theorem low_MEM_TOP : lowEnd ≤ MEM.TOP.base := by decide
@[simp] theorem low_MEM_UE_FIRST_ADDR : lowEnd ≤ MEM.UE_FIRST_ADDR.base := by decide
@[simp] theorem low_MEM_UE_FIRST_INFO_CH : lowEnd ≤ MEM.UE_FIRST_INFO.CH.base := by decide
@[simp] theorem low_MEM_UE_FIRST_INFO_MASTER : lowEnd ≤ MEM.UE_FIRST_INFO.MASTER.base := by decide
@[simp] theorem low_MEM_UE_FIRST_INFO_SRC : lowEnd ≤ MEM.UE_FIRST_INFO.SRC.base := by decide
@[simp] theorem low_MEM_UE_FIRST_INFO_TARGET : lowEnd ≤ MEM.UE_FIRST_INFO.TARGET.base := by decide
@[simp] theorem low_MEM_UE_FIRST_TIME : lowEnd ≤ MEM.UE_FIRST_TIME.base := by decide
@[simp] theorem low_MEM_UE_LATEST_ADDR : lowEnd ≤ MEM.UE_LATEST_ADDR.base := by decide
@[simp] theorem low_MEM_UE_LATEST_INFO_INFO : lowEnd ≤ MEM.UE_LATEST_INFO.INFO.base := by decide
@[simp] theorem low_MEM_UE_LATEST_TIME : lowEnd ≤ MEM.UE_LATEST_TIME.base := by decide
@[simp] theorem low_MF_VIB_CFG_PAIR : lowEnd ≤ MF.VIB_CFG.PAIR.base := by decide
@[simp] theorem low_PWR_RST_CMD_SYS : lowEnd ≤ PWR.RST_CMD.SYS.base := by decide
@[simp] theorem low_PWR_STATE_STATE : lowEnd ≤ PWR.STATE.STATE.base := by decide
@[simp] theorem low_Q_BASE : lowEnd ≤ Q.BASE.base := by decide
@[simp] theorem low_Q_CFG_DEPTH : lowEnd ≤ Q.CFG.DEPTH.base := by decide
@[simp] theorem low_Q_CFG_EN : lowEnd ≤ Q.CFG.EN.base := by decide
@[simp] theorem low_Q_CREDITS_CREDITS : lowEnd ≤ Q.CREDITS.CREDITS.base := by decide
@[simp] theorem low_Q_LAST_POST : lowEnd ≤ Q.LAST_POST.base := by decide
@[simp] theorem low_Q_POSTS_SEQ : lowEnd ≤ Q.POSTS.SEQ.base := by decide
@[simp] theorem low_Q_PROD_PROD : lowEnd ≤ Q.PROD.PROD.base := by decide
@[simp] theorem low_Q_RET_RET : lowEnd ≤ Q.RET.RET.base := by decide
@[simp] theorem low_Q_SLOTS_POST_SLOT : lowEnd ≤ Q.SLOTS.POST_SLOT.base := by decide
@[simp] theorem low_Q_SLOTS_TAKE_SLOT : lowEnd ≤ Q.SLOTS.TAKE_SLOT.base := by decide
@[simp] theorem low_Q_STATUS_CFG_ERR : lowEnd ≤ Q.STATUS.CFG_ERR.base := by decide
@[simp] theorem low_Q_STATUS_DISABLED : lowEnd ≤ Q.STATUS.DISABLED.base := by decide
@[simp] theorem low_Q_STATUS_NO_CREDIT : lowEnd ≤ Q.STATUS.NO_CREDIT.base := by decide
@[simp] theorem low_Q_STATUS_UNDERFLOW : lowEnd ≤ Q.STATUS.UNDERFLOW.base := by decide
@[simp] theorem low_Q_TAKE_TAKE : lowEnd ≤ Q.TAKE.TAKE.base := by decide
@[simp] theorem low_REC_EVT_TOTAL : lowEnd ≤ REC.EVT_TOTAL.base := by decide
@[simp] theorem low_REC_QUEUE_VALUE : lowEnd ≤ REC.QUEUE.VALUE.base := by decide
@[simp] theorem low_SCH_CFG_DIR : lowEnd ≤ SCH.CFG.DIR.base := by decide
@[simp] theorem low_SCH_CFG_EN : lowEnd ≤ SCH.CFG.EN.base := by decide
@[simp] theorem low_SCH_CFG_TB : lowEnd ≤ SCH.CFG.TB.base := by decide
@[simp] theorem low_SCH_CFG_TYPE : lowEnd ≤ SCH.CFG.TYPE.base := by decide
@[simp] theorem low_SCH_PRED : lowEnd ≤ SCH.PRED.base := by decide
@[simp] theorem low_SCH_RESID_RESID : lowEnd ≤ SCH.RESID.RESID.base := by decide
@[simp] theorem low_SCH_RESID_LIM_LIM : lowEnd ≤ SCH.RESID_LIM.LIM.base := by decide
@[simp] theorem low_SCH_STATUS_RESID_OVER : lowEnd ≤ SCH.STATUS.RESID_OVER.base := by decide
@[simp] theorem low_SCH_STATUS_STATE : lowEnd ≤ SCH.STATUS.STATE.base := by decide
@[simp] theorem low_SCH_STEP : lowEnd ≤ SCH.STEP.base := by decide
@[simp] theorem low_SCH_TARGET : lowEnd ≤ SCH.TARGET.base := by decide
@[simp] theorem low_SEC_LC_DBG_UNLOCKED : lowEnd ≤ SEC.LC.DBG_UNLOCKED.base := by decide
@[simp] theorem low_SEC_LC_STATE : lowEnd ≤ SEC.LC.STATE.base := by decide
@[simp] theorem State.writeMem_low (s : State) (a : Nat) (l : List Nat) {x : Nat} (h : x < lowEnd) : (s.writeMem a l).reg x = s.reg x := by
  induction l generalizing s a with
  | nil => rfl
  | cons b t ih => rw [State.writeMem]; simp [ih]
@[simp] theorem State.eccOver_low (s : State) (a n : Nat) {x : Nat} (h : x < lowEnd) : (s.eccOver a n).reg x = s.reg x := rfl
@[simp] theorem State.raiseIrq_low (s : State) (l : Nat) {x : Nat} (h : x < lowEnd) : (s.raiseIrq l).reg x = s.reg x := rfl
@[simp] theorem State.emit_low (s : State) (code : Nat) (source : Nat) (payload : (List Nat)) {x : Nat} (h : x < lowEnd) : (State.emit s code source payload).reg x = s.reg x := by
  simp [State.emit, h]
@[simp] theorem State.emitMerge_low (s : State) (code : Nat) (source : Nat) (payload : (List Nat)) {x : Nat} (h : x < lowEnd) : (State.emitMerge s code source payload).reg x = s.reg x := by
  simp [State.emitMerge, h]
@[simp] theorem State.tbNote_low (s : State) (t : Nat) (stamp : Nat) (ang : Int) (spd : Int) (live : Bool) {x : Nat} (h : x < lowEnd) : (State.tbNote s t stamp ang spd live).reg x = s.reg x := by
  simp [State.tbNote, h]
@[simp] theorem State.vioNote_low (s : State) (t : Nat) (h : VioH) {x : Nat} (_ : x < lowEnd) : (s.vioNote t h).reg x = s.reg x := rfl
@[simp] theorem State.logViolation_low (s : State) (m a n type_ : Nat) {x : Nat} (h : x < lowEnd) : (s.logViolation m a n type_).reg x = s.reg x := by
  unfold State.logViolation
  dsimp only
  (repeat' split) <;> simp [h]
@[simp] theorem State.memCe_low (s : State) (a : Nat) {x : Nat} (h : x < lowEnd) : (State.memCe s a).reg x = s.reg x := by
  unfold State.memCe; split <;> simp [h]
@[simp] theorem State.chRetire_low (s : State) (ch : Nat) {x : Nat} (h : x < lowEnd) : (State.chRetire s ch).reg x = s.reg x := by
  simp [State.chRetire, h]
@[simp] theorem State.memUe_low (s : State) (m : Nat) (a : Nat) (src : Nat) {x : Nat} (h : x < lowEnd) : (State.memUe s m a src).reg x = s.reg x := by
  simp [State.memUe, h]
@[simp] theorem State.eccFix_low (s : State) (u : Nat) {x : Nat} (h : x < lowEnd) : (s.eccFix u).reg x = s.reg x := State.memCe_low s u h
@[simp] theorem State.eccFind_low (s : State) (m a src : Nat) (us : List Nat) {x : Nat} (h : x < lowEnd) : (s.eccFind m a src us).1.reg x = s.reg x := by
  have f : ∀ l : List Nat, (s.forEach l State.eccFix).reg x = s.reg x := fun l => State.forEach_reg _ _ _ _ fun s u => State.eccFix_low s u h
  unfold State.eccFind
  dsimp only
  split
  · simp [h, f]
  · exact f _
@[simp] theorem State.memWrite_low (s : State) (m a : Nat) (d : List Nat) {x : Nat} (h : x < lowEnd) : (s.memWrite m a d).1.reg x = s.reg x := by
  unfold State.memWrite
  split <;> (rename_i heq; have hs := congrArg (fun x => x.1) heq; simp only at hs; subst hs; simp [h])
@[simp] theorem State.qCredits_low (s : State) (q : Nat) {x : Nat} (h : x < lowEnd) : (State.qCredits s q).reg x = s.reg x := by
  simp [State.qCredits, h]
@[simp] theorem State.qPosted1_low (s : State) (q : Nat) {x : Nat} (h : x < lowEnd) : (State.qPosted1 s q).reg x = s.reg x := by
  simp [State.qPosted1, h]
@[simp] theorem State.qPutSw_low (s : State) (m : Nat) (q : Nat) {x : Nat} (h : x < lowEnd) : (State.qPutSw s m q).reg x = s.reg x := by
  simp [State.qPutSw, h]
@[simp] theorem State.qTake1_low (s : State) (q : Nat) {x : Nat} (h : x < lowEnd) : (State.qTake1 s q).reg x = s.reg x := by
  simp [State.qTake1, h]
@[simp] theorem State.qRetireN_low (s : State) (q n : Nat) {x : Nat} (h : x < lowEnd) : (s.qRetireN q n).reg x = s.reg x := by
  unfold State.qRetireN
  exact (State.qCredits_low _ _ h).trans (State.reg_incWrap_low _ _ _ _ _ h (by simp))
@[simp] theorem State.qOp_low (s : State) (m : Nat) (q : Nat) (n : Nat) (cmd : Nat) {x : Nat} (h : x < lowEnd) : (State.qOp s m q n cmd).reg x = s.reg x := by
  simp [State.qOp, h]
theorem low_addr (f : RF) (i : Nat) (h : lowEnd + 4 ≤ f.base) : lowEnd + 4 ≤ f.addr i := by unfold RF.addr; omega
@[simp] theorem State.fxQCfg_low (s : State) (q v : Nat) {x : Nat} (h : x < lowEnd) : (s.fxQCfg q v).1.reg x = s.reg x := by
  unfold State.fxQCfg
  have k : lowEnd ≤ Q.CFG.EN.addr q := by have := low_addr Q.CFG.EN q (by decide); omega
  dsimp only
  (repeat' split) <;> simp [h, k]
@[simp] theorem State.fxQBaseHi_low (s : State) (q v : Nat) {x : Nat} (h : x < lowEnd) : (s.fxQBaseHi q v).1.reg x = s.reg x := by
  unfold State.fxQBaseHi
  have k : lowEnd + 4 ≤ Q.BASE.addr q + 4 := by have := low_addr Q.BASE q (by decide); omega
  (repeat' split) <;> simp [h, k]
@[simp] theorem State.fxQOp_low (s : State) (m : Nat) (q : Nat) (v : Nat) {x : Nat} (h : x < lowEnd) : (State.fxQOp s m q v).1.reg x = s.reg x := by
  simp [State.fxQOp, h]
theorem State.fxAtWin_low (s : State) (t a v : Nat) {x : Nat} (h : x < lowEnd) (ha : lowEnd ≤ a) : (s.fxAtWin t a v).1.reg x = s.reg x := by
  unfold State.fxAtWin
  split
  · rfl
  · exact State.writeFields_low _ _ _ h ha
@[simp] theorem State.post_low (s : State) (m a v : Nat) {x : Nat} (h : x < lowEnd) : (s.post m a v).reg x = s.reg x := rfl
@[simp] theorem State.regWrite_low (s : State) (m a v : Nat) {x : Nat} (h : x < lowEnd) : (s.regWrite m a v).1.reg x = s.reg x := by
  unfold State.regWrite
  split
  · rename_i hq
    have k : lowEnd + 4 ≤ a := by unfold lowEnd; omega
    dsimp only
    split <;> simp [h, k]
  · split
    · simp [h]
    · split
      · rename_i hq
        have k : lowEnd + 4 ≤ a := by unfold lowEnd; omega
        dsimp only
        split
        · exact State.fxAtWin_low _ _ _ _ h (by omega)
        · simp [h, k]
      · simp [h]
@[simp] theorem State.writePiece_low (s : State) (m a : Nat) (d : List Nat) {x : Nat} (h : x < lowEnd) : (s.writePiece m a d).1.reg x = s.reg x := by
  unfold State.writePiece
  split
  · simp [h]
  · split
    · simp [h]
    · simp [h]
@[simp] theorem State.writePieces_low (s : State) (m : Nat) (d : List Nat) (ps : List (Nat × Nat)) {x : Nat} (h : x < lowEnd) :
    (s.writePieces m d ps).1.reg x = s.reg x := by
  induction ps generalizing s d with
  | nil => rfl
  | cons p t ih =>
    have e := State.writePiece_low s m p.1 (d.take p.2) h
    rw [State.writePieces]
    rcases hr : s.writePiece m p.1 (d.take p.2) with ⟨s', r⟩
    rw [hr] at e
    cases r with
    | ok _ => exact (ih _ _).trans e
    | vio => exact e
    | ue _ => exact e
@[simp] theorem State.masterWrite_low (s : State) (m : Nat) (a : Nat) (d : List Nat) {x : Nat} (h : x < lowEnd) : (State.masterWrite s m a d).1.reg x = s.reg x := by
  simp [State.masterWrite, h]
@[simp] theorem State.babShow_low (s : State) (v : Nat) {x : Nat} (h : x < lowEnd) : (State.babShow s v).reg x = s.reg x := by
  simp [State.babShow, h]
@[simp] theorem State.babRestart_low (s : State) (v : Nat) {x : Nat} (h : x < lowEnd) : (State.babRestart s v).reg x = s.reg x := by
  simp [State.babRestart, h]
@[simp] theorem State.babStore_low (s : State) (v : Nat) (p : BabPt) {x : Nat} (h : x < lowEnd) : (State.babStore s v p).reg x = s.reg x := by
  simp [State.babStore, h]
@[simp] theorem State.babResolve_low (s : State) (v : Nat) {x : Nat} (h : x < lowEnd) : (State.babResolve s v).reg x = s.reg x := by
  unfold State.babResolve; dsimp only; (repeat' split) <;> simp [h]
@[simp] theorem State.babInUpdate_low (s : State) (v : Nat) (t : Nat) (s0 : Nat) (a0 : Int) (s1 : Nat) (a1 : Int) (big : Bool) {x : Nat} (h : x < lowEnd) : (State.babInUpdate s v t s0 a0 s1 a1 big).reg x = s.reg x := by
  unfold State.babInUpdate; dsimp only; (repeat' split) <;> simp [h]
@[simp] theorem State.babTbUpdate_low (s : State) (t : Nat) (s0 : Nat) (a0 : Int) (s1 : Nat) (a1 : Int) (big : Bool) {x : Nat} (h : x < lowEnd) : (State.babTbUpdate s t s0 a0 s1 a1 big).reg x = s.reg x := by
  simp [State.babTbUpdate, h]
@[simp] theorem State.babTbLost_low (s : State) (t : Nat) {x : Nat} (h : x < lowEnd) : (State.babTbLost s t).reg x = s.reg x := by
  simp [State.babTbLost, h]
@[simp] theorem State.slotWait_low (s : State) (k : Nat) {x : Nat} (h : x < lowEnd) : (State.slotWait s k).reg x = s.reg x := by
  simp [State.slotWait, h]
@[simp] theorem State.slotArm_low (s : State) (k : Nat) (c : Nat) (late : Bool) {x : Nat} (h : x < lowEnd) : (State.slotArm s k c late).reg x = s.reg x := by
  simp [State.slotArm, h]
@[simp] theorem State.slotIdle_low (s : State) (k : Nat) {x : Nat} (h : x < lowEnd) : (State.slotIdle s k).reg x = s.reg x := by
  simp [State.slotIdle, h]
@[simp] theorem State.slotBacklog_low (s : State) (k : Nat) (c : Nat) (n : Nat) {x : Nat} (h : x < lowEnd) : (State.slotBacklog s k c n).reg x = s.reg x := by
  simp [State.slotBacklog, h]
@[simp] theorem State.slotPredict_low (s : State) (k : Nat) (angle : Int) (stamp : Nat) (c : Nat) (prev : Option Int) {x : Nat} (h : x < lowEnd) : (State.slotPredict s k angle stamp c prev).reg x = s.reg x := by
  unfold State.slotPredict; split <;> simp [h]
@[simp] theorem State.slotTake_low (s : State) (k : Nat) (x_ : Nat) (angle : Int) (stamp : Nat) (c : Nat) (prev : Int) {x : Nat} (h : x < lowEnd) : (State.slotTake s k x_ angle stamp c prev).reg x = s.reg x := by
  simp [State.slotTake, h]
@[simp] theorem State.slotsTbLost_low (s : State) (t : Nat) {x : Nat} (h : x < lowEnd) : (State.slotsTbLost s t).reg x = s.reg x := by
  simp [State.slotsTbLost, h]
@[simp] theorem State.slotsTbUpdate_low (s : State) (t : Nat) (prev : Int) {x : Nat} (h : x < lowEnd) : (s.slotsTbUpdate t prev).reg x = s.reg x := by
  unfold State.slotsTbUpdate
  refine State.forEach_reg _ _ _ _ fun s k => ?_
  dsimp only
  (repeat' split) <;> simp [h]
@[simp] theorem State.slotsResid_low (s : State) (t : Nat) {x : Nat} (h : x < lowEnd) : (s.slotsResid t).reg x = s.reg x := by
  unfold State.slotsResid
  refine State.forEach_reg _ _ _ _ fun s k => ?_
  dsimp only
  (repeat' split) <;> simp [h]

/-- What one timebase update writes: among the registers of the timebases, the angle, the speed, the stamp and the correction's count and flag of that
timebase alone. -/
theorem State.tbWrite_reg (s : State) (t : Nat) (ang spd : Int) (stamp : Nat) (corr : Bool) {x : Nat} (hx : x < lowEnd)
    (h1 : TB.ANGLE.off t 0 x) (h2 : TB.SPEED.SPEED.off t 0 x) (h3 : TB.STAMP.off t 0 x) (h4 : TB.STATUS.CORR_CNT.off t 0 x) :
    (s.tbWrite t ang spd stamp corr).reg x = s.reg x := by
  have h5 : TB.STATUS.CORR_BIG.off t 0 x := ⟨h4.1, fun e => absurd e (by decide)⟩
  have a : ∀ u : State, (u.raise TB.STATUS.CORR_BIG t).reg x = u.reg x := fun u => State.reg_wr_off u _ _ _ _ _ h5
  have b : ∀ u : State, (u.incWrap TB.STATUS.CORR_CNT t).reg x = u.reg x := fun u => State.reg_wr_off u _ _ _ _ _ h4
  have c : ∀ (u : State) (v : Int), (u.wrS TB.ANGLE v t).reg x = u.reg x := fun u v => State.reg_wr_off u _ _ _ _ _ h1
  have d : ∀ (u : State) (v : Int), (u.wrS TB.SPEED.SPEED v t).reg x = u.reg x := fun u v => State.reg_wr_off u _ _ _ _ _ h2
  have e : ∀ (u : State) (v : Nat), (u.wr TB.STAMP v t).reg x = u.reg x := fun u v => State.reg_wr_off u _ _ _ _ _ h3
  simp [State.tbWrite, hx, a, b, c, d, e]
/-- An update writes no state of any timebase. -/
@[simp] theorem State.tbWrite_state (s : State) (t : Nat) (ang spd : Int) (stamp : Nat) (corr : Bool) (k : Nat) (hk : k < 64) :
    (s.tbWrite t ang spd stamp corr).rd TB.STATUS.STATE k = s.rd TB.STATUS.STATE k := by
  have lo : TB.STATUS.STATE.addr k < lowEnd := by simp [RF.addr, TB.STATUS.STATE, lowEnd]; omega
  have a : ∀ u : State, (u.raise TB.STATUS.CORR_BIG t).rd TB.STATUS.STATE k = u.rd TB.STATUS.STATE k := fun u => by
    by_cases h : t = k
    · subst h; exact State.rd_wr_beside u _ _ _ _ _ _ _ rfl (by decide) (by decide) (by decide) (by decide)
    · exact State.rd_wr_apart u _ _ _ _ _ _ _ (by simp [RF.apart, RF.off, RF.addr, TB.STATUS.STATE, TB.STATUS.CORR_BIG]; omega)
  have b : ∀ u : State, (u.incWrap TB.STATUS.CORR_CNT t).rd TB.STATUS.STATE k = u.rd TB.STATUS.STATE k := fun u => by
    by_cases h : t = k
    · subst h; exact State.rd_wr_beside u _ _ _ _ _ _ _ rfl (by decide) (by decide) (by decide) (by decide)
    · exact State.rd_wr_apart u _ _ _ _ _ _ _ (by simp [RF.apart, RF.off, RF.addr, TB.STATUS.STATE, TB.STATUS.CORR_CNT]; omega)
  have n : TB.STATUS.STATE.hi ≠ 63 := by decide
  have q : ∀ u v : State, u.reg (TB.STATUS.STATE.addr k) = v.reg (TB.STATUS.STATE.addr k) → u.rd TB.STATUS.STATE k = v.rd TB.STATUS.STATE k :=
    fun u v h => State.rd_congr _ _ _ h fun e => absurd e n
  have c : ∀ (u : State) (v w : Int) (p : Nat), (((u.wrS TB.ANGLE v t).wrS TB.SPEED.SPEED w t).wr TB.STAMP p t).rd TB.STATUS.STATE k =
      u.rd TB.STATUS.STATE k := fun u v w p => by
    unfold State.wrS
    rw [State.rd_wr_apart, State.rd_wr_apart, State.rd_wr_apart] <;>
      (simp [RF.apart, RF.off, RF.addr, TB.STATUS.STATE, TB.STAMP, TB.SPEED.SPEED, TB.ANGLE]; omega)
  have m : ∀ (u : State) (t p : Nat) (a v : Int) (l : Bool), (u.tbNote t p a v l).rd TB.STATUS.STATE k = u.rd TB.STATUS.STATE k := fun _ _ _ _ _ _ => rfl
  have r : ∀ (u : State) (code src : Nat) (p : List Nat), (u.emit code src p).rd TB.STATUS.STATE k = u.rd TB.STATUS.STATE k := fun u _ _ _ =>
    q _ _ (State.emit_low _ _ _ _ lo)
  have w : ∀ (c : Bool) (u : State) (s0 : Nat) (a0 : Int) (s1 : Nat) (a1 : Int) (b : Bool),
      (if c = true then u.babTbUpdate t s0 a0 s1 a1 b else u).rd TB.STATUS.STATE k = u.rd TB.STATUS.STATE k := fun c u s0 a0 s1 a1 b => by
    split
    · exact q _ _ (State.babTbUpdate_low _ _ _ _ _ _ _ lo)
    · rfl
  unfold State.tbWrite
  dsimp only
  rw [w, q _ _ (State.slotsTbUpdate_low _ _ _ lo), q _ _ (State.slotsResid_low _ _ lo), m, c]
  split <;> (try rw [r, a]) <;> split <;> first | rfl | rw [b]

end Sys2Proof.Machine
end

