-- ==== Sys2Proof/Laws/Mem.lean ====
section
/-!
SUPPORT. Reading strings of bytes: two strings end to end, a string that no entry of memory lies in, and a master's read of blocks of memory.
-/
namespace Sys2Proof.Machine

/-- A string of bytes read in two parts. -/
theorem State.readMem_append (s : State) (a m n : Nat) : s.readMem a (m + n) = s.readMem a m ++ s.readMem (a + m) n := by
  induction m generalizing a with
  | zero => simp [State.readMem]
  | succ m ih =>
    have e : m + 1 + n = (m + n) + 1 := by omega
    have f : a + (m + 1) = a + 1 + m := by omega
    rw [e, f]
    simp [State.readMem, ih]
/-- A string beyond every entry of memory reads as unlisted bytes. -/
theorem State.readMem_far (s : State) (a n : Nat) (h : (s.mem.all fun e => decide (e.1 < a)) = true) : s.readMem a n = List.replicate n 0 := by
  have g : ∀ (m : List Host.Cell) (k : Nat), a ≤ k → (m.all fun e => decide (e.1 < a)) = true → Tab.get memDefault m k = memDefault := by
    intro m k hk hm
    induction m with
    | nil => rfl
    | cons e t ih =>
      obtain ⟨x, y⟩ := e
      simp at hm
      have : k ≠ x := by omega
      simp only [Tab.get, if_neg this]
      exact ih (by simpa using hm.2)
  have r : ∀ n k, a ≤ k → s.readMem k n = List.replicate n 0 := by
    intro n
    induction n with
    | zero => intro k _; rfl
    | succ n ih =>
      intro k hk
      rw [State.readMem, ih (k + 1) (by omega), State.byte, g s.mem k hk h]
      rfl
  exact r n a (Nat.le_refl a)
/-- A code word holds no error. -/
def State.eccClean (s : State) (a n : Nat) : Bool := (eccWords a n).all fun u => s.eccSyms u == []
/-- Reading code words without an error finds none and changes nothing. -/
theorem State.eccFind_clean (s : State) (m a src b n : Nat) (h : s.eccClean b n = true) : s.eccFind m a src (eccWords b n) = (s, none) := by
  have k : ∀ u ∈ eccWords b n, s.eccSyms u = [] := by simpa [State.eccClean] using h
  have e : (eccWords b n).find? s.isUe = none := by
    rw [List.find?_eq_none]
    intro u hu
    simp [State.isUe, k u hu]
  have f : ((eccWords b n).takeWhile fun u => !(s.isUe u)).filter s.isCe = [] := by
    rw [List.filter_eq_nil_iff]
    intro u hu
    simp [State.isCe, k u (List.takeWhile_sublist _ |>.subset hu)]
  unfold State.eccFind
  rw [e, f]
  rfl
/-- Reading pieces that are all permitted, in memory and without an error gives their bytes. -/
theorem State.readPieces_mem (s : State) (m : Nat) (l : List (Nat × Nat)) (acc : List Nat)
    (h : (l.all fun p => (s.checkAccess m p.1 p.2 false false == none) && !(isRegSpace p.1) && s.eccClean p.1 p.2) = true) :
    s.readPieces m acc l = (s, .ok (acc ++ l.flatMap fun p => s.readMem p.1 p.2)) := by
  induction l generalizing acc with
  | nil => simp [State.readPieces]
  | cons p t ih =>
    simp only [List.all_cons, Bool.and_eq_true, beq_iff_eq, Bool.not_eq_true'] at h
    have e : s.readPiece m p.1 p.2 = (s, .ok (s.readMem p.1 p.2)) := by
      unfold State.readPiece
      rw [h.1.1.1]
      simp only [h.1.1.2, s.eccFind_clean m p.1 ueRead p.1 p.2 h.1.2, Bool.false_eq_true, if_false]
    rw [State.readPieces, e]
    simp only
    rw [ih _ h.2]
    simp [List.append_assoc]
/-- Pieces that follow one another from address `a`. -/
def chained : Nat → List (Nat × Nat) → Bool
  | _, [] => true
  | a, p :: t => p.1 == a && chained (a + p.2) t
/-- The bytes of pieces that follow one another are one string. -/
theorem State.readMem_chained (s : State) (a : Nat) (l : List (Nat × Nat)) (h : chained a l = true) :
    (l.flatMap fun p => s.readMem p.1 p.2) = s.readMem a (l.map (·.2)).sum := by
  induction l generalizing a with
  | nil => rfl
  | cons p t ih =>
    simp only [chained, Bool.and_eq_true, beq_iff_eq] at h
    rw [List.flatMap_cons, ih _ h.2, List.map_cons, List.sum_cons, State.readMem_append, h.1]
/-- A master's read of a string of memory that it may read and that holds no error. -/
theorem State.masterRead_mem (s : State) (m a n : Nat)
    (h : ((pieces a n).all fun p => (s.checkAccess m p.1 p.2 false false == none) && !(isRegSpace p.1) && s.eccClean p.1 p.2) = true)
    (c : chained a (pieces a n) = true) (e : ((pieces a n).map (·.2)).sum = n) : s.masterRead m a n = (s, .ok (s.readMem a n)) := by
  unfold State.masterRead
  rw [State.readPieces_mem _ _ _ _ h, List.nil_append, State.readMem_chained _ _ _ c, e]

end Sys2Proof.Machine
end

