-- ==== Sys2Proof/WellFormed.lean ====
section
/-!
DEFINITION. Which operands a command can carry: the operands whose type in Syntax.lean is wider than the hardware's field. Addresses have 38
bits (R279), stamps are DEVICE TIME (R35), samples have their converter's width (R79), bytes are below 256. exec takes any operands; a sender sends
only well-formed commands.
-/
namespace Sys2Proof

/-- A number of `w` bits. -/
def isU (w n : Nat) : Bool := decide (n < 2 ^ w)
/-- A two's complement number of `w` bits. -/
def isS (w : Nat) (x : Int) : Bool := decide (-(2 ^ (w - 1) : Int) ≤ x ∧ x < 2 ^ (w - 1))
/-- A physical address (R279). -/
def isAddr (a : Nat) : Bool := isU 38 a
/-- A stamp of DEVICE TIME (R28, R35). -/
def isStamp (t : Nat) : Bool := isU 64 t
/-- At most `n` bytes. -/
def isBytes (n : Nat) (l : List Nat) : Bool := decide (l.length ≤ n) && l.all fun b => decide (b < 256)
/-- At most four numbers of 32 bits, one for each dimension of a tensor (R204). -/
def isDims (l : List Nat) : Bool := decide (l.length ≤ 4) && l.all fun d => decide (d < 2 ^ 32)
/-- The values read by the replicas of the 48 axes. -/
def isFindings (l : List Int) : Bool := decide (l.length ≤ 48) && l.all (isS 16)

/-- Bits of memory that have turned over: an address in their code word, and their number in it (R282, R287). -/
def isErrs (l : List (Nat × Nat)) : Bool := l.all fun x => isAddr x.1 && decide (x.2 < 544)

/-- The operands lie in the range of the hardware's fields. -/
def Instr.wellFormed : Instr → Bool
  | .registerWrite _ a _ | .readLoLatch _ a | .readHi _ a | .writeHi _ a _ => isAddr a
  | .time _ t1 t2 t3 t4 d nb _ => isStamp t1 && isStamp t2 && isStamp t3 && isStamp t4 && isU 32 d && isS 32 nb
  | .tachPulse _ l | .lsyncEdge l | .safeInputChange _ _ l => isStamp l.since
  | .stoReadbackMismatch _ r => isStamp r.since
  | .clock d => isS 32 d.timing && isS 32 d.island
  | .porAssert r => r.all fun x => isU 16 x.mv && isStamp x.ticks
  | .packetDiscarded p => isBytes 2084 p.bytes
  | .ssiFrame _ a t raw _ _ => isStamp a && isStamp t && isU 40 raw
  | .loopStep _ a b k => isS 16 a && isS 16 b && isS 16 k
  | .dcbSampleDelivered _ t _ => isStamp t
  | .vibSample _ t raw => isStamp t && isS 24 raw
  | .hkConversionDone _ raw => isS 16 raw
  | .calComplete r l => isU 16 r.bandgap && r.buffers.all (isU 16) && l.all fun f => isU 8 f.1 && isS 32 f.2.1 && isS 32 f.2.2
  | .crossingQualified _ _ _ t | .lwClose _ t => isStamp t
  | .pvComparatorChange _ _ v | .pvDacSettled _ _ v => isS 24 v.a && isS 24 v.b && isS 24 v.c
  | .ovComparator _ u => isU 24 u
  | .chfbChange _ v => isU 24 v.uv && isStamp v.since
  | .tripQualified _ o d => isStamp o.since && isStamp d.since
  | .tripAssertionBlanked p => isStamp p.from_ && isStamp p.to_
  | .conv1d _ _ a b p | .conv2d _ _ a b p | .dwconv _ _ a b p => isU 8 a && isU 8 b && isU 8 p
  | .reduceSumU _ _ _ l | .scatterAddU _ _ _ l => l.all (isU 32)
  | .transpose _ _ l => isDims l && l.all fun d => decide (d < 4)
  | .slice _ _ a b => isDims a && isDims b
  | .pad _ _ l v => isDims l && isU 32 v
  | .dma _ _ _ _ a b n => isAddr a && isAddr b && isU 32 n
  | .linkCopy _ f t _ p u d => isU 32 f && isStamp t && isU 64 p && isBytes 20 u && isBytes (2 ^ 32) d
  | .compare _ _ _ f d => isU 32 f && isBytes 32 d
  | .twinCopyTimeout _ f t => isU 32 f && isStamp t.trig && isStamp t.post
  | .memoryAccess _ a n _ d e => isAddr a && isU 32 n && isBytes (2 ^ 32) d && isErrs e
  | .patrolScrub a e => isAddr a && isErrs e
  | .powerTransitionDone a b _ l _ =>
    isFindings a && isFindings b && l.all fun x => isU 20 x.time && isU 32 x.other && x.defects.all fun d => isU 16 d.inst && isU 32 d.addr
  | .shadow _ t a b c d _ => isStamp t && isS 16 a && isS 16 b && isS 32 c && isS 32 d
  | .delayMonitorMeasure l => decide (l.length ≤ 128) && l.all (isS 16)
  | .replan a b _ | .ageReplan _ _ a b _ => isFindings a && isFindings b
  | .enumeration a b _ | .enumTimeout a b _ => isU 4 a && isU 4 b
  | .ringJoin _ _ x _ _ _ => isS 64 x
  | .write _ a d => isAddr a && isBytes 2048 d
  | .read _ a n e => isAddr a && decide (n ≤ 2048) && isErrs e
  | .completion _ _ d | .pcieCompletion _ d => isBytes 4096 d
  | .linkPost _ _ d => isBytes 64 d
  | .ethReceive _ _ t d => isStamp t && isBytes 9216 d
  | .pcieInbound x n _ d _ e => isAddr x && isU 13 n && isBytes 4096 d && isErrs e
  | .serviceTransfer o i => isBytes 64 o && isBytes 64 i
  | .thermalSample t _ => isS 16 t
  | .gptpOfsUpdate x => isS 64 x
  | .linkAck _ _ q => isU 32 q
  | _ => true

end Sys2Proof
end

