-- ==== Sys2Proof/Tests/Slice0.lean ====
section
/-!
SUPPORT. Tests: ill-formed commands that WellFormed refuses, small steps with values of the spec, and for every obligation with hypotheses states and
operands that meet them.
-/
set_option linter.all false
set_option maxRecDepth 100000
set_option Elab.async false
namespace Sys2Proof
open Sys2Proof.Machine Sys2Proof.Safety

/-- A network image of 100 bytes in axis-fabric memory (R168): one input, a layer of one weight and two zeros, and its SHA3-256 digest. -/
def obsImage : List Host.Cell :=
  [(0, 1), (5, 1), (6, 1), (7, 3), (8, 100), (14, 1), (20, 7), (32, 205), (33, 200), (34, 246), (35, 216), (36, 116), (37, 26), (38, 70),
   (39, 2), (40, 240), (41, 82), (42, 249), (43, 88), (44, 101), (45, 59), (46, 116), (47, 154), (48, 224), (49, 156), (50, 86), (51, 37),
   (52, 208), (53, 104), (54, 102), (55, 136), (56, 34), (57, 223), (58, 25), (59, 249), (60, 247), (61, 218), (62, 151), (63, 22), (68, 1),
   (69, 3), (76, 84), (80, 88), (84, 1)].map fun (e : Nat × Byte) => (axfBase + e.1, e.2)
/-- A program of one operation that is done (R203), and a frame of it. -/
def oneOp : Prog := { partSize := 1, maxTile := 1, budget := [1000], ops := [{ opcode := 0x65, nTiles := 1 }], tensors := [{}] }
def oneFrame : Frame := { num := 1, clks := List.replicate 8 0 }
/-- A program whose second operation has the given code and inputs, with three 1 × 1 scratch tensors (S8, S8, S32), and a state whose frame is at it. -/
def dataOp (code : Nat) : OpDef := { opcode := code, ins := [0, 1], outs := [2] }
def dataProg (code : Nat) (ins : List Nat := [0, 1]) : Prog :=
  { tensors := [{ fmt := 1, rank := 2, kind := 2, dims := [1, 1] }, { fmt := 1, rank := 2, kind := 2, dims := [1, 1], addr := 8 },
      { fmt := 3, rank := 2, kind := 2, dims := [1, 1], addr := 16 }],
    ops := [{ opcode := 0x65 }, { dataOp code with ins := ins }] }
def dataState (code : Nat) (ins : List Nat := [0, 1]) : State :=
  { State.reset with
      ctxs := [(1, { prog := some (dataProg code ins), frame := some oneFrame, places := [⟨0, scrBase 0, scrBase 0, 0, scrBase 0, 64⟩] })] }
/-- A firmware image at address 0 (R293): 64 bytes of code, all 0, with their SHA3-256 digest, and no valid signature. -/
def fwImage : List Host.Cell := [(0, 83), (1, 70), (2, 68), (3, 78), (4, 1), (16, 8), (17, 72), (20, 64), (21, 10), (24, 64), (36, 1), (40, 1), (64, 7), (65, 15), (66, 161), (67, 171), (68, 111), (69, 204), (70, 85), (71, 126), (72, 209), (73, 77), (74, 66), (75, 148), (76, 31), (77, 25), (78, 103), (79, 105), (80, 48), (81, 72), (82, 85), (83, 30), (84, 185), (85, 4), (86, 42), (87, 141), (88, 10), (89, 5), (90, 122), (91, 251), (92, 215), (93, 94), (94, 129), (95, 224)]
/-- A loader image in slot A of the boot device (R372): 64 bytes of body, all 0, with their SHA3-256 digest, and no valid signature. -/
def ldrImage : List Host.Cell := [(0, 68), (1, 76), (2, 68), (3, 78), (4, 1), (8, 8), (9, 72), (12, 64), (32, 7), (33, 15), (34, 161), (35, 171), (36, 111), (37, 204), (38, 85), (39, 126), (40, 209), (41, 77), (42, 66), (43, 148), (44, 31), (45, 25), (46, 103), (47, 105), (48, 48), (49, 72), (50, 85), (51, 30), (52, 185), (53, 4), (54, 42), (55, 141), (56, 10), (57, 5), (58, 122), (59, 251), (60, 215), (61, 94), (62, 129), (63, 224)].map fun (e : Nat × Byte) => (0x3000000000 + e.1, e.2)
/-- The first 96 bytes of `fwImage`, and of the 64 of `ldrImage`. -/
def fwHead : List Nat :=
  [83, 70, 68, 78, 1, 0, 0, 0, 0, 0, 0, 0, 0, 0, 0, 0, 8, 72, 0, 0, 64, 10, 0, 0, 64, 0, 0, 0, 0, 0, 0, 0, 0, 0, 0, 0, 1, 0, 0, 0, 1, 0, 0, 0,
   0, 0, 0, 0, 0, 0, 0, 0, 0, 0, 0, 0, 0, 0, 0, 0, 0, 0, 0, 0, 7, 15, 161, 171, 111, 204, 85, 126, 209, 77, 66, 148, 31, 25, 103, 105, 48,
   72, 85, 30, 185, 4, 42, 141, 10, 5, 122, 251, 215, 94, 129, 224]
def ldrHead : List Nat :=
  [68, 76, 68, 78, 1, 0, 0, 0, 8, 72, 0, 0, 64, 0, 0, 0, 0, 0, 0, 0, 0, 0, 0, 0, 0, 0, 0, 0, 0, 0, 0, 0, 7, 15, 161, 171, 111, 204, 85, 126,
   209, 77, 66, 148, 31, 25, 103, 105, 48, 72, 85, 30, 185, 4, 42, 141, 10, 5, 122, 251, 215, 94, 129, 224]
/-- A download of `fwImage` is in progress. -/
def fwState : State := { State.reset with mem := fwImage }.wr SUP.FW_STATUS.STATE 1
/-- The boot ROM is about to judge `ldrImage`, in open boot. -/
def ldrState : State := ({ State.reset with mem := ldrImage }.raise PWR.START_STATUS.SELF_OK).wr SEC.LC.STATE 0
/-- A debug response whose key is 1312 zeros is about to be verified, and its key's slot. -/
def dbgBlock : List Nat := 16 :: List.replicate 3735 0
def dbgState : State :=
  (({ State.reset with mem := [(0, 16)], sec := { State.reset.sec with dbg := [([], 0)], present := 1, hashes := [(0, sha3 (slice dbgBlock 4 1312))] } }.wr
    SEC.LC.STATE 1).wr SEC.DBG_ADDR 0)

/-! ### WellFormed refuses -/

theorem test_wf_ok : Instr.wellFormed (.registerWrite 0 (2 ^ 38 - 1) 0) = true := by decide
theorem test_wf_address : Instr.wellFormed (.registerWrite 0 (2 ^ 38) 0) = false ∧ Instr.wellFormed (.patrolScrub (2 ^ 38) []) = false := by decide
theorem test_wf_time : Instr.wellFormed (.time 0 (2 ^ 64) 0 0 0 0 0 false) = false ∧ Instr.wellFormed (.time 0 0 0 0 0 (2 ^ 32) 0 false) = false ∧
    Instr.wellFormed (.time 0 0 0 0 0 0 (2 ^ 31) false) = false := by decide
theorem test_wf_stamp : Instr.wellFormed (.tachPulse 0 { level := true, since := 2 ^ 64 }) = false ∧ Instr.wellFormed (.ssiFrame 0 0 0 (2 ^ 40) false false) = false ∧
    Instr.wellFormed (.dcbSampleDelivered 0 (2 ^ 64) 0) = false ∧ Instr.wellFormed (.crossingQualified 0 0 true (2 ^ 64)) = false := by decide
theorem test_wf_samples : Instr.wellFormed (.loopStep 0 0 0 32768) = false ∧ Instr.wellFormed (.vibSample 0 0 (2 ^ 23)) = false ∧
    Instr.wellFormed (.hkConversionDone 0 (-32769)) = false ∧ Instr.wellFormed (.calComplete { buffers := [], bandgap := 0 } [(256, 0, 0)]) = false ∧
    Instr.wellFormed (.calComplete { buffers := [2 ^ 16], bandgap := 0 } []) = false := by decide
theorem test_wf_operations : Instr.wellFormed (.conv1d 0 0 256 1 0) = false ∧ Instr.wellFormed (.reduceSumU 0 0 0 [2 ^ 32]) = false ∧
    Instr.wellFormed (.transpose 0 0 [4]) = false ∧ Instr.wellFormed (.slice 0 0 [0, 0, 0, 0, 0] []) = false ∧
    Instr.wellFormed (.pad 0 0 [] (2 ^ 32)) = false ∧ Instr.wellFormed (.dma 0 0 0 0 (2 ^ 38) 0 0) = false := by decide
theorem test_wf_pair : Instr.wellFormed (.linkCopy 0 (2 ^ 32) 0 0 0 [] []) = false ∧ Instr.wellFormed (.compare 0 0 0 0 [256]) = false ∧
    Instr.wellFormed (.twinCopyTimeout 0 (2 ^ 32) { trig := 0, post := 0 }) = false ∧ Instr.wellFormed (.memoryAccess 0 0 0 true [256] []) = false ∧
    Instr.wellFormed (.memoryAccess 0 0 0 true [] [(0, 544)]) = false ∧
    Instr.wellFormed (.shadow 0 0 32768 0 0 0 0) = false := by decide
theorem test_wf_findings : Instr.wellFormed (.powerTransitionDone [] [] true [{ time := 2 ^ 20 }] []) = false ∧
    Instr.wellFormed (.delayMonitorMeasure [32768]) = false ∧ Instr.wellFormed (.replan [32768] [] true) = false ∧
    Instr.wellFormed (.enumeration 16 0 false) = false ∧ Instr.wellFormed (.ringJoin true 0 (2 ^ 63) 0 0 0) = false := by decide
theorem test_wf_links : Instr.wellFormed (.write 0 0 [256]) = false ∧ Instr.wellFormed (.read 0 0 2049 []) = false ∧
    Instr.wellFormed (.completion 0 0 [256]) = false ∧ Instr.wellFormed (.linkPost 0 0 [256]) = false ∧
    Instr.wellFormed (.ethReceive 0 0 (2 ^ 64) []) = false ∧ Instr.wellFormed (.pcieInbound 0 (2 ^ 13) false [] false []) = false ∧
    Instr.wellFormed (.serviceTransfer [256] []) = false ∧ Instr.wellFormed (.thermalSample 32768 0) = false ∧
    Instr.wellFormed (.gptpOfsUpdate (2 ^ 63)) = false ∧ Instr.wellFormed (.linkAck 0 0 (2 ^ 32)) = false := by decide

/-! ### Small steps -/

/-- Widths of phase B over 50 periods in the example of 03_pwm_generation.md: payouts in periods 25 and 50, 530 steps carried. -/
def payouts : Nat × Int := (List.range 50).foldl (fun a _ => let r := carryStep 640000 15360 15360 625 a.2; (a.1 + r.1, r.2)) (0, 0)
theorem test_pwm_carry : baseOf 0x4000 640000 = 625 ∧ payouts = (30720, 530) := by decide +kernel
theorem test_pwm_edges : baseOf 0x800000 640000 = 320000 ∧ edgesOf 10000 320000 0 = some (160000, 480000) ∧
    edgesOf 10000 15360 (shiftOf 640000 15360 5120 10240) = some (307200, 322560) := by decide +kernel
theorem test_pwm_edges_short : baseOf 0x601234 51200 = 19214 ∧ edgesOf 800 19214 0 = some (15993, 35207) := by decide +kernel
/-- A network of these layer widths (08_neural_observers_and_pewter.md's example: C 28 and C_P 12, C 31 and C_P 13). -/
def shapeNet (l : List Nat) : NetDef := { layers := (l.zip (l.drop 1)).map fun x => { nIn := x.1, nOut := x.2 } }
theorem test_network_cost : (shapeNet [8, 24, 24, 3]).cost = 28 ∧ (shapeNet [8, 24, 24, 3]).pcost = 12 ∧ (shapeNet [12, 32, 20, 2]).cost = 31 ∧
    (shapeNet [12, 32, 20, 2]).pcost = 13 := by decide +kernel
/-- The layout of 11_babbitt_gearbox_and_bearing_analysis.md's example: four inputs, all four products, two defects each. -/
theorem test_babbitt_layout : 64 + up64 (48 * 4) + 4 * ((prodLen 12 9 3).map fun n => up64 (4 * n)).sum + 64 * 8 = 394752 := by decide +kernel
/-- The channel 0 of the example of 10_number_formats_and_quantisation.md: 1.5 and 2.5 tie to even, −64, and a clip at 127. -/
def quantChan : QChan := { o := .zero, inv := .ofInt 64, s := .ofInt 1 }
theorem test_quantiser : (quantElem 1 quantChan (fDiv (.ofInt 3) (.ofInt 128)).v).1 = 2 ∧ (quantElem 1 quantChan (fDiv (.ofInt 5) (.ofInt 128)).v).1 = 2 ∧
    (quantElem 1 quantChan (.ofInt (-1))).1 = 192 ∧ (quantElem 1 quantChan (fDiv (.ofInt 9) (.ofInt 4)).v) = (127, { elems := 1, clips := 1 }, 1, 0) := by
  decide +kernel
/-- A retired channel 9 (13_memory_and_access_protection.md's example): USABLE 0xFDFF and MEM.TOP 0x0E_1000_0000 by the sums of the self-check. -/
theorem test_retired_channel : 65535 - (0 ||| 0x200) = 0xFDFF ∧ (16 - popCount 16 (0 ||| 0x200)) * 0xF0000000 = 0x0E10000000 := by decide +kernel
/-- The example of 17_event_recorder.md: a core's write of an AT window is a violation of TYPE SW_WRITE at target 5. -/
theorem test_core_window_write : State.reset.checkAccess 2 (AT.WIN_BASE.BASE.addr 5 4) 4 true true = some vioSw ∧
    State.reset.checkAccess 8 (AT.WIN_BASE.BASE.addr 5 4) 4 true true = none := by decide +kernel
/-- FIPS 202: SHA3-256 of the empty message begins A7FFC6F8; CRC-32C of "123456789" is E3069283. -/
theorem test_digests : (sha3 []).take 4 = [0xA7, 0xFF, 0xC6, 0xF8] ∧ crc32c [0x31, 0x32, 0x33, 0x34, 0x35, 0x36, 0x37, 0x38, 0x39] = 0xE3069283 := by
  decide +kernel
/-- A write of a reserved encoding of IOS.SSI_CFG0.PARITY keeps the field, and EN beside it takes the value (R11). -/
theorem test_reserved_encoding : ∃ t, exec (.registerWrite 0 0x2000210100 0xD) State.reset = .next t ∧ t.rd IOS.SSI_CFG0.PARITY = 0 ∧
    t.rd IOS.SSI_CFG0.EN = 1 := ⟨_, rfl, by decide +kernel, by decide +kernel⟩
/-- POR has DEVICE TIME stand until it ends. -/
theorem test_por_time : (step { State.reset with pwr := { por := true } } = .next { State.reset with pwr := { por := true } }) := rfl

theorem meets_StepRunsFrontCommand : ∃ (s : State) (c : Instr) (l : List Instr), s.pending = c :: l :=
  ⟨{ State.reset with pending := [.heartbeatLoss] }, .heartbeatLoss, [], rfl⟩
theorem meets_DeviceTimeAcrossResets : State.reset.pwr.por = false ∧ State.reset.pending = [] ∧ ∃ s : State, s.pwr.por = true :=
  ⟨rfl, rfl, { State.reset with pwr := { por := true } }, rfl⟩
theorem meets_MemoryStaysCanonical : ∃ s t : State, Memory.wf s.mem = true ∧ step s = .next t := ⟨State.reset, State.reset.clock, by decide, rfl⟩
theorem meets_TimeAndMemoryKept : ∃ (c : Instr) (s t : State), exec c s = .next t ∧ changesTime c = false ∧ changesMemory c = false :=
  ⟨.heartbeatLoss, State.reset, _, rfl, rfl, rfl⟩
theorem meets_RegistersKept : ∃ (c : Instr) (s t : State) (r : List RF × List RegSet), registersOf c = some r ∧ exec c s = .next t :=
  ⟨.alignTimeout, State.reset, _, _, rfl, rfl⟩
/-- States and operands that meet the hypotheses of each clause of Obligations.RefusedWriteIsLogged. -/
theorem meets_RefusedWriteIsLogged :
(∃ (s : State) (m : Fin 64) (a : Nat) (v : Word) (ty : Nat),
    let k : Nat := nearestTarget a;
    s.checkAccess m a 4 true (swOf a v.toNat) = some ty) ∧
(∃ (s : State) (m : Fin 64) (a : Nat) (v : Word) (ty : Nat),
    let k : Nat := nearestTarget a;
    s.checkAccess m a 4 true (swOf a v.toNat) = some ty ∧ (s.vioNow k).hi ≤ m) ∧
(∃ (s : State) (m : Fin 64) (a : Nat) (v : Word) (ty : Nat),
    let k : Nat := nearestTarget a;
    s.checkAccess m a 4 true (swOf a v.toNat) = some ty ∧ m < (s.vioNow k).hi) ∧
(∃ (s : State) (m : Fin 64) (a : Nat) (v : Word) (ty : Nat),
    let k : Nat := nearestTarget a;
    s.checkAccess m a 4 true (swOf a v.toNat) = some ty ∧ (s.flag AT.VIO_STATUS.FIRST_VALID k = false ∨ ∃ x, (s.vioNow k).first = some x ∧ m < x)) ∧
(∃ (s : State) (m : Fin 64) (a : Nat) (v : Word) (ty : Nat),
    let k : Nat := nearestTarget a;
    s.checkAccess m a 4 true (swOf a v.toNat) = some ty ∧ s.flag AT.VIO_STATUS.FIRST_VALID k = true ∧ (s.vioNow k).first = none) :=
  ⟨⟨State.reset, 0, 0x20003F0000, 0, vioUnmapped, by decide +kernel⟩,
   ⟨State.reset, 0, 0x20003F0000, 0, vioUnmapped, by decide +kernel⟩,
   ⟨{ State.reset with vios := (List.range 12).map fun k => (k, { at_ := some State.reset.dtime, hi := 9, first := some 9 }) }, 8, 0x20003F0000, 0, vioUnmapped, by decide +kernel⟩,
   ⟨State.reset, 0, 0x20003F0000, 0, vioUnmapped, by decide +kernel⟩,
   ⟨(List.range 12).foldl (fun y k => y.raise AT.VIO_STATUS.FIRST_VALID k) State.reset, 0, 0x20003F0000, 0, vioUnmapped, by decide +kernel⟩⟩
theorem meets_RegisterRowsAgree : ∃ p : (Fin 64 → Word → Instr) × Nat, p ∈ ([(.dtRateWrite, DT.RATE.RATE.base)] : List ((Fin 64 → Word → Instr) × Nat)) :=
  ⟨_, List.mem_singleton_self _⟩
theorem meets_ReservedEncodingsKeepTheField : ∃ (s : State) (m : Fin 64) (a : Nat) (v : Word) (r : RegSpec) (i j : Nat),
    MayWrite s m a (swOf a v.toNat) ∧ Plain m a v.toNat ∧ findReg a = some (r, i, j) ∧ r.kind = .w32 ∧ s.locked r i = false ∧
    ∃ f ∈ r.fields, f.acc = .rw ∧ f.reserved (bits v.toNat f.hi f.lo) = true :=
  ⟨State.reset, 0, 0x2000210100, 0xC, ⟨0x2000210100, 8, 0x20, 1, 0, .w32, .system, false, none, [⟨0, 0, .rw, 0, []⟩, ⟨1, 1, .rw, 1, []⟩,
    ⟨3, 2, .rw, 0, [(3, 3)]⟩, ⟨9, 4, .rw, 0x19, [(0, 7), (0x29, 0x3F)]⟩, ⟨15, 10, .rw, 0xD, [(0, 7), (0x21, 0x3F)]⟩, ⟨23, 16, .rw, 0x14, []⟩]⟩, 0, 0,
    by decide +kernel, by decide +kernel, by decide +kernel, rfl, by decide +kernel, ⟨3, 2, .rw, 0, [(3, 3)]⟩, by decide, rfl, by decide⟩
/-- States and operands that meet the hypotheses of each clause of Obligations.SafetyTimesAreChecked. -/
theorem meets_SafetyTimesAreChecked :
(∃ (s : State) (m : Fin 64) (v : Word), MayWrite s m SAF.CFG.FTTI.base true ∧ s.flag SAF.CTRL.LOCK = false ∧ (2 ≤ bits v.toNat 3 0 ∧ bits v.toNat 3
    0 ≤ 10) ∧ (5 ≤ bits v.toNat 11 4 ∧ bits v.toNat 11 4 ≤ 50 ∧ bits v.toNat 11 4 * 50 * 4 ≤ bits v.toNat 3 0 * 1000)) ∧
(∃ (s : State) (m : Fin 64) (v : Word), MayWrite s m SAF.CFG.FTTI.base true ∧ (2 ≤ bits v.toNat 3 0 ∧ bits v.toNat 3 0 ≤ 10) ∧ (¬(5 ≤ bits v.toNat
    11 4 ∧ bits v.toNat 11 4 ≤ 50 ∧ bits v.toNat 11 4 * 50 * 4 ≤ bits v.toNat 3 0 * 1000))) :=
  ⟨⟨State.reset.clear SAF.CTRL.LOCK, 8, 0x0A2, by decide +kernel⟩,
   ⟨State.reset, 8, 0x0B2, by decide +kernel⟩⟩
/-- States and operands that meet the hypotheses of each clause of Obligations.FullRecordOpensAnother. -/
theorem meets_FullRecordOpensAnother :
∃ (s : State) (e : RecEvent) (l : List RecEvent) (q : Nat), s.recd.queue = e :: l ∧ s.recd.lastTake = none ∧ s.findCand e = some q ∧ (s.getRecord
    q).rep = 65535 ∧ q % 8192 ≠ s.recd.nextSeq % 8192 ∧ q ≠ s.recd.nextSeq :=
  ⟨{ State.reset with recd := { State.reset.recd with queue := [{ code := 1, source := 0, stamp := 77, payload := [], merge := true, arrived := 0 }], cands := [4], nextSeq := 5, ring := [(4, { code := 1, rep := 65535 })] } }, { code := 1, source := 0, stamp := 77, payload := [], merge := true, arrived := 0 }, [], 4, by decide +kernel⟩
/-- States and operands that meet the hypotheses of each clause of Obligations.TestDeadlineFailsTheUnit. -/
theorem meets_TestDeadlineFailsTheUnit :
∃ (s : State) (u : Fin 24), s.flag SAF.STATUS.STATE = true ∧ s.rd PWR.STATE.STATE = 0 ∧ s.unitUsable u = true ∧ max (s.tst u).last s.saf.runAt +
    (s.rd SAF.CFG.FTTI * 320000 - 160000) < s.dtime :=
  ⟨(({ State.reset with dtime := 10 ^ 12 }.raise SAF.STATUS.STATE).wr PWR.STATE.STATE 0).wrBit INF.ENG_STATUS.USABLE 7 true, 23, by decide +kernel⟩
/-- States and operands that meet the hypotheses of each clause of Obligations.ReadsReturnAndLatch. -/
theorem meets_ReadsReturnAndLatch :
(∃ (s : State) (m : Fin 64) (a : Nat) (r : RegSpec) (i j : Nat), MayRead s m a ∧ groupOf a = [] ∧ Tab.get none s.glatches (latchKey m a) = none ∧
    findReg a = some (r, i, j) ∧ r.kind = .lo) ∧
(∃ (s : State) (m : Fin 64) (a : Nat) (r : RegSpec) (i j v : Nat), MayRead s m a ∧ groupOf a = [] ∧ Tab.get none s.glatches (latchKey m a) = none ∧
    findReg a = some (r, i, j) ∧ r.kind = .hi ∧ Tab.get none s.latches (latchKey m a) = some v) ∧
(∃ (s : State) (m : Fin 64) (a : Nat) (r : RegSpec) (i j : Nat), MayRead s m a ∧ groupOf a = [] ∧ Tab.get none s.glatches (latchKey m a) = none ∧
    findReg a = some (r, i, j) ∧ r.kind = .hi ∧ Tab.get none s.latches (latchKey m a) = none) ∧
(∃ (s : State) (m : Fin 64) (t : Fin 64), MayRead s m (TB.ANGLE.addr t)) ∧
(∃ (s : State) (m : Fin 64) (n : Fin 48), MayRead s m (AX.PWM_ACT_PERIOD.TOP.addr n)) ∧
(∃ (s : State) (m : Fin 64) (n : Fin 48), MayRead s m (AX.OBS_EST_THETA.THETA.addr n)) :=
  ⟨⟨State.reset, 0, 0x2000040000, ⟨0x2000040000, 1, 0, 1, 0, .lo, .por, false, some (0x2000040008, 0, 0), [⟨31, 0, .ro, 0, []⟩]⟩, 0, 0, by decide +kernel⟩,
   ⟨State.reset.setLatch 0 0x2000040004 77, 0, 0x2000040004, ⟨0x2000040004, 1, 0, 1, 0, .hi, .por, false, some (0x2000040008, 0, 0), [⟨31, 0, .ro, 0, []⟩]⟩, 0, 0, 77, by decide +kernel⟩,
   ⟨State.reset, 63, 0x2000040004, ⟨0x2000040004, 1, 0, 1, 0, .hi, .por, false, some (0x2000040008, 0, 0), [⟨31, 0, .ro, 0, []⟩]⟩, 0, 0, by decide +kernel⟩,
   ⟨State.reset, 0, 63, by decide +kernel⟩,
   ⟨State.reset, 0, 47, by decide +kernel⟩,
   ⟨State.reset, 0, 0, by decide +kernel⟩⟩
/-- States and operands that meet the hypotheses of each clause of Obligations.PlainWritesTakeEffect. -/
theorem meets_PlainWritesTakeEffect :
(∃ (s : State) (m : Fin 64) (a : Nat) (v : Word) (r : RegSpec) (i j : Nat), MayWrite s m a (swOf a v.toNat) ∧ Plain m a v.toNat ∧ findReg a = some
    (r, i, j) ∧ r.kind = .w32 ∧ s.locked r i = false) ∧
(∃ (s : State) (m : Fin 64) (a : Nat) (v : Word) (l r : RegSpec) (i j : Nat), 4 ≤ a ∧ MayWrite s m a (swOf a v.toNat) ∧ Plain m a v.toNat ∧ findReg
    a = some (r, i, j) ∧ findReg (a - 4) = some (l, i, j) ∧ r.kind = .hi ∧ r.lock = none ∧ l.lock = none) :=
  ⟨⟨State.reset, 0, SCH.RESID_LIM.LIM.addr 3, 0x12345678, ⟨0x2000060024, 256, 0x40, 1, 0, .w32, .system, false, none, [⟨30, 0, .rw, 0, []⟩]⟩, 3, 0, by decide +kernel⟩,
   ⟨State.reset.hold (SCH.STEP.addr 3) 5, 0, SCH.STEP.addr 3 + 4, 7, ⟨0x2000060010, 256, 0x40, 1, 0, .lo, .system, false, none, [⟨31, 0, .rw, 0, []⟩]⟩, ⟨0x2000060014, 256, 0x40, 1, 0, .hi, .system, false, none, [⟨31, 0, .rw, 0, []⟩]⟩, 3, 0, by decide +kernel⟩⟩
theorem meets_FieldAccessTypes : ∃ f : FieldSpec, f.hi < 32 ∧ f.lo ≤ f.hi ∧ f.acc = .rw ∧ f.reserved (bits 0xFFFFFFFF f.hi f.lo) = false :=
  ⟨⟨31, 0, .rw, 0, []⟩, by decide⟩
theorem meets_FieldAccessTypes_rsv : ∃ f : FieldSpec, f.hi < 32 ∧ f.lo ≤ f.hi ∧ f.acc = .rw ∧ f.reserved (bits 6 f.hi f.lo) = true :=
  ⟨⟨2, 1, .rw, 0, [(3, 3)]⟩, by decide⟩
theorem meets_FieldAccessTypes_lock : ∃ f : FieldSpec, f.hi < 32 ∧ f.lo ≤ f.hi ∧ f.acc = .rwl ∧ f.reserved (bits 0 f.hi f.lo) = false :=
  ⟨⟨0, 0, .rwl, 0, []⟩, by decide⟩
/-- States and operands that meet the hypotheses of each clause of Obligations.DeviceTimeCommands. -/
theorem meets_DeviceTimeCommands :
(∃ (s : State) (m : Fin 64) (v : Word), MayWrite s m (DT.STEP.base + 4) false ∧ s.stepOk = true) ∧
(∃ (s : State) (m : Fin 64) (v : Word), MayWrite s m (DT.STEP.base + 4) false ∧ s.stepOk = false) ∧
(∃ (s : State) (m : Fin 64) (v : Word), MayWrite s m DT.RATE.RATE.base false ∧ s.rd DT.CTRL.ROLE ≠ 2 ∧ s.flag DT.CTRL.GPTP_FOLLOW = false) ∧
(∃ (s : State) (p : Fin 3) (t1 t2 t3 t4 serdes : Nat) (nb : Int) (peer : Bool),
    let hop : Int := ((256 * ((t2 : Int) - t1) - serdes) - (256 * ((t4 : Int) - t3) - serdes)) / 2;
    s.flag LNK.STATUS.UP p = true ∧ s.rd DT.CTRL.ROLE = 2 ∧ s.flag PWR.START_STATUS.ENUM_DONE = true ∧ (p.val ≠ 2 ∧ p.val = s.timePort ∨ p.val = 2 ∧
    s.pwr.alone = true) ∧ s.timeH.stepped = true ∧ (-2 ^ 31 : Int) ≤ hop + nb ∧ hop + nb < 2 ^ 31) ∧
(∃ (s : State), s.rd DT.CTRL.ROLE = 2 ∧ s.timeH.lastOffset + msTicks ≤ s.dtime) ∧
(∃ (s : State) (ofs : Int), (-2 ^ 63 : Int) ≤ ofs ∧ ofs < 2 ^ 63) :=
  ⟨⟨((State.reset.forEach axes fun s n => s.clear AX.PWM_CTRL.EN n).forEach (List.range 256) fun s k => s.clear SCH.CFG.EN k), 0, 0x80000000, by decide +kernel⟩,
   ⟨State.reset.raise SCH.CFG.EN 7, 0, 1, by decide +kernel⟩,
   ⟨(State.reset.clear DT.CTRL.GPTP_FOLLOW).wr DT.CTRL.ROLE 1, 0, 429498, by decide +kernel⟩,
   ⟨{ ((State.reset.raise LNK.STATUS.UP 1).wr DT.CTRL.ROLE 2).raise PWR.START_STATUS.ENUM_DONE with timeH := { stepped := true } }, 1, 10, 20, 30, 41, 5, -3, false, by decide +kernel⟩,
   ⟨{ State.reset.wr DT.CTRL.ROLE 2 with dtime := msTicks }, by decide +kernel⟩,
   ⟨State.reset, -2 ^ 63, by decide +kernel⟩⟩
/-- States and operands that meet the hypotheses of each clause of Obligations.TimebaseCommands. -/
theorem meets_TimebaseCommands :
(∃ (s : State) (m : Fin 64) (t : Fin 64) (v : Word), MayWrite s m (TB.ANGLE.addr t + 4) false ∧ s.tbOn t = true ∧ s.rd TB.CFG.SRC t = 6 ∧ (s.rd
    TB.STATUS.STATE t = tbOff ∨ s.rd TB.STATUS.STATE t = tbPrimary) ∧ (∀ x : Fin 64, s.tbDerived x = true → s.rd TB.CFG.REF x ≠ t)) ∧
(∃ (s : State) (t : Fin 64), s.tbOn t = true ∧ s.rd TB.STATUS.STATE t = tbPrimary ∧ s.rd TB.CFG.FALLBACK t ≠ 0 ∧ s.tbSilent t (s.rd TB.CFG.SRC t)
    (s.tb t).since (s.tb t).primLast = true) ∧
(∃ (s : State) (t : Fin 64), s.tbOn t = true ∧ s.rd TB.STATUS.STATE t = tbPrimary ∧ s.rd TB.CFG.FALLBACK t = 0 ∧ s.rd TB.CFG.HOLD t ≠ 0 ∧ s.tbSilent
    t (s.rd TB.CFG.SRC t) (s.tb t).since (s.tb t).primLast = true) ∧
(∃ (s : State) (t : Fin 64), s.rd TB.STATUS.STATE t = tbHold ∧ (s.tb t).holdAt + s.rd TB.CFG.HOLD t * 4 * msTicks ≤ s.dtime) ∧
(∃ (s : State) (m : Fin 64) (t : Fin 64) (v : Word), MayWrite s m (TB.RATIO.NUM.addr t) false ∧ s.reg (TB.RATIO.NUM.addr t) ≠ v) :=
  ⟨⟨((((State.reset.forEach (List.range 64) fun s t => s.setReg (TB.CFG.EN.addr t) 0).setReg (TB.CFG.EN.addr 62) 0x37).setReg (TB.RATIO.NUM.addr 62) 0x10001).wr TB.STATUS.STATE 0 62), 0, 62, 0x80000000, by decide +kernel⟩,
   ⟨({ (((State.reset.setReg (TB.CFG.EN.addr 63) (BitVec.ofNat 32 (7 + 4 * 8 + 6 * 128))).setReg (TB.RATIO.NUM.addr 63) 0x10001).wr TB.STATUS.STATE 1 63).wr IOS.SSI_CFG1.RATE 5 with dtime := 64000 }), 63, by decide +kernel⟩,
   ⟨({ (((State.reset.setReg (TB.CFG.EN.addr 63) (BitVec.ofNat 32 (7 + 4 * 8 + 15 * 0x100000))).setReg (TB.RATIO.NUM.addr 63) 0x10001).wr TB.STATUS.STATE 1 63).wr IOS.SSI_CFG1.RATE 5 with dtime := 64000 }), 63, by decide +kernel⟩,
   ⟨{ (State.reset.wr TB.STATUS.STATE 3 0).wr TB.CFG.HOLD 15 0 with dtime := 60 * msTicks }, 0, by decide +kernel⟩,
   ⟨State.reset.setReg (TB.RATIO.NUM.addr 5) 0x10001, 0, 5, 0x20001, by decide +kernel⟩⟩
/-- States and operands that meet the hypotheses of each clause of Obligations.TimebaseInputs. -/
theorem meets_TimebaseInputs :
(∃ (s : State) (k : Fin 8) (pin : PinLevel),
    let h : TachH := Tab.get {} s.tachs k;
    s.flag IOS.TACH_CFG.EN k = true ∧ s.ballPassed pin (s.rd IOS.TACH_CFG.FILT k * usTicks) = true ∧ pin.level ≠ h.level ∧ pin.level ≠ s.flag
    IOS.TACH_CFG.EDGE k ∧ (∀ t : Fin 64, s.tbSrcInUse t ≠ 3) ∧ (h.last = none ∨ h.interval = none ∨ h.interval.getD 0 ≤ 4 * (pin.since - h.last.getD
    0))) ∧
(∃ (s : State) (k : Fin 8) (pin : PinLevel) (l i : Nat), s.flag IOS.TACH_CFG.EN k = true ∧ s.ballPassed pin (s.rd IOS.TACH_CFG.FILT k * usTicks) =
    true ∧ pin.level ≠ (Tab.get {} s.tachs k : TachH).level ∧ pin.level ≠ s.flag IOS.TACH_CFG.EDGE k ∧ (Tab.get {} s.tachs k : TachH).last = some l
    ∧ (Tab.get {} s.tachs k : TachH).interval = some i ∧ 4 * (pin.since - l) < i) ∧
(∃ (s : State) (k : Fin 8) (start stamp raw : Nat) (parity : Bool), s.flag IOS.SSI_CFG0.EN k = true ∧ start % (s.rd IOS.SSI_CFG1.RATE k * 3200) = 0
    ∧ Tab.get none s.ssiEnd k = none ∧ ssiParityOk (s.rd IOS.SSI_CFG0.PARITY k) (s.rd IOS.SSI_CFG0.BITS k) (raw % 2 ^ s.rd IOS.SSI_CFG0.BITS k)
    parity = true ∧ (∀ t : Fin 64, s.rd TB.CFG.SRC t ≠ 4 ∧ s.rd TB.CFG.FALLBACK t ≠ 4)) ∧
(∃ (s : State) (k : Fin 8) (start stamp raw : Nat) (parity idle : Bool), s.flag IOS.SSI_CFG0.EN k = true ∧ start % (s.rd IOS.SSI_CFG1.RATE k * 3200)
    = 0 ∧ (idle = false ∨ ssiParityOk (s.rd IOS.SSI_CFG0.PARITY k) (s.rd IOS.SSI_CFG0.BITS k) (raw % 2 ^ s.rd IOS.SSI_CFG0.BITS k) parity = false)) ∧
(∃ (s : State) (pin : PinLevel), s.flag IOS.LSYNC_CFG.EN = true ∧ s.ballPassed pin (s.rd IOS.LSYNC_CFG.FILT * 10 * usTicks) = true ∧ pin.level =
    true ∧ s.timeH.lsLevel = false ∧ s.timeH.lsRef = none) ∧
(∃ (s : State) (pin : PinLevel) (r : Nat), s.flag IOS.LSYNC_CFG.EN = true ∧ s.ballPassed pin (s.rd IOS.LSYNC_CFG.FILT * 10 * usTicks) = true ∧
    pin.level = true ∧ s.timeH.lsLevel = false ∧ s.timeH.lsRef = some r ∧ 7111111 < pin.since - r) ∧
(∃ (s : State) (pin : PinLevel) (r : Nat), s.flag IOS.LSYNC_CFG.EN = true ∧ s.ballPassed pin (s.rd IOS.LSYNC_CFG.FILT * 10 * usTicks) = true ∧
    pin.level = true ∧ s.timeH.lsLevel = false ∧ s.timeH.lsRef = some r ∧ pin.since - r < 4923077) ∧
(∃ (s : State) (pin : PinLevel) (r q : Nat), s.flag IOS.LSYNC_CFG.EN = true ∧ s.ballPassed pin (s.rd IOS.LSYNC_CFG.FILT * 10 * usTicks) = true ∧
    pin.level = true ∧ s.timeH.lsLevel = false ∧ s.timeH.lsRef = some r ∧ s.timeH.lsPeriod = some q ∧ 4923077 ≤ pin.since - r ∧ pin.since - r ≤
    7111111 ∧ 20 * (max (pin.since - r) q - min (pin.since - r) q) ≤ q ∧ (∀ t : Fin 64, s.rd TB.CFG.SRC t ≠ 5 ∧ s.rd TB.CFG.FALLBACK t ≠ 5)) :=
  ⟨⟨{ (State.reset.forEach (List.range 64) fun s t => s.setReg (TB.CFG.EN.addr t) 0).raise IOS.TACH_CFG.EN 7 |>.wr IOS.TACH_CFG.FILT 1 7 |>.clear IOS.TACH_CFG.EDGE 7 with dtime := 432, tachs := [(7, { last := some 100, interval := some 40 })] }, 7, { level := true, since := 110 }, by decide +kernel⟩,
   ⟨{ State.reset.raise IOS.TACH_CFG.EN 0 |>.wr IOS.TACH_CFG.FILT 0 0 |>.raise IOS.TACH_CFG.EDGE 0 with dtime := 112, tachs := [(0, { level := true, last := some 100, interval := some 41 })] }, 0, { level := false, since := 110 }, 100, 41, by decide +kernel⟩,
   ⟨((State.reset.forEach (List.range 64) fun s t => s.setReg (TB.CFG.EN.addr t) 0).raise IOS.SSI_CFG0.EN 0).wr IOS.SSI_CFG0.PARITY 1 0, 0, 0, 0, 0, false, by decide +kernel⟩,
   ⟨(State.reset.raise IOS.SSI_CFG0.EN 7).wr IOS.SSI_CFG0.PARITY 1 7, 7, 0, 0, 0, true, true, by decide +kernel⟩,
   ⟨{ (State.reset.raise IOS.LSYNC_CFG.EN).wr IOS.LSYNC_CFG.FILT 3 with dtime := 9606, timeH := {} }, { level := true, since := 4 }, by decide +kernel⟩,
   ⟨{ (State.reset.raise IOS.LSYNC_CFG.EN).wr IOS.LSYNC_CFG.FILT 0 with dtime := 10 ^ 7, timeH := { lsRef := some 0 } }, { level := true, since := 7111112 }, 0, by decide +kernel⟩,
   ⟨{ (State.reset.raise IOS.LSYNC_CFG.EN).wr IOS.LSYNC_CFG.FILT 0 with dtime := 10 ^ 7, timeH := { lsRef := some 0 } }, { level := true, since := 4923076 }, 0, by decide +kernel⟩,
   ⟨{ (State.reset.forEach (List.range 64) fun s t => s.setReg (TB.CFG.EN.addr t) 0).raise IOS.LSYNC_CFG.EN |>.wr IOS.LSYNC_CFG.FILT 0 with dtime := 10 ^ 7, timeH := { lsRef := some 0, lsPeriod := some 4923077 } }, { level := true, since := 4923077 }, 0, 4923077, by decide +kernel⟩⟩
theorem meets_TimebaseUpdate_1 : ∃ (s : State) (t : Fin 64), s.tbOn t = true ∧ (s.rd TB.STATUS.STATE t = tbOff ∨ s.rd TB.STATUS.STATE t = tbPrimary) :=
  ⟨State.reset.setReg (TB.CFG.EN.addr 62) 0x37, 62, by decide +kernel⟩
theorem meets_TimebaseUpdate_2 : ∃ (s : State) (t : Fin 64), s.tbOn t = true ∧ s.rd TB.STATUS.STATE t = tbFallback ∧ (s.tb t).primLast = none :=
  ⟨(State.reset.setReg (TB.CFG.EN.addr 62) 0x37).wr TB.STATUS.STATE 2 62, 62, by decide +kernel⟩
/-- States and operands that meet the hypotheses of each clause of Obligations.SlotCommands. -/
theorem meets_SlotCommands :
(∃ (s : State) (m : Fin 64) (k : Fin 256) (v : Word),
    let u : State := (s.writeFields (SCH.CFG.EN.addr k) v.toNat).1;
    MayWrite s m (SCH.CFG.EN.addr k) false ∧ s.flag SCH.CFG.EN k = false ∧ u.flag SCH.CFG.EN k = true ∧ u.flag SCH.CFG.TYPE k = true ∧ 0 ≤ s.rdS
    SCH.STEP k ∧ s.dtime < s.rd SCH.TARGET k) ∧
(∃ (s : State) (m : Fin 64) (k : Fin 256) (v : Word), MayWrite s m (SCH.CFG.EN.addr k) false ∧ s.flag SCH.CFG.EN k = true ∧ bit v.toNat 0 = false) ∧
(∃ (s : State) (m : Fin 64) (k : Fin 256) (v : Word), MayWrite s m (SCH.TARGET.addr k + 4) false ∧ s.flag SCH.CFG.EN k = false) ∧
(∃ (s : State) (m : Fin 64) (k : Fin 256) (v : Word), MayWrite s m (SCH.TARGET.addr k + 4) false ∧ s.flag SCH.CFG.EN k = true ∧ s.flag SCH.CFG.TYPE
    k = false) ∧
(∃ (s : State) (k : Fin 256) (c : Nat), (s.slot k).due = some c ∧ c ≤ s.dtime ∧ s.flag SCH.CFG.EN k = true ∧ s.flag SCH.CFG.TYPE k = true ∧ s.rdS
    SCH.STEP k = 0 ∧ s.rd SCH.CFG.ACTION k = 4 ∧ (List.range k).any s.slotDue = false) ∧
(∃ (s : State) (k : Fin 256) (c : Nat), (s.slot k).due = some c ∧ c ≤ s.dtime ∧ s.flag SCH.CFG.EN k = true ∧ s.flag SCH.CFG.TYPE k = true ∧ s.rdS
    SCH.STEP k = 0 ∧ s.rd SCH.CFG.ACTION k = 0 ∧ Room s ∧ (List.range k).any s.slotDue = false) ∧
(∃ (s : State) (k : Fin 256), (s.slotDue k = false ∨ (List.range k).any s.slotDue = true)) :=
  ⟨⟨(((State.reset.wr SCH.STEP 0 255).clear SCH.CFG.EN 255).wr SCH.TARGET (State.reset.dtime + 1) 255), 0, 255, 3, by decide +kernel⟩,
   ⟨State.reset.raise SCH.CFG.EN 0, 0, 0, 0, by decide +kernel⟩,
   ⟨State.reset.clear SCH.CFG.EN 9, 0, 9, 0xFFFFFFFF, by decide +kernel⟩,
   ⟨(State.reset.raise SCH.CFG.EN 9).clear SCH.CFG.TYPE 9, 0, 9, 0xFFFFFFFF, by decide +kernel⟩,
   ⟨(({ State.reset with slots := [(255, { due := some State.reset.dtime, late := true })] }).setReg (SCH.CFG.EN.addr 255) (BitVec.ofNat 32 3)).wr SCH.STEP 0 255 |>.wr SCH.CFG.ACTION 4 255 |>.clear SCH.STATUS.LATE 255, 255, State.reset.dtime, by decide +kernel⟩,
   ⟨(({ State.reset with slots := [(1, { due := some State.reset.dtime })] }).setReg (SCH.CFG.EN.addr 1) (BitVec.ofNat 32 3)).wr SCH.STEP 0 1 |>.wr SCH.CFG.ACTION 0 1, 1, State.reset.dtime, by decide +kernel⟩,
   ⟨({ State.reset with slots := [(0, { due := some 0 }), (1, { due := some 0 })] }).raise SCH.CFG.EN 0, 1, by decide +kernel⟩⟩
/-- States and operands that meet the hypotheses of each clause of Obligations.AxisAndShadowCommands. -/
theorem meets_AxisAndShadowCommands :
(∃ (s : State) (m : Fin 64) (n : Fin 48) (v : Word), MayWrite s m (AX.PWM_CTRL.EN.addr n) false ∧ s.axOn n = false ∧ s.enRefused n = false) ∧
(∃ (s : State) (m : Fin 64) (n : Fin 48) (v : Word), MayWrite s m (AX.PWM_CTRL.EN.addr n) false ∧ s.axOn n = false ∧ s.enRefused n = true) ∧
(∃ (s : State) (m : Fin 64) (n : Fin 48) (v : Word), MayWrite s m (AX.PWM_CTRL.EN.addr n) false ∧ s.axOn n = true) ∧
(∃ (s : State) (m : Fin 64) (n : Fin 48) (j : Fin 3) (v : Word), MayWrite s m (AX.PWM_DUTY.D.addr n j) false ∧ s.flag AX.PWM_CTRL.SRC n = false ∧
    (s.pw n).tags.length = 4) ∧
(∃ (s : State) (m : Fin 64) (n : Fin 48) (j : Fin 3) (v : Word), MayWrite s m (AX.PWM_DUTY.D.addr n j) false ∧ s.flag AX.PWM_CTRL.SRC n = true) ∧
(∃ (s : State) (m : Fin 64) (n : Fin 48), MayWrite s m (AX.PWM_COMMIT.COMMIT.addr n) false) ∧
(∃ (s : State) (n : Fin 48) (b : Nat), (s.pw n).nextB = some b ∧ (s.pw n).capDone = false ∧ b ≤ s.dtime + 4 ∧ s.axOn n = true ∧ s.flag
    AX.PWM_STATUS.COMMIT_PEND n = true ∧ s.pairOk n = true) ∧
(∃ (s : State) (n : Fin 48) (b : Nat), (s.pw n).nextB = some b ∧ (s.pw n).capDone = false ∧ b ≤ s.dtime + 4 ∧ s.axOn n = true ∧ s.flag
    AX.PWM_STATUS.COMMIT_PEND n = true ∧ s.pairOk n = false ∧ Room s) :=
  ⟨⟨(((((((((({ State.reset with pwms := [(1, { released := true })] }).clear AX.PWM_CTRL.EN 1).wr AX.TRIP_STATUS.LATCH 0 1).raise AX.PWM_DLCAL.VALID 1).wr AX.BUS_CFG.SEG 0 1).clear BUS.STATUS.T2 0).wr AGE.PFENCE_AX 0).wr PWR.STATE.STATE 0).clear PWR.STATE.BUSY).wr SAF.GROUP_STATE.LOW 0).wr AX.SAF_CFG.GROUP 31 1, 0, 1, 0, by decide +kernel⟩,
   ⟨(State.reset.clear AX.PWM_CTRL.EN 1), 0, 1, 0, by decide +kernel⟩,
   ⟨{ State.reset.raise AX.PWM_CTRL.EN 0 with pwms := [(0, { nextB := some 9 })] }, 0, 0, 0xFFFFFFFF, by decide +kernel⟩,
   ⟨State.reset.clear AX.PWM_CTRL.SRC 0, 0, 0, 2, 0xFFFFFF, by decide +kernel⟩,
   ⟨State.reset.raise AX.PWM_CTRL.SRC 1, 0, 1, 0, 5, by decide +kernel⟩,
   ⟨State.reset, 0, 47, by decide +kernel⟩,
   ⟨{ ((((State.reset.raise AX.PWM_CTRL.EN 1).raise AX.PWM_STATUS.COMMIT_PEND 1).wr AX.PWM_PERIOD.TOP 800 1).setReg (AX.PWM_DT.DT_HS.addr 1) 0).wr AX.PWM_MINP.MINP 8533 1 with pwms := [(1, { nextB := some 4 })] }, 1, 4, by decide +kernel⟩,
   ⟨{ ((State.reset.raise AX.PWM_CTRL.EN 0).raise AX.PWM_STATUS.COMMIT_PEND 0).wr AX.PWM_PERIOD.TOP 799 0 with pwms := [(0, { nextB := some 4 })] }, 0, 4, by decide +kernel⟩⟩
/-- States and operands that meet the hypotheses of each clause of Obligations.BoundaryAndTripCommands. -/
theorem meets_BoundaryAndTripCommands :
(∃ (s : State) (n : Fin 48) (b top : Nat) (bases : List Nat), (s.pw n).nextB = some b ∧ b ≤ s.dtime ∧ s.axOn n = true ∧ (s.pw n).cap = some (top,
    bases) ∧ (s.pw n).dlNew = none ∧ (s.ob n).esc = none ∧ top < 2 ^ 17) ∧
(∃ (s : State) (n : Fin 48) (b : Nat), (s.pw n).nextB = some b ∧ b ≤ s.dtime ∧ s.axOn n = true ∧ (s.pw n).cap = none ∧ (s.pw n).dlNew = none ∧ (s.ob
    n).esc = none) ∧
(∃ (s : State) (ch : Fin 50) (n : Nat) (e : Fin 128), 36 ≤ e.val ∧ e.val ≤ 78 ∧ s.axOn n = true ∧ s.axisOfCh ch = some n) ∧
(∃ (s : State) (ch : Fin 50) (n : Nat) (e : Fin 128), 36 ≤ e.val ∧ e.val ≤ 78 ∧ s.axOn n = false ∧ s.axisOfCh ch = some n) ∧
(∃ (s : State) (ch : Fin 50) (n : Nat) (e : Fin 128), (e.val < 36 ∨ 78 < e.val) ∧ Room s ∧ s.axisOfCh ch = some n) ∧
(∃ (s : State) (n : Fin 48) (oc ds : PinLevel), s.tripActive n 0 oc.level oc.since = true ∧ s.tripActive n 1 ds.level ds.since = false ∧ (s.pw
    n).asc = 0 ∧ s.rd AX.TRIP_CFG.ACTION n 0 = 1 ∧ s.rdBit AX.TRIP_STATUS.LIVE 0 n = false ∧ s.rd AX.TRIP_STATUS.LATCH n = 0 ∧ s.pxbMoving n = false
    ∧ s.axOn n = true ∧ Room s) ∧
(∃ (s : State) (a : TripPulse), s.flag AX.TRIP_CFG.EN a.axis a.input = true ∧ a.from_ < a.to_ ∧ a.to_ ≤ s.dtime ∧ (∀ k < a.to_ - a.from_,
    s.tripMasked a.axis a.input (a.from_ + k) = true)) ∧
(∃ (s : State) (m : Fin 64) (sp : Fin 2) (v : Word), MayWrite s m (PXB.MAP.AXIS.addr 0 sp) true ∧ s.flag PXB.MAP.VALID 0 sp = false ∧ s.flag
    PXB.MAP.VALID 0 (1 - sp) = false ∧ s.flag PXB.STATUS.BUSY = false ∧ s.axOn (v.toNat % 64) = false ∧ bit v.toNat 8 = true ∧ v.toNat % 64 < 48 ∧
    s.rdBit AGE.PFENCE_AX (48 + sp) = false) ∧
(∃ (s : State) (m : Fin 64) (sp : Fin 2) (v : Word), MayWrite s m (PXB.MAP.AXIS.addr 0 sp) true ∧ s.flag PXB.MAP.VALID 0 sp = false ∧ s.flag
    PXB.STATUS.BUSY = true ∧ bit v.toNat 8 = true ∧ v.toNat % 64 < 48) ∧
(∃ (s : State) (sp : Fin 2) (x : PxbH), Tab.get none s.pxbs sp = some x ∧ (s.pw x.axis).heldAct = none ∧ s.pwr.axPend = [] ∧ x.axis < 48 ∧ Room s) :=
  ⟨⟨{ State.reset.raise AX.PWM_CTRL.EN 1 with pwms := [(1, { nextB := some 0, cap := some (80000, [1, 2, 3]) })] }, 1, 0, 80000, [1, 2, 3], by decide +kernel⟩,
   ⟨{ State.reset.raise AX.PWM_CTRL.EN 1 with pwms := [(1, { nextB := some 0 })] }, 1, 0, by decide +kernel⟩,
   ⟨((State.reset.raise AX.PWM_CTRL.EN 1).raise PXB.MAP.VALID 0 1).wr PXB.MAP.AXIS 1 0 1, 49, 1, 36, by decide +kernel⟩,
   ⟨((State.reset.clear AX.PWM_CTRL.EN 1).clear PXB.MAP.VALID 0 0).clear PXB.MAP.VALID 0 1, 1, 1, 78, by decide +kernel⟩,
   ⟨(State.reset.clear PXB.MAP.VALID 0 0).clear PXB.MAP.VALID 0 1, 0, 0, 79, by decide +kernel⟩,
   ⟨((((State.reset.raise AX.PWM_CTRL.EN 1).wr AX.TRIP_CFG.ACTION 1 1 0).raise AX.TRIP_CFG.EN 1 0).wr AX.TRIP_STATUS.LIVE 0 1).wr AX.TRIP_STATUS.LATCH 0 1 |>.clear AX.TRIP_CFG.EN 1 1 |>.wr AX.TRIP_CFG.BLANK 0 1 0 |>.wr AX.TRIP_CFG.FILT 7 1 0 |>.clear AX.TRIP_CFG.POL 1 0 |> fun s => { s with dtime := 109, pwms := [(1, { asc := 0 })] }, 1, { level := true, since := 100 }, { level := false, since := 0 }, by decide +kernel⟩,
   ⟨{ (((State.reset.raise AX.TRIP_CFG.EN 0 1).wr AX.TRIP_CFG.BLANK 9 0 1).clear AX.PWM_CTRL.EN 0).setReg (AX.PWM_DT.DT_HS.addr 0) 0 with dtime := 10 ^ 6, pwms := [(0, { asc := 1, sideAt := 100 })], pwr := {} }, { axis := 0, input := 1, from_ := 101, to_ := 103 }, by decide +kernel⟩,
   ⟨((((State.reset.clear PXB.MAP.VALID 0 0).clear PXB.MAP.VALID 0 1).clear PXB.STATUS.BUSY).clear AX.PWM_CTRL.EN 1).wr AGE.PFENCE_AX 0, 8, 1, 0x101, by decide +kernel⟩,
   ⟨(State.reset.clear PXB.MAP.VALID 0 0).raise PXB.STATUS.BUSY, 8, 0, 0x12F, by decide +kernel⟩,
   ⟨{ State.reset with pxbs := [(1, some { axis := 47, start := 0 })] }, 1, { axis := 47, start := 0 }, by decide +kernel⟩⟩
/-- States and operands that meet the hypotheses of each clause of Obligations.LoopStepRuns. -/
theorem meets_LoopStepRuns :
(∃ (s : State) (n : Fin 48) (ra rb rk : Int), s.axOn n = true ∧ s.flag AX.PWM_CTRL.SRC n = true ∧ 0 < (s.pw n).periods ∧ s.flag AX.FOC_CTRL.RUN n =
    true ∧ s.rd AX.CMT_STATUS.STATE n = 0 ∧ (s.sampleAt n).1 ≤ s.dtime ∧ (s.fo n).notBefore ≤ (s.sampleAt n).1 ∧ (s.fo n).stepOf ≠ (s.pw n).periods
    ∧ (s.fo n).step = none ∧ s.trigOk n (s.sampleAt n).1 = true ∧ (∀ k : Fin 3, s.net n k = none) ∧ s.rd AX.ADC_HEALTH.ROLE_K n = 3) ∧
(∃ (s : State) (n : Fin 48) (ra rb rk : Int), s.axOn n = true ∧ s.flag AX.PWM_CTRL.SRC n = true ∧ 0 < (s.pw n).periods ∧ s.flag AX.FOC_CTRL.RUN n =
    true ∧ s.rd AX.CMT_STATUS.STATE n = 0 ∧ (s.sampleAt n).1 ≤ s.dtime ∧ (s.fo n).notBefore ≤ (s.sampleAt n).1 ∧ (s.fo n).stepOf ≠ (s.pw n).periods
    ∧ (s.fo n).step = none ∧ s.trigOk n (s.sampleAt n).1 = true ∧ (∀ k : Fin 3, s.net n k = none) ∧ s.rd AX.ADC_HEALTH.ROLE_K n = 3) ∧
(∃ (s : State) (n : Fin 48) (ra rb rk : Int), s.axOn n = true ∧ s.flag AX.PWM_CTRL.SRC n = true ∧ 0 < (s.pw n).periods ∧ s.flag AX.FOC_CTRL.RUN n =
    true ∧ s.rd AX.CMT_STATUS.STATE n = 0 ∧ (s.sampleAt n).1 ≤ s.dtime ∧ (s.fo n).notBefore ≤ (s.sampleAt n).1 ∧ (s.fo n).stepOf ≠ (s.pw n).periods
    ∧ (s.fo n).step = none ∧ s.trigOk n (s.sampleAt n).1 = true ∧ (∀ k : Fin 3, s.net n k = none) ∧ s.rd AX.ADC_HEALTH.ROLE_K n = 3 ∧ s.flag
    AX.FOC_CTRL.SPD_EN n = true ∧ (s.fo n).fresh = true ∧ (s.fo n).preset = true ∧ (s.sx n).ss1 = none) ∧
(∃ (s : State) (n : Fin 48) (ra rb rk : Int), s.axOn n = true ∧ s.flag AX.PWM_CTRL.SRC n = true ∧ 0 < (s.pw n).periods ∧ s.flag AX.FOC_CTRL.RUN n =
    true ∧ (s.sampleAt n).1 ≤ s.dtime ∧ (s.fo n).notBefore ≤ (s.sampleAt n).1 ∧ (s.fo n).stepOf ≠ (s.pw n).periods ∧ (s.fo n).step = none ∧ s.trigOk
    n (s.sampleAt n).1 = false) :=
  ⟨⟨{ (((((State.reset.raise AX.PWM_CTRL.EN 1).raise AX.PWM_CTRL.SRC 1).raise AX.FOC_CTRL.RUN 1).wr AX.CMT_STATUS.STATE 0 1).wr AX.PWM_ACT_PERIOD.TOP 10000 1).wr AX.ADC_HEALTH.ROLE_K 3 1 with pwms := [(1, { periods := 1, awake := true })], dtime := 10000000 }, 1, 100, -50, -50, by decide +kernel⟩,
   ⟨{ (((((State.reset.raise AX.PWM_CTRL.EN 1).raise AX.PWM_CTRL.SRC 1).raise AX.FOC_CTRL.RUN 1).wr AX.CMT_STATUS.STATE 0 1).wr AX.PWM_ACT_PERIOD.TOP 10000 1).wr AX.ADC_HEALTH.ROLE_K 3 1 with pwms := [(1, { periods := 1, awake := true })], dtime := 10000000 }, 1, 100, -50, -50, by decide +kernel⟩,
   ⟨{ ((((((State.reset.raise AX.PWM_CTRL.EN 1).raise AX.PWM_CTRL.SRC 1).raise AX.FOC_CTRL.RUN 1).raise AX.FOC_CTRL.SPD_EN 1).wr AX.CMT_STATUS.STATE 0 1).wr AX.PWM_ACT_PERIOD.TOP 10000 1).wr AX.ADC_HEALTH.ROLE_K 3 1 with pwms := [(1, { periods := 1, awake := true })], dtime := 10000000, focs := [(1, { fresh := true, preset := true })] }, 1, 100, -50, -50, by decide +kernel⟩,
   ⟨{ (((State.reset.raise AX.PWM_CTRL.EN 1).raise AX.PWM_CTRL.SRC 1).raise AX.FOC_CTRL.RUN 1).wr AX.PWM_ACT_PERIOD.TOP 10000 1 with pwms := [(1, { periods := 1 })], dtime := 10000000 }, 1, 100, -50, -50, by decide +kernel⟩⟩
/-- States and operands that meet the hypotheses of each clause of Obligations.WindowCommands. -/
theorem meets_WindowCommands :
(∃ (s : State) (n : Fin 48) (w : WinH), (s.cm n).win = some w ∧ w.isOpen = false ∧ w.tOpen ≤ s.dtime ∧ s.flag AX.PV_CFG.OWNER n = true) ∧
(∃ (s : State) (n : Fin 48) (w : WinH), (s.cm n).win = some w ∧ w.isOpen = true ∧ w.tClose ≤ s.dtime ∧ w.qualified = true) ∧
(∃ (s : State) (n : Fin 48) (w : WinH), (s.cm n).win = some w ∧ w.isOpen = true ∧ w.tClose ≤ s.dtime ∧ w.qualified = false ∧ (s.scan n w
    w.tClose).hit = none ∧ (s.scan n w w.tClose).early = false ∧ s.rd AX.CMT_OFS.REJ_LIM n = 0) ∧
(∃ (s : State) (n : Fin 48) (w : WinH), (s.cm n).win = some w ∧ w.isOpen = true ∧ w.tClose ≤ s.dtime ∧ w.qualified = false ∧ (s.scan n w
    w.tClose).hit = none ∧ (s.scan n w w.tClose).early = true ∧ s.rd AX.CMT_OFS.REJ_LIM n = 0) ∧
(∃ (s : State) (n : Fin 48) (w : WinH) (tx : Nat), s.rd AX.CMT_STATUS.STATE n = 0 ∧ (s.cm n).win = some w ∧ w.isOpen = true ∧ w.tClose ≤ s.dtime ∧
    w.qualified = false ∧ (s.scan n w w.tClose).hit = some tx) ∧
(∃ (s : State) (n : Fin 48) (j : Fin 3) (v : PhaseLevels),
    let x : Int := [v.a, v.b, v.c].getD j.val 0;
    s.measUp = true ∧ s.flag AX.PV_CFG.EN n = true ∧ s.pvHeld n j = false ∧ (s.cm n).win = none ∧ s.rdBit AX.PV_STATUS.LEVEL j n = false ∧ 3000 *
    s.rdS AX.PV_DAC.TH n j + 1500 * (s.pvHys n : Int) ≤ 3 * x - (v.a + v.b + v.c)) ∧
(∃ (s : State) (n : Fin 48) (j : Fin 3) (v : PhaseLevels), (s.pvHeld n j = true ∨ s.flag AX.PV_CFG.EN n = false ∨ s.pvCompare n j (s.rdBit
    AX.PV_STATUS.LEVEL j n) v = s.rdBit AX.PV_STATUS.LEVEL j n)) ∧
(∃ (s : State) (n : Fin 48) (w : WinH) (v : PhaseLevels), s.measUp = true ∧ s.flag AX.PV_CFG.EN n = true ∧ s.pvHeld n (phaseOf w.k) = false ∧ (s.cm
    n).win = some w ∧ w.isOpen = true ∧ w.qualified = false ∧ w.tObs ≤ s.dtime ∧ s.dtime < w.tClose ∧ s.rdBit AX.PV_STATUS.LEVEL (phaseOf w.k) n =
    risingAt w.k w.fwd ∧ s.pvCompare n (phaseOf w.k) (risingAt w.k w.fwd) v = !(risingAt w.k w.fwd) ∧ (s.scan n w (s.dtime - 1)).run = 0) ∧
(∃ (s : State) (n : Fin 48) (phase : Fin 3) (tx : Nat),
    let rising : Bool := s.rdBit AX.PV_STATUS.LEVEL phase n;
    (s.rd AX.CMT_STATUS.STATE n = 1 ∨ s.rd AX.CMT_STATUS.STATE n = 2) ∧ (s.pv n phase).done = false ∧ (s.pv n phase).settle = false ∧ (s.pv n
    phase).stamp = tx ∧ (s.cm n).listenAt < (s.pv n phase).clk ∧ (s.pv n phase).clk + s.rd AX.CMT_LW.QUAL n ≤ s.dtime) ∧
(∃ (s : State) (n : Fin 48) (w : WinH) (tx : Nat), s.rd AX.CMT_STATUS.STATE n ≠ 1 ∧ s.rd AX.CMT_STATUS.STATE n ≠ 2 ∧ (s.cm n).win = some w ∧
    w.isOpen = true ∧ w.qualified = false ∧ (s.scan n w s.dtime).hit = some tx) ∧
(∃ (s : State) (m : Fin 64) (n : Fin 48) (j : Fin 3) (v : Word), MayWrite s m (AX.PV_DAC.TH.addr n j) false ∧ s.flag AX.PV_CFG.OWNER n = false) ∧
(∃ (s : State) (m : Fin 64) (n : Fin 48) (j : Fin 3) (v : Word), MayWrite s m (AX.PV_DAC.TH.addr n j) false ∧ s.flag AX.PV_CFG.OWNER n = true) ∧
(∃ (s : State) (n : Fin 48) (j : Fin 3) (v : PhaseLevels),
    let was : Bool := s.rdBit AX.PV_STATUS.LEVEL j n;
    Tab.get 0 s.pvSettle (n.val * 4 + j) ≠ 0 ∧ Tab.get 0 s.pvSettle (n.val * 4 + j) ≤ s.dtime ∧ s.measUp = true ∧ s.flag AX.PV_CFG.EN n = true ∧
    (s.cm n).win = none) :=
  ⟨⟨{ State.reset.raise AX.PV_CFG.OWNER 1 with cmts := [(1, { win := some { k := 5, tOpen := 0 } })] }, 1, { k := 5, tOpen := 0 }, by decide +kernel⟩,
   ⟨{ State.reset with cmts := [(1, { win := some { isOpen := true, qualified := true, tClose := 5 } })], dtime := 5 }, 1, { isOpen := true, qualified := true, tClose := 5 }, by decide +kernel⟩,
   ⟨({ State.reset with cmts := [(1, { win := some { isOpen := true } })] }).wr AX.CMT_OFS.REJ_LIM 0 1, 1, { isOpen := true }, by decide +kernel⟩,
   ⟨((({ State.reset with cmts := [(0, { win := some { isOpen := true, tObs := 4, tClose := 6, level0 := false } })], dtime := 6 }).wr AX.CMT_OFS.REJ_LIM 0 0).clear AX.CMT_CTRL.GATE 0), 0, { isOpen := true, tObs := 4, tClose := 6, level0 := false }, by decide +kernel⟩,
   ⟨(((({ State.reset with cmts := [(0, { win := some { k := 1, isOpen := true, tObs := 14, tClose := 16, level0 := false, changes := [(15, true, false)] } })], dtime := 16 }).wr AX.CMT_LW.QUAL 0 0).clear AX.CMT_CTRL.GATE 0).wr AX.CMT_STATUS.STATE 0 0), 0, { k := 1, isOpen := true, tObs := 14, tClose := 16, level0 := false, changes := [(15, true, false)] }, 7, by decide +kernel⟩,
   ⟨{ ((((State.reset.raise PWR.START_STATUS.BOOT_OK).raise AX.PV_CFG.EN 1).wrBit AX.PV_STATUS.LEVEL 2 false 1).wr PWR.STATE.STATE 0).wr AX.PV_DAC.TH 0 1 2 with cmts := [], pvSettle := [], pwr := { measAt := 0 } }, 1, 2, { a := -9000, b := 0, c := 9000 }, by decide +kernel⟩,
   ⟨State.reset.clear AX.PV_CFG.EN 1, 1, 0, { a := 0, b := 0, c := 0 }, by decide +kernel⟩,
   ⟨{ ((((State.reset.raise PWR.START_STATUS.BOOT_OK).raise AX.PV_CFG.EN 1).wrBit AX.PV_STATUS.LEVEL 2 true 1).wr PWR.STATE.STATE 0).wr AX.PV_DAC.TH 0 1 2 |>.clear AX.CMT_CTRL.GATE 1 with pvSettle := [], pwr := { measAt := 0 }, dtime := 5, cmts := [(1, { win := some { k := 1, fwd := true, isOpen := true, tObs := 5, tClose := 9, level0 := true } })] }, 1, { k := 1, fwd := true, isOpen := true, tObs := 5, tClose := 9, level0 := true }, { a := 0, b := 0, c := -60000 }, by decide +kernel⟩,
   ⟨{ (State.reset.wr AX.CMT_STATUS.STATE 2 1).wr AX.CMT_LW.QUAL 15 1 with cmts := [(1, { listenAt := 24 })], dtime := 40, pvs := [(5, { clk := 25, stamp := 17, done := false })] }, 1, 1, 17, by decide +kernel⟩,
   ⟨(((({ State.reset with cmts := [(1, { win := some { k := 1, isOpen := true, tObs := 4, tClose := 30, level0 := false, changes := [(12, true, false)] } })], dtime := 12 }).wr AX.CMT_LW.QUAL 0 1).clear AX.CMT_CTRL.GATE 1).wr AX.CMT_STATUS.STATE 5 1), 1, { k := 1, isOpen := true, tObs := 4, tClose := 30, level0 := false, changes := [(12, true, false)] }, 4, by decide +kernel⟩,
   ⟨State.reset.clear AX.PV_CFG.OWNER 0, 0, 0, 1, 0x3FF, by decide +kernel⟩,
   ⟨State.reset.raise AX.PV_CFG.OWNER 1, 0, 1, 1, 0x3FF, by decide +kernel⟩,
   ⟨{ (((State.reset.raise PWR.START_STATUS.BOOT_OK).raise AX.PV_CFG.EN 1).wr PWR.STATE.STATE 0).wr AX.PV_DAC.TH 0 1 2 with pvSettle := [(6, 5)], dtime := 5, pwr := { measAt := 0 }, cmts := [] }, 1, 2, { a := 0, b := 0, c := 60000 }, by decide +kernel⟩⟩
/-- States and operands that meet the hypotheses of each clause of Obligations.StartCommands. -/
theorem meets_StartCommands :
(∃ (s : State) (m : Fin 64) (n : Fin 48), MayWrite s m (AX.CMT_START.GO.addr n) false ∧ s.axOn n = true ∧ s.flag AX.PWM_CTRL.SRC n = true ∧ s.flag
    AX.FOC_CTRL.RUN n = false ∧ s.rd AX.CMT_STATUS.STATE n = 0) ∧
(∃ (s : State) (m : Fin 64) (n : Fin 48), MayWrite s m (AX.CMT_START.GO.addr n) false ∧ s.rd AX.CMT_STATUS.STATE n ≠ 0) ∧
(∃ (s : State) (m : Fin 64) (n : Fin 48), MayWrite s m (AX.CMT_START.GO.addr n) false ∧ s.rd AX.CMT_STATUS.STATE n ≠ 0) ∧
(∃ (s : State) (n : Fin 48), s.rd AX.CMT_STATUS.STATE n = cmtListen ∧ (s.cm n).cross = [] ∧ (s.cm n).phaseEnd ≤ s.dtime ∧ s.rd
    AX.CMT_CTRL.START_MODE n = 0) ∧
(∃ (s : State) (n : Fin 48) (e : Nat), s.rd AX.CMT_STATUS.STATE n = cmtWait ∧ (s.cm n).waitEnd = some e ∧ e ≤ s.dtime) ∧
(∃ (s : State) (n : Fin 48), s.rd AX.CMT_STATUS.STATE n = cmtBrake ∧ (s.cm n).phaseEnd ≤ s.dtime) ∧
(∃ (s : State) (n : Fin 48) (a b c d : Nat), s.rd AX.CMT_STATUS.STATE n = cmtListen ∧ (s.cm n).cross = [(3, d), (2, c), (1, b), (0, a)] ∧ a < d ∧
    rne (2 ^ 47) ((d - a : Nat) : Int) ≤ (s.rd AX.CMT_CATCH_MAX.VALUE n : Int) ∧ rne (2 ^ 47) ((d - a : Nat) : Int) < 2 ^ 31 ∧ 0 < rne (2 ^ 47) ((d
    - a : Nat) : Int) ∧ s.rdS AX.SPD_TARGET.VALUE n < 0 ∧ s.rd AX.CMT_CTRL.REV_MODE n = 3) ∧
(∃ (s : State) (n : Fin 48), s.rd AX.CMT_STATUS.STATE n = cmtAlign ∧ (s.cm n).phaseEnd ≤ s.dtime) ∧
(∃ (s : State) (n : Fin 48), s.rd AX.CMT_STATUS.STATE n = cmtOpen ∧ (s.cm n).phaseEnd ≤ s.dtime) :=
  ⟨⟨((State.reset.raise AX.PWM_CTRL.EN 1).raise AX.PWM_CTRL.SRC 1).clear AX.FOC_CTRL.RUN 1 |>.wr AX.CMT_STATUS.STATE 0 1, 0, 1, by decide +kernel⟩,
   ⟨State.reset.wr AX.CMT_STATUS.STATE 5 1, 0, 1, by decide +kernel⟩,
   ⟨State.reset.wr AX.CMT_STATUS.STATE 1 1, 0, 1, by decide +kernel⟩,
   ⟨(State.reset.wr AX.CMT_STATUS.STATE 1 1).wr AX.CMT_CTRL.START_MODE 0 1, 1, by decide +kernel⟩,
   ⟨({ State.reset with cmts := [(1, { waitEnd := some 0 })] }).wr AX.CMT_STATUS.STATE 2 1, 1, 0, by decide +kernel⟩,
   ⟨(State.reset.wr AX.CMT_STATUS.STATE 3 1), 1, by decide +kernel⟩,
   ⟨{ (((State.reset.wr AX.CMT_STATUS.STATE 1 1).wr AX.CMT_CATCH_MAX.VALUE 0x7FFFFFFF 1).wr AX.SPD_TARGET.VALUE 0xFFFFFFFF 1).wr AX.CMT_CTRL.REV_MODE 3 1 with cmts := [(1, { cross := [(3, 2 ^ 20), (2, 700000), (1, 350000), (0, 0)] })] }, 1, 0, 350000, 700000, 2 ^ 20, by decide +kernel⟩,
   ⟨State.reset.wr AX.CMT_STATUS.STATE 4 1, 1, by decide +kernel⟩,
   ⟨State.reset.wr AX.CMT_STATUS.STATE 5 0, 0, by decide +kernel⟩⟩
theorem meets_StartCommands_abort : ∃ (s : State) (n : Fin 48), s.pending = [] ∧ s.posted = [] ∧ (s.cm n).abort = true ∧ s.rd AX.CMT_STATUS.STATE n ≠ 0 :=
  ⟨{ State.reset with cmts := [(3, { abort := true })] }.wr AX.CMT_STATUS.STATE 1 3, 3, by decide +kernel⟩
/-- States and operands that meet the hypotheses of each clause of Obligations.LoopRegisterCommands. -/
theorem meets_LoopRegisterCommands :
(∃ (s : State) (m : Fin 64) (n : Fin 48) (v : Word), MayWrite s m (cmpD n) false) ∧
(∃ (s : State) (m : Fin 64) (n : Fin 48) (v : Word), MayWrite s m (cmpQ n) false) ∧
(∃ (s : State) (m : Fin 64) (n : Fin 48) (v : Word), MayWrite s m (cmpS n) false) ∧
(∃ (s : State) (m : Fin 64) (n : Fin 48) (v : Word), MayWrite s m (AX.SPD_CTRL.DIV.addr n) false ∧ s.flag AX.FOC_CTRL.LOCK n = false) ∧
(∃ (s : State) (m : Fin 64) (n : Fin 48) (v : Word), MayWrite s m (AX.SPD_CTRL.DIV.addr n) false ∧ s.flag AX.FOC_CTRL.LOCK n = true) ∧
(∃ (s : State) (m : Fin 64) (n : Fin 48) (v : Word), MayWrite s m (AX.SPD_DERATE.TQ.addr n) true ∧ (s.sx n).derAt ≠ some s.dtime ∧ (s.sx n).ceil =
    none) ∧
(∃ (s : State) (m : Fin 64) (n : Fin 48) (v : Word) (x : Nat), MayWrite s m (AX.SPD_DERATE.TQ.addr n) true ∧ (s.sx n).derAt ≠ some s.dtime ∧ (s.sx
    n).ceil = some x) ∧
(∃ (s : State) (m : Fin 64) (n : Fin 48) (v : Word), MayWrite s m (AX.SPD_DERATE.TQ.addr n) true ∧ (s.sx n).derAt = some s.dtime ∧ (s.sx n).ceil =
    none) :=
  ⟨⟨State.reset, 0, 1, 0, by decide +kernel⟩,
   ⟨State.reset, 0, 1, 7, by decide +kernel⟩,
   ⟨State.reset, 0, 47, 7, by decide +kernel⟩,
   ⟨State.reset.clear AX.FOC_CTRL.LOCK 1, 0, 1, 0xFF, by decide +kernel⟩,
   ⟨State.reset.raise AX.FOC_CTRL.LOCK 1, 0, 1, 0xFF, by decide +kernel⟩,
   ⟨{ State.reset with safAxs := [(1, { ceil := none, derAt := none })] }, 8, 1, 0x12348000, by decide +kernel⟩,
   ⟨{ State.reset with safAxs := [(1, { ceil := some 0x4000, derAt := none })] }, 8, 1, 0x12348000, 0x4000, by decide +kernel⟩,
   ⟨{ State.reset with safAxs := [(1, { ceil := none, derAt := some State.reset.dtime })] }, 8, 1, 0x12348000, by decide +kernel⟩⟩
theorem meets_LoopRegisterCommands_apply : ∃ h : CmpH, h.apply = true := ⟨{ apply := true }, rfl⟩
theorem meets_LoopRegisterCommands_preset : ∃ (s : State) (n : Fin 48), (s.fo n).preset = true ∧ (s.sx n).ss1 = none :=
  ⟨{ State.reset with focs := [(1, { preset := true })] }, 1, rfl, rfl⟩
/-- States and operands that meet the hypotheses of each clause of Obligations.BusChopperCommands. -/
theorem meets_BusChopperCommands :
(∃ (s : State) (b : Fin 8) (v : BallLevel), s.measUp = true ∧ s.flag MF.DCB_STATUS.CHFB b = false ∧ (s.sg b).chfb = false ∧ 1250000 * s.rd
    MF.DCB_CFG.CHFB_TH b + 1024 * 4000 ≤ 1024 * v.uv ∧ (v.since + 7 ≤ s.dtime ∧ (s.sg b).thAt + 7 ≤ s.dtime ∧ s.pwr.measAt + 7 ≤ s.dtime)) ∧
(∃ (s : State) (b : Fin 8) (v : BallLevel), s.measUp = true ∧ s.flag MF.DCB_STATUS.CHFB b = true ∧ 1024 * v.uv + 1024 * 4000 < 1250000 * s.rd
    MF.DCB_CFG.CHFB_TH b) ∧
(∃ (s : State) (b : Fin 8), s.flag BUS.STATUS.CHOP_ON b = true ∧ s.flag MF.DCB_STATUS.CHFB b = false ∧ max (s.sg b).riseAt (s.sg b).curEdge + 6400 ≤
    s.dtime ∧ Room s) ∧
(∃ (s : State) (b : Fin 8), s.flag BUS.STATUS.CHOP_ON b = true ∧ s.rd BUS.CHOP_CFG.MAX_ON b ≠ 0 ∧ (s.sg b).riseAt + s.rd BUS.CHOP_CFG.MAX_ON b *
    msTicks ≤ s.dtime ∧ s.flag MF.DCB_STATUS.CHFB b = true ∧ Room s) ∧
(∃ (s : State) (b : Fin 8), s.flag BUS.STATUS.CHOP_ON b = false ∧ s.flag MF.DCB_STATUS.CHFB b = true ∧ s.flag BUS.STATUS.CHOP_STUCK b = false ∧ max
    ((s.sg b).fallAt.getD 0) (s.sg b).curEdge + 6400 ≤ s.dtime ∧ s.segAxes b = [] ∧ Room s) ∧
(∃ (s : State) (m : Fin 64) (b : Fin 8), MayWrite s m (BUS.STATUS.T2.addr b) false ∧ s.rd BUS.VNOW.V b ≤ s.rd BUS.TH1.TH1_OFF b ∧ s.flag
    BUS.STATUS.T2 b = false) ∧
(∃ (s : State) (m : Fin 64) (b : Fin 8), MayWrite s m (BUS.STATUS.T2.addr b) false ∧ s.rd BUS.TH1.TH1_OFF b < s.rd BUS.VNOW.V b ∧ s.flag
    BUS.STATUS.CHOP_FAULT b = true) ∧
(∃ (s : State) (m : Fin 64) (b : Fin 8), MayWrite s m (BUS.STATUS.T2.addr b) false ∧ s.rd BUS.VNOW.V b ≤ s.rd BUS.TH1.TH1_OFF b ∧ s.flag
    MF.DCB_STATUS.OV b = false) ∧
(∃ (s : State) (b : Fin 8) (uv : Nat), s.measUp = true ∧ s.saf.ovDead = [] ∧ s.flag MF.DCB_STATUS.OV b = false ∧ s.flag BUS.STATUS.T2 b = false ∧
    1250000 * s.rd MF.DCB_CFG.OV_TH b + 1024 * 4000 ≤ 1024 * uv) ∧
(∃ (s : State) (b : Fin 8) (uv : Nat), s.measUp = true ∧ s.flag MF.DCB_STATUS.OV b = true ∧ 1024 * uv + 1024 * 4000 < 1250000 * s.rd
    MF.DCB_CFG.OV_TH b ∧ s.flag BUS.STATUS.NO_SAMPLE b = false ∧ (s.sg b).sat = false) :=
  ⟨⟨{ (((State.reset.raise PWR.START_STATUS.BOOT_OK).clear MF.DCB_STATUS.CHFB 1).wr MF.DCB_CFG.CHFB_TH 1 1).wr PWR.STATE.STATE 0 with segs := [(1, { chfb := false })], pwr := { measAt := 0 }, dtime := 7 }, 1, { uv := 5221, since := 0 }, by decide +kernel⟩,
   ⟨{ (((State.reset.raise PWR.START_STATUS.BOOT_OK).raise MF.DCB_STATUS.CHFB 1).wr MF.DCB_CFG.CHFB_TH 1023 1).wr PWR.STATE.STATE 0 with segs := [(1, { chfb := true })], pwr := { measAt := 0 }, dtime := 7 }, 1, { uv := 0, since := 0 }, by decide +kernel⟩,
   ⟨{ (State.reset.raise BUS.STATUS.CHOP_ON 1).clear MF.DCB_STATUS.CHFB 1 with dtime := 6400 }, 1, by decide +kernel⟩,
   ⟨{ ((State.reset.raise BUS.STATUS.CHOP_ON 1).wr BUS.CHOP_CFG.MAX_ON 1 1).raise MF.DCB_STATUS.CHFB 1 with dtime := msTicks }, 1, by decide +kernel⟩,
   ⟨{ ((((State.reset.clear BUS.STATUS.CHOP_ON 1).raise MF.DCB_STATUS.CHFB 1).clear BUS.STATUS.CHOP_STUCK 1).forEach axes fun s n => s.wr AX.BUS_CFG.SEG 15 n) with dtime := 6400 }, 1, by decide +kernel⟩,
   ⟨((State.reset.wr BUS.VNOW.V 5 1).wr BUS.TH1.TH1_OFF 5 1).clear BUS.STATUS.T2 1, 0, 1, by decide +kernel⟩,
   ⟨((State.reset.wr BUS.VNOW.V 6 1).wr BUS.TH1.TH1_OFF 5 1).raise BUS.STATUS.CHOP_FAULT 1, 0, 1, by decide +kernel⟩,
   ⟨((State.reset.wr BUS.VNOW.V 5 1).wr BUS.TH1.TH1_OFF 5 1).clear MF.DCB_STATUS.OV 1, 0, 1, by decide +kernel⟩,
   ⟨{ (((((State.reset.raise PWR.START_STATUS.BOOT_OK).clear BUS.STATUS.T2 1).clear BUS.STATUS.NO_SAMPLE 1).clear MF.DCB_STATUS.OV 1).wr MF.DCB_CFG.OV_TH 0 1).wr PWR.STATE.STATE 0 with pwr := { measAt := 0 }, saf := { ovDead := [] }, segs := [(1, { sat := false })] }, 1, 4000, by decide +kernel⟩,
   ⟨{ ((((State.reset.raise PWR.START_STATUS.BOOT_OK).clear BUS.STATUS.NO_SAMPLE 1).raise MF.DCB_STATUS.OV 1).wr MF.DCB_CFG.OV_TH 1023 1).wr PWR.STATE.STATE 0 with pwr := { measAt := 0 }, segs := [(1, { sat := false })] }, 1, 0, by decide +kernel⟩⟩
/-- States and operands that meet the hypotheses of each clause of Obligations.BusSampleCommands. -/
theorem meets_BusSampleCommands :
(∃ (s : State) (b : Fin 8) (stamp : Nat) (raw : Fin 65536),
    let v : Int := clampI 0 65535 (Sys2Proof.Machine.correct (raw.val : Int) (s.rdS MF.CAL_OFS.OFS 0 b) (s.rdS MF.CAL_GAIN.GAIN 0 b));
    s.measUp = true ∧ stamp % 320 = 0 ∧ stamp ≤ s.dtime ∧ s.dtime ≤ stamp + 256 ∧ s.flag BUS.STATUS.NO_SAMPLE b = false ∧ v =
    Sys2Proof.Machine.correct (raw.val : Int) (s.rdS MF.CAL_OFS.OFS 0 b) (s.rdS MF.CAL_GAIN.GAIN 0 b) ∧ s.segAxes b = [] ∧ (s.rd BUS.TH1.TH1_ON b :
    Int) ≤ v ∧ s.chopUnavail b = false) ∧
(∃ (s : State) (m : Fin 64) (b : Fin 8) (v : Word), MayWrite s m (BUS.UV.UV.addr b) false ∧ (s.writeFields (BUS.UV.UV.addr b) v.toNat).1.thOrder b =
    true ∧ (s.writeFields (BUS.UV.UV.addr b) v.toNat).2 = .ok) ∧
(∃ (s : State) (m : Fin 64) (b : Fin 8) (which : Fin 3) (v : Word), MayWrite s m (BUS.TH1.TH1_ON.addr b + 4 * which) false ∧ (s.writeFields
    (BUS.TH1.TH1_ON.addr b + 4 * which) v.toNat).1.thOrder b = false) ∧
(∃ (s : State) (m : Fin 64) (b : Fin 8) (v : Word), MayWrite s m (BUS.ACC_CTRL.AUTO.addr b) false ∧ bit v.toNat 1 = false) ∧
(∃ (s : State) (m : Fin 64) (b : Fin 8) (v : Word), MayWrite s m (BUS.ACC_CTRL.AUTO.addr b) false) ∧
(∃ (s : State) (b : Fin 8), s.rd BUS.ACC_CTRL.AUTO b ≠ 0 ∧ (s.sg b).autoRef + s.rd BUS.ACC_CTRL.AUTO b * msTicks ≤ s.dtime) :=
  ⟨⟨{ (((((((State.reset.raise PWR.START_STATUS.BOOT_OK).clear BUS.STATUS.NO_SAMPLE 1).wr MF.CAL_OFS.OFS 0 0 1).wr MF.CAL_GAIN.GAIN 0 0 1).forEach axes fun s n => s.wr AX.BUS_CFG.SEG 15 n).wr BUS.TH1.TH1_ON 50000 1).raise BUS.CTRL.CHOP_PRESENT 1).clear BUS.STATUS.CHOP_FAULT 1 |>.wr PWR.STATE.STATE 0 with pwr := { measAt := 0 }, dtime := 576 }, 1, 320, 50000, by decide +kernel⟩,
   ⟨(((((State.reset.wr BUS.TH1.TH1_OFF 10 1).wr BUS.TH1.TH1_ON 11 1).wr BUS.TH2.V_HOLD 12 1).wr BUS.TH2.TH2 13 1).wr BUS.CTRL.LOCK 0 1), 0, 1, 9, by decide +kernel⟩,
   ⟨((((State.reset.wr BUS.TH1.TH1_OFF 10 1).wr BUS.TH1.TH1_ON 11 1).wr BUS.TH2.V_HOLD 12 1).wr BUS.TH2.TH2 13 1).wr BUS.CTRL.LOCK 0 1, 0, 1, 2, 10, by decide +kernel⟩,
   ⟨State.reset, 0, 1, 0, by decide +kernel⟩,
   ⟨{ State.reset with segs := [(1, { eCapStart := 5, eCapNow := 6, eMot := 2 ^ 64 - 1, eSrc := 9 })] }, 0, 1, 0, by decide +kernel⟩,
   ⟨{ State.reset.wr BUS.ACC_CTRL.AUTO 1 1 with segs := [(1, { eReg := 5, eChop := 2 ^ 64 - 2 })], dtime := msTicks }, 1, by decide +kernel⟩⟩
/-- States and operands that meet the hypotheses of each clause of Obligations.VibrationCommands. -/
theorem meets_VibrationCommands :
(∃ (s : State) (c : Fin 32) (stamp : Nat) (raw : Int), s.flag MF.VIB_CFG.PD c = false ∧ s.flag MF.VIB_CFG.PAIR c = false ∧ s.vibOdd c = false ∧
    s.vibCal = false ∧ s.flag MF.VIB_STATUS.SETTLING c = false ∧ stamp % 1250 = 0 ∧ s.dtime = stamp + s.vibDelay c ∧ s.babLive c = false ∧ absI
    (Sys2Proof.Machine.correct raw (s.rdS MF.CAL_OFS.OFS 0 (8 + c)) (s.rdS MF.CAL_GAIN.GAIN 0 (8 + c))) < 2 ^ 23) ∧
(∃ (s : State) (m : Fin 64) (c : Fin 32) (v : Word), MayWrite s m (MF.VIB_CFG.PD.addr c) false ∧ s.flag MF.VIB_CFG.PD c = true ∧ bit v.toNat 0 =
    false ∧ bit v.toNat 3 = false ∧ s.vibOdd c = false ∧ s.babLive c = false) ∧
(∃ (s : State) (c : Fin 32) (e : Nat), (s.vib c).settleEnd = some e ∧ e ≤ s.dtime) ∧
(∃ (s : State) (c : Fin 32), s.flag MF.VIB_CFG.PAIR c = true) :=
  ⟨⟨{ (((((State.reset.setReg (MF.VIB_CFG.PD.addr 1) 0).setReg (MF.VIB_CFG.PD.addr 0) 0).clear MF.VIB_STATUS.SETTLING 1).wr MF.CAL_OFS.OFS 0 0 9).wr MF.CAL_GAIN.GAIN 0 0 9).forEach (List.range 32) fun s v => s.clear BAB.IN_CFG.EN v with dtime := 9360, cal := none }, 1, 1250, 8388607, by decide +kernel⟩,
   ⟨(State.reset.setReg (MF.VIB_CFG.PD.addr 1) 1).forEach (List.range 32) fun s v => s.clear BAB.IN_CFG.EN v, 0, 1, 0, by decide +kernel⟩,
   ⟨{ State.reset with vibs := [(31, { settleEnd := some 0 })] }, 31, 0, by decide +kernel⟩,
   ⟨State.reset.raise MF.VIB_CFG.PAIR 0, 0, by decide +kernel⟩⟩
/-- States and operands that meet the hypotheses of each clause of Obligations.HousekeepingCommands. -/
theorem meets_HousekeepingCommands :
(∃ (s : State) (m : Fin 64) (k : Fin 4) (v : Word) (e : Nat), MayWrite s m (HK.CTRL.START.addr k) false ∧ s.flag HK.STATUS.RUN k = false ∧ s.flag
    HK.CTRL.PD_AUTO k = false ∧ bit v.toNat 2 = false ∧ bit v.toNat 3 = false ∧ s.hkNext k 64 0 = some e ∧ e < 64) ∧
(∃ (s : State) (m : Fin 64) (k : Fin 4) (v : Word), MayWrite s m (HK.CTRL.START.addr k) false ∧ s.flag HK.STATUS.RUN k = true ∧ (s.hk k).phase =
    .conv ∧ bit v.toNat 3 = false) ∧
(∃ (s : State) (m : Fin 64) (k : Fin 4) (v : Word), MayWrite s m (HK.CTRL.START.addr k) false ∧ (s.hk k).phase = .delay ∧ bit v.toNat 0 = false) ∧
(∃ (s : State) (k : Fin 4) (raw : Int) (t0 : Nat),
    let u : HkH := s.hk k;
    u.urg = none ∧ u.phase = .conv ∧ u.start = some t0 ∧ t0 + acqTicks (bits u.word 11 8) + convTicks ≤ s.dtime ∧ bits u.word 19 12 ≤ u.conv + 1 ∧
    bit u.word 28 = false ∧ u.entry < 64 ∧ u.stop = true) ∧
(∃ (s : State) (k : Fin 4) (e : Nat), (s.hk k).phase = .delay ∧ (s.hk k).delayEnd ≤ s.dtime ∧ (s.hk k).urg = none ∧ (s.hk k).stop = false ∧ bit
    (s.hk k).word 29 = false ∧ (s.hk k).entry < 63 ∧ s.hkNext k 64 ((s.hk k).entry + 1) = some e ∧ e < 64) ∧
(∃ (s : State) (k : Fin 4) (v : Word), (s.hk k).urg = none ∧ (s.hk k).awake = true ∧ s.cal = none) ∧
(∃ (s : State) (n : Fin 48) (e : Nat), (s.hk (n % 4)).wakeAt = some e ∧ e + 640 ≤ s.dtime) ∧
(∃ (s : State) (n : Fin 48) (e : Nat), (s.pw n).wakeAt = some e ∧ e + 640 ≤ s.dtime) :=
  ⟨⟨(((State.reset.clear HK.STATUS.RUN 1).clear HK.CTRL.PD_AUTO 1).wr HK.TABLE.REPEAT 1 1 0), 0, 1, 0, 0, by decide +kernel⟩,
   ⟨{ State.reset.raise HK.STATUS.RUN 1 with hks := [(1, { phase := .conv, entry := 7 })] }, 0, 1, 0, by decide +kernel⟩,
   ⟨{ State.reset with hks := [(1, { phase := .delay })] }, 0, 1, 0, by decide +kernel⟩,
   ⟨{ State.reset with hks := [(1, { phase := .conv, start := some 0, entry := 1, word := 0x1000, stop := true })], dtime := 224 }, 1, 100, 0, by decide +kernel⟩,
   ⟨({ State.reset with hks := [(1, { phase := .delay })] }).wr HK.TABLE.REPEAT 1 1 1, 1, 1, by decide +kernel⟩,
   ⟨{ State.reset with hks := [(1, { awake := true })] }, 1, 0xFF, by decide +kernel⟩,
   ⟨{ State.reset with hks := [(3, { wakeAt := some 0 })], dtime := 640 }, 3, 0, by decide +kernel⟩,
   ⟨{ State.reset with pwms := [(47, { wakeAt := some 0 })], dtime := 640 }, 47, 0, by decide +kernel⟩⟩
/-- States and operands that meet the hypotheses of each clause of Obligations.CalibrationAndMonitorCommands. -/
theorem meets_CalibrationAndMonitorCommands :
(∃ (s : State) (m : Fin 64) (v : Word), MayWrite s m MF.CAL_CMD.START.base true ∧ s.rd SUP.FW_STATUS.STATE = 3 ∧ s.flag MF.CAL_STATUS.BUSY = false) ∧
(∃ (s : State) (m : Fin 64) (v : Word), MayWrite s m MF.CAL_CMD.START.base true ∧ s.rd SUP.FW_STATUS.STATE = 3 ∧ s.flag MF.CAL_STATUS.BUSY = true) ∧
(∃ (s : State) (m : Fin 64) (v : Word), MayWrite s m MF.CAL_CMD.START.base true ∧ s.rd SUP.FW_STATUS.STATE ≠ 3 ∧ s.flag MF.CAL_STATUS.BUSY = false) ∧
(∃ (s : State) (r : RefCheck) (f : List (Nat × Int × Int)) (c : CalH), s.cal = some c ∧ (∀ b ∈ r.buffers, 1000 * absI ((b : Int) - r.bandgap) ≤ 5 *
    (r.bandgap : Int))) ∧
(∃ (s : State) (r : RefCheck) (f : List (Nat × Int × Int)) (c : CalH) (i : Fin 44) (o g : Int), s.cal = some c ∧ calSelected c i = true ∧ ((f.filter
    fun x => decide (x.1 = i.val)) = [(i.val, o, g)]) ∧ (∀ b ∈ r.buffers, 1000 * absI ((b : Int) - r.bandgap) ≤ 5 * (r.bandgap : Int))) ∧
(∃ (s : State) (r : RefCheck) (f : List (Nat × Int × Int)) (c : CalH) (n : Fin 48) (j : Fin 3) (o g : Int),
    let i : Nat := 64 + 3 * n.val + j.val;
    s.cal = some c ∧ calSelected c (64 + 3 * n.val + j.val) = true ∧ ((f.filter fun x => decide (x.1 = 64 + 3 * n.val + j.val)) = [(64 + 3 * n.val +
    j.val, o, g)]) ∧ (∀ b ∈ r.buffers, 1000 * absI ((b : Int) - r.bandgap) ≤ 5 * (r.bandgap : Int))) ∧
(∃ (s : State) (r : RefCheck) (f : List (Nat × Int × Int)) (c : CalH), s.cal = some c ∧ (∃ b ∈ r.buffers, 5 * (r.bandgap : Int) < 1000 * absI ((b :
    Int) - r.bandgap))) ∧
(∃ (s : State) (m : Fin 64) (k : Fin 424) (v : Word),
    let x : MonH := (s.mon k).before s.dtime;
    MayWrite s m (MON.CTRL.SNAP.addr (monBase k)) false) ∧
(∃ (s : State) (k : Fin 424),
    let x : MonH := (s.mon k).before s.dtime;
    s.rd MON.CTRL.AUTO (monBase k) ≠ 0 ∧ (s.mon k).ref + s.rd MON.CTRL.AUTO (monBase k) * msTicks ≤ s.dtime) :=
  ⟨⟨(State.reset.clear MF.CAL_STATUS.BUSY).wr SUP.FW_STATUS.STATE 3, 8, 0x1E, by decide +kernel⟩,
   ⟨(State.reset.raise MF.CAL_STATUS.BUSY).wr SUP.FW_STATUS.STATE 3, 8, 0x18, by decide +kernel⟩,
   ⟨State.reset.wr SUP.FW_STATUS.STATE 2, 8, 0x18, by decide +kernel⟩,
   ⟨{ State.reset with cal := some { sel := 15 } }, { buffers := [995, 1005], bandgap := 1000 }, [(0, 1, 1)], { sel := 15 }, by decide +kernel⟩,
   ⟨{ State.reset with cal := some { sel := 15 } }, { buffers := [995, 1005], bandgap := 1000 }, [(3, 1, 1), (4, 2, 2)], { sel := 15 }, 3, 1, 1, by decide +kernel⟩,
   ⟨{ State.reset with cal := some { sel := 15, skipAx := 0 } }, { buffers := [995, 1005], bandgap := 1000 }, [(69, 1, 1), (70, 2, 2)], { sel := 15, skipAx := 0 }, 1, 2, 1, 1, by decide +kernel⟩,
   ⟨{ State.reset with cal := some { sel := 3 } }, { buffers := [1000, 1006], bandgap := 1000 }, [(0, 1, 1)], { sel := 3 }, by decide +kernel⟩,
   ⟨({ State.reset with mons := [(monBase 392, { acc := -5, cnt := 3, mnT := 8 })] }).setReg (MON.CTRL.SNAP.addr (monBase 392)) 0, 0, 392, 0, by decide +kernel⟩,
   ⟨{ State.reset.wr MON.CTRL.AUTO 1 (monBase 8) with mons := [(monBase 8, { mn := -5, mxT := 3, ovr := 65535 })], dtime := msTicks }, 8, by decide +kernel⟩⟩
/-- States and operands that meet the hypotheses of each clause of Obligations.ObserverNetworkCommands. -/
theorem meets_ObserverNetworkCommands :
(∃ (s : State) (m : Fin 64) (v : Word),
    let kind : Nat := if bits v.toNat 3 2 = 3 then s.rd OBS.LOAD_CMD.KIND else bits v.toNat 3 2;
    MayWrite s m OBS.LOAD_CMD.GO.base true ∧ s.flag OBS.LOAD_STATUS.BUSY = false ∧ bit v.toNat 1 = false) ∧
(∃ (s : State) (m : Fin 64) (v : Word), MayWrite s m OBS.LOAD_CMD.GO.base true ∧ s.flag OBS.LOAD_STATUS.BUSY = true) ∧
(∃ (s : State) (axis kind addr : Nat), s.obsLoad = some (axis, kind, addr) ∧ (s.admitCheck axis kind addr).code = 0) ∧
(∃ (s : State) (axis kind addr : Nat), s.obsLoad = some (axis, kind, addr) ∧ (s.admitCheck axis kind addr).code ≠ 0 ∧ (s.admitCheck axis kind
    addr).unread = 0) ∧
(∃ (s : State) (axis kind addr : Nat), s.obsLoad = some (axis, kind, addr) ∧ 0 < (s.admitCheck axis kind addr).unread) ∧
(∃ (s : State) (m : Fin 64) (v : Word),
    let kind : Nat := if bits v.toNat 3 2 = 3 then s.rd OBS.LOAD_CMD.KIND else bits v.toNat 3 2;
    MayWrite s m OBS.LOAD_CMD.GO.base true ∧ bit v.toNat 0 = false) ∧
(∃ (s : State) (axis kind : Nat) (rest : List (Nat × Nat)), s.obsRemove = (axis, kind) :: rest) :=
  ⟨⟨State.reset.clear OBS.LOAD_STATUS.BUSY, 8, 0x2FC, by decide +kernel⟩,
   ⟨State.reset.raise OBS.LOAD_STATUS.BUSY, 8, 0x2F8, by decide +kernel⟩,
   ⟨({ State.reset with obsLoad := some (0, 0, 0), mem := obsImage, flips := [] }).wr OBS.LIP_LIM.LIM 0xFFFFFFFF 0 0, 0, 0, 0, by decide +kernel⟩,
   ⟨{ State.reset with obsLoad := some (47, 2, 1) }, 47, 2, 1, by decide +kernel⟩,
   ⟨{ State.reset with obsLoad := some (47, 2, 0), flips := [(axfBase, 0), (axfBase, 40)] }, 47, 2, 0, by decide +kernel⟩,
   ⟨{ State.reset with obsRemove := [(1, 1)] }, 8, 0x18, by decide +kernel⟩,
   ⟨{ State.reset with obsRemove := [(47, 2), (1, 1)], nets := [(190, some {})] }, 47, 2, [(1, 1)], by decide +kernel⟩⟩
/-- States and operands that meet the hypotheses of each clause of Obligations.ObserverLaneCommands. -/
theorem meets_ObserverLaneCommands :
(∃ (s : State) (i : LaneEnd 12) (j : JobH) (t0 : Nat), s.laneJob i.lane = some (j, t0) ∧ t0 + j.cost ≤ s.dtime ∧ j.fg = false ∧ (s.fo j.axis).step =
    none ∧ s.jobs = []) ∧
(∃ (s : State) (i : LaneEnd 4) (j : JobH) (t0 : Nat), s.laneJob (12 + i.lane) = some (j, t0) ∧ t0 + j.cost ≤ s.dtime ∧ j.fg = false ∧ (s.fo
    j.axis).step = none ∧ s.pjobs = []) ∧
(∃ (s : State) (n : Fin 48) (st : StepH), (s.fo n).step = some st ∧ st.ts + 488 ≤ s.dtime) ∧
(∃ (s : State) (m : Fin 64) (v : Word), MayWrite s m OBS.LANE_FENCE.FENCE.base true ∧ (∀ i : Fin 16, s.laneJob i = none)) ∧
(∃ (s : State) (m : Fin 64) (n : Fin 48) (v : Word), MayWrite s m (AX.OBS_CFG.ESC_ACT.addr n) false ∧ s.flag AX.OBS_CFG.LOCK n = false) ∧
(∃ (s : State) (m : Fin 64) (n : Fin 48) (v : Word), MayWrite s m (AX.OBS_CFG.ESC_ACT.addr n) false ∧ s.flag AX.OBS_CFG.LOCK n = false ∧ s.flag
    AX.OBS_STATUS.MODE n = true ∧ bit v.toNat 6 = false ∧ s.nets = []) :=
  ⟨⟨{ State.reset with lanes := [(11, some ({ axis := 3, fg := false, cost := 5 }, 0))], dtime := 5 }, { lane := 11, defect := none }, { axis := 3, fg := false, cost := 5 }, 0, by decide +kernel⟩,
   ⟨{ State.reset with lanes := [(15, some ({ axis := 3, fg := false, cost := 5 }, 0))], dtime := 5 }, { lane := 3, defect := none }, { axis := 3, fg := false, cost := 5 }, 0, by decide +kernel⟩,
   ⟨{ State.reset with focs := [(1, { step := some { evals := [{ lane := [1, 2, 3] }] } })], dtime := 488 }, 1, { evals := [{ lane := [1, 2, 3] }] }, by decide +kernel⟩,
   ⟨{ State.reset with lanes := [] }, 8, 0x8001, by decide +kernel⟩,
   ⟨State.reset.clear AX.OBS_CFG.LOCK 1, 0, 1, 0xFFFFFFFF, by decide +kernel⟩,
   ⟨({ State.reset with nets := [] }.clear AX.OBS_CFG.LOCK 1).raise AX.OBS_STATUS.MODE 1, 0, 1, 0, by decide +kernel⟩⟩
/-- States and operands that meet the hypotheses of each clause of Obligations.EngineCommands. -/
theorem meets_EngineCommands :
(∃ (s : State) (m : Fin 64) (v : Word), MayWrite s m INF.ENG_FENCE.FENCE.addr true) ∧
(∃ (s : State) (m : Fin 64) (p : Fin 8) (v : Word), MayWrite s m (ENG.CTRL.RESET.addr p) true ∧ bit v.toNat 0 = true ∧ s.inReset = false) ∧
(∃ (s : State) (p : Fin 8) (x : TileH), s.engUsable p = true ∧ (s.en p).tiles.length < 256 ∧ (bestTile ((List.range 64).flatMap fun c => s.tilesOf c
    p) = some x)) ∧
(∃ (s : State) (p : Fin 8) (k : Fin 256) (x : TileH), (s.en p).tiles[k.val]? = some x) ∧
(∃ (s : State) (p : Fin 8) (x : TileH), (s.en p).issue = none ∧ s.rdBit INF.ENG_STATUS.TEST p = false ∧ s.rd THM.STATUS.LEVEL ≠ 8 ∧ (bestTile
    (((s.en p).tiles.filter (·.staged)).filterMap fun t => (s.cx t.ctx).frame.map fun f => (s.tileRank f t, t)) = some x)) ∧
(∃ (s : State) (p : Fin 8) (x : TileH) (start : Nat) (f : Frame), (s.en p).issue = some (x, start) ∧ (s.cx x.ctx).frame = some f) ∧
(∃ (s : State) (m : Fin 64) (v : Word), MayWrite s m INF.UTIL_CTRL.SNAP.addr false ∧ bit v.toNat 0 = true) ∧
(∃ (s : State), s.rd INF.UTIL_CTRL.AUTO ≠ 0 ∧ s.utilRef + s.rd INF.UTIL_CTRL.AUTO * msTicks ≤ s.dtime) :=
  ⟨⟨State.reset, 8, 0x81, by decide +kernel⟩,
   ⟨{ State.reset with engs := [(7, { tiles := [{ ctx := 0, op := 0, tile := 0, logical := 0, staged := true }] })] }, 8, 7, 1, by decide +kernel⟩,
   ⟨(({ State.reset with ctxs := [(63, { prog := some oneOp, frame := some oneFrame })] }).wr INF.ENG_MAP.MAP 0xFEDCBA98).wr INF.ENG_STATUS.USABLE 255 |>.setReg (CTX.CFG.BASE.addr 63) 0, 0, { ctx := 63, op := 0, tile := 0, logical := 0, staged := false }, by decide +kernel⟩,
   ⟨{ State.reset with engs := [(7, { tiles := [{ ctx := 0, op := 0, tile := 0, logical := 0, staged := false }] })] }, 7, 0, { ctx := 0, op := 0, tile := 0, logical := 0, staged := false }, by decide +kernel⟩,
   ⟨(({ State.reset with engs := [(7, { tiles := [{ ctx := 63, op := 0, tile := 0, logical := 0, staged := true }] })], ctxs := [(63, { frame := some oneFrame })] }).wr INF.ENG_STATUS.TEST 0).wr THM.STATUS.LEVEL 7, 7, { ctx := 63, op := 0, tile := 0, logical := 0, staged := true }, by decide +kernel⟩,
   ⟨{ State.reset with engs := [(7, { issue := some ({ ctx := 63, op := 0, tile := 0, logical := 0, staged := true }, 0) })], ctxs := [(63, { prog := some oneOp, frame := some oneFrame })] }, 7, { ctx := 63, op := 0, tile := 0, logical := 0, staged := true }, 0, oneFrame, by decide +kernel⟩,
   ⟨{ State.reset with engs := [(7, { macEq := 2 ^ 64 })] }, 0, 1, by decide +kernel⟩,
   ⟨{ State.reset.wr INF.UTIL_CTRL.AUTO 1 with dtime := msTicks }, by decide +kernel⟩⟩
/-- States and operands that meet the hypotheses of each clause of Obligations.ContextCommandsAccepted. -/
theorem meets_ContextCommandsAccepted :
(∃ (s : State) (m c : Fin 64), MayWrite s m (CTX.CMD.OP.addr c) true ∧ s.rd SUP.FW_STATUS.STATE = 3 ∧ s.flag CTX.STATUS.BUSY c = false ∧ s.rd
    CTX.STATUS.STATE c ≤ 1) ∧
(∃ (s : State) (m c : Fin 64) (fresh : Bool), MayWrite s m (CTX.CMD.OP.addr c) true ∧ s.rd SUP.FW_STATUS.STATE = 3 ∧ s.rd PWR.STATE.STATE = 0 ∧
    s.flag PWR.STATE.BUSY = false ∧ s.flag CTX.STATUS.BUSY c = false ∧ s.rd CTX.STATUS.STATE c = ctxLoaded ∧ (fresh = true ∨ s.flag
    CTX.STATUS.STATE_LOST c = false)) ∧
(∃ (s : State) (m c : Fin 64), MayWrite s m (CTX.CMD.OP.addr c) true ∧ s.rd SUP.FW_STATUS.STATE = 3 ∧ s.flag CTX.STATUS.BUSY c = false ∧ s.rd
    CTX.STATUS.STATE c = ctxArmed) ∧
(∃ (s : State) (m c : Fin 64) (f : Frame), MayWrite s m (CTX.CMD.OP.addr c) true ∧ s.rd SUP.FW_STATUS.STATE = 3 ∧ s.flag CTX.STATUS.BUSY c = false ∧
    s.rd CTX.STATUS.STATE c = ctxArmed ∧ (s.cx c).frame = some f ∧ f.endCode = none) ∧
(∃ (s : State) (m c : Fin 64), MayWrite s m (CTX.CMD.OP.addr c) true ∧ s.rd SUP.FW_STATUS.STATE = 3 ∧ s.flag CTX.STATUS.BUSY c = false ∧ s.rd
    CTX.STATUS.STATE c = ctxLoaded) ∧
(∃ (s : State) (m c : Fin 64), MayWrite s m (CTX.CMD.OP.addr c) true ∧ s.rd SUP.FW_STATUS.STATE = 3 ∧ s.flag CTX.STATUS.BUSY c = false ∧ (s.rd
    CTX.STATUS.STATE c = ctxLoaded ∨ s.rd CTX.STATUS.STATE c = ctxArmed)) ∧
(∃ (s : State) (m c : Fin 64), MayWrite s m (CTX.CMD.OP.addr c) true ∧ s.rd SUP.FW_STATUS.STATE = 3 ∧ s.flag CTX.STATUS.BUSY c = false ∧ s.rd
    CTX.STATUS.STATE c = ctxLoaded) ∧
(∃ (s : State) (m c : Fin 64), MayWrite s m (CTX.CMD.OP.addr c) true ∧ s.rd SUP.FW_STATUS.STATE = 3 ∧ s.flag CTX.STATUS.BUSY c = false ∧ s.rd
    CTX.STATUS.STATE c = ctxArmed ∧ (s.cx c).disarm = false ∧ (s.cx c).frame = none ∧ s.rd PWR.STATE.STATE = 0 ∧ s.flag INF.STATUS.UNAVAIL = false ∧
    s.flag TWN.CFG.EN = false) ∧
(∃ (s : State) (m c : Fin 64) (fresh : Bool), MayWrite s m (CTX.CMD.OP.addr c) true ∧ s.rd SUP.FW_STATUS.STATE = 3 ∧ s.rd PWR.STATE.STATE = 0 ∧
    s.flag PWR.STATE.BUSY = false ∧ s.flag CTX.STATUS.BUSY c = true ∧ Room s) :=
  ⟨⟨((State.reset.wr SUP.FW_STATUS.STATE 3).clear CTX.STATUS.BUSY 1).wr CTX.STATUS.STATE 1 1, 8, 1, by decide +kernel⟩,
   ⟨((((State.reset.wr SUP.FW_STATUS.STATE 3).clear CTX.STATUS.BUSY 1).wr CTX.STATUS.STATE 1 1).wr PWR.STATE.STATE 0).clear PWR.STATE.BUSY |>.clear CTX.STATUS.STATE_LOST 1, 8, 1, false, by decide +kernel⟩,
   ⟨((State.reset.wr SUP.FW_STATUS.STATE 3).clear CTX.STATUS.BUSY 1).wr CTX.STATUS.STATE 2 1, 8, 1, by decide +kernel⟩,
   ⟨((({ State.reset with ctxs := [(1, { frame := some oneFrame })] }).wr SUP.FW_STATUS.STATE 3).clear CTX.STATUS.BUSY 1).wr CTX.STATUS.STATE 2 1, 8, 1, oneFrame, by decide +kernel⟩,
   ⟨((State.reset.wr SUP.FW_STATUS.STATE 3).clear CTX.STATUS.BUSY 1).wr CTX.STATUS.STATE 1 1, 8, 1, by decide +kernel⟩,
   ⟨((State.reset.wr SUP.FW_STATUS.STATE 3).clear CTX.STATUS.BUSY 1).wr CTX.STATUS.STATE 2 1, 8, 1, by decide +kernel⟩,
   ⟨((State.reset.wr SUP.FW_STATUS.STATE 3).clear CTX.STATUS.BUSY 1).wr CTX.STATUS.STATE 1 1, 8, 1, by decide +kernel⟩,
   ⟨((((State.reset.wr SUP.FW_STATUS.STATE 3).clear CTX.STATUS.BUSY 1).wr CTX.STATUS.STATE 2 1).clear INF.STATUS.UNAVAIL).clear TWN.CFG.EN |>.wr PWR.STATE.STATE 0, 8, 1, by decide +kernel⟩,
   ⟨(((State.reset.wr SUP.FW_STATUS.STATE 3).raise CTX.STATUS.BUSY 1).wr PWR.STATE.STATE 0).clear PWR.STATE.BUSY, 8, 1, false, by decide +kernel⟩⟩
/-- States and operands that meet the hypotheses of each clause of Obligations.ContextCommandsComplete. -/
theorem meets_ContextCommandsComplete :
(∃ (s : State) (c : Fin 64) (k : CtxCmdH) (partner : Option PartnerCtx), (s.cx c).cmd = some k ∧ k.op = 3 ∧ (s.cx c).frame = none ∧ (s.cx c).latched
    = none ∧ s.rd SUP.FW_STATUS.STATE = 3) ∧
(∃ (s : State) (c : Fin 64) (k : CtxCmdH) (partner : Option PartnerCtx), (s.cx c).cmd = some k ∧ k.op = 5 ∧ s.rd SUP.FW_STATUS.STATE = 3) ∧
(∃ (s : State) (c : Fin 64) (partner : Option PartnerCtx), s.rd SUP.FW_STATUS.STATE ≠ 3) ∧
(∃ (s : State) (c : Fin 64) (p : Prog) (f : Frame) (code : Nat), (s.cx c).prog = some p ∧ (s.cx c).frame = some f ∧ f.endCode = some code ∧ (code ≠
    1 ∨ ∀ p : Fin 8, ((s.en p).tiles.any fun x => x.ctx == c) = false) ∧ (s.cx c).latched = none ∧ (s.cx c).cmd = none ∧ s.lockStep c = false) ∧
(∃ (s : State) (c : Fin 64) (p : Prog) (f : Frame), (s.cx c).prog = some p ∧ (s.cx c).frame = some f ∧ f.endCode = none ∧ (((List.range
    p.ops.length).all fun i => f.doneOps.contains i) = true) ∧ (s.cx c).wait = none ∧ (s.cx c).latched = none ∧ (s.cx c).cmd = none ∧ s.lockStep c =
    false ∧ s.flag CTX.DIG_CFG.EN c = false) ∧
(∃ (s : State) (c : Fin 64) (p : Prog) (f : Frame), (s.cx c).prog = some p ∧ (s.cx c).frame = some f ∧ f.endCode = none ∧ s.rd CTX.CFG.WDOG c ≠ 0 ∧
    f.trig.stamp + s.rd CTX.CFG.WDOG c * msTicks ≤ s.dtime ∧ (s.cx c).latched = none ∧ (s.cx c).cmd = none ∧ s.lockStep c = false) ∧
(∃ (s : State) (m c : Fin 64) (v : Word), MayWrite s m (CTX.TRACE_CTRL.ARM.addr c) false ∧ bit v.toNat 0 = true ∧ s.rd CTX.TRACE_BASE c % 64 = 0) ∧
(∃ (s : State) (m c : Fin 64) (v : Word), MayWrite s m (CTX.TRACE_CTRL.ARM.addr c) false ∧ bit v.toNat 0 = true ∧ s.rd CTX.TRACE_BASE c % 64 ≠ 0) ∧
(∃ (s : State) (c : Fin 64) (k : CtxCmdH), (s.cx c).cmd = some k ∧ k.op = 2 ∧ s.flag CTX.DIG_CFG.TWIN c = true ∧ k.at_ + s.rd TWN.CFG.TMO * usTicks
    ≤ s.dtime ∧ Room s) :=
  ⟨⟨{ State.reset.wr SUP.FW_STATUS.STATE 3 with ctxs := [(1, { cmd := some { op := 3 }, disarm := true })] }, 1, { op := 3 }, none, by decide +kernel⟩,
   ⟨{ State.reset.wr SUP.FW_STATUS.STATE 3 with ctxs := [(1, { cmd := some { op := 5 }, prog := some oneOp, places := [{ eng := 0, copy0 := 1, copy1 := 2, len := 1 }] })] }, 1, { op := 5 }, none, by decide +kernel⟩,
   ⟨{ State.reset.wr SUP.FW_STATUS.STATE 2 with ctxs := [(1, { cmd := some { op := 5 } })] }, 1, none, by decide +kernel⟩,
   ⟨(({ State.reset with ctxs := [(1, { prog := some oneOp, frame := some { oneFrame with endCode := some 5 } })] }).clear TWN.CFG.EN).clear BAB.CTX_CFG.EN 1, 1, oneOp, { oneFrame with endCode := some 5 }, 5, by decide +kernel⟩,
   ⟨((({ State.reset with ctxs := [(1, { prog := some oneOp, frame := some { oneFrame with doneOps := [0] } })] }).clear TWN.CFG.EN).clear BAB.CTX_CFG.EN 1).clear CTX.DIG_CFG.EN 1, 1, oneOp, { oneFrame with doneOps := [0] }, by decide +kernel⟩,
   ⟨{ (({ State.reset with ctxs := [(1, { prog := some oneOp, frame := some oneFrame })] }).clear TWN.CFG.EN).clear BAB.CTX_CFG.EN 1 |>.wr CTX.CFG.WDOG 1 1 with dtime := msTicks }, 1, oneOp, oneFrame, by decide +kernel⟩,
   ⟨State.reset.wr CTX.TRACE_BASE 0 1, 0, 1, 1, by decide +kernel⟩,
   ⟨State.reset.wr CTX.TRACE_BASE 32 1, 0, 1, 1, by decide +kernel⟩,
   ⟨{ (({ State.reset with ctxs := [(1, { cmd := some { op := 2 } })] }).raise TWN.CFG.EN).raise CTX.DIG_CFG.TWIN 1 |>.wr TWN.CFG.TMO 0 with dtime := 0 }, 1, { op := 2 }, by decide +kernel⟩⟩
/-- States and operands that meet the hypotheses of each clause of Obligations.QueueCommands. -/
theorem meets_QueueCommands :
(∃ (s : State) (m : Fin 64) (q : Fin 1024) (n : Fin 8192), MayWrite s m (Q.OP.N.addr q) false ∧ s.flag Q.CFG.EN q = true ∧ n.val ≠ 0 ∧ n.val ≤
    s.qFree q) ∧
(∃ (s : State) (m : Fin 64) (q : Fin 1024),
    let a : Nat := s.qSlotAddr q (s.rd Q.SLOTS.POST_SLOT q);
    MayWrite s m (Q.OP.N.addr q) false ∧ s.flag Q.CFG.EN q = true ∧ 1 ≤ s.qFree q ∧ (∀ u ∈ eccWords (a + 8) 8 ++ eccWords (a + 0x28) 4, s.isUe u =
    false)) ∧
(∃ (s : State) (m : Fin 64) (q : Fin 1024) (n : Fin 8192), MayWrite s m (Q.OP.N.addr q) false ∧ s.flag Q.CFG.EN q = true ∧ n.val ≠ 0 ∧ n.val ≤
    s.qPosted q) ∧
(∃ (s : State) (m : Fin 64) (q : Fin 1024) (n : Fin 8192), MayWrite s m (Q.OP.N.addr q) false ∧ s.flag Q.CFG.EN q = true ∧ n.val ≠ 0 ∧ n.val ≤
    s.qTaken q) ∧
(∃ (s : State) (m : Fin 64) (q : Fin 1024) (n : Fin 8192), MayWrite s m (Q.OP.N.addr q) false ∧ s.flag Q.CFG.EN q = true ∧ s.qTaken q < n.val) ∧
(∃ (s : State) (m : Fin 64) (q : Fin 1024) (v : Word), MayWrite s m (Q.CFG.EN.addr q) false ∧ s.qEmpty q = true ∧ bits v.toNat 13 1 ≠ 0) ∧
(∃ (s : State) (m : Fin 64) (q : Fin 1024) (v : Word), MayWrite s m (Q.CFG.EN.addr q) false ∧ s.qEmpty q = false) ∧
(∃ (s : State) (m : Fin 64) (q : Fin 1024) (v : Word), MayWrite s m (Q.BASE.addr q + 4) false ∧ s.qEmpty q = true) :=
  ⟨⟨(((State.reset.setReg (Q.CFG.EN.addr 1) 0x2001).wr Q.CREDITS.CREDITS 4096 1)), 0, 1, 3, by decide +kernel⟩,
   ⟨(((State.reset.setReg (Q.CFG.EN.addr 1) 0x2001).wr Q.CREDITS.CREDITS 1 1)), 0, 1, by decide +kernel⟩,
   ⟨(((State.reset.setReg (Q.CFG.EN.addr 1) 0x2001).wr Q.PROD.PROD 2 1).wr Q.TAKE.TAKE 65535 1), 0, 1, 3, by decide +kernel⟩,
   ⟨(((State.reset.setReg (Q.CFG.EN.addr 1) 0x2001).wr Q.TAKE.TAKE 2 1).wr Q.RET.RET 65535 1), 0, 1, 3, by decide +kernel⟩,
   ⟨(((State.reset.setReg (Q.CFG.EN.addr 1) 0x2001).wr Q.TAKE.TAKE 2 1).wr Q.RET.RET 65535 1), 0, 1, 4, by decide +kernel⟩,
   ⟨(State.reset.wr Q.PROD.PROD 7 1).wr Q.RET.RET 7 1, 0, 1, 0x2001, by decide +kernel⟩,
   ⟨(State.reset.wr Q.PROD.PROD 8 1).wr Q.RET.RET 7 1, 0, 1, 0x2001, by decide +kernel⟩,
   ⟨(State.reset.wr Q.PROD.PROD 7 1).wr Q.RET.RET 7 1, 0, 1, 0xFFFFFFFF, by decide +kernel⟩⟩
theorem meets_DataOperationsRetire : ∃ (s : State) (c : Fin 64) (i : Fin 65536) (p : Prog) (o : OpDef) (f : Frame) (xs : List Opnd),
    s.opReady c i 0x01 = some (p, o, f) ∧ (s.readOpnds c o.logical p o.ins).2 = some xs ∧ s.opReady c 0 0x01 = none :=
  ⟨dataState 0x01, 1, 1, dataProg 0x01, dataOp 0x01, oneFrame, [{ fmt := 1, dims := [1, 1], codes := [0] }, { fmt := 1, dims := [1, 1], codes := [0] }], by
    decide +kernel⟩
theorem meets_ElementwiseResults_1 : ∃ (s : State) (c : Fin 64) (i : Fin 65536) (p : Prog) (o : OpDef) (f : Frame) (a b : Opnd) (out : TensorDef),
    s.opReady c i 0x10 = some (p, o, f) ∧ (s.readOpnds c o.logical p o.ins).2 = some [a, b] ∧
    (∀ k ∈ o.ins ++ o.outs, (p.tensor k).count ≠ 0) ∧ (o.outs = [2] ∧ p.tensor 2 = out) ∧ out.kind = kScratch ∧
    (∀ q ∈ pieces ((s.place c out.logical).scr + out.addr) out.bytes, s.checkAccess (s.ctxMaster c o.logical) q.1 q.2 true (needsSw q.1) = none ∧
      isRegSpace q.1 = false ∧ (∀ u ∈ eccWords q.1 q.2, s.isUe u = false)) ∧ a.dims = out.shape ∧
    b.dims = out.shape :=
  ⟨dataState 0x10, 1, 1, dataProg 0x10, dataOp 0x10, oneFrame, { fmt := 1, dims := [1, 1], codes := [0] }, { fmt := 1, dims := [1, 1], codes := [0] },
    (dataProg 0x10).tensor 2, by decide +kernel⟩
theorem meets_ElementwiseResults_2 : ∃ (s : State) (c : Fin 64) (i : Fin 65536) (p : Prog) (o : OpDef) (f : Frame) (a : Opnd) (out : TensorDef),
    s.opReady c i 0x15 = some (p, o, f) ∧ (s.readOpnds c o.logical p o.ins).2 = some [a] ∧
    (∀ k ∈ o.ins ++ o.outs, (p.tensor k).count ≠ 0) ∧ (o.outs = [2] ∧ p.tensor 2 = out) ∧ out.kind = kScratch ∧
    (∀ q ∈ pieces ((s.place c out.logical).scr + out.addr) out.bytes, s.checkAccess (s.ctxMaster c o.logical) q.1 q.2 true (needsSw q.1) = none ∧
      isRegSpace q.1 = false ∧ (∀ u ∈ eccWords q.1 q.2, s.isUe u = false)) ∧ a.dims = out.shape :=
  ⟨dataState 0x15 [0], 1, 1, dataProg 0x15 [0], { dataOp 0x15 with ins := [0] }, oneFrame, { fmt := 1, dims := [1, 1], codes := [0] },
    (dataProg 0x15 [0]).tensor 2, by decide +kernel⟩
theorem meets_ElementwiseResults_3 : ∃ (s : State) (c : Fin 64) (i : Fin 65536) (p : Prog) (o : OpDef) (f : Frame) (a k b : Opnd) (out : TensorDef),
    s.opReady c i 0x16 = some (p, o, f) ∧ (s.readOpnds c o.logical p o.ins).2 = some [a, k, b] ∧
    (∀ k ∈ o.ins ++ o.outs, (p.tensor k).count ≠ 0) ∧ (o.outs = [2] ∧ p.tensor 2 = out) ∧ out.kind = kScratch ∧
    (∀ q ∈ pieces ((s.place c out.logical).scr + out.addr) out.bytes, s.checkAccess (s.ctxMaster c o.logical) q.1 q.2 true (needsSw q.1) = none ∧
      isRegSpace q.1 = false ∧ (∀ u ∈ eccWords q.1 q.2, s.isUe u = false)) ∧ a.dims = out.shape ∧
    k.n = 1 ∧ b.n = 1 :=
  ⟨dataState 0x16 [0, 1, 0], 1, 1, dataProg 0x16 [0, 1, 0], { dataOp 0x16 with ins := [0, 1, 0] }, oneFrame, { fmt := 1, dims := [1, 1], codes := [0] },
    { fmt := 1, dims := [1, 1], codes := [0] }, { fmt := 1, dims := [1, 1], codes := [0] }, (dataProg 0x16 [0, 1, 0]).tensor 2, by decide +kernel⟩
theorem meets_ElementwiseResults_4 : ∃ (s : State) (c : Fin 64) (i : Fin 65536) (p : Prog) (o : OpDef) (f : Frame) (a k b : Opnd) (out : TensorDef),
    s.opReady c i 0x17 = some (p, o, f) ∧ (s.readOpnds c o.logical p o.ins).2 = some [a, k, b] ∧
    (∀ k ∈ o.ins ++ o.outs, (p.tensor k).count ≠ 0) ∧ (o.outs = [2] ∧ p.tensor 2 = out) ∧ out.kind = kScratch ∧
    (∀ q ∈ pieces ((s.place c out.logical).scr + out.addr) out.bytes, s.checkAccess (s.ctxMaster c o.logical) q.1 q.2 true (needsSw q.1) = none ∧
      isRegSpace q.1 = false ∧ (∀ u ∈ eccWords q.1 q.2, s.isUe u = false)) ∧ a.dims = out.shape ∧
    k.n = 1 ∧ b.n = 1 :=
  ⟨dataState 0x17 [0, 1, 0], 1, 1, dataProg 0x17 [0, 1, 0], { dataOp 0x17 with ins := [0, 1, 0] }, oneFrame, { fmt := 1, dims := [1, 1], codes := [0] },
    { fmt := 1, dims := [1, 1], codes := [0] }, { fmt := 1, dims := [1, 1], codes := [0] }, (dataProg 0x17 [0, 1, 0]).tensor 2, by decide +kernel⟩
theorem meets_MatrixProducts : ∃ (s : State) (c : Fin 64) (i : Fin 65536) (p : Prog) (o : OpDef) (f : Frame) (a b : Opnd) (out : TensorDef) (m k n : Nat),
    s.opReady c i 0x01 = some (p, o, f) ∧ (s.readOpnds c o.logical p o.ins).2 = some [a, b] ∧
    (∀ k ∈ o.ins ++ o.outs, (p.tensor k).count ≠ 0) ∧ (o.outs = [2] ∧ p.tensor 2 = out) ∧ out.kind = kScratch ∧
    (∀ q ∈ pieces ((s.place c out.logical).scr + out.addr) out.bytes, s.checkAccess (s.ctxMaster c o.logical) q.1 q.2 true (needsSw q.1) = none ∧
      isRegSpace q.1 = false ∧ (∀ u ∈ eccWords q.1 q.2, s.isUe u = false)) ∧ a.fmt = fS8 ∧ b.fmt = fS8 ∧
    out.fmt = fS32 ∧ a.dims = [m, k] ∧ b.dims = [k, n] ∧ out.shape = [m, n] ∧ 0 < k ∧ k ≤ 131071 :=
  ⟨dataState 0x01, 1, 1, dataProg 0x01, dataOp 0x01, oneFrame, { fmt := 1, dims := [1, 1], codes := [0] }, { fmt := 1, dims := [1, 1], codes := [0] },
    (dataProg 0x01).tensor 2, 1, 1, 1, by decide +kernel⟩
/-- States and operands that meet the hypotheses of each clause of Obligations.FrameQueueOperations. -/
theorem meets_FrameQueueOperations :
(∃ (s : State) (c : Fin 64) (i : Fin 65536) (p : Prog) (o : OpDef) (f : Frame) (d : List Nat), s.opReady c i 0x60 = some (p, o, f) ∧ f.rerun = false
    ∧ s.qCanTake (s.opQueue c o) = true ∧ (s.threadPeek c o.logical (s.opQueue c o)).2 = some d ∧ s.opQueue c o < 1024 ∧ o.queue ≠ 0xFFFF) ∧
(∃ (s : State) (c : Fin 64) (i : Fin 65536) (p : Prog) (o : OpDef) (f : Frame), s.opReady c i 0x60 = some (p, o, f) ∧ f.rerun = false ∧ s.qCanTake
    (s.opQueue c o) = false) ∧
(∃ (s : State) (c : Fin 64) (i : Fin 65536) (p : Prog) (o : OpDef) (f : Frame), s.opReady c i 0x61 = some (p, o, f) ∧ f.rerun = false ∧ s.qCanPost
    (s.opQueue c o) = true ∧ s.opQueue c o < 1024 ∧ ((o.ins.any fun k => (p.tensor k).count == 0) = false) ∧ (∀ x ∈ pieces (s.qPostAddr (s.opQueue c
    o)) 64, s.checkAccess (s.ctxMaster c o.logical) x.1 x.2 true (needsSw x.1) = none ∧ isRegSpace x.1 = false ∧ (∀ u ∈ eccWords x.1 x.2, s.isUe u =
    false))) ∧
(∃ (s : State) (c : Fin 64) (i : Fin 65536) (p : Prog) (o : OpDef) (f : Frame), s.opReady c i 0x61 = some (p, o, f) ∧ ((o.ins.any fun k => (p.tensor
    k).count == 0) = true)) ∧
(∃ (s : State) (c : Fin 64) (i : Fin 65536) (p : Prog) (o : OpDef) (f : Frame) (a : Nat) (ty : Nat), s.opReady c i 0x61 = some (p, o, f) ∧ f.rerun =
    false ∧ s.qCanPost (s.opQueue c o) = true ∧ s.opQueue c o < 1024 ∧ ((o.ins.any fun k => (p.tensor k).count == 0) = false) ∧ pieces (s.qPostAddr
    (s.opQueue c o)) 64 = [(a, 64)] ∧ isRegSpace a = false ∧ s.checkAccess (s.ctxMaster c o.logical) a 64 true (needsSw a) = some ty ∧ f.endCode =
    none) ∧
(∃ (s : State) (c : Fin 64) (i : Fin 65536) (p : Prog) (o : OpDef) (f : Frame), s.opReady c i 0x62 = some (p, o, f) ∧ f.rerun = false ∧ s.flag
    Q.CFG.EN (s.opQueue c o) = true ∧ o.cnt ≤ s.qTaken (s.opQueue c o) ∧ s.opQueue c o < 1024) ∧
(∃ (s : State) (c : Fin 64) (i : Fin 65536) (p : Prog) (o : OpDef) (f : Frame), s.opReady c i 0x62 = some (p, o, f) ∧ f.rerun = false ∧ s.flag
    Q.CFG.EN (s.opQueue c o) = true ∧ s.qTaken (s.opQueue c o) < o.cnt ∧ s.opQueue c o < 1024) ∧
(∃ (s : State) (c : Fin 64) (i : Fin 65536) (p : Prog) (o : OpDef) (f : Frame) (d : List Nat), s.opReady c i 0x60 = some (p, o, f) ∧ f.rerun = false
    ∧ o.queue = 0xFFFF ∧ (∀ j ∈ List.range i, (p.ops.getD j {}).opcode ≠ 0x60 ∨ (p.ops.getD j {}).queue ≠ 0xFFFF) ∧ s.qCanTake (s.rd CTX.QUEUES.IN_Q
    c) = true ∧ (s.threadPeek c o.logical (s.rd CTX.QUEUES.IN_Q c)).2 = some d) ∧
(∃ (s : State) (c : Fin 64) (i : Fin 65536) (q done : Fin 1024) (src dst len : Nat) (p : Prog) (o : OpDef) (f : Frame), s.opReady c i 0x58 = some
    (p, o, f) ∧ (f.dmaWait.find? (fun x => x.1 == i.val) = none) ∧ s.qCanPost q = true ∧ (∀ x ∈ pieces (s.qPostAddr (q)) 64, s.checkAccess
    (s.ctxMaster c o.logical) x.1 x.2 true (needsSw x.1) = none ∧ isRegSpace x.1 = false ∧ (∀ u ∈ eccWords x.1 x.2, s.isUe u = false))) ∧
(∃ (s : State) (c : Fin 64) (i : Fin 65536) (q done : Fin 1024) (src dst len : Nat) (p : Prog) (o : OpDef) (f : Frame) (d : List Nat), s.opReady c i
    0x58 = some (p, o, f) ∧ (f.dmaWait.find? (fun x => x.1 == i.val) = some (i.val, done.val)) ∧ s.qCanTake done = true ∧ (s.threadPeek c o.logical
    done).2 = some d ∧ (Desc.ofBytes d).type_ = 4) ∧
(∃ (s : State) (c : Fin 64) (i : Fin 65536) (mask : Fin 256) (p : Prog) (o : OpDef) (f : Frame), s.opReady c i 0x63 = some (p, o, f) ∧ (∀ j ∈
    List.range i, bit mask (p.ops.getD j {}).logical = true → f.doneOps.contains j = true)) ∧
(∃ (s : State) (c : Fin 64) (i : Fin 65536) (mask : Fin 256) (p : Prog) (o : OpDef) (f : Frame) (j : Nat), s.opReady c i 0x63 = some (p, o, f) ∧ j <
    i ∧ bit mask (p.ops.getD j {}).logical = true ∧ f.doneOps.contains j = false) ∧
(∃ (s : State) (c : Fin 64) (i : Fin 65536) (p : Prog) (o : OpDef) (f : Frame) (d : List Nat), s.opReady c i 0x64 = some (p, o, f) ∧ (s.readTensor c
    o.logical p (o.ins.getD 0 0xFFFF)).2 = some d) ∧
(∃ (s : State) (c : Fin 64) (i : Fin 65536) (p : Prog) (o : OpDef) (f : Frame), s.opReady c i 0x65 = some (p, o, f)) :=
  ⟨⟨({ State.reset with ctxs := [(1, { prog := some { ops := [{ opcode := 0x60, attr := [2, 0] }] }, frame := some oneFrame })] }.raise Q.CFG.EN 2).wr Q.PROD.PROD 1 2, 1, 0, { ops := [{ opcode := 0x60, attr := [2, 0] }] }, { opcode := 0x60, attr := [2, 0] }, oneFrame, List.replicate 64 0, by decide +kernel⟩,
   ⟨{ State.reset with ctxs := [(1, { prog := some { ops := [{ opcode := 0x60, attr := [2, 0] }] }, frame := some oneFrame })] }.clear Q.CFG.EN 2, 1, 0, { ops := [{ opcode := 0x60, attr := [2, 0] }] }, { opcode := 0x60, attr := [2, 0] }, oneFrame, by decide +kernel⟩,
   ⟨({ State.reset with ctxs := [(1, { prog := some { ops := [{ opcode := 0x61, attr := [2, 0] }] }, frame := some oneFrame })] }.raise Q.CFG.EN 2).wr Q.CFG.DEPTH 3 2, 1, 0, { ops := [{ opcode := 0x61, attr := [2, 0] }] }, { opcode := 0x61, attr := [2, 0] }, oneFrame, by decide +kernel⟩,
   ⟨{ State.reset with ctxs := [(1, { prog := some { ops := [{ opcode := 0x61, attr := [2, 0], ins := [0] }], tensors := [{ fmt := 1, rank := 1, dims := [0] }] }, frame := some oneFrame })] }, 1, 0, { ops := [{ opcode := 0x61, attr := [2, 0], ins := [0] }], tensors := [{ fmt := 1, rank := 1, dims := [0] }] }, { opcode := 0x61, attr := [2, 0], ins := [0] }, oneFrame, by decide +kernel⟩,
   ⟨({ State.reset with ctxs := [(1, { prog := some { ops := [{ opcode := 0x61, attr := [2, 0] }] }, frame := some oneFrame })] }.raise Q.CFG.EN 2).wr Q.CFG.DEPTH 3 2 |>.wr Q.BASE 0x7000000000 2, 1, 0, { ops := [{ opcode := 0x61, attr := [2, 0] }] }, { opcode := 0x61, attr := [2, 0] }, oneFrame, 0x7000000000, vioUnmapped, by decide +kernel⟩,
   ⟨(({ State.reset with ctxs := [(1, { prog := some { ops := [{ opcode := 0x62, attr := [2, 0, 1] }] }, frame := some oneFrame })] }.raise Q.CFG.EN 2).wr Q.TAKE.TAKE 1 2).wr Q.RET.RET 0 2, 1, 0, { ops := [{ opcode := 0x62, attr := [2, 0, 1] }] }, { opcode := 0x62, attr := [2, 0, 1] }, oneFrame, by decide +kernel⟩,
   ⟨(({ State.reset with ctxs := [(1, { prog := some { ops := [{ opcode := 0x62, attr := [2, 0, 1] }] }, frame := some oneFrame })] }.raise Q.CFG.EN 2).wr Q.TAKE.TAKE 1 2).wr Q.RET.RET 1 2, 1, 0, { ops := [{ opcode := 0x62, attr := [2, 0, 1] }] }, { opcode := 0x62, attr := [2, 0, 1] }, oneFrame, by decide +kernel⟩,
   ⟨(({ State.reset with ctxs := [(1, { prog := some { ops := [{ opcode := 0x60, attr := [255, 255] }] }, frame := some oneFrame })], flips := [] }.raise Q.CFG.EN 2).wr Q.PROD.PROD 1 2).wr CTX.QUEUES.IN_Q 2 1 |>.wr Q.TAKE.TAKE 0 2, 1, 0, { ops := [{ opcode := 0x60, attr := [255, 255] }] }, { opcode := 0x60, attr := [255, 255] }, oneFrame, List.replicate 64 0, by decide +kernel⟩,
   ⟨({ State.reset with ctxs := [(1, { prog := some { ops := [{ opcode := 0x58 }] }, frame := some oneFrame })] }.raise Q.CFG.EN 2).wr Q.CFG.DEPTH 3 2, 1, 0, 2, 3, 0, 64, 64, { ops := [{ opcode := 0x58 }] }, { opcode := 0x58 }, oneFrame, by decide +kernel⟩,
   ⟨(({ State.reset with ctxs := [(1, { prog := some { ops := [{ opcode := 0x58 }] }, frame := some { oneFrame with dmaWait := [(0, 3)] } })], mem := [(0, 4)] }.raise Q.CFG.EN 3).wr Q.PROD.PROD 1 3).wr Q.TAKE.TAKE 0 3, 1, 0, 2, 3, 0, 64, 64, { ops := [{ opcode := 0x58 }] }, { opcode := 0x58 }, { oneFrame with dmaWait := [(0, 3)] }, 4 :: List.replicate 63 0, by decide +kernel⟩,
   ⟨{ State.reset with ctxs := [(1, { prog := some { ops := [{ opcode := 0x65, logical := 1 }, { opcode := 0x63 }] }, frame := some oneFrame })] }, 1, 1, 5, { ops := [{ opcode := 0x65, logical := 1 }, { opcode := 0x63 }] }, { opcode := 0x63 }, oneFrame, by decide +kernel⟩,
   ⟨{ State.reset with ctxs := [(1, { prog := some { ops := [{ opcode := 0x65, logical := 1 }, { opcode := 0x63 }] }, frame := some oneFrame })] }, 1, 1, 2, { ops := [{ opcode := 0x65, logical := 1 }, { opcode := 0x63 }] }, { opcode := 0x63 }, oneFrame, 0, by decide +kernel⟩,
   ⟨{ State.reset with ctxs := [(1, { prog := some { ops := [{ opcode := 0x64, ins := [0] }], tensors := [{ fmt := 1, rank := 1, kind := 2, dims := [256] }] }, frame := some oneFrame })], mem := [(7, 9)], flips := [] }, 1, 0, { ops := [{ opcode := 0x64, ins := [0] }], tensors := [{ fmt := 1, rank := 1, kind := 2, dims := [256] }] }, { opcode := 0x64, ins := [0] }, oneFrame, List.replicate 7 0 ++ 9 :: List.replicate 248 0, by decide +kernel⟩,
   ⟨{ State.reset with ctxs := [(1, { prog := some { ops := [{ opcode := 0x65 }] }, frame := some oneFrame })] }, 1, 0, { ops := [{ opcode := 0x65 }] }, { opcode := 0x65 }, oneFrame, by decide +kernel⟩⟩
/-- States and operands that meet the hypotheses of each clause of Obligations.BabbittCommands. -/
theorem meets_BabbittCommands :
(∃ (s : State) (m : Fin 64) (v : Fin 32) (k : Fin 3) (w : Word), MayWrite s m (BAB.IN_CFG.EN.addr v + 4 * k) false ∧ s.babUsers v = [] ∧
    (s.writeFields (BAB.IN_CFG.EN.addr v + 4 * k) w.toNat).2 = .ok) ∧
(∃ (s : State) (m : Fin 64) (v : Fin 32) (k : Fin 3) (w : Word) (x : Fin 64), MayWrite s m (BAB.IN_CFG.EN.addr v + 4 * k) false ∧ x.val ∈ s.babUsers
    v) ∧
(∃ (s : State) (m c : Fin 64) (w : Word) (v : Fin 32), MayWrite s m (BAB.CTX_CFG.EN.addr c) false ∧ s.flag BAB.CTX_CFG.EN c = false ∧ bit w.toNat 0
    = true ∧ bit (s.rd BAB.CTX_IN.VALUE c) v = true ∧ s.flag BAB.IN_CFG.EN v = false) ∧
(∃ (s : State) (m c : Fin 64) (w : Word) (d : List (List Nat)),
    let u : State := (s.writeFields (BAB.CTX_CFG.EN.addr c) (w.toNat - 1)).1;
    MayWrite s m (BAB.CTX_CFG.EN.addr c) false ∧ s.flag BAB.CTX_CFG.EN c = false ∧ bit w.toNat 0 = true ∧ (∀ v : Fin 32, bit (u.rd BAB.CTX_IN.VALUE
    c) v = true → u.flag BAB.IN_CFG.EN v = true ∧ u.rd BAB.CTX_CFG.REVS_L c + u.rd BAB.IN_CFG.PPR_L v ≤ 16 ∧ u.rd BAB.CTX_CFG.REVS_L c + u.rd
    BAB.IN_CFG.PPR_L v + 1 ≤ u.rd BAB.IN_CFG.RL v ∧ u.rd BAB.IN_CFG.ENV_PPR_L v ≤ u.rd BAB.IN_CFG.PPR_L v) ∧ (u.defectTable c).2 = some d ∧ (∀ x ∈
    d, u.badDefect c x = false) ∧ u.rd BAB.CTX_CFG.DEF_N c ≤ 64 ∧ u.rd BAB.CTX_BUF c % 64 = 0) ∧
(∃ (s : State) (m c : Fin 64) (w : Word),
    let u : State := (s.writeFields (BAB.CTX_CFG.EN.addr c) (w.toNat - 1)).1;
    MayWrite s m (BAB.CTX_CFG.EN.addr c) false ∧ s.flag BAB.CTX_CFG.EN c = false ∧ bit w.toNat 0 = true ∧ (u.defectTable c).2 = none) ∧
(∃ (s : State) (m c : Fin 64) (w : Word), MayWrite s m (BAB.CTX_CFG.EN.addr c) false ∧ s.flag BAB.CTX_CFG.EN c = true ∧ bit w.toNat 0 = false ∧
    (s.reg (BAB.CTX_CFG.EN.addr c)).toNat / 2 = w.toNat / 2) ∧
(∃ (s : State) (x : BabClose) (l : List BabClose), s.babCloses = x :: l ∧ s.rd THM.STATUS.LEVEL ≠ 8) ∧
(∃ (s : State) (x : BabClose) (l : List BabClose), s.babCloses = x :: l ∧ s.rd THM.STATUS.LEVEL ≠ 8 ∧ x.en = false ∧ s.flag CTX.QUEUES.IN_NONE x.ctx
    = true) ∧
(∃ (s : State), s.rd THM.STATUS.LEVEL = 8) ∧
(∃ (s : State) (c : Fin 64) (frame fl at_ : Nat) (blk : List Nat) (l : List (Nat × Nat × Nat × List Nat × Nat)), (Tab.get {} s.babCtxs c).apply =
    (frame, 0, fl, blk, at_) :: l ∧ bit fl flLate = false ∧ fieldLE blk 5 1 ≠ 1 ∧ blk ≠ []) ∧
(∃ (s : State) (c : Fin 64) (frame code fl at_ : Nat) (blk : List Nat) (l : List (Nat × Nat × Nat × List Nat × Nat)), (Tab.get {} s.babCtxs c).apply
    = (frame, code, fl, blk, at_) :: l ∧ code ≠ 0 ∧ s.flag BAB.CTX_CFG.MISS_ACT c = false) ∧
(∃ (s : State) (c : Fin 64), s.flag BAB.CTX_CFG.EN c = true ∧ s.rd BAB.CTX_STALE.LOW c ≠ 0 ∧ (Tab.get {} s.babCtxs c).staleRef + s.rd
    BAB.CTX_STALE.LOW c * msTicks ≤ s.dtime) :=
  ⟨⟨State.reset, 0, 31, 0, 0, by decide +kernel⟩,
   ⟨(State.reset.raise BAB.CTX_CFG.EN 5).wr BAB.CTX_IN.VALUE 2 5, 0, 1, 2, 0, 5, by decide +kernel⟩,
   ⟨((State.reset.clear BAB.CTX_CFG.EN 1).clear BAB.IN_CFG.EN 31).wr BAB.CTX_IN.VALUE (2 ^ 31) 1, 0, 1, 0xFFFFFFFF, 31, by decide +kernel⟩,
   ⟨(((((State.reset.clear BAB.CTX_CFG.EN 1).wr BAB.CTX_IN.VALUE (2 ^ 31) 1).raise BAB.IN_CFG.EN 31).wr BAB.IN_CFG.PPR_L 4 31).wr BAB.IN_CFG.ENV_PPR_L 2 31).wr BAB.IN_CFG.RL 16 31 |>.wr BAB.CTX_BUF 64 1, 0, 1, 1, [], by decide +kernel⟩,
   ⟨(State.reset.clear BAB.CTX_CFG.EN 1).wr BAB.DEF_BASE 0x7000000000, 0, 1, 0x01000001, by decide +kernel⟩,
   ⟨(State.reset.clear BAB.CTX_CFG.EN 1).raise BAB.CTX_CFG.EN 1, 0, 1, BitVec.ofNat 32 ((State.reset.reg (BAB.CTX_CFG.EN.addr 1)).toNat / 2 * 2), by decide +kernel⟩,
   ⟨({ State.reset with babCloses := [{ ctx := 1, en := true, late := true }] }.wr THM.STATUS.LEVEL 0), { ctx := 1, en := true, late := true }, [], by decide +kernel⟩,
   ⟨({ State.reset with babCloses := [{ ctx := 1, en := false, late := true }] }.wr THM.STATUS.LEVEL 0).raise CTX.QUEUES.IN_NONE 1, { ctx := 1, en := false, late := true }, [], by decide +kernel⟩,
   ⟨{ State.reset with babCloses := [{}] }.wr THM.STATUS.LEVEL 8, by decide +kernel⟩,
   ⟨{ State.reset with babCtxs := [(1, { apply := [(7, 0, 0, [0, 0, 0, 0, 1, 2], 9), (8, 6, 0, [], 10)] })] }, 1, 7, 0, 9, [0, 0, 0, 0, 1, 2], [(8, 6, 0, [], 10)], by decide +kernel⟩,
   ⟨({ State.reset with babCtxs := [(1, { apply := [(7, 6, 0, [], 9)] })] }).clear BAB.CTX_CFG.MISS_ACT 1, 1, 7, 6, 0, 9, [], [], by decide +kernel⟩,
   ⟨({ State.reset with dtime := 9 * 10^9 }.raise BAB.CTX_CFG.EN 1).wr BAB.CTX_STALE.LOW 1 1, 1, by decide +kernel⟩⟩
/-- States and operands that meet the hypotheses of each clause of Obligations.TwinCommands. -/
theorem meets_TwinCommands :
(∃ (s : State) (c : Fin 64) (frame stamp : Nat) (ty : Fin 256) (param : Nat) (user data : List Nat), s.lockStep c = true ∧ s.flag TWN.CFG.ROLE =
    true ∧ s.flag CTX.QUEUES.IN_NONE c = true ∧ s.rd CTX.STATUS.STATE c = ctxArmed ∧ (s.cx c).disarm = false ∧ s.rd PWR.STATE.STATE = 0 ∧ (s.cx
    c).frame = none ∧ s.flag INF.STATUS.UNAVAIL = false) ∧
(∃ (s : State) (c : Fin 64) (frame stamp : Nat) (ty : Fin 256) (param : Nat) (user data : List Nat), s.lockStep c = true ∧ s.flag TWN.CFG.ROLE =
    true ∧ s.flag CTX.QUEUES.IN_NONE c = false ∧ s.rd CTX.STATUS.STATE c = ctxArmed ∧ (s.cx c).disarm = false ∧ s.rd PWR.STATE.STATE = 0 ∧ s.flag
    INF.STATUS.UNAVAIL = false ∧ ((s.cx c).frame = none ∨ (s.cx c).latched = none) ∧ s.rd CTX.QUEUES.IN_Q c < 1024 ∧ s.qCanPost (s.rd
    CTX.QUEUES.IN_Q c) = true ∧ data = []) ∧
(∃ (s : State) (c : Fin 64) (frame stamp : Nat) (ty : Fin 256) (param : Nat) (user data : List Nat) (f : Frame), s.lockStep c = true ∧ s.flag
    TWN.CFG.ROLE = true ∧ s.flag CTX.QUEUES.IN_NONE c = true ∧ s.rd CTX.STATUS.STATE c = ctxArmed ∧ (s.cx c).disarm = false ∧ s.rd PWR.STATE.STATE =
    0 ∧ s.flag INF.STATUS.UNAVAIL = false ∧ (s.cx c).frame = some f ∧ (s.cx c).latched = none) ∧
(∃ (s : State) (c : Fin 64) (frame stamp : Nat) (ty : Fin 256) (param : Nat) (user data : List Nat), s.lockStep c = false) ∧
(∃ (s : State) (c : Fin 64) (frame : Nat) (kind : Fin 2) (code : Fin 256) (digest : List Nat), s.lockStep c = false) ∧
(∃ (s : State) (c : Fin 64) (kind : Fin 2) (code : Fin 256) (frame : Nat) (digest : List Nat), s.lockStep c = true ∧ (s.cx c).wait = none) ∧
(∃ (s : State) (c : Fin 64) (code : Fin 256) (frame : Nat) (digest : List Nat) (f : Frame) (x : TwinWait) (p : Prog), s.lockStep c = true ∧ (s.cx
    c).prog = some p ∧ (s.cx c).frame = some f ∧ (s.cx c).latched = none ∧ (s.cx c).wait = some x ∧ f.endCode = none ∧ (s.cx c).pkts = [] ∧ f.num =
    frame ∧ frame < 2 ^ 32 ∧ x.kind = 0 ∧ code = 0 ∧ slice digest 0 32 = x.digest ∧ (s.cx c).cmd = none ∧ (s.cx c).disarm = false) ∧
(∃ (s : State) (c : Fin 64) (code : Fin 256) (frame : Nat) (digest : List Nat) (f : Frame) (x : TwinWait), s.lockStep c = true ∧ (s.cx c).frame =
    some f ∧ (s.cx c).wait = some x ∧ f.endCode = none ∧ (s.cx c).pkts = [] ∧ f.num = frame ∧ frame < 2 ^ 32 ∧ x.kind = 0 ∧ code = 0 ∧ slice digest
    0 32 ≠ x.digest ∧ (∀ r ∈ s.copyParts c false, ∀ u ∈ eccWords r.1 r.2, s.isUe u = false) ∧ Room s) ∧
(∃ (s : State) (c : Fin 64) (code : Fin 256) (frame : Nat) (digest : List Nat) (f : Frame) (x : TwinWait) (p : Prog), s.lockStep c = true ∧ (s.cx
    c).prog = some p ∧ (s.cx c).frame = some f ∧ (s.cx c).wait = some x ∧ f.endCode = none ∧ (s.cx c).pkts = [] ∧ f.num = frame ∧ frame < 2 ^ 32 ∧
    x.kind = 1 ∧ code = 0 ∧ slice digest 0 32 ≠ x.digest ∧ s.outRec c f.num % 64 = 0 ∧ f.trace = false ∧ (s.cx c).cmd = none ∧ (s.cx c).latched =
    none) ∧
(∃ (s : State) (c : Fin 64) (x : TwinWait) (f : Frame), (s.cx c).wait = some x ∧ (s.cx c).frame = some f ∧ f.endCode = none ∧ x.at_ + s.rd
    TWN.CFG.TMO * usTicks ≤ s.dtime) ∧
(∃ (s : State) (c : Fin 64) (frame : Nat) (stamp : LeadPost), s.lockStep c = true ∧ s.flag TWN.CFG.ROLE = true ∧ stamp.post + s.rd TWN.CFG.TMO *
    usTicks ≤ s.dtime ∧ (s.cx c).frame = none) ∧
(∃ (s : State) (c : Fin 64) (frame : Nat) (stamp : LeadPost) (p : Prog), s.lockStep c = true ∧ s.flag TWN.CFG.ROLE = true ∧ stamp.post + s.rd
    TWN.CFG.TMO * usTicks ≤ s.dtime ∧ (s.cx c).prog = some p ∧ (s.cx c).frame = none ∧ (s.cx c).latched = none ∧ (s.cx c).cmd = none ∧ s.rd
    CTX.STATUS.STATE c = ctxArmed ∧ (s.cx c).disarm = false ∧ s.rd PWR.STATE.STATE = 0 ∧ s.flag INF.STATUS.UNAVAIL = false ∧ s.flag
    CTX.STATUS.STATE_LOST c = false ∧ s.flag CTX.DIG_STATUS.TWIN_FENCED c = false ∧ (∀ r ∈ s.copyParts c false, ∀ u ∈ eccWords r.1 r.2, s.isUe u =
    false)) ∧
(∃ (s : State) (c : Fin 64) (frame : Nat) (stamp : LeadPost) (f : Frame), s.lockStep c = true ∧ s.flag TWN.CFG.ROLE = true ∧ stamp.post + s.rd
    TWN.CFG.TMO * usTicks ≤ s.dtime ∧ (s.cx c).frame = some f ∧ f.endCode = none ∧ f.num ≠ frame % 2 ^ 32 ∧ (s.cx c).latched = none ∧ s.rd
    CTX.STATUS.STATE c = ctxArmed ∧ (s.cx c).disarm = false ∧ s.rd PWR.STATE.STATE = 0 ∧ s.flag INF.STATUS.UNAVAIL = false) :=
  ⟨⟨((((({ State.reset.wr PWR.STATE.STATE 0 with ctxs := [(1, {})] }.clear INF.STATUS.UNAVAIL).raise CTX.DIG_CFG.TWIN 1).raise TWN.CFG.EN).raise TWN.CFG.ROLE).raise CTX.QUEUES.IN_NONE 1).wr CTX.STATUS.STATE 2 1, 1, 0, 77, 0, 0, [], [], by decide +kernel⟩,
   ⟨((((({ State.reset.wr PWR.STATE.STATE 0 with ctxs := [(1, {})] }.clear INF.STATUS.UNAVAIL).raise CTX.DIG_CFG.TWIN 1).raise TWN.CFG.EN).raise TWN.CFG.ROLE).clear CTX.QUEUES.IN_NONE 1).wr CTX.STATUS.STATE 2 1 |>.raise Q.CFG.EN (State.reset.rd CTX.QUEUES.IN_Q 1 % 1024) |>.wr CTX.QUEUES.IN_Q (State.reset.rd CTX.QUEUES.IN_Q 1 % 1024) 1, 1, 0, 77, 0, 0, [], [], by decide +kernel⟩,
   ⟨((((({ State.reset.wr PWR.STATE.STATE 0 with ctxs := [(1, { frame := some oneFrame })] }.clear INF.STATUS.UNAVAIL).raise CTX.DIG_CFG.TWIN 1).raise TWN.CFG.EN).raise TWN.CFG.ROLE).raise CTX.QUEUES.IN_NONE 1).wr CTX.STATUS.STATE 2 1, 1, 0, 77, 0, 0, [], [], oneFrame, by decide +kernel⟩,
   ⟨State.reset.clear TWN.CFG.EN, 1, 0, 77, 0, 0, [], [], by decide +kernel⟩,
   ⟨State.reset.clear TWN.CFG.EN, 1, 0, 1, 0, [], by decide +kernel⟩,
   ⟨(({ State.reset with ctxs := [(1, { frame := some oneFrame })] }).raise CTX.DIG_CFG.TWIN 1).raise TWN.CFG.EN, 1, 1, 9, 1, [3], by decide +kernel⟩,
   ⟨((((({ State.reset with ctxs := [(1, { prog := some oneOp, frame := some oneFrame, wait := some { digest := List.replicate 32 7 } })] }).raise CTX.DIG_CFG.TWIN 1).raise TWN.CFG.EN).raise TWN.CFG.ROLE)), 1, 0, 1, List.replicate 32 7, oneFrame, { digest := List.replicate 32 7 }, oneOp, by decide +kernel⟩,
   ⟨(({ State.reset with ctxs := [(1, { frame := some oneFrame, wait := some { digest := List.replicate 32 7 } })] }).raise CTX.DIG_CFG.TWIN 1).raise TWN.CFG.EN, 1, 0, 1, [], oneFrame, { digest := List.replicate 32 7 }, by decide +kernel⟩,
   ⟨(({ State.reset with ctxs := [(1, { prog := some oneOp, frame := some oneFrame, wait := some { kind := 1, digest := List.replicate 32 7 } })] }).raise CTX.DIG_CFG.TWIN 1).raise TWN.CFG.EN |>.wr CTX.OUT_BASE 0 1 |>.wr CTX.OUT_STRIDE.STRIDE 64 1, 1, 0, 1, [], oneFrame, { kind := 1, digest := List.replicate 32 7 }, oneOp, by decide +kernel⟩,
   ⟨{ State.reset with ctxs := [(1, { frame := some oneFrame, wait := some {} })], dtime := 10 ^ 9 }, 1, {}, oneFrame, by decide +kernel⟩,
   ⟨(({ State.reset with dtime := 10 ^ 9, ctxs := [(1, {})] }.raise CTX.DIG_CFG.TWIN 1).raise TWN.CFG.EN).raise TWN.CFG.ROLE, 1, 1, { trig := 0, post := 0 }, by decide +kernel⟩,
   ⟨(((({ State.reset.wr PWR.STATE.STATE 0 with dtime := 10 ^ 9, ctxs := [(1, { prog := some oneOp })] }.raise CTX.DIG_CFG.TWIN 1).raise TWN.CFG.EN).raise TWN.CFG.ROLE).clear INF.STATUS.UNAVAIL).wr CTX.STATUS.STATE 2 1 |>.clear CTX.STATUS.STATE_LOST 1 |>.clear CTX.DIG_STATUS.TWIN_FENCED 1, 1, 1, { trig := 0, post := 5 }, oneOp, by decide +kernel⟩,
   ⟨(((({ State.reset.wr PWR.STATE.STATE 0 with dtime := 10 ^ 9, ctxs := [(1, { frame := some oneFrame })] }.raise CTX.DIG_CFG.TWIN 1).raise TWN.CFG.EN).raise TWN.CFG.ROLE).clear INF.STATUS.UNAVAIL).wr CTX.STATUS.STATE 2 1, 1, 2, { trig := 0, post := 5 }, oneFrame, by decide +kernel⟩⟩
/-- States and operands that meet the hypotheses of each clause of Obligations.MemoryAccesses. -/
theorem meets_MemoryAccesses :
(∃ (s : State) (m : Fin 64) (a n : Nat) (data : List Nat) (errs : List (Nat × Nat)),
    let u : State := s.forEach errs State.flipBit;
    isRegSpace a = false ∧ isOutbound a = false ∧ s.checkAccess m a data.length true false = none ∧ a % 64 + data.length ≤ 64 ∧ 0 < data.length ∧ (∀
    x ∈ eccWords a data.length, u.isUe x = false)) ∧
(∃ (s : State) (m : Fin 64) (a n : Nat) (data : List Nat) (errs : List (Nat × Nat)), isRegSpace a = false ∧ isOutbound a = false ∧ s.checkAccess m a
    data.length true false = none ∧ a % eccSize a = 0 ∧ data.length = eccSize a) ∧
(∃ (s : State) (m : Fin 64) (a n : Nat) (data : List Nat) (errs : List (Nat × Nat)) (x : Nat),
    let u : State := s.forEach errs State.flipBit;
    isRegSpace a = false ∧ isOutbound a = false ∧ s.checkAccess m a data.length true false = none ∧ eccWords a data.length = [x] ∧ data.length <
    eccSize a ∧ 0 < data.length ∧ u.isUe x = true) ∧
(∃ (s : State) (m : Fin 64) (a n : Nat) (data : List Nat) (errs : List (Nat × Nat)),
    let u : State := s.forEach errs State.flipBit;
    isRegSpace a = false ∧ isOutbound a = false ∧ s.checkAccess m a n false false = none ∧ a % 64 + n ≤ 64 ∧ 0 < n ∧ (∀ x ∈ eccWords a n, u.isUe x =
    false)) ∧
(∃ (s : State) (m : Fin 64) (a n : Nat) (data : List Nat) (errs : List (Nat × Nat)) (x : Nat),
    let u : State := s.forEach errs State.flipBit;
    isRegSpace a = false ∧ isOutbound a = false ∧ s.checkAccess m a n false false = none ∧ 0 < n ∧ eccWords a n = [x] ∧ a < 0x1000000000 ∧ u.isCe x
    = true) ∧
(∃ (s : State) (m : Fin 64) (a n : Nat) (data : List Nat) (errs : List (Nat × Nat)) (x : Nat),
    let u : State := s.forEach errs State.flipBit;
    isRegSpace a = false ∧ isOutbound a = false ∧ s.checkAccess m a n false false = none ∧ a % 64 + n ≤ 64 ∧ 0 < n ∧ x ∈ eccWords a n ∧ u.isUe x =
    true) ∧
(∃ (s : State) (m : Fin 64) (a n : Nat) (write : Bool) (data : List Nat) (errs : List (Nat × Nat)) (ty : Nat), isOutbound a = false ∧ write = true ∧
    s.checkAccess m a data.length true (swOf a (ofLE (data.map (· % 256)))) = some ty ∧ 0 < data.length ∧ (s.vioNow (nearestTarget a)).hi ≤ m) ∧
(∃ (s : State) (m : Fin 64) (a n : Nat) (data : List Nat) (errs : List (Nat × Nat)) (ty : Nat), isOutbound a = false ∧ s.checkAccess m a n false
    false = some ty ∧ 0 < n ∧ (s.vioNow (nearestTarget a)).hi ≤ m) ∧
(∃ (s : State) (m : Fin 64) (a n : Nat) (data : List Nat) (errs : List (Nat × Nat)) (ty : Nat), isOutbound a = false ∧ s.checkAccess m a n false
    false = some ty ∧ 0 < n ∧ m < (s.vioNow (nearestTarget a)).hi) :=
  ⟨⟨State.reset, 0, 0x12345, 0, [1, 2, 0, 300], [], by decide +kernel⟩,
   ⟨{ State.reset with flips := [(0x1000000008, 3), (0x1000000008, 4)] }, 8, 0x1000000008, 0, [1, 2, 3, 4, 5, 6, 7, 256], [(0x1000000008, 5)], by decide +kernel⟩,
   ⟨State.reset, 0, 0x12345, 0, [1], [(0x12345, 0), (0x12345, 16)], 0x12340, by decide +kernel⟩,
   ⟨{ State.reset with mem := [(0x12345, 9)] }, 0, 0x12345, 4, [], [], by decide +kernel⟩,
   ⟨{ State.reset with mem := [(0x12345, 9)] }, 0, 0x12345, 4, [], [(0x12345, 0)], 0x12340, by decide +kernel⟩,
   ⟨State.reset, 0, 0x12345, 4, [], [(0x12345, 0), (0x12345, 16)], 0x12340, by decide +kernel⟩,
   ⟨State.reset, 0, 0x3000000000, 0, true, [1], [], 1, by decide +kernel⟩,
   ⟨State.reset, 0, 0x1010000000, 4, [1], [], 3, by decide +kernel⟩,
   ⟨{ State.reset with vios := (List.range 12).map fun k => (k, { at_ := some State.reset.dtime, hi := 9, first := some 9 }) }, 8, 0x1010000000, 4, [1], [], 3, by decide +kernel⟩⟩
/-- States and operands that meet the hypotheses of each clause of Obligations.MemoryServiceCommands. -/
theorem meets_MemoryServiceCommands :
(∃ (s : State) (a : Nat) (errs : List (Nat × Nat)),
    let u : State := s.forEach errs State.flipBit;
    u.eccSyms (a / 64 * 64) = []) ∧
(∃ (s : State) (a : Nat) (errs : List (Nat × Nat)),
    let u : State := s.forEach errs State.flipBit;
    s.flag MEM.ECC_CTRL.SCRUB_EN = true ∧ a < s.rd MEM.TOP ∧ a < 0x1000000000 ∧ u.isCe (a / 64 * 64) = true ∧ s.scrubPass.done.contains (a / 64) =
    false) ∧
(∃ (s : State) (a : Nat) (errs : List (Nat × Nat)),
    let u : State := s.forEach errs State.flipBit;
    s.flag MEM.ECC_CTRL.SCRUB_EN = true ∧ a < s.rd MEM.TOP ∧ a < 0x1000000000 ∧ s.flag MEM.ECC_STATUS.FIRST_VALID = false ∧ u.isUe (a / 64 * 64) =
    true ∧ s.scrubPass.done.contains (a / 64) = false) ∧
(∃ (s : State) (a : Nat) (errs : List (Nat × Nat)), s.scrubPass.done.contains (a / 64) = true) ∧
(∃ (s : State) (m : Fin 64) (v : Word), MayWrite s m MEM.CH_RETIRE.RETIRE.addr true) ∧
(∃ (s : State) (m : Fin 64) (x : Fin 10) (k : Fin 1024) (v : Word), MayWrite s m (AT.WIN_BASE.BASE.addr x k) true ∧ s.flag AT.CTRL.LOCK x = false) ∧
(∃ (s : State) (m : Fin 64) (x : Fin 10) (k : Fin 1024) (v : Word), MayWrite s m (AT.WIN_ATTR.EN.addr x k) true ∧ s.flag AT.CTRL.LOCK x = false) ∧
(∃ (s : State) (m : Fin 64) (x : Fin 10) (k : Fin 1024) (i : Fin 3) (v : Word), MayWrite s m (AT.WIN_BASE.BASE.addr x k + 4 * i) true ∧ s.flag
    AT.CTRL.LOCK x = true ∧ m ≠ 0x3F ∧ (s.vioNow (nearestTarget (AT.WIN_BASE.BASE.addr x k + 4 * i))).hi ≤ m) ∧
(∃ (s : State) (m : Fin 64) (x : Fin 10) (v : Word), MayWrite s m (AT.CTRL.LOCK.addr x) true ∧ bit v.toNat 0 = true) :=
  ⟨⟨{ State.reset with flips := [] }, 64, [], by decide +kernel⟩,
   ⟨{ (State.reset.raise MEM.ECC_CTRL.SCRUB_EN).wr MEM.TOP 0x0F00000000 with flips := [(64, 9)], scrub := {} }, 64, [], by decide +kernel⟩,
   ⟨{ (State.reset.raise MEM.ECC_CTRL.SCRUB_EN).wr MEM.TOP 0x0F00000000 with flips := [(64, 0), (64, 16)], scrub := {} }.clear MEM.ECC_STATUS.FIRST_VALID, 100, [], by decide +kernel⟩,
   ⟨{ State.reset with scrub := { since := State.reset.dtime + 5, done := [1] } }, 100, [], by decide +kernel⟩,
   ⟨State.reset, 8, 0xFFFF8001, by decide +kernel⟩,
   ⟨State.reset.clear AT.CTRL.LOCK 9, 8, 9, 1023, 0xFFFFFFFF, by decide +kernel⟩,
   ⟨State.reset.clear AT.CTRL.LOCK 9, 8, 9, 1023, 0xF, by decide +kernel⟩,
   ⟨State.reset.raise AT.CTRL.LOCK 9, 8, 9, 1023, 1, 0xFFFFFFFF, by decide +kernel⟩,
   ⟨State.reset, 8, 9, 0xFFFFFFFF, by decide +kernel⟩⟩
/-- States and operands that meet the hypotheses of each clause of Obligations.FirmwareCommands. -/
theorem meets_FirmwareCommands :
(∃ (s : State) (m : Fin 64) (v : Word), MayWrite s m SUP.FW_CMD.LOAD.base false ∧ bit v.toNat 0 = true ∧ (s.rd SUP.FW_STATUS.STATE = fwNone ∨ s.rd
    SUP.FW_STATUS.STATE = fwFailed)) ∧
(∃ (s : State) (m : Fin 64) (v : Word), MayWrite s m SUP.FW_CMD.LOAD.base false ∧ bit v.toNat 0 = true ∧ (s.rd SUP.FW_STATUS.STATE = fwLoading ∨
    s.rd SUP.FW_STATUS.STATE = fwStarting ∨ s.rd SUP.FW_STATUS.STATE = fwRunning)) ∧
(∃ (s : State), s.rd SUP.FW_STATUS.STATE = fwLoading ∧ s.sup.addr % 64 = 0 ∧ s.imagePlace s.sup.addr 2560 = true ∧ (s.masterRead 8 s.sup.addr
    2560).2 = .ok (List.replicate 2560 0) ∧ Room s) ∧
(∃ (s : State), s.rd SUP.FW_STATUS.STATE = fwLoading ∧ (s.sup.addr % 64 ≠ 0 ∨ s.imagePlace s.sup.addr 2560 = false) ∧ Room s) ∧
(∃ (s : State), s.rd SUP.FW_STATUS.STATE = fwStarting ∧ Room s) ∧
(∃ (s : State), s.rd SUP.FW_STATUS.STATE = fwStarting ∧ Room s) ∧
(∃ (s : State) (x : Nat), s.sup.loadAt = some x ∧ x + 150 * msTicks ≤ s.dtime ∧ Room s) ∧
(∃ (s : State) (m : Fin 64) (v : Word), MayWrite s m SUP.CTRL.SUP_RESET.base false ∧ bit v.toNat 0 = true ∧ s.inReset = false) ∧
(∃ (s : State) (m : Fin 64) (v : Word), MayWrite s m SUP.CTRL.SUP_RESET.base false ∧ bit v.toNat 0 = false) ∧
(∃ (s : State), s.rd SUP.FW_STATUS.STATE = fwRunning ∧ s.inReset = false) ∧
(∃ (s : State), s.rd SUP.FW_STATUS.STATE = fwRunning ∧ s.inReset = false) :=
  ⟨⟨State.reset.wr SUP.FW_STATUS.STATE 4, 0, 1, by decide +kernel⟩,
   ⟨State.reset.wr SUP.FW_STATUS.STATE 2, 0, 1, by decide +kernel⟩,
   ⟨State.reset.wr SUP.FW_STATUS.STATE 1, by decide +kernel⟩,
   ⟨{ State.reset with sup := { State.reset.sup with addr := 0x1100000000 } }.wr SUP.FW_STATUS.STATE 1, by decide +kernel⟩,
   ⟨State.reset.wr SUP.FW_STATUS.STATE 2, by decide +kernel⟩,
   ⟨State.reset.wr SUP.FW_STATUS.STATE 2, by decide +kernel⟩,
   ⟨{ State.reset with sup := { State.reset.sup with loadAt := some 0 }, dtime := 10 ^ 9 }, 0, by decide +kernel⟩,
   ⟨State.reset, 0, 1, by decide +kernel⟩,
   ⟨State.reset, 0, 2, by decide +kernel⟩,
   ⟨State.reset.wr SUP.FW_STATUS.STATE 3, by decide +kernel⟩,
   ⟨State.reset.wr SUP.FW_STATUS.STATE 3, by decide +kernel⟩⟩
theorem meets_FirmwareCommands_3 : ∃ (s : State) (g d : List Nat),
    let a := s.sup.addr
    let r := s.masterRead 8 a 2560
    let q := r.1.masterRead 8 (a + 2560) (fieldLE g 0x14 4 - 2560)
    s.rd SUP.FW_STATUS.STATE = fwLoading ∧ a % 64 = 0 ∧ s.imagePlace a 2560 = true ∧ r.2 = .ok g ∧ fwHeaderOk g = true ∧
    r.1.imagePlace a (fieldLE g 0x14 4) = true ∧ q.2 = .ok d ∧ sha3 d = slice g 0x40 32 ∧ fieldLE g 0x38 4 < 4 ∧ bit s.sup.revoked (fieldLE g 0x38 4) = false := by
  have e : fwState.masterRead 8 0 2560 = (fwState, .ok (fwState.readMem 0 2560)) :=
    State.masterRead_mem _ _ _ _ (by decide +kernel) (by decide +kernel) (by decide +kernel)
  have f : fwState.readMem 0 2560 = fwHead ++ List.replicate 2464 0 := by
    rw [show 2560 = 96 + 2464 from rfl, State.readMem_append, State.readMem_far fwState (0 + 96) 2464 (by decide +kernel)]
    exact congrArg (· ++ List.replicate 2464 0) (by decide +kernel : fwState.readMem 0 96 = fwHead)
  have n : fieldLE (fwHead ++ List.replicate 2464 0) 0x14 4 = 2624 := by decide +kernel
  have a : fwState.sup.addr = 0 := by decide +kernel
  refine ⟨fwState, fwHead ++ List.replicate 2464 0, List.replicate 64 0, ?_⟩
  simp only [a, e, f, n, Nat.zero_add]
  exact ⟨by decide +kernel, by decide +kernel, by decide +kernel, trivial, by decide +kernel, by decide +kernel, by decide +kernel, by decide +kernel, by decide +kernel, by decide +kernel⟩
/-- States and operands that meet the hypotheses of each clause of Obligations.MailboxProtocol. -/
theorem meets_MailboxProtocol :
(∃ (s : State) (m : Fin 64) (k : Fin 64) (x : Fin 16) (v : Word), MayWrite s m (MB.REQ.DATA.addr x k) false ∧ s.flag MB.STATUS.PENDING x = false ∧
    s.flag MB.STATUS.BUSY x = false) ∧
(∃ (s : State) (m : Fin 64) (k : Fin 64) (x : Fin 16) (v : Word), MayWrite s m (MB.REQ.DATA.addr x k) false ∧ (s.flag MB.STATUS.PENDING x = true ∨
    s.flag MB.STATUS.BUSY x = true)) ∧
(∃ (s : State) (m : Fin 64) (x : Fin 16) (v : Word), MayWrite s m (MB.DOORBELL.RING.addr x) false ∧ bit v.toNat 0 = true ∧ s.flag MB.GLOBAL.READY =
    true ∧ s.flag MB.STATUS.PENDING x = false ∧ s.flag MB.STATUS.BUSY x = false ∧ s.flag MB.STATUS.REPLY x = false) ∧
(∃ (s : State) (m : Fin 64) (x : Fin 16) (v : Word), MayWrite s m (MB.DOORBELL.RING.addr x) false ∧ bit v.toNat 0 = true ∧ (s.flag MB.GLOBAL.READY =
    false ∨ s.flag MB.STATUS.PENDING x = true ∨ s.flag MB.STATUS.BUSY x = true ∨ s.flag MB.STATUS.REPLY x = true)) ∧
(∃ (s : State) (x : Nat), s.mbNext = some x ∧ s.mbHeader x (s.mbRequest x) = mbOk) ∧
(∃ (s : State) (x : Nat), s.mbNext = some x ∧ mbLength (fieldLE (s.mbRequest x) 0 2) = none) ∧
(∃ (s : State), s.mbNext = none) ∧
(∃ (s : State) (x : Fin 16) (y : MbCmdH) (st d : Nat) (pl : List Nat), s.mb x = some y ∧ y.begun = true ∧ y.result = some (st, d, pl) ∧ y.op ≠
    0x00A0) ∧
(∃ (s : State) (x : Fin 16) (y : MbCmdH) (st : Fin 4), s.mb x = some y ∧ y.begun = true ∧ y.result = some (mbOk, 0, []) ∧ y.op = 0x00A0 ∧ fieldLE
    y.payload 0 1 = st ∧ st.val ≠ s.rd PWR.STATE.STATE ∧ s.powerOk st = true) ∧
(∃ (s : State) (x : Fin 16) (y : MbCmdH) (st : Fin 4), s.mb x = some y ∧ y.begun = true ∧ y.result = some (mbOk, 0, []) ∧ y.op = 0x00A0 ∧ fieldLE
    y.payload 0 1 = st ∧ st.val ≠ s.rd PWR.STATE.STATE ∧ s.powerOk st = false) ∧
(∃ (s : State) (m : Fin 64) (x : Fin 16) (v : Word), MayWrite s m (MB.ACK.ACK.addr x) false ∧ bit v.toNat 0 = true) ∧
(∃ (s : State) (x : Fin 16) (y : MbCmdH), s.mb x = some y ∧ y.result = none ∧ s.mbHeld y = false ∧ y.taken + s.mbBound y * usTicks ≤ s.dtime) :=
  ⟨⟨(State.reset.clear MB.STATUS.PENDING 15).clear MB.STATUS.BUSY 15, 0, 63, 15, 0xFFFFFFFF, by decide +kernel⟩,
   ⟨State.reset.raise MB.STATUS.BUSY 15, 0, 63, 15, 0xFFFFFFFF, by decide +kernel⟩,
   ⟨(((State.reset.clear MB.STATUS.PENDING 15).clear MB.STATUS.BUSY 15).clear MB.STATUS.REPLY 15).raise MB.GLOBAL.READY, 0, 15, 1, by decide +kernel⟩,
   ⟨State.reset.raise MB.STATUS.REPLY 15, 0, 15, 1, by decide +kernel⟩,
   ⟨((((List.range 15).foldl (fun y k => y.clear MB.STATUS.PENDING k) State.reset).raise MB.STATUS.PENDING 15).wr MB.REQ.DATA 2 15 0).wr MB.REQ.DATA 0 15 2 |>.wr MB.REQ.DATA 0 15 3, 15, by decide +kernel⟩,
   ⟨((((List.range 15).foldl (fun y k => y.clear MB.STATUS.PENDING k) State.reset).raise MB.STATUS.PENDING 15).wr MB.REQ.DATA 0 15 0), 15, by decide +kernel⟩,
   ⟨(List.range 16).foldl (fun y k => y.clear MB.STATUS.PENDING k) State.reset, by decide +kernel⟩,
   ⟨{ State.reset with mbs := [(15, some { op := 0x42, tag := 2 ^ 32 + 7, begun := true, result := some (6, 1, [1, 2]) })] }, 15, { op := 0x42, tag := 2 ^ 32 + 7, begun := true, result := some (6, 1, [1, 2]) }, 6, 1, [1, 2], by decide +kernel⟩,
   ⟨{ State.reset with mbs := [(15, some { op := 0xA0, payload := [2, 0, 0, 0], begun := true, result := some (0, 0, []) })] }.wr PWR.STATE.STATE 1 |>.clear PWR.STATE.BUSY, 15, { op := 0xA0, payload := [2, 0, 0, 0], begun := true, result := some (0, 0, []) }, 2, by decide +kernel⟩,
   ⟨{ State.reset with mbs := [(15, some { op := 0xA0, payload := [2, 0, 0, 0], begun := true, result := some (0, 0, []) })] }.wr PWR.STATE.STATE 1 |>.raise PWR.STATE.BUSY, 15, { op := 0xA0, payload := [2, 0, 0, 0], begun := true, result := some (0, 0, []) }, 2, by decide +kernel⟩,
   ⟨State.reset.raise MB.STATUS.REPLY 15, 0, 15, 1, by decide +kernel⟩,
   ⟨{ State.reset with mbs := [(15, some { op := 0x42, begun := true })], dtime := 10 ^ 9 }, 15, { op := 0x42, begun := true }, by decide +kernel⟩⟩
/-- States and operands that meet the hypotheses of each clause of Obligations.MailboxCommands. -/
theorem meets_MailboxCommands :
(∃ (s : State) (b : Fin 16) (p : List Nat), Taken s b 0x0001 p ∧ s.flag MB.GLOBAL.POLICY = false ∧ p = [1, 0, 0, 0, 1, 0, 0, 0] ++ List.replicate 12
    0 ∧ s.sup.fw.vers.head? = some (1, 0)) ∧
(∃ (s : State) (b : Fin 16) (p : List Nat), Taken s b 0x0002 p ∧ p.length ≤ 232) ∧
(∃ (s : State) (b : Fin 16) (n : Fin 48), Taken s b 0x0010 [n, 0, 0, 0] ∧ s.releaseCode n = 0) ∧
(∃ (s : State) (b : Fin 16) (n : Fin 48), Taken s b 0x0010 [n, 0, 0, 0] ∧ s.flag SAF.STATUS.STATE = false) ∧
(∃ (s : State) (b : Fin 16) (n : Fin 256), Taken s b 0x0010 [n, 0, 0, 0] ∧ 48 ≤ n.val) ∧
(∃ (s : State) (b : Fin 16) (n : Fin 48), Taken s b 0x0011 [n, 0, 0, 0] ∧ s.axOn n = false) ∧
(∃ (s : State) (b : Fin 16) (n : Fin 48), Taken s b 0x0011 [n, 0, 0, 0] ∧ s.axOn n = true) ∧
(∃ (s : State) (b : Fin 16) (x : Fin 2) (n : Fin 48), Taken s b 0x0012 [x, n, 1, 0] ∧ MayWrite s 8 (PXB.MAP.AXIS.addr 0 x) true ∧ s.flag
    PXB.STATUS.BUSY = true) ∧
(∃ (s : State) (b : Fin 16) (x : Fin 2) (n : Fin 48), Taken s b 0x0012 [x, n, 1, 0] ∧ MayWrite s 8 (PXB.MAP.AXIS.addr 0 x) true ∧ s.flag
    PXB.MAP.VALID 0 x = false ∧ s.flag PXB.MAP.VALID 0 (1 - x) = false ∧ s.flag PXB.STATUS.BUSY = false ∧ s.axOn n = false ∧ s.rdBit AGE.PFENCE_AX
    (48 + x) = false) ∧
(∃ (s : State) (b : Fin 16) (x : Fin 16), Taken s b 0x0020 [x, 0, 0, 0] ∧ MayWrite s 8 MF.CAL_CMD.START.base true ∧ s.rd SUP.FW_STATUS.STATE =
    fwRunning ∧ s.flag MF.CAL_STATUS.BUSY = false) ∧
(∃ (s : State) (b : Fin 16) (n : Fin 48) (k : Fin 3) (a : Fin 128), Taken s b 0x0030 [n, k, 0, 0, 0, a, 0, 0] ∧ MayWrite s 8 OBS.LOAD_ADDR.ADDR.base
    (needsSw OBS.LOAD_ADDR.ADDR.base) ∧ MayWrite s 8 OBS.LOAD_CMD.GO.base true ∧ s.flag OBS.LOAD_STATUS.BUSY = false) ∧
(∃ (s : State) (b : Fin 16) (n : Fin 48) (k : Fin 3) (a : Fin 128), Taken s b 0x0030 [n, k, 0, 0, 0, a, 0, 0] ∧ s.flag OBS.LOAD_STATUS.BUSY = true) ∧
(∃ (s : State) (b : Fin 16) (n : Fin 48) (k : Fin 3), Taken s b 0x0031 [n, k, 0, 0] ∧ MayWrite s 8 OBS.LOAD_CMD.GO.base true) ∧
(∃ (s : State) (b : Fin 16) (l : Fin 256) (q : Fin 16), Taken s b 0x0032 [l, 0, q, 0] ∧ MayWrite s 8 OBS.LANE_FENCE.FENCE.base true ∧ s.lanes = []) ∧
(∃ (s : State) (b : Fin 16) (c : Fin 64), Taken s b 0x0040 [c, 6, 0, 0] ∧ MayWrite s 8 (CTX.CMD.OP.addr c) true ∧ s.rd SUP.FW_STATUS.STATE =
    fwRunning ∧ s.flag CTX.STATUS.BUSY c = false ∧ s.rd CTX.STATUS.STATE c = ctxLoaded) ∧
(∃ (s : State) (b : Fin 16) (x : Fin 256), Taken s b 0x0041 [x, 0, 0, 0] ∧ MayWrite s 8 INF.ENG_FENCE.FENCE.base true) ∧
(∃ (s : State) (b : Fin 16) (x : Fin 8), Taken s b 0x0042 [x, 0, 0, 0] ∧ MayWrite s 8 (ENG.CTRL.RESET.addr x) true ∧ s.inReset = false) ∧
(∃ (s : State) (b : Fin 16) (x y : Fin 256), Taken s b 0x0050 [x, y, 0, 0] ∧ MayWrite s 8 MEM.CH_RETIRE.RETIRE.base true) ∧
(∃ (s : State) (b : Fin 16) (x : Fin 10) (m : Fin 64) (k : Fin 16) (r : Fin 16) (p : List Nat), Taken s b 0x0060 p ∧ p.length = 16 ∧ (p.getD 0 0 = x
    ∧ p.getD 1 0 = m ∧ p.getD 2 0 = k ∧ p.getD 3 0 = 0 ∧ p.drop 12 = [r.val, 0, 0, 0]) ∧ s.flag AT.CTRL.LOCK x = true) ∧
(∃ (s : State) (b : Fin 16) (x : Fin 10) (m : Fin 64) (k : Fin 16) (r : Fin 16) (p : List Nat), Taken s b 0x0060 p ∧ p.length = 16 ∧ (p.getD 0 0 = x
    ∧ p.getD 1 0 = m ∧ p.getD 2 0 = k ∧ p.getD 3 0 = 0 ∧ p.drop 12 = [r.val, 0, 0, 0]) ∧ s.flag AT.CTRL.LOCK x = false ∧ x.val ≠ 5 ∧ MayWrite s 8
    (AT.WIN_BASE.BASE.addr x (m * 16 + k)) true ∧ MayWrite s 8 (AT.WIN_LIMIT.LIMIT.addr x (m * 16 + k)) true ∧ MayWrite s 8 (AT.WIN_ATTR.EN.addr x
    (m * 16 + k)) true) ∧
(∃ (s : State) (b : Fin 16) (x : Fin 10), Taken s b 0x0061 (le 4 (2 ^ x.val)) ∧ MayWrite s 8 (AT.CTRL.LOCK.addr x) true) ∧
(∃ (s : State) (b : Fin 16) (n : Fin 48) (v : Nat), Taken s b 0x0070 (le 8 AX.SAF_CFG.GROUP.base ++ le 4 v) ∧ s.checkAccess 8 AX.SAF_CFG.GROUP.base
    4 true true = some vioWrite) ∧
(∃ (s : State) (b : Fin 16) (a v : Nat),
    let u := s.busWrite 8 a v;
    Taken s b 0x0070 (le 8 a ++ le 4 v) ∧ a < 2 ^ 64 ∧ v < 2 ^ 32 ∧ isRegSpace a = true ∧ a % 4 = 0 ∧ needsSw a = true ∧ ownCommand a = false) ∧
(∃ (s : State) (b : Fin 16) (a v : Nat), Taken s b 0x0070 (le 8 a ++ le 4 v) ∧ a < 2 ^ 64 ∧ (needsSw a = false ∧ a ≠ PWR.RST_CMD.SYS.base)) ∧
(∃ (s : State) (b : Fin 16) (x : Fin 4), Taken s b 0x00A0 [x, 0, 0, 0] ∧ x.val = s.rd PWR.STATE.STATE) ∧
(∃ (s : State) (b : Fin 16) (x : Fin 4), Taken s b 0x00A0 [x, 0, 0, 0] ∧ s.flag PWR.STATE.BUSY = false ∧ ((s.rd PWR.STATE.STATE = 1 ∧ x.val ≠ 1) ∨
    (s.rd PWR.STATE.STATE = 0 ∧ x.val = 3) ∨ (s.rd PWR.STATE.STATE = 0 ∧ x.val = 1 ∧ (∀ n : Fin 48, s.axOn n = false) ∧ ∀ c : Fin 64, s.rd
    CTX.STATUS.STATE c ≠ ctxArmed))) ∧
(∃ (s : State) (b : Fin 16) (x : Fin 4), Taken s b 0x00A0 [x, 0, 0, 0] ∧ x.val ≠ s.rd PWR.STATE.STATE ∧ s.powerOk x = false) :=
  ⟨⟨{ State.reset with mbs := [(3, some { op := 1, payload := [1, 0, 0, 0, 1, 0, 0, 0] ++ List.replicate 12 0 })], sup := { State.reset.sup with fw := { vers := [(1, 0)] } } }.clear MB.GLOBAL.POLICY, 3, [1, 0, 0, 0, 1, 0, 0, 0] ++ List.replicate 12 0, by decide +kernel⟩,
   ⟨{ State.reset with mbs := [(3, some { op := 2, payload := [9] })] }, 3, [9], by decide +kernel⟩,
   ⟨(((((({ State.reset with mbs := [(3, some { op := 0x10, payload := [47, 0, 0, 0] })] }.raise SAF.STATUS.STATE).raise SAF.CTRL.LOCK).raise SAF.STATUS.CRC_OK).wr AX.SAF_CFG.GROUP 30 47).wr AX.BUS_CFG.SEG 15 47).wr AX.ADC_HEALTH.FAIL 0 47).clear AX.SAF_CFG.PAIR 47, 3, 47, by decide +kernel⟩,
   ⟨{ State.reset with mbs := [(3, some { op := 0x10, payload := [47, 0, 0, 0] })] }.clear SAF.STATUS.STATE, 3, 47, by decide +kernel⟩,
   ⟨{ State.reset with mbs := [(3, some { op := 0x10, payload := [48, 0, 0, 0] })] }, 3, 48, by decide +kernel⟩,
   ⟨{ State.reset with mbs := [(3, some { op := 0x11, payload := [47, 0, 0, 0] })] }.clear AX.PWM_CTRL.EN 47, 3, 47, by decide +kernel⟩,
   ⟨{ State.reset with mbs := [(3, some { op := 0x11, payload := [47, 0, 0, 0] })] }.raise AX.PWM_CTRL.EN 47, 3, 47, by decide +kernel⟩,
   ⟨{ State.reset with mbs := [(3, some { op := 0x12, payload := [1, 47, 1, 0] })] }.raise PXB.STATUS.BUSY, 3, 1, 47, by decide +kernel⟩,
   ⟨(((({ State.reset with mbs := [(3, some { op := 0x12, payload := [1, 47, 1, 0] })] }.clear PXB.MAP.VALID 0 0).clear PXB.MAP.VALID 0 1).clear PXB.STATUS.BUSY).clear AX.PWM_CTRL.EN 47).wr AGE.PFENCE_AX 0, 3, 1, 47, by decide +kernel⟩,
   ⟨{ State.reset with mbs := [(3, some { op := 0x20, payload := [15, 0, 0, 0] })] }.clear MF.CAL_STATUS.BUSY |>.wr SUP.FW_STATUS.STATE 3, 3, 15, by decide +kernel⟩,
   ⟨{ State.reset with mbs := [(3, some { op := 0x30, payload := [47, 2, 0, 0, 0, 127, 0, 0] })] }.clear OBS.LOAD_STATUS.BUSY, 3, 47, 2, 127, by decide +kernel⟩,
   ⟨{ State.reset with mbs := [(3, some { op := 0x30, payload := [47, 2, 0, 0, 0, 127, 0, 0] })] }.raise OBS.LOAD_STATUS.BUSY, 3, 47, 2, 127, by decide +kernel⟩,
   ⟨{ State.reset with mbs := [(3, some { op := 0x31, payload := [47, 2, 0, 0] })] }, 3, 47, 2, by decide +kernel⟩,
   ⟨{ State.reset with mbs := [(3, some { op := 0x32, payload := [255, 0, 15, 0] })] }, 3, 255, 15, by decide +kernel⟩,
   ⟨(({ State.reset with mbs := [(3, some { op := 0x40, payload := [63, 6, 0, 0] })] }.wr SUP.FW_STATUS.STATE 3).clear CTX.STATUS.BUSY 63).wr CTX.STATUS.STATE 1 63, 3, 63, by decide +kernel⟩,
   ⟨{ State.reset with mbs := [(3, some { op := 0x41, payload := [129, 0, 0, 0] })] }, 3, 129, by decide +kernel⟩,
   ⟨{ State.reset with mbs := [(3, some { op := 0x42, payload := [7, 0, 0, 0] })] }, 3, 7, by decide +kernel⟩,
   ⟨{ State.reset with mbs := [(3, some { op := 0x50, payload := [1, 128, 0, 0] })] }, 3, 1, 128, by decide +kernel⟩,
   ⟨{ State.reset with mbs := [(3, some { op := 0x60, payload := [9, 63, 15, 0] ++ List.replicate 8 0 ++ [15, 0, 0, 0] })] }.raise AT.CTRL.LOCK 9, 3, 9, 63, 15, 15, [9, 63, 15, 0] ++ List.replicate 8 0 ++ [15, 0, 0, 0], by decide +kernel⟩,
   ⟨{ State.reset with mbs := [(3, some { op := 0x60, payload := [9, 63, 15, 0] ++ List.replicate 8 0 ++ [15, 0, 0, 0] })] }.clear AT.CTRL.LOCK 9, 3, 9, 63, 15, 15, [9, 63, 15, 0] ++ List.replicate 8 0 ++ [15, 0, 0, 0], by decide +kernel⟩,
   ⟨{ State.reset with mbs := [(3, some { op := 0x61, payload := [0, 2, 0, 0] })] }, 3, 9, by decide +kernel⟩,
   ⟨{ State.reset with mbs := [(3, some { op := 0x70, payload := le 8 AX.SAF_CFG.GROUP.base ++ le 4 1 })] } |> fun y => (List.range 16).foldl (fun y k => y.wr AT.WIN_ATTR.EN 0 6 (8 * 16 + k)) y, 3, 0, 1, by decide +kernel⟩,
   ⟨{ State.reset with mbs := [(3, some { op := 0x70, payload := le 8 AX.SAF_CFG.GROUP.base ++ le 4 1 })] }, 3, AX.SAF_CFG.GROUP.base, 1, by decide +kernel⟩,
   ⟨{ State.reset with mbs := [(3, some { op := 0x70, payload := le 8 0x2000000000 ++ le 4 1 })] }, 3, 0x2000000000, 1, by decide +kernel⟩,
   ⟨{ State.reset with mbs := [(3, some { op := 0xA0, payload := [2, 0, 0, 0] })] }.wr PWR.STATE.STATE 2, 3, 2, by decide +kernel⟩,
   ⟨({ State.reset with mbs := [(3, some { op := 0xA0, payload := [2, 0, 0, 0] })] }.wr PWR.STATE.STATE 1).clear PWR.STATE.BUSY, 3, 2, by decide +kernel⟩,
   ⟨({ State.reset with mbs := [(3, some { op := 0xA0, payload := [0, 0, 0, 0] })] }.wr PWR.STATE.STATE 2).raise PWR.STATE.BUSY, 3, 0, by decide +kernel⟩⟩
/-- States and operands that meet the hypotheses of each clause of Obligations.SafetyInputsAndGroups. -/
theorem meets_SafetyInputsAndGroups :
(∃ (s : State) (k : Fin 16) (chB : Bool) (x : PinLevel), x.since + 2 + s.rd SAF.SI_CFG.SI_FILT 0 k * 100 * usTicks ≤ s.dtime) ∧
(∃ (s : State) (k : Fin 16) (chB : Bool) (x : PinLevel), s.dtime < x.since + 2 + s.rd SAF.SI_CFG.SI_FILT 0 k * 100 * usTicks) ∧
(∃ (s : State) (k : Fin 16) (g : Fin 16) (chB : Bool) (x : PinLevel), x.since + 2 + s.rd SAF.SI_CFG.SI_FILT 0 k * 100 * usTicks ≤ s.dtime ∧ x.level
    = s.flag SAF.SI_CFG.POL 0 k ∧ s.rd SAF.SI_CFG.FUNC 0 k = 1 ∧ s.rdBit SAF.SI_GROUPS.GROUPS g 0 k = true) ∧
(∃ (s : State) (k : Fin 16) (g : Fin 16) (x : Nat), (s.si k).differ = some x ∧ s.rdBit SAF.SI_STATE.HIGH k = false ∧ x + s.rd SAF.SI_CFG.DISC 0 k *
    msTicks < s.dtime ∧ s.rdBit SAF.SI_GROUPS.GROUPS g 0 k = true) ∧
(∃ (s : State) (m : Fin 64) (v : Word) (g : Fin 16), MayWrite s m SAF.STO_REQ.GROUPS.base true ∧ bit v.toNat g = true) ∧
(∃ (s : State) (m : Fin 64) (v : Word) (g : Fin 16), MayWrite s m SAF.ACK.GROUPS.base true ∧ bit v.toNat g = true ∧ s.stoCause g = false) ∧
(∃ (s : State) (m : Fin 64) (v : Word) (g : Fin 16), MayWrite s m SAF.ACK.GROUPS.base true ∧ s.stoCause g = true ∧ s.stoActive g = true) ∧
(∃ (s : State) (m : Fin 64) (v : Word) (n : Fin 48), MayWrite s m SAF.ACK.GROUPS.base true ∧ v.toNat % 65536 = 0 ∧ (s.sx n).causes = []) ∧
(∃ (s : State) (g : Fin 16), s.pulseDue g false = true) ∧
(∃ (s : State) (g : Fin 16) (x : Nat), (s.pulseOf g).a = some x ∧ x + s.rd SAF.STO_TEST.PULSE * 10 * usTicks ≤ s.dtime) ∧
(∃ (s : State) (g : Fin 16) (x : StoReadback), (x.level ≠ bit (if x.chB then s.saf.outB else s.saf.outA) g) ∧ (max x.since (Tab.get 0 (if x.chB then
    s.saf.bAt else s.saf.aAt) g) + 10 * usTicks < s.dtime)) ∧
(∃ (s : State) (g : Fin 16) (x : StoReadback), (x.level = bit (if x.chB then s.saf.outB else s.saf.outA) g ∨ s.dtime ≤ max x.since (Tab.get 0 (if
    x.chB then s.saf.bAt else s.saf.aAt) g) + 10 * usTicks)) ∧
(∃ (s : State) (x : ClockDev), s.saf.clockBad = false ∧ (20000 < absI x.timing ∨ 20000 < absI x.island)) ∧
(∃ (s : State) (x : ClockDev), absI x.timing ≤ 20000 ∧ absI x.island ≤ 20000) :=
  ⟨⟨{ State.reset with dtime := 10 ^ 12 }, 15, true, { level := true, since := 4 }, by decide +kernel⟩,
   ⟨{ State.reset with dtime := 10 ^ 6 }, 15, true, { level := true, since := 10 ^ 6 - 1 }, by decide +kernel⟩,
   ⟨(({ State.reset with dtime := 10 ^ 12 }.clear SAF.SI_CFG.POL 0 15).wr SAF.SI_CFG.FUNC 1 0 15).wr SAF.SI_GROUPS.GROUPS 65535 0 15, 15, 15, true, { level := false, since := 4 }, by decide +kernel⟩,
   ⟨(({ State.reset with safIns := [(15, { a := true, differ := some 0 })], dtime := 10 ^ 12 }.wrBit SAF.SI_STATE.HIGH 15 false).wr SAF.SI_GROUPS.GROUPS 65535 0 15).wr SAF.SI_CFG.DISC 1 0 15, 15, 15, 0, by decide +kernel⟩,
   ⟨State.reset.wr SAF.GROUP_STATE.LOW 0, 8, 0x8000, 15, by decide +kernel⟩,
   ⟨((((State.reset.wr SAF.STO_REQ.GROUPS 0).clear THM.STATUS.SHUT).wr SAF.SI_STATE.LOW 0)).wr SAF.GROUP_STATE.LOW 65535, 8, 0x8000, 15, by decide +kernel⟩,
   ⟨(State.reset.wr SAF.STO_REQ.GROUPS 65535).wr SAF.GROUP_STATE.LOW 65535, 8, 0x8000, 15, by decide +kernel⟩,
   ⟨{ State.reset with safAxs := [(47, { react := 3 })] }, 8, 0x10000, 47, by decide +kernel⟩,
   ⟨(({ State.reset with pwms := [(47, { released := true })] }.wr AX.SAF_CFG.GROUP 15 47).wr SAF.GROUP_STATE.LOW 0), 15, by decide +kernel⟩,
   ⟨{ State.reset with saf := { pulses := [(15, { a := some 0 })], pulseA := 0x8000 }, dtime := 10 ^ 12 }, 15, 0, by decide +kernel⟩,
   ⟨{ State.reset with saf := { outB := 65535, bAt := [(15, 8)] }, dtime := 10 ^ 7 }, 15, { chB := true, level := false, since := 9 }, by decide +kernel⟩,
   ⟨{ State.reset with saf := { outB := 65535, bAt := [(15, 8)] }, dtime := 10 * usTicks + 8 }, 15, { chB := true, level := false, since := 0 }, by decide +kernel⟩,
   ⟨{ State.reset with saf := { clockBad := false } }, { timing := 0, island := -20001 }, by decide +kernel⟩,
   ⟨{ State.reset with saf := { clockBad := true } }, { timing := 20000, island := -20000 }, by decide +kernel⟩⟩
/-- States and operands that meet the hypotheses of each clause of Obligations.SafetyCycleCommands. -/
theorem meets_SafetyCycleCommands :
(∃ (s : State) (bad : List (Fin 116)), s.dtime % s.cycleTicks = 0 ∧ s.saf.windowAt ≠ some s.dtime) ∧
(∃ (s : State) (bad : List (Fin 116)), s.dtime % s.cycleTicks ≠ 0) ∧
(∃ (s : State) (n : Fin 48) (x : Nat × Nat), (s.sx n).ss1 = some x ∧ x.1 + s.rd AX.SAF_SS1_T.MS n * msTicks ≤ s.dtime ∧ s.groupOfAxis n < 16) ∧
(∃ (s : State) (u : Nat), s.sliceUnit = some u) ∧
(∃ (s : State) (u : Fin 24) (x : Nat), (s.tst u).start = some x ∧ s.jobs = [] ∧ s.pjobs = []) ∧
(∃ (s : State) (u : Fin 24) (x : Nat), (s.tst u).start = some x ∧ s.jobs = [] ∧ s.pjobs = []) ∧
(∃ (s : State) (u : Fin 24) (x : Nat), (s.tst u).restoreBy = some x ∧ s.jobs = [] ∧ s.pjobs = []) ∧
(∃ (s : State) (u : Fin 24), s.flag SAF.STATUS.STATE = true ∧ s.rd PWR.STATE.STATE = 0 ∧ s.unitUsable u = true ∧ max (s.tst u).last s.saf.runAt +
    (s.rd SAF.CFG.FTTI * msTicks - 500 * usTicks) < s.dtime ∧ s.jobs = [] ∧ s.pjobs = []) ∧
(∃ (s : State) (m : Fin 64) (v : Word), MayWrite s m SAF.CFG.FTTI.base true ∧ s.flag SAF.CTRL.LOCK = false ∧ (2 ≤ bits v.toNat 3 0 ∧ bits v.toNat 3
    0 ≤ 10) ∧ (5 ≤ bits v.toNat 11 4 ∧ bits v.toNat 11 4 ≤ 50 ∧ bits v.toNat 11 4 ≤ 5 * bits v.toNat 3 0)) ∧
(∃ (s : State) (m : Fin 64) (v : Word), MayWrite s m SAF.CFG.FTTI.base true ∧ s.flag SAF.CTRL.LOCK = false ∧ 5 * bits v.toNat 3 0 < bits v.toNat 11
    4) ∧
(∃ (s : State) (m : Fin 64) (v : Word), MayWrite s m SAF.CTRL.LOCK.base true ∧ s.flag SAF.CTRL.LOCK = false) ∧
(∃ (s : State), s.flag SAF.CTRL.LOCK = true ∧ s.flag SAF.STATUS.CRC_OK = true ∧ s.flag SAF.STATUS.STATE = false ∧ (∀ u : Fin 24, s.unitUsable u =
    true → (s.tst u).done = true)) ∧
(∃ (s : State) (n : Fin 48) (ts : Nat) (ia ib ua ub : Int) (bus : Fin 65536), s.flag TWN.CFG.EN = true ∧ s.flag TWN.CFG.ROLE = true ∧ s.flag
    AX.SAF_CFG.PAIR n = true ∧ s.axOn n = false) ∧
(∃ (s : State) (speeds : List (Fin 48 × Word)) (sto : PeerStates) (si gr : Fin 65536), s.flag TWN.CFG.EN = true ∧ sto.window = some (si, gr)) ∧
(∃ (s : State) (speeds : List (Fin 48 × Word)) (sto : PeerStates), s.flag TWN.CFG.EN = true ∧ sto.window = none) :=
  ⟨⟨{ State.reset with tests := [(3, { start := some 0 })], dtime := 0 }, [0, 100], by decide +kernel⟩,
   ⟨{ State.reset with dtime := 1 }.wr SAF.CFG.CYCLE 5, [], by decide +kernel⟩,
   ⟨{ State.reset with safAxs := [(47, { ss1 := some (0, 5) })], dtime := 10 ^ 12 }.wr AX.SAF_CFG.GROUP 15 47, 47, (0, 5), by decide +kernel⟩,
   ⟨{ State.reset with dtime := 16000 * 5 + 800001 }.wr SAF.CFG.CYCLE 50 |>.wr PWR.STATE.STATE 0, 0, by decide +kernel⟩,
   ⟨{ State.reset with tests := [(23, { start := some 0 })] }, 23, 0, by decide +kernel⟩,
   ⟨{ State.reset with tests := [(23, { start := some 0 })] }, 23, 0, by decide +kernel⟩,
   ⟨{ State.reset with tests := [(23, { restoreBy := some 0 })] }, 23, 0, by decide +kernel⟩,
   ⟨(({ State.reset with dtime := 10 ^ 12 }.raise SAF.STATUS.STATE).wr PWR.STATE.STATE 0).wrBit INF.ENG_STATUS.USABLE 7 true, 23, by decide +kernel⟩,
   ⟨State.reset.clear SAF.CTRL.LOCK, 8, 0x32A, by decide +kernel⟩,
   ⟨State.reset.clear SAF.CTRL.LOCK, 8, 0xFF0, by decide +kernel⟩,
   ⟨State.reset.clear SAF.CTRL.LOCK, 8, 1, by decide +kernel⟩,
   ⟨((({ State.reset with tests := (List.range 24).map fun u => (u, { done := true }) }.raise SAF.CTRL.LOCK).raise SAF.STATUS.CRC_OK).clear SAF.STATUS.STATE), by decide +kernel⟩,
   ⟨(((State.reset.raise TWN.CFG.EN).raise TWN.CFG.ROLE).raise AX.SAF_CFG.PAIR 47).clear AX.PWM_CTRL.EN 47, 47, 5, 1, 2, 3, -4, 5, by decide +kernel⟩,
   ⟨State.reset.raise TWN.CFG.EN, [(47, 9)], { request := 0x8001, window := some (3, 0x8000) }, 3, 0x8000, by decide +kernel⟩,
   ⟨State.reset.raise TWN.CFG.EN, [], { request := 0x8001, window := none }, by decide +kernel⟩⟩
/-- States and operands that meet the hypotheses of each clause of Obligations.AgeingCommands. -/
theorem meets_AgeingCommands :
(∃ (s : State) (x : Int),
    let l : List Int := (x :: Tab.get [] s.age.samples 0).take 16;
    (∀ y, s.age.lastMeas = some y → y + 100 * msTicks ≤ s.dtime) ∧ s.age.notBefore ≤ s.dtime ∧ (-32768 ≤ x ∧ x ≤ 32767) ∧ (l.all (fun y => decide
    (-32768 ≤ y ∧ y ≤ 32767)) = true)) ∧
(∃ (s : State) (l : List Int) (y : Nat), s.age.lastMeas = some y ∧ s.dtime < y + 100 * msTicks) ∧
(∃ (s : State) (l : List Int), (∀ y, s.age.lastMeas = some y → y + 100 * msTicks ≤ s.dtime) ∧ s.dtime < s.age.notBefore) ∧
(∃ (s : State) (dl ref : List Int) (ack : Bool), s.flag AGE.STATUS.MODE = false) ∧
(∃ (s : State) (dl ref : List Int) (ack : Bool), s.age.hourDue = false ∧ (s.age.firstPlan = false ∨ s.flag PWR.START_STATUS.BOOT_OK = false)) ∧
(∃ (s : State) (d : Int) (ref : List Int) (ack : Bool) (x : Int) (i : Nat), s.age.hourDue = true ∧ s.flag AGE.STATUS.MODE = true ∧ s.slackMin = some
    (x, i) ∧ s.rd AGE.VFIX.TGT ≤ x ∧ x ≤ s.rd AGE.VFIX.TGT + s.rd AGE.VFIX.HYS) ∧
(∃ (s : State) (m : Fin 64) (v : Word) (x : Int) (i : Nat), MayWrite s m AGE.CTRL.REPLAN.base false ∧ bit v.toNat 0 = true ∧ s.flag AGE.STATUS.MODE
    = true ∧ s.slackMin = some (x, i) ∧ x < s.rd AGE.VFIX.TGT ∧ s.rd AGE.VREQ.V_REQ < s.rd AGE.VFUSE.VMAX ∧ s.rd AGE.VREQ.V_REQ + 5 < 2 ^
    (AGE.VREQ.V_REQ.hi + 1 - AGE.VREQ.V_REQ.lo)) ∧
(∃ (s : State) (m : Fin 64) (v : Word), MayWrite s m AGE.SVC_CMD.CH.base true ∧ s.rd PWR.STATE.STATE = 1 ∧ s.flag PWR.STATE.BUSY = false ∧ (∀ c :
    Fin 64, s.rd CTX.STATUS.STATE c = ctxFree) ∧ bits v.toNat 23 16 = 0xA5 ∧ bit v.toNat 24 = false) ∧
(∃ (s : State) (m : Fin 64) (v : Word), MayWrite s m AGE.SVC_CMD.CH.base true ∧ s.rd PWR.STATE.STATE = 1 ∧ s.flag PWR.STATE.BUSY = false ∧ (∀ c :
    Fin 64, s.rd CTX.STATUS.STATE c = ctxFree) ∧ bits v.toNat 23 16 = 0xA5 ∧ bit v.toNat 24 = true) ∧
(∃ (s : State) (m : Fin 64) (v : Word), MayWrite s m AGE.SVC_CMD.CH.base true ∧ (s.rd PWR.STATE.STATE ≠ 1 ∨ bits v.toNat 23 16 ≠ 0xA5)) :=
  ⟨⟨{ State.reset with dtime := 10 ^ 12, age := { lastMeas := some 0, samples := [(0, [4, 5, -3])] } }, -3, by decide +kernel⟩,
   ⟨{ State.reset with dtime := 5, age := { lastMeas := some 0 } }, [], 0, by decide +kernel⟩,
   ⟨{ State.reset with dtime := 10 ^ 12, age := { lastMeas := some 0, notBefore := 2 * 10 ^ 12 } }, [4], by decide +kernel⟩,
   ⟨(State.reset.wr REC.HOURS.VALUE 20).clear AGE.STATUS.MODE, [9], [], true, by decide +kernel⟩,
   ⟨{ State.reset with age := { hourDue := false, firstPlan := true } }.clear PWR.START_STATUS.BOOT_OK, [9], [], true, by decide +kernel⟩,
   ⟨(((({ State.reset with age := { samples := [(127, [7])], hourDue := true } }.raise AGE.STATUS.MODE).wrS AGE.MON.SLACK 7 0 127).wr AGE.VFIX.TGT 5).wr AGE.VFIX.HYS 3), 9, [], true, 7, 127, by decide +kernel⟩,
   ⟨(((({ State.reset with age := { samples := [(127, [-9])] } }.raise AGE.STATUS.MODE).wrS AGE.MON.SLACK (-9) 0 127).wr AGE.VFIX.TGT 5).wr AGE.VREQ.V_REQ 700).wr AGE.VFUSE.VMAX 900, 0, 1, -9, 127, by decide +kernel⟩,
   ⟨((List.range 64).foldl (fun y c => y.wr CTX.STATUS.STATE 0 c) State.reset).wr PWR.STATE.STATE 1 |>.clear PWR.STATE.BUSY |>.wr MEM.CH_RETIRE.RETIRE 0xFFFF, 8, 0xA58001, by decide +kernel⟩,
   ⟨((List.range 64).foldl (fun y c => y.wr CTX.STATUS.STATE 0 c) State.reset).wr PWR.STATE.STATE 1 |>.clear PWR.STATE.BUSY |>.wr AGE.PFENCE.PFENCE 0xFF, 8, 0x1A50000, by decide +kernel⟩,
   ⟨State.reset.wr PWR.STATE.STATE 1, 8, 0xA4FFFF, by decide +kernel⟩⟩
/-- States and operands that meet the hypotheses of each clause of Obligations.RecorderCommands. -/
theorem meets_RecorderCommands :
(∃ (s : State) (e : RecEvent) (l : List RecEvent), s.recd.queue = e :: l ∧ s.recd.lastTake = none ∧ s.recd.lost = 0 ∧ s.findCand e = none) ∧
(∃ (s : State) (x : Nat), s.recd.lastTake = some x ∧ s.dtime < x + 4) ∧
(∃ (s : State), (s.recd.pendNew ≠ [] ∨ s.recd.pendRep ≠ [])) ∧
(∃ (s : State), (s.recd.pendNew ≠ [] ∨ s.recd.pendRep ≠ [])) ∧
(∃ (s : State) (m : Fin 64) (v : Word), MayWrite s m REC.CTRL.FLUSH.base false ∧ bit v.toNat 0 = true) ∧
(∃ (s : State) (m : Fin 64) (v : Word), MayWrite s m REC.NV_IDX.SEQ.base false) ∧
(∃ (s : State) (q : Nat), s.recd.nvPend = some q) ∧
(∃ (s : State) (q : Nat), s.recd.nvPend = some q) ∧
(∃ (s : State), s.recd.hoursStop = none ∧ s.recd.hoursRef + 360000 * msTicks ≤ s.dtime) ∧
(∃ (s : State) (x : Nat), s.recd.hoursStop = some x) :=
  ⟨⟨{ State.reset with recd := { State.reset.recd with queue := [{ code := 7, source := 9, stamp := 4, payload := [], merge := false, arrived := 4 }] } }, { code := 7, source := 9, stamp := 4, payload := [], merge := false, arrived := 4 }, [], by decide +kernel⟩,
   ⟨{ State.reset with recd := { State.reset.recd with lastTake := some 5, queue := [{ code := 7, source := 9, stamp := 4, payload := [], merge := false, arrived := 4 }] }, dtime := 8 }, 5, by decide +kernel⟩,
   ⟨{ State.reset with recd := { State.reset.recd with pendNew := [(3, 0)] } }, by decide +kernel⟩,
   ⟨{ State.reset with recd := { State.reset.recd with pendNew := [(3, 0)] } }, by decide +kernel⟩,
   ⟨State.reset, 0, 1, by decide +kernel⟩,
   ⟨State.reset, 0, 0xFFFFFFFF, by decide +kernel⟩,
   ⟨{ State.reset with recd := { State.reset.recd with nvPend := some 5 } }, 5, by decide +kernel⟩,
   ⟨{ State.reset with recd := { State.reset.recd with nvPend := some 5 } }, 5, by decide +kernel⟩,
   ⟨{ State.reset with dtime := 10 ^ 13, recd := { State.reset.recd with hoursStop := none } }, by decide +kernel⟩,
   ⟨{ State.reset with dtime := 10 ^ 13, recd := { State.reset.recd with hoursStop := some 5 } }, 5, by decide +kernel⟩⟩
/-- States and operands that meet the hypotheses of each clause of Obligations.SecurityCommands. -/
theorem meets_SecurityCommands :
(∃ (s : State) (errA errB : Bool), s.flag PWR.START_STATUS.SELF_OK = true ∧ s.flag PWR.START_STATUS.BOOT_OK = false ∧ s.rd PWR.START_STATUS.STOP = 0
    ∧ s.rd SEC.LC.STATE ≠ 3 ∧ (errA = true ∧ errB = true)) ∧
(∃ (s : State) (errA errB : Bool), s.flag PWR.START_STATUS.SELF_OK = true ∧ s.flag PWR.START_STATUS.BOOT_OK = false ∧ s.rd PWR.START_STATUS.STOP = 0
    ∧ s.rd SEC.LC.STATE = 3) ∧
(∃ (s : State) (m : Fin 64) (v : Word), MayWrite s m SEC.KEY_PROG.SLOT.base true ∧ bit v.toNat 8 = true ∧ s.flag SEC.FUSE_STATUS.BUSY = false ∧ bit
    s.sec.present (bits v.toNat 2 0) = false ∧ s.rdBit SEC.KEY_STATUS.BAD (bits v.toNat 2 0) = false) ∧
(∃ (s : State) (m : Fin 64) (v : Word), MayWrite s m SEC.KEY_PROG.SLOT.base true ∧ bit v.toNat 8 = true ∧ s.flag SEC.FUSE_STATUS.BUSY = false ∧ bit
    s.sec.present (bits v.toNat 2 0) = true) ∧
(∃ (s : State) (m : Fin 64) (v : Word), MayWrite s m SEC.REVOKE.MASK.base true ∧ s.flag SEC.FUSE_STATUS.BUSY = false ∧ bits v.toNat 23 16 = 0xA5 ∧
    s.revokeCond (bits v.toNat 11 0) = false) ∧
(∃ (s : State) (m : Fin 64) (v : Word), MayWrite s m SEC.REVOKE.MASK.base true ∧ s.flag SEC.FUSE_STATUS.BUSY = false ∧ bits v.toNat 23 16 ≠ 0xA5) ∧
(∃ (s : State) (m : Fin 64) (v : Word), MayWrite s m SEC.LC_CMD.NEXT.base true ∧ s.flag SEC.FUSE_STATUS.BUSY = false ∧ bits v.toNat 23 16 = 0x5A ∧
    s.rd SEC.LC.STATE < bits v.toNat 2 0 ∧ (bits v.toNat 2 0 = 2 ∨ bits v.toNat 2 0 = 3)) ∧
(∃ (s : State) (m : Fin 64) (v : Word), MayWrite s m SEC.LC_CMD.NEXT.base true ∧ s.flag SEC.FUSE_STATUS.BUSY = false ∧ bits v.toNat 23 16 = 0x5A ∧
    bits v.toNat 2 0 ≤ s.rd SEC.LC.STATE) ∧
(∃ (s : State) (x : Fin 8) (l : List Nat), s.sec.fuseOp = some (0, x.val, l)) ∧
(∃ (s : State) (x : Fin 4096) (l : List Nat), s.sec.fuseOp = some (1, x.val, l)) ∧
(∃ (s : State) (l : List Nat), s.sec.fuseOp = some (2, 2, l)) ∧
(∃ (s : State) (m : Fin 64) (v : Word), MayWrite s m SEC.DBG_CMD.FAIL.base false ∧ s.rd SEC.LC.STATE = 1) ∧
(∃ (s : State) (m : Fin 64) (v : Word), MayWrite s m SEC.DBG_CMD.FAIL.base false ∧ s.sec.chal = true) ∧
(∃ (s : State) (m : Fin 64) (v : Word), MayWrite s m SEC.DBG_CMD.FAIL.base false ∧ s.sec.chal = false) ∧
(∃ (s : State) (x : List Nat) (a : Nat) (l : List (List Nat × Nat)), s.sec.dbg = (x, a) :: l ∧ s.sec.present = 0) ∧
(∃ (s : State) (m : Fin 64) (v : Word), MayWrite s m SEC.ATT_CMD.GO.base false ∧ bit v.toNat 0 = true ∧ s.rd SEC.LC.STATE ≠ 3 ∧ s.flag
    SEC.ATT_STATUS.BUSY = false ∧ s.rd SEC.ATT_ADDR % 64 = 0) ∧
(∃ (s : State) (m : Fin 64) (v : Word), MayWrite s m SEC.ATT_CMD.GO.base false ∧ bit v.toNat 0 = true ∧ s.rd SEC.LC.STATE = 3) ∧
(∃ (s : State) (m a : Nat) (r : List Nat), s.sec.att = some (m, a, r)) ∧
(∃ (s : State) (m a : Nat) (r : List Nat), s.sec.att = some (m, a, r) ∧ s.rd SEC.LC.STATE = 3) :=
  ⟨⟨State.reset.raise PWR.START_STATUS.SELF_OK |>.clear PWR.START_STATUS.BOOT_OK |>.wr PWR.START_STATUS.STOP 0 |>.wr SEC.LC.STATE 0, true, true, by decide +kernel⟩,
   ⟨State.reset.raise PWR.START_STATUS.SELF_OK |>.clear PWR.START_STATUS.BOOT_OK |>.wr PWR.START_STATUS.STOP 0 |>.wr SEC.LC.STATE 3, false, false, by decide +kernel⟩,
   ⟨(State.reset.clear SEC.FUSE_STATUS.BUSY).wr SEC.KEY_STATUS.BAD 0, 8, 0x107, by decide +kernel⟩,
   ⟨{ State.reset with sec := { State.reset.sec with present := 128 } }.clear SEC.FUSE_STATUS.BUSY, 8, 0x107, by decide +kernel⟩,
   ⟨(State.reset.clear SEC.FUSE_STATUS.BUSY).wr SUP.FW_STATUS.STATE 0 |>.wr SEC.LC.STATE 0, 8, 0xA50FFF, by decide +kernel⟩,
   ⟨State.reset.clear SEC.FUSE_STATUS.BUSY, 8, 0xA60FFF, by decide +kernel⟩,
   ⟨State.reset.clear SEC.FUSE_STATUS.BUSY |>.wr SEC.LC.STATE 0, 8, 0x5A0003, by decide +kernel⟩,
   ⟨State.reset.clear SEC.FUSE_STATUS.BUSY |>.wr SEC.LC.STATE 2, 8, 0x5A0002, by decide +kernel⟩,
   ⟨{ State.reset with sec := { State.reset.sec with fuseOp := some (0, 7, [1]) } }, 7, [1], by decide +kernel⟩,
   ⟨{ State.reset with sec := { State.reset.sec with fuseOp := some (1, 4095, []) } }, 4095, [], by decide +kernel⟩,
   ⟨{ State.reset with sec := { State.reset.sec with fuseOp := some (2, 2, []) } }, [], by decide +kernel⟩,
   ⟨State.reset.wr SEC.LC.STATE 1, 0, 0, by decide +kernel⟩,
   ⟨{ State.reset with sec := { State.reset.sec with chal := true } }, 0, 0, by decide +kernel⟩,
   ⟨State.reset, 0, 0, by decide +kernel⟩,
   ⟨{ State.reset with sec := { State.reset.sec with dbg := [([], 0)] } }, [], 0, [], by decide +kernel⟩,
   ⟨((State.reset.wr SEC.LC.STATE 0).clear SEC.ATT_STATUS.BUSY).wr SEC.ATT_ADDR 64, 0, 1, by decide +kernel⟩,
   ⟨State.reset.wr SEC.LC.STATE 3, 0, 1, by decide +kernel⟩,
   ⟨{ State.reset with sec := { State.reset.sec with att := some (0, 0, []) } }, 0, 0, [], by decide +kernel⟩,
   ⟨{ State.reset with sec := { State.reset.sec with att := some (0, 0, []) } }.wr SEC.LC.STATE 3, 0, 0, [], by decide +kernel⟩⟩
theorem meets_SecurityCommands_1 : ∃ (s : State) (g : List Nat), s.flag PWR.START_STATUS.SELF_OK = true ∧ s.flag PWR.START_STATUS.BOOT_OK = false ∧
    s.rd PWR.START_STATUS.STOP = 0 ∧ s.openBoot = true ∧ g = s.readMem (slotAddr 0) 4096 ∧ fieldLE g 0 4 = 0x4E444C44 ∧ ldrHeaderOk g = true ∧
    sha3 (s.readMem (slotAddr 0 + 4096) (fieldLE g 0xC 4)) = slice g 0x20 32 := by
  have f : ldrState.readMem (slotAddr 0) 4096 = ldrHead ++ List.replicate 4032 0 := by
    rw [show 4096 = 64 + 4032 from rfl, State.readMem_append, State.readMem_far ldrState (slotAddr 0 + 64) 4032 (by decide +kernel)]
    exact congrArg (· ++ List.replicate 4032 0) (by decide +kernel : ldrState.readMem (slotAddr 0) 64 = ldrHead)
  exact ⟨ldrState, ldrHead ++ List.replicate 4032 0, by decide +kernel, by decide +kernel, by decide +kernel, by decide +kernel, f.symm,
    by decide +kernel, by decide +kernel, by decide +kernel⟩
theorem meets_SecurityCommands_16 : ∃ (s : State) (x d : List Nat) (a : Nat) (l : List (List Nat × Nat)), s.sec.dbg = (x, a) :: l ∧ s.rd SEC.LC.STATE = 1 ∧
    (s.masterRead 8 a 3736).2 = .ok d ∧ s.keyOk (fieldLE d 0 4) (slice d 4 1312) = true ∧ s.heldLo = [] := by
  have e : dbgState.masterRead 8 0 3736 = (dbgState, .ok (dbgState.readMem 0 3736)) :=
    State.masterRead_mem _ _ _ _ (by decide +kernel) (by decide +kernel) (by decide +kernel)
  have f : dbgState.readMem 0 3736 = dbgBlock := by
    rw [show 3736 = 1 + 3735 from rfl, State.readMem_append, State.readMem_far dbgState (0 + 1) 3735 (by decide +kernel)]
    exact congrArg (· ++ List.replicate 3735 0) (by decide +kernel : dbgState.readMem 0 1 = [16])
  have k : dbgState.keyOk 16 (slice dbgBlock 4 1312) = true := by
    have h : Tab.get [] dbgState.sec.hashes (16 - 0x10) = sha3 (slice dbgBlock 4 1312) := rfl
    have o : dbgState.ownerOk (16 - 0x10) = true := by decide +kernel
    simpa [State.keyOk] using And.intro o h
  exact ⟨dbgState, [], dbgBlock, 0, [], rfl, by decide +kernel, by rw [e, f], k, rfl⟩
/-- States and operands that meet the hypotheses of each clause of Obligations.ResetCommands. -/
theorem meets_ResetCommands :
(∃ (s : State) (x : Option RailLow), s.pwr.por = false ∧ (∀ r, x = some r → r.mv < railTrip r.rail ∧ 2 * usTicks ≤ r.ticks)) ∧
(∃ (s : State) (r : RailLow), (railTrip r.rail ≤ r.mv ∨ r.ticks < 2 * usTicks)) ∧
(∃ (s : State) (x : Option RailLow), s.pwr.por = true ∧ s.pwr.porNew = false) ∧
(∃ (s : State) (x : Option RailLow), s.pwr.por = true ∧ s.pwr.porNew = true ∧ (∀ r, x = some r → r.mv < railTrip r.rail ∧ 2 * usTicks ≤ r.ticks)) ∧
(∃ (s : State) (safeH safeL pos0 : Bool) (found : StartFindings), s.pwr.por = true ∧ s.recd.hist.empty = false ∧ found.history = false) ∧
(∃ (s : State) (safeH safeL pos0 : Bool) (found : StartFindings), s.pwr.por = true ∧ found.history = true) ∧
(∃ (s : State) (m : Fin 64) (v : Word) (found : StartFindings) (n : Nat), usTicks ≤ n ∧ s.pwr.por = false ∧ s.pwr.rstAt ≠ some s.dtime) ∧
(∃ (s : State) (m : Fin 64) (v : Word) (found : StartFindings) (n : Nat), usTicks ≤ n ∧ s.pwr.por = false ∧ s.pwr.rstAt = some s.dtime) ∧
(∃ (s : State) (m : Fin 64) (v : Word) (found : StartFindings) (n : Nat), s.pwr.por = true) ∧
(∃ (s : State) (m : Fin 64) (v : Word) (found : StartFindings) (n : Nat), n < usTicks) ∧
(∃ (s : State) (m : Fin 64) (v : Word) (found : StartFindings), MayWrite s m PWR.RST_CMD.SYS.base true ∧ bit v.toNat 0 = true ∧ bits v.toNat 23 16 =
    0xA5 ∧ s.pwr.por = false ∧ s.pwr.rstAt ≠ some s.dtime) ∧
(∃ (s : State) (m : Fin 64) (v : Word) (found : StartFindings), MayWrite s m PWR.RST_CMD.SYS.base (bit v.toNat 0) ∧ bits v.toNat 23 16 ≠ 0xA5) ∧
(∃ (s : State) (m : Fin 64) (v : Word), s.jtagShut = false ∧ s.pwr.trans = none) ∧
(∃ (s : State) (m : Fin 64) (v : Word), s.jtagShut = true) ∧
(∃ (s : State) (v : Word), MayWrite s 0x3F PWR.RST_CMD.SYS.base false ∧ bits v.toNat 23 16 = 0xA5 ∧ bit v.toNat 1 = true ∧ s.pwr.trans = none) ∧
(∃ (s : State) (m : Fin 64) (n : Fin 32), MayWrite s m PWR.AXIS_RST_LO.AXES.base true ∧ s.pxbMoving n = false ∧ s.inReset = false) ∧
(∃ (s : State) (m : Fin 64) (n : Fin 32), MayWrite s m PWR.AXIS_RST_LO.AXES.base true ∧ s.pxbMoving n = true) ∧
(∃ (s : State) (m : Fin 64) (n : Fin 16), MayWrite s m PWR.AXIS_RST_HI.AXES.base true ∧ s.pxbMoving (32 + n.val) = false ∧ s.inReset = false) ∧
(∃ (s : State) (found : StartFindings), s.rd PWR.STATE.STATE = 2 ∧ s.flag PWR.WAKE_CFG.PIN = true ∧ s.pwr.por = false ∧ s.pwr.rstAt ≠ some s.dtime) ∧
(∃ (s : State) (found : StartFindings), s.rd PWR.STATE.STATE ≠ 2) ∧
(∃ (s : State) (found : StartFindings), s.rd PWR.STATE.STATE = 2 ∧ s.flag PWR.WAKE_CFG.TIME = true ∧ s.rd PWR.WAKE_TIME ≤ s.dtime ∧ s.pwr.por =
    false ∧ s.pwr.rstAt ≠ some s.dtime) :=
  ⟨⟨State.reset, some { rail := 4, mv := 611, ticks := 2 * usTicks }, by decide +kernel⟩,
   ⟨State.reset, { rail := 4, mv := 612, ticks := 2 * usTicks }, by decide +kernel⟩,
   ⟨{ State.reset with pwr := { State.reset.pwr with por := true } }, none, by decide +kernel⟩,
   ⟨{ State.reset with pwr := { State.reset.pwr with por := true, porCause := 1, porNew := true } }, none, by decide +kernel⟩,
   ⟨{ State.reset with pwr := { State.reset.pwr with por := true }, recd := { State.reset.recd with hist := { State.reset.recd.hist with empty := false } }, fuses := [{ kind := 6, inst := 3, spare := 0, addr := 5, valid := true }] }, true, false, true, { channels := 0x1F, units := [9], records := [3] }, by decide +kernel⟩,
   ⟨{ State.reset with pwr := { State.reset.pwr with por := true }, recd := { State.reset.recd with mirror := [(3, { seq := 3 })] } }.wr AGE.PFENCE.PFENCE 1, true, false, true, { history := true }, by decide +kernel⟩,
   ⟨State.reset, 0, 0, {}, usTicks, by decide +kernel⟩,
   ⟨{ State.reset with pwr := { State.reset.pwr with rstAt := some 0 } }, 0, 0, {}, usTicks, by decide +kernel⟩,
   ⟨{ State.reset with pwr := { State.reset.pwr with por := true } }, 0, 0, {}, usTicks, by decide +kernel⟩,
   ⟨State.reset, 0, 0, {}, 0, by decide +kernel⟩,
   ⟨State.reset, 8, 0xA50001, {}, by decide +kernel⟩,
   ⟨State.reset, 8, 0xA40003, {}, by decide +kernel⟩,
   ⟨{ State.reset with debugOverride := true }.wr SEC.LC.STATE 0, 0, 0, by decide +kernel⟩,
   ⟨{ State.reset with sec := { State.reset.sec with lcPrev := none } }.wr SEC.LC.STATE 3, 0, 0, by decide +kernel⟩,
   ⟨{ State.reset with debugOverride := true }, 0xA50002, by decide +kernel⟩,
   ⟨State.reset, 8, 31, by decide +kernel⟩,
   ⟨{ State.reset with pxbs := [(1, some { axis := 31 })] }, 8, 31, by decide +kernel⟩,
   ⟨State.reset, 8, 15, by decide +kernel⟩,
   ⟨(State.reset.wr PWR.STATE.STATE 2).raise PWR.WAKE_CFG.PIN, {}, by decide +kernel⟩,
   ⟨State.reset.wr PWR.STATE.STATE 1, {}, by decide +kernel⟩,
   ⟨((State.reset.wr PWR.STATE.STATE 2).raise PWR.WAKE_CFG.TIME).wr PWR.WAKE_TIME 0, {}, by decide +kernel⟩⟩
/-- States and operands that meet the hypotheses of each clause of Obligations.PowerAndThermalCommands. -/
theorem meets_PowerAndThermalCommands :
(∃ (s : State) (dl ref : List Int) (ack : Bool) (blocks : List BistBlock) (units : List (Fin 74)) (x : Nat), s.pwr.trans = some (1, x) ∧ Room s) ∧
(∃ (s : State) (dl ref : List Int) (ack : Bool) (blocks : List BistBlock) (units : List (Fin 74)) (x : Nat), s.pwr.trans = some (0, x)) ∧
(∃ (s : State) (dl ref : List Int) (ack : Bool) (blocks : List BistBlock) (units : List (Fin 74)) (x : Nat), s.pwr.trans = some (2, x)) ∧
(∃ (s : State) (dl ref : List Int) (ack : Bool) (blocks : List BistBlock) (units : List (Fin 74)) (x : Nat), s.pwr.trans = some (3, x) ∧ s.rd
    BIST.STATUS.STEP = 1) ∧
(∃ (s : State) (dl ref : List Int) (ack : Bool) (blocks : List BistBlock) (units : List (Fin 74)) (x : Nat), s.pwr.trans = some (3, x) ∧ s.rd
    BIST.STATUS.STEP = 2) ∧
(∃ (s : State) (dl ref : List Int) (ack : Bool) (blocks : List BistBlock) (units : List (Fin 74)) (x : Nat), s.pwr.trans = some (3, x) ∧ s.rd
    BIST.STATUS.STEP = 3) ∧
(∃ (s : State) (dl ref : List Int) (ack : Bool) (blocks : List BistBlock) (units : List (Fin 74)) (x : Nat), s.pwr.trans = some (3, x) ∧ s.rd
    BIST.STATUS.STEP = 4) ∧
(∃ (s : State) (dl ref : List Int) (ack : Bool) (blocks : List BistBlock) (units : List (Fin 74)) (x : Nat), s.pwr.trans = some (3, x) ∧ s.rd
    BIST.STATUS.STEP = 5 ∧ s.bist.bodies = false) ∧
(∃ (s : State) (dl ref : List Int) (ack : Bool) (blocks : List BistBlock) (units : List (Fin 74)) (x : Nat), s.pwr.trans = some (3, x) ∧ s.rd
    BIST.STATUS.STEP = 5 ∧ s.bist.bodies = true ∧ s.bist.plan.length ≤ s.fuses.length) ∧
(∃ (s : State) (dl ref : List Int) (ack : Bool) (blocks : List BistBlock) (units : List (Fin 74)) (x : Nat), s.pwr.trans = some (3, x) ∧ s.rd
    BIST.STATUS.STEP = 6 ∧ s.bist.told = false ∧ s.recd.queue.length < 248) ∧
(∃ (s : State) (dl ref : List Int) (ack : Bool) (blocks : List BistBlock) (units : List (Fin 74)) (x : Nat), s.pwr.trans = some (3, x) ∧ s.rd
    BIST.STATUS.STEP = 6 ∧ s.bist.told = true ∧ (s.recd.queue.any (fun e => e.code == 0x0B01) = true)) ∧
(∃ (s : State) (dl ref : List Int) (ack : Bool) (blocks : List BistBlock) (units : List (Fin 74)) (x : Nat), s.pwr.trans = some (3, x) ∧ s.rd
    BIST.STATUS.STEP = 6 ∧ s.bist.told = true ∧ (s.recd.queue.any (fun e => e.code == 0x0B01) = false)) ∧
(∃ (s : State) (tj : Int) (k : Fin 16), tj < s.rd THM.CFG.CRIT * 16 ∧ (tj < 2000 ∧ -32768 ≤ tj)) ∧
(∃ (s : State) (tj : Int) (k : Fin 16), s.rd THM.CFG.CRIT * 16 ≤ tj ∧ tj < 2000) ∧
(∃ (s : State) (tj : Int) (k : Fin 16), 2000 ≤ tj ∧ s.flag THM.STATUS.SHUT = false) ∧
(∃ (s : State), s.pwr.msAt + msTicks ≤ s.dtime ∧ s.rdS THM.TJ_MAX.TJ < s.rd THM.CFG.CRIT * 16 ∧ s.rd THM.CFG.THR_ON * 16 ≤ s.rdS THM.TJ_MAX.TJ ∧
    s.rd THM.STATUS.LEVEL < 7) ∧
(∃ (s : State), s.pwr.msAt + msTicks ≤ s.dtime ∧ s.rdS THM.TJ_MAX.TJ < s.rd THM.CFG.CRIT * 16 ∧ s.rdS THM.TJ_MAX.TJ < s.rd THM.CFG.THR_ON * 16 ∧
    s.rdS THM.TJ_MAX.TJ < s.rd THM.CFG.THR_OFF * 16) :=
  ⟨⟨{ State.reset with pwr := { State.reset.pwr with trans := some (1, 0) } }, [], [], true, [], [], 0, by decide +kernel⟩,
   ⟨{ State.reset with pwr := { State.reset.pwr with trans := some (0, 0) } }, [5], [], true, [], [], 0, by decide +kernel⟩,
   ⟨{ State.reset with pwr := { State.reset.pwr with trans := some (2, 0) } }, [], [], true, [], [], 0, by decide +kernel⟩,
   ⟨{ State.reset with pwr := { State.reset.pwr with trans := some (3, 0) } }.wr BIST.STATUS.STEP 1, [], [], true, [{ time := 3 }], [0], 0, by decide +kernel⟩,
   ⟨{ State.reset with pwr := { State.reset.pwr with trans := some (3, 0) } }.wr BIST.STATUS.STEP 2, [], [], true, [{ time := 3 }], [0], 0, by decide +kernel⟩,
   ⟨{ State.reset with pwr := { State.reset.pwr with trans := some (3, 0) } }.wr BIST.STATUS.STEP 3, [], [], true, [{ time := 3 }], [0], 0, by decide +kernel⟩,
   ⟨{ State.reset with pwr := { State.reset.pwr with trans := some (3, 0) } }.wr BIST.STATUS.STEP 4, [], [], true, [{ time := 3 }], [0], 0, by decide +kernel⟩,
   ⟨{ State.reset with pwr := { State.reset.pwr with trans := some (3, 0) }, bist := { plan := [(0, { valid := true })], bodies := false } }.wr BIST.STATUS.STEP 5, [], [], true, [{ time := 3 }], [0], 0, by decide +kernel⟩,
   ⟨{ State.reset with pwr := { State.reset.pwr with trans := some (3, 0) }, bist := { plan := [], bodies := true } }.wr BIST.STATUS.STEP 5, [], [], true, [{ time := 3 }], [0], 0, by decide +kernel⟩,
   ⟨{ State.reset with pwr := { State.reset.pwr with trans := some (3, 0) } }.wr BIST.STATUS.STEP 6, [], [], true, [{ time := 3 }], [0], 0, by decide +kernel⟩,
   ⟨{ State.reset with pwr := { State.reset.pwr with trans := some (3, 0) }, recd := { State.reset.recd with queue := [{ code := 0x0B01, source := 0, stamp := 0, payload := [], merge := false, arrived := 0 }] }, bist := { told := true } }.wr BIST.STATUS.STEP 6, [], [], true, [{ time := 3 }], [0], 0, by decide +kernel⟩,
   ⟨{ State.reset with pwr := { State.reset.pwr with trans := some (3, 0) }, bist := { told := true } }.wr BIST.STATUS.STEP 6, [], [], true, [{ time := 3 }], [0], 0, by decide +kernel⟩,
   ⟨State.reset.wr THM.CFG.CRIT 110, 400, 15, by decide +kernel⟩,
   ⟨State.reset.wr THM.CFG.CRIT 110, 1999, 15, by decide +kernel⟩,
   ⟨State.reset.clear THM.STATUS.SHUT, 2000, 15, by decide +kernel⟩,
   ⟨((({ State.reset with dtime := 10 ^ 9 }.wrS THM.TJ_MAX.TJ 1700).wr THM.CFG.CRIT 110).wr THM.CFG.THR_ON 100).wr THM.STATUS.LEVEL 6, by decide +kernel⟩,
   ⟨(((({ State.reset with dtime := 10 ^ 9 }.wrS THM.TJ_MAX.TJ 100).wr THM.CFG.CRIT 110).wr THM.CFG.THR_ON 100).wr THM.CFG.THR_OFF 90).wr THM.STATUS.LEVEL 1, by decide +kernel⟩⟩
/-- States and operands that meet the hypotheses of each clause of Obligations.RingAndLinkCommands. -/
theorem meets_RingAndLinkCommands :
(∃ (s : State) (m : Fin 64) (v : Word), MayWrite s m PWR.RING_CTRL.GO.base false ∧ bit v.toNat 0 = true ∧ s.flag LNK.STATUS.UP 0 = false ∧ s.flag
    LNK.STATUS.UP 1 = false) ∧
(∃ (s : State) (m : Fin 64) (v : Word), MayWrite s m TWN.CFG.EN.base false ∧ s.flag TWN.CFG.EN = false ∧ (s.writeFields TWN.CFG.EN.base
    v.toNat).1.flag TWN.CFG.EN = true ∧ s.flag LNK.STATUS.UP 2 = false) ∧
(∃ (s : State) (q : Fin 3) (k : Fin 3) (peer : Fin 256), (s.lnk q).training = true) ∧
(∃ (s : State) (q : Fin 3) (k : Fin 3) (major minor peer : Fin 256), (s.lnk q).training = true ∧ major.val ≠ 1) ∧
(∃ (s : State) (q : Fin 3) (x : Nat), (s.lnk q).refusedAt = some x ∧ x + 100 * msTicks ≤ s.dtime) ∧
(∃ (s : State) (down up : Nat) (second : Bool) (x : Nat), s.pwr.go = some x ∧ s.pwr.enumOver = false ∧ s.flag PWR.START_STATUS.ENUM_DONE = false ∧
    s.isAlone = true) ∧
(∃ (s : State) (down up : Nat) (x : Nat), s.pwr.go = some x ∧ s.pwr.enumOver = false ∧ s.flag PWR.START_STATUS.ENUM_DONE = false ∧ s.flag
    PWR.STRAPS.RINGPOS0 = true ∧ s.flag LNK.STATUS.UP 0 = true ∧ s.flag LNK.STATUS.UP 1 = true ∧ down + up = s.rd PWR.RING_CTRL.N_EXP) ∧
(∃ (s : State) (down up : Nat) (x : Nat), s.pwr.go = some x ∧ x + 2000 * msTicks ≤ s.dtime ∧ s.flag PWR.START_STATUS.ENUM_DONE = false ∧ s.flag
    PWR.STRAPS.RINGPOS0 = true ∧ s.isAlone = false ∧ s.pwr.enumOver = false ∧ down + up ≤ s.rd PWR.RING_CTRL.N_EXP) ∧
(∃ (s : State) (down up : Nat) (x : Nat), s.pwr.go = some x ∧ x + 2000 * msTicks ≤ s.dtime ∧ s.flag PWR.START_STATUS.ENUM_DONE = false ∧ s.flag
    PWR.STRAPS.RINGPOS0 = true ∧ s.isAlone = false ∧ s.pwr.enumOver = false) ∧
(∃ (s : State) (x : Nat), s.pwr.go = some x ∧ x + 3000 * msTicks ≤ s.dtime ∧ s.flag PWR.START_STATUS.ENUM_DONE = false ∧ s.flag PWR.STRAPS.RINGPOS0
    = false) ∧
(∃ (s : State) (q : Fin 2) (id : Fin 8) (present gap : Fin 256), s.flag LNK.STATUS.UP q = true ∧ s.flag PWR.START_STATUS.ENUM_DONE = false ∧ s.flag
    PWR.STRAPS.RINGPOS0 = false ∧ s.pwr.enumOver = false) ∧
(∃ (s : State) (q : Fin 2) (present gap : Fin 256), s.flag LNK.STATUS.UP q = true ∧ s.flag PWR.STRAPS.RINGPOS0 = false) ∧
(∃ (s : State) (q : Fin 2) (id : Fin 8) (present gap : Fin 256), s.flag LNK.STATUS.UP q = true ∧ s.flag PWR.START_STATUS.ENUM_DONE = true) ∧
(∃ (s : State) (id : Fin 8) (step : Int) (present gap : Fin 256) (master : Fin 8), s.flag PWR.START_STATUS.ENUM_DONE = true ∧ s.rdBit
    PWR.RING_STATUS.GAP id = true) ∧
(∃ (s : State) (id : Fin 8) (step : Int) (present gap : Fin 256) (master : Fin 8) (x : Nat), s.flag PWR.START_STATUS.ENUM_DONE = false ∧ s.pwr.go =
    some x ∧ s.flag LNK.STATUS.UP 0 = true ∧ s.flag PWR.STRAPS.RINGPOS0 = false ∧ (0 ≤ step ∧ s.dtime + step.toNat < 2 ^ 64) ∧ s.stepOk = true ∧
    s.joinId (popCount 8 (present.val ||| gap.val)) id < popCount 8 (present.val ||| gap.val)) ∧
(∃ (s : State) (q : Fin 3), s.flag LNK.STATUS.UP q = true) ∧
(∃ (s : State) (q : Fin 3) (x : Nat), q.val < 2 ∧ (s.lnk q).down = some x ∧ (s.lnk q).lost = false ∧ x + msTicks ≤ s.dtime) ∧
(∃ (s : State) (q : Fin 3) (cls : Fin 4), s.flag LNK.STATUS.UP q = true ∧ ((s.lnk q).window cls).any (·.onWire) = true) ∧
(∃ (s : State) (q : Fin 3) (cls : Fin 4) (k : PktH), s.flag LNK.STATUS.UP q = true ∧ k ∈ (s.lnk q).window cls ∧ k.onWire = true ∧ k.sent + usTicks ≤
    s.dtime) ∧
(∃ (s : State) (m : Fin 64) (q : Fin 3) (v : Word), MayWrite s m (LNK.CTRL.RETRAIN.addr q) false ∧ bit v.toNat 0 = true ∧ s.flag LNK.STATUS.UP q =
    true) ∧
(∃ (s : State) (x : RxPacket), s.flag LNK.STATUS.UP x.port = true ∧ (x.bytes.length < 36 ∨ x.bytes.length ≠ 36 + fieldLE x.bytes 6 2 ∨ fieldLE
    x.bytes (x.bytes.length - 4) 4 ≠ crc32c (x.bytes.take (x.bytes.length - 4)) ∨ 9 < fieldLE x.bytes 1 1 ∨ fieldLE x.bytes 8 4 ≠ Tab.get 0 (s.lnk
    x.port).rx (linkClass x.port (fieldLE x.bytes 1 1)))) ∧
(∃ (s : State) (x : RxPacket), s.packetBad x.port x.bytes = false) :=
  ⟨⟨(State.reset.clear LNK.STATUS.UP 0).clear LNK.STATUS.UP 1, 0, 1, by decide +kernel⟩,
   ⟨(State.reset.clear TWN.CFG.EN).clear LNK.STATUS.UP 2, 0, 1, by decide +kernel⟩,
   ⟨{ State.reset with lnks := [(2, { training := true })] }, 2, 2, 255, by decide +kernel⟩,
   ⟨{ State.reset with lnks := [(2, { training := true })] }, 2, 2, 2, 0, 255, by decide +kernel⟩,
   ⟨{ State.reset with lnks := [(2, { refusedAt := some 0 })], dtime := 10 ^ 9 }, 2, 0, by decide +kernel⟩,
   ⟨((({ State.reset with pwr := { State.reset.pwr with go := some 0 } }.clear PWR.START_STATUS.ENUM_DONE).wr PWR.RING_CTRL.N_EXP 0).clear LNK.STATUS.UP 0).clear LNK.STATUS.UP 1, 0, 0, false, 0, by decide +kernel⟩,
   ⟨(((({ State.reset with pwr := { State.reset.pwr with go := some 0 } }.clear PWR.START_STATUS.ENUM_DONE).raise PWR.STRAPS.RINGPOS0).wr PWR.RING_CTRL.N_EXP 3).raise LNK.STATUS.UP 0).raise LNK.STATUS.UP 1, 3, 0, 0, by decide +kernel⟩,
   ⟨(({ State.reset with pwr := { State.reset.pwr with go := some 0 }, dtime := 10 ^ 10 }.clear PWR.START_STATUS.ENUM_DONE).raise PWR.STRAPS.RINGPOS0).wr PWR.RING_CTRL.N_EXP 3, 1, 1, 0, by decide +kernel⟩,
   ⟨(({ State.reset with pwr := { State.reset.pwr with go := some 0 }, dtime := 10 ^ 10 }.clear PWR.START_STATUS.ENUM_DONE).raise PWR.STRAPS.RINGPOS0).wr PWR.RING_CTRL.N_EXP 3, 1, 1, 0, by decide +kernel⟩,
   ⟨({ State.reset with pwr := { State.reset.pwr with go := some 0 }, dtime := 10 ^ 10 }.clear PWR.START_STATUS.ENUM_DONE).clear PWR.STRAPS.RINGPOS0, 0, by decide +kernel⟩,
   ⟨(({ State.reset with pwr := { State.reset.pwr with enumOver := false } }.raise LNK.STATUS.UP 1).clear PWR.START_STATUS.ENUM_DONE).clear PWR.STRAPS.RINGPOS0, 1, 7, 255, 0, by decide +kernel⟩,
   ⟨((State.reset.raise LNK.STATUS.UP 1).raise PWR.START_STATUS.ENUM_DONE).clear PWR.STRAPS.RINGPOS0, 1, 255, 0, by decide +kernel⟩,
   ⟨(State.reset.raise LNK.STATUS.UP 1).raise PWR.START_STATUS.ENUM_DONE, 1, 7, 255, 0, by decide +kernel⟩,
   ⟨(State.reset.raise PWR.START_STATUS.ENUM_DONE).wr PWR.RING_STATUS.GAP 255, 7, 5, 0, 0, 0, by decide +kernel⟩,
   ⟨(({ State.reset with pwr := { State.reset.pwr with go := some 0 } }.raise LNK.STATUS.UP 0).clear PWR.START_STATUS.ENUM_DONE).clear PWR.STRAPS.RINGPOS0, 7, 5, 255, 0, 3, 0, by decide +kernel⟩,
   ⟨State.reset.raise LNK.STATUS.UP 2, 2, by decide +kernel⟩,
   ⟨{ State.reset with lnks := [(1, { down := some 0, unacked := [{}] })], dtime := 10 ^ 9 }, 1, 0, by decide +kernel⟩,
   ⟨{ State.reset with lnks := [(2, { unacked := [{ cls := 3, resends := 7, onWire := true }] })] }.raise LNK.STATUS.UP 2, 2, 3, by decide +kernel⟩,
   ⟨{ State.reset with lnks := [(2, { unacked := [{ cls := 3, onWire := true }] })], dtime := 10 ^ 6 }.raise LNK.STATUS.UP 2, 2, 3, { cls := 3, onWire := true }, by decide +kernel⟩,
   ⟨State.reset.raise LNK.STATUS.UP 2, 0, 2, 1, by decide +kernel⟩,
   ⟨State.reset.raise LNK.STATUS.UP 2, { port := 2, bytes := List.replicate 40 0 }, by decide +kernel⟩,
   ⟨{ State.reset with lnks := [] }.wr LNK.STATUS.VER_MAJOR 0 0, { port := 0, bytes := List.replicate 32 0 ++ le 4 (crc32c (List.replicate 32 0)) }, by decide +kernel⟩⟩
/-- States and operands that meet the hypotheses of each clause of Obligations.RemoteAccesses. -/
theorem meets_RemoteAccesses :
(∃ (s : State) (q : Fin 3) (a : Nat) (data : List Nat), s.flag LNK.STATUS.UP q = true ∧ payloadOk data.length = true ∧ (∀ x ∈ eccWords a
    data.length, s.isUe x = false) ∧ isRegSpace a = false ∧ isOutbound a = false ∧ s.checkAccess (linkMaster q) a data.length true false = none ∧ a
    % 64 + data.length ≤ 64 ∧ 0 < data.length) ∧
(∃ (s : State) (q : Fin 3) (a n : Nat) (errs : List (Nat × Nat)),
    let u : State := s.forEach errs State.flipBit;
    (∀ x ∈ eccWords a n, u.isUe x = false) ∧ s.flag LNK.STATUS.UP q = true ∧ payloadOk n = true ∧ isRegSpace a = false ∧ isOutbound a = false ∧
    s.checkAccess (linkMaster q) a n false false = none ∧ a % 64 + n ≤ 64 ∧ 0 < n) ∧
(∃ (s : State) (q : Fin 3) (a : Nat) (data : List Nat), s.flag LNK.STATUS.UP q = true ∧ payloadOk data.length = false) ∧
(∃ (s : State) (q : Fin 3) (data : List Nat), s.flag LNK.STATUS.UP q = true) ∧
(∃ (s : State) (q : Fin 3) (data : List Nat), s.flag LNK.STATUS.UP q = true) ∧
(∃ (s : State) (q : Fin 3) (k : Fin 1024) (data : List Nat), s.flag LNK.STATUS.UP q = true ∧ data.length = 64 ∧ MayWrite s (linkMaster q)
    (Q.OP.N.addr k) false ∧ s.qCanPost k = true) ∧
(∃ (s : State) (q : Fin 3) (k : Fin 1024) (data : List Nat) (ty : Nat), s.flag LNK.STATUS.UP q = true ∧ data.length = 64 ∧ s.checkAccess (linkMaster
    q) (Q.OP.N.addr k) 4 true false = some ty) ∧
(∃ (s : State) (q : Fin 3) (a : Nat) (data : List Nat), s.flag LNK.STATUS.UP q = false) ∧
(∃ (s : State) (q : Fin 3) (a n : Nat) (errs : List (Nat × Nat)), s.flag LNK.STATUS.UP q = false) ∧
(∃ (s : State) (q : Fin 3) (st : Fin 3) (data : List Nat), s.flag LNK.STATUS.UP q = false) ∧
(∃ (s : State) (q : Fin 3) (k : Fin 1024) (data : List Nat), s.flag LNK.STATUS.UP q = false) :=
  ⟨⟨(State.reset.raise LNK.STATUS.UP 0).wr AT.WIN_ATTR.EN 1 0 (0x30 * 16) |>.wr AT.WIN_ATTR.R 1 0 (0x30 * 16) |>.wr AT.WIN_ATTR.W 1 0 (0x30 * 16) |>.wr AT.WIN_BASE.BASE 0 0 (0x30 * 16) |>.wr AT.WIN_LIMIT.LIMIT 4096 0 (0x30 * 16), 0, 64, [1, 2, 3, 300], by decide +kernel⟩,
   ⟨{ State.reset with mem := [(64, 7)] }.raise LNK.STATUS.UP 0 |>.wr AT.WIN_ATTR.EN 1 0 (0x30 * 16) |>.wr AT.WIN_ATTR.R 1 0 (0x30 * 16) |>.wr AT.WIN_BASE.BASE 0 0 (0x30 * 16) |>.wr AT.WIN_LIMIT.LIMIT 4096 0 (0x30 * 16), 0, 64, 4, [(64, 3)], by decide +kernel⟩,
   ⟨State.reset.raise LNK.STATUS.UP 0, 0, 64, [1, 2, 3], by decide +kernel⟩,
   ⟨State.reset.raise LNK.STATUS.UP 0, 0, [5, 6], by decide +kernel⟩,
   ⟨State.reset.raise LNK.STATUS.UP 0, 0, [5, 6], by decide +kernel⟩,
   ⟨(((State.reset.raise LNK.STATUS.UP 2).raise Q.CFG.EN 1023).wr Q.CFG.DEPTH 3 1023).wr AT.WIN_ATTR.EN 1 8 (0x31 * 16) |>.wr AT.WIN_ATTR.W 1 8 (0x31 * 16) |>.wr AT.WIN_BASE.BASE (0x2030000000 / 64) 8 (0x31 * 16) |>.wr AT.WIN_LIMIT.LIMIT (0x2030010000 / 64) 8 (0x31 * 16), 2, 1023, List.replicate 64 1, by decide +kernel⟩,
   ⟨(List.range 16).foldl (fun y j => y.wr AT.WIN_ATTR.EN 0 8 (0x31 * 16 + j)) (State.reset.raise LNK.STATUS.UP 2), 2, 1023, List.replicate 64 1, 1, by decide +kernel⟩,
   ⟨State.reset.clear LNK.STATUS.UP 1, 1, 64, [1, 2, 3, 4], by decide +kernel⟩,
   ⟨State.reset.clear LNK.STATUS.UP 1, 1, 64, 4, [], by decide +kernel⟩,
   ⟨State.reset.clear LNK.STATUS.UP 1, 1, 0, [1], by decide +kernel⟩,
   ⟨State.reset.clear LNK.STATUS.UP 1, 1, 3, [], by decide +kernel⟩⟩
/-- States and operands that meet the hypotheses of each clause of Obligations.ExternalInterfaces. -/
theorem meets_ExternalInterfaces :
(∃ (s : State) (q : Fin 1024) (d : List Nat), s.flag Q.CFG.EN q = true ∧ 0 < s.qPosted q ∧ (s.qFetch 0x20 q).2 = some d ∧ (Desc.ofBytes d).type_ = 1
    ∧ (Desc.ofBytes d).len = 0 ∧ s.flag Q.CFG.EN ((Desc.ofBytes d).param % 1024) = false) ∧
(∃ (s : State) (q : Fin 1024), s.flag Q.CFG.EN q = true ∧ 0 < s.qPosted q ∧ (s.qFetch 0x20 q).2 = none) ∧
(∃ (s : State) (q : Fin 1024), s.qPosted q = 0) ∧
(∃ (s : State) (q : Fin 4) (k : Fin 8) (d : List Nat), s.ext.ethTx = [] ∧ bit (s.ethGates q) k = true ∧ s.flag Q.CFG.EN (s.ethTxq q k) = true ∧
    s.qPosted (s.ethTxq q k) ≠ 0 ∧ (s.qFetch 0x20 (s.ethTxq q k)).2 = some d ∧ (Desc.ofBytes d).type_ ≠ 0) ∧
(∃ (s : State) (q : Fin 4) (k : Fin 8) (f d : List Nat), s.ext.ethTx = [] ∧ bit (s.ethGates q) k = true ∧ s.flag Q.CFG.EN (s.ethTxq q k) = true ∧
    s.qPosted (s.ethTxq q k) ≠ 0 ∧ (s.qFetch 0x20 (s.ethTxq q k)).2 = some d ∧ (Desc.ofBytes d).type_ = 0 ∧ (((s.qFetch 0x20 (s.ethTxq q
    k)).1.qTake1 (s.ethTxq q k)).masterRead 0x20 (Desc.ofBytes d).addr (Desc.ofBytes d).len).2 = .ok f) ∧
(∃ (s : State) (q : Fin 4) (k dq : Nat) (d : List Nat), s.ext.ethTx = [(q.val, k, dq, d)] ∧ s.flag Q.CFG.EN dq = false) ∧
(∃ (s : State) (q : Fin 4) (k : Fin 8) (stamp : Nat) (data : List Nat), (9216 < data.length ∨ s.flag Q.CFG.EN (s.ethRxFree q) = false)) ∧
(∃ (s : State) (q : Fin 4) (k : Fin 8) (stamp : Nat) (data d : List Nat), data.length ≤ 9216 ∧ s.flag Q.CFG.EN (s.ethRxFree q) = true ∧ s.qPosted
    (s.ethRxFree q) ≠ 0 ∧ s.qCanPost (s.ethRxq q k) = true ∧ s.ethRxq q k ≠ s.ethRxFree q ∧ (s.qFetch 0x20 (s.ethRxFree q)).2 = some d ∧ (((s.qFetch
    0x20 (s.ethRxFree q)).1.qTake1 (s.ethRxFree q)).masterWrite 0x20 (Desc.ofBytes d).addr data).2.good = true ∧ (Desc.ofBytes d).addr + data.length
    ≤ 0x2000000000) ∧
(∃ (s : State) (q : Fin 4) (k : Fin 256) (e : List Nat), (s.masterRead 0x20 (s.rd ETH.GCL_BASE 0 q + 8 * k) 8).2 = .ok e) ∧
(∃ (s : State) (x n : Nat) (data : List Nat) (errs : List (Nat × Nat)), 2 ^ s.rd PCIE.CFG.BAR0_L < x + n) ∧
(∃ (s : State) (x n : Nat) (data : List Nat) (errs : List (Nat × Nat)),
    let a := s.rd PCIE.BAR0_XLAT + x;
    let u : State := s.forEach errs State.flipBit;
    (∀ y ∈ eccWords a n, u.isUe y = false) ∧ x + n ≤ 2 ^ s.rd PCIE.CFG.BAR0_L ∧ isRegSpace a = false ∧ isOutbound a = false ∧ s.checkAccess 0x28 a n
    false false = none ∧ a % 64 + n ≤ 64 ∧ 0 < n) ∧
(∃ (s : State) (x : PcieReq) (l : List PcieReq) (data : List Nat), s.ext.pcie = x :: l) ∧
(∃ (s : State) (x : PcieReq) (l : List PcieReq) (data : List Nat), s.ext.pcie = x :: l) ∧
(∃ (s : State) (x : PcieReq) (l : List PcieReq), s.ext.pcie = x :: l ∧ x.at_ + 50 * msTicks ≤ s.dtime) ∧
(∃ (s : State) (o i : List Nat), o.length ≤ 64 ∧ i.length ≤ 64) :=
  ⟨⟨(({ State.reset with mem := [(0, 1), (36, 1)] }.raise Q.CFG.EN 0).clear Q.CFG.EN 1).wr Q.PROD.PROD 1 0 |>.wr Q.TAKE.TAKE 0 0 |>.wr Q.SLOTS.TAKE_SLOT 0 0 |>.wr AT.WIN_ATTR.EN 1 0 (0x20 * 16) |>.wr AT.WIN_ATTR.R 1 0 (0x20 * 16) |>.wr AT.WIN_BASE.BASE 0 0 (0x20 * 16) |>.wr AT.WIN_LIMIT.LIMIT 4096 0 (0x20 * 16), 0, 1 :: List.replicate 35 0 ++ 1 :: List.replicate 27 0, by decide +kernel⟩,
   ⟨{ State.reset with flips := [(0, 0), (0, 16)] }.raise Q.CFG.EN 0 |>.wr Q.PROD.PROD 1 0 |>.wr Q.TAKE.TAKE 0 0 |>.wr Q.SLOTS.TAKE_SLOT 0 0, 0, by decide +kernel⟩,
   ⟨State.reset.wr Q.PROD.PROD 0 7 |>.wr Q.TAKE.TAKE 0 7, 7, by decide +kernel⟩,
   ⟨(((({ State.reset with mem := [(0, 1)] }.wr ETH.QUEUES.TXQ 0).raise Q.CFG.EN 31).wr Q.PROD.PROD 1 31).wr Q.TAKE.TAKE 0 31).wr Q.SLOTS.TAKE_SLOT 0 31 |>.wr ETH.QUEUES.TXQ 0 |>.wr AT.WIN_ATTR.EN 1 0 (0x20 * 16) |>.wr AT.WIN_ATTR.R 1 0 (0x20 * 16) |>.wr AT.WIN_BASE.BASE 0 0 (0x20 * 16) |>.wr AT.WIN_LIMIT.LIMIT 4096 0 (0x20 * 16), 3, 7, 1 :: List.replicate 63 0, by decide +kernel⟩,
   ⟨(((({ State.reset with mem := [] }.wr ETH.QUEUES.TXQ 0).raise Q.CFG.EN 31).wr Q.PROD.PROD 1 31).wr Q.TAKE.TAKE 0 31).wr Q.SLOTS.TAKE_SLOT 0 31 |>.wr AT.WIN_ATTR.EN 1 0 (0x20 * 16) |>.wr AT.WIN_ATTR.R 1 0 (0x20 * 16) |>.wr AT.WIN_BASE.BASE 0 0 (0x20 * 16) |>.wr AT.WIN_LIMIT.LIMIT 4096 0 (0x20 * 16), 3, 7, [], List.replicate 64 0, by decide +kernel⟩,
   ⟨{ State.reset with ext := { ethTx := [(3, 7, 9, [])] } }.clear Q.CFG.EN 9, 3, 7, 9, [], by decide +kernel⟩,
   ⟨State.reset.clear Q.CFG.EN (State.reset.ethRxFree 3), 3, 7, 1, [1], by decide +kernel⟩,
   ⟨((((((State.reset.wr ETH.QUEUES.RXFREE 100).wr ETH.QUEUES.RXQ 200).raise Q.CFG.EN 124).wr Q.PROD.PROD 1 124).wr Q.TAKE.TAKE 0 124).raise Q.CFG.EN 231).wr Q.CFG.DEPTH 3 231 |>.wr Q.PROD.PROD 0 231 |>.wr Q.RET.RET 0 231 |>.wr AT.WIN_ATTR.EN 1 0 (0x20 * 16) |>.wr AT.WIN_ATTR.R 1 0 (0x20 * 16) |>.wr AT.WIN_ATTR.W 1 0 (0x20 * 16) |>.wr AT.WIN_BASE.BASE 0 0 (0x20 * 16) |>.wr AT.WIN_LIMIT.LIMIT 4096 0 (0x20 * 16), 3, 7, 1, [5, 6], List.replicate 64 0, by decide +kernel⟩,
   ⟨{ State.reset with mem := [(2040, 3)] }.wr ETH.GCL_BASE 0 0 3, 3, 255, [3, 0, 0, 0, 0, 0, 0, 0], by decide +kernel⟩,
   ⟨State.reset, 2 ^ 40, 4, [1], [], by decide +kernel⟩,
   ⟨{ State.reset with mem := [(64, 7)] }.wr PCIE.BAR0_XLAT 64 |>.wr PCIE.CFG.BAR0_L 20 |>.wr AT.WIN_ATTR.EN 1 0 (0x28 * 16) |>.wr AT.WIN_ATTR.R 1 0 (0x28 * 16) |>.wr AT.WIN_BASE.BASE 0 0 (0x28 * 16) |>.wr AT.WIN_LIMIT.LIMIT 4096 0 (0x28 * 16), 0, 4, [], [(64, 3)], by decide +kernel⟩,
   ⟨{ State.reset with ext := { pcie := [{ master := 3, len := 1 }] } }, { master := 3, len := 1 }, [], [9], by decide +kernel⟩,
   ⟨{ State.reset with ext := { pcie := [{ master := 3, len := 1 }] } }, { master := 3, len := 1 }, [], [9], by decide +kernel⟩,
   ⟨{ State.reset with ext := { pcie := [{ master := 3, len := 1 }] }, dtime := 10 ^ 9 }, { master := 3, len := 1 }, [], by decide +kernel⟩,
   ⟨State.reset, [300], [1], by decide +kernel⟩⟩

end Sys2Proof
end

section
/-!
SUPPORT. The field rules of a register write (R11 to R14): what a write does to the bits of one field, to the bits beside it, and to each
field of a register whose fields lie apart; O17.
-/
namespace Sys2Proof.Machine

/-! ### Bits -/

theorem bit_eq_testBit (n i : Nat) : bit n i = n.testBit i := by
  rw [Nat.testBit_eq_decide_div_mod_eq, bit, beq_eq_decide]

/-- Taking away the bits a number shares with another is clearing them. -/
theorem testBit_sub_and (a b i : Nat) : (a - (a &&& b)).testBit i = (a.testBit i && !b.testBit i) := by
  induction i generalizing a b with
  | zero =>
    have hm := Nat.and_mod_two_eq_one (a := a) (b := b)
    have hle := Nat.and_le_left (n := a) (m := b)
    generalize a &&& b = c at *
    rw [Bool.eq_iff_iff]
    simp only [Nat.testBit_zero, Bool.and_eq_true, Bool.not_eq_true', decide_eq_true_eq, decide_eq_false_iff_not]
    omega
  | succ i ih =>
    have hd := Nat.and_div_two (a := a) (b := b)
    have hle := Nat.and_le_left (n := a) (m := b)
    have hl : (a &&& b) % 2 ≤ a % 2 := (Nat.and_mod_two_pow (n := 1)).trans_le Nat.and_le_left
    have half : (a - (a &&& b)) / 2 = a / 2 - (a / 2 &&& b / 2) := by
      rw [← hd]
      generalize a &&& b = c at *
      omega
    rw [Nat.testBit_add_one, half, ih, Nat.testBit_add_one, Nat.testBit_add_one]

theorem bits_lt (n hi lo : Nat) : bits n hi lo < 2 ^ (hi + 1 - lo) := Nat.mod_lt _ (Nat.two_pow_pos _)

theorem bits_setBits_of_lt {n hi lo v : Nat} (h : v < 2 ^ (hi + 1 - lo)) : bits (setBits n hi lo v) hi lo = v := by
  rw [bits_setBits, Nat.mod_eq_of_lt h]

/-- A change of bits hi to lo leaves the bits of every range beside them. -/
theorem bits_setBits_beside {n hi lo v h l : Nat} (hl : lo ≤ hi) (hd : h < lo ∨ hi < l) : bits (setBits n hi lo v) h l = bits n h l :=
  hd.elim bits_setBits_below fun hd => bits_setBits_above hd (by omega)

/-! ### One field -/

section
variable (f : FieldSpec) (lock : Bool) (keep v : Nat) (acc : Nat × Bool)

theorem FieldSpec.write_of_readOnly (h : f.acc = .ro ∨ f.acc = .wo) : f.write lock keep v acc = acc := by
  rcases h with h | h <;> simp only [FieldSpec.write, h]

theorem FieldSpec.write_of_rw (h : f.acc = .rw) : f.write lock keep v acc =
    (if f.reserved (bits v f.hi f.lo) then acc.1 else setBits acc.1 f.hi f.lo (bits v f.hi f.lo), acc.2) := by
  simp only [FieldSpec.write, h]

theorem FieldSpec.write_of_rwl_locked (h : f.acc = .rwl) :
    f.write true keep v acc = (acc.1, acc.2 || bits acc.1 f.hi f.lo != bits v f.hi f.lo) := by
  simp only [FieldSpec.write, h, if_true]

/-- A field whose LOCK bit is clear is written as a read-write field (R14). -/
theorem FieldSpec.write_of_rwl_unlocked (h : f.acc = .rwl) : f.write false keep v acc =
    (if f.reserved (bits v f.hi f.lo) then acc.1 else setBits acc.1 f.hi f.lo (bits v f.hi f.lo), acc.2) := by
  simp [FieldSpec.write, h]

theorem FieldSpec.write_of_w1c (h : f.acc = .w1c) : f.write lock keep v acc = (setBits acc.1 f.hi f.lo
    (bits acc.1 f.hi f.lo - (bits acc.1 f.hi f.lo &&& bits v f.hi f.lo) ||| bits acc.1 f.hi f.lo &&& bits keep f.hi f.lo), acc.2) := by
  simp only [FieldSpec.write, h]

theorem FieldSpec.write_of_w1s (h : f.acc = .w1s) :
    f.write lock keep v acc = (setBits acc.1 f.hi f.lo (bits acc.1 f.hi f.lo ||| bits v f.hi f.lo), acc.2) := by
  simp only [FieldSpec.write, h]

/-- Whatever its access type, a field of a write either leaves the register or sets its own bits. -/
theorem FieldSpec.write_fst : (f.write lock keep v acc).1 = acc.1 ∨ ∃ x, (f.write lock keep v acc).1 = setBits acc.1 f.hi f.lo x := by
  unfold FieldSpec.write
  dsimp only
  split
  case h_1 | h_2 => exact .inl rfl
  case h_3 => dsimp only; split; exacts [.inl rfl, .inr ⟨_, rfl⟩]
  case h_4 =>
    cases lock
    · simp only [Bool.false_eq_true, if_false]; split; exacts [.inl rfl, .inr ⟨_, rfl⟩]
    · exact .inl rfl
  case h_5 | h_6 => exact .inr ⟨_, rfl⟩

/-- The bits beside a field keep. -/
theorem FieldSpec.bits_write_beside (hf : f.lo ≤ f.hi) {h l : Nat} (hd : h < f.lo ∨ f.hi < l) :
    bits (f.write lock keep v acc).1 h l = bits acc.1 h l := by
  rcases f.write_fst lock keep v acc with e | ⟨x, e⟩ <;> rw [e]
  exact bits_setBits_beside hf hd

/-- A writable field takes the value, or keeps its own where that is a reserved encoding (R11). -/
theorem FieldSpec.bits_write_unlocked (h : f.acc = .rw ∨ f.acc = .rwl) : bits (f.write false keep v acc).1 f.hi f.lo =
    if f.reserved (bits v f.hi f.lo) then bits acc.1 f.hi f.lo else bits v f.hi f.lo := by
  have e : (f.write false keep v acc).1 =
      if f.reserved (bits v f.hi f.lo) then acc.1 else setBits acc.1 f.hi f.lo (bits v f.hi f.lo) := by
    rcases h with h | h
    · rw [f.write_of_rw _ _ _ _ h]
    · rw [f.write_of_rwl_unlocked _ _ _ h]
  rw [e]
  split
  · rfl
  · exact bits_setBits_of_lt (bits_lt _ _ _)

/-- Only a field that a LOCK bit protects tells that it was to change (R14). -/
theorem FieldSpec.write_unlocked_snd : (f.write false keep v acc).2 = acc.2 := by
  unfold FieldSpec.write
  dsimp only
  split <;> rfl

/-- A clear takes the bits written 1 but those that hardware set in the same clock (R13). -/
theorem FieldSpec.bit_write_w1c (h : f.acc = .w1c) (b : Nat) : bit (bits (f.write lock keep v acc).1 f.hi f.lo) b =
    (bit (bits acc.1 f.hi f.lo) b && !(bit (bits v f.hi f.lo) b && !bit (bits keep f.hi f.lo) b)) := by
  have hw := bits_lt acc.1 f.hi f.lo
  rw [f.write_of_w1c _ _ _ _ h, bits_setBits_of_lt (Nat.or_lt_two_pow (by omega) (Nat.and_le_left.trans_lt hw))]
  simp only [bit_eq_testBit, Nat.testBit_or, Nat.testBit_and, testBit_sub_and]
  cases (bits acc.1 f.hi f.lo).testBit b <;> simp

theorem FieldSpec.bit_write_w1s (h : f.acc = .w1s) (b : Nat) : bit (bits (f.write lock keep v acc).1 f.hi f.lo) b =
    (bit (bits acc.1 f.hi f.lo) b || bit (bits v f.hi f.lo) b) := by
  rw [f.write_of_w1s _ _ _ _ h, bits_setBits_of_lt (Nat.or_lt_two_pow (bits_lt _ _ _) (bits_lt _ _ _))]
  simp only [bit_eq_testBit, Nat.testBit_or]
end

/-- Settles O17: one lemma per access type, and the frame of the bits beside the field. -/
theorem fieldAccessTypes : Obligations.FieldAccessTypes := by
  intro f v old keep lock e _ hf
  refine ⟨?rw, ?reserved, f.write_of_readOnly lock keep v (old, e), ?w1c, ?w1s, ?locked, ?unlocked, ?beside⟩
  case rw =>
    intro h hr
    simp only [f.write_of_rw _ _ _ _ h, hr, Bool.false_eq_true, if_false]
    exact bits_setBits_of_lt (bits_lt _ _ _)
  case reserved =>
    intro h hr
    simp only [f.write_of_rw _ _ _ _ h, hr, if_true]
  case w1c => exact fun h b _ => f.bit_write_w1c lock keep v (old, e) h b
  case w1s => exact fun h b _ => f.bit_write_w1s lock keep v (old, e) h b
  case locked =>
    rintro h rfl
    exact f.write_of_rwl_locked keep v (old, e) h
  case unlocked =>
    rintro h rfl hr
    refine ⟨?_, f.write_unlocked_snd keep v (old, e)⟩
    simpa [hr] using f.bits_write_unlocked keep v (old, e) (.inr h)
  case beside => exact fun h l _ hd => f.bits_write_beside lock keep v (old, e) hf hd

end Sys2Proof.Machine
end

section
/-!
SUPPORT. The register table: the fields of every register lie in its 32 bits, one above the other, so that a write's fields do not meet; and what
the write of a whole register does to each of them (R11).
-/
namespace Sys2Proof.Machine

/-- The fields of a register lie inside its 32 bits, each above the one before it. -/
abbrev RegSpec.FieldsRise (r : RegSpec) : Prop :=
  (∀ f ∈ r.fields, f.lo ≤ f.hi ∧ f.hi < 32) ∧ r.fields.Pairwise fun f g => f.hi < g.lo

/-- The parts of the register table that `regBlock` chooses from. -/
def regTable : List (List RegSpec) :=
  [[], regs6_00, regs6_01, regs6_02, regs6_03, regs6_04, regs6_05, regs6_06, regs6_07, regs5_04, regs5_05, regs5_06, regs5_08, regs5_09, regs5_0A,
   regs5_0B, regs5_0C, regs5_0D, regs5_0E, regs5_0F, regs5_10, regs5_1A, regs5_1B, regs5_1C, regs5_1D, regs5_1E, regs5_1F, regs5_20, regs5_21,
   regs5_22, regs5_23, regs6_pxb, regs7_eng, regs7_inf, regs7_ctx, regs8_q]

theorem regBlock_mem_regTable (a : Nat) : regBlock a ∈ regTable := by
  unfold regBlock
  simp only [ite_mem]
  refine ⟨fun _ => ?axis, fun _ => ?block⟩
  case axis => split <;> simp only [regTable, List.mem_cons, true_or, or_true]
  case block => simp only [regTable, List.mem_cons, true_or, or_true, implies_true, and_self]

theorem regTable_fieldsRise : ∀ l ∈ regTable, ∀ r ∈ l, r.FieldsRise := by decide

theorem findReg_mem {a : Nat} {r : RegSpec} {i j : Nat} (h : findReg a = some (r, i, j)) : r ∈ regBlock a := by
  obtain ⟨q, hq, hi⟩ := List.exists_of_findSome?_eq_some h
  obtain ⟨_, _, e⟩ := Option.map_eq_some_iff.mp hi
  obtain rfl : q = r := congrArg Prod.fst e
  exact hq

theorem findReg_fieldsRise {a : Nat} {r : RegSpec} {i j : Nat} (h : findReg a = some (r, i, j)) : r.FieldsRise :=
  regTable_fieldsRise _ (regBlock_mem_regTable a) r (findReg_mem h)

/-! ### A word written field by field -/

/-- Bits beside all of a list of fields keep through the write of them. -/
theorem bits_foldl_write_beside (fs : List FieldSpec) (lock : Bool) (keep v : Nat) (acc : Nat × Bool) {h l : Nat}
    (hf : ∀ g ∈ fs, g.lo ≤ g.hi ∧ (h < g.lo ∨ g.hi < l)) :
    bits (fs.foldl (FieldSpec.write lock keep v) acc).1 h l = bits acc.1 h l := by
  induction fs generalizing acc with
  | nil => rfl
  | cons g fs ih =>
    obtain ⟨hg, hd⟩ := hf g (by simp)
    rw [List.foldl_cons, ih _ fun q hq => hf q (by simp [hq]), g.bits_write_beside _ _ _ _ hg hd]

/-- In a write of rising fields each writable field takes its value or keeps, whatever the others hold: those before it leave its bits, then it is
written, and those after it leave its bits. -/
theorem bits_foldl_write_unlocked (fs : List FieldSpec) (keep v : Nat) (acc : Nat × Bool) (hf : ∀ f ∈ fs, f.lo ≤ f.hi)
    (hp : fs.Pairwise fun f g => f.hi < g.lo) {f : FieldSpec} (hm : f ∈ fs) (ha : f.acc = .rw ∨ f.acc = .rwl) :
    bits (fs.foldl (FieldSpec.write false keep v) acc).1 f.hi f.lo =
      if f.reserved (bits v f.hi f.lo) then bits acc.1 f.hi f.lo else bits v f.hi f.lo := by
  induction fs generalizing acc with
  | nil => simp at hm
  | cons g fs ih =>
    obtain ⟨hg, hp⟩ := List.pairwise_cons.mp hp
    have hfs : ∀ q ∈ fs, q.lo ≤ q.hi := fun q hq => hf q (by simp [hq])
    rw [List.foldl_cons]
    rcases List.mem_cons.mp hm with rfl | hm
    · rw [bits_foldl_write_beside _ _ _ _ _ fun q hq => ⟨hfs q hq, .inl (hg q hq)⟩, f.bits_write_unlocked _ _ _ ha]
    · rw [ih _ hfs hp hm, g.bits_write_beside _ _ _ _ (hf g (by simp)) (.inr (hg f hm))]

theorem RegSpec.bits_write_unlocked {r : RegSpec} (hr : r.FieldsRise) (keep old v : Nat) {f : FieldSpec} (hm : f ∈ r.fields)
    (ha : f.acc = .rw ∨ f.acc = .rwl) : bits (r.write false keep old v).1 f.hi f.lo =
      if f.reserved (bits v f.hi f.lo) then bits old f.hi f.lo else bits v f.hi f.lo :=
  bits_foldl_write_unlocked r.fields keep v (old, false) (fun g hg => (hr.1 g hg).1) hr.2 hm ha

/-- Where nothing is locked no field tells that it was to change (R14). -/
theorem RegSpec.write_unlocked_snd (r : RegSpec) (keep old v : Nat) : (r.write false keep old v).2 = false :=
  List.foldlRecOn r.fields _ (motive := fun acc => acc.2 = false) rfl fun acc h f _ => (f.write_unlocked_snd keep v acc).trans h

end Sys2Proof.Machine
end

section
/-!
SUPPORT. Register writes without an effect of their own (R9, R11, R12, R15): the write of a plain register answers without error and changes that
register alone, a write of a _HI register the pair; O16 and O11.
-/
namespace Sys2Proof.Machine
open Sys2Proof.Safety

/-- A register whose LOCK bit is clear, or that has none, takes the fields of the word. -/
theorem State.writeFields_unlocked (s : State) {a v : Nat} {r : RegSpec} {i j : Nat} (h : findReg a = some (r, i, j)) (hl : s.locked r i = false) :
    s.writeFields a v = (s.setReg a (BitVec.ofNat 32 (r.write false (Tab.get 0 s.justSet a) (s.reg a).toNat v).1), .ok) := by
  simp [State.writeFields, h, hl, r.write_unlocked_snd]

theorem State.locked_of_none (s : State) {r : RegSpec} (h : r.lock = none) (i : Nat) : s.locked r i = false := by
  simp only [State.locked, h]

theorem State.writePlain_w32 (s : State) {a v : Nat} {r : RegSpec} {i j : Nat} (h : findReg a = some (r, i, j)) (hk : r.kind = .w32) :
    s.writePlain a v = s.writeFields a v := by
  simp only [State.writePlain, h, hk]

theorem State.writePlain_hi (s : State) {a v : Nat} {r : RegSpec} {i j : Nat} (h : findReg a = some (r, i, j)) (hk : r.kind = .hi) :
    s.writePlain a v = (s.writeFields (a - 4) (s.held (a - 4))).1.writeFields a v := by
  simp only [State.writePlain, h, hk]

/-- A register that no row gives an effect of its own is written by the field rules alone (R12). -/
theorem State.writeFx_of_plain (s : State) {m a v : Nat} (h : Plain m a v) : s.writeFx m a v = s.writePlain a v := by
  obtain ⟨hrow, hother⟩ := h
  have e : (writesA m a v ++ writesB m a v ++ writesC m a v ++ writesD m a v ++ writesE m a v ++ writesF m a v).findSome? id = none :=
    List.findSome?_eq_none_iff.mpr fun x hx => Option.isNone_iff_eq_none.mp (List.all_eq_true.mp hrow x hx)
  unfold State.writeFx
  rw [e, Option.isNone_iff_eq_none.mp hother]

/-- A permitted write of a plain register that finds nothing locked: what its fields become, marked where it is a debug override, answered without
error. -/
theorem State.busWrite_of_plain (s t : State) {m a v : Nat} (hm : MayWrite s m a (swOf a v)) (hp : Plain m a v) (ht : s.writePlain a v = (t, .ok)) :
    s.busWrite m a v = (t.noteDebug s m).okResp := by
  have e := s.writeFx_of_plain hp
  rw [State.busWrite, State.busWriteWith_granted _ _ _ _ _ hm (by rw [e, ht]), e, ht]

/-- R9, R12: the plain 32-bit register. -/
theorem registerWrite_plain_w32 (s : State) (m : Fin 64) (a : Nat) (v : Word) (r : RegSpec) (i j : Nat) (hm : MayWrite s m a (swOf a v.toNat))
    (hp : Plain m a v.toNat) (h : findReg a = some (r, i, j)) (hk : r.kind = .w32) (hl : s.locked r i = false) :
    Completes (.registerWrite m a v) s fun t => t.resp.err = false ∧ OnlyRegs s t [a] ∧
      t.reg a = BitVec.ofNat 32 (r.write false (Tab.get 0 s.justSet a) (s.reg a).toNat v.toNat).1 := by
  have hw := (s.writePlain_w32 (v := v.toNat) h hk).trans (s.writeFields_unlocked h hl)
  refine ⟨_, congrArg Host.Outcome.next (s.busWrite_of_plain _ hm hp hw), rfl, fun b hb => ?_, ?_⟩
  · simp only [State.okResp_reg, State.noteDebug_reg]
    exact State.reg_setReg_ne _ _ (by simpa using hb)
  · simp only [State.okResp_reg, State.noteDebug_reg, State.reg_setReg_self]

/-- R15: the write of a _HI register, with the word held for its _LO register. -/
theorem writeHi_plain (s : State) (m : Fin 64) (a : Nat) (v : Word) (l r : RegSpec) (i j : Nat) (h4 : 4 ≤ a) (hm : MayWrite s m a (swOf a v.toNat))
    (hp : Plain m a v.toNat) (h : findReg a = some (r, i, j)) (hlo : findReg (a - 4) = some (l, i, j)) (hk : r.kind = .hi) (hr : r.lock = none)
    (hl : l.lock = none) : Completes (.writeHi m a v) s fun t => t.resp.err = false ∧ OnlyRegs s t [a, a - 4] ∧
      t.reg (a - 4) = BitVec.ofNat 32 (l.write false (Tab.get 0 s.justSet (a - 4)) (s.reg (a - 4)).toNat (s.held (a - 4))).1 ∧
      t.reg a = BitVec.ofNat 32 (r.write false (Tab.get 0 s.justSet a) (s.reg a).toNat v.toNat).1 := by
  have hne : a ≠ a - 4 := by omega
  have hw := s.writePlain_hi (v := v.toNat) h hk
  rw [s.writeFields_unlocked hlo (s.locked_of_none hl i), State.writeFields_unlocked _ h (State.locked_of_none _ hr i),
    State.reg_setReg_ne _ _ hne] at hw
  refine ⟨_, congrArg Host.Outcome.next (s.busWrite_of_plain _ hm hp hw), rfl, fun b hb => ?_, ?_, ?_⟩ <;>
    simp only [State.okResp_reg, State.noteDebug_reg]
  · obtain ⟨ha, hb⟩ : b ≠ a ∧ b ≠ a - 4 := by simpa using hb
    rw [State.reg_setReg_ne _ _ ha, State.reg_setReg_ne _ _ hb]
  · rw [State.reg_setReg_ne _ _ hne.symm, State.reg_setReg_self]
  · rw [State.reg_setReg_self]; rfl

/-- Settles O16: the plain 32-bit register, and the pair that a _HI write completes. -/
theorem plainWritesTakeEffect : Obligations.PlainWritesTakeEffect :=
  ⟨registerWrite_plain_w32, writeHi_plain⟩

/-- Settles O11: the register takes what the field rules spell (O16), and since the table's fields lie apart, each of them reads as written by itself. -/
theorem reservedEncodingsKeepTheField : Obligations.ReservedEncodingsKeepTheField := by
  intro s m a v r i j hm hp h hk hl
  obtain ⟨t, hx, herr, -, hreg⟩ := registerWrite_plain_w32 s m a v r i j hm hp h hk hl
  refine ⟨t, hx, herr, fun f hf ha => ?_⟩
  have hrise := findReg_fieldsRise h
  rw [hreg, BitVec.toNat_ofNat, bits_mod (hrise.1 f hf).2, RegSpec.bits_write_unlocked hrise _ _ _ hf ha]

end Sys2Proof.Machine
end

section
/-!
SUPPORT. Register reads (R15, R52, R78, R193): what a permitted read answers and latches, by the register's kind and its group; O15.
-/
namespace Sys2Proof.Machine
open Sys2Proof.Safety

theorem State.busRead_granted (s : State) {m a : Nat} (h : MayRead s m a) :
    s.busRead m a = (s.readReg m a).2.okResp (le 4 (s.readReg m a).1) := by
  simp only [State.busRead, h]

/-! ### Pairs (R15) -/

section
variable (s : State) {m a : Nat} {r : RegSpec} {i j : Nat} (hg : groupOf a = []) (hl : Tab.get none s.glatches (latchKey m a) = none)
  (h : findReg a = some (r, i, j))
include hg hl h

theorem State.readReg_lo (hk : r.kind = .lo) : s.readReg m a = (s.live a, s.setLatch m (a + 4) (s.live (a + 4))) := by
  simp [State.readReg, hg, hl, h, hk]

theorem State.readReg_hi_latched (hk : r.kind = .hi) {v : Nat} (hv : Tab.get none s.latches (latchKey m a) = some v) :
    s.readReg m a = (v, { s with latches := Tab.put none s.latches (latchKey m a) none }) := by
  simp [State.readReg, hg, hl, h, hk, hv]

theorem State.readReg_hi_live (hk : r.kind = .hi) (hv : Tab.get none s.latches (latchKey m a) = none) : s.readReg m a = (s.live a, s) := by
  simp [State.readReg, hg, hl, h, hk, hv]
end

/-! ### Groups (R52, R78, R193) -/

theorem latchKey_inj {m a b : Nat} : latchKey m a = latchKey m b ↔ a = b := by simp [latchKey]

theorem State.setGLatch_glatches (s : State) (m a v : Nat) :
    (s.setGLatch m a v).glatches = Tab.put none s.glatches (latchKey m a) (some v) := rfl

theorem State.get_glatches_setGLatch (s : State) (m a v x : Nat) : Tab.get none (s.setGLatch m a v).glatches (latchKey m x) =
    if x = a then some v else Tab.get none s.glatches (latchKey m x) := by
  rw [State.setGLatch_glatches]
  split
  case isTrue e => rw [e, Tab.get_put_self]
  case isFalse e => rw [Tab.get_put_ne _ _ _ _ (mt latchKey_inj.mp e)]

theorem State.live_setGLatch (s : State) (m a v x : Nat) : (s.setGLatch m a v).live x = s.live x := rfl

/-- After the latch of a group each of its registers is latched at its live value, and every other latch of the master stands. -/
theorem State.get_glatches_latchGroup (s : State) (m : Nat) (l : List Nat) (x : Nat) : Tab.get none (s.latchGroup m l).glatches (latchKey m x) =
    if x ∈ l then some (s.live x) else Tab.get none s.glatches (latchKey m x) := by
  induction l generalizing s with
  | nil => rfl
  | cons y l ih =>
    have e : s.latchGroup m (y :: l) = (s.setGLatch m y (s.live y)).latchGroup m l := rfl
    rw [e, ih, State.live_setGLatch, State.get_glatches_setGLatch]
    by_cases hl : x ∈ l <;> by_cases hy : x = y <;> simp [hl, hy]

theorem State.regs_latchGroup (s : State) (m : Nat) (l : List Nat) : (s.latchGroup m l).regs = s.regs :=
  foldl_keep State.regs (fun s a => s.setGLatch m a (s.live a)) (fun _ _ => rfl) l s

/-- A permitted read of a register that latches a group answers its live value and latches every register of the group. -/
theorem State.busRead_group (s : State) {m a : Nat} {g : List Nat} (h : MayRead s m a) (hg : groupOf a = g) (hne : g ≠ []) :
    (s.busRead m a).resp.err = false ∧ (s.busRead m a).resp.data = le 4 (s.live a) ∧ (s.busRead m a).regs = s.regs ∧
      ∀ x ∈ g, Tab.get none (s.busRead m a).glatches (latchKey m x) = some (s.live x) := by
  have e : s.readReg m a = (s.live a, s.latchGroup m g) := by simp [State.readReg, hg, hne]
  rw [s.busRead_granted h, e]
  refine ⟨rfl, rfl, s.regs_latchGroup m g, fun x hx => ?_⟩
  exact (s.get_glatches_latchGroup m g x).trans (if_pos hx)

/-- The six registers that follow `a`. -/
def nextSix (a : Nat) : List Nat := (List.range 6).map fun k => a + 4 + 4 * k

theorem mem_nextSix (a : Nat) {k : Nat} (hk : k < 6) : a + 4 + 4 * k ∈ nextSix a := List.mem_map.mpr ⟨k, List.mem_range.mpr hk, rfl⟩

theorem groupOf_angle (t : Fin 64) : groupOf (TB.ANGLE.addr t) =
    [TB.ANGLE.addr t + 4, TB.SPEED.SPEED.addr t, TB.STAMP.addr t, TB.STAMP.addr t + 4] := by
  have ha : TB.ANGLE.addr t = 0x2000050010 + t * 0x100 := rfl
  have hs : TB.SPEED.SPEED.addr t = TB.ANGLE.addr t - 4 := by simp only [RF.addr, TB.SPEED.SPEED, TB.ANGLE]; omega
  have hd : TB.STAMP.addr t = TB.ANGLE.addr t + 8 := by simp only [RF.addr, TB.STAMP, TB.ANGLE]; omega
  rw [hs, hd]
  exact if_pos (by omega)

theorem groupOf_actPeriod (n : Fin 48) : groupOf (AX.PWM_ACT_PERIOD.TOP.addr n) = nextSix (AX.PWM_ACT_PERIOD.TOP.addr n) := by
  have ha : AX.PWM_ACT_PERIOD.TOP.addr n = 0x2010000024 + n * 0x10000 := rfl
  exact (if_neg (by omega)).trans (if_pos (by omega))

theorem groupOf_estTheta (n : Fin 48) : groupOf (AX.OBS_EST_THETA.THETA.addr n) = nextSix (AX.OBS_EST_THETA.THETA.addr n) := by
  have ha : AX.OBS_EST_THETA.THETA.addr n = 0x2010000730 + n * 0x10000 := rfl
  exact (if_neg (by omega)).trans ((if_neg (by omega)).trans (if_pos (by omega)))

/-- Settles O15: the two registers of a pair by the latch that stands, then the three registers that latch a group. -/
theorem readsReturnAndLatch : Obligations.ReadsReturnAndLatch := by
  refine ⟨?lo, ?hiLatched, ?hiLive, ?angle, ?actPeriod, ?estTheta⟩
  case lo =>
    intro s m a r i j hm hg hl h hk
    refine ⟨_, congrArg Host.Outcome.next (s.busRead_granted hm), ?_⟩
    rw [s.readReg_lo hg hl h hk]
    exact ⟨rfl, rfl, Tab.get_put_self none s.latches (latchKey m (a + 4)) (some (s.live (a + 4))), rfl⟩
  case hiLatched =>
    intro s m a r i j v hm hg hl h hk hv
    refine ⟨_, congrArg Host.Outcome.next (s.busRead_granted hm), ?_⟩
    rw [s.readReg_hi_latched hg hl h hk hv]
    exact ⟨rfl, rfl, Tab.get_put_self none s.latches (latchKey m a) none, rfl⟩
  case hiLive =>
    intro s m a r i j hm hg hl h hk hv
    refine ⟨_, congrArg Host.Outcome.next (s.busRead_granted hm), ?_⟩
    rw [s.readReg_hi_live hg hl h hk hv]
    exact ⟨rfl, rfl, rfl⟩
  case angle =>
    intro s m t hm
    obtain ⟨herr, hdata, hregs, hlatch⟩ := s.busRead_group hm (groupOf_angle t) (by simp)
    exact ⟨_, rfl, herr, hdata, hregs, hlatch _ (by simp), hlatch _ (by simp), hlatch _ (by simp), hlatch _ (by simp)⟩
  case actPeriod =>
    intro s m n hm
    obtain ⟨herr, hdata, hregs, hlatch⟩ := s.busRead_group hm (groupOf_actPeriod n) (by simp [nextSix])
    exact ⟨_, rfl, herr, hdata, hregs, fun k hk => hlatch _ (mem_nextSix _ hk)⟩
  case estTheta =>
    intro s m n hm
    obtain ⟨herr, hdata, hregs, hlatch⟩ := s.busRead_group hm (groupOf_estTheta n) (by simp [nextSix])
    exact ⟨_, rfl, herr, hdata, hregs, fun k hk => hlatch _ (mem_nextSix _ hk)⟩

end Sys2Proof.Machine
end

section
/-!
SUPPORT. What every command of the table keeps, one arm per constructor as the dispatch has it: the queue of commands; DEVICE TIME where `changesTime`
does not name it; memory where `changesMemory` does not, and otherwise memory's canonical form; O7.
-/
namespace Sys2Proof.Machine
open Sys2Proof.Safety

/-- The command answers a next state that keeps the queue, DEVICE TIME and memory but where it is named for changing them. -/
def CommandKeeps (c : Instr) (s : State) : Prop :=
  ∃ t, exec c s = .next t ∧ t.pending = s.pending ∧ (changesTime c = false → t.dtime = s.dtime) ∧
    (changesMemory c = false → t.mem = s.mem) ∧ (Memory.wf s.mem = true → Memory.wf t.mem = true)

section
variable {c : Instr} {s : State}

theorem CommandKeeps.of_all (h : ∃ t, exec c s = .next t ∧ t.dtime = s.dtime ∧ t.pending = s.pending ∧ t.mem = s.mem) : CommandKeeps c s := by
  obtain ⟨t, he, hd, hp, hm⟩ := h
  exact ⟨t, he, hp, fun _ => hd, fun _ => hm, hm ▸ id⟩

theorem CommandKeeps.of_store (hc : changesMemory c = true)
    (h : ∃ t, exec c s = .next t ∧ t.dtime = s.dtime ∧ t.pending = s.pending ∧ (Memory.wf s.mem = true → Memory.wf t.mem = true)) : CommandKeeps c s := by
  obtain ⟨t, he, hd, hp, hw⟩ := h
  exact ⟨t, he, hp, fun _ => hd, fun hf => absurd hc (by simp [hf]), hw⟩

theorem CommandKeeps.of_time (hc : changesTime c = true)
    (h : ∃ t, exec c s = .next t ∧ t.pending = s.pending ∧ t.mem = s.mem) : CommandKeeps c s := by
  obtain ⟨t, he, hp, hm⟩ := h
  exact ⟨t, he, hp, fun hf => absurd hc (by simp [hf]), fun _ => hm, hm ▸ id⟩

theorem CommandKeeps.of_both (ht : changesTime c = true) (hc : changesMemory c = true)
    (h : ∃ t, exec c s = .next t ∧ t.pending = s.pending ∧ (Memory.wf s.mem = true → Memory.wf t.mem = true)) : CommandKeeps c s := by
  obtain ⟨t, he, hp, hw⟩ := h
  exact ⟨t, he, hp, fun hf => absurd ht (by simp [hf]), fun hf => absurd hc (by simp [hf]), hw⟩
end

theorem commandKeeps (c : Instr) (s : State) : CommandKeeps c s :=
  match c with
  | .registerWrite .. => .of_both rfl rfl (execRegisterWrite_keep ..)
  | .readLoLatch .. => .of_all (execReadLoLatch_keep ..)
  | .readHi .. => .of_all (execReadHi_keep ..)
  | .writeHi .. => .of_both rfl rfl (execWriteHi_keep ..)
  | .tbAngleLoRead .. => .of_all (execTbAngleLoRead_keep ..)
  | .pwmActPeriodRead .. => .of_all (execPwmActPeriodRead_keep ..)
  | .obsEstThetaRead .. => .of_all (execObsEstThetaRead_keep ..)
  | .dtStep .. => .of_time rfl (execDtStep_keep ..)
  | .dtRateWrite .. => .of_all (execDtRateWrite_keep ..)
  | .time .. => .of_time rfl (execTime_keep ..)
  | .alignTimeout => .of_all (execAlignTimeout_keep ..)
  | .tbSoftwareUpdate .. => .of_store rfl (execTbSoftwareUpdate_keep ..)
  | .tachPulse .. => .of_store rfl (execTachPulse_keep ..)
  | .ssiFrame .. => .of_store rfl (execSsiFrame_keep ..)
  | .lsyncEdge .. => .of_store rfl (execLsyncEdge_keep ..)
  | .tbSourceSilent .. => .of_store rfl (execTbSourceSilent_keep ..)
  | .tbHoldExpiry .. => .of_store rfl (execTbHoldExpiry_keep ..)
  | .tbRestart .. => .of_store rfl (execTbRestart_keep ..)
  | .schCfgWrite .. => .of_all (execSchCfgWrite_keep ..)
  | .schTargetWrite .. => .of_all (execSchTargetWrite_keep ..)
  | .slotFire .. => .of_store rfl (execSlotFire_keep ..)
  | .axisEnable .. => .of_all (execAxisEnable_keep ..)
  | .axisDisable .. => .of_all (execAxisDisable_keep ..)
  | .pwmDutyWrite .. => .of_all (execPwmDutyWrite_keep ..)
  | .pwmCommit .. => .of_all (execPwmCommit_keep ..)
  | .pwmCapture .. => .of_all (execPwmCapture_keep ..)
  | .pwmPeriodBoundary .. => .of_store rfl (execPwmPeriodBoundary_keep ..)
  | .dlCalMeasure .. => .of_all (execDlCalMeasure_keep ..)
  | .tripQualified .. => .of_all (execTripQualified_keep ..)
  | .pxbMapWrite .. => .of_all (execPxbMapWrite_keep ..)
  | .pxbSwitchComplete .. => .of_store rfl (execPxbSwitchComplete_keep ..)
  | .loopStep .. => .of_store rfl (execLoopStep_keep ..)
  | .pvComparatorChange .. => .of_all (execPvComparatorChange_keep ..)
  | .pvDacWrite .. => .of_all (execPvDacWrite_keep ..)
  | .pvDacSettled .. => .of_all (execPvDacSettled_keep ..)
  | .dcbSampleDelivered .. => .of_store rfl (execDcbSampleDelivered_keep ..)
  | .ovComparator .. => .of_all (execOvComparator_keep ..)
  | .chfbChange .. => .of_all (execChfbChange_keep ..)
  | .chopNoCurrent .. => .of_all (execChopNoCurrent_keep ..)
  | .chopOverload .. => .of_all (execChopOverload_keep ..)
  | .chopStuck .. => .of_store rfl (execChopStuck_keep ..)
  | .chopFaultClear .. => .of_all (execChopFaultClear_keep ..)
  | .t2Clear .. => .of_all (execT2Clear_keep ..)
  | .busThWrite .. => .of_all (execBusThWrite_keep ..)
  | .accClear .. => .of_all (execAccClear_keep ..)
  | .accSnap .. => .of_all (execAccSnap_keep ..)
  | .accAutoSnap .. => .of_all (execAccAutoSnap_keep ..)
  | .vibSample .. => .of_store rfl (execVibSample_keep ..)
  | .vibRestart .. => .of_all (execVibRestart_keep ..)
  | .vibSettled .. => .of_all (execVibSettled_keep ..)
  | .intlvLock .. => .of_all (execIntlvLock_keep ..)
  | .hkStart .. => .of_all (execHkStart_keep ..)
  | .hkStop .. => .of_all (execHkStop_keep ..)
  | .hkConversionDone .. => .of_all (execHkConversionDone_keep ..)
  | .hkDelayExpiry .. => .of_all (execHkDelayExpiry_keep ..)
  | .hkUrgent .. => .of_all (execHkUrgent_keep ..)
  | .converterWakeDone .. => .of_all (execConverterWakeDone_keep ..)
  | .calCmdStart .. => .of_all (execCalCmdStart_keep ..)
  | .calComplete .. => .of_store rfl (execCalComplete_keep ..)
  | .monSnap .. => .of_all (execMonSnap_keep ..)
  | .monAutoSnap .. => .of_all (execMonAutoSnap_keep ..)
  | .cmpApply .. => .of_all (execCmpApply_keep ..)
  | .spdPreset .. => .of_all (execSpdPreset_keep ..)
  | .spdDerateWrite .. => .of_all (execSpdDerateWrite_keep ..)
  | .lwOpen .. => .of_all (execLwOpen_keep ..)
  | .crossingQualified .. => .of_store rfl (execCrossingQualified_keep ..)
  | .lwClose .. => .of_store rfl (execLwClose_keep ..)
  | .startGo .. => .of_all (execStartGo_keep ..)
  | .startAbort .. => .of_all (execStartAbort_keep ..)
  | .listenEnd .. => .of_all (execListenEnd_keep ..)
  | .waitTimeout .. => .of_all (execWaitTimeout_keep ..)
  | .brakeEnd .. => .of_all (execBrakeEnd_keep ..)
  | .alignEnd .. => .of_all (execAlignEnd_keep ..)
  | .handoverFail .. => .of_all (execHandoverFail_keep ..)
  | .obsLoadGo .. => .of_all (execObsLoadGo_keep ..)
  | .obsLoadDone => .of_all (execObsLoadDone_keep ..)
  | .loadCmdRemove .. => .of_all (execLoadCmdRemove_keep ..)
  | .obsRemoveDone => .of_all (execObsRemoveDone_keep ..)
  | .obsJobComplete .. => .of_store rfl (execObsJobComplete_keep ..)
  | .pewterCheckComplete .. => .of_store rfl (execPewterCheckComplete_keep ..)
  | .obsLate .. => .of_store rfl (execObsLate_keep ..)
  | .obsLaneFence .. => .of_store rfl (execObsLaneFence_keep ..)
  | .forceCls .. => .of_all (execForceCls_keep ..)
  | .resume .. => .of_all (execResume_keep ..)
  | .infEngFence .. => .of_all (execInfEngFence_keep ..)
  | .engCtrlReset .. => .of_store rfl (execEngCtrlReset_keep ..)
  | .tileAssign .. => .of_all (execTileAssign_keep ..)
  | .tileIssue .. => .of_all (execTileIssue_keep ..)
  | .tileRetire .. => .of_all (execTileRetire_keep ..)
  | .ctxLoad .. => .of_store rfl (execCtxLoad_keep ..)
  | .ctxArm .. => .of_store rfl (execCtxArm_keep ..)
  | .ctxDisarm .. => .of_store rfl (execCtxDisarm_keep ..)
  | .ctxAbort .. => .of_store rfl (execCtxAbort_keep ..)
  | .ctxUnload .. => .of_store rfl (execCtxUnload_keep ..)
  | .ctxSnap .. => .of_store rfl (execCtxSnap_keep ..)
  | .ctxRestore .. => .of_store rfl (execCtxRestore_keep ..)
  | .ctxStart .. => .of_store rfl (execCtxStart_keep ..)
  | .ctxCmdComplete .. => .of_store rfl (execCtxCmdComplete_keep ..)
  | .qPost .. => .of_store rfl (execQPost_keep ..)
  | .qTake .. => .of_store rfl (execQTake_keep ..)
  | .qRetire .. => .of_store rfl (execQRetire_keep ..)
  | .qCfgWrite .. => .of_all (execQCfgWrite_keep ..)
  | .qBaseWrite .. => .of_all (execQBaseWrite_keep ..)
  | .frameEnd .. => .of_store rfl (execFrameEnd_keep ..)
  | .frameTimeout .. => .of_store rfl (execFrameTimeout_keep ..)
  | .utilSnap .. => .of_all (execUtilSnap_keep ..)
  | .utilAutoSnap => .of_all (execUtilAutoSnap_keep ..)
  | .matmul .. => .of_store rfl (execMatmul_keep ..)
  | .matmulBias .. => .of_store rfl (execMatmulBias_keep ..)
  | .conv1d .. => .of_store rfl (execConv1d_keep ..)
  | .conv2d .. => .of_store rfl (execConv2d_keep ..)
  | .dwconv .. => .of_store rfl (execDwconv_keep ..)
  | .outlierMm .. => .of_store rfl (execOutlierMm_keep ..)
  | .hadamard .. => .of_store rfl (execHadamard_keep ..)
  | .add .. => .of_store rfl (execAdd_keep ..)
  | .sub .. => .of_store rfl (execSub_keep ..)
  | .mul .. => .of_store rfl (execMul_keep ..)
  | .max .. => .of_store rfl (execMax_keep ..)
  | .min .. => .of_store rfl (execMin_keep ..)
  | .abs .. => .of_store rfl (execAbs_keep ..)
  | .scale .. => .of_store rfl (execScale_keep ..)
  | .clamp .. => .of_store rfl (execClamp_keep ..)
  | .cmp .. => .of_store rfl (execCmp_keep ..)
  | .select .. => .of_store rfl (execSelect_keep ..)
  | .relu .. => .of_store rfl (execRelu_keep ..)
  | .leaky .. => .of_store rfl (execLeaky_keep ..)
  | .tanh .. => .of_store rfl (execTanh_keep ..)
  | .sigmoid .. => .of_store rfl (execSigmoid_keep ..)
  | .gelu .. => .of_store rfl (execGelu_keep ..)
  | .exp .. => .of_store rfl (execExp_keep ..)
  | .log .. => .of_store rfl (execLog_keep ..)
  | .rsqrt .. => .of_store rfl (execRsqrt_keep ..)
  | .recip .. => .of_store rfl (execRecip_keep ..)
  | .softmax .. => .of_store rfl (execSoftmax_keep ..)
  | .layernorm .. => .of_store rfl (execLayernorm_keep ..)
  | .rmsnorm .. => .of_store rfl (execRmsnorm_keep ..)
  | .reduceSum .. => .of_store rfl (execReduceSum_keep ..)
  | .reduceSumU .. => .of_store rfl (execReduceSumU_keep ..)
  | .reduceMax .. => .of_store rfl (execReduceMax_keep ..)
  | .reduceMin .. => .of_store rfl (execReduceMin_keep ..)
  | .argmax .. => .of_store rfl (execArgmax_keep ..)
  | .argmin .. => .of_store rfl (execArgmin_keep ..)
  | .cast .. => .of_store rfl (execCast_keep ..)
  | .quant .. => .of_store rfl (execQuant_keep ..)
  | .dequant .. => .of_store rfl (execDequant_keep ..)
  | .qstat .. => .of_store rfl (execQstat_keep ..)
  | .copy .. => .of_store rfl (execCopy_keep ..)
  | .transpose .. => .of_store rfl (execTranspose_keep ..)
  | .slice .. => .of_store rfl (execSlice_keep ..)
  | .concat .. => .of_store rfl (execConcat_keep ..)
  | .pad .. => .of_store rfl (execPad_keep ..)
  | .gather .. => .of_store rfl (execGather_keep ..)
  | .scatter .. => .of_store rfl (execScatter_keep ..)
  | .scatterAdd .. => .of_store rfl (execScatterAdd_keep ..)
  | .scatterAddU .. => .of_store rfl (execScatterAddU_keep ..)
  | .dma .. => .of_store rfl (execDma_keep ..)
  | .stateLoad .. => .of_store rfl (execStateLoad_keep ..)
  | .stateStore .. => .of_store rfl (execStateStore_keep ..)
  | .wait .. => .of_all (execWait_keep ..)
  | .post .. => .of_store rfl (execPost_keep ..)
  | .retire .. => .of_all (execRetire_keep ..)
  | .barrier .. => .of_all (execBarrier_keep ..)
  | .result .. => .of_all (execResult_keep ..)
  | .nop .. => .of_all (execNop_keep ..)
  | .babInCfgWrite .. => .of_all (execBabInCfgWrite_keep ..)
  | .babCtxEnable .. => .of_all (execBabCtxEnable_keep ..)
  | .babClosePosted => .of_store rfl (execBabClosePosted_keep ..)
  | .babResultApply .. => .of_all (execBabResultApply_keep ..)
  | .babStale .. => .of_all (execBabStale_keep ..)
  | .linkCopy .. => .of_store rfl (execLinkCopy_keep ..)
  | .compare .. => .of_store rfl (execCompare_keep ..)
  | .twinPartnerTimeout .. => .of_store rfl (execTwinPartnerTimeout_keep ..)
  | .twinCopyTimeout .. => .of_store rfl (execTwinCopyTimeout_keep ..)
  | .twinArmTimeout .. => .of_all (execTwinArmTimeout_keep ..)
  | .traceArm .. => .of_all (execTraceArm_keep ..)
  | .memoryAccess .. => .of_both rfl rfl (execMemoryAccess_keep ..)
  | .patrolScrub .. => .of_all (execPatrolScrub_keep ..)
  | .atWindowWrite .. => .of_all (execAtWindowWrite_keep ..)
  | .atCtrlLock .. => .of_all (execAtCtrlLock_keep ..)
  | .chRetireWrite .. => .of_all (execChRetireWrite_keep ..)
  | .fwLoad .. => .of_all (execFwLoad_keep ..)
  | .fwReady .. => .of_all (execFwReady_keep ..)
  | .fwTimeout => .of_all (execFwTimeout_keep ..)
  | .supReset .. => .of_all (execSupReset_keep ..)
  | .supWatchdog => .of_all (execSupWatchdog_keep ..)
  | .supLockstep => .of_store rfl (execSupLockstep_keep ..)
  | .mbRequestWrite .. => .of_all (execMbRequestWrite_keep ..)
  | .mbDoorbell .. => .of_all (execMbDoorbell_keep ..)
  | .mbTake => .of_all (execMbTake_keep ..)
  | .mbReply .. => .of_store rfl (execMbReply_keep ..)
  | .mbCommandTimeout .. => .of_all (execMbCommandTimeout_keep ..)
  | .mbAck .. => .of_all (execMbAck_keep ..)
  | .hello .. => .of_all (execHello_keep ..)
  | .ping .. => .of_all (execPing_keep ..)
  | .axisRelease .. => .of_all (execAxisRelease_keep ..)
  | .axisWithhold .. => .of_all (execAxisWithhold_keep ..)
  | .pxbMap .. => .of_all (execPxbMap_keep ..)
  | .calStart .. => .of_all (execCalStart_keep ..)
  | .obsLoad .. => .of_all (execObsLoad_keep ..)
  | .obsRemove .. => .of_all (execObsRemove_keep ..)
  | .laneFence .. => .of_store rfl (execLaneFence_keep ..)
  | .ctxCmd .. => .of_store rfl (execCtxCmd_keep ..)
  | .engFence .. => .of_all (execEngFence_keep ..)
  | .engReset .. => .of_store rfl (execEngReset_keep ..)
  | .memRetire .. => .of_all (execMemRetire_keep ..)
  | .atWrite .. => .of_all (execAtWrite_keep ..)
  | .atLock .. => .of_all (execAtLock_keep ..)
  | .swWrite .. => .of_both rfl rfl (execSwWrite_keep ..)
  | .powerState .. => .of_all (execPowerState_keep ..)
  | .powerTransitionDone .. => .of_store rfl (execPowerTransitionDone_keep ..)
  | .safeInputChange .. => .of_store rfl (execSafeInputChange_keep ..)
  | .siDisc .. => .of_store rfl (execSiDisc_keep ..)
  | .stoReqWrite .. => .of_store rfl (execStoReqWrite_keep ..)
  | .safAckGroups .. => .of_all (execSafAckGroups_keep ..)
  | .safAckFaults .. => .of_all (execSafAckFaults_keep ..)
  | .stoTestPulse .. => .of_all (execStoTestPulse_keep ..)
  | .heartbeatLoss => .of_all (execHeartbeatLoss_keep ..)
  | .clock .. => .of_store rfl (execClock_keep ..)
  | .safetyWindow .. => .of_store rfl (execSafetyWindow_keep ..)
  | .ss1Timeout .. => .of_store rfl (execSs1Timeout_keep ..)
  | .testSliceStart => .of_all (execTestSliceStart_keep ..)
  | .testSliceComplete .. => .of_store rfl (execTestSliceComplete_keep ..)
  | .testRestoreDone .. => .of_all (execTestRestoreDone_keep ..)
  | .testDeadline .. => .of_store rfl (execTestDeadline_keep ..)
  | .safCfgWrite .. => .of_all (execSafCfgWrite_keep ..)
  | .safLock .. => .of_all (execSafLock_keep ..)
  | .safEnterRun => .of_all (execSafEnterRun_keep ..)
  | .shadow .. => .of_all (execShadow_keep ..)
  | .safety .. => .of_store rfl (execSafety_keep ..)
  | .delayMonitorMeasure .. => .of_all (execDelayMonitorMeasure_keep ..)
  | .replan .. => .of_all (execReplan_keep ..)
  | .ageReplan .. => .of_all (execAgeReplan_keep ..)
  | .svcCmd .. => .of_all (execSvcCmd_keep ..)
  | .recorderTake => .of_store rfl (execRecorderTake_keep ..)
  | .mirrorWrite .. => .of_all (execMirrorWrite_keep ..)
  | .recFlush .. => .of_all (execRecFlush_keep ..)
  | .nvIdxWrite .. => .of_all (execNvIdxWrite_keep ..)
  | .nvReadDone .. => .of_all (execNvReadDone_keep ..)
  | .hoursUpdate => .of_all (execHoursUpdate_keep ..)
  | .bootRom .. => .of_store rfl (execBootRom_keep ..)
  | .keyProg .. => .of_all (execKeyProg_keep ..)
  | .revoke .. => .of_all (execRevoke_keep ..)
  | .lcCmd .. => .of_all (execLcCmd_keep ..)
  | .fuseDone => .of_all (execFuseDone_keep ..)
  | .dbgChallenge .. => .of_all (execDbgChallenge_keep ..)
  | .dbgVerify .. => .of_all (execDbgVerify_keep ..)
  | .attGo .. => .of_all (execAttGo_keep ..)
  | .attDone => .of_store rfl (execAttDone_keep ..)
  | .porAssert .. => .of_both rfl rfl (execPorAssert_keep ..)
  | .porEnd .. => .of_store rfl (execPorEnd_keep ..)
  | .systemReset .. => .of_store rfl (execSystemReset_keep ..)
  | .debugReset .. => .of_store rfl (execDebugReset_keep ..)
  | .axisReset .. => .of_store rfl (execAxisReset_keep ..)
  | .ringGo .. => .of_all (execRingGo_keep ..)
  | .twnCfgEnable .. => .of_all (execTwnCfgEnable_keep ..)
  | .linkTrained .. => .of_all (execLinkTrained_keep ..)
  | .trainingRetry .. => .of_all (execTrainingRetry_keep ..)
  | .enumeration .. => .of_all (execEnumeration_keep ..)
  | .enumTimeout .. => .of_all (execEnumTimeout_keep ..)
  | .enumWaitExpiry => .of_all (execEnumWaitExpiry_keep ..)
  | .enum .. => .of_all (execEnum_keep ..)
  | .ringJoin .. => .of_time rfl (execRingJoin_keep ..)
  | .linkLost .. => .of_store rfl (execLinkLost_keep ..)
  | .write .. => .of_both rfl rfl (execWrite_keep ..)
  | .read .. => .of_all (execRead_keep ..)
  | .completion .. => .of_all (execCompletion_keep ..)
  | .linkPost .. => .of_store rfl (execLinkPost_keep ..)
  | .linkNak .. => .of_all (execLinkNak_keep ..)
  | .linkAckTimeout .. => .of_all (execLinkAckTimeout_keep ..)
  | .retrain .. => .of_all (execRetrain_keep ..)
  | .ethTransmit .. => .of_all (execEthTransmit_keep ..)
  | .ethTxDone .. => .of_store rfl (execEthTxDone_keep ..)
  | .ethReceive .. => .of_store rfl (execEthReceive_keep ..)
  | .ethGateSwitch .. => .of_all (execEthGateSwitch_keep ..)
  | .pcieInbound .. => .of_both rfl rfl (execPcieInbound_keep ..)
  | .pcieCompletionTimeout => .of_all (execPcieCompletionTimeout_keep ..)
  | .pmbusPoll .. => .of_all (execPmbusPoll_keep ..)
  | .pmbusAlert .. => .of_all (execPmbusAlert_keep ..)
  | .serviceTransfer .. => .of_all (execServiceTransfer_keep ..)
  | .wake .. => .of_store rfl (execWake_keep ..)
  | .wakeTimer .. => .of_store rfl (execWakeTimer_keep ..)
  | .thermalSample .. => .of_store rfl (execThermalSample_keep ..)
  | .throttleStep => .of_all (execThrottleStep_keep ..)
  | .gptpOfsUpdate .. => .of_all (execGptpOfsUpdate_keep ..)
  | .intlvLockLoss .. => .of_all (execIntlvLockLoss_keep ..)
  | .dmaTransferDone .. => .of_store rfl (execDmaTransferDone_keep ..)
  | .fwVerifyDone => .of_all (execFwVerifyDone_keep ..)
  | .dbgVerifyDone => .of_all (execDbgVerifyDone_keep ..)
  | .laneLockLoss .. => .of_all (execLaneLockLoss_keep ..)
  | .packetDiscarded .. => .of_all (execPacketDiscarded_keep ..)
  | .linkAck .. => .of_all (execLinkAck_keep ..)
  | .pcieCompletion .. => .of_all (execPcieCompletion_keep ..)
  | .stoReadbackMismatch .. => .of_store rfl (execStoReadbackMismatch_keep ..)
  | .tripAssertionBlanked .. => .of_all (execTripAssertionBlanked_keep ..)
  | .tileStaged .. => .of_all (execTileStaged_keep ..)

/-- Settles O7: what every command keeps, read off the state that it answers. -/
theorem timeAndMemoryKept : Obligations.TimeAndMemoryKept := by
  intro c s t he
  obtain ⟨u, hu, -, htime, hmem, -⟩ := commandKeeps c s
  obtain rfl : u = t := Host.Outcome.next.inj (hu.symm.trans he)
  exact ⟨htime, fun hc a => by rw [State.byte, hmem hc, State.byte]⟩

end Sys2Proof.Machine
end

section
/-!
SUPPORT. Reading a field after hardware has written it or another field, said once for every way in which hardware writes a field, and the frame
OnlyRegs along a chain of such writes.
-/
namespace Sys2Proof.Machine
open Sys2Proof.Safety

/-! ### Two's complement -/

theorem ofS_lt (w : Nat) (i : Int) : ofS w i < 2 ^ w := by
  have h : (0 : Int) < ((2 ^ w : Nat) : Int) := by exact_mod_cast Nat.two_pow_pos w
  have h0 := Int.emod_nonneg i h.ne'
  have h1 := Int.emod_lt_of_pos i h
  unfold ofS
  omega

/-- A number that `w` bits hold is read back from its code. -/
theorem toS_ofS {w : Nat} {i : Int} (hw : 0 < w) (h : -(2 ^ (w - 1) : Int) ≤ i ∧ i < 2 ^ (w - 1)) : toS w (ofS w i) = i := by
  have e : (2 : Int) ^ w = 2 * 2 ^ (w - 1) := by rw [← pow_succ']; congr 1; omega
  have hp : (2 : Int) ^ (w - 1) = ((2 ^ (w - 1) : Nat) : Int) := by push_cast; rfl
  have hm : ofS w i % 2 ^ w = ofS w i := Nat.mod_eq_of_lt (ofS_lt w i)
  unfold toS
  simp only [hm]
  rcases lt_or_ge i 0 with hi | hi
  · have ho : ((ofS w i : Nat) : Int) = i + 2 ^ w := by
      unfold ofS
      push_cast
      rw [← Int.add_emod_right, Int.emod_eq_of_lt (by omega) (by omega), Int.toNat_of_nonneg (by omega)]
    rw [if_neg (by omega)]; push_cast; omega
  · have ho : ((ofS w i : Nat) : Int) = i := by
      unfold ofS
      push_cast
      rw [Int.emod_eq_of_lt hi (by omega), Int.toNat_of_nonneg hi]
    rw [if_pos (by omega), ho]

theorem satS_le (w : Nat) (i : Int) : -(2 ^ (w - 1) : Int) ≤ satS w i ∧ satS w i < 2 ^ (w - 1) := by
  have h : (0 : Int) < 2 ^ (w - 1) := by positivity
  unfold satS
  push_cast
  split
  · omega
  · split <;> omega

theorem satS_of_mem {w : Nat} {i : Int} (h : -(2 ^ (w - 1) : Int) ≤ i ∧ i < 2 ^ (w - 1)) : satS w i = i := by
  unfold satS
  push_cast
  rw [if_neg (by omega), if_neg (by omega)]

/-! ### A field after the write of another one -/

/-- Two fields of one unit share no bit: they lie in different registers, or apart in one register. -/
def RF.beside (f g : RF) : Bool :=
  f.s1 == g.s1 &&
    if f.base = g.base then decide (f.lo ≤ f.hi) && decide (f.hi < 32) && decide (g.hi < 32) && (decide (f.hi < g.lo) || decide (g.hi < f.lo))
    else !(f.hi == 63 && g.base == f.base + 4) && !(g.hi == 63 && f.base == g.base + 4)

section
variable (s : State) {f g : RF} (i : Nat)

theorem State.rd_wr_of_beside (v : Nat) (h : f.beside g = true) : (s.wr f v i).rd g i = s.rd g i := by
  unfold RF.beside at h
  obtain ⟨hs, h⟩ := Bool.and_eq_true_iff.mp h
  have hs : f.s1 = g.s1 := by simpa using hs
  split at h
  case isTrue hb =>
    simp only [Bool.and_eq_true, Bool.or_eq_true, decide_eq_true_eq] at h
    obtain ⟨⟨⟨hl, hf⟩, hg⟩, hd⟩ := h
    exact State.rd_wr_beside _ _ _ _ _ _ _ _ (by simp [RF.addr, hb, hs]) hf (by omega) hg hd
  case isFalse hb =>
    simp only [Bool.and_eq_true, Bool.not_eq_true', Bool.and_eq_false_iff, beq_eq_false_iff_ne] at h
    refine State.rd_wr_apart _ _ _ _ _ _ _ _ ?_
    simp only [RF.apart, RF.off, RF.addr, hs]
    omega
theorem State.rd_wrS_of_beside (v : Int) (h : f.beside g = true) : (s.wrS f v i).rd g i = s.rd g i := State.rd_wr_of_beside _ _ _ h
theorem State.rd_raise_of_beside (h : f.beside g = true) : (s.raise f i).rd g i = s.rd g i := State.rd_wr_of_beside _ _ _ h
theorem State.rd_clear_of_beside (h : f.beside g = true) : (s.clear f i).rd g i = s.rd g i := State.rd_wr_of_beside _ _ _ h
theorem State.rd_raiseIf_of_beside (c : Bool) (h : f.beside g = true) : (s.raiseIf c f i).rd g i = s.rd g i := by
  unfold State.raiseIf
  split
  · exact State.rd_raise_of_beside _ _ h
  · rfl
theorem State.rd_incWrap_of_beside (h : f.beside g = true) : (s.incWrap f i).rd g i = s.rd g i := State.rd_wr_of_beside _ _ _ h

end

/-! ### A field after its own write -/

/-- A flag: one bit of a 32-bit register. -/
abbrev RF.oneBit (f : RF) : Prop := f.lo = f.hi ∧ f.hi < 32

section
variable (s : State) (f : RF) (i j : Nat)

theorem State.rd_raise (h : f.oneBit) : (s.raise f i j).rd f i j = 1 := by
  have e := State.rd_wr_self s f 1 i j h.2 (by omega)
  have w : f.width = 1 := by unfold RF.width; omega
  rw [w] at e
  exact e
theorem State.rd_clear (h : f.hi < 32) (hl : f.lo ≤ f.hi + 1) : (s.clear f i j).rd f i j = 0 := by
  have e := State.rd_wr_self s f 0 i j h hl
  rw [Nat.zero_mod] at e
  exact e
theorem State.flag_raise (h : f.oneBit) : (s.raise f i j).flag f i j = true := by
  rw [State.flag, State.rd_raise _ _ _ _ h]; rfl
theorem State.flag_clear (h : f.oneBit) : (s.clear f i j).flag f i j = false := by
  rw [State.flag, State.rd_clear _ _ _ _ h.2 (by omega)]; rfl
theorem State.flag_raiseIf (c : Bool) (h : f.oneBit) : (s.raiseIf c f i j).flag f i j = (s.flag f i j || c) := by
  unfold State.raiseIf
  split
  case isTrue hc => rw [State.flag_raise _ _ _ _ h, hc, Bool.or_true]
  case isFalse hc => rw [Bool.eq_false_of_not_eq_true hc, Bool.or_false]
/-- A signed field reads as the number written to it, where its width holds it. -/
theorem State.rdS_wrS {v : Int} (hf : f.lo ≤ f.hi ∧ f.hi < 32 ∨ f.lo = 0 ∧ f.hi = 63)
    (hv : -(2 ^ (f.width - 1) : Int) ≤ v ∧ v < 2 ^ (f.width - 1)) : (s.wrS f v i j).rdS f i j = v := by
  have e : (s.wrS f v i j).rd f i j = ofS f.width v := by
    have hm : ofS f.width v % 2 ^ f.width = ofS f.width v := Nat.mod_eq_of_lt (ofS_lt _ _)
    rcases hf with hf | hf
    · exact (State.rd_wr_self s f _ i j hf.2 (by omega)).trans hm
    · have w : f.width = 64 := by unfold RF.width; omega
      rw [w] at hm
      exact (State.rd_wr_pair s f _ i j hf.2).trans (by rw [w]; exact hm)
  rw [State.rdS, e, toS_ofS (by unfold RF.width; omega) hv]

end

/-! ### The registers that a chain of writes may change -/

section
variable {s t : State} {l : List Nat} (h : OnlyRegs s t l)
include h

theorem onlyRegs_wr (f : RF) (v i j : Nat) (ha : f.addr i j ∈ l) (hb : f.hi = 63 → f.addr i j + 4 ∈ l) : OnlyRegs s (t.wr f v i j) l := fun a ho =>
  (State.reg_wr_off t f v i j a ⟨fun e => ho (e ▸ ha), fun e e' => ho (e' ▸ hb e)⟩).trans (h a ho)
theorem onlyRegs_raise (f : RF) (i j : Nat) (ha : f.addr i j ∈ l) (hb : f.hi = 63 → f.addr i j + 4 ∈ l) : OnlyRegs s (t.raise f i j) l :=
  onlyRegs_wr h f 1 i j ha hb
theorem onlyRegs_raiseIf (c : Bool) (f : RF) (i j : Nat) (ha : f.addr i j ∈ l) (hb : f.hi = 63 → f.addr i j + 4 ∈ l) :
    OnlyRegs s (t.raiseIf c f i j) l := by
  unfold State.raiseIf
  split
  · exact onlyRegs_raise h f i j ha hb
  · exact h
/-- An update that changes no register. -/
theorem onlyRegs_of_reg {u : State} (hu : ∀ a, u.reg a = t.reg a) : OnlyRegs s u l := fun a ho => (hu a).trans (h a ho)

end
theorem onlyRegs_refl (s : State) (l : List Nat) : OnlyRegs s s l := fun _ _ => rfl

/-! ### Register writes that the access table grants -/

/-- What a granted register write leaves is what its effect leaves, but for the response and the mark of a debug override. -/
theorem busWriteWith_registers {s : State} {m a : Nat} {sw : Bool} {fx : State → State × WErr} (h : MayWrite s m a sw) (hf : (fx s).2 = .ok) :
    (s.busWriteWith m a sw fx).resp.err = false ∧ (∀ b, (s.busWriteWith m a sw fx).reg b = (fx s).1.reg b) ∧
    (∀ g i j, (s.busWriteWith m a sw fx).rd g i j = (fx s).1.rd g i j) := by
  rw [State.busWriteWith_granted s m a sw fx h hf]
  exact ⟨rfl, fun b => by simp, fun g i j => by simp⟩

end Sys2Proof.Machine
end

section
/-!
SUPPORT. Reset (R29, R290, R321) and the commands of DEVICE TIME (R30 to R34, R405): steps, trims of the rate, and measured offsets.
-/
namespace Sys2Proof.Machine
open Sys2Proof.Safety

/-- Settles O3: the reset state holds no register of its own, so every field reads its reset value. -/
theorem resetValues : Obligations.ResetValues :=
  ⟨rfl, rfl, rfl, rfl, rfl, by decide +kernel, by decide +kernel, by decide +kernel, by decide +kernel, by decide +kernel, by decide +kernel,
    by decide +kernel, by decide +kernel⟩

/-! ### Steps (R31, R438) -/

theorem State.forEach_recd {α : Type} (s : State) (l : List α) (f : State → α → State) (h : ∀ s a, (f s a).recd = s.recd) :
    (s.forEach l f).recd = s.recd := foldl_keep State.recd f h l s
theorem State.babRestart_recd (s : State) (v : Nat) : (s.babRestart v).recd = s.recd := by
  unfold State.babRestart State.babShow
  split <;> simp
theorem State.vibRestart_recd (s : State) (c from_ : Nat) : (s.vibRestart c from_).recd = s.recd := by
  unfold State.vibRestart
  dsimp only
  split <;> simp [State.babRestart_recd]
theorem State.shiftNamed_recd (s : State) (d : Int) : (s.shiftNamed d).recd = s.recd := by
  simp [State.shiftNamed, State.forEach_recd]
/-- A step moves the arrivals of waiting events and keeps their number. -/
theorem State.shiftUnits_queue_length (s : State) (d : Int) : (s.shiftUnits d).recd.queue.length = s.recd.queue.length := by
  simp [State.shiftUnits, State.forEach_recd]

/-- A step that is allowed moves DEVICE TIME and notes so with the new time (R31). -/
theorem State.stepTime_of_stepOk (s : State) (d : Int) (h : s.stepOk = true) :
    (s.stepTime d).dtime = shiftT d s.dtime ∧ (Room s → Noted (s.stepTime d) 0x0003 srcModule (shiftT d s.dtime)) := by
  unfold State.stepTime
  rw [if_pos h]
  dsimp only
  refine ⟨?_, fun hr => ?_⟩
  · rw [State.forEach_dtime _ _ _ (fun u c => by split <;> simp)]
    simp
  · unfold Noted
    rw [State.forEach_recd _ _ _ (fun u c => by split <;> simp [State.vibRestart_recd]),
      State.emit_queue _ _ _ _ (by simpa [State.shiftUnits_queue_length, State.shiftNamed_recd] using hr)]
    exact ⟨_, (insertEvent_mem _ _ _).mpr (Or.inl rfl), rfl, rfl, rfl⟩

/-- A step that is not allowed only sets STEP_REFUSED. -/
theorem State.stepTime_of_not_stepOk (s : State) (d : Int) (h : s.stepOk = false) : s.stepTime d = s.raise DT.STATUS.STEP_REFUSED := by
  unfold State.stepTime
  rw [if_neg (by simp [h])]

/-! ### The rate (R30, R34) -/

theorem State.setRate_rdS (s : State) (r : Int) : (s.setRate r).rdS DT.RATE.RATE = clampI (-429497) 429497 r := by
  unfold State.setRate State.rdS
  rw [State.rd_raiseIf_of_beside _ _ _ (by decide)]
  exact State.rdS_wrS s DT.RATE.RATE 0 0 (by decide) (by
    show _ ≤ clampI _ _ _ ∧ clampI _ _ _ < _
    unfold clampI
    norm_num [RF.width, DT.RATE.RATE]
    repeat' split
    all_goals omega)
theorem State.setRate_flag (s : State) (r : Int) :
    (s.setRate r).flag DT.STATUS.RATE_CLAMP = true ↔ s.flag DT.STATUS.RATE_CLAMP = true ∨ r < -429497 ∨ 429497 < r := by
  unfold State.setRate
  rw [State.flag_raiseIf _ _ _ _ _ (by decide), Bool.or_eq_true, decide_eq_true_eq, State.flag, State.rd_wrS_of_beside _ _ _ (by decide)]
  exact Iff.rfl
theorem State.setRate_onlyRegs (s : State) (r : Int) : OnlyRegs s (s.setRate r) [DT.RATE.RATE.base, DT.STATUS.RATE_CLAMP.base] :=
  onlyRegs_raiseIf (onlyRegs_wr (onlyRegs_refl s _) DT.RATE.RATE _ 0 0 (by decide) (by decide)) _ _ 0 0 (by decide) (by decide)

theorem State.trimFree_rd (s : State) (g : RF) (h : DT.RATE.RATE.beside g = true) (h' : DT.STATUS.RATE_CLAMP.beside g = true) :
    s.trimFree.rd g = s.rd g := by
  unfold State.trimFree State.setRate
  dsimp only
  rw [State.rd_raiseIf_of_beside _ _ _ h', State.rd_wrS_of_beside _ _ _ h]
  rfl
theorem State.trimFree_timeH (s : State) : s.trimFree.timeH = s.timeH := by
  simp [State.trimFree, State.setRate, State.draw]

/-! ### Offsets to the master (R32, R405) -/

/-- What a follower that has stepped makes of an offset that OFFSET holds. -/
theorem State.offsetMeasured_of_stepped (s : State) (o : Int) (hs : s.timeH.stepped = true) (ho : (-2 ^ 31 : Int) ≤ o ∧ o < 2 ^ 31) :
    (s.offsetMeasured o).rdS DT.OFFSET.OFFSET = o ∧ (s.offsetMeasured o).timeH.lastOffset = s.dtime ∧
    ((s.offsetMeasured o).flag DT.STATUS.ALIGNED = true → (alignLimit : Int) ≥ absI o) := by
  have hf : ∀ u : State, u.timeH.stepped = true → u.followerStep o = u := fun u hu => by
    unfold State.followerStep
    rw [if_pos hu]
  have hr : (s.wrS DT.OFFSET.OFFSET o).rdS DT.OFFSET.OFFSET = o := State.rdS_wrS s DT.OFFSET.OFFSET 0 0 (by decide) ho
  have hw : ∀ v, (s.wr DT.OFFSET.OFFSET v).timeH.stepped = true := fun v => by simpa using hs
  unfold State.offsetMeasured
  rw [if_pos (satS_of_mem ho)]
  dsimp only
  rw [hf _ (hw _)]
  refine ⟨?_, ?_, fun ha => ?_⟩
  · refine Eq.trans ?_ hr
    unfold State.rdS
    rw [State.trimFree_rd _ _ (by decide) (by decide)]
    split
    · rw [State.rd_clear_of_beside _ _ (by decide)]; rfl
    · rw [State.rd_raiseIf_of_beside _ _ _ (by decide)]; rfl
  · rw [State.trimFree_timeH]
    split <;> simp
  · by_contra hl
    rw [State.flag, State.trimFree_rd _ _ (by decide) (by decide), if_pos (by simpa using hl)] at ha
    exact absurd ha (by rw [State.rd_clear _ _ _ _ (by decide) (by decide)]; decide)

theorem State.pairJudge_rd (s : State) (o : Int) (peer : Bool) (g : RF) (h : TWN.STATUS.PAIRED.beside g = true) :
    (s.pairJudge o peer).rd g = s.rd g := State.rd_raiseIf_of_beside _ _ _ h
theorem State.pairJudge_timeH (s : State) (o : Int) (peer : Bool) : (s.pairJudge o peer).timeH = s.timeH := by
  simp [State.pairJudge]

/-- The state at which an exchange judges the offset: the packet has arrived, and DELAY of its port shows the hop. -/
def State.timeArrived (s : State) (p d : Nat) : State := (s.linkRecv p pkTime).wr LNK.DELAY.DELAY d p

theorem State.timeArrived_rd (s : State) (p d : Nat) (g : RF) (k : Nat) (h : LNK.DELAY.DELAY.off p 0 (g.addr k)) (h63 : g.hi ≠ 63) :
    (s.timeArrived p d).rd g k = s.rd g k := by
  unfold State.timeArrived
  rw [State.rd_wr_apart _ _ _ _ _ _ _ _ ⟨h, fun e => absurd e h63⟩]
  rfl
theorem State.timeArrived_flag (s : State) (p d : Nat) (g : RF) (k : Nat) (h : LNK.DELAY.DELAY.off p 0 (g.addr k)) (h63 : g.hi ≠ 63) :
    (s.timeArrived p d).flag g k = s.flag g k := by
  unfold State.flag
  rw [State.timeArrived_rd _ _ _ _ _ h h63]
/-- The arrival moves no port's link and no place in the ring, so the port of measurement stays. -/
theorem State.timeArrived_timePort (s : State) (p : Fin 3) (d : Nat) : (s.timeArrived p d).timePort = s.timePort := by
  have hoff : ∀ (g : RF) (k : Nat), g.addr k < 0x200020001C ∨ g.addr k = LNK.STATUS.UP.addr k → LNK.DELAY.DELAY.off p.val 0 (g.addr k) := by
    intro g k h
    simp only [RF.off, RF.addr, LNK.DELAY.DELAY, LNK.STATUS.UP] at h ⊢
    omega
  have hr : ∀ (g : RF) (k : Nat), g.addr k < 0x200020001C ∨ g.addr k = LNK.STATUS.UP.addr k → g.hi ≠ 63 → (s.timeArrived p d).rd g k = s.rd g k :=
    fun g k h h63 => State.timeArrived_rd _ _ _ _ _ (hoff g k h) h63
  have hu : ∀ k, (s.timeArrived p d).flag LNK.STATUS.UP k = s.flag LNK.STATUS.UP k := fun k => by
    rw [State.flag, hr _ _ (Or.inr rfl) (by decide), State.flag]
  unfold State.timePort State.hopsToMaster
  rw [hu, hu, hr PWR.RING_STATUS.PRESENT 0 (by decide) (by decide), hr PWR.RING_STATUS.GAP 0 (by decide) (by decide),
    hr PWR.RING_STATUS.RING_ID 0 (by decide) (by decide), hr PWR.RING_STATUS.MASTER 0 (by decide) (by decide)]

/-- An exchange from which the follower takes its offset: over its own port, or over port 2 of a standalone pair. -/
theorem execTime_measured (s : State) (p : Fin 3) (t1 t2 t3 t4 serdes : Nat) (nb : Int) (peer : Bool) (hl : s.flag LNK.STATUS.UP p = true)
    (hr : s.rd DT.CTRL.ROLE = 2) (he : s.flag PWR.START_STATUS.ENUM_DONE = true)
    (hp : p.val ≠ 2 ∧ p.val = s.timePort ∨ p.val = 2 ∧ s.pwr.alone = true) :
    let hop : Int := ((256 * ((t2 : Int) - t1) - serdes) - (256 * ((t4 : Int) - t3) - serdes)) / 2
    ∃ d, execTime p t1 t2 t3 t4 serdes nb peer s = .next (if p.val = 2 then ((s.timeArrived p d).offsetMeasured (hop + nb)).pairJudge hop peer
      else (s.timeArrived p d).offsetMeasured (hop + nb)) := by
  intro hop
  let d := ofS 32 (((256 * ((t2 : Int) - t1) - serdes) + (256 * ((t4 : Int) - t3) - serdes)) / 2)
  have hr' : (s.timeArrived p d).rd DT.CTRL.ROLE = 2 := by
    rw [State.timeArrived_rd _ _ _ _ _ (by simp only [RF.off, RF.addr, LNK.DELAY.DELAY, DT.CTRL.ROLE]; omega) (by decide), hr]
  have he' : (s.timeArrived p d).flag PWR.START_STATUS.ENUM_DONE = true := by
    rw [State.timeArrived_flag _ _ _ _ _ (by simp only [RF.off, RF.addr, LNK.DELAY.DELAY, PWR.START_STATUS.ENUM_DONE]; omega) (by decide), he]
  have ha : (s.timeArrived p d).pwr.alone = s.pwr.alone := by
    simp [State.timeArrived, State.linkRecv]
  have ht : (s.timeArrived p d).timePort = s.timePort := State.timeArrived_timePort s p d
  refine ⟨d, ?_⟩
  unfold execTime
  rw [if_neg (by simp [hl])]
  show (if p.val = 2 then Host.Outcome.next ((if (s.timeArrived p d).rd DT.CTRL.ROLE = 2 ∧ (s.timeArrived p d).pwr.alone = true ∧
      (s.timeArrived p d).flag PWR.START_STATUS.ENUM_DONE = true then (s.timeArrived p d).offsetMeasured (hop + nb)
      else s.timeArrived p d).pairJudge hop peer)
    else if (s.timeArrived p d).rd DT.CTRL.ROLE = 2 ∧ p.val = (s.timeArrived p d).timePort ∧
      (s.timeArrived p d).flag PWR.START_STATUS.ENUM_DONE = true then .next ((s.timeArrived p d).offsetMeasured (hop + nb))
    else .next (s.timeArrived p d)) = _
  rcases hp with ⟨h2, hp⟩ | ⟨h2, hp⟩
  · rw [if_neg h2, if_neg h2, if_pos ⟨hr', hp.trans ht.symm, he'⟩]
  · rw [if_pos h2, if_pos h2, if_pos ⟨hr', ha.trans hp, he'⟩]

/-- Settles O18: a step, allowed or not, a written trim, a measured offset, a follower without measurements, and gPTP time. -/
theorem deviceTimeCommands : Obligations.DeviceTimeCommands := by
  unfold Obligations.DeviceTimeCommands
  refine ⟨?step, ?refused, ?rate, ?time, ?timeout, ?gptp⟩
  case step =>
    intro s m v hw hs
    let d := toS 64 (s.held DT.STEP.base + v.toNat * 2 ^ 32)
    obtain ⟨hd, hn⟩ := s.stepTime_of_stepOk d hs
    have hx : (s.fxDtStepHi v.toNat).1 = s.stepTime d := rfl
    have ht : ((s.stepTime d).noteDebug s m).okResp.dtime = shiftT d s.dtime := by simp [hd]
    refine ⟨_, rfl, ?_⟩
    rw [State.busWriteWith_granted s m _ _ (fun s => s.fxDtStepHi v.toNat) hw rfl, hx]
    refine ⟨rfl, ht, fun hr => ?_⟩
    rw [ht]
    simpa [Noted] using hn hr
  case refused =>
    intro s m v hw hs
    have hx : (s.fxDtStepHi v.toNat).1 = s.raise DT.STATUS.STEP_REFUSED := State.stepTime_of_not_stepOk s _ hs
    refine ⟨_, rfl, ?_⟩
    rw [State.busWriteWith_granted s m _ _ (fun s => s.fxDtStepHi v.toNat) hw rfl, hx]
    refine ⟨by simp, ?_, ?_⟩
    · simpa using State.flag_raise s DT.STATUS.STEP_REFUSED 0 0 (by decide)
    · exact onlyRegs_of_reg (onlyRegs_raise (onlyRegs_refl s _) DT.STATUS.STEP_REFUSED 0 0 (by decide) (by decide)) (fun a => by simp)
  case rate =>
    intro s m v hw hr hg
    have hx : s.fxDtRate v.toNat = (s.setRate (toS 32 v.toNat), .ok) := if_neg (by simp [hr, hg])
    refine ⟨_, rfl, ?_⟩
    rw [State.busWriteWith_granted s m _ _ (fun s => s.fxDtRate v.toNat) hw (congrArg Prod.snd hx), hx]
    refine ⟨rfl, ?_, ?_, ?_⟩
    · simpa using s.setRate_rdS (toS 32 v.toNat)
    · simpa using s.setRate_flag (toS 32 v.toNat)
    · exact onlyRegs_of_reg (s.setRate_onlyRegs (toS 32 v.toNat)) (fun a => by simp)
  case time =>
    intro s p t1 t2 t3 t4 serdes nb peer hop hl hr he hp hs hlo hhi
    obtain ⟨d, hx⟩ := execTime_measured s p t1 t2 t3 t4 serdes nb peer hl hr he hp
    have hm := (s.timeArrived p d).offsetMeasured_of_stepped (hop + nb) (by simpa [State.timeArrived, State.linkRecv] using hs) ⟨hlo, hhi⟩
    refine ⟨_, hx, ?_⟩
    have hd : (s.timeArrived p d).dtime = s.dtime := by simp [State.timeArrived, State.linkRecv]
    rw [hd] at hm
    split
    · simp only [State.rdS, State.flag, State.pairJudge_rd _ _ _ DT.OFFSET.OFFSET (by decide), State.pairJudge_timeH,
        State.pairJudge_rd _ _ _ DT.STATUS.ALIGNED (by decide)]
      exact hm
    · exact hm
  case timeout =>
    intro s hr ht
    refine ⟨_, if_pos ⟨hr, ht⟩, ?_, ?_⟩
    · exact State.flag_clear _ DT.STATUS.ALIGNED 0 0 (by decide)
    · exact onlyRegs_wr (onlyRegs_of_reg (onlyRegs_refl s _) (fun _ => rfl)) DT.STATUS.ALIGNED 0 0 0 (by decide) (by decide)
  case gptp =>
    intro s ofs hlo hhi
    have hv : (s.wrS DT.GPTP_OFS ofs).rdS DT.GPTP_OFS = ofs := State.rdS_wrS s DT.GPTP_OFS 0 0 (by decide) ⟨hlo, hhi⟩
    have hg : (s.wrS DT.GPTP_OFS ofs).flag DT.CTRL.GPTP_FOLLOW = s.flag DT.CTRL.GPTP_FOLLOW := by
      rw [State.flag, State.rd_wrS_of_beside _ _ _ (by decide), State.flag]
    refine ⟨_, rfl, ?_, fun hf => ?_⟩
    · split
      · rw [State.rdS, State.trimFree_rd _ _ (by decide) (by decide)]
        exact hv
      · exact hv
    · rw [if_neg (by simp [hg, hf])]
      exact onlyRegs_wr (onlyRegs_refl s _) DT.GPTP_OFS _ 0 0 (by decide) (by decide)

end Sys2Proof.Machine
end

section
/-!
SUPPORT. Fields read after a register write by the field rules, and schedule slots: what arming, idling, a written configuration and a firing leave
in the registers of the slot (R45, R48, R49).
-/
namespace Sys2Proof.Machine
open Sys2Proof.Safety

/-! ### Fields after a register write -/

/-- A field of a register that the list does not name reads as before. -/
theorem onlyRegs_rd {s t : State} {l : List Nat} (h : OnlyRegs s t l) (g : RF) (i j : Nat) (ha : g.addr i j ∉ l)
    (hb : g.hi = 63 → g.addr i j + 4 ∉ l) : t.rd g i j = s.rd g i j :=
  State.rd_congr g i j (h _ ha) fun e => h _ (hb e)

/-- The register at `a` has no LOCK bit, and the bits of `g` are a field of it that takes every value written (R11). -/
def takesAll (a : Nat) (g : RF) : Bool :=
  (findReg a).any fun x => x.1.lock.isNone && x.1.fields.any fun f => f.hi == g.hi && f.lo == g.lo && f.acc == .rw && f.rsv.isEmpty

/-- A written word of a register without a LOCK bit is taken without error, changes that register alone, and a plain field reads as written. -/
theorem State.writeFields_takesAll (s : State) (v : Nat) {g : RF} {i j : Nat} (h : takesAll (g.addr i j) g = true) :
    (s.writeFields (g.addr i j) v).2 = .ok ∧ OnlyRegs s (s.writeFields (g.addr i j) v).1 [g.addr i j] ∧
    (s.writeFields (g.addr i j) v).1.rd g i j = bits v g.hi g.lo := by
  obtain ⟨⟨r, i', j'⟩, hf, h⟩ := (Option.any_eq_true _ _).mp h
  obtain ⟨hl, h⟩ := Bool.and_eq_true_iff.mp h
  obtain ⟨f, hm, h⟩ := List.any_eq_true.mp h
  simp only [Bool.and_eq_true, beq_iff_eq, List.isEmpty_iff] at h
  obtain ⟨⟨⟨hhi, hlo⟩, hacc⟩, hrsv⟩ := h
  have hr := findReg_fieldsRise hf
  have hlt := (hr.1 f hm).2
  have hb := RegSpec.bits_write_unlocked hr (Tab.get 0 s.justSet (g.addr i j)) (s.reg (g.addr i j)).toNat v hm (.inl hacc)
  rw [FieldSpec.reserved, hrsv] at hb
  rw [hhi] at hb hlt
  rw [hlo] at hb
  rw [s.writeFields_unlocked hf (s.locked_of_none (by simpa using hl) i')]
  refine ⟨rfl, fun a ha => State.reg_setReg_ne _ _ (by simpa using ha), ?_⟩
  unfold State.rd
  rw [if_neg (by omega), State.reg_setReg_self, BitVec.toNat_ofNat, bits_mod hlt, hb]
  rfl

theorem onlyRegs_mono {s t : State} {l l' : List Nat} (h : OnlyRegs s t l) (hl : l ⊆ l') : OnlyRegs s t l' := fun a ha => h a fun hm => ha (hl hm)
theorem onlyRegs_trans {s t u : State} {l : List Nat} (h : OnlyRegs s t l) (h' : OnlyRegs t u l) : OnlyRegs s u l := fun a ha => (h' a ha).trans (h a ha)

/-! ### Arming and idling -/

section
variable (s : State) (k : Nat)

/-- The registers in which a slot shows its prediction. -/
def slotShown (k : Nat) : List Nat := [SCH.PRED.addr k, SCH.PRED.addr k + 4, SCH.STATUS.STATE.addr k]

/-- A change of a slot's state beside its registers, then of PRED and STATE. -/
def State.slotShow (s : State) (k : Nat) (f : SlotH → SlotH) (pred state : Nat) : State :=
  ((s.updSlot k f).wr SCH.PRED pred k).wr SCH.STATUS.STATE state k
theorem State.slotIdle_eq : s.slotIdle k =
    s.slotShow k (fun h => { h with due := none, late := false, left := 0, skip := false, newTarget := none }) (2 ^ 64 - 1) 0 := rfl
theorem State.slotArm_eq (c : Nat) (late : Bool) : s.slotArm k c late = s.slotShow k (fun h => { h with due := some c, late := late }) c 2 := rfl

variable (f : SlotH → SlotH) (pred state : Nat)
theorem State.slotShow_onlyRegs : OnlyRegs s (s.slotShow k f pred state) (slotShown k) :=
  onlyRegs_wr (onlyRegs_wr (onlyRegs_of_reg (onlyRegs_refl s _) fun _ => rfl) SCH.PRED _ k 0 (by simp [slotShown]) (by simp [slotShown]))
    SCH.STATUS.STATE _ k 0 (by simp [slotShown]) (nomatch ·)
theorem State.slotShow_rd (g : RF) (h : SCH.PRED.beside g = true) (h' : SCH.STATUS.STATE.beside g = true) :
    (s.slotShow k f pred state).rd g k = s.rd g k := by
  unfold State.slotShow
  rw [State.rd_wr_of_beside _ _ _ h', State.rd_wr_of_beside _ _ _ h]
  rfl
theorem State.slotShow_state : (s.slotShow k f pred state).rd SCH.STATUS.STATE k = state % 8 :=
  State.rd_wr_self _ SCH.STATUS.STATE _ _ _ (by decide) (by decide)
theorem State.slotShow_pred : (s.slotShow k f pred state).rd SCH.PRED k = pred % 2 ^ 64 := by
  unfold State.slotShow
  rw [State.rd_wr_of_beside _ _ _ (by decide), State.rd_wr_pair _ _ _ _ _ (by decide)]
theorem State.slotShow_slot : (s.slotShow k f pred state).slot k = f (s.slot k) := by
  have e : (s.slotShow k f pred state).slots = (s.updSlot k f).slots := by simp [State.slotShow]
  unfold State.slot
  rw [e]
  exact State.updSlot_same s k f
theorem State.slotShow_keeps : (s.slotShow k f pred state).dtime = s.dtime ∧ (s.slotShow k f pred state).recd = s.recd ∧
    (s.slotShow k f pred state).irqLines = s.irqLines := by
  simp [State.slotShow]

end

/-- A TIME slot whose target lies ahead is armed for it (R45). -/
theorem State.slotArmNow_of_time (s : State) (k : Nat) (ht : s.flag SCH.CFG.TYPE k = true) (hd : s.dtime < s.rd SCH.TARGET k) :
    (s.slotArmNow k).flag SCH.CFG.EN k = s.flag SCH.CFG.EN k ∧ (s.slotArmNow k).rd SCH.STATUS.STATE k = 2 ∧
    (s.slotArmNow k).rd SCH.PRED k = s.rd SCH.TARGET k ∧ ((s.slotArmNow k).slot k).due = some (s.rd SCH.TARGET k) ∧
    OnlyRegs s (s.slotArmNow k) (slotShown k) := by
  have hlt : s.rd SCH.TARGET k < 2 ^ 64 := State.rd_lt s SCH.TARGET k 0 (fun _ => rfl)
  unfold State.slotArmNow
  dsimp only
  rw [if_pos ht, if_neg (by omega), State.slotArm_eq]
  refine ⟨?_, ?_, ?_, ?_, ?_⟩
  · simp only [State.flag, State.updSlot_rd, State.slotShow_rd _ _ _ _ _ SCH.CFG.EN (by decide) (by decide)]
  · simp only [State.updSlot_rd, State.slotShow_state]
  · simp only [State.updSlot_rd, State.slotShow_pred, Nat.mod_eq_of_lt hlt]
  · rw [State.updSlot_same, State.slotShow_slot]
  · exact onlyRegs_of_reg (s.slotShow_onlyRegs k _ _ _) fun a => State.updSlot_reg _ _ _ a

/-! ### Writes of SCH.CFG and SCH.TARGET (R45, R49) -/

theorem State.answered_slot (s before : State) (m k : Nat) : ((s.noteDebug before m).okResp).slot k = s.slot k := by
  simp [State.slot]
theorem State.answered_reg (s before : State) (m a : Nat) : ((s.noteDebug before m).okResp).reg a = s.reg a := by simp

theorem schCfg_takesAll : ∀ k : Fin 256, takesAll (SCH.CFG.EN.addr k) SCH.CFG.EN = true := by decide +kernel

theorem State.flag_eq_bit (s : State) (f : RF) (i : Nat) (h : f.hi = 0 ∧ f.lo = 0) : s.flag f i = bit (s.reg (f.addr i)).toNat 0 := by
  unfold State.flag State.rd
  rw [if_neg (by omega), h.1, h.2]
  have := Nat.mod_two_eq_zero_or_one (s.reg (f.addr i)).toNat
  rcases this with h | h <;> simp [bits, bit, h]

/-- A write of SCH.CFG leaves the other registers of the slot. -/
theorem State.writeFields_schCfg_rd (s : State) (k : Fin 256) (v : Nat) (g : RF)
    (h : g.s1 = 0x40 ∧ 0x2000060000 < g.base ∧ g.base + 4 < 0x2000060040) : (s.writeFields (SCH.CFG.EN.addr k) v).1.rd g k = s.rd g k := by
  obtain ⟨h1, hlo, hhi⟩ := h
  obtain ⟨-, honly, -⟩ := s.writeFields_takesAll v (schCfg_takesAll k)
  refine onlyRegs_rd honly g k 0 ?_ fun _ => ?_ <;> simp only [List.mem_singleton, RF.addr, SCH.CFG.EN, h1] <;> omega

/-- A write of SCH.CFG that leaves EN clear idles a slot that was enabled. -/
theorem State.fxSchCfg_disables (s : State) (k : Fin 256) (v : Nat) (he : s.flag SCH.CFG.EN k = true) (hv : bit v 0 = false) :
    (s.writeFields (SCH.CFG.EN.addr k) v).1.flag SCH.CFG.EN k = false ∧
    s.fxSchCfg k v = ((s.writeFields (SCH.CFG.EN.addr k) v).1.slotIdle k, .ok) := by
  obtain ⟨hok, -, hrd⟩ := s.writeFields_takesAll v (schCfg_takesAll k)
  have hoff : (s.writeFields (SCH.CFG.EN.addr k) v).1.flag SCH.CFG.EN k = false := by
    rw [State.flag, hrd]
    simpa [bit, bits, SCH.CFG.EN] using hv
  refine ⟨hoff, ?_⟩
  unfold State.fxSchCfg
  dsimp only
  rw [State.flag_eq_bit _ _ _ (by decide)] at he
  simp only [hok, hoff, he, Bool.not_false, if_true]

/-- A write of SCH.CFG that sets EN of a slot that was disabled arms it where R45 accepts it. -/
theorem State.fxSchCfg_enables (s : State) (k : Fin 256) (v : Nat) (he : s.flag SCH.CFG.EN k = false)
    (hu : (s.writeFields (SCH.CFG.EN.addr k) v).1.flag SCH.CFG.EN k = true) :
    let u := (s.writeFields (SCH.CFG.EN.addr k) v).1.updSlot k fun h => { h with newTarget := none }
    u.slotOk k = true → s.fxSchCfg k v = (u.slotArmNow k, .ok) := by
  intro u hs
  obtain ⟨hok, -, -⟩ := s.writeFields_takesAll v (schCfg_takesAll k)
  rw [State.flag_eq_bit _ _ _ (by decide)] at he
  unfold State.fxSchCfg
  dsimp only
  rw [hok, hu, if_neg (by simp), he, if_neg (by simp), if_pos hs]

/-! ### Firings (R48, R49) -/

/-- What a due one-shot TIME slot leaves once its action is done: the time and the count, LATE where it was, and the slot disabled. -/
def State.slotFired (s : State) (k : Nat) (late : Bool) : State :=
  ((((((s.wr SCH.LAST_FIRE s.dtime k).incWrap SCH.STATUS.FIRE_CNT k).raiseIf late SCH.STATUS.LATE k).wr SCH.RESID.RESID 0 k).clear SCH.CFG.EN k)).slotIdle k

section
variable (s : State) (k : Nat) (late : Bool)

theorem State.slotFired_last : (s.slotFired k late).rd SCH.LAST_FIRE k = s.dtime % 2 ^ 64 := by
  rw [State.slotFired, State.slotIdle_eq, State.slotShow_rd _ _ _ _ _ _ (by decide) (by decide), State.rd_clear_of_beside _ _ (by decide),
    State.rd_wr_of_beside _ _ _ (by decide), State.rd_raiseIf_of_beside _ _ _ (by decide), State.rd_incWrap_of_beside _ _ (by decide),
    State.rd_wr_pair _ _ _ _ _ (by decide)]
theorem State.slotFired_count : (s.slotFired k late).rd SCH.STATUS.FIRE_CNT k = (s.rd SCH.STATUS.FIRE_CNT k + 1) % 2 ^ 16 := by
  rw [State.slotFired, State.slotIdle_eq, State.slotShow_rd _ _ _ _ _ _ (by decide) (by decide), State.rd_clear_of_beside _ _ (by decide),
    State.rd_wr_of_beside _ _ _ (by decide), State.rd_raiseIf_of_beside _ _ _ (by decide), State.incWrap,
    State.rd_wr_self _ _ _ _ _ (by decide) (by decide), State.rd_wr_of_beside _ _ _ (by decide)]
  rfl
theorem State.slotFired_en : (s.slotFired k late).flag SCH.CFG.EN k = false := by
  rw [State.slotFired, State.slotIdle_eq, State.flag, State.slotShow_rd _ _ _ _ _ _ (by decide) (by decide)]
  exact State.flag_clear _ SCH.CFG.EN k 0 (by decide)
theorem State.slotFired_state : (s.slotFired k late).rd SCH.STATUS.STATE k = 0 := State.slotShow_state _ _ _ _ _
theorem State.slotFired_late : (s.slotFired k late).flag SCH.STATUS.LATE k = true ↔ s.flag SCH.STATUS.LATE k = true ∨ late = true := by
  rw [State.slotFired, State.slotIdle_eq, State.flag, State.slotShow_rd _ _ _ _ _ _ (by decide) (by decide), State.rd_clear_of_beside _ _ (by decide),
    State.rd_wr_of_beside _ _ _ (by decide)]
  show State.flag _ SCH.STATUS.LATE k = true ↔ _
  rw [State.flag_raiseIf _ _ _ _ _ (by decide), State.flag, State.rd_incWrap_of_beside _ _ (by decide), State.rd_wr_of_beside _ _ _ (by decide),
    Bool.or_eq_true]
  rfl
theorem State.slotFired_keeps : (s.slotFired k late).recd = s.recd ∧ (s.slotFired k late).irqLines = s.irqLines := by
  simp [State.slotFired, State.slotIdle_eq, (State.slotShow_keeps _ _ _ _ _)]

end

/-- Posting an event touches no register of the slots. -/
theorem slotField_quiet (k : Fin 256) {g : RF} (h : g.s1 = 0x40 ∧ 0x2000060000 ≤ g.base ∧ g.base < 0x2000060040) : g.quiet k 0 := by
  obtain ⟨h1, hlo, hhi⟩ := h
  simp only [RF.quiet, notEvent, RF.addr, h1, REC.EVT_TOTAL, REC.QUEUE.VALUE]
  omega

theorem bit_setBit_self (n i : Nat) : bit (setBit n i true) i = true := by
  have h := bits_setBits (n := n) (hi := i) (lo := i) (v := 1)
  simpa [bit, bits, setBit] using h

/-- A due one-shot TIME slot whose action touches no register of the slots and no clock. -/
theorem execSlotFire_oneShot (s : State) (k : Fin 256) (c : Nat) (hd : (s.slot k).due = some c) (hc : c ≤ s.dtime) (he : s.flag SCH.CFG.EN k = true)
    (hl : (List.range k).any s.slotDue = false) (u : State) (hu : s.slotAction k (s.rd SCH.TARGET k) = u) (ht : u.flag SCH.CFG.TYPE k = true)
    (hstep : u.rdS SCH.STEP k = 0) : execSlotFire k s = .next (u.slotFired k (s.slot k).late) := by
  have hdue : s.slotDue k = true := by
    unfold State.slotDue
    rw [hd]
    simp [he, hc]
  have h1 : (((u.wr SCH.LAST_FIRE u.dtime k).incWrap SCH.STATUS.FIRE_CNT k).raiseIf (s.slot k).late SCH.STATUS.LATE k).flag SCH.CFG.TYPE k = true := by
    rw [State.flag, State.rd_raiseIf_of_beside _ _ _ (by decide), State.rd_incWrap_of_beside _ _ (by decide), State.rd_wr_of_beside _ _ _ (by decide)]
    exact ht
  have h2 : ((((u.wr SCH.LAST_FIRE u.dtime k).incWrap SCH.STATUS.FIRE_CNT k).raiseIf (s.slot k).late SCH.STATUS.LATE k).wr SCH.RESID.RESID 0 k).rdS
      SCH.STEP k = 0 := by
    rw [State.rdS, State.rd_wr_of_beside _ _ _ (by decide), State.rd_raiseIf_of_beside _ _ _ (by decide), State.rd_incWrap_of_beside _ _ (by decide),
      State.rd_wr_of_beside _ _ _ (by decide)]
    exact hstep
  unfold execSlotFire
  dsimp only
  rw [hdue, hl, if_neg (by simp), hu, h1, if_pos rfl, State.slotAdvance, if_pos h2]
  rfl

/-- Settles O22: an enable and a disable by SCH.CFG, a target taken and a target held, the firings of actions 4 and 0, and the slot that waits. -/
theorem slotCommands : Obligations.SlotCommands := by
  unfold Obligations.SlotCommands
  refine ⟨?en, ?dis, ?tgt, ?tgtHeld, ?fireIrq, ?fireNote, ?fireWait⟩
  case en =>
    intro s m k v u hm he hu ht hstep hd
    obtain ⟨-, honly, -⟩ := s.writeFields_takesAll v.toNat (schCfg_takesAll k)
    have hsame : ∀ g : RF, g.s1 = 0x40 ∧ 0x2000060000 < g.base ∧ g.base + 4 < 0x2000060040 → u.rd g k = s.rd g k :=
      s.writeFields_schCfg_rd k v.toNat
    have hdt : u.dtime = s.dtime := by simp [u]
    let w := u.updSlot k fun h => { h with newTarget := none }
    have hok : w.slotOk k = true := by
      unfold State.slotOk
      dsimp only
      rw [show w.flag SCH.CFG.TYPE k = true from ht, if_pos rfl, show w.rdS SCH.STEP k = s.rdS SCH.STEP k from by
        unfold State.rdS; exact congrArg _ (hsame SCH.STEP (by decide))]
      exact decide_eq_true hstep
    have htgt : w.rd SCH.TARGET k = s.rd SCH.TARGET k := hsame SCH.TARGET (by decide)
    have hw : OnlyRegs s w (SCH.CFG.EN.addr k :: slotShown k) := onlyRegs_mono (onlyRegs_of_reg honly fun _ => rfl) (by simp)
    have hfx := s.fxSchCfg_enables k v.toNat he hu hok
    obtain ⟨hen, hst, hpred, hdue, hregs⟩ := w.slotArmNow_of_time k ht (by rw [htgt]; exact hdt ▸ hd)
    rw [htgt] at hpred hdue
    refine ⟨_, rfl, ?_⟩
    rw [State.busWriteWith_granted s m _ _ (fun s => s.fxSchCfg k v.toNat) hm (congrArg Prod.snd hfx), hfx]
    refine ⟨?_, ?_, ?_, ?_, ?_⟩
    · simpa using hen.trans hu
    · simpa using hst
    · simpa using hpred
    · rw [State.answered_slot, hdue]
    · exact onlyRegs_of_reg (onlyRegs_trans hw (onlyRegs_mono hregs (by simp))) (State.answered_reg _ s m)
  case dis =>
    intro s m k v hm he hv
    obtain ⟨hoff, hfx⟩ := s.fxSchCfg_disables k v.toNat he hv
    refine ⟨_, rfl, ?_⟩
    rw [State.busWriteWith_granted s m _ _ (fun s => s.fxSchCfg k v.toNat) hm (congrArg Prod.snd hfx), hfx, State.slotIdle_eq]
    refine ⟨?_, ?_, ?_⟩
    · simpa [State.flag, State.slotShow_rd _ _ _ _ _ SCH.CFG.EN (by decide) (by decide)] using hoff
    · simp [State.slotShow_state]
    · rw [State.answered_slot, State.slotShow_slot]
  case tgt =>
    intro s m k v hm he
    have hfx : s.fxSchTargetHi k v.toNat = (s.wr SCH.TARGET (s.held (SCH.TARGET.addr k) + v.toNat * 2 ^ 32) k, .ok) := by
      unfold State.fxSchTargetHi
      simp [he, State.pairValue]
    refine ⟨_, rfl, ?_⟩
    rw [State.busWriteWith_granted s m _ _ (fun s => s.fxSchTargetHi k v.toNat) hm (congrArg Prod.snd hfx), hfx]
    refine ⟨?_, ?_⟩
    · simpa using State.rd_wr_pair s SCH.TARGET _ k 0 (by decide)
    · exact onlyRegs_of_reg (onlyRegs_wr (onlyRegs_refl s _) SCH.TARGET _ k 0 (by simp) (by simp)) (State.answered_reg _ s m)
  case tgtHeld =>
    intro s m k v hm he ht
    have hfx : s.fxSchTargetHi k v.toNat =
        (s.updSlot k fun h => { h with newTarget := some (s.held (SCH.TARGET.addr k) + v.toNat * 2 ^ 32) }, .ok) := by
      unfold State.fxSchTargetHi
      simp [he, ht, State.pairValue]
    refine ⟨_, rfl, ?_⟩
    rw [State.busWriteWith_granted s m _ _ (fun s => s.fxSchTargetHi k v.toNat) hm (congrArg Prod.snd hfx), hfx]
    refine ⟨by simp, ?_⟩
    rw [State.answered_slot, State.updSlot_same]
  case fireIrq =>
    intro s k c hd hc he ht hstep ha hl
    have hu : s.slotAction k (s.rd SCH.TARGET k) = s.raiseIrq (s.rd SCH.CFG.PARAM k % 32) := by
      unfold State.slotAction
      simp only [ha]
    refine ⟨_, execSlotFire_oneShot s k c hd hc he hl _ hu ht hstep, ?_, State.slotFired_last _ _ _, State.slotFired_count _ _ _,
      State.slotFired_en _ _ _, State.slotFired_state _ _ _, State.slotFired_late _ _ _⟩
    obtain ⟨-, hirq⟩ := (s.raiseIrq (s.rd SCH.CFG.PARAM k % 32)).slotFired_keeps k (s.slot k).late
    rw [hirq]
    exact bit_setBit_self _ _
  case fireNote =>
    intro s k c hd hc he ht hstep ha hr hl
    have hu : s.slotAction k (s.rd SCH.TARGET k) = s.emit 0x0105 (srcSlot k) (le 8 (s.rd SCH.TARGET k)) := by
      unfold State.slotAction
      simp only [ha]
    have hq : ∀ g : RF, g.s1 = 0x40 ∧ 0x2000060000 ≤ g.base ∧ g.base < 0x2000060040 →
        (s.emit 0x0105 (srcSlot k) (le 8 (s.rd SCH.TARGET k))).rd g k = s.rd g k := fun g h => State.emit_rd _ _ _ _ _ _ _ (slotField_quiet k h)
    have hdt : (s.emit 0x0105 (srcSlot k) (le 8 (s.rd SCH.TARGET k))).dtime = s.dtime := by simp
    refine ⟨_, execSlotFire_oneShot s k c hd hc he hl _ hu ((congrArg (· != 0) (hq SCH.CFG.TYPE (by decide))).trans ht)
      ((congrArg (toS 64) (hq SCH.STEP (by decide))).trans hstep), ?_, ?_, State.slotFired_en _ _ _⟩
    · unfold Noted
      rw [(State.slotFired_keeps _ _ _).1, State.emit_queue _ _ _ _ hr]
      exact ⟨_, (insertEvent_mem _ _ _).mpr (.inl rfl), rfl, rfl, rfl⟩
    · rw [State.slotFired_last, hdt]
  case fireWait =>
    intro s k h
    exact ⟨s, if_pos (by simpa using h), rfl⟩

end Sys2Proof.Machine
end

section
/-!
SUPPORT. What an update of a timebase brings to slots, Babbitt and the memories leaves the timebases' own state and every waiting event of a source
below the slots' (R359): where the recorder's queue is full, a later event drives out the last one only where that one's source is no lower.
-/
namespace Sys2Proof.Machine
open Sys2Proof.Safety

/-- The state of the timebases beside their registers, and the waiting events of the sources below the slots': module to timebases (R356). -/
def State.early (s : State) : Tab TbH × List RecEvent := (s.tbs, s.recd.queue.filter fun e => decide (e.source < srcSlot 0))

theorem State.early_congr {s t : State} (h : t.tbs = s.tbs) (h' : t.recd.queue = s.recd.queue) : t.early = s.early := by
  unfold State.early
  rw [h, h']

/-! ### Events -/

theorem insertEvent_early (e : RecEvent) (l : List RecEvent) (h : srcSlot 0 ≤ e.source) :
    (insertEvent e l).filter (fun e => decide (e.source < srcSlot 0)) = l.filter fun e => decide (e.source < srcSlot 0) := by
  have he : ¬e.source < srcSlot 0 := by omega
  induction l with
  | nil => simp [insertEvent, he]
  | cons x t ih =>
    unfold insertEvent
    split
    · simp [he]
    · simp only [List.filter_cons, ih]

/-- An event of a slot or a later source leaves what waits of the earlier ones. -/
theorem State.emitAt_early (s : State) (at_ code source : Nat) (payload : List Nat) (merge : Bool) (h : srcSlot 0 ≤ source) :
    (s.emitAt at_ code source payload merge).early = s.early := by
  unfold State.emitAt
  dsimp only
  split
  · unfold State.early State.showQueue
    simp [insertEvent_early, h]
  · split
    case h_2 => exact State.early_congr (by simp) (by simp [RecState.lose])
    case h_1 x hx =>
      split
      case isFalse => exact State.early_congr (by simp) (by simp [RecState.lose])
      case isTrue hb =>
        have hx' : srcSlot 0 ≤ x.source := by
          simp only [evBefore, Bool.and_eq_true, Bool.or_eq_true, decide_eq_true_eq, beq_iff_eq] at hb
          omega
        have hl : ((s.wr REC.EVT_TOTAL (s.rd REC.EVT_TOTAL + 1)).recd.queue.dropLast).filter (fun e => decide (e.source < srcSlot 0)) =
            (s.wr REC.EVT_TOTAL (s.rd REC.EVT_TOTAL + 1)).recd.queue.filter fun e => decide (e.source < srcSlot 0) := by
          conv_rhs => rw [← List.dropLast_append_getLast? x hx]
          rw [List.filter_append]
          simpa using hx'
        unfold State.early
        simp only [RecState.lose, insertEvent_early _ _ (show srcSlot 0 ≤ RecEvent.source ⟨code, source, at_, payload, merge, _⟩ from h), hl]
        simp
theorem State.emit_early (s : State) (code source : Nat) (payload : List Nat) (h : srcSlot 0 ≤ source) : (s.emit code source payload).early = s.early :=
  s.emitAt_early _ _ _ _ _ h
theorem State.emitMerge_early (s : State) (code source : Nat) (payload : List Nat) (h : srcSlot 0 ≤ source) :
    (s.emitMerge code source payload).early = s.early := s.emitAt_early _ _ _ _ _ h

theorem srcSlot_ge (n : Nat) : srcSlot 0 ≤ srcSlot n := by simp [srcSlot, srcOf]
theorem srcTarget_ge (n : Nat) : srcSlot 0 ≤ srcTarget n := by simp [srcSlot, srcTarget, srcOf]; omega
theorem srcChannel_ge (n : Nat) : srcSlot 0 ≤ srcChannel n := by simp [srcSlot, srcChannel, srcOf]; omega
@[simp] theorem State.emit_srcChannel_early (s : State) (code n : Nat) (payload : List Nat) : (s.emit code (srcChannel n) payload).early = s.early :=
  s.emit_early _ _ _ (srcChannel_ge n)
@[simp] theorem State.emitMerge_srcSlot_early (s : State) (code n : Nat) (payload : List Nat) : (s.emitMerge code (srcSlot n) payload).early = s.early :=
  s.emitMerge_early _ _ _ (srcSlot_ge n)
@[simp] theorem State.emitMerge_srcTarget_early (s : State) (code n : Nat) (payload : List Nat) :
    (s.emitMerge code (srcTarget n) payload).early = s.early := s.emitMerge_early _ _ _ (srcTarget_ge n)

/-! ### Writes of registers and memory -/

section
variable (s : State) (f : RF) (i j : Nat)
@[simp] theorem State.wr_early (v : Nat) : (s.wr f v i j).early = s.early := State.early_congr (by simp) (by simp)
@[simp] theorem State.wrS_early (v : Int) : (s.wrS f v i j).early = s.early := s.wr_early f i j _
@[simp] theorem State.incWrap_early (n : Nat) : (s.incWrap f i j n).early = s.early := s.wr_early f i j _
@[simp] theorem State.incSat_early (n : Nat) : (s.incSat f i j n).early = s.early := s.wr_early f i j _
@[simp] theorem State.raise_early : (s.raise f i j).early = s.early := s.wr_early f i j 1
@[simp] theorem State.raiseIf_early (c : Bool) : (s.raiseIf c f i j).early = s.early := by
  unfold State.raiseIf
  split
  · exact s.raise_early f i j
  · rfl
@[simp] theorem State.wrBit_early (b : Nat) (y : Bool) : (s.wrBit f b y i j).early = s.early := by
  unfold State.wrBit
  split <;> exact s.wr_early f i j _
end

@[simp] theorem early_ite (c : Prop) [Decidable c] (a b : State) : (if c then a else b).early = if c then a.early else b.early := by
  split <;> rfl
theorem State.forEach_early {α : Type} (s : State) (l : List α) (f : State → α → State) (h : ∀ s a, (f s a).early = s.early) :
    (s.forEach l f).early = s.early := foldl_keep State.early f h l s
theorem State.times_early (s : State) (n : Nat) (f : State → State) (h : ∀ s : State, (f s).early = s.early) : (s.times n f).early = s.early := by
  induction n generalizing s with
  | zero => rfl
  | succ n ih => exact (ih _).trans (h s)

section
variable (s : State)
@[simp] theorem State.setReg_early (a : Nat) (v : Word) : (s.setReg a v).early = s.early := rfl
@[simp] theorem State.updSlot_early (k : Nat) (f : SlotH → SlotH) : (s.updSlot k f).early = s.early := rfl
@[simp] theorem State.updBi_early (v : Nat) (f : BabInH → BabInH) : (s.updBi v f).early = s.early := rfl
@[simp] theorem State.post_early (m a v : Nat) : (s.post m a v).early = s.early := rfl
@[simp] theorem State.raiseIrq_early (l : Nat) : (s.raiseIrq l).early = s.early := rfl
@[simp] theorem State.vioNote_early (t : Nat) (h : VioH) : (s.vioNote t h).early = s.early := rfl
@[simp] theorem State.eccOver_early (a n : Nat) : (s.eccOver a n).early = s.early := rfl
@[simp] theorem State.writeMem_early (a : Nat) (l : List Nat) : (s.writeMem a l).early = s.early := by
  induction l generalizing s a with
  | nil => rfl
  | cons b t ih => rw [State.writeMem, ih]; rfl
@[simp] theorem State.writeFields_early (a v : Nat) : (s.writeFields a v).1.early = s.early := by
  unfold State.writeFields
  split
  · rfl
  · exact s.setReg_early _ _
@[simp] theorem State.writePlain_early (a v : Nat) : (s.writePlain a v).1.early = s.early := by
  unfold State.writePlain
  split
  · rfl
  · split
    · exact s.writeFields_early _ _
    · split <;> rfl
    · exact (State.writeFields_early _ _ _).trans (s.writeFields_early _ _)

/-! ### The memories and the queues -/

@[simp] theorem State.logViolation_early (m a n type_ : Nat) : (s.logViolation m a n type_).early = s.early := by
  simp [State.logViolation]
@[simp] theorem State.memCe_early (a : Nat) : (s.memCe a).early = s.early := by
  unfold State.memCe
  split <;> simp
@[simp] theorem State.chRetire_early (ch : Nat) : (s.chRetire ch).early = s.early := by
  simp [State.chRetire]
@[simp] theorem State.memUe_early (m a src : Nat) : (s.memUe m a src).early = s.early := by
  unfold State.memUe
  dsimp only
  rw [State.emit_early _ _ _ _ (by split; exacts [srcChannel_ge _, srcTarget_ge _])]
  simp
@[simp] theorem State.eccFix_early (u : Nat) : (s.eccFix u).early = s.early := s.memCe_early u
@[simp] theorem State.eccFind_early (m a src : Nat) (us : List Nat) : (s.eccFind m a src us).1.early = s.early := by
  have f : ∀ l : List Nat, (s.forEach l State.eccFix).early = s.early := fun l => s.forEach_early l _ fun s u => s.eccFix_early u
  unfold State.eccFind
  dsimp only
  split
  · rw [State.memUe_early, f]
  · exact f _
@[simp] theorem State.memWrite_early (m a : Nat) (d : List Nat) : (s.memWrite m a d).1.early = s.early := by
  have h := s.eccFind_early m a ueRmw ((eccWords a d.length).filter fun u => decide (u < a ∨ a + d.length < u + eccSize u))
  unfold State.memWrite
  split <;> rename_i e <;> rw [e] at h
  · exact h
  · simpa using h
@[simp] theorem State.qCredits_early (q : Nat) : (s.qCredits q).early = s.early := s.wr_early _ _ _ _
@[simp] theorem State.qPosted1_early (q : Nat) : (s.qPosted1 q).early = s.early := by
  simp [State.qPosted1]
@[simp] theorem State.qPutSw_early (m q : Nat) : (s.qPutSw m q).early = s.early := by
  simp [State.qPutSw]
@[simp] theorem State.qTake1_early (q : Nat) : (s.qTake1 q).early = s.early := by
  simp [State.qTake1]
@[simp] theorem State.qRetireN_early (q n : Nat) : (s.qRetireN q n).early = s.early := by
  unfold State.qRetireN
  rw [State.qCredits_early, State.incWrap_early]
  rfl
@[simp] theorem State.qOp_early (m q n cmd : Nat) : (s.qOp m q n cmd).early = s.early := by
  simp [State.qOp, State.times_early]
@[simp] theorem State.fxQCfg_early (q v : Nat) : (s.fxQCfg q v).1.early = s.early := by
  unfold State.fxQCfg
  dsimp only
  split
  · simp
  · split <;> simp
@[simp] theorem State.fxQBaseHi_early (q v : Nat) : (s.fxQBaseHi q v).1.early = s.early := by
  unfold State.fxQBaseHi
  split <;> simp
@[simp] theorem State.fxQOp_early (m q v : Nat) : (s.fxQOp m q v).1.early = s.early := s.qOp_early _ _ _ _
@[simp] theorem State.fxAtWin_early (t a v : Nat) : (s.fxAtWin t a v).1.early = s.early := by
  unfold State.fxAtWin
  split <;> simp
/-- A master's write of a register is posted, but for the queues and the access tables, which take it at once. -/
@[simp] theorem State.regWrite_early (m a v : Nat) : (s.regWrite m a v).1.early = s.early := by
  unfold State.regWrite
  split
  · dsimp only
    split <;> simp
  · split
    · simp
    · split
      · dsimp only
        split <;> simp
      · simp
@[simp] theorem State.writePiece_early (m a : Nat) (d : List Nat) : (s.writePiece m a d).1.early = s.early := by
  unfold State.writePiece
  split
  · simp
  · split <;> simp
@[simp] theorem State.writePieces_early (m : Nat) (d : List Nat) (ps : List (Nat × Nat)) : (s.writePieces m d ps).1.early = s.early := by
  induction ps generalizing s d with
  | nil => rfl
  | cons p t ih =>
    have e := s.writePiece_early m p.1 (d.take p.2)
    rw [State.writePieces]
    rcases hr : s.writePiece m p.1 (d.take p.2) with ⟨s', r⟩
    rw [hr] at e
    cases r with
    | ok _ => exact (ih _ _).trans e
    | vio => exact e
    | ue _ => exact e
@[simp] theorem State.masterWrite_early (m a : Nat) (d : List Nat) : (s.masterWrite m a d).1.early = s.early := s.writePieces_early _ _ _

/-! ### Babbitt's inputs -/

@[simp] theorem State.babShow_early (v : Nat) : (s.babShow v).early = s.early := by
  simp [State.babShow]
@[simp] theorem State.babRestart_early (v : Nat) : (s.babRestart v).early = s.early := by
  simp [State.babRestart]
@[simp] theorem State.babStore_early (v : Nat) (p : BabPt) : (s.babStore v p).early = s.early := s.masterWrite_early _ _ _
@[simp] theorem State.babResolve_early (v : Nat) : (s.babResolve v).early = s.early := by
  have f : ∀ l : List BabPt, (s.forEach l fun s p => s.babStore v p).early = s.early := fun l => s.forEach_early l _ fun s p => s.babStore_early v p
  unfold State.babResolve
  dsimp only
  (repeat' split) <;> simp [f]
@[simp] theorem State.babInUpdate_early (v t s0 : Nat) (a0 : Int) (s1 : Nat) (a1 : Int) (big : Bool) :
    (s.babInUpdate v t s0 a0 s1 a1 big).early = s.early := by
  unfold State.babInUpdate
  dsimp only
  split
  · simp
  · split <;> simp
@[simp] theorem State.babTbUpdate_early (t s0 : Nat) (a0 : Int) (s1 : Nat) (a1 : Int) (big : Bool) :
    (s.babTbUpdate t s0 a0 s1 a1 big).early = s.early :=
  s.forEach_early _ _ fun s v => by split <;> simp
@[simp] theorem State.babTbLost_early (t : Nat) : (s.babTbLost t).early = s.early :=
  s.forEach_early _ _ fun s v => by split <;> simp

/-! ### Slots -/

@[simp] theorem State.slotWait_early (k : Nat) : (s.slotWait k).early = s.early := by
  simp [State.slotWait]
@[simp] theorem State.slotArm_early (k c : Nat) (late : Bool) : (s.slotArm k c late).early = s.early := by
  simp [State.slotArm]
@[simp] theorem State.slotBacklog_early (k c n : Nat) : (s.slotBacklog k c n).early = s.early := by
  simp [State.slotBacklog]
@[simp] theorem State.slotPredict_early (k : Nat) (angle : Int) (stamp c : Nat) (prev : Option Int) :
    (s.slotPredict k angle stamp c prev).early = s.early := by
  unfold State.slotPredict
  split <;> simp
@[simp] theorem State.slotTake_early (k x : Nat) (angle : Int) (stamp c : Nat) (prev : Int) : (s.slotTake k x angle stamp c prev).early = s.early := by
  simp [State.slotTake]
@[simp] theorem State.slotsTbLost_early (t : Nat) : (s.slotsTbLost t).early = s.early :=
  s.forEach_early _ _ fun s k => by split <;> simp
@[simp] theorem State.slotsTbUpdate_early (t : Nat) (prev : Int) : (s.slotsTbUpdate t prev).early = s.early :=
  s.forEach_early _ _ fun s k => by
    dsimp only
    split
    · split <;> split <;> simp
    · rfl
@[simp] theorem State.slotsResid_early (t : Nat) : (s.slotsResid t).early = s.early :=
  s.forEach_early _ _ fun s k => by
    dsimp only
    split
    · rfl
    · split
      · split <;> simp
      · rfl

end

end Sys2Proof.Machine
end

section
/-!
SUPPORT. Updates of a timebase (R39, R42, R43): what a change of state and an update leave in the registers of the timebase.
-/
namespace Sys2Proof.Machine
open Sys2Proof.Safety

/-! ### Codes -/

theorem ofS_of_mod (w : Nat) {i j : Int} (h : i % ((2 ^ w : Nat) : Int) = j % ((2 ^ w : Nat) : Int)) : ofS w i = ofS w j := congrArg Int.toNat h
theorem ofS_natCast (w n : Nat) : ofS w n = n % 2 ^ w := by
  unfold ofS
  omega
/-- The code of a number read from a code is that code. -/
theorem ofS_toS (w n : Nat) : ofS w (toS w n) = n % 2 ^ w := by
  have e : ofS w (toS w n) = ofS w ((n % 2 ^ w : Nat) : Int) := by
    unfold toS
    dsimp only
    split
    · rfl
    · exact ofS_of_mod w (by rw [Int.sub_emod_right])
  rw [e, ofS_natCast, Nat.mod_mod]
theorem toS_mem {w : Nat} (hw : 0 < w) (n : Nat) : -(2 ^ (w - 1) : Int) ≤ toS w n ∧ toS w n < 2 ^ (w - 1) := by
  have e : 2 ^ w = 2 * 2 ^ (w - 1) := by rw [← pow_succ']; congr 1; omega
  have hm := Nat.mod_lt n (Nat.two_pow_pos w)
  have hp : (2 : Int) ^ (w - 1) = ((2 ^ (w - 1) : Nat) : Int) := by push_cast; rfl
  rw [hp]
  unfold toS
  dsimp only
  split <;> omega
theorem State.rd_wrS (s : State) (f : RF) (v : Int) (i j : Nat) (h : f.lo ≤ f.hi ∧ f.hi < 32 ∨ f.lo = 0 ∧ f.hi = 63) :
    (s.wrS f v i j).rd f i j = ofS f.width v := by
  have hm : ofS f.width v % 2 ^ f.width = ofS f.width v := Nat.mod_eq_of_lt (ofS_lt _ _)
  rcases h with h | h
  · exact (State.rd_wr_self s f _ i j h.2 (by omega)).trans hm
  · have w : f.width = 64 := by unfold RF.width; omega
    rw [w] at hm
    exact (State.rd_wr_pair s f _ i j h.2).trans (by rw [w]; exact hm)

/-! ### The registers of one timebase -/

/-- A field of a timebase's registers. -/
abbrev RF.ofTimebase (g : RF) : Prop := g.s1 = 0x100 ∧ 0x2000050000 ≤ g.base ∧ g.base + 8 ≤ 0x2000050100
/-- `a` is the address of a register of timebase `t`. -/
def InTimebase (t a : Nat) : Prop := 0x2000050000 + t * 0x100 ≤ a ∧ a < 0x2000050100 + t * 0x100

section
variable {g : RF} (hg : g.ofTimebase) {t : Nat}
include hg
theorem inTimebase_addr : InTimebase t (g.addr t) := by
  obtain ⟨h1, h2, h3⟩ := hg
  simp only [InTimebase, RF.addr, h1]
  omega
theorem inTimebase_addr_hi : InTimebase t (g.addr t + 4) := by
  obtain ⟨h1, h2, h3⟩ := hg
  simp only [InTimebase, RF.addr, h1]
  omega
/-- A field of timebase `t` reads the same where the registers of timebase `t` do. -/
theorem rd_of_inTimebase {s u : State} (h : ∀ a, InTimebase t a → u.reg a = s.reg a) : u.rd g t = s.rd g t :=
  State.rd_congr g t 0 (h _ (inTimebase_addr hg)) fun _ => h _ (inTimebase_addr_hi hg)
/-- A field of one timebase lies off every register of another. -/
theorem off_of_inTimebase {k a : Nat} (hk : k ≠ t) (ha : InTimebase k a) : g.off t 0 a := by
  obtain ⟨h1, h2, h3⟩ := hg
  simp only [InTimebase, RF.off, RF.addr, h1] at ha ⊢
  omega
end
theorem inTimebase_low {t a : Nat} (ht : t < 64) (h : InTimebase t a) : a < lowEnd := by
  simp only [InTimebase, lowEnd] at h ⊢
  omega

/-! ### Changes of state and updates -/

section
variable (s : State) (t : Nat)

theorem State.tbSetState_reg (new : Nat) (event : Bool) {a : Nat} (ha : a < lowEnd) (ho : TB.STATUS.STATE.off t 0 a) :
    (s.tbSetState t new event).reg a = s.reg a := by
  have h := s.reg_wr_off TB.STATUS.STATE new t 0 a ho
  unfold State.tbSetState
  dsimp only
  split
  · rw [State.emitMerge_low _ _ _ _ ha]; exact h
  · exact h
theorem State.tbSetState_rd (new : Nat) (event : Bool) (ht : t < 64) (g : RF) (hg : g.ofTimebase) :
    (s.tbSetState t new event).rd g t = (s.wr TB.STATUS.STATE new t).rd g t := by
  refine rd_of_inTimebase hg fun a ha => ?_
  unfold State.tbSetState
  dsimp only
  split
  · rw [State.emitMerge_low _ _ _ _ (inTimebase_low ht ha)]; rfl
  · rfl
theorem State.tbSetState_state (new : Nat) (event : Bool) (ht : t < 64) : (s.tbSetState t new event).rd TB.STATUS.STATE t = new % 8 :=
  (s.tbSetState_rd t new event ht _ (by decide)).trans (State.rd_wr_self s TB.STATUS.STATE new t 0 (by decide) (by decide))

/-- Angle, speed and stamp written in one clock. -/
def State.tbWords (s : State) (t : Nat) (ang spd : Int) (stamp : Nat) : State := ((s.wrS TB.ANGLE ang t).wrS TB.SPEED.SPEED spd t).wr TB.STAMP stamp t

variable (ang spd : Int) (stamp : Nat)
theorem State.tbWords_angle : (s.tbWords t ang spd stamp).rd TB.ANGLE t = ofS 64 ang := by
  rw [State.tbWords, State.rd_wr_of_beside _ _ _ (by decide), State.rd_wrS_of_beside _ _ _ (by decide)]
  exact State.rd_wrS _ TB.ANGLE _ _ _ (by decide)
theorem State.tbWords_speed : (s.tbWords t ang spd stamp).rd TB.SPEED.SPEED t = ofS 32 spd := by
  rw [State.tbWords, State.rd_wr_of_beside _ _ _ (by decide)]
  exact State.rd_wrS _ TB.SPEED.SPEED _ _ _ (by decide)
theorem State.tbWords_stamp : (s.tbWords t ang spd stamp).rd TB.STAMP t = stamp % 2 ^ 64 := State.rd_wr_pair _ _ _ _ _ (by decide)

/-- Below the slots an update leaves what its three words leave, whatever it counts as a correction. -/
theorem State.tbWrite_words (corr : Bool) :
    ∃ u : State, ∀ a < lowEnd, (s.tbWrite t ang spd stamp corr).reg a = (u.tbWords t (toS 64 (ofS 64 ang)) (satS 32 spd) stamp).reg a := by
  unfold State.tbWrite State.tbWords
  dsimp only
  refine ⟨?words, fun a ha => ?same⟩
  case same =>
    rw [reg_ite, State.babTbUpdate_low _ _ _ _ _ _ _ ha, ite_self, State.slotsTbUpdate_low _ _ _ ha, State.slotsResid_low _ _ ha, State.tbNote, State.updTb_reg]

theorem State.tbWrite_rd (corr : Bool) (ht : t < 64) :
    (s.tbWrite t ang spd stamp corr).rd TB.ANGLE t = ofS 64 ang ∧ (s.tbWrite t ang spd stamp corr).rd TB.SPEED.SPEED t = ofS 32 (satS 32 spd) ∧
    (s.tbWrite t ang spd stamp corr).rd TB.STAMP t = stamp % 2 ^ 64 := by
  obtain ⟨u, hu⟩ := s.tbWrite_words t ang spd stamp corr
  have h : ∀ g : RF, g.ofTimebase → (s.tbWrite t ang spd stamp corr).rd g t = _ := fun g hg =>
    rd_of_inTimebase hg fun a ha => hu a (inTimebase_low ht ha)
  refine ⟨?_, ?_, ?_⟩
  · rw [h _ (by decide), State.tbWords_angle, ofS_toS, Nat.mod_eq_of_lt (ofS_lt _ _)]
  · rw [h _ (by decide), State.tbWords_speed]
  · rw [h _ (by decide), State.tbWords_stamp]
end

/-! ### Updates from the primary source -/

/-- An update of its primary that finds the timebase in OFF or in PRIMARY is taken: the timebase comes from a state `u` in PRIMARY in which no register
but its STATE has changed. -/
theorem State.tbSource_primary (s : State) (t : Nat) (ht : t < 64) (ang spd : Int) (stamp : Nat) (hon : s.tbOn t = true)
    (hst : s.rd TB.STATUS.STATE t = tbOff ∨ s.rd TB.STATUS.STATE t = tbPrimary) :
    ∃ (u : State) (corr : Bool), s.tbSource t true ang spd stamp = (u.tbWrite t ang spd stamp corr, true) ∧ u.rd TB.STATUS.STATE t = tbPrimary ∧
      ∀ a < lowEnd, TB.STATUS.STATE.off t 0 a → u.reg a = s.reg a := by
  unfold State.tbSource
  dsimp only
  rw [hon, if_neg (by simp), if_pos rfl]
  rcases hst with h | h
  · rw [if_pos h]
    exact ⟨_, true, rfl, State.tbSetState_state _ _ _ _ ht, fun a ha ho => State.tbSetState_reg _ _ _ _ ha ho⟩
  · rw [if_neg (by rw [h]; decide), if_pos h]
    exact ⟨_, false, rfl, h, fun a _ _ => rfl⟩

/-- Settles O21: an update taken in OFF or PRIMARY, and the first update of the primary in FALLBACK, which counts one of the four it needs. -/
theorem timebaseUpdate : Obligations.TimebaseUpdate := by
  unfold Obligations.TimebaseUpdate
  refine ⟨fun s t ang spd stamp hon hst => ?taken, fun s t ang spd stamp hon hst hp => ?first⟩
  case taken =>
    obtain ⟨u, corr, e, hstate, -⟩ := s.tbSource_primary t t.isLt ang spd stamp hon hst
    obtain ⟨hang, hspd, hstamp⟩ := u.tbWrite_rd t ang spd stamp corr t.isLt
    rw [e]
    refine ⟨rfl, (u.tbWrite_state t ang spd stamp corr t t.isLt).trans hstate, hang, ?_, hstamp⟩
    rw [State.rdS, hspd]
    exact toS_ofS (w := 32) (by decide) (satS_le 32 spd)
  case first =>
    unfold State.tbSource
    dsimp only
    rw [hon, if_neg (by simp), if_pos rfl, if_neg (by rw [hst]; decide), if_neg (by rw [hst]; decide), hp]
    exact ⟨rfl, rfl⟩

end Sys2Proof.Machine
end

section
/-!
SUPPORT. Timebases that lose their source, hold, and restart (R39, R40, R42, R43, R439): what derived timebases that inherit leave of every other
timebase, of its state, and of the events that wait.
-/
namespace Sys2Proof.Machine
open Sys2Proof.Safety

/-- A property kept by each step of a repetition holds after it. -/
theorem State.forEach_invariant {α : Type} (P : State → Prop) (l : List α) (f : State → α → State) (h : ∀ s, ∀ a ∈ l, P s → P (f s a)) (s : State)
    (hs : P s) : P (s.forEach l f) := by
  induction l generalizing s with
  | nil => exact hs
  | cons a t ih => exact ih (fun s b hb => h s b (by simp [hb])) _ (h s a (by simp) hs)

/-! ### What inheriting leaves -/

/-- When each timebase entered HOLD, and the waiting events of the sources below the slots'. -/
def State.tbKept (s : State) : (Nat → Nat) × List RecEvent := (fun t => (s.tb t).holdAt, s.early.2)

theorem State.tbKept_of_early {s u : State} (h : u.early = s.early) : u.tbKept = s.tbKept := by
  have ht : u.tbs = s.tbs := congrArg Prod.fst h
  unfold State.tbKept State.tb
  rw [h, ht]
theorem State.updTb_holdAt (s : State) (t : Nat) (f : TbH → TbH) (h : ∀ x, (f x).holdAt = x.holdAt) : (s.updTb t f).tbKept = s.tbKept := by
  have hh : ∀ k, ((s.updTb t f).tb k).holdAt = (s.tb k).holdAt := fun k => by
    by_cases hk : k = t
    · rw [hk, State.updTb_same, h]
    · rw [State.updTb_other _ _ _ hk]
  unfold State.tbKept
  rw [funext hh]
  rfl
/-- An update that is no correction posts no event of a timebase. -/
theorem State.tbWrite_tbKept (s : State) (t : Nat) (ang spd : Int) (stamp : Nat) : (s.tbWrite t ang spd stamp false).tbKept = s.tbKept := by
  have hw : ∀ (u : State) (a v : Int) (p : Nat), ((((u.wrS TB.ANGLE a t).wrS TB.SPEED.SPEED v t).wr TB.STAMP p t).tbNote t p a v true).tbKept = u.tbKept :=
    fun u a v p => by
      rw [State.tbNote, State.updTb_holdAt]
      · exact State.tbKept_of_early (by simp)
      · exact fun _ => rfl
  unfold State.tbWrite
  dsimp only
  simp only [Bool.false_and, Bool.false_eq_true, if_false]
  split
  · rw [State.tbKept_of_early (State.babTbUpdate_early _ _ _ _ _ _ _), State.tbKept_of_early (State.slotsTbUpdate_early _ _ _),
      State.tbKept_of_early (State.slotsResid_early _ _), hw]
  · rw [State.tbKept_of_early (State.slotsTbUpdate_early _ _ _), State.tbKept_of_early (State.slotsResid_early _ _), hw]
theorem State.tbTake_tbKept (s : State) (x : Nat) : (s.tbTake x).1.tbKept = s.tbKept := by
  unfold State.tbTake
  dsimp only
  split
  · rfl
  · exact s.tbWrite_tbKept _ _ _ _
theorem State.tbInherit_tbKept (s : State) (f t : Nat) : (s.tbInherit f t).tbKept = s.tbKept := by
  induction f generalizing s t with
  | zero => rfl
  | succ f ih =>
    refine foldl_keep State.tbKept _ (fun s x => ?_) _ s
    dsimp only
    split
    · rw [ih, State.tbTake_tbKept]
    · exact s.tbTake_tbKept x

theorem State.tbInherit_holdAt (s : State) (f x t : Nat) : ((s.tbInherit f x).tb t).holdAt = (s.tb t).holdAt :=
  congrFun (congrArg Prod.fst (s.tbInherit_tbKept f x)) t

theorem State.tbTake_state (s : State) (x k : Nat) (hk : k < 64) : (s.tbTake x).1.rd TB.STATUS.STATE k = s.rd TB.STATUS.STATE k := by
  unfold State.tbTake
  dsimp only
  split
  · rfl
  · exact s.tbWrite_state _ _ _ _ _ _ hk
/-- Their own state stays (R43). -/
theorem State.tbInherit_state (s : State) (f t k : Nat) (hk : k < 64) : (s.tbInherit f t).rd TB.STATUS.STATE k = s.rd TB.STATUS.STATE k := by
  induction f generalizing s t with
  | zero => rfl
  | succ f ih =>
    refine foldl_keep (fun s => s.rd TB.STATUS.STATE k) _ (fun s x => ?_) _ s
    dsimp only
    split
    · rw [ih, State.tbTake_state _ _ _ hk]
    · exact s.tbTake_state x k hk

/-- The registers of timebase `t` are those of `s`. -/
def SameTimebase (t : Nat) (s u : State) : Prop := ∀ a, InTimebase t a → u.reg a = s.reg a

section
variable {t : Nat} (ht : t < 64)
include ht

theorem State.tbWrite_other (s : State) {x : Nat} (hx : t ≠ x) (ang spd : Int) (stamp : Nat) (corr : Bool) :
    SameTimebase t s (s.tbWrite x ang spd stamp corr) := fun _ ha =>
  s.tbWrite_reg x ang spd stamp corr (inTimebase_low ht ha) (off_of_inTimebase (by decide) hx ha) (off_of_inTimebase (by decide) hx ha)
    (off_of_inTimebase (by decide) hx ha) (off_of_inTimebase (by decide) hx ha)
/-- A timebase in OFF takes nothing (R43), and what another takes is not its own. -/
theorem State.tbTake_off (s : State) (x : Nat) (hs : s.rd TB.STATUS.STATE t = tbOff) : SameTimebase t s (s.tbTake x).1 := by
  unfold State.tbTake
  dsimp only
  split
  case isTrue => exact fun a _ => rfl
  case isFalse hn =>
    refine s.tbWrite_other ht (fun e => hn (.inl ?_)) _ _ _ _
    unfold State.tbFollows
    dsimp only
    rw [← e, hs]
    rfl
theorem State.tbInherit_off (s : State) (f x : Nat) (hs : s.rd TB.STATUS.STATE t = tbOff) : SameTimebase t s (s.tbInherit f x) := by
  induction f generalizing s x with
  | zero => exact fun a _ => rfl
  | succ f ih =>
    refine State.forEach_invariant (SameTimebase t s) _ _ (fun u y _ hu => ?_) s fun a _ => rfl
    have hst : u.rd TB.STATUS.STATE t = tbOff := (rd_of_inTimebase (by decide) hu).trans hs
    have htake := u.tbTake_off ht y hst
    dsimp only
    split
    · have hst' : (u.tbTake y).1.rd TB.STATUS.STATE t = tbOff := (rd_of_inTimebase (by decide) htake).trans hst
      exact fun a ha => (ih _ y hst' a ha).trans ((htake a ha).trans (hu a ha))
    · exact fun a ha => (htake a ha).trans (hu a ha)

end

/-! ### Entering FALLBACK, HOLD, LOST and OFF -/

section
variable (s : State) (t : Nat)

/-- A change of state that is to be noted waits with the old and the new state. -/
theorem State.tbSetState_noted (new : Nat) (hr : Room s) : Noted (s.tbSetState t new true) 0x0101 (srcTimebase t) s.dtime := by
  unfold State.tbSetState Noted
  dsimp only
  rw [if_pos rfl, State.emitMerge_queue _ _ _ _ (by simpa using hr)]
  exact ⟨_, (insertEvent_mem _ _ _).mpr (.inl rfl), rfl, rfl, by simp⟩
theorem srcTimebase_lt : srcTimebase t < srcSlot 0 := by
  simp only [srcTimebase, srcSlot, srcOf]
  omega
/-- What waits of a timebase still waits once the derived ones have inherited. -/
theorem State.tbInherit_noted (f x : Nat) {code stamp : Nat} (h : Noted s code (srcTimebase t) stamp) :
    Noted (s.tbInherit f x) code (srcTimebase t) stamp := by
  obtain ⟨e, he, hc, hsrc, hst⟩ := h
  have hk := congrArg Prod.snd (s.tbInherit_tbKept f x)
  have hm : e ∈ (s.tbInherit f x).early.2 := by
    show e ∈ (s.tbInherit f x).tbKept.2
    rw [hk]
    exact List.mem_filter.mpr ⟨he, by simpa [hsrc] using srcTimebase_lt t⟩
  exact ⟨e, (List.mem_filter.mp hm).1, hc, hsrc, hst⟩
/-- The registers of the timebase but STATE, and those of every other one, stay through a change of state. -/
theorem State.tbSetState_rd_of_beside (new : Nat) (event : Bool) (ht : t < 64) (g : RF) (hg : g.ofTimebase) (h : TB.STATUS.STATE.beside g = true) :
    (s.tbSetState t new event).rd g t = s.rd g t :=
  (s.tbSetState_rd t new event ht g hg).trans (State.rd_wr_of_beside _ _ _ h)

/-- A primary that fails without a fallback leads to HOLD. -/
theorem State.tbEnterHold_eq (hh : s.rd TB.CFG.HOLD t ≠ 0) (ht : t < 64) : ∃ run, s.tbEnterHold t =
    ((s.tbSetState t tbHold true).updTb t fun h => { h with holdAt := s.dtime, consec := run }).tbInherit 64 t := by
  refine ⟨if s.rd TB.STATUS.STATE t = tbPrimary then 0 else (s.tb t).consec, ?_⟩
  unfold State.tbEnterHold
  dsimp only
  rw [if_neg]
  rw [(State.updTb_rd _ _ _ _ _ _).1, State.tbSetState_rd_of_beside _ _ _ _ ht _ (by decide) (by decide)]
  exact hh

end

/-- Timebase `t` stands in OFF with speed 0 and the ratio `r`. -/
def TbStopped (t : Nat) (r : Word) (u : State) : Prop :=
  u.rd TB.STATUS.STATE t = tbOff ∧ u.rd TB.SPEED.SPEED t = 0 ∧ u.reg (TB.RATIO.NUM.addr t) = r
theorem TbStopped.of_same {t : Nat} {r : Word} {u w : State} (h : TbStopped t r u) (hs : SameTimebase t u w) : TbStopped t r w := by
  obtain ⟨hst, hspd, hr⟩ := h
  exact ⟨(rd_of_inTimebase (by decide) hs).trans hst, (rd_of_inTimebase (by decide) hs).trans hspd, (hs _ (inTimebase_addr (by decide))).trans hr⟩
/-- What a timebase that is lost or off brings to slots and to Babbitt leaves every timebase. -/
theorem State.slotsBabLost_same (s : State) {t : Nat} (ht : t < 64) (x : Nat) : SameTimebase t s ((s.slotsTbLost x).babTbLost x) := fun a ha => by
  rw [State.babTbLost_low _ _ (inTimebase_low ht ha), State.slotsTbLost_low _ _ (inTimebase_low ht ha)]

theorem State.tbEnterLost_state (s : State) (t : Nat) (ht : t < 64) : (s.tbEnterLost t).rd TB.STATUS.STATE t = tbLost := by
  rw [State.tbEnterLost, State.tbInherit_state _ _ _ _ ht, rd_of_inTimebase (by decide) (State.slotsBabLost_same _ ht t),
    State.tbSetState_state _ _ _ _ ht]
  rfl

/-- A timebase that enters OFF stops; its ratio stays. -/
theorem State.tbEnterOff_stopped (s : State) (t : Nat) (ht : t < 64) : TbStopped t (s.reg (TB.RATIO.NUM.addr t)) (s.tbEnterOff t) := by
  have hz : (s.tbFreeze t).rd TB.SPEED.SPEED t = 0 := by
    rw [State.tbFreeze, State.tbNote, (State.updTb_rd _ _ _ _ _ _).1, State.rd_wr_of_beside _ _ _ (by decide)]
    exact State.rd_wr_self _ TB.SPEED.SPEED 0 t 0 (by decide) (by decide)
  have hr : (s.tbFreeze t).reg (TB.RATIO.NUM.addr t) = s.reg (TB.RATIO.NUM.addr t) := by
    rw [State.tbFreeze, State.tbNote, State.updTb_reg, State.wrS, State.reg_wr_off, State.reg_wr_off, State.reg_wr_off] <;>
      simp only [RF.off, RF.addr, TB.STAMP, TB.SPEED.SPEED, TB.ANGLE, TB.RATIO.NUM] <;> omega
  have hu : ∀ (u : State) (f : TbH → TbH), SameTimebase t u (u.updTb t f) := fun u f a _ => u.updTb_reg t f a
  unfold State.tbEnterOff
  dsimp only
  refine TbStopped.of_same ?_ (hu _ _)
  split
  case isTrue hoff => exact ⟨hoff, hz, hr⟩
  case isFalse =>
    have hoff : TbStopped t (s.reg (TB.RATIO.NUM.addr t)) ((s.tbFreeze t).tbSetState t tbOff false) := by
      refine ⟨State.tbSetState_state _ _ _ _ ht, ?_, ?_⟩
      · rw [State.tbSetState_rd_of_beside _ _ _ _ ht _ (by decide) (by decide), hz]
      · rw [State.tbSetState_reg _ _ _ _ (inTimebase_low ht (inTimebase_addr (by decide)))
          (by simp only [RF.off, RF.addr, TB.STATUS.STATE, TB.RATIO.NUM]; omega), hr]
    have hlost := hoff.of_same (State.slotsBabLost_same _ ht t)
    exact hlost.of_same (State.tbInherit_off ht _ 64 t hlost.1)

/-- Another timebase that enters OFF leaves one that stands in OFF. -/
theorem State.tbEnterOff_other {t : Nat} (ht : t < 64) (s : State) {x : Nat} (hx : t ≠ x) (hs : s.rd TB.STATUS.STATE t = tbOff) :
    SameTimebase t s (s.tbEnterOff x) := by
  have hf : SameTimebase t s (s.tbFreeze x) := fun a ha => by
    rw [State.tbFreeze, State.tbNote, State.updTb_reg, State.wrS, State.reg_wr_off _ _ _ _ _ _ (off_of_inTimebase (by decide) hx ha),
      State.reg_wr_off _ _ _ _ _ _ (off_of_inTimebase (by decide) hx ha), State.reg_wr_off _ _ _ _ _ _ (off_of_inTimebase (by decide) hx ha)]
  unfold State.tbEnterOff
  dsimp only
  intro a ha
  rw [State.updTb_reg]
  split
  case isTrue => exact hf a ha
  case isFalse =>
    have hb : SameTimebase t s ((((s.tbFreeze x).tbSetState x tbOff false).slotsTbLost x).babTbLost x) := fun a ha => by
      rw [State.slotsBabLost_same _ ht x a ha, State.tbSetState_reg _ _ _ _ (inTimebase_low ht ha) (off_of_inTimebase (by decide) hx ha), hf a ha]
    rw [State.tbInherit_off ht _ 64 x ((rd_of_inTimebase (by decide) hb).trans hs) a ha, hb a ha]

/-- A restart stops the timebase and leaves its ratio (R439). -/
theorem State.tbRestart_stopped (s : State) (t : Nat) (ht : t < 64) : TbStopped t (s.reg (TB.RATIO.NUM.addr t)) (s.tbRestart t) := by
  obtain ⟨hst, hspd, hreg⟩ := s.tbEnterOff_stopped t ht
  unfold State.tbRestart
  dsimp only
  refine State.forEach_invariant (TbStopped t _) _ _ (fun u x hx hu => ?circle) _ ?self
  case circle =>
    have hne : t ≠ x := fun e => by simp [e] at hx
    exact hu.of_same fun a ha =>
      (State.reg_wr_off _ TB.STATUS.CFG_ERR 1 x 0 a (off_of_inTimebase (by decide) hne ha)).trans (u.tbEnterOff_other ht hne hu.1 a ha)
  case self =>
    refine ⟨?_, ?_, ?_⟩
    · rw [State.rd_raiseIf_of_beside _ _ _ (by decide), hst]
    · rw [State.rd_raiseIf_of_beside _ _ _ (by decide), hspd]
    · rw [← hreg, State.raiseIf]
      split
      · exact State.reg_wr_off _ TB.STATUS.CFG_ERR 1 t 0 _ (by simp only [RF.off, RF.addr, TB.STATUS.CFG_ERR, TB.RATIO.NUM]; omega)
      · rfl

/-! ### Software updates and ratios -/

/-- Where no timebase derives from `t`, its update goes no further. -/
theorem State.tbPropagate_none (s : State) (f t : Nat) (ch : Bool) (h : ∀ x < 64, s.tbDerived x = true → s.rd TB.CFG.REF x ≠ t) :
    s.tbPropagate f t ch = s := by
  cases f with
  | zero => rfl
  | succ f =>
    have he : (List.range 64).filter (fun x => s.tbOn x && s.tbDerived x && s.rd TB.CFG.REF x == t) = [] := by
      refine List.filter_eq_nil_iff.mpr fun x hx hc => ?_
      simp only [Bool.and_eq_true, beq_iff_eq] at hc
      exact h x (List.mem_range.mp hx) hc.1.2 hc.2
    unfold State.tbPropagate
    rw [he]
    rfl

/-- An update of the primary that the timebase takes and nothing derives from. -/
theorem State.tbUpdate_primary (s : State) (t src : Nat) (ht : t < 64) (ang spd : Int) (stamp : Nat) (hon : s.tbOn t = true)
    (hsrc : s.rd TB.CFG.SRC t = src) (hst : s.rd TB.STATUS.STATE t = tbOff ∨ s.rd TB.STATUS.STATE t = tbPrimary)
    (hd : ∀ x < 64, s.tbDerived x = true → s.rd TB.CFG.REF x ≠ t) : s.tbUpdate t src ang spd stamp = (s.tbSource t true ang spd stamp).1 := by
  obtain ⟨u, corr, e, -, hu⟩ := s.tbSource_primary t ht ang spd stamp hon hst
  have hcfg : ∀ g : RF, g.s1 = 0x100 ∧ g.base = 0x2000050000 ∧ g.hi < 63 → ∀ x < 64, (u.tbWrite t ang spd stamp corr).rd g x = s.rd g x := by
    intro g ⟨h1, hb, h63⟩ x hx
    have hoff : ∀ f : RF, f.s1 = 0x100 ∧ 0x2000050008 ≤ f.base ∧ f.base < 0x20000500F0 → f.off t 0 (g.addr x) := fun f ⟨f1, hlo, hhi⟩ => by
      simp only [RF.off, RF.addr, h1, hb, f1]
      omega
    have hlow : g.addr x < lowEnd := by
      simp only [RF.addr, h1, hb, lowEnd]
      omega
    refine State.rd_congr g x 0 ?_ fun e => absurd e (by omega)
    rw [u.tbWrite_reg t ang spd stamp corr hlow (hoff _ (by decide)) (hoff _ (by decide)) (hoff _ (by decide)) (hoff _ (by decide)),
      hu _ hlow (hoff _ (by decide))]
  have hoffer : s.tbOffer t src ang spd stamp = (u.tbWrite t ang spd stamp corr, true) := by
    unfold State.tbOffer
    simp only [hsrc, if_true, e, Bool.not_true, Bool.false_and, Bool.false_eq_true, if_false]
  unfold State.tbUpdate
  rw [hoffer, e]
  refine (if_pos rfl).trans (State.tbPropagate_none _ _ _ _ fun x hx => ?_)
  rw [State.tbDerived, hcfg _ (by decide) x hx, hcfg _ (by decide) x hx, hcfg _ (by decide) x hx]
  exact hd x hx

theorem tbRatio_takesAll : ∀ t : Fin 64, takesAll (TB.RATIO.NUM.addr t) TB.RATIO.NUM = true ∧ takesAll (TB.RATIO.DEN.addr t) TB.RATIO.DEN = true := by
  decide +kernel
/-- A write of TB.RATIO is taken as it is. -/
theorem State.writeFields_tbRatio (s : State) (t : Fin 64) (v : Word) :
    (s.writeFields (TB.RATIO.NUM.addr t) v.toNat).2 = .ok ∧ (s.writeFields (TB.RATIO.NUM.addr t) v.toNat).1.reg (TB.RATIO.NUM.addr t) = v := by
  obtain ⟨hok, -, hnum⟩ := s.writeFields_takesAll v.toNat (tbRatio_takesAll t).1
  obtain ⟨-, -, hden⟩ := s.writeFields_takesAll v.toNat (tbRatio_takesAll t).2
  refine ⟨hok, BitVec.eq_of_toNat_eq ?_⟩
  have hnum : bits ((s.writeFields (TB.RATIO.NUM.addr t) v.toNat).1.reg (TB.RATIO.NUM.addr t)).toNat 15 0 = bits v.toNat 15 0 := hnum
  have hden : bits ((s.writeFields (TB.RATIO.NUM.addr t) v.toNat).1.reg (TB.RATIO.NUM.addr t)).toNat 31 16 = bits v.toNat 31 16 := hden
  have hv := v.isLt
  have hr := ((s.writeFields (TB.RATIO.NUM.addr t) v.toNat).1.reg (TB.RATIO.NUM.addr t)).isLt
  generalize (s.writeFields (TB.RATIO.NUM.addr t) v.toNat).1.reg (TB.RATIO.NUM.addr t) = r at *
  unfold bits at hnum hden
  omega

/-- Settles O19: the software update, the silent primary with and without a fallback, the end of HOLD, and the restart by a changed ratio. -/
theorem timebaseCommands : Obligations.TimebaseCommands := by
  unfold Obligations.TimebaseCommands
  refine ⟨?upd, ?silentFb, ?silentHold, ?hold, ?restart⟩
  case upd =>
    intro s m t v hm hon hsrc hst hd
    let ang := toS 64 (s.held (TB.ANGLE.addr t) + v.toNat * 2 ^ 32)
    have hfx : s.fxTbAngleHi t v.toNat = ((s.tbSource t true ang (s.rdS TB.SPEED.SPEED t) s.dtime).1, .ok) := by
      unfold State.fxTbAngleHi
      rw [if_pos hsrc, State.tbUpdate_primary s t 6 t.isLt _ _ _ hon hsrc hst fun x hx => hd ⟨x, hx⟩]
      rfl
    obtain ⟨u, corr, e, hstate, -⟩ := s.tbSource_primary t t.isLt ang (s.rdS TB.SPEED.SPEED t) s.dtime hon hst
    obtain ⟨hang, hspd, hstamp⟩ := u.tbWrite_rd t ang (s.rdS TB.SPEED.SPEED t) s.dtime corr t.isLt
    obtain ⟨herr, -, hrd⟩ := busWriteWith_registers (fx := fun s => s.fxTbAngleHi t v.toNat) hm (congrArg Prod.snd hfx)
    refine ⟨_, rfl, herr, ?_⟩
    simp only [hrd, hfx, e]
    refine ⟨(u.tbWrite_state _ _ _ _ _ _ t.isLt).trans hstate, ?_, hstamp, ?_⟩
    · rw [hang, ofS_toS]
    · have hlt : s.rd TB.SPEED.SPEED t < 2 ^ 32 := State.rd_lt s TB.SPEED.SPEED t 0 (nomatch ·)
      rw [hspd, show s.rdS TB.SPEED.SPEED t = toS 32 (s.rd TB.SPEED.SPEED t) from rfl, satS_of_mem (toS_mem (w := 32) (by decide) _)]
      exact (ofS_toS 32 _).trans (Nat.mod_eq_of_lt hlt)
  case silentFb =>
    intro s t hon hst hfb hsil
    have hx : execTbSourceSilent t s = .next (((s.tbSetState t tbFallback true).updTb t fun h =>
        { h with fbLast := none, fbSince := s.dtime, consec := 0, fresh := true }).tbInherit 64 t) := by
      unfold execTbSourceSilent State.tbPrimaryFails
      dsimp only
      rw [hon, if_neg (by simp), if_pos ⟨hst, hsil⟩, if_neg (by simp [hst]), if_neg hfb]
    refine ⟨_, hx, ?_, fun hr => State.tbInherit_noted _ t 64 t (s.tbSetState_noted t tbFallback hr)⟩
    rw [State.tbInherit_state _ _ _ _ t.isLt]
    exact s.tbSetState_state t tbFallback true t.isLt
  case silentHold =>
    intro s t hon hst hfb hh hsil
    obtain ⟨run, hrun⟩ := s.tbEnterHold_eq t hh t.isLt
    have hx : execTbSourceSilent t s = .next (s.tbEnterHold t) := by
      unfold execTbSourceSilent State.tbPrimaryFails
      dsimp only
      rw [hon, if_neg (by simp), if_pos ⟨hst, hsil⟩, if_neg (by simp [hst]), if_pos hfb]
    refine ⟨_, hx, ?_⟩
    rw [hrun]
    refine ⟨?_, ?_, fun hr => State.tbInherit_noted _ t 64 t (s.tbSetState_noted t tbHold hr)⟩
    · rw [State.tbInherit_state _ _ _ _ t.isLt]
      exact s.tbSetState_state t tbHold true t.isLt
    · rw [State.tbInherit_holdAt, State.updTb_same]
  case hold =>
    intro s t hst ht
    exact ⟨_, if_pos ⟨hst, ht⟩, s.tbEnterLost_state t t.isLt⟩
  case restart =>
    intro s m t v hm hne
    obtain ⟨hok, hreg⟩ := s.writeFields_tbRatio t v
    have hfx : s.fxTbRatio t v.toNat = ((s.writeFields (TB.RATIO.NUM.addr t) v.toNat).1.tbRestart t, .ok) := by
      unfold State.fxTbRatio
      dsimp only
      rw [hreg, if_neg hne.symm, hok]
    obtain ⟨hst, hspd, hratio⟩ := (s.writeFields (TB.RATIO.NUM.addr t) v.toNat).1.tbRestart_stopped t t.isLt
    obtain ⟨herr, hregs, hrd⟩ := busWriteWith_registers (fx := fun s => s.fxTbRatio t v.toNat) hm (congrArg Prod.snd hfx)
    refine ⟨_, rfl, herr, ?_⟩
    simp only [State.rdS, hrd, hregs, hfx, hst, hspd, hratio, hreg]
    exact ⟨trivial, rfl, trivial⟩

end Sys2Proof.Machine
end

section
/-!
SUPPORT. The end of a crossbar switch whose axis was to go into STO (R76, R318): the STO of its group ends the start of an axis of lower number in
the same clock, and that event, of a lower SOURCE, takes the last place of the recorder's queue from the event of the switch (R359).
-/
namespace Sys2Proof.Machine
open Sys2Proof.Safety

/-- 255 events wait since earlier clocks. Axes 0 and 1 are of group 0; axis 0 is in a start; the switch of spare 0 to axis 1 ends, and an STO of
axis 1 was held through it. -/
def heldStoState : State :=
  let queue : List RecEvent := List.replicate 255 { code := 1, source := 0, stamp := 0, payload := [], merge := false, arrived := 0 }
  let s := { State.reset with dtime := 1000, pxbs := [(0, some { axis := 1 })], recd := { State.reset.recd with queue := queue } }
  (((s.wr AX.SAF_CFG.GROUP 0 0).wr AX.SAF_CFG.GROUP 0 1).wr AX.CMT_STATUS.STATE 1 0).updPw 1 fun h => { h with heldSto := some 0 }

/-- The switch ends with a next state, in which its event waits no more. -/
theorem heldStoState_drops :
    (match execPxbSwitchComplete 0 heldStoState with
      | .next t => t.recd.queue.all fun e => e.code != 0x0204
      | _ => false) = true := by decide +kernel

/-- Refutes O24: in its last clause the event 0x0204 of the switch does not wait. The STO held through the switch comes with it and ends the start of
axis 0 (0x0301, SOURCE of axis 0), which goes before the event of axis 1 and finds the queue full. -/
theorem not_boundaryAndTripCommands : ¬ Obligations.BoundaryAndTripCommands := by
  unfold Obligations.BoundaryAndTripCommands
  rintro ⟨-, -, -, -, -, -, -, -, -, hend⟩
  obtain ⟨t, ht, -, -, -, e, he, hcode, -⟩ := hend heldStoState 0 { axis := 1 } (by decide +kernel) (by decide +kernel) (by decide +kernel) (by decide)
    (by decide +kernel)
  have hx : execPxbSwitchComplete 0 heldStoState = .next t := ht
  have hdrop := heldStoState_drops
  rw [hx] at hdrop
  simpa [hcode] using List.all_eq_true.mp hdrop e he

end Sys2Proof.Machine
end

section
/-!
SUPPORT. A clock that steps DEVICE TIME (R28, R31, R242, R329): a fault that waited reacts in it, and what follows writes Babbitt's ring, which
here lies on the register DT.STEP_HI.
-/
namespace Sys2Proof.Machine
open Sys2Proof.Safety

/-- An input of Babbitt whose ring starts at the address of DT.STEP_HI, with a window of the access table that lets master 0x18 write there. -/
def State.ringOnStep (s : State) : State :=
  let s := (((s.wr BAB.IN_CFG.EN 1 0).wr BAB.IN_CFG.TB 48 0).wr BAB.IN_CFG.PPR_L 10 0).wr BAB.RING_BASE DT.STEP.base
  let s := s.updBi 0 fun h => { h with samples := [{ stamp := 100000, code := 0, sq := 0 }] }
  ((s.wr AT.WIN_LIMIT.LIMIT 0xFFFFFFFF 5 (0x18 * 16)).wr AT.WIN_ATTR.EN 1 5 (0x18 * 16)).wr AT.WIN_ATTR.W 1 5 (0x18 * 16)
/-- Timebase 1 follows the observer of axis 1, and timebase 48 follows timebase 1, of which it has not taken the last angle. -/
def State.derivedPair (s : State) : State :=
  let s := (((s.wr TB.CFG.HOLD 1 1).wr TB.STATUS.STATE tbPrimary 1).wr TB.ANGLE (2 ^ 14) 1).wr TB.STAMP 100 1
  let s := ((((s.wr TB.CFG.EN 1 48).wr TB.CFG.SRC 2 48).wr TB.CFG.KIND 1 48).wr TB.CFG.REF 1 48).wr TB.STATUS.STATE tbPrimary 48
  ((s.wr TB.RATIO.NUM 1 48).wr TB.RATIO.DEN 1 48).updTb 48 fun h => { h with live := true }
/-- Nothing waits but a fault whose reaction is the STO of the group of axis 1; 1 is held for DT.STEP_LO. -/
def faultWaits : State :=
  let s := { State.reset with saf := { State.reset.saf with due := [{ groups := [0] }] }, heldLo := [(DT.STEP.base, 1)] }
  (s.wr AX.SAF_CFG.GROUP 0 1).derivedPair.ringOnStep

/-! ### The clock, step by step -/

section
variable (s : State)

/-- The state of a clock before what it posted takes effect. -/
def State.beforePosted (s : State) : State := s.tick.t2Clock.abortClock.lanesClock.trimClock.windowEnd.porClock

theorem State.windowEnd_of_group {g : Nat} (hd : s.saf.due = [{ groups := [g] }]) (hw : s.windowOpen = false) :
    s.windowEnd = ((s.updSaf fun h => { h with due := [] }).faultShow { groups := [g] }).stoSet 0 [g] := by
  have hn : ∀ l : List Nat, l.filter (fun n => [({ groups := [g] } : FaultH)].any fun f => f.axes.contains n) = [] := fun l => by simp
  unfold State.windowEnd State.faultTake
  rw [if_neg (by simp [hd, hw])]
  simp only [hd, hn]
  rfl

/-- A group whose STO becomes active, before its axes go into it. -/
def State.groupLow (s : State) (code g : Nat) : State :=
  ((s.emit 0x0A02 (srcGroup g) [code]).wrBit SAF.GROUP_STATE.LOW g true).wrBit SAF.GROUP_STATE.HIGH g true
theorem State.stoSet_of_one {code g n : Nat} (ha : s.stoActive g = false) (ht : s.flag TWN.CFG.EN = false) (hn : (s.groupLow code g).axesOf g = [n]) :
    s.stoSet code [g] = ((s.groupLow code g).axisSto n).stoOutputs := by
  have hf : [g].filter (fun g => !(s.stoActive g)) = [g] := by simp [ha]
  have htw : ∀ p, s.twinSend pkSafety p = s := fun p => by
    unfold State.twinSend
    rw [ht, if_neg (by decide)]
  unfold State.stoSet
  simp only [hf, htw, ite_self]
  show State.stoOutputs ((s.groupLow code g).forEach ((s.groupLow code g).axesOf g) fun s n => s.axisSto n) = _
  rw [hn]
  rfl

/-- An axis that goes into STO, before its timebase learns it. -/
def State.axisLow (s : State) (n : Nat) : State :=
  (((s.axisOff n 0 resAborted).updPw n fun h => { h with released := false, heldAct := none, heldBus := false, heldSto := none }).updSx n
    fun h => { h with ss1 := none }).wr AX.SAF_STATUS.STATE 0 n
theorem State.axisSto_of_primary {n : Nat} (hn : n < 64) (hsrc : (s.axisLow n).rd TB.CFG.SRC n = 1 ∧ (s.axisLow n).rd TB.CFG.KIND n = 0)
    (hst : (s.axisLow n).rd TB.STATUS.STATE n = tbPrimary) (hfb : (s.axisLow n).rd TB.CFG.FALLBACK n = 0) (hh : (s.axisLow n).rd TB.CFG.HOLD n ≠ 0) :
    s.axisSto n = (((s.axisLow n).tbSetState n tbHold true).updTb n fun h => { h with holdAt := (s.axisLow n).dtime, consec := 0 }).tbInherit 64 n := by
  show (s.axisLow n).tbAxisLost n = _
  unfold State.tbAxisLost State.tbPrimaryFails
  rw [if_pos hsrc, if_neg (by simp [hst]), if_pos hfb]
  unfold State.tbEnterHold
  dsimp only
  rw [hst, if_pos rfl, if_neg]
  rw [(State.updTb_rd _ _ _ _ _ _).1, State.tbSetState_rd_of_beside _ _ _ _ hn _ (by decide) (by decide)]
  exact hh

/-- The timebases that derive from `t` and inherit from it. -/
def State.tbHeirs (s : State) (t : Nat) : List Nat := (List.range 64).filter fun x => s.tbOn x && s.rd TB.CFG.REF x == t
theorem State.tbInherit_of_none {f t : Nat} (h : s.tbHeirs t = []) : s.tbInherit (f + 1) t = s := by
  unfold State.tbInherit
  rw [show (List.range 64).filter _ = [] from h]
  rfl
theorem State.tbInherit_of_one {f t x : Nat} (h : s.tbHeirs t = [x]) (hx : (s.tbTake x).2 = true) :
    s.tbInherit (f + 1) t = (s.tbTake x).1.tbInherit f x := by
  conv_lhs => unfold State.tbInherit
  rw [show (List.range 64).filter _ = [x] from h]
  show (if (s.tbTake x).2 then (s.tbTake x).1.tbInherit f x else (s.tbTake x).1) = _
  rw [if_pos hx]

/-- No slot is enabled, and none waits for the residual of a firing. -/
def State.slotsRest (s : State) : Prop := s.slots = [] ∧ ∀ k < 256, s.flag SCH.CFG.EN k = false
theorem State.slotsResid_of_rest (t : Nat) (h : s.slotsRest) : s.slotsResid t = s := by
  refine State.forEach_invariant (· = s) _ _ (fun u k _ hu => ?_) s rfl
  subst hu
  have hs : u.slot k = {} := by
    rw [State.slot, h.1]
    rfl
  dsimp only
  rw [hs]
theorem State.slotsTbUpdate_of_rest (t : Nat) (prev : Int) (h : s.slotsRest) : s.slotsTbUpdate t prev = s := by
  refine State.forEach_invariant (· = s) _ _ (fun u k hk hu => ?_) s rfl
  subst hu
  simp [h.2 k (List.mem_range.mp hk)]

/-- The three words of an update, with the note of them that the timebase keeps. -/
def State.tbWordsNoted (s : State) (t : Nat) (ang spd : Int) (stamp : Nat) : State := (s.tbWords t ang spd stamp).tbNote t stamp ang spd true
/-- An update that is no correction, where no slot waits: its three words, and Babbitt's points. -/
theorem State.tbWrite_of_rest (t : Nat) (ang spd : Int) (stamp : Nat) (hl : (s.tb t).live = true) (ha : toS 64 (ofS 64 ang) = ang)
    (hv : satS 32 spd = spd) (h : (s.tbWordsNoted t ang spd stamp).slotsRest) :
    s.tbWrite t ang spd stamp false = (s.tbWordsNoted t ang spd stamp).babTbUpdate t (s.rd TB.STAMP t) (s.rdS TB.ANGLE t) stamp ang false := by
  have hlive : ((s.tbWords t ang spd stamp).tb t).live = true := by
    rw [← hl, State.tb, State.tb]
    simp [State.tbWords]
  unfold State.tbWordsNoted at h ⊢
  unfold State.tbWords at hlive h ⊢
  unfold State.tbWrite
  simp only [Bool.false_and, Bool.false_eq_true, if_false, ha, hv]
  rw [if_pos hlive, State.slotsResid_of_rest _ _ h, State.slotsTbUpdate_of_rest _ _ _ h]

end

/-! ### The case -/

/-- The clock's state when the fault has been shown, when axis 1 is off, and when timebase 1 is in HOLD. -/
def caseFault : State :=
  (faultWaits.tick.t2Clock.abortClock.lanesClock.trimClock.updSaf fun h => { h with due := [] }).faultShow { groups := [0] }
def caseOff : State := (caseFault.groupLow 0 0).axisLow 1
def caseHold : State := (caseOff.tbSetState 1 tbHold true).updTb 1 fun h => { h with holdAt := caseOff.dtime, consec := 0 }
/-- Timebase 48 has taken the angle of timebase 1. -/
def caseTaken : State := caseHold.tbWordsNoted 48 (2 ^ 14) 0 100
/-- Babbitt has stored the point that the angle passes. -/
def caseStored : State := caseTaken.babTbUpdate 48 0 0 100 (2 ^ 14) false

theorem caseOff_primary : ((caseOff.rd TB.CFG.SRC 1 = 1 ∧ caseOff.rd TB.CFG.KIND 1 = 0) ∧ caseOff.rd TB.STATUS.STATE 1 = tbPrimary) ∧
    caseOff.rd TB.CFG.FALLBACK 1 = 0 ∧ caseOff.rd TB.CFG.HOLD 1 ≠ 0 := by decide +kernel
theorem caseHold_derive : caseHold.tbFollows 48 = 2 ∧ caseHold.tbDerive 48 false = (2 ^ 14, 0) ∧ caseHold.rd TB.CFG.REF 48 = 1 ∧
    caseHold.rd TB.STAMP 1 = 100 ∧ caseHold.rdS TB.ANGLE 48 = 0 ∧ caseHold.rd TB.STAMP 48 = 0 ∧ (caseHold.tb 48).live = true := by decide +kernel
theorem caseHold_heirs : caseHold.tbHeirs 1 = [48] := by decide +kernel
theorem caseTaken_rest : caseTaken.slotsRest := ⟨by decide +kernel, by decide +kernel⟩
theorem caseStored_heirs : caseStored.tbHeirs 48 = [] := by decide +kernel

theorem caseHold_tbWrite : caseHold.tbWrite 48 (2 ^ 14) 0 100 false = caseStored := by
  obtain ⟨-, -, -, -, hang, hst, hlive⟩ := caseHold_derive
  have hw := caseHold.tbWrite_of_rest 48 (2 ^ 14) 0 100 hlive (by decide +kernel) (by decide +kernel) caseTaken_rest
  rw [hang, hst] at hw
  exact hw
theorem caseHold_take : caseHold.tbTake 48 = (caseStored, true) := by
  obtain ⟨hf, hd, href, hstamp, hang, -⟩ := caseHold_derive
  unfold State.tbTake
  dsimp only
  rw [hf, show ((2 : Nat) == 3) = false from rfl, hd, href, hstamp, hang, if_neg, caseHold_tbWrite]
  exact not_or.mpr ⟨by decide, fun h => absurd h.1 (by decide +kernel)⟩

theorem faultWaits_beforePosted : faultWaits.beforePosted = caseStored.stoOutputs.porClock := by
  obtain ⟨⟨hsrc, hst⟩, hfb, hh⟩ := caseOff_primary
  unfold State.beforePosted
  rw [State.windowEnd_of_group (g := 0) _ (by decide +kernel) (by decide +kernel)]
  show (caseFault.stoSet 0 [0]).porClock = _
  rw [State.stoSet_of_one (n := 1) _ (by decide +kernel) (by decide +kernel) (by decide +kernel),
    State.axisSto_of_primary _ (by decide) hsrc hst hfb hh]
  show (caseHold.tbInherit 64 1).stoOutputs.porClock = _
  rw [State.tbInherit_of_one _ caseHold_heirs (congrArg Prod.snd caseHold_take), caseHold_take, State.tbInherit_of_none _ caseStored_heirs]

theorem faultWaits_posts : caseStored.stoOutputs.porClock.posted.map (fun p => (p.1, p.2.1)) = [(0x18, DT.STEP.base + 4)] := by decide +kernel
theorem faultWaits_steps : caseStored.stoOutputs.porClock.stepOk = true ∧ caseStored.stoOutputs.porClock.held DT.STEP.base = 1 ∧
    caseStored.stoOutputs.porClock.dtime = 1 := by decide +kernel

theorem State.writeFx_dtStepHi (s : State) (m v : Nat) : s.writeFx m (DT.STEP.base + 4) v = s.fxDtStepHi v := rfl
/-- A step with an odd word held for DT.STEP_LO moves an odd DEVICE TIME to an even one. -/
theorem shiftT_even (v : Nat) : shiftT (toS 64 (1 + v * 2 ^ 32)) 1 % 2 = 0 := by
  unfold shiftT ofS toS
  dsimp only
  split <;> omega

theorem faultWaits_clock : faultWaits.clock.dtime % 2 = 0 := by
  obtain ⟨hok, hheld, hdt⟩ := faultWaits_steps
  obtain ⟨⟨m, a, v⟩, hp, hma⟩ := List.map_eq_singleton_iff.mp faultWaits_posts
  obtain ⟨rfl, rfl⟩ := Prod.mk.inj hma
  have hc : faultWaits.clock = faultWaits.beforePosted.drainPosted := rfl
  rw [hc, faultWaits_beforePosted, State.drainPosted, hp]
  generalize caseStored.stoOutputs.porClock = u at *
  rw [List.foldl_cons, List.foldl_nil, State.writeFx_dtStepHi]
  show (({ u with posted := [] } : State).stepTime (toS 64 (u.held DT.STEP.base + v * 2 ^ 32))).dtime % 2 = 0
  rw [(State.stepTime_of_stepOk { u with posted := [] } _ hok).1, hheld, hdt]
  exact shiftT_even v

/-- Refutes O2: its last clause, that a step with no command waiting is one clock of DEVICE TIME. In the clock of this state a fault held through a
safety window reacts, and the STO that follows makes Babbitt store a point in a ring that lies on DT.STEP_HI: a write that steps DEVICE TIME. -/
theorem not_deviceTimeAcrossResets : ¬ Obligations.DeviceTimeAcrossResets := by
  unfold Obligations.DeviceTimeAcrossResets
  rintro ⟨-, -, -, hidle⟩
  obtain ⟨t, ht, -, hdt⟩ := hidle faultWaits rfl rfl
  obtain rfl : faultWaits.clock = t := Host.Outcome.next.inj ht
  have heven := faultWaits_clock
  rw [hdt, show faultWaits.pwr.por = false from rfl, show faultWaits.dtime = 0 from rfl] at heven
  exact absurd heven (by decide)

end Sys2Proof.Machine
end

section
/-!
SUPPORT. Writes by the field rules of a register with a LOCK bit (R11, R14), and what the answer to a register write leaves of the axes: a violation
is logged in registers below theirs (R292).
-/
namespace Sys2Proof.Machine
open Sys2Proof.Safety

/-! ### Registers with a LOCK bit -/

/-- A read-write field without reserved encodings takes the value, locked register or not. -/
theorem RegSpec.bits_write_rw {r : RegSpec} (hr : r.FieldsRise) (lock : Bool) (keep old v : Nat) {f : FieldSpec} (hm : f ∈ r.fields)
    (ha : f.acc = .rw) (hrsv : f.rsv = []) : bits (r.write lock keep old v).1 f.hi f.lo = bits v f.hi f.lo := by
  obtain ⟨hin, hrise⟩ := hr
  obtain ⟨before, after, e⟩ := List.append_of_mem hm
  rw [e] at hrise
  obtain ⟨-, hrise, -⟩ := List.pairwise_append.mp hrise
  obtain ⟨habove, -⟩ := List.pairwise_cons.mp hrise
  have hfree : f.reserved (bits v f.hi f.lo) = false := by simp [FieldSpec.reserved, hrsv]
  rw [RegSpec.write, e, List.foldl_append, List.foldl_cons,
    bits_foldl_write_beside _ _ _ _ _ fun g hg => ⟨(hin g (by simp [e, hg])).1, .inl (habove g hg)⟩, f.write_of_rw _ _ _ _ ha, hfree]
  exact bits_setBits_of_lt (bits_lt _ _ _)

/-- A register without a field that a LOCK bit protects never tells that one was to change (R14). -/
theorem RegSpec.write_snd_of_no_rwl {r : RegSpec} (h : ∀ f ∈ r.fields, f.acc ≠ .rwl) (lock : Bool) (keep old v : Nat) :
    (r.write lock keep old v).2 = false :=
  List.foldlRecOn r.fields _ (motive := fun acc => acc.2 = false) rfl fun (acc : Nat × Bool) hacc f hf => by
    have hne := h f hf
    unfold FieldSpec.write
    dsimp only
    split
    case h_4 hrwl => exact absurd hrwl hne
    all_goals exact hacc

/-- The bits of `g` are a read-write field, without reserved encodings, of the register at `a`. -/
def plainField (a : Nat) (g : RF) : Bool :=
  (findReg a).any fun x => x.1.fields.any fun f => f.hi == g.hi && f.lo == g.lo && f.acc == .rw && f.rsv.isEmpty
/-- No field of the register at `a` is protected by a LOCK bit. -/
def lockFree (a : Nat) : Bool := (findReg a).all fun x => x.1.fields.all fun f => f.acc != .rwl

/-- A write by the field rules sets at most the word of its register. -/
theorem State.writeFields_fst (s : State) (a v : Nat) : (s.writeFields a v).1 = s ∨ ∃ w, (s.writeFields a v).1 = s.setReg a w := by
  unfold State.writeFields
  split
  · exact .inl rfl
  · exact .inr ⟨_, rfl⟩
theorem State.writeFields_onlyRegs (s : State) (a v : Nat) : OnlyRegs s (s.writeFields a v).1 [a] := fun x hx => by
  rcases s.writeFields_fst a v with e | ⟨w, e⟩
  · rw [e]
  · rw [e, State.reg_setReg_ne _ _ (by simpa using hx)]
theorem State.writeFields_pw (s : State) (a v n : Nat) : (s.writeFields a v).1.pw n = s.pw n := by
  rcases s.writeFields_fst a v with e | ⟨w, e⟩
  · rw [e]
  · rw [e]; rfl
theorem State.writeFields_rd_plain (s : State) (v : Nat) {g : RF} {i j : Nat} (h : plainField (g.addr i j) g = true) :
    (s.writeFields (g.addr i j) v).1.rd g i j = bits v g.hi g.lo := by
  obtain ⟨⟨r, i', j'⟩, hf, h⟩ := (Option.any_eq_true _ _).mp h
  obtain ⟨f, hm, h⟩ := List.any_eq_true.mp h
  simp only [Bool.and_eq_true, beq_iff_eq, List.isEmpty_iff] at h
  obtain ⟨⟨⟨hhi, hlo⟩, hacc⟩, hrsv⟩ := h
  have hr := findReg_fieldsRise hf
  have hlt := (hr.1 f hm).2
  have hb := RegSpec.bits_write_rw hr (s.locked r i') (Tab.get 0 s.justSet (g.addr i j)) (s.reg (g.addr i j)).toNat v hm hacc hrsv
  rw [hhi] at hb hlt
  rw [hlo] at hb
  unfold State.rd State.writeFields
  rw [hf]
  dsimp only
  rw [if_neg (by omega), State.reg_setReg_self, BitVec.toNat_ofNat, bits_mod hlt, hb]
theorem State.writeFields_ok (s : State) (v : Nat) {a : Nat} (h : lockFree a = true) : (s.writeFields a v).2 = .ok := by
  unfold State.writeFields
  split
  case h_1 => rfl
  case h_2 r i j hf =>
    rw [lockFree, hf] at h
    simp [RegSpec.write_snd_of_no_rwl (r := r) (by simpa using h)]

theorem bit_setBit_false (n i : Nat) : bit (setBit n i false) i = false := by
  have h := bits_setBits (n := n) (hi := i) (lo := i) (v := 0)
  simpa [bit, bits, setBit] using h

theorem bit_setBit_ne (n : Nat) {i k : Nat} (b : Bool) (h : k ≠ i) : bit (setBit n i b) k = bit n k := by
  have hb := bits_setBits_beside (n := n) (v := if b then 1 else 0) (le_refl i) (lt_or_gt_of_ne h)
  simpa [bit, bits, setBit] using congrArg (· == 1) hb

/-! ### The answer to a register write -/

/-- The first register of the axes. -/
def axisBase : Nat := 0x2010000000

/-- Two states agree in the registers of the axes and above, in the PWM channels and in the current loops. -/
structure SameAxes (s t : State) : Prop where
  reg : ∀ a, axisBase ≤ a → t.reg a = s.reg a
  pw : ∀ n, t.pw n = s.pw n
  fo : ∀ n, t.fo n = s.fo n

section
variable {s t : State} (h : SameAxes s t) {g : RF} (hg : axisBase ≤ g.base)
include h hg
theorem SameAxes.rd (i j : Nat) : t.rd g i j = s.rd g i j :=
  State.rd_congr g i j (h.reg _ (by unfold RF.addr; omega)) fun _ => h.reg _ (by unfold RF.addr; omega)
theorem SameAxes.flag (i j : Nat) : t.flag g i j = s.flag g i j := congrArg (· != 0) (h.rd hg i j)
end
theorem SameAxes.trans {s t u : State} (h : SameAxes s t) (h' : SameAxes t u) : SameAxes s u :=
  ⟨fun a ha => (h'.reg a ha).trans (h.reg a ha), fun n => (h'.pw n).trans (h.pw n), fun n => (h'.fo n).trans (h.fo n)⟩

theorem nearestTarget_le (a : Nat) : nearestTarget a ≤ 9 := by
  unfold nearestTarget
  repeat' split
  all_goals omega

/-- A register of a target's access table, or of the recorder, lies below the axes. -/
theorem State.wr_below_axes (s : State) (f : RF) (v t : Nat) (ht : t ≤ 9) (hf : f.base + 9 * f.s1 + 4 < axisBase) {x : Nat} (hx : axisBase ≤ x) :
    (s.wr f v t).reg x = s.reg x := by
  have hm : t * f.s1 ≤ 9 * f.s1 := Nat.mul_le_mul_right _ ht
  refine State.reg_wr_off _ _ _ _ _ _ ⟨?_, fun _ => ?_⟩ <;> unfold RF.addr <;> omega
theorem notEvent_axes {x : Nat} (hx : axisBase ≤ x) : notEvent x := by
  simp only [axisBase] at hx
  simp only [notEvent, REC.EVT_TOTAL, REC.QUEUE.VALUE]
  omega

theorem State.violate_channels (s : State) (m a n ty : Nat) : (s.violate m a n ty).pwms = s.pwms ∧ (s.violate m a n ty).focs = s.focs := by
  unfold State.violate State.logViolation
  dsimp only
  split <;> split <;> simp
/-- Whether a violation becomes the first, the latest or neither of its target, its log lies below the axes. -/
theorem State.violate_sameAxes (s : State) (m a n ty : Nat) : SameAxes s (s.violate m a n ty) where
  reg x hx := by
    have ht := nearestTarget_le a
    unfold State.violate State.logViolation
    dsimp only
    rw [State.errResp_reg, State.emitMerge_reg _ _ _ _ (notEvent_axes hx)]
    split <;> split <;> simp +decide [State.raise, State.incSat, State.wr_below_axes, ht, hx]
  pw k := by rw [State.pw, (s.violate_channels m a n ty).1, State.pw]
  fo k := by rw [State.fo, (s.violate_channels m a n ty).2, State.fo]

/-- A granted register write leaves the axes as its effect does; where it is answered without error, every register. -/
theorem State.busWriteWith_sameAxes {s : State} {m a : Nat} {sw : Bool} {fx : State → State × WErr} (h : MayWrite s m a sw) :
    SameAxes (fx s).1 (s.busWriteWith m a sw fx) ∧
    ((∀ x, (s.busWriteWith m a sw fx).reg x = (fx s).1.reg x) ∨ (s.busWriteWith m a sw fx).resp.err = true) := by
  have hd : SameAxes (fx s).1 ((fx s).1.noteDebug s m) :=
    ⟨fun x _ => by simp, fun n => by simp [State.pw], fun n => by simp [State.fo]⟩
  have hv : ∀ ty, SameAxes (fx s).1 (((fx s).1.noteDebug s m).violate m a 4 ty) := fun ty => hd.trans (State.violate_sameAxes _ _ _ _ _)
  unfold State.busWriteWith
  rw [show s.checkAccess m a 4 true sw = none from h]
  dsimp only
  split
  case h_1 => exact ⟨⟨hd.reg, hd.pw, hd.fo⟩, .inl fun x => by simp⟩
  case h_2 => exact ⟨hv _, .inr rfl⟩
  case h_3 => exact ⟨hv _, .inr rfl⟩
  case h_4 => exact ⟨⟨hd.reg, hd.pw, hd.fo⟩, .inr rfl⟩

end Sys2Proof.Machine
end

section
/-!
SUPPORT. EN of an axis and its shadow pair (R57, R61, R63, R64, R75): what a grant, a refusal and the clearing of EN leave in the axis's registers
and state, and the capture of the shadow pair; O23.
-/
namespace Sys2Proof.Machine
open Sys2Proof.Safety

/-! ### EN is granted (R57, R61, R68, R71, R137) -/

section
variable (s : State) (n : Nat)

theorem State.carryClear_eq : s.carryClear n =
    (((s.wr AX.PWM_CARRY.CARRY 0 n 0).wr AX.PWM_CARRY.CARRY 0 n 1).wr AX.PWM_CARRY.CARRY 0 n 2).clear AX.PWM_STATUS.SKIP n := rfl
theorem State.carryClear_en : (s.carryClear n).rd AX.PWM_CTRL.EN n = s.rd AX.PWM_CTRL.EN n := by
  have hoff : ∀ j, AX.PWM_CARRY.CARRY.apart n j AX.PWM_CTRL.EN n 0 := fun j => by
    simp only [RF.apart, RF.off, RF.addr, AX.PWM_CARRY.CARRY, AX.PWM_CTRL.EN]
    omega
  rw [State.carryClear_eq, State.rd_clear_of_beside _ _ (by decide), State.rd_wr_apart _ _ _ _ _ _ _ _ (hoff 2),
    State.rd_wr_apart _ _ _ _ _ _ _ _ (hoff 1), State.rd_wr_apart _ _ _ _ _ _ _ _ (hoff 0)]
theorem State.carryClear_carry : (s.carryClear n).rd AX.PWM_CARRY.CARRY n 0 = 0 := by
  have hoff : ∀ j, 0 < j → AX.PWM_CARRY.CARRY.apart n j AX.PWM_CARRY.CARRY n 0 := fun j hj => by
    simp only [RF.apart, RF.off, RF.addr, AX.PWM_CARRY.CARRY]
    omega
  rw [State.carryClear_eq, State.rd_clear_of_beside _ _ (by decide), State.rd_wr_apart _ _ _ _ _ _ _ _ (hoff 2 (by decide)),
    State.rd_wr_apart _ _ _ _ _ _ _ _ (hoff 1 (by decide)), State.rd_wr_self _ _ _ _ _ (by decide) (by decide)]
  rfl

theorem State.axisOn_en : (s.axisOn n).axOn n = true := by
  unfold State.axisOn State.commitRequest
  dsimp only
  rw [State.axOn, State.flag, State.rd_raise_of_beside _ _ (by decide), State.rd_wr_of_beside _ _ _ (by decide),
    State.rd_wr_of_beside _ _ _ (by decide)]
  simp only [State.updCm_rd, State.updFo_rd, State.updPw_rd]
  rw [State.carryClear_en, State.rd_raiseIf_of_beside _ _ _ (by decide), State.rd_raise _ _ _ _ (by decide)]
  rfl
theorem State.axisOn_commit : (s.axisOn n).flag AX.PWM_STATUS.COMMIT_PEND n = true := State.flag_raise _ _ _ _ (by decide)
theorem State.axisOn_carry : (s.axisOn n).rd AX.PWM_CARRY.CARRY n 0 = 0 := by
  unfold State.axisOn State.commitRequest
  dsimp only
  rw [State.rd_raise_of_beside _ _ (by decide), State.rd_wr_of_beside _ _ _ (by decide), State.rd_wr_of_beside _ _ _ (by decide)]
  simp only [State.updCm_rd, State.updFo_rd, State.updPw_rd]
  exact State.carryClear_carry _ _
theorem State.axisOn_corr : (s.axisOn n).rd AX.CMT_CORR.VALUE n = 0 := by
  unfold State.axisOn State.commitRequest
  dsimp only
  rw [State.rd_raise_of_beside _ _ (by decide), State.rd_wr_of_beside _ _ _ (by decide), State.rd_wr_self _ _ _ _ _ (by decide) (by decide)]
  rfl
theorem State.axisOn_pw : ((s.axisOn n).pw n).asc = 0 ∧ ((s.axisOn n).pw n).nextB.isSome = true := by
  unfold State.axisOn State.commitRequest
  simp [State.pw, State.updPw, Tab.get_put_self]

theorem State.obsEnable_rd {g : RF} (h : AX.OBS_STATUS.WIN_CNT.beside g = true) : (s.obsEnable n).rd g n = s.rd g n :=
  State.rd_wr_of_beside _ _ _ h
theorem State.obsEnable_pw (k : Nat) : (s.obsEnable n).pw k = s.pw k := rfl

end

/-! ### EN is refused, and a write that sets it (R57, R59, R73, R75) -/

/-- What refuses EN is read from other registers than AX.PWM_CTRL. -/
theorem State.enRefused_setReg (s : State) (n : Fin 48) (w : Word) : (s.setReg (AX.PWM_CTRL.EN.addr n) w).enRefused n = s.enRefused n := by
  have hn := n.isLt
  generalize hu : s.setReg (AX.PWM_CTRL.EN.addr n) w = u
  have honly : OnlyRegs s u [AX.PWM_CTRL.EN.addr n] := fun x hx => hu ▸ State.reg_setReg_ne _ _ (by simpa using hx)
  have hrd : ∀ g i j, g.addr i j ≠ AX.PWM_CTRL.EN.addr n → (g.hi = 63 → g.addr i j + 4 ≠ AX.PWM_CTRL.EN.addr n) → u.rd g i j = s.rd g i j :=
    fun g i j h h' => onlyRegs_rd honly g i j (by simpa using h) (by simpa using h')
  have haxis : ∀ g : RF, g.s1 = AX.PWM_CTRL.EN.s1 → AX.PWM_CTRL.EN.base < g.base → u.rd g n = s.rd g n := fun g h1 hb =>
    hrd g n 0 (by simp only [RF.addr, h1]; omega) fun _ => by simp only [RF.addr, h1]; omega
  have hpxb : ∀ g : RF, 0x2010300000 ≤ g.base → g.hi ≠ 63 → ∀ j, u.rd g 0 j = s.rd g 0 j := fun g hg h63 j =>
    hrd g 0 j (by simp only [RF.addr, AX.PWM_CTRL.EN]; omega) fun h => absurd h h63
  have hone : ∀ g : RF, g.base + 4 < AX.PWM_CTRL.EN.base → u.rd g = s.rd g := fun g hg =>
    hrd g 0 0 (by simp only [RF.addr]; omega) fun _ => by simp only [RF.addr]; omega
  have ht2 : ∀ b, (decide (b < 8) && u.flag BUS.STATUS.T2 b) = (decide (b < 8) && s.flag BUS.STATUS.T2 b) := fun b => by
    by_cases hb : b < 8
    · rw [State.flag, hrd BUS.STATUS.T2 b 0 (by simp only [RF.addr, AX.PWM_CTRL.EN, BUS.STATUS.T2]; omega) nofun]; rfl
    · simp [hb]
  have hcar : u.carriedBy n = s.carriedBy n := by
    unfold State.carriedBy State.flag
    simp only [hpxb PXB.MAP.VALID (by decide) (by decide), hpxb PXB.MAP.AXIS (by decide) (by decide)]
  have hmem : u.pw n = s.pw n ∧ u.sx n = s.sx n ∧ u.pxbMoving n = s.pxbMoving n ∧ u.inAxisReset n = s.inAxisReset n := hu ▸ ⟨rfl, rfl, rfl, rfl⟩
  obtain ⟨hpw, hsx, hmove, hrst⟩ := hmem
  have hsto : u.axSto n = s.axSto n := by
    unfold State.axSto State.stoActive State.groupOfAxis State.rdBit
    rw [haxis AX.SAF_CFG.GROUP rfl (by decide), hone SAF.GROUP_STATE.LOW (by decide), hsx]
  unfold State.enRefused
  dsimp only
  rw [ht2, hpw, hsto, hcar, hmove, hrst]
  unfold State.flag State.rdBit
  rw [haxis AX.TRIP_STATUS.LATCH rfl (by decide), haxis AX.PWM_DLCAL.VALID rfl (by decide), haxis AX.BUS_CFG.SEG rfl (by decide),
    hone AGE.PFENCE_AX (by decide), hone PWR.STATE.STATE (by decide), hone PWR.STATE.BUSY (by decide)]

theorem State.enRefused_writeFields (s : State) (n : Fin 48) (v : Nat) :
    (s.writeFields (AX.PWM_CTRL.EN.addr n) v).1.enRefused n = s.enRefused n := by
  rcases s.writeFields_fst (AX.PWM_CTRL.EN.addr n) v with e | ⟨w, e⟩
  · rw [e]
  · rw [e, s.enRefused_setReg]

theorem pwmCtrl_plainField : ∀ n : Fin 48, plainField (AX.PWM_CTRL.EN.addr n) AX.PWM_CTRL.EN = true := by decide +kernel

/-- A write of AX.PWM_CTRL reads back the EN it holds. -/
theorem State.writeFields_axOn (s : State) (n : Fin 48) (v : Nat) : (s.writeFields (AX.PWM_CTRL.EN.addr n) v).1.axOn n = bit v 0 := by
  rw [State.axOn, State.flag, s.writeFields_rd_plain v (pwmCtrl_plainField n)]
  rcases Nat.mod_two_eq_zero_or_one v with h | h <;> simp [bit, bits, AX.PWM_CTRL.EN, h]

/-- The registers by the field rules, with EN as it was: the first half of a write of AX.PWM_CTRL. -/
def State.pwmCtrlKept (s : State) (n v : Nat) : State := (s.writeFields (AX.PWM_CTRL.EN.addr n) (setBit v 0 (s.axOn n))).1

section
variable (s : State) (n : Fin 48) (v : Nat)

theorem State.pwmCtrlKept_axOn : (s.pwmCtrlKept n v).axOn n = s.axOn n := by
  unfold State.pwmCtrlKept
  rw [s.writeFields_axOn]
  cases s.axOn n
  · exact bit_setBit_false v 0
  · exact bit_setBit_self v 0

/-- A write of EN = 1 to an axis that is off. -/
theorem State.fxPwmCtrl_enable (hoff : s.axOn n = false) (hv : bit v 0 = true) : (s.fxPwmCtrl n v).1 =
    if s.enRefused n then (s.pwmCtrlKept n v).raise AX.PWM_STATUS.EN_REFUSED n else ((s.pwmCtrlKept n v).axisOn n).obsEnable n := by
  have href := s.enRefused_writeFields n (setBit v 0 false)
  unfold State.fxPwmCtrl State.pwmCtrlKept State.raiseIf
  simp only [hoff, hv, Bool.false_and, Bool.false_eq_true, Bool.not_true, if_false, href]
  split <;> rfl

/-- A write of EN = 0 to an axis that runs. -/
theorem State.fxPwmCtrl_disable (hon : s.axOn n = true) (hv : bit v 0 = false) : ∃ u, (s.fxPwmCtrl n v).1 = State.axisOff u n 0 resAborted := by
  unfold State.fxPwmCtrl
  dsimp only
  rw [if_pos hon, if_neg]
  · exact ⟨_, rfl⟩
  · split
    · rw [bit_setBit_ne _ _ (by decide), hv]; decide
    · rw [hv]; decide

end

/-! ### EN clears (R71, R75, R110, R145) -/

section
variable (s : State) (n : Nat)

/-- What the end of a start or of a window leaves: EN, the boundaries and the short circuit, and the current loop. -/
def State.stopped (s : State) (n : Nat) : Bool × Option Nat × Nat × FocH := (s.axOn n, (s.pw n).nextB, (s.pw n).asc, s.fo n)

theorem State.windowDrop_stopped : (s.windowDrop n).stopped n = s.stopped n := by
  have hen : (s.windowDrop n).rd AX.PWM_CTRL.EN n = s.rd AX.PWM_CTRL.EN n := by
    unfold State.windowDrop
    split
    · rfl
    · exact State.rd_clear_of_beside _ _ (by decide)
  have hpw : (s.windowDrop n).pwms = s.pwms ∧ (s.windowDrop n).focs = s.focs := by
    unfold State.windowDrop
    split <;> simp
  simp only [State.stopped, State.axOn, State.flag, State.pw, State.fo, hen, hpw]
theorem State.cmtState_stopped (st : Nat) : (s.cmtState n st).stopped n = s.stopped n := by
  have hwr : (s.wr AX.CMT_STATUS.STATE st n).stopped n = s.stopped n := by
    simp [State.stopped, State.axOn, State.flag, State.pw, State.fo,
      State.rd_wr_of_beside _ _ _ (show AX.CMT_STATUS.STATE.beside AX.PWM_CTRL.EN = true by decide)]
  unfold State.cmtState
  dsimp only
  split
  · exact hwr
  · rw [← hwr]
    simp only [State.stopped, State.updPw_same]
    rfl
theorem State.startEnd_stopped (result : Nat) : (s.startEnd n result).stopped n = s.stopped n := by
  rw [← s.cmtState_stopped n 0]
  unfold State.startEnd
  generalize s.cmtState n 0 = u
  have hq : AX.PWM_CTRL.EN.quiet n 0 := ⟨notEvent_axes (by simp only [RF.addr, AX.PWM_CTRL.EN, axisBase]; omega), nofun⟩
  simp [State.stopped, State.axOn, State.flag, State.pw, State.fo, State.emit_rd _ _ _ _ _ _ _ hq,
    State.rd_wr_of_beside _ _ _ (show AX.CMT_STATUS.RESULT.beside AX.PWM_CTRL.EN = true by decide)]

theorem State.updFo_pw (f : FocH → FocH) (k : Nat) : (s.updFo n f).pw k = s.pw k := rfl

/-- A start in progress and its window end. -/
theorem State.startStop_stopped (result : Nat) : State.stopped (if (s.windowDrop n).rd AX.CMT_STATUS.STATE n = 0 then s.windowDrop n
    else (s.windowDrop n).startEnd n result) n = s.stopped n := by
  split
  · exact s.windowDrop_stopped n
  · rw [State.startEnd_stopped, State.windowDrop_stopped]

theorem State.axisOff_clears (result : Nat) : (s.axisOff n 0 result).axOn n = false ∧ ((s.axisOff n 0 result).pw n).nextB = none ∧
    ((s.axisOff n 0 result).pw n).asc = 0 ∧ ((s.axisOff n 0 result).fo n).step = none := by
  have e : (s.axisOff n 0 result).stopped n = _ := State.startStop_stopped _ n result
  simp only [State.stopped, Prod.mk.injEq] at e
  obtain ⟨hen, hnext, hasc, hfo⟩ := e
  rw [hen, hnext, hasc, hfo]
  refine ⟨State.flag_clear s AX.PWM_CTRL.EN n 0 (by decide), ?_, ?_, ?_⟩
  · rw [State.updFo_pw, State.updPw_same]
  · rw [State.updFo_pw, State.updPw_same]
  · rw [State.updFo_same]

end

/-! ### The shadow pair (R61 to R64) -/

theorem pwmDuty_lockFree : ∀ (n : Fin 48) (j : Fin 3), lockFree (AX.PWM_DUTY.D.addr n j) = true := by decide +kernel

/-- The check of the shadow pair reads PWM_PERIOD, PWM_DT and PWM_MINP (R62). -/
theorem State.pairOk_of_same {s t : State} {n : Nat}
    (h : ∀ g ∈ [AX.PWM_PERIOD.TOP, AX.PWM_DT.DT_HS, AX.PWM_DT.DT_LS, AX.PWM_MINP.MINP], t.rd g n = s.rd g n) : t.pairOk n = s.pairOk n := by
  unfold State.pairOk State.tHigh State.tLow
  simp [h]

/-- The state in which a pending commit is judged: the capture clock noted and the request taken. -/
def State.commitTaken (s : State) (n : Nat) : State :=
  (s.updPw n fun h => { h with capDone := true, interval := h.interval + 1 }).clear AX.PWM_STATUS.COMMIT_PEND n

section
variable (s : State) (n : Nat)

theorem State.commitTaken_rd {g : RF} (h : AX.PWM_STATUS.COMMIT_PEND.beside g = true) : (s.commitTaken n).rd g n = s.rd g n :=
  State.rd_clear_of_beside _ _ h
theorem State.commitTaken_pend : (s.commitTaken n).flag AX.PWM_STATUS.COMMIT_PEND n = false := State.flag_clear _ _ _ _ (by decide)
theorem State.commitTaken_pairOk : (s.commitTaken n).pairOk n = s.pairOk n :=
  State.pairOk_of_same fun g hg => s.commitTaken_rd n (by revert g; decide)
theorem State.commitTaken_pw : (s.commitTaken n).pw n = { s.pw n with capDone := true, interval := (s.pw n).interval + 1 } := by
  have e : (s.commitTaken n).pwms = (s.updPw n fun h => { h with capDone := true, interval := h.interval + 1 }).pwms := by
    simp [State.commitTaken]
  rw [State.pw, e]
  exact State.updPw_same _ _ _
theorem State.commitTaken_keeps : (s.commitTaken n).dtime = s.dtime ∧ (s.commitTaken n).recd = s.recd := by
  simp [State.commitTaken]
theorem State.commitTaken_onlyRegs : OnlyRegs s (s.commitTaken n) [AX.PWM_STATUS.COMMIT_PEND.addr n] :=
  onlyRegs_wr (onlyRegs_of_reg (onlyRegs_refl s _) fun _ => rfl) AX.PWM_STATUS.COMMIT_PEND 0 n 0 (by simp) nofun

end

/-- The shadow pair, with the tags it carried, is copied for the coming boundary (R61, R63). -/
def State.pairTaken (s : State) (n : Nat) (tags : List (Option Nat)) : State :=
  let top := s.rd AX.PWM_PERIOD.TOP n
  let bases := (List.range 3).map fun j => baseOf (s.rd AX.PWM_DUTY.D n j) (stepsOf top)
  (s.raiseIf (tagsMixed tags) AX.PWM_STATUS.PAIR_AGE n).updPw n fun h =>
    { h with cap := some (top, bases), capP := h.stepP, stepP := none, tags := [none, none, none, none] }
/-- The shadow pair is refused as a whole (R62). -/
def State.pairRefused (s : State) (n : Nat) : State :=
  (s.raise AX.PWM_STATUS.COMMIT_REFUSED n).emitMerge 0x0201 (srcAxis n) (le 4 (s.rd AX.PWM_PERIOD.TOP n))

section
variable (s : State) (n : Nat) (tags : List (Option Nat))

theorem State.pairTaken_pend : (s.pairTaken n tags).flag AX.PWM_STATUS.COMMIT_PEND n = s.flag AX.PWM_STATUS.COMMIT_PEND n :=
  congrArg (· != 0) (State.rd_raiseIf_of_beside _ _ _ (by decide))
theorem State.pairTaken_pw : ((s.pairTaken n tags).pw n).cap.map Prod.fst = some (s.rd AX.PWM_PERIOD.TOP n) ∧
    ((s.pairTaken n tags).pw n).capDone = (s.pw n).capDone := by
  have e : (s.raiseIf (tagsMixed tags) AX.PWM_STATUS.PAIR_AGE n).pw n = s.pw n := by simp [State.pw]
  unfold State.pairTaken
  rw [State.updPw_same, e]
  exact ⟨rfl, rfl⟩
theorem State.pairTaken_onlyRegs : OnlyRegs s (s.pairTaken n tags) [AX.PWM_STATUS.COMMIT_PEND.addr n] :=
  have hage : AX.PWM_STATUS.PAIR_AGE.addr n ∈ [AX.PWM_STATUS.COMMIT_PEND.addr n] := List.mem_singleton.mpr rfl
  onlyRegs_of_reg (onlyRegs_raiseIf (onlyRegs_refl s _) _ AX.PWM_STATUS.PAIR_AGE n 0 hage nofun) fun _ => rfl

theorem axisField_quiet {g : RF} (hg : axisBase ≤ g.base) : g.quiet n 0 :=
  ⟨notEvent_axes (by unfold RF.addr; omega), fun _ => notEvent_axes (by unfold RF.addr; omega)⟩
theorem State.pairRefused_pend : (s.pairRefused n).flag AX.PWM_STATUS.COMMIT_PEND n = s.flag AX.PWM_STATUS.COMMIT_PEND n := by
  rw [State.flag, State.pairRefused, State.emitMerge_rd _ _ _ _ _ _ _ (axisField_quiet n (by decide)), State.rd_raise_of_beside _ _ (by decide)]
  rfl
theorem State.pairRefused_refused : (s.pairRefused n).flag AX.PWM_STATUS.COMMIT_REFUSED n = true := by
  rw [State.flag, State.pairRefused, State.emitMerge_rd _ _ _ _ _ _ _ (axisField_quiet n (by decide))]
  exact State.flag_raise _ _ _ _ (by decide)
theorem State.pairRefused_pw : (s.pairRefused n).pw n = s.pw n := by
  simp [State.pairRefused, State.pw]
theorem State.pairRefused_noted (hr : Room s) : Noted (s.pairRefused n) 0x0201 (srcAxis n) s.dtime := by
  have hroom : Room (s.raise AX.PWM_STATUS.COMMIT_REFUSED n) := by simpa using hr
  unfold Noted State.pairRefused
  rw [State.emitMerge_queue _ _ _ _ hroom]
  exact ⟨_, (insertEvent_mem _ _ _).mpr (.inl rfl), rfl, rfl, by simp⟩

end

/-- A pending commit in the capture clock of an axis that runs. -/
theorem execPwmCapture_pending (s : State) (n : Fin 48) {b : Nat} (hb : (s.pw n).nextB = some b) (hc : (s.pw n).capDone = false)
    (hd : b ≤ s.dtime + 4) (hon : s.axOn n = true) (hp : s.flag AX.PWM_STATUS.COMMIT_PEND n = true) :
    execPwmCapture n s = .next (if s.pairOk n then (s.commitTaken n).pairTaken n (s.pw n).tags else (s.commitTaken n).pairRefused n) := by
  have hcap : ¬((s.pw n).capDone = true ∨ s.dtime + 4 < b ∨ s.axOn n = false) := by simp [hc, hon, hd]
  unfold execPwmCapture
  simp only [hb, if_neg hcap, State.updPw_rd, hp, Bool.not_true, Bool.false_eq_true, if_false]
  rw [← s.commitTaken_pairOk]
  show (if (s.commitTaken n).pairOk n then _ else _) = _
  split <;> rfl

/-- Settles O23: EN granted, refused and cleared, a duty written and turned away, a commit requested, and the two outcomes of the capture. -/
theorem axisAndShadowCommands : Obligations.AxisAndShadowCommands := by
  unfold Obligations.AxisAndShadowCommands
  refine ⟨?grant, ?refuse, ?disable, ?duty, ?dutyRefused, ?commit, ?capture, ?captureBad⟩
  case grant =>
    intro s m n v hm hoff href
    obtain ⟨h, -⟩ := State.busWriteWith_sameAxes (fx := fun s => s.fxPwmCtrl n (setBit v.toNat 0 true)) hm
    rw [s.fxPwmCtrl_enable n _ hoff (bit_setBit_self _ _), if_neg (by simp [href])] at h
    generalize s.pwmCtrlKept n _ = u at h
    obtain ⟨hasc, hnext⟩ := u.axisOn_pw n
    refine ⟨_, rfl, ?_, ?_, ?_, ?_, ?_, ?_⟩
    · exact (h.flag (by decide) _ _).trans ((congrArg (· != 0) (State.obsEnable_rd _ n (by decide))).trans (u.axisOn_en n))
    · exact (h.flag (by decide) _ _).trans ((congrArg (· != 0) (State.obsEnable_rd _ n (by decide))).trans (u.axisOn_commit n))
    · rw [h.pw, State.obsEnable_pw, hasc]
    · rw [h.pw, State.obsEnable_pw, hnext]
    · rw [h.rd (by decide), State.obsEnable_rd _ n (by decide), u.axisOn_carry]
    · rw [h.rd (by decide), State.obsEnable_rd _ n (by decide), u.axisOn_corr]
  case refuse =>
    intro s m n v hm hoff href
    obtain ⟨h, hreg⟩ := State.busWriteWith_sameAxes (fx := fun s => s.fxPwmCtrl n (setBit v.toNat 0 true)) hm
    have hfx := s.fxPwmCtrl_enable n _ hoff (bit_setBit_self v.toNat 0)
    rw [if_pos href] at hfx
    rw [hfx] at h hreg
    refine ⟨_, rfl, ?_, ?_, hreg.imp_left fun hreg => onlyRegs_of_reg ?_ hreg⟩
    · refine (h.flag (by decide) _ _).trans ((congrArg (· != 0) (State.rd_raise_of_beside _ _ (by decide))).trans ?_)
      exact (s.pwmCtrlKept_axOn n _).trans hoff
    · exact (h.flag (by decide) _ _).trans (State.flag_raise _ _ _ _ (by decide))
    · exact onlyRegs_raise (onlyRegs_mono (s.writeFields_onlyRegs _ _) (by simp)) AX.PWM_STATUS.EN_REFUSED n 0 (by simp) nofun
  case disable =>
    intro s m n v hm hon
    obtain ⟨h, -⟩ := State.busWriteWith_sameAxes (fx := fun s => s.fxPwmCtrl n (setBit v.toNat 0 false)) hm
    obtain ⟨u, hfx⟩ := s.fxPwmCtrl_disable n _ hon (bit_setBit_false v.toNat 0)
    rw [hfx] at h
    obtain ⟨hen, hnext, hasc, hstep⟩ := u.axisOff_clears n resAborted
    exact ⟨_, rfl, (h.flag (by decide) _ _).trans hen, by rw [h.pw, hnext], by rw [h.fo, hstep], by rw [h.pw, hasc]⟩
  case duty =>
    intro s m n j v hm hsrc ht
    have hfx : s.fxPwmDuty n j v.toNat = ((s.writeFields (AX.PWM_DUTY.D.addr n j) v.toNat).1.tagShadow n (j + 1), .ok) := by
      rw [State.fxPwmDuty, hsrc, ← s.writeFields_ok v.toNat (pwmDuty_lockFree n j)]
      rfl
    have hok : (s.fxPwmDuty n j v.toNat).2 = .ok := congrArg Prod.snd hfx
    obtain ⟨-, hreg, -⟩ := busWriteWith_registers (fx := fun s => s.fxPwmDuty n j v.toNat) hm hok
    obtain ⟨h, -⟩ := State.busWriteWith_sameAxes (fx := fun s => s.fxPwmDuty n j v.toNat) hm
    rw [hfx] at h
    rw [hfx] at hreg
    refine ⟨_, rfl, onlyRegs_of_reg (s.writeFields_onlyRegs _ _) hreg, ?_⟩
    rw [h.pw, State.tagShadow, State.updPw_same, State.writeFields_pw]
    have hj : j.val + 1 < (s.pw n).tags.length := by omega
    simp [hj]
  case dutyRefused =>
    intro s m n j v hm hsrc
    have hfx : s.fxPwmDuty n j v.toNat = (s.raise AX.PWM_STATUS.SH_REFUSED n, .ok) := if_pos hsrc
    obtain ⟨-, hreg, hrd⟩ := busWriteWith_registers (fx := fun s => s.fxPwmDuty n j v.toNat) hm (congrArg Prod.snd hfx)
    rw [hfx] at hreg hrd
    refine ⟨_, rfl, ?_, onlyRegs_of_reg (onlyRegs_raise (onlyRegs_refl s _) AX.PWM_STATUS.SH_REFUSED n 0 (by simp) nofun) hreg⟩
    exact (congrArg (· != 0) (hrd _ _ _)).trans (State.flag_raise _ _ _ _ (by decide))
  case commit =>
    intro s m n hm
    have hfx : s.fxPwmCommit n 1 = (s.raise AX.PWM_STATUS.COMMIT_PEND n, .ok) := rfl
    obtain ⟨herr, hreg, hrd⟩ := busWriteWith_registers (fx := fun s => s.fxPwmCommit n 1) hm (congrArg Prod.snd hfx)
    rw [hfx] at hreg hrd
    refine ⟨_, rfl, herr, ?_, onlyRegs_of_reg (onlyRegs_raise (onlyRegs_refl s _) AX.PWM_STATUS.COMMIT_PEND n 0 (by simp) nofun) hreg⟩
    exact (congrArg (· != 0) (hrd _ _ _)).trans (State.flag_raise _ _ _ _ (by decide))
  case capture =>
    intro s n b hb hc hd hon hp hok
    have hx := execPwmCapture_pending s n hb hc hd hon hp
    rw [if_pos hok] at hx
    obtain ⟨hcap, hdone⟩ := (s.commitTaken n).pairTaken_pw n (s.pw n).tags
    refine ⟨_, hx, (State.pairTaken_pend _ _ _).trans (s.commitTaken_pend n), ?_, ?_,
      onlyRegs_trans (s.commitTaken_onlyRegs n) (State.pairTaken_onlyRegs _ _ _)⟩
    · rw [hcap, s.commitTaken_rd n (by decide)]
    · rw [hdone, s.commitTaken_pw]
  case captureBad =>
    intro s n b hb hc hd hon hp hok hr
    have hx := execPwmCapture_pending s n hb hc hd hon hp
    rw [if_neg (by simp [hok])] at hx
    obtain ⟨hdt, hrecd⟩ := s.commitTaken_keeps n
    refine ⟨_, hx, (State.pairRefused_pend _ _).trans (s.commitTaken_pend n), State.pairRefused_refused _ _, ?_, ?_⟩
    · rw [State.pairRefused_pw, State.commitTaken_pw]
    · rw [← hdt]
      exact State.pairRefused_noted _ _ (by rw [Room, hrecd]; exact hr)

end Sys2Proof.Machine
end

section
/-!
SUPPORT. Three statements of the measurement front end that fail, each at one clause: O26, O29 and O32.
-/
namespace Sys2Proof.Machine
open Sys2Proof.Safety

/-! ### A flag set in the clock of its clearing (R13) -/

/-- A chopper fault of segment 0 that the hardware has set in this clock. -/
def chopFaultNow : State := State.reset.raise BUS.STATUS.CHOP_FAULT 0

theorem chopFaultNow_stays :
    (match execChopFaultClear 8 0 chopFaultNow with
      | .next t => t.flag BUS.STATUS.CHOP_FAULT 0
      | _ => false) = true := by decide +kernel

/-- Refutes O29, at the clause of the clearing: a write of 1 clears no flag that the hardware has set in the same clock, so CHOP_FAULT stays. -/
theorem not_busChopperCommands : ¬ Obligations.BusChopperCommands := by
  unfold Obligations.BusChopperCommands
  rintro ⟨-, -, -, -, -, hclear, -⟩
  obtain ⟨t, ht, hflag, -⟩ := hclear chopFaultNow 8 0 (by decide +kernel) (by decide +kernel) (by decide +kernel)
  have hx : execChopFaultClear 8 0 chopFaultNow = .next t := ht
  have hstays := chopFaultNow_stays
  rw [hx] at hstays
  exact absurd hflag (by simpa using hstays)

/-! ### A start noted outside a conversion (R101) -/

/-- An idle sequencer of a powered converter that still notes the start of a conversion. -/
def idleWithStart : State := { State.reset with hks := [(0, { start := some 0, awake := true })] }

/-- Refutes O32, at the clause of the urgent request: only a conversion in progress is aborted, so a start that an idle sequencer notes stays. -/
theorem not_housekeepingCommands : ¬ Obligations.HousekeepingCommands := by
  unfold Obligations.HousekeepingCommands
  rintro ⟨-, -, -, -, -, hurgent, -⟩
  obtain ⟨t, ht, -, -, hstart⟩ := hurgent idleWithStart 0 0 (by decide +kernel) (by decide +kernel) (by decide +kernel)
  obtain rfl : idleWithStart.hkUrgent 0 0 0 0 true = t := Host.Outcome.next.inj ht
  exact absurd hstart (by decide +kernel)

/-! ### A crossing that loses the position (R139, R329, R132) -/

/-- A window whose comparator went to the new level in clock 10 and stayed there. -/
def farWindow : WinH := { tClose := 100, isOpen := true, level0 := !(risingAt 0 true), fwd := true, changes := [(10, risingAt 0 true, false)] }
/-- Axis 0 runs, with an estimate a sixteenth of a revolution from the crossing; one rejected crossing loses the position, whose reaction is STO. -/
def lastRejection : State :=
  let s := { State.reset with dtime := 30, cmts := [(0, { win := some farWindow, theta := 2 ^ 20 })] }
  (((s.wr AX.PWM_CTRL.EN 1 0).wr SAF.FAULT_CFG.POS_LOST 1).wr AX.CMT_OFS.REJ_LIM 1 0).clear AX.CMT_CTRL.GATE 0

theorem lastRejection_drops :
    (match execCrossingQualified 0 0 (risingAt 0 true) 2 lastRejection with
      | .next t => (t.cm 0).win.isNone
      | _ => false) = true := by decide +kernel

/-- Refutes O26, at the clause of the crossing in a window: a crossing that is rejected may be the one that loses the position, and the STO that
follows ends the axis and drops the window, which then shows no crossing. -/
theorem not_windowCommands : ¬ Obligations.WindowCommands := by
  unfold Obligations.WindowCommands
  rintro ⟨-, -, -, -, -, -, -, -, -, hcross, -⟩
  obtain ⟨t, ht, -, -, hwin⟩ := hcross lastRejection 0 farWindow 2 (by decide +kernel) (by decide +kernel) (by decide +kernel) (by decide) (by decide)
    (by decide +kernel)
  have hx : execCrossingQualified 0 0 (risingAt 0 true) 2 lastRejection = .next t := ht
  have hdrops := lastRejection_drops
  rw [hx] at hdrops
  have hnone : (t.cm 0).win = none := by simpa using hdrops
  rw [show (t.cm (0 : Fin 48)).win = none from hnone] at hwin
  exact absurd hwin (by decide)

end Sys2Proof.Machine
end

section
/-!
SUPPORT. Vibration channels (R92, R95, R97, R102): what a sample and a restart leave, and the pair that a write of VIB_CFG ends; O31.
-/
namespace Sys2Proof.Machine
open Sys2Proof.Safety

/-! ### A granted register write -/

/-- A granted register write leaves the live state of the channels as its effect does. -/
theorem State.busWriteWith_vib {s : State} {m a : Nat} {sw : Bool} {fx : State → State × WErr} (h : MayWrite s m a sw) (hf : (fx s).2 = .ok)
    (c : Nat) : (s.busWriteWith m a sw fx).vib c = (fx s).1.vib c := by
  rw [State.busWriteWith_granted s m a sw fx h hf]
  simp [State.vib]

/-! ### Restarts (R95, R244) -/

section
variable (s : State) (c : Nat)

theorem State.babRestart_vibs : (s.babRestart c).vibs = s.vibs := by
  unfold State.babRestart State.babShow
  split <;> simp
theorem State.babRestart_onlyRegs : OnlyRegs s (s.babRestart c) [BAB.IN_STATUS.STATE.addr c] := by
  have hcnt : OnlyRegs s ((s.updBi c fun h => { h with wait := [], ring := [], top := none, paused := false, disc := false, marks := [] }).incWrap
      BAB.IN_STATUS.RESTART_CNT c) [BAB.IN_STATUS.STATE.addr c] :=
    onlyRegs_wr (onlyRegs_of_reg (onlyRegs_refl s _) fun _ => rfl) BAB.IN_STATUS.RESTART_CNT _ c 0 (List.mem_singleton.mpr rfl) nofun
  unfold State.babRestart State.babShow
  split <;> exact onlyRegs_wr hcnt BAB.IN_STATUS.STATE _ c 0 (List.mem_singleton.mpr rfl) nofun

/-- What a restart shows, before Babbitt's ring restarts with it. -/
def State.vibBegin (s : State) (c from_ : Nat) : State :=
  ((((s.updVib c fun h => { h with settleEnd := some (from_ + s.settleTicks c) }).raise MF.VIB_STATUS.SETTLING c).incWrap
    MF.VIB_STATUS.RESTART_CNT c).clear MF.VIB_STATUS.INTLV_LOCK c).updBi c fun h => { h with samples := [] }
theorem State.vibRestart_eq (from_ : Nat) :
    s.vibRestart c from_ = if (s.vibBegin c from_).babLive c then (s.vibBegin c from_).babRestart c else s.vibBegin c from_ := rfl

theorem State.vibBegin_onlyRegs (from_ : Nat) : OnlyRegs s (s.vibBegin c from_) [MF.VIB_STATUS.SETTLING.addr c] := by
  intro a ha
  have hoff : ∀ f : RF, f.addr c = MF.VIB_STATUS.SETTLING.addr c → f.hi ≠ 63 → f.off c 0 a := fun f hf h63 =>
    ⟨fun e => ha (by simp [e, hf]), fun e => absurd e h63⟩
  unfold State.vibBegin State.clear State.incWrap State.raise
  rw [State.updBi_reg, State.reg_wr_off _ _ _ _ _ _ (hoff MF.VIB_STATUS.INTLV_LOCK rfl (by decide)),
    State.reg_wr_off _ _ _ _ _ _ (hoff MF.VIB_STATUS.RESTART_CNT rfl (by decide)), State.noteSet_reg,
    State.reg_wr_off _ _ _ _ _ _ (hoff MF.VIB_STATUS.SETTLING rfl (by decide)), State.updVib_reg]
theorem State.vibRestart_onlyRegs (from_ : Nat) :
    OnlyRegs s (s.vibRestart c from_) [MF.VIB_STATUS.SETTLING.addr c, BAB.IN_STATUS.STATE.addr c] := by
  have hb := onlyRegs_mono (s.vibBegin_onlyRegs c from_) (l' := [MF.VIB_STATUS.SETTLING.addr c, BAB.IN_STATUS.STATE.addr c]) (by simp)
  rw [State.vibRestart_eq]
  split
  · exact onlyRegs_trans hb (onlyRegs_mono ((s.vibBegin c from_).babRestart_onlyRegs c) (by simp))
  · exact hb

theorem State.vibRestart_vibs (from_ : Nat) :
    (s.vibRestart c from_).vibs = (s.updVib c fun h => { h with settleEnd := some (from_ + s.settleTicks c) }).vibs := by
  rw [State.vibRestart_eq]
  unfold State.vibBegin
  split <;> simp [State.babRestart_vibs]
theorem State.vibRestart_vib (from_ : Nat) :
    (s.vibRestart c from_).vib c = { s.vib c with settleEnd := some (from_ + s.settleTicks c) } := by
  rw [State.vib, s.vibRestart_vibs c from_]
  exact State.updVib_same _ _ _
theorem State.vibRestart_vib_other (from_ : Nat) {x : Nat} (hx : x ≠ c) : (s.vibRestart c from_).vib x = s.vib x := by
  rw [State.vib, s.vibRestart_vibs c from_]
  exact State.updVib_other _ _ _ hx

/-- A field of a vibration channel's status lies in no register of Babbitt's inputs. -/
theorem State.vibRestart_status (from_ : Nat) {f : RF} (hb : f.base = MF.VIB_STATUS.SETTLING.base) (h1 : f.s1 = 0x10)
    (h63 : f.hi ≠ 63) : (s.vibRestart c from_).rd f c = (s.vibBegin c from_).rd f c := by
  rw [State.vibRestart_eq]
  split
  · refine onlyRegs_rd ((s.vibBegin c from_).babRestart_onlyRegs c) f c 0 ?_ fun h => absurd h h63
    simp only [List.mem_singleton, RF.addr, hb, h1, MF.VIB_STATUS.SETTLING, BAB.IN_STATUS.STATE]
    omega
  · rfl
/-- A restart shows SETTLING and counts itself (R95). -/
theorem State.vibRestart_settling (from_ : Nat) : (s.vibRestart c from_).flag MF.VIB_STATUS.SETTLING c = true := by
  rw [State.flag, s.vibRestart_status c from_ rfl rfl (by decide), State.vibBegin, (State.updBi_rd _ _ _ _ _ _).1,
    State.rd_clear_of_beside _ _ (by decide), State.rd_incWrap_of_beside _ _ (by decide), State.rd_raise _ _ _ _ (by decide)]
  rfl
theorem State.vibRestart_count (from_ : Nat) :
    (s.vibRestart c from_).rd MF.VIB_STATUS.RESTART_CNT c = (s.rd MF.VIB_STATUS.RESTART_CNT c + 1) % 2 ^ MF.VIB_STATUS.RESTART_CNT.width := by
  rw [s.vibRestart_status c from_ (f := MF.VIB_STATUS.RESTART_CNT) rfl rfl (by decide), State.vibBegin, (State.updBi_rd _ _ _ _ _ _).1,
    State.rd_clear_of_beside _ _ (by decide),
    State.incWrap, State.rd_wr_self _ _ _ _ _ (by decide) (by decide), State.rd_raise_of_beside _ _ (by decide)]
  rfl

/-- The end of a pair restarts at most its odd channel. -/
theorem State.vibUnpair_onlyRegs :
    OnlyRegs s (s.vibUnpair c) [MF.VIB_STATUS.SETTLING.addr (c + 1), BAB.IN_STATUS.STATE.addr (c + 1)] := by
  unfold State.vibUnpair
  split
  · exact onlyRegs_refl s _
  · exact s.vibRestart_onlyRegs (c + 1) _
theorem State.vibUnpair_vib : (s.vibUnpair c).vib c = s.vib c := by
  unfold State.vibUnpair
  split
  · rfl
  · exact s.vibRestart_vib_other (c + 1) _ (by omega)
/-- A field of channel `c` reads as before its pair ended. -/
theorem State.vibUnpair_rd {f : RF} (hf : 0x2000080200 ≤ f.base ∧ f.base < 0x2000080210) (h1 : f.s1 = 0x10) (h63 : f.hi ≠ 63) :
    (s.vibUnpair c).rd f c = s.rd f c := by
  refine onlyRegs_rd (s.vibUnpair_onlyRegs c) f c 0 ?_ fun h => absurd h h63
  simp only [List.mem_cons, List.not_mem_nil, or_false, RF.addr, h1, MF.VIB_STATUS.SETTLING, BAB.IN_STATUS.STATE]
  omega

end

/-! ### A write of VIB_CFG that powers a channel up (R95, R96, R102) -/

theorem vibCfg_takesAll : ∀ c : Fin 32, takesAll (MF.VIB_CFG.PD.addr c) MF.VIB_CFG.PD = true := by decide +kernel

/-- A channel whose PD clears wakes and restarts. -/
def State.vibPowerUp (s : State) (c : Nat) : State := (s.updVib c fun h => { h with wakeAt := some s.dtime }).vibRestart c (s.dtime + 640)

theorem State.vibOdd_of_cfg {s u : State} {c : Nat} (h : OnlyRegs s u [MF.VIB_CFG.PD.addr c]) : u.vibOdd c = s.vibOdd c := by
  unfold State.vibOdd
  rcases Nat.mod_two_eq_zero_or_one c with hc | hc
  · simp [hc]
  · rw [State.flag, onlyRegs_rd h MF.VIB_CFG.PAIR (c - 1) 0 ?_ nofun]
    · rfl
    · simp only [List.mem_singleton, RF.addr, MF.VIB_CFG.PAIR, MF.VIB_CFG.PD]
      omega

/-- The effect of a write that clears PD: the channel powers up, and a pair that the write ends lets its odd channel begin again. -/
theorem State.fxVibCfg_powerUp (s : State) (c : Fin 32) (v : Nat) (hpd : s.flag MF.VIB_CFG.PD c = true) (h0 : bit v 0 = false) (h3 : bit v 3 = false)
    (hodd : s.vibOdd c = false) : ∃ u, OnlyRegs s u [MF.VIB_CFG.PD.addr c] ∧ u.flag MF.VIB_CFG.PD c = false ∧ u.dtime = s.dtime ∧
      (s.fxVibCfg c v).2 = .ok ∧ ((s.fxVibCfg c v).1 = u.vibPowerUp c ∨ (s.fxVibCfg c v).1 = (u.vibPowerUp c).vibUnpair c) := by
  obtain ⟨hok, honly, hrd⟩ := s.writeFields_takesAll v (i := c) (j := 0) (vibCfg_takesAll c)
  have hdt : (s.writeFields (MF.VIB_CFG.PD.addr c) v).1.dtime = s.dtime := by
    rcases s.writeFields_fst (MF.VIB_CFG.PD.addr c) v with e | ⟨w, e⟩ <;> rw [e]
    rfl
  have hnew : (s.writeFields (MF.VIB_CFG.PD.addr c) v).1.flag MF.VIB_CFG.PD c = false := by
    have hv : v % 2 = 0 := by simpa [bit] using h0
    rw [State.flag, hrd]
    simp [bits, MF.VIB_CFG.PD, hv]
  refine ⟨_, honly, hnew, hdt, ?_⟩
  have hold : bit (s.reg (MF.VIB_CFG.PD.addr c)).toNat 0 = true := (s.flag_eq_bit MF.VIB_CFG.PD c (by decide)).symm.trans hpd
  rw [State.flag_eq_bit _ MF.VIB_CFG.PD c (by decide)] at hnew
  have ho := (State.vibOdd_of_cfg honly).trans hodd
  unfold State.fxVibCfg
  simp only [h3, Bool.and_false, Bool.false_eq_true, if_false, hold, hnew, Bool.not_false, Bool.and_self, if_true, ho, hok]
  refine ⟨trivial, ?_⟩
  split
  · exact .inr rfl
  · exact .inl rfl

/-- A channel that powers up settles, has counted a restart, and its wake is noted. -/
theorem State.vibPowerUp_shows (s : State) (c : Fin 32) : (s.vibPowerUp c).flag MF.VIB_STATUS.SETTLING c = true ∧
    (s.vibPowerUp c).rd MF.VIB_STATUS.RESTART_CNT c = (s.rd MF.VIB_STATUS.RESTART_CNT c + 1) % 2 ^ MF.VIB_STATUS.RESTART_CNT.width ∧
    ((s.vibPowerUp c).vib c).wakeAt = some s.dtime ∧ ((s.vibPowerUp c).vib c).settleEnd.isSome = true ∧
    (s.vibPowerUp c).flag MF.VIB_CFG.PD c = s.flag MF.VIB_CFG.PD c := by
  unfold State.vibPowerUp
  refine ⟨State.vibRestart_settling _ _ _, State.vibRestart_count _ _ _, ?_, ?_, ?_⟩
  · rw [State.vibRestart_vib, State.updVib_same]
  · rw [State.vibRestart_vib]
    rfl
  · rw [State.flag, onlyRegs_rd (State.vibRestart_onlyRegs _ _ _) MF.VIB_CFG.PD c 0 ?_ nofun]
    · rfl
    · simp only [List.mem_cons, List.not_mem_nil, or_false, RF.addr, MF.VIB_CFG.PD, MF.VIB_STATUS.SETTLING, BAB.IN_STATUS.STATE]
      omega

/-! ### Samples (R81, R92, R105) -/

theorem State.monAdd_mon (s : State) (k : Nat) (v : Int) (stamp : Nat) (ovr : Bool) :
    ((s.monAdd k v stamp ovr).mon k).now = ((s.mon k).before s.dtime).now ++ [(v, stamp, ovr)] := by
  rw [State.monAdd, State.mon, State.updMon, Tab.get_put_self]

/-- A value inside 24 bits saturates nowhere. -/
theorem satS24_of_absI {w : Int} (h : absI w < 2 ^ 23) : satS 24 w = w := by
  refine satS_of_mem ?_
  unfold absI at h
  split at h <;> omega

/-- Settles O31: a sample of an input that Babbitt has not enabled goes to its monitor set alone; a write that clears PD powers the channel up. -/
theorem vibrationCommands : Obligations.VibrationCommands := by
  unfold Obligations.VibrationCommands
  refine ⟨?sample, ?restart, ?settled, ?lock, ?loss⟩
  case sample =>
    intro s c stamp raw hpd hpair hodd hcal hset hst hdt hlive hlim
    generalize hw : Sys2Proof.Machine.correct raw (s.rdS MF.CAL_OFS.OFS 0 (8 + c)) (s.rdS MF.CAL_GAIN.GAIN 0 (8 + c)) = w at hlim ⊢
    have hsat := satS24_of_absI hlim
    have hx : execVibSample c stamp raw s = .next (s.monAdd (monVib c) w stamp false) := by
      unfold execVibSample
      dsimp only
      rw [if_neg (by simp [hpd, hodd, hcal, hset, hpair, hst, hdt])]
      simp only [hpair, Bool.false_and, Bool.false_eq_true, if_false, hw, hsat, ne_eq, not_true_eq_false, decide_false, State.raiseIf]
      rw [State.babSample, if_neg]
      have hoff : (s.monAdd (monVib c) w stamp false).babLive c = false := hlive
      simp [State.babRuns, hoff]
    exact ⟨_, hx, s.monAdd_mon _ _ _ _, rfl⟩
  case restart =>
    intro s m c v hm hpd h0 h3 hodd _
    obtain ⟨u, honly, hnew, hdt, hok, he⟩ := s.fxVibCfg_powerUp c v.toNat hpd h0 h3 hodd
    obtain ⟨-, -, hrd⟩ := busWriteWith_registers (fx := fun s => s.fxVibCfg c v.toNat) hm hok
    have hvib := State.busWriteWith_vib (fx := fun s => s.fxVibCfg c v.toNat) hm hok c
    obtain ⟨hset, hcnt, hwake, hend, hpd'⟩ := u.vibPowerUp_shows c
    have hfields : ∀ f : RF, 0x2000080200 ≤ f.base ∧ f.base < 0x2000080210 → f.s1 = 0x10 → f.hi ≠ 63 →
        (s.fxVibCfg c v.toNat).1.rd f c = (u.vibPowerUp c).rd f c := fun f hf h1 h63 => by
      rcases he with e | e <;> rw [e]
      exact State.vibUnpair_rd _ _ hf h1 h63
    have hlive : (s.fxVibCfg c v.toNat).1.vib c = (u.vibPowerUp c).vib c := by
      rcases he with e | e <;> rw [e]
      exact State.vibUnpair_vib _ _
    refine ⟨_, rfl, ?_, ?_, ?_, ?_, ?_⟩
    · rw [State.flag, hrd, hfields _ (by decide) rfl (by decide)]
      exact hpd'.trans hnew
    · rw [State.flag, hrd, hfields _ (by decide) rfl (by decide)]
      exact hset
    · rw [hrd, hfields _ (by decide) rfl (by decide), hcnt, onlyRegs_rd honly _ _ _ ?_ fun h => absurd h (by decide)]
      simp only [List.mem_singleton, RF.addr, MF.VIB_STATUS.RESTART_CNT, MF.VIB_CFG.PD]
      omega
    · rw [hvib, hlive, hwake, hdt]
    · rw [hvib, hlive, hend]
  case settled =>
    intro s c e he hd
    have hx : execVibSettled c s = .next ((s.updVib c fun h => { h with settleEnd := none }).clear MF.VIB_STATUS.SETTLING c) := by
      unfold execVibSettled
      simp only [he, if_pos hd]
    refine ⟨_, hx, State.flag_clear _ _ _ _ (by decide), ?_, ?_⟩
    · have hvib : ((s.updVib c fun h => { h with settleEnd := none }).clear MF.VIB_STATUS.SETTLING c).vib c =
          (s.updVib c fun h => { h with settleEnd := none }).vib c := by simp [State.vib]
      rw [hvib, State.updVib_same]
    · exact onlyRegs_wr (onlyRegs_of_reg (onlyRegs_refl s _) fun _ => rfl) MF.VIB_STATUS.SETTLING 0 c 0 (by simp) nofun
  case lock =>
    intro s c hp
    exact ⟨_, if_pos hp, State.flag_raise _ _ _ _ (by decide), onlyRegs_raise (onlyRegs_refl s _) MF.VIB_STATUS.INTLV_LOCK c 0 (by simp) nofun⟩
  case loss =>
    intro s c
    exact ⟨_, rfl, State.flag_clear _ _ _ _ (by decide), onlyRegs_wr (onlyRegs_refl s _) MF.VIB_STATUS.INTLV_LOCK 0 c 0 (by simp) nofun⟩

end Sys2Proof.Machine
end

section
/-!
SUPPORT. DC-bus segments: a sample that is shown, switches the chopper and leaves a segment without axes as it is beside (R89, R149, R151), the
thresholds' order (R148), and the energy account (R166); O30.
-/
namespace Sys2Proof.Machine
open Sys2Proof.Safety

/-! ### What the bus logic after the chopper leaves -/

/-- Two states agree in the registers of the axes, and in the voltage, the gate and the code of segment `b`. -/
structure BusSame (b : Nat) (s t : State) : Prop where
  reg : ∀ x, axisBase ≤ x → t.reg x = s.reg x
  vnow : t.rd BUS.VNOW.V b = s.rd BUS.VNOW.V b
  gate : t.rd BUS.STATUS.CHOP_ON b = s.rd BUS.STATUS.CHOP_ON b
  code : (t.sg b).code = (s.sg b).code

theorem BusSame.refl (b : Nat) (s : State) : BusSame b s s := ⟨fun _ _ => rfl, rfl, rfl, rfl⟩

/-- The axes of a segment are read from their own registers. -/
theorem State.segAxes_of_reg {s t : State} (h : ∀ x, axisBase ≤ x → t.reg x = s.reg x) (b : Nat) : t.segAxes b = s.segAxes b := by
  unfold State.segAxes
  congr 1
  funext n
  rw [State.rd_congr AX.BUS_CFG.SEG n 0 (h _ _) nofun]
  simp only [RF.addr, AX.BUS_CFG.SEG, axisBase]
  omega

section
variable {b : Nat} {s t : State} (h : BusSame b s t)
include h

theorem BusSame.segAxes (k : Nat) : t.segAxes k = s.segAxes k := State.segAxes_of_reg h.reg k

theorem BusSame.trans {u : State} (h' : BusSame b t u) : BusSame b s u :=
  ⟨fun x hx => (h'.reg x hx).trans (h.reg x hx), h'.vnow.trans h.vnow, h'.gate.trans h.gate, h'.code.trans h.code⟩

/-- A field of the segment beside its voltage and its gate. -/
theorem BusSame.wr (hb : b < 8) (f : RF) (v : Nat) (hv : f.beside BUS.VNOW.V = true := by decide)
    (hg : f.beside BUS.STATUS.CHOP_ON = true := by decide) (hlow : f.base + 9 * f.s1 + 4 < axisBase := by decide) : BusSame b s (t.wr f v b) where
  reg x hx := (t.wr_below_axes f v b (by omega) hlow hx).trans (h.reg x hx)
  vnow := (State.rd_wr_of_beside _ _ _ hv).trans h.vnow
  gate := (State.rd_wr_of_beside _ _ _ hg).trans h.gate
  code := by
    rw [State.sg, show (t.wr f v b).segs = t.segs by simp]
    exact h.code
theorem BusSame.raise (hb : b < 8) (f : RF) (hv : f.beside BUS.VNOW.V = true := by decide)
    (hg : f.beside BUS.STATUS.CHOP_ON = true := by decide) (hlow : f.base + 9 * f.s1 + 4 < axisBase := by decide) : BusSame b s (t.raise f b) :=
  have hw := h.wr hb f 1 hv hg hlow
  ⟨hw.reg, hw.vnow, hw.gate, hw.code⟩

/-- A register of the safety manager. -/
theorem BusSame.wr_saf (hb : b < 8) (f : RF) (v : Nat) (h1 : f.s1 = 0 := by rfl)
    (hf : 0x2000090900 < f.base ∧ f.base + 4 < axisBase := by decide) : BusSame b s (t.wr f v) := by
  have hoff : ∀ x, x < 0x2000090900 ∨ axisBase ≤ x → f.off 0 0 x := fun x hx => by
    simp only [RF.off, RF.addr, h1]
    omega
  have hrd : ∀ g : RF, g.s1 = 0x100 → g.hi ≠ 63 → g.base < 0x2000090100 → (t.wr f v).rd g b = t.rd g b := fun g hg1 hg63 hg =>
    State.rd_congr g b 0 (State.reg_wr_off _ _ _ _ _ _ (hoff _ (.inl (by simp only [RF.addr, hg1]; omega)))) fun e => absurd e hg63
  refine ⟨fun x hx => (State.reg_wr_off _ _ _ _ _ _ (hoff x (.inr hx))).trans (h.reg x hx), (hrd _ rfl (by decide) (by decide)).trans h.vnow,
    (hrd _ rfl (by decide) (by decide)).trans h.gate, ?_⟩
  rw [State.sg, show (t.wr f v).segs = t.segs by simp]
  exact h.code

theorem BusSame.emitAt (hb : b < 8) (at_ code source : Nat) (payload : List Nat) (merge : Bool) :
    BusSame b s (t.emitAt at_ code source payload merge) := by
  have hq : ∀ g : RF, g.s1 = 0x100 → g.hi ≠ 63 → g.base < 0x2000090100 → g.quiet b 0 := fun g h1 h63 hg =>
    ⟨by simp only [notEvent, RF.addr, h1, REC.EVT_TOTAL, REC.QUEUE.VALUE]; omega, fun e => absurd e h63⟩
  refine ⟨fun x hx => (State.emitAt_reg _ _ _ _ _ _ (notEvent_axes hx)).trans (h.reg x hx),
    (State.emitAt_rd _ _ _ _ _ _ _ _ _ (hq _ rfl (by decide) (by decide))).trans h.vnow,
    (State.emitAt_rd _ _ _ _ _ _ _ _ _ (hq _ rfl (by decide) (by decide))).trans h.gate, ?_⟩
  rw [State.sg, show (t.emitAt at_ code source payload merge).segs = t.segs by simp]
  exact h.code
theorem BusSame.emit (hb : b < 8) (code source : Nat) (payload : List Nat) : BusSame b s (t.emit code source payload) := h.emitAt hb _ _ _ _ _

/-- A change of the segment beside its registers that keeps its code. -/
theorem BusSame.updSg (f : SegH → SegH) (hf : ∀ x, (f x).code = x.code := by exact fun _ => rfl) : BusSame b s (t.updSg b f) where
  reg := h.reg
  vnow := h.vnow
  gate := h.gate
  code := by rw [State.sg, State.updSg, Tab.get_put_self, hf, h.code]

theorem BusSame.segCount : BusSame b s (t.segCount b) := by
  unfold State.segCount
  exact h.updSg _

end

/-! ### A fault on no axis (R329, R330) -/

/-- A fault without axes and groups is shown, and nothing reacts. -/
theorem State.fault_without_axes (s : State) (code unit r : Nat) :
    s.fault code unit r [] = s.faultShow { faultOf code unit r [] with at_ := s.dtime } := by
  have hn : axes.filter (fun n => [({ faultOf code unit r [] with at_ := s.dtime } : FaultH)].any fun f => f.axes.contains n) = [] := by
    simp [faultOf]
  unfold State.fault State.faultRaise State.faultTake
  simp only [hn]
  rfl
theorem BusSame.faultShow {b : Nat} {s t : State} (h : BusSame b s t) (hb : b < 8) (f : FaultH) : BusSame b s (t.faultShow f) := by
  have hflag : BusSame b s (t.raise SAF.STATUS.FAULT) :=
    have hw := h.wr_saf hb SAF.STATUS.FAULT 1
    ⟨hw.reg, hw.vnow, hw.gate, hw.code⟩
  exact ((((hflag.wr_saf hb SAF.FAULT_LAST.CODE _).wr_saf hb SAF.FAULT_LAST.AXIS _).wr_saf hb SAF.FAULT_LAST.UNIT _).wr_saf hb SAF.FAULT_TIME _).emit
    hb _ _ _
theorem BusSame.segEnded {b : Nat} {s t : State} (h : BusSame b s t) (k code : Nat) : BusSame b s (t.segEnded k code) := by
  refine State.forEach_invariant (BusSame b s) _ _ (fun u n _ hu => ?_) t h
  dsimp only
  split
  · split <;> exact ⟨hu.reg, hu.vnow, hu.gate, hu.code⟩
  · exact hu

/-! ### A sample of a segment without axes (R149, R151, R154, R155, R158, R162) -/

section
variable {b : Nat} {s t : State} (h : BusSame b s t) (hb : b < 8)
include h hb

theorem BusSame.uvRun (hax : s.segAxes b = []) (v : Nat) : BusSame b s (t.uvRun b v) := by
  unfold State.uvRun
  split
  · split
    · extract_lets u
      have hu : BusSame b s u := ((h.updSg _).raise hb BUS.STATUS.UV).emitAt hb _ _ _ _ _
      rw [State.segFault, (hu.segAxes b).trans hax, State.fault_without_axes, State.forEach, List.foldl_nil]
      exact hu.faultShow hb _
    · exact h
  · exact (h.updSg _).segEnded _ _

theorem BusSame.holdRun (u : Nat) : BusSame b s (t.holdRun b u) := by
  unfold State.holdRun
  extract_lets need t1 cond was t2 e li l t3
  have h1 : BusSame b s t1 := h.updSg _
  have h2 : BusSame b s t2 := by
    unfold t2
    split
    · exact ((h1.raise hb BUS.STATUS.HOLD).updSg _).emit hb _ _ _
    · exact h1
  have h3 : BusSame b s t3 := (h2.updSg _).wr hb BUS.HOLD_LIM.L_BUS _
  split
  · split
    · exact (h3.wr hb BUS.STATUS.HOLD 0).emit hb _ _ _
    · exact h3
  · exact h2.wr hb BUS.HOLD_LIM.L_BUS _

omit hb in
theorem BusSame.t2Reach (code : Nat) (cmp : Bool) : BusSame b s (t.t2Reach b code cmp) := by
  unfold State.t2Reach
  split
  · exact h
  · exact h.updSg _

end

/-! ### The gate goes high (R151) -/

/-- Where the chopper is available the gate is high after it has been turned on; the voltage, the code and the axes keep. -/
theorem State.gateOn_shows (s : State) {b : Nat} (hb : b < 8) (ha : s.chopUnavail b = false) :
    (s.gateOn b).flag BUS.STATUS.CHOP_ON b = true ∧ (s.gateOn b).rd BUS.VNOW.V b = s.rd BUS.VNOW.V b ∧
    ((s.gateOn b).sg b).code = (s.sg b).code ∧ (s.gateOn b).segAxes b = s.segAxes b := by
  unfold State.gateOn
  rw [ha]
  split
  case isTrue h => exact ⟨h.resolve_right (by decide), rfl, rfl, rfl⟩
  case isFalse =>
    extract_lets long t
    have hup : (s.raise BUS.STATUS.CHOP_ON b).flag BUS.STATUS.CHOP_ON b = true := State.flag_raise _ _ _ _ (by decide)
    have hv : (s.raise BUS.STATUS.CHOP_ON b).rd BUS.VNOW.V b = s.rd BUS.VNOW.V b := State.rd_raise_of_beside _ _ (by decide)
    have hax : (s.raise BUS.STATUS.CHOP_ON b).segAxes b = s.segAxes b :=
      State.segAxes_of_reg (fun x hx => s.wr_below_axes BUS.STATUS.CHOP_ON 1 b (by omega) (by decide) hx) b
    have ht : BusSame b (s.raise BUS.STATUS.CHOP_ON b) t := ((BusSame.refl b _).updSg _).segCount
    have he : ∀ u, BusSame b (s.raise BUS.STATUS.CHOP_ON b) u → u.flag BUS.STATUS.CHOP_ON b = true ∧ u.rd BUS.VNOW.V b = s.rd BUS.VNOW.V b ∧
        (u.sg b).code = (s.sg b).code ∧ u.segAxes b = s.segAxes b := fun u hu =>
      ⟨(congrArg (· != 0) hu.gate).trans hup, hu.vnow.trans hv, hu.code, (hu.segAxes b).trans hax⟩
    split
    · exact he _ (ht.emit hb _ _ _)
    · exact he _ (ht.emitAt hb _ _ _ _ _)

/-! ### A delivered sample (R89, R149) -/

/-- The state in which a sample that did not saturate is shown. -/
def State.dcbShow (s : State) (b v stamp : Nat) : State :=
  ((s.wr BUS.VNOW.V v b).monAdd (monDcb b) v stamp false).updSg b fun h => { h with sat := false }

theorem State.dcbShow_rd (s : State) (b v stamp : Nat) {f : RF} (h : BUS.VNOW.V.beside f = true) : (s.dcbShow b v stamp).rd f b = s.rd f b := by
  unfold State.dcbShow State.monAdd
  rw [(State.updSg_rd _ _ _ _ _ _).1, (State.updMon_rd _ _ _ _ _ _).1, State.rd_wr_of_beside _ _ _ h]
theorem State.dcbShow_vnow (s : State) {b v stamp : Nat} (hv : v < 65536) : (s.dcbShow b v stamp).rd BUS.VNOW.V b = v := by
  unfold State.dcbShow State.monAdd
  rw [(State.updSg_rd _ _ _ _ _ _).1, (State.updMon_rd _ _ _ _ _ _).1, State.rd_wr_self _ _ _ _ _ (by decide) (by decide)]
  exact Nat.mod_eq_of_lt hv
theorem State.dcbShow_segAxes (s : State) {b : Nat} (hb : b < 8) (v stamp : Nat) : (s.dcbShow b v stamp).segAxes b = s.segAxes b :=
  State.segAxes_of_reg (fun x hx => s.wr_below_axes BUS.VNOW.V v b (by omega) (by decide) hx) b

/-- The account changes no register, and notes the code. -/
theorem State.accRun_rd (s : State) (b u : Nat) (f : RF) (i j : Nat) : (s.accRun b u).rd f i j = s.rd f i j := rfl
theorem State.accRun_segAxes (s : State) (b u : Nat) : (s.accRun b u).segAxes b = s.segAxes b := State.segAxes_of_reg (fun _ _ => rfl) b
theorem State.accRun_code (s : State) (b u : Nat) : ((s.accRun b u).sg b).code = u := by
  unfold State.accRun
  rw [State.sg, State.updSg, Tab.get_put_self]
  dsimp only
  split <;> rfl

/-- A sample inside 0 to 65,535 of a segment without axes, at or above TH1_ON, of an available chopper. -/
theorem State.dcbSample_shows (s : State) {b v : Nat} (hb : b < 8) (stamp : Nat) (hv : v < 65536) (hax : s.segAxes b = [])
    (ha : s.chopUnavail b = false) {t : State}
    (ht : BusSame b (((s.dcbShow b v stamp).accRun b v).gateOn b) t) :
    t.rd BUS.VNOW.V b = v ∧ t.flag BUS.STATUS.CHOP_ON b = true ∧ (t.sg b).code = v ∧ t.segAxes b = [] := by
  have ha' : ((s.dcbShow b v stamp).accRun b v).chopUnavail b = false := by
    unfold State.chopUnavail State.flag at ha ⊢
    rw [State.accRun_rd, State.accRun_rd, s.dcbShow_rd b v stamp (by decide), s.dcbShow_rd b v stamp (by decide), ha]
  obtain ⟨hgate, hvnow, hcode, haxes⟩ := State.gateOn_shows _ hb ha'
  rw [State.accRun_rd, s.dcbShow_vnow hv] at hvnow
  rw [State.accRun_code] at hcode
  rw [State.accRun_segAxes, s.dcbShow_segAxes hb, hax] at haxes
  exact ⟨ht.vnow.trans hvnow, (congrArg (· != 0) ht.gate).trans hgate, ht.code.trans hcode, (ht.segAxes b).trans haxes⟩

/-- Such a sample is shown and accounted, and the gate goes high; what follows leaves that as it is. -/
theorem execDcbSampleDelivered_high (s : State) (b : Fin 8) (stamp v : Nat) (raw : Fin 65536) (hup : s.measUp = true) (hst : stamp % 320 = 0)
    (hle : stamp ≤ s.dtime) (hge : s.dtime ≤ stamp + 256) (hno : s.flag BUS.STATUS.NO_SAMPLE b = false)
    (hw : Sys2Proof.Machine.correct (raw.val : Int) (s.rdS MF.CAL_OFS.OFS 0 b) (s.rdS MF.CAL_GAIN.GAIN 0 b) = v) (hv : v < 65536)
    (hax : s.segAxes b = []) (hon : s.rd BUS.TH1.TH1_ON b ≤ v) (ha : s.chopUnavail b = false) :
    ∃ t, execDcbSampleDelivered b stamp raw s = .next t ∧ BusSame b (((s.dcbShow b v stamp).accRun b v).gateOn b) t := by
  have hclamp : clampI 0 65535 (v : Int) = v := by
    unfold clampI
    omega
  have hon' : ((s.dcbShow b v stamp).accRun b v).rd BUS.TH1.TH1_ON b ≤ v := by
    rw [State.accRun_rd, s.dcbShow_rd b v stamp (by decide)]
    exact hon
  have hgate : ((s.dcbShow b v stamp).accRun b v).chopRun b v false = ((s.dcbShow b v stamp).accRun b v).gateOn b := by
    unfold State.chopRun
    rw [if_neg (by decide), if_pos hon']
  have hidle : (!s.measUp || stamp % 320 != 0 || decide (s.dtime < stamp ∨ stamp + 256 < s.dtime)) = false := by
    simp only [hup, hst, Bool.or_eq_false_iff, decide_eq_false_iff_not]
    exact ⟨⟨rfl, rfl⟩, by omega⟩
  unfold execDcbSampleDelivered
  simp only [hidle, Bool.false_eq_true, if_false, hno, hw, hclamp, Int.toNat_natCast, ne_eq, not_true_eq_false, decide_false, State.raiseIf,
    Bool.or_self, Bool.not_false, Bool.true_and]
  refine ⟨_, rfl, ?_⟩
  rw [show ((s.wr BUS.VNOW.V v b).monAdd (monDcb b) v stamp false).updSg b (fun h => { h with sat := false }) = s.dcbShow b v stamp from rfl, hgate]
  generalize hu : ((s.dcbShow b v stamp).accRun b v).gateOn b = u
  have haxes : u.segAxes b = [] := by
    have h := s.dcbSample_shows b.isLt stamp hv hax ha (BusSame.refl b _)
    rw [hu] at h
    exact h.2.2.2
  have hhold : BusSame b u ((u.uvRun b v).holdRun b v) := ((BusSame.refl b u).uvRun b.isLt haxes v).holdRun b.isLt v
  have hlim : ((u.uvRun b v).holdRun b v).busLimits b v = (u.uvRun b v).holdRun b v := by
    unfold State.busLimits
    rw [(hhold.segAxes b).trans haxes]
    rfl
  rw [hlim]
  split
  · exact hhold.t2Reach _ _
  · exact hhold

/-! ### Thresholds (R148) -/

/-- The order of the thresholds is read from the segment's registers. -/
theorem State.thOrder_of_rd {s t : State} (h : ∀ g i j, t.rd g i j = s.rd g i j) (b : Nat) : t.thOrder b = s.thOrder b := by
  unfold State.thOrder
  simp only [h]

/-! ### The account (R166) -/

theorem accCtrl_lockFree : ∀ b : Fin 8, lockFree (BUS.ACC_CTRL.AUTO.addr b) = true := by decide +kernel

/-- A write of ACC_CTRL by the field rules, before a snapshot: the interval of AUTO restarts, and a clear waits. -/
def State.accWritten (s : State) (b v : Nat) : State :=
  (s.writeFields (BUS.ACC_CTRL.AUTO.addr b) v).1.updSg b fun h =>
    { h with autoRef := s.dtime, clear := h.clear || bit v 0 }
theorem State.fxAccCtrl_eq (s : State) (b : Fin 8) (v : Nat) :
    s.fxAccCtrl b v = (if bit v 1 then (s.accWritten b v).accSnap b else s.accWritten b v, .ok) := by
  rw [← s.writeFields_ok v (accCtrl_lockFree b)]
  rfl
theorem State.writeFields_segs_dtime (s : State) (a v : Nat) : (s.writeFields a v).1.segs = s.segs ∧ (s.writeFields a v).1.dtime = s.dtime := by
  rcases s.writeFields_fst a v with e | ⟨w, e⟩ <;> rw [e] <;> exact ⟨rfl, rfl⟩
theorem State.accWritten_sg (s : State) (b v : Nat) :
    (s.accWritten b v).sg b = { s.sg b with autoRef := s.dtime, clear := (s.sg b).clear || bit v 0 } := by
  obtain ⟨hsegs, -⟩ := s.writeFields_segs_dtime (BUS.ACC_CTRL.AUTO.addr b) v
  rw [State.accWritten, State.sg, State.updSg, Tab.get_put_self, State.sg, hsegs]
  rfl

section
variable (s : State) (b : Nat)

/-- The snapshot shows the six quantities and its time. -/
theorem State.accSnap_shows : (s.accSnap b).rd BUS.E b 0 = (s.sg b).eCapStart % 2 ^ 64 ∧ (s.accSnap b).rd BUS.E b 1 = (s.sg b).eCapNow % 2 ^ 64 ∧
    (s.accSnap b).rd BUS.E b 2 = (s.sg b).eMot % 2 ^ 64 ∧ (s.accSnap b).rd BUS.E b 3 = (s.sg b).eReg % 2 ^ 64 ∧
    (s.accSnap b).rd BUS.E b 4 = (s.sg b).eChop % 2 ^ 64 ∧ (s.accSnap b).rd BUS.E b 5 = (s.sg b).eSrc % 2 ^ 64 ∧
    (s.accSnap b).rd BUS.ACC_SNAP_TIME b = s.dtime % 2 ^ 64 := by
  have hE : ∀ (u : State) (v j k : Nat), j ≠ k → (u.wr BUS.E v b j).rd BUS.E b k = u.rd BUS.E b k := fun u v j k hjk =>
    State.rd_wr_apart _ _ _ _ _ _ _ _ (by simp only [RF.apart, RF.off, RF.addr, BUS.E]; omega)
  have hT : ∀ (u : State) (v k : Nat), k < 6 → (u.wr BUS.ACC_SNAP_TIME v b).rd BUS.E b k = u.rd BUS.E b k := fun u v k hk =>
    State.rd_wr_apart _ _ _ _ _ _ _ _ (by simp only [RF.apart, RF.off, RF.addr, BUS.E, BUS.ACC_SNAP_TIME]; omega)
  have hself : ∀ (u : State) (v j : Nat), (u.wr BUS.E v b j).rd BUS.E b j = v % 2 ^ 64 := fun u v j => State.rd_wr_pair _ _ _ _ _ rfl
  unfold State.accSnap
  simp (disch := decide) only [hT, hE, hself, State.rd_wr_pair, true_and]
  simp

end

/-- Settles O30: the sample by its stages, each of which leaves what those before it show; the writes by the field rules. -/
theorem busSampleCommands : Obligations.BusSampleCommands := by
  unfold Obligations.BusSampleCommands
  refine ⟨?sample, ?th, ?thBad, ?clear, ?snap, ?auto⟩
  case sample =>
    intro s b stamp raw
    dsimp only
    generalize hw : Sys2Proof.Machine.correct (raw.val : Int) (s.rdS MF.CAL_OFS.OFS 0 b) (s.rdS MF.CAL_GAIN.GAIN 0 b) = w
    intro hup hst hle hge hno hv hax hon ha
    have hrange : 0 ≤ w ∧ w ≤ 65535 := by
      rw [← hv]
      unfold clampI
      omega
    obtain ⟨v, rfl⟩ := Int.eq_ofNat_of_zero_le hrange.1
    rw [hv] at hon ⊢
    obtain ⟨t, hx, ht⟩ := execDcbSampleDelivered_high s b stamp v raw hup hst hle hge hno hw (by omega) hax (by omega) ha
    obtain ⟨hvnow, hgate, hcode, -⟩ := s.dcbSample_shows b.isLt stamp (by omega) hax ha ht
    exact ⟨t, hx, by rw [hvnow], hgate, by rw [hcode]⟩
  case th =>
    intro s m b v hm hord hok
    have hfx : s.fxBusTh b (BUS.UV.UV.addr b) v.toNat = s.writeFields (BUS.UV.UV.addr b) v.toNat := if_pos hord
    obtain ⟨herr, hreg, hrd⟩ := busWriteWith_registers (fx := fun s => s.fxBusTh b (BUS.UV.UV.addr b) v.toNat) hm (by rw [hfx]; exact hok)
    rw [hfx] at hreg hrd
    have haddr : BUS.TH1.TH1_ON.addr b + 4 * ((2 : Fin 3) : Nat) = BUS.UV.UV.addr b := by
      simp only [RF.addr, BUS.TH1.TH1_ON, BUS.UV.UV, Fin.val_two]
      omega
    have hx : execBusThWrite m b 2 v s = .next (s.busWriteWith m (BUS.UV.UV.addr b) false fun s => s.fxBusTh b (BUS.UV.UV.addr b) v.toNat) := by
      unfold execBusThWrite
      simp only [haddr]
    exact ⟨_, hx, (State.thOrder_of_rd hrd b).trans hord, herr, onlyRegs_of_reg (s.writeFields_onlyRegs _ _) hreg⟩
  case thBad =>
    intro s m b which v hm hord
    have hfx : s.fxBusTh b (BUS.TH1.TH1_ON.addr b + 4 * which) v.toNat = (s.raise BUS.STATUS.CFG_REFUSED b, .ok) := if_neg (by simp [hord])
    obtain ⟨-, hreg, hrd⟩ := busWriteWith_registers (fx := fun s => s.fxBusTh b (BUS.TH1.TH1_ON.addr b + 4 * which) v.toNat) hm
      (congrArg Prod.snd hfx)
    rw [hfx] at hreg hrd
    refine ⟨_, rfl, (congrArg (· != 0) (hrd _ _ _)).trans (State.flag_raise _ _ _ _ (by decide)), ?_⟩
    exact onlyRegs_of_reg (onlyRegs_raise (onlyRegs_refl s _) BUS.STATUS.CFG_REFUSED b 0 (by simp) nofun) hreg
  case clear =>
    intro s m b v hm h1
    have hfx := s.fxAccCtrl_eq b (setBit v.toNat 0 true)
    rw [bit_setBit_ne _ _ (by decide), h1, if_neg (by decide)] at hfx
    have hx := State.busWriteWith_granted s m _ false (fun s => s.fxAccCtrl b (setBit v.toNat 0 true)) hm (congrArg Prod.snd hfx)
    rw [hfx] at hx
    have hsg := s.accWritten_sg b (setBit v.toNat 0 true)
    have he : ∀ u : State, (u.noteDebug s m).okResp.sg b = u.sg b ∧ ∀ x, (u.noteDebug s m).okResp.reg x = u.reg x := fun u =>
      ⟨by simp [State.sg], fun x => by simp⟩
    refine ⟨_, congrArg Host.Outcome.next hx, ?_, ?_, ?_⟩
    · rw [(he _).1, hsg, bit_setBit_self, Bool.or_true]
    · rw [(he _).1, hsg]
    · exact onlyRegs_of_reg (onlyRegs_of_reg (s.writeFields_onlyRegs _ _) fun _ => rfl) (he _).2
  case snap =>
    intro s m b v hm
    have hfx := s.fxAccCtrl_eq b (setBit v.toNat 1 true)
    rw [bit_setBit_self, if_pos rfl] at hfx
    obtain ⟨-, -, hrd⟩ := busWriteWith_registers (fx := fun s => s.fxAccCtrl b (setBit v.toNat 1 true)) hm (congrArg Prod.snd hfx)
    obtain ⟨h0, h1, h2, -, -, h5, ht⟩ := (s.accWritten b (setBit v.toNat 1 true)).accSnap_shows b
    have hdt : (s.accWritten b (setBit v.toNat 1 true)).dtime = s.dtime := (s.writeFields_segs_dtime _ _).2
    rw [s.accWritten_sg] at h0 h1 h2 h5
    rw [hdt] at ht
    rw [hfx] at hrd
    exact ⟨_, rfl, (hrd _ _ _).trans h0, (hrd _ _ _).trans h1, (hrd _ _ _).trans h2, (hrd _ _ _).trans h5, (hrd _ _ _).trans ht⟩
  case auto =>
    intro s b hauto hdue
    obtain ⟨-, -, -, h3, h4, -, ht⟩ := s.accSnap_shows b
    refine ⟨_, if_pos ⟨hauto, hdue⟩, h3, h4, ht, ?_⟩
    rw [State.sg, State.updSg, Tab.get_put_self]

end Sys2Proof.Machine
end

section
/-!
SUPPORT. The registers of the measurement front end and of an axis's converters, with the calibration in progress: what timebases, slots, Babbitt, the
queues and the memories, a safe torque-off and a fault of one axis leave of them (R42, R71, R103, R311, R329).
-/
namespace Sys2Proof.Machine
open Sys2Proof.Safety

/-! ### The registers and what misses them -/

/-- `a` lies among the registers of the measurement front end, or at AX.ADC_HEALTH, AX.CAL_OFS or AX.CAL_GAIN of an axis. -/
def InFront (a : Nat) : Prop :=
  (0x2000080000 ≤ a ∧ a < 0x2000090000) ∨ (axisBase ≤ a ∧ a < 0x2010300000 ∧ 0x8C ≤ a % 0x10000 ∧ a % 0x10000 < 0xA8)
abbrev FrontReg : Type := { a : Nat // InFront a }
/-- One register of the front end, and the calibration in progress. -/
def State.front (s : State) (x : FrontReg) : Word × Option CalH := (s.reg x.1, s.cal)

/-- Neither `a` nor the second register of a pair at `a` lies there. -/
def MissesFront (a : Nat) : Prop := ¬InFront a ∧ ¬InFront (a + 4)
/-- The registers of a field up to instance `n` and index `m` lie on one side of the measurement front end and of the axes. -/
def RF.far (f : RF) (n m : Nat) : Bool :=
  decide (f.base + n * f.s1 + m * f.s2 + 4 < 0x2000080000) ||
    (decide (0x2000090000 ≤ f.base) && decide (f.base + n * f.s1 + m * f.s2 + 4 < axisBase))
/-- A field of an axis that is none of its converters'. -/
def RF.farOnAxis (f : RF) : Bool :=
  f.s1 == 0x10000 && decide (axisBase ≤ f.base) && (decide (f.base + 4 < axisBase + 0x8C) ||
    (decide (axisBase + 0xA8 ≤ f.base) && decide (f.base + 4 < axisBase + 0x10000)))
/-- A field that lies above the axes. -/
def RF.above (f : RF) : Bool := decide (0x2010300000 ≤ f.base)

section
variable {f : RF} {i j : Nat}

theorem missesFront_of_far {n m : Nat} (h : f.far n m = true) (hi : i ≤ n) (hj : j ≤ m) : MissesFront (f.addr i j) := by
  have h1 : i * f.s1 ≤ n * f.s1 := Nat.mul_le_mul_right _ hi
  have h2 : j * f.s2 ≤ m * f.s2 := Nat.mul_le_mul_right _ hj
  simp only [RF.far, Bool.or_eq_true, Bool.and_eq_true, decide_eq_true_eq] at h
  unfold MissesFront InFront RF.addr
  unfold axisBase at h ⊢
  omega
@[simp] theorem missesFront_one (h : f.far 0 0 = true) : MissesFront (f.addr 0 0) := missesFront_of_far h (le_refl 0) (le_refl 0)
theorem missesFront_unit (hi : i < 256) (h : f.far 255 0 = true) : MissesFront (f.addr i 0) :=
  missesFront_of_far h (Nat.le_of_lt_succ hi) (le_refl 0)
theorem missesFront_index (hj : j < 256) (h : f.far 0 255 = true) : MissesFront (f.addr 0 j) :=
  missesFront_of_far h (le_refl 0) (Nat.le_of_lt_succ hj)
@[simp] theorem missesFront_axis (h : f.farOnAxis = true) : MissesFront (f.addr i 0) := by
  simp only [RF.farOnAxis, Bool.or_eq_true, Bool.and_eq_true, decide_eq_true_eq, beq_iff_eq] at h
  obtain ⟨⟨h1, hlo⟩, h⟩ := h
  unfold MissesFront InFront RF.addr
  unfold axisBase at hlo h ⊢
  rw [h1]
  omega
@[simp] theorem missesFront_above (h : f.above = true) : MissesFront (f.addr i j) := by
  simp only [RF.above, decide_eq_true_eq] at h
  unfold MissesFront InFront RF.addr axisBase
  omega
end

/-! ### Writes of fields, and events -/

section
variable (s : State) (x : FrontReg)

theorem State.front_congr {s t : State} (hr : ∀ a, InFront a → t.reg a = s.reg a) (hc : t.cal = s.cal) : t.front x = s.front x := by
  rw [State.front, State.front, hr _ x.2, hc]
theorem State.setReg_front {a : Nat} (v : Word) (h : ¬InFront a) : (s.setReg a v).front x = s.front x :=
  State.front_congr x (fun _ hb => State.reg_setReg_ne _ _ fun e => h (e ▸ hb)) rfl

section
variable {f : RF} {i j : Nat} (h : MissesFront (f.addr i j))
include h
@[simp] theorem State.wr_front (v : Nat) : (s.wr f v i j).front x = s.front x := by
  unfold State.wr
  dsimp only
  split
  · rw [State.setReg_front _ _ _ h.2, State.setReg_front _ _ _ h.1]
  · exact State.setReg_front _ _ _ h.1
@[simp] theorem State.wrS_front (v : Int) : (s.wrS f v i j).front x = s.front x := s.wr_front x h _
@[simp] theorem State.raise_front : (s.raise f i j).front x = s.front x := s.wr_front x h 1
@[simp] theorem State.clear_front : (s.clear f i j).front x = s.front x := s.wr_front x h 0
@[simp] theorem State.incWrap_front (n : Nat) : (s.incWrap f i j n).front x = s.front x := s.wr_front x h _
@[simp] theorem State.incSat_front (n : Nat) : (s.incSat f i j n).front x = s.front x := s.wr_front x h _
@[simp] theorem State.raiseIf_front (c : Bool) : (s.raiseIf c f i j).front x = s.front x := by
  unfold State.raiseIf
  split
  · exact s.raise_front x h
  · rfl
@[simp] theorem State.put_front (b : Bool) : (s.put f b i j).front x = s.front x := by
  unfold State.put
  split
  · exact s.raise_front x h
  · exact s.clear_front x h
@[simp] theorem State.wrBit_front (b : Nat) (y : Bool) : (s.wrBit f b y i j).front x = s.front x := by
  unfold State.wrBit
  split <;> exact s.wr_front x h _
end

@[simp] theorem front_ite (c : Prop) [Decidable c] (a b : State) : (if c then a else b).front x = if c then a.front x else b.front x := by
  split <;> rfl
theorem State.forEach_front {α : Type} (l : List α) (f : State → α → State) (h : ∀ u : State, ∀ a ∈ l, (f u a).front x = u.front x) :
    (s.forEach l f).front x = s.front x :=
  State.forEach_invariant (fun u => u.front x = s.front x) l f (fun u a ha hu => (h u a ha).trans hu) s rfl
theorem State.times_front (n : Nat) (f : State → State) (h : ∀ u : State, (f u).front x = u.front x) : (s.times n f).front x = s.front x := by
  induction n generalizing s with
  | zero => rfl
  | succ n ih => exact (ih _).trans (h s)

@[simp] theorem State.emitAt_front (at_ code source : Nat) (payload : List Nat) (merge : Bool) :
    (s.emitAt at_ code source payload merge).front x = s.front x :=
  State.front_congr x (fun a ha => State.emitAt_reg _ _ _ _ _ _ (by
    simp only [InFront, axisBase] at ha
    simp only [notEvent, REC.EVT_TOTAL, REC.QUEUE.VALUE]
    omega)) (by simp)
@[simp] theorem State.emit_front (code source : Nat) (payload : List Nat) : (s.emit code source payload).front x = s.front x := s.emitAt_front x _ _ _ _ _
@[simp] theorem State.emitMerge_front (code source : Nat) (payload : List Nat) : (s.emitMerge code source payload).front x = s.front x :=
  s.emitAt_front x _ _ _ _ _

/-! ### State beside the registers -/

@[simp] theorem State.updTb_front (t : Nat) (f : TbH → TbH) : (s.updTb t f).front x = s.front x := rfl
@[simp] theorem State.updSlot_front (k : Nat) (f : SlotH → SlotH) : (s.updSlot k f).front x = s.front x := rfl
@[simp] theorem State.updBi_front (v : Nat) (f : BabInH → BabInH) : (s.updBi v f).front x = s.front x := rfl
@[simp] theorem State.updPw_front (n : Nat) (f : PwmH → PwmH) : (s.updPw n f).front x = s.front x := rfl
@[simp] theorem State.updFo_front (n : Nat) (f : FocH → FocH) : (s.updFo n f).front x = s.front x := rfl
@[simp] theorem State.updCm_front (n : Nat) (f : CmtH → CmtH) : (s.updCm n f).front x = s.front x := rfl
@[simp] theorem State.updSx_front (n : Nat) (f : SafAxH → SafAxH) : (s.updSx n f).front x = s.front x := rfl
@[simp] theorem State.tbNote_front (t stamp : Nat) (ang spd : Int) (live : Bool) : (s.tbNote t stamp ang spd live).front x = s.front x := rfl
@[simp] theorem State.vioNote_front (t : Nat) (h : VioH) : (s.vioNote t h).front x = s.front x := rfl
@[simp] theorem State.post_front (m a v : Nat) : (s.post m a v).front x = s.front x := rfl
@[simp] theorem State.raiseIrq_front (l : Nat) : (s.raiseIrq l).front x = s.front x := rfl
@[simp] theorem State.eccOver_front (a n : Nat) : (s.eccOver a n).front x = s.front x := rfl
@[simp] theorem State.stoOutputs_front : s.stoOutputs.front x = s.front x := rfl
@[simp] theorem State.writeMem_front (a : Nat) (l : List Nat) : (s.writeMem a l).front x = s.front x := by
  induction l generalizing s a with
  | nil => rfl
  | cons b t ih => exact ih (s.setByte a b) (a + 1)
@[simp] theorem State.linkSend_front (p t status addr : Nat) (payload : List Nat) : (s.linkSend p t status addr payload).front x = s.front x := by
  unfold State.linkSend
  dsimp only
  split
  · split <;> rfl
  · rfl
@[simp] theorem State.twinSend_front (t : Nat) (payload : List Nat) : (s.twinSend t payload).front x = s.front x := by
  unfold State.twinSend
  simp

end

/-! ### Memories, queues and the access tables (R212, R213, R283 to R286, R292) -/

theorem State.channelOf_lt (s : State) (a : Nat) : s.channelOf a < 256 := by
  unfold State.channelOf
  dsimp only
  generalize Config.chanHash _ _ % _ = k
  by_cases hk : k < ((List.range 16).filter fun k => s.rdBit MEM.STATUS.USABLE k).length
  · rw [List.getD_eq_getElem _ _ hk]
    have hm := List.mem_of_mem_filter (List.getElem_mem hk)
    have := List.mem_range.mp hm
    omega
  · rw [List.getD_eq_default _ _ (by omega)]
    decide
theorem nearestTarget_lt (a : Nat) : nearestTarget a < 256 := by
  have := nearestTarget_le a
  omega

section
variable (s : State) (x : FrontReg)

@[simp] theorem State.logViolation_front (m a n type_ : Nat) : (s.logViolation m a n type_).front x = s.front x := by
  unfold State.logViolation
  simp +decide [missesFront_unit (nearestTarget_lt a)]
@[simp] theorem State.memCe_front (a : Nat) : (s.memCe a).front x = s.front x := by
  unfold State.memCe
  split
  · simp +decide [missesFront_index (s.channelOf_lt a)]
  · split
    case isTrue ht =>
      have hm := fun h => missesFront_index (f := MEM.SRAM_CNT.CE) (lt_of_le_of_lt (Nat.sub_le _ 1) (lt_of_le_of_lt ht.2 (by decide))) h
      simp +decide [hm]
    case isFalse => rfl
  · rfl
@[simp] theorem State.chRetire_front (ch : Nat) : (s.chRetire ch).front x = s.front x := by
  simp +decide [State.chRetire]
@[simp] theorem State.memUe_front (m a src : Nat) : (s.memUe m a src).front x = s.front x := by
  have hch : MissesFront (MEM.CH_CNT.UE.addr 0 (s.channelOf a)) := missesFront_index (s.channelOf_lt a) (by decide)
  have hsr : MissesFront (MEM.SRAM_CNT.UE.addr 0 (nearestTarget a - 1)) :=
    missesFront_index (lt_of_le_of_lt (Nat.sub_le _ _) (nearestTarget_lt a)) (by decide)
  unfold State.memUe
  by_cases ht : nearestTarget a = 0
  · simp +decide [ht, hch]
  · simp +decide [ht, hsr]
@[simp] theorem State.eccFix_front (u : Nat) : (s.eccFix u).front x = s.front x := s.memCe_front x u
@[simp] theorem State.eccFind_front (m a src : Nat) (us : List Nat) : (s.eccFind m a src us).1.front x = s.front x := by
  have hf := s.forEach_front x ((us.takeWhile fun u => !(s.isUe u)).filter s.isCe) State.eccFix fun u a _ => u.eccFix_front x a
  unfold State.eccFind
  dsimp only
  split
  · rw [State.memUe_front, hf]
  · exact hf
@[simp] theorem State.memWrite_front (m a : Nat) (d : List Nat) : (s.memWrite m a d).1.front x = s.front x := by
  have hf := s.eccFind_front x m a ueRmw ((eccWords a d.length).filter fun u => decide (u < a ∨ a + d.length < u + eccSize u))
  unfold State.memWrite
  split
  next s' k he => rwa [he] at hf
  next s' he =>
    rw [he] at hf
    simpa using hf

@[simp] theorem State.qCredits_front (q : Nat) : (s.qCredits q).front x = s.front x := by
  simp +decide [State.qCredits]
@[simp] theorem State.qPosted1_front (q : Nat) : (s.qPosted1 q).front x = s.front x := by
  simp +decide [State.qPosted1]
@[simp] theorem State.qPutSw_front (m q : Nat) : (s.qPutSw m q).front x = s.front x := by
  simp [State.qPutSw]
@[simp] theorem State.qTake1_front (q : Nat) : (s.qTake1 q).front x = s.front x := by
  simp +decide [State.qTake1]
@[simp] theorem State.qRetireN_front (q n : Nat) : (s.qRetireN q n).front x = s.front x := by
  unfold State.qRetireN
  dsimp only
  rw [State.qCredits_front, State.incWrap_front _ _ (by simp +decide)]
  rfl
@[simp] theorem State.qOp_front (m q n cmd : Nat) : (s.qOp m q n cmd).front x = s.front x := by
  simp +decide [State.qOp, State.times_front]
theorem State.writeFields_front {a : Nat} (v : Nat) (h : ¬InFront a) : (s.writeFields a v).1.front x = s.front x := by
  rcases s.writeFields_fst a v with e | ⟨w, e⟩
  · rw [e]
  · rw [e, State.setReg_front _ _ _ h]
theorem State.writePlain_front {a : Nat} (v : Nat) (h : ¬InFront a) (h' : ¬InFront (a - 4)) : (s.writePlain a v).1.front x = s.front x := by
  unfold State.writePlain
  split
  · rfl
  · split
    · exact s.writeFields_front x v h
    · split <;> rfl
    · exact (State.writeFields_front _ x _ h).trans (s.writeFields_front x _ h')
/-- The registers of the queues and of the access tables. -/
theorem not_inFront_direct {a : Nat} (h : 0x2030000000 ≤ a ∨ (0x2000100000 ≤ a ∧ a < 0x20001A0000)) : ¬InFront a ∧ ¬InFront (a - 4) := by
  unfold InFront axisBase
  omega
@[simp] theorem State.fxQCfg_front (q v : Nat) : (s.fxQCfg q v).1.front x = s.front x := by
  have hq : ¬InFront (Q.CFG.EN.addr q 0) := (missesFront_above (f := Q.CFG.EN) (by decide)).1
  unfold State.fxQCfg
  split
  · simp +decide
  · split
    · simp +decide
    · simp +decide [State.writeFields_front _ _ _ hq]
@[simp] theorem State.fxQBaseHi_front (q v : Nat) : (s.fxQBaseHi q v).1.front x = s.front x := by
  have ha : 0x2030000000 ≤ Q.BASE.addr q + 4 := by
    simp only [RF.addr, Q.BASE]
    omega
  obtain ⟨h, h'⟩ := not_inFront_direct (.inl ha)
  unfold State.fxQBaseHi
  split
  · simp +decide
  · exact s.writePlain_front x v h h'
@[simp] theorem State.fxQOp_front (m q v : Nat) : (s.fxQOp m q v).1.front x = s.front x := s.qOp_front x _ _ _ _
@[simp] theorem State.regWrite_front (m a v : Nat) : (s.regWrite m a v).1.front x = s.front x := by
  unfold State.regWrite
  split
  case isTrue hq =>
    obtain ⟨h, h'⟩ := not_inFront_direct (.inl hq.1)
    dsimp only
    split
    · exact s.fxQCfg_front x _ _
    · exact s.fxQBaseHi_front x _ _
    · exact s.fxQOp_front x _ _ _
    · exact s.writePlain_front x v h h'
  case isFalse =>
    split
    · simp
    · split
      case isTrue hq =>
        obtain ⟨h, h'⟩ := not_inFront_direct (.inr hq)
        dsimp only
        split
        · unfold State.fxAtWin
          split
          · rfl
          · exact s.writeFields_front x v h
        · exact s.writePlain_front x v h h'
      case isFalse => rfl
@[simp] theorem State.writePiece_front (m a : Nat) (d : List Nat) : (s.writePiece m a d).1.front x = s.front x := by
  unfold State.writePiece
  split
  · simp
  · split <;> simp
@[simp] theorem State.writePieces_front (m : Nat) (d : List Nat) (ps : List (Nat × Nat)) : (s.writePieces m d ps).1.front x = s.front x := by
  induction ps generalizing s d with
  | nil => rfl
  | cons p t ih =>
    have e := s.writePiece_front x m p.1 (d.take p.2)
    rw [State.writePieces]
    split
    next s' l hp =>
      rw [hp] at e
      exact (ih _ _).trans e
    next s' r _ hp => rwa [hp] at e
@[simp] theorem State.masterWrite_front (m a : Nat) (d : List Nat) : (s.masterWrite m a d).1.front x = s.front x := s.writePieces_front x _ _ _

/-! ### Babbitt's inputs and the slots (R44 to R47, R241 to R244) -/

section
variable {v : Nat} (hv : v < 256)
include hv
theorem State.babShow_front : (s.babShow v).front x = s.front x := by
  have hm := missesFront_unit (f := BAB.IN_STATUS.STATE) hv (by decide)
  simp [State.babShow, hm]
theorem State.babRestart_front : (s.babRestart v).front x = s.front x := by
  have hm := missesFront_unit (f := BAB.IN_STATUS.RESTART_CNT) hv (by decide)
  simp [State.babRestart, State.babShow_front _ _ hv, hm]
theorem State.babResolve_front : (s.babResolve v).front x = s.front x := by
  have hm := missesFront_unit (f := BAB.IN_POS) hv (by decide)
  have hf : ∀ l, (s.forEach l fun s p => s.babStore v p).front x = s.front x := fun l =>
    s.forEach_front x l _ fun u p _ => u.masterWrite_front x _ _ _
  unfold State.babResolve
  extract_lets h newest tin rdy pts size t1 t2 t3
  have h2 : t2.front x = s.front x := hf pts
  have h3 : t3.front x = s.front x := by
    unfold t3
    split
    · rw [State.wrS_front _ _ hm, h2]
    · exact h2
  split
  · rfl
  · rw [State.babShow_front _ _ hv, h3]
theorem State.babInUpdate_front (t s0 : Nat) (a0 : Int) (s1 : Nat) (a1 : Int) (big : Bool) : (s.babInUpdate v t s0 a0 s1 a1 big).front x = s.front x := by
  have hm := missesFront_unit (f := BAB.IN_STATUS.ALIAS) hv (by decide)
  unfold State.babInUpdate
  dsimp only
  split
  · rfl
  · split
    · rfl
    · rw [State.babResolve_front _ _ hv, State.raiseIf_front _ _ hm, State.updBi_front]
end
@[simp] theorem State.babTbUpdate_front (t s0 : Nat) (a0 : Int) (s1 : Nat) (a1 : Int) (big : Bool) :
    (s.babTbUpdate t s0 a0 s1 a1 big).front x = s.front x :=
  s.forEach_front x _ _ fun u v hv => by
    have hv' : v < 256 := (List.mem_range.mp hv).trans (by decide)
    split
    · exact u.babInUpdate_front x hv' _ _ _ _ _ _
    · rfl
@[simp] theorem State.babTbLost_front (t : Nat) : (s.babTbLost t).front x = s.front x :=
  s.forEach_front x _ _ fun u v hv => by
    have hv' : v < 256 := (List.mem_range.mp hv).trans (by decide)
    split
    · exact u.babRestart_front x hv'
    · rfl

section
variable {k : Nat} (hk : k < 256)
include hk
theorem State.slotWait_front : (s.slotWait k).front x = s.front x := by
  simp +decide [State.slotWait, missesFront_unit hk]
theorem State.slotArm_front (c : Nat) (late : Bool) : (s.slotArm k c late).front x = s.front x := by
  simp +decide [State.slotArm, missesFront_unit hk]
theorem State.slotBacklog_front (c n : Nat) : (s.slotBacklog k c n).front x = s.front x := by
  simp [State.slotBacklog, State.slotArm_front _ _ hk]
theorem State.slotPredict_front (angle : Int) (stamp c : Nat) (prev : Option Int) : (s.slotPredict k angle stamp c prev).front x = s.front x := by
  unfold State.slotPredict
  split <;> simp [State.slotWait_front _ _ hk, State.slotArm_front _ _ hk, State.slotBacklog_front _ _ hk]
theorem State.slotTake_front (y : Nat) (angle : Int) (stamp c : Nat) (prev : Int) : (s.slotTake k y angle stamp c prev).front x = s.front x := by
  have hm := missesFront_unit (f := SCH.TARGET) hk (by decide)
  simp [State.slotTake, State.slotBacklog_front _ _ hk, State.slotPredict_front _ _ hk, hm]
end
@[simp] theorem State.slotsTbLost_front (t : Nat) : (s.slotsTbLost t).front x = s.front x :=
  s.forEach_front x _ _ fun u k hk => by
    split
    · exact u.slotWait_front x (List.mem_range.mp hk)
    · rfl
@[simp] theorem State.slotsTbUpdate_front (t : Nat) (prev : Int) : (s.slotsTbUpdate t prev).front x = s.front x :=
  s.forEach_front x _ _ fun u k hk => by
    have hk' := List.mem_range.mp hk
    dsimp only
    split
    · split
      · simp [State.slotTake_front _ _ hk']
      · simp [State.slotPredict_front _ _ hk']
    · rfl
@[simp] theorem State.slotsResid_front (t : Nat) : (s.slotsResid t).front x = s.front x :=
  s.forEach_front x _ _ fun u k hk => by
    dsimp only
    split
    · rfl
    · simp +decide [missesFront_unit (List.mem_range.mp hk)]

/-! ### Timebases (R39 to R43) -/

section
variable {t : Nat} (ht : t < 64)
include ht
theorem missesFront_tb {f : RF} (h : f.far 255 0 = true) : MissesFront (f.addr t 0) := missesFront_unit (by omega) h
theorem State.tbSetState_front (new : Nat) (event : Bool) : (s.tbSetState t new event).front x = s.front x := by
  simp +decide [State.tbSetState, missesFront_tb ht]
theorem State.tbWrite_front (ang spd : Int) (stamp : Nat) (corr : Bool) : (s.tbWrite t ang spd stamp corr).front x = s.front x := by
  simp +decide [State.tbWrite, missesFront_tb ht]
theorem State.tbFreeze_front : (s.tbFreeze t).front x = s.front x := by
  simp +decide [State.tbFreeze, missesFront_tb ht]
theorem State.tbTake_front : (s.tbTake t).1.front x = s.front x := by
  unfold State.tbTake
  dsimp only
  split
  · rfl
  · exact s.tbWrite_front x ht _ _ _ _
end
theorem State.tbInherit_front (f t : Nat) : (s.tbInherit f t).front x = s.front x := by
  induction f generalizing s t with
  | zero => rfl
  | succ f ih =>
    refine s.forEach_front x _ _ fun u y hy => ?_
    have htake := u.tbTake_front x (List.mem_range.mp (List.mem_of_mem_filter hy))
    dsimp only
    split
    · rw [ih, htake]
    · exact htake
section
variable {t : Nat} (ht : t < 64)
include ht
theorem State.tbEnterLost_front : (s.tbEnterLost t).front x = s.front x := by
  simp [State.tbEnterLost, State.tbInherit_front, State.tbSetState_front _ _ ht, State.tbFreeze_front _ _ ht]
theorem State.tbEnterHold_front : (s.tbEnterHold t).front x = s.front x := by
  simp [State.tbEnterHold, State.tbInherit_front, State.tbEnterLost_front _ _ ht, State.tbSetState_front _ _ ht]
theorem State.tbAxisLost_front : (s.tbAxisLost t).front x = s.front x := by
  simp [State.tbAxisLost, State.tbPrimaryFails, State.tbInherit_front, State.tbEnterHold_front _ _ ht, State.tbSetState_front _ _ ht]
end

/-! ### An axis off, in STO, and a fault on it (R71, R311, R318, R329) -/

@[simp] theorem State.cmtState_front (n st : Nat) : (s.cmtState n st).front x = s.front x := by
  simp +decide [State.cmtState]
@[simp] theorem State.startEnd_front (n result : Nat) : (s.startEnd n result).front x = s.front x := by
  simp +decide [State.startEnd]
@[simp] theorem State.windowDrop_front (n : Nat) : (s.windowDrop n).front x = s.front x := by
  unfold State.windowDrop
  split
  · rfl
  · simp +decide
@[simp] theorem State.axisOff_front (n asc result : Nat) : (s.axisOff n asc result).front x = s.front x := by
  simp +decide [State.axisOff]

theorem State.axisSto_front {n : Nat} (hn : n < 64) : (s.axisSto n).front x = s.front x := by
  simp +decide [State.axisSto, State.tbAxisLost_front _ _ hn]
theorem axes_lt {n : Nat} (h : n ∈ axes) : n < 64 := (List.mem_range.mp h).trans (by decide)
theorem State.axesSto_front (g : Nat) : (s.forEach (s.axesOf g) fun s n => s.axisSto n).front x = s.front x :=
  s.forEach_front x _ _ fun u _ hn => u.axisSto_front x (axes_lt (List.mem_of_mem_filter hn))
theorem State.stoSet_front (code : Nat) (gs : List Nat) : (s.stoSet code gs).front x = s.front x := by
  unfold State.stoSet
  extract_lets new t1 t2
  have h1 : t1.front x = s.front x := by simp [t1]
  have h2 : t2.front x = t1.front x := t1.forEach_front x _ _ fun u g _ => by
    dsimp only
    rw [State.axesSto_front]
    simp +decide
  rw [State.stoOutputs_front, h2, h1]
theorem State.stoEval_front (code : Nat) : (s.stoEval code).front x = s.front x := by
  unfold State.stoEval
  dsimp only
  rw [State.stoSet_front]
  refine s.forEach_front x _ _ fun u n hn => ?_
  split
  · exact u.axisSto_front x (axes_lt hn)
  · rfl
theorem State.ss1Start_front {n : Nat} (hn : n < 64) (code : Nat) : (s.ss1Start n code).front x = s.front x := by
  simp +decide [State.ss1Start, State.axStoReq, State.stoSet_front, State.axisSto_front _ _ hn]
theorem State.react_front {n : Nat} (hn : n < 64) (code r : Nat) : (s.react n code r).front x = s.front x := by
  simp +decide [State.react, State.ss1Start_front _ _ hn, State.stoEval_front]
@[simp] theorem State.faultShow_front (f : FaultH) : (s.faultShow f).front x = s.front x := by
  simp +decide [State.faultShow]
theorem State.faultTake_front (fs : List FaultH) : (s.faultTake fs).front x = s.front x := by
  unfold State.faultTake
  extract_lets t1 t2
  have h1 : t1.front x = s.front x := s.forEach_front x _ _ fun u f _ => u.faultShow_front x f
  have h2 : t2.front x = t1.front x := t1.forEach_front x _ _ fun u n hn => by
    dsimp only
    rw [State.react_front _ _ (axes_lt (List.mem_of_mem_filter hn)), State.updSx_front]
  rw [State.forEach_front _ _ _ _ fun u f _ => u.stoSet_front x f.code f.groups, h2, h1]
/-- A fault leaves the front end and the calibration in progress. -/
@[simp] theorem State.faultRaise_front (f : FaultH) : (s.faultRaise f).front x = s.front x := s.faultTake_front x _

end

end Sys2Proof.Machine
end

section
/-!
SUPPORT. Monitor sets (R105, R106): what a snapshot shows, and the effect of a write of MON.CTRL.
-/
namespace Sys2Proof.Machine
open Sys2Proof.Safety

/-- The registers of monitor set `k` show `x`, copied at `now`, and the set begins anew with the samples of that clock (R106). -/
def MonShows (t : State) (k now : Nat) (x : MonH) : Prop :=
  t.rd MON.CNT.CNT (monBase k) = x.cnt % 2 ^ 32 ∧ t.rd MON.ACC (monBase k) = ofS 64 x.acc ∧ t.rd MON.MIN.MIN (monBase k) = ofS 32 x.mn ∧
  t.rd MON.MAX.MAX (monBase k) = ofS 32 x.mx ∧ t.rd MON.MIN_TIME (monBase k) = x.mnT % 2 ^ 64 ∧ t.rd MON.MAX_TIME (monBase k) = x.mxT % 2 ^ 64 ∧
  t.rd MON.SNAP_TIME (monBase k) = now % 2 ^ 64 ∧ t.flag MON.STATUS.CNT_SAT (monBase k) = decide (0xFFFFFFFF ≤ x.cnt) ∧
  t.rd MON.STATUS.OVR_CNT (monBase k) = x.ovr % 2 ^ 16 ∧ t.mon k = { ref := now, snapped := true, now := x.now, nowAt := now }

theorem State.rd_wrS_self (s : State) (f : RF) (v : Int) (i : Nat) (h : f.hi < 32) (hl : f.lo ≤ f.hi + 1) :
    (s.wrS f v i).rd f i = ofS f.width v :=
  (State.rd_wr_self s f _ i 0 h hl).trans (Nat.mod_eq_of_lt (ofS_lt _ _))
theorem State.rd_wrS_pair (s : State) (f : RF) (v : Int) (i : Nat) (h : f.hi = 63 ∧ f.lo = 0) : (s.wrS f v i).rd f i = ofS 64 v := by
  have hw : f.width = 64 := by
    rw [RF.width, h.1, h.2]
  rw [State.wrS, hw, State.rd_wr_pair _ _ _ _ _ h.1, Nat.mod_eq_of_lt (ofS_lt _ _)]
section
variable (s : State) {f g : RF} (b : Bool) (i : Nat)

theorem State.rd_put_of_beside (h : f.beside g = true) : (s.put f b i).rd g i = s.rd g i := by
  unfold State.put
  split
  · exact s.rd_raise_of_beside i h
  · exact s.rd_clear_of_beside i h
theorem State.flag_put (j : Nat) (h : f.oneBit) : (s.put f b i j).flag f i j = b := by
  unfold State.put
  split
  case isTrue hb => rw [State.flag_raise _ _ _ _ h, hb]
  case isFalse hb => rw [State.flag_clear _ _ _ _ h, Bool.eq_false_of_not_eq_true hb]
end

/-- A snapshot shows the set as it was at the beginning of the clock. -/
theorem State.monSnap_shows (s : State) (k : Nat) : MonShows (s.monSnap k) k s.dtime ((s.mon k).before s.dtime) := by
  unfold State.monSnap
  refine ⟨?cnt, ?acc, ?mn, ?mx, ?mnT, ?mxT, ?time, ?sat, ?ovr, ?live⟩
  case live =>
    dsimp only
    rw [State.mon, State.updMon, Tab.get_put_self]
    simp
  all_goals
    simp (disch := decide) only [State.flag, (State.updMon_rd _ _ _ _ _ _).1, State.rd_wr_of_beside, State.rd_wrS_of_beside,
      State.rd_put_of_beside, State.rd_wr_self, State.rd_wr_pair, State.rd_wrS_self, State.rd_wrS_pair]
  case sat => exact State.flag_put _ _ _ _ (by decide)
  case time => simp
  all_goals rfl

/-! ### A write of MON.CTRL -/

theorem monCtrl_lockFree : ∀ k : Fin 424, lockFree (MON.CTRL.SNAP.addr (monBase k)) = true := by decide +kernel

/-- The interval's reference does not enter the quantities. -/
theorem MonH.foldl_one_ref (l : List (Int × Nat × Bool)) (h : MonH) (r : Nat) :
    l.foldl MonH.one { h with ref := r } = { l.foldl MonH.one h with ref := r } := by
  induction l generalizing h with
  | nil => rfl
  | cons x l ih => exact ih (h.one x)
theorem MonH.before_ref (h : MonH) (r t : Nat) : MonH.before { h with ref := r } t = { h.before t with ref := r } := by
  unfold MonH.before
  split
  · rfl
  · rw [MonH.all, MonH.foldl_one_ref, MonH.all]

/-- The state a snapshot by a write of MON.CTRL begins in: the clock, and the set but for its interval's reference. -/
theorem State.fxMonCtrl_snap (s : State) (k : Fin 424) {v : Nat} (hv : bit v 0 = true) : ∃ (u : State) (r : Nat),
    u.dtime = s.dtime ∧ u.mon k = { s.mon k with ref := r } ∧ s.fxMonCtrl k v = (u.monSnap k, .ok) := by
  obtain ⟨w, hw, hdt, hmon⟩ : ∃ w, (s.writeFields (MON.CTRL.SNAP.addr (monBase k)) v).1 = w ∧ w.dtime = s.dtime ∧ w.mon k = s.mon k := by
    rcases s.writeFields_fst (MON.CTRL.SNAP.addr (monBase k)) v with e | ⟨x, e⟩ <;> exact ⟨_, e, rfl, rfl⟩
  unfold State.fxMonCtrl
  dsimp only
  rw [s.writeFields_ok v (monCtrl_lockFree k), hw, if_pos hv]
  split
  · exact ⟨w, (s.mon k).ref, hdt, hmon, rfl⟩
  · refine ⟨w.updMon k fun h => { h with ref := w.dtime }, w.dtime, hdt, ?_, rfl⟩
    rw [State.mon, State.updMon, Tab.get_put_self, hmon]

/-- A granted write of MON.CTRL with SNAP set shows the set. -/
theorem State.monSnapWrite_shows (s : State) (m : Fin 64) (k : Fin 424) (v : Nat)
    (h : MayWrite s m (MON.CTRL.SNAP.addr (monBase k)) false) :
    MonShows (s.busWriteWith m (MON.CTRL.SNAP.addr (monBase k)) false fun s => s.fxMonCtrl k (setBit v 0 true)) k s.dtime
      ((s.mon k).before s.dtime) := by
  obtain ⟨u, r, hdt, hmon, hfx⟩ := s.fxMonCtrl_snap k (v := setBit v 0 true) (bit_setBit_self _ _)
  have hx := State.busWriteWith_granted s m _ false (fun s => s.fxMonCtrl k (setBit v 0 true)) h (congrArg Prod.snd hfx)
  rw [hfx] at hx
  have hshow := u.monSnap_shows k
  rw [hdt, hmon, MonH.before_ref] at hshow
  rw [hx]
  simpa [MonShows, State.mon, State.flag] using hshow

end Sys2Proof.Machine
end

section
/-!
SUPPORT. A write of MF.CAL_CMD (R103): the classes it selects, and what the skips of a start leave.
-/
namespace Sys2Proof.Machine
open Sys2Proof.Safety

/-! ### The register MF.CAL_CMD -/

theorem calCmd_takesAll : takesAll MF.CAL_CMD.START.base MF.CAL_CMD.CUR = true ∧ takesAll MF.CAL_CMD.START.base MF.CAL_CMD.DCB = true ∧
    takesAll MF.CAL_CMD.START.base MF.CAL_CMD.VIB = true ∧ takesAll MF.CAL_CMD.START.base MF.CAL_CMD.HK = true := by decide +kernel

theorem bits_four_one (n : Nat) : bits n 4 1 = bits n 1 1 + 2 * bits n 2 2 + 4 * bits n 3 3 + 8 * bits n 4 4 := by
  simp only [bits]
  omega
theorem bit_bits_four_one (n : Nat) : bit (bits n 4 1) 0 = bit n 1 ∧ bit (bits n 4 1) 1 = bit n 2 := by
  simp only [bit, bits]
  constructor <;> congr 1 <;> omega
/-- The four class bits of MF.CAL_CMD take the value written. -/
theorem State.writeFields_calCmd (s : State) (v : Nat) :
    bits ((s.writeFields MF.CAL_CMD.START.base (setBit v 0 true)).1.reg MF.CAL_CMD.START.base).toNat 4 1 = bits v 4 1 := by
  obtain ⟨h1, h2, h3, h4⟩ := calCmd_takesAll
  have hset : ∀ k, 0 < k → bits (setBit v 0 true) k k = bits v k k := fun k hk => bits_setBits_beside (le_refl 0) (.inr hk)
  generalize hw : (s.writeFields MF.CAL_CMD.START.base (setBit v 0 true)).1.reg MF.CAL_CMD.START.base = w
  have hb : ∀ g : RF, g.addr 0 0 = MF.CAL_CMD.START.base → g.hi = g.lo → 0 < g.lo → g.lo < 32 → takesAll (g.addr 0 0) g = true →
      bits w.toNat g.lo g.lo = bits v g.lo g.lo := fun g ha hg h0 h32 ht => by
    have h := (s.writeFields_takesAll (setBit v 0 true) ht).2.2
    rw [State.rd, if_neg (by omega), ha, hw, hg, hset _ h0] at h
    exact h
  have e1 : bits w.toNat 1 1 = bits v 1 1 := hb MF.CAL_CMD.CUR rfl rfl (by decide) (by decide) h1
  have e2 : bits w.toNat 2 2 = bits v 2 2 := hb MF.CAL_CMD.DCB rfl rfl (by decide) (by decide) h2
  have e3 : bits w.toNat 3 3 = bits v 3 3 := hb MF.CAL_CMD.VIB rfl rfl (by decide) (by decide) h3
  have e4 : bits w.toNat 4 4 = bits v 4 4 := hb MF.CAL_CMD.HK rfl rfl (by decide) (by decide) h4
  rw [bits_four_one, e1, e2, e3, e4, ← bits_four_one]
theorem State.writeFields_calCmd_ok (s : State) (v : Nat) : (s.writeFields MF.CAL_CMD.START.base v).2 = .ok :=
  (s.writeFields_takesAll v (g := MF.CAL_CMD.CUR) (i := 0) (j := 0) calCmd_takesAll.1).1

/-! ### The skips of a start (R103, R162) -/

/-- A calibration `c` is in progress, and shown. -/
def CalRuns (c : CalH) (s : State) : Prop := s.flag MF.CAL_STATUS.BUSY = true ∧ s.cal = some c

theorem inFront_calStatus : InFront MF.CAL_STATUS.BUSY.base := .inl (by decide)
theorem CalRuns.of_front {c : CalH} {s t : State} (h : CalRuns c s) (hf : t.front ⟨_, inFront_calStatus⟩ = s.front ⟨_, inFront_calStatus⟩) :
    CalRuns c t := by
  obtain ⟨hreg, hcal⟩ := Prod.mk.inj hf
  exact ⟨(congrArg (· != 0) (State.rd_congr MF.CAL_STATUS.BUSY 0 0 hreg nofun)).trans h.1, hcal.trans h.2⟩

section
variable (s : State) (x : FrontReg)
@[simp] theorem State.updSg_front (b : Nat) (f : SegH → SegH) : (s.updSg b f).front x = s.front x := rfl
@[simp] theorem State.segCount_front (b : Nat) : (s.segCount b).front x = s.front x := s.updSg_front x b _
variable {b : Nat} (hb : b < 256)
include hb
theorem State.gateOn_front : (s.gateOn b).front x = s.front x := by
  have hm := missesFront_unit (f := BUS.STATUS.CHOP_ON) hb (by decide)
  simp [State.gateOn, hm]
theorem State.gateOff_front : (s.gateOff b).front x = s.front x := by
  have hm := missesFront_unit (f := BUS.STATUS.CHOP_ON) hb (by decide)
  simp [State.gateOff, hm]
theorem State.gateByOv_front : (s.gateByOv b).front x = s.front x := by
  simp [State.gateByOv, State.gateOn_front _ _ hb, State.gateOff_front _ _ hb]
end

section
variable {c : CalH} {s : State} (h : CalRuns c s)
include h
theorem CalRuns.calSkipAx (sel skAx : Nat) : CalRuns c (s.calSkipAx sel skAx) := by
  unfold State.calSkipAx
  split
  · refine State.forEach_invariant (CalRuns c) _ _ (fun u n _ hu => ?_) s h
    unfold State.raiseIf
    split
    · refine ⟨?_, hu.2⟩
      rw [State.flag, State.raise, (State.noteSet_rd _ _ _ _ _ _).1, State.rd_wr_apart]
      · exact hu.1
      · simp only [RF.apart, RF.off, RF.addr, AX.ADC_STATUS.CAL_SKIP, MF.CAL_STATUS.BUSY]
        omega
    · exact hu
  · exact h
theorem CalRuns.calSkipSeg (skSeg : Nat) : CalRuns c (s.calSkipSeg skSeg) := by
  refine State.forEach_invariant (CalRuns c) _ _ (fun u b hb hu => ?_) s h
  have hb' : b < 256 := (List.mem_range.mp hb).trans (by decide)
  split
  · refine ⟨?_, hu.2⟩
    have hw := u.rd_wr_of_beside (f := MF.CAL_STATUS.DCB_SKIP) (g := MF.CAL_STATUS.BUSY) 0 (setBit (u.rd MF.CAL_STATUS.DCB_SKIP) b true) (by decide)
    exact (congrArg (· != 0) hw).trans hu.1
  · have hm := missesFront_unit (f := BUS.STATUS.NO_SAMPLE) hb' (by decide)
    exact hu.of_front ((State.gateByOv_front _ _ hb').trans (u.raise_front _ hm))
end

/-! ### The effect of the write -/

theorem State.writeFields_cal (s : State) (a v : Nat) : (s.writeFields a v).1.cal = s.cal := by
  rcases s.writeFields_fst a v with e | ⟨w, e⟩ <;> rw [e]
  rfl

theorem State.fxCalCmd_busy (s : State) (v : Nat) (h : s.flag MF.CAL_STATUS.BUSY = true) :
    s.fxCalCmd v = (s.raise MF.CAL_STATUS.CAL_REFUSED, .ok) := if_pos h
/-- Without firmware in RUNNING the fields take the value, and nothing starts. -/
theorem State.fxCalCmd_idle (s : State) (v : Nat) (h : s.flag MF.CAL_STATUS.BUSY = false) (hfw : s.rd SUP.FW_STATUS.STATE ≠ 3) :
    s.fxCalCmd v = s.writeFields MF.CAL_CMD.START.base v := by
  unfold State.fxCalCmd
  rw [h]
  simp [hfw]
/-- The calibration that a start begins in state `t`, whose MF.CAL_CMD the write has set. -/
def State.calOf (t : State) : CalH where
  sel := bits (t.reg MF.CAL_CMD.START.base).toNat 4 1
  start := t.dtime
  skipAx := axes.foldl (fun m n => setBit m n (t.axOn n)) 0
  skipSeg := (List.range 8).foldl (fun m b => setBit m b ((t.segAxes b).any fun n => t.axOn n)) 0
/-- It is in progress, before the skips. -/
def State.calShow (t : State) : State := { t.raise MF.CAL_STATUS.BUSY with cal := some t.calOf }
/-- The skips of calibration `c`. -/
def State.calSkips (u : State) (c : CalH) : State :=
  if bit c.sel 1 then (u.calSkipAx c.sel c.skipAx).calSkipSeg c.skipSeg else u.calSkipAx c.sel c.skipAx

theorem CalRuns.calSkips {c : CalH} {s : State} (h : CalRuns c s) (d : CalH) : CalRuns c (s.calSkips d) := by
  unfold State.calSkips
  split
  · exact (h.calSkipAx _ _).calSkipSeg _
  · exact h.calSkipAx _ _
theorem State.calSkips_of_none (u : State) {c : CalH} (h0 : bit c.sel 0 = false) (h1 : bit c.sel 1 = false) : u.calSkips c = u := by
  unfold State.calSkips State.calSkipAx
  rw [h0, h1]
  rfl
/-- A start by the running firmware. -/
theorem State.fxCalCmd_start (s : State) (v : Nat) (h : s.flag MF.CAL_STATUS.BUSY = false) (hfw : s.rd SUP.FW_STATUS.STATE = 3) :
    s.fxCalCmd (setBit v 0 true) = ((s.writeFields MF.CAL_CMD.START.base (setBit v 0 true)).1.calShow.calSkips
      (s.writeFields MF.CAL_CMD.START.base (setBit v 0 true)).1.calOf, .ok) := by
  rw [← s.writeFields_calCmd_ok (setBit v 0 true)]
  unfold State.fxCalCmd
  rw [if_neg (by simp [h])]
  dsimp only
  rw [if_neg (by simp [bit_setBit_self, hfw])]
  rfl
theorem State.calShow_runs (t : State) : CalRuns t.calOf t.calShow := ⟨State.flag_raise t MF.CAL_STATUS.BUSY 0 0 (by decide), rfl⟩

/-- A granted write of MF.CAL_CMD leaves the calibration in progress as its effect does. -/
theorem State.busWriteWith_cal {s : State} {m a : Nat} {sw : Bool} {fx : State → State × WErr} (h : MayWrite s m a sw) (hf : (fx s).2 = .ok) :
    (s.busWriteWith m a sw fx).cal = (fx s).1.cal := by
  rw [State.busWriteWith_granted s m a sw fx h hf]
  simp

/-! ### The command -/

section
variable {s : State} {m : Fin 64} {v : Word} (h : MayWrite s m MF.CAL_CMD.START.base true)
include h

/-- The calibration starts (clause start of O33). -/
theorem calCmdStart_starts (hfw : s.rd SUP.FW_STATUS.STATE = 3) (hb : s.flag MF.CAL_STATUS.BUSY = false) :
    Completes (.calCmdStart m v) s fun t => t.flag MF.CAL_STATUS.BUSY = true ∧ ((t.cal.map fun c => c.start) = some s.dtime) ∧
      ((t.cal.map fun c => c.sel) = some (bits v.toNat 4 1)) ∧
      (bit v.toNat 1 = false → bit v.toNat 2 = false → OnlyRegs s t [MF.CAL_CMD.START.base, MF.CAL_STATUS.BUSY.base]) := by
  have hfx := s.fxCalCmd_start v.toNat hb hfw
  have hsel : (s.writeFields MF.CAL_CMD.START.base (setBit v.toNat 0 true)).1.calOf.sel = bits v.toNat 4 1 := s.writeFields_calCmd v.toNat
  have hdt := (s.writeFields_segs_dtime MF.CAL_CMD.START.base (setBit v.toNat 0 true)).2
  have honly := s.writeFields_onlyRegs MF.CAL_CMD.START.base (setBit v.toNat 0 true)
  obtain ⟨-, hreg, hrd⟩ := busWriteWith_registers (fx := fun s => s.fxCalCmd (setBit v.toNat 0 true)) h (congrArg Prod.snd hfx)
  have hcal := State.busWriteWith_cal (fx := fun s => s.fxCalCmd (setBit v.toNat 0 true)) h (congrArg Prod.snd hfx)
  rw [hfx] at hreg hrd hcal
  generalize (s.writeFields MF.CAL_CMD.START.base (setBit v.toNat 0 true)).1 = t at *
  obtain ⟨hbusy, hc⟩ := t.calShow_runs.calSkips t.calOf
  refine ⟨_, rfl, (congrArg (· != 0) (hrd _ _ _)).trans hbusy, ?_, ?_, fun h1 h2 => ?_⟩
  · rw [hcal, hc]
    exact congrArg some hdt
  · rw [hcal, hc]
    exact congrArg some hsel
  · obtain ⟨hb0, hb1⟩ := bit_bits_four_one v.toNat
    rw [State.calSkips_of_none _ (by rw [hsel, hb0, h1]) (by rw [hsel, hb1, h2])] at hreg
    exact onlyRegs_of_reg (onlyRegs_raise (onlyRegs_mono honly (by simp)) MF.CAL_STATUS.BUSY 0 0 (by simp [RF.addr]) nofun) hreg

/-- A calibration is in progress (clause busy of O33). -/
theorem calCmdStart_busy (hb : s.flag MF.CAL_STATUS.BUSY = true) : Completes (.calCmdStart m v) s fun t =>
    t.flag MF.CAL_STATUS.CAL_REFUSED = true ∧ t.cal = s.cal ∧ OnlyRegs s t [MF.CAL_STATUS.CAL_REFUSED.base] := by
  have hfx := s.fxCalCmd_busy (setBit v.toNat 0 true) hb
  obtain ⟨-, hreg, hrd⟩ := busWriteWith_registers (fx := fun s => s.fxCalCmd (setBit v.toNat 0 true)) h (congrArg Prod.snd hfx)
  have hcal := State.busWriteWith_cal (fx := fun s => s.fxCalCmd (setBit v.toNat 0 true)) h (congrArg Prod.snd hfx)
  rw [hfx] at hreg hrd hcal
  exact ⟨_, rfl, (congrArg (· != 0) (hrd _ _ _)).trans (State.flag_raise _ _ _ _ (by decide)), hcal,
    onlyRegs_of_reg (onlyRegs_raise (onlyRegs_refl s _) MF.CAL_STATUS.CAL_REFUSED 0 0 (by simp [RF.addr]) nofun) hreg⟩

/-- The firmware does not run (clause idle of O33). -/
theorem calCmdStart_idle (hfw : s.rd SUP.FW_STATUS.STATE ≠ 3) (hb : s.flag MF.CAL_STATUS.BUSY = false) :
    Completes (.calCmdStart m v) s fun t => t.resp.err = false ∧ t.cal = s.cal ∧ t.flag MF.CAL_STATUS.BUSY = false ∧
      bits (t.reg MF.CAL_CMD.START.base).toNat 4 1 = bits v.toNat 4 1 ∧ OnlyRegs s t [MF.CAL_CMD.START.base] := by
  have hfx := s.fxCalCmd_idle (setBit v.toNat 0 true) hb hfw
  have hok : (s.fxCalCmd (setBit v.toNat 0 true)).2 = .ok := by
    rw [hfx]
    exact s.writeFields_calCmd_ok _
  have honly := s.writeFields_onlyRegs MF.CAL_CMD.START.base (setBit v.toNat 0 true)
  obtain ⟨herr, hreg, hrd⟩ := busWriteWith_registers (fx := fun s => s.fxCalCmd (setBit v.toNat 0 true)) h hok
  have hcal := State.busWriteWith_cal (fx := fun s => s.fxCalCmd (setBit v.toNat 0 true)) h hok
  rw [hfx] at hreg hrd hcal
  refine ⟨_, rfl, herr, hcal.trans (s.writeFields_cal _ _), ?_, ?_, onlyRegs_of_reg honly hreg⟩
  · exact (congrArg (· != 0) ((hrd _ _ _).trans (onlyRegs_rd honly MF.CAL_STATUS.BUSY 0 0 (by decide) nofun))).trans hb
  · rw [hreg]
    exact s.writeFields_calCmd v.toNat

end

end Sys2Proof.Machine
end

section
/-!
SUPPORT. The factors that a calibration stores (R104): what one converter's check sets, and that it leaves every other converter's factors and CAL_ERR.
-/
namespace Sys2Proof.Machine
open Sys2Proof.Safety

/-! ### Fields off a register -/

section
variable (s : State)

/-- A write of a field other than the register `x`. -/
theorem State.front_wr_off (x : FrontReg) (f : RF) (v i j : Nat) (ha : x.1 ≠ f.addr i j) (h : f.hi < 32) : (s.wr f v i j).front x = s.front x := by
  have hr : (s.wr f v i j).reg x.1 = s.reg x.1 := State.reg_wr_off _ _ _ _ _ _ ⟨ha, fun e => by omega⟩
  rw [State.front, State.front, hr]
  simp
theorem State.front_wrS_off (x : FrontReg) (f : RF) (v : Int) (i j : Nat) (ha : x.1 ≠ f.addr i j) (h : f.hi < 32) :
    (s.wrS f v i j).front x = s.front x := s.front_wr_off x f _ i j ha h
theorem State.front_put_off (x : FrontReg) (f : RF) (b : Bool) (i : Nat) (ha : x.1 ≠ f.addr i) (h : f.hi < 32) :
    (s.put f b i).front x = s.front x := by
  unfold State.put
  split <;> exact s.front_wr_off x f _ i 0 ha h
theorem State.front_wrBit_off (x : FrontReg) (f : RF) (b : Nat) (y : Bool) (i : Nat) (ha : x.1 ≠ f.addr i) (h : f.hi < 32) :
    (s.wrBit f b y i).front x = s.front x := by
  unfold State.wrBit
  split <;> exact s.front_wr_off x f _ i 0 ha h

/-- A field of one register reads as the register does. -/
theorem State.rd_of_front {s t : State} {f : RF} {i j : Nat} (hx : InFront (f.addr i j)) (h63 : f.hi ≠ 63)
    (h : t.front ⟨_, hx⟩ = s.front ⟨_, hx⟩) : t.rd f i j = s.rd f i j :=
  State.rd_congr f i j (congrArg Prod.fst h) fun e => absurd e h63

end

/-! ### A converter declared failed (R84) -/

section
variable (s : State) {n : Nat} (hn : n < 48) (c cause : Nat)
include hn

theorem notEvent_adcHealth : notEvent (AX.ADC_HEALTH.CAL_ERR.addr n) := by
  simp only [notEvent, RF.addr, AX.ADC_HEALTH.CAL_ERR, REC.EVT_TOTAL, REC.QUEUE.VALUE]
  omega
theorem inFront_adcHealth : InFront (AX.ADC_HEALTH.CAL_ERR.addr n) := by
  simp only [InFront, RF.addr, AX.ADC_HEALTH.CAL_ERR, axisBase]
  omega
/-- The mark of a failed converter shows in its axis's ADC_HEALTH, beside CAL_ERR. -/
theorem State.convMark_calErr : (s.convMark n c cause).rd AX.ADC_HEALTH.CAL_ERR n = s.rd AX.ADC_HEALTH.CAL_ERR n := by
  have he : ∀ (code src : Nat) (l : List Nat), ((s.wrBit AX.ADC_HEALTH.FAIL c true n).emit code src l).rd AX.ADC_HEALTH.CAL_ERR n =
      s.rd AX.ADC_HEALTH.CAL_ERR n := fun code src l => by
    rw [State.emit_rd _ _ _ _ _ _ _ ⟨notEvent_adcHealth hn, nofun⟩]
    exact s.rd_wr_of_beside (f := AX.ADC_HEALTH.FAIL) n _ (by decide)
  unfold State.convMark
  dsimp only
  split
  · rw [State.rd_wr_of_beside _ _ _ (by decide), he]
  · split
    · exact he _ _ _
    · rw [State.rd_wr_of_beside _ _ _ (by decide), he]
theorem State.convFail_calErr : (s.convFail n c cause).rd AX.ADC_HEALTH.CAL_ERR n = s.rd AX.ADC_HEALTH.CAL_ERR n := by
  unfold State.convFail
  split
  · rfl
  · have hf := State.faultRaise_front (s.convMark n c cause) ⟨_, inFront_adcHealth hn⟩ (s.convFaultOf n)
    rw [← s.convMark_calErr hn c cause]
    exact State.rd_of_front _ (by decide) hf

omit hn in
/-- Every other register of the front end keeps. -/
theorem State.convFail_front (x : FrontReg) (hx : x.1 ≠ AX.ADC_HEALTH.CAL_ERR.addr n) : (s.convFail n c cause).front x = s.front x := by
  have hoff : ∀ (u : State) (v : Nat), (u.wr AX.ADC_HEALTH.ROLE_K v n).front x = u.front x := fun u v => u.front_wr_off x _ v n 0 hx (by decide)
  have hb : ∀ (code src : Nat) (l : List Nat), ((s.wrBit AX.ADC_HEALTH.FAIL c true n).emit code src l).front x = s.front x := fun code src l => by
    rw [State.emit_front]
    exact s.front_wrBit_off x _ c true n hx (by decide)
  unfold State.convFail
  split
  · rfl
  · rw [State.faultRaise_front]
    unfold State.convMark
    dsimp only
    split
    · rw [hoff, hb]
    · split
      · exact hb _ _ _
      · rw [hoff, hb]

end

/-! ### One converter's factors -/

/-- The registers that a check of converter `k` may set. -/
def calOwn (k : Nat) : List Nat :=
  if k < 44 then
    [MF.CAL_OFS.OFS.addr 0 k, MF.CAL_GAIN.GAIN.addr 0 k] ++
      (if k < 8 then [MF.DCB_STATUS.CAL_ERR.addr k] else if k < 40 then [MF.VIB_STATUS.CAL_ERR.addr (k - 8)] else [])
  else
    [AX.CAL_OFS.OFS.addr ((k - 64) / 3) ((k - 64) % 3), AX.CAL_GAIN.GAIN.addr ((k - 64) / 3) ((k - 64) % 3),
      AX.ADC_HEALTH.CAL_ERR.addr ((k - 64) / 3)]

section
variable (s : State)

/-- The factors of a converter of the front end, and of an axis, where they are stored. -/
def State.calTake (s : State) (k : Nat) (o g : Int) : State :=
  if calInLimit k o g then (s.wrS MF.CAL_OFS.OFS o 0 k).wrS MF.CAL_GAIN.GAIN g 0 k else s
def State.calTakeAx (s : State) (k : Nat) (o g : Int) : State :=
  if calInLimit k o g then
    (s.wrS AX.CAL_OFS.OFS o ((k - 64) / 3) ((k - 64) % 3)).wrS AX.CAL_GAIN.GAIN g ((k - 64) / 3) ((k - 64) % 3) else s
theorem State.calStore_eq {k : Nat} (hk : k < 44) (o g : Int) : s.calStore k o g =
    if k < 8 then (s.calTake k o g).put MF.DCB_STATUS.CAL_ERR (!(calInLimit k o g)) k
    else if k < 40 then (s.calTake k o g).put MF.VIB_STATUS.CAL_ERR (!(calInLimit k o g)) (k - 8) else s.calTake k o g := if_pos hk
theorem State.calStore_eqAx {k : Nat} (hk : ¬k < 44) (o g : Int) : s.calStore k o g =
    if calInLimit k o g then (s.calTakeAx k o g).wrBit AX.ADC_HEALTH.CAL_ERR ((k - 64) % 3) (!(calInLimit k o g)) ((k - 64) / 3)
    else ((s.calTakeAx k o g).wrBit AX.ADC_HEALTH.CAL_ERR ((k - 64) % 3) (!(calInLimit k o g)) ((k - 64) / 3)).convFail ((k - 64) / 3) ((k - 64) % 3) 1 :=
  if_neg hk

theorem State.calTake_front (x : FrontReg) {k : Nat} (o g : Int) (ho : x.1 ≠ MF.CAL_OFS.OFS.addr 0 k) (hg : x.1 ≠ MF.CAL_GAIN.GAIN.addr 0 k) :
    (s.calTake k o g).front x = s.front x := by
  unfold State.calTake
  split
  · rw [State.front_wrS_off _ _ _ _ _ _ hg (by decide), State.front_wrS_off _ _ _ _ _ _ ho (by decide)]
  · rfl
theorem State.calTakeAx_front (x : FrontReg) {k : Nat} (o g : Int) (ho : x.1 ≠ AX.CAL_OFS.OFS.addr ((k - 64) / 3) ((k - 64) % 3))
    (hg : x.1 ≠ AX.CAL_GAIN.GAIN.addr ((k - 64) / 3) ((k - 64) % 3)) : (s.calTakeAx k o g).front x = s.front x := by
  unfold State.calTakeAx
  split
  · rw [State.front_wrS_off _ _ _ _ _ _ hg (by decide), State.front_wrS_off _ _ _ _ _ _ ho (by decide)]
  · rfl

/-- The check of a converter's factors leaves every other register of the front end. -/
theorem State.calStore_front (x : FrontReg) (k : Nat) (o g : Int) (hx : x.1 ∉ calOwn k) : (s.calStore k o g).front x = s.front x := by
  unfold calOwn at hx
  by_cases hk : k < 44
  · rw [if_pos hk] at hx
    obtain ⟨ho, hg, hst⟩ : x.1 ≠ MF.CAL_OFS.OFS.addr 0 k ∧ x.1 ≠ MF.CAL_GAIN.GAIN.addr 0 k ∧
        x.1 ∉ (if k < 8 then [MF.DCB_STATUS.CAL_ERR.addr k] else if k < 40 then [MF.VIB_STATUS.CAL_ERR.addr (k - 8)] else []) := by
      simpa using hx
    have hf := s.calTake_front x o g ho hg
    rw [s.calStore_eq hk]
    by_cases h8 : k < 8
    · rw [if_pos h8] at hst ⊢
      rw [State.front_put_off _ _ _ _ _ (by simpa using hst) (by decide), hf]
    · rw [if_neg h8] at hst ⊢
      by_cases h40 : k < 40
      · rw [if_pos h40] at hst ⊢
        rw [State.front_put_off _ _ _ _ _ (by simpa using hst) (by decide), hf]
      · rw [if_neg h40]
        exact hf
  · rw [if_neg hk] at hx
    obtain ⟨ho, hg, hst⟩ : x.1 ≠ AX.CAL_OFS.OFS.addr ((k - 64) / 3) ((k - 64) % 3) ∧ x.1 ≠ AX.CAL_GAIN.GAIN.addr ((k - 64) / 3) ((k - 64) % 3) ∧
        x.1 ≠ AX.ADC_HEALTH.CAL_ERR.addr ((k - 64) / 3) := by
      simpa using hx
    have hf := s.calTakeAx_front x o g ho hg
    rw [s.calStore_eqAx hk]
    split
    · rw [State.front_wrBit_off _ _ _ _ _ _ hst (by decide), hf]
    · rw [State.convFail_front _ _ _ _ hst, State.front_wrBit_off _ _ _ _ _ _ hst (by decide), hf]

/-- Factors within their limits fit their registers. -/
theorem calInLimit_fits {k : Nat} {o g : Int} (h : calInLimit k o g = true) :
    (-(2 ^ 31 : Int) ≤ o ∧ o < 2 ^ 31) ∧ (-(2 ^ 31 : Int) ≤ g ∧ g < 2 ^ 31) := by
  unfold calInLimit at h
  simp only [Bool.and_eq_true, decide_eq_true_eq] at h
  obtain ⟨ho, hg⟩ := h
  unfold absI at ho hg
  split_ifs at ho hg <;> omega

/-- The factors of a converter of the front end after they are taken. -/
theorem State.calTake_own (i : Nat) (o g : Int) :
    (calInLimit i o g = true → (s.calTake i o g).rdS MF.CAL_OFS.OFS 0 i = o ∧ (s.calTake i o g).rdS MF.CAL_GAIN.GAIN 0 i = g) ∧
    (calInLimit i o g = false → s.calTake i o g = s) := by
  refine ⟨fun h => ?_, fun h => by rw [State.calTake, h, if_neg (by decide)]⟩
  obtain ⟨ho, hg⟩ := calInLimit_fits h
  rw [State.calTake, if_pos h]
  refine ⟨?_, State.rdS_wrS _ _ _ _ (by decide) hg⟩
  have ha : MF.CAL_GAIN.GAIN.apart 0 i MF.CAL_OFS.OFS 0 i := by
    simp only [RF.apart, RF.off, RF.addr, MF.CAL_GAIN.GAIN, MF.CAL_OFS.OFS]
    omega
  rw [State.rdS, State.wrS, State.rd_wr_apart _ _ _ _ _ _ _ _ ha]
  exact State.rdS_wrS s MF.CAL_OFS.OFS 0 i (by decide) ho
theorem State.calTakeAx_own {n j : Nat} (hj : j < 3) (o g : Int) :
    (calInLimit (64 + 3 * n + j) o g = true → (s.calTakeAx (64 + 3 * n + j) o g).rdS AX.CAL_OFS.OFS n j = o ∧
      (s.calTakeAx (64 + 3 * n + j) o g).rdS AX.CAL_GAIN.GAIN n j = g) ∧
    (calInLimit (64 + 3 * n + j) o g = false → s.calTakeAx (64 + 3 * n + j) o g = s) := by
  have hn : (64 + 3 * n + j - 64) / 3 = n ∧ (64 + 3 * n + j - 64) % 3 = j := by omega
  refine ⟨fun h => ?_, fun h => by rw [State.calTakeAx, h, if_neg (by decide)]⟩
  obtain ⟨ho, hg⟩ := calInLimit_fits h
  rw [State.calTakeAx, if_pos h, hn.1, hn.2]
  refine ⟨?_, State.rdS_wrS _ _ _ _ (by decide) hg⟩
  have ha : AX.CAL_GAIN.GAIN.apart n j AX.CAL_OFS.OFS n j := by
    simp only [RF.apart, RF.off, RF.addr, AX.CAL_GAIN.GAIN, AX.CAL_OFS.OFS]
    omega
  rw [State.rdS, State.wrS, State.rd_wr_apart _ _ _ _ _ _ _ _ ha]
  exact State.rdS_wrS s AX.CAL_OFS.OFS n j (by decide) ho

end

end Sys2Proof.Machine
end

section
/-!
SUPPORT. The stage of a calibration that stores factors (R103, R104): where one value was measured of a converter, its registers show that value's check.
-/
namespace Sys2Proof.Machine
open Sys2Proof.Safety

/-! ### One bit of a field -/

theorem bit_mod {n w j : Nat} (h : j < w) : bit (n % 2 ^ w) j = bit n j := by
  rw [bit_eq_testBit, bit_eq_testBit, Nat.testBit_mod_two_pow]
  simp [h]
theorem bit_setBit (n i k : Nat) (y : Bool) : bit (setBit n i y) k = if k = i then y else bit n k := by
  split
  case isTrue h =>
    subst h
    cases y
    · exact bit_setBit_false n k
    · exact bit_setBit_self n k
  case isFalse h => exact bit_setBit_ne n y h
/-- A bit of a field after the write of one of its bits. -/
theorem State.rdBit_wrBit (s : State) (f : RF) (b k : Nat) (y : Bool) (i : Nat) (hf : f.hi < 32) (hl : f.lo ≤ f.hi + 1) (hk : k < f.width) :
    (s.wrBit f b y i).rdBit f k i = if k = b then y else s.rdBit f k i := by
  have h : (s.wrBit f b y i).rd f i = setBit (s.rd f i) b y % 2 ^ f.width := by
    unfold State.wrBit
    split
    case isTrue hy => rw [(State.noteSet_rd _ _ _ _ _ _).1, State.rd_wr_self _ _ _ _ _ hf hl, hy]
    case isFalse hy => rw [State.rd_wr_self _ _ _ _ _ hf hl, Bool.eq_false_of_not_eq_true hy]
  rw [State.rdBit, h, bit_mod hk, bit_setBit]
  rfl

/-! ### The registers of a converter -/

section
variable {i : Nat}
theorem inFront_mfCal (h : i < 44) : InFront (MF.CAL_OFS.OFS.addr 0 i) ∧ InFront (MF.CAL_GAIN.GAIN.addr 0 i) := by
  simp only [InFront, RF.addr, MF.CAL_OFS.OFS, MF.CAL_GAIN.GAIN, axisBase]
  omega
theorem inFront_dcb (h : i < 8) : InFront (MF.DCB_STATUS.CAL_ERR.addr i) := by
  simp only [InFront, RF.addr, MF.DCB_STATUS.CAL_ERR, axisBase]
  omega
theorem inFront_vib (h : i < 32) : InFront (MF.VIB_STATUS.CAL_ERR.addr i) := by
  simp only [InFront, RF.addr, MF.VIB_STATUS.CAL_ERR, axisBase]
  omega
theorem inFront_axCal {n j : Nat} (hn : n < 48) (hj : j < 3) : InFront (AX.CAL_OFS.OFS.addr n j) ∧ InFront (AX.CAL_GAIN.GAIN.addr n j) := by
  simp only [InFront, RF.addr, AX.CAL_OFS.OFS, AX.CAL_GAIN.GAIN, axisBase]
  omega
end

/-- The numbers of converters: the front end's, and the axes' (R356). -/
def calNumber (k : Nat) : Prop := k < 44 ∨ (64 ≤ k ∧ k < 208)
theorem calNumber_of_selected {c : CalH} {k : Nat} (h : calSelected c k = true) : calNumber k := by
  unfold calSelected at h
  obtain ⟨-, h⟩ := Bool.and_eq_true_iff.mp h
  unfold calNumber
  split_ifs at h with h8 h64
  · omega
  · exact .inr h64
  · exact .inl (by simpa using h)
/-- A register that no other converter's check sets. -/
def calOnly (i a : Nat) : Prop := ∀ k, calNumber k → k ≠ i → a ∉ calOwn k

theorem mem_calOwn {k a : Nat} : a ∈ calOwn k ↔
    (k < 44 ∧ (a = 0x2000080800 + 8 * k ∨ a = 0x2000080804 + 8 * k ∨ (k < 8 ∧ a = 0x2000080104 + 0x10 * k) ∨
      (8 ≤ k ∧ k < 40 ∧ a = 0x2000080208 + 0x10 * (k - 8)))) ∨
    (44 ≤ k ∧ (a = 0x2010000090 + 0x10000 * ((k - 64) / 3) + 8 * ((k - 64) % 3) ∨
      a = 0x2010000094 + 0x10000 * ((k - 64) / 3) + 8 * ((k - 64) % 3) ∨ a = 0x201000008C + 0x10000 * ((k - 64) / 3))) := by
  unfold calOwn
  simp only [RF.addr, MF.CAL_OFS.OFS, MF.CAL_GAIN.GAIN, MF.DCB_STATUS.CAL_ERR, MF.VIB_STATUS.CAL_ERR, AX.CAL_OFS.OFS, AX.CAL_GAIN.GAIN,
    AX.ADC_HEALTH.CAL_ERR]
  split_ifs <;> simp only [List.mem_append, List.mem_cons, List.not_mem_nil, or_false] <;> omega

theorem calOnly_mf {i : Nat} (hi : i < 44) : calOnly i (MF.CAL_OFS.OFS.addr 0 i) ∧ calOnly i (MF.CAL_GAIN.GAIN.addr 0 i) ∧
    (i < 8 → calOnly i (MF.DCB_STATUS.CAL_ERR.addr i)) ∧ (8 ≤ i → i < 40 → calOnly i (MF.VIB_STATUS.CAL_ERR.addr (i - 8))) := by
  simp only [calOnly, calNumber, mem_calOwn, RF.addr, MF.CAL_OFS.OFS, MF.CAL_GAIN.GAIN, MF.DCB_STATUS.CAL_ERR, MF.VIB_STATUS.CAL_ERR]
  refine ⟨fun k => ?_, fun k => ?_, fun h k => ?_, fun h h' k => ?_⟩ <;> omega
theorem calOnly_ax {n j : Nat} (hj : j < 3) :
    calOnly (64 + 3 * n + j) (AX.CAL_OFS.OFS.addr n j) ∧ calOnly (64 + 3 * n + j) (AX.CAL_GAIN.GAIN.addr n j) := by
  simp only [calOnly, calNumber, mem_calOwn, RF.addr, AX.CAL_OFS.OFS, AX.CAL_GAIN.GAIN]
  refine ⟨fun k => ?_, fun k => ?_⟩ <;> omega

/-! ### What the check of one converter sets and leaves -/

section
variable (s : State) (o g : Int)

/-- CAL_ERR of the other converters of an axis keeps. -/
theorem State.calStore_otherBit {n j k : Nat} (hn : n < 48) (hj : j < 3) (hk : calNumber k) (hne : k ≠ 64 + 3 * n + j) :
    (s.calStore k o g).rdBit AX.ADC_HEALTH.CAL_ERR j n = s.rdBit AX.ADC_HEALTH.CAL_ERR j n := by
  by_cases hown : AX.ADC_HEALTH.CAL_ERR.addr n ∈ calOwn k
  · have hkn : ¬k < 44 ∧ (k - 64) / 3 = n ∧ (k - 64) % 3 ≠ j := by
      unfold calNumber at hk
      simp only [mem_calOwn, RF.addr, AX.ADC_HEALTH.CAL_ERR] at hown
      omega
    obtain ⟨h44, hkn, hkj⟩ := hkn
    have hf := s.calTakeAx_front ⟨_, inFront_adcHealth hn⟩ (k := k) o g
      (by simp only [RF.addr, AX.ADC_HEALTH.CAL_ERR, AX.CAL_OFS.OFS]; omega) (by simp only [RF.addr, AX.ADC_HEALTH.CAL_ERR, AX.CAL_GAIN.GAIN]; omega)
    have hb : ((s.calTakeAx k o g).wrBit AX.ADC_HEALTH.CAL_ERR ((k - 64) % 3) (!(calInLimit k o g)) n).rdBit AX.ADC_HEALTH.CAL_ERR j n =
        s.rdBit AX.ADC_HEALTH.CAL_ERR j n := by
      rw [State.rdBit_wrBit _ _ _ _ _ _ (by decide) (by decide) hj, if_neg (Ne.symm hkj), State.rdBit,
        State.rd_of_front (inFront_adcHealth hn) (by decide) hf]
      rfl
    rw [s.calStore_eqAx h44, hkn]
    split
    · exact hb
    · rw [State.rdBit, State.convFail_calErr _ hn]
      exact hb
  · exact congrArg (bit · j) (State.rd_of_front (inFront_adcHealth hn) (by decide) (s.calStore_front _ k o g hown))
theorem State.calStore_ownBit {n j : Nat} (hn : n < 48) (hj : j < 3) :
    (s.calStore (64 + 3 * n + j) o g).rdBit AX.ADC_HEALTH.CAL_ERR j n = !(calInLimit (64 + 3 * n + j) o g) := by
  have hnj : (64 + 3 * n + j - 64) / 3 = n ∧ (64 + 3 * n + j - 64) % 3 = j := by omega
  rw [s.calStore_eqAx (by omega), hnj.1, hnj.2]
  split
  · rw [State.rdBit_wrBit _ _ _ _ _ _ (by decide) (by decide) hj, if_pos rfl]
  · rw [State.rdBit, State.convFail_calErr _ hn, ← State.rdBit, State.rdBit_wrBit _ _ _ _ _ _ (by decide) (by decide) hj, if_pos rfl]

/-- The factors are as they were taken. -/
theorem State.calStore_factor {i : Nat} (hi : i < 44) {f : RF} (hx : InFront (f.addr 0 i)) (h63 : f.hi ≠ 63)
    (hb : 0x2000080800 ≤ f.addr 0 i) : (s.calStore i o g).rd f 0 i = (s.calTake i o g).rd f 0 i := by
  refine State.rd_of_front hx h63 ?_
  rw [s.calStore_eq hi]
  split
  · refine State.front_put_off _ _ _ _ _ ?_ (by decide)
    simp only [RF.addr, MF.DCB_STATUS.CAL_ERR] at hb ⊢
    omega
  · split
    · refine State.front_put_off _ _ _ _ _ ?_ (by decide)
      simp only [RF.addr, MF.VIB_STATUS.CAL_ERR] at hb ⊢
      omega
    · rfl
theorem State.calStore_factorAx {n j : Nat} (hj : j < 3) {f : RF} (hx : InFront (f.addr n j)) (h63 : f.hi ≠ 63)
    (hne : f.addr n j ≠ AX.ADC_HEALTH.CAL_ERR.addr n) : (s.calStore (64 + 3 * n + j) o g).rd f n j = (s.calTakeAx (64 + 3 * n + j) o g).rd f n j := by
  have hnj : (64 + 3 * n + j - 64) / 3 = n ∧ (64 + 3 * n + j - 64) % 3 = j := by omega
  refine State.rd_of_front hx h63 ?_
  rw [s.calStore_eqAx (by omega), hnj.1, hnj.2]
  split
  · rw [State.front_wrBit_off _ _ _ _ _ _ hne (by decide)]
  · rw [State.convFail_front _ _ _ _ hne, State.front_wrBit_off _ _ _ _ _ _ hne (by decide)]
theorem State.calStore_dcbErr {i : Nat} (hi : i < 8) : (s.calStore i o g).flag MF.DCB_STATUS.CAL_ERR i = !(calInLimit i o g) := by
  rw [s.calStore_eq (by omega), if_pos hi]
  exact State.flag_put _ _ _ _ (by decide)
theorem State.calStore_vibErr {i : Nat} (h8 : 8 ≤ i) (hi : i < 40) : (s.calStore i o g).flag MF.VIB_STATUS.CAL_ERR (i - 8) = !(calInLimit i o g) := by
  rw [s.calStore_eq (by omega), if_neg (by omega), if_pos hi]
  exact State.flag_put _ _ _ _ (by decide)

end

/-! ### All factors measured -/

/-- In a run over a list of which `x` alone passes `p`, a view that the other elements leave is what `x` makes of it. -/
theorem State.forEach_single {α β : Type} (P : State → β) (f : State → α → State) (p : α → Bool) (x : α) (l : List α) (hone : l.filter p = [x])
    (hother : ∀ u : State, ∀ a ∈ l, p a = false → P (f u a) = P u) (s : State) : ∃ u, P u = P s ∧ P (s.forEach l f) = P (f u x) := by
  induction l generalizing s with
  | nil => exact absurd hone (by simp)
  | cons a l ih =>
    have hl : ∀ u : State, ∀ b ∈ l, p b = false → P (f u b) = P u := fun u b hb => hother u b (List.mem_cons_of_mem _ hb)
    by_cases ha : p a = true
    · rw [List.filter_cons_of_pos ha] at hone
      obtain ⟨rfl, hnil⟩ := List.cons.inj hone
      refine ⟨s, rfl, State.forEach_invariant (fun u => P u = P (f s a)) l f (fun u b hb hu => ?_) _ rfl⟩
      exact (hl u b hb (Bool.eq_false_of_not_eq_true fun h => List.filter_eq_nil_iff.mp hnil b hb h)).trans hu
    · rw [List.filter_cons_of_neg ha] at hone
      obtain ⟨u, hu, he⟩ := ih hone hl (f s a)
      exact ⟨u, hu.trans (hother s a (by simp) (Bool.eq_false_of_not_eq_true ha)), he⟩

/-- The factors of the selected converters are checked and stored. -/
def State.calStores (s : State) (c : CalH) (f : List (Nat × Int × Int)) : State :=
  s.forEach (f.filter fun x => calSelected c x.1) fun s x => s.calStore x.1 x.2.1 x.2.2

section
variable {c : CalH} {f : List (Nat × Int × Int)} {i : Nat} {o g : Int} (hsel : calSelected c i = true)
  (hone : f.filter (fun x => decide (x.1 = i)) = [(i, o, g)])
include hsel hone

theorem State.calStores_single {β : Type} (P : State → β)
    (hother : ∀ (u : State) (k : Nat) (o g : Int), calNumber k → k ≠ i → P (u.calStore k o g) = P u) (s : State) :
    ∃ u : State, P u = P s ∧ P (s.calStores c f) = P (u.calStore i o g) := by
  refine State.forEach_single P _ (fun x => decide (x.1 = i)) (i, o, g) _ ?_ (fun u a ha hp => ?_) s
  · have hcomm : (f.filter fun x => calSelected c x.1).filter (fun x => decide (x.1 = i)) =
        (f.filter fun x => decide (x.1 = i)).filter fun x => calSelected c x.1 := by
      simp only [List.filter_filter, Bool.and_comm]
    rw [hcomm, hone]
    simp [hsel]
  · exact hother u a.1 a.2.1 a.2.2 (calNumber_of_selected (List.mem_filter.mp ha).2) (by simpa using hp)
/-- A field that no other converter's check sets. -/
theorem State.calStores_rd (fd : RF) (a b : Nat) (hx : InFront (fd.addr a b)) (h63 : fd.hi ≠ 63) (honly : calOnly i (fd.addr a b)) (s : State) :
    ∃ u : State, u.rd fd a b = s.rd fd a b ∧ (s.calStores c f).rd fd a b = (u.calStore i o g).rd fd a b :=
  State.calStores_single hsel hone (fun u => u.rd fd a b)
    (fun u k o g hk hne => State.rd_of_front hx h63 (u.calStore_front _ k o g (honly k hk hne))) s

end

end Sys2Proof.Machine
end

section
/-!
SUPPORT. The end of a calibration (R103, R104): what the restarts and the answer after the stores leave; O33.
-/
namespace Sys2Proof.Machine
open Sys2Proof.Safety

/-! ### Restarts and resumptions -/

/-- The registers of the vibration channels. -/
def inVib (a : Nat) : Prop := 0x2000080200 ≤ a ∧ a < 0x2000080400

section
variable (s : State) (x : FrontReg)

theorem State.front_raise_off (f : RF) (ha : x.1 ≠ f.addr 0 0) (h : f.hi < 32) : (s.raise f).front x = s.front x := s.front_wr_off x f 1 0 0 ha h
theorem State.cal_of_front {s t : State} {x : FrontReg} (h : t.front x = s.front x) : t.cal = s.cal := congrArg Prod.snd h
theorem State.vibRestart_cal (c from_ : Nat) (hc : c < 32) : (s.vibRestart c from_).cal = s.cal := by
  have hb : (s.vibBegin c from_).cal = s.cal := by simp [State.vibBegin]
  rw [State.vibRestart_eq]
  split
  · exact (State.cal_of_front ((s.vibBegin c from_).babRestart_front ⟨_, inFront_calStatus⟩ (by omega))).trans hb
  · exact hb
theorem State.vibRestart_front (c from_ : Nat) (hc : c < 32) (hx : ¬inVib x.1) : (s.vibRestart c from_).front x = s.front x := by
  rw [State.front, State.front, s.vibRestart_cal c from_ hc, s.vibRestart_onlyRegs c from_ x.1]
  have hin := x.2
  simp only [InFront, axisBase] at hin
  simp only [inVib] at hx
  simp only [List.mem_cons, List.not_mem_nil, or_false, RF.addr, MF.VIB_STATUS.SETTLING, BAB.IN_STATUS.STATE]
  omega
/-- A restart leaves the CAL_ERR of every channel. -/
theorem State.vibRestart_calErr (c from_ i : Nat) :
    (s.vibRestart c from_).rd MF.VIB_STATUS.CAL_ERR i = s.rd MF.VIB_STATUS.CAL_ERR i := by
  by_cases hc : i = c
  · subst hc
    rw [s.vibRestart_status i from_ (f := MF.VIB_STATUS.CAL_ERR) rfl rfl (by decide), State.vibBegin, (State.updBi_rd _ _ _ _ _ _).1,
      State.rd_clear_of_beside _ _ (by decide), State.rd_incWrap_of_beside _ _ (by decide), State.rd_raise_of_beside _ _ (by decide)]
    rfl
  · refine onlyRegs_rd (s.vibRestart_onlyRegs c from_) _ _ _ ?_ nofun
    simp only [List.mem_cons, List.not_mem_nil, or_false, RF.addr, MF.VIB_STATUS.SETTLING, MF.VIB_STATUS.CAL_ERR, BAB.IN_STATUS.STATE]
    omega
theorem State.hkResume_front (k t : Nat) : (s.hkResume k t).front x = s.front x := by
  unfold State.hkResume
  dsimp only
  split
  · rfl
  · split
    · split <;> rfl
    · split <;> rfl

/-- Vibration channels restart, housekeeping resumes, and the segments have their samples again. -/
def State.calVibs (s : State) (sel : Nat) : State :=
  if bit sel 2 then s.forEach (List.range 32) fun s v => if s.flag MF.VIB_CFG.PD v then s else s.vibRestart v s.dtime else s
def State.calHks (s : State) (sel : Nat) : State := if bit sel 3 then s.forEach (List.range 4) fun s k => s.hkResume k s.dtime else s
def State.calSegs (s : State) : State := s.forEach (List.range 8) fun s b => s.clear BUS.STATUS.NO_SAMPLE b
def State.calResume (s : State) (sel : Nat) : State := ((s.calVibs sel).calHks sel).calSegs

theorem State.calVibs_front (sel : Nat) (hx : ¬inVib x.1) : (s.calVibs sel).front x = s.front x := by
  unfold State.calVibs
  split
  · refine s.forEach_front x _ _ fun u c hc => ?_
    split
    · rfl
    · exact u.vibRestart_front x c _ (List.mem_range.mp hc) hx
  · rfl
theorem State.calVibs_calErr (sel i : Nat) : (s.calVibs sel).rd MF.VIB_STATUS.CAL_ERR i = s.rd MF.VIB_STATUS.CAL_ERR i := by
  unfold State.calVibs
  split
  · refine State.forEach_invariant (fun u => u.rd MF.VIB_STATUS.CAL_ERR i = s.rd MF.VIB_STATUS.CAL_ERR i) _ _ (fun u c _ hu => ?_) s rfl
    split
    · exact hu
    · exact (u.vibRestart_calErr c _ i).trans hu
  · rfl
theorem State.calHks_front (sel : Nat) : (s.calHks sel).front x = s.front x := by
  unfold State.calHks
  split
  · exact s.forEach_front x _ _ fun u k _ => u.hkResume_front x k _
  · rfl
theorem State.calSegs_front : s.calSegs.front x = s.front x :=
  s.forEach_front x _ _ fun u b hb => u.clear_front x (missesFront_unit ((List.mem_range.mp hb).trans (by decide)) (by decide))
theorem State.calResume_front (sel : Nat) (hx : ¬inVib x.1) : (s.calResume sel).front x = s.front x := by
  rw [State.calResume, State.calSegs_front, State.calHks_front, State.calVibs_front _ _ _ hx]
theorem State.calResume_calErr (sel i : Nat) (hi : i < 32) : (s.calResume sel).rd MF.VIB_STATUS.CAL_ERR i = s.rd MF.VIB_STATUS.CAL_ERR i := by
  rw [State.calResume, State.rd_of_front (inFront_vib hi) (by decide) ((State.calSegs_front _ _).trans (State.calHks_front _ _ _)),
    s.calVibs_calErr sel i]
theorem State.calResume_dtime (sel : Nat) : (s.calResume sel).dtime = s.dtime := by
  simp [State.calResume, State.calVibs, State.calHks, State.calSegs]
/-- Where neither class is selected nothing is recorded. -/
theorem State.calResume_recd {sel : Nat} (h : sel < 4) : (s.calResume sel).recd = s.recd := by
  have h2 : bit sel 2 = false := by
    simp only [bit, beq_eq_false_iff_ne]
    omega
  have h3 : bit sel 3 = false := by
    simp only [bit, beq_eq_false_iff_ne]
    omega
  rw [State.calResume, State.calHks, State.calVibs, h2, h3]
  exact State.forEach_recd _ _ _ fun u b => by simp

end

/-! ### The two ends -/

/-- No calibration is in progress. -/
def State.calOver (s : State) : State := { s with cal := none }
/-- The answer to the mailbox leaves the registers, and no calibration begins. -/
theorem State.mbSettle_rd (s : State) (op rc : Nat) (mine : List Nat → Bool) (g : RF) (i j : Nat) : (s.mbSettle op rc mine).rd g i j = s.rd g i j := rfl
theorem State.mbSettle_front (s : State) (op rc : Nat) (mine : List Nat → Bool) (x : FrontReg) : (s.mbSettle op rc mine).front x = s.front x := rfl
/-- What follows the stores, or the failed check of the reference. -/
def State.calTail (s : State) (sel : Nat) (refErr : Bool) : State :=
  ((s.calResume sel).clear MF.CAL_STATUS.BUSY).mbSettle 0x0020 (2 * b2n refErr) fun _ => true
def State.calStored (s : State) (c : CalH) (f : List (Nat × Int × Int)) : State :=
  ((s.calOver.calStores c f).raise MF.CAL_STATUS.DONE).calTail c.sel false
/-- The end of a calibration whose reference passed its check. -/
def State.calDone (s : State) (c : CalH) (f : List (Nat × Int × Int)) : State :=
  ((s.calStored c f).wr MF.CAL_TIME (s.calStored c f).dtime).emit 0x0212 srcModule
    (le 4 (((s.calStored c f).wr MF.CAL_TIME (s.calStored c f).dtime).reg MF.CAL_STATUS.BUSY.base).toNat)
/-- The end of a calibration whose reference failed it. -/
def State.calFailed (s : State) (c : CalH) : State := (s.calOver.raise MF.CAL_STATUS.REF_ERR).calTail c.sel true

section
variable {s : State} {r : RefCheck} {f : List (Nat × Int × Int)} {c : CalH} (hc : s.cal = some c)
include hc
theorem execCalComplete_done (hr : refBad r = false) : execCalComplete r f s = .next (s.calDone c f) := by
  unfold execCalComplete
  rw [hc, hr]
  rfl
theorem execCalComplete_failed (hr : refBad r = true) : execCalComplete r f s = .next (s.calFailed c) := by
  unfold execCalComplete
  rw [hc, hr]
  rfl
end
theorem refBad_eq_false {r : RefCheck} (h : ∀ b ∈ r.buffers, 1000 * absI ((b : Int) - r.bandgap) ≤ 5 * (r.bandgap : Int)) : refBad r = false := by
  refine List.any_eq_false.mpr fun b hb => ?_
  have := h b hb
  simp only [decide_eq_true_eq]
  omega
theorem refBad_eq_true {r : RefCheck} (h : ∃ b ∈ r.buffers, 5 * (r.bandgap : Int) < 1000 * absI ((b : Int) - r.bandgap)) : refBad r = true := by
  obtain ⟨b, hb, hlt⟩ := h
  refine List.any_eq_true.mpr ⟨b, hb, ?_⟩
  simp only [decide_eq_true_eq]
  omega

section
variable (s : State) (sel : Nat) (e : Bool)

theorem State.calTail_rd (g : RF) (i j : Nat) : (s.calTail sel e).rd g i j = ((s.calResume sel).clear MF.CAL_STATUS.BUSY).rd g i j := by
  rw [State.calTail, State.mbSettle_rd]
theorem State.calTail_front (x : FrontReg) (hx : ¬inVib x.1) (hb : x.1 ≠ MF.CAL_STATUS.BUSY.base) : (s.calTail sel e).front x = s.front x := by
  rw [State.calTail, State.mbSettle_front, State.clear, State.front_wr_off _ x MF.CAL_STATUS.BUSY 0 0 0 hb (by decide), s.calResume_front x sel hx]
theorem State.calTail_busy : (s.calTail sel e).flag MF.CAL_STATUS.BUSY = false := by
  rw [State.flag, State.calTail_rd]
  exact State.flag_clear _ _ _ _ (by decide)
/-- The other flags of CAL_STATUS keep. -/
theorem State.calTail_status {g : RF} (hg : MF.CAL_STATUS.BUSY.beside g = true) (hb : g.base = MF.CAL_STATUS.BUSY.base) (h1 : g.hi ≠ 63) :
    (s.calTail sel e).rd g = s.rd g := by
  have ha : g.addr 0 0 = MF.CAL_STATUS.BUSY.base := by simp [RF.addr, hb]
  have hin : InFront (g.addr 0 0) := ha ▸ inFront_calStatus
  rw [State.calTail_rd, State.rd_clear_of_beside _ 0 hg]
  have hv : ¬inVib (g.addr 0 0) := by
    rw [inVib, ha]
    decide
  exact State.rd_of_front hin h1 (s.calResume_front _ sel hv)
theorem State.calTail_cal : (s.calTail sel e).cal = s.cal :=
  State.cal_of_front (s.calTail_front sel e ⟨MF.CAL_CMD.START.base, .inl (by decide)⟩ (by unfold inVib; decide) (by decide))
theorem State.calTail_vibErr {i : Nat} (hi : i < 32) : (s.calTail sel e).rd MF.VIB_STATUS.CAL_ERR i = s.rd MF.VIB_STATUS.CAL_ERR i := by
  have h : ((s.calResume sel).clear MF.CAL_STATUS.BUSY).rd MF.VIB_STATUS.CAL_ERR i = (s.calResume sel).rd MF.VIB_STATUS.CAL_ERR i :=
    State.rd_wr_apart _ _ _ _ _ _ _ _ (by simp only [RF.apart, RF.off, RF.addr, MF.CAL_STATUS.BUSY, MF.VIB_STATUS.CAL_ERR]; omega)
  rw [State.calTail_rd, h, s.calResume_calErr sel i hi]
theorem State.calTail_dtime : (s.calTail sel e).dtime = s.dtime := by
  simp [State.calTail, State.calResume_dtime]
theorem State.calTail_recd (h : sel < 4) : (s.calTail sel e).recd = s.recd := by
  have hr : (s.calTail sel e).recd = (s.calResume sel).recd := by simp [State.calTail, State.mbSettle]
  rw [hr, s.calResume_recd h]

end

/-! ### A calibration that is done -/

/-- An event waits in a queue with room. -/
theorem State.emit_noted (s : State) (code source : Nat) (payload : List Nat) (h : Room s) :
    Noted (s.emit code source payload) code source s.dtime := by
  refine ⟨{ code := code, source := source, stamp := s.dtime, payload := payload, merge := false, arrived := s.dtime }, ?_, rfl, rfl, rfl⟩
  rw [State.emit_queue _ _ _ _ h]
  exact (insertEvent_mem _ _ _).mpr (.inl rfl)

section
variable (s : State) (c : CalH) (f : List (Nat × Int × Int))

theorem State.calDone_rd {g : RF} {i j : Nat} (hq : g.quiet i j) (ht : MF.CAL_TIME.apart 0 0 g i j) :
    (s.calDone c f).rd g i j = (s.calStored c f).rd g i j := by
  rw [State.calDone, State.emit_rd _ _ _ _ _ _ _ hq, State.rd_wr_apart _ _ _ _ _ _ _ _ ht]
/-- The registers of the converters are as the checks left them. -/
theorem State.calDone_stores {g : RF} {i j : Nat} (hg : g.hi ≠ 63) (hx : InFront (g.addr i j)) (hlow : 0x2000080100 ≤ g.addr i j)
    (hv : ¬inVib (g.addr i j)) : (s.calDone c f).rd g i j = (s.calOver.calStores c f).rd g i j := by
  have hq : notEvent (g.addr i j) := by
    simp only [InFront, axisBase] at hx
    simp only [notEvent, REC.EVT_TOTAL, REC.QUEUE.VALUE]
    omega
  rw [s.calDone_rd c f ⟨hq, fun e => absurd e hg⟩ ⟨⟨by simp only [RF.addr, MF.CAL_TIME] at hlow ⊢; omega,
    fun _ => by simp only [RF.addr, MF.CAL_TIME] at hlow ⊢; omega⟩, fun e => absurd e hg⟩]
  have hb : g.addr i j ≠ MF.CAL_STATUS.BUSY.base := by
    rw [show MF.CAL_STATUS.BUSY.base = 0x2000080004 from rfl]
    omega
  refine State.rd_of_front hx hg ((State.calTail_front _ _ _ _ hv hb).trans ?_)
  exact State.front_raise_off _ _ MF.CAL_STATUS.DONE hb (by decide)
theorem State.calDone_vibErr {i : Nat} (hi : i < 32) :
    (s.calDone c f).rd MF.VIB_STATUS.CAL_ERR i = (s.calOver.calStores c f).rd MF.VIB_STATUS.CAL_ERR i := by
  have hq : notEvent (MF.VIB_STATUS.CAL_ERR.addr i) := by
    simp only [notEvent, RF.addr, MF.VIB_STATUS.CAL_ERR, REC.EVT_TOTAL, REC.QUEUE.VALUE]
    omega
  rw [s.calDone_rd c f ⟨hq, nofun⟩ (by simp only [RF.apart, RF.off, RF.addr, MF.CAL_TIME, MF.VIB_STATUS.CAL_ERR]; omega), State.calStored,
    State.calTail_vibErr _ _ _ hi]
  rw [State.raise, (State.noteSet_rd _ _ _ _ _ _).1, State.rd_wr_apart]
  simp only [RF.apart, RF.off, RF.addr, MF.CAL_STATUS.DONE, MF.VIB_STATUS.CAL_ERR]
  omega

theorem State.calStores_front {x : FrontReg} (hx : ∀ k, x.1 ∉ calOwn k) : (s.calStores c f).front x = s.front x :=
  s.forEach_front x _ _ fun u y _ => u.calStore_front x y.1 y.2.1 y.2.2 (hx y.1)
theorem State.calStores_dtime : (s.calStores c f).dtime = s.dtime := by
  simp [State.calStores]
/-- Factors within their limits record no failed converter. -/
theorem State.calStore_recd {k : Nat} {o g : Int} (h : calInLimit k o g = true) : (s.calStore k o g).recd = s.recd := by
  by_cases hk : k < 44
  · rw [s.calStore_eq hk]
    split
    · simp [State.calTake, h]
    · split <;> simp [State.calTake, h]
  · rw [s.calStore_eqAx hk, if_pos h]
    simp [State.calTakeAx, h]
theorem State.calStores_recd (h : (f.all fun x => calInLimit x.1 x.2.1 x.2.2) = true) : (s.calStores c f).recd = s.recd := by
  refine State.forEach_invariant (fun u => u.recd = s.recd) _ _ (fun u a ha hu => ?_) s rfl
  exact (u.calStore_recd (List.all_eq_true.mp h a (List.mem_of_mem_filter ha))).trans hu

theorem State.calDone_shows : (s.calDone c f).flag MF.CAL_STATUS.BUSY = false ∧ (s.calDone c f).flag MF.CAL_STATUS.DONE = true ∧
    (s.calDone c f).cal = none ∧ (s.calDone c f).rd MF.CAL_TIME = s.dtime % 2 ^ 64 := by
  have hdt : (s.calStored c f).dtime = s.dtime := (State.calTail_dtime _ _ _).trans (State.calStores_dtime _ c f)
  have hcal : (s.calStored c f).cal = none := (State.calTail_cal _ _ _).trans
    (State.cal_of_front (State.calStores_front s.calOver c f (x := ⟨_, inFront_calStatus⟩) fun k => by
      simp only [mem_calOwn, MF.CAL_STATUS.BUSY]
      omega))
  have hstat : ∀ g : RF, g.base = MF.CAL_STATUS.BUSY.base → g.s1 = 0 → g.hi ≠ 63 → (s.calDone c f).rd g = (s.calStored c f).rd g :=
      fun g hb h1 hg => by
    have ha : g.addr 0 0 = 0x2000080004 := by simp [RF.addr, hb, MF.CAL_STATUS.BUSY]
    refine s.calDone_rd c f ⟨?_, fun e => absurd e hg⟩ ⟨⟨?_, fun _ => ?_⟩, fun e => absurd e hg⟩ <;> rw [ha]
    · simp only [notEvent]
      decide
    · decide
    · decide
  refine ⟨?_, ?_, ?_, ?_⟩
  · rw [State.flag, hstat MF.CAL_STATUS.BUSY rfl rfl (by decide)]
    exact State.calTail_busy _ _ _
  · rw [State.flag, hstat MF.CAL_STATUS.DONE rfl rfl (by decide), State.calStored,
      State.calTail_status _ _ _ (g := MF.CAL_STATUS.DONE) (by decide) rfl (by decide)]
    exact State.flag_raise _ _ _ _ (by decide)
  · rw [← hcal]
    simp [State.calDone]
  · rw [State.calDone, State.emit_rd _ _ _ _ _ _ _ (by unfold RF.quiet notEvent; decide), State.rd_wr_pair _ _ _ _ _ rfl, hdt]
/-- Where no converter failed its end is recorded. -/
theorem State.calDone_noted (hroom : Room s) (hsel : c.sel < 4) (hall : (f.all fun x => calInLimit x.1 x.2.1 x.2.2) = true) :
    Noted (s.calDone c f) 0x0212 srcModule s.dtime := by
  have hdt : (s.calStored c f).dtime = s.dtime := (State.calTail_dtime _ _ _).trans (State.calStores_dtime _ c f)
  have hrec : (s.calStored c f).recd = s.recd := (State.calTail_recd _ _ _ hsel).trans (State.calStores_recd s.calOver c f hall)
  have hwr : ((s.calStored c f).wr MF.CAL_TIME (s.calStored c f).dtime).recd = s.recd := by simp [hrec]
  have hwd : ((s.calStored c f).wr MF.CAL_TIME (s.calStored c f).dtime).dtime = s.dtime := by simp [hdt]
  rw [← hwd]
  exact State.emit_noted _ _ _ _ (by rw [Room, hwr]; exact hroom)

section
variable {c : CalH} {f : List (Nat × Int × Int)} {i : Nat} {o g : Int} (hsel : calSelected c i = true)
  (hone : f.filter (fun x => decide (x.1 = i)) = [(i, o, g)])
include hsel hone

/-- A converter of the front end. -/
theorem State.calDone_own (hi : i < 44) :
    (calInLimit i o g = true → (s.calDone c f).rdS MF.CAL_OFS.OFS 0 i = o ∧ (s.calDone c f).rdS MF.CAL_GAIN.GAIN 0 i = g) ∧
    (calInLimit i o g = false → (s.calDone c f).rd MF.CAL_OFS.OFS 0 i = s.rd MF.CAL_OFS.OFS 0 i ∧
      (s.calDone c f).rd MF.CAL_GAIN.GAIN 0 i = s.rd MF.CAL_GAIN.GAIN 0 i) ∧
    (i < 8 → (s.calDone c f).flag MF.DCB_STATUS.CAL_ERR i = !(calInLimit i o g)) ∧
    (8 ≤ i → i < 40 → (s.calDone c f).flag MF.VIB_STATUS.CAL_ERR (i - 8) = !(calInLimit i o g)) := by
  obtain ⟨hio, hig⟩ := inFront_mfCal hi
  obtain ⟨hoo, hog, hod, hov⟩ := calOnly_mf hi
  have hfac : ∀ fd : RF, InFront (fd.addr 0 i) → fd.hi ≠ 63 → 0x2000080800 ≤ fd.addr 0 i → calOnly i (fd.addr 0 i) →
      ∃ u : State, u.rd fd 0 i = s.rd fd 0 i ∧ (s.calDone c f).rd fd 0 i = (u.calTake i o g).rd fd 0 i := fun fd hx h63 hb ho => by
    obtain ⟨u, hu, he⟩ := State.calStores_rd hsel hone fd 0 i hx h63 ho s.calOver
    refine ⟨u, hu, ?_⟩
    rw [s.calDone_stores c f h63 hx (by omega) (by unfold inVib; omega), he, u.calStore_factor o g hi hx h63 hb]
  obtain ⟨u, hu, heu⟩ := hfac MF.CAL_OFS.OFS hio (by decide) (by simp [RF.addr, MF.CAL_OFS.OFS]) hoo
  obtain ⟨v, hv, hev⟩ := hfac MF.CAL_GAIN.GAIN hig (by decide) (by simp only [RF.addr, MF.CAL_GAIN.GAIN]; omega) hog
  refine ⟨fun h => ⟨?_, ?_⟩, fun h => ⟨?_, ?_⟩, fun h8 => ?_, fun h8 h40 => ?_⟩
  · rw [State.rdS, heu]
    exact ((u.calTake_own i o g).1 h).1
  · rw [State.rdS, hev]
    exact ((v.calTake_own i o g).1 h).2
  · rw [heu, (u.calTake_own i o g).2 h, hu]
  · rw [hev, (v.calTake_own i o g).2 h, hv]
  · obtain ⟨w, -, hw⟩ := State.calStores_rd hsel hone MF.DCB_STATUS.CAL_ERR i 0 (inFront_dcb h8) (by decide) (hod h8) s.calOver
    rw [State.flag, s.calDone_stores c f (by decide) (inFront_dcb h8) (by simp only [RF.addr, MF.DCB_STATUS.CAL_ERR]; omega)
      (by simp only [inVib, RF.addr, MF.DCB_STATUS.CAL_ERR]; omega), hw]
    exact w.calStore_dcbErr o g h8
  · obtain ⟨w, -, hw⟩ := State.calStores_rd hsel hone MF.VIB_STATUS.CAL_ERR (i - 8) 0 (inFront_vib (by omega)) (by decide) (hov h8 h40)
      s.calOver
    rw [State.flag, s.calDone_vibErr c f (by omega), hw]
    exact w.calStore_vibErr o g h8 h40

end

/-- A converter of an axis. -/
theorem State.calDone_ownAx {n j : Nat} (hn : n < 48) (hj : j < 3) {c : CalH} {f : List (Nat × Int × Int)} {o g : Int}
    (hsel : calSelected c (64 + 3 * n + j) = true)
    (hone : f.filter (fun x => decide (x.1 = 64 + 3 * n + j)) = [(64 + 3 * n + j, o, g)]) :
    (calInLimit (64 + 3 * n + j) o g = true → (s.calDone c f).rdS AX.CAL_OFS.OFS n j = o ∧ (s.calDone c f).rdS AX.CAL_GAIN.GAIN n j = g) ∧
    (calInLimit (64 + 3 * n + j) o g = false → (s.calDone c f).rd AX.CAL_OFS.OFS n j = s.rd AX.CAL_OFS.OFS n j ∧
      (s.calDone c f).rd AX.CAL_GAIN.GAIN n j = s.rd AX.CAL_GAIN.GAIN n j) ∧
    (s.calDone c f).rdBit AX.ADC_HEALTH.CAL_ERR j n = !(calInLimit (64 + 3 * n + j) o g) := by
  obtain ⟨hio, hig⟩ := inFront_axCal hn hj
  obtain ⟨hoo, hog⟩ := calOnly_ax (n := n) hj
  have hfac : ∀ fd : RF, InFront (fd.addr n j) → fd.hi ≠ 63 → axisBase ≤ fd.addr n j → fd.addr n j ≠ AX.ADC_HEALTH.CAL_ERR.addr n →
      calOnly (64 + 3 * n + j) (fd.addr n j) →
      ∃ u : State, u.rd fd n j = s.rd fd n j ∧ (s.calDone c f).rd fd n j = (u.calTakeAx (64 + 3 * n + j) o g).rd fd n j :=
      fun fd hx h63 hb hne ho => by
    obtain ⟨u, hu, he⟩ := State.calStores_rd hsel hone fd n j hx h63 ho s.calOver
    refine ⟨u, hu, ?_⟩
    unfold axisBase at hb
    rw [s.calDone_stores c f h63 hx (by omega) (by unfold inVib; omega), he, u.calStore_factorAx o g hj hx h63 hne]
  obtain ⟨u, hu, heu⟩ := hfac AX.CAL_OFS.OFS hio (by decide) (by simp only [RF.addr, AX.CAL_OFS.OFS, axisBase]; omega)
    (by simp only [RF.addr, AX.CAL_OFS.OFS, AX.ADC_HEALTH.CAL_ERR]; omega) hoo
  obtain ⟨v, hv, hev⟩ := hfac AX.CAL_GAIN.GAIN hig (by decide) (by simp only [RF.addr, AX.CAL_GAIN.GAIN, axisBase]; omega)
    (by simp only [RF.addr, AX.CAL_GAIN.GAIN, AX.ADC_HEALTH.CAL_ERR]; omega) hog
  refine ⟨fun h => ⟨?_, ?_⟩, fun h => ⟨?_, ?_⟩, ?_⟩
  · rw [State.rdS, heu]
    exact ((u.calTakeAx_own hj o g).1 h).1
  · rw [State.rdS, hev]
    exact ((v.calTakeAx_own hj o g).1 h).2
  · rw [heu, (u.calTakeAx_own hj o g).2 h, hu]
  · rw [hev, (v.calTakeAx_own hj o g).2 h, hv]
  · obtain ⟨w, -, hw⟩ := State.calStores_single hsel hone (fun u => u.rdBit AX.ADC_HEALTH.CAL_ERR j n)
      (fun u k o g hk hne => u.calStore_otherBit o g hn hj hk hne) s.calOver
    rw [State.rdBit, s.calDone_stores c f (by decide) (inFront_adcHealth hn) (by simp only [RF.addr, AX.ADC_HEALTH.CAL_ERR]; omega)
      (by simp only [inVib, RF.addr, AX.ADC_HEALTH.CAL_ERR]; omega)]
    exact hw.trans (w.calStore_ownBit o g hn hj)

end

/-! ### A calibration that failed -/

section
variable (s : State) (c : CalH)

/-- All factors keep. -/
theorem State.calFailed_factor {g : RF} {i j : Nat} (hg : g.hi ≠ 63) (hx : InFront (g.addr i j)) (hlow : 0x2000080800 ≤ g.addr i j) :
    (s.calFailed c).rd g i j = s.rd g i j := by
  have hb : g.addr i j ≠ MF.CAL_STATUS.BUSY.base := by
    rw [show MF.CAL_STATUS.BUSY.base = 0x2000080004 from rfl]
    omega
  have hv : ¬inVib (g.addr i j) := by
    unfold inVib
    omega
  have h := (State.calTail_front (s.calOver.raise MF.CAL_STATUS.REF_ERR) c.sel true ⟨_, hx⟩ hv hb).trans
    (State.front_raise_off s.calOver ⟨_, hx⟩ MF.CAL_STATUS.REF_ERR hb (by decide))
  exact State.rd_congr _ _ _ (congrArg Prod.fst h) fun e => absurd e hg
theorem State.calFailed_shows : (s.calFailed c).flag MF.CAL_STATUS.BUSY = false ∧ (s.calFailed c).flag MF.CAL_STATUS.REF_ERR = true ∧
    (s.calFailed c).cal = none := by
  refine ⟨State.calTail_busy _ _ _, ?_, State.calTail_cal _ _ _⟩
  rw [State.flag, State.calFailed, State.calTail_status _ _ _ (g := MF.CAL_STATUS.REF_ERR) (by decide) rfl (by decide)]
  exact State.flag_raise _ _ _ _ (by decide)

end

/-- Settles O33: a start by the skips' frame, the end by the converters' own registers, and a snapshot by the fields of its set. -/
theorem calibrationAndMonitorCommands : Obligations.CalibrationAndMonitorCommands := by
  unfold Obligations.CalibrationAndMonitorCommands
  refine ⟨?start, ?busy, ?idle, ?done, ?stored, ?storedAxis, ?refErr, ?snap, ?auto⟩
  case start =>
    intro s m v h hfw hb
    exact calCmdStart_starts h hfw hb
  case busy =>
    intro s m v h _ hb
    exact calCmdStart_busy h hb
  case idle =>
    intro s m v h hfw hb
    exact calCmdStart_idle h hfw hb
  case done =>
    intro s r f c hc hr
    obtain ⟨hbusy, hdone, hcal, htime⟩ := s.calDone_shows c f
    exact ⟨_, execCalComplete_done hc (refBad_eq_false hr), hbusy, hdone, hcal, htime, s.calDone_noted c f⟩
  case stored =>
    intro s r f c i o g hc hsel hone hr
    exact ⟨_, execCalComplete_done hc (refBad_eq_false hr), s.calDone_own hsel hone i.isLt⟩
  case storedAxis =>
    intro s r f c n j o g _ hc hsel hone hr
    exact ⟨_, execCalComplete_done hc (refBad_eq_false hr), s.calDone_ownAx n.isLt j.isLt hsel hone⟩
  case refErr =>
    intro s r f c hc hr
    obtain ⟨hbusy, herr, hcal⟩ := s.calFailed_shows c
    refine ⟨_, execCalComplete_failed hc (refBad_eq_true hr), hbusy, herr, hcal, fun i => ?_, fun n j => ?_⟩
    · obtain ⟨hio, hig⟩ := inFront_mfCal i.isLt
      exact ⟨s.calFailed_factor c (by decide) hio (by simp [RF.addr, MF.CAL_OFS.OFS]),
        s.calFailed_factor c (by decide) hig (by simp only [RF.addr, MF.CAL_GAIN.GAIN]; omega)⟩
    · obtain ⟨hio, hig⟩ := inFront_axCal n.isLt j.isLt
      exact ⟨s.calFailed_factor c (by decide) hio (by simp only [RF.addr, AX.CAL_OFS.OFS]; omega),
        s.calFailed_factor c (by decide) hig (by simp only [RF.addr, AX.CAL_GAIN.GAIN]; omega)⟩
  case snap =>
    intro s m k v _ h
    exact ⟨_, rfl, s.monSnapWrite_shows m k v.toNat h⟩
  case auto =>
    intro s k _ hauto hdue
    exact ⟨_, if_pos ⟨hauto, hdue⟩, s.monSnap_shows k⟩

end Sys2Proof.Machine
end

section
/-!
SUPPORT. What a waiting PRESET of an axis's speed loop rests on through a loop step (R107, R125, R128): the PRESET itself, the period its speed steps
count from, an SS1 ramp, and whether the axis's timebase is live.
-/
namespace Sys2Proof.Machine
open Sys2Proof.Safety

/-! ### The view, and what leaves it -/

/-- The PRESET that waits at axis `n`, the period of its first speed step, its SS1 ramp, and whether timebase `n` is live. -/
def State.hand (s : State) (n : Nat) : (Bool × Nat × Option (Nat × Nat)) × Bool :=
  (((s.fo n).preset, (s.fo n).steps, (s.sx n).ss1), (s.tb n).live)

section
variable (s : State) (n : Nat)

theorem State.hand_congr {s t : State} (hf : t.focs = s.focs) (hs : t.safAxs = s.safAxs) (ht : t.tbs = s.tbs) : t.hand n = s.hand n := by
  simp only [State.hand, State.fo, State.sx, State.tb, hf, hs, ht]

section
variable (f : RF) (i j : Nat)
@[simp] theorem State.wr_hand (v : Nat) : (s.wr f v i j).hand n = s.hand n := State.hand_congr n (by simp) (by simp) (by simp)
@[simp] theorem State.wrS_hand (v : Int) : (s.wrS f v i j).hand n = s.hand n := s.wr_hand n f i j _
@[simp] theorem State.raise_hand : (s.raise f i j).hand n = s.hand n := s.wr_hand n f i j 1
@[simp] theorem State.clear_hand : (s.clear f i j).hand n = s.hand n := s.wr_hand n f i j 0
@[simp] theorem State.incWrap_hand (k : Nat) : (s.incWrap f i j k).hand n = s.hand n := s.wr_hand n f i j _
@[simp] theorem State.incSat_hand (k : Nat) : (s.incSat f i j k).hand n = s.hand n := s.wr_hand n f i j _
@[simp] theorem State.raiseIf_hand (c : Bool) : (s.raiseIf c f i j).hand n = s.hand n := by
  unfold State.raiseIf
  split
  · exact s.raise_hand n f i j
  · rfl
@[simp] theorem State.put_hand (b : Bool) : (s.put f b i j).hand n = s.hand n := by
  unfold State.put
  split
  · exact s.raise_hand n f i j
  · exact s.clear_hand n f i j
end

@[simp] theorem hand_ite (c : Prop) [Decidable c] (a b : State) : (if c then a else b).hand n = if c then a.hand n else b.hand n := by
  split <;> rfl
theorem State.forEach_hand {α : Type} (l : List α) (f : State → α → State) (h : ∀ u a, (f u a).hand n = u.hand n) :
    (s.forEach l f).hand n = s.hand n := foldl_keep (fun u => u.hand n) f h l s

@[simp] theorem State.emitAt_hand (at_ code source : Nat) (payload : List Nat) (merge : Bool) :
    (s.emitAt at_ code source payload merge).hand n = s.hand n := State.hand_congr n (by simp) (by simp) (by simp)
@[simp] theorem State.emit_hand (code source : Nat) (payload : List Nat) : (s.emit code source payload).hand n = s.hand n := s.emitAt_hand n _ _ _ _ _
@[simp] theorem State.emitMerge_hand (code source : Nat) (payload : List Nat) : (s.emitMerge code source payload).hand n = s.hand n :=
  s.emitAt_hand n _ _ _ _ _
@[simp] theorem State.updSlot_hand (k : Nat) (f : SlotH → SlotH) : (s.updSlot k f).hand n = s.hand n := State.hand_congr n rfl rfl rfl
@[simp] theorem State.updPw_hand (k : Nat) (f : PwmH → PwmH) : (s.updPw k f).hand n = s.hand n := State.hand_congr n rfl rfl rfl
@[simp] theorem State.updCm_hand (k : Nat) (f : CmtH → CmtH) : (s.updCm k f).hand n = s.hand n := State.hand_congr n rfl rfl rfl
@[simp] theorem State.updOb_hand (k : Nat) (f : ObsH → ObsH) : (s.updOb k f).hand n = s.hand n := State.hand_congr n rfl rfl rfl
@[simp] theorem State.updMon_hand (k : Nat) (f : MonH → MonH) : (s.updMon k f).hand n = s.hand n := State.hand_congr n rfl rfl rfl
@[simp] theorem State.monAdd_hand (k : Nat) (v : Int) (stamp : Nat) (ovr : Bool) : (s.monAdd k v stamp ovr).hand n = s.hand n :=
  s.updMon_hand n k _
@[simp] theorem State.draw_hand : s.draw.2.hand n = s.hand n := State.hand_congr n rfl rfl rfl
@[simp] theorem State.twinSend_hand (t : Nat) (payload : List Nat) : (s.twinSend t payload).hand n = s.hand n := by
  unfold State.twinSend State.linkSend
  dsimp only
  split
  · split
    · split <;> rfl
    · rfl
  · rfl
/-- A change of the loop's state beside the PRESET and the period of the first speed step. -/
theorem State.updFo_hand (f : FocH → FocH) (h : ∀ x, (f x).preset = x.preset ∧ (f x).steps = x.steps) : (s.updFo n f).hand n = s.hand n := by
  obtain ⟨hp, hs⟩ := h (s.fo n)
  have hf : (s.updFo n f).fo n = f (s.fo n) := Tab.get_put_self _ _ _ _
  rw [State.hand, hf, hp, hs]
  rfl
/-- A change of a timebase that leaves whether it is live. -/
theorem State.updTb_hand (f : TbH → TbH) (h : ∀ x, (f x).live = x.live) : (s.updTb n f).hand n = s.hand n := by
  have hf : (s.updTb n f).tb n = f (s.tb n) := Tab.get_put_self _ _ _ _
  rw [State.hand, hf, h]
  rfl
/-- The note of an update makes a timebase live, and changes nothing else of the view. -/
theorem State.tbNote_hand (t stamp : Nat) (ang spd : Int) (live : Bool) : ((s.tbNote t stamp ang spd live).hand n).1 = (s.hand n).1 := rfl

/-! ### Slots (R44 to R49) -/

theorem State.slotWait_hand (k : Nat) : (s.slotWait k).hand n = s.hand n := by
  simp [State.slotWait]
theorem State.slotArm_hand (k c : Nat) (late : Bool) : (s.slotArm k c late).hand n = s.hand n := by
  simp [State.slotArm]
theorem State.slotBacklog_hand (k c m : Nat) : (s.slotBacklog k c m).hand n = s.hand n := by
  simp [State.slotBacklog, State.slotArm_hand]
theorem State.slotPredict_hand (k : Nat) (angle : Int) (stamp c : Nat) (prev : Option Int) : (s.slotPredict k angle stamp c prev).hand n = s.hand n := by
  unfold State.slotPredict
  split <;> simp [State.slotWait_hand, State.slotArm_hand, State.slotBacklog_hand]
theorem State.slotTake_hand (k y : Nat) (angle : Int) (stamp c : Nat) (prev : Int) : (s.slotTake k y angle stamp c prev).hand n = s.hand n := by
  simp [State.slotTake, State.slotBacklog_hand, State.slotPredict_hand]
theorem State.slotsTbUpdate_hand (t : Nat) (prev : Int) : (s.slotsTbUpdate t prev).hand n = s.hand n :=
  s.forEach_hand n _ _ fun u k => by
    dsimp only
    split
    · split
      · simp [State.slotTake_hand]
      · simp [State.slotPredict_hand]
    · rfl
theorem State.slotsResid_hand (t : Nat) : (s.slotsResid t).hand n = s.hand n :=
  s.forEach_hand n _ _ fun u k => by
    dsimp only
    split
    · rfl
    · simp

/-! ### The estimate (R185 to R190) -/

@[simp] theorem State.classicStep_hand (ts : Nat) (ialpha ibeta : Int) (vbus k : Nat) : (s.classicStep k ts ialpha ibeta vbus).hand n = s.hand n := by
  unfold State.classicStep
  extract_lets
  exact s.updOb_hand n k _
@[simp] theorem State.obsMismatch_hand (k : Nat) (e : EvalH) (o : Nat) (invalid : Bool) : (s.obsMismatch k e o invalid).hand n = s.hand n := by
  simp [State.obsMismatch]
@[simp] theorem State.obsEscalate_hand (k : Nat) : (s.obsEscalate k).hand n = s.hand n := by
  simp [State.obsEscalate]
@[simp] theorem State.evalSelect_hand (k : Nat) (e : EvalH) : (s.evalSelect k e).2.hand n = s.hand n := by
  unfold State.evalSelect
  dsimp only
  split
  · simp
  · split
    · rfl
    · split
      · split <;> simp
      · split <;> simp
@[simp] theorem State.clampNote_hand (k : Nat) (c : Bool) : (s.clampNote k c).hand n = s.hand n := by
  simp [State.clampNote]
@[simp] theorem State.clampPosition_hand (k ts : Nat) (th om : Int) : (s.clampPosition k ts th om).2.2.hand n = s.hand n := by
  simp [State.clampPosition]
@[simp] theorem State.clampTemp_hand (k : Nat) (tw : Int) (tb : Option Int) : (s.clampTemp k tw tb).2.2.hand n = s.hand n := by
  unfold State.clampTemp
  dsimp only
  split <;> simp
@[simp] theorem State.clampLoad_hand (k : Nat) (l : Int) : (s.clampLoad k l).2.hand n = s.hand n := by
  simp [State.clampLoad]
@[simp] theorem State.obsPick_hand (k kind : Nat) (es : List EvalH) : (s.obsPick k kind es).2.2.hand n = s.hand n := by
  unfold State.obsPick
  dsimp only
  split
  · rfl
  · split
    next e _ =>
      have he := s.evalSelect_hand n k e
      split <;> next h => rwa [h] at he
    · split
      · rfl
      · split
        · split <;> rfl
        · rfl
@[simp] theorem State.deliverPosition_hand (k ts : Nat) (es : List EvalH) : (s.deliverPosition k ts es).2.hand n = s.hand n := by
  unfold State.deliverPosition
  dsimp only
  split
  · simp
  · split <;> simp
@[simp] theorem State.deliverTemp_hand (k ts : Nat) (es : List EvalH) : (s.deliverTemp k ts es).2.hand n = s.hand n := by
  unfold State.deliverTemp
  dsimp only
  split
  · simp
  · split <;> simp
@[simp] theorem State.deliverLoad_hand (k ts : Nat) (es : List EvalH) : (s.deliverLoad k ts es).2.hand n = s.hand n := by
  unfold State.deliverLoad
  dsimp only
  split
  · simp
  · split <;> simp
@[simp] theorem State.obsDeliver_hand (k ts : Nat) (es : List EvalH) : (s.obsDeliver k ts es).hand n = s.hand n := by
  simp [State.obsDeliver]
@[simp] theorem State.sendShadow_hand (k : Nat) (st : StepH) : (s.sendShadow k st).hand n = s.hand n := by
  simp [State.sendShadow]

/-! ### The current loop (R111 to R126, R130 to R134) -/

theorem State.transfers_hand (st : StepH) (ffd ffq iq : Int) : (s.transfers n st ffd ffq iq).hand n = s.hand n := by
  unfold State.transfers
  extract_lets h s1 lf cur spdIn spdCur inex s2 vd vq s3 pre s4 s5
  have h2 : s2.hand n = s.hand n := (s1.raiseIf_hand n _ _ _ _).trans (s.put_hand n _ _ _ _)
  have h3 : s3.hand n = s2.hand n := by
    unfold s3
    split
    · exact s2.updFo_hand n _ fun _ => ⟨rfl, rfl⟩
    · rfl
  have h4 : s4.hand n = s3.hand n := by
    unfold s4
    split
    · exact s3.updFo_hand n _ fun _ => ⟨rfl, rfl⟩
    · rfl
  have h5 : s5.hand n = s4.hand n := by
    unfold s5
    split
    · exact s4.updFo_hand n _ fun _ => ⟨rfl, rfl⟩
    · rfl
  rw [State.updFo_hand]
  · exact h5.trans (h4.trans (h3.trans h2))
  · exact fun _ => ⟨rfl, rfl⟩
theorem State.torqueLimit_hand (k : Nat) (iq om : Int) : (s.torqueLimit k iq om).2.2.hand n = s.hand n := by
  simp [State.torqueLimit]
theorem State.stepRefs_hand (st : StepH) (om : Int) : (s.stepRefs n st om).2.2.hand n = s.hand n := by
  unfold State.stepRefs
  dsimp only
  split
  · simp
  · split
    · simp
    · split <;> simp [State.updFo_hand, State.torqueLimit_hand]
theorem State.windowSkip_hand (k x : Nat) : (s.windowSkip k x).hand n = s.hand n := by
  simp [State.windowSkip]
theorem State.windowTake_hand (k x : Nat) (fwd : Bool) (tOpen b1 : Nat) : (s.windowTake k x fwd tOpen b1).hand n = s.hand n := by
  simp [State.windowTake]
theorem State.planWindow_hand (k : Nat) (st : StepH) (th om : Int) (i : List Int) : (s.planWindow k st th om i).hand n = s.hand n := by
  simp [State.planWindow, State.windowTake_hand, State.windowSkip_hand]
theorem State.loopDuty_hand (k j d : Nat) : (s.loopDuty k j d).hand n = s.hand n := by
  simp [State.loopDuty, State.tagShadow]
theorem State.phaseDuty_hand (j top nextB : Nat) (v mm i : Int) : (s.phaseDuty n j top nextB v mm i).hand n = s.hand n := by
  unfold State.phaseDuty
  dsimp only
  split
  · simp [State.loopDuty_hand]
  · split <;> simp [State.updFo_hand, State.loopDuty_hand]
theorem State.stepCurrent_hand (st : StepH) (th om : Int) : (s.stepCurrent n st th om).hand n = s.hand n := by
  unfold State.stepCurrent
  extract_lets i ff s1 r s2 f ed eq_ yud yuq vd vq code vmin s3 bus s4 base ud0 uq0 thOut u red s5 s6 vdF vqF yfd yfq awD awQ s7 s8 ab v mm
    s9 s10 s11 s12 s13 b p s14 s15 s16
  have h2 : s2.hand n = s.hand n := (s1.stepRefs_hand n st om).trans (s.transfers_hand n st ff.1 ff.2 i.2)
  have h4 : s4.hand n = s2.hand n := (s3.wr_hand n _ _ _ _).trans (s2.raiseIf_hand n _ _ _ _)
  have h6 : s6.hand n = s4.hand n := by
    unfold s6
    rw [hand_ite, State.incWrap_hand, ite_self]
    exact s4.put_hand n _ _ _ _
  have h8 : s8.hand n = s6.hand n := by
    unfold s8 s7
    simp [State.updFo_hand]
  have h10 : s10.hand n = s8.hand n := (s9.planWindow_hand n n st th om _).trans (s8.wr_hand n _ _ _ _)
  have h13 : s13.hand n = s10.hand n := (s12.phaseDuty_hand n _ _ _ _ _ _).trans
    ((s11.phaseDuty_hand n _ _ _ _ _ _).trans (s10.phaseDuty_hand n _ _ _ _ _ _))
  have h14 : s14.hand n = s13.hand n := (State.updPw_hand _ n n _).trans (s13.raise_hand n _ _ _)
  have h15 : s15.hand n = s14.hand n := by
    unfold s15
    exact s14.updFo_hand n _ fun _ => ⟨rfl, rfl⟩
  have h16 : s16.hand n = s15.hand n := (State.monAdd_hand _ n _ _ _ _).trans (s15.monAdd_hand n _ _ _ _)
  rw [State.monAdd_hand, State.monAdd_hand]
  exact h16.trans (h15.trans (h14.trans (h13.trans (h10.trans (h8.trans (h6.trans (h4.trans h2)))))))

end

end Sys2Proof.Machine
end

section
/-!
SUPPORT. A loop step with a waiting PRESET on an axis whose timebase follows its observer (R40, R107, R125, R128): the step updates the timebase before
the speed loop reads it; O25.
-/
namespace Sys2Proof.Machine
open Sys2Proof.Safety

/-! ### The timebase's registers -/

/-- Every register of DEVICE TIME and the timebases, and AX.PWM_CTRL of axis `n`, reads as before. -/
def LoopRegs (n : Nat) (s t : State) : Prop := (∀ a < lowEnd, t.reg a = s.reg a) ∧ t.reg (AX.PWM_CTRL.EN.addr n) = s.reg (AX.PWM_CTRL.EN.addr n)

theorem not_isReg_low {f : RF} {x : Nat} (hx : x < lowEnd) (hf : lowEnd ≤ f.base) : ¬IsReg f x := by
  rintro ⟨i, j, h⟩
  simp only [RF.addr] at h
  generalize i * f.s1 = a at h
  generalize j * f.s2 = b at h
  omega

section
variable {s t : State} {n : Nat} (hn : n < 64) (h : ∀ a < lowEnd, t.reg a = s.reg a)
include hn h

theorem rd_of_low {g : RF} (hg : g.s1 = 0x100 ∧ g.s2 = 0 ∧ g.base < 0x2000050100 ∧ g.hi < 63) : t.rd g n = s.rd g n := by
  obtain ⟨h1, h2, hb, h63⟩ := hg
  refine State.rd_congr g n 0 (h _ ?_) fun e => absurd e (by omega)
  simp only [RF.addr, h1, h2, lowEnd]
  omega
theorem tbSpeed_of_low : t.tbSpeed n = s.tbSpeed n := by
  unfold State.tbSpeed State.rdS
  rw [rd_of_low hn h (g := TB.STATUS.STATE) (by decide), rd_of_low hn h (g := TB.SPEED.SPEED) (by decide)]
theorem tbDerived_of_low : t.tbDerived n = s.tbDerived n := by
  unfold State.tbDerived
  rw [rd_of_low hn h (g := TB.CFG.SRC) (by decide), rd_of_low hn h (g := TB.CFG.FALLBACK) (by decide)]
/-- A timebase that derives from none works where it did. -/
theorem tbOn_of_low (hd : s.tbDerived n = false) : t.tbOn n = s.tbOn n := by
  have hreach : ∀ u : State, u.tbDerived n = false → u.tbReaches n 64 n = false := fun u hu => by
    rw [State.tbReaches, hu, Bool.false_and]
  unfold State.tbOn State.tbValid State.flag
  rw [hreach s hd, hreach t ((tbDerived_of_low hn h).trans hd), rd_of_low hn h (g := TB.CFG.EN) (by decide), rd_of_low hn h (g := TB.CFG.KIND) (by decide),
    rd_of_low hn h (g := TB.CFG.SRC) (by decide), rd_of_low hn h (g := TB.CFG.FALLBACK) (by decide), rd_of_low hn h (g := TB.RATIO.DEN) (by decide),
    rd_of_low hn h (g := TB.STATUS.CFG_ERR) (by decide)]

end

/-! ### An update of the timebase -/

section
variable (s : State) (n : Nat)

/-- An update that is no correction, of a timebase that is not live. -/
theorem State.tbWrite_hand (ang spd : Int) (stamp : Nat) (hl : (s.tb n).live = false) :
    ((s.tbWrite n ang spd stamp false).hand n).1 = (s.hand n).1 := by
  unfold State.tbWrite
  simp only [Bool.false_and, Bool.false_eq_true, if_false]
  have hw : ∀ (a v : Int) (p : Nat), (((s.wrS TB.ANGLE a n).wrS TB.SPEED.SPEED v n).wr TB.STAMP p n).hand n = s.hand n := fun a v p => by simp
  have hlive : ∀ (a v : Int) (p : Nat), ((((s.wrS TB.ANGLE a n).wrS TB.SPEED.SPEED v n).wr TB.STAMP p n).tb n).live = false := fun a v p =>
    (congrArg Prod.snd (hw a v p)).trans hl
  rw [if_neg (Bool.eq_false_iff.mp (hlive _ _ _)), State.slotsTbUpdate_hand, State.slotsResid_hand, State.tbNote_hand, hw]
/-- A timebase in PRIMARY takes an update of its primary. -/
theorem State.tbSource_of_primary (ang spd : Int) (stamp : Nat) (hon : s.tbOn n = true) (hst : s.rd TB.STATUS.STATE n = tbPrimary) :
    ∃ f : TbH → TbH, (∀ x, (f x).live = x.live) ∧ s.tbSource n true ang spd stamp = ((s.updTb n f).tbWrite n ang spd stamp false, true) := by
  unfold State.tbSource
  dsimp only
  rw [hon, if_neg (by decide), if_pos rfl, hst, if_neg (by decide), if_pos rfl]
  refine ⟨_, ?_, rfl⟩
  exact fun _ => rfl

/-- An update by the observer of a timebase in PRIMARY, not live, from which none derives. -/
theorem State.tbUpdate_slow (hn : n < 64) (ang spd : Int) (stamp : Nat) (hon : s.tbOn n = true) (hsrc : s.rd TB.CFG.SRC n = 1)
    (hst : s.rd TB.STATUS.STATE n = tbPrimary) (hd : ∀ x < 64, s.tbDerived x = false) (hl : (s.tb n).live = false) :
    ((s.tbUpdate n 1 ang spd stamp).hand n).1 = (s.hand n).1 ∧ (s.tbUpdate n 1 ang spd stamp).tbSpeed n = toS 32 (ofS 32 (satS 32 spd)) := by
  obtain ⟨f, hf, he⟩ := s.tbSource_of_primary n ang spd stamp hon hst
  rw [s.tbUpdate_primary n 1 hn ang spd stamp hon hsrc (.inr hst) fun x hx h => absurd h (by simp [hd x hx]), he]
  have hh := s.updTb_hand n f hf
  refine ⟨?_, ?_⟩
  · rw [State.tbWrite_hand _ _ _ _ _ ((congrArg Prod.snd hh).trans hl), hh]
  · have hstate : ((s.updTb n f).tbWrite n ang spd stamp false).rd TB.STATUS.STATE n = tbPrimary :=
      (State.tbWrite_state _ n ang spd stamp false n hn).trans hst
    rw [State.tbSpeed, hstate, if_neg (by decide), State.rdS, (State.tbWrite_rd _ n ang spd stamp false hn).2.1]
    rfl

end

/-! ### The start of a step -/

section
variable (s : State) (n : Nat)

theorem State.curSample_loop (c : Nat) (raw : Int) (ts : Nat) : (s.curSample n c raw ts).2.hand n = s.hand n ∧
    (s.curSample n c raw ts).2.nets = s.nets ∧ OnlyRegs s (s.curSample n c raw ts).2 [AX.ADC_STATUS.OVR.addr n] := by
  unfold State.curSample
  extract_lets w v ovr
  refine ⟨?_, ?_, ?_⟩
  · simp
  · simp [State.monAdd]
  · exact onlyRegs_of_reg (onlyRegs_raiseIf (onlyRegs_refl s _) ovr AX.ADC_STATUS.OVR n 0 (by simp) nofun) fun a => State.updMon_reg _ _ _ a
/-- The three converters sample, and K compares with neither. -/
theorem State.sampleCurrents_loop (ts : Nat) (ra rb rk : Int) (hk : s.rd AX.ADC_HEALTH.ROLE_K n = 3) :
    (s.sampleCurrents n ts ra rb rk).2.2.hand n = s.hand n ∧ (s.sampleCurrents n ts ra rb rk).2.2.nets = s.nets ∧
    OnlyRegs s (s.sampleCurrents n ts ra rb rk).2.2 [AX.ADC_STATUS.OVR.addr n] := by
  unfold State.sampleCurrents
  extract_lets a b k s1 role x ia ib
  obtain ⟨ha, hna, hra⟩ := s.curSample_loop n 0 ra ts
  obtain ⟨hb, hnb, hrb⟩ := a.2.curSample_loop n 1 rb ts
  obtain ⟨hk', hnk, hrk⟩ := b.2.curSample_loop n 2 rk ts
  have hregs : OnlyRegs s s1 [AX.ADC_STATUS.OVR.addr n] := onlyRegs_of_reg (onlyRegs_trans (onlyRegs_trans hra hrb) hrk) fun _ => rfl
  have hrole : role = 3 := by
    refine (onlyRegs_rd hregs AX.ADC_HEALTH.ROLE_K n 0 ?_ nofun).trans hk
    simp only [List.mem_singleton, RF.addr, AX.ADC_HEALTH.ROLE_K, AX.ADC_STATUS.OVR]
    omega
  simp only [hrole, if_neg (show ¬(3 = 0) by decide)]
  exact ⟨(State.updPw_hand _ n n _).trans (hk'.trans (hb.trans ha)), hnk.trans (hnb.trans hna), hregs⟩
/-- Without a network nothing is released. -/
theorem State.obsRelease_of_none (ts : Nat) (ia ib : Int) (h : ∀ k : Fin 3, s.net n k = none) : s.obsRelease n ts ia ib = ([], s) := by
  have hany : ([0, 1, 2].any fun kind => (s.net n kind).isSome) = false := by
    have h0 := h 0
    have h1 := h 1
    have h2 := h 2
    simp only [Fin.val_zero, Fin.val_one, Fin.val_two] at h0 h1 h2
    simp [h0, h1, h2]
  unfold State.obsRelease
  simp only [hany, Bool.not_false, Bool.or_true, Bool.true_or, if_true]

/-- A step of the loop that starts with a waiting PRESET and without networks. -/
theorem State.stepStart_loop (ts mode : Nat) (ra rb rk : Int) (hh : s.handoverDue n = false) (hrun : s.flag AX.FOC_CTRL.RUN n = true)
    (hk : s.rd AX.ADC_HEALTH.ROLE_K n = 3) (hnets : ∀ k : Fin 3, s.net n k = none) (hspd : s.flag AX.FOC_CTRL.SPD_EN n = true)
    (hfresh : (s.fo n).fresh = true) :
    ∃ st : StepH, ((s.stepStart n ts mode ra rb rk).fo n).step = some st ∧ st.mode = 0 ∧ st.spd = true ∧ st.period = (s.pw n).periods ∧
      st.evals = [] ∧ (s.stepStart n ts mode ra rb rk).hand n = (((s.fo n).preset, (s.pw n).periods, (s.sx n).ss1), (s.tb n).live) ∧
      OnlyRegs s (s.stepStart n ts mode ra rb rk) [AX.ADC_STATUS.OVR.addr n] := by
  unfold State.stepStart
  extract_lets s1 mode' h d q c per s2 r s3 ia ib k man spd li e
  have e1 : s1 = s := if_neg (by simp [hh])
  have hmode : mode' = 0 := if_pos (by rw [e1]; exact hrun)
  have hper : per = (s.pw n).periods := by rw [← e1]
  obtain ⟨hhand, hnet, hregs⟩ := s2.sampleCurrents_loop n ts ra rb rk (by rw [← hk, ← e1]; exact (State.updFo_rd _ _ _ _ _ _).1)
  have hs2 : s2.hand n = (((s.fo n).preset, (s.pw n).periods, (s.sx n).ss1), (s.tb n).live) := by
    have hfo : s2.fo n = _ := State.updFo_same s1 n _
    have hsx : s2.sx n = s.sx n := congrArg (fun u => u.sx n) e1
    have htb : s2.tb n = s.tb n := congrArg (fun u => u.tb n) e1
    rw [State.hand, hfo, e1, hsx, htb]
    simp only [hfresh, if_true, hper]
  have hnone : ∀ k : Fin 3, s3.net n k = none := fun k => by
    have hs : s1.nets = s.nets := by rw [e1]
    rw [State.net, hnet, show s2.nets = s1.nets from rfl, hs]
    exact hnets k
  have he : e = ([], s3) := s3.obsRelease_of_none n ts _ _ hnone
  have hregs3 : OnlyRegs s s3 [AX.ADC_STATUS.OVR.addr n] := e1 ▸ onlyRegs_trans (onlyRegs_of_reg (onlyRegs_refl s1 _) fun _ => rfl) hregs
  have hspd3 : spd = true := by
    have hf : s3.rd AX.FOC_CTRL.SPD_EN n = s.rd AX.FOC_CTRL.SPD_EN n := onlyRegs_rd hregs3 _ _ _ (by
      simp only [List.mem_singleton, RF.addr, AX.FOC_CTRL.SPD_EN, AX.ADC_STATUS.OVR]
      omega) nofun
    simp only [spd, hmode, State.flag, hf]
    exact hspd
  rw [he]
  refine ⟨_, congrArg FocH.step (State.updFo_same s3 n _), hmode, hspd3, hper, rfl, ?_, ?_⟩
  · rw [State.updFo_hand, hhand, hs2]
    exact fun _ => ⟨rfl, rfl⟩
  · exact onlyRegs_of_reg hregs3 fun _ => rfl

end

/-! ### The conclusion of a step -/

section
variable (s : State) (n : Nat) (st : StepH)

/-- The step with its estimates delivered, and with its position and its currents. -/
def State.stepBegun : State :=
  let s := s.sendShadow n st
  (s.classicStep n st.ts st.ialpha st.ibeta (max (s.busCode n) (s.rd AX.FOC_VBASE.VMIN n))).obsDeliver n st.ts st.evals
def State.stepRun : State :=
  let p := s.stepPosition n st
  (p.2.2.updCm n fun h => { h with theta := p.1, omega := p.2.1, at_ := st.ts }).stepCurrent n st p.1 p.2.1
theorem State.concludeStep_eq (hst : (s.fo n).step = some st) (hon : (s.stepBegun n st).axOn n = true)
    (hdue : ((s.stepBegun n st).stepRun n st).speedDue n st = true) : s.concludeStep n =
    ((((s.stepBegun n st).stepRun n st).speedStep n st.ts st.man).updFo n fun h => { h with step := none }).correctLate n := by
  unfold State.concludeStep
  rw [hst]
  refine (if_neg (ne_of_eq_of_ne hon (by decide))).trans ?_
  show (State.updFo (if ((s.stepBegun n st).stepRun n st).speedDue n st then ((s.stepBegun n st).stepRun n st).speedStep n st.ts st.man
    else (s.stepBegun n st).stepRun n st) n fun h => { h with step := none }).correctLate n = _
  rw [if_pos hdue]

theorem State.stepBegun_hand : (s.stepBegun n st).hand n = s.hand n := by
  simp [State.stepBegun]
theorem State.stepBegun_regs : LoopRegs n s (s.stepBegun n st) := by
  have hreg : ∀ a, Off [AX.OBS_STATUS.MODE, AX.OBS_CNT.EVAL_CNT, AX.OBS_LAST_MISM, AX.OBS_EST_THETA.THETA, AX.OBS_EST_OMEGA.OMEGA,
      AX.OBS_EST_T.T_W, AX.OBS_EST_LOAD.LOAD, AX.OBS_EST_STAMP, AX.OBS_EST_SRC.SRC, OBS.STATUS.DEMOTE, REC.QUEUE.VALUE, REC.EVT_TOTAL] a →
      (s.stepBegun n st).reg a = s.reg a := fun a ha =>
    (State.obsDeliver_regs _ n st.ts st.evals a ha).trans ((State.classicStep_regs _ n _ _ _ _ a).trans (s.sendShadow_regs n st a))
  refine ⟨fun a ha => hreg a ?_, hreg _ ?_⟩
  · simp only [Off_cons, Off_nil]
    simp +decide [not_isReg_low ha]
  · simp only [Off_cons, Off_nil, IsReg, RF.addr, AX.OBS_STATUS.MODE, AX.OBS_CNT.EVAL_CNT, AX.OBS_LAST_MISM, AX.OBS_EST_THETA.THETA,
      AX.OBS_EST_OMEGA.OMEGA, AX.OBS_EST_T.T_W, AX.OBS_EST_LOAD.LOAD, AX.OBS_EST_STAMP, AX.OBS_EST_SRC.SRC, OBS.STATUS.DEMOTE, REC.QUEUE.VALUE,
      REC.EVT_TOTAL, AX.PWM_CTRL.EN, not_exists]
    refine ⟨?_, ?_, ?_, ?_, ?_, ?_, ?_, ?_, ?_, ?_, ?_, ?_, trivial⟩ <;> intro i j <;> omega

/-- The position of a step updates the axis's timebase. -/
theorem State.stepPosition_eq (hm : st.mode = 0) : ∃ (x : State) (a o : Int), (∀ b < lowEnd, x.reg b = s.reg b) ∧ x.hand n = s.hand n ∧
    (s.stepPosition n st).2.2 = x.tbUpdate n 1 (scaleRatio a (x.rd TB.RATIO.NUM n) (x.rd TB.RATIO.DEN n))
      (scaleRatio o (x.rd TB.RATIO.NUM n) (x.rd TB.RATIO.DEN n)) st.ts := by
  unfold State.stepPosition
  extract_lets o h c th om ext elec s1 s2 num den s3
  have h1 : (∀ b < lowEnd, s1.reg b = s.reg b) ∧ s1.hand n = s.hand n := by
    unfold s1
    rw [if_pos hm]
    exact ⟨fun b hb => s.reg_wrS_low _ _ _ _ hb (by decide), s.wrS_hand n _ _ _ _⟩
  refine ⟨s2, elec, om, h1.1, (s1.updCm_hand n n _).trans h1.2, ?_⟩
  rw [if_pos hm]
theorem scaleRatio_zero (x : Int) (d : Nat) : scaleRatio x 0 d = 0 := by
  simp [scaleRatio]

/-- The timebase follows the observer, and none derives from any. -/
structure LoopTimebase : Prop where
  on : s.tbOn n = true
  src : s.rd TB.CFG.SRC n = 1
  state : s.rd TB.STATUS.STATE n = tbPrimary
  underived : ∀ x < 64, s.tbDerived x = false
  num : s.rd TB.RATIO.NUM n = 0
theorem LoopTimebase.of_low {s t : State} {n : Nat} (hn : n < 64) (h : LoopTimebase s n) (hl : ∀ a < lowEnd, t.reg a = s.reg a) : LoopTimebase t n where
  on := (tbOn_of_low hn hl (h.underived n hn)).trans h.on
  src := (rd_of_low hn hl (by decide)).trans h.src
  state := (rd_of_low hn hl (by decide)).trans h.state
  underived x hx := (tbDerived_of_low hx hl).trans (h.underived x hx)
  num := (rd_of_low hn hl (by decide)).trans h.num

/-- The axis's timebase stands still after the step, where its ratio is 0; the PRESET still waits. -/
theorem State.stepRun_still (hn : n < 64) (hm : st.mode = 0) (htb : LoopTimebase s n) (hl : (s.tb n).live = false) :
    ((s.stepRun n st).hand n).1 = (s.hand n).1 ∧ (s.stepRun n st).tbSpeed n = 0 := by
  obtain ⟨x, a, o, hlow, hh, he⟩ := s.stepPosition_eq n st hm
  obtain ⟨hon, hsrc, hst, hd, hnum⟩ := htb.of_low hn hlow
  obtain ⟨hhand, hspd⟩ := x.tbUpdate_slow n hn (scaleRatio a (x.rd TB.RATIO.NUM n) (x.rd TB.RATIO.DEN n))
    (scaleRatio o (x.rd TB.RATIO.NUM n) (x.rd TB.RATIO.DEN n)) st.ts hon hsrc hst hd ((congrArg Prod.snd hh).trans hl)
  rw [← he] at hhand hspd
  rw [hnum, scaleRatio_zero] at hspd
  unfold State.stepRun
  extract_lets p
  refine ⟨?_, ?_⟩
  · rw [State.stepCurrent_hand, State.updCm_hand, hhand, hh]
  · rw [tbSpeed_of_low hn fun b hb => State.stepCurrent_regs _ n st p.1 p.2.1 b (by simp +decide [not_isReg_low hb])]
    exact hspd

/-- The speed loop takes a waiting PRESET at the speed of the timebase: here it stands still. -/
theorem State.speedStep_ref (ts : Nat) (man : Bool) (hp : (s.fo n).preset = true) (hs : (s.sx n).ss1 = none) (hv : s.tbSpeed n = 0) :
    (s.speedStep n ts man).rdS AX.SPD_REF.REF n = 0 := by
  have hramp : ∀ dt, (s.rampStep n dt 0).rd AX.SPD_REF.REF n = 0 := fun dt => by
    unfold State.rampStep
    extract_lets s1 h ref set
    have hss : (s1.sx n).ss1.isSome = false := by
      rw [show s1.sx n = s.sx n by simp [s1, State.sx], hs]
      rfl
    have hpre : h.preset = true := by
      rw [show h = s.fo n by simp [h, s1, State.fo], hp]
    rw [if_neg (by simp [hss]), if_pos hpre]
    unfold set State.atTarget
    rw [State.rd_put_of_beside _ _ _ (by decide), (State.updFo_rd _ _ _ _ _ _).1]
    exact State.rd_wrS_self _ _ _ _ (by decide) (by decide)
  unfold State.speedStep
  extract_lets dt v s1 e s2 h yu ff
  have h2 : s2.rd AX.SPD_REF.REF n = 0 := by
    have hv' : v = 0 := hv
    unfold s2 s1 State.monAdd
    rw [(State.updMon_rd _ _ _ _ _ _).1, (State.updFo_rd _ _ _ _ _ _).1, hv']
    exact hramp dt
  rw [State.rdS]
  split
  · rw [h2]
    rfl
  · rw [(State.updFo_rd _ _ _ _ _ _).1, h2]
    rfl
theorem State.correctLate_ref : (s.correctLate n).rd AX.SPD_REF.REF n = s.rd AX.SPD_REF.REF n := by
  unfold State.correctLate
  split
  · rfl
  · rw [State.rd_wrS_of_beside _ _ _ (by decide), (State.updCm_rd _ _ _ _ _ _).1]

/-- A step that waits for no evaluation, with a PRESET, on an axis that runs. -/
theorem State.concludeStep_ref (hn : n < 48) (hst : (s.fo n).step = some st) (hm : st.mode = 0) (hspd : st.spd = true)
    (hper : st.period = (s.fo n).steps) (hp : (s.fo n).preset = true) (hs : (s.sx n).ss1 = none) (hl : (s.tb n).live = false)
    (hon : s.axOn n = true) (htb : LoopTimebase s n) : (s.concludeStep n).rdS AX.SPD_REF.REF n = 0 := by
  obtain ⟨hlow, hctrl⟩ := s.stepBegun_regs n st
  have hbegun := s.stepBegun_hand n st
  obtain ⟨hrun, hspeed⟩ := (s.stepBegun n st).stepRun_still n st (by omega) hm (htb.of_low (by omega) hlow) ((congrArg Prod.snd hbegun).trans hl)
  rw [hbegun] at hrun
  have hon' : (s.stepBegun n st).axOn n = true :=
    (congrArg (· != 0) (State.rd_congr AX.PWM_CTRL.EN n 0 hctrl nofun)).trans hon
  have hsteps : (((s.stepBegun n st).stepRun n st).fo n).steps = (s.fo n).steps := congrArg (fun x => x.2.1) hrun
  have hpre : (((s.stepBegun n st).stepRun n st).fo n).preset = true := (congrArg (fun x => x.1) hrun).trans hp
  have hss : (((s.stepBegun n st).stepRun n st).sx n).ss1 = none := (congrArg (fun x => x.2.2) hrun).trans hs
  have hdue : ((s.stepBegun n st).stepRun n st).speedDue n st = true := by
    simp [State.speedDue, hm, hspd, hsteps, hper]
  rw [s.concludeStep_eq n st hst hon' hdue, State.rdS, State.correctLate_ref, (State.updFo_rd _ _ _ _ _ _).1]
  exact State.speedStep_ref _ n _ _ hpre hss hspeed

end

theorem State.tryConclude_of_none {s : State} {n : Nat} {st : StepH} (hst : (s.fo n).step = some st) (hev : st.evals = []) :
    s.tryConclude n = s.concludeStep n := by
  unfold State.tryConclude
  rw [hst]
  exact if_pos (by rw [hev]; rfl)

/-! ### The case -/

/-- Axis 1 at the sampling instant of its first period with a PRESET that waits; its timebase follows the observer by a ratio of 0, at speed 5. -/
def presetWaits : State :=
  let s := ((((State.reset.raise AX.PWM_CTRL.EN 1).raise AX.PWM_CTRL.SRC 1).raise AX.FOC_CTRL.RUN 1).raise AX.FOC_CTRL.SPD_EN 1).wr AX.CMT_STATUS.STATE 0 1
  let s := (s.wr AX.PWM_ACT_PERIOD.TOP 10000 1).wr AX.ADC_HEALTH.ROLE_K 3 1
  let s := (((s.raise TB.CFG.EN 1).wr TB.CFG.KIND 0 1).wr TB.CFG.SRC 1 1).wr TB.CFG.FALLBACK 0 1
  let s := (((s.wr TB.RATIO.NUM 0 1).wr TB.RATIO.DEN 1 1).wr TB.STATUS.STATE tbPrimary 1).wr TB.SPEED.SPEED 5 1
  { s with pwms := [(1, { periods := 1, awake := true })], dtime := 10000000, focs := [(1, { fresh := true, preset := true })] }

theorem presetWaits_timebase : LoopTimebase presetWaits 1 where
  on := by decide +kernel
  src := by decide +kernel
  state := by decide +kernel
  underived := by decide +kernel
  num := by decide +kernel

/-- What the hypotheses of the clause ask of the case. -/
theorem presetWaits_meets : presetWaits.axOn 1 = true ∧ presetWaits.flag AX.PWM_CTRL.SRC 1 = true ∧ 0 < (presetWaits.pw 1).periods ∧
    presetWaits.flag AX.FOC_CTRL.RUN 1 = true ∧ presetWaits.rd AX.CMT_STATUS.STATE 1 = 0 ∧ (presetWaits.sampleAt 1).1 ≤ presetWaits.dtime ∧
    (presetWaits.fo 1).notBefore ≤ (presetWaits.sampleAt 1).1 ∧ (presetWaits.fo 1).stepOf ≠ (presetWaits.pw 1).periods ∧
    (presetWaits.fo 1).step = none ∧ presetWaits.trigOk 1 (presetWaits.sampleAt 1).1 = true ∧ (∀ k : Fin 3, presetWaits.net 1 k = none) ∧
    presetWaits.rd AX.ADC_HEALTH.ROLE_K 1 = 3 ∧ presetWaits.flag AX.FOC_CTRL.SPD_EN 1 = true ∧ (presetWaits.fo 1).fresh = true ∧
    (presetWaits.fo 1).preset = true ∧ (presetWaits.sx 1).ss1 = none := by decide +kernel

theorem presetWaits_loopStep (ra rb rk : Int) : execLoopStep 1 ra rb rk presetWaits =
    .next ((presetWaits.stepStart 1 (presetWaits.sampleAt 1).1 0 ra rb rk).tryConclude 1) := by
  have hmode : presetWaits.loopMode 1 = some 0 := by decide +kernel
  have hnow : ¬(presetWaits.dtime < (presetWaits.sampleAt 1).1 ∨ (presetWaits.sampleAt 1).1 < (presetWaits.fo 1).notBefore ∨
      (presetWaits.fo 1).stepOf = (presetWaits.pw 1).periods) := by decide +kernel
  have hstep : (presetWaits.fo 1).step.isSome = false := by decide +kernel
  have hsamp : (presetWaits.sampleAt 1).2 = false := by decide +kernel
  have htrig : presetWaits.trigOk 1 (presetWaits.sampleAt 1).1 = true := by decide +kernel
  unfold execLoopStep
  simp only [Fin.val_one, hmode, if_neg hnow, hstep, hsamp, State.raiseIf, Bool.false_eq_true, if_false, htrig, if_true]

/-- The step leaves REF at the speed that the update of the timebase brought. -/
theorem presetWaits_ref (ra rb rk : Int) {t : State} (h : execLoopStep 1 ra rb rk presetWaits = .next t) : t.rdS AX.SPD_REF.REF 1 = 0 := by
  obtain ⟨-, -, -, hrun, -, -, -, -, -, -, hnets, hk, hspd, hfresh, hpre, hss⟩ := presetWaits_meets
  obtain ⟨st, hst, hm, hspd', hper, hev, hhand, hregs⟩ :=
    presetWaits.stepStart_loop 1 (presetWaits.sampleAt 1).1 0 ra rb rk (by decide +kernel) hrun hk hnets hspd hfresh
  rw [presetWaits_loopStep, State.tryConclude_of_none hst hev] at h
  rw [← Host.Outcome.next.inj h]
  generalize presetWaits.stepStart 1 (presetWaits.sampleAt 1).1 0 ra rb rk = u at hst hhand hregs
  have hlow : ∀ a < lowEnd, u.reg a = presetWaits.reg a := fun a ha => hregs a (by
    simp only [List.mem_singleton, RF.addr, AX.ADC_STATUS.OVR]
    unfold lowEnd at ha
    omega)
  have hlive : (presetWaits.tb 1).live = false := by decide +kernel
  have hctrl : u.rd AX.PWM_CTRL.EN 1 = presetWaits.rd AX.PWM_CTRL.EN 1 := onlyRegs_rd hregs _ _ _ (by decide) nofun
  obtain ⟨hloop, hlive'⟩ := Prod.mk.inj hhand
  obtain ⟨hp, hloop⟩ := Prod.mk.inj hloop
  obtain ⟨hsteps, hss'⟩ := Prod.mk.inj hloop
  refine u.concludeStep_ref 1 st (by decide) hst hm hspd' (hper.trans hsteps.symm) (hp.trans hpre) (hss'.trans hss) (hlive'.trans hlive) ?_
    (presetWaits_timebase.of_low (by decide) hlow)
  exact (congrArg (· != 0) hctrl).trans (by decide +kernel)

/-- Refutes O25, at its clause preset: the step updates the axis's timebase from its estimate before the speed loop takes the PRESET, so REF takes the
speed after that update, here 0, and not the speed 5 that the timebase had before the step. -/
theorem not_loopStepRuns : ¬ Obligations.LoopStepRuns := by
  unfold Obligations.LoopStepRuns
  rintro ⟨-, -, preset, -⟩
  obtain ⟨hon, hsrc, hper, hrun, hcmt, hnow, hbefore, hof, hstep, htrig, hnets, hk, hspd, hfresh, hpre, hss⟩ := presetWaits_meets
  obtain ⟨t, ht, href, -⟩ := preset presetWaits 1 0 0 0 hon hsrc hper hrun hcmt hnow hbefore hof hstep htrig hnets hk hspd hfresh hpre hss
  have hspeed : presetWaits.tbSpeed 1 = 5 := by decide +kernel
  exact absurd ((presetWaits_ref 0 0 0 ht).symm.trans (href.trans hspeed)) (by decide)

end Sys2Proof.Machine
end

section
/-!
SUPPORT. A write of AX.SPD_DERATE with a reserved encoding of TQ (R11, R126): the field keeps its value; O28.
-/
namespace Sys2Proof.Machine
open Sys2Proof.Safety

/-- ACC = 1.0, and TQ the least encoding above 1.0, which is reserved. -/
def derateReserved : Word := 0x80008001

theorem derateReserved_keepsTq :
    (match execSpdDerateWrite 8 0 derateReserved State.reset with
      | .next t => t.rd AX.SPD_DERATE.TQ 0 == State.reset.rd AX.SPD_DERATE.TQ 0
      | _ => false) = true := by decide +kernel

/-- Refutes O28, at its clause derate: TQ above 0x8000 is a reserved encoding, so after reset a granted write of it leaves TQ at 0x8000 and does not
bring it to the value written. -/
theorem not_loopRegisterCommands : ¬ Obligations.LoopRegisterCommands := by
  unfold Obligations.LoopRegisterCommands
  rintro ⟨-, -, -, -, -, hderate, -⟩
  obtain ⟨t, ht, htq, -⟩ := hderate State.reset 8 0 derateReserved (by decide +kernel) (by decide +kernel) (by decide +kernel)
  have hx : execSpdDerateWrite 8 0 derateReserved State.reset = .next t := ht
  have hkeeps := derateReserved_keepsTq
  rw [hx] at hkeeps
  have hold : t.rd AX.SPD_DERATE.TQ 0 = State.reset.rd AX.SPD_DERATE.TQ 0 := by simpa using hkeeps
  exact absurd (hold.symm.trans htq) (by decide +kernel)

end Sys2Proof.Machine
end

section
/-!
SUPPORT. The load of a network whose record is lost (R172, R182, R359): O34.
-/
namespace Sys2Proof.Machine
open Sys2Proof.Safety

/-- The image of a position network of 100 bytes with this digest (R168): one input, and one layer with the weights 1, 0 and 0. -/
def onePositionImage (digest : List Nat) : List Nat :=
  le 2 1 ++ le 2 0 ++ [0, 1, 1, 3] ++ le 4 100 ++ le 4 65536 ++ List.replicate 16 0 ++ digest ++ le 4 0 ++
    [1, 3, 0, 0] ++ le 4 0 ++ le 4 84 ++ le 4 88 ++ [1, 0, 0, 0] ++ List.replicate 12 0

/-- A layer whose weights and biases are all 0. -/
def zeroLayer (nIn nOut : Nat) : LayerDef :=
  { nIn := nIn, nOut := nOut, wide := false, act := 0, shift := 0, weights := List.replicate nOut (List.replicate nIn 0), biases := List.replicate nOut 0 }
/-- A network of cost 137 with one output. -/
def largeNet (kind : Nat) : NetDef :=
  { kind := kind, nOut := 1, inputs := List.replicate 64 0, layers := [zeroLayer 64 64, zeroLayer 64 58, zeroLayer 58 1] }

/-- Two observer lanes are left; the temperature and load networks of axis 0 are FOREGROUND on them. A position network for axis 1 is being loaded, and
255 events of the clock before wait for the recorder. -/
def lastRoomLoad : State :=
  let s := { State.reset with
    dtime := 1
    obsLoad := some (1, 0, 0)
    nets := [(1, some (largeNet 1)), (2, some (largeNet 2))]
    obss := [(0, { state := [0, 1, 1] })]
    recd := { State.reset.recd with
      queue := List.replicate 255 { code := 0x0003, source := srcModule, stamp := 0, payload := [], merge := false, arrived := 0 } } }
  ((s.wr OBS.LANES.USABLE 3).wr OBS.LIP_LIM.LIM 65536 0 0).writeMem axfBase (onePositionImage (sha3 (onePositionImage (List.replicate 32 0))))

theorem lastRoomLoad_admitted : (lastRoomLoad.admitCheck 1 0 0).code = 0 := by decide +kernel

/-- The plan demotes the load network of axis 0, and that record, of a lower SOURCE, takes the last place in the queue. -/
theorem lastRoomLoad_dropsRecord : (lastRoomLoad.obsLoadFinish.1.recd.queue.all fun e => e.code != 0x0501) = true := by decide +kernel

/-- Refutes O34, at the clause of the admitted image: where one place is left in the recorder's queue, the record of the load takes it and gives way in
the same clock to the record of a network of a lower axis that the new plan demotes (R359). -/
theorem not_observerNetworkCommands : ¬ Obligations.ObserverNetworkCommands := by
  unfold Obligations.ObserverNetworkCommands
  rintro ⟨-, -, hadmitted, -⟩
  obtain ⟨t, ht, -, -, -, -, -, -, -, hnoted, -⟩ := hadmitted lastRoomLoad 1 0 0 rfl lastRoomLoad_admitted
  obtain rfl : lastRoomLoad.obsLoadFinish.1 = t := Host.Outcome.next.inj ht
  obtain ⟨e, he, hcode, -⟩ := hnoted (by decide +kernel)
  have hother := List.all_eq_true.mp lastRoomLoad_dropsRecord e he
  exact absurd hcode (by simpa using hother)

end Sys2Proof.Machine
end

section
/-!
SUPPORT. Observer lanes and the mode of an axis (R178, R182, R183, R188): lanes that end their jobs, steps that are late, fences, and writes of
AX.OBS_CFG; O35.
-/
namespace Sys2Proof.Machine
open Sys2Proof.Safety

/-! ### Lanes, queues and loop steps through a judgement (R186, R188) -/

/-- The lanes, the jobs that wait for them, and the loops. -/
def State.laneView (s : State) : Tab (Option (JobH × Nat)) × (List JobH × List JobH) × Tab FocH := (s.lanes, (s.jobs, s.pjobs), s.focs)

section
variable (s : State)

@[simp] theorem laneView_ite (c : Prop) [Decidable c] (a b : State) : (if c then a else b).laneView = if c then a.laneView else b.laneView := by
  split <;> rfl
@[simp] theorem State.updOb_laneView (n : Nat) (f : ObsH → ObsH) : (s.updOb n f).laneView = s.laneView := rfl
@[simp] theorem State.draw_laneView : s.draw.2.laneView = s.laneView := rfl
@[simp] theorem State.wr_laneView (f : RF) (v i j : Nat) : (s.wr f v i j).laneView = s.laneView := by simp [State.laneView]
@[simp] theorem State.raise_laneView (f : RF) (i j : Nat) : (s.raise f i j).laneView = s.laneView := s.wr_laneView f 1 i j
@[simp] theorem State.incWrap_laneView (f : RF) (i j n : Nat) : (s.incWrap f i j n).laneView = s.laneView := s.wr_laneView f _ i j
@[simp] theorem State.emitAt_laneView (at_ code source : Nat) (payload : List Nat) (merge : Bool) :
    (s.emitAt at_ code source payload merge).laneView = s.laneView := by simp [State.laneView]
@[simp] theorem State.emit_laneView (code source : Nat) (payload : List Nat) : (s.emit code source payload).laneView = s.laneView :=
  s.emitAt_laneView _ _ _ _ _
@[simp] theorem State.emitMerge_laneView (code source : Nat) (payload : List Nat) : (s.emitMerge code source payload).laneView = s.laneView :=
  s.emitAt_laneView _ _ _ _ _

@[simp] theorem State.obsMismatch_laneView (n : Nat) (e : EvalH) (o : Nat) (invalid : Bool) : (s.obsMismatch n e o invalid).laneView = s.laneView := by
  simp [State.obsMismatch]
@[simp] theorem State.obsEscalate_laneView (n : Nat) : (s.obsEscalate n).laneView = s.laneView := by
  simp [State.obsEscalate]
@[simp] theorem State.evalSelect_laneView (n : Nat) (e : EvalH) : (s.evalSelect n e).2.laneView = s.laneView := by
  unfold State.evalSelect
  dsimp only
  split
  · simp
  · split
    · rfl
    · split
      · split <;> simp
      · split <;> simp
theorem State.bgJudge_laneView (n : Nat) : (s.bgJudge n).laneView = s.laneView := by
  unfold State.bgJudge
  dsimp only
  split
  · rfl
  · rw [State.obsEscalate_laneView]
    refine foldl_keep State.laneView _ (fun u e => ?_) _ s
    split
    · exact u.evalSelect_laneView n e
    · rfl

end

/-! ### A BACKGROUND job that ends (R178, R183) -/

section
variable (s : State) (i : Nat) {j : JobH} (defect : Option (List Int))

/-- A lane takes no job where none waits for it. -/
theorem State.laneTake_of_none (h : (if i < 12 then s.jobs else s.pjobs) = []) : s.laneTake i = s := by
  unfold State.laneTake
  dsimp only
  rw [h]
  split <;> rfl
theorem State.updEval_laneView (f : EvalH → EvalH) (hfg : j.fg = false) : (s.updEval j f).laneView = s.laneView := by
  simp [State.updEval, hfg]
theorem State.bgReady_laneView : (s.bgReady j).laneView = s.laneView := by
  simp [State.bgReady]
/-- The evaluation of a BACKGROUND job learns its outcome, the lane is empty, and what waits for the other lanes is as before. -/
theorem State.laneComplete_laneView (hfg : j.fg = false) (h : (if i < 12 then s.jobs else s.pjobs) = []) :
    (s.laneComplete i j defect).laneView = (Tab.put none s.lanes i none, (s.jobs, s.pjobs), s.focs) := by
  have hview : ∀ f : EvalH → EvalH, ((({ s with lanes := Tab.put none s.lanes i none }).updEval j f).bgReady j).laneView =
      (Tab.put none s.lanes i none, (s.jobs, s.pjobs), s.focs) := fun f => by
    rw [State.bgReady_laneView, State.updEval_laneView _ _ hfg, State.laneView]
  unfold State.laneComplete
  rw [State.laneTake_of_none]
  · exact hview _
  · rw [← h]
    congr 1
    · exact congrArg (fun x => x.2.1.1) (hview _)
    · exact congrArg (fun x => x.2.1.2) (hview _)
theorem State.laneDone_background {t0 : Nat} (hj : s.laneJob i = some (j, t0)) (hover : t0 + j.cost ≤ s.dtime) (hfg : j.fg = false)
    (hstep : (s.fo j.axis).step = none) (h : (if i < 12 then s.jobs else s.pjobs) = []) :
    (s.laneDone i defect).laneJob i = none ∧ (s.laneDone i defect).jobs = s.jobs ∧ (s.laneDone i defect).pjobs = s.pjobs := by
  have hview := (State.bgJudge_laneView _ j.axis).trans (s.laneComplete_laneView i defect hfg h)
  have e : s.laneDone i defect = (s.laneComplete i j defect).bgJudge j.axis := by
    unfold State.laneDone
    simp only [hj, hfg, Bool.false_and, Bool.false_eq_true, if_false]
    rw [if_neg (by omega), State.tryConclude]
    have hfocs : ((s.laneComplete i j defect).bgJudge j.axis).focs = s.focs := congrArg (fun x => x.2.2) hview
    rw [State.fo, hfocs, show (Tab.get _ s.focs j.axis).step = none from hstep]
  rw [← e] at hview
  refine ⟨?_, congrArg (fun x => x.2.1.1) hview, congrArg (fun x => x.2.1.2) hview⟩
  have hlanes : (s.laneDone i defect).lanes = Tab.put none s.lanes i none := congrArg Prod.fst hview
  rw [State.laneJob, hlanes, Tab.get_put_self]

end

/-! ### A late step (R182) -/

section
variable (s : State) (n : Nat)

theorem State.correctLate_focs : (s.correctLate n).focs = s.focs := by
  unfold State.correctLate
  split
  · rfl
  · simp
/-- Whatever a step delivers, it is over once it concludes. -/
theorem State.concludeStep_step : ((s.concludeStep n).fo n).step = none := by
  unfold State.concludeStep
  split
  case h_1 h => exact h
  case h_2 =>
    dsimp only
    split
    · rw [State.updFo_same]
    · rw [State.fo, State.correctLate_focs]
      exact congrArg FocH.step (State.updFo_same _ n _)
/-- Every evaluation of a step has an outcome once those that are not complete are late. -/
theorem State.tryConclude_stepLate : (s.stepLate n).tryConclude n = (s.stepLate n).concludeStep n := by
  have hstep : ((s.stepLate n).fo n).step = (s.fo n).step.map fun st =>
      { st with evals := st.evals.map fun e => if e.isOver then e else { e with late := true } } :=
    congrArg FocH.step (State.updFo_same s n _)
  unfold State.tryConclude
  rw [hstep]
  cases hst : (s.fo n).step with
  | none =>
    rw [hst] at hstep
    unfold State.concludeStep
    rw [hstep]
    rfl
  | some st =>
    refine if_pos (List.all_eq_true.mpr fun e he => ?_)
    obtain ⟨e', -, rfl⟩ := List.mem_map.mp he
    by_cases hover : e'.isOver = true
    · rw [if_pos hover, hover]
    · rw [if_neg hover, EvalH.isOver, Bool.true_or]

end

/-! ### Fences (R182) -/

section
variable (s : State) {i k : Nat}

theorem State.rdBit_wrBit_of_beside {f g : RF} (b : Nat) (x : Bool) (k : Nat) (h : f.beside g = true) : (s.wrBit f b x).rdBit g k = s.rdBit g k := by
  unfold State.rdBit State.wrBit
  split
  · rw [(State.noteSet_rd _ _ _ _ _ _).1, State.rd_wr_of_beside _ _ _ h]
  · rw [State.rd_wr_of_beside _ _ _ h]
theorem State.unitUsable_of_lane (hk : k < 16) :
    s.unitUsable k = if k < 12 then s.rdBit OBS.LANES.USABLE k else s.rdBit OBS.LANES.P_USABLE (k - 12) := by
  unfold State.unitUsable
  rw [if_pos hk]
/-- The register OBS.LANES is all that tells whether a lane is usable. -/
theorem State.unitUsable_congr {s t : State} (h : t.reg OBS.LANES.USABLE.base = s.reg OBS.LANES.USABLE.base) (hk : k < 16) :
    t.unitUsable k = s.unitUsable k := by
  have hrd : ∀ g : RF, g.addr = OBS.LANES.USABLE.addr → g.hi ≠ 63 → t.rd g = s.rd g := fun g ha hg =>
    State.rd_congr g 0 0 (by rw [ha]; exact h) (absurd · hg)
  simp only [State.unitUsable_of_lane _ hk, State.rdBit, hrd OBS.LANES.USABLE rfl (by decide), hrd OBS.LANES.P_USABLE rfl (by decide)]
/-- The lane's bit of OBS.LANES.USABLE or P_USABLE is cleared, and no other lane's. -/
theorem State.unitUsable_wrBit (hi : i < 16) (hk : k < 16) :
    (if i < 12 then s.wrBit OBS.LANES.USABLE i false else s.wrBit OBS.LANES.P_USABLE (i - 12) false).unitUsable k =
      if k = i then false else s.unitUsable k := by
  have hw : OBS.LANES.USABLE.width = 12 ∧ OBS.LANES.P_USABLE.width = 4 := by decide
  simp only [State.unitUsable_of_lane _ hk]
  by_cases hi' : i < 12 <;> by_cases hk' : k < 12 <;> simp only [hi', hk', if_true, if_false]
  · exact s.rdBit_wrBit _ _ _ _ 0 (by decide) (by decide) (by omega)
  · rw [State.rdBit_wrBit_of_beside _ _ _ _ (by decide), if_neg (by omega)]
  · rw [State.rdBit_wrBit_of_beside _ _ _ _ (by decide), if_neg (by omega)]
  · rw [s.rdBit_wrBit _ _ _ _ 0 (by decide) (by decide) (by omega)]
    congr 1
    rw [eq_iff_iff]
    omega
/-- A lane that is fenced is no longer usable; the others stay as they are. -/
theorem State.laneFenceOne_unitUsable (cause : Nat) (hi : i < 16) (hk : k < 16) :
    (s.laneFenceOne i cause).unitUsable k = if k = i then false else s.unitUsable k := by
  unfold State.laneFenceOne
  rw [← s.unitUsable_of_lane hi]
  dsimp only
  split
  case isTrue h =>
    split
    case isTrue hki => rw [hki]; simpa using h
    case isFalse => rfl
  case isFalse =>
    rw [← State.unitUsable_wrBit _ hi hk]
    refine State.unitUsable_congr ?_ hk
    rw [State.emit_reg _ _ _ _ (by unfold notEvent; decide)]
    exact State.laneDrop_regs _ _ _
theorem State.lanesFenced_unitUsable (cause : Nat) (hk : k < 16) (l : List Nat) (hl : ∀ i ∈ l, i < 16) :
    (s.forEach l fun s i => s.laneFenceOne i cause).unitUsable k = if k ∈ l then false else s.unitUsable k := by
  induction l generalizing s with
  | nil => simp [State.forEach]
  | cons i l ih =>
    refine (ih (s.laneFenceOne i cause) fun x hx => hl x (List.mem_cons_of_mem _ hx)).trans ?_
    rw [s.laneFenceOne_unitUsable cause (hl i (by simp)) hk]
    by_cases hki : k = i <;> simp [hki]
/-- No register below those of the axes is AX.OBS_STATUS of one. -/
theorem not_isReg_obsStatus {a : Nat} (h : a < AX.OBS_STATUS.MODE.base) : ¬IsReg AX.OBS_STATUS.MODE a := by
  rintro ⟨x, y, e | ⟨h63, -⟩⟩
  · unfold RF.addr at e
    omega
  · exact absurd h63 (by decide)
/-- OBS.LANES is none of the registers that a plan shows in. -/
theorem obsLanes_off_plan :
    Off [AX.OBS_STATUS.MODE, OBS.PLAN.SUM, OBS.PPLAN.SUM, OBS.STATUS.DEMOTE, REC.QUEUE.VALUE, REC.EVT_TOTAL] OBS.LANES.USABLE.base := by
  simp only [Off_cons, Off_nil, and_true]
  refine ⟨not_isReg_obsStatus (by decide), ?_⟩
  simp [IsReg, RF.addr, OBS.LANES.USABLE, OBS.PLAN.SUM, OBS.PPLAN.SUM, OBS.STATUS.DEMOTE, REC.QUEUE.VALUE, REC.EVT_TOTAL]
theorem State.obsReplan_unitUsable (hk : k < 16) : s.obsReplan.unitUsable k = s.unitUsable k :=
  State.unitUsable_congr (s.obsReplan_regs _ obsLanes_off_plan) hk
/-- Lanes without jobs are fenced: no evaluation is late by it, and none of them is usable. -/
theorem State.lanesFence_unitUsable (hfree : ∀ i : Fin 16, s.laneJob i = none) (l : List Nat) (hl : ∀ i ∈ l, i < 16) (cause : Nat) (hkl : k ∈ l) :
    (s.lanesFence l cause).unitUsable k = false := by
  have hk := hl k hkl
  unfold State.lanesFence
  dsimp only
  split
  case isTrue h =>
    have := List.filter_eq_nil_iff.mp h k hkl
    rw [← s.unitUsable_of_lane hk] at this
    simpa using this
  case isFalse =>
    rw [List.filterMap_eq_nil_iff.mpr fun i hi => by
      rw [hfree ⟨i, hl i (List.mem_filter.mp hi).1⟩]
      rfl]
    refine (State.obsReplan_unitUsable _ hk).trans ?_
    rw [State.lanesFenced_unitUsable _ _ hk _ fun i hi => hl i (List.mem_filter.mp hi).1]
    by_cases hu : s.unitUsable k = true
    · exact if_pos (List.mem_filter.mpr ⟨hkl, by rwa [s.unitUsable_of_lane hk] at hu⟩)
    · rw [Bool.eq_false_of_not_eq_true hu, ite_self]
end

/-- A write by the field rules leaves the lanes and the networks. -/
theorem State.writeFields_observers (s : State) (a v : Nat) : (s.writeFields a v).1.lanes = s.lanes ∧ (s.writeFields a v).1.nets = s.nets := by
  rcases s.writeFields_fst a v with e | ⟨w, e⟩
  · rw [e]
    exact ⟨rfl, rfl⟩
  · rw [e]
    exact ⟨rfl, rfl⟩
theorem laneFence_lockFree : lockFree OBS.LANE_FENCE.FENCE.base = true := by decide +kernel
/-- A granted write of OBS.LANE_FENCE while no lane has a job. -/
theorem laneFence_unitUsable (s : State) {m : Nat} (v : Nat) (hw : MayWrite s m OBS.LANE_FENCE.FENCE.base true)
    (hfree : ∀ i : Fin 16, s.laneJob i = none) {k : Nat} (hk : k < 16) (hv : bit v k = true) :
    (s.busWriteWith m OBS.LANE_FENCE.FENCE.base true fun s => s.fxLaneFence v).unitUsable k = false := by
  have hok : (s.fxLaneFence v).2 = .ok := s.writeFields_ok v laneFence_lockFree
  have hjob : ∀ i : Fin 16, (s.writeFields OBS.LANE_FENCE.FENCE.base v).1.laneJob i = none := fun i => by
    rw [State.laneJob, (s.writeFields_observers _ _).1]
    exact hfree i
  refine (State.unitUsable_congr ((busWriteWith_registers hw hok).2.1 _) hk).trans ?_
  exact State.lanesFence_unitUsable _ hjob _ (fun i hi => List.mem_range.mp (List.mem_filter.mp hi).1) 1
    (List.mem_filter.mpr ⟨List.mem_range.mpr hk, hv⟩)

/-! ### Writes of AX.OBS_CFG (R188) -/

/-- The LOCK bit of the register at `a` is the flag `g` of unit `i`. -/
def lockedBy (a : Nat) (g : RF) (i : Nat) : Bool := (findReg a).all fun x => x.1.lock == some (g.base, g.s1, g.lo) && x.2.1 == i
/-- A register whose LOCK bit is clear turns no field away (R14). -/
theorem State.writeFields_ok_of_lockedBy (s : State) (v : Nat) {a : Nat} {g : RF} {i : Nat} (h : lockedBy a g i = true) (hg : g.oneBit)
    (hlock : s.flag g i = false) : (s.writeFields a v).2 = .ok := by
  cases hf : findReg a with
  | none => unfold State.writeFields; rw [hf]
  | some x =>
    obtain ⟨r, i', j⟩ := x
    rw [lockedBy, hf] at h
    simp only [Option.all_some, Bool.and_eq_true, beq_iff_eq] at h
    obtain ⟨hr, rfl⟩ := h
    have hclear : s.locked r i' = false := by
      rw [State.flag, State.rd, if_neg (by omega), ← hg.1] at hlock
      simp only [State.locked, hr]
      rw [bit, ← Bool.not_eq_true]
      simpa [bits, RF.addr] using hlock
    rw [s.writeFields_unlocked hf hclear]

theorem bit_eq_bits (n k : Nat) : bit n k = (bits n k k != 0) := by
  rcases Nat.mod_two_eq_zero_or_one (n / 2 ^ k) with h | h <;> simp [bit, bits, h]

section
variable (s : State) (n : Fin 48) {w : Nat}

theorem obsCfg_lockedBy : ∀ n : Fin 48, lockedBy (AX.OBS_CFG.ESC_ACT.addr n) AX.OBS_CFG.LOCK n = true := by decide +kernel
theorem obsCfg_plainField : ∀ n : Fin 48, plainField (AX.OBS_CFG.FORCE_CLS.addr n) AX.OBS_CFG.FORCE_CLS = true := by decide +kernel

theorem State.writeFields_obsCfg_ok (hlock : s.flag AX.OBS_CFG.LOCK n = false) : (s.writeFields (AX.OBS_CFG.ESC_ACT.addr n) w).2 = .ok :=
  s.writeFields_ok_of_lockedBy w (obsCfg_lockedBy n) (by decide) hlock
/-- FORCE_CLS takes the bit written, locked register or not. -/
theorem State.writeFields_forceCls : (s.writeFields (AX.OBS_CFG.ESC_ACT.addr n) w).1.flag AX.OBS_CFG.FORCE_CLS n = bit w 6 := by
  have h := s.writeFields_rd_plain w (j := 0) (obsCfg_plainField n)
  rw [State.flag, show AX.OBS_CFG.ESC_ACT.addr n = AX.OBS_CFG.FORCE_CLS.addr n from rfl, h]
  exact (bit_eq_bits w 6).symm
/-- A written FORCE_CLS enters CLASSICAL mode, whatever RESUME is. -/
theorem State.fxObsCfg_forces (hforce : bit w 6 = true) :
    s.fxObsCfg n w = ((s.writeFields (AX.OBS_CFG.ESC_ACT.addr n) w).1.obsClassical n, (s.writeFields (AX.OBS_CFG.ESC_ACT.addr n) w).2) := by
  have hset : (s.writeFields (AX.OBS_CFG.ESC_ACT.addr n) w).1.flag AX.OBS_CFG.FORCE_CLS n = true := (s.writeFields_forceCls n).trans hforce
  have hkept : ((s.writeFields (AX.OBS_CFG.ESC_ACT.addr n) w).1.obsClassical n).flag AX.OBS_CFG.FORCE_CLS n = true :=
    (congrArg (· != 0) (State.rd_raise_of_beside _ _ (by decide))).trans hset
  unfold State.fxObsCfg
  simp only [hset, if_true, hkept, Bool.not_true, Bool.and_false, Bool.false_and, Bool.false_eq_true, if_false]

/-- Axis `n` leaves CLASSICAL mode, with no mismatch counted and nothing waiting. -/
def State.obsResumed (s : State) (n : Nat) : State :=
  ((s.clear AX.OBS_STATUS.MODE n).updOb n fun h => { h with miss := [], esc := none, bg := [], ready := [] }).wr AX.OBS_STATUS.WIN_CNT 0 n
theorem State.obsResumed_nets : (s.obsResumed n).nets = s.nets := by
  simp [State.obsResumed]
/-- RESUME without FORCE_CLS leaves CLASSICAL mode. -/
theorem State.fxObsCfg_resumes (hforce : bit w 6 = false) (hresume : bit w 5 = true) (hmode : s.flag AX.OBS_STATUS.MODE n = true) :
    s.fxObsCfg n w =
      (((s.writeFields (AX.OBS_CFG.ESC_ACT.addr n) w).1.obsResumed n).obsReplan, (s.writeFields (AX.OBS_CFG.ESC_ACT.addr n) w).2) := by
  have hclear : (s.writeFields (AX.OBS_CFG.ESC_ACT.addr n) w).1.flag AX.OBS_CFG.FORCE_CLS n = false := (s.writeFields_forceCls n).trans hforce
  have hkept : (s.writeFields (AX.OBS_CFG.ESC_ACT.addr n) w).1.flag AX.OBS_STATUS.MODE n = true := by
    refine (congrArg (· != 0) (onlyRegs_rd (s.writeFields_onlyRegs _ w) AX.OBS_STATUS.MODE n 0 ?_ nofun)).trans hmode
    simp [RF.addr, AX.OBS_STATUS.MODE, AX.OBS_CFG.ESC_ACT]
  unfold State.fxObsCfg State.obsResumed
  simp only [hclear, hkept, hresume, Bool.not_false, Bool.and_true, Bool.false_eq_true, if_true, if_false]

end

/-! ### A plan without networks (R181) -/

section
variable (s : State) {n : Nat}

/-- The mode of axis `n`, the mismatches it shows, and those it counts. -/
def State.modeView (s : State) (n : Nat) : (Nat × Nat) × List Nat := ((s.rd AX.OBS_STATUS.MODE n, s.rd AX.OBS_STATUS.WIN_CNT n), (s.ob n).miss)

theorem State.wr_modeView_obsStatus {f : RF} (hf : f.base = AX.OBS_STATUS.MODE.base) (hm : f.beside AX.OBS_STATUS.MODE = true)
    (hw : f.beside AX.OBS_STATUS.WIN_CNT = true) (hs : f.s1 = 0x10000) (h63 : f.hi ≠ 63) (v x : Nat) : (s.wr f v x).modeView n = s.modeView n := by
  have hob : (s.wr f v x).ob n = s.ob n := by simp [State.ob]
  have hrd : ∀ g : RF, g.base = AX.OBS_STATUS.MODE.base → g.s1 = 0x10000 → g.hi ≠ 63 → f.beside g = true → (s.wr f v x).rd g n = s.rd g n := by
    intro g hg hgs hg63 hb
    by_cases hx : x = n
    · rw [hx]
      exact State.rd_wr_of_beside _ _ _ hb
    · refine State.rd_wr_apart _ _ _ _ _ _ _ _ ?_
      simp only [RF.apart, RF.off, RF.addr, hf, hg, hs, hgs, h63]
      omega
  rw [State.modeView, hob, hrd AX.OBS_STATUS.MODE rfl rfl (by decide) hm, hrd AX.OBS_STATUS.WIN_CNT rfl rfl (by decide) hw]
  rfl
theorem State.busWriteWith_modeView {m a : Nat} {sw : Bool} {fx : State → State × WErr} (h : MayWrite s m a sw) (hf : (fx s).2 = .ok) (n : Nat) :
    (s.busWriteWith m a sw fx).modeView n = (fx s).1.modeView n := by
  rw [State.busWriteWith_granted s m a sw fx h hf]
  simp [State.modeView, State.ob]
/-- A register of no axis shows nothing of it. -/
theorem State.wr_modeView_low {f : RF} (hf : f.base < AX.OBS_STATUS.MODE.base) (h63 : f.hi ≠ 63) (v : Nat) : (s.wr f v).modeView n = s.modeView n := by
  have hob : (s.wr f v).ob n = s.ob n := by simp [State.ob]
  have hrd : ∀ g : RF, g.base = AX.OBS_STATUS.MODE.base → g.hi ≠ 63 → (s.wr f v).rd g n = s.rd g n := fun g hg hg63 => by
    refine State.rd_wr_apart _ _ _ _ _ _ _ _ ?_
    simp only [RF.apart, RF.off, RF.addr, hg]
    omega
  rw [State.modeView, hob, hrd AX.OBS_STATUS.MODE rfl (by decide), hrd AX.OBS_STATUS.WIN_CNT rfl (by decide)]
  rfl
theorem State.planNets_of_none (h : s.nets = []) (ignoreMode : Bool) : s.planNets ignoreMode = [] := by
  simp [State.planNets, State.net, h, Tab.get]
/-- Without networks there is nothing to give up. -/
theorem planRounds_nil (m k : Nat) : planRounds m k [] = [] := by
  cases k <;> rfl
theorem pewRounds_nil (m k : Nat) : pewRounds m k [] = [] := by
  cases k with
  | zero => rfl
  | succ k => exact if_pos rfl
theorem State.forEach_modeView {α : Type} (l : List α) (f : State → α → State) (h : ∀ u a, (f u a).modeView n = u.modeView n) :
    (s.forEach l f).modeView n = s.modeView n := foldl_keep (fun u => u.modeView n) f h l s
/-- What waits at an axis shows in none of its registers. -/
theorem State.updOb_modeView (x : Nat) (f : ObsH → ObsH) (h : ∀ o, (f o).miss = o.miss) : (s.updOb x f).modeView n = s.modeView n := by
  unfold State.modeView
  by_cases hx : n = x
  · rw [hx, State.updOb_same, h]
    rfl
  · rw [State.updOb_other _ _ _ hx]
    rfl
theorem State.forEach_nil {α : Type} (f : State → α → State) : s.forEach [] f = s := rfl
theorem State.obsReplan_modeView (h : s.nets = []) : s.obsReplan.modeView n = s.modeView n := by
  unfold State.obsReplan
  simp only [s.planNets_of_none h, planRounds_nil, pewRounds_nil, State.forEach_nil]
  iterate 6 rw [State.wr_modeView_low _ (by decide) (by decide)]
  rw [State.forEach_modeView, State.forEach_modeView]
  case h =>
    intro u x
    rw [State.wr_modeView_obsStatus (f := AX.OBS_STATUS.PRESENT) _ rfl (by decide) (by decide) rfl (by decide),
      State.wr_modeView_obsStatus (f := AX.OBS_STATUS.UNCHECKED) _ rfl (by decide) (by decide) rfl (by decide),
      State.wr_modeView_obsStatus (f := AX.OBS_STATUS.BG) _ rfl (by decide) (by decide) rfl (by decide)]
  case h =>
    intro u x
    split
    · rfl
    · exact u.updOb_modeView x _ fun _ => rfl
theorem State.obsResumed_modeView : (s.obsResumed n).modeView n = ((0, 0), []) := by
  unfold State.obsResumed
  have hob : ∀ (u : State) (v : Nat), (u.wr AX.OBS_STATUS.WIN_CNT v n).ob n = u.ob n := fun u v => by simp [State.ob]
  rw [State.modeView, State.rd_wr_of_beside _ _ _ (by decide), State.rd_wr_self _ _ _ _ _ (by decide) (by decide), hob, State.updOb_same,
    (State.updOb_rd _ _ _ _ _ _).1, State.rd_clear _ _ _ _ (by decide) (by decide)]
  rfl

end

/-- Settles O35: a BACKGROUND job that ends leaves its lane empty, a late step concludes, a fence clears the lane's bit and the new plan leaves it, and
a write of AX.OBS_CFG sets or clears MODE by FORCE_CLS and RESUME. -/
theorem observerLaneCommands : Obligations.ObserverLaneCommands := by
  unfold Obligations.ObserverLaneCommands
  refine ⟨fun s i j t0 hj hover hfg hstep hq => ?job, fun s i j t0 hj hover hfg hstep hq => ?pewter, fun s n st hst hlate => ?late,
    fun s m v hw hfree => ?fence, fun s m n v hw hlock => ?force, fun s m n v hw hlock hmode hforce hnets => ?resume⟩
  case job =>
    obtain ⟨hjob, -, hp⟩ := s.laneDone_background i.lane i.defect hj hover hfg hstep (by rw [if_pos i.lane.isLt, hq])
    exact ⟨_, rfl, hjob, hp⟩
  case pewter =>
    obtain ⟨hjob, hjobs, -⟩ := s.laneDone_background (12 + i.lane) i.defect hj hover hfg hstep (by rw [if_neg (by omega), hq])
    exact ⟨_, rfl, hjob, hjobs⟩
  case late =>
    have hover : (((s.stepLate n).tryConclude n).fo n).step = none := by rw [State.tryConclude_stepLate, State.concludeStep_step]
    refine ⟨(s.stepLate n).tryConclude n, ?_, hover⟩
    change execObsLate n s = _
    unfold execObsLate
    rw [hst]
    exact if_pos hlate
  case fence =>
    have h := fun {k : Nat} => laneFence_unitUsable s v.toNat hw hfree (k := k)
    refine ⟨_, rfl, fun i hv => ?_, fun i hv => ?_⟩
    · have hi := h (by omega) hv
      rwa [State.unitUsable_of_lane _ (by omega), if_pos i.isLt] at hi
    · have hi := h (by omega) hv
      rwa [State.unitUsable_of_lane _ (by omega), if_neg (by omega), Nat.add_sub_cancel_left] at hi
  case force =>
    have hfx := s.fxObsCfg_forces n (w := setBit v.toNat 6 true) (bit_setBit_self _ _)
    have hok : (s.fxObsCfg n (setBit v.toNat 6 true)).2 = .ok := by simp only [hfx, s.writeFields_obsCfg_ok n hlock]
    obtain ⟨-, hreg, hrd⟩ := busWriteWith_registers (fx := fun s => s.fxObsCfg n (setBit v.toNat 6 true)) hw hok
    rw [hfx] at hreg hrd
    refine ⟨_, rfl, ?_, ?_, ?_⟩
    · rw [State.flag, hrd]
      exact State.flag_raise _ _ _ _ (by decide)
    · rw [State.flag, hrd]
      refine (congrArg (· != 0) (State.rd_raise_of_beside _ _ (by decide))).trans ?_
      exact (s.writeFields_forceCls n).trans (bit_setBit_self _ _)
    · refine onlyRegs_of_reg ?_ hreg
      exact onlyRegs_raise (onlyRegs_mono (s.writeFields_onlyRegs _ _) (by simp)) _ _ _ (by simp) nofun
  case resume =>
    have hfx := s.fxObsCfg_resumes n (w := setBit v.toNat 5 true) ((bit_setBit_ne _ _ (by decide)).trans hforce) (bit_setBit_self _ _) hmode
    have hok : (s.fxObsCfg n (setBit v.toNat 5 true)).2 = .ok := by simp only [hfx, s.writeFields_obsCfg_ok n hlock]
    have hnone : ((s.writeFields (AX.OBS_CFG.ESC_ACT.addr n) (setBit v.toNat 5 true)).1.obsResumed n).nets = [] := by
      rw [State.obsResumed_nets, (s.writeFields_observers _ _).2, hnets]
    have hview := State.busWriteWith_modeView s (fx := fun s => s.fxObsCfg n (setBit v.toNat 5 true)) hw hok n
    rw [hfx, State.obsReplan_modeView _ hnone, State.obsResumed_modeView] at hview
    refine ⟨_, rfl, ?_, ?_, ?_⟩
    · exact congrArg (fun x => x.1.1 != 0) hview
    · exact congrArg (fun x => x.1.2) hview
    · exact congrArg Prod.snd hview

end Sys2Proof.Machine
end

section
/-!
SUPPORT. A quantiser operation whose record cannot be read (R217, R229, R284): O40.
-/
namespace Sys2Proof.Machine
-- One proof at a time: each thread of its own costs a stack and an arena of the check's memory.
set_option Elab.async false
open Sys2Proof.Safety

def quantOneOp : OpDef := { opcode := 0x41, ins := [0], outs := [1] }
/-- One QUANT of a BF16 element into an S8 element, both in SCRATCH, with the quantiser's record at the start of the declared state. -/
def quantOneProg : Prog :=
  { stateBytes := 128
    tensors := [{ fmt := fBF16, rank := 1, kind := kScratch, dims := [1] }, { fmt := fS8, rank := 1, kind := kScratch, dims := [1], addr := 2 }]
    ops := [quantOneOp] }
/-- A frame of context 0 at that operation; two symbols of the first code word of the committed record stand in error. -/
def quantRecordLost : State :=
  { State.reset with
    ctxs := [(0, { prog := some quantOneProg, frame := some {}
                   places := [{ eng := 0, copy0 := scrBase 0, copy1 := scrBase 0 + 128, len := 128, scr := scrBase 0 + 256, scrLen := 64 }] })]
    flips := [(scrBase 0, 0), (scrBase 0, 1)] }

theorem quantRecordLost_ready : quantRecordLost.opReady 0 0 0x41 = some (quantOneProg, quantOneOp, {}) := by decide +kernel
/-- The input lies in SCRATCH, where no error stands. -/
theorem quantRecordLost_reads : (quantRecordLost.readOpnds 0 0 quantOneProg [0]).2.isSome = true := by decide +kernel
/-- The frame is to end with WITHHELD_ECC, and the operation is not done. -/
theorem quantRecordLost_fails :
    ((quantRecordLost.runRec 0 0 0x41 false quantOp).cx 0).frame.map (fun f => (f.doneOps, f.endCode)) = some ([], some 1) := by decide +kernel

/-- Refutes O40, at QUANT: beside its inputs a quantiser operation reads the record of its quantiser, and an uncorrectable error there ends the frame
with the operation not done. -/
theorem not_dataOperationsRetire : ¬ Obligations.DataOperationsRetire := by
  unfold Obligations.DataOperationsRetire
  rintro ⟨hdone, -⟩
  obtain ⟨xs, hreads⟩ := Option.isSome_iff_exists.mp quantRecordLost_reads
  obtain ⟨t, ht, hops, -⟩ := hdone quantRecordLost 0 0 0 0 0 0 0 0 0 [] [] [] [] [] (0x41, .quant 0 0) _ _ _ xs
    (by simp [Claims.dataOps]) quantRecordLost_ready hreads
  obtain rfl : quantRecordLost.runRec 0 0 0x41 false quantOp = t := Host.Outcome.next.inj ht
  have hfails := congrArg (Option.map Prod.fst) quantRecordLost_fails
  rw [Option.map_map] at hfails
  exact absurd (hfails.symm.trans hops) (by simp)

end Sys2Proof.Machine
end

section
/-!
SUPPORT. A WAIT on the frame's input that takes Babbitt's empty descriptor of another frame (R252): O43.
-/
namespace Sys2Proof.Machine
-- One proof at a time: each thread of its own costs a stack and an arena of the check's memory.
set_option Elab.async false
open Sys2Proof.Safety

/-- WAIT on 0xFFFF. -/
def inputWait : OpDef := { opcode := 0x60, attr := [0xFF, 0xFF, 1, 0] }
def inputWaitProg : Prog := { ops := [inputWait] }
/-- Frame 0 of context 0 waits for its input; in IN_Q, which is queue 0, stands a descriptor of Babbitt of LEN 0 for frame 1. -/
def emptyInputOfFrame1 : State :=
  let s := { State.reset with
    ctxs := [(0, { prog := some inputWaitProg, frame := some {} })]
    mem := [(0x1000000001, 0x18), (0x1000000004, 1)] }
  ((s.wr Q.CFG.EN 1 0).wr Q.BASE 0x1000000000 0).wr Q.PROD.PROD 1 0
/-- The descriptor. -/
def emptyInput : List Nat := [0, 0x18, 0, 0, 1] ++ List.replicate 59 0

theorem emptyInputOfFrame1_ready : emptyInputOfFrame1.opReady 0 0 0x60 = some (inputWaitProg, inputWait, {}) := by decide +kernel
theorem emptyInputOfFrame1_peek : (emptyInputOfFrame1.threadPeek 0 0 (emptyInputOfFrame1.rd CTX.QUEUES.IN_Q 0)).2 = some emptyInput := by
  decide +kernel
/-- The frame goes on. -/
theorem emptyInputOfFrame1_goesOn : (((emptyInputOfFrame1.opWait 0 0).cx 0).frame.bind (·.endCode)) = none := by decide +kernel

/-- Refutes O43, at the clause of the wait for the input: a descriptor of Babbitt of LEN 0 ends the frame with NO_INPUT only where it is the post of
that frame, so one of another frame leaves it without a code. -/
theorem not_frameQueueOperations : ¬ Obligations.FrameQueueOperations := by
  unfold Obligations.FrameQueueOperations
  rintro ⟨-, -, -, -, -, -, -, hinput, -⟩
  obtain ⟨t, ht, -, -, -, hempty, -⟩ := hinput emptyInputOfFrame1 0 0 inputWaitProg inputWait {} emptyInput emptyInputOfFrame1_ready rfl
    (by decide +kernel) (by simp) (by decide +kernel) emptyInputOfFrame1_peek
  obtain rfl : emptyInputOfFrame1.opWait 0 0 = t := Host.Outcome.next.inj ht
  obtain ⟨hcode, -⟩ := hempty (by decide +kernel)
  exact absurd (emptyInputOfFrame1_goesOn.symm.trans hcode) (by simp)

end Sys2Proof.Machine
end

section
/-!
SUPPORT. What the accesses of a master leave: they show errors, violations and events in their own registers, the log registers, and every other
register keeps its value, with the state beside memory and its logs (R280, R283 to R287, R292, R355).
-/
namespace Sys2Proof.Machine
-- One proof at a time: each thread of its own costs a stack and an arena of the check's memory.
set_option Elab.async false

/-- The registers in which accesses show errors, violations and events. -/
abbrev LogReg (a : Nat) : Prop :=
  a = 0x20000D0004 ∨ (0x20000D0014 ≤ a ∧ a < 0x20000D0600) ∨
    (0x2000100000 ≤ a ∧ a < 0x20001A0000 ∧ 4 ≤ a % 0x10000 ∧ a % 0x10000 < 0x38) ∨ (0x20001D0010 ≤ a ∧ a < 0x20001D0020)
/-- The registers of a field are log registers; are none. -/
def RF.logs (f : RF) (i j : Nat) : Bool := decide (LogReg (f.addr i j)) && (f.hi != 63 || decide (LogReg (f.addr i j + 4)))
def RF.calm (f : RF) (i j : Nat) : Bool := !decide (LogReg (f.addr i j)) && (f.hi != 63 || !decide (LogReg (f.addr i j + 4)))
theorem RF.logs_iff (f : RF) (i j : Nat) : f.logs i j = true ↔ LogReg (f.addr i j) ∧ (f.hi = 63 → LogReg (f.addr i j + 4)) := by
  rw [RF.logs, Bool.and_eq_true, Bool.or_eq_true, decide_eq_true_eq, decide_eq_true_eq, bne_iff_ne, imp_iff_not_or]
theorem RF.calm_iff (f : RF) (i j : Nat) : f.calm i j = true ↔ ¬LogReg (f.addr i j) ∧ (f.hi = 63 → ¬LogReg (f.addr i j + 4)) := by
  rw [RF.calm, Bool.and_eq_true, Bool.or_eq_true, Bool.not_eq_true', Bool.not_eq_true', decide_eq_false_iff_not, decide_eq_false_iff_not,
    bne_iff_ne, imp_iff_not_or]
/-- The state beside registers, memory and what accesses log. -/
def State.core (s : State) : State :=
  { s with regs := [], mem := [], flips := [], vios := [], latches := [], glatches := [], justSet := [], irqLines := 0, recd := {} }
/-- What accesses leave: the registers beside the log registers, and the core. -/
def State.calm (s : State) : ({a // ¬LogReg a} → Word) × State := (fun a => s.reg a.1, s.core)

/-! ### What follows for states that agree -/

section
variable {s t : State}
theorem State.calm_eq (hr : ∀ a, ¬LogReg a → t.reg a = s.reg a) (hc : t.core = s.core) : t.calm = s.calm :=
  Prod.ext (funext fun a => hr a.1 a.2) hc

variable (h : t.calm = s.calm)
include h
theorem State.calm_reg {a : Nat} (ha : ¬LogReg a) : t.reg a = s.reg a := congrFun (congrArg Prod.fst h) ⟨a, ha⟩
theorem State.calm_core : t.core = s.core := congrArg Prod.snd h
theorem State.calm_rd (g : RF) (k l : Nat) (hg : g.calm k l = true) : t.rd g k l = s.rd g k l :=
  State.rd_congr g k l (State.calm_reg h ((g.calm_iff k l).mp hg).1) fun e => State.calm_reg h (((g.calm_iff k l).mp hg).2 e)
theorem State.calm_flag (g : RF) (k l : Nat) (hg : g.calm k l = true) : t.flag g k l = s.flag g k l := by
  rw [State.flag, State.calm_rd h g k l hg, State.flag]
theorem State.calm_dtime : t.dtime = s.dtime := (congrArg State.dtime (State.calm_core h) :)
theorem State.calm_ctxs : t.ctxs = s.ctxs := (congrArg State.ctxs (State.calm_core h) :)
theorem State.calm_cx (c : Nat) : t.cx c = s.cx c := congrArg (fun l : Tab CtxH => Tab.get ({} : CtxH) l c) (State.calm_ctxs h)
theorem State.calm_lnks : t.lnks = s.lnks := (congrArg State.lnks (State.calm_core h) :)
theorem State.calm_ext : t.ext = s.ext := (congrArg State.ext (State.calm_core h) :)
theorem State.calm_resp : t.resp = s.resp := (congrArg State.resp (State.calm_core h) :)
theorem State.calm_qRetired : t.qRetired = s.qRetired := (congrArg State.qRetired (State.calm_core h) :)
theorem State.calm_sec : t.sec = s.sec := (congrArg State.sec (State.calm_core h) :)
end

/-! ### Writes of fields and events -/

section
variable (s : State)
@[simp] theorem State.core_core : s.core.core = s.core := rfl
@[simp] theorem State.setReg_core (a : Nat) (v : Word) : (s.setReg a v).core = s.core := rfl
@[simp] theorem State.wr_core (f : RF) (v i j : Nat) : (s.wr f v i j).core = s.core := by
  unfold State.wr
  dsimp only
  split <;> rfl

section
variable {f : RF} {i j : Nat} (h : f.logs i j = true)
include h
@[simp] theorem State.wr_calm (v : Nat) : (s.wr f v i j).calm = s.calm :=
  State.calm_eq (fun a ha => s.reg_wr_off f v i j a ⟨fun e => ha (e ▸ ((f.logs_iff i j).mp h).1), fun e e' => ha (e' ▸ ((f.logs_iff i j).mp h).2 e)⟩) (s.wr_core f v i j)
@[simp] theorem State.raise_calm : (s.raise f i j).calm = s.calm := s.wr_calm h 1
@[simp] theorem State.incSat_calm (n : Nat) : (s.incSat f i j n).calm = s.calm := s.wr_calm h _
@[simp] theorem State.wrBit_calm (b : Nat) (x : Bool) : (s.wrBit f b x i j).calm = s.calm := by
  unfold State.wrBit
  split <;> exact s.wr_calm h _
end

@[simp] theorem State.emitAt_calm (at_ code source : Nat) (payload : List Nat) (merge : Bool) : (s.emitAt at_ code source payload merge).calm = s.calm := by
  refine State.calm_eq (fun a ha => State.emitAt_reg _ _ _ _ _ _ ?_) ?_
  · simp only [LogReg] at ha
    simp only [notEvent, REC.EVT_TOTAL, REC.QUEUE.VALUE]
    omega
  · have e : (s.wr REC.EVT_TOTAL (s.rd REC.EVT_TOTAL + 1)).core = s.core := s.wr_core _ _ _ _
    unfold State.emitAt
    dsimp only
    split
    · exact (State.wr_core _ _ _ _ _).trans e
    · split
      · split <;> exact e
      · exact e
@[simp] theorem State.emit_calm (code source : Nat) (payload : List Nat) : (s.emit code source payload).calm = s.calm := s.emitAt_calm _ _ _ _ _
@[simp] theorem State.emitMerge_calm (code source : Nat) (payload : List Nat) : (s.emitMerge code source payload).calm = s.calm := s.emitAt_calm _ _ _ _ _
@[simp] theorem calm_ite (c : Prop) [Decidable c] (a b : State) : (if c then a else b).calm = if c then a.calm else b.calm := by
  split <;> rfl
theorem State.forEach_calm {α : Type} (l : List α) (f : State → α → State) (h : ∀ u : State, ∀ a ∈ l, (f u a).calm = u.calm) :
    (s.forEach l f).calm = s.calm :=
  State.forEach_invariant (fun u => u.calm = s.calm) l f (fun u a ha hu => (h u a ha).trans hu) s rfl

/-! ### Errors and violations -/

/-- The registers of a target's violation log. -/
theorem RF.logs_at {f : RF} {t : Nat} (ht : t ≤ 9) (h : f.s1 = 0x10000 ∧ f.s2 = 0 ∧ 0x2000100004 ≤ f.base ∧ f.base + 4 < 0x2000100038) : f.logs t 0 = true := by
  obtain ⟨h1, -, hb, hb'⟩ := h
  rw [RF.logs_iff]
  simp only [LogReg, RF.addr, h1]
  omega
/-- The counts of the channels and of the on-chip memories. -/
theorem RF.logs_cnt {f : RF} {j : Nat} (hj : j < 256) (h : f.s2 = 4 ∧ f.hi < 32 ∧ 0x20000D0014 ≤ f.base ∧ f.base ≤ 0x20000D0140) : f.logs 0 j = true := by
  obtain ⟨h2, h63, hb, hb'⟩ := h
  rw [RF.logs_iff]
  simp only [LogReg, RF.addr, h2]
  omega
@[simp] theorem State.vioNote_calm (t : Nat) (h : VioH) : (s.vioNote t h).calm = s.calm := rfl
@[simp] theorem State.raiseIrq_calm (l : Nat) : (s.raiseIrq l).calm = s.calm := rfl
@[simp] theorem State.eccOver_calm (a n : Nat) : (s.eccOver a n).calm = s.calm := rfl
@[simp] theorem State.writeMem_calm (a : Nat) (l : List Nat) : (s.writeMem a l).calm = s.calm := by
  induction l generalizing s a with
  | nil => rfl
  | cons b t ih => exact ih (s.setByte a b) (a + 1)
@[simp] theorem State.logViolation_calm (m a n type_ : Nat) : (s.logViolation m a n type_).calm = s.calm := by
  unfold State.logViolation
  simp +decide [RF.logs_at (nearestTarget_le a)]
@[simp] theorem State.memCe_calm (a : Nat) : (s.memCe a).calm = s.calm := by
  unfold State.memCe
  split
  · simp +decide [RF.logs_cnt (s.channelOf_lt a)]
  next t _ _ =>
    split
    case isTrue ht =>
      simp +decide [RF.logs_cnt (f := MEM.SRAM_CNT.CE) (show t - 1 < 256 by omega)]
    case isFalse => rfl
  · rfl
@[simp] theorem State.chRetire_calm (ch : Nat) : (s.chRetire ch).calm = s.calm := by
  simp +decide [State.chRetire]
@[simp] theorem State.memUe_calm (m a src : Nat) : (s.memUe m a src).calm = s.calm := by
  have hj : nearestTarget a - 1 < 256 := lt_of_le_of_lt (Nat.sub_le _ _) (nearestTarget_lt a)
  unfold State.memUe
  dsimp only
  rw [State.emit_calm, State.raiseIrq_calm, State.wr_calm _ (by decide), State.wr_calm _ (by decide), State.wr_calm _ (by decide), calm_ite,
    State.raise_calm _ (by decide), State.wr_calm _ (by decide), State.wr_calm _ (by decide), State.wr_calm _ (by decide),
    State.wr_calm _ (by decide), State.wr_calm _ (by decide), State.wr_calm _ (by decide), ite_self, calm_ite, calm_ite, State.chRetire_calm, ite_self,
    State.raise_calm _ (by decide), State.raise_calm _ (by decide), State.incSat_calm _ (RF.logs_cnt hj (by decide))]
  split
  case isTrue ht => exact State.incSat_calm _ (RF.logs_cnt (s.channelOf_lt a) (by decide)) _
  case isFalse => rfl
@[simp] theorem State.eccFix_calm (u : Nat) : (s.eccFix u).calm = s.calm := s.memCe_calm u
@[simp] theorem State.eccFind_calm (m a src : Nat) (us : List Nat) : (s.eccFind m a src us).1.calm = s.calm := by
  have hf := s.forEach_calm ((us.takeWhile fun u => !(s.isUe u)).filter s.isCe) State.eccFix fun u a _ => u.eccFix_calm a
  unfold State.eccFind
  dsimp only
  split
  · rw [State.memUe_calm, hf]
  · exact hf
@[simp] theorem State.memWrite_calm (m a : Nat) (d : List Nat) : (s.memWrite m a d).1.calm = s.calm := by
  have hf := s.eccFind_calm m a ueRmw ((eccWords a d.length).filter fun u => decide (u < a ∨ a + d.length < u + eccSize u))
  unfold State.memWrite
  split
  next s' k he => rwa [he] at hf
  next s' he =>
    rw [he] at hf
    simpa using hf
end

/-! ### What the access tables permit -/

theorem assignedMaster_le {m : Nat} (h : assignedMaster m = true) : m ≤ 0x3F := by
  simp only [assignedMaster, Bool.or_eq_true, decide_eq_true_eq, beq_iff_eq] at h
  omega
/-- The registers of the windows are no log registers. -/
theorem calm_window {f : RF} {t m w : Nat} (hm : m ≤ 0x3F) (hw : w < 16)
    (hf : f.s1 = 0x10000 ∧ f.s2 = 16 ∧ 0x2000101000 ≤ f.base ∧ f.base < 0x2000101010 ∧ f.hi < 32) : f.calm t (m * 16 + w) = true := by
  obtain ⟨h1, h2, hb, hb', h63⟩ := hf
  rw [RF.calm_iff]
  simp only [LogReg, RF.addr, h1, h2]
  omega

section
variable {s t : State} (h : t.calm = s.calm)
include h
theorem State.calm_windowGrants {k m w : Nat} (a n need : Nat) (hm : m ≤ 0x3F) (hw : w < 16) :
    t.windowGrants k m w a n need = s.windowGrants k m w a n need := by
  have hb := State.calm_rd h AT.WIN_BASE.BASE k (m * 16 + w) (calm_window hm hw (by decide))
  have hl := State.calm_rd h AT.WIN_LIMIT.LIMIT k (m * 16 + w) (calm_window hm hw (by decide))
  have ha := State.calm_reg h ((RF.calm_iff _ k _).mp (calm_window (f := AT.WIN_ATTR.EN) hm hw (by decide))).1
  simp only [State.windowGrants, hb, hl, ha]
theorem State.calm_permits (k m a n need : Nat) : t.permits k m a n need = s.permits k m a n need := by
  have hd : t.debugOpen = s.debugOpen := by
    simp only [State.debugOpen, State.debugLc, State.calm_sec h, State.calm_dtime h, State.calm_rd h SEC.LC.STATE 0 0 (by decide),
      State.calm_flag h SEC.LC.DBG_UNLOCKED 0 0 (by decide)]
  unfold State.permits
  rw [hd]
  cases hm : assignedMaster m with
  | false => simp
  | true =>
    congr 1
    rw [Bool.eq_iff_iff, List.any_eq_true, List.any_eq_true]
    exact exists_congr fun w => and_congr_right fun hw => by
      rw [State.calm_windowGrants h a n need (assignedMaster_le hm) (List.mem_range.mp hw)]
theorem State.calm_checkAccess (m a n : Nat) (write sw : Bool) : t.checkAccess m a n write sw = s.checkAccess m a n write sw := by
  have hm : t.mapped a n = s.mapped a n := by
    simp only [State.mapped, State.calm_rd h MEM.TOP 0 0 (by decide), State.calm_flag h MEM.STATUS.UNAVAIL 0 0 (by decide)]
  simp only [State.checkAccess, hm, State.calm_permits h]
end
end Sys2Proof.Machine
end

section
/-!
SUPPORT. Strings of memory that a master may access and that hold no uncorrectable error (R283 to R285, R288): a read gives their bytes, a write
stores its bytes and no others, and neither brings an error that was not there.
-/
namespace Sys2Proof.Machine
-- One proof at a time: each thread of its own costs a stack and an arena of the check's memory.
set_option Elab.async false

/-! ### Bytes -/

section
variable {s t : State}
theorem State.byte_congr (h : t.mem = s.mem) (a : Nat) : t.byte a = s.byte a := congrArg (fun m : List Host.Cell => Tab.get memDefault m a) h
theorem State.readMem_congr (h : t.mem = s.mem) (a n : Nat) : t.readMem a n = s.readMem a n := by
  induction n generalizing a with
  | zero => rfl
  | succ n ih => rw [State.readMem, State.readMem, State.byte_congr h, ih]
theorem State.writeMem_congr (h : t.mem = s.mem) (a : Nat) (d : List Nat) : (t.writeMem a d).mem = (s.writeMem a d).mem := by
  induction d generalizing s t a with
  | nil => exact h
  | cons b d ih => exact ih (congrArg (fun m => Tab.put memDefault m a (BitVec.ofNat 8 b)) h) (a + 1)
end
theorem State.writeMem_append (s : State) (a : Nat) (d e : List Nat) : s.writeMem a (d ++ e) = (s.writeMem a d).writeMem (a + d.length) e := by
  induction d generalizing s a with
  | nil => rfl
  | cons b d ih =>
    have ha : a + (d.length + 1) = a + 1 + d.length := by omega
    rw [List.cons_append, State.writeMem, ih, State.writeMem, List.length_cons, ha]
theorem State.writeMem_flips (s : State) (a : Nat) (d : List Nat) : (s.writeMem a d).flips = s.flips := by
  induction d generalizing s a with
  | nil => rfl
  | cons b d ih => exact ih (s.setByte a (BitVec.ofNat 8 b)) (a + 1)
/-- What was stored is read back, each byte by its low eight bits. -/
theorem State.readMem_writeMem (s : State) (a : Nat) (d : List Nat) : (s.writeMem a d).readMem a d.length = d.map (· % 256) := by
  induction d generalizing s a with
  | nil => rfl
  | cons b d ih =>
    have hb := (s.setByte a (BitVec.ofNat 8 b)).byte_writeMem_off (a + 1) a d (.inl (by omega))
    rw [List.length_cons, State.readMem, List.map_cons, State.writeMem, ih, hb, State.byte_setByte, if_pos rfl]
    rfl
/-- A string beside what was stored reads as before. -/
theorem State.readMem_writeMem_off (s : State) (a b n : Nat) (d : List Nat) (h : b + n ≤ a ∨ a + d.length ≤ b) :
    (s.writeMem a d).readMem b n = s.readMem b n := by
  induction n generalizing b with
  | zero => rfl
  | succ n ih => rw [State.readMem, State.readMem, s.byte_writeMem_off a b d (by omega), ih _ (by omega)]

/-! ### Errors of code words -/

/-- A state that reads of memory leave: memory itself, no new uncorrectable error, and all that accesses leave. -/
structure ReadsTo (s t : State) : Prop where
  calm : t.calm = s.calm
  mem : t.mem = s.mem
  ue : ∀ u, s.isUe u = false → t.isUe u = false
theorem ReadsTo.refl (s : State) : ReadsTo s s := ⟨rfl, rfl, fun _ h => h⟩
theorem ReadsTo.trans {s t u : State} (h : ReadsTo s t) (k : ReadsTo t u) : ReadsTo s u :=
  ⟨k.calm.trans h.calm, k.mem.trans h.mem, fun x hx => k.ue x (h.ue x hx)⟩

section
variable (s : State)
theorem State.isUe_congr {t : State} (h : t.flips = s.flips) (u : Nat) : t.isUe u = s.isUe u := by
  unfold State.isUe State.eccSyms
  rw [h]
/-- Errors that are taken from a code word leave it no worse. -/
theorem State.isUe_of_flips {t : State} {p : Nat → Bool} (h : t.flips = s.flips.filter fun x => p x.1) {u : Nat} (hu : s.isUe u = false) :
    t.isUe u = false := by
  have e : (t.flips.filter fun x => x.1 == u) = if p u then s.flips.filter fun x => x.1 == u else [] := by
    rw [h, List.filter_filter]
    split
    case isTrue hp =>
      refine List.filter_congr fun x _ => ?_
      rcases eq_or_ne x.1 u with hx | hx <;> simp [hx, hp]
    case isFalse hp =>
      refine List.filter_eq_nil_iff.mpr fun x _ => ?_
      rcases eq_or_ne x.1 u with hx | hx <;> simp [hx, hp]
  unfold State.isUe State.eccSyms at hu ⊢
  rw [e]
  cases p u with
  | true => exact hu
  | false => rfl
theorem State.memUe_flips (m a src : Nat) : (s.memUe m a src).flips = s.flips := by
  unfold State.memUe State.chRetire
  dsimp only
  simp [apply_ite State.flips]
theorem State.eccFix_readsTo (u : Nat) : ReadsTo s (s.eccFix u) :=
  ⟨s.eccFix_calm u, (s.eccFix_keep u).2.2, fun _ h => s.isUe_of_flips (p := fun x => x != u) rfl h⟩
theorem State.eccFixes_readsTo (l : List Nat) : ReadsTo s (s.forEach l State.eccFix) :=
  State.forEach_invariant (ReadsTo s) l State.eccFix (fun t u _ ht => ht.trans (t.eccFix_readsTo u)) s (.refl s)
theorem State.memUe_readsTo (m a src : Nat) : ReadsTo s (s.memUe m a src) :=
  ⟨s.memUe_calm m a src, (s.memUe_keep m a src).2.2, fun u h => (s.isUe_congr (s.memUe_flips m a src) u).trans h⟩
theorem State.eccFind_readsTo (m a src : Nat) (us : List Nat) : ReadsTo s (s.eccFind m a src us).1 := by
  have hf := s.eccFixes_readsTo ((us.takeWhile fun u => !(s.isUe u)).filter s.isCe)
  unfold State.eccFind
  dsimp only
  split
  · exact hf.trans (State.memUe_readsTo _ m _ src)
  · exact hf
/-- Code words without an uncorrectable error are read through. -/
theorem State.eccFind_none (m a src : Nat) {us : List Nat} (h : ∀ u ∈ us, s.isUe u = false) : (s.eccFind m a src us).2 = none := by
  have e : us.find? s.isUe = none := List.find?_eq_none.mpr fun u hu => by simp [h u hu]
  unfold State.eccFind
  rw [e]

/-! ### Reads of a master, as they come -/

theorem State.logViolation_readsTo (m a n ty : Nat) : ReadsTo s (s.logViolation m a n ty) := by
  have hf : (s.logViolation m a n ty).flips = s.flips := by
    unfold State.logViolation
    simp [apply_ite State.flips]
  exact ⟨s.logViolation_calm m a n ty, (s.logViolation_keep m a n ty).2.2, fun u h => (s.isUe_congr hf u).trans h⟩
theorem State.readReg_readsTo (m a : Nat) : ReadsTo s (s.readReg m a).2 := by
  have hg : ∀ as_ : List Nat, ReadsTo s (s.latchGroup m as_) :=
    fun as_ => State.forEach_invariant (ReadsTo s) as_ (fun t a => t.setGLatch m a (t.live a)) (fun _ _ _ ht => ht.trans ⟨rfl, rfl, fun _ h => h⟩) s
      (.refl s)
  unfold State.readReg
  dsimp only
  split
  · exact hg _
  · split
    · exact ⟨rfl, rfl, fun _ h => h⟩
    · split
      · split
        · exact .refl s
        · exact ⟨rfl, rfl, fun _ h => h⟩
        · split
          · exact ⟨rfl, rfl, fun _ h => h⟩
          · exact .refl s
      · exact .refl s
theorem State.readPiece_readsTo (m a n : Nat) : ReadsTo s (s.readPiece m a n).1 := by
  unfold State.readPiece
  split
  · exact s.logViolation_readsTo m a n _
  · split
    · exact s.readReg_readsTo m a
    · have hf := s.eccFind_readsTo m a ueRead (eccWords a n)
      split
      next s' u he => rwa [he] at hf
      next s' he => rwa [he] at hf
theorem State.readPieces_readsTo (m : Nat) (acc : List Nat) (ps : List (Nat × Nat)) : ReadsTo s (s.readPieces m acc ps).1 := by
  induction ps generalizing s acc with
  | nil => exact .refl s
  | cons p t ih =>
    have e := s.readPiece_readsTo m p.1 p.2
    rw [State.readPieces]
    split
    next s' d hp =>
      rw [hp] at e
      exact e.trans (ih _ _)
    next s' hp => rwa [hp] at e
    next s' d hp => rwa [hp] at e
theorem State.masterRead_readsTo (m a n : Nat) : ReadsTo s (s.masterRead m a n).1 := s.readPieces_readsTo m [] _
theorem State.qFetch_readsTo (m q : Nat) : ReadsTo s (s.qFetch m q).1 := by
  have e := s.masterRead_readsTo m (s.qSlotAddr q (s.rd Q.SLOTS.TAKE_SLOT q)) 64
  unfold State.qFetch
  split
  next s' b h => rwa [h] at e
  next s' r _ h => rwa [h] at e

/-! ### Writes into memory -/

/-- A write into memory brings no error, whether it is carried out or refused. -/
theorem State.memWrite_ue (m a : Nat) (d : List Nat) {u : Nat} (hu : s.isUe u = false) : (s.memWrite m a d).1.isUe u = false := by
  have hf := (s.eccFind_readsTo m a ueRmw ((eccWords a d.length).filter fun u => decide (u < a ∨ a + d.length < u + eccSize u))).ue u hu
  unfold State.memWrite
  split
  next s' k he => rwa [he] at hf
  next s' he =>
    rw [he] at hf
    have hw : ((s'.eccOver a d.length).writeMem a d).flips = (s'.eccOver a d.length).flips := State.writeMem_flips _ a d
    rw [State.isUe_congr _ hw]
    exact s'.isUe_of_flips (p := fun x => !(decide (a ≤ x ∧ x + eccSize x ≤ a + d.length))) rfl hf
/-- A write into code words without an uncorrectable error is carried out. -/
theorem State.memWrite_stores (m a : Nat) (d : List Nat) (h : ∀ u ∈ eccWords a d.length, s.isUe u = false) :
    (s.memWrite m a d).2 = true ∧ (s.memWrite m a d).1.mem = (s.writeMem a d).mem := by
  have hn := s.eccFind_none m a ueRmw (us := (eccWords a d.length).filter fun u => decide (u < a ∨ a + d.length < u + eccSize u))
    fun u hu => h u (List.mem_of_mem_filter hu)
  have hf := (s.eccFind_readsTo m a ueRmw ((eccWords a d.length).filter fun u => decide (u < a ∨ a + d.length < u + eccSize u))).mem
  unfold State.memWrite
  split
  next s' k he =>
    rw [he] at hn
    cases hn
  next s' he =>
    rw [he] at hf
    exact ⟨rfl, State.writeMem_congr (s := s) (t := s'.eccOver a d.length) hf a d⟩
end

/-! ### Strings cut at blocks -/

/-- Pieces between the marks of a rising function follow one another. -/
theorem chained_marks (f : Nat → Nat) (i n : Nat) (h : ∀ k, i ≤ k → k < i + n → f k ≤ f (k + 1)) :
    chained (f i) ((List.range' i n).map fun k => (f k, f (k + 1) - f k)) = true ∧
      f i + (((List.range' i n).map fun k => (f k, f (k + 1) - f k)).map (·.2)).sum = f (i + n) := by
  induction n generalizing i with
  | zero => exact ⟨rfl, rfl⟩
  | succ n ih =>
    obtain ⟨hc, hs⟩ := ih (i + 1) fun k hk hn => h k (by omega) (by omega)
    have hi := h i (Nat.le_refl i) (by omega)
    have e : f i + (f (i + 1) - f i) = f (i + 1) := by omega
    have ha : i + (n + 1) = i + 1 + n := by omega
    rw [List.range'_succ, List.map_cons, chained, e, List.map_cons, List.sum_cons, ha]
    refine ⟨by simpa using hc, ?_⟩
    omega
/-- The pieces of a string follow one another from its start to its end. -/
theorem pieces_chained (a n : Nat) : chained a (pieces a n) = true ∧ ((pieces a n).map (·.2)).sum = n := by
  unfold pieces
  split
  case isTrue h => exact ⟨rfl, h.symm⟩
  case isFalse h =>
    obtain ⟨hc, hs⟩ := chained_marks (fun k => max a (min (a + n) ((a / 64 + k) * 64))) 0 ((a + n - 1) / 64 + 1 - a / 64)
      (fun k _ _ => by omega)
    have e : ((List.range ((a + n - 1) / 64 + 1 - a / 64)).map fun k =>
        (max a ((a / 64 + k) * 64), min (a + n) ((a / 64 + k + 1) * 64) - max a ((a / 64 + k) * 64))) =
        (List.range' 0 ((a + n - 1) / 64 + 1 - a / 64)).map fun k => (max a (min (a + n) ((a / 64 + k) * 64)),
          max a (min (a + n) ((a / 64 + (k + 1)) * 64)) - max a (min (a + n) ((a / 64 + k) * 64))) := by
      rw [← List.range_eq_range']
      refine List.map_congr_left fun k hk => ?_
      have := List.mem_range.mp hk
      refine Prod.ext ?_ ?_ <;> dsimp only <;> omega
    dsimp only at hc hs ⊢
    rw [e]
    have h0 : max a (min (a + n) ((a / 64 + 0) * 64)) = a := by omega
    rw [h0] at hc hs
    refine ⟨hc, ?_⟩
    omega
/-- A string inside one block is one piece. -/
theorem pieces_block {a n : Nat} (h : a % 64 + n ≤ 64) (h0 : 0 < n) : pieces a n = [(a, n)] := by
  have e : (a + n - 1) / 64 + 1 - a / 64 = 1 := by omega
  rw [pieces, if_neg (by omega), e]
  simp
  omega

/-! ### A master's reads and writes -/

/-- A state that a write of the bytes `d` at `a` leaves: memory with these bytes, no new uncorrectable error, and all that accesses leave. -/
structure StoresTo (a : Nat) (d : List Nat) (s t : State) : Prop where
  calm : t.calm = s.calm
  mem : t.mem = (s.writeMem a d).mem
  ue : ∀ u, s.isUe u = false → t.isUe u = false
/-- A master may read, and may write, the bytes of a piece, and none of its code words holds an uncorrectable error. -/
def State.canRead (s : State) (m : Nat) (q : Nat × Nat) : Prop :=
  s.checkAccess m q.1 q.2 false false = none ∧ isRegSpace q.1 = false ∧ ∀ u ∈ eccWords q.1 q.2, s.isUe u = false
def State.canWrite (s : State) (m : Nat) (q : Nat × Nat) : Prop :=
  s.checkAccess m q.1 q.2 true (needsSw q.1) = none ∧ isRegSpace q.1 = false ∧ ∀ u ∈ eccWords q.1 q.2, s.isUe u = false

section
variable {s : State} {m : Nat}
theorem State.canRead.mono {t : State} {q : Nat × Nat} (h : s.canRead m q) (hc : t.calm = s.calm) (hu : ∀ u, s.isUe u = false → t.isUe u = false) :
    t.canRead m q := ⟨(State.calm_checkAccess hc _ _ _ _ _).trans h.1, h.2.1, fun u hq => hu u (h.2.2 u hq)⟩
theorem State.canWrite.mono {t : State} {q : Nat × Nat} (h : s.canWrite m q) (hc : t.calm = s.calm) (hu : ∀ u, s.isUe u = false → t.isUe u = false) :
    t.canWrite m q := ⟨(State.calm_checkAccess hc _ _ _ _ _).trans h.1, h.2.1, fun u hq => hu u (h.2.2 u hq)⟩
/-- No write outside register space needs the SW right for its value. -/
theorem swOf_mem {a : Nat} (v : Nat) (h : isRegSpace a = false) : swOf a v = needsSw a := by
  have e : (a == PWR.RST_CMD.SYS.base) = false := beq_eq_false_iff_ne.mpr fun e => absurd (e ▸ h) (by decide)
  rw [swOf, e, Bool.false_and, Bool.or_false]
theorem State.readPiece_of_canRead {q : Nat × Nat} (h : s.canRead m q) :
    ∃ t, s.readPiece m q.1 q.2 = (t, .ok (s.readMem q.1 q.2)) ∧ ReadsTo s t := by
  obtain ⟨ha, hr, hu⟩ := h
  have hn := s.eccFind_none m q.1 ueRead hu
  have ht := s.eccFind_readsTo m q.1 ueRead (eccWords q.1 q.2)
  refine ⟨(s.eccFind m q.1 ueRead (eccWords q.1 q.2)).1, ?_, ht⟩
  unfold State.readPiece
  rw [ha, hr, ← State.readMem_congr ht.mem]
  generalize s.eccFind m q.1 ueRead (eccWords q.1 q.2) = r at hn ⊢
  obtain ⟨t, o⟩ := r
  cases hn
  rfl
theorem State.readPieces_of_canRead (acc : List Nat) {l : List (Nat × Nat)} (h : ∀ q ∈ l, s.canRead m q) :
    ∃ t, s.readPieces m acc l = (t, .ok (acc ++ l.flatMap fun q => s.readMem q.1 q.2)) ∧ ReadsTo s t := by
  induction l generalizing s acc with
  | nil => exact ⟨s, by simp [State.readPieces], .refl s⟩
  | cons q l ih =>
    obtain ⟨t, ht, hst⟩ := State.readPiece_of_canRead (h q List.mem_cons_self)
    obtain ⟨u, hu, htu⟩ := ih (s := t) (acc ++ s.readMem q.1 q.2) fun x hx => (h x (List.mem_cons_of_mem q hx)).mono hst.calm hst.ue
    refine ⟨u, ?_, hst.trans htu⟩
    simp only [State.readPieces, ht, hu, List.flatMap_cons, List.append_assoc, State.readMem_congr hst.mem]
/-- A master's read of a string that it may read gives the bytes. -/
theorem State.masterRead_of_canRead {a n : Nat} (h : ∀ q ∈ pieces a n, s.canRead m q) :
    ∃ t, s.masterRead m a n = (t, .ok (s.readMem a n)) ∧ ReadsTo s t := by
  obtain ⟨t, ht, hst⟩ := State.readPieces_of_canRead [] h
  refine ⟨t, ?_, hst⟩
  rw [State.masterRead, ht, List.nil_append, State.readMem_chained _ _ _ (pieces_chained a n).1, (pieces_chained a n).2]
theorem State.writePiece_of_canWrite {a : Nat} {d : List Nat} (h : s.canWrite m (a, d.length)) :
    ∃ t, s.writePiece m a d = (t, .ok []) ∧ StoresTo a d s t := by
  obtain ⟨ha, hr, hu⟩ := h
  obtain ⟨hok, hm⟩ := s.memWrite_stores m a d hu
  refine ⟨(s.memWrite m a d).1, ?_, s.memWrite_calm m a d, hm, fun u => s.memWrite_ue m a d⟩
  unfold State.writePiece
  rw [swOf_mem _ hr, ha, hr]
  simp [hok]
theorem State.writePieces_of_canWrite {a : Nat} {d : List Nat} {l : List (Nat × Nat)} (h : ∀ q ∈ l, s.canWrite m q) (hc : chained a l = true)
    (hs : (l.map (·.2)).sum = d.length) : ∃ t, s.writePieces m d l = (t, .ok []) ∧ StoresTo a d s t := by
  induction l generalizing s a d with
  | nil =>
    cases List.eq_nil_of_length_eq_zero hs.symm
    exact ⟨s, rfl, rfl, rfl, fun _ hu => hu⟩
  | cons q l ih =>
    obtain ⟨b, n⟩ := q
    simp only [chained, Bool.and_eq_true, beq_iff_eq] at hc
    obtain ⟨rfl, hc⟩ := hc
    rw [List.map_cons, List.sum_cons] at hs
    have hn : (d.take n).length = n := by rw [List.length_take]; dsimp only at hs; omega
    obtain ⟨t, ht, hst⟩ := State.writePiece_of_canWrite (s := s) (m := m) (a := b) (d := d.take n) (by
      rw [hn]
      exact h _ List.mem_cons_self)
    obtain ⟨u, hu, htu⟩ := ih (s := t) (a := b + n) (d := d.drop n) (fun x hx => (h x (List.mem_cons_of_mem _ hx)).mono hst.calm hst.ue) hc
      (by rw [List.length_drop]; dsimp only at hs; omega)
    refine ⟨u, ?_, htu.calm.trans hst.calm, ?_, fun x hx => htu.ue x (hst.ue x hx)⟩
    · simp only [State.writePieces, ht, hu]
    · have e := s.writeMem_append b (d.take n) (d.drop n)
      rw [List.take_append_drop, hn] at e
      rw [htu.mem, e]
      exact State.writeMem_congr hst.mem _ _
/-- A master's write of a string that it may write stores the bytes. -/
theorem State.masterWrite_of_canWrite {a : Nat} {d : List Nat} (h : ∀ q ∈ pieces a d.length, s.canWrite m q) :
    ∃ t, s.masterWrite m a d = (t, .ok []) ∧ StoresTo a d s t :=
  State.writePieces_of_canWrite h (pieces_chained a d.length).1 (pieces_chained a d.length).2
end
end Sys2Proof.Machine
end

section
/-!
SUPPORT. The exact matrix product in integer formats (R213, R227): products and sums of integers as exact values, an S32 accumulator whose partial
sums it holds, and the elements of MATMUL.
-/
namespace Sys2Proof.Machine
-- One proof at a time: each thread of its own costs a stack and an arena of the check's memory.
set_option Elab.async false

/-! ### Integers as exact values -/

/-- An exact value is an integer, over the denominator 1. -/
def FV.isInt (v : FV) (x : Int) : Prop := ∃ (neg : Bool) (n : Nat), v = .fin neg n 1 ∧ x = if neg then -(n : Int) else n
theorem FV.isInt_ofInt (x : Int) : (FV.ofInt x).isInt x := by
  refine ⟨decide (x < 0), x.natAbs, rfl, ?_⟩
  by_cases h : x < 0
  · rw [decide_eq_true h, if_pos rfl]; omega
  · rw [decide_eq_false h, if_neg (by simp)]; omega
theorem FV.isInt_add {a b : FV} {x y : Int} (ha : a.isInt x) (hb : b.isInt y) : (a.add b).isInt (x + y) := by
  obtain ⟨sa, na, rfl, rfl⟩ := ha
  obtain ⟨sb, nb, rfl, rfl⟩ := hb
  have e : ((if sa then -1 else 1) * ((na * 1 : Nat) : Int) + (if sb then -1 else 1) * ((nb * 1 : Nat) : Int)) =
      (if sa then -(na : Int) else na) + (if sb then -(nb : Int) else nb) := by
    cases sa <;> cases sb <;> simp
  unfold FV.add
  dsimp only
  rw [e]
  generalize (if sa then -(na : Int) else na) + (if sb then -(nb : Int) else nb) = z
  split
  case isTrue hz => exact ⟨sa && sb, 0, rfl, by simp [hz]⟩
  case isFalse hz => exact FV.isInt_ofInt z
theorem FV.isInt_mul {a b : FV} {x y : Int} (ha : a.isInt x) (hb : b.isInt y) : (a.mul b).isInt (x * y) := by
  obtain ⟨sa, na, rfl, rfl⟩ := ha
  obtain ⟨sb, nb, rfl, rfl⟩ := hb
  exact ⟨sa != sb, na * nb, rfl, by cases sa <;> cases sb <;> simp⟩

theorem rne_one (x : Int) : rne x 1 = x := by
  unfold rne
  simp
/-- An integer within an integer format converts to its code, without a clip. -/
theorem toInt_of_isInt {f : Nat} {lo hi x : Int} {v : FV} (hv : v.isInt x) (hl : lo ≤ x) (hh : x ≤ hi) : toInt f lo hi v = { code := ofS (fmtBits f) x } := by
  obtain ⟨neg, n, rfl, hx⟩ := hv
  unfold toInt
  have e : ((if neg = true then -↑n else ↑n : Int)) = x := hx.symm
  dsimp only
  rw [e, Nat.cast_one, mul_one, mul_one, if_neg (by omega), if_neg (by omega), rne_one]
/-- The terms of a sum of integers enter an S32 accumulator that holds every partial sum: it ends at the exact sum, which it holds, and
nothing is clipped. -/
theorem accumulate_int {l : List (FV × Int)} (hl : ∀ x ∈ l, x.1.isInt x.2) {b : Nat} (hb : ∀ x ∈ l, x.2.natAbs ≤ b) (a : Int)
    (ha : a.natAbs + l.length * b < 2 ^ 31) :
    accumulate true { v := .ofInt a } (l.map (·.1)) = { v := .ofInt ((l.map (·.2)).foldl (· + ·) a) } ∧
      ((l.map (·.2)).foldl (· + ·) a).natAbs < 2 ^ 31 := by
  induction l generalizing a with
  | nil => exact ⟨rfl, by simpa using ha⟩
  | cons x l ih =>
    have hx := FV.isInt_add (FV.isInt_ofInt a) (hl x List.mem_cons_self)
    have hxb := hb x List.mem_cons_self
    rw [List.length_cons, Nat.add_mul, Nat.one_mul] at ha
    have hsum : (a + x.2).natAbs + l.length * b < 2 ^ 31 := by omega
    have hin : -(2 ^ 31) ≤ a + x.2 ∧ a + x.2 ≤ 2 ^ 31 - 1 := by
      have : (a + x.2).natAbs < 2 ^ 31 := by omega
      omega
    have hs : Accu.step true { v := .ofInt a } x.1 = { v := .ofInt (a + x.2) } := by
      have hc : toS 32 (ofS (fmtBits 3) (a + x.2)) = a + x.2 := toS_ofS (by decide) (by omega)
      unfold Accu.step
      simp only [if_true, toInt_of_isInt hx hin.1 hin.2, hc]
      rfl
    rw [List.map_cons, accumulate, List.foldl_cons, hs, List.map_cons, List.foldl_cons]
    exact ih (fun y hy => hl y (List.mem_cons_of_mem x hy)) (fun y hy => hb y (List.mem_cons_of_mem x hy)) (a + x.2) hsum

/-! ### The elements of MATMUL -/

theorem toS8_natAbs (c : Nat) : (toS 8 c).natAbs ≤ 128 := by
  unfold toS
  dsimp only
  split <;> omega
theorem foldl_add_zero {α : Type} (g : α → Nat) {l : List α} (h : ∀ x ∈ l, g x = 0) (n : Nat) : l.foldl (fun n x => n + g x) n = n := by
  induction l generalizing n with
  | nil => rfl
  | cons x l ih => rw [List.foldl_cons, h x List.mem_cons_self, ih (fun y hy => h y (List.mem_cons_of_mem x hy)), Nat.add_zero]
/-- Elements without a clip or a NaN count none. -/
theorem matRes_clean (l : List (Conv × Accu)) (macs : Nat)
    (h : ∀ x ∈ l, x.1.clip = false ∧ x.1.nan = false ∧ x.2.clips = 0 ∧ x.2.nans = 0) :
    matRes l macs = { outs := [l.map fun x => x.1.code], macs := macs } := by
  have hc : (l.map (·.1)).filter (·.clip) = [] := by
    simp only [List.filter_eq_nil_iff, List.mem_map, forall_exists_index, and_imp, forall_apply_eq_imp_iff₂]
    exact fun x hx => by simp [(h x hx).1]
  have hn : (l.map (·.1)).filter (·.nan) = [] := by
    simp only [List.filter_eq_nil_iff, List.mem_map, forall_exists_index, and_imp, forall_apply_eq_imp_iff₂]
    exact fun x hx => by simp [(h x hx).2.1]
  unfold matRes accRes convRes
  dsimp only
  rw [hc, hn, List.foldl_map, List.foldl_map, foldl_add_zero _ fun x hx => (h x hx).2.2.1, foldl_add_zero _ fun x hx => (h x hx).2.2.2, List.map_map]
  rfl
/-- The exact element of a product of S8 matrices: the sum over K of the products of a row and a column. -/
def dotTerm (a b : Opnd) (k n e q : Nat) : Int := toS 8 (a.codes.getD (e / n * k + q) 0) * toS 8 (b.codes.getD (q * n + e % n) 0)
def matDot (a b : Opnd) (k n e : Nat) : Int := ((List.range k).map (dotTerm a b k n e)).foldl (· + ·) 0
section
variable {a b : Opnd} (hfa : a.fmt = fS8) (hfb : b.fmt = fS8) {k : Nat} (hk : k ≤ 131071)
include hfa hfb hk
/-- The accumulator of an element ends at the exact sum. -/
theorem accumulate_dot (n e : Nat) :
    accumulate true {} ((List.range k).map fun q => (a.val (e / n * k + q)).mul (b.val (q * n + e % n))) = { v := .ofInt (matDot a b k n e) } ∧
      (matDot a b k n e).natAbs < 2 ^ 31 := by
  have hval : ∀ {x : Opnd}, x.fmt = fS8 → ∀ i, (x.val i).isInt (toS 8 (x.codes.getD i 0)) := fun h i => by
    rw [Opnd.val, h]
    exact FV.isInt_ofInt _
  have hacc := accumulate_int (l := (List.range k).map fun q => ((a.val (e / n * k + q)).mul (b.val (q * n + e % n)), dotTerm a b k n e q)) (b := 2 ^ 14)
    (fun x hx => by
      obtain ⟨q, -, rfl⟩ := List.mem_map.mp hx
      exact FV.isInt_mul (hval hfa _) (hval hfb _))
    (fun x hx => by
      obtain ⟨q, -, rfl⟩ := List.mem_map.mp hx
      have h := Nat.mul_le_mul (toS8_natAbs (a.codes.getD (e / n * k + q) 0)) (toS8_natAbs (b.codes.getD (q * n + e % n) 0))
      rw [dotTerm, Int.natAbs_mul]
      omega)
    0 (by rw [List.length_map, List.length_range]; omega)
  rw [List.map_map, List.map_map] at hacc
  exact hacc
/-- The exact sum is read out into S32 without a clip. -/
theorem convert_dot (n e : Nat) : convert fS32 (.ofInt (matDot a b k n e)) = { code := ofS 32 (matDot a b k n e) } := by
  obtain ⟨-, hs⟩ := accumulate_dot hfa hfb hk n e
  have hl : (-(2 ^ (fmtBits fS32 - 1) : Nat) : Int) ≤ matDot a b k n e := by simp only [fmtBits, fS32]; norm_num; omega
  have hh : matDot a b k n e ≤ ((2 ^ (fmtBits fS32 - 1) : Nat) : Int) - 1 := by simp only [fmtBits, fS32]; norm_num; omega
  exact toInt_of_isInt (FV.isInt_ofInt _) hl hh
theorem matElem_dot (n e : Nat) :
    matElem a.fmt fS32 ((List.range k).map fun q => (a.val (e / n * k + q), b.val (q * n + e % n))) none =
      ({ code := ofS 32 (matDot a b k n e) }, { v := .ofInt (matDot a b k n e) }) := by
  obtain ⟨hacc, -⟩ := accumulate_dot hfa hfb hk n e
  have hint : accInt a.fmt = true := by rw [hfa]; rfl
  unfold matElem
  rw [List.map_map, hint]
  exact Prod.ext ((congrArg (fun x => convert fS32 x.v) hacc).trans (convert_dot hfa hfb hk n e)) hacc
/-- MATMUL of an m × k by a k × n matrix gives the codes of the exact sums; it counts no clip. -/
theorem matmulOp_dot {p : Prog} {o : OpDef} {f : Frame} {m n : Nat} (hda : a.dims = [m, k]) (hdb : b.dims = [k, n]) (hna : a.n = m * k)
    (hnb : b.n = k * n) (hof : (p.out0 o).fmt = fS32) (hon : (p.out0 o).n = m * n) (h0 : 0 < k) :
    ∃ macs, matmulOp false p o f [a, b] =
      some { outs := [(List.range (m * n)).map fun e => (convert fS32 (.ofInt (matDot a b k n e))).code], macs := macs } := by
  have hn : b.n / max k 1 = n := by rw [hnb, Nat.max_eq_left h0, Nat.mul_div_cancel_left n h0]
  have hm : a.n / max k 1 = m := by rw [hna, Nat.max_eq_left h0, Nat.mul_div_cancel m h0]
  refine ⟨m * n * k * macWeight a.fmt, ?_⟩
  unfold matmulOp
  simp only [List.getD_cons_zero, List.getD_cons_succ, hda, hdb, List.getLast?_cons_cons, List.getLast?_singleton, Option.getD_some, hn, hm, hon, hof,
    matElem_dot hfa hfb hk, Bool.false_eq_true, if_false]
  rw [if_pos ⟨trivial, trivial, .inl trivial, Nat.le_refl 2⟩, matRes_clean _ _ fun x hx => by
    obtain ⟨e, -, rfl⟩ := List.mem_map.mp hx
    exact ⟨rfl, rfl, rfl, rfl⟩, List.map_map]
  simp only [Function.comp_def, convert_dot hfa hfb hk]
end
end Sys2Proof.Machine
end

section
/-!
SUPPORT. A data operation of a frame that reads its operands and writes one tensor in SCRATCH (R200, R204, R226, R228): what the operands leave, the
bytes of the output, and the counts of the frame; O42.
-/
namespace Sys2Proof.Machine
-- One proof at a time: each thread of its own costs a stack and an arena of the check's memory.
set_option Elab.async false
open Sys2Proof.Safety

/-! ### Bytes of codes -/

theorem le_length (n v : Nat) : (le n v).length = n := by
  induction n generalizing v with
  | zero => rfl
  | succ n ih => rw [le, List.length_cons, ih]
theorem le_lt {n v b : Nat} (h : b ∈ le n v) : b < 256 := by
  induction n generalizing v with
  | zero => cases h
  | succ n ih =>
    rcases List.mem_cons.mp h with rfl | h
    · exact Nat.mod_lt _ (by decide)
    · exact ih h
/-- Codes of whole bytes follow one another. -/
theorem packCodes_bytes {f : Nat} (hf : f ≠ 0) (l : List Nat) : packCodes f l = l.flatMap (le (fmtBits f / 8)) := by
  induction l with
  | nil => rfl
  | cons x l ih =>
    cases l with
    | nil => simp [packCodes, hf]
    | cons y l => rw [packCodes, if_neg hf, ih]; rfl
theorem packCodes_s32_length (l : List Nat) : (packCodes fS32 l).length = fmtBytes fS32 l.length := by
  rw [packCodes_bytes (by decide), List.length_flatMap]
  simp only [le_length, List.map_const', List.sum_replicate, smul_eq_mul]
  show l.length * 4 = (l.length * 32 + 8 - 1) / 8
  omega
theorem packCodes_s32_mod (l : List Nat) : (packCodes fS32 l).map (· % 256) = packCodes fS32 l := by
  rw [packCodes_bytes (by decide)]
  conv_rhs => rw [← List.map_id (l.flatMap _)]
  refine List.map_congr_left fun b hb => ?_
  obtain ⟨x, -, hx⟩ := List.mem_flatMap.mp hb
  exact Nat.mod_eq_of_lt (le_lt hx)

/-! ### Operands -/

/-- The state without its contexts. -/
def State.sansCtx (s : State) : State := { s with ctxs := [] }
/-- A state that reads of operands by context `c` leave: its frame has noted digests of inputs, and all else is as reads leave it. -/
structure OpndsTo (c : Nat) (s t : State) : Prop where
  reads : ReadsTo s.sansCtx t.sansCtx
  cx : ∀ f, (s.cx c).frame = some f → ∃ d, t.cx c = { s.cx c with frame := some { f with inDig := d } }
theorem OpndsTo.refl (c : Nat) (s : State) : OpndsTo c s s :=
  ⟨.refl _, fun f h => ⟨f.inDig, by rw [← h]⟩⟩
theorem OpndsTo.trans {c : Nat} {s t u : State} (h : OpndsTo c s t) (k : OpndsTo c t u) : OpndsTo c s u :=
  ⟨h.reads.trans k.reads, fun f hf => by
    obtain ⟨d, hd⟩ := h.cx f hf
    obtain ⟨e, he⟩ := k.cx { f with inDig := d } (by rw [hd])
    exact ⟨e, by rw [he, hd]⟩⟩
theorem ReadsTo.opndsTo {s t : State} (h : ReadsTo s t) (c : Nat) : OpndsTo c s t :=
  ⟨⟨State.calm_eq (fun _ ha => State.calm_reg h.calm ha) (congrArg State.sansCtx (State.calm_core h.calm)), h.mem, h.ue⟩,
    fun f hf => ⟨f.inDig, by rw [State.calm_cx h.calm, ← hf]⟩⟩

theorem State.readTensor_opndsTo {s t : State} {c l k : Nat} {p : Prog} {d : List Nat} (h : s.readTensor c l p k = (t, some d)) : OpndsTo c s t := by
  unfold State.readTensor at h
  dsimp only at h
  split at h
  · cases h
  next f hf =>
    split at h
    · cases h
      exact .refl c s
    · split at h
      · cases h
        exact .refl c s
      · split at h
        · cases h
        · have hr := s.masterRead_readsTo (s.ctxMaster c l) (s.tensorAddr c f (p.tensor k)) (p.tensor k).bytes
          split at h
          next s' b hb =>
            rw [hb] at hr
            refine (hr.opndsTo c).trans ?_
            cases h
            split
            · refine ⟨.refl _, fun g hg => ⟨Tab.put [] g.inDig k (sha3 d), ?_⟩⟩
              rw [State.updFrame, State.updCx_same, hg]
              rfl
            · exact .refl c s'
          next => cases h
/-- An operand has as many codes as its shape has elements. -/
def Opnd.full (x : Opnd) : Prop := x.n = x.dims.foldl (· * ·) 1
theorem State.readOpnds_opndsTo {s t : State} {c l : Nat} {p : Prog} {ks : List Nat} {xs : List Opnd} (h : s.readOpnds c l p ks = (t, some xs)) :
    OpndsTo c s t ∧ ∀ x ∈ xs, x.full := by
  induction ks generalizing s xs with
  | nil =>
    cases h
    exact ⟨.refl c _, by simp⟩
  | cons k ks ih =>
    unfold State.readOpnds at h
    split at h
    · cases h
    next s' d hd =>
      dsimp only at h
      split at h
      · cases h
      next s'' r hr =>
        cases h
        obtain ⟨hs, hf⟩ := ih hr
        refine ⟨(State.readTensor_opndsTo hd).trans hs, fun x hx => ?_⟩
        rcases List.mem_cons.mp hx with rfl | hx
        · simp [Opnd.full, Opnd.n, unpackN, TensorDef.count, TensorDef.shape]
        · exact hf x hx

/-! ### The output -/

theorem State.opReady_inv {s : State} {c i code : Nat} {p : Prog} {o : OpDef} {f : Frame} (h : s.opReady c i code = some (p, o, f)) :
    (s.cx c).prog = some p ∧ (s.cx c).frame = some f := by
  unfold State.opReady at h
  dsimp only at h
  split at h
  next p' f' hp hf =>
    split at h
    · split at h
      · cases h
        exact ⟨hp, hf⟩
      · cases h
    · cases h
  · cases h

section
variable {c : Nat} {s t : State} (h : OpndsTo c s t)
include h
theorem OpndsTo.rd (g : RF) (k l : Nat) (hg : g.calm k l = true) : t.rd g k l = s.rd g k l := State.calm_rd h.reads.calm g k l hg
theorem OpndsTo.place {f : Frame} (hf : (s.cx c).frame = some f) (l : Nat) : t.place c l = s.place c l := by
  obtain ⟨d, hd⟩ := h.cx f hf
  rw [State.place, hd, State.place]
theorem OpndsTo.ctxMaster (l : Nat) : t.ctxMaster c l = s.ctxMaster c l := by
  have hb : CTX.CFG.BASE.calm c 0 = true := by
    rw [RF.calm_iff]
    simp only [LogReg, RF.addr, CTX.CFG.BASE]
    omega
  simp only [State.ctxMaster, State.engOf, h.rd CTX.CFG.BASE c 0 hb, h.rd INF.ENG_MAP.MAP 0 0 (by decide)]
theorem OpndsTo.canWrite {m : Nat} {q : Nat × Nat} (hq : s.canWrite m q) : t.canWrite m q :=
  State.canWrite.mono (s := s.sansCtx) (t := t.sansCtx) hq h.reads.calm h.reads.ue
end

theorem fmtBytes_ne_zero (f : Nat) {n : Nat} (h : n ≠ 0) : fmtBytes f n ≠ 0 := by
  have hf : 4 ≤ fmtBits f := by
    unfold fmtBits
    rcases Nat.lt_or_ge f 8 with hf | hf
    · interval_cases f <;> decide
    · rw [List.getD_eq_default _ _ hf]
      decide
  have := Nat.mul_le_mul (Nat.pos_of_ne_zero h) hf
  rw [fmtBytes, ceilDiv, if_neg (by decide)]
  omega
/-- A thread writes a tensor in SCRATCH that its engine may write: the bytes stand in its area, and the contexts stay. -/
theorem State.writeTensor_scratch {s : State} {c l k : Nat} {p : Prog} {f : Frame} {d : List Nat} (hf : (s.cx c).frame = some f)
    (hk : (p.tensor k).kind = kScratch) (hn : (p.tensor k).count ≠ 0) (hd : d.length = (p.tensor k).bytes)
    (hw : ∀ q ∈ pieces ((s.place c (p.tensor k).logical).scr + (p.tensor k).addr) (p.tensor k).bytes, s.canWrite (s.ctxMaster c l) q) :
    StoresTo ((s.place c (p.tensor k).logical).scr + (p.tensor k).addr) d s (s.writeTensor c l p k d) := by
  obtain ⟨t, ht, hst⟩ := State.masterWrite_of_canWrite (s := s) (d := d) (hd ▸ hw)
  have ha : s.tensorAddr c f (p.tensor k) true = (s.place c (p.tensor k).logical).scr + (p.tensor k).addr := by
    unfold State.tensorAddr
    rw [hk]
    rfl
  have hr : (p.tensor k).kind ≠ kResult := by rw [hk]; decide
  have hb : (p.tensor k).bytes ≠ 0 := fmtBytes_ne_zero _ hn
  unfold State.writeTensor
  simp only [hf, hb, hr, if_false, false_and, ha, ht]
  exact hst

/-- What a data operation without a quantiser counts: clips and NaNs of the frame, and an engine's multiply-accumulates. -/
theorem State.opCount_plain {s : State} {c : Nat} {o : OpDef} {x : OpRes} (hq : x.quant = none) (hw : x.work = none) :
    (s.opCount c o x).mem = s.mem ∧
      (s.opCount c o x).cx c = { s.cx c with frame := (s.cx c).frame.map fun f => { f with clipCnt := f.clipCnt + x.clips, nanCnt := f.nanCnt + x.nans } } := by
  have hcx := s.updCx_same c fun h => { h with frame := h.frame.map fun f => { f with clipCnt := f.clipCnt + x.clips, nanCnt := f.nanCnt + x.nans } }
  unfold State.opCount
  rw [hq, hw]
  dsimp only
  split
  · exact ⟨rfl, hcx⟩
  · exact ⟨rfl, hcx⟩
/-- A ready operation with a result of one output in SCRATCH: memory takes the bytes of its codes, and the frame counts its clips. -/
theorem State.runOp_toScratch {s : State} {c i code : Nat} {p : Prog} {o : OpDef} {f : Frame} {xs : List Opnd} {out : TensorDef}
    {g : Prog → OpDef → Frame → List Opnd → Option OpRes} {r : OpRes} {cs : List Nat} (h : Claims.ToScratch s c i code p o f xs out)
    (hg : g p o f xs = some r) (hcs : r.outs = [cs]) (hq : r.quant = none) (hw : r.work = none) (hl : (packCodes out.fmt cs).length = out.bytes) :
    (s.runOp c i code g).mem = (s.writeMem (Claims.addrOf s c out) (packCodes out.fmt cs)).mem ∧
      (((s.runOp c i code g).cx c).frame.map (·.clipCnt)) = some (f.clipCnt + r.clips) := by
  obtain ⟨hready, hread, hsize, ⟨k, hk, rfl⟩, hkind, hwr⟩ := h
  have hf := (State.opReady_inv hready).2
  have hany : ((o.ins ++ o.outs).any fun k => (p.tensor k).count == 0) = false := by
    simpa [List.any_eq_false, or_imp, forall_and] using hsize
  obtain ⟨u, hu⟩ : ∃ u, s.readOpnds c o.logical p o.ins = (u, some xs) := ⟨_, Prod.ext rfl hread⟩
  have hsu := (State.readOpnds_opndsTo hu).1
  obtain ⟨dig, hux⟩ := hsu.cx f hf
  have hpl := hsu.place hf (p.tensor k).logical
  have hst := State.writeTensor_scratch (s := u) (c := c) (l := o.logical) (k := k) (p := p) (d := packCodes (p.tensor k).fmt cs)
    (by rw [hux]) hkind (hsize k (by simp [hk])) hl (by
      rw [hpl, hsu.ctxMaster]
      exact fun q hq => hsu.canWrite (hwr q hq))
  have hwrite : u.opWrite c p o [packCodes (p.tensor k).fmt cs] = u.writeTensor c o.logical p k (packCodes (p.tensor k).fmt cs) := by
    simp [State.opWrite, hk, State.forEach]
  have hdat : ((List.range o.outs.length).map fun j => packCodes (p.outT o j).fmt (r.outs.getD j [])) = [packCodes (p.tensor k).fmt cs] := by
    simp [hk, hcs, Prog.outT]
  obtain ⟨hcm, hcc⟩ := State.opCount_plain (s := u.writeTensor c o.logical p k (packCodes (p.tensor k).fmt cs)) (c := c) (o := o) hq hw
  have hrun : s.runOp c i code g =
      ((u.writeTensor c o.logical p k (packCodes (p.tensor k).fmt cs)).opCount c o r).opDone c i (packCodes (p.tensor k).fmt cs) := by
    unfold State.runOp
    simp only [hready, hany, hu, hg, Option.map_some, Option.getD_some, hdat, hwrite, List.flatten_cons, List.flatten_nil, List.append_nil, if_false,
      Bool.false_eq_true]
  rw [hrun]
  refine ⟨?_, ?_⟩
  · have e := State.writeMem_congr (s := s) (t := u) hsu.reads.mem (Claims.addrOf s c (p.tensor k)) (packCodes (p.tensor k).fmt cs)
    exact hcm.trans (hst.mem.trans (by rw [hpl]; exact e))
  · rw [State.opDone, State.updFrame, State.updCx_same, hcc, State.calm_cx hst.calm, hux]
    rfl

/-- Settles O42: the partial sums of at most 131,071 products of S8 codes stay within S32, so every element is the exact sum and nothing is clipped. -/
theorem matrixProducts : Obligations.MatrixProducts := by
  unfold Obligations.MatrixProducts
  intro s c i p o f a b out m k n hts hfa hfb hfo hda hdb hsh h0 hk
  obtain ⟨-, hread, -, ⟨w, hw, hwo⟩, -, -⟩ := id hts
  obtain ⟨u, hu⟩ : ∃ u, s.readOpnds c o.logical p o.ins = (u, some [a, b]) := ⟨_, Prod.ext rfl hread⟩
  obtain ⟨-, hfull⟩ := State.readOpnds_opndsTo hu
  have hna : a.n = m * k := by
    have e : a.full := hfull a (by simp)
    simpa [Opnd.full, hda] using e
  have hnb : b.n = k * n := by
    have e : b.full := hfull b (by simp)
    simpa [Opnd.full, hdb] using e
  have hcount : out.count = m * n := by
    have e : out.count = out.shape.foldl (· * ·) 1 := rfl
    rw [e, hsh]
    simp
  have hout : p.outT o 0 = out := by rw [Prog.outT, hw]; exact hwo
  obtain ⟨macs, hres⟩ := matmulOp_dot hfa hfb hk (p := p) (o := o) (f := f) hda hdb hna hnb (by rw [Prog.out0, hout]; exact hfo)
    (by simp [Prog.out0, hout, Opnd.n, hcount]) h0
  have hcodes : Claims.codes out.fmt out.count (fun e => FV.ofInt (matDot a b k n e)) =
      (List.range (m * n)).map fun e => (convert fS32 (.ofInt (matDot a b k n e))).code := by
    rw [Claims.codes, hfo, hcount]
  have hclips : Claims.clips out.fmt out.count (fun e => FV.ofInt (matDot a b k n e)) = 0 := by
    rw [Claims.clips, hfo, List.length_eq_zero_iff, List.filter_eq_nil_iff]
    intro e _
    rw [convert_dot hfa hfb hk]
    simp
  have hlen : (packCodes out.fmt (Claims.codes out.fmt out.count fun e => FV.ofInt (matDot a b k n e))).length = out.bytes := by
    rw [hfo, packCodes_s32_length, Claims.codes, List.length_map, List.length_range, TensorDef.bytes, hfo]
  obtain ⟨hmem, hclip⟩ := State.runOp_toScratch (g := matmulOp false) hts hres (by rw [hcodes]) rfl rfl hlen
  refine ⟨_, rfl, hclip, ?_, ?_, ?_⟩
  · rw [State.readMem_congr hmem, ← hlen, State.readMem_writeMem, hfo, packCodes_s32_mod]
    rfl
  · intro x hx
    rw [State.byte_congr hmem]
    exact State.byte_writeMem_off _ _ _ _ (by rw [hlen]; omega)
  · exact hclip.trans (congrArg (fun n => some (f.clipCnt + n)) hclips.symm)
end Sys2Proof.Machine
end

section
/-!
SUPPORT. The registers of a hardware queue (R205, R206, R208): one record of them, what each write of one of them makes of it, and what posts, takes
and retires make of their queue and leave of every other.
-/
namespace Sys2Proof.Machine
-- One proof at a time: each thread of its own costs a stack and an arena of the check's memory.
set_option Elab.async false

/-- The registers above the recorder's hold no log. -/
theorem RF.calm_above {f : RF} (i j : Nat) (h : 0x20001D0020 ≤ f.base) : f.calm i j = true := by
  rw [RF.calm_iff]
  simp only [LogReg, RF.addr]
  omega

/-- The registers of a queue beside its STATUS. -/
structure QRegs where
  en : Nat
  depth : Nat
  base : Nat
  prod : Nat
  take : Nat
  ret : Nat
  credits : Nat
  lastPost : Nat
  seq : Nat
  postSlot : Nat
  takeSlot : Nat
def State.qRegs (s : State) (q : Nat) : QRegs :=
  { en := s.rd Q.CFG.EN q, depth := s.rd Q.CFG.DEPTH q, base := s.rd Q.BASE q, prod := s.rd Q.PROD.PROD q, take := s.rd Q.TAKE.TAKE q,
    ret := s.rd Q.RET.RET q, credits := s.rd Q.CREDITS.CREDITS q, lastPost := s.rd Q.LAST_POST q, seq := s.rd Q.POSTS.SEQ q,
    postSlot := s.rd Q.SLOTS.POST_SLOT q, takeSlot := s.rd Q.SLOTS.TAKE_SLOT q }

def qFields : List RF :=
  [Q.CFG.EN, Q.CFG.DEPTH, Q.BASE, Q.PROD.PROD, Q.TAKE.TAKE, Q.RET.RET, Q.CREDITS.CREDITS, Q.LAST_POST, Q.POSTS.SEQ, Q.SLOTS.POST_SLOT, Q.SLOTS.TAKE_SLOT]
theorem State.qRegs_congr {s t : State} {q : Nat} (h : ∀ g ∈ qFields, t.rd g q = s.rd g q) : t.qRegs q = s.qRegs q := by
  simp only [qFields, List.mem_cons, forall_eq_or_imp, List.not_mem_nil, false_imp_iff, implies_true, and_true] at h
  simp only [State.qRegs, h]
/-- A state that leaves the registers above the recorder's leaves those of the queues. -/
theorem State.calm_qRegs {s t : State} (h : t.calm = s.calm) (q : Nat) : t.qRegs q = s.qRegs q :=
  State.qRegs_congr fun g hg => State.calm_rd h g q 0 (RF.calm_above q 0 ((by decide : ∀ g ∈ qFields, 0x20001D0020 ≤ g.base) g hg))

/-- A field of the registers of a queue. -/
def RF.ofQueue (f : RF) : Bool :=
  f.s1 == 0x40 && f.s2 == 0 && decide (0x2030000000 ≤ f.base) && decide (f.base + (if f.hi = 63 then 4 else 0) < 0x2030000040)
/-- A write of a field of a queue leaves every field of another queue. -/
theorem State.rd_wr_otherQueue (s : State) {f g : RF} {q r : Nat} (v : Nat) (h : r ≠ q) (hf : f.ofQueue = true) (hg : g.ofQueue = true) :
    (s.wr f v q).rd g r = s.rd g r := by
  refine State.rd_wr_apart _ _ _ _ _ _ _ _ ?_
  simp only [RF.ofQueue, Bool.and_eq_true, beq_iff_eq, decide_eq_true_eq] at hf hg
  obtain ⟨⟨⟨hf1, hf2⟩, hfb⟩, hfe⟩ := hf
  obtain ⟨⟨⟨hg1, hg2⟩, hgb⟩, hge⟩ := hg
  simp only [RF.apart, RF.off, RF.addr, hf1, hg1, hf2, hg2]
  split at hfe <;> split at hge <;> omega

section
variable (s : State) (q : Nat)

theorem State.qRegs_other {f : RF} {r : Nat} (v : Nat) (h : r ≠ q) (hf : f.ofQueue = true) : (s.wr f v q).qRegs r = s.qRegs r :=
  State.qRegs_congr fun g hg => s.rd_wr_otherQueue v h hf ((by decide : ∀ g ∈ qFields, g.ofQueue = true) g hg)
/-- A field beside those of the record, as STATUS has them. -/
theorem State.qRegs_beside {f : RF} (v r : Nat) (hf : f.ofQueue = true) (hb : ∀ g ∈ qFields, f.beside g = true) :
    (s.wr f v q).qRegs r = s.qRegs r := by
  rcases eq_or_ne r q with rfl | h
  · exact State.qRegs_congr fun g hg => State.rd_wr_of_beside s r v (hb g hg)
  · exact s.qRegs_other q v h hf
theorem State.noteSet_qRegs (a mask r : Nat) : (s.noteSet a mask).qRegs r = s.qRegs r := rfl
theorem State.raise_status {f : RF} (r : Nat) (hf : f.ofQueue = true) (hb : ∀ g ∈ qFields, f.beside g = true) : (s.raise f q).qRegs r = s.qRegs r := by
  rw [State.raise, State.noteSet_qRegs, s.qRegs_beside q 1 r hf hb]
@[simp] theorem State.qRegs_prod (v : Nat) : (s.wr Q.PROD.PROD v q).qRegs q = { s.qRegs q with prod := v % 2 ^ 16 } := by
  simp +decide [State.qRegs, State.rd_wr_of_beside, State.rd_wr_self]
  rfl
@[simp] theorem State.qRegs_take (v : Nat) : (s.wr Q.TAKE.TAKE v q).qRegs q = { s.qRegs q with take := v % 2 ^ 16 } := by
  simp +decide [State.qRegs, State.rd_wr_of_beside, State.rd_wr_self]
  rfl
@[simp] theorem State.qRegs_ret (v : Nat) : (s.wr Q.RET.RET v q).qRegs q = { s.qRegs q with ret := v % 2 ^ 16 } := by
  simp +decide [State.qRegs, State.rd_wr_of_beside, State.rd_wr_self]
  rfl
@[simp] theorem State.qRegs_credits (v : Nat) : (s.wr Q.CREDITS.CREDITS v q).qRegs q = { s.qRegs q with credits := v % 2 ^ 13 } := by
  simp +decide [State.qRegs, State.rd_wr_of_beside, State.rd_wr_self]
  rfl
@[simp] theorem State.qRegs_lastPost (v : Nat) : (s.wr Q.LAST_POST v q).qRegs q = { s.qRegs q with lastPost := v % 2 ^ 64 } := by
  simp +decide [State.qRegs, State.rd_wr_of_beside, State.rd_wr_pair]
@[simp] theorem State.qRegs_seq (v : Nat) : (s.wr Q.POSTS.SEQ v q).qRegs q = { s.qRegs q with seq := v % 2 ^ 32 } := by
  simp +decide [State.qRegs, State.rd_wr_of_beside, State.rd_wr_self]
  rfl
@[simp] theorem State.qRegs_postSlot (v : Nat) : (s.wr Q.SLOTS.POST_SLOT v q).qRegs q = { s.qRegs q with postSlot := v % 2 ^ 12 } := by
  simp +decide [State.qRegs, State.rd_wr_of_beside, State.rd_wr_self]
  rfl
@[simp] theorem State.qRegs_takeSlot (v : Nat) : (s.wr Q.SLOTS.TAKE_SLOT v q).qRegs q = { s.qRegs q with takeSlot := v % 2 ^ 12 } := by
  simp +decide [State.qRegs, State.rd_wr_of_beside, State.rd_wr_self]
  rfl
end

/-! ### Posts, takes and retires -/

def QRegs.credit (r : QRegs) : QRegs := { r with credits := (r.depth - (r.prod + 65536 - r.ret) % 65536) % 2 ^ 13 }
def QRegs.posted (r : QRegs) (now : Nat) : QRegs :=
  QRegs.credit { r with prod := (r.prod + 1) % 2 ^ 16, postSlot := advSlot r.depth r.postSlot % 2 ^ 12, seq := (r.seq + 1) % 2 ^ 32, lastPost := now % 2 ^ 64 }
def QRegs.taken (r : QRegs) : QRegs := { r with take := (r.take + 1) % 2 ^ 16, takeSlot := advSlot r.depth r.takeSlot % 2 ^ 12 }
def QRegs.retired (r : QRegs) (n : Nat) : QRegs := QRegs.credit { r with ret := (r.ret + n) % 2 ^ 16 }

section
variable (s : State) (q : Nat)
@[simp] theorem State.qCredits_qRegs : (s.qCredits q).qRegs q = (s.qRegs q).credit := s.qRegs_credits q _
theorem State.qCredits_other {r : Nat} (h : r ≠ q) : (s.qCredits q).qRegs r = s.qRegs r := s.qRegs_other q _ h (by decide)
theorem State.rd_qRegs :
    s.rd Q.CFG.EN q = (s.qRegs q).en ∧ s.rd Q.CFG.DEPTH q = (s.qRegs q).depth ∧ s.rd Q.BASE q = (s.qRegs q).base ∧
    s.rd Q.PROD.PROD q = (s.qRegs q).prod ∧ s.rd Q.TAKE.TAKE q = (s.qRegs q).take ∧ s.rd Q.RET.RET q = (s.qRegs q).ret ∧
    s.rd Q.CREDITS.CREDITS q = (s.qRegs q).credits ∧ s.rd Q.LAST_POST q = (s.qRegs q).lastPost ∧ s.rd Q.POSTS.SEQ q = (s.qRegs q).seq ∧
    s.rd Q.SLOTS.POST_SLOT q = (s.qRegs q).postSlot ∧ s.rd Q.SLOTS.TAKE_SLOT q = (s.qRegs q).takeSlot :=
  ⟨rfl, rfl, rfl, rfl, rfl, rfl, rfl, rfl, rfl, rfl, rfl⟩
@[simp] theorem State.qPosted1_qRegs : (s.qPosted1 q).qRegs q = (s.qRegs q).posted s.dtime := by
  simp [State.qPosted1, State.incWrap, State.rd_qRegs, QRegs.posted]
@[simp] theorem State.qTake1_qRegs : (s.qTake1 q).qRegs q = (s.qRegs q).taken := by
  simp [State.qTake1, State.incWrap, State.rd_qRegs, QRegs.taken]
theorem State.qPosted1_other {r : Nat} (h : r ≠ q) : (s.qPosted1 q).qRegs r = s.qRegs r := by
  simp +decide [State.qPosted1, State.incWrap, State.qCredits_other, State.qRegs_other, h]
theorem State.qTake1_other {r : Nat} (h : r ≠ q) : (s.qTake1 q).qRegs r = s.qRegs r := by
  simp +decide [State.qTake1, State.incWrap, State.qRegs_other, h]
@[simp] theorem State.qRetireN_qRegs (n : Nat) : (s.qRetireN q n).qRegs q = (s.qRegs q).retired n := by
  unfold State.qRetireN
  dsimp only
  rw [State.qCredits_qRegs, State.incWrap, State.qRegs_ret]
  rfl
theorem State.qRetireN_other (n : Nat) {r : Nat} (h : r ≠ q) : (s.qRetireN q n).qRegs r = s.qRegs r := by
  unfold State.qRetireN
  dsimp only
  rw [State.qCredits_other _ _ h, State.incWrap, State.qRegs_other _ _ _ h (by decide)]
  rfl
@[simp] theorem State.qCredits_core : (s.qCredits q).core = s.core := s.wr_core _ _ _ _
@[simp] theorem State.qPosted1_core : (s.qPosted1 q).core = s.core := by simp [State.qPosted1, State.incWrap]
@[simp] theorem State.qTake1_core : (s.qTake1 q).core = s.core := by simp [State.qTake1, State.incWrap]
theorem State.qPosted1_mem : (s.qPosted1 q).mem = s.mem := (s.qPosted1_keep q).2.2
end

/-! ### Posts by hardware -/

/-- What a post into memory leaves of the queues' registers is what it leaves of the index. -/
theorem State.qPut_qRegs (s : State) (q : Nat) (d : Desc) :
    (s.qPut q d).qRegs q = (s.qRegs q).posted s.dtime ∧ ∀ r, r ≠ q → (s.qPut q d).qRegs r = s.qRegs r := by
  have h := s.memWrite_calm d.src (s.qPostAddr q) (d.bytes s.dtime (s.rd Q.POSTS.SEQ q))
  refine ⟨?_, fun r hr => ?_⟩
  · rw [State.qPut, State.qPosted1_qRegs, State.calm_qRegs h, State.calm_dtime h]
  · rw [State.qPut, State.qPosted1_other _ _ hr, State.calm_qRegs h]
theorem State.qPostHw_posts {s : State} {q : Nat} (d : Desc) (h : s.qCanPost q = true) : s.qPostHw q d = (s.qPut q d, true) := by
  simp only [State.qCanPost, Bool.and_eq_true, decide_eq_true_eq] at h
  unfold State.qPostHw
  simp [h.1, Nat.ne_of_gt h.2]
/-- A post to a queue that is not enabled is dropped: the indices of all queues stay. -/
theorem State.qPostHw_disabled {s : State} {q : Nat} (d : Desc) (h : s.flag Q.CFG.EN q = false) (r : Nat) : (s.qPostHw q d).1.qRegs r = s.qRegs r := by
  unfold State.qPostHw
  rw [if_pos (by simp [h]), State.emitMerge, State.calm_qRegs (State.emitAt_calm _ _ _ _ _ _), State.incSat,
    State.qRegs_beside _ _ _ _ (by decide) (by decide), State.raise_status _ _ _ (by decide) (by decide)]
end Sys2Proof.Machine
end

section
/-!
SUPPORT. Operations of software on hardware queues (R205, R206, R208): a granted write of a queue's registers, repeated posts and takes; O39.
-/
namespace Sys2Proof.Machine
-- One proof at a time: each thread of its own costs a stack and an arena of the check's memory.
set_option Elab.async false
open Sys2Proof.Safety

/-- A granted register write leaves what its effect leaves, but for the response and the mark of a debug override. -/
theorem busWriteWith_state {s u : State} {m a : Nat} {sw : Bool} {fx : State → State × WErr} (h : MayWrite s m a sw) (hf : fx s = (u, .ok)) :
    (s.busWriteWith m a sw fx).regs = u.regs ∧ (s.busWriteWith m a sw fx).mem = u.mem ∧ (s.busWriteWith m a sw fx).ctxs = u.ctxs ∧
    (s.busWriteWith m a sw fx).engs = u.engs ∧ (s.busWriteWith m a sw fx).recd = u.recd ∧ (s.busWriteWith m a sw fx).resp.err = false := by
  rw [State.busWriteWith_granted s m a sw fx h (by rw [hf]), hf]
  exact ⟨by simp, by simp, by simp, by simp, by simp, rfl⟩
theorem State.reg_congr {s t : State} (h : t.regs = s.regs) (a : Nat) : t.reg a = s.reg a := congrArg (fun r => Tab.get (resetWord a) r a) h
theorem State.regs_rd {s t : State} (h : t.regs = s.regs) (g : RF) (i j : Nat) : t.rd g i j = s.rd g i j :=
  State.rd_congr g i j (State.reg_congr h _) fun _ => State.reg_congr h _
theorem State.regs_flag {s t : State} (h : t.regs = s.regs) (g : RF) (i j : Nat) : t.flag g i j = s.flag g i j := by
  rw [State.flag, State.regs_rd h, State.flag]
theorem State.regs_qRegs {s t : State} (h : t.regs = s.regs) (q : Nat) : t.qRegs q = s.qRegs q :=
  State.qRegs_congr fun g _ => State.regs_rd h g q 0
theorem onlyRegs_of_regs {s t u : State} {l : List Nat} (h : OnlyRegs s t l) (hu : u.regs = t.regs) : OnlyRegs s u l :=
  onlyRegs_of_reg h fun a => State.reg_congr hu a

/-! ### Numbers as bytes -/

theorem ofLE_le (n v : Nat) : ofLE (le n v) = v % 256 ^ n := by
  induction n generalizing v with
  | zero => simp [le, ofLE, Nat.mod_one]
  | succ n ih =>
    rw [le, ofLE, ih, Nat.pow_succ, Nat.mul_comm (256 ^ n), Nat.mod_mul, Nat.mod_mod]
theorem le_mod (n v : Nat) : (le n v).map (· % 256) = le n v := by
  conv_rhs => rw [← List.map_id (le n v)]
  exact List.map_congr_left fun b hb => Nat.mod_eq_of_lt (le_lt hb)

/-! ### The word of Q.OP -/

theorem opWord_bits {n c : Nat} (hn : n < 8192) (hc : c < 4) : bits (n + c * 8192) 12 0 = n ∧ bits (n + c * 8192) 14 13 = c := by
  unfold bits
  omega

section
variable (s : State) (m q : Nat)

/-! ### Posts -/

theorem State.qPutSw_qRegs : (s.qPutSw m q).qRegs q = (s.qRegs q).posted s.dtime := by
  have h1 := s.memWrite_calm m (s.qPostAddr q + 8) (le 8 s.dtime)
  have h2 := ((s.memWrite m (s.qPostAddr q + 8) (le 8 s.dtime)).1.memWrite_calm m (s.qPostAddr q + 0x28) (le 4 (s.rd Q.POSTS.SEQ q))).trans h1
  rw [State.qPutSw, State.qPosted1_qRegs, State.calm_qRegs h2, State.calm_dtime h2]
theorem State.qPutSw_dtime : (s.qPutSw m q).dtime = s.dtime := by simp [State.qPutSw]
/-- Posts count up the index and the sequence number, and the last one's clock stands. -/
theorem State.times_qPutSw (n : Nat) :
    ((s.times (n + 1) fun u => u.qPutSw m q).qRegs q).prod = ((s.qRegs q).prod + (n + 1)) % 2 ^ 16 ∧
    ((s.times (n + 1) fun u => u.qPutSw m q).qRegs q).seq = ((s.qRegs q).seq + (n + 1)) % 2 ^ 32 ∧
    ((s.times (n + 1) fun u => u.qPutSw m q).qRegs q).lastPost = s.dtime % 2 ^ 64 ∧
    ((s.times (n + 1) fun u => u.qPutSw m q).qRegs q).take = (s.qRegs q).take := by
  induction n generalizing s with
  | zero =>
    rw [State.times, State.times, State.qPutSw_qRegs]
    exact ⟨rfl, rfl, rfl, rfl⟩
  | succ n ih =>
    obtain ⟨hp, hs, hl, ht⟩ := ih (s.qPutSw m q)
    rw [State.qPutSw_qRegs] at hp hs ht
    rw [State.times, hp, hs, hl, ht, State.qPutSw_dtime]
    simp only [QRegs.posted, QRegs.credit]
    refine ⟨?_, ?_, trivial, trivial⟩ <;> omega
/-- A post writes STAMP and SEQ of its slot and no other byte. -/
theorem State.qPutSw_slot (h : ∀ u ∈ eccWords (s.qPostAddr q + 8) 8 ++ eccWords (s.qPostAddr q + 0x28) 4, s.isUe u = false) :
    (∀ x, ¬(s.qPostAddr q + 8 ≤ x ∧ x < s.qPostAddr q + 16) → ¬(s.qPostAddr q + 0x28 ≤ x ∧ x < s.qPostAddr q + 0x2C) →
      (s.qPutSw m q).byte x = s.byte x) ∧
    (s.qPutSw m q).readLE (s.qPostAddr q + 8) 8 = s.dtime % 2 ^ 64 ∧ (s.qPutSw m q).readLE (s.qPostAddr q + 0x28) 4 = s.rd Q.POSTS.SEQ q := by
  obtain ⟨-, h1⟩ := s.memWrite_stores m (s.qPostAddr q + 8) (le 8 s.dtime) fun u hu => h u (List.mem_append_left _ (by rwa [le_length] at hu))
  obtain ⟨-, h2⟩ := (s.memWrite m (s.qPostAddr q + 8) (le 8 s.dtime)).1.memWrite_stores m (s.qPostAddr q + 0x28) (le 4 (s.rd Q.POSTS.SEQ q))
    fun u hu => s.memWrite_ue m _ _ (h u (List.mem_append_right _ (by rwa [le_length] at hu)))
  have hm : (s.qPutSw m q).mem =
      ((s.writeMem (s.qPostAddr q + 8) (le 8 s.dtime)).writeMem (s.qPostAddr q + 0x28) (le 4 (s.rd Q.POSTS.SEQ q))).mem := by
    rw [State.qPutSw, State.qPosted1_mem, h2]
    exact State.writeMem_congr h1 _ _
  have hstamp := s.readMem_writeMem (s.qPostAddr q + 8) (le 8 s.dtime)
  have hseq := (s.writeMem (s.qPostAddr q + 8) (le 8 s.dtime)).readMem_writeMem (s.qPostAddr q + 0x28) (le 4 (s.rd Q.POSTS.SEQ q))
  rw [le_length, le_mod] at hstamp hseq
  refine ⟨fun x ho ho' => ?_, ?_, ?_⟩
  · rw [State.byte_congr hm, State.byte_writeMem_off _ _ _ _ (by rw [le_length]; omega), State.byte_writeMem_off _ _ _ _ (by rw [le_length]; omega)]
  · rw [State.readLE, State.readMem_congr hm, State.readMem_writeMem_off _ _ _ _ _ (by omega), hstamp, ofLE_le]
    rfl
  · rw [State.readLE, State.readMem_congr hm, hseq, ofLE_le]
    exact Nat.mod_eq_of_lt (s.rd_lt Q.POSTS.SEQ q 0 (nomatch ·))

/-! ### Takes and retires -/

theorem State.times_qTake1 (n : Nat) :
    ((s.times n fun u => u.qTake1 q).qRegs q).take % 2 ^ 16 = ((s.qRegs q).take + n) % 2 ^ 16 ∧
    ((s.times n fun u => u.qTake1 q).qRegs q).ret = (s.qRegs q).ret := by
  induction n generalizing s with
  | zero => exact ⟨rfl, rfl⟩
  | succ n ih =>
    obtain ⟨ht, hr⟩ := ih (s.qTake1 q)
    rw [State.qTake1_qRegs] at ht hr
    rw [State.times, ht, hr]
    simp only [QRegs.taken]
    exact ⟨by omega, trivial⟩
theorem State.qTake1_onlyRegs : OnlyRegs s (s.qTake1 q) [Q.TAKE.TAKE.addr q, Q.SLOTS.TAKE_SLOT.addr q] :=
  onlyRegs_wr (onlyRegs_wr (onlyRegs_refl s _) Q.SLOTS.TAKE_SLOT _ q 0 (by simp) (nomatch ·)) Q.TAKE.TAKE _ q 0 (by simp) (nomatch ·)
theorem State.qRetireN_onlyRegs (n : Nat) : OnlyRegs s (s.qRetireN q n) [Q.RET.RET.addr q, Q.CREDITS.CREDITS.addr q] :=
  onlyRegs_wr (onlyRegs_wr (onlyRegs_of_reg (onlyRegs_refl s _) fun _ => rfl) Q.RET.RET _ q 0 (by simp) (nomatch ·)) Q.CREDITS.CREDITS _ q 0 (by simp)
    (nomatch ·)

end
theorem onlyRegs_times {l : List Nat} {f : State → State} (h : ∀ u, OnlyRegs u (f u) l) (s : State) (n : Nat) : OnlyRegs s (s.times n f) l := by
  induction n generalizing s with
  | zero => exact onlyRegs_refl s l
  | succ n ih => exact onlyRegs_trans (h s) (ih (f s))

/-! ### The operations of Q.OP -/

theorem qOp_state {s u : State} {m q v : Nat} (h : MayWrite s m (Q.OP.N.addr q) false) (hf : s.fxQOp m q v = (u, .ok)) :
    let t := s.busWriteWith m (Q.OP.N.addr q) false fun s => s.fxQOp m q v
    t.regs = u.regs ∧ t.mem = u.mem := by
  obtain ⟨hr, hm, -⟩ := busWriteWith_state (fx := fun s => s.fxQOp m q v) h hf
  exact ⟨hr, hm⟩

section
variable {s : State} {q n : Nat} (m : Nat) (hn : n < 8192) (hen : s.flag Q.CFG.EN q = true)
include hn hen
theorem State.fxQOp_post (h0 : n ≠ 0) (hf : n ≤ s.qFree q) : s.fxQOp m q (n + 1 * 8192) = (s.times n fun u => u.qPutSw m q, .ok) := by
  obtain ⟨h1, h2⟩ := opWord_bits hn (show 1 < 4 by decide)
  simp [State.fxQOp, State.qOp, h1, h2, h0, hen, Nat.not_lt.mpr hf]
theorem State.fxQOp_take (h0 : n ≠ 0) (hp : n ≤ s.qPosted q) : s.fxQOp m q (n + 2 * 8192) = (s.times n fun u => u.qTake1 q, .ok) := by
  obtain ⟨h1, h2⟩ := opWord_bits hn (show 2 < 4 by decide)
  simp [State.fxQOp, State.qOp, h1, h2, h0, hen, Nat.not_lt.mpr hp]
theorem State.fxQOp_retire (h0 : n ≠ 0) (ht : n ≤ s.qTaken q) : s.fxQOp m q (n + 3 * 8192) = (s.qRetireN q n, .ok) := by
  obtain ⟨h1, h2⟩ := opWord_bits hn (show 3 < 4 by decide)
  simp [State.fxQOp, State.qOp, h1, h2, h0, hen, Nat.not_lt.mpr ht]
theorem State.fxQOp_retireUnder (ht : s.qTaken q < n) : s.fxQOp m q (n + 3 * 8192) = (s.raise Q.STATUS.UNDERFLOW q, .ok) := by
  obtain ⟨h1, h2⟩ := opWord_bits hn (show 3 < 4 by decide)
  simp [State.fxQOp, State.qOp, h1, h2, (show n ≠ 0 by omega), hen, ht]
end

/-! ### Configuration -/

/-- The registers of the queues stand in a block of their own. -/
theorem regBlock_queue {a : Nat} (h : 0x2030000000 ≤ a) (h' : a ≤ 0x203000FFFF) : regBlock a = regs8_q := by
  unfold regBlock
  simp (disch := omega) only [if_neg, if_pos]

/-- A family with one register in each unit holds the first address of a unit, and no other. -/
theorem RegSpec.index_unit {r : RegSpec} {i d : Nat} (hi : i < r.n1) (hd : d < r.s1) (hn : r.n2 = 1) (hs : r.s2 = 0) :
    r.index (r.base + i * r.s1 + d) = if d = 0 then some (i, 0) else none := by
  have e : r.base + i * r.s1 + d - r.base = r.s1 * i + d := by rw [Nat.mul_comm]; omega
  have hdiv : (r.s1 * i + d) / r.s1 = i := by rw [Nat.mul_add_div (by omega), Nat.div_eq_of_lt hd, Nat.add_zero]
  have hmod : (r.s1 * i + d) % r.s1 = d := by rw [Nat.mul_add_mod, Nat.mod_eq_of_lt hd]
  simp [RegSpec.index, e, hdiv, hmod, hi, hn, hs, show r.s1 ≠ 0 by omega, show ¬ r.base + i * r.s1 + d < r.base by omega]

theorem regs8_q_unit : ∀ r ∈ regs8_q, r.n1 = 1024 ∧ r.s1 = 0x40 ∧ r.n2 = 1 ∧ r.s2 = 0 ∧ 0x2030000000 ≤ r.base ∧ r.base < 0x2030000040 := by decide
theorem regs8_q_rise : regs8_q.Pairwise fun r r' => r.base < r'.base := by decide
/-- Every register of a queue stands where the table says. -/
theorem findReg_queue {r : RegSpec} (h : r ∈ regs8_q) (q : Fin 1024) : findReg (r.base + q * 0x40) = some (r, ↑q, 0) := by
  have hq := q.isLt
  obtain ⟨hn, hs, hn2, hs2, hlo, hhi⟩ := regs8_q_unit r h
  obtain ⟨l, l', e⟩ := List.append_of_mem h
  have hrise := regs8_q_rise
  rw [e, List.pairwise_append] at hrise
  obtain ⟨-, -, hrise⟩ := hrise
  rw [findReg, regBlock_queue (by omega) (by omega), List.findSome?_eq_some_iff]
  refine ⟨l, r, l', e, ?_, fun r' hr' => ?_⟩
  · have hi := RegSpec.index_unit (r := r) (i := q) (d := 0) (by omega) (by omega) hn2 hs2
    rw [hs] at hi
    exact Option.map_eq_some_iff.mpr ⟨_, hi, rfl⟩
  · obtain ⟨hn', hs', hn2', hs2', hlo', -⟩ := regs8_q_unit r' (by rw [e]; exact List.mem_append_left _ hr')
    have hlt := hrise r' hr' r List.mem_cons_self
    have hi := RegSpec.index_unit (r := r') (i := q) (d := r.base - r'.base) (by omega) (by omega) hn2' hs2'
    rw [if_neg (by omega), hs', show r'.base + q * 0x40 + (r.base - r'.base) = r.base + q * 0x40 by omega] at hi
    rw [hi]
    rfl

theorem qCfg_takesAll (q : Fin 1024) : takesAll (Q.CFG.EN.addr q) Q.CFG.EN = true := by
  have e : Q.CFG.EN.addr q = regs8_q[0].base + q * 0x40 := rfl
  rw [takesAll, e, findReg_queue (by decide)]
  rfl
/-- An empty queue takes a configuration with a credit: its indices start again, and all of DEPTH is credit. -/
theorem State.fxQCfg_takes {s : State} {q : Fin 1024} {v : Nat} (he : s.qEmpty q = true) (hv : bits v 13 1 ≠ 0) :
    (s.fxQCfg q v).2 = .ok ∧ (s.fxQCfg q v).1.rd Q.PROD.PROD q = 0 ∧ (s.fxQCfg q v).1.rd Q.TAKE.TAKE q = 0 ∧ (s.fxQCfg q v).1.rd Q.RET.RET q = 0 ∧
    (s.fxQCfg q v).1.rd Q.CREDITS.CREDITS q = (s.fxQCfg q v).1.rd Q.CFG.DEPTH q ∧ (s.fxQCfg q v).1.rd Q.CFG.EN q = bits v 0 0 := by
  obtain ⟨hok, -, hen⟩ := s.writeFields_takesAll v (qCfg_takesAll q)
  have hd := (s.writeFields (Q.CFG.EN.addr q) v).1.rd_lt Q.CFG.DEPTH q 0 (nomatch ·)
  have e : s.fxQCfg q v = ((((((((s.writeFields (Q.CFG.EN.addr q) v).1.wr Q.PROD.PROD 0 q).wr Q.TAKE.TAKE 0 q).wr Q.RET.RET 0 q).wr Q.POSTS.SEQ 0 q).wr
      Q.SLOTS.POST_SLOT 0 q).wr Q.SLOTS.TAKE_SLOT 0 q).wr Q.CREDITS.CREDITS ((s.writeFields (Q.CFG.EN.addr q) v).1.rd Q.CFG.DEPTH q) q,
      (s.writeFields (Q.CFG.EN.addr q) v).2) := by
    simp +decide [State.fxQCfg, he, hv, State.rd_wr_of_beside]
  rw [e]
  refine ⟨hok, ?_⟩
  simp only [State.rd_qRegs, State.qRegs_credits, State.qRegs_takeSlot, State.qRegs_postSlot, State.qRegs_seq, State.qRegs_ret, State.qRegs_take,
    State.qRegs_prod]
  exact ⟨rfl, rfl, rfl, Nat.mod_eq_of_lt hd, hen⟩

/-- The high word of BASE. -/
def qBaseHi : RF := ⟨0x2030000008, 0x40, 0, 31, 0⟩
theorem qBaseHi_table (q : Fin 1024) : (takesAll (qBaseHi.addr q) qBaseHi && (findReg (qBaseHi.addr q)).any fun x => x.1.kind == .hi) = true := by
  have e : qBaseHi.addr q = regs8_q[2].base + q * 0x40 := rfl
  rw [takesAll, e, findReg_queue (by decide)]
  rfl
/-- A write of the high word of an empty queue's BASE makes the held low word and it take effect. -/
theorem State.fxQBaseHi_takes {s : State} {q : Fin 1024} {v : Nat} (he : s.qEmpty q = true) :
    (s.fxQBaseHi q v).2 = .ok ∧ (s.fxQBaseHi q v).1.rd qBaseHi q = bits v 31 0 ∧ OnlyRegs s (s.fxQBaseHi q v).1 [Q.BASE.addr q, Q.BASE.addr q + 4] := by
  obtain ⟨htakes, hfind⟩ := Bool.and_eq_true_iff.mp (qBaseHi_table q)
  obtain ⟨⟨r, i, j⟩, hr, hk⟩ := (Option.any_eq_true _ _).mp hfind
  have hlo : qBaseHi.addr q - 4 = Q.BASE.addr q := by simp only [RF.addr, qBaseHi, Q.BASE]; omega
  have hhi : Q.BASE.addr q + 4 = qBaseHi.addr q := by simp only [RF.addr, qBaseHi, Q.BASE]; omega
  have e : s.fxQBaseHi q v = (s.writeFields (Q.BASE.addr q) (s.held (Q.BASE.addr q))).1.writeFields (qBaseHi.addr q) v := by
    rw [State.fxQBaseHi, he, hhi, s.writePlain_hi hr (by simpa using hk), hlo]
    rfl
  obtain ⟨hok, ho, hrd⟩ := (s.writeFields (Q.BASE.addr q) (s.held (Q.BASE.addr q))).1.writeFields_takesAll v htakes
  have hl := s.writeFields_onlyRegs (Q.BASE.addr q) (s.held (Q.BASE.addr q))
  rw [e, hhi]
  exact ⟨hok, hrd, onlyRegs_trans (onlyRegs_mono hl (by simp)) (onlyRegs_mono ho (by simp))⟩

/-- Settles O39: the three operations of Q.OP move their index by the count or show what they lack; an empty queue takes a configuration. -/
theorem queueCommands : Obligations.QueueCommands := by
  unfold Obligations.QueueCommands
  refine ⟨?post, ?postOne, ?take, ?retire, ?under, ?cfg, ?cfgRefused, ?base⟩
  case post =>
    intro s m q n hw hen h0 hf
    obtain ⟨hregs, -⟩ := qOp_state hw (State.fxQOp_post m n.isLt hen h0 hf)
    have hq := State.regs_qRegs hregs q
    obtain ⟨k, hk⟩ := Nat.exists_eq_succ_of_ne_zero h0
    obtain ⟨hp, hs, hl, ht⟩ := s.times_qPutSw m q k
    rw [← Nat.succ_eq_add_one, ← hk, ← hq] at hp hs hl ht
    exact ⟨_, rfl, hp, hs, hl, ht⟩
  case postOne =>
    intro s m q a hw hen hf hue
    obtain ⟨-, hmem⟩ := qOp_state hw (State.fxQOp_post m (q := q) (n := (1 : Fin 8192)) (by decide) hen (by decide) hf)
    obtain ⟨hoff, hstamp, hseq⟩ := s.qPutSw_slot m q hue
    exact ⟨_, rfl, fun x h1 h2 => (State.byte_congr hmem x).trans (hoff x h1 h2),
      (congrArg ofLE (State.readMem_congr hmem _ _)).trans hstamp, (congrArg ofLE (State.readMem_congr hmem _ _)).trans hseq⟩
  case take =>
    intro s m q n hw hen h0 hp
    obtain ⟨hregs, -⟩ := qOp_state hw (State.fxQOp_take m n.isLt hen h0 hp)
    have hq := State.regs_qRegs hregs q
    obtain ⟨ht, hr⟩ := s.times_qTake1 q n
    rw [← hq] at ht hr
    have hlt := State.rd_lt (s.busWriteWith m (Q.OP.N.addr q) false fun s => s.fxQOp m q (n + 2 * 8192)) Q.TAKE.TAKE q 0 (nomatch ·)
    exact ⟨_, rfl, (Nat.mod_eq_of_lt hlt).symm.trans ht, hr, onlyRegs_of_regs (onlyRegs_times (fun u => u.qTake1_onlyRegs q) s n) hregs⟩
  case retire =>
    intro s m q n hw hen h0 ht
    obtain ⟨hregs, -⟩ := qOp_state hw (State.fxQOp_retire m n.isLt hen h0 ht)
    have hq := (State.regs_qRegs hregs q).trans (s.qRetireN_qRegs q n)
    exact ⟨_, rfl, congrArg QRegs.ret hq, congrArg QRegs.prod hq, onlyRegs_of_regs (s.qRetireN_onlyRegs q n) hregs⟩
  case under =>
    intro s m q n hw hen ht
    obtain ⟨hregs, -⟩ := qOp_state hw (State.fxQOp_retireUnder m n.isLt hen ht)
    exact ⟨_, rfl, (State.regs_flag hregs _ q 0).trans (s.flag_raise _ q 0 (by decide)),
      onlyRegs_of_regs (onlyRegs_raise (onlyRegs_refl s _) Q.STATUS.UNDERFLOW q 0 (by simp) (nomatch ·)) hregs⟩
  case cfg =>
    intro s m q v hw he hv
    obtain ⟨hok, hp, ht, hr, hc, hen⟩ := State.fxQCfg_takes (q := q) he hv
    obtain ⟨hregs, -⟩ := busWriteWith_state (fx := fun s => s.fxQCfg q v.toNat) hw (Prod.ext rfl hok)
    refine ⟨_, rfl, ?_⟩
    simp only [State.flag, State.regs_rd hregs]
    refine ⟨hp, ht, hr, hc, ?_⟩
    rw [hen, bit_eq_bits]
  case cfgRefused =>
    intro s m q v hw he
    obtain ⟨hregs, -⟩ := busWriteWith_state (fx := fun s => s.fxQCfg q v.toNat) (u := s.raise Q.STATUS.CFG_ERR q) hw (by simp [State.fxQCfg, he])
    exact ⟨_, rfl, (State.regs_flag hregs _ q 0).trans (s.flag_raise _ q 0 (by decide)),
      onlyRegs_of_regs (onlyRegs_raise (onlyRegs_refl s _) Q.STATUS.CFG_ERR q 0 (by simp) (nomatch ·)) hregs⟩
  case base =>
    intro s m q v hw he
    obtain ⟨hok, hrd, ho⟩ := State.fxQBaseHi_takes (v := v.toNat) he
    obtain ⟨hregs, -, -, -, -, herr⟩ := busWriteWith_state (fx := fun s => s.fxQBaseHi q v.toNat) hw (Prod.ext rfl hok)
    refine ⟨_, rfl, herr, BitVec.eq_of_toNat_eq ?_, onlyRegs_of_regs ho hregs⟩
    have hhi : Q.BASE.addr q + 4 = qBaseHi.addr q := by simp only [RF.addr, qBaseHi, Q.BASE]; omega
    have hbits : ∀ w : Word, bits w.toNat 31 0 = w.toNat := fun w => by
      simp only [bits, pow_zero, Nat.div_one]
      exact Nat.mod_eq_of_lt w.isLt
    rw [State.reg_congr hregs, hhi]
    exact (hbits _).symm.trans (hrd.trans (hbits v))
end Sys2Proof.Machine
end

section
/-!
SUPPORT. Accesses to memory as bus masters make them, and the packets of link partners (R206, R288, R401, R407); O59.
-/
namespace Sys2Proof.Machine
-- One proof at a time: each thread of its own costs a stack and an arena of the check's memory.
set_option Elab.async false
open Sys2Proof.Safety

/-! ### Accesses to memory -/

/-- No register lies outside register space. -/
theorem findReg_beyond {a : Nat} (h : isRegSpace a = false) : findReg a = none := by
  simp only [isRegSpace, decide_eq_false_iff_not, not_and_or, not_le, not_lt] at h
  have e : regBlock a = [] := by
    unfold regBlock
    simp (disch := omega) only [if_neg]
  rw [findReg, e]
  rfl
theorem needsSw_mem {a : Nat} (h : isRegSpace a = false) : needsSw a = false := by rw [needsSw, findReg_beyond h]

section
variable {s : State} {m a : Nat} (hm : m ≠ 0x3F) (hr : isRegSpace a = false) (ho : isOutbound a = false)
include hm hr ho
/-- A write into one block that its master may write stores its bytes. -/
theorem State.store_mem {d : List Nat} (hc : s.checkAccess m a d.length true false = none) (hu : ∀ u ∈ eccWords a d.length, s.isUe u = false)
    (hb : a % 64 + d.length ≤ 64) (h0 : 0 < d.length) : ∃ t, s.store m a d = t.okResp ∧ StoresTo a d s t := by
  have hsw := needsSw_mem hr
  obtain ⟨t, ht, hst⟩ := State.masterWrite_of_canWrite (s := s) (m := m) (a := a) (d := d) (by
    rw [pieces_block hb h0]
    exact List.forall_mem_singleton.mpr ⟨by rw [hsw]; exact hc, hr, hu⟩)
  refine ⟨t, ?_, hst⟩
  unfold State.store
  rw [if_neg (List.ne_nil_of_length_pos h0), hr, swOf_mem _ hr, hsw, hc, ho]
  simp [ht, State.noteDebug_other _ _ hm]
omit hm in
/-- A read within one block that its master may read gives its bytes. -/
theorem State.load_mem {n : Nat} (hc : s.checkAccess m a n false false = none) (hu : ∀ u ∈ eccWords a n, s.isUe u = false)
    (hb : a % 64 + n ≤ 64) (h0 : 0 < n) : ∃ t, s.load m a n = t.okResp (s.readMem a n) ∧ ReadsTo s t := by
  obtain ⟨t, ht, hst⟩ := State.masterRead_of_canRead (s := s) (m := m) (a := a) (n := n) (by
    rw [pieces_block hb h0]
    exact List.forall_mem_singleton.mpr ⟨hc, hr, hu⟩)
  refine ⟨t, ?_, hst⟩
  unfold State.load
  rw [if_neg (by omega), hr, hc, ho]
  simp [ht]
end

/-! ### Bits that turn over, and packets -/

section
variable (s : State)
/-- Bits that turn over in memory change its errors alone. -/
theorem State.flipBits_eq (errs : List (Nat × Nat)) : ∃ l, s.forEach errs State.flipBit = { s with flips := l } := by
  refine State.forEach_invariant (fun u => ∃ l, u = { s with flips := l }) errs _ ?_ s ⟨s.flips, rfl⟩
  rintro _ x - ⟨l, rfl⟩
  unfold State.flipBit
  dsimp only
  split
  · exact ⟨l, rfl⟩
  · exact ⟨_, rfl⟩
/-- A packet that leaves or comes changes the ports alone. -/
theorem State.linkSend_eq (p t st a : Nat) (pay : List Nat) : ∃ l, s.linkSend p t st a pay = { s with lnks := l } := by
  unfold State.linkSend
  dsimp only
  split
  · split
    · exact ⟨_, rfl⟩
    · exact ⟨_, rfl⟩
  · exact ⟨s.lnks, rfl⟩
theorem State.linkComplete_keeps (p : Nat) (d : List Nat) :
    (s.linkComplete p d).mem = s.mem ∧ (s.linkComplete p d).regs = s.regs ∧ (s.linkComplete p d).resp = s.resp := by
  obtain ⟨l, h⟩ : ∃ l, s.linkComplete p d = { s with lnks := l } := s.linkSend_eq _ _ _ _ _
  rw [h]
  exact ⟨rfl, rfl, rfl⟩

/-- What goes on the wire keeps its type and payload. -/
theorem State.linkFlush_unacked {β : Type} (p : Nat) (f : PktH → β) (h : ∀ k now, f { k with onWire := true, stamp := now, sent := now } = f k) :
    ((s.linkFlush p).lnk p).unacked.map f = (s.lnk p).unacked.map f := by
  rw [State.linkFlush, State.updLnk_same, List.map_map]
  refine List.map_congr_left fun k _ => ?_
  dsimp only [Function.comp_apply]
  split
  · exact h k _
  · rfl
/-- The last packet that a port with link keeps is the one it sent. -/
theorem State.linkSend_last {p : Nat} (t st a : Nat) (pay : List Nat) (h : s.flag LNK.STATUS.UP p = true) :
    (((s.linkSend p t st a pay).lnk p).unacked.map (·.type_)).getLast? = some t ∧
    (((s.linkSend p t st a pay).lnk p).unacked.map (·.payload)).getLast? = some pay := by
  unfold State.linkSend
  simp only [h, Bool.true_or, if_true]
  constructor
  · rw [State.linkFlush_unacked _ _ _ fun _ _ => rfl, State.updLnk_same]
    simp
  · rw [State.linkFlush_unacked _ _ _ fun _ _ => rfl, State.updLnk_same]
    simp
end
/-! ### The instructions of partners -/

section
variable (s : State)
theorem exec_write (p : Fin 3) (a : Nat) (data : List Nat) : exec (.write p a data) s = execWrite p a data s := rfl
theorem exec_read (p : Fin 3) (a n : Nat) (errs : List (Nat × Nat)) : exec (.read p a n errs) s = execRead p a n errs s := rfl
theorem exec_completion (p : Fin 3) (status : Fin 3) (data : List Nat) : exec (.completion p status data) s = execCompletion p status data s := rfl
theorem exec_linkPost (p : Fin 3) (q : Fin 1024) (data : List Nat) : exec (.linkPost p q data) s = execLinkPost p q data s := rfl
end
theorem linkMaster_ne (p : Nat) : linkMaster p ≠ 0x3F := by
  unfold linkMaster
  split <;> decide

/-- Settles O59: a partner's access is a local one of its link's master, answered by a packet; a port without link takes nothing. -/
theorem remoteAccesses : Obligations.RemoteAccesses := by
  unfold Obligations.RemoteAccesses
  refine ⟨?write, ?read, ?badLength, ?completion, ?completionErr, ?linkPost, ?linkPostRefused, ?noLinkWrite, ?noLinkRead, ?noLinkCompletion,
    ?noLinkPost⟩
  case write =>
    intro s q a data hup hpay hue hreg hout hacc hblock hlen
    have hl : (data.map (· % 256)).length = data.length := List.length_map _
    obtain ⟨t, ht, hst⟩ := State.store_mem (s := s.linkRecv q pkWrite) (a := a) (d := data.map (· % 256)) (linkMaster_ne q) hreg hout
      (by rw [hl]; exact hacc) (by rw [hl]; exact hue) (by rwa [hl]) (by rwa [hl])
    obtain ⟨hcm, -, hcr⟩ := t.okResp.linkComplete_keeps q []
    have hmem : (t.okResp.linkComplete q []).mem = (s.writeMem a (data.map (· % 256))).mem :=
      (hcm.trans hst.mem).trans (State.writeMem_congr (s := s) (t := s.linkRecv q pkWrite) rfl _ _)
    have hup' : t.okResp.flag LNK.STATUS.UP q = true := (State.calm_flag hst.calm LNK.STATUS.UP q 0 (RF.calm_above q 0 (by decide))).trans hup
    refine ⟨t.okResp.linkComplete q [], ?_, ?_, (State.linkSend_last _ _ _ _ _ hup').1, ?_, fun x hx => ?_⟩
    · simp only [exec_write, execWrite]
      simp [hup, hpay, ht]
    · rw [State.readMem_congr hmem, ← hl, State.readMem_writeMem, List.map_map]
      exact List.map_congr_left fun b _ => Nat.mod_mod b 256
    · rw [hcr]
      rfl
    · rw [State.readMem_congr hmem]
      exact State.readMem_writeMem_off _ _ _ _ _ (by rw [hl]; omega)
  case read =>
    intro s q a n errs u hue hup hpay hreg hout hacc hblock hlen
    obtain ⟨l, hu⟩ := s.flipBits_eq errs
    obtain ⟨t, ht, hst⟩ := State.load_mem (s := u.linkRecv q pkRead) (m := linkMaster q) (a := a) (n := n) hreg hout
      (by simp only [u, hu]; exact hacc) hue hblock hlen
    have hup' : (t.okResp (s.readMem a n)).flag LNK.STATUS.UP q = true := by
      refine (State.calm_flag hst.calm LNK.STATUS.UP q 0 (RF.calm_above q 0 (by decide))).trans ?_
      simp only [u, hu]
      exact hup
    have hrd : (u.linkRecv q pkRead).readMem a n = s.readMem a n := State.readMem_congr (by simp only [u, hu]; rfl) _ _
    obtain ⟨htype, hpayl⟩ := State.linkSend_last (t.okResp (s.readMem a n)) pkCompletion 0 0 (s.readMem a n) hup'
    refine ⟨(t.okResp (s.readMem a n)).linkSend q pkCompletion 0 0 (s.readMem a n), ?_, htype, hpayl, ?_⟩
    · rw [hrd] at ht
      have hup2 : u.flag LNK.STATUS.UP q = true := by simp only [u, hu]; exact hup
      simp only [exec_read, execRead]
      simp only [u] at hup2 ht
      simp [hup2, hpay, ht, State.linkComplete, State.okResp]
    · simp only [State.linkSend_keep]
      refine hst.mem.trans ?_
      simp only [u, hu]
      rfl
  case badLength =>
    intro s q a data hup hpay
    exact ⟨s.incWrap LNK.CRC_CNT.CNT q, by simp [exec_write, execWrite, hup, hpay], by simp, by simp,
      onlyRegs_wr (onlyRegs_refl s _) LNK.CRC_CNT.CNT _ q 0 (by simp) (nomatch ·)⟩
  case completion =>
    intro s q data hup
    exact ⟨(s.linkRecv q pkCompletion).okResp (data.map (· % 256)), by simp [exec_completion, execCompletion, hup], rfl, rfl, rfl, rfl⟩
  case completionErr =>
    intro s q data hup
    exact ⟨(s.linkRecv q pkCompletion).errResp 0, by simp [exec_completion, execCompletion, hup], rfl, rfl, rfl⟩
  case linkPost =>
    intro s q k data hup hlen hacc hpost
    have hacc' : (s.linkRecv q pkPost).checkAccess (linkMaster q) (Q.OP.N.addr k) 4 true false = none := hacc
    have hpost' := State.qPostHw_posts (s := s.linkRecv q pkPost) { Desc.ofBytes data with src := linkMaster q } hpost
    obtain ⟨hq, -⟩ := State.qPut_qRegs (s.linkRecv q pkPost) k { Desc.ofBytes data with src := linkMaster q }
    refine ⟨_, by simp only [exec_linkPost, execLinkPost]; simp [hup, hlen, hacc', hpost'], congrArg QRegs.prod hq, congrArg QRegs.lastPost hq⟩
  case linkPostRefused =>
    intro s q k data ty hup hlen hacc
    have hacc' : (s.linkRecv q pkPost).checkAccess (linkMaster q) (Q.OP.N.addr k) 4 true false = some ty := hacc
    obtain ⟨hmem, hregs, hresp⟩ := ((s.linkRecv q pkPost).violate (linkMaster q) (Q.OP.N.addr k) 4 ty).linkComplete_keeps q []
    refine ⟨((s.linkRecv q pkPost).violate (linkMaster q) (Q.OP.N.addr k) 4 ty).linkComplete q [], ?_,
      hmem.trans ?_, ?_, (State.regs_rd hregs _ k 0).trans ?_⟩
    · simp [exec_linkPost, execLinkPost, hup, hlen, hacc']
    · exact ((s.linkRecv q pkPost).violate_keep _ _ _ _).2.2
    · rw [hresp, (State.violate_resp _ _ _ _ _).1]
    · exact State.calm_rd (State.logViolation_calm (s.linkRecv q pkPost) _ _ _ _) Q.PROD.PROD k 0 (RF.calm_above k 0 (by decide))
  case noLinkWrite => exact fun s q a data hup => ⟨s, by simp [exec_write, execWrite, hup], rfl⟩
  case noLinkRead =>
    intro s q a n errs hup
    obtain ⟨l, hu⟩ := s.flipBits_eq errs
    have hup' : (s.forEach errs State.flipBit).flag LNK.STATUS.UP q = false := by rw [hu]; exact hup
    refine ⟨s.forEach errs State.flipBit, by simp [exec_read, execRead, hup'], ?_⟩
    rw [hu]
    exact ⟨rfl, rfl, rfl⟩
  case noLinkCompletion => exact fun s q st data hup => ⟨s, by simp [exec_completion, execCompletion, hup], rfl⟩
  case noLinkPost => exact fun s q k data hup => ⟨s, by simp [exec_linkPost, execLinkPost, hup], rfl⟩
end Sys2Proof.Machine
end

section
/-!
SUPPORT. The DMA master, Ethernet, PCIe, PMBus and the service port (R208, R284, R408 to R411, R417, R418); O60.
-/
namespace Sys2Proof.Machine
-- One proof at a time: each thread of its own costs a stack and an arena of the check's memory.
set_option Elab.async false
open Sys2Proof.Safety

/-! ### Writes below register space -/

theorem pieces_below {a n : Nat} {p : Nat × Nat} (h : p ∈ pieces a n) : p.1 < a + n := by
  unfold pieces at h
  split at h
  · exact absurd h List.not_mem_nil
  · obtain ⟨k, hk, rfl⟩ := List.mem_map.mp h
    have := List.mem_range.mp hk
    dsimp only
    omega

section
variable (s : State) (m : Nat)
theorem State.writePiece_calm {a : Nat} (d : List Nat) (h : isRegSpace a = false) : (s.writePiece m a d).1.calm = s.calm := by
  unfold State.writePiece
  split
  · exact s.logViolation_calm m a d.length _
  · rw [h]
    exact s.memWrite_calm m a d
theorem State.writePieces_calm {l : List (Nat × Nat)} (d : List Nat) (h : ∀ p ∈ l, isRegSpace p.1 = false) :
    (s.writePieces m d l).1.calm = s.calm := by
  induction l generalizing s d with
  | nil => rfl
  | cons p l ih =>
    have hp := s.writePiece_calm m (d.take p.2) (h p List.mem_cons_self)
    unfold State.writePieces
    split
    next u x hu =>
      rw [hu] at hp
      exact (ih u _ fun x hx => h x (List.mem_cons_of_mem p hx)).trans hp
    next u r _ hu => rwa [hu] at hp
/-- A string written below register space leaves what accesses leave. -/
theorem State.masterWrite_calm {a : Nat} {d : List Nat} (h : a + d.length ≤ 0x2000000000) : (s.masterWrite m a d).1.calm = s.calm :=
  s.writePieces_calm m d fun p hp => by
    have := pieces_below hp
    exact decide_eq_false (by omega)
end

/-! ### A descriptor taken and retired by the module -/

section
variable (s : State) (q : Nat)
@[simp] theorem State.qTake1_ext : (s.qTake1 q).ext = s.ext := by simp [State.qTake1, State.incWrap]
@[simp] theorem State.qPosted1_ext : (s.qPosted1 q).ext = s.ext := by simp [State.qPosted1, State.incWrap, State.qCredits]
@[simp] theorem State.qRetireN_ext (n : Nat) : (s.qRetireN q n).ext = s.ext := by simp [State.qRetireN, State.qCredits]
theorem State.qTake1_qRetired : (s.qTake1 q).qRetired = s.qRetired := by simp [State.qTake1, State.incWrap]
theorem State.qTake1_dtime : (s.qTake1 q).dtime = s.dtime := by simp [State.qTake1]
theorem State.qRetireN_dtime (n : Nat) : (s.qRetireN q n).dtime = s.dtime := by simp [State.qRetireN]
theorem State.qRetireN_qRetired (n : Nat) :
    (s.qRetireN q n).qRetired = Tab.put (0, 0) s.qRetired q
      (s.dtime, n + (if (Tab.get (0, 0) s.qRetired q).1 = s.dtime then (Tab.get (0, 0) s.qRetired q).2 else 0)) := by
  simp [State.qRetireN, State.qCredits]
theorem State.qPostHw_ext (d : Desc) : (s.qPostHw q d).1.ext = s.ext := by
  unfold State.qPostHw
  split
  · exact (State.calm_ext (State.emitMerge_calm _ _ _ _)).trans (by simp)
  · split
    · exact (State.calm_ext (State.emitMerge_calm _ _ _ _)).trans (by simp)
    · exact (State.qPosted1_ext _ q).trans (State.calm_ext (s.memWrite_calm d.src _ _))
theorem State.qFree_congr {t : State} (hq : t.qRegs q = s.qRegs q) (hr : Tab.get (0, 0) t.qRetired q = Tab.get (0, 0) s.qRetired q)
    (hd : t.dtime = s.dtime) : t.qFree q = s.qFree q := by
  rw [State.qFree, State.qFree, hr, hd]
  exact congrArg (fun r : QRegs => r.credits - _) hq
theorem State.flagEn_congr {t : State} (hq : t.qRegs q = s.qRegs q) : t.flag Q.CFG.EN q = s.flag Q.CFG.EN q :=
  congrArg (fun r : QRegs => r.en != 0) hq
theorem State.qTake1_flagEn (r : Nat) : (s.qTake1 q).flag Q.CFG.EN r = s.flag Q.CFG.EN r := by
  rcases eq_or_ne r q with rfl | h
  · exact congrArg (fun x : QRegs => x.en != 0) (s.qTake1_qRegs r)
  · exact State.flagEn_congr s r (s.qTake1_other q h)
theorem State.qRetireN_flagEn (n r : Nat) : (s.qRetireN q n).flag Q.CFG.EN r = s.flag Q.CFG.EN r := by
  rcases eq_or_ne r q with rfl | h
  · exact congrArg (fun x : QRegs => x.en != 0) (s.qRetireN_qRegs r n)
  · exact State.flagEn_congr s r (s.qRetireN_other q n h)
/-- A post at a stamp of its own is a post. -/
theorem State.qPostAt_posts {s : State} {q : Nat} (d : Desc) (stamp : Nat) (h : s.qCanPost q = true) :
    (s.qPostAt q d stamp).1.qRegs q = (s.qRegs q).posted s.dtime ∧ (∀ r, r ≠ q → (s.qPostAt q d stamp).1.qRegs r = s.qRegs r) ∧
    (s.qPostAt q d stamp).1.ext = s.ext := by
  obtain ⟨hown, hother⟩ := s.qPut_qRegs q d
  have hext := s.qPostHw_ext q d
  rw [State.qPostHw_posts d h] at hext
  have hc := (s.qPut q d).memWrite_calm d.src (s.qSlotAddr q (s.rd Q.SLOTS.POST_SLOT q) + 8) (le 8 stamp)
  simp only [State.qPostAt, State.qPostHw_posts d h, if_true]
  exact ⟨(State.calm_qRegs hc q).trans hown, fun r hr => (State.calm_qRegs hc r).trans (hother r hr), (State.calm_ext hc).trans hext⟩
theorem State.ethDropped_count (p : Nat) : Tab.get 0 (s.ethDropped p).ext.ethDrop p = Tab.get 0 s.ext.ethDrop p + 1 := by
  simp [State.ethDropped, State.updExt, Tab.get_put_self]
/-- The descriptor of a received frame. -/
def rxDesc (addr : Nat) (data : List Nat) : Desc :=
  { type_ := 0, src := 0x20, ctx := 0xFF, addr := addr, len := data.length, param := Config.tokenField 3 data }
/-- A fetch of a descriptor, by its answer. -/
theorem State.qFetch_eq {s : State} {m q : Nat} {o : Option (List Nat)} (h : (s.qFetch m q).2 = o) : ∃ u, s.qFetch m q = (u, o) ∧ ReadsTo s u :=
  ⟨_, Prod.ext rfl h, s.qFetch_readsTo m q⟩
/-- A descriptor taken and retired moves both indices by one. -/
theorem takenRetired {s u v : State} {q : Nat} (h : u.qRegs q = s.qRegs q) (hv : v.qRegs q = (u.qTake1 q).qRegs q) :
    (v.qRetireN q 1).rd Q.TAKE.TAKE q = (s.rd Q.TAKE.TAKE q + 1) % 65536 ∧
    (v.qRetireN q 1).rd Q.RET.RET q = (s.rd Q.RET.RET q + 1) % 65536 := by
  have e := v.qRetireN_qRegs q 1
  rw [hv, State.qTake1_qRegs, h] at e
  exact ⟨congrArg QRegs.take e, congrArg QRegs.ret e⟩
end

/-! ### The instructions of the interfaces -/

section
variable (s : State)
theorem exec_dmaTransferDone (q : Fin 1024) : exec (.dmaTransferDone q) s = execDmaTransferDone q s := rfl
theorem exec_ethTransmit (p : Fin 4) (c : Fin 8) : exec (.ethTransmit p c) s = execEthTransmit p c s := rfl
theorem exec_ethTxDone (p : Fin 4) : exec (.ethTxDone p) s = execEthTxDone p s := rfl
theorem exec_ethReceive (p : Fin 4) (c : Fin 8) (stamp : Nat) (data : List Nat) :
    exec (.ethReceive p c stamp data) s = execEthReceive p c stamp data s := rfl
theorem exec_ethGateSwitch (p : Fin 4) (k : Fin 256) : exec (.ethGateSwitch p k) s = execEthGateSwitch p k s := rfl
theorem exec_pcieInbound (x n : Nat) (write : Bool) (data : List Nat) (poisoned : Bool) (errs : List (Nat × Nat)) :
    exec (.pcieInbound x n write data poisoned errs) s = execPcieInbound x n write data poisoned errs s := rfl
theorem exec_pcieCompletion (poisoned : Bool) (data : List Nat) : exec (.pcieCompletion poisoned data) s = execPcieCompletion poisoned data s := rfl
theorem exec_pcieCompletionTimeout : exec .pcieCompletionTimeout s = execPcieCompletionTimeout s := rfl
theorem exec_serviceTransfer (out inp : List Nat) : exec (.serviceTransfer out inp) s = execServiceTransfer out inp s := rfl
end

/-- Settles O60: a descriptor that the module takes is retired, a frame goes into or comes out of its queue, and each port answers by its state. -/
theorem externalInterfaces : Obligations.ExternalInterfaces := by
  unfold Obligations.ExternalInterfaces
  refine ⟨?dma, ?dmaLost, ?dmaIdle, ?txNone, ?tx, ?txDone, ?rxDropped, ?rx, ?gates, ?poisoned, ?beyond, ?hostRead, ?completion, ?completionPoisoned,
    ?timeOut, ?regulator, ?alert, ?service⟩
  case dma =>
    intro s q d hen hp hf hty hlen hdis
    obtain ⟨u, hu, hsu⟩ := State.qFetch_eq hf
    have hq := State.calm_qRegs hsu.calm
    have hpost := State.qPostHw_disabled (s := u.qTake1 q) (q := (Desc.ofBytes d).param % 1024) (tokenFor 0x20 0 d)
      (by rw [State.qTake1_flagEn, State.flagEn_congr s _ (hq _), hdis])
    refine ⟨_, by simp [exec_dmaTransferDone, execDmaTransferDone, hen, hp, hu, hty, hlen, pieces, State.dmaMove], takenRetired (hq q) (hpost q)⟩
  case dmaLost =>
    intro s q hen hp hf
    obtain ⟨u, hu, hsu⟩ := State.qFetch_eq hf
    obtain ⟨ht, hr⟩ := takenRetired (State.calm_qRegs hsu.calm q) rfl
    exact ⟨_, by simp [exec_dmaTransferDone, execDmaTransferDone, hen, hp, hu], ht, hr, by simpa using hsu.mem⟩
  case dmaIdle => exact fun s q hp => ⟨s, by simp [exec_dmaTransferDone, execDmaTransferDone, hp], rfl⟩
  case txNone =>
    intro s q k d htx hgate hen hp hf hty
    obtain ⟨u, hu, hsu⟩ := State.qFetch_eq hf
    obtain ⟨ht, hr⟩ := takenRetired (State.calm_qRegs hsu.calm (s.ethTxq q k)) rfl
    exact ⟨_, by simp [exec_ethTransmit, execEthTransmit, htx, hgate, hen, hp, hu, hty], ht, hr, by simpa using State.calm_ext hsu.calm⟩
  case tx =>
    intro s q k f d htx hgate hen hp hf hty hread
    obtain ⟨u, hu, hsu⟩ := State.qFetch_eq hf
    rw [hu] at hread
    have hv := (u.qTake1 (s.ethTxq q k)).masterRead_readsTo 0x20 (Desc.ofBytes d).addr (Desc.ofBytes d).len
    generalize hr : (u.qTake1 (s.ethTxq q k)).masterRead 0x20 (Desc.ofBytes d).addr (Desc.ofBytes d).len = r at hread hv
    obtain ⟨v, o⟩ := r
    cases hread
    have hext : v.ext = s.ext := (State.calm_ext hv.calm).trans ((u.qTake1_ext _).trans (State.calm_ext hsu.calm))
    refine ⟨v.updExt fun h => { h with ethTx := h.ethTx ++ [(q.val, k.val, (Desc.ofBytes d).param % 1024, d)], ethWire := Tab.put [] h.ethWire q f,
                                       ethStamp := Tab.put 0 h.ethStamp q v.dtime }, by simp [exec_ethTransmit, execEthTransmit, htx, hgate, hen, hp, hu, hty, hr], ?_, ?_⟩
    · simp [State.updExt, hext, htx]
    · simp [State.updExt, Tab.get_put_self]
  case txDone =>
    intro s q k dq d htx hdis
    simp only [Completes, exec_ethTxDone, execEthTxDone, htx, List.find?_cons, beq_self_eq_true]
    refine ⟨_, rfl, ?_, ?_, ?_⟩
    · rw [State.qPostHw_ext, State.qRetireN_ext]
      simp [State.updExt, htx]
    · rw [State.qPostHw_ext, State.qRetireN_ext]
      simp [State.updExt, Tab.get_put_self]
    · refine (congrArg QRegs.ret (State.qPostHw_disabled _ ?_ _)).trans (congrArg QRegs.ret (State.qRetireN_qRegs _ _ 1))
      rw [State.qRetireN_flagEn]
      exact hdis
  case rxDropped =>
    intro s q k stamp data h
    have e : exec (.ethReceive q k stamp data) s = .next (s.ethDropped q) := by
      rcases h with h | h
      · simp [exec_ethReceive, execEthReceive, h]
      · simp [exec_ethReceive, execEthReceive, h]
    exact ⟨_, e, s.ethDropped_count q, rfl, rfl⟩
  case rx =>
    intro s q k stamp data d hlen hen hp hpost hne hf hgood haddr
    obtain ⟨u, hu, hsu⟩ := State.qFetch_eq hf
    rw [hu] at hgood
    have hv := (u.qTake1 (s.ethRxFree q)).masterWrite_calm 0x20 haddr
    generalize hw : (u.qTake1 (s.ethRxFree q)).masterWrite 0x20 (Desc.ofBytes d).addr data = r at hgood hv
    obtain ⟨v, o | _ | _⟩ := r
    case vio | ue => cases hgood
    have hvq : ∀ r, v.qRegs r = (u.qTake1 (s.ethRxFree q)).qRegs r := State.calm_qRegs hv
    have hret : v.qRetired = s.qRetired := (State.calm_qRetired hv).trans ((u.qTake1_qRetired _).trans (State.calm_qRetired hsu.calm))
    have hqq : (v.qRetireN (s.ethRxFree q) 1).qRegs (s.ethRxq q k) = s.qRegs (s.ethRxq q k) :=
      (v.qRetireN_other _ 1 hne).trans ((hvq _).trans ((u.qTake1_other _ hne).trans (State.calm_qRegs hsu.calm _)))
    have hpost' : (v.qRetireN (s.ethRxFree q) 1).qCanPost (s.ethRxq q k) = true := by
      rw [← hpost, State.qCanPost, State.qCanPost, State.flagEn_congr _ _ hqq, State.qFree_congr s _ hqq]
      · rw [State.qRetireN_qRetired, Tab.get_put_ne _ _ _ _ hne, hret]
      · rw [State.qRetireN_dtime, State.calm_dtime hv, State.qTake1_dtime, State.calm_dtime hsu.calm]
    obtain ⟨ht, hr⟩ := takenRetired (State.calm_qRegs hsu.calm (s.ethRxFree q)) (hvq _)
    obtain ⟨hown, hother, hext⟩ := State.qPostAt_posts (rxDesc (Desc.ofBytes d).addr data) stamp hpost'
    refine ⟨((v.qRetireN (s.ethRxFree q) 1).qPostAt (s.ethRxq q k) (rxDesc (Desc.ofBytes d).addr data) stamp).1, ?_, ?_, ?_, ?_⟩
    · simp only [exec_ethReceive, execEthReceive]
      simp [hen, hp, Nat.not_lt.mpr hlen, hpost, hu, hw, rxDesc]
    · exact (congrArg QRegs.ret (hother _ hne.symm)).trans hr
    · exact (congrArg QRegs.prod hown).trans (congrArg (fun r : QRegs => (r.prod + 1) % 65536) hqq)
    · rw [hext, State.qRetireN_ext, State.calm_ext hv, State.qTake1_ext, State.calm_ext hsu.calm]
  case gates =>
    intro s q k e hread
    generalize hr : s.masterRead 0x20 (s.rd ETH.GCL_BASE 0 q + 8 * k) 8 = r at hread
    obtain ⟨v, o⟩ := r
    cases hread
    simp only [Completes, exec_ethGateSwitch, execEthGateSwitch, hr]
    exact ⟨_, rfl, by simp [State.ethGates, State.updExt, Tab.get_put_self], by simp [State.updExt, Tab.get_put_self]⟩
  case poisoned =>
    intro s x n write data errs
    obtain ⟨l, hu⟩ := s.flipBits_eq errs
    exact ⟨s.forEach errs State.flipBit, by simp [exec_pcieInbound, execPcieInbound], by rw [hu], by rw [hu], by rw [hu]⟩
  case beyond =>
    intro s x n data errs hx
    obtain ⟨l, hu⟩ := s.flipBits_eq errs
    have hx' : 2 ^ (s.forEach errs State.flipBit).rd PCIE.CFG.BAR0_L < x + n := by rw [hu]; exact hx
    refine ⟨(s.forEach errs State.flipBit).errResp n, by simp [exec_pcieInbound, execPcieInbound, hx'], rfl, ?_, ?_⟩
    · rw [hu]
      rfl
    · rw [hu]
      rfl
  case hostRead =>
    intro s x n data errs a u hue hx hreg hout hacc hblock hlen
    obtain ⟨l, hu⟩ := s.flipBits_eq errs
    obtain ⟨t, ht, hst⟩ := State.load_mem (s := u) (m := 0x28) (a := a) (n := n) hreg hout (by simp only [u, hu]; exact hacc) hue hblock hlen
    refine ⟨t.okResp (u.readMem a n), ?_, rfl, ?_, ?_⟩
    · have hx' : ¬2 ^ u.rd PCIE.CFG.BAR0_L < x + n := by simp only [u, hu]; exact Nat.not_lt.mpr hx
      have ha : u.rd PCIE.BAR0_XLAT + x = a := by simp only [u, hu]; rfl
      simp only [exec_pcieInbound, execPcieInbound]
      simp [hx', ha, ht, u]
    · exact State.readMem_congr (by simp only [u, hu]) _ _
    · exact hst.mem.trans (by simp only [u, hu])
  case completion =>
    intro s x l data hp
    simp only [Completes, exec_pcieCompletion, execPcieCompletion, hp]
    exact ⟨_, rfl, rfl, rfl, rfl⟩
  case completionPoisoned =>
    intro s x l data hp
    simp only [Completes, exec_pcieCompletion, execPcieCompletion, hp]
    exact ⟨_, rfl, rfl, rfl⟩
  case timeOut =>
    intro s x l hp ht
    simp only [Completes, exec_pcieCompletionTimeout, execPcieCompletionTimeout, hp, if_pos ht]
    exact ⟨_, rfl, rfl, rfl, rfl⟩
  case regulator =>
    intro s v i
    refine ⟨_, rfl, ?_, ?_, onlyRegs_wr (onlyRegs_wr (onlyRegs_refl s _) PMB.READ.VOUT _ 0 0 (by simp [RF.addr]) (nomatch ·)) PMB.READ.IOUT _ 0 0
      (by decide) (nomatch ·)⟩
    · rw [State.rd_wr_of_beside _ _ _ (by decide), State.rd_wr_self _ _ _ _ _ (by decide) (by decide)]
      exact Nat.mod_eq_of_lt v.isLt
    · rw [State.rd_wr_self _ _ _ _ _ (by decide) (by decide)]
      exact Nat.mod_eq_of_lt i.isLt
  case alert =>
    intro s x
    refine ⟨_, rfl, (State.emitAt_rd _ _ _ _ _ _ PMB.STATUS.STATUS_WORD 0 0 ?_).trans ?_⟩
    · exact ⟨⟨by decide, by decide, by decide⟩, nofun⟩
    rw [State.rd_wr_self _ _ _ _ _ (by decide) (by decide)]
    exact Nat.mod_eq_of_lt x.isLt
  case service =>
    intro s o i ho hi
    rw [Completes, exec_serviceTransfer, execServiceTransfer, if_neg (by omega)]
    exact ⟨_, rfl, rfl, rfl, rfl⟩
end Sys2Proof.Machine
end

section
/-!
SUPPORT. Physical engines: their slots and counters, utilisation, engine reset and fences (R195, R198, R200, R202, R212, R218, R219, R441); O36.
-/
namespace Sys2Proof.Machine
-- One proof at a time: each thread of its own costs a stack and an arena of the check's memory.
set_option Elab.async false
open Sys2Proof.Safety

/-- A view that each step of a run over a list leaves is left by the run. -/
theorem State.forEach_view {α β : Type} (P : State → β) (l : List α) (f : State → α → State) (h : ∀ u : State, ∀ a ∈ l, P (f u a) = P u) (s : State) :
    P (s.forEach l f) = P s := State.forEach_invariant (fun u => P u = P s) l f (fun u a ha hu => (h u a ha).trans hu) s rfl
theorem State.en_congr {s t : State} (h : t.engs = s.engs) (p : Nat) : t.en p = s.en p := congrArg (fun l : Tab EngH => Tab.get ({} : EngH) l p) h
theorem State.cx_congr {s t : State} (h : t.ctxs = s.ctxs) (c : Nat) : t.cx c = s.cx c := congrArg (fun l : Tab CtxH => Tab.get ({} : CtxH) l c) h

/-- A write of field `f`, at any instance, leaves field `g` of instance `k`. -/
def RF.leaves (f g : RF) (k : Nat) : Prop := ∀ (s : State) (v i : Nat), (s.wr f v i).rd g k = s.rd g k

section
variable {f g : RF} {k : Nat}
theorem RF.leaves_of_apart (h : ∀ i, f.apart i 0 g k 0) : f.leaves g k := fun _ _ i => State.rd_wr_apart _ _ _ _ _ _ _ _ (h i)
/-- No instance of a field lies at an address. -/
def RF.misses (f : RF) (a : Nat) : Bool :=
  f.hi != 63 && f.s2 == 0 && (decide (a < f.base) || (if f.s1 = 0 then f.base != a else (a - f.base) % f.s1 != 0))
theorem RF.off_of_misses {a : Nat} (h : f.misses a = true) (i : Nat) : f.off i 0 a := by
  simp only [RF.misses, Bool.and_eq_true, Bool.or_eq_true, bne_iff_ne, beq_iff_eq, decide_eq_true_eq] at h
  obtain ⟨⟨h63, h2⟩, h⟩ := h
  refine ⟨?_, fun e => absurd e h63⟩
  rw [RF.addr, h2]
  rintro rfl
  rcases h with h | h
  · omega
  · split at h
    next h1 => simp [h1] at h
    next => simp at h
variable (h : f.leaves g k) (s : State) (i : Nat)
include h
theorem RF.leaves.raise : (s.raise f i).rd g k = s.rd g k := h s 1 i
theorem RF.leaves.clear : (s.clear f i).rd g k = s.rd g k := h s 0 i
theorem RF.leaves.put (b : Bool) : (s.put f b i).rd g k = s.rd g k := by
  unfold State.put
  split
  · exact h.raise s i
  · exact h.clear s i
theorem RF.leaves.wrBit (n : Nat) (b : Bool) : (s.wrBit f n b i).rd g k = s.rd g k := by
  unfold State.wrBit
  split
  · exact h _ _ i
  · exact h _ _ i
end

theorem State.wr_engs (s : State) (f : RF) (v i j : Nat) : (s.wr f v i j).engs = s.engs := by simp

/-! ### Slots -/

section
variable (s : State) (p : Nat)
/-- Counting runs the counters of busy clocks up and leaves the slots, the products and the reference. -/
theorem State.engCount_en :
    ((s.engCount p).en p).tiles = (s.en p).tiles ∧ ((s.engCount p).en p).issue = (s.en p).issue ∧ ((s.engCount p).en p).macEq = (s.en p).macEq ∧
    ((s.engCount p).en p).since = (s.en p).since := by
  rw [State.engCount, State.updEn_same]
  exact ⟨rfl, rfl, rfl, rfl⟩
theorem State.engCount_other {q : Nat} (h : q ≠ p) : (s.engCount p).en q = s.en q := State.updEn_other _ _ _ h
theorem State.engShow_en (q : Nat) : (s.engShow p).en q = s.en q := State.en_congr (by simp [State.engShow]) q
theorem State.engShow_onlyRegs : OnlyRegs s (s.engShow p) [ENG.STATUS.THREADS.addr p] :=
  onlyRegs_wr (onlyRegs_refl s _) ENG.STATUS.THREADS _ p 0 (by simp) (nomatch ·)
theorem State.engShow_threads (h : (s.en p).tiles.length ≤ 256) : (s.engShow p).rd ENG.STATUS.THREADS p = (s.en p).tiles.length := by
  rw [State.engShow, State.rd_wr_self _ _ _ _ _ (by decide) (by decide)]
  exact Nat.mod_eq_of_lt (Nat.lt_of_le_of_lt h (by decide))
theorem State.updFrame_same (c : Nat) (f : Frame → Frame) : ((s.updFrame c f).cx c).frame = (s.cx c).frame.map f := by
  rw [State.updFrame, State.updCx_same]

theorem State.dropEngine_en : ((s.dropEngine p fun _ => false).en p).tiles = [] ∧ ((s.dropEngine p fun _ => false).en p).issue = none := by
  unfold State.dropEngine
  dsimp only
  rw [State.engShow_en, State.updEn_same]
  exact ⟨by simp, by simp⟩

/-! ### Engine reset -/

theorem threads_leaves : INF.ENG_STATUS.HOST2.leaves ENG.STATUS.THREADS p ∧ ENG.STATUS.HOSTS.leaves ENG.STATUS.THREADS p := by
  refine ⟨RF.leaves_of_apart fun i => ?_, fun u v i => ?_⟩
  · simp only [RF.apart, RF.off, RF.addr, ENG.STATUS.THREADS, INF.ENG_STATUS.HOST2]
    omega
  · rcases eq_or_ne i p with rfl | h
    · exact State.rd_wr_of_beside u i v (by decide)
    · refine State.rd_wr_apart _ _ _ _ _ _ _ _ ?_
      simp only [RF.apart, RF.off, RF.addr, ENG.STATUS.THREADS, ENG.STATUS.HOSTS]
      omega
theorem State.hostsShow_rd {g : RF} {k : Nat} (h : ENG.STATUS.HOSTS.leaves g k) (h2 : INF.ENG_STATUS.HOST2.leaves g k) :
    s.hostsShow.rd g k = s.rd g k :=
  State.forEach_view (fun u => u.rd g k) _ _ (fun u q _ => (h2.wrBit _ 0 q _).trans (h u _ q)) s
theorem State.hostsShow_engs : s.hostsShow.engs = s.engs :=
  State.forEach_view State.engs _ _ (fun u q _ => by simp) s
theorem State.writeParts_engs (l : List (Nat × Nat)) (d : List Nat) : (s.writeParts l d).engs = s.engs := by
  induction l generalizing s d with
  | nil => rfl
  | cons r l ih => exact (ih _ _).trans (congrArg State.engs (State.calm_core (s.writeMem_calm r.1 _)) :)
theorem State.failFrame_engs (c k : Nat) : (s.failFrame c k).engs = s.engs := rfl
theorem State.loseState_engs (c : Nat) : (s.loseState c).engs = s.engs := by
  unfold State.loseState
  simp [State.writeCopy, State.writeParts_engs]
theorem State.engRegs_shows : (s.engRegs p).en p = s.en p ∧
    ((s.en p).tiles.length ≤ 256 → (s.engRegs p).rd ENG.STATUS.THREADS p = (s.en p).tiles.length) := by
  obtain ⟨u, he, hu⟩ : ∃ u : State, s.engRegs p = (u.engShow p).hostsShow ∧ u.engs = s.engs := ⟨_, rfl, by simp⟩
  have hup : u.en p = s.en p := State.en_congr hu p
  obtain ⟨h2, h⟩ := threads_leaves p
  rw [he, State.hostsShow_rd _ h h2, ← hup]
  exact ⟨(State.en_congr (u.engShow p).hostsShow_engs p).trans (u.engShow_en p p), u.engShow_threads p⟩
/-- An engine reset leaves its engine without tiles. -/
theorem State.engReset_clears (h : s.inReset = false) :
    ((s.engReset p).en p).tiles = [] ∧ ((s.engReset p).en p).issue = none ∧ (s.engReset p).rd ENG.STATUS.THREADS p = 0 := by
  obtain ⟨u, he, hu⟩ : ∃ u : State, s.engReset p = u.engRegs p ∧ u.engs = (s.transAbandon.dropEngine p fun _ => false).engs := by
    unfold State.engReset
    rw [h]
    refine ⟨_, rfl, ?_⟩
    exact State.forEach_view State.engs _ _ (fun v c _ => ((v.loseState c).failFrame_engs c 3).trans (v.loseState_engs c)) _
  obtain ⟨htiles, hissue⟩ := s.transAbandon.dropEngine_en p
  obtain ⟨hen, hrd⟩ := u.engRegs_shows p
  have hup : u.en p = (s.transAbandon.dropEngine p fun _ => false).en p := State.en_congr hu p
  rw [he, hen, hrd (by rw [hup, htiles]; decide), hup, htiles, hissue]
  exact ⟨rfl, rfl, rfl⟩

/-! ### Utilisation -/

/-- The counters of one engine are copied and start again. -/
def State.utilOne (now : Nat) (s : State) (p : Nat) : State :=
  let s := s.engCount p
  let h := s.en p
  let s := ((s.wr ENG.UTIL (now - h.since) p 0).wr ENG.UTIL h.busy p 1).wr ENG.UTIL h.macEq p 2
  let s := ((s.wr ENG.UTIL h.stallMem p 3).wr ENG.UTIL h.stallDep p 4).wr ENG.UTIL h.test p 5
  s.updEn p fun h => { h with busy := 0, macEq := 0, stallMem := 0, stallDep := 0, test := 0, since := now }
theorem State.utilSnap_eq :
    s.utilSnap = { (s.forEach (List.range 8) (State.utilOne s.dtime)).wr INF.UTIL_SNAP_TIME s.dtime with utilRef := s.dtime } := rfl
theorem State.utilRef_rd (n : Nat) (g : RF) (k l : Nat) : { s with utilRef := n }.rd g k l = s.rd g k l := rfl
theorem State.utilRef_en (n : Nat) : { s with utilRef := n }.en p = s.en p := rfl
theorem State.rd_util_apart {q k l : Nat} (v : Nat) (hk : k < 6) (hl : l < 6) (h : q ≠ p ∨ l ≠ k) :
    (s.wr ENG.UTIL v p k).rd ENG.UTIL q l = s.rd ENG.UTIL q l := by
  refine State.rd_wr_apart _ _ _ _ _ _ _ _ ?_
  simp only [RF.apart, RF.off, RF.addr, ENG.UTIL]
  omega
theorem State.utilOne_same (now : Nat) :
    (s.utilOne now p).rd ENG.UTIL p 2 = (s.en p).macEq % 2 ^ 64 ∧ ((s.utilOne now p).en p).macEq = 0 ∧ ((s.utilOne now p).en p).since = now := by
  obtain ⟨-, -, hmac, -⟩ := s.engCount_en p
  refine ⟨?_, ?_, ?_⟩
  · simp only [State.utilOne, State.updEn_rd]
    rw [State.rd_util_apart _ _ _ (by decide) (by decide) (.inr (by decide)), State.rd_util_apart _ _ _ (by decide) (by decide) (.inr (by decide)),
      State.rd_util_apart _ _ _ (by decide) (by decide) (.inr (by decide)), State.rd_wr_pair _ _ _ _ _ rfl, hmac]
  · rw [State.utilOne, State.updEn_same]
  · rw [State.utilOne, State.updEn_same]
theorem State.utilOne_other (now : Nat) {q : Nat} (h : q ≠ p) :
    (s.utilOne now p).rd ENG.UTIL q 2 = s.rd ENG.UTIL q 2 ∧ (s.utilOne now p).en q = s.en q := by
  constructor
  · simp only [State.utilOne, State.updEn_rd]
    simp [State.rd_util_apart, h]
    rfl
  · rw [State.utilOne, State.updEn_other _ _ _ h]
    exact (State.en_congr (by simp) q).trans (s.engCount_other p h)
end
/-- A snapshot of the counters shows each engine's products and starts its counters again. -/
theorem State.utilSnap_shows (s : State) :
    s.utilSnap.rd INF.UTIL_SNAP_TIME = s.dtime % 2 ^ 64 ∧ s.utilSnap.utilRef = s.dtime ∧
    ∀ p : Fin 8, s.utilSnap.rd ENG.UTIL p 2 = (s.en p).macEq % 2 ^ 64 ∧ (s.utilSnap.en p).macEq = 0 ∧ (s.utilSnap.en p).since = s.dtime := by
  refine ⟨by rw [State.utilSnap_eq, State.utilRef_rd, State.rd_wr_pair _ _ _ _ _ rfl], rfl, fun p => ?_⟩
  obtain ⟨u, hu, he⟩ := State.forEach_single (fun u => (u.rd ENG.UTIL p 2, u.en p)) (State.utilOne s.dtime) (· == p.val) p.val (List.range 8)
    (by revert p; decide) (fun u a _ hne => Prod.ext_iff.mpr (u.utilOne_other a s.dtime (beq_eq_false_iff_ne.mp hne).symm)) s
  obtain ⟨hrd, hmac, hsince⟩ := u.utilOne_same p s.dtime
  obtain ⟨hurd, huen⟩ := Prod.ext_iff.mp he
  dsimp only at hurd huen
  have hus : u.en p = s.en p := congrArg Prod.snd hu
  have hen : s.utilSnap.en p = (s.forEach (List.range 8) (State.utilOne s.dtime)).en p := by
    rw [State.utilSnap_eq, State.utilRef_en]
    exact State.en_congr (State.wr_engs _ _ _ _ _) p
  refine ⟨?_, ?_, ?_⟩
  · rw [State.utilSnap_eq, State.utilRef_rd]
    refine (State.rd_wr_apart _ _ _ _ _ _ _ _ ?_).trans (hurd.trans (hrd.trans (by rw [hus])))
    simp only [RF.apart, RF.off, RF.addr, ENG.UTIL, INF.UTIL_SNAP_TIME]
    omega
  · rw [hen, huen, hmac]
  · rw [hen, huen, hsince]

theorem utilCtrl_lockFree : lockFree INF.UTIL_CTRL.SNAP.addr = true := by decide +kernel
theorem engFence_lockFree : lockFree INF.ENG_FENCE.FENCE.addr = true := by decide +kernel

/-! ### Fences -/

theorem usable_quiet : INF.ENG_STATUS.USABLE.quiet 0 0 := ⟨⟨by decide, by decide, by decide⟩, nofun⟩
/-- What fences write beside USABLE leaves it. -/
theorem usable_leaves : ∀ f ∈ [INF.ENG_MAP.MAP, INF.ENG_STATUS.HOST2, ENG.STATUS.HOSTS, ENG.STATUS.THREADS, ENG.STATUS.FENCED, INF.STATUS.UNAVAIL,
    INF.STATUS.DEMOTE, INF.STATUS.UNPROT, CTX.STATUS.UNPROTECTED], f.leaves INF.ENG_STATUS.USABLE 0 := by
  have hhost2 : INF.ENG_STATUS.HOST2.leaves INF.ENG_STATUS.USABLE 0 := fun u v _ => State.rd_wr_of_beside u 0 v (by decide)
  have hmiss : ∀ f ∈ [INF.ENG_MAP.MAP, INF.ENG_STATUS.HOST2, ENG.STATUS.HOSTS, ENG.STATUS.THREADS, ENG.STATUS.FENCED, INF.STATUS.UNAVAIL,
      INF.STATUS.DEMOTE, INF.STATUS.UNPROT, CTX.STATUS.UNPROTECTED], f = INF.ENG_STATUS.HOST2 ∨ f.misses INF.ENG_STATUS.USABLE.addr = true := by decide
  intro f hf
  rcases hmiss f hf with rfl | h
  · exact hhost2
  · exact RF.leaves_of_apart fun i => ⟨RF.off_of_misses h i, nofun⟩

section
variable (s : State)
theorem State.replan_rd {g : RF} {k : Nat} (hu : CTX.STATUS.UNPROTECTED.leaves g k) (hd : INF.STATUS.DEMOTE.leaves g k) (hn : INF.STATUS.UNPROT.leaves g k)
    (hq : g.quiet k 0) : s.replan.rd g k = s.rd g k := by
  unfold State.replan
  refine (hn _ _ 0).trans (State.forEach_view (fun u => u.rd g k) _ _ (fun u c _ => ?_) s)
  dsimp only
  split
  · exact (hd.raise _ 0).trans ((State.emit_rd _ _ _ _ g k 0 hq).trans (hu.put _ c _))
  · exact hu.put _ c _
theorem State.dropEngine_rd (p : Nat) (keep : TileH → Bool) {g : RF} {k : Nat} (h : ENG.STATUS.THREADS.leaves g k) :
    (s.dropEngine p keep).rd g k = s.rd g k := by
  unfold State.dropEngine
  refine (h _ _ p).trans ?_
  rw [(State.updEn_rd _ _ _ _ _ _).1]
  split
  · split <;> rfl
  · rfl
theorem State.mapEngine_rd (i : Nat) (p : Option Nat) {g : RF} {k : Nat} (h : INF.ENG_MAP.MAP.leaves g k) : (s.mapEngine i p).rd g k = s.rd g k := by
  cases p with
  | none => exact h _ _ 0
  | some q => exact h _ _ 0
theorem State.moveAll_rd (p : Nat) {g : RF} {k : Nat} (h : INF.ENG_MAP.MAP.leaves g k) (hq : g.quiet k 0) : (s.moveAll p).rd g k = s.rd g k := by
  unfold State.moveAll
  split
  · exact State.emit_rd _ _ _ _ g k 0 hq
  · refine State.forEach_view (fun u => u.rd g k) _ _ (fun u i _ => ?_) s
    split
    · exact (State.emit_rd _ _ _ _ g k 0 hq).trans (u.mapEngine_rd i _ h)
    · exact u.mapEngine_rd i none h

/-- One engine is fenced. -/
def State.fenceOne (s : State) (p : Nat) : State := ((s.dropEngine p fun _ => false).wrBit INF.ENG_STATUS.USABLE p false).raise ENG.STATUS.FENCED p
theorem State.engUsable_congr {t : State} (h : t.rd INF.ENG_STATUS.USABLE = s.rd INF.ENG_STATUS.USABLE) (p : Nat) : t.engUsable p = s.engUsable p :=
  congrArg (fun n => bit n p) h
theorem State.fenceOne_usable (p : Nat) {q : Nat} (hq : q < 8) : (s.fenceOne p).engUsable q = (s.engUsable q && !(q == p)) := by
  have hl := usable_leaves
  simp only [List.forall_mem_cons] at hl
  obtain ⟨-, -, -, hthreads, hfenced, -⟩ := hl
  have e : (s.fenceOne p).rd INF.ENG_STATUS.USABLE = setBit (s.rd INF.ENG_STATUS.USABLE) p false % 2 ^ 8 := by
    rw [State.fenceOne, hfenced.raise, State.wrBit, if_neg (by decide), State.rd_wr_self _ _ _ _ _ (by decide) (by decide), State.dropEngine_rd _ _ _ hthreads]
    rfl
  rw [State.engUsable, State.rdBit, e, bit_mod hq, bit_setBit]
  by_cases h : q = p
  · simp [h]
  · simp [h, State.engUsable, State.rdBit]
theorem State.fences_usable (l : List Nat) {q : Nat} (hq : q < 8) : (s.forEach l State.fenceOne).engUsable q = (s.engUsable q && !l.contains q) := by
  induction l generalizing s with
  | nil => simp [State.forEach]
  | cons p l ih =>
    refine (ih (s.fenceOne p)).trans ?_
    rw [s.fenceOne_usable p hq, List.contains_cons, Bool.not_or, Bool.and_assoc]
theorem State.engFence_usable (mask : Nat) {q : Nat} (hq : q < 8) : (s.engFence mask).engUsable q = (s.engUsable q && !bit mask q) := by
  have hl := usable_leaves
  simp only [List.forall_mem_cons] at hl
  obtain ⟨hmap, hhost2, hhosts, -, -, hunavail, hdemote, hunprot, hunprotected, -⟩ := hl
  have hfail : ∀ (u : State) (l : List Nat), (u.forEach l fun v c => v.failFrame c 2).rd INF.ENG_STATUS.USABLE = u.rd INF.ENG_STATUS.USABLE := fun u l =>
    State.forEach_view (fun v => v.rd INF.ENG_STATUS.USABLE) l (fun v c => v.failFrame c 2) (fun _ _ _ => rfl) u
  have hps : ((List.range 8).filter fun p => bit mask p && s.engUsable p).contains q = (bit mask q && s.engUsable q) := by
    rw [Bool.eq_iff_iff, List.contains_iff_mem, List.mem_filter]
    simp [hq]
  unfold State.engFence
  dsimp only
  split
  next he =>
    rw [he] at hps
    cases hb : bit mask q <;> cases hs : s.engUsable q <;> simp [hb, hs] at hps ⊢
  next =>
    refine (State.engUsable_congr (s.forEach ((List.range 8).filter fun p => bit mask p && s.engUsable p) State.fenceOne) ?_ q).trans ?_
    · refine (State.replan_rd _ hunprotected hdemote hunprot usable_quiet).trans ?_
      have hmove : ∀ l : List Nat, ∀ u : State, ((u.forEach l State.moveAll).hostsShow).rd INF.ENG_STATUS.USABLE = u.rd INF.ENG_STATUS.USABLE := fun l u =>
        (State.hostsShow_rd _ hhosts hhost2).trans (State.forEach_view (fun v => v.rd INF.ENG_STATUS.USABLE) l _
          (fun v p _ => v.moveAll_rd p hmap usable_quiet) u)
      split
      · exact (hfail _ _).trans ((hunavail.raise _ 0).trans ((hfail _ _).trans (hmove _ _)))
      · exact (hfail _ _).trans (hmove _ _)
    · rw [State.fences_usable _ _ hq, hps]
      cases bit mask q <;> cases s.engUsable q <;> rfl
end

/-! ### The instructions of tiles and counters -/

section
variable (s : State) (p : Fin 8)
theorem exec_tileAssign : exec (.tileAssign p) s = execTileAssign p s := rfl
theorem exec_tileStaged (k : Fin 256) : exec (.tileStaged p k) s = execTileStaged p k s := rfl
theorem exec_tileIssue : exec (.tileIssue p) s = execTileIssue p s := rfl
theorem exec_tileRetire : exec (.tileRetire p) s = execTileRetire p s := rfl
theorem exec_utilAutoSnap : exec .utilAutoSnap s = execUtilAutoSnap s := rfl
end

/-- Settles O36: slots and counters change at the engine named alone; a fence clears the bits of USABLE that it names. -/
theorem engineCommands : Obligations.EngineCommands := by
  unfold Obligations.EngineCommands
  refine ⟨?fence, ?reset, ?assign, ?staged, ?issue, ?retire, ?snap, ?auto⟩
  case fence =>
    intro s m v hw
    obtain ⟨hregs, -⟩ := busWriteWith_state (fx := fun s => s.fxEngFence v.toNat) (u := (s.writeFields INF.ENG_FENCE.FENCE.addr v.toNat).1.engFence
      (bits v.toNat 7 0)) hw (by rw [State.fxEngFence, State.writeFields_ok _ _ engFence_lockFree])
    have hall : ∀ p : Fin 8, (s.busWriteWith m INF.ENG_FENCE.FENCE.addr true fun s => s.fxEngFence v.toNat).engUsable p =
        (s.engUsable p && !bit v.toNat p) := fun p => by
      have hbit : bit (bits v.toNat 7 0) p = bit v.toNat p := by
        rw [bits, pow_zero, Nat.div_one]
        exact bit_mod p.isLt
      rw [State.engUsable_congr _ (State.regs_rd hregs _ 0 0), State.engFence_usable _ _ p.isLt, hbit,
        State.engUsable_congr s (onlyRegs_rd (s.writeFields_onlyRegs _ _) _ 0 0 (by decide) nofun)]
    exact ⟨_, rfl, fun p hp => by rw [hall, hp]; simp, fun p hp => by rw [hall, hp]; simp⟩
  case reset =>
    intro s m p v hw hv hr
    obtain ⟨htiles, hissue, hthreads⟩ := s.engReset_clears p hr
    obtain ⟨hregs, -, -, hengs, -⟩ := busWriteWith_state (fx := fun s => s.fxEngCtrl p v.toNat) (u := s.engReset p) hw (by simp [State.fxEngCtrl, hv])
    have hen := State.en_congr hengs p
    exact ⟨_, rfl, (congrArg EngH.tiles hen).trans htiles, (congrArg EngH.issue hen).trans hissue, (State.regs_rd hregs _ p 0).trans hthreads⟩
  case assign =>
    intro s p x hu hlen hbest
    obtain ⟨htiles, -⟩ := s.engCount_en p
    have he : (((s.engCount p).updEn p fun h => { h with tiles := h.tiles ++ [x] }).en p).tiles = (s.en p).tiles ++ [x] := by
      rw [State.updEn_same, htiles]
    refine ⟨((s.engCount p).updEn p fun h => { h with tiles := h.tiles ++ [x] }).engShow p, by simp [exec_tileAssign, execTileAssign, hu, hlen, hbest], ?_, ?_, ?_⟩
    · rw [State.engShow_en, he]
    · rw [State.engShow_threads _ _ (by rw [he, List.length_append]; exact hlen), he, List.length_append]
      rfl
    · exact fun a ha => State.engShow_onlyRegs _ p a ha
  case staged =>
    intro s p k x hx
    obtain ⟨htiles, -⟩ := s.engCount_en p
    obtain ⟨hk, -⟩ := List.getElem?_eq_some_iff.mp hx
    refine ⟨(s.engCount p).updEn p fun h => { h with tiles := h.tiles.set k { x with staged := true } }, by simp [exec_tileStaged, execTileStaged, hx], ?_, ?_, rfl⟩
    · rw [State.updEn_same, htiles]
      exact List.getElem?_set_self hk
    · rw [State.updEn_same, htiles, List.length_set]
  case issue =>
    intro s p x hissue htest hlevel hbest
    refine ⟨(s.engCount p).updEn p fun h => { h with issue := some (x, s.dtime) }, ?_, by rw [State.updEn_same], rfl⟩
    simp [exec_tileIssue, execTileIssue, hissue, htest, hlevel, hbest]
  case retire =>
    intro s p x start f hissue hf
    obtain ⟨u, hd, hc, hi, he⟩ : ∃ u : State, u.dtime = s.dtime ∧ u.ctxs = s.ctxs ∧ (u.en p).issue = none ∧ exec (.tileRetire p) s =
        .next ((u.chargeTile x start).updFrame x.ctx fun f => { f with readyTiles := (x.op, x.tile) :: f.readyTiles }) := by
      refine ⟨((s.engCount p).updEn p fun h => { h with issue := none,
                                                        tiles := h.tiles.filter fun y => !(y.ctx == x.ctx && y.op == x.op && y.tile == x.tile) }).engShow p,
        by simp [State.engShow, State.engCount], by simp [State.engShow, State.engCount], ?_, ?_⟩
      · rw [State.engShow_en, State.updEn_same]
      · simp [exec_tileRetire, execTileRetire, hissue]
    have hu : (u.cx x.ctx).frame = some f := (congrArg CtxH.frame (State.cx_congr hc x.ctx)).trans hf
    refine ⟨_, he, hi, ?_, ?_⟩
    · rw [State.updFrame_same, State.chargeTile, State.updFrame_same, hu]
      rfl
    · rw [State.updFrame_same, State.chargeTile, State.updFrame_same, hu, hd]
      rfl
  case snap =>
    intro s m v hw hv
    obtain ⟨u, hu, hd, hen⟩ : ∃ u : State, s.fxUtilCtrl v.toNat = (u.utilSnap, .ok) ∧ u.dtime = s.dtime ∧ ∀ p, u.en p = s.en p := by
      have hok := s.writeFields_ok v.toNat utilCtrl_lockFree
      refine ⟨{ (s.writeFields INF.UTIL_CTRL.SNAP.addr v.toNat).1 with utilRef := (s.writeFields INF.UTIL_CTRL.SNAP.addr v.toNat).1.dtime }, ?_, ?_,
        fun p => ?_⟩
      · rw [State.fxUtilCtrl, hok, hv]
        rfl
      · simp
      · rcases s.writeFields_fst INF.UTIL_CTRL.SNAP.addr v.toNat with e | ⟨w, e⟩
        · rw [e]
          rfl
        · rw [e]
          rfl
    obtain ⟨hregs, -, -, hengs, -⟩ := busWriteWith_state (fx := fun s => s.fxUtilCtrl v.toNat) hw hu
    obtain ⟨htime, -, hp⟩ := u.utilSnap_shows
    refine ⟨_, rfl, (State.regs_rd hregs _ 0 0).trans (htime.trans (by rw [hd])), fun p => ?_⟩
    obtain ⟨hrd, hmac, hsince⟩ := hp p
    exact ⟨(State.regs_rd hregs _ p 2).trans (hrd.trans (by rw [hen])), (congrArg EngH.macEq (State.en_congr hengs p)).trans hmac,
      (congrArg EngH.since (State.en_congr hengs p)).trans (hsince.trans hd)⟩
  case auto =>
    intro s ha ht
    obtain ⟨htime, href, hp⟩ := s.utilSnap_shows
    exact ⟨s.utilSnap, by simp [exec_utilAutoSnap, execUtilAutoSnap, ha, ht], htime, href, fun p => ⟨(hp p).1, (hp p).2.1⟩⟩
end Sys2Proof.Machine
end

section
/-!
SUPPORT. Context commands as they arrive, and the start of a frame (R51, R201, R202, R215); O37.
-/
namespace Sys2Proof.Machine
-- One proof at a time: each thread of its own costs a stack and an arena of the check's memory.
set_option Elab.async false
open Sys2Proof.Safety

/-! ### The registers of contexts -/

/-- A field of the registers of a context. -/
def RF.ofCtx (f : RF) : Bool :=
  f.s1 == 0x100 && f.s2 == 0 && decide (0x2020200000 ≤ f.base) && decide (f.base + (if f.hi = 63 then 4 else 0) < 0x2020200100)
theorem RF.leaves_ctx {f g : RF} (k : Nat) (hf : f.ofCtx = true) (hg : g.ofCtx = true) (hb : f.beside g = true) : f.leaves g k := fun s v i => by
  rcases eq_or_ne i k with rfl | h
  · exact State.rd_wr_of_beside s i v hb
  · refine State.rd_wr_apart _ _ _ _ _ _ _ _ ?_
    simp only [RF.ofCtx, Bool.and_eq_true, beq_iff_eq, decide_eq_true_eq] at hf hg
    obtain ⟨⟨⟨hf1, hf2⟩, hfb⟩, hfe⟩ := hf
    obtain ⟨⟨⟨hg1, hg2⟩, hgb⟩, hge⟩ := hg
    simp only [RF.apart, RF.off, RF.addr, hf1, hg1, hf2, hg2]
    split at hfe <;> split at hge <;> omega
theorem RF.quiet_ctx {g : RF} (k : Nat) (hg : g.ofCtx = true) : g.quiet k 0 := by
  simp only [RF.ofCtx, Bool.and_eq_true, beq_iff_eq, decide_eq_true_eq] at hg
  obtain ⟨⟨⟨hg1, hg2⟩, hgb⟩, hge⟩ := hg
  simp only [RF.quiet, notEvent, RF.addr, REC.EVT_TOTAL, REC.QUEUE.VALUE]
  omega
theorem State.emit_ctx (s : State) (code source : Nat) (payload : List Nat) {g : RF} (c : Nat) (hg : g.ofCtx = true) :
    (s.emit code source payload).rd g c = s.rd g c := State.emit_rd _ _ _ _ _ c 0 (RF.quiet_ctx c hg)
theorem RF.calm_ctx {g : RF} (k : Nat) (hg : g.ofCtx = true) : g.calm k 0 = true := by
  simp only [RF.ofCtx, Bool.and_eq_true, beq_iff_eq, decide_eq_true_eq] at hg
  exact RF.calm_above k 0 (by omega)
/-- What stands of a field after writes of fields beside it. -/
theorem State.flag_of_leaves {s t : State} {g : RF} {k : Nat} (h : t.rd g k = s.rd g k) : t.flag g k = s.flag g k := congrArg (· != 0) h

/-! ### Commands and their answers -/

section
variable (s : State) (c : Nat)
/-- A command's word in CTX.CMD. -/
theorem cmdWord_bits {op : Nat} (fresh : Bool) (h : op < 16) : bits (op + 16 * b2n fresh) 3 0 = op ∧ bit (op + 16 * b2n fresh) 4 = fresh := by
  cases fresh <;> interval_cases op <;> decide
/-- A granted write of a command leaves what the command leaves. -/
theorem State.ctxCmdWrite_state {m op : Nat} {fresh : Bool} (hw : MayWrite s m (CTX.CMD.OP.addr c) true) (h : op < 16) :
    (s.ctxCmdWrite m c op fresh).regs = (s.ctxCommand c op fresh).regs ∧ (s.ctxCmdWrite m c op fresh).ctxs = (s.ctxCommand c op fresh).ctxs ∧
    (s.ctxCmdWrite m c op fresh).recd = (s.ctxCommand c op fresh).recd := by
  obtain ⟨hop, hfresh⟩ := cmdWord_bits fresh h
  obtain ⟨hregs, -, hctxs, -, hrecd, -⟩ := busWriteWith_state (fx := fun s => s.fxCtxCmd c (op + 16 * b2n fresh)) (u := s.ctxCommand c op fresh) hw
    (by rw [State.fxCtxCmd, hop, hfresh])
  exact ⟨hregs, hctxs, hrecd⟩

@[simp] theorem State.wr_cx (f : RF) (v i j : Nat) : (s.wr f v i j).cx c = s.cx c := State.cx_congr (by simp) c
@[simp] theorem State.raise_cx (f : RF) (i j : Nat) : (s.raise f i j).cx c = s.cx c := State.cx_congr (by simp) c
@[simp] theorem State.clear_cx (f : RF) (i j : Nat) : (s.clear f i j).cx c = s.cx c := State.cx_congr (by simp) c
@[simp] theorem State.emit_cx (code source : Nat) (payload : List Nat) : (s.emit code source payload).cx c = s.cx c := State.cx_congr (by simp) c

/-- A command that a context keeps. -/
def State.ctxTake (op : Nat) (fresh : Bool) : State :=
  (s.updCx c fun h => { h with cmd := some { op := op, fresh := fresh, at_ := s.dtime } }).raise CTX.STATUS.BUSY c
theorem State.ctxTake_shows (op : Nat) (fresh : Bool) :
    (s.ctxTake c op fresh).flag CTX.STATUS.BUSY c = true ∧
    ((s.ctxTake c op fresh).cx c = { s.cx c with cmd := some { op := op, fresh := fresh, at_ := s.dtime } }) ∧
    OnlyRegs s (s.ctxTake c op fresh) [CTX.STATUS.BUSY.addr c] := by
  refine ⟨State.flag_raise _ _ _ _ (by decide), ?_, ?_⟩
  · rw [State.ctxTake, State.raise_cx, State.updCx_same]
  · exact onlyRegs_raise (onlyRegs_of_reg (onlyRegs_refl s _) fun _ => rfl) CTX.STATUS.BUSY c 0 (by simp) (nomatch ·)
end

/-- With running firmware, and for ARM in RUN, a context that is not busy takes a command that its state accepts. -/
structure Accepts (s : State) (c op : Nat) (fresh : Bool) : Prop where
  fw : s.rd SUP.FW_STATUS.STATE = 3
  run : op = 2 → s.rd PWR.STATE.STATE = 0 ∧ s.flag PWR.STATE.BUSY = false ∧ (fresh = true ∨ s.flag CTX.STATUS.STATE_LOST c = false)
  idle : s.flag CTX.STATUS.BUSY c = false
  state : ctxAccepts op (s.rd CTX.STATUS.STATE c) = true
section
variable {s : State} {c op : Nat} {fresh : Bool}
theorem Accepts.op_range (h : Accepts s c op fresh) : ¬(op = 0 ∨ 9 ≤ op) := by
  have hs := h.state
  rintro (rfl | h9)
  · exact absurd hs Bool.false_ne_true
  · obtain ⟨k, rfl⟩ := Nat.exists_eq_add_of_le' h9
    exact absurd hs Bool.false_ne_true
/-- What becomes of an accepted command. -/
theorem State.ctxCommand_accepted (h : Accepts s c op fresh) :
    s.ctxCommand c op fresh =
      if op = 8 then ((s.trigger c { stamp := s.dtime, slot := 0, tbState := 0, cmd := true }).1).ctxDone c op 0
      else if op = 3 then (s.ctxTake c op fresh).updCx c fun h => { h with disarm := true }
      else if op = 4 then (((s.ctxTake c op fresh).failFrame c 5).updCx c fun h => { h with latched := none, wait := none }).clear CTX.STATUS.LATCHED c
      else s.ctxTake c op fresh := by
  have hop := h.op_range
  obtain ⟨hfw, hrun, hidle, hstate⟩ := h
  have hnot : ¬(op = 2 ∧ (s.rd PWR.STATE.STATE ≠ 0 ∨ s.flag PWR.STATE.BUSY = true)) := by
    rintro ⟨h2, he⟩
    obtain ⟨hst, hbusy, -⟩ := hrun h2
    simp [hst, hbusy] at he
  have hlost : ¬(op = 2 ∧ fresh = false ∧ s.flag CTX.STATUS.STATE_LOST c = true) := by
    rintro ⟨h2, hf, hl⟩
    obtain ⟨-, -, hor⟩ := hrun h2
    simp [hf, hl] at hor
  unfold State.ctxCommand
  rw [if_neg (by simpa [hfw] using hop), if_neg hnot, if_neg (by simp [hidle]), if_neg (by simpa [hstate] using hlost)]
  rfl
end

/-! ### Refused and finished commands -/

section
variable (s : State) (c op rc : Nat)
theorem State.ctxRefuse_shows :
    (s.ctxRefuse c op rc).flag CTX.STATUS.REFUSED c = true ∧ (s.ctxRefuse c op rc).rd CTX.STATUS.RCODE c = rc % 2 ^ CTX.STATUS.RCODE.width ∧
    (s.ctxRefuse c op rc).ctxs = s.ctxs ∧ (Room s → Noted (s.ctxRefuse c op rc) 0x0601 (srcContext c) s.dtime) := by
  have hl : CTX.STATUS.RCODE.leaves CTX.STATUS.REFUSED c := RF.leaves_ctx c (by decide) (by decide) (by decide)
  refine ⟨?_, ?_, by simp [State.ctxRefuse], fun h => ?_⟩
  · exact (State.flag_of_leaves ((State.emit_ctx _ _ _ _ _ (by decide)).trans (hl _ _ c))).trans (State.flag_raise _ _ _ _ (by decide))
  · exact (State.emit_ctx _ _ _ _ _ (by decide)).trans (State.rd_wr_self _ _ _ _ _ (by decide) (by decide))
  · have e := ((s.raise CTX.STATUS.REFUSED c).wr CTX.STATUS.RCODE rc c).emit_noted 0x0601 (srcContext c) [op, rc] (by simpa using h)
    simpa [State.ctxRefuse] using e
theorem State.ctxRefuse_rd {g : RF} (hg : g.ofCtx = true) (h : CTX.STATUS.REFUSED.beside g = true ∧ CTX.STATUS.RCODE.beside g = true) :
    (s.ctxRefuse c op rc).rd g c = s.rd g c :=
  (State.emit_ctx _ _ _ _ _ hg).trans ((RF.leaves_ctx c (by decide) hg h.2 _ _ c).trans (RF.leaves_ctx c (by decide) hg h.1 _ _ c))

/-- A command leaves its context. -/
def State.ctxSettle : State :=
  ((s.updCx c fun h => { h with cmd := none }).clear CTX.STATUS.BUSY c).mbSettle 0x0040 rc fun p => fieldLE p 0 1 == c && fieldLE p 1 1 == op
theorem State.ctxSettle_cx : (s.ctxSettle c op rc).cx c = { s.cx c with cmd := none } :=
  ((s.updCx c fun h => { h with cmd := none }).clear_cx c CTX.STATUS.BUSY c 0).trans (State.updCx_same s c _)
theorem State.ctxSettle_busy : (s.ctxSettle c op rc).flag CTX.STATUS.BUSY c = false := State.flag_clear _ _ _ _ (by decide)
theorem State.ctxSettle_rd {g : RF} (hg : g.ofCtx = true) (h : CTX.STATUS.BUSY.beside g = true) : (s.ctxSettle c op rc).rd g c = s.rd g c :=
  (RF.leaves_ctx c (by decide) hg h).clear (s.updCx c fun h => { h with cmd := none }) c
theorem State.ctxDone_refused (h : rc ≠ 0) : s.ctxDone c op rc = (s.ctxSettle c op rc).ctxRefuse c op rc := if_neg h

/-- A command that finishes without an error. -/
theorem State.ctxDone_shows :
    (s.ctxDone c op 0).cx c = { s.cx c with cmd := none } ∧ (s.ctxDone c op 0).flag CTX.STATUS.DONE c = true ∧
    (s.ctxDone c op 0).flag CTX.STATUS.BUSY c = false ∧ (s.ctxDone c op 0).rd CTX.STATUS.RCODE c = 0 := by
  have e : s.ctxDone c op 0 = (((s.ctxSettle c op 0).raise CTX.STATUS.DONE c).wr CTX.STATUS.RCODE 0 c).emit 0x0601 (srcContext c) [op, 0] := rfl
  rw [e]
  refine ⟨?_, ?_, ?_, ?_⟩
  · rw [State.emit_cx, State.wr_cx, State.raise_cx, State.ctxSettle_cx]
  · refine (State.flag_of_leaves ((State.emit_ctx _ _ _ _ _ (by decide)).trans (RF.leaves_ctx c ?_ ?_ ?_ _ _ c))).trans
      (State.flag_raise _ _ _ _ (by decide)) <;> decide
  · refine (State.flag_of_leaves ((State.emit_ctx _ _ _ _ _ (by decide)).trans ((RF.leaves_ctx c ?_ ?_ ?_ _ _ c).trans
      ((RF.leaves_ctx c ?_ ?_ ?_).raise _ c)))).trans (s.ctxSettle_busy c op 0) <;> decide
  · exact (State.emit_ctx _ _ _ _ _ (by decide)).trans (State.rd_wr_self _ _ _ _ _ (by decide) (by decide))
theorem State.ctxDone_rd {g : RF} (hg : g.ofCtx = true) (hb : CTX.STATUS.BUSY.beside g = true) (hd : CTX.STATUS.DONE.beside g = true)
    (hr : CTX.STATUS.RCODE.beside g = true) : (s.ctxDone c op 0).rd g c = s.rd g c :=
  (State.emit_ctx _ _ _ _ _ hg).trans ((RF.leaves_ctx c (by decide) hg hr _ _ c).trans
    (((RF.leaves_ctx c (by decide) hg hd).raise _ c).trans (s.ctxSettle_rd c op 0 hg hb)))
end

/-! ### The start of a frame -/

section
variable (s : State) (c : Nat)
theorem State.writeParts_calm (l : List (Nat × Nat)) (d : List Nat) : (s.writeParts l d).calm = s.calm := by
  induction l generalizing s d with
  | nil => rfl
  | cons r l ih => exact (ih _ _).trans (s.writeMem_calm r.1 _)
/-- The state of a frame's start leaves the registers that accesses leave. -/
theorem State.startState_rd {g : RF} {k l : Nat} (hg : g.calm k l = true) : (s.startState c).1.rd g k l = s.rd g k l := by
  have he := s.eccFind_calm (0x10 + s.engOf (s.rd CTX.CFG.BASE c)) 0 ueRead (s.badWords (s.copyParts c false))
  unfold State.startState State.eccScan
  split
  next u x h =>
    rw [h] at he
    exact State.calm_rd he g k l hg
  next u h =>
    rw [h] at he
    refine ((State.updCx_rd _ _ _ _ _ _).1.trans (State.calm_rd (s := u) ?_ g k l hg)).trans (State.calm_rd he g k l hg)
    exact (State.writeParts_calm _ _ _).trans ((State.writeParts_calm _ _ _).trans rfl)
/-- A frame of a context outside lock step starts: the number moves on, and the frame is active. -/
theorem State.startFrame_shows (t : Trig) (ht : t.copy = none) (hlock : s.flag TWN.CFG.EN = false) :
    (s.startFrame c t).flag CTX.STATUS.FRAME_ACTIVE c = true ∧ (s.startFrame c t).rd CTX.FRAME.FRAME c = (s.rd CTX.FRAME.FRAME c + 1) % 2 ^ 32 ∧
    ((s.startFrame c t).cx c).frame.isSome = true := by
  have hrd : ∀ (u : State) (code : Option Nat) (g : RF) (k : Nat), g.calm k 0 = true →
      (if code = none then u.startState c else (u, false)).1.rd g k = u.rd g k := fun u code g k hg => by
    split
    · exact u.startState_rd c hg
    · rfl
  have hno : ∀ u : State, u.rd TWN.CFG.EN = s.rd TWN.CFG.EN → u.lockStep c = false := fun u h => by
    rw [State.lockStep, State.flag_of_leaves h, hlock, Bool.and_false]
  unfold State.startFrame
  rw [ht]
  dsimp only
  rw [hno]
  · simp only [Bool.false_and, Bool.false_eq_true, if_false]
    refine ⟨State.flag_raise _ _ _ _ (by decide), ?_, ?_⟩
    · rw [(RF.leaves_ctx c (by decide) (by decide) (by decide)).raise, (State.updCx_rd _ _ _ _ _ _).1, hrd _ _ _ _ (RF.calm_ctx c (by decide))]
      exact State.rd_wr_self _ _ _ _ _ (by decide) (by decide)
    · rw [State.raise_cx, State.updCx_same]
      rfl
  · rw [(State.updCx_rd _ _ _ _ _ _).1, hrd _ _ _ _ (by decide)]
    refine State.rd_wr_apart _ _ _ _ _ _ _ _ ⟨⟨?_, nofun⟩, nofun⟩
    simp only [RF.addr, CTX.FRAME.FRAME, TWN.CFG.EN]
    omega
end

/-! ### The instructions of context commands -/

section
variable (s : State) (m c : Fin 64)
theorem exec_ctxLoad : exec (.ctxLoad m c) s = .next (s.ctxCmdWrite m c 1 false) := rfl
theorem exec_ctxArm (fresh : Bool) : exec (.ctxArm m c fresh) s = .next (s.ctxCmdWrite m c 2 fresh) := rfl
theorem exec_ctxUnload : exec (.ctxUnload m c) s = .next (s.ctxCmdWrite m c 5 false) := rfl
theorem exec_ctxSnap : exec (.ctxSnap m c) s = .next (s.ctxCmdWrite m c 6 false) := rfl
theorem exec_ctxRestore : exec (.ctxRestore m c) s = .next (s.ctxCmdWrite m c 7 false) := rfl
end

/-- A command that waits for its completion keeps its context busy, and changes no other register. -/
theorem State.ctxCmdWrite_takes {s : State} {m op : Nat} {c : Nat} {fresh : Bool} (hw : MayWrite s m (CTX.CMD.OP.addr c) true)
    (h : Accepts s c op fresh) (h3 : op ≠ 3) (h4 : op ≠ 4) (h8 : op ≠ 8) :
    (s.ctxCmdWrite m c op fresh).flag CTX.STATUS.BUSY c = true ∧
    ((s.ctxCmdWrite m c op fresh).cx c).cmd = some { op := op, fresh := fresh, at_ := s.dtime } ∧
    OnlyRegs s (s.ctxCmdWrite m c op fresh) [CTX.STATUS.BUSY.addr c] := by
  have hop := h.op_range
  obtain ⟨hregs, hctxs, -⟩ := s.ctxCmdWrite_state c (fresh := fresh) (op := op) hw (by omega)
  have e := State.ctxCommand_accepted h
  rw [if_neg h8, if_neg h3, if_neg h4] at e
  rw [e] at hregs hctxs
  obtain ⟨hbusy, hcx, hregs'⟩ := s.ctxTake_shows c op fresh
  exact ⟨(State.regs_flag hregs _ c 0).trans hbusy, congrArg CtxH.cmd ((State.cx_congr hctxs c).trans hcx), onlyRegs_of_regs hregs' hregs⟩

/-- Settles O37: a command that its context's state accepts is kept, DISARM and ABORT act at once, START starts a frame, and a busy context refuses. -/
theorem contextCommandsAccepted : Obligations.ContextCommandsAccepted := by
  unfold Obligations.ContextCommandsAccepted
  refine ⟨?load, ?arm, ?disarm, ?abort, ?unload, ?snap, ?restore, ?start, ?refused⟩
  case load =>
    intro s m c hw hfw hidle hst
    obtain ⟨hbusy, hcmd, hregs⟩ := State.ctxCmdWrite_takes (op := 1) (fresh := false) hw ⟨hfw, nofun, hidle, by
      rcases Nat.le_one_iff_eq_zero_or_eq_one.mp hst with h | h <;> rw [h] <;> rfl⟩ (by decide) (by decide) (by decide)
    exact ⟨_, exec_ctxLoad s m c, hbusy, by rw [hcmd]; rfl, hregs⟩
  case arm =>
    intro s m c fresh hw hfw hrun hpwr hidle hst hfresh
    obtain ⟨hbusy, hcmd, hregs⟩ := State.ctxCmdWrite_takes (op := 2) hw ⟨hfw, fun _ => ⟨hrun, hpwr, hfresh⟩, hidle, by rw [hst]; rfl⟩ (by decide)
      (by decide) (by decide)
    exact ⟨_, exec_ctxArm s m c fresh, hbusy, by rw [hcmd]; rfl, hregs⟩
  case disarm =>
    intro s m c hw hfw hidle hst
    obtain ⟨hregs, hctxs, -⟩ := s.ctxCmdWrite_state c (fresh := false) (op := 3) hw (by decide)
    rw [State.ctxCommand_accepted (op := 3) (fresh := false) ⟨hfw, nofun, hidle, by rw [hst]; rfl⟩, if_neg (by decide), if_pos rfl] at hregs hctxs
    obtain ⟨hbusy, -, hregs'⟩ := s.ctxTake_shows c 3 false
    refine ⟨s.ctxCmdWrite m c 3 false, rfl, (State.regs_flag hregs _ c 0).trans hbusy, ?_, onlyRegs_of_regs hregs' hregs⟩
    rw [State.cx_congr hctxs]
    exact congrArg CtxH.disarm (State.updCx_same (s.ctxTake c 3 false) c _)
  case abort =>
    intro s m c f hw hfw hidle hst hf hend
    obtain ⟨hregs, hctxs, -⟩ := s.ctxCmdWrite_state c (fresh := false) (op := 4) hw (by decide)
    rw [State.ctxCommand_accepted (op := 4) (fresh := false) ⟨hfw, nofun, hidle, by rw [hst]; rfl⟩, if_neg (by decide), if_neg (by decide), if_pos rfl] at hregs hctxs
    obtain ⟨hbusy, hcx, -⟩ := s.ctxTake_shows c 4 false
    have hcx' := State.cx_congr hctxs c
    refine ⟨s.ctxCmdWrite m c 4 false, rfl, (State.regs_flag hregs _ c 0).trans ?_, (State.regs_flag hregs _ c 0).trans ?_, ?_, ?_⟩
    · refine (State.flag_of_leaves ((RF.leaves_ctx c ?_ ?_ ?_).clear _ c)).trans hbusy <;> decide
    · exact State.flag_clear _ _ _ _ (by decide)
    · rw [hcx', State.clear_cx, State.updCx_same]
      dsimp only
      rw [State.failFrame, State.updFrame_same, hcx]
      simp [hf, hend]
    · rw [hcx', State.clear_cx, State.updCx_same]
  case unload =>
    intro s m c hw hfw hidle hst
    obtain ⟨hbusy, hcmd, hregs⟩ := State.ctxCmdWrite_takes (op := 5) (fresh := false) hw ⟨hfw, nofun, hidle, by rw [hst]; rfl⟩ (by decide) (by decide)
      (by decide)
    exact ⟨_, exec_ctxUnload s m c, hbusy, by rw [hcmd]; rfl, hregs⟩
  case snap =>
    intro s m c hw hfw hidle hst
    obtain ⟨hbusy, hcmd, hregs⟩ := State.ctxCmdWrite_takes (op := 6) (fresh := false) hw ⟨hfw, nofun, hidle, by
      rcases hst with hst | hst <;> rw [hst] <;> rfl⟩ (by decide) (by decide) (by decide)
    exact ⟨_, exec_ctxSnap s m c, hbusy, by rw [hcmd]; rfl, hregs⟩
  case restore =>
    intro s m c hw hfw hidle hst
    obtain ⟨hbusy, hcmd, hregs⟩ := State.ctxCmdWrite_takes (op := 7) (fresh := false) hw ⟨hfw, nofun, hidle, by rw [hst]; rfl⟩ (by decide) (by decide)
      (by decide)
    exact ⟨_, exec_ctxRestore s m c, hbusy, by rw [hcmd]; rfl, hregs⟩
  case start =>
    intro s m c hw hfw hidle hst hdis hf hrun hav htwn
    obtain ⟨hregs, hctxs, -⟩ := s.ctxCmdWrite_state c (fresh := false) (op := 8) hw (by decide)
    rw [State.ctxCommand_accepted (op := 8) (fresh := false) ⟨hfw, nofun, hidle, by rw [hst]; rfl⟩, if_pos rfl] at hregs hctxs
    have ht : (s.trigger c { stamp := s.dtime, slot := 0, tbState := 0, cmd := true }).1 =
        s.startFrame c { stamp := s.dtime, slot := 0, tbState := 0, cmd := true } := by
      simp [State.trigger, hst, hdis, hav, hrun, hf, State.lockStep, htwn]
    rw [ht] at hregs hctxs
    obtain ⟨hact, hnum, hframe⟩ := s.startFrame_shows c { stamp := s.dtime, slot := 0, tbState := 0, cmd := true } rfl htwn
    obtain ⟨hcx, hdone, -, hrc⟩ := (s.startFrame c { stamp := s.dtime, slot := 0, tbState := 0, cmd := true }).ctxDone_shows c 8
    have hkeep := fun (g : RF) hg hb hd hr => (s.startFrame c { stamp := s.dtime, slot := 0, tbState := 0, cmd := true }).ctxDone_rd c 8 (g := g) hg hb hd hr
    refine ⟨s.ctxCmdWrite m c 8 false, rfl, (State.regs_flag hregs _ c 0).trans ((State.flag_of_leaves (hkeep _ ?_ ?_ ?_ ?_)).trans hact),
      (State.regs_rd hregs _ c 0).trans ((hkeep _ ?_ ?_ ?_ ?_).trans hnum), ?_, (State.regs_flag hregs _ c 0).trans hdone,
      (State.regs_rd hregs _ c 0).trans hrc⟩
    case refine_9 => rw [State.cx_congr hctxs, hcx]; exact hframe
    all_goals decide
  case refused =>
    intro s m c fresh hw hfw hrun hpwr hbusy hroom
    obtain ⟨hregs, hctxs, hrecd⟩ := s.ctxCmdWrite_state c (fresh := fresh) (op := 2) hw (by decide)
    have e : s.ctxCommand c 2 fresh = s.ctxRefuse c 2 12 := by simp [State.ctxCommand, hfw, hrun, hpwr, hbusy]
    rw [e] at hregs hctxs hrecd
    obtain ⟨href, hrc, hcx, hnoted⟩ := s.ctxRefuse_shows c 2 12
    obtain ⟨x, hx, hcode⟩ := hnoted hroom
    exact ⟨_, exec_ctxArm s m c fresh, (State.regs_flag hregs _ c 0).trans href, (State.regs_rd hregs _ c 0).trans hrc, hctxs.trans hcx, x, by
      rwa [hrecd], hcode⟩
end Sys2Proof.Machine
end

section
/-!
SUPPORT. The completion of context commands and the end of frames (R201, R207, R215 to R218, R270, R274, R275); O38.
-/
namespace Sys2Proof.Machine
-- One proof at a time: each thread of its own costs a stack and an arena of the check's memory.
set_option Elab.async false
open Sys2Proof.Safety

/-! ### The plan -/

section
variable (s : State) (c : Nat)
@[simp] theorem State.put_cx (f : RF) (b : Bool) (i j : Nat) : (s.put f b i j).cx c = s.cx c := State.cx_congr (by simp) c
@[simp] theorem State.raiseIf_cx (b : Bool) (f : RF) (i j : Nat) : (s.raiseIf b f i j).cx c = s.cx c := State.cx_congr (by simp) c
@[simp] theorem State.incWrap_cx (f : RF) (i j n : Nat) : (s.incWrap f i j n).cx c = s.cx c := State.cx_congr (by simp) c
/-- A new plan changes the protection of contexts alone. -/
theorem State.replan_cx : ∃ b, s.replan.cx c = { s.cx c with isProtected := b } := by
  have h : { s.replan.cx c with isProtected := false } = { s.cx c with isProtected := false } := by
    unfold State.replan
    dsimp only
    rw [State.wr_cx]
    refine State.forEach_view (fun u => { u.cx c with isProtected := false }) _ _ (fun u x _ => ?_) s
    have hx : ∀ y : Bool, { (u.updCx x fun h => { h with isProtected := y }).cx c with isProtected := false } = { u.cx c with isProtected := false } :=
      fun y => by
        rcases eq_or_ne c x with rfl | hne
        · rw [State.updCx_same]
        · rw [State.updCx_other _ _ _ hne]
    split
    · rw [State.raise_cx, State.emit_cx, State.put_cx]
      exact hx _
    · rw [State.put_cx]
      exact hx _
  exact ⟨(s.replan.cx c).isProtected, congrArg (fun h : CtxH => { h with isProtected := (s.replan.cx c).isProtected }) h⟩
/-- A new plan leaves the registers of contexts beside UNPROTECTED. -/
theorem State.replan_ctx {g : RF} (hg : g.ofCtx = true) (hb : CTX.STATUS.UNPROTECTED.beside g = true) : s.replan.rd g c = s.rd g c := by
  have hwin := hg
  simp only [RF.ofCtx, Bool.and_eq_true, beq_iff_eq, decide_eq_true_eq] at hwin
  obtain ⟨⟨⟨hg1, hg2⟩, hgb⟩, hge⟩ := hwin
  refine s.replan_rd (RF.leaves_ctx c (by decide) hg hb) (RF.leaves_of_apart fun i => ?_) (RF.leaves_of_apart fun i => ?_) (RF.quiet_ctx c hg) <;>
    simp only [RF.apart, RF.off, RF.addr, hg1, hg2, INF.STATUS.DEMOTE, INF.STATUS.UNPROT] <;> omega
end

/-! ### What the end of a frame needs of its context -/

/-- The clock, and of a context its latched trigger, its command, its program and the trigger of its frame. -/
def State.frameView (s : State) (c : Nat) : Nat × Option Trig × Option CtxCmdH × Option Prog × Option Trig :=
  (s.dtime, (s.cx c).latched, (s.cx c).cmd, (s.cx c).prog, (s.cx c).frame.map (·.trig))
section
variable (s : State) (c : Nat)
theorem State.frameView_congr {s t : State} (hd : t.dtime = s.dtime) (hc : t.ctxs = s.ctxs) : t.frameView c = s.frameView c := by
  rw [State.frameView, hd, State.cx_congr hc, State.frameView]
theorem State.calm_frameView {s t : State} (h : t.calm = s.calm) : t.frameView c = s.frameView c :=
  State.frameView_congr c (State.calm_dtime h) (State.calm_ctxs h)
@[simp] theorem State.wr_frameView (f : RF) (v i j : Nat) : (s.wr f v i j).frameView c = s.frameView c := State.frameView_congr c (by simp) (by simp)
@[simp] theorem State.raise_frameView (f : RF) (i j : Nat) : (s.raise f i j).frameView c = s.frameView c := State.frameView_congr c (by simp) (by simp)
@[simp] theorem State.clear_frameView (f : RF) (i j : Nat) : (s.clear f i j).frameView c = s.frameView c := State.frameView_congr c (by simp) (by simp)
@[simp] theorem State.put_frameView (f : RF) (b : Bool) (i j : Nat) : (s.put f b i j).frameView c = s.frameView c :=
  State.frameView_congr c (by simp) (by simp)
@[simp] theorem State.raiseIf_frameView (b : Bool) (f : RF) (i j : Nat) : (s.raiseIf b f i j).frameView c = s.frameView c :=
  State.frameView_congr c (by simp) (by simp)
@[simp] theorem State.incWrap_frameView (f : RF) (i j n : Nat) : (s.incWrap f i j n).frameView c = s.frameView c :=
  State.frameView_congr c (by simp) (by simp)
@[simp] theorem State.emit_frameView (code source : Nat) (payload : List Nat) : (s.emit code source payload).frameView c = s.frameView c :=
  State.frameView_congr c (by simp) (by simp)
theorem State.updFrame_frameView (x : Nat) (f : Frame → Frame) (h : ∀ k, (f k).trig = k.trig) : (s.updFrame x f).frameView c = s.frameView c := by
  rcases eq_or_ne c x with rfl | hne
  · simp only [State.frameView, State.updFrame, State.updCx_same, Option.map_map]
    have e : (fun k : Frame => k.trig) ∘ f = fun k => k.trig := funext h
    rw [e]
    rfl
  · rw [State.frameView, State.updFrame, State.updCx_other _ _ _ hne]
    rfl

/-! ### Queues drained and tiles dropped -/

@[simp] theorem State.qTake1_frameView (q : Nat) : (s.qTake1 q).frameView c = s.frameView c := by simp [State.qTake1]
@[simp] theorem State.qRetireN_frameView (q n : Nat) : (s.qRetireN q n).frameView c = s.frameView c :=
  State.frameView_congr c (by simp [State.qRetireN]) (by simp [State.qRetireN, State.qCredits])
theorem State.times_frameView {f : State → State} (h : ∀ u, (f u).frameView c = u.frameView c) (n : Nat) : (s.times n f).frameView c = s.frameView c := by
  induction n generalizing s with
  | zero => rfl
  | succ n ih => exact (ih (f s)).trans (h s)
theorem State.drainQueues_frameView (x : Nat) : (s.drainQueues x).frameView c = s.frameView c := by
  refine State.forEach_view (fun u => u.frameView c) _ _ (fun u q _ => ?_) s
  refine (State.updFrame_frameView _ c x _ (by exact fun _ => rfl)).trans ?_
  rw [State.raise_frameView, State.qRetireN_frameView, State.times_frameView _ _ fun v => v.qTake1_frameView c q]
theorem State.updEn_frameView (p : Nat) (f : EngH → EngH) : (s.updEn p f).frameView c = s.frameView c := rfl
theorem State.chargeTile_frameView (x : TileH) (start : Nat) : (s.chargeTile x start).frameView c = s.frameView c :=
  s.updFrame_frameView c x.ctx _ fun _ => rfl
theorem State.dropEngine_frameView (p : Nat) (keep : TileH → Bool) : (s.dropEngine p keep).frameView c = s.frameView c := by
  have hcount : (s.engCount p).frameView c = s.frameView c := rfl
  unfold State.dropEngine State.engShow
  rw [State.wr_frameView, State.updEn_frameView]
  split
  · split
    · rfl
    · exact (State.chargeTile_frameView _ c _ _).trans hcount
  · rfl
theorem State.dropTiles_frameView (x : Nat) : (s.dropTiles x).frameView c = s.frameView c := by
  refine State.forEach_view (fun u => u.frameView c) _ _ (fun u p _ => ?_) s
  split
  · exact u.dropEngine_frameView c p _
  · rfl

/-! ### Writes of a master -/

theorem State.writeFields_ctxs (a v : Nat) : (s.writeFields a v).1.ctxs = s.ctxs := by
  rcases s.writeFields_fst a v with e | ⟨w, e⟩
  · rw [e]
  · rw [e]
    rfl
theorem State.writePlain_ctxs (a v : Nat) : (s.writePlain a v).1.ctxs = s.ctxs := by
  unfold State.writePlain
  split
  · rfl
  · split
    · exact s.writeFields_ctxs a v
    · split <;> rfl
    · exact (State.writeFields_ctxs _ _ _).trans (s.writeFields_ctxs _ _)
theorem State.fxQCfg_ctxs (q v : Nat) : (s.fxQCfg q v).1.ctxs = s.ctxs := by
  unfold State.fxQCfg
  split
  · simp
  · split
    · simp
    · simp [State.writeFields_ctxs]
theorem State.fxQBaseHi_ctxs (q v : Nat) : (s.fxQBaseHi q v).1.ctxs = s.ctxs := by
  unfold State.fxQBaseHi
  split
  · simp
  · exact s.writePlain_ctxs _ _
theorem State.times_ctxs {f : State → State} (h : ∀ u, (f u).ctxs = u.ctxs) (n : Nat) : (s.times n f).ctxs = s.ctxs := by
  induction n generalizing s with
  | zero => rfl
  | succ n ih => exact (ih (f s)).trans (h s)
theorem State.qPosted1_ctxs (q : Nat) : (s.qPosted1 q).ctxs = s.ctxs := by simp [State.qPosted1, State.qCredits]
theorem State.qTake1_ctxs (q : Nat) : (s.qTake1 q).ctxs = s.ctxs := by simp [State.qTake1]
theorem State.qRetireN_ctxs (q n : Nat) : (s.qRetireN q n).ctxs = s.ctxs := by simp [State.qRetireN, State.qCredits]
theorem State.qPutSw_ctxs (m q : Nat) : (s.qPutSw m q).ctxs = s.ctxs := by
  rw [State.qPutSw, State.qPosted1_ctxs]
  exact (State.calm_ctxs (State.memWrite_calm _ _ _ _)).trans (State.calm_ctxs (s.memWrite_calm _ _ _))
theorem State.qOp_ctxs (m q n cmd : Nat) : (s.qOp m q n cmd).ctxs = s.ctxs := by
  unfold State.qOp
  split
  · rfl
  split
  · simp
  split
  · split
    · simp
    · exact s.times_ctxs (fun u => u.qPutSw_ctxs m q) n
  split
  · split
    · simp
    · exact s.times_ctxs (fun u => u.qTake1_ctxs q) n
  split
  · simp
  · exact s.qRetireN_ctxs q n
theorem State.regWrite_ctxs (m a v : Nat) : (s.regWrite m a v).1.ctxs = s.ctxs := by
  unfold State.regWrite
  split
  · dsimp only
    split
    · exact s.fxQCfg_ctxs _ v
    · exact s.fxQBaseHi_ctxs _ v
    · exact s.qOp_ctxs m _ _ _
    · exact s.writePlain_ctxs a v
  split
  · change (s.logViolation m a 4 _).ctxs = s.ctxs
    exact State.calm_ctxs (s.logViolation_calm m a 4 _)
  split
  · dsimp only
    split
    · unfold State.fxAtWin
      split
      · rfl
      · exact s.writeFields_ctxs a v
    · exact s.writePlain_ctxs a v
  · rfl
theorem State.writePiece_ctxs (m a : Nat) (d : List Nat) : (s.writePiece m a d).1.ctxs = s.ctxs := by
  unfold State.writePiece
  split
  · exact State.calm_ctxs (s.logViolation_calm m a d.length _)
  split
  · exact s.regWrite_ctxs m a _
  · exact State.calm_ctxs (s.memWrite_calm m a d)
theorem State.writePieces_ctxs (m : Nat) (d : List Nat) (l : List (Nat × Nat)) : (s.writePieces m d l).1.ctxs = s.ctxs := by
  induction l generalizing s d with
  | nil => rfl
  | cons p l ih =>
    have hp := s.writePiece_ctxs m p.1 (d.take p.2)
    unfold State.writePieces
    split
    next u x hu =>
      rw [hu] at hp
      exact (ih u _).trans hp
    next u r _ hu => rwa [hu] at hp
/-- A master's write, into memory or registers, leaves the contexts. -/
theorem State.masterWrite_frameView (m a : Nat) (d : List Nat) : (s.masterWrite m a d).1.frameView c = s.frameView c :=
  State.frameView_congr c (s.masterWrite_keep m a d).1 (s.writePieces_ctxs m d _)

/-! ### The record of a frame -/

theorem State.writeCopy_frameView (x : Nat) (work : Bool) (d : List Nat) : (s.writeCopy x work d).frameView c = s.frameView c :=
  State.calm_frameView c (s.writeParts_calm _ d)
theorem State.showFill_frameView (x : Nat) (p : Prog) : (s.showFill x p).frameView c = s.frameView c := by
  unfold State.showFill
  dsimp only
  split <;> simp
theorem State.quantReport_frameView (x : Nat) (p : Prog) (f : Frame) : (s.quantReport x p f).frameView c = s.frameView c := by
  unfold State.quantReport
  dsimp only
  split <;> simp
theorem State.frameTrace_frameView (x code : Nat) (p : Prog) (f : Frame) (dig : List Nat) : (s.frameTrace x code p f dig).frameView c = s.frameView c := by
  unfold State.frameTrace
  split
  · split
    · simp
    · simp [State.masterWrite_frameView]
  · rfl
theorem State.frameHeld_frameView (x : Nat) (p : Prog) (f : Frame) : (s.frameHeld x p f).frameView c = s.frameView c :=
  State.forEach_view (fun u => u.frameView c) _ _ (fun u _ _ => u.masterWrite_frameView c _ _ _) s
theorem State.flip_frameView (x : Nat) : (s.updCx x fun h => { h with flip := !h.flip }).frameView c = s.frameView c := by
  rcases eq_or_ne c x with rfl | hne
  · rw [State.frameView, State.updCx_same]
    rfl
  · rw [State.frameView, State.updCx_other _ _ _ hne]
    rfl
theorem State.frameOut_frameView (x code fl : Nat) (p : Prog) (f : Frame) (dig : List Nat) : (s.frameOut x code fl p f dig).frameView c = s.frameView c := by
  unfold State.frameOut
  dsimp only
  have hheld : ∀ b : Bool, (if b = true then s.frameHeld x p f else s).frameView c = s.frameView c := fun b => by
    split
    · exact s.frameHeld_frameView c x p f
    · rfl
  rw [State.frameTrace_frameView, State.quantReport_frameView]
  split
  · rw [State.showFill_frameView, State.flip_frameView, State.writeCopy_frameView, State.masterWrite_frameView, hheld]
  · rw [State.masterWrite_frameView, hheld]
/-- The registers of a frame's end, as they are written. -/
def State.lastRegs (s : State) (c code fl : Nat) (f : Frame) : State :=
  let s := (s.wr CTX.LAST_CODE.CODE code c).wr CTX.LAST_CODE.FLAGS fl c
  let s := (s.wr CTX.LAST_TRIG f.trig.stamp c).wr CTX.LAST_DONE s.dtime c
  let cm := f.clks.foldl max 0
  (s.wr CTX.CLK_LAST.CLK cm c).wr CTX.CLK_MAX.CLK (max cm (s.rd CTX.CLK_MAX.CLK c)) c
theorem State.frameRegs_eq (code fl : Nat) (f : Frame) : s.frameRegs c code fl f =
    if code == 0 then s.lastRegs c code fl f else (s.lastRegs c code fl f).emit 0x0602 (srcContext c) (le 4 f.num ++ [code] ++ le 2 fl) := rfl
theorem State.lastRegs_shows (code fl : Nat) (f : Frame) :
    (s.lastRegs c code fl f).rd CTX.LAST_CODE.CODE c = code % 2 ^ 8 ∧ (s.lastRegs c code fl f).rd CTX.LAST_TRIG c = f.trig.stamp % 2 ^ 64 ∧
    (s.lastRegs c code fl f).rd CTX.LAST_DONE c = s.dtime % 2 ^ 64 ∧ (s.lastRegs c code fl f).frameView c = s.frameView c := by
  refine ⟨?_, ?_, ?_, by simp [State.lastRegs]⟩
  · simp +decide [State.lastRegs, State.rd_wr_of_beside, State.rd_wr_self]
    rfl
  · simp +decide [State.lastRegs, State.rd_wr_of_beside, State.rd_wr_pair]
  · simp +decide [State.lastRegs, State.rd_wr_of_beside, State.rd_wr_pair]
theorem State.frameRegs_shows (code fl : Nat) (f : Frame) :
    (s.frameRegs c code fl f).rd CTX.LAST_CODE.CODE c = code % 256 ∧ (s.frameRegs c code fl f).rd CTX.LAST_TRIG c = f.trig.stamp % 2 ^ 64 ∧
    (s.frameRegs c code fl f).rd CTX.LAST_DONE c = s.dtime % 2 ^ 64 ∧ (s.frameRegs c code fl f).frameView c = s.frameView c := by
  obtain ⟨hcode, htrig, hdone, hview⟩ := s.lastRegs_shows c code fl f
  rw [State.frameRegs_eq]
  split
  · exact ⟨hcode, htrig, hdone, hview⟩
  · rw [State.emit_ctx _ _ _ _ c (by decide), State.emit_ctx _ _ _ _ c (by decide), State.emit_ctx _ _ _ _ c (by decide), State.emit_frameView]
    exact ⟨hcode, htrig, hdone, hview⟩

/-! ### The descriptor, and the frame that leaves -/

/-- Registers of queues lie beyond those of contexts. -/
theorem RF.leaves_queue {f g : RF} {k : Nat} (hk : k < 64) (hg : g.ofCtx = true) (hf : 0x2030000000 ≤ f.base) : f.leaves g k := by
  simp only [RF.ofCtx, Bool.and_eq_true, beq_iff_eq, decide_eq_true_eq] at hg
  obtain ⟨⟨⟨hg1, hg2⟩, hgb⟩, hge⟩ := hg
  refine RF.leaves_of_apart fun i => ?_
  simp only [RF.apart, RF.off, RF.addr, hg1, hg2]
  split at hge <;> omega
theorem State.qPosted1_ctx (q : Nat) {g : RF} (hc : c < 64) (hg : g.ofCtx = true) : (s.qPosted1 q).rd g c = s.rd g c := by
  have h : ∀ (f : RF), 0x2030000000 ≤ f.base → ∀ (u : State) (v : Nat), (u.wr f v q).rd g c = u.rd g c := fun f hf u v =>
    RF.leaves_queue hc hg hf u v q
  exact (h Q.CREDITS.CREDITS (by decide) _ _).trans ((h Q.LAST_POST (by decide) _ _).trans ((h Q.POSTS.SEQ (by decide) _ _).trans
    ((h Q.SLOTS.POST_SLOT (by decide) _ _).trans (h Q.PROD.PROD (by decide) s _))))
theorem State.qPostHw_ctx (q : Nat) (d : Desc) {g : RF} (hc : c < 64) (hg : g.ofCtx = true) : (s.qPostHw q d).1.rd g c = s.rd g c := by
  have h : ∀ (f : RF), 0x2030000000 ≤ f.base → ∀ (u : State) (v : Nat), (u.wr f v q).rd g c = u.rd g c := fun f hf u v =>
    RF.leaves_queue hc hg hf u v q
  have hcalm := RF.calm_ctx c hg
  unfold State.qPostHw
  split
  · exact (State.calm_rd (State.emitMerge_calm _ _ _ _) g c 0 hcalm).trans ((h Q.STATUS.DROP_CNT (by decide) _ _).trans (h _ (by decide) s 1))
  split
  · exact (State.calm_rd (State.emitMerge_calm _ _ _ _) g c 0 hcalm).trans ((h Q.STATUS.DROP_CNT (by decide) _ _).trans (h _ (by decide) s 1))
  · exact (State.qPosted1_ctx _ c q hc hg).trans (State.calm_rd (s.memWrite_calm _ _ _) g c 0 hcalm)
theorem State.qPostHw_frameView (q : Nat) (d : Desc) : (s.qPostHw q d).1.frameView c = s.frameView c := by
  unfold State.qPostHw
  split
  · exact (State.calm_frameView c (State.emitMerge_calm _ _ _ _)).trans (by simp [State.incSat])
  split
  · exact (State.calm_frameView c (State.emitMerge_calm _ _ _ _)).trans (by simp [State.incSat])
  · exact (State.frameView_congr c (by simp [State.qPosted1, State.qCredits]) (State.qPosted1_ctxs _ q)).trans (State.calm_frameView c (s.memWrite_calm _ _ _))
theorem State.frameDesc_leaves (code fl : Nat) (f : Frame) (hc : c < 64) :
    (s.frameDesc c code fl f).frameView c = s.frameView c ∧ ∀ g : RF, g.ofCtx = true → (s.frameDesc c code fl f).rd g c = s.rd g c :=
  ⟨s.qPostHw_frameView c _ _, fun _ hg => s.qPostHw_ctx c _ _ hc hg⟩
/-- Without a command and a latched trigger the frame leaves its context, and nothing follows. -/
theorem State.frameNext_idle (num : Nat) (hl : (s.cx c).latched = none) (hcmd : (s.cx c).cmd = none) :
    ((s.frameNext c num).cx c).frame = none ∧ (s.frameNext c num).flag CTX.STATUS.FRAME_ACTIVE c = false ∧
    ∀ g : RF, g.ofCtx = true → CTX.STATUS.FRAME_ACTIVE.beside g = true → (s.frameNext c num).rd g c = s.rd g c := by
  unfold State.frameNext
  dsimp only
  generalize hu : s.updCx c _ = u
  have hrd : ∀ g k, u.rd g k = s.rd g k := fun g k => by rw [← hu, (State.updCx_rd _ _ _ _ _ _).1]
  have hframe : (u.cx c).frame = none := by rw [← hu, State.updCx_same]
  have hul : (u.cx c).latched = none := by rw [← hu, State.updCx_same, ← hl]
  have hucmd : (u.cx c).cmd = none := by rw [← hu, State.updCx_same, ← hcmd]
  have hsnap : (u.clear CTX.STATUS.FRAME_ACTIVE c).frameSnap c = u.clear CTX.STATUS.FRAME_ACTIVE c := by
    rw [State.frameSnap, State.clear_cx, hucmd]
  rw [hsnap, State.clear_cx, hul]
  exact ⟨by rw [State.clear_cx, hframe], State.flag_clear _ _ _ _ (by decide), fun g hg hb =>
    ((RF.leaves_ctx c (by decide) hg hb).clear u c).trans (hrd g c)⟩

/-- The end of a frame of a context without a command and a latched trigger. -/
theorem State.frameFinish_shows (code : Nat) (dig : Option (List Nat)) {p : Prog} {trig : Trig} (hc : c < 64)
    (hv : s.frameView c = (s.dtime, none, none, some p, some trig)) :
    ((s.frameFinish c code dig).cx c).frame = none ∧ (s.frameFinish c code dig).flag CTX.STATUS.FRAME_ACTIVE c = false ∧
    (s.frameFinish c code dig).rd CTX.LAST_CODE.CODE c = code % 256 ∧ (s.frameFinish c code dig).rd CTX.LAST_TRIG c = trig.stamp % 2 ^ 64 ∧
    (s.frameFinish c code dig).rd CTX.LAST_DONE c = s.dtime % 2 ^ 64 := by
  have hu := (((s.drainQueues c).dropTiles_frameView c c).trans (s.drainQueues_frameView c c)).trans hv
  unfold State.frameFinish
  generalize (s.drainQueues c).dropTiles c = u at hu
  simp only [State.frameView, Prod.mk.injEq, Option.map_eq_some_iff] at hu
  obtain ⟨hd, hl, hcmd, hprog, f, hf, htrig⟩ := hu
  unfold State.frameWrap
  rw [hprog, hf]
  dsimp only
  generalize hf' : ({ f with clipCnt := _ } : Frame) = f'
  generalize frameFlags f' u.dtime dig.isSome = fl
  have htrig' : f'.trig = trig := by rw [← hf', ← htrig]
  have hout := u.frameOut_frameView c c code fl p f' (dig.getD [])
  generalize u.frameOut c code fl p f' (dig.getD []) = v at hout
  obtain ⟨hcode, hlast, hdone, hregs⟩ := v.frameRegs_shows c code fl f'
  obtain ⟨hdesc, hkeep⟩ := (v.frameRegs c code fl f').frameDesc_leaves c code fl f' hc
  have hview := (hdesc.trans hregs).trans hout
  simp only [State.frameView, Prod.mk.injEq] at hview hout
  obtain ⟨-, hl', hcmd', -⟩ := hview
  obtain ⟨hframe, hact, hrd⟩ := State.frameNext_idle _ c f.num (hl'.trans hl) (hcmd'.trans hcmd)
  refine ⟨hframe, hact, ?_, ?_, ?_⟩
  · rw [hrd _ (by decide) (by decide), hkeep _ (by decide), hcode]
  · rw [hrd _ (by decide) (by decide), hkeep _ (by decide), hlast, htrig']
  · rw [hrd _ (by decide) (by decide), hkeep _ (by decide), hdone, hout.1, hd]
end

/-! ### Commands that complete -/

section
variable (s : State) (c : Nat)
theorem State.ctxUnloadDo_shows : (s.ctxUnloadDo c).rd CTX.STATUS.STATE c = ctxFree ∧ ((s.ctxUnloadDo c).cx c).prog = none ∧
    ((s.ctxUnloadDo c).cx c).places = [] := by
  unfold State.ctxUnloadDo
  dsimp only
  refine ⟨?_, ?_⟩
  · rw [State.replan_ctx _ c (by decide) (by decide), (RF.leaves_ctx c (by decide) (by decide) (by decide) : CTX.Q_HIST.N_Q.leaves _ c),
      (RF.leaves_ctx c (by decide) (by decide) (by decide)).clear, (RF.leaves_ctx c (by decide) (by decide) (by decide)).clear,
      State.rd_wr_self _ _ _ _ _ (by decide) (by decide)]
    rfl
  · generalize hu : State.wr _ CTX.Q_HIST.N_Q 0 c = u
    obtain ⟨b, hb⟩ := u.replan_cx c
    rw [hb, ← hu, State.wr_cx, State.clear_cx, State.clear_cx, State.wr_cx, State.updCx_same]
    exact ⟨rfl, rfl⟩
/-- Without ranges nothing is read. -/
theorem State.eccScan_nil (m : Nat) : s.eccScan m [] = (s, none) := by
  have h : s.badWords [] = [] := by simp [State.badWords, meets]
  rw [State.eccScan, h]
  rfl
end

theorem onlyRegs_updCx {s t : State} {l : List Nat} (h : OnlyRegs s t l) (c : Nat) (f : CtxH → CtxH) : OnlyRegs s (t.updCx c f) l :=
  fun a ha => h a ha
theorem State.frameCanEnd_of_code {s : State} {c : Fin 64} {p : Prog} {f : Frame} {code : Nat} (hprog : (s.cx c).prog = some p)
    (hf : (s.cx c).frame = some f) (hend : f.endCode = some code)
    (hcan : code ≠ 1 ∨ ∀ p : Fin 8, ((s.en p).tiles.any fun x => x.ctx == c) = false) : s.frameCanEnd c = true := by
  rw [State.frameCanEnd, hprog, hf]
  dsimp only
  rw [hend]
  dsimp only
  rcases hcan with h | h
  · simp [h]
  · rw [Bool.or_eq_true, List.all_eq_true]
    exact .inr fun q hq => by rw [h ⟨q, List.mem_range.mp hq⟩]; rfl

/-! ### The obligation -/

theorem traceCtrl_lockFree : ∀ c : Fin 64, lockFree (CTX.TRACE_CTRL.ARM.addr c) = true := by decide +kernel

/-- Settles O38: completed commands leave their context free, a frame's end shows its code and clears the frame, and a trace is armed where its base is
aligned. -/
theorem contextCommandsComplete : Obligations.ContextCommandsComplete := by
  unfold Obligations.ContextCommandsComplete
  refine ⟨?disarmed, ?unloaded, ?waits, ?ended, ?done, ?timeout, ?trace, ?traceUnaligned, ?twinArm⟩
  case disarmed =>
    intro s c k partner hcmd hop hf hl hfw
    obtain ⟨u, hu, hst, hdis⟩ : ∃ u : State, s.ctxComplete c partner = u.ctxDone c 3 0 ∧ u.rd CTX.STATUS.STATE c = ctxLoaded ∧ (u.cx c).disarm = false := by
      have hrun : s.ctxComplete c partner = ((((s.updCx c fun h => { h with disarm := false, places := h.places.map fun a => { a with scrLen := 0 } }).wr
          CTX.STATUS.STATE ctxLoaded c).replan).ctxDone c 3 0) := by
        simp [State.ctxComplete, hcmd, hop, hf, hl, hfw]
      refine ⟨_, hrun, ?_, ?_⟩
      · rw [State.replan_ctx _ c (by decide) (by decide), State.rd_wr_self _ _ _ _ _ (by decide) (by decide)]
        rfl
      · obtain ⟨b, hb⟩ := State.replan_cx ((s.updCx c fun h => { h with disarm := false, places := h.places.map fun a => { a with scrLen := 0 } }).wr
          CTX.STATUS.STATE ctxLoaded c) c
        rw [hb, State.wr_cx, State.updCx_same]
    obtain ⟨hcx, hdone, hbusy, -⟩ := u.ctxDone_shows c 3
    refine ⟨u.ctxDone c 3 0, congrArg Host.Outcome.next hu, ?_, hdone, hbusy, by rw [hcx], by rw [hcx]; exact hdis⟩
    rw [u.ctxDone_rd c 3 (by decide) (by decide) (by decide) (by decide), hst]
  case unloaded =>
    intro s c k partner hcmd hop hfw
    have he : s.ctxComplete c partner = (s.ctxUnloadDo c).ctxDone c 5 0 := by simp [State.ctxComplete, hcmd, hop, hfw]
    obtain ⟨hcx, hdone, hbusy, -⟩ := (s.ctxUnloadDo c).ctxDone_shows c 5
    obtain ⟨hst, hprog, hplaces⟩ := s.ctxUnloadDo_shows c
    refine ⟨_, congrArg Host.Outcome.next he, ?_, by rw [hcx]; exact hprog, by rw [hcx]; exact hplaces, hdone, hbusy⟩
    rw [State.ctxDone_rd _ c 5 (by decide) (by decide) (by decide) (by decide), hst]
  case waits =>
    intro s c partner hfw
    have he : s.ctxComplete c partner = s := by
      unfold State.ctxComplete
      split
      · rfl
      · rw [if_pos hfw]
    exact ⟨s, congrArg Host.Outcome.next he, rfl⟩
  case ended =>
    intro s c p f code hprog hf hend hcan hl hcmd hlock
    have hv : s.frameView c = (s.dtime, none, none, some p, some f.trig) := by simp [State.frameView, hprog, hf, hl, hcmd]
    obtain ⟨hframe, hact, hcode, htrig, hdone⟩ := s.frameFinish_shows c code none c.isLt hv
    have he : (if s.frameCanEnd c then s.frameEnd c else s) = s.frameFinish c code none := by
      rw [State.frameCanEnd_of_code hprog hf hend hcan]
      simp [State.frameEnd, State.frameClose, hprog, hf, hend, hlock]
    exact ⟨_, congrArg Host.Outcome.next he, hframe, hact, hcode, htrig, hdone⟩
  case done =>
    intro s c p f hprog hf hend hall hwait hl hcmd hlock hdig
    have hv : s.frameView c = (s.dtime, none, none, some p, some f.trig) := by simp [State.frameView, hprog, hf, hl, hcmd]
    obtain ⟨hframe, hact, hcode, -, hdone⟩ := s.frameFinish_shows c 0 none c.isLt hv
    have he : (if s.frameCanEnd c then s.frameEnd c else s) = s.frameFinish c 0 none := by
      have hcan : s.frameCanEnd c = true := by simpa [State.frameCanEnd, hprog, hf, hend, hwait] using hall
      rw [hcan]
      simp [State.frameEnd, State.frameClose, hprog, hf, hend, hlock, hdig, State.eccScan_nil]
    exact ⟨_, congrArg Host.Outcome.next he, hframe, hact, hcode, hdone⟩
  case timeout =>
    intro s c p f hprog hf hend hw ht hl hcmd hlock
    have hv : (s.failFrame c 6).frameView c = (s.dtime, none, none, some p, some f.trig) := by
      refine (State.updFrame_frameView _ c c _ (by exact fun _ => rfl)).trans ?_
      simp [State.frameView, hprog, hf, hl, hcmd]
    obtain ⟨hframe, hact, hcode, -⟩ := (s.failFrame c 6).frameFinish_shows c 6 none c.isLt hv
    have he : execFrameTimeout c s = .next ((s.failFrame c 6).frameFinish c 6 none) := by
      simp [execFrameTimeout, hf, hw, ht, hlock, hend]
    exact ⟨_, he, hframe, hcode, hact⟩
  case trace =>
    intro s m c v hw hv hbase
    have hok := s.writeFields_ok v.toNat (traceCtrl_lockFree c)
    obtain ⟨hregs, -, hctxs, -⟩ := busWriteWith_state (fx := fun s => s.fxTraceCtrl c v.toNat) (u := ((s.writeFields (CTX.TRACE_CTRL.ARM.addr c)
      v.toNat).1.updCx c fun h => { h with traceArmed := true }).raise CTX.TRACE_CTRL.BUSY c) hw (by simp [State.fxTraceCtrl, hv, hbase, hok])
    refine ⟨s.busWriteWith m (CTX.TRACE_CTRL.ARM.addr c) false fun s => s.fxTraceCtrl c v.toNat, rfl, ?_,
      (State.regs_flag hregs _ c 0).trans (State.flag_raise _ _ _ _ (by decide)), ?_⟩
    · rw [State.cx_congr hctxs, State.raise_cx, State.updCx_same]
    · refine onlyRegs_of_regs (onlyRegs_raise (onlyRegs_updCx (s.writeFields_onlyRegs _ _) _ _) CTX.TRACE_CTRL.BUSY c 0 ?_ (nomatch ·)) hregs
      exact List.mem_singleton.mpr rfl
  case traceUnaligned =>
    intro s m c v hw hv hbase
    have hok := s.writeFields_ok v.toNat (traceCtrl_lockFree c)
    obtain ⟨hregs, -, hctxs, -⟩ := busWriteWith_state (fx := fun s => s.fxTraceCtrl c v.toNat) (u := (s.writeFields (CTX.TRACE_CTRL.ARM.addr c)
      v.toNat).1.raise CTX.TRACE_CTRL.ERR c) hw (by simp [State.fxTraceCtrl, hv, hbase, hok])
    refine ⟨s.busWriteWith m (CTX.TRACE_CTRL.ARM.addr c) false fun s => s.fxTraceCtrl c v.toNat, rfl,
      (State.regs_flag hregs _ c 0).trans (State.flag_raise _ _ _ _ (by decide)), ?_, ?_⟩
    · rw [State.cx_congr hctxs, State.raise_cx, State.cx_congr (s.writeFields_ctxs _ _)]
    · refine onlyRegs_of_regs (onlyRegs_raise (s.writeFields_onlyRegs _ _) CTX.TRACE_CTRL.ERR c 0 ?_ (nomatch ·)) hregs
      exact List.mem_singleton.mpr rfl
  case twinArm =>
    intro s c k hcmd hop htwin ht hroom
    generalize hrc : (if s.armEarly c = 0 then 11 else s.armEarly c) = rc
    have hne : rc ≠ 0 := by
      rw [← hrc]
      split
      · decide
      · assumption
    have he : execTwinArmTimeout c s = .next ((s.ctxSettle c 2 rc).ctxRefuse c 2 rc) := by
      rw [← State.ctxDone_refused _ _ _ _ hne]
      simp [execTwinArmTimeout, hcmd, hop, htwin, ht, hrc]
    obtain ⟨href, hcode, hctxs, hnoted⟩ := (s.ctxSettle c 2 rc).ctxRefuse_shows c 2 rc
    refine ⟨_, he, href, ?_, ?_, ?_, ?_⟩
    · rw [hcode, ← hrc]
      split <;> rfl
    · exact (State.flag_of_leaves ((s.ctxSettle c 2 rc).ctxRefuse_rd c 2 rc (by decide) (by decide))).trans (s.ctxSettle_busy c 2 rc)
    · rw [State.cx_congr hctxs, State.ctxSettle_cx]
    · have hd : (s.ctxSettle c 2 rc).dtime = s.dtime := by simp [State.ctxSettle]
      have hr : (s.ctxSettle c 2 rc).recd = s.recd := by simp [State.ctxSettle, State.mbSettle]
      rw [← hd]
      refine hnoted ?_
      unfold Room
      rw [hr]
      exact hroom
end Sys2Proof.Machine
end
